-- ==== Sys2Proof/Word.lean ====
section
/-!
DEFINITION. The word types of the TE-9: every register is 32 bits wide (R8), a scheduling time is the
64-bit ST64 of R6, and records are bytes (R553).
-/

namespace Sys2Proof

/-- A register's 32 bits (R8). -/
abbrev Word := BitVec 32

/-- One byte of a record or of a frame (R553). -/
abbrev Byte := BitVec 8

/-- A device time in the ST64 format of R6: units of 2⁻¹⁶ ns modulo 2⁶⁴. -/
abbrev St64 := BitVec 64

end Sys2Proof
end

