-- ==== Sys2Proof/Types.lean ====
section
/-!
DEFINITION. The names that commands and state share: the masters of R12, the services and the modes that
the manual numbers.
-/

namespace Sys2Proof

/-- The eight masters of R12. -/
inductive Master where
  | kc | sc0 | sc1 | sc2 | sc3 | pf1 | pf0 | spi
  deriving DecidableEq, Repr

/-- R12: KC and PF1 form the secure domain. -/
def Master.secure : Master → Bool
  | .kc => true
  | .pf1 => true
  | _ => false

/-- The five cores (R441). -/
def Master.isCore : Master → Bool
  | .kc | .sc0 | .sc1 | .sc2 | .sc3 => true
  | _ => false

/-- Bank of a master among the eight capture and register banks (R40, R294). -/
def Master.bank : Master → Nat
  | .kc => 0 | .sc0 => 1 | .sc1 => 2 | .sc2 => 3 | .sc3 => 4 | .pf1 => 5 | .pf0 => 6 | .spi => 7

/-- The core's index in MBX_CORE_STAT: SC0–SC3 are 0–3 and KC is 4. -/
def Master.core : Master → Option Nat
  | .sc0 => some 0 | .sc1 => some 1 | .sc2 => some 2 | .sc3 => some 3 | .kc => some 4
  | _ => none

/-- The master ID of R460. -/
def Master.ident : Master → Nat
  | .kc => 1 | .sc0 => 2 | .sc1 => 3 | .sc2 => 4 | .sc3 => 5 | .pf1 => 6 | .pf0 => 7 | .spi => 8

/-- A recipe slot's header in the layout of R470. -/
structure SlotHeader where
  magic : Nat
  format : Nat
  hdrLen : Nat
  totalLen : Nat
  seq : Nat
  secVer : Nat
  flags : Nat
  timeFloor : Nat
  keyIdx : Nat
  oscFreq : Nat
  dirOfs : Nat
  dirCount : Nat
  recipeId : List Word
  deriving DecidableEq, Repr

/-- A directory entry of a slot (R470). -/
structure DirEntry where
  type : Nat
  critical : Bool
  offset : Nat
  length : Nat
  deriving DecidableEq, Repr

/-- What the read of a whole slot yields (R472): whether the flash read completed, the signature block's
magic, the SHA-384 hash of the public key it holds, whether the signature verifies, and the directory. -/
structure SlotImage where
  readOk : Bool
  sigMagic : Nat
  keyHash : Nat
  sigOk : Bool
  dir : List DirEntry
  deriving DecidableEq, Repr

/-- An Efesk bundle's header (R471), the TYPE of the section that holds it, whether its signature verifies
under the Efesk key, and the SHA-384 hash of its payload. -/
structure EfeskBundle where
  sectionType : Nat
  magic : Nat
  kind : Nat
  version : Word
  minRev : Nat
  secVer : Nat
  sigOk : Bool
  payloadHash : Nat
  deriving DecidableEq, Repr

/-- A LEAP section (R474). -/
structure LeapSection where
  offset : Int
  pending : Bool
  delete : Bool
  leapAt : Nat
  deriving DecidableEq, Repr

/-- A fuse operation of R475. -/
inductive FuseOp where
  | raiseSecVer
  | revoke (slot : Nat)
  deriving DecidableEq, Repr

/-- A word of an on-chip memory, by the regions of R506, with the instance and the item that hold it. -/
inductive EccMem where
  | cluster (k : Fin 32)
  | cell (k : Fin 32) (c : Fin 16)
  | cellUcode (k : Fin 32)
  | client (entry : Nat)
  | calendar (n : Fin 8) (id : Nat)
  | bestEffort (n : Fin 8) (pos : Nat)
  | twoCopies
  | symKey (id : Nat)
  | annexKey (idx : Nat)
  | keySlot (i : Fin 256)
  | operand (i : Fin 8)
  | pkeUcode (i : Fin 8)
  | coreMem (c : Fin 5)
  | image (c : Fin 5)
  | grant (idx : Nat)
  | history (age : Nat)
  | timQueue (k : Fin 8) (pos : Nat)
  | tsq (n : Fin 8) (pos : Nat)
  | mailbox (c : Fin 19)
  deriving DecidableEq, Repr

/-- What the scrubber or a check finds (R505, R506, R512, R515): a corrected word, an uncorrectable one, a parity error in
a departure scheduler's pointers, a voted copy that disagrees, or two copies of a DPLL computation that differ. -/
inductive MemFault where
  | corrected
  | uncorrectable (m : EccMem)
  | pointers (n : Fin 8)
  | voted
  | compare (x : Fin 4)
  deriving DecidableEq, Repr

/-- How a received frame presents itself to the classifier (R79, R92). -/
inductive FrameKind where
  | udp4 | udp6 | ptpL2 | esmc | arp | tcp4460 | pause | other
  deriving DecidableEq, Repr

/-- A received frame: what the port and the classifier read of it. `capture` is the capture time C_in of
R59 and R61 in units of 2⁻¹⁶ ns ÷ 1000 of DT, so that 1 ps is 65,536 units; `lane` is the logical lane of
its SFD. `ui` is the place of the first bit after the SFD in the parallel word in which the PCS finds it, in unit
intervals (R59). `svcAddr` is the index of the service address it is addressed to, if it is addressed to one.
An ARP or neighbour discovery frame
counts as addressed to the service address that it asks for (R79).
`payload` is the UDP payload, or the PTP message of an L2 frame; `udpLen` is the UDP length field. `src` and
`dst` hold an IPv4 address in its IPv4-mapped form ::FFFF:a.b.c.d (R94). -/
structure Frame where
  lane : Nat
  capture : Nat
  len : Nat
  vlans : Nat
  tci : Nat
  kind : FrameKind
  fragment : Bool
  fcsGood : Bool
  srcMac : Nat
  dstMac : Nat
  src : BitVec 128
  dst : BitVec 128
  svcAddr : Option Nat
  sport : Nat
  dport : Nat
  udpLen : Nat
  payload : List Byte
  ui : Nat := 0
  deriving DecidableEq, Repr

/-- The receive and transmit sweeps of a link-up calibration (R67, R68): the values in ps, whether every
swept value had a residual of at most 10 ps rms, the skews, and the phase of the emission grid. -/
structure CalResult where
  rx : Int
  tx : Int
  residualOk : Bool
  skews : List Int
  gridPhase : Nat
  deriving DecidableEq, Repr

/-- A transmit descriptor (R81) with the frame bytes it points to. -/
structure TxDesc where
  len : Nat
  tag : Nat
  tsReq : Bool
  bytes : List Byte
  deriving DecidableEq, Repr

/-- The services of R92, with the path that R93 and the port's AUTH choose (R103). -/
inductive Path where
  | plain | cmac | nts | ptp | ptpAuth | sync | syncAuth | roughtime
  deriving DecidableEq, Repr

/-- Index of a path's service among hop limits and aggregate limiters: plain, AES-CMAC, NTS, PTP, Roughtime in
CLS_STEAL_HOPS order. -/
def Path.hopIdx : Path → Nat
  | .plain => 0 | .cmac => 1 | .nts => 2 | .ptp => 3 | .ptpAuth => 3 | .sync => 3 | .syncAuth => 3
  | .roughtime => 4

/-- An NTP path (R93). -/
def Path.isNtp : Path → Bool
  | .plain | .cmac | .nts => true
  | _ => false

/-- Index of a path's aggregate limiter (R177, R204, R236). -/
def Path.aggIdx : Path → Nat
  | .plain => 0 | .cmac => 1 | .nts => 2 | .roughtime => 3 | _ => 4

/-- Bit of a path in a rule's SVC field (R173). -/
def Path.svcBit : Path → Nat
  | .plain => 0 | .cmac => 1 | .nts => 2 | .roughtime => 3 | _ => 4

/-- What a navigation unit that passes its check adds (R380, R381, R395): the frame and time of week, a part of an
ephemeris set with the number of its parts, its issue and its reference time as a DT second, UTC parameters with the
leap count as TAI − UTC and an announced leap as its LEAP_AT and whether it deletes, or almanac data. -/
inductive NavUnit where
  | tow
  | ephemeris (part total issue toe : Nat)
  | utc (count : Int) (leap : Option (Nat × Bool))
  | almanac
  deriving DecidableEq, Repr

/-- What the correlators and the firmware measure of a channel at an epoch (R379, R382, R408): C/N0 in 1/16 dB-Hz,
Doppler in mHz, the multipath metrics in 1/256, elevation and azimuth in degrees, the post-fit residual in cm. -/
structure GnssMeas where
  ch : Fin 64
  cn0A : Nat
  cn0B : Nat
  doppA : Int
  doppB : Int
  mpA : Nat
  mpB : Nat
  elev : Int
  azim : Nat
  resid : Int
  deriving DecidableEq, Repr

/-- What a least-squares fit of an epoch yields (R383–R385): the RMS post-fit residual in units of 0.1 m, the channel of the
largest normalised residual, b in ps and its rate in ps per second, TUNC in ps, TDOP and PDOP in hundredths, the
position solved for and the free position of R390, in cm. -/
structure GnssFit where
  rms : Nat
  worst : Fin 64
  bias : Int
  rate : Int
  tunc : Nat
  tdop : Nat
  pdop : Nat
  pos : Int × Int × Int
  free : Int × Int × Int
  deriving DecidableEq, Repr

/-- The cipher suites of TLS 1.3 that the NTS-KE server accepts, and any other (R192). -/
inductive TlsSuite where
  | aes128Gcm | aes256Gcm | chacha20 | other
  deriving DecidableEq, Repr

/-- The key-exchange groups that the NTS-KE server accepts, and any other (R192). -/
inductive TlsGroup where
  | x25519 | secp256r1 | secp384r1 | other
  deriving DecidableEq, Repr

/-- The signature schemes that the NTS-KE server can use, and any other (R192). -/
inductive TlsScheme where
  | ed25519 | ecdsaP256 | ecdsaP384 | rsaPss | other
  deriving DecidableEq, Repr

/-- Edges of one polarity at a reference input: the last of them sets the level `high`, and `more` of them came before it since the
command before, which only a frequency input has (R299, R301). -/
structure EdgeRun where
  high : Bool
  more : Nat := 0
  deriving DecidableEq, Repr

/-- A side peak (R379): the channel, and whether |VL| is the larger of |VE| and |VL|. -/
structure SidePeak where
  chan : Fin 64
  late : Bool
  deriving DecidableEq, Repr

/-- What a ClientHello offers (R192): TLS 1.3 or not, the ALPN names, the cipher suites, the groups, the groups of its key
shares and the signature schemes, each in the client's order, and `again`, the groups of the key shares that the client
sends when a HelloRetryRequest asks for one. -/
structure TlsHello where
  tls13 : Bool
  alpn : List (List Byte)
  suites : List TlsSuite
  groups : List TlsGroup
  shares : List TlsGroup
  schemes : List TlsScheme
  again : List TlsGroup
  deriving DecidableEq, Repr

end Sys2Proof
end

