-- ==== Sys2Proof/Syntax.lean ====
section
/-!
DEFINITION. The commands of the TE-9, one constructor per row of the opcode table. A command carries what it brings from outside:
the master and the value of an access, the frame or edge at a pin, the instant or the verdict that the manual leaves to the
world.
-/

namespace Sys2Proof



/-- A command of the TE-9: a row of the opcode table with its operands. -/
inductive Instr where
  /-- REGISTER_WRITE (R9): A write to a register that has no row of its own takes effect according to the access type of each field. -/
  | registerWrite (m : Master) (addr : BitVec 26) (width : Nat) (be : BitVec 8) (data : BitVec 64)
  /-- POWER_GOOD (R529): Core power-good is asserted 2 ms after the last core rail enters its tolerance. -/
  | powerGood (fsel : Fin 8)
  /-- POWER_FAIL (R529): A core rail falls more than 5 % below nominal; power-good is deasserted and the core domain is reset. -/
  | powerFail
  /-- RESET_N_ASSERT (R529): RESET_N held low for at least 1 µs resets the core domain. -/
  | resetNAssert
  /-- RESET_N_RELEASE (R465): RESET_N is released; together with power-good it defines t0 and starts the start-up sequence. -/
  | resetNRelease (fsel : Fin 8)
  /-- PERST_N (R529): PERST_N resets only the PCIe endpoint, with the mailbox effect of a PCIe link down. -/
  | perstN
  /-- PCIE_FUNCTION_RESET (R453): A function-level reset, hot reset or PCIe link down resets the mailbox ends of PF0 and PF1. -/
  | pcieFunctionReset (pf0 pf1 : Bool)
  /-- VBAT_LOW (R532): VBAT falls below 1.9 V; RTC_VALID, LEAP_VALID and the holdover average valid bit clear and the bypass switch opens. -/
  | vbatLow
  /-- APLL0_LOCK (R327): APLL0 locks and releases the TBCLK and CCLK dividers on one VCO edge. -/
  | apll0Lock (dur : Nat)
  /-- HEADER_STAGE (R468): The boot ROM reads SFDP and both slot headers and chooses the candidate slot with the greater SEQ. -/
  | headerStage (flash : Nat) (a b : Option SlotHeader) (dur : Nat)
  /-- SLOT_VERIFY (R472): The whole slot is read and hashed and the customer signature is verified. -/
  | slotVerify (img : SlotImage) (dur : Nat)
  /-- EFESK_VERIFY (R471): Each Efesk bundle is verified for kind, signature, revision and anti-rollback version. -/
  | efeskVerify (bundles : List EfeskBundle) (dur : Nat)
  /-- LOAD_STAGE (R465): All memories are zeroed and the microcode and firmware are copied and hashed. -/
  | loadStage (server cert : Option (List Byte)) (readOk : Bool) (dur : Nat)
  /-- CONFIG_STAGE (R470): The CONFIG records are applied to the shadow sets in directory and record order. -/
  | configStage (recs : List (Nat × Word)) (leap : Option LeapSection) (dur : Nat)
  /-- KEYS_STAGE (R473): KC imports the key bundles and key tables in directory order while the service cores start. -/
  | keysStage (keys : List (Bool × List Byte)) (dur : Nat)
  /-- INITIAL_COMMIT (R466): The initial commit makes generation 1 active and marks recipe load. -/
  | initialCommit
  /-- RELOAD (R478): GLB_CMD.RELOAD resets the core domain and reruns start-up from ROM. -/
  | reload (m : Master)
  /-- OTP_RAISE_SEC_VER (R475): The command starts a fuse operation that raises SEC_VER_MIN to the running recipe's SEC_VER. -/
  | otpRaiseSecVer (m : Master)
  /-- OTP_REVOKE (R475): The command starts a fuse operation that revokes a customer key-hash slot other than the running one. -/
  | otpRevoke (m : Master) (key : Fin 4)
  /-- OTP_FUSE_DONE (R475): A 10 ms fuse operation completes and GLB_OTP_STAT.BUSY clears. -/
  | otpFuseDone
  /-- BYPASS_OPEN (R535): After SERVING, once CASC_IN has been low for 100 ms, the CASC_OUT driver is enabled and the switch opens. -/
  | bypassOpen
  /-- BYPASS_OPEN_FORCED (R535): The switch opens at the 2 s limit after SERVING and OPEN_FORCED is set. -/
  | bypassOpenForced
  /-- COMMIT_NOW (R483): CFG_CMD.COMMIT_NOW places a commit edge 16 CCLK later, or is merged into or refused by a pending commit. -/
  | commitNow
  /-- COMMIT_SCHEDULE (R483): CFG_CMD.SCHEDULE arms CS036 at CFG_AT and may set LOCKED. -/
  | commitSchedule
  /-- COMMIT_CANCEL (R483): CFG_CMD.CANCEL disarms CS036 and clears LOCKED. -/
  | commitCancel
  /-- CONFIG_REVERT (R481): CFG_CMD.REVERT copies every active value into the shadow set unless the configuration is locked. -/
  | configRevert
  /-- COMMIT (R484): At the commit edge all shadow sets are copied into the active sets and CFG_GEN is incremented. -/
  | commit
  /-- RETIRING_RELEASE (R486): The retiring set is released once no item of its generation remains. -/
  | retiringRelease
  /-- RETIRING_LIMIT (R486): At 200 µs after t_c the retiring set is released and its remaining items are dropped. -/
  | retiringLimit
  /-- RWL_EFFECT (R487): A written RWL value such as an asymmetry takes effect at the 8th CCLK edge after acceptance. -/
  | rwlEffect
  /-- DT_CAPTURE (R41): A read of TSC_DT_FRAC or TSC_ST64_LO captures DT96 and ST64 into the reading master's capture set. -/
  | dtCapture (m : Master) (st wide : Bool)
  /-- TIME_PORT_LOAD (R43): A core load from its local time port returns the DT96 of the most recent TBCLK edge. -/
  | timePortLoad (c : Fin 5)
  /-- DT_SECOND_BOUNDARY (R44): At each DT second boundary the per-second bookkeeping of the backup counter, leap slot and holdover runs. -/
  | dtSecondBoundary
  /-- LEAP_HOST_INSERT (R52): A host command sets a pending inserted leap at the staged LEAP_AT after validation. -/
  | leapHostInsert
  /-- LEAP_HOST_DELETE (R52): A host command sets a pending deleted leap at the staged LEAP_AT after validation. -/
  | leapHostDelete
  /-- LEAP_HOST_CANCEL (R52): A host command cancels the pending leap and releases it to the GNSS and recipe sources. -/
  | leapHostCancel
  /-- LEAP_FREEZE (R22): At LEAP_AT − 60 s FROZEN becomes 1 and the pending leap can no longer change. -/
  | leapFreeze
  /-- LEAP_APPLY (R23): CS037 fires, OFFSET becomes NEW_OFFSET, the pending leap clears and EV014 is raised. -/
  | leapApply
  /-- CS_ARM (R31): TSC_CS_CTRL.ARM copies the staged time and period into the comparator or is refused. -/
  | csArm (m : Master) (i : Fin 256) (ctrl : Word)
  /-- CS_DISARM (R32): TSC_CS_CTRL.DISARM clears ARMED. -/
  | csDisarm (m : Master) (i : Fin 256) (ctrl : Word)
  /-- COMPARE_SLOT_FIRE (R30): A general slot reaches its time and takes its MARK, EVENT, SNAP_CNT or TIM_ARM action. -/
  | compareSlotFire (i : Fin 128)
  /-- FIRMWARE_SLOT_FIRE (R28): A firmware slot fires for its owning core's scheduled task. -/
  | firmwareSlotFire (i : Fin 32)
  /-- SIGNAL_DETECT (R67): Signal is detected on all lanes of the mode; inputs are isolated and the receive sweep starts. -/
  | signalDetect (n : Fin 8) (lanes : Fin 256)
  /-- RX_SWEEP_DONE (R67): The 0.8 ms receive injection sweep ends and training starts. -/
  | rxSweepDone (n : Fin 8)
  /-- PCS_LINK_UP (R67): PCS link status becomes true and the calibration check starts. -/
  | pcsLinkUp (n : Fin 8)
  /-- LINK_UP (R67): The calibration check ends, calibration values are loaded and the port goes UP. -/
  | linkUp (n : Fin 8) (c : CalResult)
  /-- LINK_DOWN (R71): Loss of block lock, FEC alignment or signal detect takes the port down and drops its pending traffic. -/
  | linkDown (n : Fin 8) (lanes : Fin 256)
  /-- CAL_RETRY (R69): PRT_CTRL.CAL_RETRY takes the link down at once and restarts link-up calibration. -/
  | calRetry (n : Fin 8)
  /-- CAL_TRACK (R70): Once per second the port re-measures drift and adjusts CAL_RX, CAL_TX and SKEW. -/
  | calTrack (n : Fin 8) (rx tx : Int) (skews : List Int)
  /-- FRAME_INGRESS (R63): A received frame is stamped, filtered and classified to a cell queue or the slow path. -/
  | frameIngress (n : Fin 8) (f : Frame) (corr : Nat) (uncorr : List Nat)
  /-- FCS_VERDICT (R99): The FCS verdict arrives; a good frame's entry becomes eligible and a bad one is squashed in the queue. -/
  | fcsVerdict (id : Nat)
  /-- ESMC_PDU_RECEIVED (R77): Firmware records a received ESMC SSM code and reports changes. -/
  | esmcPduReceived (n : Fin 8) (ssm : Fin 16) (essm : Option (Fin 256))
  /-- ESMC_TIMEOUT (R77): Five seconds without a valid PDU set TIMEOUT and QL-FAILED. -/
  | esmcTimeout (n : Fin 8)
  /-- ESMC_INFO_SEND (R78): Firmware sends an information PDU on each enabled port once per second. -/
  | esmcInfoSend
  /-- ESMC_EVENT_SEND (R78): Firmware sends an event PDU within 10 ms of a transmitted QL change. -/
  | esmcEventSend
  /-- HOST_TX_PRODUCE (R80): PF0 advances PRT_HTX_PROD to hand new transmit descriptors to the port. -/
  | hostTxProduce (n : Fin 8) (idx : Fin 4096)
  /-- HOST_TX_DESCRIPTOR (R81): A fetched transmit descriptor is queued as a best-effort frame or consumed without sending. -/
  | hostTxDescriptor (n : Fin 8) (d : TxDesc)
  /-- HOST_RX_POST (R80): PF0 advances PRT_HRX_PROD to post receive buffers. -/
  | hostRxPost (n : Fin 8) (idx : Fin 4096) (bufs : List (Nat × Nat))
  /-- TSQ_POP (R83): A read of PRT_TSQ_POP removes and latches the oldest transmit stamp entry. -/
  | tsqPop (n : Fin 8)
  /-- CELL_DISPATCH (R100): A free cell takes the oldest priority or eligible queue entry and starts its path. -/
  | cellDispatch (k : Fin 32)
  /-- CELL_SQUASH (R104): A verdict calling for no reply or an unauthenticated kiss squashes the speculative work. -/
  | cellSquash (k : Fin 32) (c : Fin 16)
  /-- CELL_COMMIT (R106): The finished reply passes to the departure hand-off and post-commit work runs. -/
  | cellCommit (k : Fin 32) (c : Fin 16)
  /-- CALENDAR_ARRIVAL (R142): A committed frame reaches its port calendar and is admitted, returned or dropped. -/
  | calendarArrival (n : Fin 8)
  /-- FRAME_RETURN (R145): A returned frame reaches the priority queue of the cluster that composed it. -/
  | frameReturn (k : Fin 32)
  /-- RECOMPOSE (R145): A cell recomposes a returned frame for the smallest passing tier or drops it. -/
  | recompose (k : Fin 32)
  /-- STEAL_REQUEST (R114): A cluster with a short queue asks a neighbour for entries. -/
  | stealRequest (k : Fin 32) (d : Fin 4)
  /-- STEAL_ARRIVE (R116): A stolen entry arrives after its hop and joins the stealer's queue. -/
  | stealArrive (k : Fin 32) (eccOk : Bool)
  /-- HOT_TRIP (R119): A cluster queue above TRIP_DEPTH for TRIP_TIME makes the cluster hot. -/
  | hotTrip (k : Fin 32)
  /-- SPRAY_INTERVAL_END (R122): A 10,000 CCLK interval ends and the homed counts are judged for spray exit. -/
  | sprayIntervalEnd
  /-- RESEED_REQUEST (R95): CLS_RESEED.REQ requests a new seed at the next commit. -/
  | reseedRequest
  /-- EPOCH_SWEEP_START (R96): 64 µs after a reseed the old-epoch entries lose validity and the sweep starts. -/
  | epochSweepStart
  /-- EPOCH_SWEEP_DONE (R96): The sweep has invalidated every old-epoch entry. -/
  | epochSweepDone
  /-- CLT_WINDOW_READ (R127): CLT_WIN_CMD.READ copies one client-state entry into the window. -/
  | cltWindowRead
  /-- CLT_FLUSH (R127): CLT_FLUSH.ALL invalidates every entry of the current epoch. -/
  | cltFlush
  /-- GRID_MEASURE (R134): Every 256 CCLK the egress TSU measures the emission grid phase and updates GRID_LOCK. -/
  | gridMeasure (n : Fin 8) (back off : Nat) (displaced jump : Bool)
  /-- FRAME_POUR (R144): The scheduler releases an admitted frame at its t_rel so its SFD crosses the plane at T. -/
  | framePour (n : Fin 8) (dev : Int)
  /-- BE_RELEASE (R150): The head best-effort frame is released once its wire interval is free. -/
  | beRelease (n : Fin 8) (dev : Int)
  /-- BE_RESERVE (R151): A best-effort frame that waited BE_MAX_WAIT gets a wire reservation. -/
  | beReserve (n : Fin 8)
  /-- EHOLD_UPDATE (R347): Each DT millisecond the clock core computes e_hold and advances the pull residual. -/
  | eholdUpdate
  /-- RULE_READ (R172): SRV_RULE_CMD.READ copies an active or shadow rule or broadcast entry into the window. -/
  | ruleRead (active : Bool)
  /-- RULE_WRITE (R172): SRV_RULE_CMD.WRITE copies the window into a shadow rule or broadcast entry or is refused. -/
  | ruleWrite
  /-- SYM_KEY_WRITE (R181): KEY_SYM_CMD.WRITE installs and enables the staged symmetric key. -/
  | symKeyWrite (m : Master) (stat : Bool)
  /-- SYM_KEY_DISABLE (R181): KEY_SYM_CMD.DISABLE clears and wipes a symmetric key entry. -/
  | symKeyDisable (m : Master) (stat : Bool)
  /-- SYM_KEY_STAT (R201): KEY_SYM_CMD.STAT loads the status of the indexed symmetric key entry. -/
  | symKeyStat (m : Master)
  /-- KEY_TABLE_EFFECT (R181): A symmetric or Annex P key write or disable takes effect at the eighth CCLK edge. -/
  | keyTableEffect
  /-- NTS_KEY_INSTALL (R189): KC installs the next NTS master key from the TRNG or an imported bundle. -/
  | ntsKeyInstall (bundle : List Byte)
  /-- NTS_ROTATE (R189): At the rotation time the NTS master-key roles advance by one. -/
  | ntsRotate
  /-- NTS_ROTATE_RETRY (R190): A rotation whose next key is missing is retried every 60 s. -/
  | ntsRotateRetry
  /-- NTS_KEY_WIPE (R189): KC wipes the retired master key 100 µs after the rotation. -/
  | ntsKeyWipe
  /-- NTSKE_CONNECT (R195): A TCP SYN to port 4460 is accepted or refused under the connection limits. -/
  | ntskeConnect (a : BitVec 128) (sc3 : Bool)
  /-- NTSKE_REQUEST (R193): The NTS-KE server handles a client's records and sends its response with eight cookies. -/
  | ntskeRequest (a : BitVec 128) (hello : TlsHello) (finished : Bool) (records : List (Nat × Bool × List Byte)) (exporter : List Byte)
  /-- NTSKE_TIMEOUT (R193): A connection not complete 5 s after the TCP handshake is closed. -/
  | ntskeTimeout
  /-- BROADCAST_SEND (R196): Firmware sends an NTP broadcast packet for a valid entry every 2^POLL s. -/
  | broadcastSend (j : Fin 16)
  /-- CARAFE_CLOSE (R208): A carafe close slot fires and a new carafe opens at the close time. -/
  | carafeClose (k : Fin 32)
  /-- CARAFE_SEAL (R208): The old carafe seals once no earlier-stamped Roughtime request remains in flight. -/
  | carafeSeal (k : Fin 32)
  /-- CARAFE_SEAL_LIMIT (R208): The old carafe seals at t_c + SRV_RT_SEAL. -/
  | carafeSealLimit (k : Fin 32)
  /-- ROOT_COMPLETE (R212): The Merkle root is complete and the carafe enters the signing queue. -/
  | rootComplete (k : Fin 32)
  /-- SIGN_DISPATCH (R216): A queued carafe is dispatched to the first free engine of PKE_MASK. -/
  | signDispatch
  /-- CARAFE_SIGNED (R218): The carafe's signature returns and reply emission begins. -/
  | carafeSigned (k : Fin 32)
  /-- CARAFE_SIGN_STALE (R216): A carafe unsigned SIGN_MAX ms after its seal is discarded. -/
  | carafeSignStale
  /-- RT_REPLY_EMIT (R218): Every 16 CCLK one Roughtime reply is composed and handed to the port. -/
  | rtReplyEmit (k : Fin 32)
  /-- DELE_FIRST (R220): At first alignment KC generates an online key and firmware builds the first delegation. -/
  | deleFirst
  /-- DELE_PREPARE (R220): From 600 s before the switch, firmware prepares the next online key and delegation. -/
  | delePrepare
  /-- DELE_SWITCH (R220): At the switch time the new online key takes over. -/
  | deleSwitch
  /-- DELE_RETRY (R220): A late next delegation is retried every 60 s. -/
  | deleRetry
  /-- DELE_EXPIRE (R220): DT reaches MAXT without a successor and carafes are discarded. -/
  | deleExpire
  /-- SYNC_MC_FIRE (R229): A multicast Sync slot fires, creates a Sync item and re-arms. -/
  | syncMcFire (n : Fin 8)
  /-- SYNC_UC_TICK (R232): A unicast Sync wheel tick fires and builds the tick list. -/
  | syncUcTick (n : Fin 8)
  /-- SYNC_UC_ITEM_ISSUE (R232): A unicast Sync item is placed in its home cluster's priority queue. -/
  | syncUcItemIssue (n : Fin 8)
  /-- ANNOUNCE_SEND (R238): Firmware sends an Announce with the current clock quality. -/
  | announceSend (n : Fin 8) (grant : Option (Fin 65536))
  /-- FOREIGN_ANNOUNCE (R225): An Announce in the grandmaster domain is recorded as a foreign master. -/
  | foreignAnnounce (n : Fin 8) (payload : List Byte)
  /-- UNICAST_REQUEST (R244): Firmware grants or denies a REQUEST_UNICAST_TRANSMISSION TLV. -/
  | unicastRequest (n : Fin 8) (f : Frame)
  /-- UNICAST_CANCEL (R245): A CANCEL_UNICAST_TRANSMISSION ends a grant and is acknowledged. -/
  | unicastCancel (n : Fin 8) (f : Frame)
  /-- GRANT_EXPIRE (R245): A grant reaches its duration and expires. -/
  | grantExpire (i : Fin 65536) (type : Fin 16)
  /-- GRANT_EFFECT (R245): A grant entry change takes effect at the eighth CCLK edge after the write. -/
  | grantEffect
  /-- GRANT_READ (R258): SRV_PTP_GR_CMD.READ copies a grant entry into the window. -/
  | grantRead
  /-- PTP_KEY_WRITE (R247): KEY_PTP_CMD.WRITE installs the staged Annex P key or is refused for a duplicate pair. -/
  | ptpKeyWrite (m : Master) (stat : Bool)
  /-- PTP_KEY_DISABLE (R247): KEY_PTP_CMD.DISABLE clears and wipes an Annex P key entry. -/
  | ptpKeyDisable (m : Master) (stat : Bool)
  /-- PTP_KEY_STAT (R247): KEY_PTP_CMD.STAT loads the status of the indexed Annex P entry. -/
  | ptpKeyStat (m : Master)
  /-- CLIENT_MESSAGE (R252): A PTP message for an upstream client instance is processed into an exchange. -/
  | clientMessage (i : Fin 2) (f : Frame)
  /-- CLIENT_DELAY_REQ (R249): A client instance sends a Delay_Req. -/
  | clientDelayReq (i : Fin 2)
  /-- CLIENT_GRANT_RENEW (R249): A client instance renews a grant when half of it has elapsed. -/
  | clientGrantRenew (i : Fin 2) (j : Fin 3) (type : Fin 16)
  /-- CLIENT_RETRY (R249): After a denial or 1 s without answer, the client retries every 10 s. -/
  | clientRetry (i : Fin 2)
  /-- CLIENT_ANNOUNCE_TIMEOUT (R250): The announce receipt timeout moves the client to LISTENING. -/
  | clientAnnounceTimeout (i : Fin 2)
  /-- CLIENT_SYNC_TIMEOUT (R250): Three Sync intervals without a valid Sync move the client to LISTENING. -/
  | clientSyncTimeout (i : Fin 2)
  /-- PKE_JOB_GO (R278): PKE_JOB_GO submits the staged descriptor and sets the submission result. -/
  | pkeJobGo (i : Fin 8) (m : Master)
  /-- PKE_JOB_START (R280): An engine starts its next pending job with the slot check. -/
  | pkeJobStart (i : Fin 8) (input : List Byte) (dma : Nat) (trngOk : Bool)
  /-- PKE_JOB_COMPLETE (R282): A job's count ends and its completion record is queued. -/
  | pkeJobComplete (i : Fin 8) (fault : Bool)
  /-- PKE_WIPE_DONE (R261): A 2,048 CCLK full wipe ends and CLEAN is set. -/
  | pkeWipeDone (i : Fin 8)
  /-- PKE_CPL_POP (R282): A read of PKE_CPL_POP removes the master's oldest completion record. -/
  | pkeCplPop (i : Fin 8) (m : Master)
  /-- PKE_ABORT (R284): PKE_ABORT aborts a matching running or pending job. -/
  | pkeAbort (i : Fin 8) (m : Master) (tag : Fin 256) (owner : Fin 64) (begun : Bool)
  /-- PKE_DMA_ERROR (R281): A host-memory DMA error ends the job with E_DMA. -/
  | pkeDmaError (i : Fin 8) (output : Option Nat)
  /-- PKE_JOB_TIMEOUT (R510): A job still running 1,024 CCLK past its count ends with E_FAULT. -/
  | pkeJobTimeout (i : Fin 8)
  /-- KEY_SLOT_READ_ATTR (R287): KEY_SLOT_CMD.READ_ATTR loads the indexed slot's attributes. -/
  | keySlotReadAttr (m : Master)
  /-- KEY_SLOT_DELETE (R289): KEY_SLOT_CMD.DELETE wipes the indexed slot. -/
  | keySlotDelete (m : Master)
  /-- KEY_SLOT_READ_PUB (R286): KEY_SLOT_CMD.READ_PUB copies a slot's public part into KEY_SLOT_PUB. -/
  | keySlotReadPub (m : Master)
  /-- KEY_SLOT_EXPIRE (R289): At NOT_AFTER KC wipes the slot. -/
  | keySlotExpire (i : Fin 256)
  /-- REF_EDGE (R302): An edge on a REFIN is stamped and accepted into or rejected from the pulse window. -/
  | refEdge (input : Fin 9) (at25 : Nat) (run : EdgeRun)
  /-- PULSE_MISSING (R302): An expected pulse has no accepted edge by the window end. -/
  | pulseMissing (m : Fin 13)
  /-- ACTIVITY_WINDOW (R301): A frequency-input activity window ends and its edge count is judged. -/
  | activityWindow (m : Fin 8) (more : Nat)
  /-- FREQ_CHECK (R304): The frequency offset of a reference is measured and judged against its limits. -/
  | freqCheck (m : Fin 13) (df : Int)
  /-- TOD_FRAME (R300): A time-of-day frame is received and labels its pulse. -/
  | todFrame (cascade : Bool) (bytes : List Byte)
  /-- WTR_EXPIRE (R309): A reference completes wait-to-restore and becomes QUALIFIED. -/
  | wtrExpire (m : Fin 13)
  /-- CLEAR_WTR (R310): REF_CMD.CLEAR_WTR ends a reference's WTR at the next edge. -/
  | clearWtr (by_ : Master) (mask : BitVec 13)
  /-- XCHECK (R312): Once per second every eligible pair of references is compared. -/
  | xcheck
  /-- SELECTOR_EVALUATE (R318): The selector re-evaluates after a monitor change or commit. -/
  | selectorEvaluate
  /-- OSC_LOSS (R328): OSCIN is declared lost; APLL0 holds and e_hold is forced to maximum. -/
  | oscLoss
  /-- APLL_UNLOCK (R513): A loop of a dual PLL loses lock. -/
  | apllUnlock (p : Fin 3) (active : Bool)
  /-- DPLL0_SAMPLE (R331): DPLL0 takes a phase-error sample and updates its loop and F. -/
  | dpll0Sample (phase25 : Int)
  /-- DPLL0_STEP_CMD (R338): CLK_DPLL0_CMD.STEP steps DT under COMMAND policy or sets STEP_REFUSED. -/
  | dpll0StepCmd (by_ : Master)
  /-- HIST_READ (R339): A write of CLK_HIST_IDX copies a history sample into CLK_HIST_DATA. -/
  | histRead (age : Fin 65536)
  /-- PPS_PULSE (R351): A PPSOUT slot fires and places a pulse at the OT second. -/
  | ppsPulse (k : Fin 4)
  /-- TODOUT_FRAME (R352): CS046 starts a time-of-day frame on TODOUT. -/
  | todoutFrame
  /-- CASC_PULSE (R355): CS047 places the CASC_OUT pulse before each OT second. -/
  | cascPulse
  /-- CASC_FRAME (R355): At OT second + 500 ms the binary frame is sent on CASC_OUT. -/
  | cascFrame
  /-- STEER_WRITE (R360): Every PERIOD in LOCKED a new code is written to the oscillator DAC. -/
  | steerWrite
  /-- STEER_SETTLE (R360): SETTLE ms after the write, y_int is compensated into y_osc. -/
  | steerSettle
  /-- STEER_BUS_TIMEOUT (R361): A busy bus for 10 ms or a NACK counts a steering failure. -/
  | steerBusTimeout
  /-- TEMP_READ (R361): Once per second the temperature sensor is read into CLK_TEMP. -/
  | tempRead (value : BitVec 16)
  /-- GS_CLK_FAIL (R370): The GNSS sample clock fails and every tracker goes to REACQ. -/
  | gsClkFail
  /-- SAMPLE_OK_RESTORE (R370): After 100 passing milliseconds SAMPLE_OK is set again. -/
  | sampleOkRestore
  /-- ACQ_DETECT (R374): The acquisition engine verifies a detection and hands it to a channel. -/
  | acqDetect (c : Fin 64) (const : Fin 3) (prn : Fin 64) (cn0 : Nat) (dopp : Int)
  /-- TRACKER_LOCK (R377): A tracker achieves bit or secondary-code synchronisation and enters LOCKED. -/
  | trackerLock (c : Fin 64) (b bandB : Bool)
  /-- TRACKER_B_RETRY (R375): Tracker B retries every 10 s while tracker A stays LOCKED. -/
  | trackerBRetry (c : Fin 64)
  /-- TRACKER_DROP (R377): A tracker below CN0_DROP or phase lock for 1 s drops to REACQ. -/
  | trackerDrop (c : Fin 64) (b : Bool)
  /-- SIDE_PEAK_MOVE (R379): A side-peak condition over 100 ms moves the code phase by D_V. -/
  | sidePeakMove (p : SidePeak)
  /-- REACQ_TIMEOUT (R401): After REACQ_TIME the satellite is handed to the acquisition engine. -/
  | reacqTimeout (c : Fin 64) (b : Bool)
  /-- NAV_UNIT (R380): A navigation data unit is decoded and checked. -/
  | navUnit (c : Fin 64) (b good : Bool) (u : NavUnit)
  /-- GNSS_EPOCH (R382): At each DT second the measurements are latched and the time solution is formed. -/
  | gnssEpoch (ms : List GnssMeas) (fits : List GnssFit) (moved : Int)
  /-- EXCLUSION_EXPIRE (R384): A residual exclusion ends after 60 s. -/
  | exclusionExpire (c : Fin 64)
  /-- REFRESH_END (R399): A refresh ends 30 s after the data is decoded or at REFRESH_MAX. -/
  | refreshEnd
  /-- BURST_WINDOW (R398): A burst tracking window opens each second. -/
  | burstWindow (got : List (Fin 64 × Bool))
  /-- RAW_PPS (R392): The raw GNSS PPS is produced at the TBCLK edge nearest the predicted second. -/
  | rawPps
  /-- TMSG_PUBLISH (R393): The GNSS time message is published at second N − 1 + 400 ms. -/
  | tmsgPublish
  /-- TMSG_CAPTURE (R405): A read of GNS_TMSG_HDR captures the latest time message. -/
  | tmsgCapture (m : Master)
  /-- GNSS_RESURVEY (R389): GNS_CMD.RESURVEY starts a new survey. -/
  | gnssResurvey (m : Master)
  /-- GNSS_COLD (R404): GNS_CMD.COLD discards ephemeris, almanac and UTC parameters and restarts acquisition. -/
  | gnssCold (m : Master)
  /-- CH_READ (R408): GNS_CH_CMD.READ copies a channel record into the window. -/
  | chRead
  /-- TIMIN_EDGE (R409): A TIMIN edge passes conditioning and is stamped for the channels. -/
  | timinEdge (j : Fin 16) (at_ : Nat) (rising : Bool) (lasts : Nat)
  /-- TIM_CAL (R414): TIM_CMD.CAL repeats the full code-density calibration. -/
  | timCal
  /-- TIM_CAL_DONE (R414): The stamper calibration ends and its table is accepted or kept. -/
  | timCalDone (bad : BitVec 32)
  /-- TIM_RECAL (R414): Every CAL_PERIOD one stamper is recalibrated. -/
  | timRecal (bad : Bool)
  /-- TIM_ARM (R416): TIM_CH_CMD.ARM arms a channel. -/
  | timArm (k : Fin 8)
  /-- TIM_DISARM (R416): TIM_CH_CMD.DISARM abandons a measurement and idles the channel. -/
  | timDisarm (k : Fin 8)
  /-- TIM_ARM_AT (R421): TIM_CH_CMD.ARM_AT arms the gate slot with the staged time. -/
  | timArmAt (k : Fin 8)
  /-- TIM_GATE_FIRE (R421): A TIM gate slot fires and opens the gate. -/
  | timGateFire (k : Fin 8)
  /-- TIM_WINDOW_END (R418): An interval measurement completes at its window end or last stop. -/
  | timWindowEnd (k : Fin 8)
  /-- TIM_GATE_END (R420): A frequency gate ends and its regression record is written. -/
  | timGateEnd (k : Fin 8)
  /-- TIM_RES_POP (R422): A read of TIM_RES_POP removes the oldest record into the window. -/
  | timResPop (k : Fin 8)
  /-- EVL_ARM (R425): EVL_CMD.ARM checks the staged set, copies it and arms the lane slot. -/
  | evlArm (l : Fin 32)
  /-- EVL_DISARM (R429): EVL_CMD.DISARM stops a lane after any started pulse. -/
  | evlDisarm (l : Fin 32)
  /-- EVL_ARM_ALL (R433): EVL_ARM_ALL arms the selected lanes at one edge. -/
  | evlArmAll (lanes : Word)
  /-- EVL_DISARM_ALL (R433): EVL_DISARM_ALL disarms the selected lanes at one edge. -/
  | evlDisarmAll (lanes : Word)
  /-- EVL_PULSE (R426): A lane places the leading edge of a pulse. -/
  | evlPulse (l : Fin 32)
  /-- EVL_TRAILING_EDGE (R426): A pulse's trailing edge is placed and a finite train may end. -/
  | evlTrailingEdge (l : Fin 32)
  /-- EVL_LEVEL (R430): A LEVEL lane changes its output level at t0. -/
  | evlLevel (l : Fin 32)
  /-- MBX_TX (R448): A write of MBX_TX sends one word into the outbound queue. -/
  | mbxTx (c : Fin 19) (m : Master) (w : Word)
  /-- MBX_RX (R449): A read of MBX_RX pops one word from the inbound queue. -/
  | mbxRx (c : Fin 19) (m : Master)
  /-- MBX_DB_RING (R451): A write of MBX_DB_RING sets bits in the peer's doorbell. -/
  | mbxDbRing (c : Fin 19) (m : Master) (bits : Word)
  /-- MBX_DB_CLEAR (R451): A write of MBX_DB clears doorbell bits. -/
  | mbxDbClear (c : Fin 19) (m : Master) (bits : Word)
  /-- MBX_ACK_WAIT_START (R452): MBX_ACK_WAIT.START starts the acknowledgement timer. -/
  | mbxAckWaitStart (c : Fin 19) (m : Master)
  /-- MBX_ACK_WAIT_CANCEL (R452): MBX_ACK_WAIT.CANCEL clears ACK_WAITING. -/
  | mbxAckWaitCancel (c : Fin 19) (m : Master)
  /-- MBX_ACK_TIMEOUT (R452): The acknowledgement timer expires and ACK_STALL is set. -/
  | mbxAckTimeout (e : Fin 38)
  /-- MBX_EP_RESET (R453): MBX_CMD.EP_RESET resets the writer's channel ends. -/
  | mbxEpReset (m : Master)
  /-- MBX_OPEN (R454): MBX_CMD.OPEN opens the writer's channel ends. -/
  | mbxOpen (m : Master)
  /-- SEM_ACQUIRE (R460): A read of MBX_SEM acquires a free semaphore or reports its holder. -/
  | semAcquire (i : Fin 64) (m : Master)
  /-- SEM_RELEASE (R462): A write of MBX_SEM by the holder releases the semaphore. -/
  | semRelease (i : Fin 64) (m : Master)
  /-- SEM_FORCE (R462): MBX_SEM_FORCE releases a semaphore. -/
  | semForce (i : Fin 64) (m : Master)
  /-- WDT_WARN (R443): Half the watchdog timeout passes and WDT_WARN is set. -/
  | wdtWarn (c : Fin 5)
  /-- WDT_EXPIRE (R443): The watchdog expires and the core is restarted. -/
  | wdtExpire (c : Fin 5)
  /-- CORE_START (R443): A restarted core's firmware runs again after its reload. -/
  | coreStart (c : Fin 5)
  /-- FW_PING (R456): The firmware answers PING with its core version. -/
  | fwPing (c : Fin 9)
  /-- FW_PKE_JOB (R457): The firmware submits a PKE job on behalf of the channel. -/
  | fwPkeJob (c : Fin 9)
  /-- FW_PKE_ABORT (R456): The firmware aborts a job it submitted for the channel. -/
  | fwPkeAbort (c : Fin 9) (begun : Bool)
  /-- FW_KEY_IMPORT (R456): The firmware relays a key bundle import to KC. -/
  | fwKeyImport (c : Fin 9) (bundle : List Byte)
  /-- FW_KEY_DELETE (R456): The firmware relays a key-slot delete to KC. -/
  | fwKeyDelete (c : Fin 9)
  /-- FW_BUF_WRITE (R456): The firmware writes words into the channel's staging buffer. -/
  | fwBufWrite (c : Fin 9)
  /-- FW_BUF_READ (R456): The firmware returns words from the channel's staging buffer. -/
  | fwBufRead (c : Fin 9)
  /-- FW_BACKLOG_SEND (R458): The firmware sends backlogged messages as queue space appears. -/
  | fwBacklogSend (c : Fin 9)
  /-- EVT_STAT_CLEAR (R490): A W1C write of EVT_STAT clears event bits. -/
  | evtStatClear (m : Master) (g : Fin 8) (bits : Word)
  /-- EVT_MASK_WRITE (R493): A write of EVT_MASK changes which events are pending. -/
  | evtMaskWrite (m : Master) (g : Fin 8) (v : Word)
  /-- EVT_FORCE (R496): A write of EVT_FORCE raises the named event. -/
  | evtForce (m : Master) (e : Fin 256)
  /-- MSIX_UNMASK (R493): Enabling and unmasking MSI-X sends the messages of pending vectors. -/
  | msixUnmask (pf1 enable funMask : Bool) (masked : BitVec 24)
  /-- CNT_LO_READ (R501): A read of CNT_LO returns the low bits and latches the high bits. -/
  | cntLoRead (m : Master) (n : Fin 64) (wide : Bool)
  /-- CNT_LO_WRITE (R502): A write of CNT_LO stages 32 bits for a counter load. -/
  | cntLoWrite (m : Master) (n : Fin 64) (v : Word)
  /-- CNT_HI_WRITE (R502): A write of CNT_HI loads the counter and clears STOPPED. -/
  | cntHiWrite (m : Master) (n : Fin 64) (v : Word)
  /-- CNT_SNAP (R503): CNT_CMD.SNAP requests a snapshot 8 CCLK later. -/
  | cntSnap
  /-- CNT_CLEAR_ALL (R502): CNT_CMD.CLEAR_ALL zeroes all 64 counters. -/
  | cntClearAll
  /-- CNT_SNAPSHOT (R503): All 64 counters are copied into the snapshot registers at one edge. -/
  | cntSnapshot
  /-- CNT_LIMIT (R499): A counter reaches its limit and acts by ON_LIMIT. -/
  | cntLimit (n : Fin 64)
  /-- CNT_OVERFLOW (R500): A counter carries out of bit 47 and wraps. -/
  | cntOverflow (n : Fin 64)
  /-- PATROL_SCRUB (R505): The patrol scrubber reads and corrects memory words. -/
  | patrolScrub (f : MemFault)
  /-- CELL_HANG (R507): A cell not finished by its occupancy plus 64 CCLK is hung. -/
  | cellHang (k : Fin 32) (c : Fin 16)
  /-- CLUSTER_STALL (R508): The cluster watchdog finds no dispatch for CLU_WDT µs. -/
  | clusterStall (k : Fin 32)
  /-- PARTITION_REBIND_DONE (R508): The partition rebind ends and CLS_HOME_MAP is rewritten. -/
  | partitionRebindDone (k : Fin 32)
  /-- FATAL_FAULT (R514): An uncovered fault stops dispatch and forces e_hold to maximum. -/
  | fatalFault
  /-- BAD_ACCESS_READ (R11): A read that is misaligned, of another width, unmapped, secure-refused or outside GLB before the initial commit returns zeros and raises EV000, a G0 event or a G6 event. -/
  | badAccessRead (m : Master) (addr : BitVec 26) (width : Nat)
  /-- BACKUP_COUNTER_TICK (R44): At each XTAL32 crystal period the backup counter's sub-second count advances and carries into its seconds, with or without core power. -/
  | backupCounterTick
  /-- VBAT_RESTORE (R532): The backup domain becomes supplied again: VBAT_OK is set and the bypass switch conducts again while the core is not serving. -/
  | vbatRestore
  /-- KEY_SLOT_NOT_BEFORE (R288): DT reaches a slot's NOT_BEFORE, the slot goes from PENDING to LOADED and EV201 is raised. -/
  | keySlotNotBefore (i : Fin 256)
  /-- WATCHDOG_RESTART (R443): A core's firmware restarts its watchdog, clearing WDT_WARN and starting the timeout afresh. -/
  | watchdogRestart (c : Fin 5)
  /-- DPLLX_LOCK (R356): DPLL1–DPLL3 achieve lock to their named reference, change CLK_DPLL_STAT.STATE and raise EV051. -/
  | dpllxLock (x : Fin 3)
  deriving DecidableEq, Repr

end Sys2Proof
end

