-- ==== Sys2Proof/Decode.lean ====
section
/-!
DEFINITION. Decoding. The opcode table gives no row any bits: the TE-9 takes commands from its bus, its ports and its pins, and no word of
a memory spells one.
-/

namespace Sys2Proof

/-- The command that a word spells by the table's bits: none, since the table gives bits to no row. -/
def decodeTableWord (_nbits _w : Nat) : Option Instr := none

end Sys2Proof
end

