-- ==== Sys2Proof/Machine/Bits.lean ====
section
/-!
DEFINITION. Bit fields of registers, their signed readings, saturating counters and the signed 64-bit
difference of two ST64 times (R7), which every time comparison of the TE-9 uses.
-/

namespace Sys2Proof.Machine

/-- Field of `w` bits at bit `lo` of a register, as a number. -/
def fld (v : Word) (lo w : Nat) : Nat := (v.toNat >>> lo) % 2 ^ w

/-- A number of `w` bits read as two's complement. -/
def signed (w n : Nat) : Int := if n < 2 ^ (w - 1) then (n : Int) else (n : Int) - 2 ^ w

/-- Field of `w` bits at bit `lo`, read as two's complement. -/
def sfld (v : Word) (lo w : Nat) : Int := signed w (fld v lo w)

/-- Bit `i` of a register. -/
def bitAt (v : Word) (i : Nat) : Bool := v.getLsbD i

/-- The word with only bit `i` set. -/
def bitMask (i : Nat) : Word := BitVec.ofNat 32 (2 ^ i)

/-- The mask of a field of `w` bits at bit `lo`. -/
def fldMask (lo w : Nat) : Word := BitVec.ofNat 32 ((2 ^ w - 1) * 2 ^ lo)

/-- `v` with its field of `w` bits at `lo` replaced by the low `w` bits of `n`. -/
def putFld (v : Word) (lo w n : Nat) : Word :=
  (v &&& ~~~ fldMask lo w) ||| BitVec.ofNat 32 ((n % 2 ^ w) * 2 ^ lo)

/-- `v` with bit `i` set or cleared. -/
def putBit (v : Word) (i : Nat) (b : Bool) : Word :=
  if b then v ||| bitMask i else v &&& ~~~ bitMask i

/-- A Boolean as one bit at position `i` of a number. -/
def bn (b : Bool) (i : Nat := 0) : Nat := if b then 2 ^ i else 0

/-- Two's complement of an integer in `w` bits. -/
def wrap (w : Nat) (i : Int) : Nat := (i % (2 ^ w : Int)).toNat

/-- A signed value held to what `w` bits of two's complement can show. -/
def satSigned (w : Nat) (i : Int) : Int :=
  if i < -(2 ^ (w - 1) : Int) then -(2 ^ (w - 1) : Int)
  else if (2 ^ (w - 1) : Int) - 1 < i then (2 ^ (w - 1) : Int) - 1 else i

/-- The low and the high word of a value kept in two registers. -/
def lo32 (n : Nat) : Word := BitVec.ofNat 32 n
/-- The high word of a value kept in two registers. -/
def hi32 (n : Nat) : Word := BitVec.ofNat 32 (n / 2 ^ 32)

/-- The number two registers hold together. -/
def join32 (lo hi : Word) : Nat := hi.toNat * 2 ^ 32 + lo.toNat

/-- A 32-bit counter that saturates at 0xFFFF_FFFF. -/
def satAdd (v : Word) (n : Nat) : Word := BitVec.ofNat 32 (min (v.toNat + n) (2 ^ 32 - 1))

/-- R7: the signed 64-bit difference `a − b` of two ST64 values. -/
def stDiff (a b : St64) : Int := (a - b).toInt

/-- Division rounded up. -/
def ceilDiv (a b : Nat) : Nat := (a + b - 1) / b

/-- Rounding to the nearest whole number, ties away from zero. -/
def roundDiv (a : Int) (b : Nat) : Int :=
  if a < 0 then -(((-a) * 2 + b) / (2 * b)) else (a * 2 + b) / (2 * b)

/-- Least-significant-byte-first bytes of a number. -/
def leBytes : Nat → Nat → List Byte
  | 0, _ => []
  | k + 1, n => BitVec.ofNat 8 n :: leBytes k (n / 256)

/-- The number that bytes spell, least significant first (R553). -/
def ofLe : List Byte → Nat
  | [] => 0
  | b :: bs => b.toNat + 256 * ofLe bs

/-- The number that bytes spell in network order (R553). -/
def ofBe (bs : List Byte) : Nat := bs.foldl (fun n b => n * 256 + b.toNat) 0

/-- Most-significant-byte-first bytes of a number. -/
def beBytes (k n : Nat) : List Byte := (leBytes k n).reverse

/-- R553: a record's bytes laid into words from byte 0 upward. -/
def wordsOf : List Byte → List Word
  | a :: b :: c :: d :: r => BitVec.ofNat 32 (ofLe [a, b, c, d]) :: wordsOf r
  | [] => []
  | r => [BitVec.ofNat 32 (ofLe r)]

/-- R553: the bytes of a record held in words. -/
def bytesOf (ws : List Word) : List Byte := ws.flatMap (fun w => leBytes 4 w.toNat)

/-- Bytes of an ASCII string. -/
def ascii (t : String) : List Byte := t.toList.map (fun c => BitVec.ofNat 8 c.toNat)

/-- R352, R366: the baud rate of a code. -/
def baudOf (code : Nat) : Nat := [4800, 9600, 19200, 38400, 57600, 115200, 460800, 921600].getD code 4800

end Sys2Proof.Machine
end

