-- ==== Sys2Proof/Machine/Crypto.lean ====
section
/-!
DEFINITION. The cryptographic functions that the manual names by their standards: SipHash-2-4 (R94), SHA-256, SHA-384 and SHA-512 of
FIPS 180-4, HMAC of FIPS 198-1, AES of FIPS 197, AES-CMAC of RFC 4493, AEAD_AES_SIV_CMAC of RFC 5297, AES-256-GCM and the HKDF of
RFC 5869. The definitions are those of the standards (PRESUMED, log entry 7).
-/

namespace Sys2Proof.Machine

/-- A list cut into pieces of `n`, the last one short if need be. -/
def piecesOf (n : Nat) (l : List Byte) : List (List Byte) :=
  (List.range ((l.length + n - 1) / n)).map (fun i => (l.drop (n * i)).take n)

/-- The bytewise sum of two strings, of the length of the shorter. -/
def xorBytes (a b : List Byte) : List Byte := List.zipWith (fun x y => x ^^^ y) a b

/-! ## SipHash-2-4 -/

/-- The four words of SipHash. -/
structure SipVars where
  a : BitVec 64
  b : BitVec 64
  c : BitVec 64
  d : BitVec 64

/-- One SipRound. -/
def SipVars.turn (v : SipVars) : SipVars :=
  let a := v.a + v.b
  let b := v.b.rotateLeft 13 ^^^ a
  let c := v.c + v.d
  let d := v.d.rotateLeft 16 ^^^ c
  let a' := a.rotateLeft 32 + d
  let d' := d.rotateLeft 21 ^^^ a'
  let c' := c + b
  ⟨a', b.rotateLeft 17 ^^^ c', c'.rotateLeft 32, d'⟩

/-- A word of the message. -/
def SipVars.take (v : SipVars) (m : BitVec 64) : SipVars :=
  let u := ({ v with d := v.d ^^^ m } : SipVars).turn.turn
  { u with a := u.a ^^^ m }

/-- SipHash-2-4 of a message under a key whose first byte is its most significant one. -/
@[irreducible] def sipHash24 (key : BitVec 128) (m : List Byte) : BitVec 64 :=
  let k := beBytes 16 key.toNat
  let k0 := BitVec.ofNat 64 (ofLe (k.take 8))
  let k1 := BitVec.ofNat 64 (ofLe (k.drop 8))
  let v : SipVars :=
    ⟨k0 ^^^ 0x736f6d6570736575, k1 ^^^ 0x646f72616e646f6d, k0 ^^^ 0x6c7967656e657261, k1 ^^^ 0x7465646279746573⟩
  let n := m.length / 8
  let v := (List.range n).foldl (fun v i => v.take (BitVec.ofNat 64 (ofLe ((m.drop (8 * i)).take 8)))) v
  let v := v.take (BitVec.ofNat 64 (ofLe (m.drop (8 * n)) + m.length % 256 * 2 ^ 56))
  let u := ({ v with c := v.c ^^^ 0xff } : SipVars).turn.turn.turn.turn
  u.a ^^^ u.b ^^^ u.c ^^^ u.d

/-! ## SHA-2 -/

/-- What differs between SHA-256 and SHA-512: the word and the shifts of the functions Σ₀, Σ₁, σ₀ and σ₁. -/
structure ShaKind where
  word : Nat
  sum0 : Nat × Nat × Nat
  sum1 : Nat × Nat × Nat
  sig0 : Nat × Nat × Nat
  sig1 : Nat × Nat × Nat

/-- SHA-256. -/
def sha256Kind : ShaKind := ⟨32, (2, 13, 22), (6, 11, 25), (7, 18, 3), (17, 19, 10)⟩
/-- SHA-384 and SHA-512. -/
def sha512Kind : ShaKind := ⟨64, (28, 34, 39), (14, 18, 41), (1, 8, 7), (19, 61, 6)⟩

/-- The constants K of SHA-512; those of SHA-256 are the upper halves of the first 64. -/
def shaConstants : List Nat :=
[0x428a2f98d728ae22, 0x7137449123ef65cd, 0xb5c0fbcfec4d3b2f, 0xe9b5dba58189dbbc] ++
  [0x3956c25bf348b538, 0x59f111f1b605d019, 0x923f82a4af194f9b, 0xab1c5ed5da6d8118] ++
  [0xd807aa98a3030242, 0x12835b0145706fbe, 0x243185be4ee4b28c, 0x550c7dc3d5ffb4e2] ++
  [0x72be5d74f27b896f, 0x80deb1fe3b1696b1, 0x9bdc06a725c71235, 0xc19bf174cf692694] ++
  [0xe49b69c19ef14ad2, 0xefbe4786384f25e3, 0x0fc19dc68b8cd5b5, 0x240ca1cc77ac9c65] ++
  [0x2de92c6f592b0275, 0x4a7484aa6ea6e483, 0x5cb0a9dcbd41fbd4, 0x76f988da831153b5] ++
  [0x983e5152ee66dfab, 0xa831c66d2db43210, 0xb00327c898fb213f, 0xbf597fc7beef0ee4] ++
  [0xc6e00bf33da88fc2, 0xd5a79147930aa725, 0x06ca6351e003826f, 0x142929670a0e6e70] ++
  [0x27b70a8546d22ffc, 0x2e1b21385c26c926, 0x4d2c6dfc5ac42aed, 0x53380d139d95b3df] ++
  [0x650a73548baf63de, 0x766a0abb3c77b2a8, 0x81c2c92e47edaee6, 0x92722c851482353b] ++
  [0xa2bfe8a14cf10364, 0xa81a664bbc423001, 0xc24b8b70d0f89791, 0xc76c51a30654be30] ++
  [0xd192e819d6ef5218, 0xd69906245565a910, 0xf40e35855771202a, 0x106aa07032bbd1b8] ++
  [0x19a4c116b8d2d0c8, 0x1e376c085141ab53, 0x2748774cdf8eeb99, 0x34b0bcb5e19b48a8] ++
  [0x391c0cb3c5c95a63, 0x4ed8aa4ae3418acb, 0x5b9cca4f7763e373, 0x682e6ff3d6b2b8a3] ++
  [0x748f82ee5defb2fc, 0x78a5636f43172f60, 0x84c87814a1f0ab72, 0x8cc702081a6439ec] ++
  [0x90befffa23631e28, 0xa4506cebde82bde9, 0xbef9a3f7b2c67915, 0xc67178f2e372532b] ++
  [0xca273eceea26619c, 0xd186b8c721c0c207, 0xeada7dd6cde0eb1e, 0xf57d4f7fee6ed178] ++
  [0x06f067aa72176fba, 0x0a637dc5a2c898a6, 0x113f9804bef90dae, 0x1b710b35131c471b] ++
  [0x28db77f523047d84, 0x32caab7b40c72493, 0x3c9ebe0a15c9bebc, 0x431d67c49c100d4c] ++
  [0x4cc5d4becb3e42b6, 0x597f299cfc657e2a, 0x5fcb6fab3ad6faec, 0x6c44198c4a475817]

/-- The initial hash value of SHA-512; that of SHA-256 is its upper halves. -/
def sha512Init : List Nat :=
  [0x6a09e667f3bcc908, 0xbb67ae8584caa73b, 0x3c6ef372fe94f82b, 0xa54ff53a5f1d36f1] ++
  [0x510e527fade682d1, 0x9b05688c2b3e6c1f, 0x1f83d9abfb41bd6b, 0x5be0cd19137e2179]

/-- The initial hash value of SHA-384. -/
def sha384Init : List Nat :=
  [0xcbbb9d5dc1059ed8, 0x629a292a367cd507, 0x9159015a3070dd17, 0x152fecd8f70e5939] ++
  [0x67332667ffc00b31, 0x8eb44a8768581511, 0xdb0c2e0d64f98fa7, 0x47b5481dbefa4fa4]

/-- Three rotations, summed. -/
def rot3 {w : Nat} (r : Nat × Nat × Nat) (x : BitVec w) : BitVec w :=
  x.rotateRight r.1 ^^^ x.rotateRight r.2.1 ^^^ x.rotateRight r.2.2
/-- Two rotations and a shift, summed. -/
def rot2 {w : Nat} (r : Nat × Nat × Nat) (x : BitVec w) : BitVec w :=
  x.rotateRight r.1 ^^^ x.rotateRight r.2.1 ^^^ (x >>> r.2.2)

/-- The eight working variables, a first. -/
abbrev ShaVars (w : Nat) := List (BitVec w)

/-- One round with the constant `k` and the schedule word `x`. -/
def shaRound (q : ShaKind) (k x : BitVec q.word) : ShaVars q.word → ShaVars q.word
  | [a, b, c, d, e, f, g, h] =>
    let t1 := h + rot3 q.sum1 e + ((e &&& f) ^^^ (~~~ e &&& g)) + k + x
    let t2 := rot3 q.sum0 a + ((a &&& b) ^^^ (a &&& c) ^^^ (b &&& c))
    [t1 + t2, a, b, c, d + t1, e, f, g]
  | v => v

/-- The next sixteen words of the schedule. -/
def shaSlide (q : ShaKind) (l : List (BitVec q.word)) : List (BitVec q.word) :=
  l.drop 1 ++ [rot2 q.sig1 (l.getD 14 0) + l.getD 9 0 + rot2 q.sig0 (l.getD 1 0) + l.getD 0 0]

/-- One block. -/
def shaBlock (q : ShaKind) (ks : List Nat) (h : ShaVars q.word) (m : List Byte) : ShaVars q.word :=
  let w := (piecesOf (q.word / 8) m).map (fun b => BitVec.ofNat q.word (ofBe b))
  let r := ks.foldl (fun (p : ShaVars q.word × List (BitVec q.word)) k =>
    (shaRound q (BitVec.ofNat q.word k) (p.2.getD 0 0) p.1, shaSlide q p.2)) (h, w)
  List.zipWith (fun x y => x + y) h r.1

/-- The hash of a message: its padding and its blocks in order. -/
def shaOf (q : ShaKind) (ks init : List Nat) (m : List Byte) : List Byte :=
  let n := 2 * q.word
  let z := (2 * n - (m.length + 1 + q.word / 4) % n) % n
  let p := m ++ [0x80] ++ List.replicate z 0 ++ beBytes (q.word / 4) (8 * m.length)
  let h := (piecesOf n p).foldl (shaBlock q ks) (init.map (BitVec.ofNat q.word))
  h.flatMap (fun x => beBytes (q.word / 8) x.toNat)

/-- SHA-256 of a message. -/
@[irreducible] def sha256 (m : List Byte) : List Byte :=
  shaOf sha256Kind ((shaConstants.take 64).map (· / 2 ^ 32)) (sha512Init.map (· / 2 ^ 32)) m
/-- SHA-384 of a message. -/
@[irreducible] def sha384 (m : List Byte) : List Byte := (shaOf sha512Kind shaConstants sha384Init m).take 48
/-- SHA-512 of a message. -/
@[irreducible] def sha512 (m : List Byte) : List Byte := shaOf sha512Kind shaConstants sha512Init m

/-- HMAC with a hash of block size `n`. -/
def hmacOf (hash : List Byte → List Byte) (n : Nat) (key m : List Byte) : List Byte :=
  let k := if n < key.length then hash key else key
  let k := k ++ List.replicate (n - k.length) 0
  hash (k.map (· ^^^ 0x5C) ++ hash (k.map (· ^^^ 0x36) ++ m))

/-- HMAC-SHA256 of a message under a 256-bit key. -/
@[irreducible] def hmacSha256 (key : BitVec 256) (m : List Byte) : List Byte := hmacOf sha256 64 (beBytes 32 key.toNat) m

/-- HKDF-SHA-384: keying material, salt, info and the length of the output. -/
@[irreducible] def hkdf384 (ikm salt info : List Byte) (n : Nat) : List Byte :=
  let prk := hmacOf sha384 128 salt ikm
  let t := (List.range ((n + 47) / 48)).foldl (fun (p : List Byte × List Byte) i =>
    let b := hmacOf sha384 128 prk (p.1 ++ info ++ [BitVec.ofNat 8 (i + 1)])
    (b, p.2 ++ b)) ([], [])
  t.2.take n

/-! ## AES -/

/-- The S-box, entry 0 in the least significant byte. -/
def sBoxTable : Nat :=
  0x75b227ebe28012079a059618c323c7041531d871f1e5a534ccf73f362693fdb7c072a49cafa2d4adf04759fa7dc982ca76abd7fe2b670130c56f6bf27b777c63 * 2 ^ 0 +
  0xd2f3ff1021dab6bcf5389d928f40a351a89f3c507f02f94585334d43fbaaefd0cf584c4a39becb6a5bb1fc20ed00d153842fe329b3d63b52a05a6e1b1a2c8309 * 2 ^ 512 +
  0x08ae7a65eaf4566ca94ed58d6d37c8e779e4959162acd3c25c2406490a3a32e0db0b5ede14b8ee4688902a22dc4f816073195d643d7ea7c41744975fec130ccd * 2 ^ 1024 +
  0x16bb54b00f2d99416842e6bf0d89a18cdf2855cee9871e9b948ed9691198f8e19e1dc186b95735610ef6034866b53e708a8bbd4b1f74dde8c6b4a61c2e2578ba * 2 ^ 1536

/-- SubBytes of a byte. -/
def sBox (b : Byte) : Byte := BitVec.ofNat 8 (sBoxTable >>> (8 * b.toNat))

/-- Multiplication by x in the field of AES. -/
def xtime (b : Byte) : Byte := (b <<< 1) ^^^ (if b.getLsbD 7 then 0x1B else 0)

/-- The round constant of a power of x. -/
def rconOf : Nat → Byte
  | 0 => 1
  | n + 1 => xtime (rconOf n)

/-- The expanded key as words of four bytes, from a key of 16 or 32 bytes. -/
def aesExpand (key : List Byte) : List (List Byte) :=
  let nk := key.length / 4
  ((List.range (3 * nk + 28)).foldl (fun (p : List (List Byte) × List (List Byte)) j =>
    let last := (p.1.getLast?).getD []
    let t := if j % nk = 0 then
        xorBytes ((last.drop 1 ++ last.take 1).map sBox) [rconOf (j / nk), 0, 0, 0]
      else if 6 < nk ∧ j % nk = 4 then last.map sBox
      else last
    let w := xorBytes (p.1.headD []) t
    (p.1.drop 1 ++ [w], p.2 ++ [w])) (piecesOf 4 key, piecesOf 4 key)).2

/-- ShiftRows. -/
def shiftRows (s : List Byte) : List Byte := (List.range 16).map (fun i => s.getD (5 * i % 16) 0)

/-- MixColumns of one column. -/
def mixColumn : List Byte → List Byte
  | [a, b, c, d] =>
    let t := a ^^^ b ^^^ c ^^^ d
    [a ^^^ t ^^^ xtime (a ^^^ b), b ^^^ t ^^^ xtime (b ^^^ c), c ^^^ t ^^^ xtime (c ^^^ d), d ^^^ t ^^^ xtime (d ^^^ a)]
  | s => s

/-- AES of one block under an expanded key. -/
def aesBlock (ks : List (List Byte)) (b : List Byte) : List Byte :=
  let n := ks.length / 4
  let rk (i : Nat) : List Byte := ((ks.drop (4 * i)).take 4).flatten
  (List.range (n - 1)).foldl (fun s i =>
    let s := shiftRows (s.map sBox)
    let s := if i + 2 < n then (piecesOf 4 s).flatMap mixColumn else s
    xorBytes s (rk (i + 1))) (xorBytes b (rk 0))

/-- Doubling in the field of 128 bits, most significant bit first. -/
def dbl128 (b : List Byte) : List Byte :=
  let n := ofBe b * 2
  beBytes 16 (if 2 ^ 128 ≤ n then Nat.xor (n - 2 ^ 128) 0x87 else n)

/-- AES-CMAC of a message under a key of 16 or 32 bytes. -/
def cmacOf (key m : List Byte) : List Byte :=
  let ks := aesExpand key
  let k1 := dbl128 (aesBlock ks (List.replicate 16 0))
  let n := (max 1 ((m.length + 15) / 16)) - 1
  let x := (List.range n).foldl (fun x i => aesBlock ks (xorBytes x ((m.drop (16 * i)).take 16))) (List.replicate 16 0)
  let l := m.drop (16 * n)
  let l := if l.length = 16 then xorBytes l k1
    else xorBytes (l ++ [0x80] ++ List.replicate (15 - l.length) 0) (dbl128 k1)
  aesBlock ks (xorBytes x l)

/-- AES-CMAC of a message under a 128-bit key (RFC 4493). -/
@[irreducible] def aesCmac (key : BitVec 128) (m : List Byte) : List Byte := cmacOf (beBytes 16 key.toNat) m

/-- AES-128 of a zero block. -/
@[irreducible] def aesZero (key : BitVec 128) : List Byte := aesBlock (aesExpand (beBytes 16 key.toNat)) (List.replicate 16 0)

/-- The key stream of AES in counter mode from a first block, whose last `w` bytes count. -/
def ctrStream (key : List Byte) (w : Nat) (first : List Byte) (n : Nat) : List Byte :=
  let ks := aesExpand key
  let c := ofBe (first.drop (16 - w))
  ((List.range ((n + 15) / 16)).flatMap (fun i =>
    aesBlock ks (first.take (16 - w) ++ beBytes w ((c + i) % 2 ^ (8 * w))))).take n

/-! ## AES-SIV -/

/-- S2V: the strings in order, the plaintext last. -/
def sivTag (key : List Byte) (ads : List (List Byte)) (m : List Byte) : List Byte :=
  let d := ads.foldl (fun d a => xorBytes (dbl128 d) (cmacOf key a)) (cmacOf key (List.replicate 16 0))
  let k := m.length - 16
  cmacOf key (if 16 ≤ m.length then m.take k ++ xorBytes (m.drop k) d
    else xorBytes (dbl128 d) (m ++ [0x80] ++ List.replicate (15 - m.length) 0))

/-- The ciphertext of a plaintext under a synthetic IV. -/
def sivCrypt (key v m : List Byte) : List Byte :=
  xorBytes m (ctrStream key 16 (beBytes 16 (Nat.land (ofBe v) (2 ^ 128 - 1 - 2 ^ 63 - 2 ^ 31))) m.length)

/-- Sealing: a key whose halves are the keys of S2V and of the counter mode, the associated data, the nonce and the plaintext
to the synthetic IV and the ciphertext. -/
@[irreducible] def sivSeal (key : List Byte) (ads : List (List Byte)) (nonce m : List Byte) : List Byte × List Byte :=
  let h := key.length / 2
  let v := sivTag (key.take h) (ads ++ [nonce]) m
  (v, sivCrypt (key.drop h) v m)

/-- Opening: the plaintext, if the synthetic IV is that of it. -/
@[irreducible] def sivOpen (key : List Byte) (ads : List (List Byte)) (nonce v c : List Byte) : Option (List Byte) :=
  let h := key.length / 2
  let m := sivCrypt (key.drop h) v c
  if sivTag (key.take h) (ads ++ [nonce]) m = v then some m else none

/-! ## AES-256-GCM -/

/-- The product of two elements of the field of GCM, `n` bits of the second being left. -/
def gcmMul (y : Nat) : Nat → Nat → Nat → Nat
  | 0, _, z => z
  | n + 1, v, z =>
    gcmMul y n (if v % 2 = 1 then Nat.xor (v / 2) (0xE1 * 2 ^ 120) else v / 2)
      (if y.testBit n then Nat.xor z v else z)

/-- GHASH of a string of whole blocks under H. -/
def ghash (h : Nat) (m : List Byte) : Nat :=
  (piecesOf 16 m).foldl (fun x b => gcmMul (Nat.xor x (ofBe b)) 128 h 0) 0

/-- A string filled with zeros to whole blocks. -/
def fill16 (m : List Byte) : List Byte := m ++ List.replicate ((16 - m.length % 16) % 16) 0

/-- Opening of AES-256-GCM with a nonce of 12 bytes: the plaintext, if the tag verifies. -/
@[irreducible] def gcmOpen (key nonce ad c tag : List Byte) : Option (List Byte) :=
  let ks := aesExpand key
  let h := ofBe (aesBlock ks (List.replicate 16 0))
  let s := ghash h (fill16 ad ++ fill16 c ++ beBytes 8 (8 * ad.length) ++ beBytes 8 (8 * c.length))
  let t := xorBytes (aesBlock ks (nonce ++ [0, 0, 0, 1])) (beBytes 16 s)
  if t = tag then some (xorBytes c (ctrStream key 4 (nonce ++ [0, 0, 0, 2]) c.length)) else none

end Sys2Proof.Machine
end

