-- ==== Sys2Proof/Config.lean ====
section
/-!
DEFINITION. What the manual leaves open, as constants without a body: nothing in Lean can evaluate one or
prove a value of it, so a claim holds whatever its value is. Random draws take a running draw number from
State.
-/

namespace Sys2Proof.Config

/-- Draw number `n` of the TRNG (R95, R188, R243): 512 bits of which a user takes what it needs. -/
opaque trng : Nat → BitVec 512

/-- A value the manual leaves open after a step, numbered by a running counter of State. -/
opaque freeValue : Nat → BitVec 64

/-- Nominal CAL_RX and CAL_TX of a mode and FEC code, in ps (PRT_CAL_RX_NOM and PRT_CAL_TX_NOM read the
mode's values, which the manual does not list). -/
opaque calNom : Bool → Nat → Nat → Nat

/-- The directory bucket of a client under the hash key of R243: key, port and address. The manual names no
hash function for it. -/
opaque grantHash : BitVec 128 → Nat → BitVec 128 → Nat

/-- R78: byte `i` of the extended QL TLV that goes with an SSM code, of which the manual gives no content. -/
opaque esmcExt : Nat → Nat → Byte

/-- R445: what status a job that needs a key-store secret fails with while KC is FAILED; the manual names none. -/
opaque kcFailStatus : Nat

/-- R136: the default D of a service, in ns, that DEP_D_EFF_A and DEP_D_EFF_B show while a port has no mode; the table of R137
has no row for it. -/
opaque noModeD : Nat → BitVec 16

/-- R92, R198: a port's service address by its index, for IPv6 or not; the manual names no register that holds it. -/
opaque serviceAddr : Nat → Nat → Bool → BitVec 128

/-- R196, R224, R232: the destination MAC of a frame to a unicast address on a port; the manual gives no address resolution. -/
opaque linkMac : Nat → BitVec 128 → Nat

end Sys2Proof.Config
end

