-- ==== Sys2Proof/Machine/RegMap.lean ====
section
/-!
DEFINITION. The register map: every register of the chapters' register tables with its offset, its
instances, its reset value and, per bit, its access type (R9), the ranges its block states, and the
block map of R479. A register that acts when written or read names its action.
-/

namespace Sys2Proof.Machine

/-- A range that the written value of a field must lie in, as the register's own table states it. -/
inductive FieldCheck where
  /-- The field of `w` bits at `lo` lies in `min`–`max`. -/
  | within (lo w min max : Nat)
  /-- The field, read as two's complement, lies in `min`–`max`. -/
  | signedIn (lo w : Nat) (min max : Int)
  /-- The field has one of the listed values. -/
  | oneOf (lo w : Nat) (vals : List Nat)
  deriving DecidableEq, Repr

/-- A rule about a written value that involves other fields or registers; `Bus.lean` states each. -/
inductive WriteRule where
  | none
  | apllCfg | apllDen | apllNum | base64 | cfgCtrl | clCfg
  | clkBw | cntSel | dpllDen | dpllNum | gnsCorr | gnsCtrl
  | gnsSurvey | holdG | holdW | outclkCfg | outclkDiv | prtLaneMap
  | prtMode | ptpPcfg | ptpPrate | ucSpace | refCfg | refFreqDen | refFreqNum
  | refLimits | ringSize | rtKey | steerCtrl | steerGain | timCh
  | todCfg | ucDur
  deriving DecidableEq, Repr

/-- What a register does beyond holding a value: each name is an action of the block it belongs to. -/
inductive Special where
  | plain
  | asymRx | asymTx | cfgCmd | chCmd | clsReseed | cltFlush
  | cltWinCmd | cntCmd | cntHi | cntLimHi | cntLimLo | cntLo
  | cntSel | cntStat | cntThresh | coreEn | coreStat | cplPop
  | csCtrl | csStage | csStat | depTol | dpll0Cmd | dtCapture
  | evlArmAll | evlCmd | evlDisarmAll | evtForce | evtMask | evtRoute
  | evtStat | fireMap | glbCmd | gnsCmd | grCmd | histIdx
  | hrxProd | htxProd | leapHostCmd | mbxAckCfg | mbxAckMask | mbxAckWait
  | mbxCmd | mbxDb | mbxDbMask | mbxDbRing | mbxNone | mbxRx
  | mbxSem | mbxSemForce | mbxSemOwner | mbxTx | otpCmd | pkeAbort
  | pkeGo | pkeJobW | prtCtrl | ptpCmd | ptpKey | refCmd | ruleCmd
  | slotCmd | symCmd | symKey | timChCmd | timCmd | timResPop
  | tmsgHdr | tsqPop
  deriving DecidableEq, Repr

/-- One row of a register table. `dims` lists the count and stride of each index, greatest stride first.
`rw` holds the RW and RWL bits, `rws` the RWS bits, `w1c` the W1C bits; `rc` marks a register whose read
clears it (R9). -/
structure RegRow where
  off : Nat
  dims : List (Nat × Nat) := []
  reset : Nat := 0
  resets : List Nat := []
  rw : Nat := 0
  rws : Nat := 0
  w1c : Nat := 0
  rc : Bool := false
  checks : List FieldCheck := []
  custom : WriteRule := .none
  special : Special := .plain
  secure : Bool := false
  banked : Bool := false
  deriving DecidableEq, Repr

/-- Registers of block GLB (chapter tables; R479, R488, R475). -/
def glbRows : List RegRow := [
  -- GLB_ID (RO)
  { off := 0x0, reset := 0xEFC10009 },
  -- GLB_REV (RO)
  { off := 0x4, reset := 0x1 },
  -- GLB_STAT (RO)
  { off := 0x8 },
  -- GLB_BOOT_STAT (RO)
  { off := 0xC },
  -- GLB_BOOT_REC (RO)
  { off := 0x10 },
  -- GLB_RECIPE_SEQ (RO)
  { off := 0x14 },
  -- GLB_RECIPE_SECVER (RO)
  { off := 0x18 },
  -- GLB_RECIPE_ID (RO)
  { off := 0x20, dims := [(4, 0x4)] },
  -- GLB_OTP_STAT (RO)
  { off := 0x30 },
  -- GLB_OTP_CMD (WO)
  { off := 0x34, special := .otpCmd, secure := true },
  -- GLB_CMD (WO)
  { off := 0x38, special := .glbCmd, secure := true },
  -- GLB_PWR_STAT (RO)
  { off := 0x40, reset := 0x5 },
  -- GLB_TEMP (RO)
  { off := 0x44 }]

/-- Registers of block CFG (chapter tables; R489). -/
def cfgRows : List RegRow := [
  -- CFG_CTRL (RW)
  { off := 0x0, rw := 0x7, custom := .cfgCtrl },
  -- CFG_CMD (W1S)
  { off := 0x4, special := .cfgCmd },
  -- CFG_STAT (See R489)
  { off := 0x8, w1c := 0x1F0 },
  -- CFG_GEN (RO)
  { off := 0xC },
  -- CFG_AT_LO (RW)
  { off := 0x10, rw := 0xFFFFFFFF },
  -- CFG_AT_HI (RW)
  { off := 0x14, rw := 0xFFFFFFFF },
  -- CFG_LAST_AT_LO (RO)
  { off := 0x18 },
  -- CFG_LAST_AT_HI (RO)
  { off := 0x1C },
  -- CFG_POLICY (RWS)
  { off := 0x20, rws := 0x1 },
  -- CFG_VIEW (RW)
  { off := 0x24, rw := 0x1, banked := true },
  -- CFG_GEN_DROP (RC)
  { off := 0x28, rc := true },
  -- CFG_COMMITS (RC)
  { off := 0x2C, rc := true },
  -- CFG_LOCK_REFUSED (RC)
  { off := 0x30, rc := true }]

/-- Registers of block EVT (chapter tables; R518–R521). -/
def evtRows : List RegRow := [
  -- EVT_STAT (W1C)
  { off := 0x0, dims := [(8, 0x4)], special := .evtStat },
  -- EVT_MASK (RW)
  { off := 0x20, dims := [(8, 0x4)], reset := 0xFFFFFFFF, rw := 0xFFFFFFFF, special := .evtMask },
  -- EVT_CORE_EN (RW)
  { off := 0x40, dims := [(8, 0x4)], rw := 0xFFFFFFFF, special := .coreEn, banked := true },
  -- EVT_CORE_STAT (W1C)
  { off := 0x60, dims := [(8, 0x4)], special := .coreStat, banked := true },
  -- EVT_LINE_STAT (RO)
  { off := 0x80 },
  -- EVT_VEC_PEND (RO)
  { off := 0x84 },
  -- EVT_FORCE (WO)
  { off := 0x88, special := .evtForce, secure := true },
  -- FLT_POLICY (RWS)
  { off := 0x100, reset := 0x410A364, rws := 0x3FFFFFFF, checks := [.within 0 8 10 100, .within 8 4 1 15, .within 12 8 1 255, .within 20 6 1 32, .within 26 4 1 8] },
  -- FLT_ALARM_MASK (RWS)
  { off := 0x104, rws := 0x3F0 },
  -- FLT_CAUSE (RO)
  { off := 0x108 },
  -- FLT_REDUN (RO)
  { off := 0x10C },
  -- FLT_RETIRED_CLU (RO)
  { off := 0x110 },
  -- FLT_RETIRED_PKE (RO)
  { off := 0x114 },
  -- FLT_ECC_CORR (RC)
  { off := 0x118, rc := true },
  -- FLT_ECC_UNCORR (RC)
  { off := 0x11C, rc := true },
  -- FLT_ECC_LAST (RO)
  { off := 0x120 },
  -- FLT_ECC_DROP (RC)
  { off := 0x124, rc := true },
  -- FLT_TMR_CORR (RC)
  { off := 0x128, rc := true },
  -- EVT_ROUTE (RW)
  { off := 0x400, dims := [(256, 0x4)], rw := 0x7FF, special := .evtRoute }]

/-- Registers of block CNT (chapter tables; R522, R523). -/
def cntRows : List RegRow := [
  -- CNT_CTRL (RW)
  { off := 0x0, reset := 0x1, rw := 0x1 },
  -- CNT_CMD (W1S)
  { off := 0x4, special := .cntCmd },
  -- CNT_SNAP_SEQ (RO)
  { off := 0x8 },
  -- CNT_SNAP_AT_LO (RO)
  { off := 0x10 },
  -- CNT_SNAP_AT_HI (RO)
  { off := 0x14 },
  -- CNT_SEL (RW)
  { off := 0x100, dims := [(64, 0x20)], rw := 0x1FFFF, custom := .cntSel, special := .cntSel },
  -- CNT_THRESH (RW)
  { off := 0x104, dims := [(64, 0x20)], rw := 0x1FFF, special := .cntThresh },
  -- CNT_LIMIT_LO (RW)
  { off := 0x108, dims := [(64, 0x20)], rw := 0xFFFFFFFF, special := .cntLimLo },
  -- CNT_LIMIT_HI (RW)
  { off := 0x10C, dims := [(64, 0x20)], rw := 0xFFFF, special := .cntLimHi },
  -- CNT_LO (See R501, R502)
  { off := 0x110, dims := [(64, 0x20)], special := .cntLo },
  -- CNT_HI (See R501, R502)
  { off := 0x114, dims := [(64, 0x20)], special := .cntHi },
  -- CNT_STAT (See R523)
  { off := 0x118, dims := [(64, 0x20)], special := .cntStat },
  -- CNT_SNAP_LO (RO)
  { off := 0x1000, dims := [(64, 0x8)] },
  -- CNT_SNAP_HI (RO)
  { off := 0x1004, dims := [(64, 0x8)] }]

/-- Registers of block MBX (chapter tables; R463, R464). -/
def mbxRows : List RegRow := [
  -- MBX_MASTER_ID (RO)
  { off := 0x0 },
  -- MBX_CMD (W1S)
  { off := 0x4, special := .mbxCmd },
  -- MBX_DB_SUMMARY (RO)
  { off := 0x8 },
  -- MBX_CORE_STAT (RO)
  { off := 0x10, dims := [(4, 0x4)] },
  -- MBX_CORE_VER (RO)
  { off := 0x30, dims := [(5, 0x4)] },
  -- MBX_CORE_HB (RO)
  { off := 0x50, dims := [(5, 0x4)] },
  -- MBX_CORE_RESTARTS (RC)
  { off := 0x70, dims := [(5, 0x4)], rc := true },
  -- MBX_WDT_CFG (RWS)
  { off := 0x90, reset := 0x3C030064, rws := 0xFF0FFFFF, checks := [.within 0 16 10 10000, .within 16 4 1 15, .within 24 8 1 255], secure := true },
  -- MBX_TX (WO)
  { off := 0x1000, dims := [(19, 0x40)], special := .mbxTx },
  -- MBX_RX (RC)
  { off := 0x1004, dims := [(19, 0x40)], rc := true, special := .mbxRx },
  -- MBX_STAT (RO)
  { off := 0x1008, dims := [(19, 0x40)], reset := 0x8, special := .mbxNone },
  -- MBX_DB_RING (W1S)
  { off := 0x100C, dims := [(19, 0x40)], special := .mbxDbRing },
  -- MBX_DB (W1C)
  { off := 0x1010, dims := [(19, 0x40)], special := .mbxDb },
  -- MBX_DB_MASK (RW)
  { off := 0x1014, dims := [(19, 0x40)], reset := 0xFFFFFFFF, special := .mbxDbMask },
  -- MBX_ACK_CFG (RW)
  { off := 0x1018, dims := [(19, 0x40)], reset := 0x3E8, special := .mbxAckCfg },
  -- MBX_ACK_MASK (RW)
  { off := 0x101C, dims := [(19, 0x40)], reset := 0x2, special := .mbxAckMask },
  -- MBX_ACK_WAIT (W1S)
  { off := 0x1020, dims := [(19, 0x40)], special := .mbxAckWait },
  -- MBX_TX_FULL (RC)
  { off := 0x1024, dims := [(19, 0x40)], rc := true, special := .mbxNone },
  -- MBX_ACK_STALLS (RC)
  { off := 0x1028, dims := [(19, 0x40)], rc := true, special := .mbxNone },
  -- MBX_SEM (See R460–R462)
  { off := 0x2000, dims := [(64, 0x4)], special := .mbxSem },
  -- MBX_SEM_OWNER (RO)
  { off := 0x2100, dims := [(64, 0x4)], special := .mbxSemOwner },
  -- MBX_SEM_FORCE (WO)
  { off := 0x2200, special := .mbxSemForce }]

/-- Registers of block TSC (chapter tables; R49–R51). -/
def tscRows : List RegRow := [
  -- TSC_DT_SEC_LO (RO)
  { off := 0x0 },
  -- TSC_DT_SEC_HI (RO)
  { off := 0x4 },
  -- TSC_DT_NS (RO)
  { off := 0x8 },
  -- TSC_DT_FRAC (RO)
  { off := 0xC, special := .dtCapture },
  -- TSC_ST64_LO (RO)
  { off := 0x10, special := .dtCapture },
  -- TSC_ST64_HI (RO)
  { off := 0x14 },
  -- TSC_DT_STATE (RO)
  { off := 0x20 },
  -- TSC_DCO_FREQ_LO (RO)
  { off := 0x30 },
  -- TSC_DCO_FREQ_HI (RO)
  { off := 0x34 },
  -- TSC_STEP_LAST_LO (RO)
  { off := 0x40 },
  -- TSC_STEP_LAST_HI (RO)
  { off := 0x44 },
  -- TSC_STEP_AT_LO (RO)
  { off := 0x48 },
  -- TSC_STEP_AT_HI (RO)
  { off := 0x4C },
  -- TSC_STEP_STAT (RO)
  { off := 0x50 },
  -- TSC_STEP_SQUASH (RC)
  { off := 0x54, rc := true },
  -- TSC_LEAP_OFFSET (RO)
  { off := 0x100 },
  -- TSC_LEAP_PEND (RO)
  { off := 0x104 },
  -- TSC_LEAP_AT_LO (RO)
  { off := 0x108 },
  -- TSC_LEAP_AT_HI (RO)
  { off := 0x10C },
  -- TSC_LEAP_HOST_AT_LO (RW)
  { off := 0x110, rw := 0xFFFFFFFF },
  -- TSC_LEAP_HOST_AT_HI (RW)
  { off := 0x114, rw := 0xFFFF },
  -- TSC_LEAP_HOST_CMD (WO)
  { off := 0x118, special := .leapHostCmd },
  -- TSC_LEAP_POLICY (RWS)
  { off := 0x120, reset := 0x3, rws := 0x3 },
  -- TSC_RTC_SEC_LO (RO)
  { off := 0x200 },
  -- TSC_RTC_SEC_HI (RO)
  { off := 0x204 },
  -- TSC_RTC_SUB (RO)
  { off := 0x208 },
  -- TSC_RTC_STAT (RO)
  { off := 0x20C },
  -- TSC_RTC_UNC (RO)
  { off := 0x210, reset := 0xFFFFFFFF },
  -- TSC_TIME_FLOOR_LO (RO)
  { off := 0x214 },
  -- TSC_TIME_FLOOR_HI (RO)
  { off := 0x218 },
  -- TSC_CS_FIRE_MAP (W1C)
  { off := 0x800, dims := [(8, 0x4)], special := .fireMap },
  -- TSC_CS_TIME_LO (RW)
  { off := 0x1000, dims := [(256, 0x20)], rw := 0xFFFFFFFF, special := .csStage },
  -- TSC_CS_TIME_HI (RW)
  { off := 0x1004, dims := [(256, 0x20)], rw := 0xFFFFFFFF, special := .csStage },
  -- TSC_CS_PERIOD_LO (RW)
  { off := 0x1008, dims := [(256, 0x20)], rw := 0xFFFFFFFF, special := .csStage },
  -- TSC_CS_PERIOD_HI (RW)
  { off := 0x100C, dims := [(256, 0x20)], rw := 0xFFFFFFFF, special := .csStage },
  -- TSC_CS_CTRL (See below)
  { off := 0x1010, dims := [(256, 0x20)], rw := 0xFF0F1C, special := .csCtrl },
  -- TSC_CS_STAT (See below)
  { off := 0x1014, dims := [(256, 0x20)], special := .csStat },
  -- TSC_CS_FIRED_LO (RO)
  { off := 0x1018, dims := [(256, 0x20)] },
  -- TSC_CS_FIRED_HI (RO)
  { off := 0x101C, dims := [(256, 0x20)] }]

/-- Registers of block REF (chapter tables; R322–R325). -/
def refRows : List RegRow := [
  -- REF_SEL_CTRL (RWS)
  { off := 0x0, reset := 0xA0004, rws := 0x3FF00F7, checks := [.within 0 2 0 2, .within 4 4 0 12, .within 16 10 2 720] },
  -- REF_SEL_STAT (RO)
  { off := 0x4, reset := 0xF },
  -- REF_SEL_SWITCHES (RC)
  { off := 0x8, rc := true },
  -- REF_CMD (W1S)
  { off := 0xC, special := .refCmd },
  -- REF_DIS_LIMIT (RWS)
  { off := 0x10, reset := 0x2710, rws := 0xFFFFFFFF, checks := [.within 0 32 100 10000000] },
  -- REF_DIS_GATE (RWS)
  { off := 0x14, reset := 0x64, rws := 0x3FF, checks := [.within 0 10 10 1000] },
  -- REF_PDIS_LIMIT (RWS)
  { off := 0x18, reset := 0x3E8, rws := 0xFFFFF, checks := [.within 0 20 10 1000000] },
  -- REF_DIS_STAT (RO)
  { off := 0x1C },
  -- REF_SYNCE_SEL (RWS)
  { off := 0x20, reset := 0xB8, rws := 0xFF, checks := [.oneOf 4 4 [2, 4, 8, 11]] },
  -- REF_TOD_CFG (RWS)
  { off := 0x24, reset := 0x10, rws := 0x3F },
  -- REF_TOD_LABEL_LO (RO)
  { off := 0x28 },
  -- REF_TOD_LABEL_HI (RO)
  { off := 0x2C },
  -- REF_CFG (RWS)
  { off := 0x100, dims := [(13, 0x40)], reset := 0x3C0100, rws := 0x3FF01FF, checks := [.within 16 10 10 720], custom := .refCfg },
  -- REF_FREQ_NUM (RWS)
  { off := 0x104, dims := [(13, 0x40)], reset := 0x989680, rws := 0x3FFFFFFF, custom := .refFreqNum },
  -- REF_FREQ_DEN (RWS)
  { off := 0x108, dims := [(13, 0x40)], reset := 0x1, rws := 0xFFFF, checks := [.within 0 16 1 65535], custom := .refFreqDen },
  -- REF_IN_DELAY (RWS)
  { off := 0x10C, dims := [(13, 0x40)], rws := 0xFFFFFFFF },
  -- REF_LIMITS (RWS)
  { off := 0x110, dims := [(13, 0x40)], reset := 0x7D023F0, rws := 0xFFFFFFFF, checks := [.within 0 16 1 50000, .within 16 16 1 50000], custom := .refLimits },
  -- REF_PPS_CFG (RWS)
  { off := 0x114, dims := [(13, 0x40)], reset := 0x100003E8, rws := 0x3FFFFFFF, checks := [.within 0 27 50 100000000, .within 27 3 1 7] },
  -- REF_STAT (RO)
  { off := 0x118, dims := [(13, 0x40)] },
  -- REF_DF (RO)
  { off := 0x11C, dims := [(13, 0x40)] },
  -- REF_PHASE (RO)
  { off := 0x120, dims := [(13, 0x40)] },
  -- REF_LAST_FAIL (RO)
  { off := 0x124, dims := [(13, 0x40)] },
  -- REF_PULSE_BAD (RC)
  { off := 0x128, dims := [(13, 0x40)], rc := true },
  -- REF_DISQ_COUNT (RC)
  { off := 0x12C, dims := [(13, 0x40)], rc := true }]

/-- Registers of block CLK, part 1 (chapter tables; R364–R367). -/
def clkRows1 : List RegRow := [
  -- CLK_STAT (RO)
  { off := 0x0 },
  -- CLK_OSC_FREQ (RO)
  { off := 0x4 },
  -- CLK_DPLL0_CTRL (RWS)
  { off := 0x10, rws := 0x3, checks := [.within 0 2 0 2] },
  -- CLK_DPLL0_STAT (RO)
  { off := 0x14, reset := 0xF0 },
  -- CLK_DPLL0_CMD (W1S)
  { off := 0x18, special := .dpll0Cmd },
  -- CLK_SLOPE (RWS)
  { off := 0x1C, reset := 0x4B, rws := 0x3FF, checks := [.within 0 10 1 1000] },
  -- CLK_STEP_LIMIT (RWS)
  { off := 0x20, reset := 0xF4240, rws := 0x3FFFFFFF, checks := [.within 0 30 100 1000000000] },
  -- CLK_LOCK_PHASE (RWS)
  { off := 0x24, reset := 0x64, rws := 0xFFFFF, checks := [.within 0 20 1 1000000] },
  -- CLK_LOCK_FREQ (RWS)
  { off := 0x28, reset := 0x64, rws := 0x1FFFF, checks := [.within 0 17 1 100000] },
  -- CLK_BW (RWS)
  { off := 0x30, dims := [(5, 0x4)], rws := 0x1FFFF, custom := .clkBw, resets := [0xA, 0x14, 0x3E8, 0xA, 0x3E8] },
  -- CLK_PULL_LO (RO)
  { off := 0x48 },
  -- CLK_PULL_HI (RO)
  { off := 0x4C },
  -- CLK_PERR_LO (RO)
  { off := 0x50 },
  -- CLK_PERR_HI (RO)
  { off := 0x54 },
  -- CLK_FINT_LO (RO)
  { off := 0x58 },
  -- CLK_FINT_HI (RO)
  { off := 0x5C },
  -- CLK_HOLD_W (RWS)
  { off := 0x60, reset := 0x1000, rws := 0x1FFFF, checks := [.within 0 17 64 65536], custom := .holdW },
  -- CLK_HOLD_G (RWS)
  { off := 0x64, reset := 0x78, rws := 0xFFF, checks := [.within 0 12 0 3600], custom := .holdG },
  -- CLK_HOLD_CFG (RWS)
  { off := 0x68, rws := 0x1 },
  -- CLK_AGING_MAX (RWS)
  { off := 0x6C, reset := 0x480F, rws := 0xFFFFFFFF, checks := [.within 0 32 0 2147483647] },
  -- CLK_HOLD_AVG_LO (RO)
  { off := 0x70 },
  -- CLK_HOLD_AVG_HI (RO)
  { off := 0x74 },
  -- CLK_AGING_D (RO)
  { off := 0x78 },
  -- CLK_HOLD_STAT (RO)
  { off := 0x7C },
  -- CLK_HM_XI0 (RWS)
  { off := 0x80, reset := 0x14, rws := 0xFFFF },
  -- CLK_HM_A (RWS)
  { off := 0x84, reset := 0x2710, rws := 0xFFFFFFFF },
  -- CLK_HM_B (RWS)
  { off := 0x88, reset := 0x3E8, rws := 0xFFFFFFFF },
  -- CLK_HM_A_SHORT (RWS)
  { off := 0x8C, reset := 0xF4240, rws := 0xFFFFFFFF },
  -- CLK_HM_A_FREF (RWS)
  { off := 0x90, reset := 0x3E8, rws := 0xFFFFFFFF },
  -- CLK_EHOLD (RO)
  { off := 0x94 },
  -- CLK_HM_XI0_CUR (RO)
  { off := 0x98 },
  -- CLK_HM_T0 (RO)
  { off := 0x9C },
  -- CLK_HIST_IDX (RW)
  { off := 0xA0, rw := 0xFFFF, special := .histIdx },
  -- CLK_HIST_DATA_LO (RO)
  { off := 0xA4 },
  -- CLK_HIST_DATA_HI (RO)
  { off := 0xA8 },
  -- CLK_SLEW_CFG (RWS)
  { off := 0x100, reset := 0x10032, rws := 0x107FF, checks := [.within 0 11 1 1000] },
  -- CLK_SLEW_LO (RO)
  { off := 0x104 },
  -- CLK_SLEW_HI (RO)
  { off := 0x108 },
  -- CLK_PPS_CFG (RWS)
  { off := 0x110, dims := [(4, 0x4)], reset := 0x186A002, rws := 0x7FFFF1F, checks := [.within 1 2 0 2, .within 8 19 1 500000] },
  -- CLK_PPS_COMP (RWS)
  { off := 0x120, dims := [(4, 0x4)], rws := 0xFFFFFF }]

/-- Registers of block CLK, part 2 (chapter tables; R364–R367). -/
def clkRows2 : List RegRow := [
  -- CLK_TOD_CFG (RWS)
  { off := 0x130, reset := 0x1F4110, rws := 0x3FF777, checks := [.within 12 10 10 990], custom := .todCfg },
  -- CLK_CASC_CFG (RWS)
  { off := 0x134, reset := 0x2, rws := 0xFFFFFF07, checks := [.within 1 2 0 2] },
  -- CLK_DPLL_CFG (RWS)
  { off := 0x210, dims := [(3, 0x10)], reset := 0x6400, rws := 0x3FFF7F, checks := [.oneOf 1 4 [0, 1, 2, 3, 4, 5, 6, 7, 8, 12], .within 8 14 1 10000] },
  -- CLK_DPLL_NUM (RWS)
  { off := 0x214, dims := [(3, 0x10)], reset := 0x989680, rws := 0xFFFFFFFF, custom := .dpllNum },
  -- CLK_DPLL_DEN (RWS)
  { off := 0x218, dims := [(3, 0x10)], reset := 0x1, rws := 0xFFFF, checks := [.within 0 16 1 65535], custom := .dpllDen },
  -- CLK_DPLL_STAT (RO)
  { off := 0x21C, dims := [(3, 0x10)] },
  -- CLK_APLL_CFG (RWS)
  { off := 0x290, dims := [(2, 0x10)], rws := 0x7, custom := .apllCfg },
  -- CLK_APLL_NUM (RWS)
  { off := 0x294, dims := [(2, 0x10)], reset := 0x9502F90, rws := 0xFFFFFFFF, custom := .apllNum },
  -- CLK_APLL_DEN (RWS)
  { off := 0x298, dims := [(2, 0x10)], reset := 0x1, rws := 0xFFFF, checks := [.within 0 16 1 65535], custom := .apllDen },
  -- CLK_APLL_STAT (RO)
  { off := 0x29C, dims := [(2, 0x10)] },
  -- CLK_OUTCLK_CFG (RWS)
  { off := 0x300, dims := [(8, 0x8)], reset := 0x2, rws := 0x3F, checks := [.within 1 3 0 5], custom := .outclkCfg },
  -- CLK_OUTCLK_DIV (RWS)
  { off := 0x304, dims := [(8, 0x8)], reset := 0x1, rws := 0xFFFFFF, checks := [.within 0 24 1 16777215], custom := .outclkDiv },
  -- CLK_QL_MAP (RWS)
  { off := 0x380, reset := 0x204222, rws := 0xFFFFFF },
  -- CLK_STEER_CTRL (RWS)
  { off := 0x400, reset := 0x10001000, rws := 0xFFFF7FFF, checks := [.within 8 5 8 24, .within 24 8 1 255], custom := .steerCtrl },
  -- CLK_STEER_GAIN (RWS)
  { off := 0x404, rws := 0xFFFFFFFF, custom := .steerGain },
  -- CLK_STEER_TIME (RWS)
  { off := 0x408, reset := 0x640010, rws := 0xFFF0FFF, checks := [.within 0 12 1 3600, .within 16 12 1 4000] },
  -- CLK_STEER_INIT (RWS)
  { off := 0x40C, reset := 0x8000, rws := 0xFFFFFF },
  -- CLK_STEER_DAC (RO)
  { off := 0x410 },
  -- CLK_STEER_FAIL (RC)
  { off := 0x414, rc := true },
  -- CLK_TEMP_CFG (RWS)
  { off := 0x418, rws := 0xFF },
  -- CLK_TEMP (RO)
  { off := 0x41C }]

/-- Registers of block CLK. -/
def clkRows : List RegRow := clkRows1 ++ clkRows2

/-- Registers of block GNS, part 1 (chapter tables; R406–R408). -/
def gnsRows1 : List RegRow := [
  -- GNS_CTRL (RWS)
  { off := 0x0, reset := 0xA00BE, rws := 0xFF03FF, checks := [.within 16 8 0 60], custom := .gnsCtrl },
  -- GNS_STAT (RO)
  { off := 0x4 },
  -- GNS_CMD (W1S)
  { off := 0x8, special := .gnsCmd },
  -- GNS_PORT_CFG (RWS)
  { off := 0x10, dims := [(2, 0x4)], rws := 0x7 },
  -- GNS_IF (RWS)
  { off := 0x18, dims := [(2, 0x4)], rws := 0xFFFFFFFF, checks := [.signedIn 0 32 (-20000000) 20000000] },
  -- GNS_BAND_PWR (RO)
  { off := 0x20, dims := [(2, 0x4)] },
  -- GNS_ACQ_CFG (RWS)
  { off := 0x30, reset := 0xA07D0, rws := 0xFFFFFF, checks := [.within 16 8 1 60] },
  -- GNS_TRK_CFG (RWS)
  { off := 0x34, reset := 0x58320A0F, rws := 0xFFFF1F1F, checks := [.within 0 5 2 30, .within 8 5 1 20, .within 16 10 5 500, .within 26 6 15 40] },
  -- GNS_CORR (RWS)
  { off := 0x40, dims := [(6, 0x4)], rws := 0x37F3F3F, custom := .gnsCorr, resets := [0x2200804, 0x2402010, 0x2200804, 0x2402010, 0x2200804, 0x2402010] },
  -- GNS_SOL_CFG (RWS)
  { off := 0x60, reset := 0x321E401E, rws := 0xFFFFFFFF, checks := [.within 0 8 20 50, .within 8 8 1 255, .within 16 8 5 255, .within 24 8 1 255] },
  -- GNS_EPH_CFG (RWS)
  { off := 0x64, reset := 0xE101C20, rws := 0x3FFF3FFF, checks := [.within 0 14 1800 14400, .within 16 14 600 14400] },
  -- GNS_BURST_CFG (RWS)
  { off := 0x68, reset := 0xB40064, rws := 0x3FF00FF, checks := [.within 0 8 40 200, .within 16 10 60 600] },
  -- GNS_POS_CFG (RWS)
  { off := 0x70, reset := 0x3E80005, rws := 0xFFFF0007, checks := [.within 0 2 0 2, .within 16 16 100 65535] },
  -- GNS_SURVEY_TIME (RWS)
  { off := 0x74, reset := 0x5A0003C, rws := 0xFFF0FFF, checks := [.within 0 12 1 1440], custom := .gnsSurvey },
  -- GNS_POS_TOL (RWS)
  { off := 0x78, reset := 0x2710, rws := 0xFFFF, checks := [.within 0 16 1000 65535] },
  -- GNS_POS_X (RWS)
  { off := 0x90, rws := 0xFFFFFFFF },
  -- GNS_POS_Y (RWS)
  { off := 0x94, rws := 0xFFFFFFFF },
  -- GNS_POS_Z (RWS)
  { off := 0x98, rws := 0xFFFFFFFF },
  -- GNS_POS_CUR_X (RO)
  { off := 0xA0 },
  -- GNS_POS_CUR_Y (RO)
  { off := 0xA4 },
  -- GNS_POS_CUR_Z (RO)
  { off := 0xA8 },
  -- GNS_POS_SIGMA (RO)
  { off := 0xAC },
  -- GNS_ANT_DELAY (RWS)
  { off := 0xB0, rws := 0xFFFFFFFF },
  -- GNS_IFB_DELAY (RWS)
  { off := 0xB4, rws := 0xFFFFFFFF },
  -- GNS_ISB_CAL (RWS)
  { off := 0xB8, dims := [(3, 0x4)], rws := 0xFFFFFFFF },
  -- GNS_IF_DELAY (RO)
  { off := 0xC4 },
  -- GNS_EXCL_GPS (RWS)
  { off := 0xD0, rws := 0xFFFFFFFF },
  -- GNS_EXCL_GAL_LO (RWS)
  { off := 0xD4, rws := 0xFFFFFFFF },
  -- GNS_EXCL_GAL_HI (RWS)
  { off := 0xD8, rws := 0xF },
  -- GNS_EXCL_BDS_LO (RWS)
  { off := 0xDC, rws := 0xFFFFFFFF },
  -- GNS_EXCL_BDS_HI (RWS)
  { off := 0xE0, rws := 0x7FFFFFFF },
  -- GNS_TMSG_HDR (RO)
  { off := 0x100, special := .tmsgHdr },
  -- GNS_TMSG_SEC_LO (RO)
  { off := 0x104 },
  -- GNS_TMSG_SEC_HI (RO)
  { off := 0x108 },
  -- GNS_TMSG_Q (RO)
  { off := 0x10C },
  -- GNS_TMSG_BIAS (RO)
  { off := 0x110 },
  -- GNS_TMSG_TUNC (RO)
  { off := 0x114 },
  -- GNS_TMSG_DOP (RO)
  { off := 0x118 },
  -- GNS_TMSG_USED (RO)
  { off := 0x11C },
  -- GNS_CH_IDX (RW)
  { off := 0x200, rw := 0x3F }]

/-- Registers of block GNS, part 2 (chapter tables; R406–R408). -/
def gnsRows2 : List RegRow := [
  -- GNS_CH_CMD (W1S)
  { off := 0x204, special := .chCmd },
  -- GNS_CH_STAT (RO)
  { off := 0x208 },
  -- GNS_CH_DATA (RO)
  { off := 0x220, dims := [(8, 0x4)] },
  -- GNS_NAV_BAD (RC)
  { off := 0x300, rc := true },
  -- GNS_FDE_EXCL (RC)
  { off := 0x304, rc := true },
  -- GNS_FIX_LOST (RC)
  { off := 0x308, rc := true },
  -- GNS_EPOCHS_NOFIX (RC)
  { off := 0x30C, rc := true },
  -- GNS_SAMPLE_LOSS (RC)
  { off := 0x310, rc := true },
  -- GNS_BUMP (RC)
  { off := 0x314, rc := true },
  -- GNS_REFRESH (RC)
  { off := 0x318, rc := true }]

/-- Registers of block GNS. -/
def gnsRows : List RegRow := gnsRows1 ++ gnsRows2

/-- Registers of block TIM (chapter tables; R434–R437). -/
def timRows : List RegRow := [
  -- TIM_CTRL (RWS)
  { off := 0x0, reset := 0x3C, rws := 0xFF },
  -- TIM_STAT (RO)
  { off := 0x4 },
  -- TIM_CMD (W1S)
  { off := 0x8, special := .timCmd },
  -- TIM_IN_CFG (RWS)
  { off := 0x100, dims := [(16, 0x20)], reset := 0xA50, rws := 0xFFFFF, checks := [.within 2 2 0 2, .within 4 8 0 250] },
  -- TIM_IN_DIV (RWS)
  { off := 0x104, dims := [(16, 0x20)], reset := 0x1, rws := 0x1FFFF, checks := [.within 0 17 1 65536] },
  -- TIM_IN_HOLDOFF (RWS)
  { off := 0x108, dims := [(16, 0x20)], rws := 0xFFFF },
  -- TIM_IN_DELAY (RWS)
  { off := 0x10C, dims := [(16, 0x20)], rws := 0xFFFFFF },
  -- TIM_IN_EDGES (RC)
  { off := 0x110, dims := [(16, 0x20)], rc := true },
  -- TIM_IN_REJ (RC)
  { off := 0x114, dims := [(16, 0x20)], rc := true },
  -- TIM_CH_CFG (RWS)
  { off := 0x400, dims := [(8, 0x40)], reset := 0x440, rws := 0xFFF, checks := [.within 8 2 0 2, .within 10 2 0 2], custom := .timCh },
  -- TIM_CH_STOP (RWS)
  { off := 0x404, dims := [(8, 0x40)], rws := 0xFFFF },
  -- TIM_CH_WIN (RWS)
  { off := 0x408, dims := [(8, 0x40)], reset := 0x2710, rws := 0x7FFFFFFF, checks := [.within 0 31 1 2000000000] },
  -- TIM_CH_PRE (RWS)
  { off := 0x40C, dims := [(8, 0x40)], rws := 0xFFFF },
  -- TIM_CH_GATE (RWS)
  { off := 0x410, dims := [(8, 0x40)], reset := 0x3E8, rws := 0x1FFFF, checks := [.within 0 17 1 100000] },
  -- TIM_CH_NOM (RWS)
  { off := 0x414, dims := [(8, 0x40)], reset := 0x989680, rws := 0x7FFFFFFF, checks := [.within 0 31 0 1500000000] },
  -- TIM_GATE_TIME_LO (RW)
  { off := 0x418, dims := [(8, 0x40)], rw := 0xFFFFFFFF },
  -- TIM_GATE_TIME_HI (RW)
  { off := 0x41C, dims := [(8, 0x40)], rw := 0xFFFFFFFF },
  -- TIM_CH_CMD (W1S)
  { off := 0x420, dims := [(8, 0x40)], special := .timChCmd },
  -- TIM_CH_STAT (See R436)
  { off := 0x424, dims := [(8, 0x40)], w1c := 0x700 },
  -- TIM_RES_POP (RC)
  { off := 0x428, dims := [(8, 0x40)], rc := true, special := .timResPop },
  -- TIM_CH_RESULTS (RC)
  { off := 0x42C, dims := [(8, 0x40)], rc := true },
  -- TIM_CH_OVF (RC)
  { off := 0x430, dims := [(8, 0x40)], rc := true },
  -- TIM_CH_START_IGN (RC)
  { off := 0x434, dims := [(8, 0x40)], rc := true },
  -- TIM_RES_DATA (RO)
  { off := 0x1000, dims := [(8, 0x100), (40, 0x4)] }]

/-- Registers of block EVL (chapter tables; R439, R440). -/
def evlRows : List RegRow := [
  -- EVL_RUN (RO)
  { off := 0x0 },
  -- EVL_DONE (W1C)
  { off := 0x4, w1c := 0xFFFFFFFF },
  -- EVL_ARM_ALL (W1S)
  { off := 0x8, special := .evlArmAll },
  -- EVL_DISARM_ALL (WO)
  { off := 0xC, special := .evlDisarmAll },
  -- EVL_CFG (RW)
  { off := 0x100, dims := [(32, 0x80)], reset := 0x28, rw := 0xFFF },
  -- EVL_T0_LO (RW)
  { off := 0x104, dims := [(32, 0x80)], rw := 0xFFFFFFFF },
  -- EVL_T0_HI (RW)
  { off := 0x108, dims := [(32, 0x80)], rw := 0xFFFFFFFF },
  -- EVL_PERIOD_LO (RW)
  { off := 0x10C, dims := [(32, 0x80)], rw := 0xFFFFFFFF },
  -- EVL_PERIOD_HI (RW)
  { off := 0x110, dims := [(32, 0x80)], rw := 0xFFFFFFFF },
  -- EVL_WIDTH_LO (RW)
  { off := 0x114, dims := [(32, 0x80)], rw := 0xFFFFFFFF },
  -- EVL_WIDTH_HI (RW)
  { off := 0x118, dims := [(32, 0x80)], rw := 0xFFFFFFFF },
  -- EVL_COUNT (RW)
  { off := 0x11C, dims := [(32, 0x80)], rw := 0xFFFFFFFF },
  -- EVL_DELAY_LO (RW)
  { off := 0x120, dims := [(32, 0x80)], rw := 0xFFFFFFFF },
  -- EVL_DELAY_HI (RW)
  { off := 0x124, dims := [(32, 0x80)], rw := 0xFFFFFFFF },
  -- EVL_COMP (RWS)
  { off := 0x128, dims := [(32, 0x80)], rws := 0xFFFFFF },
  -- EVL_CMD (W1S)
  { off := 0x12C, dims := [(32, 0x80)], special := .evlCmd },
  -- EVL_STAT (See R440)
  { off := 0x130, dims := [(32, 0x80)], w1c := 0x1C },
  -- EVL_NEXT_LO (RO)
  { off := 0x134, dims := [(32, 0x80)] },
  -- EVL_NEXT_HI (RO)
  { off := 0x138, dims := [(32, 0x80)] },
  -- EVL_SENT (RC)
  { off := 0x13C, dims := [(32, 0x80)], rc := true },
  -- EVL_SKIPPED (RC)
  { off := 0x140, dims := [(32, 0x80)], rc := true },
  -- EVL_TRIG_IGN (RC)
  { off := 0x144, dims := [(32, 0x80)], rc := true }]

/-- Registers of block PRT, part 1 (chapter tables; R85–R90). -/
def prtRows1 : List RegRow := [
  -- PRT_MODE (RWS)
  { off := 0x0, rws := 0x17F, custom := .prtMode },
  -- PRT_LANE_MAP (RWS)
  { off := 0x4, reset := 0xFAC688, rws := 0xFFFFFF, custom := .prtLaneMap },
  -- PRT_LANE_POL (RWS)
  { off := 0x8, rws := 0xFFFF },
  -- PRT_CTRL (See below)
  { off := 0xC, reset := 0x10, rws := 0x13, special := .prtCtrl },
  -- PRT_STAT (RO)
  { off := 0x10 },
  -- PRT_EVT (W1C)
  { off := 0x14, w1c := 0x3FFF },
  -- PRT_ASYM_RX (RWL)
  { off := 0x20, rw := 0xFFFFFF, special := .asymRx },
  -- PRT_ASYM_TX (RWL)
  { off := 0x24, rw := 0xFFFFFF, special := .asymTx },
  -- PRT_CAL_RX (RO)
  { off := 0x30 },
  -- PRT_CAL_TX (RO)
  { off := 0x34 },
  -- PRT_CAL_STAT (RO)
  { off := 0x38 },
  -- PRT_CAL_RX_NOM (RO)
  { off := 0x3C },
  -- PRT_CAL_SKEW (RO)
  { off := 0x40, dims := [(8, 0x4)] },
  -- PRT_CAL_TX_NOM (RO)
  { off := 0x60 },
  -- PRT_DEP_TOL (RWL)
  { off := 0x64, reset := 0x4, rw := 0xFF, checks := [.within 0 8 1 255], special := .depTol },
  -- PRT_SYNCE_TX (RWS)
  { off := 0x80, reset := 0x1, rws := 0x7, checks := [.within 0 3 0 5] },
  -- PRT_ESMC_TX (RWS)
  { off := 0x84, reset := 0xBB0, rws := 0xFF3 },
  -- PRT_ESMC_RX (RO)
  { off := 0x88 },
  -- PRT_TSQ_POP (RC)
  { off := 0xC0, rc := true, special := .tsqPop },
  -- PRT_TSQ_SEC_LO (RO)
  { off := 0xC4 },
  -- PRT_TSQ_SEC_HI (RO)
  { off := 0xC8 },
  -- PRT_TSQ_NS (RO)
  { off := 0xCC },
  -- PRT_TSQ_FRAC (RO)
  { off := 0xD0 },
  -- PRT_HTX_BASE_LO (RW)
  { off := 0x100, rw := 0xFFFFFFFF, custom := .base64 },
  -- PRT_HTX_BASE_HI (RW)
  { off := 0x104, rw := 0xFFFFFFFF },
  -- PRT_HTX_SIZE (RW)
  { off := 0x108, reset := 0x40, rw := 0x1FFF, custom := .ringSize },
  -- PRT_HTX_PROD (RW)
  { off := 0x10C, rw := 0xFFF, special := .htxProd },
  -- PRT_HTX_CONS (RO)
  { off := 0x110 },
  -- PRT_HRX_BASE_LO (RW)
  { off := 0x120, rw := 0xFFFFFFFF, custom := .base64 },
  -- PRT_HRX_BASE_HI (RW)
  { off := 0x124, rw := 0xFFFFFFFF },
  -- PRT_HRX_SIZE (RW)
  { off := 0x128, reset := 0x40, rw := 0x1FFF, custom := .ringSize },
  -- PRT_HRX_PROD (RW)
  { off := 0x12C, rw := 0xFFF, special := .hrxProd },
  -- PRT_HRX_CONS (RO)
  { off := 0x130 },
  -- PRT_SLOW_RATE (RWS)
  { off := 0x140, reset := 0x186A0, rws := 0xFFFFFF },
  -- PRT_RX_FRAMES (RC)
  { off := 0x200, rc := true },
  -- PRT_TX_FRAMES (RC)
  { off := 0x204, rc := true },
  -- PRT_DROP_FCS (RC)
  { off := 0x208, rc := true },
  -- PRT_DROP_FRAG (RC)
  { off := 0x20C, rc := true },
  -- PRT_DROP_LINK (RC)
  { off := 0x210, rc := true },
  -- PRT_DROP_PAUSE (RC)
  { off := 0x214, rc := true }]

/-- Registers of block PRT, part 2 (chapter tables; R85–R90). -/
def prtRows2 : List RegRow := [
  -- PRT_FEC_CORR (RC)
  { off := 0x218, rc := true },
  -- PRT_FEC_UNCORR (RC)
  { off := 0x21C, rc := true },
  -- PRT_TSQ_LOST (RC)
  { off := 0x220, rc := true },
  -- PRT_DEP_DEV (RC)
  { off := 0x224, rc := true },
  -- PRT_SLOW_DROP (RC)
  { off := 0x228, rc := true },
  -- PRT_HOST_RX_DROP (RC)
  { off := 0x22C, rc := true }]

/-- Registers of block PRT. -/
def prtRows : List RegRow := prtRows1 ++ prtRows2

/-- Registers of block CLS (chapter tables; R131). -/
def clsRows : List RegRow := [
  -- CLS_CTRL (RWS)
  { off := 0x0, reset := 0x3, rws := 0xFF07 },
  -- CLS_RESEED (W1S)
  { off := 0x4, special := .clsReseed },
  -- CLS_SEED_STAT (RO)
  { off := 0x8 },
  -- CLS_STEAL (RWS)
  { off := 0x10, reset := 0x42010, rws := 0x7FFFF, checks := [.within 0 8 1 255, .within 8 8 1 255, .within 16 3 1 4] },
  -- CLS_STEAL_HOPS (RWS)
  { off := 0x14, reset := 0x2AA, rws := 0x3FF, checks := [.within 0 2 0 2, .within 2 2 0 2, .within 4 2 0 2, .within 6 2 0 2, .within 8 2 0 2] },
  -- CLS_DISP_GUARD (RWS)
  { off := 0x18, reset := 0x4, rws := 0xFF },
  -- CLS_HOT_TRIP (RWS)
  { off := 0x20, reset := 0x6400C0, rws := 0xFFFF01FF, checks := [.within 0 9 1 255, .within 16 16 1 65535] },
  -- CLS_SPRAY_EXIT (RWS)
  { off := 0x24, reset := 0x3E82580, rws := 0xFFFFFFFF },
  -- CLS_SPRAY_SHARE (RWS)
  { off := 0x28, reset := 0x4, rws := 0xF, checks := [.within 0 4 1 8] },
  -- CLS_SPRAY_STAT (RO)
  { off := 0x30 },
  -- CLS_SPRAY_ENTRIES (RC)
  { off := 0x34, rc := true },
  -- CLS_HOME_MAP (RO)
  { off := 0x40, dims := [(8, 0x4)], resets := [0x03020100, 0x07060504, 0x0B0A0908, 0x0F0E0D0C, 0x13121110, 0x17161514, 0x1B1A1918, 0x1F1E1D1C] }]

/-- Registers of block CEL (chapter tables; R132). -/
def celRows : List RegRow := [
  -- CEL_STAT (RO)
  { off := 0x0, reset := 0xFFFF },
  -- CEL_DEPTH_MAX (RC)
  { off := 0x4, rc := true },
  -- CEL_CELL_DIS (RWS)
  { off := 0x8, rws := 0xFFFF },
  -- CEL_TORUS (RO)
  { off := 0xC },
  -- CEL_DISPATCHED (RC)
  { off := 0x10, rc := true },
  -- CEL_STOLEN_IN1 (RC)
  { off := 0x14, rc := true },
  -- CEL_STOLEN_IN2 (RC)
  { off := 0x18, rc := true },
  -- CEL_STOLEN_OUT (RC)
  { off := 0x1C, rc := true },
  -- CEL_SQUASH (RC)
  { off := 0x20, rc := true },
  -- CEL_DROP_QFULL (RC)
  { off := 0x24, rc := true },
  -- CEL_DROP_FSTORE (RC)
  { off := 0x28, rc := true },
  -- CEL_DROP_EXPIRED (RC)
  { off := 0x2C, rc := true },
  -- CEL_LATE_DISP (RC)
  { off := 0x30, dims := [(4, 0x4)], rc := true },
  -- CEL_RECOMPOSE (RC)
  { off := 0x40, rc := true },
  -- CEL_DROP_PRIO (RC)
  { off := 0x44, rc := true },
  -- CEL_DROP_RETIRE (RC)
  { off := 0x48, rc := true },
  -- CEL_SPRAY_IN (RC)
  { off := 0x4C, rc := true },
  -- CEL_HOT_DWELL (RO)
  { off := 0x50 },
  -- CEL_MC_VER (RO)
  { off := 0x60 }]

/-- Registers of block DEP (chapter tables; R157). -/
def depRows : List RegRow := [
  -- DEP_D_A (RWS)
  { off := 0x0, rws := 0xFFFFFFFF, checks := [.within 0 16 0 32767, .within 16 16 0 32767] },
  -- DEP_D_B (RWS)
  { off := 0x4, rws := 0xFFFFFFFF, checks := [.within 0 16 0 32767, .within 16 16 0 32767] },
  -- DEP_TIER_STEP (RWS)
  { off := 0x8, reset := 0x100, rws := 0xFFF, checks := [.within 0 12 16 4095] },
  -- DEP_BE_CTRL (RWS)
  { off := 0xC, reset := 0x10064, rws := 0x1FFFF, checks := [.within 0 16 1 65535] },
  -- DEP_STAT (RO)
  { off := 0x10 },
  -- DEP_D_EFF_A (RO)
  { off := 0x14 },
  -- DEP_D_EFF_B (RO)
  { off := 0x18 },
  -- DEP_CAL_OCC (RO)
  { off := 0x20 },
  -- DEP_CAL_MAX (RC)
  { off := 0x24, rc := true },
  -- DEP_TIER (RC)
  { off := 0x30, dims := [(4, 0x4)], rc := true },
  -- DEP_SENT (RC)
  { off := 0x40, rc := true },
  -- DEP_RET_BUSY (RC)
  { off := 0x44, rc := true },
  -- DEP_RET_LATE (RC)
  { off := 0x48, rc := true },
  -- DEP_RET_FULL (RC)
  { off := 0x4C, rc := true },
  -- DEP_RET_BE (RC)
  { off := 0x50, rc := true },
  -- DEP_DROP_TIER (RC)
  { off := 0x54, rc := true },
  -- DEP_DROP_STEP (RC)
  { off := 0x58, rc := true },
  -- DEP_DROP_HORIZON (RC)
  { off := 0x5C, rc := true },
  -- DEP_BE_SENT (RC)
  { off := 0x60, rc := true },
  -- DEP_BE_WAIT_MAX (RC)
  { off := 0x64, rc := true },
  -- DEP_BE_RESERVE (RC)
  { off := 0x68, rc := true }]

/-- Registers of block SRV, part 1 (chapter tables; R198–R200, R222, R257–R259). -/
def srvRows1 : List RegRow := [
  -- SRV_NTP_CTRL (RWS)
  { off := 0x0, reset := 0x400012, rws := 0xFF3F1F, checks := [.within 0 4 2 15] },
  -- SRV_NTP_HOLD_STRAT_LIMIT (RWS)
  { off := 0x4, reset := 0x3E8, rws := 0xFFFFFFFF },
  -- SRV_NTP_HOLD_UNSYNC_LIMIT (RWS)
  { off := 0x8, reset := 0xF4240, rws := 0xFFFFFFFF },
  -- SRV_NTP_DISP_BASE (RWS)
  { off := 0xC, reset := 0x1F4, rws := 0xFFFFFF },
  -- SRV_NTP_HOLD_REFID (RWS)
  { off := 0x10, reset := 0x7F7F0100, rws := 0xFFFFFFFF },
  -- SRV_NTP_LI_LEAD (RWS)
  { off := 0x14, reset := 0x15180, rws := 0x3FFFFF, checks := [.within 0 22 0 2678400] },
  -- SRV_NTP_SMEAR (RWS)
  { off := 0x18, reset := 0x15180, rws := 0x3FFFF, checks := [.within 0 18 3600 172800] },
  -- SRV_NTP_STATE (RO)
  { off := 0x20 },
  -- SRV_NTP_REF_CFG (RWS)
  { off := 0x40, dims := [(6, 0x8)], reset := 0x1, rws := 0xF, checks := [.within 0 4 1 15] },
  -- SRV_NTP_REF_ID (RWS)
  { off := 0x44, dims := [(6, 0x8)], rws := 0xFFFFFFFF, resets := [0x474E5353, 0x50505300, 0x41544F4D, 0x50545000, 0x53594E43, 0x544F4400] },
  -- SRV_NTP_CLASS_A (RWS)
  { off := 0x80, dims := [(16, 0x8)], reset := 0x80010, rws := 0xFFFFFFFF },
  -- SRV_NTP_CLASS_B (RWS)
  { off := 0x84, dims := [(16, 0x8)], reset := 0x224, rws := 0x7FF, checks := [.within 0 5 0 17], resets := [0x24] },
  -- SRV_AGG_RATE (RWS)
  { off := 0x100, dims := [(3, 0x8)], reset := 0x989680, rws := 0xFFFFFFFF },
  -- SRV_AGG_BURST (RWS)
  { off := 0x104, dims := [(3, 0x8)], reset := 0x2710, rws := 0xFFFFFFFF },
  -- SRV_AGG_RATE (RWS)
  { off := 0x118, reset := 0x989680, rws := 0xFFFFFFFF },
  -- SRV_AGG_BURST (RWS)
  { off := 0x11C, reset := 0x2710, rws := 0xFFFFFFFF },
  -- SRV_AGG_RATE (RWS)
  { off := 0x120, reset := 0x989680, rws := 0xFFFFFFFF },
  -- SRV_AGG_BURST (RWS)
  { off := 0x124, reset := 0x2710, rws := 0xFFFFFFFF },
  -- SRV_NTS_CTRL (RWS)
  { off := 0x140, rws := 0x1 },
  -- SRV_NTS_ROTATE (RWS)
  { off := 0x144, reset := 0x15180, rws := 0xFFFFF, checks := [.within 0 20 3600 604800] },
  -- SRV_NTS_KEYID_CUR (RO)
  { off := 0x148 },
  -- SRV_NTS_KEYID_PREV1 (RO)
  { off := 0x14C },
  -- SRV_NTS_KEYID_PREV2 (RO)
  { off := 0x150 },
  -- SRV_NTS_NEXT_LO (RO)
  { off := 0x154 },
  -- SRV_NTS_NEXT_HI (RO)
  { off := 0x158 },
  -- SRV_NTSKE_CTRL (RWS)
  { off := 0x160, reset := 0x800, rws := 0x1FFF, checks := [.within 8 4 1 15] },
  -- SRV_NTSKE_STAT (RO)
  { off := 0x164 },
  -- SRV_RULE_IDX (RW)
  { off := 0x200, rw := 0x1FFF },
  -- SRV_RULE_CMD (W1S)
  { off := 0x204, special := .ruleCmd },
  -- SRV_RULE_STAT (RO)
  { off := 0x208 },
  -- SRV_RULE_DATA (RW)
  { off := 0x220, dims := [(8, 0x4)], rw := 0xFFFFFFFF },
  -- SRV_NTP_ANS_PLAIN (RC)
  { off := 0x400, rc := true },
  -- SRV_NTP_ANS_CMAC (RC)
  { off := 0x404, rc := true },
  -- SRV_NTP_ANS_NTS (RC)
  { off := 0x408, rc := true },
  -- SRV_NTP_KISS_RATE (RC)
  { off := 0x40C, rc := true },
  -- SRV_NTP_KISS_DENY (RC)
  { off := 0x410, rc := true },
  -- SRV_NTP_KISS_RSTR (RC)
  { off := 0x414, rc := true },
  -- SRV_NTP_KISS_CRYP (RC)
  { off := 0x418, rc := true },
  -- SRV_NTP_KISS_NTSN (RC)
  { off := 0x41C, rc := true },
  -- SRV_NTP_DROP_MODE (RC)
  { off := 0x420, rc := true }]

/-- Registers of block SRV, part 2 (chapter tables; R198–R200, R222, R257–R259). -/
def srvRows2 : List RegRow := [
  -- SRV_NTP_DROP_PARSE (RC)
  { off := 0x424, rc := true },
  -- SRV_NTP_DROP_POLICY (RC)
  { off := 0x428, rc := true },
  -- SRV_NTP_DROP_AUTH (RC)
  { off := 0x42C, rc := true },
  -- SRV_NTP_DROP_UNTRACE (RC)
  { off := 0x430, rc := true },
  -- SRV_NTP_DROP_AGG (RC)
  { off := 0x434, rc := true },
  -- SRV_NTP_DROP_KEYCHG (RC)
  { off := 0x438, rc := true },
  -- SRV_NTS_COOKIES (RC)
  { off := 0x43C, rc := true },
  -- SRV_NTS_OLDKEY (RC)
  { off := 0x440, rc := true },
  -- SRV_NTSKE_DONE (RC)
  { off := 0x444, rc := true },
  -- SRV_NTSKE_FAIL (RC)
  { off := 0x448, rc := true },
  -- SRV_NTSKE_REFUSED (RC)
  { off := 0x44C, rc := true },
  -- SRV_NTP_BCAST_SENT (RC)
  { off := 0x450, rc := true },
  -- SRV_RT_CTRL (RWS)
  { off := 0x600, reset := 0x8000006, rws := 0x1FFF0007, checks := [.within 16 13 1 4096] },
  -- SRV_RT_PORT (RWS)
  { off := 0x604, reset := 0x7D2, rws := 0xFFFF, checks := [.within 0 16 1 65535] },
  -- SRV_RT_WINDOW (RWS)
  { off := 0x608, reset := 0x3E8, rws := 0x1FFFF, checks := [.within 0 17 100 100000] },
  -- SRV_RT_SEAL (RWS)
  { off := 0x60C, reset := 0x4E20, rws := 0xFFFF, checks := [.within 0 16 1000 65535] },
  -- SRV_RT_SIGN (RWS)
  { off := 0x610, reset := 0xA02FF, rws := 0xFFFF07FF, checks := [.within 0 8 1 255, .within 8 3 1 4, .within 16 16 1 1000] },
  -- SRV_RT_RADI_BASE (RWS)
  { off := 0x614, reset := 0x3E8, rws := 0xFFFFFF },
  -- SRV_RT_RADI_UNSYNC (RWS)
  { off := 0x618, reset := 0xFFFFFFFF, rws := 0xFFFFFFFF },
  -- SRV_RT_DELE (RWS)
  { off := 0x620, reset := 0x15180, rws := 0xFFFFF, checks := [.within 0 20 3600 604800] },
  -- SRV_RT_DELE_OVL (RWS)
  { off := 0x624, reset := 0xE10, rws := 0xFFFF, checks := [.within 0 16 0 43200] },
  -- SRV_RT_KEY (RWS)
  { off := 0x628, reset := 0xF2F1F0, rws := 0xFFFFFF, custom := .rtKey },
  -- SRV_RT_STAT (RO)
  { off := 0x630 },
  -- SRV_RT_MAXT_LO (RO)
  { off := 0x638 },
  -- SRV_RT_MAXT_HI (RO)
  { off := 0x63C },
  -- SRV_RT_ANS (RC)
  { off := 0x680, rc := true },
  -- SRV_RT_CARAFES (RC)
  { off := 0x684, rc := true },
  -- SRV_RT_DROP_PARSE (RC)
  { off := 0x688, rc := true },
  -- SRV_RT_DROP_POLICY (RC)
  { off := 0x68C, rc := true },
  -- SRV_RT_DROP_AGG (RC)
  { off := 0x690, rc := true },
  -- SRV_RT_DROP_UNTRACE (RC)
  { off := 0x694, rc := true },
  -- SRV_RT_DROP_RING (RC)
  { off := 0x698, rc := true },
  -- SRV_RT_DROP_STALE (RC)
  { off := 0x69C, rc := true },
  -- SRV_RT_DROP_FAULT (RC)
  { off := 0x6A0, rc := true },
  -- SRV_RT_DROP_NODELE (RC)
  { off := 0x6A4, rc := true },
  -- SRV_RT_DROP_INTR (RC)
  { off := 0x6A8, rc := true },
  -- SRV_RT_LATE_LEAF (RC)
  { off := 0x6AC, rc := true },
  -- SRV_RT_SIZE_CLOSE (RC)
  { off := 0x6B0, rc := true },
  -- SRV_RT_CLOSE_DEFER (RC)
  { off := 0x6B4, rc := true },
  -- SRV_RT_RING (RO)
  { off := 0x700, dims := [(32, 0x4)] }]

/-- Registers of block SRV, part 3 (chapter tables; R198–R200, R222, R257–R259). -/
def srvRows3 : List RegRow := [
  -- SRV_PTP_PCFG (RWS)
  { off := 0x800, dims := [(8, 0x20)], rws := 0xFFFF7F, custom := .ptpPcfg },
  -- SRV_PTP_PRATE (RWS)
  { off := 0x804, dims := [(8, 0x20)], reset := 0x100, rws := 0xFFFFFF, custom := .ptpPrate },
  -- SRV_PTP_TX_KEYID (RWS)
  { off := 0x808, dims := [(8, 0x20)], rws := 0xFFFFFFFF },
  -- SRV_PTP_UC_SPACE (RWS)
  { off := 0x80C, dims := [(8, 0x20)], rws := 0xFFFF, custom := .ucSpace },
  -- SRV_PTP_PSTAT (RO)
  { off := 0x810, dims := [(8, 0x20)] },
  -- SRV_PTP_SYNC_SEQ (RO)
  { off := 0x814, dims := [(8, 0x20)] },
  -- SRV_PTP_FOREIGN (RO)
  { off := 0x818, dims := [(8, 0x20)] },
  -- SRV_PTP_CLOCKID_LO (RWS)
  { off := 0x900, rws := 0xFFFFFFFF },
  -- SRV_PTP_CLOCKID_HI (RWS)
  { off := 0x904, rws := 0xFFFFFFFF },
  -- SRV_PTP_GM_PRIO (RWS)
  { off := 0x908, reset := 0x8080, rws := 0xFFFF },
  -- SRV_PTP_HOLD_CLASS_LIMIT (RWS)
  { off := 0x90C, reset := 0x3E8, rws := 0xFFFFFFFF },
  -- SRV_PTP_OOS_CLASS (RWS)
  { off := 0x910, reset := 0x8C34, rws := 0xFFFF, checks := [.oneOf 0 8 [52, 187], .oneOf 8 8 [140, 150, 160]] },
  -- SRV_PTP_OSLV (RWS)
  { off := 0x914, reset := 0xFFFF4E5D, rws := 0xFFFFFFFF },
  -- SRV_PTP_ACC_BASE (RWS)
  { off := 0x918, reset := 0x64, rws := 0xFFFFFF },
  -- SRV_PTP_TSRC_A (RWS)
  { off := 0x91C, reset := 0x40101020, rws := 0xFFFFFFFF },
  -- SRV_PTP_TSRC_B (RWS)
  { off := 0x920, reset := 0x3990, rws := 0xFFFF },
  -- SRV_PTP_LEAP_LEAD (RWS)
  { off := 0x924, reset := 0xA8C0, rws := 0x1FFFF, checks := [.within 0 17 0 86400] },
  -- SRV_PTP_UC_DUR (RWS)
  { off := 0x928, reset := 0x12C000A, rws := 0xFFFFFFFF, custom := .ucDur },
  -- SRV_PTP_UC_LOG (RWS)
  { off := 0x92C, reset := 0xF9FDF9, rws := 0xFFFFFF, checks := [.signedIn 0 8 (-7) 0, .signedIn 8 8 (-7) 0, .signedIn 16 8 (-7) 0] },
  -- SRV_PTP_UC_STAT (RO)
  { off := 0x930 },
  -- SRV_PTP_STATE (RO)
  { off := 0x934, reset := 0xA0FEF8F8 },
  -- SRV_PTP_GR_IDX (RW)
  { off := 0xA00, rw := 0xFFFF },
  -- SRV_PTP_GR_CMD (W1S)
  { off := 0xA04, special := .grCmd },
  -- SRV_PTP_GR_STAT (RO)
  { off := 0xA08 },
  -- SRV_PTP_GR_DATA (RO)
  { off := 0xA40, dims := [(16, 0x4)] },
  -- SRV_PTP_CL_CFG (RWS)
  { off := 0xB00, dims := [(2, 0x80)], reset := 0x80000000, rws := 0xFF03FFFF, custom := .clCfg },
  -- SRV_PTP_CL_SERVO (RWS)
  { off := 0xB04, dims := [(2, 0x80)], reset := 0x64400A, rws := 0xFFFFFFFF, checks := [.within 0 8 1 100, .within 8 8 16 255] },
  -- SRV_PTP_CL_LIMITS (RWS)
  { off := 0xB08, dims := [(2, 0x80)], reset := 0x30703E8, rws := 0x7FFFFFF, checks := [.within 16 8 6 255, .within 24 3 2 7] },
  -- SRV_PTP_CL_ASYM (RWS)
  { off := 0xB0C, dims := [(2, 0x80)], rws := 0xFFFFFF },
  -- SRV_PTP_CL_RATE (RWS)
  { off := 0xB10, dims := [(2, 0x80)], reset := 0xFDFCFC, rws := 0xFFFFFF },
  -- SRV_PTP_CL_AUTH (RWS)
  { off := 0xB14, dims := [(2, 0x80)], rws := 0xFF },
  -- SRV_PTP_CL_KEYID (RWS)
  { off := 0xB18, dims := [(2, 0x80)], rws := 0xFFFFFFFF },
  -- SRV_PTP_CL_STAT (RO)
  { off := 0xB1C, dims := [(2, 0x80)] },
  -- SRV_PTP_CL_MPD_LO (RO)
  { off := 0xB20, dims := [(2, 0x80)] },
  -- SRV_PTP_CL_MPD_HI (RO)
  { off := 0xB24, dims := [(2, 0x80)] },
  -- SRV_PTP_CL_OFFSET_LO (RO)
  { off := 0xB28, dims := [(2, 0x80)] },
  -- SRV_PTP_CL_OFFSET_HI (RO)
  { off := 0xB2C, dims := [(2, 0x80)] },
  -- SRV_PTP_CL_FREQ_LO (RO)
  { off := 0xB30, dims := [(2, 0x80)] },
  -- SRV_PTP_CL_FREQ_HI (RO)
  { off := 0xB34, dims := [(2, 0x80)] },
  -- SRV_PTP_CL_MASTER_LO (RO)
  { off := 0xB38, dims := [(2, 0x80)] }]

/-- Registers of block SRV, part 4 (chapter tables; R198–R200, R222, R257–R259). -/
def srvRows4 : List RegRow := [
  -- SRV_PTP_CL_MASTER_HI (RO)
  { off := 0xB3C, dims := [(2, 0x80)] },
  -- SRV_PTP_CL_MASTER_PORT (RO)
  { off := 0xB40, dims := [(2, 0x80)] },
  -- SRV_PTP_CL_DUR (RWS)
  { off := 0xB44, dims := [(2, 0x80)], reset := 0x12C, rws := 0xFFFF, checks := [.within 0 16 10 1000] },
  -- SRV_PTP_CL_UMT (RWS)
  { off := 0xB50, dims := [(2, 0x80), (3, 0x10), (4, 0x4)], rws := 0xFFFFFFFF },
  -- SRV_PTP_DRESP (RC)
  { off := 0xC00, rc := true },
  -- SRV_PTP_SYNC_SENT (RC)
  { off := 0xC04, rc := true },
  -- SRV_PTP_SYNC_DROP (RC)
  { off := 0xC08, rc := true },
  -- SRV_PTP_FU_SENT (RC)
  { off := 0xC0C, rc := true },
  -- SRV_PTP_ANN_SENT (RC)
  { off := 0xC10, rc := true },
  -- SRV_PTP_DROP_PARSE (RC)
  { off := 0xC14, rc := true },
  -- SRV_PTP_DROP_POLICY (RC)
  { off := 0xC18, rc := true },
  -- SRV_PTP_DROP_NOGRANT (RC)
  { off := 0xC1C, rc := true },
  -- SRV_PTP_DROP_GRANTRATE (RC)
  { off := 0xC20, rc := true },
  -- SRV_PTP_DROP_AGG (RC)
  { off := 0xC24, rc := true },
  -- SRV_PTP_DROP_UNTRACE (RC)
  { off := 0xC28, rc := true },
  -- SRV_PTP_DROP_AUTH (RC)
  { off := 0xC2C, rc := true },
  -- SRV_PTP_DROP_KEYCHG (RC)
  { off := 0xC30, rc := true },
  -- SRV_PTP_DROP_OTHER (RC)
  { off := 0xC34, rc := true },
  -- SRV_PTP_GRANT (RC)
  { off := 0xC38, rc := true },
  -- SRV_PTP_DENY (RC)
  { off := 0xC3C, rc := true },
  -- SRV_PTP_DENY_FULL (RC)
  { off := 0xC40, rc := true },
  -- SRV_PTP_CANCEL (RC)
  { off := 0xC44, rc := true },
  -- SRV_PTP_CL_OUTLIERS (RC)
  { off := 0xC48, rc := true },
  -- SRV_PTP_CL_DROP_AUTH (RC)
  { off := 0xC4C, rc := true }]

/-- Registers of block SRV. -/
def srvRows : List RegRow := srvRows1 ++ srvRows2 ++ srvRows3 ++ srvRows4

/-- Registers of block KEY (chapter tables; R287, R294). -/
def keyRows : List RegRow := [
  -- KEY_PERM (RWS)
  { off := 0x0, reset := 0x2121, rws := 0xFFFF, secure := true },
  -- KEY_SLOT_IDX (RW)
  { off := 0x10, rw := 0xFF, banked := true },
  -- KEY_SLOT_CMD (W1S)
  { off := 0x14, special := .slotCmd },
  -- KEY_SLOT_STAT (RO)
  { off := 0x18 },
  -- KEY_SLOT_ATTR0 (RO)
  { off := 0x1C },
  -- KEY_SLOT_ATTR1 (RO)
  { off := 0x20 },
  -- KEY_SLOT_LABEL (RO)
  { off := 0x24 },
  -- KEY_SLOT_NBF_LO (RO)
  { off := 0x28 },
  -- KEY_SLOT_NBF_HI (RO)
  { off := 0x2C },
  -- KEY_SLOT_NAF_LO (RO)
  { off := 0x30 },
  -- KEY_SLOT_NAF_HI (RO)
  { off := 0x34 },
  -- KEY_OCC (RO)
  { off := 0x40 },
  -- KEY_IMPORTS (RC)
  { off := 0x44, rc := true },
  -- KEY_IMPORT_FAIL (RC)
  { off := 0x48, rc := true },
  -- KEY_NTS_RING (RO)
  { off := 0x50, reset := 0xE4 },
  -- KEY_SLOT_PUB (RO)
  { off := 0x1000, dims := [(256, 0x4)] },
  -- KEY_DUK_PUB (RO)
  { off := 0x2000, dims := [(24, 0x4)] },
  -- KEY_DUK_ID_LO (RO)
  { off := 0x2060 },
  -- KEY_DUK_ID_HI (RO)
  { off := 0x2064 },
  -- KEY_DUK_SIG (RO)
  { off := 0x2080, dims := [(24, 0x4)] },
  -- KEY_SYM_IDX (RW)
  { off := 0x4000, rw := 0xFFFF, banked := true },
  -- KEY_SYM_CMD (W1S)
  { off := 0x4004, special := .symCmd },
  -- KEY_SYM_STAT (RO)
  { off := 0x4008, banked := true },
  -- KEY_SYM_KEY (WK)
  { off := 0x4010, dims := [(4, 0x4)], rw := 0xFFFFFFFF, special := .symKey, banked := true },
  -- KEY_PTP_IDX (RW)
  { off := 0x5000, rw := 0xFF, banked := true },
  -- KEY_PTP_CMD (W1S)
  { off := 0x5004, special := .ptpCmd },
  -- KEY_PTP_STAT (RO)
  { off := 0x5008, banked := true },
  -- KEY_PTP_ID (RW)
  { off := 0x500C, rw := 0xFFFFFFFF, banked := true },
  -- KEY_PTP_SPP (RW)
  { off := 0x5010, rw := 0xFF, banked := true },
  -- KEY_PTP_KEY (WK)
  { off := 0x5020, dims := [(8, 0x4)], rw := 0xFFFFFFFF, special := .ptpKey, banked := true }]

/-- Registers of block PKE (chapter tables; R277, R295, R296). -/
def pkeRows : List RegRow := [
  -- PKE_CTRL (RWS)
  { off := 0x0, rws := 0x1 },
  -- PKE_STAT (RO)
  { off := 0x4, reset := 0x3, w1c := 0x80 },
  -- PKE_JOB_W (RW)
  { off := 0x10, dims := [(8, 0x4)], rw := 0xFFFFFFFF, special := .pkeJobW, banked := true },
  -- PKE_JOB_GO (W1S)
  { off := 0x30, special := .pkeGo },
  -- PKE_SUB_STAT (RO)
  { off := 0x34, banked := true },
  -- PKE_ABORT (WO)
  { off := 0x38, special := .pkeAbort },
  -- PKE_CPL_POP (RC)
  { off := 0x3C, rc := true, special := .cplPop },
  -- PKE_MC_VER (RO)
  { off := 0x40 },
  -- PKE_JOBS (RC)
  { off := 0x50, rc := true },
  -- PKE_FAULTS (RC)
  { off := 0x54, rc := true },
  -- PKE_ABORTS (RC)
  { off := 0x58, rc := true },
  -- PKE_WIPES (RC)
  { off := 0x5C, rc := true },
  -- PKE_REFUSED (RC)
  { off := 0x60, rc := true },
  -- PKE_SUB_REFUSED (RC)
  { off := 0x64, rc := true },
  -- PKE_BUSY (RC)
  { off := 0x68, rc := true }]

/-- Registers of block CLT (chapter tables; R127). -/
def cltRows : List RegRow := [
  -- CLT_WIN_IDX (RW)
  { off := 0x0, rw := 0x1FFFFF, checks := [.within 0 21 0 1052671] },
  -- CLT_WIN_CMD (W1S)
  { off := 0x4, special := .cltWinCmd },
  -- CLT_WIN_STAT (RO)
  { off := 0x8 },
  -- CLT_WIN_DATA (RO)
  { off := 0x20, dims := [(8, 0x4)] },
  -- CLT_OCC (RO)
  { off := 0x40 },
  -- CLT_CAM_OCC (RO)
  { off := 0x44 },
  -- CLT_UNTRACKED (RC)
  { off := 0x48, rc := true },
  -- CLT_IDLE (RWS)
  { off := 0x4C, reset := 0x40, rws := 0xFFFF },
  -- CLT_FLUSH (W1S)
  { off := 0x50, special := .cltFlush },
  -- CLT_COMBINED (RC)
  { off := 0x54, rc := true }]
/-- A block of the address map (R479): `count` instances of `stride` bytes from `base`, and the event
that its refused writes raise. -/
structure Block where
  base : Nat
  count : Nat := 1
  stride : Nat := 0x10000
  rows : List RegRow
  refusedEv : Nat
  deriving DecidableEq, Repr

/-- The address map of R479. -/
def blocks : List Block := [
  { base := 0x0000000, rows := glbRows, refusedEv := 0 },
  { base := 0x0010000, rows := cfgRows, refusedEv := 3 },
  { base := 0x0020000, rows := evtRows, refusedEv := 24 },
  { base := 0x0030000, rows := cntRows, refusedEv := 245 },
  { base := 0x0040000, rows := mbxRows, refusedEv := 238 },
  { base := 0x0100000, rows := tscRows, refusedEv := 11 },
  { base := 0x0200000, rows := refRows, refusedEv := 40 },
  { base := 0x0300000, rows := clkRows, refusedEv := 52 },
  { base := 0x0400000, rows := gnsRows, refusedEv := 77 },
  { base := 0x0500000, stride := 0x8000, rows := timRows, refusedEv := 229 },
  { base := 0x0580000, stride := 0x8000, rows := evlRows, refusedEv := 229 },
  { base := 0x0600000, count := 8, rows := prtRows, refusedEv := 100 },
  { base := 0x0800000, rows := clsRows, refusedEv := 150 },
  { base := 0x0900000, count := 32, rows := celRows, refusedEv := 150 },
  { base := 0x0B00000, count := 8, stride := 0x1000, rows := depRows, refusedEv := 146 },
  { base := 0x0C00000, rows := srvRows, refusedEv := 164 },
  { base := 0x1000000, rows := keyRows, refusedEv := 193 },
  { base := 0x1100000, count := 8, rows := pkeRows, refusedEv := 193 },
  { base := 0x2000000, rows := cltRows, refusedEv := 150 }]

/-- The indices of an offset within a row's instances, or none if the offset is not one of them. -/
def decodeDims : List (Nat × Nat) → Nat → Option (List Nat)
  | [], r => if r = 0 then some [] else none
  | (n, st) :: ds, r =>
    if r / st < n then
      match decodeDims ds (r % st) with
      | some is => some (r / st :: is)
      | none => none
    else none

/-- The row of a block that covers an offset, with its indices. -/
def findRow : List RegRow → Nat → Option (RegRow × List Nat)
  | [], _ => none
  | row :: rows, off =>
    if off < row.off then findRow rows off
    else match decodeDims row.dims (off - row.off) with
      | some is => some (row, is)
      | none => findRow rows off

/-- What stands at a BAR0 address: an unmapped address (R11), a mapped offset that no table lists (R479),
or a register with its block's instance and its indices. -/
inductive Target where
  | unmapped
  | hole
  | reg (row : RegRow) (blk : Block) (inst : Nat) (idx : List Nat)
  deriving DecidableEq, Repr

/-- Resolving a BAR0 address through the map of R479. -/
def resolve : List Block → Nat → Target
  | [], _ => .unmapped
  | b :: bs, a =>
    if b.base ≤ a ∧ a < b.base + b.count * b.stride then
      match findRow b.rows ((a - b.base) % b.stride) with
      | some (row, is) => .reg row b ((a - b.base) / b.stride) is
      | none => .hole
    else resolve bs a

/-- Value a row's instance holds after a reset of the core domain. -/
def RegRow.resetVal (row : RegRow) (idx : List Nat) : Nat :=
  row.resets.getD (idx.headD 0) row.reset

/-- The reset value of the register at an address (R9, chapter tables). -/
def resetWord (a : Nat) : Nat :=
  match resolve blocks a with
  | .reg row _ _ idx => row.resetVal idx
  | _ => 0

/-- The reset value of the RWS bits of the register at an address (R481). -/
def resetRws (a : Nat) : Nat :=
  match resolve blocks a with
  | .reg row _ _ idx => row.resetVal idx &&& row.rws
  | _ => 0

/-- The reset value of the other bits. -/
def resetLive (a : Nat) : Nat :=
  match resolve blocks a with
  | .reg row _ _ idx => row.resetVal idx &&& (2 ^ 32 - 1 - row.rws)
  | _ => 0

end Sys2Proof.Machine
end

