-- ==== Sys2Proof/Machine/Addr.lean ====
section
/-!
DEFINITION. The BAR0 address of every register, under the manual's own name. Arguments are the block's
instance first, where the block has several, and then the register's indices, each counted from 0
(so `Reg.DEP_TIER n k` with `k` = 0 is DEP_TIER(n, 1), and `Reg.CLK_DPLL_CFG x` with `x` = 0 is
CLK_DPLL_CFG(1)).
-/

namespace Sys2Proof.Machine.Reg

def TSC_DT_SEC_LO : Nat := 0x0100000
def TSC_DT_SEC_HI : Nat := 0x0100004
def TSC_DT_NS : Nat := 0x0100008
def TSC_DT_FRAC : Nat := 0x010000C
def TSC_ST64_LO : Nat := 0x0100010
def TSC_ST64_HI : Nat := 0x0100014
def TSC_DT_STATE : Nat := 0x0100020
def TSC_DCO_FREQ_LO : Nat := 0x0100030
def TSC_DCO_FREQ_HI : Nat := 0x0100034
def TSC_STEP_LAST_LO : Nat := 0x0100040
def TSC_STEP_LAST_HI : Nat := 0x0100044
def TSC_STEP_AT_LO : Nat := 0x0100048
def TSC_STEP_AT_HI : Nat := 0x010004C
def TSC_STEP_STAT : Nat := 0x0100050
def TSC_STEP_SQUASH : Nat := 0x0100054
def TSC_LEAP_OFFSET : Nat := 0x0100100
def TSC_LEAP_PEND : Nat := 0x0100104
def TSC_LEAP_AT_LO : Nat := 0x0100108
def TSC_LEAP_AT_HI : Nat := 0x010010C
def TSC_LEAP_HOST_AT_LO : Nat := 0x0100110
def TSC_LEAP_HOST_AT_HI : Nat := 0x0100114
def TSC_LEAP_HOST_CMD : Nat := 0x0100118
def TSC_LEAP_POLICY : Nat := 0x0100120
def TSC_RTC_SEC_LO : Nat := 0x0100200
def TSC_RTC_SEC_HI : Nat := 0x0100204
def TSC_RTC_SUB : Nat := 0x0100208
def TSC_RTC_STAT : Nat := 0x010020C
def TSC_RTC_UNC : Nat := 0x0100210
def TSC_TIME_FLOOR_LO : Nat := 0x0100214
def TSC_TIME_FLOOR_HI : Nat := 0x0100218
def TSC_CS_FIRE_MAP (i : Nat) : Nat := 0x0100800 + 0x4 * i
def TSC_CS_TIME_LO (i : Nat) : Nat := 0x0101000 + 0x20 * i
def TSC_CS_TIME_HI (i : Nat) : Nat := 0x0101004 + 0x20 * i
def TSC_CS_PERIOD_LO (i : Nat) : Nat := 0x0101008 + 0x20 * i
def TSC_CS_PERIOD_HI (i : Nat) : Nat := 0x010100C + 0x20 * i
def TSC_CS_CTRL (i : Nat) : Nat := 0x0101010 + 0x20 * i
def TSC_CS_STAT (i : Nat) : Nat := 0x0101014 + 0x20 * i
def TSC_CS_FIRED_LO (i : Nat) : Nat := 0x0101018 + 0x20 * i
def TSC_CS_FIRED_HI (i : Nat) : Nat := 0x010101C + 0x20 * i
def PRT_MODE (n : Nat) : Nat := 0x0600000 + 0x10000 * n
def PRT_LANE_MAP (n : Nat) : Nat := 0x0600004 + 0x10000 * n
def PRT_LANE_POL (n : Nat) : Nat := 0x0600008 + 0x10000 * n
def PRT_CTRL (n : Nat) : Nat := 0x060000C + 0x10000 * n
def PRT_STAT (n : Nat) : Nat := 0x0600010 + 0x10000 * n
def PRT_EVT (n : Nat) : Nat := 0x0600014 + 0x10000 * n
def PRT_ASYM_RX (n : Nat) : Nat := 0x0600020 + 0x10000 * n
def PRT_ASYM_TX (n : Nat) : Nat := 0x0600024 + 0x10000 * n
def PRT_CAL_RX (n : Nat) : Nat := 0x0600030 + 0x10000 * n
def PRT_CAL_TX (n : Nat) : Nat := 0x0600034 + 0x10000 * n
def PRT_CAL_STAT (n : Nat) : Nat := 0x0600038 + 0x10000 * n
def PRT_CAL_RX_NOM (n : Nat) : Nat := 0x060003C + 0x10000 * n
def PRT_CAL_SKEW (n i : Nat) : Nat := 0x0600040 + 0x10000 * n + 0x4 * i
def PRT_CAL_TX_NOM (n : Nat) : Nat := 0x0600060 + 0x10000 * n
def PRT_DEP_TOL (n : Nat) : Nat := 0x0600064 + 0x10000 * n
def PRT_SYNCE_TX (n : Nat) : Nat := 0x0600080 + 0x10000 * n
def PRT_ESMC_TX (n : Nat) : Nat := 0x0600084 + 0x10000 * n
def PRT_ESMC_RX (n : Nat) : Nat := 0x0600088 + 0x10000 * n
def PRT_TSQ_POP (n : Nat) : Nat := 0x06000C0 + 0x10000 * n
def PRT_TSQ_SEC_LO (n : Nat) : Nat := 0x06000C4 + 0x10000 * n
def PRT_TSQ_SEC_HI (n : Nat) : Nat := 0x06000C8 + 0x10000 * n
def PRT_TSQ_NS (n : Nat) : Nat := 0x06000CC + 0x10000 * n
def PRT_TSQ_FRAC (n : Nat) : Nat := 0x06000D0 + 0x10000 * n
def PRT_HTX_BASE_LO (n : Nat) : Nat := 0x0600100 + 0x10000 * n
def PRT_HTX_BASE_HI (n : Nat) : Nat := 0x0600104 + 0x10000 * n
def PRT_HTX_SIZE (n : Nat) : Nat := 0x0600108 + 0x10000 * n
def PRT_HTX_PROD (n : Nat) : Nat := 0x060010C + 0x10000 * n
def PRT_HTX_CONS (n : Nat) : Nat := 0x0600110 + 0x10000 * n
def PRT_HRX_BASE_LO (n : Nat) : Nat := 0x0600120 + 0x10000 * n
def PRT_HRX_BASE_HI (n : Nat) : Nat := 0x0600124 + 0x10000 * n
def PRT_HRX_SIZE (n : Nat) : Nat := 0x0600128 + 0x10000 * n
def PRT_HRX_PROD (n : Nat) : Nat := 0x060012C + 0x10000 * n
def PRT_HRX_CONS (n : Nat) : Nat := 0x0600130 + 0x10000 * n
def PRT_SLOW_RATE (n : Nat) : Nat := 0x0600140 + 0x10000 * n
def PRT_RX_FRAMES (n : Nat) : Nat := 0x0600200 + 0x10000 * n
def PRT_TX_FRAMES (n : Nat) : Nat := 0x0600204 + 0x10000 * n
def PRT_DROP_FCS (n : Nat) : Nat := 0x0600208 + 0x10000 * n
def PRT_DROP_FRAG (n : Nat) : Nat := 0x060020C + 0x10000 * n
def PRT_DROP_LINK (n : Nat) : Nat := 0x0600210 + 0x10000 * n
def PRT_DROP_PAUSE (n : Nat) : Nat := 0x0600214 + 0x10000 * n
def PRT_FEC_CORR (n : Nat) : Nat := 0x0600218 + 0x10000 * n
def PRT_FEC_UNCORR (n : Nat) : Nat := 0x060021C + 0x10000 * n
def PRT_TSQ_LOST (n : Nat) : Nat := 0x0600220 + 0x10000 * n
def PRT_DEP_DEV (n : Nat) : Nat := 0x0600224 + 0x10000 * n
def PRT_SLOW_DROP (n : Nat) : Nat := 0x0600228 + 0x10000 * n
def PRT_HOST_RX_DROP (n : Nat) : Nat := 0x060022C + 0x10000 * n
def CLS_CTRL : Nat := 0x0800000
def CLS_RESEED : Nat := 0x0800004
def CLS_SEED_STAT : Nat := 0x0800008
def CLS_STEAL : Nat := 0x0800010
def CLS_STEAL_HOPS : Nat := 0x0800014
def CLS_DISP_GUARD : Nat := 0x0800018
def CLS_HOT_TRIP : Nat := 0x0800020
def CLS_SPRAY_EXIT : Nat := 0x0800024
def CLS_SPRAY_SHARE : Nat := 0x0800028
def CLS_SPRAY_STAT : Nat := 0x0800030
def CLS_SPRAY_ENTRIES : Nat := 0x0800034
def CLS_HOME_MAP (i : Nat) : Nat := 0x0800040 + 0x4 * i
def CEL_STAT (n : Nat) : Nat := 0x0900000 + 0x10000 * n
def CEL_DEPTH_MAX (n : Nat) : Nat := 0x0900004 + 0x10000 * n
def CEL_CELL_DIS (n : Nat) : Nat := 0x0900008 + 0x10000 * n
def CEL_TORUS (n : Nat) : Nat := 0x090000C + 0x10000 * n
def CEL_DISPATCHED (n : Nat) : Nat := 0x0900010 + 0x10000 * n
def CEL_STOLEN_IN1 (n : Nat) : Nat := 0x0900014 + 0x10000 * n
def CEL_STOLEN_IN2 (n : Nat) : Nat := 0x0900018 + 0x10000 * n
def CEL_STOLEN_OUT (n : Nat) : Nat := 0x090001C + 0x10000 * n
def CEL_SQUASH (n : Nat) : Nat := 0x0900020 + 0x10000 * n
def CEL_DROP_QFULL (n : Nat) : Nat := 0x0900024 + 0x10000 * n
def CEL_DROP_FSTORE (n : Nat) : Nat := 0x0900028 + 0x10000 * n
def CEL_DROP_EXPIRED (n : Nat) : Nat := 0x090002C + 0x10000 * n
def CEL_LATE_DISP (n i : Nat) : Nat := 0x0900030 + 0x10000 * n + 0x4 * i
def CEL_RECOMPOSE (n : Nat) : Nat := 0x0900040 + 0x10000 * n
def CEL_DROP_PRIO (n : Nat) : Nat := 0x0900044 + 0x10000 * n
def CEL_DROP_RETIRE (n : Nat) : Nat := 0x0900048 + 0x10000 * n
def CEL_SPRAY_IN (n : Nat) : Nat := 0x090004C + 0x10000 * n
def CEL_HOT_DWELL (n : Nat) : Nat := 0x0900050 + 0x10000 * n
def CEL_MC_VER (n : Nat) : Nat := 0x0900060 + 0x10000 * n
def CLT_WIN_IDX : Nat := 0x2000000
def CLT_WIN_CMD : Nat := 0x2000004
def CLT_WIN_STAT : Nat := 0x2000008
def CLT_WIN_DATA (i : Nat) : Nat := 0x2000020 + 0x4 * i
def CLT_OCC : Nat := 0x2000040
def CLT_CAM_OCC : Nat := 0x2000044
def CLT_UNTRACKED : Nat := 0x2000048
def CLT_IDLE : Nat := 0x200004C
def CLT_FLUSH : Nat := 0x2000050
def CLT_COMBINED : Nat := 0x2000054
def DEP_D_A (n : Nat) : Nat := 0x0B00000 + 0x1000 * n
def DEP_D_B (n : Nat) : Nat := 0x0B00004 + 0x1000 * n
def DEP_TIER_STEP (n : Nat) : Nat := 0x0B00008 + 0x1000 * n
def DEP_BE_CTRL (n : Nat) : Nat := 0x0B0000C + 0x1000 * n
def DEP_STAT (n : Nat) : Nat := 0x0B00010 + 0x1000 * n
def DEP_D_EFF_A (n : Nat) : Nat := 0x0B00014 + 0x1000 * n
def DEP_D_EFF_B (n : Nat) : Nat := 0x0B00018 + 0x1000 * n
def DEP_CAL_OCC (n : Nat) : Nat := 0x0B00020 + 0x1000 * n
def DEP_CAL_MAX (n : Nat) : Nat := 0x0B00024 + 0x1000 * n
def DEP_TIER (n i : Nat) : Nat := 0x0B00030 + 0x1000 * n + 0x4 * i
def DEP_SENT (n : Nat) : Nat := 0x0B00040 + 0x1000 * n
def DEP_RET_BUSY (n : Nat) : Nat := 0x0B00044 + 0x1000 * n
def DEP_RET_LATE (n : Nat) : Nat := 0x0B00048 + 0x1000 * n
def DEP_RET_FULL (n : Nat) : Nat := 0x0B0004C + 0x1000 * n
def DEP_RET_BE (n : Nat) : Nat := 0x0B00050 + 0x1000 * n
def DEP_DROP_TIER (n : Nat) : Nat := 0x0B00054 + 0x1000 * n
def DEP_DROP_STEP (n : Nat) : Nat := 0x0B00058 + 0x1000 * n
def DEP_DROP_HORIZON (n : Nat) : Nat := 0x0B0005C + 0x1000 * n
def DEP_BE_SENT (n : Nat) : Nat := 0x0B00060 + 0x1000 * n
def DEP_BE_WAIT_MAX (n : Nat) : Nat := 0x0B00064 + 0x1000 * n
def DEP_BE_RESERVE (n : Nat) : Nat := 0x0B00068 + 0x1000 * n
def SRV_NTP_CTRL : Nat := 0x0C00000
def SRV_NTP_HOLD_STRAT_LIMIT : Nat := 0x0C00004
def SRV_NTP_HOLD_UNSYNC_LIMIT : Nat := 0x0C00008
def SRV_NTP_DISP_BASE : Nat := 0x0C0000C
def SRV_NTP_HOLD_REFID : Nat := 0x0C00010
def SRV_NTP_LI_LEAD : Nat := 0x0C00014
def SRV_NTP_SMEAR : Nat := 0x0C00018
def SRV_NTP_STATE : Nat := 0x0C00020
def SRV_NTP_REF_CFG (i : Nat) : Nat := 0x0C00040 + 0x8 * i
def SRV_NTP_REF_ID (i : Nat) : Nat := 0x0C00044 + 0x8 * i
def SRV_NTP_CLASS_A (i : Nat) : Nat := 0x0C00080 + 0x8 * i
def SRV_NTP_CLASS_B (i : Nat) : Nat := 0x0C00084 + 0x8 * i
def SRV_AGG_RATE (i : Nat) : Nat := 0x0C00100 + 0x8 * i
def SRV_AGG_BURST (i : Nat) : Nat := 0x0C00104 + 0x8 * i
def SRV_NTS_CTRL : Nat := 0x0C00140
def SRV_NTS_ROTATE : Nat := 0x0C00144
def SRV_NTS_KEYID_CUR : Nat := 0x0C00148
def SRV_NTS_KEYID_PREV1 : Nat := 0x0C0014C
def SRV_NTS_KEYID_PREV2 : Nat := 0x0C00150
def SRV_NTS_NEXT_LO : Nat := 0x0C00154
def SRV_NTS_NEXT_HI : Nat := 0x0C00158
def SRV_NTSKE_CTRL : Nat := 0x0C00160
def SRV_NTSKE_STAT : Nat := 0x0C00164
def SRV_RULE_IDX : Nat := 0x0C00200
def SRV_RULE_CMD : Nat := 0x0C00204
def SRV_RULE_STAT : Nat := 0x0C00208
def SRV_RULE_DATA (i : Nat) : Nat := 0x0C00220 + 0x4 * i
def SRV_NTP_ANS_PLAIN : Nat := 0x0C00400
def SRV_NTP_ANS_CMAC : Nat := 0x0C00404
def SRV_NTP_ANS_NTS : Nat := 0x0C00408
def SRV_NTP_KISS_RATE : Nat := 0x0C0040C
def SRV_NTP_KISS_DENY : Nat := 0x0C00410
def SRV_NTP_KISS_RSTR : Nat := 0x0C00414
def SRV_NTP_KISS_CRYP : Nat := 0x0C00418
def SRV_NTP_KISS_NTSN : Nat := 0x0C0041C
def SRV_NTP_DROP_MODE : Nat := 0x0C00420
def SRV_NTP_DROP_PARSE : Nat := 0x0C00424
def SRV_NTP_DROP_POLICY : Nat := 0x0C00428
def SRV_NTP_DROP_AUTH : Nat := 0x0C0042C
def SRV_NTP_DROP_UNTRACE : Nat := 0x0C00430
def SRV_NTP_DROP_AGG : Nat := 0x0C00434
def SRV_NTP_DROP_KEYCHG : Nat := 0x0C00438
def SRV_NTS_COOKIES : Nat := 0x0C0043C
def SRV_NTS_OLDKEY : Nat := 0x0C00440
def SRV_NTSKE_DONE : Nat := 0x0C00444
def SRV_NTSKE_FAIL : Nat := 0x0C00448
def SRV_NTSKE_REFUSED : Nat := 0x0C0044C
def SRV_NTP_BCAST_SENT : Nat := 0x0C00450
def SRV_RT_CTRL : Nat := 0x0C00600
def SRV_RT_PORT : Nat := 0x0C00604
def SRV_RT_WINDOW : Nat := 0x0C00608
def SRV_RT_SEAL : Nat := 0x0C0060C
def SRV_RT_SIGN : Nat := 0x0C00610
def SRV_RT_RADI_BASE : Nat := 0x0C00614
def SRV_RT_RADI_UNSYNC : Nat := 0x0C00618
def SRV_RT_DELE : Nat := 0x0C00620
def SRV_RT_DELE_OVL : Nat := 0x0C00624
def SRV_RT_KEY : Nat := 0x0C00628
def SRV_RT_STAT : Nat := 0x0C00630
def SRV_RT_MAXT_LO : Nat := 0x0C00638
def SRV_RT_MAXT_HI : Nat := 0x0C0063C
def SRV_RT_ANS : Nat := 0x0C00680
def SRV_RT_CARAFES : Nat := 0x0C00684
def SRV_RT_DROP_PARSE : Nat := 0x0C00688
def SRV_RT_DROP_POLICY : Nat := 0x0C0068C
def SRV_RT_DROP_AGG : Nat := 0x0C00690
def SRV_RT_DROP_UNTRACE : Nat := 0x0C00694
def SRV_RT_DROP_RING : Nat := 0x0C00698
def SRV_RT_DROP_STALE : Nat := 0x0C0069C
def SRV_RT_DROP_FAULT : Nat := 0x0C006A0
def SRV_RT_DROP_NODELE : Nat := 0x0C006A4
def SRV_RT_DROP_INTR : Nat := 0x0C006A8
def SRV_RT_LATE_LEAF : Nat := 0x0C006AC
def SRV_RT_SIZE_CLOSE : Nat := 0x0C006B0
def SRV_RT_CLOSE_DEFER : Nat := 0x0C006B4
def SRV_RT_RING (i : Nat) : Nat := 0x0C00700 + 0x4 * i
def SRV_PTP_PCFG (i : Nat) : Nat := 0x0C00800 + 0x20 * i
def SRV_PTP_PRATE (i : Nat) : Nat := 0x0C00804 + 0x20 * i
def SRV_PTP_TX_KEYID (i : Nat) : Nat := 0x0C00808 + 0x20 * i
def SRV_PTP_UC_SPACE (i : Nat) : Nat := 0x0C0080C + 0x20 * i
def SRV_PTP_PSTAT (i : Nat) : Nat := 0x0C00810 + 0x20 * i
def SRV_PTP_SYNC_SEQ (i : Nat) : Nat := 0x0C00814 + 0x20 * i
def SRV_PTP_FOREIGN (i : Nat) : Nat := 0x0C00818 + 0x20 * i
def SRV_PTP_CLOCKID_LO : Nat := 0x0C00900
def SRV_PTP_CLOCKID_HI : Nat := 0x0C00904
def SRV_PTP_GM_PRIO : Nat := 0x0C00908
def SRV_PTP_HOLD_CLASS_LIMIT : Nat := 0x0C0090C
def SRV_PTP_OOS_CLASS : Nat := 0x0C00910
def SRV_PTP_OSLV : Nat := 0x0C00914
def SRV_PTP_ACC_BASE : Nat := 0x0C00918
def SRV_PTP_TSRC_A : Nat := 0x0C0091C
def SRV_PTP_TSRC_B : Nat := 0x0C00920
def SRV_PTP_LEAP_LEAD : Nat := 0x0C00924
def SRV_PTP_UC_DUR : Nat := 0x0C00928
def SRV_PTP_UC_LOG : Nat := 0x0C0092C
def SRV_PTP_UC_STAT : Nat := 0x0C00930
def SRV_PTP_STATE : Nat := 0x0C00934
def SRV_PTP_GR_IDX : Nat := 0x0C00A00
def SRV_PTP_GR_CMD : Nat := 0x0C00A04
def SRV_PTP_GR_STAT : Nat := 0x0C00A08
def SRV_PTP_GR_DATA (i : Nat) : Nat := 0x0C00A40 + 0x4 * i
def SRV_PTP_CL_CFG (i : Nat) : Nat := 0x0C00B00 + 0x80 * i
def SRV_PTP_CL_SERVO (i : Nat) : Nat := 0x0C00B04 + 0x80 * i
def SRV_PTP_CL_LIMITS (i : Nat) : Nat := 0x0C00B08 + 0x80 * i
def SRV_PTP_CL_ASYM (i : Nat) : Nat := 0x0C00B0C + 0x80 * i
def SRV_PTP_CL_RATE (i : Nat) : Nat := 0x0C00B10 + 0x80 * i
def SRV_PTP_CL_AUTH (i : Nat) : Nat := 0x0C00B14 + 0x80 * i
def SRV_PTP_CL_KEYID (i : Nat) : Nat := 0x0C00B18 + 0x80 * i
def SRV_PTP_CL_STAT (i : Nat) : Nat := 0x0C00B1C + 0x80 * i
def SRV_PTP_CL_MPD_LO (i : Nat) : Nat := 0x0C00B20 + 0x80 * i
def SRV_PTP_CL_MPD_HI (i : Nat) : Nat := 0x0C00B24 + 0x80 * i
def SRV_PTP_CL_OFFSET_LO (i : Nat) : Nat := 0x0C00B28 + 0x80 * i
def SRV_PTP_CL_OFFSET_HI (i : Nat) : Nat := 0x0C00B2C + 0x80 * i
def SRV_PTP_CL_FREQ_LO (i : Nat) : Nat := 0x0C00B30 + 0x80 * i
def SRV_PTP_CL_FREQ_HI (i : Nat) : Nat := 0x0C00B34 + 0x80 * i
def SRV_PTP_CL_MASTER_LO (i : Nat) : Nat := 0x0C00B38 + 0x80 * i
def SRV_PTP_CL_MASTER_HI (i : Nat) : Nat := 0x0C00B3C + 0x80 * i
def SRV_PTP_CL_MASTER_PORT (i : Nat) : Nat := 0x0C00B40 + 0x80 * i
def SRV_PTP_CL_DUR (i : Nat) : Nat := 0x0C00B44 + 0x80 * i
def SRV_PTP_CL_UMT (i j w : Nat) : Nat := 0x0C00B50 + 0x80 * i + 0x10 * j + 0x4 * w
def SRV_PTP_DRESP : Nat := 0x0C00C00
def SRV_PTP_SYNC_SENT : Nat := 0x0C00C04
def SRV_PTP_SYNC_DROP : Nat := 0x0C00C08
def SRV_PTP_FU_SENT : Nat := 0x0C00C0C
def SRV_PTP_ANN_SENT : Nat := 0x0C00C10
def SRV_PTP_DROP_PARSE : Nat := 0x0C00C14
def SRV_PTP_DROP_POLICY : Nat := 0x0C00C18
def SRV_PTP_DROP_NOGRANT : Nat := 0x0C00C1C
def SRV_PTP_DROP_GRANTRATE : Nat := 0x0C00C20
def SRV_PTP_DROP_AGG : Nat := 0x0C00C24
def SRV_PTP_DROP_UNTRACE : Nat := 0x0C00C28
def SRV_PTP_DROP_AUTH : Nat := 0x0C00C2C
def SRV_PTP_DROP_KEYCHG : Nat := 0x0C00C30
def SRV_PTP_DROP_OTHER : Nat := 0x0C00C34
def SRV_PTP_GRANT : Nat := 0x0C00C38
def SRV_PTP_DENY : Nat := 0x0C00C3C
def SRV_PTP_DENY_FULL : Nat := 0x0C00C40
def SRV_PTP_CANCEL : Nat := 0x0C00C44
def SRV_PTP_CL_OUTLIERS : Nat := 0x0C00C48
def SRV_PTP_CL_DROP_AUTH : Nat := 0x0C00C4C
def KEY_SYM_IDX : Nat := 0x1004000
def KEY_SYM_CMD : Nat := 0x1004004
def KEY_SYM_STAT : Nat := 0x1004008
def KEY_SYM_KEY (i : Nat) : Nat := 0x1004010 + 0x4 * i
def KEY_PTP_IDX : Nat := 0x1005000
def KEY_PTP_CMD : Nat := 0x1005004
def KEY_PTP_STAT : Nat := 0x1005008
def KEY_PTP_ID : Nat := 0x100500C
def KEY_PTP_SPP : Nat := 0x1005010
def KEY_PTP_KEY (i : Nat) : Nat := 0x1005020 + 0x4 * i
def KEY_PERM : Nat := 0x1000000
def KEY_SLOT_IDX : Nat := 0x1000010
def KEY_SLOT_CMD : Nat := 0x1000014
def KEY_SLOT_STAT : Nat := 0x1000018
def KEY_SLOT_ATTR0 : Nat := 0x100001C
def KEY_SLOT_ATTR1 : Nat := 0x1000020
def KEY_SLOT_LABEL : Nat := 0x1000024
def KEY_SLOT_NBF_LO : Nat := 0x1000028
def KEY_SLOT_NBF_HI : Nat := 0x100002C
def KEY_SLOT_NAF_LO : Nat := 0x1000030
def KEY_SLOT_NAF_HI : Nat := 0x1000034
def KEY_OCC : Nat := 0x1000040
def KEY_IMPORTS : Nat := 0x1000044
def KEY_IMPORT_FAIL : Nat := 0x1000048
def KEY_NTS_RING : Nat := 0x1000050
def KEY_SLOT_PUB (i : Nat) : Nat := 0x1001000 + 0x4 * i
def KEY_DUK_PUB (i : Nat) : Nat := 0x1002000 + 0x4 * i
def KEY_DUK_ID_LO : Nat := 0x1002060
def KEY_DUK_ID_HI : Nat := 0x1002064
def KEY_DUK_SIG (i : Nat) : Nat := 0x1002080 + 0x4 * i
def PKE_CTRL (n : Nat) : Nat := 0x1100000 + 0x10000 * n
def PKE_STAT (n : Nat) : Nat := 0x1100004 + 0x10000 * n
def PKE_JOB_W (n i : Nat) : Nat := 0x1100010 + 0x10000 * n + 0x4 * i
def PKE_JOB_GO (n : Nat) : Nat := 0x1100030 + 0x10000 * n
def PKE_SUB_STAT (n : Nat) : Nat := 0x1100034 + 0x10000 * n
def PKE_ABORT (n : Nat) : Nat := 0x1100038 + 0x10000 * n
def PKE_CPL_POP (n : Nat) : Nat := 0x110003C + 0x10000 * n
def PKE_MC_VER (n : Nat) : Nat := 0x1100040 + 0x10000 * n
def PKE_JOBS (n : Nat) : Nat := 0x1100050 + 0x10000 * n
def PKE_FAULTS (n : Nat) : Nat := 0x1100054 + 0x10000 * n
def PKE_ABORTS (n : Nat) : Nat := 0x1100058 + 0x10000 * n
def PKE_WIPES (n : Nat) : Nat := 0x110005C + 0x10000 * n
def PKE_REFUSED (n : Nat) : Nat := 0x1100060 + 0x10000 * n
def PKE_SUB_REFUSED (n : Nat) : Nat := 0x1100064 + 0x10000 * n
def PKE_BUSY (n : Nat) : Nat := 0x1100068 + 0x10000 * n
def REF_SEL_CTRL : Nat := 0x0200000
def REF_SEL_STAT : Nat := 0x0200004
def REF_SEL_SWITCHES : Nat := 0x0200008
def REF_CMD : Nat := 0x020000C
def REF_DIS_LIMIT : Nat := 0x0200010
def REF_DIS_GATE : Nat := 0x0200014
def REF_PDIS_LIMIT : Nat := 0x0200018
def REF_DIS_STAT : Nat := 0x020001C
def REF_SYNCE_SEL : Nat := 0x0200020
def REF_TOD_CFG : Nat := 0x0200024
def REF_TOD_LABEL_LO : Nat := 0x0200028
def REF_TOD_LABEL_HI : Nat := 0x020002C
def REF_CFG (i : Nat) : Nat := 0x0200100 + 0x40 * i
def REF_FREQ_NUM (i : Nat) : Nat := 0x0200104 + 0x40 * i
def REF_FREQ_DEN (i : Nat) : Nat := 0x0200108 + 0x40 * i
def REF_IN_DELAY (i : Nat) : Nat := 0x020010C + 0x40 * i
def REF_LIMITS (i : Nat) : Nat := 0x0200110 + 0x40 * i
def REF_PPS_CFG (i : Nat) : Nat := 0x0200114 + 0x40 * i
def REF_STAT (i : Nat) : Nat := 0x0200118 + 0x40 * i
def REF_DF (i : Nat) : Nat := 0x020011C + 0x40 * i
def REF_PHASE (i : Nat) : Nat := 0x0200120 + 0x40 * i
def REF_LAST_FAIL (i : Nat) : Nat := 0x0200124 + 0x40 * i
def REF_PULSE_BAD (i : Nat) : Nat := 0x0200128 + 0x40 * i
def REF_DISQ_COUNT (i : Nat) : Nat := 0x020012C + 0x40 * i
def CLK_STAT : Nat := 0x0300000
def CLK_OSC_FREQ : Nat := 0x0300004
def CLK_DPLL0_CTRL : Nat := 0x0300010
def CLK_DPLL0_STAT : Nat := 0x0300014
def CLK_DPLL0_CMD : Nat := 0x0300018
def CLK_SLOPE : Nat := 0x030001C
def CLK_STEP_LIMIT : Nat := 0x0300020
def CLK_LOCK_PHASE : Nat := 0x0300024
def CLK_LOCK_FREQ : Nat := 0x0300028
def CLK_BW (i : Nat) : Nat := 0x0300030 + 0x4 * i
def CLK_PULL_LO : Nat := 0x0300048
def CLK_PULL_HI : Nat := 0x030004C
def CLK_PERR_LO : Nat := 0x0300050
def CLK_PERR_HI : Nat := 0x0300054
def CLK_FINT_LO : Nat := 0x0300058
def CLK_FINT_HI : Nat := 0x030005C
def CLK_HOLD_W : Nat := 0x0300060
def CLK_HOLD_G : Nat := 0x0300064
def CLK_HOLD_CFG : Nat := 0x0300068
def CLK_AGING_MAX : Nat := 0x030006C
def CLK_HOLD_AVG_LO : Nat := 0x0300070
def CLK_HOLD_AVG_HI : Nat := 0x0300074
def CLK_AGING_D : Nat := 0x0300078
def CLK_HOLD_STAT : Nat := 0x030007C
def CLK_HM_XI0 : Nat := 0x0300080
def CLK_HM_A : Nat := 0x0300084
def CLK_HM_B : Nat := 0x0300088
def CLK_HM_A_SHORT : Nat := 0x030008C
def CLK_HM_A_FREF : Nat := 0x0300090
def CLK_EHOLD : Nat := 0x0300094
def CLK_HM_XI0_CUR : Nat := 0x0300098
def CLK_HM_T0 : Nat := 0x030009C
def CLK_HIST_IDX : Nat := 0x03000A0
def CLK_HIST_DATA_LO : Nat := 0x03000A4
def CLK_HIST_DATA_HI : Nat := 0x03000A8
def CLK_SLEW_CFG : Nat := 0x0300100
def CLK_SLEW_LO : Nat := 0x0300104
def CLK_SLEW_HI : Nat := 0x0300108
def CLK_PPS_CFG (i : Nat) : Nat := 0x0300110 + 0x4 * i
def CLK_PPS_COMP (i : Nat) : Nat := 0x0300120 + 0x4 * i
def CLK_TOD_CFG : Nat := 0x0300130
def CLK_CASC_CFG : Nat := 0x0300134
def CLK_DPLL_CFG (i : Nat) : Nat := 0x0300210 + 0x10 * i
def CLK_DPLL_NUM (i : Nat) : Nat := 0x0300214 + 0x10 * i
def CLK_DPLL_DEN (i : Nat) : Nat := 0x0300218 + 0x10 * i
def CLK_DPLL_STAT (i : Nat) : Nat := 0x030021C + 0x10 * i
def CLK_APLL_CFG (i : Nat) : Nat := 0x0300290 + 0x10 * i
def CLK_APLL_NUM (i : Nat) : Nat := 0x0300294 + 0x10 * i
def CLK_APLL_DEN (i : Nat) : Nat := 0x0300298 + 0x10 * i
def CLK_APLL_STAT (i : Nat) : Nat := 0x030029C + 0x10 * i
def CLK_OUTCLK_CFG (i : Nat) : Nat := 0x0300300 + 0x8 * i
def CLK_OUTCLK_DIV (i : Nat) : Nat := 0x0300304 + 0x8 * i
def CLK_QL_MAP : Nat := 0x0300380
def CLK_STEER_CTRL : Nat := 0x0300400
def CLK_STEER_GAIN : Nat := 0x0300404
def CLK_STEER_TIME : Nat := 0x0300408
def CLK_STEER_INIT : Nat := 0x030040C
def CLK_STEER_DAC : Nat := 0x0300410
def CLK_STEER_FAIL : Nat := 0x0300414
def CLK_TEMP_CFG : Nat := 0x0300418
def CLK_TEMP : Nat := 0x030041C
def GNS_CTRL : Nat := 0x0400000
def GNS_STAT : Nat := 0x0400004
def GNS_CMD : Nat := 0x0400008
def GNS_PORT_CFG (i : Nat) : Nat := 0x0400010 + 0x4 * i
def GNS_IF (i : Nat) : Nat := 0x0400018 + 0x4 * i
def GNS_BAND_PWR (i : Nat) : Nat := 0x0400020 + 0x4 * i
def GNS_ACQ_CFG : Nat := 0x0400030
def GNS_TRK_CFG : Nat := 0x0400034
def GNS_CORR (i : Nat) : Nat := 0x0400040 + 0x4 * i
def GNS_SOL_CFG : Nat := 0x0400060
def GNS_EPH_CFG : Nat := 0x0400064
def GNS_BURST_CFG : Nat := 0x0400068
def GNS_POS_CFG : Nat := 0x0400070
def GNS_SURVEY_TIME : Nat := 0x0400074
def GNS_POS_TOL : Nat := 0x0400078
def GNS_POS_X : Nat := 0x0400090
def GNS_POS_Y : Nat := 0x0400094
def GNS_POS_Z : Nat := 0x0400098
def GNS_POS_CUR_X : Nat := 0x04000A0
def GNS_POS_CUR_Y : Nat := 0x04000A4
def GNS_POS_CUR_Z : Nat := 0x04000A8
def GNS_POS_SIGMA : Nat := 0x04000AC
def GNS_ANT_DELAY : Nat := 0x04000B0
def GNS_IFB_DELAY : Nat := 0x04000B4
def GNS_ISB_CAL (i : Nat) : Nat := 0x04000B8 + 0x4 * i
def GNS_IF_DELAY : Nat := 0x04000C4
def GNS_EXCL_GPS : Nat := 0x04000D0
def GNS_EXCL_GAL_LO : Nat := 0x04000D4
def GNS_EXCL_GAL_HI : Nat := 0x04000D8
def GNS_EXCL_BDS_LO : Nat := 0x04000DC
def GNS_EXCL_BDS_HI : Nat := 0x04000E0
def GNS_TMSG_HDR : Nat := 0x0400100
def GNS_TMSG_SEC_LO : Nat := 0x0400104
def GNS_TMSG_SEC_HI : Nat := 0x0400108
def GNS_TMSG_Q : Nat := 0x040010C
def GNS_TMSG_BIAS : Nat := 0x0400110
def GNS_TMSG_TUNC : Nat := 0x0400114
def GNS_TMSG_DOP : Nat := 0x0400118
def GNS_TMSG_USED : Nat := 0x040011C
def GNS_CH_IDX : Nat := 0x0400200
def GNS_CH_CMD : Nat := 0x0400204
def GNS_CH_STAT : Nat := 0x0400208
def GNS_CH_DATA (i : Nat) : Nat := 0x0400220 + 0x4 * i
def GNS_NAV_BAD : Nat := 0x0400300
def GNS_FDE_EXCL : Nat := 0x0400304
def GNS_FIX_LOST : Nat := 0x0400308
def GNS_EPOCHS_NOFIX : Nat := 0x040030C
def GNS_SAMPLE_LOSS : Nat := 0x0400310
def GNS_BUMP : Nat := 0x0400314
def GNS_REFRESH : Nat := 0x0400318
def TIM_CTRL : Nat := 0x0500000
def TIM_STAT : Nat := 0x0500004
def TIM_CMD : Nat := 0x0500008
def TIM_IN_CFG (i : Nat) : Nat := 0x0500100 + 0x20 * i
def TIM_IN_DIV (i : Nat) : Nat := 0x0500104 + 0x20 * i
def TIM_IN_HOLDOFF (i : Nat) : Nat := 0x0500108 + 0x20 * i
def TIM_IN_DELAY (i : Nat) : Nat := 0x050010C + 0x20 * i
def TIM_IN_EDGES (i : Nat) : Nat := 0x0500110 + 0x20 * i
def TIM_IN_REJ (i : Nat) : Nat := 0x0500114 + 0x20 * i
def TIM_CH_CFG (i : Nat) : Nat := 0x0500400 + 0x40 * i
def TIM_CH_STOP (i : Nat) : Nat := 0x0500404 + 0x40 * i
def TIM_CH_WIN (i : Nat) : Nat := 0x0500408 + 0x40 * i
def TIM_CH_PRE (i : Nat) : Nat := 0x050040C + 0x40 * i
def TIM_CH_GATE (i : Nat) : Nat := 0x0500410 + 0x40 * i
def TIM_CH_NOM (i : Nat) : Nat := 0x0500414 + 0x40 * i
def TIM_GATE_TIME_LO (i : Nat) : Nat := 0x0500418 + 0x40 * i
def TIM_GATE_TIME_HI (i : Nat) : Nat := 0x050041C + 0x40 * i
def TIM_CH_CMD (i : Nat) : Nat := 0x0500420 + 0x40 * i
def TIM_CH_STAT (i : Nat) : Nat := 0x0500424 + 0x40 * i
def TIM_RES_POP (i : Nat) : Nat := 0x0500428 + 0x40 * i
def TIM_CH_RESULTS (i : Nat) : Nat := 0x050042C + 0x40 * i
def TIM_CH_OVF (i : Nat) : Nat := 0x0500430 + 0x40 * i
def TIM_CH_START_IGN (i : Nat) : Nat := 0x0500434 + 0x40 * i
def TIM_RES_DATA (i j : Nat) : Nat := 0x0501000 + 0x100 * i + 0x4 * j
def EVL_RUN : Nat := 0x0580000
def EVL_DONE : Nat := 0x0580004
def EVL_ARM_ALL : Nat := 0x0580008
def EVL_DISARM_ALL : Nat := 0x058000C
def EVL_CFG (i : Nat) : Nat := 0x0580100 + 0x80 * i
def EVL_T0_LO (i : Nat) : Nat := 0x0580104 + 0x80 * i
def EVL_T0_HI (i : Nat) : Nat := 0x0580108 + 0x80 * i
def EVL_PERIOD_LO (i : Nat) : Nat := 0x058010C + 0x80 * i
def EVL_PERIOD_HI (i : Nat) : Nat := 0x0580110 + 0x80 * i
def EVL_WIDTH_LO (i : Nat) : Nat := 0x0580114 + 0x80 * i
def EVL_WIDTH_HI (i : Nat) : Nat := 0x0580118 + 0x80 * i
def EVL_COUNT (i : Nat) : Nat := 0x058011C + 0x80 * i
def EVL_DELAY_LO (i : Nat) : Nat := 0x0580120 + 0x80 * i
def EVL_DELAY_HI (i : Nat) : Nat := 0x0580124 + 0x80 * i
def EVL_COMP (i : Nat) : Nat := 0x0580128 + 0x80 * i
def EVL_CMD (i : Nat) : Nat := 0x058012C + 0x80 * i
def EVL_STAT (i : Nat) : Nat := 0x0580130 + 0x80 * i
def EVL_NEXT_LO (i : Nat) : Nat := 0x0580134 + 0x80 * i
def EVL_NEXT_HI (i : Nat) : Nat := 0x0580138 + 0x80 * i
def EVL_SENT (i : Nat) : Nat := 0x058013C + 0x80 * i
def EVL_SKIPPED (i : Nat) : Nat := 0x0580140 + 0x80 * i
def EVL_TRIG_IGN (i : Nat) : Nat := 0x0580144 + 0x80 * i
def MBX_MASTER_ID : Nat := 0x0040000
def MBX_CMD : Nat := 0x0040004
def MBX_DB_SUMMARY : Nat := 0x0040008
def MBX_CORE_STAT (i : Nat) : Nat := 0x0040010 + 0x4 * i
def MBX_CORE_VER (i : Nat) : Nat := 0x0040030 + 0x4 * i
def MBX_CORE_HB (i : Nat) : Nat := 0x0040050 + 0x4 * i
def MBX_CORE_RESTARTS (i : Nat) : Nat := 0x0040070 + 0x4 * i
def MBX_WDT_CFG : Nat := 0x0040090
def MBX_TX (i : Nat) : Nat := 0x0041000 + 0x40 * i
def MBX_RX (i : Nat) : Nat := 0x0041004 + 0x40 * i
def MBX_STAT (i : Nat) : Nat := 0x0041008 + 0x40 * i
def MBX_DB_RING (i : Nat) : Nat := 0x004100C + 0x40 * i
def MBX_DB (i : Nat) : Nat := 0x0041010 + 0x40 * i
def MBX_DB_MASK (i : Nat) : Nat := 0x0041014 + 0x40 * i
def MBX_ACK_CFG (i : Nat) : Nat := 0x0041018 + 0x40 * i
def MBX_ACK_MASK (i : Nat) : Nat := 0x004101C + 0x40 * i
def MBX_ACK_WAIT (i : Nat) : Nat := 0x0041020 + 0x40 * i
def MBX_TX_FULL (i : Nat) : Nat := 0x0041024 + 0x40 * i
def MBX_ACK_STALLS (i : Nat) : Nat := 0x0041028 + 0x40 * i
def MBX_SEM (i : Nat) : Nat := 0x0042000 + 0x4 * i
def MBX_SEM_OWNER (i : Nat) : Nat := 0x0042100 + 0x4 * i
def MBX_SEM_FORCE : Nat := 0x0042200
def GLB_ID : Nat := 0x0000000
def GLB_REV : Nat := 0x0000004
def GLB_STAT : Nat := 0x0000008
def GLB_BOOT_STAT : Nat := 0x000000C
def GLB_BOOT_REC : Nat := 0x0000010
def GLB_RECIPE_SEQ : Nat := 0x0000014
def GLB_RECIPE_SECVER : Nat := 0x0000018
def GLB_RECIPE_ID (i : Nat) : Nat := 0x0000020 + 0x4 * i
def GLB_OTP_STAT : Nat := 0x0000030
def GLB_OTP_CMD : Nat := 0x0000034
def GLB_CMD : Nat := 0x0000038
def GLB_PWR_STAT : Nat := 0x0000040
def GLB_TEMP : Nat := 0x0000044
def CFG_CTRL : Nat := 0x0010000
def CFG_CMD : Nat := 0x0010004
def CFG_STAT : Nat := 0x0010008
def CFG_GEN : Nat := 0x001000C
def CFG_AT_LO : Nat := 0x0010010
def CFG_AT_HI : Nat := 0x0010014
def CFG_LAST_AT_LO : Nat := 0x0010018
def CFG_LAST_AT_HI : Nat := 0x001001C
def CFG_POLICY : Nat := 0x0010020
def CFG_VIEW : Nat := 0x0010024
def CFG_GEN_DROP : Nat := 0x0010028
def CFG_COMMITS : Nat := 0x001002C
def CFG_LOCK_REFUSED : Nat := 0x0010030
def EVT_STAT (i : Nat) : Nat := 0x0020000 + 0x4 * i
def EVT_MASK (i : Nat) : Nat := 0x0020020 + 0x4 * i
def EVT_CORE_EN (i : Nat) : Nat := 0x0020040 + 0x4 * i
def EVT_CORE_STAT (i : Nat) : Nat := 0x0020060 + 0x4 * i
def EVT_LINE_STAT : Nat := 0x0020080
def EVT_VEC_PEND : Nat := 0x0020084
def EVT_FORCE : Nat := 0x0020088
def FLT_POLICY : Nat := 0x0020100
def FLT_ALARM_MASK : Nat := 0x0020104
def FLT_CAUSE : Nat := 0x0020108
def FLT_REDUN : Nat := 0x002010C
def FLT_RETIRED_CLU : Nat := 0x0020110
def FLT_RETIRED_PKE : Nat := 0x0020114
def FLT_ECC_CORR : Nat := 0x0020118
def FLT_ECC_UNCORR : Nat := 0x002011C
def FLT_ECC_LAST : Nat := 0x0020120
def FLT_ECC_DROP : Nat := 0x0020124
def FLT_TMR_CORR : Nat := 0x0020128
def EVT_ROUTE (i : Nat) : Nat := 0x0020400 + 0x4 * i
def CNT_CTRL : Nat := 0x0030000
def CNT_CMD : Nat := 0x0030004
def CNT_SNAP_SEQ : Nat := 0x0030008
def CNT_SNAP_AT_LO : Nat := 0x0030010
def CNT_SNAP_AT_HI : Nat := 0x0030014
def CNT_SEL (i : Nat) : Nat := 0x0030100 + 0x20 * i
def CNT_THRESH (i : Nat) : Nat := 0x0030104 + 0x20 * i
def CNT_LIMIT_LO (i : Nat) : Nat := 0x0030108 + 0x20 * i
def CNT_LIMIT_HI (i : Nat) : Nat := 0x003010C + 0x20 * i
def CNT_LO (i : Nat) : Nat := 0x0030110 + 0x20 * i
def CNT_HI (i : Nat) : Nat := 0x0030114 + 0x20 * i
def CNT_STAT (i : Nat) : Nat := 0x0030118 + 0x20 * i
def CNT_SNAP_LO (i : Nat) : Nat := 0x0031000 + 0x8 * i
def CNT_SNAP_HI (i : Nat) : Nat := 0x0031004 + 0x8 * i

end Sys2Proof.Machine.Reg
end

