-- ==== Sys2Proof/Machine/Table.lean ====
section
/-!
DEFINITION. An indexed table as plain data: the entries that differ from what an unlisted index holds,
at strictly rising indices. Equal tables are equal lists. Every register file, memory and array of the
model has this one form.
-/

namespace Sys2Proof.Machine

/-- A table: listed entries at strictly rising indices; `d i` is what an unlisted index `i` holds. -/
abbrev Tab (α : Type) := List (Nat × α)

/-- The entry at index `k`. -/
def tget {α : Type} (d : Nat → α) : Tab α → Nat → α
  | [], k => d k
  | (i, v) :: t, k => if i = k then v else tget d t k

/-- The table without index `k`. -/
def tdel {α : Type} : Tab α → Nat → Tab α
  | [], _ => []
  | (i, v) :: t, k => if i = k then tdel t k else (i, v) :: tdel t k

/-- The table with entry `v` placed at index `k`, in order. -/
def tput {α : Type} : Tab α → Nat → α → Tab α
  | [], k, v => [(k, v)]
  | (i, u) :: t, k, v =>
    if k < i then (k, v) :: (i, u) :: t
    else if i = k then (k, v) :: t
    else (i, u) :: tput t k v

/-- Writing entry `k`: an entry equal to what an unlisted index holds is not listed. -/
def tset {α : Type} [DecidableEq α] (d : Nat → α) (t : Tab α) (k : Nat) (v : α) : Tab α :=
  if v = d k then tdel t k else tput t k v

/-- Changing entry `k` by a function of what it holds. -/
def tupd {α : Type} [DecidableEq α] (d : Nat → α) (t : Tab α) (k : Nat) (f : α → α) : Tab α :=
  tset d t k (f (tget d t k))

/-- The canonical form: indices strictly rising. -/
def tsorted {α : Type} : Tab α → Bool
  | [] => true
  | [_] => true
  | (i, _) :: (j, v) :: t => decide (i < j) && tsorted ((j, v) :: t)

/-- The canonical form: rising indices, and no entry equal to what an unlisted index holds. -/
def twf {α : Type} [DecidableEq α] (d : Nat → α) (t : Tab α) : Bool :=
  tsorted t && t.all (fun p => decide (p.2 ≠ d p.1))

/-- A change made to every index below `n`. -/
def tupdAll {α : Type} [DecidableEq α] (d : Nat → α) (n : Nat) (t : Tab α) (f : Nat → α → α) : Tab α :=
  (List.range n).foldl (fun acc k => tupd d acc k (f k)) t

end Sys2Proof.Machine
end

