-- ==== Sys2Proof/Machine/Blocks/Clk.lean ====
section
/-!
DEFINITION. State of the clock core. Frequencies are fractional, in units of 2⁻⁸⁰ (2⁻³² DCO units);
phases are in units of 2⁻¹⁶ ns of DT.
-/

namespace Sys2Proof.Machine

/-- CLK_DPLL0_STAT.STATE (R329). -/
inductive DpllState where
  | freeRun | acquire | pull | locked | holdover
  deriving DecidableEq, Repr

/-- STATE's code. -/
def DpllState.code : DpllState → Nat
  | .freeRun => 0 | .acquire => 1 | .pull => 2 | .locked => 3 | .holdover => 4

/-- The kind of a segment of a HOLD period (R346). -/
inductive SegKind where
  | holdover | freqLocked | pulling
  deriving DecidableEq, Repr

/-- A segment (R346): its start as a stamp, e_prev in ns, ξ₀ in 2⁻³² ns, a and b as latched, and the greatest |e|
sampled in it in units of 2⁻¹⁶ ns. -/
structure Seg where
  kind : SegKind
  start : Nat
  ePrev : Nat
  xi0 : Nat
  a : Nat
  b : Nat
  maxE : Nat
  deriving DecidableEq, Repr

/-- DPLL0 (R329–R343). `y` is y_int, `yP` the proportional term, `yOsc` what steering has given the oscillator, all in
2⁻⁸⁰; `r` and `e` are in 2⁻¹⁶ ns, `rFrac` the remainder of r's fall, `org` the origin of the phase of a frequency reference. `fresh` is a sample that waits, `rPend` says that the
first sample of a new phase reference sets r, `preset` that R348 has preset y_int for it. `wideCount` counts the samples or
seconds beyond the unlock limit, `big` the samples beyond CLK_STEP_LIMIT. `hist` is the history ring, newest first: the
mean of y_tot in 2⁻⁶⁴ and VALID; `yAcc` and `yN` form the mean of the second. `avg` is Ā in 2⁻⁶⁴, `aging` is D in 2⁻⁶⁴ per
second, `tSum` and `tN` give the mean time of its samples as a sum of DT seconds, `rL` is r_L and `tL` the stamp t_L. -/
structure Dpll0 where
  state : DpllState := .freeRun
  ref : Option Nat := none
  freqOnly : Bool := false
  type : Nat := 0
  everLocked : Bool := false
  stepNeeded : Bool := false
  dcoLimit : Bool := false
  firstLock : Bool := false
  stepRefused : Bool := false
  lockCount : Nat := 0
  wideCount : Nat := 0
  big : Nat := 0
  y : Int := 0
  yP : Int := 0
  yOsc : Int := 0
  r : Int := 0
  rFrac : Nat := 0
  e : Int := 0
  org : Option Int := none
  fresh : Option Int := none
  rPend : Bool := false
  preset : Bool := false
  hist : List (Int × Bool) := []
  secBad : Bool := true
  yAcc : Int := 0
  yN : Nat := 0
  avg : Int := 0
  winValid : Nat := 0
  short : Bool := false
  agingSkip : Bool := false
  aging : Int := 0
  tSum : Nat := 0
  tN : Nat := 0
  tL : Nat := 0
  leftSec : Nat := 0
  deriving DecidableEq, Repr

/-- DPLL1–DPLL3 (R356). -/
inductive DpllxState where
  | disabled | freeRun | locked | holdover | dtTrack
  deriving DecidableEq, Repr

/-- CLK_DPLL_STAT(x).STATE. -/
def DpllxState.code : DpllxState → Nat
  | .disabled => 0 | .freeRun => 1 | .locked => 2 | .holdover => 3 | .dtTrack => 4

/-- One of DPLL1–DPLL3: its state, whether it follows DT as fallback, its own frequency offset each second
(newest first, in units of 10⁻¹²), the offset it holds, and by how much its rising edge misses the OT second, in 2⁻¹⁶ ns, with the
remainder of the pull into alignment (R356). -/
structure Dpllx where
  state : DpllxState := .disabled
  fallback : Bool := false
  freqs : List Int := []
  held : Int := 0
  miss : Int := 0
  missFrac : Nat := 0
  deriving DecidableEq, Repr

/-- One of the dual PLLs (R511–R513): the loop in use, the health of the two loops. -/
structure DualPll where
  second : Bool := false
  ok0 : Bool := true
  ok1 : Bool := true
  deriving DecidableEq, Repr

/-- What an OUTCLK carries (R358): nothing but its low level, or a clock of so many Hz as a fraction, inverted or not. -/
structure OutClk where
  hz : Option (Nat × Nat) := none
  inv : Bool := false
  deriving DecidableEq, Repr

/-- The clock core: the HOLD period's segment, e_hold in ns and whether it is forced (R346, R347), the slew offset in
2⁻¹⁶ ns with the remainder of its fall (R349), the DAC code, the changes of y_osc that DAC writes wait to make with their
ticks (R360), what OUTCLK0–OUTCLK7 carry (R358), the tick of the next steering and the failures in a row, the frame counts, and the settings that a PPSOUT
pulse keeps until a change applies (R351): the stamp until which they hold, configuration and compensation. -/
structure ClkSt where
  d : Dpll0 := {}
  seg : Option Seg := none
  eHold : Nat := 0
  forced : Bool := false
  slew : Int := 0
  slewFrac : Nat := 0
  x : Tab Dpllx := []
  plls : Tab DualPll := []
  code : Nat := 0
  comp : List (Int × Nat) := []
  outs : Tab OutClk := []
  steerAt : Nat := 0
  fails : Nat := 0
  todSeq : Nat := 0
  cascSeq : Nat := 0
  cascFrameAt : Option Int := none
  pps : Tab (Int × Word × Word) := []
  deriving DecidableEq, Repr

end Sys2Proof.Machine
end

