-- ==== Sys2Proof/Machine/Blocks/Config.lean ====
section
/-!
DEFINITION. State of start-up, of power and of the configuration sets.
-/

namespace Sys2Proof.Machine

/-- GLB_STAT.STAGE (R465). -/
inductive Stage where
  | rom | header | verify | efesk | load | config | keys | running | noRecipe
  deriving DecidableEq, Repr

/-- STAGE as GLB_STAT shows it (R465): VERIFY and EFESK both read 0x2. -/
def Stage.code : Stage → Nat
  | .rom => 0 | .header => 1 | .verify => 2 | .efesk => 2 | .load => 3 | .config => 4 | .keys => 5
  | .running => 6 | .noRecipe => 15

/-- Why a slot fails (R469). -/
inductive BootCause where
  | none | header | signature | efesk | missing | record | bundle | critical | nvError | layout
  deriving DecidableEq, Repr

/-- The cause's number in GLB_BOOT_STAT (R469). -/
def BootCause.code : BootCause → Nat
  | .none => 0 | .header => 1 | .signature => 2 | .efesk => 3 | .missing => 4 | .record => 5
  | .bundle => 6 | .critical => 7 | .nvError => 8 | .layout => 9

/-- OTP contents (R475): the four customer key hashes (a blank slot matches no key, R472), the revocation
mask, the two anti-rollback minima, the device-unique key with its
identifier and signature (R291), and the fuse operation in progress with the tick at which it ends. -/
structure Otp where
  hashes : List (Option Nat) := [some 0, some 0, some 0, some 0]
  revoked : Nat := 0
  secVerMin : Nat := 0
  efeskMin : Nat := 0
  duk : Nat := 1
  dukSig : List Byte := []
  dukId : Nat := 0
  fuse : Option (FuseOp × Nat) := none
  deriving DecidableEq, Repr

/-- Start-up, power and the bypass opening (R465–R478, R529–R536). Times are ticks of `TimeSt.now`. `powerGood` says that the
core rails are within their tolerance, `chosen` that a slot has been chosen (R468), `verified` that its customer signature has been
verified (R472); `dirTypes` are the types of its directory entries and `bundles` its Efesk bundles (R470, R471); `t0` is the tick at
which start-up began. -/
structure BootSt where
  powerGood : Bool := false
  resetN : Bool := true
  apllLocked : Bool := false
  oscFsel : Nat := 0
  stage : Stage := .rom
  hdrA : Option SlotHeader := none
  hdrB : Option SlotHeader := none
  chosen : Bool := false
  verified : Bool := false
  dirTypes : List Nat := []
  bundles : List EfeskBundle := []
  t0 : Nat := 0
  slotB : Bool := false
  fallback : Bool := false
  causeFirst : BootCause := .none
  causeSecond : BootCause := .none
  dtLoaded : Bool := false
  keysDone : Bool := false
  nvReleased : Bool := false
  bootMs : Nat := 0
  deriving DecidableEq, Repr

/-- SERVING (R477) and the opening of the cascade bypass (R535). `cascLowSince` is the tick since which
CASC_IN has been low. -/
structure ServeSt where
  serving : Bool := false
  servingAt : Nat := 0
  openPending : Bool := false
  cascDrv : Bool := false
  openForced : Bool := false
  cascLowSince : Option Nat := some 0
  deriving DecidableEq, Repr

/-- A commit deferred to the release of the retiring set (R486): its own boundary in units of 2⁻¹⁶ ns ÷ 1000, and whether
it was scheduled. -/
structure Deferred where
  tc : Nat
  scheduled : Bool
  deriving DecidableEq, Repr

/-- The retiring set of R486: its generation, its values, and the tick of its 200 µs limit. -/
structure Retiring where
  gen : Nat
  regs : Tab Word
  limitAt : Nat
  deriving DecidableEq, Repr

/-- Commit control (R481–R486). `boundary` is the stamp of the last commit's t_c. `nowEdge` is the tick of the pending immediate commit's
edge, `schedAt` that of the last firing of CS036. -/
structure CfgSt where
  gen : Nat := 0
  boundary : Nat := 0
  nowEdge : Option Nat := none
  schedAt : Option Nat := none
  locked : Bool := false
  initialDone : Bool := false
  retiring : Option Retiring := none
  deferred : List Deferred := []
  deriving DecidableEq, Repr

/-- One 48-bit performance counter (R497–R502). `dueHit` and `dueOvf` say that the value has reached its
limit, or has carried out of bit 47, and that CNT_LIMIT or CNT_OVERFLOW is to report it. `ovf`, `hit` and
`carryLost` are the W1C bits of CNT_STAT (R523). -/
structure Counter where
  sel : Word := 0
  thresh : Nat := 0
  limit : Nat := 0
  val : Nat := 0
  snap : Nat := 0
  stopped : Bool := false
  ovf : Bool := false
  hit : Bool := false
  carryLost : Bool := false
  dueHit : Bool := false
  dueOvf : Bool := false
  deriving DecidableEq, Repr

/-- A master's latch and write bank for the counters (R501, R502), by counter number. -/
structure CntBank where
  latchHi : Tab Nat := []
  latchAll : Tab Nat := []
  stage : Tab Word := []
  deriving DecidableEq, Repr

/-- MSI-X state of a PCIe function (R493): enable and function mask, table words and pending bits. -/
structure MsixFn where
  enabled : Bool := false
  funMask : Bool := false
  masked : Nat := 0xFFFFFFFF
  tableW : Tab Word := []
  pending : Nat := 0
  deriving DecidableEq, Repr

/-- Event delivery, counters and the fault state (R490–R521). `lastSet` holds, by event and instance, the
tick at which a rate-limited event last set its bit. -/
structure EvtSt where
  lastSet : Tab Nat := []
  msix : Tab MsixFn := []
  alarm : Bool := false
  cnts : Tab Counter := []
  banks : Tab CntBank := []
  snapDue : List Nat := []
  fatal : Bool := false
  deriving DecidableEq, Repr

end Sys2Proof.Machine
end

