-- ==== Sys2Proof/Machine/Blocks/Mbx.lean ====
section
/-!
DEFINITION. State of the cores, the mailbox channels and the semaphores.
-/

namespace Sys2Proof.Machine

/-- MBX_CORE_STAT.STATE (R464). -/
inductive CoreMode where
  | off | loading | running | restarting | failed
  deriving DecidableEq, Repr

/-- MBX_CORE_STAT.STATE's code (R464). -/
def CoreMode.code : CoreMode → Nat
  | .off => 0 | .loading => 1 | .running => 2 | .restarting => 3 | .failed => 4

/-- One core (R441–R445): its state, the tick at which its watchdog was last restarted, the recent restarts,
and the hash recorded for its firmware image with the hash of the image now held. -/
structure CoreSt where
  mode : CoreMode := .off
  wdtFrom : Nat := 0
  warn : Bool := false
  restarts : List Nat := []
  imageHash : Nat := 0
  goodHash : Nat := 0
  load : Nat := 0
  deriving DecidableEq, Repr

/-- The outcome of an end's most recent send (R448). -/
inductive LastTx where
  | ok | full | aborted
  deriving DecidableEq, Repr

/-- One end of a channel (R446–R454). `inq` is its inbound queue, oldest word first; `ackFrom` is the tick
at which its acknowledgement timer started. -/
structure ChanEnd where
  up : Bool := false
  inq : List Word := []
  db : Word := 0
  dbMask : Word := 0xFFFFFFFF
  ackTimeout : Nat := 1000
  ackMask : Word := 2
  ackFrom : Option Nat := none
  lastTx : LastTx := .ok
  under : Bool := false
  txFull : Word := 0
  stalls : Word := 0
  deriving DecidableEq, Repr

/-- A message of the firmware that waits in its backlog (R458): its words. -/
abbrev FwMsg := List Word

/-- What the firmware of a core keeps per channel it serves: its backlog of at most 16 messages (R458) and,
on MB04–MB07, the 16 KiB staging buffer by word number (R457). -/
structure FwChan where
  backlog : List FwMsg := []
  buf : Tab Word := []
  deriving DecidableEq, Repr

/-- A job or import that the firmware carries for a channel, whose reply is due (R457). -/
structure FwWait where
  chan : Nat
  seq : Nat
  tag : Nat
  engine : Nat
  deriving DecidableEq, Repr

/-- The MBX block. Ends are indexed 2·channel for A and 2·channel + 1 for B; `sems` holds the holder's ID of
each semaphore, 0 when free (R460). -/
structure MbxSt where
  cores : Tab CoreSt := []
  ends : Tab ChanEnd := []
  sems : Tab Nat := []
  fw : Tab FwChan := []
  waits : List FwWait := []
  deriving DecidableEq, Repr

end Sys2Proof.Machine
end

