-- ==== Sys2Proof/Machine/Blocks/Meas.lean ====
section
/-!
DEFINITION. State of the GNSS baseband, of the time-interval unit and of the event lanes.
-/

namespace Sys2Proof.Machine

/-- A tracker's state (R377). -/
inductive TrkState where
  | idle | acq | pullIn | track | locked | nav | reacq
  deriving DecidableEq, Repr

/-- A tracker's state code (R408). -/
def TrkState.code : TrkState → Nat
  | .idle => 0 | .acq => 1 | .pullIn => 2 | .track => 3 | .locked => 4 | .nav => 5 | .reacq => 6

/-- What the firmware holds for a satellite (R381): the issue and the reference time (DT second) of the set
in use, and of a set that takes over at the next epoch. -/
structure Eph where
  issue : Nat
  toe : Nat
  deriving DecidableEq, Repr

/-- A channel (R373, R408): its satellite as constellation (0 GPS, 1 Galileo, 2 BeiDou) and PRN, its
trackers, the measured values of its record, and the tick since which tracker A or B has its state, with whether its signal
has been reacquired since it was first acquired (R401). `codeA` is what side-peak moves have added to the code phase, in 1/64 chip.
`parts` are the
parts decoded of an ephemeris set, with their issue; `bumpAt` is the tick of the last side-peak move, `exclUntil` the DT
second at which a residual exclusion ends, `missA` and `missB` the burst windows missed in a row. -/
structure GnsChan where
  sv : Option (Nat × Nat) := none
  a : TrkState := .idle
  b : TrkState := .idle
  aSince : Nat := 0
  bSince : Nat := 0
  aAgain : Bool := false
  bAgain : Bool := false
  codeA : Int := 0
  bRetry : Nat := 0
  eph : Option Eph := none
  ephNext : Option Eph := none
  parts : List (Nat × Nat) := []
  cn0A : Nat := 0
  cn0B : Nat := 0
  doppA : Int := 0
  doppB : Int := 0
  mpA : Nat := 0
  mpB : Nat := 0
  mpOut : Bool := false
  mpGood : Nat := 0
  resid : Int := 0
  elev : Int := 0
  azim : Nat := 0
  bumps : Nat := 0
  bumpAt : Option Nat := none
  exclUntil : Option Nat := none
  inSol : Bool := false
  missA : Nat := 0
  missB : Nat := 0
  deriving DecidableEq, Repr

/-- UTC parameters of a constellation (R385, R395, R396): the DT second of the last decode, the leap count as
TAI − UTC with the second of the first of the decodes in a row that gave it, and an announced leap as its LEAP_AT and direction,
with the second of the first of the decodes in a row that announced it. -/
structure UtcPar where
  at_ : Nat
  count : Int
  countSince : Nat
  leap : Option (Nat × Bool)
  leapSince : Nat
  deriving DecidableEq, Repr

/-- A survey (R389): the DT second of its start, the epochs averaged with the sums of their coordinates and of
the squares of their distances in cm. -/
structure Survey where
  start : Nat
  n : Nat
  sx : Int
  sy : Int
  sz : Int
  sq : Int
  deriving DecidableEq, Repr

/-- A time message (R405): the twelve words from GNS_TMSG_HDR to GNS_TMSG_USED. -/
abbrev TMsg := List Word

/-- What one epoch formed (R382–R392): its DT second, the T_G second N of the next raw pulse, FIX as coded in R405, b in ps,
its rate in ps per second, TUNC in ps, the DOPs, the satellites used per constellation, and whether one was
single-band and whether it was a burst epoch, with the MASTER and TSCALE that it used. -/
structure Epoch where
  sec : Nat
  n : Int
  fix : Nat
  bias : Int
  rate : Int
  tunc : Nat
  tdop : Nat
  pdop : Nat
  used : List Nat
  single : Bool
  burst : Bool
  master : Nat
  tscale : Bool
  deriving DecidableEq, Repr

/-- The GNSS baseband. `good` counts the epochs with a fix in a row, `free` the free positions of the last
600 epochs. `rawDone` and `published` are the DT seconds of the epochs whose pulse and message have gone out, `msgFix`
tells whether the last message had a fix. `refresh` is the DT second at which a refresh began, `refreshOk` the one at
which its data was complete, `refout` the ratio of GS_REFOUT to the APLL0 VCO while it runs (R369). `tau` is the τ_IF that the last epoch removed (R391). `capt` holds the masters' captures of the message `hdr`, `chWin` the channel window. -/
structure GnsSt where
  sampleOk : Bool := false
  lostAt : Nat := 0
  chans : Tab GnsChan := []
  utc : Tab (Option UtcPar) := []
  last : Option Epoch := none
  hadFix : Bool := false
  msgFix : Bool := false
  rawDone : Option Nat := none
  published : Option Nat := none
  good : Nat := 0
  burst : Bool := false
  refresh : Option Nat := none
  refreshOk : Option Nat := none
  refout : Option (Nat × Nat) := none
  held : Option (Int × Int × Int) := none
  survey : Option Survey := none
  surveyDone : Bool := false
  surveyTimeout : Bool := false
  inconsist : Bool := false
  free : List (Int × Int × Int) := []
  offsetMismatch : Bool := false
  leapDisagree : Bool := false
  tau : Int := 0
  hdr : TMsg := []
  seq : Nat := 0
  capt : Tab (List Word) := []
  chWin : List Word := []
  deriving DecidableEq, Repr

/-- A TIMIN input (R409–R418): edges counted by its prescaler, whether the edge that ends a discarded pulse is
due, the time of the last accepted edge in units of 2⁻¹⁶ ns ÷ 1000, its 16 most recent stamps (newest first, with a
mark on those moved by a step), and the newest stamp pushed out of them. -/
structure TimIn where
  count : Nat := 0
  drop : Bool := false
  last : Option Int := none
  hist : List (Int × Bool) := []
  pushed : Option Int := none
  deriving DecidableEq, Repr

/-- TIM_CH_STAT(k).STATE (R436). -/
inductive ChState where
  | idle | armed | measuring | gateWait
  deriving DecidableEq, Repr

/-- STATE's code. -/
def ChState.code : ChState → Nat
  | .idle => 0 | .armed => 1 | .measuring => 2 | .gateWait => 3

/-- A found stop (R417, R418, R423): input, stamp, STEPPED and CLIPPED. -/
structure Stop where
  input : Nat
  at_ : Int
  stepped : Bool
  clipped : Bool
  deriving DecidableEq, Repr

/-- A TIM channel (R415–R424). Stamps are in units of 2⁻¹⁶ ns. `arm` is the stamp from which a start edge may
begin the measurement; `stepBy` the steps of DT since the start of the measurement, to whose DT its stamps are
referred. `n`, `sx`, `snx` and `sxx` are the number of edges of a FREQ gate and the sums of x, of n·x and of x²,
x being the stamp after the gate's start. -/
structure TimCh where
  state : ChState := .idle
  arm : Int := 0
  once : Bool := false
  start : Int := 0
  stops : List Stop := []
  gate : Int := 0
  gateEnd : Int := 0
  n : Nat := 0
  sx : Int := 0
  snx : Int := 0
  sxx : Int := 0
  lateRec : Bool := false
  stepped : Bool := false
  unlocked : Bool := false
  stepBy : Int := 0
  queue : List (List Byte) := []
  seq : Nat := 0
  ovfBefore : Bool := false
  win : List Word := []
  late : Bool := false
  rejected : Bool := false
  badArm : Bool := false
  deriving DecidableEq, Repr

/-- The time-interval unit. `calFail` has a bit per stamper, two for each input; `calUntil` is the tick at which the
calibration in progress ends, `recalAt` that of the next recalibration and `recalNext` its stamper. -/
structure TimUnit where
  ins : Tab TimIn := []
  chs : Tab TimCh := []
  calValid : Bool := false
  calFail : Nat := 0
  calUntil : Option Nat := none
  recalAt : Nat := 0
  recalNext : Nat := 0
  deriving DecidableEq, Repr

/-- EVL_STAT(l).STATE (R440). -/
inductive LaneState where
  | idle | armed | running | trigWait
  deriving DecidableEq, Repr

/-- STATE's code. -/
def LaneState.code : LaneState → Nat
  | .idle => 0 | .armed => 1 | .running => 2 | .trigWait => 3

/-- The set an ARM copies into a lane (R425, R439). -/
structure LaneSet where
  cfg : Word := 0x28
  t0 : St64 := 0
  period : Nat := 0
  width : Nat := 0
  count : Nat := 0
  delay : Nat := 0
  deriving DecidableEq, Repr

/-- A lane (R425–R433). `t0` is OT in units of 2⁻¹⁶ ns, `idx` the index of the next pulse, `latePulse` the time of
a pulse or level change placed under FIRE_LATE, in OT units of 2⁻¹⁶ ns ÷ 1000; `high` says that the output is at its active
level, `trail` when a pulse in progress ends and `lastEnd` when the last one ended, in OT; `disarmAt` is the stamp of a DISARM in
TRIG mode; `comp` is EVL_COMP in use, and `compNew` the tick from which a new value applies to leading edges. -/
structure Lane where
  state : LaneState := .idle
  set : LaneSet := {}
  t0 : Int := 0
  idx : Nat := 0
  high : Bool := false
  trail : Option Int := none
  lastEnd : Option Int := none
  latePulse : Option Int := none
  late : Bool := false
  rejected : Bool := false
  badArm : Bool := false
  disarmAt : Option Int := none
  comp : Int := 0
  compNew : Option (Nat × Int) := none
  deriving DecidableEq, Repr

/-- The event lanes. -/
structure EvlSt where
  lanes : Tab Lane := []
  deriving DecidableEq, Repr

end Sys2Proof.Machine
end

