-- ==== Sys2Proof/Machine/Blocks/Pke.lean ====
section
/-!
DEFINITION. State of the public-key engines and of the key store.
-/

namespace Sys2Proof.Machine

/-- STATE of a key slot (KEY_SLOT_ATTR0). -/
inductive SlotState where
  | empty | loaded | pending
  deriving DecidableEq, Repr

/-- STATE's code. -/
def SlotState.code : SlotState → Nat
  | .empty => 0 | .loaded => 1 | .pending => 2

/-- A key-store slot (R286, R287): attributes, the public part as EXPORT_PUB gives it, and the secret part
as the bundle table of R292 lists it, which no register reads. -/
structure KeySlot where
  type : Nat := 0
  size : Nat := 0
  secure : Bool := false
  usage : Nat := 0
  channels : Nat := 0
  label : Nat := 0
  nbf : Nat := 0
  naf : Nat := 0
  state : SlotState := .empty
  pub : List Byte := []
  sec : List Byte := []
  deriving DecidableEq, Repr

/-- Who submitted a job (R276, R282): a core, by its index, or the SRV carafe signer. -/
inductive Submitter where
  | core (i : Nat)
  | srv
  deriving DecidableEq, Repr

/-- A job: its descriptor's eight words (R277), its submitter, for a carafe job the carafe, and
the input where the submitter's buffer lies in on-chip memory that the model holds, and the channel whose
staging buffer holds its buffers (R457). -/
structure PkeJob where
  words : List Word
  by_ : Submitter
  carafe : Nat := 0
  input : Option (List Byte) := none
  buf : Option Nat := none
  deriving DecidableEq, Repr

/-- A completion record (R282). -/
structure Cpl where
  tag : Nat
  owner : Nat
  status : Nat
  deriving DecidableEq, Repr

/-- The running job (R266): the tick of its start, the tick at which its count ends, its status and output as
they will be, the key slot image and operand register it loads, whether it ends with the wipe of a secret-bearing job, whether
its validation refuses it (R271), the WIPE_MODE it started under (R283), and whether an uncorrectable error has met its
operand memory or result buffer (R274). -/
structure Run where
  job : PkeJob
  start : Nat
  endAt : Nat
  status : Nat
  out : List Byte := []
  slotNew : Option (Nat × KeySlot) := none
  opNew : Option (Nat × Nat) := none
  secretBearing : Bool := false
  refused : Bool := false
  te5 : Bool := false
  eccBad : Bool := false
  deriving DecidableEq, Repr

/-- One engine (R260–R285). `ops` holds OP0–OP15 as numbers, `result` the bytes of the result buffer from its first on.
`status` and `lastOwner` are of the last completed job, `owner` and `program` of the running or last one (R295). `busyTicks` is
the remainder of PKE_BUSY. -/
structure Engine where
  online : Bool := false
  retired : Bool := false
  run : Option Run := none
  pend : List PkeJob := []
  startAt : Nat := 0
  wipeUntil : Option Nat := none
  clean : Bool := false
  prevOwner : Option Nat := none
  owner : Nat := 0
  program : Nat := 0
  status : Nat := 0
  lastOwner : Nat := 0
  cpl : Tab (List Cpl) := []
  held : List (Nat × Cpl) := []
  abortMiss : Bool := false
  ops : Tab Nat := []
  result : List Byte := []
  busyTicks : Nat := 0
  faults : List Nat := []
  deriving DecidableEq, Repr

/-- The engines and the key store. `ring` is the ring position of the current NTS master key (R290). -/
structure PkeSt where
  engs : Tab Engine := []
  slots : Tab KeySlot := []
  ring : Nat := 0
  ringNext : Bool := false
  pubWin : List Word := []
  pubValid : Bool := false
  refused : Bool := false
  attr : KeySlot := {}
  deriving DecidableEq, Repr

end Sys2Proof.Machine
end

