-- ==== Sys2Proof/Machine/Blocks/Ref.lean ====
section
/-!
DEFINITION. State of the reference monitors and of the selector.
-/

namespace Sys2Proof.Machine

/-- REF_STAT(m).STATE (R308). -/
inductive MonState where
  | disabled | noActivity | qlFail | freqFail | labelFail | phaseFail | xcheckFail | wtr | qualified
  deriving DecidableEq, Repr

/-- STATE's code (R308). -/
def MonState.code : MonState → Nat
  | .disabled => 0 | .noActivity => 1 | .qlFail => 2 | .freqFail => 3 | .labelFail => 4 | .phaseFail => 5
  | .xcheckFail => 6 | .wtr => 7 | .qualified => 8

/-- LAST_REASON (R320). -/
inductive Reason where
  | none | fail | revert | manual | majority | commit | first
  deriving DecidableEq, Repr

/-- LAST_REASON's code. -/
def Reason.code : Reason → Nat
  | .none => 0 | .fail => 1 | .revert => 2 | .manual => 3 | .majority => 4 | .commit => 5 | .first => 6

/-- A monitor's measurement of one second (R302, R304, R307, R312): the second of TBCLK time, the edge in ps of TBCLK
time, the offset o_m in units of 2⁻¹⁶ ns, and Δf in units of 10⁻¹². -/
structure RefSample where
  sec : Int
  tb : Int
  o : Int
  df : Int
  deriving DecidableEq, Repr

/-- One monitor (R297–R315). `last` is the last accepted pulse in ps of TBCLK time (R302), `cand` the last edge from which
activity may return (R301), `missed` the expected pulses missing since, `lack` the seconds without a pulse or a frame
(TOD), `bad` the edges outside the window, newest first. `pulse` is the stamp of the last accepted pulse, `owed` says
that it still waits for its frame, `next` is the label announced for the pulse to come. `passFrom` is the tick since
which activity windows pass, `winEdges` the edges of the window that runs. In frequency mode `since` are the edges since the last
edge that was stamped, `gate` and `edgeDt` are DT at the first and at the last stamp of the gate, and `periods` the divided periods
between them (R299, R304). `label` is the last label with its pulse. `hist` holds the accepted seconds, newest first.
`wtrEnd` is when WTR ends, in the units of `TimeSt.dt`, and `wtrLeft` what is left of it while it is held. `winners` are
the winners of the pairs that the reference lost, and `agreeRun` the seconds within limits of them (R314). -/
structure Monitor where
  state : MonState := .disabled
  active : Bool := false
  freqOk : Bool := false
  labelBad : Nat := 0
  phaseBad : Nat := 0
  qlOk : Bool := false
  xfail : Bool := false
  cfgErr : Bool := false
  last : Option Int := none
  cand : Option Int := none
  missed : Nat := 0
  lack : Nat := 0
  bad : List Int := []
  pulse : Option Nat := none
  owed : Bool := false
  next : Option Nat := none
  passFrom : Option Nat := none
  winEdges : Nat := 0
  since : Nat := 0
  gate : Option Int := none
  edgeDt : Int := 0
  periods : Nat := 0
  label : Option (Nat × Int) := none
  hist : List RefSample := []
  df : Int := 0
  o : Int := 0
  wtrEnd : Option Nat := none
  wtrLeft : Nat := 0
  disagree : Bool := false
  winners : List Nat := []
  agreeRun : Nat := 0
  deriving DecidableEq, Repr

/-- The monitors and the selector (R312–R323): `disPairs` are the pairs in an unresolved disagreement. -/
structure RefSt where
  mons : Tab Monitor := []
  selected : Option Nat := none
  reason : Reason := .none
  manualLost : Bool := false
  disPairs : List (Nat × Nat) := []
  disA : Nat := 0
  disB : Nat := 0
  disPhase : Bool := false
  noneRaised : Bool := false
  evalDue : Bool := false
  deriving DecidableEq, Repr

end Sys2Proof.Machine
end

