-- ==== Sys2Proof/Machine/Blocks/Ports.lean ====
section
/-!
DEFINITION. State of the ports, of the committed-departure schedulers, of the clusters and cells, of the
classifier and of the client-state table. Stamps are numbers of 2⁻¹⁶ ns of DT; ticks are those of
`TimeSt.now`.
-/

namespace Sys2Proof.Machine

/-- PRT_STAT(n).STATE (R87). -/
inductive LinkState where
  | disabled | down | calRx | training | calCheck | up | paired
  deriving DecidableEq, Repr

/-- PRT_STAT(n).STATE's code (R87). -/
def LinkState.code : LinkState → Nat
  | .disabled => 0 | .down => 1 | .calRx => 2 | .training => 3 | .calCheck => 4 | .up => 5 | .paired => 6

/-- An entry of the transmit timestamp queue (R83, R84). -/
structure TsqEntry where
  tag : Nat
  lostBefore : Bool
  dropped : Bool
  stamp : Nat
  deriving DecidableEq, Repr

/-- What a best-effort frame is, by class of R149: a Roughtime reply, a frame of the service cores, or a
frame of the host with its tag and whether it asked for a stamp. `followUp` and `delayReq` are the service
core frames whose sending the manual follows further. -/
inductive BeKind where
  | roughtime
  | core
  | followUp
  | delayReq (client seq : Nat)
  | host (tag : Nat) (tsReq : Bool)
  deriving DecidableEq, Repr

/-- The class of R149, served in strict priority. -/
def BeKind.cls : BeKind → Nat
  | .roughtime => 1 | .core => 2 | .followUp => 2 | .delayReq .. => 2 | .host .. => 3

/-- How a frame that the TE-9 sends is addressed (R198, R237): L2 or UDP over IPv4 or IPv6, its destination
MAC, address and ports, the index of the service address it leaves from, its VLAN tag with the TCI, and its
DSCP and hop limit. -/
structure FrameHead where
  l2 : Bool
  v6 : Bool
  dstMac : Nat
  src : BitVec 128
  dst : BitVec 128
  sport : Nat
  dport : Nat
  svcAddr : Nat
  tagged : Bool
  tci : Nat
  dscp : Nat
  hop : Nat
  deriving DecidableEq, Repr

/-- A best-effort frame: its length after the SFD, the tick at which it reaches the queue, its bytes, and the
external transmit delay that applies to it (R66). -/
structure BeFrame where
  kind : BeKind
  len : Nat
  since : Nat
  bytes : List Byte
  head : Option FrameHead := none
  asymTx : Int := 0
  deriving DecidableEq, Repr

/-- A wire interval in units of 2⁻¹⁶ ns ÷ 1000 of DT (R141). -/
structure Span where
  lo : Int
  hi : Int
  deriving DecidableEq, Repr

/-- A value of an RWL field with the DT stamp of its effective edge (R66). -/
structure Versioned where
  edge : Nat
  val : Int
  deriving DecidableEq, Repr

/-- A written RWL value whose effective edge is to come (R487). -/
structure RwlPend where
  addr : Nat
  val : Word
  due : Nat
  deriving DecidableEq, Repr

/-- One port (R53–R91, R133–R157). `asymRx` and `asymTx` list the effective external delays, newest first.
`calRx`, `calTx` and `skew` are in ps, `gridStep` and `gridPhase` in units of 2⁻¹⁶ ns ÷ 1000. `lanesOn` are the lanes of the group
that stand under power, those of the mode (R53). `fecHist` holds the ticks of the last uncorrectable codewords (R74).
`reserved` is the reservation of R151 with the frame it was made for. -/
structure PortSt where
  link : LinkState := .disabled
  lanesOn : Nat := 0
  lastDownMode : Bool := false
  sigDet : Nat := 0
  stepAt : Nat := 0
  trackAt : Nat := 0
  asymRx : List Versioned := []
  asymTx : List Versioned := []
  depTol : Nat := 4
  calRx : Int := 0
  calTx : Int := 0
  skew : List Int := []
  calState : Nat := 0
  failResidual : Bool := false
  failWindow : Bool := false
  trackCount : Nat := 0
  esmcAt : Nat := 0
  esmcQlSent : Nat := 0
  esmcTxAt : Nat := 0
  fecHist : List Nat := []
  rxBufs : List (Nat × Nat) := []
  slowTokens : Nat := 0
  slowAt : Nat := 0
  tsq : List TsqEntry := []
  tsqLostFlag : Bool := false
  htxFetch : Nat := 0
  tsqLatch : TsqEntry := ⟨0, false, false, 0⟩
  gridPhase : Nat := 0
  gridStep : Nat := 0
  gridLock : Bool := false
  gridGood : Nat := 0
  gridAt : Nat := 0
  be : List BeFrame := []
  beWire : List Span := []
  reserved : Option (BeFrame × Span) := none
  dShort : Nat := 0
  deriving DecidableEq, Repr

/-- The time state of R161. -/
inductive TState where
  | untraceable | locked | hold
  deriving DecidableEq, Repr

/-- TSTATE's code (R199). -/
def TState.code : TState → Nat
  | .untraceable => 0 | .locked => 1 | .hold => 2

/-- The smear of a leap (R170, R171): its LEAP_AT and direction, the stamp at which it starts, its window in
units of 2⁻¹⁶ ns, the classes whose SMEAR_EN was latched, and, for a cancelled leap, the stamp at which the
offset begins to return to 0. -/
structure Smear where
  leapAt : Nat
  delete : Bool
  start : Nat
  window : Nat
  classes : Nat
  cancelled : Option Nat := none
  deriving DecidableEq, Repr

/-- The time that a request's ingress stamp selects (R18, R107, R161): time state, reference type, the DT
second at which LOCKED was left, e_hold in ns, whether DT was ever ALIGNED, the leap table's OFFSET and its
pending leap with its direction (true for a deleted second), whether a step has carried DT past it and CS037 is still to fire
late (R23), the smear of the pending leap (R170), the offsets of cancelled leaps that return to 0 (R171), and the
meanPathDelay of the selected client in units of 2⁻¹⁶ ns (R164). -/
structure TimeView where
  ts : TState := .untraceable
  type : Nat := 0
  leftSec : Nat := 0
  eHold : Nat := 0
  aligned : Bool := false
  offset : Int := 0
  offsetValid : Bool := false
  leap : Option (Nat × Bool) := none
  leapFrozen : Bool := false
  leapLate : Bool := false
  smear : Option Smear := none
  fading : List Smear := []
  mpd : Int := 0
  deriving DecidableEq, Repr

/-- Verdict V1 (R101, R174, R204, R236). `rate` is the authenticated RATE kiss of the AES-CMAC and NTS
paths or the unauthenticated one of the plain path; a drop names the register that counts it. -/
inductive Verdict where
  | accept
  | kissRate | kissDeny | kissRstr
  | drop (counter : Nat)
  deriving DecidableEq, Repr

/-- A request in a cluster queue (R92, R94, R98). `fcsAt` is the tick of its FCS verdict, `home` the
cluster that CLS_HOME_MAP gave, `v1` the verdict that follows a stolen entry. `places` are the frame-store slots that its frame takes,
by cell and number, and `credit` those that a stolen entry still takes in the cluster it was first queued in (R116). -/
structure Req where
  id : Nat
  port : Nat
  sIn : Nat
  fcsAt : Nat
  slots : Nat
  path : Path
  frame : Frame
  rule : Nat
  gen : Nat
  epoch : Nat
  hash : Nat
  home : Nat
  hops : Nat := 0
  sprayed : Bool := false
  eligible : Bool := false
  v1 : Option Verdict := none
  view : TimeView
  asymTx : Int
  queued : Nat
  places : List (Nat × Nat) := []
  credit : Option (Nat × List (Nat × Nat)) := none
  deriving DecidableEq, Repr

/-- An internal Sync item (R112, R229, R232): its number in the order of requests, its port, the sequenceId it took, the instant T it is to meet,
its origin (the firing of its slot), the grant it answers on the unicast wheel, and its generation. -/
structure SyncItem where
  id : Nat
  port : Nat
  seq : Nat
  T : Nat
  origin : Nat
  grant : Option Nat
  gen : Nat
  dueAt : Nat
  deriving DecidableEq, Repr

/-- The kiss codes of R178. -/
inductive Kiss where
  | rate | deny | rstr | cryp | ntsn
  deriving DecidableEq, Repr

/-- A committed frame from its commit point to its pour (R106, R140–R147) with what its context record
holds (R111): the request, whether a kiss it is, authenticated or not, the tier reached and T₀, the key index and the tick of its V2 lookup, the S2C key, and the
bytes as composed. `len` counts the bytes after the SFD, FCS included. -/
structure CFrame where
  id : Nat
  port : Nat
  path : Path
  T : Nat
  t0 : Nat
  tier : Nat
  len : Nat
  origin : Nat
  gen : Nat
  cluster : Nat
  cell : Nat
  internal : Bool
  kiss : Option (Kiss × Bool)
  asymTx : Int
  key : Nat
  v2At : Nat
  s2c : List Byte
  cookies : List Byte
  seq : Nat
  grant : Option Nat
  req : Option Req
  head : FrameHead
  bytes : List Byte
  deriving DecidableEq, Repr

/-- A committed frame in the hand-off, or on its way back (R145), with the tick at which it arrives. -/
structure Flight where
  at_ : Nat
  f : CFrame
  deriving DecidableEq, Repr

/-- A committed frame admitted to a calendar: its release instant in units of 2⁻¹⁶ ns ÷ 1000 and its wire
interval (R141, R142). -/
structure Admitted where
  f : CFrame
  tRel : Int
  span : Span
  slots : Nat
  deriving DecidableEq, Repr

/-- The calendar of a port (R140): admitted frames, and frames whose release has begun: the instant at
which it ends in units of 2⁻¹⁶ ns ÷ 1000, the slots and the wire interval. -/
structure CalSt where
  frames : List Admitted := []
  pouring : List (Int × Nat × Span) := []
  handoff : List Flight := []
  deriving DecidableEq, Repr

/-- An entry of a priority queue (R97). -/
inductive Prio where
  | sync (i : SyncItem)
  | ret (f : CFrame)
  deriving DecidableEq, Repr

/-- What a busy cell works on. -/
inductive Job where
  | req (r : Req) (v1 : Verdict)
  | sync (i : SyncItem)
  | ret (id : Nat) (gen : Nat)
  | expired
  deriving DecidableEq, Repr

/-- A busy cell (R102–R106): its job, the tick of its dispatch, the tier and T it composes for, the kiss it
composes after a squash, whether the commit has taken place, and the ticks of commit and of freedom. -/
structure Busy where
  job : Job
  start : Nat
  path : Path
  tier : Nat
  T : Nat
  t0 : Nat
  kiss : Option Kiss := none
  mark : Option Kiss := none
  committed : Bool := false
  commitAt : Nat
  freeAt : Nat
  deriving DecidableEq, Repr

/-- An entry in a steal transfer (R116): the giver, and the tick of its arrival. -/
structure Transfer where
  at_ : Nat
  giver : Nat
  req : Req
  deriving DecidableEq, Repr

/-- One cluster (R97–R130). `areas` counts the frame-store slots in use in what each cell contributes (R97). `lastGrantBy` is the
neighbour (0 E, 1 S, 2 W, 3 N) that granted it most recently, `lastGiven` the neighbour it granted last, at tick `grantedAt`.
While its queue is below LOW_WATER its steal requests stand 8 CCLK apart from the tick `stealAt`, the first of them to the
neighbour `askNext` (R114). `dwellFrom` is the tick at which its queue went above TRIP_DEPTH, `enq` counts the requests each port
enqueued since. -/
structure ClusterSt where
  queue : List Req := []
  prio : List Prio := []
  areas : Tab Nat := []
  cellsOn : Nat := 0xFFFF
  cells : Tab (Option Busy) := []
  retired : Bool := false
  hot : Bool := false
  dwellFrom : Option Nat := none
  enq : Tab Nat := []
  lastGrantBy : Nat := 3
  lastGiven : Nat := 3
  grantedAt : Option Nat := none
  stealAt : Option Nat := some 0
  askNext : Nat := 0
  inbound : List Transfer := []
  returning : List Flight := []
  homed : Nat := 0
  lastDispatch : Nat := 0
  linkOff : Nat := 0
  linkFaults : List (Nat × Nat) := []
  deriving DecidableEq, Repr

/-- A remap of CLS_HOME_MAP that waits for the partition rebind (R130, R508). -/
structure Rebind where
  cluster : Nat
  since : Nat
  deriving DecidableEq, Repr

/-- The classifier (R92–R96, R119–R123): the 128-bit seed with the one before it, the epochs, the last
reseed edge as stamp and tick, the home map, and the spray state per port. Requests and Sync items are numbered by `nextId`; those
below `stepId` were stamped or fired before the last step edge (R26). `quiet` counts the quiet
intervals since a port entered spray mode, none while it does not count. -/
structure ClsSt where
  seed : BitVec 128 := 0
  oldSeed : BitVec 128 := 0
  epoch : Nat := 0
  reseedStamp : Nat := 0
  reseedAt : Nat := 0
  oldValid : Bool := false
  sweeping : Bool := false
  pending : Bool := false
  req : Bool := false
  deferred : Bool := false
  homeMap : List Nat := List.range 32
  sprayAuto : Nat := 0
  sprayFrom : Tab Nat := []
  quiet : Tab Nat := []
  pointer : Tab Nat := []
  lastHot : Nat := 0
  loadAt : Nat := 0
  nextId : Nat := 0
  stepId : Nat := 0
  rebinds : List Rebind := []
  deriving DecidableEq, Repr

/-- A client-state entry (R125). -/
structure CltEntry where
  addr : BitVec 128
  rule : Nat
  epoch : Bool
  tokens : Nat
  kiss : Nat
  lastKiss : Nat
  lastSeen : Nat
  count : Nat
  deriving DecidableEq, Repr

/-- An aggregate limiter of untracked requests (R177), in millionths of a request; `none` while it has never
been drawn on and stands full. -/
structure AggSt where
  tokens : Option Nat := none
  atUs : Nat := 0
  deriving DecidableEq, Repr

/-- A V1 lookup of the present CCLK cycle (R126): its tick, partition and entry, and the request with its verdict. -/
structure Lookup where
  tick : Nat
  part : Nat
  addr : BitVec 128
  epoch : Nat
  sIn : Nat
  path : Path
  gen : Nat
  id : Nat
  v1 : Verdict
  deriving DecidableEq, Repr

/-- The client-state table (R124–R127): entries by index of CLT_WIN_IDX, the aggregate limiters, the window with the tick
at which its copy completes, and the DT second of the last untracked request. -/
structure CltSt where
  entries : Tab (Option CltEntry) := []
  aggs : Tab AggSt := []
  win : List Word := []
  winValid : Bool := false
  winAt : Nat := 0
  lastUntracked : Option Nat := none
  camFull : Bool := false
  lookups : List Lookup := []
  deriving DecidableEq, Repr

end Sys2Proof.Machine
end

