-- ==== Sys2Proof/Machine/Blocks/Srv.lean ====
section
/-!
DEFINITION. State of the services: the served time state, the key tables, the NTS master keys and NTS-KE,
the carafes with their delegation, and PTP with its grants and its upstream clients.
-/

namespace Sys2Proof.Machine

/-- What an entry of a key table holds: its enable and key, and in the Annex P table its SPP and keyID. -/
structure KeyVal where
  en : Bool := false
  key : BitVec 256 := 0
  spp : Nat := 0
  keyId : Nat := 0
  deriving DecidableEq, Repr

/-- An entry of the symmetric key table (R181) or of the Annex P key table (R247): what it holds, and its recent changes,
newest first, each with its tick and what the entry held before it. -/
structure KeyEntry extends KeyVal where
  past : List (Nat × KeyVal) := []
  deriving DecidableEq, Repr

/-- A WRITE or DISABLE of a key table that awaits its edge, with or without a STAT load there (R181, R201). -/
structure KeyPend where
  ptp : Bool
  idx : Nat
  due : Nat
  master : Nat
  write : Option KeyVal
  disable : Bool
  stat : Bool
  deriving DecidableEq, Repr

/-- What a master sees of its commands on a key table (R201, R247). -/
structure KeyBank where
  en : Bool := false
  kcv : Nat := 0
  refused : Bool := false
  staged : Tab Word := []
  deriving DecidableEq, Repr

/-- An NTS master key (R189). -/
structure MasterKey where
  id : Nat
  key : BitVec 512
  activate : Nat
  deriving DecidableEq, Repr

/-- The NTS master keys (R189, R190): the roles in use, the set before the last rotation with the stamp of
that boundary, the next key with the stamp of its installation, the key that awaits its wipe with the tick of
it, and the stamps of the rotation and of its next trial. -/
structure NtsSt where
  cur : Option MasterKey := none
  prev1 : Option MasterKey := none
  prev2 : Option MasterKey := none
  oldCur : Option MasterKey := none
  oldPrev1 : Option MasterKey := none
  oldPrev2 : Option MasterKey := none
  boundary : Nat := 0
  next : Option MasterKey := none
  nextAt : Nat := 0
  retired : Option MasterKey := none
  wipeAt : Nat := 0
  rotateAt : Nat := 0
  retryAt : Option Nat := none
  noncePrefix : Nat := 0
  cookieCnt : Tab Nat := []
  replyCnt : Tab Nat := []
  deriving DecidableEq, Repr

/-- An open NTS-KE connection (R193, R195), with the service core that holds it (R442). -/
structure KeConn where
  addr : BitVec 128
  since : Nat
  core : Nat
  deriving DecidableEq, Repr

/-- Registers as the rule window sees an entry: eight words (R172). -/
structure RuleWin where
  refused : Bool := false
  busyUntil : Nat := 0
  deriving DecidableEq, Repr

/-- The NTP and NTS part of SRV (R158–R201). `views` holds the time views with the stamp from which each
applies, newest first, `keServer` and `keCert` the server name and the public key of the first
certificate that the recipe gives the NTS-KE server, `keReady` whether it listens (R473), `bcastAt` the stamp of
the next packet of each broadcast entry (R196), `fading` the smears of cancelled leaps whose offsets return to 0 (R171), `mpd` the
meanPathDelay that the selected client reported last (R164). -/
structure SrvSt where
  views : List (Nat × TimeView) := []
  everAligned : Bool := false
  lastStratum : Nat := 16
  lastTs : TState := .untraceable
  skipped : Option Nat := none
  smear : Option Smear := none
  fading : List Smear := []
  mpd : Int := 0
  leapSetAt : Nat := 0
  rule : RuleWin := {}
  sym : Tab KeyEntry := []
  annex : Tab KeyEntry := []
  keyPend : List KeyPend := []
  symBank : Tab KeyBank := []
  annexBank : Tab KeyBank := []
  nts : NtsSt := {}
  conns : List KeConn := []
  bcastAt : Tab Nat := []
  keServer : Option (List Byte) := none
  keCert : Option (List Byte) := none
  keReady : Bool := false
  deriving DecidableEq, Repr

/-- A leaf record (R205). -/
structure Leaf where
  hash : BitVec 256
  addr : BitVec 128
  mac : Nat
  cport : Nat
  port : Nat
  v6 : Bool
  tagged : Bool
  saddr : Nat
  tci : Nat
  stamp : Nat
  deriving DecidableEq, Repr

/-- A delegation of the online key (R219, R220): whether it is that of ONL_SLOT_B, the slot of its key, its public key, MINT and
MAXT as DT seconds and as DELE encodes them, and its CERT. -/
structure Dele where
  slotB : Bool
  slot : Nat
  pubk : BitVec 256
  mint : Nat
  maxt : Nat
  lo : Nat
  hi : Nat
  cert : List Byte
  deriving DecidableEq, Repr

/-- Where a sealed carafe stands (R212–R218). -/
inductive CarafeStage where
  | folding | queued | signing (engine : Nat) | emitting (next : Nat)
  | signed
  deriving DecidableEq, Repr

/-- A sealed carafe (R208, R213, R219): its cluster, its leaves in record order, its seal as tick and stamp,
MIDP and RADI, the delegation in use at the seal, the stage, the failed signing jobs, DSCP and hop limit
word of the generation active at the seal, and the signature. -/
structure Carafe where
  id : Nat
  cluster : Nat
  leaves : List Leaf
  sealTick : Nat
  sealStamp : Nat
  midp : Nat
  radi : Nat
  dele : Dele
  stage : CarafeStage
  fails : Nat := 0
  ctrl : Word
  sig : List Byte := []
  emitAt : Nat := 0
  deriving DecidableEq, Repr

/-- A carafe whose close time has come and whose seal is still to come (R208): its close time and the one at which it opened, its
leaves in record order, and the MAX_LEAVES of its opening. -/
structure Draining where
  tc : Nat
  since : Nat
  leaves : List Leaf
  maxLeaves : Nat
  deriving DecidableEq, Repr

/-- The carafes of a cluster short of their seal (R208–R211): the open one with its leaves, the MAX_LEAVES of its opening and the
close time at which it opened, and the closed ones that still drain, oldest first; the most recent close time, and `emitEnd`,
the tick of the last reply emitted. -/
structure OpenCarafe where
  isOpen : Bool := false
  leaves : List Leaf := []
  maxLeaves : Nat := 0x800
  since : Nat := 0
  draining : List Draining := []
  lastClose : Nat := 0
  emitEnd : Nat := 0
  deriving DecidableEq, Repr

/-- Roughtime (R202–R223). `retryAt` is the stamp of the firmware's next trial, `wipeOld` the slot of the old online key that KC is
to wipe (R220). -/
structure RtSt where
  opens : Tab OpenCarafe := []
  sealed : List Carafe := []
  nextId : Nat := 0
  cur : Option Dele := none
  next : Option Dele := none
  onlB : Bool := false
  late : Bool := false
  expired : Bool := false
  retryAt : Nat := 0
  wipeOld : Option Nat := none
  deriving DecidableEq, Repr

/-- One grant of an entry (R243–R245): its logInterval and the DT second of its expiry. -/
structure Grant where
  log : Int
  exp : Nat
  deriving DecidableEq, Repr

/-- The grants of one client and its fields of R258. -/
structure GrantSet where
  valid : Bool := false
  port : Nat := 0
  addr : BitVec 128 := 0
  v6 : Bool := false
  tagged : Bool := false
  portId : List Byte := []
  announce : Option Grant := none
  sync : Option Grant := none
  dresp : Option Grant := none
  phase : Nat := 0
  uport : Nat := 0
  tci : Nat := 0
  deriving DecidableEq, Repr

/-- A grant table entry (R243–R245): the present grants, its changes of the last 64 µs, newest first, each with its stamp and the
grants before it, its place in the directory, its sequence numbers, its Delay_Resp allowance with the stamp
of the last refill, and the stamp of its next Announce. -/
structure GrantEntry where
  cur : GrantSet := {}
  past : List (Nat × GrantSet) := []
  place : Nat := 0
  annSeq : Nat := 0
  syncSeq : Nat := 0
  tokens : Nat := 0
  tokAt : Nat := 0
  annAt : Nat := 0
  deriving DecidableEq, Repr

/-- A written grant entry whose effect edge is to come (R245). -/
structure GrantPend where
  idx : Nat
  due : Nat
  new : GrantSet
  place : Nat
  deriving DecidableEq, Repr

/-- An item of the unicast Sync wheel that the sequencer is to issue (R232). -/
structure UcItem where
  idx : Nat
  at_ : Nat
  T : Nat
  origin : Nat
  deriving DecidableEq, Repr

/-- PTP on one port (R224–R248); `annAt` is the stamp of its next Announce, `sigSeq` the sequenceId of its next signalling
message. -/
structure PtpPort where
  conflict : Bool := false
  sigSeq : Nat := 0
  seq : Nat := 0
  foreignClass : Nat := 0
  foreignCount : Nat := 0
  annSeq : Nat := 0
  annAt : Nat := 0
  mcAt : Nat := 0
  ucAt : Nat := 0
  items : List UcItem := []
  deriving DecidableEq, Repr

/-- SRV_PTP_CL_STAT.PORT_STATE (R250). -/
inductive ClState where
  | disabled | faulty | listening | uncalibrated | slave
  deriving DecidableEq, Repr

/-- PORT_STATE's code. -/
def ClState.code : ClState → Nat
  | .disabled => 0 | .faulty => 1 | .listening => 2 | .uncalibrated => 3 | .slave => 4

/-- SRV_PTP_CL_STAT.SERVO (R253–R255). -/
inductive Servo where
  | none | acquire | locked | freeRun
  deriving DecidableEq, Repr

/-- SERVO's code. -/
def Servo.code : Servo → Nat
  | .none => 0 | .acquire => 1 | .locked => 2 | .freeRun => 3

/-- A foreign master of a client (R250, R251): its identity and port, its data set with its grandmaster and, on
profile 3, its index in the unicast master table, and the ticks of its
Announce messages with their interval in ticks. -/
structure Foreign where
  ident : Nat
  portNo : Nat
  gm : Nat
  prio1 : Nat
  cls : Nat
  acc : Nat
  oslv : Nat
  prio2 : Nat
  steps : Nat
  umt : Nat
  interval : Nat
  heard : List Nat
  deriving DecidableEq, Repr

/-- A Sync of which a client awaits the rest of the exchange (R252): sequenceId, t1 and c_s once known, the
ingress stamp, and whether a Follow_Up is to come. -/
structure ClSync where
  seq : Nat
  t1 : Int
  cs : Int
  sIn : Nat
  done : Bool
  deriving DecidableEq, Repr

/-- A grant that a client holds (R249): the ticks of its renewal and of its end, and whether its renewal has been requested and not
been granted yet. -/
structure ClGrant where
  renewAt : Nat
  until_ : Nat
  asked : Bool
  deriving DecidableEq, Repr

/-- One upstream client (R249–R256). `phi` in units of 2⁻¹⁶ ns, `y` in units of 2⁻⁴⁸, `tu` the stamp of the
last update. `pair` is the last whole Sync, `dreq` the sequenceId of the last Delay_Req with its egress stamp, `fit` the
Syncs of R254 as t1 + c_s and S_in. `grants` holds its grants by 16 times the master's index plus the message type, `sigSeq` the
sequenceId of its next signalling message, `retryAt` the tick of the next request and `asked` whether one has gone unanswered (R249). -/
structure ClientSt where
  port : ClState := .disabled
  servo : Servo := .none
  masterClass : Nat := 0
  master : Option (Nat × Nat) := none
  foreigns : List Foreign := []
  phi : Int := 0
  y : Int := 0
  tu : Nat := 0
  mpd : Int := 0
  mpdWin : List Int := []
  theta : Int := 0
  lockCount : Nat := 0
  outliers : Nat := 0
  stepped : Bool := false
  fit : List (Int × Nat) := []
  syncs : List ClSync := []
  pair : Option ClSync := none
  dreq : Option (Nat × Option Nat) := none
  dseq : Nat := 0
  syncAt : Nat := 0
  syncLog : Int := -4
  annAt : Nat := 0
  grants : Tab ClGrant := []
  sigSeq : Nat := 0
  retryAt : Option Nat := none
  asked : Bool := false
  deriving DecidableEq, Repr

/-- PTP (R224–R259); `annCount` is the number of Announce messages sent in DT second `annSec` (R238). -/
structure PtpSt where
  annSec : Nat := 0
  annCount : Nat := 0
  ports : Tab PtpPort := []
  grants : Tab GrantEntry := []
  grantPend : List GrantPend := []
  hashKey : BitVec 128 := 0
  grWin : List Word := []
  grValid : Bool := false
  clients : Tab ClientSt := []
  lastClass : Nat := 0xF8F8
  deriving DecidableEq, Repr

end Sys2Proof.Machine
end

