-- ==== Sys2Proof/Machine/Blocks/Time.lean ====
section
/-!
DEFINITION. State of device time and of the backup domain: the count of DT, the frequency word, the leap
table, the backup counter, the 256 comparators and the capture sets.
-/

namespace Sys2Proof.Machine

/-- TSC_DT_STATE.STATE (R45, R48). -/
inductive DtState where
  | unset | rtcSeeded | floorSeeded | aligned
  deriving DecidableEq, Repr

/-- Source of a pending leap (R20, R51). -/
inductive LeapSource where
  | recipe | gnss | host
  deriving DecidableEq, Repr

/-- A pending leap of the leap table (R19). `delete` is DIR of R51. -/
structure PendLeap where
  at_ : Nat
  delete : Bool
  source : LeapSource
  deriving DecidableEq, Repr

/-- The backup domain of R532: its supply from VBAT, the counter of R44, the leap table, the last holdover average
of R343 and the cascade bypass switch of R534. -/
structure Backup where
  supplied : Bool := true
  vbatOk : Bool := true
  rtcValid : Bool := false
  rtcSec : Nat := 0
  rtcSub : Nat := 0
  lastAlign : Nat := 0
  leapValid : Bool := false
  offset : Int := 0
  pend : Option PendLeap := none
  frozen : Bool := false
  avgValid : Bool := false
  avg : Int := 0
  closed : Bool := true
  deriving DecidableEq, Repr

/-- One comparator of the 256 compare slots (R31): its armed time and period, the policy and STEP_FOLLOW
its owner armed it with, and, when R34 has found its time past, the tick of the TBCLK edge at which its late firing is due. -/
structure Slot where
  armed : Bool := false
  time : St64 := 0
  period : Nat := 0
  policy : Nat := 0
  follow : Bool := false
  late : Option Nat := none
  deriving DecidableEq, Repr

/-- A master's capture set of DT96 and ST64 (R40). -/
structure Capture where
  sec : Nat := 0
  ns : Nat := 0
  frac : Nat := 0
  st64 : St64 := 0
  deriving DecidableEq, Repr

/-- Device time. `now` counts ticks of 200 ps of the oscillator's time since t₀: TBCLK has an edge every
4 ticks and CCLK every 5 (R327). `dt` is DT at the most recent TBCLK edge and `dtPrev` at the one before,
in fifths of 2⁻⁶⁴ ns, in which the increment of R15 is a whole number. -/
structure TimeSt where
  now : Nat := 0
  dt : Nat := 0
  dtPrev : Nat := 0
  freq : Int := 0
  st : DtState := .unset
  slots : Tab Slot := []
  capt : Tab Capture := []
  floor : Nat := 0
  localRead : Tab Capture := []
  deriving DecidableEq, Repr

end Sys2Proof.Machine
end

