-- ==== Sys2Proof/Machine/State.lean ====
section
/-!
DEFINITION. The state of the TE-9: its registers, its blocks and the queue of the commands that wait.
-/

namespace Sys2Proof.Machine

/-- What leaves the package at its balls or its bus interfaces, as the manual describes it there. -/
inductive Out where
  /-- An MSI-X message of a function's vector, with the address and data of its table entry (R493). -/
  | msix (vector : Nat) (addrLo addrHi data : Word)
  /-- A committed frame whose first bit after the SFD crosses the plane of a port at T (R144), with its UDP checksum (R198, R228). -/
  | frame (port T tier : Nat) (head : FrameHead) (udp : Nat) (bytes : List Byte)
  /-- A best-effort frame released on a port at a tick (R150), with the UDP checksum of one that the TE-9 addressed. -/
  | best (port tick : Nat) (head : Option FrameHead) (udp : Nat) (bytes : List Byte)
  /-- A frame handed to the service-core firmware (R79). -/
  | toFirmware (port : Nat) (sIn : Nat) (payload : List Byte)
  /-- A completion written to the host receive ring at an index (R82). -/
  | hostRx (port index : Nat) (bytes : List Byte)
  /-- An ESMC PDU (R78): port, SSM code, whether it is an event PDU and carries the extended TLV. -/
  | esmc (port ssm : Nat) (event ext : Bool)
  /-- A pulse on PPSOUTk: leading edge in ps of OT, width in µs, active level (R351). -/
  | pps (k : Nat) (edge : Int) (width : Nat) (high : Bool)
  /-- A pulse on CASC_OUT: leading edge in ps of OT (R355). -/
  | casc (edge : Int)
  /-- A frame on TODOUT or CASC_OUT (R352, R355), at a rate in Bd. -/
  | tod (cascade : Bool) (baud : Nat) (bytes : List Byte)
  /-- An edge on EVOUTl at a point of the 25 ps grid, with the level it sets (R426). -/
  | evout (lane : Nat) (grid : Int) (high : Bool)
  /-- An I²C write to the oscillator DAC (R360). -/
  | i2c (addr : Nat) (bytes : List Byte)
  /-- The raw GNSS PPS: its TBCLK edge in ps of DT (R392). -/
  | rawPps (edge : Int)
  /-- A TCP RST or the close of an NTS-KE connection (R193, R195). -/
  | tcp (addr : BitVec 128) (reset : Bool)
  /-- A HelloRetryRequest of the NTS-KE server for a key share of a group (R192). -/
  | tlsRetry (addr : BitVec 128) (group : Option TlsGroup)
  /-- The server's side of a TLS handshake: the suite, the group and the signature scheme (R192). -/
  | tlsServer (addr : BitVec 128) (suite : TlsSuite) (group : TlsGroup) (scheme : Option TlsScheme)
  /-- A TLS alert of the NTS-KE server (R192). -/
  | tlsAlert (addr : BitVec 128) (code : Nat)
  /-- The response of the NTS-KE server: its records as type and body (R193). -/
  | ntske (addr : BitVec 128) (records : List (Nat × List Byte))
  /-- A job's output written to the submitter's buffer (R281). -/
  | pkeOut (engine : Nat) (addr : Nat) (bytes : List Byte)
  deriving DecidableEq, Repr

/-- The answer the bus gave to the last read: a value, or PCIe Unsupported Request (R467). -/
structure BusSt where
  data : List Word := []
  unsupported : Bool := false
  deriving DecidableEq, Repr

/-- The state of the TE-9. `live` holds every register bit that is RW, RWL, RC, W1C or a stored status,
`shadow` and `active` the two configuration sets (R481), each as a table of the words that differ from their
reset values. `draws`, `frees` and `outbox` are the model's own: the number of TRNG draws and of open
values taken so far, and what has left the package, newest first. `pending` holds the commands that wait,
first in, first out. -/
structure State where
  live : Tab Word := []
  shadow : Tab Word := []
  active : Tab Word := []
  time : TimeSt := {}
  vbat : Backup := {}
  otp : Otp := {}
  boot : BootSt := {}
  serve : ServeSt := {}
  cfg : CfgSt := {}
  evt : EvtSt := {}
  mbx : MbxSt := {}
  bus : BusSt := {}
  ports : Tab PortSt := []
  cals : Tab CalSt := []
  rwl : List RwlPend := []
  cls : ClsSt := {}
  clus : Tab ClusterSt := []
  clt : CltSt := {}
  srv : SrvSt := {}
  rt : RtSt := {}
  ptp : PtpSt := {}
  pke : PkeSt := {}
  ref : RefSt := {}
  clk : ClkSt := {}
  gns : GnsSt := {}
  tim : TimUnit := {}
  evl : EvlSt := {}
  draws : Nat := 0
  frees : Nat := 0
  outbox : List Out := []
  pending : List Instr := []
  deriving DecidableEq, Repr

/-- Why the machine stops. The block reports every error through its events and its status registers and
goes on, so no command of the model ends in a fault. -/
inductive Fault where
  /-- No meaning raises it. Safe: it stands for a stop that the manual does not describe. -/
  | none
  deriving DecidableEq, Repr

/-- Why a command is turned away. -/
inductive Refusal where
  /-- A command without a meaning in the model. Safe: the machine stops where the hardware goes on. -/
  | notModelled (mnemonic : String)
  deriving DecidableEq, Repr

/-- The state right after the backup domain is supplied and before core power: every register at the reset
value of its table, the core domain in reset, nothing waiting (R465, R529–R534). -/
def State.reset : State := {}

end Sys2Proof.Machine
end

