-- ==== Sys2Proof/Machine/Ops.lean ====
section
/-!
DEFINITION. The named operations that every family of commands shares: register access, performance
counters, the raise of an event with its delivery (R490–R494), ALARM_N (R516), the advance of time (R15)
and the draws of open values.
-/

namespace Sys2Proof.Machine

/-- What a command's meaning answers. -/
abbrev Res := Host.Outcome State Fault Refusal

/-! ## Registers -/

/-- Storage key of a register that is banked per master: the bank above the 26-bit address (R294). -/
def bankKey (m : Master) (a : Nat) : Nat := a + 0x4000000 * (m.bank + 1)

/-- The core of an index, KC being 4. -/
def coreMaster : Nat → Master
  | 0 => .sc0 | 1 => .sc1 | 2 => .sc2 | 3 => .sc3 | _ => .kc

/-- What an unlisted register of the live file holds: its reset value without RWS bits. -/
def liveDef (a : Nat) : Word := BitVec.ofNat 32 (resetLive (a % 0x4000000))

/-- Storage key of word `i` of entry `idx` of the access-rule table (R172), above every register key. -/
def ruleKey (idx i : Nat) : Nat := 0x8000000 + 32 * idx + 4 * i

/-- What an unlisted register of a configuration set holds: the reset value of its RWS bits (R481). Rule 0
of the access-rule table is VALID at reset with ACTION SERVE, KISS_EN 1, CLASS 1 and SVC 0x1F; every other
word of that table is 0 (R173). -/
def rwsDef (a : Nat) : Word :=
  if a < 0x4000000 then BitVec.ofNat 32 (resetRws a) else if a = ruleKey 0 4 then 0x1F010C00 else 0

/-- The live value of a register: its RW, RWL, status and counter bits. -/
def State.rd (s : State) (a : Nat) : Word := tget liveDef s.live a

/-- Writing the live value of a register. -/
def State.wr (s : State) (a : Nat) (v : Word) : State := { s with live := tset liveDef s.live a v }

/-- The active value of an RWS register (R481). -/
def State.ac (s : State) (a : Nat) : Word := tget rwsDef s.active a

/-- The shadow value of an RWS register (R481). -/
def State.sh (s : State) (a : Nat) : Word := tget rwsDef s.shadow a

/-- Writing the shadow value of an RWS register. -/
def State.wrSh (s : State) (a : Nat) (v : Word) : State := { s with shadow := tset rwsDef s.shadow a v }

/-- The configuration set of a generation (R484, R486). -/
def State.regsOf (s : State) (g : Nat) : Tab Word :=
  match s.cfg.retiring with
  | some r => if r.gen = g then r.regs else s.active
  | none => s.active

/-- The value an RWS register has in the set of a generation: the retiring set for an item of its
generation, the active set for every other (R484, R486). -/
def State.gv (s : State) (g a : Nat) : Word := tget rwsDef (s.regsOf g) a

/-- Adding to a 32-bit counter that saturates. -/
def State.bump (s : State) (a : Nat) (n : Nat := 1) : State := s.wr a (satAdd (s.rd a) n)

/-- A counter that keeps the greatest value since it was last read. -/
def State.keepMax (s : State) (a n : Nat) : State :=
  if (s.rd a).toNat < n then s.wr a (BitVec.ofNat 32 (min n (2 ^ 32 - 1))) else s

/-- Setting bits of a register. -/
def State.orBits (s : State) (a : Nat) (v : Word) : State := s.wr a (s.rd a ||| v)

/-- Clearing bits of a register. -/
def State.clrBits (s : State) (a : Nat) (v : Word) : State := s.wr a (s.rd a &&& ~~~ v)

/-- Writing a 64-bit value into a pair of registers at `a` and `a + 4`. -/
def State.wr64 (s : State) (a n : Nat) : State := (s.wr a (lo32 n)).wr (a + 4) (hi32 n)

/-- What left the package, newest first. -/
def State.emit (s : State) (o : Out) : State := { s with outbox := o :: s.outbox }

/-! ## Open values -/

/-- The next draw of the TRNG. -/
def State.draw (s : State) : BitVec 512 × State := (Config.trng s.draws, { s with draws := s.draws + 1 })

/-- The next value that the manual leaves open. -/
def State.free (s : State) : BitVec 64 × State := (Config.freeValue s.frees, { s with frees := s.frees + 1 })

/-! ## Device time -/

/-- Units of `TimeSt.dt` in one unit of 2⁻¹⁶ ns. -/
def stUnit : Nat := 5 * 2 ^ 48
/-- Units of `TimeSt.dt` in one nanosecond. -/
def nsUnit : Nat := 5 * 2 ^ 64
/-- Units of `TimeSt.dt` in one second. -/
def secUnit : Nat := 1000000000 * nsUnit

/-- DT SEC of a count of DT (R6). -/
def dtSec (d : Nat) : Nat := d / secUnit
/-- DT NS of a count of DT (R6). -/
def dtNs (d : Nat) : Nat := d / nsUnit % 1000000000
/-- DT FRAC of a count of DT (R6). -/
def dtFrac (d : Nat) : Nat := d / stUnit % 65536
/-- ST64 of a count of DT (R6). -/
def dtSt64 (d : Nat) : St64 := BitVec.ofNat 64 (d / stUnit)

/-- R15: the increment of DT at each TBCLK edge, 52,428.8 × (1 + F × 2⁻⁴⁸) units of 2⁻¹⁶ ns. -/
def TimeSt.inc (t : TimeSt) : Nat := (262144 * (2 ^ 48 + t.freq)).toNat

/-- DT at the most recent TBCLK edge (R14). -/
def State.st64 (s : State) : St64 := dtSt64 s.time.dt

/-- DT SEC now. -/
def State.sec (s : State) : Nat := dtSec s.time.dt

/-- The present instant of DT in units of 2⁻¹⁶ ns ÷ 1000 (1 ps is 65,536 units). -/
def State.nowG (s : State) : Nat := (s.time.dt + s.time.inc * (s.time.now % 4) / 4) * 1000 / stUnit

/-- The present instant of DT in units of 2⁻¹⁶ ns. -/
def State.nowSt (s : State) : Nat := s.nowG / 1000

/-- DT of the present instant on the CCLK and TBCLK grid, exact to a quarter of a TBCLK period (R483). -/
def State.dtExact (s : State) : Nat := s.time.dt + s.time.inc * (s.time.now % 4) / 4

/-- Ticks in one CCLK cycle, one TBCLK cycle, one µs and one ms of oscillator time (R327). -/
def cclkTicks : Nat := 5
/-- Ticks in one TBCLK cycle. -/
def tbTicks : Nat := 4
/-- Ticks in 1,000 CCLK cycles. -/
def usTicks : Nat := 5000

/-- The tick of the `n`-th CCLK edge after the edge that accepts a command now. -/
def State.cclkAfter (s : State) (n : Nat) : Nat := (ceilDiv s.time.now cclkTicks + n) * cclkTicks

/-- The first CCLK edge at or after tick `t`. -/
def cclkCeil (t : Nat) : Nat := ceilDiv t cclkTicks * cclkTicks

/-- The tick of the first CCLK edge after now. -/
def State.cclkNext (s : State) : Nat := (s.time.now / cclkTicks + 1) * cclkTicks

/-- The CCLK edges passed since t₀. -/
def State.cclk (s : State) : Nat := s.time.now / cclkTicks

/-! ## Performance counters -/

/-- Reset value of a counter. -/
def cntDef (_ : Nat) : Counter := {}

/-- R497: whether counter `c` runs and selects `cls` and `src`. -/
def Counter.counts (c : Counter) (cls src : Nat) : Bool :=
  bitAt c.sel 16 && fld c.sel 8 3 == cls && fld c.sel 0 8 == src && !c.stopped

/-- R498: whether counter `n` is an odd counter that counts its partner's carries. -/
def Counter.chained (c : Counter) (n : Nat) : Bool := n % 2 == 1 && bitAt c.sel 12

/-- R499: what a counter does when `n` steps of `st` are added to it under limit `lim`. -/
def Counter.reach (c : Counter) (st n lim : Nat) : Counter :=
  let m := ceilDiv (lim - c.val) st
  if bitAt c.sel 15 && 0 < st && c.val < lim && m ≤ n then
    if fld c.sel 13 2 = 1 then { c with val := c.val + m * st, stopped := true, dueHit := true }
    else if fld c.sel 13 2 = 2 then { c with val := (n - m) % ceilDiv lim st * st, dueHit := true }
    else { c with val := c.val + n * st, dueHit := true }
  else { c with val := c.val + n * st }

/-- R498–R500: adding `n` steps of `st` to counter `i`: its value, its limit and the carry out of bit 47,
which goes to an odd partner with CHAIN = 1 and otherwise is reported by CNT_OVERFLOW. A partner whose EN is 0 counts no
carry, and the even counter still sets no OVF. -/
def cntAdd (t : Tab Counter) (i st n : Nat) : Tab Counter :=
  let c := tget cntDef t i
  let p := tget cntDef t (i + 1)
  if p.chained (i + 1) then
    let c' := ({ c with val := p.val * 2 ^ 48 + c.val } : Counter).reach st n (p.limit * 2 ^ 48 + c.limit)
    let p' := if bitAt p.sel 16 && !p.stopped then
        { p with val := c'.val / 2 ^ 48 % 2 ^ 48, dueOvf := p.dueOvf || decide (2 ^ 96 ≤ c'.val) }
      else p
    tset cntDef (tset cntDef t i { c' with val := c'.val % 2 ^ 48 }) (i + 1) p'
  else
    let c' := c.reach st n c.limit
    tset cntDef t i { c' with val := c'.val % 2 ^ 48, dueOvf := c'.dueOvf || decide (2 ^ 48 ≤ c'.val) }

/-- R497: adding the steps `amt n c` (size and number) to every listed counter `n`. -/
def cntFold (amt : Nat → Counter → Nat × Nat) (t : Tab Counter) : Tab Counter :=
  t.foldl (fun acc p =>
    if (amt p.1 p.2).1 * (amt p.1 p.2).2 = 0 || p.2.chained p.1 then acc
    else cntAdd acc p.1 (amt p.1 p.2).1 (amt p.1 p.2).2) t

/-- R497: counting in every counter, when CNT_CTRL.EN is 1. -/
def State.cntPass (s : State) (amt : Nat → Counter → Nat × Nat) : State :=
  if bitAt (s.rd Reg.CNT_CTRL) 0 then { s with evt := { s.evt with cnts := cntFold amt s.evt.cnts } }
  else s

/-- One item of a flow (R497, class FLOW). -/
def State.flow (s : State) (src : Nat) (k : Nat := 1) : State :=
  s.cntPass (fun _ c => if c.counts 2 src then (1, k) else (0, 0))

/-- One occurrence of an event's condition (R497, class EVENT). -/
def State.countEvent (s : State) (e : Nat) : State :=
  s.cntPass (fun _ c => if c.counts 1 e then (1, 1) else (0, 0))

/-! ## Events -/

/-- The routings that EVT_ROUTE(e) holds (R519), by event. -/
def State.routes (s : State) : List (Nat × Word) :=
  (s.live.filter (fun p => Reg.EVT_ROUTE 0 ≤ p.1 && p.1 < Reg.EVT_ROUTE 256)).map
    (fun p => ((p.1 - Reg.EVT_ROUTE 0) / 4, p.2))

/-- R492: event `e` stands in EVT_STAT and is not masked. -/
def State.evShown (s : State) (e : Nat) : Bool :=
  bitAt (s.rd (Reg.EVT_STAT (e / 32))) (e % 32) && !bitAt (s.rd (Reg.EVT_MASK (e / 32))) (e % 32)

/-- R492: vector `v` is pending. -/
def State.vecPend (s : State) (v : Nat) : Bool :=
  s.routes.any (fun p => bitAt p.2 5 && fld p.2 0 5 == v && s.evShown p.1)

/-- R494: an event is pending for INT_N[k]. -/
def State.intPend (s : State) (k : Nat) : Bool :=
  s.routes.any (fun p => bitAt p.2 (6 + k) && s.evShown p.1)

/-- R516 bit 8: an event is pending for ALARM_N. -/
def State.alarmRouted (s : State) : Bool := s.routes.any (fun p => bitAt p.2 10 && s.evShown p.1)

/-- Reset state of a function's MSI-X capability (R493). -/
def msixDef (_ : Nat) : MsixFn := {}

/-- The function and table entry of a vector: 0 for PF0 and 1 for PF1 (R493). -/
def vecFn (v : Nat) : Nat × Nat := if v < 24 then (0, v) else (1, v - 24)

/-- R493: the message of vector `v`, sent, or held in its pending bit while MSI-X is not enabled or a mask is
set. -/
def State.msixSend (s : State) (v : Nat) : State :=
  let f := (vecFn v).1
  let e := (vecFn v).2
  let m := tget msixDef s.evt.msix f
  if m.enabled && !m.funMask && !m.masked.testBit e then
    s.emit (.msix v (tget (fun _ => 0) m.tableW (4 * e)) (tget (fun _ => 0) m.tableW (4 * e + 1))
      (tget (fun _ => 0) m.tableW (4 * e + 2)))
  else
    { s with evt := { s.evt with msix := tset msixDef s.evt.msix f { m with pending := m.pending ||| 2 ^ e } } }

/-- Number of the 1 bits among the low `w` bits of a register. -/
def ones (v : Word) (w : Nat) : Nat := ((List.range w).filter (fun i => bitAt v i)).length

/-- Reset state of a core. -/
def coreDef (_ : Nat) : CoreSt := {}

/-- Core `c` is FAILED (R445). -/
def State.coreFailed (s : State) (c : Nat) : Bool := decide ((tget coreDef s.mbx.cores c).mode = .failed)

/-- R442, R445: the core that has the tasks of core `c`: itself, or for a FAILED service core the next one in order that is not
FAILED; the tasks of a FAILED KC move nowhere. -/
def State.taskCore (s : State) (c : Nat) : Option Nat :=
  if !s.coreFailed c then some c
  else if c = 4 then none
  else ([1, 2, 3].map (fun d => (c + d) % 4)).find? (fun k => !s.coreFailed k)

/-- R444, R445: the tasks of core `c` stand still: the core that has them restarts, or none has. A command for such a task then has
no effect, as on loss of its input. -/
def State.taskStopped (s : State) (c : Nat) : Bool := match s.taskCore c with
  | some k => decide ((tget coreDef s.mbx.cores k).mode = .restarting)
  | none => true

/-- FLT_CAUSE (R516): the active causes of ALARM_N, bits 4–9 without those that FLT_ALARM_MASK ignores. -/
def State.fltCause (s : State) : Word :=
  let pol := s.ac Reg.FLT_POLICY
  let red := s.rd Reg.FLT_REDUN
  let raw : Nat :=
    bn (decide (s.boot.stage = .noRecipe)) 0 + bn (bitAt (s.rd Reg.CLK_STAT) 1) 1 + bn (bitAt red 10) 2 +
    bn s.evt.fatal 3 + bn ((List.range 4).any s.coreFailed) 4 + bn (s.coreFailed 4) 5 +
    bn (decide (fld pol 20 6 ≤ ones (s.rd Reg.FLT_RETIRED_CLU) 32)) 6 +
    bn (decide (fld pol 26 4 ≤ ones (s.rd Reg.FLT_RETIRED_PKE) 8)) 7 +
    bn s.alarmRouted 8 + bn (decide (fld red 3 3 ≠ 0)) 9
  BitVec.ofNat 32 raw &&& ~~~ (s.ac Reg.FLT_ALARM_MASK &&& fldMask 4 6)

/-- R490, R491: the raise of event `e` in EVT_STAT and in the core views that enable it. -/
def State.setStat (s : State) (e : Nat) : State :=
  let s := s.orBits (Reg.EVT_STAT (e / 32)) (bitMask (e % 32))
  [Master.kc, .sc0, .sc1, .sc2, .sc3].foldl (fun s m =>
    if bitAt (s.rd (bankKey m (Reg.EVT_CORE_EN (e / 32)))) (e % 32) then
      s.orBits (bankKey m (Reg.EVT_CORE_STAT (e / 32))) (bitMask (e % 32))
    else s) s

/-- R491: a delivery of event `e` to core `c` that needs no enable. -/
def State.coreMark (s : State) (c e : Nat) : State :=
  s.orBits (bankKey (coreMaster c) (Reg.EVT_CORE_STAT (e / 32))) (bitMask (e % 32))

/-- R493: the messages of the vectors of `vs` that were not pending in `s₀` and are pending in `s`. -/
def State.deliver (s₀ s : State) (vs : List Nat) : State :=
  vs.foldl (fun s v => if !s₀.vecPend v && s.vecPend v then s.msixSend v else s) s

/-- The vectors that any routing names. -/
def State.vecsRouted (s : State) : List Nat :=
  ((s.routes.filter (fun p => bitAt p.2 5)).map (fun p => fld p.2 0 5)).eraseDups

/-- R490, R493: setting the bit of event `e` with the delivery that follows. -/
def State.raiseBit (s : State) (e : Nat) : State := State.deliver s (s.setStat e) s.vecsRouted

/-- R516: ALARM_N follows the causes, and each assertion raises EV021. -/
def State.alarmSync (s : State) : State :=
  if s.fltCause = 0 then { s with evt := { s.evt with alarm := false } }
  else if s.evt.alarm then s
  else (({ s with evt := { s.evt with alarm := true } } : State).countEvent 21).raiseBit 21

/-- R490: the raise of event `e`: counted (R497), set, delivered, and followed by ALARM_N. -/
def State.raise (s : State) (e : Nat) : State := ((s.countEvent e).raiseBit e).alarmSync

/-- A raise that its source limits to once per `ticks`: the limit applies to setting the bit (R490), and
the occurrence is counted all the same (R497). `key` names the event and its instance. -/
def State.raiseLim (s : State) (e key ticks : Nat) : State :=
  let k := 4096 * e + key
  if s.evt.lastSet.any (fun p => p.1 == k && decide (s.time.now < p.2 + ticks)) then s.countEvent e
  else (({ s with evt := { s.evt with lastSet := tput s.evt.lastSet k s.time.now } } : State).raise e)

/-- Ticks in one millisecond of CCLK. -/
def msTicks : Nat := 5000000
/-- Ticks in one second of CCLK. -/
def sTicks : Nat := 5000000000

/-! ## The passage of time -/

/-- DT at tick `t`, at the present rate, in units of 2⁻¹⁶ ns ÷ 1000. -/
def State.gAt (s : State) (t : Nat) : Int :=
  ((((tbTicks * s.time.dt + s.time.inc * t - s.time.inc * (s.time.now / tbTicks * tbTicks)) / tbTicks) * 1000 / stUnit : Nat) : Int)

/-- DT at the TBCLK edge at or before tick `t`, at the present rate. -/
def State.dtAtTick (s : State) (t : Nat) : Nat :=
  s.time.dt + s.time.inc * (t / tbTicks) - s.time.inc * (s.time.now / tbTicks)

/-- The first tick at or after an instant of DT. -/
def State.tickAtG (s : State) (g : Int) : Nat :=
  if g ≤ s.nowG then s.time.now
  else s.time.now + ceilDiv (stUnit * ((g - s.nowG).toNat * 4)) (1000 * s.time.inc)

/-- R507: whether a cell is busy at tick `t`: until its request has ended and its occupancy is over. -/
def Busy.holds (b : Busy) (t : Nat) : Bool := !(b.committed || b.job == .expired) || decide (t < b.freeAt)

/-- The cells of every cluster that hold a request. -/
def State.busyCells (s : State) : List Busy := s.clus.flatMap (fun p => p.2.cells.filterMap (·.2))

/-- R497: what an OCC counter of source `src` sees at tick `t`, if nothing but the passage of time changes it. -/
def State.occ (s : State) (src t : Nat) : Nat :=
  if src < 0x20 then (tget (fun _ => ({} : ClusterSt)) s.clus src).queue.length
  else if src < 0x28 then
    let c := tget (fun _ => ({} : CalSt)) s.cals (src - 0x20)
    (c.frames.map (·.slots)).sum + ((c.pouring.filter (fun p => decide (s.gAt t < p.1))).map (fun p => p.2.1)).sum
  else if src < 0x30 then (tget (fun _ => ({} : PortSt)) s.ports (src - 0x28)).be.length
  else if src < 0x38 then
    let e := tget (fun _ => ({} : Engine)) s.pke.engs (src - 0x30)
    e.pend.length + bn e.run.isSome
  else if src = 0x38 then
    (s.rt.sealed.filter (fun c => match c.stage with
      | .folding | .queued | .signing _ => true
      | .emitting _ | .signed => false)).length
  else if src = 0x39 then (s.clt.entries.filter (fun p => decide (1048576 ≤ p.1) && p.2.isSome)).length
  else (s.busyCells.filter (·.holds t)).length

/-- The ticks at which the passage of time alone changes an occupancy: a cell's freedom, a release's end. -/
def State.occEnds (s : State) : List Nat :=
  (s.busyCells.filter (fun b => b.committed || b.job == .expired)).map (·.freeAt) ++
    s.cals.flatMap (fun p => p.2.pouring.map (fun x => s.tickAtG x.1))

/-- A number put into a rising list. -/
def insertNat (n : Nat) : List Nat → List Nat
  | [] => [n]
  | m :: l => if n ≤ m then n :: m :: l else m :: insertNat n l

/-- R497, R498: the CCLK edges in the ticks from after `a` to `b`, at the occupancies of tick `a`. -/
def State.countPiece (s : State) (a b : Nat) : State :=
  let n := b / cclkTicks - a / cclkTicks
  s.cntPass (fun _ c =>
    if !bitAt c.sel 16 || c.stopped then (0, 0)
    else if fld c.sel 8 3 = 4 then (1, n)
    else if fld c.sel 8 3 = 3 then
      if bitAt c.sel 11 then (s.occ (fld c.sel 0 8) a, n)
      else if c.thresh ≤ s.occ (fld c.sel 0 8) a then (1, n) else (0, 0)
    else (0, 0))

/-- R497, R498: the CCLK cycles and occupancies from now up to tick `t`, piece by piece between the ticks at which
occupancies change. -/
def State.countCycles (s : State) (t : Nat) : State :=
  let pts := (s.occEnds.filter (fun x => decide (s.time.now < x) && decide (x < t))).foldr insertNat [t]
  (pts.foldl (fun (acc : Nat × State) x => (x, acc.2.countPiece acc.1 x)) (s.time.now, s)).2

/-- R14, R15: time passes up to tick `t`: DT advances at each TBCLK edge passed, and the counters of CCLK
cycles and occupancies count the CCLK edges passed. -/
def State.advTo (s : State) (t : Nat) : State :=
  if t ≤ s.time.now then s
  else
    let e := t / tbTicks - s.time.now / tbTicks
    let s' := s.countCycles t
    let tm := { s.time with
      now := t
      dt := s.time.dt + e * s.time.inc
      dtPrev := if e = 0 then s.time.dtPrev else s.time.dt + (e - 1) * s.time.inc }
    { s' with time := tm }

/-- The tick of the next TBCLK edge. -/
def State.nextTb (s : State) : Nat := (s.time.now / tbTicks + 1) * tbTicks

/-- R327: a TBCLK edge and a CCLK edge coincide at the present tick. -/
def State.coincides (s : State) : Bool := s.time.now % (tbTicks * cclkTicks) == 0

/-- R41, R327: DT as the CCLK edge at which time stands sees it: at the most recent TBCLK edge strictly before it. Away from a
coinciding edge it is DT at the most recent TBCLK edge. -/
def State.dtBefore (s : State) : Nat := if s.coincides then s.time.dtPrev else s.time.dt

/-- R327: the tick of the first TBCLK edge after the CCLK edge at which time stands; one that coincides with it counts. -/
def State.firstTb (s : State) : Nat := if s.coincides then s.time.now else s.nextTb

/-- The tick of the first TBCLK edge at which DT is at least `target` (in the units of `TimeSt.dt`); the
present instant if DT is there already. -/
def State.tickOfDt (s : State) (target : Nat) : Nat :=
  if target ≤ s.time.dt then s.time.now
  else (s.time.now / tbTicks + ceilDiv (target - s.time.dt) s.time.inc) * tbTicks

/-- Time passes until DT is at least `target`. -/
def State.advDt (s : State) (target : Nat) : State := s.advTo (s.tickOfDt target)

/-- The DT, in the units of `TimeSt.dt`, that an ST64 time names: the one within 2⁶³ units of now (R7). -/
def State.dtOf (s : State) (t : St64) : Nat :=
  stUnit * ((s.time.dt / stUnit : Nat) + stDiff t s.st64).toNat

end Sys2Proof.Machine
end

