-- ==== Sys2Proof/Machine/Access.lean ====
section
/-!
DEFINITION. Access to the tables of the state: for each, what an unlisted index holds, the entry of an
index, and the change of an entry by a function.
-/

namespace Sys2Proof.Machine

/-- Port n as an unlisted index holds it. -/
def portDef (_ : Nat) : PortSt := {}
/-- Port n. -/
def State.port (s : State) (i : Nat) : PortSt := tget portDef s.ports i
/-- Port n, changed by a function. -/
def State.updPort (s : State) (i : Nat) (f : PortSt → PortSt) : State :=
  { s with ports := tupd portDef s.ports i f }

/-- The calendar of port n as an unlisted index holds it. -/
def calDef (_ : Nat) : CalSt := {}
/-- The calendar of port n. -/
def State.cal (s : State) (i : Nat) : CalSt := tget calDef s.cals i
/-- The calendar of port n, changed by a function. -/
def State.updCal (s : State) (i : Nat) (f : CalSt → CalSt) : State :=
  { s with cals := tupd calDef s.cals i f }

/-- Cluster Kk as an unlisted index holds it. -/
def cluDef (_ : Nat) : ClusterSt := {}
/-- Cluster Kk. -/
def State.clu (s : State) (i : Nat) : ClusterSt := tget cluDef s.clus i
/-- Cluster Kk, changed by a function. -/
def State.updClu (s : State) (i : Nat) (f : ClusterSt → ClusterSt) : State :=
  { s with clus := tupd cluDef s.clus i f }

/-- PTP on port n as an unlisted index holds it. -/
def ptpPortDef (_ : Nat) : PtpPort := {}
/-- PTP on port n. -/
def State.ptpPort (s : State) (i : Nat) : PtpPort := tget ptpPortDef s.ptp.ports i
/-- PTP on port n, changed by a function. -/
def State.updPtpPort (s : State) (i : Nat) (f : PtpPort → PtpPort) : State :=
  { s with ptp := { s.ptp with ports := tupd ptpPortDef s.ptp.ports i f } }

/-- The grant table entry of an index as an unlisted index holds it. -/
def grantDef (_ : Nat) : GrantEntry := {}
/-- The grant table entry of an index. -/
def State.grant (s : State) (i : Nat) : GrantEntry := tget grantDef s.ptp.grants i
/-- The grant table entry of an index, changed by a function. -/
def State.updGrant (s : State) (i : Nat) (f : GrantEntry → GrantEntry) : State :=
  { s with ptp := { s.ptp with grants := tupd grantDef s.ptp.grants i f } }

/-- Upstream client instance i as an unlisted index holds it. -/
def clientDef (_ : Nat) : ClientSt := {}
/-- Upstream client instance i. -/
def State.client (s : State) (i : Nat) : ClientSt := tget clientDef s.ptp.clients i
/-- Upstream client instance i, changed by a function. -/
def State.updClient (s : State) (i : Nat) (f : ClientSt → ClientSt) : State :=
  { s with ptp := { s.ptp with clients := tupd clientDef s.ptp.clients i f } }

/-- The symmetric key table entry of a key ID as an unlisted index holds it. -/
def symKeyDef (_ : Nat) : KeyEntry := {}
/-- The symmetric key table entry of a key ID. -/
def State.symKey (s : State) (i : Nat) : KeyEntry := tget symKeyDef s.srv.sym i
/-- The symmetric key table entry of a key ID, changed by a function. -/
def State.updSymKey (s : State) (i : Nat) (f : KeyEntry → KeyEntry) : State :=
  { s with srv := { s.srv with sym := tupd symKeyDef s.srv.sym i f } }

/-- The Annex P key table entry of an index as an unlisted index holds it. -/
def annexKeyDef (_ : Nat) : KeyEntry := {}
/-- The Annex P key table entry of an index. -/
def State.annexKey (s : State) (i : Nat) : KeyEntry := tget annexKeyDef s.srv.annex i
/-- The Annex P key table entry of an index, changed by a function. -/
def State.updAnnexKey (s : State) (i : Nat) (f : KeyEntry → KeyEntry) : State :=
  { s with srv := { s.srv with annex := tupd annexKeyDef s.srv.annex i f } }

/-- The open carafe of a cluster as an unlisted index holds it. -/
def openCarafeDef (_ : Nat) : OpenCarafe := {}
/-- The open carafe of a cluster. -/
def State.openCarafe (s : State) (i : Nat) : OpenCarafe := tget openCarafeDef s.rt.opens i
/-- The open carafe of a cluster, changed by a function. -/
def State.updOpenCarafe (s : State) (i : Nat) (f : OpenCarafe → OpenCarafe) : State :=
  { s with rt := { s.rt with opens := tupd openCarafeDef s.rt.opens i f } }

/-- Engine PKEi as an unlisted index holds it. -/
def engDef (_ : Nat) : Engine := {}
/-- Engine PKEi. -/
def State.eng (s : State) (i : Nat) : Engine := tget engDef s.pke.engs i
/-- Engine PKEi, changed by a function. -/
def State.updEng (s : State) (i : Nat) (f : Engine → Engine) : State :=
  { s with pke := { s.pke with engs := tupd engDef s.pke.engs i f } }

/-- The key-store slot of an index as an unlisted index holds it. -/
def kslotDef (_ : Nat) : KeySlot := {}
/-- The key-store slot of an index. -/
def State.kslot (s : State) (i : Nat) : KeySlot := tget kslotDef s.pke.slots i
/-- The key-store slot of an index, changed by a function. -/
def State.updKslot (s : State) (i : Nat) (f : KeySlot → KeySlot) : State :=
  { s with pke := { s.pke with slots := tupd kslotDef s.pke.slots i f } }

/-- Reference monitor m as an unlisted index holds it. -/
def monDef (_ : Nat) : Monitor := {}
/-- Reference monitor m. -/
def State.mon (s : State) (i : Nat) : Monitor := tget monDef s.ref.mons i
/-- Reference monitor m, changed by a function. -/
def State.updMon (s : State) (i : Nat) (f : Monitor → Monitor) : State :=
  { s with ref := { s.ref with mons := tupd monDef s.ref.mons i f } }

/-- DPLLx, with x = 0 for DPLL1 as an unlisted index holds it. -/
def dpllxDef (_ : Nat) : Dpllx := {}
/-- DPLLx, with x = 0 for DPLL1. -/
def State.dpllx (s : State) (i : Nat) : Dpllx := tget dpllxDef s.clk.x i
/-- DPLLx, with x = 0 for DPLL1, changed by a function. -/
def State.updDpllx (s : State) (i : Nat) (f : Dpllx → Dpllx) : State :=
  { s with clk := { s.clk with x := tupd dpllxDef s.clk.x i f } }

/-- Dual PLL p as an unlisted index holds it. -/
def pllDef (_ : Nat) : DualPll := {}
/-- Dual PLL p. -/
def State.pll (s : State) (i : Nat) : DualPll := tget pllDef s.clk.plls i
/-- Dual PLL p, changed by a function. -/
def State.updPll (s : State) (i : Nat) (f : DualPll → DualPll) : State :=
  { s with clk := { s.clk with plls := tupd pllDef s.clk.plls i f } }

/-- GNSS channel c as an unlisted index holds it. -/
def chanDef (_ : Nat) : GnsChan := {}
/-- GNSS channel c. -/
def State.chan (s : State) (i : Nat) : GnsChan := tget chanDef s.gns.chans i
/-- GNSS channel c, changed by a function. -/
def State.updChan (s : State) (i : Nat) (f : GnsChan → GnsChan) : State :=
  { s with gns := { s.gns with chans := tupd chanDef s.gns.chans i f } }

/-- TIMIN input j as an unlisted index holds it. -/
def timInDef (_ : Nat) : TimIn := {}
/-- TIMIN input j. -/
def State.timIn (s : State) (i : Nat) : TimIn := tget timInDef s.tim.ins i
/-- TIMIN input j, changed by a function. -/
def State.updTimIn (s : State) (i : Nat) (f : TimIn → TimIn) : State :=
  { s with tim := { s.tim with ins := tupd timInDef s.tim.ins i f } }

/-- TIM channel k as an unlisted index holds it. -/
def timChDef (_ : Nat) : TimCh := {}
/-- TIM channel k. -/
def State.timCh (s : State) (i : Nat) : TimCh := tget timChDef s.tim.chs i
/-- TIM channel k, changed by a function. -/
def State.updTimCh (s : State) (i : Nat) (f : TimCh → TimCh) : State :=
  { s with tim := { s.tim with chs := tupd timChDef s.tim.chs i f } }

/-- Event lane l as an unlisted index holds it. -/
def laneDef (_ : Nat) : Lane := {}
/-- Event lane l. -/
def State.lane (s : State) (i : Nat) : Lane := tget laneDef s.evl.lanes i
/-- Event lane l, changed by a function. -/
def State.updLane (s : State) (i : Nat) (f : Lane → Lane) : State :=
  { s with evl := { s.evl with lanes := tupd laneDef s.evl.lanes i f } }

/-- Compare slot s as an unlisted index holds it. -/
def slotDef (_ : Nat) : Slot := {}
/-- Compare slot s. -/
def State.slot (s : State) (i : Nat) : Slot := tget slotDef s.time.slots i
/-- Compare slot s, changed by a function. -/
def State.updSlot (s : State) (i : Nat) (f : Slot → Slot) : State :=
  { s with time := { s.time with slots := tupd slotDef s.time.slots i f } }

/-- Core c. -/
def State.core (s : State) (i : Nat) : CoreSt := tget coreDef s.mbx.cores i
/-- Core c, changed by a function. -/
def State.updCore (s : State) (i : Nat) (f : CoreSt → CoreSt) : State :=
  { s with mbx := { s.mbx with cores := tupd coreDef s.mbx.cores i f } }

/-- End e of the mailbox channels as an unlisted index holds it. -/
def chEndDef (_ : Nat) : ChanEnd := {}
/-- End e of the mailbox channels. -/
def State.chEnd (s : State) (i : Nat) : ChanEnd := tget chEndDef s.mbx.ends i
/-- End e of the mailbox channels, changed by a function. -/
def State.updChEnd (s : State) (i : Nat) (f : ChanEnd → ChanEnd) : State :=
  { s with mbx := { s.mbx with ends := tupd chEndDef s.mbx.ends i f } }

/-- Semaphore i as an unlisted index holds it. -/
def semDef (_ : Nat) : Nat := 0
/-- Semaphore i. -/
def State.sem (s : State) (i : Nat) : Nat := tget semDef s.mbx.sems i
/-- Semaphore i, changed by a function. -/
def State.updSem (s : State) (i : Nat) (f : Nat → Nat) : State :=
  { s with mbx := { s.mbx with sems := tupd semDef s.mbx.sems i f } }

/-- What the firmware keeps for channel c as an unlisted index holds it. -/
def fwChanDef (_ : Nat) : FwChan := {}
/-- What the firmware keeps for channel c. -/
def State.fwChan (s : State) (i : Nat) : FwChan := tget fwChanDef s.mbx.fw i
/-- What the firmware keeps for channel c, changed by a function. -/
def State.updFwChan (s : State) (i : Nat) (f : FwChan → FwChan) : State :=
  { s with mbx := { s.mbx with fw := tupd fwChanDef s.mbx.fw i f } }

/-- The aggregate limiter of a service as an unlisted index holds it. -/
def aggDef (_ : Nat) : AggSt := {}
/-- The aggregate limiter of a service. -/
def State.agg (s : State) (i : Nat) : AggSt := tget aggDef s.clt.aggs i
/-- The aggregate limiter of a service, changed by a function. -/
def State.updAgg (s : State) (i : Nat) (f : AggSt → AggSt) : State :=
  { s with clt := { s.clt with aggs := tupd aggDef s.clt.aggs i f } }

/-- The client-state entry of an index as an unlisted index holds it. -/
def cltEntryDef (_ : Nat) : Option CltEntry := none
/-- The client-state entry of an index. -/
def State.cltEntry (s : State) (i : Nat) : Option CltEntry := tget cltEntryDef s.clt.entries i
/-- The client-state entry of an index, changed by a function. -/
def State.updCltEntry (s : State) (i : Nat) (f : Option CltEntry → Option CltEntry) : State :=
  { s with clt := { s.clt with entries := tupd cltEntryDef s.clt.entries i f } }

/-- R369: GS_REFOUT runs from the lock of APLL0 while GNS_CTRL.REFOUT_EN is 1, at 1,023 ÷ 500,000 of the frequency of the APLL0
VCO. -/
def State.refoutSync (s : State) : State :=
  { s with gns := { s.gns with
    refout := if s.boot.apllLocked && bitAt (s.ac Reg.GNS_CTRL) 1 then some (1023, 500000) else none } }

end Sys2Proof.Machine
end

