-- ==== Sys2Proof/Machine/Ports.lean ====
section
/-!
DEFINITION. Ports: modes and latencies, stamps, external delays, the transmit timestamp queue, the host
rings, the slow path and the ESMC (R53–R91).
-/

namespace Sys2Proof.Machine

/-! ## Events and modes -/

/-- R91: port `n` raises EV(096 + k) and shows it in PRT_EVT(n). -/
def State.portEvt (s : State) (n k : Nat) : State := (s.orBits (Reg.PRT_EVT n) (bitMask k)).raise (96 + k)

/-- A port event whose raise is limited to once per `ticks`. DESIGN CHOICE (log entry 45): PRT_EVT shows every occurrence; R91 gives
its bit to a port that raised the event and R79 limits the raise, and which of the two a further drop within the second follows the
manual does not say. -/
def State.portEvtLim (s : State) (n k ticks : Nat) : State :=
  (s.orBits (Reg.PRT_EVT n) (bitMask k)).raiseLim (96 + k) n ticks

/-- R54: number of lanes of a mode. -/
def modeLanes : Nat → Nat
  | 1 => 1 | 2 => 1 | 3 => 1 | 4 => 4 | 5 => 2 | 6 => 4 | 7 => 8 | _ => 0

/-- R54: the FEC codes a mode accepts. -/
def modeFecs : Nat → List Nat
  | 0 => [0, 1, 2, 3] | 1 => [0, 1] | 2 => [0, 1, 2] | 3 => [3] | 4 => [0, 2] | 5 => [3] | 6 => [3] | 7 => [3]
  | _ => []

/-- Line rate of a mode in Gb/s. -/
def modeRate : Nat → Nat
  | 1 => 10 | 2 => 25 | 3 => 50 | 4 => 100 | 5 => 100 | 6 => 200 | 7 => 400 | _ => 1

/-- Duration of one byte at a mode's line rate, in units of 2⁻¹⁶ ns ÷ 1000. -/
def byteG (mode : Nat) : Nat := 524288000 / modeRate mode

/-- R133: the grid step, one 64-bit block, in units of 2⁻¹⁶ ns ÷ 1000. -/
def gridStepOf (mode : Nat) : Nat := 8 * byteG mode

/-- R54: ingress latency of a mode and FEC code, in CCLK. -/
def ingressCclk (mode fec : Nat) : Nat :=
  if mode = 1 then (if fec = 1 then 384 else 176)
  else if mode = 2 then (if fec = 1 then 208 else if fec = 2 then 344 else 120)
  else if mode = 3 then 160 else 96

/-- R54: release-to-egress latency of a mode and FEC code, in ns. -/
def releaseNs (mode fec : Nat) : Nat :=
  if mode = 1 then 74 else if mode = 2 then (if fec = 2 then 66 else 62) else if mode = 3 then 62
  else if mode = 7 then 122 else 58

/-- The port in 400G mode whose lanes port `n` lends (R56). -/
def pairOf (n : Nat) : Option Nat := if n = 1 then some 0 else if n = 5 then some 4 else none

/-- R56: port `n` is PAIRED under a configuration set. -/
def pairedIn (t : Tab Word) (n : Nat) : Bool :=
  match pairOf n with
  | some m => fld (tget rwsDef t (Reg.PRT_MODE m)) 0 4 == 7
  | none => false

/-- MODE of port `n` in a configuration set, 0 while the port is PAIRED. -/
def modeIn (t : Tab Word) (n : Nat) : Nat :=
  if pairedIn t n then 0 else fld (tget rwsDef t (Reg.PRT_MODE n)) 0 4

/-- FEC of port `n` in a configuration set. -/
def fecIn (t : Tab Word) (n : Nat) : Nat := fld (tget rwsDef t (Reg.PRT_MODE n)) 4 3

/-- The active mode of port `n`. -/
def State.mode (s : State) (n : Nat) : Nat := modeIn s.active n

/-- The active FEC code of port `n`. -/
def State.fec (s : State) (n : Nat) : Nat := fecIn s.active n

/-- Port `n` is UP. -/
def State.isUp (s : State) (n : Nat) : Bool := decide ((s.port n).link = .up)

/-- PRT_CAL_RX_NOM(n), in ps. -/
def State.calRxNom (s : State) (n : Nat) : Int := Config.calNom true (s.mode n) (s.fec n)

/-- PRT_CAL_TX_NOM(n), in ps. -/
def State.calTxNom (s : State) (n : Nat) : Int := Config.calNom false (s.mode n) (s.fec n)

/-! ## Stamps -/

/-- Units of 2⁻¹⁶ ns ÷ 1000 in one ps. -/
def psG : Int := 65536

/-- R66: the RWL value that applies to a stamp: the latest whose effective edge precedes it. -/
def valueAt (vs : List Versioned) (stamp : Nat) : Int :=
  match vs.find? (fun v => decide (v.edge < stamp)) with
  | some v => v.val
  | none => 0

/-- R59: `k` unit intervals of a mode, in units of 2⁻¹⁶ ns ÷ 1000: 3,200/33 ps at 10.3125 Gb/s, 1,280/33 ps at 25.78125 Gb/s,
640/17 ps for a PAM4 symbol at 53.125 Gb/s. -/
def uiG (mode k : Nat) : Int :=
  if mode = 1 then roundDiv (3200 * psG * k) 33
  else if mode = 2 ∨ mode = 4 then roundDiv (1280 * psG * k) 33
  else roundDiv (640 * psG * k) 17

/-- R59, R60, R413: an instant of DT as an interpolator captures it: DT at the TBCLK edge before it with the nearest of the taps `q`
apart. DESIGN CHOICE (log entry 46): between two taps equally near the earlier is taken, and a tap counts its length of DT. -/
def State.tapBy (s : State) (q g : Int) : Int :=
  let k : Int := -(((1000 * s.time.dt : Nat) - (g + 1) * stUnit) / ((1000 * s.time.inc : Nat) : Int)) - 1
  let e : Int := (s.time.dt + k * s.time.inc) * 1000 / stUnit
  e + (2 * (g - e) + q - 1) / (2 * q) * q

/-- R60: the taps of a port are 25 ps apart. -/
def State.tapG (s : State) (g : Int) : Int := s.tapBy (25 * psG) g

/-- R59: the capture time C of a bit that crosses the TSU of port `n` at `g`, `ui` unit intervals into its word: the edge of the word,
captured, with the place of the bit in it. -/
def State.captureG (s : State) (n : Nat) (g : Int) (ui : Nat) : Int :=
  let u := uiG (s.mode n) ui
  s.tapG (g - u) + u

/-- SKEW(l) of a port, in ps. -/
def PortSt.skewOf (p : PortSt) (l : Nat) : Int := p.skew.getD l 0

/-- R61: the ingress stamp of a frame captured at `c` (in units of 2⁻¹⁶ ns ÷ 1000) on logical lane `l`,
rounded to the nearest 2⁻¹⁶ ns (R59). -/
def PortSt.ingressStamp (p : PortSt) (c l : Nat) : Nat :=
  (roundDiv ((c : Int) - (p.calRx + p.skewOf l + valueAt p.asymRx (c / 1000)) * psG) 1000).toNat

/-- R61: the ingress stamp of frame `f` of port `n`. -/
def State.stampOf (s : State) (n : Nat) (f : Frame) : Nat :=
  (s.port n).ingressStamp (s.captureG n f.capture f.ui).toNat f.lane

/-- R61: C_out of a frame whose first bit after the SFD crosses the plane at `g` of DT, with external delay `asymTx`. -/
def State.egressCapture (s : State) (n : Nat) (asymTx g : Int) : Int :=
  s.captureG n (g - ((s.port n).calTx + asymTx) * psG) 0

/-- R61: the egress stamp S_out of a frame captured at C_out = `c`, with external delay `asymTx`. -/
def PortSt.egressStamp (p : PortSt) (asymTx c : Int) : Int := roundDiv (c + (p.calTx + asymTx) * psG) 1000

/-- R62: the signed change of the ingress latency of port `n`, in ps. -/
def State.ingressAdj (s : State) (n l c : Nat) : Int :=
  let p := s.port n
  p.calRx + p.skewOf l - s.calRxNom n + valueAt p.asymRx (c / 1000)

/-- R54, R62: L_rel of port `n` in a configuration set for a frame with external delay `asymTx`, in units of 2⁻¹⁶ ns ÷ 1000. -/
def State.lRelIn (s : State) (t : Tab Word) (n : Nat) (asymTx : Int) : Int :=
  (releaseNs (modeIn t n) (fecIn t n) * 1000 : Nat) * psG +
    (asymTx + (s.port n).calTx - Config.calNom false (modeIn t n) (fecIn t n)) * psG

/-- L_rel of port `n` in the active set. -/
def State.lRelG (s : State) (n : Nat) (asymTx : Int) : Int := s.lRelIn s.active n asymTx

/-! ## Transmit timestamp queue -/

/-- R83, R84: an entry is written, or lost when 64 entries are unread. -/
def State.tsqPush (s : State) (n tag : Nat) (dropped : Bool) (stamp : Nat) : State :=
  let p := s.port n
  if 64 ≤ p.tsq.length then
    ((s.updPort n (fun p => { p with tsqLostFlag := true })).bump (Reg.PRT_TSQ_LOST n)).portEvt n 6
  else
    let s := s.updPort n (fun p =>
      { p with tsq := p.tsq ++ [⟨tag, p.tsqLostFlag, dropped, stamp⟩], tsqLostFlag := false })
    if p.tsq = [] then s.portEvt n 5 else s

/-- The word PRT_TSQ_POP(n) returns (R90). -/
def tsqWord (e : TsqEntry) (left : Nat) : Word :=
  BitVec.ofNat 32 (e.tag % 65536 + bn true 16 + bn e.lostBefore 17 + bn e.dropped 18 + left * 2 ^ 24)

/-- TSQ_POP (R83): a read of PRT_TSQ_POP(n) removes and latches the oldest entry. A pop of an empty queue
returns VALID = 0 and leaves the latch unchanged. -/
def execTsqPop (n : Fin 8) (s : State) : Res :=
  match (s.port n).tsq with
  | [] => .next { s with bus := { data := [0], unsupported := false } }
  | e :: r =>
    let s := s.updPort n (fun p => { p with tsq := r, tsqLatch := e })
    .next { s with bus := { data := [tsqWord e r.length], unsupported := false } }

/-! ## Host rings -/

/-- The size of a ring in force. -/
def State.ringSize (s : State) (a : Nat) : Nat := fld (s.rd a) 0 13

/-- R80: a consumer index advances by one. -/
def State.ringStep (s : State) (cons size : Nat) : State :=
  s.wr cons (BitVec.ofNat 32 (((s.rd cons).toNat + 1) % max 1 (s.ringSize size)))

/-- R80: PRT_HTX_CONS(n) advances with EV107. -/
def State.htxDone (s : State) (n : Nat) : State :=
  (s.ringStep (Reg.PRT_HTX_CONS n) (Reg.PRT_HTX_SIZE n)).portEvt n 11

/-- R71, R81: a host frame that is not sent: consumed, with its DROPPED entry if it asked for a stamp. -/
def State.htxDrop (s : State) (n tag : Nat) (tsReq : Bool) : State :=
  let s := s.htxDone n
  if tsReq then s.tsqPush n tag true 0 else s

/-- HOST_TX_PRODUCE (R80): PF0 advances PRT_HTX_PROD(n). An index at or above the ring size in force is
discarded with EV100 (R91). -/
def execHostTxProduce (n : Fin 8) (idx : Fin 4096) (s : State) : Res :=
  .next (if idx.val < s.ringSize (Reg.PRT_HTX_SIZE n) then s.wr (Reg.PRT_HTX_PROD n) (BitVec.ofNat 32 idx)
    else s.portEvt n 4)

/-- R196, R224, R232: the destination MAC of a frame that the TE-9 sends of its own: the group address of a multicast destination
(PRESUMED, RFC 1112 and RFC 2464, log entry 59), else what the link's address resolution gives. -/
def macOf (n : Nat) (v6 : Bool) (dst : BitVec 128) : Nat :=
  let a := dst.toNat
  if v6 then (if a / 2 ^ 120 = 0xFF then 0x3333 * 2 ^ 32 + a % 2 ^ 32 else Config.linkMac n dst)
  else if a % 2 ^ 32 = 0xFFFFFFFF then 0xFFFFFFFFFFFF
  else if a / 2 ^ 28 % 16 = 0xE then 0x01005E * 2 ^ 24 + a % 2 ^ 23
  else Config.linkMac n dst

/-- The addressing of a frame that the TE-9 sends of its own on port `n` to `dst`: MAC and source address. DESIGN CHOICE (log
entry 59): the source is the port's service address 0. -/
def FrameHead.toward (h : FrameHead) (n : Nat) (v6 : Bool) (dst : BitVec 128) : FrameHead :=
  { h with v6 := v6, dst := dst, src := Config.serviceAddr n 0 v6, dstMac := macOf n v6 dst }

/-- The length after the SFD, FCS included, of a frame that carries `n` bytes of payload. -/
def FrameHead.len (h : FrameHead) (n : Nat) : Nat :=
  let tag := if h.tagged then 4 else 0
  max (64 + tag) (18 + tag + n + (if h.l2 then 0 else if h.v6 then 48 else 28))

/-- The sum of the two-byte words of some bytes, most significant byte first, an odd last byte padded with 0. -/
def sum16 : List Byte → Nat
  | a :: b :: r => a.toNat * 256 + b.toNat + sum16 r
  | [a] => a.toNat * 256
  | [] => 0

/-- R198, R228: the UDP checksum of a datagram, over the pseudo-header of its IP version: never zero. -/
def FrameHead.udpSum (h : FrameHead) (b : List Byte) : Nat :=
  let n := 8 + b.length
  let addr (a : BitVec 128) : List Byte := beBytes (if h.v6 then 16 else 4) a.toNat
  65535 - (sum16 (addr h.src ++ addr h.dst ++ b) + 17 + n + n + h.sport + h.dport) % 65535

/-- The checksum that a frame carries: none where it is no UDP datagram. -/
def FrameHead.checksum (h : FrameHead) (b : List Byte) : Nat := if h.l2 then 0 else h.udpSum b

/-- R233: automatic spacing of unicast Sync, in ns. -/
def autoSpace (mode : Nat) (auth : Bool) : Nat :=
  ceilDiv ((if auth then 160 else 134) * 8 * 4) (modeRate mode)

/-- R71, R149: a frame joins the best-effort queue of a port; on a port that is not UP it is discarded and
counted, a host frame with its DROPPED entry. It reaches the queue `after` CCLK from now; the external delay that applies then is
that of now unless a new value takes effect before (`State.rwlApply`, R66). -/
def State.bePush (s : State) (n : Nat) (kind : BeKind) (len : Nat) (bytes : List Byte)
    (head : Option FrameHead := none) (after : Nat := 0) : State :=
  if s.isUp n then
    let asym := valueAt (s.port n).asymTx s.nowSt
    let f : BeFrame := { kind := kind, len := len, since := s.time.now + after * cclkTicks, bytes := bytes
                         head := head, asymTx := asym }
    s.updPort n (fun p => { p with be := p.be ++ [f] })
  else
    let s := s.bump (Reg.PRT_DROP_LINK n)
    match kind with
    | .host tag ts => s.htxDrop n tag ts
    | _ => s

/-- HOST_TX_DESCRIPTOR (R81): the next descriptor of the transmit ring is fetched. A LEN outside 60–9,212 is
consumed without sending; otherwise the frame, with the FCS appended, joins the best-effort queue. -/
def execHostTxDescriptor (n : Fin 8) (d : TxDesc) (s : State) : Res :=
  let f := (s.port n).htxFetch
  if (s.rd (Reg.PRT_HTX_PROD n)).toNat = f then .next s
  else
    let s := s.updPort n (fun p => { p with htxFetch := (f + 1) % max 1 (s.ringSize (Reg.PRT_HTX_SIZE n)) })
    if d.len < 60 || 9212 < d.len then .next (s.htxDrop n d.tag d.tsReq)
    else .next (s.bePush n (.host d.tag d.tsReq) (d.len + 4) d.bytes)

/-- R80: PRT_HRX_PROD(n) is set and the buffers posted since are known by their address and size. -/
def State.hrxPost (s : State) (n idx : Nat) (bufs : List (Nat × Nat)) : State :=
  if idx < s.ringSize (Reg.PRT_HRX_SIZE n) then
    (s.updPort n (fun p => { p with rxBufs := p.rxBufs ++ bufs })).wr (Reg.PRT_HRX_PROD n)
      (BitVec.ofNat 32 idx)
  else s.portEvt n 4

/-- HOST_RX_POST (R80): PF0 posts receive buffers, given by their addresses and sizes, and advances
PRT_HRX_PROD(n). -/
def execHostRxPost (n : Fin 8) (idx : Fin 4096) (bufs : List (Nat × Nat)) (s : State) : Res :=
  .next (s.hrxPost n idx bufs)

/-- R82: the 32-byte completion of a received frame. -/
def hostCompletion (addr len cls : Nat) (good degraded : Bool) (sIn gen : Nat) : List Byte :=
  leBytes 8 addr ++ leBytes 2 len ++ [BitVec.ofNat 8 cls, BitVec.ofNat 8 (bn good 0 + bn degraded 1)] ++
    leBytes 6 (sIn / 65536 / 1000000000) ++ leBytes 4 (sIn / 65536 % 1000000000) ++
    leBytes 2 (sIn % 65536) ++ leBytes 4 gen ++ [0, 0, 0, 0]

/-- HOST_RX_COMPLETE (R80, R82): a frame for the host is written to the next posted buffer, or dropped when
none is free or it is too short. -/
def State.hostRx (s : State) (n : Nat) (f : Frame) (cls sIn gen : Nat) : State :=
  let drop := (s.bump (Reg.PRT_HOST_RX_DROP n)).portEvt n 12
  let cons := (s.rd (Reg.PRT_HRX_CONS n)).toNat
  match (s.port n).rxBufs with
  | [] => drop
  | (addr, size) :: r =>
    if cons = (s.rd (Reg.PRT_HRX_PROD n)).toNat || size < f.len then drop
    else
      let out := hostCompletion addr f.len cls f.fcsGood (decide ((s.port n).calState = 2)) sIn gen
      let s := (s.updPort n (fun p => { p with rxBufs := r })).emit (.hostRx n cons out)
      (s.ringStep (Reg.PRT_HRX_CONS n) (Reg.PRT_HRX_SIZE n)).portEvt n 10

/-! ## Slow path -/

/-- R79: one frame's token in the units of the limiter, which refills per ns of DT. -/
def slowUnit : Nat := 1000000000

/-- R79: the tokens of a port's limiter at the present DT. -/
def State.slowTokens (s : State) (n : Nat) : Nat :=
  let rate := fld (s.ac (Reg.PRT_SLOW_RATE n)) 0 24
  let ns := s.time.dt / nsUnit
  min (rate * slowUnit) ((s.port n).slowTokens + rate * (ns - (s.port n).slowAt))

/-- R79: the limiter of a port is full. -/
def State.slowFill (s : State) (n : Nat) : State :=
  s.updPort n (fun p => { p with
    slowTokens := fld (s.ac (Reg.PRT_SLOW_RATE n)) 0 24 * slowUnit, slowAt := s.time.dt / nsUnit })

/-- R79: a frame above the limit, or one that is not for the host, is counted; EV109 at most once per second
for the limit. -/
def State.toHost (s : State) (n : Nat) (f : Frame) (cls sIn gen : Nat) : State :=
  if bitAt (s.ac (Reg.PRT_CTRL n)) 1 then
    let tok := s.slowTokens n
    if tok < slowUnit then
      (s.bump (Reg.PRT_SLOW_DROP n)).portEvtLim n 13 sTicks
    else
      let s := s.updPort n (fun p => { p with slowTokens := tok - slowUnit, slowAt := s.time.dt / nsUnit })
      s.hostRx n f cls sIn gen
  else s.bump (Reg.PRT_SLOW_DROP n)

/-- R79: a frame for the service-core firmware. -/
def State.toFirmware (s : State) (n : Nat) (f : Frame) (sIn : Nat) : State :=
  s.emit (.toFirmware n sIn f.payload)

/-- R74: the uncorrectable RS-FEC codeword received at tick `t`, and EV099 when another lies in the 1 ms before it. -/
def State.fecLost (s : State) (n t : Nat) : State :=
  let h := t :: (s.port n).fecHist.filter (fun x => decide (t < x + msTicks))
  let s := (s.bump (Reg.PRT_FEC_UNCORR n)).updPort n (fun p => { p with fecHist := h })
  if 1 < h.length then s.portEvt n 3 else s

/-- FEC_DEGRADED (R74): the codewords of a mode with RS-FEC: `corr` corrected, and the uncorrectable ones by the ticks at which each
preceded the present one. -/
def State.fecCount (s : State) (n corr : Nat) (uncorr : List Nat) : State :=
  if s.fec n < 2 then s
  else uncorr.foldl (fun s a => s.fecLost n (s.time.now - a)) (s.bump (Reg.PRT_FEC_CORR n) corr)

/-! ## ESMC -/

/-- The rank of an SSM code, best first: PRC, SSU-A, SSU-B, SEC, DNU; any other ranks as DNU (R306). -/
def ssmRank (c : Nat) : Nat := if c = 2 then 0 else if c = 4 then 1 else if c = 8 then 2 else if c = 11 then 3 else 4

/-- PRT_ESMC_RX(n) as the firmware writes it (R77, R89). -/
def esmcWord (ssm essm : Nat) (timeout : Bool) : Word :=
  BitVec.ofNat 32 (ssm % 16 + essm % 256 * 16 + bn timeout 12)

end Sys2Proof.Machine
end

