-- ==== Sys2Proof/Machine/TimeState.lean ====
section
/-!
DEFINITION. The time state and the time view of a request (R161–R171), UTC (R17), the leap smear and the
NTP timestamps (R167–R170).
-/

namespace Sys2Proof.Machine

/-- Units of 2⁻¹⁶ ns in one second. -/
def stSec : Nat := 65536000000000

/-- DT SEC of a stamp. -/
def secOf (t : Nat) : Nat := t / stSec
/-- DT NS of a stamp. -/
def nsOf (t : Nat) : Nat := t / 65536 % 1000000000
/-- DT FRAC of a stamp. -/
def fracOf (t : Nat) : Nat := t % 65536

/-- R347: e_hold in ns; once forced it keeps its greatest value. -/
def State.eHoldNs (s : State) : Nat := if s.clk.forced then 2 ^ 32 - 1 else s.clk.eHold

/-- DT is ALIGNED (R48). -/
def State.aligned (s : State) : Bool := decide (s.time.st = .aligned)

/-- R161: the time state, UNTRACEABLE decided first. -/
def State.tstate (s : State) : TState :=
  if s.clk.forced || !s.aligned || decide ((s.ac Reg.SRV_NTP_HOLD_UNSYNC_LIMIT).toNat < s.eHoldNs) then
    .untraceable
  else if s.clk.d.state = .locked && !s.clk.d.freqOnly then .locked else .hold

/-- R164: the meanPathDelay of the selected PTP client; with none selected, the one that the last reported. -/
def State.selMpd (s : State) : Int :=
  match s.ref.selected with
  | some 9 => (s.client 0).mpd
  | some 10 => (s.client 1).mpd
  | _ => s.srv.mpd

/-- The time view of the present instant (R107, R161). -/
def State.timeView (s : State) : TimeView :=
  { ts := s.tstate
    type := s.clk.d.type
    leftSec := s.clk.d.leftSec
    eHold := if s.clk.seg = none && !s.clk.forced then 0 else s.eHoldNs
    aligned := s.srv.everAligned || s.aligned
    offset := s.vbat.offset
    offsetValid := s.vbat.leapValid
    leap := s.vbat.pend.map (fun p => (p.at_, p.delete))
    leapFrozen := s.vbat.frozen
    leapLate := (s.slot 37).late.isSome
    smear := s.srv.smear
    fading := s.srv.fading
    mpd := s.selMpd }

/-- A new time view that applies from stamp `t` on; the eight most recent are kept. -/
def State.pushView (s : State) (t : Nat) : State :=
  { s with srv := { s.srv with views := ((t, s.timeView) :: s.srv.views).take 8 } }

/-- R18, R107, R347: the view that applies at a stamp. -/
def State.viewAt (s : State) (t : Nat) : TimeView :=
  match s.srv.views.find? (fun p => decide (p.1 ≤ t)) with
  | some p => p.2
  | none => s.timeView

/-! ## UTC -/

/-- The OFFSET that applies at SEC `sec` under a view: the pending leap's NEW_OFFSET from LEAP_AT on (R17,
R23); a leap that a step has passed takes effect at the late boundary of CS037, with a view of its own. -/
def TimeView.offsetAt (v : TimeView) (sec : Nat) : Int :=
  match v.leap with
  | some (at_, del) => if at_ ≤ sec && !v.leapLate then v.offset + (if del then -1 else 1) else v.offset
  | none => v.offset

/-- The stamp lies in an inserted second, SEC = LEAP_AT − 1 (R23). -/
def TimeView.inLeapSecond (v : TimeView) (sec : Nat) : Bool :=
  match v.leap with
  | some (at_, del) => !del && sec + 1 == at_
  | none => false

/-- R17, R169: UTC seconds since 1970 as the services encode them: the inserted second repeats 23:59:59. -/
def TimeView.utcSec (v : TimeView) (sec : Nat) : Int :=
  (sec : Int) - v.offsetAt sec - (if v.inLeapSecond sec then 1 else 0)

/-- R170, R171: the smear offset at stamp `t`, in units of 2⁻¹⁶ ns, positive. -/
def Smear.offsetAt (m : Smear) (t : Nat) : Nat :=
  let grown (x : Nat) := stSec * min (x - m.start) m.window / max 1 m.window
  match m.cancelled with
  | none => if stSec * m.leapAt ≤ t then stSec else grown t
  | some c => if t ≤ c then grown t else grown c - stSec * (t - c) / max 1 m.window

/-- R170, R171, R214: the smear at stamp `t`, signed, to be added to the converted time. -/
def Smear.addAt (m : Smear) (t : Nat) : Int :=
  if m.start ≤ t && (m.cancelled.isSome || decide (t < stSec * m.leapAt)) then
    (if m.delete then (m.offsetAt t : Int) else -(m.offsetAt t : Int))
  else 0

/-- R170: the smear of the pending leap is under way at stamp `t`. -/
def Smear.runs (m : Smear) (t : Nat) : Bool := decide (m.start ≤ t) && decide (t < stSec * m.leapAt)

/-- R170, R171: the sum of the smear of the pending leap and of those that return to 0, for the smears that `sees` picks. -/
def TimeView.addOf (v : TimeView) (sees : Smear → Bool) (t : Nat) : Int :=
  (((v.smear.toList ++ v.fading).filter sees).map (fun m => m.addAt t)).sum

/-- R170: the smear that a class sees at stamp `t`. -/
def TimeView.smearAdd (v : TimeView) (cls t : Nat) : Int := v.addOf (fun m => m.classes.testBit cls) t

/-- R170: class `cls` is served smeared for the pending leap at `t`, so its LI is 0. -/
def TimeView.smearing (v : TimeView) (cls t : Nat) : Bool :=
  match v.smear with
  | some m => m.classes.testBit cls && m.runs t
  | none => false

/-- R169, R170: the seconds of stamp `t` as a service encodes them: under a running smear the inserted second is not repeated. -/
def TimeView.encSec (v : TimeView) (smeared : Bool) (t : Nat) : Int :=
  if smeared then (secOf t : Int) - v.offsetAt (secOf t) else v.utcSec (secOf t)

/-- R167: the 64-bit NTP timestamp of stamp `t` for class `cls`: seconds modulo 2³² and the fraction rounded to
the nearest 2⁻³² s, halves up. -/
def TimeView.ntpStamp (v : TimeView) (cls t : Nat) : Nat :=
  let units : Int := stSec * (v.encSec (v.smearing cls t) t + 2208988800) + (t % stSec : Nat) + v.smearAdd cls t
  let n := units.toNat
  ((n * 2 ^ 32 * 2 + stSec) / (2 * stSec)) % 2 ^ 64

/-! ## Leap indication -/

/-- R168: LI of an unsmeared class at stamp `t` under generation set `reg`. -/
def TimeView.li (v : TimeView) (lead t : Nat) : Nat :=
  match v.leap with
  | some (at_, del) => if at_ - lead ≤ secOf t && secOf t < at_ then (if del then 2 else 1) else 0
  | none => 0

/-! ## Stratum -/

/-- R163, R166: the stratum served for a view under generation `g`. -/
def State.stratum (s : State) (g : Nat) (v : TimeView) : Nat :=
  match v.ts with
  | .untraceable => 16
  | .locked => fld (s.gv g (Reg.SRV_NTP_REF_CFG v.type)) 0 4
  | .hold =>
    if v.eHold ≤ (s.gv g Reg.SRV_NTP_HOLD_STRAT_LIMIT).toNat then fld (s.gv g (Reg.SRV_NTP_REF_CFG v.type)) 0 4
    else fld (s.gv g Reg.SRV_NTP_CTRL) 0 4

/-- R162: EV160 when the stratum served changes. -/
def State.noteStratum (s : State) (n : Nat) : State :=
  if s.srv.lastStratum = n then s
  else ({ s with srv := { s.srv with lastStratum := n } } : State).raise 160

/-! ## Smear of a leap -/

/-- The mask of the classes with SMEAR_EN in the active set (R171). -/
def State.smearClasses (s : State) : Nat :=
  ((List.range 16).map (fun c => bn (bitAt (s.ac (Reg.SRV_NTP_CLASS_B c)) 10) c)).sum

/-- R170, R171: a request stamped at `t` may start the smear of a leap that was set after LEAP_AT − W; with
less than 3,600 s left EV165 is raised and the leap is served unsmeared. -/
def State.smearLate (s : State) (t : Nat) : State :=
  match s.vbat.pend with
  | none => s
  | some p =>
    let w := fld (s.ac Reg.SRV_NTP_SMEAR) 0 18
    let known := match s.srv.smear with
      | some m => m.leapAt == p.at_
      | none => false
    if known || s.srv.skipped = some p.at_ || s.smearClasses = 0 && !bitAt (s.ac Reg.SRV_RT_CTRL) 1 then s
    else if t < s.srv.leapSetAt || s.srv.leapSetAt ≤ stSec * (p.at_ - w) || stSec * p.at_ ≤ t then s
    else if stSec * p.at_ - t < 3600 * stSec then
      ({ s with srv := { s.srv with skipped := some p.at_ } } : State).raise 165
    else
      let m : Smear := ⟨p.at_, p.delete, t, stSec * p.at_ - t, s.smearClasses, none⟩
      ({ s with srv := { s.srv with smear := some m } } : State).pushView t

/-- R170: the smear of a leap set in time starts at LEAP_AT − W, with WINDOW and SMEAR_EN latched. -/
def State.smearStart (s : State) : State :=
  match s.vbat.pend with
  | none => s
  | some p =>
    let w := fld (s.ac Reg.SRV_NTP_SMEAR) 0 18
    let known := match s.srv.smear with
      | some m => m.leapAt == p.at_
      | none => false
    if known || s.sec + w < p.at_ || p.at_ ≤ s.sec || stSec * (p.at_ - w) < s.srv.leapSetAt then s
    else
      let m : Smear := ⟨p.at_, p.delete, stSec * (p.at_ - w), stSec * w, s.smearClasses, none⟩
      ({ s with srv := { s.srv with smear := some m } } : State).pushView (stSec * (p.at_ - w))

/-- R171: the smears of cancelled leaps whose offsets are not yet back at 0. -/
def State.fadingNow (s : State) : List Smear := s.srv.fading.filter (fun m => m.offsetAt s.nowSt != 0)

/-- R171: a leap is cancelled or replaced: the offset of a smear under way returns to 0 at the rate at which it grew. -/
def State.smearCancel (s : State) : State :=
  let now := match s.srv.smear with
    | some m => if m.start ≤ s.nowSt then [{ m with cancelled := some s.nowSt }] else []
    | none => []
  { s with srv := { s.srv with smear := none, fading := s.fadingNow ++ now } }

end Sys2Proof.Machine
end

