-- ==== Sys2Proof/Machine/Clt.lean ====
section
/-!
DEFINITION. The classifier's hash and access rules (R92–R96, R172, R173), the client-state table
(R124–R127), and the rate limits and verdicts of V1 (R174–R177, R204, R236).
-/

namespace Sys2Proof.Machine

/-! ## Access rules -/

/-- Word `i` of rule `idx` in a configuration set. -/
def ruleWord (t : Tab Word) (idx i : Nat) : Word := tget rwsDef t (ruleKey idx i)

/-- LEN of a rule (R173). -/
def ruleLen (t : Tab Word) (idx : Nat) : Nat := fld (ruleWord t idx 4) 0 8

/-- PREFIX of a rule, whose bytes 0–15 are in network order (R173). -/
def rulePrefix (t : Tab Word) (idx : Nat) : Nat :=
  ofBe (bytesOf [ruleWord t idx 0, ruleWord t idx 1, ruleWord t idx 2, ruleWord t idx 3])

/-- R172: rule `idx` is VALID and its first LEN bits equal those of the address. -/
def ruleMatches (t : Tab Word) (a : BitVec 128) (idx : Nat) : Bool :=
  bitAt (ruleWord t idx 4) 11 &&
    a.toNat >>> (128 - ruleLen t idx) == rulePrefix t idx >>> (128 - ruleLen t idx)

/-- The rules a configuration set lists beside rule 0, in ascending index. -/
def listedRules (t : Tab Word) : List Nat :=
  ((t.filter (fun p => ruleKey 0 0 ≤ p.1 && p.1 < ruleKey 4096 0)).map
    (fun p => (p.1 - ruleKey 0 0) / 32)).eraseDups

/-- R172: the valid matching rule of greatest LEN, the lower index among equals; rule 0 matches every
address. -/
def ruleFor (t : Tab Word) (a : BitVec 128) : Nat :=
  (listedRules t).foldl (fun best i =>
    if ruleMatches t a i && ruleLen t best < ruleLen t i then i else best) 0

/-- ACTION of a rule: 0 SERVE, 1 AUTH_ONLY, 2 DENY (R173). -/
def ruleAction (t : Tab Word) (i : Nat) : Nat := fld (ruleWord t i 4) 8 2
/-- KISS_EN of a rule. -/
def ruleKiss (t : Tab Word) (i : Nat) : Bool := bitAt (ruleWord t i 4) 10
/-- CLASS of a rule. -/
def ruleClass (t : Tab Word) (i : Nat) : Nat := fld (ruleWord t i 4) 16 4
/-- SVC bit `b` of a rule. -/
def ruleSvc (t : Tab Word) (i b : Nat) : Bool := bitAt (ruleWord t i 4) (24 + b)

/-! ## Hash and home cluster -/

/-- R94: H = SipHash-2-4(seed, A) over the 16-byte address. -/
def addrHash (seed : BitVec 128) (a : BitVec 128) : Nat :=
  (sipHash24 seed (beBytes 16 a.toNat)).toNat

/-- R95: the seed and the epoch of a request stamped at `t`. -/
def State.seedAt (s : State) (t : Nat) : BitVec 128 × Nat :=
  if t < s.cls.reseedStamp then (s.cls.oldSeed, s.cls.epoch - 1) else (s.cls.seed, s.cls.epoch)

/-- R94: CLS_HOME_MAP's entry for H[4:0]. -/
def State.homeOf (s : State) (h : Nat) : Nat := s.cls.homeMap.getD (h % 32) 0

/-! ## Aggregate limiters -/

/-- R177: SRV_AGG_RATE and SRV_AGG_BURST of limiter `i` under generation `g`. -/
def State.aggParams (s : State) (g i : Nat) : Nat × Nat :=
  ((s.gv g (Reg.SRV_AGG_RATE 0 + 8 * i)).toNat, (s.gv g (Reg.SRV_AGG_RATE 0 + 8 * i + 4)).toNat)

/-- R177: an untracked request draws on the aggregate limiter of its path: whether it passes. The limiter
holds BURST requests and refills by RATE ÷ 10⁶ requests every 1 µs of DT. -/
def State.aggDraw (s : State) (g i : Nat) : Bool × State :=
  let (rate, burst) := s.aggParams g i
  let us := s.time.dt / (1000 * nsUnit)
  let a := s.agg i
  let cap := burst * 1000000
  let tok := match a.tokens with
    | none => cap
    | some t => min cap (t + rate * (us - a.atUs))
  if 1000000 ≤ tok then (true, s.updAgg i (fun _ => ⟨some (tok - 1000000), us⟩))
  else (false, s.updAgg i (fun _ => ⟨some tok, us⟩))

/-! ## Client-state table -/

/-- First index of the overflow CAM (CLT_WIN_IDX). -/
def camBase : Nat := 1048576

/-- R96: an entry is valid for a lookup of epoch `ep`: of the same epoch, and for the old epoch only until the
sweep starts. -/
def State.cltValid (s : State) (e : CltEntry) : Bool :=
  e.epoch == decide (s.cls.epoch % 2 = 1) || s.cls.oldValid

/-- The indices a lookup of hash `h` searches: the four ways of its bucket and the CAM entries in use. -/
def State.cltIdxs (s : State) (h : Nat) : List Nat :=
  (List.range 4).map (fun w => 4 * (h % 262144) + w) ++
    ((s.clt.entries.filter (fun p => camBase ≤ p.1)).map (·.1))

/-- R124: the entry of an address and epoch, in the bucket or in the CAM. -/
def State.cltFind (s : State) (a : BitVec 128) (h : Nat) (ep : Bool) : Option Nat :=
  (s.cltIdxs h).find? (fun i => match s.cltEntry i with
    | some e => e.addr == a && e.epoch == ep && s.cltValid e
    | none => false)

/-- R96, R124: whether a lookup of epoch `ep` may take index `i` as free. A new-epoch lookup treats old-epoch
entries as free; an old-epoch lookup never takes a valid new-epoch entry. -/
def State.cltFree (s : State) (ep : Bool) (i : Nat) : Bool :=
  match s.cltEntry i with
  | none => true
  | some e =>
    if ep == decide (s.cls.epoch % 2 = 1) then e.epoch != ep else !s.cltValid e

/-- R124: seconds for which an entry has been idle. -/
def idleFor (sec : Nat) (e : CltEntry) : Nat := (sec + 2 ^ 32 - e.lastSeen) % 2 ^ 32

/-- R124: the way idle longest beyond CLT_IDLE among `is`; an old-epoch lookup replaces only old-epoch
entries. -/
def State.cltOldest (s : State) (ep : Bool) (sec : Nat) (is : List Nat) : Option Nat :=
  let lim := fld (s.ac Reg.CLT_IDLE) 0 16
  (is.foldl (fun best i => match s.cltEntry i with
    | some e =>
      if lim < idleFor sec e && e.epoch == ep then
        match best with
        | some (_, d) => if d < idleFor sec e then some (i, idleFor sec e) else best
        | none => some (i, idleFor sec e)
      else best
    | none => best) (none : Option (Nat × Nat))).map (·.1)

/-- R124: where a miss writes its new entry: a free way of the bucket, the way idle longest, then a place of
the CAM under the same rules. -/
def State.cltPlace (s : State) (h sec : Nat) (ep : Bool) : Option Nat :=
  let ways := (List.range 4).map (fun w => 4 * (h % 262144) + w)
  let cam := (List.range 4096).map (fun i => camBase + i)
  match ways.find? (s.cltFree ep) with
  | some i => some i
  | none => match s.cltOldest ep sec ways with
    | some i => some i
    | none => match cam.find? (s.cltFree ep) with
      | some i => some i
      | none => s.cltOldest ep sec cam

/-- Writing an entry; EV137 when the CAM becomes full. -/
def State.cltWrite (s : State) (i : Nat) (e : CltEntry) : State :=
  let n := (s.clt.entries.filter (fun p => camBase ≤ p.1)).length
  let s := s.updCltEntry i (fun _ => some e)
  if n < 4096 && (s.clt.entries.filter (fun p => camBase ≤ p.1)).length = 4096 then s.raise 137 else s

/-- R124: a request finds no place: counted, and EV136 when no request was untracked for 1 s of DT. -/
def State.cltUntracked (s : State) : State :=
  let ns := s.time.dt / nsUnit
  let quiet := match s.clt.lastUntracked with
    | some t => decide (t + 1000000000 ≤ ns)
    | none => true
  let s := ({ s with clt := { s.clt with lastUntracked := some ns } } : State).bump Reg.CLT_UNTRACKED
  let s := s.flow 0x22
  if quiet then s.raise 136 else s

/-- R175: RATE, BURST and LIMIT_EN of a class under generation `g`. -/
def State.classRate (s : State) (g c : Nat) : Nat × Nat × Bool :=
  let a := s.gv g (Reg.SRV_NTP_CLASS_A c)
  (fld a 0 16, fld a 16 16, bitAt (s.gv g (Reg.SRV_NTP_CLASS_B c)) 9)

/-- R175: the refill of an entry at the SEC of S_in, and its lookup count. -/
def CltEntry.touch (e : CltEntry) (sec rate burst : Nat) : CltEntry :=
  let d := min 65536 ((sec + 2 ^ 32 - e.lastSeen % 2 ^ 32) % 2 ^ 32)
  { e with
    kiss := if d ≠ 0 then 0 else e.kiss
    tokens := min (e.tokens + rate * d) (burst * 256)
    lastSeen := sec % 2 ^ 32
    count := min (e.count + 1) (2 ^ 32 - 1) }

/-- R124: the entry that a lookup of a request uses, found or newly written with the full allowance of its
class, or none when the request is untracked. -/
def State.cltLookup (s : State) (r : Req) (cls : Nat) : Option (Nat × CltEntry) × State :=
  let (rate, burst, _) := s.classRate r.gen cls
  let sec := secOf r.sIn % 2 ^ 32
  let ep := decide (r.epoch % 2 = 1)
  match s.cltFind r.frame.src r.hash ep with
  | some i => match s.cltEntry i with
    | some e => (some (i, e.touch sec rate burst), s)
    | none => (none, s)
  | none => match s.cltPlace r.hash sec ep with
    | some i =>
      (some (i, ⟨r.frame.src, r.rule, ep, burst * 256, 0, 0, sec, 1⟩), s)
    | none => (none, s.cltUntracked)

/-! ## V1 -/

/-- R176: a kiss verdict counts in the entry's KISS field with its code. -/
def CltEntry.kissed (e : CltEntry) (code : Nat) : CltEntry := { e with kiss := min 15 (e.kiss + 1), lastKiss := code }

/-- R162, R204, R236: the drop of a request while UNTRACEABLE under the not-answering policy, by path. -/
def untraceCounter : Path → Nat
  | .plain => Reg.SRV_NTP_DROP_UNTRACE | .cmac => Reg.SRV_NTP_DROP_UNTRACE | .nts => Reg.SRV_NTP_DROP_UNTRACE
  | .roughtime => Reg.SRV_RT_DROP_UNTRACE | _ => Reg.SRV_PTP_DROP_UNTRACE

/-- The policy drop counter of a path (R174, R204, R236). -/
def policyCounter : Path → Nat
  | .plain => Reg.SRV_NTP_DROP_POLICY | .cmac => Reg.SRV_NTP_DROP_POLICY | .nts => Reg.SRV_NTP_DROP_POLICY
  | .roughtime => Reg.SRV_RT_DROP_POLICY | _ => Reg.SRV_PTP_DROP_POLICY

/-- The aggregate drop counter of a path (R177, R204, R236). -/
def aggCounter : Path → Nat
  | .plain => Reg.SRV_NTP_DROP_AGG | .cmac => Reg.SRV_NTP_DROP_AGG | .nts => Reg.SRV_NTP_DROP_AGG
  | .roughtime => Reg.SRV_RT_DROP_AGG | _ => Reg.SRV_PTP_DROP_AGG

/-- CFG_POLICY: 0 selects not answering (R162; chapter 14). -/
def State.notAnswering (s : State) (g : Nat) : Bool := !bitAt (s.gv g Reg.CFG_POLICY) 0

/-- R174 row 4, R175: a rate verdict, with EV162 at most once per second. `i`, `e` is the tracked entry. -/
def State.rateVerdict (s : State) (r : Req) (cls i : Nat) (e : CltEntry) : Verdict × State :=
  let s := s.raiseLim 162 0 sTicks
  if r.path.isNtp && e.kiss < fld (s.gv r.gen (Reg.SRV_NTP_CLASS_B cls)) 5 4 then
    (.kissRate, s.cltWrite i (e.kissed 1))
  else (.drop (policyCounter r.path), s.cltWrite i e)

/-- R174, R175, R177, R204, R236: V1 of a request, with the one update of the rate state. `grant` decides
rows 4 and 5 of R236 for a profile-3 Delay_Req: a refusal's counter. `useRate` is false where TOKENS is
neither tested nor deducted. -/
def State.verdict1 (s : State) (r : Req) (useRate : Bool) (grant : Option Nat) : Verdict × State :=
  let t := s.regsOf r.gen
  let cls := ruleClass t r.rule
  let (hit, s) := s.cltLookup r cls
  let act := ruleAction t r.rule
  let limit := (s.classRate r.gen cls).2.2
  let svc := ruleSvc t r.rule r.path.svcBit
  let put (s : State) (f : CltEntry → CltEntry) := match hit with
    | some (i, e) => s.cltWrite i (f e)
    | none => s
  if r.view.ts = .untraceable && s.notAnswering r.gen then (.drop (untraceCounter r.path), put s id)
  else if act = 2 then
    if r.path.isNtp then (.kissDeny, put s (·.kissed 2)) else (.drop (policyCounter r.path), put s id)
  else if !svc || (act = 1 && r.path = .plain) then
    if r.path.isNtp then (.kissRstr, put s (·.kissed 3)) else (.drop (policyCounter r.path), put s id)
  else match grant with
    | some c => (.drop c, put s id)
    | none => match hit with
      | some (i, e) =>
        if !useRate || !limit then (.accept, s.cltWrite i e)
        else if 256 ≤ e.tokens then (.accept, s.cltWrite i { e with tokens := e.tokens - 256 })
        else s.rateVerdict r cls i e
      | none =>
        if !useRate then (.accept, s)
        else
          let (ok, s) := s.aggDraw r.gen r.path.aggIdx
          if ok then (.accept, s)
          else (.drop (aggCounter r.path), s.raiseLim 163 0 sTicks)

/-! ## Window and flush -/

/-- The 32 bytes of an entry as the window shows them (R125). -/
def CltEntry.bytes (e : CltEntry) : List Byte :=
  beBytes 16 e.addr.toNat ++ leBytes 2 (e.rule % 4096 + bn true 12 + bn e.epoch 13) ++ leBytes 3 e.tokens ++
    [BitVec.ofNat 8 (e.kiss % 16 + 16 * e.lastKiss)] ++ [0, 0] ++ leBytes 4 e.lastSeen ++ leBytes 4 e.count

/-- CLT_WINDOW_READ (R127): the entry at CLT_WIN_IDX is copied into CLT_WIN_DATA in one CCLK cycle, until whose end BUSY reads 1. -/
def execCltWindowRead (s : State) : Res :=
  let clt := { s.clt with winAt := s.cclkAfter 1 }
  match s.cltEntry (fld (s.rd Reg.CLT_WIN_IDX) 0 21) with
  | some e => .next { s with clt := { clt with win := wordsOf e.bytes, winValid := s.cltValid e } }
  | none => .next { s with clt := { clt with win := List.replicate 8 0, winValid := false } }

/-- CLT_FLUSH (R127): every entry of the current epoch is invalidated. -/
def execCltFlush (s : State) : Res :=
  let cur := decide (s.cls.epoch % 2 = 1)
  .next { s with clt := { s.clt with entries := s.clt.entries.filter (fun p => match p.2 with
    | some e => e.epoch != cur
    | none => false) } }

end Sys2Proof.Machine
end

