-- ==== Sys2Proof/Machine/Curve.lean ====
section
/-!
DEFINITION. Modular arithmetic and the curves that the public-key programs use: P-256, P-384 and P-521 of
FIPS 186-5, Curve25519 of RFC 7748 and edwards25519 of RFC 8032 (R264). The domain parameters are those of
the standards that the manual names.
-/

namespace Sys2Proof.Machine

/-- `b ^ e mod m` by squaring, over the low `n` bits of the exponent. -/
def powMod (m b e : Nat) : Nat → Nat
  | 0 => 1 % m
  | n + 1 =>
    let h := powMod m (b * b % m) (e / 2) n
    if e % 2 = 1 then b * h % m else h

/-- The inverse of `a` modulo a prime `p` of at most 521 bits. -/
def invMod (p a : Nat) : Nat := powMod p (a % p) (p - 2) 521

/-- `a − b mod m`. -/
def subMod (m a b : Nat) : Nat := (a % m + m - b % m) % m

/-! ## Short Weierstrass curves with a = −3 -/

/-- Domain parameters of a NIST curve. -/
structure EcCurve where
  bytes : Nat
  bits : Nat
  p : Nat
  b : Nat
  gx : Nat
  gy : Nat
  n : Nat
  deriving DecidableEq, Repr

/-- P-256. -/
def p256 : EcCurve where
  bytes := 32
  bits := 256
  p := 0xffffffff00000001000000000000000000000000ffffffffffffffffffffffff
  b := 0x5ac635d8aa3a93e7b3ebbd55769886bc651d06b0cc53b0f63bce3c3e27d2604b
  gx := 0x6b17d1f2e12c4247f8bce6e563a440f277037d812deb33a0f4a13945d898c296
  gy := 0x4fe342e2fe1a7f9b8ee7eb4a7c0f9e162bce33576b315ececbb6406837bf51f5
  n := 0xffffffff00000000ffffffffffffffffbce6faada7179e84f3b9cac2fc632551

/-- P-384. -/
def p384 : EcCurve where
  bytes := 48
  bits := 384
  p := 2 ^ 384 - 2 ^ 128 - 2 ^ 96 + 2 ^ 32 - 1
  b := 0xb3312fa7e23ee7e4988e056be3f82d19181d9c6efe8141120314088f5013875ac656398d8a2ed19d2a85c8edd3ec2aef
  gx := 0xaa87ca22be8b05378eb1c71ef320ad746e1d3b628ba79b9859f741e082542a385502f25dbf55296c3a545e3872760ab7
  gy := 0x3617de4a96262c6f5d9e98bf9292dc29f8f41dbd289a147ce9da3113b5f0b8c00a60b1ce1d7e819d7a431d7c90ea0e5f
  n := 0xffffffffffffffffffffffffffffffffffffffffffffffffc7634d81f4372ddf581a0db248b0a77aecec196accc52973

/-- P-521. -/
def p521 : EcCurve where
  bytes := 66
  bits := 521
  p := 2 ^ 521 - 1
  b := 0x0051953eb9618e1c9a1f929a21a0b68540eea2da725b99b315f3b8b489918ef109e156193951ec7e937b1652c0bd3bb1bf073573df883d2c34f1ef451fd46b503f00
  gx := 0x00c6858e06b70404e9cd9e3ecb662395b4429c648139053fb521f828af606b4d3dbaa14b5e77efe75928fe1dc127a2ffa8de3348b3c1856a429bf97e7e31c2e5bd66
  gy := 0x011839296a789a3bc0045c8a5fb42c7d1bd998f54449579b446817afbd17273e662c97ee72995ef42640c550b9013fad0761353c7086a272c24088be94769fd16650
  n := 0x1fffffffffffffffffffffffffffffffffffffffffffffffffffffffffffffffffa51868783bf2f966b7fcc0148f709a5d03bb5c9b8899c47aebb6fb71e91386409

/-- The curve that SIZE selects (R264). -/
def curveOf (size : Nat) : EcCurve := if size = 256 then p256 else if size = 384 then p384 else p521

/-- A point: the identity or affine coordinates. -/
abbrev EcPoint := Option (Nat × Nat)

/-- R272: y² = x³ − 3x + b mod p. -/
def EcCurve.onCurve (c : EcCurve) (x y : Nat) : Bool :=
  y * y % c.p == subMod c.p (x * x * x + c.b) (3 * x)

/-- The sum of two points. -/
def EcCurve.add (c : EcCurve) : EcPoint → EcPoint → EcPoint
  | none, q => q
  | q, none => q
  | some (x1, y1), some (x2, y2) =>
    if x1 = x2 && (y1 + y2) % c.p = 0 then none
    else
      let l := if x1 = x2 then subMod c.p (3 * x1 * x1) 3 * invMod c.p (2 * y1) % c.p
        else subMod c.p y2 y1 * invMod c.p (subMod c.p x2 x1) % c.p
      let x3 := subMod c.p (l * l) (x1 + x2)
      some (x3, subMod c.p (l * subMod c.p x1 x3) y1)

/-- `k` times a point, over the low `n` bits of `k`. -/
def EcCurve.mul (c : EcCurve) (k : Nat) (q : EcPoint) : Nat → EcPoint
  | 0 => none
  | n + 1 =>
    let h := c.mul (k / 2) (c.add q q) n
    if k % 2 = 1 then c.add q h else h

/-- The base point. -/
def EcCurve.g (c : EcCurve) : EcPoint := some (c.gx, c.gy)

/-- x ‖ y, big-endian (R264). -/
def EcCurve.encode (c : EcCurve) : EcPoint → List Byte
  | some (x, y) => beBytes c.bytes x ++ beBytes c.bytes y
  | none => List.replicate (2 * c.bytes) 0

/-- The coordinates of x ‖ y. -/
def EcCurve.decode (c : EcCurve) (bs : List Byte) : Nat × Nat :=
  (ofBe (bs.take c.bytes), ofBe ((bs.drop c.bytes).take c.bytes))

/-- A digest, truncated to the bit length of the group order (R264). -/
def EcCurve.digest (c : EcCurve) (d : List Byte) : Nat :=
  if c.bits < 8 * d.length then ofBe d / 2 ^ (8 * d.length - c.bits) else ofBe d

/-- r and s of an ECDSA signature under private key `d` and nonce `k`. -/
def EcCurve.sign (c : EcCurve) (d k z : Nat) : Nat × Nat :=
  match c.mul k c.g 521 with
  | some (x, _) => (x % c.n, invMod c.n k * ((z + x % c.n * d) % c.n) % c.n)
  | none => (0, 0)

/-- An ECDSA signature verifies. -/
def EcCurve.verify (c : EcCurve) (q : EcPoint) (z r s : Nat) : Bool :=
  let w := invMod c.n s
  match c.add (c.mul (z * w % c.n) c.g 521) (c.mul (r * w % c.n) q 521) with
  | some (x, _) => x % c.n == r
  | none => false

/-! ## Curve25519 -/

/-- The field prime 2²⁵⁵ − 19. -/
def q25519 : Nat := 2 ^ 255 - 19

/-- One rung of the Montgomery ladder of RFC 7748 for bit `b`. -/
def xStep (u : Nat) (s : (Nat × Nat) × (Nat × Nat)) (b : Bool) : (Nat × Nat) × (Nat × Nat) :=
  let q := q25519
  let ((x2, z2), (x3, z3)) := if b then (s.2, s.1) else s
  let a := (x2 + z2) % q
  let aa := a * a % q
  let bb := subMod q x2 z2 * subMod q x2 z2 % q
  let e := subMod q aa bb
  let da := subMod q x3 z3 * a % q
  let cb := (x3 + z3) * subMod q x2 z2 % q
  let x5 := (da + cb) * (da + cb) % q
  let z5 := u * (subMod q da cb * subMod q da cb % q) % q
  let x4 := aa * bb % q
  let z4 := e * ((aa + 121665 * e) % q) % q
  if b then ((x5, z5), (x4, z4)) else ((x4, z4), (x5, z5))

/-- The clamped scalar of 32 little-endian bytes. -/
def clamp25519 (k : Nat) : Nat := k % 2 ^ 254 / 8 * 8 + 2 ^ 254

/-- X25519 of RFC 7748: scalar bytes as a number and u. -/
def x25519 (k u : Nat) : Nat :=
  let c := clamp25519 k
  let r := (List.range 255).foldl (fun s i => xStep u s (c.testBit (254 - i))) ((1, 0), (u, 1))
  r.1.1 * invMod q25519 r.1.2 % q25519

/-- R272: u is the u-coordinate of a point of order 2, 4 or 8 on Curve25519 or its twist. -/
def lowOrderU (u : Nat) : Bool :=
  u == 0 || u == 1 || u == q25519 - 1 ||
    u == 39382357235489614581723060781553021112529911719440698176882885853963445705823 ||
    u == 325606250916557431795983626356110631294008115727848805560023387167927233504

/-! ## edwards25519 -/

/-- The group order L. -/
def ed25519L : Nat := 2 ^ 252 + 27742317777372353535851937790883648493

/-- d = −121665 ÷ 121666. -/
def ed25519D : Nat := subMod q25519 0 (121665 * invMod q25519 121666)

/-- The sum of two points of the curve in affine coordinates. -/
def edAdd (a b : Nat × Nat) : Nat × Nat :=
  let q := q25519
  let t := ed25519D * (a.1 * b.1 % q) % q * (a.2 * b.2 % q) % q
  ((a.1 * b.2 + b.1 * a.2) * invMod q (1 + t) % q, (a.2 * b.2 + a.1 * b.1) * invMod q (subMod q 1 t) % q)

/-- `k` times a point, over the low `n` bits. -/
def edMul (k : Nat) (p : Nat × Nat) : Nat → Nat × Nat
  | 0 => (0, 1)
  | n + 1 =>
    let h := edMul (k / 2) (edAdd p p) n
    if k % 2 = 1 then edAdd p h else h

/-- The point that 32 little-endian bytes encode, if any (RFC 8032, 5.1.3). -/
def edDecode (bs : List Byte) : Option (Nat × Nat) :=
  let q := q25519
  let n := ofLe bs
  let y := n % 2 ^ 255
  let u := subMod q (y * y) 1
  let v := (ed25519D * (y * y % q) + 1) % q
  let w := u * invMod q v % q
  let x0 := powMod q w ((q + 3) / 8) 255
  let i := powMod q 2 ((q - 1) / 4) 255
  let x := if x0 * x0 % q = w then x0 else x0 * i % q
  if q ≤ y || x * x % q ≠ w || (x = 0 && n.testBit 255) then none
  else some (if x % 2 = (n / 2 ^ 255) % 2 then x else q - x, y)

/-- A point as 32 little-endian bytes. -/
def edEncode (p : Nat × Nat) : List Byte := leBytes 32 (p.2 + p.1 % 2 * 2 ^ 255)

/-- The base point, whose y is 4 ÷ 5 and whose x is even. -/
def edBase : Nat × Nat :=
  (15112221349535400772501151409588531511454012693041857206046113283949847762202,
    46316835694926478169428394003475163141307993866256225615783033603165251855960)

/-- SHA-512 of a message as a little-endian number, modulo L. -/
def edHash (m : List Byte) : Nat := ofLe (sha512 m) % ed25519L

/-- The secret scalar and the prefix of a 32-byte Ed25519 key. -/
def edExpand (sk : List Byte) : Nat × List Byte :=
  let h := sha512 sk
  (clamp25519 (ofLe (h.take 32)), h.drop 32)

/-- The public key of a 32-byte Ed25519 key. -/
def edPublic (sk : List Byte) : List Byte := edEncode (edMul (edExpand sk).1 edBase 255)

/-- The Ed25519 signature of a message. -/
def edSign (sk pk m : List Byte) : List Byte :=
  let (a, pre) := edExpand sk
  let r := edHash (pre ++ m)
  let rb := edEncode (edMul r edBase 255)
  rb ++ leBytes 32 ((r + edHash (rb ++ pk ++ m) * a) % ed25519L)

/-- An Ed25519 signature verifies: `none` when R or A is no point, else the equation S·B = R + k·A. -/
def edVerify (pk sig m : List Byte) : Option Bool :=
  match edDecode (sig.take 32), edDecode pk with
  | some r, some a =>
    let k := edHash (sig.take 32 ++ pk ++ m)
    some (edMul (ofLe (sig.drop 32)) edBase 255 == edAdd r (edMul k a 255))
  | _, _ => none

end Sys2Proof.Machine
end

