-- ==== Sys2Proof/Machine/Pke.lean ====
section
/-!
DEFINITION. The public-key engines and the key store: submission, start, completion, abort and wipes of jobs,
the programs with their counts, and the key-slot commands (R260–R290, R294–R296).
-/

namespace Sys2Proof.Machine

/-! ## Descriptors -/

/-- Word `j` of a job's descriptor (R277). -/
def PkeJob.word (j : PkeJob) (i : Nat) : Word := j.words.getD i 0
/-- PROGRAM. -/
def PkeJob.program (j : PkeJob) : Nat := fld (j.word 0) 0 8
/-- SLOT. -/
def PkeJob.slot (j : PkeJob) : Nat := fld (j.word 0) 8 8
/-- USE_SLOT. -/
def PkeJob.useSlot (j : PkeJob) : Bool := bitAt (j.word 0) 16
/-- TAG. -/
def PkeJob.tag (j : PkeJob) : Nat := fld (j.word 0) 24 8
/-- SIZE. -/
def PkeJob.size (j : PkeJob) : Nat := fld (j.word 1) 0 14
/-- OWNER. -/
def PkeJob.owner (j : PkeJob) : Nat := fld (j.word 1) 16 6
/-- USAGE. -/
def PkeJob.usage (j : PkeJob) : Nat := fld (j.word 1) 22 3
/-- IN_LEN. -/
def PkeJob.inLen (j : PkeJob) : Nat := fld (j.word 4) 0 16
/-- OUT_LEN. -/
def PkeJob.outLen (j : PkeJob) : Nat := fld (j.word 4) 16 16
/-- OUT_ADDR. -/
def PkeJob.outAddr (j : PkeJob) : Nat := join32 (j.word 5) (j.word 6)
/-- ARG. -/
def PkeJob.arg (j : PkeJob) : Nat := fld (j.word 7) 0 16
/-- EXP_BITS. -/
def PkeJob.expBits (j : PkeJob) : Nat := fld (j.word 7) 16 14

/-- R276: an owner tag of the secure domain. -/
def ownerSecure (o : Nat) : Bool := o == 0x08 || o == 0x1C

/-- R276: an owner tag whose buffers lie in host memory. -/
def ownerHost (o : Nat) : Bool := decide (o ≤ 0x03) || o == 0x08

/-- R446: the core that is an endpoint of channel `c`, by its index, KC being 4. -/
def chanCore (c : Nat) : List Nat :=
  if c ≤ 3 then [c] else if c ≤ 7 then [c - 4] else if c = 8 then [4]
  else if c = 9 then [0, 1] else if c = 10 then [0, 2] else if c = 11 then [0, 3] else if c = 12 then [1, 2]
  else if c = 13 then [1, 3] else if c = 14 then [2, 3] else if c ≤ 18 then [c - 15, 4] else []

/-- R276: core `i` (KC is 4) may submit with owner tag `o`. -/
def ownerOk (i o : Nat) : Bool :=
  if i = 4 then decide (o ≤ 0x12) || decide (0x18 ≤ o) && decide (o ≤ 0x1C)
  else o == 0x18 + i || decide (o ≤ 0x12) && (chanCore o).contains i

/-- R276: the secret-bearing programs. -/
def secretProgram (p : Nat) : Bool := [0x11, 0x20, 0x21, 0x23, 0x24, 0x30, 0x31, 0x38, 0x39, 0x41].contains p

/-- R263, R264: SIZE is allowed for the program; `none` for a code that is no program. -/
def sizeOk (p n : Nat) : Option Bool :=
  if 0x01 ≤ p ∧ p ≤ 0x09 then some (decide (64 ≤ n) && decide (n ≤ 8192) && n % 64 == 0)
  else if p = 0x10 then some (decide (1024 ≤ n) && decide (n ≤ 8192) && n % 64 == 0)
  else if p = 0x11 then some (decide (1024 ≤ n) && decide (n ≤ 8192) && n % 128 == 0)
  else if 0x20 ≤ p ∧ p ≤ 0x24 then some (n == 256 || n == 384 || n == 521)
  else if p = 0x30 ∨ p = 0x31 ∨ p = 0x38 ∨ p = 0x39 ∨ p = 0x3A then some (n == 255)
  else if p = 0x40 then some true
  else if p = 0x41 then some (n == 384)
  else none

/-- Bytes of a coordinate of the curve that SIZE selects. -/
def coordBytes (n : Nat) : Nat := (n + 7) / 8

/-- R263, R264: bytes of the job's input; `none` where the length is free. -/
def PkeJob.inNeed (j : PkeJob) : Option Nat :=
  let p := j.program
  let b := coordBytes j.size
  if p = 0x01 ∨ p = 0x10 ∨ p = 0x11 then some (j.size / 8)
  else if p = 0x23 ∨ p = 0x24 ∨ p = 0x41 then some (2 * b)
  else if p = 0x30 ∨ p = 0x31 then some 32
  else if p = 0x21 ∨ p = 0x22 ∨ p = 0x39 ∨ p = 0x3A then none
  else some 0

/-- The public inputs before the message or digest of a verification, and after it. -/
def PkeJob.fixedIn (j : PkeJob) : Nat :=
  let b := coordBytes j.size
  if j.program = 0x22 then (if j.useSlot then 2 * b else 4 * b)
  else if j.program = 0x3A then (if j.useSlot then 64 else 96) else 0

/-- The length of the message or digest in the input. -/
def PkeJob.msgLen (j : PkeJob) : Nat := j.inLen - j.fixedIn

/-- R263, R264: bytes of the job's output, the public part of the slot as it stands for EXPORT_PUB. -/
def PkeJob.outNeed (j : PkeJob) (ks : KeySlot) : Nat :=
  let p := j.program
  let b := coordBytes j.size
  if p = 0x02 ∨ p = 0x10 ∨ p = 0x11 then j.size / 8
  else if p = 0x20 ∨ p = 0x21 then 2 * b
  else if p = 0x23 ∨ p = 0x41 then b
  else if p = 0x24 then 3 * b
  else if p = 0x30 ∨ p = 0x38 then 32
  else if p = 0x31 ∨ p = 0x39 then 64
  else if p = 0x40 then ks.pub.length
  else 0

/-- R265: a submission is refused with BAD_PROGRAM. -/
def PkeJob.badProgram (j : PkeJob) (byKc : Bool) : Bool :=
  let p := j.program
  sizeOk p j.size != some true || ((p == 0x20 || p == 0x38 || p == 0x41) && !byKc) ||
    ((p == 0x39 || p == 0x3A) && decide (4096 < j.msgLen)) ||
    ((p == 0x21 || p == 0x22) && (decide (j.msgLen < 1) || decide (66 < j.msgLen)))

/-- R278: a submission is refused with BAD_DESC. -/
def PkeJob.badDesc (j : PkeJob) (ks : KeySlot) : Bool :=
  fld (j.word 0) 17 7 != 0 || fld (j.word 1) 14 2 != 0 || fld (j.word 1) 25 7 != 0 || fld (j.word 7) 30 2 != 0 ||
    (match j.inNeed with
     | some n => j.inLen != n
     | none => decide (j.inLen < j.fixedIn)) ||
    decide (j.outLen < j.outNeed ks) || fld (j.word 2) 0 3 != 0 || fld (j.word 5) 0 3 != 0 ||
    (j.program == 0x08 && (j.expBits == 0 || decide (8192 < j.expBits)))

/-! ## Cycle counts -/

/-- M(w) of R266. -/
def mulCycles (w : Nat) : Nat := w * w + 4 * w + 24

/-- The number of 1 bits of a number. -/
def popcount (n : Nat) : Nat := ((List.range 64).filter (fun i => n.testBit i)).length

/-- The bit length of a number below 2⁶⁴. -/
def bitLen (n : Nat) : Nat := ((List.range 64).filter (fun i => 2 ^ i ≤ n)).length

/-- n and e of an RSA slot's public part (R292). -/
def KeySlot.rsaPub (k : KeySlot) : Nat × Nat :=
  (ofBe (k.pub.take (k.size / 8)), ofBe ((k.pub.drop (k.size / 8)).take 4))

/-- R266–R268: the count of a job whose buffers lie in on-chip memory, in CCLK. -/
def PkeJob.cycles (j : PkeJob) (ks : KeySlot) : Nat :=
  let p := j.program
  let n := j.size
  let w := ceilDiv n 64
  let m := mulCycles w
  let e := ks.rsaPub.2
  let ec (a b c : Nat) := if n = 256 then a else if n = 384 then b else c
  let blk (x : Nat) := ceilDiv x 128
  if p = 0x01 ∨ p = 0x02 then 24 + w
  else if p = 0x03 ∨ p = 0x04 then 112 + 4 * w
  else if p = 0x05 ∨ p = 0x07 then 112 + m
  else if p = 0x06 then 112 + m + 128 * w
  else if p = 0x08 then 112 + (5 * ceilDiv j.expBits 4 + 16) * m
  else if p = 0x09 then 112 + (5 * ceilDiv n 4 + 16) * m
  else if p = 0x10 then (bitLen e + popcount e + 1) * m + 512
  else if p = 0x11 then
    2 * (6 * ceilDiv (n / 2 + 64) 4 + 16) * mulCycles (w / 2) + 4 * m + 2 * mulCycles (w / 2) +
      (bitLen e + popcount e + 1) * m + 2560
  else if p = 0x20 then ec 30000 62000 138000
  else if p = 0x21 then ec 72000 150000 330000
  else if p = 0x22 then ec 60000 126000 276000
  else if p = 0x23 then ec 52000 108000 236000
  else if p = 0x24 then ec 76000 160000 352000
  else if p = 0x41 then 108000
  else if p = 0x30 then 48000
  else if p = 0x31 then 72000
  else if p = 0x38 then 26000
  else if p = 0x39 then 58280 + 400 * (blk (j.inLen + 49) + blk (j.inLen + 81))
  else if p = 0x3A then 51200 + 400 * blk (j.msgLen + 81)
  else 24 + ceilDiv ks.pub.length 8

/-! ## The slot check -/

/-- R264: the types of slot that a program takes; an empty list for a program without a slot. -/
def PkeJob.slotTypes (j : PkeJob) : List Nat :=
  let p := j.program
  if p = 0x10 then [1, 2] else if p = 0x11 then [1] else if p = 0x21 ∨ p = 0x23 then [3]
  else if p = 0x22 then (if j.useSlot then [3, 4] else [])
  else if p = 0x30 then [5] else if p = 0x39 then [6]
  else if p = 0x3A then (if j.useSlot then [6, 7] else [])
  else if p = 0x40 then [1, 2, 3, 4, 5, 6, 7, 8] else []

/-- R280: the usage bit a program needs. -/
def usageNeed (p : Nat) : Option Nat :=
  if p = 0x11 ∨ p = 0x21 ∨ p = 0x39 then some 0 else if p = 0x23 ∨ p = 0x30 then some 1
  else if p = 0x40 then some 2 else none

/-- R280, R288: the status with which the slot check ends a job, 0 where the job goes on. -/
def PkeJob.slotCheck (j : PkeJob) (ks : KeySlot) (sec : Nat) : Nat :=
  if j.program = 0x20 ∨ j.program = 0x38 then
    if !j.useSlot || ks.type ≠ 0 || 0xF8 ≤ j.slot && j.slot ≤ 0xFB then 9 else 0
  else if j.slotTypes = [] then 0
  else if !j.useSlot || ks.type = 0 || !j.slotTypes.contains ks.type || ks.state ≠ .loaded || sec < ks.nbf ||
      ks.naf ≠ 0 && ks.naf ≤ sec || j.program ≠ 0x40 && ks.size ≠ j.size then 9
  else if !ks.channels.testBit j.owner || ks.secure && !ownerSecure j.owner || ks.type = 8 ||
      (match usageNeed j.program with
       | some b => !ks.usage.testBit b
       | none => false) then 8
  else 0

/-! ## Programs -/

/-- What a program does: its status, its output, the slot it loads and the operand register it writes. -/
structure PkeOut where
  status : Nat := 0
  out : List Byte := []
  slotNew : Option (Nat × KeySlot) := none
  opNew : Option (Nat × Nat) := none
  valid : Bool := true
  deriving DecidableEq, Repr

/-- A job that fails validation with a status (R271). -/
def PkeOut.refuse (st : Nat) : PkeOut := { status := st, valid := false }

/-- Operand register `i`, its low `w` words. -/
def Engine.op (e : Engine) (i w : Nat) : Nat := tget (fun _ => 0) e.ops i % 2 ^ (64 * w)

/-- R263: the primitives. M is judged before A, and A before B (R271); TOMONT, FROMMONT, MODEXP and MODINV refuse what MODMUL
refuses, a B of M or more among it. -/
def runPrimitive (j : PkeJob) (e : Engine) (input : List Byte) : PkeOut :=
  let p := j.program
  let w := ceilDiv j.size 64
  let a := e.op (j.arg % 16) w
  let b := e.op (j.arg / 16 % 16) w
  let m := e.op (j.arg / 256 % 16) w
  let d := j.arg / 4096 % 16
  let r := 2 ^ (64 * w) % m
  let ri := powMod m ((m + 1) / 2) (64 * w) 16
  let put (v : Nat) : PkeOut := { opNew := some (d, v) }
  if p = 0x01 then put (ofBe (input.take (j.size / 8)))
  else if p = 0x02 then { out := beBytes (j.size / 8) a }
  else if m = 0 then .refuse 1
  else if m = 1 then .refuse 2
  else if p = 0x03 ∨ p = 0x04 then
    if m ≤ a ∨ m ≤ b then .refuse 3 else put (if p = 0x03 then (a + b) % m else subMod m a b)
  else if m % 2 = 0 ∨ m ≤ a then .refuse 3
  else if p = 0x09 ∧ a = 0 then .refuse 1
  else if m ≤ b then .refuse 3
  else if p = 0x05 then put (a * b % m * ri % m)
  else if p = 0x06 then put (a * r % m)
  else if p = 0x07 then put (a * ri % m)
  else if p = 0x08 then put (powMod m (a * ri % m) (b % 2 ^ j.expBits) 8192 * r % m)
  else put (powMod m (a * ri % m) (m - 2) 8192 * r % m)

/-- R272: the status of a point given as x ‖ y, 0 where it is accepted. -/
def EcCurve.judge (c : EcCurve) (bs : List Byte) : Nat :=
  let (x, y) := c.decode bs
  if c.p ≤ x ∨ c.p ≤ y then 3 else if x = 0 ∧ y = 0 then 1 else if c.onCurve x y then 0 else 4

/-- R272: the status of a peer's u, 0 where it is accepted. -/
def judgeU (u : Nat) : Nat :=
  if q25519 ≤ u then 3 else if u = 0 then 1 else if u = 1 then 2 else if lowOrderU u then 4 else 0

/-- R264: the public part that EXPORT_PUB gives of a private key's plaintext. -/
def pubOf (type size : Nat) (sec : List Byte) : List Byte :=
  if type = 1 then sec.take (size / 8 + 4)
  else if type = 3 then (curveOf size).encode ((curveOf size).mul (ofBe sec) (curveOf size).g 521)
  else if type = 5 then leBytes 32 (x25519 (ofLe sec) 9)
  else if type = 6 then edPublic sec
  else if type = 2 ∨ type = 4 ∨ type = 7 then sec
  else []

/-- R288: the attributes of a slot that key generation writes. -/
def PkeJob.genSlot (j : PkeJob) (type : Nat) (sec pub : List Byte) : KeySlot :=
  { type := type, size := j.size, secure := ownerSecure j.owner, usage := j.usage
    channels := j.arg ||| 2 ^ j.owner, state := .loaded, pub := pub, sec := sec }

/-- A random scalar from 1 to n − 1 of two draws. -/
def scalarOf (n : Nat) (r : BitVec 512 × BitVec 512) : Nat := 1 + (r.1.toNat * 2 ^ 512 + r.2.toNat) % (n - 1)

/-- RSA with n, p, q, dp, dq and qinv of a private slot (R267, R292), with the checks of R274 on its result: none where one
fails. -/
def rsaPriv (k : KeySlot) (x : Nat) : Option Nat :=
  let h := k.size / 16
  let at_ (i : Nat) := ofBe ((k.sec.drop (k.size / 8 + 4 + i * h)).take h)
  let (p, q) := (at_ 0, at_ 1)
  let yp := powMod p (x % p) (at_ 2) 4096
  let yq := powMod q (x % q) (at_ 3) 4096
  let y := yq + q * (subMod p yp yq * at_ 4 % p)
  if y % p = yp % p ∧ y % q = yq % q ∧ powMod k.rsaPub.1 y k.rsaPub.2 32 = x then some y else none

/-- R274: an output that a check admits; E_FAULT where the check fails. -/
def PkeOut.checked (ok : Bool) (o : PkeOut) : PkeOut := if ok then o else { status := 6 }

/-- R264, R272–R275: the elliptic-curve programs. `r` is what the TRNG supplies. -/
def runEc (j : PkeJob) (ks : KeySlot) (duk : Nat) (input : List Byte) (r : BitVec 512 × BitVec 512) : PkeOut :=
  let c := curveOf j.size
  let b := c.bytes
  let p := j.program
  let k := scalarOf c.n r
  let x (q : EcPoint) : List Byte := (c.encode q).take b
  let on (q : EcPoint) : Bool := match q with
    | some (x, y) => c.onCurve x y
    | none => false
  if p = 0x20 then
    let q := c.mul k c.g 521
    PkeOut.checked (on q) { out := c.encode q, slotNew := some (j.slot, j.genSlot 3 (beBytes b k) (c.encode q)) }
  else if p = 0x21 then
    let (rr, ss) := c.sign (ofBe ks.sec) k (c.digest input)
    if rr = 0 ∨ ss = 0 then { status := 12 }
    else PkeOut.checked (c.verify (some (c.decode ks.pub)) (c.digest input) rr ss) { out := beBytes b rr ++ beBytes b ss }
  else if p = 0x22 then
    let qb := if j.useSlot then ks.pub else input.take (2 * b)
    let rest := if j.useSlot then input else input.drop (2 * b)
    let dig := rest.take j.msgLen
    let rs := c.decode (rest.drop j.msgLen)
    if !j.useSlot && c.judge qb ≠ 0 then .refuse (c.judge qb)
    else if c.n ≤ rs.1 then .refuse 3
    else if rs.1 = 0 then .refuse 1
    else if c.n ≤ rs.2 then .refuse 3
    else if rs.2 = 0 then .refuse 1
    else { status := if c.verify (some (c.decode qb)) (c.digest dig) rs.1 rs.2 then 0 else 5 }
  else if c.judge input ≠ 0 then .refuse (c.judge input)
  else
    let peer : EcPoint := some (c.decode input)
    let shared := c.mul (if p = 0x23 then ofBe ks.sec else if p = 0x24 then k else duk) peer 521
    let own := if p = 0x24 then c.encode (c.mul k c.g 521) else []
    PkeOut.checked (on shared) { out := own ++ x shared }

/-- R264, R272–R274: the Curve25519 programs. -/
def run25519 (j : PkeJob) (ks : KeySlot) (input : List Byte) (r : BitVec 512) : PkeOut :=
  let p := j.program
  let own := leBytes 32 r.toNat
  let u := ofLe input % 2 ^ 255
  if p = 0x30 ∨ p = 0x31 then
    if judgeU u ≠ 0 then .refuse (judgeU u)
    else
      let shared := x25519 (ofLe (if p = 0x30 then ks.sec else own)) u
      PkeOut.checked (decide (shared ≠ 0))
        { out := (if p = 0x30 then [] else leBytes 32 (x25519 (ofLe own) 9)) ++ leBytes 32 shared }
  else if p = 0x38 then
    { out := edPublic own, slotNew := some (j.slot, j.genSlot 6 own (edPublic own)) }
  else if p = 0x39 then
    let sig := edSign ks.sec ks.pub input
    PkeOut.checked (edVerify ks.pub sig input == some true) { out := sig }
  else
    let a := if j.useSlot then ks.pub else input.take 32
    let rest := if j.useSlot then input else input.drop 32
    let sig := rest.take 64
    if ed25519L ≤ ofLe (sig.drop 32) ∨ q25519 ≤ ofLe (sig.take 32) % 2 ^ 255 ∨ q25519 ≤ ofLe a % 2 ^ 255 then
      .refuse 3
    else match edVerify a sig (rest.drop 64) with
      | none => { status := 4 }
      | some true => {}
      | some false => { status := 5 }

/-- R263–R265, R271–R275: what a job that has passed its slot check does. The checks of R274 that hold of every result of these
definitions (a generated key signs and verifies, the ladder's points differ by its input) are not computed again. -/
def runProgram (j : PkeJob) (e : Engine) (ks : KeySlot) (duk : Nat) (input : List Byte)
    (r : BitVec 512 × BitVec 512) : PkeOut :=
  let p := j.program
  if p ≤ 0x09 then runPrimitive j e input
  else if p = 0x10 ∨ p = 0x11 then
    let x := ofBe input
    let (n, ex) := ks.rsaPub
    if n ≤ x then .refuse 3 else if x = 0 then .refuse 1 else if x = 1 then .refuse 2
    else if p = 0x10 then { out := beBytes (j.size / 8) (powMod n x ex 32) }
    else match rsaPriv ks x with
      | some y => { out := beBytes (j.size / 8) y }
      | none => { status := 6 }
  else if 0x20 ≤ p ∧ p ≤ 0x24 ∨ p = 0x41 then runEc j ks duk input r
  else if p = 0x40 then
    if j.outLen < ks.pub.length then { status := 10 } else { out := ks.pub }
  else run25519 j ks input r.1

/-! ## Key slots -/

/-- R288: a slot's contents change; EV201 when its state does. -/
def State.slotSet (s : State) (i : Nat) (k : KeySlot) : State :=
  let old := (s.kslot i).state
  let s := s.updKslot i (fun _ => k)
  if old = k.state then s else s.raise 201

/-- The ring slot of a role: 0 current, 1 previous-1, 2 previous-2, 3 next (R290, KEY_NTS_RING). -/
def State.ringSlot (s : State) (role : Nat) : Nat := 0xF8 + (s.pke.ring + role) % 4

/-- R286: the NTS master key of ring slot `i` leaves every role that it holds, so that no lane and no sealing unit has it. -/
def State.ntsForget (s : State) (i : Nat) : State :=
  let n := s.srv.nts
  let at_ (role : Nat) (k : Option MasterKey) : Option MasterKey := if s.ringSlot role = i then k else none
  match at_ 0 n.cur <|> at_ 1 n.prev1 <|> at_ 2 n.prev2 <|> at_ 3 n.next with
  | none => s
  | some k =>
    let f (x : Option MasterKey) : Option MasterKey := if x = some k then none else x
    { s with srv := { s.srv with nts := { n with
      cur := f n.cur, prev1 := f n.prev1, prev2 := f n.prev2, next := f n.next
      oldCur := f n.oldCur, oldPrev1 := f n.oldPrev1, oldPrev2 := f n.oldPrev2 } } }

/-- R280: a slot is wiped, and with a slot of the NTS ring the master key it holds. -/
def State.slotWipe (s : State) (i : Nat) : State := (s.ntsForget i).slotSet i {}

/-! ## Engines -/

/-- CCLK spent running or wiping, in PKE_BUSY. -/
def State.pkeBusy (s : State) (i n : Nat) : State :=
  let t := (s.eng i).busyTicks + n
  (s.updEng i (fun e => { e with busyTicks := t % 1024 })).bump (Reg.PKE_BUSY i) (t / 1024)

/-- A record in a completion queue (R282): held when the queue is full, with EV198. EV194 reaches the submitting core whatever it
enables (R491). -/
def State.cplPush (s : State) (i core : Nat) (c : Cpl) : State :=
  if 8 ≤ (tget (fun _ => []) (s.eng i).cpl core).length then
    let s' := s.updEng i (fun e => { e with held := e.held ++ [(core, c)] })
    if (s.eng i).held.isEmpty then s'.raise 198 else s'
  else
    ((s.updEng i (fun e => { e with cpl := tupd (fun _ => []) e.cpl core (· ++ [c]) })).coreMark core 194).raise 194

/-- R282, R295: job `j` of engine `i` has completed with a status: LAST_STATUS shows it, it is counted, and its record goes to the
core that submitted it. -/
def State.jobDone (s : State) (i : Nat) (j : PkeJob) (status : Nat) : State :=
  let s := s.updEng i (fun e => { e with status := status, lastOwner := j.owner })
  let s := (s.bump (Reg.PKE_JOBS i)).flow 0x20
  match j.by_ with
  | .core c => s.cplPush i c ⟨j.tag, j.owner, status⟩
  | .srv => s

/-- R262: an engine goes offline: EV199 once, and each of its jobs completes with ABORTED_WIPED. -/
def State.pkeOffline (s : State) (i : Nat) : State :=
  let e := s.eng i
  if !e.online then s
  else
    let s := (s.updEng i (fun e => { e with online := false, pend := [], run := none })).raise 199
    ((e.run.map (·.job)).toList ++ e.pend).foldl (fun s j => s.jobDone i j 7) s

/-- R510: engine `i` is retired. -/
def State.pkeRetire (s : State) (i : Nat) : State :=
  if (s.eng i).retired then s
  else
    let s := (s.updEng i (fun e => { e with retired := true })).pkeOffline i
    ((s.orBits Reg.FLT_RETIRED_PKE (bitMask i)).raise 204).alarmSync

/-- R274, R510: an E_FAULT completion, and the retirement of an engine with too many of them. -/
def State.pkeFault (s : State) (i : Nat) : State :=
  let pol := s.ac Reg.FLT_POLICY
  let s := (s.bump (Reg.PKE_FAULTS i)).raise 195
  let s := s.updEng i (fun e => { e with
    faults := s.time.now :: e.faults.filter (fun t => decide (s.time.now < t + sTicks * fld pol 12 8)) })
  if fld pol 8 4 ≤ (s.eng i).faults.length then s.pkeRetire i else s

/-! ## Submission -/

/-- R278: the result of a submission to engine `i`. DEDUCED (log entry 69): four pending jobs fill an engine whether or not it runs
one (R279). -/
def State.submitResult (s : State) (i : Nat) (j : PkeJob) : Nat :=
  let e := s.eng i
  let own := match j.by_ with
    | .core c => ownerOk c j.owner
    | .srv => j.owner == 0x1D
  if !e.online then 4
  else if !own then 2
  else if j.badProgram (decide (j.by_ = .core 4)) then 3
  else if j.badDesc (s.kslot j.slot) then 5
  else if 4 ≤ e.pend.length then 1
  else 0

/-- R266, R278, R279: a submission: queued, or refused, counted and reported. -/
def State.submit (s : State) (i : Nat) (j : PkeJob) : Nat × State :=
  let r := s.submitResult i j
  if r = 0 then
    let e := s.eng i
    let idle := e.run.isNone && e.pend.isEmpty && e.wipeUntil.isNone
    (0, s.updEng i (fun e => { e with
      pend := e.pend ++ [j]
      startAt := if idle then max e.startAt (s.cclkAfter 8) else e.startAt }))
  else (r, (s.bump (Reg.PKE_SUB_REFUSED i)).raiseLim 197 i msTicks)

/-- PKE_JOB_GO (R278): a core's write of PKE_JOB_GO submits its staged descriptor and sets its RESULT. From
PF0, PF1 or SPI management the write is discarded with EV192. -/
def execPkeJobGo (i : Fin 8) (m : Master) (s : State) : Res :=
  match m.core with
  | none => .next (s.raise 192)
  | some c =>
    let ws := (List.range 8).map (fun k => s.rd (bankKey m (Reg.PKE_JOB_W i k)))
    let (r, s) := s.submit i { words := ws, by_ := .core c }
    .next (s.wr (bankKey m (Reg.PKE_SUB_STAT i)) (BitVec.ofNat 32 r))

/-! ## Staging buffers -/

/-- Bytes of the staging buffer of channel `c`, from byte `at_` on (R457). -/
def State.bufRead (s : State) (c at_ n : Nat) : List Byte :=
  let w := (List.range ((n + 3) / 4 + 1)).map (fun i => tget (fun _ => 0) (s.fwChan c).buf (at_ / 4 + i))
  ((bytesOf w).drop (at_ % 4)).take n

/-- Words written into the staging buffer of channel `c` from word `i` on. -/
def State.bufWords (s : State) (c i : Nat) (ws : List Word) : State :=
  (ws.zip (List.range ws.length)).foldl (fun s p =>
    s.updFwChan c (fun f => { f with buf := tset (fun _ => 0) f.buf (i + p.2) p.1 })) s

/-- Bytes written into the staging buffer of channel `c` from byte `at_` on. -/
def State.bufWrite (s : State) (c at_ : Nat) (bs : List Byte) : State :=
  let head := s.bufRead c (at_ - at_ % 4) (at_ % 4)
  let whole := head ++ bs
  let stop := at_ - at_ % 4 + whole.length
  s.bufWords c (at_ / 4) (wordsOf (whole ++ s.bufRead c stop ((4 - whole.length % 4) % 4)))

/-! ## Start -/

/-- The device-unique private key, from OTP. -/
def State.duk (s : State) : Nat := s.otp.duk

/-- R261: a program that loads an operand, from its input buffer or from a slot. -/
def loadsOperand (p : Nat) : Bool := p == 0x01 || decide (0x10 ≤ p) && p != 0x40

/-- R280–R283: the job at the head of an engine's queue starts: what it will do is fixed by what it reads. DESIGN CHOICE (log entry
69): it starts at the instant its engine was free, which the predecessor's completion may have passed by 12 CCLK. -/
def State.pkeRun (s : State) (i : Nat) (j : PkeJob) (input : List Byte) (dma : Nat) (trngOk : Bool) : State :=
  let e := s.eng i
  let ks := s.kslot j.slot
  let t := e.startAt
  let start (r : Run) (clean : Bool) (s : State) : State :=
    s.updEng i (fun e => { e with
      run := some { r with te5 := bitAt (s.ac (Reg.PKE_CTRL i)) 0 }
      pend := e.pend.drop 1, owner := j.owner, program := j.program, prevOwner := some j.owner, clean := clean })
  let chk := if s.coreFailed 4 && j.useSlot && secretProgram j.program then 1 + Config.kcFailStatus % 14
    else if !trngOk && secretProgram j.program then 13 else j.slotCheck ks s.sec
  if chk ≠ 0 then
    let s := if chk = 13 then s.raise 203 else s
    start { job := j, start := t, endAt := t + 16 * cclkTicks, status := chk } e.clean s
  else
    let (r1, s) := s.draw
    let (r2, s) := s.draw
    let o := runProgram j e ks s.duk input (r1, r2)
    let n := if o.valid then j.cycles ks + dma else 112 + dma
    start { job := j, start := t, endAt := t + n * cclkTicks, status := o.status, out := o.out
            slotNew := o.slotNew, opNew := o.opNew, secretBearing := secretProgram j.program && o.valid
            refused := !o.valid }
      (e.clean && !loadsOperand j.program) s

/-- PKE_JOB_START (R280): an idle engine starts its next pending job. In native mode a job of another owner
first wipes a memory that is not clean (R283). `input` is what the job reads from its input buffer, `dma`
the DMA time of a host buffer in CCLK and `trngOk` the health of the TRNG at the slot check. -/
def execPkeJobStart (i : Fin 8) (input : List Byte) (dma : Nat) (trngOk : Bool) (s : State) : Res :=
  let e := s.eng i
  match e.pend with
  | [] => .next s
  | j :: _ =>
    if e.run.isSome || e.wipeUntil.isSome || !e.held.isEmpty || !e.online then .next s
    else
      let s := s.advTo e.startAt
      let native := !bitAt (s.ac (Reg.PKE_CTRL i)) 0
      if native && !e.clean && e.prevOwner.isSome && e.prevOwner ≠ some j.owner then
        .next ((s.updEng i (fun e => { e with
          wipeUntil := some (e.startAt + 2048 * cclkTicks) })).bump (Reg.PKE_WIPES i))
      else
        let input := match j.buf with
          | some c => s.bufRead c (join32 (j.word 2) (j.word 3)) j.inLen
          | none => j.input.getD input
        .next (s.pkeRun i j input (if ownerHost j.owner then dma else 0) trngOk)

/-- PKE_WIPE_DONE (R261): a full wipe of 2,048 CCLK ends and CLEAN is set. -/
def execPkeWipeDone (i : Fin 8) (s : State) : Res :=
  match (s.eng i).wipeUntil with
  | none => .next s
  | some t =>
    let s := (s.advTo t).pkeBusy i 2048
    .next (s.updEng i (fun e => { e with wipeUntil := none, clean := true, ops := [], result := [], startAt := t }))

/-! ## End -/

/-- R263: register contents `old` whose low `w` words become `v`. -/
def lowWords (w old v : Nat) : Nat := old - old % 2 ^ (64 * w) + v % 2 ^ (64 * w)

/-- R260: the result buffer after an output. -/
def resultAfter (old out : List Byte) : List Byte := out ++ old.drop out.length

/-- R274–R276, R281–R283: the end of the running job of engine `i` with a status: its slot and operand are
loaded if the status is OK, its output written (`sent` bytes of it where a DMA error cuts it short), its wipe done, its record
queued, and a fault counted. -/
def State.pkeEnd (s : State) (i : Nat) (r : Run) (status : Nat) (wiped : Bool) (sent : Nat := r.out.length) : State :=
  let ok := decide (status = 0)
  let s := s.pkeBusy i ((r.endAt - r.start) / cclkTicks)
  let s := match r.slotNew with
    | some (k, ks) => if ok then s.slotSet k ks else s
    | none => s
  let s := if r.refused && status == r.status then s.bump (Reg.PKE_REFUSED i) else s
  let out := if ok || status == 11 then r.out.take sent else []
  let s := if out.isEmpty then s else match r.job.buf with
    | some c => s.bufWrite c r.job.outAddr out
    | none => s.emit (.pkeOut i r.job.outAddr out)
  let full := wiped || r.secretBearing
  let s := s.updEng i (fun e => { e with
    run := none
    startAt := r.endAt
    clean := full || e.clean
    result := if full then [] else if ok || status == 11 then resultAfter e.result r.out else e.result
    ops := if full then [] else match r.opNew with
      | some (d, v) => if ok then tupd (fun _ => 0) e.ops d (fun o => lowWords (ceilDiv r.job.size 64) o v) else e.ops
      | none => e.ops })
  let s := if r.te5 && !(s.eng i).clean then
      (s.updEng i (fun e => { e with wipeUntil := some (r.endAt + 2048 * cclkTicks) })).bump (Reg.PKE_WIPES i)
    else s
  let s := s.jobDone i r.job status
  if status = 6 then s.pkeFault i else s

/-- R285: the abort of the running job of engine `i`: a full wipe, and ABORTED_WIPED. -/
def State.abortRunning (s : State) (i : Nat) (r : Run) : State :=
  let t := s.cclkAfter 1
  let s := s.updEng i (fun e => { e with
    run := none, clean := false, wipeUntil := some (t + 2048 * cclkTicks), startAt := t })
  let s := ((s.pkeBusy i ((t - r.start) / cclkTicks)).bump (Reg.PKE_ABORTS i)).raise 196
  s.jobDone i r.job 7

/-- R285: the abort of a pending job of engine `i`: removed unstarted. -/
def State.abortPending (s : State) (i : Nat) (j : PkeJob) : State :=
  let s := s.updEng i (fun e => { e with pend := e.pend.erase j })
  ((s.bump (Reg.PKE_ABORTS i)).raise 196).jobDone i j 7

/-- R285: the output write of the job has begun, of `begun`: only a job that ends OK writes an output. -/
def Run.writes (r : Run) (begun : Bool) : Bool := begun && !r.out.isEmpty && r.status == 0 && !r.eccBad

/-- R285: whether the output write of engine `i`'s job has begun, an instant that the manual does not place: an open value. -/
def State.outBegun (s : State) (i : Nat) : Bool × State :=
  match (s.eng i).run with
  | none => (false, s)
  | some r => if r.out.isEmpty then (false, s) else
    let (v, s) := s.free
    (decide (v.toNat % 2 = 1), s)

/-- R284, R285: an abort of the jobs of engine `i` that satisfy `f`; `begun` says that the running job's
output write has begun. It answers whether a job matched. -/
def State.abortJob (s : State) (i : Nat) (f : PkeJob → Bool) (begun : Bool) : Bool × State :=
  let e := s.eng i
  match e.run with
  | some r =>
    if f r.job then (true, if r.writes begun || r.endAt ≤ s.cclkAfter 1 then s else s.abortRunning i r)
    else match e.pend.find? f with
      | some j => (true, s.abortPending i j)
      | none => (false, s)
  | none => match e.pend.find? f with
    | some j => (true, s.abortPending i j)
    | none => (false, s)

/-- R281: the running job ends with E_DMA: at an error of its input, or, of `output`, at one of its output after that many of its
bytes. A job without output meets none there. -/
def State.dmaError (s : State) (i : Nat) (output : Option Nat) : State :=
  match (s.eng i).run with
  | none => s
  | some r =>
    if !ownerHost r.job.owner then s
    else match output with
      | some n => if r.writes true then (s.advTo r.endAt).pkeEnd i { r with slotNew := none } 11 false (min n (r.out.length - 1)) else s
      | none => s.pkeEnd i { r with endAt := s.cclkAfter 0, secretBearing := false, out := [], opNew := none, slotNew := none } 11 false

/-- R282: an engine that holds no record may start its next job from now on. -/
def State.cplFree (s : State) (i : Nat) : State :=
  if (s.eng i).held.isEmpty then s.updEng i (fun e => { e with startAt := max e.startAt (s.cclkAfter 0) }) else s

/-- R282: the completion queue of core `c` on engine `i` after a removal; a record held for it then enters it. -/
def State.cplSet (s : State) (i c : Nat) (q : List Cpl) : State :=
  let s := s.updEng i (fun e => { e with cpl := tset (fun _ => []) e.cpl c q })
  match (s.eng i).held.find? (fun h => h.1 == c) with
  | some h => ((s.updEng i (fun e => { e with held := e.held.erase h })).cplPush i c h.2).cplFree i
  | none => s

/-- PKE_CPL_POP (R282): a read removes the reading master's oldest record of engine `i`; a record held for
the master then enters its queue. -/
def execPkeCplPop (i : Fin 8) (m : Master) (s : State) : Res :=
  let answer (s : State) (v : Word) : Res := .next { s with bus := { data := [v], unsupported := false } }
  match m.core with
  | none => answer s 0
  | some c =>
    match tget (fun _ => []) (s.eng i).cpl c with
    | [] => answer s 0
    | r :: rest =>
      answer (s.cplSet i c rest) (BitVec.ofNat 32 (r.tag + r.status * 2 ^ 8 + r.owner * 2 ^ 16 + rest.length * 2 ^ 24 + 2 ^ 30))

/-! ## Jobs of the firmware's own -/

/-- An engine that could start a job of owner tag `o` at once. -/
def Engine.idle (e : Engine) : Bool := e.online && e.run.isNone && e.pend.isEmpty && e.wipeUntil.isNone && e.held.isEmpty

/-- R262: some engine is online. -/
def State.anyEngine (s : State) : Bool := (List.range 8).any (fun i => (s.eng i).online)

/-- A secret-bearing job that core `c` runs for itself, with tag 0x18 + c and a count of `n` CCLK: the handshakes of R192, the
delegations and online keys of R219 and R220, the unwrapping of R293. DESIGN CHOICE (log entry 70): it runs on the first idle
engine, else the first online one, at once and without time passing; what it leaves on the engine is all there. -/
def State.ownJob (s : State) (c p n : Nat) : State :=
  let is := List.range 8
  match is.find? (fun i => (s.eng i).idle) <|> is.find? (fun i => (s.eng i).online) with
  | none => s
  | some i =>
    let e := s.eng i
    let o := 0x18 + c
    let s := if e.idle && !bitAt (s.ac (Reg.PKE_CTRL i)) 0 && !e.clean && e.prevOwner.isSome && e.prevOwner ≠ some o then
        (s.bump (Reg.PKE_WIPES i)).pkeBusy i 2048 else s
    let s := s.updEng i (fun e => if e.idle then { e with
      owner := o, program := p, prevOwner := some o, clean := true, ops := [], result := [] } else e)
    let s := s.updEng i (fun e => { e with status := 0, lastOwner := o })
    ((((s.pkeBusy i n).bump (Reg.PKE_JOBS i)).flow 0x20).coreMark c 194).raise 194

/-! ## Key-slot commands -/

/-- The slot a master's KEY_SLOT_IDX names. -/
def State.slotIdx (s : State) (m : Master) : Nat := fld (s.rd (bankKey m Reg.KEY_SLOT_IDX)) 0 8

/-- KEY_SLOT_READ_ATTR (R287): the indexed slot's attributes are loaded. -/
def execKeySlotReadAttr (m : Master) (s : State) : Res :=
  .next { s with pke := { s.pke with attr := s.kslot (s.slotIdx m), refused := false } }

/-- KEY_SLOT_DELETE (R289): KC or PF1 wipes the indexed slot; from any other master the command is refused
with EV193. -/
def execKeySlotDelete (m : Master) (s : State) : Res :=
  if m.secure then
    .next (({ s with pke := { s.pke with refused := false } } : State).slotWipe (s.slotIdx m))
  else .next (({ s with pke := { s.pke with refused := true } } : State).raise 193)

/-- KEY_SLOT_READ_PUB (R286): the public part of the indexed slot is copied into KEY_SLOT_PUB when its
EXPORT_PUB usage is set; otherwise the command is refused. -/
def execKeySlotReadPub (m : Master) (s : State) : Res :=
  let k := s.kslot (s.slotIdx m)
  if k.type ≠ 0 && k.usage.testBit 2 && !k.pub.isEmpty then
    .next { s with pke := { s.pke with pubWin := wordsOf k.pub, pubValid := true, refused := false } }
  else .next { s with pke := { s.pke with pubWin := [], pubValid := false, refused := true } }

/-- KEY_SLOT_EXPIRE (R289): at the slot's NOT_AFTER KC wipes it and raises EV202. -/
def execKeySlotExpire (i : Fin 256) (s : State) : Res :=
  let k := s.kslot i
  if k.type = 0 || k.naf = 0 || s.coreFailed 4 then .next s
  else .next (((s.advDt (secUnit * k.naf)).slotWipe i).raise 202)

/-- KEY_SLOT_NOT_BEFORE (R288): DT reaches NOT_BEFORE and the slot goes from PENDING to LOADED with EV201. -/
def execKeySlotNotBefore (i : Fin 256) (s : State) : Res :=
  let k := s.kslot i
  if k.state ≠ .pending then .next s
  else .next ((s.advDt (secUnit * k.nbf)).slotSet i { k with state := .loaded })

end Sys2Proof.Machine
end

