-- ==== Sys2Proof/Machine/Import.lean ====
section
/-!
DEFINITION. Wrapped key import (R292, R293) and the NTS master-key ring (R290).
-/

namespace Sys2Proof.Machine

/-! ## The NTS master-key ring -/

/-- R190: NTS master keys are imported. -/
def State.ntsImported (s : State) : Bool := bitAt (s.ac Reg.SRV_NTS_CTRL) 0

/-- The key-store slot that holds an NTS master key of internal mode (R287). DESIGN CHOICE (log entry 71): the manual gives it no
attribute but its type, size and LABEL; it is secure, with no usage, no channel and no time limit. -/
def MasterKey.slot (k : MasterKey) : KeySlot :=
  { type := 8, size := 512, secure := true, label := k.id, state := .loaded, sec := beBytes 64 k.key.toNat }

/-- R189, R190: `k` becomes the next master key, with its ring slot. -/
def State.ntsNext (s : State) (k : MasterKey) (ks : KeySlot) : State :=
  let n := s.srv.nts
  let s : State := { s with srv := { s.srv with nts := { n with
    next := some k, nextAt := s.nowSt
    rotateAt := if s.ntsImported then stSec * k.activate else n.rotateAt } } }
  s.slotSet (s.ringSlot 3) ks

/-! ## Bundles -/

/-- Big-endian field of a bundle. -/
def bundleField (b : List Byte) (i n : Nat) : Nat := ofBe ((b.drop i).take n)

/-- R292: the plaintext length of a type and size; `none` where R287 does not give the pair. -/
def plainLen (type size : Nat) : Option Nat :=
  if type = 1 then
    (if 1024 ≤ size ∧ size ≤ 8192 ∧ size % 128 = 0 then some (size / 8 + 4 + 5 * (size / 16)) else none)
  else if type = 2 then (if 1024 ≤ size ∧ size ≤ 8192 ∧ size % 64 = 0 then some (size / 8 + 4) else none)
  else if type = 3 ∨ type = 4 then
    (if size = 256 ∨ size = 384 ∨ size = 521 then
      some (if type = 3 then (curveOf size).bytes else 2 * (curveOf size).bytes) else none)
  else if type = 5 ∨ type = 6 ∨ type = 7 then (if size = 255 then some 32 else none)
  else if type = 8 then (if size = 512 then some 64 else none)
  else none

/-- R293 step 1: the header fields and CLEN. -/
def bundleHeadOk (b : List Byte) : Bool :=
  let clen := bundleField b 32 4
  bundleField b 0 4 == 0x4B424E44 && bundleField b 4 1 == 1 && decide (bundleField b 7 1 < 4) &&
    decide (bundleField b 10 2 < 8) && bundleField b 36 4 == 0 && bundleField b 148 4 == 0 &&
    b.length == 168 + clen &&
    (match plainLen (bundleField b 6 1) (bundleField b 8 2) with
      | some n => n == clen
      | none => false)

/-- R293 step 2: the plaintext of a bundle, if EPH is a point, and the tag verifies under the wrapping key. -/
def bundleOpen (duk dukId : Nat) (b : List Byte) : Option (List Byte) :=
  let eph := (b.drop 40).take 96
  if p384.judge eph ≠ 0 then none
  else
    let shared := (p384.encode (p384.mul duk (some (p384.decode eph)) 521)).take 48
    let key := hkdf384 shared (beBytes 8 dukId) (ascii "TE9 key bundle") 32
    let clen := bundleField b 32 4
    gcmOpen key ((b.drop 136).take 12) (b.take 152) ((b.drop 152).take clen) (b.drop (152 + clen))

/-- R293 step 3: the checks on the plaintext. -/
def plainOk (type size : Nat) (pt : List Byte) : Bool :=
  if type = 1 then
    let h := size / 16
    let at_ (i : Nat) := ofBe ((pt.drop (size / 8 + 4 + i * h)).take h)
    let n := ofBe (pt.take (size / 8))
    let e := ofBe ((pt.drop (size / 8)).take 4)
    let (p, q) := (at_ 0, at_ 1)
    n == p * q && e * at_ 2 % (p - 1) == 1 % (p - 1) && e * at_ 3 % (q - 1) == 1 % (q - 1) &&
      q * at_ 4 % p == 1 % p
  else if type = 3 then decide (1 ≤ ofBe pt) && decide (ofBe pt < (curveOf size).n)
  else if type = 4 then (curveOf size).judge pt == 0
  else true

/-- The slot that a bundle loads (R287, R293). -/
def bundleSlot (b pt : List Byte) (sec : Nat) : KeySlot :=
  let type := bundleField b 6 1
  let size := bundleField b 8 2
  let nbf := bundleField b 20 6
  { type := type, size := size, secure := (bundleField b 7 1).testBit 0, usage := bundleField b 10 2
    channels := bundleField b 12 4, label := bundleField b 16 4, nbf := nbf, naf := bundleField b 26 6
    state := if sec < nbf then .pending else .loaded, pub := pubOf type size pt
    sec := if type = 2 ∨ type = 4 ∨ type = 7 then [] else pt }

/-- R293: a bundle that fails with status `st`. -/
def State.importFail (s : State) (st : Nat) : Nat × State := (st, (s.bump Reg.KEY_IMPORT_FAIL).raise 200)

/-- R290, R293: KC imports bundle `b`, which came over a secure channel or the recipe, or not: the status of
R282. An NTS master key goes to the next slot of the ring, in imported mode. KC's DUK_ECDH runs on an engine (log entry 70); without
one online the bundle fails. -/
def State.importBundle (s : State) (b : List Byte) (secureChan : Bool) : Nat × State :=
  if !bundleHeadOk b || !s.anyEngine then s.importFail 14
  else
    let type := bundleField b 6 1
    let slot := if type = 8 then s.ringSlot 3 else bundleField b 5 1
    let flags := bundleField b 7 1
    if type != 8 && decide (0xF8 ≤ slot) && decide (slot ≤ 0xFB) then s.importFail 9
    else if (flags.testBit 0 && !secureChan) || (type == 8 && !s.ntsImported) then s.importFail 14
    else
      let s := s.ownJob 4 0x41 108000
      match bundleOpen s.otp.duk s.otp.dukId b with
      | none => s.importFail 14
      | some pt =>
        let ks := bundleSlot b pt s.sec
        if !plainOk type (bundleField b 8 2) pt || ((s.kslot slot).state != .empty && !flags.testBit 1) then
          s.importFail 14
        else if type = 8 then
          (0, (s.ntsNext ⟨bundleField b 16 4, BitVec.ofNat 512 (ofBe pt), bundleField b 20 6⟩ ks).bump Reg.KEY_IMPORTS)
        else (0, (s.slotSet slot ks).bump Reg.KEY_IMPORTS)

end Sys2Proof.Machine
end

