-- ==== Sys2Proof/Machine/Ntp.lean ====
section
/-!
DEFINITION. NTP and NTS: what a cell parses of a request, the replies and kisses it composes, the symmetric
key table as a lookup sees it, the NTS master keys and cookies (R158–R191).
-/

namespace Sys2Proof.Machine

/-! ## Requests -/

/-- Byte `i` of a payload, 0 beyond its end. -/
def byteAt (p : List Byte) (i : Nat) : Nat := (p.getD i 0).toNat

/-- Bytes `i` to `i + n − 1` of a payload. -/
def slice (p : List Byte) (i n : Nat) : List Byte := (p.drop i).take n

/-- Mode of an NTP request (R158). -/
def ntpMode (p : List Byte) : Nat := byteAt p 0 % 8
/-- VN of an NTP request. -/
def ntpVn (p : List Byte) : Nat := byteAt p 0 / 8 % 8

/-- R93: the path of an NTP request by its UDP length. Any length the table does not name keeps the plain path,
where the parse drops it. -/
def ntpPath (udpLen : Nat) : Path :=
  if udpLen = 76 then .cmac else if 56 < udpLen && (udpLen - 56) % 4 = 0 then .nts else .plain

/-- The extension fields of a payload from `i` on: type, body and offset of each (R183, RFC 7822). -/
def extFields : Nat → List Byte → Nat → Option (List (Nat × List Byte × Nat))
  | 0, _, _ => none
  | fuel + 1, p, i =>
    if p.length = i then some []
    else
      let len := byteAt p (i + 2) * 256 + byteAt p (i + 3)
      if len < 4 || len % 4 ≠ 0 || p.length < i + len then none
      else match extFields fuel p (i + len) with
        | some r => some ((byteAt p i * 256 + byteAt p (i + 1), slice p (i + 4) (len - 4), i) :: r)
        | none => none

/-- What the NTS path reads of a request (R183): the Unique Identifier body, the cookie body, the number of
placeholders, and the authenticator's nonce, ciphertext and offset. -/
structure NtsReq where
  uid : List Byte
  cookie : List Byte
  holders : Nat
  nonce : List Byte
  ct : List Byte
  authAt : Nat
  deriving DecidableEq, Repr

/-- R183: the extension fields an NTS request must carry, in their order. -/
def parseNts (p : List Byte) : Option NtsReq :=
  match extFields p.length p 48 with
  | some ((0x104, uid, _) :: (0x204, ck, _) :: rest) =>
    let ph := rest.takeWhile (fun f => f.1 == 0x304)
    match rest.drop ph.length with
    | [(0x404, b, at_)] =>
      if 32 ≤ uid.length && uid.length ≤ 64 && ph.length ≤ 7 && ph.all (fun f => f.2.1.length == 100) &&
          b.length == 36 && byteAt b 0 * 256 + byteAt b 1 == 16 && byteAt b 2 * 256 + byteAt b 3 == 16 then
        some ⟨uid, ck, ph.length, slice b 4 16, slice b 20 16, at_⟩
      else none
    | _ => none
  | _ => none

/-- R158, R183: the counter of a request that its path's parse refuses. -/
def State.ntpParse (s : State) (r : Req) : Option Nat :=
  let p := r.frame.payload
  let m := ntpMode p
  if m = 1 || m = 2 || 6 ≤ m then some Reg.SRV_NTP_DROP_MODE
  else if m ≠ 3 then some Reg.SRV_NTP_DROP_PARSE
  else if !(ntpVn p == 4 || (ntpVn p == 3 && bitAt (s.gv r.gen Reg.SRV_NTP_CTRL) 4 && r.path ≠ .nts)) then
    some Reg.SRV_NTP_DROP_PARSE
  else if p.length + 8 ≠ r.frame.udpLen then some Reg.SRV_NTP_DROP_PARSE
  else match r.path with
    | .plain => if r.frame.udpLen = 56 then none else some Reg.SRV_NTP_DROP_PARSE
    | .nts => if (parseNts p).isSome then none else some Reg.SRV_NTP_DROP_PARSE
    | _ => none

/-! ## The reply header -/

/-- A four-character code as a number. -/
def code4 (a b c d : Nat) : Nat := ((a * 256 + b) * 256 + c) * 256 + d

/-- The reference ID of a kiss (R178). -/
def Kiss.refid : Kiss → Nat
  | .rate => 0x52415445 | .deny => 0x44454E59 | .rstr => 0x52535452 | .cryp => 0x43525950 | .ntsn => 0x4E54534E

/-- The counter of a kiss (R178). -/
def Kiss.counter : Kiss → Nat
  | .rate => Reg.SRV_NTP_KISS_RATE | .deny => Reg.SRV_NTP_KISS_DENY | .rstr => Reg.SRV_NTP_KISS_RSTR
  | .cryp => Reg.SRV_NTP_KISS_CRYP | .ntsn => Reg.SRV_NTP_KISS_NTSN

/-- R163, R164: root delay in units of 2⁻¹⁶ s under generation `g`. -/
def State.rootDelay (s : State) (g : Nat) (v : TimeView) : Nat :=
  let far := v.ts = .hold && decide ((s.gv g Reg.SRV_NTP_HOLD_STRAT_LIMIT).toNat < v.eHold)
  if v.ts = .untraceable || far || v.type ≠ 3 then 0 else ((2 * v.mpd + 999999999) / 1000000000).toNat

/-- R165: root dispersion in units of 2⁻¹⁶ s. -/
def rootDisp (v : TimeView) (base extraNs : Nat) : Nat :=
  match v.ts with
  | .untraceable => 0x100000
  | .locked => min 0x100000 (ceilDiv ((base + extraNs) * 65536) 1000000000)
  | .hold => min 0x100000 (ceilDiv ((base + v.eHold + extraNs) * 65536) 1000000000)

/-- R163: the reference ID of a reply. -/
def State.refId (s : State) (g : Nat) (v : TimeView) : Nat :=
  match v.ts with
  | .locked => (s.gv g (Reg.SRV_NTP_REF_ID v.type)).toNat
  | .hold =>
    if v.eHold ≤ (s.gv g Reg.SRV_NTP_HOLD_STRAT_LIMIT).toNat then (s.gv g (Reg.SRV_NTP_REF_ID v.type)).toNat
    else (s.gv g Reg.SRV_NTP_HOLD_REFID).toNat
  | .untraceable => if v.aligned then code4 0x48 0x4F 0x4C 0x44 else code4 0x49 0x4E 0x49 0x54

/-- R163: the reference timestamp. -/
def refTime (v : TimeView) (sIn : Nat) : Nat :=
  match v.ts with
  | .locked => v.ntpStamp 16 (stSec * secOf sIn)
  | .hold => v.ntpStamp 16 (stSec * v.leftSec)
  | .untraceable => 0

/-- R163: poll of a request raised to the class MIN_POLL. -/
def State.pollOut (s : State) (r : Req) : Nat :=
  let p := byteAt r.frame.payload 2
  let m := fld (s.gv r.gen (Reg.SRV_NTP_CLASS_B (ruleClass (s.regsOf r.gen) r.rule))) 0 5
  if 128 ≤ p then m else max p m

/-- R163, R168, R170, R178: the 48-byte header of a reply to `r` with transmit time `T`, or of a kiss. -/
def State.ntpHeader (s : State) (r : Req) (T : Nat) (kiss : Option Kiss) : List Byte :=
  let v := r.view
  let g := r.gen
  let p := r.frame.payload
  let cls := ruleClass (s.regsOf g) r.rule
  let minPoll := fld (s.gv g (Reg.SRV_NTP_CLASS_B cls)) 0 5
  let li := match v.ts with
    | .untraceable => 3
    | _ => if v.smearing cls r.sIn then 0 else v.li (fld (s.gv g Reg.SRV_NTP_LI_LEAD) 0 22) r.sIn
  let times := slice p 40 8 ++ beBytes 8 (v.ntpStamp cls r.sIn) ++ beBytes 8 (v.ntpStamp cls T)
  match kiss with
  | some k =>
    let poll := if k = .rate then (if 128 ≤ byteAt p 2 then minPoll else min 17 (max (byteAt p 2 + 1) minPoll))
      else byteAt p 2
    [BitVec.ofNat 8 (3 * 64 + ntpVn p * 8 + 4), 0, BitVec.ofNat 8 poll, 0xDF] ++ beBytes 4 0 ++ beBytes 4 0 ++
      beBytes 4 k.refid ++ beBytes 8 0 ++ times
  | none =>
    [BitVec.ofNat 8 (li * 64 + ntpVn p * 8 + 4), BitVec.ofNat 8 (s.stratum g v),
      BitVec.ofNat 8 (s.pollOut r), 0xDF] ++ beBytes 4 (s.rootDelay g v) ++
      beBytes 4 (rootDisp v (fld (s.gv g Reg.SRV_NTP_DISP_BASE) 0 24) 0) ++ beBytes 4 (s.refId g v) ++
      beBytes 8 (refTime v r.sIn) ++ times

/-! ## Symmetric keys -/

/-- R181: what an entry holds as a lookup issued at tick `t` sees it: what it held before the first change after `t`. -/
def KeyEntry.seenAt (e : KeyEntry) (t : Nat) : KeyVal :=
  match (e.past.filter (fun p => decide (t < p.1))).getLast? with
  | some p => p.2
  | none => e.toKeyVal

/-- R179: the entry was changed in the 8 CCLK before tick `t`. -/
def KeyEntry.freshAt (e : KeyEntry) (t : Nat) : Bool :=
  e.past.any (fun p => decide (p.1 ≤ t) && decide (t < p.1 + 8 * cclkTicks))

/-- R182: the entry has been written or disabled since tick `t`. -/
def KeyEntry.changedSince (e : KeyEntry) (t : Nat) : Bool := e.past.any (fun p => decide (t < p.1))

/-- The key ID of an AES-CMAC request (R179). -/
def cmacKeyId (p : List Byte) : Nat := ofBe (slice p 48 4)

/-- V2 of an AES-CMAC request, its lookup issued at tick `t` (R179). -/
def State.cmacV2 (s : State) (p : List Byte) (t : Nat) : Bool :=
  let e := s.symKey (cmacKeyId p)
  decide (cmacKeyId p < 65536) && (e.seenAt t).en && !e.freshAt t

/-- The AES-128 key of a symmetric entry's 256-bit field. -/
def key128 (k : BitVec 256) : BitVec 128 := k.truncate 128

/-- V3 of an AES-CMAC request (R179). -/
def State.cmacV3 (s : State) (p : List Byte) (t : Nat) : Bool :=
  aesCmac (key128 ((s.symKey (cmacKeyId p)).seenAt t).key) (slice p 0 48) == slice p 52 16

/-! ## NTS keys and cookies -/

/-- R189: the current and the two previous master keys that apply at a stamp. -/
def NtsSt.setAt (n : NtsSt) (t : Nat) : List (Option MasterKey) :=
  if t < n.boundary then [n.oldCur, n.oldPrev1, n.oldPrev2] else [n.cur, n.prev1, n.prev2]

/-- V2 of an NTS request: the master key its cookie names, with whether it is a previous one (R186). -/
def State.ntsV2 (s : State) (ck : List Byte) (sIn : Nat) : Option (MasterKey × Bool) :=
  if ck.length ≠ 100 then none
  else
    let id := ofBe (slice ck 0 4)
    let ks := s.srv.nts.setAt sIn
    match ks.findSome? (fun k => match k with
      | some m => if m.id = id then some m else none
      | none => none) with
    | some m => some (m, ks.head? != some (some m))
    | none => none

/-- R187: opening a cookie: C2S and S2C. -/
def openCookie (m : MasterKey) (ck : List Byte) : Option (List Byte × List Byte) :=
  match sivOpen (beBytes 64 m.key.toNat) [slice ck 0 4] (slice ck 4 16) (slice ck 84 16) (slice ck 20 64) with
  | some p => if p.length = 64 then some (slice p 0 32, slice p 32 32) else none
  | none => none

/-- V3b: the request authenticator under the C2S key (R186). -/
def ntsAuthOk (c2s p : List Byte) (q : NtsReq) : Bool :=
  (sivOpen c2s [slice p 0 q.authAt] q.nonce (q.ct.take 16) (q.ct.drop 16)).isSome

/-- R188: a nonce from the drawn prefix, the sealer's number and its counter. -/
def nonceOf (prefix_ sealer count : Nat) : List Byte := beBytes 6 prefix_ ++ beBytes 2 sealer ++ beBytes 8 count

/-- R187: one new cookie under the master key `m` holding C2S and S2C. -/
def sealCookie (m : MasterKey) (nonce c2s s2c : List Byte) : List Byte :=
  let r := sivSeal (beBytes 64 m.key.toNat) [beBytes 4 m.id] nonce (c2s ++ s2c)
  beBytes 4 m.id ++ nonce ++ r.2 ++ r.1

/-- R187, R188: `n` new cookie fields of a sealer from counter value `c` on. -/
def cookieFields (m : MasterKey) (pre sealer c : Nat) (c2s s2c : List Byte) (n : Nat) : List Byte :=
  (List.range n).flatMap (fun i =>
    beBytes 2 0x204 ++ beBytes 2 104 ++ sealCookie m (nonceOf pre sealer (c + i)) c2s s2c)

/-- R184: the authenticator field of a reply: header and Unique Identifier field as associated data. -/
def ntsAuthField (s2c hdr uidField nonce plain : List Byte) : List Byte :=
  let r := sivSeal s2c [hdr ++ uidField] nonce plain
  beBytes 2 0x404 ++ beBytes 2 (24 + (plain.length + 16)) ++ beBytes 2 16 ++ beBytes 2 (plain.length + 16) ++
    nonce ++ r.1 ++ r.2

/-- The Unique Identifier field of a request, byte for byte (R184). -/
def uidFieldOf (uid : List Byte) : List Byte := beBytes 2 0x104 ++ beBytes 2 (uid.length + 4) ++ uid

/-- A counter of a sealer (R188). -/
def cnt0 (_ : Nat) : Nat := 0

/-- R188: the reply counter of a cell advances; its value before. -/
def State.replyNonce (s : State) (cell : Nat) : List Byte × State :=
  let n := s.srv.nts
  let c := tget cnt0 n.replyCnt cell
  (nonceOf n.noncePrefix (cell + 0x8000) c,
    { s with srv := { s.srv with nts := { n with replyCnt := tset cnt0 n.replyCnt cell (c + 1) } } })

/-- R105, R188: the cookie counter of a sealer advances by the cookies issued; its value before. -/
def State.cookieCount (s : State) (sealer n : Nat) : Nat × State :=
  let t := s.srv.nts.cookieCnt
  let c := tget cnt0 t sealer
  (c, { s with srv := { s.srv with nts := { s.srv.nts with cookieCnt := tset cnt0 t sealer (c + n) } } })

end Sys2Proof.Machine
end

