-- ==== Sys2Proof/Machine/Carafe.lean ====
section
/-!
DEFINITION. Carafes: the Roughtime request, its leaf, the leaf ring, the seal with midpoint and radius, the
tree, and the discard of carafes (R203–R221).
-/

namespace Sys2Proof.Machine

/-! ## Requests -/

/-- A 32-bit little-endian number at byte `i`. -/
def le32At (p : List Byte) (i : Nat) : Nat := ofLe (slice p i 4)

/-- The tag–value pairs of a Roughtime message, when it is well formed (R203). -/
def rtTags (m : List Byte) : Option (List (Nat × List Byte)) :=
  let n := le32At m 0
  if m.length < 4 || n = 0 || m.length < 8 * n then none
  else
    let offs := 0 :: (List.range (n - 1)).map (fun i => le32At m (4 + 4 * i))
    let tags := (List.range n).map (fun i => le32At m (4 * n + 4 * i))
    let body := m.drop (8 * n)
    let ends := offs.drop 1 ++ [body.length]
    if (List.zip tags (tags.drop 1)).all (fun p => decide (p.1 < p.2)) && offs.all (fun o => o % 4 == 0) &&
        (List.zip offs ends).all (fun p => decide (p.1 ≤ p.2)) && body.length % 4 = 0 then
      some (List.zip tags ((List.zip offs ends).map (fun p => slice body p.1 (p.2 - p.1))))
    else none

/-- A tag of four characters, as the little-endian number that orders tags. -/
def rtTag (a b c d : Nat) : Nat := a + 256 * (b + 256 * (c + 256 * d))
/-- NONC. -/
def tagNonc : Nat := rtTag 0x4E 0x4F 0x4E 0x43
/-- VER. -/
def tagVer : Nat := rtTag 0x56 0x45 0x52 0
/-- The protocol version served (R202). -/
def rtVersion : Nat := 0x80000008
/-- The magic of a Roughtime packet. -/
def rtMagic : List Byte := leBytes 8 0x4D49544847554F52

/-- The value of a tag. -/
def tagValue (t : Nat) (l : List (Nat × List Byte)) : Option (List Byte) := (l.find? (fun p => p.1 == t)).map (·.2)

/-- R203: the nonce of an acceptable Roughtime request. -/
def rtNonce (p : List Byte) : Option (List Byte) :=
  if p.length < 1024 || 1452 < p.length || slice p 0 8 != rtMagic || le32At p 8 ≠ p.length - 12 then none
  else match rtTags (p.drop 12) with
    | none => none
    | some l => match tagValue tagNonc l, tagValue tagVer l with
      | some n, some v =>
        if n.length = 64 && (wordsOf v).any (fun w => w.toNat == rtVersion) && v.length % 4 = 0 then some n
        else none
      | _, _ => none

/-! ## The tree -/

/-- The first 32 bytes of SHA-512. -/
def sha512h (m : List Byte) : List Byte := (sha512 m).take 32
/-- R205: the leaf hash of a nonce. -/
def leafHash (n : List Byte) : List Byte := sha512h (0 :: n)
/-- R212: an inner node. -/
def nodeHash (l r : List Byte) : List Byte := sha512h (1 :: (l ++ r))
/-- R212: the depth of a tree of `n` leaves. -/
def treeDepth (n : Nat) : Nat := ((List.range 13).filter (fun d => 2 ^ d < n)).length
/-- The level above a level of nodes. -/
def levelUp : List (List Byte) → List (List Byte)
  | a :: b :: r => nodeHash a b :: levelUp r
  | _ => []
/-- R212: the 2^d leaf positions, the last leaf repeated. -/
def treeLeaves (ls : List (List Byte)) : List (List Byte) :=
  ls ++ List.replicate (2 ^ treeDepth ls.length - ls.length) (ls.getLastD [])
/-- The root of a level after `d` more levels. -/
def rootOf : Nat → List (List Byte) → List Byte
  | 0, l => l.headD []
  | d + 1, l => rootOf d (levelUp l)
/-- R212: the `d` siblings of position `i`, from the leaf level upward. -/
def pathOf : Nat → Nat → List (List Byte) → List Byte
  | 0, _, _ => []
  | d + 1, i, l => l.getD (if i % 2 = 0 then i + 1 else i - 1) [] ++ pathOf d (i / 2) (levelUp l)
/-- The leaf hashes of a carafe. -/
def Carafe.hashes (c : Carafe) : List (List Byte) := c.leaves.map (fun l => beBytes 32 l.hash.toNat)
/-- R212: the root of a carafe. -/
def Carafe.root (c : Carafe) : List Byte := rootOf (treeDepth c.leaves.length) (treeLeaves c.hashes)
/-- R213: SREP: RADI, MIDP and ROOT as a tag–value message without its header, 4 + 8 + 32 bytes in a message of
68 bytes with its tags and offsets. -/
def Carafe.srep (c : Carafe) : List Byte :=
  leBytes 4 3 ++ leBytes 4 4 ++ leBytes 4 12 ++ leBytes 4 (rtTag 0x52 0x41 0x44 0x49) ++
    leBytes 4 (rtTag 0x4D 0x49 0x44 0x50) ++ leBytes 4 (rtTag 0x52 0x4F 0x4F 0x54) ++
    leBytes 4 c.radi ++ leBytes 8 c.midp ++ c.root
/-- R216: the signed message of a carafe. -/
def Carafe.message (c : Carafe) : List Byte := ascii "RoughTime v1 response signature" ++ [0] ++ c.srep

/-! ## Time of a seal -/

/-- R213: an instant of UTC as Modified Julian Date and microseconds of the day. -/
def midpOf (u : Int) (ns : Nat) : Nat :=
  let d := u / 86400
  wrap 24 (d + 40587) * 2 ^ 40 + ((u - d * 86400).toNat * 1000000 + ns / 1000)

/-- R213, R214: MIDP at stamp `t`. -/
def State.midpAt (s : State) (v : TimeView) (t : Nat) : Nat :=
  let on := bitAt (s.ac Reg.SRV_RT_CTRL) 1
  let runs := on && v.smear.any (fun m => m.runs t)
  let x : Int := stSec * v.encSec runs t + (t % stSec : Nat) + v.addOf (fun _ => on) t
  midpOf (x / stSec) ((x % stSec).toNat / 65536)

/-- R213, R214: RADI in µs at stamp `t`. -/
def State.radiAt (s : State) (v : TimeView) (t : Nat) : Nat :=
  let base := fld (s.ac Reg.SRV_RT_RADI_BASE) 0 24
  let r := match v.ts with
    | .locked => ceilDiv base 1000
    | .hold => ceilDiv (base + v.eHold) 1000
    | .untraceable => (s.ac Reg.SRV_RT_RADI_UNSYNC).toNat
  let r := if !bitAt (s.ac Reg.SRV_RT_CTRL) 1 && v.inLeapSecond (secOf t) then r + 1000000 else r
  min r (2 ^ 32 - 1)

/-! ## The ring and the sealed carafes -/

/-- R218: leaves of a sealed carafe whose records are still in the ring. -/
def Carafe.held (c : Carafe) : Nat :=
  match c.stage with
  | .emitting n => c.leaves.length - n
  | _ => c.leaves.length

/-- Leaves of a cluster's carafes short of their seal. -/
def OpenCarafe.held (o : OpenCarafe) : Nat := o.leaves.length + (o.draining.map (fun d => d.leaves.length)).sum

/-- R206: ring records of cluster `k` in use. -/
def State.ringUsed (s : State) (k : Nat) : Nat :=
  (s.openCarafe k).held + ((s.rt.sealed.filter (fun c => c.cluster == k)).map Carafe.held).sum

/-- R216: a sealed carafe without its signature. -/
def Carafe.unsigned (c : Carafe) : Bool :=
  match c.stage with
  | .signed => false
  | .emitting _ => false
  | _ => true

/-- R218: a carafe that emits its replies. -/
def Carafe.emits (c : Carafe) : Bool :=
  match c.stage with
  | .emitting _ => true
  | _ => false

/-- R211: sealed carafes of cluster `k` that wait for a signature. -/
def State.rtWaiting (s : State) (k : Nat) : Nat :=
  (s.rt.sealed.filter (fun c => c.cluster == k && c.unsigned)).length

/-- R210: MAX_LEAVES of the active set. -/
def State.maxLeaves (s : State) : Nat := fld (s.ac Reg.SRV_RT_CTRL) 16 13

/-- R219: the slot of an online key, A or B. -/
def State.onlSlot (s : State) (b : Bool) : Nat := fld (s.ac Reg.SRV_RT_KEY) (if b then 16 else 8) 8

/-- R220 step 3: KC wipes the old online key once no carafe sealed under it waits for its signature. -/
def State.deleWipe (s : State) : State :=
  match s.rt.wipeOld with
  | some x =>
    if s.rt.sealed.any (fun c => c.dele.slot == x && c.unsigned) || s.rt.cur.any (fun d => d.slot == x) then s
    else ({ s with rt := { s.rt with wipeOld := none } } : State).slotWipe x
  | none => s

/-- R220 step 3: the next delegation takes over. -/
def State.deleTake (s : State) (d : Dele) : State :=
  let s := { s with rt := { s.rt with
    cur := some d, next := none, onlB := d.slotB, late := false, expired := false
    wipeOld := s.rt.cur.map Dele.slot } }
  (s.raise 173).deleWipe

/-- A carafe leaves the list of sealed carafes. -/
def State.dropCarafe (s : State) (id : Nat) : State :=
  ({ s with rt := { s.rt with sealed := s.rt.sealed.filter (fun c => c.id != id) } } : State).deleWipe

/-- Changing a sealed carafe. -/
def State.updCarafe (s : State) (id : Nat) (f : Carafe → Carafe) : State :=
  { s with rt := { s.rt with sealed := s.rt.sealed.map (fun c => if c.id = id then f c else c) } }

/-- R208, R213, R215, R219, R220: the leaves of cluster `k` seal now; a late successor of the delegation takes
over at this seal. -/
def State.seal (s : State) (k : Nat) (ls : List Leaf) : State :=
  if ls = [] then s
  else
    let s := if s.rt.late then (match s.rt.next with
      | some d => s.deleTake d
      | none => s) else s
    let v := s.timeView
    if v.ts = .untraceable && s.notAnswering s.cfg.gen then s.bump Reg.SRV_RT_DROP_UNTRACE ls.length
    else match s.rt.cur with
      | none => s.bump Reg.SRV_RT_DROP_NODELE ls.length
      | some d =>
        let t := s.nowSt
        let midp := s.midpAt v t
        if midp < d.lo || d.hi < midp || d.maxt < s.sec || s.rt.expired then s.bump Reg.SRV_RT_DROP_NODELE ls.length
        else
          let c : Carafe := { id := s.rt.nextId, cluster := k, leaves := ls, sealTick := s.time.now
                              sealStamp := t, midp := midp, radi := s.radiAt v t, dele := d
                              stage := .folding, ctrl := s.ac Reg.SRV_NTP_CTRL }
          { s with rt := { s.rt with sealed := s.rt.sealed ++ [c], nextId := s.rt.nextId + 1 } }

/-- R211: a close that the signing DEPTH defers. -/
def State.closeDeferred (s : State) : State :=
  (s.bump Reg.SRV_RT_CLOSE_DEFER).raiseLim 169 0 msTicks

/-- R211: cluster `k` holds DEPTH carafes that wait for a signature, or for the seal that their close time has let. DESIGN CHOICE
(log entry 62): the limit is found at the close time, and a carafe that still drains counts. -/
def State.depthFull (s : State) (k : Nat) : Bool :=
  decide (fld (s.ac Reg.SRV_RT_SIGN) 8 3 ≤ s.rtWaiting k + (s.openCarafe k).draining.length)

/-- R208, R221: a carafe opens at stamp `t`, if Roughtime is enabled. -/
def State.rtOpenAt (s : State) (k t : Nat) : State :=
  s.updOpenCarafe k (fun o => { o with
    isOpen := bitAt (s.ac Reg.SRV_RT_CTRL) 0, leaves := [], maxLeaves := s.maxLeaves, since := t })

/-- R221: a cluster with no carafe open opens one if Roughtime is enabled. -/
def State.rtOpen (s : State) (k : Nat) : State := if (s.openCarafe k).isOpen then s else s.rtOpenAt k 0

/-- R208: the closed carafe `d` of cluster `k` seals now. -/
def State.sealDraining (s : State) (k : Nat) (d : Draining) : State :=
  (s.updOpenCarafe k (fun o => { o with draining := o.draining.erase d })).seal k d.leaves

/-- R210: the size close of the open carafe of cluster `k`; the next one opens at the same edge. -/
def State.sizeClose (s : State) (k : Nat) : State :=
  let o := s.openCarafe k
  if s.depthFull k then s.closeDeferred
  else ((s.bump Reg.SRV_RT_SIZE_CLOSE).rtOpenAt k o.since).seal k o.leaves

/-- LEAF_RECORD_WRITE (R205, R206, R208, R210): a committed leaf joins the carafe of its stamp in its cluster, or the next one
when that has sealed, counted in SRV_RT_LATE_LEAF; it is dropped when the ring or the carafe is full. A leaf
that finds no carafe open, after Roughtime was disabled, is dropped. -/
def State.leafAdd (s : State) (k : Nat) (l : Leaf) : State :=
  let o := s.openCarafe k
  let full (s : State) : State := (s.bump Reg.SRV_RT_DROP_RING).raiseLim 171 0 msTicks
  let late (s : State) (t : Nat) : State := if l.stamp < t then s.bump Reg.SRV_RT_LATE_LEAF else s
  match o.draining.find? (fun d => decide (l.stamp < d.tc)) with
  | some d =>
    if 4096 ≤ s.ringUsed k || 4096 ≤ d.leaves.length then full s
    else
      let e := { d with leaves := d.leaves ++ [l] }
      let s := (late s d.since).updOpenCarafe k (fun o => { o with draining := o.draining.map (fun x => if x = d then e else x) })
      if e.leaves.length % max 1 d.maxLeaves = 0 then (s.bump Reg.SRV_RT_SIZE_CLOSE).sealDraining k e else s
  | none =>
    if !o.isOpen then s
    else if 4096 ≤ s.ringUsed k || 4096 ≤ o.leaves.length then full s
    else
      let s := (late s o.since).updOpenCarafe k (fun o => { o with leaves := o.leaves ++ [l] })
      if (o.leaves.length + 1) % max 1 o.maxLeaves = 0 then s.sizeClose k else s

/-- R216, R221: the signing job of a carafe is aborted if it has started or waits at an engine. -/
def State.abortCarafe (s : State) (c : Carafe) : State :=
  match c.stage with
  | .signing i =>
    let (begun, s) := s.outBegun i
    (s.abortJob i (fun j => j.by_ = .srv && j.carafe == c.id) begun).2
  | _ => s

/-- R221: the carafes of cluster `k` are discarded at its retirement. -/
def State.carafeIntr (s : State) (k : Nat) : State :=
  let o := s.openCarafe k
  let mine := s.rt.sealed.filter (fun c => c.cluster == k)
  let n := o.held + (mine.map Carafe.held).sum
  let s := mine.foldl (fun s c => (s.abortCarafe c).dropCarafe c.id) s
  (s.updOpenCarafe k (fun o => { o with isOpen := false, leaves := [], draining := [] })).bump
    Reg.SRV_RT_DROP_INTR n

/-- R221: at a step edge every carafe that holds a leaf stamped before the edge is discarded with its job;
every leaf of a carafe of the model was stamped before the edge at which it takes place. The number of leaves
counted in TSC_STEP_SQUASH. -/
def State.carafeStep (s : State) : Nat × State :=
  let n := ((List.range 32).map (fun k => (s.openCarafe k).held)).sum + (s.rt.sealed.map Carafe.held).sum
  let s := s.rt.sealed.foldl (fun s c => (s.abortCarafe c).dropCarafe c.id) s
  (n, (List.range 32).foldl (fun s k => (s.updOpenCarafe k (fun o => { o with draining := [] })).rtOpenAt k 0) s)

end Sys2Proof.Machine
end

