-- ==== Sys2Proof/Machine/PtpMsg.lean ====
section
/-!
DEFINITION. PTP messages: the port's profile, what a cell parses of a Delay_Req, the messages the TE-9 sends,
Annex P, and the grants as V1 sees them (R224–R248, R258).
-/

namespace Sys2Proof.Machine

/-! ## Configuration of a port -/

/-- PROFILE of port `n` in generation `g` (R257). -/
def State.profile (s : State) (g n : Nat) : Nat := fld (s.gv g (Reg.SRV_PTP_PCFG n)) 0 2
/-- AUTH of port `n`. -/
def State.ptpAuth (s : State) (g n : Nat) : Bool := bitAt (s.gv g (Reg.SRV_PTP_PCFG n)) 6
/-- DOMAIN of port `n`. -/
def State.ptpDomain (s : State) (g n : Nat) : Nat := fld (s.gv g (Reg.SRV_PTP_PCFG n)) 8 8
/-- SPP of port `n`. -/
def State.ptpSpp (s : State) (g n : Nat) : Nat := fld (s.gv g (Reg.SRV_PTP_PCFG n)) 16 8
/-- TWO_STEP of port `n`. -/
def State.twoStep (s : State) (g n : Nat) : Bool := bitAt (s.gv g (Reg.SRV_PTP_PCFG n)) 5
/-- L2_NONFWD of port `n`. -/
def State.nonFwd (s : State) (g n : Nat) : Bool := bitAt (s.gv g (Reg.SRV_PTP_PCFG n)) 4

/-- A rate field of SRV_PTP_PRATE(n): `i` 0 LOG_SYNC, 1 LOG_ANNOUNCE, 2 LOG_MIN_DREQ. Profile 2 has the values
−4, −3 and −4 whatever is written (R240). -/
def State.ptpLog (s : State) (g n i : Nat) : Int :=
  if s.profile g n = 2 then (if i = 1 then -3 else -4) else sfld (s.gv g (Reg.SRV_PTP_PRATE n)) (8 * i) 8

/-- SRV_PTP_PSTAT(n).STATE: 0 DISABLED, 1 MASTER, 2 SILENT, 3 CONFLICT (R226, R242). -/
def State.ptpState (s : State) (n : Nat) : Nat :=
  if s.profile s.cfg.gen n = 0 then 0
  else if (s.ptpPort n).conflict then 3
  else if s.tstate = .untraceable && s.notAnswering s.cfg.gen then 2 else 1

/-- R226, R242: port `n` is SILENT or stopped in CONFLICT: it composes no Sync and no Follow_Up. DESIGN CHOICE (log entry 65): what it has
composed is sent, and what it gives up is not counted. -/
def State.ptpStopped (s : State) (n : Nat) : Bool := decide (2 ≤ s.ptpState n)

/-- R224: the multicast addresses of profiles 1 and 2: IPv4-mapped 224.0.1.129, FF0E::181 and the L2
addresses. -/
def State.ptpDestOk (s : State) (g n : Nat) (f : Frame) : Bool :=
  let pr := s.profile g n
  if pr = 3 then f.svcAddr.isSome
  else match f.kind with
    | .ptpL2 => f.dstMac == (if pr = 2 && s.nonFwd g n then 0x0180C200000E else 0x011B19000000)
    | .udp4 => pr == 1 && f.dst == 0xFFFFE0000181#128
    | .udp6 => pr == 1 && f.dst == 0xFF0E0000000000000000000000000181#128
    | _ => false

/-! ## Delay_Req -/

/-- The SPP and keyID of the AUTHENTICATION TLV at offset `i` (R246), if the TLV parses. -/
def authTlv (p : List Byte) (i : Nat) : Option (Nat × Nat) :=
  if p.length = i + 26 && byteAt p i * 256 + byteAt p (i + 1) = 0x8009 &&
      byteAt p (i + 2) * 256 + byteAt p (i + 3) = 22 && byteAt p (i + 5) = 0 then
    some (byteAt p (i + 4), ofBe (slice p (i + 6) 4))
  else none

/-- messageLength of a PTP message. -/
def ptpLen (p : List Byte) : Nat := byteAt p 2 * 256 + byteAt p 3

/-- R235: whether the parse of a Delay_Req holds. A port that is SILENT is left to row 1 of R236. -/
def State.delayReqOk (s : State) (r : Req) : Bool :=
  let p := r.frame.payload
  let m := p.take (ptpLen p)
  let auth := s.ptpAuth r.gen r.port
  byteAt p 0 == 1 && byteAt p 1 % 16 == 2 && byteAt p 1 / 16 ≤ 1 && byteAt p 5 == 0 &&
    ptpLen p == (if auth then 70 else 44) && ptpLen p ≤ p.length &&
    byteAt p 4 == s.ptpDomain r.gen r.port && s.profile r.gen r.port != 0 &&
    !(s.ptpPort r.port).conflict && s.ptpDestOk r.gen r.port r.frame &&
    (!auth || (match authTlv m 44 with
      | some (spp, _) => spp == s.ptpSpp r.gen r.port
      | none => false))

/-! ## Annex P -/

/-- R247: the index of the enabled entry of a pair (SPP, keyID). -/
def State.annexFind (s : State) (spp kid t : Nat) : Option Nat :=
  (s.srv.annex.find? (fun p =>
    let e := p.2.seenAt t
    p.1 < 256 && e.spp == spp && e.keyId == kid && e.en)).map (·.1)

/-- R246: the ICV over a message up to TLV byte 9. -/
def icv (key : BitVec 256) (msg : List Byte) : List Byte := (hmacSha256 key msg).take 16

/-- R246: the AUTHENTICATION TLV up to the ICV. -/
def authHead (spp kid : Nat) : List Byte :=
  beBytes 2 0x8009 ++ beBytes 2 22 ++ [BitVec.ofNat 8 spp, 0] ++ beBytes 4 kid

/-- R246: a message with its TLV and ICV. -/
def withIcv (key : BitVec 256) (spp kid : Nat) (msg : List Byte) : List Byte :=
  let m := msg ++ authHead spp kid
  m ++ icv key m

/-- V2 of a Delay_Req with Annex P, its lookup issued at tick `t`: the key entry (R101, R236). -/
def State.ptpV2 (s : State) (p : List Byte) (t : Nat) : Option Nat :=
  match authTlv (p.take 70) 44 with
  | some (spp, kid) => match s.annexFind spp kid t with
    | some i => if (s.annexKey i).freshAt t then none else some i
    | none => none
  | none => none

/-- V3 of a Delay_Req with Annex P (R236, R246). -/
def State.ptpV3 (s : State) (p : List Byte) (i t : Nat) : Bool :=
  icv ((s.annexKey i).seenAt t).key (slice p 0 54) == slice p 54 16

/-! ## Messages -/

/-- clockIdentity (SRV_PTP_CLOCKID). -/
def State.clockId (s : State) (g : Nat) : List Byte :=
  beBytes 4 (s.gv g Reg.SRV_PTP_CLOCKID_HI).toNat ++ beBytes 4 (s.gv g Reg.SRV_PTP_CLOCKID_LO).toNat

/-- sourcePortIdentity of port `n`: portNumber n + 1 (R237). -/
def State.portIdent (s : State) (g n : Nat) : List Byte := s.clockId g ++ beBytes 2 (n + 1)

/-- The 34-byte PTP header: versionPTP 2, minorVersionPTP 1. -/
def ptpHeader (type len domain flags : Nat) (corr : Nat) (ident : List Byte) (seq ctl : Nat) (log : Int) : List Byte :=
  [BitVec.ofNat 8 type, 0x12] ++ beBytes 2 len ++ [BitVec.ofNat 8 domain, 0] ++ beBytes 2 flags ++
    beBytes 8 corr ++ beBytes 4 0 ++ ident ++ beBytes 2 seq ++ [BitVec.ofNat 8 ctl, BitVec.ofNat 8 (wrap 8 log)]

/-- A PTP timestamp of SEC and NS of a stamp (R227). -/
def ptpTime (t : Nat) : List Byte := beBytes 6 (secOf t) ++ beBytes 4 (nsOf t)

/-- R237: the Delay_Resp to `r`, without its TLV. -/
def State.delayResp (s : State) (r : Req) (auth : Bool) : List Byte :=
  let p := r.frame.payload
  let pr := s.profile r.gen r.port
  let corr := wrap 64 ((ofBe (slice p 8 8) : Int) - fracOf r.sIn)
  ptpHeader 0x9 (if auth then 80 else 54) (s.ptpDomain r.gen r.port) (if pr = 3 then 0x0400 else 0) corr
    (s.portIdent r.gen r.port) (ofBe (slice p 30 2)) 3
    (if pr = 3 then 0x7F else s.ptpLog r.gen r.port 2) ++ ptpTime r.sIn ++ slice p 20 10

/-- R228: a Sync with originTimestamp from `T`, without its TLV. -/
def State.syncMsg (s : State) (g n T seq : Nat) (auth : Bool) : List Byte :=
  let two := s.twoStep g n
  let pr := s.profile g n
  ptpHeader 0x0 (if auth then 70 else 44) (s.ptpDomain g n) (bn two 9 + bn (pr == 3) 10)
    (if two then 0 else fracOf T) (s.portIdent g n) seq 0 (if pr = 3 then 0x7F else s.ptpLog g n 0) ++ ptpTime T

/-- R228, R231: the Follow_Up of a Sync with its final T and the Sync's flags, without its TLV. -/
def State.followUpMsg (s : State) (g n T seq : Nat) (auth : Bool) : List Byte :=
  let pr := s.profile g n
  ptpHeader 0x8 (if auth then 70 else 44) (s.ptpDomain g n) (bn (s.twoStep g n) 9 + bn (pr == 3) 10) (fracOf T)
    (s.portIdent g n) seq 2 (if pr = 3 then 0x7F else s.ptpLog g n 0) ++ ptpTime T

/-- R248: the port's transmit key: its entry if present and enabled at tick `t`. -/
def State.txKey (s : State) (g n t : Nat) : Option Nat :=
  s.annexFind (s.ptpSpp g n) (s.gv g (Reg.SRV_PTP_TX_KEYID n)).toNat t

/-- R248: a message of the port with its TLV when AUTH is 1; nothing when the transmit key is absent. -/
def State.signed (s : State) (g n t : Nat) (msg : List Byte) : Option (List Byte) :=
  if s.ptpAuth g n then
    match s.txKey g n t with
    | some i => some (withIcv ((s.annexKey i).seenAt t).key (s.ptpSpp g n)
        (s.gv g (Reg.SRV_PTP_TX_KEYID n)).toNat msg)
    | none => none
  else some msg

/-- The TLVs of a message from offset `i` on: type and value. -/
def ptpTlvs : Nat → List Byte → List (Nat × List Byte)
  | 0, _ => []
  | k + 1, p =>
    if p.length < 4 then []
    else
      let n := byteAt p 2 * 256 + byteAt p 3
      (byteAt p 0 * 256 + byteAt p 1, slice p 4 n) :: ptpTlvs k (p.drop (4 + n))

/-- Where the TLVs of a message begin: after the body of its type. -/
def ptpTlvAt (p : List Byte) : Nat :=
  match byteAt p 0 % 16 with
  | 0xB => 64
  | 0x9 => 54
  | _ => 44

/-- The AUTHENTICATION TLVs that a message carries. -/
def authCount (p : List Byte) : Nat :=
  ((ptpTlvs 16 (slice p (ptpTlvAt p) (ptpLen p - ptpTlvAt p))).filter (fun t => t.1 == 0x8009)).length

/-- R246, R248: a message carries a valid TLV at its end. -/
def State.sigAuth (s : State) (p : List Byte) : Bool :=
  let m := p.take (ptpLen p)
  match authTlv m (m.length - 26) with
  | some (spp, kid) => match s.annexFind spp kid s.time.now with
    | some i => icv (s.annexKey i).key (m.take (m.length - 16)) == m.drop (m.length - 16)
    | none => false
  | none => false

/-- R2, R248: the firmware takes a message where AUTH is as given: with AUTH its one AUTHENTICATION TLV is valid. DESIGN CHOICE (log
entry 64): without AUTH it carries none, as R235 asks of a Delay_Req. -/
def State.ptpAuthOk (s : State) (auth : Bool) (p : List Byte) : Bool :=
  authCount p == bn auth && (!auth || s.sigAuth p)

/-- R238, R240: a logInterval as a span of DT. -/
def logStamp (l : Int) : Nat := if 0 ≤ l then stSec * 2 ^ l.toNat else stSec / 2 ^ (-l).toNat

/-! ## Signalling -/

/-- REQUEST_UNICAST_TRANSMISSION. PRESUMED (log entry 67): the TLVs and the header of signalling are those of IEEE 1588-2019. -/
def requestTlv (type : Nat) (log : Int) (dur : Nat) : List Byte :=
  beBytes 2 4 ++ beBytes 2 6 ++ [BitVec.ofNat 8 (16 * type), BitVec.ofNat 8 (wrap 8 log)] ++ beBytes 4 dur
/-- GRANT_UNICAST_TRANSMISSION; a duration of 0 is a denial (R244). -/
def grantTlv (type : Nat) (log : Int) (dur : Nat) : List Byte :=
  beBytes 2 5 ++ beBytes 2 8 ++ [BitVec.ofNat 8 (16 * type), BitVec.ofNat 8 (wrap 8 log)] ++ beBytes 4 dur ++ [0, 0]
/-- CANCEL_UNICAST_TRANSMISSION. -/
def cancelTlv (type : Nat) : List Byte := beBytes 2 6 ++ beBytes 2 2 ++ [BitVec.ofNat 8 (16 * type), 0]
/-- ACKNOWLEDGE_CANCEL_UNICAST_TRANSMISSION. -/
def ackTlv (type : Nat) : List Byte := beBytes 2 7 ++ beBytes 2 2 ++ [BitVec.ofNat 8 (16 * type), 0]

/-- A signalling message of port `n`, without its AUTHENTICATION TLV. -/
def State.sigMsg (s : State) (n domain seq : Nat) (auth : Bool) (target tlv : List Byte) : List Byte :=
  ptpHeader 0xC (44 + tlv.length + if auth then 26 else 0) domain 0x400 0 (s.portIdent s.cfg.gen n) seq 5 0x7F ++
    target ++ tlv

/-- A unicast general message of the firmware joins class 2 of the best-effort queue of port `n` (R149). -/
def State.coreSend (s : State) (n : Nat) (v6 : Bool) (addr : BitVec 128) (tag : Option Nat) (m : List Byte) : State :=
  let c := s.ac Reg.SRV_NTP_CTRL
  let h : FrameHead := { l2 := false, v6 := v6, dstMac := 0, src := 0, dst := addr, sport := 320, dport := 320, svcAddr := 0
                         tagged := tag.isSome, tci := tag.getD 0, dscp := fld c 8 6, hop := fld c 16 8 }
  let h := h.toward n v6 addr
  s.bePush n .core (h.len m.length) m (some h)

/-- R244, R245, R248: port `n` sends a client a signalling message, with the port's TLV when AUTH is 1; without its transmit key
it sends none. -/
def State.portSignal (s : State) (n : Nat) (v6 : Bool) (addr : BitVec 128) (tag : Option Nat) (target tlv : List Byte) : State :=
  let g := s.cfg.gen
  let seq := (s.ptpPort n).sigSeq
  let m := s.signed g n s.time.now (s.sigMsg n (s.ptpDomain g n) seq (s.ptpAuth g n) target tlv)
  let s := s.updPtpPort n (fun p => { p with sigSeq := (seq + 1) % 65536 })
  match m with
  | some m => s.coreSend n v6 addr tag m
  | none => s

/-! ## Grants at a stamp -/

/-- R245: the grants of an entry that apply to a stamp: those before the first change after it. -/
def GrantEntry.setAt (e : GrantEntry) (t : Nat) : GrantSet :=
  match (e.past.filter (fun p => decide (t < p.1))).getLast? with
  | some p => p.2
  | none => e.cur

/-- R245: an entry changes to `g` at stamp `t`; the table keeps the state before a change for 64 µs. -/
def GrantEntry.turn (e : GrantEntry) (g : GrantSet) (t : Nat) : GrantEntry :=
  { e with cur := g, past := (t, e.cur) :: e.past.filter (fun p => decide (t < p.1 + 64000 * 65536)) }

/-- The entry of a client, identified by port and address (R243), as it stands at a stamp. -/
def State.grantFind (s : State) (n : Nat) (a : BitVec 128) (t : Nat) : Option Nat :=
  (s.ptp.grants.find? (fun p => (p.2.setAt t).valid && (p.2.setAt t).port == n && (p.2.setAt t).addr == a)).map (·.1)

/-- A grant is valid at a DT second (R245). -/
def grantOk (g : Option Grant) (sec : Nat) : Bool :=
  match g with
  | some g => decide (sec < g.exp)
  | none => false

/-- R236: the grant allowance at a stamp: at most 4 requests, refilled by 2 × 2^−L per second, in 1/256
request, with the stamp up to which it is counted. -/
def GrantEntry.allowance (e : GrantEntry) (log : Int) (t : Nat) : Nat × Nat :=
  let rate := 512 * 2 ^ (-log).toNat
  let add := rate * (t - e.tokAt) / stSec
  if 1024 ≤ e.tokens + add then (1024, t) else (e.tokens + add, e.tokAt + stSec * add / rate)

/-- R236 rows 4 and 5: the counter that refuses a profile-3 Delay_Req, and the allowance refilled. -/
def State.grantVerdict (s : State) (r : Req) : Option Nat × State :=
  match s.grantFind r.port r.frame.src r.sIn with
  | none => (some Reg.SRV_PTP_DROP_NOGRANT, s)
  | some i =>
    match ((s.grant i).setAt r.sIn).dresp with
    | none => (some Reg.SRV_PTP_DROP_NOGRANT, s)
    | some g =>
      if secOf r.sIn < g.exp then
        let a := (s.grant i).allowance g.log r.sIn
        let s := s.updGrant i (fun e => { e with tokens := a.1, tokAt := a.2 })
        if a.1 < 256 then (some Reg.SRV_PTP_DROP_GRANTRATE, s) else (none, s)
      else (some Reg.SRV_PTP_DROP_NOGRANT, s)

/-- R236: an accepted Delay_Req takes one request of its grant's allowance. -/
def State.grantSpend (s : State) (r : Req) : State :=
  match s.grantFind r.port r.frame.src r.sIn with
  | some i => s.updGrant i (fun e => { e with tokens := e.tokens - 256 })
  | none => s

/-- V1_LOOKUP (R124, R174, R204, R236): the V1 verdict of a request, its rate state updated once. -/
def State.lookupV1 (s : State) (r : Req) : Verdict × State :=
  if (r.path = .ptp || r.path = .ptpAuth) && s.profile r.gen r.port = 3 then
    let (g, s) := s.grantVerdict r
    let (v, s) := s.verdict1 r false g
    (v, if v = .accept then s.grantSpend r else s)
  else s.verdict1 r true none

end Sys2Proof.Machine
end

