-- ==== Sys2Proof/Machine/Cells.lean ====
section
/-!
DEFINITION. Cells: the emission grid and the service delay (R133–R139), the costs of the paths (R102–R104),
classification and enqueueing (R92–R99), the judgement and composition of a request, and retirement
(R129, R130).
-/

namespace Sys2Proof.Machine

/-! ## Instants -/

/-- The tick of the first CCLK edge at or after an instant in units of 2⁻¹⁶ ns ÷ 1000 of DT. -/
def State.cclkAtG (s : State) (g : Nat) : Nat :=
  if g ≤ s.nowG then s.cclkAfter 0
  else ceilDiv (s.time.now + ceilDiv (stUnit * ((g - s.nowG) * 4)) (1000 * s.time.inc)) cclkTicks * cclkTicks

/-- Units of 2⁻¹⁶ ns ÷ 1000 in one ns, at which cycle counts convert (R109). -/
def nsG : Nat := 65536000

/-- R133, R135, R145: the first predicted grid point of port `n` at or after stamp `t`. A grid point is the stamp nearest to it
(R59), so that a point found once is found again from its own stamp. -/
def State.gridCeil (s : State) (n t : Nat) : Nat :=
  let p := s.port n
  if p.gridStep = 0 then t
  else
    let d : Int := (t * 1000 : Nat) - 500 - (p.gridPhase : Int)
    let k := -((-d) / (p.gridStep : Int))
    (roundDiv ((p.gridPhase : Int) + k * p.gridStep) 1000).toNat

/-! ## The service delay -/

/-- R137: the default D of a mode, FEC code and service (0 plain, 1 AES-CMAC, 2 NTS, 3 PTP), in ns; no number is given for a
port without a mode. -/
def dDefault (mode fec svc : Nat) : Nat :=
  if mode = 0 then (Config.noModeD svc).toNat else
  (match svc with | 0 => 520 | 1 => 600 | 2 => 960 | _ => 480) + (ingressCclk mode fec - 96) +
    (releaseNs mode fec - 58) + (if mode = 1 ∧ fec ≠ 1 ∧ svc = 2 then 72 else 0)

/-- R136: D of a service in a configuration set, in ns. -/
def dIn (t : Tab Word) (n svc : Nat) : Nat :=
  let w := tget rwsDef t (if svc < 2 then Reg.DEP_D_A n else Reg.DEP_D_B n)
  let v := fld w (16 * (svc % 2)) 16
  if v = 0 then dDefault (modeIn t n) (fecIn t n) svc else v

/-- The service of a path among the D fields. -/
def pathD : Path → Nat
  | .plain => 0 | .cmac => 1 | .nts => 2 | _ => 3

/-- R135: T of a request: the first predicted grid point at or after S_in + D. -/
def State.t0Of (s : State) (r : Req) : Nat :=
  s.gridCeil r.port (r.sIn + dIn (s.regsOf r.gen) r.port (pathD r.path) * 65536)

/-- DEP_TIER_STEP(n) of a generation, in units of 2⁻¹⁶ ns. -/
def State.tierStep (s : State) (g n : Nat) : Nat := fld (s.gv g (Reg.DEP_TIER_STEP n)) 0 12 * 65536

/-! ## Costs -/

/-- R103: the commit point of a path, in CCLK. -/
def pathCommit : Path → Nat
  | .plain => 128 | .cmac => 204 | .nts => 680 | .ptp => 64 | .ptpAuth => 144 | .sync => 40 | .syncAuth => 104
  | .roughtime => 178
/-- R103: the occupancy of a path, in CCLK. -/
def pathOccupancy : Path → Nat
  | .plain => 160 | .cmac => 236 | .nts => 720 | .ptp => 96 | .ptpAuth => 176 | .sync => 72 | .syncAuth => 136
  | .roughtime => 210
/-- R111: the occupancy of a recomposition, in CCLK. -/
def pathRecompose : Path → Nat
  | .plain => 40 | .cmac => 120 | .nts => 272 | .ptp => 16 | .ptpAuth => 96 | .sync => 32 | .syncAuth => 104
  | .roughtime => 0

/-- R185: the cookies that an NTS request asks for. -/
def Req.cookies (r : Req) : Nat :=
  match r.path, parseNts r.frame.payload with
  | .nts, some q => 1 + q.holders
  | _, _ => 1

/-- R102, R123, R185: cycles added to a request's occupancy and commit point. -/
def Req.extra (r : Req) : Nat := (if r.sprayed then 12 else 0) + ceilDiv (r.cookies - 1) 2 * 200

/-- R109: whether a reply dispatched now meets `T` with a commit point of `c` CCLK. -/
def State.meets (s : State) (n g c : Nat) (asymTx : Int) (T : Nat) : Bool :=
  decide ((s.nowG : Int) + (nsG * (c + 40 + fld (s.gv g Reg.CLS_DISP_GUARD) 0 8) : Nat) + s.lRelG n asymTx ≤
    (T * 1000 : Nat))

/-- R109, R145: the smallest tier from `from_` to 4 that passes, with its T. -/
def State.tierFor (s : State) (n g c : Nat) (asymTx : Int) (t0 from_ : Nat) : Option (Nat × Nat) :=
  ((List.range 5).filter (fun k => from_ ≤ k)).findSome? (fun k =>
    let T := if k = 0 then t0 else s.gridCeil n (t0 + k * s.tierStep g n)
    if s.meets n g c asymTx T then some (k, T) else none)

/-! ## Cells of a cluster -/

/-- No cell is busy at reset. -/
def busyDef (_ : Nat) : Option Busy := none

/-- What cell `c` of a cluster works on. -/
def ClusterSt.busy (cl : ClusterSt) (c : Nat) : Option Busy := tget busyDef cl.cells c

/-- Changing what cell `c` of cluster `k` works on. -/
def State.setBusy (s : State) (k c : Nat) (b : Option Busy) : State :=
  s.updClu k (fun cl => { cl with cells := tset busyDef cl.cells c b })

/-- R106, R109: the cell has done its work: it has committed or its entry has expired, and its occupancy has
ended. -/
def Busy.ended (b : Busy) (now : Nat) : Bool := (b.committed || b.job == .expired) && decide (b.freeAt ≤ now)

/-- R507, CEL_CELL_DIS: cell `c` of cluster `k` is in service. -/
def State.cellOn (s : State) (k c : Nat) : Bool :=
  (s.clu k).cellsOn.testBit c && !bitAt (s.ac (Reg.CEL_CELL_DIS k)) c

/-- R100: the lowest-numbered free cell of cluster `k`. -/
def State.freeCell (s : State) (k : Nat) : Option Nat :=
  (List.range 16).find? (fun c => s.cellOn k c && (match (s.clu k).busy c with
    | none => true
    | some b => b.ended s.time.now))

/-- No slot of a cell's area is in use at reset. -/
def areaDef (_ : Nat) : Nat := 0

/-- R97, R129: the free slots among the 112 that cell `c` contributes, none once it is retired. -/
def ClusterSt.room (cl : ClusterSt) (c : Nat) : Nat :=
  if cl.cellsOn.testBit c then 112 - tget areaDef cl.areas c else 0

/-- R97, R129: the free frame-store slots of a cluster. -/
def ClusterSt.free (cl : ClusterSt) : Nat := ((List.range 16).map cl.room).sum

/-- R98: the cluster has a queue entry and the slots that a frame needs. -/
def ClusterSt.canTake (cl : ClusterSt) (slots : Nat) : Bool :=
  decide (cl.queue.length < 256) && decide (slots ≤ cl.free)

/-- The `n` slots that a frame takes. DESIGN CHOICE (log entry 53): of the lowest-numbered cells first. -/
def ClusterSt.places (cl : ClusterSt) (n : Nat) : List (Nat × Nat) :=
  ((List.range 16).foldl (fun (acc : Nat × List (Nat × Nat)) c =>
    let k := min acc.1 (cl.room c)
    if k = 0 then acc else (acc.1 - k, acc.2 ++ [(c, k)])) (n, [])).2

/-- Slots come into use. -/
def ClusterSt.hold (cl : ClusterSt) (pl : List (Nat × Nat)) : ClusterSt :=
  { cl with areas := pl.foldl (fun t p => tupd areaDef t p.1 (· + p.2)) cl.areas }

/-- Slots are freed. -/
def ClusterSt.release (cl : ClusterSt) (pl : List (Nat × Nat)) : ClusterSt :=
  { cl with areas := pl.foldl (fun t p => tupd areaDef t p.1 (· - p.2)) cl.areas }

/-- R116: the slots that a stolen entry still takes in the cluster it was first queued in are freed. -/
def State.freeCredit (s : State) (r : Req) : State :=
  match r.credit with
  | some (h, pl) => s.updClu h (·.release pl)
  | none => s

/-- The slots of a request in cluster `k`, and its credit, are freed. -/
def State.freeSlots (s : State) (k : Nat) (r : Req) : State := (s.updClu k (·.release r.places)).freeCredit r

/-- TRIP_DEPTH (R119). -/
def State.tripDepth (s : State) : Nat := fld (s.ac Reg.CLS_HOT_TRIP) 0 9

/-- R119: the dwell count of cluster `k` follows its depth. -/
def State.dwell (s : State) (k : Nat) : State :=
  let cl := s.clu k
  if s.tripDepth < cl.queue.length then
    (if cl.dwellFrom.isNone then s.updClu k (fun cl => { cl with dwellFrom := some s.time.now, enq := [] }) else s)
  else if cl.dwellFrom.isSome || cl.hot then
    s.updClu k (fun cl => { cl with dwellFrom := none, hot := false, enq := [] })
  else s

/-- R114: cluster `k` sends steal requests from the CCLK edge at which its queue falls below LOW_WATER, first to the neighbour after
the one that granted most recently. -/
def State.lowWater (s : State) (k : Nat) : State :=
  let cl := s.clu k
  if cl.queue.length < fld (s.ac Reg.CLS_STEAL) 0 8 then
    (if cl.stealAt.isSome then s else s.updClu k (fun cl => { cl with
      stealAt := some (s.cclkAfter 0), askNext := (cl.lastGrantBy + 1) % 4 }))
  else s.updClu k (fun cl => { cl with stealAt := none })

/-- R114, R119: what follows the depth of the queue of cluster `k`. -/
def State.watch (s : State) (k : Nat) : State := (s.dwell k).lowWater k

/-- A request joins the tail of a cluster's queue. A request that its port enqueues counts toward the port's share of the dwell
(R120); a stolen one does not. -/
def State.enqueue (s : State) (k : Nat) (r : Req) (stolen : Bool) : State :=
  let count := (s.clu k).dwellFrom.isSome && !stolen
  let pl := (s.clu k).places r.slots
  let s := s.updClu k (fun cl => { (cl.hold pl) with
    queue := cl.queue ++ [{ r with places := pl }]
    enq := if count then tupd (fun _ => 0) cl.enq r.port (· + 1) else cl.enq
    lastDispatch := if cl.queue = [] then s.time.now else cl.lastDispatch })
  (s.keepMax (Reg.CEL_DEPTH_MAX k) (s.clu k).queue.length).watch k

/-- R98: the drop of a request that cluster `k` cannot enqueue, by its cause. -/
def State.dropFull (s : State) (k : Nat) : State :=
  if 256 ≤ (s.clu k).queue.length then (s.bump (Reg.CEL_DROP_QFULL k)).raiseLim 131 k msTicks
  else (s.bump (Reg.CEL_DROP_FSTORE k)).raiseLim 132 k msTicks

/-! ## Classification -/

/-- R120: the ports in spray mode: forced by the active set, or entered automatically. -/
def State.spraying (s : State) (n : Nat) : Bool :=
  bitAt (s.ac Reg.CLS_CTRL) (8 + n) || s.cls.sprayAuto.testBit n

/-- The generation of an item stamped at `t` (R484). -/
def State.genAt (s : State) (t : Nat) : Nat :=
  match s.cfg.retiring with
  | some r => if t < s.cfg.boundary then r.gen else s.cfg.gen
  | none => s.cfg.gen

/-- What the classifier makes of a frame (R92, R58, R64, R79). -/
inductive Class where
  | pause | fragment | manyTags
  | request (p : Path)
  | firmware
  | unknown
  deriving DecidableEq, Repr

/-- R79, R225, R249: PTP message `m` of port `n` is for the firmware under generation `g`: signalling, management and peer delay
messages, an Announce of the domain of the port's grandmaster, and all of the domain of a client instance on the port. -/
def State.ptpToFirmware (s : State) (n g : Nat) (m : List Byte) : Bool :=
  let type := byteAt m 0 % 16
  let dom := byteAt m 4
  [2, 3, 10, 12, 13].contains type || (type == 11 && s.profile g n != 0 && dom == s.ptpDomain g n) ||
    (List.range 2).any (fun i =>
      let c := s.gv g (Reg.SRV_PTP_CL_CFG i)
      bitAt c 0 && fld c 1 3 == n && dom == fld c 8 8)

/-- R92, R93, R202: the class of a frame on port `n` under generation `g`. -/
def State.classify (s : State) (n g : Nat) (f : Frame) : Class :=
  let udp := f.kind = .udp4 ∨ f.kind = .udp6
  let delayReq := (udp ∧ f.dport = 319 ∨ f.kind = .ptpL2) ∧ byteAt f.payload 0 % 16 = 1
  let mine := f.svcAddr.isSome
  let ptp := udp ∧ (f.dport = 319 ∨ f.dport = 320) ∨ f.kind = .ptpL2
  if f.kind = .pause then .pause
  else if f.fragment then .fragment
  else if 1 < f.vlans then .manyTags
  else if udp ∧ f.dport = 123 ∧ mine then .request (ntpPath f.udpLen)
  else if udp ∧ mine ∧ bitAt (s.gv g Reg.SRV_RT_CTRL) 0 ∧ f.dport = fld (s.gv g Reg.SRV_RT_PORT) 0 16 then
    .request .roughtime
  else if delayReq then
    if mine ∨ s.ptpDestOk g n f then .request (if s.ptpAuth g n then .ptpAuth else .ptp) else .unknown
  else if f.kind = .arp ∧ mine ∨ f.kind = .tcp4460 ∧ mine ∨ f.kind = .esmc ∨ ptp ∧ s.ptpToFirmware n g f.payload then .firmware
  else .unknown

/-- R121: the cluster that a sprayed request goes to, from the port's pointer on. -/
def State.sprayTarget (s : State) (p slots : Nat) : Option Nat :=
  ((List.range 32).map (fun i => (p + i) % 32)).find? (fun k =>
    !(s.clu k).retired && (s.clu k).canTake slots)

/-- R121: the cluster that a pointer indicates, which skips retired clusters. -/
def State.sprayPoint (s : State) (p : Nat) : Nat :=
  (((List.range 32).map (fun i => (p + i) % 32)).find? (fun k => !(s.clu k).retired)).getD p

/-- R121: the pointer of port `n` stands after cluster `k`. -/
def State.sprayNext (s : State) (n k : Nat) : State :=
  { s with cls := { s.cls with pointer := tset (fun _ => 0) s.cls.pointer n ((k + 1) % 32) } }

/-- R98, R121, R122, R130: a classified request takes its place in a cluster queue or is dropped. -/
def State.place (s : State) (r : Req) : State :=
  let s := if (List.range 8).any s.spraying then
      s.updClu r.home (fun cl => { cl with homed := cl.homed + 1 }) else s
  if s.spraying r.port then
    let p := tget (fun _ => 0) s.cls.pointer r.port
    match s.sprayTarget p r.slots with
    | some k => ((s.sprayNext r.port k).bump (Reg.CEL_SPRAY_IN k)).enqueue k { r with sprayed := true } false
    | none => (s.sprayNext r.port (s.sprayPoint p)).dropFull (s.sprayPoint p)
  else if (s.clu r.home).retired then s.bump (Reg.CEL_DROP_RETIRE r.home)
  else if (s.clu r.home).canTake r.slots then s.enqueue r.home r false
  else s.dropFull r.home

/-- R92–R95, R107: the request that a classified frame makes. -/
def State.makeReq (s : State) (n : Nat) (f : Frame) (p : Path) (sIn : Nat) : Req :=
  let g := s.genAt sIn
  let (seed, ep) := s.seedAt sIn
  let h := addrHash seed f.src
  { id := s.cls.nextId, port := n, sIn := sIn
    fcsAt := s.cclkAtG (sIn * 1000 + f.len * byteG (s.mode n)) + 8 * cclkTicks
    slots := ceilDiv f.len 128, path := p, frame := f, rule := ruleFor (s.regsOf g) f.src, gen := g
    epoch := ep, hash := h, home := s.homeOf h, view := s.viewAt sIn
    asymTx := valueAt (s.port n).asymTx sIn, queued := s.time.now }

/-- R225: the firmware drops frame `f`: a peer delay or management message. -/
def firmwareDrops (f : Frame) : Bool :=
  (f.kind == .ptpL2 || (f.kind == .udp4 || f.kind == .udp6) && (f.dport == 319 || f.dport == 320)) &&
    [2, 3, 10, 13].contains (byteAt f.payload 0 % 16)

/-- FRAME_INGRESS (R63): a frame received on port `n`, which accepts one only while it is UP, is stamped and
classified, and its request enters a cluster queue at the ingress latency of R54 after its stamp. `corr` is the number of
FEC codewords corrected since the frame before, and `uncorr` gives, for each that could not be, the ticks since it came, 0
for one that carries a part of this frame, which then fails its FCS (R74). The firmware drops peer delay and management
messages (R225). DESIGN CHOICE (log entry 47): codewords are reported with the next frame received, and a frame for the host
whose FCS is bad is delivered, as the FCS flag of R82 provides, and counted. -/
def execFrameIngress (n : Fin 8) (f : Frame) (corr : Nat) (uncorr : List Nat) (s : State) : Res :=
  if !s.isUp n then .next s
  else
    let f := if 2 ≤ s.fec n && uncorr.contains 0 then { f with fcsGood := false } else f
    let s := ((s.fecCount n corr uncorr).bump (Reg.PRT_RX_FRAMES n)).flow (8 + n)
    let c := (s.captureG n f.capture f.ui).toNat
    let sIn := s.stampOf n f
    let bad (s : State) : State := if f.fcsGood then s else s.bump (Reg.PRT_DROP_FCS n)
    let g := s.genAt sIn
    let degraded := (s.port n).calState = 2 ∧ !bitAt (s.ac (Reg.PRT_CTRL n)) 0
    match s.classify n g f with
    | .pause => .next (s.bump (Reg.PRT_DROP_PAUSE n))
    | .fragment => .next (s.bump (Reg.PRT_DROP_FRAG n))
    | .manyTags => .next (bad (s.toHost n f 3 sIn g))
    | .unknown => .next (bad (s.toHost n f 1 sIn g))
    | .firmware =>
      if !f.fcsGood then .next (bad s)
      else .next (if firmwareDrops f then (s.toFirmware n f sIn).bump Reg.SRV_PTP_DROP_OTHER else s.toFirmware n f sIn)
    | .request p =>
      if degraded then .next (bad (s.toHost n f 2 sIn g))
      else
        let lIn : Int := (nsG * ingressCclk (s.mode n) (s.fec n) : Nat) + s.ingressAdj n f.lane c * psG
        let s := (s.smearLate sIn).advTo (s.cclkAtG ((sIn * 1000 : Nat) + lIn).toNat)
        let r := s.makeReq n f p sIn
        let s := ({ s with cls := { s.cls with nextId := s.cls.nextId + 1 } } : State).flow 0
        .next (s.place r)

/-- An entry leaves the queue of cluster `k` and its slots are freed. -/
def State.unqueue (s : State) (k : Nat) (r : Req) : State :=
  ((s.updClu k (fun cl => { cl with queue := cl.queue.erase r })).freeSlots k r).watch k

/-- FCS_VERDICT (R99): the verdict on the frame of request `id` arrives, 8 CCLK after its last byte: a good
entry becomes eligible wherever it is queued, a bad one is squashed in the queue and counted. -/
def execFcsVerdict (id : Nat) (s : State) : Res :=
  let judge (s : State) (r : Req) : State := s.advTo r.fcsAt
  match (List.range 32).findSome? (fun k => ((s.clu k).queue.find? (fun r => r.id == id)).map (fun r => (k, r))) with
  | some (k, r) =>
    let s := judge s r
    if r.frame.fcsGood then
      .next (s.updClu k (fun cl => { cl with
        queue := cl.queue.map (fun q => if q.id = id then { q with eligible := true } else q) }))
    else .next ((s.unqueue k r).bump (Reg.PRT_DROP_FCS r.port))
  | none =>
    match (List.range 32).findSome? (fun k =>
        ((s.clu k).inbound.find? (fun t => t.req.id == id)).map (fun t => (k, t))) with
    | some (k, t) =>
      let s := judge s t.req
      if t.req.frame.fcsGood then
        .next (s.updClu k (fun cl => { cl with inbound := cl.inbound.map (fun u =>
          if u.req.id = id then { u with req := { u.req with eligible := true } } else u) }))
      else
        .next (((s.updClu k (fun cl => { cl with inbound := cl.inbound.erase t })).freeCredit t.req).bump
          (Reg.PRT_DROP_FCS t.req.port))
    | none => .next s

/-! ## Judgement -/

/-- What a request comes to (R104): a reply, authenticated kiss included, or a squash at a cycle with the
counter of its cause or the unauthenticated kiss that follows it. -/
inductive Outcome where
  | reply
  | drop (at_ : Nat) (counter : Nat)
  | kiss (at_ : Nat) (code : Kiss)
  deriving DecidableEq, Repr

/-- R174, R180, R186: a kiss if KISS_EN is 1, and otherwise a drop counted under `c`. -/
def kissOr (en : Bool) (at_ : Nat) (code : Kiss) (c : Nat) : Outcome := if en then .kiss at_ code else .drop at_ c

/-- R158, R183, R203, R235: the counter of a request that the parse of its path refuses. -/
def State.parseFault (s : State) (r : Req) : Option Nat :=
  match r.path with
  | .roughtime => if (rtNonce r.frame.payload).isSome then none else some Reg.SRV_RT_DROP_PARSE
  | .ptp => if s.delayReqOk r then none else some Reg.SRV_PTP_DROP_PARSE
  | .ptpAuth => if s.delayReqOk r then none else some Reg.SRV_PTP_DROP_PARSE
  | _ => s.ntpParse r

/-- R101, R179, R186, R236: the key and authentication verdicts of a request dispatched at tick `t`. -/
def State.authFault (s : State) (r : Req) (en : Bool) (t : Nat) : Option Outcome :=
  let p := r.frame.payload
  let off := if r.sprayed then 12 else 0
  let look := t + (24 + off) * cclkTicks
  match r.path with
  | .cmac =>
    if !s.cmacV2 p look then some (kissOr en 48 .cryp Reg.SRV_NTP_DROP_AUTH)
    else if !s.cmacV3 p look then some (kissOr en 128 .cryp Reg.SRV_NTP_DROP_AUTH)
    else none
  | .nts =>
    match parseNts p with
    | none => none
    | some q => match s.ntsV2 q.cookie r.sIn with
      | none => some (kissOr en 48 .ntsn Reg.SRV_NTP_DROP_AUTH)
      | some (m, _) => match openCookie m q.cookie with
        | none => some (kissOr en 248 .ntsn Reg.SRV_NTP_DROP_AUTH)
        | some (c2s, _) => if ntsAuthOk c2s p q then none else some (.drop 408 Reg.SRV_NTP_DROP_AUTH)
  | .ptpAuth => match s.ptpV2 p look with
    | none => some (.drop 48 Reg.SRV_PTP_DROP_AUTH)
    | some i => if s.ptpV3 p i look then none else some (.drop 120 Reg.SRV_PTP_DROP_AUTH)
  | _ => none

/-- R101–R104, R174, R180, R186, R204, R236: what a request comes to; a parse fault decides before V1. -/
def State.judge (s : State) (r : Req) (v1 : Verdict) (t : Nat) : Outcome :=
  let en := ruleKiss (s.regsOf r.gen) r.rule
  let auth := (s.authFault r en t).getD .reply
  match s.parseFault r with
  | some c => .drop 32 c
  | none => match v1 with
    | .drop c => .drop 32 c
    | .kissDeny => kissOr en 32 .deny Reg.SRV_NTP_DROP_POLICY
    | .kissRstr => kissOr en 32 .rstr Reg.SRV_NTP_DROP_POLICY
    | .kissRate =>
      if r.path = .plain then kissOr en 32 .rate Reg.SRV_NTP_DROP_POLICY
      else if en then auth else .drop 32 Reg.SRV_NTP_DROP_POLICY
    | .accept => auth

/-! ## Composition -/

/-- R198, R237: the addressing of the reply to a request, from the service address that received it. -/
def State.replyHead (s : State) (r : Req) : FrameHead :=
  let f := r.frame
  let c := s.gv r.gen Reg.SRV_NTP_CTRL
  let ptp := r.path = .ptp ∨ r.path = .ptpAuth
  let multi := ptp ∧ s.profile r.gen r.port ≠ 3
  let l2 := f.kind = .ptpL2
  { l2 := l2, v6 := f.kind = .udp6
    dstMac := if multi ∧ l2 then f.dstMac else f.srcMac
    src := if multi then Config.serviceAddr r.port 0 (f.kind = .udp6) else f.dst
    dst := if multi ∧ !l2 then f.dst else f.src
    sport := if ptp then 320 else f.dport
    dport := if multi then 320 else f.sport
    svcAddr := f.svcAddr.getD 0, tagged := f.vlans = 1, tci := f.tci
    dscp := fld c 8 6, hop := fld c 16 8 }

/-- What the cell keeps of an NTS request: the S2C key, the new cookie fields, and the nonce of the reply's
authenticator. -/
structure NtsOut where
  s2c : List Byte := []
  cookies : List Byte := []
  nonce : List Byte := []
  deriving DecidableEq, Repr

/-- R163, R178–R180, R184, R186, R191, R237: the bytes of the reply to `r` with transmit time `T`. The key of an
AES-CMAC or Annex P reply is the one that the lookup issued at tick `look` found. -/
def State.composeReply (s : State) (r : Req) (T : Nat) (kiss : Option (Kiss × Bool)) (nts : NtsOut)
    (look : Nat) : List Byte :=
  let p := r.frame.payload
  let h := s.ntpHeader r T (kiss.map (·.1))
  let uid := match parseNts p with
    | some q => uidFieldOf q.uid
    | none => []
  match r.path with
  | .cmac => match kiss with
    | some (.cryp, _) => h ++ [0, 0, 0, 0]
    | some (_, false) => h
    | _ => h ++ slice p 48 4 ++
        aesCmac (key128 ((s.symKey (cmacKeyId p)).seenAt look).key) h
  | .nts => match kiss with
    | some (.ntsn, _) => h ++ uid
    | some (_, false) => h
    | _ => h ++ uid ++ ntsAuthField nts.s2c h uid nts.nonce nts.cookies
  | .ptp => s.delayResp r false
  | .ptpAuth => match s.ptpV2 p look, authTlv (p.take 70) 44 with
    | some i, some (spp, kid) => withIcv ((s.annexKey i).seenAt look).key spp kid (s.delayResp r true)
    | _, _ => s.delayResp r true
  | _ => h

/-! ## Retirement -/

/-- R112, R230: a Sync that will not be sent: counted, with EV177 at most once per millisecond. -/
def State.syncDrop (s : State) : State := (s.bump Reg.SRV_PTP_SYNC_DROP).raiseLim 177 0 msTicks

/-- R113: the neighbours of a cluster in the order E, S, W, N. -/
def neighbours (k : Nat) : List Nat :=
  let r := k / 8
  let c := k % 8
  [8 * r + (c + 1) % 8, if r = 0 then 24 + (c + 4) % 8 else 8 * (r - 1) + c, 8 * r + (c + 7) % 8,
    if r = 3 then (c + 4) % 8 else 8 * (r + 1) + c]

/-- The clusters within `d` hops of those of a list. -/
def within : Nat → List Nat → List Nat
  | 0, l => l
  | d + 1, l => within d ((l ++ l.flatMap neighbours).eraseDups)

/-- R130: the cluster that takes over the hash values of a retired one. -/
def State.successor (s : State) (k : Nat) : Option Nat :=
  match (neighbours k).find? (fun j => !(s.clu j).retired) with
  | some j => some j
  | none => (List.range 8).findSome? (fun d =>
      (List.range 32).find? (fun j => (within (d + 1) [k]).contains j && !(s.clu j).retired))

/-- R129: what a retired cell held is dropped and counted; a frame that it was recomposing does not reach a
scheduler. -/
def State.dropBusy (s : State) (k c : Nat) : State :=
  match (s.clu k).busy c with
  | none => s
  | some b =>
    if b.job ≠ .expired ∧ b.committed ∧ !(match b.job with | .ret _ _ => decide (s.time.now < b.freeAt) | _ => false)
    then s.setBusy k c none
    else
      let s := s.setBusy k c none
      match b.job with
      | .req r _ => (if b.kiss.isSome then s else s.freeSlots k r).bump (Reg.CEL_DROP_RETIRE k)
      | .ret id _ => ((List.range 8).foldl (fun s n => s.updCal n (fun q => { q with
          handoff := q.handoff.filter (fun h => h.f.id != id) })) s).bump (Reg.CEL_DROP_RETIRE k)
      | .sync _ => s.bump (Reg.CEL_DROP_RETIRE k)
      | .expired => s

/-- CLUSTER_RETIRE (R130, R508): the queues are emptied and counted, the cluster's carafes discarded, and the
remap of its hash values begins. -/
def State.retireCluster (s : State) (k : Nat) : State :=
  let cl := s.clu k
  if cl.retired then s
  else
    let s := (List.range 16).foldl (fun s c => s.dropBusy k c) s
    let s := s.bump (Reg.CEL_DROP_RETIRE k) (cl.queue.length + cl.prio.length + cl.returning.length)
    let s := cl.queue.foldl (fun s r => s.freeCredit r) s
    let s := s.updClu k (fun cl => { cl with
      retired := true, queue := [], prio := [], areas := [], returning := [], hot := false, dwellFrom := none
      enq := [] })
    let s := (s.carafeIntr k).orBits Reg.FLT_RETIRED_CLU (bitMask k)
    let s := { s with cls := { s.cls with rebinds := s.cls.rebinds ++ [(⟨k, s.time.now⟩ : Rebind)] } }
    s.alarmSync

/-- CELL_RETIRE (R129): the cell's request is dropped and counted, its bit in CELLS_ON clears and EV139 is
raised. No new frame takes a slot of its area, which those in it leave as they are freed (`ClusterSt.room`). A cluster that loses its last cell is retired. -/
def State.retireCell (s : State) (k c : Nat) : State :=
  if !(s.clu k).cellsOn.testBit c then s
  else
    let s := (s.dropBusy k c).updClu k (fun cl => { cl with cellsOn := cl.cellsOn - 2 ^ c })
    let s := s.raise 139
    if (s.clu k).cellsOn = 0 then s.retireCluster k else s

/-- CELL_HANG (R507): the request of a cell has not ended by its occupancy plus 64 CCLK: the cell is retired
with EV147. -/
def execCellHang (k : Fin 32) (c : Fin 16) (s : State) : Res :=
  match (s.clu k).busy c with
  | none => .next s
  | some b =>
    if b.committed || b.job = .expired then .next s
    else .next (((s.advTo (b.freeAt + 64 * cclkTicks)).retireCell k c).raise 147)

/-- CLUSTER_STALL (R508): a cluster with an eligible entry and a cell in service has dispatched nothing for
CLU_WDT µs, on a 1 µs tick: it is retired with EV148. -/
def execClusterStall (k : Fin 32) (s : State) : Res :=
  let cl := s.clu k
  if cl.retired || !cl.queue.any (·.eligible) || !(List.range 16).any (s.cellOn k) then .next s
  else
    let due := usTicks * ceilDiv (cl.lastDispatch + usTicks * fld (s.ac Reg.FLT_POLICY) 0 8) usTicks
    .next (((s.advTo due).retireCluster k).raise 148)

/-- PARTITION_REBIND_DONE (R508): the queues, the transfers and the bucket tags of the retired cluster are done
with: CLS_HOME_MAP is rewritten to its successor and EV134 is raised. -/
def execPartitionRebindDone (k : Fin 32) (s : State) : Res :=
  match s.cls.rebinds.find? (fun r => r.cluster == k.val) with
  | none => .next s
  | some r =>
    let s := s.advTo (r.since + (1000 + 16384 + 8) * cclkTicks)
    let map := match s.successor k with
      | some j => s.cls.homeMap.map (fun x => if x = k.val then j else x)
      | none => s.cls.homeMap
    .next (({ s with cls := { s.cls with
      homeMap := map, rebinds := s.cls.rebinds.filter (fun q => q.cluster != k.val) } } : State).raise 134)

end Sys2Proof.Machine
end

