-- ==== Sys2Proof/Machine/Pipeline.lean ====
section
/-!
DEFINITION. What the cells and clusters do: dispatch, squash, commit and recomposition (R100–R111, R145),
stealing (R113–R117), the hot-cluster detector and spray mode (R119–R123), and reseeds (R95, R96).
-/

namespace Sys2Proof.Machine

/-! ## Hand-off -/

/-- R106, R145: a frame enters the departure hand-off and reaches its calendar 40 CCLK after tick `t`. -/
def State.handOff (s : State) (t : Nat) (f : CFrame) : State :=
  s.updCal f.port (fun q => { q with handoff := q.handoff ++ [⟨t + 40 * cclkTicks, f⟩] })

/-- R152: a committed frame whose origin precedes a step edge is discarded: counted in DEP_DROP_STEP, and a
request in TSC_STEP_SQUASH. -/
def State.dropStep (s : State) (f : CFrame) : State :=
  let s := s.bump (Reg.DEP_DROP_STEP f.port)
  if f.internal then s.syncDrop else s.bump Reg.TSC_STEP_SQUASH

/-- R224, R232: the addressing of a Sync of port `n`: multicast, or to the client of a grant. -/
def State.syncHead (s : State) (g n : Nat) (grant : Option Nat) : FrameHead :=
  let c := s.gv g Reg.SRV_NTP_CTRL
  let tr := fld (s.gv g (Reg.SRV_PTP_PCFG n)) 2 2
  let base : FrameHead := { l2 := false, v6 := false, dstMac := 0, src := 0, dst := 0, sport := 319, dport := 319
                            svcAddr := 0, tagged := false, tci := 0, dscp := fld c 8 6, hop := fld c 16 8 }
  match grant with
  | some i =>
    let e := (s.grant i).cur
    { base.toward n e.v6 e.addr with tagged := e.tagged, tci := e.tci }
  | none =>
    if s.profile g n = 2 ∨ tr = 0 then
      { base with l2 := true, dstMac := if s.profile g n = 2 && s.nonFwd g n then 0x0180C200000E else 0x011B19000000 }
    else if tr = 2 then base.toward n true 0xFF0E0000000000000000000000000181#128
    else base.toward n false 0xFFFFE0000181#128

/-! ## Dispatch -/

/-- R126: two lookups of the entry of one address and epoch in one partition. -/
def Lookup.same (a b : Lookup) : Bool := a.part == b.part && a.addr == b.addr && a.epoch == b.epoch

/-- The lookup of a request in the present cycle, with its verdict. -/
def State.lookupOf (s : State) (r : Req) (v : Verdict) : Lookup :=
  ⟨s.time.now, r.hash % 32, r.frame.src, r.epoch, r.sIn, r.path, r.gen, r.id, v⟩

/-- R126: a lookup that finds the four places of its partition taken in this cycle is held to the next one; one of an entry that was
looked up in this cycle is combined with that lookup and takes no place. An untracked request has no entry. -/
def State.lookupPlace (s : State) (r : Req) : State :=
  let x := s.lookupOf r .accept
  let here := s.clt.lookups.filter (fun y => y.tick == s.time.now && y.part == x.part)
  if here.any x.same && (s.cltFind r.frame.src r.hash (decide (r.epoch % 2 = 1))).isSome then s.bump Reg.CLT_COMBINED
  else if 4 ≤ (here.foldl (fun l y => if l.any y.same then l else y :: l) ([] : List Lookup)).length then
    s.advTo (s.cclkAfter 1)
  else s

/-- R104, R178: a request of path `p` whose V1 is `v` composes an authenticated RATE kiss. -/
def State.authKiss (s : State) (r : Req) (v : Verdict) : Bool :=
  v = .kissRate && r.path ≠ .plain && ruleKiss (s.regsOf r.gen) r.rule

/-- R126: request `id` has the verdict `v`, in the cell that took it or in the transfer that carries it; an authenticated kiss takes
8 CCLK more than a reply (R104). -/
def State.setV1 (s : State) (id : Nat) (v : Verdict) : State :=
  let busy (b : Busy) : Busy := match b.job with
    | .req r _ =>
      if r.id ≠ id then b
      else
        let add := if s.authKiss r v then 8 * cclkTicks else 0
        let had := if b.mark.isSome then 8 * cclkTicks else 0
        { b with job := .req r v, mark := if s.authKiss r v then some .rate else none
                 commitAt := b.commitAt + add - had, freeAt := b.freeAt + add - had }
    | _ => b
  (List.range 32).foldl (fun s k => s.updClu k (fun cl => { cl with
    cells := cl.cells.map (fun p => (p.1, p.2.map busy))
    inbound := cl.inbound.map (fun t => if t.req.id = id then { t with req := { t.req with v1 := some v } } else t) })) s

/-- A lookup placed among others in the order of ingress stamps. -/
def insertLookup (x : Lookup) : List Lookup → List Lookup
  | [] => [x]
  | y :: l => if x.sIn < y.sIn then x :: y :: l else y :: insertLookup x l

/-- R126: the verdicts of the lookups of one entry in this cycle, by service and generation, in ingress-stamp order: what the lookup
`x`, the last applied, comes to, with the others given what falls to them. -/
def State.orderV1 (s : State) (x : Lookup) : Verdict × State :=
  let mine (y : Lookup) : Bool := y.tick == s.time.now && x.same y && y.path == x.path && y.gen == x.gen
  let was := s.clt.lookups.filter mine
  let vs := was.map (·.v1) ++ [x.v1]
  let now := ((insertLookup x was).zip vs).map (fun p => { p.1 with v1 := p.2 })
  let s := now.foldl (fun s y => if was.any (fun z => z.id == y.id && z.v1 != y.v1) then s.setV1 y.id y.v1 else s) s
  let s := { s with clt := { s.clt with
    lookups := s.clt.lookups.filter (fun y => y.tick == s.time.now && !mine y) ++ now } }
  (match now.find? (fun y => y.id == x.id) with
    | some y => y.v1
    | none => x.v1, s)

/-- R101, R105, R126: the V1 lookup of a request is issued, once. -/
def State.issueV1 (s : State) (r : Req) : Verdict × State :=
  let (v, s) := ((s.lookupPlace r).flow 0x21).lookupV1 r
  s.orderV1 (s.lookupOf r v)

/-- R162, R166: the stratum served changes with a request under the present time view. -/
def State.noteServed (s : State) (r : Req) : State :=
  if r.path.isNtp && s.srv.views.head?.map (·.2) = some r.view then s.noteStratum (s.stratum r.gen r.view) else s

/-- R109: an entry that can meet no tier occupies its cell for 8 CCLK, a sprayed one for 20 (R123),
counted with EV133; one stamped before a step edge is a request squashed by the step as well (R26). -/
def State.expire (s : State) (k c : Nat) (r : Req) : State :=
  let b : Busy := { job := .expired, start := s.time.now, path := r.path, tier := 0, T := 0, t0 := 0
                    commitAt := 0, freeAt := s.time.now + (if r.sprayed then 20 else 8) * cclkTicks }
  let s := (s.setBusy k c (some b)).freeSlots k r
  let s := if r.id < s.cls.stepId then s.bump Reg.TSC_STEP_SQUASH else s
  (s.bump (Reg.CEL_DROP_EXPIRED k)).raiseLim 133 k msTicks

/-- R100, R109: cell `c` of cluster `k` takes request `r`, whose V1 is known or issued now. -/
def State.dispatchReq (s : State) (k c : Nat) (r : Req) : State :=
  let s := (s.updClu k (fun cl => { cl with queue := cl.queue.erase r })).watch k
  if r.sprayed && s.cls.rebinds.any (fun b => b.cluster == r.hash % 32) then
    (s.freeSlots k r).bump (Reg.CEL_DROP_RETIRE k)
  else
    let (v1, s) := match r.v1 with
      | some v => (v, s)
      | none => s.issueV1 r
    let s := ((s.bump (Reg.CEL_DISPATCHED k)).flow 1).updClu k (fun cl => { cl with lastDispatch := s.time.now })
    let s := s.noteServed r
    let kiss := s.authKiss r v1
    let cp := pathCommit r.path + r.extra
    let add := if kiss then 8 else 0
    let t0 := s.t0Of r
    let tier := if r.path = .roughtime then some (0, 0) else s.tierFor r.port r.gen cp r.asymTx t0 0
    match tier with
    | none => s.expire k c r
    | some (i, T) =>
      let s := if i = 0 then s else s.bump (Reg.CEL_LATE_DISP k (i - 1))
      s.setBusy k c (some { job := .req r v1, start := s.time.now, path := r.path, tier := i, T := T, t0 := t0
                            mark := if kiss then some .rate else none
                            commitAt := s.time.now + (cp + add) * cclkTicks
                            freeAt := s.time.now + (pathOccupancy r.path + r.extra + add) * cclkTicks })

/-- R112: cell `c` of cluster `k` takes an internal Sync item; it is not tested for a tier at dispatch. -/
def State.dispatchSync (s : State) (k c : Nat) (i : SyncItem) : State :=
  let p : Path := if s.ptpAuth i.gen i.port then .syncAuth else .sync
  let s := ((s.bump (Reg.CEL_DISPATCHED k)).flow 1).updClu k (fun cl => { cl with lastDispatch := s.time.now })
  s.setBusy k c (some { job := .sync i, start := s.time.now, path := p, tier := 0, T := i.T, t0 := i.T
                        commitAt := s.time.now + pathCommit p * cclkTicks
                        freeAt := s.time.now + pathOccupancy p * cclkTicks })

/-- KEY_CHANGE_DROP (R182, R247): the counter of a returned frame whose key changed since its lookup. -/
def State.keyChanged (s : State) (f : CFrame) : Option Nat :=
  match f.path with
  | .cmac => match f.kiss with
    | some (_, false) => none
    | _ => if (s.symKey f.key).changedSince f.v2At then some Reg.SRV_NTP_DROP_KEYCHG else none
  | .ptpAuth => if (s.annexKey f.key).changedSince f.v2At then some Reg.SRV_PTP_DROP_KEYCHG else none
  | _ => none

/-- R111, R145, R188, R231: the bytes of a returned frame with its later time `T`, recomposed in cell `g`;
nothing when a Sync finds no transmit key. -/
def State.recomposeBytes (s : State) (f : CFrame) (T cell : Nat) : Option (List Byte) × State :=
  match f.req with
  | some r =>
    if f.path = .ptp then (some f.bytes, s)
    else
      let (nonce, s) := if f.path = .nts && !(match f.kiss with | some (_, false) => true | _ => false) then
        s.replyNonce cell else ([], s)
      (some (s.composeReply r T f.kiss ⟨f.s2c, f.cookies, nonce⟩ f.v2At), s)
  | none => (s.signed f.gen f.port s.time.now (s.syncMsg f.gen f.port T f.seq (f.path == .syncAuth)), s)

/-- RECOMPOSE's meaning on the frame `f` at the head of the priority queue of cluster `k`, in cell `c`
(R145, R146, R152, R154, R182). A frame dropped at its recomposition occupies the cell for 8 CCLK. -/
def State.recompose (s : State) (k c : Nat) (f : CFrame) : State :=
  let now := s.time.now
  let s := ((s.bump (Reg.CEL_RECOMPOSE k)).flow 5).updClu k (fun cl => { cl with lastDispatch := now })
  let hold (s : State) (n : Nat) := s.setBusy k c (some
    { job := .ret f.id f.gen, start := now, path := f.path, tier := f.tier, T := f.T, t0 := f.t0
      committed := true, commitAt := now + n * cclkTicks, freeAt := now + n * cclkTicks })
  let sync (s : State) := if f.internal then s.syncDrop else s
  if f.id < s.cls.stepId then hold (s.dropStep f) 8
  else if !s.isUp f.port then hold (s.bump (Reg.PRT_DROP_LINK f.port)) 8
  else if f.internal && s.ptpStopped f.port then hold s 8
  else match s.keyChanged f with
    | some a => hold (s.bump a) 8
    | none =>
      let y := pathRecompose f.path
      match s.tierFor f.port f.gen y f.asymTx f.t0 (f.tier + 1) with
      | none => hold (sync ((s.bump (Reg.DEP_DROP_TIER f.port)).raiseLim 141 f.port msTicks)) 8
      | some (i, T) =>
        match s.recomposeBytes f T (16 * k + c) with
        | (none, s) => hold s.syncDrop y
        | (some b, s) => (hold s y).handOff (now + y * cclkTicks) { f with tier := i, T := T, bytes := b, cell := c }

/-- R100: the oldest eligible entry of a queue, by ingress stamp. -/
def oldest (q : List Req) : Option Req :=
  (q.filter (·.eligible)).foldl (fun b r => match b with
    | some x => if r.sIn < x.sIn then some r else b
    | none => some r) none

/-- R100: the next CCLK edge's dispatch in cluster `k`. A fatal fault and retirement stop it (R514, R130). -/
def State.dispatch (s : State) (k : Nat) : State :=
  let s := s.advTo (s.cclkAfter 0)
  if s.evt.fatal || (s.clu k).retired then s
  else match s.freeCell k with
    | none => s
    | some c =>
      match (s.clu k).prio with
      | .sync i :: r => (s.updClu k (fun cl => { cl with prio := r })).dispatchSync k c i
      | .ret f :: r => (s.updClu k (fun cl => { cl with prio := r })).recompose k c f
      | [] => match oldest (s.clu k).queue with
        | some r => s.dispatchReq k c r
        | none => s

/-- CELL_DISPATCH (R100): a free cell of cluster `k` takes the oldest entry of the priority queue, or else the
oldest eligible entry of the cluster queue. -/
def execCellDispatch (k : Fin 32) (s : State) : Res := .next (s.dispatch k)

/-- RECOMPOSE (R145): a free cell of cluster `k` takes the returned frame at the head of its priority queue and
recomposes it for the smallest tier that passes, or drops it. -/
def execRecompose (k : Fin 32) (s : State) : Res :=
  match (s.clu k).prio with
  | .ret _ :: _ => .next (s.dispatch k)
  | _ => .next s

/-! ## Squash and commit -/

/-- R106: the tick of a dispatched request's cycle `n`, 12 CCLK later when it was sprayed (R123). -/
def Busy.cycle (b : Busy) (r : Req) (n : Nat) : Nat := b.start + (n + if r.sprayed then 12 else 0) * cclkTicks

/-- R104, R105: a squash is counted, with the counter of its cause, and its slots are freed. -/
def State.squashed (s : State) (k : Nat) (r : Req) : State :=
  ((s.bump (Reg.CEL_SQUASH k)).flow 3).freeSlots k r

/-- CELL_SQUASH (R104): the verdict on the request in cell `c` of cluster `k` calls for no reply or for an
unauthenticated kiss: the cell finishes the squash 8 CCLK later and is free, or composes the kiss, which
commits at s + 80 (R178). -/
def execCellSquash (k : Fin 32) (c : Fin 16) (s : State) : Res :=
  match (s.clu k).busy c with
  | some b =>
    if b.committed || b.kiss.isSome then .next s
    else match b.job with
      | .req r v1 =>
        match s.judge r v1 b.start with
        | .reply => .next s
        | .drop n a =>
          let s := (s.advTo (b.cycle r (n + 8))).squashed k r
          let s := (s.bump a).setBusy k c none
          .next (if a = Reg.SRV_PTP_DROP_AUTH then s.raiseLim 181 0 sTicks else s)
        | .kiss n code =>
          let s := (s.advTo (b.cycle r (n + 8))).squashed k r
          .next (s.setBusy k c (some { b with
            kiss := some code, commitAt := b.cycle r (n + 80), freeAt := b.cycle r (n + 112) }))
      | _ => .next s
  | none => .next s

/-- R105, R184, R187, R188: what a committing NTS reply carries: its S2C key, its new cookies under the master
key current at S_in, and the nonce of its authenticator; a kiss carries no cookie (R191). -/
def State.ntsParts (s : State) (r : Req) (cell : Nat) (cookies : Bool) : NtsOut × State :=
  match parseNts r.frame.payload with
  | none => ({}, s)
  | some q => match s.ntsV2 q.cookie r.sIn with
    | none => ({}, s)
    | some (m, old) => match openCookie m q.cookie with
      | none => ({}, s)
      | some (c2s, s2c) =>
        let s := if old then s.bump Reg.SRV_NTS_OLDKEY else s
        let (nonce, s) := s.replyNonce cell
        match cookies, (s.srv.nts.setAt r.sIn).head? with
        | true, some (some cur) =>
          let n := 1 + q.holders
          let (cnt, s) := s.cookieCount cell n
          ({ s2c := s2c, nonce := nonce
             cookies := cookieFields cur s.srv.nts.noncePrefix cell cnt c2s s2c n }, s.bump Reg.SRV_NTS_COOKIES n)
        | _, _ => ({ s2c := s2c, nonce := nonce }, s)

/-- The counter of a committed reply or kiss (R106, R178). -/
def replyCounter (p : Path) (k : Option Kiss) : Nat :=
  match k with
  | some c => c.counter
  | none => match p with
    | .plain => Reg.SRV_NTP_ANS_PLAIN | .cmac => Reg.SRV_NTP_ANS_CMAC | .nts => Reg.SRV_NTP_ANS_NTS
    | _ => Reg.SRV_PTP_DRESP

/-- R205: the leaf record of a Roughtime request. -/
def leafOf (r : Req) : Leaf :=
  let f := r.frame
  { hash := BitVec.ofNat 256 (ofBe (leafHash ((rtNonce f.payload).getD []))), addr := f.src, mac := f.srcMac
    cport := f.sport, port := r.port, v6 := f.kind = .udp6, tagged := f.vlans = 1, saddr := f.svcAddr.getD 0
    tci := f.tci, stamp := r.sIn }

/-- R106: the commit of the request in cell `c` of cluster `k`: its reply passes to the hand-off, or its leaf
joins the carafe. -/
def State.commitReq (s : State) (k c : Nat) (b : Busy) (r : Req) : State :=
  let free (s : State) := if b.kiss.isSome then s else s.freeSlots k r
  let s := free (s.setBusy k c (some { b with committed := true }))
  if r.id < s.cls.stepId then s.bump Reg.TSC_STEP_SQUASH
  else if r.path = .roughtime then (s.flow 2).leafAdd k (leafOf r)
  else
    let cell := 16 * k + c
    let look := b.start + (24 + if r.sprayed then 12 else 0) * cclkTicks
    let kiss : Option (Kiss × Bool) := match b.kiss with
      | some x => some (x, false)
      | none => b.mark.map (fun x => (x, true))
    let (nts, s) := if r.path = .nts && b.kiss.isNone then s.ntsParts r cell b.mark.isNone else ({}, s)
    let bytes := s.composeReply r b.T kiss nts look
    let head := s.replyHead r
    let key := match r.path with
      | .cmac => cmacKeyId r.frame.payload
      | .ptpAuth => (s.ptpV2 r.frame.payload look).getD 0
      | _ => 0
    let f : CFrame := { id := r.id, port := r.port, path := r.path, T := b.T, t0 := b.t0, tier := b.tier
                        len := head.len bytes.length, origin := r.sIn, gen := r.gen, cluster := k, cell := c
                        internal := false, kiss := kiss, asymTx := r.asymTx, key := key, v2At := look
                        s2c := nts.s2c, cookies := nts.cookies, seq := 0, grant := none, req := some r
                        head := head, bytes := bytes }
    ((s.bump (replyCounter r.path (kiss.map (·.1)))).flow 2).handOff b.commitAt f

/-- R106, R228, R230, R248: the commit of the Sync item in cell `c` of cluster `k`. -/
def State.commitSync (s : State) (k c : Nat) (b : Busy) (i : SyncItem) : State :=
  let s := s.setBusy k c (some { b with committed := true })
  let auth := b.path = .syncAuth
  let head := s.syncHead i.gen i.port i.grant
  let f : CFrame := { id := i.id, port := i.port, path := b.path, T := b.T, t0 := b.t0, tier := b.tier, len := 0
                      origin := i.origin, gen := i.gen, cluster := k, cell := c, internal := true, kiss := none
                      asymTx := valueAt (s.port i.port).asymTx s.nowSt, key := 0, v2At := b.start, s2c := []
                      cookies := [], seq := i.seq, grant := i.grant, req := none, head := head, bytes := [] }
  if i.id < s.cls.stepId then s.dropStep f
  else if s.ptpStopped i.port then s
  else match s.signed i.gen i.port b.start (s.syncMsg i.gen i.port b.T i.seq auth) with
    | none => s.syncDrop
    | some m => ((s.bump Reg.SRV_PTP_SYNC_SENT).flow 2).handOff b.commitAt
        { f with bytes := m, len := head.len m.length }

/-- CELL_COMMIT (R106): the work in cell `c` of cluster `k` reaches its commit point: the finished reply passes
to the departure hand-off and the post-commit work is done. Work stamped before a step edge is discarded
(R108). DESIGN CHOICE (log entry 54): an authenticated RATE kiss, for which R104 squashes the stages after the merge, is no
squash of the request and is not counted in CEL_SQUASH (R105). -/
def execCellCommit (k : Fin 32) (c : Fin 16) (s : State) : Res :=
  match (s.clu k).busy c with
  | some b =>
    if b.committed then .next s
    else match b.job with
      | .req r v1 =>
        if b.kiss.isNone && s.judge r v1 b.start ≠ .reply then .next s
        else .next ((s.advTo b.commitAt).commitReq k c b r)
      | .sync i => .next ((s.advTo b.commitAt).commitSync k c b i)
      | _ => .next s
  | none => .next s

/-! ## Returned frames -/

/-- R111, R112: an entry joins the priority queue of cluster `k`; when it is full the entry is dropped, counted
with EV138, and a Sync under R230. -/
def State.prioPush (s : State) (k : Nat) (p : Prio) : State :=
  let internal := match p with
    | .sync _ => true
    | .ret f => f.internal
  if (s.clu k).retired then s.bump (Reg.CEL_DROP_RETIRE k)
  else if 16 ≤ (s.clu k).prio.length then
    let s := (s.bump (Reg.CEL_DROP_PRIO k)).raise 138
    if internal then s.syncDrop else s
  else s.updClu k (fun cl => { cl with prio := cl.prio ++ [p] })

/-- FRAME_RETURN (R145): the oldest frame on its way back to cluster `k` reaches its priority queue, 24 CCLK
after it reached the calendar. -/
def execFrameReturn (k : Fin 32) (s : State) : Res :=
  match (s.clu k).returning with
  | [] => .next s
  | h :: r => .next (((s.advTo h.at_).updClu k (fun cl => { cl with returning := r })).prioPush k (.ret h.f))

/-! ## Stealing -/

/-- The link between cluster `k` and its neighbour `d` (0 E, 1 S, 2 W, 3 N) is disabled (R509). -/
def State.linkOff (s : State) (k d : Nat) : Bool := (s.clu k).linkOff.testBit d

/-- R115: the hop limit of a path in the active set. -/
def State.hopLimit (s : State) (p : Path) : Nat := fld (s.ac Reg.CLS_STEAL_HOPS) (2 * p.hopIdx) 2

/-- R99, R115, R209: entry `r` may go to cluster `j`: its frame has arrived with a good FCS, so that no lookup takes place for a bad
one. -/
def State.mayGive (s : State) (j : Nat) (r : Req) : Bool :=
  let ticks := (if r.hops = 0 then 24 else 48) * cclkTicks
  let s' := { s with time := { s.time with now := s.time.now + ticks, dt := s.time.dt + ticks / tbTicks * s.time.inc } }
  r.eligible && decide (r.hops < s.hopLimit r.path) && decide (r.frame.len ≤ 1152) && j != r.home &&
    (if r.path = .roughtime then decide ((s.openCarafe j).lastClose ≤ r.sIn)
     else s'.meets r.port r.gen (pathCommit r.path + r.extra) r.asymTx (s.t0Of r))

/-- STEAL_GRANT (R115): the neighbour `k` gives up to BATCH of its youngest entries to cluster `j`; at home their
V1 lookup is issued as they leave. The slots of an entry's first cluster stay taken until its second hop or its end (R116).
DESIGN CHOICE (log entry 55): an entry that may not be given is passed over and the next older one is looked at. -/
def State.give (s : State) (k j : Nat) : Nat → List Req → State
  | 0, _ => s
  | _, [] => s
  | n + 1, r :: rest =>
    if (s.clu k).queue.length < fld (s.ac Reg.CLS_STEAL) 8 8 then s
    else if !s.mayGive j r then s.give k j (n + 1) rest
    else
      let issued := s.issueV1 r
      let atHome := r.v1.isNone && k == r.home
      let v1 := if atHome then some issued.1 else r.v1
      let s := if atHome then issued.2 else s
      let s := s.updClu k (fun cl => { cl with queue := cl.queue.erase r })
      let s := if r.credit.isSome then s.updClu k (·.release r.places) else s
      let s := (s.watch k).bump (Reg.CEL_STOLEN_OUT k)
      let credit := if r.credit.isSome then r.credit else some (k, r.places)
      let moved : Req := { r with v1 := v1, hops := r.hops + 1, places := [], credit := credit }
      let t : Transfer := { at_ := s.cclkAfter (if r.hops = 0 then 24 else 48), giver := k, req := moved }
      (s.updClu j (fun cl => { cl with inbound := cl.inbound ++ [t] })).give k j n rest

/-- R114: the tick of the next steal request of cluster `k` and the neighbour it asks, while it sends any: requests stand 8 CCLK apart and
ask the neighbours in turn. -/
def State.nextAsk (s : State) (k : Nat) : Option (Nat × Nat) :=
  let cl := s.clu k
  if !bitAt (s.ac Reg.CLS_CTRL) 0 || cl.retired || cl.cellsOn = 0 then none
  else cl.stealAt.map (fun t =>
    let n := ceilDiv (s.time.now - t) (8 * cclkTicks)
    (t + 8 * cclkTicks * n, (cl.askNext + n) % 4))

/-- R115: cluster `j` has an entry that it may give to its neighbour in direction `d` now. -/
def State.canGive (s : State) (j d : Nat) : Bool :=
  let k := (neighbours j).getD d 0
  !(s.clu j).retired && !(s.clu k).retired && !s.linkOff j d &&
    decide (fld (s.ac Reg.CLS_STEAL) 8 8 ≤ (s.clu j).queue.length) && (s.clu j).queue.any (s.mayGive k)

/-- R117: cluster `j`, which grants one request in a CCLK cycle, grants now that of its neighbour in direction `d`: it has granted none in
this cycle, and no neighbour before that one in its turn asks in the same cycle for an entry it can have. -/
def State.grantsNow (s : State) (j d : Nat) : Bool :=
  let cl := s.clu j
  let turn := ((List.range 4).map (fun i => (cl.lastGiven + 1 + i) % 4)).takeWhile (· != d)
  cl.grantedAt != some s.time.now && s.canGive j d &&
    turn.all (fun i => s.nextAsk ((neighbours j).getD i 0) != some (s.time.now, (i + 2) % 4) || !s.canGive j i)

/-- STEAL_REQUEST (R114): cluster `k`, whose queue is below LOW_WATER, asks its next neighbour for entries, once every 8 CCLK, in
the order E, S, W, N from the one after the neighbour that granted last; the neighbour grants under R115 and R117. A request to a
neighbour `d` whose turn it is not is none. -/
def execStealRequest (k : Fin 32) (d : Fin 4) (s : State) : Res :=
  match s.nextAsk k with
  | none => .next s
  | some (t, e) =>
    if e ≠ d.val then .next s
    else
      let s := s.advTo t
      let j := (neighbours k).getD e 0
      let grants := s.grantsNow j ((e + 2) % 4)
      let s := s.updClu k (fun cl => { cl with stealAt := cl.stealAt.map (fun _ => t + 8 * cclkTicks), askNext := (e + 1) % 4 })
      if !grants then .next s
      else
        let s := s.give j k (fld (s.ac Reg.CLS_STEAL) 16 3) (s.clu j).queue.reverse
        let s := s.updClu k (fun cl => { cl with lastGrantBy := e })
        .next (s.updClu j (fun cl => { cl with lastGiven := (e + 2) % 4, grantedAt := some t }))

/-- LINK_FAULT (R509): a transfer fault on the link between cluster `k` and its neighbour `d`; four within 1 s
disable it with EV149. -/
def State.linkFault (s : State) (k d : Nat) : State :=
  let j := (neighbours k).getD d 0
  let keep := (s.clu k).linkFaults.filter (fun p => decide (s.time.now < p.2 + sTicks))
  let faults := (d, s.time.now) :: keep
  let s := s.updClu k (fun cl => { cl with linkFaults := faults })
  let keepJ := (s.clu j).linkFaults.filter (fun p => decide (s.time.now < p.2 + sTicks))
  let faultsJ := ((d + 2) % 4, s.time.now) :: keepJ
  let s := s.updClu j (fun cl => { cl with linkFaults := faultsJ })
  if 4 ≤ (faults.filter (fun p => p.1 == d)).length && !s.linkOff k d then
    let s := s.updClu k (fun cl => { cl with linkOff := cl.linkOff + 2 ^ d })
    let s := s.updClu j (fun cl => { cl with linkOff := cl.linkOff ||| 2 ^ ((d + 2) % 4) })
    let n := fld (s.rd Reg.FLT_RETIRED_PKE) 8 8
    (s.wr Reg.FLT_RETIRED_PKE (putFld (s.rd Reg.FLT_RETIRED_PKE) 8 8 (n + 1))).raise 149
  else s

/-- STEAL_ARRIVE (R116): the oldest entry in transfer to cluster `k` arrives and joins the tail of its queue, for which it needs an entry
and slots (R98); a second hop returns its frame-store credit. When the transfer fails ECC the entry is dropped and counted in
CEL_DROP_RETIRE of its giver (R117). -/
def execStealArrive (k : Fin 32) (eccOk : Bool) (s : State) : Res :=
  match (s.clu k).inbound with
  | [] => .next s
  | t :: rest =>
    let s := (s.advTo t.at_).updClu k (fun cl => { cl with inbound := rest })
    if !eccOk then
      .next (((s.freeCredit t.req).bump (Reg.CEL_DROP_RETIRE t.giver)).linkFault k ((neighbours k).idxOf t.giver))
    else if (s.clu k).retired then .next ((s.freeCredit t.req).bump (Reg.CEL_DROP_RETIRE k))
    else
      let s := if 2 ≤ t.req.hops then s.freeCredit t.req else s
      let r := if 2 ≤ t.req.hops then { t.req with credit := none } else t.req
      if !(s.clu k).canTake r.slots then .next ((s.freeCredit r).dropFull k)
      else
        let a := if r.hops ≤ 1 then Reg.CEL_STOLEN_IN1 k else Reg.CEL_STOLEN_IN2 k
        .next (((s.bump a).flow 4).enqueue k r true)

/-! ## Hot clusters and spray mode -/

/-- SPRAY_ENTER (R120): a port enters spray mode automatically. DESIGN CHOICE (log entry 56): a port that SPRAY_FORCE holds in spray mode
enters it automatically as well, with EV129 and CLS_SPRAY_ENTRIES. -/
def State.sprayEnter (s : State) (n : Nat) : State :=
  if s.cls.sprayAuto.testBit n then s
  else
    let s := { s with cls := { s.cls with
      sprayAuto := s.cls.sprayAuto + 2 ^ n
      sprayFrom := tset (fun _ => 0) s.cls.sprayFrom n s.cclk
      quiet := tset (fun _ => 0) s.cls.quiet n 0 } }
    (s.bump Reg.CLS_SPRAY_ENTRIES).raise 129

/-- HOT_TRIP (R119): the dwell count of cluster `k` reaches TRIP_TIME: HOT is set with EV128, and the ports that
feed the cluster enter spray mode at the next CCLK edge (R120). -/
def execHotTrip (k : Fin 32) (s : State) : Res :=
  match (s.clu k).dwellFrom with
  | none => .next s
  | some t =>
    if (s.clu k).hot then .next s
    else
      let s := s.advTo (cclkCeil (max s.time.now (t + usTicks * fld (s.ac Reg.CLS_HOT_TRIP) 16 16)))
      let s := s.updClu k (fun cl => { cl with hot := true })
      let s := ({ s with cls := { s.cls with lastHot := k.val } } : State).raise 128
      let enq := (s.clu k).enq
      let total := (enq.map (·.2)).sum
      let share := fld (s.ac Reg.CLS_SPRAY_SHARE) 0 4
      let feeds := (List.range 8).filter (fun n =>
        let c := tget (fun _ => 0) enq n
        decide (0 < c) && decide (total ≤ c * 2 ^ share))
      .next (if bitAt (s.ac Reg.CLS_CTRL) 1 && feeds ≠ [] then feeds.foldl State.sprayEnter (s.advTo s.cclkNext) else s)

/-- SPRAY_INTERVAL_END (R122): an interval of 10,000 CCLK of the grid from recipe load ends. A port that
entered spray mode automatically returns to homing with EV130 after EXIT_TIME whole intervals in which no
cluster's count exceeded EXIT_COUNT. -/
def execSprayIntervalEnd (s : State) : Res :=
  let from_ := s.cls.loadAt
  let i := (s.time.now / cclkTicks - from_ / cclkTicks) / 10000
  let s := s.advTo (from_ + (i + 1) * 10000 * cclkTicks)
  let x := s.ac Reg.CLS_SPRAY_EXIT
  let loud := (List.range 32).any (fun k => decide (fld x 0 16 < (s.clu k).homed))
  let start := (from_ + i * 10000 * cclkTicks) / cclkTicks
  let s := (List.range 8).foldl (fun s n =>
    if !s.cls.sprayAuto.testBit n || start ≤ tget (fun _ => 0) s.cls.sprayFrom n then s
    else
      let q := if loud then 0 else tget (fun _ => 0) s.cls.quiet n + 1
      if fld x 16 16 ≤ q then
        ({ s with cls := { s.cls with sprayAuto := s.cls.sprayAuto - 2 ^ n } } : State).raise 130
      else { s with cls := { s.cls with quiet := tset (fun _ => 0) s.cls.quiet n q } }) s
  .next ((List.range 32).foldl (fun s k => s.updClu k (fun cl => { cl with homed := 0 })) s)

/-! ## Reseeds -/

/-- RESEED (R95): a new seed applies to requests stamped at or after stamp `t`; the old-epoch entries stay valid
for 64 µs. A reseed that CLS_RESEED.REQ has asked for since stays pending. -/
def State.reseed (s : State) (t : Nat) : State :=
  let (d, s) := s.draw
  let s := { s with cls := { s.cls with
    seed := d.truncate 128, oldSeed := s.cls.seed, epoch := s.cls.epoch + 1, reseedStamp := t
    reseedAt := s.time.now, oldValid := true, sweeping := false, pending := s.cls.req
    deferred := false } }
  s.raise 135

/-- R96: the sweep of the last reseed has not completed. -/
def State.sweepDue (s : State) : Bool := s.cls.oldValid || s.cls.sweeping

/-- R95, R96: a reseed falls due at stamp `t`: it applies, or is deferred while a sweep is outstanding. -/
def State.reseedDue (s : State) (t : Nat) : State :=
  if s.sweepDue then { s with cls := { s.cls with deferred := true, pending := true } }
  else s.reseed t

/-- RESEED_REQUEST (R95): CLS_RESEED.REQ asks for a new seed at the next commit. -/
def execReseedRequest (s : State) : Res :=
  .next { s with cls := { s.cls with req := true, pending := true } }

/-- EPOCH_SWEEP_START (R96): 64 µs after the reseed the old-epoch entries lose their validity and the sweep
starts. -/
def execEpochSweepStart (s : State) : Res :=
  if !s.cls.oldValid then .next s
  else
    let s := s.advTo (s.cls.reseedAt + 64 * usTicks)
    .next { s with cls := { s.cls with oldValid := false, sweeping := true } }

/-- EPOCH_SWEEP_DONE (R96): within 8,192 CCLK the sweep has invalidated every old-epoch entry; a deferred
reseed applies from the first CCLK edge after it, which is at most 64 µs + 8,192 CCLK after the last one. -/
def execEpochSweepDone (s : State) : Res :=
  if !s.cls.sweeping then .next s
  else
    let s := s.advTo (s.cls.reseedAt + 64 * usTicks + 8191 * cclkTicks)
    let cur := decide (s.cls.epoch % 2 = 1)
    let s := { s with
      cls := { s.cls with sweeping := false }
      clt := { s.clt with entries := s.clt.entries.filter (fun p => match p.2 with
        | some e => e.epoch == cur
        | none => false) } }
    if s.cls.deferred then
      let s := s.advTo s.cclkNext
      .next (s.reseed (ceilDiv s.nowG 1000))
    else .next s

end Sys2Proof.Machine
end

