-- ==== Sys2Proof/Machine/Departure.lean ====
section
/-!
DEFINITION. Committed departure: the emission grid, the bound on D, the calendars, the best-effort queues and
their reservations (R133–R157).
-/

namespace Sys2Proof.Machine

/-- Two wire intervals overlap. -/
def Span.meets (a b : Span) : Bool := decide (a.lo < b.hi) && decide (b.lo < a.hi)

/-- Duration of one byte of port `n`, in units of 2⁻¹⁶ ns ÷ 1000. -/
def State.byteOf (s : State) (n : Nat) : Int := (byteG (s.mode n) : Nat)

/-- R141: the wire interval of a frame of `len` bytes after the SFD whose first bit after the SFD crosses at `T`. -/
def State.spanOf (s : State) (n : Nat) (T : Int) (len : Nat) : Span :=
  ⟨T - 8 * s.byteOf n, T + (len + 12 : Nat) * s.byteOf n⟩

/-! ## The emission grid -/

/-- R76, R356, R357: the transmit clock of port `n` against the oscillator, in units of 10⁻¹²: the oscillator itself, or the DPLL that
PRT_SYNCE_TX(n).SRC names, directly or through an APLL. -/
def State.txOffset (s : State) (n : Nat) : Int :=
  let src := fld (s.ac (Reg.PRT_SYNCE_TX n)) 0 3
  let x := if src ≤ 3 then src else fld (s.ac (Reg.CLK_APLL_CFG (src - 4))) 1 2
  let dt := roundDiv (s.time.freq * 1000000000000) (2 ^ 48)
  if x = 0 then 0
  else match (s.dpllx (x - 1)).state with
    | .disabled | .freeRun | .dtTrack => dt
    | .locked => (s.dpllx (x - 1)).freqs.headD dt
    | .holdover => (s.dpllx (x - 1)).held

/-- R76, R133: the grid step of port `n` in DT, at the rate of its transmit clock, in units of 2⁻¹⁶ ns ÷ 1000. -/
def State.gridStepNow (s : State) (n : Nat) : Nat :=
  (roundDiv (gridStepOf (s.mode n) * (2 ^ 48 + s.time.freq) * 1000000000000) (2 ^ 48 * (1000000000000 + (s.txOffset n)).toNat)).toNat

/-- R134: what a grid point measured at `phase` is off the predicted one nearest to it, in units of 2⁻¹⁶ ns ÷ 1000. -/
def PortSt.gridResidual (p : PortSt) (phase : Nat) : Nat :=
  let g : Int := max 1 p.gridStep
  (((phase : Int) - p.gridPhase + g / 2) % g - g / 2).natAbs

/-- R134: DT of a grid point that the egress TSU finds `off` after the TBCLK edge `back` edges before the latest one, in units of
2⁻¹⁶ ns ÷ 1000. -/
def State.gridPoint (s : State) (back off : Nat) : Nat := (s.time.dt - back * s.time.inc) * 1000 / stUnit + off

/-- GRID_MEASURE (R134): every 256 CCLK the egress TSU of port `n` measures the phase of the grid against TBCLK: a block boundary
lies `off`, in units of 2⁻¹⁶ ns ÷ 1000, after the TBCLK edge `back` edges ago. One that an alignment marker has `displaced` is no
grid point (R133) and measures nothing. A residual against the prediction above 20 ps clears GRID_LOCK with EV145; so does,
without the event, `jump`: a change of frequency of the source PLL that outruns the tracker, which clears it. Sixteen
measurements in a row within 5 ps set it. The points are extrapolated from this one at the rate of the transmit clock. -/
def execGridMeasure (n : Fin 8) (back off : Nat) (displaced jump : Bool) (s : State) : Res :=
  if !s.isUp n then .next s
  else
    let s := s.advTo (max (s.cclkAfter 0) (s.port n).gridAt)
    let next := s.time.now + 256 * cclkTicks
    let phase := s.gridPoint back off
    let residual := (s.port n).gridResidual phase
    let good := if 5 * 65536 < residual || jump then 0 else min 16 ((s.port n).gridGood + 1)
    let lock := if 20 * 65536 < residual || jump then false else (s.port n).gridLock || good == 16
    let step := max 1 (s.gridStepNow n)
    if displaced then .next (s.updPort n (fun p => { p with gridAt := next }))
    else
      let s := s.updPort n (fun p => { p with
        gridPhase := phase, gridStep := step, gridGood := good, gridLock := lock, gridAt := next })
      .next (if 20 * 65536 < residual then s.raise 145 else s)

/-! ## The bound on D -/

/-- R138, R139: the shortest request of a service after the SFD, over IPv4 without a VLAN tag. -/
def shortest (svc : Nat) (auth : Bool) : Nat :=
  match svc with
  | 0 => 94 | 1 => 114 | 2 => 274 | _ => if auth then 116 else 90

/-- R139: D of service `svc` of port `n` is below its bound with H = 0 and W = 0; all terms in ps. -/
def State.dBelow (s : State) (n svc : Nat) : Bool :=
  let mode := s.mode n
  let now := s.nowSt + 1
  let auth := s.ptpAuth s.cfg.gen n
  let lIn : Int := (ingressCclk mode (s.fec n) * 1000 : Nat) + valueAt (s.port n).asymRx now
  let frame : Int := ((shortest svc auth * 8000 / modeRate mode + 8000 : Nat) : Int)
  let c := match svc with
    | 0 => pathCommit .plain | 1 => pathCommit .cmac | 2 => pathCommit .nts
    | _ => if auth then pathCommit .ptpAuth else pathCommit .ptp
  let c := if s.spraying n then c + 12 else c
  let lRel : Int := (releaseNs mode (s.fec n) * 1000 : Nat) + valueAt (s.port n).asymTx now
  let g := fld (s.ac Reg.CLS_DISP_GUARD) 0 8
  decide (((dIn s.active n svc * 1000 : Nat) : Int) < max lIn frame + ((c + 40 + g) * 1000 : Nat) + lRel)

/-- D_SHORT_EVAL (R139): the bound is evaluated at a commit for each service of each port that has a mode;
each service that falls short raises EV143. -/
def State.dShortEval (s : State) : State :=
  (List.range 8).foldl (fun s n =>
    let bits := if s.mode n = 0 then 0 else
      ((List.range 4).map (fun i => bn (s.dBelow n i) i)).sum
    let s := s.updPort n (fun p => { p with dShort := bits })
    (List.range (ones (BitVec.ofNat 32 bits) 4)).foldl (fun s _ => s.raise 143) s) s

/-! ## The calendar -/

/-- R140: the slots that a frame needs. -/
def calSlots (len : Nat) : Nat := ceilDiv len 128

/-- R140, R144: the slots in use, those of a frame until the end of its release. -/
def State.calOcc (s : State) (n : Nat) : Nat :=
  let c := s.cal n
  (c.frames.map (·.slots)).sum +
    ((c.pouring.filter (fun p => decide ((s.nowG : Int) < p.1))).map (fun p => p.2.1)).sum

/-- What is past on the wire of port `n` is forgotten. -/
def State.wirePrune (s : State) (n : Nat) : State :=
  let g : Int := (s.nowG : Nat)
  let s := s.updCal n (fun c => { c with
    pouring := c.pouring.filter (fun p => decide (g < p.1) || decide (g < p.2.2.hi)) })
  s.updPort n (fun p => { p with beWire := p.beWire.filter (fun w => decide (g < w.hi)) })

/-- The wire intervals of the admitted committed frames of port `n` (R141, R144). -/
def State.committedWire (s : State) (n : Nat) : List Span :=
  (s.cal n).frames.map (·.span) ++ (s.cal n).pouring.map (fun p => p.2.2)

/-- The wire intervals of released best-effort frames and of the reservation (R150, R151). -/
def State.bestWire (s : State) (n : Nat) : List Span := (s.port n).beWire ++ ((s.port n).reserved.map (·.2)).toList

/-- R142, R145, R146: a frame is returned to the cluster that composed it, or dropped when it has reached tier
4. -/
def State.calReturn (s : State) (f : CFrame) (counter : Nat) : State :=
  let s := s.bump counter
  if 4 ≤ f.tier then
    let s := (s.bump (Reg.DEP_DROP_TIER f.port)).raiseLim 141 f.port msTicks
    if f.internal then s.syncDrop else s
  else
    s.updClu f.cluster (fun cl => { cl with returning := cl.returning ++ [⟨s.time.now + 24 * cclkTicks, f⟩] })

/-- R142: what becomes of a frame that reaches its calendar now. -/
def State.admitFrame (s : State) (f : CFrame) : State :=
  let n := f.port
  let f := if f.internal then { f with asymTx := valueAt (s.port n).asymTx s.nowSt } else f
  let T : Int := (f.T * 1000 : Nat)
  let tRel := T - s.lRelG n f.asymTx
  let span := s.spanOf n T f.len
  let need := calSlots f.len
  if !s.isUp n then s.bump (Reg.PRT_DROP_LINK n)
  else if 65536 * (nsG : Int) < T - s.nowG then s.bump (Reg.DEP_DROP_HORIZON n)
  else if tRel - 2 * (nsG : Int) < s.nowG then s.calReturn f (Reg.DEP_RET_LATE n)
  else if (s.committedWire n).any span.meets then s.calReturn f (Reg.DEP_RET_BUSY n)
  else if (s.bestWire n).any span.meets then s.calReturn f (Reg.DEP_RET_BE n)
  else if 2048 < s.calOcc n + need then (s.raiseLim 142 n msTicks).calReturn f (Reg.DEP_RET_FULL n)
  else
    let s := s.updCal n (fun c => { c with frames := c.frames ++ [⟨f, tRel, span, need⟩] })
    s.keepMax (Reg.DEP_CAL_MAX n) (s.calOcc n)

/-- R143: `a` is taken before `b`. -/
def CFrame.before (a b : CFrame) : Bool :=
  decide (a.T < b.T) || (a.T == b.T && ((a.internal && !b.internal) ||
    (a.internal == b.internal && decide (16 * a.cluster + a.cell ≤ 16 * b.cluster + b.cell))))

/-- A frame placed among others in the order of R143. -/
def insertFrame (f : CFrame) : List CFrame → List CFrame
  | [] => [f]
  | g :: r => if f.before g then f :: g :: r else g :: insertFrame f r

/-- CALENDAR_ARRIVAL (R142, R143): the committed frames that reach the calendar of port `n` at the next such
edge are admitted, returned or dropped, in ascending order of T. -/
def execCalendarArrival (n : Fin 8) (s : State) : Res :=
  match (s.cal n).handoff with
  | [] => .next s
  | x :: r =>
    let at_ := (r.map (·.at_)).foldl min x.at_
    let s := s.advTo at_
    let due := ((s.cal n).handoff.filter (fun y => decide (y.at_ ≤ at_))).map (·.f)
    let s := s.updCal n (fun c => { c with handoff := c.handoff.filter (fun y => decide (at_ < y.at_)) })
    .next ((due.foldr insertFrame []).foldl State.admitFrame (s.wirePrune n))

/-- R231, R248: the Follow_Up of a two-step Sync is built at its pour and handed to class 2 of the port's
best-effort queue 16 CCLK later, 80 with Annex P; without its transmit key it is dropped under R230. -/
def State.followUp (s : State) (f : CFrame) : State :=
  if f.internal && s.twoStep f.gen f.port && !s.ptpStopped f.port then
    let auth := s.ptpAuth f.gen f.port
    match s.signed f.gen f.port s.time.now (s.followUpMsg f.gen f.port f.T f.seq auth) with
    | none => s.syncDrop
    | some m =>
      let head := { f.head with sport := 320, dport := 320 }
      (s.bump Reg.SRV_PTP_FU_SENT).bePush f.port .followUp (head.len m.length) m (some head)
        (if auth then 80 else 16)
  else s

/-- R61: the egress stamp of a frame of port `n` that crosses the plane at `g` of DT, in units of 2⁻¹⁶ ns ÷ 1000, as the egress TSU
captures it. -/
def State.stampOut (s : State) (n : Nat) (asymTx g : Int) : Int :=
  (s.port n).egressStamp asymTx (s.egressCapture n asymTx g)

/-- R65: the egress stamp of a committed frame is off its T by `dev` (in units of 2⁻¹⁶ ns). -/
def State.departureCheck (s : State) (n : Nat) (dev : Int) : State :=
  if (s.port n).depTol * 25 * 65536 < dev.natAbs * 1000 then (s.bump (Reg.PRT_DEP_DEV n)).portEvt n 7 else s

/-- The admitted frame that is released first. -/
def firstOut (l : List Admitted) : Option Admitted :=
  l.foldl (fun b a => match b with
    | some x => if a.tRel < x.tRel then some a else b
    | none => some a) none

/-- FRAME_POUR (R144, R147): the scheduler releases the next admitted frame of port `n` at its t_rel, so that
its first bit after the SFD crosses the plane at T. `dev` is by how much it in fact crosses later, in units of 2⁻¹⁶ ns: what
the egress TSU captures and R65 judges. -/
def execFramePour (n : Fin 8) (dev : Int) (s : State) : Res :=
  match firstOut (s.cal n).frames with
  | none => .next s
  | some a =>
    let f := a.f
    let s := s.advTo (s.tickAtG a.tRel)
    let endG := a.tRel + (f.len : Nat) * s.byteOf n
    let s := (s.updCal n (fun c => { c with
      frames := c.frames.erase a, pouring := c.pouring ++ [(endG, a.slots, a.span)] })).wirePrune n
    let s := ((s.emit (.frame n f.T f.tier f.head (f.head.checksum f.bytes) f.bytes)).flow 6).flow (0x10 + n)
    let s := (s.bump (Reg.DEP_SENT n)).bump (Reg.PRT_TX_FRAMES n)
    let s := if f.tier = 0 then s
      else (s.bump (Reg.DEP_TIER n (f.tier - 1))).raiseLim 140 n msTicks
    let sOut := s.stampOut n f.asymTx (((f.T : Int) + dev) * 1000)
    .next ((s.departureCheck n (sOut - f.T)).followUp f)

/-! ## Best-effort frames -/

/-- R149: `a` is served before `b`: its class is better, or it is the same and `a` reached the queue first. -/
def BeFrame.before (a b : BeFrame) : Bool :=
  decide (a.kind.cls < b.kind.cls) || (a.kind.cls == b.kind.cls && decide (a.since < b.since))

/-- R149: the head of the best-effort queue: of the frames that have reached it, the first to arrive of the best class. -/
def beHead (now : Nat) (q : List BeFrame) : Option BeFrame :=
  (q.filter (fun f => decide (f.since ≤ now))).foldl (fun b f => match b with
    | some x => if f.before x then some f else b
    | none => some f) none

/-- The wire interval of best-effort frame `f` released at tick `t` (R150). -/
def State.beSpan (s : State) (n : Nat) (f : BeFrame) (t : Nat) : Span :=
  s.spanOf n (s.gAt t + s.lRelG n f.asymTx) f.len

/-- The first CCLK edge at which the wire interval of `f` begins at or after `lo`. -/
def State.beEdge (s : State) (n : Nat) (f : BeFrame) (lo : Int) : Nat :=
  let t := ceilDiv (s.tickAtG (lo - s.lRelG n f.asymTx + 8 * s.byteOf n)) cclkTicks * cclkTicks
  if (s.beSpan n f t).lo < lo then t + cclkTicks else t

/-- R150: the first CCLK edge from `t` at which `f` overlaps no interval of `w`. -/
def State.beClear (s : State) (n : Nat) (f : BeFrame) (w : List Span) : Nat → Nat → Nat
  | 0, t => t
  | k + 1, t =>
    match w.find? (s.beSpan n f t).meets with
    | some x => s.beClear n f w k (max (t + cclkTicks) (s.beEdge n f x.hi))
    | none => t

/-- R83: the stamp of a released best-effort frame goes to the one that asked for it. -/
def State.beStamp (s : State) (n : Nat) (f : BeFrame) (sOut : Nat) : State :=
  match f.kind with
  | .host tag ts =>
    let s := s.htxDone n
    if ts then s.tsqPush n tag false sOut else s
  | .delayReq i seq => s.updClient i (fun c => match c.dreq with
    | some (q, _) => if q = seq then { c with dreq := some (q, some sOut) } else c
    | none => c)
  | _ => s

/-- R150, R151: the best-effort frame that port `n` releases next and the CCLK edge at which it does: the head, at the first edge at which
its wire interval overlaps no admitted frame, no released frame and no reservation; or the frame that holds the reservation,
in it, when it is the head or the head would have to wait longer. -/
def State.beNext (s : State) (n : Nat) : Option (BeFrame × Nat) :=
  (beHead s.time.now (s.port n).be).map (fun f =>
    let w := s.committedWire n ++ s.bestWire n
    let t := s.beClear n f w (w.length + 1) (s.cclkAfter 0)
    match (s.port n).reserved with
    | some (x, r) => if x = f || s.beEdge n x r.lo ≤ t then (x, s.beEdge n x r.lo) else (f, t)
    | none => (f, t))

/-- BE_RELEASE (R150): the next best-effort frame of port `n` is released; it then holds the wire, and a reservation that was its own
ends. `dev` is by how much it crosses the plane later than scheduled, in units of 2⁻¹⁶ ns. -/
def execBeRelease (n : Fin 8) (dev : Int) (s : State) : Res :=
  let s' := s.wirePrune n
  match s'.beNext n with
  | none => .next s
  | some (f, t) =>
    let s := s'.advTo t
    let span := s.beSpan n f s.time.now
    let s := s.updPort n (fun p => { p with
      be := p.be.erase f, beWire := p.beWire ++ [span]
      reserved := if p.reserved.any (fun r => r.1 == f) then none else p.reserved })
    let s := ((s.emit (.best n s.time.now f.head ((f.head.map (·.checksum f.bytes)).getD 0) f.bytes)).flow 7).flow (0x10 + n)
    let s := (s.bump (Reg.DEP_BE_SENT n)).bump (Reg.PRT_TX_FRAMES n)
    let s := s.keepMax (Reg.DEP_BE_WAIT_MAX n) ((s.time.now - f.since) / cclkTicks)
    .next (s.beStamp n f (s.stampOut n f.asymTx (s.gAt s.time.now + s.lRelG n f.asymTx + dev * 1000)).toNat)

/-- BE_RESERVE (R151): the head best-effort frame of port `n` has waited BE_MAX_WAIT: a wire interval is
reserved for it from the first grid point after the end of the last committed frame admitted so far. DESIGN CHOICE (log
entry 49): the reservation also starts after the best-effort frames already released, which hold the wire, and not before
the earliest interval that a release now could have; R151 names the committed frames alone. -/
def execBeReserve (n : Fin 8) (s : State) : Res :=
  let c := s.ac (Reg.DEP_BE_CTRL n)
  match beHead s.time.now (s.port n).be with
  | none => .next s
  | some f =>
    if !bitAt c 16 || (s.port n).reserved.isSome then .next s
    else
      let s := (s.advTo (f.since + usTicks * fld c 0 16)).wirePrune n
      let now := (s.beSpan n f s.time.now).lo
      let last := (s.committedWire n ++ (s.port n).beWire).foldl (fun m w => max m w.hi) now
      let g : Int := (s.gridCeil n (last / 1000 + 1).toNat * 1000 : Nat)
      let span : Span := ⟨g, (s.beSpan n f (s.beEdge n f g)).hi⟩
      .next (((s.updPort n (fun p => { p with reserved := some (f, span) })).bump (Reg.DEP_BE_RESERVE n)).raise 144)

end Sys2Proof.Machine
end

