-- ==== Sys2Proof/Machine/TimeSync.lean ====
section
/-!
DEFINITION. What follows a change of the served time: the time view, the clock quality of PTP (R239), the
cancelling of grants (R242), the events of R162 and R239, and SERVING (R477).
-/

namespace Sys2Proof.Machine

/-! ## Clock quality -/

/-- R239: the clockAccuracy code of a value in ns. -/
def accCode (ns : Nat) : Nat :=
  match [25, 100, 250, 1000, 2500, 10000, 25000, 100000, 250000, 1000000, 2500000, 10000000, 25000000, 100000000,
    250000000, 1000000000, 10000000000].findIdx? (fun b => decide (ns ≤ b)) with
  | some i => 0x20 + i
  | none => 0x31

/-- The quality of R239: clockClass for profile 1 and for profiles 2 and 3, clockAccuracy, offsetScaledLogVariance,
timeSource, timeTraceable and frequencyTraceable. -/
structure Quality where
  cls1 : Nat
  cls2 : Nat
  acc : Nat
  oslv : Nat
  src : Nat
  timeTr : Bool
  freqTr : Bool

/-- R239: timeSource of a reference type. -/
def State.tsrc (s : State) (type : Nat) : Nat :=
  if type < 4 then fld (s.ac Reg.SRV_PTP_TSRC_A) (8 * type) 8 else fld (s.ac Reg.SRV_PTP_TSRC_B) (8 * (type - 4)) 8

/-- R239: the clock quality of a time view. -/
def State.quality (s : State) (v : TimeView) : Quality :=
  let base := fld (s.ac Reg.SRV_PTP_ACC_BASE) 0 24
  let oslv := s.ac Reg.SRV_PTP_OSLV
  match v.ts with
  | .locked => ⟨6, 6, accCode base, fld oslv 0 16, s.tsrc v.type, true, true⟩
  | .hold =>
    if v.eHold ≤ (s.ac Reg.SRV_PTP_HOLD_CLASS_LIMIT).toNat then
      ⟨7, 7, accCode (base + v.eHold), fld oslv 0 16, s.tsrc v.type, true, true⟩
    else
      let c := s.ac Reg.SRV_PTP_OOS_CLASS
      ⟨fld c 0 8, fld c 8 8, accCode (base + v.eHold), fld oslv 16 16, 0xA0, false, true⟩
  | .untraceable => ⟨248, 248, 0xFE, fld oslv 16 16, 0xA0, false, false⟩

/-! ## Grants -/

/-- The grants of entry `i` as the firmware last wrote them. -/
def State.grantLatest (s : State) (i : Nat) : GrantSet :=
  match (s.ptp.grantPend.filter (fun p => p.idx == i)).getLast? with
  | some p => p.new
  | none => (s.grant i).cur

/-- R245: the firmware writes entry `i`; the change takes effect at the eighth CCLK edge. -/
def State.grantWrite (s : State) (i : Nat) (g : GrantSet) (place : Nat) : State :=
  { s with ptp := { s.ptp with grantPend := s.ptp.grantPend ++ [⟨i, s.cclkAfter 8, g, place⟩] } }

/-- A grant of a set by message type: 0xB Announce, 0x0 Sync, 0x9 Delay_Resp; there is none of another type. -/
def GrantSet.get (g : GrantSet) (type : Nat) : Option Grant :=
  if type = 0xB then g.announce else if type = 0 then g.sync else if type = 9 then g.dresp else none

/-- A set with the grant of a message type changed; it is valid while a grant remains (R243). -/
def GrantSet.put (g : GrantSet) (type : Nat) (x : Option Grant) : GrantSet :=
  let g := if type = 0xB then { g with announce := x } else if type = 0 then { g with sync := x }
    else if type = 9 then { g with dresp := x } else g
  { g with valid := g.announce.isSome || g.sync.isSome || g.dresp.isSome }

/-- GRANT_CANCEL_ALL (R242): the firmware cancels every grant with CANCEL_UNICAST_TRANSMISSION. -/
def State.grantCancelAll (s : State) : State :=
  (s.ptp.grants.map (·.1) ++ s.ptp.grantPend.map (·.idx)).eraseDups.foldl (fun s i =>
    let g := s.grantLatest i
    if !g.valid then s
    else
      let types := [0xB, 0x0, 0x9].filter (fun t => (g.get t).isSome)
      let s := types.foldl (fun s t => (s.portSignal g.port g.v6 g.addr (if g.tagged then some g.tci else none) g.portId
        (cancelTlv t)).bump Reg.SRV_PTP_CANCEL) s
      s.grantWrite i {} (s.grant i).place) s

/-- R232: m of a Sync logInterval. -/
def phaseMod (log : Int) : Nat := 128 / 2 ^ (-log).toNat

/-- R234: the load of tick `tau` of port `n` by the grants as last written, without entry `skip`. -/
def State.tickLoad (s : State) (n tau skip : Nat) : Nat :=
  (((s.ptp.grants.map (·.1) ++ s.ptp.grantPend.map (·.idx)).eraseDups).filter (fun i =>
    let g := s.grantLatest i
    i != skip && g.valid && g.port == n && (match g.sync with
      | some x => tau % phaseMod x.log == g.phase
      | none => false))).length

/-- SRV_PTP_PSTAT(n).TICK_MAX (R234). -/
def State.tickMax (s : State) (n : Nat) : Nat :=
  ((List.range 128).map (fun t => s.tickLoad n t 65536)).foldl max 0

/-! ## The change of the served time -/

/-- R477, R535: SERVING becomes 1 in RUNNING once PRETRACE is 1 or the time state is not UNTRACEABLE. -/
def State.servingSync (s : State) : State :=
  if s.boot.stage = .running && !s.serve.serving && (!s.notAnswering s.cfg.gen || s.tstate != .untraceable) then
    ({ s with serve := { s.serve with serving := true, servingAt := s.time.now, openPending := true } } : State).raise 4
  else s

/-- TIME_STATE_CHANGE (R161, R162, R239, R242): the served time may have changed at this instant: a new view
applies from here, the second at which LOCKED is left is kept (R163), and its events are raised. -/
def State.timeStateChange (s : State) : State :=
  let s : State := { s with
    clk := { s.clk with d := { s.clk.d with
      leftSec := if s.srv.lastTs = .locked ∧ s.tstate ≠ .locked then s.sec else s.clk.d.leftSec } }
    srv := { s.srv with mpd := s.selMpd } }
  let v := s.timeView
  let s := if s.srv.views.head?.map (·.2) = some v then s else s.pushView s.nowSt
  let lost := v.ts = .untraceable && s.srv.lastTs != .untraceable
  let s : State := { s with srv := { s.srv with lastTs := v.ts, everAligned := s.srv.everAligned || s.aligned } }
  let s := if lost then s.raise 161 else s
  let s := if lost && s.notAnswering s.cfg.gen then s.grantCancelAll else s
  let s := s.noteStratum (s.stratum s.cfg.gen v)
  let q := s.quality v
  let s := if s.ptp.lastClass = q.cls1 * 256 + q.cls2 then s
    else ({ s with ptp := { s.ptp with lastClass := q.cls1 * 256 + q.cls2 } } : State).raise 176
  s.servingSync

end Sys2Proof.Machine
end

