-- ==== Sys2Proof/Machine/PtpClient.lean ====
section
/-!
DEFINITION. The states of the upstream client instances (R249, R250, R255).
-/

namespace Sys2Proof.Machine

/-- EN of client instance `i` (R259). -/
def State.clEn (s : State) (i : Nat) : Bool := bitAt (s.ac (Reg.SRV_PTP_CL_CFG i)) 0
/-- The port to which instance `i` is bound. -/
def State.clPort (s : State) (i : Nat) : Nat := fld (s.ac (Reg.SRV_PTP_CL_CFG i)) 1 3
/-- PROFILE of instance `i`. -/
def State.clProfile (s : State) (i : Nat) : Nat := fld (s.ac (Reg.SRV_PTP_CL_CFG i)) 4 2
/-- DOMAIN of instance `i`. -/
def State.clDomain (s : State) (i : Nat) : Nat := fld (s.ac (Reg.SRV_PTP_CL_CFG i)) 8 8
/-- AUTH of instance `i`. -/
def State.clAuth (s : State) (i : Nat) : Bool := bitAt (s.ac (Reg.SRV_PTP_CL_CFG i)) 17

/-- R250: a change of port state, with EV182; the selector looks again. -/
def State.clSetPort (s : State) (i : Nat) (p : ClState) : State :=
  if (s.client i).port = p then s
  else
    let s := (s.updClient i (fun c => { c with port := p })).raise 182
    { s with ref := { s.ref with evalDue := true } }

/-- R255: a change of servo state, with EV183. -/
def State.clSetServo (s : State) (i : Nat) (v : Servo) : State :=
  if (s.client i).servo = v then s
  else
    let s := (s.updClient i (fun c => { c with servo := v, lockCount := 0, outliers := 0, stepped := false })).raise 183
    { s with ref := { s.ref with evalDue := true } }

/-- R250, R255: an instance that was ACQUIRE or LOCKED runs free. -/
def State.clFreeRun (s : State) (i : Nat) : State :=
  match (s.client i).servo with
  | .acquire | .locked => s.clSetServo i .freeRun
  | _ => s

/-- The exchange under way is given up. -/
def State.clForget (s : State) (i : Nat) : State :=
  s.updClient i (fun c => { c with syncs := [], pair := none, dreq := none })

/-- R250: the instance collects Announce; on profile 3 it requests them at once (R249). -/
def State.clListen (s : State) (i : Nat) : State :=
  let s := ((s.clFreeRun i).clForget i).updClient i (fun c => { c with
    master := none
    retryAt := if s.clProfile i = 3 then some s.time.now else none, asked := false })
  s.clSetPort i .listening

/-- R250: the bound port is not UP. -/
def State.clFault (s : State) (i : Nat) : State :=
  let s := ((s.clFreeRun i).clForget i).updClient i (fun c => { c with
    master := none, foreigns := [], retryAt := none })
  s.clSetPort i .faulty

/-- R250: port `n` has gone down. -/
def State.clPortDown (s : State) (n : Nat) : State :=
  (List.range 2).foldl (fun s i => if s.clEn i && s.clPort i == n then s.clFault i else s) s

/-- R250: port `n` has come up. -/
def State.clPortUp (s : State) (n : Nat) : State :=
  (List.range 2).foldl (fun s i => if s.clEn i && s.clPort i == n then s.clListen i else s) s

/-- R249, R250: instance `i` after a commit whose set before was `old`: disabled, or started anew when its binding
changed. -/
def State.clCommit (s : State) (old : Tab Word) (i : Nat) : State :=
  let was := tget rwsDef old (Reg.SRV_PTP_CL_CFG i)
  if !s.clEn i then
    (((s.clForget i).updClient i (fun c => { c with
      master := none, foreigns := [], grants := [], retryAt := none, phi := 0, y := 0 })).clSetServo i .none).clSetPort i .disabled
  else if bitAt was 0 && fld was 1 15 = fld (s.ac (Reg.SRV_PTP_CL_CFG i)) 1 15 then s
  else
    let s := s.updClient i (fun c => { c with foreigns := [], grants := [] })
    if s.isUp (s.clPort i) then s.clListen i else s.clFault i

end Sys2Proof.Machine
end

