-- ==== Sys2Proof/Machine/Link.lean ====
section
/-!
DEFINITION. The link of a port: its bring-up with self-calibration, its loss, drift tracking, and the RWL
fields (R66–R73, R154, R487).
-/

namespace Sys2Proof.Machine

/-! ## Loss -/

/-- R71: the requests of port `n` whose frames had not arrived completely: freed and counted in
PRT_DROP_LINK, in whichever queue they are. -/
def State.dropArriving (s : State) (n : Nat) : State :=
  let cut (r : Req) : Bool := r.port == n && !r.eligible && decide (s.time.now + 8 * cclkTicks < r.fcsAt)
  (List.range 32).foldl (fun s k =>
    let gone := (s.clu k).queue.filter cut
    let moving := (s.clu k).inbound.filter (fun t => cut t.req)
    let s := gone.foldl (fun s r => s.unqueue k r) s
    let s := moving.foldl (fun s t => s.freeCredit t.req) s
    let s := s.updClu k (fun cl => { cl with inbound := cl.inbound.filter (fun t => !cut t.req) })
    s.bump (Reg.PRT_DROP_LINK n) (gone.length + moving.length)) s

/-- R71, R154, R515: the calendar and the best-effort queue of port `n` are emptied, the frames counted in `counter`, the
reservation is cancelled, and a frame under release, at the line rate of the configuration set `t`, is truncated and counted. -/
def State.dropLeaving (s : State) (t : Tab Word) (counter n : Nat) : State :=
  let c := s.cal n
  let p := s.port n
  let g : Int := (s.nowG : Nat)
  let cut := (c.pouring.filter (fun x => decide (g < x.1))).length
  let cutBe := (p.beWire.filter (fun w =>
    decide (g + s.lRelIn t n (valueAt p.asymTx s.nowSt) < w.hi - 12 * (byteG (modeIn t n) : Nat)))).length
  let s := s.bump counter (c.frames.length + cut + p.be.length + cutBe)
  let s := s.updCal n (fun c => { c with frames := [], pouring := [] })
  let s := s.updPort n (fun p => { p with be := [], beWire := [], reserved := none })
  p.be.foldl (fun s f => match f.kind with
    | .host tag ts => s.htxDrop n tag ts
    | _ => s) s

/-- R71, R73: port `n`, which ran under the configuration set `t`, goes down: a port that is UP drops what it carries with EV097, and
one under bring-up abandons it. -/
def State.linkDown (s : State) (t : Tab Word) (n : Nat) (byCommit : Bool) : State :=
  match (s.port n).link with
  | .up =>
    let s := (s.dropArriving n).dropLeaving t (Reg.PRT_DROP_LINK n) n
    let s := s.updPort n (fun p => { p with
      link := .down, lastDownMode := byCommit, gridLock := false, gridGood := 0 })
    (s.portEvt n 1).clPortDown n
  | .calRx | .training | .calCheck => s.updPort n (fun p => { p with link := .down })
  | _ => s

/-- CAL_RETRY (R69): a 1 written to PRT_CTRL(n).CAL_RETRY takes the link down under the link-loss rules at the
CCLK edge that accepts it; the port begins R67 again. -/
def State.calRetry (s : State) (n : Nat) : State := s.linkDown s.active n false

/-! ## Bring-up -/

/-- R53, R57: the physical lanes of the mode of port `n` under PRT_LANE_MAP(n). -/
def State.modeMask (s : State) (n : Nat) : Nat :=
  ((List.range (modeLanes (s.mode n))).map (fun i => 2 ^ fld (s.ac (Reg.PRT_LANE_MAP n)) (3 * i) 3)).foldl (· ||| ·) 0

/-- R53: the lanes of port `n` that its mode does not use are powered down; a port without a mode of its own powers none. -/
def State.lanePower (s : State) (n : Nat) : State :=
  let m := if s.mode n = 0 then 0 else s.modeMask n
  s.updPort n (fun p => { p with lanesOn := m, sigDet := p.sigDet &&& m })

/-- SIGNAL_DETECT (R67): the physical lanes of `lanes` that stand under power (R53) detect a signal. When they are all the lanes of
the mode, a port that is DOWN isolates its line inputs and starts the receive sweep. -/
def execSignalDetect (n : Fin 8) (lanes : Fin 256) (s : State) : Res :=
  let s := s.updPort n (fun p => { p with sigDet := lanes.val &&& p.lanesOn })
  let m := s.modeMask n
  .next (if (s.port n).link = .down && m != 0 && lanes.val &&& m == m then
    s.updPort n (fun p => { p with link := .calRx, stepAt := s.time.now })
  else s)

/-- RX_SWEEP_DONE (R67): the receive injection sweep ends after 0.8 ms and training starts. -/
def execRxSweepDone (n : Fin 8) (s : State) : Res :=
  if (s.port n).link = .calRx then
    let s := s.advTo ((s.port n).stepAt + 800 * usTicks)
    .next (s.updPort n (fun p => { p with link := .training, stepAt := s.time.now }))
  else .next s

/-- PCS_LINK_UP (R67): the PCS link status is true and the calibration check starts. -/
def execPcsLinkUp (n : Fin 8) (s : State) : Res :=
  if (s.port n).link = .training then
    .next (s.updPort n (fun p => { p with link := .calCheck, stepAt := s.time.now }))
  else .next s

/-- CAL_RESULT_LOAD (R68): the calibration `c` is loaded, or the nominal values and zero skew when it is not
valid, with EV098. -/
def State.calLoad (s : State) (n : Nat) (c : CalResult) : State :=
  let window := decide (2000 < (c.rx - s.calRxNom n).natAbs) || decide (2000 < (c.tx - s.calTxNom n).natAbs)
  let ok := c.residualOk && !window
  let rx := if ok then c.rx else s.calRxNom n
  let tx := if ok then c.tx else s.calTxNom n
  let s := s.updPort n (fun p => { p with
    calRx := rx, calTx := tx, skew := if ok then c.skews else [], calState := if ok then 1 else 2
    failResidual := !c.residualOk, failWindow := window, trackCount := 0 })
  if ok then s else s.portEvt n 2

/-- R70: a value moves by the measured drift, at most 2 ps. -/
def trackBy (v d : Int) : Int := v + max (-2) (min 2 d)

/-- CAL_TRACK (R70): once per second, while the link is up and BG_TRACK is 1, CAL_RX and CAL_TX follow the
measured drift in ps and SKEW is read again. -/
def execCalTrack (n : Fin 8) (rx tx : Int) (skews : List Int) (s : State) : Res :=
  if s.isUp n && bitAt (s.ac (Reg.PRT_CTRL n)) 4 then
    let s := s.advTo (max (s.cclkAfter 0) (cclkCeil (s.port n).trackAt))
    .next (s.updPort n (fun p => { p with
      calRx := trackBy p.calRx rx, calTx := trackBy p.calTx tx, skew := skews
      trackCount := min 65535 (p.trackCount + 1), trackAt := p.trackAt + sTicks }))
  else .next s

/-! ## RWL fields -/

/-- The values that can still apply to a frame: those of the last millisecond and the one before. -/
def keepVersions (now : Nat) (vs : List Versioned) : List Versioned :=
  let k := vs.takeWhile (fun v => decide (now < v.edge + 1000000 * 65536))
  k ++ (vs.drop k.length).take 1

/-- R66: the RWL field at `a` of port `n` takes `v` at the present edge; a best-effort frame that reaches the scheduler after it uses
it. -/
def State.rwlApply (s : State) (n a : Nat) (v : Word) : State :=
  let e : Versioned := ⟨s.nowSt, sfld v 0 24⟩
  if a = Reg.PRT_ASYM_RX n then s.updPort n (fun p => { p with asymRx := keepVersions s.nowSt (e :: p.asymRx) })
  else if a = Reg.PRT_ASYM_TX n then
    s.updPort n (fun p => { p with
      asymTx := keepVersions s.nowSt (e :: p.asymTx)
      be := p.be.map (fun f => if s.time.now < f.since then { f with asymTx := sfld v 0 24 } else f) })
  else if a = Reg.PRT_DEP_TOL n then s.updPort n (fun p => { p with depTol := fld v 0 8 })
  else s

/-- RWL_EFFECT (R66): the oldest written RWL value takes effect at the eighth CCLK edge after its block accepted
the write (R487). -/
def execRwlEffect (s : State) : Res :=
  match s.rwl with
  | [] => .next s
  | w :: r =>
    let s := s.advTo w.due
    let s := { s with rwl := r }
    .next ((List.range 8).foldl (fun s n => s.rwlApply n w.addr w.val) s)

end Sys2Proof.Machine
end

