-- ==== Sys2Proof/Machine/Keys.lean ====
section
/-!
DEFINITION. The key windows (R181, R201, R247, R294) and the access-rule window (R172, R173, R197).
-/

namespace Sys2Proof.Machine

/-! ## Refusals under the configuration lock -/

/-- R485: a write discarded while the configuration is locked. -/
def State.lockRefused (s : State) : State := (s.bump Reg.CFG_LOCK_REFUSED).raiseLim 3 0 msTicks

/-! ## Symmetric and Annex P key tables -/

/-- What a master's bank holds at reset. -/
def bankDef (_ : Nat) : KeyBank := {}

/-- The bank of master `m` for the Annex P table or the symmetric table. -/
def State.keyBank (s : State) (ptp : Bool) (m : Master) : KeyBank :=
  tget bankDef (if ptp then s.srv.annexBank else s.srv.symBank) m.bank

/-- A master's bank, changed by a function. -/
def State.updKeyBank (s : State) (ptp : Bool) (b : Nat) (f : KeyBank → KeyBank) : State :=
  if ptp then { s with srv := { s.srv with annexBank := tupd bankDef s.srv.annexBank b f } }
  else { s with srv := { s.srv with symBank := tupd bankDef s.srv.symBank b f } }

/-- R294: KEY_PERM permits master `m` to write the table. -/
def State.keyPermit (s : State) (ptp : Bool) (m : Master) : Bool :=
  bitAt (s.ac Reg.KEY_PERM) (m.bank + if ptp then 8 else 0)

/-- The entry that a master's index register names. -/
def State.keyIdx (s : State) (ptp : Bool) (m : Master) : Nat :=
  if ptp then fld (s.rd (bankKey m Reg.KEY_PTP_IDX)) 0 8 else fld (s.rd (bankKey m Reg.KEY_SYM_IDX)) 0 16

/-- The key that a master's staged words spell, byte 0 first. -/
def KeyBank.key (b : KeyBank) (words : Nat) : Nat :=
  ofBe (bytesOf ((List.range words).map (fun i => tget (fun _ => 0) b.staged i)))

/-- What a WRITE of master `m` would install. -/
def State.stagedKey (s : State) (ptp : Bool) (m : Master) : KeyVal :=
  let b := s.keyBank ptp m
  if ptp then
    { en := true, key := BitVec.ofNat 256 (b.key 8), spp := fld (s.rd (bankKey m Reg.KEY_PTP_SPP)) 0 8
      keyId := (s.rd (bankKey m Reg.KEY_PTP_ID)).toNat }
  else { en := true, key := BitVec.ofNat 256 (b.key 4) }

/-- R247: another enabled entry of the Annex P table holds the pair. -/
def State.pairTaken (s : State) (i : Nat) (e : KeyVal) : Bool :=
  s.srv.annex.any (fun p => p.1 != i && p.2.en && p.2.spp == e.spp && p.2.keyId == e.keyId)

/-- KCV of an entry: the first 24 bits of AES-128 of a zero block, or of HMAC-SHA256 of an empty message. -/
def KeyVal.kcv (e : KeyVal) (ptp : Bool) : Nat :=
  ofBe ((if ptp then hmacSha256 e.key [] else aesZero (key128 e.key)).take 3)

/-- An entry of a key table, changed by a function. -/
def State.updKey (s : State) (ptp : Bool) (i : Nat) (f : KeyEntry → KeyEntry) : State :=
  if ptp then s.updAnnexKey i f else s.updSymKey i f

/-- R181: an entry changes to `e` at tick `t`; the changes of the last 10 ms stay for lookups issued before them. -/
def KeyEntry.become (o : KeyEntry) (e : KeyVal) (t : Nat) : KeyEntry :=
  { toKeyVal := e, past := (t, o.toKeyVal) :: o.past.filter (fun p => decide (t < p.1 + 10 * msTicks)) }

/-- R201: the status of an entry is loaded for the master with bank `b`. -/
def State.keyLoad (s : State) (ptp : Bool) (b i : Nat) : State :=
  let e := (if ptp then s.annexKey i else s.symKey i).toKeyVal
  s.updKeyBank ptp b (fun k => { k with en := e.en, kcv := e.kcv ptp })

/-- What a pending key command does at its edge, which is now. -/
def State.keyEffect (s : State) (p : KeyPend) : State :=
  let t := s.time.now
  let s := match p.write with
    | some e => s.updKey p.ptp p.idx (fun o => o.become e t)
    | none => if p.disable then s.updKey p.ptp p.idx (fun o => o.become {} t) else s
  if p.stat then s.keyLoad p.ptp p.master p.idx else s

/-- R181: a pending key command reaches its edge and takes effect. -/
def State.keyFire (s : State) (p : KeyPend) : State :=
  let s := s.advTo p.due
  ({ s with srv := { s.srv with keyPend := s.srv.keyPend.erase p } } : State).keyEffect p

/-- The pending key commands with an edge at or before tick `t` take effect, in the order written. -/
def State.keyDue (s : State) (t : Nat) : State :=
  (s.srv.keyPend.filter (fun p => decide (p.due ≤ t))).foldl State.keyFire s

/-- R201: a command on a key table by master `m`: WRITE, DISABLE and STAT as the bits are set. A refused WRITE or
DISABLE sets REFUSED with EV164; an accepted one wipes the staged words and takes effect at the eighth CCLK
edge. STAT loads at the other command's effect edge, or at once if that was refused, or alone at the next edge, which
the command then reaches. -/
def State.keyCmd (s : State) (ptp : Bool) (m : Master) (write disable stat : Bool) : State :=
  let i := s.keyIdx ptp m
  let e := s.stagedKey ptp m
  if write || disable then
    if (write && disable) || !s.keyPermit ptp m || (ptp && write && s.pairTaken i e) then
      let s := (s.updKeyBank ptp m.bank (fun b => { b with refused := true })).raise 164
      if stat then s.keyLoad ptp m.bank i else s
    else
      let s := s.updKeyBank ptp m.bank (fun b => { b with refused := false, staged := [] })
      let p : KeyPend := { ptp := ptp, idx := i, due := s.cclkAfter 8, master := m.bank
                           write := if write then some e else none, disable := disable, stat := stat }
      { s with srv := { s.srv with keyPend := s.srv.keyPend ++ [p] } }
  else if stat then ((s.keyDue (s.cclkAfter 1)).advTo (s.cclkAfter 1)).keyLoad ptp m.bank i
  else s

/-- SYM_KEY_WRITE (R181): KEY_SYM_CMD.WRITE, with STAT or without. -/
def execSymKeyWrite (m : Master) (stat : Bool) (s : State) : Res := .next (s.keyCmd false m true false stat)

/-- SYM_KEY_DISABLE (R181): KEY_SYM_CMD.DISABLE, with STAT or without. -/
def execSymKeyDisable (m : Master) (stat : Bool) (s : State) : Res := .next (s.keyCmd false m false true stat)

/-- SYM_KEY_STAT (R201): KEY_SYM_CMD.STAT alone loads KEY_SYM_STAT at the next CCLK edge. -/
def execSymKeyStat (m : Master) (s : State) : Res := .next (s.keyCmd false m false false true)

/-- PTP_KEY_WRITE (R247): KEY_PTP_CMD.WRITE, with STAT or without. -/
def execPtpKeyWrite (m : Master) (stat : Bool) (s : State) : Res := .next (s.keyCmd true m true false stat)

/-- PTP_KEY_DISABLE (R247): KEY_PTP_CMD.DISABLE, with STAT or without. -/
def execPtpKeyDisable (m : Master) (stat : Bool) (s : State) : Res := .next (s.keyCmd true m false true stat)

/-- PTP_KEY_STAT (R201): KEY_PTP_CMD.STAT alone loads KEY_PTP_STAT at the next CCLK edge. -/
def execPtpKeyStat (m : Master) (s : State) : Res := .next (s.keyCmd true m false false true)

/-- KEY_TABLE_EFFECT (R181): the pending key command with the earliest edge takes effect. -/
def execKeyTableEffect (s : State) : Res :=
  match s.srv.keyPend with
  | [] => .next s
  | x :: r => .next (s.keyFire (r.foldl (fun b q => if q.due < b.due then q else b) x))

/-! ## The rule window -/

/-- The bits of an entry's words that are not reserved: a rule (R173) or a broadcast entry (R197). -/
def entryMask (idx i : Nat) : Word :=
  if i < 4 then 0xFFFFFFFF
  else if idx < 4096 then (if i = 4 then 0x1F0F0FFF else 0)
  else if i = 4 then 0x0FFFFF3F else if i = 5 then 0xFFFFFFFF else 0

/-- R172, R173, R197: the words of an entry that a WRITE refuses. -/
def entryBad (idx : Nat) (w : List Word) : Bool :=
  let c := w.getD 4 0
  if idx < 4096 then
    decide (128 < fld c 0 8) || fld c 8 2 == 3 || (idx == 0 && (fld c 0 8 != 0 || !bitAt c 11))
  else
    let poll := fld c 8 8
    decide (poll < 4) || decide (17 < poll) || decide (65535 < (w.getD 5 0).toNat)

/-- R172: a refused command of the rule window. -/
def State.ruleRefused (s : State) : State :=
  ({ s with srv := { s.srv with rule := { s.srv.rule with refused := true } } } : State).raise 164

/-- R172: a command of the rule window; it completes at the first CCLK edge after the one that accepts it. DESIGN CHOICE (log
entry 61): a WRITE that the lock discards is no refused command: REFUSED clears and BUSY shows as for any other. -/
def State.ruleCmd (s : State) (read write active : Bool) : State :=
  let idx := fld (s.rd Reg.SRV_RULE_IDX) 0 13
  let busy (s : State) : State := { s with srv := { s.srv with rule := ⟨false, s.cclkAfter 1⟩ } }
  if (read && write) || ((read || write) && decide (4111 < idx)) then s.ruleRefused
  else if read then
    let t := if active then s.active else s.shadow
    busy ((List.range 8).foldl (fun s i => s.wr (Reg.SRV_RULE_DATA i) (tget rwsDef t (ruleKey idx i))) s)
  else if write then
    let w := (List.range 8).map (fun i => s.rd (Reg.SRV_RULE_DATA i) &&& entryMask idx i)
    if s.cfg.locked then busy s.lockRefused
    else if entryBad idx w then s.ruleRefused
    else busy ((List.range 8).foldl (fun s i => s.wrSh (ruleKey idx i) (w.getD i 0)) s)
  else s

/-- RULE_READ (R172): SRV_RULE_CMD.READ copies the entry at SRV_RULE_IDX into SRV_RULE_DATA, from the active
table when ACTIVE is set. -/
def execRuleRead (active : Bool) (s : State) : Res := .next (s.ruleCmd true false active)

/-- RULE_WRITE (R172): SRV_RULE_CMD.WRITE copies SRV_RULE_DATA into the shadow entry at SRV_RULE_IDX, or is
refused. -/
def execRuleWrite (s : State) : Res := .next (s.ruleCmd false true false)

end Sys2Proof.Machine
end

