-- ==== Sys2Proof/Machine/Nts.lean ====
section
/-!
DEFINITION. The NTS master keys (R189, R190), the NTS-KE server (R192–R195) and NTP broadcast (R196).
-/

namespace Sys2Proof.Machine

/-! ## Master keys -/

/-- The NTS part of SRV, changed by a function. -/
def State.updNts (s : State) (f : NtsSt → NtsSt) : State :=
  { s with srv := { s.srv with nts := f s.srv.nts } }

/-- R188, R189: at recipe load the nonce prefix is drawn, the counters are 0, and in internal mode KC draws the
first key and its ID; the first rotation falls SRV_NTS_ROTATE seconds after this edge (R466). -/
def State.ntsLoad (s : State) : State :=
  let (d, s) := s.draw
  let s := s.updNts (fun n => { n with
    noncePrefix := d.toNat % 2 ^ 48, cookieCnt := [], replyCnt := []
    rotateAt := if s.ntsImported then n.rotateAt else s.nowSt + stSec * fld (s.ac Reg.SRV_NTS_ROTATE) 0 20 })
  if s.ntsImported then s
  else
    let (key, s) := s.draw
    let k : MasterKey := ⟨d.toNat / 2 ^ 48 % 2 ^ 32, key, s.sec⟩
    (s.updNts (fun n => { n with cur := some k })).slotSet (s.ringSlot 0) k.slot

/-- NTS_KEY_INSTALL (R189): KC installs the next master key: in internal mode one drawn from the TRNG, with the
next key ID; in imported mode the one of a bundle (R190, R293). -/
def execNtsKeyInstall (bundle : List Byte) (s : State) : Res :=
  if s.taskStopped 4 then .next s
  else if s.ntsImported then .next (s.importBundle bundle true).2
  else
    let n := s.srv.nts
    if n.next.isSome then .next s
    else
      let (key, s) := s.draw
      let id := match n.cur with
        | some k => (k.id + 1) % 2 ^ 32
        | none => key.toNat / 2 ^ 480 % 2 ^ 32
      let k : MasterKey := ⟨id, key, secOf n.rotateAt⟩
      .next (s.ntsNext k k.slot)

/-- R189: the rotation at stamp `t`, a boundary of R29: the roles advance by one. -/
def State.ntsTurn (s : State) (t : Nat) : State :=
  let n := s.srv.nts
  let s := s.updNts (fun n => { n with
    cur := n.next, prev1 := n.cur, prev2 := n.prev1, next := none
    oldCur := n.cur, oldPrev1 := n.prev1, oldPrev2 := n.prev2, retired := n.prev2
    boundary := t, wipeAt := s.time.now + 100 * usTicks, retryAt := none
    rotateAt := if s.ntsImported then 0 else t + stSec * fld (s.ac Reg.SRV_NTS_ROTATE) 0 20 })
  let s : State := { s with pke := { s.pke with ring := (s.pke.ring + 3) % 4 } }
  let s := if n.retired.isSome then s.slotWipe (s.ringSlot 3) else s
  s.raise 166

/-- R189, R190: the next key was installed at least 1 s before stamp `at_`. -/
def NtsSt.ready (n : NtsSt) (at_ : Nat) : Bool := n.next.isSome && decide (n.nextAt + stSec ≤ at_)

/-- NTS_ROTATE (R189): at the rotation time the roles of the master keys advance; the boundary is that time itself, or the present
where DT has already passed it. When the next key is not
installed 1 s before, the rotation waits (R190). -/
def execNtsRotate (s : State) : Res :=
  let at_ := s.srv.nts.rotateAt
  if at_ = 0 || s.srv.nts.retryAt.isSome then .next s
  else
    let t := max at_ s.nowSt
    let s := s.advDt (stUnit * at_)
    .next (if s.srv.nts.ready at_ then s.ntsTurn t else s.updNts (fun n => { n with retryAt := some (t + 60 * stSec) }))

/-- NTS_ROTATE_RETRY (R190): a rotation that waits is tried again every 60 s; without the next key the keys stay
and EV167 is raised. -/
def execNtsRotateRetry (s : State) : Res :=
  match s.srv.nts.retryAt with
  | none => .next s
  | some at_ =>
    let t := max at_ s.nowSt
    let s := s.advDt (stUnit * at_)
    .next (if s.srv.nts.ready at_ then s.ntsTurn t
      else (s.updNts (fun n => { n with retryAt := some (t + 60 * stSec) })).raise 167)

/-- NTS_KEY_WIPE (R189): KC wipes the retired master key 100 µs after the boundary. -/
def execNtsKeyWipe (s : State) : Res :=
  if s.srv.nts.retired.isNone then .next s
  else
    let s := s.advTo s.srv.nts.wipeAt
    let s := s.updNts (fun n => { n with
      retired := none, oldCur := n.cur, oldPrev1 := n.prev1, oldPrev2 := n.prev2 })
    .next (if s.srv.nts.next.isNone then s.slotWipe (s.ringSlot 3) else s)

/-! ## NTS-KE -/

/-- Connections of the NTS-KE server, changed. -/
def State.setConns (s : State) (c : List KeConn) : State := { s with srv := { s.srv with conns := c } }

/-- NTSKE_CONNECT (R195): a TCP SYN to port 4460 from `a`: while the server listens it is accepted by SC2, or by SC3
when `sc3` is set, or the core that has its tasks (R445), or beyond the limits refused with RST and EV168. A core that restarts
answers nothing (R444). -/
def execNtskeConnect (a : BitVec 128) (sc3 : Bool) (s : State) : Res :=
  let c := s.ac Reg.SRV_NTSKE_CTRL
  let half := if sc3 then 3 else 2
  if !bitAt c 12 || !s.srv.keReady || s.taskStopped half then .next s
  else
    let mine := (s.srv.conns.filter (fun k => k.addr == a)).length
    if 16384 ≤ s.srv.conns.length || fld c 8 4 ≤ mine then
      .next (((s.bump Reg.SRV_NTSKE_REFUSED).emit (.tcp a true)).raiseLim 168 0 sTicks)
    else .next (s.setConns (s.srv.conns ++ [⟨a, s.time.now, (s.taskCore half).getD half⟩]))

/-- A record of an NTS-KE request: its type, its critical bit and its body. -/
abbrev KeRecord := Nat × Bool × List Byte

/-- A list of two-byte numbers. -/
def words16 : List Byte → List Nat
  | a :: b :: r => (a.toNat * 256 + b.toNat) :: words16 r
  | _ => []

/-- R193: the error record that a request is answered with, if it is not in order. -/
def keError (rs : List KeRecord) : Option Nat :=
  let lists (t v : Nat) : Bool := rs.any (fun r => r.1 == t && (words16 r.2.2).contains v)
  if rs.any (fun r => r.2.1 && !([0, 1, 4, 5, 6, 7].contains r.1)) then some 0
  else if !lists 1 0 || !lists 4 15 || (match rs.getLast? with | some r => r.1 != 0 | none => true) then some 1
  else none

/-- R193, R194: the response with eight cookies under the current master key `m`, whose counter begins at
`cnt`. -/
def keResponse (server : Option (List Byte)) (m : MasterKey) (pre cnt : Nat) (c2s s2c : List Byte) :
    List (Nat × List Byte) :=
  [(1, beBytes 2 0), (4, beBytes 2 15)] ++
    (List.range 8).map (fun i => (5, sealCookie m (nonceOf pre 0x8000 (cnt + i)) c2s s2c)) ++
    server.toList.map (fun n => (6, n)) ++ [(0, [])]

/-- R192: the scheme of a signature with the key of a slot. -/
def KeySlot.scheme (k : KeySlot) : Option TlsScheme :=
  if k.type = 6 then some .ed25519
  else if k.type = 1 then some .rsaPss
  else if k.type = 3 ∧ k.size = 256 then some .ecdsaP256
  else if k.type = 3 ∧ k.size = 384 then some .ecdsaP384
  else none

/-- R192, R269: the key exchange and the signature of a handshake, as jobs of service core `c` on the engines. -/
def State.handshake (s : State) (c : Nat) (g : TlsGroup) (cert : KeySlot) : State :=
  let x := match g with
    | .x25519 => (0x31, 72000)
    | .secp256r1 => (0x24, 76000)
    | .secp384r1 => (0x24, 160000)
    | .other => (0x31, 72000)
  let sgn : PkeJob := { words := [BitVec.ofNat 32 (if cert.type = 6 then 0x39 else if cert.type = 1 then 0x11 else 0x21),
                          BitVec.ofNat 32 cert.size, 0, 0, 130], by_ := .core c }
  (s.ownJob c x.1 x.2).ownJob c sgn.program (sgn.cycles cert)

/-- R192: the suite and the group that the server takes of a ClientHello, with whether a HelloRetryRequest asked for the group's
key share, or the alert that refuses it. DESIGN CHOICE (log entry 57): the first in the client's order that the server accepts;
PRESUMED (log entry 57): the alert codes of RFC 8446 and RFC 7301. -/
def tlsChoose (h : TlsHello) (sig : Option TlsScheme) : Except Nat (TlsSuite × TlsGroup × Bool) :=
  if !h.tls13 then .error 70
  else if !h.alpn.contains (ascii "ntske/1") then .error 120
  else match h.suites.find? (· != .other), sig with
    | some c, some x =>
      if !h.schemes.contains x then .error 40
      else match h.shares.find? (· != .other) with
        | some g => .ok (c, g, false)
        | none => match h.groups.find? (· != .other) with
          | some g => if h.again.contains g then .ok (c, g, true) else .error 47
          | none => .error 40
    | _, _ => .error 40

/-- R192: the group that a HelloRetryRequest to this ClientHello asks for. -/
def tlsAsk (h : TlsHello) : Option TlsGroup :=
  if h.shares.any (· != .other) then none else h.groups.find? (· != .other)

/-- The hash of a cipher suite, with its block and output lengths. -/
def suiteHash (c : TlsSuite) : (List Byte → List Byte) × Nat × Nat :=
  if c = .aes256Gcm then (sha384, 128, 48) else (sha256, 64, 32)

/-- HKDF-Expand (RFC 5869). -/
def hkdfExpand (c : TlsSuite) (prk info : List Byte) (n : Nat) : List Byte :=
  let (f, block, out) := suiteHash c
  ((List.range (ceilDiv n out)).foldl (fun (p : List Byte × List Byte) i =>
    let b := hmacOf f block prk (p.1 ++ info ++ [BitVec.ofNat 8 (i + 1)])
    (b, p.2 ++ b)) ([], [])).2.take n

/-- HKDF-Expand-Label (RFC 8446, 7.1). -/
def expandLabel (c : TlsSuite) (secret label ctx : List Byte) (n : Nat) : List Byte :=
  let l := ascii "tls13 " ++ label
  hkdfExpand c secret (beBytes 2 n ++ beBytes 1 l.length ++ l ++ beBytes 1 ctx.length ++ ctx) n

/-- The TLS exporter (RFC 8446, 7.5) under the connection's exporter secret. -/
def tlsExport (c : TlsSuite) (secret label ctx : List Byte) (n : Nat) : List Byte :=
  let f := (suiteHash c).1
  expandLabel c (expandLabel c secret label (f []) (suiteHash c).2.2) (ascii "exporter") (f ctx) n

/-- R194: the exported key of a direction: 0 for C2S, 1 for S2C. -/
def keKey (c : TlsSuite) (secret : List Byte) (dir : Byte) : List Byte :=
  tlsExport c secret (ascii "EXPORTER-network-time-security") [0, 0, 0, 0xF, dir] 32

/-- A connection ends without a whole exchange: counted and closed (R192, R193). -/
def State.keFail (s : State) (a : BitVec 128) : State := (s.bump Reg.SRV_NTSKE_FAIL).emit (.tcp a false)

/-- NTSKE_REQUEST (R192–R194): the connection from `a` brings its ClientHello, a Finished message that verifies where `finished` is
set, and its records; `exporter` is the exporter secret of the handshake. The choice of R192 or an alert is sent, then the
response with eight cookies or an error record, and the connection is closed. A Finished message that does not verify is answered
with an alert (log entry 57). -/
def execNtskeRequest (a : BitVec 128) (hello : TlsHello) (finished : Bool) (records : List (Nat × Bool × List Byte))
    (exporter : List Byte) (s : State) : Res :=
  match s.srv.conns.find? (fun k => k.addr == a) with
  | none => .next s
  | some k =>
    let s := s.setConns (s.srv.conns.erase k)
    let cert := s.kslot (fld (s.ac Reg.SRV_NTSKE_CTRL) 0 8)
    let sig := cert.scheme
    match tlsChoose hello sig with
    | .error e =>
      let s := if e = 47 then s.emit (.tlsRetry a (tlsAsk hello)) else s
      .next ((s.emit (.tlsAlert a e)).keFail a)
    | .ok (c, g, retried) =>
      let s := if retried then s.emit (.tlsRetry a (some g)) else s
      let s := (s.handshake k.core g cert).emit (.tlsServer a c g sig)
      if !finished then .next ((s.emit (.tlsAlert a 51)).keFail a)
      else match keError records, s.srv.nts.cur with
      | some e, _ => .next ((s.emit (.ntske a [(2, beBytes 2 e), (0, [])])).keFail a)
      | none, none => .next (s.keFail a)
      | none, some m =>
        if s.taskStopped 4 then .next (s.keFail a)
        else
          let (cnt, s) := s.cookieCount 0x8000 8
          .next (((s.bump Reg.SRV_NTSKE_DONE).emit
            (.ntske a (keResponse s.srv.keServer m s.srv.nts.noncePrefix cnt (keKey c exporter 0) (keKey c exporter 1)))).emit
            (.tcp a false))

/-- NTSKE_TIMEOUT (R193): the oldest connection has not completed its exchange 5 s after its handshake: closed and
counted. -/
def execNtskeTimeout (s : State) : Res :=
  match s.srv.conns with
  | [] => .next s
  | k :: r =>
    let s := s.advTo (k.since + 5 * sTicks)
    .next (((s.setConns r).bump Reg.SRV_NTSKE_FAIL).emit (.tcp k.addr false))

/-! ## Broadcast -/

/-- R196: the NTP packet of a broadcast entry with poll `poll`, whose transmit timestamp is of stamp `T`. -/
def State.bcastPacket (s : State) (poll T waitNs : Nat) : List Byte :=
  let v := s.timeView
  let g := s.cfg.gen
  let t := s.nowSt
  [BitVec.ofNat 8 (v.li (fld (s.ac Reg.SRV_NTP_LI_LEAD) 0 22) t * 64 + 4 * 8 + 5),
    BitVec.ofNat 8 (s.stratum g v), BitVec.ofNat 8 poll, 0xDF] ++ beBytes 4 (s.rootDelay g v) ++
    beBytes 4 (rootDisp v (fld (s.ac Reg.SRV_NTP_DISP_BASE) 0 24) (waitNs + 1000)) ++ beBytes 4 (s.refId g v) ++
    beBytes 8 (refTime v t) ++ beBytes 16 0 ++ beBytes 8 (v.ntpStamp 16 T)

/-- R196: the packet of a broadcast entry with its MAC, as composed now. DESIGN CHOICE (log entry 58): an entry with CMAC whose
key is not enabled sends nothing. -/
def State.bcastBody (s : State) (idx : Nat) : Option (List Byte) :=
  let w := ruleWord s.active idx 4
  let wait := fld (s.ac (Reg.DEP_BE_CTRL (fld w 0 3))) 0 16 * 1000
  let body := s.bcastPacket (fld w 8 8) (s.nowSt + wait * 65536) wait
  let kid := (ruleWord s.active idx 5).toNat
  let e := (s.symKey kid).toKeyVal
  if !bitAt w 4 then some body
  else if e.en then some (body ++ beBytes 4 kid ++ aesCmac (key128 e.key) body)
  else none

/-- R196, R197: the addressing of the packets of a broadcast entry. -/
def State.bcastHead (s : State) (idx : Nat) : FrameHead :=
  let w := ruleWord s.active idx 4
  let c := s.ac Reg.SRV_NTP_CTRL
  let dst : BitVec 128 := BitVec.ofNat 128 (ofBe (bytesOf ((List.range 4).map (fun i => ruleWord s.active idx i))))
  let h : FrameHead := { l2 := false, v6 := false, dstMac := 0, src := 0, dst := 0, sport := 123, dport := 123, svcAddr := 0
                         tagged := bitAt w 5, tci := fld w 16 12, dscp := fld c 8 6, hop := fld c 16 8 }
  h.toward (fld w 0 3) (dst.toNat / 2 ^ 32 != 0xFFFF) dst

/-- BROADCAST_SEND (R196): the firmware sends the packet of broadcast entry `j` every 2^POLL s of DT, unless the time
state is UNTRACEABLE. DESIGN CHOICE (log entry 58): its compare slot is the stamp of the next packet, with no slot of TSC_CS shown,
it follows DT over a step, and a packet counts when its port takes it. -/
def execBroadcastSend (j : Fin 16) (s : State) : Res :=
  let idx := 4096 + j.val
  let w := ruleWord s.active idx 4
  if !bitAt w 3 || s.time.st = .unset || s.taskStopped 1 then .next s
  else
    let due := max (tget (fun _ => 0) s.srv.bcastAt j) s.nowSt
    let s := s.advDt (stUnit * due)
    let s := s.advTo (s.cclkAfter 0)
    let s : State := { s with srv := { s.srv with
      bcastAt := tset (fun _ => 0) s.srv.bcastAt j (due + stSec * 2 ^ fld w 8 8) } }
    match s.bcastBody idx with
    | none => .next s
    | some pkt =>
      if s.tstate = .untraceable then .next s
      else
        let n := fld w 0 3
        let head := s.bcastHead idx
        let s := if s.isUp n then s.bump Reg.SRV_NTP_BCAST_SENT else s
        .next (s.bePush n .core (head.len pkt.length) pkt (some head))

end Sys2Proof.Machine
end

