-- ==== Sys2Proof/Machine/Slots.lean ====
section
/-!
DEFINITION. The 256 compare slots: arming, past times, firing, periods and steps (R27–R39).
-/

namespace Sys2Proof.Machine

/-- R28: the lead of slot `i`, in the units of `TimeSt.dt`. -/
def State.slotLead (s : State) (i : Nat) : Nat :=
  if i < 36 || (38 ≤ i && i < 48) then 128 * 2 ^ 64
  else if 80 ≤ i && i < 96 then nsUnit * (if s.mode (i % 8) = 7 then 464 else 400)
  else 0

/-- R349: the slots of the event lanes, PPSOUT, TODOUT and CASC_OUT hold times of OT. -/
def otSlot (i : Nat) : Bool := decide (i < 36) || i == 46 || i == 47

/-- R349: by how much the time scale of slot `i` is ahead of DT, in units of 2⁻¹⁶ ns. -/
def State.slotSlew (s : State) (i : Nat) : Int := if otSlot i then s.clk.slew else 0

/-- R34, R36: how far `t` lies behind the DT `d` (or its OT) plus the lead of slot `i`, in the units of `TimeSt.dt`; negative
while it is ahead. -/
def State.slotLag (s : State) (d i : Nat) (t : St64) : Int :=
  ((s.slotLead i + d % stUnit : Nat) : Int) -
    stUnit * stDiff t (dtSt64 d + BitVec.ofInt 64 (s.slotSlew i))

/-- DT, in the units of `TimeSt.dt`, at the time `t` of slot `i`. -/
def State.slotDt (s : State) (i : Nat) (t : St64) : Nat := s.dtOf (t - BitVec.ofInt 64 (s.slotSlew i))

/-- R34, R327: time `t` is past for slot `i` at the CCLK edge of an arm, which sees DT of the TBCLK edge before it. -/
def State.slotPast (s : State) (i : Nat) (t : St64) : Bool := decide (0 ≤ s.slotLag s.dtBefore i t)

/-- R34: time `t` is past for slot `i` at the TBCLK edge with DT `d`: of a re-arm or of a step. -/
def State.slotPastTb (s : State) (d i : Nat) (t : St64) : Bool := decide (0 ≤ s.slotLag d i t)

/-- R37: the periods from `t` on whose times are past at DT `d`. -/
def State.slotMissed (s : State) (d i : Nat) (t : St64) (period : Nat) : Nat :=
  (s.slotLag d i t).toNat / (stUnit * period) + 1

/-- PAST_POLICY of slot `i`: as its register stands for a firmware or general slot, as its block armed it for a
bound one. -/
def State.slotPolicy (s : State) (i : Nat) : Nat :=
  if i < 96 then (s.slot i).policy else fld (s.rd (Reg.TSC_CS_CTRL i)) 2 2

/-- STEP_FOLLOW of slot `i`. -/
def State.slotFollow (s : State) (i : Nat) : Bool :=
  if i < 96 then (s.slot i).follow else bitAt (s.rd (Reg.TSC_CS_CTRL i)) 4

/-- A status bit of slot `i`: 0 FIRED, 1 LATE, 2 REJECTED, 3 STEPPED, 4 BAD_ARM (R50). -/
def State.slotStat (s : State) (i b : Nat) : State := s.orBits (Reg.TSC_CS_STAT i) (bitMask b)

/-- R37: SKIPPED of slot `i` grows by `n`, saturating. -/
def State.slotSkip (s : State) (i n : Nat) : State :=
  let v := s.rd (Reg.TSC_CS_STAT i)
  s.wr (Reg.TSC_CS_STAT i) (putFld v 16 16 (min 65535 (fld v 16 16 + n)))

/-- CS_BAD_ARM (R28, R32): a refused write or arm. -/
def State.slotBadArm (s : State) (i : Nat) : State := (s.slotStat i 4).raise 11

/-- R483, R485: a REJECT of the scheduled commit: LAST_REJECTED, and LOCKED clears. -/
def State.cfgRejected (s : State) : State :=
  let s := s.orBits Reg.CFG_STAT (bitMask 6)
  { s with cfg := { s.cfg with locked := false } }

/-- R34, R37: the armed time of slot `i` is past at DT `d`: its policy decides; a late firing is due at tick `edge`. -/
def State.slotJudge (s : State) (d edge i : Nat) : State :=
  let x := s.slot i
  let p := s.slotPolicy i
  if p = 0 then s.updSlot i (fun x => { x with late := some edge })
  else if p = 2 && x.period != 0 then
    let m := s.slotMissed d i x.time x.period
    (s.updSlot i (fun x => { x with time := x.time + BitVec.ofNat 64 (m * x.period), late := none })).slotSkip i m
  else
    let s := (s.updSlot i (fun x => { x with armed := false, late := none })).slotStat i 2
    (if i = 36 then s.cfgRejected else s).raise 10

/-- R31, R34, R45: slot `i` is armed; while DT is UNSET its time is not judged. -/
def State.slotArm (s : State) (i : Nat) (t : St64) (period policy : Nat) (follow : Bool) : State :=
  let s := s.updSlot i (fun _ => { armed := true, time := t, period := period, policy := policy, follow := follow })
  if s.time.st = .unset then s else if s.slotPast i t then s.slotJudge s.dtBefore s.firstTb i else s

/-- R28: what TSC_CS_TIME and TSC_CS_PERIOD of a bound slot read: what its block armed last. -/
def State.slotArmBound (s : State) (i : Nat) (t : St64) (period policy : Nat) (follow : Bool) : State :=
  let s := (s.wr64 (Reg.TSC_CS_TIME_LO i) t.toNat).wr64 (Reg.TSC_CS_PERIOD_LO i) period
  s.slotArm i t period policy follow

/-- R32: slot `i` is disarmed. -/
def State.slotDisarm (s : State) (i : Nat) : State :=
  s.updSlot i (fun x => { x with armed := false, late := none })

/-- The tick at which slot `i` fires: that of the edge at which a late one is due, else of the first TBCLK edge at which its
time is past (R29, R34). -/
def State.slotTick (s : State) (i : Nat) : Nat :=
  match (s.slot i).late with
  | some t => t
  | none => s.tickOfDt (s.slotDt i (s.slot i).time - s.slotLead i)

/-- R29, R35, R37: slot `i` fires at its edge: FIRED, LATE for a late one with EV009, the ST64 of the edge, and the
re-arm of a periodic slot. -/
def State.slotFire (s : State) (i : Nat) : State :=
  let tick := s.slotTick i
  let s := s.advTo tick
  let x := s.slot i
  let d := s.dtAtTick tick
  let s := (s.slotStat i 0).wr64 (Reg.TSC_CS_FIRED_LO i) (dtSt64 d).toNat
  let s := if x.late.isSome then (s.slotStat i 1).raise 9 else s
  if x.period = 0 then s.updSlot i (fun x => { x with armed := false, late := none })
  else if x.late.isSome then
    let m := s.slotMissed d i x.time x.period
    (s.updSlot i (fun x => { x with time := x.time + BitVec.ofNat 64 (m * x.period), late := none })).slotSkip i
      (m - 1)
  else
    let t := x.time + BitVec.ofNat 64 x.period
    let s := s.updSlot i (fun x => { x with time := t })
    if s.slotPastTb d i t then s.slotJudge d ((tick / tbTicks + 1) * tbTicks) i else s

/-- Slot `i` can fire: it is armed and DT has been loaded (R45). -/
def State.slotReady (s : State) (i : Nat) : Bool := (s.slot i).armed && s.time.st != .unset

/-- R35: the tick of the late boundary of a slot that fires late at tick `t`: the first CCLK edge strictly after it. -/
def lateBoundary (t : Nat) : Nat := (t / cclkTicks + 1) * cclkTicks

/-- R29, R35, R38: the boundary of a boundary-type slot whose armed slot was `x`, at its firing, in units of 2⁻¹⁶ ns ÷ 1000: its
time, or for a late one the DT of the first CCLK edge strictly after the firing edge, to which time passes. Slots that fire late
at one edge share that boundary. -/
def State.slotBoundaryG (s : State) (x : Slot) : Nat × State :=
  match x.late with
  | some t =>
    let s := s.advTo (lateBoundary t)
    ((s.gAt (lateBoundary t)).toNat, s)
  | none => (s.dtOf x.time / stUnit * 1000, s)

/-- The boundary of a boundary-type slot as a stamp: the first stamp at or after it. -/
def State.slotBoundary (s : State) (x : Slot) : Nat × State :=
  let (g, s) := s.slotBoundaryG x
  (ceilDiv g 1000, s)

/-- R29, R34: the instant at which an edge-type slot `i`, armed as `x`, acts, as a stamp: its time, or the firing
edge plus the lead when it fires late. -/
def State.slotEdge (s : State) (i : Nat) (x : Slot) : Nat :=
  match x.late with
  | some t => (s.dtAtTick t + s.slotLead i) / stUnit
  | none => s.slotDt i x.time / stUnit

/-- SLOT_STEP_REEVALUATE (R27): slot `i` at a step edge by `amount`, DT and OT having stepped; `load` is the load of DT,
which has no STEP_FOLLOW (R45). DESIGN CHOICE (log entry 44): STEPPED is not set for a slot whose time was past before the step and
is past after it, whose late firing is still due: R50 gives the bit to a step that made the time past. -/
def State.slotStep (s : State) (amount : Int) (load : Bool) (i : Nat) : State :=
  let x := s.slot i
  if !x.armed then s
  else
    let t := if s.slotFollow i && !load then x.time + BitVec.ofInt 64 amount else x.time
    let past := s.slotPastTb s.time.dt i t
    let s := s.updSlot i (fun x => { x with time := t, late := if past then x.late else none })
    if !past || x.late.isSome then s
    else (s.slotStat i 3).slotJudge s.time.dt s.nextTb i

end Sys2Proof.Machine
end

