-- ==== Sys2Proof/Machine/Roughtime.lean ====
section
/-!
DEFINITION. Roughtime: the closes and seals of carafes, their signing and their replies, and the delegation of
the online key (R207–R221).
-/

namespace Sys2Proof.Machine

/-! ## Closes -/

/-- R207: the first close time of cluster `k` after stamp `t`. -/
def State.nextClose (s : State) (k t : Nat) : Nat :=
  let w := max 1 (fld (s.ac Reg.SRV_RT_WINDOW) 0 17 * 65536000)
  let o := if bitAt (s.ac Reg.SRV_RT_CTRL) 2 then k * w / 32 else 0
  let x := t % stSec
  let c := if x < o then o else o + ((x - o) / w + 1) * w
  t - x + min c stSec

/-- CARAFE_CLOSE's arm (R207): slot CS(048 + k) is armed one-shot at the first close time after stamp `t`. -/
def State.closeArm (s : State) (k t : Nat) : State :=
  s.slotArmBound (48 + k) (BitVec.ofNat 64 (s.nextClose k t)) 0 0 false

/-- CARAFE_CLOSE (R208): the close slot of cluster `k` fires: requests stamped from the close time on belong to
the next carafe, which opens then. A close that the signing DEPTH does not allow is deferred (R211). -/
def execCarafeClose (k : Fin 32) (s : State) : Res :=
  let i := 48 + k.val
  if !s.slotReady i then .next s
  else
    let x := s.slot i
    let (tc, s) := (s.slotFire i).slotBoundary x
    let s := (s.closeArm k (max tc s.nowSt)).updOpenCarafe k (fun o => { o with lastClose := tc })
    let o := s.openCarafe k
    .next (if !o.isOpen then s.rtOpenAt k tc
      else if s.depthFull k then s.closeDeferred
      else (s.updOpenCarafe k (fun o => { o with
        draining := o.draining ++ [⟨tc, o.since, o.leaves, o.maxLeaves⟩] })).rtOpenAt k tc)

/-- R208: a Roughtime request stamped before `tc` is in the cluster's queue, in a transfer into it, or in a cell of
it short of its commit point. -/
def State.rtInFlight (s : State) (k tc : Nat) : Bool :=
  let old (r : Req) : Bool := r.path == .roughtime && decide (r.sIn < tc)
  let cl := s.clu k
  cl.queue.any old || cl.inbound.any (fun t => old t.req) || (List.range 16).any (fun c => match cl.busy c with
    | some b => !b.committed && (match b.job with
      | .req r _ => old r
      | _ => false)
    | none => false)

/-- CARAFE_SEAL (R208): the oldest closed carafe of cluster `k` seals at the first CCLK edge at which no request stamped
before its close is short of its commit. -/
def execCarafeSeal (k : Fin 32) (s : State) : Res :=
  match (s.openCarafe k).draining with
  | [] => .next s
  | d :: _ => if s.rtInFlight k d.tc then .next s else .next ((s.advTo (s.cclkAfter 0)).sealDraining k d)

/-- CARAFE_SEAL_LIMIT (R208): the oldest closed carafe of cluster `k` seals at t_c + SRV_RT_SEAL. -/
def execCarafeSealLimit (k : Fin 32) (s : State) : Res :=
  match (s.openCarafe k).draining with
  | [] => .next s
  | d :: _ =>
    let limit := d.tc + fld (s.ac Reg.SRV_RT_SEAL) 0 16 * 65536
    .next ((s.advTo (s.cclkAtG (limit * 1000))).sealDraining k d)

/-! ## Signing -/

/-- ROOT_COMPLETE (R212): the oldest carafe of cluster `k` that folds has its root 8 × d + 16 CCLK after its seal
and enters the signing queue (R216). -/
def execRootComplete (k : Fin 32) (s : State) : Res :=
  match s.rt.sealed.find? (fun c => c.cluster == k.val && c.stage == .folding) with
  | none => .next s
  | some c =>
    let s := s.advTo (c.sealTick + (8 * treeDepth c.leaves.length + 16) * cclkTicks)
    .next (s.updCarafe c.id (fun c => { c with stage := .queued }))

/-- R216, R219, R276: the signing job of a carafe. -/
def Carafe.signJob (c : Carafe) : PkeJob :=
  let w0 := 0x39 + c.dele.slot * 2 ^ 8 + 2 ^ 16
  { words := [BitVec.ofNat 32 w0, BitVec.ofNat 32 (255 + 0x1D * 2 ^ 16), 0, 0, BitVec.ofNat 32 (100 + 64 * 2 ^ 16), 0, 0, 0]
    by_ := .srv, carafe := c.id, input := some c.message }

/-- R279: engine `i` runs no job and has none pending. -/
def State.engFree (s : State) (i : Nat) : Bool :=
  (s.eng i).online && (s.eng i).run.isNone && (s.eng i).pend.isEmpty

/-- SIGN_DISPATCH (R216): the carafe at the head of the signing queue goes to the first free engine of
PKE_MASK. -/
def execSignDispatch (s : State) : Res :=
  match s.rt.sealed.find? (fun c => c.stage == .queued) with
  | none => .next s
  | some c =>
    match (List.range 8).find? (fun i => bitAt (s.ac Reg.SRV_RT_SIGN) i && s.engFree i) with
    | none => .next s
    | some i =>
      let (r, s) := s.submit i c.signJob
      .next (if r = 0 then s.updCarafe c.id (fun c => { c with stage := .signing i }) else s)

/-- R217: a carafe's signing job has failed: it is resubmitted once from the head of the queue; a second failure
discards the carafe with EV172. -/
def State.carafeFailed (s : State) (c : Carafe) : State :=
  if c.fails = 0 then s.updCarafe c.id (fun c => { c with stage := .queued, fails := 1 })
  else ((s.dropCarafe c.id).bump Reg.SRV_RT_DROP_FAULT c.leaves.length).raise 172

/-- R217: carafes whose engine no longer holds their job have lost it. -/
def State.carafeReconcile (s : State) : State :=
  s.rt.sealed.foldl (fun s c => match c.stage with
    | .signing i =>
      let e := s.eng i
      let mine (j : PkeJob) : Bool := j.by_ == .srv && j.carafe == c.id
      if (match e.run with | some r => mine r.job | none => false) || e.pend.any mine then s else s.carafeFailed c
    | _ => s) s

/-- R216, R218: the outcome of a carafe's signing job. -/
def State.carafeDone (s : State) (id status : Nat) (out : List Byte) : State :=
  match s.rt.sealed.find? (fun c => c.id == id) with
  | none => s
  | some c =>
    if status = 0 then
      ((s.updCarafe id (fun c => { c with stage := .signed, sig := out, emitAt := s.time.now })).bump
        Reg.SRV_RT_CARAFES).deleWipe
    else s.carafeFailed c

/-- CARAFE_SIGN_STALE (R216): the oldest carafe without a signature SIGN_MAX ms after its seal is discarded, with
its job, and EV170 is raised. -/
def execCarafeSignStale (s : State) : Res :=
  match s.rt.sealed.find? Carafe.unsigned with
  | none => .next s
  | some c =>
    let s := s.advTo (c.sealTick + msTicks * fld (s.ac Reg.SRV_RT_SIGN) 16 16)
    .next ((((s.abortCarafe c).dropCarafe c.id).bump Reg.SRV_RT_DROP_STALE c.leaves.length).raise 170)

/-! ## Replies -/

/-- CARAFE_SIGNED (R218): the signed carafe of cluster `k` begins to emit its replies, when no other carafe of the
cluster emits. -/
def execCarafeSigned (k : Fin 32) (s : State) : Res :=
  let mine := s.rt.sealed.filter (fun c => c.cluster == k.val)
  let busy := mine.any Carafe.emits
  match mine.find? (fun c => c.stage == .signed) with
  | some c =>
    if busy then .next s
    else
      let t := max c.emitAt (s.openCarafe k).emitEnd
      .next (s.updCarafe c.id (fun c => { c with stage := .emitting 0, emitAt := t }))
  | none => .next s

/-- A tag–value message (R203): its tags in order with their values. -/
def rtMessage (tags : List (Nat × List Byte)) : List Byte :=
  let offs := (List.range (tags.length - 1)).map (fun i => ((tags.take (i + 1)).map (fun t => t.2.length)).sum)
  leBytes 4 tags.length ++ offs.flatMap (leBytes 4) ++ tags.flatMap (fun t => leBytes 4 t.1) ++
    tags.flatMap (fun t => t.2)

/-- R218: the UDP payload of the reply to leaf `n`. -/
def Carafe.reply (c : Carafe) (n : Nat) : List Byte :=
  let d := treeDepth c.leaves.length
  let m := rtMessage [(rtTag 0x53 0x49 0x47 0, c.sig), (tagVer, leBytes 4 rtVersion),
    (rtTag 0x50 0x41 0x54 0x48, pathOf d n (treeLeaves c.hashes)), (rtTag 0x53 0x52 0x45 0x50, c.srep),
    (rtTag 0x43 0x45 0x52 0x54, c.dele.cert), (rtTag 0x49 0x4E 0x44 0x58, leBytes 4 n)]
  rtMagic ++ leBytes 4 m.length ++ m

/-- R218: how the reply to a leaf is addressed. -/
def Carafe.head (c : Carafe) (l : Leaf) : FrameHead :=
  { l2 := false, v6 := l.v6, dstMac := l.mac, src := Config.serviceAddr l.port l.saddr l.v6, dst := l.addr, sport := 0
    dport := l.cport, svcAddr := l.saddr, tagged := l.tagged, tci := l.tci, dscp := fld c.ctrl 8 6, hop := fld c.ctrl 16 8 }

/-- RT_REPLY_EMIT (R218): the next reply of the emitting carafe of cluster `k` is composed 16 CCLK after the one
before and handed to the best-effort queue of its port; after the last one the carafe's records are free. -/
def execRtReplyEmit (k : Fin 32) (s : State) : Res :=
  match s.rt.sealed.find? (fun c => c.cluster == k.val && c.emits) with
  | none => .next s
  | some c =>
    match c.stage with
    | .emitting n =>
      match c.leaves[n]? with
      | none => .next (s.dropCarafe c.id)
      | some l =>
        let s := s.advTo (c.emitAt + 16 * cclkTicks)
        let body := c.reply n
        let head := { c.head l with sport := fld (s.ac Reg.SRV_RT_PORT) 0 16 }
        let s := if s.isUp l.port then s.bump Reg.SRV_RT_ANS else s
        let s := s.bePush l.port .roughtime (head.len body.length) body (some head)
        let at_ := c.emitAt + 16 * cclkTicks
        .next (if n + 1 = c.leaves.length then
            (s.dropCarafe c.id).updOpenCarafe k (fun o => { o with emitEnd := at_ })
          else s.updCarafe c.id (fun c => { c with stage := .emitting (n + 1), emitAt := at_ }))
    | _ => .next s

/-! ## Delegation -/

/-- R219: the encoding of a DT second in DELE. -/
def State.deleTime (s : State) (sec : Nat) : Nat := midpOf (s.timeView.utcSec sec) 0

/-- R219: DELE for an online public key. -/
def State.deleMsg (s : State) (pubk : List Byte) (mint maxt : Nat) : List Byte :=
  rtMessage [(rtTag 0x50 0x55 0x42 0x4B, pubk), (rtTag 0x4D 0x49 0x4E 0x54, leBytes 8 (s.deleTime mint)),
    (rtTag 0x4D 0x41 0x58 0x54, leBytes 8 (s.deleTime maxt))]

/-- R219, R280: the long-term key can sign: its slot holds a loaded Ed25519 key within its times, of SIGN usage, KC serves
(R444, R445) and an engine is online. DESIGN CHOICE (log entry 70): the manual does not say whose tag the job has, so CHANNELS and DOMAIN
are not asked. -/
def State.longTermOk (s : State) : Bool :=
  let lt := s.kslot (fld (s.ac Reg.SRV_RT_KEY) 0 8)
  lt.type == 6 && lt.state == .loaded && lt.usage.testBit 0 && decide (lt.nbf ≤ s.sec) &&
    (lt.naf == 0 || decide (s.sec < lt.naf)) && !s.taskStopped 4 && s.anyEngine

/-- R219: the delegation of the online key `pubk` in slot A or B, signed by the long-term key; nothing while that
cannot sign. -/
def State.delegate (s : State) (b : Bool) (pubk : List Byte) (mint maxt : Nat) : Option Dele :=
  let lt := s.kslot (fld (s.ac Reg.SRV_RT_KEY) 0 8)
  if s.longTermOk then
    let dele := s.deleMsg pubk mint maxt
    let sig := edSign lt.sec lt.pub (ascii "RoughTime v1 delegation signature--" ++ [0] ++ dele)
    let cert := rtMessage [(rtTag 0x53 0x49 0x47 0, sig), (rtTag 0x44 0x45 0x4C 0x45, dele)]
    some { slotB := b, slot := s.onlSlot b, pubk := BitVec.ofNat 256 (ofBe pubk), mint := mint, maxt := maxt
           lo := s.deleTime mint, hi := s.deleTime maxt, cert := cert }
  else none

/-- R220: KC generates an online key in slot A or B: its public key. The carafe signer may use it. -/
def State.onlineKey (s : State) (b : Bool) : List Byte × State :=
  let (r, s) := s.draw
  let sk := leBytes 32 r.toNat
  let pk := edPublic sk
  (pk, s.slotSet (s.onlSlot b) { type := 6, size := 255, usage := 1, channels := 2 ^ 0x1D, state := .loaded
                                 pub := pk, sec := sk })

/-- PERIOD and PERIOD + OVERLAP of a delegation, in s (R220). -/
def State.delePeriod (s : State) : Nat := fld (s.ac Reg.SRV_RT_DELE) 0 20
/-- PERIOD + OVERLAP of a delegation. -/
def State.deleLife (s : State) : Nat := s.delePeriod + fld (s.ac Reg.SRV_RT_DELE_OVL) 0 16

/-- R219: KC's signature over a delegation of 108 bytes, on an engine, where the long-term key can sign. -/
def State.deleSignJob (s : State) : State := if s.longTermOk then s.ownJob 4 0x39 59880 else s

/-- R219, R220: a new online key in slot A or B and its delegation from DT second `mint` on, for PERIOD and OVERLAP; nothing while
KC, which generates the key, is FAILED or restarts, or no engine is online. -/
def State.deleMake (s : State) (b : Bool) (mint : Nat) : Option Dele × State :=
  if s.taskStopped 4 || !s.anyEngine then (none, s)
  else
    let (pk, s) := (s.ownJob 4 0x38 26000).onlineKey b
    let s := s.deleSignJob
    (s.delegate b pk mint (mint + s.deleLife), s)

/-- DELE_FIRST (R220): at the first instant after recipe load at which DT is ALIGNED, the first online key and its
delegation are made. DESIGN CHOICE (log entry 63): the firmware's compare slots of R220 are DT instants that no slot of TSC_CS
shows. -/
def execDeleFirst (s : State) : Res :=
  if !s.aligned || !s.cfg.initialDone || s.rt.cur.isSome || s.taskStopped 2 then .next s
  else
    let (d, s) := s.deleMake false s.sec
    .next { s with rt := { s.rt with cur := d, onlB := false } }

/-- R220 step 2: the next online key and its delegation, whose MINT is the switch time. -/
def State.deleNext (s : State) (d : Dele) : State :=
  let (n, s) := s.deleMake (!d.slotB) (d.mint + s.delePeriod)
  { s with rt := { s.rt with next := n } }

/-- DELE_PREPARE (R220): from 600 s before the switch time the firmware prepares the next key and delegation. -/
def execDelePrepare (s : State) : Res :=
  match s.rt.cur with
  | some d =>
    if s.rt.next.isSome || s.taskStopped 2 then .next s
    else .next ((s.advDt (secUnit * (d.mint + s.delePeriod - 600))).deleNext d)
  | none => .next s

/-- R220: at its switch time the next online key takes over; a next delegation that is not ready is late. -/
def State.deleSwitch (s : State) : State :=
  match s.rt.next with
  | some n => s.deleTake n
  | none => ({ s with rt := { s.rt with late := true, retryAt := s.nowSt + 60 * stSec } } : State).raise 174

/-- DELE_SWITCH (R220): at the switch time the next online key takes over; without it EV174 is raised and the
firmware retries. -/
def execDeleSwitch (s : State) : Res :=
  match s.rt.cur with
  | some d =>
    if s.rt.late || s.taskStopped 2 then .next s
    else
      .next (s.advDt (secUnit * (d.mint + s.delePeriod))).deleSwitch
  | none => .next s

/-- DELE_RETRY (R220): every 60 s the firmware tries again to make a late next delegation; the switch follows at
the first seal after it is ready. -/
def execDeleRetry (s : State) : Res :=
  match s.rt.cur with
  | some d =>
    if !s.rt.late || s.rt.next.isSome || s.taskStopped 2 then .next s
    else
      let s := (s.advDt (stUnit * s.rt.retryAt)).deleNext d
      .next { s with rt := { s.rt with retryAt := s.rt.retryAt + 60 * stSec } }
  | none => .next s

/-- DELE_EXPIRE (R220): DT reaches the MAXT of the delegation in use without a successor: carafes are discarded
from now on and EV175 is raised. -/
def execDeleExpire (s : State) : Res :=
  match s.rt.cur with
  | some d =>
    if s.rt.next.isSome || s.rt.expired then .next s
    else
      let s := s.advDt (secUnit * d.maxt)
      .next (({ s with rt := { s.rt with expired := true } } : State).raise 175)
  | none => .next s

/-- DELE_REISSUE (R220): after a step the current delegation is issued again with MINT at the step edge; before its MAXT it is in
use again. -/
def State.deleReissue (s : State) : State :=
  match s.rt.cur with
  | some d =>
    let s := s.deleSignJob
    match s.delegate d.slotB (beBytes 32 d.pubk.toNat) s.sec d.maxt with
    | some n => { s with rt := { s.rt with
        cur := some { n with slot := d.slot }, expired := s.rt.expired && decide (d.maxt ≤ s.sec) } }
    | none => s
  | none => s

end Sys2Proof.Machine
end

