-- ==== Sys2Proof/Machine/TimOps.lean ====
section
/-!
DEFINITION. The channels of the time-interval unit: records, starts, stops, gates and steps (R415–R424).
-/

namespace Sys2Proof.Machine

/-- The integer square root by `k` bits. -/
def isqrt : Nat → Nat → Nat
  | 0, _ => 0
  | k + 1, n =>
    let r := 2 * isqrt k (n / 4)
    if (r + 1) * (r + 1) ≤ n then r + 1 else r

/-- MODE of channel `k` (R415): 0 OFF, 1 INTERVAL, 2 STAMP, 3 FREQ. -/
def State.timMode (s : State) (k : Nat) : Nat := fld (s.ac (Reg.TIM_CH_CFG k)) 0 2
/-- START of channel `k`. -/
def State.timSrc (s : State) (k : Nat) : Nat := fld (s.ac (Reg.TIM_CH_CFG k)) 2 6
/-- ARM setting of channel `k` is CONTINUOUS. -/
def State.timCont (s : State) (k : Nat) : Bool := fld (s.ac (Reg.TIM_CH_CFG k)) 8 2 == 1
/-- STOP_MASK of channel `k`. -/
def State.timStops (s : State) (k : Nat) : Nat := fld (s.ac (Reg.TIM_CH_STOP k)) 0 16
/-- WINDOW of channel `k` in units of 2⁻¹⁶ ns. -/
def State.timWin (s : State) (k : Nat) : Int := (fld (s.ac (Reg.TIM_CH_WIN k)) 0 31 * 65536 : Nat)
/-- PRE of channel `k` in units of 2⁻¹⁶ ns. -/
def State.timPre (s : State) (k : Nat) : Int := (fld (s.ac (Reg.TIM_CH_PRE k)) 0 16 * 65536 : Nat)
/-- Units of 2⁻¹⁶ ns in a millisecond. -/
def stMs : Nat := 65536000000
/-- GATE of channel `k` in ms. -/
def State.timGateMs (s : State) (k : Nat) : Nat := fld (s.ac (Reg.TIM_CH_GATE k)) 0 17
/-- R423: DPLL0 is not LOCKED. -/
def State.unlocked (s : State) : Bool := decide (s.clk.d.state ≠ .locked)

/-! ## Records -/

/-- R422, R438: a record of channel `k` of a type, with FLAGS of the measurement, its start or gate start and its
bytes from 20 on. -/
def State.timWrite (s : State) (k type flags : Nat) (start : Int) (tail : List Byte) : State :=
  let c := s.timCh k
  if 32 ≤ c.queue.length then
    ((s.updTimCh k (fun c => { c with ovfBefore := true })).bump (Reg.TIM_CH_OVF k)).raise 225
  else
    let t := start.toNat
    let fl := flags + bn c.ovfBefore 2 + bn c.unlocked 3
    let rec_ := leBytes 2 c.seq ++ leBytes 1 type ++ leBytes 1 fl ++ leBytes 4 (s.timSrc k) ++
      leBytes 6 (secOf t) ++ leBytes 4 (nsOf t) ++ leBytes 2 (fracOf t) ++ tail
    let s := (s.updTimCh k (fun c => { c with
      queue := c.queue ++ [rec_ ++ List.replicate (160 - rec_.length) 0]
      seq := (c.seq + 1) % 65536
      ovfBefore := false })).bump (Reg.TIM_CH_RESULTS k)
    if c.queue.isEmpty then s.raise 224 else s

/-- The channel without a measurement, IDLE. -/
def TimCh.toIdle (c : TimCh) : TimCh :=
  { c with state := .idle, once := false, stops := [], n := 0, sx := 0, snx := 0, sxx := 0, lateRec := false
           stepped := false, unlocked := false, stepBy := 0 }

/-- R416: what follows a completed measurement: ARMED again for the next start stamped from `t` on, or IDLE. -/
def State.timNext (s : State) (k : Nat) (t : Int) : State :=
  let again := s.timCont k && !(s.timCh k).once
  s.updTimCh k (fun c => if again then { c.toIdle with state := .armed, arm := t } else c.toIdle)

/-- R417, R438: bytes 20–151 of an INTERVAL record. -/
def TimCh.intervals (c : TimCh) : List Byte :=
  let found (j : Nat) := c.stops.find? (fun x => x.input == j)
  let valid := ((List.range 16).map (fun j => bn (found j).isSome j)).sum
  leBytes 4 valid ++ (List.range 16).flatMap (fun j => match found j with
    | some x => leBytes 6 (wrap 48 (x.at_ - c.start)) ++ leBytes 2 (bn x.stepped + bn x.clipped 1)
    | none => leBytes 8 0)

/-- R418: the stamp, in present DT, of the latest stamp of a measurement: its start or a stop. -/
def TimCh.lastStamp (c : TimCh) : Int := c.stops.foldl (fun m x => max m x.at_) c.start + c.stepBy

/-- R418: the interval measurement of channel `k` completes at stamp `t`. -/
def State.timComplete (s : State) (k : Nat) (t : Int) : State :=
  let c := s.timCh k
  let s := if c.stops.length < ones (s.ac (Reg.TIM_CH_STOP k)) 16 then s.raiseLim 226 0 msTicks else s
  (s.timWrite k 1 (bn c.lateRec) c.start c.intervals).timNext k (t + 1)

/-- R417, R418: the stop of input `j` that its history holds for a start at `a`. -/
def State.timPast (s : State) (k j : Nat) (a : Int) : Option Stop :=
  let lo := a - s.timPre k
  let i := s.timIn j
  let hits := i.hist.filter (fun h => decide (lo ≤ h.1) && decide (h.1 < a + s.timWin k))
  hits.getLast?.map (fun h => ⟨j, h.1, h.2, match i.pushed with
    | some p => decide (lo ≤ p)
    | none => false⟩)

/-- R417: a start edge of source `src` stamped `a` begins a measurement of channel `k`. -/
def State.timBegin (s : State) (k src : Nat) (a : Int) : State :=
  let js := (List.range 16).filter (fun j => (s.timStops k).testBit j && j != src)
  let stops := js.filterMap (fun j => s.timPast k j a)
  let u := s.unlocked
  let s := s.updTimCh k (fun c => { c with
    state := .measuring, start := a, stops := stops, stepBy := 0, stepped := false, unlocked := u })
  if stops.length = ones (s.ac (Reg.TIM_CH_STOP k)) 16 then s.timComplete k (s.timCh k).lastStamp else s

/-- R416, R419: an ARMED channel meets a start edge stamped `a`. -/
def State.timStartArmed (s : State) (k src : Nat) (a : Int) : State :=
  let c := s.timCh k
  if c.state ≠ .armed || a < c.arm then s
  else if s.timMode k = 1 then s.timBegin k src a
  else if s.timMode k = 2 then
    let u := s.unlocked
    let s := (s.updTimCh k (fun c => { c with unlocked := u })).timWrite k 2 (bn c.lateRec) a []
    s.timNext k c.arm
  else s

/-! ## Gates -/

/-- R420: bytes 20 on of a FREQ record over `n` edges with the sums of the gate, DIV and NOM. -/
def freqBody (n : Nat) (sx snx sxx : Int) (div nom gateMs : Nat) : List Byte :=
  let b : Int := 6 * (2 * snx - ((n : Int) - 1) * sx)
  let d : Nat := n * (n * n - 1)
  if n < 3 || b ≤ 0 then leBytes 4 0 ++ leBytes 8 n ++ leBytes 20 0 ++ leBytes 4 gateMs
  else
    let f := roundDiv ((stSec * div * 2 ^ 32 * d : Nat) : Int) b.toNat
    let y := if nom = 0 then 0
      else roundDiv (((stSec * div * d : Nat) - nom * b) * 1000000000000000000) (nom * b.toNat)
    let num := ((n * sxx - sx * sx) * d - 3 * (2 * snx - ((n : Int) - 1) * sx) ^ 2 * n).toNat * 125 ^ 2 * 4
    let r := (isqrt 64 (num / (512 ^ 2 * n ^ 2 * d)) + 1) / 2
    leBytes 4 0 ++ leBytes 8 n ++ leBytes 8 f.toNat ++ leBytes 8 (wrap 64 y) ++ leBytes 4 (min r (2 ^ 32 - 1)) ++
      leBytes 4 gateMs

/-- R419–R421: a gate of channel `k` opens at `g`. -/
def State.timOpen (s : State) (k : Nat) (g : Int) : State :=
  let u := s.unlocked
  let len : Int := (s.timGateMs k * stMs : Nat)
  s.updTimCh k (fun c => { c with
    state := .measuring, gate := g, gateEnd := g + len, n := 0, sx := 0, snx := 0, sxx := 0, stepBy := 0
    stepped := false, unlocked := u })

/-- R420: the gate of channel `k` ends; in FREQ mode its record is written, and in CONTINUOUS the next gate begins
where it ended. -/
def State.timGateEnd (s : State) (k : Nat) : State :=
  let c := s.timCh k
  if s.timMode k ≠ 3 then s.updTimCh k TimCh.toIdle
  else
    let div := fld (s.ac (Reg.TIM_IN_DIV (s.timSrc k))) 0 17
    let body := freqBody c.n c.sx c.snx c.sxx div (fld (s.ac (Reg.TIM_CH_NOM k)) 0 31) (s.timGateMs k)
    let s := s.timWrite k 3 (bn c.lateRec + bn c.stepped 1 + bn (decide (c.n < 3)) 4) c.gate body
    if s.timCont k && !c.once then
      (s.updTimCh k (fun c => { c with lateRec := false })).timOpen k (c.gateEnd + c.stepBy)
    else s.updTimCh k TimCh.toIdle

/-- R420: the gate of channel `k` has not begun: a FREQ channel that waits for the first whole millisecond. -/
def State.timAhead (s : State) (k : Nat) : Bool :=
  let c := s.timCh k
  s.timMode k != 1 && decide (c.state = .measuring) && decide ((s.nowSt : Int) < c.gate + c.stepBy)

/-- R416: channel `k` is armed at stamp `e`, from a start stamped `e` on (`incl`) or after it; in FREQ mode its gate
begins at the first whole millisecond after `e` (R420). -/
def State.timArm (s : State) (k : Nat) (e : Int) (incl once : Bool) : State :=
  if s.tim.calUntil.isSome then s
  else if s.timMode k = 0 || s.timMode k = 1 && s.timStops k = 0 then
    ((s.slotDisarm (38 + k)).updTimCh k (fun c => { c.toIdle with badArm := true })).raise 229
  else
    let s := (s.slotDisarm (38 + k)).updTimCh k (fun c => { c.toIdle with state := .armed, arm := if incl then e else e + 1, once := once })
    if s.timMode k = 3 then s.timOpen k ((e / stMs + 1) * stMs) else s

/-- R416: channel `k` is IDLE and its gate slot disarmed, without a record. -/
def State.timDisarm (s : State) (k : Nat) : State := (s.slotDisarm (38 + k)).updTimCh k TimCh.toIdle

/-! ## Edges -/

/-- TIM_IN_DELAY of source `src` in units of 2⁻¹⁶ ns; internal sources have none. -/
def State.timDelay (s : State) (src : Nat) : Int :=
  if src < 16 then roundDiv (sfld (s.ac (Reg.TIM_IN_DELAY src)) 0 24 * psG) 1000 else 0

/-- The stamp, in present DT, at which the measurement of channel `k` ends by its window or its gate. -/
def State.timEnd (s : State) (k : Nat) : Int :=
  let c := s.timCh k
  if s.timMode k = 1 then c.start + s.timWin k + c.stepBy else c.gateEnd + c.stepBy

/-- R418, R420: how long after the end of its window or gate channel `k` still takes edges stamped before it: as long as the
TIM_IN_DELAY of the inputs it waits for, within the 1 µs or 2 µs in which the record is written. DEDUCED (log entry 74). -/
def State.timWait (s : State) (k : Nat) : Int :=
  if s.timMode k = 1 then
    let js := (List.range 16).filter (fun j => (s.timStops k).testBit j && !(s.timCh k).stops.any (fun x => x.input == j))
    min 65536000 (js.foldl (fun m j => max m (s.timDelay j)) 0)
  else min 131072000 (max 0 (s.timDelay (s.timSrc k)))

/-- R417–R420: channel `k` in a measurement sees an edge of source `src` with stamp `a`. -/
def State.timMeasuring (s : State) (k src : Nat) (a : Int) : State :=
  let c := s.timCh k
  let adj := a - c.stepBy
  let mine := s.timSrc k == src
  if s.timMode k = 1 then
    let s := if mine then s.bump (Reg.TIM_CH_START_IGN k) else s
    if src < 16 && (s.timStops k).testBit src && !c.stops.any (fun x => x.input == src) && c.start - s.timPre k ≤ adj &&
        adj < c.start + s.timWin k then
      let s := s.updTimCh k (fun c => { c with stops := c.stops ++ [⟨src, adj, decide (c.stepBy ≠ 0), false⟩] })
      if (s.timCh k).stops.length = ones (s.ac (Reg.TIM_CH_STOP k)) 16 then s.timComplete k (s.timCh k).lastStamp else s
    else s
  else if !mine || adj < c.gate then s
  else if s.timMode k = 2 then
    let u := s.unlocked
    (s.updTimCh k (fun c => { c with unlocked := u })).timWrite k 2 (bn c.lateRec) a []
  else s.updTimCh k (fun c => { c with
    n := c.n + 1, sx := c.sx + (adj - c.gate), snx := c.snx + c.n * (adj - c.gate)
    sxx := c.sxx + (adj - c.gate) ^ 2, stepped := c.stepped || decide (c.stepBy ≠ 0) })

/-- R418, R420: the measurement of channel `k` ends by its window or its gate. -/
def State.timClose (s : State) (k : Nat) : State :=
  if s.timMode k = 1 then s.timComplete k (s.timEnd k) else s.timGateEnd k

/-- R415–R420: channel `k` sees an edge of source `src` stamped `a`; a window or gate that is over by the edge, or that ended before
the stamp of its own start input, is closed first. -/
def State.timEdge (s : State) (k src : Nat) (a : Int) : State :=
  let done := decide (s.timEnd k + s.timWait k ≤ a + s.timDelay src) || (s.timSrc k == src && decide (s.timEnd k ≤ a))
  let s := if (s.timCh k).state = .measuring && done then s.timClose k else s
  if (s.timCh k).state = .measuring then s.timMeasuring k src a
  else if s.timSrc k = src then s.timStartArmed k src a
  else s

/-- R415: every channel sees an edge of source `src`. -/
def State.timSource (s : State) (src : Nat) (a : Int) : State :=
  (List.range 8).foldl (fun s k => s.timEdge k src a) s

/-! ## Steps and commits -/

/-- R423: DPLL0 has left LOCKED during the measurements in progress. -/
def State.timUnlocked (s : State) : State :=
  (List.range 8).foldl (fun s k => if (s.timCh k).state = .measuring then
    s.updTimCh k (fun c => { c with unlocked := true }) else s) s

/-- R423: DPLL0 enters LOCKED: a gate that has not begun starts without NOT_LOCKED. -/
def State.timLocked (s : State) : State :=
  (List.range 8).foldl (fun s k => if s.timAhead k then s.updTimCh k (fun c => { c with unlocked := false }) else s) s

/-- R423: a step of DT by `d`: stamps of the histories move, measurements in progress keep their start's DT, and a
gate slot that the step has disarmed leaves its channel IDLE (R421). A gate that waits for the first whole millisecond after its arm
(R420) waits for that of the new DT. -/
def State.timStep (s : State) (d : Int) : State :=
  let s := (List.range 16).foldl (fun s j => s.updTimIn j (fun i => { i with
    hist := i.hist.map (fun h => (h.1 + d, true)), pushed := i.pushed.map (· + d), last := i.last.map (· + d * 1000) })) s
  (List.range 8).foldl (fun s k =>
    let c := s.timCh k
    match c.state with
    | .measuring =>
      if s.timMode k = 3 && fld (s.ac (Reg.TIM_CH_CFG k)) 8 2 != 2 && decide ((s.nowSt : Int) - d < c.gate + c.stepBy) then
        s.timOpen k ((s.nowSt / stMs + 1) * stMs : Nat)
      else s.updTimCh k (fun c => { c with stepBy := c.stepBy + d })
    | .armed => s.updTimCh k (fun c => { c with arm := c.arm + d })
    | .gateWait =>
      if (s.slot (38 + k)).armed then s else s.updTimCh k (fun c => { c.toIdle with rejected := true })
    | .idle => s) s

/-- The tick of the next recalibration (R414). -/
def State.timRecalArm (s : State) : State :=
  { s with tim := { s.tim with recalAt := s.time.now + sTicks * fld (s.ac Reg.TIM_CTRL) 0 8 } }

/-- R410, R414, R424: a commit whose set before was `old`: channels whose settings changed are disarmed, an input whose EN
or DIV changed counts afresh, and a new CAL_PERIOD counts from the commit edge. -/
def State.timCommit (s : State) (old : Tab Word) : State :=
  let changed (a : Nat) : Bool := tget rwsDef old a != s.ac a
  let s := if changed Reg.TIM_CTRL then s.timRecalArm else s
  let s := (List.range 8).foldl (fun s k =>
    if [Reg.TIM_CH_CFG k, Reg.TIM_CH_STOP k, Reg.TIM_CH_WIN k, Reg.TIM_CH_PRE k, Reg.TIM_CH_GATE k,
        Reg.TIM_CH_NOM k].any changed then s.timDisarm k else s) s
  (List.range 16).foldl (fun s j =>
    let was := tget rwsDef old (Reg.TIM_IN_CFG j)
    if changed (Reg.TIM_IN_DIV j) || bitAt was 0 != bitAt (s.ac (Reg.TIM_IN_CFG j)) 0 then
      s.updTimIn j (fun i => { i with count := 0, drop := false }) else s) s

/-- R414: the calibration of every stamper starts: 20 ms during which every channel is IDLE. DESIGN CHOICE (log entry 75):
the inputs are stamped meanwhile, so lanes in TRIG mode are served. -/
def State.timCal (s : State) : State :=
  let s := (List.range 8).foldl State.timDisarm s
  { s with tim := { s.tim with calUntil := some (s.time.now + 20 * msTicks) } }

end Sys2Proof.Machine
end

