-- ==== Sys2Proof/Machine/Evl.lean ====
section
/-!
DEFINITION. The event lanes (R425–R433).
-/

namespace Sys2Proof.Machine

/-- R349: the present instant of OT, in units of 2⁻¹⁶ ns ÷ 1000. -/
def State.otG (s : State) : Int := (s.nowG : Int) + s.clk.slew * 1000

/-- The OT, in units of 2⁻¹⁶ ns, that an ST64 names: the one within 2⁶³ units of now (R7, R36). -/
def State.otOf (s : State) (t : St64) : Int :=
  let o : Int := (s.time.dt / stUnit : Nat) + s.clk.slew
  o + stDiff t (BitVec.ofInt 64 o)

/-- The tick of the instant `g` of OT, in units of 2⁻¹⁶ ns ÷ 1000. -/
def State.tickOfOt (s : State) (g : Int) : Nat :=
  let d := g - s.clk.slew * 1000
  s.tickOfDt ((stUnit * d + 999) / 1000).toNat

/-- R351, R432: an output with a SQUELCH code is squelched now: 0 ALWAYS, 1 ALIGNED, 2 TRACEABLE. -/
def State.squelched (s : State) (code : Nat) : Bool :=
  if code = 1 then !s.aligned else if code = 2 then s.tstate == .untraceable else false

/-- R426: the point of the 25 ps grid nearest to `g` (in units of 2⁻¹⁶ ns ÷ 1000), the earlier on a tie. -/
def grid25 (g : Int) : Int := (2 * g + 25 * psG - 1) / (50 * psG)

/-! ## Lane sets -/

/-- MODE of a set. -/
def LaneSet.mode (x : LaneSet) : Nat := fld x.cfg 0 2
/-- PAST_POLICY of a set. -/
def LaneSet.policy (x : LaneSet) : Nat := fld x.cfg 3 2
/-- The level of the ball at an active or inactive output under POL. -/
def LaneSet.ball (x : LaneSet) (active : Bool) : Bool := active != bitAt x.cfg 2
/-- Number of the pulses of a set; `none` without end (R426). -/
def LaneSet.total (x : LaneSet) : Option Nat :=
  if x.period = 0 then some 1 else if x.count = 0 then none else some x.count
/-- Pulse `i` is beyond the end of the set. -/
def LaneSet.ended (x : LaneSet) (i : Nat) : Bool := match x.total with
  | some n => decide (n ≤ i)
  | none => false

/-- The staged set of lane `l` (R425). -/
def State.laneStaged (s : State) (l : Nat) : LaneSet :=
  let w2 (a : Nat) := join32 (s.rd a) (s.rd (a + 4))
  { cfg := s.rd (Reg.EVL_CFG l), t0 := BitVec.ofNat 64 (w2 (Reg.EVL_T0_LO l)), period := w2 (Reg.EVL_PERIOD_LO l)
    width := w2 (Reg.EVL_WIDTH_LO l), count := (s.rd (Reg.EVL_COUNT l)).toNat, delay := w2 (Reg.EVL_DELAY_LO l) }

/-- R427: the ARM of a set is refused. In LEVEL mode PERIOD and WIDTH are ignored (R430). -/
def State.laneBad (s : State) (x : LaneSet) : Bool :=
  let ns := 65536
  let inCfg := s.ac (Reg.TIM_IN_CFG (fld x.cfg 8 4))
  x.policy == 3 || fld x.cfg 5 2 == 3 ||
  (x.mode != 2 && (decide (x.width < 2 * ns) ||
    (x.period != 0 && (decide (x.period < 4 * ns) || decide (1000 * stSec < x.period) ||
      decide (x.period < x.width + 2 * ns))))) ||
  (x.mode == 3 && (decide (x.delay < (80 + fld inCfg 12 8) * ns) || decide (stSec < x.delay) || !bitAt inCfg 0))

/-! ## Pulses -/

/-- OT of the leading edge of pulse `i` of a lane, in units of 2⁻¹⁶ ns. -/
def Lane.edge (x : Lane) (i : Nat) : Int := x.t0 + (i * x.set.period : Nat)

/-- EVL_COMP as it applies to the next leading edge of the lane, in units of 2⁻¹⁶ ns ÷ 1000 (R425). -/
def State.laneComp (s : State) (l : Nat) : Int :=
  let x := s.lane l
  (match x.compNew with
    | some (t, c) => if t ≤ s.tickOfOt (x.edge x.idx * 1000) then c else x.comp
    | none => x.comp) * psG

/-- The compensated time of the next leading edge of lane `l`, in OT units of 2⁻¹⁶ ns ÷ 1000. -/
def State.laneNext (s : State) (l : Nat) : Int :=
  let x := s.lane l
  match x.latePulse with
  | some g => g
  | none => x.edge x.idx * 1000 - s.laneComp l

/-- 25.6 ns in units of 2⁻¹⁶ ns ÷ 1000. -/
def laneLead : Int := 25600 * psG

/-- OT as the CCLK edge at which time stands sees it (R327, R428), in units of 2⁻¹⁶ ns ÷ 1000. -/
def State.otArm (s : State) : Int := (s.dtBefore * 1000 / stUnit : Nat) + s.clk.slew * 1000

/-- R428: how many pulses of lane `l` from index 0 on are past at OT `o`, before the end of the set is considered. -/
def State.lanePast (s : State) (l : Nat) (o : Int) : Nat :=
  let x := s.lane l
  let lag := o + laneLead - (x.t0 * 1000 - s.laneComp l)
  if lag < 0 then 0
  else if x.set.period = 0 then 1
  else (lag / (x.set.period * 1000)).toNat + 1

/-- R426, R431: the train of lane `l` is over: EVL_DONE with EV230; a TRIG lane waits for the next trigger, unless a DISARM
came since the trigger's stamp. -/
def State.laneOver (s : State) (l : Nat) : State :=
  let s := s.updLane l (fun x => { x with
    state := if x.set.mode = 3 && x.disarmAt.isNone then .trigWait else .idle, latePulse := none })
  ((s.slotDisarm l).orBits Reg.EVL_DONE (bitMask l)).raise 230

/-- R428, R429, R432: pulses of lane `l` that are not sent. -/
def State.laneSkip (s : State) (l n : Nat) : State :=
  if n = 0 then s else (s.bump (Reg.EVL_SKIPPED l) n).raiseLim 231 0 msTicks

/-- R425: the slot of lane `l` is armed with its next leading edge, compensated. The lane itself judges what is past (R428). -/
def State.laneSlot (s : State) (l : Nat) : State :=
  let t : St64 := BitVec.ofInt 64 (s.laneNext l / 1000)
  let p := (s.lane l).set.policy
  ((s.wr64 (Reg.TSC_CS_TIME_LO l) t.toNat).wr64 (Reg.TSC_CS_PERIOD_LO l) 0).updSlot l (fun _ =>
    { armed := true, time := t, period := 0, policy := p, follow := false })

/-- R428, R430: the armed set of lane `l` meets OT `o` of the arm edge: what of it is past is treated under PAST_POLICY. DEDUCED (log
entry 26): that a finite train whose every index is past ends at once is the rule of SKIP; under FIRE_LATE its last pulse is placed
late. -/
def State.laneJudge (s : State) (l : Nat) (o : Int) : State :=
  let x := s.lane l
  let past := s.lanePast l o
  let one := x.set.mode = 2 || x.set.period = 0
  let reject (s : State) : State :=
    ((s.slotDisarm l).slotStat l 2).raise 10 |>.updLane l (fun x => { x with state := .idle, rejected := true, latePulse := none })
  if past ≤ x.idx then s.laneSlot l
  else if x.set.policy = 0 then
    let g := s.otG + laneLead
    let s := ((s.slotStat l 1).raise 9).updLane l (fun x => { x with late := true, latePulse := some g, idx := past })
    let s := if x.set.mode = 2 then s
      else s.laneSkip l (min (past - 1 - x.idx) (match x.set.total with | some n => n - 1 - x.idx | none => past))
    let g' := (s.lane l).edge past * 1000 - s.laneComp l
    if x.set.mode ≠ 2 && !x.set.ended past && g' < g + (x.set.width + 131072 : Nat) * 1000 then
      ((s.updLane l (fun x => { x with latePulse := none })).laneSkip l 1).laneSlot l
    else s.laneSlot l
  else if x.set.policy = 1 || one then reject s
  else
    let n := match x.set.total with
      | some n => min past n
      | none => past
    let s := (s.laneSkip l (n - x.idx)).updLane l (fun x => { x with idx := past })
    if x.set.ended past then s.laneOver l else s.laneSlot l

/-- R425, R428: a checked set is copied into lane `l` with its first pulse at OT `t0`. -/
def State.laneLoad (s : State) (l : Nat) (x : LaneSet) (t0 : Int) : State :=
  let comp := sfld (s.ac (Reg.EVL_COMP l)) 0 24
  s.updLane l (fun y => { y with
    set := x, t0 := t0, idx := 0, state := .armed, latePulse := none, disarmAt := none
    comp := match y.compNew with | some (_, _) => y.comp | none => comp })

/-- R426: OT, in units of 2⁻¹⁶ ns ÷ 1000, at which the ball shows the end `e` of the pulse in progress or of the last one. -/
def Lane.endG (x : Lane) (e : Int) : Int := e * 1000 - x.comp * psG

/-- R426: the pulse in progress on lane `l`, which ends at `e`, ends now. -/
def State.laneFall (s : State) (l : Nat) (e : Int) : State :=
  let x := s.lane l
  (s.emit (.evout l (grid25 (x.endG e)) (x.set.ball false))).updLane l (fun y => { y with
    high := false, trail := none, lastEnd := some e })

/-- R426, R428: after the leading edge or the skip of the pulse at hand, the lane turns to the next one; `stays` says
that a pulse in progress keeps a finite train from ending now. -/
def State.laneTurn (s : State) (l : Nat) (stays : Bool) : State :=
  let x := s.lane l
  if x.set.ended x.idx then (if stays then s.slotDisarm l else s.laneOver l) else s.laneSlot l

/-- Lane `l` has a pulse or a level change to place. -/
def State.laneReady (s : State) (l : Nat) : Bool :=
  let x := s.lane l
  (x.state == .armed || (x.state == .running && x.set.mode != 2)) &&
    (x.set.mode == 2 || x.latePulse.isSome || !x.set.ended x.idx)

/-- The tick at which the slot of lane `l` fires for its next edge, 25.6 ns before it (R28). -/
def State.laneTick (s : State) (l : Nat) : Nat := s.tickOfOt (s.laneNext l - laneLead)

/-- The slot of lane `l` fires (R28, R50). -/
def State.laneFire (s : State) (l : Nat) : State :=
  let s := s.advTo (s.laneTick l)
  (s.slotStat l 0).wr64 (Reg.TSC_CS_FIRED_LO l) s.st64.toNat

/-- R426, R429, R432: lane `l` places the leading edge of its next pulse: sent, or skipped while squelched or when it would fall
within 2 ns of the end of the pulse before. -/
def State.lanePulse (s : State) (l : Nat) : State :=
  let g := s.laneNext l
  let c := s.laneComp l
  let s := match (s.lane l).trail with
    | some e => if (s.lane l).endG e ≤ g then s.laneFall l e else s
    | none => s
  let x := s.lane l
  let t : Int := match x.latePulse with
    | some _ => (g + c) / 1000
    | none => x.edge x.idx
  let next (s : State) : State := s.updLane l (fun y => { y with
    state := .running, latePulse := none, idx := if y.latePulse.isSome then y.idx else y.idx + 1
    comp := c / psG
    compNew := match y.compNew with
      | some (u, c) => if u ≤ s.time.now then none else some (u, c)
      | none => none })
  let near := (x.trail <|> x.lastEnd).any (fun e => decide (g < x.endG e + 131072000))
  if s.squelched (fld x.set.cfg 5 2) || near then
    let same (e : Int) : Int := roundDiv (x.endG e + c) 1000
    (next ((s.laneSkip l 1).updLane l (fun y => { y with trail := y.trail.map same, lastEnd := y.lastEnd.map same }))).laneTurn
      l x.trail.isSome
  else
    let s := (s.emit (.evout l (grid25 g) (x.set.ball true))).bump (Reg.EVL_SENT l)
    let s := next (s.updLane l (fun y => { y with high := true, trail := some (t + x.set.width) }))
    (s.laneTurn l true).timSource (32 + l) (t - s.clk.slew)

/-- R430: lane `l` takes its level, or keeps it when squelched, and returns to IDLE. A pulse in progress first reaches its end, and
the level replaces its trailing edge when it would fall no later (R429). -/
def State.laneLevel (s : State) (l : Nat) : State :=
  let g := s.laneNext l
  let s := s.slotDisarm l
  let s := match (s.lane l).trail with
    | some e => if (s.lane l).endG e < g then s.laneFall l e else s
    | none => s
  let x := s.lane l
  if s.squelched (fld x.set.cfg 5 2) then
    (s.laneSkip l 1).updLane l (fun y => { y with state := .idle, rejected := true, latePulse := none })
  else
    let v := bitAt x.set.cfg 7
    let at_ := match x.trail with
      | some e => x.endG e
      | none => g
    (s.emit (.evout l (grid25 at_) (x.set.ball v))).updLane l (fun y => { y with
      state := .idle, high := v, latePulse := none, trail := none, lastEnd := y.trail <|> y.lastEnd })

/-- R33: an edge of lane `l` whose slot fires in the CCLK cycle that begins at the present edge, or fired before, is under way when
an ARM or DISARM acts. -/
def State.laneDue (s : State) (l : Nat) : State :=
  if s.laneReady l && decide (s.laneTick l < s.time.now + cclkTicks) then
    let s := s.laneFire l
    if (s.lane l).set.mode = 2 then s.laneLevel l else s.lanePulse l
  else s

/-- R429: lane `l` is disarmed: a pulse that has started completes. -/
def State.laneDisarm (s : State) (l : Nat) : State :=
  let s := s.laneDue l
  let e : Int := s.nowSt
  (s.slotDisarm l).updLane l (fun x => { x with
    state := .idle, latePulse := none, disarmAt := if x.state = .trigWait then some e else none })

/-- R425, R427: the ARM of lane `l` with its staged set; MODE OFF disarms. DESIGN CHOICE (log entry 75): POL of the new set shows at
the ball with the next edge that the lane places. -/
def State.laneArm (s : State) (l : Nat) : State :=
  let x := s.laneStaged l
  if x.mode = 0 then s.laneDisarm l
  else if s.laneBad x then (s.updLane l (fun y => { y with badArm := true })).raise 232
  else
    let s := s.laneDue l
    if x.mode = 3 then
      (s.slotDisarm l).updLane l (fun y => { y with set := x, state := .trigWait, latePulse := none, disarmAt := none })
    else (s.laneLoad l x (s.otOf x.t0)).laneJudge l s.otArm

/-- R431: an edge of TRIG_IN stamped `a` starts the train of lane `l`. -/
def State.laneTrigger (s : State) (l : Nat) (a : Int) : State :=
  let x := s.lane l
  let armed := decide (x.state = .trigWait) || (x.disarmAt.any (fun t => decide (a < t)) && decide (x.state = .idle))
  if x.set.mode ≠ 3 then s
  else if armed then
    let keep := x.disarmAt
    let s := s.laneLoad l x.set (a + x.set.delay + s.clk.slew)
    (s.updLane l (fun y => { y with state := .running, disarmAt := keep })).laneSlot l
  else if x.state = .idle then s
  else (s.bump (Reg.EVL_TRIG_IGN l)).raiseLim 233 0 msTicks

/-- EVL_TRIGGER (R431): every lane whose TRIG_IN is input `j` sees its accepted edge stamped `a`. -/
def State.evlTrigger (s : State) (j : Nat) (a : Int) : State :=
  (List.range 32).foldl (fun s l => if fld (s.lane l).set.cfg 8 4 = j then s.laneTrigger l a else s) s

/-- EVL_ARM (R425): a write of EVL_CMD.ARM of lane `l`. -/
def execEvlArm (l : Fin 32) (s : State) : Res := .next ((s.advTo (s.cclkAfter 0)).laneArm l)

/-- EVL_DISARM (R429): a write of EVL_CMD.DISARM of lane `l`. -/
def execEvlDisarm (l : Fin 32) (s : State) : Res := .next ((s.advTo (s.cclkAfter 0)).laneDisarm l)

/-- EVL_ARM_ALL (R433): every lane of `lanes` is armed with its own staged set at one CCLK edge. -/
def execEvlArmAll (lanes : Word) (s : State) : Res :=
  .next ((List.range 32).foldl (fun s l => if bitAt lanes l then s.laneArm l else s) (s.advTo (s.cclkAfter 0)))

/-- EVL_DISARM_ALL (R433): every lane of `lanes` is disarmed at one CCLK edge. -/
def execEvlDisarmAll (lanes : Word) (s : State) : Res :=
  .next ((List.range 32).foldl (fun s l => if bitAt lanes l then s.laneDisarm l else s) (s.advTo (s.cclkAfter 0)))

/-- EVL_PULSE (R426): the slot of lane `l` fires and the leading edge of its next pulse is placed. -/
def execEvlPulse (l : Fin 32) (s : State) : Res :=
  if !s.laneReady l || (s.lane l).set.mode = 2 then .next s
  else
    let g := s.laneNext l
    let s := s.laneFire l
    .next ((s.advTo (s.tickOfOt g)).lanePulse l)

/-- EVL_TRAILING_EDGE (R426): the pulse in progress on lane `l` ends; a finite train may end with it. -/
def execEvlTrailingEdge (l : Fin 32) (s : State) : Res :=
  match (s.lane l).trail with
  | none => .next s
  | some e =>
    let s := (s.advTo (s.tickOfOt ((s.lane l).endG e))).laneFall l e
    let x := s.lane l
    .next (if x.state = .running && x.latePulse.isNone && x.set.ended x.idx then s.laneOver l else s)

/-- EVL_LEVEL (R430): a LEVEL lane takes its level at its time, or at the end of a pulse in progress. -/
def execEvlLevel (l : Fin 32) (s : State) : Res :=
  let x := s.lane l
  if !s.laneReady l || x.set.mode ≠ 2 then .next s
  else
    let g := match x.trail with
      | some e => max (s.laneNext l) (x.endG e)
      | none => s.laneNext l
    let s := s.laneFire l
    .next ((s.advTo (s.tickOfOt g)).laneLevel l)

/-- R27, R350: OT has jumped by `d` with a step of DT: the armed trains are judged again, and pulses in progress keep
their length. -/
def State.evlJump (s : State) (d : Int) : State :=
  (List.range 32).foldl (fun s l =>
    let s := s.updLane l (fun x => { x with
      trail := x.trail.map (· + d), lastEnd := x.lastEnd.map (· + d), latePulse := x.latePulse.map (· + d * 1000) })
    let x := s.lane l
    if (x.state = .armed || x.state = .running) && x.latePulse.isNone && !x.set.ended x.idx then
      if s.lanePast l s.otG ≤ x.idx then s else (s.slotStat l 3).laneJudge l s.otG
    else s) s

/-- R425: a commit changes EVL_COMP: it applies to leading edges from 1 ms after the commit edge. -/
def State.evlCommit (s : State) (old : Tab Word) : State :=
  (List.range 32).foldl (fun s l =>
    if tget rwsDef old (Reg.EVL_COMP l) = s.ac (Reg.EVL_COMP l) then s
    else s.updLane l (fun x => { x with
      comp := match x.compNew with
        | some (t, _) => if s.time.now < t then x.comp else sfld (tget rwsDef old (Reg.EVL_COMP l)) 0 24
        | none => sfld (tget rwsDef old (Reg.EVL_COMP l)) 0 24
      compNew := some (s.time.now + msTicks, sfld (s.ac (Reg.EVL_COMP l)) 0 24) })) s

end Sys2Proof.Machine
end

