-- ==== Sys2Proof/Machine/Leap.lean ====
section
/-!
DEFINITION. The leap table (R19–R24, R51, R52) and the civil calendar it needs.
-/

namespace Sys2Proof.Machine

/-- Year, month and day of a day counted from 1970-01-01, in the Gregorian calendar. -/
def civil (days : Nat) : Nat × Nat × Nat :=
  let z := days + 719468
  let era := z / 146097
  let doe := z % 146097
  let yoe := (doe - doe / 1460 + doe / 36524 - doe / 146096) / 365
  let doy := doe - (365 * yoe + yoe / 4 - yoe / 100)
  let mp := (5 * doy + 2) / 153
  let d := doy - (153 * mp + 2) / 5 + 1
  let m := if mp < 10 then mp + 3 else mp - 9
  (yoe + era * 400 + (if m ≤ 2 then 1 else 0), m, d)

/-- The day counted from 1970-01-01 of a date, for years from 1970 on. -/
def daysOf (y m d : Nat) : Nat :=
  let y := if m ≤ 2 then y - 1 else y
  let yoe := y % 400
  let doy := (153 * (if 2 < m then m - 3 else m + 9) + 2) / 5 + d - 1
  y / 400 * 146097 + (yoe * 365 + yoe / 4 - yoe / 100 + doy) - 719468

/-- NEW_OFFSET of a leap (R19). -/
def Backup.newOffset (b : Backup) (delete : Bool) : Int := if delete then b.offset - 1 else b.offset + 1

/-- R19: a pending leap at `at_` would be valid now. -/
def State.leapValid (s : State) (at_ : Nat) (delete : Bool) : Bool :=
  let u := (at_ : Int) - s.vbat.newOffset delete
  decide (0 ≤ u) && u % 86400 == 0 && (civil (u / 86400).toNat).2.2 == 1 &&
    decide (secUnit * (s.sec + 60) + s.time.dt % secUnit < secUnit * at_) &&
    decide (secUnit * at_ ≤ secUnit * (s.sec + 400 * 86400) + s.time.dt % secUnit)

/-- R20: precedence of the sources. -/
def LeapSource.rank : LeapSource → Nat
  | .recipe => 0 | .gnss => 1 | .host => 2

/-- R20, R22: a source may change the pending leap now. -/
def State.leapMay (s : State) (src : LeapSource) : Bool :=
  !s.vbat.frozen && (match s.vbat.pend with
    | some p => decide (p.source.rank ≤ src.rank)
    | none => true)

/-- R23: CS037 follows the leap table: armed while LEAP_AT lies within 86,400 s, disarmed while no leap is
pending. -/
def State.leapSync (s : State) : State :=
  match s.vbat.pend with
  | none => if (s.slot 37).armed then s.slotDisarm 37 else s
  | some p =>
    let t : St64 := BitVec.ofNat 64 (stSec * p.at_)
    if (s.slot 37).armed && (s.slot 37).time = t then s
    else if secUnit * p.at_ ≤ s.time.dt + 86400 * secUnit then s.slotArmBound 37 t 0 0 false
    else s.slotDisarm 37

/-- R22: FROZEN as it follows from the pending leap and DT. -/
def State.leapFrozen (s : State) : State :=
  let f := match s.vbat.pend with
    | some p => decide (p.at_ ≤ s.sec + 60)
    | none => false
  { s with vbat := { s.vbat with frozen := f } }

/-- R20, R23: the pending leap is set, replaced or cancelled: EV013, CS037 and the smear follow. -/
def State.leapPut (s : State) (p : Option PendLeap) : State :=
  if s.vbat.pend = p then s
  else
    let s := s.smearCancel
    let s : State := { s with
      vbat := { s.vbat with pend := p, frozen := false }, srv := { s.srv with leapSetAt := s.nowSt } }
    ((s.raise 13).leapSync.leapFrozen).pushView s.nowSt

/-- R23, R24: the leap takes effect for stamps from `t` on: OFFSET becomes NEW_OFFSET, the pending leap clears and EV014
is raised. -/
def State.leapApply (s : State) (t : Nat) : State :=
  match s.vbat.pend with
  | none => s
  | some p =>
    let s : State := { s with
      vbat := { s.vbat with offset := s.vbat.newOffset p.delete, pend := none, frozen := false }
      srv := { s.srv with smear := none } }
    (s.leapSync.raise 14).pushView t

/-- R52: the LEAP_AT staged for a host command. -/
def State.leapStaged (s : State) : Nat :=
  (s.rd Reg.TSC_LEAP_HOST_AT_LO).toNat + fld (s.rd Reg.TSC_LEAP_HOST_AT_HI) 0 16 * 2 ^ 32

/-- R52: HOST_EN. -/
def State.leapHostEn (s : State) : Bool := bitAt (s.ac Reg.TSC_LEAP_POLICY) 1

/-- R52: a host command that inserts or deletes a second at the staged LEAP_AT; refused with EV011. -/
def State.leapHost (s : State) (delete : Bool) : State :=
  let at_ := s.leapStaged
  if s.leapHostEn && s.leapMay .host && s.leapValid at_ delete then s.leapPut (some ⟨at_, delete, .host⟩)
  else s.raise 11

/-- R52: a host command that cancels the pending leap; refused with EV011. -/
def State.leapCancel (s : State) : State :=
  if s.leapHostEn && !s.vbat.frozen then s.leapPut none else s.raise 11

/-- LEAP_HOST_INSERT (R52): TSC_LEAP_HOST_CMD is written with 0b01. -/
def execLeapHostInsert (s : State) : Res := .next (s.leapHost false)

/-- LEAP_HOST_DELETE (R52): TSC_LEAP_HOST_CMD is written with 0b10. -/
def execLeapHostDelete (s : State) : Res := .next (s.leapHost true)

/-- LEAP_HOST_CANCEL (R52): TSC_LEAP_HOST_CMD is written with 0b11. -/
def execLeapHostCancel (s : State) : Res := .next s.leapCancel

/-- LEAP_FREEZE (R22): DT reaches LEAP_AT − 60 s and FROZEN becomes 1. -/
def execLeapFreeze (s : State) : Res :=
  match s.vbat.pend with
  | none => .next s
  | some p =>
    let s := (s.advDt (secUnit * (p.at_ - 60))).leapFrozen
    .next (s.pushView s.nowSt)

/-- LEAP_APPLY (R23): CS037 fires and the leap is applied at LEAP_AT, or at the late boundary of R35. -/
def execLeapApply (s : State) : Res :=
  if !s.slotReady 37 || s.vbat.pend.isNone then .next s
  else
    let x := s.slot 37
    let (t, s) := (s.slotFire 37).slotBoundary x
    .next ((s.leapApply t).timeStateChange)

end Sys2Proof.Machine
end

