-- ==== Sys2Proof/Machine/Ptp.lean ====
section
/-!
DEFINITION. The grandmaster: Sync emission (R229–R234), Announce (R238–R241), foreign masters (R225) and unicast
negotiation (R243–R245).
-/

namespace Sys2Proof.Machine

/-! ## Sync instants -/

/-- R229, R232: the spacing of the nominal instants of slot `i`: multicast Sync of a port, or wheel ticks. -/
def State.syncPeriod (s : State) (i : Nat) : Nat :=
  if 88 ≤ i then stSec / 128
  else
    let l := s.ptpLog s.cfg.gen (i % 8) 0
    if 0 ≤ l then stSec * 2 ^ l.toNat else stSec / 2 ^ (-l).toNat

/-- R229, R232: slot `i` has work: multicast on profiles 1 and 2, the wheel on profile 3. -/
def State.syncUsed (s : State) (i : Nat) : Bool :=
  let p := s.profile s.cfg.gen (i % 8)
  if 88 ≤ i then p == 3 else p == 1 || p == 2

/-- R148, R229, R232: slot `i` is armed for the first nominal instant after `after` that is not past, moved to the
grid. -/
def State.syncArm (s : State) (i after : Nat) : State :=
  if !s.syncUsed i then s.slotDisarm i
  else
    let n := i % 8
    let p := s.syncPeriod i
    let now := (s.time.dt + s.slotLead i) / stUnit
    let k := max (after / p + 1) (now / p)
    let at_ (k : Nat) : St64 := BitVec.ofNat 64 (s.gridCeil n (k * p))
    s.slotArmBound i (if s.slotPast i (at_ k) then at_ (k + 1) else at_ k) 0 1 false

/-- The nominal instant whose grid point a Sync slot was armed for. -/
def State.nominalOf (s : State) (i : Nat) (x : Slot) : Nat :=
  let p := s.syncPeriod i
  s.dtOf x.time / stUnit / p * p

/-- R112: the cluster that composes the multicast Sync of port `n`. -/
def mcCluster (n : Nat) : Nat := 4 * n % 32

/-- SYNC_MC_FIRE (R229): the multicast Sync slot of port `n` fires: it is armed for the following nominal instant,
and unless the port is silent (R242) a Sync item with the next sequenceId enters the priority queue. Its T is the slot's time
(R29), which R148 has put on the grid. -/
def execSyncMcFire (n : Fin 8) (s : State) : Res :=
  let i := 80 + n.val
  if !s.slotReady i then .next s
  else
    let x := s.slot i
    let s := s.slotFire i
    let s := s.syncArm i (s.nominalOf i x)
    if s.ptpState n ≠ 1 then .next s
    else
      let seq := (s.ptpPort n).seq
      let item : SyncItem := { id := s.cls.nextId, port := n, seq := seq, T := s.dtOf x.time / stUnit
                               origin := s.nowSt, grant := none, gen := s.cfg.gen, dueAt := s.time.now }
      let s := { s with cls := { s.cls with nextId := s.cls.nextId + 1 } }
      let s := s.updPtpPort n (fun p => { p with seq := (seq + 1) % 65536 })
      .next (s.prioPush (mcCluster n) (.sync item))

/-! ## The unicast wheel -/

/-- R233: SPACE of port `n`, in ns. -/
def State.ucSpace (s : State) (n : Nat) : Nat :=
  let v := fld (s.ac (Reg.SRV_PTP_UC_SPACE n)) 0 16
  if v = 0 then autoSpace (s.mode n) (s.ptpAuth s.cfg.gen n) else v

/-- R233: CAP of port `n`. -/
def State.ucCap (s : State) (n : Nat) : Nat := 7000000 / max 1 (s.ucSpace n)

/-- R232: the entries whose Sync grant of port `n` falls on tick `tau` at nominal stamp `t`, in ascending index. -/
def State.tickList (s : State) (n tau t : Nat) : List Nat :=
  (s.ptp.grants.filter (fun p =>
    let g := p.2.setAt t
    g.valid && g.port == n && (match g.sync with
      | some x => decide (secOf t < x.exp) && tau % phaseMod x.log == g.phase
      | none => false))).map (·.1)

/-- SYNC_UC_TICK (R232): a wheel tick of port `n` fires: the slot is armed for the next tick and the tick list is
built, each item with its T on the grid. -/
def execSyncUcTick (n : Fin 8) (s : State) : Res :=
  let i := 88 + n.val
  if !s.slotReady i then .next s
  else
    let x := s.slot i
    let s := s.slotFire i
    let t := s.nominalOf i x
    let s := s.syncArm i t
    if s.ptpState n ≠ 1 then .next s
    else
      let lead := (if s.mode n = 7 then 464 else 400) * 65536
      let ids := s.tickList n (t % stSec / (stSec / 128)) t
      let items := ids.zipIdx.map (fun p =>
        let T := s.gridCeil n (t + p.2 * s.ucSpace n * 65536)
        ({ idx := p.1, at_ := T - lead, T := T, origin := s.nowSt } : UcItem))
      .next (s.updPtpPort n (fun p => { p with items := p.items ++ items }))

/-- SYNC_UC_ITEM_ISSUE (R232): the next item of port `n` is placed in the priority queue of the client's home
cluster at T less the lead, with the client's next sequenceId. An item of a port that no longer serves is not made (R226, R242). -/
def execSyncUcItemIssue (n : Fin 8) (s : State) : Res :=
  match (s.ptpPort n).items with
  | [] => .next s
  | u :: r =>
    let s := (s.advTo (s.cclkAtG (u.at_ * 1000))).updPtpPort n (fun p => { p with items := r })
    if s.ptpState n ≠ 1 then .next s
    else
      let e := s.grant u.idx
      let item : SyncItem := { id := s.cls.nextId, port := n, seq := e.syncSeq, T := u.T, origin := u.origin
                               grant := some u.idx, gen := s.cfg.gen, dueAt := s.time.now }
      let s := { s with cls := { s.cls with nextId := s.cls.nextId + 1 } }
      let s := s.updGrant u.idx (fun e => { e with syncSeq := (e.syncSeq + 1) % 65536 })
      let home := s.homeOf (addrHash (s.seedAt s.nowSt).1 e.cur.addr)
      .next (s.prioPush home (.sync item))

/-! ## Announce -/

/-- R240: the range of logIntervals clamps nothing here; the logInterval of an Announce as a number of ticks. -/
def logTicks (l : Int) : Nat := if 0 ≤ l then sTicks * 2 ^ l.toNat else sTicks / 2 ^ (-l).toNat

/-- R239–R241: an Announce of port `n` composed now, without its TLV. -/
def State.announceMsg (s : State) (n seq : Nat) : List Byte :=
  let g := s.cfg.gen
  let pr := s.profile g n
  let v := s.timeView
  let q := s.quality v
  let sec := s.sec
  let lead := fld (s.ac Reg.SRV_PTP_LEAP_LEAD) 0 17
  let leaping (del : Bool) : Bool := match v.leap with
    | some (at_, d) => d == del && decide (at_ - lead ≤ sec) && decide (sec < at_)
    | none => false
  let flags := bn (pr == 3) 10 + bn (leaping false) 0 + bn (leaping true) 1 +
    bn (v.ts != .untraceable && v.offsetValid) 2 + bn true 3 + bn q.timeTr 4 + bn q.freqTr 5
  let prio := s.ac Reg.SRV_PTP_GM_PRIO
  ptpHeader 0xB (if s.ptpAuth g n then 90 else 64) (s.ptpDomain g n) flags 0 (s.portIdent g n) seq 5
      (if pr = 3 then 0x7F else s.ptpLog g n 1) ++ ptpTime s.nowSt ++ beBytes 2 (wrap 16 (v.offsetAt sec)) ++ [0] ++
    [BitVec.ofNat 8 (if pr = 1 then fld prio 0 8 else 128), BitVec.ofNat 8 (if pr = 1 then q.cls1 else q.cls2),
      BitVec.ofNat 8 q.acc] ++ beBytes 2 q.oslv ++ [BitVec.ofNat 8 (fld prio 8 8)] ++ s.clockId g ++ beBytes 2 0 ++
    [BitVec.ofNat 8 q.src]

/-- R238, R242, R248: an Announce of port `n` is composed and queued, when the port serves and has its key. -/
def State.announce (s : State) (n : Nat) (grant : Option Nat) (seq : Nat) : State :=
  if s.ptpState n ≠ 1 then s
  else match s.signed s.cfg.gen n s.time.now (s.announceMsg n seq) with
    | none => s
    | some m =>
      let head := { s.syncHead s.cfg.gen n grant with sport := 320, dport := 320 }
      let s := { s with ptp := { s.ptp with
        annSec := s.sec, annCount := if s.ptp.annSec = s.sec then s.ptp.annCount + 1 else 1 } }
      (s.bump Reg.SRV_PTP_ANN_SENT).bePush n .core (head.len m.length) m (some head)

/-- R238: time passes to the CCLK edge of an Announce that is due at stamp `due`. DESIGN CHOICE (log entry 66): one beyond the
device-wide limit of 524,288 in a second waits for the next DT second. -/
def State.annTurn (s : State) (due : Nat) : State :=
  let s := s.advDt (stUnit * due)
  let s := s.advTo (s.cclkAfter 0)
  if s.ptp.annSec = s.sec ∧ 524288 ≤ s.ptp.annCount then
    let s := s.advDt (secUnit * (s.sec + 1))
    s.advTo (s.cclkAfter 0)
  else s

/-- ANNOUNCE_SEND (R238): the firmware sends an Announce on port `n`: every 2^LOG_ANNOUNCE s of DT on profiles 1 and 2, or
to the client of a grant at its granted rate on profile 3. -/
def execAnnounceSend (n : Fin 8) (grant : Option (Fin 65536)) (s : State) : Res :=
  let pr := s.profile s.cfg.gen n
  if s.time.st = .unset || s.taskStopped 1 then .next s
  else match grant with
  | none =>
    if pr = 1 || pr = 2 then
      let due := max (s.ptpPort n).annAt s.nowSt
      let s := s.annTurn due
      let seq := (s.ptpPort n).annSeq
      let s := s.updPtpPort n (fun p => { p with
        annAt := due + logStamp (s.ptpLog s.cfg.gen n 1), annSeq := (seq + 1) % 65536 })
      .next (s.announce n none seq)
    else .next s
  | some i =>
    match (s.grant i).cur.announce with
    | none => .next s
    | some g =>
      if pr ≠ 3 || (s.grant i).cur.port != n.val then .next s
      else
        let due := max (s.grant i).annAt s.nowSt
        let s := s.annTurn due
        if g.exp ≤ s.sec then .next s
        else
          let seq := (s.grant i).annSeq
          let s := s.updGrant i (fun e => { e with annAt := due + logStamp g.log, annSeq := (seq + 1) % 65536 })
          .next (s.announce n (some i) seq)

/-- FOREIGN_ANNOUNCE (R225): an Announce in the grandmaster domain of port `n` is recorded with EV179; one with an AUTHENTICATION
TLV that the port does not take is dropped and counted (R2). -/
def execForeignAnnounce (n : Fin 8) (payload : List Byte) (s : State) : Res :=
  if byteAt payload 0 % 16 = 0xB && s.profile s.cfg.gen n != 0 && byteAt payload 4 == s.ptpDomain s.cfg.gen n && !s.taskStopped 1 then
    if authCount payload ≠ 0 && !s.ptpAuthOk (s.ptpAuth s.cfg.gen n) payload then .next (s.bump Reg.SRV_PTP_DROP_AUTH)
    else .next ((s.updPtpPort n (fun p => { p with
      foreignClass := byteAt payload 48, foreignCount := min 65535 (p.foreignCount + 1) })).raise 179)
  else .next s

/-! ## Unicast negotiation -/

/-- The tlvTypes of unicast negotiation: request, grant, cancel and acknowledge. -/
def negotiates (t : Nat × List Byte) : Bool := decide (4 ≤ t.1) && decide (t.1 ≤ 7)

/-- R225, R244, R248: a signalling message on port `n` that the firmware handles: its TLVs; or the
counter of its drop, which takes a message without unicast negotiation too. -/
def State.sigTlvs (s : State) (n : Nat) (p : List Byte) : Except Nat (List (Nat × List Byte)) :=
  let g := s.cfg.gen
  if byteAt p 0 % 16 ≠ 0xC || s.profile g n ≠ 3 || byteAt p 4 ≠ s.ptpDomain g n then .error Reg.SRV_PTP_DROP_OTHER
  else if !s.ptpAuthOk (s.ptpAuth g n) p then .error Reg.SRV_PTP_DROP_AUTH
  else
    let tlvs := ptpTlvs 16 (slice p 44 (ptpLen p - 44))
    if tlvs.any negotiates then .ok tlvs else .error Reg.SRV_PTP_DROP_OTHER

/-- R243: the entry of a client as the firmware last wrote it. -/
def State.grantOf (s : State) (n : Nat) (a : BitVec 128) : Option Nat :=
  ((s.ptp.grants.map (·.1) ++ s.ptp.grantPend.map (·.idx)).eraseDups).find? (fun i =>
    let g := s.grantLatest i
    g.valid && g.port == n && g.addr == a)

/-- R243: the lowest index of 65,536 that no client has. -/
def State.grantFree (s : State) : Option Nat :=
  (List.range (min 65536 (s.ptp.grants.length + s.ptp.grantPend.length + 1))).find? (fun i =>
    !(s.grantLatest i).valid && !(s.grant i).cur.valid)

/-- R243: the entries in use. -/
def State.grantsUsed (s : State) : Nat := (s.ptp.grants.filter (fun p => p.2.cur.valid)).length

/-- R243: a place in the directory for a client: one of the four of its bucket, or the overflow CAM; places of the
CAM are numbered from 131,072. -/
def State.grantPlace (s : State) (n : Nat) (a : BitVec 128) : Option Nat :=
  let used := s.ptp.grants.filter (fun p => p.2.cur.valid) |>.map (fun p => p.2.place)
  let pend := s.ptp.grantPend.filter (fun p => p.new.valid) |>.map (fun p => p.place)
  let b := Config.grantHash s.ptp.hashKey n a % 32768
  let places := (List.range 4).map (fun w => 4 * b + w) ++ (List.range 1024).map (fun w => 131072 + w)
  places.find? (fun w => !used.contains w && !pend.contains w)

/-- R234: the phase for a Sync grant at `log`: the one whose ticks carry the fewest items, the lowest of equals;
nothing when a tick of it would exceed CAP. -/
def State.findPhase (s : State) (n skip : Nat) (log : Int) : Option Nat :=
  let m := phaseMod log
  let loads := (List.range 128).map (fun t => s.tickLoad n t skip)
  let total (p : Nat) := ((List.range 128).map (fun t => if t % m = p then loads.getD t 0 else 0)).sum
  let best := (List.range m).foldl (fun b p => if total p < total b then p else b) 0
  if (List.range 128).any (fun t => t % m == best && decide (s.ucCap n < loads.getD t 0 + 1)) then none else some best

/-- R244: the logInterval is allowed for a message type. -/
def State.logOk (s : State) (type : Nat) (log : Int) : Bool :=
  let w := s.ac Reg.SRV_PTP_UC_LOG
  decide (log ≤ 0) && (if type = 0 then decide (sfld w 0 8 ≤ log)
    else if type = 0xB then decide (sfld w 8 8 ≤ log)
    else if type = 9 then decide (sfld w 16 8 ≤ log) else false)

/-- R244, R245: the firmware answers the client of frame `f` on port `n` with a TLV. -/
def State.sigReply (s : State) (n : Nat) (f : Frame) (tlv : List Byte) : State :=
  s.portSignal n (f.kind == .udp6) f.src (if f.vlans = 1 then some f.tci else none) (slice f.payload 20 10) tlv

/-- R244: a request is denied: a grant of duration 0. -/
def State.grantDeny (s : State) (n : Nat) (f : Frame) (type : Nat) (log : Int) : State :=
  ((s.bump Reg.SRV_PTP_DENY).raiseLim 178 0 sTicks).sigReply n f (grantTlv type log 0)

/-- R234, R243–R245: the request of the client of frame `f` on port `n` for a message type. -/
def State.grantRequest (s : State) (n : Nat) (f : Frame) (type : Nat) (log : Int) (dur : Nat) : State :=
  if s.ptpState n ≠ 1 || !s.logOk type log then s.grantDeny n f type log
  else
    let found := s.grantOf n f.src
    let slot : Option (Nat × Nat) := match found with
      | some i => some (i, (s.grant i).place)
      | none => match s.grantFree, s.grantPlace n f.src with
        | some i, some w => some (i, w)
        | _, _ => none
    match slot with
    | none => (s.bump Reg.SRV_PTP_DENY_FULL).grantDeny n f type log
    | some (i, place) =>
      let old := if found.isSome then s.grantLatest i else {}
      let same := match old.sync with
        | some x => x.log == log
        | none => false
      let phase := if type ≠ 0 then some old.phase else if same then some old.phase else s.findPhase n i log
      match phase with
      | none => s.grantDeny n f type log
      | some p =>
        let w := s.ac Reg.SRV_PTP_UC_DUR
        let d := max (fld w 0 16) (min (fld w 16 16) dur)
        let sec := (s.gAt (s.cclkAfter 8)).toNat / 1000 / stSec
        let who : GrantSet := { old with
          port := n, addr := f.src, v6 := f.kind == .udp6, tagged := f.vlans == 1
          portId := slice f.payload 20 10, phase := p, uport := f.sport, tci := f.tci }
        let s := s.grantWrite i (who.put type (some ⟨log, sec + d⟩)) place
        (s.bump Reg.SRV_PTP_GRANT).sigReply n f (grantTlv type log d)

/-- R245: the client of frame `f` on port `n` cancels the grant of a message type, and the firmware acknowledges it. -/
def State.grantCancel (s : State) (n : Nat) (f : Frame) (type : Nat) : State :=
  let s := match s.grantOf n f.src with
    | some i =>
      if ((s.grantLatest i).get type).isSome then
        (s.bump Reg.SRV_PTP_CANCEL).grantWrite i ((s.grantLatest i).put type none) (s.grant i).place
      else s
    | none => s
  s.sigReply n f (ackTlv type)

/-- R244, R245: one TLV of a signalling message. -/
def State.sigTlv (n : Nat) (f : Frame) (s : State) (t : Nat × List Byte) : State :=
  if t.1 = 4 && t.2.length = 6 then
    s.grantRequest n f (byteAt t.2 0 / 16) (Machine.signed 8 (byteAt t.2 1)) (ofBe (t.2.drop 2))
  else if t.1 = 6 && t.2.length = 2 then s.grantCancel n f (byteAt t.2 0 / 16)
  else s

/-- R225, R244, R245: the firmware handles a signalling message on port `n`, TLV by TLV, or drops and counts it. -/
def State.signalling (s : State) (n : Nat) (f : Frame) : State :=
  if s.taskStopped 1 then s
  else match s.sigTlvs n f.payload with
    | .error a => s.bump a
    | .ok tlvs => tlvs.foldl (State.sigTlv n f) s

/-- UNICAST_REQUEST (R244): a signalling message with requests arrives on port `n`: the firmware answers each of its
REQUEST_UNICAST_TRANSMISSION TLVs with a grant or a denial, and handles what else the message carries. -/
def execUnicastRequest (n : Fin 8) (f : Frame) (s : State) : Res := .next (s.signalling n f)

/-- UNICAST_CANCEL (R245): a signalling message with cancellations arrives on port `n`: each of its CANCEL_UNICAST_TRANSMISSION
TLVs ends the grant it names, and the firmware acknowledges it and handles what else the message carries. -/
def execUnicastCancel (n : Fin 8) (f : Frame) (s : State) : Res := .next (s.signalling n f)

/-- GRANT_EFFECT (R245): the oldest written change of a grant entry takes effect at its eighth CCLK edge, a
boundary of R29. -/
def execGrantEffect (s : State) : Res :=
  match s.ptp.grantPend with
  | [] => .next s
  | p :: r =>
    let s := s.advTo p.due
    let s := { s with ptp := { s.ptp with grantPend := r } }
    .next (s.updGrant p.idx (fun e =>
      let fresh := e.cur.dresp.isNone || e.cur.addr != p.new.addr
      { e.turn p.new s.nowSt with
        place := p.place
        tokens := if fresh then 1024 else e.tokens
        tokAt := if fresh then s.nowSt else e.tokAt
        annSeq := if e.cur.valid then e.annSeq else 0
        syncSeq := if e.cur.valid then e.syncSeq else 0 }))

/-- GRANT_EXPIRE (R245): the grant of entry `i` for a message type reaches its duration and expires; an entry
without a grant is free (R243). -/
def execGrantExpire (i : Fin 65536) (type : Fin 16) (s : State) : Res :=
  match (s.grant i).cur.get type with
  | none => .next s
  | some g =>
    let s := s.advDt (secUnit * g.exp)
    .next (s.updGrant i (fun e => e.turn (e.cur.put type none) (stSec * g.exp)))

/-- R258: the 64 bytes of a grant entry. DESIGN CHOICE (log entry 68): UPORT and TCI are little-endian numbers. -/
def GrantEntry.bytes (e : GrantEntry) : List Byte :=
  let g := e.cur
  let log (x : Option Grant) : Byte := BitVec.ofNat 8 (match x with | some y => wrap 8 y.log | none => 0)
  let exp (x : Option Grant) : List Byte := leBytes 4 (match x with | some y => y.exp | none => 0)
  let ctrl := g.port + bn g.valid 3 + bn g.v6 4 + bn g.tagged 5
  beBytes 16 g.addr.toNat ++ [BitVec.ofNat 8 ctrl, 0] ++ (g.portId ++ List.replicate 10 0).take 10 ++
    [log g.announce, log g.sync, log g.dresp, BitVec.ofNat 8 g.phase] ++ exp g.announce ++ exp g.sync ++ exp g.dresp ++
    leBytes 2 e.annSeq ++ leBytes 2 e.syncSeq ++ leBytes 2 g.uport ++ leBytes 2 g.tci ++ leBytes 3 e.tokens ++
    List.replicate 9 0

/-- GRANT_READ (R258): SRV_PTP_GR_CMD.READ copies the entry at SRV_PTP_GR_IDX into the window. -/
def State.grantRead (s : State) : State :=
  let e := s.grant (fld (s.rd Reg.SRV_PTP_GR_IDX) 0 16)
  { s with ptp := { s.ptp with grWin := wordsOf e.bytes, grValid := e.cur.valid } }

/-- GRANT_READ (R258): SRV_PTP_GR_CMD.READ is written. -/
def execGrantRead (s : State) : Res := .next s.grantRead

end Sys2Proof.Machine
end

