-- ==== Sys2Proof/Machine/StepEdge.lean ====
section
/-!
DEFINITION. A step of DT and all that follows it (R25–R27, R152, R221, R256, R349, R350), and the output slots of the clock core
(R351, R352, R355).
-/

namespace Sys2Proof.Machine

/-! ## Output instants -/

/-- OT now, in units of 2⁻¹⁶ ns. -/
def State.otNow (s : State) : Int := (s.time.dt / stUnit : Nat) + s.clk.slew

/-- The time for which an output slot is armed for the output second `sec`: PPSOUTk and CASC_OUT before it by their
compensation, TODOUT after it by OUT_OFS (R351, R352, R355). In units of 2⁻¹⁶ ns, to the lower unit. -/
def State.outTime (s : State) (i : Nat) (sec : Int) : Int :=
  let ofs : Int :=
    if i = 46 then (fld (s.ac Reg.CLK_TOD_CFG) 12 10 * stMs * 1000 : Nat)
    else if i = 47 then -(sfld (s.ac Reg.CLK_CASC_CFG) 8 24 * psG)
    else -(sfld (s.ac (Reg.CLK_PPS_COMP (i - 32))) 0 24 * psG)
  stSec * sec + ofs / 1000

/-- An output slot is in use. -/
def State.outUsed (s : State) (i : Nat) : Bool :=
  if i = 46 then bitAt (s.ac Reg.CLK_TOD_CFG) 0
  else if i = 47 then bitAt (s.ac Reg.CLK_CASC_CFG) 0
  else
    let c := s.ac (Reg.CLK_PPS_CFG (i - 32))
    bitAt c 0 && !bitAt c 4

/-- R349: output slot `i` is armed for the first output instant after OT plus its lead whose second is at least
`least`. -/
def State.outArmFrom (s : State) (i : Nat) (least : Int) : State :=
  if !s.outUsed i then s.slotDisarm i
  else
    let first : Int := max least ((s.otNow - stSec) / stSec)
    let late (t : Int) : Bool := s.slotPast i (BitVec.ofInt 64 t)
    let t := match ((List.range 5).map (fun k => s.outTime i (first + (k : Nat)))).find? (fun t => !late t) with
      | some t => t
      | none => s.outTime i (first + 5)
    s.slotArmBound i (BitVec.ofInt 64 t) 0 2 false

/-- R349: output slot `i` is armed for the next output instant. -/
def State.outArm (s : State) (i : Nat) : State := s.outArmFrom i ((s.otNow - stSec) / stSec)

/-- The output slots of the clock core: PPSOUT0–3, TODOUT and CASC_OUT. -/
def outSlots : List Nat := [32, 33, 34, 35, 46, 47]

/-! ## The step edge -/

/-- A stamp moved by a step. -/
def moved (d : Int) (t : Nat) : Nat := ((t : Int) + d).toNat

/-- R26, R152: committed frames are discarded, and the instants of the frames under way, and of the grid, which is measured against
TBCLK, follow DT. A reservation whose frame is discarded ends. DESIGN CHOICE (log entry 50): R152 names the frames in or on their
way to the calendar; a wheel item that has not yet been issued is none, and is issued and sent after the step. -/
def State.stepPort (s : State) (d : Int) (n : Nat) : State :=
  let c := s.cal n
  let s := (c.frames.map (·.f) ++ c.handoff.map (·.f)).foldl State.dropStep s
  let g := d * 1000
  let span (w : Span) : Span := ⟨w.lo + g, w.hi + g⟩
  let s := s.updCal n (fun c => { c with
    frames := [], handoff := [], pouring := c.pouring.map (fun p => (p.1 + g, p.2.1, span p.2.2)) })
  let gone := (s.port n).be.filter (fun f => f.kind == .roughtime)
  let s := s.bump Reg.TSC_STEP_SQUASH gone.length
  s.updPort n (fun p => { p with
    be := p.be.filter (fun f => f.kind != .roughtime)
    beWire := p.beWire.map span
    reserved := (p.reserved.filter (fun r => r.1.kind != .roughtime)).map (fun r => (r.1, span r.2))
    gridPhase := ((p.gridPhase : Int) + g).toNat
    asymRx := p.asymRx.map (fun v => { v with edge := moved d v.edge })
    asymTx := p.asymTx.map (fun v => { v with edge := moved d v.edge }) })

/-- The stamps that divide requests by their ingress stamps follow DT. -/
def State.stepStamps (s : State) (d : Int) : State :=
  let m := moved d
  let n := s.srv.nts
  let nts := { n with
    boundary := m n.boundary, nextAt := m n.nextAt
    rotateAt := if s.ntsImported then n.rotateAt else m n.rotateAt }
  { s with
    cfg := { s.cfg with
      boundary := m s.cfg.boundary, deferred := s.cfg.deferred.map (fun x => { x with tc := moved (d * 1000) x.tc }) }
    cls := { s.cls with reseedStamp := m s.cls.reseedStamp, stepId := s.cls.nextId }
    srv := { s.srv with
      views := s.srv.views.map (fun v => (m v.1, v.2)), nts := nts
      fading := s.srv.fading.map (fun f => { f with start := m f.start, cancelled := f.cancelled.map m })
      bcastAt := s.srv.bcastAt.map (fun p => (p.1, m p.2)) }
    rt := { s.rt with
      retryAt := m s.rt.retryAt, opens := s.rt.opens.map (fun p => (p.1, { p.2 with lastClose := m p.2.lastClose })) }
    ptp := { s.ptp with
      grants := s.ptp.grants.map (fun p => (p.1, { p.2 with
        past := p.2.past.map (fun x => (m x.1, x.2)), tokAt := m p.2.tokAt, annAt := m p.2.annAt }))
      ports := s.ptp.ports.map (fun p => (p.1, { p.2 with annAt := m p.2.annAt })) }
    clk := { s.clk with seg := s.clk.seg.map (fun g => { g with start := m g.start }) } }

/-- R256: V of the clients does not move at a step, and exchanges with earlier stamps are discarded. -/
def State.stepClients (s : State) (d : Int) : State :=
  (List.range 2).foldl (fun s i => (s.updClient i (fun c => { c with phi := c.phi - d, tu := moved d c.tu, fit := [] })).clForget i) s

/-- An offset of an unlabelled reference, reduced to the nearest second (R307). -/
def nearSec (o : Int) : Int := (o + stSec / 2) % stSec - stSec / 2

/-- R307: measurements of references taken before the edge are referred to the post-step DT; WTR keeps its length. -/
def State.stepRefs (s : State) (d : Int) : State :=
  let s := (List.range 13).foldl (fun s m =>
    let f (o : Int) : Int := if m < 8 then nearSec (o + d) else o + d
    s.updMon m (fun x => { x with
      o := f x.o, hist := x.hist.map (fun h => { h with o := f h.o })
      gate := x.gate.map (· + d), edgeDt := x.edgeDt + d
      pulse := x.pulse.map (moved d), wtrEnd := x.wtrEnd.map (fun e => ((e : Int) + stUnit * d).toNat) })) s
  { s with clk := { s.clk with d := { s.clk.d with e := s.clk.d.e + d, org := s.clk.d.org.map (· + d), fresh := s.clk.d.fresh.map (· + d) } } }

/-- R386: the firmware adds the step to b and to the predicted pulse. -/
def State.stepGnss (s : State) (d : Int) : State :=
  { s with gns := { s.gns with last := s.gns.last.map (fun e => { e with
      bias := e.bias + roundDiv (d * 1000) 65536, sec := ((e.sec : Int) + roundDiv d stSec).toNat }) } }

/-- R349, R350: OT does not move at a step, unless JUMP_EN lets the outputs jump before the first lock. -/
def State.stepSlew (s : State) (d : Int) : State :=
  if bitAt (s.ac Reg.CLK_SLEW_CFG) 16 && !s.clk.d.firstLock then s.evlJump d
  else
    let was := s.clk.slew
    let s : State := { s with clk := { s.clk with slew := was - d, slewFrac := 0 } }
    if was = 0 && d ≠ 0 then s.raise 47 else s

/-- DT_STEP (R25): DT changes by `d` units of 2⁻¹⁶ ns at the present TBCLK edge, with all that follows: the record of
the step and EV012, what was stamped before it (R26, R152, R221), the compare slots (R27), the outputs (R349) and the
measurements (R256, R307, R423). A capture at a CCLK edge that coincides with the step edge returns the post-step DT (R42). -/
def State.dtStep (s : State) (d : Int) : State :=
  let mv (t : Nat) : Nat := ((t : Int) + stUnit * d).toNat
  let s : State := { s with time := { s.time with dt := mv s.time.dt, dtPrev := mv s.time.dt } }
  let s := (s.wr64 Reg.TSC_STEP_LAST_LO (wrap 64 d)).wr64 Reg.TSC_STEP_AT_LO s.st64.toNat
  let s := s.wr Reg.TSC_STEP_STAT (BitVec.ofNat 32 (min 65535 ((s.rd Reg.TSC_STEP_STAT).toNat + 1)))
  let s := s.raise 12
  let s := (List.range 8).foldl (fun s n => s.stepPort d n) s
  let (n, s) := s.carafeStep
  let s := (s.bump Reg.TSC_STEP_SQUASH n).stepStamps d
  let s := (((s.stepSlew d).stepClients d).stepRefs d).stepGnss d
  let s := ((List.range 224).map (32 + ·)).foldl (fun s i => s.slotStep d false i) s
  let s := s.timStep d
  let s := s.leapSync.leapFrozen
  let t := s.nowSt
  let s := (List.range 32).foldl (fun s k => s.closeArm k t) s
  let s := ((List.range 16).map (80 + ·)).foldl (fun s i => s.syncArm i t) s
  let s := outSlots.foldl State.outArm s
  s.deleReissue.timeStateChange

end Sys2Proof.Machine
end

