-- ==== Sys2Proof/Machine/ClockOps.lean ====
section
/-!
DEFINITION. DPLL0: the DCO word, the loop, the states, switching, holdover and its error model (R329–R348), and the
following of DPLL1–DPLL3 (R356).
-/

namespace Sys2Proof.Machine

/-- A fractional frequency of `n` ÷ `den` in units of 2⁻⁸⁰. -/
def frac80 (n : Int) (den : Nat) : Int := roundDiv (n * 2 ^ 80) den

/-- π in units of 10⁻²⁰. -/
def pi20 : Nat := 314159265358979323846

/-- DPLL0's record changed by a function. -/
def State.updD (s : State) (f : Dpll0 → Dpll0) : State := { s with clk := { s.clk with d := f s.clk.d } }

/-- MODE of reference `m` (R298). -/
def State.refMode (s : State) (m : Nat) : Nat := fld (s.ac (Reg.REF_CFG m)) 1 2

/-- R297: reference `m` carries frequency only. -/
def State.refFreq (s : State) (m : Nat) : Bool := m == 11 || decide (m < 8) && s.refMode m == 2

/-- R297: the type index of reference `m`. -/
def State.refType (s : State) (m : Nat) : Nat :=
  if m < 8 then (if s.refMode m = 2 then 2 else 1)
  else if m = 8 then 0 else if m = 11 then 4 else if m = 12 then 5 else 3

/-- CLK_SLOPE in units of 2⁻⁸⁰. -/
def State.slope80 (s : State) : Int := frac80 (fld (s.ac Reg.CLK_SLOPE) 0 10) 10000000000

/-- CLK_LOCK_PHASE in units of 2⁻¹⁶ ns. -/
def State.lockPhase (s : State) : Nat := fld (s.ac Reg.CLK_LOCK_PHASE) 0 20 * 65536

/-- R332: BW for reference `m`, in units of 0.1 mHz. -/
def State.refBw (s : State) (m : Nat) : Nat :=
  let t := s.refType m
  let bw := fld (s.ac (Reg.CLK_BW (if t = 5 then 1 else t))) 0 17
  let slow := decide ((s.ac (Reg.REF_FREQ_NUM m)).toNat < 1000000 * (s.ac (Reg.REF_FREQ_DEN m)).toNat)
  if t = 2 && slow then min bw 1000 else bw

/-! ## The DCO word -/

/-- The pull term of R331: none while r is 0 or frozen. -/
def State.pullTerm (s : State) : Int :=
  let r := s.clk.d.r
  if r = 0 || s.clk.d.freqOnly then 0 else if r < 0 then s.slope80 else -s.slope80

/-- R331: F of the loop before it is held to its range. -/
def State.loopWord (s : State) : Int :=
  let lim := s.slope80
  roundDiv (s.clk.d.y + max (-lim) (min lim (s.clk.d.yP + s.pullTerm))) (2 ^ 32)

/-- R340, R342: F in holdover: the aged average with its aging term, less y_osc. -/
def State.holdWord (s : State) : Int :=
  let d := s.clk.d
  let age : Int := if d.tN = 0 then 0 else roundDiv (d.aging * ((s.nowSt : Int) * d.tN - stSec * (d.tSum : Int))) (stSec * d.tN)
  roundDiv ((d.avg + age) * 2 ^ 16 - d.yOsc) (2 ^ 32)

/-- R46: the initial DCO word. -/
def State.firstWord (s : State) : Int := if s.vbat.avgValid then roundDiv s.vbat.avg (2 ^ 16) else 0

/-- R15: the greatest DCO word. -/
def wordMax : Int := 2 ^ 39 - 1
/-- R15: the least DCO word. -/
def wordMin : Int := -(2 ^ 39)

/-- The DCO word is set; it applies from the next TBCLK edge on (R16). -/
def State.setWord (s : State) (f : Int) : State :=
  { s with time := { s.time with freq := max wordMin (min wordMax f) } }

/-- R329: F follows the state of DPLL0. In the loop states y_int is clamped where F would leave its range (R331). -/
def State.dcoUpdate (s : State) : State :=
  match s.clk.d.state with
  | .freeRun => s.setWord s.firstWord
  | .holdover => s.setWord s.holdWord
  | _ =>
    let f := s.loopWord
    if wordMin ≤ f && f ≤ wordMax then (s.updD (fun d => { d with dcoLimit := false })).setWord f
    else
      let excess : Int := if wordMax < f then f - wordMax else f - wordMin
      ((s.updD (fun d => { d with y := d.y - excess * 2 ^ 32, dcoLimit := true, secBad := true })).setWord f).raise 54

/-! ## e_hold -/

/-- ξ₀ of HM_XI0 with a phase in units of 2⁻¹⁶ ns, in units of 2⁻³² ns. -/
def State.xi (s : State) (r : Int) : Nat := (fld (s.ac Reg.CLK_HM_XI0) 0 16) * 2 ^ 32 + r.natAbs * 2 ^ 16

/-- R346: the ages of the history ring that lie in the guard and in the window at this instant, as the number of the
newest samples of the guard. -/
def State.guardLen (s : State) : Nat :=
  fld (s.ac Reg.CLK_HOLD_G) 0 12 + (if s.nowSt % stSec = 0 then 1 else 0)

/-- R346: |g| in units of 2⁻³² ns, rounded up. -/
def State.guardPhase (s : State) : Nat :=
  let sum := ((s.clk.d.hist.take s.guardLen).map (fun h => if h.2 then h.1 - s.clk.d.avg else 0)).sum
  ceilDiv (sum.natAbs * 1000000000) (2 ^ 32)

/-- R345, R346: a segment of the HOLD period starts, if DT is ALIGNED. -/
def State.segStart (s : State) (k : SegKind) : State :=
  if !s.aligned then s
  else
    let p := if s.clk.seg.isSome then s.clk.eHold else 0
    let d := s.clk.d
    let x := match k with
      | .holdover => max (p * 2 ^ 32) (s.xi d.r + s.guardPhase)
      | .freqLocked => max (p * 2 ^ 32) (s.xi d.r)
      | .pulling => s.xi 0
    let a := match k with
      | .holdover => (s.ac (if d.short then Reg.CLK_HM_A_SHORT else Reg.CLK_HM_A)).toNat
      | .freqLocked => (s.ac Reg.CLK_HM_A_FREF).toNat
      | .pulling => 0
    let b := match k with
      | .holdover => (s.ac Reg.CLK_HM_B).toNat
      | _ => 0
    { s with clk := { s.clk with seg := some ⟨k, s.nowSt, p, x, a, b, 0⟩ } }

/-- R346: e_hold of a segment at stamp `t`, in ns rounded up and saturating (R347). -/
def Seg.eHold (g : Seg) (t : Nat) : Nat :=
  let dt := t - g.start
  let n := match g.kind with
    | .pulling => ceilDiv (max (g.ePrev * 65536) (g.xi0 / 65536 + g.maxE)) 65536
    | _ => ceilDiv (g.xi0 * (stSec * (2000000000 * stSec)) + (stSec * (g.a * dt * 2000) + g.b * dt * dt) * 2 ^ 32)
        (stSec * (2 ^ 32 * 2000000000 * stSec))
  min n (2 ^ 32 - 1)

/-- R347: e_hold now. It never decreases within a HOLD period. -/
def State.eHoldUpdate (s : State) : State :=
  match s.clk.seg with
  | none => s
  | some g =>
    let e := g.eHold s.nowSt
    { s with clk := { s.clk with eHold := max s.clk.eHold e } }

/-! ## States -/

/-- R345: TYPE of the HOLD period: of the last reference followed in LOCKED, or before any lock of the reference
followed. -/
def State.noteType (s : State) : State :=
  match s.clk.d.ref with
  | none => s
  | some m =>
    if s.clk.d.state = .locked then s.updD (fun d => { d with type := s.refType m, everLocked := true })
    else if s.clk.d.everLocked then s
    else s.updD (fun d => { d with type := s.refType m })

/-- What a state of DPLL0, entered or kept with another kind of reference, starts or ends: a segment of the HOLD period,
or the period itself (R345, R346). -/
def State.noteSegment (s : State) : State :=
  match s.clk.d.state with
  | .freeRun => s
  | .holdover => s.segStart .holdover
  | .acquire | .pull => s.segStart .pulling
  | .locked =>
    if s.clk.d.freqOnly then s.segStart .freqLocked
    else { s with clk := { s.clk with seg := none, eHold := 0 } }

/-- R329: DPLL0 enters a state, with the events of the entry. -/
def State.dpllEnter (s : State) (x : DpllState) : State :=
  let was := s.clk.d.state
  if was = x then s
  else
    let first := x = .locked && !s.clk.d.freqOnly
    let s := (s.updD (fun d => { d with
      state := x, wideCount := 0, firstLock := d.firstLock || first
      secBad := d.secBad || !(x = .pull || x = .locked) })).noteType
    let s := s.raise 43
    let s := if x = .locked then s.raise 45 else if x = .holdover then s.raise 44 else s
    let s := if was = .locked then s.timUnlocked else if x = .locked then s.timLocked else s
    (s.noteSegment.eHoldUpdate).timeStateChange

/-! ## Holdover -/

/-- R340, R341: Ā of an entry into HOLDOVER now: the valid samples used with their ages, Ā in 2⁻⁶⁴ and whether the
history is short. -/
def State.agedAverage (s : State) : List (Int × Nat) × Int × Bool :=
  let g := s.guardLen
  let aged := (s.clk.d.hist.zipIdx.drop g)
  let ok (l : List ((Int × Bool) × Nat)) : List (Int × Nat) :=
    (l.filter (fun p => p.1.2)).map (fun p => (p.1.1, p.2))
  let win := ok (aged.take (fld (s.ac Reg.CLK_HOLD_W) 0 17))
  let mean (l : List (Int × Nat)) : Int := roundDiv (l.map (·.1)).sum (max 1 l.length)
  if 64 ≤ win.length then (win, mean win, false)
  else
    let all := ok aged
    if 64 ≤ all.length then (all, mean all, true) else ([], roundDiv s.clk.d.y (2 ^ 16), true)

/-- R342: the slope of a least-squares line through aged samples, per second of time, in their units. -/
def agedSlope (l : List (Int × Nat)) : Int :=
  let n : Int := l.length
  let sx : Int := (l.map (fun p => -(p.2 : Int))).sum
  let sy : Int := (l.map (·.1)).sum
  let sxx : Int := (l.map (fun p => (p.2 : Int) * p.2)).sum
  let sxy : Int := (l.map (fun p => -(p.2 : Int) * p.1)).sum
  let den := n * sxx - sx * sx
  if den ≤ 0 then 0 else roundDiv (n * sxy - sx * sy) den.toNat

/-- HOLDOVER_ENTER (R340–R342): the aged average is formed, r freezes and the loop terms clear. -/
def State.holdoverEnter (s : State) : State :=
  let (l, avg, short) := s.agedAverage
  let fit := !short && decide (1024 ≤ l.length)
  let age := bitAt (s.ac Reg.CLK_HOLD_CFG) 0
  let lim : Int := (fld (s.ac Reg.CLK_AGING_MAX) 0 31 : Nat)
  let s := s.updD (fun d => { d with
    avg := avg, winValid := l.length, short := short, agingSkip := age && !fit
    aging := if age && fit then max (-lim) (min lim (agedSlope l)) else 0
    tSum := (l.map (fun p => s.sec - p.2)).sum, tN := l.length
    tL := s.nowSt, yP := 0, lockCount := 0, big := 0, fresh := none, rPend := false, freqOnly := false })
  let s := s.dpllEnter .holdover
  let s := if short then s.raise 53 else s
  s.dcoUpdate

/-! ## Samples -/

/-- R336–R338: DPLL0 steps DT by −e, and the loop starts from the moved phase. -/
def State.dpllStep (s : State) : State :=
  let s := s.advTo s.nextTb
  let s := s.dtStep (-s.clk.d.e)
  s.updD (fun d => { d with r := 0, rFrac := 0, yP := 0, stepNeeded := false, big := 0, secBad := true })

/-- R348: y_int is preset to the frequency in use plus Δf of reference `m`. -/
def State.presetY (s : State) (m : Nat) : State :=
  s.updD (fun d => { d with y := s.time.freq * 2 ^ 32 + frac80 (s.mon m).df 1000000000000, yP := 0, preset := true })

/-- R331: one update of the loop for ε, with τ = 1 s ÷ `per`. -/
def State.loopUpdate (s : State) (m : Nat) (eps : Int) (per : Nat) : State :=
  let b := s.refBw m
  s.updD (fun d => { d with
    y := d.y - roundDiv (eps * 2 ^ 64 * (4 * pi20 * pi20 * b * b : Nat)) (10 ^ 57 * per)
    yP := -roundDiv (eps * 2 ^ 64 * (20 * pi20 * b : Nat)) (10 ^ 33) })

/-- DPLL0_LOCK (R333): a phase sample, or a second of a frequency reference, counts: within the lock limit, and
beyond eight times it. -/
def State.dpllJudge (s : State) (good bad : Bool) : State :=
  let n := if good then min 65535 (s.clk.d.lockCount + 1) else 0
  let o := if bad then s.clk.d.wideCount + 1 else 0
  let s := s.updD (fun d => { d with lockCount := n, wideCount := o })
  let near := decide (s.clk.d.r.natAbs ≤ s.lockPhase)
  match s.clk.d.state with
  | .acquire => if 16 ≤ n then s.dpllEnter (if near then .locked else .pull) else s
  | .pull | .locked =>
    if 4 ≤ o then (s.updD (fun d => { d with lockCount := 0 })).dpllEnter .acquire
    else if s.clk.d.state = .pull && near then s.dpllEnter .locked
    else s
  | _ => s

/-- R346: a sample counts toward the greatest |e| of a segment. -/
def State.noteE (s : State) (e : Int) : State :=
  { s with clk := { s.clk with seg := s.clk.seg.map (fun g => { g with maxE := max g.maxE e.natAbs }) } }

/-- R336: the first sample of a phase reference while DT is not ALIGNED: DT is aligned by a step. -/
def State.firstAlign (s : State) (m : Nat) : State :=
  let s : State := if s.clk.d.preset then s else s.presetY m
  let s := s.dpllStep
  let s : State := { s with time := { s.time with st := .aligned } }
  let s := (s.updD (fun d => { d with rPend := false, preset := false, lockCount := 0, wideCount := 0 }))
  let s := if s.clk.d.state = .acquire then (s.noteSegment.eHoldUpdate).timeStateChange else s.dpllEnter .acquire
  ({ s with ref := { s.ref with evalDue := true } } : State).dcoUpdate

/-- R337: the step rules for a sample beyond CLK_STEP_LIMIT. -/
def State.stepRule (s : State) : State :=
  let d := s.clk.d
  if d.e.natAbs ≤ fld (s.ac Reg.CLK_STEP_LIMIT) 0 30 * 65536 then
    s.updD (fun d => { d with big := 0, stepNeeded := false })
  else if d.big + 1 < 4 then s.updD (fun d => { d with big := d.big + 1 })
  else if fld (s.ac Reg.CLK_DPLL0_CTRL) 0 2 = 1 then s.dpllStep
  else if d.stepNeeded then s
  else (s.updD (fun d => { d with big := 4, stepNeeded := true, r := d.e, rFrac := 0 })).raise 46

/-- DPLL0 takes a phase sample of the reference it follows (R330–R337). -/
def State.phaseSample (s : State) (m : Nat) (e : Int) : State :=
  let s := (s.updD (fun d => { d with e := e, fresh := none })).noteE e
  if !s.aligned then s.firstAlign m
  else
    let s := if s.clk.d.rPend then s.updD (fun d => { d with r := e, rFrac := 0, rPend := false, preset := false }) else s
    let eps := e - s.clk.d.r
    let s := (s.loopUpdate m eps 1).stepRule.dcoUpdate
    s.dpllJudge (decide (eps.natAbs ≤ s.lockPhase)) (decide (8 * s.lockPhase < eps.natAbs))

/-- DPLL0 takes a sample of a frequency reference (R330, R331), with r frozen (R335): its phase `p` against DT, counted from the
first sample after the selection. -/
def State.freqSample (s : State) (m : Nat) (p : Int) : State :=
  let o := s.clk.d.org.getD p
  let e := p - o
  let s := s.updD (fun d => { d with org := some o })
  (((s.updD (fun d => { d with e := e })).noteE e).loopUpdate m e 1000).dcoUpdate

/-- R333: a second of the frequency reference that DPLL0 follows. -/
def State.freqSecond (s : State) (m : Nat) : State :=
  if s.clk.d.ref = some m && s.clk.d.freqOnly then
    let f := (s.mon m).df.natAbs
    let lim := fld (s.ac Reg.CLK_LOCK_FREQ) 0 17
    s.dpllJudge (decide (f ≤ lim)) (decide (8 * lim < f))
  else s

/-! ## Selection -/

/-- DPLL0 takes a new target (R320, R329, R334, R335, R340, R348). Between two targets F does not change at this edge. -/
def State.dpllSelect (s : State) (m : Option Nat) : State :=
  let d := s.clk.d
  match m with
  | none =>
    let s := s.updD (fun d => { d with ref := none, secBad := true })
    (match d.state with
    | .acquire | .pull | .locked => s.holdoverEnter
    | _ => s)
  | some m =>
    let f := s.refFreq m
    if d.state = .freeRun || d.state = .holdover then
      let s := (s.updD (fun d => { d with
        ref := some m, freqOnly := f, lockCount := 0, wideCount := 0, big := 0, fresh := none, org := none
        rPend := !f })).presetY m
      (s.dpllEnter .acquire).dcoUpdate
    else
      let direct := !f && !d.freqOnly && s.aligned && !d.rPend
      let changed := f != d.freqOnly
      let s := (s.updD (fun d => { d with
        ref := some m, freqOnly := f, fresh := none, org := none, secBad := true, rPend := !f && !direct
        r := if direct then (s.mon m).o else d.r, rFrac := if direct then 0 else d.rFrac
        big := 0, wideCount := 0 })).noteType
      if d.state = .locked && !f && decide (s.lockPhase < s.clk.d.r.natAbs) then s.dpllEnter .pull
        else if changed && d.state = .locked then
          ((s.updD (fun d => { d with firstLock := d.firstLock || !f })).noteSegment.eHoldUpdate).timeStateChange
        else (s.updD (fun d => { d with lockCount := if changed then 0 else d.lockCount })).timeStateChange

/-! ## DPLL1–DPLL3 -/

/-- R356: the mean of DPLLx's own frequency over the 64 s that ended 8 s ago. -/
def Dpllx.mean (x : Dpllx) : Int :=
  let l := (x.freqs.drop 8).take 64
  roundDiv l.sum (max 1 l.length)

/-- R356, R357: the nominal frequency in Hz, as a fraction, of source `x` of CLK_OUTCLK_CFG: APLL0's TBCLK, DPLL1–DPLL3,
APLL1–APLL2. -/
def State.sourceHz (s : State) (x : Nat) : Nat × Nat :=
  let q (n d : Nat) : Nat × Nat := ((s.ac n).toNat, max 1 (fld (s.ac d) 0 16))
  if x = 0 then (1250000000, 1)
  else if x ≤ 3 then q (Reg.CLK_DPLL_NUM (x - 1)) (Reg.CLK_DPLL_DEN (x - 1))
  else q (Reg.CLK_APLL_NUM (x - 4)) (Reg.CLK_APLL_DEN (x - 4))

/-- R357, R358: the state of the DPLL behind a source, an APLL having that of its source DPLL. -/
def State.sourceState (s : State) (x : Nat) : Option DpllxState :=
  let p := if x ≤ 3 then x else fld (s.ac (Reg.CLK_APLL_CFG (x - 4))) 1 2
  if p = 0 then none else some (s.dpllx (p - 1)).state

/-- R358: OUTCLKk carries its source divided by DIV while EN is 1, and is held low while SQUELCH_FREE holds it. A change completes the
present high phase first, and the output stays low until the first rising edge of the new clock. -/
def State.outclkSync (s : State) (k : Nat) : State :=
  let c := s.ac (Reg.CLK_OUTCLK_CFG k)
  let (n, d) := s.sourceHz (fld c 1 3)
  let free := bitAt c 5 && s.sourceState (fld c 1 3) == some .freeRun
  let o : OutClk := { hz := if bitAt c 0 && !free then some (n, d * max 1 (fld (s.ac (Reg.CLK_OUTCLK_DIV k)) 0 24)) else none
                      inv := bitAt c 4 }
  { s with clk := { s.clk with outs := tset (fun _ => {}) s.clk.outs k o } }

/-- R356: DPLLx pulls its rising edge to the OT second, with ALIGN set and a frequency of whole Hz. -/
def State.alignOn (s : State) (x : Nat) : Bool :=
  let (n, d) := s.sourceHz (x + 1)
  bitAt (s.ac (Reg.CLK_DPLL_CFG x)) 6 && n % d == 0 && (s.dpllx x).state != .disabled

/-- DPLLX_FALLBACK (R356): DPLLx (`x` = 0 for DPLL1) follows its configuration and the state of its reference. Where its edges
lie when it starts the manual leaves open. -/
def State.dpllxSync (s : State) (x : Nat) : State :=
  let c := s.ac (Reg.CLK_DPLL_CFG x)
  let p := s.dpllx x
  let src := fld c 1 4
  let good := decide ((s.mon (src - 1)).state = .qualified)
  let q : Dpllx :=
    if !bitAt c 0 then {}
    else if src = 0 then { p with state := .dtTrack, fallback := false }
    else if good && p.state = .locked then p
    else if bitAt c 5 then
      if good && p.fallback then p else { p with state := .dtTrack, fallback := true }
    else
      match p.state with
      | .locked => { p with state := .holdover, fallback := false, held := p.mean }
      | .dtTrack => { p with state := .holdover, fallback := false, held := p.mean }
      | .disabled => { p with state := .freeRun, fallback := false }
      | _ => p
  let (v, s) := if p.state = .disabled && q.state != .disabled then s.free else (0, s)
  let q := if p.state = .disabled && q.state != .disabled then { q with miss := (v.toNat % 65536000 : Nat) } else q
  let s := s.updDpllx x (fun _ => q)
  if q.state = p.state then s else s.raise 51

end Sys2Proof.Machine
end

