-- ==== Sys2Proof/Machine/Ref.lean ====
section
/-!
DEFINITION. The reference monitors, the cross-checks, the selector (R297–R325) and the ESMC (R77, R78).
-/

namespace Sys2Proof.Machine

/-- EN of reference `m`. -/
def State.refEn (s : State) (m : Nat) : Bool := bitAt (s.ac (Reg.REF_CFG m)) 0

/-- A labelled reference (R297). -/
def refLabelled (m : Nat) : Bool := m == 8 || m == 9 || m == 10 || m == 12

/-- PPS_WIN in ps. -/
def State.ppsWin (s : State) (m : Nat) : Int := (fld (s.ac (Reg.REF_PPS_CFG m)) 0 27 * 1000 : Nat)

/-- LOS_COUNT. -/
def State.losCount (s : State) (m : Nat) : Nat := fld (s.ac (Reg.REF_PPS_CFG m)) 27 3

/-- One second in ps. -/
def psSec : Int := 1000000000000

/-- DT at a time in ps of TBCLK time, in units of 2⁻¹⁶ ns. -/
def State.dtAtPs (s : State) (tb : Int) : Int :=
  ((s.dtExact : Int) * 800 + (tb - (s.time.now * 200 : Nat)) * s.time.inc) / (800 * stUnit : Nat)

/-- The present instant in ps of TBCLK time. -/
def State.nowPs (s : State) : Int := (s.time.now * 200 : Nat)

/-- A change of a monitor: the selector looks again (R318). -/
def State.refChanged (s : State) : State := { s with ref := { s.ref with evalDue := true } }

/-! ## The checks and the state of a monitor -/

/-- R309: the length of WTR, in the units of `TimeSt.dt`. -/
def State.wtrLen (s : State) (m : Nat) : Nat :=
  secUnit * (if s.aligned then fld (s.ac (Reg.REF_CFG m)) 16 10 else fld (s.ac Reg.REF_SEL_CTRL) 16 10)

/-- R308: the first failing check of reference `m`, or none. -/
def State.refFailing (s : State) (m : Nat) : Option MonState :=
  let x := s.mon m
  if !s.refEn m || x.cfgErr then some .disabled
  else if !x.active then some .noActivity
  else if m == 11 && bitAt (s.ac Reg.REF_SYNCE_SEL) 3 && !x.qlOk then some .qlFail
  else if !x.freqOk then some .freqFail
  else if 0 < x.labelBad then some .labelFail
  else if 0 < x.phaseBad then some .phaseFail
  else if x.xfail then some .xcheckFail
  else none

/-- R309: the WTR timer of `m` holds while an unresolved disagreement with a QUALIFIED reference stands. -/
def State.wtrHolds (s : State) (m : Nat) : Bool :=
  s.ref.disPairs.any (fun p =>
    (p.1 == m && (s.mon p.2).state == .qualified) || (p.2 == m && (s.mon p.1).state == .qualified))

/-- R309: the hold of WTR begins or ends. -/
def State.wtrSync (s : State) (m : Nat) : State :=
  let x := s.mon m
  if x.state ≠ .wtr then s
  else if s.wtrHolds m then
    match x.wtrEnd with
    | some e => s.updMon m (fun x => { x with wtrEnd := none, wtrLeft := e - s.time.dt })
    | none => s
  else if x.wtrEnd.isNone then s.updMon m (fun x => { x with wtrEnd := some (s.time.dt + x.wtrLeft) })
  else s

/-- R308: the event at the entry of a failing state. -/
def MonState.entryEvent : MonState → Option Nat
  | .xcheckFail => some 37
  | .phaseFail => some 38
  | .labelFail => some 39
  | _ => none

/-- R308, R309: reference `m` enters the state that its checks give. -/
def State.monEval (s : State) (m : Nat) : State :=
  let was := (s.mon m).state
  match s.refFailing m with
  | some f =>
    if was = f then s
    else
      let s := s.updMon m (fun x => { x with state := f, wtrEnd := none, wtrLeft := 0 })
      let s := match f.entryEvent with
        | some e => s.raise e
        | none => s
      let s := if was = .qualified then
          ((s.bump (Reg.REF_DISQ_COUNT m)).wr (Reg.REF_LAST_FAIL m) (BitVec.ofNat 32 s.sec)).raise 33
        else s
      s.refChanged
  | none =>
    if was = .wtr || was = .qualified then s
    else
      let n := s.wtrLen m
      (s.updMon m (fun x => { x with state := .wtr, wtrEnd := some (s.time.dt + n), wtrLeft := n })).wtrSync m |>.refChanged

/-- A check of `m` has failed with its event: raised at the entry of its state, or here when another state is shown
(R303, R305). -/
def State.monFail (s : State) (m : Nat) (x : MonState) (ev : Nat) : State :=
  let was := (s.mon m).state
  let s := s.monEval m
  if was ≠ x && (s.mon m).state = x then s else s.raise ev

/-- R301, R304: activity is lost, and the frequency check fails until its next full measurement. -/
def State.monLost (s : State) (m : Nat) : State :=
  if !(s.mon m).active then s
  else (s.updMon m (fun x => { x with active := false, freqOk := false, hist := [], cand := none, passFrom := none, lack := 0, gate := none
    })).monEval m

/-- R301: activity returns; the frequency check starts from no measurement (R304), and the prediction of a reference
that the TE-9 samples itself from its first sample. -/
def State.monBack (s : State) (m : Nat) : State :=
  if (s.mon m).active then s
  else
    (s.updMon m (fun x => { x with
      active := true, freqOk := false, hist := [], lack := 0, gate := none
      last := if m < 8 || m = 12 then x.last else none })).monEval m

/-- R304: Δf of `m` is judged with hysteresis, `full` telling whether the measurement is a full one. -/
def State.monFreq (s : State) (m : Nat) (df : Int) (full : Bool) : State :=
  let l := s.ac (Reg.REF_LIMITS m)
  let s := s.updMon m (fun x => { x with df := df })
  if !full then s
  else
    let ok := if (s.mon m).freqOk then decide (df.natAbs ≤ fld l 0 16 * 1000) else decide (df.natAbs < fld l 16 16 * 1000)
    (s.updMon m (fun x => { x with freqOk := ok })).monEval m

/-- R304: Δf as the slope of a least-squares fit of the last 16 accepted seconds, in units of 10⁻¹²; DT falls behind a
reference that is fast. -/
def fitDf (h : List RefSample) : Option Int :=
  let l := h.take 16
  if l.length < 16 then none
  else
    let n : Int := 16
    let sx := (l.map (·.sec)).sum
    let sy := (l.map (·.o)).sum
    let sxx := (l.map (fun p => p.sec * p.sec)).sum
    let sxy := (l.map (fun p => p.sec * p.o)).sum
    let den := n * sxx - sx * sx
    if den ≤ 0 then none else some (-roundDiv ((n * sxy - sx * sy) * 1000) (den.toNat * 65536))

/-- R302: the interval between pulses in ps of TBCLK time: the slope of the last 16 pulses, or 1 s. -/
def fitInterval (h : List RefSample) : Int :=
  let l := h.take 16
  if l.length < 16 then psSec
  else
    let n : Int := 16
    let sx := (l.map (·.sec)).sum
    let sy := (l.map (·.tb)).sum
    let sxx := (l.map (fun p => p.sec * p.sec)).sum
    let sxy := (l.map (fun p => p.sec * p.tb)).sum
    let den := n * sxx - sx * sx
    if den ≤ 0 then psSec else roundDiv (n * sxy - sx * sy) den.toNat

/-- The second of TBCLK time of an edge. -/
def secIdx (tb : Int) : Int := roundDiv tb 1000000000000

/-- An accepted second of a phase reference with its offset (R302, R304, R307): the fit, the judgement and, for the
reference that DPLL0 follows, a sample (R330). -/
def State.monSample (s : State) (m : Nat) (tb o : Int) : State :=
  let h := (⟨secIdx tb, tb, o, (s.mon m).df⟩ : RefSample) :: (s.mon m).hist
  let fit := fitDf h
  let df := fit.getD (s.mon m).df
  let h := match h with
    | p :: r => { p with df := df } :: r
    | [] => []
  let s := s.updMon m (fun x => { x with o := o, hist := h.take 1001 })
  let s := s.monFreq m df fit.isSome
  if s.clk.d.ref = some m && !s.clk.d.freqOnly then s.updD (fun d => { d with fresh := some o }) else s

/-- LABEL_CHECK (R305): a label for the second marked by the edge at `tb`. -/
def State.labelCheck (s : State) (m lab : Nat) (tb : Int) : State :=
  let ok := match (s.mon m).label with
    | some (l, t) => decide ((lab : Int) = l + roundDiv (tb - t) 1000000000000)
    | none => true
  let bad := (s.mon m).labelBad
  let s := s.updMon m (fun x => { x with label := some (lab, tb), labelBad := if ok then bad - 1 else 16 })
  if ok then s.monEval m else if bad = 0 then s.monFail m .labelFail 39 else s.monEval m

/-- R305: a frame that cannot be parsed. -/
def State.labelBroken (s : State) (m : Nat) : State :=
  let bad := (s.mon m).labelBad
  let s := s.updMon m (fun x => { x with labelBad := 16 })
  if bad = 0 then s.monFail m .labelFail 39 else s

/-- R307: the offset of an edge against the second that it marks. -/
def offsetOf (st : Int) (lab : Option Nat) : Int :=
  match lab with
  | some l => st - stSec * (l : Int)
  | none => nearSec st

/-- R301: a second of TOD without a pulse or a frame. -/
def State.monLack (s : State) (m : Nat) : State :=
  let s := s.updMon m (fun x => { x with lack := x.lack + 1 })
  if s.losCount m ≤ (s.mon m).lack then s.monLost m else s

/-! ## Pulses -/

/-- The prediction of the pulse that is expected (R302), in ps of TBCLK time. -/
def State.predicted (s : State) (m : Nat) : Option Int :=
  (s.mon m).last.map (fun t => t + fitInterval (s.mon m).hist * ((s.mon m).missed + 1 : Nat))

/-- R303: the last three edges outside the window are spaced 1 s ± PPS_WIN. -/
def State.jumped (s : State) (m : Nat) : Bool :=
  let near (a b : Int) : Bool := decide ((a - b - psSec).natAbs ≤ (s.ppsWin m).natAbs)
  decide (3 ≤ (s.mon m).missed) && (match (s.mon m).bad with
    | a :: b :: c :: _ => near a b && near b c
    | _ => false)

/-- PHASE_JUMP (R303): three misses with a consistent new train: PHASE_FAIL, EV038, and the prediction is based on the
new train. -/
def State.phaseJump (s : State) (m : Nat) : State :=
  if !s.jumped m then s
  else
    let bad := (s.mon m).phaseBad
    let s := s.updMon m (fun x => { x with
      phaseBad := 16, last := x.bad.head?, cand := x.bad.head?, bad := [], missed := 0, hist := [] })
    if bad = 0 then s.monFail m .phaseFail 38 else s.raise 38

/-- R301: an edge of a reference without activity: the second of two edges 1 s ± PPS_WIN apart restores it. The pulses of TOD are
taken up in the same way, and its activity returns with the frame of such a pulse. -/
def State.monCand (s : State) (m : Nat) (tb : Int) : State :=
  let near := match (s.mon m).cand with
    | some c => decide ((tb - c - psSec).natAbs ≤ (s.ppsWin m).natAbs)
    | none => false
  if near then
    let s := s.updMon m (fun x => { x with last := some tb, cand := none, missed := 0, bad := [] })
    if m = 12 then s else s.monBack m
  else s.updMon m (fun x => { x with cand := some tb })

/-- R302: the pulse at `tb`, within the window or the first of a train, is accepted; `lab` is its label, for a reference
whose sample carries one, and `st` is DT at the pulse. -/
def State.pulseAccept (s : State) (m : Nat) (tb st : Int) (lab : Option Nat) : State :=
  let s := s.updMon m (fun x => { x with
    last := some tb, missed := 0, bad := [], phaseBad := x.phaseBad - 1, pulse := some st.toNat })
  if m = 12 then
    let x := s.mon m
    let s := match x.next with
      | some l => ((s.monBack m).labelCheck m l tb).monSample m tb (offsetOf st (some l))
      | none => if bitAt (s.ac Reg.REF_TOD_CFG) 5 || x.owed then s.monLack m else s
    (s.updMon m (fun x => { x with
      next := none, lack := if x.next.isSome then 0 else x.lack, owed := !bitAt (s.ac Reg.REF_TOD_CFG) 5 })).monEval m
  else
    let s := match lab with
      | some l => if m = 8 then s else s.labelCheck m l tb
      | none => s
    (s.monSample m tb (offsetOf st lab)).monEval m

/-- An edge of a phase reference at `tb`, at which DT is `st` (R301–R303). -/
def State.pulse (s : State) (m : Nat) (tb st : Int) (lab : Option Nat) : State :=
  let inWin := match s.predicted m with
    | some p => decide ((tb - p).natAbs ≤ (s.ppsWin m).natAbs)
    | none => (s.mon m).active
  if inWin then
    let s := if (s.mon m).active then s else s.monCand m tb
    s.pulseAccept m tb st lab
  else
    let known := (s.mon m).last.isSome
    let s := if known then
        ((s.updMon m (fun x => { x with bad := (tb :: x.bad).take 3 })).bump (Reg.REF_PULSE_BAD m)).raiseLim 41 m sTicks
      else s
    let s := s.phaseJump m
    if (s.mon m).active then s
    else
      let s := s.monCand m tb
      if (s.mon m).last = some tb then s.pulseAccept m tb st lab else s

/-- The monitors that an edge of a ball feeds: its own in 1PPS mode, and TOD when it is the companion (R300). -/
def State.edgeMons (s : State) (input : Nat) : List Nat :=
  let tod := s.ac Reg.REF_TOD_CFG
  if input = 8 then (if bitAt tod 0 && s.refEn 12 && !(s.mon 12).cfgErr then [12] else [])
  else
    (if s.refEn input && s.refMode input == 1 then [input] else []) ++
    (if !bitAt tod 0 && fld tod 1 3 == input && s.refEn 12 && !(s.mon 12).cfgErr then [12] else [])

/-- R298: the nominal frequency of input `m`, in Hz, as a fraction. -/
def State.refNominal (s : State) (m : Nat) : Nat × Nat :=
  (fld (s.ac (Reg.REF_FREQ_NUM m)) 0 30, fld (s.ac (Reg.REF_FREQ_DEN m)) 0 16)

/-- R299: the divider of input `m`, the least that brings its nominal frequency to 10 MHz or less. DESIGN CHOICE (log entry 72): the
manual gives no divider. -/
def State.refDivider (s : State) (m : Nat) : Nat :=
  let (num, den) := s.refNominal m
  max 1 (ceilDiv num (den * 10000000))

/-- R299, R301: edges of a frequency input, of which the last is at `tb` and `more` came before it: they count in the activity window
and in the divider, and the last is stamped if it ends a divided period. -/
def State.freqEdge (s : State) (m : Nat) (tb : Int) (more : Nat) : State :=
  let n := s.refDivider m
  let dt := s.dtAtPs tb
  s.updMon m (fun x =>
    let k := x.since + more + 1
    let x := { x with winEdges := x.winEdges + more + 1 }
    if k % n ≠ 0 then { x with since := k }
    else match x.gate with
      | some _ => { x with since := 0, edgeDt := dt, periods := x.periods + k / n }
      | none => { x with since := 0, gate := some dt, edgeDt := dt, periods := 0 })

/-- REF_EDGE (R302): an edge on REFIN `input` (8: CASC_IN) at `at25`, in units of 25 ps of TBCLK time since t₀, to a level.
An edge of the polarity of POL is stamped, corrected by REF_IN_DELAY in 1PPS mode (R299) and accepted or rejected. At an
input in frequency mode it stands for the `more` edges of that polarity since the command before as well. CASC_IN is
also watched for the opening of the bypass (R535). -/
def execRefEdge (input : Fin 9) (at25 : Nat) (run : EdgeRun) (s : State) : Res :=
  let s := s.advTo (at25 / 8)
  let s : State := if input.val = 8 then
      { s with serve := { s.serve with cascLowSince := if run.high then none else some s.time.now } } else s
  let pol := decide (input.val < 8) && bitAt (s.ac (Reg.REF_CFG input.val)) 3
  if run.high == pol then .next s
  else
    let s := if s.refEn input.val && decide (input.val < 8) && s.refFreq input.val then
        s.freqEdge input.val (at25 * 25 : Nat) run.more else s
    let delay : Int := if input.val < 8 then sfld (s.ac (Reg.REF_IN_DELAY input.val)) 0 32 else 0
    .next ((s.edgeMons input.val).foldl (fun s m =>
      let tb : Int := (at25 * 25 : Nat) - delay
      s.pulse m tb (s.dtAtPs tb) none) s)

/-- A phase reference whose pulses a prediction follows. -/
def State.refPulses (s : State) (m : Nat) : Bool := s.refEn m && !s.refFreq m && (s.mon m).last.isSome

/-- R302: the expected pulse of `m` is missing. -/
def State.pulseMissed (s : State) (m : Nat) : State :=
  let s := s.updMon m (fun x => { x with missed := x.missed + 1, phaseBad := if x.phaseBad = 0 then 0 else 16, owed := false })
  let s := s.phaseJump m
  if m = 12 then s.monLack m
  else if s.losCount m ≤ (s.mon m).missed && decide (m < 8) then s.monLost m
  else s

/-- PULSE_MISSING (R302): no edge of reference `m` has been accepted by the prediction plus PPS_WIN. -/
def execPulseMissing (m : Fin 13) (s : State) : Res :=
  match s.predicted m.val with
  | none => .next s
  | some p =>
    if !s.refPulses m.val then .next s
    else .next ((s.advTo ((p + s.ppsWin m.val) / 200).toNat).pulseMissed m.val)

/-- R301: the nominal edges of an activity window of input `m`, as a fraction: the longer of 10 µs and 16 periods. -/
def State.windowNominal (s : State) (m : Nat) : Nat × Nat :=
  let (num, den) := s.refNominal m
  if num < 1600000 * den then (16, 1) else (num, 100000 * den)

/-- R301: the length of an activity window of input `m`, in ticks. -/
def State.windowTicks (s : State) (m : Nat) : Nat :=
  let (num, den) := s.refNominal m
  max (10 * usTicks) (ceilDiv (16 * den * sTicks) (max 1 num))

/-- ACTIVITY_WINDOW (R301): an activity window of frequency input `m` ends, `more` edges after that of the latest command, and the
edges in it are judged. -/
def execActivityWindow (m : Fin 8) (more : Nat) (s : State) : Res :=
  let m := m.val
  if !s.refEn m || !s.refFreq m then .next s
  else
    let (n, d) := s.windowNominal m
    let count := (s.mon m).winEdges + more
    let s := s.updMon m (fun x => { x with winEdges := 0, since := x.since + more })
    if n ≤ 2 * count * d && 2 * count * d ≤ 3 * n then
      let since := (s.mon m).passFrom.getD (s.time.now - s.windowTicks m)
      let s := s.updMon m (fun x => { x with passFrom := some since })
      .next (if since + sTicks ≤ s.time.now then s.monBack m else s)
    else .next ((s.updMon m (fun x => { x with passFrom := none })).monLost m)

/-- R304: Δf of input `m` over the gate that its stamps span, against DT; none without two stamps. -/
def State.gateDf (s : State) (m : Nat) : Option Int :=
  let x := s.mon m
  let (num, den) := s.refNominal m
  match x.gate with
  | some g =>
    let span := (x.edgeDt - g).toNat * num
    if span = 0 then none
    else some (roundDiv (((x.periods * s.refDivider m * den * stSec : Nat) - (span : Int)) * 1000000000000) span)
  | none => none

/-- R304: the latest Δf of a frequency reference is kept for its second and judged. -/
def State.freqTake (s : State) (m : Nat) (df : Int) : State :=
  let s := s.updMon m (fun x => { x with
    hist := (⟨secIdx s.nowPs, s.nowPs, 0, df⟩ :: x.hist).take 1001, gate := x.gate.map (fun _ => x.edgeDt), periods := 0 })
  (s.monFreq m df true).freqSecond m

/-- FREQ_CHECK (R304): the frequency offset of reference `m` is measured and judged: over the 1 s gate that ends now, from the stamps
of an input and with the result `df`, in units of 10⁻¹², for the recovered clock of SYNCE; from the fit for a phase reference. -/
def execFreqCheck (m : Fin 13) (df : Int) (s : State) : Res :=
  let m := m.val
  if !s.refEn m || !(s.mon m).active then .next s
  else if s.refFreq m then
    match (if m = 11 then some df else s.gateDf m) with
    | some f => .next (s.freqTake m f)
    | none => .next s
  else
    match fitDf (s.mon m).hist with
    | some f => .next (s.monFreq m f true)
    | none => .next s

/-! ## Time-of-day frames -/

/-- R354: the CRC-16 of a frame: polynomial 0x1021, initial value 0xFFFF. -/
def crc16 (l : List Byte) : Nat :=
  l.foldl (fun c b => (List.range 8).foldl (fun c _ =>
    if 2 ^ 15 ≤ c then Nat.xor (c * 2 % 65536) 0x1021 else c * 2 % 65536) (Nat.xor c (b.toNat * 256))) 0xFFFF

/-- Splitting at a separator. -/
def splitAt (c : Byte) (l : List Byte) : List (List Byte) :=
  l.foldr (fun b acc => if b = c then [] :: acc else match acc with
    | h :: t => (b :: h) :: t
    | [] => [[b]]) [[]]

/-- The number of a non-empty run of decimal digits. -/
def decNum (l : List Byte) : Option Nat :=
  if l.isEmpty || l.any (fun b => b.toNat < 48 || 57 < b.toNat) then none
  else some (l.foldl (fun n b => n * 10 + (b.toNat - 48)) 0)

/-- An upper-case hexadecimal digit. -/
def hexDigit (n : Nat) : Byte := BitVec.ofNat 8 (if n < 10 then 48 + n else 55 + n)

/-- R353: the checksum of an NMEA sentence, as its two digits. -/
def nmeaSum (l : List Byte) : List Byte :=
  let x := l.foldl (fun c b => Nat.xor c b.toNat) 0
  [hexDigit (x / 16), hexDigit (x % 16)]

/-- The body of a sentence "$body*hh" with a good checksum. -/
def nmeaBody (l : List Byte) : Option (List Byte) :=
  match splitAt 0x2A l with
  | [d :: b, h] => if d = 0x24 && h == nmeaSum b then some b else none
  | _ => none

/-- R17, R300: the TAI second of a UTC second, with the OFFSET of the leap table for it; 23:59:60 only while an inserted
leap is pending. -/
def State.taiOf (s : State) (y mo d h mi sec : Nat) : Option Nat :=
  if y < 1970 || mo = 0 || 12 < mo || d = 0 || 31 < d || 23 < h || 59 < mi || 60 < sec then none
  else
    let u : Int := (daysOf y mo d * 86400 + h * 3600 + mi * 60 + sec : Nat)
    let leap : Option Nat := s.vbat.pend.bind (fun p => if p.delete then none else some p.at_)
    if sec = 60 then
      (match leap with
      | some a => if h = 23 && mi = 59 && u + s.vbat.offset = (a : Int) - 1 then some (a - 1) else none
      | none => none)
    else
      let t := u + s.vbat.offset
      let t := match s.vbat.pend with
        | some p =>
          if p.delete then (if (p.at_ : Int) ≤ t - 1 then t - 1 else t)
          else if (p.at_ : Int) ≤ t + 1 ∧ (p.at_ : Int) - 1 ≤ t then t + 1 else t
        | none => t
      if 0 ≤ t then some t.toNat else none

/-- R353: what a sentence of the second says: its TAI label, from PEFKT (`true`) or ZDA; `none` for a bad sentence, and
`some none` for one that is ignored. -/
def State.sentence (s : State) (l : List Byte) : Option (Option (Nat × Bool)) :=
  match nmeaBody l with
  | none => none
  | some b =>
    match splitAt 0x2C b with
    | name :: fs =>
      if name == ascii "PEFKT" then
        (match fs.head?.bind decNum with
        | some t => some (some (t, true))
        | none => none)
      else if name.drop (name.length - 3) == ascii "ZDA" then
        (match fs with
        | hms :: dd :: mm :: yy :: _ =>
          if hms.length < 6 then none
          else
            match decNum (hms.take 2), decNum ((hms.drop 2).take 2), decNum ((hms.drop 4).take 2), decNum dd, decNum mm,
              decNum yy with
            | some h, some mi, some sec, some d, some mo, some y => (s.taiOf y mo d h mi sec).map (fun t => some (t, false))
            | _, _, _, _, _, _ => none
        | _ => none)
      else some none
    | [] => none

/-- R353, R354: the label that a received frame carries, in the format given; `none` for a frame that cannot be parsed. -/
def State.todLabel (s : State) (binary : Bool) (l : List Byte) : Option Nat :=
  if binary then
    if l.length = 32 && l.take 4 == [0xEF, 0xC1, 0x01, 32] && ofBe (l.drop 30) == crc16 (l.take 30) then
      some (ofBe ((l.drop 4).take 6))
    else none
  else
    let ls := (splitAt 0x0A l).map (fun x => x.filter (· != 0x0D)) |>.filter (fun x => !x.isEmpty)
    let rs := ls.map s.sentence
    if rs.any Option.isNone then none
    else
      let got := rs.filterMap (fun r => r.join)
      match got.find? (·.2) with
      | some p => some p.1
      | none => got.head?.map (·.1)

/-- R300: the frame of TOD, whose first byte arrives now, labels its pulse. -/
def State.todFrame (s : State) (binary : Bool) (l : List Byte) : State :=
  match (s.mon 12).pulse with
  | none => s
  | some p =>
    let since := s.nowSt - p
    if since < 10 * stMs || 990 * stMs < since then s
    else
      match s.todLabel binary l with
      | none => s.labelBroken 12
      | some lab =>
        let lab := lab % 2 ^ 48
        let s := s.wr64 Reg.REF_TOD_LABEL_LO lab
        if bitAt (s.ac Reg.REF_TOD_CFG) 5 then s.updMon 12 (fun x => { x with next := some lab })
        else if !(s.mon 12).owed then s
        else
          let tb := (s.mon 12).last.getD 0
          let s := ((s.monBack 12).labelCheck 12 lab tb).monSample 12 tb (offsetOf p (some lab))
          (s.updMon 12 (fun x => { x with owed := false, lack := 0 })).monEval 12

/-- TOD_FRAME (R300): a frame whose first byte arrives now is received on TODIN, or on CASC_IN when SRC is 1. -/
def execTodFrame (cascade : Bool) (bytes : List Byte) (s : State) : Res :=
  let c := s.ac Reg.REF_TOD_CFG
  if !s.refEn 12 || (s.mon 12).cfgErr || bitAt c 0 != cascade then .next s
  else .next (s.todFrame (cascade || bitAt c 4) bytes)

/-! ## Wait-to-restore -/

/-- R308, R309: reference `m` becomes QUALIFIED. -/
def State.wtrDone (s : State) (m : Nat) : State :=
  ((s.updMon m (fun x => { x with state := .qualified, wtrEnd := none, wtrLeft := 0 })).raise 32).refChanged

/-- WTR_EXPIRE (R309): reference `m` completes wait-to-restore. -/
def execWtrExpire (m : Fin 13) (s : State) : Res :=
  match (s.mon m.val).wtrEnd with
  | none => .next s
  | some e => .next ((s.advDt e).wtrDone m.val)

/-- R310: CLEAR_WTR of the references of a mask by a master. -/
def State.clearWtr (s : State) (by_ : Master) (mask : Nat) : State :=
  if by_ = .pf0 || by_ = .spi then s.raise 40
  else
    let s := s.advTo (s.cclkAfter 1)
    (List.range 13).foldl (fun s m =>
      if mask.testBit m && (s.mon m).state == .wtr && (s.mon m).wtrEnd.isSome then s.wtrDone m else s) s

/-- CLEAR_WTR (R310): a master writes 1s to REF_CMD.CLEAR_WTR. -/
def execClearWtr (by_ : Master) (mask : BitVec 13) (s : State) : Res := .next (s.clearWtr by_ mask.toNat)

/-! ## Cross-checks -/

/-- R312: the comparisons of a pair that can be made now: agreement in frequency and in phase. -/
structure Compare where
  freq : Option Bool
  phase : Option Bool

/-- The measurement of second `i`. -/
def sampleAt (h : List RefSample) (i : Int) : Option RefSample := h.find? (fun p => decide (p.sec = i))

/-- A history that begins at second `i` or before. -/
def reachesBack (h : List RefSample) (i : Int) : Bool := h.any (fun p => decide (p.sec ≤ i))

/-- R312: o_A − o_B at second `i`, reduced to the nearest second when a reference is unlabelled. -/
def State.phaseDiff (s : State) (a b : Nat) (i : Int) : Option Int :=
  match sampleAt (s.mon a).hist i, sampleAt (s.mon b).hist i with
  | some x, some y => some (if refLabelled a && refLabelled b then x.o - y.o else nearSec (x.o - y.o))
  | _, _ => none

/-- R312: the comparisons of references `a` and `b` at the newest second that both have. -/
def State.compare (s : State) (a b : Nat) : Compare :=
  match (s.mon a).hist.head?, (s.mon b).hist.head? with
  | some x, some y =>
    let i := min x.sec y.sec
    let g := fld (s.ac Reg.REF_DIS_GATE) 0 10
    let lim := (s.ac Reg.REF_DIS_LIMIT).toNat
    if s.refFreq a || s.refFreq b then
      let mean (h : List RefSample) : Option (Int × Nat) :=
        let l := h.filter (fun p => decide (p.sec ≤ i && i - g < p.sec))
        if reachesBack h (i - g + 1) then some ((l.map (·.df)).sum, l.length) else none
      (match mean (s.mon a).hist, mean (s.mon b).hist with
      | some (u, n), some (v, m) => ⟨some (decide ((u * m - v * n).natAbs ≤ lim * n * m)), none⟩
      | _, _ => ⟨none, none⟩)
    else
      let f := match s.phaseDiff a b i, s.phaseDiff a b (i - g) with
        | some u, some v =>
          let c := if refLabelled a && refLabelled b then u - v else nearSec (u - v)
          some (decide (c.natAbs * 1000 ≤ lim * g * 65536))
        | _, _ => none
      let ds := (List.range 16).filterMap (fun k => s.phaseDiff a b (i - (k : Nat)))
      let p := if ds.isEmpty || !reachesBack (s.mon a).hist (i - 15) || !reachesBack (s.mon b).hist (i - 15) then none
        else some (decide (ds.sum.natAbs ≤ ds.length * fld (s.ac Reg.REF_PDIS_LIMIT) 0 20 * 65536))
      ⟨f, p⟩
  | _, _ => ⟨none, none⟩

/-- Every comparison that applies is within its limits. -/
def Compare.within (c : Compare) : Bool := c.freq != some false && c.phase != some false

/-- R312: reference `m` takes part in the comparisons. -/
def State.xTakes (s : State) (m : Nat) : Bool :=
  bitAt (s.ac (Reg.REF_CFG m)) 8 && ((s.mon m).state == .wtr || (s.mon m).state == .qualified)

/-- R312: the pairs that are compared. -/
def State.xPairs (s : State) : List (Nat × Nat) :=
  (List.range 13).flatMap (fun a => ((List.range 13).filter (fun b => decide (a < b))).filterMap (fun b =>
    if s.xTakes a && s.xTakes b then some (a, b) else none))

/-- XCHECK_RESOLVE (R313): the votes for each of a disagreeing pair. -/
def State.votes (s : State) (a b : Nat) : Nat × Nat :=
  let vs := (List.range 13).filter (fun v =>
    v != a && v != b && bitAt (s.ac (Reg.REF_CFG v)) 8 && (s.mon v).state == .qualified)
  let ok (v m : Nat) : Bool := (s.compare v m).within
  ((vs.filter (fun v => ok v a && !ok v b)).length, (vs.filter (fun v => ok v b && !ok v a)).length)

/-- R313: reference `m` is outvoted by `w`. -/
def State.outvote (s : State) (m w : Nat) : State :=
  s.updMon m (fun x => { x with xfail := true, agreeRun := 0, winners := if x.winners.contains w then x.winners else w :: x.winners })

/-- R314: the way of a reference out of XCHECK_FAIL. -/
def State.xRecover (s : State) (m : Nat) : State :=
  let x := s.mon m
  if !x.xfail then s
  else
    let ws := x.winners.filter (fun w => (s.mon w).state == .qualified)
    let run := if ws.all (fun w => (s.compare m w).within) then x.agreeRun + 1 else 0
    let s := s.updMon m (fun x => { x with agreeRun := run })
    if ws.isEmpty || fld (s.ac Reg.REF_DIS_GATE) 0 10 ≤ run then
      (s.updMon m (fun x => { x with xfail := false, winners := [], agreeRun := 0 })).monEval m
    else s

/-- XCHECK (R312): once per second every pair of references in WTR or QUALIFIED is compared, and disagreements are
resolved on the same second. -/
def execXcheck (s : State) : Res :=
  let bad := s.xPairs.filter (fun p => !(s.compare p.1 p.2).within)
  let judged := bad.map (fun p => (p, s.votes p.1 p.2))
  let s₀ := s
  let s := (List.range 13).foldl State.xRecover s
  let s := judged.foldl (fun s j =>
    if j.2.1 < j.2.2 then s.outvote j.1.1 j.1.2 else if j.2.2 < j.2.1 then s.outvote j.1.2 j.1.1 else s) s
  let open_ := (judged.filter (fun j => j.2.1 == j.2.2)).map (·.1)
  let s := open_.foldl (fun s p =>
    let fresh := !s₀.ref.disPairs.contains p
    let phase := (s₀.compare p.1 p.2).freq != some false
    let s : State := { s with ref := { s.ref with disA := p.1, disB := p.2, disPhase := phase } }
    if fresh then s.raise 36 else s) s
  let s : State := { s with ref := { s.ref with disPairs := open_ } }
  let s := (List.range 13).foldl (fun s m =>
    let d := open_.any (fun p => p.1 == m || p.2 == m)
    let s := if (s.mon m).disagree = d then s else (s.updMon m (fun x => { x with disagree := d })).refChanged
    s.monEval m) s
  .next ((List.range 13).foldl State.wtrSync s)

/-! ## The selector -/

/-- R316: reference `m` is eligible. -/
def State.eligible (s : State) (m : Nat) : Bool :=
  let seeded := s.time.st = .rtcSeeded && decide ((s.rd Reg.TSC_RTC_UNC).toNat < 400000)
  (s.mon m).state == .qualified && fld (s.ac (Reg.REF_CFG m)) 4 4 != 0 &&
    (!(decide (m < 8) && s.refMode m == 1) || s.aligned || seeded)

/-- PRIO of reference `m`. -/
def State.refPrio (s : State) (m : Nat) : Nat := fld (s.ac (Reg.REF_CFG m)) 4 4

/-- R317: the eligible reference of best rank, the lowest of several. -/
def State.bestRef (s : State) : Option Nat :=
  ((List.range 13).filter s.eligible).foldl (fun b m => match b with
    | some c => if s.refPrio m < s.refPrio c then some m else b
    | none => some m) none

/-- REF_DIS_STAT.DIS_MASK (R313). -/
def State.disMask (s : State) : Nat :=
  (s.ref.disPairs.flatMap (fun p => [p.1, p.2])).eraseDups.foldl (fun n m => n + 2 ^ m) 0

/-- DIS_HOLD (R319). -/
def State.disHold (s : State) : Bool := match s.ref.selected with
  | some m => s.disMask.testBit m
  | none => false

/-- R317, R318: MODE of the selector. -/
def State.selMode (s : State) : Nat := fld (s.ac Reg.REF_SEL_CTRL) 0 2
/-- MANUAL_SEL. -/
def State.manualSel (s : State) : Nat := fld (s.ac Reg.REF_SEL_CTRL) 4 4

/-- R317–R320: the reference to select now and the reason of a switch to it; `cmt` says that a commit changed MODE or PRIO,
`man` that it changed MANUAL_SEL. -/
def State.selectNow (s : State) (cmt man : Bool) : Option Nat × Reason :=
  let cur := s.ref.selected
  let manual := s.selMode = 1 && (s.mon s.manualSel).state == .qualified
  if s.selMode = 2 then (none, if cmt then .commit else .fail)
  else
    match cur with
    | none => (if manual then some s.manualSel else s.bestRef, .first)
    | some c =>
      if manual && c != s.manualSel then (some s.manualSel, .manual)
      else if !(s.eligible c || manual) then
        (s.bestRef, if (s.mon c).state = .xcheckFail then .majority else if (s.mon c).state = .qualified && man then .manual
          else if (s.mon c).state = .qualified && cmt then .commit else .fail)
      else
        match s.bestRef with
        | some b =>
          if bitAt (s.ac Reg.REF_SEL_CTRL) 2 && !s.disHold && !manual && decide (s.refPrio b < s.refPrio c) then
            (some b, if cmt then .commit else .revert)
          else (cur, .none)
        | none => (cur, .none)

/-- REF_SWITCH (R320): the selected reference changes, and DPLL0 takes the new target. -/
def State.refSwitch (s : State) (m : Option Nat) (why : Reason) : State :=
  let s : State := { s with ref := { s.ref with selected := m, reason := why } }
  let s := (s.bump Reg.REF_SEL_SWITCHES).raise 34
  s.dpllSelect m

/-- SELECTOR_EVALUATE (R317–R320) at this CCLK edge, with what follows for DPLL1–DPLL3 (R321). -/
def State.selectorEval (s : State) (cmt man : Bool) : State :=
  let s : State := { s with ref := { s.ref with evalDue := false } }
  let lost := s.selMode = 1 && (s.mon s.manualSel).state != .qualified
  let was := s.ref.manualLost
  let s : State := { s with ref := { s.ref with manualLost := lost } }
  let s := if lost && !was then s.raise 42 else s
  let none_ := !((List.range 13).any s.eligible)
  let (m, why) := s.selectNow cmt man
  let s := if m = s.ref.selected then s else s.refSwitch m why
  let raised := s.ref.noneRaised
  let s : State := { s with ref := { s.ref with noneRaised := none_ && m.isNone } }
  let s := if none_ && m.isNone && !raised then s.raise 35 else s
  (List.range 8).foldl State.outclkSync ((List.range 3).foldl State.dpllxSync s)

/-- SELECTOR_EVALUATE (R318): the selector evaluates again at the CCLK edge after a change. -/
def execSelectorEvaluate (s : State) : Res :=
  if !s.ref.evalDue then .next s else .next ((s.advTo (s.cclkAfter 1)).selectorEval false false)

/-! ## Internal references -/

/-- R301, R306: the activity and the quality of the references whose condition the TE-9 knows itself: the PTP clients and
SYNCE. -/
def State.internalRefs (s : State) : State :=
  let act (s : State) (m : Nat) (on : Bool) : State :=
    if !s.refEn m then s else if on then s.monBack m else s.monLost m
  let c (i : Nat) : Bool := (s.client i).port = .slave && (s.client i).servo = .locked
  let s := act (act s 9 (c 0)) 10 (c 1)
  act s 11 (s.isUp (fld (s.ac Reg.REF_SYNCE_SEL) 0 3))

/-- R306: the received QL of the SYNCE port is judged. -/
def State.qlJudge (s : State) (n : Nat) : State :=
  let sel := s.ac Reg.REF_SYNCE_SEL
  if fld sel 0 3 ≠ n then s
  else
    let v := s.rd (Reg.PRT_ESMC_RX n)
    let r := ssmRank (fld v 0 4)
    let ok := !bitAt v 12 && r ≠ 4 && decide (r ≤ ssmRank (fld sel 4 4))
    (s.updMon 11 (fun x => { x with qlOk := ok })).monEval 11

/-- R311: monitor `m` starts anew at a commit. -/
def State.monRestart (s : State) (m : Nat) : State :=
  let was := (s.mon m).state
  let s := s.updMon m (fun x => { ({} : Monitor) with state := x.state, cfgErr := x.cfgErr, disagree := false })
  let s := s.monEval m
  if was = .disabled && s.refEn m then s.refChanged else s

/-- R300, R311: the monitors after a commit whose set before was `old`. -/
def State.refCommit (s : State) (old : Tab Word) : State :=
  let was (a : Nat) : Word := tget rwsDef old a
  let tod := s.ac Reg.REF_TOD_CFG
  let err := !bitAt tod 0 && s.refMode (fld tod 1 3) != 1
  let s := if err then s.raise 40 else s
  let s := s.updMon 12 (fun x => { x with cfgErr := err })
  (List.range 13).foldl (fun s m =>
    let moved := (was (Reg.REF_CFG m) ^^^ s.ac (Reg.REF_CFG m)) &&& 0xF != 0 ||
      was (Reg.REF_FREQ_NUM m) != s.ac (Reg.REF_FREQ_NUM m) || was (Reg.REF_FREQ_DEN m) != s.ac (Reg.REF_FREQ_DEN m) ||
      (m == 11 && fld (was Reg.REF_SYNCE_SEL) 0 3 != fld (s.ac Reg.REF_SYNCE_SEL) 0 3) || (m == 12 && was Reg.REF_TOD_CFG != tod)
    if moved then s.monRestart m
    else
      let d := sfld (s.ac (Reg.REF_IN_DELAY m)) 0 32 - sfld (was (Reg.REF_IN_DELAY m)) 0 32
      let o := roundDiv (-d * 65536) 1000
      let s := if d = 0 then s
        else
          let s := s.updMon m (fun x => { x with
            last := x.last.map (· - d), cand := x.cand.map (· - d), bad := x.bad.map (· - d), o := nearSec (x.o + o)
            hist := x.hist.map (fun h => { h with tb := h.tb - d, o := nearSec (h.o + o) }) })
          if s.clk.d.ref = some m then s.updD (fun x => { x with r := x.r + o, e := x.e + o }) else s
      let l := s.ac (Reg.REF_LIMITS m)
      let s := if (s.mon m).freqOk && fld l 0 16 * 1000 < (s.mon m).df.natAbs then s.updMon m (fun x => { x with freqOk := false })
        else s
      (if m = 11 then s.qlJudge (fld (s.ac Reg.REF_SYNCE_SEL) 0 3) else s).monEval m) s

/-! ## ESMC -/

/-- ESMC_PDU_RECEIVED (R77): the firmware records a valid ESMC PDU of port `n` with its SSM code and, from the extended
TLV, the enhanced code. DESIGN CHOICE (log entry 51): the QL of a port in TIMEOUT reads QL-FAILED, so a PDU that ends TIMEOUT is a
change and raises EV104 though its codes are those of before. -/
def execEsmcPduReceived (n : Fin 8) (ssm : Fin 16) (essm : Option (Fin 256)) (s : State) : Res :=
  let n := n.val
  if !bitAt (s.ac (Reg.PRT_ESMC_TX n)) 0 || !s.isUp n || s.taskStopped 0 then .next s
  else
    let was := s.rd (Reg.PRT_ESMC_RX n)
    let e := match essm with
      | some x => x.val
      | none => 0
    let v := esmcWord ssm.val e false
    let s := (s.wr (Reg.PRT_ESMC_RX n) v).updPort n (fun p => { p with esmcAt := s.time.now })
    let s := if fld v 0 12 = fld was 0 12 && !bitAt was 12 then s else s.portEvt n 8
    .next (s.qlJudge n)

/-- ESMC_TIMEOUT (R77): 5 s have passed on port `n` without a valid PDU. -/
def execEsmcTimeout (n : Fin 8) (s : State) : Res :=
  let n := n.val
  let was := s.rd (Reg.PRT_ESMC_RX n)
  if !bitAt (s.ac (Reg.PRT_ESMC_TX n)) 0 || bitAt was 12 then .next s
  else
    let s := s.advTo ((s.port n).esmcAt + 5 * sTicks)
    let s := (s.wr (Reg.PRT_ESMC_RX n) (putBit was 12 true)).portEvt n 9
    .next (s.qlJudge n)

/-- R359: the state of a DPLL (1–3) for the ESMC: holdover, free-run, and whether it follows DPLL0. -/
def State.esmcDpll (s : State) (x : Nat) : Bool × Bool × Bool :=
  let d0 := (decide (s.clk.d.state = .holdover ∨ s.clk.d.state = .acquire), decide (s.clk.d.state = .freeRun), true)
  match (s.dpllx (x - 1)).state with
  | .dtTrack => d0
  | .holdover => (true, false, false)
  | .freeRun | .disabled => (false, true, false)
  | .locked => (false, false, false)

/-- R78, R359: the SSM code that port `n` sends. -/
def State.esmcCode (s : State) (n : Nat) : Nat :=
  let c := s.ac (Reg.PRT_ESMC_TX n)
  let src := fld (s.ac (Reg.PRT_SYNCE_TX n)) 0 3
  let x := if src ≤ 3 then src else fld (s.ac (Reg.CLK_APLL_CFG (src - 4))) 1 2
  let hold := fld c 4 4
  let free := fld c 8 4
  if src = 0 || x = 0 then free
  else
    let (h, f, dt) := s.esmcDpll x
    let ref := if dt then s.clk.d.ref else some (fld (s.ac (Reg.CLK_DPLL_CFG (x - 1))) 1 4 - 1)
    if h then hold
    else if f then free
    else
      match ref with
      | none => free
      | some 11 => if fld (s.ac Reg.REF_SYNCE_SEL) 0 3 = n then 0xF else fld (s.rd (Reg.PRT_ESMC_RX (fld (s.ac Reg.REF_SYNCE_SEL) 0 3))) 0 4
      | some m => fld (s.ac Reg.CLK_QL_MAP) (4 * s.refType m) 4

/-- R77, R78: an ESMC PDU from its Ethertype on: subtype, OUI, event flag, QL TLV and extended QL TLV. PRESUMED (log entry 52): the fields
that R77 does not name stand as in ITU-T G.8264; the content of the extended TLV is open. -/
def esmcPdu (ssm : Nat) (event ext : Bool) : List Byte :=
  [0x88, 0x09, 0x0A, 0x00, 0x19, 0xA7, 0x00, 0x01, BitVec.ofNat 8 (0x10 + bn event 3), 0, 0, 0, 1, 0, 4, BitVec.ofNat 8 ssm] ++
    (if ext then [2, 0, 20] ++ (List.range 17).map (Config.esmcExt ssm) else [])

/-- R78: ESMC runs on port `n`, which is UP, and the core that has it serves. -/
def State.esmcOn (s : State) (n : Nat) : Bool := bitAt (s.ac (Reg.PRT_ESMC_TX n)) 0 && s.isUp n && !s.taskStopped 0

/-- R78, R149: the firmware sends an ESMC PDU on port `n`, a class 2 frame of 64 bytes. -/
def State.esmcSend (s : State) (n : Nat) (event : Bool) : State :=
  let q := s.esmcCode n
  let ext := bitAt (s.ac (Reg.PRT_ESMC_TX n)) 1
  let s := (s.updPort n (fun p => { p with esmcQlSent := q })).emit (.esmc n q event ext)
  s.bePush n .core 64 (esmcPdu q event ext)

/-- ESMC_INFO_SEND (R78): an information PDU is sent on each enabled port on which a second has passed since the one before; time
passes to the first of them. -/
def execEsmcInfoSend (s : State) : Res :=
  match (List.range 8).filter s.esmcOn with
  | [] => .next s
  | n :: r =>
    let s := s.advTo ((r.map (fun m => (s.port m).esmcTxAt)).foldl min (s.port n).esmcTxAt)
    .next ((n :: r).foldl (fun s m => if s.time.now < (s.port m).esmcTxAt then s
      else (s.updPort m (fun p => { p with esmcTxAt := s.time.now + sTicks })).esmcSend m false) s)

/-- ESMC_EVENT_SEND (R78): an event PDU is sent on each port whose transmitted QL has changed. -/
def execEsmcEventSend (s : State) : Res :=
  .next ((List.range 8).foldl (fun s n =>
    if !s.esmcOn n || s.esmcCode n = (s.port n).esmcQlSent then s else s.esmcSend n true) s)

end Sys2Proof.Machine
end

