-- ==== Sys2Proof/Machine/Client.lean ====
section
/-!
DEFINITION. The upstream client instances of PTP: messages, master selection, exchanges and the servo (R249–R256).
-/

namespace Sys2Proof.Machine

/-! ## The virtual clock -/

/-- Φ of instance `i` at stamp `t` (R252). -/
def State.clPhi (s : State) (i : Nat) (t : Int) : Int :=
  let c := s.client i
  c.phi + roundDiv (c.y * (t - c.tu)) (2 ^ 48)

/-- V of instance `i` at stamp `t` (R252). -/
def State.clV (s : State) (i : Nat) (t : Int) : Int := t + s.clPhi i t

/-- R297, R302: at a DT second the monitor of instance `i` takes V: the second of V nearest to it is the pulse. -/
def State.clSecond (s : State) (i : Nat) : State :=
  let m := 9 + i
  if !s.refEn m || !((s.client i).port = .slave && (s.client i).servo = .locked) then s
  else
    let now : Int := s.nowSt
    let phi := s.clPhi i now
    let lab := (now + phi + stSec / 2) / stSec
    let st := stSec * lab - phi
    s.pulse m (s.nowPs + (st - now) * 1000 / 65536) st (some lab.toNat)

/-! ## Requests of unicast -/

/-- Address `j` of the unicast master table of instance `i`. -/
def State.clUmt (s : State) (i j : Nat) : BitVec 128 :=
  BitVec.ofNat 128 (ofBe (bytesOf ((List.range 4).map (fun k => s.ac (Reg.SRV_PTP_CL_UMT i j k)))))

/-- R249: the logInterval that instance `i` requests for a message type: 0xB Announce, 0x0 Sync, 0x9 Delay_Resp. -/
def State.clLog (s : State) (i type : Nat) : Int :=
  let r := s.ac (Reg.SRV_PTP_CL_RATE i)
  if type = 0 then sfld r 0 8 else if type = 9 then sfld r 8 8 else sfld r 16 8

/-- R252: a message of instance `i` with its TLV when AUTH is 1; nothing when its key is absent. -/
def State.clSigned (s : State) (i : Nat) (msg : List Byte) : Option (List Byte) :=
  let spp := fld (s.ac (Reg.SRV_PTP_CL_AUTH i)) 0 8
  let kid := (s.ac (Reg.SRV_PTP_CL_KEYID i)).toNat
  if !s.clAuth i then some msg
  else (s.annexFind spp kid s.time.now).map (fun k => withIcv (s.annexKey k).key spp kid msg)

/-- R249: instance `i` sends a signalling message to master `j` of its table. -/
def State.clSignal (s : State) (i j : Nat) (tlv : List Byte) : State :=
  let n := s.clPort i
  let seq := (s.client i).sigSeq
  let m := s.clSigned i (s.sigMsg n (s.clDomain i) seq (s.clAuth i) (List.replicate 10 0xFF) tlv)
  let s := s.updClient i (fun c => { c with sigSeq := (seq + 1) % 65536 })
  match m with
  | some m => s.coreSend n ((s.clUmt i j).toNat / 2 ^ 32 != 0xFFFF) (s.clUmt i j) none m
  | none => s

/-- R249: instance `i` requests a message type from master `j` of its table. -/
def State.clRequest (s : State) (i j type : Nat) : State :=
  s.clSignal i j (requestTlv type (s.clLog i type) (fld (s.ac (Reg.SRV_PTP_CL_DUR i)) 0 16))

/-- The index in the unicast master table of the master that instance `i` has selected. -/
def State.clMasterIdx (s : State) (i : Nat) : Option Nat :=
  match (s.client i).master with
  | some m => ((s.client i).foreigns.find? (fun f => (f.ident, f.portNo) == m)).map (·.umt)
  | none => none

/-- R249: what instance `i` still has to request: Announce of each valid address, Sync and Delay_Resp of its master, where it holds
no grant or its renewal has not been granted. -/
def State.clWants (s : State) (i : Nat) : List (Nat × Nat) :=
  let has (j t : Nat) : Bool :=
    (s.client i).grants.any (fun p => p.1 == 16 * j + t && decide (s.time.now < p.2.until_) && !p.2.asked)
  let ann := (List.range 3).filterMap (fun j => if s.clUmt i j = 0 || has j 0xB then none else some (j, 0xB))
  let sel := match s.clMasterIdx i with
    | some j => [0, 9].filterMap (fun t => if has j t then none else some (j, t))
    | none => []
  ann ++ sel

/-- R249: the requests that are due are sent, and their answers awaited. -/
def State.clAsk (s : State) (i wait : Nat) : State :=
  let w := s.clWants i
  let s := w.foldl (fun s p => s.clRequest i p.1 p.2) s
  s.updClient i (fun c => { c with
    retryAt := if w.isEmpty then none else some (s.time.now + sTicks * wait), asked := !w.isEmpty })

/-! ## Master selection -/

/-- R251: ACCEPT_CLASS. -/
def State.clAccept (s : State) (i : Nat) : Nat := fld (s.ac (Reg.SRV_PTP_CL_LIMITS i)) 16 8

/-- R250: the foreign master is qualified: 2 Announce within 4 of its intervals. -/
def Foreign.qualified (f : Foreign) (now : Nat) : Bool :=
  decide (2 ≤ (f.heard.filter (fun t => decide (now ≤ t + 4 * f.interval))).length)

/-- The first list is before the second. -/
def before : List Nat → List Nat → Bool
  | a :: as, b :: bs => decide (a < b) || (a == b && before as bs)
  | _, _ => false

/-- R251: master `f` with localPriority `lf` is better than `g`. On profile 1 two data sets of one grandmaster are compared by
stepsRemoved and then by their senders, others by the grandmaster's attributes. -/
def Foreign.better (f g : Foreign) (profile lf lg : Nat) : Bool :=
  let topo (x : Foreign) : List Nat := [x.steps, x.ident, x.portNo]
  if profile = 1 then
    let attr (x : Foreign) : List Nat := [x.prio1, x.cls, x.acc, x.oslv, x.prio2, x.gm]
    if f.gm = g.gm then before (topo f) (topo g) else before (attr f) (attr g)
  else
    let attr (x : Foreign) (l : Nat) : List Nat := [x.cls, x.acc, x.oslv, x.prio2, l, x.gm]
    before (attr f lf ++ topo f) (attr g lg ++ topo g)

/-- R251: the localPriority of a master. -/
def State.clLocalPrio (s : State) (i : Nat) (f : Foreign) : Nat :=
  if s.clProfile i = 3 then 128 + f.umt else fld (s.ac (Reg.SRV_PTP_CL_CFG i)) 24 8

/-- R251: the master that the BMCA selects. -/
def State.clBest (s : State) (i : Nat) : Option Foreign :=
  let ok := (s.client i).foreigns.filter (fun f => f.qualified s.time.now && decide (f.cls ≤ s.clAccept i))
  ok.foldl (fun b f => match b with
    | none => some f
    | some g => if f.better g (s.clProfile i) (s.clLocalPrio i f) (s.clLocalPrio i g) then some f else b) none

/-- R250, R251, R255: instance `i` takes a new master. -/
def State.clTake (s : State) (i : Nat) (f : Foreign) : State :=
  let s := (s.clForget i).updClient i (fun c => { c with
    master := some (f.ident, f.portNo), masterClass := f.cls, annAt := s.time.now, syncAt := s.time.now, mpdWin := [], fit := []
    syncLog := s.clLog i 0 })
  let s := ((s.clSetServo i .freeRun).raise 184).clSetPort i .uncalibrated
  (if s.clProfile i = 3 then s.clAsk i 1 else s).internalRefs

/-- R250, R251: the BMCA runs for instance `i`. -/
def State.clBmca (s : State) (i : Nat) : State :=
  match s.clBest i with
  | some f => if (s.client i).master = some (f.ident, f.portNo) then s else s.clTake i f
  | none => s

/-- R250, R251: an Announce that instance `i` receives. -/
def State.clAnnounce (s : State) (i umt : Nat) (p : List Byte) : State :=
  let log := Machine.signed 8 (byteAt p 33)
  let f : Foreign := {
    ident := ofBe (slice p 20 8), portNo := ofBe (slice p 28 2), gm := ofBe (slice p 53 8), prio1 := byteAt p 47
    cls := byteAt p 48, acc := byteAt p 49, oslv := ofBe (slice p 50 2), prio2 := byteAt p 52, steps := ofBe (slice p 61 2)
    umt := umt, interval := logTicks (if log = 0x7F then s.clLog i 0xB else log), heard := [s.time.now] }
  let old := (s.client i).foreigns.find? (fun g => g.ident == f.ident && g.portNo == f.portNo)
  let f := { f with heard := (f.heard ++ (old.map (·.heard)).getD []).take 8 }
  let rest := (s.client i).foreigns.filter (fun g => !(g.ident == f.ident && g.portNo == f.portNo))
  let s := s.updClient i (fun c => { c with foreigns := rest ++ [f] })
  if (s.client i).master = some (f.ident, f.portNo) then
    let s := s.updClient i (fun c => { c with annAt := s.time.now, masterClass := f.cls })
    if s.clAccept i < f.cls then (s.clListen i).internalRefs else s.clBmca i
  else s.clBmca i

/-! ## The servo -/

/-- R252: the Sync interval Δ of instance `i` in seconds, as a fraction. -/
def State.clDelta (s : State) (i : Nat) : Nat × Nat :=
  let l := (s.client i).syncLog
  (2 ^ l.toNat, 2 ^ (-l).toNat)

/-- SERVO_UPDATE in HW_SERVO mode (R253): one update of the loop by θ. -/
def State.clLoop (s : State) (i : Nat) (th : Int) : State :=
  let (dn, dd) := s.clDelta i
  let b := fld (s.ac (Reg.SRV_PTP_CL_SERVO i)) 0 8
  let (xn, xd) := if 16 * b * dn ≤ 100 * dd then (b * dn, 100 * dd) else (1, 16)
  let w := 2 * pi20 * xn
  let phi := s.clPhi i s.nowSt
  s.updClient i (fun c => { c with
    phi := phi - roundDiv (2 * (w : Int) * th) (10 ^ 20 * xd)
    y := satSigned 40 (c.y - roundDiv ((w * w * dd * 2 ^ 32 : Nat) * th) (10 ^ 49 * xd * xd * dn))
    tu := s.nowSt })

/-- R253, R254: the virtual clock steps by −θ. -/
def State.clStep (s : State) (i : Nat) (th : Int) : State :=
  let phi := s.clPhi i s.nowSt
  s.updClient i (fun c => { c with phi := phi - th, tu := s.nowSt, stepped := true, fit := [] })

/-- R250, R255: the port state follows the servo. -/
def State.clPortSync (s : State) (i : Nat) : State :=
  let c := s.client i
  let s := if c.port = .uncalibrated && c.servo = .locked then s.clSetPort i .slave
    else if c.port = .slave && c.servo != .locked then s.clSetPort i .uncalibrated else s
  s.internalRefs

/-- SERVO_UPDATE (R253–R255): the servo takes the offset θ of a valid exchange. -/
def State.clServo (s : State) (i : Nat) (th : Int) : State :=
  let rate := bitAt (s.ac (Reg.SRV_PTP_CL_CFG i)) 16
  let good := decide (th.natAbs ≤ fld (s.ac (Reg.SRV_PTP_CL_SERVO i)) 16 16 * 65536)
  let s := match (s.client i).servo with
    | .none | .freeRun => (s.clSetServo i .acquire).clStep i th
    | .acquire =>
      if rate then s
      else if !(s.client i).stepped then s.clStep i th
      else
        let n := if good then (s.client i).lockCount + 1 else 0
        let s := (s.clLoop i th).updClient i (fun c => { c with lockCount := n })
        if 16 ≤ n then s.clSetServo i .locked else s
    | .locked => if rate then s else (s.clLoop i th).updClient i (fun c => { c with outliers := 0 })
  s.clPortSync i

/-- R254: in STEP_RATE mode each Sync since the step refits the rate of V. -/
def State.clFit (s : State) (i : Nat) (y : ClSync) : State :=
  let c := s.client i
  if !bitAt (s.ac (Reg.SRV_PTP_CL_CFG i)) 16 || !c.stepped && c.servo != .locked || c.servo = .freeRun || c.servo = .none then s
  else
    let win := fld (s.ac (Reg.SRV_PTP_CL_SERVO i)) 8 8
    let f := ((y.t1 + y.cs, y.sIn) :: c.fit).take win
    let n : Int := f.length
    let xs := f.map (fun p => (p.2 : Int) - y.sIn)
    let us := f.map (fun p => p.1 - (p.2 : Int) - (y.t1 + y.cs - y.sIn))
    let sx := xs.sum
    let su := us.sum
    let den := n * (xs.map (fun x => x * x)).sum - sx * sx
    let num := n * ((xs.zip us).map (fun p => p.1 * p.2)).sum - sx * su
    let phi := s.clPhi i s.nowSt
    let s := s.updClient i (fun c => { c with fit := f })
    let s := if den ≤ 0 then s
      else s.updClient i (fun c => { c with y := satSigned 40 (roundDiv (num * 2 ^ 48) den.toNat), phi := phi, tu := s.nowSt })
    if f.length = win && c.servo = .acquire then (s.clSetServo i .locked).clPortSync i else s

/-! ## Exchanges -/

/-- R252–R254: a whole exchange: t1, c_s and S_in of the Sync, the egress stamp, t4 and c_d. An outlier is discarded, in STEP_RATE
mode with its θ shown. -/
def State.clExchange (s : State) (i : Nat) (y : ClSync) (t3 : Nat) (t4 cd : Int) : State :=
  let ms := s.clV i y.sIn - y.t1 - y.cs
  let sm := t4 - s.clV i t3 - cd
  let win := (roundDiv (ms + sm) 2 :: (s.client i).mpdWin).take 16
  let mpd := roundDiv win.sum win.length
  let th := ms - mpd - roundDiv (sfld (s.ac (Reg.SRV_PTP_CL_ASYM i)) 0 24 * 65536) 1000
  let out := (s.client i).servo = .locked &&
    decide (fld (s.ac (Reg.SRV_PTP_CL_LIMITS i)) 0 16 * 65536 < th.natAbs)
  if out then
    let n := (s.client i).outliers + 1
    let rate := bitAt (s.ac (Reg.SRV_PTP_CL_CFG i)) 16
    let s := ((s.updClient i (fun c => { c with outliers := n, theta := if rate then th else c.theta })).bump
      Reg.SRV_PTP_CL_OUTLIERS).raise 185
    if 8 ≤ n && !rate then (s.clSetServo i .acquire).clPortSync i else s
  else
    let s := s.updClient i (fun c => { c with mpd := mpd, mpdWin := win, theta := th, outliers := 0 })
    (if s.ref.selected = some (9 + i) then s.timeStateChange else s).clServo i th

/-- A PTP timestamp in units of 2⁻¹⁶ ns. -/
def ptpStamp (p : List Byte) (k : Nat) : Int :=
  (stSec * (ofBe (slice p k 6)) + ofBe (slice p (k + 6) 4) * 65536 : Nat)

/-- R252: a Sync of instance `i` is whole: it is the one that the next exchange uses. -/
def State.clSync (s : State) (i : Nat) (y : ClSync) : State :=
  (s.updClient i (fun c => { c with pair := some y, syncs := c.syncs.filter (fun z => z.seq != y.seq) })).clFit i y

/-- R2, R246, R252: a message of an AUTH instance carries a valid TLV, and one of another carries none. -/
def State.clAuthOk (s : State) (i : Nat) (p : List Byte) : Bool := s.ptpAuthOk (s.clAuth i) p

/-- R249: the grants of a signalling message, or its denials. -/
def State.clGrants (s : State) (i j : Nat) (p : List Byte) : State :=
  (ptpTlvs 16 (slice p 44 (ptpLen p - 44))).foldl (fun s t =>
    if t.1 = 5 && 6 ≤ t.2.length then
      let type := byteAt t.2 0 / 16
      let dur := ofBe (slice t.2 2 4)
      if dur = 0 then s.updClient i (fun c => { c with retryAt := some (s.time.now + 10 * sTicks), asked := true })
      else
        let s := s.updClient i (fun c => { c with
          grants := tput c.grants (16 * j + type) ⟨s.time.now + sTicks * dur / 2, s.time.now + sTicks * dur, false⟩ })
        if (s.clWants i).isEmpty then s.updClient i (fun c => { c with retryAt := none, asked := false }) else s
    else if t.1 = 6 && 1 ≤ t.2.length then
      let s := s.updClient i (fun c => { c with
        grants := tdel c.grants (16 * j + byteAt t.2 0 / 16), retryAt := some (s.time.now + 10 * sTicks), asked := true })
      s.clSignal i j (ackTlv (byteAt t.2 0 / 16))
    else s) s

/-- CLIENT_MESSAGE (R252): a PTP message of the domain and port of instance `i` is processed: Announce, Sync, Follow_Up,
Delay_Resp, and on profile 3 the grants of signalling. -/
def execClientMessage (i : Fin 2) (f : Frame) (s : State) : Res :=
  let i := i.val
  let p := f.payload
  let t := byteAt p 0 % 16
  if !s.clEn i || !s.isUp (s.clPort i) || byteAt p 4 != s.clDomain i || byteAt p 1 % 16 != 2 ||
      s.taskStopped (if t = 0xB || t = 0xC then 1 else 0) then .next s
  else if !s.clAuthOk i p then .next (s.bump Reg.SRV_PTP_CL_DROP_AUTH)
  else
    let from_ := (ofBe (slice p 20 8), ofBe (slice p 28 2))
    let j := ((List.range 3).find? (fun j => s.clUmt i j == f.src)).getD 3
    let mine := (s.client i).master = some from_
    let seq := ofBe (slice p 30 2)
    let corr : Int := Machine.signed 64 (ofBe (slice p 8 8))
    let log := Machine.signed 8 (byteAt p 33)
    match t with
    | 0xB => .next (if s.clProfile i = 3 && j = 3 then s else s.clAnnounce i j p)
    | 0xC => .next (if s.clProfile i = 3 && j < 3 then s.clGrants i j p else s)
    | 0x0 =>
      if !mine then .next s
      else
        let sIn := s.stampOf (s.clPort i) f
        let two := (BitVec.ofNat 8 (byteAt p 6)).getLsbD 1
        let y : ClSync := ⟨seq, if two then 0 else ptpStamp p 34, corr, sIn, !two⟩
        let s := s.updClient i (fun c => { c with
          syncAt := s.time.now, syncLog := if log = 0x7F then c.syncLog else log })
        if two then .next (s.updClient i (fun c => { c with syncs := (y :: c.syncs).take 4 })) else .next (s.clSync i y)
    | 0x8 =>
      if !mine then .next s
      else match (s.client i).syncs.find? (fun y => y.seq == seq) with
        | some y => .next (s.clSync i { y with t1 := ptpStamp p 34, cs := y.cs + corr, done := true })
        | none => .next s
    | 0x9 =>
      if !mine || slice p 44 10 != s.portIdent s.cfg.gen (s.clPort i) then .next s
      else match (s.client i).dreq, (s.client i).pair with
        | some (q, some t3), some y =>
          if q = seq then
            .next ((s.updClient i (fun c => { c with dreq := none })).clExchange i y t3 (ptpStamp p 34) corr)
          else .next s
        | _, _ => .next s
    | _ => .next s

/-- CLIENT_DELAY_REQ (R249): instance `i` sends a Delay_Req to its master, through class 2 of the best-effort queue. -/
def execClientDelayReq (i : Fin 2) (s : State) : Res :=
  let i := i.val
  let c := s.client i
  if !s.clEn i || c.master.isNone || !s.isUp (s.clPort i) || s.taskStopped 0 then .next s
  else
    let n := s.clPort i
    let g := s.cfg.gen
    let seq := c.dseq
    let msg := ptpHeader 1 (if s.clAuth i then 70 else 44) (s.clDomain i) (bn (s.clProfile i == 3) 10) 0 (s.portIdent g n) seq 1
      0x7F ++ List.replicate 10 0
    match s.clSigned i msg with
    | none => .next s
    | some m =>
      let tr := fld (s.ac (Reg.SRV_PTP_CL_CFG i)) 6 2
      let base : FrameHead := { s.syncHead g n none with l2 := false }
      let head : FrameHead :=
        if s.clProfile i = 3 then base.toward n (tr == 2) (s.clUmt i ((s.clMasterIdx i).getD 0))
        else if s.clProfile i = 2 || tr = 0 then
          { base with l2 := true, dstMac := if s.clProfile i = 2 && s.nonFwd g n then 0x0180C200000E else 0x011B19000000 }
        else base.toward n (tr == 2) (if tr = 2 then 0xFF0E0000000000000000000000000181#128 else 0xFFFFE0000181#128)
      .next ((s.updClient i (fun c => { c with dreq := some (seq, none), dseq := (seq + 1) % 65536 })).bePush n
        (.delayReq i seq) (head.len m.length) m (some head))

/-- CLIENT_GRANT_RENEW (R249): instance `i` renews the grant of a message type by master `j` when half of it has
elapsed; until it is granted the renewal is wanted. -/
def execClientGrantRenew (i : Fin 2) (j : Fin 3) (type : Fin 16) (s : State) : Res :=
  match (s.client i.val).grants.find? (fun p => p.1 == 16 * j.val + type.val) with
  | none => .next s
  | some p =>
    if !s.clEn i || s.clProfile i.val ≠ 3 || p.2.asked || s.taskStopped 1 then .next s
    else
      let s := s.advTo p.2.renewAt
      let s := s.clRequest i.val j.val type.val
      .next (s.updClient i.val (fun c => { c with
        grants := tput c.grants p.1 { p.2 with asked := true }
        retryAt := some (match c.retryAt with
          | some t => t
          | none => s.time.now + sTicks), asked := true }))

/-- CLIENT_RETRY (R249): instance `i` requests what it lacks: at once in LISTENING, 1 s after a request without an answer,
and every 10 s. -/
def execClientRetry (i : Fin 2) (s : State) : Res :=
  let i := i.val
  match (s.client i).retryAt with
  | none => .next s
  | some t =>
    if s.taskStopped 1 then .next s
    else
    let s := s.advTo t
    .next (s.clAsk i (if (s.client i).asked then 10 else 1))

/-- CLIENT_ANNOUNCE_TIMEOUT (R250): ANN_TIMEOUT announce intervals have passed without an Announce of the master. -/
def execClientAnnounceTimeout (i : Fin 2) (s : State) : Res :=
  let i := i.val
  let c := s.client i
  match c.master with
  | none => .next s
  | some m =>
    let iv := ((c.foreigns.find? (fun f => (f.ident, f.portNo) == m)).map (·.interval)).getD 0
    let s := s.advTo (c.annAt + fld (s.ac (Reg.SRV_PTP_CL_LIMITS i)) 24 3 * iv)
    .next ((s.clListen i).internalRefs)

/-- CLIENT_SYNC_TIMEOUT (R250): 3 Sync intervals have passed without a valid Sync. -/
def execClientSyncTimeout (i : Fin 2) (s : State) : Res :=
  let i := i.val
  let c := s.client i
  if c.port = .slave || c.port = .uncalibrated then
    let (dn, dd) := s.clDelta i
    let s := s.advTo (c.syncAt + 3 * sTicks * dn / dd)
    .next ((s.clListen i).internalRefs)
  else .next s

end Sys2Proof.Machine
end

