-- ==== Sys2Proof/Machine/Clock.lean ====
section
/-!
DEFINITION. The clock core's rows: loss of clocks, DPLL0's samples and steps, the outputs, steering and the millisecond
(R328–R361, R512, R513).
-/

namespace Sys2Proof.Machine

/-! ## Loss of clocks -/

/-- R328, R347: e_hold is forced to its greatest value until the next reset. -/
def State.forceHold (s : State) : State :=
  ({ s with clk := { s.clk with forced := true } } : State).timeStateChange

/-- OSC_LOSS (R328): OSCIN is declared lost. -/
def execOscLoss (s : State) : Res := .next (((s.orBits Reg.CLK_STAT (bitMask 1)).forceHold).raise 48)

/-- FLT_REDUN as the dual PLLs stand (R521). -/
def State.pllRedun (s : State) : State :=
  let n := (List.range 3).foldl (fun n p =>
    let x := s.pll p
    n + bn x.second p + bn (!(x.ok0 && x.ok1)) (3 + p)) 0
  let lost := !(s.pll 0).ok0 && !(s.pll 0).ok1
  let keep := s.rd Reg.FLT_REDUN &&& fldMask 6 4
  s.wr Reg.FLT_REDUN (keep ||| BitVec.ofNat 32 (n + bn lost 10))

/-- APLL_UNLOCK (R512, R513): the active or the standby loop of APLLp loses lock; the output moves to the other loop if
that one is locked. With both loops of APLL0 unlocked, e_hold is forced. -/
def execApllUnlock (p : Fin 3) (active : Bool) (s : State) : Res :=
  let x := s.pll p.val
  let second := x.second == active
  let x : DualPll := if second then { x with ok1 := false } else { x with ok0 := false }
  let other := if second then x.ok0 else x.ok1
  let x : DualPll := if active && other then { x with second := !x.second } else x
  let s := (s.updPll p.val (fun _ => x)).pllRedun
  let s := if p.val = 0 && !x.ok0 && !x.ok1 then s.forceHold else s
  .next ((s.raise 49).raise 22)

/-! ## DPLL0 -/

/-- DPLL0_SAMPLE (R330, R331): DPLL0 takes the phase sample that its reference has formed, or, following a frequency
reference, the sample of this millisecond: the phase of the divided input against DT in units of 25 ps. -/
def execDpll0Sample (phase25 : Int) (s : State) : Res :=
  match s.clk.d.ref, s.clk.d.state with
  | none, _ => .next s
  | _, .freeRun => .next s
  | _, .holdover => .next s
  | some m, _ =>
    if s.clk.d.freqOnly then .next (s.freqSample m (roundDiv (phase25 * 25 * 65536) 1000))
    else match s.clk.d.fresh with
      | some e => .next (s.phaseSample m e)
      | none => .next s

/-- R338: the STEP command of a master. -/
def State.stepCmd (s : State) (by_ : Master) : State :=
  if by_ = .pf0 || by_ = .spi then s.raise 52
  else
    let d := s.clk.d
    let follows := d.ref.isSome && !d.freqOnly && d.state != .holdover && d.state != .freeRun
    if fld (s.ac Reg.CLK_DPLL0_CTRL) 0 2 = 2 && follows &&
        decide (fld (s.ac Reg.CLK_STEP_LIMIT) 0 30 * 65536 < d.e.natAbs) then
      ((s.updD (fun d => { d with stepRefused := false })).dpllStep).dcoUpdate
    else s.updD (fun d => { d with stepRefused := true })

/-- DPLL0_STEP_CMD (R338): a master writes 1 to CLK_DPLL0_CMD.STEP. -/
def execDpll0StepCmd (by_ : Master) (s : State) : Res := .next (s.stepCmd by_)

/-- R339: the sample of an age is copied into CLK_HIST_DATA. -/
def State.histRead (s : State) (age : Nat) : State :=
  let h := s.clk.d.hist.getD age (0, false)
  let n := wrap 56 h.1
  (s.wr Reg.CLK_HIST_DATA_LO (lo32 n)).wr Reg.CLK_HIST_DATA_HI (hi32 n ||| BitVec.ofNat 32 (bn h.2 31))

/-- HIST_READ (R339): CLK_HIST_IDX is written with an age. -/
def execHistRead (age : Fin 65536) (s : State) : Res :=
  .next ((s.wr Reg.CLK_HIST_IDX (BitVec.ofNat 32 age.val)).histRead age.val)

/-- DPLLX_LOCK (R356): DPLL1, DPLL2 or DPLL3 (`x` = 0 for DPLL1) achieves lock to its QUALIFIED reference. -/
def execDpllxLock (x : Fin 3) (s : State) : Res :=
  let c := s.ac (Reg.CLK_DPLL_CFG x.val)
  let src := fld c 1 4
  if bitAt c 0 && src != 0 && (s.mon (src - 1)).state == .qualified && (s.dpllx x.val).state != .locked then
    .next ((List.range 8).foldl State.outclkSync
      ((s.updDpllx x.val (fun p => { p with state := .locked, fallback := false })).raise 51))
  else .next s

/-! ## Pulses -/

/-- The OT second that output slot `i` marks when its armed time is `t`, an OT in 2⁻¹⁶ ns. -/
def slotSec (t : Int) : Int := (t + stSec / 2) / stSec

/-- R351: the settings of PPSOUTk for a pulse with a leading edge at `t`: the ones before a commit while they hold. -/
def State.ppsSet (s : State) (k : Nat) (t : Int) : Word × Word :=
  match (s.clk.pps.find? (fun p => p.1 == k)).map (·.2) with
  | some (u, c, o) => if t < u then (c, o) else (s.ac (Reg.CLK_PPS_CFG k), s.ac (Reg.CLK_PPS_COMP k))
  | none => (s.ac (Reg.CLK_PPS_CFG k), s.ac (Reg.CLK_PPS_COMP k))

/-- PPS_PULSE (R351): CS(032 + k) fires and PPSOUTk places its pulse at the OT second less PPS_COMP, to 25 ps, unless it is
squelched; the slot is armed for the next second. -/
def execPpsPulse (k : Fin 4) (s : State) : Res :=
  let i := 32 + k.val
  if !s.slotReady i || !s.outUsed i then .next s
  else
    let t := s.otOf (s.slot i).time
    let s := s.slotFire i
    let sec := slotSec t
    let (cfg, comp) := s.ppsSet k.val t
    let edge := roundDiv (sec * psSec - sfld comp 0 24) 25 * 25
    let s := if s.squelched (fld cfg 1 2) then s else s.emit (.pps k.val edge (fld cfg 8 19) (!bitAt cfg 3))
    let s : State := if (s.clk.pps.any (fun p => p.1 == k.val && decide (p.2.1 ≤ t))) then
        { s with clk := { s.clk with pps := tdel s.clk.pps k.val } } else s
    .next (s.outArmFrom i (sec + 1))

/-- R351: PPSOUTk after a commit whose set before was `old`: a pulse within 1 ms of the edge keeps its settings. -/
def State.ppsCommit (s : State) (old : Tab Word) (k : Nat) : State :=
  let i := 32 + k
  let c := tget rwsDef old (Reg.CLK_PPS_CFG k)
  let o := tget rwsDef old (Reg.CLK_PPS_COMP k)
  let t := s.otOf (s.slot i).time
  if c = s.ac (Reg.CLK_PPS_CFG k) && o = s.ac (Reg.CLK_PPS_COMP k) then s
  else if (s.slot i).armed && s.outUsed i && decide (t < s.otNow + stMs) then
    let keep := putFld (putFld (s.ac (Reg.CLK_PPS_CFG k)) 8 19 (fld c 8 19)) 3 1 (fld c 3 1)
    { s with clk := { s.clk with pps := tput s.clk.pps k (s.otNow + stMs, keep, o) } }
  else s.outArm i

/-! ## Time-of-day frames -/

/-- Decimal digits of a number, at least `w` of them. -/
def digits (w n : Nat) : List Byte :=
  let d := ascii (toString n)
  List.replicate (w - d.length) 0x30 ++ d

/-- A signed number in decimal. -/
def sdigits (i : Int) : List Byte := if i < 0 then 0x2D :: digits 1 i.natAbs else digits 1 i.natAbs

/-- R353: a sentence with its checksum, ended by CR LF. -/
def nmea (body : List Byte) : List Byte := 0x24 :: body ++ [0x2A] ++ nmeaSum body ++ [0x0D, 0x0A]

/-- R353, R354: the reference type, if there is one. -/
def State.todType (s : State) : Option Nat :=
  if s.clk.d.everLocked || s.clk.d.ref.isSome then some s.clk.d.type else none

/-- R353: the two sentences that label the pulse of TAI second `sec`. -/
def State.nmeaFrame (s : State) (sec : Nat) : List Byte :=
  let v := s.timeView
  let leap := v.inLeapSecond sec
  let u := (v.utcSec sec).toNat
  let (y, m, d) := civil (u / 86400)
  let hms := digits 2 (u / 3600 % 24) ++ digits 2 (u / 60 % 60) ++ digits 2 (if leap then 60 else u % 60)
  let c : List Byte := [0x2C]
  let st := match v.ts with
    | .locked => ascii "L"
    | .hold => ascii "H"
    | .untraceable => ascii "U"
  let (lp, lat) := match v.leap with
    | none => (ascii "0", [])
    | some (a, del) => (ascii (if del then "-" else "+"), digits 1 a)
  let eh := if v.ts = .locked then 0 else v.eHold
  nmea (ascii "GNZDA," ++ hms ++ ascii ".00," ++ digits 2 d ++ c ++ digits 2 m ++ c ++ digits 4 y ++ ascii ",00,00") ++
  nmea (ascii "PEFKT," ++ digits 1 sec ++ c ++ sdigits v.offset ++ c ++ lp ++ c ++ lat ++ c ++ st ++ c ++
    digits 1 (s.todType.getD 0) ++ c ++ digits 1 eh)

/-- R354: the binary frame that labels the pulse of TAI second `sec`. -/
def State.binFrame (s : State) (sec seq : Nat) : List Byte :=
  let v := s.timeView
  let leap := match v.leap with
    | none => 0
    | some (_, del) => if del then 2 else 1
  let st := match v.ts with
    | .untraceable => 0
    | .locked => 1
    | .hold => 2
  let b := [0xEF, 0xC1, 1, 32] ++ beBytes 6 sec ++ beBytes 2 (wrap 16 v.offset) ++
    [BitVec.ofNat 8 (leap + bn v.leapFrozen 2 + bn v.offsetValid 3), BitVec.ofNat 8 (st + 4 * s.todType.getD 15)] ++
    beBytes 6 ((v.leap.map (·.1)).getD 0) ++ beBytes 4 (if v.ts = .locked then 0 else min v.eHold (2 ^ 32 - 1)) ++
    [BitVec.ofNat 8 (s.quality v).cls2, BitVec.ofNat 8 seq] ++ beBytes 4 0
  b ++ beBytes 2 (crc16 b)

/-- TODOUT_FRAME (R352): CS046 fires and, while DT is ALIGNED, TODOUT sends the frame of the OT second. -/
def execTodoutFrame (s : State) : Res :=
  if !s.slotReady 46 || !s.outUsed 46 then .next s
  else
    let c := s.ac Reg.CLK_TOD_CFG
    let t := s.otOf (s.slot 46).time
    let s := s.slotFire 46
    let sec := t / stSec
    let lab := (sec + (if bitAt c 2 then 1 else 0)).toNat
    let s := if !s.aligned then s
      else if bitAt c 1 then
        ({ s with clk := { s.clk with todSeq := (s.clk.todSeq + 1) % 256 } } : State).emit (.tod false (baudOf (fld c 4 3)) (s.binFrame lab s.clk.todSeq))
      else s.emit (.tod false (baudOf (fld c 4 3)) (s.nmeaFrame lab))
    .next (s.outArmFrom 46 (sec + 1))

/-- The driver of CASC_OUT is enabled (R535) and the output is not squelched. -/
def State.cascOn (s : State) : Bool := s.serve.cascDrv && !s.squelched (fld (s.ac Reg.CLK_CASC_CFG) 1 2)

/-- CASC_PULSE (R355): CS047 fires and CASC_OUT sends its 10 µs pulse CASC_COMP before the OT second. -/
def execCascPulse (s : State) : Res :=
  if !s.slotReady 47 || !s.outUsed 47 then .next s
  else
    let t := s.otOf (s.slot 47).time
    let s := s.slotFire 47
    let sec := slotSec t
    let s := if s.cascOn then
        s.emit (.casc (roundDiv (sec * psSec - sfld (s.ac Reg.CLK_CASC_CFG) 8 24) 25 * 25)) else s
    let s : State := { s with clk := { s.clk with cascFrameAt := some sec } }
    .next (s.outArmFrom 47 (sec + 1))

/-- CASC_FRAME (R355): at OT second + 500 ms CASC_OUT sends the binary frame that labels the next pulse. -/
def execCascFrame (s : State) : Res :=
  match s.clk.cascFrameAt with
  | none => .next s
  | some sec =>
    let s := s.advTo (s.tickOfOt ((stSec * sec + stSec / 2) * 1000))
    let s : State := { s with clk := { s.clk with cascFrameAt := none } }
    if !s.outUsed 47 || !s.cascOn then .next s
    else
      let q := s.clk.cascSeq
      .next (({ s with clk := { s.clk with cascSeq := (q + 1) % 256 } } : State).emit (.tod true 1000000 (s.binFrame (sec + 1).toNat q)))

/-! ## Steering -/

/-- GAIN of one DAC LSB in 2⁻⁸⁰ (R360), for `n` of them. -/
def State.gain80 (s : State) (n : Int) : Int := frac80 (n * sfld (s.ac Reg.CLK_STEER_GAIN) 0 32) 1000000000000000

/-- R360: the bytes of a DAC write. -/
def State.dacBytes (s : State) (code : Nat) : List Byte :=
  let c := s.ac Reg.CLK_STEER_CTRL
  (if bitAt c 14 then [BitVec.ofNat 8 (fld c 16 8)] else []) ++ beBytes ((fld c 8 5 + 7) / 8) code

/-- R360: the ticks from START to STOP of a DAC write: nine bit times a byte, and one each for START and STOP. -/
def State.dacTicks (s : State) : Nat :=
  (9 * ((s.dacBytes 0).length + 1) + 2) * (if bitAt (s.ac Reg.CLK_STEER_CTRL) 13 then 12500 else 50000)

/-- R360: the new code of the DAC; what a code beyond its range becomes the manual does not say. -/
def State.dacCode (s : State) (n : Int) : Nat × State :=
  let lim : Nat := 2 ^ fld (s.ac Reg.CLK_STEER_CTRL) 8 5
  if 0 ≤ n && n < (lim : Int) then (n.toNat, s)
  else
    let (v, s) := s.free
    (v.toNat % lim, s)

/-- R360: the change of the code that a steering write asks for: y_int over GAIN, at most LIMIT either way. -/
def State.steerStep (s : State) : Int :=
  let lim : Int := (fld (s.ac Reg.CLK_STEER_CTRL) 24 8 : Nat)
  if s.gain80 1 = 0 then 0 else max (-lim) (min lim ((s.clk.d.y * 1000000000000000).tdiv
    (sfld (s.ac Reg.CLK_STEER_GAIN) 0 32 * 2 ^ 80)))

/-- R360: the DAC takes `code`, and what the write gives the oscillator waits for SETTLE. -/
def State.steerTake (s : State) (code : Nat) : State :=
  let c := s.ac Reg.CLK_STEER_CTRL
  let at_ := s.time.now + s.dacTicks + msTicks * fld (s.ac Reg.CLK_STEER_TIME) 16 12
  ({ s with clk := { s.clk with code := code, comp := s.clk.comp ++ [((code : Int) - s.clk.code, at_)] } } : State).emit
    (.i2c (fld c 1 7) (s.dacBytes code))

/-- R360: the tick of the steering write after the present one. -/
def State.steerNext (s : State) : Nat := s.time.now + sTicks * fld (s.ac Reg.CLK_STEER_TIME) 0 12

/-- R360: the next steering write is set. -/
def State.steerSet (s : State) : State := { s with clk := { s.clk with steerAt := s.steerNext } }

/-- R360: the DAC takes the new code, when it differs. -/
def State.steerMove (s : State) : State :=
  if s.steerStep = 0 then s
  else
    let p := s.dacCode ((s.clk.code : Int) + s.steerStep)
    p.2.steerTake p.1

/-- STEER_WRITE (R360): every PERIOD seconds in LOCKED the DAC takes the new code, when it differs. -/
def execSteerWrite (s : State) : Res :=
  if !bitAt (s.ac Reg.CLK_STEER_CTRL) 0 || bitAt (s.rd Reg.CLK_STAT) 3 || s.clk.d.state != .locked then .next s
  else .next (s.advTo s.clk.steerAt).steerSet.steerMove

/-- STEER_SETTLE (R360): SETTLE ms after the oldest write without its compensation, at one TBCLK edge, y_int gives to y_osc what the DAC gave the
oscillator. -/
def execSteerSettle (s : State) : Res :=
  match s.clk.comp with
  | [] => .next s
  | (n, at_) :: r =>
    let s := s.advTo (max at_ s.nextTb)
    let s : State := { s with clk := { s.clk with comp := r, fails := 0 } }
    .next ((s.updD (fun d => { d with y := d.y - s.gain80 n, yOsc := d.yOsc + s.gain80 n })).dcoUpdate)

/-- STEER_BUS_TIMEOUT (R361): the bus stays busy for 10 ms or the DAC does not acknowledge: the last write has no compensation,
and the third failure in a row stops the steering. -/
def execSteerBusTimeout (s : State) : Res :=
  if !bitAt (s.ac Reg.CLK_STEER_CTRL) 0 || bitAt (s.rd Reg.CLK_STAT) 3 then .next s
  else
    let back : Int := (s.clk.comp.getLast?.map (·.1)).getD 0
    let n := s.clk.fails + 1
    let s : State := { s with clk := { s.clk with comp := s.clk.comp.dropLast, fails := n, code := ((s.clk.code : Int) - back).toNat } }
    let s := (s.bump Reg.CLK_STEER_FAIL).raise 50
    .next (if 3 ≤ n then s.orBits Reg.CLK_STAT (bitMask 3) else s)

/-- TEMP_READ (R361): the temperature sensor is read, in units of 1/256 °C. -/
def execTempRead (value : BitVec 16) (s : State) : Res :=
  if bitAt (s.ac Reg.CLK_TEMP_CFG) 0 then .next (s.wr Reg.CLK_TEMP (BitVec.ofNat 32 (value.toNat + bn true 16)))
  else .next s

/-! ## The millisecond -/

/-- A millisecond in the units of `TimeSt.dt`. -/
def msUnit : Nat := 1000000 * nsUnit

/-- A signed amount moved toward 0. -/
def towardZero (x : Int) (n : Nat) : Int := if x < 0 then min 0 (x + n) else max 0 (x - n)

/-- R334: r falls by S × 1 ms. -/
def State.pullFall (s : State) : State :=
  let d := s.clk.d
  let on := match d.state with
    | .acquire | .pull | .locked => !d.freqOnly && d.r != 0
    | _ => false
  if !on then s
  else
    let n := fld (s.ac Reg.CLK_SLOPE) 0 10 * 65536 + d.rFrac
    s.updD (fun d => { d with r := towardZero d.r (n / 10000), rFrac := n % 10000 })

/-- R349: |s| falls at CLK_SLEW_CFG.RATE. -/
def State.slewFall (s : State) : State :=
  if s.clk.slew = 0 then s
  else
    let n := fld (s.ac Reg.CLK_SLEW_CFG) 0 11 * 65536 + s.clk.slewFrac
    { s with clk := { s.clk with slew := towardZero s.clk.slew (n / 1000), slewFrac := n % 1000 } }

/-- R334: F of the loop states follows the pull term; in holdover F is set once per second (R340). -/
def State.wordFall (s : State) : State :=
  match s.clk.d.state with
  | .freeRun | .holdover => s
  | _ => s.setWord s.loopWord

/-- R356: the edges of DPLLx move toward the OT second at CLK_SLEW_CFG.RATE. -/
def State.alignFall (s : State) (x : Nat) : State :=
  let p := s.dpllx x
  if !s.alignOn x || p.miss = 0 then s
  else
    let n := fld (s.ac Reg.CLK_SLEW_CFG) 0 11 * 65536 + p.missFrac
    s.updDpllx x (fun p => { p with miss := towardZero p.miss (n / 1000), missFrac := n % 1000 })

/-- EHOLD_UPDATE (R347): at the next DT millisecond e_hold is computed, r and s fall (R334, R349), DPLL1–DPLL3 pull into
alignment (R356), F follows the pull term and the mean of the second takes a sample (R339). -/
def execEholdUpdate (s : State) : Res :=
  let s := s.advDt ((s.time.dt / msUnit + 1) * msUnit)
  let s := (((List.range 3).foldl State.alignFall s.pullFall.slewFall).wordFall.updD (fun d => { d with yAcc := d.yAcc + d.y + d.yOsc, yN := d.yN + 1 })).eHoldUpdate
  .next s.timeStateChange

end Sys2Proof.Machine
end

