-- ==== Sys2Proof/Machine/Gnss.lean ====
section
/-!
DEFINITION. The GNSS baseband (R368–R408). What the correlators, the decoders and the least-squares fit yield are operands
of its commands; what the TE-9 makes of it is here.
-/

namespace Sys2Proof.Machine

/-! ## Configuration -/

/-- GNS_CTRL.EN. -/
def State.gnsEn (s : State) : Bool := bitAt (s.ac Reg.GNS_CTRL) 0
/-- MASTER (R385). -/
def State.gnsMaster (s : State) : Nat := fld (s.ac Reg.GNS_CTRL) 5 2
/-- CONST_EN of a constellation. -/
def State.gnsConst (s : State) (c : Nat) : Bool := bitAt (s.ac Reg.GNS_CTRL) (2 + c)
/-- POS_CFG.MODE (R388). -/
def State.gnsMode (s : State) : Nat := fld (s.ac Reg.GNS_POS_CFG) 0 2

/-- The GNSS state changed by a function. -/
def State.updGns (s : State) (f : GnsSt → GnsSt) : State := { s with gns := f s.gns }

/-- R372: the PRN range of a constellation. -/
def prnMax (c : Nat) : Nat := if c = 0 then 32 else if c = 1 then 36 else 63

/-- The PRN is set in GNS_EXCL. -/
def State.prnExcl (s : State) (c prn : Nat) : Bool :=
  let i := prn - 1
  if c = 0 then bitAt (s.ac Reg.GNS_EXCL_GPS) i
  else if c = 1 then (if i < 32 then bitAt (s.ac Reg.GNS_EXCL_GAL_LO) i else bitAt (s.ac Reg.GNS_EXCL_GAL_HI) (i - 32))
  else if i < 32 then bitAt (s.ac Reg.GNS_EXCL_BDS_LO) i else bitAt (s.ac Reg.GNS_EXCL_BDS_HI) (i - 32)

/-- R391: τ_IF in ps, rounded to the nearest ps. -/
def State.tauIf (s : State) : Int :=
  let a := sfld (s.ac Reg.GNS_ANT_DELAY) 0 32
  roundDiv (a * 10491 - 13225 * sfld (s.ac Reg.GNS_IFB_DELAY) 0 32) 10491

/-- R395: the UTC parameters of constellation `c`, while they are currently decoded. -/
def State.utcNow (s : State) (c : Nat) : Option UtcPar :=
  match tget (fun _ => none) s.gns.utc c with
  | some u => if s.sec ≤ u.at_ + 172800 then some u else none
  | none => none

/-! ## Trackers -/

/-- Tracker A or B of channel `c` enters a state. -/
def State.trk (s : State) (c : Nat) (b : Bool) (x : TrkState) : State :=
  s.updChan c (fun h =>
    if b then { h with b := x, bSince := s.time.now, bAgain := x == .reacq || h.bAgain }
    else { h with a := x, aSince := s.time.now, aAgain := x == .reacq || h.aAgain })

/-- A tracker's state. -/
def GnsChan.trkOf (h : GnsChan) (b : Bool) : TrkState := if b then h.b else h.a

/-- The burst ends (R400). -/
def State.burstEnd (s : State) : State :=
  if s.gns.burst then (s.updGns (fun g => { g with burst := false })).raise 70 else s

/-- GS_CLK_FAIL (R370): the sample clock fails: every tracker goes to REACQ. -/
def execGsClkFail (s : State) : Res :=
  if !s.gnsEn then .next s
  else
    let s := s.updGns (fun g => { g with sampleOk := false, lostAt := s.time.now })
    let re (x : TrkState) : TrkState := if x = .idle then .idle else .reacq
    let s := (List.range 64).foldl (fun s c => s.updChan c (fun h => { h with
      a := re h.a, b := re h.b, aAgain := h.aAgain || h.a != .idle, bAgain := h.bAgain || h.b != .idle
      aSince := if h.a = .idle then h.aSince else s.time.now, bSince := if h.b = .idle then h.bSince else s.time.now })) s
    .next (((s.bump Reg.GNS_SAMPLE_LOSS).raise 66).burstEnd)

/-- SAMPLE_OK_RESTORE (R370): after 100 consecutive passing milliseconds SAMPLE_OK is set again. -/
def execSampleOkRestore (s : State) : Res :=
  if !s.gnsEn || s.gns.sampleOk then .next s
  else
    let s := s.advTo (s.gns.lostAt + 100 * msTicks)
    .next (s.updGns (fun g => { g with sampleOk := true }))

/-- R374: a Doppler in mHz lies in the range of a search: ±(5 kHz + UNC × 1,575.42 MHz) about the oscillator offset that F implies. -/
def State.inSearch (s : State) (dopp : Int) : Bool :=
  let centre := roundDiv (s.time.freq * 1575420000000) (2 ^ 48)
  decide (((dopp - centre).natAbs) * 100 ≤ 500000000 + fld (s.ac Reg.GNS_ACQ_CFG) 0 16 * 157542)

/-- ACQ_DETECT (R374): the acquisition engine verifies a detection of a satellite (constellation and PRN) of at least
35 dB-Hz within its Doppler range and hands it to channel `c`. -/
def execAcqDetect (c : Fin 64) (const : Fin 3) (prn : Fin 64) (cn0 : Nat) (dopp : Int) (s : State) : Res :=
  let h := s.chan c.val
  let mine := h.sv = none || h.sv = some (const.val, prn.val)
  let other := (List.range 64).any (fun k => k != c.val && (s.chan k).sv == some (const.val, prn.val))
  if !s.gnsEn || !s.gns.sampleOk || !s.gnsConst const.val || prn.val = 0 || prnMax const.val < prn.val ||
      s.prnExcl const.val prn.val || cn0 < 560 || !s.inSearch dopp || !mine || other then .next s
  else
    .next (((s.updChan c.val (fun h => if h.sv = none then { ({} : GnsChan) with sv := some (const.val, prn.val) } else h)).updChan
      c.val (fun h => { h with cn0A := cn0, doppA := dopp })).trk c.val false .pullIn)

/-- TRACKER_B_START (R375): tracker B starts at the code phase and Doppler of tracker A. -/
def State.trkBStart (s : State) (c : Nat) : State :=
  (s.trk c true .pullIn).updChan c (fun h => { h with
    doppB := roundDiv (h.doppA * 115) 154, bRetry := s.time.now + 10 * sTicks })

/-- TRACKER_LOCK (R377): tracker A or B of channel `c` achieves bit or secondary-code synchronisation and enters LOCKED;
`bandB` says that the satellite has a band-B signal, whose tracker then starts. -/
def execTrackerLock (c : Fin 64) (b bandB : Bool) (s : State) : Res :=
  match (s.chan c.val).trkOf b with
  | .idle | .acq | .locked | .nav => .next s
  | _ =>
    if !s.gns.sampleOk then .next s
    else
      let s := s.trk c.val b .locked
      .next (if !b && bandB && ((s.chan c.val).b == .idle || (s.chan c.val).b == .acq) then s.trkBStart c.val else s)

/-- TRACKER_B_RETRY (R375): tracker B, which has not reached TRACK, tries again while tracker A stays LOCKED. -/
def execTrackerBRetry (c : Fin 64) (s : State) : Res :=
  let h := s.chan c.val
  if (h.a = .locked || h.a = .nav) && (h.b = .pullIn || h.b = .idle || h.b = .reacq) then
    .next ((s.advTo h.bRetry).trkBStart c.val)
  else .next s

/-- TRACKER_DROP (R377): tracker A or B of channel `c` has stayed below CN0_DROP, or without phase lock, for 1 s. -/
def execTrackerDrop (c : Fin 64) (b : Bool) (s : State) : Res :=
  match (s.chan c.val).trkOf b with
  | .track | .locked | .nav => .next (s.trk c.val b .reacq)
  | .pullIn => .next (s.trk c.val b .reacq)
  | _ => .next s

/-- SIDE_PEAK_MOVE (R379): |VE| or |VL| has exceeded |P| over 100 ms on tracker A of a Galileo or BeiDou satellite: the code
phase moves by D_V toward the larger; a second move within 1 s returns the tracker to PULL_IN. -/
def execSidePeakMove (p : SidePeak) (s : State) : Res :=
  let c := p.chan
  let h := s.chan c.val
  match h.sv with
  | some (k + 1, _) =>
    let d : Int := fld (s.ac (Reg.GNS_CORR (2 * (k + 1)))) 16 7
    if k < 2 && h.a != .idle && h.a != .acq && h.a != .reacq then
      let again := match h.bumpAt with
        | some t => decide (s.time.now < t + sTicks)
        | none => false
      let s := (s.bump Reg.GNS_BUMP).updChan c.val (fun h => { h with
        bumps := min 65535 (h.bumps + 1), bumpAt := some s.time.now, codeA := if p.late then h.codeA + d else h.codeA - d })
      .next (if again then s.trk c.val false .pullIn else s)
    else .next s
  | _ => .next s

/-- REACQ_TIMEOUT (R401): after REACQ_TIME a tracker in REACQ gives its satellite to the acquisition engine; a band-B signal,
which is never searched (R375), waits for its tracker A. -/
def execReacqTimeout (c : Fin 64) (b : Bool) (s : State) : Res :=
  let h := s.chan c.val
  if h.trkOf b ≠ .reacq then .next s
  else
    let since := if b then h.bSince else h.aSince
    let s := s.advTo (since + sTicks * fld (s.ac Reg.GNS_ACQ_CFG) 16 8)
    .next (if b then (s.trk c.val true .idle).updChan c.val (fun h => { h with bRetry := s.time.now + 10 * sTicks })
      else s.trk c.val false .acq)

/-! ## Navigation data -/

/-- EPHEMERIS_ACCEPT (R381): a part of a set; the set is accepted once all its parts agree on their issue. -/
def State.ephPart (s : State) (c part total issue toe : Nat) : State :=
  let h := s.chan c
  let parts := (part, issue) :: h.parts.filter (fun p => p.1 != part)
  if (List.range total).all (fun k => parts.any (fun p => p.1 == k && p.2 == issue)) then
    s.updChan c (fun h => match h.eph with
      | none => { h with eph := some ⟨issue, toe⟩, parts := [] }
      | some e => if e.issue = issue then { h with parts := [] } else { h with ephNext := some ⟨issue, toe⟩, parts := [] })
  else s.updChan c (fun h => { h with parts := parts })

/-- GNSS_LEAP_PROPOSE (R21, R395): the GNSS source sets or cancels the pending leap by the announcement of constellation
`c`. -/
def State.gnssLeap (s : State) (c : Nat) (u : UtcPar) : State :=
  let others := ((List.range 3).filter (· != c)).filterMap s.utcNow
  let agree := others.all (fun o => decide (o.leap = u.leap))
  let was := s.gns.leapDisagree
  let s := s.updGns (fun g => { g with leapDisagree := !agree })
  let s := if !agree && !was then s.raise 73 else s
  let twice := decide (u.leapSince + 12 ≤ u.at_)
  if !agree || !twice || !bitAt (s.ac Reg.TSC_LEAP_POLICY) 0 || !s.leapMay .gnss then s
  else match u.leap with
    | some (a, del) => if s.leapValid a del then s.leapPut (some ⟨a, del, .gnss⟩) else s
    | none => s.leapPut none

/-- R396: OFFSET is compared with the leap count that the constellations broadcast. -/
def State.offsetCheck (s : State) (u : UtcPar) : State :=
  let all := (List.range 3).filterMap s.utcNow
  let bad := decide (u.countSince + 12 ≤ u.at_) && all.all (fun o => decide (o.count = u.count)) &&
    decide (u.count ≠ s.vbat.offset)
  let was := s.gns.offsetMismatch
  let same := all.all (fun o => decide (o.count = s.vbat.offset))
  let s := s.updGns (fun g => { g with offsetMismatch := bad || (was && !same) })
  if bad && !was then s.raise 74 else s

/-- R395, R396: UTC parameters of constellation `c` are decoded. -/
def State.utcDecode (s : State) (c : Nat) (count : Int) (leap : Option (Nat × Bool)) : State :=
  let old := tget (fun _ => none) s.gns.utc c
  let u : UtcPar := match old with
    | none => ⟨s.sec, count, s.sec, leap, s.sec⟩
    | some o => ⟨s.sec, count, if o.count = count then o.countSince else s.sec, leap, if o.leap = leap then o.leapSince else s.sec⟩
  let isNew := leap.isSome && (match old with
    | some o => decide (o.leap ≠ leap)
    | none => true)
  let s := s.updGns (fun g => { g with utc := tset (fun _ => none) g.utc c (some u) })
  let s := if isNew then s.raise 72 else s
  (s.gnssLeap c u).offsetCheck u

/-- NAV_UNIT (R380): a navigation unit of tracker A or B of channel `c` is decoded; a unit that fails its check is counted
and discarded whole. In burst mode nothing is demodulated (R398). -/
def execNavUnit (c : Fin 64) (b good : Bool) (u : NavUnit) (s : State) : Res :=
  let h := s.chan c.val
  let t := h.trkOf b
  if !(t = .locked || t = .nav) || s.gns.burst || s.taskStopped 0 then .next s
  else if !good then .next (s.bump Reg.GNS_NAV_BAD)
  else match h.sv, u with
    | none, _ => .next s
    | some _, .tow => .next (if t = .locked then s.trk c.val b .nav else s)
    | some _, .ephemeris part total issue toe => .next (s.ephPart c.val part total issue toe)
    | some (k, _), .utc count leap => .next (s.utcDecode k count leap)
    | some _, .almanac => .next s

/-! ## The epoch -/

/-- The ephemeris age of a channel in seconds (R381). -/
def State.ephAge (s : State) (h : GnsChan) : Nat := match h.eph with
  | some e => s.sec - e.toe
  | none => 65535

/-- EPH_MAX_AGE. -/
def State.ephMax (s : State) : Nat := fld (s.ac Reg.GNS_EPH_CFG) 0 14

/-- R382: tracker A or B of a channel is usable at this epoch; in LOCKED a reacquired signal only after 2 s (R401). -/
def State.usable (s : State) (h : GnsChan) (b : Bool) : Bool :=
  let since := if b then h.bSince else h.aSince
  let miss := if b then h.missB else h.missA
  let cn0 := if b then h.cn0B else h.cn0A
  (match h.trkOf b with
    | .nav => true
    | .locked => s.aligned && (s.gns.burst || !(if b then h.bAgain else h.aAgain) || decide (since + 2 * sTicks ≤ s.time.now))
    | _ => false) && !(s.gns.burst && miss != 0) && s.gns.sampleOk &&
  h.eph.isSome && decide (s.ephAge h < s.ephMax) && decide ((fld (s.ac Reg.GNS_CTRL) 16 8 : Int) ≤ h.elev) &&
  (match h.sv with
    | some (c, p) => s.gnsConst c && !s.prnExcl c p
    | none => false) && !h.mpOut && h.exclUntil.isNone && decide (fld (s.ac Reg.GNS_SOL_CFG) 0 8 * 16 ≤ cn0)

/-- R382: a satellite in the solution: with both signals, or with one under SINGLE_OK. -/
def State.inSol (s : State) (h : GnsChan) : Bool :=
  (s.usable h false && s.usable h true) ||
    (bitAt (s.ac Reg.GNS_CTRL) 9 && (s.usable h false || s.usable h true))

/-- R379, R381, R387: what an epoch brings to a channel before the solution: its measurements, the new ephemeris set, the
multipath exclusion, and its release. -/
def State.chanEpoch (s : State) (ms : List GnssMeas) (c : Nat) : State :=
  let lim := fld (s.ac Reg.GNS_SOL_CFG) 8 8
  s.updChan c (fun h =>
    match h.sv with
    | none => h
    | some (k, _) =>
      let h := match ms.find? (fun m => m.ch.val == c) with
        | some m => { h with
            cn0A := m.cn0A, cn0B := m.cn0B, doppA := m.doppA, doppB := m.doppB, mpA := m.mpA, mpB := m.mpB
            elev := m.elev, azim := m.azim, resid := m.resid }
        | none => h
      if !s.gnsConst k || (h.eph.isSome && h.elev < (fld (s.ac Reg.GNS_CTRL) 16 8 : Int)) then {}
      else
        let high := decide (lim < h.mpA) || decide (lim < h.mpB)
        let low := decide (2 * h.mpA < lim) && decide (2 * h.mpB < lim)
        let good := if low then h.mpGood + 1 else 0
        { h with
          eph := h.ephNext.or h.eph, ephNext := none
          mpOut := high || (h.mpOut && decide (good < 10)), mpGood := if high then 0 else good })

/-- R390: the position is held. -/
def State.posHeld (s : State) : Bool := s.gnsMode = 2 || (s.gns.survey.isNone && s.gns.held.isSome && s.gnsMode = 1)

/-- The held position. -/
def State.heldPos (s : State) : Int × Int × Int :=
  if s.gnsMode = 2 then (sfld (s.ac Reg.GNS_POS_X) 0 32, sfld (s.ac Reg.GNS_POS_Y) 0 32, sfld (s.ac Reg.GNS_POS_Z) 0 32)
  else s.gns.held.getD (0, 0, 0)

/-- The satellites of a constellation in the solution. -/
def State.solCount (s : State) (k : Nat) : Nat :=
  ((List.range 64).filter (fun c => ((s.chan c).sv.map (·.1)) == some k && s.inSol (s.chan c))).length

/-- R383: the unknowns of the fit. -/
def State.unknowns (s : State) : Nat :=
  (if s.posHeld then 0 else 3) + 1 +
    ((List.range 3).filter (fun k => k != s.gnsMaster && decide (0 < s.solCount k))).length

/-- All satellites in the solution. -/
def State.solSats (s : State) : Nat := s.solCount 0 + s.solCount 1 + s.solCount 2

/-- SAT_EXCLUDE (R384): the fit is repeated without the satellite of the largest residual, at most twice. -/
def State.fitEpoch : Nat → List GnssFit → State → Option GnssFit × State
  | _, [], s => (none, s)
  | 0, f :: _, s => (some f, s)
  | k + 1, f :: fs, s =>
    if decide (fld (s.ac Reg.GNS_SOL_CFG) 16 8 < f.rms) && decide (s.unknowns + 2 ≤ s.solSats) && s.inSol (s.chan f.worst.val) then
      let s := ((s.updChan f.worst.val (fun h => { h with exclUntil := some (s.sec + 60) })).bump Reg.GNS_FDE_EXCL).raise 75
      State.fitEpoch k fs s
    else (some f, s)

/-- R389: a survey begins. -/
def State.surveyStart (s : State) : State :=
  (s.updGns (fun g => { g with survey := some ⟨s.sec, 0, 0, 0, 0, 0⟩, surveyDone := false, surveyTimeout := false })).burstEnd

/-- The variance of the mean of a survey's positions in cm², as numerator and denominator. -/
def Survey.varMean (v : Survey) : Nat × Nat :=
  (((v.n : Int) * v.sq - (v.sx * v.sx + v.sy * v.sy + v.sz * v.sz)).toNat, v.n * v.n * (v.n - 1))

/-- SURVEY_END (R389): the mean becomes the held position. -/
def State.surveyEnd (s : State) (v : Survey) (timeout : Bool) : State :=
  let n := max 1 v.n
  (s.updGns (fun g => { g with
    survey := none, held := some (roundDiv v.sx n, roundDiv v.sy n, roundDiv v.sz n)
    surveyDone := true, surveyTimeout := timeout, inconsist := false, free := [] })).raise 67

/-- R389: an epoch of a survey, with a position if it has a fix. -/
def State.surveyEpoch (s : State) (p : Option (Int × Int × Int)) : State :=
  match s.gns.survey with
  | none => s
  | some v =>
    let v := match p with
      | some (x, y, z) => { v with
          n := v.n + 1, sx := v.sx + x, sy := v.sy + y, sz := v.sz + z, sq := v.sq + (x * x + y * y + z * z) }
      | none => v
    let s := s.updGns (fun g => { g with survey := some v })
    let t := s.ac Reg.GNS_SURVEY_TIME
    let acc := fld (s.ac Reg.GNS_POS_CFG) 16 16
    let (a, b) := v.varMean
    let el := s.sec - v.start
    if fld t 16 12 * 60 ≤ el then s.surveyEnd v true
    else if fld t 0 12 * 60 ≤ el && 2 ≤ v.n && 100 * a ≤ acc * acc * b then s.surveyEnd v false
    else s

/-- POS_INCONSIST (R390): the free positions of the last 600 epochs against the held one. -/
def State.posCheck (s : State) (f : Int × Int × Int) : State :=
  if !s.posHeld || s.solSats < s.unknowns + 4 then s
  else
    let l := (f :: s.gns.free).take 600
    let s := s.updGns (fun g => { g with free := l })
    if l.length < 600 then s
    else
      let h := s.heldPos
      let d (x y : Int) : Int := x - 600 * y
      let dx := d (l.map (·.1)).sum h.1
      let dy := d (l.map (·.2.1)).sum h.2.1
      let dz := d (l.map (·.2.2)).sum h.2.2
      let tol := fld (s.ac Reg.GNS_POS_TOL) 0 16
      if (tol * 60 : Int) * (tol * 60) < dx * dx + dy * dy + dz * dz && !s.gns.inconsist then
        let s := (s.updGns (fun g => { g with inconsist := true })).raise 68
        if bitAt (s.ac Reg.GNS_POS_CFG) 2 then s.surveyStart else s
      else s

/-- The MASTER's UTC parameters are currently decoded. -/
def State.masterUtc (s : State) : Bool := (s.utcNow s.gnsMaster).isSome

/-- The channels in the solution. -/
def State.solChans (s : State) : List GnsChan := ((List.range 64).map s.chan).filter s.inSol

/-- BURST_ENTER (R397), BURST_REFRESH (R399), R400: the burst mode after an epoch. -/
def State.burstEpoch (s : State) (fix : Bool) : State :=
  let old := decide (∃ h ∈ s.solChans, s.ephMax - 600 ≤ s.ephAge h)
  let bare := (List.range 64).any (fun c => let h := s.chan c
    h.sv.isSome && h.eph.isNone && decide ((fld (s.ac Reg.GNS_CTRL) 16 8 : Int) ≤ h.elev))
  let stale := match s.utcNow s.gnsMaster with
    | some u => decide (u.at_ + fld (s.ac Reg.GNS_EPH_CFG) 16 14 ≤ s.sec)
    | none => true
  if s.gns.burst then
    if !fix then s.burstEnd
    else
      if old || bare || stale then
        ((s.updGns (fun g => { g with burst := false, refresh := some s.sec, refreshOk := none })).bump Reg.GNS_REFRESH).raise 70
      else s
  else
    let s := if s.gns.refresh.isSome && s.gns.refreshOk.isNone && !old && !bare && !stale then
        s.updGns (fun g => { g with refreshOk := some s.sec }) else s
    if bitAt (s.ac Reg.GNS_CTRL) 8 && s.posHeld && 600 ≤ s.gns.good && !old && s.masterUtc && s.gns.refresh.isNone then
      (s.updGns (fun g => { g with burst := true })).raise 69
    else s

/-- R402: an epoch without a fix. -/
def State.noFix (s : State) : State :=
  let s := s.bump Reg.GNS_EPOCHS_NOFIX
  if s.gns.hadFix then ((s.updGns (fun g => { g with hadFix := false })).bump Reg.GNS_FIX_LOST).raise 65 else s

/-- R387: a change of configuration moves b by `d` ps: the measurements of monitor 8 move with it. -/
def State.gnssMove (s : State) (d : Int) : State :=
  if d = 0 then s
  else
    let o := roundDiv (d * 65536) 1000
    let s := s.updMon 8 (fun x => { x with
      last := x.last.map (· + d), bad := x.bad.map (· + d), o := x.o + o
      hist := x.hist.map (fun h => { h with tb := h.tb + d, o := h.o + o }) })
    if s.clk.d.ref = some 8 then s.updD (fun x => { x with r := x.r + o, e := x.e + o, fresh := x.fresh.map (· + o) }) else s

/-- GNSS_EPOCH (R382–R390): at the next DT second the measurements `ms` are latched and the solution is formed. `fits` are
the results of the fit and of its repetitions without the satellites that R384 excludes; `moved` is by how much, in ps,
a change of configuration since the last epoch moves b beside the delay of R391, which is removed from b (R387). -/
def execGnssEpoch (ms : List GnssMeas) (fits : List GnssFit) (moved : Int) (s : State) : Res :=
  if !s.gnsEn || s.taskStopped 0 then .next s
  else
    let here := s.time.dt % secUnit < s.time.inc && s.gns.last.map (·.sec) ≠ some s.sec
    let s := if here then s else s.advDt (secUnit * (s.time.dt / secUnit + 1))
    let s := (s.gnssMove (moved - (if s.gns.last.isSome then s.tauIf - s.gns.tau else 0))).updGns (fun g => { g with tau := s.tauIf })
    let s := if s.gnsMode = 1 && s.gns.survey.isNone && s.gns.held.isNone then s.surveyStart else s
    let s := (List.range 64).foldl (fun s c => s.chanEpoch ms c) s
    let wasBurst := s.gns.burst
    let (fit, s) := if s.gns.sampleOk && 0 < s.solSats then State.fitEpoch 2 fits s else (none, s)
    let s := (List.range 64).foldl (fun s c => s.updChan c (fun h => { h with inSol := s.inSol h })) s
    let cfg := s.ac Reg.GNS_SOL_CFG
    let utcOk := !bitAt (s.ac Reg.GNS_CTRL) 7 || (tget (fun _ => none) s.gns.utc s.gnsMaster).isSome
    let good : Option GnssFit := match fit with
      | some f => if s.unknowns + 1 ≤ s.solSats && f.rms ≤ fld cfg 16 8 && f.tunc ≤ fld cfg 24 8 * 1000 && utcOk then some f
        else none
      | none => none
    match good with
    | none =>
      let e : Epoch := ⟨s.sec, 0, 0, 0, 0, 0, 0, 0, [0, 0, 0], false, wasBurst, s.gnsMaster, bitAt (s.ac Reg.GNS_CTRL) 7⟩
      let s := s.updGns (fun g => { g with last := some e, good := 0 })
      .next ((s.noFix.surveyEpoch none).burstEpoch false)
    | some f =>
      let code := if s.gns.survey.isSome then 3 else if s.posHeld then 1 else 2
      let single := s.solChans.any (fun h => !(s.usable h false && s.usable h true))
      let n := roundDiv ((s.sec : Int) * psSec - f.bias) 1000000000000 + 1
      let e : Epoch := ⟨s.sec, n, code, f.bias, f.rate, f.tunc, f.tdop, if s.posHeld then 0 else f.pdop,
        [s.solCount 0, s.solCount 1, s.solCount 2], single, wasBurst, s.gnsMaster,
        bitAt (s.ac Reg.GNS_CTRL) 7⟩
      let s := s.updGns (fun g => { g with last := some e, good := g.good + 1, hadFix := true })
      .next (((s.surveyEpoch (some f.pos)).posCheck f.free).burstEpoch true)

/-- EXCLUSION_EXPIRE (R384): the residual exclusion of channel `c` ends after 60 s. -/
def execExclusionExpire (c : Fin 64) (s : State) : Res :=
  match (s.chan c.val).exclUntil with
  | none => .next s
  | some u => .next ((s.advDt (secUnit * u)).updChan c.val (fun h => { h with exclUntil := none }))

/-- REFRESH_END (R399): a refresh ends 30 s after the missing data has been decoded, or after REFRESH_MAX. -/
def execRefreshEnd (s : State) : Res :=
  match s.gns.refresh with
  | none => .next s
  | some t =>
    let cap := t + fld (s.ac Reg.GNS_BURST_CFG) 16 10
    let at_ := match s.gns.refreshOk with
      | some k => min cap (k + 30)
      | none => cap
    .next ((s.advDt (secUnit * at_)).updGns (fun g => { g with refresh := none, refreshOk := none }))

/-- BURST_WINDOW (R398): a tracking window opens; `got` are the signals that reach TRACK by the epoch. A signal that misses
three windows in a row goes to REACQ. -/
def execBurstWindow (got : List (Fin 64 × Bool)) (s : State) : Res :=
  if !s.gns.burst then .next s
  else
    let ms := fld (s.ac Reg.GNS_BURST_CFG) 0 8
    let open_ := secUnit * (s.time.dt / secUnit + 1) + 20 * msUnit - ms * msUnit
    let s := s.advDt open_
    let miss (c : Nat) (b : Bool) (n : Nat) : Nat := if got.any (fun p => p.1.val == c && p.2 == b) then 0 else n + 1
    let on (x : TrkState) : Bool := x == .track || x == .locked || x == .nav
    .next ((List.range 64).foldl (fun s c =>
      let s := s.updChan c (fun h => if h.sv.isNone then h else { h with
        missA := if on h.a then miss c false h.missA else 0, missB := if on h.b then miss c true h.missB else 0 })
      let s := if 3 ≤ (s.chan c).missA then (s.trk c false .reacq).updChan c (fun h => { h with missA := 0 }) else s
      if 3 ≤ (s.chan c).missB then (s.trk c true .reacq).updChan c (fun h => { h with missB := 0 }) else s) s)

/-! ## The raw pulse and the time message -/

/-- R392: the predicted DT instant of second N, in ps. -/
def Epoch.tN (e : Epoch) : Int := e.n * psSec + e.bias + e.rate

/-- R392: the TBCLK edge nearest to a DT instant in ps, as edges from the last one, the earlier when two are equally near,
and q in ps. -/
def State.nearEdge (s : State) (t : Int) : Nat × Int :=
  let u : Int := nsUnit * t / 1000
  let k := ((u - s.time.dt) / s.time.inc).toNat
  let lo : Int := s.time.dt + (k * s.time.inc : Nat)
  let k := if 2 * (u - lo) ≤ s.time.inc then k else k + 1
  let edge : Int := s.time.dt + (k * s.time.inc : Nat)
  (k, roundDiv ((u - edge) * 1000) nsUnit)

/-- RAW_PPS (R392): the raw GNSS PPS is produced at the TBCLK edge nearest to the predicted second N: monitor 8 takes its
sample (R394), PPSOUT with SRC = 1 sends it (R351), and the time-interval unit sees it. -/
def execRawPps (s : State) : Res :=
  match s.gns.last with
  | none => .next s
  | some e =>
    if e.fix = 0 || s.gns.rawDone = some e.sec then .next s
    else
      let (k, q) := s.nearEdge e.tN
      let s := s.advTo ((s.time.now / tbTicks + k) * tbTicks)
      let s := s.updGns (fun g => { g with rawDone := some e.sec })
      let edge := e.tN - q
      let s := s.emit (.rawPps edge)
      let s := (List.range 4).foldl (fun s k =>
        let c := s.ac (Reg.CLK_PPS_CFG k)
        if bitAt c 0 && bitAt c 4 && !s.squelched (fld c 1 2) then s.emit (.pps k edge (fld c 8 19) (!bitAt c 3)) else s) s
      let s := s.timSource 17 (edge * psG)
      .next (if s.refEn 8 && (s.mon 8).active then
        s.pulse 8 (s.nowPs + q) (roundDiv (e.tN * 65536) 1000) (some e.n.toNat) else s)

/-- R405: the words of a time message, from GNS_TMSG_HDR to GNS_TMSG_USED. -/
def State.tmsg (s : State) (e : Epoch) (q : Int) : TMsg :=
  let used := e.used.sum
  let hdr := s.gns.seq + e.fix * 2 ^ 16 + bn e.burst 18 + bn e.single 19 + bn (s.utcNow e.master).isSome 20 + e.master * 2 ^ 21 +
    bn e.tscale 23 + min 255 used * 2 ^ 24
  let sec := e.n.toNat
  [BitVec.ofNat 32 hdr, lo32 sec, BitVec.ofNat 32 (sec / 2 ^ 32 % 65536), BitVec.ofNat 32 (wrap 16 q),
    BitVec.ofNat 32 (wrap 32 (satSigned 32 e.bias)), BitVec.ofNat 32 (min (2 ^ 24 - 1) e.tunc),
    BitVec.ofNat 32 (min 65535 e.tdop + min 65535 e.pdop * 65536),
    BitVec.ofNat 32 ((e.used.getD 0 0) % 256 + (e.used.getD 1 0) % 256 * 256 + (e.used.getD 2 0) % 256 * 65536)]

/-- R444: no time message comes at the next publication edge, and monitor 8 loses activity. -/
def State.tmsgMissing (s : State) : State :=
  if s.gnsEn && s.refEn 8 && s.time.st != .unset then
    let at_ := secUnit * (s.time.dt / secUnit) + 400 * msUnit
    (s.advDt (if at_ < s.time.dt then at_ + secUnit else at_)).monLost 8
  else s

/-- TMSG_PUBLISH (R393, R402): the time message is published at DT second N − 1 + 400 ms, and monitor 8 receives it: its
activity, and its label under R305. While the core that has the navigation restarts, none is (R444). -/
def execTmsgPublish (s : State) : Res :=
  if s.taskStopped 0 then .next s.tmsgMissing
  else match s.gns.last with
  | none => .next s
  | some e =>
    if s.gns.published = some e.sec then .next s
    else
      let s := s.advDt (secUnit * e.sec + 400 * msUnit)
      let q := if e.fix = 0 then 0 else (s.nearEdge e.tN).2
      let s := s.updGns (fun g => { g with seq := (g.seq + 1) % 65536, published := some e.sec })
      let s := (s.updGns (fun g => { g with hdr := s.tmsg e q })).raise 78
      let had := s.gns.msgFix
      let s := s.updGns (fun g => { g with msgFix := e.fix != 0 })
      let s := if e.fix != 0 && !had then s.raise 64 else s
      if !s.refEn 8 then .next s
      else if e.fix = 0 then .next (s.monLost 8)
      else
        let s := s.monBack 8
        let tb := s.nowPs + (e.tN - roundDiv ((s.nowSt : Int) * 1000) 65536)
        .next (s.labelCheck 8 e.n.toNat tb)

/-- R405: the time message is copied into the capture set of a master. -/
def State.tmsgCapture (s : State) (m : Master) : State :=
  s.updGns (fun g => { g with capt := tset (fun _ => []) g.capt m.bank g.hdr })

/-- TMSG_CAPTURE (R405): a master reads GNS_TMSG_HDR. -/
def execTmsgCapture (m : Master) (s : State) : Res :=
  let s := s.tmsgCapture m
  .next { s with bus := { data := [s.gns.hdr.getD 0 0], unsupported := false } }

/-- R404: a GNS_CMD of a master. -/
def State.gnssCmd (s : State) (m : Master) (f : State → State) : State :=
  if m = .pf0 || m = .spi then s.raise 77 else f s

/-- R404: ephemeris, almanac and UTC parameters are discarded and acquisition restarts. -/
def State.gnssCold (s : State) : State := (s.updGns (fun g => { g with chans := [], utc := [] })).burstEnd

/-- GNSS_RESURVEY (R389): a master writes GNS_CMD.RESURVEY. -/
def execGnssResurvey (m : Master) (s : State) : Res := .next (s.gnssCmd m State.surveyStart)

/-- GNSS_COLD (R404): a master writes GNS_CMD.COLD. -/
def execGnssCold (m : Master) (s : State) : Res := .next (s.gnssCmd m State.gnssCold)

/-- R408: the record of a channel. -/
def State.chanRecord (s : State) (c : Nat) : List Byte :=
  let h := s.chan c
  let (sv, below) := match h.sv with
    | some (k, p) => (p % 64 + k * 64, decide (h.elev < (fld (s.ac Reg.GNS_CTRL) 16 8 : Int)) || s.prnExcl k p)
    | none => (192, false)
  let single := h.inSol && !(s.usable h false && s.usable h true)
  let fl := bn h.inSol 0 + bn h.exclUntil.isSome 1 + bn below 2 + bn h.mpOut 3 + bn single 4 +
    bn (h.eph.isSome && decide (s.ephAge h < s.ephMax)) 5
  leBytes 1 sv ++ leBytes 1 h.a.code ++ leBytes 1 h.b.code ++ leBytes 1 fl ++ leBytes 2 h.cn0A ++ leBytes 2 h.cn0B ++
    leBytes 4 (wrap 32 h.doppA) ++ leBytes 4 (wrap 32 h.doppB) ++ leBytes 2 (min 65535 h.mpA) ++ leBytes 2 (min 65535 h.mpB) ++
    leBytes 2 (wrap 16 (satSigned 16 h.resid)) ++ leBytes 1 (wrap 8 h.elev) ++ [0] ++ leBytes 2 h.azim ++
    leBytes 2 (min 65535 (s.ephAge h)) ++ leBytes 2 h.bumps ++ [0, 0]

/-- R408: the channel that GNS_CH_IDX names is copied into the window. -/
def State.chRead (s : State) : State :=
  s.updGns (fun g => { g with chWin := wordsOf (s.chanRecord (fld (s.rd Reg.GNS_CH_IDX) 0 6)) })

/-- CH_READ (R408): GNS_CH_CMD.READ is written. -/
def execChRead (s : State) : Res := .next s.chRead

/-- R311, R387, R400: the baseband after a commit whose set before was `old`. -/
def State.gnssCommit (s : State) (old : Tab Word) : State :=
  let was := tget rwsDef old Reg.GNS_CTRL
  let mode := fld (tget rwsDef old Reg.GNS_POS_CFG) 0 2
  let s := if bitAt was 0 && !s.gnsEn then
      let g : GnsSt := { hdr := s.gns.hdr, seq := s.gns.seq, capt := s.gns.capt, chWin := s.gns.chWin }
      (({ s with gns := g } : State).monLost 8)
    else s
  let s := if !bitAt was 0 && s.gnsEn then s.updGns (fun g => { g with lostAt := s.time.now }) else s
  let s := if !bitAt (s.ac Reg.GNS_CTRL) 8 || s.gnsMode != mode then s.burstEnd else s
  let s := s.refoutSync
  if s.gnsMode = mode then s
  else if s.gnsMode = 1 then s
  else s.updGns (fun g => { g with survey := none, held := none, free := [] })

end Sys2Proof.Machine
end

