-- ==== Sys2Proof/Machine/LinkRows.lean ====
section
/-!
DEFINITION. The rows that bring a port up or down, with what follows for the references (R67–R71, R301).
-/

namespace Sys2Proof.Machine

/-- LINK_DOWN (R71): the port loses PCS block lock, FEC alignment or signal detect on a lane of its mode;
`lanes` are the physical lanes that still detect a signal. -/
def execLinkDown (n : Fin 8) (lanes : Fin 256) (s : State) : Res :=
  .next (((s.linkDown s.active n false).updPort n (fun p => { p with sigDet := lanes.val &&& p.lanesOn })).internalRefs)

/-- CAL_RETRY (R69): PRT_CTRL(n).CAL_RETRY is written, whether or not the configuration is locked (R86). -/
def execCalRetry (n : Fin 8) (s : State) : Res := .next (s.calRetry n).internalRefs

/-- LINK_UP (R67): 0.2 ms after the PCS link status the calibration values are loaded at a CCLK edge and the port is UP, with
EV096; the tracker of the emission grid starts (R134) on the clock that PRT_SYNCE_TX(n).SRC selects (R76), and the Sync
slots of the port take their places on the grid (R148). DESIGN CHOICE (log entry 48): R148 places a slot on the grid when it
is armed; a slot armed while the port had no grid is armed again here, so that T = t lies on it. -/
def execLinkUp (n : Fin 8) (c : CalResult) (s : State) : Res :=
  if (s.port n).link = .calCheck then
    let s := (s.advTo (cclkCeil (max s.time.now ((s.port n).stepAt + 200 * usTicks)))).calLoad n c
    let s := s.updPort n (fun p => { p with
      link := .up, stepAt := s.time.now, trackAt := s.time.now + sTicks
      gridPhase := c.gridPhase, gridStep := s.gridStepNow n, gridLock := false, gridGood := 0
      gridAt := s.time.now })
    let s := (s.syncArm (80 + n) s.nowSt).syncArm (88 + n) s.nowSt
    .next ((s.portEvt n 0).clPortUp n).internalRefs
  else .next s

end Sys2Proof.Machine
end

