-- ==== Sys2Proof/Machine/Mbx.lean ====
section
/-!
DEFINITION. The mailbox channels, the semaphores, the cores and the firmware protocol (R441–R464).
-/

namespace Sys2Proof.Machine

/-! ## Channels and their ends -/

/-- R446: the A end and the B end of channel `c`. -/
def chanEnds : Nat → Master × Master
  | 0 => (.pf0, .sc0) | 1 => (.pf0, .sc1) | 2 => (.pf0, .sc2) | 3 => (.pf0, .sc3)
  | 4 => (.spi, .sc0) | 5 => (.spi, .sc1) | 6 => (.spi, .sc2) | 7 => (.spi, .sc3)
  | 8 => (.pf1, .kc) | 9 => (.sc0, .sc1) | 10 => (.sc0, .sc2) | 11 => (.sc0, .sc3)
  | 12 => (.sc1, .sc2) | 13 => (.sc1, .sc3) | 14 => (.sc2, .sc3)
  | 15 => (.sc0, .kc) | 16 => (.sc1, .kc) | 17 => (.sc2, .kc) | _ => (.sc3, .kc)

/-- The master of an end: ends are numbered 2·channel for A and 2·channel + 1 for B. -/
def endMaster (e : Nat) : Master := if e % 2 = 0 then (chanEnds (e / 2)).1 else (chanEnds (e / 2)).2

/-- The peer of an end. -/
def peerOf (e : Nat) : Nat := if e % 2 = 0 then e + 1 else e - 1

/-- R447: the end of channel `c` that master `m` reaches. -/
def endOf (c : Nat) (m : Master) : Option Nat :=
  if (chanEnds c).1 = m then some (2 * c) else if (chanEnds c).2 = m then some (2 * c + 1) else none

/-- The ends of a master. -/
def endsOf (m : Master) : List Nat := (List.range 38).filter (fun e => endMaster e = m)

/-- R447: an access to channel `c` by master `m`: a non-secure master at MB08 is refused with EV192 (R12), one
that is not an endpoint with EV238. -/
def State.chanAccess (s : State) (c : Nat) (m : Master) : Except State Nat :=
  if c = 8 && !m.secure then .error (s.raise 192)
  else match endOf c m with
    | some e => .ok e
    | none => .error (s.raise 238)

/-- The answer of the bus to a read. -/
def State.answer (s : State) (v : Word) : State := { s with bus := { data := [v], unsupported := false } }

/-- R451: the doorbell of an end has a pending bit. -/
def ChanEnd.pend (e : ChanEnd) : Bool := e.db &&& ~~~ e.dbMask != 0

/-- R451: a change of end `e` that may make a first bit pending: EV234 for PF0, PF1 and SPI management. -/
def State.updDb (s : State) (e : Nat) (f : ChanEnd → ChanEnd) : State :=
  let s' := s.updChEnd e f
  if !(s.chEnd e).pend && (s'.chEnd e).pend && !(endMaster e).isCore then s'.raise 234 else s'

/-- R451, R452: a ring of `bits` from end `e` towards its peer. -/
def State.ring (s : State) (e : Nat) (bits : Word) : State :=
  let p := peerOf e
  let b := bits &&& 0x3FFFFFFF
  if (s.chEnd p).up then
    s.updDb p (fun x => { x with
      db := x.db ||| b
      ackFrom := if b &&& x.ackMask != 0 then none else x.ackFrom })
  else s.updChEnd e (fun x => { x with lastTx := .aborted })

/-- R448: a send from end `e`. -/
def State.send (s : State) (e : Nat) (w : Word) : State :=
  let p := s.chEnd (peerOf e)
  if !p.up then s.updChEnd e (fun x => { x with lastTx := .aborted })
  else if 8 ≤ p.inq.length then
    (s.updChEnd e (fun x => { x with lastTx := .full, txFull := satAdd x.txFull 1 })).raiseLim 235 e msTicks
  else (s.updChEnd (peerOf e) (fun x => { x with inq := x.inq ++ [w] })).updChEnd e (fun x => { x with lastTx := .ok })

/-- MBX_TX (R448): master `m` writes a word to MBX_TX of channel `c`. -/
def execMbxTx (c : Fin 19) (m : Master) (w : Word) (s : State) : Res :=
  match s.chanAccess c m with
  | .error s => .next s
  | .ok e => .next (s.send e w)

/-- MBX_RX (R449): master `m` reads MBX_RX of channel `c`: the oldest word of its inbound queue is removed. -/
def execMbxRx (c : Fin 19) (m : Master) (s : State) : Res :=
  match s.chanAccess c m with
  | .error s => .next (s.answer 0)
  | .ok e => match (s.chEnd e).inq with
    | [] => .next ((s.updChEnd e (fun x => { x with under := true })).answer 0)
    | w :: r => .next ((s.updChEnd e (fun x => { x with inq := r, under := false })).answer w)

/-- MBX_DB_RING (R451): master `m` writes MBX_DB_RING of channel `c`. -/
def execMbxDbRing (c : Fin 19) (m : Master) (bits : Word) (s : State) : Res :=
  match s.chanAccess c m with
  | .error s => .next s
  | .ok e => .next (s.ring e bits)

/-- MBX_DB_CLEAR (R451): master `m` writes 1s to MBX_DB of channel `c`. -/
def execMbxDbClear (c : Fin 19) (m : Master) (bits : Word) (s : State) : Res :=
  match s.chanAccess c m with
  | .error s => .next s
  | .ok e => .next (s.updChEnd e (fun x => { x with db := x.db &&& ~~~ bits }))

/-- MBX_ACK_WAIT_START (R452): the acknowledgement timer of the writer's end of channel `c` starts from zero. -/
def execMbxAckWaitStart (c : Fin 19) (m : Master) (s : State) : Res :=
  match s.chanAccess c m with
  | .error s => .next s
  | .ok e => .next (s.updChEnd e (fun x => { x with ackFrom := some s.time.now }))

/-- MBX_ACK_WAIT_CANCEL (R452): ACK_WAITING of the writer's end of channel `c` clears. -/
def execMbxAckWaitCancel (c : Fin 19) (m : Master) (s : State) : Res :=
  match s.chanAccess c m with
  | .error s => .next s
  | .ok e => .next (s.updChEnd e (fun x => { x with ackFrom := none }))

/-- MBX_ACK_TIMEOUT (R452): the acknowledgement timer of end `e` expires: ACK_STALL, ACK_WAITING 0 and EV236. With
TIMEOUT 0 it never does. -/
def execMbxAckTimeout (e : Fin 38) (s : State) : Res :=
  match (s.chEnd e).ackFrom with
  | none => .next s
  | some t =>
    if (s.chEnd e).ackTimeout = 0 then .next s
    else
      let s := s.advTo (t + usTicks * (s.chEnd e).ackTimeout)
      .next ((s.updDb e (fun x => { x with
        db := x.db ||| bitMask 30, ackFrom := none, stalls := satAdd x.stalls 1 })).raise 236)

/-! ## Ends going down and coming up -/

/-- R462: every semaphore that master `m` holds is released, each with EV240. -/
def State.semReclaim (s : State) (m : Master) : State :=
  (List.range 64).foldl (fun s i => if s.sem i = m.ident then (s.updSem i (fun _ => 0)).raise 240 else s) s

/-- R453: the reset of one channel end. -/
def State.endReset (s : State) (e : Nat) : State :=
  let p := peerOf e
  let s := s.updChEnd e (fun x => { x with
    inq := [], db := 0, dbMask := 0xFFFFFFFF, ackFrom := none, up := false })
  (s.updDb p (fun x => { x with
    inq := [], db := x.db ||| bitMask 31, ackFrom := none, lastTx := .aborted })).raise 237

/-- R453, R462: the reset of every end of a master, which also releases its semaphores. -/
def State.masterReset (s : State) (m : Master) : State := ((endsOf m).foldl State.endReset s).semReclaim m

/-- R454: a master opens its ends. The A end of MB08 stays DOWN while the recipe does not enable PF1 (R446). -/
def State.openEnds (s : State) (m : Master) (pf1 : Bool) : State :=
  if m = .pf1 && !pf1 then s else (endsOf m).foldl (fun s e => s.updChEnd e (fun x => { x with up := true })) s

/-- MBX_EP_RESET (R453): PF0, PF1 or SPI management resets its ends; from a core the bit is ignored. -/
def execMbxEpReset (m : Master) (s : State) : Res := .next (if m.isCore then s else s.masterReset m)

/-- R446, R467: FLAGS.PF1_EN of the verified recipe. -/
def State.pf1En (s : State) : Bool :=
  s.boot.verified && (match if s.boot.slotB then s.boot.hdrB else s.boot.hdrA with
    | some h => h.flags.testBit 0
    | none => false)

/-- MBX_OPEN (R454): PF0, PF1 or SPI management opens its ends; from a core the bit is ignored. -/
def execMbxOpen (m : Master) (s : State) : Res := .next (if m.isCore then s else s.openEnds m s.pf1En)

/-- PCIE_FUNCTION_RESET (R453): a function-level reset of PF0 (`pf0`) or of PF1 (`pf1`), or of both by a hot reset or a
link down, resets their mailbox ends. PRESUMED (log entry 77): its MSI-X state is reset with it, as PCI Express has it. -/
def execPcieFunctionReset (pf0 pf1 : Bool) (s : State) : Res :=
  let clear (s : State) (i : Nat) : State := { s with evt := { s.evt with msix := tset msixDef s.evt.msix i {} } }
  let s := if pf0 then clear (s.masterReset .pf0) 0 else s
  .next (if pf1 then clear (s.masterReset .pf1) 1 else s)

/-! ## Semaphores -/

/-- SEM_ACQUIRE (R460): a read of MBX_SEM by master `m` acquires a free semaphore, or reports its holder. A non-secure
read of SEM56–SEM63 returns 0 with EV192. -/
def execSemAcquire (i : Fin 64) (m : Master) (s : State) : Res :=
  if 56 ≤ i.val && !m.secure then .next ((s.raise 192).answer 0)
  else
    let h := s.sem i
    if h = 0 then .next ((s.updSem i (fun _ => m.ident)).answer (BitVec.ofNat 32 m.ident))
    else if h = m.ident then .next (s.answer (BitVec.ofNat 32 (m.ident + 2 ^ 30)))
    else .next (s.answer (BitVec.ofNat 32 (h + 2 ^ 31)))

/-- SEM_RELEASE (R462): a write of MBX_SEM by its holder releases the semaphore; from another master it is discarded
with EV239, and a non-secure write of SEM56–SEM63 with EV192. -/
def execSemRelease (i : Fin 64) (m : Master) (s : State) : Res :=
  if 56 ≤ i.val && !m.secure then .next (s.raise 192)
  else if s.sem i = m.ident then .next (s.updSem i (fun _ => 0))
  else .next (s.raise 239)

/-- SEM_FORCE (R462): KC or PF1 releases semaphore `i`, with EV240. From any other master the write is discarded with
EV192 (R12). -/
def execSemForce (i : Fin 64) (m : Master) (s : State) : Res :=
  if m.secure then .next ((s.updSem i (fun _ => 0)).raise 240) else .next (s.raise 192)

/-! ## The firmware's replies -/

/-- Message words that fit are sent and the MSG bit rung; otherwise the message waits in the backlog (R455, R458).
`c` is one of MB00–MB08, whose B end is the core's. -/
def State.fwSendNow (s : State) (c : Nat) (m : FwMsg) : State :=
  (m.foldl (fun s w => s.send (2 * c + 1) w) s).ring (2 * c + 1) 1

/-- R448: free words in the outbound queue of the core's end of channel `c`. -/
def State.fwRoom (s : State) (c : Nat) : Nat := 8 - (s.chEnd (2 * c)).inq.length

/-- R458: a message to the other end of channel `c`: sent, or kept in the backlog; lost while that end is DOWN. -/
def State.fwSend (s : State) (c : Nat) (m : FwMsg) : State :=
  if !(s.chEnd (2 * c)).up then s.updChEnd (2 * c + 1) (fun x => { x with lastTx := .aborted })
  else if (s.fwChan c).backlog.isEmpty && m.length ≤ s.fwRoom c then s.fwSendNow c m
  else s.updFwChan c (fun f => { f with backlog := f.backlog ++ [m] })

/-- R455: a reply with the given words after its header. -/
def fwReply (cmd seq : Nat) (body : List Word) : FwMsg :=
  BitVec.ofNat 32 ((cmd + 0x80) % 256 + body.length * 2 ^ 8 + seq * 2 ^ 16) :: body

/-- A reply whose body is a STATUS. -/
def fwStatus (cmd seq st : Nat) : FwMsg := fwReply cmd seq [BitVec.ofNat 32 (st * 2 ^ 8)]

/-- R457: the core that serves channel `c`. -/
def fwCore (c : Nat) : Nat := if c < 4 then c else if c < 8 then c - 4 else 4

/-- R457: the completions of jobs that the firmware submitted for a channel have arrived: it pops them and
replies. -/
def State.fwCompletions (s : State) : State :=
  s.mbx.waits.foldl (fun s w =>
    let core := fwCore w.chan
    let q := tget (fun _ => []) (s.eng w.engine).cpl core
    match q.find? (fun r => r.tag == w.tag && r.owner == w.chan) with
    | none => s
    | some r =>
      let s := s.cplSet w.engine core (q.erase r)
      let s : State := { s with mbx := { s.mbx with waits := s.mbx.waits.erase w } }
      s.fwSend w.chan (fwReply 0x10 w.tag [BitVec.ofNat 32 (r.tag + r.status * 2 ^ 8 + w.engine * 2 ^ 16)])) s

/-- What follows the end of jobs: the firmware's replies (R457) and the carafes that lost their job (R217). -/
def State.jobsEnded (s : State) : State := s.fwCompletions.carafeReconcile

/-! ## The cores -/

/-- R443: the watchdog timeout in ticks. -/
def State.wdtTicks (s : State) : Nat := msTicks * fld (s.ac Reg.MBX_WDT_CFG) 0 16

/-- R442: the firmware compare slots of core `c`. -/
def coreSlots : Nat → List Nat
  | 0 => (List.range 8).map (96 + ·) | 1 => (List.range 8).map (104 + ·) | 2 => (List.range 8).map (112 + ·)
  | 3 => (List.range 4).map (120 + ·) | _ => (List.range 4).map (124 + ·)

/-- R444: every job that core `c` submitted is aborted, and its completion queues emptied. -/
def State.coreJobs (s : State) (c : Nat) : State :=
  let mine (j : PkeJob) : Bool := decide (j.by_ = .core c)
  (List.range 8).foldl (fun s i =>
    let e := s.eng i
    let s := match e.run with
      | some r => if mine r.job then
          let (begun, s) := s.outBegun i
          if r.writes begun || r.endAt ≤ s.cclkAfter 1 then s else s.abortRunning i r
        else s
      | none => s
    let s := (e.pend.filter mine).foldl (fun s j => s.abortPending i j) s
    let stalled := !(s.eng i).held.isEmpty
    let s := s.updEng i (fun e => { e with
      held := e.held.filter (fun h => h.1 != c), cpl := tset (fun _ => []) e.cpl c [] })
    if stalled then s.cplFree i else s) s

/-- R444: the effects of a core restart, or of FAILED, at the CCLK edge at which core `c` enters reset. -/
def State.coreReset (s : State) (c : Nat) : State :=
  let s := s.masterReset (coreMaster c)
  let s := (coreSlots c).foldl State.slotDisarm s
  let s := s.coreJobs c
  let s := s.setConns (s.srv.conns.filter (fun k => k.core != c))
  let chans := (List.range 9).filter (fun k => fwCore k == c)
  let s := chans.foldl (fun s k => s.updFwChan k (fun _ => {})) s
  ({ s with mbx := { s.mbx with waits := s.mbx.waits.filter (fun w => !chans.contains w.chan) } } : State).carafeReconcile

/-- WDT_WARN (R443): half the watchdog timeout of core `c` has passed: WDT_WARN and EV016. -/
def execWdtWarn (c : Fin 5) (s : State) : Res :=
  let k := s.core c
  if k.mode ≠ .running || k.warn then .next s
  else
    let s := s.advTo (k.wdtFrom + s.wdtTicks / 2)
    .next ((s.updCore c (fun k => { k with warn := true })).raise 16)

/-- R445: core `c` is held in reset until the next reset of the core domain. -/
def State.coreFail (s : State) (c : Nat) : State :=
  ((s.updCore c (fun k => { k with mode := .failed })).raise 18).alarmSync

/-- R443: core `c` is restarted from its image in on-chip memory, or becomes FAILED when the image's hash check fails or
it has restarted RESTART_MAX times (R445). -/
def State.coreRestart (s : State) (c : Nat) : State :=
  let k := s.core c
  let s := s.coreReset c
  if k.imageHash ≠ k.goodHash then s.coreFail c
  else
    let cfg := s.ac Reg.MBX_WDT_CFG
    let recent := s.time.now :: k.restarts.filter (fun t => decide (s.time.now < t + sTicks * (fld cfg 24 8 * 10)))
    let s := ((s.updCore c (fun k => { k with mode := .restarting, restarts := recent })).bump
      (Reg.MBX_CORE_RESTARTS c)).raise 17
    if fld cfg 16 4 ≤ recent.length then s.coreFail c else s

/-- WDT_EXPIRE (R443): the watchdog of core `c` expires: the core is restarted, or becomes FAILED (R445). -/
def execWdtExpire (c : Fin 5) (s : State) : Res :=
  let k := s.core c
  .next (if k.mode ≠ .running then s else (s.advTo (k.wdtFrom + s.wdtTicks)).coreRestart c)

/-- R443, R454: the firmware of core `c` runs: its watchdog starts and its channels open. -/
def State.coreRun (s : State) (c : Nat) : State :=
  (s.updCore c (fun k => { k with mode := .running, wdtFrom := s.time.now, warn := false })).openEnds (coreMaster c) true

/-- CORE_START (R443): the firmware of a restarted core runs again. -/
def execCoreStart (c : Fin 5) (s : State) : Res :=
  .next (if (s.core c).mode = .restarting then s.coreRun c else s)

/-- WATCHDOG_RESTART (R443): the main loop of core `c` restarts its watchdog: WDT_WARN clears, the timeout starts afresh
and the heartbeat counts the 10 ms that have passed. -/
def execWatchdogRestart (c : Fin 5) (s : State) : Res :=
  let k := s.core c
  if k.mode ≠ .running then .next s
  else
    let beats := s.time.now / (10 * msTicks) - k.wdtFrom / (10 * msTicks)
    .next ((s.updCore c (fun k => { k with wdtFrom := s.time.now, warn := false })).bump (Reg.MBX_CORE_HB c) beats)

/-! ## The firmware protocol -/

/-- CMD of a header. -/
def fwCmd (h : Word) : Nat := fld h 0 8
/-- LEN of a header. -/
def fwLen (h : Word) : Nat := if fwCmd h = 0x10 then 7 else fld h 8 3
/-- SEQ of a header. -/
def fwSeq (h : Word) : Nat := fld h 16 16

/-- The request at the head of channel `c` that the firmware pops now: the core runs, the backlog has room (R458)
and the request is whole. -/
def State.fwRequest (s : State) (c : Nat) : Option (Word × List Word) :=
  if (s.core (fwCore c)).mode ≠ .running || 16 ≤ (s.fwChan c).backlog.length then none
  else match (s.chEnd (2 * c + 1)).inq with
    | [] => none
    | h :: r => if r.length < fwLen h then none else some (h, r.take (fwLen h))

/-- R455: the firmware has popped the last word of a request and rings ACK. -/
def State.fwPop (s : State) (c n : Nat) : State :=
  (s.updChEnd (2 * c + 1) (fun x => { x with inq := x.inq.drop (n + 1), under := false })).ring (2 * c + 1) 2

/-- The commands of R456. -/
def fwCmds : List Nat := [0x01, 0x10, 0x11, 0x20, 0x21, 0x30, 0x31]

/-- One command of the firmware on channel `c`: the request at the head is popped if `is` accepts its CMD, and
answered by `f` if its LEN satisfies `len`, else with E_CMD (R456). -/
def State.fwServe (s : State) (c : Nat) (is : Nat → Bool) (len : Nat → Bool) (f : State → Word → List Word → State) :
    State :=
  match s.fwRequest c with
  | none => s
  | some (h, b) =>
    if !is (fwCmd h) then s
    else
      let s := s.fwPop c b.length
      if len b.length then f s h b else s.fwSend c (fwStatus (fwCmd h) (fwSeq h) 0x20)

/-- FW_PING (R456): the firmware answers PING on channel `c` with the version of its core; a request of an unknown CMD
gets E_CMD. -/
def execFwPing (c : Fin 9) (s : State) : Res :=
  .next (s.fwServe c (fun k => k == 1 || !fwCmds.contains k) (fun n => n == 0) (fun s h _ =>
    if fwCmd h = 1 then s.fwSend c (fwReply 1 (fwSeq h) [s.rd (Reg.MBX_CORE_VER (fwCore c))])
    else s.fwSend c (fwStatus (fwCmd h) (fwSeq h) 0x20)))

/-- R457: the descriptor of a PKE_JOB request: word 1 from SIZE, USAGE and the channel number as OWNER. -/
def fwDescriptor (c : Nat) (h : Word) (b : List Word) : List Word :=
  b.take 1 ++ [BitVec.ofNat 32 (fld h 8 14 + c * 2 ^ 16 + fld h 22 3 * 2 ^ 22)] ++ b.drop 1

/-- R457: the buffers of a job on MB04–MB07 lie in the channel's staging buffer of 16 KiB. -/
def fwBufOk (j : PkeJob) : Bool :=
  decide (join32 (j.word 2) (j.word 3) + j.inLen ≤ 16384) && decide (j.outAddr + j.outLen ≤ 16384)

/-- R277, R278: core `c` stages the descriptor of `j` in its bank of engine `i` and submits it: the result, which its bank of
PKE_SUB_STAT shows. -/
def State.stageSubmit (s : State) (c i : Nat) (j : PkeJob) : Nat × State :=
  let m := coreMaster c
  let s := (List.range 8).foldl (fun s k => s.wr (bankKey m (Reg.PKE_JOB_W i k)) (j.word k)) s
  let (r, s) := s.submit i j
  (r, s.wr (bankKey m (Reg.PKE_SUB_STAT i)) (BitVec.ofNat 32 r))

/-- R457: the submission of `j` by core `c` to the engines in order until one accepts it: the engine, or the results. -/
def State.fwSubmit (s : State) (c : Nat) (j : PkeJob) : List Nat → Except (List Nat × State) (Nat × State)
  | [] => .error ([], s)
  | i :: is =>
    let (r, s) := s.stageSubmit c i j
    if r = 0 then .ok (i, s)
    else match s.fwSubmit c j is with
      | .ok x => .ok x
      | .error (rs, s) => .error (r :: rs, s)

/-- FW_PKE_JOB (R457): the firmware submits a PKE_JOB of channel `c`; the reply comes with the completion, or at once when
no engine accepts the job. -/
def execFwPkeJob (c : Fin 9) (s : State) : Res :=
  .next (s.fwServe c (fun k => k == 0x10) (fun _ => true) (fun s h b =>
    let j : PkeJob := { words := fwDescriptor c h b, by_ := .core (fwCore c)
                        buf := if 4 ≤ c.val && c.val < 8 then some c.val else none }
    let deny (s : State) (st : Nat) := s.fwSend c (fwReply 0x10 j.tag [BitVec.ofNat 32 (j.tag + st * 2 ^ 8)])
    if j.buf.isSome && !fwBufOk j then deny s 0x21
    else match s.fwSubmit (fwCore c) j (List.range 8) with
      | .ok (i, s) => { s with mbx := { s.mbx with waits := s.mbx.waits ++ [⟨c, j.tag, j.tag, i⟩] } }
      | .error (rs, s) => deny s (if rs.any (fun r => r == 3 || r == 5) then 0x21 else 0x22)))

/-- FW_PKE_ABORT (R456): the firmware aborts the job of a tag that it submitted for channel `c`. `begun` says that the
job's output write had begun (R285). -/
def execFwPkeAbort (c : Fin 9) (begun : Bool) (s : State) : Res :=
  .next (s.fwServe c (fun k => k == 0x11) (fun n => n == 1) (fun s h b =>
    let tag := fld (b.getD 0 0) 0 8
    match s.mbx.waits.find? (fun w => w.chan == c.val && w.tag == tag) with
    | none => s.fwSend c (fwStatus 0x11 (fwSeq h) 0x21)
    | some w =>
      let (hit, s) := s.abortJob w.engine (fun j => j.tag == tag && j.owner == c.val) begun
      (s.fwSend c (fwStatus 0x11 (fwSeq h) (if hit then 0 else 0x21))).jobsEnded))

/-- R444, R458: a service core waits for KC, which restarts, before it takes a request of channel `c` that it relays to KC. -/
def State.kcAway (s : State) (c : Nat) : Bool := decide (c < 8) && decide ((s.core 4).mode = .restarting)

/-- FW_KEY_IMPORT (R293): the firmware relays the import of a key bundle to KC: from the staging buffer on MB04–MB07, else
from host memory, where it holds the bytes `bundle`. -/
def execFwKeyImport (c : Fin 9) (bundle : List Byte) (s : State) : Res :=
  .next (if s.kcAway c then s else s.fwServe c (fun k => k == 0x20) (fun n => n == 3) (fun s h b =>
    let at_ := join32 (b.getD 0 0) (b.getD 1 0)
    let n := (b.getD 2 0).toNat
    let spi := decide (4 ≤ c.val) && decide (c.val < 8)
    if spi && decide (16384 < at_ + n) then s.fwSend c (fwStatus 0x20 (fwSeq h) 0x21)
    else if s.coreFailed 4 then s.fwSend c (fwStatus 0x20 (fwSeq h) (1 + Config.kcFailStatus % 14))
    else
      let (st, s) := s.importBundle (if spi then s.bufRead c at_ n else bundle.take n) (c.val == 8)
      s.fwSend c (fwStatus 0x20 (fwSeq h) st)))

/-- FW_KEY_DELETE (R289): the firmware relays the deletion of a key slot to KC, which on MB00–MB07 deletes only a
non-secure slot whose CHANNELS name the channel. -/
def execFwKeyDelete (c : Fin 9) (s : State) : Res :=
  .next (if s.kcAway c then s else s.fwServe c (fun k => k == 0x21) (fun n => n == 1) (fun s h b =>
    let i := fld (b.getD 0 0) 0 8
    let k := s.kslot i
    if s.coreFailed 4 then s.fwSend c (fwStatus 0x21 (fwSeq h) (1 + Config.kcFailStatus % 14))
    else if c.val = 8 || (!k.secure && k.channels.testBit c) then
      (s.slotWipe i).fwSend c (fwStatus 0x21 (fwSeq h) 0)
    else s.fwSend c (fwStatus 0x21 (fwSeq h) 8)))

/-- R456: BUF_WRITE and BUF_READ exist on MB04–MB07. -/
def fwHasBuf (c : Nat) : Bool := decide (4 ≤ c) && decide (c < 8)

/-- FW_BUF_WRITE (R456): one to six words are written into the staging buffer of channel `c`. -/
def execFwBufWrite (c : Fin 9) (s : State) : Res :=
  .next (s.fwServe c (fun k => k == 0x30) (fun n => fwHasBuf c && decide (2 ≤ n)) (fun s h b =>
    let at_ := (b.getD 0 0).toNat
    if at_ % 4 ≠ 0 || 16384 < at_ + 4 * (b.length - 1) then s.fwSend c (fwStatus 0x30 (fwSeq h) 0x21)
    else (s.bufWords c (at_ / 4) (b.drop 1)).fwSend c (fwStatus 0x30 (fwSeq h) 0)))

/-- FW_BUF_READ (R456): one to six words of the staging buffer of channel `c` are returned. -/
def execFwBufRead (c : Fin 9) (s : State) : Res :=
  .next (s.fwServe c (fun k => k == 0x31) (fun n => fwHasBuf c && n == 2) (fun s h b =>
    let at_ := (b.getD 0 0).toNat
    let n := (b.getD 1 0).toNat
    if at_ % 4 ≠ 0 || n = 0 || 6 < n || 16384 < at_ + 4 * n then s.fwSend c (fwStatus 0x31 (fwSeq h) 0x21)
    else s.fwSend c (fwReply 0x31 (fwSeq h)
      (0 :: (List.range n).map (fun i => tget (fun _ => 0) (s.fwChan c).buf (at_ / 4 + i))))))

/-- FW_BACKLOG_SEND (R458): backlogged messages of channel `c` are sent in order as queue space appears. -/
def execFwBacklogSend (c : Fin 9) (s : State) : Res :=
  .next ((s.fwChan c).backlog.foldl (fun s m =>
    if (s.fwChan c).backlog.head? = some m && (s.chEnd (2 * c.val)).up && decide (m.length ≤ s.fwRoom c) then
      (s.updFwChan c (fun f => { f with backlog := f.backlog.drop 1 })).fwSendNow c m
    else s) s)

end Sys2Proof.Machine
end

