-- ==== Sys2Proof/Machine/PkeEnd.lean ====
section
/-!
DEFINITION. How the jobs of the public-key engines end: at their count, by an abort, a DMA error or a timeout
(R281–R285, R510).
-/

namespace Sys2Proof.Machine

/-- R216, R282: the running job of engine `i` has ended as `r` with a status: a carafe job's outcome goes to SRV. -/
def State.jobOver (s : State) (r : Run) (status : Nat) : State :=
  match r.job.by_ with
  | .srv => (s.carafeDone r.job.carafe status r.out).jobsEnded
  | .core _ => s.jobsEnded

/-- PKE_JOB_COMPLETE (R282): the count of engine `i`'s job ends and its completion record is queued; the record reaches
the submitter 12 CCLK later (R266). `fault` says that an end-of-job check of R274 failed; a memory error during the job ends it
with E_FAULT too. -/
def execPkeJobComplete (i : Fin 8) (fault : Bool) (s : State) : Res :=
  match (s.eng i).run with
  | none => .next s
  | some r =>
    let bad := r.eccBad || (fault && secretProgram r.job.program && r.status == 0)
    let st := if bad then 6 else r.status
    let s := ((s.advTo r.endAt).pkeEnd i r st bad).advTo (r.endAt + 12 * cclkTicks)
    .next (s.jobOver r st)

/-- PKE_DMA_ERROR (R281): a host-memory DMA error ends the job of engine `i` with E_DMA; `output` says that it met the
output after so many bytes, and the output buffer stays partly written. -/
def execPkeDmaError (i : Fin 8) (output : Option Nat) (s : State) : Res :=
  match (s.eng i).run with
  | none => .next s
  | some _ => .next (s.dmaError i output).jobsEnded

/-- PKE_JOB_TIMEOUT (R510): the job of engine `i` still runs 1,024 CCLK past its count: it ends with E_FAULT, is wiped,
counts toward PKE_FAULT_MAX and raises EV205. -/
def execPkeJobTimeout (i : Fin 8) (s : State) : Res :=
  match (s.eng i).run with
  | none => .next s
  | some r =>
    let t := r.endAt + 1024 * cclkTicks
    let s := s.advTo t
    let s := (s.pkeEnd i { r with endAt := t, slotNew := none } 6 true).raise 205
    .next (s.jobOver { r with out := [] } 6)

/-- PKE_ABORT (R284): a write of TAG and OWNER aborts a matching running or pending job when the writer is KC or the
core that submitted it; any other abort sets ABORT_MISS. `begun` says that the job's output write had begun (R285),
an instant the manual does not place. -/
def execPkeAbort (i : Fin 8) (m : Master) (tag : Fin 256) (owner : Fin 64) (begun : Bool) (s : State) : Res :=
  let may (j : PkeJob) : Bool := j.tag == tag.val && j.owner == owner.val &&
    (decide (m = .kc) || (match j.by_, m.core with
      | .core c, some d => c == d
      | _, _ => false))
  let (hit, s') := s.abortJob i may begun
  .next (if hit then s'.jobsEnded else s.updEng i (fun e => { e with abortMiss := true }))

end Sys2Proof.Machine
end

