-- ==== Sys2Proof/Machine/Tim.lean ====
section
/-!
DEFINITION. The commands of the time-interval unit (R409–R424).
-/

namespace Sys2Proof.Machine

/-- R409: the edge select of input `j` passes an edge. -/
def State.timSelects (s : State) (j : Nat) (rising : Bool) : Bool :=
  let e := fld (s.ac (Reg.TIM_IN_CFG j)) 2 2
  e == 2 || (if rising then e == 0 else e == 1)

/-- R412, R413, R418: an accepted edge of input `j` that crossed the threshold at `g` (DT in units of 2⁻¹⁶ ns ÷ 1000) is captured
to 12.5 ps, stamped and kept; the channels and the lanes see it. -/
def State.timStamp (s : State) (j : Nat) (g : Int) : State :=
  let a := roundDiv (s.tapBy (25 * psG / 2) g - sfld (s.ac (Reg.TIM_IN_DELAY j)) 0 24 * psG) 1000
  let s := (s.bump (Reg.TIM_IN_EDGES j)).timSource j a
  let s := s.updTimIn j (fun i => { i with
    last := some g
    pushed := if i.hist.length < 16 then i.pushed else i.hist.getLast?.map (·.1)
    hist := ((a, false) :: i.hist).take 16 })
  s.evlTrigger j a

/-- TIMIN_EDGE (R409): an edge crosses the threshold of TIMIN `j` at `at_`, DT in units of 2⁻¹⁶ ns ÷ 1000, and sets a level
that lasts `lasts` ps. It passes edge select, prescaler, width filter, holdoff and the 5 ns rule, or is dropped there. -/
def execTiminEdge (j : Fin 16) (at_ : Nat) (rising : Bool) (lasts : Nat) (s : State) : Res :=
  let cfg := s.ac (Reg.TIM_IN_CFG j)
  if !bitAt cfg 0 then .next s
  else
    let s := s.advTo (s.tickAtG at_)
    let div := fld (s.ac (Reg.TIM_IN_DIV j)) 0 17
    let i := s.timIn j
    let short := decide (div = 1) && !i.drop && decide (lasts < fld cfg 12 8 * 1000)
    let s := s.updTimIn j (fun i => { i with drop := short })
    if !s.timSelects j rising then .next s
    else
      let s := s.updTimIn j (fun i => { i with count := (i.count + 1) % max 1 div })
      if i.count ≠ 0 || short || i.drop then .next s
      else
        let since : Option Int := i.last.map (fun l => (at_ : Int) - l)
        let ns (n : Nat) : Int := (n * 65536000 : Nat)
        if since.any (fun d => decide (d < ns 5)) then
          .next ((s.bump (Reg.TIM_IN_REJ j)).raiseLim 227 0 msTicks)
        else if since.any (fun d => decide (d < ns (fld (s.ac (Reg.TIM_IN_HOLDOFF j)) 0 16))) then .next s
        else
          let s := if div = 1 then s.advTo (s.tickAtG (at_ + fld cfg 12 8 * 65536000)) else s
          .next (s.timStamp j at_)

/-- TIM_CAL (R414): a write of TIM_CMD.CAL repeats the calibration of recipe load. -/
def execTimCal (s : State) : Res := .next s.timCal

/-- R414: the bits of CAL_FAIL, and EV228, after the calibration of the stampers of `which`, of which those of `bad` kept their
previous table. -/
def State.timCalResult (s : State) (which bad : Nat) : State :=
  let f := s.tim.calFail ^^^ (s.tim.calFail &&& which)
  let s : State := { s with tim := { s.tim with calFail := f ||| (bad &&& which) } }
  if bad &&& which = 0 then s else s.raise 228

/-- TIM_CAL_DONE (R414): the calibration ends after its 20 ms; the stampers set in `bad`, two bits for each input, were left
with a differential non-linearity above 3 ps. -/
def execTimCalDone (bad : BitVec 32) (s : State) : Res :=
  match s.tim.calUntil with
  | none => .next s
  | some t =>
    let s := s.advTo t
    let s : State := { s with tim := { s.tim with calUntil := none, calValid := true } }
    .next (s.timCalResult 0xFFFFFFFF bad.toNat).timRecalArm

/-- TIM_RECAL (R414): every CAL_PERIOD one stamper is recalibrated while the other one of its input serves; `bad` as for
TIM_CAL_DONE. -/
def execTimRecal (bad : Bool) (s : State) : Res :=
  if fld (s.ac Reg.TIM_CTRL) 0 8 = 0 || s.tim.calUntil.isSome || !s.tim.calValid then .next s
  else
    let s := s.advTo s.tim.recalAt
    let b := 2 ^ (s.tim.recalNext % 32)
    let s : State := { s with tim := { s.tim with recalNext := (s.tim.recalNext + 1) % 32 } }
    .next (s.timCalResult b (if bad then b else 0)).timRecalArm

/-- TIM_GATE_FIRE (R421): the armed gate slot of channel `k` fires and its gate opens at the slot's time, or at the effective
boundary of a late one. -/
def State.timGate (s : State) (k : Nat) : State :=
  let x := s.slot (38 + k)
  let s := s.slotFire (38 + k)
  let g : Int := match x.late with
    | some t => s.gAt (lateBoundary (t + 128)) / 1000
    | none => s.slotEdge (38 + k) x
  let s := s.updTimCh k (fun c => { c with late := c.late || x.late.isSome, lateRec := x.late.isSome })
  if s.timMode k = 1 then s.updTimCh k (fun c => { c with state := .armed, arm := g, once := true })
  else (s.updTimCh k (fun c => { c with once := true })).timOpen k g

/-- The gate slot of channel `k` can fire. -/
def State.timGateReady (s : State) (k : Nat) : Bool := decide ((s.timCh k).state = .gateWait) && s.slotReady (38 + k)

/-- The CCLK edge that accepts a write of TIM_CH_CMD(k) (R416), after a firing of the gate slot in the same cycle (R33). -/
def State.timAccept (s : State) (k : Nat) : State :=
  let s := s.advTo (s.cclkAfter 0)
  if s.timGateReady k && decide (s.slotTick (38 + k) < s.time.now + cclkTicks) then s.timGate k else s

/-- TIM_ARM (R416): a write of TIM_CH_CMD.ARM of channel `k`. -/
def execTimArm (k : Fin 8) (s : State) : Res :=
  let s := s.timAccept k
  .next (s.timArm k s.nowSt false false)

/-- TIM_DISARM (R416): a write of TIM_CH_CMD.DISARM of channel `k`. -/
def execTimDisarm (k : Fin 8) (s : State) : Res := .next ((s.timAccept k).timDisarm k)

/-- R421: ARM_AT of channel `k` arms its gate slot with the staged time, or sets REJECTED when its policy does not arm a past
one. -/
def State.timArmAt (s : State) (k : Nat) : State :=
  if s.tim.calUntil.isSome then s
  else if s.timMode k = 0 || s.timMode k = 1 && s.timStops k = 0 then
    ((s.timDisarm k).updTimCh k (fun c => { c with badArm := true })).raise 229
  else
    let t := BitVec.ofNat 64 (join32 (s.rd (Reg.TIM_GATE_TIME_LO k)) (s.rd (Reg.TIM_GATE_TIME_HI k)))
    let s := s.updTimCh k TimCh.toIdle
    let s := s.slotArmBound (38 + k) t 0 (fld (s.ac (Reg.TIM_CH_CFG k)) 10 2) false
    if (s.slot (38 + k)).armed then s.updTimCh k (fun c => { c with state := .gateWait })
    else s.updTimCh k (fun c => { c with rejected := true })

/-- TIM_ARM_AT (R421): a write of TIM_CH_CMD.ARM_AT of channel `k`. -/
def execTimArmAt (k : Fin 8) (s : State) : Res := .next ((s.timAccept k).timArmAt k)

/-- TIM_GATE_FIRE (R421): the gate slot of channel `k` reaches its time. -/
def execTimGateFire (k : Fin 8) (s : State) : Res :=
  .next (if s.timGateReady k then s.timGate k else s)

/-- R418, R420: time passes to the end of the window or gate of channel `k`, and it is closed. -/
def State.timEndNow (s : State) (k : Nat) : State :=
  (s.advTo (s.tickAtG ((s.timEnd k + s.timWait k) * 1000))).timClose k

/-- TIM_WINDOW_END (R418): the interval measurement of channel `k` completes at the end of its window. -/
def execTimWindowEnd (k : Fin 8) (s : State) : Res :=
  if (s.timCh k).state ≠ .measuring || s.timMode k ≠ 1 then .next s
  else .next (s.timEndNow k)

/-- TIM_GATE_END (R420): the gate of channel `k` ends. -/
def execTimGateEnd (k : Fin 8) (s : State) : Res :=
  if (s.timCh k).state ≠ .measuring || s.timMode k = 1 then .next s
  else .next (s.timEndNow k)

/-- TIM_RES_POP (R422): a read removes the oldest record of channel `k`, returns its header fields and copies it into the
window. -/
def execTimResPop (k : Fin 8) (s : State) : Res :=
  match (s.timCh k).queue with
  | [] => .next { s with bus := { data := [0], unsupported := false } }
  | r :: rest =>
    let s := s.updTimCh k (fun c => { c with queue := rest, win := wordsOf r })
    let v := ofLe (r.take 2) + ofLe ((r.drop 2).take 1) * 2 ^ 16 + rest.length * 2 ^ 24 + 2 ^ 30
    .next { s with bus := { data := [BitVec.ofNat 32 v], unsupported := false } }

end Sys2Proof.Machine
end

