-- ==== Sys2Proof/Machine/Events.lean ====
section
/-!
DEFINITION. Events, performance counters and memory faults (R490–R523).
-/

namespace Sys2Proof.Machine

/-! ## Status and delivery -/

/-- R493: after a write of EVT_STAT or EVT_MASK every vector still pending sends its message, and ALARM_N follows. -/
def State.evtWritten (s : State) : State :=
  (s.vecsRouted.foldl (fun s v => if s.vecPend v then s.msixSend v else s) s).alarmSync

/-- EVT_STAT_CLEAR (R490): a W1C write of EVT_STAT(g) by master `m` clears event bits; those of G6 are secure (R495). -/
def execEvtStatClear (m : Master) (g : Fin 8) (bits : Word) (s : State) : Res :=
  .next (if g.val = 6 && !m.secure then s.raise 192 else (s.clrBits (Reg.EVT_STAT g) bits).evtWritten)

/-- EVT_MASK_WRITE (R493): master `m` writes EVT_MASK(g), which changes which events are pending; EVT_MASK(6) is secure. -/
def execEvtMaskWrite (m : Master) (g : Fin 8) (v : Word) (s : State) : Res :=
  .next (if g.val = 6 && !m.secure then s.raise 192 else (s.wr (Reg.EVT_MASK g) v).evtWritten)

/-- R490, R517: the event numbers that are reserved. -/
def evReserved (e : Nat) : Bool :=
  [(25, 31), (55, 63), (71, 71), (76, 76), (79, 95), (110, 127), (151, 159), (187, 191), (206, 223), (246, 255)].any
    (fun r => decide (r.1 ≤ e) && decide (e ≤ r.2))

/-- EVT_FORCE (R496): master `m` writes an event number, and the event is raised at the next CCLK edge without being
counted; a non-secure writer is refused with EV192, a reserved number with EV024. -/
def execEvtForce (m : Master) (e : Fin 256) (s : State) : Res :=
  .next (if !m.secure then s.raise 192
    else if evReserved e then s.raise 24
    else ((s.advTo (s.cclkAfter 1)).raiseBit e).alarmSync)

/-- R493: the vectors of a function: those of PF1 or of PF0, by table entry. -/
def fnVector (pf1 : Bool) (entry : Nat) : Nat := if pf1 then 24 + entry else entry

/-- R493: a function's MSI-X enable and masks change: each pending bit whose message may now go is cleared, and the message
sent if the vector is still pending. -/
def State.msixUpdate (s : State) (pf1 : Bool) (f : MsixFn → MsixFn) : State :=
  let i := if pf1 then 1 else 0
  let s : State := { s with evt := { s.evt with msix := tupd msixDef s.evt.msix i f } }
  (List.range (if pf1 then 8 else 24)).foldl (fun s e =>
    let m := tget msixDef s.evt.msix i
    if m.enabled && !m.funMask && !m.masked.testBit e && m.pending.testBit e then
      let s : State := { s with evt := { s.evt with
        msix := tset msixDef s.evt.msix i { m with pending := m.pending - 2 ^ e } } }
      if s.vecPend (fnVector pf1 e) then s.msixSend (fnVector pf1 e) else s
    else s) s

/-- MSIX_UNMASK (R493): software writes the enable and the function mask of a function's MSI-X capability and the mask bits
of its table entries; the messages of the vectors that are still pending are sent. -/
def execMsixUnmask (pf1 enable funMask : Bool) (masked : BitVec 24) (s : State) : Res :=
  .next (s.msixUpdate pf1 (fun m => { m with enabled := enable, funMask := funMask, masked := masked.toNat }))

/-! ## Performance counters -/

/-- Counter PCnn. -/
def State.cnt (s : State) (n : Nat) : Counter := tget cntDef s.evt.cnts n
/-- Counter PCnn, set. -/
def State.setCnt (s : State) (n : Nat) (c : Counter) : State :=
  { s with evt := { s.evt with cnts := tset cntDef s.evt.cnts n c } }

/-- A master's latch bank at reset. -/
def cntBankDef (_ : Nat) : CntBank := {}
/-- The latch bank of a master (R501). -/
def State.cntBank (s : State) (m : Master) : CntBank := tget cntBankDef s.evt.banks m.bank
/-- The latch bank of a master, changed by a function. -/
def State.updCntBank (s : State) (m : Master) (f : CntBank → CntBank) : State :=
  { s with evt := { s.evt with banks := tupd cntBankDef s.evt.banks m.bank f } }

/-- Nothing is latched at reset. -/
def zeroAt (_ : Nat) : Nat := 0

/-- R501: what CNT_HI(n) reads for a master: the latched bits. -/
def State.cntHi (s : State) (m : Master) (n : Nat) : Word :=
  let b := s.cntBank m
  BitVec.ofNat 32 (if (s.cnt n).chained n then tget zeroAt b.latchAll n / 2 ^ 32 else tget zeroAt b.latchHi n)

/-- CNT_LO_READ (R501): master `m` reads CNT_LO(n), or both words at once: bits [31:0] of the count, with [47:32] and a
chained partner latched in its bank; a chained partner reads as latched. -/
def execCntLoRead (m : Master) (n : Fin 64) (wide : Bool) (s : State) : Res :=
  let c := s.cnt n
  let p := s.cnt (n + 1)
  let (lo, s) :=
    if c.chained n then (BitVec.ofNat 32 (tget zeroAt (s.cntBank m).latchAll n), s)
    else (BitVec.ofNat 32 c.val, s.updCntBank m (fun b => { b with
      latchHi := tset zeroAt b.latchHi n (c.val / 2 ^ 32)
      latchAll := if p.chained (n + 1) then tset zeroAt b.latchAll (n + 1) p.val else b.latchAll }))
  .next { s with bus := { data := if wide then [lo, s.cntHi m n] else [lo], unsupported := false } }

/-- CNT_LO_WRITE (R502): master `m` stages 32 bits for a load of counter `n`. -/
def execCntLoWrite (m : Master) (n : Fin 64) (v : Word) (s : State) : Res :=
  .next (s.updCntBank m (fun b => { b with stage := tset (fun _ => 0) b.stage n v }))

/-- CNT_HI_WRITE (R502): master `m` writes CNT_HI(n): the counter is loaded with [15:0] and the staged bits at the CCLK
edge of acceptance and runs again. What the counter would have counted in that cycle is lost; a carry into or of the
chained pair that meets the load is dropped, with CARRY_LOST in the odd counter and EV243. -/
def execCntHiWrite (m : Master) (n : Fin 64) (v : Word) (s : State) : Res :=
  let odd := if n.val % 2 = 0 then n.val + 1 else n.val
  let c := s.cnt n
  let p := s.cnt odd
  let val := fld v 0 16 * 2 ^ 32 + (tget (fun _ => 0) (s.cntBank m).stage n.val).toNat
  let s := s.advTo ((s.time.now / cclkTicks + 1) * cclkTicks)
  let lost := p.chained odd && (s.cnt odd).val ≠ p.val
  let s := if lost then s.setCnt odd p else s
  let s := s.setCnt n { c with val := val, stopped := false }
  .next (if lost then (s.setCnt odd { s.cnt odd with carryLost := true }).raise 243 else s)

/-- CNT_SNAP (R503): CNT_CMD.SNAP requests a snapshot at the 8th CCLK edge after acceptance. -/
def execCntSnap (s : State) : Res :=
  .next { s with evt := { s.evt with snapDue := s.evt.snapDue ++ [s.cclkAfter 8] } }

/-- CNT_CLEAR_ALL (R502): CNT_CMD.CLEAR_ALL zeroes all 64 counters, which frees those that ON_LIMIT had frozen. -/
def execCntClearAll (s : State) : Res :=
  .next { s with evt := { s.evt with
    cnts := tupdAll cntDef 64 s.evt.cnts (fun _ c => { c with val := 0, stopped := false }) } }

/-- R503: all 64 counters are copied into the snapshot registers; `at_` is the time that CNT_SNAP_AT records. -/
def State.snapshot (s : State) (at_ : Nat) : State :=
  let s : State := { s with evt := { s.evt with
    cnts := tupdAll cntDef 64 s.evt.cnts (fun _ c => { c with snap := c.val }) } }
  ((s.wr64 Reg.CNT_SNAP_AT_LO at_).wr Reg.CNT_SNAP_SEQ (s.rd Reg.CNT_SNAP_SEQ + 1)).raise 244

/-- CNT_SNAPSHOT (R503): the oldest snapshot that CNT_CMD.SNAP requested takes place. -/
def execCntSnapshot (s : State) : Res :=
  match s.evt.snapDue with
  | [] => .next s
  | t :: r =>
    let s := s.advTo t
    let s : State := { s with evt := { s.evt with snapDue := r } }
    .next (s.snapshot s.nowSt)

/-- CNT_LIMIT (R499): counter `n` has reached its limit, where it acted by ON_LIMIT: HIT is set and EV241 raised. -/
def execCntLimit (n : Fin 64) (s : State) : Res :=
  let c := s.cnt n
  .next (if c.dueHit then (s.setCnt n { c with dueHit := false, hit := true }).raise 241 else s)

/-- CNT_OVERFLOW (R500): counter `n` has carried out of bit 47 and wrapped: OVF is set and EV242 raised. -/
def execCntOverflow (n : Fin 64) (s : State) : Res :=
  let c := s.cnt n
  .next (if c.dueOvf then (s.setCnt n { c with dueOvf := false, ovf := true }).raise 242 else s)

/-! ## Memory faults -/

/-- R506: REGION. -/
def eccRegion : EccMem → Nat
  | .cluster _ => 0x01 | .cell _ _ => 0x02 | .cellUcode _ => 0x03 | .client _ => 0x04 | .calendar _ _ => 0x05
  | .bestEffort _ _ => 0x05 | .twoCopies => 0x06 | .symKey _ => 0x07 | .annexKey _ => 0x07 | .keySlot _ => 0x08
  | .operand _ => 0x09 | .pkeUcode _ => 0x0A | .coreMem _ => 0x0B | .image _ => 0x0C | .grant _ => 0x0D
  | .history _ => 0x0E | .timQueue _ _ => 0x0F | .tsq _ _ => 0x0F | .mailbox _ => 0x10

/-- FLT_ECC_LAST: the instance, where the manual gives the region a number of 8 bits for it. -/
def eccOwner : EccMem → Option Nat
  | .cluster k => some k | .cellUcode k => some k | .calendar n _ => some n | .bestEffort n _ => some n
  | .operand i => some i | .pkeUcode i => some i | .coreMem c => some c | .image c => some c
  | .timQueue k _ => some k | .tsq n _ => some n | .mailbox c => some c
  | .cell _ _ | .client _ | .twoCopies | .symKey _ | .annexKey _ | .keySlot _ | .grant _ | .history _ => none

/-- FLT_ECC_DROP: frames and records dropped for memory faults. -/
def State.eccDrop (s : State) : State := s.bump Reg.FLT_ECC_DROP

/-- R506: the committed frame `id` of port `n`, in its calendar, in the hand-off, or on its way to be recomposed, is
dropped and wiped with its context record. -/
def State.eccFrame (s : State) (n id : Nat) : State :=
  let back (k : Nat) : Bool := (s.clu k).returning.any (fun h => h.f.id == id) ||
    (s.clu k).prio.any (fun p => match p with | .ret f => f.id == id | .sync _ => false)
  if (s.cal n).frames.any (fun a => a.f.id == id) || (s.cal n).handoff.any (fun h => h.f.id == id) ||
      (List.range 32).any back then
    let s := s.updCal n (fun c => { c with
      frames := c.frames.filter (fun a => a.f.id != id), handoff := c.handoff.filter (fun h => h.f.id != id) })
    ((List.range 32).foldl (fun s k => s.updClu k (fun cl => { cl with
      returning := cl.returning.filter (fun h => h.f.id != id)
      prio := cl.prio.filter (fun p => match p with | .ret f => f.id != id | .sync _ => true) })) s).eccDrop
  else s

/-- R506: the response to an uncorrectable error of each region. Both ends of a channel of 0x10 see PEER_ABORT, since
each is the other's peer (log entry 77). -/
def State.eccRespond (s : State) : EccMem → State
  | .cluster k => s.retireCluster k
  | .cellUcode k => s.retireCluster k
  | .cell k c => s.retireCell k c
  | .client e => s.updCltEntry e (fun _ => none)
  | .calendar n id => s.eccFrame n id
  | .bestEffort n pos =>
    match (s.port n).be[pos]? with
    | none => s
    | some f =>
      let s := (s.updPort n (fun p => { p with
        be := p.be.eraseIdx pos
        reserved := if p.reserved.any (fun r => r.1 == f) then none else p.reserved })).eccDrop
      match f.kind with
      | .host tag ts => s.htxDrop n tag ts
      | _ => s
  | .twoCopies => s
  | .symKey i => s.updSymKey i (fun o => o.become {} s.time.now)
  | .annexKey i => s.updAnnexKey i (fun o => o.become {} s.time.now)
  | .keySlot i => s.slotWipe i
  | .operand i =>
    match (s.eng i).run with
    | none => s
    | some r => s.updEng i (fun e => { e with run := some { r with eccBad := true } })
  | .pkeUcode i => (s.pkeRetire i).jobsEnded
  | .coreMem c => if (s.core c).mode = .running then s.coreRestart c else s
  | .image c =>
    if (s.core c).mode = .failed then s
    else (s.updCore c (fun k => { k with imageHash := k.goodHash + 1 })).coreRestart c
  | .grant i => s.updGrant i (fun _ => {})
  | .history age => s.updD (fun d => { d with hist := d.hist.modify age (fun h => (h.1, false)) })
  | .timQueue k pos =>
    if pos < (s.timCh k).queue.length then
      (s.updTimCh k (fun c => { c with queue := c.queue.eraseIdx pos })).eccDrop
    else s
  | .tsq n pos =>
    if pos < (s.port n).tsq.length then (s.updPort n (fun p => { p with tsq := p.tsq.eraseIdx pos })).eccDrop else s
  | .mailbox c =>
    [2 * c.val, 2 * c.val + 1].foldl
      (fun s e => s.updDb e (fun x => { x with db := x.db ||| bitMask 31, lastTx := .aborted }))
      ((s.endReset (2 * c.val)).endReset (2 * c.val + 1))

/-- R506: an uncorrectable error: counted, recorded, EV020, and the response of its region. -/
def State.eccUncorr (s : State) (m : EccMem) : State :=
  let (i, s) := match eccOwner m with
    | some i => (i, s)
    | none => let (v, s) := s.free; (v.toNat % 256, s)
  let s := (s.bump Reg.FLT_ECC_UNCORR).wr Reg.FLT_ECC_LAST (BitVec.ofNat 32 (eccRegion m + 256 * i))
  (s.raise 20).eccRespond m

/-- PATROL_SCRUB (R505): the scrubber or a check finds a fault: a corrected word is counted with EV019, an uncorrectable
one has the response of its region (R506); a departure scheduler with faulty pointers empties its port (R515), a voted
copy is reloaded and the sample of a DPLL whose copies differ is discarded (R512). -/
def execPatrolScrub (f : MemFault) (s : State) : Res :=
  .next (match f with
    | .corrected => (s.bump Reg.FLT_ECC_CORR).raise 19
    | .uncorrectable m => s.eccUncorr m
    | .pointers n => s.dropLeaving s.active Reg.FLT_ECC_DROP n
    | .voted => s.bump Reg.FLT_TMR_CORR
    | .compare x => if x.val = 0 then s.updD (fun d => { d with fresh := none }) else s)

/-- FATAL_FAULT (R514): a fault that no protection covers: FATAL and EV023, dispatch stops in every cluster, and e_hold is
forced to its greatest value. -/
def execFatalFault (s : State) : Res :=
  let s : State := { s with evt := { s.evt with fatal := true } }
  .next ((s.raise 23).forceHold)

end Sys2Proof.Machine
end

