-- ==== Sys2Proof/Machine/Time.lean ====
section
/-!
DEFINITION. Reading DT, the DT second, the compare slots that software programs and the backup counter (R28–R44).
-/

namespace Sys2Proof.Machine

/-! ## Reading DT -/

/-- A capture set at reset. -/
def captDef (_ : Nat) : Capture := {}

/-- DT96 and ST64 of a count of DT. -/
def captureOf (d : Nat) : Capture := ⟨dtSec d, dtNs d, dtFrac d, dtSt64 d⟩

/-- DT_CAPTURE (R41): master `m` reads TSC_DT_FRAC, or TSC_ST64_LO (`st`), alone or with the word above it (`wide`): DT96 and
ST64 of the TBCLK edge before the CCLK edge that accepts the read go into its capture set, and the read answers. -/
def execDtCapture (m : Master) (st wide : Bool) (s : State) : Res :=
  let s := s.advTo (s.cclkAfter 0)
  let c := captureOf s.dtBefore
  let s : State := { s with time := { s.time with capt := tset captDef s.time.capt m.bank c } }
  let data := if !st then [BitVec.ofNat 32 c.frac]
    else if wide then [lo32 c.st64.toNat, hi32 c.st64.toNat] else [lo32 c.st64.toNat]
  .next { s with bus := { data := data, unsupported := false } }

/-- TIME_PORT_LOAD (R43): core `c` loads from its local time port the DT96 of the TBCLK edge before the CCLK edge on which
the load issues. -/
def execTimePortLoad (c : Fin 5) (s : State) : Res :=
  let s := s.advTo (s.cclkAfter 0)
  .next { s with time := { s.time with localRead := tset captDef s.time.localRead c (captureOf s.dtBefore) } }

/-! ## The DT second -/

/-- RTC_ALIGN (R44): while DT is ALIGNED the backup counter is loaded with SEC. -/
def State.rtcAlign (s : State) : State :=
  if s.aligned then
    { s with vbat := { s.vbat with rtcSec := s.sec % 2 ^ 48, rtcSub := 0, lastAlign := s.sec % 2 ^ 48, rtcValid := true } }
  else s

/-- HOLD_HISTORY_SAMPLE (R339): the sample of the second just ended goes into the history ring. -/
def State.histSample (s : State) : State :=
  let on := s.clk.d.state = .pull || s.clk.d.state = .locked
  s.updD (fun d => { d with
    hist := ((roundDiv d.yAcc (2 ^ 16 * max 1 d.yN), !d.secBad && on) :: d.hist).take 65536
    yAcc := 0, yN := 0, secBad := !on })

/-- VBAT_AVERAGE_WRITE (R343): every 64 s in LOCKED or PULL the aged average of an entry now goes to the VBAT domain. -/
def State.vbatAverage (s : State) : State :=
  if s.sec % 64 = 0 && (s.clk.d.state = .pull || s.clk.d.state = .locked) then
    { s with vbat := { s.vbat with avgValid := true, avg := s.agedAverage.2.1 } }
  else s

/-- R356: the frequency of DPLLx over the second, in units of 10⁻¹²: that of its reference, or of DT. -/
def State.dpllxSecond (s : State) (x : Nat) : State :=
  let f := roundDiv (s.time.freq * 1000000000000) (2 ^ 48)
  let src := fld (s.ac (Reg.CLK_DPLL_CFG x)) 1 4
  s.updDpllx x (fun p => match p.state with
    | .disabled => p
    | .locked => { p with freqs := ((f + (s.mon (src - 1)).df) :: p.freqs).take 72 }
    | .freeRun | .dtTrack => { p with freqs := (f :: p.freqs).take 72 }
    | .holdover => { p with freqs := (p.held :: p.freqs).take 72 })

/-- R464: MBX_CORE_STAT.LOAD of the second just ended, which the manual leaves to the firmware: 0 for a core that does not
run, else an open value up to 100. -/
def State.coreLoad (s : State) (c : Nat) : State :=
  if (s.core c).mode = .running then
    let (v, s) := s.free
    s.updCore c (fun k => { k with load := v.toNat % 101 })
  else s.updCore c (fun k => { k with load := 0 })

/-- DT_SECOND_BOUNDARY (R44): time passes to the next DT second boundary, with its bookkeeping: the counters of DT seconds
(R497), the backup counter, CS037 (R23), the holdover history, F in holdover and the VBAT average, DPLL1–DPLL3, the
pulses of the PTP clients and of TIM source 16, the smear that begins, and the load of the cores. -/
def execDtSecondBoundary (s : State) : Res :=
  if s.time.st = .unset then .next s
  else
    let sec := s.sec + 1
    let s := (s.advDt (secUnit * sec)).cntPass (fun _ c =>
      if bitAt c.sel 16 && fld c.sel 8 3 == 5 && !c.stopped then (1, 1) else (0, 0))
    let s := (s.rtcAlign.leapSync.histSample).vbatAverage
    let s := if s.clk.d.state = .holdover then s.dcoUpdate else s
    let s := [0, 1, 2].foldl State.dpllxSecond s
    let s := (s.clSecond 0).clSecond 1
    let s := (s.timSource 16 ((stSec * sec : Nat) : Int)).smearStart
    .next ([0, 1, 2, 3, 4].foldl State.coreLoad s)

/-! ## Slots that software programs -/

/-- R28, R442: the core of a firmware slot. -/
def slotCore (i : Nat) : Master :=
  if i < 104 then .sc0 else if i < 112 then .sc1 else if i < 120 then .sc2 else if i < 124 then .sc3 else .kc

/-- R28, R12: whether a master may write the registers of slot `i`; a write it may not make leaves BAD_ARM with EV011, or
raises EV192 on a secure slot. -/
def State.slotAccess (s : State) (m : Master) (i : Nat) : Except State Unit :=
  if i < 96 || (i < 128 && slotCore i ≠ m) then .error (s.slotBadArm i)
  else if 240 ≤ i && !m.secure then .error (s.raise 192)
  else .ok ()

/-- R32: an ARM of slot `i` with what its registers hold is refused. -/
def State.slotArmBad (s : State) (i : Nat) : Bool :=
  let c := s.rd (Reg.TSC_CS_CTRL i)
  let p := join32 (s.rd (Reg.TSC_CS_PERIOD_LO i)) (s.rd (Reg.TSC_CS_PERIOD_HI i))
  fld c 2 2 == 3 || decide (2 ^ 63 ≤ p) ||
    (decide (128 ≤ i) && ((p != 0 && decide (p < 1000 * 65536)) || decide (3 < fld c 8 4)))

/-- R503: a general slot with ACTION SNAP_CNT fires: the snapshot takes place at the first CCLK edge at or after its
boundary, which may come before the firing edge. -/
def State.slotSnap (s : State) (i : Nat) : State :=
  let x := s.slot i
  let e := if x.late.isSome then lateBoundary (s.slotTick i)
    else ceilDiv (s.tickAtG ((s.slotDt i x.time / stUnit * 1000 : Nat) : Int)) cclkTicks * cclkTicks
  if e ≤ s.slotTick i then ((s.advTo e).snapshot x.time.toNat).slotFire i
  else ((s.slotFire i).advTo e).snapshot x.time.toNat

/-- R30: general slot `n` fires and takes its action: MARK, EVENT with its bit in TSC_CS_FIRE_MAP and EV008, SNAP_CNT or
TIM_ARM. -/
def State.generalFire (s : State) (n : Nat) : State :=
  let x := s.slot n
  let c := s.rd (Reg.TSC_CS_CTRL n)
  match fld c 8 4 with
  | 1 => ((s.slotFire n).orBits (Reg.TSC_CS_FIRE_MAP (n / 32)) (bitMask (n % 32))).raise 8
  | 2 => s.slotSnap n
  | 3 =>
    let (t, s) := (s.slotFire n).slotBoundary x
    s.timArm (fld c 16 3) t true true
  | _ => s.slotFire n

/-- R33: a firing of slot `i` that is due by the end of the CCLK cycle that begins at the present edge completes before a write
of ARM or DISARM in that cycle acts. -/
def State.slotDue (s : State) (i : Nat) : State :=
  if s.slotReady i && decide (s.slotTick i < s.time.now + cclkTicks) then
    if i < 128 then s.slotFire i else s.generalFire i
  else s

/-- R31, R32, R49: a write of TSC_CS_CTRL(i) by a master: PAST_POLICY and STEP_FOLLOW, ACTION and TARGET on a general slot,
then DISARM or ARM, after a firing of the same CCLK cycle (R33). -/
def State.slotCtrl (s : State) (m : Master) (i : Nat) (v : Word) : State :=
  match s.slotAccess m i with
  | .error s => s
  | .ok () =>
    let keep : Word := if i < 128 then 0x1C else 0xFF0F1C
    let s := if bitAt v 0 || bitAt v 1 then s.slotDue i else s
    let s := s.wr (Reg.TSC_CS_CTRL i) (v &&& keep)
    if bitAt v 1 then s.slotDisarm i
    else if !bitAt v 0 then s
    else if s.slotArmBad i then (s.slotDisarm i).slotBadArm i
    else
      let t := join32 (s.rd (Reg.TSC_CS_TIME_LO i)) (s.rd (Reg.TSC_CS_TIME_HI i))
      let p := join32 (s.rd (Reg.TSC_CS_PERIOD_LO i)) (s.rd (Reg.TSC_CS_PERIOD_HI i))
      s.slotArm i (BitVec.ofNat 64 t) p (fld v 2 2) (bitAt v 4)

/-- CS_ARM (R31): master `m` writes TSC_CS_CTRL(i) with ARM = 1: the staged time and period go into the comparator at the
CCLK edge of acceptance, or the arm is refused (R28, R32). -/
def execCsArm (m : Master) (i : Fin 256) (ctrl : Word) (s : State) : Res :=
  .next ((s.advTo (s.cclkAfter 0)).slotCtrl m i (ctrl ||| 1))

/-- CS_DISARM (R32): master `m` writes TSC_CS_CTRL(i) with DISARM = 1, which clears ARMED whatever ARM holds. -/
def execCsDisarm (m : Master) (i : Fin 256) (ctrl : Word) (s : State) : Res :=
  .next ((s.advTo (s.cclkAfter 0)).slotCtrl m i (ctrl ||| 2))

/-- COMPARE_SLOT_FIRE (R30): general slot CS(128 + i) reaches its time and takes its action. -/
def execCompareSlotFire (i : Fin 128) (s : State) : Res :=
  .next (if s.slotReady (128 + i.val) then s.generalFire (128 + i.val) else s)

/-- FIRMWARE_SLOT_FIRE (R28): firmware slot CS(96 + i) fires for the task that its core's firmware scheduled. -/
def execFirmwareSlotFire (i : Fin 32) (s : State) : Res :=
  .next (if s.slotReady (96 + i) then s.slotFire (96 + i) else s)

/-! ## The backup counter -/

/-- BACKUP_COUNTER_TICK (R44): at a crystal period the sub-second count advances and carries into the seconds, while the
backup domain is supplied: from VBAT, or with core power from VDDIO_T (R532). -/
def execBackupCounterTick (s : State) : Res :=
  let b := s.vbat
  .next (if !b.supplied && !s.boot.powerGood then s
    else if b.rtcSub + 1 < 32768 then { s with vbat := { b with rtcSub := b.rtcSub + 1 } }
    else { s with vbat := { b with rtcSub := 0, rtcSec := (b.rtcSec + 1) % 2 ^ 48 } })

end Sys2Proof.Machine
end

