-- ==== Sys2Proof/Machine/Commit.lean ====
section
/-!
DEFINITION. The configuration sets: commits, their effects at the commit edge, the retiring set and its release
(R481–R489).
-/

namespace Sys2Proof.Machine

/-! ## Effects at the commit edge -/

/-- PORT_RECONFIGURE (R56, R73): port `n` after a commit whose set before was `old`: a change of its mode, lanes, polarity
or SyncE source takes it down, and it is DISABLED, PAIRED, or DOWN until its lanes detect a signal again (R67);
the lanes that its mode does not use are powered down (R53). -/
def State.portCommit (s : State) (old : Tab Word) (n : Nat) : State :=
  let changed (a : Nat) : Bool := tget rwsDef old a != s.ac a
  let own := [Reg.PRT_MODE n, Reg.PRT_LANE_MAP n, Reg.PRT_LANE_POL n].any changed ||
    fld (tget rwsDef old (Reg.PRT_SYNCE_TX n)) 0 3 != fld (s.ac (Reg.PRT_SYNCE_TX n)) 0 3
  let pairing := pairedIn old n != pairedIn s.active n
  let s := if (own && !(pairedIn old n && pairedIn s.active n)) || pairing then s.linkDown old n true else s
  let l := (s.port n).link
  let l' : LinkState :=
    if pairedIn s.active n then .paired
    else if s.mode n = 0 then .disabled
    else match l with
      | .disabled | .paired => .down
      | _ => l
  let s := (s.updPort n (fun p => { p with link := l' })).lanePower n
  let s := if changed (Reg.PRT_SLOW_RATE n) then s.slowFill n else s
  if bitAt (s.ac (Reg.PRT_ESMC_TX n)) 0 && !bitAt (tget rwsDef old (Reg.PRT_ESMC_TX n)) 0 then
    s.updPort n (fun p => { p with esmcAt := s.time.now, esmcTxAt := s.time.now, esmcQlSent := s.esmcCode n })
  else s

/-- PTP_CONFLICT_CHECK (R226): a grandmaster whose domain is that of a client instance on its port is stopped in CONFLICT,
with EV180. -/
def State.conflictCheck (s : State) (n : Nat) : State :=
  let c := s.profile s.cfg.gen n != 0 &&
    (List.range 2).any (fun i => s.clEn i && s.clPort i == n && s.clDomain i == s.ptpDomain s.cfg.gen n)
  let s := s.updPtpPort n (fun p => { p with conflict := c })
  if c then s.raise 180 else s

/-- NTSKE_CERT_CHECK (R473): with EN = 1 the server listens when its certificate holds the key of slot CERT_SLOT; else EV006
is raised at the commit. -/
def State.certCheck (s : State) : State :=
  let c := s.ac Reg.SRV_NTSKE_CTRL
  let ok := match s.srv.keCert with
    | some k => decide (k = (s.kslot (fld c 0 8)).pub)
    | none => false
  let s : State := { s with srv := { s.srv with keReady := bitAt c 12 && ok } }
  if bitAt c 12 && !ok then s.raise 6 else s

/-- RESEED at a commit (R95): drawn when RESEED_ON_COMMIT is 1 in the set made active or REQ was written, for requests
stamped from `t` on. -/
def State.reseedCommit (s : State) (t : Nat) : State :=
  if bitAt (s.ac Reg.CLS_CTRL) 2 || s.cls.req then
    ({ s with cls := { s.cls with req := false } } : State).reseedDue t
  else s

/-- R229, R232: a change of LOG_SYNC or PROFILE arms the Sync slots of port `n` for the first instants after the edge. -/
def State.syncCommit (s : State) (old : Tab Word) (n : Nat) : State :=
  let changed (a : Nat) : Bool := tget rwsDef old a != s.ac a
  if changed (Reg.SRV_PTP_PCFG n) || changed (Reg.SRV_PTP_PRATE n) || changed (Reg.PRT_MODE n) then
    (s.syncArm (80 + n) s.nowSt).syncArm (88 + n) s.nowSt
  else s

/-- R351–R355, R360, R361: the outputs of the clock core and the steering after a commit. -/
def State.clkCommit (s : State) (old : Tab Word) : State :=
  let changed (a : Nat) : Bool := tget rwsDef old a != s.ac a
  let s := (List.range 4).foldl (fun s k => s.ppsCommit old k) s
  let s := if changed Reg.CLK_TOD_CFG then s.outArm 46 else s
  let s := if changed Reg.CLK_CASC_CFG then s.outArm 47 else s
  let s := if bitAt (s.ac Reg.CLK_STEER_CTRL) 0 && !bitAt (tget rwsDef old Reg.CLK_STEER_CTRL) 0 then
      { s with clk := { s.clk with steerAt := s.time.now } }
    else s
  s.clrBits Reg.CLK_STAT (bitMask 3)

/-- R482: what each block does at a commit edge whose set before was `old`. -/
def State.commitBlocks (s : State) (old : Tab Word) : State :=
  let s := (List.range 32).foldl State.watch s
  let s := (List.range 8).foldl (fun s n => s.portCommit old n) s
  let s := (List.range 8).foldl State.conflictCheck s.dShortEval
  let s := (s.clCommit old 0).clCommit old 1
  let s := (List.range 8).foldl (fun s n => s.syncCommit old n) s
  let s := ((List.range 32).foldl State.rtOpen s).certCheck
  let s := ((s.timCommit old).evlCommit old).clkCommit old
  let s := ((s.refCommit old).gnssCommit old).internalRefs
  let s := (List.range 3).foldl State.dpllxSync s
  let prio := (List.range 13).any (fun m =>
    fld (tget rwsDef old (Reg.REF_CFG m)) 4 4 != fld (s.ac (Reg.REF_CFG m)) 4 4)
  let was := tget rwsDef old Reg.REF_SEL_CTRL
  let now := s.ac Reg.REF_SEL_CTRL
  s.selectorEval (fld was 0 2 != fld now 0 2 || prio) (fld was 4 4 != fld now 4 4)

/-- R482: a commit edge whose set before was `old` and whose boundary is stamp `t`: each block acts, a due reseed takes place, and the served
time follows. -/
def State.commitEffects (s : State) (old : Tab Word) (t : Nat) : State :=
  (((s.commitBlocks old).reseedCommit t).timeStateChange).alarmSync

/-! ## The copy -/

/-- R484: the generation after `g`, skipping 0 at the wrap. -/
def nextGen (g : Nat) : Nat := if g + 1 = 2 ^ 32 then 1 else g + 1

/-- COMMIT's copy (R484, R486) at the present edge, with boundary t_c = `tc` in units of 2⁻¹⁶ ns ÷ 1000: every shadow value
becomes active, the previous set is kept as the retiring set, and each block acts. `first` is the initial commit, which
retires no set. -/
def State.commitCopy (s : State) (tc : Nat) (first : Bool) : State :=
  let old := s.active
  let g := nextGen s.cfg.gen
  let keep : Option Retiring := if first then none else
    some ⟨s.cfg.gen, old, s.tickAtG ((tc : Int) + 200 * 1000 * nsG)⟩
  let s : State := { s with
    active := s.shadow
    cfg := { s.cfg with gen := g, boundary := ceilDiv tc 1000, retiring := keep, locked := false } }
  let s := (s.wr64 Reg.CFG_LAST_AT_LO (tc / 1000)).bump Reg.CFG_COMMITS
  s.raise 1

/-- A commit edge (R484), or its deferral while a retiring set exists (R486). -/
def State.commitEdge (s : State) (tc : Nat) (scheduled : Bool) : State :=
  if s.cfg.retiring.isSome then
    let s : State := { s with cfg := { s.cfg with deferred := s.cfg.deferred ++ [⟨tc, scheduled⟩] } }
    (s.orBits Reg.CFG_STAT (bitMask 4)).raise 2
  else (s.commitCopy tc false).commitEffects s.active (ceilDiv tc 1000)

/-- R483, R35: CS036 fires: the commit edge of a scheduled commit, whose late firing moves the boundary and sets
LAST_LATE. -/
def State.scheduledEdge (s : State) : State :=
  let x := s.slot 36
  let at_ := s.slotTick 36
  let (g, s) := (s.slotFire 36).slotBoundaryG x
  let s := if x.late.isSome then s.orBits Reg.CFG_STAT (bitMask 5) else s
  let s : State := { s with cfg := { s.cfg with schedAt := some at_ } }
  s.commitEdge g true

/-- R483: the edge of the pending immediate commit, at tick `t`. -/
def State.immediateEdge (s : State) (t : Nat) : State :=
  let s := s.advTo t
  let s : State := { s with cfg := { s.cfg with nowEdge := none } }
  s.commitEdge s.nowG false

/-- COMMIT (R484): the commit edge that is due first, the pending immediate one or that of CS036. -/
def execCommit (s : State) : Res :=
  .next (match s.cfg.nowEdge with
    | some t => if s.slotReady 36 && decide (s.slotTick 36 < t) then s.scheduledEdge else s.immediateEdge t
    | none => if s.slotReady 36 then s.scheduledEdge else s)

/-! ## Commands -/

/-- R481, R483: a refused command: CMD_REFUSED and EV003. -/
def State.cfgRefused (s : State) : State := (s.orBits Reg.CFG_STAT (bitMask 7)).raise 3

/-- R483: an immediate commit waits for its edge. -/
def State.nowPending (s : State) : Bool := s.cfg.nowEdge.isSome || s.cfg.deferred.any (fun d => !d.scheduled)

/-- R483: CFG_CMD.COMMIT_NOW, refused while SCHEDULED is 1 and in the CCLK cycle in which CS036 fired. -/
def State.cfgCommitNow (s : State) : State :=
  if (s.slot 36).armed || s.cfg.schedAt.any (fun t => decide (t / cclkTicks * cclkTicks = s.cclkAfter 0)) then s.cfgRefused
  else if s.nowPending then s.orBits Reg.CFG_STAT (bitMask 8)
  else { s with cfg := { s.cfg with nowEdge := some (s.cclkAfter 16) } }

/-- R483, R485: CFG_CMD.SCHEDULE. -/
def State.cfgSchedule (s : State) : State :=
  let c := s.rd Reg.CFG_CTRL
  let t := join32 (s.rd Reg.CFG_AT_LO) (s.rd Reg.CFG_AT_HI)
  let s : State := { s with cfg := { s.cfg with locked := s.cfg.locked || bitAt c 0 } }
  s.slotArmBound 36 (BitVec.ofNat 64 t) 0 (fld c 1 2) false

/-- R483, R485: CFG_CMD.CANCEL. -/
def State.cfgCancel (s : State) : State :=
  let s := s.slotDisarm 36
  { s with cfg := { s.cfg with locked := false } }

/-- R481: CFG_CMD.REVERT. -/
def State.cfgRevert (s : State) : State :=
  if s.cfg.locked then s.cfgRefused else { s with shadow := s.active }

/-- R483: a write of CFG_CMD: before the initial commit, or with more than one command, it is refused whole. -/
def State.cfgCmd (s : State) (v : Word) : State :=
  if ones v 4 = 0 then s
  else if !s.cfg.initialDone || 1 < ones v 4 then s.cfgRefused
  else if bitAt v 0 then s.cfgCommitNow
  else if bitAt v 1 then s.cfgSchedule
  else if bitAt v 2 then s.cfgCancel
  else s.cfgRevert

/-- COMMIT_NOW (R483): CFG_CMD.COMMIT_NOW places the commit edge at the 16th CCLK edge, is merged into a pending immediate
commit, or is refused. -/
def execCommitNow (s : State) : Res := .next (s.cfgCmd 1)

/-- COMMIT_SCHEDULE (R483): CFG_CMD.SCHEDULE arms CS036 at CFG_AT and, with LOCK_ON_SCHED, sets LOCKED. -/
def execCommitSchedule (s : State) : Res := .next (s.cfgCmd 2)

/-- COMMIT_CANCEL (R483): CFG_CMD.CANCEL disarms CS036 and clears LOCKED. -/
def execCommitCancel (s : State) : Res := .next (s.cfgCmd 4)

/-- CONFIG_REVERT (R481): CFG_CMD.REVERT copies every active value into the shadow set, unless LOCKED is 1. -/
def execConfigRevert (s : State) : Res := .next (s.cfgCmd 8)

/-! ## The retiring set -/

/-- The generation of an entry of a priority queue. -/
def Prio.gen : Prio → Nat
  | .sync i => i.gen
  | .ret f => f.gen

/-- R486: a busy cell that still works on an item of generation `g`. -/
def Busy.works (b : Busy) (g : Nat) : Bool :=
  !b.committed && (match b.job with
    | .req r _ => r.gen == g
    | .sync i => i.gen == g
    | .ret _ g' => g' == g
    | .expired => false)

/-- R486: the items of generation `g` on their way to departure in cluster `k`. -/
def State.clusterItems (s : State) (g k : Nat) : Nat :=
  let cl := s.clu k
  (cl.queue.filter (fun r => r.gen == g)).length + (cl.prio.filter (fun p => p.gen == g)).length +
    (cl.inbound.filter (fun t => t.req.gen == g)).length + (cl.returning.filter (fun h => h.f.gen == g)).length +
    (cl.cells.filter (fun p => match p.2 with
      | some b => b.works g
      | none => false)).length

/-- R486: the items of generation `g` in the hand-off and in the calendar of port `n`. -/
def State.calendarItems (s : State) (g n : Nat) : Nat :=
  ((s.cal n).handoff.filter (fun h => h.f.gen == g)).length + ((s.cal n).frames.filter (fun a => a.f.gen == g)).length

/-- R486: the items of generation `g` that remain anywhere on their way to departure. -/
def State.itemsOf (s : State) (g : Nat) : Nat :=
  ((List.range 32).map (s.clusterItems g)).sum + ((List.range 8).map (s.calendarItems g)).sum

/-- R486: the items of generation `g` in cluster `k` are dropped. -/
def State.dropCluster (s : State) (g k : Nat) : State :=
  let s := ((s.clu k).queue.filter (fun r => r.gen == g)).foldl (fun s r => s.unqueue k r) s
  let gone := (List.range 16).filter (fun c => match (s.clu k).busy c with
    | some b => b.works g
    | none => false)
  let s := gone.foldl (fun s c =>
    let s := match (s.clu k).busy c with
      | some { job := .req r _, kiss := none, .. } => s.freeSlots k r
      | _ => s
    s.setBusy k c none) s
  let s := ((s.clu k).inbound.filter (fun t => t.req.gen == g)).foldl (fun s t => s.freeCredit t.req) s
  s.updClu k (fun cl => { cl with
    prio := cl.prio.filter (fun p => p.gen != g), inbound := cl.inbound.filter (fun t => t.req.gen != g)
    returning := cl.returning.filter (fun h => h.f.gen != g) })

/-- R486: the release of the retiring set, with the commit that waited for it; its t_c is the later of its own boundary and
the DT of this edge. -/
def State.retireRelease (s : State) : State :=
  let s : State := { s with cfg := { s.cfg with retiring := none } }
  match s.cfg.deferred with
  | [] => s
  | d :: r =>
    let s : State := { s with cfg := { s.cfg with deferred := r } }
    let tc := max d.tc s.nowG
    (s.commitCopy tc false).commitEffects s.active (ceilDiv tc 1000)

/-- RETIRING_RELEASE (R486): no item of the retiring set's generation remains: the set is released at this CCLK edge. -/
def execRetiringRelease (s : State) : Res :=
  match s.cfg.retiring with
  | none => .next s
  | some r => if s.itemsOf r.gen = 0 then .next ((s.advTo (s.cclkAfter 0)).retireRelease) else .next s

/-- RETIRING_LIMIT (R486): 200 µs after t_c the retiring set is released; every item of its generation that remains is
dropped, counted in CFG_GEN_DROP, with EV007. -/
def execRetiringLimit (s : State) : Res :=
  match s.cfg.retiring with
  | none => .next s
  | some r =>
    let s := s.advTo r.limitAt
    let n := s.itemsOf r.gen
    let s := (List.range 32).foldl (fun s k => s.dropCluster r.gen k) s
    let s := (List.range 8).foldl (fun s p => s.updCal p (fun c => { c with
      handoff := c.handoff.filter (fun h => h.f.gen != r.gen)
      frames := c.frames.filter (fun a => a.f.gen != r.gen) })) s
    let s := if n = 0 then s else (s.bump Reg.CFG_GEN_DROP n).raise 7
    .next s.retireRelease

end Sys2Proof.Machine
end

