-- ==== Sys2Proof/Machine/View.lean ====
section
/-!
DEFINITION. What a read of a status register shows: the registers that the manual gives as read-only, or whose bits are partly
so, as functions of the state, block by block. An offset that a block's function does not name is held in the register
file. `i` and `j` are the indices of the register, `n` the instance of its block.
-/

namespace Sys2Proof.Machine

/-- The low 32 bits of a number at an even index, the next 32 bits at an odd one. -/
def half (hi : Bool) (n : Nat) : Option Nat := some (if hi then n / 2 ^ 32 % 2 ^ 32 else n % 2 ^ 32)

/-- A register that shows a value the manual leaves open (the next free value of State). -/
def State.openWord (s : State) (w : Nat) : Option Nat := some ((Config.freeValue s.frees).toNat % 2 ^ w)

/-! ## TSC -/

/-- TSC_DT_STATE.STATE's code (R45). -/
def DtState.code : DtState → Nat
  | .unset => 0 | .rtcSeeded => 1 | .floorSeeded => 2 | .aligned => 3

/-- SOURCE's code (R51). -/
def LeapSource.code : LeapSource → Nat
  | .recipe => 0 | .gnss => 1 | .host => 2

/-- R28: ACTION and TARGET that a bound or firmware slot reads. -/
def slotCode (i : Nat) : Nat × Nat :=
  if i < 32 then (4, i) else if i < 36 then (5, i - 32) else if i = 36 then (6, 0) else if i = 37 then (7, 0)
  else if i < 46 then (8, i - 38) else if i = 46 then (9, 0) else if i = 47 then (0xA, 0)
  else if i < 80 then (0xB, i - 48) else if i < 88 then (0xC, i - 80) else if i < 96 then (0xD, i - 88)
  else (0xE, match slotCore i with | .sc0 => 0 | .sc1 => 1 | .sc2 => 2 | .sc3 => 3 | _ => 4)

/-- R49: what TSC_CS_CTRL(i) reads. -/
def State.slotCtrlRead (s : State) (i : Nat) : Nat :=
  let v := s.rd (Reg.TSC_CS_CTRL i)
  let act := if i < 128 then (slotCode i).1 * 2 ^ 8 + (slotCode i).2 * 2 ^ 16 else (v &&& 0xFF0F00).toNat
  s.slotPolicy i * 4 + bn (s.slotFollow i) 4 + act + bn (s.slot i).armed 31

/-- Status registers of TSC (R40–R51). -/
def State.viewTsc (s : State) (m : Master) (off i : Nat) : Option Nat :=
  let c := tget captDef s.time.capt m.bank
  let b := s.vbat
  match off with
  | 0x0 => half false c.sec
  | 0x4 => half true c.sec
  | 0x8 => some c.ns
  | 0xC => some c.frac
  | 0x10 => half false c.st64.toNat
  | 0x14 => half true c.st64.toNat
  | 0x20 => some s.time.st.code
  | 0x30 => half false (wrap 40 s.time.freq)
  | 0x34 => half true (wrap 40 s.time.freq)
  | 0x100 => some (wrap 16 b.offset)
  | 0x104 => match b.pend with
    | some p => some (1 + bn p.delete 1 + p.source.code * 4 + bn b.frozen 4)
    | none => some 0
  | 0x108 => half false ((b.pend.map (·.at_)).getD 0)
  | 0x10C => half true ((b.pend.map (·.at_)).getD 0)
  | 0x200 => half false b.rtcSec
  | 0x204 => half true b.rtcSec
  | 0x208 => some b.rtcSub
  | 0x20C => some (bn b.rtcValid 0 + bn b.leapValid 1)
  | 0x214 => half false s.time.floor
  | 0x218 => half true s.time.floor
  | 0x800 => if i = 7 && !m.secure then some ((s.rd (Reg.TSC_CS_FIRE_MAP 7)).toNat % 65536) else none
  | 0x1000 => if i < 96 then half false (s.slot i).time.toNat else none
  | 0x1004 => if i < 96 then half true (s.slot i).time.toNat else none
  | 0x1008 => if i < 96 then half false (s.slot i).period else none
  | 0x100C => if i < 96 then half true (s.slot i).period else none
  | 0x1010 => some (s.slotCtrlRead i)
  | _ => none

/-! ## Ports and departure -/

/-- Status registers of PRT (R87–R91). -/
def State.viewPrt (s : State) (off n i : Nat) : Option Nat :=
  let p := s.port n
  let t := p.tsqLatch.stamp
  match off with
  | 0x10 => some ((if pairedIn s.active n then LinkState.paired.code else p.link.code) + bn p.lastDownMode 3 + p.sigDet % 256 * 16)
  | 0x30 => some (wrap 24 p.calRx)
  | 0x34 => some (wrap 24 p.calTx)
  | 0x38 => some (p.calState + bn p.failResidual 2 + bn p.failWindow 3 + min 65535 p.trackCount * 65536)
  | 0x3C => some (wrap 24 (s.calRxNom n))
  | 0x40 => some (wrap 16 (p.skewOf i))
  | 0x60 => some (wrap 24 (s.calTxNom n))
  | 0xC4 => half false (secOf t)
  | 0xC8 => half true (secOf t)
  | 0xCC => some (nsOf t)
  | 0xD0 => some (fracOf t)
  | _ => none

/-- Status registers of DEP (R157). -/
def State.viewDep (s : State) (off n : Nat) : Option Nat :=
  let p := s.port n
  let d := dIn s.active n
  match off with
  | 0x10 => some (p.dShort + bn p.gridLock 4 + bn p.reserved.isSome 5)
  | 0x14 => some (d 0 % 65536 + d 1 % 65536 * 65536)
  | 0x18 => some (d 2 % 65536 + d 3 % 65536 * 65536)
  | 0x20 => some (s.calOcc n)
  | _ => none

/-! ## Classifier, clusters and client-state table -/

/-- A mask of the ports for which a condition holds. -/
def mask8 (f : Nat → Bool) : Nat := ((List.range 8).map (fun n => bn (f n) n)).sum

/-- Status registers of CLS (R94, R95, R120). -/
def State.viewCls (s : State) (off i : Nat) : Option Nat :=
  match off with
  | 0x4 => some (bn s.cls.req)
  | 0x8 => some (s.cls.epoch % 65536 + bn (s.cls.pending || s.cls.deferred) 16)
  | 0x30 => some (mask8 s.spraying + fld (s.ac Reg.CLS_CTRL) 8 8 * 256 + s.cls.lastHot * 65536)
  | 0x40 => some (((List.range 4).map (fun j => s.cls.homeMap.getD (4 * i + j) 0 * 2 ^ (8 * j))).sum)
  | _ => none

/-- CEL_STAT(k).CELLS_ON (R132): the cells in service. A cell of CEL_CELL_DIS leaves service after finishing its
request, and is back when a commit clears its bit (R507). -/
def State.cellsInService (s : State) (k : Nat) : Nat :=
  let cl := s.clu k
  ((List.range 16).map (fun c => bn (cl.cellsOn.testBit c && (!bitAt (s.ac (Reg.CEL_CELL_DIS k)) c ||
    (match tget (fun _ => none) cl.cells c with
      | some b => b.holds s.time.now
      | none => false))) c)).sum

/-- Status registers of CEL (R113, R119, R132). -/
def State.viewCel (s : State) (off k : Nat) : Option Nat :=
  let cl := s.clu k
  match off with
  | 0x0 => some (s.cellsInService k + bn cl.retired 16 + bn cl.hot 17 + cl.queue.length * 2 ^ 18 +
    min 31 cl.prio.length * 2 ^ 27)
  | 0xC =>
    let nb := neighbours k
    some (nb.getD 0 0 + nb.getD 1 0 * 2 ^ 8 + nb.getD 2 0 * 2 ^ 16 + nb.getD 3 0 * 2 ^ 24)
  | 0x50 => match cl.dwellFrom with
    | some t => some (min (2 ^ 32 - 1) ((s.time.now - t) / cclkTicks))
    | none => some 0
  | _ => none

/-- Status registers of CLT (R124, R127). -/
def State.viewClt (s : State) (off i : Nat) : Option Nat :=
  let valid := s.clt.entries.filter (fun p => match p.2 with | some e => s.cltValid e | none => false)
  match off with
  | 0x8 => some (bn (decide (s.time.now < s.clt.winAt)) 0 + bn s.clt.winValid 1)
  | 0x20 => some (s.clt.win.getD i 0).toNat
  | 0x40 => some (valid.filter (fun p => decide (p.1 < camBase))).length
  | 0x44 => some (valid.filter (fun p => decide (camBase ≤ p.1))).length
  | _ => none

/-! ## Services -/

/-- R199: SRV_NTP_STATE. DESIGN CHOICE (log entry 60): LI reads its reset value 0 until the device runs. -/
def State.ntpState (s : State) : Nat :=
  let v := s.timeView
  let above := decide ((s.ac Reg.SRV_NTP_HOLD_STRAT_LIMIT).toNat < v.eHold)
  let li := if s.boot.stage ≠ .running then 0 else if v.ts = .untraceable then 3 else v.li (fld (s.ac Reg.SRV_NTP_LI_LEAD) 0 22) s.nowSt
  let smearing := s.srv.smear.any (fun m => m.runs s.nowSt) || !s.fadingNow.isEmpty
  v.ts.code + bn above 2 + s.stratum s.cfg.gen v * 16 + v.type * 2 ^ 9 + li * 2 ^ 12 + bn smearing 14

/-- A status register of a key table (R201), as a master sees it. -/
def State.keyStat (s : State) (ptp : Bool) (m : Master) : Nat :=
  let b := s.keyBank ptp m
  bn b.en + bn (s.srv.keyPend.any (fun p => p.ptp == ptp && p.master == m.bank)) 1 + bn b.refused 2 + b.kcv % 2 ^ 24 * 256

/-- A master key's identifier. -/
def keyIdOf (k : Option MasterKey) : Option Nat := some ((k.map (·.id)).getD 0)

/-- R255: client `i` is offered to the selector: SLAVE with its servo LOCKED. -/
def State.clOffered (s : State) (i : Nat) : Bool := (s.client i).port == .slave && (s.client i).servo == .locked

/-- Status registers of the upstream client `i` (R250–R256). -/
def State.viewClient (s : State) (off i : Nat) : Option Nat :=
  let c := s.client i
  match off with
  | 0xB1C => some (c.port.code + c.servo.code * 16 + c.masterClass % 256 * 2 ^ 8 + bn (s.clOffered i) 16)
  | 0xB20 => half false (wrap 64 c.mpd)
  | 0xB24 => half true (wrap 64 c.mpd)
  | 0xB28 => half false (wrap 64 c.theta)
  | 0xB2C => half true (wrap 64 c.theta)
  | 0xB30 => half false (wrap 40 c.y)
  | 0xB34 => half true (wrap 40 c.y)
  | 0xB38 => half false ((c.master.map (·.1)).getD 0)
  | 0xB3C => half true ((c.master.map (·.1)).getD 0)
  | 0xB40 => some ((c.master.map (·.2)).getD 0)
  | _ => none

/-- Status registers of SRV (R199–R258). -/
def State.viewSrv (s : State) (off i : Nat) : Option Nat :=
  let nts := s.srv.nts
  let maxt := (s.rt.cur.map (·.maxt)).getD 0
  let pp := s.ptpPort i
  match off with
  | 0x20 => some s.ntpState
  | 0x148 => keyIdOf nts.cur
  | 0x14C => keyIdOf nts.prev1
  | 0x150 => keyIdOf nts.prev2
  | 0x154 => half false (secOf nts.rotateAt)
  | 0x158 => half true (secOf nts.rotateAt)
  | 0x164 => some s.srv.conns.length
  | 0x208 => some (bn (decide (s.time.now < s.srv.rule.busyUntil)) + bn s.srv.rule.refused 1)
  | 0x630 =>
    let queued := (s.rt.sealed.filter (fun c => match c.stage with | .queued => true | _ => false)).length
    let signing (e : Nat) := s.rt.sealed.any (fun c => match c.stage with | .signing x => x == e | _ => false)
    some (bn s.rt.cur.isSome + bn s.rt.onlB 1 + bn s.rt.next.isSome 2 + min 255 queued * 256 + mask8 signing * 65536)
  | 0x638 => half false maxt
  | 0x63C => half true maxt
  | 0x700 => some (s.ringUsed i + (s.openCarafe i).leaves.length * 65536)
  | 0x810 => some (s.ptpState i + min 65535 (s.tickMax i) * 65536)
  | 0x814 => some (pp.seq % 65536)
  | 0x818 => some (pp.foreignClass % 256 + min 65535 pp.foreignCount * 65536)
  | 0x930 => some s.grantsUsed
  | 0x934 =>
    let q := s.quality s.timeView
    some (q.cls2 % 256 + q.cls1 % 256 * 2 ^ 8 + q.acc % 256 * 2 ^ 16 + q.src % 256 * 2 ^ 24)
  | 0xA08 => some (bn s.ptp.grValid 1)
  | 0xA40 => some (s.ptp.grWin.getD i 0).toNat
  | _ => s.viewClient off i

/-! ## Keys and engines -/

/-- A word of a byte string laid out from byte 0 upward. -/
def wordAt (bs : List Byte) (i : Nat) : Nat := ofLe ((bs.drop (4 * i)).take 4)

/-- Status registers of KEY (R286–R291, R201, R247). -/
def State.viewKey (s : State) (m : Master) (off i : Nat) : Option Nat :=
  let a := s.pke.attr
  match off with
  | 0x18 => some (bn s.pke.refused 1 + bn s.pke.pubValid 2)
  | 0x1C => some (a.type + a.size * 2 ^ 8 + bn a.secure 22 + a.state.code * 2 ^ 23 + a.usage % 8 * 2 ^ 25)
  | 0x20 => some a.channels
  | 0x24 => some a.label
  | 0x28 => half false a.nbf
  | 0x2C => half true a.nbf
  | 0x30 => half false a.naf
  | 0x34 => half true a.naf
  | 0x40 => some (s.pke.slots.filter (fun p => p.2.state != .empty)).length
  | 0x50 => some (((List.range 4).map (fun r => (s.pke.ring + r) % 4 * 4 ^ r)).sum + bn s.srv.nts.next.isSome 8)
  | 0x1000 => some (s.pke.pubWin.getD i 0).toNat
  | 0x2000 => some (wordAt (pubOf 3 384 (beBytes 48 s.otp.duk)) i)
  | 0x2060 => half false s.otp.dukId
  | 0x2064 => half true s.otp.dukId
  | 0x2080 => some (wordAt s.otp.dukSig i)
  | 0x4008 => some (s.keyStat false m)
  | 0x5008 => some (s.keyStat true m)
  | 0x4010 => some 0
  | 0x5020 => some 0
  | _ => none

/-- R295: PKE_STAT(i) as a master sees it. -/
def State.pkeStat (s : State) (m : Master) (i : Nat) : Nat :=
  let e := s.eng i
  let st := if !e.online then 3 else if e.run.isSome then 1 else if e.wipeUntil.isSome then 2 else 0
  let hide (o : Nat) : Bool := !m.secure && ownerSecure o
  st + bn e.clean 2 + e.pend.length * 8 + bn (!e.held.isEmpty) 6 + bn e.abortMiss 7 +
    (if hide e.owner then 0 else e.owner % 64 * 2 ^ 8 + e.program % 256 * 2 ^ 16) +
    (if hide e.lastOwner then 0 else e.status % 256 * 2 ^ 24)

/-- Status registers of PKE (R295). -/
def State.viewPke (s : State) (m : Master) (off i : Nat) : Option Nat :=
  match off with
  | 0x4 => some (s.pkeStat m i)
  | _ => none

/-! ## References and clock -/

/-- R325: REF_STAT(m). -/
def State.refStat (s : State) (m : Nat) : Nat :=
  let x := s.mon m
  let left := if x.state ≠ .wtr then 0 else match x.wtrEnd with
    | some e => ceilDiv (e - s.time.dt) secUnit
    | none => ceilDiv x.wtrLeft secUnit
  x.state.code + bn (s.eligible m) 4 + bn (s.ref.selected == some m) 5 + bn (s.disMask.testBit m) 6 + bn x.cfgErr 7 +
    min 1023 left * 2 ^ 8 + bn (x.state == .wtr && x.wtrEnd.isNone) 18

/-- Status registers of REF (R323, R325). -/
def State.viewRef (s : State) (off i : Nat) : Option Nat :=
  let r := s.ref
  match off with
  | 0x4 => some (r.selected.getD 15 + r.reason.code * 16 + bn r.manualLost 8 + bn s.disHold 9)
  | 0x1C => some (s.disMask + r.disA * 2 ^ 16 + r.disB * 2 ^ 20 + bn r.disPhase 24)
  | 0x118 => some (s.refStat i)
  | 0x11C => some (wrap 32 (satSigned 32 (s.mon i).df))
  | 0x120 => some (wrap 32 (satSigned 32 (roundDiv ((s.mon i).o * 1000) 65536)))
  | _ => none

/-- The header of the chosen slot. -/
def State.slotHdr (s : State) : Option SlotHeader := if s.boot.slotB then s.boot.hdrB else s.boot.hdrA

/-- R326: the nominal OSCIN frequency of the strap, or of the header of the chosen slot. -/
def State.oscFreq (s : State) : Nat :=
  match s.boot.oscFsel with
  | 0 => 10000000 | 1 => 12800000 | 2 => 20000000 | 3 => 25000000 | 4 => 40000000 | 5 => 50000000 | 6 => 100000000
  | _ => (s.slotHdr.map (·.oscFreq)).getD 0

/-- R364: CLK_DPLL0_STAT. -/
def State.dpll0Stat (s : State) : Nat :=
  let d := s.clk.d
  d.state.code + bn d.freqOnly 3 + d.ref.getD 15 * 16 + d.type * 2 ^ 8 + bn d.stepNeeded 11 + bn d.dcoLimit 12 +
    bn d.firstLock 13 + bn d.stepRefused 14 + min 65535 d.lockCount * 65536

/-- Status registers of CLK (R326, R334–R349, R356–R364). -/
def State.viewClk (s : State) (off i : Nat) : Option Nat :=
  let d := s.clk.d
  let seg := s.clk.seg
  match off with
  | 0x0 =>
    let live := (s.rd Reg.CLK_STAT &&& 0xA).toNat
    let steer := bitAt (s.ac Reg.CLK_STEER_CTRL) 0 && d.state == .locked && !bitAt (s.rd Reg.CLK_STAT) 3
    some (live + bn (s.boot.apllLocked && ((s.pll 0).ok0 || (s.pll 0).ok1)) 0 + bn steer 2 + s.boot.oscFsel % 8 * 16)
  | 0x4 => some s.oscFreq
  | 0x14 => some s.dpll0Stat
  | 0x48 => half false (wrap 64 d.r)
  | 0x4C => half true (wrap 64 d.r)
  | 0x50 => half false (wrap 64 d.e)
  | 0x54 => half true (wrap 64 d.e)
  | 0x58 => half false (wrap 40 (d.y / 2 ^ 32))
  | 0x5C => half true (wrap 40 (d.y / 2 ^ 32))
  | 0x70 => half false (wrap 40 (d.avg / 2 ^ 16))
  | 0x74 => half true (wrap 40 (d.avg / 2 ^ 16))
  | 0x78 => some (wrap 32 (satSigned 32 d.aging))
  | 0x7C => some (min 131071 d.winValid + bn d.short 17 + bn d.agingSkip 18 + bn s.vbat.avgValid 19)
  | 0x94 => some (if seg.isNone && !s.clk.forced then 0 else min (2 ^ 32 - 1) s.eHoldNs)
  | 0x98 => some ((seg.map (fun g => g.xi0 / 2 ^ 32)).getD 0)
  | 0x9C => half false ((seg.map (fun g => secOf g.start)).getD 0)
  | 0x104 => half false (wrap 64 s.clk.slew)
  | 0x108 => half true (wrap 64 s.clk.slew)
  | 0x21C => some ((s.dpllx i).state.code + bn (s.dpllx i).fallback 3)
  | 0x29C =>
    let c := s.ac (Reg.CLK_APLL_CFG i)
    some (bn (bitAt c 0 && (s.dpllx (fld c 1 2 - 1)).state != .disabled && ((s.pll (i + 1)).ok0 || (s.pll (i + 1)).ok1)))
  | 0x410 => some s.clk.code
  | _ => none

/-! ## GNSS -/

/-- A tracker that tracks. -/
def TrkState.tracks : TrkState → Bool
  | .track | .locked | .nav => true
  | _ => false

/-- R407: GNS_STAT. -/
def State.gnsStat (s : State) : Nat :=
  let g := s.gns
  let tracked := (g.chans.filter (fun p => p.2.a.tracks || p.2.b.tracks)).length
  let (fix, used) := match g.last with
    | some e => (e.fix, e.used.sum)
    | none => (0, 0)
  bn g.sampleOk + fix * 2 + bn g.burst 3 + bn g.refresh.isSome 4 + bn g.surveyDone 5 + bn g.surveyTimeout 6 +
    bn g.inconsist 7 + bn g.offsetMismatch 8 + bn g.leapDisagree 9 + used % 256 * 2 ^ 16 + tracked % 256 * 2 ^ 24

/-- R389: the survey's mean, or the held position, in cm. -/
def State.posCur (s : State) : Int × Int × Int :=
  match s.gns.survey with
  | some v => let n := max 1 v.n; (roundDiv v.sx n, roundDiv v.sy n, roundDiv v.sz n)
  | none => s.heldPos

/-- R389: GNS_POS_SIGMA: the 3D standard deviation of the mean in mm and the minutes of the survey. With fewer than two
positions the manual gives no deviation. -/
def State.posSigma (s : State) : Nat :=
  match s.gns.survey with
  | none => 0
  | some v =>
    let (a, b) := v.varMean
    let dev := if v.n < 2 then (Config.freeValue s.frees).toNat % 65536 else min 65535 (isqrt 64 (100 * a / b))
    dev + min 65535 ((s.sec - v.start) / 60) * 65536

/-- Status registers of GNS (R389, R405, R407, R408). The words of the time message come from the master's capture set. -/
def State.viewGns (s : State) (m : Master) (off i : Nat) : Option Nat :=
  let capt (k : Nat) := some ((tget (fun _ => []) s.gns.capt m.bank).getD k (0 : Word)).toNat
  match off with
  | 0x4 => some s.gnsStat
  | 0x20 => s.openWord 32
  | 0xA0 => some (wrap 32 s.posCur.1)
  | 0xA4 => some (wrap 32 s.posCur.2.1)
  | 0xA8 => some (wrap 32 s.posCur.2.2)
  | 0xAC => some s.posSigma
  | 0xC4 => some (wrap 32 s.tauIf)
  | 0x104 => capt 1
  | 0x108 => capt 2
  | 0x10C => capt 3
  | 0x110 => capt 4
  | 0x114 => capt 5
  | 0x118 => capt 6
  | 0x11C => capt 7
  | 0x220 => some (s.gns.chWin.getD i 0).toNat
  | _ => none

/-! ## Measurement and lanes -/

/-- R436: TIM_CH_STAT(k). A channel whose gate has not begun (R420) reads ARMED. -/
def State.timChStat (s : State) (k : Nat) : Nat :=
  let c := s.timCh k
  (if s.timAhead k then ChState.armed else c.state).code + c.queue.length * 4 + bn c.late 8 + bn c.rejected 9 + bn c.badArm 10

/-- Status registers of TIM (R414, R436, R438). -/
def State.viewTim (s : State) (off i j : Nat) : Option Nat :=
  match off with
  | 0x4 =>
    let fail := (List.range 16).map (fun k => bn (s.tim.calFail.testBit (2 * k) || s.tim.calFail.testBit (2 * k + 1)) (16 + k))
    some (bn (s.tim.calValid && s.tim.calFail == 0) + fail.sum)
  | 0x424 => some (s.timChStat i)
  | 0x1000 => some ((s.timCh i).win.getD j 0).toNat
  | _ => none

/-- OT of the next leading edge of a lane (EVL_NEXT). On a lane that has none to come the manual gives no value. -/
def State.evlNext (s : State) (l : Nat) : Nat :=
  let x := s.lane l
  if x.state == .armed || x.state == .running then
    wrap 64 (match x.latePulse with | some g => g / 1000 | none => x.edge x.idx)
  else if x.set.cfg == ({} : LaneSet).cfg && x.t0 == 0 && x.idx == 0 then 0
  else (Config.freeValue s.frees).toNat

/-- Status registers of EVL (R440). -/
def State.viewEvl (s : State) (off l : Nat) : Option Nat :=
  match off with
  | 0x0 => some (((List.range 32).map (fun k => bn ((s.lane k).state != .idle) k)).sum)
  | 0x130 =>
    let x := s.lane l
    some (x.state.code + bn x.late 2 + bn x.rejected 3 + bn x.badArm 4 + bn x.high 5)
  | 0x134 => half false (s.evlNext l)
  | 0x138 => half true (s.evlNext l)
  | _ => none

/-! ## Cores and mailboxes -/

/-- R463: MBX_STAT of an end. -/
def State.mbxStat (s : State) (e : Nat) : Nat :=
  let x := s.chEnd e
  let p := s.chEnd (peerOf e)
  let tx := match x.lastTx with | .ok => 0 | .full => 1 | .aborted => 2
  (8 - p.inq.length) + x.inq.length * 16 + tx * 2 ^ 8 + bn x.under 10 + bn x.up 11 + bn p.up 12 + bn x.ackFrom.isSome 13 +
    e % 2 * 2 ^ 14 + bn (e / 2 == 8) 15 + (endMaster (peerOf e)).ident * 2 ^ 16

/-- R464: MBX_CORE_STAT(c). -/
def State.coreStat (s : State) (c : Nat) : Nat :=
  let k := s.core c
  let win := sTicks * (fld (s.ac Reg.MBX_WDT_CFG) 24 8 * 10)
  let recent := (k.restarts.filter (fun t => decide (s.time.now < t + win))).length
  k.mode.code + bn k.warn 3 + min 15 recent * 2 ^ 8 + k.load * 2 ^ 16

/-- R451: the channels of a master with a pending doorbell. -/
def State.dbSummary (s : State) (m : Master) : Nat :=
  ((endsOf m).map (fun e => bn (s.chEnd e).pend (e / 2))).sum

/-- What a register of channel `c` reads at end `e`. -/
def State.viewEnd (s : State) (off e : Nat) : Option Nat :=
  let x := s.chEnd e
  match off with
  | 0x1008 => some (s.mbxStat e)
  | 0x1010 => some x.db.toNat
  | 0x1014 => some x.dbMask.toNat
  | 0x1018 => some x.ackTimeout
  | 0x101C => some x.ackMask.toNat
  | 0x1020 => some (bn x.ackFrom.isSome)
  | 0x1024 => some x.txFull.toNat
  | 0x1028 => some x.stalls.toNat
  | _ => some 0

/-- Status registers of MBX outside the channels (R460–R464). -/
def State.viewMbx (s : State) (m : Master) (off i : Nat) : Option Nat :=
  match off with
  | 0x0 => some m.ident
  | 0x8 => some (s.dbSummary m)
  | 0x10 => some (s.coreStat i)
  | 0x2100 => some (if 56 ≤ i && !m.secure then 0 else s.sem i)
  | _ => none

/-! ## Start-up, configuration, events and counters -/

/-- R488, R469, R475, R552: status registers of GLB. -/
def State.viewGlb (s : State) (off i : Nat) : Option Nat :=
  let b := s.boot
  let o := s.otp
  let run := if s.cfg.initialDone then s.slotHdr else none
  match off with
  | 0x8 => some (b.stage.code + bn s.serve.serving 4 + bn b.nvReleased 5 + bn s.pf1En 6 + bn b.slotB 7)
  | 0xC => some (bn b.fallback + b.causeFirst.code * 16 + b.causeSecond.code * 256 + min 65535 b.bootMs * 65536)
  | 0x14 => some ((run.map (·.seq)).getD 0)
  | 0x18 => some ((run.map (fun h => h.secVer % 64 + h.keyIdx % 64 * 256)).getD 0)
  | 0x20 => some ((run.map (fun h => (h.recipeId.getD i 0).toNat)).getD 0)
  | 0x30 => some (((List.range 4).map (fun k => bn (o.hashes.getD k none).isSome k)).sum + o.revoked % 16 * 16 +
      o.secVerMin % 64 * 2 ^ 8 + o.efeskMin % 64 * 2 ^ 16 + bn o.fuse.isSome 31)
  | 0x40 => some (bn (s.vbat.supplied && s.vbat.closed) + bn s.serve.openPending 1 + bn (s.vbat.supplied && s.vbat.vbatOk) 2 +
      bn s.serve.cascDrv 3 + bn s.serve.openForced 4)
  | 0x44 => s.openWord 17
  | _ => none

/-- R489: status registers of CFG. -/
def State.viewCfg (s : State) (off : Nat) : Option Nat :=
  match off with
  | 0x8 => some ((s.rd Reg.CFG_STAT &&& 0x1F0).toNat + bn s.nowPending + bn (s.slot 36).armed 1 + bn s.cfg.retiring.isSome 2 +
      bn s.cfg.locked 3)
  | 0xC => some s.cfg.gen
  | _ => none

/-- Status registers of EVT (R492, R516). -/
def State.viewEvt (s : State) (off : Nat) : Option Nat :=
  match off with
  | 0x80 => some (((List.range 4).map (fun k => bn (s.intPend k) k)).sum + bn s.evt.alarm 4)
  | 0x84 => some (((List.range 32).map (fun v => bn (s.vecPend v) v)).sum)
  | 0x108 => some s.fltCause.toNat
  | _ => none

/-- Registers of CNT (R501–R503, R522, R523). -/
def State.viewCnt (s : State) (off i : Nat) : Option Nat :=
  let c := s.cnt i
  match off with
  | 0x100 => some c.sel.toNat
  | 0x104 => some c.thresh
  | 0x108 => half false c.limit
  | 0x10C => half true c.limit
  | 0x110 => half false c.val
  | 0x118 => some (bn c.ovf + bn c.hit 1 + bn c.carryLost 2 + bn c.stopped 3)
  | 0x1000 => half false c.snap
  | 0x1004 => half true c.snap
  | _ => none

/-! ## Reading a register -/

/-- What a status register shows master `m`, by its block's base, its row's offset, the instance of the block and its
indices; none where the register file holds it. -/
def State.status (s : State) (m : Master) (base off n i j : Nat) : Option Nat :=
  match base with
  | 0x0000000 => s.viewGlb off i
  | 0x0010000 => s.viewCfg off
  | 0x0020000 => s.viewEvt off
  | 0x0030000 => s.viewCnt off i
  | 0x0040000 => s.viewMbx m off i
  | 0x0100000 => s.viewTsc m off i
  | 0x0200000 => s.viewRef off i
  | 0x0300000 => s.viewClk off i
  | 0x0400000 => s.viewGns m off i
  | 0x0500000 => s.viewTim off i j
  | 0x0580000 => s.viewEvl off i
  | 0x0600000 => s.viewPrt off n i
  | 0x0800000 => s.viewCls off i
  | 0x0900000 => s.viewCel off n
  | 0x0B00000 => s.viewDep off n
  | 0x0C00000 => s.viewSrv off i
  | 0x1000000 => s.viewKey m off i
  | 0x1100000 => s.viewPke m off n
  | 0x2000000 => s.viewClt off i
  | _ => none

/-- Whether a read of the register draws a value that the manual leaves open. -/
def State.readsOpen (s : State) (base off i : Nat) : Bool :=
  (base == 0 && off == 0x44) || (base == 0x400000 && (off == 0x20 || (off == 0xAC && s.gns.survey.isSome))) ||
    (base == 0x580000 && (off == 0x134 || off == 0x138) && (s.lane i).state != .armed && (s.lane i).state != .running)

end Sys2Proof.Machine
end

