-- ==== Sys2Proof/Machine/Bus.lean ====
section
/-!
DEFINITION. The values that a register refuses: the ranges of its fields and the rules that tie fields of several registers together,
judged against the shadow values of the others (R9, R55, R57, R91, R136, R224, R298, R363, R404, R424, R518, R554).
-/

namespace Sys2Proof.Machine

/-- The written value satisfies one range. -/
def FieldCheck.ok (v : Word) : FieldCheck → Bool
  | .within lo w least most => decide (least ≤ fld v lo w) && decide (fld v lo w ≤ most)
  | .signedIn lo w least most => decide (least ≤ sfld v lo w) && decide (sfld v lo w ≤ most)
  | .oneOf lo w vals => vals.contains (fld v lo w)

/-- A quotient `num` ÷ `den` that does not lie in `least`–`most`. -/
def ratioBad (num den least most : Nat) : Bool := den == 0 || decide (num < least * den) || decide (most * den < num)

/-- A number that does not lie in `least`–`most`. -/
def outside (least most n : Nat) : Bool := decide (n < least) || decide (most < n)

/-- A signed number that does not lie in `least`–`most`. -/
def outsideI (least most n : Int) : Bool := decide (n < least) || decide (most < n)

/-- R57: a lane map that does not serve a mode: the entries of the lanes the mode uses name lanes of the group, each once. -/
def laneMapBad (mode : Nat) (map : Word) : Bool :=
  let used := (List.range (modeLanes mode)).map (fun i => fld map (3 * i) 3)
  used.any (fun l => decide ((if mode = 7 then 8 else 4) ≤ l)) || used.eraseDups.length != used.length

/-- R55: a value that PRT_MODE(n) refuses. -/
def State.prtModeBad (s : State) (n : Nat) (v : Word) : Bool :=
  let mode := fld v 0 4
  !(modeFecs mode).contains (fld v 4 3) || (mode == 7 && n % 4 != 0) || laneMapBad mode (s.sh (Reg.PRT_LANE_MAP n))

/-- R224: a transport or a domain that a profile does not allow. -/
def profileBad (profile transport domain : Nat) : Bool :=
  match profile with
  | 1 => outside 0 127 domain
  | 2 => transport != 0 || outside 24 43 domain
  | 3 => transport == 0 || outside 44 63 domain
  | _ => false

/-- R240: message rates outside their ranges; they count on profile 1 only. -/
def prateBad (profile : Nat) (v : Word) : Bool :=
  profile == 1 && (outsideI (-7) 1 (sfld v 0 8) || outsideI (-3) 3 (sfld v 8 8) || outsideI (-7) 5 (sfld v 16 8))

/-- R332: the range of CLK_BW(i), in units of 0.1 mHz. -/
def bwBad (i n : Nat) : Bool :=
  match i with
  | 0 => outside 1 100 n
  | 1 => outside 1 100 n
  | 3 => outside 1 1000 n
  | _ => outside 10 100000 n

/-- R497, R498, R522: a value that CNT_SEL(n) refuses. -/
def cntSelBad (n : Nat) (v : Word) : Bool :=
  let src := fld v 0 8
  let listed := match fld v 8 3 with
    | 2 => decide (src ≤ 0x17) || (decide (0x20 ≤ src) && decide (src ≤ 0x22))
    | 3 => decide (src ≤ 0x3A)
    | c => decide (c ≤ 5)
  !listed || fld v 13 2 == 3 || (bitAt v 12 && n % 2 == 0)

/-- R378, R404: a value that GNS_CORR refuses. -/
def gnsCorrBad (v : Word) : Bool :=
  let dn := fld v 0 6
  let dw := fld v 8 6
  let dv := fld v 16 7
  dn == 0 || decide (dw ≤ dn) || decide (dv ≤ dw) || decide (96 < dv) || fld v 24 2 == 3 ||
    (fld v 24 2 == 2 && dw != 2 * dn)

/-- R352: OUT_OFS outside its range, or with the longest frame at OUT_BAUD beyond 990 ms. -/
def todCfgBad (v : Word) : Bool :=
  let ofs := fld v 12 10
  let baud := baudOf (fld v 4 3)
  decide (990 * baud < ofs * baud + (if bitAt v 1 then 320 else 960) * 1000)

/-- R415, R435: a START that TIM_CH_CFG refuses. -/
def timChBad (v : Word) : Bool :=
  let start := fld v 2 6
  (decide (18 ≤ start) && decide (start ≤ 31)) || (fld v 0 2 == 3 && decide (16 ≤ start))

/-- A value that rule `r` refuses for instance `i` of a register; other registers count with their shadow values. -/
def State.ruleBad (s : State) (r : WriteRule) (i : Nat) (v : Word) : Bool :=
  match r with
  | .none => false
  | .apllCfg => bitAt v 0 && fld v 1 2 == 0
  | .apllNum => ratioBad v.toNat (fld (s.sh (Reg.CLK_APLL_DEN i)) 0 16) 10000000 800000000
  | .apllDen => ratioBad (s.sh (Reg.CLK_APLL_NUM i)).toNat (fld v 0 16) 10000000 800000000
  | .dpllNum => ratioBad v.toNat (fld (s.sh (Reg.CLK_DPLL_DEN i)) 0 16) 1000000 1000000000
  | .dpllDen => ratioBad (s.sh (Reg.CLK_DPLL_NUM i)).toNat (fld v 0 16) 1000000 1000000000
  | .refFreqNum => decide (i < 8) && ratioBad (fld v 0 30) (fld (s.sh (Reg.REF_FREQ_DEN i)) 0 16) 1000 1000000000
  | .refFreqDen => decide (i < 8) && ratioBad (fld (s.sh (Reg.REF_FREQ_NUM i)) 0 30) (fld v 0 16) 1000 1000000000
  | .base64 => fld v 0 6 != 0
  | .cfgCtrl => fld v 1 2 == 3
  | .clCfg => (bitAt v 0 && fld v 4 2 == 0) || profileBad (fld v 4 2) (fld v 6 2) (fld v 8 8)
  | .clkBw => bwBad i (fld v 0 17)
  | .cntSel => cntSelBad i v
  | .gnsCorr => gnsCorrBad v
  | .gnsCtrl => fld v 5 2 == 3 || !bitAt v (2 + fld v 5 2)
  | .gnsSurvey => outside (fld v 0 12) 1440 (fld v 16 12)
  | .holdG => decide (65536 < fld v 0 12 + fld (s.sh Reg.CLK_HOLD_W) 0 17)
  | .holdW => decide (65536 < fld v 0 17 + fld (s.sh Reg.CLK_HOLD_G) 0 12)
  | .outclkCfg => fld v 1 3 == 0 && decide (fld (s.sh (Reg.CLK_OUTCLK_DIV i)) 0 24 < 2)
  | .outclkDiv => fld (s.sh (Reg.CLK_OUTCLK_CFG i)) 1 3 == 0 && decide (fld v 0 24 < 2)
  | .prtLaneMap => laneMapBad (fld (s.sh (Reg.PRT_MODE i)) 0 4) v
  | .prtMode => s.prtModeBad i v
  | .ptpPcfg => profileBad (fld v 0 2) (fld v 2 2) (fld v 8 8)
  | .ptpPrate => prateBad (fld (s.sh (Reg.SRV_PTP_PCFG i)) 0 2) v
  | .ucSpace => fld v 0 16 != 0 &&
      decide (fld v 0 16 < autoSpace (fld (s.sh (Reg.PRT_MODE i)) 0 4) (bitAt (s.sh (Reg.SRV_PTP_PCFG i)) 6))
  | .refCfg => decide (i < 8) && (fld v 1 2 == 0 || fld v 1 2 == 3)
  | .refLimits => decide (fld v 0 16 ≤ fld v 16 16)
  | .ringSize => !([64, 128, 256, 512, 1024, 2048, 4096].contains (fld v 0 13))
  | .rtKey => fld v 0 8 == fld v 8 8 || fld v 0 8 == fld v 16 8 || fld v 8 8 == fld v 16 8
  | .steerCtrl => bitAt v 0 && s.sh Reg.CLK_STEER_GAIN == 0
  | .steerGain => v == 0 && bitAt (s.sh Reg.CLK_STEER_CTRL) 0
  | .timCh => timChBad v
  | .todCfg => todCfgBad v
  | .ucDur => outside 10 1000 (fld v 0 16) || outside (fld v 0 16) 1000 (fld v 16 16)

/-- The number that a register's rule counts by: the register's index, or the instance of a port's or cluster's block. -/
def ruleIdx (inst : Nat) (idx : List Nat) : Nat := idx.headD inst

/-- A value that the register's own table or rules refuse. -/
def State.valueBad (s : State) (row : RegRow) (inst : Nat) (idx : List Nat) (v : Word) : Bool :=
  !row.checks.all (FieldCheck.ok v) || s.ruleBad row.custom (ruleIdx inst idx) v

/-- The event of a refused write: EV100 with its port for a PRT block (R91), EV186 for the PTP registers of SRV (R224), the block's
own otherwise. -/
def State.writeRefused (s : State) (blk : Block) (row : RegRow) (inst : Nat) : State :=
  if blk.base = 0x0600000 then s.portEvt inst 4
  else if blk.base = 0x0C00000 && decide (0x800 ≤ row.off) then s.raise 186
  else if blk.base = 0x0C00000 && row.off = 0 then s.ruleRefused
  else s.raise blk.refusedEv

/-- R298: the RWS bits of a register at an index: MODE of REF_CFG(m) does not exist for monitors 8–12. -/
def RegRow.rwsAt (row : RegRow) (i : Nat) : Word :=
  BitVec.ofNat 32 row.rws &&& (if row.custom = .refCfg && decide (8 ≤ i) then ~~~ fldMask 1 2 else 0xFFFFFFFF)

/-- R295, R436, R440: the W1C bits that the engines, the TIM channels and the lanes hold. -/
def State.clearStat (s : State) (base off inst i : Nat) (v : Word) : State :=
  if base = 0x1100000 && off = 0x4 then s.updEng inst (fun e => { e with abortMiss := e.abortMiss && !bitAt v 7 })
  else if base = 0x0500000 && off = 0x424 then s.updTimCh i (fun c => { c with
    late := c.late && !bitAt v 8, rejected := c.rejected && !bitAt v 9, badArm := c.badArm && !bitAt v 10 })
  else if base = 0x0580000 && off = 0x130 then s.updLane i (fun x => { x with
    late := x.late && !bitAt v 2, rejected := x.rejected && !bitAt v 3, badArm := x.badArm && !bitAt v 4 })
  else s

/-- R9, R485: an accepted write of an ordinary register: RWS bits to the shadow set, unless the configuration is locked; RW bits to
the register; W1C bits that are written 1 clear. `a` is the register's address. -/
def State.putReg (s : State) (m : Master) (blk : Block) (row : RegRow) (inst : Nat) (idx : List Nat) (a : Nat) (v : Word) : State :=
  if row.rws != 0 && s.cfg.locked then s.lockRefused
  else if s.valueBad row inst idx v then s.writeRefused blk row inst
  else
    let k := if row.banked then bankKey m a else a
    let s := if row.rws = 0 then s else s.wrSh a (v &&& row.rwsAt (ruleIdx inst idx))
    let w := BitVec.ofNat 32 row.rw
    let s := if row.rw = 0 then s else s.wr k ((s.rd k &&& ~~~ w) ||| (v &&& w))
    if row.w1c = 0 then s else (s.clrBits k (v &&& BitVec.ofNat 32 row.w1c)).clearStat blk.base row.off inst (idx.headD 0) v

end Sys2Proof.Machine
end

