-- ==== Sys2Proof/Machine/BootOps.lean ====
section
/-!
DEFINITION. Resets of the core domain, the start of start-up, the failure of a slot and the fuse operations (R465–R478,
R529–R536).
-/

namespace Sys2Proof.Machine

/-- R529: core power-good with RESET_N high: the core domain is out of reset. -/
def State.coreUp (s : State) : Bool := s.boot.powerGood && s.boot.resetN

/-- R529, R536: the reset of the core domain: everything but the backup domain, OTP, the pins and the model's own fields returns to its
reset value; the bypass switch closes and the CASC_OUT driver turns off. Ticks count from here. -/
def State.coreDomainReset (s : State) : State :=
  { ({} : State) with
    vbat := { s.vbat with closed := s.vbat.supplied }
    otp := { s.otp with fuse := none }
    boot := { powerGood := s.boot.powerGood, resetN := s.boot.resetN, oscFsel := s.boot.oscFsel }
    serve := { cascLowSince := s.serve.cascLowSince.map (fun _ => 0) }
    draws := s.draws, frees := s.frees, outbox := s.outbox, pending := s.pending }

/-- R465, R530: t₀, at which the straps are sampled, if the core domain is out of reset. -/
def State.bootBegin (s : State) (fsel : Nat) : State :=
  if s.coreUp then { s with boot := { s.boot with stage := .rom, oscFsel := fsel, t0 := s.time.now } } else s

/-- R478: GLB_CMD.RELOAD: the core domain is reset and start-up runs from ROM, as at RESET_N. -/
def State.reload (s : State) : State := if s.coreUp then s.coreDomainReset.bootBegin s.boot.oscFsel else s

/-- R469: start-up ends without a recipe. -/
def State.noRecipe (s : State) : State :=
  ({ s with boot := { s.boot with stage := .noRecipe, verified := false } } : State).alarmSync

/-- R469: a register that a slot's CONFIG records may have changed. -/
def loadedReg (a : Nat) : Bool :=
  match resolve blocks (a % 0x4000000) with
  | .reg row _ _ _ => row.rw != 0
  | _ => true

/-- R469: everything that a failed slot loaded is wiped, the microcode of the engines among it, which go offline (R262); DT and the
leap table keep their values, and what has been raised or counted stands. -/
def State.wipeSlot (s : State) : State :=
  let s := (List.range 8).foldl State.pkeOffline s
  { ({} : State) with
    live := s.live.filter (fun p => !loadedReg p.1)
    time := { s.time with slots := [] }, vbat := s.vbat, otp := s.otp, boot := s.boot, serve := s.serve
    evt := { s.evt with cnts := [], banks := [], snapDue := [] }
    bus := s.bus, clk := s.clk
    srv := { ({} : SrvSt) with views := s.srv.views, leapSetAt := s.srv.leapSetAt, skipped := s.srv.skipped }
    draws := s.draws, frees := s.frees, outbox := s.outbox, pending := s.pending }

/-- R469: the stage from which start-up goes on with the chosen slot: VERIFY once APLL0 has locked. -/
def State.verifyBegin (s : State) : State :=
  if s.boot.apllLocked && s.boot.chosen then { s with boot := { s.boot with stage := .verify } } else s

/-- R469: the chosen slot fails with cause `c`; `rec` is what GLB_BOOT_REC shows. Start-up goes on with the other slot, if it is a candidate
and has not failed, with EV005; APLL0 relocks to its header when OSC_FSEL is 0b111. -/
def State.bootFail (s : State) (c : BootCause) (rec : Nat) : State :=
  let s := s.wr Reg.GLB_BOOT_REC (BitVec.ofNat 32 rec)
  let b := s.boot
  if b.fallback then ({ s with boot := { b with causeSecond := c } } : State).wipeSlot.noRecipe
  else
    let s : State := { s with boot := { b with causeFirst := c } }
    let other := if b.slotB then b.hdrA else b.hdrB
    if other.isNone then ({ s with boot := { s.boot with causeSecond := .header } } : State).wipeSlot.noRecipe
    else
      let s := s.wipeSlot
      let s : State := { s with boot := { s.boot with
        fallback := true, slotB := !b.slotB, verified := false, dirTypes := [], bundles := [], stage := .header
        apllLocked := b.apllLocked && b.oscFsel != 7 } }
      (s.refoutSync.raise 5).verifyBegin

/-! ## Fuses -/

/-- The header of the running recipe (R475). -/
def State.running (s : State) : Option SlotHeader := if s.cfg.initialDone then s.slotHdr else none

/-- R475: a fuse operation of 10 ms starts; while one is in progress no other does. -/
def State.fuseBegin (s : State) (op : FuseOp) : State :=
  if s.otp.fuse.isSome || s.running.isNone then s
  else { s with otp := { s.otp with fuse := some (op, s.time.now + 10 * msTicks) } }

/-- R475: GLB_OTP_CMD.REVOKE, refused for the slot of the running recipe. -/
def State.fuseRevoke (s : State) (key : Nat) : State :=
  match s.running with
  | some h => if h.keyIdx = key then s else s.fuseBegin (.revoke key)
  | none => s

/-- R475: what a fuse operation leaves in OTP. -/
def State.fuseBlow (s : State) (op : FuseOp) : State :=
  let o := { s.otp with fuse := none }
  match op with
  | .raiseSecVer => { s with otp := { o with secVerMin := max o.secVerMin ((s.running.map (·.secVer)).getD 0) } }
  | .revoke k => { s with otp := { o with revoked := o.revoked ||| 2 ^ k } }

/-- OTP_RAISE_SEC_VER (R475): KC or PF1 writes GLB_OTP_CMD.RAISE_SEC_VER, and a fuse operation starts; from another master EV192. -/
def execOtpRaiseSecVer (m : Master) (s : State) : Res := .next (if m.secure then s.fuseBegin .raiseSecVer else s.raise 192)

/-- OTP_REVOKE (R475): KC or PF1 writes GLB_OTP_CMD.REVOKE with KEY; from another master EV192. -/
def execOtpRevoke (m : Master) (key : Fin 4) (s : State) : Res := .next (if m.secure then s.fuseRevoke key.val else s.raise 192)

/-- OTP_FUSE_DONE (R475): the fuse operation in progress completes after its 10 ms. -/
def execOtpFuseDone (s : State) : Res :=
  match s.otp.fuse with
  | none => .next s
  | some (op, t) => .next ((s.advTo t).fuseBlow op)

/-- RELOAD (R478): KC or PF1 writes GLB_CMD.RELOAD; from another master EV192. -/
def execReload (m : Master) (s : State) : Res := .next (if m.secure then s.reload else s.raise 192)

end Sys2Proof.Machine
end

