-- ==== Sys2Proof/Machine/BusRows.lean ====
section
/-!
DEFINITION. Accesses over the bus: which are performed (R8, R11, R12, R467), what each register does when it is written or read
(R9), and the two rows for them.
-/

namespace Sys2Proof.Machine

/-- The state that a meaning answers, or the one before it. -/
def Res.stateOr (r : Res) (s : State) : State :=
  match r with
  | .next t => t
  | .fault _ => s
  | .refused _ => s

/-- An index below `n + 1`, held to its range. -/
def fin (n i : Nat) : Fin (n + 1) := Fin.ofNat (n + 1) i

/-! ## Secure resources -/

/-- R12, R495, R294: a write of the register at its index by a non-secure master is refused with EV192; `held` is what the register
holds. An EVT_ROUTE value that names vectors 24–31 is a secure resource: it can neither be written nor be overwritten. -/
def secureWrite (blk : Block) (row : RegRow) (i : Nat) (held v : Word) : Bool :=
  row.secure ||
    (match row.special with
      | .evtMask | .evtStat => i == 6
      | .evtRoute => i / 32 == 6 || decide (24 ≤ fld v 0 5) || decide (24 ≤ fld held 0 5)
      | .mbxSem => decide (56 ≤ i)
      | .mbxSemForce => true
      | _ => blk.base == 0x0100000 && decide (0x1000 ≤ row.off) && decide (240 ≤ i))

/-- R12, R495: a read of the register at its index, which holds `held`, by a non-secure master is refused with EV192. The registers that the manual gives as
written by KC and PF1 only can be read (R475, R478, R464). -/
def secureRead (blk : Block) (row : RegRow) (i : Nat) (held : Word) : Bool :=
  match row.special with
  | .evtMask => i == 6
  | .evtRoute => i / 32 == 6 || decide (24 ≤ fld held 0 5)
  | .mbxSem => decide (56 ≤ i)
  | .mbxSemForce | .evtForce => true
  | _ => (blk.base == 0x1000000 && row.secure) ||
    (blk.base == 0x0100000 && decide (0x1000 ≤ row.off) && decide (240 ≤ i))

/-! ## Writes that act -/

/-- R447: a write of a channel register by a master, at its own end. -/
def State.chanWrite (s : State) (c : Nat) (m : Master) (f : State → Nat → State) : State :=
  match s.chanAccess c m with
  | .error s => s
  | .ok e => f s e

/-- Writes of the channel registers and of the other MBX registers that act (R446–R462). -/
def State.writeMbx (s : State) (m : Master) (sp : Special) (i : Nat) (v : Word) : State :=
  match sp with
  | .mbxCmd =>
    let s := if bitAt v 0 then (execMbxEpReset m s).stateOr s else s
    if bitAt v 1 then (execMbxOpen m s).stateOr s else s
  | .mbxTx => s.chanWrite i m (fun s e => s.send e v)
  | .mbxDbRing => s.chanWrite i m (fun s e => s.ring e v)
  | .mbxDb => s.chanWrite i m (fun s e => s.updChEnd e (fun x => { x with db := x.db &&& ~~~ v }))
  | .mbxDbMask => s.chanWrite i m (fun s e => s.updDb e (fun x => { x with dbMask := v }))
  | .mbxAckCfg => s.chanWrite i m (fun s e => s.updChEnd e (fun x => { x with ackTimeout := fld v 0 16 }))
  | .mbxAckMask => s.chanWrite i m (fun s e => s.updChEnd e (fun x => { x with ackMask := v &&& fldMask 0 30 }))
  | .mbxAckWait => s.chanWrite i m (fun s e =>
      let s := if bitAt v 0 then s.updChEnd e (fun x => { x with ackFrom := some s.time.now }) else s
      if bitAt v 1 then s.updChEnd e (fun x => { x with ackFrom := none }) else s)
  | .mbxSem => (execSemRelease (fin 63 i) m s).stateOr s
  | .mbxSemForce => (execSemForce (fin 63 (fld v 0 6)) m s).stateOr s
  | _ => s.chanWrite i m (fun s _ => s)

/-- R491, R518: a write of a core's event view, by that core only. -/
def State.coreView (s : State) (m : Master) (a : Nat) (f : Word → Word) : State :=
  if m.isCore then s.wr (bankKey m a) (f (s.rd (bankKey m a))) else s.raise 24

/-- Writes of the EVT registers that act (R490–R496). -/
def State.writeEvt (s : State) (m : Master) (sp : Special) (i a : Nat) (v : Word) : State :=
  match sp with
  | .evtStat => (execEvtStatClear m (fin 7 i) v s).stateOr s
  | .evtMask => (execEvtMaskWrite m (fin 7 i) v s).stateOr s
  | .coreEn => s.coreView m a (fun _ => v)
  | .coreStat => s.coreView m a (fun o => o &&& ~~~ v)
  | .evtForce => (execEvtForce m (fin 255 (fld v 0 8)) s).stateOr s
  | _ =>
    let t := s.wr a (v &&& 0x7FF)
    (State.deliver s t t.vecsRouted).alarmSync

/-- Writes of the CNT registers that act (R497–R503, R522, R523). -/
def State.writeCnt (s : State) (m : Master) (sp : Special) (i : Nat) (v : Word) : State :=
  let c := s.cnt i
  match sp with
  | .cntCmd =>
    let s := if bitAt v 0 then (execCntSnap s).stateOr s else s
    if bitAt v 1 then (execCntClearAll s).stateOr s else s
  | .cntSel => if cntSelBad i v then s.raise 245 else s.setCnt i { c with sel := v &&& 0x1FFFF }
  | .cntThresh => s.setCnt i { c with thresh := fld v 0 13 }
  | .cntLimLo => s.setCnt i { c with limit := c.limit / 2 ^ 32 * 2 ^ 32 + v.toNat }
  | .cntLimHi => s.setCnt i { c with limit := fld v 0 16 * 2 ^ 32 + c.limit % 2 ^ 32 }
  | .cntLo => (execCntLoWrite m (fin 63 i) v s).stateOr s
  | .cntHi => (execCntHiWrite m (fin 63 i) v s).stateOr s
  | .cntStat => s.setCnt i { c with
      ovf := c.ovf && !bitAt v 0, hit := c.hit && !bitAt v 1, carryLost := c.carryLost && !bitAt v 2 }
  | _ => s

/-- Writes of the TSC registers that act (R28–R32, R49–R52). -/
def State.writeTsc (s : State) (m : Master) (sp : Special) (i a : Nat) (v : Word) : State :=
  match sp with
  | .leapHostCmd =>
    match fld v 0 2 with
    | 1 => s.leapHost false
    | 2 => s.leapHost true
    | 3 => s.leapCancel
    | _ => s
  | .fireMap => s.clrBits a (if i = 7 && !m.secure then v &&& 0xFFFF else v)
  | .csStage => match s.slotAccess m i with
    | .error s => s
    | .ok () => s.wr a v
  | .csCtrl => (s.advTo (s.cclkAfter 0)).slotCtrl m i v
  | .csStat => s.clrBits a (v &&& 0x1F)
  | _ => s

/-- R294, R12: a WK write stages a key word in the writer's bank, or is refused with EV193. -/
def State.keyStage (s : State) (ptp : Bool) (m : Master) (i : Nat) (v : Word) : State :=
  if s.keyPermit ptp m then s.updKeyBank ptp m.bank (fun b => { b with staged := tset (fun _ => 0) b.staged i v })
  else s.raise 193

/-- Writes of the KEY and PKE registers that act (R181, R247, R278, R284, R287, R289). -/
def State.writeKey (s : State) (m : Master) (sp : Special) (inst i : Nat) (v : Word) : State :=
  match sp with
  | .symCmd => s.keyCmd false m (bitAt v 0) (bitAt v 1) (bitAt v 2)
  | .ptpCmd => s.keyCmd true m (bitAt v 0) (bitAt v 1) (bitAt v 2)
  | .symKey => s.keyStage false m i v
  | .ptpKey => s.keyStage true m i v
  | .slotCmd =>
    let s := if bitAt v 0 then (execKeySlotReadAttr m s).stateOr s else s
    let s := if bitAt v 1 then (execKeySlotDelete m s).stateOr s else s
    if bitAt v 2 then (execKeySlotReadPub m s).stateOr s else s
  | .pkeJobW => if m.core.isSome then s.wr (bankKey m (Reg.PKE_JOB_W inst i)) v else s.raise 192
  | .pkeGo => if bitAt v 0 || m.core.isNone then (execPkeJobGo (fin 7 inst) m s).stateOr s else s
  | .pkeAbort =>
    let (begun, s) := s.outBegun inst
    (execPkeAbort (fin 7 inst) m (fin 255 (fld v 0 8)) (fin 63 (fld v 8 6)) begun s).stateOr s
  | _ => s

/-- R80: the buffers that a write of PRT_HRX_PROD posts lie in host memory, whose contents the write does not show: open values. -/
def State.openBufs (s : State) : Nat → List (Nat × Nat) × State
  | 0 => ([], s)
  | k + 1 =>
    let (a, s) := s.free
    let (n, s) := s.free
    let (l, s) := s.openBufs k
    ((a.toNat, n.toNat % 65536) :: l, s)

/-- R80: a write of PRT_HRX_PROD(n). -/
def State.hrxWrite (s : State) (n idx : Nat) : State :=
  let size := s.ringSize (Reg.PRT_HRX_SIZE n)
  if idx < size then
    let (l, s) := s.openBufs ((idx + size - (s.rd (Reg.PRT_HRX_PROD n)).toNat % size) % size)
    s.hrxPost n idx l
  else s.portEvt n 4

/-- Writes of the PRT registers that act (R65, R66, R80, R86). -/
def State.writePrt (s : State) (m : Master) (blk : Block) (row : RegRow) (n : Nat) (a : Nat) (v : Word) : State :=
  match row.special with
  | .prtCtrl =>
    let s := s.putReg m blk row n [] a v
    if bitAt v 2 then (execCalRetry (fin 7 n) s).stateOr s else s
  | .htxProd => (execHostTxProduce (fin 7 n) (fin 4095 (fld v 0 12)) s).stateOr s
  | .hrxProd => s.hrxWrite n (fld v 0 12)
  | .asymRx | .asymTx | .depTol =>
    if s.valueBad row n [] v then s.writeRefused blk row n
    else
      let w := v &&& BitVec.ofNat 32 row.rw
      { s.wr a w with rwl := s.rwl ++ [⟨a, w, s.cclkAfter 8⟩] }
  | _ => s

/-- Writes of the other registers that act. With several command bits set, each acts in the order of the bits, and a DISARM last. -/
def State.writeOther (s : State) (m : Master) (sp : Special) (i : Nat) (v : Word) : State :=
  match sp with
  | .cfgCmd => s.cfgCmd v
  | .glbCmd => if bitAt v 0 then s.reload else s
  | .otpCmd =>
    let s := if bitAt v 0 then s.fuseBegin .raiseSecVer else s
    if bitAt v 1 then s.fuseRevoke (fld v 4 2) else s
  | .refCmd => if fld v 0 13 = 0 then s else s.clearWtr m (fld v 0 13)
  | .dpll0Cmd => if bitAt v 0 then s.stepCmd m else s
  | .histIdx => (s.wr Reg.CLK_HIST_IDX (v &&& 0xFFFF)).histRead (fld v 0 16)
  | .gnsCmd =>
    if fld v 0 2 = 0 then s
    else s.gnssCmd m (fun s =>
      let s := if bitAt v 0 then s.surveyStart else s
      if bitAt v 1 then s.gnssCold else s)
  | .chCmd => if bitAt v 0 then s.chRead else s
  | .timCmd => if bitAt v 0 then s.timCal else s
  | .timChCmd =>
    let k := fin 7 i
    let s := if bitAt v 0 then (execTimArm k s).stateOr s else s
    let s := if bitAt v 2 then (execTimArmAt k s).stateOr s else s
    if bitAt v 1 then (execTimDisarm k s).stateOr s else s
  | .evlArmAll => (execEvlArmAll v s).stateOr s
  | .evlDisarmAll => (execEvlDisarmAll v s).stateOr s
  | .evlCmd =>
    if bitAt v 1 then (execEvlDisarm (fin 31 i) s).stateOr s
    else if bitAt v 0 then (execEvlArm (fin 31 i) s).stateOr s
    else s
  | .clsReseed => if bitAt v 0 then (execReseedRequest s).stateOr s else s
  | .cltWinCmd => if bitAt v 0 then (execCltWindowRead s).stateOr s else s
  | .cltFlush => if bitAt v 0 then (execCltFlush s).stateOr s else s
  | .ruleCmd => s.ruleCmd (bitAt v 0) (bitAt v 1) (bitAt v 2)
  | .grCmd => if bitAt v 0 then s.grantRead else s
  | _ => s

/-- A write of a register by a master whose access the bus performs. -/
def State.regWrite (s : State) (m : Master) (blk : Block) (row : RegRow) (inst : Nat) (idx : List Nat) (a : Nat) (v : Word) : State :=
  let i := idx.headD 0
  if !m.secure && secureWrite blk row i (s.rd a) v then s.raise 192
  else if row.special = .plain then s.putReg m blk row inst idx a v
  else match blk.base with
    | 0x0020000 => s.writeEvt m row.special i a v
    | 0x0030000 => s.writeCnt m row.special i v
    | 0x0040000 => s.writeMbx m row.special i v
    | 0x0100000 => s.writeTsc m row.special i a v
    | 0x0600000 => s.writePrt m blk row inst a v
    | 0x1000000 => s.writeKey m row.special inst i v
    | 0x1100000 => s.writeKey m row.special inst i v
    | _ => s.writeOther m row.special i v

/-! ## The MSI-X windows -/

/-- R493: the function of a master that sees an MSI-X table, with the number of its entries. -/
def msixOf : Master → Option (Nat × Nat)
  | .pf0 => some (0, 24)
  | .pf1 => some (1, 8)
  | _ => none

/-- R493: an address of the MSI-X table or pending-bit array in EVT. -/
def inMsix (a : Nat) : Bool := decide (0x0028000 ≤ a) && decide (a < 0x002A000)

/-- R493: a write into the window: address and data words of an entry, or its vector mask. -/
def State.msixWrite (s : State) (m : Master) (a : Nat) (v : Word) : State :=
  match msixOf m with
  | none => s
  | some (f, n) =>
    let e := (a - 0x0028000) / 16
    let w := (a - 0x0028000) / 4 % 4
    if !inMsix a || n ≤ e then s
    else if w < 3 then
      { s with evt := { s.evt with msix := tupd msixDef s.evt.msix f (fun x => { x with
          tableW := tset (fun _ => 0) x.tableW (4 * e + w) v }) } }
    else s.msixUpdate (f == 1) (fun x => { x with
      masked := x.masked - bn (x.masked.testBit e) e + bn (bitAt v 0) e })

/-- R493: a read of the window. -/
def State.msixRead (s : State) (m : Master) (a : Nat) : Word :=
  match msixOf m with
  | none => 0
  | some (f, n) =>
    let x := tget msixDef s.evt.msix f
    let e := (a - 0x0028000) / 16
    if !inMsix a then 0
    else if a = 0x0029000 then BitVec.ofNat 32 (x.pending % 2 ^ n)
    else if n ≤ e then 0
    else if (a - 0x0028000) / 4 % 4 = 3 then BitVec.ofNat 32 (bn (x.masked.testBit e))
    else tget (fun _ => 0) x.tableW (4 * e + (a - 0x0028000) / 4 % 4)

/-! ## Reads -/

/-- What a read that a meaning answers returned. -/
def Res.word (r : Res) (s : State) : Word × State :=
  let t := r.stateOr s
  (t.bus.data.headD 0, t)

/-- R9, R481: what a register holds for a master: a status, or its word with the shadow or active value of its RWS bits. -/
def State.regValue (s : State) (m : Master) (blk : Block) (row : RegRow) (inst : Nat) (idx : List Nat) (a : Nat) : Word :=
  match s.status m blk.base row.off inst (idx.headD 0) ((idx.drop 1).headD 0) with
  | some n => BitVec.ofNat 32 n
  | none =>
    let k := if row.banked then bankKey m a else a
    let cfg := if row.rws = 0 then 0 else if bitAt (s.rd (bankKey m Reg.CFG_VIEW)) 0 then s.ac a else s.sh a
    s.rd k ||| cfg

/-- R9: an ordinary read: the value, which an RC register then clears; a read of an open value draws the next one. -/
def State.getReg (s : State) (m : Master) (blk : Block) (row : RegRow) (inst : Nat) (idx : List Nat) (a : Nat) : Word × State :=
  let v := s.regValue m blk row inst idx a
  let opens := s.readsOpen blk.base row.off (idx.headD 0)
  let s := if row.rc then s.wr a 0 else s
  (v, if opens then s.free.2 else s)

/-- R447: a read of a channel register at the reader's own end. -/
def State.chanRead (s : State) (c : Nat) (m : Master) (off : Nat) : Word × State :=
  match s.chanAccess c m with
  | .error s => (0, s)
  | .ok e =>
    let v := BitVec.ofNat 32 ((s.viewEnd off e).getD 0)
    (v, match off with
      | 0x1024 => s.updChEnd e (fun x => { x with txFull := 0 })
      | 0x1028 => s.updChEnd e (fun x => { x with stalls := 0 })
      | _ => s)

/-- A read of a register by a master whose access the bus performs. -/
def State.regRead (s : State) (m : Master) (blk : Block) (row : RegRow) (inst : Nat) (idx : List Nat) (a : Nat) : Word × State :=
  let i := idx.headD 0
  if !m.secure && secureRead blk row i (s.rd a) then (0, s.raise 192)
  else match row.special with
    | .mbxRx => (execMbxRx (fin 18 i) m s).word s
    | .mbxSem => (execSemAcquire (fin 63 i) m s).word s
    | .mbxTx | .mbxNone | .mbxDbRing | .mbxDb | .mbxDbMask | .mbxAckCfg | .mbxAckMask | .mbxAckWait => s.chanRead i m row.off
    | .tsqPop => (execTsqPop (fin 7 inst) s).word s
    | .timResPop => (execTimResPop (fin 7 i) s).word s
    | .cplPop => (execPkeCplPop (fin 7 inst) m s).word s
    | .tmsgHdr => (execTmsgCapture m s).word s
    | .dtCapture => (execDtCapture m (row.off == 0x10) false s).word s
    | .cntLo => (execCntLoRead m (fin 63 i) false s).word s
    | .cntHi => (s.cntHi m i, s)
    | .coreEn | .coreStat => (if m.isCore then s.rd (bankKey m a) else 0, s)
    | .fireMap => (if i = 7 && !m.secure then s.rd a &&& 0xFFFF else s.rd a, s)
    | .csStat => (s.rd a, s.clrBits a (fldMask 16 16))
    | _ => s.getReg m blk row inst idx a

/-! ## The bus -/

/-- R8, R11, R479: a 32-bit write at an address of BAR0. -/
def State.writeWord (s : State) (m : Master) (a : Nat) (v : Word) : State :=
  match resolve blocks a with
  | .unmapped => s.raise 0
  | .hole => s.msixWrite m a v
  | .reg row blk inst idx => s.regWrite m blk row inst idx a v

/-- R8, R11, R479: a 32-bit read at an address of BAR0. -/
def State.readWord (s : State) (m : Master) (a : Nat) : Word × State :=
  match resolve blocks a with
  | .unmapped => (0, s.raise 0)
  | .hole => (s.msixRead m a, s)
  | .reg row blk inst idx => s.regRead m blk row inst idx a

/-- R467: an access that the TE-9 does not pass to its blocks: PF1 until a verified recipe enables it; PF0 and SPI management outside GLB
until the initial commit, with EV000. -/
def State.gateShut (s : State) (m : Master) (a : Nat) : Bool :=
  match m with
  | .pf1 => !s.pf1En
  | .pf0 | .spi => decide (0x10000 ≤ a) && !s.cfg.initialDone
  | _ => false

/-- R467: the answer to such an access: Unsupported Request to a PCIe function, zeros over SPI. -/
def State.gateAnswer (s : State) (m : Master) (words : Nat) : State :=
  let s := if m = .pf1 then s else s.raise 0
  { s with bus := { data := if m = .spi then List.replicate words 0 else [], unsupported := m != .spi } }

/-- R8: an access of a width and alignment that the TE-9 performs. -/
def accessOk (a width : Nat) : Bool := (width == 32 && a % 4 == 0) || (width == 64 && a % 8 == 0)

/-- R8: the byte enables of a write are all set. -/
def enablesOk (width : Nat) (be : BitVec 8) : Bool := be.toNat % 2 ^ (width / 8) == 2 ^ (width / 8) - 1

/-- REGISTER_WRITE (R9): master `m` writes `data` at an offset of BAR0, with a width in bits and byte enables. An access that R8 does not
allow is discarded with EV000; a 64-bit one is two 32-bit writes, lower address first. -/
def execRegisterWrite (m : Master) (addr : BitVec 26) (width : Nat) (be : BitVec 8) (data : BitVec 64) (s : State) : Res :=
  let a := addr.toNat
  .next (if !s.coreUp then s
    else if s.gateShut m a then s.gateAnswer m 0
    else
      let s : State := { s with bus := {} }
      if !accessOk a width || !enablesOk width be then s.raise 0
      else
        let s := s.writeWord m a (data.truncate 32)
        if width = 64 then s.writeWord m (a + 4) (BitVec.ofNat 32 (data.toNat / 2 ^ 32)) else s)

/-- BAD_ACCESS_READ (R11): master `m` reads at an offset of BAR0, with a width in bits. An access that R8 does not allow returns zeros with
EV000, as does one that R467 does not pass; an unmapped or a secure register reads zero with its event; any other read is performed,
a 64-bit one as two 32-bit reads, lower address first. -/
def execBadAccessRead (m : Master) (addr : BitVec 26) (width : Nat) (s : State) : Res :=
  let a := addr.toNat
  .next (if !s.coreUp then s
    else if s.gateShut m a then s.gateAnswer m (ceilDiv width 32)
    else if !accessOk a width then
      { s.raise 0 with bus := { data := List.replicate (ceilDiv width 32) 0, unsupported := false } }
    else
      let (v, s) := s.readWord m a
      if width = 64 then
        let (w, s) := s.readWord m (a + 4)
        { s with bus := { data := [v, w], unsupported := false } }
      else { s with bus := { data := [v], unsupported := false } })

end Sys2Proof.Machine
end

