-- ==== Sys2Proof/Machine/Boot.lean ====
section
/-!
DEFINITION. Power, resets, the stages of start-up, the backup domain and the opening of the cascade bypass (R465–R474,
R529–R536).
-/

namespace Sys2Proof.Machine

/-! ## Power and resets -/

/-- POWER_GOOD (R529): 2 ms after the last core rail has entered its tolerance core power-good is asserted; with RESET_N high this is t₀,
at which the straps read `fsel`. -/
def execPowerGood (fsel : Fin 8) (s : State) : Res :=
  .next (if s.boot.powerGood then s
    else ({ s with boot := { s.boot with powerGood := true } } : State).bootBegin fsel.val)

/-- POWER_FAIL (R529): a core rail has fallen: the core domain is reset and the bypass switch closes. -/
def execPowerFail (s : State) : Res :=
  .next ({ s with boot := { s.boot with powerGood := false } } : State).coreDomainReset

/-- RESET_N_ASSERT (R529): RESET_N is low: the core domain is reset and the bypass switch closes. -/
def execResetNAssert (s : State) : Res :=
  .next ({ s with boot := { s.boot with resetN := false } } : State).coreDomainReset

/-- RESET_N_RELEASE (R465): RESET_N is released; with power-good this is t₀, at which the straps read `fsel`. -/
def execResetNRelease (fsel : Fin 8) (s : State) : Res :=
  .next (if s.boot.resetN then s
    else ({ s with boot := { s.boot with resetN := true } } : State).bootBegin fsel.val)

/-- PERST_N (R529): the PCIe endpoint is reset, with its MSI-X capabilities, and the mailbox ends of both functions as at a link
down (R453). -/
def execPerstN (s : State) : Res :=
  let s : State := { s with evt := { s.evt with msix := [] } }
  .next ((s.masterReset .pf0).masterReset .pf1)

/-! ## The backup domain -/

/-- VBAT_LOW (R532): VBAT falls below 1.9 V: the backup domain loses its contents and its validity bits, and the bypass switch
opens. With core power present VDDIO_T supplies the domain and its counter runs on (R44); that the validity bits fall and the
switch opens then too is R532's last sentence taken as it stands (log entry 77). -/
def execVbatLow (s : State) : Res :=
  let kept : Backup := if s.boot.powerGood then
      { rtcSec := s.vbat.rtcSec, rtcSub := s.vbat.rtcSub, lastAlign := s.vbat.lastAlign } else {}
  let s : State := { s with vbat := { kept with supplied := false, vbatOk := false, closed := false } }
  .next (if s.time.st = .unset then s else s.leapSync.timeStateChange)

/-- VBAT_RESTORE (R532): the backup domain is supplied again: VBAT_OK is set, and the bypass switch conducts unless its opening is done. -/
def execVbatRestore (s : State) : Res :=
  .next (if s.vbat.supplied then s
    else { s with vbat := { s.vbat with supplied := true, vbatOk := true, closed := !s.serve.cascDrv } })

/-! ## Stages of start-up -/

/-- A stage takes `dur` ticks, but no longer than its longest duration (R465). -/
def State.stageTime (s : State) (dur longest : Nat) : State := s.advTo (s.time.now + min dur longest)

/-- APLL0_LOCK (R327): APLL0 locks `dur` ticks on, and one VCO edge releases both dividers, so that a TBCLK and a CCLK edge coincide.
GS_REFOUT runs from the lock (R369). With OSC_FSEL 0b111 it waits for the header. -/
def execApll0Lock (dur : Nat) (s : State) : Res :=
  if !s.coreUp || s.boot.apllLocked || s.boot.stage = .noRecipe || (s.boot.oscFsel = 7 && !s.boot.chosen) then .next s
  else
    let s := s.stageTime dur (2 * msTicks)
    let s := s.advTo (ceilDiv s.time.now 20 * 20)
    .next ({ s with boot := { s.boot with apllLocked := true } } : State).refoutSync.verifyBegin

/-- R468: a slot header that is a candidate for a slot of `size` bytes. -/
def State.candidate (s : State) (size : Nat) (h : SlotHeader) : Bool :=
  h.magic == ofLe (ascii "TE9R") && h.format == 1 && h.hdrLen == 256 && h.totalLen % 256 == 0 && decide (h.totalLen ≤ size) &&
    decide (s.otp.secVerMin ≤ h.secVer) && (s.otp.hashes.getD h.keyIdx none).isSome && !s.otp.revoked.testBit h.keyIdx &&
    decide (h.dirOfs + 16 * h.dirCount ≤ h.totalLen)

/-- R468: the size of a slot in a flash of `flash` bytes: half of it, and at most 128 MiB. -/
def slotSize (flash : Nat) : Nat := min (flash / 2) 0x8000000

/-- HEADER_STAGE (R468): the boot ROM reads SFDP, which gives the flash `flash` bytes, and both slot headers, and chooses the candidate with
the greater SEQ. -/
def execHeaderStage (flash : Nat) (a b : Option SlotHeader) (dur : Nat) (s : State) : Res :=
  if !s.coreUp || s.boot.stage ≠ .rom then .next s
  else
    let s := s.stageTime dur (30 * msTicks)
    let a := a.filter (s.candidate (slotSize flash))
    let b := b.filter (s.candidate (slotSize flash))
    let second := match a, b with
      | some a, some b => decide (a.seq < b.seq)
      | none, some _ => true
      | _, none => false
    if a.isNone && b.isNone then
      .next ({ s with boot := { s.boot with causeFirst := .header, causeSecond := .header } } : State).noRecipe
    else
      .next ({ s with boot := { s.boot with stage := .header, hdrA := a, hdrB := b, chosen := true, slotB := second } } : State).verifyBegin

/-- R45–R47: DT is loaded at a TBCLK edge, once: from the backup counter if it is valid and not below the time floor, else from the
floor. A leap that the loaded DT has reached is applied (R24). -/
def State.dtLoad (s : State) (floor : Nat) : State :=
  let s : State := { s with time := { s.time with floor := floor } }
  if s.boot.dtLoaded then s
  else
    let s := s.advTo s.nextTb
    let b := s.vbat
    let rtc := b.rtcValid && decide (floor ≤ b.rtcSec)
    let dt := if rtc then secUnit * b.rtcSec + b.rtcSub * (secUnit / 32768) else secUnit * floor
    let unc := if !rtc || b.rtcSec < b.lastAlign then 2 ^ 32 - 1 else min (2 ^ 32 - 1) ((b.rtcSec - b.lastAlign) * 100 + 31)
    let s : State := { s with
      time := { s.time with dt := dt, dtPrev := dt, st := if rtc then .rtcSeeded else .floorSeeded }
      boot := { s.boot with dtLoaded := true } }
    let s := (s.wr Reg.TSC_RTC_UNC (BitVec.ofNat 32 unc)).dcoUpdate
    let s := if b.rtcValid then s else s.raise 15
    let s := (List.range 256).foldl (fun s i => s.slotStep 0 true i) s
    match s.vbat.pend with
    | some p => if s.vbat.leapValid && decide (p.at_ ≤ s.sec) then s.leapApply s.nowSt else s.leapSync.leapFrozen
    | none => s

/-- R470: the types of the sections, with the least and the greatest number of each. -/
def sectionCounts : List (Nat × Nat × Nat) :=
  [(0x10, 1, 1), (0x11, 1, 1), (0x12, 1, 1), (0x13, 1, 1), (0x20, 0, 256), (0x30, 0, 1), (0x31, 0, 1), (0x40, 0, 1)]

/-- R470: a section type that the TE-9 knows. -/
def knownSection (t : Nat) : Bool := t == 0x01 || t == 0x21 || sectionCounts.any (fun c => c.1 == t)

/-- R469: entry `i` of a directory lies outside the image, breaks the alignment, or overlaps an earlier one. -/
def layoutBad (total : Nat) (dir : List DirEntry) (i : Nat) : Bool :=
  match dir[i]? with
  | none => false
  | some e =>
    decide (total < e.offset + e.length) || e.offset % 8 != 0 ||
      (dir.take i).any (fun d => decide (d.offset < e.offset + e.length) && decide (e.offset < d.offset + d.length))

/-- R469, R470: why a directory fails, with the index of the entry that GLB_BOOT_REC shows. -/
def dirFault (total : Nat) (dir : List DirEntry) : Option (BootCause × Nat) :=
  let first (f : Nat → Bool) : Option Nat := (List.range dir.length).find? f
  let typeOf (i : Nat) : Nat := (dir[i]?.map (·.type)).getD 0
  let most (t : Nat) : Nat := ((sectionCounts.find? (fun c => c.1 == t)).map (·.2.2)).getD dir.length
  match first (layoutBad total dir) with
  | some i => some (.layout, i)
  | none =>
    match first (fun i => !knownSection (typeOf i) && ((dir[i]?.map (·.critical)).getD false)) with
    | some i => some (.critical, i)
    | none =>
      match first (fun i => decide (most (typeOf i) < ((dir.take (i + 1)).filter (fun e => e.type == typeOf i)).length)) with
      | some i => some (.missing, i)
      | none => if sectionCounts.any (fun c => decide ((dir.filter (fun e => e.type == c.1)).length < c.2.1)) then some (.missing, 0)
        else none

/-- R472: the customer signature is accepted. -/
def State.signatureOk (s : State) (h : SlotHeader) (img : SlotImage) : Bool :=
  img.sigMagic == ofLe (ascii "SIGB") && img.sigOk && s.otp.hashes.getD h.keyIdx none == some img.keyHash

/-- SLOT_VERIFY (R472): the whole slot is read and hashed in `dur` ticks, at most what the slower NV rate takes and 5 ms (R465), and its
signature verified; DT is loaded at that edge (R45), and
the directory is judged (R469). -/
def execSlotVerify (img : SlotImage) (dur : Nat) (s : State) : Res :=
  match s.slotHdr with
  | none => .next s
  | some h =>
    if s.boot.stage ≠ .verify then .next s
    else
      let s := s.stageTime dur (h.totalLen * sTicks / 66500000 + 5 * msTicks)
      if !img.readOk then .next (s.bootFail .nvError 0)
      else if !s.signatureOk h img then .next (s.bootFail .signature 0)
      else
        let s := s.dtLoad h.timeFloor
        match dirFault h.totalLen img.dir with
        | some (c, i) => .next (s.bootFail c (i * 2 ^ 20))
        | none => .next { s with boot := { s.boot with stage := .efesk, verified := true, dirTypes := img.dir.map (·.type) } }

/-- R471: an Efesk bundle is valid. -/
def State.efeskOk (s : State) (b : EfeskBundle) : Bool :=
  b.magic == ofLe (ascii "EFKB") && b.kind + 0xF == b.sectionType && b.sigOk && decide (b.minRev ≤ (s.rd Reg.GLB_REV).toNat) &&
    decide (s.otp.efeskMin ≤ b.secVer)

/-- R469: what GLB_BOOT_REC shows of the `n`-th directory entry of one of the types `ts`. -/
def State.dirRec (s : State) (ts : List Nat) (n : Nat) : Nat :=
  (((s.boot.dirTypes.zipIdx.filter (fun p => ts.contains p.1)).map (·.2)).getD n 0) * 2 ^ 20

/-- EFESK_VERIFY (R471): each Efesk bundle of the slot is verified, 5 ms at most for each. -/
def execEfeskVerify (bundles : List EfeskBundle) (dur : Nat) (s : State) : Res :=
  if s.boot.stage ≠ .efesk then .next s
  else
    let s := s.stageTime dur (5 * msTicks * bundles.length)
    if bundles.all s.efeskOk && [0x10, 0x11, 0x12, 0x13].all (fun t => bundles.any (fun b => b.sectionType == t)) then
      .next { s with boot := { s.boot with stage := .load, bundles := bundles } }
    else
      let bad := ((bundles.find? (fun b => !s.efeskOk b)).map (·.sectionType)).getD 0
      .next (s.bootFail .efesk (s.dirRec [bad] 0))

/-- The Efesk bundle of a section type. -/
def State.bundleOf (s : State) (t : Nat) : Option EfeskBundle := s.boot.bundles.find? (fun b => b.sectionType == t)

/-- LOAD_STAGE (R465): every memory is zero, and the microcode and firmware are copied, with the versions shown and the hash of each image
recorded; `server` and `cert` are what the NTS_SERVER and CERT sections give. `readOk` says that the flash read
completed. -/
def execLoadStage (server cert : Option (List Byte)) (readOk : Bool) (dur : Nat) (s : State) : Res :=
  if s.boot.stage ≠ .load then .next s
  else
    let s := s.stageTime dur (60 * msTicks)
    if !readOk then .next (s.bootFail .nvError 0)
    else
      let ver (t : Nat) : Word := ((s.bundleOf t).map (·.version)).getD 0
      let hash (t : Nat) : Nat := ((s.bundleOf t).map (·.payloadHash)).getD 0
      let s := (List.range 32).foldl (fun s k => s.wr (Reg.CEL_MC_VER k) (ver 0x10)) s
      let s := (List.range 8).foldl (fun s i => (s.wr (Reg.PKE_MC_VER i) (ver 0x11)).updEng i (fun e => { e with online := true })) s
      let s := (List.range 5).foldl (fun s c =>
        let t := if c = 4 then 0x13 else 0x12
        (s.wr (Reg.MBX_CORE_VER c) (ver t)).updCore c (fun k => { k with
          mode := .loading, imageHash := hash t, goodHash := hash t })) s
      .next { s with
        srv := { s.srv with keServer := server, keCert := cert }
        boot := { s.boot with stage := .config } }

/-- R470: a CONFIG record may not address this register. -/
def recordBars (blk : Block) (row : RegRow) (a : Nat) : Bool :=
  blk.base == 0x1100000 || blk.base == 0x0040000 || (blk.base == 0x0010000 && a != Reg.CFG_POLICY) ||
    (match row.special with
      | .symKey | .ptpKey | .leapHostCmd => true
      | _ => false)

/-- A command or staged value that a register's own rules refuse, from KC, an ARM of a slot, a TIM channel or a lane among them. -/
def State.actRefused (s : State) (row : RegRow) (i : Nat) (v : Word) : Bool :=
  match row.special with
  | .evtForce => evReserved (fld v 0 8)
  | .cntSel => cntSelBad i v
  | .csStage => (match s.slotAccess .kc i with
    | .ok () => false
    | .error _ => true)
  | .csCtrl => (match s.slotAccess .kc i with
    | .ok () => bitAt v 0 && !bitAt v 1 && (s.wr (Reg.TSC_CS_CTRL i) v).slotArmBad i
    | .error _ => true)
  | .timChCmd => (bitAt v 0 || bitAt v 2) && (s.timMode i == 0 || s.timMode i == 1 && s.timStops i == 0)
  | .evlCmd => bitAt v 0 && !bitAt v 1 && (s.laneStaged i).mode != 0 && s.laneBad (s.laneStaged i)
  | .ruleCmd =>
    let idx := fld (s.rd Reg.SRV_RULE_IDX) 0 13
    let w := (List.range 8).map (fun k => s.rd (Reg.SRV_RULE_DATA k) &&& entryMask idx k)
    (bitAt v 0 && bitAt v 1) || ((bitAt v 0 || bitAt v 1) && decide (4111 < idx)) || (bitAt v 1 && entryBad idx w)
  | .symCmd => (bitAt v 0 || bitAt v 1) && ((bitAt v 0 && bitAt v 1) || !s.keyPermit false .kc)
  | .ptpCmd => (bitAt v 0 || bitAt v 1) && ((bitAt v 0 && bitAt v 1) || !s.keyPermit true .kc ||
      (bitAt v 0 && s.pairTaken (s.keyIdx true .kc) (s.stagedKey true .kc)))
  | _ => false

/-- R470: what a window command that a record started leaves to complete. -/
def State.settle (s : State) : State :=
  (s.srv.keyPend.foldl State.keyFire s).advTo s.srv.rule.busyUntil

/-- R470: one CONFIG record, applied with the rights of KC; none if it fails the recipe. -/
def State.record (s : State) (a : Nat) (v : Word) : Option State :=
  if a % 4 ≠ 0 then none
  else match resolve blocks a with
    | .unmapped => none
    | .hole => some (s.writeWord .kc a v)
    | .reg row blk inst idx =>
      if recordBars blk row a || s.valueBad row inst idx v || s.actRefused row (idx.headD 0) v then none
      else some (s.writeWord .kc a v).settle

/-- R470: the CONFIG records in order, or the state and index at which one fails. -/
def State.records (s : State) (n : Nat) : List (Nat × Word) → Except (State × Nat) State
  | [] => .ok s
  | (a, v) :: r => match s.record a v with
    | none => .error (s, n)
    | some s => s.records (n + 1) r

/-- LEAP_SECTION_LOAD (R474): OFFSET is loaded unless the VBAT domain holds one, and a pending leap is proposed as the recipe
source. -/
def State.leapSection (s : State) (l : LeapSection) : State :=
  let s := if s.vbat.leapValid then s
    else { s with vbat := { s.vbat with offset := l.offset, leapValid := true } }
  if l.pending && s.leapMay .recipe && s.leapValid l.leapAt l.delete then s.leapPut (some ⟨l.leapAt, l.delete, .recipe⟩) else s

/-- CONFIG_STAGE (R470): the CONFIG records, of at most 1 µs each, and the LEAP section. -/
def execConfigStage (recs : List (Nat × Word)) (leap : Option LeapSection) (dur : Nat) (s : State) : Res :=
  if s.boot.stage ≠ .config then .next s
  else
    let s := s.stageTime dur (usTicks * recs.length)
    match s.records 0 recs with
    | .error (s, n) => .next (s.bootFail .record n)
    | .ok s =>
      let s := match leap with
        | some l => s.leapSection l
        | none => s
      .next { s with boot := { s.boot with stage := .keys } }

/-! ## Keys -/

/-- R473: the header fields of a wrapped table. -/
def tableHeadOk (b : List Byte) : Bool :=
  let clen := bundleField b 32 4
  let type := bundleField b 6 1
  b.take 4 == ascii "KTAB" && bundleField b 4 1 == 1 && (type == 0x80 || type == 0x81) && bundleField b 5 1 == 0 &&
    (b.drop 10).take 22 == List.replicate 22 0 && bundleField b 36 4 == 0 && bundleField b 148 4 == 0 &&
    b.length == 168 + clen && clen % (if type = 0x80 then 18 else 38) == 0

/-- R473: the entries of a table's plaintext, as index and entry: of 18 bytes for the symmetric table, 38 for the Annex P one. -/
def tableEntries (ptp : Bool) : Nat → List Byte → List (Nat × KeyVal)
  | 0, _ => []
  | k + 1, b =>
    if ptp then
      (bundleField b 0 1, { en := true, spp := bundleField b 1 1, keyId := bundleField b 2 4, key := BitVec.ofNat 256 (bundleField b 6 32) })
        :: tableEntries ptp k (b.drop 38)
    else (bundleField b 0 2, { en := true, key := BitVec.ofNat 256 (bundleField b 2 16) }) :: tableEntries ptp k (b.drop 18)

/-- R473: a KEY_TABLE section is installed whole, or fails. -/
def State.importTable (s : State) (b : List Byte) : Bool × State :=
  if !tableHeadOk b then (false, s)
  else
    let ptp := bundleField b 6 1 == 0x81
    match bundleOpen s.otp.duk s.otp.dukId b with
    | none => (false, s)
    | some pt =>
      (tableEntries ptp (pt.length / (if ptp then 38 else 18)) pt).foldl (fun acc p =>
        if !acc.1 || (ptp && acc.2.pairTaken p.1 p.2) then (false, s)
        else (true, acc.2.updKey ptp p.1 (fun o => o.become p.2 acc.2.time.now))) (true, s)

/-- R473: the sections of KEYS in directory order from the `n`-th on, tables marked true: none, or the one that fails where start-up
does not go on without it. -/
def State.importKeys (s : State) (goOn : Bool) (n : Nat) : List (Bool × List Byte) → Option Nat × State
  | [] => (none, s)
  | (table, b) :: r =>
    let (ok, s) := if table then s.importTable b else
      let (st, s) := s.importBundle b true
      (st == 0, s)
    if ok then s.importKeys goOn (n + 1) r
    else if goOn then (s.raise 6).importKeys goOn (n + 1) r
    else (some n, s.raise 6)

/-- KEYS_STAGE (R473): KC starts and imports the key bundles and key tables in directory order while the service cores start; at the end
the flash bus is released (R467). -/
def execKeysStage (keys : List (Bool × List Byte)) (dur : Nat) (s : State) : Res :=
  if s.boot.stage ≠ .keys || s.boot.keysDone then .next s
  else
    let s := [4, 0, 1, 2, 3].foldl State.coreRun s
    let s := s.stageTime dur (msTicks * (40 * keys.length))
    match s.importKeys (((s.slotHdr.map SlotHeader.flags).getD 0).testBit 1) 0 keys with
    | (some n, s) => .next (s.bootFail .bundle (s.dirRec [0x20, 0x21] n))
    | (none, s) => .next { s with boot := { s.boot with keysDone := true, nvReleased := true } }

/-! ## The initial commit -/

/-- R466: what recipe load starts: the seed (R95), the nonce prefix and the first NTS key (R188, R189), the carafe slots (R207), the
slow-path limiters (R79), the outputs (R351–R355), the DAC (R360) and the TIM calibration (R414). -/
def State.recipeLoad (s : State) : State :=
  let (d, s) := s.draw
  let s : State := { s with cls := { s.cls with
    seed := d.truncate 128, oldSeed := d.truncate 128, epoch := 0, reseedStamp := s.nowSt, reseedAt := s.time.now, req := false
    pending := false, loadAt := s.time.now } }
  let (h, s) := s.ntsLoad.draw
  let s : State := { s with ptp := { s.ptp with hashKey := h.truncate 128 } }
  let t := s.nowSt
  let s := (List.range 32).foldl (fun s k => s.closeArm k t) s
  let s := (List.range 8).foldl State.slowFill s
  let s := outSlots.foldl State.outArm s
  let code := fld (s.ac Reg.CLK_STEER_INIT) 0 24
  let c := s.ac Reg.CLK_STEER_CTRL
  let s : State := { s with clk := { s.clk with code := code, steerAt := s.time.now } }
  let s := if bitAt c 0 then s.emit (.i2c (fld c 1 7) (s.dacBytes code)) else s
  s.timCal

/-- INITIAL_COMMIT (R466): the shadow sets become active as generation 1 and the TE-9 runs: recipe load. -/
def execInitialCommit (s : State) : Res :=
  if s.boot.stage ≠ .keys || !s.boot.keysDone then .next s
  else
    let s := s.advTo (s.cclkAfter 0)
    let old := s.active
    let s : State := { s with
      boot := { s.boot with stage := .running, bootMs := (s.time.now - s.boot.t0) / msTicks }, cfg := { s.cfg with initialDone := true } }
    let s := s.commitCopy s.nowG true
    .next (((s.recipeLoad.commitBlocks old).timeStateChange).alarmSync)

/-! ## The opening of the bypass -/

/-- R535: the CASC_OUT driver is enabled and the switch opens. -/
def State.bypassOpen (s : State) (forced : Bool) : State :=
  { s with
    vbat := { s.vbat with closed := false }
    serve := { s.serve with openPending := false, cascDrv := true, openForced := forced } }

/-- R535: the tick of the first CCLK edge at which CASC_IN has been low for 100 ms. -/
def State.bypassEdge (s : State) : Option Nat :=
  s.serve.cascLowSince.map (fun t => max (ceilDiv (t + 100 * msTicks) cclkTicks) (ceilDiv s.serve.servingAt cclkTicks) * cclkTicks)

/-- BYPASS_OPEN (R535): CASC_IN has been low for 100 ms: the driver is enabled and the switch opens. -/
def execBypassOpen (s : State) : Res :=
  match s.bypassEdge with
  | some t =>
    if s.serve.openPending && decide (t ≤ s.serve.servingAt + 2 * sTicks) then .next ((s.advTo t).bypassOpen false) else .next s
  | none => .next s

/-- BYPASS_OPEN_FORCED (R535): 2 s after SERVING the switch opens all the same, with OPEN_FORCED. -/
def execBypassOpenForced (s : State) : Res :=
  let limit := s.serve.servingAt + 2 * sTicks
  let first := match s.bypassEdge with
    | some t => decide (t ≤ limit)
    | none => false
  .next (if s.serve.openPending && !first then (s.advTo limit).bypassOpen true else s)

end Sys2Proof.Machine
end

