-- ==== Sys2Proof/Machine/Dispatch.lean ====
section
/-!
DEFINITION. The meaning of each command: one direct call per constructor.
-/

namespace Sys2Proof.Machine

/-- A command's effect on everything but the queue. -/
def exec (i : Instr) (s : State) : Host.Outcome State Fault Refusal :=
  match i with
  | .registerWrite m addr width be data => Sys2Proof.Machine.execRegisterWrite m addr width be data s
  | .powerGood fsel => Sys2Proof.Machine.execPowerGood fsel s
  | .powerFail => Sys2Proof.Machine.execPowerFail s
  | .resetNAssert => Sys2Proof.Machine.execResetNAssert s
  | .resetNRelease fsel => Sys2Proof.Machine.execResetNRelease fsel s
  | .perstN => Sys2Proof.Machine.execPerstN s
  | .pcieFunctionReset pf0 pf1 => Sys2Proof.Machine.execPcieFunctionReset pf0 pf1 s
  | .vbatLow => Sys2Proof.Machine.execVbatLow s
  | .apll0Lock dur => Sys2Proof.Machine.execApll0Lock dur s
  | .headerStage flash a b dur => Sys2Proof.Machine.execHeaderStage flash a b dur s
  | .slotVerify img dur => Sys2Proof.Machine.execSlotVerify img dur s
  | .efeskVerify bundles dur => Sys2Proof.Machine.execEfeskVerify bundles dur s
  | .loadStage server cert readOk dur => Sys2Proof.Machine.execLoadStage server cert readOk dur s
  | .configStage recs leap dur => Sys2Proof.Machine.execConfigStage recs leap dur s
  | .keysStage keys dur => Sys2Proof.Machine.execKeysStage keys dur s
  | .initialCommit => Sys2Proof.Machine.execInitialCommit s
  | .reload m => Sys2Proof.Machine.execReload m s
  | .otpRaiseSecVer m => Sys2Proof.Machine.execOtpRaiseSecVer m s
  | .otpRevoke m key => Sys2Proof.Machine.execOtpRevoke m key s
  | .otpFuseDone => Sys2Proof.Machine.execOtpFuseDone s
  | .bypassOpen => Sys2Proof.Machine.execBypassOpen s
  | .bypassOpenForced => Sys2Proof.Machine.execBypassOpenForced s
  | .commitNow => Sys2Proof.Machine.execCommitNow s
  | .commitSchedule => Sys2Proof.Machine.execCommitSchedule s
  | .commitCancel => Sys2Proof.Machine.execCommitCancel s
  | .configRevert => Sys2Proof.Machine.execConfigRevert s
  | .commit => Sys2Proof.Machine.execCommit s
  | .retiringRelease => Sys2Proof.Machine.execRetiringRelease s
  | .retiringLimit => Sys2Proof.Machine.execRetiringLimit s
  | .rwlEffect => Sys2Proof.Machine.execRwlEffect s
  | .dtCapture m st wide => Sys2Proof.Machine.execDtCapture m st wide s
  | .timePortLoad c => Sys2Proof.Machine.execTimePortLoad c s
  | .dtSecondBoundary => Sys2Proof.Machine.execDtSecondBoundary s
  | .leapHostInsert => Sys2Proof.Machine.execLeapHostInsert s
  | .leapHostDelete => Sys2Proof.Machine.execLeapHostDelete s
  | .leapHostCancel => Sys2Proof.Machine.execLeapHostCancel s
  | .leapFreeze => Sys2Proof.Machine.execLeapFreeze s
  | .leapApply => Sys2Proof.Machine.execLeapApply s
  | .csArm m x ctrl => Sys2Proof.Machine.execCsArm m x ctrl s
  | .csDisarm m x ctrl => Sys2Proof.Machine.execCsDisarm m x ctrl s
  | .compareSlotFire x => Sys2Proof.Machine.execCompareSlotFire x s
  | .firmwareSlotFire x => Sys2Proof.Machine.execFirmwareSlotFire x s
  | .signalDetect n lanes => Sys2Proof.Machine.execSignalDetect n lanes s
  | .rxSweepDone n => Sys2Proof.Machine.execRxSweepDone n s
  | .pcsLinkUp n => Sys2Proof.Machine.execPcsLinkUp n s
  | .linkUp n c => Sys2Proof.Machine.execLinkUp n c s
  | .linkDown n lanes => Sys2Proof.Machine.execLinkDown n lanes s
  | .calRetry n => Sys2Proof.Machine.execCalRetry n s
  | .calTrack n rx tx skews => Sys2Proof.Machine.execCalTrack n rx tx skews s
  | .frameIngress n f corr uncorr => Sys2Proof.Machine.execFrameIngress n f corr uncorr s
  | .fcsVerdict id => Sys2Proof.Machine.execFcsVerdict id s
  | .esmcPduReceived n ssm essm => Sys2Proof.Machine.execEsmcPduReceived n ssm essm s
  | .esmcTimeout n => Sys2Proof.Machine.execEsmcTimeout n s
  | .esmcInfoSend => Sys2Proof.Machine.execEsmcInfoSend s
  | .esmcEventSend => Sys2Proof.Machine.execEsmcEventSend s
  | .hostTxProduce n idx => Sys2Proof.Machine.execHostTxProduce n idx s
  | .hostTxDescriptor n d => Sys2Proof.Machine.execHostTxDescriptor n d s
  | .hostRxPost n idx bufs => Sys2Proof.Machine.execHostRxPost n idx bufs s
  | .tsqPop n => Sys2Proof.Machine.execTsqPop n s
  | .cellDispatch k => Sys2Proof.Machine.execCellDispatch k s
  | .cellSquash k c => Sys2Proof.Machine.execCellSquash k c s
  | .cellCommit k c => Sys2Proof.Machine.execCellCommit k c s
  | .calendarArrival n => Sys2Proof.Machine.execCalendarArrival n s
  | .frameReturn k => Sys2Proof.Machine.execFrameReturn k s
  | .recompose k => Sys2Proof.Machine.execRecompose k s
  | .stealRequest k d => Sys2Proof.Machine.execStealRequest k d s
  | .stealArrive k eccOk => Sys2Proof.Machine.execStealArrive k eccOk s
  | .hotTrip k => Sys2Proof.Machine.execHotTrip k s
  | .sprayIntervalEnd => Sys2Proof.Machine.execSprayIntervalEnd s
  | .reseedRequest => Sys2Proof.Machine.execReseedRequest s
  | .epochSweepStart => Sys2Proof.Machine.execEpochSweepStart s
  | .epochSweepDone => Sys2Proof.Machine.execEpochSweepDone s
  | .cltWindowRead => Sys2Proof.Machine.execCltWindowRead s
  | .cltFlush => Sys2Proof.Machine.execCltFlush s
  | .gridMeasure n back off displaced jump => Sys2Proof.Machine.execGridMeasure n back off displaced jump s
  | .framePour n dev => Sys2Proof.Machine.execFramePour n dev s
  | .beRelease n dev => Sys2Proof.Machine.execBeRelease n dev s
  | .beReserve n => Sys2Proof.Machine.execBeReserve n s
  | .eholdUpdate => Sys2Proof.Machine.execEholdUpdate s
  | .ruleRead active => Sys2Proof.Machine.execRuleRead active s
  | .ruleWrite => Sys2Proof.Machine.execRuleWrite s
  | .symKeyWrite m stat => Sys2Proof.Machine.execSymKeyWrite m stat s
  | .symKeyDisable m stat => Sys2Proof.Machine.execSymKeyDisable m stat s
  | .symKeyStat m => Sys2Proof.Machine.execSymKeyStat m s
  | .keyTableEffect => Sys2Proof.Machine.execKeyTableEffect s
  | .ntsKeyInstall bundle => Sys2Proof.Machine.execNtsKeyInstall bundle s
  | .ntsRotate => Sys2Proof.Machine.execNtsRotate s
  | .ntsRotateRetry => Sys2Proof.Machine.execNtsRotateRetry s
  | .ntsKeyWipe => Sys2Proof.Machine.execNtsKeyWipe s
  | .ntskeConnect a sc3 => Sys2Proof.Machine.execNtskeConnect a sc3 s
  | .ntskeRequest a hello finished records exporter => Sys2Proof.Machine.execNtskeRequest a hello finished records exporter s
  | .ntskeTimeout => Sys2Proof.Machine.execNtskeTimeout s
  | .broadcastSend j => Sys2Proof.Machine.execBroadcastSend j s
  | .carafeClose k => Sys2Proof.Machine.execCarafeClose k s
  | .carafeSeal k => Sys2Proof.Machine.execCarafeSeal k s
  | .carafeSealLimit k => Sys2Proof.Machine.execCarafeSealLimit k s
  | .rootComplete k => Sys2Proof.Machine.execRootComplete k s
  | .signDispatch => Sys2Proof.Machine.execSignDispatch s
  | .carafeSigned k => Sys2Proof.Machine.execCarafeSigned k s
  | .carafeSignStale => Sys2Proof.Machine.execCarafeSignStale s
  | .rtReplyEmit k => Sys2Proof.Machine.execRtReplyEmit k s
  | .deleFirst => Sys2Proof.Machine.execDeleFirst s
  | .delePrepare => Sys2Proof.Machine.execDelePrepare s
  | .deleSwitch => Sys2Proof.Machine.execDeleSwitch s
  | .deleRetry => Sys2Proof.Machine.execDeleRetry s
  | .deleExpire => Sys2Proof.Machine.execDeleExpire s
  | .syncMcFire n => Sys2Proof.Machine.execSyncMcFire n s
  | .syncUcTick n => Sys2Proof.Machine.execSyncUcTick n s
  | .syncUcItemIssue n => Sys2Proof.Machine.execSyncUcItemIssue n s
  | .announceSend n grant => Sys2Proof.Machine.execAnnounceSend n grant s
  | .foreignAnnounce n payload => Sys2Proof.Machine.execForeignAnnounce n payload s
  | .unicastRequest n f => Sys2Proof.Machine.execUnicastRequest n f s
  | .unicastCancel n f => Sys2Proof.Machine.execUnicastCancel n f s
  | .grantExpire x type => Sys2Proof.Machine.execGrantExpire x type s
  | .grantEffect => Sys2Proof.Machine.execGrantEffect s
  | .grantRead => Sys2Proof.Machine.execGrantRead s
  | .ptpKeyWrite m stat => Sys2Proof.Machine.execPtpKeyWrite m stat s
  | .ptpKeyDisable m stat => Sys2Proof.Machine.execPtpKeyDisable m stat s
  | .ptpKeyStat m => Sys2Proof.Machine.execPtpKeyStat m s
  | .clientMessage x f => Sys2Proof.Machine.execClientMessage x f s
  | .clientDelayReq x => Sys2Proof.Machine.execClientDelayReq x s
  | .clientGrantRenew x j type => Sys2Proof.Machine.execClientGrantRenew x j type s
  | .clientRetry x => Sys2Proof.Machine.execClientRetry x s
  | .clientAnnounceTimeout x => Sys2Proof.Machine.execClientAnnounceTimeout x s
  | .clientSyncTimeout x => Sys2Proof.Machine.execClientSyncTimeout x s
  | .pkeJobGo x m => Sys2Proof.Machine.execPkeJobGo x m s
  | .pkeJobStart x input dma trngOk => Sys2Proof.Machine.execPkeJobStart x input dma trngOk s
  | .pkeJobComplete x fault => Sys2Proof.Machine.execPkeJobComplete x fault s
  | .pkeWipeDone x => Sys2Proof.Machine.execPkeWipeDone x s
  | .pkeCplPop x m => Sys2Proof.Machine.execPkeCplPop x m s
  | .pkeAbort x m tag owner begun => Sys2Proof.Machine.execPkeAbort x m tag owner begun s
  | .pkeDmaError x output => Sys2Proof.Machine.execPkeDmaError x output s
  | .pkeJobTimeout x => Sys2Proof.Machine.execPkeJobTimeout x s
  | .keySlotReadAttr m => Sys2Proof.Machine.execKeySlotReadAttr m s
  | .keySlotDelete m => Sys2Proof.Machine.execKeySlotDelete m s
  | .keySlotReadPub m => Sys2Proof.Machine.execKeySlotReadPub m s
  | .keySlotExpire x => Sys2Proof.Machine.execKeySlotExpire x s
  | .refEdge input at25 run => Sys2Proof.Machine.execRefEdge input at25 run s
  | .pulseMissing m => Sys2Proof.Machine.execPulseMissing m s
  | .activityWindow m more => Sys2Proof.Machine.execActivityWindow m more s
  | .freqCheck m df => Sys2Proof.Machine.execFreqCheck m df s
  | .todFrame cascade bytes => Sys2Proof.Machine.execTodFrame cascade bytes s
  | .wtrExpire m => Sys2Proof.Machine.execWtrExpire m s
  | .clearWtr by_ mask => Sys2Proof.Machine.execClearWtr by_ mask s
  | .xcheck => Sys2Proof.Machine.execXcheck s
  | .selectorEvaluate => Sys2Proof.Machine.execSelectorEvaluate s
  | .oscLoss => Sys2Proof.Machine.execOscLoss s
  | .apllUnlock p active => Sys2Proof.Machine.execApllUnlock p active s
  | .dpll0Sample phase25 => Sys2Proof.Machine.execDpll0Sample phase25 s
  | .dpll0StepCmd by_ => Sys2Proof.Machine.execDpll0StepCmd by_ s
  | .histRead age => Sys2Proof.Machine.execHistRead age s
  | .ppsPulse k => Sys2Proof.Machine.execPpsPulse k s
  | .todoutFrame => Sys2Proof.Machine.execTodoutFrame s
  | .cascPulse => Sys2Proof.Machine.execCascPulse s
  | .cascFrame => Sys2Proof.Machine.execCascFrame s
  | .steerWrite => Sys2Proof.Machine.execSteerWrite s
  | .steerSettle => Sys2Proof.Machine.execSteerSettle s
  | .steerBusTimeout => Sys2Proof.Machine.execSteerBusTimeout s
  | .tempRead value => Sys2Proof.Machine.execTempRead value s
  | .gsClkFail => Sys2Proof.Machine.execGsClkFail s
  | .sampleOkRestore => Sys2Proof.Machine.execSampleOkRestore s
  | .acqDetect c const prn cn0 dopp => Sys2Proof.Machine.execAcqDetect c const prn cn0 dopp s
  | .trackerLock c b bandB => Sys2Proof.Machine.execTrackerLock c b bandB s
  | .trackerBRetry c => Sys2Proof.Machine.execTrackerBRetry c s
  | .trackerDrop c b => Sys2Proof.Machine.execTrackerDrop c b s
  | .sidePeakMove p => Sys2Proof.Machine.execSidePeakMove p s
  | .reacqTimeout c b => Sys2Proof.Machine.execReacqTimeout c b s
  | .navUnit c b good u => Sys2Proof.Machine.execNavUnit c b good u s
  | .gnssEpoch ms fits moved => Sys2Proof.Machine.execGnssEpoch ms fits moved s
  | .exclusionExpire c => Sys2Proof.Machine.execExclusionExpire c s
  | .refreshEnd => Sys2Proof.Machine.execRefreshEnd s
  | .burstWindow got => Sys2Proof.Machine.execBurstWindow got s
  | .rawPps => Sys2Proof.Machine.execRawPps s
  | .tmsgPublish => Sys2Proof.Machine.execTmsgPublish s
  | .tmsgCapture m => Sys2Proof.Machine.execTmsgCapture m s
  | .gnssResurvey m => Sys2Proof.Machine.execGnssResurvey m s
  | .gnssCold m => Sys2Proof.Machine.execGnssCold m s
  | .chRead => Sys2Proof.Machine.execChRead s
  | .timinEdge j at_ rising lasts => Sys2Proof.Machine.execTiminEdge j at_ rising lasts s
  | .timCal => Sys2Proof.Machine.execTimCal s
  | .timCalDone bad => Sys2Proof.Machine.execTimCalDone bad s
  | .timRecal bad => Sys2Proof.Machine.execTimRecal bad s
  | .timArm k => Sys2Proof.Machine.execTimArm k s
  | .timDisarm k => Sys2Proof.Machine.execTimDisarm k s
  | .timArmAt k => Sys2Proof.Machine.execTimArmAt k s
  | .timGateFire k => Sys2Proof.Machine.execTimGateFire k s
  | .timWindowEnd k => Sys2Proof.Machine.execTimWindowEnd k s
  | .timGateEnd k => Sys2Proof.Machine.execTimGateEnd k s
  | .timResPop k => Sys2Proof.Machine.execTimResPop k s
  | .evlArm l => Sys2Proof.Machine.execEvlArm l s
  | .evlDisarm l => Sys2Proof.Machine.execEvlDisarm l s
  | .evlArmAll lanes => Sys2Proof.Machine.execEvlArmAll lanes s
  | .evlDisarmAll lanes => Sys2Proof.Machine.execEvlDisarmAll lanes s
  | .evlPulse l => Sys2Proof.Machine.execEvlPulse l s
  | .evlTrailingEdge l => Sys2Proof.Machine.execEvlTrailingEdge l s
  | .evlLevel l => Sys2Proof.Machine.execEvlLevel l s
  | .mbxTx c m w => Sys2Proof.Machine.execMbxTx c m w s
  | .mbxRx c m => Sys2Proof.Machine.execMbxRx c m s
  | .mbxDbRing c m bits => Sys2Proof.Machine.execMbxDbRing c m bits s
  | .mbxDbClear c m bits => Sys2Proof.Machine.execMbxDbClear c m bits s
  | .mbxAckWaitStart c m => Sys2Proof.Machine.execMbxAckWaitStart c m s
  | .mbxAckWaitCancel c m => Sys2Proof.Machine.execMbxAckWaitCancel c m s
  | .mbxAckTimeout e => Sys2Proof.Machine.execMbxAckTimeout e s
  | .mbxEpReset m => Sys2Proof.Machine.execMbxEpReset m s
  | .mbxOpen m => Sys2Proof.Machine.execMbxOpen m s
  | .semAcquire x m => Sys2Proof.Machine.execSemAcquire x m s
  | .semRelease x m => Sys2Proof.Machine.execSemRelease x m s
  | .semForce x m => Sys2Proof.Machine.execSemForce x m s
  | .wdtWarn c => Sys2Proof.Machine.execWdtWarn c s
  | .wdtExpire c => Sys2Proof.Machine.execWdtExpire c s
  | .coreStart c => Sys2Proof.Machine.execCoreStart c s
  | .fwPing c => Sys2Proof.Machine.execFwPing c s
  | .fwPkeJob c => Sys2Proof.Machine.execFwPkeJob c s
  | .fwPkeAbort c begun => Sys2Proof.Machine.execFwPkeAbort c begun s
  | .fwKeyImport c bundle => Sys2Proof.Machine.execFwKeyImport c bundle s
  | .fwKeyDelete c => Sys2Proof.Machine.execFwKeyDelete c s
  | .fwBufWrite c => Sys2Proof.Machine.execFwBufWrite c s
  | .fwBufRead c => Sys2Proof.Machine.execFwBufRead c s
  | .fwBacklogSend c => Sys2Proof.Machine.execFwBacklogSend c s
  | .evtStatClear m g bits => Sys2Proof.Machine.execEvtStatClear m g bits s
  | .evtMaskWrite m g v => Sys2Proof.Machine.execEvtMaskWrite m g v s
  | .evtForce m e => Sys2Proof.Machine.execEvtForce m e s
  | .msixUnmask pf1 enable funMask masked => Sys2Proof.Machine.execMsixUnmask pf1 enable funMask masked s
  | .cntLoRead m n wide => Sys2Proof.Machine.execCntLoRead m n wide s
  | .cntLoWrite m n v => Sys2Proof.Machine.execCntLoWrite m n v s
  | .cntHiWrite m n v => Sys2Proof.Machine.execCntHiWrite m n v s
  | .cntSnap => Sys2Proof.Machine.execCntSnap s
  | .cntClearAll => Sys2Proof.Machine.execCntClearAll s
  | .cntSnapshot => Sys2Proof.Machine.execCntSnapshot s
  | .cntLimit n => Sys2Proof.Machine.execCntLimit n s
  | .cntOverflow n => Sys2Proof.Machine.execCntOverflow n s
  | .patrolScrub f => Sys2Proof.Machine.execPatrolScrub f s
  | .cellHang k c => Sys2Proof.Machine.execCellHang k c s
  | .clusterStall k => Sys2Proof.Machine.execClusterStall k s
  | .partitionRebindDone k => Sys2Proof.Machine.execPartitionRebindDone k s
  | .fatalFault => Sys2Proof.Machine.execFatalFault s
  | .badAccessRead m addr width => Sys2Proof.Machine.execBadAccessRead m addr width s
  | .backupCounterTick => Sys2Proof.Machine.execBackupCounterTick s
  | .vbatRestore => Sys2Proof.Machine.execVbatRestore s
  | .keySlotNotBefore x => Sys2Proof.Machine.execKeySlotNotBefore x s
  | .watchdogRestart c => Sys2Proof.Machine.execWatchdogRestart c s
  | .dpllxLock x => Sys2Proof.Machine.execDpllxLock x s

end Sys2Proof.Machine
end

