-- ==== Sys2Proof/Machine/Step.lean ====
section
/-!
DEFINITION. One step: the command at the front of the queue, or, when none waits, one tick of 200 ps.
-/

namespace Sys2Proof.Machine

/-- One step. A command runs on the state with the queue's rest; on an empty queue time passes by one tick, the grid of the
TBCLK and CCLK edges (DESIGN CHOICE, log entry 2). -/
def step (s : State) : Host.Outcome State Fault Refusal :=
  match s.pending with
  | [] => .next (s.advTo (s.time.now + 1))
  | i :: rest => exec i { s with pending := rest }

/-- The state with the command that a word spells at the front of its queue; the state itself where it spells none. -/
def State.withFetchWord (s : State) (nbits w : Nat) : State :=
  match decodeTableWord nbits w with
  | some i => { s with pending := i :: s.pending }
  | none => s

end Sys2Proof.Machine
end

