-- ==== Sys2Proof/Safety.lean ====
section
/-!
DEFINITION. What counts as a safe run: every command completes, OTP only grows, no command touches the queue, and the
registers keep the one form that makes equal registers equal data. Also what the raise of events and the passage of time
may change.
-/

namespace Sys2Proof.Machine

/-- The register tables have their canonical form: rising addresses, and no entry equal to what an unlisted address holds. -/
def State.canon (s : State) : Bool := twf liveDef s.live && twf rwsDef s.shadow && twf rwsDef s.active

/-- R475: fuses are only ever blown. The hashes of the customer keys stay, a revoked key stays revoked, and the
anti-rollback minima do not fall. -/
structure OtpGrows (a b : Otp) : Prop where
  hashes : b.hashes = a.hashes
  duk : b.duk = a.duk
  revoked : ∀ k, a.revoked.testBit k = true → b.revoked.testBit k = true
  secVer : a.secVerMin ≤ b.secVerMin
  efesk : a.efeskMin ≤ b.efeskMin

/-- What every command and every passage of time keeps from `s` to `t`. -/
structure Keeps (s t : State) : Prop where
  pending : t.pending = s.pending
  otp : OtpGrows s.otp t.otp
  canon : s.canon = true → t.canon = true

/-! ## What a command may change -/

/-- The parts of the state, one for each of its fields. -/
inductive Piece where
  | live | shadow | active | time | vbat | otp | boot | serve | cfg | evt
  | mbx | bus | ports | cals | rwl | cls | clus | clt | srv | rt | ptp | pke
  | ref | clk | gns | tim | evl | draws | frees | outbox | pending
  deriving DecidableEq, Repr

/-- Piece `p` is the same in both states. -/
def Piece.same (s t : State) : Piece → Prop
  | .live => t.live = s.live
  | .shadow => t.shadow = s.shadow
  | .active => t.active = s.active
  | .time => t.time = s.time
  | .vbat => t.vbat = s.vbat
  | .otp => t.otp = s.otp
  | .boot => t.boot = s.boot
  | .serve => t.serve = s.serve
  | .cfg => t.cfg = s.cfg
  | .evt => t.evt = s.evt
  | .mbx => t.mbx = s.mbx
  | .bus => t.bus = s.bus
  | .ports => t.ports = s.ports
  | .cals => t.cals = s.cals
  | .rwl => t.rwl = s.rwl
  | .cls => t.cls = s.cls
  | .clus => t.clus = s.clus
  | .clt => t.clt = s.clt
  | .srv => t.srv = s.srv
  | .rt => t.rt = s.rt
  | .ptp => t.ptp = s.ptp
  | .pke => t.pke = s.pke
  | .ref => t.ref = s.ref
  | .clk => t.clk = s.clk
  | .gns => t.gns = s.gns
  | .tim => t.tim = s.tim
  | .evl => t.evl = s.evl
  | .draws => t.draws = s.draws
  | .frees => t.frees = s.frees
  | .outbox => t.outbox = s.outbox
  | .pending => t.pending = s.pending

/-- `t` differs from `s` in the parts of `ps` at most. -/
def Only (ps : List Piece) (s t : State) : Prop := ∀ p, p ∉ ps → p.same s t

/-- The parts that the raise of an event may change: the registers, the event state and what leaves the package. -/
def evParts : List Piece := [.live, .evt, .outbox]

/-- The parts that the passage of time changes: DT and the counters. -/
def tmParts : List Piece := [.time, .evt]

/-- Every part: a reset, and a slot that fails, act on all of them; a write of a register may be any command. -/
def allParts : List Piece :=
  [.live, .shadow, .active, .time, .vbat, .otp, .boot, .serve, .cfg, .evt, .mbx, .bus, .ports, .cals, .rwl, .cls, .clus, .clt, .srv, .rt,
    .ptp, .pke, .ref, .clk, .gns, .tim, .evl, .draws, .frees, .outbox, .pending]

/-- The parts of the state that a command may change. Everything else stays as it is. -/
def touched : Instr → List Piece
    | .registerWrite .. | .powerFail | .resetNAssert | .slotVerify .. | .efeskVerify .. | .loadStage .. | .configStage .. |
    .keysStage .. | .reload .. =>
      allParts
    | .powerGood .. | .resetNRelease .. =>
      [.boot]
    | .perstN | .pcieFunctionReset .. | .mbxTx .. | .mbxDbRing .. | .mbxDbClear .. | .mbxAckWaitStart .. |
    .mbxAckWaitCancel .. | .mbxEpReset .. | .semRelease .. | .semForce .. | .fwPing .. | .fwBufWrite .. | .fwBufRead .. |
    .fwBacklogSend .. =>
      evParts ++ [.mbx]
    | .vbatLow | .leapApply =>
      evParts ++ tmParts ++ [.vbat, .serve, .cfg, .ports, .srv, .ptp, .clk]
    | .apll0Lock .. =>
      tmParts ++ [.boot, .gns]
    | .headerStage .. =>
      evParts ++ tmParts ++ [.boot]
    | .initialCommit =>
      evParts ++ tmParts ++ [.active, .boot, .serve, .cfg, .ports, .cals, .cls, .clus, .srv, .rt, .ptp, .pke, .ref,
      .clk, .gns, .tim, .evl, .draws, .frees]
    | .otpRaiseSecVer .. | .otpRevoke .. =>
      evParts ++ [.otp]
    | .otpFuseDone =>
      tmParts ++ [.otp]
    | .bypassOpen | .bypassOpenForced =>
      tmParts ++ [.vbat, .serve]
    | .commitNow | .commitSchedule | .commitCancel | .configRevert =>
      evParts ++ tmParts ++ [.shadow, .cfg]
    | .commit | .retiringRelease | .retiringLimit =>
      evParts ++ tmParts ++ [.active, .serve, .cfg, .ports, .cals, .cls, .clus, .srv, .rt, .ptp, .ref, .clk, .gns, .tim,
      .evl, .draws, .frees]
    | .rwlEffect =>
      tmParts ++ [.ports, .rwl]
    | .dtCapture .. =>
      tmParts ++ [.bus]
    | .timePortLoad .. =>
      tmParts
    | .dtSecondBoundary =>
      evParts ++ tmParts ++ [.vbat, .cfg, .mbx, .srv, .ref, .clk, .tim, .frees]
    | .leapHostInsert | .leapHostDelete | .leapHostCancel =>
      evParts ++ tmParts ++ [.vbat, .cfg, .srv]
    | .leapFreeze =>
      tmParts ++ [.vbat, .srv]
    | .csArm .. | .csDisarm .. | .compareSlotFire .. | .timArm .. | .timDisarm .. | .timArmAt .. | .timGateFire .. =>
      evParts ++ tmParts ++ [.cfg, .tim]
    | .firmwareSlotFire .. =>
      evParts ++ tmParts ++ [.cfg]
    | .signalDetect .. | .pcsLinkUp .. =>
      [.ports]
    | .rxSweepDone .. | .calTrack .. =>
      tmParts ++ [.ports]
    | .linkUp .. =>
      evParts ++ tmParts ++ [.cfg, .ports, .ptp, .ref]
    | .linkDown .. | .calRetry .. =>
      evParts ++ [.ports, .cals, .clus, .ptp, .ref]
    | .frameIngress .. =>
      evParts ++ tmParts ++ [.ports, .cls, .clus, .srv]
    | .fcsVerdict .. =>
      tmParts ++ [.live, .clus]
    | .esmcPduReceived .. =>
      evParts ++ [.ports, .ref]
    | .esmcTimeout .. | .pulseMissing .. | .wtrExpire .. | .clearWtr .. =>
      evParts ++ tmParts ++ [.ref]
    | .esmcInfoSend | .gridMeasure .. =>
      evParts ++ tmParts ++ [.ports]
    | .esmcEventSend | .hostTxDescriptor .. | .hostRxPost .. =>
      evParts ++ [.ports]
    | .hostTxProduce .. | .evtStatClear .. | .evtMaskWrite .. | .cntLimit .. | .cntOverflow .. =>
      evParts
    | .tsqPop .. =>
      [.bus, .ports]
    | .cellDispatch .. | .recompose .. =>
      evParts ++ tmParts ++ [.cals, .clus, .clt, .srv, .ptp]
    | .cellSquash .. | .frameReturn .. | .stealArrive .. =>
      evParts ++ tmParts ++ [.clus]
    | .cellCommit .. =>
      evParts ++ tmParts ++ [.cals, .clus, .srv, .rt, .pke]
    | .calendarArrival .. =>
      evParts ++ tmParts ++ [.ports, .cals, .clus]
    | .stealRequest .. =>
      evParts ++ tmParts ++ [.clus, .clt, .ptp]
    | .hotTrip .. | .sprayIntervalEnd =>
      evParts ++ tmParts ++ [.cls, .clus]
    | .reseedRequest =>
      [.cls]
    | .epochSweepStart =>
      tmParts ++ [.cls]
    | .epochSweepDone =>
      evParts ++ tmParts ++ [.cls, .clt, .draws]
    | .cltWindowRead | .cltFlush =>
      [.clt]
    | .framePour .. | .beReserve .. =>
      evParts ++ tmParts ++ [.ports, .cals]
    | .beRelease .. =>
      evParts ++ tmParts ++ [.ports, .cals, .ptp]
    | .eholdUpdate =>
      evParts ++ tmParts ++ [.serve, .ports, .srv, .ptp, .clk]
    | .ruleRead .. | .ruleWrite =>
      evParts ++ [.shadow, .srv]
    | .symKeyWrite .. | .symKeyDisable .. | .symKeyStat .. | .ntskeTimeout | .ptpKeyWrite .. | .ptpKeyDisable .. |
    .ptpKeyStat .. =>
      evParts ++ tmParts ++ [.srv]
    | .keyTableEffect =>
      tmParts ++ [.srv]
    | .ntsKeyInstall .. =>
      evParts ++ [.srv, .pke, .draws]
    | .ntsRotate | .ntsRotateRetry | .ntsKeyWipe | .keySlotExpire .. =>
      evParts ++ tmParts ++ [.srv, .pke]
    | .ntskeConnect .. =>
      evParts ++ [.srv]
    | .ntskeRequest .. | .keySlotDelete .. =>
      evParts ++ [.srv, .pke]
    | .broadcastSend .. =>
      evParts ++ tmParts ++ [.ports, .srv]
    | .carafeClose .. =>
      evParts ++ tmParts ++ [.cfg, .rt]
    | .carafeSeal .. | .carafeSealLimit .. | .deleSwitch =>
      evParts ++ tmParts ++ [.srv, .rt, .pke]
    | .rootComplete .. =>
      tmParts ++ [.rt]
    | .signDispatch =>
      evParts ++ [.rt, .pke]
    | .carafeSigned .. =>
      [.rt]
    | .carafeSignStale =>
      evParts ++ tmParts ++ [.srv, .rt, .pke, .frees]
    | .rtReplyEmit .. =>
      evParts ++ tmParts ++ [.ports, .srv, .rt, .pke]
    | .deleFirst =>
      evParts ++ [.rt, .pke, .draws]
    | .delePrepare | .deleRetry =>
      evParts ++ tmParts ++ [.rt, .pke, .draws]
    | .deleExpire =>
      evParts ++ tmParts ++ [.rt]
    | .syncMcFire .. =>
      evParts ++ tmParts ++ [.cfg, .cls, .clus, .ptp]
    | .syncUcTick .. =>
      evParts ++ tmParts ++ [.cfg, .ptp]
    | .syncUcItemIssue .. =>
      evParts ++ tmParts ++ [.cls, .clus, .ptp]
    | .announceSend .. | .clientGrantRenew .. | .clientRetry .. =>
      evParts ++ tmParts ++ [.ports, .ptp]
    | .foreignAnnounce .. =>
      evParts ++ [.ptp]
    | .unicastRequest .. | .unicastCancel .. | .clientDelayReq .. =>
      evParts ++ [.ports, .ptp]
    | .grantExpire .. | .grantEffect =>
      tmParts ++ [.ptp]
    | .grantRead =>
      [.ptp]
    | .clientMessage .. =>
      evParts ++ [.serve, .ports, .srv, .ptp, .ref, .clk]
    | .clientAnnounceTimeout .. | .clientSyncTimeout .. =>
      evParts ++ tmParts ++ [.ptp, .ref]
    | .pkeJobGo .. =>
      evParts ++ [.pke]
    | .pkeJobStart .. =>
      evParts ++ tmParts ++ [.pke, .draws]
    | .pkeJobComplete .. | .pkeDmaError .. | .pkeJobTimeout .. =>
      evParts ++ tmParts ++ [.mbx, .srv, .rt, .pke]
    | .pkeWipeDone .. =>
      tmParts ++ [.live, .pke]
    | .pkeCplPop .. =>
      evParts ++ [.bus, .pke]
    | .pkeAbort .. | .fwPkeAbort .. =>
      evParts ++ [.mbx, .srv, .rt, .pke]
    | .keySlotReadAttr .. | .keySlotReadPub .. =>
      [.pke]
    | .refEdge .. =>
      evParts ++ tmParts ++ [.serve, .ref, .clk]
    | .activityWindow .. | .xcheck =>
      evParts ++ [.ref]
    | .freqCheck .. =>
      evParts ++ [.serve, .ports, .srv, .ptp, .ref, .clk, .tim]
    | .todFrame .. =>
      evParts ++ [.ref, .clk]
    | .selectorEvaluate =>
      evParts ++ tmParts ++ [.serve, .ports, .srv, .ptp, .ref, .clk, .tim, .frees]
    | .oscLoss | .apllUnlock .. | .fatalFault =>
      evParts ++ [.serve, .ports, .srv, .ptp, .clk]
    | .dpll0Sample .. | .dpll0StepCmd .. =>
      evParts ++ tmParts ++ [.vbat, .serve, .cfg, .ports, .cals, .cls, .srv, .rt, .ptp, .pke, .ref, .clk, .gns, .tim,
      .evl, .frees]
    | .histRead .. | .tempRead .. =>
      [.live]
    | .ppsPulse .. | .todoutFrame | .cascPulse =>
      evParts ++ tmParts ++ [.cfg, .clk]
    | .cascFrame =>
      tmParts ++ [.clk, .outbox]
    | .steerWrite =>
      tmParts ++ [.clk, .frees, .outbox]
    | .steerSettle =>
      evParts ++ tmParts ++ [.clk]
    | .steerBusTimeout | .dpllxLock .. =>
      evParts ++ [.clk]
    | .gsClkFail | .gnssResurvey .. | .gnssCold .. =>
      evParts ++ [.gns]
    | .sampleOkRestore | .trackerBRetry .. | .reacqTimeout .. | .exclusionExpire .. | .refreshEnd | .burstWindow .. =>
      tmParts ++ [.gns]
    | .acqDetect .. | .trackerLock .. | .trackerDrop .. | .chRead =>
      [.gns]
    | .sidePeakMove .. =>
      [.live, .gns]
    | .navUnit .. =>
      evParts ++ tmParts ++ [.vbat, .cfg, .srv, .gns]
    | .gnssEpoch .. =>
      evParts ++ tmParts ++ [.ref, .clk, .gns]
    | .rawPps =>
      evParts ++ tmParts ++ [.ref, .clk, .gns, .tim]
    | .tmsgPublish =>
      evParts ++ tmParts ++ [.ref, .gns]
    | .tmsgCapture .. =>
      [.bus, .gns]
    | .timinEdge .. | .evlArm .. | .evlDisarm .. | .evlArmAll .. | .evlDisarmAll .. | .evlPulse .. =>
      evParts ++ tmParts ++ [.tim, .evl]
    | .timCal =>
      [.time, .tim]
    | .timCalDone .. | .timRecal .. | .timWindowEnd .. | .timGateEnd .. =>
      evParts ++ tmParts ++ [.tim]
    | .timResPop .. =>
      [.bus, .tim]
    | .evlTrailingEdge .. | .evlLevel .. =>
      evParts ++ tmParts ++ [.evl]
    | .mbxRx .. | .semAcquire .. =>
      evParts ++ [.mbx, .bus]
    | .mbxAckTimeout .. | .wdtWarn .. =>
      evParts ++ tmParts ++ [.mbx]
    | .mbxOpen .. | .coreStart .. =>
      [.mbx]
    | .wdtExpire .. =>
      evParts ++ tmParts ++ [.mbx, .srv, .rt, .pke, .frees]
    | .fwPkeJob .. =>
      evParts ++ [.mbx, .pke, .frees]
    | .fwKeyImport .. | .fwKeyDelete .. =>
      evParts ++ [.mbx, .srv, .pke]
    | .evtForce .. | .cntHiWrite .. | .cntSnapshot =>
      evParts ++ tmParts
    | .msixUnmask .. =>
      [.evt, .outbox]
    | .cntLoRead .. =>
      [.evt, .bus]
    | .cntLoWrite .. | .cntSnap | .cntClearAll =>
      [.evt]
    | .patrolScrub .. =>
      evParts ++ tmParts ++ [.mbx, .ports, .cals, .cls, .clus, .clt, .srv, .rt, .ptp, .pke, .clk, .tim, .frees]
    | .cellHang .. | .clusterStall .. =>
      evParts ++ tmParts ++ [.cals, .cls, .clus, .srv, .rt, .pke, .frees]
    | .partitionRebindDone .. =>
      evParts ++ tmParts ++ [.cls]
    | .badAccessRead .. =>
      evParts ++ tmParts ++ [.mbx, .bus, .ports, .pke, .gns, .tim, .frees]
    | .backupCounterTick | .vbatRestore =>
      [.vbat]
    | .keySlotNotBefore .. =>
      evParts ++ tmParts ++ [.pke]
    | .watchdogRestart .. =>
      [.live, .mbx]

/-! ## What the raise of events changes -/

/-- EVT_STAT holds the bit of event `e` (R490). -/
def State.evSet (s : State) (e : Nat) : Bool := bitAt (s.rd (Reg.EVT_STAT (e / 32))) (e % 32)

/-- The key of a register that the raise of an event writes: EVT_STAT, and EVT_CORE_STAT of the five cores (R490, R491). -/
def evKey (a : Nat) : Bool :=
  (decide (Reg.EVT_STAT 0 ≤ a) && decide (a < Reg.EVT_STAT 8)) ||
    (decide (1 ≤ a / 0x4000000) && decide (a / 0x4000000 ≤ 5) &&
      decide (Reg.EVT_CORE_STAT 0 ≤ a % 0x4000000) && decide (a % 0x4000000 < Reg.EVT_CORE_STAT 8))

/-- `t` is `s` but for what raises of events change: bits that EVT_STAT and EVT_CORE_STAT gain, the event counters, the MSI-X
pending bits, ALARM_N and the messages sent (R490–R494, R516). -/
structure EvOnly (s t : State) : Prop where
  same : t = { s with live := t.live, outbox := t.outbox, evt := { s.evt with
    cnts := t.evt.cnts, msix := t.evt.msix, alarm := t.evt.alarm, lastSet := t.evt.lastSet } }
  regs : ∀ a, evKey a = false → t.rd a = s.rd a
  sets : ∀ e, s.evSet e = true → t.evSet e = true
  out : ∃ l, t.outbox = l ++ s.outbox ∧ ∀ o ∈ l, ∃ v a b c, o = Out.msix v a b c

/-- `t` is `s` some time later, with nothing done in between: DT and the counters of cycles and occupancies move on
(R14, R15, R497). -/
def Later (s t : State) : Prop := ∃ n, t = s.advTo n

/-! ## Completion -/

/-- Command `i` completes at `s`: `exec` answers a next state, and `P` holds of it. -/
def Does (i : Instr) (s : State) (P : State → Prop) : Prop := ∃ t, exec i s = .next t ∧ P t

/-- R529, R536: what a reset of the core domain leaves: every register and block at its reset value, the backup domain with its
switch closed while it is supplied, OTP without the fuse operation in progress, and the pins. -/
structure CoreReset (s t : State) : Prop where
  regs : t.live = State.reset.live ∧ t.shadow = State.reset.shadow ∧ t.active = State.reset.active ∧ t.rwl = State.reset.rwl
  vbat : t.vbat = { s.vbat with closed := s.vbat.supplied }
  otp : t.otp = { s.otp with fuse := none }
  time : t.time = State.reset.time ∧ t.cfg = State.reset.cfg ∧ t.evt = State.reset.evt ∧ t.bus = State.reset.bus
  cores : t.mbx = State.reset.mbx ∧ t.pke = State.reset.pke
  ports : t.ports = State.reset.ports ∧ t.cals = State.reset.cals ∧ t.cls = State.reset.cls ∧ t.clus = State.reset.clus ∧
    t.clt = State.reset.clt
  services : t.srv = State.reset.srv ∧ t.rt = State.reset.rt ∧ t.ptp = State.reset.ptp
  clocks : t.ref = State.reset.ref ∧ t.clk = State.reset.clk ∧ t.gns = State.reset.gns ∧ t.tim = State.reset.tim ∧
    t.evl = State.reset.evl
  pins : t.boot.resetN = s.boot.resetN ∧ t.boot.powerGood = s.boot.powerGood ∧ t.boot.stage = .rom

/-- R469: the chosen slot failed with cause `c`: start-up goes on with the other slot, from its header (at once from its verification while
APLL0 is locked and the header is known), or without a recipe where there is no other. -/
def SlotFails (c : BootCause) (s t : State) : Prop :=
  if s.boot.fallback then
    t.boot = { s.boot with causeSecond := c, stage := .noRecipe, verified := false }
  else if (if s.boot.slotB then s.boot.hdrA else s.boot.hdrB) = none then
    t.boot = { s.boot with causeFirst := c, causeSecond := .header, stage := .noRecipe, verified := false }
  else
    t.evSet 5 = true ∧
      t.boot = { s.boot with
        causeFirst := c, fallback := true, slotB := !s.boot.slotB, verified := false, dirTypes := [], bundles := []
        apllLocked := s.boot.apllLocked && s.boot.oscFsel != 7
        stage := if s.boot.apllLocked && s.boot.oscFsel != 7 && s.boot.chosen then .verify else .header }

/-- R111, R112, R130: entry `p` has come to the priority queue of cluster `k`: it stands at its end, or is counted as a drop where the
cluster is retired or the queue full. -/
def Pushed (k : Nat) (p : Prio) (s t : State) : Prop :=
  if (s.clu k).retired = true then
    (t.clu k).prio = (s.clu k).prio ∧ (k < 32 → t.rd (Reg.CEL_DROP_RETIRE k) = satAdd (s.rd (Reg.CEL_DROP_RETIRE k)) 1)
  else if (s.clu k).prio.length < 16 then (t.clu k).prio = (s.clu k).prio ++ [p]
  else (t.clu k).prio = (s.clu k).prio ∧ t.evSet 138 = true ∧
    (k < 32 → t.rd (Reg.CEL_DROP_PRIO k) = satAdd (s.rd (Reg.CEL_DROP_PRIO k)) 1)

/-- R149, R248: message `m`, if there is one, has joined the best-effort queue of port `n` as a frame of the firmware; a port that is not
UP takes none. -/
def Queued (n : Nat) (m : Option (List Byte)) (s t : State) : Prop :=
  match m with
  | none => (t.port n).be = (s.port n).be
  | some b => if s.isUp n = true then ∃ f, (t.port n).be = (s.port n).be ++ [f] ∧ f.kind = .core ∧ f.bytes = b
    else (t.port n).be = (s.port n).be

/-- R244, R245, R248: port `n` has answered the client of frame `f` with a signalling message of one TLV, signed where AUTH is 1. -/
def Answered (n : Nat) (f : Frame) (tlv : List Byte) (s t : State) : Prop :=
  (t.ptpPort n).sigSeq = ((s.ptpPort n).sigSeq + 1) % 65536 ∧
    Queued n (s.signed s.cfg.gen n s.time.now (s.sigMsg n (s.ptpDomain s.cfg.gen n) (s.ptpPort n).sigSeq (s.ptpAuth s.cfg.gen n)
      (slice f.payload 20 10) tlv)) s t

/-- R249, R252: client instance `i` has sent a signalling message of one TLV, signed where AUTH is 1. -/
def Asked (i : Nat) (tlv : List Byte) (s t : State) : Prop :=
  (t.client i).sigSeq = ((s.client i).sigSeq + 1) % 65536 ∧
    Queued (s.clPort i) (s.clSigned i (s.sigMsg (s.clPort i) (s.clDomain i) (s.client i).sigSeq (s.clAuth i)
      (List.replicate 10 0xFF) tlv)) s t

/-- R34, R37: slot `i` armed as `x`: a time that is past meets its policy, which fires it at the coming edge, moves it on by whole
periods, or disarms it. While DT is UNSET no time is judged. -/
def State.armedAs (s : State) (i : Nat) (x : Slot) : Slot :=
  if s.time.st = .unset ∨ s.slotPast i x.time = false then x
  else if x.policy = 0 then { x with late := some s.firstTb }
  else if x.policy = 2 ∧ x.period ≠ 0 then
    { x with time := x.time + BitVec.ofNat 64 (s.slotMissed s.dtBefore i x.time x.period * x.period) }
  else { x with armed := false }

/-- The words `m` stand in the inbound queue of the A end of channel `c` after those that stood there, and the firmware of its B end has
taken a request of `n` words after the header. -/
def Replied (s t : State) (c n : Nat) (m : FwMsg) : Prop :=
  (t.chEnd (2 * c + 1)).inq = (s.chEnd (2 * c + 1)).inq.drop (n + 1) ∧
    (t.chEnd (2 * c)).inq = (s.chEnd (2 * c)).inq ++ m

/-- Channel `c` holds a request of CMD `cmd` with header `h` and body `b` that its firmware may serve now, and a reply of up to `n` words
fits (R455–R458). -/
def Serves (s : State) (c cmd : Nat) (h : Word) (b : List Word) (n : Nat) : Prop :=
  s.fwRequest c = some (h, b) ∧ fwCmd h = cmd ∧ (s.chEnd (2 * c)).up = true ∧ (s.fwChan c).backlog = [] ∧
    (s.chEnd (2 * c)).inq.length + n ≤ 8

/-- The commands of a list one after the other, stopping at the first that does not complete. -/
def runAll : List Instr → State → Host.Outcome State Fault Refusal
  | [], s => .next s
  | i :: is, s =>
    match exec i s with
    | .next t => runAll is t
    | .fault r => .fault r
    | .refused r => .refused r

/-- A run is safe when every command of it completes and the state that it leaves keeps what it found. -/
def SafeRun (is : List Instr) (s : State) : Prop := ∃ t, runAll is s = .next t ∧ Keeps s t

end Sys2Proof.Machine
end

