-- ==== Sys2Proof/Certificates/Slice0/Obligations.lean ====
section
/-!
DEFINITION. The statements about the model: how a step runs, what reset leaves, what every command keeps and what it may change, and the effect
and completion of every command of the table by family.
-/

open Sys2Proof Sys2Proof.Machine

/-- A step takes the command at the front of the queue and is exec of it on the state with the queue's rest. On an empty
queue a step is one tick of 200 ps (the model's own choice, log entry 2). -/
def Obligations.StepRuns : Prop :=
  (∀ c r s, s.pending = c :: r → step s = exec c { s with pending := r }) ∧
  (∀ s, s.pending = [] → ∃ t, step s = .next t ∧ t = s.advTo (s.time.now + 1) ∧ t.time.now = s.time.now + 1)

/-- After reset EVT_MASK is all ones and EVT_ROUTE zero, so no vector is pending; MBX_WDT_CFG and KEY_PERM hold the values of
their tables in both configuration sets; every mailbox end is DOWN with its doorbells masked and its acknowledgement
settings; every semaphore is free and no compare slot is armed; the queue is empty. -/
def Obligations.ResetRegisters : Prop :=
  ((∀ g, g < 8 → State.reset.rd (Reg.EVT_MASK g) = 0xFFFFFFFF) ∧ (∀ e, e < 256 → State.reset.rd (Reg.EVT_ROUTE e) = 0) ∧
     (∀ v, State.reset.vecPend v = false) ∧ ∀ e, e < 256 → State.reset.evSet e = false) ∧
  (State.reset.sh Reg.MBX_WDT_CFG = 0x3C030064 ∧ State.reset.ac Reg.MBX_WDT_CFG = 0x3C030064 ∧
     State.reset.sh Reg.KEY_PERM = 0x2121 ∧ State.reset.ac Reg.KEY_PERM = 0x2121 ∧ State.reset.rd Reg.CNT_CTRL = 1) ∧
  (∀ e, State.reset.chEnd e = { up := false, inq := [], db := 0, dbMask := 0xFFFFFFFF, ackTimeout := 1000, ackMask := 2
                                ackFrom := none, lastTx := .ok, under := false, txFull := 0, stalls := 0 }) ∧
  ((∀ i, State.reset.sem i = 0) ∧ (∀ i, (State.reset.slot i).armed = false) ∧ State.reset.pending = [])

/-- The invariant of StepKeeps holds after reset: the three register tables have their canonical form. -/
def Obligations.ResetCanon : Prop :=
  State.reset.canon = true

/-- Every command answers a next state from every state. It leaves the queue, blows fuses but never restores one (no hash or
unique key changes, a revoked key stays revoked and the anti-rollback minima do not fall), and keeps the canonical form of
the registers. -/
def Obligations.ExecCompletes : Prop :=
  ∀ i s, Does i s fun t => Keeps s t

/-- From every state a step answers a next state with the queue's tail. When the register tables were canonical they still
are; OTP only grew. -/
def Obligations.StepKeeps : Prop :=
  ∀ s, ∃ t, step s = .next t ∧ t.pending = s.pending.tail ∧ OtpGrows s.otp t.otp ∧ (s.canon = true → t.canon = true)

/-- When a command answers a next state, every part of the state but those that the table of touched parts names for it is as
before. -/
def Obligations.Frames : Prop :=
  ∀ i s t, exec i s = .next t → Only (touched i) s t

/-- A raise sets the event's bit in the view of every core that enables it. Where its mask is open and its routing names a
vector that was not pending, the vector's message is sent with the address and data of its table entry, or held in its
pending bit while MSI-X is not enabled or a mask is set. -/
def Obligations.EventRaise : Prop :=
  (∀ (s : State) (e : Fin 256) k, k ∈ [Master.kc, .sc0, .sc1, .sc2, .sc3] →
     bitAt (s.rd (bankKey k (Reg.EVT_CORE_EN (e.val / 32)))) (e.val % 32) = true →
     bitAt ((s.raise e.val).rd (bankKey k (Reg.EVT_CORE_STAT (e.val / 32)))) (e.val % 32) = true) ∧
  (∀ (s : State) (e : Fin 256) r v m, (e.val, r) ∈ s.routes → bitAt r 5 = true → fld r 0 5 = v →
     bitAt (s.rd (Reg.EVT_MASK (e.val / 32))) (e.val % 32) = false → s.vecPend v = false →
     m = tget msixDef s.evt.msix (vecFn v).1 →
     if m.enabled = true ∧ m.funMask = false ∧ m.masked.testBit (vecFn v).2 = false then
       .msix v (tget (fun _ => 0) m.tableW (4 * (vecFn v).2)) (tget (fun _ => 0) m.tableW (4 * (vecFn v).2 + 1))
         (tget (fun _ => 0) m.tableW (4 * (vecFn v).2 + 2)) ∈ (s.raise e.val).outbox
     else (tget msixDef (s.raise e.val).evt.msix (vecFn v).1).pending.testBit (vecFn v).2 = true)

/-- Power-good, with RESET_N high, is t0: start-up begins in ROM with the straps sampled, and so does the release of RESET_N
with power-good present; where the pin stood so already nothing changes. The fall of a core rail and RESET_N low reset the
core domain. PERST_N, a function-level reset and a PCIe link down reset the mailbox ends of their functions and release their
semaphores, and leave every other end that is no peer of theirs as it was; that the MSI-X capabilities of the functions are
disabled too is the model's reading (log entries 38 and 77). -/
def Obligations.PowerPins : Prop :=
  (∀ fsel s, Does (.powerGood fsel) s fun t => t = if s.boot.powerGood = true then s
     else { s with boot := if s.boot.resetN
       then { s.boot with powerGood := true, stage := .rom, oscFsel := fsel.val, t0 := s.time.now }
       else { s.boot with powerGood := true } }) ∧
  (∀ fsel s, Does (.resetNRelease fsel) s fun t => t = if s.boot.resetN = true then s
     else { s with boot := if s.boot.powerGood
       then { s.boot with resetN := true, stage := .rom, oscFsel := fsel.val, t0 := s.time.now }
       else { s.boot with resetN := true } }) ∧
  (∀ s, Does .powerFail s fun t => CoreReset { s with boot := { s.boot with powerGood := false } } t ∧ t.outbox = s.outbox) ∧
  (∀ s, Does .resetNAssert s fun t => CoreReset { s with boot := { s.boot with resetN := false } } t ∧ t.outbox = s.outbox) ∧
  (∀ s, Does .perstN s fun t =>
     (∀ e : Fin 38, endMaster e = .pf0 ∨ endMaster e = .pf1 →
       (t.chEnd e).up = false ∧ (t.chEnd e).inq = [] ∧ (t.chEnd e).dbMask = 0xFFFFFFFF) ∧
     (∀ e : Fin 38, endMaster e ≠ .pf0 → endMaster e ≠ .pf1 → endMaster (peerOf e) ≠ .pf0 → endMaster (peerOf e) ≠ .pf1 →
       t.chEnd e = s.chEnd e) ∧
     (∀ i : Fin 64, t.sem i = if s.sem i = Master.pf0.ident ∨ s.sem i = Master.pf1.ident then 0 else s.sem i) ∧
     ∀ f, (tget msixDef t.evt.msix f).enabled = false) ∧
  (∀ pf0 pf1 s, Does (.pcieFunctionReset pf0 pf1) s fun t =>
     (∀ e : Fin 38, (pf0 = true ∧ endMaster e = .pf0) ∨ (pf1 = true ∧ endMaster e = .pf1) →
       (t.chEnd e).up = false ∧ (t.chEnd e).inq = [] ∧ (t.chEnd e).dbMask = 0xFFFFFFFF) ∧
     (∀ i : Fin 64, t.sem i =
       if (pf0 = true ∧ s.sem i = Master.pf0.ident) ∨ (pf1 = true ∧ s.sem i = Master.pf1.ident) then 0 else s.sem i) ∧
     (pf0 = true → (tget msixDef t.evt.msix 0).enabled = false) ∧ (pf1 = true → (tget msixDef t.evt.msix 1).enabled = false))

/-- VBAT below 1.9 V clears RTC_VALID, LEAP_VALID and the valid bit of the holdover average and opens the bypass switch;
without core power the contents of the backup domain go too. Its return sets VBAT_OK and closes the switch unless the
CASC_OUT driver has been enabled; while VBAT is there it changes nothing. While the domain is supplied, by VBAT or with core
power, each crystal period advances the 48-bit seconds and 15-bit sub-second count by one; unsupplied it does not. While the
opening waits, the switch opens and the driver is enabled at the edge at which CASC_IN has been low for 100 ms, if that is
within 2 s of SERVING, and else at the end of the 2 s, with OPEN_FORCED. -/
def Obligations.BackupDomain : Prop :=
  (∀ s, Does .vbatLow s fun t =>
     t.vbat = { ({} : Backup) with
       supplied := false, vbatOk := false, closed := false
       rtcSec := if s.boot.powerGood then s.vbat.rtcSec else 0
       rtcSub := if s.boot.powerGood then s.vbat.rtcSub else 0
       lastAlign := if s.boot.powerGood then s.vbat.lastAlign else 0 } ∧
     (s.time.st = .unset → t = { s with vbat := t.vbat })) ∧
  (∀ s, Does .vbatRestore s fun t => t = if s.vbat.supplied = true then s
     else { s with vbat := { s.vbat with supplied := true, vbatOk := true, closed := !s.serve.cascDrv } }) ∧
  (∀ s, s.vbat.rtcSub < 32768 → s.vbat.rtcSec < 2 ^ 48 → Does .backupCounterTick s fun t =>
     if s.vbat.supplied = true ∨ s.boot.powerGood = true then
       t = { s with vbat := { s.vbat with rtcSec := t.vbat.rtcSec, rtcSub := t.vbat.rtcSub } } ∧ t.vbat.rtcSub < 32768 ∧
       t.vbat.rtcSec * 32768 + t.vbat.rtcSub = (s.vbat.rtcSec * 32768 + s.vbat.rtcSub + 1) % (2 ^ 48 * 32768)
     else t = s) ∧
  (∀ s, Does .bypassOpen s fun t =>
     match s.bypassEdge with
     | some e => if s.serve.openPending = true ∧ e ≤ s.serve.servingAt + 2 * sTicks then
         t.time.now = max s.time.now e ∧ t.vbat = { s.vbat with closed := false } ∧
         t.serve = { s.serve with openPending := false, cascDrv := true, openForced := false }
       else t = s
     | none => t = s) ∧
  (∀ s, Does .bypassOpenForced s fun t =>
     if s.serve.openPending = true ∧ s.bypassEdge.all (fun e => decide (s.serve.servingAt + 2 * sTicks < e)) = true then
       t.time.now = max s.time.now (s.serve.servingAt + 2 * sTicks) ∧ t.vbat = { s.vbat with closed := false } ∧
       t.serve = { s.serve with openPending := false, cascDrv := true, openForced := true }
     else t = s)

/-- APLL0 locks at a tick at which a TBCLK and a CCLK edge coincide, GS_REFOUT runs if GNS_CTRL enables it, and verification
begins once a slot is chosen. The header stage keeps the candidates and chooses the one with the greater SEQ; with none the
TE-9 stands in NO_RECIPE. A slot whose read, signature and directory are good passes to EFESK with the time floor taken and
DT loaded if it was not; good Efesk bundles, one at least of each type, pass to LOAD; the load brings the engines online,
puts the cores into LOADING with the hash of their image, and goes to CONFIG. A slot that fails any of these fails with the
cause of its first fault: start-up goes on with the other candidate, or stands in NO_RECIPE. Out of its stage none of the
commands changes anything. -/
def Obligations.StartUpStages : Prop :=
  (∀ dur s, Does (.apll0Lock dur) s fun t =>
     if s.boot.powerGood = true ∧ s.boot.resetN = true ∧ s.boot.apllLocked = false ∧ s.boot.stage ≠ .noRecipe ∧
         (s.boot.oscFsel = 7 → s.boot.chosen = true) then
       t.boot = { s.boot with apllLocked := true, stage := if s.boot.chosen then .verify else s.boot.stage } ∧
       t.gns.refout = (if bitAt (s.ac Reg.GNS_CTRL) 1 then some (1023, 500000) else none) ∧
       t.time.now % 20 = 0 ∧ s.time.now ≤ t.time.now
     else t = s) ∧
  (∀ flash a b dur s, Does (.headerStage flash a b dur) s fun t =>
     if s.boot.powerGood = true ∧ s.boot.resetN = true ∧ s.boot.stage = .rom then
       if a.filter (s.candidate (slotSize flash)) = none ∧ b.filter (s.candidate (slotSize flash)) = none then
         t.boot = { s.boot with causeFirst := .header, causeSecond := .header, stage := .noRecipe, verified := false }
       else
         t.boot.hdrA = a.filter (s.candidate (slotSize flash)) ∧ t.boot.hdrB = b.filter (s.candidate (slotSize flash)) ∧
         t.boot.chosen = true ∧ (t.boot.stage = if s.boot.apllLocked then .verify else .header) ∧
         (t.boot.slotB = true ↔ ∃ y, t.boot.hdrB = some y ∧ ∀ x, t.boot.hdrA = some x → x.seq < y.seq)
     else t = s) ∧
  (∀ img dur s, Does (.slotVerify img dur) s fun t =>
     match s.slotHdr with
     | none => t = s
     | some h =>
       if s.boot.stage ≠ .verify then t = s
       else if img.readOk = false then SlotFails .nvError s t
       else if s.signatureOk h img = false then SlotFails .signature s t
       else match dirFault h.totalLen img.dir with
         | some f => SlotFails f.1 { s with boot := { s.boot with dtLoaded := true } } t
         | none => t.time.floor = h.timeFloor ∧ t.boot = { s.boot with
             stage := .efesk, verified := true, dtLoaded := true, dirTypes := img.dir.map (·.type) } ∧
           (s.boot.dtLoaded = false → t.time.st =
             if s.vbat.rtcValid = true ∧ h.timeFloor ≤ s.vbat.rtcSec then .rtcSeeded else .floorSeeded)) ∧
  (∀ bundles dur s, Does (.efeskVerify bundles dur) s fun t =>
     if s.boot.stage ≠ .efesk then t = s
     else if bundles.all s.efeskOk = true ∧ [0x10, 0x11, 0x12, 0x13].all (fun k => bundles.any (fun b => b.sectionType == k)) = true then
       t.boot = { s.boot with stage := .load, bundles := bundles }
     else SlotFails .efesk s t) ∧
  (∀ server cert readOk dur s, Does (.loadStage server cert readOk dur) s fun t =>
     if s.boot.stage ≠ .load then t = s
     else if readOk = false then SlotFails .nvError s t
     else t.boot = { s.boot with stage := .config } ∧
       t.srv = { s.srv with keServer := server, keCert := cert } ∧ (∀ i : Fin 8, (t.eng i).online = true) ∧
       ∀ c : Fin 5, (t.core c).mode = .loading ∧ (t.core c).imageHash = (t.core c).goodHash)

/-- CONFIG applies the records in order and goes on to KEYS; a record that fails ends it and the slot fails with RECORD. KEYS
runs the five cores and imports the sections; it ends with the flash bus released, or the slot fails with BUNDLE at a section
that FLAGS does not let it pass over. The initial commit, once KEYS has ended, makes the shadow set active and keeps it, and
the TE-9 is RUNNING with GLB_STAT counting the milliseconds since t0. Out of its stage none of the three changes anything.
RELOAD by KC or PF1 resets the core domain and start-up begins again in ROM with the straps as sampled; while the core domain
is in reset it does nothing; from another master it raises EV192 and does nothing else. -/
def Obligations.StartUpEnd : Prop :=
  (∀ recs leap dur s, Does (.configStage recs leap dur) s fun t =>
     if s.boot.stage ≠ .config then t = s
     else match (s.stageTime dur (usTicks * recs.length)).records 0 recs with
       | .ok u => t.boot = { u.boot with stage := .keys } ∧ t.shadow = u.shadow
       | .error e => SlotFails .record e.1 t) ∧
  (∀ keys dur s, Does (.keysStage keys dur) s fun t =>
     if s.boot.stage ≠ .keys ∨ s.boot.keysDone = true then t = s
     else if ((([4, 0, 1, 2, 3].foldl State.coreRun s).stageTime dur (msTicks * (40 * keys.length))).importKeys
         (((s.slotHdr.map SlotHeader.flags).getD 0).testBit 1) 0 keys).1 = none then
       t.boot = { s.boot with keysDone := true, nvReleased := true } ∧
       ∀ c : Fin 5, (t.core c).mode = .running ∧ (t.core c).wdtFrom = s.time.now
     else SlotFails .bundle s t) ∧
  (∀ keys dur s, s.boot.stage = .keys → s.boot.keysDone = false →
     (keys = [] ∨ ((s.slotHdr.map SlotHeader.flags).getD 0).testBit 1 = true) →
     Does (.keysStage keys dur) s fun t => t.boot = { s.boot with keysDone := true, nvReleased := true }) ∧
  (∀ s, Does .initialCommit s fun t =>
     if s.boot.stage = .keys ∧ s.boot.keysDone = true then
       t.active = s.shadow ∧ t.shadow = s.shadow ∧ t.cfg.initialDone = true ∧
       t.boot = { s.boot with stage := .running, bootMs := (s.cclkAfter 0 - s.boot.t0) / msTicks }
     else t = s) ∧
  (∀ m s, m.secure = true → Does (.reload m) s fun t =>
     if s.boot.powerGood = true ∧ s.boot.resetN = true then
       CoreReset s t ∧ t.boot.oscFsel = s.boot.oscFsel ∧ t.outbox = s.outbox
     else t = s) ∧
  (∀ m s, m.secure = false → Does (.reload m) s fun t => EvOnly s t ∧ t.evSet 192 = true)

/-- Commanded by KC or PF1 with a recipe running and no fuse operation in progress, RAISE_SEC_VER and REVOKE start one of 10
ms, but for the key slot of the running recipe, whose revocation is refused; without a running recipe, or while an operation
is in progress, they do nothing. At its end the minimum is at least the running recipe's SEC_VER, or the key is revoked; with
none in progress nothing changes. Another master's command raises EV192 and does nothing else. -/
def Obligations.OtpFuses : Prop :=
  (∀ m s, m.secure = true → Does (.otpRaiseSecVer m) s fun t =>
     t = if s.otp.fuse = none ∧ s.running.isSome = true
       then { s with otp := { s.otp with fuse := some (.raiseSecVer, s.time.now + 10 * msTicks) } } else s) ∧
  (∀ m key s, m.secure = true → Does (.otpRevoke m key) s fun t =>
     t = if s.otp.fuse = none ∧ s.running.isSome = true ∧ s.running.map SlotHeader.keyIdx ≠ some key.val
       then { s with otp := { s.otp with fuse := some (.revoke key.val, s.time.now + 10 * msTicks) } } else s) ∧
  (∀ m key s, m.secure = false → Does (.otpRaiseSecVer m) s (fun t => EvOnly s t ∧ t.evSet 192 = true) ∧
     Does (.otpRevoke m key) s (fun t => EvOnly s t ∧ t.evSet 192 = true)) ∧
  (∀ s, Does .otpFuseDone s fun t =>
     match s.otp.fuse with
     | none => t = s
     | some (.raiseSecVer, e) => t.time.now = max s.time.now e ∧
       t.otp = { s.otp with fuse := none, secVerMin := max s.otp.secVerMin ((s.running.map (·.secVer)).getD 0) }
     | some (.revoke k, e) => t.time.now = max s.time.now e ∧
       t.otp = { s.otp with fuse := none, revoked := s.otp.revoked ||| 2 ^ k })

/-- COMMIT_NOW places the commit edge at the 16th CCLK edge, is merged into one that waits, and is refused while a commit is
scheduled and in the CCLK cycle in which CS036 fires. SCHEDULE arms CS036 at CFG_AT with LOCK_ON_SCHED locking the shadow
set; a time that is past fires late or, with REJECT or SKIP, is not armed, unlocks and raises EV010. CANCEL disarms CS036 and
unlocks; REVERT copies the active set into the shadow set unless it is locked, and is refused then. Before the initial commit
each is refused: CMD_REFUSED with EV003. -/
def Obligations.CommitCommands : Prop :=
  (∀ i s, (i = .commitNow ∨ i = .commitSchedule ∨ i = .commitCancel ∨ i = .configRevert) → s.cfg.initialDone = false →
     Does i s fun t => EvOnly (s.orBits Reg.CFG_STAT (bitMask 7)) t ∧ t.evSet 3 = true) ∧
  (∀ s, s.cfg.initialDone = true → Does .commitNow s fun t =>
     if (s.slot 36).armed = true ∨ (∃ e ∈ s.cfg.schedAt, e / cclkTicks * cclkTicks = s.cclkAfter 0) then
       EvOnly (s.orBits Reg.CFG_STAT (bitMask 7)) t ∧ t.evSet 3 = true
     else if s.nowPending = true then t = s.orBits Reg.CFG_STAT (bitMask 8)
     else t = { s with cfg := { s.cfg with nowEdge := some (s.cclkAfter 16) } }) ∧
  (∀ s, s.cfg.initialDone = true → Does .commitSchedule s fun t =>
     t.slot 36 = s.armedAs 36 {
       armed := true
       time := BitVec.ofNat 64 (join32 (s.rd Reg.CFG_AT_LO) (s.rd Reg.CFG_AT_HI))
       policy := fld (s.rd Reg.CFG_CTRL) 1 2 } ∧
     t.cfg = { s.cfg with locked := (s.cfg.locked || bitAt (s.rd Reg.CFG_CTRL) 0) && (t.slot 36).armed } ∧
     t.shadow = s.shadow ∧ t.active = s.active ∧ ((t.slot 36).armed = false → t.evSet 10 = true)) ∧
  (∀ s, s.cfg.initialDone = true → Does .commitCancel s fun t =>
     t = { s.updSlot 36 (fun x => { x with armed := false, late := none }) with cfg := { s.cfg with locked := false } }) ∧
  (∀ s, s.cfg.initialDone = true → Does .configRevert s fun t =>
     if s.cfg.locked = true then EvOnly (s.orBits Reg.CFG_STAT (bitMask 7)) t ∧ t.evSet 3 = true
     else t = { s with shadow := s.active })

/-- The commit edge that is due first takes place, the immediate one or that of CS036, which then shows FIRED. With no
retiring set every shadow value becomes active, the shadow set keeps its values, the generation advances and the set before
retires; while a set retires the commit is deferred with EV002 and the active set stays. The retiring set is released once no
item of its generation remains, and at its limit in any case, when the items that remain are counted with EV007; a deferred
commit takes place at that edge. The oldest RWL value takes effect at its edge on its own port alone: ASYM_RX and ASYM_TX
join their ports' values with their edge, DEP_TOL replaces the one before. With nothing due, nothing changes. -/
def Obligations.CommitEdges : Prop :=
  (∀ s e, s.cfg.nowEdge = some e → (s.slotReady 36 = true → e ≤ s.slotTick 36) → Does .commit s fun t =>
     t.boot = s.boot ∧ t.shadow = s.shadow ∧ t.cfg.nowEdge = none ∧
     if s.cfg.retiring.isSome = true then
       t.active = s.active ∧ t.evSet 2 = true ∧ t.time.now = max s.time.now e ∧
       t.cfg = { s.cfg with nowEdge := none, deferred := s.cfg.deferred ++ [⟨t.nowG, false⟩] }
     else t.active = s.shadow ∧ t.cfg.gen = nextGen s.cfg.gen ∧ ∃ lim, t.cfg.retiring = some ⟨s.cfg.gen, s.active, lim⟩) ∧
  (∀ s, s.slotReady 36 = true → (∀ e, s.cfg.nowEdge = some e → s.slotTick 36 < e) → Does .commit s fun t =>
     t.boot = s.boot ∧ t.shadow = s.shadow ∧ bitAt (t.rd (Reg.TSC_CS_STAT 36)) 0 = true ∧
     ((s.slot 36).period = 0 → (t.slot 36).armed = false) ∧
     if s.cfg.retiring.isSome = true then
       t.active = s.active ∧ t.evSet 2 = true ∧ ∃ tc, t.cfg.deferred = s.cfg.deferred ++ [⟨tc, true⟩]
     else t.active = s.shadow ∧ t.cfg.gen = nextGen s.cfg.gen ∧ ∃ lim, t.cfg.retiring = some ⟨s.cfg.gen, s.active, lim⟩) ∧
  (∀ s, s.cfg.nowEdge = none → s.slotReady 36 = false → Does .commit s fun t => t = s) ∧
  (∀ s, Does .retiringRelease s fun t =>
     match s.cfg.retiring with
     | none => t = s
     | some r =>
       if s.itemsOf r.gen ≠ 0 then t = s
       else match s.cfg.deferred with
         | [] => t = { s.advTo (s.cclkAfter 0) with cfg := { s.cfg with retiring := none } }
         | _ :: l => t.active = s.shadow ∧ t.shadow = s.shadow ∧ t.cfg.deferred = l ∧ t.cfg.gen = nextGen s.cfg.gen ∧
           ∃ lim, t.cfg.retiring = some ⟨s.cfg.gen, s.active, lim⟩) ∧
  (∀ s, Does .retiringLimit s fun t =>
     match s.cfg.retiring with
     | none => t = s
     | some r => t.shadow = s.shadow ∧ (s.itemsOf r.gen ≠ 0 → t.evSet 7 = true) ∧
       match s.cfg.deferred with
       | [] => t.cfg = { s.cfg with retiring := none } ∧ t.active = s.active ∧ t.time.now = max s.time.now r.limitAt ∧
         t.rd Reg.CFG_GEN_DROP = satAdd (s.rd Reg.CFG_GEN_DROP) (s.itemsOf r.gen)
       | _ :: l => t.active = s.shadow ∧ t.cfg.deferred = l ∧ t.cfg.gen = nextGen s.cfg.gen ∧
         ∃ lim, t.cfg.retiring = some ⟨s.cfg.gen, s.active, lim⟩) ∧
  (∀ s, Does .rwlEffect s fun t =>
     match s.rwl with
     | [] => t = s
     | w :: l => t.rwl = l ∧ t.time.now = max s.time.now w.due ∧ ∀ n : Fin 8, t.port n =
       let p := s.port n
       let e : Versioned := ⟨t.nowSt, sfld w.val 0 24⟩
       if w.addr = Reg.PRT_ASYM_RX n then { p with asymRx := keepVersions t.nowSt (e :: p.asymRx) }
       else if w.addr = Reg.PRT_ASYM_TX n then { p with
         asymTx := keepVersions t.nowSt (e :: p.asymTx)
         be := p.be.map (fun f => if t.time.now < f.since then { f with asymTx := sfld w.val 0 24 } else f) }
       else if w.addr = Reg.PRT_DEP_TOL n then { p with depTol := fld w.val 0 8 }
       else p)

/-- A read of TSC_DT_FRAC or TSC_ST64_LO captures DT96 and ST64 of the last TBCLK edge before the CCLK edge that accepts it
into the reader's own set and answers from it; the other sets stay. A core's load of its local time port reads the same way.
Time passes to the next DT second, unless DT is UNSET; while DT is ALIGNED the backup counter is loaded with SEC there and is
valid, and no core shows a load above 100 %, nor one that does not run a load above 0. -/
def Obligations.ReadingTime : Prop :=
  (∀ m st wide s, Does (.dtCapture m st wide) s fun t =>
     t.time.now = s.cclkAfter 0 ∧ tget captDef t.time.capt m.bank = captureOf (s.advTo (s.cclkAfter 0)).dtBefore ∧
     (∀ b, b ≠ m.bank → tget captDef t.time.capt b = tget captDef s.time.capt b) ∧
     t.bus.data = let c := tget captDef t.time.capt m.bank
       if st = false then [BitVec.ofNat 32 c.frac]
       else if wide = true then [lo32 c.st64.toNat, hi32 c.st64.toNat] else [lo32 c.st64.toNat]) ∧
  (∀ c s, Does (.timePortLoad c) s fun t =>
     tget captDef t.time.localRead c.val = captureOf (s.advTo (s.cclkAfter 0)).dtBefore ∧
     (∀ b, b ≠ c.val → tget captDef t.time.localRead b = tget captDef s.time.localRead b) ∧ t.time.capt = s.time.capt) ∧
  (∀ s, Does .dtSecondBoundary s fun t =>
     if s.time.st = .unset then t = s
     else t.time.now = max s.time.now (s.tickOfDt (secUnit * (s.sec + 1))) ∧
       (∀ c : Fin 5, (t.core c).load ≤ 100 ∧ ((s.core c).mode ≠ .running → (t.core c).load = 0)) ∧
       (s.time.st = .aligned → t.vbat.rtcValid = true ∧ t.vbat.rtcSub = 0 ∧
         t.vbat.rtcSec = (s.advDt (secUnit * (s.sec + 1))).sec % 2 ^ 48 ∧ t.vbat.lastAlign = t.vbat.rtcSec))

/-- With HOST_EN a valid insertion or deletion that no source of higher precedence bars becomes the pending leap at the
staged LEAP_AT, and before the freeze a cancellation removes it; EV013 tells of a change. A command that may not act raises
EV011 and changes nothing else. While a leap is pending, time passes to LEAP_AT - 60 s, and FROZEN holds from then on. When
CS037 fires with a leap pending OFFSET becomes NEW_OFFSET, the table is empty and EV014 is raised; with none nothing changes.
-/
def Obligations.LeapTable : Prop :=
  (∀ s d, Does (if d then .leapHostDelete else .leapHostInsert) s fun t =>
     if s.leapHostEn = true ∧ s.leapMay .host = true ∧ s.leapValid s.leapStaged d = true then
       t.vbat = { s.vbat with pend := some ⟨s.leapStaged, d, .host⟩, frozen := t.vbat.frozen } ∧
       (s.vbat.pend ≠ t.vbat.pend → t.evSet 13 = true)
     else EvOnly s t ∧ t.evSet 11 = true) ∧
  (∀ s, Does .leapHostCancel s fun t =>
     if s.leapHostEn = true ∧ s.vbat.frozen = false then
       t.vbat = { s.vbat with pend := none, frozen := t.vbat.frozen } ∧ (s.vbat.pend ≠ none → t.evSet 13 = true)
     else EvOnly s t ∧ t.evSet 11 = true) ∧
  (∀ s, Does .leapFreeze s fun t =>
     match s.vbat.pend with
     | none => t = s
     | some p => t.vbat = { s.vbat with frozen := t.vbat.frozen } ∧ (t.vbat.frozen = true ↔ p.at_ ≤ t.sec + 60) ∧
       t.time.now = max s.time.now (s.tickOfDt (secUnit * (p.at_ - 60)))) ∧
  (∀ s, Does .leapApply s fun t =>
     match s.vbat.pend with
     | none => t = s
     | some p =>
       if s.slotReady 37 = true then
         t.vbat = { s.vbat with offset := s.vbat.newOffset p.delete, pend := none, frozen := false } ∧
         t.srv.smear = none ∧ t.evSet 14 = true
       else t = s)

/-- ARM by a master that may write the slot puts the staged time, period and policy into the comparator, where a time that is
past meets its policy; registers that R32 refuses leave the slot disarmed with BAD_ARM and EV011. DISARM, also beside ARM,
clears ARMED. A firing due in the same CCLK cycle comes first. A write of a bound slot, or of another core's firmware slot,
changes no slot and raises EV011; a non-secure write of a secure slot changes none and raises EV192. A slot that fires shows
FIRED, a one-shot slot is disarmed; a general slot with ACTION EVENT sets its bit in TSC_CS_FIRE_MAP with EV008, with
SNAP_CNT raises EV244. A slot that is not ready does not fire. -/
def Obligations.CompareSlots : Prop :=
  (∀ m i ctrl s u, (s.advTo (s.cclkAfter 0)).slotAccess m i.val = .ok () →
     u = ((s.advTo (s.cclkAfter 0)).slotDue i.val).wr (Reg.TSC_CS_CTRL i.val)
       ((ctrl ||| 1) &&& (if i.val < 128 then 0x1C else 0xFF0F1C)) →
     Does (.csArm m i ctrl) s fun t => (∀ j, j ≠ i.val → t.slot j = u.slot j) ∧
       if bitAt ctrl 1 = true then t.slot i.val = { u.slot i.val with armed := false, late := none }
       else if u.slotArmBad i.val = true then
         t.slot i.val = { u.slot i.val with armed := false, late := none } ∧ t.evSet 11 = true ∧
         bitAt (t.rd (Reg.TSC_CS_STAT i.val)) 4 = true
       else t.slot i.val = u.armedAs i.val {
         armed := true
         time := BitVec.ofNat 64 (join32 (u.rd (Reg.TSC_CS_TIME_LO i.val)) (u.rd (Reg.TSC_CS_TIME_HI i.val)))
         period := join32 (u.rd (Reg.TSC_CS_PERIOD_LO i.val)) (u.rd (Reg.TSC_CS_PERIOD_HI i.val))
         policy := fld (ctrl ||| 1) 2 2
         follow := bitAt (ctrl ||| 1) 4 }) ∧
  (∀ m i ctrl s u, (s.advTo (s.cclkAfter 0)).slotAccess m i.val = .ok () →
     u = (s.advTo (s.cclkAfter 0)).slotDue i.val →
     Does (.csDisarm m i ctrl) s fun t =>
       t.slot i.val = { u.slot i.val with armed := false, late := none } ∧ ∀ j, j ≠ i.val → t.slot j = u.slot j) ∧
  (∀ m (i : Fin 256) ctrl s c, c = Instr.csArm m i ctrl ∨ c = Instr.csDisarm m i ctrl →
     (i.val < 96 ∨ (i.val < 128 ∧ slotCore i.val ≠ m) → Does c s fun t => (∀ j, t.slot j = s.slot j) ∧ t.evSet 11 = true) ∧
     (240 ≤ i.val → m.secure = false → Does c s fun t => (∀ j, t.slot j = s.slot j) ∧ t.evSet 192 = true)) ∧
  (∀ (i : Fin 32) s, Does (.firmwareSlotFire i) s fun t =>
     if s.slotReady (96 + i.val) = true then
       bitAt (t.rd (Reg.TSC_CS_STAT (96 + i.val))) 0 = true ∧ t.time.now = max s.time.now (s.slotTick (96 + i.val)) ∧
       ((s.slot (96 + i.val)).period = 0 → t.slot (96 + i.val) = { s.slot (96 + i.val) with armed := false, late := none })
     else t = s) ∧
  (∀ (i : Fin 128) s a, fld (s.rd (Reg.TSC_CS_CTRL (128 + i.val))) 8 4 = a → Does (.compareSlotFire i) s fun t =>
     if s.slotReady (128 + i.val) = true then
       bitAt (t.rd (Reg.TSC_CS_STAT (128 + i.val))) 0 = true ∧
       ((s.slot (128 + i.val)).period = 0 → (t.slot (128 + i.val)).armed = false) ∧
       (a = 1 → t.evSet 8 = true ∧ bitAt (t.rd (Reg.TSC_CS_FIRE_MAP ((128 + i.val) / 32))) ((128 + i.val) % 32) = true) ∧
       (a = 2 → t.evSet 244 = true)
     else t = s)

/-- The lanes under power that detect a signal are shown, and a port that is DOWN starts its receive sweep when they are
every lane of its mode. The sweep ends after 0.8 ms and training starts; with the PCS link status true the calibration check
starts; 0.2 ms later the calibration is loaded, or the nominal values where it failed, and the port is UP with EV096 and an
unlocked grid. A port that loses its link, or is told to calibrate again, goes DOWN from UP with its calendar and best-effort
queue emptied and EV097, and from bring-up at once; no other port's link changes. Each second drift tracking moves CAL_RX and
CAL_TX of an UP port by the drift, at most 2 ps, reads SKEW again and counts. A port in another state is left as it is. -/
def Obligations.LinkStates : Prop :=
  (∀ n lanes s, Does (.signalDetect n lanes) s fun t => t = s.updPort n.val (fun p =>
     if p.link = .down ∧ s.modeMask n.val ≠ 0 ∧ lanes.val &&& s.modeMask n.val = s.modeMask n.val
       then { p with sigDet := lanes.val &&& p.lanesOn, link := .calRx, stepAt := s.time.now }
     else { p with sigDet := lanes.val &&& p.lanesOn })) ∧
  (∀ n s, Does (.rxSweepDone n) s fun t =>
     if (s.port n.val).link = .calRx then
       t.port n.val = { s.port n.val with link := .training, stepAt := t.time.now } ∧
       t.time.now = max s.time.now ((s.port n.val).stepAt + 800 * usTicks) ∧ ∀ m, m ≠ n.val → t.port m = s.port m
     else t = s) ∧
  (∀ n s, Does (.pcsLinkUp n) s fun t => t = if (s.port n.val).link = .training
     then s.updPort n.val (fun p => { p with link := .calCheck, stepAt := s.time.now }) else s) ∧
  (∀ n c s ok, (ok = true ↔ c.residualOk = true ∧ (c.rx - s.calRxNom n.val).natAbs ≤ 2000 ∧ (c.tx - s.calTxNom n.val).natAbs ≤ 2000) →
     Does (.linkUp n c) s fun t =>
       if (s.port n.val).link = .calCheck then
         (t.port n.val).link = .up ∧ (t.port n.val).gridPhase = c.gridPhase ∧ (t.port n.val).gridLock = false ∧
         (t.port n.val).calRx = (if ok then c.rx else s.calRxNom n.val) ∧
         (t.port n.val).calTx = (if ok then c.tx else s.calTxNom n.val) ∧
         (t.port n.val).skew = (if ok then c.skews else []) ∧ (t.port n.val).calState = (if ok then 1 else 2) ∧
         (ok = false → t.evSet 98 = true) ∧ t.evSet 96 = true ∧ (s.port n.val).stepAt + 200 * usTicks ≤ t.time.now ∧
         ∀ m, m ≠ n.val → (t.port m).link = (s.port m).link
       else t = s) ∧
  (∀ n lanes s c, c = Instr.linkDown n lanes ∨ c = Instr.calRetry n → Does c s fun t =>
     (t.port n.val).link = (if (s.port n.val).link = .up ∨ (s.port n.val).link = .calRx ∨ (s.port n.val).link = .training ∨
       (s.port n.val).link = .calCheck then .down else (s.port n.val).link) ∧
     ((s.port n.val).link = .up → (t.port n.val).be = [] ∧ (t.cal n.val).frames = [] ∧ (t.cal n.val).pouring = [] ∧
       (t.port n.val).gridLock = false ∧ t.evSet 97 = true) ∧
     (c = Instr.linkDown n lanes → (t.port n.val).sigDet = lanes.val &&& (s.port n.val).lanesOn) ∧
     ∀ m, m ≠ n.val → (t.port m).link = (s.port m).link) ∧
  (∀ n rx tx skews s, Does (.calTrack n rx tx skews) s fun t =>
     if s.isUp n.val = true ∧ bitAt (s.ac (Reg.PRT_CTRL n.val)) 4 = true then
       t.port n.val = { s.port n.val with
         calRx := trackBy (s.port n.val).calRx rx, calTx := trackBy (s.port n.val).calTx tx, skew := skews
         trackCount := min 65535 ((s.port n.val).trackCount + 1), trackAt := (s.port n.val).trackAt + sTicks } ∧
       ((t.port n.val).calRx - (s.port n.val).calRx).natAbs ≤ 2 ∧ ((t.port n.val).calTx - (s.port n.val).calTx).natAbs ≤ 2 ∧
       (s.port n.val).trackAt ≤ t.time.now
     else t = s)

/-- On an UP port with ESMC enabled, whose firmware core serves, a valid PDU is recorded in PRT_ESMC_RX with TIMEOUT clear
and its time, with EV104 where its codes differ from those recorded (and where it ends TIMEOUT, log entry 51); otherwise it
changes nothing. With ESMC enabled, 5 s without a PDU set TIMEOUT with EV105; a TIMEOUT that stands is left. Time passes to
the first information PDU due among the ports that send; each of those ports whose second has passed sends one, a best-effort
frame of 64 bytes, and its next is due a second later. An event PDU goes out of each sending port whose QL differs from the
one last sent. No other port sends. -/
def Obligations.EsmcMessages : Prop :=
  (∀ n ssm essm s, Does (.esmcPduReceived n ssm essm) s fun t =>
     if bitAt (s.ac (Reg.PRT_ESMC_TX n.val)) 0 = true ∧ s.isUp n.val = true ∧ s.taskStopped 0 = false then
       (t.port n.val).esmcAt = s.time.now ∧ t.rd (Reg.PRT_ESMC_RX n.val) = esmcWord ssm.val ((essm.map Fin.val).getD 0) false ∧
       (fld (t.rd (Reg.PRT_ESMC_RX n.val)) 0 12 ≠ fld (s.rd (Reg.PRT_ESMC_RX n.val)) 0 12 ∨
         bitAt (s.rd (Reg.PRT_ESMC_RX n.val)) 12 = true → t.evSet 104 = true)
     else t = s) ∧
  (∀ n s, Does (.esmcTimeout n) s fun t =>
     if bitAt (s.ac (Reg.PRT_ESMC_TX n.val)) 0 = true ∧ bitAt (s.rd (Reg.PRT_ESMC_RX n.val)) 12 = false then
       t.rd (Reg.PRT_ESMC_RX n.val) = putBit (s.rd (Reg.PRT_ESMC_RX n.val)) 12 true ∧ t.evSet 105 = true ∧
       t.time.now = max s.time.now ((s.port n.val).esmcAt + 5 * sTicks)
     else t = s) ∧
  (∀ s, Does .esmcInfoSend s fun t => ∃ l, t.outbox = l ++ s.outbox ∧
     (∀ n : Fin 8, (s.esmcOn n.val = true ∧ (s.port n.val).esmcTxAt ≤ t.time.now) ↔
       Out.esmc n.val (s.esmcCode n.val) false (bitAt (s.ac (Reg.PRT_ESMC_TX n.val)) 1) ∈ l) ∧
     (∀ n : Fin 8, s.esmcOn n.val = true → t.time.now ≤ max s.time.now (s.port n.val).esmcTxAt ∧
       if (s.port n.val).esmcTxAt ≤ t.time.now then
         (t.port n.val).esmcTxAt = t.time.now + sTicks ∧ ∃ f : BeFrame, (t.port n.val).be = (s.port n.val).be ++ [f] ∧
           f.kind = .core ∧ f.len = 64 ∧ f.bytes = esmcPdu (s.esmcCode n.val) false (bitAt (s.ac (Reg.PRT_ESMC_TX n.val)) 1)
       else t.port n.val = s.port n.val) ∧
     ((∃ n : Fin 8, s.esmcOn n.val = true) → ∃ n : Fin 8, s.esmcOn n.val = true ∧ (s.port n.val).esmcTxAt ≤ t.time.now) ∧
     ((∀ n : Fin 8, s.esmcOn n.val = false) → t = s)) ∧
  (∀ s, Does .esmcEventSend s fun t => ∃ l, t.outbox = l ++ s.outbox ∧
     ∀ n : Fin 8, ((s.esmcOn n.val = true ∧ s.esmcCode n.val ≠ (s.port n.val).esmcQlSent) ↔
       Out.esmc n.val (s.esmcCode n.val) true (bitAt (s.ac (Reg.PRT_ESMC_TX n.val)) 1) ∈ l) ∧
       if s.esmcOn n.val = true ∧ s.esmcCode n.val ≠ (s.port n.val).esmcQlSent then
         (t.port n.val).esmcQlSent = s.esmcCode n.val ∧ ∃ f : BeFrame, (t.port n.val).be = (s.port n.val).be ++ [f] ∧
           f.kind = .core ∧ f.len = 64 ∧ f.bytes = esmcPdu (s.esmcCode n.val) true (bitAt (s.ac (Reg.PRT_ESMC_TX n.val)) 1)
       else t.port n.val = s.port n.val)

/-- A pop of the timestamp queue removes, latches and returns its oldest entry; of an empty queue it returns 0 and changes no
latch. A producer index below the ring size is taken, with the receive buffers posted; one at or above it is discarded with
EV100. A fetch with no descriptor changes nothing. A descriptor of 60 to 9,212 bytes joins the best-effort queue of an UP
port with 4 bytes of FCS; another length, or a port that is not UP, consumes it unsent with EV107, with a DROPPED timestamp
entry where one was asked for (lost with EV102 when 64 entries wait; the first with EV101), counted in PRT_DROP_LINK when the
length was allowed. -/
def Obligations.HostRings : Prop :=
  (∀ n s, Does (.tsqPop n) s fun t => match (s.port n.val).tsq with
     | [] => t = { s with bus := { data := [0] } }
     | e :: r => t = { s.updPort n.val (fun p => { p with tsq := r, tsqLatch := e }) with bus := { data := [tsqWord e r.length] } }) ∧
  (∀ n idx s, Does (.hostTxProduce n idx) s fun t => if idx.val < s.ringSize (Reg.PRT_HTX_SIZE n.val)
     then t = s.wr (Reg.PRT_HTX_PROD n.val) (BitVec.ofNat 32 idx.val)
     else EvOnly (s.orBits (Reg.PRT_EVT n.val) (bitMask 4)) t ∧ t.evSet 100 = true) ∧
  (∀ n idx bufs s, Does (.hostRxPost n idx bufs) s fun t => if idx.val < s.ringSize (Reg.PRT_HRX_SIZE n.val)
     then t = (s.updPort n.val (fun p => { p with rxBufs := p.rxBufs ++ bufs })).wr (Reg.PRT_HRX_PROD n.val) (BitVec.ofNat 32 idx.val)
     else EvOnly (s.orBits (Reg.PRT_EVT n.val) (bitMask 4)) t ∧ t.evSet 100 = true) ∧
  (∀ n d s u, u = s.updPort n.val (fun p => { p with
       htxFetch := (p.htxFetch + 1) % max 1 (s.ringSize (Reg.PRT_HTX_SIZE n.val)) }) →
     Does (.hostTxDescriptor n d) s fun t =>
       if (s.rd (Reg.PRT_HTX_PROD n.val)).toNat = (s.port n.val).htxFetch then t = s
       else if 60 ≤ d.len ∧ d.len ≤ 9212 ∧ s.isUp n.val = true then
         t = u.updPort n.val (fun p => { p with
           be := p.be ++ [{ kind := .host d.tag d.tsReq, len := d.len + 4, since := s.time.now, bytes := d.bytes
                            asymTx := valueAt p.asymTx s.nowSt }] })
       else
         t.evSet 107 = true ∧ (t.port n.val).be = (s.port n.val).be ∧
         t.rd (Reg.PRT_HTX_CONS n.val) = BitVec.ofNat 32
           (((s.rd (Reg.PRT_HTX_CONS n.val)).toNat + 1) % max 1 (s.ringSize (Reg.PRT_HTX_SIZE n.val))) ∧
         ((t.port n.val).tsq = if d.tsReq = true ∧ (s.port n.val).tsq.length < 64
           then (s.port n.val).tsq ++ [⟨d.tag, (s.port n.val).tsqLostFlag, true, 0⟩] else (s.port n.val).tsq) ∧
         (d.tsReq = true ∧ 64 ≤ (s.port n.val).tsq.length → t.evSet 102 = true ∧ (t.port n.val).tsqLostFlag = true) ∧
         (d.tsReq = true ∧ (s.port n.val).tsq = [] → t.evSet 101 = true) ∧
         (60 ≤ d.len ∧ d.len ≤ 9212 → t.rd (Reg.PRT_DROP_LINK n.val) = (s.bump (Reg.PRT_DROP_LINK n.val)).rd (Reg.PRT_DROP_LINK n.val)))

/-- A port that is not UP takes no frame. An UP one counts it, and under RS-FEC the codewords; one that could not be
corrected makes its frame fail the FCS. Pause frames and fragments are counted and dropped; a frame with two tags, of no
known class, or a request on a port whose calibration failed and may not serve, takes the slow path to the host, counted when
its FCS is bad; a frame for the firmware goes to it when its FCS is good, and there a peer delay or management message is
dropped and counted. A request takes a new number and joins the tail of the queue of the cluster that its address hashes to,
or that the pointer of a sprayed port gives, if that can take it; otherwise it is counted as a drop for the retirement, the
full queue or the frame store. The verdict on its frame makes it eligible, or takes it out of the queue, or out of the steal
transfer that carries it, and counts it; a number that stands nowhere changes nothing. -/
def Obligations.Ingress : Prop :=
  (∀ n f corr uncorr s, s.isUp n.val = false → Does (.frameIngress n f corr uncorr) s fun t => t = s) ∧
  (∀ n f corr uncorr s, s.isUp n.val = true → Does (.frameIngress n f corr uncorr) s fun t =>
     t.rd (Reg.PRT_RX_FRAMES n.val) = satAdd (s.rd (Reg.PRT_RX_FRAMES n.val)) 1 ∧
     t.rd (Reg.PRT_FEC_CORR n.val) = (if s.fec n.val < 2 then s.rd (Reg.PRT_FEC_CORR n.val) else satAdd (s.rd (Reg.PRT_FEC_CORR n.val)) corr) ∧
     t.rd (Reg.PRT_FEC_UNCORR n.val) =
       (if s.fec n.val < 2 then s.rd (Reg.PRT_FEC_UNCORR n.val) else satAdd (s.rd (Reg.PRT_FEC_UNCORR n.val)) uncorr.length)) ∧
  (∀ n f corr uncorr s g sIn u, s.isUp n.val = true → g = (if 2 ≤ s.fec n.val ∧ 0 ∈ uncorr then { f with fcsGood := false } else f) →
     sIn = s.stampOf n.val g → u = ((s.fecCount n.val corr uncorr).bump (Reg.PRT_RX_FRAMES n.val)).flow (8 + n.val) →
     Does (.frameIngress n f corr uncorr) s fun t =>
       let host (code : Nat) : State := if g.fcsGood = true then u.toHost n.val g code sIn (s.genAt sIn)
         else (u.toHost n.val g code sIn (s.genAt sIn)).bump (Reg.PRT_DROP_FCS n.val)
       match s.classify n.val (s.genAt sIn) g with
       | .pause => t = u.bump (Reg.PRT_DROP_PAUSE n.val)
       | .fragment => t = u.bump (Reg.PRT_DROP_FRAG n.val)
       | .manyTags => t = host 3
       | .unknown => t = host 1
       | .firmware => t = if g.fcsGood = false then u.bump (Reg.PRT_DROP_FCS n.val)
           else if firmwareDrops g = true then (u.toFirmware n.val g sIn).bump Reg.SRV_PTP_DROP_OTHER else u.toFirmware n.val g sIn
       | .request _ => (s.port n.val).calState = 2 ∧ bitAt (s.ac (Reg.PRT_CTRL n.val)) 0 = false → t = host 2) ∧
  (∀ n f corr uncorr s g sIn p, s.isUp n.val = true → g = (if 2 ≤ s.fec n.val ∧ 0 ∈ uncorr then { f with fcsGood := false } else f) →
     sIn = s.stampOf n.val g → s.classify n.val (s.genAt sIn) g = .request p →
     ((s.port n.val).calState = 2 → bitAt (s.ac (Reg.PRT_CTRL n.val)) 0 = true) →
     Does (.frameIngress n f corr uncorr) s fun t => t.cls.nextId = s.cls.nextId + 1 ∧ ∃ r : Req,
       (r.id = s.cls.nextId ∧ r.port = n.val ∧ r.path = p ∧ r.frame = g ∧ r.sIn = sIn ∧ r.gen = s.genAt sIn ∧ r.eligible = false ∧
         r.slots = ceilDiv f.len 128 ∧ r.home = s.homeOf (addrHash (s.seedAt sIn).1 f.src) ∧ r.sprayed = s.spraying n.val) ∧
       let ptr := tget (fun _ => 0) s.cls.pointer n.val
       let dest : Option Nat := if s.spraying n.val = true then s.sprayTarget ptr r.slots
         else if (s.clu r.home).retired = false ∧ (s.clu r.home).canTake r.slots = true then some r.home else none
       match dest with
       | some k => (∃ pl, (t.clu k).queue = (s.clu k).queue ++ [{ r with places := pl }]) ∧ ∀ j, j ≠ k → (t.clu j).queue = (s.clu j).queue
       | none => (∀ j, (t.clu j).queue = (s.clu j).queue) ∧
         let k := if s.spraying n.val = true then s.sprayPoint ptr else r.home
         let a := if s.spraying n.val = false ∧ (s.clu k).retired = true then Reg.CEL_DROP_RETIRE k
           else if 256 ≤ (s.clu k).queue.length then Reg.CEL_DROP_QFULL k else Reg.CEL_DROP_FSTORE k
         k < 32 → t.rd a = satAdd (s.rd a) 1) ∧
  (∀ id s, Does (.fcsVerdict id) s fun t =>
     match (List.range 32).findSome? (fun k => ((s.clu k).queue.find? (fun r => r.id == id)).map (fun r => (k, r))) with
     | some (k, r) => t.time.now = max s.time.now r.fcsAt ∧
       if r.frame.fcsGood = true then
         (t.clu k).queue = (s.clu k).queue.map (fun q => if q.id = id then { q with eligible := true } else q)
       else (t.clu k).queue = (s.clu k).queue.erase r ∧
         t.rd (Reg.PRT_DROP_FCS r.port) = satAdd (s.rd (Reg.PRT_DROP_FCS r.port)) 1
     | none =>
       match (List.range 32).findSome? (fun k => ((s.clu k).inbound.find? (fun x => x.req.id == id)).map (fun x => (k, x))) with
       | some (k, x) => t.time.now = max s.time.now x.req.fcsAt ∧
         if x.req.frame.fcsGood = true then
           (t.clu k).inbound = (s.clu k).inbound.map (fun y => if y.req.id = id then { y with req := { y.req with eligible := true } } else y)
         else (t.clu k).inbound = (s.clu k).inbound.erase x ∧
           t.rd (Reg.PRT_DROP_FCS x.req.port) = satAdd (s.rd (Reg.PRT_DROP_FCS x.req.port)) 1
       | none => t = s)

/-- At the next CCLK edge the lowest-numbered free cell of a cluster takes the head of the priority queue, or else the oldest
eligible entry of the cluster queue; a fatal fault, retirement, no free cell or no entry leaves things as they are. A request
takes the smallest tier that passes, or expires and is counted; a sprayed one of a partition being rebound is dropped and
counted. A returned frame is recomposed for the smallest later tier that passes, or is not sent. A squashed request is
counted, with its cause, its slots are free and its cell is free or composes the kiss. A request that calls for a reply, or a
kiss, commits: it enters the hand-off of its port with its T and tier, or as a leaf joins the carafe; stamped before a step
it is counted and not sent. A Sync commits likewise. The oldest returned frame joins the priority queue of its cluster, or is
counted as a drop where that is retired or full. In any other state these commands change nothing. -/
def Obligations.CellWork : Prop :=
  (∀ (k : Fin 32) s u, u = s.advTo (s.cclkAfter 0) → Does (.cellDispatch k) s fun t =>
     if s.evt.fatal = true ∨ (s.clu k.val).retired = true then t = u
     else match u.freeCell k.val with
     | none => t = u
     | some c => match (s.clu k.val).prio with
       | .sync i :: l =>
         (t.clu k.val).prio = l ∧ (t.clu k.val).queue = (s.clu k.val).queue ∧ t.time = u.time ∧
         t.rd (Reg.CEL_DISPATCHED k.val) = satAdd (s.rd (Reg.CEL_DISPATCHED k.val)) 1 ∧
         ∃ b, (t.clu k.val).busy c = some b ∧ b.job = .sync i ∧ b.T = i.T ∧ b.start = u.time.now ∧
           b.path = (if s.ptpAuth i.gen i.port = true then .syncAuth else .sync) ∧
           b.commitAt = u.time.now + pathCommit b.path * cclkTicks ∧ b.freeAt = u.time.now + pathOccupancy b.path * cclkTicks
       | .ret f :: l =>
         (t.clu k.val).prio = l ∧ (t.clu k.val).queue = (s.clu k.val).queue ∧ t.time = u.time ∧
         ∃ b, (t.clu k.val).busy c = some b ∧ b.job = .ret f.id f.gen ∧ b.committed = true
       | [] => match oldest (s.clu k.val).queue with
         | none => t = u
         | some r => (t.clu k.val).queue = (s.clu k.val).queue.erase r ∧ u.time.now ≤ t.time.now ∧
           if r.sprayed = true ∧ s.cls.rebinds.any (fun x => x.cluster == r.hash % 32) = true then
             (t.clu k.val).cells = (s.clu k.val).cells ∧
             t.rd (Reg.CEL_DROP_RETIRE k.val) = satAdd (s.rd (Reg.CEL_DROP_RETIRE k.val)) 1
           else
             t.rd (Reg.CEL_DISPATCHED k.val) = satAdd (s.rd (Reg.CEL_DISPATCHED k.val)) 1 ∧
             match (if r.path = .roughtime then some (0, 0)
               else t.tierFor r.port r.gen (pathCommit r.path + r.extra) r.asymTx (t.t0Of r) 0) with
             | none => (∃ b, (t.clu k.val).busy c = some b ∧ b.job = .expired ∧
                 b.freeAt = t.time.now + (if r.sprayed = true then 20 else 8) * cclkTicks) ∧
               t.rd (Reg.CEL_DROP_EXPIRED k.val) = satAdd (s.rd (Reg.CEL_DROP_EXPIRED k.val)) 1
             | some (i, T) => ∃ b v, (t.clu k.val).busy c = some b ∧ b.job = .req r v ∧ b.tier = i ∧ b.T = T ∧ b.start = t.time.now) ∧
  (∀ (k : Fin 32) s u, u = s.advTo (s.cclkAfter 0) → Does (.recompose k) s fun t =>
     match (s.clu k.val).prio with
     | .ret f :: l =>
       if s.evt.fatal = true ∨ (s.clu k.val).retired = true then t = u
       else match u.freeCell k.val with
       | none => t = u
       | some c => (t.clu k.val).prio = l ∧ (∃ b, (t.clu k.val).busy c = some b ∧ b.job = .ret f.id f.gen ∧ b.committed = true) ∧
         (f.port < 8 → t.rd (Reg.CEL_RECOMPOSE k.val) = satAdd (s.rd (Reg.CEL_RECOMPOSE k.val)) 1) ∧
         if f.id < s.cls.stepId ∨ s.isUp f.port = false ∨ (f.internal = true ∧ u.ptpStopped f.port = true) ∨
             (u.keyChanged f).isSome = true then t.cals = s.cals
         else match u.tierFor f.port f.gen (pathRecompose f.path) f.asymTx f.t0 (f.tier + 1) with
         | none => t.cals = s.cals
         | some (i, T) => f.req.isSome = true → ∃ g : CFrame, g.id = f.id ∧ g.port = f.port ∧ g.tier = i ∧ g.T = T ∧ g.cell = c ∧
             (t.cal f.port).handoff = (s.cal f.port).handoff ++ [⟨u.time.now + (pathRecompose f.path + 40) * cclkTicks, g⟩]
     | _ => t = s) ∧
  (∀ (k : Fin 32) (c : Fin 16) s, Does (.cellSquash k c) s fun t => match (s.clu k.val).busy c.val with
     | none => t = s
     | some b => if b.committed = true ∨ b.kiss.isSome = true then t = s
       else match b.job with
       | .req r v => (match s.judge r v b.start with
         | .reply => t = s
         | .drop n a => (t.clu k.val).busy c.val = none ∧ t.time.now = max s.time.now (b.cycle r (n + 8)) ∧
           t.rd a = satAdd ((s.bump (Reg.CEL_SQUASH k.val)).rd a) 1 ∧ (t.clu k.val).areas = ((s.freeSlots k.val r).clu k.val).areas
         | .kiss n x => t.time.now = max s.time.now (b.cycle r (n + 8)) ∧
           (t.clu k.val).busy c.val = some { b with kiss := some x, commitAt := b.cycle r (n + 80), freeAt := b.cycle r (n + 112) } ∧
           t.rd (Reg.CEL_SQUASH k.val) = satAdd (s.rd (Reg.CEL_SQUASH k.val)) 1 ∧
           (t.clu k.val).areas = ((s.freeSlots k.val r).clu k.val).areas)
       | _ => t = s) ∧
  (∀ (k : Fin 32) (c : Fin 16) s, Does (.cellCommit k c) s fun t => match (s.clu k.val).busy c.val with
     | none => t = s
     | some b => if b.committed = true then t = s
       else match b.job with
       | .req r v =>
         if b.kiss = none ∧ s.judge r v b.start ≠ .reply then t = s
         else (t.clu k.val).busy c.val = some { b with committed := true } ∧ t.time.now = max s.time.now b.commitAt ∧
           if r.id < s.cls.stepId then t.cals = s.cals ∧ t.rd Reg.TSC_STEP_SQUASH = satAdd (s.rd Reg.TSC_STEP_SQUASH) 1
           else if r.path = .roughtime then t.cals = s.cals
           else ∃ f : CFrame, f.id = r.id ∧ f.T = b.T ∧ f.tier = b.tier ∧ f.port = r.port ∧ f.req = some r ∧ f.len = f.head.len f.bytes.length ∧
             (t.cal r.port).handoff = (s.cal r.port).handoff ++ [⟨b.commitAt + 40 * cclkTicks, f⟩]
       | .sync i => (t.clu k.val).busy c.val = some { b with committed := true } ∧ t.time.now = max s.time.now b.commitAt ∧
         (i.id < s.cls.stepId → t.cals = s.cals ∧
           (i.port < 8 → t.rd (Reg.DEP_DROP_STEP i.port) = satAdd (s.rd (Reg.DEP_DROP_STEP i.port)) 1)) ∧
         (t.cals = s.cals ∨ ∃ f : CFrame, f.id = i.id ∧ f.T = b.T ∧ f.port = i.port ∧ f.internal = true ∧ f.seq = i.seq ∧
           (t.cal i.port).handoff = (s.cal i.port).handoff ++ [⟨b.commitAt + 40 * cclkTicks, f⟩])
       | _ => t = s) ∧
  (∀ (k : Fin 32) s, Does (.frameReturn k) s fun t => match (s.clu k.val).returning with
     | [] => t = s
     | h :: l => (t.clu k.val).returning = l ∧ t.time.now = max s.time.now h.at_ ∧
       if (s.clu k.val).retired = true then
         (t.clu k.val).prio = (s.clu k.val).prio ∧ t.rd (Reg.CEL_DROP_RETIRE k.val) = satAdd (s.rd (Reg.CEL_DROP_RETIRE k.val)) 1
       else if (s.clu k.val).prio.length < 16 then (t.clu k.val).prio = (s.clu k.val).prio ++ [.ret h.f]
       else (t.clu k.val).prio = (s.clu k.val).prio ∧ t.evSet 138 = true ∧
         t.rd (Reg.CEL_DROP_PRIO k.val) = satAdd (s.rd (Reg.CEL_DROP_PRIO k.val)) 1)

/-- On an UP port the measured phase and the rate of the transmit clock are what it predicts with from then on; a residual
above 20 ps, or a jump, clears GRID_LOCK, the residual with EV145; a boundary that an alignment marker has displaced measures
nothing; the sixteenth measurement in a row within 5 ps sets it. The frames that reach a calendar at one edge are judged in
ascending order of T. One is admitted when the port is UP, T within 65,536 ns, its release 2 ns or more ahead, its wire
interval free and slots for it free; otherwise it is counted by the first of these that fails, and a late or crowded one goes
back to its cluster 24 CCLK later, or is dropped at tier 4. The first frame to be released leaves at its release tick with
its own T and tier. The next best-effort frame leaves its queue at its edge, and a reservation of its own ends. The head that
has waited too long gets a reservation behind every admitted frame, with EV144, where that is enabled and none stands. With
nothing to do these commands change nothing. -/
def Obligations.Departure : Prop :=
  (∀ n back off displaced jump s u phase r, u = s.advTo (max (s.cclkAfter 0) (s.port n.val).gridAt) →
     phase = u.gridPoint back off → r = (s.port n.val).gridResidual phase → Does (.gridMeasure n back off displaced jump) s fun t =>
     if s.isUp n.val = true ∧ displaced = true then t = u.updPort n.val (fun p => { p with gridAt := u.time.now + 256 * cclkTicks })
     else if s.isUp n.val = true then
       t.port n.val = { s.port n.val with
         gridPhase := phase, gridStep := max 1 (s.gridStepNow n.val), gridAt := t.time.now + 256 * cclkTicks
         gridGood := if 5 * 65536 < r ∨ jump = true then 0 else min 16 ((s.port n.val).gridGood + 1)
         gridLock := decide (¬ 20 * 65536 < r ∧ jump = false) &&
           ((s.port n.val).gridLock || decide (r ≤ 5 * 65536 ∧ 15 ≤ (s.port n.val).gridGood)) } ∧
       (20 * 65536 < r → t.evSet 145 = true) ∧ t.time.now = max s.time.now (max (s.cclkAfter 0) (s.port n.val).gridAt)
     else t = s) ∧
  (∀ n s, Does (.calendarArrival n) s fun t => match (s.cal n.val).handoff with
     | [] => t = s
     | x :: r => ∃ (a : Nat) (l : List CFrame), (∃ y ∈ x :: r, y.at_ = a) ∧ (∀ y ∈ x :: r, a ≤ y.at_) ∧
       l.Perm (((x :: r).filter (fun y => decide (y.at_ ≤ a))).map (·.f)) ∧ l.Pairwise (fun f g => f.T ≤ g.T) ∧
       t = l.foldl State.admitFrame (((s.advTo a).updCal n.val (fun c => { c with
         handoff := c.handoff.filter (fun y => decide (a < y.at_)) })).wirePrune n.val)) ∧
  (∀ (s : State) f n asym tRel span t, n = f.port → n < 8 → asym = (if f.internal = true then valueAt (s.port n).asymTx s.nowSt else f.asymTx) →
     tRel = ((f.T * 1000 : Nat) : Int) - s.lRelG n asym → span = s.spanOf n ((f.T * 1000 : Nat) : Int) f.len → t = s.admitFrame f →
     let back (a : Nat) : Prop := (t.cal n).frames = (s.cal n).frames ∧ t.rd a = satAdd (s.rd a) 1 ∧
       if f.tier < 4 then (t.clu f.cluster).returning = (s.clu f.cluster).returning ++
         [⟨s.time.now + 24 * cclkTicks, { f with asymTx := asym }⟩]
       else (t.clu f.cluster).returning = (s.clu f.cluster).returning ∧ t.rd (Reg.DEP_DROP_TIER n) = satAdd (s.rd (Reg.DEP_DROP_TIER n)) 1
     if s.isUp n = false then t = s.bump (Reg.PRT_DROP_LINK n)
     else if 65536 * (nsG : Int) < ((f.T * 1000 : Nat) : Int) - s.nowG then t = s.bump (Reg.DEP_DROP_HORIZON n)
     else if tRel - 2 * (nsG : Int) < s.nowG then back (Reg.DEP_RET_LATE n)
     else if (s.committedWire n).any span.meets = true then back (Reg.DEP_RET_BUSY n)
     else if (s.bestWire n).any span.meets = true then back (Reg.DEP_RET_BE n)
     else if 2048 < s.calOcc n + calSlots f.len then back (Reg.DEP_RET_FULL n)
     else (t.cal n).frames = (s.cal n).frames ++ [⟨{ f with asymTx := asym }, tRel, span, calSlots f.len⟩]) ∧
  (∀ n dev s, Does (.framePour n dev) s fun t => match firstOut (s.cal n.val).frames with
     | none => t = s
     | some a => (t.cal n.val).frames = (s.cal n.val).frames.erase a ∧
       .frame n.val a.f.T a.f.tier a.f.head (a.f.head.checksum a.f.bytes) a.f.bytes ∈ t.outbox ∧
       t.time.now = max s.time.now (s.tickAtG a.tRel) ∧
       (a.f.port = n.val → t.rd (Reg.DEP_SENT n.val) = satAdd (s.rd (Reg.DEP_SENT n.val)) 1 ∧
         t.rd (Reg.PRT_TX_FRAMES n.val) = satAdd (s.rd (Reg.PRT_TX_FRAMES n.val)) 1)) ∧
  (∀ n dev s, Does (.beRelease n dev) s fun t => match (s.wirePrune n.val).beNext n.val with
     | none => t = s
     | some (f, e) => (t.port n.val).be = (s.port n.val).be.erase f ∧ t.time.now = max s.time.now e ∧
       (t.port n.val).reserved = (if (s.port n.val).reserved.any (fun r => r.1 == f) = true then none else (s.port n.val).reserved) ∧
       .best n.val t.time.now f.head ((f.head.map (·.checksum f.bytes)).getD 0) f.bytes ∈ t.outbox ∧
       t.rd (Reg.DEP_BE_SENT n.val) = satAdd (s.rd (Reg.DEP_BE_SENT n.val)) 1) ∧
  (∀ n s, Does (.beReserve n) s fun t => match beHead s.time.now (s.port n.val).be with
     | none => t = s
     | some f =>
       if bitAt (s.ac (Reg.DEP_BE_CTRL n.val)) 16 = true ∧ (s.port n.val).reserved = none then
         (∃ w, (t.port n.val).reserved = some (f, w) ∧ ∀ x ∈ t.committedWire n.val, x.hi ≤ w.lo) ∧
         (t.port n.val).be = (s.port n.val).be ∧ t.evSet 144 = true ∧
         t.rd (Reg.DEP_BE_RESERVE n.val) = satAdd (s.rd (Reg.DEP_BE_RESERVE n.val)) 1 ∧
         t.time.now = max s.time.now (f.since + usTicks * fld (s.ac (Reg.DEP_BE_CTRL n.val)) 0 16)
       else t = s)

/-- A cluster that sends steal requests asks its next neighbour, the one after it 8 CCLK later; its own queue stays, and when
the neighbour grants it is given at most BATCH entries, each eligible and below its hop limit, which are in transfer to it.
The oldest transfer joins the tail of its queue and is counted when it arrives; it is counted as a drop when it fails ECC,
when its cluster is retired, and when the queue or the frame store cannot take it. A cluster whose dwell reaches TRIP_TIME is
HOT with EV128, and with SPRAY_AUTO the ports with the share of its requests enter spray mode. At the end of an interval
every count of homed requests begins again from 0, and a port that entered automatically leaves with EV130 after EXIT_TIME
whole quiet intervals. With nothing to do these commands change nothing. -/
def Obligations.Balancing : Prop :=
  (∀ (k : Fin 32) (e : Fin 4) s, Does (.stealRequest k e) s fun t => match s.nextAsk k.val with
     | none => t = s
     | some (a, d) => if d ≠ e.val then t = s else max s.time.now a ≤ t.time.now ∧ (t.clu k.val).queue = (s.clu k.val).queue ∧
       (t.clu k.val).stealAt = some (a + 8 * cclkTicks) ∧ (t.clu k.val).askNext = (d + 1) % 4 ∧
       ∃ l, (t.clu k.val).inbound.map (·.req.id) = (s.clu k.val).inbound.map (·.req.id) ++ l ∧ l.length ≤ fld (s.ac Reg.CLS_STEAL) 16 3 ∧
         let j := (neighbours k.val).getD d 0
         if (s.advTo a).grantsNow j ((d + 2) % 4) = true then
           (t.clu k.val).lastGrantBy = d ∧ (t.clu j).lastGiven = (d + 2) % 4 ∧
           ∀ i ∈ l, ∃ r ∈ (s.clu j).queue, r.id = i ∧ r.eligible = true ∧ r.hops < s.hopLimit r.path
         else l = [] ∧ (t.clu j).queue = (s.clu j).queue) ∧
  (∀ (k : Fin 32) ecc s, Does (.stealArrive k ecc) s fun t => match (s.clu k.val).inbound with
     | [] => t = s
     | x :: l => (t.clu k.val).inbound = l ∧ t.time.now = max s.time.now x.at_ ∧
       if ecc = false then (t.clu k.val).queue = (s.clu k.val).queue ∧
         (x.giver < 32 → t.rd (Reg.CEL_DROP_RETIRE x.giver) = satAdd (s.rd (Reg.CEL_DROP_RETIRE x.giver)) 1)
       else if (s.clu k.val).retired = true then (t.clu k.val).queue = (s.clu k.val).queue ∧
         t.rd (Reg.CEL_DROP_RETIRE k.val) = satAdd (s.rd (Reg.CEL_DROP_RETIRE k.val)) 1
       else if ((if 2 ≤ x.req.hops then s.freeCredit x.req else s).clu k.val).canTake x.req.slots = true then
         (∃ r : Req, r.id = x.req.id ∧ r.frame = x.req.frame ∧ r.v1 = x.req.v1 ∧ (t.clu k.val).queue = (s.clu k.val).queue ++ [r]) ∧
         let a := if x.req.hops ≤ 1 then Reg.CEL_STOLEN_IN1 k.val else Reg.CEL_STOLEN_IN2 k.val
         t.rd a = satAdd (s.rd a) 1
       else (t.clu k.val).queue = (s.clu k.val).queue ∧
         let a := if 256 ≤ (s.clu k.val).queue.length then Reg.CEL_DROP_QFULL k.val else Reg.CEL_DROP_FSTORE k.val
         t.rd a = satAdd (s.rd a) 1) ∧
  (∀ (k : Fin 32) s, Does (.hotTrip k) s fun t => match (s.clu k.val).dwellFrom with
     | none => t = s
     | some a => if (s.clu k.val).hot = true then t = s
       else (t.clu k.val).hot = true ∧ t.cls.lastHot = k.val ∧ t.evSet 128 = true ∧
         a + usTicks * fld (s.ac Reg.CLS_HOT_TRIP) 16 16 ≤ t.time.now ∧
         ∀ n : Fin 8, t.cls.sprayAuto.testBit n.val = true ↔ s.cls.sprayAuto.testBit n.val = true ∨
           (bitAt (s.ac Reg.CLS_CTRL) 1 = true ∧ 0 < tget (fun _ => 0) (s.clu k.val).enq n.val ∧
             ((s.clu k.val).enq.map (·.2)).sum ≤ tget (fun _ => 0) (s.clu k.val).enq n.val * 2 ^ fld (s.ac Reg.CLS_SPRAY_SHARE) 0 4)) ∧
  (∀ s i, i = (s.time.now / cclkTicks - s.cls.loadAt / cclkTicks) / 10000 → Does .sprayIntervalEnd s fun t =>
     (∀ k : Fin 32, (t.clu k.val).homed = 0) ∧ t.time.now = max s.time.now (s.cls.loadAt + (i + 1) * 10000 * cclkTicks) ∧
     ∀ (n : Fin 8) (leaves : Prop), (leaves ↔ s.cls.sprayAuto.testBit n.val = true ∧
         tget (fun _ => 0) s.cls.sprayFrom n.val < (s.cls.loadAt + i * 10000 * cclkTicks) / cclkTicks ∧
         fld (s.ac Reg.CLS_SPRAY_EXIT) 16 16 ≤
           (if ∃ k : Fin 32, fld (s.ac Reg.CLS_SPRAY_EXIT) 0 16 < (s.clu k.val).homed then 0 else tget (fun _ => 0) s.cls.quiet n.val + 1)) →
       (t.cls.sprayAuto.testBit n.val = true ↔ s.cls.sprayAuto.testBit n.val = true ∧ ¬ leaves) ∧ (leaves → t.evSet 130 = true))

/-- CLS_RESEED.REQ only marks a reseed as pending. 64 µs after a reseed the entries of the old epoch lose their validity and
the sweep starts. When the sweep is done no entry of another epoch is left; a deferred reseed then begins a new epoch with
EV135. Without such an epoch or sweep these two change nothing. The window shows the entry it names with its validity, or 0,
and a flush leaves no entry of the current epoch. -/
def Obligations.ReseedsAndClients : Prop :=
  (∀ s, Does .reseedRequest s fun t => t = { s with cls := { s.cls with req := true, pending := true } }) ∧
  (∀ s, Does .epochSweepStart s fun t => if s.cls.oldValid = true then
       t.cls = { s.cls with oldValid := false, sweeping := true } ∧ t.clt = s.clt ∧
       t.time.now = max s.time.now (s.cls.reseedAt + 64 * usTicks)
     else t = s) ∧
  (∀ s, Does .epochSweepDone s fun t => if s.cls.sweeping = true then
       t.cls.sweeping = false ∧ (∀ i e, t.cltEntry i = some e → e.epoch = decide (s.cls.epoch % 2 = 1)) ∧
       max s.time.now (s.cls.reseedAt + 64 * usTicks + 8191 * cclkTicks) ≤ t.time.now ∧
       if s.cls.deferred = true then
         t.cls.epoch = s.cls.epoch + 1 ∧ t.cls.oldSeed = s.cls.seed ∧ t.draws = s.draws + 1 ∧ t.evSet 135 = true ∧
         t.cls.pending = s.cls.req ∧ t.cls.deferred = false
       else t.cls = { s.cls with sweeping := false }
     else t = s) ∧
  (∀ s, Does .cltWindowRead s fun t => t = { s with clt := { s.clt with win := t.clt.win, winValid := t.clt.winValid, winAt := s.cclkAfter 1 } } ∧
     match s.cltEntry (fld (s.rd Reg.CLT_WIN_IDX) 0 21) with
     | some e => t.clt.win = wordsOf e.bytes ∧ t.clt.winValid = s.cltValid e
     | none => t.clt.win = List.replicate 8 0 ∧ t.clt.winValid = false) ∧
  (∀ s, Does .cltFlush s fun t => t = { s with clt := { s.clt with entries := t.clt.entries } } ∧
     ∀ i e, t.cltEntry i = some e → e.epoch ≠ decide (s.cls.epoch % 2 = 1) ∧ s.cltEntry i = some e)

/-- A WRITE or DISABLE of a master that KEY_PERM permits wipes its staged words and waits for the eighth CCLK edge; an Annex
P WRITE must not repeat the pair of another entry. A refused one sets REFUSED with EV164 and changes no key; STAT beside it
loads the status at once. STAT alone loads it at the next CCLK edge, after the commands whose edge has come by then. The
command whose edge is first takes effect there and on its own entry only; with none waiting nothing changes. -/
def Obligations.KeyTables : Prop :=
  (∀ p w m st s, Does (if p then (if w then .ptpKeyWrite m st else .ptpKeyDisable m st)
       else (if w then .symKeyWrite m st else .symKeyDisable m st)) s fun t =>
     t.srv.sym = s.srv.sym ∧ t.srv.annex = s.srv.annex ∧
     if s.keyPermit p m = true ∧ (p = true → w = true → s.pairTaken (s.keyIdx p m) (s.stagedKey p m) = false) then
       t.srv.keyPend = s.srv.keyPend ++
         [⟨p, s.keyIdx p m, s.cclkAfter 8, m.bank, if w then some (s.stagedKey p m) else none, !w, st⟩] ∧
       (t.keyBank p m).staged = [] ∧ (t.keyBank p m).refused = false
     else
       t.srv.keyPend = s.srv.keyPend ∧ (t.keyBank p m).refused = true ∧ t.evSet 164 = true ∧
       (st = true → (t.keyBank p m).en = (if p then s.annexKey (s.keyIdx p m) else s.symKey (s.keyIdx p m)).en ∧
         (t.keyBank p m).kcv = (if p then s.annexKey (s.keyIdx p m) else s.symKey (s.keyIdx p m)).toKeyVal.kcv p)) ∧
  (∀ p m s, Does (if p then .ptpKeyStat m else .symKeyStat m) s fun t =>
     t.time.now = s.cclkAfter 1 ∧ t.srv.keyPend = s.srv.keyPend.filter (fun x => decide (s.cclkAfter 1 < x.due)) ∧
     (t.keyBank p m).en = (if p then t.annexKey (s.keyIdx p m) else t.symKey (s.keyIdx p m)).en ∧
     (t.keyBank p m).kcv = (if p then t.annexKey (s.keyIdx p m) else t.symKey (s.keyIdx p m)).toKeyVal.kcv p ∧
     ((∀ x ∈ s.srv.keyPend, s.cclkAfter 1 < x.due) → t.srv.sym = s.srv.sym ∧ t.srv.annex = s.srv.annex)) ∧
  (∀ s, Does .keyTableEffect s fun t => (s.srv.keyPend = [] → t = s) ∧
     (s.srv.keyPend ≠ [] → ∃ p ∈ s.srv.keyPend, (∀ q ∈ s.srv.keyPend, p.due ≤ q.due) ∧
       t.srv.keyPend = s.srv.keyPend.erase p ∧ t.time.now = max s.time.now p.due ∧
       (if p.ptp = true then t.annexKey p.idx else t.symKey p.idx) = (match p.write with
         | some e => (if p.ptp = true then s.annexKey p.idx else s.symKey p.idx).become e t.time.now
         | none => if p.disable = true then (if p.ptp = true then s.annexKey p.idx else s.symKey p.idx).become {} t.time.now
           else if p.ptp = true then s.annexKey p.idx else s.symKey p.idx) ∧
       (if p.ptp = true then t.srv.sym = s.srv.sym else t.srv.annex = s.srv.annex) ∧
       ∀ i, i ≠ p.idx → t.annexKey i = s.annexKey i ∧ t.symKey i = s.symKey i))

/-- READ copies the eight words of the shadow or active entry into SRV_RULE_DATA and changes no entry. WRITE copies them,
without reserved bits, into the shadow entry alone. An index above 4,111, and a WRITE of an invalid entry, are refused with
EV164 and change no entry. A WRITE under the lock changes no entry and is counted in CFG_LOCK_REFUSED; that it shows as a
command that is not refused is the model's choice (log entry 61). -/
def Obligations.RuleWindow : Prop :=
  (∀ active s n, n = fld (s.rd Reg.SRV_RULE_IDX) 0 13 → Does (.ruleRead active) s fun t =>
     t.shadow = s.shadow ∧ t.active = s.active ∧
     if n ≤ 4111 then
       (∀ i : Fin 8, t.rd (Reg.SRV_RULE_DATA i.val) = tget rwsDef (if active = true then s.active else s.shadow) (ruleKey n i.val)) ∧
       t.srv.rule = ⟨false, s.cclkAfter 1⟩
     else t.srv.rule.refused = true ∧ t.evSet 164 = true) ∧
  (∀ s n, n = fld (s.rd Reg.SRV_RULE_IDX) 0 13 → Does .ruleWrite s fun t =>
     t.active = s.active ∧
     if 4111 < n then t.shadow = s.shadow ∧ t.srv.rule.refused = true ∧ t.evSet 164 = true
     else if s.cfg.locked = true then t.shadow = s.shadow ∧ t.srv.rule = ⟨false, s.cclkAfter 1⟩ ∧
       t.rd Reg.CFG_LOCK_REFUSED = satAdd (s.rd Reg.CFG_LOCK_REFUSED) 1
     else if entryBad n ((List.range 8).map (fun i => s.rd (Reg.SRV_RULE_DATA i) &&& entryMask n i)) = true then
       t.shadow = s.shadow ∧ t.srv.rule.refused = true ∧ t.evSet 164 = true
     else
       (∀ i : Fin 8, t.sh (ruleKey n i.val) = s.rd (Reg.SRV_RULE_DATA i.val) &&& entryMask n i.val) ∧
       (∀ a, (∀ i : Fin 8, a ≠ ruleKey n i.val) → t.sh a = s.sh a) ∧ t.live = s.live ∧ t.srv.rule = ⟨false, s.cclkAfter 1⟩)

/-- In internal mode KC draws the next key with the next key ID unless one is installed; in imported mode it is that of the
bundle; a KC that does not serve installs none. At the rotation time, with the next key installed a second before, the roles
advance by one with EV166; without it the keys stay and the rotation is tried again every 60 s, with EV167 at each trial that
finds none. 100 µs after a rotation the retired key is gone. With no rotation, trial or retired key outstanding these change
nothing. -/
def Obligations.MasterKeys : Prop :=
  (∀ b s, Does (.ntsKeyInstall b) s fun t =>
     if s.taskStopped 4 = true then t = s
     else if s.ntsImported = true then t = (s.importBundle b true).2
     else if s.srv.nts.next.isSome = true then t = s
     else t.srv.nts = { s.srv.nts with nextAt := s.nowSt, next := some ⟨match s.srv.nts.cur with
         | some k => (k.id + 1) % 2 ^ 32
         | none => (Config.trng s.draws).toNat / 2 ^ 480 % 2 ^ 32, Config.trng s.draws, secOf s.srv.nts.rotateAt⟩ } ∧
       t.draws = s.draws + 1) ∧
  (∀ s c a, (c = .ntsRotate ∧ s.srv.nts.retryAt = none ∧ s.srv.nts.rotateAt = a ∧ a ≠ 0) ∨ (c = .ntsRotateRetry ∧ s.srv.nts.retryAt = some a) →
     Does c s fun t => t.time = (s.advDt (stUnit * a)).time ∧
       if s.srv.nts.ready a = true then
         t.srv.nts.cur = s.srv.nts.next ∧ t.srv.nts.prev1 = s.srv.nts.cur ∧ t.srv.nts.prev2 = s.srv.nts.prev1 ∧
         t.srv.nts.retired = s.srv.nts.prev2 ∧ t.srv.nts.next = none ∧ t.srv.nts.retryAt = none ∧
         t.srv.nts.boundary = max a s.nowSt ∧ t.srv.nts.wipeAt = t.time.now + 100 * usTicks ∧ t.evSet 166 = true
       else t.srv.nts = { s.srv.nts with retryAt := some (max a s.nowSt + 60 * stSec) } ∧ (c = .ntsRotateRetry → t.evSet 167 = true)) ∧
  (∀ s, (s.srv.nts.rotateAt = 0 ∨ s.srv.nts.retryAt.isSome = true → Does .ntsRotate s fun t => t = s) ∧
     (s.srv.nts.retryAt = none → Does .ntsRotateRetry s fun t => t = s)) ∧
  (∀ s, Does .ntsKeyWipe s fun t => if s.srv.nts.retired.isSome = true then
       t.srv.nts.retired = none ∧ t.srv.nts.cur = s.srv.nts.cur ∧ t.srv.nts.prev1 = s.srv.nts.prev1 ∧
       t.time.now = max s.time.now s.srv.nts.wipeAt
     else t = s)

/-- While the server listens and the core of the half serves, a connection within the limits is accepted and another is
counted and refused with RST; otherwise nothing happens. A request ends its connection. A ClientHello that the server cannot
take is answered with an alert, as is a Finished that does not verify (log entry 57); behind the handshake, records that are
not in order are answered with an error; without a master key, or with KC away, the connection is closed; each of these is
counted. Otherwise the answer is eight cookies of the current key with the exported keys of R194, and the close. The oldest
connection is closed and counted 5 s after its start. Without a connection these change nothing. An enabled broadcast entry
on a core that serves, once DT is set, is due again 2^POLL s after its time, and unless time is UNTRACEABLE its packet, if
its key allows one, joins the best-effort queue of its port. -/
def Obligations.KeyEstablishment : Prop :=
  (∀ a sc3 s, Does (.ntskeConnect a sc3) s fun t =>
     if bitAt (s.ac Reg.SRV_NTSKE_CTRL) 12 = true ∧ s.srv.keReady = true ∧ s.taskStopped (if sc3 = true then 3 else 2) = false then
       if 16384 ≤ s.srv.conns.length ∨ fld (s.ac Reg.SRV_NTSKE_CTRL) 8 4 ≤ (s.srv.conns.filter (fun k => k.addr == a)).length then
         t.srv = s.srv ∧ .tcp a true ∈ t.outbox ∧ t.rd Reg.SRV_NTSKE_REFUSED = satAdd (s.rd Reg.SRV_NTSKE_REFUSED) 1
       else ∃ c, s.taskCore (if sc3 = true then 3 else 2) = some c ∧
         t = { s with srv := { s.srv with conns := s.srv.conns ++ [⟨a, s.time.now, c⟩] } }
     else t = s) ∧
  (∀ a h fin rs ex s sig, sig = (s.kslot (fld (s.ac Reg.SRV_NTSKE_CTRL) 0 8)).scheme → Does (.ntskeRequest a h fin rs ex) s fun t =>
     match s.srv.conns.find? (fun k => k.addr == a) with
     | none => t = s
     | some k => t.srv.conns = s.srv.conns.erase k ∧ .tcp a false ∈ t.outbox ∧
       let failed : Prop := t.rd Reg.SRV_NTSKE_FAIL = satAdd (s.rd Reg.SRV_NTSKE_FAIL) 1
       match tlsChoose h sig with
       | .error e => .tlsAlert a e ∈ t.outbox ∧ failed
       | .ok (c, g, again) => .tlsServer a c g sig ∈ t.outbox ∧ (again = true → .tlsRetry a (some g) ∈ t.outbox) ∧
         if fin = false then .tlsAlert a 51 ∈ t.outbox ∧ failed else match keError rs with
         | some e => .ntske a [(2, beBytes 2 e), (0, [])] ∈ t.outbox ∧ failed
         | none => match s.srv.nts.cur with
           | none => failed
           | some m => if s.taskStopped 4 = true then failed
             else t.rd Reg.SRV_NTSKE_DONE = satAdd (s.rd Reg.SRV_NTSKE_DONE) 1 ∧ ∃ n,
               .ntske a (keResponse s.srv.keServer m s.srv.nts.noncePrefix n (keKey c ex 0) (keKey c ex 1)) ∈ t.outbox) ∧
  (∀ s, Does .ntskeTimeout s fun t => match s.srv.conns with
     | [] => t = s
     | k :: l => t.srv = { s.srv with conns := l } ∧ t.outbox = .tcp k.addr false :: s.outbox ∧
       t.time.now = max s.time.now (k.since + 5 * sTicks) ∧ t.rd Reg.SRV_NTSKE_FAIL = satAdd (s.rd Reg.SRV_NTSKE_FAIL) 1) ∧
  (∀ j s w due, w = ruleWord s.active (4096 + j.val) 4 → due = max (tget (fun _ => 0) s.srv.bcastAt j.val) s.nowSt →
     Does (.broadcastSend j) s fun t =>
       if bitAt w 3 = true ∧ s.time.st ≠ .unset ∧ s.taskStopped 1 = false then
         tget (fun _ => 0) t.srv.bcastAt j.val = due + stSec * 2 ^ fld w 8 8 ∧ (s.advDt (stUnit * due)).time.now ≤ t.time.now ∧
         if t.tstate ≠ .untraceable ∧ s.isUp (fld w 0 3) = true then
           t.rd Reg.SRV_NTP_BCAST_SENT = (match t.bcastBody (4096 + j.val) with
             | some _ => satAdd (s.rd Reg.SRV_NTP_BCAST_SENT) 1
             | none => s.rd Reg.SRV_NTP_BCAST_SENT) ∧
           (t.port (fld w 0 3)).be.length = (s.port (fld w 0 3)).be.length + (if (t.bcastBody (4096 + j.val)).isSome then 1 else 0) ∧
           ∀ b, t.bcastBody (4096 + j.val) = some b → ∃ f, (t.port (fld w 0 3)).be = (s.port (fld w 0 3)).be ++ [f] ∧
             f.kind = .core ∧ f.bytes = b ∧ f.head = some (s.bcastHead (4096 + j.val))
         else t.rd Reg.SRV_NTP_BCAST_SENT = s.rd Reg.SRV_NTP_BCAST_SENT
       else t = s)

/-- When the close slot of a cluster fires, its open carafe waits for its seal and the next opens at the close time, or the
close is deferred and counted when DEPTH carafes wait (that a draining one counts is the model's choice, log entry 62). The
oldest closed carafe seals when no earlier request is in flight, or at its limit. The seal of leaves under a delegation valid
at MIDP adds one folding carafe with them, its midpoint and radius; without one, or UNTRACEABLE where the policy is not to
answer, they are dropped and counted. The root is complete 8 × d + 16 CCLK after the seal. The head of the signing queue goes
to the first free engine of PKE_MASK. A carafe without a signature SIGN_MAX after its seal is discarded with EV170. A signed
carafe begins to emit when no other of its cluster does; it emits one reply every 16 CCLK to a port that is UP, and is free
after the last. With no such carafe these change nothing. -/
def Obligations.Carafes : Prop :=
  (∀ k s tc, tc = ((s.slotFire (48 + k.val)).slotBoundary (s.slot (48 + k.val))).1 → Does (.carafeClose k) s fun t =>
     if s.slotReady (48 + k.val) = true then
       bitAt (t.rd (Reg.TSC_CS_STAT (48 + k.val))) 0 = true ∧
       if (s.openCarafe k.val).isOpen = false then t.openCarafe k.val = { s.openCarafe k.val with
           lastClose := tc, isOpen := bitAt (s.ac Reg.SRV_RT_CTRL) 0, leaves := [], maxLeaves := s.maxLeaves, since := tc }
       else if s.depthFull k.val = true then
         t.openCarafe k.val = { s.openCarafe k.val with lastClose := tc } ∧
         t.rd Reg.SRV_RT_CLOSE_DEFER = satAdd (s.rd Reg.SRV_RT_CLOSE_DEFER) 1
       else t.openCarafe k.val = { s.openCarafe k.val with
           lastClose := tc, isOpen := bitAt (s.ac Reg.SRV_RT_CTRL) 0, leaves := [], maxLeaves := s.maxLeaves, since := tc
           draining := (s.openCarafe k.val).draining ++
             [⟨tc, (s.openCarafe k.val).since, (s.openCarafe k.val).leaves, (s.openCarafe k.val).maxLeaves⟩] }
     else t = s) ∧
  (∀ (k : Fin 32) s, Does (.carafeSeal k) s (fun t => match (s.openCarafe k.val).draining with
       | [] => t = s
       | d :: _ => t = if s.rtInFlight k.val d.tc = true then s else (s.advTo (s.cclkAfter 0)).sealDraining k.val d) ∧
     Does (.carafeSealLimit k) s (fun t => match (s.openCarafe k.val).draining with
       | [] => t = s
       | d :: _ => t = (s.advTo (s.cclkAtG ((d.tc + fld (s.ac Reg.SRV_RT_SEAL) 0 16 * 65536) * 1000))).sealDraining k.val d)) ∧
  (∀ (s : State) k d t, t = s.sealDraining k d →
     t.openCarafe k = { s.openCarafe k with draining := (s.openCarafe k).draining.erase d } ∧ t.time = s.time ∧
     let next := if s.rt.late = true then s.rt.next else none
     let dele := if next.isSome = true then next else s.rt.cur
     let lost (a : Nat) : Prop := t.rt.sealed = s.rt.sealed ∧ t.rd a = satAdd (s.rd a) d.leaves.length
     let midp := s.midpAt s.timeView s.nowSt
     if d.leaves = [] then t.rt.sealed = s.rt.sealed ∧ t.live = s.live
     else if s.timeView.ts = .untraceable ∧ s.notAnswering s.cfg.gen = true then lost Reg.SRV_RT_DROP_UNTRACE
     else match dele with
       | none => lost Reg.SRV_RT_DROP_NODELE
       | some e =>
         if midp < e.lo ∨ e.hi < midp ∨ e.maxt < s.sec ∨ (next = none ∧ s.rt.expired = true) then lost Reg.SRV_RT_DROP_NODELE
         else t.rt.nextId = s.rt.nextId + 1 ∧ t.rt.sealed = s.rt.sealed ++ [{
           id := s.rt.nextId
           cluster := k
           leaves := d.leaves
           sealTick := s.time.now
           sealStamp := s.nowSt
           midp := midp
           radi := s.radiAt s.timeView s.nowSt
           dele := e
           stage := .folding
           ctrl := s.ac Reg.SRV_NTP_CTRL }]) ∧
  (∀ (k : Fin 32) s, Does (.rootComplete k) s fun t => match s.rt.sealed.find? (fun c => c.cluster == k.val && c.stage == .folding) with
     | none => t = s
     | some c => t.time.now = max s.time.now (c.sealTick + (8 * treeDepth c.leaves.length + 16) * cclkTicks) ∧
       t.rt = { s.rt with sealed := s.rt.sealed.map (fun x => if x.id = c.id then { x with stage := .queued } else x) }) ∧
  (∀ s, Does .signDispatch s fun t => match s.rt.sealed.find? (fun c => c.stage == .queued) with
     | none => t = s
     | some c => match (List.range 8).find? (fun i => bitAt (s.ac Reg.SRV_RT_SIGN) i && s.engFree i) with
       | none => t = s
       | some i => if s.submitResult i c.signJob = 0 then
           (t.eng i).pend = [c.signJob] ∧ (∀ j, j ≠ i → t.eng j = s.eng j) ∧
           t.rt = { s.rt with sealed := s.rt.sealed.map (fun x => if x.id = c.id then { x with stage := .signing i } else x) }
         else t.rt = s.rt ∧ t.pke = s.pke ∧ t.rd (Reg.PKE_SUB_REFUSED i) = satAdd (s.rd (Reg.PKE_SUB_REFUSED i)) 1) ∧
  (∀ s, Does .carafeSignStale s fun t => match s.rt.sealed.find? Carafe.unsigned with
     | none => t = s
     | some c => t.time.now = max s.time.now (c.sealTick + msTicks * fld (s.ac Reg.SRV_RT_SIGN) 16 16) ∧
       t.rt = { s.rt with sealed := s.rt.sealed.filter (fun x => x.id != c.id), wipeOld := t.rt.wipeOld } ∧ t.evSet 170 = true ∧
       t.rd Reg.SRV_RT_DROP_STALE = satAdd (s.rd Reg.SRV_RT_DROP_STALE) c.leaves.length) ∧
  (∀ (k : Fin 32) s m, m = s.rt.sealed.filter (fun c => c.cluster == k.val) → Does (.carafeSigned k) s fun t =>
     match m.find? (fun c => c.stage == .signed) with
     | none => t = s
     | some c => if m.any Carafe.emits = true then t = s
       else t = { s with rt := { s.rt with sealed := s.rt.sealed.map (fun x =>
         if x.id = c.id then { x with stage := .emitting 0, emitAt := max c.emitAt (s.openCarafe k.val).emitEnd } else x) } }) ∧
  (∀ (k : Fin 32) s, Does (.rtReplyEmit k) s fun t => match s.rt.sealed.find? (fun c => c.cluster == k.val && c.emits) with
     | none => t = s
     | some c => match c.stage with
       | .emitting n => (match c.leaves[n]? with
         | none => t.rt.sealed = s.rt.sealed.filter (fun x => x.id != c.id)
         | some l => t.time.now = max s.time.now (c.emitAt + 16 * cclkTicks) ∧
           t.rt.sealed = (if n + 1 = c.leaves.length then s.rt.sealed.filter (fun x => x.id != c.id)
             else s.rt.sealed.map (fun x =>
               if x.id = c.id then { x with stage := .emitting (n + 1), emitAt := c.emitAt + 16 * cclkTicks } else x)) ∧
           (n + 1 = c.leaves.length → (t.openCarafe k.val).emitEnd = c.emitAt + 16 * cclkTicks) ∧
           if s.isUp l.port = true then t.rd Reg.SRV_RT_ANS = satAdd (s.rd Reg.SRV_RT_ANS) 1 ∧
             ∃ f, (t.port l.port).be = (s.port l.port).be ++ [f] ∧ f.bytes = c.reply n ∧ f.kind = .roughtime ∧
               f.head = some { c.head l with sport := fld (s.ac Reg.SRV_RT_PORT) 0 16 }
           else t.ports = s.ports ∧ (l.port < 8 → t.rd (Reg.PRT_DROP_LINK l.port) = satAdd (s.rd (Reg.PRT_DROP_LINK l.port)) 1))
       | _ => t = s)

/-- The first delegation is made once DT is ALIGNED, for slot A from now on. From 600 s before the switch the next key and
its delegation are made for the other slot, MINT at the switch time. Each new key is drawn and loaded into its slot and
certified by the long-term key if that can sign; nothing is made while KC does not serve or no engine is online. At the
switch a ready delegation takes over with EV173, one that is not ready is late with EV174 and is retried every 60 s. A
delegation in use that reaches MAXT without a successor expires with EV175. Where the step is not due, or the core that runs
it does not serve, nothing changes. -/
def Obligations.Delegation : Prop :=
  (∀ s pk, pk = edPublic (leBytes 32 (Config.trng s.draws).toNat) → Does .deleFirst s fun t =>
     if s.aligned = true ∧ s.cfg.initialDone = true ∧ s.rt.cur = none ∧ s.taskStopped 2 = false then
       if s.taskStopped 4 = true ∨ s.anyEngine = false then t = { s with rt := { s.rt with onlB := false } }
       else t.draws = s.draws + 1 ∧ (t.kslot (s.onlSlot false)).state = .loaded ∧ (t.kslot (s.onlSlot false)).pub = pk ∧
         t.rt = { s.rt with onlB := false, cur := t.delegate false pk s.sec (s.sec + s.deleLife) }
     else t = s) ∧
  (∀ s pk, pk = edPublic (leBytes 32 (Config.trng s.draws).toNat) → Does .delePrepare s fun t => match s.rt.cur with
     | none => t = s
     | some d => if s.rt.next.isSome = true ∨ s.taskStopped 2 = true then t = s
       else t.time = (s.advDt (secUnit * (d.mint + s.delePeriod - 600))).time ∧
         if s.taskStopped 4 = true ∨ s.anyEngine = false then t.rt = s.rt
         else t.draws = s.draws + 1 ∧ (t.kslot (s.onlSlot (!d.slotB))).pub = pk ∧ t.rt = { s.rt with
           next := t.delegate (!d.slotB) pk (d.mint + s.delePeriod) (d.mint + s.delePeriod + s.deleLife) }) ∧
  (∀ s, Does .deleSwitch s fun t => match s.rt.cur with
     | none => t = s
     | some d => if s.rt.late = true ∨ s.taskStopped 2 = true then t = s
       else t.time = (s.advDt (secUnit * (d.mint + s.delePeriod))).time ∧ match s.rt.next with
       | some n => t.evSet 173 = true ∧ t.rt = { s.rt with
           cur := some n, next := none, onlB := n.slotB, late := false, expired := false, wipeOld := t.rt.wipeOld }
       | none => t.evSet 174 = true ∧ t.rt = { s.rt with late := true, retryAt := t.nowSt + 60 * stSec }) ∧
  (∀ s pk, pk = edPublic (leBytes 32 (Config.trng s.draws).toNat) → Does .deleRetry s fun t => match s.rt.cur with
     | none => t = s
     | some d => if s.rt.late = false ∨ s.rt.next.isSome = true ∨ s.taskStopped 2 = true then t = s
       else t.time = (s.advDt (stUnit * s.rt.retryAt)).time ∧ t.rt.retryAt = s.rt.retryAt + 60 * stSec ∧
         if s.taskStopped 4 = true ∨ s.anyEngine = false then t.rt.next = none
         else t.draws = s.draws + 1 ∧
           t.rt.next = t.delegate (!d.slotB) pk (d.mint + s.delePeriod) (d.mint + s.delePeriod + s.deleLife)) ∧
  (∀ s, Does .deleExpire s fun t => match s.rt.cur with
     | none => t = s
     | some d => if s.rt.next.isSome = true ∨ s.rt.expired = true then t = s
       else t.rt = { s.rt with expired := true } ∧ t.evSet 175 = true ∧ t.time = (s.advDt (secUnit * d.maxt)).time)

/-- When the multicast Sync slot of a port fires, and the port serves, one Sync item with its next sequenceId and the slot's
time as T comes to the priority queue of the composing cluster. A wheel tick of a port that serves lists the entries of its
tick list, spaced from the tick on and placed on the grid. The next item of the list comes at its time, with the client's
next sequenceId, to the priority queue of the client's home cluster. A slot that is not ready, an empty list or a port that
does not serve makes no item. An Announce that is due is sent where the port serves and has its key, counted, with the next
sequenceId; the next is due an interval later. An Announce of the grandmaster domain is recorded with EV179, or, with an
AUTHENTICATION TLV that the port does not take, counted and dropped; another is ignored, as is every one while the firmware
core does not serve. -/
def Obligations.SyncAndAnnounce : Prop :=
  (∀ n s, Does (.syncMcFire n) s fun t =>
     if s.slotReady (80 + n.val) = true then
       t.time.now = max s.time.now (s.slotTick (80 + n.val)) ∧
       if t.ptpState n.val = 1 then
         t.cls.nextId = s.cls.nextId + 1 ∧ (t.ptpPort n.val).seq = ((s.ptpPort n.val).seq + 1) % 65536 ∧
         Pushed (mcCluster n.val) (.sync {
           id := s.cls.nextId
           port := n.val
           seq := (s.ptpPort n.val).seq
           T := t.dtOf (s.slot (80 + n.val)).time / stUnit
           origin := t.nowSt
           grant := none
           gen := s.cfg.gen
           dueAt := t.time.now }) s t
       else t.cls = s.cls ∧ t.clus = s.clus ∧ t.ptp = s.ptp
     else t = s) ∧
  (∀ n s a, a = (s.slotFire (88 + n.val)).nominalOf (88 + n.val) (s.slot (88 + n.val)) → Does (.syncUcTick n) s fun t =>
     if s.slotReady (88 + n.val) = true then
       if t.ptpState n.val = 1 then
         (t.ptpPort n.val).items = (s.ptpPort n.val).items ++
           (s.tickList n.val (a % stSec / (stSec / 128)) a).zipIdx.map (fun p =>
             ⟨p.1, t.gridCeil n.val (a + p.2 * s.ucSpace n.val * 65536) - (if s.mode n.val = 7 then 464 else 400) * 65536,
               t.gridCeil n.val (a + p.2 * s.ucSpace n.val * 65536), t.nowSt⟩)
       else t.ptp = s.ptp
     else t = s) ∧
  (∀ n s, Does (.syncUcItemIssue n) s fun t => match (s.ptpPort n.val).items with
     | [] => t = s
     | u :: r => (t.ptpPort n.val).items = r ∧ t.time.now = max s.time.now (s.cclkAtG (u.at_ * 1000)) ∧
       if t.ptpState n.val = 1 then
         t.cls.nextId = s.cls.nextId + 1 ∧
         t.grant u.idx = { s.grant u.idx with syncSeq := ((s.grant u.idx).syncSeq + 1) % 65536 } ∧
         Pushed (s.homeOf (addrHash (s.seedAt t.nowSt).1 (s.grant u.idx).cur.addr)) (.sync {
           id := s.cls.nextId
           port := n.val
           seq := (s.grant u.idx).syncSeq
           T := u.T
           origin := u.origin
           grant := some u.idx
           gen := s.cfg.gen
           dueAt := t.time.now }) s t
       else t.cls = s.cls ∧ t.clus = s.clus) ∧
  (∀ n (i : Option (Fin 65536)) s a seq log, (match i with
       | none => (s.profile s.cfg.gen n.val = 1 ∨ s.profile s.cfg.gen n.val = 2) ∧ a = (s.ptpPort n.val).annAt ∧
         seq = (s.ptpPort n.val).annSeq ∧ log = s.ptpLog s.cfg.gen n.val 1
       | some j => ∃ g, (s.grant j.val).cur.announce = some g ∧ s.profile s.cfg.gen n.val = 3 ∧ (s.grant j.val).cur.port = n.val ∧
         (s.annTurn (max (s.grant j.val).annAt s.nowSt)).sec < g.exp ∧ a = (s.grant j.val).annAt ∧
         seq = (s.grant j.val).annSeq ∧ log = g.log) →
     s.time.st ≠ .unset → s.taskStopped 1 = false → Does (.announceSend n i) s fun t =>
       t.time = (s.annTurn (max a s.nowSt)).time ∧
       (match i with
         | none => (t.ptpPort n.val).annAt = max a s.nowSt + logStamp log ∧ (t.ptpPort n.val).annSeq = (seq + 1) % 65536
         | some j => t.grant j.val = { s.grant j.val with annAt := max a s.nowSt + logStamp log, annSeq := (seq + 1) % 65536 }) ∧
       let m := if t.ptpState n.val = 1 then t.signed s.cfg.gen n.val t.time.now (t.announceMsg n.val seq) else none
       Queued n.val m s t ∧ t.rd Reg.SRV_PTP_ANN_SENT =
         if m.isSome = true then satAdd (s.rd Reg.SRV_PTP_ANN_SENT) 1 else s.rd Reg.SRV_PTP_ANN_SENT) ∧
  (∀ n (i : Option (Fin 65536)) s, (s.time.st = .unset ∨ s.taskStopped 1 = true ∨ (match i with
       | none => s.profile s.cfg.gen n.val = 0 ∨ s.profile s.cfg.gen n.val = 3
       | some j => (s.grant j.val).cur.announce = none ∨ s.profile s.cfg.gen n.val ≠ 3 ∨ (s.grant j.val).cur.port ≠ n.val)) →
     Does (.announceSend n i) s fun t => t = s) ∧
  (∀ n (j : Fin 65536) s g, (s.grant j.val).cur.announce = some g → s.profile s.cfg.gen n.val = 3 → (s.grant j.val).cur.port = n.val →
     g.exp ≤ (s.annTurn (max (s.grant j.val).annAt s.nowSt)).sec → s.time.st ≠ .unset → s.taskStopped 1 = false →
     Does (.announceSend n (some j)) s fun t => t = s.annTurn (max (s.grant j.val).annAt s.nowSt)) ∧
  (∀ n p s, Does (.foreignAnnounce n p) s fun t =>
     if byteAt p 0 % 16 = 0xB ∧ s.profile s.cfg.gen n.val ≠ 0 ∧ byteAt p 4 = s.ptpDomain s.cfg.gen n.val ∧ s.taskStopped 1 = false then
       if authCount p ≠ 0 ∧ s.ptpAuthOk (s.ptpAuth s.cfg.gen n.val) p = false then t = s.bump Reg.SRV_PTP_DROP_AUTH
       else t.evSet 179 = true ∧ t.ptpPort n.val = { s.ptpPort n.val with
           foreignClass := byteAt p 48
           foreignCount := min 65535 ((s.ptpPort n.val).foreignCount + 1) } ∧ t.cls = s.cls ∧ t.clus = s.clus ∧ t.ref = s.ref
     else t = s)

/-- A signalling message that is not for the negotiation, or whose authentication fails, is counted and dropped; the TLVs of
another are handled in order, while the firmware core serves. A request that R244 admits, and for which there is an entry, a
place and a phase, is answered with a grant of the clamped duration and written to the client's entry, to take effect at its
eighth CCLK edge; another is denied and counted. A cancellation is acknowledged; it is counted and written to the entry where
it ends a grant. Another TLV changes nothing. A written change takes effect as the entry's present state at its edge. A grant
ends at its duration. SRV_PTP_GR_CMD.READ copies the entry at SRV_PTP_GR_IDX into the window. With no change or grant
outstanding nothing changes. -/
def Obligations.Grants : Prop :=
  (∀ n f s c, c = Instr.unicastRequest n f ∨ c = Instr.unicastCancel n f → Does c s fun t =>
     if s.taskStopped 1 = true then t = s
     else match s.sigTlvs n.val f.payload with
     | .error a => t = s.bump a
     | .ok tlvs => t = tlvs.foldl (State.sigTlv n.val f) s) ∧
  (∀ (s : State) n f v type log t old place denied, n < 8 → v.length = 6 → type = byteAt v 0 / 16 → log = signed 8 (byteAt v 1) →
     old = (match s.grantOf n f.src with
       | some i => s.grantLatest i
       | none => {}) →
     place = (match s.grantOf n f.src with
       | some i => some (i, (s.grant i).place)
       | none => match s.grantFree, s.grantPlace n f.src with
         | some i, some w => some (i, w)
         | _, _ => none) →
     t = State.sigTlv n f s (4, v) →
     (denied ↔ t.rd Reg.SRV_PTP_DENY = satAdd (s.rd Reg.SRV_PTP_DENY) 1 ∧ t.ptp.grants = s.ptp.grants ∧ t.ptp.grantPend = s.ptp.grantPend ∧
       Answered n f (grantTlv type log 0) s t) →
     if s.ptpState n ≠ 1 ∨ s.logOk type log = false then denied
     else match place with
     | none => denied ∧ t.rd Reg.SRV_PTP_DENY_FULL = satAdd (s.rd Reg.SRV_PTP_DENY_FULL) 1
     | some (i, w) => match (if type ≠ 0 ∨ old.sync.any (fun x => x.log == log) = true then some old.phase else s.findPhase n i log) with
       | none => denied
       | some p => ∃ g d, d = max (fld (s.ac Reg.SRV_PTP_UC_DUR) 0 16) (min (fld (s.ac Reg.SRV_PTP_UC_DUR) 16 16) (ofBe (v.drop 2))) ∧
         t.rd Reg.SRV_PTP_GRANT = satAdd (s.rd Reg.SRV_PTP_GRANT) 1 ∧ Answered n f (grantTlv type log d) s t ∧
         t.ptp.grants = s.ptp.grants ∧ t.ptp.grantPend = s.ptp.grantPend ++ [⟨i, s.cclkAfter 8, g, w⟩] ∧
         g.valid = true ∧ g.port = n ∧ g.addr = f.src ∧ g.phase = p ∧
         g.get type = some ⟨log, (s.gAt (s.cclkAfter 8)).toNat / 1000 / stSec + d⟩) ∧
  (∀ (s : State) n f v t, n < 8 → v.length = 2 → t = State.sigTlv n f s (6, v) →
     Answered n f (ackTlv (byteAt v 0 / 16)) s t ∧ t.ptp.grants = s.ptp.grants ∧
     match (s.grantOf n f.src).filter (fun i => ((s.grantLatest i).get (byteAt v 0 / 16)).isSome) with
     | some i => t.rd Reg.SRV_PTP_CANCEL = satAdd (s.rd Reg.SRV_PTP_CANCEL) 1 ∧ t.ptp.grantPend = s.ptp.grantPend ++
         [⟨i, s.cclkAfter 8, (s.grantLatest i).put (byteAt v 0 / 16) none, (s.grant i).place⟩]
     | none => t.ptp.grantPend = s.ptp.grantPend) ∧
  (∀ (s : State) n f k v, (k = 4 → v.length ≠ 6) → (k = 6 → v.length ≠ 2) → State.sigTlv n f s (k, v) = s) ∧
  (∀ s, Does .grantEffect s fun t => match s.ptp.grantPend with
     | [] => t = s
     | p :: r => t.time.now = max s.time.now p.due ∧ t.ptp.grantPend = r ∧ (t.grant p.idx).cur = p.new ∧
       (t.grant p.idx).past.head? = some (t.nowSt, (s.grant p.idx).cur) ∧ (t.grant p.idx).place = p.place ∧
       ∀ j, j ≠ p.idx → t.grant j = s.grant j) ∧
  (∀ (i : Fin 65536) type s, Does (.grantExpire i type) s fun t => match (s.grant i.val).cur.get type.val with
     | none => t = s
     | some g => t.time = (s.advDt (secUnit * g.exp)).time ∧
       (t.grant i.val).cur = (s.grant i.val).cur.put type.val none ∧
       (t.grant i.val).past.head? = some (stSec * g.exp, (s.grant i.val).cur) ∧
       ∀ j, j ≠ i.val → t.grant j = s.grant j) ∧
  (∀ s, Does .grantRead s fun t => t = { s with ptp := { s.ptp with
     grWin := wordsOf (s.grant (fld (s.rd Reg.SRV_PTP_GR_IDX) 0 16)).bytes
     grValid := (s.grant (fld (s.rd Reg.SRV_PTP_GR_IDX) 0 16)).cur.valid } })

/-- An instance that is enabled on an UP port, and whose firmware core serves, takes the messages of its domain and version;
one whose authentication is not what AUTH asks is counted and discarded, another is ignored. An Announce enters the foreign
masters, and the best qualified one is the master with EV184; a master above ACCEPT_CLASS is given up. A Sync of the master
is remembered, or with its Follow_Up completes the pair of the next exchange; a Delay_Resp to the last Delay_Req completes
the exchange, mpd and θ follow R252, and an outlier is counted with EV185. A Delay_Req joins the best-effort queue of the
bound port with the next sequenceId. A renewal and a retry send their requests when they are due. A timeout of Announce or of
Sync leaves the instance LISTENING without a master. Where none of this applies nothing changes. -/
def Obligations.Clients : Prop :=
  (∀ i f s p k taken, p = f.payload → k = byteAt p 0 % 16 →
     (taken ↔ s.clEn i.val = true ∧ s.isUp (s.clPort i.val) = true ∧ byteAt p 4 = s.clDomain i.val ∧ byteAt p 1 % 16 = 2 ∧
       s.taskStopped (if k = 0xB ∨ k = 0xC then 1 else 0) = false) →
     Does (.clientMessage i f) s fun t => (¬ taken → t = s) ∧
       (taken → s.clAuthOk i.val p = false → t = s.bump Reg.SRV_PTP_CL_DROP_AUTH) ∧
       (taken → s.clAuthOk i.val p = true →
         let src := (ofBe (slice p 20 8), ofBe (slice p 28 2))
         let j := ((List.range 3).find? (fun j => s.clUmt i.val j == f.src)).getD 3
         let mine := (s.client i.val).master = some src
         let seq := ofBe (slice p 30 2)
         let cf : Int := signed 64 (ofBe (slice p 8 8))
         let two := (BitVec.ofNat 8 (byteAt p 6)).getLsbD 1
         match k with
         | 0xB => t = if s.clProfile i.val = 3 ∧ j = 3 then s else s.clAnnounce i.val j p
         | 0xC => t = if s.clProfile i.val = 3 ∧ j < 3 then s.clGrants i.val j p else s
         | 0x0 => if ¬ mine then t = s
           else (t.client i.val).syncAt = s.time.now ∧
             let y : ClSync := ⟨seq, if two then 0 else ptpStamp p 34, cf, s.stampOf (s.clPort i.val) f, !two⟩
             if two then (t.client i.val).syncs = (y :: (s.client i.val).syncs).take 4 ∧ (t.client i.val).pair = (s.client i.val).pair
             else (t.client i.val).pair = some y
         | 0x8 => (match (s.client i.val).syncs.find? (fun y => y.seq == seq) with
           | some y => if ¬ mine then t = s
             else (t.client i.val).pair = some { y with t1 := ptpStamp p 34, cs := y.cs + cf, done := true }
           | none => t = s)
         | 0x9 => (match (s.client i.val).dreq, (s.client i.val).pair with
           | some (q, some t3), some y => if mine ∧ slice p 44 10 = s.portIdent s.cfg.gen (s.clPort i.val) ∧ q = seq then
               t = (s.updClient i.val (fun c => { c with dreq := none })).clExchange i.val y t3 (ptpStamp p 34) cf
             else t = s
           | _, _ => t = s)
         | _ => t = s)) ∧
  (∀ (s : State) i j p t src, src = (ofBe (slice p 20 8), ofBe (slice p 28 2)) → t = s.clAnnounce i j p →
     (∃ x : Foreign, (x.ident, x.portNo) = src ∧ x.cls = byteAt p 48 ∧ x.gm = ofBe (slice p 53 8) ∧ x.umt = j ∧ x.heard.head? = some s.time.now ∧
       (t.client i).foreigns = (s.client i).foreigns.filter (fun g => !(g.ident == src.1 && g.portNo == src.2)) ++ [x]) ∧
     if (s.client i).master = some src ∧ s.clAccept i < byteAt p 48 then (t.client i).master = none ∧ (t.client i).port = .listening
     else match t.clBest i with
     | some g => (t.client i).master = some (g.ident, g.portNo) ∧
       ((s.client i).master ≠ some (g.ident, g.portNo) → t.evSet 184 = true ∧ (t.client i).port = .uncalibrated)
     | none => (t.client i).master = (s.client i).master) ∧
  (∀ (s : State) i y (t3 : Nat) t4 cd t ms sm win mpd th, ms = s.clV i y.sIn - y.t1 - y.cs → sm = t4 - s.clV i t3 - cd →
     win = (roundDiv (ms + sm) 2 :: (s.client i).mpdWin).take 16 → mpd = roundDiv win.sum win.length →
     th = ms - mpd - roundDiv (sfld (s.ac (Reg.SRV_PTP_CL_ASYM i)) 0 24 * 65536) 1000 → t = s.clExchange i y t3 t4 cd →
     if (s.client i).servo = .locked ∧ fld (s.ac (Reg.SRV_PTP_CL_LIMITS i)) 0 16 * 65536 < th.natAbs then
       t.evSet 185 = true ∧ t.rd Reg.SRV_PTP_CL_OUTLIERS = satAdd (s.rd Reg.SRV_PTP_CL_OUTLIERS) 1 ∧
       (t.client i).mpd = (s.client i).mpd ∧ (t.client i).mpdWin = (s.client i).mpdWin ∧
       (t.client i).theta = if bitAt (s.ac (Reg.SRV_PTP_CL_CFG i)) 16 = true then th else (s.client i).theta
     else (t.client i).mpdWin = win ∧ (t.client i).mpd = mpd ∧ (t.client i).theta = th) ∧
  (∀ i s, Does (.clientDelayReq i) s fun t =>
     if s.clEn i.val = true ∧ (s.client i.val).master.isSome = true ∧ s.isUp (s.clPort i.val) = true ∧ s.taskStopped 0 = false then
       match s.clSigned i.val (ptpHeader 1 (if s.clAuth i.val = true then 70 else 44) (s.clDomain i.val)
         (bn (s.clProfile i.val == 3) 10) 0 (s.portIdent s.cfg.gen (s.clPort i.val)) (s.client i.val).dseq 1 0x7F ++ List.replicate 10 0) with
       | none => t = s
       | some m => t.client i.val = { s.client i.val with
           dreq := some ((s.client i.val).dseq, none)
           dseq := ((s.client i.val).dseq + 1) % 65536 } ∧
         ∃ f, (t.port (s.clPort i.val)).be = (s.port (s.clPort i.val)).be ++ [f] ∧ f.kind = .delayReq i.val (s.client i.val).dseq ∧
           f.bytes = m
     else t = s) ∧
  (∀ i j type s, Does (.clientGrantRenew i j type) s fun t =>
     match (s.client i.val).grants.find? (fun p => p.1 == 16 * j.val + type.val) with
     | none => t = s
     | some p =>
       if s.clEn i.val = true ∧ s.clProfile i.val = 3 ∧ p.2.asked = false ∧ s.taskStopped 1 = false then
         t.time.now = max s.time.now p.2.renewAt ∧
         Asked i.val (requestTlv type.val (s.clLog i.val type.val) (fld (s.ac (Reg.SRV_PTP_CL_DUR i.val)) 0 16)) (s.advTo p.2.renewAt) t ∧
         (t.client i.val).grants = tput (s.client i.val).grants p.1 { p.2 with asked := true } ∧ (t.client i.val).retryAt.isSome = true
       else t = s) ∧
  (∀ i s, Does (.clientRetry i) s fun t => match (s.client i.val).retryAt with
     | none => t = s
     | some a =>
       if s.taskStopped 1 = true then t = s
       else
         let w := (s.advTo a).clWants i.val
         t.time.now = max s.time.now a ∧ (t.client i.val).asked = !w.isEmpty ∧
         (t.client i.val).retryAt = (if w.isEmpty = true then none
           else some (t.time.now + sTicks * (if (s.client i.val).asked = true then 10 else 1))) ∧
         (∀ x, w = [x] → Asked i.val (requestTlv x.2 (s.clLog i.val x.2) (fld (s.ac (Reg.SRV_PTP_CL_DUR i.val)) 0 16)) (s.advTo a) t) ∧
         (s.isUp (s.clPort i.val) = true → s.clAuth i.val = false →
           (t.port (s.clPort i.val)).be.length = (s.port (s.clPort i.val)).be.length + w.length)) ∧
  (∀ i s, Does (.clientAnnounceTimeout i) s fun t => match (s.client i.val).master with
     | none => t = s
     | some _ => s.time.now ≤ t.time.now ∧ (t.client i.val).master = none ∧ (t.client i.val).port = .listening ∧
       ((s.client i.val).port ≠ .listening → t.evSet 182 = true) ∧
       ((s.client i.val).servo = .acquire ∨ (s.client i.val).servo = .locked → (t.client i.val).servo = .freeRun)) ∧
  (∀ i s, Does (.clientSyncTimeout i) s fun t =>
     if (s.client i.val).port = .slave ∨ (s.client i.val).port = .uncalibrated then
       t.time.now = max s.time.now ((s.client i.val).syncAt + 3 * sTicks * (s.clDelta i.val).1 / (s.clDelta i.val).2) ∧
       (t.client i.val).master = none ∧ (t.client i.val).port = .listening ∧ t.evSet 182 = true ∧
       ((s.client i.val).servo = .acquire ∨ (s.client i.val).servo = .locked → (t.client i.val).servo = .freeRun)
     else t = s)

/-- PKE_JOB_GO from a core queues its staged descriptor at the tail of the engine, or refuses and counts it, and RESULT shows
which; from another master it is discarded with EV192. An engine that is online and free starts its oldest pending job at the
instant it was free (the start of a queued job at its predecessor's end is the model's choice, log entry 69): a failed slot
check ends it 16 CCLK on, with CLEAN as it was; a job that passes has the status, output, slot and operand of its program,
ends at its count, or 112 CCLK on where its validation refuses it (DMA time added for a host owner), and clears CLEAN if it
loads an operand. In native mode a job of another owner first wipes a memory that is not clean, for 2,048 CCLK. A full wipe
ends with CLEAN set and operand memory and result buffer zero. An engine that is offline, runs, wipes or holds a record
starts nothing, and without a wipe none ends. -/
def Obligations.PkeSubmission : Prop :=
  (∀ i m s, Does (.pkeJobGo i m) s fun t => match m.core with
     | none => EvOnly s t ∧ t.evSet 192 = true
     | some c =>
       let e := s.eng i.val
       let j : PkeJob := { words := (List.range 8).map (fun k => s.rd (bankKey m (Reg.PKE_JOB_W i.val k))), by_ := .core c }
       t.rd (bankKey m (Reg.PKE_SUB_STAT i.val)) = BitVec.ofNat 32 (s.submitResult i.val j) ∧
       (∀ k, k ≠ i.val → t.eng k = s.eng k) ∧ t.pke.slots = s.pke.slots ∧ t.time = s.time ∧
       if s.submitResult i.val j = 0 then t.eng i.val = { e with
           pend := e.pend ++ [j]
           startAt := if e.run = none ∧ e.pend = [] ∧ e.wipeUntil = none then max e.startAt (s.cclkAfter 8) else e.startAt }
       else t.eng i.val = e ∧ t.rd (Reg.PKE_SUB_REFUSED i.val) = satAdd (s.rd (Reg.PKE_SUB_REFUSED i.val)) 1) ∧
  (∀ i input dma ok s e u, e = s.eng i.val → u = s.advTo e.startAt → Does (.pkeJobStart i input dma ok) s fun t => match e.pend with
     | [] => t = s
     | j :: rest =>
       if e.run.isSome = true ∨ e.wipeUntil.isSome = true ∨ e.held ≠ [] ∨ e.online = false then t = s
       else t.time = u.time ∧ t.pke.slots = s.pke.slots ∧ (∀ k, k ≠ i.val → t.eng k = s.eng k) ∧
         if bitAt (s.ac (Reg.PKE_CTRL i.val)) 0 = false ∧ e.clean = false ∧ e.prevOwner.isSome = true ∧ e.prevOwner ≠ some j.owner then
           t.eng i.val = { e with wipeUntil := some (e.startAt + 2048 * cclkTicks) } ∧
           t.rd (Reg.PKE_WIPES i.val) = satAdd (s.rd (Reg.PKE_WIPES i.val)) 1
         else ∃ r, t.eng i.val = { e with
             run := some r
             pend := rest
             owner := j.owner
             program := j.program
             prevOwner := some j.owner
             clean := (t.eng i.val).clean } ∧
           r.job = j ∧ r.start = e.startAt ∧ r.te5 = bitAt (s.ac (Reg.PKE_CTRL i.val)) 0 ∧
           let secret := secretProgram j.program
           let chk := if s.coreFailed 4 = true ∧ j.useSlot = true ∧ secret = true then 1 + Config.kcFailStatus % 14
             else if ok = false ∧ secret = true then 13 else j.slotCheck (s.kslot j.slot) u.sec
           let wait := if ownerHost j.owner = true then dma else 0
           if chk ≠ 0 then r.status = chk ∧ r.endAt = r.start + 16 * cclkTicks ∧ r.out = [] ∧ r.slotNew = none ∧
             (t.eng i.val).clean = e.clean ∧ (chk = 13 → t.evSet 203 = true)
           else ∃ bytes, (∀ c, j.buf = some c → bytes = s.bufRead c (join32 (j.word 2) (j.word 3)) j.inLen) ∧
             (j.buf = none → bytes = j.input.getD input) ∧
             let o := runProgram j e (s.kslot j.slot) s.otp.duk bytes (Config.trng s.draws, Config.trng (s.draws + 1))
             r.status = o.status ∧ r.out = o.out ∧ r.slotNew = o.slotNew ∧ r.opNew = o.opNew ∧ r.refused = !o.valid ∧
             r.secretBearing = (secret && o.valid) ∧
             r.endAt = r.start + ((if o.valid = true then j.cycles (s.kslot j.slot) else 112) + wait) * cclkTicks ∧
             (t.eng i.val).clean = (e.clean && !loadsOperand j.program)) ∧
  (∀ i s, Does (.pkeWipeDone i) s fun t => match (s.eng i.val).wipeUntil with
     | none => t = s
     | some w => t.time = (s.advTo w).time ∧ t.pke.slots = s.pke.slots ∧ (∀ k, k ≠ i.val → t.eng k = s.eng k) ∧
       t.eng i.val = { s.eng i.val with
         wipeUntil := none
         clean := true
         ops := []
         result := []
         startAt := w
         busyTicks := ((s.eng i.val).busyTicks + 2048) % 1024 })

/-- The end of a job frees its engine, sets LAST_STATUS, counts the job, counts a refused validation, writes slot, operand
and output if it ended OK, wipes as its program and WIPE_MODE ask, and queues its record for the core that submitted it, held
with EV198 where the queue is full. E_FAULT is counted with EV195 and retires an engine with too many. A completed job ends
at its count, with E_FAULT where a check of its result or a memory error fails it, and its record is 12 CCLK on its way. A
DMA error ends a host job with E_DMA, at once without an output, or at its count with the output partly written. A job 1,024
CCLK past its count ends with E_FAULT, wiped, with EV205. A pop answers and removes the reader's oldest record, and a held
record follows. An abort that KC or the submitter makes stops a running job and wipes the engine, or removes a pending one,
with EV196, unless the output write has begun or the count ends; one that matches nothing sets ABORT_MISS. Carafes and
firmware then see the ended jobs. -/
def Obligations.PkeEnds : Prop :=
  (∀ (i : Fin 8) (s : State) r st w n t e out full clean, e = s.eng i.val → t = s.pkeEnd i.val r st w n →
     out = (if st = 0 ∨ st = 11 then r.out.take n else []) → full = (w || r.secretBearing) → clean = (full || e.clean) →
     (∀ k, k ≠ i.val → t.eng k = s.eng k) ∧ t.time = s.time ∧
     (∀ k ks, r.slotNew = some (k, ks) → st = 0 → t.kslot k = ks ∧ ∀ x, x ≠ k → t.kslot x = s.kslot x) ∧
     (r.slotNew = none ∨ st ≠ 0 → t.pke.slots = s.pke.slots) ∧
     (r.job.buf = none → out ≠ [] → .pkeOut i.val r.job.outAddr out ∈ t.outbox) ∧
     (out = [] → ∀ a b, .pkeOut i.val a b ∈ t.outbox → .pkeOut i.val a b ∈ s.outbox) ∧
     t.rd (Reg.PKE_REFUSED i.val) = (if r.refused = true ∧ st = r.status then satAdd (s.rd (Reg.PKE_REFUSED i.val)) 1
       else s.rd (Reg.PKE_REFUSED i.val)) ∧
     (st = 6 → t.rd (Reg.PKE_FAULTS i.val) = satAdd (s.rd (Reg.PKE_FAULTS i.val)) 1 ∧ t.evSet 195 = true ∧ (t.eng i.val).run = none ∧
       let pol := s.ac Reg.FLT_POLICY
       (fld pol 8 4 ≤ (e.faults.filter (fun x => decide (s.time.now < x + sTicks * fld pol 12 8))).length + 1 →
         (t.eng i.val).retired = true ∧ (e.retired = false → (t.eng i.val).online = false))) ∧
     (st ≠ 6 → t.rd (Reg.PKE_JOBS i.val) = satAdd (s.rd (Reg.PKE_JOBS i.val)) 1 ∧ t.eng i.val = { e with
         run := none
         startAt := r.endAt
         clean := clean
         result := if full = true then [] else if st = 0 ∨ st = 11 then resultAfter e.result r.out else e.result
         ops := if full = true then [] else match r.opNew with
           | some (d, v) => if st = 0 then tupd (fun _ => 0) e.ops d (fun o => lowWords (ceilDiv r.job.size 64) o v) else e.ops
           | none => e.ops
         wipeUntil := if r.te5 = true ∧ clean = false then some (r.endAt + 2048 * cclkTicks) else e.wipeUntil
         status := st
         lastOwner := r.job.owner
         busyTicks := (e.busyTicks + (r.endAt - r.start) / cclkTicks) % 1024
         cpl := (t.eng i.val).cpl
         held := (t.eng i.val).held } ∧
       match r.job.by_ with
       | .srv => (t.eng i.val).cpl = e.cpl ∧ (t.eng i.val).held = e.held
       | .core c => (∀ d, d ≠ c → tget (fun _ => []) (t.eng i.val).cpl d = tget (fun _ => []) e.cpl d) ∧
         let rec_ : Cpl := ⟨r.job.tag, r.job.owner, st⟩
         if (tget (fun _ => []) e.cpl c).length < 8 then t.evSet 194 = true ∧ (t.eng i.val).held = e.held ∧
           tget (fun _ => []) (t.eng i.val).cpl c = tget (fun _ => []) e.cpl c ++ [rec_]
         else (t.eng i.val).cpl = e.cpl ∧ (t.eng i.val).held = e.held ++ [(c, rec_)] ∧ (e.held = [] → t.evSet 198 = true))) ∧
  (∀ i fault s, Does (.pkeJobComplete i fault) s fun t => match (s.eng i.val).run with
     | none => t = s
     | some r =>
       let bad := r.eccBad || (fault && secretProgram r.job.program && r.status == 0)
       let st := if bad = true then 6 else r.status
       t = (((s.advTo r.endAt).pkeEnd i.val r st bad).advTo (r.endAt + 12 * cclkTicks)).jobOver r st) ∧
  (∀ (s : State) r st, (∀ c, r.job.by_ = .core c → s.jobOver r st = s.jobsEnded) ∧
     (r.job.by_ = .srv → s.jobOver r st = (s.carafeDone r.job.carafe st r.out).jobsEnded) ∧
     ∀ c, s.rt.sealed.find? (fun c => c.id == r.job.carafe) = some c → st = 0 →
       (s.carafeDone r.job.carafe st r.out).rt.sealed = s.rt.sealed.map (fun x =>
         if x.id = r.job.carafe then { x with stage := .signed, sig := r.out, emitAt := s.time.now } else x)) ∧
  (∀ i output s, Does (.pkeDmaError i output) s (fun t => match (s.eng i.val).run with
       | none => t = s
       | some _ => t = (s.dmaError i.val output).jobsEnded) ∧
     ∀ r u, (s.eng i.val).run = some r → u = s.dmaError i.val output →
       if ownerHost r.job.owner = false ∨ (output.isSome = true ∧ r.writes true = false) then u = s
       else (u.eng i.val).run = none ∧ (u.eng i.val).status = 11 ∧ u.pke.slots = s.pke.slots ∧
         u.rd (Reg.PKE_JOBS i.val) = satAdd (s.rd (Reg.PKE_JOBS i.val)) 1 ∧ match output with
         | none => u.time = s.time ∧ (u.eng i.val).startAt = s.cclkAfter 0 ∧ (u.eng i.val).clean = (s.eng i.val).clean ∧
           ∀ a b, .pkeOut i.val a b ∈ u.outbox → .pkeOut i.val a b ∈ s.outbox
         | some n => u.time = (s.advTo r.endAt).time ∧ (u.eng i.val).clean = (r.secretBearing || (s.eng i.val).clean) ∧
           (r.job.buf = none → 0 < min n (r.out.length - 1) →
             .pkeOut i.val r.job.outAddr (r.out.take (min n (r.out.length - 1))) ∈ u.outbox)) ∧
  (∀ i s, Does (.pkeJobTimeout i) s fun t => match (s.eng i.val).run with
     | none => t = s
     | some r => t = (((s.advTo (r.endAt + 1024 * cclkTicks)).pkeEnd i.val
         { r with endAt := r.endAt + 1024 * cclkTicks, slotNew := none } 6 true).raise 205).jobOver { r with out := [] } 6 ∧
       t.evSet 205 = true ∧ t.evSet 195 = true) ∧
  (∀ i m s, Does (.pkeCplPop i m) s fun t => match m.core with
     | none => t = { s with bus := { data := [0], unsupported := false } }
     | some c => match tget (fun _ => []) (s.eng i.val).cpl c with
       | [] => t = { s with bus := { data := [0], unsupported := false } }
       | r :: rest =>
         t.bus = { data := [BitVec.ofNat 32 (r.tag + r.status * 2 ^ 8 + r.owner * 2 ^ 16 + rest.length * 2 ^ 24 + 2 ^ 30)]
                   unsupported := false } ∧
         (∀ d, d ≠ c → tget (fun _ => []) (t.eng i.val).cpl d = tget (fun _ => []) (s.eng i.val).cpl d) ∧
         (t.eng i.val).run = (s.eng i.val).run ∧ (t.eng i.val).pend = (s.eng i.val).pend ∧ t.pke.slots = s.pke.slots ∧
         match (s.eng i.val).held.find? (fun h => h.1 == c) with
         | none => (t.eng i.val).held = (s.eng i.val).held ∧ tget (fun _ => []) (t.eng i.val).cpl c = rest
         | some h => rest.length < 8 → (t.eng i.val).held = (s.eng i.val).held.erase h ∧ t.evSet 194 = true ∧
           tget (fun _ => []) (t.eng i.val).cpl c = rest ++ [h.2]) ∧
  (∀ i m tag owner begun s (may : PkeJob → Bool), (∀ j, may j = true ↔ j.tag = tag.val ∧ j.owner = owner.val ∧
       (m = .kc ∨ ∃ c, m.core = some c ∧ j.by_ = .core c)) →
     Does (.pkeAbort i m tag owner begun) s fun t =>
       let e := s.eng i.val
       let waiting := match e.pend.find? may with
         | some j => t = (s.abortPending i.val j).jobsEnded
         | none => t.eng i.val = { e with abortMiss := true } ∧ (∀ k, k ≠ i.val → t.eng k = s.eng k) ∧ t = { s with pke := t.pke }
       match e.run with
       | some r => if may r.job = true then
           t = (if r.writes begun = true ∨ r.endAt ≤ s.cclkAfter 1 then s else s.abortRunning i.val r).jobsEnded
         else waiting
       | none => waiting) ∧
  (∀ (i : Fin 8) (s : State) (r : Run) (j : PkeJob) e, e = s.eng i.val →
     (∀ u, u = s.abortRunning i.val r → (u.eng i.val).run = none ∧ (u.eng i.val).clean = false ∧ (u.eng i.val).status = 7 ∧
       (u.eng i.val).pend = e.pend ∧ (u.eng i.val).wipeUntil = some (s.cclkAfter 1 + 2048 * cclkTicks) ∧ u.evSet 196 = true ∧
       u.rd (Reg.PKE_ABORTS i.val) = satAdd (s.rd (Reg.PKE_ABORTS i.val)) 1 ∧ u.pke.slots = s.pke.slots ∧
       ∀ a b, .pkeOut i.val a b ∈ u.outbox → .pkeOut i.val a b ∈ s.outbox) ∧
     ∀ u, u = s.abortPending i.val j → (u.eng i.val).run = e.run ∧ (u.eng i.val).clean = e.clean ∧ (u.eng i.val).status = 7 ∧
       (u.eng i.val).pend = e.pend.erase j ∧ (u.eng i.val).wipeUntil = e.wipeUntil ∧ u.evSet 196 = true ∧
       u.rd (Reg.PKE_ABORTS i.val) = satAdd (s.rd (Reg.PKE_ABORTS i.val)) 1 ∧ u.pke.slots = s.pke.slots)

/-- READ_ATTR loads the attributes of the indexed slot, and READ_PUB its public part if the slot's usage allows the export
and refuses otherwise. DELETE from KC or PF1 leaves the indexed slot empty, with EV201 where it was not, and takes the key of
a ring slot from the cells and the sealing unit; from another master it is refused with EV193. At NOT_AFTER a slot is wiped
in the same way with EV202, at NOT_BEFORE a pending slot is loaded with EV201; a slot without such a time, an empty one, or
an expiry while KC has failed changes nothing. -/
def Obligations.KeySlots : Prop :=
  (∀ m s, Does (.keySlotReadAttr m) s fun t =>
     t = { s with pke := { s.pke with attr := s.kslot (s.slotIdx m), refused := false } }) ∧
  (∀ m s k, k = s.kslot (s.slotIdx m) → Does (.keySlotReadPub m) s fun t =>
     t = { s with pke := { s.pke with
       pubWin := if k.type ≠ 0 ∧ k.usage.testBit 2 = true ∧ k.pub ≠ [] then wordsOf k.pub else []
       pubValid := decide (k.type ≠ 0 ∧ k.usage.testBit 2 = true ∧ k.pub ≠ [])
       refused := decide ¬(k.type ≠ 0 ∧ k.usage.testBit 2 = true ∧ k.pub ≠ []) } }) ∧
  (∀ (s : State) i t, t = s.slotWipe i → t.kslot i = {} ∧ (∀ k, k ≠ i → t.kslot k = s.kslot k) ∧
     t.pke = { s.pke with slots := t.pke.slots } ∧ ((s.kslot i).state ≠ .empty → t.evSet 201 = true) ∧
     (s.ringSlot 0 = i → t.srv.nts.cur = none) ∧ (s.ringSlot 1 = i → t.srv.nts.prev1 = none) ∧
     (s.ringSlot 2 = i → t.srv.nts.prev2 = none) ∧ (s.ringSlot 3 = i → t.srv.nts.next = none) ∧
     ((∀ n, n < 4 → s.ringSlot n ≠ i) → t.srv = s.srv)) ∧
  (∀ m s, Does (.keySlotDelete m) s fun t =>
     if m.secure = true then t = ({ s with pke := { s.pke with refused := false } } : State).slotWipe (s.slotIdx m)
     else t.pke = { s.pke with refused := true } ∧ t.evSet 193 = true ∧ t.srv = s.srv) ∧
  (∀ i s, Does (.keySlotExpire i) s fun t =>
     if (s.kslot i.val).type = 0 ∨ (s.kslot i.val).naf = 0 ∨ s.coreFailed 4 = true then t = s
     else t = ((s.advDt (secUnit * (s.kslot i.val).naf)).slotWipe i.val).raise 202 ∧ t.evSet 202 = true) ∧
  (∀ i s, Does (.keySlotNotBefore i) s fun t =>
     if (s.kslot i.val).state = .pending then t.time = (s.advDt (secUnit * (s.kslot i.val).nbf)).time ∧
       t.kslot i.val = { s.kslot i.val with state := .loaded } ∧ t.evSet 201 = true ∧ t.srv = s.srv ∧
       ∀ k, k ≠ i.val → t.kslot k = s.kslot k
     else t = s)

/-- An edge of the polarity of POL feeds the monitors of its ball, corrected by REF_IN_DELAY, and at a frequency input counts
in the activity window and the divider and stamps each divided period (the divider is the model's choice, log entry 72);
another changes only the watch on CASC_IN. A pulse inside the window around its prediction becomes the last one with its
offset, one outside is counted as bad and three spaced a second apart after three misses are a phase jump; of an inactive
reference the second of two pulses a second apart gives activity. A missing pulse counts, and LOS_COUNT of them in a row end
activity. An activity window with a count in range keeps the run of good windows, and a second of it gives activity back; one
out of range ends it. A frequency measurement is judged with hysteresis. A frame of TOD in its time labels its pulse, or the
next, and a broken one fails the label check for 16 seconds. What is not enabled or not due changes nothing. -/
def Obligations.RefMonitors : Prop :=
  (∀ i at25 (run : EdgeRun) s u, u = s.advTo (at25 / 8) → Does (.refEdge i at25 run) s fun t =>
     let b : State := if i.val = 8 then
       { u with serve := { s.serve with cascLowSince := if run.high = true then none else some u.time.now } } else u
     let b' : State := if s.refEn i.val = true ∧ i.val < 8 ∧ s.refFreq i.val = true then b.freqEdge i.val (at25 * 25 : Nat) run.more else b
     let tb : Int := ((at25 * 25 : Nat) : Int) - (if i.val < 8 then sfld (s.ac (Reg.REF_IN_DELAY i.val)) 0 32 else 0)
     t.time = u.time ∧
     if run.high = (decide (i.val < 8) && bitAt (s.ac (Reg.REF_CFG i.val)) 3) then t = b
     else match s.edgeMons i.val with
       | [] => t = b'
       | [m] => t = b'.pulse m tb (u.dtAtPs tb) none
       | _ => t = (b'.pulse i.val tb (u.dtAtPs tb) none).pulse 12 tb (u.dtAtPs tb) none) ∧
  (∀ (s : State) m tb more t x n k, t = s.freqEdge m tb more → x = s.mon m → n = s.refDivider m → k = x.since + more + 1 →
     (∀ o, o ≠ m → t.mon o = s.mon o) ∧
     if k % n ≠ 0 then t.mon m = { x with winEdges := x.winEdges + more + 1, since := k }
     else t.mon m = { x with
       winEdges := x.winEdges + more + 1
       since := 0
       edgeDt := s.dtAtPs tb
       gate := some (x.gate.getD (s.dtAtPs tb))
       periods := if x.gate.isSome = true then x.periods + k / n else 0 }) ∧
  (∀ (s : State) m tb st lab t x, m < 12 → t = s.pulse m tb st lab → x = s.mon m → (∀ o, o ≠ m → t.mon o = s.mon o) ∧
     let b := (tb :: x.bad).take 3
     let takes : Prop := (t.mon m).last = some tb ∧ (t.mon m).missed = 0 ∧ (t.mon m).bad = [] ∧ (t.mon m).active = true ∧
       (t.mon m).phaseBad = x.phaseBad - 1 ∧ (t.mon m).pulse = some st.toNat ∧ (t.mon m).o = offsetOf st lab
     if x.active = true then match s.predicted m with
       | none => takes
       | some p => if (tb - p).natAbs ≤ (s.ppsWin m).natAbs then takes
         else t.rd (Reg.REF_PULSE_BAD m) = satAdd (s.rd (Reg.REF_PULSE_BAD m)) 1 ∧
           if (s.updMon m (fun x => { x with bad := b })).jumped m = true then
             (t.mon m).last = some tb ∧ (t.mon m).phaseBad = 16 ∧ (t.mon m).missed = 0 ∧ (t.mon m).hist = [] ∧ t.evSet 38 = true
           else t.mon m = { x with bad := b }
     else m < 8 → x.last = none → x.bad = [] →
       if (∃ c, x.cand = some c ∧ (tb - c - psSec).natAbs ≤ (s.ppsWin m).natAbs) then takes
       else t.mon m = { x with cand := some tb }) ∧
  (∀ m s, Does (.pulseMissing m) s fun t => match s.predicted m.val with
     | none => t = s
     | some p => if s.refPulses m.val = false then t = s
       else
         let x := s.mon m.val
         let y := { x with missed := x.missed + 1, phaseBad := if x.phaseBad = 0 then 0 else 16, owed := false }
         t.time = (s.advTo ((p + s.ppsWin m.val) / 200).toNat).time ∧ (∀ o, o ≠ m.val → t.mon o = s.mon o) ∧
         if (s.updMon m.val (fun _ => y)).jumped m.val = true then (t.mon m.val).last = x.bad.head? ∧ t.evSet 38 = true
         else if m.val = 12 then
           if s.losCount 12 ≤ x.lack + 1 then (t.mon 12).active = false else t.mon 12 = { y with lack := x.lack + 1 }
         else if m.val < 8 ∧ s.losCount m.val ≤ x.missed + 1 then (t.mon m.val).active = false ∧ (t.mon m.val).missed = x.missed + 1
         else t.mon m.val = y) ∧
  (∀ m more s, Does (.activityWindow m more) s fun t =>
     if s.refEn m.val = true ∧ s.refFreq m.val = true then
       let x := s.mon m.val
       let (n, d) := s.windowNominal m.val
       let since := x.passFrom.getD (s.time.now - s.windowTicks m.val)
       (∀ o, o ≠ m.val → t.mon o = s.mon o) ∧ (t.mon m.val).winEdges = 0 ∧ (t.mon m.val).since = x.since + more ∧
       if n ≤ 2 * (x.winEdges + more) * d ∧ 2 * (x.winEdges + more) * d ≤ 3 * n then (t.mon m.val).passFrom = some since ∧
         (t.mon m.val).active = (x.active || decide (since + sTicks ≤ s.time.now))
       else (t.mon m.val).passFrom = none ∧ (t.mon m.val).active = false
     else t = s) ∧
  (∀ m df s, Does (.freqCheck m df) s fun t =>
     let x := s.mon m.val
     let judged (f : Int) : Prop := (t.mon m.val).df = f ∧ (t.mon m.val).freqOk =
       if x.freqOk = true then decide (f.natAbs ≤ fld (s.ac (Reg.REF_LIMITS m.val)) 0 16 * 1000)
       else decide (f.natAbs < fld (s.ac (Reg.REF_LIMITS m.val)) 16 16 * 1000)
     if s.refEn m.val = false ∨ x.active = false then t = s
     else if s.refFreq m.val = true then
       match (if m.val = 11 then some df else s.gateDf m.val) with
       | some f => judged f ∧ (t.mon m.val).periods = 0 ∧ (t.mon m.val).gate = x.gate.map (fun _ => x.edgeDt) ∧
         (t.mon m.val).hist = (⟨secIdx s.nowPs, s.nowPs, 0, f⟩ :: x.hist).take 1001
       | none => t = s
     else match fitDf x.hist with
       | some f => judged f
       | none => t = s) ∧
  (∀ cas bytes s, Does (.todFrame cas bytes) s fun t => match (s.mon 12).pulse with
     | none => t = s
     | some p =>
       if s.refEn 12 = false ∨ (s.mon 12).cfgErr = true ∨ bitAt (s.ac Reg.REF_TOD_CFG) 0 ≠ cas ∨ s.nowSt - p < 10 * stMs ∨
         990 * stMs < s.nowSt - p then t = s
       else match s.todLabel (cas || bitAt (s.ac Reg.REF_TOD_CFG) 4) bytes with
       | none => (t.mon 12).labelBad = 16 ∧ ((s.mon 12).labelBad = 0 → t.evSet 39 = true)
       | some lab => t.rd Reg.REF_TOD_LABEL_LO = lo32 (lab % 2 ^ 48) ∧ t.rd Reg.REF_TOD_LABEL_HI = hi32 (lab % 2 ^ 48) ∧
         if bitAt (s.ac Reg.REF_TOD_CFG) 5 = true then t.mon 12 = { s.mon 12 with next := some (lab % 2 ^ 48) }
         else if (s.mon 12).owed = false then t.mon 12 = s.mon 12
         else (t.mon 12).owed = false ∧ (t.mon 12).lack = 0 ∧ (t.mon 12).active = true ∧
           (t.mon 12).o = offsetOf p (some (lab % 2 ^ 48)))

/-- At the end of wait-to-restore a reference becomes QUALIFIED with EV032 and the selector looks again; CLEAR_WTR of an
allowed master ends the running wait of the named references, and of PF0 or SPI is refused with EV040. The cross-check leaves
the pairs whose votes are equal as the unresolved disagreements, raises EV036 for a new one, and fails the outvoted reference
of another. The selector takes the reference that its rules give, with its reason, a switch is counted with EV034, and the
first finding of no eligible reference raises EV035. A reference that does not wait, and a selector with nothing new, change
nothing. -/
def Obligations.RefRanking : Prop :=
  (∀ m s, Does (.wtrExpire m) s fun t => match (s.mon m.val).wtrEnd with
     | none => t = s
     | some e => t.time = (s.advDt e).time ∧ t.ref.evalDue = true ∧ t.evSet 32 = true ∧ (∀ k, k ≠ m.val → t.mon k = s.mon k) ∧
       t.mon m.val = { s.mon m.val with state := .qualified, wtrEnd := none, wtrLeft := 0 }) ∧
  (∀ w mask s, Does (.clearWtr w mask) s fun t =>
     if w = .pf0 ∨ w = .spi then EvOnly s t ∧ t.evSet 40 = true
     else
       let done (m : Nat) := decide (m < 13) && mask.toNat.testBit m && decide ((s.mon m).state = .wtr) && (s.mon m).wtrEnd.isSome
       t.time = (s.advTo (s.cclkAfter 1)).time ∧
       ((∃ m, done m = true) → t.ref.evalDue = true ∧ t.evSet 32 = true) ∧
       ∀ m, t.mon m = if done m = true then { s.mon m with state := .qualified, wtrEnd := none, wtrLeft := 0 } else s.mon m) ∧
  (∀ s bad, bad = s.xPairs.filter (fun p => !(s.compare p.1 p.2).within) → Does .xcheck s fun t =>
     t.time = s.time ∧ t.ref.disPairs = bad.filter (fun p => (s.votes p.1 p.2).1 == (s.votes p.1 p.2).2) ∧
     ((∃ p ∈ t.ref.disPairs, p ∉ s.ref.disPairs) → t.evSet 36 = true) ∧
     (∀ m, m < 13 → (t.mon m).disagree = t.ref.disPairs.any (fun p => p.1 == m || p.2 == m)) ∧
     ∀ p ∈ bad, ((s.votes p.1 p.2).1 < (s.votes p.1 p.2).2 → (t.mon p.1).xfail = true ∧ p.2 ∈ (t.mon p.1).winners) ∧
       ((s.votes p.1 p.2).2 < (s.votes p.1 p.2).1 → (t.mon p.2).xfail = true ∧ p.1 ∈ (t.mon p.2).winners)) ∧
  (∀ s u, u = s.advTo (s.cclkAfter 1) → Does .selectorEvaluate s fun t =>
     if s.ref.evalDue = false then t = s
     else t.time.now = u.time.now ∧ t.ref.selected = (u.selectNow false false).1 ∧
       (if t.ref.selected = s.ref.selected then t.ref.reason = s.ref.reason ∧
           t.rd Reg.REF_SEL_SWITCHES = s.rd Reg.REF_SEL_SWITCHES
         else t.ref.reason = (u.selectNow false false).2 ∧ t.evSet 34 = true ∧
           t.rd Reg.REF_SEL_SWITCHES = satAdd (s.rd Reg.REF_SEL_SWITCHES) 1) ∧
       (t.ref.selected = none → (∀ m, m < 13 → u.eligible m = false) → s.ref.noneRaised = false → t.evSet 35 = true))

/-- The loss of OSCIN is shown in CLK_STAT with EV048 and forces e_hold. A loop of an APLL that loses lock is marked with
EV049 and EV022, the output moves to the other loop if that is locked, and with both loops of APLL0 unlocked e_hold is
forced. A fatal fault is marked with EV023 and forces e_hold. At the next DT millisecond r falls toward 0 in the loop states
that follow a phase reference, the slew falls, the DCO state enters the second's mean, and e_hold of the running segment is
computed and never falls. CLK_TEMP holds the temperature read, marked valid, where its reading is enabled. -/
def Obligations.OscillatorAndFaults : Prop :=
  (∀ s, Does .oscLoss s fun t => bitAt (t.rd Reg.CLK_STAT) 1 = true ∧ t.clk.forced = true ∧ t.evSet 48 = true) ∧
  (∀ p a s x, x = s.pll p.val → Does (.apllUnlock p a) s fun t => t.evSet 49 = true ∧ t.evSet 22 = true ∧
     t.pll p.val = { x with
       ok0 := x.ok0 && (x.second == a)
       ok1 := x.ok1 && !(x.second == a)
       second := if a = true ∧ (if x.second = true then x.ok0 else x.ok1) = true then !x.second else x.second } ∧
     (p.val = 0 → (t.pll 0).ok0 = false → (t.pll 0).ok1 = false → t.clk.forced = true)) ∧
  (∀ s, Does .fatalFault s fun t => t.evt.fatal = true ∧ t.clk.forced = true ∧ t.evSet 23 = true) ∧
  (∀ s u d, u = s.advDt ((s.time.dt / msUnit + 1) * msUnit) → d = s.clk.d → Does .eholdUpdate s fun t =>
     t.time.now = u.time.now ∧
     t.clk.d.r = (if (d.state = .acquire ∨ d.state = .pull ∨ d.state = .locked) ∧ d.freqOnly = false then
       towardZero d.r ((fld (s.ac Reg.CLK_SLOPE) 0 10 * 65536 + d.rFrac) / 10000) else d.r) ∧
     t.clk.slew = towardZero s.clk.slew ((fld (s.ac Reg.CLK_SLEW_CFG) 0 11 * 65536 + s.clk.slewFrac) / 1000) ∧
     t.clk.d.y = d.y ∧ t.clk.d.yN = d.yN + 1 ∧ t.clk.d.yAcc = d.yAcc + d.y + d.yOsc ∧
     t.clk.eHold = match s.clk.seg with
       | none => s.clk.eHold
       | some g => max s.clk.eHold (g.eHold u.nowSt)) ∧
  (∀ v s, Does (.tempRead v) s fun t => t = if bitAt (s.ac Reg.CLK_TEMP_CFG) 0 = true then
     s.wr Reg.CLK_TEMP (BitVec.ofNat 32 (v.toNat + 2 ^ 16)) else s)

/-- In the loop states DPLL0 takes the waiting sample of its phase reference once, or each sample of a frequency reference,
whose phase counts from the first sample and leaves r as it is. The loop's terms follow from e less r. The first phase sample
while DT is not ALIGNED aligns DT by a step. The fourth sample in a row beyond the step limit steps DT under AUTO and
otherwise sets STEP_NEEDED with EV046 and r to e; one within it clears both. After a step e and r are 0. STEP moves DT by −e
when DPLL0 may step, is refused with STEP_REFUSED when it may not, and from PF0 or SPI raises EV052. CLK_HIST_DATA shows the
sample of the age written. A DPLL that is enabled and whose reference is QUALIFIED is LOCKED with EV051. Without a reference,
a sample or a QUALIFIED reference nothing changes. -/
def Obligations.Dpll : Prop :=
  (∀ v s, Does (.dpll0Sample v) s fun t => match s.clk.d.ref with
     | none => t = s
     | some m =>
       if s.clk.d.state = .freeRun ∨ s.clk.d.state = .holdover then t = s
       else if s.clk.d.freqOnly = true then
         let p := roundDiv (v * 25 * 65536) 1000
         let e := p - s.clk.d.org.getD p
         t.time.now = s.time.now ∧ t.clk.d.org = some (s.clk.d.org.getD p) ∧ t.clk.d.e = e ∧ t.clk.d.r = s.clk.d.r ∧
         t.clk.d.yP = -roundDiv (e * 2 ^ 64 * (20 * pi20 * s.refBw m : Nat)) (10 ^ 33)
       else match s.clk.d.fresh with
         | none => t = s
         | some e => t = s.phaseSample m e) ∧
  (∀ (s : State) m e t lim r₀ d (step : Prop), t = s.phaseSample m e → lim = fld (s.ac Reg.CLK_STEP_LIMIT) 0 30 * 65536 →
     r₀ = (if s.clk.d.rPend = true then e else s.clk.d.r) → d = s.clk.d →
     (step ↔ t.evSet 12 = true ∧ t.clk.d.r = 0 ∧ t.clk.d.big = 0 ∧ t.clk.d.stepNeeded = false ∧ t.clk.d.e = 0 ∧
       t.time.dt = (((s.advTo s.nextTb).time.dt : Int) + stUnit * -e).toNat) →
     let yP := -roundDiv ((e - r₀) * 2 ^ 64 * (20 * pi20 * s.refBw m : Nat)) (10 ^ 33)
     t.clk.d.fresh = none ∧
     if s.aligned = false then step ∧ t.time.st = .aligned ∧ t.clk.d.state = .acquire ∧ t.ref.evalDue = true
     else if e.natAbs ≤ lim then
       t.clk.d.e = e ∧ t.clk.d.r = r₀ ∧ t.clk.d.yP = yP ∧ t.clk.d.big = 0 ∧ t.clk.d.stepNeeded = false ∧ t.time.now = s.time.now
     else if d.big + 1 < 4 then
       t.clk.d.e = e ∧ t.clk.d.r = r₀ ∧ t.clk.d.yP = yP ∧ t.clk.d.big = d.big + 1 ∧ t.clk.d.stepNeeded = d.stepNeeded ∧
       t.time.now = s.time.now
     else if fld (s.ac Reg.CLK_DPLL0_CTRL) 0 2 = 1 then step
     else t.clk.d.stepNeeded = true ∧ t.clk.d.e = e ∧ t.time.now = s.time.now ∧ t.clk.d.yP = yP ∧
       if d.stepNeeded = true then t.clk.d.r = r₀ else t.clk.d.r = e ∧ t.evSet 46 = true) ∧
  (∀ w s, Does (.dpll0StepCmd w) s fun t =>
     if w = .pf0 ∨ w = .spi then EvOnly s t ∧ t.evSet 52 = true
     else if fld (s.ac Reg.CLK_DPLL0_CTRL) 0 2 = 2 ∧ s.clk.d.ref.isSome = true ∧ s.clk.d.freqOnly = false ∧
         s.clk.d.state ≠ .holdover ∧ s.clk.d.state ≠ .freeRun ∧ fld (s.ac Reg.CLK_STEP_LIMIT) 0 30 * 65536 < s.clk.d.e.natAbs then
       t.clk.d.r = 0 ∧ t.clk.d.big = 0 ∧ t.clk.d.stepNeeded = false ∧ t.clk.d.stepRefused = false ∧ t.evSet 12 = true ∧
       t.time.dt = (((s.advTo s.nextTb).time.dt : Int) + stUnit * -s.clk.d.e).toNat
     else t = s.updD (fun d => { d with stepRefused := true })) ∧
  (∀ (age : Fin 65536) s h, h = s.clk.d.hist.getD age.val (0, false) → Does (.histRead age) s fun t =>
     t.rd Reg.CLK_HIST_IDX = BitVec.ofNat 32 age.val ∧ t.rd Reg.CLK_HIST_DATA_LO = lo32 (wrap 56 h.1) ∧
     t.rd Reg.CLK_HIST_DATA_HI = hi32 (wrap 56 h.1) ||| BitVec.ofNat 32 (if h.2 = true then 2 ^ 31 else 0) ∧ t.clk = s.clk) ∧
  (∀ x s src, src = fld (s.ac (Reg.CLK_DPLL_CFG x.val)) 1 4 → Does (.dpllxLock x) s fun t =>
     if bitAt (s.ac (Reg.CLK_DPLL_CFG x.val)) 0 = true ∧ src ≠ 0 ∧ (s.mon (src - 1)).state = .qualified ∧
         (s.dpllx x.val).state ≠ .locked then
       t.dpllx x.val = { s.dpllx x.val with state := .locked, fallback := false } ∧ t.evSet 51 = true ∧
       ∀ y, y ≠ x.val → t.dpllx y = s.dpllx y
     else t = s)

/-- The firing of an output's slot places its pulse at the OT second less its compensation, to 25 ps, with its width and
polarity, unless the output is squelched, and arms the slot for a later second. TODOUT sends the frame of its format while DT
is ALIGNED. CASC_OUT sends its pulse, and half a second later the binary frame that labels the next one, while its driver is
on. A slot that is not armed, or an output that is not in use, sends nothing and changes nothing. -/
def Obligations.ClockOutputs : Prop :=
  (∀ k s u o sec cfg, o = s.otOf (s.slot (32 + k.val)).time → u = s.slotFire (32 + k.val) → sec = slotSec o → cfg = u.ppsSet k.val o →
     Does (.ppsPulse k) s fun t =>
       if s.slotReady (32 + k.val) = false ∨ s.outUsed (32 + k.val) = false then t = s
       else t.time.now = u.time.now ∧ (∃ q, sec + 1 ≤ q ∧ (t.slot (32 + k.val)).time = BitVec.ofInt 64 (t.outTime (32 + k.val) q)) ∧
         t.clk = { s.clk with pps := t.clk.pps } ∧
         if u.squelched (fld cfg.1 1 2) = true then ∀ e w h, .pps k.val e w h ∈ t.outbox → .pps k.val e w h ∈ s.outbox
         else .pps k.val (roundDiv (sec * psSec - sfld cfg.2 0 24) 25 * 25) (fld cfg.1 8 19) (!bitAt cfg.1 3) ∈ t.outbox) ∧
  (∀ s u (o sec : Int) lab baud, o = s.otOf (s.slot 46).time → u = s.slotFire 46 → sec = o / stSec →
     lab = (sec + (if bitAt (s.ac Reg.CLK_TOD_CFG) 2 = true then (1 : Int) else 0)).toNat →
     baud = baudOf (fld (s.ac Reg.CLK_TOD_CFG) 4 3) →
     Does .todoutFrame s fun t =>
       if s.slotReady 46 = false ∨ s.outUsed 46 = false then t = s
       else t.time.now = u.time.now ∧ (∃ q, sec + 1 ≤ q ∧ (t.slot 46).time = BitVec.ofInt 64 (t.outTime 46 q)) ∧
         if s.aligned = false then t.clk = s.clk ∧ ∀ b x, .tod false b x ∈ t.outbox → .tod false b x ∈ s.outbox
         else if bitAt (s.ac Reg.CLK_TOD_CFG) 1 = true then
           .tod false baud (u.binFrame lab s.clk.todSeq) ∈ t.outbox ∧ t.clk = { s.clk with todSeq := (s.clk.todSeq + 1) % 256 }
         else .tod false baud (u.nmeaFrame lab) ∈ t.outbox ∧ t.clk = s.clk) ∧
  (∀ s u sec, u = s.slotFire 47 → sec = slotSec (s.otOf (s.slot 47).time) → Does .cascPulse s fun t =>
     if s.slotReady 47 = false ∨ s.outUsed 47 = false then t = s
     else t.time.now = u.time.now ∧ t.clk = { s.clk with cascFrameAt := some sec } ∧
       (∃ q, sec + 1 ≤ q ∧ (t.slot 47).time = BitVec.ofInt 64 (t.outTime 47 q)) ∧
       if u.cascOn = true then .casc (roundDiv (sec * psSec - sfld (s.ac Reg.CLK_CASC_CFG) 8 24) 25 * 25) ∈ t.outbox
       else ∀ e, .casc e ∈ t.outbox → .casc e ∈ s.outbox) ∧
  (∀ s, Does .cascFrame s fun t => match s.clk.cascFrameAt with
     | none => t = s
     | some sec =>
       let u := s.advTo (s.tickOfOt ((stSec * sec + stSec / 2) * 1000))
       t.time = u.time ∧
       if s.outUsed 47 = true ∧ u.cascOn = true then
         t.clk = { s.clk with cascFrameAt := none, cascSeq := (s.clk.cascSeq + 1) % 256 } ∧
         t.outbox = .tod true 1000000 (u.binFrame (sec + 1).toNat s.clk.cascSeq) :: s.outbox
       else t.clk = { s.clk with cascFrameAt := none } ∧ t.outbox = s.outbox)

/-- In LOCKED a steering write sends the DAC the code moved by the limited step, when there is one, sets the next write, and
leaves the compensation to come; a code beyond the DAC's range becomes one within it that the manual does not say (log entry
31). SETTLE after the oldest write without its compensation y_int gives to y_osc what the DAC gave the oscillator. A failed
write has no compensation, goes back to the code before, and is counted with EV050; the third in a row stops the steering.
While steering is off or stopped, or out of LOCKED, nothing is written. -/
def Obligations.Steering : Prop :=
  (∀ s u n, u = s.advTo s.clk.steerAt → n = (s.clk.code : Int) + s.steerStep → Does .steerWrite s fun t =>
     if bitAt (s.ac Reg.CLK_STEER_CTRL) 0 = false ∨ bitAt (s.rd Reg.CLK_STAT) 3 = true ∨ s.clk.d.state ≠ .locked then t = s
     else t.time = u.time ∧
       if s.steerStep = 0 then t.clk = { s.clk with steerAt := u.steerNext } ∧ t.outbox = s.outbox
       else ∃ code, (0 ≤ n → n < ((2 ^ fld (s.ac Reg.CLK_STEER_CTRL) 8 5 : Nat) : Int) → code = n.toNat) ∧
         code < 2 ^ fld (s.ac Reg.CLK_STEER_CTRL) 8 5 ∧
         t.clk = { s.clk with
           steerAt := u.steerNext
           code := code
           comp := s.clk.comp ++ [((code : Int) - s.clk.code,
             u.time.now + s.dacTicks + msTicks * fld (s.ac Reg.CLK_STEER_TIME) 16 12)] } ∧
         t.outbox = .i2c (fld (s.ac Reg.CLK_STEER_CTRL) 1 7) (s.dacBytes code) :: s.outbox) ∧
  (∀ s, Does .steerSettle s fun t => match s.clk.comp with
     | [] => t = s
     | (n, at_) :: r => t.time.now = max s.time.now (max at_ s.nextTb) ∧ t.clk.comp = r ∧ t.clk.fails = 0 ∧
       t.clk.d.yOsc = s.clk.d.yOsc + s.gain80 n ∧
       (t.clk.d.dcoLimit = false → t.clk.d.y = s.clk.d.y - s.gain80 n)) ∧
  (∀ s, Does .steerBusTimeout s fun t =>
     if bitAt (s.ac Reg.CLK_STEER_CTRL) 0 = false ∨ bitAt (s.rd Reg.CLK_STAT) 3 = true then t = s
     else t.clk = { s.clk with
         comp := s.clk.comp.dropLast
         fails := s.clk.fails + 1
         code := ((s.clk.code : Int) - ((s.clk.comp.getLast?.map (·.1)).getD 0)).toNat } ∧
       t.rd Reg.CLK_STEER_FAIL = satAdd (s.rd Reg.CLK_STEER_FAIL) 1 ∧ t.evSet 50 = true ∧
       bitAt (t.rd Reg.CLK_STAT) 3 = decide (3 ≤ s.clk.fails + 1))

/-- A detection at 35 dB-Hz or more in the Doppler range of an enabled satellite that no other channel tracks gives an empty
channel, or the one that has it, to it in PULL_IN, and any other is dropped. A tracker that synchronises is LOCKED, and
tracker A's lock starts tracker B for a band-B signal; B is tried again after 10 s. A dropped tracker goes to REACQ, and
after REACQ_TIME gives its satellite back, tracker B waiting for its tracker A. A side-peak move of a Galileo or BeiDou
signal is counted and moves the code phase, and a second within 1 s returns the tracker to PULL_IN. A failing sample clock
sends every tracker in use to REACQ with EV066, and SAMPLE_OK returns 100 ms later. A tracker that is in no such state, and a
baseband that is off, change nothing. -/
def Obligations.GnssTrackers : Prop :=
  (∀ c const prn cn0 dopp s, Does (.acqDetect c const prn cn0 dopp) s fun t =>
     let h := s.chan c.val
     let sv := (const.val, prn.val)
     if s.gnsEn = true ∧ s.gns.sampleOk = true ∧ s.gnsConst const.val = true ∧ prn.val ≠ 0 ∧ prn.val ≤ prnMax const.val ∧
         s.prnExcl const.val prn.val = false ∧ 560 ≤ cn0 ∧ s.inSearch dopp = true ∧ (h.sv = none ∨ h.sv = some sv) ∧
         ∀ k : Fin 64, k ≠ c → (s.chan k.val).sv ≠ some sv then
       let n : GnsChan := if h.sv = none then { sv := some sv } else h
       t.chan c.val = { n with a := .pullIn, aSince := s.time.now, cn0A := cn0, doppA := dopp } ∧
       (∀ k, k ≠ c.val → t.chan k = s.chan k) ∧ t = { s with gns := { s.gns with chans := t.gns.chans } }
     else t = s) ∧
  (∀ c b bandB s h, h = s.chan c.val → Does (.trackerLock c b bandB) s fun t =>
     if h.trkOf b = .idle ∨ h.trkOf b = .acq ∨ h.trkOf b = .locked ∨ h.trkOf b = .nav ∨ s.gns.sampleOk = false then t = s
     else (t.chan c.val).trkOf b = .locked ∧ (∀ k, k ≠ c.val → t.chan k = s.chan k) ∧
       t = { s with gns := { s.gns with chans := t.gns.chans } } ∧
       if b = false ∧ bandB = true ∧ (h.b = .idle ∨ h.b = .acq) then
         (t.chan c.val).b = .pullIn ∧ (t.chan c.val).bRetry = s.time.now + 10 * sTicks
       else (t.chan c.val).trkOf (!b) = h.trkOf (!b)) ∧
  (∀ c s h, h = s.chan c.val → Does (.trackerBRetry c) s fun t =>
     if (h.a = .locked ∨ h.a = .nav) ∧ (h.b = .pullIn ∨ h.b = .idle ∨ h.b = .reacq) then
       t.time = (s.advTo h.bRetry).time ∧ (∀ k, k ≠ c.val → t.chan k = s.chan k) ∧ t.chan c.val = { h with
         b := .pullIn
         bSince := t.time.now
         doppB := roundDiv (h.doppA * 115) 154
         bRetry := t.time.now + 10 * sTicks }
     else t = s) ∧
  (∀ c b s h, h = s.chan c.val → Does (.trackerDrop c b) s fun t =>
     if h.trkOf b = .track ∨ h.trkOf b = .locked ∨ h.trkOf b = .nav ∨ h.trkOf b = .pullIn then
       (t.chan c.val).trkOf b = .reacq ∧ (t.chan c.val).trkOf (!b) = h.trkOf (!b) ∧ (∀ k, k ≠ c.val → t.chan k = s.chan k) ∧
       t = { s with gns := { s.gns with chans := t.gns.chans } }
     else t = s) ∧
  (∀ (p : SidePeak) s h, h = s.chan p.chan.val → Does (.sidePeakMove p) s fun t => match h.sv with
     | some (k + 1, _) =>
       let d : Int := fld (s.ac (Reg.GNS_CORR (2 * (k + 1)))) 16 7
       let again := match h.bumpAt with
         | some a => decide (s.time.now < a + sTicks)
         | none => false
       if k < 2 ∧ h.a ≠ .idle ∧ h.a ≠ .acq ∧ h.a ≠ .reacq then
         t.rd Reg.GNS_BUMP = satAdd (s.rd Reg.GNS_BUMP) 1 ∧ (∀ k, k ≠ p.chan.val → t.chan k = s.chan k) ∧ t.chan p.chan.val = { h with
           bumps := min 65535 (h.bumps + 1)
           bumpAt := some s.time.now
           codeA := if p.late = true then h.codeA + d else h.codeA - d
           a := if again = true then .pullIn else h.a
           aSince := if again = true then s.time.now else h.aSince }
       else t = s
     | _ => t = s) ∧
  (∀ c b s h, h = s.chan c.val → Does (.reacqTimeout c b) s fun t =>
     if h.trkOf b = .reacq then
       t.time = (s.advTo ((if b = true then h.bSince else h.aSince) + sTicks * fld (s.ac Reg.GNS_ACQ_CFG) 16 8)).time ∧
       (t.chan c.val).trkOf b = (if b = true then .idle else .acq) ∧ (t.chan c.val).trkOf (!b) = h.trkOf (!b) ∧
       (t.chan c.val).sv = h.sv ∧ ∀ k, k ≠ c.val → t.chan k = s.chan k
     else t = s) ∧
  (∀ s, Does .gsClkFail s fun t =>
     if s.gnsEn = true then t.gns.sampleOk = false ∧ t.gns.lostAt = s.time.now ∧ t.gns.burst = false ∧
       (∀ c : Fin 64, (t.chan c.val).a = (if (s.chan c.val).a = .idle then .idle else .reacq) ∧
         (t.chan c.val).b = if (s.chan c.val).b = .idle then .idle else .reacq) ∧
       t.evSet 66 = true ∧ t.rd Reg.GNS_SAMPLE_LOSS = satAdd (s.rd Reg.GNS_SAMPLE_LOSS) 1
     else t = s) ∧
  (∀ s, Does .sampleOkRestore s fun t =>
     if s.gnsEn = true ∧ s.gns.sampleOk = false then
       t.time = (s.advTo (s.gns.lostAt + 100 * msTicks)).time ∧ t.gns = { s.gns with sampleOk := true }
     else t = s)

/-- At the next DT second an epoch of an enabled baseband latches its measurements and judges the fit left after at most two
exclusions: one with a redundant solution that meets the limits of residual and uncertainty is a fix with the fit's bias and
rate, the satellites used, its second N and the FIX code of the mode; any other is without a fix, counted, with EV065 if
there was one before. The delay removed from the bias is the configured one. A fit beyond the residual limit with satellites
to spare excludes its worst satellite for 60 s with EV075. A residual exclusion ends at its time, and a refresh 30 s after
its data or at REFRESH_MAX. A tracked signal that misses three burst windows in a row goes to REACQ. The raw pulse is
produced once for an epoch with a fix, at the TBCLK edge nearest to the predicted second, on the outputs that carry it and to
an active monitor 8. What is off, done or not due changes nothing. -/
def Obligations.GnssEpochs : Prop :=
  (∀ ms fits moved s w v m u x lim, w = (if s.time.dt % secUnit < s.time.inc ∧ s.gns.last.map (·.sec) ≠ some s.sec then s
       else s.advDt (secUnit * (s.time.dt / secUnit + 1))) →
     v = (w.gnssMove (moved - (if s.gns.last.isSome = true then s.tauIf - s.gns.tau else 0))).updGns (fun g => { g with tau := s.tauIf }) →
     m = (if v.gnsMode = 1 ∧ v.gns.survey = none ∧ v.gns.held = none then v.surveyStart else v) →
     u = (List.range 64).foldl (fun s c => s.chanEpoch ms c) m →
     x = (if u.gns.sampleOk = true ∧ 0 < u.solSats then State.fitEpoch 2 fits u else (none, u)) → lim = s.ac Reg.GNS_SOL_CFG →
     Does (.gnssEpoch ms fits moved) s fun t =>
       if s.gnsEn = false ∨ s.taskStopped 0 = true then t = s
       else t.time.now = w.time.now ∧ t.gns.tau = s.tauIf ∧ ∃ e, t.gns.last = some e ∧ e.sec = w.sec ∧ e.burst = u.gns.burst ∧
         e.master = s.gnsMaster ∧ e.tscale = bitAt (s.ac Reg.GNS_CTRL) 7 ∧ match x.1.filter (fun f =>
             decide (x.2.unknowns + 1 ≤ x.2.solSats) && decide (f.rms ≤ fld lim 16 8) && decide (f.tunc ≤ fld lim 24 8 * 1000) &&
             (!bitAt (s.ac Reg.GNS_CTRL) 7 || (tget (fun _ => none) x.2.gns.utc s.gnsMaster).isSome)) with
         | some f => t.gns.good = s.gns.good + 1 ∧ t.gns.hadFix = true ∧ e.bias = f.bias ∧ e.rate = f.rate ∧ e.tunc = f.tunc ∧
           e.tdop = f.tdop ∧ e.pdop = (if x.2.posHeld = true then 0 else f.pdop) ∧
           e.used = [x.2.solCount 0, x.2.solCount 1, x.2.solCount 2] ∧
           e.n = roundDiv ((w.sec : Int) * psSec - f.bias) 1000000000000 + 1 ∧
           e.fix = if x.2.gns.survey.isSome = true then 3 else if x.2.posHeld = true then 1 else 2
         | none => e.fix = 0 ∧ t.gns.good = 0 ∧ t.gns.hadFix = false ∧
           t.rd Reg.GNS_EPOCHS_NOFIX = satAdd (s.rd Reg.GNS_EPOCHS_NOFIX) 1 ∧ (s.gns.hadFix = true → t.evSet 65 = true)) ∧
  (∀ k f fs (s : State), State.fitEpoch 0 (f :: fs) s = (some f, s) ∧ State.fitEpoch k [] s = (none, s) ∧
     if fld (s.ac Reg.GNS_SOL_CFG) 16 8 < f.rms ∧ s.unknowns + 2 ≤ s.solSats ∧ s.inSol (s.chan f.worst.val) = true then
       ∃ u, State.fitEpoch (k + 1) (f :: fs) s = State.fitEpoch k fs u ∧ u.evSet 75 = true ∧
         u.rd Reg.GNS_FDE_EXCL = satAdd (s.rd Reg.GNS_FDE_EXCL) 1 ∧
         u.chan f.worst.val = { s.chan f.worst.val with exclUntil := some (s.sec + 60) } ∧
         ∀ c, c ≠ f.worst.val → u.chan c = s.chan c
     else State.fitEpoch (k + 1) (f :: fs) s = (some f, s)) ∧
  (∀ c s, Does (.exclusionExpire c) s fun t => match (s.chan c.val).exclUntil with
     | none => t = s
     | some u => t.time = (s.advDt (secUnit * u)).time ∧ t.chan c.val = { s.chan c.val with exclUntil := none } ∧
       ∀ k, k ≠ c.val → t.chan k = s.chan k) ∧
  (∀ s, Does .refreshEnd s fun t => match s.gns.refresh with
     | none => t = s
     | some a => t.gns = { s.gns with refresh := none, refreshOk := none } ∧
       t.time = (s.advDt (secUnit * match s.gns.refreshOk with
         | some k => min (a + fld (s.ac Reg.GNS_BURST_CFG) 16 10) (k + 30)
         | none => a + fld (s.ac Reg.GNS_BURST_CFG) 16 10)).time) ∧
  (∀ got s (tracks : TrkState → Bool) (miss : Fin 64 → Bool → Nat → TrkState → Nat),
     (∀ x, tracks x = (x == .track || x == .locked || x == .nav)) →
     (∀ c b n x, miss c b n x = if tracks x = true ∧ (c, b) ∉ got then n + 1 else 0) →
     Does (.burstWindow got) s fun t =>
       if s.gns.burst = true then
         t.time = (s.advDt (secUnit * (s.time.dt / secUnit + 1) + 20 * msUnit - fld (s.ac Reg.GNS_BURST_CFG) 0 8 * msUnit)).time ∧
         ∀ c : Fin 64, if (s.chan c.val).sv = none then (s.chan c.val).missA < 3 → (s.chan c.val).missB < 3 →
             t.chan c.val = s.chan c.val
           else
             let h := s.chan c.val
             let u := t.chan c.val
             (if 3 ≤ miss c false h.missA h.a then u.a = .reacq ∧ u.missA = 0 else u.a = h.a ∧ u.missA = miss c false h.missA h.a) ∧
             (if 3 ≤ miss c true h.missB h.b then u.b = .reacq ∧ u.missB = 0 else u.b = h.b ∧ u.missB = miss c true h.missB h.b)
       else t = s) ∧
  (∀ s, Does .rawPps s fun t => match s.gns.last with
     | none => t = s
     | some e =>
       if e.fix = 0 ∨ s.gns.rawDone = some e.sec then t = s
       else
         let q := (s.nearEdge e.tN).2
         let u := s.advTo ((s.time.now / tbTicks + (s.nearEdge e.tN).1) * tbTicks)
         t.time.now = u.time.now ∧ t.gns.rawDone = some e.sec ∧ .rawPps (e.tN - q) ∈ t.outbox ∧
         (∀ k : Fin 4, bitAt (s.ac (Reg.CLK_PPS_CFG k.val)) 0 = true → bitAt (s.ac (Reg.CLK_PPS_CFG k.val)) 4 = true →
           u.squelched (fld (s.ac (Reg.CLK_PPS_CFG k.val)) 1 2) = false →
           .pps k.val (e.tN - q) (fld (s.ac (Reg.CLK_PPS_CFG k.val)) 8 19) (!bitAt (s.ac (Reg.CLK_PPS_CFG k.val)) 3) ∈ t.outbox) ∧
         (s.refEn 8 = true → (s.mon 8).active = true → s.predicted 8 = none → (t.mon 8).last = some (u.nowPs + q) ∧
           (t.mon 8).o = offsetOf (roundDiv (e.tN * 65536) 1000) (some e.n.toNat)))

/-- Outside burst mode a LOCKED tracker's unit that fails its check is counted and discarded whole; one with the time of week
makes the tracker ready; parts of an ephemeris make a set once all agree; UTC parameters are kept with the second of their
decoding and since when they say the same, a leap announced anew raises EV072, and constellations that disagree about it
raise EV073 and keep the pending leap, which an announcement that stands for 12 s and is allowed otherwise sets or clears.
The time message of an epoch is published once, 400 ms into its second, with the next sequence number and EV078, gives
monitor 8 its activity and label or takes its activity, and the first with a fix raises EV064; a read of GNS_TMSG_HDR
captures it for its reader. RESURVEY starts a survey and COLD discards what was decoded, both ending a burst, but from PF0 or
SPI they raise EV077. The channel window shows the channel named. While the core that decodes restarts no unit is decoded and
no message published, and monitor 8 loses activity. -/
def Obligations.GnssMessages : Prop :=
  (∀ c b good u s h, h = s.chan c.val → Does (.navUnit c b good u) s fun t =>
     if ¬(h.trkOf b = .locked ∨ h.trkOf b = .nav) ∨ s.gns.burst = true ∨ s.taskStopped 0 = true then t = s
     else if good = false then t = s.bump Reg.GNS_NAV_BAD
     else match h.sv, u with
       | none, _ => t = s
       | some _, .tow => (t.chan c.val).trkOf b = .nav ∧ (t.chan c.val).trkOf (!b) = h.trkOf (!b) ∧ ∀ k, k ≠ c.val → t.chan k = s.chan k
       | some _, .ephemeris part total issue toe =>
         let parts := (part, issue) :: h.parts.filter (fun p => p.1 != part)
         (∀ k, k ≠ c.val → t.chan k = s.chan k) ∧
         if (List.range total).all (fun k => parts.any (fun p => p.1 == k && p.2 == issue)) = true then match h.eph with
           | none => t.chan c.val = { h with eph := some ⟨issue, toe⟩, parts := [] }
           | some e => t.chan c.val = { h with parts := [], ephNext := if e.issue = issue then h.ephNext else some ⟨issue, toe⟩ }
         else t.chan c.val = { h with parts := parts }
       | some (k, _), .utc count leap =>
         let old := tget (fun _ => none) s.gns.utc k
         let n : UtcPar := match old with
           | none => ⟨s.sec, count, s.sec, leap, s.sec⟩
           | some o => ⟨s.sec, count, if o.count = count then o.countSince else s.sec, leap, if o.leap = leap then o.leapSince else s.sec⟩
         let dis := ((List.range 3).filter (· != k)).any (fun o => (s.utcNow o).any (fun x => decide (x.leap ≠ leap)))
         tget (fun _ => none) t.gns.utc k = some n ∧ (∀ o, o ≠ k → tget (fun _ => none) t.gns.utc o = tget (fun _ => none) s.gns.utc o) ∧
         (leap.isSome = true → (∀ o, old = some o → o.leap ≠ leap) → t.evSet 72 = true) ∧
         t.gns.leapDisagree = dis ∧ (dis = true → s.gns.leapDisagree = false → t.evSet 73 = true) ∧
         (dis = true ∨ s.sec < n.leapSince + 12 ∨ bitAt (s.ac Reg.TSC_LEAP_POLICY) 0 = false ∨ s.leapMay .gnss = false →
           t.vbat.pend = s.vbat.pend) ∧
         (dis = false → n.leapSince + 12 ≤ s.sec → bitAt (s.ac Reg.TSC_LEAP_POLICY) 0 = true → s.leapMay .gnss = true →
           (leap = none → t.vbat.pend = none) ∧
           ∀ a d, leap = some (a, d) → s.leapValid a d = true → t.vbat.pend = some ⟨a, d, .gnss⟩)
       | some _, .almanac => t = s) ∧
  (∀ s, Does .tmsgPublish s fun t =>
     if s.taskStopped 0 = true then t.gns = s.gns ∧
       if s.gnsEn = true ∧ s.refEn 8 = true ∧ s.time.st ≠ .unset then (t.mon 8).active = false else t = s
     else match s.gns.last with
     | none => t = s
     | some e =>
       if s.gns.published = some e.sec then t = s
       else
         let u := s.advDt (secUnit * e.sec + 400 * msUnit)
         let seq := (s.gns.seq + 1) % 65536
         t.time = u.time ∧ t.gns.published = some e.sec ∧ t.gns.seq = seq ∧ t.evSet 78 = true ∧ t.gns.msgFix = (e.fix != 0) ∧
         t.gns.hdr = [BitVec.ofNat 32 (seq + e.fix * 2 ^ 16 + bn e.burst 18 + bn e.single 19 + bn (u.utcNow e.master).isSome 20 +
             e.master * 2 ^ 21 + bn e.tscale 23 + min 255 e.used.sum * 2 ^ 24),
           lo32 e.n.toNat, BitVec.ofNat 32 (e.n.toNat / 2 ^ 32 % 65536),
           BitVec.ofNat 32 (wrap 16 (if e.fix = 0 then 0 else (u.nearEdge e.tN).2)), BitVec.ofNat 32 (wrap 32 (satSigned 32 e.bias)),
           BitVec.ofNat 32 (min (2 ^ 24 - 1) e.tunc), BitVec.ofNat 32 (min 65535 e.tdop + min 65535 e.pdop * 65536),
           BitVec.ofNat 32 ((e.used.getD 0 0) % 256 + (e.used.getD 1 0) % 256 * 256 + (e.used.getD 2 0) % 256 * 65536)] ∧
         (e.fix ≠ 0 → s.gns.msgFix = false → t.evSet 64 = true) ∧
         (s.refEn 8 = true → (t.mon 8).active = decide (e.fix ≠ 0)) ∧
         (s.refEn 8 = true → e.fix ≠ 0 → ∃ p, (t.mon 8).label = some (e.n.toNat, p))) ∧
  (∀ m s, Does (.tmsgCapture m) s fun t => tget (fun _ => []) t.gns.capt m.bank = s.gns.hdr ∧
     (∀ b, b ≠ m.bank → tget (fun _ => []) t.gns.capt b = tget (fun _ => []) s.gns.capt b) ∧
     t.bus = { data := [s.gns.hdr.getD 0 0], unsupported := false } ∧ t.live = s.live) ∧
  (∀ m s, Does (.gnssResurvey m) s (fun t =>
       if m = .pf0 ∨ m = .spi then EvOnly s t ∧ t.evSet 77 = true
       else t.gns = { s.gns with
           survey := some ⟨s.sec, 0, 0, 0, 0, 0⟩
           surveyDone := false
           surveyTimeout := false
           burst := false } ∧ (s.gns.burst = true → t.evSet 70 = true)) ∧
     Does (.gnssCold m) s (fun t =>
       if m = .pf0 ∨ m = .spi then EvOnly s t ∧ t.evSet 77 = true
       else t.gns = { s.gns with chans := [], utc := [], burst := false } ∧ (s.gns.burst = true → t.evSet 70 = true))) ∧
  (∀ s, Does .chRead s fun t => t = { s with gns := { s.gns with
     chWin := wordsOf (s.chanRecord (fld (s.rd Reg.GNS_CH_IDX) 0 6)) } })

/-- An edge that the edge select, the prescaler, the width filter and the holdoff pass is captured to 12.5 ps, stamped less
the input's delay into the input's history and counted; one within 5 ns of the last accepted edge is rejected and counted;
one that the select, the prescaler, the filter or the holdoff stops only moves the prescaler and the filter. A calibration
takes 20 ms with every channel IDLE and ends valid, with CAL_FAIL as its stampers ended and EV228 if any failed; a
recalibration takes one stamper after the other while it is configured and no calibration runs. A disabled input sees
nothing. -/
def Obligations.TimInputs : Prop :=
  (∀ j at_ rising lasts s a u i div short (past : Nat → Bool), a = s.advTo (s.tickAtG at_) →
     u = (if div = 1 then a.advTo (a.tickAtG (at_ + fld (s.ac (Reg.TIM_IN_CFG j.val)) 12 8 * 65536000)) else a) → i = s.timIn j.val → div = fld (s.ac (Reg.TIM_IN_DIV j.val)) 0 17 →
     short = (div == 1 && !i.drop && decide (lasts < fld (s.ac (Reg.TIM_IN_CFG j.val)) 12 8 * 1000)) →
     (∀ n, past n = i.last.any (fun l => decide ((at_ : Int) - l < ((n * 65536000 : Nat) : Int)))) →
     Does (.timinEdge j at_ rising lasts) s fun t =>
       if bitAt (s.ac (Reg.TIM_IN_CFG j.val)) 0 = false then t = s
       else
         let x := { i with
           drop := short
           count := if s.timSelects j.val rising = true then (i.count + 1) % max 1 div else i.count }
         (∀ k, k ≠ j.val → t.timIn k = s.timIn k) ∧
         if s.timSelects j.val rising = false ∨ i.count ≠ 0 ∨ short = true ∨ i.drop = true then
           t.timIn j.val = x ∧ t.evl = s.evl ∧ t.tim.chs = s.tim.chs
         else if past 5 = true then t.timIn j.val = x ∧ t.evl = s.evl ∧ t.tim.chs = s.tim.chs ∧
           t.rd (Reg.TIM_IN_REJ j.val) = satAdd (s.rd (Reg.TIM_IN_REJ j.val)) 1
         else if past (fld (s.ac (Reg.TIM_IN_HOLDOFF j.val)) 0 16) = true then
           t.timIn j.val = x ∧ t.evl = s.evl ∧ t.tim.chs = s.tim.chs
         else t.time.now = u.time.now ∧ t.rd (Reg.TIM_IN_EDGES j.val) = satAdd (s.rd (Reg.TIM_IN_EDGES j.val)) 1 ∧ t.timIn j.val = { x with
           last := some (at_ : Int)
           pushed := if i.hist.length < 16 then i.pushed else i.hist.getLast?.map (·.1)
           hist := ((roundDiv (u.tapBy (25 * psG / 2) at_ - sfld (s.ac (Reg.TIM_IN_DELAY j.val)) 0 24 * psG) 1000, false) ::
             i.hist).take 16 }) ∧
  (∀ s, Does .timCal s fun t => t.tim.calUntil = some (s.time.now + 20 * msTicks) ∧ t.time.now = s.time.now ∧
     ∀ k : Fin 8, t.timCh k.val = (s.timCh k.val).toIdle ∧ (t.slot (38 + k.val)).armed = false) ∧
  (∀ bad s, Does (.timCalDone bad) s fun t => match s.tim.calUntil with
     | none => t = s
     | some at_ => t.time = (s.advTo at_).time ∧ t.tim.calUntil = none ∧ t.tim.calValid = true ∧
       t.tim.recalAt = t.time.now + sTicks * fld (s.ac Reg.TIM_CTRL) 0 8 ∧
       (∀ i, i < 32 → t.tim.calFail.testBit i = bad.getLsbD i) ∧ (bad ≠ 0 → t.evSet 228 = true)) ∧
  (∀ bad s, Does (.timRecal bad) s fun t =>
     if fld (s.ac Reg.TIM_CTRL) 0 8 = 0 ∨ s.tim.calUntil.isSome = true ∨ s.tim.calValid = false then t = s
     else t.time = (s.advTo s.tim.recalAt).time ∧ t.tim.recalNext = (s.tim.recalNext + 1) % 32 ∧
       t.tim.recalAt = t.time.now + sTicks * fld (s.ac Reg.TIM_CTRL) 0 8 ∧
       t.tim.calFail.testBit (s.tim.recalNext % 32) = bad ∧ (bad = true → t.evSet 228 = true) ∧
       ∀ i, i ≠ s.tim.recalNext % 32 → t.tim.calFail.testBit i = s.tim.calFail.testBit i)

/-- A write of TIM_CH_CMD acts at the CCLK edge that accepts it, after a firing of the gate slot in the same cycle. ARM
leaves a channel armed for starts after the present stamp, or in FREQ mode opens its gate at the next whole millisecond, and
is refused with EV229 without a mode or stops; nothing is armed during a calibration. ARM_AT waits for the gate slot, whose
firing arms or opens the channel once, and is REJECTED where the slot's policy does not arm a past time. DISARM leaves the
channel IDLE. The end of an interval's window, or of a gate, ends the measurement as the edge would find it (log entry 74),
and writes one record to a queue with room, or counts it as lost with EV225. A pop answers and removes the oldest record.
What is not measuring, waiting or there changes nothing. -/
def Obligations.TimChannels : Prop :=
  (∀ (s : State) (k : Fin 8) u, u = s.advTo (s.cclkAfter 0) →
     s.timAccept k.val = if (u.timCh k.val).state = .gateWait ∧ u.slotReady (38 + k.val) = true ∧
       u.slotTick (38 + k.val) < u.time.now + cclkTicks then u.timGate k.val else u) ∧
  (∀ k s u c, u = s.timAccept k.val → c = (u.timCh k.val).toIdle → Does (.timArm k) s fun t => t.time.now = u.time.now ∧
     (∀ j, j ≠ k.val → t.timCh j = u.timCh j) ∧
     if u.tim.calUntil.isSome = true then t = u
     else (t.slot (38 + k.val)).armed = false ∧
       if s.timMode k.val = 0 ∨ s.timMode k.val = 1 ∧ s.timStops k.val = 0 then t.timCh k.val = { c with badArm := true } ∧ t.evSet 229 = true
       else if s.timMode k.val = 3 then
         let g : Int := ((u.nowSt : Int) / stMs + 1) * stMs
         t.timCh k.val = { c with
           state := .measuring
           arm := (u.nowSt : Int) + 1
           gate := g
           gateEnd := g + (s.timGateMs k.val * stMs : Nat)
           unlocked := u.unlocked }
       else t.timCh k.val = { c with state := .armed, arm := (u.nowSt : Int) + 1 }) ∧
  (∀ k s u, u = s.timAccept k.val → Does (.timDisarm k) s fun t => t.timCh k.val = (u.timCh k.val).toIdle ∧
     (t.slot (38 + k.val)).armed = false ∧ (∀ j, j ≠ 38 + k.val → t.slot j = u.slot j) ∧ (∀ j, j ≠ k.val → t.timCh j = u.timCh j) ∧
     t.time.now = u.time.now) ∧
  (∀ k s u g c x, u = s.timAccept k.val → c = (u.timCh k.val).toIdle →
     g = BitVec.ofNat 64 (join32 (s.rd (Reg.TIM_GATE_TIME_LO k.val)) (s.rd (Reg.TIM_GATE_TIME_HI k.val))) →
     x = u.armedAs (38 + k.val)
       { armed := true, time := g, period := 0, policy := fld (s.ac (Reg.TIM_CH_CFG k.val)) 10 2, follow := false } →
     Does (.timArmAt k) s fun t => t.time.now = u.time.now ∧ (∀ j, j ≠ k.val → t.timCh j = u.timCh j) ∧
       if u.tim.calUntil.isSome = true then t = u
       else if s.timMode k.val = 0 ∨ s.timMode k.val = 1 ∧ s.timStops k.val = 0 then
         t.timCh k.val = { c with badArm := true } ∧ t.evSet 229 = true ∧ (t.slot (38 + k.val)).armed = false
       else t.slot (38 + k.val) = x ∧
         t.timCh k.val = if x.armed = true then { c with state := .gateWait } else { c with rejected := true }) ∧
  (∀ k s c l, c = s.timCh k.val → l = (s.slot (38 + k.val)).late.isSome → Does (.timGateFire k) s fun t =>
     if c.state = .gateWait ∧ s.slotReady (38 + k.val) = true then
       bitAt (t.rd (Reg.TSC_CS_STAT (38 + k.val))) 0 = true ∧ (∀ j, j ≠ k.val → t.timCh j = s.timCh j) ∧ ∃ g : Int,
         (l = false → g = s.slotEdge (38 + k.val) (s.slot (38 + k.val))) ∧
         if s.timMode k.val = 1 then
           t.timCh k.val = { c with late := c.late || l, lateRec := l, state := .armed, arm := g, once := true }
         else t.timCh k.val = { c with
           late := c.late || l
           lateRec := l
           once := true
           state := .measuring
           gate := g
           gateEnd := g + (s.timGateMs k.val * stMs : Nat)
           n := 0
           sx := 0
           snx := 0
           sxx := 0
           stepBy := 0
           stepped := false
           unlocked := s.unlocked }
     else t = s) ∧
  (∀ k s u full (rec_ next : State → Prop), u = s.advTo (s.tickAtG ((s.timEnd k.val + s.timWait k.val) * 1000)) →
     full = decide (32 ≤ (s.timCh k.val).queue.length) →
     (∀ t, rec_ t ↔ if full = true then (t.timCh k.val).queue = (s.timCh k.val).queue ∧ (t.timCh k.val).ovfBefore = true ∧
         t.evSet 225 = true ∧ t.rd (Reg.TIM_CH_OVF k.val) = satAdd (s.rd (Reg.TIM_CH_OVF k.val)) 1
       else t.rd (Reg.TIM_CH_RESULTS k.val) = satAdd (s.rd (Reg.TIM_CH_RESULTS k.val)) 1 ∧
         (t.timCh k.val).seq = ((s.timCh k.val).seq + 1) % 65536 ∧
         ∃ r, (t.timCh k.val).queue = (s.timCh k.val).queue ++ [r] ∧ r.take 2 = leBytes 2 (s.timCh k.val).seq ∧
           (r.drop 2).take 1 = leBytes 1 (s.timMode k.val) ∧ r.length = 160) →
     (∀ t, next t ↔ t.time.now = u.time.now ∧ (∀ j, j ≠ k.val → t.timCh j = s.timCh j) ∧
       if s.timMode k.val ≠ 1 ∧ s.timMode k.val ≠ 3 then t.timCh k.val = (s.timCh k.val).toIdle
       else rec_ t ∧ (t.timCh k.val).state = if s.timCont k.val = true ∧ (s.timCh k.val).once = false then
         (if s.timMode k.val = 1 then .armed else .measuring) else .idle) →
     Does (.timWindowEnd k) s (fun t => if (s.timCh k.val).state = .measuring ∧ s.timMode k.val = 1 then next t else t = s) ∧
     Does (.timGateEnd k) s fun t => if (s.timCh k.val).state = .measuring ∧ s.timMode k.val ≠ 1 then next t else t = s) ∧
  (∀ k s, Does (.timResPop k) s fun t => match (s.timCh k.val).queue with
     | [] => t = { s with bus := { data := [0], unsupported := false } }
     | r :: rest => t.timCh k.val = { s.timCh k.val with queue := rest, win := wordsOf r } ∧ (∀ j, j ≠ k.val → t.timCh j = s.timCh j) ∧
       t.bus = { data := [BitVec.ofNat 32 (ofLe (r.take 2) + ofLe ((r.drop 2).take 1) * 2 ^ 16 + rest.length * 2 ^ 24 + 2 ^ 30)]
                 unsupported := false } ∧ t.live = s.live)

/-- A write of EVL_CMD acts at the CCLK edge that accepts it, after an edge of the lane that is due in the same cycle. ARM
copies an acceptable staged set into the lane, which is ARMED for its first pulse when no pulse is past, or waits for its
trigger in TRIG mode; what is past is placed late with EV009, refused with EV010, or skipped and counted under its policy,
and a train wholly skipped is over with EV230 (log entry 26). A set that R427 refuses sets BAD_ARM with EV232 and changes
nothing else; MODE OFF disarms. DISARM leaves the lane IDLE with its slot disarmed, a pulse in progress completing. ARM_ALL
and DISARM_ALL do the same to every lane named, one after the other at one edge, and leave the others alone. -/
def Obligations.LaneArms : Prop :=
  (∀ (s : State) l, s.laneDue l = if s.laneReady l = true ∧ s.laneTick l < s.time.now + cclkTicks then
     (if (s.lane l).set.mode = 2 then (s.laneFire l).laneLevel l else (s.laneFire l).lanePulse l) else s) ∧
  (∀ (s : State) (l : Fin 32) u t, u = s.laneDue l.val → t = s.laneDisarm l.val → (t.slot l.val).armed = false ∧
     t.lane l.val = { u.lane l.val with
       state := .idle
       latePulse := none
       disarmAt := if (u.lane l.val).state = .trigWait then some (u.nowSt : Int) else none } ∧
     (∀ j, j ≠ l.val → t.lane j = u.lane j) ∧ (∀ j, j ≠ l.val → t.slot j = u.slot j) ∧ t.time.now = u.time.now) ∧
  (∀ (s : State) (l : Fin 32) x u v t p, x = s.laneStaged l.val → u = s.laneDue l.val →
     v = u.laneLoad l.val x (u.otOf x.t0) → p = v.lanePast l.val v.otArm → t = s.laneArm l.val → x.mode ≠ 0 →
     (∀ j, j ≠ l.val → t.lane j = s.lane j) ∧
     if s.laneBad x = true then t.lane l.val = { s.lane l.val with badArm := true } ∧ t.evSet 232 = true ∧ t.time = s.time
     else t.time.now = u.time.now ∧ if x.mode = 3 then
       t.lane l.val = { u.lane l.val with set := x, state := .trigWait, latePulse := none, disarmAt := none } ∧ (t.slot l.val).armed = false
     else
       v.lane l.val = { u.lane l.val with
         set := x
         t0 := u.otOf x.t0
         idx := 0
         state := .armed
         latePulse := none
         disarmAt := none
         comp := if (u.lane l.val).compNew.isSome = true then (u.lane l.val).comp else sfld (s.ac (Reg.EVL_COMP l.val)) 0 24 } ∧
       if p = 0 then t.lane l.val = v.lane l.val ∧ (t.slot l.val).armed = true
       else if x.policy = 0 then (t.lane l.val).state = .armed ∧ (t.lane l.val).late = true ∧ (t.lane l.val).idx = p ∧
         t.evSet 9 = true ∧ (t.slot l.val).armed = true ∧
         ((t.lane l.val).latePulse = none ∨ (t.lane l.val).latePulse = some (v.otG + laneLead))
       else if x.policy = 1 ∨ x.mode = 2 ∨ x.period = 0 then
         t.lane l.val = { v.lane l.val with state := .idle, rejected := true } ∧ t.evSet 10 = true ∧ (t.slot l.val).armed = false
       else t.rd (Reg.EVL_SKIPPED l.val) = satAdd (u.rd (Reg.EVL_SKIPPED l.val)) (match x.total with
           | some n => min p n
           | none => p) ∧
         if x.ended p = true then t.lane l.val = { v.lane l.val with idx := p, state := .idle } ∧ t.evSet 230 = true ∧
           bitAt (t.rd Reg.EVL_DONE) l.val = true ∧ (t.slot l.val).armed = false
         else t.lane l.val = { v.lane l.val with idx := p } ∧ (t.slot l.val).armed = true) ∧
  (∀ (l : Fin 32) s u, u = s.advTo (s.cclkAfter 0) → Does (.evlArm l) s fun t => t = u.laneArm l.val ∧
     ((s.laneStaged l.val).mode = 0 → t = u.laneDisarm l.val)) ∧
  (∀ (l : Fin 32) s, Does (.evlDisarm l) s fun t => t = (s.advTo (s.cclkAfter 0)).laneDisarm l.val) ∧
  (∀ lanes s, Does (.evlArmAll lanes) s fun t =>
     t = ((List.range 32).filter (bitAt lanes)).foldl State.laneArm (s.advTo (s.cclkAfter 0)) ∧
     ∀ (l : Fin 32) x, x = s.laneStaged l.val → if bitAt lanes l.val = false then t.lane l.val = s.lane l.val
       else if x.mode = 0 then (t.lane l.val).state = .idle
       else if s.laneBad x = true then t.lane l.val = { s.lane l.val with badArm := true } else (t.lane l.val).set = x) ∧
  (∀ lanes s, Does (.evlDisarmAll lanes) s fun t =>
     t = ((List.range 32).filter (bitAt lanes)).foldl State.laneDisarm (s.advTo (s.cclkAfter 0)) ∧
     ∀ l : Fin 32, if bitAt lanes l.val = true then (t.lane l.val).state = .idle ∧ (t.slot l.val).armed = false
       else t.lane l.val = s.lane l.val ∧ t.slot l.val = s.slot l.val)

/-- A lane that may send places the leading edge of its pulse at the grid point nearest to its compensated time, counts it
and turns to the next pulse; one that is squelched, or within 2 ns of the end of the pulse before, is skipped and counted.
The trailing edge of a pulse returns the output to its inactive level, and after the last one the train is over with EV230. A
LEVEL lane takes its level at its time, or at the end of a pulse in progress, and is IDLE, or keeps its level when squelched,
with the pulse counted as skipped. A lane with nothing to place changes nothing. -/
def Obligations.LanePulses : Prop :=
  (∀ (s : State) (l : Fin 32) x y g c n fin_ t, x = s.lane l.val → g = s.laneNext l.val → c = s.laneComp l.val →
     n = (if x.latePulse.isSome = true then x.idx else x.idx + 1) →
     y = (match x.trail with
       | some e => if x.endG e ≤ g then { x with high := false, trail := none, lastEnd := some e } else x
       | none => x) →
     fin_ = (x.set.ended n && y.trail.isNone) → t = s.lanePulse l.val → (∀ j, j ≠ l.val → t.lane j = s.lane j) ∧
     if s.squelched (fld x.set.cfg 5 2) = true ∨ (y.trail <|> y.lastEnd).any (fun e => decide (g < y.endG e + 131072000)) = true then
       t.rd (Reg.EVL_SKIPPED l.val) = satAdd (s.rd (Reg.EVL_SKIPPED l.val)) 1 ∧
       (t.slot l.val).armed = !x.set.ended n ∧ (fin_ = true → t.evSet 230 = true) ∧ t.lane l.val = { y with
         state := if fin_ = true then (if x.set.mode = 3 ∧ x.disarmAt = none then .trigWait else .idle) else .running
         latePulse := none
         idx := n
         trail := y.trail.map (fun e => roundDiv (y.endG e + c) 1000)
         lastEnd := y.lastEnd.map (fun e => roundDiv (y.endG e + c) 1000)
         comp := c / psG
         compNew := (t.lane l.val).compNew }
     else t.rd (Reg.EVL_SENT l.val) = satAdd (s.rd (Reg.EVL_SENT l.val)) 1 ∧ (t.slot l.val).armed = !x.set.ended n ∧
       .evout l.val (grid25 g) (x.set.ball true) ∈ t.outbox ∧ t.lane l.val = { y with
         state := .running
         latePulse := none
         idx := n
         high := true
         trail := some ((if x.latePulse.isSome = true then (g + c) / 1000 else x.edge x.idx) + x.set.width)
         comp := c / psG
         compNew := (t.lane l.val).compNew }) ∧
  (∀ (l : Fin 32) s u, u = s.laneFire l.val → Does (.evlPulse l) s fun t =>
     if s.laneReady l.val = true ∧ (s.lane l.val).set.mode ≠ 2 then
       t = (u.advTo (u.tickOfOt (s.laneNext l.val))).lanePulse l.val ∧ bitAt (t.rd (Reg.TSC_CS_STAT l.val)) 0 = true
     else t = s) ∧
  (∀ (l : Fin 32) s x, x = s.lane l.val → Does (.evlTrailingEdge l) s fun t => match x.trail with
     | none => t = s
     | some e =>
       t.time.now = (s.advTo (s.tickOfOt (x.endG e))).time.now ∧ (∀ j, j ≠ l.val → t.lane j = s.lane j) ∧
       .evout l.val (grid25 (x.endG e)) (x.set.ball false) ∈ t.outbox ∧
       if x.state = .running ∧ x.latePulse = none ∧ x.set.ended x.idx = true then t.evSet 230 = true ∧
         bitAt (t.rd Reg.EVL_DONE) l.val = true ∧ (t.slot l.val).armed = false ∧ t.lane l.val = { x with
           state := if x.set.mode = 3 ∧ x.disarmAt = none then .trigWait else .idle
           high := false
           trail := none
           lastEnd := some e }
       else t.lane l.val = { x with high := false, trail := none, lastEnd := some e }) ∧
  (∀ (s : State) (l : Fin 32) x g t, x = s.lane l.val → g = s.laneNext l.val → t = s.laneLevel l.val →
     (∀ j, j ≠ l.val → t.lane j = s.lane j) ∧ (t.slot l.val).armed = false ∧ t.time.now = s.time.now ∧
     let y := match x.trail with
       | some e => if x.endG e < g then { x with high := false, trail := none, lastEnd := some e } else x
       | none => x
     if s.squelched (fld x.set.cfg 5 2) = true then
       t.lane l.val = { y with state := .idle, rejected := true, latePulse := none } ∧
       t.rd (Reg.EVL_SKIPPED l.val) = satAdd (s.rd (Reg.EVL_SKIPPED l.val)) 1
     else t.lane l.val = { y with
         state := .idle
         high := bitAt x.set.cfg 7
         latePulse := none
         trail := none
         lastEnd := y.trail <|> y.lastEnd } ∧
       .evout l.val (grid25 (match y.trail with
         | some e => y.endG e
         | none => g)) (x.set.ball (bitAt x.set.cfg 7)) ∈ t.outbox) ∧
  (∀ (l : Fin 32) s u, u = s.laneFire l.val → Does (.evlLevel l) s fun t =>
     if s.laneReady l.val = true ∧ (s.lane l.val).set.mode = 2 then
       t = (u.advTo (u.tickOfOt (match (s.lane l.val).trail with
         | some e => max (s.laneNext l.val) ((s.lane l.val).endG e)
         | none => s.laneNext l.val))).laneLevel l.val ∧ bitAt (t.rd (Reg.TSC_CS_STAT l.val)) 0 = true
     else t = s)

/-- A send puts its word behind those in the peer's inbound queue and never waits: with eight words there it is discarded and
counted, and towards a DOWN end it is ABORTED. A read of MBX_RX pops the oldest word, or returns zero with RX_UNDER. A ring
sets bits 0 to 29 of the peer's doorbell, ends the peer's wait where it acknowledges, and raises EV234 for a first pending
bit of PF0, PF1 or SPI management. A clear clears what it names. -/
def Obligations.MbxWords : Prop :=
  (∀ c m w s e, (c.val ≠ 8 ∨ m.secure = true) → endOf c.val m = some e → (s.chEnd (peerOf e)).up = true →
     (s.chEnd (peerOf e)).inq.length < 8 → Does (.mbxTx c m w) s fun t =>
     t.chEnd (peerOf e) = { s.chEnd (peerOf e) with inq := (s.chEnd (peerOf e)).inq ++ [w] } ∧
     t.chEnd e = { s.chEnd e with lastTx := .ok } ∧ (∀ i, i ≠ e → i ≠ peerOf e → t.chEnd i = s.chEnd i) ∧
     t = { s with mbx := { s.mbx with ends := t.mbx.ends } }) ∧
  (∀ c m w s e, (c.val ≠ 8 ∨ m.secure = true) → endOf c.val m = some e → (s.chEnd (peerOf e)).up = true →
     8 ≤ (s.chEnd (peerOf e)).inq.length → Does (.mbxTx c m w) s fun t =>
     t.chEnd e = { s.chEnd e with lastTx := .full, txFull := satAdd (s.chEnd e).txFull 1 } ∧
     (∀ i, i ≠ e → t.chEnd i = s.chEnd i)) ∧
  (∀ c m w s e, (c.val ≠ 8 ∨ m.secure = true) → endOf c.val m = some e → (s.chEnd (peerOf e)).up = false →
     Does (.mbxTx c m w) s fun t => t.chEnd e = { s.chEnd e with lastTx := .aborted } ∧
     (∀ i, i ≠ e → t.chEnd i = s.chEnd i) ∧ t = { s with mbx := { s.mbx with ends := t.mbx.ends } }) ∧
  (∀ c m s e w r, (c.val ≠ 8 ∨ m.secure = true) → endOf c.val m = some e → (s.chEnd e).inq = w :: r →
     Does (.mbxRx c m) s fun t => t.bus = { data := [w], unsupported := false } ∧
     t.chEnd e = { s.chEnd e with inq := r, under := false } ∧ (∀ i, i ≠ e → t.chEnd i = s.chEnd i) ∧
     t = { s with bus := t.bus, mbx := { s.mbx with ends := t.mbx.ends } }) ∧
  (∀ c m s e, (c.val ≠ 8 ∨ m.secure = true) → endOf c.val m = some e → (s.chEnd e).inq = [] →
     Does (.mbxRx c m) s fun t => t.bus = { data := [0], unsupported := false } ∧
     t.chEnd e = { s.chEnd e with under := true } ∧ (∀ i, i ≠ e → t.chEnd i = s.chEnd i)) ∧
  (∀ c m bits s e, (c.val ≠ 8 ∨ m.secure = true) → endOf c.val m = some e → (s.chEnd (peerOf e)).up = true →
     Does (.mbxDbRing c m bits) s fun t =>
     t.chEnd (peerOf e) = { s.chEnd (peerOf e) with
       db := (s.chEnd (peerOf e)).db ||| (bits &&& 0x3FFFFFFF)
       ackFrom := if bits &&& 0x3FFFFFFF &&& (s.chEnd (peerOf e)).ackMask = 0 then (s.chEnd (peerOf e)).ackFrom else none } ∧
     (∀ i, i ≠ peerOf e → t.chEnd i = s.chEnd i) ∧
     ((s.chEnd (peerOf e)).pend = false → bits &&& 0x3FFFFFFF &&& ~~~ (s.chEnd (peerOf e)).dbMask ≠ 0 →
       (endMaster (peerOf e)).isCore = false → t.evSet 234 = true)) ∧
  (∀ c m bits s e, (c.val ≠ 8 ∨ m.secure = true) → endOf c.val m = some e → (s.chEnd (peerOf e)).up = false →
     Does (.mbxDbRing c m bits) s fun t => t.chEnd e = { s.chEnd e with lastTx := .aborted } ∧
     ∀ i, i ≠ e → t.chEnd i = s.chEnd i) ∧
  (∀ c m bits s e, (c.val ≠ 8 ∨ m.secure = true) → endOf c.val m = some e →
     Does (.mbxDbClear c m bits) s fun t => t.chEnd e = { s.chEnd e with db := (s.chEnd e).db &&& ~~~ bits } ∧
     (∀ i, i ≠ e → t.chEnd i = s.chEnd i) ∧ t = { s with mbx := { s.mbx with ends := t.mbx.ends } })

/-- A master reaches the registers of its own end of a channel. One that is no endpoint reads zero, its writes are discarded
and EV238 is raised. A non-secure master at MB08 is refused with EV192, and EV238 is not raised. -/
def Obligations.NotEndpoint : Prop :=
  (∀ c m, endOf c m = if m = (chanEnds c).1 then some (2 * c) else if m = (chanEnds c).2 then some (2 * c + 1) else none) ∧
  (∀ (s : State) (c : Nat) m e off (f : State → Nat → State), (c ≠ 8 ∨ m.secure = true) → endOf c m = some e →
     (s.chanRead c m off).1 = BitVec.ofNat 32 ((s.viewEnd off e).getD 0) ∧ s.chanWrite c m f = f s e) ∧
  (∀ (s : State) (c : Fin 19) m w off (f : State → Nat → State), (c.val ≠ 8 ∨ m.secure = true) → endOf c.val m = none →
     (∀ i ∈ [Instr.mbxTx c m w, .mbxDbRing c m w, .mbxDbClear c m w, .mbxAckWaitStart c m, .mbxAckWaitCancel c m],
       Does i s fun t => EvOnly s t ∧ t.evSet 238 = true) ∧
     Does (.mbxRx c m) s (fun t => t.bus = { data := [0], unsupported := false } ∧
       EvOnly { s with bus := t.bus } t ∧ t.evSet 238 = true) ∧
     (s.chanRead c.val m off).1 = 0 ∧ EvOnly s (s.chanRead c.val m off).2 ∧ (s.chanRead c.val m off).2.evSet 238 = true ∧
     EvOnly s (s.chanWrite c.val m f) ∧ (s.chanWrite c.val m f).evSet 238 = true) ∧
  (∀ (s : State) (c : Fin 19) m w off (f : State → Nat → State), c.val = 8 → m.secure = false →
     (∀ i ∈ [Instr.mbxTx c m w, .mbxDbRing c m w, .mbxDbClear c m w, .mbxAckWaitStart c m, .mbxAckWaitCancel c m],
       Does i s fun t => EvOnly s t ∧ t.evSet 192 = true ∧ t.evSet 238 = s.evSet 238) ∧
     Does (.mbxRx c m) s (fun t => t.bus = { data := [0], unsupported := false } ∧
       EvOnly { s with bus := t.bus } t ∧ t.evSet 192 = true ∧ t.evSet 238 = s.evSet 238) ∧
     (s.chanRead c.val m off).1 = 0 ∧ EvOnly s (s.chanRead c.val m off).2 ∧ (s.chanRead c.val m off).2.evSet 192 = true ∧
     EvOnly s (s.chanWrite c.val m f) ∧ (s.chanWrite c.val m f).evSet 192 = true)

/-- START starts the acknowledgement timer of the writer's end from zero and CANCEL ends the wait. When the timer expires
ACK_STALL is set, the wait ends, the stall is counted and EV236 raised; with TIMEOUT 0 or no wait nothing does. A function
that resets its ends empties both queues of every channel of it, marks its ends DOWN and tells each peer with PEER_ABORT and
EV237, and its semaphores become free. OPEN marks its ends UP, but for PF1 while the recipe does not enable it. From a core
both bits are ignored. A write of MBX_SEM by the holder frees the semaphore; from another master it is discarded with EV239,
and from a non-secure one for SEM56 to SEM63 with EV192. KC and PF1 free any semaphore with MBX_SEM_FORCE, which raises EV240
(that it does for a free one too is a reading of the model, log entry 12); a non-secure master is refused with EV192. -/
def Obligations.MbxEnds : Prop :=
  (∀ c m s e, (c.val ≠ 8 ∨ m.secure = true) → endOf c.val m = some e → Does (.mbxAckWaitStart c m) s fun t =>
     t.chEnd e = { s.chEnd e with ackFrom := some s.time.now } ∧ (∀ i, i ≠ e → t.chEnd i = s.chEnd i) ∧
     t = { s with mbx := { s.mbx with ends := t.mbx.ends } }) ∧
  (∀ c m s e, (c.val ≠ 8 ∨ m.secure = true) → endOf c.val m = some e → Does (.mbxAckWaitCancel c m) s fun t =>
     t.chEnd e = { s.chEnd e with ackFrom := none } ∧ (∀ i, i ≠ e → t.chEnd i = s.chEnd i) ∧
     t = { s with mbx := { s.mbx with ends := t.mbx.ends } }) ∧
  (∀ e s x, x = s.chEnd e.val → Does (.mbxAckTimeout e) s fun t => match x.ackFrom with
     | none => t = s
     | some a =>
       if x.ackTimeout = 0 then t = s
       else t.time = (s.advTo (a + usTicks * x.ackTimeout)).time ∧ (∀ i, i ≠ e.val → t.chEnd i = s.chEnd i) ∧ t.evSet 236 = true ∧
         t.chEnd e.val = { x with db := x.db ||| bitMask 30, ackFrom := none, stalls := satAdd x.stalls 1 }) ∧
  (∀ m s, m.isCore = false → Does (.mbxEpReset m) s fun t => (∀ e, e < 38 → endMaster e = m →
       (t.chEnd e).inq = [] ∧ (t.chEnd e).db = 0 ∧ (t.chEnd e).dbMask = 0xFFFFFFFF ∧ (t.chEnd e).ackFrom = none ∧
       (t.chEnd e).up = false ∧ (t.chEnd (peerOf e)).inq = [] ∧ bitAt (t.chEnd (peerOf e)).db 31 = true ∧
       (t.chEnd (peerOf e)).ackFrom = none ∧ (t.chEnd (peerOf e)).lastTx = .aborted) ∧
     (∀ e, e < 38 → endMaster e ≠ m → endMaster (peerOf e) ≠ m → t.chEnd e = s.chEnd e) ∧
     (∀ i, i < 64 → t.sem i ≠ m.ident) ∧ t.evSet 237 = true) ∧
  (∀ m s, m.isCore = false → Does (.mbxOpen m) s fun t => t = { s with mbx := { s.mbx with ends := t.mbx.ends } } ∧
     (∀ e, e < 38 → endMaster e = m → (m = .pf1 → s.pf1En = true) → t.chEnd e = { s.chEnd e with up := true }) ∧
     ∀ e, (endMaster e ≠ m ∨ (m = .pf1 ∧ s.pf1En = false)) → t.chEnd e = s.chEnd e) ∧
  (∀ m s, m.isCore = true → Does (.mbxEpReset m) s (fun t => t = s) ∧ Does (.mbxOpen m) s fun t => t = s) ∧
  (∀ (i : Fin 64) m s, (i.val < 56 ∨ m.secure = true) → s.sem i.val = m.ident → Does (.semRelease i m) s fun t =>
     t.sem i.val = 0 ∧ (∀ j, j ≠ i.val → t.sem j = s.sem j) ∧ t = { s with mbx := { s.mbx with sems := t.mbx.sems } }) ∧
  (∀ (i : Fin 64) m s, (i.val < 56 ∨ m.secure = true) → s.sem i.val ≠ m.ident → Does (.semRelease i m) s fun t =>
     EvOnly s t ∧ t.evSet 239 = true) ∧
  (∀ (i : Fin 64) m s, 56 ≤ i.val → m.secure = false → Does (.semRelease i m) s fun t => EvOnly s t ∧ t.evSet 192 = true) ∧
  (∀ (i : Fin 64) m s, m.secure = true → Does (.semForce i m) s fun t => t.sem i.val = 0 ∧
     (∀ j, j ≠ i.val → t.sem j = s.sem j) ∧ t.evSet 240 = true) ∧
  (∀ (i : Fin 64) m s, m.secure = false → Does (.semForce i m) s fun t => EvOnly s t ∧ t.evSet 192 = true)

/-- A read of MBX_SEM returns the reader's ID and makes the reader the holder where the semaphore is free; the reader's ID
with bit 30 set where the reader holds it; the holder's ID with bit 31 set where another master does. The IDs are KC 1, SC0
to SC3 2 to 5, PF1 6, PF0 7 and SPI management 8, one more than the master's bit position in KEY_PERM. Of SEM56 to SEM63 a
non-secure master reads zero and is refused with EV192. -/
def Obligations.SemAcquire : Prop :=
  ([Master.kc, .sc0, .sc1, .sc2, .sc3, .pf1, .pf0, .spi].map Master.ident = [1, 2, 3, 4, 5, 6, 7, 8] ∧
     ∀ s m ptp, State.keyPermit s ptp m = bitAt (s.ac Reg.KEY_PERM) (m.ident - 1 + if ptp = true then 8 else 0)) ∧
  (∀ (i : Fin 64) m s, (i.val < 56 ∨ m.secure = true) → s.sem i.val = 0 → Does (.semAcquire i m) s fun t =>
     t.bus = { data := [BitVec.ofNat 32 m.ident], unsupported := false } ∧ t.sem i.val = m.ident ∧
     (∀ j, j ≠ i.val → t.sem j = s.sem j) ∧ t = { s with bus := t.bus, mbx := { s.mbx with sems := t.mbx.sems } }) ∧
  (∀ (i : Fin 64) m s, (i.val < 56 ∨ m.secure = true) → s.sem i.val = m.ident → Does (.semAcquire i m) s fun t =>
     t = { s with bus := { data := [BitVec.ofNat 32 (m.ident + 2 ^ 30)], unsupported := false } }) ∧
  (∀ (i : Fin 64) m s, (i.val < 56 ∨ m.secure = true) → s.sem i.val ≠ 0 → s.sem i.val ≠ m.ident →
     Does (.semAcquire i m) s fun t =>
     t = { s with bus := { data := [BitVec.ofNat 32 (s.sem i.val + 2 ^ 31)], unsupported := false } }) ∧
  (∀ (i : Fin 64) m s, 56 ≤ i.val → m.secure = false → Does (.semAcquire i m) s fun t =>
     t.bus = { data := [0], unsupported := false } ∧ EvOnly { s with bus := t.bus } t ∧ t.evSet 192 = true)

/-- Half the timeout without a restart sets WDT_WARN with EV016. At the timeout a running core is reset: its mailbox ends go
DOWN, its semaphores are free, its firmware slots disarmed, its completion queues, backlogs, waits and NTS-KE connections
gone, and none of its jobs is pending. It is restarted with EV017 and counted, but a core whose image fails the hash check,
or that has restarted RESTART_MAX times in the window, becomes FAILED with EV018. A restarted core that runs again starts its
watchdog and opens its ends. A restart of the watchdog clears WDT_WARN and counts the heartbeats. A core that does not run,
or does not restart, is left as it is. -/
def Obligations.CoreWatchdogs : Prop :=
  (∀ c s, Does (.wdtWarn c) s fun t =>
     if (s.core c.val).mode = .running ∧ (s.core c.val).warn = false then
       t.time = (s.advTo ((s.core c.val).wdtFrom + s.wdtTicks / 2)).time ∧
       t.core c.val = { s.core c.val with warn := true } ∧ (∀ i, i ≠ c.val → t.core i = s.core i) ∧ t.evSet 16 = true
     else t = s) ∧
  (∀ c s k now recent, k = s.core c.val → now = (s.advTo (k.wdtFrom + s.wdtTicks)).time.now →
     recent = now :: k.restarts.filter (fun t => decide (now < t + sTicks * (fld (s.ac Reg.MBX_WDT_CFG) 24 8 * 10))) →
     Does (.wdtExpire c) s fun t =>
       if k.mode ≠ .running then t = s
       else t.time.now = now ∧ (∀ i, i ≠ c.val → t.core i = s.core i) ∧
         (∀ e, e < 38 → endMaster e = coreMaster c.val → (t.chEnd e).up = false ∧ (t.chEnd e).inq = []) ∧
         (∀ i, i < 64 → t.sem i ≠ (coreMaster c.val).ident) ∧ (∀ i ∈ coreSlots c.val, (t.slot i).armed = false) ∧
         (∀ i, i < 8 → tget (fun _ => []) (t.eng i).cpl c.val = [] ∧ ∀ j ∈ (t.eng i).pend, j.by_ ≠ .core c.val) ∧
         (∀ x ∈ t.srv.conns, x.core ≠ c.val) ∧ (∀ n, n < 9 → fwCore n = c.val → t.fwChan n = {} ∧ ∀ w ∈ t.mbx.waits, w.chan ≠ n) ∧
         if k.imageHash ≠ k.goodHash then t.core c.val = { k with mode := .failed } ∧ t.evSet 18 = true ∧
           t.rd (Reg.MBX_CORE_RESTARTS c.val) = s.rd (Reg.MBX_CORE_RESTARTS c.val)
         else t.evSet 17 = true ∧ t.rd (Reg.MBX_CORE_RESTARTS c.val) = satAdd (s.rd (Reg.MBX_CORE_RESTARTS c.val)) 1 ∧
           if fld (s.ac Reg.MBX_WDT_CFG) 16 4 ≤ recent.length then
             t.core c.val = { k with mode := .failed, restarts := recent } ∧ t.evSet 18 = true
           else t.core c.val = { k with mode := .restarting, restarts := recent }) ∧
  (∀ c s, Does (.coreStart c) s fun t =>
     if (s.core c.val).mode = .restarting then
       t.core c.val = { s.core c.val with mode := .running, wdtFrom := s.time.now, warn := false } ∧
       (∀ i, i ≠ c.val → t.core i = s.core i) ∧
       (∀ e, e < 38 → t.chEnd e = if endMaster e = coreMaster c.val then { s.chEnd e with up := true } else s.chEnd e) ∧
       t = { s with mbx := { s.mbx with cores := t.mbx.cores, ends := t.mbx.ends } }
     else t = s) ∧
  (∀ c s, Does (.watchdogRestart c) s fun t =>
     if (s.core c.val).mode = .running then
       t.core c.val = { s.core c.val with wdtFrom := s.time.now, warn := false } ∧ (∀ i, i ≠ c.val → t.core i = s.core i) ∧
       t.rd (Reg.MBX_CORE_HB c.val) = satAdd (s.rd (Reg.MBX_CORE_HB c.val))
         (s.time.now / (10 * msTicks) - (s.core c.val).wdtFrom / (10 * msTicks)) ∧
       ∀ a, a ≠ Reg.MBX_CORE_HB c.val → t.rd a = s.rd a
     else t = s)

/-- The firmware pops a whole request, rings ACK and answers it, or keeps the answer in its backlog, and pops none while its
core does not run or the backlog is full. PING gives the version; an unknown command or a wrong length gives E_CMD; a PKE_JOB
goes to the first engine that accepts it and is answered by its completion, or with E_BUSY or E_ARG when every engine refuses
it; PKE_ABORT aborts the job of the tag or says E_ARG; KEY_IMPORT and KEY_DELETE have the status that KC gives, and wait
while it restarts; BUF_WRITE and BUF_READ act on the staging buffer of MB04 to MB07. Backlogged messages go out in order as
room appears. -/
def Obligations.FirmwareProtocol : Prop :=
  (∀ (s : State) (c : Fin 9) n t, t = s.fwPop c.val n →
     (t.chEnd (2 * c.val + 1)).inq = (s.chEnd (2 * c.val + 1)).inq.drop (n + 1) ∧
     (t.chEnd (2 * c.val)).inq = (s.chEnd (2 * c.val)).inq ∧ (∀ i, i ≠ 2 * c.val → i ≠ 2 * c.val + 1 → t.chEnd i = s.chEnd i) ∧
     ((s.chEnd (2 * c.val)).up = true → bitAt (t.chEnd (2 * c.val)).db 1 = true) ∧
     t.mbx.fw = s.mbx.fw ∧ t.mbx.waits = s.mbx.waits ∧ t.pke = s.pke ∧ t.srv = s.srv) ∧
  (∀ (s : State) (c : Fin 9) m t x, x = s.chEnd (2 * c.val) → t = s.fwSend c.val m →
     (∀ i, i ≠ 2 * c.val → i ≠ 2 * c.val + 1 → t.chEnd i = s.chEnd i) ∧ t.pke = s.pke ∧ t.srv = s.srv ∧ t.mbx.waits = s.mbx.waits ∧
     if x.up = false then t.chEnd (2 * c.val) = x ∧ (t.chEnd (2 * c.val + 1)).lastTx = .aborted ∧ t.mbx.fw = s.mbx.fw
     else if (s.fwChan c.val).backlog = [] ∧ m.length ≤ 8 - x.inq.length then
       (t.chEnd (2 * c.val)).inq = x.inq ++ m ∧ bitAt (t.chEnd (2 * c.val)).db 0 = true ∧ t.mbx.fw = s.mbx.fw
     else t.chEnd (2 * c.val) = x ∧ t.fwChan c.val = { s.fwChan c.val with backlog := (s.fwChan c.val).backlog ++ [m] } ∧
       ∀ k, k ≠ c.val → t.fwChan k = s.fwChan k) ∧
  (∀ c s, Does (.fwPing c) s fun t => match s.fwRequest c.val with
     | none => t = s
     | some (h, b) =>
       if fwCmd h ≠ 1 ∧ fwCmd h ∈ fwCmds then t = s
       else t = (s.fwPop c.val b.length).fwSend c.val (if fwCmd h = 1 ∧ b = [] then
         fwReply 1 (fwSeq h) [s.rd (Reg.MBX_CORE_VER (fwCore c.val))] else fwStatus (fwCmd h) (fwSeq h) 0x20)) ∧
  (∀ c s, Does (.fwPkeJob c) s fun t => match s.fwRequest c.val with
     | none => t = s
     | some (h, b) =>
       let u := s.fwPop c.val b.length
       let j : PkeJob := {
         words := fwDescriptor c.val h b
         by_ := .core (fwCore c.val)
         buf := if 4 ≤ c.val ∧ c.val < 8 then some c.val else none }
       let deny (st : Nat) : FwMsg := fwReply 0x10 j.tag [BitVec.ofNat 32 (j.tag + st * 2 ^ 8)]
       if fwCmd h ≠ 0x10 then t = s
       else if j.buf.isSome = true ∧ fwBufOk j = false then t = u.fwSend c.val (deny 0x21)
       else match (List.range 8).find? (fun i => u.submitResult i j == 0) with
         | some i => (t.eng i).pend = (s.eng i).pend ++ [j] ∧ (∀ k, k ≠ i → t.eng k = s.eng k) ∧
           t.mbx = { u.mbx with waits := s.mbx.waits ++ [⟨c.val, j.tag, j.tag, i⟩] } ∧
           ∀ k, k < i → t.rd (Reg.PKE_SUB_REFUSED k) = satAdd (s.rd (Reg.PKE_SUB_REFUSED k)) 1
         | none => ∃ v : State, v.mbx = u.mbx ∧ v.pke = u.pke ∧
           t = v.fwSend c.val (deny (if (List.range 8).any (fun i => u.submitResult i j == 3 || u.submitResult i j == 5) = true
             then 0x21 else 0x22)) ∧
           ∀ k, k < 8 → t.rd (Reg.PKE_SUB_REFUSED k) = satAdd (s.rd (Reg.PKE_SUB_REFUSED k)) 1) ∧
  (∀ c begun s, Does (.fwPkeAbort c begun) s fun t => match s.fwRequest c.val with
     | none => t = s
     | some (h, b) =>
       let u := s.fwPop c.val b.length
       let tag := fld (b.getD 0 0) 0 8
       if fwCmd h ≠ 0x11 then t = s
       else if b.length ≠ 1 then t = u.fwSend c.val (fwStatus 0x11 (fwSeq h) 0x20)
       else match u.mbx.waits.find? (fun w => w.chan == c.val && w.tag == tag) with
         | none => t = u.fwSend c.val (fwStatus 0x11 (fwSeq h) 0x21)
         | some w =>
           let a := u.abortJob w.engine (fun j => j.tag == tag && j.owner == c.val) begun
           t = (a.2.fwSend c.val (fwStatus 0x11 (fwSeq h) (if a.1 = true then 0 else 0x21))).jobsEnded) ∧
  (∀ (s : State) i f begun, s.abortJob i f begun =
     let waiting := match (s.eng i).pend.find? f with
       | some j => (true, s.abortPending i j)
       | none => (false, s)
     match (s.eng i).run with
     | some r => if f r.job = true then
         (true, if r.writes begun = true ∨ r.endAt ≤ s.cclkAfter 1 then s else s.abortRunning i r)
       else waiting
     | none => waiting) ∧
  (∀ c bundle s spi, spi = (decide (4 ≤ c.val) && decide (c.val < 8)) → Does (.fwKeyImport c bundle) s fun t =>
     match s.fwRequest c.val with
     | none => t = s
     | some (h, b) =>
       let u := s.fwPop c.val b.length
       let at_ := join32 (b.getD 0 0) (b.getD 1 0)
       let n := (b.getD 2 0).toNat
       let say (st : Nat) : FwMsg := fwStatus 0x20 (fwSeq h) st
       if fwCmd h ≠ 0x20 ∨ s.kcAway c.val = true then t = s
       else if b.length ≠ 3 then t = u.fwSend c.val (say 0x20)
       else if spi = true ∧ 16384 < at_ + n then t = u.fwSend c.val (say 0x21)
       else if s.coreFailed 4 = true then ∃ st, 1 ≤ st ∧ st ≤ 14 ∧ t = u.fwSend c.val (say st)
       else
         let r := u.importBundle (if spi = true then u.bufRead c.val at_ n else bundle.take n) (c.val == 8)
         t = r.2.fwSend c.val (say r.1)) ∧
  (∀ c s, Does (.fwKeyDelete c) s fun t => match s.fwRequest c.val with
     | none => t = s
     | some (h, b) =>
       let u := s.fwPop c.val b.length
       let i := fld (b.getD 0 0) 0 8
       let say (st : Nat) : FwMsg := fwStatus 0x21 (fwSeq h) st
       if fwCmd h ≠ 0x21 ∨ s.kcAway c.val = true then t = s
       else if b.length ≠ 1 then t = u.fwSend c.val (say 0x20)
       else if s.coreFailed 4 = true then ∃ st, 1 ≤ st ∧ st ≤ 14 ∧ t = u.fwSend c.val (say st)
       else if c.val = 8 ∨ (s.kslot i).secure = false ∧ (s.kslot i).channels.testBit c.val = true then
         t = (u.slotWipe i).fwSend c.val (say 0) ∧ t.kslot i = {}
       else t = u.fwSend c.val (say 8)) ∧
  (∀ c s, Does (.fwBufWrite c) s fun t => match s.fwRequest c.val with
     | none => t = s
     | some (h, b) =>
       let u := s.fwPop c.val b.length
       let at_ := (b.getD 0 0).toNat
       if fwCmd h ≠ 0x30 then t = s
       else if c.val < 4 ∨ c.val = 8 ∨ b.length < 2 then t = u.fwSend c.val (fwStatus 0x30 (fwSeq h) 0x20)
       else if at_ % 4 ≠ 0 ∨ 16384 < at_ + 4 * (b.length - 1) then t = u.fwSend c.val (fwStatus 0x30 (fwSeq h) 0x21)
       else ∃ v : State, t = v.fwSend c.val (fwStatus 0x30 (fwSeq h) 0) ∧ v = { u with mbx := { u.mbx with fw := v.mbx.fw } } ∧
         (v.fwChan c.val).backlog = (u.fwChan c.val).backlog ∧ (∀ k, k ≠ c.val → v.fwChan k = u.fwChan k) ∧
         ∀ i, tget (fun _ => 0) (v.fwChan c.val).buf i = if at_ / 4 ≤ i ∧ i < at_ / 4 + (b.length - 1)
           then (b.drop 1).getD (i - at_ / 4) 0 else tget (fun _ => 0) (u.fwChan c.val).buf i) ∧
  (∀ c s, Does (.fwBufRead c) s fun t => match s.fwRequest c.val with
     | none => t = s
     | some (h, b) =>
       let u := s.fwPop c.val b.length
       let at_ := (b.getD 0 0).toNat
       let n := (b.getD 1 0).toNat
       if fwCmd h ≠ 0x31 then t = s
       else t = u.fwSend c.val (if c.val < 4 ∨ c.val = 8 ∨ b.length ≠ 2 then fwStatus 0x31 (fwSeq h) 0x20
         else if at_ % 4 ≠ 0 ∨ n = 0 ∨ 6 < n ∨ 16384 < at_ + 4 * n then fwStatus 0x31 (fwSeq h) 0x21
         else fwReply 0x31 (fwSeq h)
           (0 :: (List.range n).map (fun i => tget (fun _ => 0) (s.fwChan c.val).buf (at_ / 4 + i))))) ∧
  (∀ c s q, q = (s.fwChan c.val).backlog → Does (.fwBacklogSend c) s fun t => ∃ k, k ≤ q.length ∧
     (t.fwChan c.val).backlog = q.drop k ∧ (k = 0 → t = s) ∧ ((s.chEnd (2 * c.val)).up = false → k = 0) ∧
     (t.chEnd (2 * c.val)).inq = (s.chEnd (2 * c.val)).inq ++ (q.take k).flatten ∧
     ((s.chEnd (2 * c.val)).up = true → ∀ m, q[k]? = some m → 8 - (t.chEnd (2 * c.val)).inq.length < m.length))

/-- A write of EVT_STAT clears the event bits it names and no other, and a write of EVT_MASK sets the mask and clears no
event; of group 6 both are secure, refused with EV192. EVT_FORCE by KC or PF1 raises the event at the next CCLK edge, in
EVT_STAT and in the views of the cores that enable it, and counts nothing; a reserved number is refused with EV024 and a
non-secure writer with EV192. When a function's MSI-X masks open, each pending vector whose message may go is cleared, and
its message sent if it is still pending. -/
def Obligations.EventDelivery : Prop :=
  (∀ m (g : Fin 8) bits s, (g.val ≠ 6 ∨ m.secure = true) → Does (.evtStatClear m g bits) s fun t =>
     ∀ e, e < 256 → (e ≠ 21 ∨ s.evt.alarm = true) → t.evSet e = (s.evSet e && !(decide (e / 32 = g.val) && bitAt bits (e % 32)))) ∧
  (∀ m (g : Fin 8) bits s, g.val = 6 → m.secure = false → Does (.evtStatClear m g bits) s fun t => EvOnly s t ∧ t.evSet 192 = true) ∧
  (∀ m (g : Fin 8) v s, (g.val ≠ 6 ∨ m.secure = true) → Does (.evtMaskWrite m g v) s fun t => t.rd (Reg.EVT_MASK g.val) = v ∧
     (∀ a, a ≠ Reg.EVT_MASK g.val → evKey a = false → t.rd a = s.rd a) ∧
     ∀ e, e < 256 → (e ≠ 21 ∨ s.evt.alarm = true) → t.evSet e = s.evSet e) ∧
  (∀ m (g : Fin 8) v s, g.val = 6 → m.secure = false → Does (.evtMaskWrite m g v) s fun t => EvOnly s t ∧ t.evSet 192 = true) ∧
  (∀ m (e : Fin 256) s, m.secure = true → evReserved e.val = false → Does (.evtForce m e) s fun t =>
     t.time = (s.advTo (s.cclkAfter 1)).time ∧ EvOnly (s.advTo (s.cclkAfter 1)) t ∧ t.evSet e.val = true ∧
     (∀ k ∈ [Master.kc, .sc0, .sc1, .sc2, .sc3], bitAt (s.rd (bankKey k (Reg.EVT_CORE_EN (e.val / 32)))) (e.val % 32) = true →
       bitAt (t.rd (bankKey k (Reg.EVT_CORE_STAT (e.val / 32)))) (e.val % 32) = true) ∧
     (s.evt.alarm = true → t.evt.cnts = (s.advTo (s.cclkAfter 1)).evt.cnts)) ∧
  (∀ m (e : Fin 256) s, m.secure = true → evReserved e.val = true → Does (.evtForce m e) s fun t => EvOnly s t ∧ t.evSet 24 = true) ∧
  (∀ m e s, m.secure = false → Does (.evtForce m e) s fun t => EvOnly s t ∧ t.evSet 192 = true) ∧
  (∀ pf1 enable funMask masked s f n, f = (if pf1 = true then 1 else 0) → n = (if pf1 = true then 8 else 24) →
     Does (.msixUnmask pf1 enable funMask masked) s fun t =>
     (tget msixDef t.evt.msix f).enabled = enable ∧ (tget msixDef t.evt.msix f).funMask = funMask ∧
     (tget msixDef t.evt.msix f).masked = masked.toNat ∧
     (∀ e, (tget msixDef t.evt.msix f).pending.testBit e = ((tget msixDef s.evt.msix f).pending.testBit e &&
       !(enable && !funMask && decide (e < n) && !masked.toNat.testBit e))) ∧
     (∀ g, g ≠ f → tget msixDef t.evt.msix g = tget msixDef s.evt.msix g) ∧
     ∀ e, e < n → enable = true → funMask = false → masked.toNat.testBit e = false →
       (tget msixDef s.evt.msix f).pending.testBit e = true → s.vecPend (fnVector pf1 e) = true →
       .msix (fnVector pf1 e) (tget (fun _ => 0) (tget msixDef s.evt.msix f).tableW (4 * e))
         (tget (fun _ => 0) (tget msixDef s.evt.msix f).tableW (4 * e + 1))
         (tget (fun _ => 0) (tget msixDef s.evt.msix f).tableW (4 * e + 2)) ∈ t.outbox)

/-- A read of CNT_LO returns the low bits and latches the high bits for the reader alone, with a chained partner. A write of
CNT_LO stages, and a write of CNT_HI loads the counter at the next CCLK edge, a carry of the chained pair that meets the load
being lost with EV243. CLEAR_ALL zeroes all counters. SNAP requests a snapshot at the eighth CCLK edge, and each requested
one copies all 64 with its time and EV244. A counter that reached its limit sets HIT with EV241, one that wrapped OVF with
EV242; otherwise nothing changes. -/
def Obligations.CounterCommands : Prop :=
  (∀ m (n : Fin 64) wide s, (s.cnt n.val).chained n.val = false → Does (.cntLoRead m n wide) s fun t =>
     t.bus = { data := if wide = true
         then [BitVec.ofNat 32 (s.cnt n.val).val, BitVec.ofNat 32 ((s.cnt n.val).val / 2 ^ 32)]
         else [BitVec.ofNat 32 (s.cnt n.val).val], unsupported := false } ∧
     t.cntHi m n.val = BitVec.ofNat 32 ((s.cnt n.val).val / 2 ^ 32) ∧
     ((s.cnt (n.val + 1)).chained (n.val + 1) = true →
       tget zeroAt (t.cntBank m).latchAll (n.val + 1) = (s.cnt (n.val + 1)).val) ∧
     (∀ k, k ≠ m → t.cntBank k = s.cntBank k) ∧ t = { s with bus := t.bus, evt := { s.evt with banks := t.evt.banks } }) ∧
  (∀ m (n : Fin 64) wide s, (s.cnt n.val).chained n.val = true → Does (.cntLoRead m n wide) s fun t =>
     t = { s with bus := { data := if wide = true
         then [BitVec.ofNat 32 (tget zeroAt (s.cntBank m).latchAll n.val),
           BitVec.ofNat 32 (tget zeroAt (s.cntBank m).latchAll n.val / 2 ^ 32)]
         else [BitVec.ofNat 32 (tget zeroAt (s.cntBank m).latchAll n.val)], unsupported := false } }) ∧
  (∀ m (n : Fin 64) v s, Does (.cntLoWrite m n v) s fun t => tget (fun _ => 0) (t.cntBank m).stage n.val = v ∧
     (∀ k, k ≠ n.val → tget (fun _ => 0) (t.cntBank m).stage k = tget (fun _ => 0) (s.cntBank m).stage k) ∧
     (∀ k, k ≠ m → t.cntBank k = s.cntBank k) ∧ t = { s with evt := { s.evt with banks := t.evt.banks } }) ∧
  (∀ m (n : Fin 64) v s odd u lost, odd = (if n.val % 2 = 0 then n.val + 1 else n.val) →
     u = s.advTo ((s.time.now / cclkTicks + 1) * cclkTicks) →
     lost = ((s.cnt odd).chained odd && decide ((u.cnt odd).val ≠ (s.cnt odd).val)) →
     Does (.cntHiWrite m n v) s fun t => t.time = u.time ∧ t.live = u.live ∧
       (t.cnt n.val).val = fld v 0 16 * 2 ^ 32 + (tget (fun _ => 0) (s.cntBank m).stage n.val).toNat ∧ (t.cnt n.val).stopped = false ∧
       (∀ k, k ≠ n.val → k ≠ odd → t.cnt k = u.cnt k) ∧
       if lost = true then (t.cnt odd).carryLost = true ∧ t.evSet 243 = true ∧ (n.val ≠ odd → (t.cnt odd).val = (s.cnt odd).val)
       else t.cnt n.val = { s.cnt n.val with val := (t.cnt n.val).val, stopped := false } ∧ (n.val ≠ odd → t.cnt odd = u.cnt odd)) ∧
  (∀ s, Does .cntSnap s fun t => t = { s with evt := { s.evt with snapDue := s.evt.snapDue ++ [s.cclkAfter 8] } }) ∧
  (∀ s, Does .cntClearAll s fun t => (∀ n, n < 64 → t.cnt n = { s.cnt n with val := 0, stopped := false }) ∧
     t = { s with evt := { s.evt with cnts := t.evt.cnts } }) ∧
  (∀ s, Does .cntSnapshot s fun t => match s.evt.snapDue with
     | [] => t = s
     | a :: r => t.time = (s.advTo a).time ∧ t.evt.snapDue = r ∧
       (∀ n, n < 64 → (t.cnt n).snap = ((s.advTo a).cnt n).val) ∧ t.rd Reg.CNT_SNAP_SEQ = s.rd Reg.CNT_SNAP_SEQ + 1 ∧
       t.rd Reg.CNT_SNAP_AT_LO = BitVec.ofNat 32 (s.advTo a).nowSt ∧ t.evSet 244 = true) ∧
  (∀ (n : Fin 64) s, Does (.cntLimit n) s (fun t => if (s.cnt n.val).dueHit = true then (t.cnt n.val).hit = true ∧ t.evSet 241 = true ∧
       (t.cnt n.val).dueHit = false ∧ EvOnly s { t with evt := { t.evt with cnts := s.evt.cnts } } else t = s) ∧
     Does (.cntOverflow n) s fun t => if (s.cnt n.val).dueOvf = true then (t.cnt n.val).ovf = true ∧ t.evSet 242 = true ∧
       (t.cnt n.val).dueOvf = false ∧ EvOnly s { t with evt := { t.evt with cnts := s.evt.cnts } } else t = s)

/-- A corrected error is counted with EV019. An uncorrectable one is counted and recorded with EV020, and what it hit is
emptied, dropped, retired, wiped or restarted as its region says. A voted copy is reloaded and counted, a scheduler with
faulty pointers empties its port, and a DPLL0 sample whose copies differ is discarded. A hung cell is taken out of service
with EV147, a stalled cluster is retired with EV148, and when its rebind is done CLS_HOME_MAP names its successor, with
EV134. A cell that does not hang, a cluster that does not stall and one without a rebind are left as they are. -/
def Obligations.MemoryFaults : Prop :=
  (∀ f s, Does (.patrolScrub f) s fun t => match f with
     | .corrected => t.rd Reg.FLT_ECC_CORR = satAdd (s.rd Reg.FLT_ECC_CORR) 1 ∧ t.evSet 19 = true ∧ EvOnly (s.bump Reg.FLT_ECC_CORR) t
     | .uncorrectable m => ∃ u : State, t = u.eccRespond m ∧ u.evSet 20 = true ∧ u.time = s.time ∧
       u.rd Reg.FLT_ECC_UNCORR = satAdd (s.rd Reg.FLT_ECC_UNCORR) 1 ∧ fld (u.rd Reg.FLT_ECC_LAST) 0 8 = eccRegion m ∧
       (∀ i, eccOwner m = some i → fld (u.rd Reg.FLT_ECC_LAST) 8 8 = i) ∧ u.cls = s.cls ∧ u.ports = s.ports ∧ u.srv = s.srv ∧
       u.rt = s.rt ∧ u.ptp = s.ptp ∧ u.pke = s.pke ∧ u.clk = s.clk ∧ u.tim = s.tim ∧ u.mbx = s.mbx
     | .pointers n => (t.cal n.val).frames = [] ∧ (t.cal n.val).pouring = [] ∧ (t.port n.val).be = [] ∧ (t.port n.val).beWire = [] ∧
       (t.port n.val).reserved = none ∧ t.time = s.time
     | .voted => t = s.bump Reg.FLT_TMR_CORR
     | .compare x => t = if x.val = 0 then s.updD (fun d => { d with fresh := none }) else s) ∧
  (∀ (s : State) i,
     (∀ t, t = s.eccRespond (.client i) → t.cltEntry i = none ∧ ∀ k, k ≠ i → t.cltEntry k = s.cltEntry k) ∧
     (∀ t, t = s.eccRespond (.symKey i) → (t.symKey i).toKeyVal = {} ∧ ∀ k, k ≠ i → t.symKey k = s.symKey k) ∧
     (∀ t, t = s.eccRespond (.annexKey i) → (t.annexKey i).toKeyVal = {} ∧ ∀ k, k ≠ i → t.annexKey k = s.annexKey k) ∧
     (∀ t, t = s.eccRespond (.grant i) → t.grant i = {} ∧ ∀ k, k ≠ i → t.grant k = s.grant k) ∧
     (∀ t, t = s.eccRespond (.history i) → ∀ k, t.clk.d.hist[k]? =
       (s.clk.d.hist[k]?).map (fun h => if k = i then (h.1, false) else h)) ∧
     s.eccRespond .twoCopies = s) ∧
  (∀ (s : State) (k : Fin 8) pos,
     (∀ t, t = s.eccRespond (.timQueue k pos) → if pos < (s.timCh k.val).queue.length then
       (t.timCh k.val).queue = (s.timCh k.val).queue.eraseIdx pos ∧ t.rd Reg.FLT_ECC_DROP = satAdd (s.rd Reg.FLT_ECC_DROP) 1 else t = s) ∧
     (∀ t, t = s.eccRespond (.tsq k pos) → if pos < (s.port k.val).tsq.length then
       (t.port k.val).tsq = (s.port k.val).tsq.eraseIdx pos ∧ t.rd Reg.FLT_ECC_DROP = satAdd (s.rd Reg.FLT_ECC_DROP) 1 else t = s) ∧
     (∀ t, t = s.eccRespond (.bestEffort k pos) → if pos < (s.port k.val).be.length then
       (t.port k.val).be = (s.port k.val).be.eraseIdx pos ∧ t.rd Reg.FLT_ECC_DROP = satAdd (s.rd Reg.FLT_ECC_DROP) 1 else t = s) ∧
     (∀ t, t = s.eccRespond (.calendar k pos) → if (s.cal k.val).frames.any (fun a => a.f.id == pos) = true then
       (∀ a ∈ (t.cal k.val).frames, a.f.id ≠ pos) ∧ t.rd Reg.FLT_ECC_DROP = satAdd (s.rd Reg.FLT_ECC_DROP) 1 else True)) ∧
  (∀ (s : State) (k : Fin 32) (c : Fin 16) (e : Fin 8) (q : Fin 5) (h : Fin 19) (i : Fin 256),
     s.eccRespond (.cluster k) = s.retireCluster k.val ∧ s.eccRespond (.cellUcode k) = s.retireCluster k.val ∧
     s.eccRespond (.cell k c) = s.retireCell k.val c.val ∧ s.eccRespond (.keySlot i) = s.slotWipe i.val ∧
     s.eccRespond (.pkeUcode e) = (s.pkeRetire e.val).jobsEnded ∧
     (∀ t, t = s.eccRespond (.operand e) → match (s.eng e.val).run with
       | none => t = s
       | some r => t.eng e.val = { s.eng e.val with run := some { r with eccBad := true } }) ∧
     s.eccRespond (.coreMem q) = (if (s.core q.val).mode = .running then s.coreRestart q.val else s) ∧
     (∀ t, t = s.eccRespond (.image q) → (t.core q.val).mode = .failed) ∧
     ∀ t, t = s.eccRespond (.mailbox h) → ∀ x, x = 2 * h.val ∨ x = 2 * h.val + 1 →
       (t.chEnd x).up = false ∧ (t.chEnd x).inq = [] ∧ bitAt (t.chEnd x).db 31 = true ∧ (t.chEnd x).lastTx = .aborted) ∧
  (∀ (k : Fin 32) (c : Fin 16) s, Does (.cellHang k c) s fun t => match (s.clu k.val).busy c.val with
     | none => t = s
     | some b =>
       if b.committed = true ∨ b.job = .expired then t = s
       else t.time = (s.advTo (b.freeAt + 64 * cclkTicks)).time ∧ t.evSet 147 = true ∧
         if (s.clu k.val).cellsOn.testBit c.val = true then
           (t.clu k.val).cellsOn = (s.clu k.val).cellsOn - 2 ^ c.val ∧ (t.clu k.val).busy c.val = none ∧ t.evSet 139 = true ∧
           ((s.clu k.val).cellsOn = 2 ^ c.val → (t.clu k.val).retired = true)
         else t.cls = s.cls) ∧
  (∀ (k : Fin 32) s x, x = s.clu k.val → Does (.clusterStall k) s fun t =>
     if x.retired = true ∨ x.queue.any (·.eligible) = false ∨ (List.range 16).any (s.cellOn k.val) = false then t = s
     else
       t.time = (s.advTo (usTicks * ceilDiv (x.lastDispatch + usTicks * fld (s.ac Reg.FLT_POLICY) 0 8) usTicks)).time ∧
       (t.clu k.val).retired = true ∧ (t.clu k.val).queue = [] ∧ (t.clu k.val).prio = [] ∧ (t.clu k.val).returning = [] ∧
       bitAt (t.rd Reg.FLT_RETIRED_CLU) k.val = true ∧ t.cls.rebinds = s.cls.rebinds ++ [⟨k.val, t.time.now⟩] ∧ t.evSet 148 = true) ∧
  (∀ (k : Fin 32) s, Does (.partitionRebindDone k) s fun t => match s.cls.rebinds.find? (fun r => r.cluster == k.val) with
     | none => t = s
     | some r => t.time = (s.advTo (r.since + (1000 + 16384 + 8) * cclkTicks)).time ∧ t.evSet 134 = true ∧ t.cls = { s.cls with
         homeMap := match s.successor k.val with
           | some j => s.cls.homeMap.map (fun x => if x = k.val then j else x)
           | none => s.cls.homeMap
         rebinds := s.cls.rebinds.filter (fun q => q.cluster != k.val) })

/-- While the core domain is up and the master is let in, an access of a width, alignment or set of byte enables that R8 does
not allow is discarded or reads zero with EV000, and any other is performed, a 64-bit one as two 32-bit ones, lower address
first. A 32-bit write of an unmapped address is discarded with EV000, and of a secure register by a non-secure master with
EV192; of an ordinary register it puts the RWS bits into the shadow set and the RW bits into the register and changes no
other register, unless its value is refused or its RWS bits are locked, which leaves the shadow set alone. A 32-bit read of
an unmapped address is zero with EV000, of a secure register by a non-secure master zero with EV192, and of an ordinary
register its value, which clears it where it clears on read. A master that is not let in is answered Unsupported Request, or
zeros over SPI, with EV000 but for PF1. What registers with an effect of their own do is stated with the commands they carry.
-/
def Obligations.BusAccesses : Prop :=
  (∀ m addr width be data s, Does (.registerWrite m addr width be data) s fun t =>
     let a := addr.toNat
     if s.coreUp = false then t = s
     else if s.gateShut m a = true then t.bus = { data := [], unsupported := m != .spi } ∧
       if m = .pf1 then t = { s with bus := t.bus } else EvOnly { s with bus := t.bus } t ∧ t.evSet 0 = true
     else if accessOk a width = false ∨ enablesOk width be = false then EvOnly { s with bus := {} } t ∧ t.evSet 0 = true
     else
       let u := ({ s with bus := {} } : State).writeWord m a (data.truncate 32)
       t = if width = 64 then u.writeWord m (a + 4) (BitVec.ofNat 32 (data.toNat / 2 ^ 32)) else u) ∧
  (∀ (s : State) m a v t, t = s.writeWord m a v → match resolve blocks a with
     | .unmapped => EvOnly s t ∧ t.evSet 0 = true
     | .hole => t = s.msixWrite m a v
     | .reg row blk inst idx =>
       if m.secure = false ∧ secureWrite blk row (idx.headD 0) (s.rd a) v = true then EvOnly s t ∧ t.evSet 192 = true
       else row.special = .plain →
         if (row.rws ≠ 0 ∧ s.cfg.locked = true) ∨ s.valueBad row inst idx v = true then t.shadow = s.shadow ∧ t.active = s.active
         else
           let k := if row.banked = true then bankKey m a else a
           t.shadow = (if row.rws = 0 then s.shadow else (s.wrSh a (v &&& row.rwsAt (ruleIdx inst idx))).shadow) ∧ t.active = s.active ∧
           (row.w1c = 0 → t = { s with live := t.live, shadow := t.shadow } ∧ (∀ b, (b ≠ k ∨ row.rw = 0) → t.rd b = s.rd b) ∧
             (row.rw ≠ 0 → t.rd k = (s.rd k &&& ~~~ BitVec.ofNat 32 row.rw) ||| (v &&& BitVec.ofNat 32 row.rw)))) ∧
  (∀ m addr width s, Does (.badAccessRead m addr width) s fun t =>
     let a := addr.toNat
     let zeros := List.replicate (ceilDiv width 32) (0 : Word)
     if s.coreUp = false then t = s
     else if s.gateShut m a = true then t.bus = { data := if m = .spi then zeros else [], unsupported := m != .spi } ∧
       if m = .pf1 then t = { s with bus := t.bus } else EvOnly { s with bus := t.bus } t ∧ t.evSet 0 = true
     else if accessOk a width = false then
       EvOnly { s with bus := t.bus } t ∧ t.evSet 0 = true ∧ t.bus = { data := zeros, unsupported := false }
     else
       let p := s.readWord m a
       let q := p.2.readWord m (a + 4)
       t = if width = 64 then { q.2 with bus := { data := [p.1, q.1], unsupported := false } }
         else { p.2 with bus := { data := [p.1], unsupported := false } }) ∧
  (∀ (s : State) m a v t, (v, t) = s.readWord m a → match resolve blocks a with
     | .unmapped => v = 0 ∧ EvOnly s t ∧ t.evSet 0 = true
     | .hole => v = s.msixRead m a ∧ t = s
     | .reg row blk inst idx =>
       if m.secure = false ∧ secureRead blk row (idx.headD 0) (s.rd a) = true then v = 0 ∧ EvOnly s t ∧ t.evSet 192 = true
       else row.special = .plain → v = s.regValue m blk row inst idx a ∧
         (s.readsOpen blk.base row.off (idx.headD 0) = false → if row.rc = true then t = s.wr a 0 else t = s))
end

