-- ==== Sys2Proof/Laws/Table.lean ====
section
/-!
SUPPORT. The laws of an indexed table: what a read gives after a write, and that every operation keeps the canonical form.
-/

namespace Sys2Proof.Machine

variable {α : Type}

@[simp] theorem tget_nil (d : Nat → α) (k : Nat) : tget d [] k = d k := rfl

/-- Removing an index leaves there what an unlisted index holds. -/
@[simp] theorem tget_tdel_same (d : Nat → α) (t : Tab α) (k : Nat) : tget d (tdel t k) k = d k := by
  induction t with
  | nil => rfl
  | cons p t ih => by_cases h : p.1 = k <;> simp [tdel, tget, h, ih]

/-- Removing an index leaves every other entry. -/
theorem tget_tdel_ne (d : Nat → α) (t : Tab α) {j k : Nat} (h : j ≠ k) : tget d (tdel t k) j = tget d t j := by
  induction t with
  | nil => rfl
  | cons p t ih =>
    by_cases hk : p.1 = k
    · have hj : p.1 ≠ j := fun e => h (e ▸ hk)
      simp [tdel, tget, hk, ih]
      intro e; exact absurd (hk.trans e) hj
    · simp only [tdel, hk, if_false, tget, ih]

/-- Placing an entry. -/
@[simp] theorem tget_tput_same (d : Nat → α) (t : Tab α) (k : Nat) (v : α) : tget d (tput t k v) k = v := by
  induction t with
  | nil => simp [tput, tget]
  | cons p t ih =>
    by_cases h : k < p.1
    · simp [tput, tget, h]
    · by_cases e : p.1 = k <;> simp [tput, tget, h, e, ih]

/-- Placing an entry leaves every other entry. -/
theorem tget_tput_ne (d : Nat → α) (t : Tab α) {j k : Nat} (v : α) (h : j ≠ k) :
    tget d (tput t k v) j = tget d t j := by
  induction t with
  | nil => simp [tput, tget, Ne.symm h]
  | cons p t ih =>
    by_cases hlt : k < p.1
    · simp [tput, tget, hlt, Ne.symm h]
    · by_cases e : p.1 = k
      · simp [tput, tget, e, Ne.symm h]
      · simp only [tput, hlt, e, if_false, tget, ih]

variable [DecidableEq α]

/-- A write is read back. -/
@[simp] theorem tget_tset_same (d : Nat → α) (t : Tab α) (k : Nat) (v : α) : tget d (tset d t k v) k = v := by
  unfold tset; split
  · rename_i h; simp [h]
  · simp

/-- A write leaves every other entry. -/
theorem tget_tset_ne (d : Nat → α) (t : Tab α) {j k : Nat} (v : α) (h : j ≠ k) :
    tget d (tset d t k v) j = tget d t j := by
  unfold tset; split
  · exact tget_tdel_ne d t h
  · exact tget_tput_ne d t v h

/-- A change is read back. -/
@[simp] theorem tget_tupd_same (d : Nat → α) (t : Tab α) (k : Nat) (f : α → α) :
    tget d (tupd d t k f) k = f (tget d t k) := tget_tset_same ..

/-- A change leaves every other entry. -/
theorem tget_tupd_ne (d : Nat → α) (t : Tab α) {j k : Nat} (f : α → α) (h : j ≠ k) :
    tget d (tupd d t k f) j = tget d t j := tget_tset_ne _ _ _ h

omit [DecidableEq α] in
/-- Rising indices, said entry by entry. -/
theorem tsorted_iff (t : Tab α) : tsorted t = true ↔ t.Pairwise (fun a b => a.1 < b.1) := by
  induction t with
  | nil => simp [tsorted]
  | cons p t ih =>
    cases t with
    | nil => simp [tsorted]
    | cons q t =>
      have ih' := ih
      simp only [tsorted, Bool.and_eq_true, decide_eq_true_eq, ih, List.pairwise_cons]
      constructor
      · rintro ⟨h, h2, h3⟩
        refine ⟨?_, h2, h3⟩
        intro a ha
        rcases List.mem_cons.mp ha with rfl | ha
        · exact h
        · exact Nat.lt_trans h (h2 a ha)
      · rintro ⟨h, h2, h3⟩
        exact ⟨h q (by simp), h2, h3⟩

/-- The canonical form, said entry by entry. -/
theorem twf_iff (d : Nat → α) (t : Tab α) :
    twf d t = true ↔ t.Pairwise (fun a b => a.1 < b.1) ∧ ∀ p ∈ t, p.2 ≠ d p.1 := by
  simp [twf, tsorted_iff, List.all_eq_true]

/-- The empty table has the canonical form. -/
@[simp] theorem twf_nil (d : Nat → α) : twf d [] = true := by simp [twf_iff]

/-- Choosing entries keeps the canonical form. -/
theorem twf_filter (d : Nat → α) (t : Tab α) (f : Nat × α → Bool) (h : twf d t = true) :
    twf d (t.filter f) = true := by
  rw [twf_iff] at *
  exact ⟨h.1.filter _, fun p hp => h.2 p ((List.mem_filter.mp hp).1)⟩

omit [DecidableEq α] in
theorem tdel_eq_filter (t : Tab α) (k : Nat) : tdel t k = t.filter (fun p => decide (p.1 ≠ k)) := by
  induction t with
  | nil => rfl
  | cons p t ih => by_cases h : p.1 = k <;> simp [tdel, h, ih]

omit [DecidableEq α] in
theorem mem_tput {t : Tab α} {k : Nat} {v : α} {p : Nat × α} (h : p ∈ tput t k v) : p = (k, v) ∨ p ∈ t := by
  induction t with
  | nil => simpa [tput] using h
  | cons q t ih =>
    simp only [tput] at h
    split at h
    · rcases List.mem_cons.mp h with h | h
      · exact .inl h
      · exact .inr h
    · split at h
      · rcases List.mem_cons.mp h with h | h
        · exact .inl h
        · exact .inr (List.mem_cons_of_mem _ h)
      · rcases List.mem_cons.mp h with h | h
        · exact .inr (by simp [h])
        · rcases ih h with h | h
          · exact .inl h
          · exact .inr (List.mem_cons_of_mem _ h)

omit [DecidableEq α] in
theorem pairwise_tput {t : Tab α} (k : Nat) (v : α) (h : t.Pairwise (fun a b => a.1 < b.1)) :
    (tput t k v).Pairwise (fun a b => a.1 < b.1) := by
  induction t with
  | nil => simp [tput]
  | cons q t ih =>
    rw [List.pairwise_cons] at h
    simp only [tput]
    split
    · rename_i hk
      refine List.pairwise_cons.mpr ⟨?_, List.pairwise_cons.mpr h⟩
      intro a ha
      rcases List.mem_cons.mp ha with rfl | ha
      · exact hk
      · exact Nat.lt_trans hk (h.1 a ha)
    · split
      · rename_i hk
        exact List.pairwise_cons.mpr ⟨fun a ha => hk ▸ h.1 a ha, h.2⟩
      · rename_i h1 h2
        refine List.pairwise_cons.mpr ⟨?_, ih h.2⟩
        intro a ha
        rcases mem_tput ha with rfl | ha
        · show q.1 < k; omega
        · exact h.1 a ha

/-- A write keeps the canonical form. -/
theorem twf_tset (d : Nat → α) (t : Tab α) (k : Nat) (v : α) (h : twf d t = true) :
    twf d (tset d t k v) = true := by
  unfold tset; split
  · rw [tdel_eq_filter]; exact twf_filter d t _ h
  · rename_i hv
    rw [twf_iff] at *
    refine ⟨pairwise_tput k v h.1, fun p hp => ?_⟩
    rcases mem_tput hp with rfl | hp
    · exact hv
    · exact h.2 p hp

/-- A change keeps the canonical form. -/
theorem twf_tupd (d : Nat → α) (t : Tab α) (k : Nat) (f : α → α) (h : twf d t = true) :
    twf d (tupd d t k f) = true := twf_tset _ _ _ _ h

end Sys2Proof.Machine
end

