-- ==== Sys2Proof/Laws/Keeps.lean ====
section
/-!
SUPPORT. The relations `Touch` and `Keeps` between the states before and after an operation, and the steps of which the proofs
about each operation are made. A set of parts is written as a number, with the bit `p.num` for each part `p` of it.
-/

namespace Sys2Proof.Machine

/-- The number of a part in a set. -/
def Piece.num : Piece → Nat
  | .live => 0
  | .shadow => 1
  | .active => 2
  | .time => 3
  | .vbat => 4
  | .otp => 5
  | .boot => 6
  | .serve => 7
  | .cfg => 8
  | .evt => 9
  | .mbx => 10
  | .bus => 11
  | .ports => 12
  | .cals => 13
  | .rwl => 14
  | .cls => 15
  | .clus => 16
  | .clt => 17
  | .srv => 18
  | .rt => 19
  | .ptp => 20
  | .pke => 21
  | .ref => 22
  | .clk => 23
  | .gns => 24
  | .tim => 25
  | .evl => 26
  | .draws => 27
  | .frees => 28
  | .outbox => 29
  | .pending => 30

/-- Only the parts of the set `w` change, and the live registers keep their canonical form. -/
structure Touch (w : Nat) (s t : State) : Prop where
  same : ∀ p : Piece, w.testBit p.num = false → p.same s t
  canon : twf liveDef s.live = true → twf liveDef t.live = true

theorem sub_trans {a b w : Nat} (h : a ||| b = b) (k : b ||| w = w) : a ||| w = w := by
  rw [← k, ← Nat.or_assoc, h]

/-- A part of a set within `w` is a part of `w`. -/
theorem sub_bit {b w i : Nat} (h : b ||| w = w) (k : b.testBit i = true) (n : w.testBit i = false) : False := by
  rw [← h, Nat.testBit_or, k] at n; exact absurd n (by simp)

theorem Piece.same_refl (p : Piece) (s : State) : p.same s s := by cases p <;> rfl

theorem Piece.same_trans {p : Piece} {s t u : State} (h : p.same s t) (k : p.same t u) : p.same s u := by
  cases p <;> exact Eq.trans k h

theorem Touch.refl (w : Nat) (s : State) : Touch w s s := ⟨fun p _ => p.same_refl s, id⟩

theorem Touch.trans {w : Nat} {s t u : State} (h : Touch w s t) (k : Touch w t u) : Touch w s u :=
  ⟨fun p n => Piece.same_trans (h.same p n) (k.same p n), fun c => k.canon (h.canon c)⟩

theorem Touch.mono {a w : Nat} {s t : State} (h : Touch a s t) (k : a ||| w = w) : Touch w s t :=
  ⟨fun p n => h.same p (by rw [← k, Nat.testBit_or] at n; simpa using (Bool.or_eq_false_iff.mp n).1), h.canon⟩

/-- An update of other fields. -/
theorem Touch.upd {w : Nat} {s e t : State} (h : Touch w s e) (k : ∀ p : Piece, w.testBit p.num = false → p.same e t)
    (l : t.live = e.live) : Touch w s t :=
  h.trans ⟨k, fun c => l ▸ c⟩

theorem touch_ite {w : Nat} {s a b : State} {c : Prop} [Decidable c] (h : Touch w s a) (k : Touch w s b) : Touch w s (if c then a else b) := by
  split <;> assumption

/-- A choice between a state and what an operation makes of it. -/
theorem touch_ite_then {w : Nat} {s a b : State} {c : Prop} [Decidable c] (h : Touch w b a) (k : Touch w s b) : Touch w s (if c then a else b) := by
  split
  · exact k.trans h
  · exact k

/-- A choice between what an operation makes of a state and the state. -/
theorem touch_ite_else {w : Nat} {s a b : State} {c : Prop} [Decidable c] (h : Touch w a b) (k : Touch w s a) : Touch w s (if c then a else b) := by
  split
  · exact k
  · exact k.trans h

/-- A state that an operation gives beside a value. -/
theorem touch_snd {w : Nat} {α : Type} {s t : State} {p : α × State} {a : α} (e : p = (a, t)) (h : Touch w s p.2) : Touch w s t := by
  rw [e] at h; exact h

theorem touch_foldl {w : Nat} {α : Type} {f : State → α → State} (l : List α) (s₀ s : State) (h : ∀ s x, Touch w s (f s x)) (h0 : Touch w s₀ s) :
    Touch w s₀ (l.foldl f s) := by
  induction l generalizing s with
  | nil => exact h0
  | cons a l ih => exact ih (f s a) (h0.trans (h s a))

theorem touch_foldlP {w : Nat} {α β : Type} {f : β × State → α → β × State} (l : List α) (s₀ : State) (p : β × State)
    (h : ∀ p x, Touch w p.2 (f p x).2) (h0 : Touch w s₀ p.2) : Touch w s₀ (l.foldl f p).2 := by
  induction l generalizing p with
  | nil => exact h0
  | cons a l ih => exact ih (f p a) (h0.trans (h p a))

/-- The relation of an outcome that is a next state. -/
def TouchR (w : Nat) (s : State) (r : Res) : Prop := ∀ t, r = .next t → Touch w s t

theorem touchR_next {w : Nat} {s t : State} (h : Touch w s t) : TouchR w s (.next t) := by
  intro u e; cases e; exact h

theorem touchR_ite {w : Nat} {s : State} {a b : Res} {c : Prop} [Decidable c] (h : TouchR w s a) (k : TouchR w s b) : TouchR w s (if c then a else b) := by
  split <;> assumption

theorem OtpGrows.refl (a : Otp) : OtpGrows a a := ⟨rfl, rfl, fun _ h => h, Nat.le_refl _, Nat.le_refl _⟩

theorem OtpGrows.trans {a b c : Otp} (h : OtpGrows a b) (k : OtpGrows b c) : OtpGrows a c :=
  ⟨k.hashes.trans h.hashes, k.duk.trans h.duk, fun i x => k.revoked i (h.revoked i x),
    Nat.le_trans h.secVer k.secVer, Nat.le_trans h.efesk k.efesk⟩

theorem Keeps.refl (s : State) : Keeps s s := ⟨rfl, .refl _, id⟩

theorem Keeps.trans {s t u : State} (h : Keeps s t) (k : Keeps t u) : Keeps s u :=
  ⟨k.pending.trans h.pending, h.otp.trans k.otp, fun x => k.canon (h.canon x)⟩

/-- The parts that `Keeps` speaks of, but for the live registers. -/
def coreParts : Nat := 1073741862

/-- An operation that touches neither OTP, the configuration sets nor the queue, after others. -/
theorem Touch.after {w : Nat} {s t u : State} (h : Keeps s t) (k : Touch w t u) (n : w &&& coreParts = 0 := by decide) : Keeps s u := by
  have z (p : Piece) (c : coreParts.testBit p.num = true) : p.same t u := by
    refine k.same p ?_
    have := congrArg (fun m => m.testBit p.num) n
    simpa [Nat.testBit_and, c] using this
  refine h.trans ⟨z .pending rfl, (z .otp rfl : u.otp = t.otp) ▸ .refl _, fun c => ?_⟩
  have e1 : u.shadow = t.shadow := z .shadow rfl
  have e2 : u.active = t.active := z .active rfl
  simp only [State.canon, e1, e2, Bool.and_eq_true] at *
  exact ⟨⟨k.canon c.1.1, c.1.2⟩, c.2⟩

/-- An update of other fields. -/
theorem Keeps.upd {s e t : State} (h : Keeps s e) (h1 : t.live = e.live) (h2 : t.shadow = e.shadow)
    (h3 : t.active = e.active) (h4 : t.pending = e.pending) (h5 : t.otp = e.otp) : Keeps s t := by
  refine h.trans ⟨h4, h5 ▸ .refl _, fun c => ?_⟩
  simpa [State.canon, h1, h2, h3] using c

/-- An update of other fields, as Lean writes a state out. -/
theorem Keeps.fields {s e : State} {x3 : TimeSt} {x4 : Backup} {x6 : BootSt} {x7 : ServeSt} {x8 : CfgSt} {x9 : EvtSt} {x10 : MbxSt} {x11 : BusSt} {x12 : Tab PortSt} {x13 : Tab CalSt} {x14 : List RwlPend} {x15 : ClsSt} {x16 : Tab ClusterSt} {x17 : CltSt} {x18 : SrvSt} {x19 : RtSt} {x20 : PtpSt} {x21 : PkeSt} {x22 : RefSt} {x23 : ClkSt} {x24 : GnsSt} {x25 : TimUnit} {x26 : EvlSt} {x27 : Nat} {x28 : Nat} {x29 : List Out}
    (h : Keeps s e) :
    Keeps s (State.mk e.live e.shadow e.active x3 x4 e.otp x6 x7 x8 x9 x10 x11 x12 x13 x14 x15 x16 x17 x18 x19 x20 x21 x22 x23 x24 x25 x26 x27 x28 x29 e.pending) := h.upd rfl rfl rfl rfl rfl

theorem keeps_ite {s a b : State} {c : Prop} [Decidable c] (h : Keeps s a) (k : Keeps s b) : Keeps s (if c then a else b) := by
  split <;> assumption

/-- A choice between a state and what an operation makes of it. -/
theorem keeps_ite_then {s a b : State} {c : Prop} [Decidable c] (h : Keeps b a) (k : Keeps s b) : Keeps s (if c then a else b) := by
  split
  · exact k.trans h
  · exact k

/-- A choice between what an operation makes of a state and the state. -/
theorem keeps_ite_else {s a b : State} {c : Prop} [Decidable c] (h : Keeps a b) (k : Keeps s a) : Keeps s (if c then a else b) := by
  split
  · exact k
  · exact k.trans h

/-- A state that an operation gives beside a value. -/
theorem keeps_snd {α : Type} {s t : State} {p : α × State} {a : α} (e : p = (a, t)) (h : Keeps s p.2) : Keeps s t := by
  rw [e] at h; exact h

theorem keeps_foldl {α : Type} {f : State → α → State} (l : List α) (s₀ s : State) (h : ∀ s x, Keeps s (f s x)) (h0 : Keeps s₀ s) :
    Keeps s₀ (l.foldl f s) := by
  induction l generalizing s with
  | nil => exact h0
  | cons a l ih => exact ih (f s a) (h0.trans (h s a))

theorem keeps_foldlP {α β : Type} {f : β × State → α → β × State} (l : List α) (s₀ : State) (p : β × State)
    (h : ∀ p x, Keeps p.2 (f p x).2) (h0 : Keeps s₀ p.2) : Keeps s₀ (l.foldl f p).2 := by
  induction l generalizing p with
  | nil => exact h0
  | cons a l ih => exact ih (f p a) (h0.trans (h p a))

/-- The relation of an outcome that is a next state. -/
def KeepsR (s : State) (r : Res) : Prop := ∀ t, r = .next t → Keeps s t

theorem keepsR_next {s t : State} (h : Keeps s t) : KeepsR s (.next t) := by
  intro u e; cases e; exact h

theorem keepsR_ite {s : State} {a b : Res} {c : Prop} [Decidable c] (h : KeepsR s a) (k : KeepsR s b) : KeepsR s (if c then a else b) := by
  split <;> assumption

theorem TouchR.after {w : Nat} {s t : State} {r : Res} (h : Keeps s t) (k : TouchR w t r) (n : w &&& coreParts = 0 := by decide) : KeepsR s r :=
  fun u e => Touch.after h (k u e) n

variable {s₀ : State}

section Updates

variable {w : Nat} {e : State}

theorem touch_shadow (hw : 2 ||| w = w) {x0} (h : Touch w s₀ e) : Touch w s₀ { e with shadow := x0 } :=
  h.upd (fun p n => by cases p <;> first | exact (sub_bit hw rfl n).elim | rfl) rfl

theorem touch_time (hw : 8 ||| w = w) {x0} (h : Touch w s₀ e) : Touch w s₀ { e with time := x0 } :=
  h.upd (fun p n => by cases p <;> first | exact (sub_bit hw rfl n).elim | rfl) rfl

theorem touch_vbat (hw : 16 ||| w = w) {x0} (h : Touch w s₀ e) : Touch w s₀ { e with vbat := x0 } :=
  h.upd (fun p n => by cases p <;> first | exact (sub_bit hw rfl n).elim | rfl) rfl

theorem touch_otp (hw : 32 ||| w = w) {x0} (h : Touch w s₀ e) : Touch w s₀ { e with otp := x0 } :=
  h.upd (fun p n => by cases p <;> first | exact (sub_bit hw rfl n).elim | rfl) rfl

theorem touch_boot (hw : 64 ||| w = w) {x0} (h : Touch w s₀ e) : Touch w s₀ { e with boot := x0 } :=
  h.upd (fun p n => by cases p <;> first | exact (sub_bit hw rfl n).elim | rfl) rfl

theorem touch_serve (hw : 128 ||| w = w) {x0} (h : Touch w s₀ e) : Touch w s₀ { e with serve := x0 } :=
  h.upd (fun p n => by cases p <;> first | exact (sub_bit hw rfl n).elim | rfl) rfl

theorem touch_cfg (hw : 256 ||| w = w) {x0} (h : Touch w s₀ e) : Touch w s₀ { e with cfg := x0 } :=
  h.upd (fun p n => by cases p <;> first | exact (sub_bit hw rfl n).elim | rfl) rfl

theorem touch_evt (hw : 512 ||| w = w) {x0} (h : Touch w s₀ e) : Touch w s₀ { e with evt := x0 } :=
  h.upd (fun p n => by cases p <;> first | exact (sub_bit hw rfl n).elim | rfl) rfl

theorem touch_mbx (hw : 1024 ||| w = w) {x0} (h : Touch w s₀ e) : Touch w s₀ { e with mbx := x0 } :=
  h.upd (fun p n => by cases p <;> first | exact (sub_bit hw rfl n).elim | rfl) rfl

theorem touch_bus (hw : 2048 ||| w = w) {x0} (h : Touch w s₀ e) : Touch w s₀ { e with bus := x0 } :=
  h.upd (fun p n => by cases p <;> first | exact (sub_bit hw rfl n).elim | rfl) rfl

theorem touch_ports (hw : 4096 ||| w = w) {x0} (h : Touch w s₀ e) : Touch w s₀ { e with ports := x0 } :=
  h.upd (fun p n => by cases p <;> first | exact (sub_bit hw rfl n).elim | rfl) rfl

theorem touch_cals (hw : 8192 ||| w = w) {x0} (h : Touch w s₀ e) : Touch w s₀ { e with cals := x0 } :=
  h.upd (fun p n => by cases p <;> first | exact (sub_bit hw rfl n).elim | rfl) rfl

theorem touch_rwl (hw : 16384 ||| w = w) {x0} (h : Touch w s₀ e) : Touch w s₀ { e with rwl := x0 } :=
  h.upd (fun p n => by cases p <;> first | exact (sub_bit hw rfl n).elim | rfl) rfl

theorem touch_cls (hw : 32768 ||| w = w) {x0} (h : Touch w s₀ e) : Touch w s₀ { e with cls := x0 } :=
  h.upd (fun p n => by cases p <;> first | exact (sub_bit hw rfl n).elim | rfl) rfl

theorem touch_clus (hw : 65536 ||| w = w) {x0} (h : Touch w s₀ e) : Touch w s₀ { e with clus := x0 } :=
  h.upd (fun p n => by cases p <;> first | exact (sub_bit hw rfl n).elim | rfl) rfl

theorem touch_clt (hw : 131072 ||| w = w) {x0} (h : Touch w s₀ e) : Touch w s₀ { e with clt := x0 } :=
  h.upd (fun p n => by cases p <;> first | exact (sub_bit hw rfl n).elim | rfl) rfl

theorem touch_srv (hw : 262144 ||| w = w) {x0} (h : Touch w s₀ e) : Touch w s₀ { e with srv := x0 } :=
  h.upd (fun p n => by cases p <;> first | exact (sub_bit hw rfl n).elim | rfl) rfl

theorem touch_rt (hw : 524288 ||| w = w) {x0} (h : Touch w s₀ e) : Touch w s₀ { e with rt := x0 } :=
  h.upd (fun p n => by cases p <;> first | exact (sub_bit hw rfl n).elim | rfl) rfl

theorem touch_ptp (hw : 1048576 ||| w = w) {x0} (h : Touch w s₀ e) : Touch w s₀ { e with ptp := x0 } :=
  h.upd (fun p n => by cases p <;> first | exact (sub_bit hw rfl n).elim | rfl) rfl

theorem touch_pke (hw : 2097152 ||| w = w) {x0} (h : Touch w s₀ e) : Touch w s₀ { e with pke := x0 } :=
  h.upd (fun p n => by cases p <;> first | exact (sub_bit hw rfl n).elim | rfl) rfl

theorem touch_ref (hw : 4194304 ||| w = w) {x0} (h : Touch w s₀ e) : Touch w s₀ { e with ref := x0 } :=
  h.upd (fun p n => by cases p <;> first | exact (sub_bit hw rfl n).elim | rfl) rfl

theorem touch_clk (hw : 8388608 ||| w = w) {x0} (h : Touch w s₀ e) : Touch w s₀ { e with clk := x0 } :=
  h.upd (fun p n => by cases p <;> first | exact (sub_bit hw rfl n).elim | rfl) rfl

theorem touch_gns (hw : 16777216 ||| w = w) {x0} (h : Touch w s₀ e) : Touch w s₀ { e with gns := x0 } :=
  h.upd (fun p n => by cases p <;> first | exact (sub_bit hw rfl n).elim | rfl) rfl

theorem touch_tim (hw : 33554432 ||| w = w) {x0} (h : Touch w s₀ e) : Touch w s₀ { e with tim := x0 } :=
  h.upd (fun p n => by cases p <;> first | exact (sub_bit hw rfl n).elim | rfl) rfl

theorem touch_evl (hw : 67108864 ||| w = w) {x0} (h : Touch w s₀ e) : Touch w s₀ { e with evl := x0 } :=
  h.upd (fun p n => by cases p <;> first | exact (sub_bit hw rfl n).elim | rfl) rfl

theorem touch_draws (hw : 134217728 ||| w = w) {x0} (h : Touch w s₀ e) : Touch w s₀ { e with draws := x0 } :=
  h.upd (fun p n => by cases p <;> first | exact (sub_bit hw rfl n).elim | rfl) rfl

theorem touch_frees (hw : 268435456 ||| w = w) {x0} (h : Touch w s₀ e) : Touch w s₀ { e with frees := x0 } :=
  h.upd (fun p n => by cases p <;> first | exact (sub_bit hw rfl n).elim | rfl) rfl

theorem touch_outbox (hw : 536870912 ||| w = w) {x0} (h : Touch w s₀ e) : Touch w s₀ { e with outbox := x0 } :=
  h.upd (fun p n => by cases p <;> first | exact (sub_bit hw rfl n).elim | rfl) rfl

theorem touch_active_cfg (hw : 260 ||| w = w) {x0 x1} (h : Touch w s₀ e) : Touch w s₀ { e with active := x0, cfg := x1 } :=
  h.upd (fun p n => by cases p <;> first | exact (sub_bit hw rfl n).elim | rfl) rfl

theorem touch_time_boot (hw : 72 ||| w = w) {x0 x1} (h : Touch w s₀ e) : Touch w s₀ { e with time := x0, boot := x1 } :=
  h.upd (fun p n => by cases p <;> first | exact (sub_bit hw rfl n).elim | rfl) rfl

theorem touch_vbat_serve (hw : 144 ||| w = w) {x0 x1} (h : Touch w s₀ e) : Touch w s₀ { e with vbat := x0, serve := x1 } :=
  h.upd (fun p n => by cases p <;> first | exact (sub_bit hw rfl n).elim | rfl) rfl

theorem touch_vbat_srv (hw : 262160 ||| w = w) {x0 x1} (h : Touch w s₀ e) : Touch w s₀ { e with vbat := x0, srv := x1 } :=
  h.upd (fun p n => by cases p <;> first | exact (sub_bit hw rfl n).elim | rfl) rfl

theorem touch_boot_cfg (hw : 320 ||| w = w) {x0 x1} (h : Touch w s₀ e) : Touch w s₀ { e with boot := x0, cfg := x1 } :=
  h.upd (fun p n => by cases p <;> first | exact (sub_bit hw rfl n).elim | rfl) rfl

theorem touch_boot_srv (hw : 262208 ||| w = w) {x0 x1} (h : Touch w s₀ e) : Touch w s₀ { e with boot := x0, srv := x1 } :=
  h.upd (fun p n => by cases p <;> first | exact (sub_bit hw rfl n).elim | rfl) rfl

theorem touch_cls_clt (hw : 163840 ||| w = w) {x0 x1} (h : Touch w s₀ e) : Touch w s₀ { e with cls := x0, clt := x1 } :=
  h.upd (fun p n => by cases p <;> first | exact (sub_bit hw rfl n).elim | rfl) rfl

theorem touch_vbat_otp_boot_serve (hw : 240 ||| w = w) {x0 x1 x2 x3} (h : Touch w s₀ e) : Touch w s₀ { e with vbat := x0, otp := x1, boot := x2, serve := x3 } :=
  h.upd (fun p n => by cases p <;> first | exact (sub_bit hw rfl n).elim | rfl) rfl

theorem touch_cfg_cls_srv_rt_ptp_clk (hw : 10256640 ||| w = w) {x0 x1 x2 x3 x4 x5} (h : Touch w s₀ e) : Touch w s₀ { e with cfg := x0, cls := x1, srv := x2, rt := x3, ptp := x4, clk := x5 } :=
  h.upd (fun p n => by cases p <;> first | exact (sub_bit hw rfl n).elim | rfl) rfl

theorem touch_srv_clk (hw : 8650752 ||| w = w) {x0 x1} (h : Touch w s₀ e) : Touch w s₀ { e with srv := x0, clk := x1 } :=
  h.upd (fun p n => by cases p <;> first | exact (sub_bit hw rfl n).elim | rfl) rfl

end Updates

theorem State.wr_touch {w : Nat} (hw : 1 ||| w = w) (s : State) (a : Nat) (v : Word) (h : Touch w s₀ s) : Touch w s₀ (s.wr a v) :=
  h.trans ⟨fun p n => by cases p <;> first | rfl | exact (sub_bit hw rfl n).elim, fun c => twf_tset _ _ _ _ c⟩

theorem State.wrSh_touch {w : Nat} (hw : 2 ||| w = w) (s : State) (a : Nat) (v : Word) (h : Touch w s₀ s) : Touch w s₀ (s.wrSh a v) :=
  h.trans ⟨fun p n => by cases p <;> first | rfl | exact (sub_bit hw rfl n).elim, id⟩

theorem State.wrSh_keeps (s : State) (a : Nat) (v : Word) (h : Keeps s₀ s) : Keeps s₀ (s.wrSh a v) := by
  refine h.trans ⟨rfl, .refl _, fun c => ?_⟩
  simp only [State.canon, State.wrSh, Bool.and_eq_true] at *
  exact ⟨⟨c.1.1, twf_tset _ _ _ _ c.1.2⟩, c.2⟩

end Sys2Proof.Machine
end

