-- ==== Sys2Proof/Laws/Keeps/Ops.lean ====
section
/-!
SUPPORT. What each operation of Ops keeps.
-/

namespace Sys2Proof.Machine

variable {w : Nat} {s₀ : State}

theorem State.bump_touch (hw : 1 ||| w = w) : ∀ s a n, Touch w s₀ s → Touch w s₀ (State.bump s a n) := by
  intro s a n h; unfold State.bump; try dsimp only
  repeat' with_reducible first
    | exact h
    | exact Touch.refl _ _
    | refine State.wr_touch (sub_trans (by decide) hw) _ _ _ ?_

theorem State.keepMax_touch (hw : 1 ||| w = w) : ∀ s a n, Touch w s₀ s → Touch w s₀ (State.keepMax s a n) := by
  intro s a n h; unfold State.keepMax; try dsimp only
  repeat' with_reducible first
    | exact h
    | exact Touch.refl _ _
    | refine State.wr_touch (sub_trans (by decide) hw) _ _ _ ?_
    | (apply touch_ite_then; on_goal 1 => solve | (repeat' first | exact Touch.refl _ _ | refine State.wr_touch (sub_trans (by decide) hw) _ _ _ ?_))

theorem State.orBits_touch (hw : 1 ||| w = w) : ∀ s a v, Touch w s₀ s → Touch w s₀ (State.orBits s a v) := by
  intro s a v h; unfold State.orBits; try dsimp only
  repeat' with_reducible first
    | exact h
    | exact Touch.refl _ _
    | refine State.wr_touch (sub_trans (by decide) hw) _ _ _ ?_

theorem State.clrBits_touch (hw : 1 ||| w = w) : ∀ s a v, Touch w s₀ s → Touch w s₀ (State.clrBits s a v) := by
  intro s a v h; unfold State.clrBits; try dsimp only
  repeat' with_reducible first
    | exact h
    | exact Touch.refl _ _
    | refine State.wr_touch (sub_trans (by decide) hw) _ _ _ ?_

theorem State.wr64_touch (hw : 1 ||| w = w) : ∀ s a n, Touch w s₀ s → Touch w s₀ (State.wr64 s a n) := by
  intro s a n h; unfold State.wr64; try dsimp only
  repeat' with_reducible first
    | exact h
    | exact Touch.refl _ _
    | refine State.wr_touch (sub_trans (by decide) hw) _ _ _ ?_

theorem State.emit_touch (hw : 536870912 ||| w = w) : ∀ s o, Touch w s₀ s → Touch w s₀ (State.emit s o) := by
  intro s o h; unfold State.emit; try dsimp only
  repeat' with_reducible first
    | exact h
    | exact Touch.refl _ _
    | fail_if_no_progress refine touch_outbox (sub_trans (by decide) hw) ?_

theorem State.draw_touch (hw : 134217728 ||| w = w) : ∀ s, Touch w s₀ s → Touch w s₀ (State.draw s).2 := by
  intro s h; unfold State.draw; try dsimp only
  repeat' with_reducible first
    | exact h
    | exact Touch.refl _ _
    | fail_if_no_progress refine touch_draws (sub_trans (by decide) hw) ?_

theorem State.free_touch (hw : 268435456 ||| w = w) : ∀ s, Touch w s₀ s → Touch w s₀ (State.free s).2 := by
  intro s h; unfold State.free; try dsimp only
  repeat' with_reducible first
    | exact h
    | exact Touch.refl _ _
    | fail_if_no_progress refine touch_frees (sub_trans (by decide) hw) ?_

theorem State.cntPass_touch (hw : 512 ||| w = w) : ∀ s amt, Touch w s₀ s → Touch w s₀ (State.cntPass s amt) := by
  intro s amt h; unfold State.cntPass; try dsimp only
  repeat' with_reducible first
    | exact h
    | exact Touch.refl _ _
    | fail_if_no_progress refine touch_evt (sub_trans (by decide) hw) ?_
    | (apply touch_ite_then; on_goal 1 => solve | (repeat' first | exact Touch.refl _ _ | fail_if_no_progress refine touch_evt (sub_trans (by decide) hw) ?_))

theorem State.flow_touch (hw : 512 ||| w = w) : ∀ s src x2, Touch w s₀ s → Touch w s₀ (State.flow s src x2) := by
  intro s src x2 h; unfold State.flow; try dsimp only
  repeat' with_reducible first
    | exact h
    | exact Touch.refl _ _
    | refine State.cntPass_touch (sub_trans (by decide) hw) _ _ ?_

theorem State.countEvent_touch (hw : 512 ||| w = w) : ∀ s e, Touch w s₀ s → Touch w s₀ (State.countEvent s e) := by
  intro s e h; unfold State.countEvent; try dsimp only
  repeat' with_reducible first
    | exact h
    | exact Touch.refl _ _
    | refine State.cntPass_touch (sub_trans (by decide) hw) _ _ ?_

theorem State.msixSend_touch (hw : 536871424 ||| w = w) : ∀ s v, Touch w s₀ s → Touch w s₀ (State.msixSend s v) := by
  intro s v h; unfold State.msixSend; try dsimp only
  repeat' with_reducible first
    | exact h
    | exact Touch.refl _ _
    | refine State.emit_touch (sub_trans (by decide) hw) _ _ ?_
    | fail_if_no_progress refine touch_evt (sub_trans (by decide) hw) ?_
    | (apply touch_ite_then; on_goal 1 => solve | (repeat' first | exact Touch.refl _ _ | refine State.emit_touch (sub_trans (by decide) hw) _ _ ?_ | fail_if_no_progress refine touch_evt (sub_trans (by decide) hw) ?_ | apply touch_foldl))
    | (apply touch_ite_else; on_goal 1 => solve | (repeat' first | exact Touch.refl _ _ | refine State.emit_touch (sub_trans (by decide) hw) _ _ ?_ | fail_if_no_progress refine touch_evt (sub_trans (by decide) hw) ?_ | apply touch_foldl))
    | apply touch_ite

theorem State.setStat_touch (hw : 1 ||| w = w) : ∀ s e, Touch w s₀ s → Touch w s₀ (State.setStat s e) := by
  intro s e h; unfold State.setStat; try dsimp only
  repeat' with_reducible first
    | exact h
    | exact Touch.refl _ _
    | refine State.orBits_touch (sub_trans (by decide) hw) _ _ _ ?_
    | (apply touch_ite_then; on_goal 1 => solve | (repeat' first | exact Touch.refl _ _ | refine State.orBits_touch (sub_trans (by decide) hw) _ _ _ ?_))
    | apply touch_ite
    | apply touch_foldl
    | (intro _ _ _ k; try dsimp only)
    | (intro _ _; try dsimp only)

theorem State.coreMark_touch (hw : 1 ||| w = w) : ∀ s c e, Touch w s₀ s → Touch w s₀ (State.coreMark s c e) := by
  intro s c e h; unfold State.coreMark; try dsimp only
  repeat' with_reducible first
    | exact h
    | exact Touch.refl _ _
    | refine State.orBits_touch (sub_trans (by decide) hw) _ _ _ ?_

theorem State.deliver_touch (hw : 536871424 ||| w = w) : ∀ x0 s vs, Touch w s₀ s → Touch w s₀ (State.deliver x0 s vs) := by
  intro x0 s vs h; unfold State.deliver; try dsimp only
  repeat' with_reducible first
    | exact h
    | exact Touch.refl _ _
    | refine State.msixSend_touch (sub_trans (by decide) hw) _ _ ?_
    | (apply touch_ite_then; on_goal 1 => solve | (repeat' first | exact Touch.refl _ _ | refine State.msixSend_touch (sub_trans (by decide) hw) _ _ ?_))
    | apply touch_ite
    | apply touch_foldl
    | (intro _ _ _ k; try dsimp only)
    | (intro _ _; try dsimp only)

theorem State.raiseBit_touch (hw : 536871425 ||| w = w) : ∀ s e, Touch w s₀ s → Touch w s₀ (State.raiseBit s e) := by
  intro s e h; unfold State.raiseBit; try dsimp only
  repeat' with_reducible first
    | exact h
    | exact Touch.refl _ _
    | refine State.deliver_touch (sub_trans (by decide) hw) _ _ _ ?_
    | refine State.setStat_touch (sub_trans (by decide) hw) _ _ ?_

theorem State.alarmSync_touch (hw : 536871425 ||| w = w) : ∀ s, Touch w s₀ s → Touch w s₀ (State.alarmSync s) := by
  intro s h; unfold State.alarmSync; try dsimp only
  repeat' with_reducible first
    | exact h
    | exact Touch.refl _ _
    | refine State.raiseBit_touch (sub_trans (by decide) hw) _ _ ?_
    | refine State.countEvent_touch (sub_trans (by decide) hw) _ _ ?_
    | fail_if_no_progress refine touch_evt (sub_trans (by decide) hw) ?_
    | (apply touch_ite_then; on_goal 1 => solve | (repeat' first | exact Touch.refl _ _ | refine State.raiseBit_touch (sub_trans (by decide) hw) _ _ ?_ | refine State.countEvent_touch (sub_trans (by decide) hw) _ _ ?_ | fail_if_no_progress refine touch_evt (sub_trans (by decide) hw) ?_ | apply touch_foldl))
    | (apply touch_ite_else; on_goal 1 => solve | (repeat' first | exact Touch.refl _ _ | refine State.raiseBit_touch (sub_trans (by decide) hw) _ _ ?_ | refine State.countEvent_touch (sub_trans (by decide) hw) _ _ ?_ | fail_if_no_progress refine touch_evt (sub_trans (by decide) hw) ?_ | apply touch_foldl))
    | apply touch_ite

theorem State.raise_touch (hw : 536871425 ||| w = w) : ∀ s e, Touch w s₀ s → Touch w s₀ (State.raise s e) := by
  intro s e h; unfold State.raise; try dsimp only
  repeat' with_reducible first
    | exact h
    | exact Touch.refl _ _
    | refine State.alarmSync_touch (sub_trans (by decide) hw) _ ?_
    | refine State.raiseBit_touch (sub_trans (by decide) hw) _ _ ?_
    | refine State.countEvent_touch (sub_trans (by decide) hw) _ _ ?_

theorem State.raiseLim_touch (hw : 536871425 ||| w = w) : ∀ s e key ticks, Touch w s₀ s → Touch w s₀ (State.raiseLim s e key ticks) := by
  intro s e key ticks h; unfold State.raiseLim; try dsimp only
  repeat' with_reducible first
    | exact h
    | exact Touch.refl _ _
    | refine State.countEvent_touch (sub_trans (by decide) hw) _ _ ?_
    | refine State.raise_touch (sub_trans (by decide) hw) _ _ ?_
    | fail_if_no_progress refine touch_evt (sub_trans (by decide) hw) ?_
    | (apply touch_ite_then; on_goal 1 => solve | (repeat' first | exact Touch.refl _ _ | refine State.countEvent_touch (sub_trans (by decide) hw) _ _ ?_ | refine State.raise_touch (sub_trans (by decide) hw) _ _ ?_ | fail_if_no_progress refine touch_evt (sub_trans (by decide) hw) ?_ | apply touch_foldl))
    | (apply touch_ite_else; on_goal 1 => solve | (repeat' first | exact Touch.refl _ _ | refine State.countEvent_touch (sub_trans (by decide) hw) _ _ ?_ | refine State.raise_touch (sub_trans (by decide) hw) _ _ ?_ | fail_if_no_progress refine touch_evt (sub_trans (by decide) hw) ?_ | apply touch_foldl))
    | apply touch_ite

theorem State.countPiece_touch (hw : 512 ||| w = w) : ∀ s a b, Touch w s₀ s → Touch w s₀ (State.countPiece s a b) := by
  intro s a b h; unfold State.countPiece; try dsimp only
  repeat' with_reducible first
    | exact h
    | exact Touch.refl _ _
    | refine State.cntPass_touch (sub_trans (by decide) hw) _ _ ?_

theorem State.countCycles_touch (hw : 512 ||| w = w) : ∀ s t, Touch w s₀ s → Touch w s₀ (State.countCycles s t) := by
  intro s t h; unfold State.countCycles; try dsimp only
  repeat' with_reducible first
    | exact h
    | exact Touch.refl _ _
    | apply touch_foldlP _ _ (_, _)
    | refine State.countPiece_touch (sub_trans (by decide) hw) _ _ _ ?_
    | apply touch_foldl
    | (intro _ _ _ k; try dsimp only)
    | (intro _ _; try dsimp only)

theorem State.advTo_touch (hw : 520 ||| w = w) : ∀ s t, Touch w s₀ s → Touch w s₀ (State.advTo s t) := by
  intro s t h; unfold State.advTo; try dsimp only
  repeat' with_reducible first
    | exact h
    | exact Touch.refl _ _
    | refine State.countCycles_touch (sub_trans (by decide) hw) _ _ ?_
    | fail_if_no_progress refine touch_time (sub_trans (by decide) hw) ?_
    | (apply touch_ite_then; on_goal 1 => solve | (repeat' first | exact Touch.refl _ _ | refine State.countCycles_touch (sub_trans (by decide) hw) _ _ ?_ | fail_if_no_progress refine touch_time (sub_trans (by decide) hw) ?_ | apply touch_foldl))
    | (apply touch_ite_else; on_goal 1 => solve | (repeat' first | exact Touch.refl _ _ | refine State.countCycles_touch (sub_trans (by decide) hw) _ _ ?_ | fail_if_no_progress refine touch_time (sub_trans (by decide) hw) ?_))

theorem State.advDt_touch (hw : 520 ||| w = w) : ∀ s target, Touch w s₀ s → Touch w s₀ (State.advDt s target) := by
  intro s target h; unfold State.advDt; try dsimp only
  repeat' with_reducible first
    | exact h
    | exact Touch.refl _ _
    | refine State.advTo_touch (sub_trans (by decide) hw) _ _ ?_

end Sys2Proof.Machine
end

