-- ==== Sys2Proof/Laws/Keeps/Access.lean ====
section
/-!
SUPPORT. What each operation of Access keeps.
-/

namespace Sys2Proof.Machine

variable {w : Nat} {s₀ : State}

theorem State.updPort_touch (hw : 4096 ||| w = w) : ∀ s i f, Touch w s₀ s → Touch w s₀ (State.updPort s i f) := by
  intro s i f h; unfold State.updPort; try dsimp only
  repeat' with_reducible first
    | exact h
    | exact Touch.refl _ _
    | fail_if_no_progress refine touch_ports (sub_trans (by decide) hw) ?_

theorem State.updCal_touch (hw : 8192 ||| w = w) : ∀ s i f, Touch w s₀ s → Touch w s₀ (State.updCal s i f) := by
  intro s i f h; unfold State.updCal; try dsimp only
  repeat' with_reducible first
    | exact h
    | exact Touch.refl _ _
    | fail_if_no_progress refine touch_cals (sub_trans (by decide) hw) ?_

theorem State.updClu_touch (hw : 65536 ||| w = w) : ∀ s i f, Touch w s₀ s → Touch w s₀ (State.updClu s i f) := by
  intro s i f h; unfold State.updClu; try dsimp only
  repeat' with_reducible first
    | exact h
    | exact Touch.refl _ _
    | fail_if_no_progress refine touch_clus (sub_trans (by decide) hw) ?_

theorem State.updPtpPort_touch (hw : 1048576 ||| w = w) : ∀ s i f, Touch w s₀ s → Touch w s₀ (State.updPtpPort s i f) := by
  intro s i f h; unfold State.updPtpPort; try dsimp only
  repeat' with_reducible first
    | exact h
    | exact Touch.refl _ _
    | fail_if_no_progress refine touch_ptp (sub_trans (by decide) hw) ?_

theorem State.updGrant_touch (hw : 1048576 ||| w = w) : ∀ s i f, Touch w s₀ s → Touch w s₀ (State.updGrant s i f) := by
  intro s i f h; unfold State.updGrant; try dsimp only
  repeat' with_reducible first
    | exact h
    | exact Touch.refl _ _
    | fail_if_no_progress refine touch_ptp (sub_trans (by decide) hw) ?_

theorem State.updClient_touch (hw : 1048576 ||| w = w) : ∀ s i f, Touch w s₀ s → Touch w s₀ (State.updClient s i f) := by
  intro s i f h; unfold State.updClient; try dsimp only
  repeat' with_reducible first
    | exact h
    | exact Touch.refl _ _
    | fail_if_no_progress refine touch_ptp (sub_trans (by decide) hw) ?_

theorem State.updSymKey_touch (hw : 262144 ||| w = w) : ∀ s i f, Touch w s₀ s → Touch w s₀ (State.updSymKey s i f) := by
  intro s i f h; unfold State.updSymKey; try dsimp only
  repeat' with_reducible first
    | exact h
    | exact Touch.refl _ _
    | fail_if_no_progress refine touch_srv (sub_trans (by decide) hw) ?_

theorem State.updAnnexKey_touch (hw : 262144 ||| w = w) : ∀ s i f, Touch w s₀ s → Touch w s₀ (State.updAnnexKey s i f) := by
  intro s i f h; unfold State.updAnnexKey; try dsimp only
  repeat' with_reducible first
    | exact h
    | exact Touch.refl _ _
    | fail_if_no_progress refine touch_srv (sub_trans (by decide) hw) ?_

theorem State.updOpenCarafe_touch (hw : 524288 ||| w = w) : ∀ s i f, Touch w s₀ s → Touch w s₀ (State.updOpenCarafe s i f) := by
  intro s i f h; unfold State.updOpenCarafe; try dsimp only
  repeat' with_reducible first
    | exact h
    | exact Touch.refl _ _
    | fail_if_no_progress refine touch_rt (sub_trans (by decide) hw) ?_

theorem State.updEng_touch (hw : 2097152 ||| w = w) : ∀ s i f, Touch w s₀ s → Touch w s₀ (State.updEng s i f) := by
  intro s i f h; unfold State.updEng; try dsimp only
  repeat' with_reducible first
    | exact h
    | exact Touch.refl _ _
    | fail_if_no_progress refine touch_pke (sub_trans (by decide) hw) ?_

theorem State.updKslot_touch (hw : 2097152 ||| w = w) : ∀ s i f, Touch w s₀ s → Touch w s₀ (State.updKslot s i f) := by
  intro s i f h; unfold State.updKslot; try dsimp only
  repeat' with_reducible first
    | exact h
    | exact Touch.refl _ _
    | fail_if_no_progress refine touch_pke (sub_trans (by decide) hw) ?_

theorem State.updMon_touch (hw : 4194304 ||| w = w) : ∀ s i f, Touch w s₀ s → Touch w s₀ (State.updMon s i f) := by
  intro s i f h; unfold State.updMon; try dsimp only
  repeat' with_reducible first
    | exact h
    | exact Touch.refl _ _
    | fail_if_no_progress refine touch_ref (sub_trans (by decide) hw) ?_

theorem State.updDpllx_touch (hw : 8388608 ||| w = w) : ∀ s i f, Touch w s₀ s → Touch w s₀ (State.updDpllx s i f) := by
  intro s i f h; unfold State.updDpllx; try dsimp only
  repeat' with_reducible first
    | exact h
    | exact Touch.refl _ _
    | fail_if_no_progress refine touch_clk (sub_trans (by decide) hw) ?_

theorem State.updPll_touch (hw : 8388608 ||| w = w) : ∀ s i f, Touch w s₀ s → Touch w s₀ (State.updPll s i f) := by
  intro s i f h; unfold State.updPll; try dsimp only
  repeat' with_reducible first
    | exact h
    | exact Touch.refl _ _
    | fail_if_no_progress refine touch_clk (sub_trans (by decide) hw) ?_

theorem State.updChan_touch (hw : 16777216 ||| w = w) : ∀ s i f, Touch w s₀ s → Touch w s₀ (State.updChan s i f) := by
  intro s i f h; unfold State.updChan; try dsimp only
  repeat' with_reducible first
    | exact h
    | exact Touch.refl _ _
    | fail_if_no_progress refine touch_gns (sub_trans (by decide) hw) ?_

theorem State.updTimIn_touch (hw : 33554432 ||| w = w) : ∀ s i f, Touch w s₀ s → Touch w s₀ (State.updTimIn s i f) := by
  intro s i f h; unfold State.updTimIn; try dsimp only
  repeat' with_reducible first
    | exact h
    | exact Touch.refl _ _
    | fail_if_no_progress refine touch_tim (sub_trans (by decide) hw) ?_

theorem State.updTimCh_touch (hw : 33554432 ||| w = w) : ∀ s i f, Touch w s₀ s → Touch w s₀ (State.updTimCh s i f) := by
  intro s i f h; unfold State.updTimCh; try dsimp only
  repeat' with_reducible first
    | exact h
    | exact Touch.refl _ _
    | fail_if_no_progress refine touch_tim (sub_trans (by decide) hw) ?_

theorem State.updLane_touch (hw : 67108864 ||| w = w) : ∀ s i f, Touch w s₀ s → Touch w s₀ (State.updLane s i f) := by
  intro s i f h; unfold State.updLane; try dsimp only
  repeat' with_reducible first
    | exact h
    | exact Touch.refl _ _
    | fail_if_no_progress refine touch_evl (sub_trans (by decide) hw) ?_

theorem State.updSlot_touch (hw : 8 ||| w = w) : ∀ s i f, Touch w s₀ s → Touch w s₀ (State.updSlot s i f) := by
  intro s i f h; unfold State.updSlot; try dsimp only
  repeat' with_reducible first
    | exact h
    | exact Touch.refl _ _
    | fail_if_no_progress refine touch_time (sub_trans (by decide) hw) ?_

theorem State.updCore_touch (hw : 1024 ||| w = w) : ∀ s i f, Touch w s₀ s → Touch w s₀ (State.updCore s i f) := by
  intro s i f h; unfold State.updCore; try dsimp only
  repeat' with_reducible first
    | exact h
    | exact Touch.refl _ _
    | fail_if_no_progress refine touch_mbx (sub_trans (by decide) hw) ?_

theorem State.updChEnd_touch (hw : 1024 ||| w = w) : ∀ s i f, Touch w s₀ s → Touch w s₀ (State.updChEnd s i f) := by
  intro s i f h; unfold State.updChEnd; try dsimp only
  repeat' with_reducible first
    | exact h
    | exact Touch.refl _ _
    | fail_if_no_progress refine touch_mbx (sub_trans (by decide) hw) ?_

theorem State.updSem_touch (hw : 1024 ||| w = w) : ∀ s i f, Touch w s₀ s → Touch w s₀ (State.updSem s i f) := by
  intro s i f h; unfold State.updSem; try dsimp only
  repeat' with_reducible first
    | exact h
    | exact Touch.refl _ _
    | fail_if_no_progress refine touch_mbx (sub_trans (by decide) hw) ?_

theorem State.updFwChan_touch (hw : 1024 ||| w = w) : ∀ s i f, Touch w s₀ s → Touch w s₀ (State.updFwChan s i f) := by
  intro s i f h; unfold State.updFwChan; try dsimp only
  repeat' with_reducible first
    | exact h
    | exact Touch.refl _ _
    | fail_if_no_progress refine touch_mbx (sub_trans (by decide) hw) ?_

theorem State.updAgg_touch (hw : 131072 ||| w = w) : ∀ s i f, Touch w s₀ s → Touch w s₀ (State.updAgg s i f) := by
  intro s i f h; unfold State.updAgg; try dsimp only
  repeat' with_reducible first
    | exact h
    | exact Touch.refl _ _
    | fail_if_no_progress refine touch_clt (sub_trans (by decide) hw) ?_

theorem State.updCltEntry_touch (hw : 131072 ||| w = w) : ∀ s i f, Touch w s₀ s → Touch w s₀ (State.updCltEntry s i f) := by
  intro s i f h; unfold State.updCltEntry; try dsimp only
  repeat' with_reducible first
    | exact h
    | exact Touch.refl _ _
    | fail_if_no_progress refine touch_clt (sub_trans (by decide) hw) ?_

theorem State.refoutSync_touch (hw : 16777216 ||| w = w) : ∀ s, Touch w s₀ s → Touch w s₀ (State.refoutSync s) := by
  intro s h; unfold State.refoutSync; try dsimp only
  repeat' with_reducible first
    | exact h
    | exact Touch.refl _ _
    | fail_if_no_progress refine touch_gns (sub_trans (by decide) hw) ?_

end Sys2Proof.Machine
end

