-- ==== Sys2Proof/Laws/Keeps/Ports.lean ====
section
/-!
SUPPORT. What each operation of Ports keeps.
-/

namespace Sys2Proof.Machine

variable {w : Nat} {s₀ : State}

theorem State.portEvt_touch (hw : 536871425 ||| w = w) : ∀ s n x2, Touch w s₀ s → Touch w s₀ (State.portEvt s n x2) := by
  intro s n x2 h; unfold State.portEvt; try dsimp only
  repeat' with_reducible first
    | exact h
    | exact Touch.refl _ _
    | refine State.raise_touch (sub_trans (by decide) hw) _ _ ?_
    | refine State.orBits_touch (sub_trans (by decide) hw) _ _ _ ?_

theorem State.portEvtLim_touch (hw : 536871425 ||| w = w) : ∀ s n x2 ticks, Touch w s₀ s → Touch w s₀ (State.portEvtLim s n x2 ticks) := by
  intro s n x2 ticks h; unfold State.portEvtLim; try dsimp only
  repeat' with_reducible first
    | exact h
    | exact Touch.refl _ _
    | refine State.raiseLim_touch (sub_trans (by decide) hw) _ _ _ _ ?_
    | refine State.orBits_touch (sub_trans (by decide) hw) _ _ _ ?_

theorem State.tsqPush_touch (hw : 536875521 ||| w = w) : ∀ s n tag dropped stamp, Touch w s₀ s → Touch w s₀ (State.tsqPush s n tag dropped stamp) := by
  intro s n tag dropped stamp h; unfold State.tsqPush; try dsimp only
  repeat' with_reducible first
    | exact h
    | exact Touch.refl _ _
    | refine State.portEvt_touch (sub_trans (by decide) hw) _ _ _ ?_
    | refine State.bump_touch (sub_trans (by decide) hw) _ _ _ ?_
    | refine State.updPort_touch (sub_trans (by decide) hw) _ _ _ ?_
    | (apply touch_ite_then; on_goal 1 => solve | (repeat' first | exact Touch.refl _ _ | refine State.portEvt_touch (sub_trans (by decide) hw) _ _ _ ?_ | refine State.bump_touch (sub_trans (by decide) hw) _ _ _ ?_ | refine State.updPort_touch (sub_trans (by decide) hw) _ _ _ ?_ | apply touch_foldl))
    | (apply touch_ite_else; on_goal 1 => solve | (repeat' first | exact Touch.refl _ _ | refine State.portEvt_touch (sub_trans (by decide) hw) _ _ _ ?_ | refine State.bump_touch (sub_trans (by decide) hw) _ _ _ ?_ | refine State.updPort_touch (sub_trans (by decide) hw) _ _ _ ?_ | apply touch_foldl))
    | apply touch_ite

theorem execTsqPop_touch (hw : 6144 ||| w = w) : ∀ n s, Touch w s₀ s → TouchR w s₀ (execTsqPop n s) := by
  intro n s h; unfold execTsqPop; try dsimp only
  repeat' with_reducible first
    | exact h
    | exact Touch.refl _ _
    | apply touchR_next
    | apply touchR_ite
    | refine State.updPort_touch (sub_trans (by decide) hw) _ _ _ ?_
    | fail_if_no_progress refine touch_bus (sub_trans (by decide) hw) ?_
    | apply touch_foldl
    | refine touch_snd (by assumption) ?_
    | (intro _; try dsimp only)
    | assumption
    | split

theorem State.ringStep_touch (hw : 1 ||| w = w) : ∀ s cons size, Touch w s₀ s → Touch w s₀ (State.ringStep s cons size) := by
  intro s cons size h; unfold State.ringStep; try dsimp only
  repeat' with_reducible first
    | exact h
    | exact Touch.refl _ _
    | refine State.wr_touch (sub_trans (by decide) hw) _ _ _ ?_

theorem State.htxDone_touch (hw : 536871425 ||| w = w) : ∀ s n, Touch w s₀ s → Touch w s₀ (State.htxDone s n) := by
  intro s n h; unfold State.htxDone; try dsimp only
  repeat' with_reducible first
    | exact h
    | exact Touch.refl _ _
    | refine State.portEvt_touch (sub_trans (by decide) hw) _ _ _ ?_
    | refine State.ringStep_touch (sub_trans (by decide) hw) _ _ _ ?_

theorem State.htxDrop_touch (hw : 536875521 ||| w = w) : ∀ s n tag tsReq, Touch w s₀ s → Touch w s₀ (State.htxDrop s n tag tsReq) := by
  intro s n tag tsReq h; unfold State.htxDrop; try dsimp only
  repeat' with_reducible first
    | exact h
    | exact Touch.refl _ _
    | refine State.htxDone_touch (sub_trans (by decide) hw) _ _ ?_
    | refine State.tsqPush_touch (sub_trans (by decide) hw) _ _ _ _ _ ?_
    | (apply touch_ite_then; on_goal 1 => solve | (repeat' first | exact Touch.refl _ _ | refine State.htxDone_touch (sub_trans (by decide) hw) _ _ ?_ | refine State.tsqPush_touch (sub_trans (by decide) hw) _ _ _ _ _ ?_))

theorem execHostTxProduce_touch (hw : 536871425 ||| w = w) : ∀ n idx s, Touch w s₀ s → TouchR w s₀ (execHostTxProduce n idx s) := by
  intro n idx s h; unfold execHostTxProduce; try dsimp only
  repeat' with_reducible first
    | exact h
    | exact Touch.refl _ _
    | apply touchR_next
    | apply touchR_ite
    | refine State.wr_touch (sub_trans (by decide) hw) _ _ _ ?_
    | refine State.portEvt_touch (sub_trans (by decide) hw) _ _ _ ?_
    | (apply touch_ite_then; on_goal 1 => solve | (repeat' first | exact Touch.refl _ _ | refine State.wr_touch (sub_trans (by decide) hw) _ _ _ ?_ | refine State.portEvt_touch (sub_trans (by decide) hw) _ _ _ ?_ | apply touch_foldl))
    | (apply touch_ite_else; on_goal 1 => solve | (repeat' first | exact Touch.refl _ _ | refine State.wr_touch (sub_trans (by decide) hw) _ _ _ ?_ | refine State.portEvt_touch (sub_trans (by decide) hw) _ _ _ ?_ | apply touch_foldl))
    | apply touch_ite

theorem State.bePush_touch (hw : 536875521 ||| w = w) : ∀ s n kind len bytes head after, Touch w s₀ s → Touch w s₀ (State.bePush s n kind len bytes head after) := by
  intro s n kind len bytes head after h; unfold State.bePush; try dsimp only
  repeat' with_reducible first
    | exact h
    | exact Touch.refl _ _
    | refine State.updPort_touch (sub_trans (by decide) hw) _ _ _ ?_
    | refine State.bump_touch (sub_trans (by decide) hw) _ _ _ ?_
    | refine State.htxDrop_touch (sub_trans (by decide) hw) _ _ _ _ ?_
    | (apply touch_ite_then; on_goal 1 => solve | (repeat' first | exact Touch.refl _ _ | refine State.updPort_touch (sub_trans (by decide) hw) _ _ _ ?_ | refine State.bump_touch (sub_trans (by decide) hw) _ _ _ ?_ | refine State.htxDrop_touch (sub_trans (by decide) hw) _ _ _ _ ?_ | apply touch_foldl))
    | (apply touch_ite_else; on_goal 1 => solve | (repeat' first | exact Touch.refl _ _ | refine State.updPort_touch (sub_trans (by decide) hw) _ _ _ ?_ | refine State.bump_touch (sub_trans (by decide) hw) _ _ _ ?_ | refine State.htxDrop_touch (sub_trans (by decide) hw) _ _ _ _ ?_ | apply touch_foldl))
    | apply touch_ite
    | apply touch_foldl
    | refine touch_snd (by assumption) ?_
    | (intro _; try dsimp only)
    | assumption
    | split

theorem execHostTxDescriptor_touch (hw : 536875521 ||| w = w) : ∀ n d s, Touch w s₀ s → TouchR w s₀ (execHostTxDescriptor n d s) := by
  intro n d s h; unfold execHostTxDescriptor; try dsimp only
  repeat' with_reducible first
    | exact h
    | exact Touch.refl _ _
    | apply touchR_next
    | apply touchR_ite
    | refine State.updPort_touch (sub_trans (by decide) hw) _ _ _ ?_
    | refine State.htxDrop_touch (sub_trans (by decide) hw) _ _ _ _ ?_
    | refine State.bePush_touch (sub_trans (by decide) hw) _ _ _ _ _ _ _ ?_

theorem State.hrxPost_touch (hw : 536875521 ||| w = w) : ∀ s n idx bufs, Touch w s₀ s → Touch w s₀ (State.hrxPost s n idx bufs) := by
  intro s n idx bufs h; unfold State.hrxPost; try dsimp only
  repeat' with_reducible first
    | exact h
    | exact Touch.refl _ _
    | refine State.wr_touch (sub_trans (by decide) hw) _ _ _ ?_
    | refine State.updPort_touch (sub_trans (by decide) hw) _ _ _ ?_
    | refine State.portEvt_touch (sub_trans (by decide) hw) _ _ _ ?_
    | (apply touch_ite_then; on_goal 1 => solve | (repeat' first | exact Touch.refl _ _ | refine State.wr_touch (sub_trans (by decide) hw) _ _ _ ?_ | refine State.updPort_touch (sub_trans (by decide) hw) _ _ _ ?_ | refine State.portEvt_touch (sub_trans (by decide) hw) _ _ _ ?_ | apply touch_foldl))
    | (apply touch_ite_else; on_goal 1 => solve | (repeat' first | exact Touch.refl _ _ | refine State.wr_touch (sub_trans (by decide) hw) _ _ _ ?_ | refine State.updPort_touch (sub_trans (by decide) hw) _ _ _ ?_ | refine State.portEvt_touch (sub_trans (by decide) hw) _ _ _ ?_ | apply touch_foldl))
    | apply touch_ite

theorem execHostRxPost_touch (hw : 536875521 ||| w = w) : ∀ n idx bufs s, Touch w s₀ s → TouchR w s₀ (execHostRxPost n idx bufs s) := by
  intro n idx bufs s h; unfold execHostRxPost; try dsimp only
  repeat' with_reducible first
    | exact h
    | exact Touch.refl _ _
    | apply touchR_next
    | apply touchR_ite
    | refine State.hrxPost_touch (sub_trans (by decide) hw) _ _ _ _ ?_

theorem State.hostRx_touch (hw : 536875521 ||| w = w) : ∀ s n f cls sIn gen, Touch w s₀ s → Touch w s₀ (State.hostRx s n f cls sIn gen) := by
  intro s n f cls sIn gen h; unfold State.hostRx; try dsimp only
  repeat' with_reducible first
    | exact h
    | exact Touch.refl _ _
    | refine State.portEvt_touch (sub_trans (by decide) hw) _ _ _ ?_
    | refine State.bump_touch (sub_trans (by decide) hw) _ _ _ ?_
    | refine State.emit_touch (sub_trans (by decide) hw) _ _ ?_
    | refine State.updPort_touch (sub_trans (by decide) hw) _ _ _ ?_
    | refine State.ringStep_touch (sub_trans (by decide) hw) _ _ _ ?_
    | (apply touch_ite_then; on_goal 1 => solve | (repeat' first | exact Touch.refl _ _ | refine State.portEvt_touch (sub_trans (by decide) hw) _ _ _ ?_ | refine State.bump_touch (sub_trans (by decide) hw) _ _ _ ?_ | refine State.emit_touch (sub_trans (by decide) hw) _ _ ?_ | refine State.updPort_touch (sub_trans (by decide) hw) _ _ _ ?_ | refine State.ringStep_touch (sub_trans (by decide) hw) _ _ _ ?_ | apply touch_foldl))
    | (apply touch_ite_else; on_goal 1 => solve | (repeat' first | exact Touch.refl _ _ | refine State.portEvt_touch (sub_trans (by decide) hw) _ _ _ ?_ | refine State.bump_touch (sub_trans (by decide) hw) _ _ _ ?_ | refine State.emit_touch (sub_trans (by decide) hw) _ _ ?_ | refine State.updPort_touch (sub_trans (by decide) hw) _ _ _ ?_ | refine State.ringStep_touch (sub_trans (by decide) hw) _ _ _ ?_ | apply touch_foldl))
    | apply touch_ite
    | apply touch_foldl
    | refine touch_snd (by assumption) ?_
    | (intro _; try dsimp only)
    | assumption
    | split

theorem State.slowFill_touch (hw : 4096 ||| w = w) : ∀ s n, Touch w s₀ s → Touch w s₀ (State.slowFill s n) := by
  intro s n h; unfold State.slowFill; try dsimp only
  repeat' with_reducible first
    | exact h
    | exact Touch.refl _ _
    | refine State.updPort_touch (sub_trans (by decide) hw) _ _ _ ?_

theorem State.toHost_touch (hw : 536875521 ||| w = w) : ∀ s n f cls sIn gen, Touch w s₀ s → Touch w s₀ (State.toHost s n f cls sIn gen) := by
  intro s n f cls sIn gen h; unfold State.toHost; try dsimp only
  repeat' with_reducible first
    | exact h
    | exact Touch.refl _ _
    | refine State.portEvtLim_touch (sub_trans (by decide) hw) _ _ _ _ ?_
    | refine State.bump_touch (sub_trans (by decide) hw) _ _ _ ?_
    | refine State.updPort_touch (sub_trans (by decide) hw) _ _ _ ?_
    | refine State.hostRx_touch (sub_trans (by decide) hw) _ _ _ _ _ _ ?_
    | (apply touch_ite_then; on_goal 1 => solve | (repeat' first | exact Touch.refl _ _ | refine State.portEvtLim_touch (sub_trans (by decide) hw) _ _ _ _ ?_ | refine State.bump_touch (sub_trans (by decide) hw) _ _ _ ?_ | refine State.updPort_touch (sub_trans (by decide) hw) _ _ _ ?_ | refine State.hostRx_touch (sub_trans (by decide) hw) _ _ _ _ _ _ ?_ | apply touch_foldl))
    | (apply touch_ite_else; on_goal 1 => solve | (repeat' first | exact Touch.refl _ _ | refine State.portEvtLim_touch (sub_trans (by decide) hw) _ _ _ _ ?_ | refine State.bump_touch (sub_trans (by decide) hw) _ _ _ ?_ | refine State.updPort_touch (sub_trans (by decide) hw) _ _ _ ?_ | refine State.hostRx_touch (sub_trans (by decide) hw) _ _ _ _ _ _ ?_ | apply touch_foldl))
    | apply touch_ite

theorem State.toFirmware_touch (hw : 536870912 ||| w = w) : ∀ s n f sIn, Touch w s₀ s → Touch w s₀ (State.toFirmware s n f sIn) := by
  intro s n f sIn h; unfold State.toFirmware; try dsimp only
  repeat' with_reducible first
    | exact h
    | exact Touch.refl _ _
    | refine State.emit_touch (sub_trans (by decide) hw) _ _ ?_

theorem State.fecLost_touch (hw : 536875521 ||| w = w) : ∀ s n t, Touch w s₀ s → Touch w s₀ (State.fecLost s n t) := by
  intro s n t h; unfold State.fecLost; try dsimp only
  repeat' with_reducible first
    | exact h
    | exact Touch.refl _ _
    | refine State.updPort_touch (sub_trans (by decide) hw) _ _ _ ?_
    | refine State.bump_touch (sub_trans (by decide) hw) _ _ _ ?_
    | refine State.portEvt_touch (sub_trans (by decide) hw) _ _ _ ?_
    | (apply touch_ite_then; on_goal 1 => solve | (repeat' first | exact Touch.refl _ _ | refine State.updPort_touch (sub_trans (by decide) hw) _ _ _ ?_ | refine State.bump_touch (sub_trans (by decide) hw) _ _ _ ?_ | refine State.portEvt_touch (sub_trans (by decide) hw) _ _ _ ?_))

theorem State.fecCount_touch (hw : 536875521 ||| w = w) : ∀ s n corr uncorr, Touch w s₀ s → Touch w s₀ (State.fecCount s n corr uncorr) := by
  intro s n corr uncorr h; unfold State.fecCount; try dsimp only
  repeat' with_reducible first
    | exact h
    | exact Touch.refl _ _
    | refine State.fecLost_touch (sub_trans (by decide) hw) _ _ _ ?_
    | refine State.bump_touch (sub_trans (by decide) hw) _ _ _ ?_
    | (apply touch_ite_then; on_goal 1 => solve | (repeat' first | exact Touch.refl _ _ | refine State.fecLost_touch (sub_trans (by decide) hw) _ _ _ ?_ | refine State.bump_touch (sub_trans (by decide) hw) _ _ _ ?_ | apply touch_foldl))
    | (apply touch_ite_else; on_goal 1 => solve | (repeat' first | exact Touch.refl _ _ | refine State.fecLost_touch (sub_trans (by decide) hw) _ _ _ ?_ | refine State.bump_touch (sub_trans (by decide) hw) _ _ _ ?_ | apply touch_foldl | (intro _ _; try dsimp only)))

end Sys2Proof.Machine
end

