-- ==== Sys2Proof/Laws/Keeps/TimeState.lean ====
section
/-!
SUPPORT. What each operation of TimeState keeps.
-/

namespace Sys2Proof.Machine

variable {w : Nat} {s₀ : State}

theorem State.pushView_touch (hw : 262144 ||| w = w) : ∀ s t, Touch w s₀ s → Touch w s₀ (State.pushView s t) := by
  intro s t h; unfold State.pushView; try dsimp only
  repeat' with_reducible first
    | exact h
    | exact Touch.refl _ _
    | fail_if_no_progress refine touch_srv (sub_trans (by decide) hw) ?_

theorem State.noteStratum_touch (hw : 537133569 ||| w = w) : ∀ s n, Touch w s₀ s → Touch w s₀ (State.noteStratum s n) := by
  intro s n h; unfold State.noteStratum; try dsimp only
  repeat' with_reducible first
    | exact h
    | exact Touch.refl _ _
    | refine State.raise_touch (sub_trans (by decide) hw) _ _ ?_
    | fail_if_no_progress refine touch_srv (sub_trans (by decide) hw) ?_
    | (apply touch_ite_then; on_goal 1 => solve | (repeat' first | exact Touch.refl _ _ | refine State.raise_touch (sub_trans (by decide) hw) _ _ ?_ | fail_if_no_progress refine touch_srv (sub_trans (by decide) hw) ?_ | apply touch_foldl))
    | (apply touch_ite_else; on_goal 1 => solve | (repeat' first | exact Touch.refl _ _ | refine State.raise_touch (sub_trans (by decide) hw) _ _ ?_ | fail_if_no_progress refine touch_srv (sub_trans (by decide) hw) ?_))

theorem State.smearLate_touch (hw : 537133569 ||| w = w) : ∀ s t, Touch w s₀ s → Touch w s₀ (State.smearLate s t) := by
  intro s t h; unfold State.smearLate; try dsimp only
  repeat' with_reducible first
    | exact h
    | exact Touch.refl _ _
    | refine State.raise_touch (sub_trans (by decide) hw) _ _ ?_
    | refine State.pushView_touch (sub_trans (by decide) hw) _ _ ?_
    | fail_if_no_progress refine touch_srv (sub_trans (by decide) hw) ?_
    | (apply touch_ite_then; on_goal 1 => solve | (repeat' first | exact Touch.refl _ _ | refine State.raise_touch (sub_trans (by decide) hw) _ _ ?_ | refine State.pushView_touch (sub_trans (by decide) hw) _ _ ?_ | fail_if_no_progress refine touch_srv (sub_trans (by decide) hw) ?_ | apply touch_foldl))
    | (apply touch_ite_else; on_goal 1 => solve | (repeat' first | exact Touch.refl _ _ | refine State.raise_touch (sub_trans (by decide) hw) _ _ ?_ | refine State.pushView_touch (sub_trans (by decide) hw) _ _ ?_ | fail_if_no_progress refine touch_srv (sub_trans (by decide) hw) ?_ | apply touch_foldl))
    | apply touch_ite
    | apply touch_foldl
    | refine touch_snd (by assumption) ?_
    | (intro _; try dsimp only)
    | assumption
    | split

theorem State.smearStart_touch (hw : 262144 ||| w = w) : ∀ s, Touch w s₀ s → Touch w s₀ (State.smearStart s) := by
  intro s h; unfold State.smearStart; try dsimp only
  repeat' with_reducible first
    | exact h
    | exact Touch.refl _ _
    | refine State.pushView_touch (sub_trans (by decide) hw) _ _ ?_
    | fail_if_no_progress refine touch_srv (sub_trans (by decide) hw) ?_
    | (apply touch_ite_then; on_goal 1 => solve | (repeat' first | exact Touch.refl _ _ | refine State.pushView_touch (sub_trans (by decide) hw) _ _ ?_ | fail_if_no_progress refine touch_srv (sub_trans (by decide) hw) ?_ | apply touch_foldl))
    | (apply touch_ite_else; on_goal 1 => solve | (repeat' first | exact Touch.refl _ _ | refine State.pushView_touch (sub_trans (by decide) hw) _ _ ?_ | fail_if_no_progress refine touch_srv (sub_trans (by decide) hw) ?_))
    | apply touch_ite
    | apply touch_foldl
    | refine touch_snd (by assumption) ?_
    | (intro _; try dsimp only)
    | assumption
    | split

theorem State.smearCancel_touch (hw : 262144 ||| w = w) : ∀ s, Touch w s₀ s → Touch w s₀ (State.smearCancel s) := by
  intro s h; unfold State.smearCancel; try dsimp only
  repeat' with_reducible first
    | exact h
    | exact Touch.refl _ _
    | fail_if_no_progress refine touch_srv (sub_trans (by decide) hw) ?_

end Sys2Proof.Machine
end

