-- ==== Sys2Proof/Laws/Keeps/Clt.lean ====
section
/-!
SUPPORT. What each operation of Clt keeps.
-/

namespace Sys2Proof.Machine

variable {w : Nat} {s₀ : State}

theorem State.aggDraw_touch (hw : 131072 ||| w = w) : ∀ s g i, Touch w s₀ s → Touch w s₀ (State.aggDraw s g i).2 := by
  intro s g i h; unfold State.aggDraw; try dsimp only
  repeat' with_reducible first
    | exact h
    | exact Touch.refl _ _
    | refine State.updAgg_touch (sub_trans (by decide) hw) _ _ _ ?_
    | apply touch_ite
    | apply touch_foldl
    | refine touch_snd (by assumption) ?_
    | (intro _; try dsimp only)
    | assumption
    | split

theorem State.cltWrite_touch (hw : 537002497 ||| w = w) : ∀ s i e, Touch w s₀ s → Touch w s₀ (State.cltWrite s i e) := by
  intro s i e h; unfold State.cltWrite; try dsimp only
  repeat' with_reducible first
    | exact h
    | exact Touch.refl _ _
    | refine State.updCltEntry_touch (sub_trans (by decide) hw) _ _ _ ?_
    | refine State.raise_touch (sub_trans (by decide) hw) _ _ ?_
    | (apply touch_ite_then; on_goal 1 => solve | (repeat' first | exact Touch.refl _ _ | refine State.updCltEntry_touch (sub_trans (by decide) hw) _ _ _ ?_ | refine State.raise_touch (sub_trans (by decide) hw) _ _ ?_))

theorem State.cltUntracked_touch (hw : 537002497 ||| w = w) : ∀ s, Touch w s₀ s → Touch w s₀ (State.cltUntracked s) := by
  intro s h; unfold State.cltUntracked; try dsimp only
  repeat' with_reducible first
    | exact h
    | exact Touch.refl _ _
    | refine State.bump_touch (sub_trans (by decide) hw) _ _ _ ?_
    | refine State.flow_touch (sub_trans (by decide) hw) _ _ _ ?_
    | refine State.raise_touch (sub_trans (by decide) hw) _ _ ?_
    | fail_if_no_progress refine touch_clt (sub_trans (by decide) hw) ?_
    | (apply touch_ite_then; on_goal 1 => solve | (repeat' first | exact Touch.refl _ _ | refine State.bump_touch (sub_trans (by decide) hw) _ _ _ ?_ | refine State.flow_touch (sub_trans (by decide) hw) _ _ _ ?_ | refine State.raise_touch (sub_trans (by decide) hw) _ _ ?_ | fail_if_no_progress refine touch_clt (sub_trans (by decide) hw) ?_))

theorem State.cltLookup_touch (hw : 537002497 ||| w = w) : ∀ s r cls, Touch w s₀ s → Touch w s₀ (State.cltLookup s r cls).2 := by
  intro s r cls h; unfold State.cltLookup; try dsimp only
  repeat' with_reducible first
    | exact h
    | exact Touch.refl _ _
    | refine State.cltUntracked_touch (sub_trans (by decide) hw) _ ?_
    | apply touch_foldl
    | refine touch_snd (by assumption) ?_
    | (intro _; try dsimp only)
    | assumption
    | split

theorem State.rateVerdict_touch (hw : 537002497 ||| w = w) : ∀ s r cls i e, Touch w s₀ s → Touch w s₀ (State.rateVerdict s r cls i e).2 := by
  intro s r cls i e h; unfold State.rateVerdict; try dsimp only
  repeat' with_reducible first
    | exact h
    | exact Touch.refl _ _
    | refine State.raiseLim_touch (sub_trans (by decide) hw) _ _ _ _ ?_
    | refine State.cltWrite_touch (sub_trans (by decide) hw) _ _ _ ?_
    | apply touch_ite
    | apply touch_foldl
    | refine touch_snd (by assumption) ?_
    | (intro _; try dsimp only)
    | assumption
    | split

theorem State.verdict1_touch (hw : 537002497 ||| w = w) : ∀ s r useRate grant, Touch w s₀ s → Touch w s₀ (State.verdict1 s r useRate grant).2 := by
  intro s r useRate grant h; unfold State.verdict1; try dsimp only
  repeat' with_reducible first
    | exact h
    | exact Touch.refl _ _
    | refine State.cltLookup_touch (sub_trans (by decide) hw) _ _ _ ?_
    | refine State.cltWrite_touch (sub_trans (by decide) hw) _ _ _ ?_
    | refine State.rateVerdict_touch (sub_trans (by decide) hw) _ _ _ _ _ ?_
    | refine State.aggDraw_touch (sub_trans (by decide) hw) _ _ _ ?_
    | refine State.raiseLim_touch (sub_trans (by decide) hw) _ _ _ _ ?_
    | apply touch_ite
    | apply touch_foldl
    | refine touch_snd (by assumption) ?_
    | (intro _; try dsimp only)
    | assumption
    | split

theorem execCltWindowRead_touch (hw : 131072 ||| w = w) : ∀ s, Touch w s₀ s → TouchR w s₀ (execCltWindowRead s) := by
  intro s h; unfold execCltWindowRead; try dsimp only
  repeat' with_reducible first
    | exact h
    | exact Touch.refl _ _
    | apply touchR_next
    | apply touchR_ite
    | fail_if_no_progress refine touch_clt (sub_trans (by decide) hw) ?_
    | apply touch_foldl
    | refine touch_snd (by assumption) ?_
    | (intro _; try dsimp only)
    | assumption
    | split

theorem execCltFlush_touch (hw : 131072 ||| w = w) : ∀ s, Touch w s₀ s → TouchR w s₀ (execCltFlush s) := by
  intro s h; unfold execCltFlush; try dsimp only
  repeat' with_reducible first
    | exact h
    | exact Touch.refl _ _
    | apply touchR_next
    | apply touchR_ite
    | fail_if_no_progress refine touch_clt (sub_trans (by decide) hw) ?_

end Sys2Proof.Machine
end

