-- ==== Sys2Proof/Laws/Keeps/Pke.lean ====
section
/-!
SUPPORT. What each operation of Pke keeps.
-/

namespace Sys2Proof.Machine

variable {w : Nat} {s₀ : State}

theorem State.slotSet_touch (hw : 538968577 ||| w = w) : ∀ s i x2, Touch w s₀ s → Touch w s₀ (State.slotSet s i x2) := by
  intro s i x2 h; unfold State.slotSet; try dsimp only
  repeat' with_reducible first
    | exact h
    | exact Touch.refl _ _
    | refine State.updKslot_touch (sub_trans (by decide) hw) _ _ _ ?_
    | refine State.raise_touch (sub_trans (by decide) hw) _ _ ?_
    | (apply touch_ite_then; on_goal 1 => solve | (repeat' first | exact Touch.refl _ _ | refine State.updKslot_touch (sub_trans (by decide) hw) _ _ _ ?_ | refine State.raise_touch (sub_trans (by decide) hw) _ _ ?_ | apply touch_foldl))
    | (apply touch_ite_else; on_goal 1 => solve | (repeat' first | exact Touch.refl _ _ | refine State.updKslot_touch (sub_trans (by decide) hw) _ _ _ ?_ | refine State.raise_touch (sub_trans (by decide) hw) _ _ ?_))

theorem State.ntsForget_touch (hw : 262144 ||| w = w) : ∀ s i, Touch w s₀ s → Touch w s₀ (State.ntsForget s i) := by
  intro s i h; unfold State.ntsForget; try dsimp only
  repeat' with_reducible first
    | exact h
    | exact Touch.refl _ _
    | fail_if_no_progress refine touch_srv (sub_trans (by decide) hw) ?_
    | apply touch_ite
    | apply touch_foldl
    | refine touch_snd (by assumption) ?_
    | (intro _; try dsimp only)
    | assumption
    | split

theorem State.slotWipe_touch (hw : 539230721 ||| w = w) : ∀ s i, Touch w s₀ s → Touch w s₀ (State.slotWipe s i) := by
  intro s i h; unfold State.slotWipe; try dsimp only
  repeat' with_reducible first
    | exact h
    | exact Touch.refl _ _
    | refine State.slotSet_touch (sub_trans (by decide) hw) _ _ _ ?_
    | refine State.ntsForget_touch (sub_trans (by decide) hw) _ _ ?_

theorem State.pkeBusy_touch (hw : 2097153 ||| w = w) : ∀ s i n, Touch w s₀ s → Touch w s₀ (State.pkeBusy s i n) := by
  intro s i n h; unfold State.pkeBusy; try dsimp only
  repeat' with_reducible first
    | exact h
    | exact Touch.refl _ _
    | refine State.bump_touch (sub_trans (by decide) hw) _ _ _ ?_
    | refine State.updEng_touch (sub_trans (by decide) hw) _ _ _ ?_

theorem State.cplPush_touch (hw : 538968577 ||| w = w) : ∀ s i core c, Touch w s₀ s → Touch w s₀ (State.cplPush s i core c) := by
  intro s i core c h; unfold State.cplPush; try dsimp only
  repeat' with_reducible first
    | exact h
    | exact Touch.refl _ _
    | refine State.updEng_touch (sub_trans (by decide) hw) _ _ _ ?_
    | refine State.raise_touch (sub_trans (by decide) hw) _ _ ?_
    | refine State.coreMark_touch (sub_trans (by decide) hw) _ _ _ ?_
    | (apply touch_ite_then; on_goal 1 => solve | (repeat' first | exact Touch.refl _ _ | refine State.updEng_touch (sub_trans (by decide) hw) _ _ _ ?_ | refine State.raise_touch (sub_trans (by decide) hw) _ _ ?_ | refine State.coreMark_touch (sub_trans (by decide) hw) _ _ _ ?_ | apply touch_foldl))
    | (apply touch_ite_else; on_goal 1 => solve | (repeat' first | exact Touch.refl _ _ | refine State.updEng_touch (sub_trans (by decide) hw) _ _ _ ?_ | refine State.raise_touch (sub_trans (by decide) hw) _ _ ?_ | refine State.coreMark_touch (sub_trans (by decide) hw) _ _ _ ?_ | apply touch_foldl))
    | apply touch_ite

theorem State.jobDone_touch (hw : 538968577 ||| w = w) : ∀ s i j status, Touch w s₀ s → Touch w s₀ (State.jobDone s i j status) := by
  intro s i j status h; unfold State.jobDone; try dsimp only
  repeat' with_reducible first
    | exact h
    | exact Touch.refl _ _
    | refine State.updEng_touch (sub_trans (by decide) hw) _ _ _ ?_
    | refine State.flow_touch (sub_trans (by decide) hw) _ _ _ ?_
    | refine State.bump_touch (sub_trans (by decide) hw) _ _ _ ?_
    | refine State.cplPush_touch (sub_trans (by decide) hw) _ _ _ _ ?_
    | apply touch_foldl
    | refine touch_snd (by assumption) ?_
    | (intro _; try dsimp only)
    | assumption
    | split

theorem State.pkeOffline_touch (hw : 538968577 ||| w = w) : ∀ s i, Touch w s₀ s → Touch w s₀ (State.pkeOffline s i) := by
  intro s i h; unfold State.pkeOffline; try dsimp only
  repeat' with_reducible first
    | exact h
    | exact Touch.refl _ _
    | refine State.raise_touch (sub_trans (by decide) hw) _ _ ?_
    | refine State.updEng_touch (sub_trans (by decide) hw) _ _ _ ?_
    | refine State.jobDone_touch (sub_trans (by decide) hw) _ _ _ _ ?_
    | (apply touch_ite_then; on_goal 1 => solve | (repeat' first | exact Touch.refl _ _ | refine State.raise_touch (sub_trans (by decide) hw) _ _ ?_ | refine State.updEng_touch (sub_trans (by decide) hw) _ _ _ ?_ | refine State.jobDone_touch (sub_trans (by decide) hw) _ _ _ _ ?_ | apply touch_foldl))
    | (apply touch_ite_else; on_goal 1 => solve | (repeat' first | exact Touch.refl _ _ | refine State.raise_touch (sub_trans (by decide) hw) _ _ ?_ | refine State.updEng_touch (sub_trans (by decide) hw) _ _ _ ?_ | refine State.jobDone_touch (sub_trans (by decide) hw) _ _ _ _ ?_ | apply touch_foldl | (intro _ _; try dsimp only)))

theorem State.pkeRetire_touch (hw : 538968577 ||| w = w) : ∀ s i, Touch w s₀ s → Touch w s₀ (State.pkeRetire s i) := by
  intro s i h; unfold State.pkeRetire; try dsimp only
  repeat' with_reducible first
    | exact h
    | exact Touch.refl _ _
    | refine State.pkeOffline_touch (sub_trans (by decide) hw) _ _ ?_
    | refine State.updEng_touch (sub_trans (by decide) hw) _ _ _ ?_
    | refine State.alarmSync_touch (sub_trans (by decide) hw) _ ?_
    | refine State.raise_touch (sub_trans (by decide) hw) _ _ ?_
    | refine State.orBits_touch (sub_trans (by decide) hw) _ _ _ ?_
    | (apply touch_ite_then; on_goal 1 => solve | (repeat' first | exact Touch.refl _ _ | refine State.pkeOffline_touch (sub_trans (by decide) hw) _ _ ?_ | refine State.updEng_touch (sub_trans (by decide) hw) _ _ _ ?_ | refine State.alarmSync_touch (sub_trans (by decide) hw) _ ?_ | refine State.raise_touch (sub_trans (by decide) hw) _ _ ?_ | refine State.orBits_touch (sub_trans (by decide) hw) _ _ _ ?_ | apply touch_foldl))
    | (apply touch_ite_else; on_goal 1 => solve | (repeat' first | exact Touch.refl _ _ | refine State.pkeOffline_touch (sub_trans (by decide) hw) _ _ ?_ | refine State.updEng_touch (sub_trans (by decide) hw) _ _ _ ?_ | refine State.alarmSync_touch (sub_trans (by decide) hw) _ ?_ | refine State.raise_touch (sub_trans (by decide) hw) _ _ ?_ | refine State.orBits_touch (sub_trans (by decide) hw) _ _ _ ?_))

theorem State.pkeFault_touch (hw : 538968577 ||| w = w) : ∀ s i, Touch w s₀ s → Touch w s₀ (State.pkeFault s i) := by
  intro s i h; unfold State.pkeFault; try dsimp only
  repeat' with_reducible first
    | exact h
    | exact Touch.refl _ _
    | refine State.raise_touch (sub_trans (by decide) hw) _ _ ?_
    | refine State.bump_touch (sub_trans (by decide) hw) _ _ _ ?_
    | refine State.updEng_touch (sub_trans (by decide) hw) _ _ _ ?_
    | refine State.pkeRetire_touch (sub_trans (by decide) hw) _ _ ?_
    | (apply touch_ite_then; on_goal 1 => solve | (repeat' first | exact Touch.refl _ _ | refine State.raise_touch (sub_trans (by decide) hw) _ _ ?_ | refine State.bump_touch (sub_trans (by decide) hw) _ _ _ ?_ | refine State.updEng_touch (sub_trans (by decide) hw) _ _ _ ?_ | refine State.pkeRetire_touch (sub_trans (by decide) hw) _ _ ?_))

theorem State.submit_touch (hw : 538968577 ||| w = w) : ∀ s i j, Touch w s₀ s → Touch w s₀ (State.submit s i j).2 := by
  intro s i j h; unfold State.submit; try dsimp only
  repeat' with_reducible first
    | exact h
    | exact Touch.refl _ _
    | refine State.updEng_touch (sub_trans (by decide) hw) _ _ _ ?_
    | refine State.raiseLim_touch (sub_trans (by decide) hw) _ _ _ _ ?_
    | refine State.bump_touch (sub_trans (by decide) hw) _ _ _ ?_
    | apply touch_ite
    | apply touch_foldl
    | refine touch_snd (by assumption) ?_
    | (intro _; try dsimp only)
    | assumption
    | split

theorem execPkeJobGo_touch (hw : 538968577 ||| w = w) : ∀ i m s, Touch w s₀ s → TouchR w s₀ (execPkeJobGo i m s) := by
  intro i m s h; unfold execPkeJobGo; try dsimp only
  repeat' with_reducible first
    | exact h
    | exact Touch.refl _ _
    | apply touchR_next
    | apply touchR_ite
    | refine State.raise_touch (sub_trans (by decide) hw) _ _ ?_
    | refine State.submit_touch (sub_trans (by decide) hw) _ _ _ ?_
    | refine State.wr_touch (sub_trans (by decide) hw) _ _ _ ?_
    | apply touch_foldl
    | refine touch_snd (by assumption) ?_
    | (intro _; try dsimp only)
    | assumption
    | split

theorem State.bufWords_touch (hw : 1024 ||| w = w) : ∀ s c i ws, Touch w s₀ s → Touch w s₀ (State.bufWords s c i ws) := by
  intro s c i ws h; unfold State.bufWords; try dsimp only
  repeat' with_reducible first
    | exact h
    | exact Touch.refl _ _
    | refine State.updFwChan_touch (sub_trans (by decide) hw) _ _ _ ?_
    | apply touch_foldl
    | (intro _ _ _ k; try dsimp only)
    | (intro _ _; try dsimp only)

theorem State.bufWrite_touch (hw : 1024 ||| w = w) : ∀ s c at_ bs, Touch w s₀ s → Touch w s₀ (State.bufWrite s c at_ bs) := by
  intro s c at_ bs h; unfold State.bufWrite; try dsimp only
  repeat' with_reducible first
    | exact h
    | exact Touch.refl _ _
    | refine State.bufWords_touch (sub_trans (by decide) hw) _ _ _ _ ?_

theorem State.pkeRun_touch (hw : 673186305 ||| w = w) : ∀ s i j input dma trngOk, Touch w s₀ s → Touch w s₀ (State.pkeRun s i j input dma trngOk) := by
  intro s i j input dma trngOk h; unfold State.pkeRun; try dsimp only
  repeat' with_reducible first
    | exact h
    | exact Touch.refl _ _
    | refine State.updEng_touch (sub_trans (by decide) hw) _ _ _ ?_
    | refine State.raise_touch (sub_trans (by decide) hw) _ _ ?_
    | refine State.draw_touch (sub_trans (by decide) hw) _ ?_
    | (apply touch_ite_then; on_goal 1 => solve | (repeat' first | exact Touch.refl _ _ | refine State.updEng_touch (sub_trans (by decide) hw) _ _ _ ?_ | refine State.raise_touch (sub_trans (by decide) hw) _ _ ?_ | refine State.draw_touch (sub_trans (by decide) hw) _ ?_ | apply touch_foldl))
    | (apply touch_ite_else; on_goal 1 => solve | (repeat' first | exact Touch.refl _ _ | refine State.updEng_touch (sub_trans (by decide) hw) _ _ _ ?_ | refine State.raise_touch (sub_trans (by decide) hw) _ _ ?_ | refine State.draw_touch (sub_trans (by decide) hw) _ ?_ | apply touch_foldl))
    | apply touch_ite

theorem execPkeJobStart_touch (hw : 673186313 ||| w = w) : ∀ i input dma trngOk s, Touch w s₀ s → TouchR w s₀ (execPkeJobStart i input dma trngOk s) := by
  intro i input dma trngOk s h; unfold execPkeJobStart; try dsimp only
  repeat' with_reducible first
    | exact h
    | exact Touch.refl _ _
    | apply touchR_next
    | apply touchR_ite
    | refine State.advTo_touch (sub_trans (by decide) hw) _ _ ?_
    | refine State.bump_touch (sub_trans (by decide) hw) _ _ _ ?_
    | refine State.updEng_touch (sub_trans (by decide) hw) _ _ _ ?_
    | refine State.pkeRun_touch (sub_trans (by decide) hw) _ _ _ _ _ _ ?_
    | apply touch_ite
    | apply touch_foldl
    | refine touch_snd (by assumption) ?_
    | (intro _; try dsimp only)
    | assumption
    | split

theorem execPkeWipeDone_touch (hw : 2097673 ||| w = w) : ∀ i s, Touch w s₀ s → TouchR w s₀ (execPkeWipeDone i s) := by
  intro i s h; unfold execPkeWipeDone; try dsimp only
  repeat' with_reducible first
    | exact h
    | exact Touch.refl _ _
    | apply touchR_next
    | apply touchR_ite
    | refine State.pkeBusy_touch (sub_trans (by decide) hw) _ _ _ ?_
    | refine State.advTo_touch (sub_trans (by decide) hw) _ _ ?_
    | refine State.updEng_touch (sub_trans (by decide) hw) _ _ _ ?_
    | apply touch_foldl
    | refine touch_snd (by assumption) ?_
    | (intro _; try dsimp only)
    | assumption
    | split

theorem State.pkeEnd_touch (hw : 538969601 ||| w = w) : ∀ s i r status wiped sent, Touch w s₀ s → Touch w s₀ (State.pkeEnd s i r status wiped sent) := by
  intro s i r status wiped sent h; unfold State.pkeEnd; try dsimp only
  repeat' with_reducible first
    | exact h
    | exact Touch.refl _ _
    | refine State.pkeBusy_touch (sub_trans (by decide) hw) _ _ _ ?_
    | refine State.slotSet_touch (sub_trans (by decide) hw) _ _ _ ?_
    | refine State.bump_touch (sub_trans (by decide) hw) _ _ _ ?_
    | refine State.bufWrite_touch (sub_trans (by decide) hw) _ _ _ _ ?_
    | refine State.emit_touch (sub_trans (by decide) hw) _ _ ?_
    | refine State.updEng_touch (sub_trans (by decide) hw) _ _ _ ?_
    | refine State.jobDone_touch (sub_trans (by decide) hw) _ _ _ _ ?_
    | refine State.pkeFault_touch (sub_trans (by decide) hw) _ _ ?_
    | (apply touch_ite_then; on_goal 1 => solve | (repeat' first | exact Touch.refl _ _ | refine State.pkeBusy_touch (sub_trans (by decide) hw) _ _ _ ?_ | refine State.slotSet_touch (sub_trans (by decide) hw) _ _ _ ?_ | refine State.bump_touch (sub_trans (by decide) hw) _ _ _ ?_ | refine State.bufWrite_touch (sub_trans (by decide) hw) _ _ _ _ ?_ | refine State.emit_touch (sub_trans (by decide) hw) _ _ ?_ | refine State.updEng_touch (sub_trans (by decide) hw) _ _ _ ?_ | refine State.jobDone_touch (sub_trans (by decide) hw) _ _ _ _ ?_ | refine State.pkeFault_touch (sub_trans (by decide) hw) _ _ ?_ | apply touch_foldl))
    | (apply touch_ite_else; on_goal 1 => solve | (repeat' first | exact Touch.refl _ _ | refine State.pkeBusy_touch (sub_trans (by decide) hw) _ _ _ ?_ | refine State.slotSet_touch (sub_trans (by decide) hw) _ _ _ ?_ | refine State.bump_touch (sub_trans (by decide) hw) _ _ _ ?_ | refine State.bufWrite_touch (sub_trans (by decide) hw) _ _ _ _ ?_ | refine State.emit_touch (sub_trans (by decide) hw) _ _ ?_ | refine State.updEng_touch (sub_trans (by decide) hw) _ _ _ ?_ | refine State.jobDone_touch (sub_trans (by decide) hw) _ _ _ _ ?_ | refine State.pkeFault_touch (sub_trans (by decide) hw) _ _ ?_ | apply touch_foldl))
    | apply touch_ite
    | apply touch_foldl
    | refine touch_snd (by assumption) ?_
    | (intro _; try dsimp only)
    | assumption
    | split

theorem State.abortRunning_touch (hw : 538968577 ||| w = w) : ∀ s i r, Touch w s₀ s → Touch w s₀ (State.abortRunning s i r) := by
  intro s i r h; unfold State.abortRunning; try dsimp only
  repeat' with_reducible first
    | exact h
    | exact Touch.refl _ _
    | refine State.updEng_touch (sub_trans (by decide) hw) _ _ _ ?_
    | refine State.raise_touch (sub_trans (by decide) hw) _ _ ?_
    | refine State.bump_touch (sub_trans (by decide) hw) _ _ _ ?_
    | refine State.pkeBusy_touch (sub_trans (by decide) hw) _ _ _ ?_
    | refine State.jobDone_touch (sub_trans (by decide) hw) _ _ _ _ ?_

theorem State.abortPending_touch (hw : 538968577 ||| w = w) : ∀ s i j, Touch w s₀ s → Touch w s₀ (State.abortPending s i j) := by
  intro s i j h; unfold State.abortPending; try dsimp only
  repeat' with_reducible first
    | exact h
    | exact Touch.refl _ _
    | refine State.updEng_touch (sub_trans (by decide) hw) _ _ _ ?_
    | refine State.jobDone_touch (sub_trans (by decide) hw) _ _ _ _ ?_
    | refine State.raise_touch (sub_trans (by decide) hw) _ _ ?_
    | refine State.bump_touch (sub_trans (by decide) hw) _ _ _ ?_

theorem State.outBegun_touch (hw : 268435456 ||| w = w) : ∀ s i, Touch w s₀ s → Touch w s₀ (State.outBegun s i).2 := by
  intro s i h; unfold State.outBegun; try dsimp only
  repeat' with_reducible first
    | exact h
    | exact Touch.refl _ _
    | refine State.free_touch (sub_trans (by decide) hw) _ ?_
    | apply touch_ite
    | apply touch_foldl
    | refine touch_snd (by assumption) ?_
    | (intro _; try dsimp only)
    | assumption
    | split

theorem State.abortJob_touch (hw : 538968577 ||| w = w) : ∀ s i f begun, Touch w s₀ s → Touch w s₀ (State.abortJob s i f begun).2 := by
  intro s i f begun h; unfold State.abortJob; try dsimp only
  repeat' with_reducible first
    | exact h
    | exact Touch.refl _ _
    | refine State.abortRunning_touch (sub_trans (by decide) hw) _ _ _ ?_
    | refine State.abortPending_touch (sub_trans (by decide) hw) _ _ _ ?_
    | (apply touch_ite_then; on_goal 1 => solve | (repeat' first | exact Touch.refl _ _ | refine State.abortRunning_touch (sub_trans (by decide) hw) _ _ _ ?_ | refine State.abortPending_touch (sub_trans (by decide) hw) _ _ _ ?_ | apply touch_foldl))
    | (apply touch_ite_else; on_goal 1 => solve | (repeat' first | exact Touch.refl _ _ | refine State.abortRunning_touch (sub_trans (by decide) hw) _ _ _ ?_ | refine State.abortPending_touch (sub_trans (by decide) hw) _ _ _ ?_))
    | apply touch_ite
    | apply touch_foldl
    | refine touch_snd (by assumption) ?_
    | (intro _; try dsimp only)
    | assumption
    | split

theorem State.dmaError_touch (hw : 538969609 ||| w = w) : ∀ s i output, Touch w s₀ s → Touch w s₀ (State.dmaError s i output) := by
  intro s i output h; unfold State.dmaError; try dsimp only
  repeat' with_reducible first
    | exact h
    | exact Touch.refl _ _
    | refine State.pkeEnd_touch (sub_trans (by decide) hw) _ _ _ _ _ _ ?_
    | refine State.advTo_touch (sub_trans (by decide) hw) _ _ ?_
    | (apply touch_ite_then; on_goal 1 => solve | (repeat' first | exact Touch.refl _ _ | refine State.pkeEnd_touch (sub_trans (by decide) hw) _ _ _ _ _ _ ?_ | refine State.advTo_touch (sub_trans (by decide) hw) _ _ ?_ | apply touch_foldl))
    | (apply touch_ite_else; on_goal 1 => solve | (repeat' first | exact Touch.refl _ _ | refine State.pkeEnd_touch (sub_trans (by decide) hw) _ _ _ _ _ _ ?_ | refine State.advTo_touch (sub_trans (by decide) hw) _ _ ?_ | apply touch_foldl))
    | apply touch_ite
    | apply touch_foldl
    | refine touch_snd (by assumption) ?_
    | (intro _; try dsimp only)
    | assumption
    | split

theorem State.cplFree_touch (hw : 2097152 ||| w = w) : ∀ s i, Touch w s₀ s → Touch w s₀ (State.cplFree s i) := by
  intro s i h; unfold State.cplFree; try dsimp only
  repeat' with_reducible first
    | exact h
    | exact Touch.refl _ _
    | refine State.updEng_touch (sub_trans (by decide) hw) _ _ _ ?_
    | (apply touch_ite_then; on_goal 1 => solve | (repeat' first | exact Touch.refl _ _ | refine State.updEng_touch (sub_trans (by decide) hw) _ _ _ ?_))

theorem State.cplSet_touch (hw : 538968577 ||| w = w) : ∀ s i c q, Touch w s₀ s → Touch w s₀ (State.cplSet s i c q) := by
  intro s i c q h; unfold State.cplSet; try dsimp only
  repeat' with_reducible first
    | exact h
    | exact Touch.refl _ _
    | refine State.updEng_touch (sub_trans (by decide) hw) _ _ _ ?_
    | refine State.cplFree_touch (sub_trans (by decide) hw) _ _ ?_
    | refine State.cplPush_touch (sub_trans (by decide) hw) _ _ _ _ ?_
    | apply touch_foldl
    | refine touch_snd (by assumption) ?_
    | (intro _; try dsimp only)
    | assumption
    | split

theorem execPkeCplPop_touch (hw : 538970625 ||| w = w) : ∀ i m s, Touch w s₀ s → TouchR w s₀ (execPkeCplPop i m s) := by
  intro i m s h; unfold execPkeCplPop; try dsimp only
  repeat' with_reducible first
    | exact h
    | exact Touch.refl _ _
    | apply touchR_next
    | apply touchR_ite
    | refine State.cplSet_touch (sub_trans (by decide) hw) _ _ _ _ ?_
    | fail_if_no_progress refine touch_bus (sub_trans (by decide) hw) ?_
    | apply touch_foldl
    | refine touch_snd (by assumption) ?_
    | (intro _; try dsimp only)
    | assumption
    | split

theorem State.ownJob_touch (hw : 538968577 ||| w = w) : ∀ s c p n, Touch w s₀ s → Touch w s₀ (State.ownJob s c p n) := by
  intro s c p n h; unfold State.ownJob; try dsimp only
  repeat' with_reducible first
    | exact h
    | exact Touch.refl _ _
    | refine State.pkeBusy_touch (sub_trans (by decide) hw) _ _ _ ?_
    | refine State.bump_touch (sub_trans (by decide) hw) _ _ _ ?_
    | refine State.updEng_touch (sub_trans (by decide) hw) _ _ _ ?_
    | refine State.raise_touch (sub_trans (by decide) hw) _ _ ?_
    | refine State.coreMark_touch (sub_trans (by decide) hw) _ _ _ ?_
    | refine State.flow_touch (sub_trans (by decide) hw) _ _ _ ?_
    | (apply touch_ite_then; on_goal 1 => solve | (repeat' first | exact Touch.refl _ _ | refine State.pkeBusy_touch (sub_trans (by decide) hw) _ _ _ ?_ | refine State.bump_touch (sub_trans (by decide) hw) _ _ _ ?_ | refine State.updEng_touch (sub_trans (by decide) hw) _ _ _ ?_ | refine State.raise_touch (sub_trans (by decide) hw) _ _ ?_ | refine State.coreMark_touch (sub_trans (by decide) hw) _ _ _ ?_ | refine State.flow_touch (sub_trans (by decide) hw) _ _ _ ?_))
    | apply touch_ite
    | apply touch_foldl
    | refine touch_snd (by assumption) ?_
    | (intro _; try dsimp only)
    | assumption
    | split

theorem execKeySlotReadAttr_touch (hw : 2097152 ||| w = w) : ∀ m s, Touch w s₀ s → TouchR w s₀ (execKeySlotReadAttr m s) := by
  intro m s h; unfold execKeySlotReadAttr; try dsimp only
  repeat' with_reducible first
    | exact h
    | exact Touch.refl _ _
    | apply touchR_next
    | apply touchR_ite
    | fail_if_no_progress refine touch_pke (sub_trans (by decide) hw) ?_

theorem execKeySlotDelete_touch (hw : 539230721 ||| w = w) : ∀ m s, Touch w s₀ s → TouchR w s₀ (execKeySlotDelete m s) := by
  intro m s h; unfold execKeySlotDelete; try dsimp only
  repeat' with_reducible first
    | exact h
    | exact Touch.refl _ _
    | apply touchR_next
    | apply touchR_ite
    | refine State.slotWipe_touch (sub_trans (by decide) hw) _ _ ?_
    | refine State.raise_touch (sub_trans (by decide) hw) _ _ ?_
    | fail_if_no_progress refine touch_pke (sub_trans (by decide) hw) ?_

theorem execKeySlotReadPub_touch (hw : 2097152 ||| w = w) : ∀ m s, Touch w s₀ s → TouchR w s₀ (execKeySlotReadPub m s) := by
  intro m s h; unfold execKeySlotReadPub; try dsimp only
  repeat' with_reducible first
    | exact h
    | exact Touch.refl _ _
    | apply touchR_next
    | apply touchR_ite
    | fail_if_no_progress refine touch_pke (sub_trans (by decide) hw) ?_

theorem execKeySlotExpire_touch (hw : 539230729 ||| w = w) : ∀ i s, Touch w s₀ s → TouchR w s₀ (execKeySlotExpire i s) := by
  intro i s h; unfold execKeySlotExpire; try dsimp only
  repeat' with_reducible first
    | exact h
    | exact Touch.refl _ _
    | apply touchR_next
    | apply touchR_ite
    | refine State.raise_touch (sub_trans (by decide) hw) _ _ ?_
    | refine State.slotWipe_touch (sub_trans (by decide) hw) _ _ ?_
    | refine State.advDt_touch (sub_trans (by decide) hw) _ _ ?_

theorem execKeySlotNotBefore_touch (hw : 538968585 ||| w = w) : ∀ i s, Touch w s₀ s → TouchR w s₀ (execKeySlotNotBefore i s) := by
  intro i s h; unfold execKeySlotNotBefore; try dsimp only
  repeat' with_reducible first
    | exact h
    | exact Touch.refl _ _
    | apply touchR_next
    | apply touchR_ite
    | refine State.slotSet_touch (sub_trans (by decide) hw) _ _ _ ?_
    | refine State.advDt_touch (sub_trans (by decide) hw) _ _ ?_

end Sys2Proof.Machine
end

