-- ==== Sys2Proof/Laws/Keeps/Import.lean ====
section
/-!
SUPPORT. What each operation of Import keeps.
-/

namespace Sys2Proof.Machine

variable {w : Nat} {s₀ : State}

theorem State.ntsNext_touch (hw : 539230721 ||| w = w) : ∀ s x1 ks, Touch w s₀ s → Touch w s₀ (State.ntsNext s x1 ks) := by
  intro s x1 ks h; unfold State.ntsNext; try dsimp only
  repeat' with_reducible first
    | exact h
    | exact Touch.refl _ _
    | refine State.slotSet_touch (sub_trans (by decide) hw) _ _ _ ?_
    | fail_if_no_progress refine touch_srv (sub_trans (by decide) hw) ?_

theorem State.importFail_touch (hw : 536871425 ||| w = w) : ∀ s st, Touch w s₀ s → Touch w s₀ (State.importFail s st).2 := by
  intro s st h; unfold State.importFail; try dsimp only
  repeat' with_reducible first
    | exact h
    | exact Touch.refl _ _
    | refine State.raise_touch (sub_trans (by decide) hw) _ _ ?_
    | refine State.bump_touch (sub_trans (by decide) hw) _ _ _ ?_

theorem State.importBundle_touch (hw : 539230721 ||| w = w) : ∀ s b secureChan, Touch w s₀ s → Touch w s₀ (State.importBundle s b secureChan).2 := by
  intro s b secureChan h; unfold State.importBundle; try dsimp only
  repeat' with_reducible first
    | exact h
    | exact Touch.refl _ _
    | refine State.importFail_touch (sub_trans (by decide) hw) _ _ ?_
    | refine State.ownJob_touch (sub_trans (by decide) hw) _ _ _ _ ?_
    | refine State.bump_touch (sub_trans (by decide) hw) _ _ _ ?_
    | refine State.ntsNext_touch (sub_trans (by decide) hw) _ _ _ ?_
    | refine State.slotSet_touch (sub_trans (by decide) hw) _ _ _ ?_
    | apply touch_ite
    | apply touch_foldl
    | refine touch_snd (by assumption) ?_
    | (intro _; try dsimp only)
    | assumption
    | split

end Sys2Proof.Machine
end

