-- ==== Sys2Proof/Laws/Keeps/Ntp.lean ====
section
/-!
SUPPORT. What each operation of Ntp keeps.
-/

namespace Sys2Proof.Machine

variable {w : Nat} {s₀ : State}

theorem State.replyNonce_touch (hw : 262144 ||| w = w) : ∀ s cell, Touch w s₀ s → Touch w s₀ (State.replyNonce s cell).2 := by
  intro s cell h; unfold State.replyNonce; try dsimp only
  repeat' with_reducible first
    | exact h
    | exact Touch.refl _ _
    | fail_if_no_progress refine touch_srv (sub_trans (by decide) hw) ?_

theorem State.cookieCount_touch (hw : 262144 ||| w = w) : ∀ s sealer n, Touch w s₀ s → Touch w s₀ (State.cookieCount s sealer n).2 := by
  intro s sealer n h; unfold State.cookieCount; try dsimp only
  repeat' with_reducible first
    | exact h
    | exact Touch.refl _ _
    | fail_if_no_progress refine touch_srv (sub_trans (by decide) hw) ?_

end Sys2Proof.Machine
end

