-- ==== Sys2Proof/Laws/Keeps/Carafe.lean ====
section
/-!
SUPPORT. What each operation of Carafe keeps.
-/

namespace Sys2Proof.Machine

variable {w : Nat} {s₀ : State}

theorem State.deleWipe_touch (hw : 539755009 ||| w = w) : ∀ s, Touch w s₀ s → Touch w s₀ (State.deleWipe s) := by
  intro s h; unfold State.deleWipe; try dsimp only
  repeat' with_reducible first
    | exact h
    | exact Touch.refl _ _
    | refine State.slotWipe_touch (sub_trans (by decide) hw) _ _ ?_
    | fail_if_no_progress refine touch_rt (sub_trans (by decide) hw) ?_
    | (apply touch_ite_then; on_goal 1 => solve | (repeat' first | exact Touch.refl _ _ | refine State.slotWipe_touch (sub_trans (by decide) hw) _ _ ?_ | fail_if_no_progress refine touch_rt (sub_trans (by decide) hw) ?_ | apply touch_foldl))
    | (apply touch_ite_else; on_goal 1 => solve | (repeat' first | exact Touch.refl _ _ | refine State.slotWipe_touch (sub_trans (by decide) hw) _ _ ?_ | fail_if_no_progress refine touch_rt (sub_trans (by decide) hw) ?_))
    | apply touch_ite
    | apply touch_foldl
    | refine touch_snd (by assumption) ?_
    | (intro _; try dsimp only)
    | assumption
    | split

theorem State.deleTake_touch (hw : 539755009 ||| w = w) : ∀ s d, Touch w s₀ s → Touch w s₀ (State.deleTake s d) := by
  intro s d h; unfold State.deleTake; try dsimp only
  repeat' with_reducible first
    | exact h
    | exact Touch.refl _ _
    | refine State.deleWipe_touch (sub_trans (by decide) hw) _ ?_
    | refine State.raise_touch (sub_trans (by decide) hw) _ _ ?_
    | fail_if_no_progress refine touch_rt (sub_trans (by decide) hw) ?_

theorem State.dropCarafe_touch (hw : 539755009 ||| w = w) : ∀ s id, Touch w s₀ s → Touch w s₀ (State.dropCarafe s id) := by
  intro s id h; unfold State.dropCarafe; try dsimp only
  repeat' with_reducible first
    | exact h
    | exact Touch.refl _ _
    | refine State.deleWipe_touch (sub_trans (by decide) hw) _ ?_
    | fail_if_no_progress refine touch_rt (sub_trans (by decide) hw) ?_

theorem State.updCarafe_touch (hw : 524288 ||| w = w) : ∀ s id f, Touch w s₀ s → Touch w s₀ (State.updCarafe s id f) := by
  intro s id f h; unfold State.updCarafe; try dsimp only
  repeat' with_reducible first
    | exact h
    | exact Touch.refl _ _
    | fail_if_no_progress refine touch_rt (sub_trans (by decide) hw) ?_

theorem State.seal_touch (hw : 539755009 ||| w = w) : ∀ s x1 ls, Touch w s₀ s → Touch w s₀ (State.seal s x1 ls) := by
  intro s x1 ls h; unfold State.seal; try dsimp only
  repeat' with_reducible first
    | exact h
    | exact Touch.refl _ _
    | refine State.deleTake_touch (sub_trans (by decide) hw) _ _ ?_
    | refine State.bump_touch (sub_trans (by decide) hw) _ _ _ ?_
    | fail_if_no_progress refine touch_rt (sub_trans (by decide) hw) ?_
    | (apply touch_ite_then; on_goal 1 => solve | (repeat' first | exact Touch.refl _ _ | refine State.deleTake_touch (sub_trans (by decide) hw) _ _ ?_ | refine State.bump_touch (sub_trans (by decide) hw) _ _ _ ?_ | fail_if_no_progress refine touch_rt (sub_trans (by decide) hw) ?_ | apply touch_foldl))
    | (apply touch_ite_else; on_goal 1 => solve | (repeat' first | exact Touch.refl _ _ | refine State.deleTake_touch (sub_trans (by decide) hw) _ _ ?_ | refine State.bump_touch (sub_trans (by decide) hw) _ _ _ ?_ | fail_if_no_progress refine touch_rt (sub_trans (by decide) hw) ?_ | apply touch_foldl))
    | apply touch_ite
    | apply touch_foldl
    | refine touch_snd (by assumption) ?_
    | (intro _; try dsimp only)
    | assumption
    | split

theorem State.closeDeferred_touch (hw : 536871425 ||| w = w) : ∀ s, Touch w s₀ s → Touch w s₀ (State.closeDeferred s) := by
  intro s h; unfold State.closeDeferred; try dsimp only
  repeat' with_reducible first
    | exact h
    | exact Touch.refl _ _
    | refine State.raiseLim_touch (sub_trans (by decide) hw) _ _ _ _ ?_
    | refine State.bump_touch (sub_trans (by decide) hw) _ _ _ ?_

theorem State.rtOpenAt_touch (hw : 524288 ||| w = w) : ∀ s x1 t, Touch w s₀ s → Touch w s₀ (State.rtOpenAt s x1 t) := by
  intro s x1 t h; unfold State.rtOpenAt; try dsimp only
  repeat' with_reducible first
    | exact h
    | exact Touch.refl _ _
    | refine State.updOpenCarafe_touch (sub_trans (by decide) hw) _ _ _ ?_

theorem State.rtOpen_touch (hw : 524288 ||| w = w) : ∀ s x1, Touch w s₀ s → Touch w s₀ (State.rtOpen s x1) := by
  intro s x1 h; unfold State.rtOpen; try dsimp only
  repeat' with_reducible first
    | exact h
    | exact Touch.refl _ _
    | refine State.rtOpenAt_touch (sub_trans (by decide) hw) _ _ _ ?_
    | (apply touch_ite_then; on_goal 1 => solve | (repeat' first | exact Touch.refl _ _ | refine State.rtOpenAt_touch (sub_trans (by decide) hw) _ _ _ ?_ | apply touch_foldl))
    | (apply touch_ite_else; on_goal 1 => solve | (repeat' first | exact Touch.refl _ _ | refine State.rtOpenAt_touch (sub_trans (by decide) hw) _ _ _ ?_))

theorem State.sealDraining_touch (hw : 539755009 ||| w = w) : ∀ s x1 d, Touch w s₀ s → Touch w s₀ (State.sealDraining s x1 d) := by
  intro s x1 d h; unfold State.sealDraining; try dsimp only
  repeat' with_reducible first
    | exact h
    | exact Touch.refl _ _
    | refine State.seal_touch (sub_trans (by decide) hw) _ _ _ ?_
    | refine State.updOpenCarafe_touch (sub_trans (by decide) hw) _ _ _ ?_

theorem State.sizeClose_touch (hw : 539755009 ||| w = w) : ∀ s x1, Touch w s₀ s → Touch w s₀ (State.sizeClose s x1) := by
  intro s x1 h; unfold State.sizeClose; try dsimp only
  repeat' with_reducible first
    | exact h
    | exact Touch.refl _ _
    | refine State.closeDeferred_touch (sub_trans (by decide) hw) _ ?_
    | refine State.seal_touch (sub_trans (by decide) hw) _ _ _ ?_
    | refine State.rtOpenAt_touch (sub_trans (by decide) hw) _ _ _ ?_
    | refine State.bump_touch (sub_trans (by decide) hw) _ _ _ ?_
    | (apply touch_ite_then; on_goal 1 => solve | (repeat' first | exact Touch.refl _ _ | refine State.closeDeferred_touch (sub_trans (by decide) hw) _ ?_ | refine State.seal_touch (sub_trans (by decide) hw) _ _ _ ?_ | refine State.rtOpenAt_touch (sub_trans (by decide) hw) _ _ _ ?_ | refine State.bump_touch (sub_trans (by decide) hw) _ _ _ ?_ | apply touch_foldl))
    | (apply touch_ite_else; on_goal 1 => solve | (repeat' first | exact Touch.refl _ _ | refine State.closeDeferred_touch (sub_trans (by decide) hw) _ ?_ | refine State.seal_touch (sub_trans (by decide) hw) _ _ _ ?_ | refine State.rtOpenAt_touch (sub_trans (by decide) hw) _ _ _ ?_ | refine State.bump_touch (sub_trans (by decide) hw) _ _ _ ?_ | apply touch_foldl))
    | apply touch_ite

theorem State.leafAdd_touch (hw : 539755009 ||| w = w) : ∀ s x1 l, Touch w s₀ s → Touch w s₀ (State.leafAdd s x1 l) := by
  intro s x1 l h; unfold State.leafAdd; try dsimp only
  repeat' with_reducible first
    | exact h
    | exact Touch.refl _ _
    | refine State.raiseLim_touch (sub_trans (by decide) hw) _ _ _ _ ?_
    | refine State.bump_touch (sub_trans (by decide) hw) _ _ _ ?_
    | refine State.updOpenCarafe_touch (sub_trans (by decide) hw) _ _ _ ?_
    | refine State.sealDraining_touch (sub_trans (by decide) hw) _ _ _ ?_
    | refine State.sizeClose_touch (sub_trans (by decide) hw) _ _ ?_
    | (apply touch_ite_then; on_goal 1 => solve | (repeat' first | exact Touch.refl _ _ | refine State.raiseLim_touch (sub_trans (by decide) hw) _ _ _ _ ?_ | refine State.bump_touch (sub_trans (by decide) hw) _ _ _ ?_ | refine State.updOpenCarafe_touch (sub_trans (by decide) hw) _ _ _ ?_ | refine State.sealDraining_touch (sub_trans (by decide) hw) _ _ _ ?_ | refine State.sizeClose_touch (sub_trans (by decide) hw) _ _ ?_ | apply touch_foldl))
    | (apply touch_ite_else; on_goal 1 => solve | (repeat' first | exact Touch.refl _ _ | refine State.raiseLim_touch (sub_trans (by decide) hw) _ _ _ _ ?_ | refine State.bump_touch (sub_trans (by decide) hw) _ _ _ ?_ | refine State.updOpenCarafe_touch (sub_trans (by decide) hw) _ _ _ ?_ | refine State.sealDraining_touch (sub_trans (by decide) hw) _ _ _ ?_ | refine State.sizeClose_touch (sub_trans (by decide) hw) _ _ ?_ | apply touch_foldl))
    | apply touch_ite
    | apply touch_foldl
    | refine touch_snd (by assumption) ?_
    | (intro _; try dsimp only)
    | assumption
    | split

theorem State.abortCarafe_touch (hw : 807404033 ||| w = w) : ∀ s c, Touch w s₀ s → Touch w s₀ (State.abortCarafe s c) := by
  intro s c h; unfold State.abortCarafe; try dsimp only
  repeat' with_reducible first
    | exact h
    | exact Touch.refl _ _
    | refine State.outBegun_touch (sub_trans (by decide) hw) _ _ ?_
    | refine State.abortJob_touch (sub_trans (by decide) hw) _ _ _ _ ?_
    | apply touch_foldl
    | refine touch_snd (by assumption) ?_
    | (intro _; try dsimp only)
    | assumption
    | split

theorem State.carafeIntr_touch (hw : 808190465 ||| w = w) : ∀ s x1, Touch w s₀ s → Touch w s₀ (State.carafeIntr s x1) := by
  intro s x1 h; unfold State.carafeIntr; try dsimp only
  repeat' with_reducible first
    | exact h
    | exact Touch.refl _ _
    | refine State.dropCarafe_touch (sub_trans (by decide) hw) _ _ ?_
    | refine State.abortCarafe_touch (sub_trans (by decide) hw) _ _ ?_
    | refine State.bump_touch (sub_trans (by decide) hw) _ _ _ ?_
    | refine State.updOpenCarafe_touch (sub_trans (by decide) hw) _ _ _ ?_
    | apply touch_foldl
    | (intro _ _ _ k; try dsimp only)
    | (intro _ _; try dsimp only)

theorem State.carafeStep_touch (hw : 808190465 ||| w = w) : ∀ s, Touch w s₀ s → Touch w s₀ (State.carafeStep s).2 := by
  intro s h; unfold State.carafeStep; try dsimp only
  repeat' with_reducible first
    | exact h
    | exact Touch.refl _ _
    | refine State.dropCarafe_touch (sub_trans (by decide) hw) _ _ ?_
    | refine State.abortCarafe_touch (sub_trans (by decide) hw) _ _ ?_
    | refine State.rtOpenAt_touch (sub_trans (by decide) hw) _ _ _ ?_
    | refine State.updOpenCarafe_touch (sub_trans (by decide) hw) _ _ _ ?_
    | apply touch_foldl
    | (intro _ _ _ k; try dsimp only)
    | (intro _ _; try dsimp only)

end Sys2Proof.Machine
end

