-- ==== Sys2Proof/Laws/Keeps/PtpMsg.lean ====
section
/-!
SUPPORT. What each operation of PtpMsg keeps.
-/

namespace Sys2Proof.Machine

variable {w : Nat} {s₀ : State}

theorem State.coreSend_touch (hw : 536875521 ||| w = w) : ∀ s n v6 addr tag m, Touch w s₀ s → Touch w s₀ (State.coreSend s n v6 addr tag m) := by
  intro s n v6 addr tag m h; unfold State.coreSend; try dsimp only
  repeat' with_reducible first
    | exact h
    | exact Touch.refl _ _
    | refine State.bePush_touch (sub_trans (by decide) hw) _ _ _ _ _ _ _ ?_

theorem State.portSignal_touch (hw : 537924097 ||| w = w) : ∀ s n v6 addr tag target tlv, Touch w s₀ s → Touch w s₀ (State.portSignal s n v6 addr tag target tlv) := by
  intro s n v6 addr tag target tlv h; unfold State.portSignal; try dsimp only
  repeat' with_reducible first
    | exact h
    | exact Touch.refl _ _
    | refine State.updPtpPort_touch (sub_trans (by decide) hw) _ _ _ ?_
    | refine State.coreSend_touch (sub_trans (by decide) hw) _ _ _ _ _ _ ?_
    | apply touch_foldl
    | refine touch_snd (by assumption) ?_
    | (intro _; try dsimp only)
    | assumption
    | split

theorem State.grantVerdict_touch (hw : 1048576 ||| w = w) : ∀ s r, Touch w s₀ s → Touch w s₀ (State.grantVerdict s r).2 := by
  intro s r h; unfold State.grantVerdict; try dsimp only
  repeat' with_reducible first
    | exact h
    | exact Touch.refl _ _
    | refine State.updGrant_touch (sub_trans (by decide) hw) _ _ _ ?_
    | apply touch_ite
    | apply touch_foldl
    | refine touch_snd (by assumption) ?_
    | (intro _; try dsimp only)
    | assumption
    | split

theorem State.grantSpend_touch (hw : 1048576 ||| w = w) : ∀ s r, Touch w s₀ s → Touch w s₀ (State.grantSpend s r) := by
  intro s r h; unfold State.grantSpend; try dsimp only
  repeat' with_reducible first
    | exact h
    | exact Touch.refl _ _
    | refine State.updGrant_touch (sub_trans (by decide) hw) _ _ _ ?_
    | apply touch_foldl
    | refine touch_snd (by assumption) ?_
    | (intro _; try dsimp only)
    | assumption
    | split

theorem State.lookupV1_touch (hw : 538051073 ||| w = w) : ∀ s r, Touch w s₀ s → Touch w s₀ (State.lookupV1 s r).2 := by
  intro s r h; unfold State.lookupV1; try dsimp only
  repeat' with_reducible first
    | exact h
    | exact Touch.refl _ _
    | refine State.grantVerdict_touch (sub_trans (by decide) hw) _ _ ?_
    | refine State.verdict1_touch (sub_trans (by decide) hw) _ _ _ _ ?_
    | refine State.grantSpend_touch (sub_trans (by decide) hw) _ _ ?_
    | (apply touch_ite_then; on_goal 1 => solve | (repeat' first | exact Touch.refl _ _ | refine State.grantVerdict_touch (sub_trans (by decide) hw) _ _ ?_ | refine State.verdict1_touch (sub_trans (by decide) hw) _ _ _ _ ?_ | refine State.grantSpend_touch (sub_trans (by decide) hw) _ _ ?_))
    | apply touch_ite
    | apply touch_foldl
    | refine touch_snd (by assumption) ?_
    | (intro _; try dsimp only)
    | assumption
    | split

end Sys2Proof.Machine
end

