-- ==== Sys2Proof/Laws/Keeps/Cells.lean ====
section
/-!
SUPPORT. What each operation of Cells keeps.
-/

namespace Sys2Proof.Machine

variable {w : Nat} {s₀ : State}

theorem State.setBusy_touch (hw : 65536 ||| w = w) : ∀ s x1 c b, Touch w s₀ s → Touch w s₀ (State.setBusy s x1 c b) := by
  intro s x1 c b h; unfold State.setBusy; try dsimp only
  repeat' with_reducible first
    | exact h
    | exact Touch.refl _ _
    | refine State.updClu_touch (sub_trans (by decide) hw) _ _ _ ?_

theorem State.freeCredit_touch (hw : 65536 ||| w = w) : ∀ s r, Touch w s₀ s → Touch w s₀ (State.freeCredit s r) := by
  intro s r h; unfold State.freeCredit; try dsimp only
  repeat' with_reducible first
    | exact h
    | exact Touch.refl _ _
    | refine State.updClu_touch (sub_trans (by decide) hw) _ _ _ ?_
    | apply touch_foldl
    | refine touch_snd (by assumption) ?_
    | (intro _; try dsimp only)
    | assumption
    | split

theorem State.freeSlots_touch (hw : 65536 ||| w = w) : ∀ s x1 r, Touch w s₀ s → Touch w s₀ (State.freeSlots s x1 r) := by
  intro s x1 r h; unfold State.freeSlots; try dsimp only
  repeat' with_reducible first
    | exact h
    | exact Touch.refl _ _
    | refine State.freeCredit_touch (sub_trans (by decide) hw) _ _ ?_
    | refine State.updClu_touch (sub_trans (by decide) hw) _ _ _ ?_

theorem State.dwell_touch (hw : 65536 ||| w = w) : ∀ s x1, Touch w s₀ s → Touch w s₀ (State.dwell s x1) := by
  intro s x1 h; unfold State.dwell; try dsimp only
  repeat' with_reducible first
    | exact h
    | exact Touch.refl _ _
    | refine State.updClu_touch (sub_trans (by decide) hw) _ _ _ ?_
    | (apply touch_ite_then; on_goal 1 => solve | (repeat' first | exact Touch.refl _ _ | refine State.updClu_touch (sub_trans (by decide) hw) _ _ _ ?_ | apply touch_foldl))
    | (apply touch_ite_else; on_goal 1 => solve | (repeat' first | exact Touch.refl _ _ | refine State.updClu_touch (sub_trans (by decide) hw) _ _ _ ?_ | apply touch_foldl))
    | apply touch_ite

theorem State.lowWater_touch (hw : 65536 ||| w = w) : ∀ s x1, Touch w s₀ s → Touch w s₀ (State.lowWater s x1) := by
  intro s x1 h; unfold State.lowWater; try dsimp only
  repeat' with_reducible first
    | exact h
    | exact Touch.refl _ _
    | refine State.updClu_touch (sub_trans (by decide) hw) _ _ _ ?_
    | (apply touch_ite_then; on_goal 1 => solve | (repeat' first | exact Touch.refl _ _ | refine State.updClu_touch (sub_trans (by decide) hw) _ _ _ ?_ | apply touch_foldl))
    | (apply touch_ite_else; on_goal 1 => solve | (repeat' first | exact Touch.refl _ _ | refine State.updClu_touch (sub_trans (by decide) hw) _ _ _ ?_ | apply touch_foldl))
    | apply touch_ite

theorem State.watch_touch (hw : 65536 ||| w = w) : ∀ s x1, Touch w s₀ s → Touch w s₀ (State.watch s x1) := by
  intro s x1 h; unfold State.watch; try dsimp only
  repeat' with_reducible first
    | exact h
    | exact Touch.refl _ _
    | refine State.lowWater_touch (sub_trans (by decide) hw) _ _ ?_
    | refine State.dwell_touch (sub_trans (by decide) hw) _ _ ?_

theorem State.enqueue_touch (hw : 65537 ||| w = w) : ∀ s x1 r stolen, Touch w s₀ s → Touch w s₀ (State.enqueue s x1 r stolen) := by
  intro s x1 r stolen h; unfold State.enqueue; try dsimp only
  repeat' with_reducible first
    | exact h
    | exact Touch.refl _ _
    | refine State.updClu_touch (sub_trans (by decide) hw) _ _ _ ?_
    | refine State.watch_touch (sub_trans (by decide) hw) _ _ ?_
    | refine State.keepMax_touch (sub_trans (by decide) hw) _ _ _ ?_

theorem State.dropFull_touch (hw : 536871425 ||| w = w) : ∀ s x1, Touch w s₀ s → Touch w s₀ (State.dropFull s x1) := by
  intro s x1 h; unfold State.dropFull; try dsimp only
  repeat' with_reducible first
    | exact h
    | exact Touch.refl _ _
    | refine State.raiseLim_touch (sub_trans (by decide) hw) _ _ _ _ ?_
    | refine State.bump_touch (sub_trans (by decide) hw) _ _ _ ?_
    | (apply touch_ite_then; on_goal 1 => solve | (repeat' first | exact Touch.refl _ _ | refine State.raiseLim_touch (sub_trans (by decide) hw) _ _ _ _ ?_ | refine State.bump_touch (sub_trans (by decide) hw) _ _ _ ?_ | apply touch_foldl))
    | (apply touch_ite_else; on_goal 1 => solve | (repeat' first | exact Touch.refl _ _ | refine State.raiseLim_touch (sub_trans (by decide) hw) _ _ _ _ ?_ | refine State.bump_touch (sub_trans (by decide) hw) _ _ _ ?_ | apply touch_foldl))
    | apply touch_ite

theorem State.sprayNext_touch (hw : 32768 ||| w = w) : ∀ s n x2, Touch w s₀ s → Touch w s₀ (State.sprayNext s n x2) := by
  intro s n x2 h; unfold State.sprayNext; try dsimp only
  repeat' with_reducible first
    | exact h
    | exact Touch.refl _ _
    | fail_if_no_progress refine touch_cls (sub_trans (by decide) hw) ?_

theorem State.place_touch (hw : 536969729 ||| w = w) : ∀ s r, Touch w s₀ s → Touch w s₀ (State.place s r) := by
  intro s r h; unfold State.place; try dsimp only
  repeat' with_reducible first
    | exact h
    | exact Touch.refl _ _
    | refine State.updClu_touch (sub_trans (by decide) hw) _ _ _ ?_
    | refine State.enqueue_touch (sub_trans (by decide) hw) _ _ _ _ ?_
    | refine State.bump_touch (sub_trans (by decide) hw) _ _ _ ?_
    | refine State.sprayNext_touch (sub_trans (by decide) hw) _ _ _ ?_
    | refine State.dropFull_touch (sub_trans (by decide) hw) _ _ ?_
    | (apply touch_ite_then; on_goal 1 => solve | (repeat' first | exact Touch.refl _ _ | refine State.updClu_touch (sub_trans (by decide) hw) _ _ _ ?_ | refine State.enqueue_touch (sub_trans (by decide) hw) _ _ _ _ ?_ | refine State.bump_touch (sub_trans (by decide) hw) _ _ _ ?_ | refine State.sprayNext_touch (sub_trans (by decide) hw) _ _ _ ?_ | refine State.dropFull_touch (sub_trans (by decide) hw) _ _ ?_ | apply touch_foldl))
    | (apply touch_ite_else; on_goal 1 => solve | (repeat' first | exact Touch.refl _ _ | refine State.updClu_touch (sub_trans (by decide) hw) _ _ _ ?_ | refine State.enqueue_touch (sub_trans (by decide) hw) _ _ _ _ ?_ | refine State.bump_touch (sub_trans (by decide) hw) _ _ _ ?_ | refine State.sprayNext_touch (sub_trans (by decide) hw) _ _ _ ?_ | refine State.dropFull_touch (sub_trans (by decide) hw) _ _ ?_ | apply touch_foldl))
    | apply touch_ite
    | apply touch_foldl
    | refine touch_snd (by assumption) ?_
    | (intro _; try dsimp only)
    | assumption
    | split

theorem execFrameIngress_touch (hw : 537235977 ||| w = w) : ∀ n f corr uncorr s, Touch w s₀ s → TouchR w s₀ (execFrameIngress n f corr uncorr s) := by
  intro n f corr uncorr s h; unfold execFrameIngress; try dsimp only
  repeat' with_reducible first
    | exact h
    | exact Touch.refl _ _
    | apply touchR_next
    | apply touchR_ite
    | refine State.flow_touch (sub_trans (by decide) hw) _ _ _ ?_
    | refine State.bump_touch (sub_trans (by decide) hw) _ _ _ ?_
    | refine State.fecCount_touch (sub_trans (by decide) hw) _ _ _ _ ?_
    | refine State.toHost_touch (sub_trans (by decide) hw) _ _ _ _ _ _ ?_
    | refine State.toFirmware_touch (sub_trans (by decide) hw) _ _ _ _ ?_
    | refine State.advTo_touch (sub_trans (by decide) hw) _ _ ?_
    | refine State.smearLate_touch (sub_trans (by decide) hw) _ _ ?_
    | refine State.place_touch (sub_trans (by decide) hw) _ _ ?_
    | fail_if_no_progress refine touch_cls (sub_trans (by decide) hw) ?_
    | (apply touch_ite_then; on_goal 1 => solve | (repeat' first | exact Touch.refl _ _ | refine State.flow_touch (sub_trans (by decide) hw) _ _ _ ?_ | refine State.bump_touch (sub_trans (by decide) hw) _ _ _ ?_ | refine State.fecCount_touch (sub_trans (by decide) hw) _ _ _ _ ?_ | refine State.toHost_touch (sub_trans (by decide) hw) _ _ _ _ _ _ ?_ | refine State.toFirmware_touch (sub_trans (by decide) hw) _ _ _ _ ?_ | refine State.advTo_touch (sub_trans (by decide) hw) _ _ ?_ | refine State.smearLate_touch (sub_trans (by decide) hw) _ _ ?_ | refine State.place_touch (sub_trans (by decide) hw) _ _ ?_ | fail_if_no_progress refine touch_cls (sub_trans (by decide) hw) ?_ | apply touch_foldl))
    | (apply touch_ite_else; on_goal 1 => solve | (repeat' first | exact Touch.refl _ _ | refine State.flow_touch (sub_trans (by decide) hw) _ _ _ ?_ | refine State.bump_touch (sub_trans (by decide) hw) _ _ _ ?_ | refine State.fecCount_touch (sub_trans (by decide) hw) _ _ _ _ ?_ | refine State.toHost_touch (sub_trans (by decide) hw) _ _ _ _ _ _ ?_ | refine State.toFirmware_touch (sub_trans (by decide) hw) _ _ _ _ ?_ | refine State.advTo_touch (sub_trans (by decide) hw) _ _ ?_ | refine State.smearLate_touch (sub_trans (by decide) hw) _ _ ?_ | refine State.place_touch (sub_trans (by decide) hw) _ _ ?_ | fail_if_no_progress refine touch_cls (sub_trans (by decide) hw) ?_))
    | apply touch_ite
    | apply touch_foldl
    | refine touch_snd (by assumption) ?_
    | (intro _; try dsimp only)
    | assumption
    | split

theorem State.unqueue_touch (hw : 65536 ||| w = w) : ∀ s x1 r, Touch w s₀ s → Touch w s₀ (State.unqueue s x1 r) := by
  intro s x1 r h; unfold State.unqueue; try dsimp only
  repeat' with_reducible first
    | exact h
    | exact Touch.refl _ _
    | refine State.watch_touch (sub_trans (by decide) hw) _ _ ?_
    | refine State.freeSlots_touch (sub_trans (by decide) hw) _ _ _ ?_
    | refine State.updClu_touch (sub_trans (by decide) hw) _ _ _ ?_

theorem execFcsVerdict_touch (hw : 66057 ||| w = w) : ∀ id s, Touch w s₀ s → TouchR w s₀ (execFcsVerdict id s) := by
  intro id s h; unfold execFcsVerdict; try dsimp only
  repeat' with_reducible first
    | exact h
    | exact Touch.refl _ _
    | apply touchR_next
    | apply touchR_ite
    | refine State.advTo_touch (sub_trans (by decide) hw) _ _ ?_
    | refine State.updClu_touch (sub_trans (by decide) hw) _ _ _ ?_
    | refine State.bump_touch (sub_trans (by decide) hw) _ _ _ ?_
    | refine State.unqueue_touch (sub_trans (by decide) hw) _ _ _ ?_
    | refine State.freeCredit_touch (sub_trans (by decide) hw) _ _ ?_
    | apply touch_ite
    | apply touch_foldl
    | refine touch_snd (by assumption) ?_
    | (intro _; try dsimp only)
    | assumption
    | split

theorem State.syncDrop_touch (hw : 536871425 ||| w = w) : ∀ s, Touch w s₀ s → Touch w s₀ (State.syncDrop s) := by
  intro s h; unfold State.syncDrop; try dsimp only
  repeat' with_reducible first
    | exact h
    | exact Touch.refl _ _
    | refine State.raiseLim_touch (sub_trans (by decide) hw) _ _ _ _ ?_
    | refine State.bump_touch (sub_trans (by decide) hw) _ _ _ ?_

theorem State.dropBusy_touch (hw : 73729 ||| w = w) : ∀ s x1 c, Touch w s₀ s → Touch w s₀ (State.dropBusy s x1 c) := by
  intro s x1 c h; unfold State.dropBusy; try dsimp only
  repeat' with_reducible first
    | exact h
    | exact Touch.refl _ _
    | refine State.setBusy_touch (sub_trans (by decide) hw) _ _ _ _ ?_
    | refine State.bump_touch (sub_trans (by decide) hw) _ _ _ ?_
    | refine State.freeSlots_touch (sub_trans (by decide) hw) _ _ _ ?_
    | refine State.updCal_touch (sub_trans (by decide) hw) _ _ _ ?_
    | (apply touch_ite_then; on_goal 1 => solve | (repeat' first | exact Touch.refl _ _ | refine State.setBusy_touch (sub_trans (by decide) hw) _ _ _ _ ?_ | refine State.bump_touch (sub_trans (by decide) hw) _ _ _ ?_ | refine State.freeSlots_touch (sub_trans (by decide) hw) _ _ _ ?_ | refine State.updCal_touch (sub_trans (by decide) hw) _ _ _ ?_ | apply touch_foldl))
    | (apply touch_ite_else; on_goal 1 => solve | (repeat' first | exact Touch.refl _ _ | refine State.setBusy_touch (sub_trans (by decide) hw) _ _ _ _ ?_ | refine State.bump_touch (sub_trans (by decide) hw) _ _ _ ?_ | refine State.freeSlots_touch (sub_trans (by decide) hw) _ _ _ ?_ | refine State.updCal_touch (sub_trans (by decide) hw) _ _ _ ?_ | apply touch_foldl))
    | apply touch_ite
    | apply touch_foldl
    | (intro _ _ _ k; try dsimp only)
    | (intro _ _; try dsimp only)
    | refine touch_snd (by assumption) ?_
    | (intro _; try dsimp only)
    | assumption
    | split

theorem State.retireCluster_touch (hw : 808296961 ||| w = w) : ∀ s x1, Touch w s₀ s → Touch w s₀ (State.retireCluster s x1) := by
  intro s x1 h; unfold State.retireCluster; try dsimp only
  repeat' with_reducible first
    | exact h
    | exact Touch.refl _ _
    | refine State.dropBusy_touch (sub_trans (by decide) hw) _ _ _ ?_
    | refine State.bump_touch (sub_trans (by decide) hw) _ _ _ ?_
    | refine State.freeCredit_touch (sub_trans (by decide) hw) _ _ ?_
    | refine State.updClu_touch (sub_trans (by decide) hw) _ _ _ ?_
    | refine State.orBits_touch (sub_trans (by decide) hw) _ _ _ ?_
    | refine State.carafeIntr_touch (sub_trans (by decide) hw) _ _ ?_
    | refine State.alarmSync_touch (sub_trans (by decide) hw) _ ?_
    | fail_if_no_progress refine touch_cls (sub_trans (by decide) hw) ?_
    | (apply touch_ite_then; on_goal 1 => solve | (repeat' first | exact Touch.refl _ _ | refine State.dropBusy_touch (sub_trans (by decide) hw) _ _ _ ?_ | refine State.bump_touch (sub_trans (by decide) hw) _ _ _ ?_ | refine State.freeCredit_touch (sub_trans (by decide) hw) _ _ ?_ | refine State.updClu_touch (sub_trans (by decide) hw) _ _ _ ?_ | refine State.orBits_touch (sub_trans (by decide) hw) _ _ _ ?_ | refine State.carafeIntr_touch (sub_trans (by decide) hw) _ _ ?_ | refine State.alarmSync_touch (sub_trans (by decide) hw) _ ?_ | fail_if_no_progress refine touch_cls (sub_trans (by decide) hw) ?_ | apply touch_foldl))
    | (apply touch_ite_else; on_goal 1 => solve | (repeat' first | exact Touch.refl _ _ | refine State.dropBusy_touch (sub_trans (by decide) hw) _ _ _ ?_ | refine State.bump_touch (sub_trans (by decide) hw) _ _ _ ?_ | refine State.freeCredit_touch (sub_trans (by decide) hw) _ _ ?_ | refine State.updClu_touch (sub_trans (by decide) hw) _ _ _ ?_ | refine State.orBits_touch (sub_trans (by decide) hw) _ _ _ ?_ | refine State.carafeIntr_touch (sub_trans (by decide) hw) _ _ ?_ | refine State.alarmSync_touch (sub_trans (by decide) hw) _ ?_ | fail_if_no_progress refine touch_cls (sub_trans (by decide) hw) ?_ | apply touch_foldl | (intro _ _; try dsimp only)))

theorem State.retireCell_touch (hw : 808296961 ||| w = w) : ∀ s x1 c, Touch w s₀ s → Touch w s₀ (State.retireCell s x1 c) := by
  intro s x1 c h; unfold State.retireCell; try dsimp only
  repeat' with_reducible first
    | exact h
    | exact Touch.refl _ _
    | refine State.updClu_touch (sub_trans (by decide) hw) _ _ _ ?_
    | refine State.dropBusy_touch (sub_trans (by decide) hw) _ _ _ ?_
    | refine State.raise_touch (sub_trans (by decide) hw) _ _ ?_
    | refine State.retireCluster_touch (sub_trans (by decide) hw) _ _ ?_
    | (apply touch_ite_then; on_goal 1 => solve | (repeat' first | exact Touch.refl _ _ | refine State.updClu_touch (sub_trans (by decide) hw) _ _ _ ?_ | refine State.dropBusy_touch (sub_trans (by decide) hw) _ _ _ ?_ | refine State.raise_touch (sub_trans (by decide) hw) _ _ ?_ | refine State.retireCluster_touch (sub_trans (by decide) hw) _ _ ?_ | apply touch_foldl))
    | (apply touch_ite_else; on_goal 1 => solve | (repeat' first | exact Touch.refl _ _ | refine State.updClu_touch (sub_trans (by decide) hw) _ _ _ ?_ | refine State.dropBusy_touch (sub_trans (by decide) hw) _ _ _ ?_ | refine State.raise_touch (sub_trans (by decide) hw) _ _ ?_ | refine State.retireCluster_touch (sub_trans (by decide) hw) _ _ ?_ | apply touch_foldl))
    | apply touch_ite

theorem execCellHang_touch (hw : 808296969 ||| w = w) : ∀ x0 c s, Touch w s₀ s → TouchR w s₀ (execCellHang x0 c s) := by
  intro x0 c s h; unfold execCellHang; try dsimp only
  repeat' with_reducible first
    | exact h
    | exact Touch.refl _ _
    | apply touchR_next
    | apply touchR_ite
    | refine State.raise_touch (sub_trans (by decide) hw) _ _ ?_
    | refine State.retireCell_touch (sub_trans (by decide) hw) _ _ _ ?_
    | refine State.advTo_touch (sub_trans (by decide) hw) _ _ ?_
    | apply touch_ite
    | apply touch_foldl
    | refine touch_snd (by assumption) ?_
    | (intro _; try dsimp only)
    | assumption
    | split

theorem execClusterStall_touch (hw : 808296969 ||| w = w) : ∀ x0 s, Touch w s₀ s → TouchR w s₀ (execClusterStall x0 s) := by
  intro x0 s h; unfold execClusterStall; try dsimp only
  repeat' with_reducible first
    | exact h
    | exact Touch.refl _ _
    | apply touchR_next
    | apply touchR_ite
    | refine State.raise_touch (sub_trans (by decide) hw) _ _ ?_
    | refine State.retireCluster_touch (sub_trans (by decide) hw) _ _ ?_
    | refine State.advTo_touch (sub_trans (by decide) hw) _ _ ?_

theorem execPartitionRebindDone_touch (hw : 536904201 ||| w = w) : ∀ x0 s, Touch w s₀ s → TouchR w s₀ (execPartitionRebindDone x0 s) := by
  intro x0 s h; unfold execPartitionRebindDone; try dsimp only
  repeat' with_reducible first
    | exact h
    | exact Touch.refl _ _
    | apply touchR_next
    | apply touchR_ite
    | refine State.advTo_touch (sub_trans (by decide) hw) _ _ ?_
    | refine State.raise_touch (sub_trans (by decide) hw) _ _ ?_
    | fail_if_no_progress refine touch_cls (sub_trans (by decide) hw) ?_
    | apply touch_ite
    | apply touch_foldl
    | refine touch_snd (by assumption) ?_
    | (intro _; try dsimp only)
    | assumption
    | split

end Sys2Proof.Machine
end

