-- ==== Sys2Proof/Laws/Keeps/Pipeline.lean ====
section
/-!
SUPPORT. What each operation of Pipeline keeps.
-/

namespace Sys2Proof.Machine

variable {w : Nat} {s₀ : State}

theorem State.handOff_touch (hw : 8192 ||| w = w) : ∀ s t f, Touch w s₀ s → Touch w s₀ (State.handOff s t f) := by
  intro s t f h; unfold State.handOff; try dsimp only
  repeat' with_reducible first
    | exact h
    | exact Touch.refl _ _
    | refine State.updCal_touch (sub_trans (by decide) hw) _ _ _ ?_

theorem State.dropStep_touch (hw : 536871425 ||| w = w) : ∀ s f, Touch w s₀ s → Touch w s₀ (State.dropStep s f) := by
  intro s f h; unfold State.dropStep; try dsimp only
  repeat' with_reducible first
    | exact h
    | exact Touch.refl _ _
    | refine State.bump_touch (sub_trans (by decide) hw) _ _ _ ?_
    | refine State.syncDrop_touch (sub_trans (by decide) hw) _ ?_
    | (apply touch_ite_then; on_goal 1 => solve | (repeat' first | exact Touch.refl _ _ | refine State.bump_touch (sub_trans (by decide) hw) _ _ _ ?_ | refine State.syncDrop_touch (sub_trans (by decide) hw) _ ?_ | apply touch_foldl))
    | (apply touch_ite_else; on_goal 1 => solve | (repeat' first | exact Touch.refl _ _ | refine State.bump_touch (sub_trans (by decide) hw) _ _ _ ?_ | refine State.syncDrop_touch (sub_trans (by decide) hw) _ ?_ | apply touch_foldl))
    | apply touch_ite

theorem State.lookupPlace_touch (hw : 521 ||| w = w) : ∀ s r, Touch w s₀ s → Touch w s₀ (State.lookupPlace s r) := by
  intro s r h; unfold State.lookupPlace; try dsimp only
  repeat' with_reducible first
    | exact h
    | exact Touch.refl _ _
    | refine State.bump_touch (sub_trans (by decide) hw) _ _ _ ?_
    | refine State.advTo_touch (sub_trans (by decide) hw) _ _ ?_
    | (apply touch_ite_then; on_goal 1 => solve | (repeat' first | exact Touch.refl _ _ | refine State.bump_touch (sub_trans (by decide) hw) _ _ _ ?_ | refine State.advTo_touch (sub_trans (by decide) hw) _ _ ?_ | apply touch_foldl))
    | (apply touch_ite_else; on_goal 1 => solve | (repeat' first | exact Touch.refl _ _ | refine State.bump_touch (sub_trans (by decide) hw) _ _ _ ?_ | refine State.advTo_touch (sub_trans (by decide) hw) _ _ ?_ | apply touch_foldl))
    | apply touch_ite

theorem State.setV1_touch (hw : 65536 ||| w = w) : ∀ s id v, Touch w s₀ s → Touch w s₀ (State.setV1 s id v) := by
  intro s id v h; unfold State.setV1; try dsimp only
  repeat' with_reducible first
    | exact h
    | exact Touch.refl _ _
    | refine State.updClu_touch (sub_trans (by decide) hw) _ _ _ ?_
    | apply touch_ite
    | apply touch_foldl
    | (intro _ _ _ k; try dsimp only)
    | (intro _ _; try dsimp only)

theorem State.orderV1_touch (hw : 196608 ||| w = w) : ∀ s x, Touch w s₀ s → Touch w s₀ (State.orderV1 s x).2 := by
  intro s x h; unfold State.orderV1; try dsimp only
  repeat' with_reducible first
    | exact h
    | exact Touch.refl _ _
    | refine State.setV1_touch (sub_trans (by decide) hw) _ _ _ ?_
    | fail_if_no_progress refine touch_clt (sub_trans (by decide) hw) ?_
    | (apply touch_ite_then; on_goal 1 => solve | (repeat' first | exact Touch.refl _ _ | refine State.setV1_touch (sub_trans (by decide) hw) _ _ _ ?_ | fail_if_no_progress refine touch_clt (sub_trans (by decide) hw) ?_))
    | apply touch_ite
    | apply touch_foldl
    | (intro _ _ _ k; try dsimp only)
    | (intro _ _; try dsimp only)

theorem State.issueV1_touch (hw : 538116617 ||| w = w) : ∀ s r, Touch w s₀ s → Touch w s₀ (State.issueV1 s r).2 := by
  intro s r h; unfold State.issueV1; try dsimp only
  repeat' with_reducible first
    | exact h
    | exact Touch.refl _ _
    | refine State.lookupV1_touch (sub_trans (by decide) hw) _ _ ?_
    | refine State.flow_touch (sub_trans (by decide) hw) _ _ _ ?_
    | refine State.lookupPlace_touch (sub_trans (by decide) hw) _ _ ?_
    | refine State.orderV1_touch (sub_trans (by decide) hw) _ _ ?_

theorem State.noteServed_touch (hw : 537133569 ||| w = w) : ∀ s r, Touch w s₀ s → Touch w s₀ (State.noteServed s r) := by
  intro s r h; unfold State.noteServed; try dsimp only
  repeat' with_reducible first
    | exact h
    | exact Touch.refl _ _
    | refine State.noteStratum_touch (sub_trans (by decide) hw) _ _ ?_
    | (apply touch_ite_then; on_goal 1 => solve | (repeat' first | exact Touch.refl _ _ | refine State.noteStratum_touch (sub_trans (by decide) hw) _ _ ?_))

theorem State.expire_touch (hw : 536936961 ||| w = w) : ∀ s x1 c r, Touch w s₀ s → Touch w s₀ (State.expire s x1 c r) := by
  intro s x1 c r h; unfold State.expire; try dsimp only
  repeat' with_reducible first
    | exact h
    | exact Touch.refl _ _
    | refine State.freeSlots_touch (sub_trans (by decide) hw) _ _ _ ?_
    | refine State.setBusy_touch (sub_trans (by decide) hw) _ _ _ _ ?_
    | refine State.bump_touch (sub_trans (by decide) hw) _ _ _ ?_
    | refine State.raiseLim_touch (sub_trans (by decide) hw) _ _ _ _ ?_
    | (apply touch_ite_then; on_goal 1 => solve | (repeat' first | exact Touch.refl _ _ | refine State.freeSlots_touch (sub_trans (by decide) hw) _ _ _ ?_ | refine State.setBusy_touch (sub_trans (by decide) hw) _ _ _ _ ?_ | refine State.bump_touch (sub_trans (by decide) hw) _ _ _ ?_ | refine State.raiseLim_touch (sub_trans (by decide) hw) _ _ _ _ ?_))

theorem State.dispatchReq_touch (hw : 538378761 ||| w = w) : ∀ s x1 c r, Touch w s₀ s → Touch w s₀ (State.dispatchReq s x1 c r) := by
  intro s x1 c r h; unfold State.dispatchReq; try dsimp only
  repeat' with_reducible first
    | exact h
    | exact Touch.refl _ _
    | refine State.watch_touch (sub_trans (by decide) hw) _ _ ?_
    | refine State.updClu_touch (sub_trans (by decide) hw) _ _ _ ?_
    | refine State.bump_touch (sub_trans (by decide) hw) _ _ _ ?_
    | refine State.freeSlots_touch (sub_trans (by decide) hw) _ _ _ ?_
    | refine State.issueV1_touch (sub_trans (by decide) hw) _ _ ?_
    | refine State.flow_touch (sub_trans (by decide) hw) _ _ _ ?_
    | refine State.noteServed_touch (sub_trans (by decide) hw) _ _ ?_
    | refine State.expire_touch (sub_trans (by decide) hw) _ _ _ _ ?_
    | refine State.setBusy_touch (sub_trans (by decide) hw) _ _ _ _ ?_
    | (apply touch_ite_then; on_goal 1 => solve | (repeat' first | exact Touch.refl _ _ | refine State.watch_touch (sub_trans (by decide) hw) _ _ ?_ | refine State.updClu_touch (sub_trans (by decide) hw) _ _ _ ?_ | refine State.bump_touch (sub_trans (by decide) hw) _ _ _ ?_ | refine State.freeSlots_touch (sub_trans (by decide) hw) _ _ _ ?_ | refine State.issueV1_touch (sub_trans (by decide) hw) _ _ ?_ | refine State.flow_touch (sub_trans (by decide) hw) _ _ _ ?_ | refine State.noteServed_touch (sub_trans (by decide) hw) _ _ ?_ | refine State.expire_touch (sub_trans (by decide) hw) _ _ _ _ ?_ | refine State.setBusy_touch (sub_trans (by decide) hw) _ _ _ _ ?_ | apply touch_foldl))
    | (apply touch_ite_else; on_goal 1 => solve | (repeat' first | exact Touch.refl _ _ | refine State.watch_touch (sub_trans (by decide) hw) _ _ ?_ | refine State.updClu_touch (sub_trans (by decide) hw) _ _ _ ?_ | refine State.bump_touch (sub_trans (by decide) hw) _ _ _ ?_ | refine State.freeSlots_touch (sub_trans (by decide) hw) _ _ _ ?_ | refine State.issueV1_touch (sub_trans (by decide) hw) _ _ ?_ | refine State.flow_touch (sub_trans (by decide) hw) _ _ _ ?_ | refine State.noteServed_touch (sub_trans (by decide) hw) _ _ ?_ | refine State.expire_touch (sub_trans (by decide) hw) _ _ _ _ ?_ | refine State.setBusy_touch (sub_trans (by decide) hw) _ _ _ _ ?_ | apply touch_foldl))
    | apply touch_ite
    | apply touch_foldl
    | refine touch_snd (by assumption) ?_
    | (intro _; try dsimp only)
    | assumption
    | split

theorem State.dispatchSync_touch (hw : 66049 ||| w = w) : ∀ s x1 c i, Touch w s₀ s → Touch w s₀ (State.dispatchSync s x1 c i) := by
  intro s x1 c i h; unfold State.dispatchSync; try dsimp only
  repeat' with_reducible first
    | exact h
    | exact Touch.refl _ _
    | refine State.updClu_touch (sub_trans (by decide) hw) _ _ _ ?_
    | refine State.flow_touch (sub_trans (by decide) hw) _ _ _ ?_
    | refine State.bump_touch (sub_trans (by decide) hw) _ _ _ ?_
    | refine State.setBusy_touch (sub_trans (by decide) hw) _ _ _ _ ?_

theorem State.recomposeBytes_touch (hw : 262144 ||| w = w) : ∀ s f T cell, Touch w s₀ s → Touch w s₀ (State.recomposeBytes s f T cell).2 := by
  intro s f T cell h; unfold State.recomposeBytes; try dsimp only
  repeat' with_reducible first
    | exact h
    | exact Touch.refl _ _
    | refine State.replyNonce_touch (sub_trans (by decide) hw) _ _ ?_
    | apply touch_ite
    | apply touch_foldl
    | refine touch_snd (by assumption) ?_
    | (intro _; try dsimp only)
    | assumption
    | split

theorem State.recompose_touch (hw : 537207297 ||| w = w) : ∀ s x1 c f, Touch w s₀ s → Touch w s₀ (State.recompose s x1 c f) := by
  intro s x1 c f h; unfold State.recompose; try dsimp only
  repeat' with_reducible first
    | exact h
    | exact Touch.refl _ _
    | refine State.updClu_touch (sub_trans (by decide) hw) _ _ _ ?_
    | refine State.flow_touch (sub_trans (by decide) hw) _ _ _ ?_
    | refine State.bump_touch (sub_trans (by decide) hw) _ _ _ ?_
    | refine State.setBusy_touch (sub_trans (by decide) hw) _ _ _ _ ?_
    | refine State.syncDrop_touch (sub_trans (by decide) hw) _ ?_
    | refine State.dropStep_touch (sub_trans (by decide) hw) _ _ ?_
    | refine State.raiseLim_touch (sub_trans (by decide) hw) _ _ _ _ ?_
    | refine State.recomposeBytes_touch (sub_trans (by decide) hw) _ _ _ _ ?_
    | refine State.handOff_touch (sub_trans (by decide) hw) _ _ _ ?_
    | (apply touch_ite_then; on_goal 1 => solve | (repeat' first | exact Touch.refl _ _ | refine State.updClu_touch (sub_trans (by decide) hw) _ _ _ ?_ | refine State.flow_touch (sub_trans (by decide) hw) _ _ _ ?_ | refine State.bump_touch (sub_trans (by decide) hw) _ _ _ ?_ | refine State.setBusy_touch (sub_trans (by decide) hw) _ _ _ _ ?_ | refine State.syncDrop_touch (sub_trans (by decide) hw) _ ?_ | refine State.dropStep_touch (sub_trans (by decide) hw) _ _ ?_ | refine State.raiseLim_touch (sub_trans (by decide) hw) _ _ _ _ ?_ | refine State.recomposeBytes_touch (sub_trans (by decide) hw) _ _ _ _ ?_ | refine State.handOff_touch (sub_trans (by decide) hw) _ _ _ ?_ | apply touch_foldl))
    | (apply touch_ite_else; on_goal 1 => solve | (repeat' first | exact Touch.refl _ _ | refine State.updClu_touch (sub_trans (by decide) hw) _ _ _ ?_ | refine State.flow_touch (sub_trans (by decide) hw) _ _ _ ?_ | refine State.bump_touch (sub_trans (by decide) hw) _ _ _ ?_ | refine State.setBusy_touch (sub_trans (by decide) hw) _ _ _ _ ?_ | refine State.syncDrop_touch (sub_trans (by decide) hw) _ ?_ | refine State.dropStep_touch (sub_trans (by decide) hw) _ _ ?_ | refine State.raiseLim_touch (sub_trans (by decide) hw) _ _ _ _ ?_ | refine State.recomposeBytes_touch (sub_trans (by decide) hw) _ _ _ _ ?_ | refine State.handOff_touch (sub_trans (by decide) hw) _ _ _ ?_ | apply touch_foldl))
    | apply touch_ite
    | apply touch_foldl
    | refine touch_snd (by assumption) ?_
    | (intro _; try dsimp only)
    | assumption
    | split

theorem State.dispatch_touch (hw : 538386953 ||| w = w) : ∀ s x1, Touch w s₀ s → Touch w s₀ (State.dispatch s x1) := by
  intro s x1 h; unfold State.dispatch; try dsimp only
  repeat' with_reducible first
    | exact h
    | exact Touch.refl _ _
    | refine State.advTo_touch (sub_trans (by decide) hw) _ _ ?_
    | refine State.dispatchSync_touch (sub_trans (by decide) hw) _ _ _ _ ?_
    | refine State.updClu_touch (sub_trans (by decide) hw) _ _ _ ?_
    | refine State.recompose_touch (sub_trans (by decide) hw) _ _ _ _ ?_
    | refine State.dispatchReq_touch (sub_trans (by decide) hw) _ _ _ _ ?_
    | (apply touch_ite_then; on_goal 1 => solve | (repeat' first | exact Touch.refl _ _ | refine State.advTo_touch (sub_trans (by decide) hw) _ _ ?_ | refine State.dispatchSync_touch (sub_trans (by decide) hw) _ _ _ _ ?_ | refine State.updClu_touch (sub_trans (by decide) hw) _ _ _ ?_ | refine State.recompose_touch (sub_trans (by decide) hw) _ _ _ _ ?_ | refine State.dispatchReq_touch (sub_trans (by decide) hw) _ _ _ _ ?_ | apply touch_foldl))
    | (apply touch_ite_else; on_goal 1 => solve | (repeat' first | exact Touch.refl _ _ | refine State.advTo_touch (sub_trans (by decide) hw) _ _ ?_ | refine State.dispatchSync_touch (sub_trans (by decide) hw) _ _ _ _ ?_ | refine State.updClu_touch (sub_trans (by decide) hw) _ _ _ ?_ | refine State.recompose_touch (sub_trans (by decide) hw) _ _ _ _ ?_ | refine State.dispatchReq_touch (sub_trans (by decide) hw) _ _ _ _ ?_ | apply touch_foldl))
    | apply touch_ite
    | apply touch_foldl
    | refine touch_snd (by assumption) ?_
    | (intro _; try dsimp only)
    | assumption
    | split

theorem execCellDispatch_touch (hw : 538386953 ||| w = w) : ∀ x0 s, Touch w s₀ s → TouchR w s₀ (execCellDispatch x0 s) := by
  intro x0 s h; unfold execCellDispatch; try dsimp only
  repeat' with_reducible first
    | exact h
    | exact Touch.refl _ _
    | apply touchR_next
    | apply touchR_ite
    | refine State.dispatch_touch (sub_trans (by decide) hw) _ _ ?_

theorem execRecompose_touch (hw : 538386953 ||| w = w) : ∀ x0 s, Touch w s₀ s → TouchR w s₀ (execRecompose x0 s) := by
  intro x0 s h; unfold execRecompose; try dsimp only
  repeat' with_reducible first
    | exact h
    | exact Touch.refl _ _
    | apply touchR_next
    | apply touchR_ite
    | refine State.dispatch_touch (sub_trans (by decide) hw) _ _ ?_
    | apply touch_foldl
    | refine touch_snd (by assumption) ?_
    | (intro _; try dsimp only)
    | assumption
    | split

theorem State.squashed_touch (hw : 66049 ||| w = w) : ∀ s x1 r, Touch w s₀ s → Touch w s₀ (State.squashed s x1 r) := by
  intro s x1 r h; unfold State.squashed; try dsimp only
  repeat' with_reducible first
    | exact h
    | exact Touch.refl _ _
    | refine State.freeSlots_touch (sub_trans (by decide) hw) _ _ _ ?_
    | refine State.flow_touch (sub_trans (by decide) hw) _ _ _ ?_
    | refine State.bump_touch (sub_trans (by decide) hw) _ _ _ ?_

theorem execCellSquash_touch (hw : 536936969 ||| w = w) : ∀ x0 c s, Touch w s₀ s → TouchR w s₀ (execCellSquash x0 c s) := by
  intro x0 c s h; unfold execCellSquash; try dsimp only
  repeat' with_reducible first
    | exact h
    | exact Touch.refl _ _
    | apply touchR_next
    | apply touchR_ite
    | refine State.squashed_touch (sub_trans (by decide) hw) _ _ _ ?_
    | refine State.advTo_touch (sub_trans (by decide) hw) _ _ ?_
    | refine State.setBusy_touch (sub_trans (by decide) hw) _ _ _ _ ?_
    | refine State.bump_touch (sub_trans (by decide) hw) _ _ _ ?_
    | refine State.raiseLim_touch (sub_trans (by decide) hw) _ _ _ _ ?_
    | (apply touch_ite_then; on_goal 1 => solve | (repeat' first | exact Touch.refl _ _ | refine State.squashed_touch (sub_trans (by decide) hw) _ _ _ ?_ | refine State.advTo_touch (sub_trans (by decide) hw) _ _ ?_ | refine State.setBusy_touch (sub_trans (by decide) hw) _ _ _ _ ?_ | refine State.bump_touch (sub_trans (by decide) hw) _ _ _ ?_ | refine State.raiseLim_touch (sub_trans (by decide) hw) _ _ _ _ ?_))
    | apply touch_ite
    | apply touch_foldl
    | refine touch_snd (by assumption) ?_
    | (intro _; try dsimp only)
    | assumption
    | split

theorem State.ntsParts_touch (hw : 262145 ||| w = w) : ∀ s r cell cookies, Touch w s₀ s → Touch w s₀ (State.ntsParts s r cell cookies).2 := by
  intro s r cell cookies h; unfold State.ntsParts; try dsimp only
  repeat' with_reducible first
    | exact h
    | exact Touch.refl _ _
    | refine State.bump_touch (sub_trans (by decide) hw) _ _ _ ?_
    | refine State.replyNonce_touch (sub_trans (by decide) hw) _ _ ?_
    | refine State.cookieCount_touch (sub_trans (by decide) hw) _ _ _ ?_
    | (apply touch_ite_then; on_goal 1 => solve | (repeat' first | exact Touch.refl _ _ | refine State.bump_touch (sub_trans (by decide) hw) _ _ _ ?_ | refine State.replyNonce_touch (sub_trans (by decide) hw) _ _ ?_ | refine State.cookieCount_touch (sub_trans (by decide) hw) _ _ _ ?_))
    | apply touch_ite
    | apply touch_foldl
    | refine touch_snd (by assumption) ?_
    | (intro _; try dsimp only)
    | assumption
    | split

theorem State.commitReq_touch (hw : 539828737 ||| w = w) : ∀ s x1 c b r, Touch w s₀ s → Touch w s₀ (State.commitReq s x1 c b r) := by
  intro s x1 c b r h; unfold State.commitReq; try dsimp only
  repeat' with_reducible first
    | exact h
    | exact Touch.refl _ _
    | refine State.freeSlots_touch (sub_trans (by decide) hw) _ _ _ ?_
    | refine State.setBusy_touch (sub_trans (by decide) hw) _ _ _ _ ?_
    | refine State.bump_touch (sub_trans (by decide) hw) _ _ _ ?_
    | refine State.leafAdd_touch (sub_trans (by decide) hw) _ _ _ ?_
    | refine State.flow_touch (sub_trans (by decide) hw) _ _ _ ?_
    | refine State.ntsParts_touch (sub_trans (by decide) hw) _ _ _ _ ?_
    | refine State.handOff_touch (sub_trans (by decide) hw) _ _ _ ?_
    | (apply touch_ite_then; on_goal 1 => solve | (repeat' first | exact Touch.refl _ _ | refine State.freeSlots_touch (sub_trans (by decide) hw) _ _ _ ?_ | refine State.setBusy_touch (sub_trans (by decide) hw) _ _ _ _ ?_ | refine State.bump_touch (sub_trans (by decide) hw) _ _ _ ?_ | refine State.leafAdd_touch (sub_trans (by decide) hw) _ _ _ ?_ | refine State.flow_touch (sub_trans (by decide) hw) _ _ _ ?_ | refine State.ntsParts_touch (sub_trans (by decide) hw) _ _ _ _ ?_ | refine State.handOff_touch (sub_trans (by decide) hw) _ _ _ ?_ | apply touch_foldl))
    | (apply touch_ite_else; on_goal 1 => solve | (repeat' first | exact Touch.refl _ _ | refine State.freeSlots_touch (sub_trans (by decide) hw) _ _ _ ?_ | refine State.setBusy_touch (sub_trans (by decide) hw) _ _ _ _ ?_ | refine State.bump_touch (sub_trans (by decide) hw) _ _ _ ?_ | refine State.leafAdd_touch (sub_trans (by decide) hw) _ _ _ ?_ | refine State.flow_touch (sub_trans (by decide) hw) _ _ _ ?_ | refine State.ntsParts_touch (sub_trans (by decide) hw) _ _ _ _ ?_ | refine State.handOff_touch (sub_trans (by decide) hw) _ _ _ ?_ | apply touch_foldl))
    | apply touch_ite
    | apply touch_foldl
    | refine touch_snd (by assumption) ?_
    | (intro _; try dsimp only)
    | assumption
    | split

theorem State.commitSync_touch (hw : 536945153 ||| w = w) : ∀ s x1 c b i, Touch w s₀ s → Touch w s₀ (State.commitSync s x1 c b i) := by
  intro s x1 c b i h; unfold State.commitSync; try dsimp only
  repeat' with_reducible first
    | exact h
    | exact Touch.refl _ _
    | refine State.setBusy_touch (sub_trans (by decide) hw) _ _ _ _ ?_
    | refine State.dropStep_touch (sub_trans (by decide) hw) _ _ ?_
    | refine State.syncDrop_touch (sub_trans (by decide) hw) _ ?_
    | refine State.handOff_touch (sub_trans (by decide) hw) _ _ _ ?_
    | refine State.flow_touch (sub_trans (by decide) hw) _ _ _ ?_
    | refine State.bump_touch (sub_trans (by decide) hw) _ _ _ ?_
    | (apply touch_ite_then; on_goal 1 => solve | (repeat' first | exact Touch.refl _ _ | refine State.setBusy_touch (sub_trans (by decide) hw) _ _ _ _ ?_ | refine State.dropStep_touch (sub_trans (by decide) hw) _ _ ?_ | refine State.syncDrop_touch (sub_trans (by decide) hw) _ ?_ | refine State.handOff_touch (sub_trans (by decide) hw) _ _ _ ?_ | refine State.flow_touch (sub_trans (by decide) hw) _ _ _ ?_ | refine State.bump_touch (sub_trans (by decide) hw) _ _ _ ?_ | apply touch_foldl))
    | (apply touch_ite_else; on_goal 1 => solve | (repeat' first | exact Touch.refl _ _ | refine State.setBusy_touch (sub_trans (by decide) hw) _ _ _ _ ?_ | refine State.dropStep_touch (sub_trans (by decide) hw) _ _ ?_ | refine State.syncDrop_touch (sub_trans (by decide) hw) _ ?_ | refine State.handOff_touch (sub_trans (by decide) hw) _ _ _ ?_ | refine State.flow_touch (sub_trans (by decide) hw) _ _ _ ?_ | refine State.bump_touch (sub_trans (by decide) hw) _ _ _ ?_ | apply touch_foldl))
    | apply touch_ite
    | apply touch_foldl
    | refine touch_snd (by assumption) ?_
    | (intro _; try dsimp only)
    | assumption
    | split

theorem execCellCommit_touch (hw : 539828745 ||| w = w) : ∀ x0 c s, Touch w s₀ s → TouchR w s₀ (execCellCommit x0 c s) := by
  intro x0 c s h; unfold execCellCommit; try dsimp only
  repeat' with_reducible first
    | exact h
    | exact Touch.refl _ _
    | apply touchR_next
    | apply touchR_ite
    | refine State.commitReq_touch (sub_trans (by decide) hw) _ _ _ _ _ ?_
    | refine State.advTo_touch (sub_trans (by decide) hw) _ _ ?_
    | refine State.commitSync_touch (sub_trans (by decide) hw) _ _ _ _ _ ?_
    | apply touch_ite
    | apply touch_foldl
    | refine touch_snd (by assumption) ?_
    | (intro _; try dsimp only)
    | assumption
    | split

theorem State.prioPush_touch (hw : 536936961 ||| w = w) : ∀ s x1 p, Touch w s₀ s → Touch w s₀ (State.prioPush s x1 p) := by
  intro s x1 p h; unfold State.prioPush; try dsimp only
  repeat' with_reducible first
    | exact h
    | exact Touch.refl _ _
    | refine State.bump_touch (sub_trans (by decide) hw) _ _ _ ?_
    | refine State.raise_touch (sub_trans (by decide) hw) _ _ ?_
    | refine State.syncDrop_touch (sub_trans (by decide) hw) _ ?_
    | refine State.updClu_touch (sub_trans (by decide) hw) _ _ _ ?_
    | (apply touch_ite_then; on_goal 1 => solve | (repeat' first | exact Touch.refl _ _ | refine State.bump_touch (sub_trans (by decide) hw) _ _ _ ?_ | refine State.raise_touch (sub_trans (by decide) hw) _ _ ?_ | refine State.syncDrop_touch (sub_trans (by decide) hw) _ ?_ | refine State.updClu_touch (sub_trans (by decide) hw) _ _ _ ?_ | apply touch_foldl))
    | (apply touch_ite_else; on_goal 1 => solve | (repeat' first | exact Touch.refl _ _ | refine State.bump_touch (sub_trans (by decide) hw) _ _ _ ?_ | refine State.raise_touch (sub_trans (by decide) hw) _ _ ?_ | refine State.syncDrop_touch (sub_trans (by decide) hw) _ ?_ | refine State.updClu_touch (sub_trans (by decide) hw) _ _ _ ?_ | apply touch_foldl))
    | apply touch_ite

theorem execFrameReturn_touch (hw : 536936969 ||| w = w) : ∀ x0 s, Touch w s₀ s → TouchR w s₀ (execFrameReturn x0 s) := by
  intro x0 s h; unfold execFrameReturn; try dsimp only
  repeat' with_reducible first
    | exact h
    | exact Touch.refl _ _
    | apply touchR_next
    | apply touchR_ite
    | refine State.prioPush_touch (sub_trans (by decide) hw) _ _ _ ?_
    | refine State.updClu_touch (sub_trans (by decide) hw) _ _ _ ?_
    | refine State.advTo_touch (sub_trans (by decide) hw) _ _ ?_
    | apply touch_foldl
    | refine touch_snd (by assumption) ?_
    | (intro _; try dsimp only)
    | assumption
    | split

theorem State.give_touch (hw : 538116617 ||| w = w) : ∀ s k j n l, Touch w s₀ s → Touch w s₀ (State.give s k j n l) := by
  intro s k j n l; induction l generalizing s n with
  | nil => intro h; cases n <;> exact h
  | cons r rest ih =>
    intro h
    cases n with
    | zero => exact h
    | succ n =>
      unfold State.give; dsimp only
      repeat' with_reducible first
        | exact h
        | apply ih
        | refine State.updClu_touch (sub_trans (by decide) hw) _ _ _ ?_
        | refine State.watch_touch (sub_trans (by decide) hw) _ _ ?_
        | refine State.bump_touch (sub_trans (by decide) hw) _ _ _ ?_
        | refine State.issueV1_touch (sub_trans (by decide) hw) _ _ ?_
        | apply touch_ite

theorem execStealRequest_touch (hw : 538116617 ||| w = w) : ∀ x0 d s, Touch w s₀ s → TouchR w s₀ (execStealRequest x0 d s) := by
  intro x0 d s h; unfold execStealRequest; try dsimp only
  repeat' with_reducible first
    | exact h
    | exact Touch.refl _ _
    | apply touchR_next
    | apply touchR_ite
    | refine State.advTo_touch (sub_trans (by decide) hw) _ _ ?_
    | refine State.updClu_touch (sub_trans (by decide) hw) _ _ _ ?_
    | refine State.give_touch (sub_trans (by decide) hw) _ _ _ _ _ ?_
    | apply touch_ite
    | apply touch_foldl
    | refine touch_snd (by assumption) ?_
    | (intro _; try dsimp only)
    | assumption
    | split

theorem State.linkFault_touch (hw : 536936961 ||| w = w) : ∀ s x1 d, Touch w s₀ s → Touch w s₀ (State.linkFault s x1 d) := by
  intro s x1 d h; unfold State.linkFault; try dsimp only
  repeat' with_reducible first
    | exact h
    | exact Touch.refl _ _
    | refine State.updClu_touch (sub_trans (by decide) hw) _ _ _ ?_
    | refine State.raise_touch (sub_trans (by decide) hw) _ _ ?_
    | refine State.wr_touch (sub_trans (by decide) hw) _ _ _ ?_
    | (apply touch_ite_then; on_goal 1 => solve | (repeat' first | exact Touch.refl _ _ | refine State.updClu_touch (sub_trans (by decide) hw) _ _ _ ?_ | refine State.raise_touch (sub_trans (by decide) hw) _ _ ?_ | refine State.wr_touch (sub_trans (by decide) hw) _ _ _ ?_))

theorem execStealArrive_touch (hw : 536936969 ||| w = w) : ∀ x0 eccOk s, Touch w s₀ s → TouchR w s₀ (execStealArrive x0 eccOk s) := by
  intro x0 eccOk s h; unfold execStealArrive; try dsimp only
  repeat' with_reducible first
    | exact h
    | exact Touch.refl _ _
    | apply touchR_next
    | apply touchR_ite
    | refine State.updClu_touch (sub_trans (by decide) hw) _ _ _ ?_
    | refine State.advTo_touch (sub_trans (by decide) hw) _ _ ?_
    | refine State.linkFault_touch (sub_trans (by decide) hw) _ _ _ ?_
    | refine State.bump_touch (sub_trans (by decide) hw) _ _ _ ?_
    | refine State.freeCredit_touch (sub_trans (by decide) hw) _ _ ?_
    | refine State.dropFull_touch (sub_trans (by decide) hw) _ _ ?_
    | refine State.enqueue_touch (sub_trans (by decide) hw) _ _ _ _ ?_
    | refine State.flow_touch (sub_trans (by decide) hw) _ _ _ ?_
    | (apply touch_ite_then; on_goal 1 => solve | (repeat' first | exact Touch.refl _ _ | refine State.updClu_touch (sub_trans (by decide) hw) _ _ _ ?_ | refine State.advTo_touch (sub_trans (by decide) hw) _ _ ?_ | refine State.linkFault_touch (sub_trans (by decide) hw) _ _ _ ?_ | refine State.bump_touch (sub_trans (by decide) hw) _ _ _ ?_ | refine State.freeCredit_touch (sub_trans (by decide) hw) _ _ ?_ | refine State.dropFull_touch (sub_trans (by decide) hw) _ _ ?_ | refine State.enqueue_touch (sub_trans (by decide) hw) _ _ _ _ ?_ | refine State.flow_touch (sub_trans (by decide) hw) _ _ _ ?_))
    | apply touch_ite
    | apply touch_foldl
    | refine touch_snd (by assumption) ?_
    | (intro _; try dsimp only)
    | assumption
    | split

theorem State.sprayEnter_touch (hw : 536904193 ||| w = w) : ∀ s n, Touch w s₀ s → Touch w s₀ (State.sprayEnter s n) := by
  intro s n h; unfold State.sprayEnter; try dsimp only
  repeat' with_reducible first
    | exact h
    | exact Touch.refl _ _
    | refine State.raise_touch (sub_trans (by decide) hw) _ _ ?_
    | refine State.bump_touch (sub_trans (by decide) hw) _ _ _ ?_
    | fail_if_no_progress refine touch_cls (sub_trans (by decide) hw) ?_
    | (apply touch_ite_then; on_goal 1 => solve | (repeat' first | exact Touch.refl _ _ | refine State.raise_touch (sub_trans (by decide) hw) _ _ ?_ | refine State.bump_touch (sub_trans (by decide) hw) _ _ _ ?_ | fail_if_no_progress refine touch_cls (sub_trans (by decide) hw) ?_ | apply touch_foldl))
    | (apply touch_ite_else; on_goal 1 => solve | (repeat' first | exact Touch.refl _ _ | refine State.raise_touch (sub_trans (by decide) hw) _ _ ?_ | refine State.bump_touch (sub_trans (by decide) hw) _ _ _ ?_ | fail_if_no_progress refine touch_cls (sub_trans (by decide) hw) ?_))

theorem execHotTrip_touch (hw : 536969737 ||| w = w) : ∀ x0 s, Touch w s₀ s → TouchR w s₀ (execHotTrip x0 s) := by
  intro x0 s h; unfold execHotTrip; try dsimp only
  repeat' with_reducible first
    | exact h
    | exact Touch.refl _ _
    | apply touchR_next
    | apply touchR_ite
    | refine State.advTo_touch (sub_trans (by decide) hw) _ _ ?_
    | refine State.updClu_touch (sub_trans (by decide) hw) _ _ _ ?_
    | refine State.raise_touch (sub_trans (by decide) hw) _ _ ?_
    | refine State.sprayEnter_touch (sub_trans (by decide) hw) _ _ ?_
    | fail_if_no_progress refine touch_cls (sub_trans (by decide) hw) ?_
    | (apply touch_ite_then; on_goal 1 => solve | (repeat' first | exact Touch.refl _ _ | refine State.advTo_touch (sub_trans (by decide) hw) _ _ ?_ | refine State.updClu_touch (sub_trans (by decide) hw) _ _ _ ?_ | refine State.raise_touch (sub_trans (by decide) hw) _ _ ?_ | refine State.sprayEnter_touch (sub_trans (by decide) hw) _ _ ?_ | fail_if_no_progress refine touch_cls (sub_trans (by decide) hw) ?_ | apply touch_foldl | (intro _ _; try dsimp only)))
    | apply touch_ite
    | apply touch_foldl
    | refine touch_snd (by assumption) ?_
    | (intro _; try dsimp only)
    | assumption
    | split

theorem execSprayIntervalEnd_touch (hw : 536969737 ||| w = w) : ∀ s, Touch w s₀ s → TouchR w s₀ (execSprayIntervalEnd s) := by
  intro s h; unfold execSprayIntervalEnd; try dsimp only
  repeat' with_reducible first
    | exact h
    | exact Touch.refl _ _
    | apply touchR_next
    | apply touchR_ite
    | refine State.advTo_touch (sub_trans (by decide) hw) _ _ ?_
    | refine State.raise_touch (sub_trans (by decide) hw) _ _ ?_
    | refine State.updClu_touch (sub_trans (by decide) hw) _ _ _ ?_
    | fail_if_no_progress refine touch_cls (sub_trans (by decide) hw) ?_
    | (apply touch_ite_then; on_goal 1 => solve | (repeat' first | exact Touch.refl _ _ | refine State.advTo_touch (sub_trans (by decide) hw) _ _ ?_ | refine State.raise_touch (sub_trans (by decide) hw) _ _ ?_ | refine State.updClu_touch (sub_trans (by decide) hw) _ _ _ ?_ | fail_if_no_progress refine touch_cls (sub_trans (by decide) hw) ?_ | apply touch_foldl))
    | (apply touch_ite_else; on_goal 1 => solve | (repeat' first | exact Touch.refl _ _ | refine State.advTo_touch (sub_trans (by decide) hw) _ _ ?_ | refine State.raise_touch (sub_trans (by decide) hw) _ _ ?_ | refine State.updClu_touch (sub_trans (by decide) hw) _ _ _ ?_ | fail_if_no_progress refine touch_cls (sub_trans (by decide) hw) ?_ | apply touch_foldl))
    | apply touch_ite
    | apply touch_foldl
    | (intro _ _ _ k; try dsimp only)
    | (intro _ _; try dsimp only)

theorem State.reseed_touch (hw : 671121921 ||| w = w) : ∀ s t, Touch w s₀ s → Touch w s₀ (State.reseed s t) := by
  intro s t h; unfold State.reseed; try dsimp only
  repeat' with_reducible first
    | exact h
    | exact Touch.refl _ _
    | refine State.draw_touch (sub_trans (by decide) hw) _ ?_
    | refine State.raise_touch (sub_trans (by decide) hw) _ _ ?_
    | fail_if_no_progress refine touch_cls (sub_trans (by decide) hw) ?_

theorem State.reseedDue_touch (hw : 671121921 ||| w = w) : ∀ s t, Touch w s₀ s → Touch w s₀ (State.reseedDue s t) := by
  intro s t h; unfold State.reseedDue; try dsimp only
  repeat' with_reducible first
    | exact h
    | exact Touch.refl _ _
    | refine State.reseed_touch (sub_trans (by decide) hw) _ _ ?_
    | fail_if_no_progress refine touch_cls (sub_trans (by decide) hw) ?_
    | (apply touch_ite_then; on_goal 1 => solve | (repeat' first | exact Touch.refl _ _ | refine State.reseed_touch (sub_trans (by decide) hw) _ _ ?_ | fail_if_no_progress refine touch_cls (sub_trans (by decide) hw) ?_ | apply touch_foldl))
    | (apply touch_ite_else; on_goal 1 => solve | (repeat' first | exact Touch.refl _ _ | refine State.reseed_touch (sub_trans (by decide) hw) _ _ ?_ | fail_if_no_progress refine touch_cls (sub_trans (by decide) hw) ?_ | apply touch_foldl))
    | apply touch_ite

theorem execReseedRequest_touch (hw : 32768 ||| w = w) : ∀ s, Touch w s₀ s → TouchR w s₀ (execReseedRequest s) := by
  intro s h; unfold execReseedRequest; try dsimp only
  repeat' with_reducible first
    | exact h
    | exact Touch.refl _ _
    | apply touchR_next
    | apply touchR_ite
    | fail_if_no_progress refine touch_cls (sub_trans (by decide) hw) ?_

theorem execEpochSweepStart_touch (hw : 33288 ||| w = w) : ∀ s, Touch w s₀ s → TouchR w s₀ (execEpochSweepStart s) := by
  intro s h; unfold execEpochSweepStart; try dsimp only
  repeat' with_reducible first
    | exact h
    | exact Touch.refl _ _
    | apply touchR_next
    | apply touchR_ite
    | refine State.advTo_touch (sub_trans (by decide) hw) _ _ ?_
    | fail_if_no_progress refine touch_cls (sub_trans (by decide) hw) ?_

theorem execEpochSweepDone_touch (hw : 671253001 ||| w = w) : ∀ s, Touch w s₀ s → TouchR w s₀ (execEpochSweepDone s) := by
  intro s h; unfold execEpochSweepDone; try dsimp only
  repeat' with_reducible first
    | exact h
    | exact Touch.refl _ _
    | apply touchR_next
    | apply touchR_ite
    | refine State.advTo_touch (sub_trans (by decide) hw) _ _ ?_
    | refine State.reseed_touch (sub_trans (by decide) hw) _ _ ?_
    | fail_if_no_progress refine touch_cls_clt (sub_trans (by decide) hw) ?_

end Sys2Proof.Machine
end

