-- ==== Sys2Proof/Laws/Keeps/Departure.lean ====
section
/-!
SUPPORT. What each operation of Departure keeps.
-/

namespace Sys2Proof.Machine

variable {w : Nat} {s₀ : State}

theorem execGridMeasure_touch (hw : 536875529 ||| w = w) : ∀ n back off displaced jump s, Touch w s₀ s → TouchR w s₀ (execGridMeasure n back off displaced jump s) := by
  intro n back off displaced jump s h; unfold execGridMeasure; try dsimp only
  repeat' with_reducible first
    | exact h
    | exact Touch.refl _ _
    | apply touchR_next
    | apply touchR_ite
    | refine State.advTo_touch (sub_trans (by decide) hw) _ _ ?_
    | refine State.updPort_touch (sub_trans (by decide) hw) _ _ _ ?_
    | refine State.raise_touch (sub_trans (by decide) hw) _ _ ?_
    | (apply touch_ite_then; on_goal 1 => solve | (repeat' first | exact Touch.refl _ _ | refine State.advTo_touch (sub_trans (by decide) hw) _ _ ?_ | refine State.updPort_touch (sub_trans (by decide) hw) _ _ _ ?_ | refine State.raise_touch (sub_trans (by decide) hw) _ _ ?_))

theorem State.dShortEval_touch (hw : 536875521 ||| w = w) : ∀ s, Touch w s₀ s → Touch w s₀ (State.dShortEval s) := by
  intro s h; unfold State.dShortEval; try dsimp only
  repeat' with_reducible first
    | exact h
    | exact Touch.refl _ _
    | refine State.updPort_touch (sub_trans (by decide) hw) _ _ _ ?_
    | refine State.raise_touch (sub_trans (by decide) hw) _ _ ?_
    | apply touch_ite
    | apply touch_foldl
    | (intro _ _ _ k; try dsimp only)
    | (intro _ _; try dsimp only)

theorem State.wirePrune_touch (hw : 12288 ||| w = w) : ∀ s n, Touch w s₀ s → Touch w s₀ (State.wirePrune s n) := by
  intro s n h; unfold State.wirePrune; try dsimp only
  repeat' with_reducible first
    | exact h
    | exact Touch.refl _ _
    | refine State.updCal_touch (sub_trans (by decide) hw) _ _ _ ?_
    | refine State.updPort_touch (sub_trans (by decide) hw) _ _ _ ?_

theorem State.calReturn_touch (hw : 536936961 ||| w = w) : ∀ s f counter, Touch w s₀ s → Touch w s₀ (State.calReturn s f counter) := by
  intro s f counter h; unfold State.calReturn; try dsimp only
  repeat' with_reducible first
    | exact h
    | exact Touch.refl _ _
    | refine State.bump_touch (sub_trans (by decide) hw) _ _ _ ?_
    | refine State.raiseLim_touch (sub_trans (by decide) hw) _ _ _ _ ?_
    | refine State.syncDrop_touch (sub_trans (by decide) hw) _ ?_
    | refine State.updClu_touch (sub_trans (by decide) hw) _ _ _ ?_
    | (apply touch_ite_then; on_goal 1 => solve | (repeat' first | exact Touch.refl _ _ | refine State.bump_touch (sub_trans (by decide) hw) _ _ _ ?_ | refine State.raiseLim_touch (sub_trans (by decide) hw) _ _ _ _ ?_ | refine State.syncDrop_touch (sub_trans (by decide) hw) _ ?_ | refine State.updClu_touch (sub_trans (by decide) hw) _ _ _ ?_ | apply touch_foldl))
    | (apply touch_ite_else; on_goal 1 => solve | (repeat' first | exact Touch.refl _ _ | refine State.bump_touch (sub_trans (by decide) hw) _ _ _ ?_ | refine State.raiseLim_touch (sub_trans (by decide) hw) _ _ _ _ ?_ | refine State.syncDrop_touch (sub_trans (by decide) hw) _ ?_ | refine State.updClu_touch (sub_trans (by decide) hw) _ _ _ ?_ | apply touch_foldl))
    | apply touch_ite

theorem State.admitFrame_touch (hw : 536945153 ||| w = w) : ∀ s f, Touch w s₀ s → Touch w s₀ (State.admitFrame s f) := by
  intro s f h; unfold State.admitFrame; try dsimp only
  repeat' with_reducible first
    | exact h
    | exact Touch.refl _ _
    | refine State.bump_touch (sub_trans (by decide) hw) _ _ _ ?_
    | refine State.calReturn_touch (sub_trans (by decide) hw) _ _ _ ?_
    | refine State.raiseLim_touch (sub_trans (by decide) hw) _ _ _ _ ?_
    | refine State.updCal_touch (sub_trans (by decide) hw) _ _ _ ?_
    | refine State.keepMax_touch (sub_trans (by decide) hw) _ _ _ ?_
    | (apply touch_ite_then; on_goal 1 => solve | (repeat' first | exact Touch.refl _ _ | refine State.bump_touch (sub_trans (by decide) hw) _ _ _ ?_ | refine State.calReturn_touch (sub_trans (by decide) hw) _ _ _ ?_ | refine State.raiseLim_touch (sub_trans (by decide) hw) _ _ _ _ ?_ | refine State.updCal_touch (sub_trans (by decide) hw) _ _ _ ?_ | refine State.keepMax_touch (sub_trans (by decide) hw) _ _ _ ?_ | apply touch_foldl))
    | (apply touch_ite_else; on_goal 1 => solve | (repeat' first | exact Touch.refl _ _ | refine State.bump_touch (sub_trans (by decide) hw) _ _ _ ?_ | refine State.calReturn_touch (sub_trans (by decide) hw) _ _ _ ?_ | refine State.raiseLim_touch (sub_trans (by decide) hw) _ _ _ _ ?_ | refine State.updCal_touch (sub_trans (by decide) hw) _ _ _ ?_ | refine State.keepMax_touch (sub_trans (by decide) hw) _ _ _ ?_ | apply touch_foldl))
    | apply touch_ite

theorem execCalendarArrival_touch (hw : 536949257 ||| w = w) : ∀ n s, Touch w s₀ s → TouchR w s₀ (execCalendarArrival n s) := by
  intro n s h; unfold execCalendarArrival; try dsimp only
  repeat' with_reducible first
    | exact h
    | exact Touch.refl _ _
    | apply touchR_next
    | apply touchR_ite
    | refine State.advTo_touch (sub_trans (by decide) hw) _ _ ?_
    | refine State.updCal_touch (sub_trans (by decide) hw) _ _ _ ?_
    | refine State.admitFrame_touch (sub_trans (by decide) hw) _ _ ?_
    | refine State.wirePrune_touch (sub_trans (by decide) hw) _ _ ?_
    | apply touch_foldl
    | (intro _ _ _ k; try dsimp only)
    | (intro _ _; try dsimp only)
    | refine touch_snd (by assumption) ?_
    | (intro _; try dsimp only)
    | assumption
    | split

theorem State.followUp_touch (hw : 536875521 ||| w = w) : ∀ s f, Touch w s₀ s → Touch w s₀ (State.followUp s f) := by
  intro s f h; unfold State.followUp; try dsimp only
  repeat' with_reducible first
    | exact h
    | exact Touch.refl _ _
    | refine State.syncDrop_touch (sub_trans (by decide) hw) _ ?_
    | refine State.bePush_touch (sub_trans (by decide) hw) _ _ _ _ _ _ _ ?_
    | refine State.bump_touch (sub_trans (by decide) hw) _ _ _ ?_
    | (apply touch_ite_then; on_goal 1 => solve | (repeat' first | exact Touch.refl _ _ | refine State.syncDrop_touch (sub_trans (by decide) hw) _ ?_ | refine State.bePush_touch (sub_trans (by decide) hw) _ _ _ _ _ _ _ ?_ | refine State.bump_touch (sub_trans (by decide) hw) _ _ _ ?_ | apply touch_foldl))
    | (apply touch_ite_else; on_goal 1 => solve | (repeat' first | exact Touch.refl _ _ | refine State.syncDrop_touch (sub_trans (by decide) hw) _ ?_ | refine State.bePush_touch (sub_trans (by decide) hw) _ _ _ _ _ _ _ ?_ | refine State.bump_touch (sub_trans (by decide) hw) _ _ _ ?_ | apply touch_foldl))
    | apply touch_ite
    | apply touch_foldl
    | refine touch_snd (by assumption) ?_
    | (intro _; try dsimp only)
    | assumption
    | split

theorem State.departureCheck_touch (hw : 536871425 ||| w = w) : ∀ s n dev, Touch w s₀ s → Touch w s₀ (State.departureCheck s n dev) := by
  intro s n dev h; unfold State.departureCheck; try dsimp only
  repeat' with_reducible first
    | exact h
    | exact Touch.refl _ _
    | refine State.portEvt_touch (sub_trans (by decide) hw) _ _ _ ?_
    | refine State.bump_touch (sub_trans (by decide) hw) _ _ _ ?_
    | (apply touch_ite_then; on_goal 1 => solve | (repeat' first | exact Touch.refl _ _ | refine State.portEvt_touch (sub_trans (by decide) hw) _ _ _ ?_ | refine State.bump_touch (sub_trans (by decide) hw) _ _ _ ?_))

theorem execFramePour_touch (hw : 536883721 ||| w = w) : ∀ n dev s, Touch w s₀ s → TouchR w s₀ (execFramePour n dev s) := by
  intro n dev s h; unfold execFramePour; try dsimp only
  repeat' with_reducible first
    | exact h
    | exact Touch.refl _ _
    | apply touchR_next
    | apply touchR_ite
    | refine State.advTo_touch (sub_trans (by decide) hw) _ _ ?_
    | refine State.wirePrune_touch (sub_trans (by decide) hw) _ _ ?_
    | refine State.updCal_touch (sub_trans (by decide) hw) _ _ _ ?_
    | refine State.flow_touch (sub_trans (by decide) hw) _ _ _ ?_
    | refine State.emit_touch (sub_trans (by decide) hw) _ _ ?_
    | refine State.bump_touch (sub_trans (by decide) hw) _ _ _ ?_
    | refine State.raiseLim_touch (sub_trans (by decide) hw) _ _ _ _ ?_
    | refine State.followUp_touch (sub_trans (by decide) hw) _ _ ?_
    | refine State.departureCheck_touch (sub_trans (by decide) hw) _ _ _ ?_
    | (apply touch_ite_then; on_goal 1 => solve | (repeat' first | exact Touch.refl _ _ | refine State.advTo_touch (sub_trans (by decide) hw) _ _ ?_ | refine State.wirePrune_touch (sub_trans (by decide) hw) _ _ ?_ | refine State.updCal_touch (sub_trans (by decide) hw) _ _ _ ?_ | refine State.flow_touch (sub_trans (by decide) hw) _ _ _ ?_ | refine State.emit_touch (sub_trans (by decide) hw) _ _ ?_ | refine State.bump_touch (sub_trans (by decide) hw) _ _ _ ?_ | refine State.raiseLim_touch (sub_trans (by decide) hw) _ _ _ _ ?_ | refine State.followUp_touch (sub_trans (by decide) hw) _ _ ?_ | refine State.departureCheck_touch (sub_trans (by decide) hw) _ _ _ ?_ | apply touch_foldl))
    | (apply touch_ite_else; on_goal 1 => solve | (repeat' first | exact Touch.refl _ _ | refine State.advTo_touch (sub_trans (by decide) hw) _ _ ?_ | refine State.wirePrune_touch (sub_trans (by decide) hw) _ _ ?_ | refine State.updCal_touch (sub_trans (by decide) hw) _ _ _ ?_ | refine State.flow_touch (sub_trans (by decide) hw) _ _ _ ?_ | refine State.emit_touch (sub_trans (by decide) hw) _ _ ?_ | refine State.bump_touch (sub_trans (by decide) hw) _ _ _ ?_ | refine State.raiseLim_touch (sub_trans (by decide) hw) _ _ _ _ ?_ | refine State.followUp_touch (sub_trans (by decide) hw) _ _ ?_ | refine State.departureCheck_touch (sub_trans (by decide) hw) _ _ _ ?_))
    | apply touch_ite
    | apply touch_foldl
    | refine touch_snd (by assumption) ?_
    | (intro _; try dsimp only)
    | assumption
    | split

theorem State.beStamp_touch (hw : 537924097 ||| w = w) : ∀ s n f sOut, Touch w s₀ s → Touch w s₀ (State.beStamp s n f sOut) := by
  intro s n f sOut h; unfold State.beStamp; try dsimp only
  repeat' with_reducible first
    | exact h
    | exact Touch.refl _ _
    | refine State.htxDone_touch (sub_trans (by decide) hw) _ _ ?_
    | refine State.tsqPush_touch (sub_trans (by decide) hw) _ _ _ _ _ ?_
    | refine State.updClient_touch (sub_trans (by decide) hw) _ _ _ ?_
    | (apply touch_ite_then; on_goal 1 => solve | (repeat' first | exact Touch.refl _ _ | refine State.htxDone_touch (sub_trans (by decide) hw) _ _ ?_ | refine State.tsqPush_touch (sub_trans (by decide) hw) _ _ _ _ _ ?_ | refine State.updClient_touch (sub_trans (by decide) hw) _ _ _ ?_))
    | apply touch_ite
    | apply touch_foldl
    | refine touch_snd (by assumption) ?_
    | (intro _; try dsimp only)
    | assumption
    | split

theorem execBeRelease_touch (hw : 537932297 ||| w = w) : ∀ n dev s, Touch w s₀ s → TouchR w s₀ (execBeRelease n dev s) := by
  intro n dev s h; unfold execBeRelease; try dsimp only
  repeat' with_reducible first
    | exact h
    | exact Touch.refl _ _
    | apply touchR_next
    | apply touchR_ite
    | refine State.wirePrune_touch (sub_trans (by decide) hw) _ _ ?_
    | refine State.advTo_touch (sub_trans (by decide) hw) _ _ ?_
    | refine State.updPort_touch (sub_trans (by decide) hw) _ _ _ ?_
    | refine State.flow_touch (sub_trans (by decide) hw) _ _ _ ?_
    | refine State.emit_touch (sub_trans (by decide) hw) _ _ ?_
    | refine State.bump_touch (sub_trans (by decide) hw) _ _ _ ?_
    | refine State.keepMax_touch (sub_trans (by decide) hw) _ _ _ ?_
    | refine State.beStamp_touch (sub_trans (by decide) hw) _ _ _ _ ?_
    | apply touch_ite
    | apply touch_foldl
    | refine touch_snd (by assumption) ?_
    | (intro _; try dsimp only)
    | assumption
    | split

theorem execBeReserve_touch (hw : 536883721 ||| w = w) : ∀ n s, Touch w s₀ s → TouchR w s₀ (execBeReserve n s) := by
  intro n s h; unfold execBeReserve; try dsimp only
  repeat' with_reducible first
    | exact h
    | exact Touch.refl _ _
    | apply touchR_next
    | apply touchR_ite
    | refine State.wirePrune_touch (sub_trans (by decide) hw) _ _ ?_
    | refine State.advTo_touch (sub_trans (by decide) hw) _ _ ?_
    | refine State.raise_touch (sub_trans (by decide) hw) _ _ ?_
    | refine State.bump_touch (sub_trans (by decide) hw) _ _ _ ?_
    | refine State.updPort_touch (sub_trans (by decide) hw) _ _ _ ?_
    | apply touch_ite
    | apply touch_foldl
    | refine touch_snd (by assumption) ?_
    | (intro _; try dsimp only)
    | assumption
    | split

end Sys2Proof.Machine
end

