-- ==== Sys2Proof/Laws/Keeps/TimeSync.lean ====
section
/-!
SUPPORT. What each operation of TimeSync keeps.
-/

namespace Sys2Proof.Machine

variable {w : Nat} {s₀ : State}

theorem State.grantWrite_touch (hw : 1048576 ||| w = w) : ∀ s i g place, Touch w s₀ s → Touch w s₀ (State.grantWrite s i g place) := by
  intro s i g place h; unfold State.grantWrite; try dsimp only
  repeat' with_reducible first
    | exact h
    | exact Touch.refl _ _
    | fail_if_no_progress refine touch_ptp (sub_trans (by decide) hw) ?_

theorem State.grantCancelAll_touch (hw : 537924097 ||| w = w) : ∀ s, Touch w s₀ s → Touch w s₀ (State.grantCancelAll s) := by
  intro s h; unfold State.grantCancelAll; try dsimp only
  repeat' with_reducible first
    | exact h
    | exact Touch.refl _ _
    | refine State.bump_touch (sub_trans (by decide) hw) _ _ _ ?_
    | refine State.portSignal_touch (sub_trans (by decide) hw) _ _ _ _ _ _ _ ?_
    | refine State.grantWrite_touch (sub_trans (by decide) hw) _ _ _ _ ?_
    | (apply touch_ite_then; on_goal 1 => solve | (repeat' first | exact Touch.refl _ _ | refine State.bump_touch (sub_trans (by decide) hw) _ _ _ ?_ | refine State.portSignal_touch (sub_trans (by decide) hw) _ _ _ _ _ _ _ ?_ | refine State.grantWrite_touch (sub_trans (by decide) hw) _ _ _ _ ?_ | apply touch_foldl))
    | (apply touch_ite_else; on_goal 1 => solve | (repeat' first | exact Touch.refl _ _ | refine State.bump_touch (sub_trans (by decide) hw) _ _ _ ?_ | refine State.portSignal_touch (sub_trans (by decide) hw) _ _ _ _ _ _ _ ?_ | refine State.grantWrite_touch (sub_trans (by decide) hw) _ _ _ _ ?_ | apply touch_foldl | (intro _ _; try dsimp only)))
    | apply touch_ite
    | apply touch_foldl
    | (intro _ _ _ k; try dsimp only)
    | (intro _ _; try dsimp only)

theorem State.servingSync_touch (hw : 536871553 ||| w = w) : ∀ s, Touch w s₀ s → Touch w s₀ (State.servingSync s) := by
  intro s h; unfold State.servingSync; try dsimp only
  repeat' with_reducible first
    | exact h
    | exact Touch.refl _ _
    | refine State.raise_touch (sub_trans (by decide) hw) _ _ ?_
    | fail_if_no_progress refine touch_serve (sub_trans (by decide) hw) ?_
    | (apply touch_ite_then; on_goal 1 => solve | (repeat' first | exact Touch.refl _ _ | refine State.raise_touch (sub_trans (by decide) hw) _ _ ?_ | fail_if_no_progress refine touch_serve (sub_trans (by decide) hw) ?_))

theorem State.timeStateChange_touch (hw : 546574977 ||| w = w) : ∀ s, Touch w s₀ s → Touch w s₀ (State.timeStateChange s) := by
  intro s h; unfold State.timeStateChange; try dsimp only
  repeat' with_reducible first
    | exact h
    | exact Touch.refl _ _
    | refine State.pushView_touch (sub_trans (by decide) hw) _ _ ?_
    | refine State.raise_touch (sub_trans (by decide) hw) _ _ ?_
    | refine State.grantCancelAll_touch (sub_trans (by decide) hw) _ ?_
    | refine State.noteStratum_touch (sub_trans (by decide) hw) _ _ ?_
    | refine State.servingSync_touch (sub_trans (by decide) hw) _ ?_
    | fail_if_no_progress refine touch_srv_clk (sub_trans (by decide) hw) ?_
    | fail_if_no_progress refine touch_ptp (sub_trans (by decide) hw) ?_
    | fail_if_no_progress refine touch_srv (sub_trans (by decide) hw) ?_
    | (apply touch_ite_then; on_goal 1 => solve | (repeat' first | exact Touch.refl _ _ | refine State.pushView_touch (sub_trans (by decide) hw) _ _ ?_ | refine State.raise_touch (sub_trans (by decide) hw) _ _ ?_ | refine State.grantCancelAll_touch (sub_trans (by decide) hw) _ ?_ | refine State.noteStratum_touch (sub_trans (by decide) hw) _ _ ?_ | refine State.servingSync_touch (sub_trans (by decide) hw) _ ?_ | fail_if_no_progress refine touch_srv_clk (sub_trans (by decide) hw) ?_ | fail_if_no_progress refine touch_ptp (sub_trans (by decide) hw) ?_ | fail_if_no_progress refine touch_srv (sub_trans (by decide) hw) ?_ | apply touch_foldl))
    | (apply touch_ite_else; on_goal 1 => solve | (repeat' first | exact Touch.refl _ _ | refine State.pushView_touch (sub_trans (by decide) hw) _ _ ?_ | refine State.raise_touch (sub_trans (by decide) hw) _ _ ?_ | refine State.grantCancelAll_touch (sub_trans (by decide) hw) _ ?_ | refine State.noteStratum_touch (sub_trans (by decide) hw) _ _ ?_ | refine State.servingSync_touch (sub_trans (by decide) hw) _ ?_ | fail_if_no_progress refine touch_srv_clk (sub_trans (by decide) hw) ?_ | fail_if_no_progress refine touch_ptp (sub_trans (by decide) hw) ?_ | fail_if_no_progress refine touch_srv (sub_trans (by decide) hw) ?_))

end Sys2Proof.Machine
end

