-- ==== Sys2Proof/Laws/Keeps/PtpClient.lean ====
section
/-!
SUPPORT. What each operation of PtpClient keeps.
-/

namespace Sys2Proof.Machine

variable {w : Nat} {s₀ : State}

theorem State.clSetPort_touch (hw : 542114305 ||| w = w) : ∀ s i p, Touch w s₀ s → Touch w s₀ (State.clSetPort s i p) := by
  intro s i p h; unfold State.clSetPort; try dsimp only
  repeat' with_reducible first
    | exact h
    | exact Touch.refl _ _
    | refine State.raise_touch (sub_trans (by decide) hw) _ _ ?_
    | refine State.updClient_touch (sub_trans (by decide) hw) _ _ _ ?_
    | fail_if_no_progress refine touch_ref (sub_trans (by decide) hw) ?_
    | (apply touch_ite_then; on_goal 1 => solve | (repeat' first | exact Touch.refl _ _ | refine State.raise_touch (sub_trans (by decide) hw) _ _ ?_ | refine State.updClient_touch (sub_trans (by decide) hw) _ _ _ ?_ | fail_if_no_progress refine touch_ref (sub_trans (by decide) hw) ?_ | apply touch_foldl))
    | (apply touch_ite_else; on_goal 1 => solve | (repeat' first | exact Touch.refl _ _ | refine State.raise_touch (sub_trans (by decide) hw) _ _ ?_ | refine State.updClient_touch (sub_trans (by decide) hw) _ _ _ ?_ | fail_if_no_progress refine touch_ref (sub_trans (by decide) hw) ?_))

theorem State.clSetServo_touch (hw : 542114305 ||| w = w) : ∀ s i v, Touch w s₀ s → Touch w s₀ (State.clSetServo s i v) := by
  intro s i v h; unfold State.clSetServo; try dsimp only
  repeat' with_reducible first
    | exact h
    | exact Touch.refl _ _
    | refine State.raise_touch (sub_trans (by decide) hw) _ _ ?_
    | refine State.updClient_touch (sub_trans (by decide) hw) _ _ _ ?_
    | fail_if_no_progress refine touch_ref (sub_trans (by decide) hw) ?_
    | (apply touch_ite_then; on_goal 1 => solve | (repeat' first | exact Touch.refl _ _ | refine State.raise_touch (sub_trans (by decide) hw) _ _ ?_ | refine State.updClient_touch (sub_trans (by decide) hw) _ _ _ ?_ | fail_if_no_progress refine touch_ref (sub_trans (by decide) hw) ?_ | apply touch_foldl))
    | (apply touch_ite_else; on_goal 1 => solve | (repeat' first | exact Touch.refl _ _ | refine State.raise_touch (sub_trans (by decide) hw) _ _ ?_ | refine State.updClient_touch (sub_trans (by decide) hw) _ _ _ ?_ | fail_if_no_progress refine touch_ref (sub_trans (by decide) hw) ?_))

theorem State.clFreeRun_touch (hw : 542114305 ||| w = w) : ∀ s i, Touch w s₀ s → Touch w s₀ (State.clFreeRun s i) := by
  intro s i h; unfold State.clFreeRun; try dsimp only
  repeat' with_reducible first
    | exact h
    | exact Touch.refl _ _
    | refine State.clSetServo_touch (sub_trans (by decide) hw) _ _ _ ?_
    | apply touch_foldl
    | refine touch_snd (by assumption) ?_
    | (intro _; try dsimp only)
    | assumption
    | split

theorem State.clForget_touch (hw : 1048576 ||| w = w) : ∀ s i, Touch w s₀ s → Touch w s₀ (State.clForget s i) := by
  intro s i h; unfold State.clForget; try dsimp only
  repeat' with_reducible first
    | exact h
    | exact Touch.refl _ _
    | refine State.updClient_touch (sub_trans (by decide) hw) _ _ _ ?_

theorem State.clListen_touch (hw : 542114305 ||| w = w) : ∀ s i, Touch w s₀ s → Touch w s₀ (State.clListen s i) := by
  intro s i h; unfold State.clListen; try dsimp only
  repeat' with_reducible first
    | exact h
    | exact Touch.refl _ _
    | refine State.updClient_touch (sub_trans (by decide) hw) _ _ _ ?_
    | refine State.clForget_touch (sub_trans (by decide) hw) _ _ ?_
    | refine State.clFreeRun_touch (sub_trans (by decide) hw) _ _ ?_
    | refine State.clSetPort_touch (sub_trans (by decide) hw) _ _ _ ?_

theorem State.clFault_touch (hw : 542114305 ||| w = w) : ∀ s i, Touch w s₀ s → Touch w s₀ (State.clFault s i) := by
  intro s i h; unfold State.clFault; try dsimp only
  repeat' with_reducible first
    | exact h
    | exact Touch.refl _ _
    | refine State.updClient_touch (sub_trans (by decide) hw) _ _ _ ?_
    | refine State.clForget_touch (sub_trans (by decide) hw) _ _ ?_
    | refine State.clFreeRun_touch (sub_trans (by decide) hw) _ _ ?_
    | refine State.clSetPort_touch (sub_trans (by decide) hw) _ _ _ ?_

theorem State.clPortDown_touch (hw : 542114305 ||| w = w) : ∀ s n, Touch w s₀ s → Touch w s₀ (State.clPortDown s n) := by
  intro s n h; unfold State.clPortDown; try dsimp only
  repeat' with_reducible first
    | exact h
    | exact Touch.refl _ _
    | refine State.clFault_touch (sub_trans (by decide) hw) _ _ ?_
    | (apply touch_ite_then; on_goal 1 => solve | (repeat' first | exact Touch.refl _ _ | refine State.clFault_touch (sub_trans (by decide) hw) _ _ ?_))
    | apply touch_ite
    | apply touch_foldl
    | (intro _ _ _ k; try dsimp only)
    | (intro _ _; try dsimp only)

theorem State.clPortUp_touch (hw : 542114305 ||| w = w) : ∀ s n, Touch w s₀ s → Touch w s₀ (State.clPortUp s n) := by
  intro s n h; unfold State.clPortUp; try dsimp only
  repeat' with_reducible first
    | exact h
    | exact Touch.refl _ _
    | refine State.clListen_touch (sub_trans (by decide) hw) _ _ ?_
    | (apply touch_ite_then; on_goal 1 => solve | (repeat' first | exact Touch.refl _ _ | refine State.clListen_touch (sub_trans (by decide) hw) _ _ ?_))
    | apply touch_ite
    | apply touch_foldl
    | (intro _ _ _ k; try dsimp only)
    | (intro _ _; try dsimp only)

theorem State.clCommit_touch (hw : 542114305 ||| w = w) : ∀ s old i, Touch w s₀ s → Touch w s₀ (State.clCommit s old i) := by
  intro s old i h; unfold State.clCommit; try dsimp only
  repeat' with_reducible first
    | exact h
    | exact Touch.refl _ _
    | refine State.clSetPort_touch (sub_trans (by decide) hw) _ _ _ ?_
    | refine State.clSetServo_touch (sub_trans (by decide) hw) _ _ _ ?_
    | refine State.updClient_touch (sub_trans (by decide) hw) _ _ _ ?_
    | refine State.clForget_touch (sub_trans (by decide) hw) _ _ ?_
    | refine State.clListen_touch (sub_trans (by decide) hw) _ _ ?_
    | refine State.clFault_touch (sub_trans (by decide) hw) _ _ ?_
    | (apply touch_ite_then; on_goal 1 => solve | (repeat' first | exact Touch.refl _ _ | refine State.clSetPort_touch (sub_trans (by decide) hw) _ _ _ ?_ | refine State.clSetServo_touch (sub_trans (by decide) hw) _ _ _ ?_ | refine State.updClient_touch (sub_trans (by decide) hw) _ _ _ ?_ | refine State.clForget_touch (sub_trans (by decide) hw) _ _ ?_ | refine State.clListen_touch (sub_trans (by decide) hw) _ _ ?_ | refine State.clFault_touch (sub_trans (by decide) hw) _ _ ?_ | apply touch_foldl))
    | (apply touch_ite_else; on_goal 1 => solve | (repeat' first | exact Touch.refl _ _ | refine State.clSetPort_touch (sub_trans (by decide) hw) _ _ _ ?_ | refine State.clSetServo_touch (sub_trans (by decide) hw) _ _ _ ?_ | refine State.updClient_touch (sub_trans (by decide) hw) _ _ _ ?_ | refine State.clForget_touch (sub_trans (by decide) hw) _ _ ?_ | refine State.clListen_touch (sub_trans (by decide) hw) _ _ ?_ | refine State.clFault_touch (sub_trans (by decide) hw) _ _ ?_ | apply touch_foldl))
    | apply touch_ite

end Sys2Proof.Machine
end

