-- ==== Sys2Proof/Laws/Keeps/Link.lean ====
section
/-!
SUPPORT. What each operation of Link keeps.
-/

namespace Sys2Proof.Machine

variable {w : Nat} {s₀ : State}

theorem State.dropArriving_touch (hw : 65537 ||| w = w) : ∀ s n, Touch w s₀ s → Touch w s₀ (State.dropArriving s n) := by
  intro s n h; unfold State.dropArriving; try dsimp only
  repeat' with_reducible first
    | exact h
    | exact Touch.refl _ _
    | refine State.unqueue_touch (sub_trans (by decide) hw) _ _ _ ?_
    | refine State.freeCredit_touch (sub_trans (by decide) hw) _ _ ?_
    | refine State.updClu_touch (sub_trans (by decide) hw) _ _ _ ?_
    | refine State.bump_touch (sub_trans (by decide) hw) _ _ _ ?_
    | apply touch_foldl
    | (intro _ _ _ k; try dsimp only)
    | (intro _ _; try dsimp only)

theorem State.dropLeaving_touch (hw : 536883713 ||| w = w) : ∀ s t counter n, Touch w s₀ s → Touch w s₀ (State.dropLeaving s t counter n) := by
  intro s t counter n h; unfold State.dropLeaving; try dsimp only
  repeat' with_reducible first
    | exact h
    | exact Touch.refl _ _
    | refine State.bump_touch (sub_trans (by decide) hw) _ _ _ ?_
    | refine State.updCal_touch (sub_trans (by decide) hw) _ _ _ ?_
    | refine State.updPort_touch (sub_trans (by decide) hw) _ _ _ ?_
    | refine State.htxDrop_touch (sub_trans (by decide) hw) _ _ _ _ ?_
    | apply touch_foldl
    | (intro _ _ _ k; try dsimp only)
    | (intro _ _; try dsimp only)
    | refine touch_snd (by assumption) ?_
    | (intro _; try dsimp only)
    | assumption
    | split

theorem State.linkDown_touch (hw : 542192129 ||| w = w) : ∀ s t n byCommit, Touch w s₀ s → Touch w s₀ (State.linkDown s t n byCommit) := by
  intro s t n byCommit h; unfold State.linkDown; try dsimp only
  repeat' with_reducible first
    | exact h
    | exact Touch.refl _ _
    | refine State.dropLeaving_touch (sub_trans (by decide) hw) _ _ _ _ ?_
    | refine State.dropArriving_touch (sub_trans (by decide) hw) _ _ ?_
    | refine State.updPort_touch (sub_trans (by decide) hw) _ _ _ ?_
    | refine State.clPortDown_touch (sub_trans (by decide) hw) _ _ ?_
    | refine State.portEvt_touch (sub_trans (by decide) hw) _ _ _ ?_
    | apply touch_foldl
    | refine touch_snd (by assumption) ?_
    | (intro _; try dsimp only)
    | assumption
    | split

theorem State.calRetry_touch (hw : 542192129 ||| w = w) : ∀ s n, Touch w s₀ s → Touch w s₀ (State.calRetry s n) := by
  intro s n h; unfold State.calRetry; try dsimp only
  repeat' with_reducible first
    | exact h
    | exact Touch.refl _ _
    | refine State.linkDown_touch (sub_trans (by decide) hw) _ _ _ _ ?_

theorem State.lanePower_touch (hw : 4096 ||| w = w) : ∀ s n, Touch w s₀ s → Touch w s₀ (State.lanePower s n) := by
  intro s n h; unfold State.lanePower; try dsimp only
  repeat' with_reducible first
    | exact h
    | exact Touch.refl _ _
    | refine State.updPort_touch (sub_trans (by decide) hw) _ _ _ ?_

theorem execSignalDetect_touch (hw : 4096 ||| w = w) : ∀ n lanes s, Touch w s₀ s → TouchR w s₀ (execSignalDetect n lanes s) := by
  intro n lanes s h; unfold execSignalDetect; try dsimp only
  repeat' with_reducible first
    | exact h
    | exact Touch.refl _ _
    | apply touchR_next
    | apply touchR_ite
    | refine State.updPort_touch (sub_trans (by decide) hw) _ _ _ ?_
    | (apply touch_ite_then; on_goal 1 => solve | (repeat' first | exact Touch.refl _ _ | refine State.updPort_touch (sub_trans (by decide) hw) _ _ _ ?_))

theorem execRxSweepDone_touch (hw : 4616 ||| w = w) : ∀ n s, Touch w s₀ s → TouchR w s₀ (execRxSweepDone n s) := by
  intro n s h; unfold execRxSweepDone; try dsimp only
  repeat' with_reducible first
    | exact h
    | exact Touch.refl _ _
    | apply touchR_next
    | apply touchR_ite
    | refine State.advTo_touch (sub_trans (by decide) hw) _ _ ?_
    | refine State.updPort_touch (sub_trans (by decide) hw) _ _ _ ?_

theorem execPcsLinkUp_touch (hw : 4096 ||| w = w) : ∀ n s, Touch w s₀ s → TouchR w s₀ (execPcsLinkUp n s) := by
  intro n s h; unfold execPcsLinkUp; try dsimp only
  repeat' with_reducible first
    | exact h
    | exact Touch.refl _ _
    | apply touchR_next
    | apply touchR_ite
    | refine State.updPort_touch (sub_trans (by decide) hw) _ _ _ ?_

theorem State.calLoad_touch (hw : 536875521 ||| w = w) : ∀ s n c, Touch w s₀ s → Touch w s₀ (State.calLoad s n c) := by
  intro s n c h; unfold State.calLoad; try dsimp only
  repeat' with_reducible first
    | exact h
    | exact Touch.refl _ _
    | refine State.updPort_touch (sub_trans (by decide) hw) _ _ _ ?_
    | refine State.portEvt_touch (sub_trans (by decide) hw) _ _ _ ?_
    | (apply touch_ite_then; on_goal 1 => solve | (repeat' first | exact Touch.refl _ _ | refine State.updPort_touch (sub_trans (by decide) hw) _ _ _ ?_ | refine State.portEvt_touch (sub_trans (by decide) hw) _ _ _ ?_ | apply touch_foldl))
    | (apply touch_ite_else; on_goal 1 => solve | (repeat' first | exact Touch.refl _ _ | refine State.updPort_touch (sub_trans (by decide) hw) _ _ _ ?_ | refine State.portEvt_touch (sub_trans (by decide) hw) _ _ _ ?_))

theorem execCalTrack_touch (hw : 4616 ||| w = w) : ∀ n rx tx skews s, Touch w s₀ s → TouchR w s₀ (execCalTrack n rx tx skews s) := by
  intro n rx tx skews s h; unfold execCalTrack; try dsimp only
  repeat' with_reducible first
    | exact h
    | exact Touch.refl _ _
    | apply touchR_next
    | apply touchR_ite
    | refine State.advTo_touch (sub_trans (by decide) hw) _ _ ?_
    | refine State.updPort_touch (sub_trans (by decide) hw) _ _ _ ?_

theorem State.rwlApply_touch (hw : 4096 ||| w = w) : ∀ s n a v, Touch w s₀ s → Touch w s₀ (State.rwlApply s n a v) := by
  intro s n a v h; unfold State.rwlApply; try dsimp only
  repeat' with_reducible first
    | exact h
    | exact Touch.refl _ _
    | refine State.updPort_touch (sub_trans (by decide) hw) _ _ _ ?_
    | (apply touch_ite_then; on_goal 1 => solve | (repeat' first | exact Touch.refl _ _ | refine State.updPort_touch (sub_trans (by decide) hw) _ _ _ ?_ | apply touch_foldl))
    | (apply touch_ite_else; on_goal 1 => solve | (repeat' first | exact Touch.refl _ _ | refine State.updPort_touch (sub_trans (by decide) hw) _ _ _ ?_ | apply touch_foldl))
    | apply touch_ite

theorem execRwlEffect_touch (hw : 21000 ||| w = w) : ∀ s, Touch w s₀ s → TouchR w s₀ (execRwlEffect s) := by
  intro s h; unfold execRwlEffect; try dsimp only
  repeat' with_reducible first
    | exact h
    | exact Touch.refl _ _
    | apply touchR_next
    | apply touchR_ite
    | refine State.advTo_touch (sub_trans (by decide) hw) _ _ ?_
    | refine State.rwlApply_touch (sub_trans (by decide) hw) _ _ _ _ ?_
    | fail_if_no_progress refine touch_rwl (sub_trans (by decide) hw) ?_
    | apply touch_foldl
    | (intro _ _ _ k; try dsimp only)
    | (intro _ _; try dsimp only)
    | refine touch_snd (by assumption) ?_
    | (intro _; try dsimp only)
    | assumption
    | split

end Sys2Proof.Machine
end

