-- ==== Sys2Proof/Laws/Keeps/Keys.lean ====
section
/-!
SUPPORT. What each operation of Keys keeps.
-/

namespace Sys2Proof.Machine

variable {w : Nat} {s₀ : State}

theorem State.lockRefused_touch (hw : 536871425 ||| w = w) : ∀ s, Touch w s₀ s → Touch w s₀ (State.lockRefused s) := by
  intro s h; unfold State.lockRefused; try dsimp only
  repeat' with_reducible first
    | exact h
    | exact Touch.refl _ _
    | refine State.raiseLim_touch (sub_trans (by decide) hw) _ _ _ _ ?_
    | refine State.bump_touch (sub_trans (by decide) hw) _ _ _ ?_

theorem State.updKeyBank_touch (hw : 262144 ||| w = w) : ∀ s ptp b f, Touch w s₀ s → Touch w s₀ (State.updKeyBank s ptp b f) := by
  intro s ptp b f h; unfold State.updKeyBank; try dsimp only
  repeat' with_reducible first
    | exact h
    | exact Touch.refl _ _
    | fail_if_no_progress refine touch_srv (sub_trans (by decide) hw) ?_
    | (apply touch_ite_then; on_goal 1 => solve | (repeat' first | exact Touch.refl _ _ | fail_if_no_progress refine touch_srv (sub_trans (by decide) hw) ?_ | apply touch_foldl))
    | (apply touch_ite_else; on_goal 1 => solve | (repeat' first | exact Touch.refl _ _ | fail_if_no_progress refine touch_srv (sub_trans (by decide) hw) ?_ | apply touch_foldl))
    | apply touch_ite

theorem State.updKey_touch (hw : 262144 ||| w = w) : ∀ s ptp i f, Touch w s₀ s → Touch w s₀ (State.updKey s ptp i f) := by
  intro s ptp i f h; unfold State.updKey; try dsimp only
  repeat' with_reducible first
    | exact h
    | exact Touch.refl _ _
    | refine State.updAnnexKey_touch (sub_trans (by decide) hw) _ _ _ ?_
    | refine State.updSymKey_touch (sub_trans (by decide) hw) _ _ _ ?_
    | (apply touch_ite_then; on_goal 1 => solve | (repeat' first | exact Touch.refl _ _ | refine State.updAnnexKey_touch (sub_trans (by decide) hw) _ _ _ ?_ | refine State.updSymKey_touch (sub_trans (by decide) hw) _ _ _ ?_ | apply touch_foldl))
    | (apply touch_ite_else; on_goal 1 => solve | (repeat' first | exact Touch.refl _ _ | refine State.updAnnexKey_touch (sub_trans (by decide) hw) _ _ _ ?_ | refine State.updSymKey_touch (sub_trans (by decide) hw) _ _ _ ?_ | apply touch_foldl))
    | apply touch_ite

theorem State.keyLoad_touch (hw : 262144 ||| w = w) : ∀ s ptp b i, Touch w s₀ s → Touch w s₀ (State.keyLoad s ptp b i) := by
  intro s ptp b i h; unfold State.keyLoad; try dsimp only
  repeat' with_reducible first
    | exact h
    | exact Touch.refl _ _
    | refine State.updKeyBank_touch (sub_trans (by decide) hw) _ _ _ _ ?_

theorem State.keyEffect_touch (hw : 262144 ||| w = w) : ∀ s p, Touch w s₀ s → Touch w s₀ (State.keyEffect s p) := by
  intro s p h; unfold State.keyEffect; try dsimp only
  repeat' with_reducible first
    | exact h
    | exact Touch.refl _ _
    | refine State.updKey_touch (sub_trans (by decide) hw) _ _ _ _ ?_
    | refine State.keyLoad_touch (sub_trans (by decide) hw) _ _ _ _ ?_
    | (apply touch_ite_then; on_goal 1 => solve | (repeat' first | exact Touch.refl _ _ | refine State.updKey_touch (sub_trans (by decide) hw) _ _ _ _ ?_ | refine State.keyLoad_touch (sub_trans (by decide) hw) _ _ _ _ ?_))
    | apply touch_ite
    | apply touch_foldl
    | refine touch_snd (by assumption) ?_
    | (intro _; try dsimp only)
    | assumption
    | split

theorem State.keyFire_touch (hw : 262664 ||| w = w) : ∀ s p, Touch w s₀ s → Touch w s₀ (State.keyFire s p) := by
  intro s p h; unfold State.keyFire; try dsimp only
  repeat' with_reducible first
    | exact h
    | exact Touch.refl _ _
    | refine State.advTo_touch (sub_trans (by decide) hw) _ _ ?_
    | refine State.keyEffect_touch (sub_trans (by decide) hw) _ _ ?_
    | fail_if_no_progress refine touch_srv (sub_trans (by decide) hw) ?_

theorem State.keyDue_touch (hw : 262664 ||| w = w) : ∀ s t, Touch w s₀ s → Touch w s₀ (State.keyDue s t) := by
  intro s t h; unfold State.keyDue; try dsimp only
  repeat' with_reducible first
    | exact h
    | exact Touch.refl _ _
    | refine State.keyFire_touch (sub_trans (by decide) hw) _ _ ?_
    | apply touch_foldl
    | (intro _ _ _ k; try dsimp only)
    | (intro _ _; try dsimp only)

theorem State.keyCmd_touch (hw : 537133577 ||| w = w) : ∀ s ptp m write disable stat, Touch w s₀ s → Touch w s₀ (State.keyCmd s ptp m write disable stat) := by
  intro s ptp m write disable stat h; unfold State.keyCmd; try dsimp only
  repeat' with_reducible first
    | exact h
    | exact Touch.refl _ _
    | refine State.raise_touch (sub_trans (by decide) hw) _ _ ?_
    | refine State.updKeyBank_touch (sub_trans (by decide) hw) _ _ _ _ ?_
    | refine State.keyLoad_touch (sub_trans (by decide) hw) _ _ _ _ ?_
    | refine State.advTo_touch (sub_trans (by decide) hw) _ _ ?_
    | refine State.keyDue_touch (sub_trans (by decide) hw) _ _ ?_
    | fail_if_no_progress refine touch_srv (sub_trans (by decide) hw) ?_
    | (apply touch_ite_then; on_goal 1 => solve | (repeat' first | exact Touch.refl _ _ | refine State.raise_touch (sub_trans (by decide) hw) _ _ ?_ | refine State.updKeyBank_touch (sub_trans (by decide) hw) _ _ _ _ ?_ | refine State.keyLoad_touch (sub_trans (by decide) hw) _ _ _ _ ?_ | refine State.advTo_touch (sub_trans (by decide) hw) _ _ ?_ | refine State.keyDue_touch (sub_trans (by decide) hw) _ _ ?_ | fail_if_no_progress refine touch_srv (sub_trans (by decide) hw) ?_ | apply touch_foldl))
    | (apply touch_ite_else; on_goal 1 => solve | (repeat' first | exact Touch.refl _ _ | refine State.raise_touch (sub_trans (by decide) hw) _ _ ?_ | refine State.updKeyBank_touch (sub_trans (by decide) hw) _ _ _ _ ?_ | refine State.keyLoad_touch (sub_trans (by decide) hw) _ _ _ _ ?_ | refine State.advTo_touch (sub_trans (by decide) hw) _ _ ?_ | refine State.keyDue_touch (sub_trans (by decide) hw) _ _ ?_ | fail_if_no_progress refine touch_srv (sub_trans (by decide) hw) ?_ | apply touch_foldl))
    | apply touch_ite

theorem execSymKeyWrite_touch (hw : 537133577 ||| w = w) : ∀ m stat s, Touch w s₀ s → TouchR w s₀ (execSymKeyWrite m stat s) := by
  intro m stat s h; unfold execSymKeyWrite; try dsimp only
  repeat' with_reducible first
    | exact h
    | exact Touch.refl _ _
    | apply touchR_next
    | apply touchR_ite
    | refine State.keyCmd_touch (sub_trans (by decide) hw) _ _ _ _ _ _ ?_

theorem execSymKeyDisable_touch (hw : 537133577 ||| w = w) : ∀ m stat s, Touch w s₀ s → TouchR w s₀ (execSymKeyDisable m stat s) := by
  intro m stat s h; unfold execSymKeyDisable; try dsimp only
  repeat' with_reducible first
    | exact h
    | exact Touch.refl _ _
    | apply touchR_next
    | apply touchR_ite
    | refine State.keyCmd_touch (sub_trans (by decide) hw) _ _ _ _ _ _ ?_

theorem execSymKeyStat_touch (hw : 537133577 ||| w = w) : ∀ m s, Touch w s₀ s → TouchR w s₀ (execSymKeyStat m s) := by
  intro m s h; unfold execSymKeyStat; try dsimp only
  repeat' with_reducible first
    | exact h
    | exact Touch.refl _ _
    | apply touchR_next
    | apply touchR_ite
    | refine State.keyCmd_touch (sub_trans (by decide) hw) _ _ _ _ _ _ ?_

theorem execPtpKeyWrite_touch (hw : 537133577 ||| w = w) : ∀ m stat s, Touch w s₀ s → TouchR w s₀ (execPtpKeyWrite m stat s) := by
  intro m stat s h; unfold execPtpKeyWrite; try dsimp only
  repeat' with_reducible first
    | exact h
    | exact Touch.refl _ _
    | apply touchR_next
    | apply touchR_ite
    | refine State.keyCmd_touch (sub_trans (by decide) hw) _ _ _ _ _ _ ?_

theorem execPtpKeyDisable_touch (hw : 537133577 ||| w = w) : ∀ m stat s, Touch w s₀ s → TouchR w s₀ (execPtpKeyDisable m stat s) := by
  intro m stat s h; unfold execPtpKeyDisable; try dsimp only
  repeat' with_reducible first
    | exact h
    | exact Touch.refl _ _
    | apply touchR_next
    | apply touchR_ite
    | refine State.keyCmd_touch (sub_trans (by decide) hw) _ _ _ _ _ _ ?_

theorem execPtpKeyStat_touch (hw : 537133577 ||| w = w) : ∀ m s, Touch w s₀ s → TouchR w s₀ (execPtpKeyStat m s) := by
  intro m s h; unfold execPtpKeyStat; try dsimp only
  repeat' with_reducible first
    | exact h
    | exact Touch.refl _ _
    | apply touchR_next
    | apply touchR_ite
    | refine State.keyCmd_touch (sub_trans (by decide) hw) _ _ _ _ _ _ ?_

theorem execKeyTableEffect_touch (hw : 262664 ||| w = w) : ∀ s, Touch w s₀ s → TouchR w s₀ (execKeyTableEffect s) := by
  intro s h; unfold execKeyTableEffect; try dsimp only
  repeat' with_reducible first
    | exact h
    | exact Touch.refl _ _
    | apply touchR_next
    | apply touchR_ite
    | refine State.keyFire_touch (sub_trans (by decide) hw) _ _ ?_
    | apply touch_ite
    | apply touch_foldl
    | refine touch_snd (by assumption) ?_
    | (intro _; try dsimp only)
    | assumption
    | split

theorem State.ruleRefused_touch (hw : 537133569 ||| w = w) : ∀ s, Touch w s₀ s → Touch w s₀ (State.ruleRefused s) := by
  intro s h; unfold State.ruleRefused; try dsimp only
  repeat' with_reducible first
    | exact h
    | exact Touch.refl _ _
    | refine State.raise_touch (sub_trans (by decide) hw) _ _ ?_
    | fail_if_no_progress refine touch_srv (sub_trans (by decide) hw) ?_

theorem State.ruleCmd_touch (hw : 537133571 ||| w = w) : ∀ s read write active, Touch w s₀ s → Touch w s₀ (State.ruleCmd s read write active) := by
  intro s read write active h; unfold State.ruleCmd; try dsimp only
  repeat' with_reducible first
    | exact h
    | exact Touch.refl _ _
    | refine State.ruleRefused_touch (sub_trans (by decide) hw) _ ?_
    | refine State.wr_touch (sub_trans (by decide) hw) _ _ _ ?_
    | refine State.lockRefused_touch (sub_trans (by decide) hw) _ ?_
    | refine State.wrSh_touch (sub_trans (by decide) hw) _ _ _ ?_
    | fail_if_no_progress refine touch_srv (sub_trans (by decide) hw) ?_
    | (apply touch_ite_then; on_goal 1 => solve | (repeat' first | exact Touch.refl _ _ | refine State.ruleRefused_touch (sub_trans (by decide) hw) _ ?_ | refine State.wr_touch (sub_trans (by decide) hw) _ _ _ ?_ | refine State.lockRefused_touch (sub_trans (by decide) hw) _ ?_ | refine State.wrSh_touch (sub_trans (by decide) hw) _ _ _ ?_ | fail_if_no_progress refine touch_srv (sub_trans (by decide) hw) ?_ | apply touch_foldl | (intro _ _; try dsimp only)))
    | (apply touch_ite_else; on_goal 1 => solve | (repeat' first | exact Touch.refl _ _ | refine State.ruleRefused_touch (sub_trans (by decide) hw) _ ?_ | refine State.wr_touch (sub_trans (by decide) hw) _ _ _ ?_ | refine State.lockRefused_touch (sub_trans (by decide) hw) _ ?_ | refine State.wrSh_touch (sub_trans (by decide) hw) _ _ _ ?_ | fail_if_no_progress refine touch_srv (sub_trans (by decide) hw) ?_ | apply touch_foldl | (intro _ _; try dsimp only)))
    | apply touch_ite
    | apply touch_foldl
    | (intro _ _ _ k; try dsimp only)
    | (intro _ _; try dsimp only)

theorem State.ruleCmd_keeps : ∀ s read write active, Keeps s₀ s → Keeps s₀ (State.ruleCmd s read write active) := by
  intro s read write active h
  have r : Keeps s₀ s.ruleRefused := Touch.after h (State.ruleRefused_touch (w := 537133569) rfl _ (Touch.refl _ _))
  have l : Keeps s₀ s.lockRefused := Touch.after h (State.lockRefused_touch (w := 536871425) rfl _ (Touch.refl _ _))
  unfold State.ruleCmd
  dsimp only
  refine keeps_ite r (keeps_ite (Keeps.fields ?_) (keeps_ite (keeps_ite (Keeps.fields l) (keeps_ite r (Keeps.fields ?_))) h))
  · exact Touch.after h (touch_foldl _ _ _ (fun _ _ => State.wr_touch (w := 1) rfl _ _ _ (Touch.refl _ _)) (Touch.refl _ _))
  · exact keeps_foldl _ _ _ (fun _ _ => State.wrSh_keeps _ _ _ (Keeps.refl _)) h

theorem execRuleRead_touch (hw : 537133571 ||| w = w) : ∀ active s, Touch w s₀ s → TouchR w s₀ (execRuleRead active s) := by
  intro active s h; unfold execRuleRead; try dsimp only
  repeat' with_reducible first
    | exact h
    | exact Touch.refl _ _
    | apply touchR_next
    | apply touchR_ite
    | refine State.ruleCmd_touch (sub_trans (by decide) hw) _ _ _ _ ?_

theorem execRuleRead_keeps : ∀ active s, Keeps s₀ s → KeepsR s₀ (execRuleRead active s) := by
  intro active s h; unfold execRuleRead; try dsimp only
  repeat' with_reducible first
    | exact h
    | exact Keeps.refl _
    | apply keepsR_next
    | apply keepsR_ite
    | apply State.ruleCmd_keeps

theorem execRuleWrite_touch (hw : 537133571 ||| w = w) : ∀ s, Touch w s₀ s → TouchR w s₀ (execRuleWrite s) := by
  intro s h; unfold execRuleWrite; try dsimp only
  repeat' with_reducible first
    | exact h
    | exact Touch.refl _ _
    | apply touchR_next
    | apply touchR_ite
    | refine State.ruleCmd_touch (sub_trans (by decide) hw) _ _ _ _ ?_

theorem execRuleWrite_keeps : ∀ s, Keeps s₀ s → KeepsR s₀ (execRuleWrite s) := by
  intro s h; unfold execRuleWrite; try dsimp only
  repeat' with_reducible first
    | exact h
    | exact Keeps.refl _
    | apply keepsR_next
    | apply keepsR_ite
    | apply State.ruleCmd_keeps

end Sys2Proof.Machine
end

