-- ==== Sys2Proof/Laws/Keeps/Nts.lean ====
section
/-!
SUPPORT. What each operation of Nts keeps.
-/

namespace Sys2Proof.Machine

variable {w : Nat} {s₀ : State}

theorem State.updNts_touch (hw : 262144 ||| w = w) : ∀ s f, Touch w s₀ s → Touch w s₀ (State.updNts s f) := by
  intro s f h; unfold State.updNts; try dsimp only
  repeat' with_reducible first
    | exact h
    | exact Touch.refl _ _
    | fail_if_no_progress refine touch_srv (sub_trans (by decide) hw) ?_

theorem State.ntsLoad_touch (hw : 673448449 ||| w = w) : ∀ s, Touch w s₀ s → Touch w s₀ (State.ntsLoad s) := by
  intro s h; unfold State.ntsLoad; try dsimp only
  repeat' with_reducible first
    | exact h
    | exact Touch.refl _ _
    | refine State.draw_touch (sub_trans (by decide) hw) _ ?_
    | refine State.updNts_touch (sub_trans (by decide) hw) _ _ ?_
    | refine State.slotSet_touch (sub_trans (by decide) hw) _ _ _ ?_
    | (apply touch_ite_then; on_goal 1 => solve | (repeat' first | exact Touch.refl _ _ | refine State.draw_touch (sub_trans (by decide) hw) _ ?_ | refine State.updNts_touch (sub_trans (by decide) hw) _ _ ?_ | refine State.slotSet_touch (sub_trans (by decide) hw) _ _ _ ?_ | apply touch_foldl))
    | (apply touch_ite_else; on_goal 1 => solve | (repeat' first | exact Touch.refl _ _ | refine State.draw_touch (sub_trans (by decide) hw) _ ?_ | refine State.updNts_touch (sub_trans (by decide) hw) _ _ ?_ | refine State.slotSet_touch (sub_trans (by decide) hw) _ _ _ ?_))

theorem execNtsKeyInstall_touch (hw : 673448449 ||| w = w) : ∀ bundle s, Touch w s₀ s → TouchR w s₀ (execNtsKeyInstall bundle s) := by
  intro bundle s h; unfold execNtsKeyInstall; try dsimp only
  repeat' with_reducible first
    | exact h
    | exact Touch.refl _ _
    | apply touchR_next
    | apply touchR_ite
    | refine State.importBundle_touch (sub_trans (by decide) hw) _ _ _ ?_
    | refine State.draw_touch (sub_trans (by decide) hw) _ ?_
    | refine State.ntsNext_touch (sub_trans (by decide) hw) _ _ _ ?_

theorem State.ntsTurn_touch (hw : 539230721 ||| w = w) : ∀ s t, Touch w s₀ s → Touch w s₀ (State.ntsTurn s t) := by
  intro s t h; unfold State.ntsTurn; try dsimp only
  repeat' with_reducible first
    | exact h
    | exact Touch.refl _ _
    | refine State.updNts_touch (sub_trans (by decide) hw) _ _ ?_
    | refine State.slotWipe_touch (sub_trans (by decide) hw) _ _ ?_
    | refine State.raise_touch (sub_trans (by decide) hw) _ _ ?_
    | fail_if_no_progress refine touch_pke (sub_trans (by decide) hw) ?_
    | (apply touch_ite_then; on_goal 1 => solve | (repeat' first | exact Touch.refl _ _ | refine State.updNts_touch (sub_trans (by decide) hw) _ _ ?_ | refine State.slotWipe_touch (sub_trans (by decide) hw) _ _ ?_ | refine State.raise_touch (sub_trans (by decide) hw) _ _ ?_ | fail_if_no_progress refine touch_pke (sub_trans (by decide) hw) ?_))

theorem execNtsRotate_touch (hw : 539230729 ||| w = w) : ∀ s, Touch w s₀ s → TouchR w s₀ (execNtsRotate s) := by
  intro s h; unfold execNtsRotate; try dsimp only
  repeat' with_reducible first
    | exact h
    | exact Touch.refl _ _
    | apply touchR_next
    | apply touchR_ite
    | refine State.advDt_touch (sub_trans (by decide) hw) _ _ ?_
    | refine State.ntsTurn_touch (sub_trans (by decide) hw) _ _ ?_
    | refine State.updNts_touch (sub_trans (by decide) hw) _ _ ?_
    | (apply touch_ite_then; on_goal 1 => solve | (repeat' first | exact Touch.refl _ _ | refine State.advDt_touch (sub_trans (by decide) hw) _ _ ?_ | refine State.ntsTurn_touch (sub_trans (by decide) hw) _ _ ?_ | refine State.updNts_touch (sub_trans (by decide) hw) _ _ ?_ | apply touch_foldl))
    | (apply touch_ite_else; on_goal 1 => solve | (repeat' first | exact Touch.refl _ _ | refine State.advDt_touch (sub_trans (by decide) hw) _ _ ?_ | refine State.ntsTurn_touch (sub_trans (by decide) hw) _ _ ?_ | refine State.updNts_touch (sub_trans (by decide) hw) _ _ ?_ | apply touch_foldl))
    | apply touch_ite

theorem execNtsRotateRetry_touch (hw : 539230729 ||| w = w) : ∀ s, Touch w s₀ s → TouchR w s₀ (execNtsRotateRetry s) := by
  intro s h; unfold execNtsRotateRetry; try dsimp only
  repeat' with_reducible first
    | exact h
    | exact Touch.refl _ _
    | apply touchR_next
    | apply touchR_ite
    | refine State.advDt_touch (sub_trans (by decide) hw) _ _ ?_
    | refine State.ntsTurn_touch (sub_trans (by decide) hw) _ _ ?_
    | refine State.raise_touch (sub_trans (by decide) hw) _ _ ?_
    | refine State.updNts_touch (sub_trans (by decide) hw) _ _ ?_
    | (apply touch_ite_then; on_goal 1 => solve | (repeat' first | exact Touch.refl _ _ | refine State.advDt_touch (sub_trans (by decide) hw) _ _ ?_ | refine State.ntsTurn_touch (sub_trans (by decide) hw) _ _ ?_ | refine State.raise_touch (sub_trans (by decide) hw) _ _ ?_ | refine State.updNts_touch (sub_trans (by decide) hw) _ _ ?_ | apply touch_foldl))
    | (apply touch_ite_else; on_goal 1 => solve | (repeat' first | exact Touch.refl _ _ | refine State.advDt_touch (sub_trans (by decide) hw) _ _ ?_ | refine State.ntsTurn_touch (sub_trans (by decide) hw) _ _ ?_ | refine State.raise_touch (sub_trans (by decide) hw) _ _ ?_ | refine State.updNts_touch (sub_trans (by decide) hw) _ _ ?_ | apply touch_foldl))
    | apply touch_ite
    | apply touch_foldl
    | refine touch_snd (by assumption) ?_
    | (intro _; try dsimp only)
    | assumption
    | split

theorem execNtsKeyWipe_touch (hw : 539230729 ||| w = w) : ∀ s, Touch w s₀ s → TouchR w s₀ (execNtsKeyWipe s) := by
  intro s h; unfold execNtsKeyWipe; try dsimp only
  repeat' with_reducible first
    | exact h
    | exact Touch.refl _ _
    | apply touchR_next
    | apply touchR_ite
    | refine State.advTo_touch (sub_trans (by decide) hw) _ _ ?_
    | refine State.updNts_touch (sub_trans (by decide) hw) _ _ ?_
    | refine State.slotWipe_touch (sub_trans (by decide) hw) _ _ ?_
    | (apply touch_ite_then; on_goal 1 => solve | (repeat' first | exact Touch.refl _ _ | refine State.advTo_touch (sub_trans (by decide) hw) _ _ ?_ | refine State.updNts_touch (sub_trans (by decide) hw) _ _ ?_ | refine State.slotWipe_touch (sub_trans (by decide) hw) _ _ ?_))

theorem State.setConns_touch (hw : 262144 ||| w = w) : ∀ s c, Touch w s₀ s → Touch w s₀ (State.setConns s c) := by
  intro s c h; unfold State.setConns; try dsimp only
  repeat' with_reducible first
    | exact h
    | exact Touch.refl _ _
    | fail_if_no_progress refine touch_srv (sub_trans (by decide) hw) ?_

theorem execNtskeConnect_touch (hw : 537133569 ||| w = w) : ∀ a sc3 s, Touch w s₀ s → TouchR w s₀ (execNtskeConnect a sc3 s) := by
  intro a sc3 s h; unfold execNtskeConnect; try dsimp only
  repeat' with_reducible first
    | exact h
    | exact Touch.refl _ _
    | apply touchR_next
    | apply touchR_ite
    | refine State.raiseLim_touch (sub_trans (by decide) hw) _ _ _ _ ?_
    | refine State.emit_touch (sub_trans (by decide) hw) _ _ ?_
    | refine State.bump_touch (sub_trans (by decide) hw) _ _ _ ?_
    | refine State.setConns_touch (sub_trans (by decide) hw) _ _ ?_

theorem State.handshake_touch (hw : 538968577 ||| w = w) : ∀ s c g cert, Touch w s₀ s → Touch w s₀ (State.handshake s c g cert) := by
  intro s c g cert h; unfold State.handshake; try dsimp only
  repeat' with_reducible first
    | exact h
    | exact Touch.refl _ _
    | refine State.ownJob_touch (sub_trans (by decide) hw) _ _ _ _ ?_

theorem State.keFail_touch (hw : 536870913 ||| w = w) : ∀ s a, Touch w s₀ s → Touch w s₀ (State.keFail s a) := by
  intro s a h; unfold State.keFail; try dsimp only
  repeat' with_reducible first
    | exact h
    | exact Touch.refl _ _
    | refine State.emit_touch (sub_trans (by decide) hw) _ _ ?_
    | refine State.bump_touch (sub_trans (by decide) hw) _ _ _ ?_

theorem execNtskeRequest_touch (hw : 539230721 ||| w = w) : ∀ a hello finished records exporter s, Touch w s₀ s → TouchR w s₀ (execNtskeRequest a hello finished records exporter s) := by
  intro a hello finished records exporter s h; unfold execNtskeRequest; try dsimp only
  repeat' with_reducible first
    | exact h
    | exact Touch.refl _ _
    | apply touchR_next
    | apply touchR_ite
    | refine State.setConns_touch (sub_trans (by decide) hw) _ _ ?_
    | refine State.emit_touch (sub_trans (by decide) hw) _ _ ?_
    | refine State.keFail_touch (sub_trans (by decide) hw) _ _ ?_
    | refine State.handshake_touch (sub_trans (by decide) hw) _ _ _ _ ?_
    | refine State.cookieCount_touch (sub_trans (by decide) hw) _ _ _ ?_
    | refine State.bump_touch (sub_trans (by decide) hw) _ _ _ ?_
    | (apply touch_ite_then; on_goal 1 => solve | (repeat' first | exact Touch.refl _ _ | refine State.setConns_touch (sub_trans (by decide) hw) _ _ ?_ | refine State.emit_touch (sub_trans (by decide) hw) _ _ ?_ | refine State.keFail_touch (sub_trans (by decide) hw) _ _ ?_ | refine State.handshake_touch (sub_trans (by decide) hw) _ _ _ _ ?_ | refine State.cookieCount_touch (sub_trans (by decide) hw) _ _ _ ?_ | refine State.bump_touch (sub_trans (by decide) hw) _ _ _ ?_))
    | apply touch_ite
    | apply touch_foldl
    | refine touch_snd (by assumption) ?_
    | (intro _; try dsimp only)
    | assumption
    | split

theorem execNtskeTimeout_touch (hw : 537133577 ||| w = w) : ∀ s, Touch w s₀ s → TouchR w s₀ (execNtskeTimeout s) := by
  intro s h; unfold execNtskeTimeout; try dsimp only
  repeat' with_reducible first
    | exact h
    | exact Touch.refl _ _
    | apply touchR_next
    | apply touchR_ite
    | refine State.advTo_touch (sub_trans (by decide) hw) _ _ ?_
    | refine State.emit_touch (sub_trans (by decide) hw) _ _ ?_
    | refine State.bump_touch (sub_trans (by decide) hw) _ _ _ ?_
    | refine State.setConns_touch (sub_trans (by decide) hw) _ _ ?_
    | apply touch_foldl
    | refine touch_snd (by assumption) ?_
    | (intro _; try dsimp only)
    | assumption
    | split

theorem execBroadcastSend_touch (hw : 537137673 ||| w = w) : ∀ j s, Touch w s₀ s → TouchR w s₀ (execBroadcastSend j s) := by
  intro j s h; unfold execBroadcastSend; try dsimp only
  repeat' with_reducible first
    | exact h
    | exact Touch.refl _ _
    | apply touchR_next
    | apply touchR_ite
    | refine State.advDt_touch (sub_trans (by decide) hw) _ _ ?_
    | refine State.advTo_touch (sub_trans (by decide) hw) _ _ ?_
    | refine State.bump_touch (sub_trans (by decide) hw) _ _ _ ?_
    | refine State.bePush_touch (sub_trans (by decide) hw) _ _ _ _ _ _ _ ?_
    | fail_if_no_progress refine touch_srv (sub_trans (by decide) hw) ?_
    | (apply touch_ite_then; on_goal 1 => solve | (repeat' first | exact Touch.refl _ _ | refine State.advDt_touch (sub_trans (by decide) hw) _ _ ?_ | refine State.advTo_touch (sub_trans (by decide) hw) _ _ ?_ | refine State.bump_touch (sub_trans (by decide) hw) _ _ _ ?_ | refine State.bePush_touch (sub_trans (by decide) hw) _ _ _ _ _ _ _ ?_ | fail_if_no_progress refine touch_srv (sub_trans (by decide) hw) ?_))
    | apply touch_ite
    | apply touch_foldl
    | refine touch_snd (by assumption) ?_
    | (intro _; try dsimp only)
    | assumption
    | split

end Sys2Proof.Machine
end

