-- ==== Sys2Proof/Laws/Keeps/Slots.lean ====
section
/-!
SUPPORT. What each operation of Slots keeps.
-/

namespace Sys2Proof.Machine

variable {w : Nat} {s₀ : State}

theorem State.slotStat_touch (hw : 1 ||| w = w) : ∀ s i b, Touch w s₀ s → Touch w s₀ (State.slotStat s i b) := by
  intro s i b h; unfold State.slotStat; try dsimp only
  repeat' with_reducible first
    | exact h
    | exact Touch.refl _ _
    | refine State.orBits_touch (sub_trans (by decide) hw) _ _ _ ?_

theorem State.slotSkip_touch (hw : 1 ||| w = w) : ∀ s i n, Touch w s₀ s → Touch w s₀ (State.slotSkip s i n) := by
  intro s i n h; unfold State.slotSkip; try dsimp only
  repeat' with_reducible first
    | exact h
    | exact Touch.refl _ _
    | refine State.wr_touch (sub_trans (by decide) hw) _ _ _ ?_

theorem State.slotBadArm_touch (hw : 536871425 ||| w = w) : ∀ s i, Touch w s₀ s → Touch w s₀ (State.slotBadArm s i) := by
  intro s i h; unfold State.slotBadArm; try dsimp only
  repeat' with_reducible first
    | exact h
    | exact Touch.refl _ _
    | refine State.raise_touch (sub_trans (by decide) hw) _ _ ?_
    | refine State.slotStat_touch (sub_trans (by decide) hw) _ _ _ ?_

theorem State.cfgRejected_touch (hw : 257 ||| w = w) : ∀ s, Touch w s₀ s → Touch w s₀ (State.cfgRejected s) := by
  intro s h; unfold State.cfgRejected; try dsimp only
  repeat' with_reducible first
    | exact h
    | exact Touch.refl _ _
    | refine State.orBits_touch (sub_trans (by decide) hw) _ _ _ ?_
    | fail_if_no_progress refine touch_cfg (sub_trans (by decide) hw) ?_

theorem State.slotJudge_touch (hw : 536871689 ||| w = w) : ∀ s d edge i, Touch w s₀ s → Touch w s₀ (State.slotJudge s d edge i) := by
  intro s d edge i h; unfold State.slotJudge; try dsimp only
  repeat' with_reducible first
    | exact h
    | exact Touch.refl _ _
    | refine State.updSlot_touch (sub_trans (by decide) hw) _ _ _ ?_
    | refine State.slotSkip_touch (sub_trans (by decide) hw) _ _ _ ?_
    | refine State.slotStat_touch (sub_trans (by decide) hw) _ _ _ ?_
    | refine State.raise_touch (sub_trans (by decide) hw) _ _ ?_
    | refine State.cfgRejected_touch (sub_trans (by decide) hw) _ ?_
    | (apply touch_ite_then; on_goal 1 => solve | (repeat' first | exact Touch.refl _ _ | refine State.updSlot_touch (sub_trans (by decide) hw) _ _ _ ?_ | refine State.slotSkip_touch (sub_trans (by decide) hw) _ _ _ ?_ | refine State.slotStat_touch (sub_trans (by decide) hw) _ _ _ ?_ | refine State.raise_touch (sub_trans (by decide) hw) _ _ ?_ | refine State.cfgRejected_touch (sub_trans (by decide) hw) _ ?_ | apply touch_foldl))
    | (apply touch_ite_else; on_goal 1 => solve | (repeat' first | exact Touch.refl _ _ | refine State.updSlot_touch (sub_trans (by decide) hw) _ _ _ ?_ | refine State.slotSkip_touch (sub_trans (by decide) hw) _ _ _ ?_ | refine State.slotStat_touch (sub_trans (by decide) hw) _ _ _ ?_ | refine State.raise_touch (sub_trans (by decide) hw) _ _ ?_ | refine State.cfgRejected_touch (sub_trans (by decide) hw) _ ?_ | apply touch_foldl))
    | apply touch_ite

theorem State.slotArm_touch (hw : 536871689 ||| w = w) : ∀ s i t period policy follow, Touch w s₀ s → Touch w s₀ (State.slotArm s i t period policy follow) := by
  intro s i t period policy follow h; unfold State.slotArm; try dsimp only
  repeat' with_reducible first
    | exact h
    | exact Touch.refl _ _
    | refine State.updSlot_touch (sub_trans (by decide) hw) _ _ _ ?_
    | refine State.slotJudge_touch (sub_trans (by decide) hw) _ _ _ _ ?_
    | (apply touch_ite_then; on_goal 1 => solve | (repeat' first | exact Touch.refl _ _ | refine State.updSlot_touch (sub_trans (by decide) hw) _ _ _ ?_ | refine State.slotJudge_touch (sub_trans (by decide) hw) _ _ _ _ ?_ | apply touch_foldl))
    | (apply touch_ite_else; on_goal 1 => solve | (repeat' first | exact Touch.refl _ _ | refine State.updSlot_touch (sub_trans (by decide) hw) _ _ _ ?_ | refine State.slotJudge_touch (sub_trans (by decide) hw) _ _ _ _ ?_ | apply touch_foldl))
    | apply touch_ite

theorem State.slotArmBound_touch (hw : 536871689 ||| w = w) : ∀ s i t period policy follow, Touch w s₀ s → Touch w s₀ (State.slotArmBound s i t period policy follow) := by
  intro s i t period policy follow h; unfold State.slotArmBound; try dsimp only
  repeat' with_reducible first
    | exact h
    | exact Touch.refl _ _
    | refine State.wr64_touch (sub_trans (by decide) hw) _ _ _ ?_
    | refine State.slotArm_touch (sub_trans (by decide) hw) _ _ _ _ _ _ ?_

theorem State.slotDisarm_touch (hw : 8 ||| w = w) : ∀ s i, Touch w s₀ s → Touch w s₀ (State.slotDisarm s i) := by
  intro s i h; unfold State.slotDisarm; try dsimp only
  repeat' with_reducible first
    | exact h
    | exact Touch.refl _ _
    | refine State.updSlot_touch (sub_trans (by decide) hw) _ _ _ ?_

theorem State.slotFire_touch (hw : 536871689 ||| w = w) : ∀ s i, Touch w s₀ s → Touch w s₀ (State.slotFire s i) := by
  intro s i h; unfold State.slotFire; try dsimp only
  repeat' with_reducible first
    | exact h
    | exact Touch.refl _ _
    | refine State.advTo_touch (sub_trans (by decide) hw) _ _ ?_
    | refine State.wr64_touch (sub_trans (by decide) hw) _ _ _ ?_
    | refine State.slotStat_touch (sub_trans (by decide) hw) _ _ _ ?_
    | refine State.raise_touch (sub_trans (by decide) hw) _ _ ?_
    | refine State.updSlot_touch (sub_trans (by decide) hw) _ _ _ ?_
    | refine State.slotSkip_touch (sub_trans (by decide) hw) _ _ _ ?_
    | refine State.slotJudge_touch (sub_trans (by decide) hw) _ _ _ _ ?_
    | (apply touch_ite_then; on_goal 1 => solve | (repeat' first | exact Touch.refl _ _ | refine State.advTo_touch (sub_trans (by decide) hw) _ _ ?_ | refine State.wr64_touch (sub_trans (by decide) hw) _ _ _ ?_ | refine State.slotStat_touch (sub_trans (by decide) hw) _ _ _ ?_ | refine State.raise_touch (sub_trans (by decide) hw) _ _ ?_ | refine State.updSlot_touch (sub_trans (by decide) hw) _ _ _ ?_ | refine State.slotSkip_touch (sub_trans (by decide) hw) _ _ _ ?_ | refine State.slotJudge_touch (sub_trans (by decide) hw) _ _ _ _ ?_ | apply touch_foldl))
    | (apply touch_ite_else; on_goal 1 => solve | (repeat' first | exact Touch.refl _ _ | refine State.advTo_touch (sub_trans (by decide) hw) _ _ ?_ | refine State.wr64_touch (sub_trans (by decide) hw) _ _ _ ?_ | refine State.slotStat_touch (sub_trans (by decide) hw) _ _ _ ?_ | refine State.raise_touch (sub_trans (by decide) hw) _ _ ?_ | refine State.updSlot_touch (sub_trans (by decide) hw) _ _ _ ?_ | refine State.slotSkip_touch (sub_trans (by decide) hw) _ _ _ ?_ | refine State.slotJudge_touch (sub_trans (by decide) hw) _ _ _ _ ?_ | apply touch_foldl))
    | apply touch_ite

theorem State.slotBoundaryG_touch (hw : 520 ||| w = w) : ∀ s x, Touch w s₀ s → Touch w s₀ (State.slotBoundaryG s x).2 := by
  intro s x h; unfold State.slotBoundaryG; try dsimp only
  repeat' with_reducible first
    | exact h
    | exact Touch.refl _ _
    | refine State.advTo_touch (sub_trans (by decide) hw) _ _ ?_
    | apply touch_foldl
    | refine touch_snd (by assumption) ?_
    | (intro _; try dsimp only)
    | assumption
    | split

theorem State.slotBoundary_touch (hw : 520 ||| w = w) : ∀ s x, Touch w s₀ s → Touch w s₀ (State.slotBoundary s x).2 := by
  intro s x h; unfold State.slotBoundary; try dsimp only
  repeat' with_reducible first
    | exact h
    | exact Touch.refl _ _
    | refine State.slotBoundaryG_touch (sub_trans (by decide) hw) _ _ ?_

theorem State.slotStep_touch (hw : 536871689 ||| w = w) : ∀ s amount load i, Touch w s₀ s → Touch w s₀ (State.slotStep s amount load i) := by
  intro s amount load i h; unfold State.slotStep; try dsimp only
  repeat' with_reducible first
    | exact h
    | exact Touch.refl _ _
    | refine State.updSlot_touch (sub_trans (by decide) hw) _ _ _ ?_
    | refine State.slotJudge_touch (sub_trans (by decide) hw) _ _ _ _ ?_
    | refine State.slotStat_touch (sub_trans (by decide) hw) _ _ _ ?_
    | (apply touch_ite_then; on_goal 1 => solve | (repeat' first | exact Touch.refl _ _ | refine State.updSlot_touch (sub_trans (by decide) hw) _ _ _ ?_ | refine State.slotJudge_touch (sub_trans (by decide) hw) _ _ _ _ ?_ | refine State.slotStat_touch (sub_trans (by decide) hw) _ _ _ ?_ | apply touch_foldl))
    | (apply touch_ite_else; on_goal 1 => solve | (repeat' first | exact Touch.refl _ _ | refine State.updSlot_touch (sub_trans (by decide) hw) _ _ _ ?_ | refine State.slotJudge_touch (sub_trans (by decide) hw) _ _ _ _ ?_ | refine State.slotStat_touch (sub_trans (by decide) hw) _ _ _ ?_ | apply touch_foldl))
    | apply touch_ite

end Sys2Proof.Machine
end

