-- ==== Sys2Proof/Laws/Keeps/Roughtime.lean ====
section
/-!
SUPPORT. What each operation of Roughtime keeps.
-/

namespace Sys2Proof.Machine

variable {w : Nat} {s₀ : State}

theorem State.closeArm_touch (hw : 536871689 ||| w = w) : ∀ s x1 t, Touch w s₀ s → Touch w s₀ (State.closeArm s x1 t) := by
  intro s x1 t h; unfold State.closeArm; try dsimp only
  repeat' with_reducible first
    | exact h
    | exact Touch.refl _ _
    | refine State.slotArmBound_touch (sub_trans (by decide) hw) _ _ _ _ _ _ ?_

theorem execCarafeClose_touch (hw : 537395977 ||| w = w) : ∀ x0 s, Touch w s₀ s → TouchR w s₀ (execCarafeClose x0 s) := by
  intro x0 s h; unfold execCarafeClose; try dsimp only
  repeat' with_reducible first
    | exact h
    | exact Touch.refl _ _
    | apply touchR_next
    | apply touchR_ite
    | refine State.slotBoundary_touch (sub_trans (by decide) hw) _ _ ?_
    | refine State.slotFire_touch (sub_trans (by decide) hw) _ _ ?_
    | refine State.updOpenCarafe_touch (sub_trans (by decide) hw) _ _ _ ?_
    | refine State.closeArm_touch (sub_trans (by decide) hw) _ _ _ ?_
    | refine State.rtOpenAt_touch (sub_trans (by decide) hw) _ _ _ ?_
    | refine State.closeDeferred_touch (sub_trans (by decide) hw) _ ?_
    | (apply touch_ite_then; on_goal 1 => solve | (repeat' first | exact Touch.refl _ _ | refine State.slotBoundary_touch (sub_trans (by decide) hw) _ _ ?_ | refine State.slotFire_touch (sub_trans (by decide) hw) _ _ ?_ | refine State.updOpenCarafe_touch (sub_trans (by decide) hw) _ _ _ ?_ | refine State.closeArm_touch (sub_trans (by decide) hw) _ _ _ ?_ | refine State.rtOpenAt_touch (sub_trans (by decide) hw) _ _ _ ?_ | refine State.closeDeferred_touch (sub_trans (by decide) hw) _ ?_ | apply touch_foldl))
    | (apply touch_ite_else; on_goal 1 => solve | (repeat' first | exact Touch.refl _ _ | refine State.slotBoundary_touch (sub_trans (by decide) hw) _ _ ?_ | refine State.slotFire_touch (sub_trans (by decide) hw) _ _ ?_ | refine State.updOpenCarafe_touch (sub_trans (by decide) hw) _ _ _ ?_ | refine State.closeArm_touch (sub_trans (by decide) hw) _ _ _ ?_ | refine State.rtOpenAt_touch (sub_trans (by decide) hw) _ _ _ ?_ | refine State.closeDeferred_touch (sub_trans (by decide) hw) _ ?_ | apply touch_foldl))
    | apply touch_ite

theorem execCarafeSeal_touch (hw : 539755017 ||| w = w) : ∀ x0 s, Touch w s₀ s → TouchR w s₀ (execCarafeSeal x0 s) := by
  intro x0 s h; unfold execCarafeSeal; try dsimp only
  repeat' with_reducible first
    | exact h
    | exact Touch.refl _ _
    | apply touchR_next
    | apply touchR_ite
    | refine State.sealDraining_touch (sub_trans (by decide) hw) _ _ _ ?_
    | refine State.advTo_touch (sub_trans (by decide) hw) _ _ ?_
    | apply touch_ite
    | apply touch_foldl
    | refine touch_snd (by assumption) ?_
    | (intro _; try dsimp only)
    | assumption
    | split

theorem execCarafeSealLimit_touch (hw : 539755017 ||| w = w) : ∀ x0 s, Touch w s₀ s → TouchR w s₀ (execCarafeSealLimit x0 s) := by
  intro x0 s h; unfold execCarafeSealLimit; try dsimp only
  repeat' with_reducible first
    | exact h
    | exact Touch.refl _ _
    | apply touchR_next
    | apply touchR_ite
    | refine State.sealDraining_touch (sub_trans (by decide) hw) _ _ _ ?_
    | refine State.advTo_touch (sub_trans (by decide) hw) _ _ ?_
    | apply touch_foldl
    | refine touch_snd (by assumption) ?_
    | (intro _; try dsimp only)
    | assumption
    | split

theorem execRootComplete_touch (hw : 524808 ||| w = w) : ∀ x0 s, Touch w s₀ s → TouchR w s₀ (execRootComplete x0 s) := by
  intro x0 s h; unfold execRootComplete; try dsimp only
  repeat' with_reducible first
    | exact h
    | exact Touch.refl _ _
    | apply touchR_next
    | apply touchR_ite
    | refine State.advTo_touch (sub_trans (by decide) hw) _ _ ?_
    | refine State.updCarafe_touch (sub_trans (by decide) hw) _ _ _ ?_
    | apply touch_foldl
    | refine touch_snd (by assumption) ?_
    | (intro _; try dsimp only)
    | assumption
    | split

theorem execSignDispatch_touch (hw : 539492865 ||| w = w) : ∀ s, Touch w s₀ s → TouchR w s₀ (execSignDispatch s) := by
  intro s h; unfold execSignDispatch; try dsimp only
  repeat' with_reducible first
    | exact h
    | exact Touch.refl _ _
    | apply touchR_next
    | apply touchR_ite
    | refine State.submit_touch (sub_trans (by decide) hw) _ _ _ ?_
    | refine State.updCarafe_touch (sub_trans (by decide) hw) _ _ _ ?_
    | (apply touch_ite_then; on_goal 1 => solve | (repeat' first | exact Touch.refl _ _ | refine State.submit_touch (sub_trans (by decide) hw) _ _ _ ?_ | refine State.updCarafe_touch (sub_trans (by decide) hw) _ _ _ ?_))
    | apply touch_ite
    | apply touch_foldl
    | refine touch_snd (by assumption) ?_
    | (intro _; try dsimp only)
    | assumption
    | split

theorem State.carafeFailed_touch (hw : 539755009 ||| w = w) : ∀ s c, Touch w s₀ s → Touch w s₀ (State.carafeFailed s c) := by
  intro s c h; unfold State.carafeFailed; try dsimp only
  repeat' with_reducible first
    | exact h
    | exact Touch.refl _ _
    | refine State.updCarafe_touch (sub_trans (by decide) hw) _ _ _ ?_
    | refine State.raise_touch (sub_trans (by decide) hw) _ _ ?_
    | refine State.bump_touch (sub_trans (by decide) hw) _ _ _ ?_
    | refine State.dropCarafe_touch (sub_trans (by decide) hw) _ _ ?_
    | (apply touch_ite_then; on_goal 1 => solve | (repeat' first | exact Touch.refl _ _ | refine State.updCarafe_touch (sub_trans (by decide) hw) _ _ _ ?_ | refine State.raise_touch (sub_trans (by decide) hw) _ _ ?_ | refine State.bump_touch (sub_trans (by decide) hw) _ _ _ ?_ | refine State.dropCarafe_touch (sub_trans (by decide) hw) _ _ ?_ | apply touch_foldl))
    | (apply touch_ite_else; on_goal 1 => solve | (repeat' first | exact Touch.refl _ _ | refine State.updCarafe_touch (sub_trans (by decide) hw) _ _ _ ?_ | refine State.raise_touch (sub_trans (by decide) hw) _ _ ?_ | refine State.bump_touch (sub_trans (by decide) hw) _ _ _ ?_ | refine State.dropCarafe_touch (sub_trans (by decide) hw) _ _ ?_ | apply touch_foldl))
    | apply touch_ite

theorem State.carafeReconcile_touch (hw : 539755009 ||| w = w) : ∀ s, Touch w s₀ s → Touch w s₀ (State.carafeReconcile s) := by
  intro s h; unfold State.carafeReconcile; try dsimp only
  repeat' with_reducible first
    | exact h
    | exact Touch.refl _ _
    | refine State.carafeFailed_touch (sub_trans (by decide) hw) _ _ ?_
    | (apply touch_ite_then; on_goal 1 => solve | (repeat' first | exact Touch.refl _ _ | refine State.carafeFailed_touch (sub_trans (by decide) hw) _ _ ?_ | apply touch_foldl))
    | (apply touch_ite_else; on_goal 1 => solve | (repeat' first | exact Touch.refl _ _ | refine State.carafeFailed_touch (sub_trans (by decide) hw) _ _ ?_))
    | apply touch_ite
    | apply touch_foldl
    | (intro _ _ _ k; try dsimp only)
    | (intro _ _; try dsimp only)
    | refine touch_snd (by assumption) ?_
    | (intro _; try dsimp only)
    | assumption
    | split

theorem State.carafeDone_touch (hw : 539755009 ||| w = w) : ∀ s id status out, Touch w s₀ s → Touch w s₀ (State.carafeDone s id status out) := by
  intro s id status out h; unfold State.carafeDone; try dsimp only
  repeat' with_reducible first
    | exact h
    | exact Touch.refl _ _
    | refine State.deleWipe_touch (sub_trans (by decide) hw) _ ?_
    | refine State.bump_touch (sub_trans (by decide) hw) _ _ _ ?_
    | refine State.updCarafe_touch (sub_trans (by decide) hw) _ _ _ ?_
    | refine State.carafeFailed_touch (sub_trans (by decide) hw) _ _ ?_
    | (apply touch_ite_then; on_goal 1 => solve | (repeat' first | exact Touch.refl _ _ | refine State.deleWipe_touch (sub_trans (by decide) hw) _ ?_ | refine State.bump_touch (sub_trans (by decide) hw) _ _ _ ?_ | refine State.updCarafe_touch (sub_trans (by decide) hw) _ _ _ ?_ | refine State.carafeFailed_touch (sub_trans (by decide) hw) _ _ ?_ | apply touch_foldl))
    | (apply touch_ite_else; on_goal 1 => solve | (repeat' first | exact Touch.refl _ _ | refine State.deleWipe_touch (sub_trans (by decide) hw) _ ?_ | refine State.bump_touch (sub_trans (by decide) hw) _ _ _ ?_ | refine State.updCarafe_touch (sub_trans (by decide) hw) _ _ _ ?_ | refine State.carafeFailed_touch (sub_trans (by decide) hw) _ _ ?_ | apply touch_foldl))
    | apply touch_ite
    | apply touch_foldl
    | refine touch_snd (by assumption) ?_
    | (intro _; try dsimp only)
    | assumption
    | split

theorem execCarafeSignStale_touch (hw : 808190473 ||| w = w) : ∀ s, Touch w s₀ s → TouchR w s₀ (execCarafeSignStale s) := by
  intro s h; unfold execCarafeSignStale; try dsimp only
  repeat' with_reducible first
    | exact h
    | exact Touch.refl _ _
    | apply touchR_next
    | apply touchR_ite
    | refine State.advTo_touch (sub_trans (by decide) hw) _ _ ?_
    | refine State.raise_touch (sub_trans (by decide) hw) _ _ ?_
    | refine State.bump_touch (sub_trans (by decide) hw) _ _ _ ?_
    | refine State.dropCarafe_touch (sub_trans (by decide) hw) _ _ ?_
    | refine State.abortCarafe_touch (sub_trans (by decide) hw) _ _ ?_
    | apply touch_foldl
    | refine touch_snd (by assumption) ?_
    | (intro _; try dsimp only)
    | assumption
    | split

theorem execCarafeSigned_touch (hw : 524288 ||| w = w) : ∀ x0 s, Touch w s₀ s → TouchR w s₀ (execCarafeSigned x0 s) := by
  intro x0 s h; unfold execCarafeSigned; try dsimp only
  repeat' with_reducible first
    | exact h
    | exact Touch.refl _ _
    | apply touchR_next
    | apply touchR_ite
    | refine State.updCarafe_touch (sub_trans (by decide) hw) _ _ _ ?_
    | apply touch_ite
    | apply touch_foldl
    | refine touch_snd (by assumption) ?_
    | (intro _; try dsimp only)
    | assumption
    | split

theorem execRtReplyEmit_touch (hw : 539759113 ||| w = w) : ∀ x0 s, Touch w s₀ s → TouchR w s₀ (execRtReplyEmit x0 s) := by
  intro x0 s h; unfold execRtReplyEmit; try dsimp only
  repeat' with_reducible first
    | exact h
    | exact Touch.refl _ _
    | apply touchR_next
    | apply touchR_ite
    | refine State.dropCarafe_touch (sub_trans (by decide) hw) _ _ ?_
    | refine State.advTo_touch (sub_trans (by decide) hw) _ _ ?_
    | refine State.bump_touch (sub_trans (by decide) hw) _ _ _ ?_
    | refine State.bePush_touch (sub_trans (by decide) hw) _ _ _ _ _ _ _ ?_
    | refine State.updOpenCarafe_touch (sub_trans (by decide) hw) _ _ _ ?_
    | refine State.updCarafe_touch (sub_trans (by decide) hw) _ _ _ ?_
    | (apply touch_ite_then; on_goal 1 => solve | (repeat' first | exact Touch.refl _ _ | refine State.dropCarafe_touch (sub_trans (by decide) hw) _ _ ?_ | refine State.advTo_touch (sub_trans (by decide) hw) _ _ ?_ | refine State.bump_touch (sub_trans (by decide) hw) _ _ _ ?_ | refine State.bePush_touch (sub_trans (by decide) hw) _ _ _ _ _ _ _ ?_ | refine State.updOpenCarafe_touch (sub_trans (by decide) hw) _ _ _ ?_ | refine State.updCarafe_touch (sub_trans (by decide) hw) _ _ _ ?_ | apply touch_foldl))
    | (apply touch_ite_else; on_goal 1 => solve | (repeat' first | exact Touch.refl _ _ | refine State.dropCarafe_touch (sub_trans (by decide) hw) _ _ ?_ | refine State.advTo_touch (sub_trans (by decide) hw) _ _ ?_ | refine State.bump_touch (sub_trans (by decide) hw) _ _ _ ?_ | refine State.bePush_touch (sub_trans (by decide) hw) _ _ _ _ _ _ _ ?_ | refine State.updOpenCarafe_touch (sub_trans (by decide) hw) _ _ _ ?_ | refine State.updCarafe_touch (sub_trans (by decide) hw) _ _ _ ?_ | apply touch_foldl))
    | apply touch_ite
    | apply touch_foldl
    | refine touch_snd (by assumption) ?_
    | (intro _; try dsimp only)
    | assumption
    | split

theorem State.onlineKey_touch (hw : 673186305 ||| w = w) : ∀ s b, Touch w s₀ s → Touch w s₀ (State.onlineKey s b).2 := by
  intro s b h; unfold State.onlineKey; try dsimp only
  repeat' with_reducible first
    | exact h
    | exact Touch.refl _ _
    | refine State.draw_touch (sub_trans (by decide) hw) _ ?_
    | refine State.slotSet_touch (sub_trans (by decide) hw) _ _ _ ?_

theorem State.deleSignJob_touch (hw : 538968577 ||| w = w) : ∀ s, Touch w s₀ s → Touch w s₀ (State.deleSignJob s) := by
  intro s h; unfold State.deleSignJob; try dsimp only
  repeat' with_reducible first
    | exact h
    | exact Touch.refl _ _
    | refine State.ownJob_touch (sub_trans (by decide) hw) _ _ _ _ ?_
    | (apply touch_ite_then; on_goal 1 => solve | (repeat' first | exact Touch.refl _ _ | refine State.ownJob_touch (sub_trans (by decide) hw) _ _ _ _ ?_))

theorem State.deleMake_touch (hw : 673186305 ||| w = w) : ∀ s b mint, Touch w s₀ s → Touch w s₀ (State.deleMake s b mint).2 := by
  intro s b mint h; unfold State.deleMake; try dsimp only
  repeat' with_reducible first
    | exact h
    | exact Touch.refl _ _
    | refine State.onlineKey_touch (sub_trans (by decide) hw) _ _ ?_
    | refine State.ownJob_touch (sub_trans (by decide) hw) _ _ _ _ ?_
    | refine State.deleSignJob_touch (sub_trans (by decide) hw) _ ?_
    | apply touch_ite
    | apply touch_foldl
    | refine touch_snd (by assumption) ?_
    | (intro _; try dsimp only)
    | assumption
    | split

theorem execDeleFirst_touch (hw : 673710593 ||| w = w) : ∀ s, Touch w s₀ s → TouchR w s₀ (execDeleFirst s) := by
  intro s h; unfold execDeleFirst; try dsimp only
  repeat' with_reducible first
    | exact h
    | exact Touch.refl _ _
    | apply touchR_next
    | apply touchR_ite
    | refine State.deleMake_touch (sub_trans (by decide) hw) _ _ _ ?_
    | fail_if_no_progress refine touch_rt (sub_trans (by decide) hw) ?_

theorem State.deleNext_touch (hw : 673710593 ||| w = w) : ∀ s d, Touch w s₀ s → Touch w s₀ (State.deleNext s d) := by
  intro s d h; unfold State.deleNext; try dsimp only
  repeat' with_reducible first
    | exact h
    | exact Touch.refl _ _
    | refine State.deleMake_touch (sub_trans (by decide) hw) _ _ _ ?_
    | fail_if_no_progress refine touch_rt (sub_trans (by decide) hw) ?_

theorem execDelePrepare_touch (hw : 673710601 ||| w = w) : ∀ s, Touch w s₀ s → TouchR w s₀ (execDelePrepare s) := by
  intro s h; unfold execDelePrepare; try dsimp only
  repeat' with_reducible first
    | exact h
    | exact Touch.refl _ _
    | apply touchR_next
    | apply touchR_ite
    | refine State.deleNext_touch (sub_trans (by decide) hw) _ _ ?_
    | refine State.advDt_touch (sub_trans (by decide) hw) _ _ ?_
    | apply touch_ite
    | apply touch_foldl
    | refine touch_snd (by assumption) ?_
    | (intro _; try dsimp only)
    | assumption
    | split

theorem State.deleSwitch_touch (hw : 539755009 ||| w = w) : ∀ s, Touch w s₀ s → Touch w s₀ (State.deleSwitch s) := by
  intro s h; unfold State.deleSwitch; try dsimp only
  repeat' with_reducible first
    | exact h
    | exact Touch.refl _ _
    | refine State.deleTake_touch (sub_trans (by decide) hw) _ _ ?_
    | refine State.raise_touch (sub_trans (by decide) hw) _ _ ?_
    | fail_if_no_progress refine touch_rt (sub_trans (by decide) hw) ?_
    | apply touch_foldl
    | refine touch_snd (by assumption) ?_
    | (intro _; try dsimp only)
    | assumption
    | split

theorem execDeleSwitch_touch (hw : 539755017 ||| w = w) : ∀ s, Touch w s₀ s → TouchR w s₀ (execDeleSwitch s) := by
  intro s h; unfold execDeleSwitch; try dsimp only
  repeat' with_reducible first
    | exact h
    | exact Touch.refl _ _
    | apply touchR_next
    | apply touchR_ite
    | refine State.deleSwitch_touch (sub_trans (by decide) hw) _ ?_
    | refine State.advDt_touch (sub_trans (by decide) hw) _ _ ?_
    | apply touch_ite
    | apply touch_foldl
    | refine touch_snd (by assumption) ?_
    | (intro _; try dsimp only)
    | assumption
    | split

theorem execDeleRetry_touch (hw : 673710601 ||| w = w) : ∀ s, Touch w s₀ s → TouchR w s₀ (execDeleRetry s) := by
  intro s h; unfold execDeleRetry; try dsimp only
  repeat' with_reducible first
    | exact h
    | exact Touch.refl _ _
    | apply touchR_next
    | apply touchR_ite
    | refine State.deleNext_touch (sub_trans (by decide) hw) _ _ ?_
    | refine State.advDt_touch (sub_trans (by decide) hw) _ _ ?_
    | fail_if_no_progress refine touch_rt (sub_trans (by decide) hw) ?_
    | apply touch_ite
    | apply touch_foldl
    | refine touch_snd (by assumption) ?_
    | (intro _; try dsimp only)
    | assumption
    | split

theorem execDeleExpire_touch (hw : 537395721 ||| w = w) : ∀ s, Touch w s₀ s → TouchR w s₀ (execDeleExpire s) := by
  intro s h; unfold execDeleExpire; try dsimp only
  repeat' with_reducible first
    | exact h
    | exact Touch.refl _ _
    | apply touchR_next
    | apply touchR_ite
    | refine State.advDt_touch (sub_trans (by decide) hw) _ _ ?_
    | refine State.raise_touch (sub_trans (by decide) hw) _ _ ?_
    | fail_if_no_progress refine touch_rt (sub_trans (by decide) hw) ?_
    | apply touch_ite
    | apply touch_foldl
    | refine touch_snd (by assumption) ?_
    | (intro _; try dsimp only)
    | assumption
    | split

theorem State.deleReissue_touch (hw : 539492865 ||| w = w) : ∀ s, Touch w s₀ s → Touch w s₀ (State.deleReissue s) := by
  intro s h; unfold State.deleReissue; try dsimp only
  repeat' with_reducible first
    | exact h
    | exact Touch.refl _ _
    | refine State.deleSignJob_touch (sub_trans (by decide) hw) _ ?_
    | fail_if_no_progress refine touch_rt (sub_trans (by decide) hw) ?_
    | apply touch_foldl
    | refine touch_snd (by assumption) ?_
    | (intro _; try dsimp only)
    | assumption
    | split

end Sys2Proof.Machine
end

