-- ==== Sys2Proof/Laws/Keeps/TimOps.lean ====
section
/-!
SUPPORT. What each operation of TimOps keeps.
-/

namespace Sys2Proof.Machine

variable {w : Nat} {s₀ : State}

theorem State.timWrite_touch (hw : 570425857 ||| w = w) : ∀ s x1 type flags start tail, Touch w s₀ s → Touch w s₀ (State.timWrite s x1 type flags start tail) := by
  intro s x1 type flags start tail h; unfold State.timWrite; try dsimp only
  repeat' with_reducible first
    | exact h
    | exact Touch.refl _ _
    | refine State.raise_touch (sub_trans (by decide) hw) _ _ ?_
    | refine State.bump_touch (sub_trans (by decide) hw) _ _ _ ?_
    | refine State.updTimCh_touch (sub_trans (by decide) hw) _ _ _ ?_
    | (apply touch_ite_then; on_goal 1 => solve | (repeat' first | exact Touch.refl _ _ | refine State.raise_touch (sub_trans (by decide) hw) _ _ ?_ | refine State.bump_touch (sub_trans (by decide) hw) _ _ _ ?_ | refine State.updTimCh_touch (sub_trans (by decide) hw) _ _ _ ?_ | apply touch_foldl))
    | (apply touch_ite_else; on_goal 1 => solve | (repeat' first | exact Touch.refl _ _ | refine State.raise_touch (sub_trans (by decide) hw) _ _ ?_ | refine State.bump_touch (sub_trans (by decide) hw) _ _ _ ?_ | refine State.updTimCh_touch (sub_trans (by decide) hw) _ _ _ ?_ | apply touch_foldl))
    | apply touch_ite

theorem State.timNext_touch (hw : 33554432 ||| w = w) : ∀ s x1 t, Touch w s₀ s → Touch w s₀ (State.timNext s x1 t) := by
  intro s x1 t h; unfold State.timNext; try dsimp only
  repeat' with_reducible first
    | exact h
    | exact Touch.refl _ _
    | refine State.updTimCh_touch (sub_trans (by decide) hw) _ _ _ ?_

theorem State.timComplete_touch (hw : 570425857 ||| w = w) : ∀ s x1 t, Touch w s₀ s → Touch w s₀ (State.timComplete s x1 t) := by
  intro s x1 t h; unfold State.timComplete; try dsimp only
  repeat' with_reducible first
    | exact h
    | exact Touch.refl _ _
    | refine State.raiseLim_touch (sub_trans (by decide) hw) _ _ _ _ ?_
    | refine State.timNext_touch (sub_trans (by decide) hw) _ _ _ ?_
    | refine State.timWrite_touch (sub_trans (by decide) hw) _ _ _ _ _ _ ?_
    | (apply touch_ite_then; on_goal 1 => solve | (repeat' first | exact Touch.refl _ _ | refine State.raiseLim_touch (sub_trans (by decide) hw) _ _ _ _ ?_ | refine State.timNext_touch (sub_trans (by decide) hw) _ _ _ ?_ | refine State.timWrite_touch (sub_trans (by decide) hw) _ _ _ _ _ _ ?_))

theorem State.timBegin_touch (hw : 570425857 ||| w = w) : ∀ s x1 src a, Touch w s₀ s → Touch w s₀ (State.timBegin s x1 src a) := by
  intro s x1 src a h; unfold State.timBegin; try dsimp only
  repeat' with_reducible first
    | exact h
    | exact Touch.refl _ _
    | refine State.updTimCh_touch (sub_trans (by decide) hw) _ _ _ ?_
    | refine State.timComplete_touch (sub_trans (by decide) hw) _ _ _ ?_
    | (apply touch_ite_then; on_goal 1 => solve | (repeat' first | exact Touch.refl _ _ | refine State.updTimCh_touch (sub_trans (by decide) hw) _ _ _ ?_ | refine State.timComplete_touch (sub_trans (by decide) hw) _ _ _ ?_))

theorem State.timStartArmed_touch (hw : 570425857 ||| w = w) : ∀ s x1 src a, Touch w s₀ s → Touch w s₀ (State.timStartArmed s x1 src a) := by
  intro s x1 src a h; unfold State.timStartArmed; try dsimp only
  repeat' with_reducible first
    | exact h
    | exact Touch.refl _ _
    | refine State.timBegin_touch (sub_trans (by decide) hw) _ _ _ _ ?_
    | refine State.timWrite_touch (sub_trans (by decide) hw) _ _ _ _ _ _ ?_
    | refine State.updTimCh_touch (sub_trans (by decide) hw) _ _ _ ?_
    | refine State.timNext_touch (sub_trans (by decide) hw) _ _ _ ?_
    | (apply touch_ite_then; on_goal 1 => solve | (repeat' first | exact Touch.refl _ _ | refine State.timBegin_touch (sub_trans (by decide) hw) _ _ _ _ ?_ | refine State.timWrite_touch (sub_trans (by decide) hw) _ _ _ _ _ _ ?_ | refine State.updTimCh_touch (sub_trans (by decide) hw) _ _ _ ?_ | refine State.timNext_touch (sub_trans (by decide) hw) _ _ _ ?_ | apply touch_foldl))
    | (apply touch_ite_else; on_goal 1 => solve | (repeat' first | exact Touch.refl _ _ | refine State.timBegin_touch (sub_trans (by decide) hw) _ _ _ _ ?_ | refine State.timWrite_touch (sub_trans (by decide) hw) _ _ _ _ _ _ ?_ | refine State.updTimCh_touch (sub_trans (by decide) hw) _ _ _ ?_ | refine State.timNext_touch (sub_trans (by decide) hw) _ _ _ ?_ | apply touch_foldl))
    | apply touch_ite

theorem State.timOpen_touch (hw : 33554432 ||| w = w) : ∀ s x1 g, Touch w s₀ s → Touch w s₀ (State.timOpen s x1 g) := by
  intro s x1 g h; unfold State.timOpen; try dsimp only
  repeat' with_reducible first
    | exact h
    | exact Touch.refl _ _
    | refine State.updTimCh_touch (sub_trans (by decide) hw) _ _ _ ?_

theorem State.timGateEnd_touch (hw : 570425857 ||| w = w) : ∀ s x1, Touch w s₀ s → Touch w s₀ (State.timGateEnd s x1) := by
  intro s x1 h; unfold State.timGateEnd; try dsimp only
  repeat' with_reducible first
    | exact h
    | exact Touch.refl _ _
    | refine State.updTimCh_touch (sub_trans (by decide) hw) _ _ _ ?_
    | refine State.timWrite_touch (sub_trans (by decide) hw) _ _ _ _ _ _ ?_
    | refine State.timOpen_touch (sub_trans (by decide) hw) _ _ _ ?_
    | (apply touch_ite_then; on_goal 1 => solve | (repeat' first | exact Touch.refl _ _ | refine State.updTimCh_touch (sub_trans (by decide) hw) _ _ _ ?_ | refine State.timWrite_touch (sub_trans (by decide) hw) _ _ _ _ _ _ ?_ | refine State.timOpen_touch (sub_trans (by decide) hw) _ _ _ ?_ | apply touch_foldl))
    | (apply touch_ite_else; on_goal 1 => solve | (repeat' first | exact Touch.refl _ _ | refine State.updTimCh_touch (sub_trans (by decide) hw) _ _ _ ?_ | refine State.timWrite_touch (sub_trans (by decide) hw) _ _ _ _ _ _ ?_ | refine State.timOpen_touch (sub_trans (by decide) hw) _ _ _ ?_ | apply touch_foldl))
    | apply touch_ite

theorem State.timArm_touch (hw : 570425865 ||| w = w) : ∀ s x1 e incl once, Touch w s₀ s → Touch w s₀ (State.timArm s x1 e incl once) := by
  intro s x1 e incl once h; unfold State.timArm; try dsimp only
  repeat' with_reducible first
    | exact h
    | exact Touch.refl _ _
    | refine State.raise_touch (sub_trans (by decide) hw) _ _ ?_
    | refine State.updTimCh_touch (sub_trans (by decide) hw) _ _ _ ?_
    | refine State.slotDisarm_touch (sub_trans (by decide) hw) _ _ ?_
    | refine State.timOpen_touch (sub_trans (by decide) hw) _ _ _ ?_
    | (apply touch_ite_then; on_goal 1 => solve | (repeat' first | exact Touch.refl _ _ | refine State.raise_touch (sub_trans (by decide) hw) _ _ ?_ | refine State.updTimCh_touch (sub_trans (by decide) hw) _ _ _ ?_ | refine State.slotDisarm_touch (sub_trans (by decide) hw) _ _ ?_ | refine State.timOpen_touch (sub_trans (by decide) hw) _ _ _ ?_ | apply touch_foldl))
    | (apply touch_ite_else; on_goal 1 => solve | (repeat' first | exact Touch.refl _ _ | refine State.raise_touch (sub_trans (by decide) hw) _ _ ?_ | refine State.updTimCh_touch (sub_trans (by decide) hw) _ _ _ ?_ | refine State.slotDisarm_touch (sub_trans (by decide) hw) _ _ ?_ | refine State.timOpen_touch (sub_trans (by decide) hw) _ _ _ ?_ | apply touch_foldl))
    | apply touch_ite

theorem State.timDisarm_touch (hw : 33554440 ||| w = w) : ∀ s x1, Touch w s₀ s → Touch w s₀ (State.timDisarm s x1) := by
  intro s x1 h; unfold State.timDisarm; try dsimp only
  repeat' with_reducible first
    | exact h
    | exact Touch.refl _ _
    | refine State.updTimCh_touch (sub_trans (by decide) hw) _ _ _ ?_
    | refine State.slotDisarm_touch (sub_trans (by decide) hw) _ _ ?_

theorem State.timMeasuring_touch (hw : 570425857 ||| w = w) : ∀ s x1 src a, Touch w s₀ s → Touch w s₀ (State.timMeasuring s x1 src a) := by
  intro s x1 src a h; unfold State.timMeasuring; try dsimp only
  repeat' with_reducible first
    | exact h
    | exact Touch.refl _ _
    | refine State.bump_touch (sub_trans (by decide) hw) _ _ _ ?_
    | refine State.updTimCh_touch (sub_trans (by decide) hw) _ _ _ ?_
    | refine State.timComplete_touch (sub_trans (by decide) hw) _ _ _ ?_
    | refine State.timWrite_touch (sub_trans (by decide) hw) _ _ _ _ _ _ ?_
    | (apply touch_ite_then; on_goal 1 => solve | (repeat' first | exact Touch.refl _ _ | refine State.bump_touch (sub_trans (by decide) hw) _ _ _ ?_ | refine State.updTimCh_touch (sub_trans (by decide) hw) _ _ _ ?_ | refine State.timComplete_touch (sub_trans (by decide) hw) _ _ _ ?_ | refine State.timWrite_touch (sub_trans (by decide) hw) _ _ _ _ _ _ ?_ | apply touch_foldl))
    | (apply touch_ite_else; on_goal 1 => solve | (repeat' first | exact Touch.refl _ _ | refine State.bump_touch (sub_trans (by decide) hw) _ _ _ ?_ | refine State.updTimCh_touch (sub_trans (by decide) hw) _ _ _ ?_ | refine State.timComplete_touch (sub_trans (by decide) hw) _ _ _ ?_ | refine State.timWrite_touch (sub_trans (by decide) hw) _ _ _ _ _ _ ?_ | apply touch_foldl))
    | apply touch_ite

theorem State.timClose_touch (hw : 570425857 ||| w = w) : ∀ s x1, Touch w s₀ s → Touch w s₀ (State.timClose s x1) := by
  intro s x1 h; unfold State.timClose; try dsimp only
  repeat' with_reducible first
    | exact h
    | exact Touch.refl _ _
    | refine State.timComplete_touch (sub_trans (by decide) hw) _ _ _ ?_
    | refine State.timGateEnd_touch (sub_trans (by decide) hw) _ _ ?_
    | (apply touch_ite_then; on_goal 1 => solve | (repeat' first | exact Touch.refl _ _ | refine State.timComplete_touch (sub_trans (by decide) hw) _ _ _ ?_ | refine State.timGateEnd_touch (sub_trans (by decide) hw) _ _ ?_ | apply touch_foldl))
    | (apply touch_ite_else; on_goal 1 => solve | (repeat' first | exact Touch.refl _ _ | refine State.timComplete_touch (sub_trans (by decide) hw) _ _ _ ?_ | refine State.timGateEnd_touch (sub_trans (by decide) hw) _ _ ?_ | apply touch_foldl))
    | apply touch_ite

theorem State.timEdge_touch (hw : 570425857 ||| w = w) : ∀ s x1 src a, Touch w s₀ s → Touch w s₀ (State.timEdge s x1 src a) := by
  intro s x1 src a h; unfold State.timEdge; try dsimp only
  repeat' with_reducible first
    | exact h
    | exact Touch.refl _ _
    | refine State.timClose_touch (sub_trans (by decide) hw) _ _ ?_
    | refine State.timMeasuring_touch (sub_trans (by decide) hw) _ _ _ _ ?_
    | refine State.timStartArmed_touch (sub_trans (by decide) hw) _ _ _ _ ?_
    | (apply touch_ite_then; on_goal 1 => solve | (repeat' first | exact Touch.refl _ _ | refine State.timClose_touch (sub_trans (by decide) hw) _ _ ?_ | refine State.timMeasuring_touch (sub_trans (by decide) hw) _ _ _ _ ?_ | refine State.timStartArmed_touch (sub_trans (by decide) hw) _ _ _ _ ?_ | apply touch_foldl))
    | (apply touch_ite_else; on_goal 1 => solve | (repeat' first | exact Touch.refl _ _ | refine State.timClose_touch (sub_trans (by decide) hw) _ _ ?_ | refine State.timMeasuring_touch (sub_trans (by decide) hw) _ _ _ _ ?_ | refine State.timStartArmed_touch (sub_trans (by decide) hw) _ _ _ _ ?_ | apply touch_foldl))
    | apply touch_ite

theorem State.timSource_touch (hw : 570425857 ||| w = w) : ∀ s src a, Touch w s₀ s → Touch w s₀ (State.timSource s src a) := by
  intro s src a h; unfold State.timSource; try dsimp only
  repeat' with_reducible first
    | exact h
    | exact Touch.refl _ _
    | refine State.timEdge_touch (sub_trans (by decide) hw) _ _ _ _ ?_
    | apply touch_foldl
    | (intro _ _ _ k; try dsimp only)
    | (intro _ _; try dsimp only)

theorem State.timUnlocked_touch (hw : 33554432 ||| w = w) : ∀ s, Touch w s₀ s → Touch w s₀ (State.timUnlocked s) := by
  intro s h; unfold State.timUnlocked; try dsimp only
  repeat' with_reducible first
    | exact h
    | exact Touch.refl _ _
    | refine State.updTimCh_touch (sub_trans (by decide) hw) _ _ _ ?_
    | (apply touch_ite_then; on_goal 1 => solve | (repeat' first | exact Touch.refl _ _ | refine State.updTimCh_touch (sub_trans (by decide) hw) _ _ _ ?_))
    | apply touch_ite
    | apply touch_foldl
    | (intro _ _ _ k; try dsimp only)
    | (intro _ _; try dsimp only)

theorem State.timLocked_touch (hw : 33554432 ||| w = w) : ∀ s, Touch w s₀ s → Touch w s₀ (State.timLocked s) := by
  intro s h; unfold State.timLocked; try dsimp only
  repeat' with_reducible first
    | exact h
    | exact Touch.refl _ _
    | refine State.updTimCh_touch (sub_trans (by decide) hw) _ _ _ ?_
    | (apply touch_ite_then; on_goal 1 => solve | (repeat' first | exact Touch.refl _ _ | refine State.updTimCh_touch (sub_trans (by decide) hw) _ _ _ ?_))
    | apply touch_ite
    | apply touch_foldl
    | (intro _ _ _ k; try dsimp only)
    | (intro _ _; try dsimp only)

theorem State.timStep_touch (hw : 33554432 ||| w = w) : ∀ s d, Touch w s₀ s → Touch w s₀ (State.timStep s d) := by
  intro s d h; unfold State.timStep; try dsimp only
  repeat' with_reducible first
    | exact h
    | exact Touch.refl _ _
    | refine State.updTimIn_touch (sub_trans (by decide) hw) _ _ _ ?_
    | refine State.timOpen_touch (sub_trans (by decide) hw) _ _ _ ?_
    | refine State.updTimCh_touch (sub_trans (by decide) hw) _ _ _ ?_
    | (apply touch_ite_then; on_goal 1 => solve | (repeat' first | exact Touch.refl _ _ | refine State.updTimIn_touch (sub_trans (by decide) hw) _ _ _ ?_ | refine State.timOpen_touch (sub_trans (by decide) hw) _ _ _ ?_ | refine State.updTimCh_touch (sub_trans (by decide) hw) _ _ _ ?_ | apply touch_foldl))
    | (apply touch_ite_else; on_goal 1 => solve | (repeat' first | exact Touch.refl _ _ | refine State.updTimIn_touch (sub_trans (by decide) hw) _ _ _ ?_ | refine State.timOpen_touch (sub_trans (by decide) hw) _ _ _ ?_ | refine State.updTimCh_touch (sub_trans (by decide) hw) _ _ _ ?_ | apply touch_foldl))
    | apply touch_ite
    | apply touch_foldl
    | (intro _ _ _ k; try dsimp only)
    | (intro _ _; try dsimp only)
    | refine touch_snd (by assumption) ?_
    | (intro _; try dsimp only)
    | assumption
    | split

theorem State.timRecalArm_touch (hw : 33554432 ||| w = w) : ∀ s, Touch w s₀ s → Touch w s₀ (State.timRecalArm s) := by
  intro s h; unfold State.timRecalArm; try dsimp only
  repeat' with_reducible first
    | exact h
    | exact Touch.refl _ _
    | fail_if_no_progress refine touch_tim (sub_trans (by decide) hw) ?_

theorem State.timCommit_touch (hw : 33554440 ||| w = w) : ∀ s old, Touch w s₀ s → Touch w s₀ (State.timCommit s old) := by
  intro s old h; unfold State.timCommit; try dsimp only
  repeat' with_reducible first
    | exact h
    | exact Touch.refl _ _
    | refine State.timRecalArm_touch (sub_trans (by decide) hw) _ ?_
    | refine State.timDisarm_touch (sub_trans (by decide) hw) _ _ ?_
    | refine State.updTimIn_touch (sub_trans (by decide) hw) _ _ _ ?_
    | (apply touch_ite_then; on_goal 1 => solve | (repeat' first | exact Touch.refl _ _ | refine State.timRecalArm_touch (sub_trans (by decide) hw) _ ?_ | refine State.timDisarm_touch (sub_trans (by decide) hw) _ _ ?_ | refine State.updTimIn_touch (sub_trans (by decide) hw) _ _ _ ?_))
    | apply touch_ite
    | apply touch_foldl
    | (intro _ _ _ k; try dsimp only)
    | (intro _ _; try dsimp only)

theorem State.timCal_touch (hw : 33554440 ||| w = w) : ∀ s, Touch w s₀ s → Touch w s₀ (State.timCal s) := by
  intro s h; unfold State.timCal; try dsimp only
  repeat' with_reducible first
    | exact h
    | exact Touch.refl _ _
    | refine State.timDisarm_touch (sub_trans (by decide) hw) _ _ ?_
    | fail_if_no_progress refine touch_tim (sub_trans (by decide) hw) ?_
    | apply touch_foldl
    | (intro _ _ _ k; try dsimp only)
    | (intro _ _; try dsimp only)

end Sys2Proof.Machine
end

