-- ==== Sys2Proof/Laws/Keeps/Evl.lean ====
section
/-!
SUPPORT. What each operation of Evl keeps.
-/

namespace Sys2Proof.Machine

variable {w : Nat} {s₀ : State}

theorem State.laneOver_touch (hw : 603980297 ||| w = w) : ∀ s l, Touch w s₀ s → Touch w s₀ (State.laneOver s l) := by
  intro s l h; unfold State.laneOver; try dsimp only
  repeat' with_reducible first
    | exact h
    | exact Touch.refl _ _
    | refine State.updLane_touch (sub_trans (by decide) hw) _ _ _ ?_
    | refine State.raise_touch (sub_trans (by decide) hw) _ _ ?_
    | refine State.orBits_touch (sub_trans (by decide) hw) _ _ _ ?_
    | refine State.slotDisarm_touch (sub_trans (by decide) hw) _ _ ?_

theorem State.laneSkip_touch (hw : 536871425 ||| w = w) : ∀ s l n, Touch w s₀ s → Touch w s₀ (State.laneSkip s l n) := by
  intro s l n h; unfold State.laneSkip; try dsimp only
  repeat' with_reducible first
    | exact h
    | exact Touch.refl _ _
    | refine State.raiseLim_touch (sub_trans (by decide) hw) _ _ _ _ ?_
    | refine State.bump_touch (sub_trans (by decide) hw) _ _ _ ?_
    | (apply touch_ite_then; on_goal 1 => solve | (repeat' first | exact Touch.refl _ _ | refine State.raiseLim_touch (sub_trans (by decide) hw) _ _ _ _ ?_ | refine State.bump_touch (sub_trans (by decide) hw) _ _ _ ?_ | apply touch_foldl))
    | (apply touch_ite_else; on_goal 1 => solve | (repeat' first | exact Touch.refl _ _ | refine State.raiseLim_touch (sub_trans (by decide) hw) _ _ _ _ ?_ | refine State.bump_touch (sub_trans (by decide) hw) _ _ _ ?_))

theorem State.laneSlot_touch (hw : 9 ||| w = w) : ∀ s l, Touch w s₀ s → Touch w s₀ (State.laneSlot s l) := by
  intro s l h; unfold State.laneSlot; try dsimp only
  repeat' with_reducible first
    | exact h
    | exact Touch.refl _ _
    | refine State.updSlot_touch (sub_trans (by decide) hw) _ _ _ ?_
    | refine State.wr64_touch (sub_trans (by decide) hw) _ _ _ ?_

theorem State.laneJudge_touch (hw : 603980297 ||| w = w) : ∀ s l o, Touch w s₀ s → Touch w s₀ (State.laneJudge s l o) := by
  intro s l o h; unfold State.laneJudge; try dsimp only
  repeat' with_reducible first
    | exact h
    | exact Touch.refl _ _
    | refine State.updLane_touch (sub_trans (by decide) hw) _ _ _ ?_
    | refine State.raise_touch (sub_trans (by decide) hw) _ _ ?_
    | refine State.slotStat_touch (sub_trans (by decide) hw) _ _ _ ?_
    | refine State.slotDisarm_touch (sub_trans (by decide) hw) _ _ ?_
    | refine State.laneSlot_touch (sub_trans (by decide) hw) _ _ ?_
    | refine State.laneSkip_touch (sub_trans (by decide) hw) _ _ _ ?_
    | refine State.laneOver_touch (sub_trans (by decide) hw) _ _ ?_
    | (apply touch_ite_then; on_goal 1 => solve | (repeat' first | exact Touch.refl _ _ | refine State.updLane_touch (sub_trans (by decide) hw) _ _ _ ?_ | refine State.raise_touch (sub_trans (by decide) hw) _ _ ?_ | refine State.slotStat_touch (sub_trans (by decide) hw) _ _ _ ?_ | refine State.slotDisarm_touch (sub_trans (by decide) hw) _ _ ?_ | refine State.laneSlot_touch (sub_trans (by decide) hw) _ _ ?_ | refine State.laneSkip_touch (sub_trans (by decide) hw) _ _ _ ?_ | refine State.laneOver_touch (sub_trans (by decide) hw) _ _ ?_ | apply touch_foldl))
    | (apply touch_ite_else; on_goal 1 => solve | (repeat' first | exact Touch.refl _ _ | refine State.updLane_touch (sub_trans (by decide) hw) _ _ _ ?_ | refine State.raise_touch (sub_trans (by decide) hw) _ _ ?_ | refine State.slotStat_touch (sub_trans (by decide) hw) _ _ _ ?_ | refine State.slotDisarm_touch (sub_trans (by decide) hw) _ _ ?_ | refine State.laneSlot_touch (sub_trans (by decide) hw) _ _ ?_ | refine State.laneSkip_touch (sub_trans (by decide) hw) _ _ _ ?_ | refine State.laneOver_touch (sub_trans (by decide) hw) _ _ ?_ | apply touch_foldl))
    | apply touch_ite

theorem State.laneLoad_touch (hw : 67108864 ||| w = w) : ∀ s l x t0, Touch w s₀ s → Touch w s₀ (State.laneLoad s l x t0) := by
  intro s l x t0 h; unfold State.laneLoad; try dsimp only
  repeat' with_reducible first
    | exact h
    | exact Touch.refl _ _
    | refine State.updLane_touch (sub_trans (by decide) hw) _ _ _ ?_

theorem State.laneFall_touch (hw : 603979776 ||| w = w) : ∀ s l e, Touch w s₀ s → Touch w s₀ (State.laneFall s l e) := by
  intro s l e h; unfold State.laneFall; try dsimp only
  repeat' with_reducible first
    | exact h
    | exact Touch.refl _ _
    | refine State.updLane_touch (sub_trans (by decide) hw) _ _ _ ?_
    | refine State.emit_touch (sub_trans (by decide) hw) _ _ ?_

theorem State.laneTurn_touch (hw : 603980297 ||| w = w) : ∀ s l stays, Touch w s₀ s → Touch w s₀ (State.laneTurn s l stays) := by
  intro s l stays h; unfold State.laneTurn; try dsimp only
  repeat' with_reducible first
    | exact h
    | exact Touch.refl _ _
    | refine State.slotDisarm_touch (sub_trans (by decide) hw) _ _ ?_
    | refine State.laneOver_touch (sub_trans (by decide) hw) _ _ ?_
    | refine State.laneSlot_touch (sub_trans (by decide) hw) _ _ ?_
    | (apply touch_ite_then; on_goal 1 => solve | (repeat' first | exact Touch.refl _ _ | refine State.slotDisarm_touch (sub_trans (by decide) hw) _ _ ?_ | refine State.laneOver_touch (sub_trans (by decide) hw) _ _ ?_ | refine State.laneSlot_touch (sub_trans (by decide) hw) _ _ ?_ | apply touch_foldl))
    | (apply touch_ite_else; on_goal 1 => solve | (repeat' first | exact Touch.refl _ _ | refine State.slotDisarm_touch (sub_trans (by decide) hw) _ _ ?_ | refine State.laneOver_touch (sub_trans (by decide) hw) _ _ ?_ | refine State.laneSlot_touch (sub_trans (by decide) hw) _ _ ?_ | apply touch_foldl))
    | apply touch_ite

theorem State.laneFire_touch (hw : 521 ||| w = w) : ∀ s l, Touch w s₀ s → Touch w s₀ (State.laneFire s l) := by
  intro s l h; unfold State.laneFire; try dsimp only
  repeat' with_reducible first
    | exact h
    | exact Touch.refl _ _
    | refine State.advTo_touch (sub_trans (by decide) hw) _ _ ?_
    | refine State.wr64_touch (sub_trans (by decide) hw) _ _ _ ?_
    | refine State.slotStat_touch (sub_trans (by decide) hw) _ _ _ ?_

theorem State.lanePulse_touch (hw : 637534729 ||| w = w) : ∀ s l, Touch w s₀ s → Touch w s₀ (State.lanePulse s l) := by
  intro s l h; unfold State.lanePulse; try dsimp only
  repeat' with_reducible first
    | exact h
    | exact Touch.refl _ _
    | refine State.laneFall_touch (sub_trans (by decide) hw) _ _ _ ?_
    | refine State.updLane_touch (sub_trans (by decide) hw) _ _ _ ?_
    | refine State.laneTurn_touch (sub_trans (by decide) hw) _ _ _ ?_
    | refine State.laneSkip_touch (sub_trans (by decide) hw) _ _ _ ?_
    | refine State.bump_touch (sub_trans (by decide) hw) _ _ _ ?_
    | refine State.emit_touch (sub_trans (by decide) hw) _ _ ?_
    | refine State.timSource_touch (sub_trans (by decide) hw) _ _ _ ?_
    | (apply touch_ite_then; on_goal 1 => solve | (repeat' first | exact Touch.refl _ _ | refine State.laneFall_touch (sub_trans (by decide) hw) _ _ _ ?_ | refine State.updLane_touch (sub_trans (by decide) hw) _ _ _ ?_ | refine State.laneTurn_touch (sub_trans (by decide) hw) _ _ _ ?_ | refine State.laneSkip_touch (sub_trans (by decide) hw) _ _ _ ?_ | refine State.bump_touch (sub_trans (by decide) hw) _ _ _ ?_ | refine State.emit_touch (sub_trans (by decide) hw) _ _ ?_ | refine State.timSource_touch (sub_trans (by decide) hw) _ _ _ ?_ | apply touch_foldl))
    | (apply touch_ite_else; on_goal 1 => solve | (repeat' first | exact Touch.refl _ _ | refine State.laneFall_touch (sub_trans (by decide) hw) _ _ _ ?_ | refine State.updLane_touch (sub_trans (by decide) hw) _ _ _ ?_ | refine State.laneTurn_touch (sub_trans (by decide) hw) _ _ _ ?_ | refine State.laneSkip_touch (sub_trans (by decide) hw) _ _ _ ?_ | refine State.bump_touch (sub_trans (by decide) hw) _ _ _ ?_ | refine State.emit_touch (sub_trans (by decide) hw) _ _ ?_ | refine State.timSource_touch (sub_trans (by decide) hw) _ _ _ ?_ | apply touch_foldl))
    | apply touch_ite
    | apply touch_foldl
    | refine touch_snd (by assumption) ?_
    | (intro _; try dsimp only)
    | assumption
    | split

theorem State.laneLevel_touch (hw : 603980297 ||| w = w) : ∀ s l, Touch w s₀ s → Touch w s₀ (State.laneLevel s l) := by
  intro s l h; unfold State.laneLevel; try dsimp only
  repeat' with_reducible first
    | exact h
    | exact Touch.refl _ _
    | refine State.slotDisarm_touch (sub_trans (by decide) hw) _ _ ?_
    | refine State.laneFall_touch (sub_trans (by decide) hw) _ _ _ ?_
    | refine State.updLane_touch (sub_trans (by decide) hw) _ _ _ ?_
    | refine State.laneSkip_touch (sub_trans (by decide) hw) _ _ _ ?_
    | refine State.emit_touch (sub_trans (by decide) hw) _ _ ?_
    | (apply touch_ite_then; on_goal 1 => solve | (repeat' first | exact Touch.refl _ _ | refine State.slotDisarm_touch (sub_trans (by decide) hw) _ _ ?_ | refine State.laneFall_touch (sub_trans (by decide) hw) _ _ _ ?_ | refine State.updLane_touch (sub_trans (by decide) hw) _ _ _ ?_ | refine State.laneSkip_touch (sub_trans (by decide) hw) _ _ _ ?_ | refine State.emit_touch (sub_trans (by decide) hw) _ _ ?_ | apply touch_foldl))
    | (apply touch_ite_else; on_goal 1 => solve | (repeat' first | exact Touch.refl _ _ | refine State.slotDisarm_touch (sub_trans (by decide) hw) _ _ ?_ | refine State.laneFall_touch (sub_trans (by decide) hw) _ _ _ ?_ | refine State.updLane_touch (sub_trans (by decide) hw) _ _ _ ?_ | refine State.laneSkip_touch (sub_trans (by decide) hw) _ _ _ ?_ | refine State.emit_touch (sub_trans (by decide) hw) _ _ ?_ | apply touch_foldl))
    | apply touch_ite
    | apply touch_foldl
    | refine touch_snd (by assumption) ?_
    | (intro _; try dsimp only)
    | assumption
    | split

theorem State.laneDue_touch (hw : 637534729 ||| w = w) : ∀ s l, Touch w s₀ s → Touch w s₀ (State.laneDue s l) := by
  intro s l h; unfold State.laneDue; try dsimp only
  repeat' with_reducible first
    | exact h
    | exact Touch.refl _ _
    | refine State.laneFire_touch (sub_trans (by decide) hw) _ _ ?_
    | refine State.laneLevel_touch (sub_trans (by decide) hw) _ _ ?_
    | refine State.lanePulse_touch (sub_trans (by decide) hw) _ _ ?_
    | (apply touch_ite_then; on_goal 1 => solve | (repeat' first | exact Touch.refl _ _ | refine State.laneFire_touch (sub_trans (by decide) hw) _ _ ?_ | refine State.laneLevel_touch (sub_trans (by decide) hw) _ _ ?_ | refine State.lanePulse_touch (sub_trans (by decide) hw) _ _ ?_ | apply touch_foldl))
    | (apply touch_ite_else; on_goal 1 => solve | (repeat' first | exact Touch.refl _ _ | refine State.laneFire_touch (sub_trans (by decide) hw) _ _ ?_ | refine State.laneLevel_touch (sub_trans (by decide) hw) _ _ ?_ | refine State.lanePulse_touch (sub_trans (by decide) hw) _ _ ?_ | apply touch_foldl))
    | apply touch_ite

theorem State.laneDisarm_touch (hw : 637534729 ||| w = w) : ∀ s l, Touch w s₀ s → Touch w s₀ (State.laneDisarm s l) := by
  intro s l h; unfold State.laneDisarm; try dsimp only
  repeat' with_reducible first
    | exact h
    | exact Touch.refl _ _
    | refine State.laneDue_touch (sub_trans (by decide) hw) _ _ ?_
    | refine State.updLane_touch (sub_trans (by decide) hw) _ _ _ ?_
    | refine State.slotDisarm_touch (sub_trans (by decide) hw) _ _ ?_

theorem State.laneArm_touch (hw : 637534729 ||| w = w) : ∀ s l, Touch w s₀ s → Touch w s₀ (State.laneArm s l) := by
  intro s l h; unfold State.laneArm; try dsimp only
  repeat' with_reducible first
    | exact h
    | exact Touch.refl _ _
    | refine State.laneDisarm_touch (sub_trans (by decide) hw) _ _ ?_
    | refine State.raise_touch (sub_trans (by decide) hw) _ _ ?_
    | refine State.updLane_touch (sub_trans (by decide) hw) _ _ _ ?_
    | refine State.laneDue_touch (sub_trans (by decide) hw) _ _ ?_
    | refine State.slotDisarm_touch (sub_trans (by decide) hw) _ _ ?_
    | refine State.laneJudge_touch (sub_trans (by decide) hw) _ _ _ ?_
    | refine State.laneLoad_touch (sub_trans (by decide) hw) _ _ _ _ ?_
    | (apply touch_ite_then; on_goal 1 => solve | (repeat' first | exact Touch.refl _ _ | refine State.laneDisarm_touch (sub_trans (by decide) hw) _ _ ?_ | refine State.raise_touch (sub_trans (by decide) hw) _ _ ?_ | refine State.updLane_touch (sub_trans (by decide) hw) _ _ _ ?_ | refine State.laneDue_touch (sub_trans (by decide) hw) _ _ ?_ | refine State.slotDisarm_touch (sub_trans (by decide) hw) _ _ ?_ | refine State.laneJudge_touch (sub_trans (by decide) hw) _ _ _ ?_ | refine State.laneLoad_touch (sub_trans (by decide) hw) _ _ _ _ ?_ | apply touch_foldl))
    | (apply touch_ite_else; on_goal 1 => solve | (repeat' first | exact Touch.refl _ _ | refine State.laneDisarm_touch (sub_trans (by decide) hw) _ _ ?_ | refine State.raise_touch (sub_trans (by decide) hw) _ _ ?_ | refine State.updLane_touch (sub_trans (by decide) hw) _ _ _ ?_ | refine State.laneDue_touch (sub_trans (by decide) hw) _ _ ?_ | refine State.slotDisarm_touch (sub_trans (by decide) hw) _ _ ?_ | refine State.laneJudge_touch (sub_trans (by decide) hw) _ _ _ ?_ | refine State.laneLoad_touch (sub_trans (by decide) hw) _ _ _ _ ?_ | apply touch_foldl))
    | apply touch_ite

theorem State.laneTrigger_touch (hw : 603980297 ||| w = w) : ∀ s l a, Touch w s₀ s → Touch w s₀ (State.laneTrigger s l a) := by
  intro s l a h; unfold State.laneTrigger; try dsimp only
  repeat' with_reducible first
    | exact h
    | exact Touch.refl _ _
    | refine State.laneLoad_touch (sub_trans (by decide) hw) _ _ _ _ ?_
    | refine State.laneSlot_touch (sub_trans (by decide) hw) _ _ ?_
    | refine State.updLane_touch (sub_trans (by decide) hw) _ _ _ ?_
    | refine State.raiseLim_touch (sub_trans (by decide) hw) _ _ _ _ ?_
    | refine State.bump_touch (sub_trans (by decide) hw) _ _ _ ?_
    | (apply touch_ite_then; on_goal 1 => solve | (repeat' first | exact Touch.refl _ _ | refine State.laneLoad_touch (sub_trans (by decide) hw) _ _ _ _ ?_ | refine State.laneSlot_touch (sub_trans (by decide) hw) _ _ ?_ | refine State.updLane_touch (sub_trans (by decide) hw) _ _ _ ?_ | refine State.raiseLim_touch (sub_trans (by decide) hw) _ _ _ _ ?_ | refine State.bump_touch (sub_trans (by decide) hw) _ _ _ ?_ | apply touch_foldl))
    | (apply touch_ite_else; on_goal 1 => solve | (repeat' first | exact Touch.refl _ _ | refine State.laneLoad_touch (sub_trans (by decide) hw) _ _ _ _ ?_ | refine State.laneSlot_touch (sub_trans (by decide) hw) _ _ ?_ | refine State.updLane_touch (sub_trans (by decide) hw) _ _ _ ?_ | refine State.raiseLim_touch (sub_trans (by decide) hw) _ _ _ _ ?_ | refine State.bump_touch (sub_trans (by decide) hw) _ _ _ ?_ | apply touch_foldl))
    | apply touch_ite

theorem State.evlTrigger_touch (hw : 603980297 ||| w = w) : ∀ s j a, Touch w s₀ s → Touch w s₀ (State.evlTrigger s j a) := by
  intro s j a h; unfold State.evlTrigger; try dsimp only
  repeat' with_reducible first
    | exact h
    | exact Touch.refl _ _
    | refine State.laneTrigger_touch (sub_trans (by decide) hw) _ _ _ ?_
    | (apply touch_ite_then; on_goal 1 => solve | (repeat' first | exact Touch.refl _ _ | refine State.laneTrigger_touch (sub_trans (by decide) hw) _ _ _ ?_))
    | apply touch_ite
    | apply touch_foldl
    | (intro _ _ _ k; try dsimp only)
    | (intro _ _; try dsimp only)

theorem execEvlArm_touch (hw : 637534729 ||| w = w) : ∀ l s, Touch w s₀ s → TouchR w s₀ (execEvlArm l s) := by
  intro l s h; unfold execEvlArm; try dsimp only
  repeat' with_reducible first
    | exact h
    | exact Touch.refl _ _
    | apply touchR_next
    | apply touchR_ite
    | refine State.laneArm_touch (sub_trans (by decide) hw) _ _ ?_
    | refine State.advTo_touch (sub_trans (by decide) hw) _ _ ?_

theorem execEvlDisarm_touch (hw : 637534729 ||| w = w) : ∀ l s, Touch w s₀ s → TouchR w s₀ (execEvlDisarm l s) := by
  intro l s h; unfold execEvlDisarm; try dsimp only
  repeat' with_reducible first
    | exact h
    | exact Touch.refl _ _
    | apply touchR_next
    | apply touchR_ite
    | refine State.laneDisarm_touch (sub_trans (by decide) hw) _ _ ?_
    | refine State.advTo_touch (sub_trans (by decide) hw) _ _ ?_

theorem execEvlArmAll_touch (hw : 637534729 ||| w = w) : ∀ lanes s, Touch w s₀ s → TouchR w s₀ (execEvlArmAll lanes s) := by
  intro lanes s h; unfold execEvlArmAll; try dsimp only
  repeat' with_reducible first
    | exact h
    | exact Touch.refl _ _
    | apply touchR_next
    | apply touchR_ite
    | refine State.laneArm_touch (sub_trans (by decide) hw) _ _ ?_
    | refine State.advTo_touch (sub_trans (by decide) hw) _ _ ?_
    | (apply touch_ite_then; on_goal 1 => solve | (repeat' first | exact Touch.refl _ _ | refine State.laneArm_touch (sub_trans (by decide) hw) _ _ ?_ | refine State.advTo_touch (sub_trans (by decide) hw) _ _ ?_))
    | apply touch_ite
    | apply touch_foldl
    | (intro _ _ _ k; try dsimp only)
    | (intro _ _; try dsimp only)

theorem execEvlDisarmAll_touch (hw : 637534729 ||| w = w) : ∀ lanes s, Touch w s₀ s → TouchR w s₀ (execEvlDisarmAll lanes s) := by
  intro lanes s h; unfold execEvlDisarmAll; try dsimp only
  repeat' with_reducible first
    | exact h
    | exact Touch.refl _ _
    | apply touchR_next
    | apply touchR_ite
    | refine State.laneDisarm_touch (sub_trans (by decide) hw) _ _ ?_
    | refine State.advTo_touch (sub_trans (by decide) hw) _ _ ?_
    | (apply touch_ite_then; on_goal 1 => solve | (repeat' first | exact Touch.refl _ _ | refine State.laneDisarm_touch (sub_trans (by decide) hw) _ _ ?_ | refine State.advTo_touch (sub_trans (by decide) hw) _ _ ?_))
    | apply touch_ite
    | apply touch_foldl
    | (intro _ _ _ k; try dsimp only)
    | (intro _ _; try dsimp only)

theorem execEvlPulse_touch (hw : 637534729 ||| w = w) : ∀ l s, Touch w s₀ s → TouchR w s₀ (execEvlPulse l s) := by
  intro l s h; unfold execEvlPulse; try dsimp only
  repeat' with_reducible first
    | exact h
    | exact Touch.refl _ _
    | apply touchR_next
    | apply touchR_ite
    | refine State.laneFire_touch (sub_trans (by decide) hw) _ _ ?_
    | refine State.lanePulse_touch (sub_trans (by decide) hw) _ _ ?_
    | refine State.advTo_touch (sub_trans (by decide) hw) _ _ ?_

theorem execEvlTrailingEdge_touch (hw : 603980297 ||| w = w) : ∀ l s, Touch w s₀ s → TouchR w s₀ (execEvlTrailingEdge l s) := by
  intro l s h; unfold execEvlTrailingEdge; try dsimp only
  repeat' with_reducible first
    | exact h
    | exact Touch.refl _ _
    | apply touchR_next
    | apply touchR_ite
    | refine State.laneFall_touch (sub_trans (by decide) hw) _ _ _ ?_
    | refine State.advTo_touch (sub_trans (by decide) hw) _ _ ?_
    | refine State.laneOver_touch (sub_trans (by decide) hw) _ _ ?_
    | (apply touch_ite_then; on_goal 1 => solve | (repeat' first | exact Touch.refl _ _ | refine State.laneFall_touch (sub_trans (by decide) hw) _ _ _ ?_ | refine State.advTo_touch (sub_trans (by decide) hw) _ _ ?_ | refine State.laneOver_touch (sub_trans (by decide) hw) _ _ ?_))
    | apply touch_ite
    | apply touch_foldl
    | refine touch_snd (by assumption) ?_
    | (intro _; try dsimp only)
    | assumption
    | split

theorem execEvlLevel_touch (hw : 603980297 ||| w = w) : ∀ l s, Touch w s₀ s → TouchR w s₀ (execEvlLevel l s) := by
  intro l s h; unfold execEvlLevel; try dsimp only
  repeat' with_reducible first
    | exact h
    | exact Touch.refl _ _
    | apply touchR_next
    | apply touchR_ite
    | refine State.laneFire_touch (sub_trans (by decide) hw) _ _ ?_
    | refine State.laneLevel_touch (sub_trans (by decide) hw) _ _ ?_
    | refine State.advTo_touch (sub_trans (by decide) hw) _ _ ?_

theorem State.evlJump_touch (hw : 603980297 ||| w = w) : ∀ s d, Touch w s₀ s → Touch w s₀ (State.evlJump s d) := by
  intro s d h; unfold State.evlJump; try dsimp only
  repeat' with_reducible first
    | exact h
    | exact Touch.refl _ _
    | refine State.updLane_touch (sub_trans (by decide) hw) _ _ _ ?_
    | refine State.laneJudge_touch (sub_trans (by decide) hw) _ _ _ ?_
    | refine State.slotStat_touch (sub_trans (by decide) hw) _ _ _ ?_
    | (apply touch_ite_then; on_goal 1 => solve | (repeat' first | exact Touch.refl _ _ | refine State.updLane_touch (sub_trans (by decide) hw) _ _ _ ?_ | refine State.laneJudge_touch (sub_trans (by decide) hw) _ _ _ ?_ | refine State.slotStat_touch (sub_trans (by decide) hw) _ _ _ ?_ | apply touch_foldl))
    | (apply touch_ite_else; on_goal 1 => solve | (repeat' first | exact Touch.refl _ _ | refine State.updLane_touch (sub_trans (by decide) hw) _ _ _ ?_ | refine State.laneJudge_touch (sub_trans (by decide) hw) _ _ _ ?_ | refine State.slotStat_touch (sub_trans (by decide) hw) _ _ _ ?_ | apply touch_foldl))
    | apply touch_ite
    | apply touch_foldl
    | (intro _ _ _ k; try dsimp only)
    | (intro _ _; try dsimp only)

theorem State.evlCommit_touch (hw : 67108864 ||| w = w) : ∀ s old, Touch w s₀ s → Touch w s₀ (State.evlCommit s old) := by
  intro s old h; unfold State.evlCommit; try dsimp only
  repeat' with_reducible first
    | exact h
    | exact Touch.refl _ _
    | refine State.updLane_touch (sub_trans (by decide) hw) _ _ _ ?_
    | (apply touch_ite_then; on_goal 1 => solve | (repeat' first | exact Touch.refl _ _ | refine State.updLane_touch (sub_trans (by decide) hw) _ _ _ ?_ | apply touch_foldl))
    | (apply touch_ite_else; on_goal 1 => solve | (repeat' first | exact Touch.refl _ _ | refine State.updLane_touch (sub_trans (by decide) hw) _ _ _ ?_))
    | apply touch_ite
    | apply touch_foldl
    | (intro _ _ _ k; try dsimp only)
    | (intro _ _; try dsimp only)

end Sys2Proof.Machine
end

