-- ==== Sys2Proof/Laws/Keeps/Leap.lean ====
section
/-!
SUPPORT. What each operation of Leap keeps.
-/

namespace Sys2Proof.Machine

variable {w : Nat} {s₀ : State}

theorem State.leapSync_touch (hw : 536871689 ||| w = w) : ∀ s, Touch w s₀ s → Touch w s₀ (State.leapSync s) := by
  intro s h; unfold State.leapSync; try dsimp only
  repeat' with_reducible first
    | exact h
    | exact Touch.refl _ _
    | refine State.slotDisarm_touch (sub_trans (by decide) hw) _ _ ?_
    | refine State.slotArmBound_touch (sub_trans (by decide) hw) _ _ _ _ _ _ ?_
    | (apply touch_ite_then; on_goal 1 => solve | (repeat' first | exact Touch.refl _ _ | refine State.slotDisarm_touch (sub_trans (by decide) hw) _ _ ?_ | refine State.slotArmBound_touch (sub_trans (by decide) hw) _ _ _ _ _ _ ?_ | apply touch_foldl))
    | (apply touch_ite_else; on_goal 1 => solve | (repeat' first | exact Touch.refl _ _ | refine State.slotDisarm_touch (sub_trans (by decide) hw) _ _ ?_ | refine State.slotArmBound_touch (sub_trans (by decide) hw) _ _ _ _ _ _ ?_ | apply touch_foldl))
    | apply touch_ite
    | apply touch_foldl
    | refine touch_snd (by assumption) ?_
    | (intro _; try dsimp only)
    | assumption
    | split

theorem State.leapFrozen_touch (hw : 16 ||| w = w) : ∀ s, Touch w s₀ s → Touch w s₀ (State.leapFrozen s) := by
  intro s h; unfold State.leapFrozen; try dsimp only
  repeat' with_reducible first
    | exact h
    | exact Touch.refl _ _
    | fail_if_no_progress refine touch_vbat (sub_trans (by decide) hw) ?_

theorem State.leapPut_touch (hw : 537133849 ||| w = w) : ∀ s p, Touch w s₀ s → Touch w s₀ (State.leapPut s p) := by
  intro s p h; unfold State.leapPut; try dsimp only
  repeat' with_reducible first
    | exact h
    | exact Touch.refl _ _
    | refine State.smearCancel_touch (sub_trans (by decide) hw) _ ?_
    | refine State.pushView_touch (sub_trans (by decide) hw) _ _ ?_
    | refine State.leapFrozen_touch (sub_trans (by decide) hw) _ ?_
    | refine State.leapSync_touch (sub_trans (by decide) hw) _ ?_
    | refine State.raise_touch (sub_trans (by decide) hw) _ _ ?_
    | fail_if_no_progress refine touch_vbat_srv (sub_trans (by decide) hw) ?_
    | (apply touch_ite_then; on_goal 1 => solve | (repeat' first | exact Touch.refl _ _ | refine State.smearCancel_touch (sub_trans (by decide) hw) _ ?_ | refine State.pushView_touch (sub_trans (by decide) hw) _ _ ?_ | refine State.leapFrozen_touch (sub_trans (by decide) hw) _ ?_ | refine State.leapSync_touch (sub_trans (by decide) hw) _ ?_ | refine State.raise_touch (sub_trans (by decide) hw) _ _ ?_ | fail_if_no_progress refine touch_vbat_srv (sub_trans (by decide) hw) ?_ | apply touch_foldl))
    | (apply touch_ite_else; on_goal 1 => solve | (repeat' first | exact Touch.refl _ _ | refine State.smearCancel_touch (sub_trans (by decide) hw) _ ?_ | refine State.pushView_touch (sub_trans (by decide) hw) _ _ ?_ | refine State.leapFrozen_touch (sub_trans (by decide) hw) _ ?_ | refine State.leapSync_touch (sub_trans (by decide) hw) _ ?_ | refine State.raise_touch (sub_trans (by decide) hw) _ _ ?_ | fail_if_no_progress refine touch_vbat_srv (sub_trans (by decide) hw) ?_))

theorem State.leapApply_touch (hw : 537133849 ||| w = w) : ∀ s t, Touch w s₀ s → Touch w s₀ (State.leapApply s t) := by
  intro s t h; unfold State.leapApply; try dsimp only
  repeat' with_reducible first
    | exact h
    | exact Touch.refl _ _
    | refine State.pushView_touch (sub_trans (by decide) hw) _ _ ?_
    | refine State.raise_touch (sub_trans (by decide) hw) _ _ ?_
    | refine State.leapSync_touch (sub_trans (by decide) hw) _ ?_
    | fail_if_no_progress refine touch_vbat_srv (sub_trans (by decide) hw) ?_
    | apply touch_foldl
    | refine touch_snd (by assumption) ?_
    | (intro _; try dsimp only)
    | assumption
    | split

theorem State.leapHost_touch (hw : 537133849 ||| w = w) : ∀ s delete, Touch w s₀ s → Touch w s₀ (State.leapHost s delete) := by
  intro s delete h; unfold State.leapHost; try dsimp only
  repeat' with_reducible first
    | exact h
    | exact Touch.refl _ _
    | refine State.leapPut_touch (sub_trans (by decide) hw) _ _ ?_
    | refine State.raise_touch (sub_trans (by decide) hw) _ _ ?_
    | (apply touch_ite_then; on_goal 1 => solve | (repeat' first | exact Touch.refl _ _ | refine State.leapPut_touch (sub_trans (by decide) hw) _ _ ?_ | refine State.raise_touch (sub_trans (by decide) hw) _ _ ?_ | apply touch_foldl))
    | (apply touch_ite_else; on_goal 1 => solve | (repeat' first | exact Touch.refl _ _ | refine State.leapPut_touch (sub_trans (by decide) hw) _ _ ?_ | refine State.raise_touch (sub_trans (by decide) hw) _ _ ?_ | apply touch_foldl))
    | apply touch_ite

theorem State.leapCancel_touch (hw : 537133849 ||| w = w) : ∀ s, Touch w s₀ s → Touch w s₀ (State.leapCancel s) := by
  intro s h; unfold State.leapCancel; try dsimp only
  repeat' with_reducible first
    | exact h
    | exact Touch.refl _ _
    | refine State.leapPut_touch (sub_trans (by decide) hw) _ _ ?_
    | refine State.raise_touch (sub_trans (by decide) hw) _ _ ?_
    | (apply touch_ite_then; on_goal 1 => solve | (repeat' first | exact Touch.refl _ _ | refine State.leapPut_touch (sub_trans (by decide) hw) _ _ ?_ | refine State.raise_touch (sub_trans (by decide) hw) _ _ ?_ | apply touch_foldl))
    | (apply touch_ite_else; on_goal 1 => solve | (repeat' first | exact Touch.refl _ _ | refine State.leapPut_touch (sub_trans (by decide) hw) _ _ ?_ | refine State.raise_touch (sub_trans (by decide) hw) _ _ ?_ | apply touch_foldl))
    | apply touch_ite

theorem execLeapHostInsert_touch (hw : 537133849 ||| w = w) : ∀ s, Touch w s₀ s → TouchR w s₀ (execLeapHostInsert s) := by
  intro s h; unfold execLeapHostInsert; try dsimp only
  repeat' with_reducible first
    | exact h
    | exact Touch.refl _ _
    | apply touchR_next
    | apply touchR_ite
    | refine State.leapHost_touch (sub_trans (by decide) hw) _ _ ?_

theorem execLeapHostDelete_touch (hw : 537133849 ||| w = w) : ∀ s, Touch w s₀ s → TouchR w s₀ (execLeapHostDelete s) := by
  intro s h; unfold execLeapHostDelete; try dsimp only
  repeat' with_reducible first
    | exact h
    | exact Touch.refl _ _
    | apply touchR_next
    | apply touchR_ite
    | refine State.leapHost_touch (sub_trans (by decide) hw) _ _ ?_

theorem execLeapHostCancel_touch (hw : 537133849 ||| w = w) : ∀ s, Touch w s₀ s → TouchR w s₀ (execLeapHostCancel s) := by
  intro s h; unfold execLeapHostCancel; try dsimp only
  repeat' with_reducible first
    | exact h
    | exact Touch.refl _ _
    | apply touchR_next
    | apply touchR_ite
    | refine State.leapCancel_touch (sub_trans (by decide) hw) _ ?_

theorem execLeapFreeze_touch (hw : 262680 ||| w = w) : ∀ s, Touch w s₀ s → TouchR w s₀ (execLeapFreeze s) := by
  intro s h; unfold execLeapFreeze; try dsimp only
  repeat' with_reducible first
    | exact h
    | exact Touch.refl _ _
    | apply touchR_next
    | apply touchR_ite
    | refine State.leapFrozen_touch (sub_trans (by decide) hw) _ ?_
    | refine State.advDt_touch (sub_trans (by decide) hw) _ _ ?_
    | refine State.pushView_touch (sub_trans (by decide) hw) _ _ ?_
    | apply touch_foldl
    | refine touch_snd (by assumption) ?_
    | (intro _; try dsimp only)
    | assumption
    | split

theorem execLeapApply_touch (hw : 546575257 ||| w = w) : ∀ s, Touch w s₀ s → TouchR w s₀ (execLeapApply s) := by
  intro s h; unfold execLeapApply; try dsimp only
  repeat' with_reducible first
    | exact h
    | exact Touch.refl _ _
    | apply touchR_next
    | apply touchR_ite
    | refine State.slotBoundary_touch (sub_trans (by decide) hw) _ _ ?_
    | refine State.slotFire_touch (sub_trans (by decide) hw) _ _ ?_
    | refine State.timeStateChange_touch (sub_trans (by decide) hw) _ ?_
    | refine State.leapApply_touch (sub_trans (by decide) hw) _ _ ?_

end Sys2Proof.Machine
end

