-- ==== Sys2Proof/Laws/Keeps/Ptp.lean ====
section
/-!
SUPPORT. What each operation of Ptp keeps.
-/

namespace Sys2Proof.Machine

variable {w : Nat} {s₀ : State}

theorem State.syncArm_touch (hw : 536871689 ||| w = w) : ∀ s i after, Touch w s₀ s → Touch w s₀ (State.syncArm s i after) := by
  intro s i after h; unfold State.syncArm; try dsimp only
  repeat' with_reducible first
    | exact h
    | exact Touch.refl _ _
    | refine State.slotDisarm_touch (sub_trans (by decide) hw) _ _ ?_
    | refine State.slotArmBound_touch (sub_trans (by decide) hw) _ _ _ _ _ _ ?_
    | (apply touch_ite_then; on_goal 1 => solve | (repeat' first | exact Touch.refl _ _ | refine State.slotDisarm_touch (sub_trans (by decide) hw) _ _ ?_ | refine State.slotArmBound_touch (sub_trans (by decide) hw) _ _ _ _ _ _ ?_ | apply touch_foldl))
    | (apply touch_ite_else; on_goal 1 => solve | (repeat' first | exact Touch.refl _ _ | refine State.slotDisarm_touch (sub_trans (by decide) hw) _ _ ?_ | refine State.slotArmBound_touch (sub_trans (by decide) hw) _ _ _ _ _ _ ?_ | apply touch_foldl))
    | apply touch_ite

theorem execSyncMcFire_touch (hw : 538018569 ||| w = w) : ∀ n s, Touch w s₀ s → TouchR w s₀ (execSyncMcFire n s) := by
  intro n s h; unfold execSyncMcFire; try dsimp only
  repeat' with_reducible first
    | exact h
    | exact Touch.refl _ _
    | apply touchR_next
    | apply touchR_ite
    | refine State.slotFire_touch (sub_trans (by decide) hw) _ _ ?_
    | refine State.syncArm_touch (sub_trans (by decide) hw) _ _ _ ?_
    | refine State.updPtpPort_touch (sub_trans (by decide) hw) _ _ _ ?_
    | refine State.prioPush_touch (sub_trans (by decide) hw) _ _ _ ?_
    | fail_if_no_progress refine touch_cls (sub_trans (by decide) hw) ?_

theorem execSyncUcTick_touch (hw : 537920265 ||| w = w) : ∀ n s, Touch w s₀ s → TouchR w s₀ (execSyncUcTick n s) := by
  intro n s h; unfold execSyncUcTick; try dsimp only
  repeat' with_reducible first
    | exact h
    | exact Touch.refl _ _
    | apply touchR_next
    | apply touchR_ite
    | refine State.slotFire_touch (sub_trans (by decide) hw) _ _ ?_
    | refine State.syncArm_touch (sub_trans (by decide) hw) _ _ _ ?_
    | refine State.updPtpPort_touch (sub_trans (by decide) hw) _ _ _ ?_

theorem execSyncUcItemIssue_touch (hw : 538018313 ||| w = w) : ∀ n s, Touch w s₀ s → TouchR w s₀ (execSyncUcItemIssue n s) := by
  intro n s h; unfold execSyncUcItemIssue; try dsimp only
  repeat' with_reducible first
    | exact h
    | exact Touch.refl _ _
    | apply touchR_next
    | apply touchR_ite
    | refine State.updPtpPort_touch (sub_trans (by decide) hw) _ _ _ ?_
    | refine State.advTo_touch (sub_trans (by decide) hw) _ _ ?_
    | refine State.updGrant_touch (sub_trans (by decide) hw) _ _ _ ?_
    | refine State.prioPush_touch (sub_trans (by decide) hw) _ _ _ ?_
    | fail_if_no_progress refine touch_cls (sub_trans (by decide) hw) ?_
    | apply touch_ite
    | apply touch_foldl
    | refine touch_snd (by assumption) ?_
    | (intro _; try dsimp only)
    | assumption
    | split

theorem State.announce_touch (hw : 537924097 ||| w = w) : ∀ s n grant seq, Touch w s₀ s → Touch w s₀ (State.announce s n grant seq) := by
  intro s n grant seq h; unfold State.announce; try dsimp only
  repeat' with_reducible first
    | exact h
    | exact Touch.refl _ _
    | refine State.bePush_touch (sub_trans (by decide) hw) _ _ _ _ _ _ _ ?_
    | refine State.bump_touch (sub_trans (by decide) hw) _ _ _ ?_
    | fail_if_no_progress refine touch_ptp (sub_trans (by decide) hw) ?_
    | (apply touch_ite_then; on_goal 1 => solve | (repeat' first | exact Touch.refl _ _ | refine State.bePush_touch (sub_trans (by decide) hw) _ _ _ _ _ _ _ ?_ | refine State.bump_touch (sub_trans (by decide) hw) _ _ _ ?_ | fail_if_no_progress refine touch_ptp (sub_trans (by decide) hw) ?_ | apply touch_foldl))
    | (apply touch_ite_else; on_goal 1 => solve | (repeat' first | exact Touch.refl _ _ | refine State.bePush_touch (sub_trans (by decide) hw) _ _ _ _ _ _ _ ?_ | refine State.bump_touch (sub_trans (by decide) hw) _ _ _ ?_ | fail_if_no_progress refine touch_ptp (sub_trans (by decide) hw) ?_ | apply touch_foldl))
    | apply touch_ite
    | apply touch_foldl
    | refine touch_snd (by assumption) ?_
    | (intro _; try dsimp only)
    | assumption
    | split

theorem State.annTurn_touch (hw : 520 ||| w = w) : ∀ s due, Touch w s₀ s → Touch w s₀ (State.annTurn s due) := by
  intro s due h; unfold State.annTurn; try dsimp only
  repeat' with_reducible first
    | exact h
    | exact Touch.refl _ _
    | refine State.advDt_touch (sub_trans (by decide) hw) _ _ ?_
    | refine State.advTo_touch (sub_trans (by decide) hw) _ _ ?_
    | (apply touch_ite_then; on_goal 1 => solve | (repeat' first | exact Touch.refl _ _ | refine State.advDt_touch (sub_trans (by decide) hw) _ _ ?_ | refine State.advTo_touch (sub_trans (by decide) hw) _ _ ?_))

theorem execAnnounceSend_touch (hw : 537924105 ||| w = w) : ∀ n grant s, Touch w s₀ s → TouchR w s₀ (execAnnounceSend n grant s) := by
  intro n grant s h; unfold execAnnounceSend; try dsimp only
  repeat' with_reducible first
    | exact h
    | exact Touch.refl _ _
    | apply touchR_next
    | apply touchR_ite
    | refine State.annTurn_touch (sub_trans (by decide) hw) _ _ ?_
    | refine State.updPtpPort_touch (sub_trans (by decide) hw) _ _ _ ?_
    | refine State.announce_touch (sub_trans (by decide) hw) _ _ _ _ ?_
    | refine State.updGrant_touch (sub_trans (by decide) hw) _ _ _ ?_
    | apply touch_ite
    | apply touch_foldl
    | refine touch_snd (by assumption) ?_
    | (intro _; try dsimp only)
    | assumption
    | split

theorem execForeignAnnounce_touch (hw : 537920001 ||| w = w) : ∀ n payload s, Touch w s₀ s → TouchR w s₀ (execForeignAnnounce n payload s) := by
  intro n payload s h; unfold execForeignAnnounce; try dsimp only
  repeat' with_reducible first
    | exact h
    | exact Touch.refl _ _
    | apply touchR_next
    | apply touchR_ite
    | refine State.bump_touch (sub_trans (by decide) hw) _ _ _ ?_
    | refine State.raise_touch (sub_trans (by decide) hw) _ _ ?_
    | refine State.updPtpPort_touch (sub_trans (by decide) hw) _ _ _ ?_

theorem State.sigReply_touch (hw : 537924097 ||| w = w) : ∀ s n f tlv, Touch w s₀ s → Touch w s₀ (State.sigReply s n f tlv) := by
  intro s n f tlv h; unfold State.sigReply; try dsimp only
  repeat' with_reducible first
    | exact h
    | exact Touch.refl _ _
    | refine State.portSignal_touch (sub_trans (by decide) hw) _ _ _ _ _ _ _ ?_

theorem State.grantDeny_touch (hw : 537924097 ||| w = w) : ∀ s n f type log, Touch w s₀ s → Touch w s₀ (State.grantDeny s n f type log) := by
  intro s n f type log h; unfold State.grantDeny; try dsimp only
  repeat' with_reducible first
    | exact h
    | exact Touch.refl _ _
    | refine State.sigReply_touch (sub_trans (by decide) hw) _ _ _ _ ?_
    | refine State.raiseLim_touch (sub_trans (by decide) hw) _ _ _ _ ?_
    | refine State.bump_touch (sub_trans (by decide) hw) _ _ _ ?_

theorem State.grantRequest_touch (hw : 537924097 ||| w = w) : ∀ s n f type log dur, Touch w s₀ s → Touch w s₀ (State.grantRequest s n f type log dur) := by
  intro s n f type log dur h; unfold State.grantRequest; try dsimp only
  repeat' with_reducible first
    | exact h
    | exact Touch.refl _ _
    | refine State.grantDeny_touch (sub_trans (by decide) hw) _ _ _ _ _ ?_
    | refine State.bump_touch (sub_trans (by decide) hw) _ _ _ ?_
    | refine State.grantWrite_touch (sub_trans (by decide) hw) _ _ _ _ ?_
    | refine State.sigReply_touch (sub_trans (by decide) hw) _ _ _ _ ?_
    | (apply touch_ite_then; on_goal 1 => solve | (repeat' first | exact Touch.refl _ _ | refine State.grantDeny_touch (sub_trans (by decide) hw) _ _ _ _ _ ?_ | refine State.bump_touch (sub_trans (by decide) hw) _ _ _ ?_ | refine State.grantWrite_touch (sub_trans (by decide) hw) _ _ _ _ ?_ | refine State.sigReply_touch (sub_trans (by decide) hw) _ _ _ _ ?_ | apply touch_foldl))
    | (apply touch_ite_else; on_goal 1 => solve | (repeat' first | exact Touch.refl _ _ | refine State.grantDeny_touch (sub_trans (by decide) hw) _ _ _ _ _ ?_ | refine State.bump_touch (sub_trans (by decide) hw) _ _ _ ?_ | refine State.grantWrite_touch (sub_trans (by decide) hw) _ _ _ _ ?_ | refine State.sigReply_touch (sub_trans (by decide) hw) _ _ _ _ ?_ | apply touch_foldl))
    | apply touch_ite
    | apply touch_foldl
    | refine touch_snd (by assumption) ?_
    | (intro _; try dsimp only)
    | assumption
    | split

theorem State.grantCancel_touch (hw : 537924097 ||| w = w) : ∀ s n f type, Touch w s₀ s → Touch w s₀ (State.grantCancel s n f type) := by
  intro s n f type h; unfold State.grantCancel; try dsimp only
  repeat' with_reducible first
    | exact h
    | exact Touch.refl _ _
    | refine State.grantWrite_touch (sub_trans (by decide) hw) _ _ _ _ ?_
    | refine State.bump_touch (sub_trans (by decide) hw) _ _ _ ?_
    | refine State.sigReply_touch (sub_trans (by decide) hw) _ _ _ _ ?_
    | (apply touch_ite_then; on_goal 1 => solve | (repeat' first | exact Touch.refl _ _ | refine State.grantWrite_touch (sub_trans (by decide) hw) _ _ _ _ ?_ | refine State.bump_touch (sub_trans (by decide) hw) _ _ _ ?_ | refine State.sigReply_touch (sub_trans (by decide) hw) _ _ _ _ ?_))
    | apply touch_ite
    | apply touch_foldl
    | refine touch_snd (by assumption) ?_
    | (intro _; try dsimp only)
    | assumption
    | split

theorem State.sigTlv_touch (hw : 537924097 ||| w = w) : ∀ n f s t, Touch w s₀ s → Touch w s₀ (State.sigTlv n f s t) := by
  intro n f s t h; unfold State.sigTlv; try dsimp only
  repeat' with_reducible first
    | exact h
    | exact Touch.refl _ _
    | refine State.grantRequest_touch (sub_trans (by decide) hw) _ _ _ _ _ _ ?_
    | refine State.grantCancel_touch (sub_trans (by decide) hw) _ _ _ _ ?_
    | (apply touch_ite_then; on_goal 1 => solve | (repeat' first | exact Touch.refl _ _ | refine State.grantRequest_touch (sub_trans (by decide) hw) _ _ _ _ _ _ ?_ | refine State.grantCancel_touch (sub_trans (by decide) hw) _ _ _ _ ?_ | apply touch_foldl))
    | (apply touch_ite_else; on_goal 1 => solve | (repeat' first | exact Touch.refl _ _ | refine State.grantRequest_touch (sub_trans (by decide) hw) _ _ _ _ _ _ ?_ | refine State.grantCancel_touch (sub_trans (by decide) hw) _ _ _ _ ?_ | apply touch_foldl))
    | apply touch_ite

theorem State.signalling_touch (hw : 537924097 ||| w = w) : ∀ s n f, Touch w s₀ s → Touch w s₀ (State.signalling s n f) := by
  intro s n f h; unfold State.signalling; try dsimp only
  repeat' with_reducible first
    | exact h
    | exact Touch.refl _ _
    | refine State.bump_touch (sub_trans (by decide) hw) _ _ _ ?_
    | refine State.sigTlv_touch (sub_trans (by decide) hw) _ _ _ _ ?_
    | (apply touch_ite_then; on_goal 1 => solve | (repeat' first | exact Touch.refl _ _ | refine State.bump_touch (sub_trans (by decide) hw) _ _ _ ?_ | refine State.sigTlv_touch (sub_trans (by decide) hw) _ _ _ _ ?_ | apply touch_foldl))
    | (apply touch_ite_else; on_goal 1 => solve | (repeat' first | exact Touch.refl _ _ | refine State.bump_touch (sub_trans (by decide) hw) _ _ _ ?_ | refine State.sigTlv_touch (sub_trans (by decide) hw) _ _ _ _ ?_ | apply touch_foldl))
    | apply touch_ite
    | apply touch_foldl
    | (intro _ _ _ k; try dsimp only)
    | (intro _ _; try dsimp only)
    | refine touch_snd (by assumption) ?_
    | (intro _; try dsimp only)
    | assumption
    | split

theorem execUnicastRequest_touch (hw : 537924097 ||| w = w) : ∀ n f s, Touch w s₀ s → TouchR w s₀ (execUnicastRequest n f s) := by
  intro n f s h; unfold execUnicastRequest; try dsimp only
  repeat' with_reducible first
    | exact h
    | exact Touch.refl _ _
    | apply touchR_next
    | apply touchR_ite
    | refine State.signalling_touch (sub_trans (by decide) hw) _ _ _ ?_

theorem execUnicastCancel_touch (hw : 537924097 ||| w = w) : ∀ n f s, Touch w s₀ s → TouchR w s₀ (execUnicastCancel n f s) := by
  intro n f s h; unfold execUnicastCancel; try dsimp only
  repeat' with_reducible first
    | exact h
    | exact Touch.refl _ _
    | apply touchR_next
    | apply touchR_ite
    | refine State.signalling_touch (sub_trans (by decide) hw) _ _ _ ?_

theorem execGrantEffect_touch (hw : 1049096 ||| w = w) : ∀ s, Touch w s₀ s → TouchR w s₀ (execGrantEffect s) := by
  intro s h; unfold execGrantEffect; try dsimp only
  repeat' with_reducible first
    | exact h
    | exact Touch.refl _ _
    | apply touchR_next
    | apply touchR_ite
    | refine State.advTo_touch (sub_trans (by decide) hw) _ _ ?_
    | refine State.updGrant_touch (sub_trans (by decide) hw) _ _ _ ?_
    | fail_if_no_progress refine touch_ptp (sub_trans (by decide) hw) ?_
    | apply touch_ite
    | apply touch_foldl
    | refine touch_snd (by assumption) ?_
    | (intro _; try dsimp only)
    | assumption
    | split

theorem execGrantExpire_touch (hw : 1049096 ||| w = w) : ∀ i type s, Touch w s₀ s → TouchR w s₀ (execGrantExpire i type s) := by
  intro i type s h; unfold execGrantExpire; try dsimp only
  repeat' with_reducible first
    | exact h
    | exact Touch.refl _ _
    | apply touchR_next
    | apply touchR_ite
    | refine State.advDt_touch (sub_trans (by decide) hw) _ _ ?_
    | refine State.updGrant_touch (sub_trans (by decide) hw) _ _ _ ?_
    | apply touch_foldl
    | refine touch_snd (by assumption) ?_
    | (intro _; try dsimp only)
    | assumption
    | split

theorem State.grantRead_touch (hw : 1048576 ||| w = w) : ∀ s, Touch w s₀ s → Touch w s₀ (State.grantRead s) := by
  intro s h; unfold State.grantRead; try dsimp only
  repeat' with_reducible first
    | exact h
    | exact Touch.refl _ _
    | fail_if_no_progress refine touch_ptp (sub_trans (by decide) hw) ?_

theorem execGrantRead_touch (hw : 1048576 ||| w = w) : ∀ s, Touch w s₀ s → TouchR w s₀ (execGrantRead s) := by
  intro s h; unfold execGrantRead; try dsimp only
  repeat' with_reducible first
    | exact h
    | exact Touch.refl _ _
    | apply touchR_next
    | apply touchR_ite
    | refine State.grantRead_touch (sub_trans (by decide) hw) _ ?_

end Sys2Proof.Machine
end

