-- ==== Sys2Proof/Laws/Keeps/StepEdge.lean ====
section
/-!
SUPPORT. What each operation of StepEdge keeps.
-/

namespace Sys2Proof.Machine

variable {w : Nat} {s₀ : State}

theorem State.outArmFrom_touch (hw : 536871689 ||| w = w) : ∀ s i least, Touch w s₀ s → Touch w s₀ (State.outArmFrom s i least) := by
  intro s i least h; unfold State.outArmFrom; try dsimp only
  repeat' with_reducible first
    | exact h
    | exact Touch.refl _ _
    | refine State.slotDisarm_touch (sub_trans (by decide) hw) _ _ ?_
    | refine State.slotArmBound_touch (sub_trans (by decide) hw) _ _ _ _ _ _ ?_
    | (apply touch_ite_then; on_goal 1 => solve | (repeat' first | exact Touch.refl _ _ | refine State.slotDisarm_touch (sub_trans (by decide) hw) _ _ ?_ | refine State.slotArmBound_touch (sub_trans (by decide) hw) _ _ _ _ _ _ ?_ | apply touch_foldl))
    | (apply touch_ite_else; on_goal 1 => solve | (repeat' first | exact Touch.refl _ _ | refine State.slotDisarm_touch (sub_trans (by decide) hw) _ _ ?_ | refine State.slotArmBound_touch (sub_trans (by decide) hw) _ _ _ _ _ _ ?_ | apply touch_foldl))
    | apply touch_ite

theorem State.outArm_touch (hw : 536871689 ||| w = w) : ∀ s i, Touch w s₀ s → Touch w s₀ (State.outArm s i) := by
  intro s i h; unfold State.outArm; try dsimp only
  repeat' with_reducible first
    | exact h
    | exact Touch.refl _ _
    | refine State.outArmFrom_touch (sub_trans (by decide) hw) _ _ _ ?_

theorem State.stepPort_touch (hw : 536883713 ||| w = w) : ∀ s d n, Touch w s₀ s → Touch w s₀ (State.stepPort s d n) := by
  intro s d n h; unfold State.stepPort; try dsimp only
  repeat' with_reducible first
    | exact h
    | exact Touch.refl _ _
    | refine State.dropStep_touch (sub_trans (by decide) hw) _ _ ?_
    | refine State.updCal_touch (sub_trans (by decide) hw) _ _ _ ?_
    | refine State.bump_touch (sub_trans (by decide) hw) _ _ _ ?_
    | refine State.updPort_touch (sub_trans (by decide) hw) _ _ _ ?_
    | apply touch_foldl
    | (intro _ _ _ k; try dsimp only)
    | (intro _ _; try dsimp only)

theorem State.stepStamps_touch (hw : 10256640 ||| w = w) : ∀ s d, Touch w s₀ s → Touch w s₀ (State.stepStamps s d) := by
  intro s d h; unfold State.stepStamps; try dsimp only
  repeat' with_reducible first
    | exact h
    | exact Touch.refl _ _
    | fail_if_no_progress refine touch_cfg_cls_srv_rt_ptp_clk (sub_trans (by decide) hw) ?_

theorem State.stepClients_touch (hw : 1048576 ||| w = w) : ∀ s d, Touch w s₀ s → Touch w s₀ (State.stepClients s d) := by
  intro s d h; unfold State.stepClients; try dsimp only
  repeat' with_reducible first
    | exact h
    | exact Touch.refl _ _
    | refine State.clForget_touch (sub_trans (by decide) hw) _ _ ?_
    | refine State.updClient_touch (sub_trans (by decide) hw) _ _ _ ?_
    | apply touch_foldl
    | (intro _ _ _ k; try dsimp only)
    | (intro _ _; try dsimp only)

theorem State.stepRefs_touch (hw : 12582912 ||| w = w) : ∀ s d, Touch w s₀ s → Touch w s₀ (State.stepRefs s d) := by
  intro s d h; unfold State.stepRefs; try dsimp only
  repeat' with_reducible first
    | exact h
    | exact Touch.refl _ _
    | refine State.updMon_touch (sub_trans (by decide) hw) _ _ _ ?_
    | fail_if_no_progress refine touch_clk (sub_trans (by decide) hw) ?_
    | apply touch_ite
    | apply touch_foldl
    | (intro _ _ _ k; try dsimp only)
    | (intro _ _; try dsimp only)

theorem State.stepGnss_touch (hw : 16777216 ||| w = w) : ∀ s d, Touch w s₀ s → Touch w s₀ (State.stepGnss s d) := by
  intro s d h; unfold State.stepGnss; try dsimp only
  repeat' with_reducible first
    | exact h
    | exact Touch.refl _ _
    | fail_if_no_progress refine touch_gns (sub_trans (by decide) hw) ?_

theorem State.stepSlew_touch (hw : 612368905 ||| w = w) : ∀ s d, Touch w s₀ s → Touch w s₀ (State.stepSlew s d) := by
  intro s d h; unfold State.stepSlew; try dsimp only
  repeat' with_reducible first
    | exact h
    | exact Touch.refl _ _
    | refine State.evlJump_touch (sub_trans (by decide) hw) _ _ ?_
    | refine State.raise_touch (sub_trans (by decide) hw) _ _ ?_
    | fail_if_no_progress refine touch_clk (sub_trans (by decide) hw) ?_
    | (apply touch_ite_then; on_goal 1 => solve | (repeat' first | exact Touch.refl _ _ | refine State.evlJump_touch (sub_trans (by decide) hw) _ _ ?_ | refine State.raise_touch (sub_trans (by decide) hw) _ _ ?_ | fail_if_no_progress refine touch_clk (sub_trans (by decide) hw) ?_ | apply touch_foldl))
    | (apply touch_ite_else; on_goal 1 => solve | (repeat' first | exact Touch.refl _ _ | refine State.evlJump_touch (sub_trans (by decide) hw) _ _ ?_ | refine State.raise_touch (sub_trans (by decide) hw) _ _ ?_ | fail_if_no_progress refine touch_clk (sub_trans (by decide) hw) ?_ | apply touch_foldl))
    | apply touch_ite

theorem State.dtStep_touch (hw : 939307929 ||| w = w) : ∀ s d, Touch w s₀ s → Touch w s₀ (State.dtStep s d) := by
  intro s d h; unfold State.dtStep; try dsimp only
  repeat' with_reducible first
    | exact h
    | exact Touch.refl _ _
    | refine State.wr64_touch (sub_trans (by decide) hw) _ _ _ ?_
    | refine State.wr_touch (sub_trans (by decide) hw) _ _ _ ?_
    | refine State.raise_touch (sub_trans (by decide) hw) _ _ ?_
    | refine State.stepPort_touch (sub_trans (by decide) hw) _ _ _ ?_
    | refine State.carafeStep_touch (sub_trans (by decide) hw) _ ?_
    | refine State.stepStamps_touch (sub_trans (by decide) hw) _ _ ?_
    | refine State.bump_touch (sub_trans (by decide) hw) _ _ _ ?_
    | refine State.stepGnss_touch (sub_trans (by decide) hw) _ _ ?_
    | refine State.stepRefs_touch (sub_trans (by decide) hw) _ _ ?_
    | refine State.stepClients_touch (sub_trans (by decide) hw) _ _ ?_
    | refine State.stepSlew_touch (sub_trans (by decide) hw) _ _ ?_
    | refine State.slotStep_touch (sub_trans (by decide) hw) _ _ _ _ ?_
    | refine State.timStep_touch (sub_trans (by decide) hw) _ _ ?_
    | refine State.leapFrozen_touch (sub_trans (by decide) hw) _ ?_
    | refine State.leapSync_touch (sub_trans (by decide) hw) _ ?_
    | refine State.closeArm_touch (sub_trans (by decide) hw) _ _ _ ?_
    | refine State.syncArm_touch (sub_trans (by decide) hw) _ _ _ ?_
    | refine State.outArm_touch (sub_trans (by decide) hw) _ _ ?_
    | refine State.timeStateChange_touch (sub_trans (by decide) hw) _ ?_
    | refine State.deleReissue_touch (sub_trans (by decide) hw) _ ?_
    | fail_if_no_progress refine touch_time (sub_trans (by decide) hw) ?_
    | apply touch_foldl
    | (intro _ _ _ k; try dsimp only)
    | (intro _ _; try dsimp only)

end Sys2Proof.Machine
end

