-- ==== Sys2Proof/Laws/Keeps/ClockOps.lean ====
section
/-!
SUPPORT. What each operation of ClockOps keeps.
-/

namespace Sys2Proof.Machine

variable {w : Nat} {s₀ : State}

theorem State.updD_touch (hw : 8388608 ||| w = w) : ∀ s f, Touch w s₀ s → Touch w s₀ (State.updD s f) := by
  intro s f h; unfold State.updD; try dsimp only
  repeat' with_reducible first
    | exact h
    | exact Touch.refl _ _
    | fail_if_no_progress refine touch_clk (sub_trans (by decide) hw) ?_

theorem State.setWord_touch (hw : 8 ||| w = w) : ∀ s f, Touch w s₀ s → Touch w s₀ (State.setWord s f) := by
  intro s f h; unfold State.setWord; try dsimp only
  repeat' with_reducible first
    | exact h
    | exact Touch.refl _ _
    | fail_if_no_progress refine touch_time (sub_trans (by decide) hw) ?_

theorem State.dcoUpdate_touch (hw : 545260041 ||| w = w) : ∀ s, Touch w s₀ s → Touch w s₀ (State.dcoUpdate s) := by
  intro s h; unfold State.dcoUpdate; try dsimp only
  repeat' with_reducible first
    | exact h
    | exact Touch.refl _ _
    | refine State.setWord_touch (sub_trans (by decide) hw) _ _ ?_
    | refine State.updD_touch (sub_trans (by decide) hw) _ _ ?_
    | refine State.raise_touch (sub_trans (by decide) hw) _ _ ?_
    | (apply touch_ite_then; on_goal 1 => solve | (repeat' first | exact Touch.refl _ _ | refine State.setWord_touch (sub_trans (by decide) hw) _ _ ?_ | refine State.updD_touch (sub_trans (by decide) hw) _ _ ?_ | refine State.raise_touch (sub_trans (by decide) hw) _ _ ?_ | apply touch_foldl))
    | (apply touch_ite_else; on_goal 1 => solve | (repeat' first | exact Touch.refl _ _ | refine State.setWord_touch (sub_trans (by decide) hw) _ _ ?_ | refine State.updD_touch (sub_trans (by decide) hw) _ _ ?_ | refine State.raise_touch (sub_trans (by decide) hw) _ _ ?_ | apply touch_foldl))
    | apply touch_ite
    | apply touch_foldl
    | refine touch_snd (by assumption) ?_
    | (intro _; try dsimp only)
    | assumption
    | split

theorem State.segStart_touch (hw : 8388608 ||| w = w) : ∀ s x1, Touch w s₀ s → Touch w s₀ (State.segStart s x1) := by
  intro s x1 h; unfold State.segStart; try dsimp only
  repeat' with_reducible first
    | exact h
    | exact Touch.refl _ _
    | fail_if_no_progress refine touch_clk (sub_trans (by decide) hw) ?_
    | (apply touch_ite_then; on_goal 1 => solve | (repeat' first | exact Touch.refl _ _ | fail_if_no_progress refine touch_clk (sub_trans (by decide) hw) ?_ | apply touch_foldl))
    | (apply touch_ite_else; on_goal 1 => solve | (repeat' first | exact Touch.refl _ _ | fail_if_no_progress refine touch_clk (sub_trans (by decide) hw) ?_))

theorem State.eHoldUpdate_touch (hw : 8388608 ||| w = w) : ∀ s, Touch w s₀ s → Touch w s₀ (State.eHoldUpdate s) := by
  intro s h; unfold State.eHoldUpdate; try dsimp only
  repeat' with_reducible first
    | exact h
    | exact Touch.refl _ _
    | fail_if_no_progress refine touch_clk (sub_trans (by decide) hw) ?_
    | apply touch_foldl
    | refine touch_snd (by assumption) ?_
    | (intro _; try dsimp only)
    | assumption
    | split

theorem State.noteType_touch (hw : 8388608 ||| w = w) : ∀ s, Touch w s₀ s → Touch w s₀ (State.noteType s) := by
  intro s h; unfold State.noteType; try dsimp only
  repeat' with_reducible first
    | exact h
    | exact Touch.refl _ _
    | refine State.updD_touch (sub_trans (by decide) hw) _ _ ?_
    | (apply touch_ite_then; on_goal 1 => solve | (repeat' first | exact Touch.refl _ _ | refine State.updD_touch (sub_trans (by decide) hw) _ _ ?_ | apply touch_foldl))
    | (apply touch_ite_else; on_goal 1 => solve | (repeat' first | exact Touch.refl _ _ | refine State.updD_touch (sub_trans (by decide) hw) _ _ ?_ | apply touch_foldl))
    | apply touch_ite
    | apply touch_foldl
    | refine touch_snd (by assumption) ?_
    | (intro _; try dsimp only)
    | assumption
    | split

theorem State.noteSegment_touch (hw : 8388608 ||| w = w) : ∀ s, Touch w s₀ s → Touch w s₀ (State.noteSegment s) := by
  intro s h; unfold State.noteSegment; try dsimp only
  repeat' with_reducible first
    | exact h
    | exact Touch.refl _ _
    | refine State.segStart_touch (sub_trans (by decide) hw) _ _ ?_
    | fail_if_no_progress refine touch_clk (sub_trans (by decide) hw) ?_
    | (apply touch_ite_then; on_goal 1 => solve | (repeat' first | exact Touch.refl _ _ | refine State.segStart_touch (sub_trans (by decide) hw) _ _ ?_ | fail_if_no_progress refine touch_clk (sub_trans (by decide) hw) ?_ | apply touch_foldl))
    | (apply touch_ite_else; on_goal 1 => solve | (repeat' first | exact Touch.refl _ _ | refine State.segStart_touch (sub_trans (by decide) hw) _ _ ?_ | fail_if_no_progress refine touch_clk (sub_trans (by decide) hw) ?_ | apply touch_foldl))
    | apply touch_ite
    | apply touch_foldl
    | refine touch_snd (by assumption) ?_
    | (intro _; try dsimp only)
    | assumption
    | split

theorem State.dpllEnter_touch (hw : 580129409 ||| w = w) : ∀ s x, Touch w s₀ s → Touch w s₀ (State.dpllEnter s x) := by
  intro s x h; unfold State.dpllEnter; try dsimp only
  repeat' with_reducible first
    | exact h
    | exact Touch.refl _ _
    | refine State.noteType_touch (sub_trans (by decide) hw) _ ?_
    | refine State.updD_touch (sub_trans (by decide) hw) _ _ ?_
    | refine State.raise_touch (sub_trans (by decide) hw) _ _ ?_
    | refine State.timUnlocked_touch (sub_trans (by decide) hw) _ ?_
    | refine State.timLocked_touch (sub_trans (by decide) hw) _ ?_
    | refine State.timeStateChange_touch (sub_trans (by decide) hw) _ ?_
    | refine State.eHoldUpdate_touch (sub_trans (by decide) hw) _ ?_
    | refine State.noteSegment_touch (sub_trans (by decide) hw) _ ?_
    | (apply touch_ite_then; on_goal 1 => solve | (repeat' first | exact Touch.refl _ _ | refine State.noteType_touch (sub_trans (by decide) hw) _ ?_ | refine State.updD_touch (sub_trans (by decide) hw) _ _ ?_ | refine State.raise_touch (sub_trans (by decide) hw) _ _ ?_ | refine State.timUnlocked_touch (sub_trans (by decide) hw) _ ?_ | refine State.timLocked_touch (sub_trans (by decide) hw) _ ?_ | refine State.timeStateChange_touch (sub_trans (by decide) hw) _ ?_ | refine State.eHoldUpdate_touch (sub_trans (by decide) hw) _ ?_ | refine State.noteSegment_touch (sub_trans (by decide) hw) _ ?_ | apply touch_foldl))
    | (apply touch_ite_else; on_goal 1 => solve | (repeat' first | exact Touch.refl _ _ | refine State.noteType_touch (sub_trans (by decide) hw) _ ?_ | refine State.updD_touch (sub_trans (by decide) hw) _ _ ?_ | refine State.raise_touch (sub_trans (by decide) hw) _ _ ?_ | refine State.timUnlocked_touch (sub_trans (by decide) hw) _ ?_ | refine State.timLocked_touch (sub_trans (by decide) hw) _ ?_ | refine State.timeStateChange_touch (sub_trans (by decide) hw) _ ?_ | refine State.eHoldUpdate_touch (sub_trans (by decide) hw) _ ?_ | refine State.noteSegment_touch (sub_trans (by decide) hw) _ ?_ | apply touch_foldl))
    | apply touch_ite

theorem State.holdoverEnter_touch (hw : 580129417 ||| w = w) : ∀ s, Touch w s₀ s → Touch w s₀ (State.holdoverEnter s) := by
  intro s h; unfold State.holdoverEnter; try dsimp only
  repeat' with_reducible first
    | exact h
    | exact Touch.refl _ _
    | refine State.updD_touch (sub_trans (by decide) hw) _ _ ?_
    | refine State.dpllEnter_touch (sub_trans (by decide) hw) _ _ ?_
    | refine State.raise_touch (sub_trans (by decide) hw) _ _ ?_
    | refine State.dcoUpdate_touch (sub_trans (by decide) hw) _ ?_
    | (apply touch_ite_then; on_goal 1 => solve | (repeat' first | exact Touch.refl _ _ | refine State.updD_touch (sub_trans (by decide) hw) _ _ ?_ | refine State.dpllEnter_touch (sub_trans (by decide) hw) _ _ ?_ | refine State.raise_touch (sub_trans (by decide) hw) _ _ ?_ | refine State.dcoUpdate_touch (sub_trans (by decide) hw) _ ?_))

theorem State.dpllStep_touch (hw : 939307929 ||| w = w) : ∀ s, Touch w s₀ s → Touch w s₀ (State.dpllStep s) := by
  intro s h; unfold State.dpllStep; try dsimp only
  repeat' with_reducible first
    | exact h
    | exact Touch.refl _ _
    | refine State.advTo_touch (sub_trans (by decide) hw) _ _ ?_
    | refine State.dtStep_touch (sub_trans (by decide) hw) _ _ ?_
    | refine State.updD_touch (sub_trans (by decide) hw) _ _ ?_

theorem State.presetY_touch (hw : 8388608 ||| w = w) : ∀ s m, Touch w s₀ s → Touch w s₀ (State.presetY s m) := by
  intro s m h; unfold State.presetY; try dsimp only
  repeat' with_reducible first
    | exact h
    | exact Touch.refl _ _
    | refine State.updD_touch (sub_trans (by decide) hw) _ _ ?_

theorem State.loopUpdate_touch (hw : 8388608 ||| w = w) : ∀ s m eps per, Touch w s₀ s → Touch w s₀ (State.loopUpdate s m eps per) := by
  intro s m eps per h; unfold State.loopUpdate; try dsimp only
  repeat' with_reducible first
    | exact h
    | exact Touch.refl _ _
    | refine State.updD_touch (sub_trans (by decide) hw) _ _ ?_

theorem State.dpllJudge_touch (hw : 580129409 ||| w = w) : ∀ s good bad, Touch w s₀ s → Touch w s₀ (State.dpllJudge s good bad) := by
  intro s good bad h; unfold State.dpllJudge; try dsimp only
  repeat' with_reducible first
    | exact h
    | exact Touch.refl _ _
    | refine State.updD_touch (sub_trans (by decide) hw) _ _ ?_
    | refine State.dpllEnter_touch (sub_trans (by decide) hw) _ _ ?_
    | (apply touch_ite_then; on_goal 1 => solve | (repeat' first | exact Touch.refl _ _ | refine State.updD_touch (sub_trans (by decide) hw) _ _ ?_ | refine State.dpllEnter_touch (sub_trans (by decide) hw) _ _ ?_ | apply touch_foldl))
    | (apply touch_ite_else; on_goal 1 => solve | (repeat' first | exact Touch.refl _ _ | refine State.updD_touch (sub_trans (by decide) hw) _ _ ?_ | refine State.dpllEnter_touch (sub_trans (by decide) hw) _ _ ?_ | apply touch_foldl))
    | apply touch_ite
    | apply touch_foldl
    | refine touch_snd (by assumption) ?_
    | (intro _; try dsimp only)
    | assumption
    | split

theorem State.noteE_touch (hw : 8388608 ||| w = w) : ∀ s e, Touch w s₀ s → Touch w s₀ (State.noteE s e) := by
  intro s e h; unfold State.noteE; try dsimp only
  repeat' with_reducible first
    | exact h
    | exact Touch.refl _ _
    | fail_if_no_progress refine touch_clk (sub_trans (by decide) hw) ?_

theorem State.firstAlign_touch (hw : 939307929 ||| w = w) : ∀ s m, Touch w s₀ s → Touch w s₀ (State.firstAlign s m) := by
  intro s m h; unfold State.firstAlign; try dsimp only
  repeat' with_reducible first
    | exact h
    | exact Touch.refl _ _
    | refine State.presetY_touch (sub_trans (by decide) hw) _ _ ?_
    | refine State.dpllStep_touch (sub_trans (by decide) hw) _ ?_
    | refine State.updD_touch (sub_trans (by decide) hw) _ _ ?_
    | refine State.timeStateChange_touch (sub_trans (by decide) hw) _ ?_
    | refine State.eHoldUpdate_touch (sub_trans (by decide) hw) _ ?_
    | refine State.noteSegment_touch (sub_trans (by decide) hw) _ ?_
    | refine State.dpllEnter_touch (sub_trans (by decide) hw) _ _ ?_
    | refine State.dcoUpdate_touch (sub_trans (by decide) hw) _ ?_
    | fail_if_no_progress refine touch_time (sub_trans (by decide) hw) ?_
    | fail_if_no_progress refine touch_ref (sub_trans (by decide) hw) ?_
    | (apply touch_ite_then; on_goal 1 => solve | (repeat' first | exact Touch.refl _ _ | refine State.presetY_touch (sub_trans (by decide) hw) _ _ ?_ | refine State.dpllStep_touch (sub_trans (by decide) hw) _ ?_ | refine State.updD_touch (sub_trans (by decide) hw) _ _ ?_ | refine State.timeStateChange_touch (sub_trans (by decide) hw) _ ?_ | refine State.eHoldUpdate_touch (sub_trans (by decide) hw) _ ?_ | refine State.noteSegment_touch (sub_trans (by decide) hw) _ ?_ | refine State.dpllEnter_touch (sub_trans (by decide) hw) _ _ ?_ | refine State.dcoUpdate_touch (sub_trans (by decide) hw) _ ?_ | fail_if_no_progress refine touch_time (sub_trans (by decide) hw) ?_ | fail_if_no_progress refine touch_ref (sub_trans (by decide) hw) ?_ | apply touch_foldl))
    | (apply touch_ite_else; on_goal 1 => solve | (repeat' first | exact Touch.refl _ _ | refine State.presetY_touch (sub_trans (by decide) hw) _ _ ?_ | refine State.dpllStep_touch (sub_trans (by decide) hw) _ ?_ | refine State.updD_touch (sub_trans (by decide) hw) _ _ ?_ | refine State.timeStateChange_touch (sub_trans (by decide) hw) _ ?_ | refine State.eHoldUpdate_touch (sub_trans (by decide) hw) _ ?_ | refine State.noteSegment_touch (sub_trans (by decide) hw) _ ?_ | refine State.dpllEnter_touch (sub_trans (by decide) hw) _ _ ?_ | refine State.dcoUpdate_touch (sub_trans (by decide) hw) _ ?_ | fail_if_no_progress refine touch_time (sub_trans (by decide) hw) ?_ | fail_if_no_progress refine touch_ref (sub_trans (by decide) hw) ?_ | apply touch_foldl))
    | apply touch_ite

theorem State.stepRule_touch (hw : 939307929 ||| w = w) : ∀ s, Touch w s₀ s → Touch w s₀ (State.stepRule s) := by
  intro s h; unfold State.stepRule; try dsimp only
  repeat' with_reducible first
    | exact h
    | exact Touch.refl _ _
    | refine State.updD_touch (sub_trans (by decide) hw) _ _ ?_
    | refine State.dpllStep_touch (sub_trans (by decide) hw) _ ?_
    | refine State.raise_touch (sub_trans (by decide) hw) _ _ ?_
    | (apply touch_ite_then; on_goal 1 => solve | (repeat' first | exact Touch.refl _ _ | refine State.updD_touch (sub_trans (by decide) hw) _ _ ?_ | refine State.dpllStep_touch (sub_trans (by decide) hw) _ ?_ | refine State.raise_touch (sub_trans (by decide) hw) _ _ ?_ | apply touch_foldl))
    | (apply touch_ite_else; on_goal 1 => solve | (repeat' first | exact Touch.refl _ _ | refine State.updD_touch (sub_trans (by decide) hw) _ _ ?_ | refine State.dpllStep_touch (sub_trans (by decide) hw) _ ?_ | refine State.raise_touch (sub_trans (by decide) hw) _ _ ?_ | apply touch_foldl))
    | apply touch_ite

theorem State.phaseSample_touch (hw : 939307929 ||| w = w) : ∀ s m e, Touch w s₀ s → Touch w s₀ (State.phaseSample s m e) := by
  intro s m e h; unfold State.phaseSample; try dsimp only
  repeat' with_reducible first
    | exact h
    | exact Touch.refl _ _
    | refine State.noteE_touch (sub_trans (by decide) hw) _ _ ?_
    | refine State.updD_touch (sub_trans (by decide) hw) _ _ ?_
    | refine State.firstAlign_touch (sub_trans (by decide) hw) _ _ ?_
    | refine State.dcoUpdate_touch (sub_trans (by decide) hw) _ ?_
    | refine State.stepRule_touch (sub_trans (by decide) hw) _ ?_
    | refine State.loopUpdate_touch (sub_trans (by decide) hw) _ _ _ _ ?_
    | refine State.dpllJudge_touch (sub_trans (by decide) hw) _ _ _ ?_
    | (apply touch_ite_then; on_goal 1 => solve | (repeat' first | exact Touch.refl _ _ | refine State.noteE_touch (sub_trans (by decide) hw) _ _ ?_ | refine State.updD_touch (sub_trans (by decide) hw) _ _ ?_ | refine State.firstAlign_touch (sub_trans (by decide) hw) _ _ ?_ | refine State.dcoUpdate_touch (sub_trans (by decide) hw) _ ?_ | refine State.stepRule_touch (sub_trans (by decide) hw) _ ?_ | refine State.loopUpdate_touch (sub_trans (by decide) hw) _ _ _ _ ?_ | refine State.dpllJudge_touch (sub_trans (by decide) hw) _ _ _ ?_ | apply touch_foldl))
    | (apply touch_ite_else; on_goal 1 => solve | (repeat' first | exact Touch.refl _ _ | refine State.noteE_touch (sub_trans (by decide) hw) _ _ ?_ | refine State.updD_touch (sub_trans (by decide) hw) _ _ ?_ | refine State.firstAlign_touch (sub_trans (by decide) hw) _ _ ?_ | refine State.dcoUpdate_touch (sub_trans (by decide) hw) _ ?_ | refine State.stepRule_touch (sub_trans (by decide) hw) _ ?_ | refine State.loopUpdate_touch (sub_trans (by decide) hw) _ _ _ _ ?_ | refine State.dpllJudge_touch (sub_trans (by decide) hw) _ _ _ ?_ | apply touch_foldl))
    | apply touch_ite

theorem State.freqSample_touch (hw : 545260041 ||| w = w) : ∀ s m p, Touch w s₀ s → Touch w s₀ (State.freqSample s m p) := by
  intro s m p h; unfold State.freqSample; try dsimp only
  repeat' with_reducible first
    | exact h
    | exact Touch.refl _ _
    | refine State.updD_touch (sub_trans (by decide) hw) _ _ ?_
    | refine State.dcoUpdate_touch (sub_trans (by decide) hw) _ ?_
    | refine State.loopUpdate_touch (sub_trans (by decide) hw) _ _ _ _ ?_
    | refine State.noteE_touch (sub_trans (by decide) hw) _ _ ?_

theorem State.freqSecond_touch (hw : 580129409 ||| w = w) : ∀ s m, Touch w s₀ s → Touch w s₀ (State.freqSecond s m) := by
  intro s m h; unfold State.freqSecond; try dsimp only
  repeat' with_reducible first
    | exact h
    | exact Touch.refl _ _
    | refine State.dpllJudge_touch (sub_trans (by decide) hw) _ _ _ ?_
    | (apply touch_ite_then; on_goal 1 => solve | (repeat' first | exact Touch.refl _ _ | refine State.dpllJudge_touch (sub_trans (by decide) hw) _ _ _ ?_))

theorem State.dpllSelect_touch (hw : 580129417 ||| w = w) : ∀ s m, Touch w s₀ s → Touch w s₀ (State.dpllSelect s m) := by
  intro s m h; unfold State.dpllSelect; try dsimp only
  repeat' with_reducible first
    | exact h
    | exact Touch.refl _ _
    | refine State.updD_touch (sub_trans (by decide) hw) _ _ ?_
    | refine State.holdoverEnter_touch (sub_trans (by decide) hw) _ ?_
    | refine State.presetY_touch (sub_trans (by decide) hw) _ _ ?_
    | refine State.dcoUpdate_touch (sub_trans (by decide) hw) _ ?_
    | refine State.dpllEnter_touch (sub_trans (by decide) hw) _ _ ?_
    | refine State.noteType_touch (sub_trans (by decide) hw) _ ?_
    | refine State.timeStateChange_touch (sub_trans (by decide) hw) _ ?_
    | refine State.eHoldUpdate_touch (sub_trans (by decide) hw) _ ?_
    | refine State.noteSegment_touch (sub_trans (by decide) hw) _ ?_
    | (apply touch_ite_then; on_goal 1 => solve | (repeat' first | exact Touch.refl _ _ | refine State.updD_touch (sub_trans (by decide) hw) _ _ ?_ | refine State.holdoverEnter_touch (sub_trans (by decide) hw) _ ?_ | refine State.presetY_touch (sub_trans (by decide) hw) _ _ ?_ | refine State.dcoUpdate_touch (sub_trans (by decide) hw) _ ?_ | refine State.dpllEnter_touch (sub_trans (by decide) hw) _ _ ?_ | refine State.noteType_touch (sub_trans (by decide) hw) _ ?_ | refine State.timeStateChange_touch (sub_trans (by decide) hw) _ ?_ | refine State.eHoldUpdate_touch (sub_trans (by decide) hw) _ ?_ | refine State.noteSegment_touch (sub_trans (by decide) hw) _ ?_ | apply touch_foldl))
    | (apply touch_ite_else; on_goal 1 => solve | (repeat' first | exact Touch.refl _ _ | refine State.updD_touch (sub_trans (by decide) hw) _ _ ?_ | refine State.holdoverEnter_touch (sub_trans (by decide) hw) _ ?_ | refine State.presetY_touch (sub_trans (by decide) hw) _ _ ?_ | refine State.dcoUpdate_touch (sub_trans (by decide) hw) _ ?_ | refine State.dpllEnter_touch (sub_trans (by decide) hw) _ _ ?_ | refine State.noteType_touch (sub_trans (by decide) hw) _ ?_ | refine State.timeStateChange_touch (sub_trans (by decide) hw) _ ?_ | refine State.eHoldUpdate_touch (sub_trans (by decide) hw) _ ?_ | refine State.noteSegment_touch (sub_trans (by decide) hw) _ ?_ | apply touch_foldl))
    | apply touch_ite
    | apply touch_foldl
    | refine touch_snd (by assumption) ?_
    | (intro _; try dsimp only)
    | assumption
    | split

theorem State.outclkSync_touch (hw : 8388608 ||| w = w) : ∀ s x1, Touch w s₀ s → Touch w s₀ (State.outclkSync s x1) := by
  intro s x1 h; unfold State.outclkSync; try dsimp only
  repeat' with_reducible first
    | exact h
    | exact Touch.refl _ _
    | fail_if_no_progress refine touch_clk (sub_trans (by decide) hw) ?_

theorem State.dpllxSync_touch (hw : 813695489 ||| w = w) : ∀ s x, Touch w s₀ s → Touch w s₀ (State.dpllxSync s x) := by
  intro s x h; unfold State.dpllxSync; try dsimp only
  repeat' with_reducible first
    | exact h
    | exact Touch.refl _ _
    | refine State.free_touch (sub_trans (by decide) hw) _ ?_
    | refine State.updDpllx_touch (sub_trans (by decide) hw) _ _ _ ?_
    | refine State.raise_touch (sub_trans (by decide) hw) _ _ ?_
    | (apply touch_ite_then; on_goal 1 => solve | (repeat' first | exact Touch.refl _ _ | refine State.free_touch (sub_trans (by decide) hw) _ ?_ | refine State.updDpllx_touch (sub_trans (by decide) hw) _ _ _ ?_ | refine State.raise_touch (sub_trans (by decide) hw) _ _ ?_ | apply touch_foldl))
    | (apply touch_ite_else; on_goal 1 => solve | (repeat' first | exact Touch.refl _ _ | refine State.free_touch (sub_trans (by decide) hw) _ ?_ | refine State.updDpllx_touch (sub_trans (by decide) hw) _ _ _ ?_ | refine State.raise_touch (sub_trans (by decide) hw) _ _ ?_))
    | apply touch_ite
    | apply touch_foldl
    | refine touch_snd (by assumption) ?_
    | (intro _; try dsimp only)
    | assumption
    | split

end Sys2Proof.Machine
end

