-- ==== Sys2Proof/Laws/Keeps/Ref.lean ====
section
/-!
SUPPORT. What each operation of Ref keeps.
-/

namespace Sys2Proof.Machine

variable {w : Nat} {s₀ : State}

theorem State.refChanged_touch (hw : 4194304 ||| w = w) : ∀ s, Touch w s₀ s → Touch w s₀ (State.refChanged s) := by
  intro s h; unfold State.refChanged; try dsimp only
  repeat' with_reducible first
    | exact h
    | exact Touch.refl _ _
    | fail_if_no_progress refine touch_ref (sub_trans (by decide) hw) ?_

theorem State.wtrSync_touch (hw : 4194304 ||| w = w) : ∀ s m, Touch w s₀ s → Touch w s₀ (State.wtrSync s m) := by
  intro s m h; unfold State.wtrSync; try dsimp only
  repeat' with_reducible first
    | exact h
    | exact Touch.refl _ _
    | refine State.updMon_touch (sub_trans (by decide) hw) _ _ _ ?_
    | (apply touch_ite_then; on_goal 1 => solve | (repeat' first | exact Touch.refl _ _ | refine State.updMon_touch (sub_trans (by decide) hw) _ _ _ ?_ | apply touch_foldl))
    | (apply touch_ite_else; on_goal 1 => solve | (repeat' first | exact Touch.refl _ _ | refine State.updMon_touch (sub_trans (by decide) hw) _ _ _ ?_ | apply touch_foldl))
    | apply touch_ite
    | apply touch_foldl
    | refine touch_snd (by assumption) ?_
    | (intro _; try dsimp only)
    | assumption
    | split

theorem State.monEval_touch (hw : 541065729 ||| w = w) : ∀ s m, Touch w s₀ s → Touch w s₀ (State.monEval s m) := by
  intro s m h; unfold State.monEval; try dsimp only
  repeat' with_reducible first
    | exact h
    | exact Touch.refl _ _
    | refine State.updMon_touch (sub_trans (by decide) hw) _ _ _ ?_
    | refine State.raise_touch (sub_trans (by decide) hw) _ _ ?_
    | refine State.wr_touch (sub_trans (by decide) hw) _ _ _ ?_
    | refine State.bump_touch (sub_trans (by decide) hw) _ _ _ ?_
    | refine State.refChanged_touch (sub_trans (by decide) hw) _ ?_
    | refine State.wtrSync_touch (sub_trans (by decide) hw) _ _ ?_
    | (apply touch_ite_then; on_goal 1 => solve | (repeat' first | exact Touch.refl _ _ | refine State.updMon_touch (sub_trans (by decide) hw) _ _ _ ?_ | refine State.raise_touch (sub_trans (by decide) hw) _ _ ?_ | refine State.wr_touch (sub_trans (by decide) hw) _ _ _ ?_ | refine State.bump_touch (sub_trans (by decide) hw) _ _ _ ?_ | refine State.refChanged_touch (sub_trans (by decide) hw) _ ?_ | refine State.wtrSync_touch (sub_trans (by decide) hw) _ _ ?_ | apply touch_foldl))
    | (apply touch_ite_else; on_goal 1 => solve | (repeat' first | exact Touch.refl _ _ | refine State.updMon_touch (sub_trans (by decide) hw) _ _ _ ?_ | refine State.raise_touch (sub_trans (by decide) hw) _ _ ?_ | refine State.wr_touch (sub_trans (by decide) hw) _ _ _ ?_ | refine State.bump_touch (sub_trans (by decide) hw) _ _ _ ?_ | refine State.refChanged_touch (sub_trans (by decide) hw) _ ?_ | refine State.wtrSync_touch (sub_trans (by decide) hw) _ _ ?_ | apply touch_foldl))
    | apply touch_ite
    | apply touch_foldl
    | refine touch_snd (by assumption) ?_
    | (intro _; try dsimp only)
    | assumption
    | split

theorem State.monFail_touch (hw : 541065729 ||| w = w) : ∀ s m x ev, Touch w s₀ s → Touch w s₀ (State.monFail s m x ev) := by
  intro s m x ev h; unfold State.monFail; try dsimp only
  repeat' with_reducible first
    | exact h
    | exact Touch.refl _ _
    | refine State.monEval_touch (sub_trans (by decide) hw) _ _ ?_
    | refine State.raise_touch (sub_trans (by decide) hw) _ _ ?_
    | (apply touch_ite_then; on_goal 1 => solve | (repeat' first | exact Touch.refl _ _ | refine State.monEval_touch (sub_trans (by decide) hw) _ _ ?_ | refine State.raise_touch (sub_trans (by decide) hw) _ _ ?_ | apply touch_foldl))
    | (apply touch_ite_else; on_goal 1 => solve | (repeat' first | exact Touch.refl _ _ | refine State.monEval_touch (sub_trans (by decide) hw) _ _ ?_ | refine State.raise_touch (sub_trans (by decide) hw) _ _ ?_))

theorem State.monLost_touch (hw : 541065729 ||| w = w) : ∀ s m, Touch w s₀ s → Touch w s₀ (State.monLost s m) := by
  intro s m h; unfold State.monLost; try dsimp only
  repeat' with_reducible first
    | exact h
    | exact Touch.refl _ _
    | refine State.monEval_touch (sub_trans (by decide) hw) _ _ ?_
    | refine State.updMon_touch (sub_trans (by decide) hw) _ _ _ ?_
    | (apply touch_ite_then; on_goal 1 => solve | (repeat' first | exact Touch.refl _ _ | refine State.monEval_touch (sub_trans (by decide) hw) _ _ ?_ | refine State.updMon_touch (sub_trans (by decide) hw) _ _ _ ?_ | apply touch_foldl))
    | (apply touch_ite_else; on_goal 1 => solve | (repeat' first | exact Touch.refl _ _ | refine State.monEval_touch (sub_trans (by decide) hw) _ _ ?_ | refine State.updMon_touch (sub_trans (by decide) hw) _ _ _ ?_))

theorem State.monBack_touch (hw : 541065729 ||| w = w) : ∀ s m, Touch w s₀ s → Touch w s₀ (State.monBack s m) := by
  intro s m h; unfold State.monBack; try dsimp only
  repeat' with_reducible first
    | exact h
    | exact Touch.refl _ _
    | refine State.monEval_touch (sub_trans (by decide) hw) _ _ ?_
    | refine State.updMon_touch (sub_trans (by decide) hw) _ _ _ ?_
    | (apply touch_ite_then; on_goal 1 => solve | (repeat' first | exact Touch.refl _ _ | refine State.monEval_touch (sub_trans (by decide) hw) _ _ ?_ | refine State.updMon_touch (sub_trans (by decide) hw) _ _ _ ?_ | apply touch_foldl))
    | (apply touch_ite_else; on_goal 1 => solve | (repeat' first | exact Touch.refl _ _ | refine State.monEval_touch (sub_trans (by decide) hw) _ _ ?_ | refine State.updMon_touch (sub_trans (by decide) hw) _ _ _ ?_))

theorem State.monFreq_touch (hw : 541065729 ||| w = w) : ∀ s m df full, Touch w s₀ s → Touch w s₀ (State.monFreq s m df full) := by
  intro s m df full h; unfold State.monFreq; try dsimp only
  repeat' with_reducible first
    | exact h
    | exact Touch.refl _ _
    | refine State.updMon_touch (sub_trans (by decide) hw) _ _ _ ?_
    | refine State.monEval_touch (sub_trans (by decide) hw) _ _ ?_
    | (apply touch_ite_then; on_goal 1 => solve | (repeat' first | exact Touch.refl _ _ | refine State.updMon_touch (sub_trans (by decide) hw) _ _ _ ?_ | refine State.monEval_touch (sub_trans (by decide) hw) _ _ ?_ | apply touch_foldl))
    | (apply touch_ite_else; on_goal 1 => solve | (repeat' first | exact Touch.refl _ _ | refine State.updMon_touch (sub_trans (by decide) hw) _ _ _ ?_ | refine State.monEval_touch (sub_trans (by decide) hw) _ _ ?_))

theorem State.monSample_touch (hw : 549454337 ||| w = w) : ∀ s m tb o, Touch w s₀ s → Touch w s₀ (State.monSample s m tb o) := by
  intro s m tb o h; unfold State.monSample; try dsimp only
  repeat' with_reducible first
    | exact h
    | exact Touch.refl _ _
    | refine State.updMon_touch (sub_trans (by decide) hw) _ _ _ ?_
    | refine State.monFreq_touch (sub_trans (by decide) hw) _ _ _ _ ?_
    | refine State.updD_touch (sub_trans (by decide) hw) _ _ ?_
    | (apply touch_ite_then; on_goal 1 => solve | (repeat' first | exact Touch.refl _ _ | refine State.updMon_touch (sub_trans (by decide) hw) _ _ _ ?_ | refine State.monFreq_touch (sub_trans (by decide) hw) _ _ _ _ ?_ | refine State.updD_touch (sub_trans (by decide) hw) _ _ ?_))

theorem State.labelCheck_touch (hw : 541065729 ||| w = w) : ∀ s m lab tb, Touch w s₀ s → Touch w s₀ (State.labelCheck s m lab tb) := by
  intro s m lab tb h; unfold State.labelCheck; try dsimp only
  repeat' with_reducible first
    | exact h
    | exact Touch.refl _ _
    | refine State.updMon_touch (sub_trans (by decide) hw) _ _ _ ?_
    | refine State.monEval_touch (sub_trans (by decide) hw) _ _ ?_
    | refine State.monFail_touch (sub_trans (by decide) hw) _ _ _ _ ?_
    | (apply touch_ite_then; on_goal 1 => solve | (repeat' first | exact Touch.refl _ _ | refine State.updMon_touch (sub_trans (by decide) hw) _ _ _ ?_ | refine State.monEval_touch (sub_trans (by decide) hw) _ _ ?_ | refine State.monFail_touch (sub_trans (by decide) hw) _ _ _ _ ?_ | apply touch_foldl))
    | (apply touch_ite_else; on_goal 1 => solve | (repeat' first | exact Touch.refl _ _ | refine State.updMon_touch (sub_trans (by decide) hw) _ _ _ ?_ | refine State.monEval_touch (sub_trans (by decide) hw) _ _ ?_ | refine State.monFail_touch (sub_trans (by decide) hw) _ _ _ _ ?_ | apply touch_foldl))
    | apply touch_ite

theorem State.labelBroken_touch (hw : 541065729 ||| w = w) : ∀ s m, Touch w s₀ s → Touch w s₀ (State.labelBroken s m) := by
  intro s m h; unfold State.labelBroken; try dsimp only
  repeat' with_reducible first
    | exact h
    | exact Touch.refl _ _
    | refine State.updMon_touch (sub_trans (by decide) hw) _ _ _ ?_
    | refine State.monFail_touch (sub_trans (by decide) hw) _ _ _ _ ?_
    | (apply touch_ite_then; on_goal 1 => solve | (repeat' first | exact Touch.refl _ _ | refine State.updMon_touch (sub_trans (by decide) hw) _ _ _ ?_ | refine State.monFail_touch (sub_trans (by decide) hw) _ _ _ _ ?_))

theorem State.monLack_touch (hw : 541065729 ||| w = w) : ∀ s m, Touch w s₀ s → Touch w s₀ (State.monLack s m) := by
  intro s m h; unfold State.monLack; try dsimp only
  repeat' with_reducible first
    | exact h
    | exact Touch.refl _ _
    | refine State.updMon_touch (sub_trans (by decide) hw) _ _ _ ?_
    | refine State.monLost_touch (sub_trans (by decide) hw) _ _ ?_
    | (apply touch_ite_then; on_goal 1 => solve | (repeat' first | exact Touch.refl _ _ | refine State.updMon_touch (sub_trans (by decide) hw) _ _ _ ?_ | refine State.monLost_touch (sub_trans (by decide) hw) _ _ ?_))

theorem State.phaseJump_touch (hw : 541065729 ||| w = w) : ∀ s m, Touch w s₀ s → Touch w s₀ (State.phaseJump s m) := by
  intro s m h; unfold State.phaseJump; try dsimp only
  repeat' with_reducible first
    | exact h
    | exact Touch.refl _ _
    | refine State.updMon_touch (sub_trans (by decide) hw) _ _ _ ?_
    | refine State.monFail_touch (sub_trans (by decide) hw) _ _ _ _ ?_
    | refine State.raise_touch (sub_trans (by decide) hw) _ _ ?_
    | (apply touch_ite_then; on_goal 1 => solve | (repeat' first | exact Touch.refl _ _ | refine State.updMon_touch (sub_trans (by decide) hw) _ _ _ ?_ | refine State.monFail_touch (sub_trans (by decide) hw) _ _ _ _ ?_ | refine State.raise_touch (sub_trans (by decide) hw) _ _ ?_ | apply touch_foldl))
    | (apply touch_ite_else; on_goal 1 => solve | (repeat' first | exact Touch.refl _ _ | refine State.updMon_touch (sub_trans (by decide) hw) _ _ _ ?_ | refine State.monFail_touch (sub_trans (by decide) hw) _ _ _ _ ?_ | refine State.raise_touch (sub_trans (by decide) hw) _ _ ?_ | apply touch_foldl))
    | apply touch_ite

theorem State.monCand_touch (hw : 541065729 ||| w = w) : ∀ s m tb, Touch w s₀ s → Touch w s₀ (State.monCand s m tb) := by
  intro s m tb h; unfold State.monCand; try dsimp only
  repeat' with_reducible first
    | exact h
    | exact Touch.refl _ _
    | refine State.updMon_touch (sub_trans (by decide) hw) _ _ _ ?_
    | refine State.monBack_touch (sub_trans (by decide) hw) _ _ ?_
    | (apply touch_ite_then; on_goal 1 => solve | (repeat' first | exact Touch.refl _ _ | refine State.updMon_touch (sub_trans (by decide) hw) _ _ _ ?_ | refine State.monBack_touch (sub_trans (by decide) hw) _ _ ?_ | apply touch_foldl))
    | (apply touch_ite_else; on_goal 1 => solve | (repeat' first | exact Touch.refl _ _ | refine State.updMon_touch (sub_trans (by decide) hw) _ _ _ ?_ | refine State.monBack_touch (sub_trans (by decide) hw) _ _ ?_ | apply touch_foldl))
    | apply touch_ite

theorem State.pulseAccept_touch (hw : 549454337 ||| w = w) : ∀ s m tb st lab, Touch w s₀ s → Touch w s₀ (State.pulseAccept s m tb st lab) := by
  intro s m tb st lab h; unfold State.pulseAccept; try dsimp only
  repeat' with_reducible first
    | exact h
    | exact Touch.refl _ _
    | refine State.updMon_touch (sub_trans (by decide) hw) _ _ _ ?_
    | refine State.monSample_touch (sub_trans (by decide) hw) _ _ _ _ ?_
    | refine State.labelCheck_touch (sub_trans (by decide) hw) _ _ _ _ ?_
    | refine State.monBack_touch (sub_trans (by decide) hw) _ _ ?_
    | refine State.monLack_touch (sub_trans (by decide) hw) _ _ ?_
    | refine State.monEval_touch (sub_trans (by decide) hw) _ _ ?_
    | (apply touch_ite_then; on_goal 1 => solve | (repeat' first | exact Touch.refl _ _ | refine State.updMon_touch (sub_trans (by decide) hw) _ _ _ ?_ | refine State.monSample_touch (sub_trans (by decide) hw) _ _ _ _ ?_ | refine State.labelCheck_touch (sub_trans (by decide) hw) _ _ _ _ ?_ | refine State.monBack_touch (sub_trans (by decide) hw) _ _ ?_ | refine State.monLack_touch (sub_trans (by decide) hw) _ _ ?_ | refine State.monEval_touch (sub_trans (by decide) hw) _ _ ?_ | apply touch_foldl))
    | (apply touch_ite_else; on_goal 1 => solve | (repeat' first | exact Touch.refl _ _ | refine State.updMon_touch (sub_trans (by decide) hw) _ _ _ ?_ | refine State.monSample_touch (sub_trans (by decide) hw) _ _ _ _ ?_ | refine State.labelCheck_touch (sub_trans (by decide) hw) _ _ _ _ ?_ | refine State.monBack_touch (sub_trans (by decide) hw) _ _ ?_ | refine State.monLack_touch (sub_trans (by decide) hw) _ _ ?_ | refine State.monEval_touch (sub_trans (by decide) hw) _ _ ?_ | apply touch_foldl))
    | apply touch_ite
    | apply touch_foldl
    | refine touch_snd (by assumption) ?_
    | (intro _; try dsimp only)
    | assumption
    | split

theorem State.pulse_touch (hw : 549454337 ||| w = w) : ∀ s m tb st lab, Touch w s₀ s → Touch w s₀ (State.pulse s m tb st lab) := by
  intro s m tb st lab h; unfold State.pulse; try dsimp only
  repeat' with_reducible first
    | exact h
    | exact Touch.refl _ _
    | refine State.monCand_touch (sub_trans (by decide) hw) _ _ _ ?_
    | refine State.pulseAccept_touch (sub_trans (by decide) hw) _ _ _ _ _ ?_
    | refine State.raiseLim_touch (sub_trans (by decide) hw) _ _ _ _ ?_
    | refine State.bump_touch (sub_trans (by decide) hw) _ _ _ ?_
    | refine State.updMon_touch (sub_trans (by decide) hw) _ _ _ ?_
    | refine State.phaseJump_touch (sub_trans (by decide) hw) _ _ ?_
    | (apply touch_ite_then; on_goal 1 => solve | (repeat' first | exact Touch.refl _ _ | refine State.monCand_touch (sub_trans (by decide) hw) _ _ _ ?_ | refine State.pulseAccept_touch (sub_trans (by decide) hw) _ _ _ _ _ ?_ | refine State.raiseLim_touch (sub_trans (by decide) hw) _ _ _ _ ?_ | refine State.bump_touch (sub_trans (by decide) hw) _ _ _ ?_ | refine State.updMon_touch (sub_trans (by decide) hw) _ _ _ ?_ | refine State.phaseJump_touch (sub_trans (by decide) hw) _ _ ?_ | apply touch_foldl))
    | (apply touch_ite_else; on_goal 1 => solve | (repeat' first | exact Touch.refl _ _ | refine State.monCand_touch (sub_trans (by decide) hw) _ _ _ ?_ | refine State.pulseAccept_touch (sub_trans (by decide) hw) _ _ _ _ _ ?_ | refine State.raiseLim_touch (sub_trans (by decide) hw) _ _ _ _ ?_ | refine State.bump_touch (sub_trans (by decide) hw) _ _ _ ?_ | refine State.updMon_touch (sub_trans (by decide) hw) _ _ _ ?_ | refine State.phaseJump_touch (sub_trans (by decide) hw) _ _ ?_ | apply touch_foldl))
    | apply touch_ite

theorem State.freqEdge_touch (hw : 4194304 ||| w = w) : ∀ s m tb more, Touch w s₀ s → Touch w s₀ (State.freqEdge s m tb more) := by
  intro s m tb more h; unfold State.freqEdge; try dsimp only
  repeat' with_reducible first
    | exact h
    | exact Touch.refl _ _
    | refine State.updMon_touch (sub_trans (by decide) hw) _ _ _ ?_

theorem execRefEdge_touch (hw : 549454473 ||| w = w) : ∀ input at25 run s, Touch w s₀ s → TouchR w s₀ (execRefEdge input at25 run s) := by
  intro input at25 run s h; unfold execRefEdge; try dsimp only
  repeat' with_reducible first
    | exact h
    | exact Touch.refl _ _
    | apply touchR_next
    | apply touchR_ite
    | refine State.advTo_touch (sub_trans (by decide) hw) _ _ ?_
    | refine State.freqEdge_touch (sub_trans (by decide) hw) _ _ _ _ ?_
    | refine State.pulse_touch (sub_trans (by decide) hw) _ _ _ _ _ ?_
    | fail_if_no_progress refine touch_serve (sub_trans (by decide) hw) ?_
    | (apply touch_ite_then; on_goal 1 => solve | (repeat' first | exact Touch.refl _ _ | refine State.advTo_touch (sub_trans (by decide) hw) _ _ ?_ | refine State.freqEdge_touch (sub_trans (by decide) hw) _ _ _ _ ?_ | refine State.pulse_touch (sub_trans (by decide) hw) _ _ _ _ _ ?_ | fail_if_no_progress refine touch_serve (sub_trans (by decide) hw) ?_))
    | apply touch_ite
    | apply touch_foldl
    | (intro _ _ _ k; try dsimp only)
    | (intro _ _; try dsimp only)

theorem State.pulseMissed_touch (hw : 541065729 ||| w = w) : ∀ s m, Touch w s₀ s → Touch w s₀ (State.pulseMissed s m) := by
  intro s m h; unfold State.pulseMissed; try dsimp only
  repeat' with_reducible first
    | exact h
    | exact Touch.refl _ _
    | refine State.updMon_touch (sub_trans (by decide) hw) _ _ _ ?_
    | refine State.phaseJump_touch (sub_trans (by decide) hw) _ _ ?_
    | refine State.monLack_touch (sub_trans (by decide) hw) _ _ ?_
    | refine State.monLost_touch (sub_trans (by decide) hw) _ _ ?_
    | (apply touch_ite_then; on_goal 1 => solve | (repeat' first | exact Touch.refl _ _ | refine State.updMon_touch (sub_trans (by decide) hw) _ _ _ ?_ | refine State.phaseJump_touch (sub_trans (by decide) hw) _ _ ?_ | refine State.monLack_touch (sub_trans (by decide) hw) _ _ ?_ | refine State.monLost_touch (sub_trans (by decide) hw) _ _ ?_ | apply touch_foldl))
    | (apply touch_ite_else; on_goal 1 => solve | (repeat' first | exact Touch.refl _ _ | refine State.updMon_touch (sub_trans (by decide) hw) _ _ _ ?_ | refine State.phaseJump_touch (sub_trans (by decide) hw) _ _ ?_ | refine State.monLack_touch (sub_trans (by decide) hw) _ _ ?_ | refine State.monLost_touch (sub_trans (by decide) hw) _ _ ?_ | apply touch_foldl))
    | apply touch_ite

theorem execPulseMissing_touch (hw : 541065737 ||| w = w) : ∀ m s, Touch w s₀ s → TouchR w s₀ (execPulseMissing m s) := by
  intro m s h; unfold execPulseMissing; try dsimp only
  repeat' with_reducible first
    | exact h
    | exact Touch.refl _ _
    | apply touchR_next
    | apply touchR_ite
    | refine State.pulseMissed_touch (sub_trans (by decide) hw) _ _ ?_
    | refine State.advTo_touch (sub_trans (by decide) hw) _ _ ?_
    | apply touch_ite
    | apply touch_foldl
    | refine touch_snd (by assumption) ?_
    | (intro _; try dsimp only)
    | assumption
    | split

theorem execActivityWindow_touch (hw : 541065729 ||| w = w) : ∀ m more s, Touch w s₀ s → TouchR w s₀ (execActivityWindow m more s) := by
  intro m more s h; unfold execActivityWindow; try dsimp only
  repeat' with_reducible first
    | exact h
    | exact Touch.refl _ _
    | apply touchR_next
    | apply touchR_ite
    | refine State.updMon_touch (sub_trans (by decide) hw) _ _ _ ?_
    | refine State.monBack_touch (sub_trans (by decide) hw) _ _ ?_
    | refine State.monLost_touch (sub_trans (by decide) hw) _ _ ?_
    | (apply touch_ite_then; on_goal 1 => solve | (repeat' first | exact Touch.refl _ _ | refine State.updMon_touch (sub_trans (by decide) hw) _ _ _ ?_ | refine State.monBack_touch (sub_trans (by decide) hw) _ _ ?_ | refine State.monLost_touch (sub_trans (by decide) hw) _ _ ?_))

theorem State.freqTake_touch (hw : 584323713 ||| w = w) : ∀ s m df, Touch w s₀ s → Touch w s₀ (State.freqTake s m df) := by
  intro s m df h; unfold State.freqTake; try dsimp only
  repeat' with_reducible first
    | exact h
    | exact Touch.refl _ _
    | refine State.updMon_touch (sub_trans (by decide) hw) _ _ _ ?_
    | refine State.freqSecond_touch (sub_trans (by decide) hw) _ _ ?_
    | refine State.monFreq_touch (sub_trans (by decide) hw) _ _ _ _ ?_

theorem execFreqCheck_touch (hw : 584323713 ||| w = w) : ∀ m df s, Touch w s₀ s → TouchR w s₀ (execFreqCheck m df s) := by
  intro m df s h; unfold execFreqCheck; try dsimp only
  repeat' with_reducible first
    | exact h
    | exact Touch.refl _ _
    | apply touchR_next
    | apply touchR_ite
    | refine State.freqTake_touch (sub_trans (by decide) hw) _ _ _ ?_
    | refine State.monFreq_touch (sub_trans (by decide) hw) _ _ _ _ ?_
    | apply touch_ite
    | apply touch_foldl
    | refine touch_snd (by assumption) ?_
    | (intro _; try dsimp only)
    | assumption
    | split

theorem State.todFrame_touch (hw : 549454337 ||| w = w) : ∀ s binary l, Touch w s₀ s → Touch w s₀ (State.todFrame s binary l) := by
  intro s binary l h; unfold State.todFrame; try dsimp only
  repeat' with_reducible first
    | exact h
    | exact Touch.refl _ _
    | refine State.labelBroken_touch (sub_trans (by decide) hw) _ _ ?_
    | refine State.wr64_touch (sub_trans (by decide) hw) _ _ _ ?_
    | refine State.updMon_touch (sub_trans (by decide) hw) _ _ _ ?_
    | refine State.monSample_touch (sub_trans (by decide) hw) _ _ _ _ ?_
    | refine State.labelCheck_touch (sub_trans (by decide) hw) _ _ _ _ ?_
    | refine State.monBack_touch (sub_trans (by decide) hw) _ _ ?_
    | refine State.monEval_touch (sub_trans (by decide) hw) _ _ ?_
    | (apply touch_ite_then; on_goal 1 => solve | (repeat' first | exact Touch.refl _ _ | refine State.labelBroken_touch (sub_trans (by decide) hw) _ _ ?_ | refine State.wr64_touch (sub_trans (by decide) hw) _ _ _ ?_ | refine State.updMon_touch (sub_trans (by decide) hw) _ _ _ ?_ | refine State.monSample_touch (sub_trans (by decide) hw) _ _ _ _ ?_ | refine State.labelCheck_touch (sub_trans (by decide) hw) _ _ _ _ ?_ | refine State.monBack_touch (sub_trans (by decide) hw) _ _ ?_ | refine State.monEval_touch (sub_trans (by decide) hw) _ _ ?_ | apply touch_foldl))
    | (apply touch_ite_else; on_goal 1 => solve | (repeat' first | exact Touch.refl _ _ | refine State.labelBroken_touch (sub_trans (by decide) hw) _ _ ?_ | refine State.wr64_touch (sub_trans (by decide) hw) _ _ _ ?_ | refine State.updMon_touch (sub_trans (by decide) hw) _ _ _ ?_ | refine State.monSample_touch (sub_trans (by decide) hw) _ _ _ _ ?_ | refine State.labelCheck_touch (sub_trans (by decide) hw) _ _ _ _ ?_ | refine State.monBack_touch (sub_trans (by decide) hw) _ _ ?_ | refine State.monEval_touch (sub_trans (by decide) hw) _ _ ?_ | apply touch_foldl))
    | apply touch_ite
    | apply touch_foldl
    | refine touch_snd (by assumption) ?_
    | (intro _; try dsimp only)
    | assumption
    | split

theorem execTodFrame_touch (hw : 549454337 ||| w = w) : ∀ cascade bytes s, Touch w s₀ s → TouchR w s₀ (execTodFrame cascade bytes s) := by
  intro cascade bytes s h; unfold execTodFrame; try dsimp only
  repeat' with_reducible first
    | exact h
    | exact Touch.refl _ _
    | apply touchR_next
    | apply touchR_ite
    | refine State.todFrame_touch (sub_trans (by decide) hw) _ _ _ ?_

theorem State.wtrDone_touch (hw : 541065729 ||| w = w) : ∀ s m, Touch w s₀ s → Touch w s₀ (State.wtrDone s m) := by
  intro s m h; unfold State.wtrDone; try dsimp only
  repeat' with_reducible first
    | exact h
    | exact Touch.refl _ _
    | refine State.refChanged_touch (sub_trans (by decide) hw) _ ?_
    | refine State.raise_touch (sub_trans (by decide) hw) _ _ ?_
    | refine State.updMon_touch (sub_trans (by decide) hw) _ _ _ ?_

theorem execWtrExpire_touch (hw : 541065737 ||| w = w) : ∀ m s, Touch w s₀ s → TouchR w s₀ (execWtrExpire m s) := by
  intro m s h; unfold execWtrExpire; try dsimp only
  repeat' with_reducible first
    | exact h
    | exact Touch.refl _ _
    | apply touchR_next
    | apply touchR_ite
    | refine State.wtrDone_touch (sub_trans (by decide) hw) _ _ ?_
    | refine State.advDt_touch (sub_trans (by decide) hw) _ _ ?_
    | apply touch_foldl
    | refine touch_snd (by assumption) ?_
    | (intro _; try dsimp only)
    | assumption
    | split

theorem State.clearWtr_touch (hw : 541065737 ||| w = w) : ∀ s by_ mask, Touch w s₀ s → Touch w s₀ (State.clearWtr s by_ mask) := by
  intro s by_ mask h; unfold State.clearWtr; try dsimp only
  repeat' with_reducible first
    | exact h
    | exact Touch.refl _ _
    | refine State.raise_touch (sub_trans (by decide) hw) _ _ ?_
    | refine State.advTo_touch (sub_trans (by decide) hw) _ _ ?_
    | refine State.wtrDone_touch (sub_trans (by decide) hw) _ _ ?_
    | (apply touch_ite_then; on_goal 1 => solve | (repeat' first | exact Touch.refl _ _ | refine State.raise_touch (sub_trans (by decide) hw) _ _ ?_ | refine State.advTo_touch (sub_trans (by decide) hw) _ _ ?_ | refine State.wtrDone_touch (sub_trans (by decide) hw) _ _ ?_ | apply touch_foldl))
    | (apply touch_ite_else; on_goal 1 => solve | (repeat' first | exact Touch.refl _ _ | refine State.raise_touch (sub_trans (by decide) hw) _ _ ?_ | refine State.advTo_touch (sub_trans (by decide) hw) _ _ ?_ | refine State.wtrDone_touch (sub_trans (by decide) hw) _ _ ?_ | apply touch_foldl | (intro _ _; try dsimp only)))
    | apply touch_ite
    | apply touch_foldl
    | (intro _ _ _ k; try dsimp only)
    | (intro _ _; try dsimp only)

theorem execClearWtr_touch (hw : 541065737 ||| w = w) : ∀ by_ mask s, Touch w s₀ s → TouchR w s₀ (execClearWtr by_ mask s) := by
  intro by_ mask s h; unfold execClearWtr; try dsimp only
  repeat' with_reducible first
    | exact h
    | exact Touch.refl _ _
    | apply touchR_next
    | apply touchR_ite
    | refine State.clearWtr_touch (sub_trans (by decide) hw) _ _ _ ?_

theorem State.outvote_touch (hw : 4194304 ||| w = w) : ∀ s m x2, Touch w s₀ s → Touch w s₀ (State.outvote s m x2) := by
  intro s m x2 h; unfold State.outvote; try dsimp only
  repeat' with_reducible first
    | exact h
    | exact Touch.refl _ _
    | refine State.updMon_touch (sub_trans (by decide) hw) _ _ _ ?_

theorem State.xRecover_touch (hw : 541065729 ||| w = w) : ∀ s m, Touch w s₀ s → Touch w s₀ (State.xRecover s m) := by
  intro s m h; unfold State.xRecover; try dsimp only
  repeat' with_reducible first
    | exact h
    | exact Touch.refl _ _
    | refine State.updMon_touch (sub_trans (by decide) hw) _ _ _ ?_
    | refine State.monEval_touch (sub_trans (by decide) hw) _ _ ?_
    | (apply touch_ite_then; on_goal 1 => solve | (repeat' first | exact Touch.refl _ _ | refine State.updMon_touch (sub_trans (by decide) hw) _ _ _ ?_ | refine State.monEval_touch (sub_trans (by decide) hw) _ _ ?_ | apply touch_foldl))
    | (apply touch_ite_else; on_goal 1 => solve | (repeat' first | exact Touch.refl _ _ | refine State.updMon_touch (sub_trans (by decide) hw) _ _ _ ?_ | refine State.monEval_touch (sub_trans (by decide) hw) _ _ ?_ | apply touch_foldl))
    | apply touch_ite

theorem execXcheck_touch (hw : 541065729 ||| w = w) : ∀ s, Touch w s₀ s → TouchR w s₀ (execXcheck s) := by
  intro s h; unfold execXcheck; try dsimp only
  repeat' with_reducible first
    | exact h
    | exact Touch.refl _ _
    | apply touchR_next
    | apply touchR_ite
    | refine State.xRecover_touch (sub_trans (by decide) hw) _ _ ?_
    | refine State.outvote_touch (sub_trans (by decide) hw) _ _ _ ?_
    | refine State.raise_touch (sub_trans (by decide) hw) _ _ ?_
    | refine State.refChanged_touch (sub_trans (by decide) hw) _ ?_
    | refine State.updMon_touch (sub_trans (by decide) hw) _ _ _ ?_
    | refine State.monEval_touch (sub_trans (by decide) hw) _ _ ?_
    | refine State.wtrSync_touch (sub_trans (by decide) hw) _ _ ?_
    | fail_if_no_progress refine touch_ref (sub_trans (by decide) hw) ?_
    | (apply touch_ite_then; on_goal 1 => solve | (repeat' first | exact Touch.refl _ _ | refine State.xRecover_touch (sub_trans (by decide) hw) _ _ ?_ | refine State.outvote_touch (sub_trans (by decide) hw) _ _ _ ?_ | refine State.raise_touch (sub_trans (by decide) hw) _ _ ?_ | refine State.refChanged_touch (sub_trans (by decide) hw) _ ?_ | refine State.updMon_touch (sub_trans (by decide) hw) _ _ _ ?_ | refine State.monEval_touch (sub_trans (by decide) hw) _ _ ?_ | refine State.wtrSync_touch (sub_trans (by decide) hw) _ _ ?_ | fail_if_no_progress refine touch_ref (sub_trans (by decide) hw) ?_ | apply touch_foldl))
    | (apply touch_ite_else; on_goal 1 => solve | (repeat' first | exact Touch.refl _ _ | refine State.xRecover_touch (sub_trans (by decide) hw) _ _ ?_ | refine State.outvote_touch (sub_trans (by decide) hw) _ _ _ ?_ | refine State.raise_touch (sub_trans (by decide) hw) _ _ ?_ | refine State.refChanged_touch (sub_trans (by decide) hw) _ ?_ | refine State.updMon_touch (sub_trans (by decide) hw) _ _ _ ?_ | refine State.monEval_touch (sub_trans (by decide) hw) _ _ ?_ | refine State.wtrSync_touch (sub_trans (by decide) hw) _ _ ?_ | fail_if_no_progress refine touch_ref (sub_trans (by decide) hw) ?_ | apply touch_foldl))
    | apply touch_ite
    | apply touch_foldl
    | (intro _ _ _ k; try dsimp only)
    | (intro _ _; try dsimp only)

theorem State.refSwitch_touch (hw : 584323721 ||| w = w) : ∀ s m why, Touch w s₀ s → Touch w s₀ (State.refSwitch s m why) := by
  intro s m why h; unfold State.refSwitch; try dsimp only
  repeat' with_reducible first
    | exact h
    | exact Touch.refl _ _
    | refine State.raise_touch (sub_trans (by decide) hw) _ _ ?_
    | refine State.bump_touch (sub_trans (by decide) hw) _ _ _ ?_
    | refine State.dpllSelect_touch (sub_trans (by decide) hw) _ _ ?_
    | fail_if_no_progress refine touch_ref (sub_trans (by decide) hw) ?_

theorem State.selectorEval_touch (hw : 852759177 ||| w = w) : ∀ s cmt man, Touch w s₀ s → Touch w s₀ (State.selectorEval s cmt man) := by
  intro s cmt man h; unfold State.selectorEval; try dsimp only
  repeat' with_reducible first
    | exact h
    | exact Touch.refl _ _
    | refine State.raise_touch (sub_trans (by decide) hw) _ _ ?_
    | refine State.refSwitch_touch (sub_trans (by decide) hw) _ _ _ ?_
    | refine State.outclkSync_touch (sub_trans (by decide) hw) _ _ ?_
    | refine State.dpllxSync_touch (sub_trans (by decide) hw) _ _ ?_
    | fail_if_no_progress refine touch_ref (sub_trans (by decide) hw) ?_
    | (apply touch_ite_then; on_goal 1 => solve | (repeat' first | exact Touch.refl _ _ | refine State.raise_touch (sub_trans (by decide) hw) _ _ ?_ | refine State.refSwitch_touch (sub_trans (by decide) hw) _ _ _ ?_ | refine State.outclkSync_touch (sub_trans (by decide) hw) _ _ ?_ | refine State.dpllxSync_touch (sub_trans (by decide) hw) _ _ ?_ | fail_if_no_progress refine touch_ref (sub_trans (by decide) hw) ?_ | apply touch_foldl))
    | (apply touch_ite_else; on_goal 1 => solve | (repeat' first | exact Touch.refl _ _ | refine State.raise_touch (sub_trans (by decide) hw) _ _ ?_ | refine State.refSwitch_touch (sub_trans (by decide) hw) _ _ _ ?_ | refine State.outclkSync_touch (sub_trans (by decide) hw) _ _ ?_ | refine State.dpllxSync_touch (sub_trans (by decide) hw) _ _ ?_ | fail_if_no_progress refine touch_ref (sub_trans (by decide) hw) ?_))
    | apply touch_ite
    | apply touch_foldl
    | (intro _ _ _ k; try dsimp only)
    | (intro _ _; try dsimp only)

theorem execSelectorEvaluate_touch (hw : 852759177 ||| w = w) : ∀ s, Touch w s₀ s → TouchR w s₀ (execSelectorEvaluate s) := by
  intro s h; unfold execSelectorEvaluate; try dsimp only
  repeat' with_reducible first
    | exact h
    | exact Touch.refl _ _
    | apply touchR_next
    | apply touchR_ite
    | refine State.selectorEval_touch (sub_trans (by decide) hw) _ _ _ ?_
    | refine State.advTo_touch (sub_trans (by decide) hw) _ _ ?_

theorem State.internalRefs_touch (hw : 541065729 ||| w = w) : ∀ s, Touch w s₀ s → Touch w s₀ (State.internalRefs s) := by
  intro s h; unfold State.internalRefs; try dsimp only
  repeat' with_reducible first
    | exact h
    | exact Touch.refl _ _
    | refine State.monBack_touch (sub_trans (by decide) hw) _ _ ?_
    | refine State.monLost_touch (sub_trans (by decide) hw) _ _ ?_
    | (apply touch_ite_then; on_goal 1 => solve | (repeat' first | exact Touch.refl _ _ | refine State.monBack_touch (sub_trans (by decide) hw) _ _ ?_ | refine State.monLost_touch (sub_trans (by decide) hw) _ _ ?_ | apply touch_foldl))
    | (apply touch_ite_else; on_goal 1 => solve | (repeat' first | exact Touch.refl _ _ | refine State.monBack_touch (sub_trans (by decide) hw) _ _ ?_ | refine State.monLost_touch (sub_trans (by decide) hw) _ _ ?_ | apply touch_foldl))
    | apply touch_ite

theorem State.qlJudge_touch (hw : 541065729 ||| w = w) : ∀ s n, Touch w s₀ s → Touch w s₀ (State.qlJudge s n) := by
  intro s n h; unfold State.qlJudge; try dsimp only
  repeat' with_reducible first
    | exact h
    | exact Touch.refl _ _
    | refine State.monEval_touch (sub_trans (by decide) hw) _ _ ?_
    | refine State.updMon_touch (sub_trans (by decide) hw) _ _ _ ?_
    | (apply touch_ite_then; on_goal 1 => solve | (repeat' first | exact Touch.refl _ _ | refine State.monEval_touch (sub_trans (by decide) hw) _ _ ?_ | refine State.updMon_touch (sub_trans (by decide) hw) _ _ _ ?_ | apply touch_foldl))
    | (apply touch_ite_else; on_goal 1 => solve | (repeat' first | exact Touch.refl _ _ | refine State.monEval_touch (sub_trans (by decide) hw) _ _ ?_ | refine State.updMon_touch (sub_trans (by decide) hw) _ _ _ ?_))

theorem State.monRestart_touch (hw : 541065729 ||| w = w) : ∀ s m, Touch w s₀ s → Touch w s₀ (State.monRestart s m) := by
  intro s m h; unfold State.monRestart; try dsimp only
  repeat' with_reducible first
    | exact h
    | exact Touch.refl _ _
    | refine State.updMon_touch (sub_trans (by decide) hw) _ _ _ ?_
    | refine State.monEval_touch (sub_trans (by decide) hw) _ _ ?_
    | refine State.refChanged_touch (sub_trans (by decide) hw) _ ?_
    | (apply touch_ite_then; on_goal 1 => solve | (repeat' first | exact Touch.refl _ _ | refine State.updMon_touch (sub_trans (by decide) hw) _ _ _ ?_ | refine State.monEval_touch (sub_trans (by decide) hw) _ _ ?_ | refine State.refChanged_touch (sub_trans (by decide) hw) _ ?_))

theorem State.refCommit_touch (hw : 549454337 ||| w = w) : ∀ s old, Touch w s₀ s → Touch w s₀ (State.refCommit s old) := by
  intro s old h; unfold State.refCommit; try dsimp only
  repeat' with_reducible first
    | exact h
    | exact Touch.refl _ _
    | refine State.raise_touch (sub_trans (by decide) hw) _ _ ?_
    | refine State.updMon_touch (sub_trans (by decide) hw) _ _ _ ?_
    | refine State.monRestart_touch (sub_trans (by decide) hw) _ _ ?_
    | refine State.updD_touch (sub_trans (by decide) hw) _ _ ?_
    | refine State.monEval_touch (sub_trans (by decide) hw) _ _ ?_
    | refine State.qlJudge_touch (sub_trans (by decide) hw) _ _ ?_
    | (apply touch_ite_then; on_goal 1 => solve | (repeat' first | exact Touch.refl _ _ | refine State.raise_touch (sub_trans (by decide) hw) _ _ ?_ | refine State.updMon_touch (sub_trans (by decide) hw) _ _ _ ?_ | refine State.monRestart_touch (sub_trans (by decide) hw) _ _ ?_ | refine State.updD_touch (sub_trans (by decide) hw) _ _ ?_ | refine State.monEval_touch (sub_trans (by decide) hw) _ _ ?_ | refine State.qlJudge_touch (sub_trans (by decide) hw) _ _ ?_ | apply touch_foldl))
    | (apply touch_ite_else; on_goal 1 => solve | (repeat' first | exact Touch.refl _ _ | refine State.raise_touch (sub_trans (by decide) hw) _ _ ?_ | refine State.updMon_touch (sub_trans (by decide) hw) _ _ _ ?_ | refine State.monRestart_touch (sub_trans (by decide) hw) _ _ ?_ | refine State.updD_touch (sub_trans (by decide) hw) _ _ ?_ | refine State.monEval_touch (sub_trans (by decide) hw) _ _ ?_ | refine State.qlJudge_touch (sub_trans (by decide) hw) _ _ ?_ | apply touch_foldl))
    | apply touch_ite
    | apply touch_foldl
    | (intro _ _ _ k; try dsimp only)
    | (intro _ _; try dsimp only)

theorem execEsmcPduReceived_touch (hw : 541069825 ||| w = w) : ∀ n ssm essm s, Touch w s₀ s → TouchR w s₀ (execEsmcPduReceived n ssm essm s) := by
  intro n ssm essm s h; unfold execEsmcPduReceived; try dsimp only
  repeat' with_reducible first
    | exact h
    | exact Touch.refl _ _
    | apply touchR_next
    | apply touchR_ite
    | refine State.updPort_touch (sub_trans (by decide) hw) _ _ _ ?_
    | refine State.wr_touch (sub_trans (by decide) hw) _ _ _ ?_
    | refine State.portEvt_touch (sub_trans (by decide) hw) _ _ _ ?_
    | refine State.qlJudge_touch (sub_trans (by decide) hw) _ _ ?_
    | (apply touch_ite_then; on_goal 1 => solve | (repeat' first | exact Touch.refl _ _ | refine State.updPort_touch (sub_trans (by decide) hw) _ _ _ ?_ | refine State.wr_touch (sub_trans (by decide) hw) _ _ _ ?_ | refine State.portEvt_touch (sub_trans (by decide) hw) _ _ _ ?_ | refine State.qlJudge_touch (sub_trans (by decide) hw) _ _ ?_ | apply touch_foldl))
    | (apply touch_ite_else; on_goal 1 => solve | (repeat' first | exact Touch.refl _ _ | refine State.updPort_touch (sub_trans (by decide) hw) _ _ _ ?_ | refine State.wr_touch (sub_trans (by decide) hw) _ _ _ ?_ | refine State.portEvt_touch (sub_trans (by decide) hw) _ _ _ ?_ | refine State.qlJudge_touch (sub_trans (by decide) hw) _ _ ?_))

theorem execEsmcTimeout_touch (hw : 541065737 ||| w = w) : ∀ n s, Touch w s₀ s → TouchR w s₀ (execEsmcTimeout n s) := by
  intro n s h; unfold execEsmcTimeout; try dsimp only
  repeat' with_reducible first
    | exact h
    | exact Touch.refl _ _
    | apply touchR_next
    | apply touchR_ite
    | refine State.advTo_touch (sub_trans (by decide) hw) _ _ ?_
    | refine State.portEvt_touch (sub_trans (by decide) hw) _ _ _ ?_
    | refine State.wr_touch (sub_trans (by decide) hw) _ _ _ ?_
    | refine State.qlJudge_touch (sub_trans (by decide) hw) _ _ ?_

theorem State.esmcSend_touch (hw : 536875521 ||| w = w) : ∀ s n event, Touch w s₀ s → Touch w s₀ (State.esmcSend s n event) := by
  intro s n event h; unfold State.esmcSend; try dsimp only
  repeat' with_reducible first
    | exact h
    | exact Touch.refl _ _
    | refine State.emit_touch (sub_trans (by decide) hw) _ _ ?_
    | refine State.updPort_touch (sub_trans (by decide) hw) _ _ _ ?_
    | refine State.bePush_touch (sub_trans (by decide) hw) _ _ _ _ _ _ _ ?_

theorem execEsmcInfoSend_touch (hw : 536875529 ||| w = w) : ∀ s, Touch w s₀ s → TouchR w s₀ (execEsmcInfoSend s) := by
  intro s h; unfold execEsmcInfoSend; try dsimp only
  repeat' with_reducible first
    | exact h
    | exact Touch.refl _ _
    | apply touchR_next
    | apply touchR_ite
    | refine State.advTo_touch (sub_trans (by decide) hw) _ _ ?_
    | refine State.esmcSend_touch (sub_trans (by decide) hw) _ _ _ ?_
    | refine State.updPort_touch (sub_trans (by decide) hw) _ _ _ ?_
    | (apply touch_ite_then; on_goal 1 => solve | (repeat' first | exact Touch.refl _ _ | refine State.advTo_touch (sub_trans (by decide) hw) _ _ ?_ | refine State.esmcSend_touch (sub_trans (by decide) hw) _ _ _ ?_ | refine State.updPort_touch (sub_trans (by decide) hw) _ _ _ ?_ | apply touch_foldl))
    | (apply touch_ite_else; on_goal 1 => solve | (repeat' first | exact Touch.refl _ _ | refine State.advTo_touch (sub_trans (by decide) hw) _ _ ?_ | refine State.esmcSend_touch (sub_trans (by decide) hw) _ _ _ ?_ | refine State.updPort_touch (sub_trans (by decide) hw) _ _ _ ?_))
    | apply touch_ite
    | apply touch_foldl
    | (intro _ _ _ k; try dsimp only)
    | (intro _ _; try dsimp only)
    | refine touch_snd (by assumption) ?_
    | (intro _; try dsimp only)
    | assumption
    | split

theorem execEsmcEventSend_touch (hw : 536875521 ||| w = w) : ∀ s, Touch w s₀ s → TouchR w s₀ (execEsmcEventSend s) := by
  intro s h; unfold execEsmcEventSend; try dsimp only
  repeat' with_reducible first
    | exact h
    | exact Touch.refl _ _
    | apply touchR_next
    | apply touchR_ite
    | refine State.esmcSend_touch (sub_trans (by decide) hw) _ _ _ ?_
    | (apply touch_ite_then; on_goal 1 => solve | (repeat' first | exact Touch.refl _ _ | refine State.esmcSend_touch (sub_trans (by decide) hw) _ _ _ ?_ | apply touch_foldl))
    | (apply touch_ite_else; on_goal 1 => solve | (repeat' first | exact Touch.refl _ _ | refine State.esmcSend_touch (sub_trans (by decide) hw) _ _ _ ?_))
    | apply touch_ite
    | apply touch_foldl
    | (intro _ _ _ k; try dsimp only)
    | (intro _ _; try dsimp only)

end Sys2Proof.Machine
end

