-- ==== Sys2Proof/Laws/Keeps/Client.lean ====
section
/-!
SUPPORT. What each operation of Client keeps.
-/

namespace Sys2Proof.Machine

variable {w : Nat} {s₀ : State}

theorem State.clSecond_touch (hw : 549454337 ||| w = w) : ∀ s i, Touch w s₀ s → Touch w s₀ (State.clSecond s i) := by
  intro s i h; unfold State.clSecond; try dsimp only
  repeat' with_reducible first
    | exact h
    | exact Touch.refl _ _
    | refine State.pulse_touch (sub_trans (by decide) hw) _ _ _ _ _ ?_
    | (apply touch_ite_then; on_goal 1 => solve | (repeat' first | exact Touch.refl _ _ | refine State.pulse_touch (sub_trans (by decide) hw) _ _ _ _ _ ?_ | apply touch_foldl))
    | (apply touch_ite_else; on_goal 1 => solve | (repeat' first | exact Touch.refl _ _ | refine State.pulse_touch (sub_trans (by decide) hw) _ _ _ _ _ ?_))

theorem State.clSignal_touch (hw : 537924097 ||| w = w) : ∀ s i j tlv, Touch w s₀ s → Touch w s₀ (State.clSignal s i j tlv) := by
  intro s i j tlv h; unfold State.clSignal; try dsimp only
  repeat' with_reducible first
    | exact h
    | exact Touch.refl _ _
    | refine State.updClient_touch (sub_trans (by decide) hw) _ _ _ ?_
    | refine State.coreSend_touch (sub_trans (by decide) hw) _ _ _ _ _ _ ?_
    | apply touch_foldl
    | refine touch_snd (by assumption) ?_
    | (intro _; try dsimp only)
    | assumption
    | split

theorem State.clRequest_touch (hw : 537924097 ||| w = w) : ∀ s i j type, Touch w s₀ s → Touch w s₀ (State.clRequest s i j type) := by
  intro s i j type h; unfold State.clRequest; try dsimp only
  repeat' with_reducible first
    | exact h
    | exact Touch.refl _ _
    | refine State.clSignal_touch (sub_trans (by decide) hw) _ _ _ _ ?_

theorem State.clAsk_touch (hw : 537924097 ||| w = w) : ∀ s i wait, Touch w s₀ s → Touch w s₀ (State.clAsk s i wait) := by
  intro s i wait h; unfold State.clAsk; try dsimp only
  repeat' with_reducible first
    | exact h
    | exact Touch.refl _ _
    | refine State.clRequest_touch (sub_trans (by decide) hw) _ _ _ _ ?_
    | refine State.updClient_touch (sub_trans (by decide) hw) _ _ _ ?_
    | apply touch_ite
    | apply touch_foldl
    | (intro _ _ _ k; try dsimp only)
    | (intro _ _; try dsimp only)

theorem State.clTake_touch (hw : 542118401 ||| w = w) : ∀ s i f, Touch w s₀ s → Touch w s₀ (State.clTake s i f) := by
  intro s i f h; unfold State.clTake; try dsimp only
  repeat' with_reducible first
    | exact h
    | exact Touch.refl _ _
    | refine State.updClient_touch (sub_trans (by decide) hw) _ _ _ ?_
    | refine State.clForget_touch (sub_trans (by decide) hw) _ _ ?_
    | refine State.clSetPort_touch (sub_trans (by decide) hw) _ _ _ ?_
    | refine State.raise_touch (sub_trans (by decide) hw) _ _ ?_
    | refine State.clSetServo_touch (sub_trans (by decide) hw) _ _ _ ?_
    | refine State.internalRefs_touch (sub_trans (by decide) hw) _ ?_
    | refine State.clAsk_touch (sub_trans (by decide) hw) _ _ _ ?_
    | (apply touch_ite_then; on_goal 1 => solve | (repeat' first | exact Touch.refl _ _ | refine State.updClient_touch (sub_trans (by decide) hw) _ _ _ ?_ | refine State.clForget_touch (sub_trans (by decide) hw) _ _ ?_ | refine State.clSetPort_touch (sub_trans (by decide) hw) _ _ _ ?_ | refine State.raise_touch (sub_trans (by decide) hw) _ _ ?_ | refine State.clSetServo_touch (sub_trans (by decide) hw) _ _ _ ?_ | refine State.internalRefs_touch (sub_trans (by decide) hw) _ ?_ | refine State.clAsk_touch (sub_trans (by decide) hw) _ _ _ ?_))

theorem State.clBmca_touch (hw : 542118401 ||| w = w) : ∀ s i, Touch w s₀ s → Touch w s₀ (State.clBmca s i) := by
  intro s i h; unfold State.clBmca; try dsimp only
  repeat' with_reducible first
    | exact h
    | exact Touch.refl _ _
    | refine State.clTake_touch (sub_trans (by decide) hw) _ _ _ ?_
    | (apply touch_ite_then; on_goal 1 => solve | (repeat' first | exact Touch.refl _ _ | refine State.clTake_touch (sub_trans (by decide) hw) _ _ _ ?_ | apply touch_foldl))
    | (apply touch_ite_else; on_goal 1 => solve | (repeat' first | exact Touch.refl _ _ | refine State.clTake_touch (sub_trans (by decide) hw) _ _ _ ?_))
    | apply touch_ite
    | apply touch_foldl
    | refine touch_snd (by assumption) ?_
    | (intro _; try dsimp only)
    | assumption
    | split

theorem State.clAnnounce_touch (hw : 542118401 ||| w = w) : ∀ s i umt p, Touch w s₀ s → Touch w s₀ (State.clAnnounce s i umt p) := by
  intro s i umt p h; unfold State.clAnnounce; try dsimp only
  repeat' with_reducible first
    | exact h
    | exact Touch.refl _ _
    | refine State.updClient_touch (sub_trans (by decide) hw) _ _ _ ?_
    | refine State.internalRefs_touch (sub_trans (by decide) hw) _ ?_
    | refine State.clListen_touch (sub_trans (by decide) hw) _ _ ?_
    | refine State.clBmca_touch (sub_trans (by decide) hw) _ _ ?_
    | (apply touch_ite_then; on_goal 1 => solve | (repeat' first | exact Touch.refl _ _ | refine State.updClient_touch (sub_trans (by decide) hw) _ _ _ ?_ | refine State.internalRefs_touch (sub_trans (by decide) hw) _ ?_ | refine State.clListen_touch (sub_trans (by decide) hw) _ _ ?_ | refine State.clBmca_touch (sub_trans (by decide) hw) _ _ ?_ | apply touch_foldl))
    | (apply touch_ite_else; on_goal 1 => solve | (repeat' first | exact Touch.refl _ _ | refine State.updClient_touch (sub_trans (by decide) hw) _ _ _ ?_ | refine State.internalRefs_touch (sub_trans (by decide) hw) _ ?_ | refine State.clListen_touch (sub_trans (by decide) hw) _ _ ?_ | refine State.clBmca_touch (sub_trans (by decide) hw) _ _ ?_ | apply touch_foldl))
    | apply touch_ite

theorem State.clLoop_touch (hw : 1048576 ||| w = w) : ∀ s i th, Touch w s₀ s → Touch w s₀ (State.clLoop s i th) := by
  intro s i th h; unfold State.clLoop; try dsimp only
  repeat' with_reducible first
    | exact h
    | exact Touch.refl _ _
    | refine State.updClient_touch (sub_trans (by decide) hw) _ _ _ ?_

theorem State.clStep_touch (hw : 1048576 ||| w = w) : ∀ s i th, Touch w s₀ s → Touch w s₀ (State.clStep s i th) := by
  intro s i th h; unfold State.clStep; try dsimp only
  repeat' with_reducible first
    | exact h
    | exact Touch.refl _ _
    | refine State.updClient_touch (sub_trans (by decide) hw) _ _ _ ?_

theorem State.clPortSync_touch (hw : 542114305 ||| w = w) : ∀ s i, Touch w s₀ s → Touch w s₀ (State.clPortSync s i) := by
  intro s i h; unfold State.clPortSync; try dsimp only
  repeat' with_reducible first
    | exact h
    | exact Touch.refl _ _
    | refine State.clSetPort_touch (sub_trans (by decide) hw) _ _ _ ?_
    | refine State.internalRefs_touch (sub_trans (by decide) hw) _ ?_
    | (apply touch_ite_then; on_goal 1 => solve | (repeat' first | exact Touch.refl _ _ | refine State.clSetPort_touch (sub_trans (by decide) hw) _ _ _ ?_ | refine State.internalRefs_touch (sub_trans (by decide) hw) _ ?_ | apply touch_foldl))
    | (apply touch_ite_else; on_goal 1 => solve | (repeat' first | exact Touch.refl _ _ | refine State.clSetPort_touch (sub_trans (by decide) hw) _ _ _ ?_ | refine State.internalRefs_touch (sub_trans (by decide) hw) _ ?_ | apply touch_foldl))
    | apply touch_ite

theorem State.clServo_touch (hw : 542114305 ||| w = w) : ∀ s i th, Touch w s₀ s → Touch w s₀ (State.clServo s i th) := by
  intro s i th h; unfold State.clServo; try dsimp only
  repeat' with_reducible first
    | exact h
    | exact Touch.refl _ _
    | refine State.clStep_touch (sub_trans (by decide) hw) _ _ _ ?_
    | refine State.clSetServo_touch (sub_trans (by decide) hw) _ _ _ ?_
    | refine State.updClient_touch (sub_trans (by decide) hw) _ _ _ ?_
    | refine State.clLoop_touch (sub_trans (by decide) hw) _ _ _ ?_
    | refine State.clPortSync_touch (sub_trans (by decide) hw) _ _ ?_
    | (apply touch_ite_then; on_goal 1 => solve | (repeat' first | exact Touch.refl _ _ | refine State.clStep_touch (sub_trans (by decide) hw) _ _ _ ?_ | refine State.clSetServo_touch (sub_trans (by decide) hw) _ _ _ ?_ | refine State.updClient_touch (sub_trans (by decide) hw) _ _ _ ?_ | refine State.clLoop_touch (sub_trans (by decide) hw) _ _ _ ?_ | refine State.clPortSync_touch (sub_trans (by decide) hw) _ _ ?_ | apply touch_foldl))
    | (apply touch_ite_else; on_goal 1 => solve | (repeat' first | exact Touch.refl _ _ | refine State.clStep_touch (sub_trans (by decide) hw) _ _ _ ?_ | refine State.clSetServo_touch (sub_trans (by decide) hw) _ _ _ ?_ | refine State.updClient_touch (sub_trans (by decide) hw) _ _ _ ?_ | refine State.clLoop_touch (sub_trans (by decide) hw) _ _ _ ?_ | refine State.clPortSync_touch (sub_trans (by decide) hw) _ _ ?_ | apply touch_foldl))
    | apply touch_ite
    | apply touch_foldl
    | refine touch_snd (by assumption) ?_
    | (intro _; try dsimp only)
    | assumption
    | split

theorem State.clFit_touch (hw : 542114305 ||| w = w) : ∀ s i y, Touch w s₀ s → Touch w s₀ (State.clFit s i y) := by
  intro s i y h; unfold State.clFit; try dsimp only
  repeat' with_reducible first
    | exact h
    | exact Touch.refl _ _
    | refine State.updClient_touch (sub_trans (by decide) hw) _ _ _ ?_
    | refine State.clPortSync_touch (sub_trans (by decide) hw) _ _ ?_
    | refine State.clSetServo_touch (sub_trans (by decide) hw) _ _ _ ?_
    | (apply touch_ite_then; on_goal 1 => solve | (repeat' first | exact Touch.refl _ _ | refine State.updClient_touch (sub_trans (by decide) hw) _ _ _ ?_ | refine State.clPortSync_touch (sub_trans (by decide) hw) _ _ ?_ | refine State.clSetServo_touch (sub_trans (by decide) hw) _ _ _ ?_ | apply touch_foldl))
    | (apply touch_ite_else; on_goal 1 => solve | (repeat' first | exact Touch.refl _ _ | refine State.updClient_touch (sub_trans (by decide) hw) _ _ _ ?_ | refine State.clPortSync_touch (sub_trans (by decide) hw) _ _ ?_ | refine State.clSetServo_touch (sub_trans (by decide) hw) _ _ _ ?_ | apply touch_foldl))
    | apply touch_ite

theorem State.clExchange_touch (hw : 550769281 ||| w = w) : ∀ s i y t3 t4 cd, Touch w s₀ s → Touch w s₀ (State.clExchange s i y t3 t4 cd) := by
  intro s i y t3 t4 cd h; unfold State.clExchange; try dsimp only
  repeat' with_reducible first
    | exact h
    | exact Touch.refl _ _
    | refine State.raise_touch (sub_trans (by decide) hw) _ _ ?_
    | refine State.bump_touch (sub_trans (by decide) hw) _ _ _ ?_
    | refine State.updClient_touch (sub_trans (by decide) hw) _ _ _ ?_
    | refine State.clPortSync_touch (sub_trans (by decide) hw) _ _ ?_
    | refine State.clSetServo_touch (sub_trans (by decide) hw) _ _ _ ?_
    | refine State.clServo_touch (sub_trans (by decide) hw) _ _ _ ?_
    | refine State.timeStateChange_touch (sub_trans (by decide) hw) _ ?_
    | (apply touch_ite_then; on_goal 1 => solve | (repeat' first | exact Touch.refl _ _ | refine State.raise_touch (sub_trans (by decide) hw) _ _ ?_ | refine State.bump_touch (sub_trans (by decide) hw) _ _ _ ?_ | refine State.updClient_touch (sub_trans (by decide) hw) _ _ _ ?_ | refine State.clPortSync_touch (sub_trans (by decide) hw) _ _ ?_ | refine State.clSetServo_touch (sub_trans (by decide) hw) _ _ _ ?_ | refine State.clServo_touch (sub_trans (by decide) hw) _ _ _ ?_ | refine State.timeStateChange_touch (sub_trans (by decide) hw) _ ?_ | apply touch_foldl))
    | (apply touch_ite_else; on_goal 1 => solve | (repeat' first | exact Touch.refl _ _ | refine State.raise_touch (sub_trans (by decide) hw) _ _ ?_ | refine State.bump_touch (sub_trans (by decide) hw) _ _ _ ?_ | refine State.updClient_touch (sub_trans (by decide) hw) _ _ _ ?_ | refine State.clPortSync_touch (sub_trans (by decide) hw) _ _ ?_ | refine State.clSetServo_touch (sub_trans (by decide) hw) _ _ _ ?_ | refine State.clServo_touch (sub_trans (by decide) hw) _ _ _ ?_ | refine State.timeStateChange_touch (sub_trans (by decide) hw) _ ?_ | apply touch_foldl))
    | apply touch_ite

theorem State.clSync_touch (hw : 542114305 ||| w = w) : ∀ s i y, Touch w s₀ s → Touch w s₀ (State.clSync s i y) := by
  intro s i y h; unfold State.clSync; try dsimp only
  repeat' with_reducible first
    | exact h
    | exact Touch.refl _ _
    | refine State.clFit_touch (sub_trans (by decide) hw) _ _ _ ?_
    | refine State.updClient_touch (sub_trans (by decide) hw) _ _ _ ?_

theorem State.clGrants_touch (hw : 537924097 ||| w = w) : ∀ s i j p, Touch w s₀ s → Touch w s₀ (State.clGrants s i j p) := by
  intro s i j p h; unfold State.clGrants; try dsimp only
  repeat' with_reducible first
    | exact h
    | exact Touch.refl _ _
    | refine State.updClient_touch (sub_trans (by decide) hw) _ _ _ ?_
    | refine State.clSignal_touch (sub_trans (by decide) hw) _ _ _ _ ?_
    | (apply touch_ite_then; on_goal 1 => solve | (repeat' first | exact Touch.refl _ _ | refine State.updClient_touch (sub_trans (by decide) hw) _ _ _ ?_ | refine State.clSignal_touch (sub_trans (by decide) hw) _ _ _ _ ?_ | apply touch_foldl))
    | (apply touch_ite_else; on_goal 1 => solve | (repeat' first | exact Touch.refl _ _ | refine State.updClient_touch (sub_trans (by decide) hw) _ _ _ ?_ | refine State.clSignal_touch (sub_trans (by decide) hw) _ _ _ _ ?_ | apply touch_foldl))
    | apply touch_ite
    | apply touch_foldl
    | (intro _ _ _ k; try dsimp only)
    | (intro _ _; try dsimp only)

theorem execClientMessage_touch (hw : 550769281 ||| w = w) : ∀ i f s, Touch w s₀ s → TouchR w s₀ (execClientMessage i f s) := by
  intro i f s h; unfold execClientMessage; try dsimp only
  repeat' with_reducible first
    | exact h
    | exact Touch.refl _ _
    | apply touchR_next
    | apply touchR_ite
    | refine State.bump_touch (sub_trans (by decide) hw) _ _ _ ?_
    | refine State.clAnnounce_touch (sub_trans (by decide) hw) _ _ _ _ ?_
    | refine State.clGrants_touch (sub_trans (by decide) hw) _ _ _ _ ?_
    | refine State.updClient_touch (sub_trans (by decide) hw) _ _ _ ?_
    | refine State.clSync_touch (sub_trans (by decide) hw) _ _ _ ?_
    | refine State.clExchange_touch (sub_trans (by decide) hw) _ _ _ _ _ _ ?_
    | (apply touch_ite_then; on_goal 1 => solve | (repeat' first | exact Touch.refl _ _ | refine State.bump_touch (sub_trans (by decide) hw) _ _ _ ?_ | refine State.clAnnounce_touch (sub_trans (by decide) hw) _ _ _ _ ?_ | refine State.clGrants_touch (sub_trans (by decide) hw) _ _ _ _ ?_ | refine State.updClient_touch (sub_trans (by decide) hw) _ _ _ ?_ | refine State.clSync_touch (sub_trans (by decide) hw) _ _ _ ?_ | refine State.clExchange_touch (sub_trans (by decide) hw) _ _ _ _ _ _ ?_ | apply touch_foldl))
    | (apply touch_ite_else; on_goal 1 => solve | (repeat' first | exact Touch.refl _ _ | refine State.bump_touch (sub_trans (by decide) hw) _ _ _ ?_ | refine State.clAnnounce_touch (sub_trans (by decide) hw) _ _ _ _ ?_ | refine State.clGrants_touch (sub_trans (by decide) hw) _ _ _ _ ?_ | refine State.updClient_touch (sub_trans (by decide) hw) _ _ _ ?_ | refine State.clSync_touch (sub_trans (by decide) hw) _ _ _ ?_ | refine State.clExchange_touch (sub_trans (by decide) hw) _ _ _ _ _ _ ?_))
    | apply touch_ite
    | apply touch_foldl
    | refine touch_snd (by assumption) ?_
    | (intro _; try dsimp only)
    | assumption
    | split

theorem execClientDelayReq_touch (hw : 537924097 ||| w = w) : ∀ i s, Touch w s₀ s → TouchR w s₀ (execClientDelayReq i s) := by
  intro i s h; unfold execClientDelayReq; try dsimp only
  repeat' with_reducible first
    | exact h
    | exact Touch.refl _ _
    | apply touchR_next
    | apply touchR_ite
    | refine State.bePush_touch (sub_trans (by decide) hw) _ _ _ _ _ _ _ ?_
    | refine State.updClient_touch (sub_trans (by decide) hw) _ _ _ ?_
    | apply touch_ite
    | apply touch_foldl
    | refine touch_snd (by assumption) ?_
    | (intro _; try dsimp only)
    | assumption
    | split

theorem execClientGrantRenew_touch (hw : 537924105 ||| w = w) : ∀ i j type s, Touch w s₀ s → TouchR w s₀ (execClientGrantRenew i j type s) := by
  intro i j type s h; unfold execClientGrantRenew; try dsimp only
  repeat' with_reducible first
    | exact h
    | exact Touch.refl _ _
    | apply touchR_next
    | apply touchR_ite
    | refine State.advTo_touch (sub_trans (by decide) hw) _ _ ?_
    | refine State.clRequest_touch (sub_trans (by decide) hw) _ _ _ _ ?_
    | refine State.updClient_touch (sub_trans (by decide) hw) _ _ _ ?_
    | apply touch_ite
    | apply touch_foldl
    | refine touch_snd (by assumption) ?_
    | (intro _; try dsimp only)
    | assumption
    | split

theorem execClientRetry_touch (hw : 537924105 ||| w = w) : ∀ i s, Touch w s₀ s → TouchR w s₀ (execClientRetry i s) := by
  intro i s h; unfold execClientRetry; try dsimp only
  repeat' with_reducible first
    | exact h
    | exact Touch.refl _ _
    | apply touchR_next
    | apply touchR_ite
    | refine State.advTo_touch (sub_trans (by decide) hw) _ _ ?_
    | refine State.clAsk_touch (sub_trans (by decide) hw) _ _ _ ?_
    | apply touch_ite
    | apply touch_foldl
    | refine touch_snd (by assumption) ?_
    | (intro _; try dsimp only)
    | assumption
    | split

theorem execClientAnnounceTimeout_touch (hw : 542114313 ||| w = w) : ∀ i s, Touch w s₀ s → TouchR w s₀ (execClientAnnounceTimeout i s) := by
  intro i s h; unfold execClientAnnounceTimeout; try dsimp only
  repeat' with_reducible first
    | exact h
    | exact Touch.refl _ _
    | apply touchR_next
    | apply touchR_ite
    | refine State.advTo_touch (sub_trans (by decide) hw) _ _ ?_
    | refine State.internalRefs_touch (sub_trans (by decide) hw) _ ?_
    | refine State.clListen_touch (sub_trans (by decide) hw) _ _ ?_
    | apply touch_foldl
    | refine touch_snd (by assumption) ?_
    | (intro _; try dsimp only)
    | assumption
    | split

theorem execClientSyncTimeout_touch (hw : 542114313 ||| w = w) : ∀ i s, Touch w s₀ s → TouchR w s₀ (execClientSyncTimeout i s) := by
  intro i s h; unfold execClientSyncTimeout; try dsimp only
  repeat' with_reducible first
    | exact h
    | exact Touch.refl _ _
    | apply touchR_next
    | apply touchR_ite
    | refine State.advTo_touch (sub_trans (by decide) hw) _ _ ?_
    | refine State.internalRefs_touch (sub_trans (by decide) hw) _ ?_
    | refine State.clListen_touch (sub_trans (by decide) hw) _ _ ?_

end Sys2Proof.Machine
end

