-- ==== Sys2Proof/Laws/Keeps/Clock.lean ====
section
/-!
SUPPORT. What each operation of Clock keeps.
-/

namespace Sys2Proof.Machine

variable {w : Nat} {s₀ : State}

theorem State.forceHold_touch (hw : 546574977 ||| w = w) : ∀ s, Touch w s₀ s → Touch w s₀ (State.forceHold s) := by
  intro s h; unfold State.forceHold; try dsimp only
  repeat' with_reducible first
    | exact h
    | exact Touch.refl _ _
    | refine State.timeStateChange_touch (sub_trans (by decide) hw) _ ?_
    | fail_if_no_progress refine touch_clk (sub_trans (by decide) hw) ?_

theorem execOscLoss_touch (hw : 546574977 ||| w = w) : ∀ s, Touch w s₀ s → TouchR w s₀ (execOscLoss s) := by
  intro s h; unfold execOscLoss; try dsimp only
  repeat' with_reducible first
    | exact h
    | exact Touch.refl _ _
    | apply touchR_next
    | apply touchR_ite
    | refine State.raise_touch (sub_trans (by decide) hw) _ _ ?_
    | refine State.forceHold_touch (sub_trans (by decide) hw) _ ?_
    | refine State.orBits_touch (sub_trans (by decide) hw) _ _ _ ?_

theorem State.pllRedun_touch (hw : 1 ||| w = w) : ∀ s, Touch w s₀ s → Touch w s₀ (State.pllRedun s) := by
  intro s h; unfold State.pllRedun; try dsimp only
  repeat' with_reducible first
    | exact h
    | exact Touch.refl _ _
    | refine State.wr_touch (sub_trans (by decide) hw) _ _ _ ?_

theorem execApllUnlock_touch (hw : 546574977 ||| w = w) : ∀ p active s, Touch w s₀ s → TouchR w s₀ (execApllUnlock p active s) := by
  intro p active s h; unfold execApllUnlock; try dsimp only
  repeat' with_reducible first
    | exact h
    | exact Touch.refl _ _
    | apply touchR_next
    | apply touchR_ite
    | refine State.pllRedun_touch (sub_trans (by decide) hw) _ ?_
    | refine State.updPll_touch (sub_trans (by decide) hw) _ _ _ ?_
    | refine State.forceHold_touch (sub_trans (by decide) hw) _ ?_
    | refine State.raise_touch (sub_trans (by decide) hw) _ _ ?_
    | (apply touch_ite_then; on_goal 1 => solve | (repeat' first | exact Touch.refl _ _ | refine State.pllRedun_touch (sub_trans (by decide) hw) _ ?_ | refine State.updPll_touch (sub_trans (by decide) hw) _ _ _ ?_ | refine State.forceHold_touch (sub_trans (by decide) hw) _ ?_ | refine State.raise_touch (sub_trans (by decide) hw) _ _ ?_))

theorem execDpll0Sample_touch (hw : 939307929 ||| w = w) : ∀ phase25 s, Touch w s₀ s → TouchR w s₀ (execDpll0Sample phase25 s) := by
  intro phase25 s h; unfold execDpll0Sample; try dsimp only
  repeat' with_reducible first
    | exact h
    | exact Touch.refl _ _
    | apply touchR_next
    | apply touchR_ite
    | refine State.freqSample_touch (sub_trans (by decide) hw) _ _ _ ?_
    | refine State.phaseSample_touch (sub_trans (by decide) hw) _ _ _ ?_
    | apply touch_ite
    | apply touch_foldl
    | refine touch_snd (by assumption) ?_
    | (intro _; try dsimp only)
    | assumption
    | split

theorem State.stepCmd_touch (hw : 939307929 ||| w = w) : ∀ s by_, Touch w s₀ s → Touch w s₀ (State.stepCmd s by_) := by
  intro s by_ h; unfold State.stepCmd; try dsimp only
  repeat' with_reducible first
    | exact h
    | exact Touch.refl _ _
    | refine State.raise_touch (sub_trans (by decide) hw) _ _ ?_
    | refine State.dcoUpdate_touch (sub_trans (by decide) hw) _ ?_
    | refine State.dpllStep_touch (sub_trans (by decide) hw) _ ?_
    | refine State.updD_touch (sub_trans (by decide) hw) _ _ ?_
    | (apply touch_ite_then; on_goal 1 => solve | (repeat' first | exact Touch.refl _ _ | refine State.raise_touch (sub_trans (by decide) hw) _ _ ?_ | refine State.dcoUpdate_touch (sub_trans (by decide) hw) _ ?_ | refine State.dpllStep_touch (sub_trans (by decide) hw) _ ?_ | refine State.updD_touch (sub_trans (by decide) hw) _ _ ?_ | apply touch_foldl))
    | (apply touch_ite_else; on_goal 1 => solve | (repeat' first | exact Touch.refl _ _ | refine State.raise_touch (sub_trans (by decide) hw) _ _ ?_ | refine State.dcoUpdate_touch (sub_trans (by decide) hw) _ ?_ | refine State.dpllStep_touch (sub_trans (by decide) hw) _ ?_ | refine State.updD_touch (sub_trans (by decide) hw) _ _ ?_ | apply touch_foldl))
    | apply touch_ite

theorem execDpll0StepCmd_touch (hw : 939307929 ||| w = w) : ∀ by_ s, Touch w s₀ s → TouchR w s₀ (execDpll0StepCmd by_ s) := by
  intro by_ s h; unfold execDpll0StepCmd; try dsimp only
  repeat' with_reducible first
    | exact h
    | exact Touch.refl _ _
    | apply touchR_next
    | apply touchR_ite
    | refine State.stepCmd_touch (sub_trans (by decide) hw) _ _ ?_

theorem State.histRead_touch (hw : 1 ||| w = w) : ∀ s age, Touch w s₀ s → Touch w s₀ (State.histRead s age) := by
  intro s age h; unfold State.histRead; try dsimp only
  repeat' with_reducible first
    | exact h
    | exact Touch.refl _ _
    | refine State.wr_touch (sub_trans (by decide) hw) _ _ _ ?_

theorem execHistRead_touch (hw : 1 ||| w = w) : ∀ age s, Touch w s₀ s → TouchR w s₀ (execHistRead age s) := by
  intro age s h; unfold execHistRead; try dsimp only
  repeat' with_reducible first
    | exact h
    | exact Touch.refl _ _
    | apply touchR_next
    | apply touchR_ite
    | refine State.histRead_touch (sub_trans (by decide) hw) _ _ ?_
    | refine State.wr_touch (sub_trans (by decide) hw) _ _ _ ?_

theorem execDpllxLock_touch (hw : 545260033 ||| w = w) : ∀ x s, Touch w s₀ s → TouchR w s₀ (execDpllxLock x s) := by
  intro x s h; unfold execDpllxLock; try dsimp only
  repeat' with_reducible first
    | exact h
    | exact Touch.refl _ _
    | apply touchR_next
    | apply touchR_ite
    | refine State.outclkSync_touch (sub_trans (by decide) hw) _ _ ?_
    | refine State.raise_touch (sub_trans (by decide) hw) _ _ ?_
    | refine State.updDpllx_touch (sub_trans (by decide) hw) _ _ _ ?_
    | apply touch_ite
    | apply touch_foldl
    | (intro _ _ _ k; try dsimp only)
    | (intro _ _; try dsimp only)

theorem execPpsPulse_touch (hw : 545260297 ||| w = w) : ∀ x0 s, Touch w s₀ s → TouchR w s₀ (execPpsPulse x0 s) := by
  intro x0 s h; unfold execPpsPulse; try dsimp only
  repeat' with_reducible first
    | exact h
    | exact Touch.refl _ _
    | apply touchR_next
    | apply touchR_ite
    | refine State.slotFire_touch (sub_trans (by decide) hw) _ _ ?_
    | refine State.emit_touch (sub_trans (by decide) hw) _ _ ?_
    | refine State.outArmFrom_touch (sub_trans (by decide) hw) _ _ _ ?_
    | fail_if_no_progress refine touch_clk (sub_trans (by decide) hw) ?_
    | (apply touch_ite_then; on_goal 1 => solve | (repeat' first | exact Touch.refl _ _ | refine State.slotFire_touch (sub_trans (by decide) hw) _ _ ?_ | refine State.emit_touch (sub_trans (by decide) hw) _ _ ?_ | refine State.outArmFrom_touch (sub_trans (by decide) hw) _ _ _ ?_ | fail_if_no_progress refine touch_clk (sub_trans (by decide) hw) ?_ | apply touch_foldl))
    | (apply touch_ite_else; on_goal 1 => solve | (repeat' first | exact Touch.refl _ _ | refine State.slotFire_touch (sub_trans (by decide) hw) _ _ ?_ | refine State.emit_touch (sub_trans (by decide) hw) _ _ ?_ | refine State.outArmFrom_touch (sub_trans (by decide) hw) _ _ _ ?_ | fail_if_no_progress refine touch_clk (sub_trans (by decide) hw) ?_))

theorem State.ppsCommit_touch (hw : 545260297 ||| w = w) : ∀ s old x2, Touch w s₀ s → Touch w s₀ (State.ppsCommit s old x2) := by
  intro s old x2 h; unfold State.ppsCommit; try dsimp only
  repeat' with_reducible first
    | exact h
    | exact Touch.refl _ _
    | refine State.outArm_touch (sub_trans (by decide) hw) _ _ ?_
    | fail_if_no_progress refine touch_clk (sub_trans (by decide) hw) ?_
    | (apply touch_ite_then; on_goal 1 => solve | (repeat' first | exact Touch.refl _ _ | refine State.outArm_touch (sub_trans (by decide) hw) _ _ ?_ | fail_if_no_progress refine touch_clk (sub_trans (by decide) hw) ?_ | apply touch_foldl))
    | (apply touch_ite_else; on_goal 1 => solve | (repeat' first | exact Touch.refl _ _ | refine State.outArm_touch (sub_trans (by decide) hw) _ _ ?_ | fail_if_no_progress refine touch_clk (sub_trans (by decide) hw) ?_ | apply touch_foldl))
    | apply touch_ite

theorem execTodoutFrame_touch (hw : 545260297 ||| w = w) : ∀ s, Touch w s₀ s → TouchR w s₀ (execTodoutFrame s) := by
  intro s h; unfold execTodoutFrame; try dsimp only
  repeat' with_reducible first
    | exact h
    | exact Touch.refl _ _
    | apply touchR_next
    | apply touchR_ite
    | refine State.slotFire_touch (sub_trans (by decide) hw) _ _ ?_
    | refine State.emit_touch (sub_trans (by decide) hw) _ _ ?_
    | refine State.outArmFrom_touch (sub_trans (by decide) hw) _ _ _ ?_
    | fail_if_no_progress refine touch_clk (sub_trans (by decide) hw) ?_
    | (apply touch_ite_then; on_goal 1 => solve | (repeat' first | exact Touch.refl _ _ | refine State.slotFire_touch (sub_trans (by decide) hw) _ _ ?_ | refine State.emit_touch (sub_trans (by decide) hw) _ _ ?_ | refine State.outArmFrom_touch (sub_trans (by decide) hw) _ _ _ ?_ | fail_if_no_progress refine touch_clk (sub_trans (by decide) hw) ?_ | apply touch_foldl))
    | (apply touch_ite_else; on_goal 1 => solve | (repeat' first | exact Touch.refl _ _ | refine State.slotFire_touch (sub_trans (by decide) hw) _ _ ?_ | refine State.emit_touch (sub_trans (by decide) hw) _ _ ?_ | refine State.outArmFrom_touch (sub_trans (by decide) hw) _ _ _ ?_ | fail_if_no_progress refine touch_clk (sub_trans (by decide) hw) ?_ | apply touch_foldl))
    | apply touch_ite

theorem execCascPulse_touch (hw : 545260297 ||| w = w) : ∀ s, Touch w s₀ s → TouchR w s₀ (execCascPulse s) := by
  intro s h; unfold execCascPulse; try dsimp only
  repeat' with_reducible first
    | exact h
    | exact Touch.refl _ _
    | apply touchR_next
    | apply touchR_ite
    | refine State.slotFire_touch (sub_trans (by decide) hw) _ _ ?_
    | refine State.emit_touch (sub_trans (by decide) hw) _ _ ?_
    | refine State.outArmFrom_touch (sub_trans (by decide) hw) _ _ _ ?_
    | fail_if_no_progress refine touch_clk (sub_trans (by decide) hw) ?_
    | (apply touch_ite_then; on_goal 1 => solve | (repeat' first | exact Touch.refl _ _ | refine State.slotFire_touch (sub_trans (by decide) hw) _ _ ?_ | refine State.emit_touch (sub_trans (by decide) hw) _ _ ?_ | refine State.outArmFrom_touch (sub_trans (by decide) hw) _ _ _ ?_ | fail_if_no_progress refine touch_clk (sub_trans (by decide) hw) ?_))

theorem execCascFrame_touch (hw : 545260040 ||| w = w) : ∀ s, Touch w s₀ s → TouchR w s₀ (execCascFrame s) := by
  intro s h; unfold execCascFrame; try dsimp only
  repeat' with_reducible first
    | exact h
    | exact Touch.refl _ _
    | apply touchR_next
    | apply touchR_ite
    | refine State.advTo_touch (sub_trans (by decide) hw) _ _ ?_
    | refine State.emit_touch (sub_trans (by decide) hw) _ _ ?_
    | fail_if_no_progress refine touch_clk (sub_trans (by decide) hw) ?_
    | apply touch_ite
    | apply touch_foldl
    | refine touch_snd (by assumption) ?_
    | (intro _; try dsimp only)
    | assumption
    | split

theorem State.dacCode_touch (hw : 268435456 ||| w = w) : ∀ s n, Touch w s₀ s → Touch w s₀ (State.dacCode s n).2 := by
  intro s n h; unfold State.dacCode; try dsimp only
  repeat' with_reducible first
    | exact h
    | exact Touch.refl _ _
    | refine State.free_touch (sub_trans (by decide) hw) _ ?_
    | apply touch_ite
    | apply touch_foldl
    | refine touch_snd (by assumption) ?_
    | (intro _; try dsimp only)
    | assumption
    | split

theorem State.steerTake_touch (hw : 545259520 ||| w = w) : ∀ s code, Touch w s₀ s → Touch w s₀ (State.steerTake s code) := by
  intro s code h; unfold State.steerTake; try dsimp only
  repeat' with_reducible first
    | exact h
    | exact Touch.refl _ _
    | refine State.emit_touch (sub_trans (by decide) hw) _ _ ?_
    | fail_if_no_progress refine touch_clk (sub_trans (by decide) hw) ?_

theorem State.steerSet_touch (hw : 8388608 ||| w = w) : ∀ s, Touch w s₀ s → Touch w s₀ (State.steerSet s) := by
  intro s h; unfold State.steerSet; try dsimp only
  repeat' with_reducible first
    | exact h
    | exact Touch.refl _ _
    | fail_if_no_progress refine touch_clk (sub_trans (by decide) hw) ?_

theorem State.steerMove_touch (hw : 813694976 ||| w = w) : ∀ s, Touch w s₀ s → Touch w s₀ (State.steerMove s) := by
  intro s h; unfold State.steerMove; try dsimp only
  repeat' with_reducible first
    | exact h
    | exact Touch.refl _ _
    | refine State.dacCode_touch (sub_trans (by decide) hw) _ _ ?_
    | refine State.steerTake_touch (sub_trans (by decide) hw) _ _ ?_
    | (apply touch_ite_then; on_goal 1 => solve | (repeat' first | exact Touch.refl _ _ | refine State.dacCode_touch (sub_trans (by decide) hw) _ _ ?_ | refine State.steerTake_touch (sub_trans (by decide) hw) _ _ ?_ | apply touch_foldl))
    | (apply touch_ite_else; on_goal 1 => solve | (repeat' first | exact Touch.refl _ _ | refine State.dacCode_touch (sub_trans (by decide) hw) _ _ ?_ | refine State.steerTake_touch (sub_trans (by decide) hw) _ _ ?_))

theorem execSteerWrite_touch (hw : 813695496 ||| w = w) : ∀ s, Touch w s₀ s → TouchR w s₀ (execSteerWrite s) := by
  intro s h; unfold execSteerWrite; try dsimp only
  repeat' with_reducible first
    | exact h
    | exact Touch.refl _ _
    | apply touchR_next
    | apply touchR_ite
    | refine State.steerMove_touch (sub_trans (by decide) hw) _ ?_
    | refine State.steerSet_touch (sub_trans (by decide) hw) _ ?_
    | refine State.advTo_touch (sub_trans (by decide) hw) _ _ ?_

theorem execSteerSettle_touch (hw : 545260041 ||| w = w) : ∀ s, Touch w s₀ s → TouchR w s₀ (execSteerSettle s) := by
  intro s h; unfold execSteerSettle; try dsimp only
  repeat' with_reducible first
    | exact h
    | exact Touch.refl _ _
    | apply touchR_next
    | apply touchR_ite
    | refine State.advTo_touch (sub_trans (by decide) hw) _ _ ?_
    | refine State.dcoUpdate_touch (sub_trans (by decide) hw) _ ?_
    | refine State.updD_touch (sub_trans (by decide) hw) _ _ ?_
    | fail_if_no_progress refine touch_clk (sub_trans (by decide) hw) ?_
    | apply touch_foldl
    | refine touch_snd (by assumption) ?_
    | (intro _; try dsimp only)
    | assumption
    | split

theorem execSteerBusTimeout_touch (hw : 545260033 ||| w = w) : ∀ s, Touch w s₀ s → TouchR w s₀ (execSteerBusTimeout s) := by
  intro s h; unfold execSteerBusTimeout; try dsimp only
  repeat' with_reducible first
    | exact h
    | exact Touch.refl _ _
    | apply touchR_next
    | apply touchR_ite
    | refine State.raise_touch (sub_trans (by decide) hw) _ _ ?_
    | refine State.bump_touch (sub_trans (by decide) hw) _ _ _ ?_
    | refine State.orBits_touch (sub_trans (by decide) hw) _ _ _ ?_
    | fail_if_no_progress refine touch_clk (sub_trans (by decide) hw) ?_
    | (apply touch_ite_then; on_goal 1 => solve | (repeat' first | exact Touch.refl _ _ | refine State.raise_touch (sub_trans (by decide) hw) _ _ ?_ | refine State.bump_touch (sub_trans (by decide) hw) _ _ _ ?_ | refine State.orBits_touch (sub_trans (by decide) hw) _ _ _ ?_ | fail_if_no_progress refine touch_clk (sub_trans (by decide) hw) ?_))

theorem execTempRead_touch (hw : 1 ||| w = w) : ∀ value s, Touch w s₀ s → TouchR w s₀ (execTempRead value s) := by
  intro value s h; unfold execTempRead; try dsimp only
  repeat' with_reducible first
    | exact h
    | exact Touch.refl _ _
    | apply touchR_next
    | apply touchR_ite
    | refine State.wr_touch (sub_trans (by decide) hw) _ _ _ ?_

theorem State.pullFall_touch (hw : 8388608 ||| w = w) : ∀ s, Touch w s₀ s → Touch w s₀ (State.pullFall s) := by
  intro s h; unfold State.pullFall; try dsimp only
  repeat' with_reducible first
    | exact h
    | exact Touch.refl _ _
    | refine State.updD_touch (sub_trans (by decide) hw) _ _ ?_
    | (apply touch_ite_then; on_goal 1 => solve | (repeat' first | exact Touch.refl _ _ | refine State.updD_touch (sub_trans (by decide) hw) _ _ ?_ | apply touch_foldl))
    | (apply touch_ite_else; on_goal 1 => solve | (repeat' first | exact Touch.refl _ _ | refine State.updD_touch (sub_trans (by decide) hw) _ _ ?_))

theorem State.slewFall_touch (hw : 8388608 ||| w = w) : ∀ s, Touch w s₀ s → Touch w s₀ (State.slewFall s) := by
  intro s h; unfold State.slewFall; try dsimp only
  repeat' with_reducible first
    | exact h
    | exact Touch.refl _ _
    | fail_if_no_progress refine touch_clk (sub_trans (by decide) hw) ?_
    | (apply touch_ite_then; on_goal 1 => solve | (repeat' first | exact Touch.refl _ _ | fail_if_no_progress refine touch_clk (sub_trans (by decide) hw) ?_ | apply touch_foldl))
    | (apply touch_ite_else; on_goal 1 => solve | (repeat' first | exact Touch.refl _ _ | fail_if_no_progress refine touch_clk (sub_trans (by decide) hw) ?_))

theorem State.wordFall_touch (hw : 8 ||| w = w) : ∀ s, Touch w s₀ s → Touch w s₀ (State.wordFall s) := by
  intro s h; unfold State.wordFall; try dsimp only
  repeat' with_reducible first
    | exact h
    | exact Touch.refl _ _
    | refine State.setWord_touch (sub_trans (by decide) hw) _ _ ?_
    | apply touch_foldl
    | refine touch_snd (by assumption) ?_
    | (intro _; try dsimp only)
    | assumption
    | split

theorem State.alignFall_touch (hw : 8388608 ||| w = w) : ∀ s x, Touch w s₀ s → Touch w s₀ (State.alignFall s x) := by
  intro s x h; unfold State.alignFall; try dsimp only
  repeat' with_reducible first
    | exact h
    | exact Touch.refl _ _
    | refine State.updDpllx_touch (sub_trans (by decide) hw) _ _ _ ?_
    | (apply touch_ite_then; on_goal 1 => solve | (repeat' first | exact Touch.refl _ _ | refine State.updDpllx_touch (sub_trans (by decide) hw) _ _ _ ?_ | apply touch_foldl))
    | (apply touch_ite_else; on_goal 1 => solve | (repeat' first | exact Touch.refl _ _ | refine State.updDpllx_touch (sub_trans (by decide) hw) _ _ _ ?_))

theorem execEholdUpdate_touch (hw : 546574985 ||| w = w) : ∀ s, Touch w s₀ s → TouchR w s₀ (execEholdUpdate s) := by
  intro s h; unfold execEholdUpdate; try dsimp only
  repeat' with_reducible first
    | exact h
    | exact Touch.refl _ _
    | apply touchR_next
    | apply touchR_ite
    | refine State.advDt_touch (sub_trans (by decide) hw) _ _ ?_
    | refine State.eHoldUpdate_touch (sub_trans (by decide) hw) _ ?_
    | refine State.updD_touch (sub_trans (by decide) hw) _ _ ?_
    | refine State.wordFall_touch (sub_trans (by decide) hw) _ ?_
    | refine State.alignFall_touch (sub_trans (by decide) hw) _ _ ?_
    | refine State.slewFall_touch (sub_trans (by decide) hw) _ ?_
    | refine State.pullFall_touch (sub_trans (by decide) hw) _ ?_
    | refine State.timeStateChange_touch (sub_trans (by decide) hw) _ ?_
    | apply touch_foldl
    | (intro _ _ _ k; try dsimp only)
    | (intro _ _; try dsimp only)

end Sys2Proof.Machine
end

