-- ==== Sys2Proof/Laws/Keeps/Gnss.lean ====
section
/-!
SUPPORT. What each operation of Gnss keeps.
-/

namespace Sys2Proof.Machine

variable {w : Nat} {s₀ : State}

theorem State.updGns_touch (hw : 16777216 ||| w = w) : ∀ s f, Touch w s₀ s → Touch w s₀ (State.updGns s f) := by
  intro s f h; unfold State.updGns; try dsimp only
  repeat' with_reducible first
    | exact h
    | exact Touch.refl _ _
    | fail_if_no_progress refine touch_gns (sub_trans (by decide) hw) ?_

theorem State.trk_touch (hw : 16777216 ||| w = w) : ∀ s c b x, Touch w s₀ s → Touch w s₀ (State.trk s c b x) := by
  intro s c b x h; unfold State.trk; try dsimp only
  repeat' with_reducible first
    | exact h
    | exact Touch.refl _ _
    | refine State.updChan_touch (sub_trans (by decide) hw) _ _ _ ?_

theorem State.burstEnd_touch (hw : 553648641 ||| w = w) : ∀ s, Touch w s₀ s → Touch w s₀ (State.burstEnd s) := by
  intro s h; unfold State.burstEnd; try dsimp only
  repeat' with_reducible first
    | exact h
    | exact Touch.refl _ _
    | refine State.raise_touch (sub_trans (by decide) hw) _ _ ?_
    | refine State.updGns_touch (sub_trans (by decide) hw) _ _ ?_
    | (apply touch_ite_then; on_goal 1 => solve | (repeat' first | exact Touch.refl _ _ | refine State.raise_touch (sub_trans (by decide) hw) _ _ ?_ | refine State.updGns_touch (sub_trans (by decide) hw) _ _ ?_))

theorem execGsClkFail_touch (hw : 553648641 ||| w = w) : ∀ s, Touch w s₀ s → TouchR w s₀ (execGsClkFail s) := by
  intro s h; unfold execGsClkFail; try dsimp only
  repeat' with_reducible first
    | exact h
    | exact Touch.refl _ _
    | apply touchR_next
    | apply touchR_ite
    | refine State.updGns_touch (sub_trans (by decide) hw) _ _ ?_
    | refine State.updChan_touch (sub_trans (by decide) hw) _ _ _ ?_
    | refine State.burstEnd_touch (sub_trans (by decide) hw) _ ?_
    | refine State.raise_touch (sub_trans (by decide) hw) _ _ ?_
    | refine State.bump_touch (sub_trans (by decide) hw) _ _ _ ?_
    | apply touch_ite
    | apply touch_foldl
    | (intro _ _ _ k; try dsimp only)
    | (intro _ _; try dsimp only)

theorem execSampleOkRestore_touch (hw : 16777736 ||| w = w) : ∀ s, Touch w s₀ s → TouchR w s₀ (execSampleOkRestore s) := by
  intro s h; unfold execSampleOkRestore; try dsimp only
  repeat' with_reducible first
    | exact h
    | exact Touch.refl _ _
    | apply touchR_next
    | apply touchR_ite
    | refine State.advTo_touch (sub_trans (by decide) hw) _ _ ?_
    | refine State.updGns_touch (sub_trans (by decide) hw) _ _ ?_

theorem execAcqDetect_touch (hw : 16777216 ||| w = w) : ∀ c const prn cn0 dopp s, Touch w s₀ s → TouchR w s₀ (execAcqDetect c const prn cn0 dopp s) := by
  intro c const prn cn0 dopp s h; unfold execAcqDetect; try dsimp only
  repeat' with_reducible first
    | exact h
    | exact Touch.refl _ _
    | apply touchR_next
    | apply touchR_ite
    | refine State.trk_touch (sub_trans (by decide) hw) _ _ _ _ ?_
    | refine State.updChan_touch (sub_trans (by decide) hw) _ _ _ ?_

theorem State.trkBStart_touch (hw : 16777216 ||| w = w) : ∀ s c, Touch w s₀ s → Touch w s₀ (State.trkBStart s c) := by
  intro s c h; unfold State.trkBStart; try dsimp only
  repeat' with_reducible first
    | exact h
    | exact Touch.refl _ _
    | refine State.updChan_touch (sub_trans (by decide) hw) _ _ _ ?_
    | refine State.trk_touch (sub_trans (by decide) hw) _ _ _ _ ?_

theorem execTrackerLock_touch (hw : 16777216 ||| w = w) : ∀ c b bandB s, Touch w s₀ s → TouchR w s₀ (execTrackerLock c b bandB s) := by
  intro c b bandB s h; unfold execTrackerLock; try dsimp only
  repeat' with_reducible first
    | exact h
    | exact Touch.refl _ _
    | apply touchR_next
    | apply touchR_ite
    | refine State.trk_touch (sub_trans (by decide) hw) _ _ _ _ ?_
    | refine State.trkBStart_touch (sub_trans (by decide) hw) _ _ ?_
    | (apply touch_ite_then; on_goal 1 => solve | (repeat' first | exact Touch.refl _ _ | refine State.trk_touch (sub_trans (by decide) hw) _ _ _ _ ?_ | refine State.trkBStart_touch (sub_trans (by decide) hw) _ _ ?_))
    | apply touch_ite
    | apply touch_foldl
    | refine touch_snd (by assumption) ?_
    | (intro _; try dsimp only)
    | assumption
    | split

theorem execTrackerBRetry_touch (hw : 16777736 ||| w = w) : ∀ c s, Touch w s₀ s → TouchR w s₀ (execTrackerBRetry c s) := by
  intro c s h; unfold execTrackerBRetry; try dsimp only
  repeat' with_reducible first
    | exact h
    | exact Touch.refl _ _
    | apply touchR_next
    | apply touchR_ite
    | refine State.trkBStart_touch (sub_trans (by decide) hw) _ _ ?_
    | refine State.advTo_touch (sub_trans (by decide) hw) _ _ ?_

theorem execTrackerDrop_touch (hw : 16777216 ||| w = w) : ∀ c b s, Touch w s₀ s → TouchR w s₀ (execTrackerDrop c b s) := by
  intro c b s h; unfold execTrackerDrop; try dsimp only
  repeat' with_reducible first
    | exact h
    | exact Touch.refl _ _
    | apply touchR_next
    | apply touchR_ite
    | refine State.trk_touch (sub_trans (by decide) hw) _ _ _ _ ?_
    | apply touch_foldl
    | refine touch_snd (by assumption) ?_
    | (intro _; try dsimp only)
    | assumption
    | split

theorem execSidePeakMove_touch (hw : 16777217 ||| w = w) : ∀ p s, Touch w s₀ s → TouchR w s₀ (execSidePeakMove p s) := by
  intro p s h; unfold execSidePeakMove; try dsimp only
  repeat' with_reducible first
    | exact h
    | exact Touch.refl _ _
    | apply touchR_next
    | apply touchR_ite
    | refine State.updChan_touch (sub_trans (by decide) hw) _ _ _ ?_
    | refine State.bump_touch (sub_trans (by decide) hw) _ _ _ ?_
    | refine State.trk_touch (sub_trans (by decide) hw) _ _ _ _ ?_
    | (apply touch_ite_then; on_goal 1 => solve | (repeat' first | exact Touch.refl _ _ | refine State.updChan_touch (sub_trans (by decide) hw) _ _ _ ?_ | refine State.bump_touch (sub_trans (by decide) hw) _ _ _ ?_ | refine State.trk_touch (sub_trans (by decide) hw) _ _ _ _ ?_))
    | apply touch_ite
    | apply touch_foldl
    | refine touch_snd (by assumption) ?_
    | (intro _; try dsimp only)
    | assumption
    | split

theorem execReacqTimeout_touch (hw : 16777736 ||| w = w) : ∀ c b s, Touch w s₀ s → TouchR w s₀ (execReacqTimeout c b s) := by
  intro c b s h; unfold execReacqTimeout; try dsimp only
  repeat' with_reducible first
    | exact h
    | exact Touch.refl _ _
    | apply touchR_next
    | apply touchR_ite
    | refine State.advTo_touch (sub_trans (by decide) hw) _ _ ?_
    | refine State.updChan_touch (sub_trans (by decide) hw) _ _ _ ?_
    | refine State.trk_touch (sub_trans (by decide) hw) _ _ _ _ ?_
    | (apply touch_ite_then; on_goal 1 => solve | (repeat' first | exact Touch.refl _ _ | refine State.advTo_touch (sub_trans (by decide) hw) _ _ ?_ | refine State.updChan_touch (sub_trans (by decide) hw) _ _ _ ?_ | refine State.trk_touch (sub_trans (by decide) hw) _ _ _ _ ?_ | apply touch_foldl))
    | (apply touch_ite_else; on_goal 1 => solve | (repeat' first | exact Touch.refl _ _ | refine State.advTo_touch (sub_trans (by decide) hw) _ _ ?_ | refine State.updChan_touch (sub_trans (by decide) hw) _ _ _ ?_ | refine State.trk_touch (sub_trans (by decide) hw) _ _ _ _ ?_ | apply touch_foldl))
    | apply touch_ite

theorem State.ephPart_touch (hw : 16777216 ||| w = w) : ∀ s c part total issue toe, Touch w s₀ s → Touch w s₀ (State.ephPart s c part total issue toe) := by
  intro s c part total issue toe h; unfold State.ephPart; try dsimp only
  repeat' with_reducible first
    | exact h
    | exact Touch.refl _ _
    | refine State.updChan_touch (sub_trans (by decide) hw) _ _ _ ?_
    | (apply touch_ite_then; on_goal 1 => solve | (repeat' first | exact Touch.refl _ _ | refine State.updChan_touch (sub_trans (by decide) hw) _ _ _ ?_ | apply touch_foldl))
    | (apply touch_ite_else; on_goal 1 => solve | (repeat' first | exact Touch.refl _ _ | refine State.updChan_touch (sub_trans (by decide) hw) _ _ _ ?_ | apply touch_foldl))
    | apply touch_ite

theorem State.gnssLeap_touch (hw : 553911065 ||| w = w) : ∀ s c u, Touch w s₀ s → Touch w s₀ (State.gnssLeap s c u) := by
  intro s c u h; unfold State.gnssLeap; try dsimp only
  repeat' with_reducible first
    | exact h
    | exact Touch.refl _ _
    | refine State.updGns_touch (sub_trans (by decide) hw) _ _ ?_
    | refine State.raise_touch (sub_trans (by decide) hw) _ _ ?_
    | refine State.leapPut_touch (sub_trans (by decide) hw) _ _ ?_
    | (apply touch_ite_then; on_goal 1 => solve | (repeat' first | exact Touch.refl _ _ | refine State.updGns_touch (sub_trans (by decide) hw) _ _ ?_ | refine State.raise_touch (sub_trans (by decide) hw) _ _ ?_ | refine State.leapPut_touch (sub_trans (by decide) hw) _ _ ?_ | apply touch_foldl))
    | (apply touch_ite_else; on_goal 1 => solve | (repeat' first | exact Touch.refl _ _ | refine State.updGns_touch (sub_trans (by decide) hw) _ _ ?_ | refine State.raise_touch (sub_trans (by decide) hw) _ _ ?_ | refine State.leapPut_touch (sub_trans (by decide) hw) _ _ ?_ | apply touch_foldl))
    | apply touch_ite
    | apply touch_foldl
    | refine touch_snd (by assumption) ?_
    | (intro _; try dsimp only)
    | assumption
    | split

theorem State.offsetCheck_touch (hw : 553648641 ||| w = w) : ∀ s u, Touch w s₀ s → Touch w s₀ (State.offsetCheck s u) := by
  intro s u h; unfold State.offsetCheck; try dsimp only
  repeat' with_reducible first
    | exact h
    | exact Touch.refl _ _
    | refine State.updGns_touch (sub_trans (by decide) hw) _ _ ?_
    | refine State.raise_touch (sub_trans (by decide) hw) _ _ ?_
    | (apply touch_ite_then; on_goal 1 => solve | (repeat' first | exact Touch.refl _ _ | refine State.updGns_touch (sub_trans (by decide) hw) _ _ ?_ | refine State.raise_touch (sub_trans (by decide) hw) _ _ ?_))

theorem State.utcDecode_touch (hw : 553911065 ||| w = w) : ∀ s c count leap, Touch w s₀ s → Touch w s₀ (State.utcDecode s c count leap) := by
  intro s c count leap h; unfold State.utcDecode; try dsimp only
  repeat' with_reducible first
    | exact h
    | exact Touch.refl _ _
    | refine State.updGns_touch (sub_trans (by decide) hw) _ _ ?_
    | refine State.raise_touch (sub_trans (by decide) hw) _ _ ?_
    | refine State.offsetCheck_touch (sub_trans (by decide) hw) _ _ ?_
    | refine State.gnssLeap_touch (sub_trans (by decide) hw) _ _ _ ?_
    | (apply touch_ite_then; on_goal 1 => solve | (repeat' first | exact Touch.refl _ _ | refine State.updGns_touch (sub_trans (by decide) hw) _ _ ?_ | refine State.raise_touch (sub_trans (by decide) hw) _ _ ?_ | refine State.offsetCheck_touch (sub_trans (by decide) hw) _ _ ?_ | refine State.gnssLeap_touch (sub_trans (by decide) hw) _ _ _ ?_))

theorem execNavUnit_touch (hw : 553911065 ||| w = w) : ∀ c b good u s, Touch w s₀ s → TouchR w s₀ (execNavUnit c b good u s) := by
  intro c b good u s h; unfold execNavUnit; try dsimp only
  repeat' with_reducible first
    | exact h
    | exact Touch.refl _ _
    | apply touchR_next
    | apply touchR_ite
    | refine State.bump_touch (sub_trans (by decide) hw) _ _ _ ?_
    | refine State.trk_touch (sub_trans (by decide) hw) _ _ _ _ ?_
    | refine State.ephPart_touch (sub_trans (by decide) hw) _ _ _ _ _ _ ?_
    | refine State.utcDecode_touch (sub_trans (by decide) hw) _ _ _ _ ?_
    | (apply touch_ite_then; on_goal 1 => solve | (repeat' first | exact Touch.refl _ _ | refine State.bump_touch (sub_trans (by decide) hw) _ _ _ ?_ | refine State.trk_touch (sub_trans (by decide) hw) _ _ _ _ ?_ | refine State.ephPart_touch (sub_trans (by decide) hw) _ _ _ _ _ _ ?_ | refine State.utcDecode_touch (sub_trans (by decide) hw) _ _ _ _ ?_))
    | apply touch_ite
    | apply touch_foldl
    | refine touch_snd (by assumption) ?_
    | (intro _; try dsimp only)
    | assumption
    | split

theorem State.chanEpoch_touch (hw : 16777216 ||| w = w) : ∀ s ms c, Touch w s₀ s → Touch w s₀ (State.chanEpoch s ms c) := by
  intro s ms c h; unfold State.chanEpoch; try dsimp only
  repeat' with_reducible first
    | exact h
    | exact Touch.refl _ _
    | refine State.updChan_touch (sub_trans (by decide) hw) _ _ _ ?_

theorem State.fitEpoch_touch (hw : 553648641 ||| w = w) : ∀ n l s, Touch w s₀ s → Touch w s₀ (State.fitEpoch n l s).2 := by
  intro n
  induction n with
  | zero => intro l s h; cases l <;> exact h
  | succ n ih =>
    intro l s h
    cases l with
    | nil => exact h
    | cons f l =>
      unfold State.fitEpoch
      split
      · exact ih _ _ (State.raise_touch (sub_trans (by decide) hw) _ _ (State.bump_touch (sub_trans (by decide) hw) _ _ _ (State.updChan_touch (sub_trans (by decide) hw) _ _ _ h)))
      · exact h

theorem State.surveyStart_touch (hw : 553648641 ||| w = w) : ∀ s, Touch w s₀ s → Touch w s₀ (State.surveyStart s) := by
  intro s h; unfold State.surveyStart; try dsimp only
  repeat' with_reducible first
    | exact h
    | exact Touch.refl _ _
    | refine State.burstEnd_touch (sub_trans (by decide) hw) _ ?_
    | refine State.updGns_touch (sub_trans (by decide) hw) _ _ ?_

theorem State.surveyEnd_touch (hw : 553648641 ||| w = w) : ∀ s v timeout, Touch w s₀ s → Touch w s₀ (State.surveyEnd s v timeout) := by
  intro s v timeout h; unfold State.surveyEnd; try dsimp only
  repeat' with_reducible first
    | exact h
    | exact Touch.refl _ _
    | refine State.raise_touch (sub_trans (by decide) hw) _ _ ?_
    | refine State.updGns_touch (sub_trans (by decide) hw) _ _ ?_

theorem State.surveyEpoch_touch (hw : 553648641 ||| w = w) : ∀ s p, Touch w s₀ s → Touch w s₀ (State.surveyEpoch s p) := by
  intro s p h; unfold State.surveyEpoch; try dsimp only
  repeat' with_reducible first
    | exact h
    | exact Touch.refl _ _
    | refine State.updGns_touch (sub_trans (by decide) hw) _ _ ?_
    | refine State.surveyEnd_touch (sub_trans (by decide) hw) _ _ _ ?_
    | (apply touch_ite_then; on_goal 1 => solve | (repeat' first | exact Touch.refl _ _ | refine State.updGns_touch (sub_trans (by decide) hw) _ _ ?_ | refine State.surveyEnd_touch (sub_trans (by decide) hw) _ _ _ ?_ | apply touch_foldl))
    | (apply touch_ite_else; on_goal 1 => solve | (repeat' first | exact Touch.refl _ _ | refine State.updGns_touch (sub_trans (by decide) hw) _ _ ?_ | refine State.surveyEnd_touch (sub_trans (by decide) hw) _ _ _ ?_ | apply touch_foldl))
    | apply touch_ite
    | apply touch_foldl
    | refine touch_snd (by assumption) ?_
    | (intro _; try dsimp only)
    | assumption
    | split

theorem State.posCheck_touch (hw : 553648641 ||| w = w) : ∀ s f, Touch w s₀ s → Touch w s₀ (State.posCheck s f) := by
  intro s f h; unfold State.posCheck; try dsimp only
  repeat' with_reducible first
    | exact h
    | exact Touch.refl _ _
    | refine State.updGns_touch (sub_trans (by decide) hw) _ _ ?_
    | refine State.raise_touch (sub_trans (by decide) hw) _ _ ?_
    | refine State.surveyStart_touch (sub_trans (by decide) hw) _ ?_
    | (apply touch_ite_then; on_goal 1 => solve | (repeat' first | exact Touch.refl _ _ | refine State.updGns_touch (sub_trans (by decide) hw) _ _ ?_ | refine State.raise_touch (sub_trans (by decide) hw) _ _ ?_ | refine State.surveyStart_touch (sub_trans (by decide) hw) _ ?_ | apply touch_foldl))
    | (apply touch_ite_else; on_goal 1 => solve | (repeat' first | exact Touch.refl _ _ | refine State.updGns_touch (sub_trans (by decide) hw) _ _ ?_ | refine State.raise_touch (sub_trans (by decide) hw) _ _ ?_ | refine State.surveyStart_touch (sub_trans (by decide) hw) _ ?_ | apply touch_foldl))
    | apply touch_ite

theorem State.burstEpoch_touch (hw : 553648641 ||| w = w) : ∀ s fix, Touch w s₀ s → Touch w s₀ (State.burstEpoch s fix) := by
  intro s fix h; unfold State.burstEpoch; try dsimp only
  repeat' with_reducible first
    | exact h
    | exact Touch.refl _ _
    | refine State.burstEnd_touch (sub_trans (by decide) hw) _ ?_
    | refine State.raise_touch (sub_trans (by decide) hw) _ _ ?_
    | refine State.bump_touch (sub_trans (by decide) hw) _ _ _ ?_
    | refine State.updGns_touch (sub_trans (by decide) hw) _ _ ?_
    | (apply touch_ite_then; on_goal 1 => solve | (repeat' first | exact Touch.refl _ _ | refine State.burstEnd_touch (sub_trans (by decide) hw) _ ?_ | refine State.raise_touch (sub_trans (by decide) hw) _ _ ?_ | refine State.bump_touch (sub_trans (by decide) hw) _ _ _ ?_ | refine State.updGns_touch (sub_trans (by decide) hw) _ _ ?_ | apply touch_foldl))
    | (apply touch_ite_else; on_goal 1 => solve | (repeat' first | exact Touch.refl _ _ | refine State.burstEnd_touch (sub_trans (by decide) hw) _ ?_ | refine State.raise_touch (sub_trans (by decide) hw) _ _ ?_ | refine State.bump_touch (sub_trans (by decide) hw) _ _ _ ?_ | refine State.updGns_touch (sub_trans (by decide) hw) _ _ ?_ | apply touch_foldl))
    | apply touch_ite

theorem State.noFix_touch (hw : 553648641 ||| w = w) : ∀ s, Touch w s₀ s → Touch w s₀ (State.noFix s) := by
  intro s h; unfold State.noFix; try dsimp only
  repeat' with_reducible first
    | exact h
    | exact Touch.refl _ _
    | refine State.bump_touch (sub_trans (by decide) hw) _ _ _ ?_
    | refine State.raise_touch (sub_trans (by decide) hw) _ _ ?_
    | refine State.updGns_touch (sub_trans (by decide) hw) _ _ ?_
    | (apply touch_ite_then; on_goal 1 => solve | (repeat' first | exact Touch.refl _ _ | refine State.bump_touch (sub_trans (by decide) hw) _ _ _ ?_ | refine State.raise_touch (sub_trans (by decide) hw) _ _ ?_ | refine State.updGns_touch (sub_trans (by decide) hw) _ _ ?_))

theorem State.gnssMove_touch (hw : 12582912 ||| w = w) : ∀ s d, Touch w s₀ s → Touch w s₀ (State.gnssMove s d) := by
  intro s d h; unfold State.gnssMove; try dsimp only
  repeat' with_reducible first
    | exact h
    | exact Touch.refl _ _
    | refine State.updMon_touch (sub_trans (by decide) hw) _ _ _ ?_
    | refine State.updD_touch (sub_trans (by decide) hw) _ _ ?_
    | (apply touch_ite_then; on_goal 1 => solve | (repeat' first | exact Touch.refl _ _ | refine State.updMon_touch (sub_trans (by decide) hw) _ _ _ ?_ | refine State.updD_touch (sub_trans (by decide) hw) _ _ ?_ | apply touch_foldl))
    | (apply touch_ite_else; on_goal 1 => solve | (repeat' first | exact Touch.refl _ _ | refine State.updMon_touch (sub_trans (by decide) hw) _ _ _ ?_ | refine State.updD_touch (sub_trans (by decide) hw) _ _ ?_ | apply touch_foldl))
    | apply touch_ite

theorem execGnssEpoch_touch (hw : 566231561 ||| w = w) : ∀ ms fits moved s, Touch w s₀ s → TouchR w s₀ (execGnssEpoch ms fits moved s) := by
  intro ms fits moved s h; unfold execGnssEpoch; try dsimp only
  repeat' with_reducible first
    | exact h
    | exact Touch.refl _ _
    | apply touchR_next
    | apply touchR_ite
    | refine State.advDt_touch (sub_trans (by decide) hw) _ _ ?_
    | refine State.updGns_touch (sub_trans (by decide) hw) _ _ ?_
    | refine State.gnssMove_touch (sub_trans (by decide) hw) _ _ ?_
    | refine State.surveyStart_touch (sub_trans (by decide) hw) _ ?_
    | refine State.chanEpoch_touch (sub_trans (by decide) hw) _ _ _ ?_
    | refine State.fitEpoch_touch (sub_trans (by decide) hw) _ _ _ ?_
    | refine State.updChan_touch (sub_trans (by decide) hw) _ _ _ ?_
    | refine State.burstEpoch_touch (sub_trans (by decide) hw) _ _ ?_
    | refine State.surveyEpoch_touch (sub_trans (by decide) hw) _ _ ?_
    | refine State.noFix_touch (sub_trans (by decide) hw) _ ?_
    | refine State.posCheck_touch (sub_trans (by decide) hw) _ _ ?_
    | apply touch_ite
    | apply touch_foldl
    | (intro _ _ _ k; try dsimp only)
    | (intro _ _; try dsimp only)
    | refine touch_snd (by assumption) ?_
    | (intro _; try dsimp only)
    | assumption
    | split

theorem execExclusionExpire_touch (hw : 16777736 ||| w = w) : ∀ c s, Touch w s₀ s → TouchR w s₀ (execExclusionExpire c s) := by
  intro c s h; unfold execExclusionExpire; try dsimp only
  repeat' with_reducible first
    | exact h
    | exact Touch.refl _ _
    | apply touchR_next
    | apply touchR_ite
    | refine State.updChan_touch (sub_trans (by decide) hw) _ _ _ ?_
    | refine State.advDt_touch (sub_trans (by decide) hw) _ _ ?_
    | apply touch_foldl
    | refine touch_snd (by assumption) ?_
    | (intro _; try dsimp only)
    | assumption
    | split

theorem execRefreshEnd_touch (hw : 16777736 ||| w = w) : ∀ s, Touch w s₀ s → TouchR w s₀ (execRefreshEnd s) := by
  intro s h; unfold execRefreshEnd; try dsimp only
  repeat' with_reducible first
    | exact h
    | exact Touch.refl _ _
    | apply touchR_next
    | apply touchR_ite
    | refine State.updGns_touch (sub_trans (by decide) hw) _ _ ?_
    | refine State.advDt_touch (sub_trans (by decide) hw) _ _ ?_
    | apply touch_foldl
    | refine touch_snd (by assumption) ?_
    | (intro _; try dsimp only)
    | assumption
    | split

theorem execBurstWindow_touch (hw : 16777736 ||| w = w) : ∀ got s, Touch w s₀ s → TouchR w s₀ (execBurstWindow got s) := by
  intro got s h; unfold execBurstWindow; try dsimp only
  repeat' with_reducible first
    | exact h
    | exact Touch.refl _ _
    | apply touchR_next
    | apply touchR_ite
    | refine State.advDt_touch (sub_trans (by decide) hw) _ _ ?_
    | refine State.updChan_touch (sub_trans (by decide) hw) _ _ _ ?_
    | refine State.trk_touch (sub_trans (by decide) hw) _ _ _ _ ?_
    | (apply touch_ite_then; on_goal 1 => solve | (repeat' first | exact Touch.refl _ _ | refine State.advDt_touch (sub_trans (by decide) hw) _ _ ?_ | refine State.updChan_touch (sub_trans (by decide) hw) _ _ _ ?_ | refine State.trk_touch (sub_trans (by decide) hw) _ _ _ _ ?_))
    | apply touch_ite
    | apply touch_foldl
    | (intro _ _ _ k; try dsimp only)
    | (intro _ _; try dsimp only)

theorem execRawPps_touch (hw : 599785993 ||| w = w) : ∀ s, Touch w s₀ s → TouchR w s₀ (execRawPps s) := by
  intro s h; unfold execRawPps; try dsimp only
  repeat' with_reducible first
    | exact h
    | exact Touch.refl _ _
    | apply touchR_next
    | apply touchR_ite
    | refine State.advTo_touch (sub_trans (by decide) hw) _ _ ?_
    | refine State.updGns_touch (sub_trans (by decide) hw) _ _ ?_
    | refine State.emit_touch (sub_trans (by decide) hw) _ _ ?_
    | refine State.timSource_touch (sub_trans (by decide) hw) _ _ _ ?_
    | refine State.pulse_touch (sub_trans (by decide) hw) _ _ _ _ _ ?_
    | (apply touch_ite_then; on_goal 1 => solve | (repeat' first | exact Touch.refl _ _ | refine State.advTo_touch (sub_trans (by decide) hw) _ _ ?_ | refine State.updGns_touch (sub_trans (by decide) hw) _ _ ?_ | refine State.emit_touch (sub_trans (by decide) hw) _ _ ?_ | refine State.timSource_touch (sub_trans (by decide) hw) _ _ _ ?_ | refine State.pulse_touch (sub_trans (by decide) hw) _ _ _ _ _ ?_))
    | apply touch_ite
    | apply touch_foldl
    | (intro _ _ _ k; try dsimp only)
    | (intro _ _; try dsimp only)
    | refine touch_snd (by assumption) ?_
    | (intro _; try dsimp only)
    | assumption
    | split

theorem State.tmsgMissing_touch (hw : 541065737 ||| w = w) : ∀ s, Touch w s₀ s → Touch w s₀ (State.tmsgMissing s) := by
  intro s h; unfold State.tmsgMissing; try dsimp only
  repeat' with_reducible first
    | exact h
    | exact Touch.refl _ _
    | refine State.monLost_touch (sub_trans (by decide) hw) _ _ ?_
    | refine State.advDt_touch (sub_trans (by decide) hw) _ _ ?_
    | (apply touch_ite_then; on_goal 1 => solve | (repeat' first | exact Touch.refl _ _ | refine State.monLost_touch (sub_trans (by decide) hw) _ _ ?_ | refine State.advDt_touch (sub_trans (by decide) hw) _ _ ?_))

theorem execTmsgPublish_touch (hw : 557842953 ||| w = w) : ∀ s, Touch w s₀ s → TouchR w s₀ (execTmsgPublish s) := by
  intro s h; unfold execTmsgPublish; try dsimp only
  repeat' with_reducible first
    | exact h
    | exact Touch.refl _ _
    | apply touchR_next
    | apply touchR_ite
    | refine State.tmsgMissing_touch (sub_trans (by decide) hw) _ ?_
    | refine State.advDt_touch (sub_trans (by decide) hw) _ _ ?_
    | refine State.updGns_touch (sub_trans (by decide) hw) _ _ ?_
    | refine State.raise_touch (sub_trans (by decide) hw) _ _ ?_
    | refine State.monLost_touch (sub_trans (by decide) hw) _ _ ?_
    | refine State.monBack_touch (sub_trans (by decide) hw) _ _ ?_
    | refine State.labelCheck_touch (sub_trans (by decide) hw) _ _ _ _ ?_
    | (apply touch_ite_then; on_goal 1 => solve | (repeat' first | exact Touch.refl _ _ | refine State.tmsgMissing_touch (sub_trans (by decide) hw) _ ?_ | refine State.advDt_touch (sub_trans (by decide) hw) _ _ ?_ | refine State.updGns_touch (sub_trans (by decide) hw) _ _ ?_ | refine State.raise_touch (sub_trans (by decide) hw) _ _ ?_ | refine State.monLost_touch (sub_trans (by decide) hw) _ _ ?_ | refine State.monBack_touch (sub_trans (by decide) hw) _ _ ?_ | refine State.labelCheck_touch (sub_trans (by decide) hw) _ _ _ _ ?_))
    | apply touch_ite
    | apply touch_foldl
    | refine touch_snd (by assumption) ?_
    | (intro _; try dsimp only)
    | assumption
    | split

theorem State.tmsgCapture_touch (hw : 16777216 ||| w = w) : ∀ s m, Touch w s₀ s → Touch w s₀ (State.tmsgCapture s m) := by
  intro s m h; unfold State.tmsgCapture; try dsimp only
  repeat' with_reducible first
    | exact h
    | exact Touch.refl _ _
    | refine State.updGns_touch (sub_trans (by decide) hw) _ _ ?_

theorem execTmsgCapture_touch (hw : 16779264 ||| w = w) : ∀ m s, Touch w s₀ s → TouchR w s₀ (execTmsgCapture m s) := by
  intro m s h; unfold execTmsgCapture; try dsimp only
  repeat' with_reducible first
    | exact h
    | exact Touch.refl _ _
    | apply touchR_next
    | apply touchR_ite
    | refine State.tmsgCapture_touch (sub_trans (by decide) hw) _ _ ?_
    | fail_if_no_progress refine touch_bus (sub_trans (by decide) hw) ?_

theorem State.gnssCmd_touch (hw : 536871425 ||| w = w) : ∀ s m f, (∀ s, Touch w s₀ s → Touch w s₀ (f s)) → Touch w s₀ s → Touch w s₀ (State.gnssCmd s m f) :=
  fun s _ _ hf h => touch_ite (State.raise_touch (sub_trans (by decide) hw) s _ h) (hf s h)

theorem State.gnssCold_touch (hw : 553648641 ||| w = w) : ∀ s, Touch w s₀ s → Touch w s₀ (State.gnssCold s) := by
  intro s h; unfold State.gnssCold; try dsimp only
  repeat' with_reducible first
    | exact h
    | exact Touch.refl _ _
    | refine State.burstEnd_touch (sub_trans (by decide) hw) _ ?_
    | refine State.updGns_touch (sub_trans (by decide) hw) _ _ ?_

theorem execGnssResurvey_touch (hw : 553648641 ||| w = w) : ∀ m s, Touch w s₀ s → TouchR w s₀ (execGnssResurvey m s) := by
  intro m s h; unfold execGnssResurvey; try dsimp only
  repeat' with_reducible first
    | exact h
    | exact Touch.refl _ _
    | apply touchR_next
    | apply touchR_ite
    | refine State.gnssCmd_touch (sub_trans (by decide) hw) _ _ _ ?_ ?_
    | refine State.surveyStart_touch (sub_trans (by decide) hw) _ ?_
    | apply touch_foldl
    | (intro _ _ _ k; try dsimp only)
    | (intro _ _; try dsimp only)
    | refine touch_snd (by assumption) ?_
    | (intro _; try dsimp only)
    | assumption

theorem execGnssCold_touch (hw : 553648641 ||| w = w) : ∀ m s, Touch w s₀ s → TouchR w s₀ (execGnssCold m s) := by
  intro m s h; unfold execGnssCold; try dsimp only
  repeat' with_reducible first
    | exact h
    | exact Touch.refl _ _
    | apply touchR_next
    | apply touchR_ite
    | refine State.gnssCmd_touch (sub_trans (by decide) hw) _ _ _ ?_ ?_
    | refine State.gnssCold_touch (sub_trans (by decide) hw) _ ?_
    | apply touch_foldl
    | (intro _ _ _ k; try dsimp only)
    | (intro _ _; try dsimp only)
    | refine touch_snd (by assumption) ?_
    | (intro _; try dsimp only)
    | assumption

theorem State.chRead_touch (hw : 16777216 ||| w = w) : ∀ s, Touch w s₀ s → Touch w s₀ (State.chRead s) := by
  intro s h; unfold State.chRead; try dsimp only
  repeat' with_reducible first
    | exact h
    | exact Touch.refl _ _
    | refine State.updGns_touch (sub_trans (by decide) hw) _ _ ?_

theorem execChRead_touch (hw : 16777216 ||| w = w) : ∀ s, Touch w s₀ s → TouchR w s₀ (execChRead s) := by
  intro s h; unfold execChRead; try dsimp only
  repeat' with_reducible first
    | exact h
    | exact Touch.refl _ _
    | apply touchR_next
    | apply touchR_ite
    | refine State.chRead_touch (sub_trans (by decide) hw) _ ?_

theorem State.gnssCommit_touch (hw : 557842945 ||| w = w) : ∀ s old, Touch w s₀ s → Touch w s₀ (State.gnssCommit s old) := by
  intro s old h; unfold State.gnssCommit; try dsimp only
  repeat' with_reducible first
    | exact h
    | exact Touch.refl _ _
    | refine State.monLost_touch (sub_trans (by decide) hw) _ _ ?_
    | refine State.updGns_touch (sub_trans (by decide) hw) _ _ ?_
    | refine State.burstEnd_touch (sub_trans (by decide) hw) _ ?_
    | refine State.refoutSync_touch (sub_trans (by decide) hw) _ ?_
    | fail_if_no_progress refine touch_gns (sub_trans (by decide) hw) ?_
    | (apply touch_ite_then; on_goal 1 => solve | (repeat' first | exact Touch.refl _ _ | refine State.monLost_touch (sub_trans (by decide) hw) _ _ ?_ | refine State.updGns_touch (sub_trans (by decide) hw) _ _ ?_ | refine State.burstEnd_touch (sub_trans (by decide) hw) _ ?_ | refine State.refoutSync_touch (sub_trans (by decide) hw) _ ?_ | fail_if_no_progress refine touch_gns (sub_trans (by decide) hw) ?_ | apply touch_foldl))
    | (apply touch_ite_else; on_goal 1 => solve | (repeat' first | exact Touch.refl _ _ | refine State.monLost_touch (sub_trans (by decide) hw) _ _ ?_ | refine State.updGns_touch (sub_trans (by decide) hw) _ _ ?_ | refine State.burstEnd_touch (sub_trans (by decide) hw) _ ?_ | refine State.refoutSync_touch (sub_trans (by decide) hw) _ ?_ | fail_if_no_progress refine touch_gns (sub_trans (by decide) hw) ?_ | apply touch_foldl))
    | apply touch_ite

end Sys2Proof.Machine
end

