-- ==== Sys2Proof/Laws/Keeps/LinkRows.lean ====
section
/-!
SUPPORT. What each operation of LinkRows keeps.
-/

namespace Sys2Proof.Machine

variable {w : Nat} {s₀ : State}

theorem execLinkDown_touch (hw : 542192129 ||| w = w) : ∀ n lanes s, Touch w s₀ s → TouchR w s₀ (execLinkDown n lanes s) := by
  intro n lanes s h; unfold execLinkDown; try dsimp only
  repeat' with_reducible first
    | exact h
    | exact Touch.refl _ _
    | apply touchR_next
    | apply touchR_ite
    | refine State.internalRefs_touch (sub_trans (by decide) hw) _ ?_
    | refine State.updPort_touch (sub_trans (by decide) hw) _ _ _ ?_
    | refine State.linkDown_touch (sub_trans (by decide) hw) _ _ _ _ ?_

theorem execCalRetry_touch (hw : 542192129 ||| w = w) : ∀ n s, Touch w s₀ s → TouchR w s₀ (execCalRetry n s) := by
  intro n s h; unfold execCalRetry; try dsimp only
  repeat' with_reducible first
    | exact h
    | exact Touch.refl _ _
    | apply touchR_next
    | apply touchR_ite
    | refine State.internalRefs_touch (sub_trans (by decide) hw) _ ?_
    | refine State.calRetry_touch (sub_trans (by decide) hw) _ _ ?_

theorem execLinkUp_touch (hw : 542118665 ||| w = w) : ∀ n c s, Touch w s₀ s → TouchR w s₀ (execLinkUp n c s) := by
  intro n c s h; unfold execLinkUp; try dsimp only
  repeat' with_reducible first
    | exact h
    | exact Touch.refl _ _
    | apply touchR_next
    | apply touchR_ite
    | refine State.calLoad_touch (sub_trans (by decide) hw) _ _ _ ?_
    | refine State.advTo_touch (sub_trans (by decide) hw) _ _ ?_
    | refine State.updPort_touch (sub_trans (by decide) hw) _ _ _ ?_
    | refine State.syncArm_touch (sub_trans (by decide) hw) _ _ _ ?_
    | refine State.internalRefs_touch (sub_trans (by decide) hw) _ ?_
    | refine State.clPortUp_touch (sub_trans (by decide) hw) _ _ ?_
    | refine State.portEvt_touch (sub_trans (by decide) hw) _ _ _ ?_

end Sys2Proof.Machine
end

