-- ==== Sys2Proof/Laws/Keeps/Mbx.lean ====
section
/-!
SUPPORT. What each operation of Mbx keeps.
-/

namespace Sys2Proof.Machine

variable {w : Nat} {s₀ : State}

theorem State.chanAccess_touch (hw : 536871425 ||| w = w) : ∀ s c m t, State.chanAccess s c m = .error t → Touch w s₀ s → Touch w s₀ t := by
  intro s c m t e h
  unfold State.chanAccess at e
  split at e
  · cases e; exact State.raise_touch (sub_trans (by decide) hw) _ _ h
  · split at e <;> cases e
    exact State.raise_touch (sub_trans (by decide) hw) _ _ h

theorem State.answer_touch (hw : 2048 ||| w = w) : ∀ s v, Touch w s₀ s → Touch w s₀ (State.answer s v) := by
  intro s v h; unfold State.answer; try dsimp only
  repeat' with_reducible first
    | exact h
    | exact Touch.refl _ _
    | fail_if_no_progress refine touch_bus (sub_trans (by decide) hw) ?_

theorem State.updDb_touch (hw : 536872449 ||| w = w) : ∀ s e f, Touch w s₀ s → Touch w s₀ (State.updDb s e f) := by
  intro s e f h; unfold State.updDb; try dsimp only
  repeat' with_reducible first
    | exact h
    | exact Touch.refl _ _
    | refine State.updChEnd_touch (sub_trans (by decide) hw) _ _ _ ?_
    | refine State.raise_touch (sub_trans (by decide) hw) _ _ ?_
    | (apply touch_ite_then; on_goal 1 => solve | (repeat' first | exact Touch.refl _ _ | refine State.updChEnd_touch (sub_trans (by decide) hw) _ _ _ ?_ | refine State.raise_touch (sub_trans (by decide) hw) _ _ ?_))

theorem State.ring_touch (hw : 536872449 ||| w = w) : ∀ s e bits, Touch w s₀ s → Touch w s₀ (State.ring s e bits) := by
  intro s e bits h; unfold State.ring; try dsimp only
  repeat' with_reducible first
    | exact h
    | exact Touch.refl _ _
    | refine State.updDb_touch (sub_trans (by decide) hw) _ _ _ ?_
    | refine State.updChEnd_touch (sub_trans (by decide) hw) _ _ _ ?_
    | (apply touch_ite_then; on_goal 1 => solve | (repeat' first | exact Touch.refl _ _ | refine State.updDb_touch (sub_trans (by decide) hw) _ _ _ ?_ | refine State.updChEnd_touch (sub_trans (by decide) hw) _ _ _ ?_ | apply touch_foldl))
    | (apply touch_ite_else; on_goal 1 => solve | (repeat' first | exact Touch.refl _ _ | refine State.updDb_touch (sub_trans (by decide) hw) _ _ _ ?_ | refine State.updChEnd_touch (sub_trans (by decide) hw) _ _ _ ?_ | apply touch_foldl))
    | apply touch_ite

theorem State.send_touch (hw : 536872449 ||| w = w) : ∀ s e x2, Touch w s₀ s → Touch w s₀ (State.send s e x2) := by
  intro s e x2 h; unfold State.send; try dsimp only
  repeat' with_reducible first
    | exact h
    | exact Touch.refl _ _
    | refine State.updChEnd_touch (sub_trans (by decide) hw) _ _ _ ?_
    | refine State.raiseLim_touch (sub_trans (by decide) hw) _ _ _ _ ?_
    | (apply touch_ite_then; on_goal 1 => solve | (repeat' first | exact Touch.refl _ _ | refine State.updChEnd_touch (sub_trans (by decide) hw) _ _ _ ?_ | refine State.raiseLim_touch (sub_trans (by decide) hw) _ _ _ _ ?_ | apply touch_foldl))
    | (apply touch_ite_else; on_goal 1 => solve | (repeat' first | exact Touch.refl _ _ | refine State.updChEnd_touch (sub_trans (by decide) hw) _ _ _ ?_ | refine State.raiseLim_touch (sub_trans (by decide) hw) _ _ _ _ ?_ | apply touch_foldl))
    | apply touch_ite

theorem execMbxTx_touch (hw : 536872449 ||| w = w) : ∀ c m x2 s, Touch w s₀ s → TouchR w s₀ (execMbxTx c m x2 s) := by
  intro c m x2 s h; unfold execMbxTx; try dsimp only
  repeat' with_reducible first
    | exact h
    | exact Touch.refl _ _
    | apply touchR_next
    | apply touchR_ite
    | refine State.send_touch (sub_trans (by decide) hw) _ _ _ ?_
    | apply touch_foldl
    | refine State.chanAccess_touch (sub_trans (by decide) hw) _ _ _ _ (by assumption) ?_
    | refine touch_snd (by assumption) ?_
    | (intro _; try dsimp only)
    | assumption
    | split

theorem execMbxRx_touch (hw : 536874497 ||| w = w) : ∀ c m s, Touch w s₀ s → TouchR w s₀ (execMbxRx c m s) := by
  intro c m s h; unfold execMbxRx; try dsimp only
  repeat' with_reducible first
    | exact h
    | exact Touch.refl _ _
    | apply touchR_next
    | apply touchR_ite
    | refine State.answer_touch (sub_trans (by decide) hw) _ _ ?_
    | refine State.updChEnd_touch (sub_trans (by decide) hw) _ _ _ ?_
    | apply touch_foldl
    | refine State.chanAccess_touch (sub_trans (by decide) hw) _ _ _ _ (by assumption) ?_
    | refine touch_snd (by assumption) ?_
    | (intro _; try dsimp only)
    | assumption
    | split

theorem execMbxDbRing_touch (hw : 536872449 ||| w = w) : ∀ c m bits s, Touch w s₀ s → TouchR w s₀ (execMbxDbRing c m bits s) := by
  intro c m bits s h; unfold execMbxDbRing; try dsimp only
  repeat' with_reducible first
    | exact h
    | exact Touch.refl _ _
    | apply touchR_next
    | apply touchR_ite
    | refine State.ring_touch (sub_trans (by decide) hw) _ _ _ ?_
    | apply touch_foldl
    | refine State.chanAccess_touch (sub_trans (by decide) hw) _ _ _ _ (by assumption) ?_
    | refine touch_snd (by assumption) ?_
    | (intro _; try dsimp only)
    | assumption
    | split

theorem execMbxDbClear_touch (hw : 536872449 ||| w = w) : ∀ c m bits s, Touch w s₀ s → TouchR w s₀ (execMbxDbClear c m bits s) := by
  intro c m bits s h; unfold execMbxDbClear; try dsimp only
  repeat' with_reducible first
    | exact h
    | exact Touch.refl _ _
    | apply touchR_next
    | apply touchR_ite
    | refine State.updChEnd_touch (sub_trans (by decide) hw) _ _ _ ?_
    | apply touch_foldl
    | refine State.chanAccess_touch (sub_trans (by decide) hw) _ _ _ _ (by assumption) ?_
    | refine touch_snd (by assumption) ?_
    | (intro _; try dsimp only)
    | assumption
    | split

theorem execMbxAckWaitStart_touch (hw : 536872449 ||| w = w) : ∀ c m s, Touch w s₀ s → TouchR w s₀ (execMbxAckWaitStart c m s) := by
  intro c m s h; unfold execMbxAckWaitStart; try dsimp only
  repeat' with_reducible first
    | exact h
    | exact Touch.refl _ _
    | apply touchR_next
    | apply touchR_ite
    | refine State.updChEnd_touch (sub_trans (by decide) hw) _ _ _ ?_
    | apply touch_foldl
    | refine State.chanAccess_touch (sub_trans (by decide) hw) _ _ _ _ (by assumption) ?_
    | refine touch_snd (by assumption) ?_
    | (intro _; try dsimp only)
    | assumption
    | split

theorem execMbxAckWaitCancel_touch (hw : 536872449 ||| w = w) : ∀ c m s, Touch w s₀ s → TouchR w s₀ (execMbxAckWaitCancel c m s) := by
  intro c m s h; unfold execMbxAckWaitCancel; try dsimp only
  repeat' with_reducible first
    | exact h
    | exact Touch.refl _ _
    | apply touchR_next
    | apply touchR_ite
    | refine State.updChEnd_touch (sub_trans (by decide) hw) _ _ _ ?_
    | apply touch_foldl
    | refine State.chanAccess_touch (sub_trans (by decide) hw) _ _ _ _ (by assumption) ?_
    | refine touch_snd (by assumption) ?_
    | (intro _; try dsimp only)
    | assumption
    | split

theorem execMbxAckTimeout_touch (hw : 536872457 ||| w = w) : ∀ e s, Touch w s₀ s → TouchR w s₀ (execMbxAckTimeout e s) := by
  intro e s h; unfold execMbxAckTimeout; try dsimp only
  repeat' with_reducible first
    | exact h
    | exact Touch.refl _ _
    | apply touchR_next
    | apply touchR_ite
    | refine State.advTo_touch (sub_trans (by decide) hw) _ _ ?_
    | refine State.raise_touch (sub_trans (by decide) hw) _ _ ?_
    | refine State.updDb_touch (sub_trans (by decide) hw) _ _ _ ?_
    | apply touch_ite
    | apply touch_foldl
    | refine touch_snd (by assumption) ?_
    | (intro _; try dsimp only)
    | assumption
    | split

theorem State.semReclaim_touch (hw : 536872449 ||| w = w) : ∀ s m, Touch w s₀ s → Touch w s₀ (State.semReclaim s m) := by
  intro s m h; unfold State.semReclaim; try dsimp only
  repeat' with_reducible first
    | exact h
    | exact Touch.refl _ _
    | refine State.raise_touch (sub_trans (by decide) hw) _ _ ?_
    | refine State.updSem_touch (sub_trans (by decide) hw) _ _ _ ?_
    | (apply touch_ite_then; on_goal 1 => solve | (repeat' first | exact Touch.refl _ _ | refine State.raise_touch (sub_trans (by decide) hw) _ _ ?_ | refine State.updSem_touch (sub_trans (by decide) hw) _ _ _ ?_))
    | apply touch_ite
    | apply touch_foldl
    | (intro _ _ _ k; try dsimp only)
    | (intro _ _; try dsimp only)

theorem State.endReset_touch (hw : 536872449 ||| w = w) : ∀ s e, Touch w s₀ s → Touch w s₀ (State.endReset s e) := by
  intro s e h; unfold State.endReset; try dsimp only
  repeat' with_reducible first
    | exact h
    | exact Touch.refl _ _
    | refine State.updChEnd_touch (sub_trans (by decide) hw) _ _ _ ?_
    | refine State.raise_touch (sub_trans (by decide) hw) _ _ ?_
    | refine State.updDb_touch (sub_trans (by decide) hw) _ _ _ ?_

theorem State.masterReset_touch (hw : 536872449 ||| w = w) : ∀ s m, Touch w s₀ s → Touch w s₀ (State.masterReset s m) := by
  intro s m h; unfold State.masterReset; try dsimp only
  repeat' with_reducible first
    | exact h
    | exact Touch.refl _ _
    | refine State.semReclaim_touch (sub_trans (by decide) hw) _ _ ?_
    | refine State.endReset_touch (sub_trans (by decide) hw) _ _ ?_
    | apply touch_foldl
    | (intro _ _ _ k; try dsimp only)
    | (intro _ _; try dsimp only)

theorem State.openEnds_touch (hw : 1024 ||| w = w) : ∀ s m pf1, Touch w s₀ s → Touch w s₀ (State.openEnds s m pf1) := by
  intro s m pf1 h; unfold State.openEnds; try dsimp only
  repeat' with_reducible first
    | exact h
    | exact Touch.refl _ _
    | refine State.updChEnd_touch (sub_trans (by decide) hw) _ _ _ ?_
    | (apply touch_ite_then; on_goal 1 => solve | (repeat' first | exact Touch.refl _ _ | refine State.updChEnd_touch (sub_trans (by decide) hw) _ _ _ ?_ | apply touch_foldl))
    | (apply touch_ite_else; on_goal 1 => solve | (repeat' first | exact Touch.refl _ _ | refine State.updChEnd_touch (sub_trans (by decide) hw) _ _ _ ?_ | apply touch_foldl | (intro _ _; try dsimp only)))

theorem execMbxEpReset_touch (hw : 536872449 ||| w = w) : ∀ m s, Touch w s₀ s → TouchR w s₀ (execMbxEpReset m s) := by
  intro m s h; unfold execMbxEpReset; try dsimp only
  repeat' with_reducible first
    | exact h
    | exact Touch.refl _ _
    | apply touchR_next
    | apply touchR_ite
    | refine State.masterReset_touch (sub_trans (by decide) hw) _ _ ?_
    | (apply touch_ite_then; on_goal 1 => solve | (repeat' first | exact Touch.refl _ _ | refine State.masterReset_touch (sub_trans (by decide) hw) _ _ ?_ | apply touch_foldl))
    | (apply touch_ite_else; on_goal 1 => solve | (repeat' first | exact Touch.refl _ _ | refine State.masterReset_touch (sub_trans (by decide) hw) _ _ ?_))

theorem execMbxOpen_touch (hw : 1024 ||| w = w) : ∀ m s, Touch w s₀ s → TouchR w s₀ (execMbxOpen m s) := by
  intro m s h; unfold execMbxOpen; try dsimp only
  repeat' with_reducible first
    | exact h
    | exact Touch.refl _ _
    | apply touchR_next
    | apply touchR_ite
    | refine State.openEnds_touch (sub_trans (by decide) hw) _ _ _ ?_
    | (apply touch_ite_then; on_goal 1 => solve | (repeat' first | exact Touch.refl _ _ | refine State.openEnds_touch (sub_trans (by decide) hw) _ _ _ ?_ | apply touch_foldl))
    | (apply touch_ite_else; on_goal 1 => solve | (repeat' first | exact Touch.refl _ _ | refine State.openEnds_touch (sub_trans (by decide) hw) _ _ _ ?_))

theorem execPcieFunctionReset_touch (hw : 536872449 ||| w = w) : ∀ pf0 pf1 s, Touch w s₀ s → TouchR w s₀ (execPcieFunctionReset pf0 pf1 s) := by
  intro pf0 pf1 s h; unfold execPcieFunctionReset; try dsimp only
  repeat' with_reducible first
    | exact h
    | exact Touch.refl _ _
    | apply touchR_next
    | apply touchR_ite
    | refine State.masterReset_touch (sub_trans (by decide) hw) _ _ ?_
    | fail_if_no_progress refine touch_evt (sub_trans (by decide) hw) ?_
    | (apply touch_ite_then; on_goal 1 => solve | (repeat' first | exact Touch.refl _ _ | refine State.masterReset_touch (sub_trans (by decide) hw) _ _ ?_ | fail_if_no_progress refine touch_evt (sub_trans (by decide) hw) ?_))

theorem execSemAcquire_touch (hw : 536874497 ||| w = w) : ∀ i m s, Touch w s₀ s → TouchR w s₀ (execSemAcquire i m s) := by
  intro i m s h; unfold execSemAcquire; try dsimp only
  repeat' with_reducible first
    | exact h
    | exact Touch.refl _ _
    | apply touchR_next
    | apply touchR_ite
    | refine State.answer_touch (sub_trans (by decide) hw) _ _ ?_
    | refine State.raise_touch (sub_trans (by decide) hw) _ _ ?_
    | refine State.updSem_touch (sub_trans (by decide) hw) _ _ _ ?_

theorem execSemRelease_touch (hw : 536872449 ||| w = w) : ∀ i m s, Touch w s₀ s → TouchR w s₀ (execSemRelease i m s) := by
  intro i m s h; unfold execSemRelease; try dsimp only
  repeat' with_reducible first
    | exact h
    | exact Touch.refl _ _
    | apply touchR_next
    | apply touchR_ite
    | refine State.raise_touch (sub_trans (by decide) hw) _ _ ?_
    | refine State.updSem_touch (sub_trans (by decide) hw) _ _ _ ?_

theorem execSemForce_touch (hw : 536872449 ||| w = w) : ∀ i m s, Touch w s₀ s → TouchR w s₀ (execSemForce i m s) := by
  intro i m s h; unfold execSemForce; try dsimp only
  repeat' with_reducible first
    | exact h
    | exact Touch.refl _ _
    | apply touchR_next
    | apply touchR_ite
    | refine State.raise_touch (sub_trans (by decide) hw) _ _ ?_
    | refine State.updSem_touch (sub_trans (by decide) hw) _ _ _ ?_

theorem State.fwSendNow_touch (hw : 536872449 ||| w = w) : ∀ s c m, Touch w s₀ s → Touch w s₀ (State.fwSendNow s c m) := by
  intro s c m h; unfold State.fwSendNow; try dsimp only
  repeat' with_reducible first
    | exact h
    | exact Touch.refl _ _
    | refine State.ring_touch (sub_trans (by decide) hw) _ _ _ ?_
    | refine State.send_touch (sub_trans (by decide) hw) _ _ _ ?_
    | apply touch_foldl
    | (intro _ _ _ k; try dsimp only)
    | (intro _ _; try dsimp only)

theorem State.fwSend_touch (hw : 536872449 ||| w = w) : ∀ s c m, Touch w s₀ s → Touch w s₀ (State.fwSend s c m) := by
  intro s c m h; unfold State.fwSend; try dsimp only
  repeat' with_reducible first
    | exact h
    | exact Touch.refl _ _
    | refine State.updChEnd_touch (sub_trans (by decide) hw) _ _ _ ?_
    | refine State.fwSendNow_touch (sub_trans (by decide) hw) _ _ _ ?_
    | refine State.updFwChan_touch (sub_trans (by decide) hw) _ _ _ ?_
    | (apply touch_ite_then; on_goal 1 => solve | (repeat' first | exact Touch.refl _ _ | refine State.updChEnd_touch (sub_trans (by decide) hw) _ _ _ ?_ | refine State.fwSendNow_touch (sub_trans (by decide) hw) _ _ _ ?_ | refine State.updFwChan_touch (sub_trans (by decide) hw) _ _ _ ?_ | apply touch_foldl))
    | (apply touch_ite_else; on_goal 1 => solve | (repeat' first | exact Touch.refl _ _ | refine State.updChEnd_touch (sub_trans (by decide) hw) _ _ _ ?_ | refine State.fwSendNow_touch (sub_trans (by decide) hw) _ _ _ ?_ | refine State.updFwChan_touch (sub_trans (by decide) hw) _ _ _ ?_ | apply touch_foldl))
    | apply touch_ite

theorem State.fwCompletions_touch (hw : 538969601 ||| w = w) : ∀ s, Touch w s₀ s → Touch w s₀ (State.fwCompletions s) := by
  intro s h; unfold State.fwCompletions; try dsimp only
  repeat' with_reducible first
    | exact h
    | exact Touch.refl _ _
    | refine State.cplSet_touch (sub_trans (by decide) hw) _ _ _ _ ?_
    | refine State.fwSend_touch (sub_trans (by decide) hw) _ _ _ ?_
    | fail_if_no_progress refine touch_mbx (sub_trans (by decide) hw) ?_
    | apply touch_foldl
    | (intro _ _ _ k; try dsimp only)
    | (intro _ _; try dsimp only)
    | refine touch_snd (by assumption) ?_
    | (intro _; try dsimp only)
    | assumption
    | split

theorem State.jobsEnded_touch (hw : 539756033 ||| w = w) : ∀ s, Touch w s₀ s → Touch w s₀ (State.jobsEnded s) := by
  intro s h; unfold State.jobsEnded; try dsimp only
  repeat' with_reducible first
    | exact h
    | exact Touch.refl _ _
    | refine State.carafeReconcile_touch (sub_trans (by decide) hw) _ ?_
    | refine State.fwCompletions_touch (sub_trans (by decide) hw) _ ?_

theorem State.coreJobs_touch (hw : 807404033 ||| w = w) : ∀ s c, Touch w s₀ s → Touch w s₀ (State.coreJobs s c) := by
  intro s c h; unfold State.coreJobs; try dsimp only
  repeat' with_reducible first
    | exact h
    | exact Touch.refl _ _
    | refine State.outBegun_touch (sub_trans (by decide) hw) _ _ ?_
    | refine State.abortRunning_touch (sub_trans (by decide) hw) _ _ _ ?_
    | refine State.abortPending_touch (sub_trans (by decide) hw) _ _ _ ?_
    | refine State.updEng_touch (sub_trans (by decide) hw) _ _ _ ?_
    | refine State.cplFree_touch (sub_trans (by decide) hw) _ _ ?_
    | (apply touch_ite_then; on_goal 1 => solve | (repeat' first | exact Touch.refl _ _ | refine State.outBegun_touch (sub_trans (by decide) hw) _ _ ?_ | refine State.abortRunning_touch (sub_trans (by decide) hw) _ _ _ ?_ | refine State.abortPending_touch (sub_trans (by decide) hw) _ _ _ ?_ | refine State.updEng_touch (sub_trans (by decide) hw) _ _ _ ?_ | refine State.cplFree_touch (sub_trans (by decide) hw) _ _ ?_ | apply touch_foldl))
    | (apply touch_ite_else; on_goal 1 => solve | (repeat' first | exact Touch.refl _ _ | refine State.outBegun_touch (sub_trans (by decide) hw) _ _ ?_ | refine State.abortRunning_touch (sub_trans (by decide) hw) _ _ _ ?_ | refine State.abortPending_touch (sub_trans (by decide) hw) _ _ _ ?_ | refine State.updEng_touch (sub_trans (by decide) hw) _ _ _ ?_ | refine State.cplFree_touch (sub_trans (by decide) hw) _ _ ?_ | apply touch_foldl))
    | apply touch_ite
    | apply touch_foldl
    | (intro _ _ _ k; try dsimp only)
    | (intro _ _; try dsimp only)
    | refine touch_snd (by assumption) ?_
    | (intro _; try dsimp only)
    | assumption
    | split

theorem State.coreReset_touch (hw : 808191497 ||| w = w) : ∀ s c, Touch w s₀ s → Touch w s₀ (State.coreReset s c) := by
  intro s c h; unfold State.coreReset; try dsimp only
  repeat' with_reducible first
    | exact h
    | exact Touch.refl _ _
    | refine State.masterReset_touch (sub_trans (by decide) hw) _ _ ?_
    | refine State.slotDisarm_touch (sub_trans (by decide) hw) _ _ ?_
    | refine State.coreJobs_touch (sub_trans (by decide) hw) _ _ ?_
    | refine State.setConns_touch (sub_trans (by decide) hw) _ _ ?_
    | refine State.updFwChan_touch (sub_trans (by decide) hw) _ _ _ ?_
    | refine State.carafeReconcile_touch (sub_trans (by decide) hw) _ ?_
    | fail_if_no_progress refine touch_mbx (sub_trans (by decide) hw) ?_
    | apply touch_foldl
    | (intro _ _ _ k; try dsimp only)
    | (intro _ _; try dsimp only)

theorem execWdtWarn_touch (hw : 536872457 ||| w = w) : ∀ c s, Touch w s₀ s → TouchR w s₀ (execWdtWarn c s) := by
  intro c s h; unfold execWdtWarn; try dsimp only
  repeat' with_reducible first
    | exact h
    | exact Touch.refl _ _
    | apply touchR_next
    | apply touchR_ite
    | refine State.advTo_touch (sub_trans (by decide) hw) _ _ ?_
    | refine State.raise_touch (sub_trans (by decide) hw) _ _ ?_
    | refine State.updCore_touch (sub_trans (by decide) hw) _ _ _ ?_

theorem State.coreFail_touch (hw : 536872449 ||| w = w) : ∀ s c, Touch w s₀ s → Touch w s₀ (State.coreFail s c) := by
  intro s c h; unfold State.coreFail; try dsimp only
  repeat' with_reducible first
    | exact h
    | exact Touch.refl _ _
    | refine State.alarmSync_touch (sub_trans (by decide) hw) _ ?_
    | refine State.raise_touch (sub_trans (by decide) hw) _ _ ?_
    | refine State.updCore_touch (sub_trans (by decide) hw) _ _ _ ?_

theorem State.coreRestart_touch (hw : 808191497 ||| w = w) : ∀ s c, Touch w s₀ s → Touch w s₀ (State.coreRestart s c) := by
  intro s c h; unfold State.coreRestart; try dsimp only
  repeat' with_reducible first
    | exact h
    | exact Touch.refl _ _
    | refine State.coreReset_touch (sub_trans (by decide) hw) _ _ ?_
    | refine State.coreFail_touch (sub_trans (by decide) hw) _ _ ?_
    | refine State.raise_touch (sub_trans (by decide) hw) _ _ ?_
    | refine State.bump_touch (sub_trans (by decide) hw) _ _ _ ?_
    | refine State.updCore_touch (sub_trans (by decide) hw) _ _ _ ?_
    | (apply touch_ite_then; on_goal 1 => solve | (repeat' first | exact Touch.refl _ _ | refine State.coreReset_touch (sub_trans (by decide) hw) _ _ ?_ | refine State.coreFail_touch (sub_trans (by decide) hw) _ _ ?_ | refine State.raise_touch (sub_trans (by decide) hw) _ _ ?_ | refine State.bump_touch (sub_trans (by decide) hw) _ _ _ ?_ | refine State.updCore_touch (sub_trans (by decide) hw) _ _ _ ?_ | apply touch_foldl))
    | (apply touch_ite_else; on_goal 1 => solve | (repeat' first | exact Touch.refl _ _ | refine State.coreReset_touch (sub_trans (by decide) hw) _ _ ?_ | refine State.coreFail_touch (sub_trans (by decide) hw) _ _ ?_ | refine State.raise_touch (sub_trans (by decide) hw) _ _ ?_ | refine State.bump_touch (sub_trans (by decide) hw) _ _ _ ?_ | refine State.updCore_touch (sub_trans (by decide) hw) _ _ _ ?_ | apply touch_foldl))
    | apply touch_ite

theorem execWdtExpire_touch (hw : 808191497 ||| w = w) : ∀ c s, Touch w s₀ s → TouchR w s₀ (execWdtExpire c s) := by
  intro c s h; unfold execWdtExpire; try dsimp only
  repeat' with_reducible first
    | exact h
    | exact Touch.refl _ _
    | apply touchR_next
    | apply touchR_ite
    | refine State.coreRestart_touch (sub_trans (by decide) hw) _ _ ?_
    | refine State.advTo_touch (sub_trans (by decide) hw) _ _ ?_
    | (apply touch_ite_then; on_goal 1 => solve | (repeat' first | exact Touch.refl _ _ | refine State.coreRestart_touch (sub_trans (by decide) hw) _ _ ?_ | refine State.advTo_touch (sub_trans (by decide) hw) _ _ ?_ | apply touch_foldl))
    | (apply touch_ite_else; on_goal 1 => solve | (repeat' first | exact Touch.refl _ _ | refine State.coreRestart_touch (sub_trans (by decide) hw) _ _ ?_ | refine State.advTo_touch (sub_trans (by decide) hw) _ _ ?_))

theorem State.coreRun_touch (hw : 1024 ||| w = w) : ∀ s c, Touch w s₀ s → Touch w s₀ (State.coreRun s c) := by
  intro s c h; unfold State.coreRun; try dsimp only
  repeat' with_reducible first
    | exact h
    | exact Touch.refl _ _
    | refine State.openEnds_touch (sub_trans (by decide) hw) _ _ _ ?_
    | refine State.updCore_touch (sub_trans (by decide) hw) _ _ _ ?_

theorem execCoreStart_touch (hw : 1024 ||| w = w) : ∀ c s, Touch w s₀ s → TouchR w s₀ (execCoreStart c s) := by
  intro c s h; unfold execCoreStart; try dsimp only
  repeat' with_reducible first
    | exact h
    | exact Touch.refl _ _
    | apply touchR_next
    | apply touchR_ite
    | refine State.coreRun_touch (sub_trans (by decide) hw) _ _ ?_
    | (apply touch_ite_then; on_goal 1 => solve | (repeat' first | exact Touch.refl _ _ | refine State.coreRun_touch (sub_trans (by decide) hw) _ _ ?_))

theorem execWatchdogRestart_touch (hw : 1025 ||| w = w) : ∀ c s, Touch w s₀ s → TouchR w s₀ (execWatchdogRestart c s) := by
  intro c s h; unfold execWatchdogRestart; try dsimp only
  repeat' with_reducible first
    | exact h
    | exact Touch.refl _ _
    | apply touchR_next
    | apply touchR_ite
    | refine State.bump_touch (sub_trans (by decide) hw) _ _ _ ?_
    | refine State.updCore_touch (sub_trans (by decide) hw) _ _ _ ?_

theorem State.fwPop_touch (hw : 536872449 ||| w = w) : ∀ s c n, Touch w s₀ s → Touch w s₀ (State.fwPop s c n) := by
  intro s c n h; unfold State.fwPop; try dsimp only
  repeat' with_reducible first
    | exact h
    | exact Touch.refl _ _
    | refine State.ring_touch (sub_trans (by decide) hw) _ _ _ ?_
    | refine State.updChEnd_touch (sub_trans (by decide) hw) _ _ _ ?_

theorem State.fwServe_touch (hw : 536872449 ||| w = w) : ∀ s c is len f, (∀ s h b, Touch w s₀ s → Touch w s₀ (f s h b)) → Touch w s₀ s →
    Touch w s₀ (State.fwServe s c is len f) := by
  intro s c is len f hf h
  unfold State.fwServe
  split
  · exact h
  · have k : ∀ n, Touch w s₀ (s.fwPop c n) := fun n => State.fwPop_touch (sub_trans (by decide) hw) _ _ _ h
    refine touch_ite h (touch_ite (hf _ _ _ (k _)) (State.fwSend_touch (sub_trans (by decide) hw) _ _ _ (k _)))

theorem execFwPing_touch (hw : 536872449 ||| w = w) : ∀ c s, Touch w s₀ s → TouchR w s₀ (execFwPing c s) := by
  intro c s h; unfold execFwPing; try dsimp only
  repeat' with_reducible first
    | exact h
    | exact Touch.refl _ _
    | apply touchR_next
    | apply touchR_ite
    | refine State.fwServe_touch (sub_trans (by decide) hw) _ _ _ _ _ ?_ ?_
    | refine State.fwSend_touch (sub_trans (by decide) hw) _ _ _ ?_
    | (apply touch_ite_then; on_goal 1 => solve | (repeat' first | exact Touch.refl _ _ | refine State.fwServe_touch (sub_trans (by decide) hw) _ _ _ _ _ ?_ ?_ | refine State.fwSend_touch (sub_trans (by decide) hw) _ _ _ ?_ | apply touch_foldl))
    | (apply touch_ite_else; on_goal 1 => solve | (repeat' first | exact Touch.refl _ _ | refine State.fwServe_touch (sub_trans (by decide) hw) _ _ _ _ _ ?_ ?_ | refine State.fwSend_touch (sub_trans (by decide) hw) _ _ _ ?_ | apply touch_foldl))
    | apply touch_ite
    | apply touch_foldl
    | (intro _ _ _ k; try dsimp only)
    | refine touch_snd (by assumption) ?_
    | (intro _; try dsimp only)
    | assumption

theorem State.stageSubmit_touch (hw : 538968577 ||| w = w) : ∀ s c i j, Touch w s₀ s → Touch w s₀ (State.stageSubmit s c i j).2 := by
  intro s c i j h; unfold State.stageSubmit; try dsimp only
  repeat' with_reducible first
    | exact h
    | exact Touch.refl _ _
    | refine State.wr_touch (sub_trans (by decide) hw) _ _ _ ?_
    | refine State.submit_touch (sub_trans (by decide) hw) _ _ _ ?_
    | apply touch_foldl
    | (intro _ _ _ k; try dsimp only)
    | (intro _ _; try dsimp only)

theorem State.fwSubmit_touch (hw : 807404033 ||| w = w) : ∀ c l s j, Touch w s₀ s →
    (∀ i t, State.fwSubmit s c j l = .ok (i, t) → Touch w s₀ t) ∧ (∀ r t, State.fwSubmit s c j l = .error (r, t) → Touch w s₀ t) := by
  intro c l
  induction l with
  | nil =>
    intro s j h
    refine ⟨fun i t e => ?_, fun r t e => ?_⟩ <;> unfold State.fwSubmit at e <;> cases e
    exact h
  | cons a l ih =>
    intro s j h
    have k : Touch w s₀ (s.stageSubmit c a j).2 := State.stageSubmit_touch (sub_trans (by decide) hw) _ _ _ _ h
    have ih := ih (s.stageSubmit c a j).2 j k
    refine ⟨fun i t e => ?_, fun r t e => ?_⟩ <;> unfold State.fwSubmit at e <;> dsimp only at e <;> split at e
    · cases e; exact k
    · split at e
      · rename_i x hx
        cases e; exact ih.1 _ _ hx
      · cases e
    · cases e
    · split at e
      · cases e
      · rename_i x hx
        cases e; exact ih.2 _ _ hx

theorem execFwPkeJob_touch (hw : 807405057 ||| w = w) : ∀ c s, Touch w s₀ s → TouchR w s₀ (execFwPkeJob c s) := by
  intro c s h
  unfold execFwPkeJob
  refine touchR_next (State.fwServe_touch (sub_trans (by decide) hw) _ _ _ _ _ (fun s m b k => ?_) h)
  dsimp only
  refine touch_ite (State.fwSend_touch (sub_trans (by decide) hw) _ _ _ k) ?_
  split
  · rename_i hx
    exact touch_mbx (sub_trans (by decide) hw) ((State.fwSubmit_touch (sub_trans (by decide) hw) _ _ _ _ k).1 _ _ hx)
  · rename_i hx
    exact State.fwSend_touch (sub_trans (by decide) hw) _ _ _ ((State.fwSubmit_touch (sub_trans (by decide) hw) _ _ _ _ k).2 _ _ hx)

theorem execFwPkeAbort_touch (hw : 539756033 ||| w = w) : ∀ c begun s, Touch w s₀ s → TouchR w s₀ (execFwPkeAbort c begun s) := by
  intro c begun s h; unfold execFwPkeAbort; try dsimp only
  repeat' with_reducible first
    | exact h
    | exact Touch.refl _ _
    | apply touchR_next
    | apply touchR_ite
    | refine State.fwServe_touch (sub_trans (by decide) hw) _ _ _ _ _ ?_ ?_
    | refine State.fwSend_touch (sub_trans (by decide) hw) _ _ _ ?_
    | refine State.abortJob_touch (sub_trans (by decide) hw) _ _ _ _ ?_
    | refine State.jobsEnded_touch (sub_trans (by decide) hw) _ ?_
    | apply touch_ite
    | apply touch_foldl
    | (intro _ _ _ k; try dsimp only)
    | refine touch_snd (by assumption) ?_
    | (intro _; try dsimp only)
    | assumption
    | split

theorem execFwKeyImport_touch (hw : 539231745 ||| w = w) : ∀ c bundle s, Touch w s₀ s → TouchR w s₀ (execFwKeyImport c bundle s) := by
  intro c bundle s h; unfold execFwKeyImport; try dsimp only
  repeat' with_reducible first
    | exact h
    | exact Touch.refl _ _
    | apply touchR_next
    | apply touchR_ite
    | refine State.fwServe_touch (sub_trans (by decide) hw) _ _ _ _ _ ?_ ?_
    | refine State.fwSend_touch (sub_trans (by decide) hw) _ _ _ ?_
    | refine State.importBundle_touch (sub_trans (by decide) hw) _ _ _ ?_
    | (apply touch_ite_then; on_goal 1 => solve | (repeat' first | exact Touch.refl _ _ | refine State.fwServe_touch (sub_trans (by decide) hw) _ _ _ _ _ ?_ ?_ | refine State.fwSend_touch (sub_trans (by decide) hw) _ _ _ ?_ | refine State.importBundle_touch (sub_trans (by decide) hw) _ _ _ ?_ | apply touch_foldl))
    | (apply touch_ite_else; on_goal 1 => solve | (repeat' first | exact Touch.refl _ _ | refine State.fwServe_touch (sub_trans (by decide) hw) _ _ _ _ _ ?_ ?_ | refine State.fwSend_touch (sub_trans (by decide) hw) _ _ _ ?_ | refine State.importBundle_touch (sub_trans (by decide) hw) _ _ _ ?_ | apply touch_foldl | (intro _ _; try dsimp only)))
    | apply touch_ite
    | apply touch_foldl
    | (intro _ _ _ k; try dsimp only)
    | refine touch_snd (by assumption) ?_
    | (intro _; try dsimp only)
    | assumption

theorem execFwKeyDelete_touch (hw : 539231745 ||| w = w) : ∀ c s, Touch w s₀ s → TouchR w s₀ (execFwKeyDelete c s) := by
  intro c s h; unfold execFwKeyDelete; try dsimp only
  repeat' with_reducible first
    | exact h
    | exact Touch.refl _ _
    | apply touchR_next
    | apply touchR_ite
    | refine State.fwServe_touch (sub_trans (by decide) hw) _ _ _ _ _ ?_ ?_
    | refine State.fwSend_touch (sub_trans (by decide) hw) _ _ _ ?_
    | refine State.slotWipe_touch (sub_trans (by decide) hw) _ _ ?_
    | (apply touch_ite_then; on_goal 1 => solve | (repeat' first | exact Touch.refl _ _ | refine State.fwServe_touch (sub_trans (by decide) hw) _ _ _ _ _ ?_ ?_ | refine State.fwSend_touch (sub_trans (by decide) hw) _ _ _ ?_ | refine State.slotWipe_touch (sub_trans (by decide) hw) _ _ ?_ | apply touch_foldl))
    | (apply touch_ite_else; on_goal 1 => solve | (repeat' first | exact Touch.refl _ _ | refine State.fwServe_touch (sub_trans (by decide) hw) _ _ _ _ _ ?_ ?_ | refine State.fwSend_touch (sub_trans (by decide) hw) _ _ _ ?_ | refine State.slotWipe_touch (sub_trans (by decide) hw) _ _ ?_ | apply touch_foldl | (intro _ _; try dsimp only)))
    | apply touch_ite
    | apply touch_foldl
    | (intro _ _ _ k; try dsimp only)
    | refine touch_snd (by assumption) ?_
    | (intro _; try dsimp only)
    | assumption

theorem execFwBufWrite_touch (hw : 536872449 ||| w = w) : ∀ c s, Touch w s₀ s → TouchR w s₀ (execFwBufWrite c s) := by
  intro c s h; unfold execFwBufWrite; try dsimp only
  repeat' with_reducible first
    | exact h
    | exact Touch.refl _ _
    | apply touchR_next
    | apply touchR_ite
    | refine State.fwServe_touch (sub_trans (by decide) hw) _ _ _ _ _ ?_ ?_
    | refine State.fwSend_touch (sub_trans (by decide) hw) _ _ _ ?_
    | refine State.bufWords_touch (sub_trans (by decide) hw) _ _ _ _ ?_
    | (apply touch_ite_then; on_goal 1 => solve | (repeat' first | exact Touch.refl _ _ | refine State.fwServe_touch (sub_trans (by decide) hw) _ _ _ _ _ ?_ ?_ | refine State.fwSend_touch (sub_trans (by decide) hw) _ _ _ ?_ | refine State.bufWords_touch (sub_trans (by decide) hw) _ _ _ _ ?_ | apply touch_foldl))
    | (apply touch_ite_else; on_goal 1 => solve | (repeat' first | exact Touch.refl _ _ | refine State.fwServe_touch (sub_trans (by decide) hw) _ _ _ _ _ ?_ ?_ | refine State.fwSend_touch (sub_trans (by decide) hw) _ _ _ ?_ | refine State.bufWords_touch (sub_trans (by decide) hw) _ _ _ _ ?_ | apply touch_foldl))
    | apply touch_ite
    | apply touch_foldl
    | (intro _ _ _ k; try dsimp only)
    | refine touch_snd (by assumption) ?_
    | (intro _; try dsimp only)
    | assumption

theorem execFwBufRead_touch (hw : 536872449 ||| w = w) : ∀ c s, Touch w s₀ s → TouchR w s₀ (execFwBufRead c s) := by
  intro c s h; unfold execFwBufRead; try dsimp only
  repeat' with_reducible first
    | exact h
    | exact Touch.refl _ _
    | apply touchR_next
    | apply touchR_ite
    | refine State.fwServe_touch (sub_trans (by decide) hw) _ _ _ _ _ ?_ ?_
    | refine State.fwSend_touch (sub_trans (by decide) hw) _ _ _ ?_
    | (apply touch_ite_then; on_goal 1 => solve | (repeat' first | exact Touch.refl _ _ | refine State.fwServe_touch (sub_trans (by decide) hw) _ _ _ _ _ ?_ ?_ | refine State.fwSend_touch (sub_trans (by decide) hw) _ _ _ ?_ | apply touch_foldl))
    | (apply touch_ite_else; on_goal 1 => solve | (repeat' first | exact Touch.refl _ _ | refine State.fwServe_touch (sub_trans (by decide) hw) _ _ _ _ _ ?_ ?_ | refine State.fwSend_touch (sub_trans (by decide) hw) _ _ _ ?_ | apply touch_foldl))
    | apply touch_ite
    | apply touch_foldl
    | (intro _ _ _ k; try dsimp only)
    | refine touch_snd (by assumption) ?_
    | (intro _; try dsimp only)
    | assumption

theorem execFwBacklogSend_touch (hw : 536872449 ||| w = w) : ∀ c s, Touch w s₀ s → TouchR w s₀ (execFwBacklogSend c s) := by
  intro c s h; unfold execFwBacklogSend; try dsimp only
  repeat' with_reducible first
    | exact h
    | exact Touch.refl _ _
    | apply touchR_next
    | apply touchR_ite
    | refine State.fwSendNow_touch (sub_trans (by decide) hw) _ _ _ ?_
    | refine State.updFwChan_touch (sub_trans (by decide) hw) _ _ _ ?_
    | (apply touch_ite_then; on_goal 1 => solve | (repeat' first | exact Touch.refl _ _ | refine State.fwSendNow_touch (sub_trans (by decide) hw) _ _ _ ?_ | refine State.updFwChan_touch (sub_trans (by decide) hw) _ _ _ ?_))
    | apply touch_ite
    | apply touch_foldl
    | (intro _ _ _ k; try dsimp only)
    | (intro _ _; try dsimp only)

end Sys2Proof.Machine
end

