-- ==== Sys2Proof/Laws/Keeps/PkeEnd.lean ====
section
/-!
SUPPORT. What each operation of PkeEnd keeps.
-/

namespace Sys2Proof.Machine

variable {w : Nat} {s₀ : State}

theorem State.jobOver_touch (hw : 539756033 ||| w = w) : ∀ s r status, Touch w s₀ s → Touch w s₀ (State.jobOver s r status) := by
  intro s r status h; unfold State.jobOver; try dsimp only
  repeat' with_reducible first
    | exact h
    | exact Touch.refl _ _
    | refine State.jobsEnded_touch (sub_trans (by decide) hw) _ ?_
    | refine State.carafeDone_touch (sub_trans (by decide) hw) _ _ _ _ ?_
    | apply touch_foldl
    | refine touch_snd (by assumption) ?_
    | (intro _; try dsimp only)
    | assumption
    | split

theorem execPkeJobComplete_touch (hw : 539756041 ||| w = w) : ∀ i fault s, Touch w s₀ s → TouchR w s₀ (execPkeJobComplete i fault s) := by
  intro i fault s h; unfold execPkeJobComplete; try dsimp only
  repeat' with_reducible first
    | exact h
    | exact Touch.refl _ _
    | apply touchR_next
    | apply touchR_ite
    | refine State.advTo_touch (sub_trans (by decide) hw) _ _ ?_
    | refine State.pkeEnd_touch (sub_trans (by decide) hw) _ _ _ _ _ _ ?_
    | refine State.jobOver_touch (sub_trans (by decide) hw) _ _ _ ?_
    | apply touch_ite
    | apply touch_foldl
    | refine touch_snd (by assumption) ?_
    | (intro _; try dsimp only)
    | assumption
    | split

theorem execPkeDmaError_touch (hw : 539756041 ||| w = w) : ∀ i output s, Touch w s₀ s → TouchR w s₀ (execPkeDmaError i output s) := by
  intro i output s h; unfold execPkeDmaError; try dsimp only
  repeat' with_reducible first
    | exact h
    | exact Touch.refl _ _
    | apply touchR_next
    | apply touchR_ite
    | refine State.jobsEnded_touch (sub_trans (by decide) hw) _ ?_
    | refine State.dmaError_touch (sub_trans (by decide) hw) _ _ _ ?_
    | apply touch_foldl
    | refine touch_snd (by assumption) ?_
    | (intro _; try dsimp only)
    | assumption
    | split

theorem execPkeJobTimeout_touch (hw : 539756041 ||| w = w) : ∀ i s, Touch w s₀ s → TouchR w s₀ (execPkeJobTimeout i s) := by
  intro i s h; unfold execPkeJobTimeout; try dsimp only
  repeat' with_reducible first
    | exact h
    | exact Touch.refl _ _
    | apply touchR_next
    | apply touchR_ite
    | refine State.advTo_touch (sub_trans (by decide) hw) _ _ ?_
    | refine State.raise_touch (sub_trans (by decide) hw) _ _ ?_
    | refine State.pkeEnd_touch (sub_trans (by decide) hw) _ _ _ _ _ _ ?_
    | refine State.jobOver_touch (sub_trans (by decide) hw) _ _ _ ?_
    | apply touch_foldl
    | refine touch_snd (by assumption) ?_
    | (intro _; try dsimp only)
    | assumption
    | split

theorem execPkeAbort_touch (hw : 539756033 ||| w = w) : ∀ i m tag owner begun s, Touch w s₀ s → TouchR w s₀ (execPkeAbort i m tag owner begun s) := by
  intro i m tag owner begun s h; unfold execPkeAbort; try dsimp only
  repeat' with_reducible first
    | exact h
    | exact Touch.refl _ _
    | apply touchR_next
    | apply touchR_ite
    | refine State.abortJob_touch (sub_trans (by decide) hw) _ _ _ _ ?_
    | refine State.jobsEnded_touch (sub_trans (by decide) hw) _ ?_
    | refine State.updEng_touch (sub_trans (by decide) hw) _ _ _ ?_
    | (apply touch_ite_then; on_goal 1 => solve | (repeat' first | exact Touch.refl _ _ | refine State.abortJob_touch (sub_trans (by decide) hw) _ _ _ _ ?_ | refine State.jobsEnded_touch (sub_trans (by decide) hw) _ ?_ | refine State.updEng_touch (sub_trans (by decide) hw) _ _ _ ?_ | apply touch_foldl))
    | (apply touch_ite_else; on_goal 1 => solve | (repeat' first | exact Touch.refl _ _ | refine State.abortJob_touch (sub_trans (by decide) hw) _ _ _ _ ?_ | refine State.jobsEnded_touch (sub_trans (by decide) hw) _ ?_ | refine State.updEng_touch (sub_trans (by decide) hw) _ _ _ ?_ | apply touch_foldl))
    | apply touch_ite

end Sys2Proof.Machine
end

