-- ==== Sys2Proof/Laws/Keeps/Tim.lean ====
section
/-!
SUPPORT. What each operation of Tim keeps.
-/

namespace Sys2Proof.Machine

variable {w : Nat} {s₀ : State}

theorem State.timStamp_touch (hw : 637534729 ||| w = w) : ∀ s j g, Touch w s₀ s → Touch w s₀ (State.timStamp s j g) := by
  intro s j g h; unfold State.timStamp; try dsimp only
  repeat' with_reducible first
    | exact h
    | exact Touch.refl _ _
    | refine State.timSource_touch (sub_trans (by decide) hw) _ _ _ ?_
    | refine State.bump_touch (sub_trans (by decide) hw) _ _ _ ?_
    | refine State.updTimIn_touch (sub_trans (by decide) hw) _ _ _ ?_
    | refine State.evlTrigger_touch (sub_trans (by decide) hw) _ _ _ ?_

theorem execTiminEdge_touch (hw : 637534729 ||| w = w) : ∀ j at_ rising lasts s, Touch w s₀ s → TouchR w s₀ (execTiminEdge j at_ rising lasts s) := by
  intro j at_ rising lasts s h; unfold execTiminEdge; try dsimp only
  repeat' with_reducible first
    | exact h
    | exact Touch.refl _ _
    | apply touchR_next
    | apply touchR_ite
    | refine State.advTo_touch (sub_trans (by decide) hw) _ _ ?_
    | refine State.updTimIn_touch (sub_trans (by decide) hw) _ _ _ ?_
    | refine State.raiseLim_touch (sub_trans (by decide) hw) _ _ _ _ ?_
    | refine State.bump_touch (sub_trans (by decide) hw) _ _ _ ?_
    | refine State.timStamp_touch (sub_trans (by decide) hw) _ _ _ ?_
    | (apply touch_ite_then; on_goal 1 => solve | (repeat' first | exact Touch.refl _ _ | refine State.advTo_touch (sub_trans (by decide) hw) _ _ ?_ | refine State.updTimIn_touch (sub_trans (by decide) hw) _ _ _ ?_ | refine State.raiseLim_touch (sub_trans (by decide) hw) _ _ _ _ ?_ | refine State.bump_touch (sub_trans (by decide) hw) _ _ _ ?_ | refine State.timStamp_touch (sub_trans (by decide) hw) _ _ _ ?_))

theorem execTimCal_touch (hw : 33554440 ||| w = w) : ∀ s, Touch w s₀ s → TouchR w s₀ (execTimCal s) := by
  intro s h; unfold execTimCal; try dsimp only
  repeat' with_reducible first
    | exact h
    | exact Touch.refl _ _
    | apply touchR_next
    | apply touchR_ite
    | refine State.timCal_touch (sub_trans (by decide) hw) _ ?_

theorem State.timCalResult_touch (hw : 570425857 ||| w = w) : ∀ s which bad, Touch w s₀ s → Touch w s₀ (State.timCalResult s which bad) := by
  intro s which bad h; unfold State.timCalResult; try dsimp only
  repeat' with_reducible first
    | exact h
    | exact Touch.refl _ _
    | refine State.raise_touch (sub_trans (by decide) hw) _ _ ?_
    | fail_if_no_progress refine touch_tim (sub_trans (by decide) hw) ?_
    | (apply touch_ite_then; on_goal 1 => solve | (repeat' first | exact Touch.refl _ _ | refine State.raise_touch (sub_trans (by decide) hw) _ _ ?_ | fail_if_no_progress refine touch_tim (sub_trans (by decide) hw) ?_ | apply touch_foldl))
    | (apply touch_ite_else; on_goal 1 => solve | (repeat' first | exact Touch.refl _ _ | refine State.raise_touch (sub_trans (by decide) hw) _ _ ?_ | fail_if_no_progress refine touch_tim (sub_trans (by decide) hw) ?_))

theorem execTimCalDone_touch (hw : 570425865 ||| w = w) : ∀ bad s, Touch w s₀ s → TouchR w s₀ (execTimCalDone bad s) := by
  intro bad s h; unfold execTimCalDone; try dsimp only
  repeat' with_reducible first
    | exact h
    | exact Touch.refl _ _
    | apply touchR_next
    | apply touchR_ite
    | refine State.advTo_touch (sub_trans (by decide) hw) _ _ ?_
    | refine State.timRecalArm_touch (sub_trans (by decide) hw) _ ?_
    | refine State.timCalResult_touch (sub_trans (by decide) hw) _ _ _ ?_
    | fail_if_no_progress refine touch_tim (sub_trans (by decide) hw) ?_
    | apply touch_foldl
    | refine touch_snd (by assumption) ?_
    | (intro _; try dsimp only)
    | assumption
    | split

theorem execTimRecal_touch (hw : 570425865 ||| w = w) : ∀ bad s, Touch w s₀ s → TouchR w s₀ (execTimRecal bad s) := by
  intro bad s h; unfold execTimRecal; try dsimp only
  repeat' with_reducible first
    | exact h
    | exact Touch.refl _ _
    | apply touchR_next
    | apply touchR_ite
    | refine State.advTo_touch (sub_trans (by decide) hw) _ _ ?_
    | refine State.timRecalArm_touch (sub_trans (by decide) hw) _ ?_
    | refine State.timCalResult_touch (sub_trans (by decide) hw) _ _ _ ?_
    | fail_if_no_progress refine touch_tim (sub_trans (by decide) hw) ?_

theorem State.timGate_touch (hw : 570426121 ||| w = w) : ∀ s x1, Touch w s₀ s → Touch w s₀ (State.timGate s x1) := by
  intro s x1 h; unfold State.timGate; try dsimp only
  repeat' with_reducible first
    | exact h
    | exact Touch.refl _ _
    | refine State.slotFire_touch (sub_trans (by decide) hw) _ _ ?_
    | refine State.updTimCh_touch (sub_trans (by decide) hw) _ _ _ ?_
    | refine State.timOpen_touch (sub_trans (by decide) hw) _ _ _ ?_
    | (apply touch_ite_then; on_goal 1 => solve | (repeat' first | exact Touch.refl _ _ | refine State.slotFire_touch (sub_trans (by decide) hw) _ _ ?_ | refine State.updTimCh_touch (sub_trans (by decide) hw) _ _ _ ?_ | refine State.timOpen_touch (sub_trans (by decide) hw) _ _ _ ?_ | apply touch_foldl))
    | (apply touch_ite_else; on_goal 1 => solve | (repeat' first | exact Touch.refl _ _ | refine State.slotFire_touch (sub_trans (by decide) hw) _ _ ?_ | refine State.updTimCh_touch (sub_trans (by decide) hw) _ _ _ ?_ | refine State.timOpen_touch (sub_trans (by decide) hw) _ _ _ ?_ | apply touch_foldl))
    | apply touch_ite

theorem State.timAccept_touch (hw : 570426121 ||| w = w) : ∀ s x1, Touch w s₀ s → Touch w s₀ (State.timAccept s x1) := by
  intro s x1 h; unfold State.timAccept; try dsimp only
  repeat' with_reducible first
    | exact h
    | exact Touch.refl _ _
    | refine State.advTo_touch (sub_trans (by decide) hw) _ _ ?_
    | refine State.timGate_touch (sub_trans (by decide) hw) _ _ ?_
    | (apply touch_ite_then; on_goal 1 => solve | (repeat' first | exact Touch.refl _ _ | refine State.advTo_touch (sub_trans (by decide) hw) _ _ ?_ | refine State.timGate_touch (sub_trans (by decide) hw) _ _ ?_))

theorem execTimArm_touch (hw : 570426121 ||| w = w) : ∀ x0 s, Touch w s₀ s → TouchR w s₀ (execTimArm x0 s) := by
  intro x0 s h; unfold execTimArm; try dsimp only
  repeat' with_reducible first
    | exact h
    | exact Touch.refl _ _
    | apply touchR_next
    | apply touchR_ite
    | refine State.timAccept_touch (sub_trans (by decide) hw) _ _ ?_
    | refine State.timArm_touch (sub_trans (by decide) hw) _ _ _ _ _ ?_

theorem execTimDisarm_touch (hw : 570426121 ||| w = w) : ∀ x0 s, Touch w s₀ s → TouchR w s₀ (execTimDisarm x0 s) := by
  intro x0 s h; unfold execTimDisarm; try dsimp only
  repeat' with_reducible first
    | exact h
    | exact Touch.refl _ _
    | apply touchR_next
    | apply touchR_ite
    | refine State.timDisarm_touch (sub_trans (by decide) hw) _ _ ?_
    | refine State.timAccept_touch (sub_trans (by decide) hw) _ _ ?_

theorem State.timArmAt_touch (hw : 570426121 ||| w = w) : ∀ s x1, Touch w s₀ s → Touch w s₀ (State.timArmAt s x1) := by
  intro s x1 h; unfold State.timArmAt; try dsimp only
  repeat' with_reducible first
    | exact h
    | exact Touch.refl _ _
    | refine State.raise_touch (sub_trans (by decide) hw) _ _ ?_
    | refine State.updTimCh_touch (sub_trans (by decide) hw) _ _ _ ?_
    | refine State.timDisarm_touch (sub_trans (by decide) hw) _ _ ?_
    | refine State.slotArmBound_touch (sub_trans (by decide) hw) _ _ _ _ _ _ ?_
    | (apply touch_ite_then; on_goal 1 => solve | (repeat' first | exact Touch.refl _ _ | refine State.raise_touch (sub_trans (by decide) hw) _ _ ?_ | refine State.updTimCh_touch (sub_trans (by decide) hw) _ _ _ ?_ | refine State.timDisarm_touch (sub_trans (by decide) hw) _ _ ?_ | refine State.slotArmBound_touch (sub_trans (by decide) hw) _ _ _ _ _ _ ?_ | apply touch_foldl))
    | (apply touch_ite_else; on_goal 1 => solve | (repeat' first | exact Touch.refl _ _ | refine State.raise_touch (sub_trans (by decide) hw) _ _ ?_ | refine State.updTimCh_touch (sub_trans (by decide) hw) _ _ _ ?_ | refine State.timDisarm_touch (sub_trans (by decide) hw) _ _ ?_ | refine State.slotArmBound_touch (sub_trans (by decide) hw) _ _ _ _ _ _ ?_ | apply touch_foldl))
    | apply touch_ite

theorem execTimArmAt_touch (hw : 570426121 ||| w = w) : ∀ x0 s, Touch w s₀ s → TouchR w s₀ (execTimArmAt x0 s) := by
  intro x0 s h; unfold execTimArmAt; try dsimp only
  repeat' with_reducible first
    | exact h
    | exact Touch.refl _ _
    | apply touchR_next
    | apply touchR_ite
    | refine State.timArmAt_touch (sub_trans (by decide) hw) _ _ ?_
    | refine State.timAccept_touch (sub_trans (by decide) hw) _ _ ?_

theorem execTimGateFire_touch (hw : 570426121 ||| w = w) : ∀ x0 s, Touch w s₀ s → TouchR w s₀ (execTimGateFire x0 s) := by
  intro x0 s h; unfold execTimGateFire; try dsimp only
  repeat' with_reducible first
    | exact h
    | exact Touch.refl _ _
    | apply touchR_next
    | apply touchR_ite
    | refine State.timGate_touch (sub_trans (by decide) hw) _ _ ?_
    | (apply touch_ite_then; on_goal 1 => solve | (repeat' first | exact Touch.refl _ _ | refine State.timGate_touch (sub_trans (by decide) hw) _ _ ?_))

theorem State.timEndNow_touch (hw : 570425865 ||| w = w) : ∀ s x1, Touch w s₀ s → Touch w s₀ (State.timEndNow s x1) := by
  intro s x1 h; unfold State.timEndNow; try dsimp only
  repeat' with_reducible first
    | exact h
    | exact Touch.refl _ _
    | refine State.timClose_touch (sub_trans (by decide) hw) _ _ ?_
    | refine State.advTo_touch (sub_trans (by decide) hw) _ _ ?_

theorem execTimWindowEnd_touch (hw : 570425865 ||| w = w) : ∀ x0 s, Touch w s₀ s → TouchR w s₀ (execTimWindowEnd x0 s) := by
  intro x0 s h; unfold execTimWindowEnd; try dsimp only
  repeat' with_reducible first
    | exact h
    | exact Touch.refl _ _
    | apply touchR_next
    | apply touchR_ite
    | refine State.timEndNow_touch (sub_trans (by decide) hw) _ _ ?_

theorem execTimGateEnd_touch (hw : 570425865 ||| w = w) : ∀ x0 s, Touch w s₀ s → TouchR w s₀ (execTimGateEnd x0 s) := by
  intro x0 s h; unfold execTimGateEnd; try dsimp only
  repeat' with_reducible first
    | exact h
    | exact Touch.refl _ _
    | apply touchR_next
    | apply touchR_ite
    | refine State.timEndNow_touch (sub_trans (by decide) hw) _ _ ?_

theorem execTimResPop_touch (hw : 33556480 ||| w = w) : ∀ x0 s, Touch w s₀ s → TouchR w s₀ (execTimResPop x0 s) := by
  intro x0 s h; unfold execTimResPop; try dsimp only
  repeat' with_reducible first
    | exact h
    | exact Touch.refl _ _
    | apply touchR_next
    | apply touchR_ite
    | refine State.updTimCh_touch (sub_trans (by decide) hw) _ _ _ ?_
    | fail_if_no_progress refine touch_bus (sub_trans (by decide) hw) ?_
    | apply touch_foldl
    | refine touch_snd (by assumption) ?_
    | (intro _; try dsimp only)
    | assumption
    | split

end Sys2Proof.Machine
end

