-- ==== Sys2Proof/Laws/Keeps/Events.lean ====
section
/-!
SUPPORT. What each operation of Events keeps.
-/

namespace Sys2Proof.Machine

variable {w : Nat} {s₀ : State}

theorem State.evtWritten_touch (hw : 536871425 ||| w = w) : ∀ s, Touch w s₀ s → Touch w s₀ (State.evtWritten s) := by
  intro s h; unfold State.evtWritten; try dsimp only
  repeat' with_reducible first
    | exact h
    | exact Touch.refl _ _
    | refine State.alarmSync_touch (sub_trans (by decide) hw) _ ?_
    | refine State.msixSend_touch (sub_trans (by decide) hw) _ _ ?_
    | (apply touch_ite_then; on_goal 1 => solve | (repeat' first | exact Touch.refl _ _ | refine State.alarmSync_touch (sub_trans (by decide) hw) _ ?_ | refine State.msixSend_touch (sub_trans (by decide) hw) _ _ ?_))
    | apply touch_ite
    | apply touch_foldl
    | (intro _ _ _ k; try dsimp only)
    | (intro _ _; try dsimp only)

theorem execEvtStatClear_touch (hw : 536871425 ||| w = w) : ∀ m g bits s, Touch w s₀ s → TouchR w s₀ (execEvtStatClear m g bits s) := by
  intro m g bits s h; unfold execEvtStatClear; try dsimp only
  repeat' with_reducible first
    | exact h
    | exact Touch.refl _ _
    | apply touchR_next
    | apply touchR_ite
    | refine State.raise_touch (sub_trans (by decide) hw) _ _ ?_
    | refine State.evtWritten_touch (sub_trans (by decide) hw) _ ?_
    | refine State.clrBits_touch (sub_trans (by decide) hw) _ _ _ ?_
    | (apply touch_ite_then; on_goal 1 => solve | (repeat' first | exact Touch.refl _ _ | refine State.raise_touch (sub_trans (by decide) hw) _ _ ?_ | refine State.evtWritten_touch (sub_trans (by decide) hw) _ ?_ | refine State.clrBits_touch (sub_trans (by decide) hw) _ _ _ ?_ | apply touch_foldl))
    | (apply touch_ite_else; on_goal 1 => solve | (repeat' first | exact Touch.refl _ _ | refine State.raise_touch (sub_trans (by decide) hw) _ _ ?_ | refine State.evtWritten_touch (sub_trans (by decide) hw) _ ?_ | refine State.clrBits_touch (sub_trans (by decide) hw) _ _ _ ?_ | apply touch_foldl))
    | apply touch_ite

theorem execEvtMaskWrite_touch (hw : 536871425 ||| w = w) : ∀ m g v s, Touch w s₀ s → TouchR w s₀ (execEvtMaskWrite m g v s) := by
  intro m g v s h; unfold execEvtMaskWrite; try dsimp only
  repeat' with_reducible first
    | exact h
    | exact Touch.refl _ _
    | apply touchR_next
    | apply touchR_ite
    | refine State.raise_touch (sub_trans (by decide) hw) _ _ ?_
    | refine State.evtWritten_touch (sub_trans (by decide) hw) _ ?_
    | refine State.wr_touch (sub_trans (by decide) hw) _ _ _ ?_
    | (apply touch_ite_then; on_goal 1 => solve | (repeat' first | exact Touch.refl _ _ | refine State.raise_touch (sub_trans (by decide) hw) _ _ ?_ | refine State.evtWritten_touch (sub_trans (by decide) hw) _ ?_ | refine State.wr_touch (sub_trans (by decide) hw) _ _ _ ?_ | apply touch_foldl))
    | (apply touch_ite_else; on_goal 1 => solve | (repeat' first | exact Touch.refl _ _ | refine State.raise_touch (sub_trans (by decide) hw) _ _ ?_ | refine State.evtWritten_touch (sub_trans (by decide) hw) _ ?_ | refine State.wr_touch (sub_trans (by decide) hw) _ _ _ ?_ | apply touch_foldl))
    | apply touch_ite

theorem execEvtForce_touch (hw : 536871433 ||| w = w) : ∀ m e s, Touch w s₀ s → TouchR w s₀ (execEvtForce m e s) := by
  intro m e s h; unfold execEvtForce; try dsimp only
  repeat' with_reducible first
    | exact h
    | exact Touch.refl _ _
    | apply touchR_next
    | apply touchR_ite
    | refine State.raise_touch (sub_trans (by decide) hw) _ _ ?_
    | refine State.alarmSync_touch (sub_trans (by decide) hw) _ ?_
    | refine State.raiseBit_touch (sub_trans (by decide) hw) _ _ ?_
    | refine State.advTo_touch (sub_trans (by decide) hw) _ _ ?_
    | (apply touch_ite_then; on_goal 1 => solve | (repeat' first | exact Touch.refl _ _ | refine State.raise_touch (sub_trans (by decide) hw) _ _ ?_ | refine State.alarmSync_touch (sub_trans (by decide) hw) _ ?_ | refine State.raiseBit_touch (sub_trans (by decide) hw) _ _ ?_ | refine State.advTo_touch (sub_trans (by decide) hw) _ _ ?_ | apply touch_foldl))
    | (apply touch_ite_else; on_goal 1 => solve | (repeat' first | exact Touch.refl _ _ | refine State.raise_touch (sub_trans (by decide) hw) _ _ ?_ | refine State.alarmSync_touch (sub_trans (by decide) hw) _ ?_ | refine State.raiseBit_touch (sub_trans (by decide) hw) _ _ ?_ | refine State.advTo_touch (sub_trans (by decide) hw) _ _ ?_ | apply touch_foldl))
    | apply touch_ite

theorem State.msixUpdate_touch (hw : 536871424 ||| w = w) : ∀ s pf1 f, Touch w s₀ s → Touch w s₀ (State.msixUpdate s pf1 f) := by
  intro s pf1 f h; unfold State.msixUpdate; try dsimp only
  repeat' with_reducible first
    | exact h
    | exact Touch.refl _ _
    | refine State.msixSend_touch (sub_trans (by decide) hw) _ _ ?_
    | fail_if_no_progress refine touch_evt (sub_trans (by decide) hw) ?_
    | (apply touch_ite_then; on_goal 1 => solve | (repeat' first | exact Touch.refl _ _ | refine State.msixSend_touch (sub_trans (by decide) hw) _ _ ?_ | fail_if_no_progress refine touch_evt (sub_trans (by decide) hw) ?_ | apply touch_foldl))
    | (apply touch_ite_else; on_goal 1 => solve | (repeat' first | exact Touch.refl _ _ | refine State.msixSend_touch (sub_trans (by decide) hw) _ _ ?_ | fail_if_no_progress refine touch_evt (sub_trans (by decide) hw) ?_ | apply touch_foldl))
    | apply touch_ite
    | apply touch_foldl
    | (intro _ _ _ k; try dsimp only)
    | (intro _ _; try dsimp only)

theorem execMsixUnmask_touch (hw : 536871424 ||| w = w) : ∀ pf1 enable funMask masked s, Touch w s₀ s → TouchR w s₀ (execMsixUnmask pf1 enable funMask masked s) := by
  intro pf1 enable funMask masked s h; unfold execMsixUnmask; try dsimp only
  repeat' with_reducible first
    | exact h
    | exact Touch.refl _ _
    | apply touchR_next
    | apply touchR_ite
    | refine State.msixUpdate_touch (sub_trans (by decide) hw) _ _ _ ?_

theorem State.setCnt_touch (hw : 512 ||| w = w) : ∀ s n c, Touch w s₀ s → Touch w s₀ (State.setCnt s n c) := by
  intro s n c h; unfold State.setCnt; try dsimp only
  repeat' with_reducible first
    | exact h
    | exact Touch.refl _ _
    | fail_if_no_progress refine touch_evt (sub_trans (by decide) hw) ?_

theorem State.updCntBank_touch (hw : 512 ||| w = w) : ∀ s m f, Touch w s₀ s → Touch w s₀ (State.updCntBank s m f) := by
  intro s m f h; unfold State.updCntBank; try dsimp only
  repeat' with_reducible first
    | exact h
    | exact Touch.refl _ _
    | fail_if_no_progress refine touch_evt (sub_trans (by decide) hw) ?_

theorem execCntLoRead_touch (hw : 2560 ||| w = w) : ∀ m n wide s, Touch w s₀ s → TouchR w s₀ (execCntLoRead m n wide s) := by
  intro m n wide s h; unfold execCntLoRead; try dsimp only
  repeat' with_reducible first
    | exact h
    | exact Touch.refl _ _
    | apply touchR_next
    | apply touchR_ite
    | refine State.updCntBank_touch (sub_trans (by decide) hw) _ _ _ ?_
    | fail_if_no_progress refine touch_bus (sub_trans (by decide) hw) ?_
    | apply touch_ite
    | apply touch_foldl
    | refine touch_snd (by assumption) ?_
    | (intro _; try dsimp only)
    | assumption
    | split

theorem execCntLoWrite_touch (hw : 512 ||| w = w) : ∀ m n v s, Touch w s₀ s → TouchR w s₀ (execCntLoWrite m n v s) := by
  intro m n v s h; unfold execCntLoWrite; try dsimp only
  repeat' with_reducible first
    | exact h
    | exact Touch.refl _ _
    | apply touchR_next
    | apply touchR_ite
    | refine State.updCntBank_touch (sub_trans (by decide) hw) _ _ _ ?_

theorem execCntHiWrite_touch (hw : 536871433 ||| w = w) : ∀ m n v s, Touch w s₀ s → TouchR w s₀ (execCntHiWrite m n v s) := by
  intro m n v s h; unfold execCntHiWrite; try dsimp only
  repeat' with_reducible first
    | exact h
    | exact Touch.refl _ _
    | apply touchR_next
    | apply touchR_ite
    | refine State.advTo_touch (sub_trans (by decide) hw) _ _ ?_
    | refine State.setCnt_touch (sub_trans (by decide) hw) _ _ _ ?_
    | refine State.raise_touch (sub_trans (by decide) hw) _ _ ?_
    | (apply touch_ite_then; on_goal 1 => solve | (repeat' first | exact Touch.refl _ _ | refine State.advTo_touch (sub_trans (by decide) hw) _ _ ?_ | refine State.setCnt_touch (sub_trans (by decide) hw) _ _ _ ?_ | refine State.raise_touch (sub_trans (by decide) hw) _ _ ?_))

theorem execCntSnap_touch (hw : 512 ||| w = w) : ∀ s, Touch w s₀ s → TouchR w s₀ (execCntSnap s) := by
  intro s h; unfold execCntSnap; try dsimp only
  repeat' with_reducible first
    | exact h
    | exact Touch.refl _ _
    | apply touchR_next
    | apply touchR_ite
    | fail_if_no_progress refine touch_evt (sub_trans (by decide) hw) ?_

theorem execCntClearAll_touch (hw : 512 ||| w = w) : ∀ s, Touch w s₀ s → TouchR w s₀ (execCntClearAll s) := by
  intro s h; unfold execCntClearAll; try dsimp only
  repeat' with_reducible first
    | exact h
    | exact Touch.refl _ _
    | apply touchR_next
    | apply touchR_ite
    | fail_if_no_progress refine touch_evt (sub_trans (by decide) hw) ?_

theorem State.snapshot_touch (hw : 536871425 ||| w = w) : ∀ s at_, Touch w s₀ s → Touch w s₀ (State.snapshot s at_) := by
  intro s at_ h; unfold State.snapshot; try dsimp only
  repeat' with_reducible first
    | exact h
    | exact Touch.refl _ _
    | refine State.raise_touch (sub_trans (by decide) hw) _ _ ?_
    | refine State.wr_touch (sub_trans (by decide) hw) _ _ _ ?_
    | refine State.wr64_touch (sub_trans (by decide) hw) _ _ _ ?_
    | fail_if_no_progress refine touch_evt (sub_trans (by decide) hw) ?_

theorem execCntSnapshot_touch (hw : 536871433 ||| w = w) : ∀ s, Touch w s₀ s → TouchR w s₀ (execCntSnapshot s) := by
  intro s h; unfold execCntSnapshot; try dsimp only
  repeat' with_reducible first
    | exact h
    | exact Touch.refl _ _
    | apply touchR_next
    | apply touchR_ite
    | refine State.advTo_touch (sub_trans (by decide) hw) _ _ ?_
    | refine State.snapshot_touch (sub_trans (by decide) hw) _ _ ?_
    | fail_if_no_progress refine touch_evt (sub_trans (by decide) hw) ?_
    | apply touch_foldl
    | refine touch_snd (by assumption) ?_
    | (intro _; try dsimp only)
    | assumption
    | split

theorem execCntLimit_touch (hw : 536871425 ||| w = w) : ∀ n s, Touch w s₀ s → TouchR w s₀ (execCntLimit n s) := by
  intro n s h; unfold execCntLimit; try dsimp only
  repeat' with_reducible first
    | exact h
    | exact Touch.refl _ _
    | apply touchR_next
    | apply touchR_ite
    | refine State.raise_touch (sub_trans (by decide) hw) _ _ ?_
    | refine State.setCnt_touch (sub_trans (by decide) hw) _ _ _ ?_
    | (apply touch_ite_then; on_goal 1 => solve | (repeat' first | exact Touch.refl _ _ | refine State.raise_touch (sub_trans (by decide) hw) _ _ ?_ | refine State.setCnt_touch (sub_trans (by decide) hw) _ _ _ ?_))

theorem execCntOverflow_touch (hw : 536871425 ||| w = w) : ∀ n s, Touch w s₀ s → TouchR w s₀ (execCntOverflow n s) := by
  intro n s h; unfold execCntOverflow; try dsimp only
  repeat' with_reducible first
    | exact h
    | exact Touch.refl _ _
    | apply touchR_next
    | apply touchR_ite
    | refine State.raise_touch (sub_trans (by decide) hw) _ _ ?_
    | refine State.setCnt_touch (sub_trans (by decide) hw) _ _ _ ?_
    | (apply touch_ite_then; on_goal 1 => solve | (repeat' first | exact Touch.refl _ _ | refine State.raise_touch (sub_trans (by decide) hw) _ _ ?_ | refine State.setCnt_touch (sub_trans (by decide) hw) _ _ _ ?_))

theorem State.eccDrop_touch (hw : 1 ||| w = w) : ∀ s, Touch w s₀ s → Touch w s₀ (State.eccDrop s) := by
  intro s h; unfold State.eccDrop; try dsimp only
  repeat' with_reducible first
    | exact h
    | exact Touch.refl _ _
    | refine State.bump_touch (sub_trans (by decide) hw) _ _ _ ?_

theorem State.eccFrame_touch (hw : 73729 ||| w = w) : ∀ s n id, Touch w s₀ s → Touch w s₀ (State.eccFrame s n id) := by
  intro s n id h; unfold State.eccFrame; try dsimp only
  repeat' with_reducible first
    | exact h
    | exact Touch.refl _ _
    | refine State.updCal_touch (sub_trans (by decide) hw) _ _ _ ?_
    | refine State.eccDrop_touch (sub_trans (by decide) hw) _ ?_
    | refine State.updClu_touch (sub_trans (by decide) hw) _ _ _ ?_
    | (apply touch_ite_then; on_goal 1 => solve | (repeat' first | exact Touch.refl _ _ | refine State.updCal_touch (sub_trans (by decide) hw) _ _ _ ?_ | refine State.eccDrop_touch (sub_trans (by decide) hw) _ ?_ | refine State.updClu_touch (sub_trans (by decide) hw) _ _ _ ?_ | apply touch_foldl | (intro _ _; try dsimp only)))

theorem State.eccRespond_touch (hw : 851424777 ||| w = w) : ∀ s x1, Touch w s₀ s → Touch w s₀ (State.eccRespond s x1) := by
  intro s x1 h; unfold State.eccRespond; try dsimp only
  repeat' with_reducible first
    | exact h
    | exact Touch.refl _ _
    | refine State.retireCluster_touch (sub_trans (by decide) hw) _ _ ?_
    | refine State.retireCell_touch (sub_trans (by decide) hw) _ _ _ ?_
    | refine State.updCltEntry_touch (sub_trans (by decide) hw) _ _ _ ?_
    | refine State.eccFrame_touch (sub_trans (by decide) hw) _ _ _ ?_
    | refine State.eccDrop_touch (sub_trans (by decide) hw) _ ?_
    | refine State.updPort_touch (sub_trans (by decide) hw) _ _ _ ?_
    | refine State.htxDrop_touch (sub_trans (by decide) hw) _ _ _ _ ?_
    | refine State.updSymKey_touch (sub_trans (by decide) hw) _ _ _ ?_
    | refine State.updAnnexKey_touch (sub_trans (by decide) hw) _ _ _ ?_
    | refine State.slotWipe_touch (sub_trans (by decide) hw) _ _ ?_
    | refine State.updEng_touch (sub_trans (by decide) hw) _ _ _ ?_
    | refine State.jobsEnded_touch (sub_trans (by decide) hw) _ ?_
    | refine State.pkeRetire_touch (sub_trans (by decide) hw) _ _ ?_
    | refine State.coreRestart_touch (sub_trans (by decide) hw) _ _ ?_
    | refine State.updCore_touch (sub_trans (by decide) hw) _ _ _ ?_
    | refine State.updGrant_touch (sub_trans (by decide) hw) _ _ _ ?_
    | refine State.updD_touch (sub_trans (by decide) hw) _ _ ?_
    | refine State.updTimCh_touch (sub_trans (by decide) hw) _ _ _ ?_
    | refine State.updDb_touch (sub_trans (by decide) hw) _ _ _ ?_
    | refine State.endReset_touch (sub_trans (by decide) hw) _ _ ?_
    | (apply touch_ite_then; on_goal 1 => solve | (repeat' first | exact Touch.refl _ _ | refine State.retireCluster_touch (sub_trans (by decide) hw) _ _ ?_ | refine State.retireCell_touch (sub_trans (by decide) hw) _ _ _ ?_ | refine State.updCltEntry_touch (sub_trans (by decide) hw) _ _ _ ?_ | refine State.eccFrame_touch (sub_trans (by decide) hw) _ _ _ ?_ | refine State.eccDrop_touch (sub_trans (by decide) hw) _ ?_ | refine State.updPort_touch (sub_trans (by decide) hw) _ _ _ ?_ | refine State.htxDrop_touch (sub_trans (by decide) hw) _ _ _ _ ?_ | refine State.updSymKey_touch (sub_trans (by decide) hw) _ _ _ ?_ | refine State.updAnnexKey_touch (sub_trans (by decide) hw) _ _ _ ?_ | refine State.slotWipe_touch (sub_trans (by decide) hw) _ _ ?_ | refine State.updEng_touch (sub_trans (by decide) hw) _ _ _ ?_ | refine State.jobsEnded_touch (sub_trans (by decide) hw) _ ?_ | refine State.pkeRetire_touch (sub_trans (by decide) hw) _ _ ?_ | refine State.coreRestart_touch (sub_trans (by decide) hw) _ _ ?_ | refine State.updCore_touch (sub_trans (by decide) hw) _ _ _ ?_ | refine State.updGrant_touch (sub_trans (by decide) hw) _ _ _ ?_ | refine State.updD_touch (sub_trans (by decide) hw) _ _ ?_ | refine State.updTimCh_touch (sub_trans (by decide) hw) _ _ _ ?_ | refine State.updDb_touch (sub_trans (by decide) hw) _ _ _ ?_ | refine State.endReset_touch (sub_trans (by decide) hw) _ _ ?_ | apply touch_foldl))
    | (apply touch_ite_else; on_goal 1 => solve | (repeat' first | exact Touch.refl _ _ | refine State.retireCluster_touch (sub_trans (by decide) hw) _ _ ?_ | refine State.retireCell_touch (sub_trans (by decide) hw) _ _ _ ?_ | refine State.updCltEntry_touch (sub_trans (by decide) hw) _ _ _ ?_ | refine State.eccFrame_touch (sub_trans (by decide) hw) _ _ _ ?_ | refine State.eccDrop_touch (sub_trans (by decide) hw) _ ?_ | refine State.updPort_touch (sub_trans (by decide) hw) _ _ _ ?_ | refine State.htxDrop_touch (sub_trans (by decide) hw) _ _ _ _ ?_ | refine State.updSymKey_touch (sub_trans (by decide) hw) _ _ _ ?_ | refine State.updAnnexKey_touch (sub_trans (by decide) hw) _ _ _ ?_ | refine State.slotWipe_touch (sub_trans (by decide) hw) _ _ ?_ | refine State.updEng_touch (sub_trans (by decide) hw) _ _ _ ?_ | refine State.jobsEnded_touch (sub_trans (by decide) hw) _ ?_ | refine State.pkeRetire_touch (sub_trans (by decide) hw) _ _ ?_ | refine State.coreRestart_touch (sub_trans (by decide) hw) _ _ ?_ | refine State.updCore_touch (sub_trans (by decide) hw) _ _ _ ?_ | refine State.updGrant_touch (sub_trans (by decide) hw) _ _ _ ?_ | refine State.updD_touch (sub_trans (by decide) hw) _ _ ?_ | refine State.updTimCh_touch (sub_trans (by decide) hw) _ _ _ ?_ | refine State.updDb_touch (sub_trans (by decide) hw) _ _ _ ?_ | refine State.endReset_touch (sub_trans (by decide) hw) _ _ ?_))
    | apply touch_ite
    | apply touch_foldl
    | (intro _ _ _ k; try dsimp only)
    | (intro _ _; try dsimp only)
    | refine touch_snd (by assumption) ?_
    | (intro _; try dsimp only)
    | assumption
    | split

theorem State.eccUncorr_touch (hw : 851424777 ||| w = w) : ∀ s m, Touch w s₀ s → Touch w s₀ (State.eccUncorr s m) := by
  intro s m h; unfold State.eccUncorr; try dsimp only
  repeat' with_reducible first
    | exact h
    | exact Touch.refl _ _
    | refine State.free_touch (sub_trans (by decide) hw) _ ?_
    | refine State.wr_touch (sub_trans (by decide) hw) _ _ _ ?_
    | refine State.bump_touch (sub_trans (by decide) hw) _ _ _ ?_
    | refine State.eccRespond_touch (sub_trans (by decide) hw) _ _ ?_
    | refine State.raise_touch (sub_trans (by decide) hw) _ _ ?_
    | apply touch_foldl
    | refine touch_snd (by assumption) ?_
    | (intro _; try dsimp only)
    | assumption
    | split

theorem execPatrolScrub_touch (hw : 851424777 ||| w = w) : ∀ f s, Touch w s₀ s → TouchR w s₀ (execPatrolScrub f s) := by
  intro f s h; unfold execPatrolScrub; try dsimp only
  repeat' with_reducible first
    | exact h
    | exact Touch.refl _ _
    | apply touchR_next
    | apply touchR_ite
    | refine State.raise_touch (sub_trans (by decide) hw) _ _ ?_
    | refine State.bump_touch (sub_trans (by decide) hw) _ _ _ ?_
    | refine State.eccUncorr_touch (sub_trans (by decide) hw) _ _ ?_
    | refine State.dropLeaving_touch (sub_trans (by decide) hw) _ _ _ _ ?_
    | refine State.updD_touch (sub_trans (by decide) hw) _ _ ?_
    | (apply touch_ite_then; on_goal 1 => solve | (repeat' first | exact Touch.refl _ _ | refine State.raise_touch (sub_trans (by decide) hw) _ _ ?_ | refine State.bump_touch (sub_trans (by decide) hw) _ _ _ ?_ | refine State.eccUncorr_touch (sub_trans (by decide) hw) _ _ ?_ | refine State.dropLeaving_touch (sub_trans (by decide) hw) _ _ _ _ ?_ | refine State.updD_touch (sub_trans (by decide) hw) _ _ ?_))
    | apply touch_ite
    | apply touch_foldl
    | refine touch_snd (by assumption) ?_
    | (intro _; try dsimp only)
    | assumption
    | split

theorem execFatalFault_touch (hw : 546574977 ||| w = w) : ∀ s, Touch w s₀ s → TouchR w s₀ (execFatalFault s) := by
  intro s h; unfold execFatalFault; try dsimp only
  repeat' with_reducible first
    | exact h
    | exact Touch.refl _ _
    | apply touchR_next
    | apply touchR_ite
    | refine State.forceHold_touch (sub_trans (by decide) hw) _ ?_
    | refine State.raise_touch (sub_trans (by decide) hw) _ _ ?_
    | fail_if_no_progress refine touch_evt (sub_trans (by decide) hw) ?_

end Sys2Proof.Machine
end

