-- ==== Sys2Proof/Laws/Keeps/Time.lean ====
section
/-!
SUPPORT. What each operation of Time keeps.
-/

namespace Sys2Proof.Machine

variable {w : Nat} {s₀ : State}

theorem execDtCapture_touch (hw : 2568 ||| w = w) : ∀ m st wide s, Touch w s₀ s → TouchR w s₀ (execDtCapture m st wide s) := by
  intro m st wide s h
  unfold execDtCapture
  exact touchR_next (touch_bus (sub_trans (by decide) hw) (touch_time (sub_trans (by decide) hw) (State.advTo_touch (sub_trans (by decide) hw) _ _ h)))

theorem execTimePortLoad_touch (hw : 520 ||| w = w) : ∀ c s, Touch w s₀ s → TouchR w s₀ (execTimePortLoad c s) := by
  intro c s h; unfold execTimePortLoad; try dsimp only
  repeat' with_reducible first
    | exact h
    | exact Touch.refl _ _
    | apply touchR_next
    | apply touchR_ite
    | refine State.advTo_touch (sub_trans (by decide) hw) _ _ ?_
    | fail_if_no_progress refine touch_time (sub_trans (by decide) hw) ?_

theorem State.rtcAlign_touch (hw : 16 ||| w = w) : ∀ s, Touch w s₀ s → Touch w s₀ (State.rtcAlign s) := by
  intro s h; unfold State.rtcAlign; try dsimp only
  repeat' with_reducible first
    | exact h
    | exact Touch.refl _ _
    | fail_if_no_progress refine touch_vbat (sub_trans (by decide) hw) ?_
    | (apply touch_ite_then; on_goal 1 => solve | (repeat' first | exact Touch.refl _ _ | fail_if_no_progress refine touch_vbat (sub_trans (by decide) hw) ?_))

theorem State.histSample_touch (hw : 8388608 ||| w = w) : ∀ s, Touch w s₀ s → Touch w s₀ (State.histSample s) := by
  intro s h; unfold State.histSample; try dsimp only
  repeat' with_reducible first
    | exact h
    | exact Touch.refl _ _
    | refine State.updD_touch (sub_trans (by decide) hw) _ _ ?_

theorem State.vbatAverage_touch (hw : 16 ||| w = w) : ∀ s, Touch w s₀ s → Touch w s₀ (State.vbatAverage s) := by
  intro s h; unfold State.vbatAverage; try dsimp only
  repeat' with_reducible first
    | exact h
    | exact Touch.refl _ _
    | fail_if_no_progress refine touch_vbat (sub_trans (by decide) hw) ?_
    | (apply touch_ite_then; on_goal 1 => solve | (repeat' first | exact Touch.refl _ _ | fail_if_no_progress refine touch_vbat (sub_trans (by decide) hw) ?_))

theorem State.dpllxSecond_touch (hw : 8388608 ||| w = w) : ∀ s x, Touch w s₀ s → Touch w s₀ (State.dpllxSecond s x) := by
  intro s x h; unfold State.dpllxSecond; try dsimp only
  repeat' with_reducible first
    | exact h
    | exact Touch.refl _ _
    | refine State.updDpllx_touch (sub_trans (by decide) hw) _ _ _ ?_

theorem State.coreLoad_touch (hw : 268436480 ||| w = w) : ∀ s c, Touch w s₀ s → Touch w s₀ (State.coreLoad s c) := by
  intro s c h; unfold State.coreLoad; try dsimp only
  repeat' with_reducible first
    | exact h
    | exact Touch.refl _ _
    | refine State.free_touch (sub_trans (by decide) hw) _ ?_
    | refine State.updCore_touch (sub_trans (by decide) hw) _ _ _ ?_
    | (apply touch_ite_then; on_goal 1 => solve | (repeat' first | exact Touch.refl _ _ | refine State.free_touch (sub_trans (by decide) hw) _ ?_ | refine State.updCore_touch (sub_trans (by decide) hw) _ _ _ ?_ | apply touch_foldl))
    | (apply touch_ite_else; on_goal 1 => solve | (repeat' first | exact Touch.refl _ _ | refine State.free_touch (sub_trans (by decide) hw) _ ?_ | refine State.updCore_touch (sub_trans (by decide) hw) _ _ _ ?_ | apply touch_foldl))
    | apply touch_ite

theorem execDtSecondBoundary_touch (hw : 851707673 ||| w = w) : ∀ s, Touch w s₀ s → TouchR w s₀ (execDtSecondBoundary s) := by
  intro s h; unfold execDtSecondBoundary; try dsimp only
  repeat' with_reducible first
    | exact h
    | exact Touch.refl _ _
    | apply touchR_next
    | apply touchR_ite
    | refine State.cntPass_touch (sub_trans (by decide) hw) _ _ ?_
    | refine State.advDt_touch (sub_trans (by decide) hw) _ _ ?_
    | refine State.vbatAverage_touch (sub_trans (by decide) hw) _ ?_
    | refine State.histSample_touch (sub_trans (by decide) hw) _ ?_
    | refine State.leapSync_touch (sub_trans (by decide) hw) _ ?_
    | refine State.rtcAlign_touch (sub_trans (by decide) hw) _ ?_
    | refine State.dcoUpdate_touch (sub_trans (by decide) hw) _ ?_
    | refine State.dpllxSecond_touch (sub_trans (by decide) hw) _ _ ?_
    | refine State.clSecond_touch (sub_trans (by decide) hw) _ _ ?_
    | refine State.smearStart_touch (sub_trans (by decide) hw) _ ?_
    | refine State.timSource_touch (sub_trans (by decide) hw) _ _ _ ?_
    | refine State.coreLoad_touch (sub_trans (by decide) hw) _ _ ?_
    | (apply touch_ite_then; on_goal 1 => solve | (repeat' first | exact Touch.refl _ _ | refine State.cntPass_touch (sub_trans (by decide) hw) _ _ ?_ | refine State.advDt_touch (sub_trans (by decide) hw) _ _ ?_ | refine State.vbatAverage_touch (sub_trans (by decide) hw) _ ?_ | refine State.histSample_touch (sub_trans (by decide) hw) _ ?_ | refine State.leapSync_touch (sub_trans (by decide) hw) _ ?_ | refine State.rtcAlign_touch (sub_trans (by decide) hw) _ ?_ | refine State.dcoUpdate_touch (sub_trans (by decide) hw) _ ?_ | refine State.dpllxSecond_touch (sub_trans (by decide) hw) _ _ ?_ | refine State.clSecond_touch (sub_trans (by decide) hw) _ _ ?_ | refine State.smearStart_touch (sub_trans (by decide) hw) _ ?_ | refine State.timSource_touch (sub_trans (by decide) hw) _ _ _ ?_ | refine State.coreLoad_touch (sub_trans (by decide) hw) _ _ ?_))
    | apply touch_ite
    | apply touch_foldl
    | (intro _ _ _ k; try dsimp only)
    | (intro _ _; try dsimp only)

theorem State.slotAccess_touch (hw : 536871425 ||| w = w) : ∀ s m i t, State.slotAccess s m i = .error t → Touch w s₀ s → Touch w s₀ t := by
  intro s m i t e h
  unfold State.slotAccess at e
  split at e
  · cases e; exact State.slotBadArm_touch (sub_trans (by decide) hw) _ _ h
  · split at e
    · cases e; exact State.raise_touch (sub_trans (by decide) hw) _ _ h
    · cases e

theorem State.slotSnap_touch (hw : 536871689 ||| w = w) : ∀ s i, Touch w s₀ s → Touch w s₀ (State.slotSnap s i) := by
  intro s i h; unfold State.slotSnap; try dsimp only
  repeat' with_reducible first
    | exact h
    | exact Touch.refl _ _
    | refine State.slotFire_touch (sub_trans (by decide) hw) _ _ ?_
    | refine State.snapshot_touch (sub_trans (by decide) hw) _ _ ?_
    | refine State.advTo_touch (sub_trans (by decide) hw) _ _ ?_
    | (apply touch_ite_then; on_goal 1 => solve | (repeat' first | exact Touch.refl _ _ | refine State.slotFire_touch (sub_trans (by decide) hw) _ _ ?_ | refine State.snapshot_touch (sub_trans (by decide) hw) _ _ ?_ | refine State.advTo_touch (sub_trans (by decide) hw) _ _ ?_ | apply touch_foldl))
    | (apply touch_ite_else; on_goal 1 => solve | (repeat' first | exact Touch.refl _ _ | refine State.slotFire_touch (sub_trans (by decide) hw) _ _ ?_ | refine State.snapshot_touch (sub_trans (by decide) hw) _ _ ?_ | refine State.advTo_touch (sub_trans (by decide) hw) _ _ ?_ | apply touch_foldl))
    | apply touch_ite

theorem State.generalFire_touch (hw : 570426121 ||| w = w) : ∀ s n, Touch w s₀ s → Touch w s₀ (State.generalFire s n) := by
  intro s n h; unfold State.generalFire; try dsimp only
  repeat' with_reducible first
    | exact h
    | exact Touch.refl _ _
    | refine State.raise_touch (sub_trans (by decide) hw) _ _ ?_
    | refine State.orBits_touch (sub_trans (by decide) hw) _ _ _ ?_
    | refine State.slotFire_touch (sub_trans (by decide) hw) _ _ ?_
    | refine State.slotSnap_touch (sub_trans (by decide) hw) _ _ ?_
    | refine State.slotBoundary_touch (sub_trans (by decide) hw) _ _ ?_
    | refine State.timArm_touch (sub_trans (by decide) hw) _ _ _ _ _ ?_
    | apply touch_foldl
    | refine touch_snd (by assumption) ?_
    | (intro _; try dsimp only)
    | assumption
    | split

theorem State.slotDue_touch (hw : 570426121 ||| w = w) : ∀ s i, Touch w s₀ s → Touch w s₀ (State.slotDue s i) := by
  intro s i h; unfold State.slotDue; try dsimp only
  repeat' with_reducible first
    | exact h
    | exact Touch.refl _ _
    | refine State.slotFire_touch (sub_trans (by decide) hw) _ _ ?_
    | refine State.generalFire_touch (sub_trans (by decide) hw) _ _ ?_
    | (apply touch_ite_then; on_goal 1 => solve | (repeat' first | exact Touch.refl _ _ | refine State.slotFire_touch (sub_trans (by decide) hw) _ _ ?_ | refine State.generalFire_touch (sub_trans (by decide) hw) _ _ ?_ | apply touch_foldl))
    | (apply touch_ite_else; on_goal 1 => solve | (repeat' first | exact Touch.refl _ _ | refine State.slotFire_touch (sub_trans (by decide) hw) _ _ ?_ | refine State.generalFire_touch (sub_trans (by decide) hw) _ _ ?_ | apply touch_foldl))
    | apply touch_ite

theorem State.slotCtrl_touch (hw : 570426121 ||| w = w) : ∀ s m i v, Touch w s₀ s → Touch w s₀ (State.slotCtrl s m i v) := by
  intro s m i v h; unfold State.slotCtrl; try dsimp only
  repeat' with_reducible first
    | exact h
    | exact Touch.refl _ _
    | refine State.slotDue_touch (sub_trans (by decide) hw) _ _ ?_
    | refine State.wr_touch (sub_trans (by decide) hw) _ _ _ ?_
    | refine State.slotDisarm_touch (sub_trans (by decide) hw) _ _ ?_
    | refine State.slotBadArm_touch (sub_trans (by decide) hw) _ _ ?_
    | refine State.slotArm_touch (sub_trans (by decide) hw) _ _ _ _ _ _ ?_
    | (apply touch_ite_then; on_goal 1 => solve | (repeat' first | exact Touch.refl _ _ | refine State.slotDue_touch (sub_trans (by decide) hw) _ _ ?_ | refine State.wr_touch (sub_trans (by decide) hw) _ _ _ ?_ | refine State.slotDisarm_touch (sub_trans (by decide) hw) _ _ ?_ | refine State.slotBadArm_touch (sub_trans (by decide) hw) _ _ ?_ | refine State.slotArm_touch (sub_trans (by decide) hw) _ _ _ _ _ _ ?_ | apply touch_foldl))
    | (apply touch_ite_else; on_goal 1 => solve | (repeat' first | exact Touch.refl _ _ | refine State.slotDue_touch (sub_trans (by decide) hw) _ _ ?_ | refine State.wr_touch (sub_trans (by decide) hw) _ _ _ ?_ | refine State.slotDisarm_touch (sub_trans (by decide) hw) _ _ ?_ | refine State.slotBadArm_touch (sub_trans (by decide) hw) _ _ ?_ | refine State.slotArm_touch (sub_trans (by decide) hw) _ _ _ _ _ _ ?_ | apply touch_foldl))
    | apply touch_ite
    | apply touch_foldl
    | refine State.slotAccess_touch (sub_trans (by decide) hw) _ _ _ _ (by assumption) ?_
    | refine touch_snd (by assumption) ?_
    | (intro _; try dsimp only)
    | assumption
    | split

theorem execCsArm_touch (hw : 570426121 ||| w = w) : ∀ m i ctrl s, Touch w s₀ s → TouchR w s₀ (execCsArm m i ctrl s) := by
  intro m i ctrl s h; unfold execCsArm; try dsimp only
  repeat' with_reducible first
    | exact h
    | exact Touch.refl _ _
    | apply touchR_next
    | apply touchR_ite
    | refine State.slotCtrl_touch (sub_trans (by decide) hw) _ _ _ _ ?_
    | refine State.advTo_touch (sub_trans (by decide) hw) _ _ ?_

theorem execCsDisarm_touch (hw : 570426121 ||| w = w) : ∀ m i ctrl s, Touch w s₀ s → TouchR w s₀ (execCsDisarm m i ctrl s) := by
  intro m i ctrl s h; unfold execCsDisarm; try dsimp only
  repeat' with_reducible first
    | exact h
    | exact Touch.refl _ _
    | apply touchR_next
    | apply touchR_ite
    | refine State.slotCtrl_touch (sub_trans (by decide) hw) _ _ _ _ ?_
    | refine State.advTo_touch (sub_trans (by decide) hw) _ _ ?_

theorem execCompareSlotFire_touch (hw : 570426121 ||| w = w) : ∀ i s, Touch w s₀ s → TouchR w s₀ (execCompareSlotFire i s) := by
  intro i s h; unfold execCompareSlotFire; try dsimp only
  repeat' with_reducible first
    | exact h
    | exact Touch.refl _ _
    | apply touchR_next
    | apply touchR_ite
    | refine State.generalFire_touch (sub_trans (by decide) hw) _ _ ?_
    | (apply touch_ite_then; on_goal 1 => solve | (repeat' first | exact Touch.refl _ _ | refine State.generalFire_touch (sub_trans (by decide) hw) _ _ ?_))

theorem execFirmwareSlotFire_touch (hw : 536871689 ||| w = w) : ∀ i s, Touch w s₀ s → TouchR w s₀ (execFirmwareSlotFire i s) := by
  intro i s h; unfold execFirmwareSlotFire; try dsimp only
  repeat' with_reducible first
    | exact h
    | exact Touch.refl _ _
    | apply touchR_next
    | apply touchR_ite
    | refine State.slotFire_touch (sub_trans (by decide) hw) _ _ ?_
    | (apply touch_ite_then; on_goal 1 => solve | (repeat' first | exact Touch.refl _ _ | refine State.slotFire_touch (sub_trans (by decide) hw) _ _ ?_))

theorem execBackupCounterTick_touch (hw : 16 ||| w = w) : ∀ s, Touch w s₀ s → TouchR w s₀ (execBackupCounterTick s) := by
  intro s h; unfold execBackupCounterTick; try dsimp only
  repeat' with_reducible first
    | exact h
    | exact Touch.refl _ _
    | apply touchR_next
    | apply touchR_ite
    | fail_if_no_progress refine touch_vbat (sub_trans (by decide) hw) ?_
    | (apply touch_ite_then; on_goal 1 => solve | (repeat' first | exact Touch.refl _ _ | fail_if_no_progress refine touch_vbat (sub_trans (by decide) hw) ?_ | apply touch_foldl))
    | (apply touch_ite_else; on_goal 1 => solve | (repeat' first | exact Touch.refl _ _ | fail_if_no_progress refine touch_vbat (sub_trans (by decide) hw) ?_ | apply touch_foldl))
    | apply touch_ite

end Sys2Proof.Machine
end

