-- ==== Sys2Proof/Laws/Keeps/Commit.lean ====
section
/-!
SUPPORT. What each operation of Commit keeps.
-/

namespace Sys2Proof.Machine

variable {w : Nat} {s₀ : State}

theorem State.bump_keeps : ∀ s a n, Keeps s₀ s → Keeps s₀ (State.bump s a n) :=
  fun s a n h => Touch.after h (State.bump_touch (w := 1) rfl s a n (Touch.refl _ _)) (by decide)

theorem State.orBits_keeps : ∀ s a v, Keeps s₀ s → Keeps s₀ (State.orBits s a v) :=
  fun s a v h => Touch.after h (State.orBits_touch (w := 1) rfl s a v (Touch.refl _ _)) (by decide)

theorem State.raise_keeps : ∀ s e, Keeps s₀ s → Keeps s₀ (State.raise s e) :=
  fun s e h => Touch.after h (State.raise_touch (w := 536871425) rfl s e (Touch.refl _ _)) (by decide)

theorem State.advTo_keeps : ∀ s t, Keeps s₀ s → Keeps s₀ (State.advTo s t) :=
  fun s t h => Touch.after h (State.advTo_touch (w := 520) rfl s t (Touch.refl _ _)) (by decide)

theorem State.updCal_keeps : ∀ s i f, Keeps s₀ s → Keeps s₀ (State.updCal s i f) :=
  fun s i f h => Touch.after h (State.updCal_touch (w := 8192) rfl s i f (Touch.refl _ _)) (by decide)

theorem State.slotFire_keeps : ∀ s i, Keeps s₀ s → Keeps s₀ (State.slotFire s i) :=
  fun s i h => Touch.after h (State.slotFire_touch (w := 536871689) rfl s i (Touch.refl _ _)) (by decide)

theorem State.slotBoundaryG_keeps : ∀ s x, Keeps s₀ s → Keeps s₀ (State.slotBoundaryG s x).2 :=
  fun s x h => Touch.after h (State.slotBoundaryG_touch (w := 520) rfl s x (Touch.refl _ _)) (by decide)

theorem State.portCommit_touch (hw : 542192129 ||| w = w) : ∀ s old n, Touch w s₀ s → Touch w s₀ (State.portCommit s old n) := by
  intro s old n h; unfold State.portCommit; try dsimp only
  repeat' with_reducible first
    | exact h
    | exact Touch.refl _ _
    | refine State.linkDown_touch (sub_trans (by decide) hw) _ _ _ _ ?_
    | refine State.lanePower_touch (sub_trans (by decide) hw) _ _ ?_
    | refine State.updPort_touch (sub_trans (by decide) hw) _ _ _ ?_
    | refine State.slowFill_touch (sub_trans (by decide) hw) _ _ ?_
    | (apply touch_ite_then; on_goal 1 => solve | (repeat' first | exact Touch.refl _ _ | refine State.linkDown_touch (sub_trans (by decide) hw) _ _ _ _ ?_ | refine State.lanePower_touch (sub_trans (by decide) hw) _ _ ?_ | refine State.updPort_touch (sub_trans (by decide) hw) _ _ _ ?_ | refine State.slowFill_touch (sub_trans (by decide) hw) _ _ ?_))

theorem State.conflictCheck_touch (hw : 537920001 ||| w = w) : ∀ s n, Touch w s₀ s → Touch w s₀ (State.conflictCheck s n) := by
  intro s n h; unfold State.conflictCheck; try dsimp only
  repeat' with_reducible first
    | exact h
    | exact Touch.refl _ _
    | refine State.updPtpPort_touch (sub_trans (by decide) hw) _ _ _ ?_
    | refine State.raise_touch (sub_trans (by decide) hw) _ _ ?_
    | (apply touch_ite_then; on_goal 1 => solve | (repeat' first | exact Touch.refl _ _ | refine State.updPtpPort_touch (sub_trans (by decide) hw) _ _ _ ?_ | refine State.raise_touch (sub_trans (by decide) hw) _ _ ?_))

theorem State.certCheck_touch (hw : 537133569 ||| w = w) : ∀ s, Touch w s₀ s → Touch w s₀ (State.certCheck s) := by
  intro s h; unfold State.certCheck; try dsimp only
  repeat' with_reducible first
    | exact h
    | exact Touch.refl _ _
    | refine State.raise_touch (sub_trans (by decide) hw) _ _ ?_
    | fail_if_no_progress refine touch_srv (sub_trans (by decide) hw) ?_
    | (apply touch_ite_then; on_goal 1 => solve | (repeat' first | exact Touch.refl _ _ | refine State.raise_touch (sub_trans (by decide) hw) _ _ ?_ | fail_if_no_progress refine touch_srv (sub_trans (by decide) hw) ?_))

theorem State.reseedCommit_touch (hw : 671121921 ||| w = w) : ∀ s t, Touch w s₀ s → Touch w s₀ (State.reseedCommit s t) := by
  intro s t h; unfold State.reseedCommit; try dsimp only
  repeat' with_reducible first
    | exact h
    | exact Touch.refl _ _
    | refine State.reseedDue_touch (sub_trans (by decide) hw) _ _ ?_
    | fail_if_no_progress refine touch_cls (sub_trans (by decide) hw) ?_
    | (apply touch_ite_then; on_goal 1 => solve | (repeat' first | exact Touch.refl _ _ | refine State.reseedDue_touch (sub_trans (by decide) hw) _ _ ?_ | fail_if_no_progress refine touch_cls (sub_trans (by decide) hw) ?_))

theorem State.syncCommit_touch (hw : 536871689 ||| w = w) : ∀ s old n, Touch w s₀ s → Touch w s₀ (State.syncCommit s old n) := by
  intro s old n h; unfold State.syncCommit; try dsimp only
  repeat' with_reducible first
    | exact h
    | exact Touch.refl _ _
    | refine State.syncArm_touch (sub_trans (by decide) hw) _ _ _ ?_
    | (apply touch_ite_then; on_goal 1 => solve | (repeat' first | exact Touch.refl _ _ | refine State.syncArm_touch (sub_trans (by decide) hw) _ _ _ ?_))

theorem State.clkCommit_touch (hw : 545260297 ||| w = w) : ∀ s old, Touch w s₀ s → Touch w s₀ (State.clkCommit s old) := by
  intro s old h; unfold State.clkCommit; try dsimp only
  repeat' with_reducible first
    | exact h
    | exact Touch.refl _ _
    | refine State.ppsCommit_touch (sub_trans (by decide) hw) _ _ _ ?_
    | refine State.outArm_touch (sub_trans (by decide) hw) _ _ ?_
    | refine State.clrBits_touch (sub_trans (by decide) hw) _ _ _ ?_
    | fail_if_no_progress refine touch_clk (sub_trans (by decide) hw) ?_
    | (apply touch_ite_then; on_goal 1 => solve | (repeat' first | exact Touch.refl _ _ | refine State.ppsCommit_touch (sub_trans (by decide) hw) _ _ _ ?_ | refine State.outArm_touch (sub_trans (by decide) hw) _ _ ?_ | refine State.clrBits_touch (sub_trans (by decide) hw) _ _ _ ?_ | fail_if_no_progress refine touch_clk (sub_trans (by decide) hw) ?_))
    | apply touch_ite
    | apply touch_foldl
    | (intro _ _ _ k; try dsimp only)
    | (intro _ _; try dsimp only)

theorem State.commitBlocks_touch (hw : 937243529 ||| w = w) : ∀ s old, Touch w s₀ s → Touch w s₀ (State.commitBlocks s old) := by
  intro s old h; unfold State.commitBlocks; try dsimp only
  repeat' with_reducible first
    | exact h
    | exact Touch.refl _ _
    | refine State.watch_touch (sub_trans (by decide) hw) _ _ ?_
    | refine State.portCommit_touch (sub_trans (by decide) hw) _ _ _ ?_
    | refine State.conflictCheck_touch (sub_trans (by decide) hw) _ _ ?_
    | refine State.dShortEval_touch (sub_trans (by decide) hw) _ ?_
    | refine State.clCommit_touch (sub_trans (by decide) hw) _ _ _ ?_
    | refine State.syncCommit_touch (sub_trans (by decide) hw) _ _ _ ?_
    | refine State.certCheck_touch (sub_trans (by decide) hw) _ ?_
    | refine State.rtOpen_touch (sub_trans (by decide) hw) _ _ ?_
    | refine State.clkCommit_touch (sub_trans (by decide) hw) _ _ ?_
    | refine State.evlCommit_touch (sub_trans (by decide) hw) _ _ ?_
    | refine State.timCommit_touch (sub_trans (by decide) hw) _ _ ?_
    | refine State.internalRefs_touch (sub_trans (by decide) hw) _ ?_
    | refine State.gnssCommit_touch (sub_trans (by decide) hw) _ _ ?_
    | refine State.refCommit_touch (sub_trans (by decide) hw) _ _ ?_
    | refine State.dpllxSync_touch (sub_trans (by decide) hw) _ _ ?_
    | refine State.selectorEval_touch (sub_trans (by decide) hw) _ _ _ ?_
    | apply touch_foldl
    | (intro _ _ _ k; try dsimp only)
    | (intro _ _; try dsimp only)

theorem State.commitEffects_touch (hw : 1071494025 ||| w = w) : ∀ s old t, Touch w s₀ s → Touch w s₀ (State.commitEffects s old t) := by
  intro s old t h; unfold State.commitEffects; try dsimp only
  repeat' with_reducible first
    | exact h
    | exact Touch.refl _ _
    | refine State.alarmSync_touch (sub_trans (by decide) hw) _ ?_
    | refine State.timeStateChange_touch (sub_trans (by decide) hw) _ ?_
    | refine State.reseedCommit_touch (sub_trans (by decide) hw) _ _ ?_
    | refine State.commitBlocks_touch (sub_trans (by decide) hw) _ _ ?_

theorem State.commitEffects_keeps : ∀ s old t, Keeps s₀ s → Keeps s₀ (State.commitEffects s old t) :=
  fun s old t h => Touch.after h (State.commitEffects_touch (w := 1071494025) rfl s old t (Touch.refl _ _)) (by decide)

theorem State.commitCopy_touch (hw : 536871685 ||| w = w) : ∀ s tc first, Touch w s₀ s → Touch w s₀ (State.commitCopy s tc first) := by
  intro s tc first h; unfold State.commitCopy; try dsimp only
  repeat' with_reducible first
    | exact h
    | exact Touch.refl _ _
    | refine State.bump_touch (sub_trans (by decide) hw) _ _ _ ?_
    | refine State.wr64_touch (sub_trans (by decide) hw) _ _ _ ?_
    | refine State.raise_touch (sub_trans (by decide) hw) _ _ ?_
    | fail_if_no_progress refine touch_active_cfg (sub_trans (by decide) hw) ?_

theorem State.commitCopy_keeps : ∀ s tc first, Keeps s₀ s → Keeps s₀ (State.commitCopy s tc first) := by
  intro s tc first h
  unfold State.commitCopy
  dsimp only
  refine Touch.after (h.trans (s := s₀) (u := { s with active := s.shadow }) ⟨rfl, .refl _, fun k => ?_⟩)
    (State.raise_touch (w := 536871681) rfl _ _ (State.bump_touch (w := 536871681) rfl _ _ _ (State.wr64_touch (w := 536871681) rfl _ _ _ (touch_cfg (w := 536871681) rfl (Touch.refl _ _)))))
  simp only [State.canon, Bool.and_eq_true] at *
  exact ⟨k.1, k.1.2⟩

theorem State.commitEdge_touch (hw : 1071494029 ||| w = w) : ∀ s tc scheduled, Touch w s₀ s → Touch w s₀ (State.commitEdge s tc scheduled) := by
  intro s tc scheduled h; unfold State.commitEdge; try dsimp only
  repeat' with_reducible first
    | exact h
    | exact Touch.refl _ _
    | refine State.raise_touch (sub_trans (by decide) hw) _ _ ?_
    | refine State.orBits_touch (sub_trans (by decide) hw) _ _ _ ?_
    | refine State.commitEffects_touch (sub_trans (by decide) hw) _ _ _ ?_
    | refine State.commitCopy_touch (sub_trans (by decide) hw) _ _ _ ?_
    | fail_if_no_progress refine touch_cfg (sub_trans (by decide) hw) ?_
    | (apply touch_ite_then; on_goal 1 => solve | (repeat' first | exact Touch.refl _ _ | refine State.raise_touch (sub_trans (by decide) hw) _ _ ?_ | refine State.orBits_touch (sub_trans (by decide) hw) _ _ _ ?_ | refine State.commitEffects_touch (sub_trans (by decide) hw) _ _ _ ?_ | refine State.commitCopy_touch (sub_trans (by decide) hw) _ _ _ ?_ | fail_if_no_progress refine touch_cfg (sub_trans (by decide) hw) ?_ | apply touch_foldl))
    | (apply touch_ite_else; on_goal 1 => solve | (repeat' first | exact Touch.refl _ _ | refine State.raise_touch (sub_trans (by decide) hw) _ _ ?_ | refine State.orBits_touch (sub_trans (by decide) hw) _ _ _ ?_ | refine State.commitEffects_touch (sub_trans (by decide) hw) _ _ _ ?_ | refine State.commitCopy_touch (sub_trans (by decide) hw) _ _ _ ?_ | fail_if_no_progress refine touch_cfg (sub_trans (by decide) hw) ?_ | apply touch_foldl))
    | apply touch_ite

theorem State.commitEdge_keeps : ∀ s tc scheduled, Keeps s₀ s → Keeps s₀ (State.commitEdge s tc scheduled) := by
  intro s tc scheduled h; unfold State.commitEdge; try dsimp only
  repeat' with_reducible first
    | exact h
    | exact Keeps.refl _
    | apply State.raise_keeps
    | apply State.orBits_keeps
    | apply State.commitEffects_keeps
    | apply State.commitCopy_keeps
    | fail_if_no_progress apply Keeps.fields
    | (apply keeps_ite_then; on_goal 1 => solve | (repeat' first | exact Keeps.refl _ | apply State.raise_keeps | apply State.orBits_keeps | apply State.commitEffects_keeps | apply State.commitCopy_keeps | fail_if_no_progress apply Keeps.fields | apply keeps_foldl))
    | (apply keeps_ite_else; on_goal 1 => solve | (repeat' first | exact Keeps.refl _ | apply State.raise_keeps | apply State.orBits_keeps | apply State.commitEffects_keeps | apply State.commitCopy_keeps | fail_if_no_progress apply Keeps.fields | apply keeps_foldl))
    | apply keeps_ite

theorem State.scheduledEdge_touch (hw : 1071494029 ||| w = w) : ∀ s, Touch w s₀ s → Touch w s₀ (State.scheduledEdge s) := by
  intro s h; unfold State.scheduledEdge; try dsimp only
  repeat' with_reducible first
    | exact h
    | exact Touch.refl _ _
    | refine State.slotBoundaryG_touch (sub_trans (by decide) hw) _ _ ?_
    | refine State.slotFire_touch (sub_trans (by decide) hw) _ _ ?_
    | refine State.orBits_touch (sub_trans (by decide) hw) _ _ _ ?_
    | refine State.commitEdge_touch (sub_trans (by decide) hw) _ _ _ ?_
    | fail_if_no_progress refine touch_cfg (sub_trans (by decide) hw) ?_
    | (apply touch_ite_then; on_goal 1 => solve | (repeat' first | exact Touch.refl _ _ | refine State.slotBoundaryG_touch (sub_trans (by decide) hw) _ _ ?_ | refine State.slotFire_touch (sub_trans (by decide) hw) _ _ ?_ | refine State.orBits_touch (sub_trans (by decide) hw) _ _ _ ?_ | refine State.commitEdge_touch (sub_trans (by decide) hw) _ _ _ ?_ | fail_if_no_progress refine touch_cfg (sub_trans (by decide) hw) ?_))

theorem State.scheduledEdge_keeps : ∀ s, Keeps s₀ s → Keeps s₀ (State.scheduledEdge s) := by
  intro s h; unfold State.scheduledEdge; try dsimp only
  repeat' with_reducible first
    | exact h
    | exact Keeps.refl _
    | apply State.slotBoundaryG_keeps
    | apply State.slotFire_keeps
    | apply State.orBits_keeps
    | apply State.commitEdge_keeps
    | fail_if_no_progress apply Keeps.fields
    | (apply keeps_ite_then; on_goal 1 => solve | (repeat' first | exact Keeps.refl _ | apply State.slotBoundaryG_keeps | apply State.slotFire_keeps | apply State.orBits_keeps))

theorem State.immediateEdge_touch (hw : 1071494029 ||| w = w) : ∀ s t, Touch w s₀ s → Touch w s₀ (State.immediateEdge s t) := by
  intro s t h; unfold State.immediateEdge; try dsimp only
  repeat' with_reducible first
    | exact h
    | exact Touch.refl _ _
    | refine State.advTo_touch (sub_trans (by decide) hw) _ _ ?_
    | refine State.commitEdge_touch (sub_trans (by decide) hw) _ _ _ ?_
    | fail_if_no_progress refine touch_cfg (sub_trans (by decide) hw) ?_

theorem State.immediateEdge_keeps : ∀ s t, Keeps s₀ s → Keeps s₀ (State.immediateEdge s t) := by
  intro s t h; unfold State.immediateEdge; try dsimp only
  repeat' with_reducible first
    | exact h
    | exact Keeps.refl _
    | apply State.advTo_keeps
    | apply State.commitEdge_keeps
    | fail_if_no_progress apply Keeps.fields

theorem execCommit_touch (hw : 1071494029 ||| w = w) : ∀ s, Touch w s₀ s → TouchR w s₀ (execCommit s) := by
  intro s h; unfold execCommit; try dsimp only
  repeat' with_reducible first
    | exact h
    | exact Touch.refl _ _
    | apply touchR_next
    | apply touchR_ite
    | refine State.scheduledEdge_touch (sub_trans (by decide) hw) _ ?_
    | refine State.immediateEdge_touch (sub_trans (by decide) hw) _ _ ?_
    | (apply touch_ite_then; on_goal 1 => solve | (repeat' first | exact Touch.refl _ _ | refine State.scheduledEdge_touch (sub_trans (by decide) hw) _ ?_ | refine State.immediateEdge_touch (sub_trans (by decide) hw) _ _ ?_ | apply touch_foldl))
    | (apply touch_ite_else; on_goal 1 => solve | (repeat' first | exact Touch.refl _ _ | refine State.scheduledEdge_touch (sub_trans (by decide) hw) _ ?_ | refine State.immediateEdge_touch (sub_trans (by decide) hw) _ _ ?_ | apply touch_foldl))
    | apply touch_ite
    | apply touch_foldl
    | refine touch_snd (by assumption) ?_
    | (intro _; try dsimp only)
    | assumption
    | split

theorem execCommit_keeps : ∀ s, Keeps s₀ s → KeepsR s₀ (execCommit s) := by
  intro s h; unfold execCommit; try dsimp only
  repeat' with_reducible first
    | exact h
    | exact Keeps.refl _
    | apply keepsR_next
    | apply keepsR_ite
    | apply State.scheduledEdge_keeps
    | apply State.immediateEdge_keeps
    | fail_if_no_progress apply Keeps.fields
    | (apply keeps_ite_then; on_goal 1 => solve | (repeat' first | exact Keeps.refl _ | apply State.scheduledEdge_keeps | apply State.immediateEdge_keeps | fail_if_no_progress apply Keeps.fields | apply keeps_foldl))
    | (apply keeps_ite_else; on_goal 1 => solve | (repeat' first | exact Keeps.refl _ | apply State.scheduledEdge_keeps | apply State.immediateEdge_keeps | fail_if_no_progress apply Keeps.fields | apply keeps_foldl))
    | apply keeps_ite
    | apply keeps_foldl
    | refine keeps_snd (by assumption) ?_
    | (intro _; try dsimp only)
    | assumption
    | split

theorem State.cfgRefused_touch (hw : 536871425 ||| w = w) : ∀ s, Touch w s₀ s → Touch w s₀ (State.cfgRefused s) := by
  intro s h; unfold State.cfgRefused; try dsimp only
  repeat' with_reducible first
    | exact h
    | exact Touch.refl _ _
    | refine State.raise_touch (sub_trans (by decide) hw) _ _ ?_
    | refine State.orBits_touch (sub_trans (by decide) hw) _ _ _ ?_

theorem State.cfgRefused_keeps : ∀ s, Keeps s₀ s → Keeps s₀ (State.cfgRefused s) :=
  fun s h => Touch.after h (State.cfgRefused_touch (w := 536871425) rfl s (Touch.refl _ _)) (by decide)

theorem State.cfgCommitNow_touch (hw : 536871681 ||| w = w) : ∀ s, Touch w s₀ s → Touch w s₀ (State.cfgCommitNow s) := by
  intro s h; unfold State.cfgCommitNow; try dsimp only
  repeat' with_reducible first
    | exact h
    | exact Touch.refl _ _
    | refine State.cfgRefused_touch (sub_trans (by decide) hw) _ ?_
    | refine State.orBits_touch (sub_trans (by decide) hw) _ _ _ ?_
    | fail_if_no_progress refine touch_cfg (sub_trans (by decide) hw) ?_
    | (apply touch_ite_then; on_goal 1 => solve | (repeat' first | exact Touch.refl _ _ | refine State.cfgRefused_touch (sub_trans (by decide) hw) _ ?_ | refine State.orBits_touch (sub_trans (by decide) hw) _ _ _ ?_ | fail_if_no_progress refine touch_cfg (sub_trans (by decide) hw) ?_ | apply touch_foldl))
    | (apply touch_ite_else; on_goal 1 => solve | (repeat' first | exact Touch.refl _ _ | refine State.cfgRefused_touch (sub_trans (by decide) hw) _ ?_ | refine State.orBits_touch (sub_trans (by decide) hw) _ _ _ ?_ | fail_if_no_progress refine touch_cfg (sub_trans (by decide) hw) ?_ | apply touch_foldl))
    | apply touch_ite

theorem State.cfgCommitNow_keeps : ∀ s, Keeps s₀ s → Keeps s₀ (State.cfgCommitNow s) :=
  fun s h => Touch.after h (State.cfgCommitNow_touch (w := 536871681) rfl s (Touch.refl _ _)) (by decide)

theorem State.cfgSchedule_touch (hw : 536871689 ||| w = w) : ∀ s, Touch w s₀ s → Touch w s₀ (State.cfgSchedule s) := by
  intro s h; unfold State.cfgSchedule; try dsimp only
  repeat' with_reducible first
    | exact h
    | exact Touch.refl _ _
    | refine State.slotArmBound_touch (sub_trans (by decide) hw) _ _ _ _ _ _ ?_
    | fail_if_no_progress refine touch_cfg (sub_trans (by decide) hw) ?_

theorem State.cfgSchedule_keeps : ∀ s, Keeps s₀ s → Keeps s₀ (State.cfgSchedule s) :=
  fun s h => Touch.after h (State.cfgSchedule_touch (w := 536871689) rfl s (Touch.refl _ _)) (by decide)

theorem State.cfgCancel_touch (hw : 264 ||| w = w) : ∀ s, Touch w s₀ s → Touch w s₀ (State.cfgCancel s) := by
  intro s h; unfold State.cfgCancel; try dsimp only
  repeat' with_reducible first
    | exact h
    | exact Touch.refl _ _
    | refine State.slotDisarm_touch (sub_trans (by decide) hw) _ _ ?_
    | fail_if_no_progress refine touch_cfg (sub_trans (by decide) hw) ?_

theorem State.cfgCancel_keeps : ∀ s, Keeps s₀ s → Keeps s₀ (State.cfgCancel s) :=
  fun s h => Touch.after h (State.cfgCancel_touch (w := 264) rfl s (Touch.refl _ _)) (by decide)

theorem State.cfgRevert_touch (hw : 536871427 ||| w = w) : ∀ s, Touch w s₀ s → Touch w s₀ (State.cfgRevert s) := by
  intro s h; unfold State.cfgRevert; try dsimp only
  repeat' with_reducible first
    | exact h
    | exact Touch.refl _ _
    | refine State.cfgRefused_touch (sub_trans (by decide) hw) _ ?_
    | fail_if_no_progress refine touch_shadow (sub_trans (by decide) hw) ?_
    | (apply touch_ite_then; on_goal 1 => solve | (repeat' first | exact Touch.refl _ _ | refine State.cfgRefused_touch (sub_trans (by decide) hw) _ ?_ | fail_if_no_progress refine touch_shadow (sub_trans (by decide) hw) ?_ | apply touch_foldl))
    | (apply touch_ite_else; on_goal 1 => solve | (repeat' first | exact Touch.refl _ _ | refine State.cfgRefused_touch (sub_trans (by decide) hw) _ ?_ | fail_if_no_progress refine touch_shadow (sub_trans (by decide) hw) ?_ | apply touch_foldl))
    | apply touch_ite

theorem State.cfgRevert_keeps : ∀ s, Keeps s₀ s → Keeps s₀ (State.cfgRevert s) := by
  intro s h
  refine keeps_ite (Touch.after h (State.raise_touch (w := 536871425) rfl _ _ (State.orBits_touch (w := 536871425) rfl _ _ _ (Touch.refl _ _)))) (h.trans ⟨rfl, .refl _, fun k => ?_⟩)
  simp only [State.canon, Bool.and_eq_true] at *
  exact ⟨⟨k.1.1, k.2⟩, k.2⟩

theorem State.cfgCmd_touch (hw : 536871691 ||| w = w) : ∀ s v, Touch w s₀ s → Touch w s₀ (State.cfgCmd s v) := by
  intro s v h; unfold State.cfgCmd; try dsimp only
  repeat' with_reducible first
    | exact h
    | exact Touch.refl _ _
    | refine State.cfgRefused_touch (sub_trans (by decide) hw) _ ?_
    | refine State.cfgCommitNow_touch (sub_trans (by decide) hw) _ ?_
    | refine State.cfgSchedule_touch (sub_trans (by decide) hw) _ ?_
    | refine State.cfgCancel_touch (sub_trans (by decide) hw) _ ?_
    | refine State.cfgRevert_touch (sub_trans (by decide) hw) _ ?_
    | (apply touch_ite_then; on_goal 1 => solve | (repeat' first | exact Touch.refl _ _ | refine State.cfgRefused_touch (sub_trans (by decide) hw) _ ?_ | refine State.cfgCommitNow_touch (sub_trans (by decide) hw) _ ?_ | refine State.cfgSchedule_touch (sub_trans (by decide) hw) _ ?_ | refine State.cfgCancel_touch (sub_trans (by decide) hw) _ ?_ | refine State.cfgRevert_touch (sub_trans (by decide) hw) _ ?_ | apply touch_foldl))
    | (apply touch_ite_else; on_goal 1 => solve | (repeat' first | exact Touch.refl _ _ | refine State.cfgRefused_touch (sub_trans (by decide) hw) _ ?_ | refine State.cfgCommitNow_touch (sub_trans (by decide) hw) _ ?_ | refine State.cfgSchedule_touch (sub_trans (by decide) hw) _ ?_ | refine State.cfgCancel_touch (sub_trans (by decide) hw) _ ?_ | refine State.cfgRevert_touch (sub_trans (by decide) hw) _ ?_ | apply touch_foldl))
    | apply touch_ite

theorem State.cfgCmd_keeps : ∀ s v, Keeps s₀ s → Keeps s₀ (State.cfgCmd s v) := by
  intro s v h; unfold State.cfgCmd; try dsimp only
  repeat' with_reducible first
    | exact h
    | exact Keeps.refl _
    | apply State.cfgRefused_keeps
    | apply State.cfgCommitNow_keeps
    | apply State.cfgSchedule_keeps
    | apply State.cfgCancel_keeps
    | apply State.cfgRevert_keeps
    | fail_if_no_progress apply Keeps.fields
    | (apply keeps_ite_then; on_goal 1 => solve | (repeat' first | exact Keeps.refl _ | apply State.cfgRefused_keeps | apply State.cfgCommitNow_keeps | apply State.cfgSchedule_keeps | apply State.cfgCancel_keeps | apply State.cfgRevert_keeps | fail_if_no_progress apply Keeps.fields | apply keeps_foldl))
    | (apply keeps_ite_else; on_goal 1 => solve | (repeat' first | exact Keeps.refl _ | apply State.cfgRefused_keeps | apply State.cfgCommitNow_keeps | apply State.cfgSchedule_keeps | apply State.cfgCancel_keeps | apply State.cfgRevert_keeps | fail_if_no_progress apply Keeps.fields | apply keeps_foldl))
    | apply keeps_ite

theorem execCommitNow_touch (hw : 536871691 ||| w = w) : ∀ s, Touch w s₀ s → TouchR w s₀ (execCommitNow s) := by
  intro s h; unfold execCommitNow; try dsimp only
  repeat' with_reducible first
    | exact h
    | exact Touch.refl _ _
    | apply touchR_next
    | apply touchR_ite
    | refine State.cfgCmd_touch (sub_trans (by decide) hw) _ _ ?_

theorem execCommitNow_keeps : ∀ s, Keeps s₀ s → KeepsR s₀ (execCommitNow s) := by
  intro s h; unfold execCommitNow; try dsimp only
  repeat' with_reducible first
    | exact h
    | exact Keeps.refl _
    | apply keepsR_next
    | apply keepsR_ite
    | apply State.cfgCmd_keeps

theorem execCommitSchedule_touch (hw : 536871691 ||| w = w) : ∀ s, Touch w s₀ s → TouchR w s₀ (execCommitSchedule s) := by
  intro s h; unfold execCommitSchedule; try dsimp only
  repeat' with_reducible first
    | exact h
    | exact Touch.refl _ _
    | apply touchR_next
    | apply touchR_ite
    | refine State.cfgCmd_touch (sub_trans (by decide) hw) _ _ ?_

theorem execCommitSchedule_keeps : ∀ s, Keeps s₀ s → KeepsR s₀ (execCommitSchedule s) := by
  intro s h; unfold execCommitSchedule; try dsimp only
  repeat' with_reducible first
    | exact h
    | exact Keeps.refl _
    | apply keepsR_next
    | apply keepsR_ite
    | apply State.cfgCmd_keeps

theorem execCommitCancel_touch (hw : 536871691 ||| w = w) : ∀ s, Touch w s₀ s → TouchR w s₀ (execCommitCancel s) := by
  intro s h; unfold execCommitCancel; try dsimp only
  repeat' with_reducible first
    | exact h
    | exact Touch.refl _ _
    | apply touchR_next
    | apply touchR_ite
    | refine State.cfgCmd_touch (sub_trans (by decide) hw) _ _ ?_

theorem execCommitCancel_keeps : ∀ s, Keeps s₀ s → KeepsR s₀ (execCommitCancel s) := by
  intro s h; unfold execCommitCancel; try dsimp only
  repeat' with_reducible first
    | exact h
    | exact Keeps.refl _
    | apply keepsR_next
    | apply keepsR_ite
    | apply State.cfgCmd_keeps

theorem execConfigRevert_touch (hw : 536871691 ||| w = w) : ∀ s, Touch w s₀ s → TouchR w s₀ (execConfigRevert s) := by
  intro s h; unfold execConfigRevert; try dsimp only
  repeat' with_reducible first
    | exact h
    | exact Touch.refl _ _
    | apply touchR_next
    | apply touchR_ite
    | refine State.cfgCmd_touch (sub_trans (by decide) hw) _ _ ?_

theorem execConfigRevert_keeps : ∀ s, Keeps s₀ s → KeepsR s₀ (execConfigRevert s) := by
  intro s h; unfold execConfigRevert; try dsimp only
  repeat' with_reducible first
    | exact h
    | exact Keeps.refl _
    | apply keepsR_next
    | apply keepsR_ite
    | apply State.cfgCmd_keeps

theorem State.dropCluster_touch (hw : 65536 ||| w = w) : ∀ s g x2, Touch w s₀ s → Touch w s₀ (State.dropCluster s g x2) := by
  intro s g x2 h; unfold State.dropCluster; try dsimp only
  repeat' with_reducible first
    | exact h
    | exact Touch.refl _ _
    | refine State.unqueue_touch (sub_trans (by decide) hw) _ _ _ ?_
    | refine State.freeSlots_touch (sub_trans (by decide) hw) _ _ _ ?_
    | refine State.setBusy_touch (sub_trans (by decide) hw) _ _ _ _ ?_
    | refine State.freeCredit_touch (sub_trans (by decide) hw) _ _ ?_
    | refine State.updClu_touch (sub_trans (by decide) hw) _ _ _ ?_
    | apply touch_foldl
    | (intro _ _ _ k; try dsimp only)
    | (intro _ _; try dsimp only)
    | refine touch_snd (by assumption) ?_
    | (intro _; try dsimp only)
    | assumption
    | split

theorem State.dropCluster_keeps : ∀ s g x2, Keeps s₀ s → Keeps s₀ (State.dropCluster s g x2) :=
  fun s g x2 h => Touch.after h (State.dropCluster_touch (w := 65536) rfl s g x2 (Touch.refl _ _)) (by decide)

theorem State.retireRelease_touch (hw : 1071494029 ||| w = w) : ∀ s, Touch w s₀ s → Touch w s₀ (State.retireRelease s) := by
  intro s h; unfold State.retireRelease; try dsimp only
  repeat' with_reducible first
    | exact h
    | exact Touch.refl _ _
    | refine State.commitEffects_touch (sub_trans (by decide) hw) _ _ _ ?_
    | refine State.commitCopy_touch (sub_trans (by decide) hw) _ _ _ ?_
    | fail_if_no_progress refine touch_cfg (sub_trans (by decide) hw) ?_
    | apply touch_foldl
    | refine touch_snd (by assumption) ?_
    | (intro _; try dsimp only)
    | assumption
    | split

theorem State.retireRelease_keeps : ∀ s, Keeps s₀ s → Keeps s₀ (State.retireRelease s) := by
  intro s h; unfold State.retireRelease; try dsimp only
  repeat' with_reducible first
    | exact h
    | exact Keeps.refl _
    | apply State.commitEffects_keeps
    | apply State.commitCopy_keeps
    | fail_if_no_progress apply Keeps.fields
    | apply keeps_foldl
    | refine keeps_snd (by assumption) ?_
    | (intro _; try dsimp only)
    | assumption
    | split

theorem execRetiringRelease_touch (hw : 1071494029 ||| w = w) : ∀ s, Touch w s₀ s → TouchR w s₀ (execRetiringRelease s) := by
  intro s h; unfold execRetiringRelease; try dsimp only
  repeat' with_reducible first
    | exact h
    | exact Touch.refl _ _
    | apply touchR_next
    | apply touchR_ite
    | refine State.retireRelease_touch (sub_trans (by decide) hw) _ ?_
    | refine State.advTo_touch (sub_trans (by decide) hw) _ _ ?_
    | apply touch_ite
    | apply touch_foldl
    | refine touch_snd (by assumption) ?_
    | (intro _; try dsimp only)
    | assumption
    | split

theorem execRetiringRelease_keeps : ∀ s, Keeps s₀ s → KeepsR s₀ (execRetiringRelease s) := by
  intro s h; unfold execRetiringRelease; try dsimp only
  repeat' with_reducible first
    | exact h
    | exact Keeps.refl _
    | apply keepsR_next
    | apply keepsR_ite
    | apply State.retireRelease_keeps
    | apply State.advTo_keeps
    | fail_if_no_progress apply Keeps.fields
    | apply keeps_ite
    | apply keeps_foldl
    | refine keeps_snd (by assumption) ?_
    | (intro _; try dsimp only)
    | assumption
    | split

theorem execRetiringLimit_touch (hw : 1071494029 ||| w = w) : ∀ s, Touch w s₀ s → TouchR w s₀ (execRetiringLimit s) := by
  intro s h; unfold execRetiringLimit; try dsimp only
  repeat' with_reducible first
    | exact h
    | exact Touch.refl _ _
    | apply touchR_next
    | apply touchR_ite
    | refine State.advTo_touch (sub_trans (by decide) hw) _ _ ?_
    | refine State.dropCluster_touch (sub_trans (by decide) hw) _ _ _ ?_
    | refine State.updCal_touch (sub_trans (by decide) hw) _ _ _ ?_
    | refine State.raise_touch (sub_trans (by decide) hw) _ _ ?_
    | refine State.bump_touch (sub_trans (by decide) hw) _ _ _ ?_
    | refine State.retireRelease_touch (sub_trans (by decide) hw) _ ?_
    | (apply touch_ite_then; on_goal 1 => solve | (repeat' first | exact Touch.refl _ _ | refine State.advTo_touch (sub_trans (by decide) hw) _ _ ?_ | refine State.dropCluster_touch (sub_trans (by decide) hw) _ _ _ ?_ | refine State.updCal_touch (sub_trans (by decide) hw) _ _ _ ?_ | refine State.raise_touch (sub_trans (by decide) hw) _ _ ?_ | refine State.bump_touch (sub_trans (by decide) hw) _ _ _ ?_ | refine State.retireRelease_touch (sub_trans (by decide) hw) _ ?_ | apply touch_foldl | (intro _ _; try dsimp only)))
    | (apply touch_ite_else; on_goal 1 => solve | (repeat' first | exact Touch.refl _ _ | refine State.advTo_touch (sub_trans (by decide) hw) _ _ ?_ | refine State.dropCluster_touch (sub_trans (by decide) hw) _ _ _ ?_ | refine State.updCal_touch (sub_trans (by decide) hw) _ _ _ ?_ | refine State.raise_touch (sub_trans (by decide) hw) _ _ ?_ | refine State.bump_touch (sub_trans (by decide) hw) _ _ _ ?_ | refine State.retireRelease_touch (sub_trans (by decide) hw) _ ?_))
    | apply touch_ite
    | apply touch_foldl
    | (intro _ _ _ k; try dsimp only)
    | (intro _ _; try dsimp only)
    | refine touch_snd (by assumption) ?_
    | (intro _; try dsimp only)
    | assumption
    | split

theorem execRetiringLimit_keeps : ∀ s, Keeps s₀ s → KeepsR s₀ (execRetiringLimit s) := by
  intro s h; unfold execRetiringLimit; try dsimp only
  repeat' with_reducible first
    | exact h
    | exact Keeps.refl _
    | apply keepsR_next
    | apply keepsR_ite
    | apply State.advTo_keeps
    | apply State.dropCluster_keeps
    | apply State.updCal_keeps
    | apply State.raise_keeps
    | apply State.bump_keeps
    | apply State.retireRelease_keeps
    | fail_if_no_progress apply Keeps.fields
    | (apply keeps_ite_then; on_goal 1 => solve | (repeat' first | exact Keeps.refl _ | apply State.advTo_keeps | apply State.dropCluster_keeps | apply State.updCal_keeps | apply State.raise_keeps | apply State.bump_keeps | apply State.retireRelease_keeps | fail_if_no_progress apply Keeps.fields | apply keeps_foldl | (intro _ _; try dsimp only)))
    | (apply keeps_ite_else; on_goal 1 => solve | (repeat' first | exact Keeps.refl _ | apply State.advTo_keeps | apply State.dropCluster_keeps | apply State.updCal_keeps | apply State.raise_keeps | apply State.bump_keeps))
    | apply keeps_ite
    | apply keeps_foldl
    | (intro _ _ _ k; try dsimp only)
    | (intro _ _; try dsimp only)
    | refine keeps_snd (by assumption) ?_
    | (intro _; try dsimp only)
    | assumption
    | split

end Sys2Proof.Machine
end

