-- ==== Sys2Proof/Laws/Keeps/Bus.lean ====
section
/-!
SUPPORT. What each operation of Bus keeps.
-/

namespace Sys2Proof.Machine

variable {w : Nat} {s₀ : State}

theorem State.wr_keeps : ∀ s a v, Keeps s₀ s → Keeps s₀ (State.wr s a v) :=
  fun s a v h => Touch.after h (State.wr_touch (w := 1) rfl s a v (Touch.refl _ _)) (by decide)

theorem State.clrBits_keeps : ∀ s a v, Keeps s₀ s → Keeps s₀ (State.clrBits s a v) :=
  fun s a v h => Touch.after h (State.clrBits_touch (w := 1) rfl s a v (Touch.refl _ _)) (by decide)

theorem State.lockRefused_keeps : ∀ s, Keeps s₀ s → Keeps s₀ (State.lockRefused s) :=
  fun s h => Touch.after h (State.lockRefused_touch (w := 536871425) rfl s (Touch.refl _ _)) (by decide)

theorem State.writeRefused_touch (hw : 537133569 ||| w = w) : ∀ s blk row inst, Touch w s₀ s → Touch w s₀ (State.writeRefused s blk row inst) := by
  intro s blk row inst h; unfold State.writeRefused; try dsimp only
  repeat' with_reducible first
    | exact h
    | exact Touch.refl _ _
    | refine State.portEvt_touch (sub_trans (by decide) hw) _ _ _ ?_
    | refine State.raise_touch (sub_trans (by decide) hw) _ _ ?_
    | refine State.ruleRefused_touch (sub_trans (by decide) hw) _ ?_
    | (apply touch_ite_then; on_goal 1 => solve | (repeat' first | exact Touch.refl _ _ | refine State.portEvt_touch (sub_trans (by decide) hw) _ _ _ ?_ | refine State.raise_touch (sub_trans (by decide) hw) _ _ ?_ | refine State.ruleRefused_touch (sub_trans (by decide) hw) _ ?_ | apply touch_foldl))
    | (apply touch_ite_else; on_goal 1 => solve | (repeat' first | exact Touch.refl _ _ | refine State.portEvt_touch (sub_trans (by decide) hw) _ _ _ ?_ | refine State.raise_touch (sub_trans (by decide) hw) _ _ ?_ | refine State.ruleRefused_touch (sub_trans (by decide) hw) _ ?_ | apply touch_foldl))
    | apply touch_ite

theorem State.writeRefused_keeps : ∀ s blk row inst, Keeps s₀ s → Keeps s₀ (State.writeRefused s blk row inst) :=
  fun s blk row inst h => Touch.after h (State.writeRefused_touch (w := 537133569) rfl s blk row inst (Touch.refl _ _)) (by decide)

theorem State.clearStat_touch (hw : 102760448 ||| w = w) : ∀ s base off inst i v, Touch w s₀ s → Touch w s₀ (State.clearStat s base off inst i v) := by
  intro s base off inst i v h; unfold State.clearStat; try dsimp only
  repeat' with_reducible first
    | exact h
    | exact Touch.refl _ _
    | refine State.updEng_touch (sub_trans (by decide) hw) _ _ _ ?_
    | refine State.updTimCh_touch (sub_trans (by decide) hw) _ _ _ ?_
    | refine State.updLane_touch (sub_trans (by decide) hw) _ _ _ ?_
    | (apply touch_ite_then; on_goal 1 => solve | (repeat' first | exact Touch.refl _ _ | refine State.updEng_touch (sub_trans (by decide) hw) _ _ _ ?_ | refine State.updTimCh_touch (sub_trans (by decide) hw) _ _ _ ?_ | refine State.updLane_touch (sub_trans (by decide) hw) _ _ _ ?_ | apply touch_foldl))
    | (apply touch_ite_else; on_goal 1 => solve | (repeat' first | exact Touch.refl _ _ | refine State.updEng_touch (sub_trans (by decide) hw) _ _ _ ?_ | refine State.updTimCh_touch (sub_trans (by decide) hw) _ _ _ ?_ | refine State.updLane_touch (sub_trans (by decide) hw) _ _ _ ?_ | apply touch_foldl))
    | apply touch_ite

theorem State.clearStat_keeps : ∀ s base off inst i v, Keeps s₀ s → Keeps s₀ (State.clearStat s base off inst i v) :=
  fun s base off inst i v h => Touch.after h (State.clearStat_touch (w := 102760448) rfl s base off inst i v (Touch.refl _ _)) (by decide)

theorem State.putReg_touch (hw : 639894019 ||| w = w) : ∀ s m blk row inst idx a v, Touch w s₀ s → Touch w s₀ (State.putReg s m blk row inst idx a v) := by
  intro s m blk row inst idx a v h; unfold State.putReg; try dsimp only
  repeat' with_reducible first
    | exact h
    | exact Touch.refl _ _
    | refine State.lockRefused_touch (sub_trans (by decide) hw) _ ?_
    | refine State.writeRefused_touch (sub_trans (by decide) hw) _ _ _ _ ?_
    | refine State.wrSh_touch (sub_trans (by decide) hw) _ _ _ ?_
    | refine State.wr_touch (sub_trans (by decide) hw) _ _ _ ?_
    | refine State.clearStat_touch (sub_trans (by decide) hw) _ _ _ _ _ _ ?_
    | refine State.clrBits_touch (sub_trans (by decide) hw) _ _ _ ?_
    | (apply touch_ite_then; on_goal 1 => solve | (repeat' first | exact Touch.refl _ _ | refine State.lockRefused_touch (sub_trans (by decide) hw) _ ?_ | refine State.writeRefused_touch (sub_trans (by decide) hw) _ _ _ _ ?_ | refine State.wrSh_touch (sub_trans (by decide) hw) _ _ _ ?_ | refine State.wr_touch (sub_trans (by decide) hw) _ _ _ ?_ | refine State.clearStat_touch (sub_trans (by decide) hw) _ _ _ _ _ _ ?_ | refine State.clrBits_touch (sub_trans (by decide) hw) _ _ _ ?_ | apply touch_foldl))
    | (apply touch_ite_else; on_goal 1 => solve | (repeat' first | exact Touch.refl _ _ | refine State.lockRefused_touch (sub_trans (by decide) hw) _ ?_ | refine State.writeRefused_touch (sub_trans (by decide) hw) _ _ _ _ ?_ | refine State.wrSh_touch (sub_trans (by decide) hw) _ _ _ ?_ | refine State.wr_touch (sub_trans (by decide) hw) _ _ _ ?_ | refine State.clearStat_touch (sub_trans (by decide) hw) _ _ _ _ _ _ ?_ | refine State.clrBits_touch (sub_trans (by decide) hw) _ _ _ ?_ | apply touch_foldl))
    | apply touch_ite

theorem State.putReg_keeps : ∀ s m blk row inst idx a v, Keeps s₀ s → Keeps s₀ (State.putReg s m blk row inst idx a v) := by
  intro s m blk row inst idx a v h; unfold State.putReg; try dsimp only
  repeat' with_reducible first
    | exact h
    | exact Keeps.refl _
    | apply State.lockRefused_keeps
    | apply State.writeRefused_keeps
    | apply State.wrSh_keeps
    | apply State.wr_keeps
    | apply State.clearStat_keeps
    | apply State.clrBits_keeps
    | fail_if_no_progress apply Keeps.fields
    | (apply keeps_ite_then; on_goal 1 => solve | (repeat' first | exact Keeps.refl _ | apply State.lockRefused_keeps | apply State.writeRefused_keeps | apply State.wrSh_keeps | apply State.wr_keeps | apply State.clearStat_keeps | apply State.clrBits_keeps | fail_if_no_progress apply Keeps.fields | apply keeps_foldl))
    | (apply keeps_ite_else; on_goal 1 => solve | (repeat' first | exact Keeps.refl _ | apply State.lockRefused_keeps | apply State.writeRefused_keeps | apply State.wrSh_keeps | apply State.wr_keeps | apply State.clearStat_keeps | apply State.clrBits_keeps | fail_if_no_progress apply Keeps.fields | apply keeps_foldl))
    | apply keeps_ite

end Sys2Proof.Machine
end

