-- ==== Sys2Proof/Laws/Keeps/BootOps.lean ====
section
/-!
SUPPORT. What each operation of BootOps keeps.
-/

namespace Sys2Proof.Machine

variable {w : Nat} {s₀ : State}

theorem State.refoutSync_keeps : ∀ s, Keeps s₀ s → Keeps s₀ (State.refoutSync s) :=
  fun s h => Touch.after h (State.refoutSync_touch (w := 16777216) rfl s (Touch.refl _ _)) (by decide)

theorem State.coreDomainReset_keeps : ∀ s, Keeps s₀ s → Keeps s₀ (State.coreDomainReset s) :=
  fun _ h => h.trans ⟨rfl, ⟨rfl, rfl, fun _ x => x, Nat.le_refl _, Nat.le_refl _⟩, fun _ => rfl⟩

theorem State.bootBegin_touch (hw : 64 ||| w = w) : ∀ s fsel, Touch w s₀ s → Touch w s₀ (State.bootBegin s fsel) := by
  intro s fsel h; unfold State.bootBegin; try dsimp only
  repeat' with_reducible first
    | exact h
    | exact Touch.refl _ _
    | fail_if_no_progress refine touch_boot (sub_trans (by decide) hw) ?_
    | (apply touch_ite_then; on_goal 1 => solve | (repeat' first | exact Touch.refl _ _ | fail_if_no_progress refine touch_boot (sub_trans (by decide) hw) ?_))

theorem State.bootBegin_keeps : ∀ s fsel, Keeps s₀ s → Keeps s₀ (State.bootBegin s fsel) :=
  fun s fsel h => Touch.after h (State.bootBegin_touch (w := 64) rfl s fsel (Touch.refl _ _)) (by decide)

theorem State.reload_keeps : ∀ s, Keeps s₀ s → Keeps s₀ (State.reload s) := by
  intro s h; unfold State.reload; try dsimp only
  repeat' with_reducible first
    | exact h
    | exact Keeps.refl _
    | apply State.bootBegin_keeps
    | apply State.coreDomainReset_keeps
    | fail_if_no_progress apply Keeps.fields
    | (apply keeps_ite_then; on_goal 1 => solve | (repeat' first | exact Keeps.refl _ | apply State.bootBegin_keeps | apply State.coreDomainReset_keeps))

theorem State.noRecipe_touch (hw : 536871489 ||| w = w) : ∀ s, Touch w s₀ s → Touch w s₀ (State.noRecipe s) := by
  intro s h; unfold State.noRecipe; try dsimp only
  repeat' with_reducible first
    | exact h
    | exact Touch.refl _ _
    | refine State.alarmSync_touch (sub_trans (by decide) hw) _ ?_
    | fail_if_no_progress refine touch_boot (sub_trans (by decide) hw) ?_

theorem State.noRecipe_keeps : ∀ s, Keeps s₀ s → Keeps s₀ (State.noRecipe s) :=
  fun s h => Touch.after h (State.noRecipe_touch (w := 536871489) rfl s (Touch.refl _ _)) (by decide)

theorem State.wipeSlot_keeps : ∀ s, Keeps s₀ s → Keeps s₀ (State.wipeSlot s) := by
  intro s h
  have h : Keeps s₀ ((List.range 8).foldl State.pkeOffline s) :=
    Touch.after h (touch_foldl _ _ _ (fun s i => State.pkeOffline_touch (w := 538968577) rfl s i (Touch.refl _ _)) (Touch.refl _ _))
  unfold State.wipeSlot
  generalize (List.range 8).foldl State.pkeOffline s = u at *
  refine h.trans ⟨rfl, .refl _, fun k => ?_⟩
  simp only [State.canon, Bool.and_eq_true] at *
  exact ⟨⟨twf_filter _ _ _ k.1.1, twf_nil _⟩, twf_nil _⟩

theorem State.verifyBegin_touch (hw : 64 ||| w = w) : ∀ s, Touch w s₀ s → Touch w s₀ (State.verifyBegin s) := by
  intro s h; unfold State.verifyBegin; try dsimp only
  repeat' with_reducible first
    | exact h
    | exact Touch.refl _ _
    | fail_if_no_progress refine touch_boot (sub_trans (by decide) hw) ?_
    | (apply touch_ite_then; on_goal 1 => solve | (repeat' first | exact Touch.refl _ _ | fail_if_no_progress refine touch_boot (sub_trans (by decide) hw) ?_))

theorem State.verifyBegin_keeps : ∀ s, Keeps s₀ s → Keeps s₀ (State.verifyBegin s) :=
  fun s h => Touch.after h (State.verifyBegin_touch (w := 64) rfl s (Touch.refl _ _)) (by decide)

theorem State.bootFail_keeps : ∀ s c rec, Keeps s₀ s → Keeps s₀ (State.bootFail s c rec) := by
  intro s c rec h; unfold State.bootFail; try dsimp only
  repeat' with_reducible first
    | exact h
    | exact Keeps.refl _
    | apply State.wr_keeps
    | apply State.noRecipe_keeps
    | apply State.wipeSlot_keeps
    | apply State.verifyBegin_keeps
    | apply State.raise_keeps
    | apply State.refoutSync_keeps
    | fail_if_no_progress apply Keeps.fields
    | (apply keeps_ite_then; on_goal 1 => solve | (repeat' first | exact Keeps.refl _ | apply State.wr_keeps | apply State.noRecipe_keeps | apply State.wipeSlot_keeps | apply State.verifyBegin_keeps | apply State.raise_keeps | apply State.refoutSync_keeps | fail_if_no_progress apply Keeps.fields | apply keeps_foldl))
    | (apply keeps_ite_else; on_goal 1 => solve | (repeat' first | exact Keeps.refl _ | apply State.wr_keeps | apply State.noRecipe_keeps | apply State.wipeSlot_keeps | apply State.verifyBegin_keeps | apply State.raise_keeps | apply State.refoutSync_keeps | fail_if_no_progress apply Keeps.fields | apply keeps_foldl))
    | apply keeps_ite

theorem State.fuseBegin_touch (hw : 32 ||| w = w) : ∀ s op, Touch w s₀ s → Touch w s₀ (State.fuseBegin s op) := by
  intro s op h; unfold State.fuseBegin; try dsimp only
  repeat' with_reducible first
    | exact h
    | exact Touch.refl _ _
    | fail_if_no_progress refine touch_otp (sub_trans (by decide) hw) ?_
    | (apply touch_ite_then; on_goal 1 => solve | (repeat' first | exact Touch.refl _ _ | fail_if_no_progress refine touch_otp (sub_trans (by decide) hw) ?_ | apply touch_foldl))
    | (apply touch_ite_else; on_goal 1 => solve | (repeat' first | exact Touch.refl _ _ | fail_if_no_progress refine touch_otp (sub_trans (by decide) hw) ?_))

theorem State.fuseBegin_keeps : ∀ s op, Keeps s₀ s → Keeps s₀ (State.fuseBegin s op) :=
  fun _ _ h => keeps_ite h (h.trans ⟨rfl, ⟨rfl, rfl, fun _ x => x, Nat.le_refl _, Nat.le_refl _⟩, id⟩)

theorem State.fuseRevoke_touch (hw : 32 ||| w = w) : ∀ s key, Touch w s₀ s → Touch w s₀ (State.fuseRevoke s key) := by
  intro s key h; unfold State.fuseRevoke; try dsimp only
  repeat' with_reducible first
    | exact h
    | exact Touch.refl _ _
    | refine State.fuseBegin_touch (sub_trans (by decide) hw) _ _ ?_
    | (apply touch_ite_then; on_goal 1 => solve | (repeat' first | exact Touch.refl _ _ | refine State.fuseBegin_touch (sub_trans (by decide) hw) _ _ ?_ | apply touch_foldl))
    | (apply touch_ite_else; on_goal 1 => solve | (repeat' first | exact Touch.refl _ _ | refine State.fuseBegin_touch (sub_trans (by decide) hw) _ _ ?_))
    | apply touch_ite
    | apply touch_foldl
    | refine touch_snd (by assumption) ?_
    | (intro _; try dsimp only)
    | assumption
    | split

theorem State.fuseRevoke_keeps : ∀ s key, Keeps s₀ s → Keeps s₀ (State.fuseRevoke s key) := by
  intro s key h; unfold State.fuseRevoke; try dsimp only
  repeat' with_reducible first
    | exact h
    | exact Keeps.refl _
    | apply State.fuseBegin_keeps
    | fail_if_no_progress apply Keeps.fields
    | (apply keeps_ite_then; on_goal 1 => solve | (repeat' first | exact Keeps.refl _ | apply State.fuseBegin_keeps | fail_if_no_progress apply Keeps.fields | apply keeps_foldl))
    | (apply keeps_ite_else; on_goal 1 => solve | (repeat' first | exact Keeps.refl _ | apply State.fuseBegin_keeps))
    | apply keeps_ite
    | apply keeps_foldl
    | refine keeps_snd (by assumption) ?_
    | (intro _; try dsimp only)
    | assumption
    | split

theorem State.fuseBlow_touch (hw : 32 ||| w = w) : ∀ s op, Touch w s₀ s → Touch w s₀ (State.fuseBlow s op) := by
  intro s op h; unfold State.fuseBlow; try dsimp only
  repeat' with_reducible first
    | exact h
    | exact Touch.refl _ _
    | fail_if_no_progress refine touch_otp (sub_trans (by decide) hw) ?_
    | apply touch_foldl
    | refine touch_snd (by assumption) ?_
    | (intro _; try dsimp only)
    | assumption
    | split

theorem State.fuseBlow_keeps : ∀ s op, Keeps s₀ s → Keeps s₀ (State.fuseBlow s op) := by
  intro s op h
  refine h.trans ?_
  cases op with
  | raiseSecVer => exact ⟨rfl, ⟨rfl, rfl, fun _ x => x, Nat.le_max_left _ _, Nat.le_refl _⟩, id⟩
  | revoke k => exact ⟨rfl, ⟨rfl, rfl, fun _ x => by simp [State.fuseBlow, Nat.testBit_or, x], Nat.le_refl _, Nat.le_refl _⟩, id⟩

theorem execOtpRaiseSecVer_touch (hw : 536871457 ||| w = w) : ∀ m s, Touch w s₀ s → TouchR w s₀ (execOtpRaiseSecVer m s) := by
  intro m s h; unfold execOtpRaiseSecVer; try dsimp only
  repeat' with_reducible first
    | exact h
    | exact Touch.refl _ _
    | apply touchR_next
    | apply touchR_ite
    | refine State.fuseBegin_touch (sub_trans (by decide) hw) _ _ ?_
    | refine State.raise_touch (sub_trans (by decide) hw) _ _ ?_
    | (apply touch_ite_then; on_goal 1 => solve | (repeat' first | exact Touch.refl _ _ | refine State.fuseBegin_touch (sub_trans (by decide) hw) _ _ ?_ | refine State.raise_touch (sub_trans (by decide) hw) _ _ ?_ | apply touch_foldl))
    | (apply touch_ite_else; on_goal 1 => solve | (repeat' first | exact Touch.refl _ _ | refine State.fuseBegin_touch (sub_trans (by decide) hw) _ _ ?_ | refine State.raise_touch (sub_trans (by decide) hw) _ _ ?_ | apply touch_foldl))
    | apply touch_ite

theorem execOtpRaiseSecVer_keeps : ∀ m s, Keeps s₀ s → KeepsR s₀ (execOtpRaiseSecVer m s) := by
  intro m s h; unfold execOtpRaiseSecVer; try dsimp only
  repeat' with_reducible first
    | exact h
    | exact Keeps.refl _
    | apply keepsR_next
    | apply keepsR_ite
    | apply State.fuseBegin_keeps
    | apply State.raise_keeps
    | fail_if_no_progress apply Keeps.fields
    | (apply keeps_ite_then; on_goal 1 => solve | (repeat' first | exact Keeps.refl _ | apply State.fuseBegin_keeps | apply State.raise_keeps | fail_if_no_progress apply Keeps.fields | apply keeps_foldl))
    | (apply keeps_ite_else; on_goal 1 => solve | (repeat' first | exact Keeps.refl _ | apply State.fuseBegin_keeps | apply State.raise_keeps | fail_if_no_progress apply Keeps.fields | apply keeps_foldl))
    | apply keeps_ite

theorem execOtpRevoke_touch (hw : 536871457 ||| w = w) : ∀ m key s, Touch w s₀ s → TouchR w s₀ (execOtpRevoke m key s) := by
  intro m key s h; unfold execOtpRevoke; try dsimp only
  repeat' with_reducible first
    | exact h
    | exact Touch.refl _ _
    | apply touchR_next
    | apply touchR_ite
    | refine State.fuseRevoke_touch (sub_trans (by decide) hw) _ _ ?_
    | refine State.raise_touch (sub_trans (by decide) hw) _ _ ?_
    | (apply touch_ite_then; on_goal 1 => solve | (repeat' first | exact Touch.refl _ _ | refine State.fuseRevoke_touch (sub_trans (by decide) hw) _ _ ?_ | refine State.raise_touch (sub_trans (by decide) hw) _ _ ?_ | apply touch_foldl))
    | (apply touch_ite_else; on_goal 1 => solve | (repeat' first | exact Touch.refl _ _ | refine State.fuseRevoke_touch (sub_trans (by decide) hw) _ _ ?_ | refine State.raise_touch (sub_trans (by decide) hw) _ _ ?_ | apply touch_foldl))
    | apply touch_ite

theorem execOtpRevoke_keeps : ∀ m key s, Keeps s₀ s → KeepsR s₀ (execOtpRevoke m key s) := by
  intro m key s h; unfold execOtpRevoke; try dsimp only
  repeat' with_reducible first
    | exact h
    | exact Keeps.refl _
    | apply keepsR_next
    | apply keepsR_ite
    | apply State.fuseRevoke_keeps
    | apply State.raise_keeps
    | fail_if_no_progress apply Keeps.fields
    | (apply keeps_ite_then; on_goal 1 => solve | (repeat' first | exact Keeps.refl _ | apply State.fuseRevoke_keeps | apply State.raise_keeps | fail_if_no_progress apply Keeps.fields | apply keeps_foldl))
    | (apply keeps_ite_else; on_goal 1 => solve | (repeat' first | exact Keeps.refl _ | apply State.fuseRevoke_keeps | apply State.raise_keeps | fail_if_no_progress apply Keeps.fields | apply keeps_foldl))
    | apply keeps_ite

theorem execOtpFuseDone_touch (hw : 552 ||| w = w) : ∀ s, Touch w s₀ s → TouchR w s₀ (execOtpFuseDone s) := by
  intro s h; unfold execOtpFuseDone; try dsimp only
  repeat' with_reducible first
    | exact h
    | exact Touch.refl _ _
    | apply touchR_next
    | apply touchR_ite
    | refine State.fuseBlow_touch (sub_trans (by decide) hw) _ _ ?_
    | refine State.advTo_touch (sub_trans (by decide) hw) _ _ ?_
    | apply touch_foldl
    | refine touch_snd (by assumption) ?_
    | (intro _; try dsimp only)
    | assumption
    | split

theorem execOtpFuseDone_keeps : ∀ s, Keeps s₀ s → KeepsR s₀ (execOtpFuseDone s) := by
  intro s h; unfold execOtpFuseDone; try dsimp only
  repeat' with_reducible first
    | exact h
    | exact Keeps.refl _
    | apply keepsR_next
    | apply keepsR_ite
    | apply State.fuseBlow_keeps
    | apply State.advTo_keeps
    | fail_if_no_progress apply Keeps.fields
    | apply keeps_foldl
    | refine keeps_snd (by assumption) ?_
    | (intro _; try dsimp only)
    | assumption
    | split

theorem execReload_keeps : ∀ m s, Keeps s₀ s → KeepsR s₀ (execReload m s) := by
  intro m s h; unfold execReload; try dsimp only
  repeat' with_reducible first
    | exact h
    | exact Keeps.refl _
    | apply keepsR_next
    | apply keepsR_ite
    | apply State.reload_keeps
    | apply State.raise_keeps
    | fail_if_no_progress apply Keeps.fields
    | (apply keeps_ite_then; on_goal 1 => solve | (repeat' first | exact Keeps.refl _ | apply State.reload_keeps | apply State.raise_keeps | fail_if_no_progress apply Keeps.fields | apply keeps_foldl))
    | (apply keeps_ite_else; on_goal 1 => solve | (repeat' first | exact Keeps.refl _ | apply State.reload_keeps | apply State.raise_keeps | fail_if_no_progress apply Keeps.fields | apply keeps_foldl))
    | apply keeps_ite

end Sys2Proof.Machine
end

