-- ==== Sys2Proof/Laws/Keeps/BusRows.lean ====
section
/-!
SUPPORT. What each operation of BusRows keeps.
-/

namespace Sys2Proof.Machine

variable {w : Nat} {s₀ : State}

theorem execHostTxProduce_keeps : ∀ n idx s, Keeps s₀ s → KeepsR s₀ (execHostTxProduce n idx s) :=
  fun n idx s h => TouchR.after h (execHostTxProduce_touch (w := 536871425) rfl n idx s (Touch.refl _ _)) (by decide)

theorem execCltWindowRead_keeps : ∀ s, Keeps s₀ s → KeepsR s₀ (execCltWindowRead s) :=
  fun s h => TouchR.after h (execCltWindowRead_touch (w := 131072) rfl s (Touch.refl _ _)) (by decide)

theorem execCltFlush_keeps : ∀ s, Keeps s₀ s → KeepsR s₀ (execCltFlush s) :=
  fun s h => TouchR.after h (execCltFlush_touch (w := 131072) rfl s (Touch.refl _ _)) (by decide)

theorem execReseedRequest_keeps : ∀ s, Keeps s₀ s → KeepsR s₀ (execReseedRequest s) :=
  fun s h => TouchR.after h (execReseedRequest_touch (w := 32768) rfl s (Touch.refl _ _)) (by decide)

theorem State.grantRead_keeps : ∀ s, Keeps s₀ s → Keeps s₀ (State.grantRead s) :=
  fun s h => Touch.after h (State.grantRead_touch (w := 1048576) rfl s (Touch.refl _ _)) (by decide)

theorem State.timCal_keeps : ∀ s, Keeps s₀ s → Keeps s₀ (State.timCal s) :=
  fun s h => Touch.after h (State.timCal_touch (w := 33554440) rfl s (Touch.refl _ _)) (by decide)

theorem execEvlArm_keeps : ∀ l s, Keeps s₀ s → KeepsR s₀ (execEvlArm l s) :=
  fun l s h => TouchR.after h (execEvlArm_touch (w := 637534729) rfl l s (Touch.refl _ _)) (by decide)

theorem execEvlDisarm_keeps : ∀ l s, Keeps s₀ s → KeepsR s₀ (execEvlDisarm l s) :=
  fun l s h => TouchR.after h (execEvlDisarm_touch (w := 637534729) rfl l s (Touch.refl _ _)) (by decide)

theorem execEvlArmAll_keeps : ∀ lanes s, Keeps s₀ s → KeepsR s₀ (execEvlArmAll lanes s) :=
  fun lanes s h => TouchR.after h (execEvlArmAll_touch (w := 637534729) rfl lanes s (Touch.refl _ _)) (by decide)

theorem execEvlDisarmAll_keeps : ∀ lanes s, Keeps s₀ s → KeepsR s₀ (execEvlDisarmAll lanes s) :=
  fun lanes s h => TouchR.after h (execEvlDisarmAll_touch (w := 637534729) rfl lanes s (Touch.refl _ _)) (by decide)

theorem State.clearWtr_keeps : ∀ s by_ mask, Keeps s₀ s → Keeps s₀ (State.clearWtr s by_ mask) :=
  fun s by_ mask h => Touch.after h (State.clearWtr_touch (w := 541065737) rfl s by_ mask (Touch.refl _ _)) (by decide)

theorem State.stepCmd_keeps : ∀ s by_, Keeps s₀ s → Keeps s₀ (State.stepCmd s by_) :=
  fun s by_ h => Touch.after h (State.stepCmd_touch (w := 939307929) rfl s by_ (Touch.refl _ _)) (by decide)

theorem State.histRead_keeps : ∀ s age, Keeps s₀ s → Keeps s₀ (State.histRead s age) :=
  fun s age h => Touch.after h (State.histRead_touch (w := 1) rfl s age (Touch.refl _ _)) (by decide)

theorem State.surveyStart_keeps : ∀ s, Keeps s₀ s → Keeps s₀ (State.surveyStart s) :=
  fun s h => Touch.after h (State.surveyStart_touch (w := 553648641) rfl s (Touch.refl _ _)) (by decide)

theorem State.gnssCold_keeps : ∀ s, Keeps s₀ s → Keeps s₀ (State.gnssCold s) :=
  fun s h => Touch.after h (State.gnssCold_touch (w := 553648641) rfl s (Touch.refl _ _)) (by decide)

theorem State.chRead_keeps : ∀ s, Keeps s₀ s → Keeps s₀ (State.chRead s) :=
  fun s h => Touch.after h (State.chRead_touch (w := 16777216) rfl s (Touch.refl _ _)) (by decide)

theorem execCalRetry_keeps : ∀ n s, Keeps s₀ s → KeepsR s₀ (execCalRetry n s) :=
  fun n s h => TouchR.after h (execCalRetry_touch (w := 542192129) rfl n s (Touch.refl _ _)) (by decide)

theorem execTimArm_keeps : ∀ x0 s, Keeps s₀ s → KeepsR s₀ (execTimArm x0 s) :=
  fun x0 s h => TouchR.after h (execTimArm_touch (w := 570426121) rfl x0 s (Touch.refl _ _)) (by decide)

theorem execTimDisarm_keeps : ∀ x0 s, Keeps s₀ s → KeepsR s₀ (execTimDisarm x0 s) :=
  fun x0 s h => TouchR.after h (execTimDisarm_touch (w := 570426121) rfl x0 s (Touch.refl _ _)) (by decide)

theorem execTimArmAt_keeps : ∀ x0 s, Keeps s₀ s → KeepsR s₀ (execTimArmAt x0 s) :=
  fun x0 s h => TouchR.after h (execTimArmAt_touch (w := 570426121) rfl x0 s (Touch.refl _ _)) (by decide)

theorem Res.stateOr_touch : ∀ r s, TouchR w s₀ r → Touch w s₀ s → Touch w s₀ (Res.stateOr r s) := by
  intro r s hr h
  unfold Res.stateOr
  split
  · exact hr _ rfl
  · exact h
  · exact h

theorem Res.stateOr_keeps : ∀ r s, KeepsR s₀ r → Keeps s₀ s → Keeps s₀ (Res.stateOr r s) := by
  intro r s hr h
  unfold Res.stateOr
  split
  · exact hr _ rfl
  · exact h
  · exact h

theorem State.chanWrite_touch (hw : 536871425 ||| w = w) : ∀ s c m f, (∀ s e, Touch w s₀ s → Touch w s₀ (f s e)) → Touch w s₀ s →
    Touch w s₀ (State.chanWrite s c m f) := by
  intro s c m f hf h
  unfold State.chanWrite
  split
  · exact State.chanAccess_touch (sub_trans (by decide) hw) _ _ _ _ (by assumption) h
  · exact hf _ _ h

theorem State.writeMbx_touch (hw : 536872449 ||| w = w) : ∀ s m sp i v, Touch w s₀ s → Touch w s₀ (State.writeMbx s m sp i v) := by
  intro s m sp i v h; unfold State.writeMbx; try dsimp only
  repeat' with_reducible first
    | exact h
    | exact Touch.refl _ _
    | apply Res.stateOr_touch
    | refine execMbxEpReset_touch (sub_trans (by decide) hw) _ _ ?_
    | refine execMbxOpen_touch (sub_trans (by decide) hw) _ _ ?_
    | refine State.chanWrite_touch (sub_trans (by decide) hw) _ _ _ _ ?_ ?_
    | refine State.send_touch (sub_trans (by decide) hw) _ _ _ ?_
    | refine State.ring_touch (sub_trans (by decide) hw) _ _ _ ?_
    | refine State.updChEnd_touch (sub_trans (by decide) hw) _ _ _ ?_
    | refine State.updDb_touch (sub_trans (by decide) hw) _ _ _ ?_
    | refine execSemRelease_touch (sub_trans (by decide) hw) _ _ _ ?_
    | refine execSemForce_touch (sub_trans (by decide) hw) _ _ _ ?_
    | (apply touch_ite_then; on_goal 1 => solve | (repeat' first | exact Touch.refl _ _ | apply Res.stateOr_touch | refine execMbxEpReset_touch (sub_trans (by decide) hw) _ _ ?_ | refine execMbxOpen_touch (sub_trans (by decide) hw) _ _ ?_ | refine State.chanWrite_touch (sub_trans (by decide) hw) _ _ _ _ ?_ ?_ | refine State.send_touch (sub_trans (by decide) hw) _ _ _ ?_ | refine State.ring_touch (sub_trans (by decide) hw) _ _ _ ?_ | refine State.updChEnd_touch (sub_trans (by decide) hw) _ _ _ ?_ | refine State.updDb_touch (sub_trans (by decide) hw) _ _ _ ?_ | refine execSemRelease_touch (sub_trans (by decide) hw) _ _ _ ?_ | refine execSemForce_touch (sub_trans (by decide) hw) _ _ _ ?_))
    | apply touch_ite
    | apply touch_foldl
    | (intro _ _ _ k; try dsimp only)
    | (intro _ _; try dsimp only)
    | refine touch_snd (by assumption) ?_
    | (intro _; try dsimp only)
    | assumption
    | split

theorem State.writeMbx_keeps : ∀ s m sp i v, Keeps s₀ s → Keeps s₀ (State.writeMbx s m sp i v) :=
  fun s m sp i v h => Touch.after h (State.writeMbx_touch (w := 536872449) rfl s m sp i v (Touch.refl _ _)) (by decide)

theorem State.coreView_touch (hw : 536871425 ||| w = w) : ∀ s m a f, Touch w s₀ s → Touch w s₀ (State.coreView s m a f) := by
  intro s m a f h; unfold State.coreView; try dsimp only
  repeat' with_reducible first
    | exact h
    | exact Touch.refl _ _
    | refine State.wr_touch (sub_trans (by decide) hw) _ _ _ ?_
    | refine State.raise_touch (sub_trans (by decide) hw) _ _ ?_
    | (apply touch_ite_then; on_goal 1 => solve | (repeat' first | exact Touch.refl _ _ | refine State.wr_touch (sub_trans (by decide) hw) _ _ _ ?_ | refine State.raise_touch (sub_trans (by decide) hw) _ _ ?_ | apply touch_foldl))
    | (apply touch_ite_else; on_goal 1 => solve | (repeat' first | exact Touch.refl _ _ | refine State.wr_touch (sub_trans (by decide) hw) _ _ _ ?_ | refine State.raise_touch (sub_trans (by decide) hw) _ _ ?_ | apply touch_foldl))
    | apply touch_ite

theorem State.writeEvt_touch (hw : 536871433 ||| w = w) : ∀ s m sp i a v, Touch w s₀ s → Touch w s₀ (State.writeEvt s m sp i a v) := by
  intro s m sp i a v h; unfold State.writeEvt; try dsimp only
  repeat' with_reducible first
    | exact h
    | exact Touch.refl _ _
    | apply Res.stateOr_touch
    | refine execEvtStatClear_touch (sub_trans (by decide) hw) _ _ _ _ ?_
    | refine execEvtMaskWrite_touch (sub_trans (by decide) hw) _ _ _ _ ?_
    | refine State.coreView_touch (sub_trans (by decide) hw) _ _ _ _ ?_
    | refine execEvtForce_touch (sub_trans (by decide) hw) _ _ _ ?_
    | refine State.wr_touch (sub_trans (by decide) hw) _ _ _ ?_
    | refine State.alarmSync_touch (sub_trans (by decide) hw) _ ?_
    | refine State.deliver_touch (sub_trans (by decide) hw) _ _ _ ?_
    | apply touch_foldl
    | refine touch_snd (by assumption) ?_
    | (intro _; try dsimp only)
    | assumption
    | split

theorem State.writeEvt_keeps : ∀ s m sp i a v, Keeps s₀ s → Keeps s₀ (State.writeEvt s m sp i a v) :=
  fun s m sp i a v h => Touch.after h (State.writeEvt_touch (w := 536871433) rfl s m sp i a v (Touch.refl _ _)) (by decide)

theorem State.writeCnt_touch (hw : 536871433 ||| w = w) : ∀ s m sp i v, Touch w s₀ s → Touch w s₀ (State.writeCnt s m sp i v) := by
  intro s m sp i v h; unfold State.writeCnt; try dsimp only
  repeat' with_reducible first
    | exact h
    | exact Touch.refl _ _
    | apply Res.stateOr_touch
    | refine execCntSnap_touch (sub_trans (by decide) hw) _ ?_
    | refine execCntClearAll_touch (sub_trans (by decide) hw) _ ?_
    | refine State.raise_touch (sub_trans (by decide) hw) _ _ ?_
    | refine State.setCnt_touch (sub_trans (by decide) hw) _ _ _ ?_
    | refine execCntLoWrite_touch (sub_trans (by decide) hw) _ _ _ _ ?_
    | refine execCntHiWrite_touch (sub_trans (by decide) hw) _ _ _ _ ?_
    | (apply touch_ite_then; on_goal 1 => solve | (repeat' first | exact Touch.refl _ _ | apply Res.stateOr_touch | refine execCntSnap_touch (sub_trans (by decide) hw) _ ?_ | refine execCntClearAll_touch (sub_trans (by decide) hw) _ ?_ | refine State.raise_touch (sub_trans (by decide) hw) _ _ ?_ | refine State.setCnt_touch (sub_trans (by decide) hw) _ _ _ ?_ | refine execCntLoWrite_touch (sub_trans (by decide) hw) _ _ _ _ ?_ | refine execCntHiWrite_touch (sub_trans (by decide) hw) _ _ _ _ ?_ | apply touch_foldl))
    | (apply touch_ite_else; on_goal 1 => solve | (repeat' first | exact Touch.refl _ _ | apply Res.stateOr_touch | refine execCntSnap_touch (sub_trans (by decide) hw) _ ?_ | refine execCntClearAll_touch (sub_trans (by decide) hw) _ ?_ | refine State.raise_touch (sub_trans (by decide) hw) _ _ ?_ | refine State.setCnt_touch (sub_trans (by decide) hw) _ _ _ ?_ | refine execCntLoWrite_touch (sub_trans (by decide) hw) _ _ _ _ ?_ | refine execCntHiWrite_touch (sub_trans (by decide) hw) _ _ _ _ ?_ | apply touch_foldl))
    | apply touch_ite
    | apply touch_foldl
    | refine touch_snd (by assumption) ?_
    | (intro _; try dsimp only)
    | assumption
    | split

theorem State.writeCnt_keeps : ∀ s m sp i v, Keeps s₀ s → Keeps s₀ (State.writeCnt s m sp i v) :=
  fun s m sp i v h => Touch.after h (State.writeCnt_touch (w := 536871433) rfl s m sp i v (Touch.refl _ _)) (by decide)

theorem State.writeTsc_touch (hw : 570688281 ||| w = w) : ∀ s m sp i a v, Touch w s₀ s → Touch w s₀ (State.writeTsc s m sp i a v) := by
  intro s m sp i a v h; unfold State.writeTsc; try dsimp only
  repeat' with_reducible first
    | exact h
    | exact Touch.refl _ _
    | refine State.leapHost_touch (sub_trans (by decide) hw) _ _ ?_
    | refine State.leapCancel_touch (sub_trans (by decide) hw) _ ?_
    | refine State.clrBits_touch (sub_trans (by decide) hw) _ _ _ ?_
    | refine State.wr_touch (sub_trans (by decide) hw) _ _ _ ?_
    | refine State.slotCtrl_touch (sub_trans (by decide) hw) _ _ _ _ ?_
    | refine State.advTo_touch (sub_trans (by decide) hw) _ _ ?_
    | apply touch_ite
    | apply touch_foldl
    | refine State.slotAccess_touch (sub_trans (by decide) hw) _ _ _ _ (by assumption) ?_
    | refine touch_snd (by assumption) ?_
    | (intro _; try dsimp only)
    | assumption
    | split

theorem State.writeTsc_keeps : ∀ s m sp i a v, Keeps s₀ s → Keeps s₀ (State.writeTsc s m sp i a v) :=
  fun s m sp i a v h => Touch.after h (State.writeTsc_touch (w := 570688281) rfl s m sp i a v (Touch.refl _ _)) (by decide)

theorem State.keyStage_touch (hw : 537133569 ||| w = w) : ∀ s ptp m i v, Touch w s₀ s → Touch w s₀ (State.keyStage s ptp m i v) := by
  intro s ptp m i v h; unfold State.keyStage; try dsimp only
  repeat' with_reducible first
    | exact h
    | exact Touch.refl _ _
    | refine State.updKeyBank_touch (sub_trans (by decide) hw) _ _ _ _ ?_
    | refine State.raise_touch (sub_trans (by decide) hw) _ _ ?_
    | (apply touch_ite_then; on_goal 1 => solve | (repeat' first | exact Touch.refl _ _ | refine State.updKeyBank_touch (sub_trans (by decide) hw) _ _ _ _ ?_ | refine State.raise_touch (sub_trans (by decide) hw) _ _ ?_ | apply touch_foldl))
    | (apply touch_ite_else; on_goal 1 => solve | (repeat' first | exact Touch.refl _ _ | refine State.updKeyBank_touch (sub_trans (by decide) hw) _ _ _ _ ?_ | refine State.raise_touch (sub_trans (by decide) hw) _ _ ?_ | apply touch_foldl))
    | apply touch_ite

theorem State.writeKey_touch (hw : 808191497 ||| w = w) : ∀ s m sp inst i v, Touch w s₀ s → Touch w s₀ (State.writeKey s m sp inst i v) := by
  intro s m sp inst i v h; unfold State.writeKey; try dsimp only
  repeat' with_reducible first
    | exact h
    | exact Touch.refl _ _
    | refine State.keyCmd_touch (sub_trans (by decide) hw) _ _ _ _ _ _ ?_
    | refine State.keyStage_touch (sub_trans (by decide) hw) _ _ _ _ _ ?_
    | apply Res.stateOr_touch
    | refine execKeySlotReadAttr_touch (sub_trans (by decide) hw) _ _ ?_
    | refine execKeySlotDelete_touch (sub_trans (by decide) hw) _ _ ?_
    | refine execKeySlotReadPub_touch (sub_trans (by decide) hw) _ _ ?_
    | refine State.wr_touch (sub_trans (by decide) hw) _ _ _ ?_
    | refine State.raise_touch (sub_trans (by decide) hw) _ _ ?_
    | refine execPkeJobGo_touch (sub_trans (by decide) hw) _ _ _ ?_
    | refine State.outBegun_touch (sub_trans (by decide) hw) _ _ ?_
    | refine execPkeAbort_touch (sub_trans (by decide) hw) _ _ _ _ _ _ ?_
    | (apply touch_ite_then; on_goal 1 => solve | (repeat' first | exact Touch.refl _ _ | refine State.keyCmd_touch (sub_trans (by decide) hw) _ _ _ _ _ _ ?_ | refine State.keyStage_touch (sub_trans (by decide) hw) _ _ _ _ _ ?_ | apply Res.stateOr_touch | refine execKeySlotReadAttr_touch (sub_trans (by decide) hw) _ _ ?_ | refine execKeySlotDelete_touch (sub_trans (by decide) hw) _ _ ?_ | refine execKeySlotReadPub_touch (sub_trans (by decide) hw) _ _ ?_ | refine State.wr_touch (sub_trans (by decide) hw) _ _ _ ?_ | refine State.raise_touch (sub_trans (by decide) hw) _ _ ?_ | refine execPkeJobGo_touch (sub_trans (by decide) hw) _ _ _ ?_ | refine State.outBegun_touch (sub_trans (by decide) hw) _ _ ?_ | refine execPkeAbort_touch (sub_trans (by decide) hw) _ _ _ _ _ _ ?_ | apply touch_foldl))
    | (apply touch_ite_else; on_goal 1 => solve | (repeat' first | exact Touch.refl _ _ | refine State.keyCmd_touch (sub_trans (by decide) hw) _ _ _ _ _ _ ?_ | refine State.keyStage_touch (sub_trans (by decide) hw) _ _ _ _ _ ?_ | apply Res.stateOr_touch | refine execKeySlotReadAttr_touch (sub_trans (by decide) hw) _ _ ?_ | refine execKeySlotDelete_touch (sub_trans (by decide) hw) _ _ ?_ | refine execKeySlotReadPub_touch (sub_trans (by decide) hw) _ _ ?_ | refine State.wr_touch (sub_trans (by decide) hw) _ _ _ ?_ | refine State.raise_touch (sub_trans (by decide) hw) _ _ ?_ | refine execPkeJobGo_touch (sub_trans (by decide) hw) _ _ _ ?_ | refine State.outBegun_touch (sub_trans (by decide) hw) _ _ ?_ | refine execPkeAbort_touch (sub_trans (by decide) hw) _ _ _ _ _ _ ?_ | apply touch_foldl))
    | apply touch_ite
    | apply touch_foldl
    | refine touch_snd (by assumption) ?_
    | (intro _; try dsimp only)
    | assumption
    | split

theorem State.writeKey_keeps : ∀ s m sp inst i v, Keeps s₀ s → Keeps s₀ (State.writeKey s m sp inst i v) :=
  fun s m sp inst i v h => Touch.after h (State.writeKey_touch (w := 808191497) rfl s m sp inst i v (Touch.refl _ _)) (by decide)

theorem State.openBufs_touch (hw : 268435456 ||| w = w) : ∀ s n, Touch w s₀ s → Touch w s₀ (State.openBufs s n).2 := by
  intro s n
  induction n generalizing s with
  | zero => intro h; exact h
  | succ n ih => intro h; exact ih _ (State.free_touch (sub_trans (by decide) hw) _ (State.free_touch (sub_trans (by decide) hw) _ h))

theorem State.hrxWrite_touch (hw : 805310977 ||| w = w) : ∀ s n idx, Touch w s₀ s → Touch w s₀ (State.hrxWrite s n idx) := by
  intro s n idx h; unfold State.hrxWrite; try dsimp only
  repeat' with_reducible first
    | exact h
    | exact Touch.refl _ _
    | refine State.openBufs_touch (sub_trans (by decide) hw) _ _ ?_
    | refine State.hrxPost_touch (sub_trans (by decide) hw) _ _ _ _ ?_
    | refine State.portEvt_touch (sub_trans (by decide) hw) _ _ _ ?_
    | (apply touch_ite_then; on_goal 1 => solve | (repeat' first | exact Touch.refl _ _ | refine State.openBufs_touch (sub_trans (by decide) hw) _ _ ?_ | refine State.hrxPost_touch (sub_trans (by decide) hw) _ _ _ _ ?_ | refine State.portEvt_touch (sub_trans (by decide) hw) _ _ _ ?_ | apply touch_foldl))
    | (apply touch_ite_else; on_goal 1 => solve | (repeat' first | exact Touch.refl _ _ | refine State.openBufs_touch (sub_trans (by decide) hw) _ _ ?_ | refine State.hrxPost_touch (sub_trans (by decide) hw) _ _ _ _ ?_ | refine State.portEvt_touch (sub_trans (by decide) hw) _ _ _ ?_ | apply touch_foldl))
    | apply touch_ite

theorem State.hrxWrite_keeps : ∀ s n idx, Keeps s₀ s → Keeps s₀ (State.hrxWrite s n idx) :=
  fun s n idx h => Touch.after h (State.hrxWrite_touch (w := 805310977) rfl s n idx (Touch.refl _ _)) (by decide)

theorem State.writePrt_touch (hw : 913666563 ||| w = w) : ∀ s m blk row n a v, Touch w s₀ s → Touch w s₀ (State.writePrt s m blk row n a v) := by
  intro s m blk row n a v h; unfold State.writePrt; try dsimp only
  repeat' with_reducible first
    | exact h
    | exact Touch.refl _ _
    | refine State.putReg_touch (sub_trans (by decide) hw) _ _ _ _ _ _ _ _ ?_
    | apply Res.stateOr_touch
    | refine execCalRetry_touch (sub_trans (by decide) hw) _ _ ?_
    | refine execHostTxProduce_touch (sub_trans (by decide) hw) _ _ _ ?_
    | refine State.hrxWrite_touch (sub_trans (by decide) hw) _ _ _ ?_
    | refine State.writeRefused_touch (sub_trans (by decide) hw) _ _ _ _ ?_
    | refine State.wr_touch (sub_trans (by decide) hw) _ _ _ ?_
    | fail_if_no_progress refine touch_rwl (sub_trans (by decide) hw) ?_
    | (apply touch_ite_then; on_goal 1 => solve | (repeat' first | exact Touch.refl _ _ | refine State.putReg_touch (sub_trans (by decide) hw) _ _ _ _ _ _ _ _ ?_ | apply Res.stateOr_touch | refine execCalRetry_touch (sub_trans (by decide) hw) _ _ ?_ | refine execHostTxProduce_touch (sub_trans (by decide) hw) _ _ _ ?_ | refine State.hrxWrite_touch (sub_trans (by decide) hw) _ _ _ ?_ | refine State.writeRefused_touch (sub_trans (by decide) hw) _ _ _ _ ?_ | refine State.wr_touch (sub_trans (by decide) hw) _ _ _ ?_ | fail_if_no_progress refine touch_rwl (sub_trans (by decide) hw) ?_ | apply touch_foldl))
    | (apply touch_ite_else; on_goal 1 => solve | (repeat' first | exact Touch.refl _ _ | refine State.putReg_touch (sub_trans (by decide) hw) _ _ _ _ _ _ _ _ ?_ | apply Res.stateOr_touch | refine execCalRetry_touch (sub_trans (by decide) hw) _ _ ?_ | refine execHostTxProduce_touch (sub_trans (by decide) hw) _ _ _ ?_ | refine State.hrxWrite_touch (sub_trans (by decide) hw) _ _ _ ?_ | refine State.writeRefused_touch (sub_trans (by decide) hw) _ _ _ _ ?_ | refine State.wr_touch (sub_trans (by decide) hw) _ _ _ ?_ | fail_if_no_progress refine touch_rwl (sub_trans (by decide) hw) ?_ | apply touch_foldl))
    | apply touch_ite
    | apply touch_foldl
    | refine touch_snd (by assumption) ?_
    | (intro _; try dsimp only)
    | assumption
    | split

theorem State.writePrt_keeps : ∀ s m blk row n a v, Keeps s₀ s → Keeps s₀ (State.writePrt s m blk row n a v) := by
  intro s m blk row n a v h; unfold State.writePrt; try dsimp only
  repeat' with_reducible first
    | exact h
    | exact Keeps.refl _
    | apply State.putReg_keeps
    | apply Res.stateOr_keeps
    | apply execCalRetry_keeps
    | apply execHostTxProduce_keeps
    | apply State.hrxWrite_keeps
    | apply State.writeRefused_keeps
    | apply State.wr_keeps
    | fail_if_no_progress apply Keeps.fields
    | (apply keeps_ite_then; on_goal 1 => solve | (repeat' first | exact Keeps.refl _ | apply State.putReg_keeps | apply Res.stateOr_keeps | apply execCalRetry_keeps | apply execHostTxProduce_keeps | apply State.hrxWrite_keeps | apply State.writeRefused_keeps | apply State.wr_keeps | fail_if_no_progress apply Keeps.fields | apply keeps_foldl))
    | (apply keeps_ite_else; on_goal 1 => solve | (repeat' first | exact Keeps.refl _ | apply State.putReg_keeps | apply Res.stateOr_keeps | apply execCalRetry_keeps | apply execHostTxProduce_keeps | apply State.hrxWrite_keeps | apply State.writeRefused_keeps | apply State.wr_keeps | fail_if_no_progress apply Keeps.fields | apply keeps_foldl))
    | apply keeps_ite
    | apply keeps_foldl
    | refine keeps_snd (by assumption) ?_
    | (intro _; try dsimp only)
    | assumption
    | split

theorem State.writeOther_keeps : ∀ s m sp i v, Keeps s₀ s → Keeps s₀ (State.writeOther s m sp i v) := by
  intro s m sp i v h; unfold State.writeOther; try dsimp only
  repeat' with_reducible first
    | exact h
    | exact Keeps.refl _
    | exact Touch.after h (State.gnssCmd_touch (w := 1073741785) (by decide) _ _ _ (fun s k => by repeat' first | exact k | refine State.surveyStart_touch (by decide) _ ?_ | refine State.gnssCold_touch (by decide) _ ?_ | split) (Touch.refl _ _)) (by decide)
    | apply State.cfgCmd_keeps
    | apply State.reload_keeps
    | apply State.fuseBegin_keeps
    | apply State.fuseRevoke_keeps
    | apply State.clearWtr_keeps
    | apply State.stepCmd_keeps
    | apply State.histRead_keeps
    | apply State.wr_keeps
    | apply State.surveyStart_keeps
    | apply State.gnssCold_keeps
    | apply State.chRead_keeps
    | apply State.timCal_keeps
    | apply Res.stateOr_keeps
    | apply execTimArm_keeps
    | apply execTimArmAt_keeps
    | apply execTimDisarm_keeps
    | apply execEvlArmAll_keeps
    | apply execEvlDisarmAll_keeps
    | apply execEvlDisarm_keeps
    | apply execEvlArm_keeps
    | apply execReseedRequest_keeps
    | apply execCltWindowRead_keeps
    | apply execCltFlush_keeps
    | apply State.ruleCmd_keeps
    | apply State.grantRead_keeps
    | fail_if_no_progress apply Keeps.fields
    | (apply keeps_ite_then; on_goal 1 => solve | (repeat' first | exact Keeps.refl _ | apply State.cfgCmd_keeps | apply State.reload_keeps | apply State.fuseBegin_keeps | apply State.fuseRevoke_keeps | apply State.clearWtr_keeps | apply State.stepCmd_keeps | apply State.histRead_keeps | apply State.wr_keeps | apply State.surveyStart_keeps | apply State.gnssCold_keeps | apply State.chRead_keeps | apply State.timCal_keeps | apply Res.stateOr_keeps | apply execTimArm_keeps | apply execTimArmAt_keeps | apply execTimDisarm_keeps | apply execEvlArmAll_keeps | apply execEvlDisarmAll_keeps | apply execEvlDisarm_keeps | apply execEvlArm_keeps | apply execReseedRequest_keeps | apply execCltWindowRead_keeps | apply execCltFlush_keeps | apply State.ruleCmd_keeps | apply State.grantRead_keeps | fail_if_no_progress apply Keeps.fields | apply keeps_foldl))
    | (apply keeps_ite_else; on_goal 1 => solve | (repeat' first | exact Keeps.refl _ | apply State.cfgCmd_keeps | apply State.reload_keeps | apply State.fuseBegin_keeps | apply State.fuseRevoke_keeps | apply State.clearWtr_keeps | apply State.stepCmd_keeps | apply State.histRead_keeps | apply State.wr_keeps | apply State.surveyStart_keeps | apply State.gnssCold_keeps | apply State.chRead_keeps | apply State.timCal_keeps | apply Res.stateOr_keeps | apply execTimArm_keeps | apply execTimArmAt_keeps | apply execTimDisarm_keeps | apply execEvlArmAll_keeps | apply execEvlDisarmAll_keeps | apply execEvlDisarm_keeps | apply execEvlArm_keeps | apply execReseedRequest_keeps | apply execCltWindowRead_keeps | apply execCltFlush_keeps | apply State.ruleCmd_keeps | apply State.grantRead_keeps | fail_if_no_progress apply Keeps.fields | apply keeps_foldl))
    | apply keeps_ite
    | apply keeps_foldl
    | refine keeps_snd (by assumption) ?_
    | (intro _; try dsimp only)
    | assumption
    | split

theorem State.regWrite_keeps : ∀ s m blk row inst idx a v, Keeps s₀ s → Keeps s₀ (State.regWrite s m blk row inst idx a v) := by
  intro s m blk row inst idx a v h; unfold State.regWrite; try dsimp only
  repeat' with_reducible first
    | exact h
    | exact Keeps.refl _
    | apply State.raise_keeps
    | apply State.putReg_keeps
    | apply State.writeEvt_keeps
    | apply State.writeCnt_keeps
    | apply State.writeMbx_keeps
    | apply State.writeTsc_keeps
    | apply State.writePrt_keeps
    | apply State.writeKey_keeps
    | apply State.writeOther_keeps
    | fail_if_no_progress apply Keeps.fields
    | (apply keeps_ite_then; on_goal 1 => solve | (repeat' first | exact Keeps.refl _ | apply State.raise_keeps | apply State.putReg_keeps | apply State.writeEvt_keeps | apply State.writeCnt_keeps | apply State.writeMbx_keeps | apply State.writeTsc_keeps | apply State.writePrt_keeps | apply State.writeKey_keeps | apply State.writeOther_keeps | fail_if_no_progress apply Keeps.fields | apply keeps_foldl))
    | (apply keeps_ite_else; on_goal 1 => solve | (repeat' first | exact Keeps.refl _ | apply State.raise_keeps | apply State.putReg_keeps | apply State.writeEvt_keeps | apply State.writeCnt_keeps | apply State.writeMbx_keeps | apply State.writeTsc_keeps | apply State.writePrt_keeps | apply State.writeKey_keeps | apply State.writeOther_keeps | fail_if_no_progress apply Keeps.fields | apply keeps_foldl))
    | apply keeps_ite
    | apply keeps_foldl
    | refine keeps_snd (by assumption) ?_
    | (intro _; try dsimp only)
    | assumption
    | split

theorem State.msixWrite_touch (hw : 536871424 ||| w = w) : ∀ s m a v, Touch w s₀ s → Touch w s₀ (State.msixWrite s m a v) := by
  intro s m a v h; unfold State.msixWrite; try dsimp only
  repeat' with_reducible first
    | exact h
    | exact Touch.refl _ _
    | refine State.msixUpdate_touch (sub_trans (by decide) hw) _ _ _ ?_
    | fail_if_no_progress refine touch_evt (sub_trans (by decide) hw) ?_
    | (apply touch_ite_then; on_goal 1 => solve | (repeat' first | exact Touch.refl _ _ | refine State.msixUpdate_touch (sub_trans (by decide) hw) _ _ _ ?_ | fail_if_no_progress refine touch_evt (sub_trans (by decide) hw) ?_ | apply touch_foldl))
    | (apply touch_ite_else; on_goal 1 => solve | (repeat' first | exact Touch.refl _ _ | refine State.msixUpdate_touch (sub_trans (by decide) hw) _ _ _ ?_ | fail_if_no_progress refine touch_evt (sub_trans (by decide) hw) ?_ | apply touch_foldl))
    | apply touch_ite
    | apply touch_foldl
    | refine touch_snd (by assumption) ?_
    | (intro _; try dsimp only)
    | assumption
    | split

theorem State.msixWrite_keeps : ∀ s m a v, Keeps s₀ s → Keeps s₀ (State.msixWrite s m a v) :=
  fun s m a v h => Touch.after h (State.msixWrite_touch (w := 536871424) rfl s m a v (Touch.refl _ _)) (by decide)

theorem Res.word_touch : ∀ r s, TouchR w s₀ r → Touch w s₀ s → Touch w s₀ (Res.word r s).2 :=
  fun _ _ hr h => Res.stateOr_touch _ _ hr h

theorem Res.word_keeps : ∀ r s, KeepsR s₀ r → Keeps s₀ s → Keeps s₀ (Res.word r s).2 :=
  fun _ _ hr h => Res.stateOr_keeps _ _ hr h

theorem State.getReg_touch (hw : 268435457 ||| w = w) : ∀ s m blk row inst idx a, Touch w s₀ s → Touch w s₀ (State.getReg s m blk row inst idx a).2 := by
  intro s m blk row inst idx a h; unfold State.getReg; try dsimp only
  repeat' with_reducible first
    | exact h
    | exact Touch.refl _ _
    | refine State.wr_touch (sub_trans (by decide) hw) _ _ _ ?_
    | refine State.free_touch (sub_trans (by decide) hw) _ ?_
    | (apply touch_ite_then; on_goal 1 => solve | (repeat' first | exact Touch.refl _ _ | refine State.wr_touch (sub_trans (by decide) hw) _ _ _ ?_ | refine State.free_touch (sub_trans (by decide) hw) _ ?_))

theorem State.chanRead_touch (hw : 536872449 ||| w = w) : ∀ s c m off, Touch w s₀ s → Touch w s₀ (State.chanRead s c m off).2 := by
  intro s c m off h; unfold State.chanRead; try dsimp only
  repeat' with_reducible first
    | exact h
    | exact Touch.refl _ _
    | refine State.updChEnd_touch (sub_trans (by decide) hw) _ _ _ ?_
    | apply touch_foldl
    | refine State.chanAccess_touch (sub_trans (by decide) hw) _ _ _ _ (by assumption) ?_
    | refine touch_snd (by assumption) ?_
    | (intro _; try dsimp only)
    | assumption
    | split

theorem State.regRead_touch (hw : 857742857 ||| w = w) : ∀ s m blk row inst idx a, Touch w s₀ s → Touch w s₀ (State.regRead s m blk row inst idx a).2 := by
  intro s m blk row inst idx a h; unfold State.regRead; try dsimp only
  repeat' with_reducible first
    | exact h
    | exact Touch.refl _ _
    | refine State.raise_touch (sub_trans (by decide) hw) _ _ ?_
    | apply Res.word_touch
    | refine execMbxRx_touch (sub_trans (by decide) hw) _ _ _ ?_
    | refine execSemAcquire_touch (sub_trans (by decide) hw) _ _ _ ?_
    | refine State.chanRead_touch (sub_trans (by decide) hw) _ _ _ _ ?_
    | refine execTsqPop_touch (sub_trans (by decide) hw) _ _ ?_
    | refine execTimResPop_touch (sub_trans (by decide) hw) _ _ ?_
    | refine execPkeCplPop_touch (sub_trans (by decide) hw) _ _ _ ?_
    | refine execTmsgCapture_touch (sub_trans (by decide) hw) _ _ ?_
    | refine execDtCapture_touch (sub_trans (by decide) hw) _ _ _ _ ?_
    | refine execCntLoRead_touch (sub_trans (by decide) hw) _ _ _ _ ?_
    | refine State.clrBits_touch (sub_trans (by decide) hw) _ _ _ ?_
    | refine State.getReg_touch (sub_trans (by decide) hw) _ _ _ _ _ _ _ ?_
    | apply touch_ite
    | apply touch_foldl
    | refine touch_snd (by assumption) ?_
    | (intro _; try dsimp only)
    | assumption
    | split

theorem State.writeWord_keeps : ∀ s m a v, Keeps s₀ s → Keeps s₀ (State.writeWord s m a v) := by
  intro s m a v h; unfold State.writeWord; try dsimp only
  repeat' with_reducible first
    | exact h
    | exact Keeps.refl _
    | apply State.raise_keeps
    | apply State.msixWrite_keeps
    | apply State.regWrite_keeps
    | fail_if_no_progress apply Keeps.fields
    | apply keeps_foldl
    | refine keeps_snd (by assumption) ?_
    | (intro _; try dsimp only)
    | assumption
    | split

theorem State.readWord_touch (hw : 857742857 ||| w = w) : ∀ s m a, Touch w s₀ s → Touch w s₀ (State.readWord s m a).2 := by
  intro s m a h; unfold State.readWord; try dsimp only
  repeat' with_reducible first
    | exact h
    | exact Touch.refl _ _
    | refine State.raise_touch (sub_trans (by decide) hw) _ _ ?_
    | refine State.regRead_touch (sub_trans (by decide) hw) _ _ _ _ _ _ _ ?_
    | apply touch_foldl
    | refine touch_snd (by assumption) ?_
    | (intro _; try dsimp only)
    | assumption
    | split

theorem State.gateAnswer_touch (hw : 536873473 ||| w = w) : ∀ s m words, Touch w s₀ s → Touch w s₀ (State.gateAnswer s m words) := by
  intro s m words h; unfold State.gateAnswer; try dsimp only
  repeat' with_reducible first
    | exact h
    | exact Touch.refl _ _
    | refine State.raise_touch (sub_trans (by decide) hw) _ _ ?_
    | fail_if_no_progress refine touch_bus (sub_trans (by decide) hw) ?_
    | (apply touch_ite_then; on_goal 1 => solve | (repeat' first | exact Touch.refl _ _ | refine State.raise_touch (sub_trans (by decide) hw) _ _ ?_ | fail_if_no_progress refine touch_bus (sub_trans (by decide) hw) ?_ | apply touch_foldl))
    | (apply touch_ite_else; on_goal 1 => solve | (repeat' first | exact Touch.refl _ _ | refine State.raise_touch (sub_trans (by decide) hw) _ _ ?_ | fail_if_no_progress refine touch_bus (sub_trans (by decide) hw) ?_))

theorem State.gateAnswer_keeps : ∀ s m words, Keeps s₀ s → Keeps s₀ (State.gateAnswer s m words) :=
  fun s m words h => Touch.after h (State.gateAnswer_touch (w := 536873473) rfl s m words (Touch.refl _ _)) (by decide)

theorem execRegisterWrite_keeps : ∀ m addr width be data s, Keeps s₀ s → KeepsR s₀ (execRegisterWrite m addr width be data s) := by
  intro m addr width be data s h; unfold execRegisterWrite; try dsimp only
  repeat' with_reducible first
    | exact h
    | exact Keeps.refl _
    | apply keepsR_next
    | apply keepsR_ite
    | apply State.gateAnswer_keeps
    | apply State.raise_keeps
    | apply State.writeWord_keeps
    | fail_if_no_progress apply Keeps.fields
    | (apply keeps_ite_then; on_goal 1 => solve | (repeat' first | exact Keeps.refl _ | apply State.gateAnswer_keeps | apply State.raise_keeps | apply State.writeWord_keeps | fail_if_no_progress apply Keeps.fields | apply keeps_foldl))
    | (apply keeps_ite_else; on_goal 1 => solve | (repeat' first | exact Keeps.refl _ | apply State.gateAnswer_keeps | apply State.raise_keeps | apply State.writeWord_keeps | fail_if_no_progress apply Keeps.fields | apply keeps_foldl))
    | apply keeps_ite

theorem execBadAccessRead_touch (hw : 857742857 ||| w = w) : ∀ m addr width s, Touch w s₀ s → TouchR w s₀ (execBadAccessRead m addr width s) := by
  intro m addr width s h; unfold execBadAccessRead; try dsimp only
  repeat' with_reducible first
    | exact h
    | exact Touch.refl _ _
    | apply touchR_next
    | apply touchR_ite
    | refine State.gateAnswer_touch (sub_trans (by decide) hw) _ _ _ ?_
    | refine State.raise_touch (sub_trans (by decide) hw) _ _ ?_
    | refine State.readWord_touch (sub_trans (by decide) hw) _ _ _ ?_
    | fail_if_no_progress refine touch_bus (sub_trans (by decide) hw) ?_
    | (apply touch_ite_then; on_goal 1 => solve | (repeat' first | exact Touch.refl _ _ | refine State.gateAnswer_touch (sub_trans (by decide) hw) _ _ _ ?_ | refine State.raise_touch (sub_trans (by decide) hw) _ _ ?_ | refine State.readWord_touch (sub_trans (by decide) hw) _ _ _ ?_ | fail_if_no_progress refine touch_bus (sub_trans (by decide) hw) ?_ | apply touch_foldl))
    | (apply touch_ite_else; on_goal 1 => solve | (repeat' first | exact Touch.refl _ _ | refine State.gateAnswer_touch (sub_trans (by decide) hw) _ _ _ ?_ | refine State.raise_touch (sub_trans (by decide) hw) _ _ ?_ | refine State.readWord_touch (sub_trans (by decide) hw) _ _ _ ?_ | fail_if_no_progress refine touch_bus (sub_trans (by decide) hw) ?_ | apply touch_foldl))
    | apply touch_ite

end Sys2Proof.Machine
end

