-- ==== Sys2Proof/Laws/Keeps/Boot.lean ====
section
/-!
SUPPORT. What each operation of Boot keeps.
-/

namespace Sys2Proof.Machine

variable {w : Nat} {s₀ : State}

theorem State.alarmSync_keeps : ∀ s, Keeps s₀ s → Keeps s₀ (State.alarmSync s) :=
  fun s h => Touch.after h (State.alarmSync_touch (w := 536871425) rfl s (Touch.refl _ _)) (by decide)

theorem State.updEng_keeps : ∀ s i f, Keeps s₀ s → Keeps s₀ (State.updEng s i f) :=
  fun s i f h => Touch.after h (State.updEng_touch (w := 2097152) rfl s i f (Touch.refl _ _)) (by decide)

theorem State.updCore_keeps : ∀ s i f, Keeps s₀ s → Keeps s₀ (State.updCore s i f) :=
  fun s i f h => Touch.after h (State.updCore_touch (w := 1024) rfl s i f (Touch.refl _ _)) (by decide)

theorem State.timeStateChange_keeps : ∀ s, Keeps s₀ s → Keeps s₀ (State.timeStateChange s) :=
  fun s h => Touch.after h (State.timeStateChange_touch (w := 546574977) rfl s (Touch.refl _ _)) (by decide)

theorem State.coreRun_keeps : ∀ s c, Keeps s₀ s → Keeps s₀ (State.coreRun s c) :=
  fun s c h => Touch.after h (State.coreRun_touch (w := 1024) rfl s c (Touch.refl _ _)) (by decide)

theorem State.commitBlocks_keeps : ∀ s old, Keeps s₀ s → Keeps s₀ (State.commitBlocks s old) :=
  fun s old h => Touch.after h (State.commitBlocks_touch (w := 937243529) rfl s old (Touch.refl _ _)) (by decide)

theorem execPowerGood_touch (hw : 64 ||| w = w) : ∀ fsel s, Touch w s₀ s → TouchR w s₀ (execPowerGood fsel s) := by
  intro fsel s h; unfold execPowerGood; try dsimp only
  repeat' with_reducible first
    | exact h
    | exact Touch.refl _ _
    | apply touchR_next
    | apply touchR_ite
    | refine State.bootBegin_touch (sub_trans (by decide) hw) _ _ ?_
    | fail_if_no_progress refine touch_boot (sub_trans (by decide) hw) ?_
    | (apply touch_ite_then; on_goal 1 => solve | (repeat' first | exact Touch.refl _ _ | refine State.bootBegin_touch (sub_trans (by decide) hw) _ _ ?_ | fail_if_no_progress refine touch_boot (sub_trans (by decide) hw) ?_ | apply touch_foldl))
    | (apply touch_ite_else; on_goal 1 => solve | (repeat' first | exact Touch.refl _ _ | refine State.bootBegin_touch (sub_trans (by decide) hw) _ _ ?_ | fail_if_no_progress refine touch_boot (sub_trans (by decide) hw) ?_))

theorem execPowerFail_keeps : ∀ s, Keeps s₀ s → KeepsR s₀ (execPowerFail s) := by
  intro s h; unfold execPowerFail; try dsimp only
  repeat' with_reducible first
    | exact h
    | exact Keeps.refl _
    | apply keepsR_next
    | apply keepsR_ite
    | apply State.coreDomainReset_keeps
    | fail_if_no_progress apply Keeps.fields

theorem execResetNAssert_keeps : ∀ s, Keeps s₀ s → KeepsR s₀ (execResetNAssert s) := by
  intro s h; unfold execResetNAssert; try dsimp only
  repeat' with_reducible first
    | exact h
    | exact Keeps.refl _
    | apply keepsR_next
    | apply keepsR_ite
    | apply State.coreDomainReset_keeps
    | fail_if_no_progress apply Keeps.fields

theorem execResetNRelease_touch (hw : 64 ||| w = w) : ∀ fsel s, Touch w s₀ s → TouchR w s₀ (execResetNRelease fsel s) := by
  intro fsel s h; unfold execResetNRelease; try dsimp only
  repeat' with_reducible first
    | exact h
    | exact Touch.refl _ _
    | apply touchR_next
    | apply touchR_ite
    | refine State.bootBegin_touch (sub_trans (by decide) hw) _ _ ?_
    | fail_if_no_progress refine touch_boot (sub_trans (by decide) hw) ?_
    | (apply touch_ite_then; on_goal 1 => solve | (repeat' first | exact Touch.refl _ _ | refine State.bootBegin_touch (sub_trans (by decide) hw) _ _ ?_ | fail_if_no_progress refine touch_boot (sub_trans (by decide) hw) ?_ | apply touch_foldl))
    | (apply touch_ite_else; on_goal 1 => solve | (repeat' first | exact Touch.refl _ _ | refine State.bootBegin_touch (sub_trans (by decide) hw) _ _ ?_ | fail_if_no_progress refine touch_boot (sub_trans (by decide) hw) ?_))

theorem execPerstN_touch (hw : 536872449 ||| w = w) : ∀ s, Touch w s₀ s → TouchR w s₀ (execPerstN s) := by
  intro s h; unfold execPerstN; try dsimp only
  repeat' with_reducible first
    | exact h
    | exact Touch.refl _ _
    | apply touchR_next
    | apply touchR_ite
    | refine State.masterReset_touch (sub_trans (by decide) hw) _ _ ?_
    | fail_if_no_progress refine touch_evt (sub_trans (by decide) hw) ?_

theorem execVbatLow_touch (hw : 546575257 ||| w = w) : ∀ s, Touch w s₀ s → TouchR w s₀ (execVbatLow s) := by
  intro s h; unfold execVbatLow; try dsimp only
  repeat' with_reducible first
    | exact h
    | exact Touch.refl _ _
    | apply touchR_next
    | apply touchR_ite
    | refine State.timeStateChange_touch (sub_trans (by decide) hw) _ ?_
    | refine State.leapSync_touch (sub_trans (by decide) hw) _ ?_
    | fail_if_no_progress refine touch_vbat (sub_trans (by decide) hw) ?_
    | (apply touch_ite_then; on_goal 1 => solve | (repeat' first | exact Touch.refl _ _ | refine State.timeStateChange_touch (sub_trans (by decide) hw) _ ?_ | refine State.leapSync_touch (sub_trans (by decide) hw) _ ?_ | fail_if_no_progress refine touch_vbat (sub_trans (by decide) hw) ?_ | apply touch_foldl))
    | (apply touch_ite_else; on_goal 1 => solve | (repeat' first | exact Touch.refl _ _ | refine State.timeStateChange_touch (sub_trans (by decide) hw) _ ?_ | refine State.leapSync_touch (sub_trans (by decide) hw) _ ?_ | fail_if_no_progress refine touch_vbat (sub_trans (by decide) hw) ?_))

theorem execVbatRestore_touch (hw : 16 ||| w = w) : ∀ s, Touch w s₀ s → TouchR w s₀ (execVbatRestore s) := by
  intro s h; unfold execVbatRestore; try dsimp only
  repeat' with_reducible first
    | exact h
    | exact Touch.refl _ _
    | apply touchR_next
    | apply touchR_ite
    | fail_if_no_progress refine touch_vbat (sub_trans (by decide) hw) ?_
    | (apply touch_ite_then; on_goal 1 => solve | (repeat' first | exact Touch.refl _ _ | fail_if_no_progress refine touch_vbat (sub_trans (by decide) hw) ?_ | apply touch_foldl))
    | (apply touch_ite_else; on_goal 1 => solve | (repeat' first | exact Touch.refl _ _ | fail_if_no_progress refine touch_vbat (sub_trans (by decide) hw) ?_))

theorem State.stageTime_touch (hw : 520 ||| w = w) : ∀ s dur longest, Touch w s₀ s → Touch w s₀ (State.stageTime s dur longest) := by
  intro s dur longest h; unfold State.stageTime; try dsimp only
  repeat' with_reducible first
    | exact h
    | exact Touch.refl _ _
    | refine State.advTo_touch (sub_trans (by decide) hw) _ _ ?_

theorem State.stageTime_keeps : ∀ s dur longest, Keeps s₀ s → Keeps s₀ (State.stageTime s dur longest) :=
  fun s dur longest h => Touch.after h (State.stageTime_touch (w := 520) rfl s dur longest (Touch.refl _ _)) (by decide)

theorem execApll0Lock_touch (hw : 16777800 ||| w = w) : ∀ dur s, Touch w s₀ s → TouchR w s₀ (execApll0Lock dur s) := by
  intro dur s h; unfold execApll0Lock; try dsimp only
  repeat' with_reducible first
    | exact h
    | exact Touch.refl _ _
    | apply touchR_next
    | apply touchR_ite
    | refine State.stageTime_touch (sub_trans (by decide) hw) _ _ _ ?_
    | refine State.advTo_touch (sub_trans (by decide) hw) _ _ ?_
    | refine State.verifyBegin_touch (sub_trans (by decide) hw) _ ?_
    | refine State.refoutSync_touch (sub_trans (by decide) hw) _ ?_
    | fail_if_no_progress refine touch_boot (sub_trans (by decide) hw) ?_

theorem execHeaderStage_touch (hw : 536871497 ||| w = w) : ∀ flash a b dur s, Touch w s₀ s → TouchR w s₀ (execHeaderStage flash a b dur s) := by
  intro flash a b dur s h; unfold execHeaderStage; try dsimp only
  repeat' with_reducible first
    | exact h
    | exact Touch.refl _ _
    | apply touchR_next
    | apply touchR_ite
    | refine State.stageTime_touch (sub_trans (by decide) hw) _ _ _ ?_
    | refine State.noRecipe_touch (sub_trans (by decide) hw) _ ?_
    | refine State.verifyBegin_touch (sub_trans (by decide) hw) _ ?_
    | fail_if_no_progress refine touch_boot (sub_trans (by decide) hw) ?_

theorem State.dtLoad_touch (hw : 545522521 ||| w = w) : ∀ s floor, Touch w s₀ s → Touch w s₀ (State.dtLoad s floor) := by
  intro s floor h; unfold State.dtLoad; try dsimp only
  repeat' with_reducible first
    | exact h
    | exact Touch.refl _ _
    | refine State.advTo_touch (sub_trans (by decide) hw) _ _ ?_
    | refine State.dcoUpdate_touch (sub_trans (by decide) hw) _ ?_
    | refine State.wr_touch (sub_trans (by decide) hw) _ _ _ ?_
    | refine State.raise_touch (sub_trans (by decide) hw) _ _ ?_
    | refine State.slotStep_touch (sub_trans (by decide) hw) _ _ _ _ ?_
    | refine State.leapApply_touch (sub_trans (by decide) hw) _ _ ?_
    | refine State.leapFrozen_touch (sub_trans (by decide) hw) _ ?_
    | refine State.leapSync_touch (sub_trans (by decide) hw) _ ?_
    | fail_if_no_progress refine touch_time (sub_trans (by decide) hw) ?_
    | fail_if_no_progress refine touch_time_boot (sub_trans (by decide) hw) ?_
    | (apply touch_ite_then; on_goal 1 => solve | (repeat' first | exact Touch.refl _ _ | refine State.advTo_touch (sub_trans (by decide) hw) _ _ ?_ | refine State.dcoUpdate_touch (sub_trans (by decide) hw) _ ?_ | refine State.wr_touch (sub_trans (by decide) hw) _ _ _ ?_ | refine State.raise_touch (sub_trans (by decide) hw) _ _ ?_ | refine State.slotStep_touch (sub_trans (by decide) hw) _ _ _ _ ?_ | refine State.leapApply_touch (sub_trans (by decide) hw) _ _ ?_ | refine State.leapFrozen_touch (sub_trans (by decide) hw) _ ?_ | refine State.leapSync_touch (sub_trans (by decide) hw) _ ?_ | fail_if_no_progress refine touch_time (sub_trans (by decide) hw) ?_ | fail_if_no_progress refine touch_time_boot (sub_trans (by decide) hw) ?_ | apply touch_foldl | (intro _ _; try dsimp only)))
    | (apply touch_ite_else; on_goal 1 => solve | (repeat' first | exact Touch.refl _ _ | refine State.advTo_touch (sub_trans (by decide) hw) _ _ ?_ | refine State.dcoUpdate_touch (sub_trans (by decide) hw) _ ?_ | refine State.wr_touch (sub_trans (by decide) hw) _ _ _ ?_ | refine State.raise_touch (sub_trans (by decide) hw) _ _ ?_ | refine State.slotStep_touch (sub_trans (by decide) hw) _ _ _ _ ?_ | refine State.leapApply_touch (sub_trans (by decide) hw) _ _ ?_ | refine State.leapFrozen_touch (sub_trans (by decide) hw) _ ?_ | refine State.leapSync_touch (sub_trans (by decide) hw) _ ?_ | fail_if_no_progress refine touch_time (sub_trans (by decide) hw) ?_ | fail_if_no_progress refine touch_time_boot (sub_trans (by decide) hw) ?_ | apply touch_foldl | (intro _ _; try dsimp only)))
    | apply touch_ite
    | apply touch_foldl
    | (intro _ _ _ k; try dsimp only)
    | (intro _ _; try dsimp only)
    | refine touch_snd (by assumption) ?_
    | (intro _; try dsimp only)
    | assumption
    | split

theorem State.dtLoad_keeps : ∀ s floor, Keeps s₀ s → Keeps s₀ (State.dtLoad s floor) :=
  fun s floor h => Touch.after h (State.dtLoad_touch (w := 545522521) rfl s floor (Touch.refl _ _)) (by decide)

theorem execSlotVerify_keeps : ∀ img dur s, Keeps s₀ s → KeepsR s₀ (execSlotVerify img dur s) := by
  intro img dur s h; unfold execSlotVerify; try dsimp only
  repeat' with_reducible first
    | exact h
    | exact Keeps.refl _
    | apply keepsR_next
    | apply keepsR_ite
    | apply State.stageTime_keeps
    | apply State.bootFail_keeps
    | apply State.dtLoad_keeps
    | fail_if_no_progress apply Keeps.fields
    | apply keeps_ite
    | apply keeps_foldl
    | refine keeps_snd (by assumption) ?_
    | (intro _; try dsimp only)
    | assumption
    | split

theorem execEfeskVerify_keeps : ∀ bundles dur s, Keeps s₀ s → KeepsR s₀ (execEfeskVerify bundles dur s) := by
  intro bundles dur s h; unfold execEfeskVerify; try dsimp only
  repeat' with_reducible first
    | exact h
    | exact Keeps.refl _
    | apply keepsR_next
    | apply keepsR_ite
    | apply State.stageTime_keeps
    | apply State.bootFail_keeps
    | fail_if_no_progress apply Keeps.fields

theorem execLoadStage_keeps : ∀ server cert readOk dur s, Keeps s₀ s → KeepsR s₀ (execLoadStage server cert readOk dur s) := by
  intro server cert readOk dur s h; unfold execLoadStage; try dsimp only
  repeat' with_reducible first
    | exact h
    | exact Keeps.refl _
    | apply keepsR_next
    | apply keepsR_ite
    | apply State.stageTime_keeps
    | apply State.bootFail_keeps
    | apply State.wr_keeps
    | apply State.updEng_keeps
    | apply State.updCore_keeps
    | fail_if_no_progress apply Keeps.fields
    | apply keeps_ite
    | apply keeps_foldl
    | (intro _ _ _ k; try dsimp only)
    | (intro _ _; try dsimp only)

theorem State.settle_touch (hw : 262664 ||| w = w) : ∀ s, Touch w s₀ s → Touch w s₀ (State.settle s) := by
  intro s h; unfold State.settle; try dsimp only
  repeat' with_reducible first
    | exact h
    | exact Touch.refl _ _
    | refine State.advTo_touch (sub_trans (by decide) hw) _ _ ?_
    | refine State.keyFire_touch (sub_trans (by decide) hw) _ _ ?_
    | apply touch_foldl
    | (intro _ _ _ k; try dsimp only)
    | (intro _ _; try dsimp only)

theorem State.record_keeps : ∀ s a v t, State.record s a v = some t → Keeps s₀ s → Keeps s₀ t := by
  intro s a v t e h
  have w : Keeps s₀ (s.writeWord .kc a v) := State.writeWord_keeps _ _ _ _ h
  unfold State.record at e
  split at e
  · cases e
  · split at e
    · cases e
    · cases e; exact w
    · split at e
      · cases e
      · cases e; exact Touch.after w (State.settle_touch (w := 262664) rfl _ (Touch.refl _ _))

theorem State.leapSection_touch (hw : 537133849 ||| w = w) : ∀ s l, Touch w s₀ s → Touch w s₀ (State.leapSection s l) := by
  intro s l h; unfold State.leapSection; try dsimp only
  repeat' with_reducible first
    | exact h
    | exact Touch.refl _ _
    | refine State.leapPut_touch (sub_trans (by decide) hw) _ _ ?_
    | fail_if_no_progress refine touch_vbat (sub_trans (by decide) hw) ?_
    | (apply touch_ite_then; on_goal 1 => solve | (repeat' first | exact Touch.refl _ _ | refine State.leapPut_touch (sub_trans (by decide) hw) _ _ ?_ | fail_if_no_progress refine touch_vbat (sub_trans (by decide) hw) ?_ | apply touch_foldl))
    | (apply touch_ite_else; on_goal 1 => solve | (repeat' first | exact Touch.refl _ _ | refine State.leapPut_touch (sub_trans (by decide) hw) _ _ ?_ | fail_if_no_progress refine touch_vbat (sub_trans (by decide) hw) ?_))

theorem State.records_keeps : ∀ l s n, Keeps s₀ s → (∀ t m, State.records s n l = .error (t, m) → Keeps s₀ t) ∧
    (∀ t, State.records s n l = .ok t → Keeps s₀ t) := by
  intro l
  induction l with
  | nil =>
    intro s n h
    refine ⟨fun t m e => ?_, fun t e => ?_⟩ <;> unfold State.records at e <;> cases e
    exact h
  | cons a l ih =>
    intro s n h
    refine ⟨fun t m e => ?_, fun t e => ?_⟩ <;> unfold State.records at e <;> split at e
    · cases e; exact h
    · exact (ih _ _ (State.record_keeps _ _ _ _ (by assumption) h)).1 _ _ e
    · cases e
    · exact (ih _ _ (State.record_keeps _ _ _ _ (by assumption) h)).2 _ e

theorem execConfigStage_keeps : ∀ recs leap dur s, Keeps s₀ s → KeepsR s₀ (execConfigStage recs leap dur s) := by
  intro recs leap dur s h
  unfold execConfigStage
  refine keepsR_ite (keepsR_next h) ?_
  dsimp only
  have k := State.records_keeps recs _ 0 (Touch.after h (State.stageTime_touch (w := 520) rfl s dur (usTicks * recs.length) (Touch.refl _ _)))
  split
  · exact keepsR_next (State.bootFail_keeps _ _ _ (k.1 _ _ (by assumption)))
  · have k := k.2 _ (by assumption)
    refine keepsR_next (Keeps.fields ?_)
    split
    · exact Touch.after k (State.leapSection_touch (w := 537133849) rfl _ _ (Touch.refl _ _))
    · exact k

theorem State.importTable_touch (hw : 262144 ||| w = w) : ∀ s b, Touch w s₀ s → Touch w s₀ (State.importTable s b).2 := by
  intro s b h
  have fold {α : Type} (f : Bool × State → α → Bool × State) (hf : ∀ p x, Touch w s₀ p.2 → Touch w s₀ (f p x).2)
      (l : List α) (p : Bool × State) (hp : Touch w s₀ p.2) : Touch w s₀ (l.foldl f p).2 := by
    induction l generalizing p with
    | nil => exact hp
    | cons a l ih => exact ih _ (hf p a hp)
  unfold State.importTable
  dsimp only
  split
  · exact h
  · split
    · exact h
    · refine fold _ (fun p x hp => ?_) _ _ h
      split
      · exact h
      · exact State.updKey_touch (sub_trans (by decide) hw) _ _ _ _ hp

theorem State.importKeys_touch (hw : 539230721 ||| w = w) : ∀ s g n l, Touch w s₀ s → Touch w s₀ (State.importKeys s g n l).2 := by
  intro s g n l
  induction l generalizing s n with
  | nil => intro h; exact h
  | cons a l ih =>
    intro h
    have step (p : Bool × State) (hp : Touch w s₀ p.2) : Touch w s₀ (if p.1 then p.2.importKeys g (n + 1) l
        else if g then (p.2.raise 6).importKeys g (n + 1) l else (some n, p.2.raise 6)).2 := by
      split
      · exact ih _ _ hp
      · split
        · exact ih _ _ (State.raise_touch (sub_trans (by decide) hw) _ _ hp)
        · exact State.raise_touch (sub_trans (by decide) hw) _ _ hp
    exact step (if a.1 then s.importTable a.2 else ((s.importBundle a.2 true).1 == 0, (s.importBundle a.2 true).2)) (by
      split
      · exact State.importTable_touch (sub_trans (by decide) hw) _ _ h
      · exact State.importBundle_touch (sub_trans (by decide) hw) _ _ _ h)

theorem State.importKeys_keeps : ∀ s goOn n x3, Keeps s₀ s → Keeps s₀ (State.importKeys s goOn n x3).2 :=
  fun s goOn n x3 h => Touch.after h (State.importKeys_touch (w := 539230721) rfl s goOn n x3 (Touch.refl _ _)) (by decide)

theorem execKeysStage_keeps : ∀ keys dur s, Keeps s₀ s → KeepsR s₀ (execKeysStage keys dur s) := by
  intro keys dur s h; unfold execKeysStage; try dsimp only
  repeat' with_reducible first
    | exact h
    | exact Keeps.refl _
    | apply keepsR_next
    | apply keepsR_ite
    | apply State.coreRun_keeps
    | apply State.stageTime_keeps
    | apply State.importKeys_keeps
    | apply State.bootFail_keeps
    | fail_if_no_progress apply Keeps.fields
    | apply keeps_ite
    | apply keeps_foldl
    | (intro _ _ _ k; try dsimp only)
    | (intro _ _; try dsimp only)
    | refine keeps_snd (by assumption) ?_
    | (intro _; try dsimp only)
    | assumption
    | split

theorem State.recipeLoad_touch (hw : 716477193 ||| w = w) : ∀ s, Touch w s₀ s → Touch w s₀ (State.recipeLoad s) := by
  intro s h; unfold State.recipeLoad; try dsimp only
  repeat' with_reducible first
    | exact h
    | exact Touch.refl _ _
    | refine State.draw_touch (sub_trans (by decide) hw) _ ?_
    | refine State.ntsLoad_touch (sub_trans (by decide) hw) _ ?_
    | refine State.closeArm_touch (sub_trans (by decide) hw) _ _ _ ?_
    | refine State.slowFill_touch (sub_trans (by decide) hw) _ _ ?_
    | refine State.outArm_touch (sub_trans (by decide) hw) _ _ ?_
    | refine State.emit_touch (sub_trans (by decide) hw) _ _ ?_
    | refine State.timCal_touch (sub_trans (by decide) hw) _ ?_
    | fail_if_no_progress refine touch_ptp (sub_trans (by decide) hw) ?_
    | fail_if_no_progress refine touch_clk (sub_trans (by decide) hw) ?_
    | fail_if_no_progress refine touch_cls (sub_trans (by decide) hw) ?_
    | (apply touch_ite_then; on_goal 1 => solve | (repeat' first | exact Touch.refl _ _ | refine State.draw_touch (sub_trans (by decide) hw) _ ?_ | refine State.ntsLoad_touch (sub_trans (by decide) hw) _ ?_ | refine State.closeArm_touch (sub_trans (by decide) hw) _ _ _ ?_ | refine State.slowFill_touch (sub_trans (by decide) hw) _ _ ?_ | refine State.outArm_touch (sub_trans (by decide) hw) _ _ ?_ | refine State.emit_touch (sub_trans (by decide) hw) _ _ ?_ | refine State.timCal_touch (sub_trans (by decide) hw) _ ?_ | fail_if_no_progress refine touch_ptp (sub_trans (by decide) hw) ?_ | fail_if_no_progress refine touch_clk (sub_trans (by decide) hw) ?_ | fail_if_no_progress refine touch_cls (sub_trans (by decide) hw) ?_))
    | apply touch_ite
    | apply touch_foldl
    | (intro _ _ _ k; try dsimp only)
    | (intro _ _; try dsimp only)

theorem State.recipeLoad_keeps : ∀ s, Keeps s₀ s → Keeps s₀ (State.recipeLoad s) :=
  fun s h => Touch.after h (State.recipeLoad_touch (w := 716477193) rfl s (Touch.refl _ _)) (by decide)

theorem execInitialCommit_touch (hw : 1073591245 ||| w = w) : ∀ s, Touch w s₀ s → TouchR w s₀ (execInitialCommit s) := by
  intro s h; unfold execInitialCommit; try dsimp only
  repeat' with_reducible first
    | exact h
    | exact Touch.refl _ _
    | apply touchR_next
    | apply touchR_ite
    | refine State.advTo_touch (sub_trans (by decide) hw) _ _ ?_
    | refine State.commitCopy_touch (sub_trans (by decide) hw) _ _ _ ?_
    | refine State.alarmSync_touch (sub_trans (by decide) hw) _ ?_
    | refine State.timeStateChange_touch (sub_trans (by decide) hw) _ ?_
    | refine State.commitBlocks_touch (sub_trans (by decide) hw) _ _ ?_
    | refine State.recipeLoad_touch (sub_trans (by decide) hw) _ ?_
    | fail_if_no_progress refine touch_boot_cfg (sub_trans (by decide) hw) ?_

theorem execInitialCommit_keeps : ∀ s, Keeps s₀ s → KeepsR s₀ (execInitialCommit s) := by
  intro s h; unfold execInitialCommit; try dsimp only
  repeat' with_reducible first
    | exact h
    | exact Keeps.refl _
    | apply keepsR_next
    | apply keepsR_ite
    | apply State.advTo_keeps
    | apply State.commitCopy_keeps
    | apply State.alarmSync_keeps
    | apply State.timeStateChange_keeps
    | apply State.commitBlocks_keeps
    | apply State.recipeLoad_keeps
    | fail_if_no_progress apply Keeps.fields

theorem State.bypassOpen_touch (hw : 144 ||| w = w) : ∀ s forced, Touch w s₀ s → Touch w s₀ (State.bypassOpen s forced) := by
  intro s forced h; unfold State.bypassOpen; try dsimp only
  repeat' with_reducible first
    | exact h
    | exact Touch.refl _ _
    | fail_if_no_progress refine touch_vbat_serve (sub_trans (by decide) hw) ?_

theorem execBypassOpen_touch (hw : 664 ||| w = w) : ∀ s, Touch w s₀ s → TouchR w s₀ (execBypassOpen s) := by
  intro s h; unfold execBypassOpen; try dsimp only
  repeat' with_reducible first
    | exact h
    | exact Touch.refl _ _
    | apply touchR_next
    | apply touchR_ite
    | refine State.bypassOpen_touch (sub_trans (by decide) hw) _ _ ?_
    | refine State.advTo_touch (sub_trans (by decide) hw) _ _ ?_
    | apply touch_ite
    | apply touch_foldl
    | refine touch_snd (by assumption) ?_
    | (intro _; try dsimp only)
    | assumption
    | split

theorem execBypassOpenForced_touch (hw : 664 ||| w = w) : ∀ s, Touch w s₀ s → TouchR w s₀ (execBypassOpenForced s) := by
  intro s h; unfold execBypassOpenForced; try dsimp only
  repeat' with_reducible first
    | exact h
    | exact Touch.refl _ _
    | apply touchR_next
    | apply touchR_ite
    | refine State.bypassOpen_touch (sub_trans (by decide) hw) _ _ ?_
    | refine State.advTo_touch (sub_trans (by decide) hw) _ _ ?_
    | (apply touch_ite_then; on_goal 1 => solve | (repeat' first | exact Touch.refl _ _ | refine State.bypassOpen_touch (sub_trans (by decide) hw) _ _ ?_ | refine State.advTo_touch (sub_trans (by decide) hw) _ _ ?_))

end Sys2Proof.Machine
end

