-- ==== Sys2Proof/Laws/State.lean ====
section
/-!
SUPPORT. What each named update of the state leaves of every field, and what a read gives after it.
-/

namespace Sys2Proof.Machine

/-! ### `State.wr` -/

@[simp] theorem State.wr_shadow (s : State) (a : Nat) (v : Word) : (s.wr a v).shadow = s.shadow := rfl
@[simp] theorem State.wr_active (s : State) (a : Nat) (v : Word) : (s.wr a v).active = s.active := rfl
@[simp] theorem State.wr_time (s : State) (a : Nat) (v : Word) : (s.wr a v).time = s.time := rfl
@[simp] theorem State.wr_vbat (s : State) (a : Nat) (v : Word) : (s.wr a v).vbat = s.vbat := rfl
@[simp] theorem State.wr_otp (s : State) (a : Nat) (v : Word) : (s.wr a v).otp = s.otp := rfl
@[simp] theorem State.wr_boot (s : State) (a : Nat) (v : Word) : (s.wr a v).boot = s.boot := rfl
@[simp] theorem State.wr_serve (s : State) (a : Nat) (v : Word) : (s.wr a v).serve = s.serve := rfl
@[simp] theorem State.wr_cfg (s : State) (a : Nat) (v : Word) : (s.wr a v).cfg = s.cfg := rfl
@[simp] theorem State.wr_evt (s : State) (a : Nat) (v : Word) : (s.wr a v).evt = s.evt := rfl
@[simp] theorem State.wr_mbx (s : State) (a : Nat) (v : Word) : (s.wr a v).mbx = s.mbx := rfl
@[simp] theorem State.wr_bus (s : State) (a : Nat) (v : Word) : (s.wr a v).bus = s.bus := rfl
@[simp] theorem State.wr_ports (s : State) (a : Nat) (v : Word) : (s.wr a v).ports = s.ports := rfl
@[simp] theorem State.wr_cals (s : State) (a : Nat) (v : Word) : (s.wr a v).cals = s.cals := rfl
@[simp] theorem State.wr_rwl (s : State) (a : Nat) (v : Word) : (s.wr a v).rwl = s.rwl := rfl
@[simp] theorem State.wr_cls (s : State) (a : Nat) (v : Word) : (s.wr a v).cls = s.cls := rfl
@[simp] theorem State.wr_clus (s : State) (a : Nat) (v : Word) : (s.wr a v).clus = s.clus := rfl
@[simp] theorem State.wr_clt (s : State) (a : Nat) (v : Word) : (s.wr a v).clt = s.clt := rfl
@[simp] theorem State.wr_srv (s : State) (a : Nat) (v : Word) : (s.wr a v).srv = s.srv := rfl
@[simp] theorem State.wr_rt (s : State) (a : Nat) (v : Word) : (s.wr a v).rt = s.rt := rfl
@[simp] theorem State.wr_ptp (s : State) (a : Nat) (v : Word) : (s.wr a v).ptp = s.ptp := rfl
@[simp] theorem State.wr_pke (s : State) (a : Nat) (v : Word) : (s.wr a v).pke = s.pke := rfl
@[simp] theorem State.wr_ref (s : State) (a : Nat) (v : Word) : (s.wr a v).ref = s.ref := rfl
@[simp] theorem State.wr_clk (s : State) (a : Nat) (v : Word) : (s.wr a v).clk = s.clk := rfl
@[simp] theorem State.wr_gns (s : State) (a : Nat) (v : Word) : (s.wr a v).gns = s.gns := rfl
@[simp] theorem State.wr_tim (s : State) (a : Nat) (v : Word) : (s.wr a v).tim = s.tim := rfl
@[simp] theorem State.wr_evl (s : State) (a : Nat) (v : Word) : (s.wr a v).evl = s.evl := rfl
@[simp] theorem State.wr_draws (s : State) (a : Nat) (v : Word) : (s.wr a v).draws = s.draws := rfl
@[simp] theorem State.wr_frees (s : State) (a : Nat) (v : Word) : (s.wr a v).frees = s.frees := rfl
@[simp] theorem State.wr_outbox (s : State) (a : Nat) (v : Word) : (s.wr a v).outbox = s.outbox := rfl
@[simp] theorem State.wr_pending (s : State) (a : Nat) (v : Word) : (s.wr a v).pending = s.pending := rfl

@[simp] theorem State.rd_wr_same (s : State) (a : Nat) (v : Word) : (s.wr a v).rd a = v := tget_tset_same ..

theorem State.rd_wr_ne (s : State) {a b : Nat} (v : Word) (h : b ≠ a) : (s.wr a v).rd b = s.rd b := tget_tset_ne _ _ _ h

@[simp] theorem State.ac_wr (s : State) (a b : Nat) (v : Word) : (s.wr a v).ac b = s.ac b := rfl
@[simp] theorem State.sh_wr (s : State) (a b : Nat) (v : Word) : (s.wr a v).sh b = s.sh b := rfl

/-! ### `State.wrSh` -/

@[simp] theorem State.wrSh_live (s : State) (a : Nat) (v : Word) : (s.wrSh a v).live = s.live := rfl
@[simp] theorem State.wrSh_active (s : State) (a : Nat) (v : Word) : (s.wrSh a v).active = s.active := rfl
@[simp] theorem State.wrSh_time (s : State) (a : Nat) (v : Word) : (s.wrSh a v).time = s.time := rfl
@[simp] theorem State.wrSh_vbat (s : State) (a : Nat) (v : Word) : (s.wrSh a v).vbat = s.vbat := rfl
@[simp] theorem State.wrSh_otp (s : State) (a : Nat) (v : Word) : (s.wrSh a v).otp = s.otp := rfl
@[simp] theorem State.wrSh_boot (s : State) (a : Nat) (v : Word) : (s.wrSh a v).boot = s.boot := rfl
@[simp] theorem State.wrSh_serve (s : State) (a : Nat) (v : Word) : (s.wrSh a v).serve = s.serve := rfl
@[simp] theorem State.wrSh_cfg (s : State) (a : Nat) (v : Word) : (s.wrSh a v).cfg = s.cfg := rfl
@[simp] theorem State.wrSh_evt (s : State) (a : Nat) (v : Word) : (s.wrSh a v).evt = s.evt := rfl
@[simp] theorem State.wrSh_mbx (s : State) (a : Nat) (v : Word) : (s.wrSh a v).mbx = s.mbx := rfl
@[simp] theorem State.wrSh_bus (s : State) (a : Nat) (v : Word) : (s.wrSh a v).bus = s.bus := rfl
@[simp] theorem State.wrSh_ports (s : State) (a : Nat) (v : Word) : (s.wrSh a v).ports = s.ports := rfl
@[simp] theorem State.wrSh_cals (s : State) (a : Nat) (v : Word) : (s.wrSh a v).cals = s.cals := rfl
@[simp] theorem State.wrSh_rwl (s : State) (a : Nat) (v : Word) : (s.wrSh a v).rwl = s.rwl := rfl
@[simp] theorem State.wrSh_cls (s : State) (a : Nat) (v : Word) : (s.wrSh a v).cls = s.cls := rfl
@[simp] theorem State.wrSh_clus (s : State) (a : Nat) (v : Word) : (s.wrSh a v).clus = s.clus := rfl
@[simp] theorem State.wrSh_clt (s : State) (a : Nat) (v : Word) : (s.wrSh a v).clt = s.clt := rfl
@[simp] theorem State.wrSh_srv (s : State) (a : Nat) (v : Word) : (s.wrSh a v).srv = s.srv := rfl
@[simp] theorem State.wrSh_rt (s : State) (a : Nat) (v : Word) : (s.wrSh a v).rt = s.rt := rfl
@[simp] theorem State.wrSh_ptp (s : State) (a : Nat) (v : Word) : (s.wrSh a v).ptp = s.ptp := rfl
@[simp] theorem State.wrSh_pke (s : State) (a : Nat) (v : Word) : (s.wrSh a v).pke = s.pke := rfl
@[simp] theorem State.wrSh_ref (s : State) (a : Nat) (v : Word) : (s.wrSh a v).ref = s.ref := rfl
@[simp] theorem State.wrSh_clk (s : State) (a : Nat) (v : Word) : (s.wrSh a v).clk = s.clk := rfl
@[simp] theorem State.wrSh_gns (s : State) (a : Nat) (v : Word) : (s.wrSh a v).gns = s.gns := rfl
@[simp] theorem State.wrSh_tim (s : State) (a : Nat) (v : Word) : (s.wrSh a v).tim = s.tim := rfl
@[simp] theorem State.wrSh_evl (s : State) (a : Nat) (v : Word) : (s.wrSh a v).evl = s.evl := rfl
@[simp] theorem State.wrSh_draws (s : State) (a : Nat) (v : Word) : (s.wrSh a v).draws = s.draws := rfl
@[simp] theorem State.wrSh_frees (s : State) (a : Nat) (v : Word) : (s.wrSh a v).frees = s.frees := rfl
@[simp] theorem State.wrSh_outbox (s : State) (a : Nat) (v : Word) : (s.wrSh a v).outbox = s.outbox := rfl
@[simp] theorem State.wrSh_pending (s : State) (a : Nat) (v : Word) : (s.wrSh a v).pending = s.pending := rfl

@[simp] theorem State.sh_wrSh_same (s : State) (a : Nat) (v : Word) : (s.wrSh a v).sh a = v := tget_tset_same ..

theorem State.sh_wrSh_ne (s : State) {a b : Nat} (v : Word) (h : b ≠ a) : (s.wrSh a v).sh b = s.sh b := tget_tset_ne _ _ _ h

@[simp] theorem State.ac_wrSh (s : State) (a b : Nat) (v : Word) : (s.wrSh a v).ac b = s.ac b := rfl
@[simp] theorem State.rd_wrSh (s : State) (a b : Nat) (v : Word) : (s.wrSh a v).rd b = s.rd b := rfl

/-! ### `State.emit` -/

@[simp] theorem State.emit_live (s : State) (o : Out) : (s.emit o).live = s.live := rfl
@[simp] theorem State.emit_shadow (s : State) (o : Out) : (s.emit o).shadow = s.shadow := rfl
@[simp] theorem State.emit_active (s : State) (o : Out) : (s.emit o).active = s.active := rfl
@[simp] theorem State.emit_time (s : State) (o : Out) : (s.emit o).time = s.time := rfl
@[simp] theorem State.emit_vbat (s : State) (o : Out) : (s.emit o).vbat = s.vbat := rfl
@[simp] theorem State.emit_otp (s : State) (o : Out) : (s.emit o).otp = s.otp := rfl
@[simp] theorem State.emit_boot (s : State) (o : Out) : (s.emit o).boot = s.boot := rfl
@[simp] theorem State.emit_serve (s : State) (o : Out) : (s.emit o).serve = s.serve := rfl
@[simp] theorem State.emit_cfg (s : State) (o : Out) : (s.emit o).cfg = s.cfg := rfl
@[simp] theorem State.emit_evt (s : State) (o : Out) : (s.emit o).evt = s.evt := rfl
@[simp] theorem State.emit_mbx (s : State) (o : Out) : (s.emit o).mbx = s.mbx := rfl
@[simp] theorem State.emit_bus (s : State) (o : Out) : (s.emit o).bus = s.bus := rfl
@[simp] theorem State.emit_ports (s : State) (o : Out) : (s.emit o).ports = s.ports := rfl
@[simp] theorem State.emit_cals (s : State) (o : Out) : (s.emit o).cals = s.cals := rfl
@[simp] theorem State.emit_rwl (s : State) (o : Out) : (s.emit o).rwl = s.rwl := rfl
@[simp] theorem State.emit_cls (s : State) (o : Out) : (s.emit o).cls = s.cls := rfl
@[simp] theorem State.emit_clus (s : State) (o : Out) : (s.emit o).clus = s.clus := rfl
@[simp] theorem State.emit_clt (s : State) (o : Out) : (s.emit o).clt = s.clt := rfl
@[simp] theorem State.emit_srv (s : State) (o : Out) : (s.emit o).srv = s.srv := rfl
@[simp] theorem State.emit_rt (s : State) (o : Out) : (s.emit o).rt = s.rt := rfl
@[simp] theorem State.emit_ptp (s : State) (o : Out) : (s.emit o).ptp = s.ptp := rfl
@[simp] theorem State.emit_pke (s : State) (o : Out) : (s.emit o).pke = s.pke := rfl
@[simp] theorem State.emit_ref (s : State) (o : Out) : (s.emit o).ref = s.ref := rfl
@[simp] theorem State.emit_clk (s : State) (o : Out) : (s.emit o).clk = s.clk := rfl
@[simp] theorem State.emit_gns (s : State) (o : Out) : (s.emit o).gns = s.gns := rfl
@[simp] theorem State.emit_tim (s : State) (o : Out) : (s.emit o).tim = s.tim := rfl
@[simp] theorem State.emit_evl (s : State) (o : Out) : (s.emit o).evl = s.evl := rfl
@[simp] theorem State.emit_draws (s : State) (o : Out) : (s.emit o).draws = s.draws := rfl
@[simp] theorem State.emit_frees (s : State) (o : Out) : (s.emit o).frees = s.frees := rfl
@[simp] theorem State.emit_pending (s : State) (o : Out) : (s.emit o).pending = s.pending := rfl

@[simp] theorem State.emit_outbox (s : State) (o : Out) : (s.emit o).outbox = o :: s.outbox := rfl

/-! ### `State.draw` -/

@[simp] theorem State.draw_live (s : State) : (s.draw).2.live = s.live := rfl
@[simp] theorem State.draw_shadow (s : State) : (s.draw).2.shadow = s.shadow := rfl
@[simp] theorem State.draw_active (s : State) : (s.draw).2.active = s.active := rfl
@[simp] theorem State.draw_time (s : State) : (s.draw).2.time = s.time := rfl
@[simp] theorem State.draw_vbat (s : State) : (s.draw).2.vbat = s.vbat := rfl
@[simp] theorem State.draw_otp (s : State) : (s.draw).2.otp = s.otp := rfl
@[simp] theorem State.draw_boot (s : State) : (s.draw).2.boot = s.boot := rfl
@[simp] theorem State.draw_serve (s : State) : (s.draw).2.serve = s.serve := rfl
@[simp] theorem State.draw_cfg (s : State) : (s.draw).2.cfg = s.cfg := rfl
@[simp] theorem State.draw_evt (s : State) : (s.draw).2.evt = s.evt := rfl
@[simp] theorem State.draw_mbx (s : State) : (s.draw).2.mbx = s.mbx := rfl
@[simp] theorem State.draw_bus (s : State) : (s.draw).2.bus = s.bus := rfl
@[simp] theorem State.draw_ports (s : State) : (s.draw).2.ports = s.ports := rfl
@[simp] theorem State.draw_cals (s : State) : (s.draw).2.cals = s.cals := rfl
@[simp] theorem State.draw_rwl (s : State) : (s.draw).2.rwl = s.rwl := rfl
@[simp] theorem State.draw_cls (s : State) : (s.draw).2.cls = s.cls := rfl
@[simp] theorem State.draw_clus (s : State) : (s.draw).2.clus = s.clus := rfl
@[simp] theorem State.draw_clt (s : State) : (s.draw).2.clt = s.clt := rfl
@[simp] theorem State.draw_srv (s : State) : (s.draw).2.srv = s.srv := rfl
@[simp] theorem State.draw_rt (s : State) : (s.draw).2.rt = s.rt := rfl
@[simp] theorem State.draw_ptp (s : State) : (s.draw).2.ptp = s.ptp := rfl
@[simp] theorem State.draw_pke (s : State) : (s.draw).2.pke = s.pke := rfl
@[simp] theorem State.draw_ref (s : State) : (s.draw).2.ref = s.ref := rfl
@[simp] theorem State.draw_clk (s : State) : (s.draw).2.clk = s.clk := rfl
@[simp] theorem State.draw_gns (s : State) : (s.draw).2.gns = s.gns := rfl
@[simp] theorem State.draw_tim (s : State) : (s.draw).2.tim = s.tim := rfl
@[simp] theorem State.draw_evl (s : State) : (s.draw).2.evl = s.evl := rfl
@[simp] theorem State.draw_frees (s : State) : (s.draw).2.frees = s.frees := rfl
@[simp] theorem State.draw_outbox (s : State) : (s.draw).2.outbox = s.outbox := rfl
@[simp] theorem State.draw_pending (s : State) : (s.draw).2.pending = s.pending := rfl

/-! ### `State.free` -/

@[simp] theorem State.free_live (s : State) : (s.free).2.live = s.live := rfl
@[simp] theorem State.free_shadow (s : State) : (s.free).2.shadow = s.shadow := rfl
@[simp] theorem State.free_active (s : State) : (s.free).2.active = s.active := rfl
@[simp] theorem State.free_time (s : State) : (s.free).2.time = s.time := rfl
@[simp] theorem State.free_vbat (s : State) : (s.free).2.vbat = s.vbat := rfl
@[simp] theorem State.free_otp (s : State) : (s.free).2.otp = s.otp := rfl
@[simp] theorem State.free_boot (s : State) : (s.free).2.boot = s.boot := rfl
@[simp] theorem State.free_serve (s : State) : (s.free).2.serve = s.serve := rfl
@[simp] theorem State.free_cfg (s : State) : (s.free).2.cfg = s.cfg := rfl
@[simp] theorem State.free_evt (s : State) : (s.free).2.evt = s.evt := rfl
@[simp] theorem State.free_mbx (s : State) : (s.free).2.mbx = s.mbx := rfl
@[simp] theorem State.free_bus (s : State) : (s.free).2.bus = s.bus := rfl
@[simp] theorem State.free_ports (s : State) : (s.free).2.ports = s.ports := rfl
@[simp] theorem State.free_cals (s : State) : (s.free).2.cals = s.cals := rfl
@[simp] theorem State.free_rwl (s : State) : (s.free).2.rwl = s.rwl := rfl
@[simp] theorem State.free_cls (s : State) : (s.free).2.cls = s.cls := rfl
@[simp] theorem State.free_clus (s : State) : (s.free).2.clus = s.clus := rfl
@[simp] theorem State.free_clt (s : State) : (s.free).2.clt = s.clt := rfl
@[simp] theorem State.free_srv (s : State) : (s.free).2.srv = s.srv := rfl
@[simp] theorem State.free_rt (s : State) : (s.free).2.rt = s.rt := rfl
@[simp] theorem State.free_ptp (s : State) : (s.free).2.ptp = s.ptp := rfl
@[simp] theorem State.free_pke (s : State) : (s.free).2.pke = s.pke := rfl
@[simp] theorem State.free_ref (s : State) : (s.free).2.ref = s.ref := rfl
@[simp] theorem State.free_clk (s : State) : (s.free).2.clk = s.clk := rfl
@[simp] theorem State.free_gns (s : State) : (s.free).2.gns = s.gns := rfl
@[simp] theorem State.free_tim (s : State) : (s.free).2.tim = s.tim := rfl
@[simp] theorem State.free_evl (s : State) : (s.free).2.evl = s.evl := rfl
@[simp] theorem State.free_draws (s : State) : (s.free).2.draws = s.draws := rfl
@[simp] theorem State.free_outbox (s : State) : (s.free).2.outbox = s.outbox := rfl
@[simp] theorem State.free_pending (s : State) : (s.free).2.pending = s.pending := rfl

/-! ### `State.updPort` -/

@[simp] theorem State.updPort_live (s : State) (i : Nat) (f : PortSt → PortSt) : (s.updPort i f).live = s.live := rfl
@[simp] theorem State.updPort_shadow (s : State) (i : Nat) (f : PortSt → PortSt) : (s.updPort i f).shadow = s.shadow := rfl
@[simp] theorem State.updPort_active (s : State) (i : Nat) (f : PortSt → PortSt) : (s.updPort i f).active = s.active := rfl
@[simp] theorem State.updPort_time (s : State) (i : Nat) (f : PortSt → PortSt) : (s.updPort i f).time = s.time := rfl
@[simp] theorem State.updPort_vbat (s : State) (i : Nat) (f : PortSt → PortSt) : (s.updPort i f).vbat = s.vbat := rfl
@[simp] theorem State.updPort_otp (s : State) (i : Nat) (f : PortSt → PortSt) : (s.updPort i f).otp = s.otp := rfl
@[simp] theorem State.updPort_boot (s : State) (i : Nat) (f : PortSt → PortSt) : (s.updPort i f).boot = s.boot := rfl
@[simp] theorem State.updPort_serve (s : State) (i : Nat) (f : PortSt → PortSt) : (s.updPort i f).serve = s.serve := rfl
@[simp] theorem State.updPort_cfg (s : State) (i : Nat) (f : PortSt → PortSt) : (s.updPort i f).cfg = s.cfg := rfl
@[simp] theorem State.updPort_evt (s : State) (i : Nat) (f : PortSt → PortSt) : (s.updPort i f).evt = s.evt := rfl
@[simp] theorem State.updPort_mbx (s : State) (i : Nat) (f : PortSt → PortSt) : (s.updPort i f).mbx = s.mbx := rfl
@[simp] theorem State.updPort_bus (s : State) (i : Nat) (f : PortSt → PortSt) : (s.updPort i f).bus = s.bus := rfl
@[simp] theorem State.updPort_cals (s : State) (i : Nat) (f : PortSt → PortSt) : (s.updPort i f).cals = s.cals := rfl
@[simp] theorem State.updPort_rwl (s : State) (i : Nat) (f : PortSt → PortSt) : (s.updPort i f).rwl = s.rwl := rfl
@[simp] theorem State.updPort_cls (s : State) (i : Nat) (f : PortSt → PortSt) : (s.updPort i f).cls = s.cls := rfl
@[simp] theorem State.updPort_clus (s : State) (i : Nat) (f : PortSt → PortSt) : (s.updPort i f).clus = s.clus := rfl
@[simp] theorem State.updPort_clt (s : State) (i : Nat) (f : PortSt → PortSt) : (s.updPort i f).clt = s.clt := rfl
@[simp] theorem State.updPort_srv (s : State) (i : Nat) (f : PortSt → PortSt) : (s.updPort i f).srv = s.srv := rfl
@[simp] theorem State.updPort_rt (s : State) (i : Nat) (f : PortSt → PortSt) : (s.updPort i f).rt = s.rt := rfl
@[simp] theorem State.updPort_ptp (s : State) (i : Nat) (f : PortSt → PortSt) : (s.updPort i f).ptp = s.ptp := rfl
@[simp] theorem State.updPort_pke (s : State) (i : Nat) (f : PortSt → PortSt) : (s.updPort i f).pke = s.pke := rfl
@[simp] theorem State.updPort_ref (s : State) (i : Nat) (f : PortSt → PortSt) : (s.updPort i f).ref = s.ref := rfl
@[simp] theorem State.updPort_clk (s : State) (i : Nat) (f : PortSt → PortSt) : (s.updPort i f).clk = s.clk := rfl
@[simp] theorem State.updPort_gns (s : State) (i : Nat) (f : PortSt → PortSt) : (s.updPort i f).gns = s.gns := rfl
@[simp] theorem State.updPort_tim (s : State) (i : Nat) (f : PortSt → PortSt) : (s.updPort i f).tim = s.tim := rfl
@[simp] theorem State.updPort_evl (s : State) (i : Nat) (f : PortSt → PortSt) : (s.updPort i f).evl = s.evl := rfl
@[simp] theorem State.updPort_draws (s : State) (i : Nat) (f : PortSt → PortSt) : (s.updPort i f).draws = s.draws := rfl
@[simp] theorem State.updPort_frees (s : State) (i : Nat) (f : PortSt → PortSt) : (s.updPort i f).frees = s.frees := rfl
@[simp] theorem State.updPort_outbox (s : State) (i : Nat) (f : PortSt → PortSt) : (s.updPort i f).outbox = s.outbox := rfl
@[simp] theorem State.updPort_pending (s : State) (i : Nat) (f : PortSt → PortSt) : (s.updPort i f).pending = s.pending := rfl

@[simp] theorem State.port_updPort_same (s : State) (i : Nat) (f : PortSt → PortSt) : (s.updPort i f).port i = f (s.port i) :=
  tget_tupd_same ..

theorem State.port_updPort_ne (s : State) {i j : Nat} (f : PortSt → PortSt) (h : j ≠ i) : (s.updPort i f).port j = s.port j :=
  tget_tupd_ne _ _ _ h

@[simp] theorem State.cal_updPort (s : State) (i j : Nat) (f : PortSt → PortSt) : (s.updPort i f).cal j = s.cal j := rfl
@[simp] theorem State.clu_updPort (s : State) (i j : Nat) (f : PortSt → PortSt) : (s.updPort i f).clu j = s.clu j := rfl
@[simp] theorem State.ptpPort_updPort (s : State) (i j : Nat) (f : PortSt → PortSt) : (s.updPort i f).ptpPort j = s.ptpPort j := rfl
@[simp] theorem State.grant_updPort (s : State) (i j : Nat) (f : PortSt → PortSt) : (s.updPort i f).grant j = s.grant j := rfl
@[simp] theorem State.client_updPort (s : State) (i j : Nat) (f : PortSt → PortSt) : (s.updPort i f).client j = s.client j := rfl
@[simp] theorem State.symKey_updPort (s : State) (i j : Nat) (f : PortSt → PortSt) : (s.updPort i f).symKey j = s.symKey j := rfl
@[simp] theorem State.annexKey_updPort (s : State) (i j : Nat) (f : PortSt → PortSt) : (s.updPort i f).annexKey j = s.annexKey j := rfl
@[simp] theorem State.openCarafe_updPort (s : State) (i j : Nat) (f : PortSt → PortSt) : (s.updPort i f).openCarafe j = s.openCarafe j := rfl
@[simp] theorem State.eng_updPort (s : State) (i j : Nat) (f : PortSt → PortSt) : (s.updPort i f).eng j = s.eng j := rfl
@[simp] theorem State.kslot_updPort (s : State) (i j : Nat) (f : PortSt → PortSt) : (s.updPort i f).kslot j = s.kslot j := rfl
@[simp] theorem State.mon_updPort (s : State) (i j : Nat) (f : PortSt → PortSt) : (s.updPort i f).mon j = s.mon j := rfl
@[simp] theorem State.dpllx_updPort (s : State) (i j : Nat) (f : PortSt → PortSt) : (s.updPort i f).dpllx j = s.dpllx j := rfl
@[simp] theorem State.pll_updPort (s : State) (i j : Nat) (f : PortSt → PortSt) : (s.updPort i f).pll j = s.pll j := rfl
@[simp] theorem State.chan_updPort (s : State) (i j : Nat) (f : PortSt → PortSt) : (s.updPort i f).chan j = s.chan j := rfl
@[simp] theorem State.timIn_updPort (s : State) (i j : Nat) (f : PortSt → PortSt) : (s.updPort i f).timIn j = s.timIn j := rfl
@[simp] theorem State.timCh_updPort (s : State) (i j : Nat) (f : PortSt → PortSt) : (s.updPort i f).timCh j = s.timCh j := rfl
@[simp] theorem State.lane_updPort (s : State) (i j : Nat) (f : PortSt → PortSt) : (s.updPort i f).lane j = s.lane j := rfl
@[simp] theorem State.slot_updPort (s : State) (i j : Nat) (f : PortSt → PortSt) : (s.updPort i f).slot j = s.slot j := rfl
@[simp] theorem State.core_updPort (s : State) (i j : Nat) (f : PortSt → PortSt) : (s.updPort i f).core j = s.core j := rfl
@[simp] theorem State.chEnd_updPort (s : State) (i j : Nat) (f : PortSt → PortSt) : (s.updPort i f).chEnd j = s.chEnd j := rfl
@[simp] theorem State.sem_updPort (s : State) (i j : Nat) (f : PortSt → PortSt) : (s.updPort i f).sem j = s.sem j := rfl
@[simp] theorem State.fwChan_updPort (s : State) (i j : Nat) (f : PortSt → PortSt) : (s.updPort i f).fwChan j = s.fwChan j := rfl
@[simp] theorem State.agg_updPort (s : State) (i j : Nat) (f : PortSt → PortSt) : (s.updPort i f).agg j = s.agg j := rfl
@[simp] theorem State.cltEntry_updPort (s : State) (i j : Nat) (f : PortSt → PortSt) : (s.updPort i f).cltEntry j = s.cltEntry j := rfl
@[simp] theorem State.rd_updPort (s : State) (i a : Nat) (f : PortSt → PortSt) : (s.updPort i f).rd a = s.rd a := rfl
@[simp] theorem State.ac_updPort (s : State) (i a : Nat) (f : PortSt → PortSt) : (s.updPort i f).ac a = s.ac a := rfl
@[simp] theorem State.sh_updPort (s : State) (i a : Nat) (f : PortSt → PortSt) : (s.updPort i f).sh a = s.sh a := rfl

/-! ### `State.updCal` -/

@[simp] theorem State.updCal_live (s : State) (i : Nat) (f : CalSt → CalSt) : (s.updCal i f).live = s.live := rfl
@[simp] theorem State.updCal_shadow (s : State) (i : Nat) (f : CalSt → CalSt) : (s.updCal i f).shadow = s.shadow := rfl
@[simp] theorem State.updCal_active (s : State) (i : Nat) (f : CalSt → CalSt) : (s.updCal i f).active = s.active := rfl
@[simp] theorem State.updCal_time (s : State) (i : Nat) (f : CalSt → CalSt) : (s.updCal i f).time = s.time := rfl
@[simp] theorem State.updCal_vbat (s : State) (i : Nat) (f : CalSt → CalSt) : (s.updCal i f).vbat = s.vbat := rfl
@[simp] theorem State.updCal_otp (s : State) (i : Nat) (f : CalSt → CalSt) : (s.updCal i f).otp = s.otp := rfl
@[simp] theorem State.updCal_boot (s : State) (i : Nat) (f : CalSt → CalSt) : (s.updCal i f).boot = s.boot := rfl
@[simp] theorem State.updCal_serve (s : State) (i : Nat) (f : CalSt → CalSt) : (s.updCal i f).serve = s.serve := rfl
@[simp] theorem State.updCal_cfg (s : State) (i : Nat) (f : CalSt → CalSt) : (s.updCal i f).cfg = s.cfg := rfl
@[simp] theorem State.updCal_evt (s : State) (i : Nat) (f : CalSt → CalSt) : (s.updCal i f).evt = s.evt := rfl
@[simp] theorem State.updCal_mbx (s : State) (i : Nat) (f : CalSt → CalSt) : (s.updCal i f).mbx = s.mbx := rfl
@[simp] theorem State.updCal_bus (s : State) (i : Nat) (f : CalSt → CalSt) : (s.updCal i f).bus = s.bus := rfl
@[simp] theorem State.updCal_ports (s : State) (i : Nat) (f : CalSt → CalSt) : (s.updCal i f).ports = s.ports := rfl
@[simp] theorem State.updCal_rwl (s : State) (i : Nat) (f : CalSt → CalSt) : (s.updCal i f).rwl = s.rwl := rfl
@[simp] theorem State.updCal_cls (s : State) (i : Nat) (f : CalSt → CalSt) : (s.updCal i f).cls = s.cls := rfl
@[simp] theorem State.updCal_clus (s : State) (i : Nat) (f : CalSt → CalSt) : (s.updCal i f).clus = s.clus := rfl
@[simp] theorem State.updCal_clt (s : State) (i : Nat) (f : CalSt → CalSt) : (s.updCal i f).clt = s.clt := rfl
@[simp] theorem State.updCal_srv (s : State) (i : Nat) (f : CalSt → CalSt) : (s.updCal i f).srv = s.srv := rfl
@[simp] theorem State.updCal_rt (s : State) (i : Nat) (f : CalSt → CalSt) : (s.updCal i f).rt = s.rt := rfl
@[simp] theorem State.updCal_ptp (s : State) (i : Nat) (f : CalSt → CalSt) : (s.updCal i f).ptp = s.ptp := rfl
@[simp] theorem State.updCal_pke (s : State) (i : Nat) (f : CalSt → CalSt) : (s.updCal i f).pke = s.pke := rfl
@[simp] theorem State.updCal_ref (s : State) (i : Nat) (f : CalSt → CalSt) : (s.updCal i f).ref = s.ref := rfl
@[simp] theorem State.updCal_clk (s : State) (i : Nat) (f : CalSt → CalSt) : (s.updCal i f).clk = s.clk := rfl
@[simp] theorem State.updCal_gns (s : State) (i : Nat) (f : CalSt → CalSt) : (s.updCal i f).gns = s.gns := rfl
@[simp] theorem State.updCal_tim (s : State) (i : Nat) (f : CalSt → CalSt) : (s.updCal i f).tim = s.tim := rfl
@[simp] theorem State.updCal_evl (s : State) (i : Nat) (f : CalSt → CalSt) : (s.updCal i f).evl = s.evl := rfl
@[simp] theorem State.updCal_draws (s : State) (i : Nat) (f : CalSt → CalSt) : (s.updCal i f).draws = s.draws := rfl
@[simp] theorem State.updCal_frees (s : State) (i : Nat) (f : CalSt → CalSt) : (s.updCal i f).frees = s.frees := rfl
@[simp] theorem State.updCal_outbox (s : State) (i : Nat) (f : CalSt → CalSt) : (s.updCal i f).outbox = s.outbox := rfl
@[simp] theorem State.updCal_pending (s : State) (i : Nat) (f : CalSt → CalSt) : (s.updCal i f).pending = s.pending := rfl

@[simp] theorem State.cal_updCal_same (s : State) (i : Nat) (f : CalSt → CalSt) : (s.updCal i f).cal i = f (s.cal i) :=
  tget_tupd_same ..

theorem State.cal_updCal_ne (s : State) {i j : Nat} (f : CalSt → CalSt) (h : j ≠ i) : (s.updCal i f).cal j = s.cal j :=
  tget_tupd_ne _ _ _ h

@[simp] theorem State.port_updCal (s : State) (i j : Nat) (f : CalSt → CalSt) : (s.updCal i f).port j = s.port j := rfl
@[simp] theorem State.clu_updCal (s : State) (i j : Nat) (f : CalSt → CalSt) : (s.updCal i f).clu j = s.clu j := rfl
@[simp] theorem State.ptpPort_updCal (s : State) (i j : Nat) (f : CalSt → CalSt) : (s.updCal i f).ptpPort j = s.ptpPort j := rfl
@[simp] theorem State.grant_updCal (s : State) (i j : Nat) (f : CalSt → CalSt) : (s.updCal i f).grant j = s.grant j := rfl
@[simp] theorem State.client_updCal (s : State) (i j : Nat) (f : CalSt → CalSt) : (s.updCal i f).client j = s.client j := rfl
@[simp] theorem State.symKey_updCal (s : State) (i j : Nat) (f : CalSt → CalSt) : (s.updCal i f).symKey j = s.symKey j := rfl
@[simp] theorem State.annexKey_updCal (s : State) (i j : Nat) (f : CalSt → CalSt) : (s.updCal i f).annexKey j = s.annexKey j := rfl
@[simp] theorem State.openCarafe_updCal (s : State) (i j : Nat) (f : CalSt → CalSt) : (s.updCal i f).openCarafe j = s.openCarafe j := rfl
@[simp] theorem State.eng_updCal (s : State) (i j : Nat) (f : CalSt → CalSt) : (s.updCal i f).eng j = s.eng j := rfl
@[simp] theorem State.kslot_updCal (s : State) (i j : Nat) (f : CalSt → CalSt) : (s.updCal i f).kslot j = s.kslot j := rfl
@[simp] theorem State.mon_updCal (s : State) (i j : Nat) (f : CalSt → CalSt) : (s.updCal i f).mon j = s.mon j := rfl
@[simp] theorem State.dpllx_updCal (s : State) (i j : Nat) (f : CalSt → CalSt) : (s.updCal i f).dpllx j = s.dpllx j := rfl
@[simp] theorem State.pll_updCal (s : State) (i j : Nat) (f : CalSt → CalSt) : (s.updCal i f).pll j = s.pll j := rfl
@[simp] theorem State.chan_updCal (s : State) (i j : Nat) (f : CalSt → CalSt) : (s.updCal i f).chan j = s.chan j := rfl
@[simp] theorem State.timIn_updCal (s : State) (i j : Nat) (f : CalSt → CalSt) : (s.updCal i f).timIn j = s.timIn j := rfl
@[simp] theorem State.timCh_updCal (s : State) (i j : Nat) (f : CalSt → CalSt) : (s.updCal i f).timCh j = s.timCh j := rfl
@[simp] theorem State.lane_updCal (s : State) (i j : Nat) (f : CalSt → CalSt) : (s.updCal i f).lane j = s.lane j := rfl
@[simp] theorem State.slot_updCal (s : State) (i j : Nat) (f : CalSt → CalSt) : (s.updCal i f).slot j = s.slot j := rfl
@[simp] theorem State.core_updCal (s : State) (i j : Nat) (f : CalSt → CalSt) : (s.updCal i f).core j = s.core j := rfl
@[simp] theorem State.chEnd_updCal (s : State) (i j : Nat) (f : CalSt → CalSt) : (s.updCal i f).chEnd j = s.chEnd j := rfl
@[simp] theorem State.sem_updCal (s : State) (i j : Nat) (f : CalSt → CalSt) : (s.updCal i f).sem j = s.sem j := rfl
@[simp] theorem State.fwChan_updCal (s : State) (i j : Nat) (f : CalSt → CalSt) : (s.updCal i f).fwChan j = s.fwChan j := rfl
@[simp] theorem State.agg_updCal (s : State) (i j : Nat) (f : CalSt → CalSt) : (s.updCal i f).agg j = s.agg j := rfl
@[simp] theorem State.cltEntry_updCal (s : State) (i j : Nat) (f : CalSt → CalSt) : (s.updCal i f).cltEntry j = s.cltEntry j := rfl
@[simp] theorem State.rd_updCal (s : State) (i a : Nat) (f : CalSt → CalSt) : (s.updCal i f).rd a = s.rd a := rfl
@[simp] theorem State.ac_updCal (s : State) (i a : Nat) (f : CalSt → CalSt) : (s.updCal i f).ac a = s.ac a := rfl
@[simp] theorem State.sh_updCal (s : State) (i a : Nat) (f : CalSt → CalSt) : (s.updCal i f).sh a = s.sh a := rfl

/-! ### `State.updClu` -/

@[simp] theorem State.updClu_live (s : State) (i : Nat) (f : ClusterSt → ClusterSt) : (s.updClu i f).live = s.live := rfl
@[simp] theorem State.updClu_shadow (s : State) (i : Nat) (f : ClusterSt → ClusterSt) : (s.updClu i f).shadow = s.shadow := rfl
@[simp] theorem State.updClu_active (s : State) (i : Nat) (f : ClusterSt → ClusterSt) : (s.updClu i f).active = s.active := rfl
@[simp] theorem State.updClu_time (s : State) (i : Nat) (f : ClusterSt → ClusterSt) : (s.updClu i f).time = s.time := rfl
@[simp] theorem State.updClu_vbat (s : State) (i : Nat) (f : ClusterSt → ClusterSt) : (s.updClu i f).vbat = s.vbat := rfl
@[simp] theorem State.updClu_otp (s : State) (i : Nat) (f : ClusterSt → ClusterSt) : (s.updClu i f).otp = s.otp := rfl
@[simp] theorem State.updClu_boot (s : State) (i : Nat) (f : ClusterSt → ClusterSt) : (s.updClu i f).boot = s.boot := rfl
@[simp] theorem State.updClu_serve (s : State) (i : Nat) (f : ClusterSt → ClusterSt) : (s.updClu i f).serve = s.serve := rfl
@[simp] theorem State.updClu_cfg (s : State) (i : Nat) (f : ClusterSt → ClusterSt) : (s.updClu i f).cfg = s.cfg := rfl
@[simp] theorem State.updClu_evt (s : State) (i : Nat) (f : ClusterSt → ClusterSt) : (s.updClu i f).evt = s.evt := rfl
@[simp] theorem State.updClu_mbx (s : State) (i : Nat) (f : ClusterSt → ClusterSt) : (s.updClu i f).mbx = s.mbx := rfl
@[simp] theorem State.updClu_bus (s : State) (i : Nat) (f : ClusterSt → ClusterSt) : (s.updClu i f).bus = s.bus := rfl
@[simp] theorem State.updClu_ports (s : State) (i : Nat) (f : ClusterSt → ClusterSt) : (s.updClu i f).ports = s.ports := rfl
@[simp] theorem State.updClu_cals (s : State) (i : Nat) (f : ClusterSt → ClusterSt) : (s.updClu i f).cals = s.cals := rfl
@[simp] theorem State.updClu_rwl (s : State) (i : Nat) (f : ClusterSt → ClusterSt) : (s.updClu i f).rwl = s.rwl := rfl
@[simp] theorem State.updClu_cls (s : State) (i : Nat) (f : ClusterSt → ClusterSt) : (s.updClu i f).cls = s.cls := rfl
@[simp] theorem State.updClu_clt (s : State) (i : Nat) (f : ClusterSt → ClusterSt) : (s.updClu i f).clt = s.clt := rfl
@[simp] theorem State.updClu_srv (s : State) (i : Nat) (f : ClusterSt → ClusterSt) : (s.updClu i f).srv = s.srv := rfl
@[simp] theorem State.updClu_rt (s : State) (i : Nat) (f : ClusterSt → ClusterSt) : (s.updClu i f).rt = s.rt := rfl
@[simp] theorem State.updClu_ptp (s : State) (i : Nat) (f : ClusterSt → ClusterSt) : (s.updClu i f).ptp = s.ptp := rfl
@[simp] theorem State.updClu_pke (s : State) (i : Nat) (f : ClusterSt → ClusterSt) : (s.updClu i f).pke = s.pke := rfl
@[simp] theorem State.updClu_ref (s : State) (i : Nat) (f : ClusterSt → ClusterSt) : (s.updClu i f).ref = s.ref := rfl
@[simp] theorem State.updClu_clk (s : State) (i : Nat) (f : ClusterSt → ClusterSt) : (s.updClu i f).clk = s.clk := rfl
@[simp] theorem State.updClu_gns (s : State) (i : Nat) (f : ClusterSt → ClusterSt) : (s.updClu i f).gns = s.gns := rfl
@[simp] theorem State.updClu_tim (s : State) (i : Nat) (f : ClusterSt → ClusterSt) : (s.updClu i f).tim = s.tim := rfl
@[simp] theorem State.updClu_evl (s : State) (i : Nat) (f : ClusterSt → ClusterSt) : (s.updClu i f).evl = s.evl := rfl
@[simp] theorem State.updClu_draws (s : State) (i : Nat) (f : ClusterSt → ClusterSt) : (s.updClu i f).draws = s.draws := rfl
@[simp] theorem State.updClu_frees (s : State) (i : Nat) (f : ClusterSt → ClusterSt) : (s.updClu i f).frees = s.frees := rfl
@[simp] theorem State.updClu_outbox (s : State) (i : Nat) (f : ClusterSt → ClusterSt) : (s.updClu i f).outbox = s.outbox := rfl
@[simp] theorem State.updClu_pending (s : State) (i : Nat) (f : ClusterSt → ClusterSt) : (s.updClu i f).pending = s.pending := rfl

@[simp] theorem State.clu_updClu_same (s : State) (i : Nat) (f : ClusterSt → ClusterSt) : (s.updClu i f).clu i = f (s.clu i) :=
  tget_tupd_same ..

theorem State.clu_updClu_ne (s : State) {i j : Nat} (f : ClusterSt → ClusterSt) (h : j ≠ i) : (s.updClu i f).clu j = s.clu j :=
  tget_tupd_ne _ _ _ h

@[simp] theorem State.port_updClu (s : State) (i j : Nat) (f : ClusterSt → ClusterSt) : (s.updClu i f).port j = s.port j := rfl
@[simp] theorem State.cal_updClu (s : State) (i j : Nat) (f : ClusterSt → ClusterSt) : (s.updClu i f).cal j = s.cal j := rfl
@[simp] theorem State.ptpPort_updClu (s : State) (i j : Nat) (f : ClusterSt → ClusterSt) : (s.updClu i f).ptpPort j = s.ptpPort j := rfl
@[simp] theorem State.grant_updClu (s : State) (i j : Nat) (f : ClusterSt → ClusterSt) : (s.updClu i f).grant j = s.grant j := rfl
@[simp] theorem State.client_updClu (s : State) (i j : Nat) (f : ClusterSt → ClusterSt) : (s.updClu i f).client j = s.client j := rfl
@[simp] theorem State.symKey_updClu (s : State) (i j : Nat) (f : ClusterSt → ClusterSt) : (s.updClu i f).symKey j = s.symKey j := rfl
@[simp] theorem State.annexKey_updClu (s : State) (i j : Nat) (f : ClusterSt → ClusterSt) : (s.updClu i f).annexKey j = s.annexKey j := rfl
@[simp] theorem State.openCarafe_updClu (s : State) (i j : Nat) (f : ClusterSt → ClusterSt) : (s.updClu i f).openCarafe j = s.openCarafe j := rfl
@[simp] theorem State.eng_updClu (s : State) (i j : Nat) (f : ClusterSt → ClusterSt) : (s.updClu i f).eng j = s.eng j := rfl
@[simp] theorem State.kslot_updClu (s : State) (i j : Nat) (f : ClusterSt → ClusterSt) : (s.updClu i f).kslot j = s.kslot j := rfl
@[simp] theorem State.mon_updClu (s : State) (i j : Nat) (f : ClusterSt → ClusterSt) : (s.updClu i f).mon j = s.mon j := rfl
@[simp] theorem State.dpllx_updClu (s : State) (i j : Nat) (f : ClusterSt → ClusterSt) : (s.updClu i f).dpllx j = s.dpllx j := rfl
@[simp] theorem State.pll_updClu (s : State) (i j : Nat) (f : ClusterSt → ClusterSt) : (s.updClu i f).pll j = s.pll j := rfl
@[simp] theorem State.chan_updClu (s : State) (i j : Nat) (f : ClusterSt → ClusterSt) : (s.updClu i f).chan j = s.chan j := rfl
@[simp] theorem State.timIn_updClu (s : State) (i j : Nat) (f : ClusterSt → ClusterSt) : (s.updClu i f).timIn j = s.timIn j := rfl
@[simp] theorem State.timCh_updClu (s : State) (i j : Nat) (f : ClusterSt → ClusterSt) : (s.updClu i f).timCh j = s.timCh j := rfl
@[simp] theorem State.lane_updClu (s : State) (i j : Nat) (f : ClusterSt → ClusterSt) : (s.updClu i f).lane j = s.lane j := rfl
@[simp] theorem State.slot_updClu (s : State) (i j : Nat) (f : ClusterSt → ClusterSt) : (s.updClu i f).slot j = s.slot j := rfl
@[simp] theorem State.core_updClu (s : State) (i j : Nat) (f : ClusterSt → ClusterSt) : (s.updClu i f).core j = s.core j := rfl
@[simp] theorem State.chEnd_updClu (s : State) (i j : Nat) (f : ClusterSt → ClusterSt) : (s.updClu i f).chEnd j = s.chEnd j := rfl
@[simp] theorem State.sem_updClu (s : State) (i j : Nat) (f : ClusterSt → ClusterSt) : (s.updClu i f).sem j = s.sem j := rfl
@[simp] theorem State.fwChan_updClu (s : State) (i j : Nat) (f : ClusterSt → ClusterSt) : (s.updClu i f).fwChan j = s.fwChan j := rfl
@[simp] theorem State.agg_updClu (s : State) (i j : Nat) (f : ClusterSt → ClusterSt) : (s.updClu i f).agg j = s.agg j := rfl
@[simp] theorem State.cltEntry_updClu (s : State) (i j : Nat) (f : ClusterSt → ClusterSt) : (s.updClu i f).cltEntry j = s.cltEntry j := rfl
@[simp] theorem State.rd_updClu (s : State) (i a : Nat) (f : ClusterSt → ClusterSt) : (s.updClu i f).rd a = s.rd a := rfl
@[simp] theorem State.ac_updClu (s : State) (i a : Nat) (f : ClusterSt → ClusterSt) : (s.updClu i f).ac a = s.ac a := rfl
@[simp] theorem State.sh_updClu (s : State) (i a : Nat) (f : ClusterSt → ClusterSt) : (s.updClu i f).sh a = s.sh a := rfl

/-! ### `State.updPtpPort` -/

@[simp] theorem State.updPtpPort_live (s : State) (i : Nat) (f : PtpPort → PtpPort) : (s.updPtpPort i f).live = s.live := rfl
@[simp] theorem State.updPtpPort_shadow (s : State) (i : Nat) (f : PtpPort → PtpPort) : (s.updPtpPort i f).shadow = s.shadow := rfl
@[simp] theorem State.updPtpPort_active (s : State) (i : Nat) (f : PtpPort → PtpPort) : (s.updPtpPort i f).active = s.active := rfl
@[simp] theorem State.updPtpPort_time (s : State) (i : Nat) (f : PtpPort → PtpPort) : (s.updPtpPort i f).time = s.time := rfl
@[simp] theorem State.updPtpPort_vbat (s : State) (i : Nat) (f : PtpPort → PtpPort) : (s.updPtpPort i f).vbat = s.vbat := rfl
@[simp] theorem State.updPtpPort_otp (s : State) (i : Nat) (f : PtpPort → PtpPort) : (s.updPtpPort i f).otp = s.otp := rfl
@[simp] theorem State.updPtpPort_boot (s : State) (i : Nat) (f : PtpPort → PtpPort) : (s.updPtpPort i f).boot = s.boot := rfl
@[simp] theorem State.updPtpPort_serve (s : State) (i : Nat) (f : PtpPort → PtpPort) : (s.updPtpPort i f).serve = s.serve := rfl
@[simp] theorem State.updPtpPort_cfg (s : State) (i : Nat) (f : PtpPort → PtpPort) : (s.updPtpPort i f).cfg = s.cfg := rfl
@[simp] theorem State.updPtpPort_evt (s : State) (i : Nat) (f : PtpPort → PtpPort) : (s.updPtpPort i f).evt = s.evt := rfl
@[simp] theorem State.updPtpPort_mbx (s : State) (i : Nat) (f : PtpPort → PtpPort) : (s.updPtpPort i f).mbx = s.mbx := rfl
@[simp] theorem State.updPtpPort_bus (s : State) (i : Nat) (f : PtpPort → PtpPort) : (s.updPtpPort i f).bus = s.bus := rfl
@[simp] theorem State.updPtpPort_ports (s : State) (i : Nat) (f : PtpPort → PtpPort) : (s.updPtpPort i f).ports = s.ports := rfl
@[simp] theorem State.updPtpPort_cals (s : State) (i : Nat) (f : PtpPort → PtpPort) : (s.updPtpPort i f).cals = s.cals := rfl
@[simp] theorem State.updPtpPort_rwl (s : State) (i : Nat) (f : PtpPort → PtpPort) : (s.updPtpPort i f).rwl = s.rwl := rfl
@[simp] theorem State.updPtpPort_cls (s : State) (i : Nat) (f : PtpPort → PtpPort) : (s.updPtpPort i f).cls = s.cls := rfl
@[simp] theorem State.updPtpPort_clus (s : State) (i : Nat) (f : PtpPort → PtpPort) : (s.updPtpPort i f).clus = s.clus := rfl
@[simp] theorem State.updPtpPort_clt (s : State) (i : Nat) (f : PtpPort → PtpPort) : (s.updPtpPort i f).clt = s.clt := rfl
@[simp] theorem State.updPtpPort_srv (s : State) (i : Nat) (f : PtpPort → PtpPort) : (s.updPtpPort i f).srv = s.srv := rfl
@[simp] theorem State.updPtpPort_rt (s : State) (i : Nat) (f : PtpPort → PtpPort) : (s.updPtpPort i f).rt = s.rt := rfl
@[simp] theorem State.updPtpPort_pke (s : State) (i : Nat) (f : PtpPort → PtpPort) : (s.updPtpPort i f).pke = s.pke := rfl
@[simp] theorem State.updPtpPort_ref (s : State) (i : Nat) (f : PtpPort → PtpPort) : (s.updPtpPort i f).ref = s.ref := rfl
@[simp] theorem State.updPtpPort_clk (s : State) (i : Nat) (f : PtpPort → PtpPort) : (s.updPtpPort i f).clk = s.clk := rfl
@[simp] theorem State.updPtpPort_gns (s : State) (i : Nat) (f : PtpPort → PtpPort) : (s.updPtpPort i f).gns = s.gns := rfl
@[simp] theorem State.updPtpPort_tim (s : State) (i : Nat) (f : PtpPort → PtpPort) : (s.updPtpPort i f).tim = s.tim := rfl
@[simp] theorem State.updPtpPort_evl (s : State) (i : Nat) (f : PtpPort → PtpPort) : (s.updPtpPort i f).evl = s.evl := rfl
@[simp] theorem State.updPtpPort_draws (s : State) (i : Nat) (f : PtpPort → PtpPort) : (s.updPtpPort i f).draws = s.draws := rfl
@[simp] theorem State.updPtpPort_frees (s : State) (i : Nat) (f : PtpPort → PtpPort) : (s.updPtpPort i f).frees = s.frees := rfl
@[simp] theorem State.updPtpPort_outbox (s : State) (i : Nat) (f : PtpPort → PtpPort) : (s.updPtpPort i f).outbox = s.outbox := rfl
@[simp] theorem State.updPtpPort_pending (s : State) (i : Nat) (f : PtpPort → PtpPort) : (s.updPtpPort i f).pending = s.pending := rfl

@[simp] theorem State.ptpPort_updPtpPort_same (s : State) (i : Nat) (f : PtpPort → PtpPort) : (s.updPtpPort i f).ptpPort i = f (s.ptpPort i) :=
  tget_tupd_same ..

theorem State.ptpPort_updPtpPort_ne (s : State) {i j : Nat} (f : PtpPort → PtpPort) (h : j ≠ i) : (s.updPtpPort i f).ptpPort j = s.ptpPort j :=
  tget_tupd_ne _ _ _ h

@[simp] theorem State.port_updPtpPort (s : State) (i j : Nat) (f : PtpPort → PtpPort) : (s.updPtpPort i f).port j = s.port j := rfl
@[simp] theorem State.cal_updPtpPort (s : State) (i j : Nat) (f : PtpPort → PtpPort) : (s.updPtpPort i f).cal j = s.cal j := rfl
@[simp] theorem State.clu_updPtpPort (s : State) (i j : Nat) (f : PtpPort → PtpPort) : (s.updPtpPort i f).clu j = s.clu j := rfl
@[simp] theorem State.grant_updPtpPort (s : State) (i j : Nat) (f : PtpPort → PtpPort) : (s.updPtpPort i f).grant j = s.grant j := rfl
@[simp] theorem State.client_updPtpPort (s : State) (i j : Nat) (f : PtpPort → PtpPort) : (s.updPtpPort i f).client j = s.client j := rfl
@[simp] theorem State.symKey_updPtpPort (s : State) (i j : Nat) (f : PtpPort → PtpPort) : (s.updPtpPort i f).symKey j = s.symKey j := rfl
@[simp] theorem State.annexKey_updPtpPort (s : State) (i j : Nat) (f : PtpPort → PtpPort) : (s.updPtpPort i f).annexKey j = s.annexKey j := rfl
@[simp] theorem State.openCarafe_updPtpPort (s : State) (i j : Nat) (f : PtpPort → PtpPort) : (s.updPtpPort i f).openCarafe j = s.openCarafe j := rfl
@[simp] theorem State.eng_updPtpPort (s : State) (i j : Nat) (f : PtpPort → PtpPort) : (s.updPtpPort i f).eng j = s.eng j := rfl
@[simp] theorem State.kslot_updPtpPort (s : State) (i j : Nat) (f : PtpPort → PtpPort) : (s.updPtpPort i f).kslot j = s.kslot j := rfl
@[simp] theorem State.mon_updPtpPort (s : State) (i j : Nat) (f : PtpPort → PtpPort) : (s.updPtpPort i f).mon j = s.mon j := rfl
@[simp] theorem State.dpllx_updPtpPort (s : State) (i j : Nat) (f : PtpPort → PtpPort) : (s.updPtpPort i f).dpllx j = s.dpllx j := rfl
@[simp] theorem State.pll_updPtpPort (s : State) (i j : Nat) (f : PtpPort → PtpPort) : (s.updPtpPort i f).pll j = s.pll j := rfl
@[simp] theorem State.chan_updPtpPort (s : State) (i j : Nat) (f : PtpPort → PtpPort) : (s.updPtpPort i f).chan j = s.chan j := rfl
@[simp] theorem State.timIn_updPtpPort (s : State) (i j : Nat) (f : PtpPort → PtpPort) : (s.updPtpPort i f).timIn j = s.timIn j := rfl
@[simp] theorem State.timCh_updPtpPort (s : State) (i j : Nat) (f : PtpPort → PtpPort) : (s.updPtpPort i f).timCh j = s.timCh j := rfl
@[simp] theorem State.lane_updPtpPort (s : State) (i j : Nat) (f : PtpPort → PtpPort) : (s.updPtpPort i f).lane j = s.lane j := rfl
@[simp] theorem State.slot_updPtpPort (s : State) (i j : Nat) (f : PtpPort → PtpPort) : (s.updPtpPort i f).slot j = s.slot j := rfl
@[simp] theorem State.core_updPtpPort (s : State) (i j : Nat) (f : PtpPort → PtpPort) : (s.updPtpPort i f).core j = s.core j := rfl
@[simp] theorem State.chEnd_updPtpPort (s : State) (i j : Nat) (f : PtpPort → PtpPort) : (s.updPtpPort i f).chEnd j = s.chEnd j := rfl
@[simp] theorem State.sem_updPtpPort (s : State) (i j : Nat) (f : PtpPort → PtpPort) : (s.updPtpPort i f).sem j = s.sem j := rfl
@[simp] theorem State.fwChan_updPtpPort (s : State) (i j : Nat) (f : PtpPort → PtpPort) : (s.updPtpPort i f).fwChan j = s.fwChan j := rfl
@[simp] theorem State.agg_updPtpPort (s : State) (i j : Nat) (f : PtpPort → PtpPort) : (s.updPtpPort i f).agg j = s.agg j := rfl
@[simp] theorem State.cltEntry_updPtpPort (s : State) (i j : Nat) (f : PtpPort → PtpPort) : (s.updPtpPort i f).cltEntry j = s.cltEntry j := rfl
@[simp] theorem State.rd_updPtpPort (s : State) (i a : Nat) (f : PtpPort → PtpPort) : (s.updPtpPort i f).rd a = s.rd a := rfl
@[simp] theorem State.ac_updPtpPort (s : State) (i a : Nat) (f : PtpPort → PtpPort) : (s.updPtpPort i f).ac a = s.ac a := rfl
@[simp] theorem State.sh_updPtpPort (s : State) (i a : Nat) (f : PtpPort → PtpPort) : (s.updPtpPort i f).sh a = s.sh a := rfl

/-! ### `State.updGrant` -/

@[simp] theorem State.updGrant_live (s : State) (i : Nat) (f : GrantEntry → GrantEntry) : (s.updGrant i f).live = s.live := rfl
@[simp] theorem State.updGrant_shadow (s : State) (i : Nat) (f : GrantEntry → GrantEntry) : (s.updGrant i f).shadow = s.shadow := rfl
@[simp] theorem State.updGrant_active (s : State) (i : Nat) (f : GrantEntry → GrantEntry) : (s.updGrant i f).active = s.active := rfl
@[simp] theorem State.updGrant_time (s : State) (i : Nat) (f : GrantEntry → GrantEntry) : (s.updGrant i f).time = s.time := rfl
@[simp] theorem State.updGrant_vbat (s : State) (i : Nat) (f : GrantEntry → GrantEntry) : (s.updGrant i f).vbat = s.vbat := rfl
@[simp] theorem State.updGrant_otp (s : State) (i : Nat) (f : GrantEntry → GrantEntry) : (s.updGrant i f).otp = s.otp := rfl
@[simp] theorem State.updGrant_boot (s : State) (i : Nat) (f : GrantEntry → GrantEntry) : (s.updGrant i f).boot = s.boot := rfl
@[simp] theorem State.updGrant_serve (s : State) (i : Nat) (f : GrantEntry → GrantEntry) : (s.updGrant i f).serve = s.serve := rfl
@[simp] theorem State.updGrant_cfg (s : State) (i : Nat) (f : GrantEntry → GrantEntry) : (s.updGrant i f).cfg = s.cfg := rfl
@[simp] theorem State.updGrant_evt (s : State) (i : Nat) (f : GrantEntry → GrantEntry) : (s.updGrant i f).evt = s.evt := rfl
@[simp] theorem State.updGrant_mbx (s : State) (i : Nat) (f : GrantEntry → GrantEntry) : (s.updGrant i f).mbx = s.mbx := rfl
@[simp] theorem State.updGrant_bus (s : State) (i : Nat) (f : GrantEntry → GrantEntry) : (s.updGrant i f).bus = s.bus := rfl
@[simp] theorem State.updGrant_ports (s : State) (i : Nat) (f : GrantEntry → GrantEntry) : (s.updGrant i f).ports = s.ports := rfl
@[simp] theorem State.updGrant_cals (s : State) (i : Nat) (f : GrantEntry → GrantEntry) : (s.updGrant i f).cals = s.cals := rfl
@[simp] theorem State.updGrant_rwl (s : State) (i : Nat) (f : GrantEntry → GrantEntry) : (s.updGrant i f).rwl = s.rwl := rfl
@[simp] theorem State.updGrant_cls (s : State) (i : Nat) (f : GrantEntry → GrantEntry) : (s.updGrant i f).cls = s.cls := rfl
@[simp] theorem State.updGrant_clus (s : State) (i : Nat) (f : GrantEntry → GrantEntry) : (s.updGrant i f).clus = s.clus := rfl
@[simp] theorem State.updGrant_clt (s : State) (i : Nat) (f : GrantEntry → GrantEntry) : (s.updGrant i f).clt = s.clt := rfl
@[simp] theorem State.updGrant_srv (s : State) (i : Nat) (f : GrantEntry → GrantEntry) : (s.updGrant i f).srv = s.srv := rfl
@[simp] theorem State.updGrant_rt (s : State) (i : Nat) (f : GrantEntry → GrantEntry) : (s.updGrant i f).rt = s.rt := rfl
@[simp] theorem State.updGrant_pke (s : State) (i : Nat) (f : GrantEntry → GrantEntry) : (s.updGrant i f).pke = s.pke := rfl
@[simp] theorem State.updGrant_ref (s : State) (i : Nat) (f : GrantEntry → GrantEntry) : (s.updGrant i f).ref = s.ref := rfl
@[simp] theorem State.updGrant_clk (s : State) (i : Nat) (f : GrantEntry → GrantEntry) : (s.updGrant i f).clk = s.clk := rfl
@[simp] theorem State.updGrant_gns (s : State) (i : Nat) (f : GrantEntry → GrantEntry) : (s.updGrant i f).gns = s.gns := rfl
@[simp] theorem State.updGrant_tim (s : State) (i : Nat) (f : GrantEntry → GrantEntry) : (s.updGrant i f).tim = s.tim := rfl
@[simp] theorem State.updGrant_evl (s : State) (i : Nat) (f : GrantEntry → GrantEntry) : (s.updGrant i f).evl = s.evl := rfl
@[simp] theorem State.updGrant_draws (s : State) (i : Nat) (f : GrantEntry → GrantEntry) : (s.updGrant i f).draws = s.draws := rfl
@[simp] theorem State.updGrant_frees (s : State) (i : Nat) (f : GrantEntry → GrantEntry) : (s.updGrant i f).frees = s.frees := rfl
@[simp] theorem State.updGrant_outbox (s : State) (i : Nat) (f : GrantEntry → GrantEntry) : (s.updGrant i f).outbox = s.outbox := rfl
@[simp] theorem State.updGrant_pending (s : State) (i : Nat) (f : GrantEntry → GrantEntry) : (s.updGrant i f).pending = s.pending := rfl

@[simp] theorem State.grant_updGrant_same (s : State) (i : Nat) (f : GrantEntry → GrantEntry) : (s.updGrant i f).grant i = f (s.grant i) :=
  tget_tupd_same ..

theorem State.grant_updGrant_ne (s : State) {i j : Nat} (f : GrantEntry → GrantEntry) (h : j ≠ i) : (s.updGrant i f).grant j = s.grant j :=
  tget_tupd_ne _ _ _ h

@[simp] theorem State.port_updGrant (s : State) (i j : Nat) (f : GrantEntry → GrantEntry) : (s.updGrant i f).port j = s.port j := rfl
@[simp] theorem State.cal_updGrant (s : State) (i j : Nat) (f : GrantEntry → GrantEntry) : (s.updGrant i f).cal j = s.cal j := rfl
@[simp] theorem State.clu_updGrant (s : State) (i j : Nat) (f : GrantEntry → GrantEntry) : (s.updGrant i f).clu j = s.clu j := rfl
@[simp] theorem State.ptpPort_updGrant (s : State) (i j : Nat) (f : GrantEntry → GrantEntry) : (s.updGrant i f).ptpPort j = s.ptpPort j := rfl
@[simp] theorem State.client_updGrant (s : State) (i j : Nat) (f : GrantEntry → GrantEntry) : (s.updGrant i f).client j = s.client j := rfl
@[simp] theorem State.symKey_updGrant (s : State) (i j : Nat) (f : GrantEntry → GrantEntry) : (s.updGrant i f).symKey j = s.symKey j := rfl
@[simp] theorem State.annexKey_updGrant (s : State) (i j : Nat) (f : GrantEntry → GrantEntry) : (s.updGrant i f).annexKey j = s.annexKey j := rfl
@[simp] theorem State.openCarafe_updGrant (s : State) (i j : Nat) (f : GrantEntry → GrantEntry) : (s.updGrant i f).openCarafe j = s.openCarafe j := rfl
@[simp] theorem State.eng_updGrant (s : State) (i j : Nat) (f : GrantEntry → GrantEntry) : (s.updGrant i f).eng j = s.eng j := rfl
@[simp] theorem State.kslot_updGrant (s : State) (i j : Nat) (f : GrantEntry → GrantEntry) : (s.updGrant i f).kslot j = s.kslot j := rfl
@[simp] theorem State.mon_updGrant (s : State) (i j : Nat) (f : GrantEntry → GrantEntry) : (s.updGrant i f).mon j = s.mon j := rfl
@[simp] theorem State.dpllx_updGrant (s : State) (i j : Nat) (f : GrantEntry → GrantEntry) : (s.updGrant i f).dpllx j = s.dpllx j := rfl
@[simp] theorem State.pll_updGrant (s : State) (i j : Nat) (f : GrantEntry → GrantEntry) : (s.updGrant i f).pll j = s.pll j := rfl
@[simp] theorem State.chan_updGrant (s : State) (i j : Nat) (f : GrantEntry → GrantEntry) : (s.updGrant i f).chan j = s.chan j := rfl
@[simp] theorem State.timIn_updGrant (s : State) (i j : Nat) (f : GrantEntry → GrantEntry) : (s.updGrant i f).timIn j = s.timIn j := rfl
@[simp] theorem State.timCh_updGrant (s : State) (i j : Nat) (f : GrantEntry → GrantEntry) : (s.updGrant i f).timCh j = s.timCh j := rfl
@[simp] theorem State.lane_updGrant (s : State) (i j : Nat) (f : GrantEntry → GrantEntry) : (s.updGrant i f).lane j = s.lane j := rfl
@[simp] theorem State.slot_updGrant (s : State) (i j : Nat) (f : GrantEntry → GrantEntry) : (s.updGrant i f).slot j = s.slot j := rfl
@[simp] theorem State.core_updGrant (s : State) (i j : Nat) (f : GrantEntry → GrantEntry) : (s.updGrant i f).core j = s.core j := rfl
@[simp] theorem State.chEnd_updGrant (s : State) (i j : Nat) (f : GrantEntry → GrantEntry) : (s.updGrant i f).chEnd j = s.chEnd j := rfl
@[simp] theorem State.sem_updGrant (s : State) (i j : Nat) (f : GrantEntry → GrantEntry) : (s.updGrant i f).sem j = s.sem j := rfl
@[simp] theorem State.fwChan_updGrant (s : State) (i j : Nat) (f : GrantEntry → GrantEntry) : (s.updGrant i f).fwChan j = s.fwChan j := rfl
@[simp] theorem State.agg_updGrant (s : State) (i j : Nat) (f : GrantEntry → GrantEntry) : (s.updGrant i f).agg j = s.agg j := rfl
@[simp] theorem State.cltEntry_updGrant (s : State) (i j : Nat) (f : GrantEntry → GrantEntry) : (s.updGrant i f).cltEntry j = s.cltEntry j := rfl
@[simp] theorem State.rd_updGrant (s : State) (i a : Nat) (f : GrantEntry → GrantEntry) : (s.updGrant i f).rd a = s.rd a := rfl
@[simp] theorem State.ac_updGrant (s : State) (i a : Nat) (f : GrantEntry → GrantEntry) : (s.updGrant i f).ac a = s.ac a := rfl
@[simp] theorem State.sh_updGrant (s : State) (i a : Nat) (f : GrantEntry → GrantEntry) : (s.updGrant i f).sh a = s.sh a := rfl

/-! ### `State.updClient` -/

@[simp] theorem State.updClient_live (s : State) (i : Nat) (f : ClientSt → ClientSt) : (s.updClient i f).live = s.live := rfl
@[simp] theorem State.updClient_shadow (s : State) (i : Nat) (f : ClientSt → ClientSt) : (s.updClient i f).shadow = s.shadow := rfl
@[simp] theorem State.updClient_active (s : State) (i : Nat) (f : ClientSt → ClientSt) : (s.updClient i f).active = s.active := rfl
@[simp] theorem State.updClient_time (s : State) (i : Nat) (f : ClientSt → ClientSt) : (s.updClient i f).time = s.time := rfl
@[simp] theorem State.updClient_vbat (s : State) (i : Nat) (f : ClientSt → ClientSt) : (s.updClient i f).vbat = s.vbat := rfl
@[simp] theorem State.updClient_otp (s : State) (i : Nat) (f : ClientSt → ClientSt) : (s.updClient i f).otp = s.otp := rfl
@[simp] theorem State.updClient_boot (s : State) (i : Nat) (f : ClientSt → ClientSt) : (s.updClient i f).boot = s.boot := rfl
@[simp] theorem State.updClient_serve (s : State) (i : Nat) (f : ClientSt → ClientSt) : (s.updClient i f).serve = s.serve := rfl
@[simp] theorem State.updClient_cfg (s : State) (i : Nat) (f : ClientSt → ClientSt) : (s.updClient i f).cfg = s.cfg := rfl
@[simp] theorem State.updClient_evt (s : State) (i : Nat) (f : ClientSt → ClientSt) : (s.updClient i f).evt = s.evt := rfl
@[simp] theorem State.updClient_mbx (s : State) (i : Nat) (f : ClientSt → ClientSt) : (s.updClient i f).mbx = s.mbx := rfl
@[simp] theorem State.updClient_bus (s : State) (i : Nat) (f : ClientSt → ClientSt) : (s.updClient i f).bus = s.bus := rfl
@[simp] theorem State.updClient_ports (s : State) (i : Nat) (f : ClientSt → ClientSt) : (s.updClient i f).ports = s.ports := rfl
@[simp] theorem State.updClient_cals (s : State) (i : Nat) (f : ClientSt → ClientSt) : (s.updClient i f).cals = s.cals := rfl
@[simp] theorem State.updClient_rwl (s : State) (i : Nat) (f : ClientSt → ClientSt) : (s.updClient i f).rwl = s.rwl := rfl
@[simp] theorem State.updClient_cls (s : State) (i : Nat) (f : ClientSt → ClientSt) : (s.updClient i f).cls = s.cls := rfl
@[simp] theorem State.updClient_clus (s : State) (i : Nat) (f : ClientSt → ClientSt) : (s.updClient i f).clus = s.clus := rfl
@[simp] theorem State.updClient_clt (s : State) (i : Nat) (f : ClientSt → ClientSt) : (s.updClient i f).clt = s.clt := rfl
@[simp] theorem State.updClient_srv (s : State) (i : Nat) (f : ClientSt → ClientSt) : (s.updClient i f).srv = s.srv := rfl
@[simp] theorem State.updClient_rt (s : State) (i : Nat) (f : ClientSt → ClientSt) : (s.updClient i f).rt = s.rt := rfl
@[simp] theorem State.updClient_pke (s : State) (i : Nat) (f : ClientSt → ClientSt) : (s.updClient i f).pke = s.pke := rfl
@[simp] theorem State.updClient_ref (s : State) (i : Nat) (f : ClientSt → ClientSt) : (s.updClient i f).ref = s.ref := rfl
@[simp] theorem State.updClient_clk (s : State) (i : Nat) (f : ClientSt → ClientSt) : (s.updClient i f).clk = s.clk := rfl
@[simp] theorem State.updClient_gns (s : State) (i : Nat) (f : ClientSt → ClientSt) : (s.updClient i f).gns = s.gns := rfl
@[simp] theorem State.updClient_tim (s : State) (i : Nat) (f : ClientSt → ClientSt) : (s.updClient i f).tim = s.tim := rfl
@[simp] theorem State.updClient_evl (s : State) (i : Nat) (f : ClientSt → ClientSt) : (s.updClient i f).evl = s.evl := rfl
@[simp] theorem State.updClient_draws (s : State) (i : Nat) (f : ClientSt → ClientSt) : (s.updClient i f).draws = s.draws := rfl
@[simp] theorem State.updClient_frees (s : State) (i : Nat) (f : ClientSt → ClientSt) : (s.updClient i f).frees = s.frees := rfl
@[simp] theorem State.updClient_outbox (s : State) (i : Nat) (f : ClientSt → ClientSt) : (s.updClient i f).outbox = s.outbox := rfl
@[simp] theorem State.updClient_pending (s : State) (i : Nat) (f : ClientSt → ClientSt) : (s.updClient i f).pending = s.pending := rfl

@[simp] theorem State.client_updClient_same (s : State) (i : Nat) (f : ClientSt → ClientSt) : (s.updClient i f).client i = f (s.client i) :=
  tget_tupd_same ..

theorem State.client_updClient_ne (s : State) {i j : Nat} (f : ClientSt → ClientSt) (h : j ≠ i) : (s.updClient i f).client j = s.client j :=
  tget_tupd_ne _ _ _ h

@[simp] theorem State.port_updClient (s : State) (i j : Nat) (f : ClientSt → ClientSt) : (s.updClient i f).port j = s.port j := rfl
@[simp] theorem State.cal_updClient (s : State) (i j : Nat) (f : ClientSt → ClientSt) : (s.updClient i f).cal j = s.cal j := rfl
@[simp] theorem State.clu_updClient (s : State) (i j : Nat) (f : ClientSt → ClientSt) : (s.updClient i f).clu j = s.clu j := rfl
@[simp] theorem State.ptpPort_updClient (s : State) (i j : Nat) (f : ClientSt → ClientSt) : (s.updClient i f).ptpPort j = s.ptpPort j := rfl
@[simp] theorem State.grant_updClient (s : State) (i j : Nat) (f : ClientSt → ClientSt) : (s.updClient i f).grant j = s.grant j := rfl
@[simp] theorem State.symKey_updClient (s : State) (i j : Nat) (f : ClientSt → ClientSt) : (s.updClient i f).symKey j = s.symKey j := rfl
@[simp] theorem State.annexKey_updClient (s : State) (i j : Nat) (f : ClientSt → ClientSt) : (s.updClient i f).annexKey j = s.annexKey j := rfl
@[simp] theorem State.openCarafe_updClient (s : State) (i j : Nat) (f : ClientSt → ClientSt) : (s.updClient i f).openCarafe j = s.openCarafe j := rfl
@[simp] theorem State.eng_updClient (s : State) (i j : Nat) (f : ClientSt → ClientSt) : (s.updClient i f).eng j = s.eng j := rfl
@[simp] theorem State.kslot_updClient (s : State) (i j : Nat) (f : ClientSt → ClientSt) : (s.updClient i f).kslot j = s.kslot j := rfl
@[simp] theorem State.mon_updClient (s : State) (i j : Nat) (f : ClientSt → ClientSt) : (s.updClient i f).mon j = s.mon j := rfl
@[simp] theorem State.dpllx_updClient (s : State) (i j : Nat) (f : ClientSt → ClientSt) : (s.updClient i f).dpllx j = s.dpllx j := rfl
@[simp] theorem State.pll_updClient (s : State) (i j : Nat) (f : ClientSt → ClientSt) : (s.updClient i f).pll j = s.pll j := rfl
@[simp] theorem State.chan_updClient (s : State) (i j : Nat) (f : ClientSt → ClientSt) : (s.updClient i f).chan j = s.chan j := rfl
@[simp] theorem State.timIn_updClient (s : State) (i j : Nat) (f : ClientSt → ClientSt) : (s.updClient i f).timIn j = s.timIn j := rfl
@[simp] theorem State.timCh_updClient (s : State) (i j : Nat) (f : ClientSt → ClientSt) : (s.updClient i f).timCh j = s.timCh j := rfl
@[simp] theorem State.lane_updClient (s : State) (i j : Nat) (f : ClientSt → ClientSt) : (s.updClient i f).lane j = s.lane j := rfl
@[simp] theorem State.slot_updClient (s : State) (i j : Nat) (f : ClientSt → ClientSt) : (s.updClient i f).slot j = s.slot j := rfl
@[simp] theorem State.core_updClient (s : State) (i j : Nat) (f : ClientSt → ClientSt) : (s.updClient i f).core j = s.core j := rfl
@[simp] theorem State.chEnd_updClient (s : State) (i j : Nat) (f : ClientSt → ClientSt) : (s.updClient i f).chEnd j = s.chEnd j := rfl
@[simp] theorem State.sem_updClient (s : State) (i j : Nat) (f : ClientSt → ClientSt) : (s.updClient i f).sem j = s.sem j := rfl
@[simp] theorem State.fwChan_updClient (s : State) (i j : Nat) (f : ClientSt → ClientSt) : (s.updClient i f).fwChan j = s.fwChan j := rfl
@[simp] theorem State.agg_updClient (s : State) (i j : Nat) (f : ClientSt → ClientSt) : (s.updClient i f).agg j = s.agg j := rfl
@[simp] theorem State.cltEntry_updClient (s : State) (i j : Nat) (f : ClientSt → ClientSt) : (s.updClient i f).cltEntry j = s.cltEntry j := rfl
@[simp] theorem State.rd_updClient (s : State) (i a : Nat) (f : ClientSt → ClientSt) : (s.updClient i f).rd a = s.rd a := rfl
@[simp] theorem State.ac_updClient (s : State) (i a : Nat) (f : ClientSt → ClientSt) : (s.updClient i f).ac a = s.ac a := rfl
@[simp] theorem State.sh_updClient (s : State) (i a : Nat) (f : ClientSt → ClientSt) : (s.updClient i f).sh a = s.sh a := rfl

/-! ### `State.updSymKey` -/

@[simp] theorem State.updSymKey_live (s : State) (i : Nat) (f : KeyEntry → KeyEntry) : (s.updSymKey i f).live = s.live := rfl
@[simp] theorem State.updSymKey_shadow (s : State) (i : Nat) (f : KeyEntry → KeyEntry) : (s.updSymKey i f).shadow = s.shadow := rfl
@[simp] theorem State.updSymKey_active (s : State) (i : Nat) (f : KeyEntry → KeyEntry) : (s.updSymKey i f).active = s.active := rfl
@[simp] theorem State.updSymKey_time (s : State) (i : Nat) (f : KeyEntry → KeyEntry) : (s.updSymKey i f).time = s.time := rfl
@[simp] theorem State.updSymKey_vbat (s : State) (i : Nat) (f : KeyEntry → KeyEntry) : (s.updSymKey i f).vbat = s.vbat := rfl
@[simp] theorem State.updSymKey_otp (s : State) (i : Nat) (f : KeyEntry → KeyEntry) : (s.updSymKey i f).otp = s.otp := rfl
@[simp] theorem State.updSymKey_boot (s : State) (i : Nat) (f : KeyEntry → KeyEntry) : (s.updSymKey i f).boot = s.boot := rfl
@[simp] theorem State.updSymKey_serve (s : State) (i : Nat) (f : KeyEntry → KeyEntry) : (s.updSymKey i f).serve = s.serve := rfl
@[simp] theorem State.updSymKey_cfg (s : State) (i : Nat) (f : KeyEntry → KeyEntry) : (s.updSymKey i f).cfg = s.cfg := rfl
@[simp] theorem State.updSymKey_evt (s : State) (i : Nat) (f : KeyEntry → KeyEntry) : (s.updSymKey i f).evt = s.evt := rfl
@[simp] theorem State.updSymKey_mbx (s : State) (i : Nat) (f : KeyEntry → KeyEntry) : (s.updSymKey i f).mbx = s.mbx := rfl
@[simp] theorem State.updSymKey_bus (s : State) (i : Nat) (f : KeyEntry → KeyEntry) : (s.updSymKey i f).bus = s.bus := rfl
@[simp] theorem State.updSymKey_ports (s : State) (i : Nat) (f : KeyEntry → KeyEntry) : (s.updSymKey i f).ports = s.ports := rfl
@[simp] theorem State.updSymKey_cals (s : State) (i : Nat) (f : KeyEntry → KeyEntry) : (s.updSymKey i f).cals = s.cals := rfl
@[simp] theorem State.updSymKey_rwl (s : State) (i : Nat) (f : KeyEntry → KeyEntry) : (s.updSymKey i f).rwl = s.rwl := rfl
@[simp] theorem State.updSymKey_cls (s : State) (i : Nat) (f : KeyEntry → KeyEntry) : (s.updSymKey i f).cls = s.cls := rfl
@[simp] theorem State.updSymKey_clus (s : State) (i : Nat) (f : KeyEntry → KeyEntry) : (s.updSymKey i f).clus = s.clus := rfl
@[simp] theorem State.updSymKey_clt (s : State) (i : Nat) (f : KeyEntry → KeyEntry) : (s.updSymKey i f).clt = s.clt := rfl
@[simp] theorem State.updSymKey_rt (s : State) (i : Nat) (f : KeyEntry → KeyEntry) : (s.updSymKey i f).rt = s.rt := rfl
@[simp] theorem State.updSymKey_ptp (s : State) (i : Nat) (f : KeyEntry → KeyEntry) : (s.updSymKey i f).ptp = s.ptp := rfl
@[simp] theorem State.updSymKey_pke (s : State) (i : Nat) (f : KeyEntry → KeyEntry) : (s.updSymKey i f).pke = s.pke := rfl
@[simp] theorem State.updSymKey_ref (s : State) (i : Nat) (f : KeyEntry → KeyEntry) : (s.updSymKey i f).ref = s.ref := rfl
@[simp] theorem State.updSymKey_clk (s : State) (i : Nat) (f : KeyEntry → KeyEntry) : (s.updSymKey i f).clk = s.clk := rfl
@[simp] theorem State.updSymKey_gns (s : State) (i : Nat) (f : KeyEntry → KeyEntry) : (s.updSymKey i f).gns = s.gns := rfl
@[simp] theorem State.updSymKey_tim (s : State) (i : Nat) (f : KeyEntry → KeyEntry) : (s.updSymKey i f).tim = s.tim := rfl
@[simp] theorem State.updSymKey_evl (s : State) (i : Nat) (f : KeyEntry → KeyEntry) : (s.updSymKey i f).evl = s.evl := rfl
@[simp] theorem State.updSymKey_draws (s : State) (i : Nat) (f : KeyEntry → KeyEntry) : (s.updSymKey i f).draws = s.draws := rfl
@[simp] theorem State.updSymKey_frees (s : State) (i : Nat) (f : KeyEntry → KeyEntry) : (s.updSymKey i f).frees = s.frees := rfl
@[simp] theorem State.updSymKey_outbox (s : State) (i : Nat) (f : KeyEntry → KeyEntry) : (s.updSymKey i f).outbox = s.outbox := rfl
@[simp] theorem State.updSymKey_pending (s : State) (i : Nat) (f : KeyEntry → KeyEntry) : (s.updSymKey i f).pending = s.pending := rfl

@[simp] theorem State.symKey_updSymKey_same (s : State) (i : Nat) (f : KeyEntry → KeyEntry) : (s.updSymKey i f).symKey i = f (s.symKey i) :=
  tget_tupd_same ..

theorem State.symKey_updSymKey_ne (s : State) {i j : Nat} (f : KeyEntry → KeyEntry) (h : j ≠ i) : (s.updSymKey i f).symKey j = s.symKey j :=
  tget_tupd_ne _ _ _ h

@[simp] theorem State.port_updSymKey (s : State) (i j : Nat) (f : KeyEntry → KeyEntry) : (s.updSymKey i f).port j = s.port j := rfl
@[simp] theorem State.cal_updSymKey (s : State) (i j : Nat) (f : KeyEntry → KeyEntry) : (s.updSymKey i f).cal j = s.cal j := rfl
@[simp] theorem State.clu_updSymKey (s : State) (i j : Nat) (f : KeyEntry → KeyEntry) : (s.updSymKey i f).clu j = s.clu j := rfl
@[simp] theorem State.ptpPort_updSymKey (s : State) (i j : Nat) (f : KeyEntry → KeyEntry) : (s.updSymKey i f).ptpPort j = s.ptpPort j := rfl
@[simp] theorem State.grant_updSymKey (s : State) (i j : Nat) (f : KeyEntry → KeyEntry) : (s.updSymKey i f).grant j = s.grant j := rfl
@[simp] theorem State.client_updSymKey (s : State) (i j : Nat) (f : KeyEntry → KeyEntry) : (s.updSymKey i f).client j = s.client j := rfl
@[simp] theorem State.annexKey_updSymKey (s : State) (i j : Nat) (f : KeyEntry → KeyEntry) : (s.updSymKey i f).annexKey j = s.annexKey j := rfl
@[simp] theorem State.openCarafe_updSymKey (s : State) (i j : Nat) (f : KeyEntry → KeyEntry) : (s.updSymKey i f).openCarafe j = s.openCarafe j := rfl
@[simp] theorem State.eng_updSymKey (s : State) (i j : Nat) (f : KeyEntry → KeyEntry) : (s.updSymKey i f).eng j = s.eng j := rfl
@[simp] theorem State.kslot_updSymKey (s : State) (i j : Nat) (f : KeyEntry → KeyEntry) : (s.updSymKey i f).kslot j = s.kslot j := rfl
@[simp] theorem State.mon_updSymKey (s : State) (i j : Nat) (f : KeyEntry → KeyEntry) : (s.updSymKey i f).mon j = s.mon j := rfl
@[simp] theorem State.dpllx_updSymKey (s : State) (i j : Nat) (f : KeyEntry → KeyEntry) : (s.updSymKey i f).dpllx j = s.dpllx j := rfl
@[simp] theorem State.pll_updSymKey (s : State) (i j : Nat) (f : KeyEntry → KeyEntry) : (s.updSymKey i f).pll j = s.pll j := rfl
@[simp] theorem State.chan_updSymKey (s : State) (i j : Nat) (f : KeyEntry → KeyEntry) : (s.updSymKey i f).chan j = s.chan j := rfl
@[simp] theorem State.timIn_updSymKey (s : State) (i j : Nat) (f : KeyEntry → KeyEntry) : (s.updSymKey i f).timIn j = s.timIn j := rfl
@[simp] theorem State.timCh_updSymKey (s : State) (i j : Nat) (f : KeyEntry → KeyEntry) : (s.updSymKey i f).timCh j = s.timCh j := rfl
@[simp] theorem State.lane_updSymKey (s : State) (i j : Nat) (f : KeyEntry → KeyEntry) : (s.updSymKey i f).lane j = s.lane j := rfl
@[simp] theorem State.slot_updSymKey (s : State) (i j : Nat) (f : KeyEntry → KeyEntry) : (s.updSymKey i f).slot j = s.slot j := rfl
@[simp] theorem State.core_updSymKey (s : State) (i j : Nat) (f : KeyEntry → KeyEntry) : (s.updSymKey i f).core j = s.core j := rfl
@[simp] theorem State.chEnd_updSymKey (s : State) (i j : Nat) (f : KeyEntry → KeyEntry) : (s.updSymKey i f).chEnd j = s.chEnd j := rfl
@[simp] theorem State.sem_updSymKey (s : State) (i j : Nat) (f : KeyEntry → KeyEntry) : (s.updSymKey i f).sem j = s.sem j := rfl
@[simp] theorem State.fwChan_updSymKey (s : State) (i j : Nat) (f : KeyEntry → KeyEntry) : (s.updSymKey i f).fwChan j = s.fwChan j := rfl
@[simp] theorem State.agg_updSymKey (s : State) (i j : Nat) (f : KeyEntry → KeyEntry) : (s.updSymKey i f).agg j = s.agg j := rfl
@[simp] theorem State.cltEntry_updSymKey (s : State) (i j : Nat) (f : KeyEntry → KeyEntry) : (s.updSymKey i f).cltEntry j = s.cltEntry j := rfl
@[simp] theorem State.rd_updSymKey (s : State) (i a : Nat) (f : KeyEntry → KeyEntry) : (s.updSymKey i f).rd a = s.rd a := rfl
@[simp] theorem State.ac_updSymKey (s : State) (i a : Nat) (f : KeyEntry → KeyEntry) : (s.updSymKey i f).ac a = s.ac a := rfl
@[simp] theorem State.sh_updSymKey (s : State) (i a : Nat) (f : KeyEntry → KeyEntry) : (s.updSymKey i f).sh a = s.sh a := rfl

/-! ### `State.updAnnexKey` -/

@[simp] theorem State.updAnnexKey_live (s : State) (i : Nat) (f : KeyEntry → KeyEntry) : (s.updAnnexKey i f).live = s.live := rfl
@[simp] theorem State.updAnnexKey_shadow (s : State) (i : Nat) (f : KeyEntry → KeyEntry) : (s.updAnnexKey i f).shadow = s.shadow := rfl
@[simp] theorem State.updAnnexKey_active (s : State) (i : Nat) (f : KeyEntry → KeyEntry) : (s.updAnnexKey i f).active = s.active := rfl
@[simp] theorem State.updAnnexKey_time (s : State) (i : Nat) (f : KeyEntry → KeyEntry) : (s.updAnnexKey i f).time = s.time := rfl
@[simp] theorem State.updAnnexKey_vbat (s : State) (i : Nat) (f : KeyEntry → KeyEntry) : (s.updAnnexKey i f).vbat = s.vbat := rfl
@[simp] theorem State.updAnnexKey_otp (s : State) (i : Nat) (f : KeyEntry → KeyEntry) : (s.updAnnexKey i f).otp = s.otp := rfl
@[simp] theorem State.updAnnexKey_boot (s : State) (i : Nat) (f : KeyEntry → KeyEntry) : (s.updAnnexKey i f).boot = s.boot := rfl
@[simp] theorem State.updAnnexKey_serve (s : State) (i : Nat) (f : KeyEntry → KeyEntry) : (s.updAnnexKey i f).serve = s.serve := rfl
@[simp] theorem State.updAnnexKey_cfg (s : State) (i : Nat) (f : KeyEntry → KeyEntry) : (s.updAnnexKey i f).cfg = s.cfg := rfl
@[simp] theorem State.updAnnexKey_evt (s : State) (i : Nat) (f : KeyEntry → KeyEntry) : (s.updAnnexKey i f).evt = s.evt := rfl
@[simp] theorem State.updAnnexKey_mbx (s : State) (i : Nat) (f : KeyEntry → KeyEntry) : (s.updAnnexKey i f).mbx = s.mbx := rfl
@[simp] theorem State.updAnnexKey_bus (s : State) (i : Nat) (f : KeyEntry → KeyEntry) : (s.updAnnexKey i f).bus = s.bus := rfl
@[simp] theorem State.updAnnexKey_ports (s : State) (i : Nat) (f : KeyEntry → KeyEntry) : (s.updAnnexKey i f).ports = s.ports := rfl
@[simp] theorem State.updAnnexKey_cals (s : State) (i : Nat) (f : KeyEntry → KeyEntry) : (s.updAnnexKey i f).cals = s.cals := rfl
@[simp] theorem State.updAnnexKey_rwl (s : State) (i : Nat) (f : KeyEntry → KeyEntry) : (s.updAnnexKey i f).rwl = s.rwl := rfl
@[simp] theorem State.updAnnexKey_cls (s : State) (i : Nat) (f : KeyEntry → KeyEntry) : (s.updAnnexKey i f).cls = s.cls := rfl
@[simp] theorem State.updAnnexKey_clus (s : State) (i : Nat) (f : KeyEntry → KeyEntry) : (s.updAnnexKey i f).clus = s.clus := rfl
@[simp] theorem State.updAnnexKey_clt (s : State) (i : Nat) (f : KeyEntry → KeyEntry) : (s.updAnnexKey i f).clt = s.clt := rfl
@[simp] theorem State.updAnnexKey_rt (s : State) (i : Nat) (f : KeyEntry → KeyEntry) : (s.updAnnexKey i f).rt = s.rt := rfl
@[simp] theorem State.updAnnexKey_ptp (s : State) (i : Nat) (f : KeyEntry → KeyEntry) : (s.updAnnexKey i f).ptp = s.ptp := rfl
@[simp] theorem State.updAnnexKey_pke (s : State) (i : Nat) (f : KeyEntry → KeyEntry) : (s.updAnnexKey i f).pke = s.pke := rfl
@[simp] theorem State.updAnnexKey_ref (s : State) (i : Nat) (f : KeyEntry → KeyEntry) : (s.updAnnexKey i f).ref = s.ref := rfl
@[simp] theorem State.updAnnexKey_clk (s : State) (i : Nat) (f : KeyEntry → KeyEntry) : (s.updAnnexKey i f).clk = s.clk := rfl
@[simp] theorem State.updAnnexKey_gns (s : State) (i : Nat) (f : KeyEntry → KeyEntry) : (s.updAnnexKey i f).gns = s.gns := rfl
@[simp] theorem State.updAnnexKey_tim (s : State) (i : Nat) (f : KeyEntry → KeyEntry) : (s.updAnnexKey i f).tim = s.tim := rfl
@[simp] theorem State.updAnnexKey_evl (s : State) (i : Nat) (f : KeyEntry → KeyEntry) : (s.updAnnexKey i f).evl = s.evl := rfl
@[simp] theorem State.updAnnexKey_draws (s : State) (i : Nat) (f : KeyEntry → KeyEntry) : (s.updAnnexKey i f).draws = s.draws := rfl
@[simp] theorem State.updAnnexKey_frees (s : State) (i : Nat) (f : KeyEntry → KeyEntry) : (s.updAnnexKey i f).frees = s.frees := rfl
@[simp] theorem State.updAnnexKey_outbox (s : State) (i : Nat) (f : KeyEntry → KeyEntry) : (s.updAnnexKey i f).outbox = s.outbox := rfl
@[simp] theorem State.updAnnexKey_pending (s : State) (i : Nat) (f : KeyEntry → KeyEntry) : (s.updAnnexKey i f).pending = s.pending := rfl

@[simp] theorem State.annexKey_updAnnexKey_same (s : State) (i : Nat) (f : KeyEntry → KeyEntry) : (s.updAnnexKey i f).annexKey i = f (s.annexKey i) :=
  tget_tupd_same ..

theorem State.annexKey_updAnnexKey_ne (s : State) {i j : Nat} (f : KeyEntry → KeyEntry) (h : j ≠ i) : (s.updAnnexKey i f).annexKey j = s.annexKey j :=
  tget_tupd_ne _ _ _ h

@[simp] theorem State.port_updAnnexKey (s : State) (i j : Nat) (f : KeyEntry → KeyEntry) : (s.updAnnexKey i f).port j = s.port j := rfl
@[simp] theorem State.cal_updAnnexKey (s : State) (i j : Nat) (f : KeyEntry → KeyEntry) : (s.updAnnexKey i f).cal j = s.cal j := rfl
@[simp] theorem State.clu_updAnnexKey (s : State) (i j : Nat) (f : KeyEntry → KeyEntry) : (s.updAnnexKey i f).clu j = s.clu j := rfl
@[simp] theorem State.ptpPort_updAnnexKey (s : State) (i j : Nat) (f : KeyEntry → KeyEntry) : (s.updAnnexKey i f).ptpPort j = s.ptpPort j := rfl
@[simp] theorem State.grant_updAnnexKey (s : State) (i j : Nat) (f : KeyEntry → KeyEntry) : (s.updAnnexKey i f).grant j = s.grant j := rfl
@[simp] theorem State.client_updAnnexKey (s : State) (i j : Nat) (f : KeyEntry → KeyEntry) : (s.updAnnexKey i f).client j = s.client j := rfl
@[simp] theorem State.symKey_updAnnexKey (s : State) (i j : Nat) (f : KeyEntry → KeyEntry) : (s.updAnnexKey i f).symKey j = s.symKey j := rfl
@[simp] theorem State.openCarafe_updAnnexKey (s : State) (i j : Nat) (f : KeyEntry → KeyEntry) : (s.updAnnexKey i f).openCarafe j = s.openCarafe j := rfl
@[simp] theorem State.eng_updAnnexKey (s : State) (i j : Nat) (f : KeyEntry → KeyEntry) : (s.updAnnexKey i f).eng j = s.eng j := rfl
@[simp] theorem State.kslot_updAnnexKey (s : State) (i j : Nat) (f : KeyEntry → KeyEntry) : (s.updAnnexKey i f).kslot j = s.kslot j := rfl
@[simp] theorem State.mon_updAnnexKey (s : State) (i j : Nat) (f : KeyEntry → KeyEntry) : (s.updAnnexKey i f).mon j = s.mon j := rfl
@[simp] theorem State.dpllx_updAnnexKey (s : State) (i j : Nat) (f : KeyEntry → KeyEntry) : (s.updAnnexKey i f).dpllx j = s.dpllx j := rfl
@[simp] theorem State.pll_updAnnexKey (s : State) (i j : Nat) (f : KeyEntry → KeyEntry) : (s.updAnnexKey i f).pll j = s.pll j := rfl
@[simp] theorem State.chan_updAnnexKey (s : State) (i j : Nat) (f : KeyEntry → KeyEntry) : (s.updAnnexKey i f).chan j = s.chan j := rfl
@[simp] theorem State.timIn_updAnnexKey (s : State) (i j : Nat) (f : KeyEntry → KeyEntry) : (s.updAnnexKey i f).timIn j = s.timIn j := rfl
@[simp] theorem State.timCh_updAnnexKey (s : State) (i j : Nat) (f : KeyEntry → KeyEntry) : (s.updAnnexKey i f).timCh j = s.timCh j := rfl
@[simp] theorem State.lane_updAnnexKey (s : State) (i j : Nat) (f : KeyEntry → KeyEntry) : (s.updAnnexKey i f).lane j = s.lane j := rfl
@[simp] theorem State.slot_updAnnexKey (s : State) (i j : Nat) (f : KeyEntry → KeyEntry) : (s.updAnnexKey i f).slot j = s.slot j := rfl
@[simp] theorem State.core_updAnnexKey (s : State) (i j : Nat) (f : KeyEntry → KeyEntry) : (s.updAnnexKey i f).core j = s.core j := rfl
@[simp] theorem State.chEnd_updAnnexKey (s : State) (i j : Nat) (f : KeyEntry → KeyEntry) : (s.updAnnexKey i f).chEnd j = s.chEnd j := rfl
@[simp] theorem State.sem_updAnnexKey (s : State) (i j : Nat) (f : KeyEntry → KeyEntry) : (s.updAnnexKey i f).sem j = s.sem j := rfl
@[simp] theorem State.fwChan_updAnnexKey (s : State) (i j : Nat) (f : KeyEntry → KeyEntry) : (s.updAnnexKey i f).fwChan j = s.fwChan j := rfl
@[simp] theorem State.agg_updAnnexKey (s : State) (i j : Nat) (f : KeyEntry → KeyEntry) : (s.updAnnexKey i f).agg j = s.agg j := rfl
@[simp] theorem State.cltEntry_updAnnexKey (s : State) (i j : Nat) (f : KeyEntry → KeyEntry) : (s.updAnnexKey i f).cltEntry j = s.cltEntry j := rfl
@[simp] theorem State.rd_updAnnexKey (s : State) (i a : Nat) (f : KeyEntry → KeyEntry) : (s.updAnnexKey i f).rd a = s.rd a := rfl
@[simp] theorem State.ac_updAnnexKey (s : State) (i a : Nat) (f : KeyEntry → KeyEntry) : (s.updAnnexKey i f).ac a = s.ac a := rfl
@[simp] theorem State.sh_updAnnexKey (s : State) (i a : Nat) (f : KeyEntry → KeyEntry) : (s.updAnnexKey i f).sh a = s.sh a := rfl

/-! ### `State.updOpenCarafe` -/

@[simp] theorem State.updOpenCarafe_live (s : State) (i : Nat) (f : OpenCarafe → OpenCarafe) : (s.updOpenCarafe i f).live = s.live := rfl
@[simp] theorem State.updOpenCarafe_shadow (s : State) (i : Nat) (f : OpenCarafe → OpenCarafe) : (s.updOpenCarafe i f).shadow = s.shadow := rfl
@[simp] theorem State.updOpenCarafe_active (s : State) (i : Nat) (f : OpenCarafe → OpenCarafe) : (s.updOpenCarafe i f).active = s.active := rfl
@[simp] theorem State.updOpenCarafe_time (s : State) (i : Nat) (f : OpenCarafe → OpenCarafe) : (s.updOpenCarafe i f).time = s.time := rfl
@[simp] theorem State.updOpenCarafe_vbat (s : State) (i : Nat) (f : OpenCarafe → OpenCarafe) : (s.updOpenCarafe i f).vbat = s.vbat := rfl
@[simp] theorem State.updOpenCarafe_otp (s : State) (i : Nat) (f : OpenCarafe → OpenCarafe) : (s.updOpenCarafe i f).otp = s.otp := rfl
@[simp] theorem State.updOpenCarafe_boot (s : State) (i : Nat) (f : OpenCarafe → OpenCarafe) : (s.updOpenCarafe i f).boot = s.boot := rfl
@[simp] theorem State.updOpenCarafe_serve (s : State) (i : Nat) (f : OpenCarafe → OpenCarafe) : (s.updOpenCarafe i f).serve = s.serve := rfl
@[simp] theorem State.updOpenCarafe_cfg (s : State) (i : Nat) (f : OpenCarafe → OpenCarafe) : (s.updOpenCarafe i f).cfg = s.cfg := rfl
@[simp] theorem State.updOpenCarafe_evt (s : State) (i : Nat) (f : OpenCarafe → OpenCarafe) : (s.updOpenCarafe i f).evt = s.evt := rfl
@[simp] theorem State.updOpenCarafe_mbx (s : State) (i : Nat) (f : OpenCarafe → OpenCarafe) : (s.updOpenCarafe i f).mbx = s.mbx := rfl
@[simp] theorem State.updOpenCarafe_bus (s : State) (i : Nat) (f : OpenCarafe → OpenCarafe) : (s.updOpenCarafe i f).bus = s.bus := rfl
@[simp] theorem State.updOpenCarafe_ports (s : State) (i : Nat) (f : OpenCarafe → OpenCarafe) : (s.updOpenCarafe i f).ports = s.ports := rfl
@[simp] theorem State.updOpenCarafe_cals (s : State) (i : Nat) (f : OpenCarafe → OpenCarafe) : (s.updOpenCarafe i f).cals = s.cals := rfl
@[simp] theorem State.updOpenCarafe_rwl (s : State) (i : Nat) (f : OpenCarafe → OpenCarafe) : (s.updOpenCarafe i f).rwl = s.rwl := rfl
@[simp] theorem State.updOpenCarafe_cls (s : State) (i : Nat) (f : OpenCarafe → OpenCarafe) : (s.updOpenCarafe i f).cls = s.cls := rfl
@[simp] theorem State.updOpenCarafe_clus (s : State) (i : Nat) (f : OpenCarafe → OpenCarafe) : (s.updOpenCarafe i f).clus = s.clus := rfl
@[simp] theorem State.updOpenCarafe_clt (s : State) (i : Nat) (f : OpenCarafe → OpenCarafe) : (s.updOpenCarafe i f).clt = s.clt := rfl
@[simp] theorem State.updOpenCarafe_srv (s : State) (i : Nat) (f : OpenCarafe → OpenCarafe) : (s.updOpenCarafe i f).srv = s.srv := rfl
@[simp] theorem State.updOpenCarafe_ptp (s : State) (i : Nat) (f : OpenCarafe → OpenCarafe) : (s.updOpenCarafe i f).ptp = s.ptp := rfl
@[simp] theorem State.updOpenCarafe_pke (s : State) (i : Nat) (f : OpenCarafe → OpenCarafe) : (s.updOpenCarafe i f).pke = s.pke := rfl
@[simp] theorem State.updOpenCarafe_ref (s : State) (i : Nat) (f : OpenCarafe → OpenCarafe) : (s.updOpenCarafe i f).ref = s.ref := rfl
@[simp] theorem State.updOpenCarafe_clk (s : State) (i : Nat) (f : OpenCarafe → OpenCarafe) : (s.updOpenCarafe i f).clk = s.clk := rfl
@[simp] theorem State.updOpenCarafe_gns (s : State) (i : Nat) (f : OpenCarafe → OpenCarafe) : (s.updOpenCarafe i f).gns = s.gns := rfl
@[simp] theorem State.updOpenCarafe_tim (s : State) (i : Nat) (f : OpenCarafe → OpenCarafe) : (s.updOpenCarafe i f).tim = s.tim := rfl
@[simp] theorem State.updOpenCarafe_evl (s : State) (i : Nat) (f : OpenCarafe → OpenCarafe) : (s.updOpenCarafe i f).evl = s.evl := rfl
@[simp] theorem State.updOpenCarafe_draws (s : State) (i : Nat) (f : OpenCarafe → OpenCarafe) : (s.updOpenCarafe i f).draws = s.draws := rfl
@[simp] theorem State.updOpenCarafe_frees (s : State) (i : Nat) (f : OpenCarafe → OpenCarafe) : (s.updOpenCarafe i f).frees = s.frees := rfl
@[simp] theorem State.updOpenCarafe_outbox (s : State) (i : Nat) (f : OpenCarafe → OpenCarafe) : (s.updOpenCarafe i f).outbox = s.outbox := rfl
@[simp] theorem State.updOpenCarafe_pending (s : State) (i : Nat) (f : OpenCarafe → OpenCarafe) : (s.updOpenCarafe i f).pending = s.pending := rfl

@[simp] theorem State.openCarafe_updOpenCarafe_same (s : State) (i : Nat) (f : OpenCarafe → OpenCarafe) : (s.updOpenCarafe i f).openCarafe i = f (s.openCarafe i) :=
  tget_tupd_same ..

theorem State.openCarafe_updOpenCarafe_ne (s : State) {i j : Nat} (f : OpenCarafe → OpenCarafe) (h : j ≠ i) : (s.updOpenCarafe i f).openCarafe j = s.openCarafe j :=
  tget_tupd_ne _ _ _ h

@[simp] theorem State.port_updOpenCarafe (s : State) (i j : Nat) (f : OpenCarafe → OpenCarafe) : (s.updOpenCarafe i f).port j = s.port j := rfl
@[simp] theorem State.cal_updOpenCarafe (s : State) (i j : Nat) (f : OpenCarafe → OpenCarafe) : (s.updOpenCarafe i f).cal j = s.cal j := rfl
@[simp] theorem State.clu_updOpenCarafe (s : State) (i j : Nat) (f : OpenCarafe → OpenCarafe) : (s.updOpenCarafe i f).clu j = s.clu j := rfl
@[simp] theorem State.ptpPort_updOpenCarafe (s : State) (i j : Nat) (f : OpenCarafe → OpenCarafe) : (s.updOpenCarafe i f).ptpPort j = s.ptpPort j := rfl
@[simp] theorem State.grant_updOpenCarafe (s : State) (i j : Nat) (f : OpenCarafe → OpenCarafe) : (s.updOpenCarafe i f).grant j = s.grant j := rfl
@[simp] theorem State.client_updOpenCarafe (s : State) (i j : Nat) (f : OpenCarafe → OpenCarafe) : (s.updOpenCarafe i f).client j = s.client j := rfl
@[simp] theorem State.symKey_updOpenCarafe (s : State) (i j : Nat) (f : OpenCarafe → OpenCarafe) : (s.updOpenCarafe i f).symKey j = s.symKey j := rfl
@[simp] theorem State.annexKey_updOpenCarafe (s : State) (i j : Nat) (f : OpenCarafe → OpenCarafe) : (s.updOpenCarafe i f).annexKey j = s.annexKey j := rfl
@[simp] theorem State.eng_updOpenCarafe (s : State) (i j : Nat) (f : OpenCarafe → OpenCarafe) : (s.updOpenCarafe i f).eng j = s.eng j := rfl
@[simp] theorem State.kslot_updOpenCarafe (s : State) (i j : Nat) (f : OpenCarafe → OpenCarafe) : (s.updOpenCarafe i f).kslot j = s.kslot j := rfl
@[simp] theorem State.mon_updOpenCarafe (s : State) (i j : Nat) (f : OpenCarafe → OpenCarafe) : (s.updOpenCarafe i f).mon j = s.mon j := rfl
@[simp] theorem State.dpllx_updOpenCarafe (s : State) (i j : Nat) (f : OpenCarafe → OpenCarafe) : (s.updOpenCarafe i f).dpllx j = s.dpllx j := rfl
@[simp] theorem State.pll_updOpenCarafe (s : State) (i j : Nat) (f : OpenCarafe → OpenCarafe) : (s.updOpenCarafe i f).pll j = s.pll j := rfl
@[simp] theorem State.chan_updOpenCarafe (s : State) (i j : Nat) (f : OpenCarafe → OpenCarafe) : (s.updOpenCarafe i f).chan j = s.chan j := rfl
@[simp] theorem State.timIn_updOpenCarafe (s : State) (i j : Nat) (f : OpenCarafe → OpenCarafe) : (s.updOpenCarafe i f).timIn j = s.timIn j := rfl
@[simp] theorem State.timCh_updOpenCarafe (s : State) (i j : Nat) (f : OpenCarafe → OpenCarafe) : (s.updOpenCarafe i f).timCh j = s.timCh j := rfl
@[simp] theorem State.lane_updOpenCarafe (s : State) (i j : Nat) (f : OpenCarafe → OpenCarafe) : (s.updOpenCarafe i f).lane j = s.lane j := rfl
@[simp] theorem State.slot_updOpenCarafe (s : State) (i j : Nat) (f : OpenCarafe → OpenCarafe) : (s.updOpenCarafe i f).slot j = s.slot j := rfl
@[simp] theorem State.core_updOpenCarafe (s : State) (i j : Nat) (f : OpenCarafe → OpenCarafe) : (s.updOpenCarafe i f).core j = s.core j := rfl
@[simp] theorem State.chEnd_updOpenCarafe (s : State) (i j : Nat) (f : OpenCarafe → OpenCarafe) : (s.updOpenCarafe i f).chEnd j = s.chEnd j := rfl
@[simp] theorem State.sem_updOpenCarafe (s : State) (i j : Nat) (f : OpenCarafe → OpenCarafe) : (s.updOpenCarafe i f).sem j = s.sem j := rfl
@[simp] theorem State.fwChan_updOpenCarafe (s : State) (i j : Nat) (f : OpenCarafe → OpenCarafe) : (s.updOpenCarafe i f).fwChan j = s.fwChan j := rfl
@[simp] theorem State.agg_updOpenCarafe (s : State) (i j : Nat) (f : OpenCarafe → OpenCarafe) : (s.updOpenCarafe i f).agg j = s.agg j := rfl
@[simp] theorem State.cltEntry_updOpenCarafe (s : State) (i j : Nat) (f : OpenCarafe → OpenCarafe) : (s.updOpenCarafe i f).cltEntry j = s.cltEntry j := rfl
@[simp] theorem State.rd_updOpenCarafe (s : State) (i a : Nat) (f : OpenCarafe → OpenCarafe) : (s.updOpenCarafe i f).rd a = s.rd a := rfl
@[simp] theorem State.ac_updOpenCarafe (s : State) (i a : Nat) (f : OpenCarafe → OpenCarafe) : (s.updOpenCarafe i f).ac a = s.ac a := rfl
@[simp] theorem State.sh_updOpenCarafe (s : State) (i a : Nat) (f : OpenCarafe → OpenCarafe) : (s.updOpenCarafe i f).sh a = s.sh a := rfl

/-! ### `State.updEng` -/

@[simp] theorem State.updEng_live (s : State) (i : Nat) (f : Engine → Engine) : (s.updEng i f).live = s.live := rfl
@[simp] theorem State.updEng_shadow (s : State) (i : Nat) (f : Engine → Engine) : (s.updEng i f).shadow = s.shadow := rfl
@[simp] theorem State.updEng_active (s : State) (i : Nat) (f : Engine → Engine) : (s.updEng i f).active = s.active := rfl
@[simp] theorem State.updEng_time (s : State) (i : Nat) (f : Engine → Engine) : (s.updEng i f).time = s.time := rfl
@[simp] theorem State.updEng_vbat (s : State) (i : Nat) (f : Engine → Engine) : (s.updEng i f).vbat = s.vbat := rfl
@[simp] theorem State.updEng_otp (s : State) (i : Nat) (f : Engine → Engine) : (s.updEng i f).otp = s.otp := rfl
@[simp] theorem State.updEng_boot (s : State) (i : Nat) (f : Engine → Engine) : (s.updEng i f).boot = s.boot := rfl
@[simp] theorem State.updEng_serve (s : State) (i : Nat) (f : Engine → Engine) : (s.updEng i f).serve = s.serve := rfl
@[simp] theorem State.updEng_cfg (s : State) (i : Nat) (f : Engine → Engine) : (s.updEng i f).cfg = s.cfg := rfl
@[simp] theorem State.updEng_evt (s : State) (i : Nat) (f : Engine → Engine) : (s.updEng i f).evt = s.evt := rfl
@[simp] theorem State.updEng_mbx (s : State) (i : Nat) (f : Engine → Engine) : (s.updEng i f).mbx = s.mbx := rfl
@[simp] theorem State.updEng_bus (s : State) (i : Nat) (f : Engine → Engine) : (s.updEng i f).bus = s.bus := rfl
@[simp] theorem State.updEng_ports (s : State) (i : Nat) (f : Engine → Engine) : (s.updEng i f).ports = s.ports := rfl
@[simp] theorem State.updEng_cals (s : State) (i : Nat) (f : Engine → Engine) : (s.updEng i f).cals = s.cals := rfl
@[simp] theorem State.updEng_rwl (s : State) (i : Nat) (f : Engine → Engine) : (s.updEng i f).rwl = s.rwl := rfl
@[simp] theorem State.updEng_cls (s : State) (i : Nat) (f : Engine → Engine) : (s.updEng i f).cls = s.cls := rfl
@[simp] theorem State.updEng_clus (s : State) (i : Nat) (f : Engine → Engine) : (s.updEng i f).clus = s.clus := rfl
@[simp] theorem State.updEng_clt (s : State) (i : Nat) (f : Engine → Engine) : (s.updEng i f).clt = s.clt := rfl
@[simp] theorem State.updEng_srv (s : State) (i : Nat) (f : Engine → Engine) : (s.updEng i f).srv = s.srv := rfl
@[simp] theorem State.updEng_rt (s : State) (i : Nat) (f : Engine → Engine) : (s.updEng i f).rt = s.rt := rfl
@[simp] theorem State.updEng_ptp (s : State) (i : Nat) (f : Engine → Engine) : (s.updEng i f).ptp = s.ptp := rfl
@[simp] theorem State.updEng_ref (s : State) (i : Nat) (f : Engine → Engine) : (s.updEng i f).ref = s.ref := rfl
@[simp] theorem State.updEng_clk (s : State) (i : Nat) (f : Engine → Engine) : (s.updEng i f).clk = s.clk := rfl
@[simp] theorem State.updEng_gns (s : State) (i : Nat) (f : Engine → Engine) : (s.updEng i f).gns = s.gns := rfl
@[simp] theorem State.updEng_tim (s : State) (i : Nat) (f : Engine → Engine) : (s.updEng i f).tim = s.tim := rfl
@[simp] theorem State.updEng_evl (s : State) (i : Nat) (f : Engine → Engine) : (s.updEng i f).evl = s.evl := rfl
@[simp] theorem State.updEng_draws (s : State) (i : Nat) (f : Engine → Engine) : (s.updEng i f).draws = s.draws := rfl
@[simp] theorem State.updEng_frees (s : State) (i : Nat) (f : Engine → Engine) : (s.updEng i f).frees = s.frees := rfl
@[simp] theorem State.updEng_outbox (s : State) (i : Nat) (f : Engine → Engine) : (s.updEng i f).outbox = s.outbox := rfl
@[simp] theorem State.updEng_pending (s : State) (i : Nat) (f : Engine → Engine) : (s.updEng i f).pending = s.pending := rfl

@[simp] theorem State.eng_updEng_same (s : State) (i : Nat) (f : Engine → Engine) : (s.updEng i f).eng i = f (s.eng i) :=
  tget_tupd_same ..

theorem State.eng_updEng_ne (s : State) {i j : Nat} (f : Engine → Engine) (h : j ≠ i) : (s.updEng i f).eng j = s.eng j :=
  tget_tupd_ne _ _ _ h

@[simp] theorem State.port_updEng (s : State) (i j : Nat) (f : Engine → Engine) : (s.updEng i f).port j = s.port j := rfl
@[simp] theorem State.cal_updEng (s : State) (i j : Nat) (f : Engine → Engine) : (s.updEng i f).cal j = s.cal j := rfl
@[simp] theorem State.clu_updEng (s : State) (i j : Nat) (f : Engine → Engine) : (s.updEng i f).clu j = s.clu j := rfl
@[simp] theorem State.ptpPort_updEng (s : State) (i j : Nat) (f : Engine → Engine) : (s.updEng i f).ptpPort j = s.ptpPort j := rfl
@[simp] theorem State.grant_updEng (s : State) (i j : Nat) (f : Engine → Engine) : (s.updEng i f).grant j = s.grant j := rfl
@[simp] theorem State.client_updEng (s : State) (i j : Nat) (f : Engine → Engine) : (s.updEng i f).client j = s.client j := rfl
@[simp] theorem State.symKey_updEng (s : State) (i j : Nat) (f : Engine → Engine) : (s.updEng i f).symKey j = s.symKey j := rfl
@[simp] theorem State.annexKey_updEng (s : State) (i j : Nat) (f : Engine → Engine) : (s.updEng i f).annexKey j = s.annexKey j := rfl
@[simp] theorem State.openCarafe_updEng (s : State) (i j : Nat) (f : Engine → Engine) : (s.updEng i f).openCarafe j = s.openCarafe j := rfl
@[simp] theorem State.kslot_updEng (s : State) (i j : Nat) (f : Engine → Engine) : (s.updEng i f).kslot j = s.kslot j := rfl
@[simp] theorem State.mon_updEng (s : State) (i j : Nat) (f : Engine → Engine) : (s.updEng i f).mon j = s.mon j := rfl
@[simp] theorem State.dpllx_updEng (s : State) (i j : Nat) (f : Engine → Engine) : (s.updEng i f).dpllx j = s.dpllx j := rfl
@[simp] theorem State.pll_updEng (s : State) (i j : Nat) (f : Engine → Engine) : (s.updEng i f).pll j = s.pll j := rfl
@[simp] theorem State.chan_updEng (s : State) (i j : Nat) (f : Engine → Engine) : (s.updEng i f).chan j = s.chan j := rfl
@[simp] theorem State.timIn_updEng (s : State) (i j : Nat) (f : Engine → Engine) : (s.updEng i f).timIn j = s.timIn j := rfl
@[simp] theorem State.timCh_updEng (s : State) (i j : Nat) (f : Engine → Engine) : (s.updEng i f).timCh j = s.timCh j := rfl
@[simp] theorem State.lane_updEng (s : State) (i j : Nat) (f : Engine → Engine) : (s.updEng i f).lane j = s.lane j := rfl
@[simp] theorem State.slot_updEng (s : State) (i j : Nat) (f : Engine → Engine) : (s.updEng i f).slot j = s.slot j := rfl
@[simp] theorem State.core_updEng (s : State) (i j : Nat) (f : Engine → Engine) : (s.updEng i f).core j = s.core j := rfl
@[simp] theorem State.chEnd_updEng (s : State) (i j : Nat) (f : Engine → Engine) : (s.updEng i f).chEnd j = s.chEnd j := rfl
@[simp] theorem State.sem_updEng (s : State) (i j : Nat) (f : Engine → Engine) : (s.updEng i f).sem j = s.sem j := rfl
@[simp] theorem State.fwChan_updEng (s : State) (i j : Nat) (f : Engine → Engine) : (s.updEng i f).fwChan j = s.fwChan j := rfl
@[simp] theorem State.agg_updEng (s : State) (i j : Nat) (f : Engine → Engine) : (s.updEng i f).agg j = s.agg j := rfl
@[simp] theorem State.cltEntry_updEng (s : State) (i j : Nat) (f : Engine → Engine) : (s.updEng i f).cltEntry j = s.cltEntry j := rfl
@[simp] theorem State.rd_updEng (s : State) (i a : Nat) (f : Engine → Engine) : (s.updEng i f).rd a = s.rd a := rfl
@[simp] theorem State.ac_updEng (s : State) (i a : Nat) (f : Engine → Engine) : (s.updEng i f).ac a = s.ac a := rfl
@[simp] theorem State.sh_updEng (s : State) (i a : Nat) (f : Engine → Engine) : (s.updEng i f).sh a = s.sh a := rfl

/-! ### `State.updKslot` -/

@[simp] theorem State.updKslot_live (s : State) (i : Nat) (f : KeySlot → KeySlot) : (s.updKslot i f).live = s.live := rfl
@[simp] theorem State.updKslot_shadow (s : State) (i : Nat) (f : KeySlot → KeySlot) : (s.updKslot i f).shadow = s.shadow := rfl
@[simp] theorem State.updKslot_active (s : State) (i : Nat) (f : KeySlot → KeySlot) : (s.updKslot i f).active = s.active := rfl
@[simp] theorem State.updKslot_time (s : State) (i : Nat) (f : KeySlot → KeySlot) : (s.updKslot i f).time = s.time := rfl
@[simp] theorem State.updKslot_vbat (s : State) (i : Nat) (f : KeySlot → KeySlot) : (s.updKslot i f).vbat = s.vbat := rfl
@[simp] theorem State.updKslot_otp (s : State) (i : Nat) (f : KeySlot → KeySlot) : (s.updKslot i f).otp = s.otp := rfl
@[simp] theorem State.updKslot_boot (s : State) (i : Nat) (f : KeySlot → KeySlot) : (s.updKslot i f).boot = s.boot := rfl
@[simp] theorem State.updKslot_serve (s : State) (i : Nat) (f : KeySlot → KeySlot) : (s.updKslot i f).serve = s.serve := rfl
@[simp] theorem State.updKslot_cfg (s : State) (i : Nat) (f : KeySlot → KeySlot) : (s.updKslot i f).cfg = s.cfg := rfl
@[simp] theorem State.updKslot_evt (s : State) (i : Nat) (f : KeySlot → KeySlot) : (s.updKslot i f).evt = s.evt := rfl
@[simp] theorem State.updKslot_mbx (s : State) (i : Nat) (f : KeySlot → KeySlot) : (s.updKslot i f).mbx = s.mbx := rfl
@[simp] theorem State.updKslot_bus (s : State) (i : Nat) (f : KeySlot → KeySlot) : (s.updKslot i f).bus = s.bus := rfl
@[simp] theorem State.updKslot_ports (s : State) (i : Nat) (f : KeySlot → KeySlot) : (s.updKslot i f).ports = s.ports := rfl
@[simp] theorem State.updKslot_cals (s : State) (i : Nat) (f : KeySlot → KeySlot) : (s.updKslot i f).cals = s.cals := rfl
@[simp] theorem State.updKslot_rwl (s : State) (i : Nat) (f : KeySlot → KeySlot) : (s.updKslot i f).rwl = s.rwl := rfl
@[simp] theorem State.updKslot_cls (s : State) (i : Nat) (f : KeySlot → KeySlot) : (s.updKslot i f).cls = s.cls := rfl
@[simp] theorem State.updKslot_clus (s : State) (i : Nat) (f : KeySlot → KeySlot) : (s.updKslot i f).clus = s.clus := rfl
@[simp] theorem State.updKslot_clt (s : State) (i : Nat) (f : KeySlot → KeySlot) : (s.updKslot i f).clt = s.clt := rfl
@[simp] theorem State.updKslot_srv (s : State) (i : Nat) (f : KeySlot → KeySlot) : (s.updKslot i f).srv = s.srv := rfl
@[simp] theorem State.updKslot_rt (s : State) (i : Nat) (f : KeySlot → KeySlot) : (s.updKslot i f).rt = s.rt := rfl
@[simp] theorem State.updKslot_ptp (s : State) (i : Nat) (f : KeySlot → KeySlot) : (s.updKslot i f).ptp = s.ptp := rfl
@[simp] theorem State.updKslot_ref (s : State) (i : Nat) (f : KeySlot → KeySlot) : (s.updKslot i f).ref = s.ref := rfl
@[simp] theorem State.updKslot_clk (s : State) (i : Nat) (f : KeySlot → KeySlot) : (s.updKslot i f).clk = s.clk := rfl
@[simp] theorem State.updKslot_gns (s : State) (i : Nat) (f : KeySlot → KeySlot) : (s.updKslot i f).gns = s.gns := rfl
@[simp] theorem State.updKslot_tim (s : State) (i : Nat) (f : KeySlot → KeySlot) : (s.updKslot i f).tim = s.tim := rfl
@[simp] theorem State.updKslot_evl (s : State) (i : Nat) (f : KeySlot → KeySlot) : (s.updKslot i f).evl = s.evl := rfl
@[simp] theorem State.updKslot_draws (s : State) (i : Nat) (f : KeySlot → KeySlot) : (s.updKslot i f).draws = s.draws := rfl
@[simp] theorem State.updKslot_frees (s : State) (i : Nat) (f : KeySlot → KeySlot) : (s.updKslot i f).frees = s.frees := rfl
@[simp] theorem State.updKslot_outbox (s : State) (i : Nat) (f : KeySlot → KeySlot) : (s.updKslot i f).outbox = s.outbox := rfl
@[simp] theorem State.updKslot_pending (s : State) (i : Nat) (f : KeySlot → KeySlot) : (s.updKslot i f).pending = s.pending := rfl

@[simp] theorem State.kslot_updKslot_same (s : State) (i : Nat) (f : KeySlot → KeySlot) : (s.updKslot i f).kslot i = f (s.kslot i) :=
  tget_tupd_same ..

theorem State.kslot_updKslot_ne (s : State) {i j : Nat} (f : KeySlot → KeySlot) (h : j ≠ i) : (s.updKslot i f).kslot j = s.kslot j :=
  tget_tupd_ne _ _ _ h

@[simp] theorem State.port_updKslot (s : State) (i j : Nat) (f : KeySlot → KeySlot) : (s.updKslot i f).port j = s.port j := rfl
@[simp] theorem State.cal_updKslot (s : State) (i j : Nat) (f : KeySlot → KeySlot) : (s.updKslot i f).cal j = s.cal j := rfl
@[simp] theorem State.clu_updKslot (s : State) (i j : Nat) (f : KeySlot → KeySlot) : (s.updKslot i f).clu j = s.clu j := rfl
@[simp] theorem State.ptpPort_updKslot (s : State) (i j : Nat) (f : KeySlot → KeySlot) : (s.updKslot i f).ptpPort j = s.ptpPort j := rfl
@[simp] theorem State.grant_updKslot (s : State) (i j : Nat) (f : KeySlot → KeySlot) : (s.updKslot i f).grant j = s.grant j := rfl
@[simp] theorem State.client_updKslot (s : State) (i j : Nat) (f : KeySlot → KeySlot) : (s.updKslot i f).client j = s.client j := rfl
@[simp] theorem State.symKey_updKslot (s : State) (i j : Nat) (f : KeySlot → KeySlot) : (s.updKslot i f).symKey j = s.symKey j := rfl
@[simp] theorem State.annexKey_updKslot (s : State) (i j : Nat) (f : KeySlot → KeySlot) : (s.updKslot i f).annexKey j = s.annexKey j := rfl
@[simp] theorem State.openCarafe_updKslot (s : State) (i j : Nat) (f : KeySlot → KeySlot) : (s.updKslot i f).openCarafe j = s.openCarafe j := rfl
@[simp] theorem State.eng_updKslot (s : State) (i j : Nat) (f : KeySlot → KeySlot) : (s.updKslot i f).eng j = s.eng j := rfl
@[simp] theorem State.mon_updKslot (s : State) (i j : Nat) (f : KeySlot → KeySlot) : (s.updKslot i f).mon j = s.mon j := rfl
@[simp] theorem State.dpllx_updKslot (s : State) (i j : Nat) (f : KeySlot → KeySlot) : (s.updKslot i f).dpllx j = s.dpllx j := rfl
@[simp] theorem State.pll_updKslot (s : State) (i j : Nat) (f : KeySlot → KeySlot) : (s.updKslot i f).pll j = s.pll j := rfl
@[simp] theorem State.chan_updKslot (s : State) (i j : Nat) (f : KeySlot → KeySlot) : (s.updKslot i f).chan j = s.chan j := rfl
@[simp] theorem State.timIn_updKslot (s : State) (i j : Nat) (f : KeySlot → KeySlot) : (s.updKslot i f).timIn j = s.timIn j := rfl
@[simp] theorem State.timCh_updKslot (s : State) (i j : Nat) (f : KeySlot → KeySlot) : (s.updKslot i f).timCh j = s.timCh j := rfl
@[simp] theorem State.lane_updKslot (s : State) (i j : Nat) (f : KeySlot → KeySlot) : (s.updKslot i f).lane j = s.lane j := rfl
@[simp] theorem State.slot_updKslot (s : State) (i j : Nat) (f : KeySlot → KeySlot) : (s.updKslot i f).slot j = s.slot j := rfl
@[simp] theorem State.core_updKslot (s : State) (i j : Nat) (f : KeySlot → KeySlot) : (s.updKslot i f).core j = s.core j := rfl
@[simp] theorem State.chEnd_updKslot (s : State) (i j : Nat) (f : KeySlot → KeySlot) : (s.updKslot i f).chEnd j = s.chEnd j := rfl
@[simp] theorem State.sem_updKslot (s : State) (i j : Nat) (f : KeySlot → KeySlot) : (s.updKslot i f).sem j = s.sem j := rfl
@[simp] theorem State.fwChan_updKslot (s : State) (i j : Nat) (f : KeySlot → KeySlot) : (s.updKslot i f).fwChan j = s.fwChan j := rfl
@[simp] theorem State.agg_updKslot (s : State) (i j : Nat) (f : KeySlot → KeySlot) : (s.updKslot i f).agg j = s.agg j := rfl
@[simp] theorem State.cltEntry_updKslot (s : State) (i j : Nat) (f : KeySlot → KeySlot) : (s.updKslot i f).cltEntry j = s.cltEntry j := rfl
@[simp] theorem State.rd_updKslot (s : State) (i a : Nat) (f : KeySlot → KeySlot) : (s.updKslot i f).rd a = s.rd a := rfl
@[simp] theorem State.ac_updKslot (s : State) (i a : Nat) (f : KeySlot → KeySlot) : (s.updKslot i f).ac a = s.ac a := rfl
@[simp] theorem State.sh_updKslot (s : State) (i a : Nat) (f : KeySlot → KeySlot) : (s.updKslot i f).sh a = s.sh a := rfl

/-! ### `State.updMon` -/

@[simp] theorem State.updMon_live (s : State) (i : Nat) (f : Monitor → Monitor) : (s.updMon i f).live = s.live := rfl
@[simp] theorem State.updMon_shadow (s : State) (i : Nat) (f : Monitor → Monitor) : (s.updMon i f).shadow = s.shadow := rfl
@[simp] theorem State.updMon_active (s : State) (i : Nat) (f : Monitor → Monitor) : (s.updMon i f).active = s.active := rfl
@[simp] theorem State.updMon_time (s : State) (i : Nat) (f : Monitor → Monitor) : (s.updMon i f).time = s.time := rfl
@[simp] theorem State.updMon_vbat (s : State) (i : Nat) (f : Monitor → Monitor) : (s.updMon i f).vbat = s.vbat := rfl
@[simp] theorem State.updMon_otp (s : State) (i : Nat) (f : Monitor → Monitor) : (s.updMon i f).otp = s.otp := rfl
@[simp] theorem State.updMon_boot (s : State) (i : Nat) (f : Monitor → Monitor) : (s.updMon i f).boot = s.boot := rfl
@[simp] theorem State.updMon_serve (s : State) (i : Nat) (f : Monitor → Monitor) : (s.updMon i f).serve = s.serve := rfl
@[simp] theorem State.updMon_cfg (s : State) (i : Nat) (f : Monitor → Monitor) : (s.updMon i f).cfg = s.cfg := rfl
@[simp] theorem State.updMon_evt (s : State) (i : Nat) (f : Monitor → Monitor) : (s.updMon i f).evt = s.evt := rfl
@[simp] theorem State.updMon_mbx (s : State) (i : Nat) (f : Monitor → Monitor) : (s.updMon i f).mbx = s.mbx := rfl
@[simp] theorem State.updMon_bus (s : State) (i : Nat) (f : Monitor → Monitor) : (s.updMon i f).bus = s.bus := rfl
@[simp] theorem State.updMon_ports (s : State) (i : Nat) (f : Monitor → Monitor) : (s.updMon i f).ports = s.ports := rfl
@[simp] theorem State.updMon_cals (s : State) (i : Nat) (f : Monitor → Monitor) : (s.updMon i f).cals = s.cals := rfl
@[simp] theorem State.updMon_rwl (s : State) (i : Nat) (f : Monitor → Monitor) : (s.updMon i f).rwl = s.rwl := rfl
@[simp] theorem State.updMon_cls (s : State) (i : Nat) (f : Monitor → Monitor) : (s.updMon i f).cls = s.cls := rfl
@[simp] theorem State.updMon_clus (s : State) (i : Nat) (f : Monitor → Monitor) : (s.updMon i f).clus = s.clus := rfl
@[simp] theorem State.updMon_clt (s : State) (i : Nat) (f : Monitor → Monitor) : (s.updMon i f).clt = s.clt := rfl
@[simp] theorem State.updMon_srv (s : State) (i : Nat) (f : Monitor → Monitor) : (s.updMon i f).srv = s.srv := rfl
@[simp] theorem State.updMon_rt (s : State) (i : Nat) (f : Monitor → Monitor) : (s.updMon i f).rt = s.rt := rfl
@[simp] theorem State.updMon_ptp (s : State) (i : Nat) (f : Monitor → Monitor) : (s.updMon i f).ptp = s.ptp := rfl
@[simp] theorem State.updMon_pke (s : State) (i : Nat) (f : Monitor → Monitor) : (s.updMon i f).pke = s.pke := rfl
@[simp] theorem State.updMon_clk (s : State) (i : Nat) (f : Monitor → Monitor) : (s.updMon i f).clk = s.clk := rfl
@[simp] theorem State.updMon_gns (s : State) (i : Nat) (f : Monitor → Monitor) : (s.updMon i f).gns = s.gns := rfl
@[simp] theorem State.updMon_tim (s : State) (i : Nat) (f : Monitor → Monitor) : (s.updMon i f).tim = s.tim := rfl
@[simp] theorem State.updMon_evl (s : State) (i : Nat) (f : Monitor → Monitor) : (s.updMon i f).evl = s.evl := rfl
@[simp] theorem State.updMon_draws (s : State) (i : Nat) (f : Monitor → Monitor) : (s.updMon i f).draws = s.draws := rfl
@[simp] theorem State.updMon_frees (s : State) (i : Nat) (f : Monitor → Monitor) : (s.updMon i f).frees = s.frees := rfl
@[simp] theorem State.updMon_outbox (s : State) (i : Nat) (f : Monitor → Monitor) : (s.updMon i f).outbox = s.outbox := rfl
@[simp] theorem State.updMon_pending (s : State) (i : Nat) (f : Monitor → Monitor) : (s.updMon i f).pending = s.pending := rfl

@[simp] theorem State.mon_updMon_same (s : State) (i : Nat) (f : Monitor → Monitor) : (s.updMon i f).mon i = f (s.mon i) :=
  tget_tupd_same ..

theorem State.mon_updMon_ne (s : State) {i j : Nat} (f : Monitor → Monitor) (h : j ≠ i) : (s.updMon i f).mon j = s.mon j :=
  tget_tupd_ne _ _ _ h

@[simp] theorem State.port_updMon (s : State) (i j : Nat) (f : Monitor → Monitor) : (s.updMon i f).port j = s.port j := rfl
@[simp] theorem State.cal_updMon (s : State) (i j : Nat) (f : Monitor → Monitor) : (s.updMon i f).cal j = s.cal j := rfl
@[simp] theorem State.clu_updMon (s : State) (i j : Nat) (f : Monitor → Monitor) : (s.updMon i f).clu j = s.clu j := rfl
@[simp] theorem State.ptpPort_updMon (s : State) (i j : Nat) (f : Monitor → Monitor) : (s.updMon i f).ptpPort j = s.ptpPort j := rfl
@[simp] theorem State.grant_updMon (s : State) (i j : Nat) (f : Monitor → Monitor) : (s.updMon i f).grant j = s.grant j := rfl
@[simp] theorem State.client_updMon (s : State) (i j : Nat) (f : Monitor → Monitor) : (s.updMon i f).client j = s.client j := rfl
@[simp] theorem State.symKey_updMon (s : State) (i j : Nat) (f : Monitor → Monitor) : (s.updMon i f).symKey j = s.symKey j := rfl
@[simp] theorem State.annexKey_updMon (s : State) (i j : Nat) (f : Monitor → Monitor) : (s.updMon i f).annexKey j = s.annexKey j := rfl
@[simp] theorem State.openCarafe_updMon (s : State) (i j : Nat) (f : Monitor → Monitor) : (s.updMon i f).openCarafe j = s.openCarafe j := rfl
@[simp] theorem State.eng_updMon (s : State) (i j : Nat) (f : Monitor → Monitor) : (s.updMon i f).eng j = s.eng j := rfl
@[simp] theorem State.kslot_updMon (s : State) (i j : Nat) (f : Monitor → Monitor) : (s.updMon i f).kslot j = s.kslot j := rfl
@[simp] theorem State.dpllx_updMon (s : State) (i j : Nat) (f : Monitor → Monitor) : (s.updMon i f).dpllx j = s.dpllx j := rfl
@[simp] theorem State.pll_updMon (s : State) (i j : Nat) (f : Monitor → Monitor) : (s.updMon i f).pll j = s.pll j := rfl
@[simp] theorem State.chan_updMon (s : State) (i j : Nat) (f : Monitor → Monitor) : (s.updMon i f).chan j = s.chan j := rfl
@[simp] theorem State.timIn_updMon (s : State) (i j : Nat) (f : Monitor → Monitor) : (s.updMon i f).timIn j = s.timIn j := rfl
@[simp] theorem State.timCh_updMon (s : State) (i j : Nat) (f : Monitor → Monitor) : (s.updMon i f).timCh j = s.timCh j := rfl
@[simp] theorem State.lane_updMon (s : State) (i j : Nat) (f : Monitor → Monitor) : (s.updMon i f).lane j = s.lane j := rfl
@[simp] theorem State.slot_updMon (s : State) (i j : Nat) (f : Monitor → Monitor) : (s.updMon i f).slot j = s.slot j := rfl
@[simp] theorem State.core_updMon (s : State) (i j : Nat) (f : Monitor → Monitor) : (s.updMon i f).core j = s.core j := rfl
@[simp] theorem State.chEnd_updMon (s : State) (i j : Nat) (f : Monitor → Monitor) : (s.updMon i f).chEnd j = s.chEnd j := rfl
@[simp] theorem State.sem_updMon (s : State) (i j : Nat) (f : Monitor → Monitor) : (s.updMon i f).sem j = s.sem j := rfl
@[simp] theorem State.fwChan_updMon (s : State) (i j : Nat) (f : Monitor → Monitor) : (s.updMon i f).fwChan j = s.fwChan j := rfl
@[simp] theorem State.agg_updMon (s : State) (i j : Nat) (f : Monitor → Monitor) : (s.updMon i f).agg j = s.agg j := rfl
@[simp] theorem State.cltEntry_updMon (s : State) (i j : Nat) (f : Monitor → Monitor) : (s.updMon i f).cltEntry j = s.cltEntry j := rfl
@[simp] theorem State.rd_updMon (s : State) (i a : Nat) (f : Monitor → Monitor) : (s.updMon i f).rd a = s.rd a := rfl
@[simp] theorem State.ac_updMon (s : State) (i a : Nat) (f : Monitor → Monitor) : (s.updMon i f).ac a = s.ac a := rfl
@[simp] theorem State.sh_updMon (s : State) (i a : Nat) (f : Monitor → Monitor) : (s.updMon i f).sh a = s.sh a := rfl

/-! ### `State.updDpllx` -/

@[simp] theorem State.updDpllx_live (s : State) (i : Nat) (f : Dpllx → Dpllx) : (s.updDpllx i f).live = s.live := rfl
@[simp] theorem State.updDpllx_shadow (s : State) (i : Nat) (f : Dpllx → Dpllx) : (s.updDpllx i f).shadow = s.shadow := rfl
@[simp] theorem State.updDpllx_active (s : State) (i : Nat) (f : Dpllx → Dpllx) : (s.updDpllx i f).active = s.active := rfl
@[simp] theorem State.updDpllx_time (s : State) (i : Nat) (f : Dpllx → Dpllx) : (s.updDpllx i f).time = s.time := rfl
@[simp] theorem State.updDpllx_vbat (s : State) (i : Nat) (f : Dpllx → Dpllx) : (s.updDpllx i f).vbat = s.vbat := rfl
@[simp] theorem State.updDpllx_otp (s : State) (i : Nat) (f : Dpllx → Dpllx) : (s.updDpllx i f).otp = s.otp := rfl
@[simp] theorem State.updDpllx_boot (s : State) (i : Nat) (f : Dpllx → Dpllx) : (s.updDpllx i f).boot = s.boot := rfl
@[simp] theorem State.updDpllx_serve (s : State) (i : Nat) (f : Dpllx → Dpllx) : (s.updDpllx i f).serve = s.serve := rfl
@[simp] theorem State.updDpllx_cfg (s : State) (i : Nat) (f : Dpllx → Dpllx) : (s.updDpllx i f).cfg = s.cfg := rfl
@[simp] theorem State.updDpllx_evt (s : State) (i : Nat) (f : Dpllx → Dpllx) : (s.updDpllx i f).evt = s.evt := rfl
@[simp] theorem State.updDpllx_mbx (s : State) (i : Nat) (f : Dpllx → Dpllx) : (s.updDpllx i f).mbx = s.mbx := rfl
@[simp] theorem State.updDpllx_bus (s : State) (i : Nat) (f : Dpllx → Dpllx) : (s.updDpllx i f).bus = s.bus := rfl
@[simp] theorem State.updDpllx_ports (s : State) (i : Nat) (f : Dpllx → Dpllx) : (s.updDpllx i f).ports = s.ports := rfl
@[simp] theorem State.updDpllx_cals (s : State) (i : Nat) (f : Dpllx → Dpllx) : (s.updDpllx i f).cals = s.cals := rfl
@[simp] theorem State.updDpllx_rwl (s : State) (i : Nat) (f : Dpllx → Dpllx) : (s.updDpllx i f).rwl = s.rwl := rfl
@[simp] theorem State.updDpllx_cls (s : State) (i : Nat) (f : Dpllx → Dpllx) : (s.updDpllx i f).cls = s.cls := rfl
@[simp] theorem State.updDpllx_clus (s : State) (i : Nat) (f : Dpllx → Dpllx) : (s.updDpllx i f).clus = s.clus := rfl
@[simp] theorem State.updDpllx_clt (s : State) (i : Nat) (f : Dpllx → Dpllx) : (s.updDpllx i f).clt = s.clt := rfl
@[simp] theorem State.updDpllx_srv (s : State) (i : Nat) (f : Dpllx → Dpllx) : (s.updDpllx i f).srv = s.srv := rfl
@[simp] theorem State.updDpllx_rt (s : State) (i : Nat) (f : Dpllx → Dpllx) : (s.updDpllx i f).rt = s.rt := rfl
@[simp] theorem State.updDpllx_ptp (s : State) (i : Nat) (f : Dpllx → Dpllx) : (s.updDpllx i f).ptp = s.ptp := rfl
@[simp] theorem State.updDpllx_pke (s : State) (i : Nat) (f : Dpllx → Dpllx) : (s.updDpllx i f).pke = s.pke := rfl
@[simp] theorem State.updDpllx_ref (s : State) (i : Nat) (f : Dpllx → Dpllx) : (s.updDpllx i f).ref = s.ref := rfl
@[simp] theorem State.updDpllx_gns (s : State) (i : Nat) (f : Dpllx → Dpllx) : (s.updDpllx i f).gns = s.gns := rfl
@[simp] theorem State.updDpllx_tim (s : State) (i : Nat) (f : Dpllx → Dpllx) : (s.updDpllx i f).tim = s.tim := rfl
@[simp] theorem State.updDpllx_evl (s : State) (i : Nat) (f : Dpllx → Dpllx) : (s.updDpllx i f).evl = s.evl := rfl
@[simp] theorem State.updDpllx_draws (s : State) (i : Nat) (f : Dpllx → Dpllx) : (s.updDpllx i f).draws = s.draws := rfl
@[simp] theorem State.updDpllx_frees (s : State) (i : Nat) (f : Dpllx → Dpllx) : (s.updDpllx i f).frees = s.frees := rfl
@[simp] theorem State.updDpllx_outbox (s : State) (i : Nat) (f : Dpllx → Dpllx) : (s.updDpllx i f).outbox = s.outbox := rfl
@[simp] theorem State.updDpllx_pending (s : State) (i : Nat) (f : Dpllx → Dpllx) : (s.updDpllx i f).pending = s.pending := rfl

@[simp] theorem State.dpllx_updDpllx_same (s : State) (i : Nat) (f : Dpllx → Dpllx) : (s.updDpllx i f).dpllx i = f (s.dpllx i) :=
  tget_tupd_same ..

theorem State.dpllx_updDpllx_ne (s : State) {i j : Nat} (f : Dpllx → Dpllx) (h : j ≠ i) : (s.updDpllx i f).dpllx j = s.dpllx j :=
  tget_tupd_ne _ _ _ h

@[simp] theorem State.port_updDpllx (s : State) (i j : Nat) (f : Dpllx → Dpllx) : (s.updDpllx i f).port j = s.port j := rfl
@[simp] theorem State.cal_updDpllx (s : State) (i j : Nat) (f : Dpllx → Dpllx) : (s.updDpllx i f).cal j = s.cal j := rfl
@[simp] theorem State.clu_updDpllx (s : State) (i j : Nat) (f : Dpllx → Dpllx) : (s.updDpllx i f).clu j = s.clu j := rfl
@[simp] theorem State.ptpPort_updDpllx (s : State) (i j : Nat) (f : Dpllx → Dpllx) : (s.updDpllx i f).ptpPort j = s.ptpPort j := rfl
@[simp] theorem State.grant_updDpllx (s : State) (i j : Nat) (f : Dpllx → Dpllx) : (s.updDpllx i f).grant j = s.grant j := rfl
@[simp] theorem State.client_updDpllx (s : State) (i j : Nat) (f : Dpllx → Dpllx) : (s.updDpllx i f).client j = s.client j := rfl
@[simp] theorem State.symKey_updDpllx (s : State) (i j : Nat) (f : Dpllx → Dpllx) : (s.updDpllx i f).symKey j = s.symKey j := rfl
@[simp] theorem State.annexKey_updDpllx (s : State) (i j : Nat) (f : Dpllx → Dpllx) : (s.updDpllx i f).annexKey j = s.annexKey j := rfl
@[simp] theorem State.openCarafe_updDpllx (s : State) (i j : Nat) (f : Dpllx → Dpllx) : (s.updDpllx i f).openCarafe j = s.openCarafe j := rfl
@[simp] theorem State.eng_updDpllx (s : State) (i j : Nat) (f : Dpllx → Dpllx) : (s.updDpllx i f).eng j = s.eng j := rfl
@[simp] theorem State.kslot_updDpllx (s : State) (i j : Nat) (f : Dpllx → Dpllx) : (s.updDpllx i f).kslot j = s.kslot j := rfl
@[simp] theorem State.mon_updDpllx (s : State) (i j : Nat) (f : Dpllx → Dpllx) : (s.updDpllx i f).mon j = s.mon j := rfl
@[simp] theorem State.pll_updDpllx (s : State) (i j : Nat) (f : Dpllx → Dpllx) : (s.updDpllx i f).pll j = s.pll j := rfl
@[simp] theorem State.chan_updDpllx (s : State) (i j : Nat) (f : Dpllx → Dpllx) : (s.updDpllx i f).chan j = s.chan j := rfl
@[simp] theorem State.timIn_updDpllx (s : State) (i j : Nat) (f : Dpllx → Dpllx) : (s.updDpllx i f).timIn j = s.timIn j := rfl
@[simp] theorem State.timCh_updDpllx (s : State) (i j : Nat) (f : Dpllx → Dpllx) : (s.updDpllx i f).timCh j = s.timCh j := rfl
@[simp] theorem State.lane_updDpllx (s : State) (i j : Nat) (f : Dpllx → Dpllx) : (s.updDpllx i f).lane j = s.lane j := rfl
@[simp] theorem State.slot_updDpllx (s : State) (i j : Nat) (f : Dpllx → Dpllx) : (s.updDpllx i f).slot j = s.slot j := rfl
@[simp] theorem State.core_updDpllx (s : State) (i j : Nat) (f : Dpllx → Dpllx) : (s.updDpllx i f).core j = s.core j := rfl
@[simp] theorem State.chEnd_updDpllx (s : State) (i j : Nat) (f : Dpllx → Dpllx) : (s.updDpllx i f).chEnd j = s.chEnd j := rfl
@[simp] theorem State.sem_updDpllx (s : State) (i j : Nat) (f : Dpllx → Dpllx) : (s.updDpllx i f).sem j = s.sem j := rfl
@[simp] theorem State.fwChan_updDpllx (s : State) (i j : Nat) (f : Dpllx → Dpllx) : (s.updDpllx i f).fwChan j = s.fwChan j := rfl
@[simp] theorem State.agg_updDpllx (s : State) (i j : Nat) (f : Dpllx → Dpllx) : (s.updDpllx i f).agg j = s.agg j := rfl
@[simp] theorem State.cltEntry_updDpllx (s : State) (i j : Nat) (f : Dpllx → Dpllx) : (s.updDpllx i f).cltEntry j = s.cltEntry j := rfl
@[simp] theorem State.rd_updDpllx (s : State) (i a : Nat) (f : Dpllx → Dpllx) : (s.updDpllx i f).rd a = s.rd a := rfl
@[simp] theorem State.ac_updDpllx (s : State) (i a : Nat) (f : Dpllx → Dpllx) : (s.updDpllx i f).ac a = s.ac a := rfl
@[simp] theorem State.sh_updDpllx (s : State) (i a : Nat) (f : Dpllx → Dpllx) : (s.updDpllx i f).sh a = s.sh a := rfl

/-! ### `State.updPll` -/

@[simp] theorem State.updPll_live (s : State) (i : Nat) (f : DualPll → DualPll) : (s.updPll i f).live = s.live := rfl
@[simp] theorem State.updPll_shadow (s : State) (i : Nat) (f : DualPll → DualPll) : (s.updPll i f).shadow = s.shadow := rfl
@[simp] theorem State.updPll_active (s : State) (i : Nat) (f : DualPll → DualPll) : (s.updPll i f).active = s.active := rfl
@[simp] theorem State.updPll_time (s : State) (i : Nat) (f : DualPll → DualPll) : (s.updPll i f).time = s.time := rfl
@[simp] theorem State.updPll_vbat (s : State) (i : Nat) (f : DualPll → DualPll) : (s.updPll i f).vbat = s.vbat := rfl
@[simp] theorem State.updPll_otp (s : State) (i : Nat) (f : DualPll → DualPll) : (s.updPll i f).otp = s.otp := rfl
@[simp] theorem State.updPll_boot (s : State) (i : Nat) (f : DualPll → DualPll) : (s.updPll i f).boot = s.boot := rfl
@[simp] theorem State.updPll_serve (s : State) (i : Nat) (f : DualPll → DualPll) : (s.updPll i f).serve = s.serve := rfl
@[simp] theorem State.updPll_cfg (s : State) (i : Nat) (f : DualPll → DualPll) : (s.updPll i f).cfg = s.cfg := rfl
@[simp] theorem State.updPll_evt (s : State) (i : Nat) (f : DualPll → DualPll) : (s.updPll i f).evt = s.evt := rfl
@[simp] theorem State.updPll_mbx (s : State) (i : Nat) (f : DualPll → DualPll) : (s.updPll i f).mbx = s.mbx := rfl
@[simp] theorem State.updPll_bus (s : State) (i : Nat) (f : DualPll → DualPll) : (s.updPll i f).bus = s.bus := rfl
@[simp] theorem State.updPll_ports (s : State) (i : Nat) (f : DualPll → DualPll) : (s.updPll i f).ports = s.ports := rfl
@[simp] theorem State.updPll_cals (s : State) (i : Nat) (f : DualPll → DualPll) : (s.updPll i f).cals = s.cals := rfl
@[simp] theorem State.updPll_rwl (s : State) (i : Nat) (f : DualPll → DualPll) : (s.updPll i f).rwl = s.rwl := rfl
@[simp] theorem State.updPll_cls (s : State) (i : Nat) (f : DualPll → DualPll) : (s.updPll i f).cls = s.cls := rfl
@[simp] theorem State.updPll_clus (s : State) (i : Nat) (f : DualPll → DualPll) : (s.updPll i f).clus = s.clus := rfl
@[simp] theorem State.updPll_clt (s : State) (i : Nat) (f : DualPll → DualPll) : (s.updPll i f).clt = s.clt := rfl
@[simp] theorem State.updPll_srv (s : State) (i : Nat) (f : DualPll → DualPll) : (s.updPll i f).srv = s.srv := rfl
@[simp] theorem State.updPll_rt (s : State) (i : Nat) (f : DualPll → DualPll) : (s.updPll i f).rt = s.rt := rfl
@[simp] theorem State.updPll_ptp (s : State) (i : Nat) (f : DualPll → DualPll) : (s.updPll i f).ptp = s.ptp := rfl
@[simp] theorem State.updPll_pke (s : State) (i : Nat) (f : DualPll → DualPll) : (s.updPll i f).pke = s.pke := rfl
@[simp] theorem State.updPll_ref (s : State) (i : Nat) (f : DualPll → DualPll) : (s.updPll i f).ref = s.ref := rfl
@[simp] theorem State.updPll_gns (s : State) (i : Nat) (f : DualPll → DualPll) : (s.updPll i f).gns = s.gns := rfl
@[simp] theorem State.updPll_tim (s : State) (i : Nat) (f : DualPll → DualPll) : (s.updPll i f).tim = s.tim := rfl
@[simp] theorem State.updPll_evl (s : State) (i : Nat) (f : DualPll → DualPll) : (s.updPll i f).evl = s.evl := rfl
@[simp] theorem State.updPll_draws (s : State) (i : Nat) (f : DualPll → DualPll) : (s.updPll i f).draws = s.draws := rfl
@[simp] theorem State.updPll_frees (s : State) (i : Nat) (f : DualPll → DualPll) : (s.updPll i f).frees = s.frees := rfl
@[simp] theorem State.updPll_outbox (s : State) (i : Nat) (f : DualPll → DualPll) : (s.updPll i f).outbox = s.outbox := rfl
@[simp] theorem State.updPll_pending (s : State) (i : Nat) (f : DualPll → DualPll) : (s.updPll i f).pending = s.pending := rfl

@[simp] theorem State.pll_updPll_same (s : State) (i : Nat) (f : DualPll → DualPll) : (s.updPll i f).pll i = f (s.pll i) :=
  tget_tupd_same ..

theorem State.pll_updPll_ne (s : State) {i j : Nat} (f : DualPll → DualPll) (h : j ≠ i) : (s.updPll i f).pll j = s.pll j :=
  tget_tupd_ne _ _ _ h

@[simp] theorem State.port_updPll (s : State) (i j : Nat) (f : DualPll → DualPll) : (s.updPll i f).port j = s.port j := rfl
@[simp] theorem State.cal_updPll (s : State) (i j : Nat) (f : DualPll → DualPll) : (s.updPll i f).cal j = s.cal j := rfl
@[simp] theorem State.clu_updPll (s : State) (i j : Nat) (f : DualPll → DualPll) : (s.updPll i f).clu j = s.clu j := rfl
@[simp] theorem State.ptpPort_updPll (s : State) (i j : Nat) (f : DualPll → DualPll) : (s.updPll i f).ptpPort j = s.ptpPort j := rfl
@[simp] theorem State.grant_updPll (s : State) (i j : Nat) (f : DualPll → DualPll) : (s.updPll i f).grant j = s.grant j := rfl
@[simp] theorem State.client_updPll (s : State) (i j : Nat) (f : DualPll → DualPll) : (s.updPll i f).client j = s.client j := rfl
@[simp] theorem State.symKey_updPll (s : State) (i j : Nat) (f : DualPll → DualPll) : (s.updPll i f).symKey j = s.symKey j := rfl
@[simp] theorem State.annexKey_updPll (s : State) (i j : Nat) (f : DualPll → DualPll) : (s.updPll i f).annexKey j = s.annexKey j := rfl
@[simp] theorem State.openCarafe_updPll (s : State) (i j : Nat) (f : DualPll → DualPll) : (s.updPll i f).openCarafe j = s.openCarafe j := rfl
@[simp] theorem State.eng_updPll (s : State) (i j : Nat) (f : DualPll → DualPll) : (s.updPll i f).eng j = s.eng j := rfl
@[simp] theorem State.kslot_updPll (s : State) (i j : Nat) (f : DualPll → DualPll) : (s.updPll i f).kslot j = s.kslot j := rfl
@[simp] theorem State.mon_updPll (s : State) (i j : Nat) (f : DualPll → DualPll) : (s.updPll i f).mon j = s.mon j := rfl
@[simp] theorem State.dpllx_updPll (s : State) (i j : Nat) (f : DualPll → DualPll) : (s.updPll i f).dpllx j = s.dpllx j := rfl
@[simp] theorem State.chan_updPll (s : State) (i j : Nat) (f : DualPll → DualPll) : (s.updPll i f).chan j = s.chan j := rfl
@[simp] theorem State.timIn_updPll (s : State) (i j : Nat) (f : DualPll → DualPll) : (s.updPll i f).timIn j = s.timIn j := rfl
@[simp] theorem State.timCh_updPll (s : State) (i j : Nat) (f : DualPll → DualPll) : (s.updPll i f).timCh j = s.timCh j := rfl
@[simp] theorem State.lane_updPll (s : State) (i j : Nat) (f : DualPll → DualPll) : (s.updPll i f).lane j = s.lane j := rfl
@[simp] theorem State.slot_updPll (s : State) (i j : Nat) (f : DualPll → DualPll) : (s.updPll i f).slot j = s.slot j := rfl
@[simp] theorem State.core_updPll (s : State) (i j : Nat) (f : DualPll → DualPll) : (s.updPll i f).core j = s.core j := rfl
@[simp] theorem State.chEnd_updPll (s : State) (i j : Nat) (f : DualPll → DualPll) : (s.updPll i f).chEnd j = s.chEnd j := rfl
@[simp] theorem State.sem_updPll (s : State) (i j : Nat) (f : DualPll → DualPll) : (s.updPll i f).sem j = s.sem j := rfl
@[simp] theorem State.fwChan_updPll (s : State) (i j : Nat) (f : DualPll → DualPll) : (s.updPll i f).fwChan j = s.fwChan j := rfl
@[simp] theorem State.agg_updPll (s : State) (i j : Nat) (f : DualPll → DualPll) : (s.updPll i f).agg j = s.agg j := rfl
@[simp] theorem State.cltEntry_updPll (s : State) (i j : Nat) (f : DualPll → DualPll) : (s.updPll i f).cltEntry j = s.cltEntry j := rfl
@[simp] theorem State.rd_updPll (s : State) (i a : Nat) (f : DualPll → DualPll) : (s.updPll i f).rd a = s.rd a := rfl
@[simp] theorem State.ac_updPll (s : State) (i a : Nat) (f : DualPll → DualPll) : (s.updPll i f).ac a = s.ac a := rfl
@[simp] theorem State.sh_updPll (s : State) (i a : Nat) (f : DualPll → DualPll) : (s.updPll i f).sh a = s.sh a := rfl

/-! ### `State.updChan` -/

@[simp] theorem State.updChan_live (s : State) (i : Nat) (f : GnsChan → GnsChan) : (s.updChan i f).live = s.live := rfl
@[simp] theorem State.updChan_shadow (s : State) (i : Nat) (f : GnsChan → GnsChan) : (s.updChan i f).shadow = s.shadow := rfl
@[simp] theorem State.updChan_active (s : State) (i : Nat) (f : GnsChan → GnsChan) : (s.updChan i f).active = s.active := rfl
@[simp] theorem State.updChan_time (s : State) (i : Nat) (f : GnsChan → GnsChan) : (s.updChan i f).time = s.time := rfl
@[simp] theorem State.updChan_vbat (s : State) (i : Nat) (f : GnsChan → GnsChan) : (s.updChan i f).vbat = s.vbat := rfl
@[simp] theorem State.updChan_otp (s : State) (i : Nat) (f : GnsChan → GnsChan) : (s.updChan i f).otp = s.otp := rfl
@[simp] theorem State.updChan_boot (s : State) (i : Nat) (f : GnsChan → GnsChan) : (s.updChan i f).boot = s.boot := rfl
@[simp] theorem State.updChan_serve (s : State) (i : Nat) (f : GnsChan → GnsChan) : (s.updChan i f).serve = s.serve := rfl
@[simp] theorem State.updChan_cfg (s : State) (i : Nat) (f : GnsChan → GnsChan) : (s.updChan i f).cfg = s.cfg := rfl
@[simp] theorem State.updChan_evt (s : State) (i : Nat) (f : GnsChan → GnsChan) : (s.updChan i f).evt = s.evt := rfl
@[simp] theorem State.updChan_mbx (s : State) (i : Nat) (f : GnsChan → GnsChan) : (s.updChan i f).mbx = s.mbx := rfl
@[simp] theorem State.updChan_bus (s : State) (i : Nat) (f : GnsChan → GnsChan) : (s.updChan i f).bus = s.bus := rfl
@[simp] theorem State.updChan_ports (s : State) (i : Nat) (f : GnsChan → GnsChan) : (s.updChan i f).ports = s.ports := rfl
@[simp] theorem State.updChan_cals (s : State) (i : Nat) (f : GnsChan → GnsChan) : (s.updChan i f).cals = s.cals := rfl
@[simp] theorem State.updChan_rwl (s : State) (i : Nat) (f : GnsChan → GnsChan) : (s.updChan i f).rwl = s.rwl := rfl
@[simp] theorem State.updChan_cls (s : State) (i : Nat) (f : GnsChan → GnsChan) : (s.updChan i f).cls = s.cls := rfl
@[simp] theorem State.updChan_clus (s : State) (i : Nat) (f : GnsChan → GnsChan) : (s.updChan i f).clus = s.clus := rfl
@[simp] theorem State.updChan_clt (s : State) (i : Nat) (f : GnsChan → GnsChan) : (s.updChan i f).clt = s.clt := rfl
@[simp] theorem State.updChan_srv (s : State) (i : Nat) (f : GnsChan → GnsChan) : (s.updChan i f).srv = s.srv := rfl
@[simp] theorem State.updChan_rt (s : State) (i : Nat) (f : GnsChan → GnsChan) : (s.updChan i f).rt = s.rt := rfl
@[simp] theorem State.updChan_ptp (s : State) (i : Nat) (f : GnsChan → GnsChan) : (s.updChan i f).ptp = s.ptp := rfl
@[simp] theorem State.updChan_pke (s : State) (i : Nat) (f : GnsChan → GnsChan) : (s.updChan i f).pke = s.pke := rfl
@[simp] theorem State.updChan_ref (s : State) (i : Nat) (f : GnsChan → GnsChan) : (s.updChan i f).ref = s.ref := rfl
@[simp] theorem State.updChan_clk (s : State) (i : Nat) (f : GnsChan → GnsChan) : (s.updChan i f).clk = s.clk := rfl
@[simp] theorem State.updChan_tim (s : State) (i : Nat) (f : GnsChan → GnsChan) : (s.updChan i f).tim = s.tim := rfl
@[simp] theorem State.updChan_evl (s : State) (i : Nat) (f : GnsChan → GnsChan) : (s.updChan i f).evl = s.evl := rfl
@[simp] theorem State.updChan_draws (s : State) (i : Nat) (f : GnsChan → GnsChan) : (s.updChan i f).draws = s.draws := rfl
@[simp] theorem State.updChan_frees (s : State) (i : Nat) (f : GnsChan → GnsChan) : (s.updChan i f).frees = s.frees := rfl
@[simp] theorem State.updChan_outbox (s : State) (i : Nat) (f : GnsChan → GnsChan) : (s.updChan i f).outbox = s.outbox := rfl
@[simp] theorem State.updChan_pending (s : State) (i : Nat) (f : GnsChan → GnsChan) : (s.updChan i f).pending = s.pending := rfl

@[simp] theorem State.chan_updChan_same (s : State) (i : Nat) (f : GnsChan → GnsChan) : (s.updChan i f).chan i = f (s.chan i) :=
  tget_tupd_same ..

theorem State.chan_updChan_ne (s : State) {i j : Nat} (f : GnsChan → GnsChan) (h : j ≠ i) : (s.updChan i f).chan j = s.chan j :=
  tget_tupd_ne _ _ _ h

@[simp] theorem State.port_updChan (s : State) (i j : Nat) (f : GnsChan → GnsChan) : (s.updChan i f).port j = s.port j := rfl
@[simp] theorem State.cal_updChan (s : State) (i j : Nat) (f : GnsChan → GnsChan) : (s.updChan i f).cal j = s.cal j := rfl
@[simp] theorem State.clu_updChan (s : State) (i j : Nat) (f : GnsChan → GnsChan) : (s.updChan i f).clu j = s.clu j := rfl
@[simp] theorem State.ptpPort_updChan (s : State) (i j : Nat) (f : GnsChan → GnsChan) : (s.updChan i f).ptpPort j = s.ptpPort j := rfl
@[simp] theorem State.grant_updChan (s : State) (i j : Nat) (f : GnsChan → GnsChan) : (s.updChan i f).grant j = s.grant j := rfl
@[simp] theorem State.client_updChan (s : State) (i j : Nat) (f : GnsChan → GnsChan) : (s.updChan i f).client j = s.client j := rfl
@[simp] theorem State.symKey_updChan (s : State) (i j : Nat) (f : GnsChan → GnsChan) : (s.updChan i f).symKey j = s.symKey j := rfl
@[simp] theorem State.annexKey_updChan (s : State) (i j : Nat) (f : GnsChan → GnsChan) : (s.updChan i f).annexKey j = s.annexKey j := rfl
@[simp] theorem State.openCarafe_updChan (s : State) (i j : Nat) (f : GnsChan → GnsChan) : (s.updChan i f).openCarafe j = s.openCarafe j := rfl
@[simp] theorem State.eng_updChan (s : State) (i j : Nat) (f : GnsChan → GnsChan) : (s.updChan i f).eng j = s.eng j := rfl
@[simp] theorem State.kslot_updChan (s : State) (i j : Nat) (f : GnsChan → GnsChan) : (s.updChan i f).kslot j = s.kslot j := rfl
@[simp] theorem State.mon_updChan (s : State) (i j : Nat) (f : GnsChan → GnsChan) : (s.updChan i f).mon j = s.mon j := rfl
@[simp] theorem State.dpllx_updChan (s : State) (i j : Nat) (f : GnsChan → GnsChan) : (s.updChan i f).dpllx j = s.dpllx j := rfl
@[simp] theorem State.pll_updChan (s : State) (i j : Nat) (f : GnsChan → GnsChan) : (s.updChan i f).pll j = s.pll j := rfl
@[simp] theorem State.timIn_updChan (s : State) (i j : Nat) (f : GnsChan → GnsChan) : (s.updChan i f).timIn j = s.timIn j := rfl
@[simp] theorem State.timCh_updChan (s : State) (i j : Nat) (f : GnsChan → GnsChan) : (s.updChan i f).timCh j = s.timCh j := rfl
@[simp] theorem State.lane_updChan (s : State) (i j : Nat) (f : GnsChan → GnsChan) : (s.updChan i f).lane j = s.lane j := rfl
@[simp] theorem State.slot_updChan (s : State) (i j : Nat) (f : GnsChan → GnsChan) : (s.updChan i f).slot j = s.slot j := rfl
@[simp] theorem State.core_updChan (s : State) (i j : Nat) (f : GnsChan → GnsChan) : (s.updChan i f).core j = s.core j := rfl
@[simp] theorem State.chEnd_updChan (s : State) (i j : Nat) (f : GnsChan → GnsChan) : (s.updChan i f).chEnd j = s.chEnd j := rfl
@[simp] theorem State.sem_updChan (s : State) (i j : Nat) (f : GnsChan → GnsChan) : (s.updChan i f).sem j = s.sem j := rfl
@[simp] theorem State.fwChan_updChan (s : State) (i j : Nat) (f : GnsChan → GnsChan) : (s.updChan i f).fwChan j = s.fwChan j := rfl
@[simp] theorem State.agg_updChan (s : State) (i j : Nat) (f : GnsChan → GnsChan) : (s.updChan i f).agg j = s.agg j := rfl
@[simp] theorem State.cltEntry_updChan (s : State) (i j : Nat) (f : GnsChan → GnsChan) : (s.updChan i f).cltEntry j = s.cltEntry j := rfl
@[simp] theorem State.rd_updChan (s : State) (i a : Nat) (f : GnsChan → GnsChan) : (s.updChan i f).rd a = s.rd a := rfl
@[simp] theorem State.ac_updChan (s : State) (i a : Nat) (f : GnsChan → GnsChan) : (s.updChan i f).ac a = s.ac a := rfl
@[simp] theorem State.sh_updChan (s : State) (i a : Nat) (f : GnsChan → GnsChan) : (s.updChan i f).sh a = s.sh a := rfl

/-! ### `State.updTimIn` -/

@[simp] theorem State.updTimIn_live (s : State) (i : Nat) (f : TimIn → TimIn) : (s.updTimIn i f).live = s.live := rfl
@[simp] theorem State.updTimIn_shadow (s : State) (i : Nat) (f : TimIn → TimIn) : (s.updTimIn i f).shadow = s.shadow := rfl
@[simp] theorem State.updTimIn_active (s : State) (i : Nat) (f : TimIn → TimIn) : (s.updTimIn i f).active = s.active := rfl
@[simp] theorem State.updTimIn_time (s : State) (i : Nat) (f : TimIn → TimIn) : (s.updTimIn i f).time = s.time := rfl
@[simp] theorem State.updTimIn_vbat (s : State) (i : Nat) (f : TimIn → TimIn) : (s.updTimIn i f).vbat = s.vbat := rfl
@[simp] theorem State.updTimIn_otp (s : State) (i : Nat) (f : TimIn → TimIn) : (s.updTimIn i f).otp = s.otp := rfl
@[simp] theorem State.updTimIn_boot (s : State) (i : Nat) (f : TimIn → TimIn) : (s.updTimIn i f).boot = s.boot := rfl
@[simp] theorem State.updTimIn_serve (s : State) (i : Nat) (f : TimIn → TimIn) : (s.updTimIn i f).serve = s.serve := rfl
@[simp] theorem State.updTimIn_cfg (s : State) (i : Nat) (f : TimIn → TimIn) : (s.updTimIn i f).cfg = s.cfg := rfl
@[simp] theorem State.updTimIn_evt (s : State) (i : Nat) (f : TimIn → TimIn) : (s.updTimIn i f).evt = s.evt := rfl
@[simp] theorem State.updTimIn_mbx (s : State) (i : Nat) (f : TimIn → TimIn) : (s.updTimIn i f).mbx = s.mbx := rfl
@[simp] theorem State.updTimIn_bus (s : State) (i : Nat) (f : TimIn → TimIn) : (s.updTimIn i f).bus = s.bus := rfl
@[simp] theorem State.updTimIn_ports (s : State) (i : Nat) (f : TimIn → TimIn) : (s.updTimIn i f).ports = s.ports := rfl
@[simp] theorem State.updTimIn_cals (s : State) (i : Nat) (f : TimIn → TimIn) : (s.updTimIn i f).cals = s.cals := rfl
@[simp] theorem State.updTimIn_rwl (s : State) (i : Nat) (f : TimIn → TimIn) : (s.updTimIn i f).rwl = s.rwl := rfl
@[simp] theorem State.updTimIn_cls (s : State) (i : Nat) (f : TimIn → TimIn) : (s.updTimIn i f).cls = s.cls := rfl
@[simp] theorem State.updTimIn_clus (s : State) (i : Nat) (f : TimIn → TimIn) : (s.updTimIn i f).clus = s.clus := rfl
@[simp] theorem State.updTimIn_clt (s : State) (i : Nat) (f : TimIn → TimIn) : (s.updTimIn i f).clt = s.clt := rfl
@[simp] theorem State.updTimIn_srv (s : State) (i : Nat) (f : TimIn → TimIn) : (s.updTimIn i f).srv = s.srv := rfl
@[simp] theorem State.updTimIn_rt (s : State) (i : Nat) (f : TimIn → TimIn) : (s.updTimIn i f).rt = s.rt := rfl
@[simp] theorem State.updTimIn_ptp (s : State) (i : Nat) (f : TimIn → TimIn) : (s.updTimIn i f).ptp = s.ptp := rfl
@[simp] theorem State.updTimIn_pke (s : State) (i : Nat) (f : TimIn → TimIn) : (s.updTimIn i f).pke = s.pke := rfl
@[simp] theorem State.updTimIn_ref (s : State) (i : Nat) (f : TimIn → TimIn) : (s.updTimIn i f).ref = s.ref := rfl
@[simp] theorem State.updTimIn_clk (s : State) (i : Nat) (f : TimIn → TimIn) : (s.updTimIn i f).clk = s.clk := rfl
@[simp] theorem State.updTimIn_gns (s : State) (i : Nat) (f : TimIn → TimIn) : (s.updTimIn i f).gns = s.gns := rfl
@[simp] theorem State.updTimIn_evl (s : State) (i : Nat) (f : TimIn → TimIn) : (s.updTimIn i f).evl = s.evl := rfl
@[simp] theorem State.updTimIn_draws (s : State) (i : Nat) (f : TimIn → TimIn) : (s.updTimIn i f).draws = s.draws := rfl
@[simp] theorem State.updTimIn_frees (s : State) (i : Nat) (f : TimIn → TimIn) : (s.updTimIn i f).frees = s.frees := rfl
@[simp] theorem State.updTimIn_outbox (s : State) (i : Nat) (f : TimIn → TimIn) : (s.updTimIn i f).outbox = s.outbox := rfl
@[simp] theorem State.updTimIn_pending (s : State) (i : Nat) (f : TimIn → TimIn) : (s.updTimIn i f).pending = s.pending := rfl

@[simp] theorem State.timIn_updTimIn_same (s : State) (i : Nat) (f : TimIn → TimIn) : (s.updTimIn i f).timIn i = f (s.timIn i) :=
  tget_tupd_same ..

theorem State.timIn_updTimIn_ne (s : State) {i j : Nat} (f : TimIn → TimIn) (h : j ≠ i) : (s.updTimIn i f).timIn j = s.timIn j :=
  tget_tupd_ne _ _ _ h

@[simp] theorem State.port_updTimIn (s : State) (i j : Nat) (f : TimIn → TimIn) : (s.updTimIn i f).port j = s.port j := rfl
@[simp] theorem State.cal_updTimIn (s : State) (i j : Nat) (f : TimIn → TimIn) : (s.updTimIn i f).cal j = s.cal j := rfl
@[simp] theorem State.clu_updTimIn (s : State) (i j : Nat) (f : TimIn → TimIn) : (s.updTimIn i f).clu j = s.clu j := rfl
@[simp] theorem State.ptpPort_updTimIn (s : State) (i j : Nat) (f : TimIn → TimIn) : (s.updTimIn i f).ptpPort j = s.ptpPort j := rfl
@[simp] theorem State.grant_updTimIn (s : State) (i j : Nat) (f : TimIn → TimIn) : (s.updTimIn i f).grant j = s.grant j := rfl
@[simp] theorem State.client_updTimIn (s : State) (i j : Nat) (f : TimIn → TimIn) : (s.updTimIn i f).client j = s.client j := rfl
@[simp] theorem State.symKey_updTimIn (s : State) (i j : Nat) (f : TimIn → TimIn) : (s.updTimIn i f).symKey j = s.symKey j := rfl
@[simp] theorem State.annexKey_updTimIn (s : State) (i j : Nat) (f : TimIn → TimIn) : (s.updTimIn i f).annexKey j = s.annexKey j := rfl
@[simp] theorem State.openCarafe_updTimIn (s : State) (i j : Nat) (f : TimIn → TimIn) : (s.updTimIn i f).openCarafe j = s.openCarafe j := rfl
@[simp] theorem State.eng_updTimIn (s : State) (i j : Nat) (f : TimIn → TimIn) : (s.updTimIn i f).eng j = s.eng j := rfl
@[simp] theorem State.kslot_updTimIn (s : State) (i j : Nat) (f : TimIn → TimIn) : (s.updTimIn i f).kslot j = s.kslot j := rfl
@[simp] theorem State.mon_updTimIn (s : State) (i j : Nat) (f : TimIn → TimIn) : (s.updTimIn i f).mon j = s.mon j := rfl
@[simp] theorem State.dpllx_updTimIn (s : State) (i j : Nat) (f : TimIn → TimIn) : (s.updTimIn i f).dpllx j = s.dpllx j := rfl
@[simp] theorem State.pll_updTimIn (s : State) (i j : Nat) (f : TimIn → TimIn) : (s.updTimIn i f).pll j = s.pll j := rfl
@[simp] theorem State.chan_updTimIn (s : State) (i j : Nat) (f : TimIn → TimIn) : (s.updTimIn i f).chan j = s.chan j := rfl
@[simp] theorem State.timCh_updTimIn (s : State) (i j : Nat) (f : TimIn → TimIn) : (s.updTimIn i f).timCh j = s.timCh j := rfl
@[simp] theorem State.lane_updTimIn (s : State) (i j : Nat) (f : TimIn → TimIn) : (s.updTimIn i f).lane j = s.lane j := rfl
@[simp] theorem State.slot_updTimIn (s : State) (i j : Nat) (f : TimIn → TimIn) : (s.updTimIn i f).slot j = s.slot j := rfl
@[simp] theorem State.core_updTimIn (s : State) (i j : Nat) (f : TimIn → TimIn) : (s.updTimIn i f).core j = s.core j := rfl
@[simp] theorem State.chEnd_updTimIn (s : State) (i j : Nat) (f : TimIn → TimIn) : (s.updTimIn i f).chEnd j = s.chEnd j := rfl
@[simp] theorem State.sem_updTimIn (s : State) (i j : Nat) (f : TimIn → TimIn) : (s.updTimIn i f).sem j = s.sem j := rfl
@[simp] theorem State.fwChan_updTimIn (s : State) (i j : Nat) (f : TimIn → TimIn) : (s.updTimIn i f).fwChan j = s.fwChan j := rfl
@[simp] theorem State.agg_updTimIn (s : State) (i j : Nat) (f : TimIn → TimIn) : (s.updTimIn i f).agg j = s.agg j := rfl
@[simp] theorem State.cltEntry_updTimIn (s : State) (i j : Nat) (f : TimIn → TimIn) : (s.updTimIn i f).cltEntry j = s.cltEntry j := rfl
@[simp] theorem State.rd_updTimIn (s : State) (i a : Nat) (f : TimIn → TimIn) : (s.updTimIn i f).rd a = s.rd a := rfl
@[simp] theorem State.ac_updTimIn (s : State) (i a : Nat) (f : TimIn → TimIn) : (s.updTimIn i f).ac a = s.ac a := rfl
@[simp] theorem State.sh_updTimIn (s : State) (i a : Nat) (f : TimIn → TimIn) : (s.updTimIn i f).sh a = s.sh a := rfl

/-! ### `State.updTimCh` -/

@[simp] theorem State.updTimCh_live (s : State) (i : Nat) (f : TimCh → TimCh) : (s.updTimCh i f).live = s.live := rfl
@[simp] theorem State.updTimCh_shadow (s : State) (i : Nat) (f : TimCh → TimCh) : (s.updTimCh i f).shadow = s.shadow := rfl
@[simp] theorem State.updTimCh_active (s : State) (i : Nat) (f : TimCh → TimCh) : (s.updTimCh i f).active = s.active := rfl
@[simp] theorem State.updTimCh_time (s : State) (i : Nat) (f : TimCh → TimCh) : (s.updTimCh i f).time = s.time := rfl
@[simp] theorem State.updTimCh_vbat (s : State) (i : Nat) (f : TimCh → TimCh) : (s.updTimCh i f).vbat = s.vbat := rfl
@[simp] theorem State.updTimCh_otp (s : State) (i : Nat) (f : TimCh → TimCh) : (s.updTimCh i f).otp = s.otp := rfl
@[simp] theorem State.updTimCh_boot (s : State) (i : Nat) (f : TimCh → TimCh) : (s.updTimCh i f).boot = s.boot := rfl
@[simp] theorem State.updTimCh_serve (s : State) (i : Nat) (f : TimCh → TimCh) : (s.updTimCh i f).serve = s.serve := rfl
@[simp] theorem State.updTimCh_cfg (s : State) (i : Nat) (f : TimCh → TimCh) : (s.updTimCh i f).cfg = s.cfg := rfl
@[simp] theorem State.updTimCh_evt (s : State) (i : Nat) (f : TimCh → TimCh) : (s.updTimCh i f).evt = s.evt := rfl
@[simp] theorem State.updTimCh_mbx (s : State) (i : Nat) (f : TimCh → TimCh) : (s.updTimCh i f).mbx = s.mbx := rfl
@[simp] theorem State.updTimCh_bus (s : State) (i : Nat) (f : TimCh → TimCh) : (s.updTimCh i f).bus = s.bus := rfl
@[simp] theorem State.updTimCh_ports (s : State) (i : Nat) (f : TimCh → TimCh) : (s.updTimCh i f).ports = s.ports := rfl
@[simp] theorem State.updTimCh_cals (s : State) (i : Nat) (f : TimCh → TimCh) : (s.updTimCh i f).cals = s.cals := rfl
@[simp] theorem State.updTimCh_rwl (s : State) (i : Nat) (f : TimCh → TimCh) : (s.updTimCh i f).rwl = s.rwl := rfl
@[simp] theorem State.updTimCh_cls (s : State) (i : Nat) (f : TimCh → TimCh) : (s.updTimCh i f).cls = s.cls := rfl
@[simp] theorem State.updTimCh_clus (s : State) (i : Nat) (f : TimCh → TimCh) : (s.updTimCh i f).clus = s.clus := rfl
@[simp] theorem State.updTimCh_clt (s : State) (i : Nat) (f : TimCh → TimCh) : (s.updTimCh i f).clt = s.clt := rfl
@[simp] theorem State.updTimCh_srv (s : State) (i : Nat) (f : TimCh → TimCh) : (s.updTimCh i f).srv = s.srv := rfl
@[simp] theorem State.updTimCh_rt (s : State) (i : Nat) (f : TimCh → TimCh) : (s.updTimCh i f).rt = s.rt := rfl
@[simp] theorem State.updTimCh_ptp (s : State) (i : Nat) (f : TimCh → TimCh) : (s.updTimCh i f).ptp = s.ptp := rfl
@[simp] theorem State.updTimCh_pke (s : State) (i : Nat) (f : TimCh → TimCh) : (s.updTimCh i f).pke = s.pke := rfl
@[simp] theorem State.updTimCh_ref (s : State) (i : Nat) (f : TimCh → TimCh) : (s.updTimCh i f).ref = s.ref := rfl
@[simp] theorem State.updTimCh_clk (s : State) (i : Nat) (f : TimCh → TimCh) : (s.updTimCh i f).clk = s.clk := rfl
@[simp] theorem State.updTimCh_gns (s : State) (i : Nat) (f : TimCh → TimCh) : (s.updTimCh i f).gns = s.gns := rfl
@[simp] theorem State.updTimCh_evl (s : State) (i : Nat) (f : TimCh → TimCh) : (s.updTimCh i f).evl = s.evl := rfl
@[simp] theorem State.updTimCh_draws (s : State) (i : Nat) (f : TimCh → TimCh) : (s.updTimCh i f).draws = s.draws := rfl
@[simp] theorem State.updTimCh_frees (s : State) (i : Nat) (f : TimCh → TimCh) : (s.updTimCh i f).frees = s.frees := rfl
@[simp] theorem State.updTimCh_outbox (s : State) (i : Nat) (f : TimCh → TimCh) : (s.updTimCh i f).outbox = s.outbox := rfl
@[simp] theorem State.updTimCh_pending (s : State) (i : Nat) (f : TimCh → TimCh) : (s.updTimCh i f).pending = s.pending := rfl

@[simp] theorem State.timCh_updTimCh_same (s : State) (i : Nat) (f : TimCh → TimCh) : (s.updTimCh i f).timCh i = f (s.timCh i) :=
  tget_tupd_same ..

theorem State.timCh_updTimCh_ne (s : State) {i j : Nat} (f : TimCh → TimCh) (h : j ≠ i) : (s.updTimCh i f).timCh j = s.timCh j :=
  tget_tupd_ne _ _ _ h

@[simp] theorem State.port_updTimCh (s : State) (i j : Nat) (f : TimCh → TimCh) : (s.updTimCh i f).port j = s.port j := rfl
@[simp] theorem State.cal_updTimCh (s : State) (i j : Nat) (f : TimCh → TimCh) : (s.updTimCh i f).cal j = s.cal j := rfl
@[simp] theorem State.clu_updTimCh (s : State) (i j : Nat) (f : TimCh → TimCh) : (s.updTimCh i f).clu j = s.clu j := rfl
@[simp] theorem State.ptpPort_updTimCh (s : State) (i j : Nat) (f : TimCh → TimCh) : (s.updTimCh i f).ptpPort j = s.ptpPort j := rfl
@[simp] theorem State.grant_updTimCh (s : State) (i j : Nat) (f : TimCh → TimCh) : (s.updTimCh i f).grant j = s.grant j := rfl
@[simp] theorem State.client_updTimCh (s : State) (i j : Nat) (f : TimCh → TimCh) : (s.updTimCh i f).client j = s.client j := rfl
@[simp] theorem State.symKey_updTimCh (s : State) (i j : Nat) (f : TimCh → TimCh) : (s.updTimCh i f).symKey j = s.symKey j := rfl
@[simp] theorem State.annexKey_updTimCh (s : State) (i j : Nat) (f : TimCh → TimCh) : (s.updTimCh i f).annexKey j = s.annexKey j := rfl
@[simp] theorem State.openCarafe_updTimCh (s : State) (i j : Nat) (f : TimCh → TimCh) : (s.updTimCh i f).openCarafe j = s.openCarafe j := rfl
@[simp] theorem State.eng_updTimCh (s : State) (i j : Nat) (f : TimCh → TimCh) : (s.updTimCh i f).eng j = s.eng j := rfl
@[simp] theorem State.kslot_updTimCh (s : State) (i j : Nat) (f : TimCh → TimCh) : (s.updTimCh i f).kslot j = s.kslot j := rfl
@[simp] theorem State.mon_updTimCh (s : State) (i j : Nat) (f : TimCh → TimCh) : (s.updTimCh i f).mon j = s.mon j := rfl
@[simp] theorem State.dpllx_updTimCh (s : State) (i j : Nat) (f : TimCh → TimCh) : (s.updTimCh i f).dpllx j = s.dpllx j := rfl
@[simp] theorem State.pll_updTimCh (s : State) (i j : Nat) (f : TimCh → TimCh) : (s.updTimCh i f).pll j = s.pll j := rfl
@[simp] theorem State.chan_updTimCh (s : State) (i j : Nat) (f : TimCh → TimCh) : (s.updTimCh i f).chan j = s.chan j := rfl
@[simp] theorem State.timIn_updTimCh (s : State) (i j : Nat) (f : TimCh → TimCh) : (s.updTimCh i f).timIn j = s.timIn j := rfl
@[simp] theorem State.lane_updTimCh (s : State) (i j : Nat) (f : TimCh → TimCh) : (s.updTimCh i f).lane j = s.lane j := rfl
@[simp] theorem State.slot_updTimCh (s : State) (i j : Nat) (f : TimCh → TimCh) : (s.updTimCh i f).slot j = s.slot j := rfl
@[simp] theorem State.core_updTimCh (s : State) (i j : Nat) (f : TimCh → TimCh) : (s.updTimCh i f).core j = s.core j := rfl
@[simp] theorem State.chEnd_updTimCh (s : State) (i j : Nat) (f : TimCh → TimCh) : (s.updTimCh i f).chEnd j = s.chEnd j := rfl
@[simp] theorem State.sem_updTimCh (s : State) (i j : Nat) (f : TimCh → TimCh) : (s.updTimCh i f).sem j = s.sem j := rfl
@[simp] theorem State.fwChan_updTimCh (s : State) (i j : Nat) (f : TimCh → TimCh) : (s.updTimCh i f).fwChan j = s.fwChan j := rfl
@[simp] theorem State.agg_updTimCh (s : State) (i j : Nat) (f : TimCh → TimCh) : (s.updTimCh i f).agg j = s.agg j := rfl
@[simp] theorem State.cltEntry_updTimCh (s : State) (i j : Nat) (f : TimCh → TimCh) : (s.updTimCh i f).cltEntry j = s.cltEntry j := rfl
@[simp] theorem State.rd_updTimCh (s : State) (i a : Nat) (f : TimCh → TimCh) : (s.updTimCh i f).rd a = s.rd a := rfl
@[simp] theorem State.ac_updTimCh (s : State) (i a : Nat) (f : TimCh → TimCh) : (s.updTimCh i f).ac a = s.ac a := rfl
@[simp] theorem State.sh_updTimCh (s : State) (i a : Nat) (f : TimCh → TimCh) : (s.updTimCh i f).sh a = s.sh a := rfl

/-! ### `State.updLane` -/

@[simp] theorem State.updLane_live (s : State) (i : Nat) (f : Lane → Lane) : (s.updLane i f).live = s.live := rfl
@[simp] theorem State.updLane_shadow (s : State) (i : Nat) (f : Lane → Lane) : (s.updLane i f).shadow = s.shadow := rfl
@[simp] theorem State.updLane_active (s : State) (i : Nat) (f : Lane → Lane) : (s.updLane i f).active = s.active := rfl
@[simp] theorem State.updLane_time (s : State) (i : Nat) (f : Lane → Lane) : (s.updLane i f).time = s.time := rfl
@[simp] theorem State.updLane_vbat (s : State) (i : Nat) (f : Lane → Lane) : (s.updLane i f).vbat = s.vbat := rfl
@[simp] theorem State.updLane_otp (s : State) (i : Nat) (f : Lane → Lane) : (s.updLane i f).otp = s.otp := rfl
@[simp] theorem State.updLane_boot (s : State) (i : Nat) (f : Lane → Lane) : (s.updLane i f).boot = s.boot := rfl
@[simp] theorem State.updLane_serve (s : State) (i : Nat) (f : Lane → Lane) : (s.updLane i f).serve = s.serve := rfl
@[simp] theorem State.updLane_cfg (s : State) (i : Nat) (f : Lane → Lane) : (s.updLane i f).cfg = s.cfg := rfl
@[simp] theorem State.updLane_evt (s : State) (i : Nat) (f : Lane → Lane) : (s.updLane i f).evt = s.evt := rfl
@[simp] theorem State.updLane_mbx (s : State) (i : Nat) (f : Lane → Lane) : (s.updLane i f).mbx = s.mbx := rfl
@[simp] theorem State.updLane_bus (s : State) (i : Nat) (f : Lane → Lane) : (s.updLane i f).bus = s.bus := rfl
@[simp] theorem State.updLane_ports (s : State) (i : Nat) (f : Lane → Lane) : (s.updLane i f).ports = s.ports := rfl
@[simp] theorem State.updLane_cals (s : State) (i : Nat) (f : Lane → Lane) : (s.updLane i f).cals = s.cals := rfl
@[simp] theorem State.updLane_rwl (s : State) (i : Nat) (f : Lane → Lane) : (s.updLane i f).rwl = s.rwl := rfl
@[simp] theorem State.updLane_cls (s : State) (i : Nat) (f : Lane → Lane) : (s.updLane i f).cls = s.cls := rfl
@[simp] theorem State.updLane_clus (s : State) (i : Nat) (f : Lane → Lane) : (s.updLane i f).clus = s.clus := rfl
@[simp] theorem State.updLane_clt (s : State) (i : Nat) (f : Lane → Lane) : (s.updLane i f).clt = s.clt := rfl
@[simp] theorem State.updLane_srv (s : State) (i : Nat) (f : Lane → Lane) : (s.updLane i f).srv = s.srv := rfl
@[simp] theorem State.updLane_rt (s : State) (i : Nat) (f : Lane → Lane) : (s.updLane i f).rt = s.rt := rfl
@[simp] theorem State.updLane_ptp (s : State) (i : Nat) (f : Lane → Lane) : (s.updLane i f).ptp = s.ptp := rfl
@[simp] theorem State.updLane_pke (s : State) (i : Nat) (f : Lane → Lane) : (s.updLane i f).pke = s.pke := rfl
@[simp] theorem State.updLane_ref (s : State) (i : Nat) (f : Lane → Lane) : (s.updLane i f).ref = s.ref := rfl
@[simp] theorem State.updLane_clk (s : State) (i : Nat) (f : Lane → Lane) : (s.updLane i f).clk = s.clk := rfl
@[simp] theorem State.updLane_gns (s : State) (i : Nat) (f : Lane → Lane) : (s.updLane i f).gns = s.gns := rfl
@[simp] theorem State.updLane_tim (s : State) (i : Nat) (f : Lane → Lane) : (s.updLane i f).tim = s.tim := rfl
@[simp] theorem State.updLane_draws (s : State) (i : Nat) (f : Lane → Lane) : (s.updLane i f).draws = s.draws := rfl
@[simp] theorem State.updLane_frees (s : State) (i : Nat) (f : Lane → Lane) : (s.updLane i f).frees = s.frees := rfl
@[simp] theorem State.updLane_outbox (s : State) (i : Nat) (f : Lane → Lane) : (s.updLane i f).outbox = s.outbox := rfl
@[simp] theorem State.updLane_pending (s : State) (i : Nat) (f : Lane → Lane) : (s.updLane i f).pending = s.pending := rfl

@[simp] theorem State.lane_updLane_same (s : State) (i : Nat) (f : Lane → Lane) : (s.updLane i f).lane i = f (s.lane i) :=
  tget_tupd_same ..

theorem State.lane_updLane_ne (s : State) {i j : Nat} (f : Lane → Lane) (h : j ≠ i) : (s.updLane i f).lane j = s.lane j :=
  tget_tupd_ne _ _ _ h

@[simp] theorem State.port_updLane (s : State) (i j : Nat) (f : Lane → Lane) : (s.updLane i f).port j = s.port j := rfl
@[simp] theorem State.cal_updLane (s : State) (i j : Nat) (f : Lane → Lane) : (s.updLane i f).cal j = s.cal j := rfl
@[simp] theorem State.clu_updLane (s : State) (i j : Nat) (f : Lane → Lane) : (s.updLane i f).clu j = s.clu j := rfl
@[simp] theorem State.ptpPort_updLane (s : State) (i j : Nat) (f : Lane → Lane) : (s.updLane i f).ptpPort j = s.ptpPort j := rfl
@[simp] theorem State.grant_updLane (s : State) (i j : Nat) (f : Lane → Lane) : (s.updLane i f).grant j = s.grant j := rfl
@[simp] theorem State.client_updLane (s : State) (i j : Nat) (f : Lane → Lane) : (s.updLane i f).client j = s.client j := rfl
@[simp] theorem State.symKey_updLane (s : State) (i j : Nat) (f : Lane → Lane) : (s.updLane i f).symKey j = s.symKey j := rfl
@[simp] theorem State.annexKey_updLane (s : State) (i j : Nat) (f : Lane → Lane) : (s.updLane i f).annexKey j = s.annexKey j := rfl
@[simp] theorem State.openCarafe_updLane (s : State) (i j : Nat) (f : Lane → Lane) : (s.updLane i f).openCarafe j = s.openCarafe j := rfl
@[simp] theorem State.eng_updLane (s : State) (i j : Nat) (f : Lane → Lane) : (s.updLane i f).eng j = s.eng j := rfl
@[simp] theorem State.kslot_updLane (s : State) (i j : Nat) (f : Lane → Lane) : (s.updLane i f).kslot j = s.kslot j := rfl
@[simp] theorem State.mon_updLane (s : State) (i j : Nat) (f : Lane → Lane) : (s.updLane i f).mon j = s.mon j := rfl
@[simp] theorem State.dpllx_updLane (s : State) (i j : Nat) (f : Lane → Lane) : (s.updLane i f).dpllx j = s.dpllx j := rfl
@[simp] theorem State.pll_updLane (s : State) (i j : Nat) (f : Lane → Lane) : (s.updLane i f).pll j = s.pll j := rfl
@[simp] theorem State.chan_updLane (s : State) (i j : Nat) (f : Lane → Lane) : (s.updLane i f).chan j = s.chan j := rfl
@[simp] theorem State.timIn_updLane (s : State) (i j : Nat) (f : Lane → Lane) : (s.updLane i f).timIn j = s.timIn j := rfl
@[simp] theorem State.timCh_updLane (s : State) (i j : Nat) (f : Lane → Lane) : (s.updLane i f).timCh j = s.timCh j := rfl
@[simp] theorem State.slot_updLane (s : State) (i j : Nat) (f : Lane → Lane) : (s.updLane i f).slot j = s.slot j := rfl
@[simp] theorem State.core_updLane (s : State) (i j : Nat) (f : Lane → Lane) : (s.updLane i f).core j = s.core j := rfl
@[simp] theorem State.chEnd_updLane (s : State) (i j : Nat) (f : Lane → Lane) : (s.updLane i f).chEnd j = s.chEnd j := rfl
@[simp] theorem State.sem_updLane (s : State) (i j : Nat) (f : Lane → Lane) : (s.updLane i f).sem j = s.sem j := rfl
@[simp] theorem State.fwChan_updLane (s : State) (i j : Nat) (f : Lane → Lane) : (s.updLane i f).fwChan j = s.fwChan j := rfl
@[simp] theorem State.agg_updLane (s : State) (i j : Nat) (f : Lane → Lane) : (s.updLane i f).agg j = s.agg j := rfl
@[simp] theorem State.cltEntry_updLane (s : State) (i j : Nat) (f : Lane → Lane) : (s.updLane i f).cltEntry j = s.cltEntry j := rfl
@[simp] theorem State.rd_updLane (s : State) (i a : Nat) (f : Lane → Lane) : (s.updLane i f).rd a = s.rd a := rfl
@[simp] theorem State.ac_updLane (s : State) (i a : Nat) (f : Lane → Lane) : (s.updLane i f).ac a = s.ac a := rfl
@[simp] theorem State.sh_updLane (s : State) (i a : Nat) (f : Lane → Lane) : (s.updLane i f).sh a = s.sh a := rfl

/-! ### `State.updSlot` -/

@[simp] theorem State.updSlot_live (s : State) (i : Nat) (f : Slot → Slot) : (s.updSlot i f).live = s.live := rfl
@[simp] theorem State.updSlot_shadow (s : State) (i : Nat) (f : Slot → Slot) : (s.updSlot i f).shadow = s.shadow := rfl
@[simp] theorem State.updSlot_active (s : State) (i : Nat) (f : Slot → Slot) : (s.updSlot i f).active = s.active := rfl
@[simp] theorem State.updSlot_vbat (s : State) (i : Nat) (f : Slot → Slot) : (s.updSlot i f).vbat = s.vbat := rfl
@[simp] theorem State.updSlot_otp (s : State) (i : Nat) (f : Slot → Slot) : (s.updSlot i f).otp = s.otp := rfl
@[simp] theorem State.updSlot_boot (s : State) (i : Nat) (f : Slot → Slot) : (s.updSlot i f).boot = s.boot := rfl
@[simp] theorem State.updSlot_serve (s : State) (i : Nat) (f : Slot → Slot) : (s.updSlot i f).serve = s.serve := rfl
@[simp] theorem State.updSlot_cfg (s : State) (i : Nat) (f : Slot → Slot) : (s.updSlot i f).cfg = s.cfg := rfl
@[simp] theorem State.updSlot_evt (s : State) (i : Nat) (f : Slot → Slot) : (s.updSlot i f).evt = s.evt := rfl
@[simp] theorem State.updSlot_mbx (s : State) (i : Nat) (f : Slot → Slot) : (s.updSlot i f).mbx = s.mbx := rfl
@[simp] theorem State.updSlot_bus (s : State) (i : Nat) (f : Slot → Slot) : (s.updSlot i f).bus = s.bus := rfl
@[simp] theorem State.updSlot_ports (s : State) (i : Nat) (f : Slot → Slot) : (s.updSlot i f).ports = s.ports := rfl
@[simp] theorem State.updSlot_cals (s : State) (i : Nat) (f : Slot → Slot) : (s.updSlot i f).cals = s.cals := rfl
@[simp] theorem State.updSlot_rwl (s : State) (i : Nat) (f : Slot → Slot) : (s.updSlot i f).rwl = s.rwl := rfl
@[simp] theorem State.updSlot_cls (s : State) (i : Nat) (f : Slot → Slot) : (s.updSlot i f).cls = s.cls := rfl
@[simp] theorem State.updSlot_clus (s : State) (i : Nat) (f : Slot → Slot) : (s.updSlot i f).clus = s.clus := rfl
@[simp] theorem State.updSlot_clt (s : State) (i : Nat) (f : Slot → Slot) : (s.updSlot i f).clt = s.clt := rfl
@[simp] theorem State.updSlot_srv (s : State) (i : Nat) (f : Slot → Slot) : (s.updSlot i f).srv = s.srv := rfl
@[simp] theorem State.updSlot_rt (s : State) (i : Nat) (f : Slot → Slot) : (s.updSlot i f).rt = s.rt := rfl
@[simp] theorem State.updSlot_ptp (s : State) (i : Nat) (f : Slot → Slot) : (s.updSlot i f).ptp = s.ptp := rfl
@[simp] theorem State.updSlot_pke (s : State) (i : Nat) (f : Slot → Slot) : (s.updSlot i f).pke = s.pke := rfl
@[simp] theorem State.updSlot_ref (s : State) (i : Nat) (f : Slot → Slot) : (s.updSlot i f).ref = s.ref := rfl
@[simp] theorem State.updSlot_clk (s : State) (i : Nat) (f : Slot → Slot) : (s.updSlot i f).clk = s.clk := rfl
@[simp] theorem State.updSlot_gns (s : State) (i : Nat) (f : Slot → Slot) : (s.updSlot i f).gns = s.gns := rfl
@[simp] theorem State.updSlot_tim (s : State) (i : Nat) (f : Slot → Slot) : (s.updSlot i f).tim = s.tim := rfl
@[simp] theorem State.updSlot_evl (s : State) (i : Nat) (f : Slot → Slot) : (s.updSlot i f).evl = s.evl := rfl
@[simp] theorem State.updSlot_draws (s : State) (i : Nat) (f : Slot → Slot) : (s.updSlot i f).draws = s.draws := rfl
@[simp] theorem State.updSlot_frees (s : State) (i : Nat) (f : Slot → Slot) : (s.updSlot i f).frees = s.frees := rfl
@[simp] theorem State.updSlot_outbox (s : State) (i : Nat) (f : Slot → Slot) : (s.updSlot i f).outbox = s.outbox := rfl
@[simp] theorem State.updSlot_pending (s : State) (i : Nat) (f : Slot → Slot) : (s.updSlot i f).pending = s.pending := rfl

@[simp] theorem State.slot_updSlot_same (s : State) (i : Nat) (f : Slot → Slot) : (s.updSlot i f).slot i = f (s.slot i) :=
  tget_tupd_same ..

theorem State.slot_updSlot_ne (s : State) {i j : Nat} (f : Slot → Slot) (h : j ≠ i) : (s.updSlot i f).slot j = s.slot j :=
  tget_tupd_ne _ _ _ h

@[simp] theorem State.port_updSlot (s : State) (i j : Nat) (f : Slot → Slot) : (s.updSlot i f).port j = s.port j := rfl
@[simp] theorem State.cal_updSlot (s : State) (i j : Nat) (f : Slot → Slot) : (s.updSlot i f).cal j = s.cal j := rfl
@[simp] theorem State.clu_updSlot (s : State) (i j : Nat) (f : Slot → Slot) : (s.updSlot i f).clu j = s.clu j := rfl
@[simp] theorem State.ptpPort_updSlot (s : State) (i j : Nat) (f : Slot → Slot) : (s.updSlot i f).ptpPort j = s.ptpPort j := rfl
@[simp] theorem State.grant_updSlot (s : State) (i j : Nat) (f : Slot → Slot) : (s.updSlot i f).grant j = s.grant j := rfl
@[simp] theorem State.client_updSlot (s : State) (i j : Nat) (f : Slot → Slot) : (s.updSlot i f).client j = s.client j := rfl
@[simp] theorem State.symKey_updSlot (s : State) (i j : Nat) (f : Slot → Slot) : (s.updSlot i f).symKey j = s.symKey j := rfl
@[simp] theorem State.annexKey_updSlot (s : State) (i j : Nat) (f : Slot → Slot) : (s.updSlot i f).annexKey j = s.annexKey j := rfl
@[simp] theorem State.openCarafe_updSlot (s : State) (i j : Nat) (f : Slot → Slot) : (s.updSlot i f).openCarafe j = s.openCarafe j := rfl
@[simp] theorem State.eng_updSlot (s : State) (i j : Nat) (f : Slot → Slot) : (s.updSlot i f).eng j = s.eng j := rfl
@[simp] theorem State.kslot_updSlot (s : State) (i j : Nat) (f : Slot → Slot) : (s.updSlot i f).kslot j = s.kslot j := rfl
@[simp] theorem State.mon_updSlot (s : State) (i j : Nat) (f : Slot → Slot) : (s.updSlot i f).mon j = s.mon j := rfl
@[simp] theorem State.dpllx_updSlot (s : State) (i j : Nat) (f : Slot → Slot) : (s.updSlot i f).dpllx j = s.dpllx j := rfl
@[simp] theorem State.pll_updSlot (s : State) (i j : Nat) (f : Slot → Slot) : (s.updSlot i f).pll j = s.pll j := rfl
@[simp] theorem State.chan_updSlot (s : State) (i j : Nat) (f : Slot → Slot) : (s.updSlot i f).chan j = s.chan j := rfl
@[simp] theorem State.timIn_updSlot (s : State) (i j : Nat) (f : Slot → Slot) : (s.updSlot i f).timIn j = s.timIn j := rfl
@[simp] theorem State.timCh_updSlot (s : State) (i j : Nat) (f : Slot → Slot) : (s.updSlot i f).timCh j = s.timCh j := rfl
@[simp] theorem State.lane_updSlot (s : State) (i j : Nat) (f : Slot → Slot) : (s.updSlot i f).lane j = s.lane j := rfl
@[simp] theorem State.core_updSlot (s : State) (i j : Nat) (f : Slot → Slot) : (s.updSlot i f).core j = s.core j := rfl
@[simp] theorem State.chEnd_updSlot (s : State) (i j : Nat) (f : Slot → Slot) : (s.updSlot i f).chEnd j = s.chEnd j := rfl
@[simp] theorem State.sem_updSlot (s : State) (i j : Nat) (f : Slot → Slot) : (s.updSlot i f).sem j = s.sem j := rfl
@[simp] theorem State.fwChan_updSlot (s : State) (i j : Nat) (f : Slot → Slot) : (s.updSlot i f).fwChan j = s.fwChan j := rfl
@[simp] theorem State.agg_updSlot (s : State) (i j : Nat) (f : Slot → Slot) : (s.updSlot i f).agg j = s.agg j := rfl
@[simp] theorem State.cltEntry_updSlot (s : State) (i j : Nat) (f : Slot → Slot) : (s.updSlot i f).cltEntry j = s.cltEntry j := rfl
@[simp] theorem State.rd_updSlot (s : State) (i a : Nat) (f : Slot → Slot) : (s.updSlot i f).rd a = s.rd a := rfl
@[simp] theorem State.ac_updSlot (s : State) (i a : Nat) (f : Slot → Slot) : (s.updSlot i f).ac a = s.ac a := rfl
@[simp] theorem State.sh_updSlot (s : State) (i a : Nat) (f : Slot → Slot) : (s.updSlot i f).sh a = s.sh a := rfl

/-! ### `State.updCore` -/

@[simp] theorem State.updCore_live (s : State) (i : Nat) (f : CoreSt → CoreSt) : (s.updCore i f).live = s.live := rfl
@[simp] theorem State.updCore_shadow (s : State) (i : Nat) (f : CoreSt → CoreSt) : (s.updCore i f).shadow = s.shadow := rfl
@[simp] theorem State.updCore_active (s : State) (i : Nat) (f : CoreSt → CoreSt) : (s.updCore i f).active = s.active := rfl
@[simp] theorem State.updCore_time (s : State) (i : Nat) (f : CoreSt → CoreSt) : (s.updCore i f).time = s.time := rfl
@[simp] theorem State.updCore_vbat (s : State) (i : Nat) (f : CoreSt → CoreSt) : (s.updCore i f).vbat = s.vbat := rfl
@[simp] theorem State.updCore_otp (s : State) (i : Nat) (f : CoreSt → CoreSt) : (s.updCore i f).otp = s.otp := rfl
@[simp] theorem State.updCore_boot (s : State) (i : Nat) (f : CoreSt → CoreSt) : (s.updCore i f).boot = s.boot := rfl
@[simp] theorem State.updCore_serve (s : State) (i : Nat) (f : CoreSt → CoreSt) : (s.updCore i f).serve = s.serve := rfl
@[simp] theorem State.updCore_cfg (s : State) (i : Nat) (f : CoreSt → CoreSt) : (s.updCore i f).cfg = s.cfg := rfl
@[simp] theorem State.updCore_evt (s : State) (i : Nat) (f : CoreSt → CoreSt) : (s.updCore i f).evt = s.evt := rfl
@[simp] theorem State.updCore_bus (s : State) (i : Nat) (f : CoreSt → CoreSt) : (s.updCore i f).bus = s.bus := rfl
@[simp] theorem State.updCore_ports (s : State) (i : Nat) (f : CoreSt → CoreSt) : (s.updCore i f).ports = s.ports := rfl
@[simp] theorem State.updCore_cals (s : State) (i : Nat) (f : CoreSt → CoreSt) : (s.updCore i f).cals = s.cals := rfl
@[simp] theorem State.updCore_rwl (s : State) (i : Nat) (f : CoreSt → CoreSt) : (s.updCore i f).rwl = s.rwl := rfl
@[simp] theorem State.updCore_cls (s : State) (i : Nat) (f : CoreSt → CoreSt) : (s.updCore i f).cls = s.cls := rfl
@[simp] theorem State.updCore_clus (s : State) (i : Nat) (f : CoreSt → CoreSt) : (s.updCore i f).clus = s.clus := rfl
@[simp] theorem State.updCore_clt (s : State) (i : Nat) (f : CoreSt → CoreSt) : (s.updCore i f).clt = s.clt := rfl
@[simp] theorem State.updCore_srv (s : State) (i : Nat) (f : CoreSt → CoreSt) : (s.updCore i f).srv = s.srv := rfl
@[simp] theorem State.updCore_rt (s : State) (i : Nat) (f : CoreSt → CoreSt) : (s.updCore i f).rt = s.rt := rfl
@[simp] theorem State.updCore_ptp (s : State) (i : Nat) (f : CoreSt → CoreSt) : (s.updCore i f).ptp = s.ptp := rfl
@[simp] theorem State.updCore_pke (s : State) (i : Nat) (f : CoreSt → CoreSt) : (s.updCore i f).pke = s.pke := rfl
@[simp] theorem State.updCore_ref (s : State) (i : Nat) (f : CoreSt → CoreSt) : (s.updCore i f).ref = s.ref := rfl
@[simp] theorem State.updCore_clk (s : State) (i : Nat) (f : CoreSt → CoreSt) : (s.updCore i f).clk = s.clk := rfl
@[simp] theorem State.updCore_gns (s : State) (i : Nat) (f : CoreSt → CoreSt) : (s.updCore i f).gns = s.gns := rfl
@[simp] theorem State.updCore_tim (s : State) (i : Nat) (f : CoreSt → CoreSt) : (s.updCore i f).tim = s.tim := rfl
@[simp] theorem State.updCore_evl (s : State) (i : Nat) (f : CoreSt → CoreSt) : (s.updCore i f).evl = s.evl := rfl
@[simp] theorem State.updCore_draws (s : State) (i : Nat) (f : CoreSt → CoreSt) : (s.updCore i f).draws = s.draws := rfl
@[simp] theorem State.updCore_frees (s : State) (i : Nat) (f : CoreSt → CoreSt) : (s.updCore i f).frees = s.frees := rfl
@[simp] theorem State.updCore_outbox (s : State) (i : Nat) (f : CoreSt → CoreSt) : (s.updCore i f).outbox = s.outbox := rfl
@[simp] theorem State.updCore_pending (s : State) (i : Nat) (f : CoreSt → CoreSt) : (s.updCore i f).pending = s.pending := rfl

@[simp] theorem State.core_updCore_same (s : State) (i : Nat) (f : CoreSt → CoreSt) : (s.updCore i f).core i = f (s.core i) :=
  tget_tupd_same ..

theorem State.core_updCore_ne (s : State) {i j : Nat} (f : CoreSt → CoreSt) (h : j ≠ i) : (s.updCore i f).core j = s.core j :=
  tget_tupd_ne _ _ _ h

@[simp] theorem State.port_updCore (s : State) (i j : Nat) (f : CoreSt → CoreSt) : (s.updCore i f).port j = s.port j := rfl
@[simp] theorem State.cal_updCore (s : State) (i j : Nat) (f : CoreSt → CoreSt) : (s.updCore i f).cal j = s.cal j := rfl
@[simp] theorem State.clu_updCore (s : State) (i j : Nat) (f : CoreSt → CoreSt) : (s.updCore i f).clu j = s.clu j := rfl
@[simp] theorem State.ptpPort_updCore (s : State) (i j : Nat) (f : CoreSt → CoreSt) : (s.updCore i f).ptpPort j = s.ptpPort j := rfl
@[simp] theorem State.grant_updCore (s : State) (i j : Nat) (f : CoreSt → CoreSt) : (s.updCore i f).grant j = s.grant j := rfl
@[simp] theorem State.client_updCore (s : State) (i j : Nat) (f : CoreSt → CoreSt) : (s.updCore i f).client j = s.client j := rfl
@[simp] theorem State.symKey_updCore (s : State) (i j : Nat) (f : CoreSt → CoreSt) : (s.updCore i f).symKey j = s.symKey j := rfl
@[simp] theorem State.annexKey_updCore (s : State) (i j : Nat) (f : CoreSt → CoreSt) : (s.updCore i f).annexKey j = s.annexKey j := rfl
@[simp] theorem State.openCarafe_updCore (s : State) (i j : Nat) (f : CoreSt → CoreSt) : (s.updCore i f).openCarafe j = s.openCarafe j := rfl
@[simp] theorem State.eng_updCore (s : State) (i j : Nat) (f : CoreSt → CoreSt) : (s.updCore i f).eng j = s.eng j := rfl
@[simp] theorem State.kslot_updCore (s : State) (i j : Nat) (f : CoreSt → CoreSt) : (s.updCore i f).kslot j = s.kslot j := rfl
@[simp] theorem State.mon_updCore (s : State) (i j : Nat) (f : CoreSt → CoreSt) : (s.updCore i f).mon j = s.mon j := rfl
@[simp] theorem State.dpllx_updCore (s : State) (i j : Nat) (f : CoreSt → CoreSt) : (s.updCore i f).dpllx j = s.dpllx j := rfl
@[simp] theorem State.pll_updCore (s : State) (i j : Nat) (f : CoreSt → CoreSt) : (s.updCore i f).pll j = s.pll j := rfl
@[simp] theorem State.chan_updCore (s : State) (i j : Nat) (f : CoreSt → CoreSt) : (s.updCore i f).chan j = s.chan j := rfl
@[simp] theorem State.timIn_updCore (s : State) (i j : Nat) (f : CoreSt → CoreSt) : (s.updCore i f).timIn j = s.timIn j := rfl
@[simp] theorem State.timCh_updCore (s : State) (i j : Nat) (f : CoreSt → CoreSt) : (s.updCore i f).timCh j = s.timCh j := rfl
@[simp] theorem State.lane_updCore (s : State) (i j : Nat) (f : CoreSt → CoreSt) : (s.updCore i f).lane j = s.lane j := rfl
@[simp] theorem State.slot_updCore (s : State) (i j : Nat) (f : CoreSt → CoreSt) : (s.updCore i f).slot j = s.slot j := rfl
@[simp] theorem State.chEnd_updCore (s : State) (i j : Nat) (f : CoreSt → CoreSt) : (s.updCore i f).chEnd j = s.chEnd j := rfl
@[simp] theorem State.sem_updCore (s : State) (i j : Nat) (f : CoreSt → CoreSt) : (s.updCore i f).sem j = s.sem j := rfl
@[simp] theorem State.fwChan_updCore (s : State) (i j : Nat) (f : CoreSt → CoreSt) : (s.updCore i f).fwChan j = s.fwChan j := rfl
@[simp] theorem State.agg_updCore (s : State) (i j : Nat) (f : CoreSt → CoreSt) : (s.updCore i f).agg j = s.agg j := rfl
@[simp] theorem State.cltEntry_updCore (s : State) (i j : Nat) (f : CoreSt → CoreSt) : (s.updCore i f).cltEntry j = s.cltEntry j := rfl
@[simp] theorem State.rd_updCore (s : State) (i a : Nat) (f : CoreSt → CoreSt) : (s.updCore i f).rd a = s.rd a := rfl
@[simp] theorem State.ac_updCore (s : State) (i a : Nat) (f : CoreSt → CoreSt) : (s.updCore i f).ac a = s.ac a := rfl
@[simp] theorem State.sh_updCore (s : State) (i a : Nat) (f : CoreSt → CoreSt) : (s.updCore i f).sh a = s.sh a := rfl

/-! ### `State.updChEnd` -/

@[simp] theorem State.updChEnd_live (s : State) (i : Nat) (f : ChanEnd → ChanEnd) : (s.updChEnd i f).live = s.live := rfl
@[simp] theorem State.updChEnd_shadow (s : State) (i : Nat) (f : ChanEnd → ChanEnd) : (s.updChEnd i f).shadow = s.shadow := rfl
@[simp] theorem State.updChEnd_active (s : State) (i : Nat) (f : ChanEnd → ChanEnd) : (s.updChEnd i f).active = s.active := rfl
@[simp] theorem State.updChEnd_time (s : State) (i : Nat) (f : ChanEnd → ChanEnd) : (s.updChEnd i f).time = s.time := rfl
@[simp] theorem State.updChEnd_vbat (s : State) (i : Nat) (f : ChanEnd → ChanEnd) : (s.updChEnd i f).vbat = s.vbat := rfl
@[simp] theorem State.updChEnd_otp (s : State) (i : Nat) (f : ChanEnd → ChanEnd) : (s.updChEnd i f).otp = s.otp := rfl
@[simp] theorem State.updChEnd_boot (s : State) (i : Nat) (f : ChanEnd → ChanEnd) : (s.updChEnd i f).boot = s.boot := rfl
@[simp] theorem State.updChEnd_serve (s : State) (i : Nat) (f : ChanEnd → ChanEnd) : (s.updChEnd i f).serve = s.serve := rfl
@[simp] theorem State.updChEnd_cfg (s : State) (i : Nat) (f : ChanEnd → ChanEnd) : (s.updChEnd i f).cfg = s.cfg := rfl
@[simp] theorem State.updChEnd_evt (s : State) (i : Nat) (f : ChanEnd → ChanEnd) : (s.updChEnd i f).evt = s.evt := rfl
@[simp] theorem State.updChEnd_bus (s : State) (i : Nat) (f : ChanEnd → ChanEnd) : (s.updChEnd i f).bus = s.bus := rfl
@[simp] theorem State.updChEnd_ports (s : State) (i : Nat) (f : ChanEnd → ChanEnd) : (s.updChEnd i f).ports = s.ports := rfl
@[simp] theorem State.updChEnd_cals (s : State) (i : Nat) (f : ChanEnd → ChanEnd) : (s.updChEnd i f).cals = s.cals := rfl
@[simp] theorem State.updChEnd_rwl (s : State) (i : Nat) (f : ChanEnd → ChanEnd) : (s.updChEnd i f).rwl = s.rwl := rfl
@[simp] theorem State.updChEnd_cls (s : State) (i : Nat) (f : ChanEnd → ChanEnd) : (s.updChEnd i f).cls = s.cls := rfl
@[simp] theorem State.updChEnd_clus (s : State) (i : Nat) (f : ChanEnd → ChanEnd) : (s.updChEnd i f).clus = s.clus := rfl
@[simp] theorem State.updChEnd_clt (s : State) (i : Nat) (f : ChanEnd → ChanEnd) : (s.updChEnd i f).clt = s.clt := rfl
@[simp] theorem State.updChEnd_srv (s : State) (i : Nat) (f : ChanEnd → ChanEnd) : (s.updChEnd i f).srv = s.srv := rfl
@[simp] theorem State.updChEnd_rt (s : State) (i : Nat) (f : ChanEnd → ChanEnd) : (s.updChEnd i f).rt = s.rt := rfl
@[simp] theorem State.updChEnd_ptp (s : State) (i : Nat) (f : ChanEnd → ChanEnd) : (s.updChEnd i f).ptp = s.ptp := rfl
@[simp] theorem State.updChEnd_pke (s : State) (i : Nat) (f : ChanEnd → ChanEnd) : (s.updChEnd i f).pke = s.pke := rfl
@[simp] theorem State.updChEnd_ref (s : State) (i : Nat) (f : ChanEnd → ChanEnd) : (s.updChEnd i f).ref = s.ref := rfl
@[simp] theorem State.updChEnd_clk (s : State) (i : Nat) (f : ChanEnd → ChanEnd) : (s.updChEnd i f).clk = s.clk := rfl
@[simp] theorem State.updChEnd_gns (s : State) (i : Nat) (f : ChanEnd → ChanEnd) : (s.updChEnd i f).gns = s.gns := rfl
@[simp] theorem State.updChEnd_tim (s : State) (i : Nat) (f : ChanEnd → ChanEnd) : (s.updChEnd i f).tim = s.tim := rfl
@[simp] theorem State.updChEnd_evl (s : State) (i : Nat) (f : ChanEnd → ChanEnd) : (s.updChEnd i f).evl = s.evl := rfl
@[simp] theorem State.updChEnd_draws (s : State) (i : Nat) (f : ChanEnd → ChanEnd) : (s.updChEnd i f).draws = s.draws := rfl
@[simp] theorem State.updChEnd_frees (s : State) (i : Nat) (f : ChanEnd → ChanEnd) : (s.updChEnd i f).frees = s.frees := rfl
@[simp] theorem State.updChEnd_outbox (s : State) (i : Nat) (f : ChanEnd → ChanEnd) : (s.updChEnd i f).outbox = s.outbox := rfl
@[simp] theorem State.updChEnd_pending (s : State) (i : Nat) (f : ChanEnd → ChanEnd) : (s.updChEnd i f).pending = s.pending := rfl

@[simp] theorem State.chEnd_updChEnd_same (s : State) (i : Nat) (f : ChanEnd → ChanEnd) : (s.updChEnd i f).chEnd i = f (s.chEnd i) :=
  tget_tupd_same ..

theorem State.chEnd_updChEnd_ne (s : State) {i j : Nat} (f : ChanEnd → ChanEnd) (h : j ≠ i) : (s.updChEnd i f).chEnd j = s.chEnd j :=
  tget_tupd_ne _ _ _ h

@[simp] theorem State.port_updChEnd (s : State) (i j : Nat) (f : ChanEnd → ChanEnd) : (s.updChEnd i f).port j = s.port j := rfl
@[simp] theorem State.cal_updChEnd (s : State) (i j : Nat) (f : ChanEnd → ChanEnd) : (s.updChEnd i f).cal j = s.cal j := rfl
@[simp] theorem State.clu_updChEnd (s : State) (i j : Nat) (f : ChanEnd → ChanEnd) : (s.updChEnd i f).clu j = s.clu j := rfl
@[simp] theorem State.ptpPort_updChEnd (s : State) (i j : Nat) (f : ChanEnd → ChanEnd) : (s.updChEnd i f).ptpPort j = s.ptpPort j := rfl
@[simp] theorem State.grant_updChEnd (s : State) (i j : Nat) (f : ChanEnd → ChanEnd) : (s.updChEnd i f).grant j = s.grant j := rfl
@[simp] theorem State.client_updChEnd (s : State) (i j : Nat) (f : ChanEnd → ChanEnd) : (s.updChEnd i f).client j = s.client j := rfl
@[simp] theorem State.symKey_updChEnd (s : State) (i j : Nat) (f : ChanEnd → ChanEnd) : (s.updChEnd i f).symKey j = s.symKey j := rfl
@[simp] theorem State.annexKey_updChEnd (s : State) (i j : Nat) (f : ChanEnd → ChanEnd) : (s.updChEnd i f).annexKey j = s.annexKey j := rfl
@[simp] theorem State.openCarafe_updChEnd (s : State) (i j : Nat) (f : ChanEnd → ChanEnd) : (s.updChEnd i f).openCarafe j = s.openCarafe j := rfl
@[simp] theorem State.eng_updChEnd (s : State) (i j : Nat) (f : ChanEnd → ChanEnd) : (s.updChEnd i f).eng j = s.eng j := rfl
@[simp] theorem State.kslot_updChEnd (s : State) (i j : Nat) (f : ChanEnd → ChanEnd) : (s.updChEnd i f).kslot j = s.kslot j := rfl
@[simp] theorem State.mon_updChEnd (s : State) (i j : Nat) (f : ChanEnd → ChanEnd) : (s.updChEnd i f).mon j = s.mon j := rfl
@[simp] theorem State.dpllx_updChEnd (s : State) (i j : Nat) (f : ChanEnd → ChanEnd) : (s.updChEnd i f).dpllx j = s.dpllx j := rfl
@[simp] theorem State.pll_updChEnd (s : State) (i j : Nat) (f : ChanEnd → ChanEnd) : (s.updChEnd i f).pll j = s.pll j := rfl
@[simp] theorem State.chan_updChEnd (s : State) (i j : Nat) (f : ChanEnd → ChanEnd) : (s.updChEnd i f).chan j = s.chan j := rfl
@[simp] theorem State.timIn_updChEnd (s : State) (i j : Nat) (f : ChanEnd → ChanEnd) : (s.updChEnd i f).timIn j = s.timIn j := rfl
@[simp] theorem State.timCh_updChEnd (s : State) (i j : Nat) (f : ChanEnd → ChanEnd) : (s.updChEnd i f).timCh j = s.timCh j := rfl
@[simp] theorem State.lane_updChEnd (s : State) (i j : Nat) (f : ChanEnd → ChanEnd) : (s.updChEnd i f).lane j = s.lane j := rfl
@[simp] theorem State.slot_updChEnd (s : State) (i j : Nat) (f : ChanEnd → ChanEnd) : (s.updChEnd i f).slot j = s.slot j := rfl
@[simp] theorem State.core_updChEnd (s : State) (i j : Nat) (f : ChanEnd → ChanEnd) : (s.updChEnd i f).core j = s.core j := rfl
@[simp] theorem State.sem_updChEnd (s : State) (i j : Nat) (f : ChanEnd → ChanEnd) : (s.updChEnd i f).sem j = s.sem j := rfl
@[simp] theorem State.fwChan_updChEnd (s : State) (i j : Nat) (f : ChanEnd → ChanEnd) : (s.updChEnd i f).fwChan j = s.fwChan j := rfl
@[simp] theorem State.agg_updChEnd (s : State) (i j : Nat) (f : ChanEnd → ChanEnd) : (s.updChEnd i f).agg j = s.agg j := rfl
@[simp] theorem State.cltEntry_updChEnd (s : State) (i j : Nat) (f : ChanEnd → ChanEnd) : (s.updChEnd i f).cltEntry j = s.cltEntry j := rfl
@[simp] theorem State.rd_updChEnd (s : State) (i a : Nat) (f : ChanEnd → ChanEnd) : (s.updChEnd i f).rd a = s.rd a := rfl
@[simp] theorem State.ac_updChEnd (s : State) (i a : Nat) (f : ChanEnd → ChanEnd) : (s.updChEnd i f).ac a = s.ac a := rfl
@[simp] theorem State.sh_updChEnd (s : State) (i a : Nat) (f : ChanEnd → ChanEnd) : (s.updChEnd i f).sh a = s.sh a := rfl

/-! ### `State.updSem` -/

@[simp] theorem State.updSem_live (s : State) (i : Nat) (f : Nat → Nat) : (s.updSem i f).live = s.live := rfl
@[simp] theorem State.updSem_shadow (s : State) (i : Nat) (f : Nat → Nat) : (s.updSem i f).shadow = s.shadow := rfl
@[simp] theorem State.updSem_active (s : State) (i : Nat) (f : Nat → Nat) : (s.updSem i f).active = s.active := rfl
@[simp] theorem State.updSem_time (s : State) (i : Nat) (f : Nat → Nat) : (s.updSem i f).time = s.time := rfl
@[simp] theorem State.updSem_vbat (s : State) (i : Nat) (f : Nat → Nat) : (s.updSem i f).vbat = s.vbat := rfl
@[simp] theorem State.updSem_otp (s : State) (i : Nat) (f : Nat → Nat) : (s.updSem i f).otp = s.otp := rfl
@[simp] theorem State.updSem_boot (s : State) (i : Nat) (f : Nat → Nat) : (s.updSem i f).boot = s.boot := rfl
@[simp] theorem State.updSem_serve (s : State) (i : Nat) (f : Nat → Nat) : (s.updSem i f).serve = s.serve := rfl
@[simp] theorem State.updSem_cfg (s : State) (i : Nat) (f : Nat → Nat) : (s.updSem i f).cfg = s.cfg := rfl
@[simp] theorem State.updSem_evt (s : State) (i : Nat) (f : Nat → Nat) : (s.updSem i f).evt = s.evt := rfl
@[simp] theorem State.updSem_bus (s : State) (i : Nat) (f : Nat → Nat) : (s.updSem i f).bus = s.bus := rfl
@[simp] theorem State.updSem_ports (s : State) (i : Nat) (f : Nat → Nat) : (s.updSem i f).ports = s.ports := rfl
@[simp] theorem State.updSem_cals (s : State) (i : Nat) (f : Nat → Nat) : (s.updSem i f).cals = s.cals := rfl
@[simp] theorem State.updSem_rwl (s : State) (i : Nat) (f : Nat → Nat) : (s.updSem i f).rwl = s.rwl := rfl
@[simp] theorem State.updSem_cls (s : State) (i : Nat) (f : Nat → Nat) : (s.updSem i f).cls = s.cls := rfl
@[simp] theorem State.updSem_clus (s : State) (i : Nat) (f : Nat → Nat) : (s.updSem i f).clus = s.clus := rfl
@[simp] theorem State.updSem_clt (s : State) (i : Nat) (f : Nat → Nat) : (s.updSem i f).clt = s.clt := rfl
@[simp] theorem State.updSem_srv (s : State) (i : Nat) (f : Nat → Nat) : (s.updSem i f).srv = s.srv := rfl
@[simp] theorem State.updSem_rt (s : State) (i : Nat) (f : Nat → Nat) : (s.updSem i f).rt = s.rt := rfl
@[simp] theorem State.updSem_ptp (s : State) (i : Nat) (f : Nat → Nat) : (s.updSem i f).ptp = s.ptp := rfl
@[simp] theorem State.updSem_pke (s : State) (i : Nat) (f : Nat → Nat) : (s.updSem i f).pke = s.pke := rfl
@[simp] theorem State.updSem_ref (s : State) (i : Nat) (f : Nat → Nat) : (s.updSem i f).ref = s.ref := rfl
@[simp] theorem State.updSem_clk (s : State) (i : Nat) (f : Nat → Nat) : (s.updSem i f).clk = s.clk := rfl
@[simp] theorem State.updSem_gns (s : State) (i : Nat) (f : Nat → Nat) : (s.updSem i f).gns = s.gns := rfl
@[simp] theorem State.updSem_tim (s : State) (i : Nat) (f : Nat → Nat) : (s.updSem i f).tim = s.tim := rfl
@[simp] theorem State.updSem_evl (s : State) (i : Nat) (f : Nat → Nat) : (s.updSem i f).evl = s.evl := rfl
@[simp] theorem State.updSem_draws (s : State) (i : Nat) (f : Nat → Nat) : (s.updSem i f).draws = s.draws := rfl
@[simp] theorem State.updSem_frees (s : State) (i : Nat) (f : Nat → Nat) : (s.updSem i f).frees = s.frees := rfl
@[simp] theorem State.updSem_outbox (s : State) (i : Nat) (f : Nat → Nat) : (s.updSem i f).outbox = s.outbox := rfl
@[simp] theorem State.updSem_pending (s : State) (i : Nat) (f : Nat → Nat) : (s.updSem i f).pending = s.pending := rfl

@[simp] theorem State.sem_updSem_same (s : State) (i : Nat) (f : Nat → Nat) : (s.updSem i f).sem i = f (s.sem i) :=
  tget_tupd_same ..

theorem State.sem_updSem_ne (s : State) {i j : Nat} (f : Nat → Nat) (h : j ≠ i) : (s.updSem i f).sem j = s.sem j :=
  tget_tupd_ne _ _ _ h

@[simp] theorem State.port_updSem (s : State) (i j : Nat) (f : Nat → Nat) : (s.updSem i f).port j = s.port j := rfl
@[simp] theorem State.cal_updSem (s : State) (i j : Nat) (f : Nat → Nat) : (s.updSem i f).cal j = s.cal j := rfl
@[simp] theorem State.clu_updSem (s : State) (i j : Nat) (f : Nat → Nat) : (s.updSem i f).clu j = s.clu j := rfl
@[simp] theorem State.ptpPort_updSem (s : State) (i j : Nat) (f : Nat → Nat) : (s.updSem i f).ptpPort j = s.ptpPort j := rfl
@[simp] theorem State.grant_updSem (s : State) (i j : Nat) (f : Nat → Nat) : (s.updSem i f).grant j = s.grant j := rfl
@[simp] theorem State.client_updSem (s : State) (i j : Nat) (f : Nat → Nat) : (s.updSem i f).client j = s.client j := rfl
@[simp] theorem State.symKey_updSem (s : State) (i j : Nat) (f : Nat → Nat) : (s.updSem i f).symKey j = s.symKey j := rfl
@[simp] theorem State.annexKey_updSem (s : State) (i j : Nat) (f : Nat → Nat) : (s.updSem i f).annexKey j = s.annexKey j := rfl
@[simp] theorem State.openCarafe_updSem (s : State) (i j : Nat) (f : Nat → Nat) : (s.updSem i f).openCarafe j = s.openCarafe j := rfl
@[simp] theorem State.eng_updSem (s : State) (i j : Nat) (f : Nat → Nat) : (s.updSem i f).eng j = s.eng j := rfl
@[simp] theorem State.kslot_updSem (s : State) (i j : Nat) (f : Nat → Nat) : (s.updSem i f).kslot j = s.kslot j := rfl
@[simp] theorem State.mon_updSem (s : State) (i j : Nat) (f : Nat → Nat) : (s.updSem i f).mon j = s.mon j := rfl
@[simp] theorem State.dpllx_updSem (s : State) (i j : Nat) (f : Nat → Nat) : (s.updSem i f).dpllx j = s.dpllx j := rfl
@[simp] theorem State.pll_updSem (s : State) (i j : Nat) (f : Nat → Nat) : (s.updSem i f).pll j = s.pll j := rfl
@[simp] theorem State.chan_updSem (s : State) (i j : Nat) (f : Nat → Nat) : (s.updSem i f).chan j = s.chan j := rfl
@[simp] theorem State.timIn_updSem (s : State) (i j : Nat) (f : Nat → Nat) : (s.updSem i f).timIn j = s.timIn j := rfl
@[simp] theorem State.timCh_updSem (s : State) (i j : Nat) (f : Nat → Nat) : (s.updSem i f).timCh j = s.timCh j := rfl
@[simp] theorem State.lane_updSem (s : State) (i j : Nat) (f : Nat → Nat) : (s.updSem i f).lane j = s.lane j := rfl
@[simp] theorem State.slot_updSem (s : State) (i j : Nat) (f : Nat → Nat) : (s.updSem i f).slot j = s.slot j := rfl
@[simp] theorem State.core_updSem (s : State) (i j : Nat) (f : Nat → Nat) : (s.updSem i f).core j = s.core j := rfl
@[simp] theorem State.chEnd_updSem (s : State) (i j : Nat) (f : Nat → Nat) : (s.updSem i f).chEnd j = s.chEnd j := rfl
@[simp] theorem State.fwChan_updSem (s : State) (i j : Nat) (f : Nat → Nat) : (s.updSem i f).fwChan j = s.fwChan j := rfl
@[simp] theorem State.agg_updSem (s : State) (i j : Nat) (f : Nat → Nat) : (s.updSem i f).agg j = s.agg j := rfl
@[simp] theorem State.cltEntry_updSem (s : State) (i j : Nat) (f : Nat → Nat) : (s.updSem i f).cltEntry j = s.cltEntry j := rfl
@[simp] theorem State.rd_updSem (s : State) (i a : Nat) (f : Nat → Nat) : (s.updSem i f).rd a = s.rd a := rfl
@[simp] theorem State.ac_updSem (s : State) (i a : Nat) (f : Nat → Nat) : (s.updSem i f).ac a = s.ac a := rfl
@[simp] theorem State.sh_updSem (s : State) (i a : Nat) (f : Nat → Nat) : (s.updSem i f).sh a = s.sh a := rfl

/-! ### `State.updFwChan` -/

@[simp] theorem State.updFwChan_live (s : State) (i : Nat) (f : FwChan → FwChan) : (s.updFwChan i f).live = s.live := rfl
@[simp] theorem State.updFwChan_shadow (s : State) (i : Nat) (f : FwChan → FwChan) : (s.updFwChan i f).shadow = s.shadow := rfl
@[simp] theorem State.updFwChan_active (s : State) (i : Nat) (f : FwChan → FwChan) : (s.updFwChan i f).active = s.active := rfl
@[simp] theorem State.updFwChan_time (s : State) (i : Nat) (f : FwChan → FwChan) : (s.updFwChan i f).time = s.time := rfl
@[simp] theorem State.updFwChan_vbat (s : State) (i : Nat) (f : FwChan → FwChan) : (s.updFwChan i f).vbat = s.vbat := rfl
@[simp] theorem State.updFwChan_otp (s : State) (i : Nat) (f : FwChan → FwChan) : (s.updFwChan i f).otp = s.otp := rfl
@[simp] theorem State.updFwChan_boot (s : State) (i : Nat) (f : FwChan → FwChan) : (s.updFwChan i f).boot = s.boot := rfl
@[simp] theorem State.updFwChan_serve (s : State) (i : Nat) (f : FwChan → FwChan) : (s.updFwChan i f).serve = s.serve := rfl
@[simp] theorem State.updFwChan_cfg (s : State) (i : Nat) (f : FwChan → FwChan) : (s.updFwChan i f).cfg = s.cfg := rfl
@[simp] theorem State.updFwChan_evt (s : State) (i : Nat) (f : FwChan → FwChan) : (s.updFwChan i f).evt = s.evt := rfl
@[simp] theorem State.updFwChan_bus (s : State) (i : Nat) (f : FwChan → FwChan) : (s.updFwChan i f).bus = s.bus := rfl
@[simp] theorem State.updFwChan_ports (s : State) (i : Nat) (f : FwChan → FwChan) : (s.updFwChan i f).ports = s.ports := rfl
@[simp] theorem State.updFwChan_cals (s : State) (i : Nat) (f : FwChan → FwChan) : (s.updFwChan i f).cals = s.cals := rfl
@[simp] theorem State.updFwChan_rwl (s : State) (i : Nat) (f : FwChan → FwChan) : (s.updFwChan i f).rwl = s.rwl := rfl
@[simp] theorem State.updFwChan_cls (s : State) (i : Nat) (f : FwChan → FwChan) : (s.updFwChan i f).cls = s.cls := rfl
@[simp] theorem State.updFwChan_clus (s : State) (i : Nat) (f : FwChan → FwChan) : (s.updFwChan i f).clus = s.clus := rfl
@[simp] theorem State.updFwChan_clt (s : State) (i : Nat) (f : FwChan → FwChan) : (s.updFwChan i f).clt = s.clt := rfl
@[simp] theorem State.updFwChan_srv (s : State) (i : Nat) (f : FwChan → FwChan) : (s.updFwChan i f).srv = s.srv := rfl
@[simp] theorem State.updFwChan_rt (s : State) (i : Nat) (f : FwChan → FwChan) : (s.updFwChan i f).rt = s.rt := rfl
@[simp] theorem State.updFwChan_ptp (s : State) (i : Nat) (f : FwChan → FwChan) : (s.updFwChan i f).ptp = s.ptp := rfl
@[simp] theorem State.updFwChan_pke (s : State) (i : Nat) (f : FwChan → FwChan) : (s.updFwChan i f).pke = s.pke := rfl
@[simp] theorem State.updFwChan_ref (s : State) (i : Nat) (f : FwChan → FwChan) : (s.updFwChan i f).ref = s.ref := rfl
@[simp] theorem State.updFwChan_clk (s : State) (i : Nat) (f : FwChan → FwChan) : (s.updFwChan i f).clk = s.clk := rfl
@[simp] theorem State.updFwChan_gns (s : State) (i : Nat) (f : FwChan → FwChan) : (s.updFwChan i f).gns = s.gns := rfl
@[simp] theorem State.updFwChan_tim (s : State) (i : Nat) (f : FwChan → FwChan) : (s.updFwChan i f).tim = s.tim := rfl
@[simp] theorem State.updFwChan_evl (s : State) (i : Nat) (f : FwChan → FwChan) : (s.updFwChan i f).evl = s.evl := rfl
@[simp] theorem State.updFwChan_draws (s : State) (i : Nat) (f : FwChan → FwChan) : (s.updFwChan i f).draws = s.draws := rfl
@[simp] theorem State.updFwChan_frees (s : State) (i : Nat) (f : FwChan → FwChan) : (s.updFwChan i f).frees = s.frees := rfl
@[simp] theorem State.updFwChan_outbox (s : State) (i : Nat) (f : FwChan → FwChan) : (s.updFwChan i f).outbox = s.outbox := rfl
@[simp] theorem State.updFwChan_pending (s : State) (i : Nat) (f : FwChan → FwChan) : (s.updFwChan i f).pending = s.pending := rfl

@[simp] theorem State.fwChan_updFwChan_same (s : State) (i : Nat) (f : FwChan → FwChan) : (s.updFwChan i f).fwChan i = f (s.fwChan i) :=
  tget_tupd_same ..

theorem State.fwChan_updFwChan_ne (s : State) {i j : Nat} (f : FwChan → FwChan) (h : j ≠ i) : (s.updFwChan i f).fwChan j = s.fwChan j :=
  tget_tupd_ne _ _ _ h

@[simp] theorem State.port_updFwChan (s : State) (i j : Nat) (f : FwChan → FwChan) : (s.updFwChan i f).port j = s.port j := rfl
@[simp] theorem State.cal_updFwChan (s : State) (i j : Nat) (f : FwChan → FwChan) : (s.updFwChan i f).cal j = s.cal j := rfl
@[simp] theorem State.clu_updFwChan (s : State) (i j : Nat) (f : FwChan → FwChan) : (s.updFwChan i f).clu j = s.clu j := rfl
@[simp] theorem State.ptpPort_updFwChan (s : State) (i j : Nat) (f : FwChan → FwChan) : (s.updFwChan i f).ptpPort j = s.ptpPort j := rfl
@[simp] theorem State.grant_updFwChan (s : State) (i j : Nat) (f : FwChan → FwChan) : (s.updFwChan i f).grant j = s.grant j := rfl
@[simp] theorem State.client_updFwChan (s : State) (i j : Nat) (f : FwChan → FwChan) : (s.updFwChan i f).client j = s.client j := rfl
@[simp] theorem State.symKey_updFwChan (s : State) (i j : Nat) (f : FwChan → FwChan) : (s.updFwChan i f).symKey j = s.symKey j := rfl
@[simp] theorem State.annexKey_updFwChan (s : State) (i j : Nat) (f : FwChan → FwChan) : (s.updFwChan i f).annexKey j = s.annexKey j := rfl
@[simp] theorem State.openCarafe_updFwChan (s : State) (i j : Nat) (f : FwChan → FwChan) : (s.updFwChan i f).openCarafe j = s.openCarafe j := rfl
@[simp] theorem State.eng_updFwChan (s : State) (i j : Nat) (f : FwChan → FwChan) : (s.updFwChan i f).eng j = s.eng j := rfl
@[simp] theorem State.kslot_updFwChan (s : State) (i j : Nat) (f : FwChan → FwChan) : (s.updFwChan i f).kslot j = s.kslot j := rfl
@[simp] theorem State.mon_updFwChan (s : State) (i j : Nat) (f : FwChan → FwChan) : (s.updFwChan i f).mon j = s.mon j := rfl
@[simp] theorem State.dpllx_updFwChan (s : State) (i j : Nat) (f : FwChan → FwChan) : (s.updFwChan i f).dpllx j = s.dpllx j := rfl
@[simp] theorem State.pll_updFwChan (s : State) (i j : Nat) (f : FwChan → FwChan) : (s.updFwChan i f).pll j = s.pll j := rfl
@[simp] theorem State.chan_updFwChan (s : State) (i j : Nat) (f : FwChan → FwChan) : (s.updFwChan i f).chan j = s.chan j := rfl
@[simp] theorem State.timIn_updFwChan (s : State) (i j : Nat) (f : FwChan → FwChan) : (s.updFwChan i f).timIn j = s.timIn j := rfl
@[simp] theorem State.timCh_updFwChan (s : State) (i j : Nat) (f : FwChan → FwChan) : (s.updFwChan i f).timCh j = s.timCh j := rfl
@[simp] theorem State.lane_updFwChan (s : State) (i j : Nat) (f : FwChan → FwChan) : (s.updFwChan i f).lane j = s.lane j := rfl
@[simp] theorem State.slot_updFwChan (s : State) (i j : Nat) (f : FwChan → FwChan) : (s.updFwChan i f).slot j = s.slot j := rfl
@[simp] theorem State.core_updFwChan (s : State) (i j : Nat) (f : FwChan → FwChan) : (s.updFwChan i f).core j = s.core j := rfl
@[simp] theorem State.chEnd_updFwChan (s : State) (i j : Nat) (f : FwChan → FwChan) : (s.updFwChan i f).chEnd j = s.chEnd j := rfl
@[simp] theorem State.sem_updFwChan (s : State) (i j : Nat) (f : FwChan → FwChan) : (s.updFwChan i f).sem j = s.sem j := rfl
@[simp] theorem State.agg_updFwChan (s : State) (i j : Nat) (f : FwChan → FwChan) : (s.updFwChan i f).agg j = s.agg j := rfl
@[simp] theorem State.cltEntry_updFwChan (s : State) (i j : Nat) (f : FwChan → FwChan) : (s.updFwChan i f).cltEntry j = s.cltEntry j := rfl
@[simp] theorem State.rd_updFwChan (s : State) (i a : Nat) (f : FwChan → FwChan) : (s.updFwChan i f).rd a = s.rd a := rfl
@[simp] theorem State.ac_updFwChan (s : State) (i a : Nat) (f : FwChan → FwChan) : (s.updFwChan i f).ac a = s.ac a := rfl
@[simp] theorem State.sh_updFwChan (s : State) (i a : Nat) (f : FwChan → FwChan) : (s.updFwChan i f).sh a = s.sh a := rfl

/-! ### `State.updAgg` -/

@[simp] theorem State.updAgg_live (s : State) (i : Nat) (f : AggSt → AggSt) : (s.updAgg i f).live = s.live := rfl
@[simp] theorem State.updAgg_shadow (s : State) (i : Nat) (f : AggSt → AggSt) : (s.updAgg i f).shadow = s.shadow := rfl
@[simp] theorem State.updAgg_active (s : State) (i : Nat) (f : AggSt → AggSt) : (s.updAgg i f).active = s.active := rfl
@[simp] theorem State.updAgg_time (s : State) (i : Nat) (f : AggSt → AggSt) : (s.updAgg i f).time = s.time := rfl
@[simp] theorem State.updAgg_vbat (s : State) (i : Nat) (f : AggSt → AggSt) : (s.updAgg i f).vbat = s.vbat := rfl
@[simp] theorem State.updAgg_otp (s : State) (i : Nat) (f : AggSt → AggSt) : (s.updAgg i f).otp = s.otp := rfl
@[simp] theorem State.updAgg_boot (s : State) (i : Nat) (f : AggSt → AggSt) : (s.updAgg i f).boot = s.boot := rfl
@[simp] theorem State.updAgg_serve (s : State) (i : Nat) (f : AggSt → AggSt) : (s.updAgg i f).serve = s.serve := rfl
@[simp] theorem State.updAgg_cfg (s : State) (i : Nat) (f : AggSt → AggSt) : (s.updAgg i f).cfg = s.cfg := rfl
@[simp] theorem State.updAgg_evt (s : State) (i : Nat) (f : AggSt → AggSt) : (s.updAgg i f).evt = s.evt := rfl
@[simp] theorem State.updAgg_mbx (s : State) (i : Nat) (f : AggSt → AggSt) : (s.updAgg i f).mbx = s.mbx := rfl
@[simp] theorem State.updAgg_bus (s : State) (i : Nat) (f : AggSt → AggSt) : (s.updAgg i f).bus = s.bus := rfl
@[simp] theorem State.updAgg_ports (s : State) (i : Nat) (f : AggSt → AggSt) : (s.updAgg i f).ports = s.ports := rfl
@[simp] theorem State.updAgg_cals (s : State) (i : Nat) (f : AggSt → AggSt) : (s.updAgg i f).cals = s.cals := rfl
@[simp] theorem State.updAgg_rwl (s : State) (i : Nat) (f : AggSt → AggSt) : (s.updAgg i f).rwl = s.rwl := rfl
@[simp] theorem State.updAgg_cls (s : State) (i : Nat) (f : AggSt → AggSt) : (s.updAgg i f).cls = s.cls := rfl
@[simp] theorem State.updAgg_clus (s : State) (i : Nat) (f : AggSt → AggSt) : (s.updAgg i f).clus = s.clus := rfl
@[simp] theorem State.updAgg_srv (s : State) (i : Nat) (f : AggSt → AggSt) : (s.updAgg i f).srv = s.srv := rfl
@[simp] theorem State.updAgg_rt (s : State) (i : Nat) (f : AggSt → AggSt) : (s.updAgg i f).rt = s.rt := rfl
@[simp] theorem State.updAgg_ptp (s : State) (i : Nat) (f : AggSt → AggSt) : (s.updAgg i f).ptp = s.ptp := rfl
@[simp] theorem State.updAgg_pke (s : State) (i : Nat) (f : AggSt → AggSt) : (s.updAgg i f).pke = s.pke := rfl
@[simp] theorem State.updAgg_ref (s : State) (i : Nat) (f : AggSt → AggSt) : (s.updAgg i f).ref = s.ref := rfl
@[simp] theorem State.updAgg_clk (s : State) (i : Nat) (f : AggSt → AggSt) : (s.updAgg i f).clk = s.clk := rfl
@[simp] theorem State.updAgg_gns (s : State) (i : Nat) (f : AggSt → AggSt) : (s.updAgg i f).gns = s.gns := rfl
@[simp] theorem State.updAgg_tim (s : State) (i : Nat) (f : AggSt → AggSt) : (s.updAgg i f).tim = s.tim := rfl
@[simp] theorem State.updAgg_evl (s : State) (i : Nat) (f : AggSt → AggSt) : (s.updAgg i f).evl = s.evl := rfl
@[simp] theorem State.updAgg_draws (s : State) (i : Nat) (f : AggSt → AggSt) : (s.updAgg i f).draws = s.draws := rfl
@[simp] theorem State.updAgg_frees (s : State) (i : Nat) (f : AggSt → AggSt) : (s.updAgg i f).frees = s.frees := rfl
@[simp] theorem State.updAgg_outbox (s : State) (i : Nat) (f : AggSt → AggSt) : (s.updAgg i f).outbox = s.outbox := rfl
@[simp] theorem State.updAgg_pending (s : State) (i : Nat) (f : AggSt → AggSt) : (s.updAgg i f).pending = s.pending := rfl

@[simp] theorem State.agg_updAgg_same (s : State) (i : Nat) (f : AggSt → AggSt) : (s.updAgg i f).agg i = f (s.agg i) :=
  tget_tupd_same ..

theorem State.agg_updAgg_ne (s : State) {i j : Nat} (f : AggSt → AggSt) (h : j ≠ i) : (s.updAgg i f).agg j = s.agg j :=
  tget_tupd_ne _ _ _ h

@[simp] theorem State.port_updAgg (s : State) (i j : Nat) (f : AggSt → AggSt) : (s.updAgg i f).port j = s.port j := rfl
@[simp] theorem State.cal_updAgg (s : State) (i j : Nat) (f : AggSt → AggSt) : (s.updAgg i f).cal j = s.cal j := rfl
@[simp] theorem State.clu_updAgg (s : State) (i j : Nat) (f : AggSt → AggSt) : (s.updAgg i f).clu j = s.clu j := rfl
@[simp] theorem State.ptpPort_updAgg (s : State) (i j : Nat) (f : AggSt → AggSt) : (s.updAgg i f).ptpPort j = s.ptpPort j := rfl
@[simp] theorem State.grant_updAgg (s : State) (i j : Nat) (f : AggSt → AggSt) : (s.updAgg i f).grant j = s.grant j := rfl
@[simp] theorem State.client_updAgg (s : State) (i j : Nat) (f : AggSt → AggSt) : (s.updAgg i f).client j = s.client j := rfl
@[simp] theorem State.symKey_updAgg (s : State) (i j : Nat) (f : AggSt → AggSt) : (s.updAgg i f).symKey j = s.symKey j := rfl
@[simp] theorem State.annexKey_updAgg (s : State) (i j : Nat) (f : AggSt → AggSt) : (s.updAgg i f).annexKey j = s.annexKey j := rfl
@[simp] theorem State.openCarafe_updAgg (s : State) (i j : Nat) (f : AggSt → AggSt) : (s.updAgg i f).openCarafe j = s.openCarafe j := rfl
@[simp] theorem State.eng_updAgg (s : State) (i j : Nat) (f : AggSt → AggSt) : (s.updAgg i f).eng j = s.eng j := rfl
@[simp] theorem State.kslot_updAgg (s : State) (i j : Nat) (f : AggSt → AggSt) : (s.updAgg i f).kslot j = s.kslot j := rfl
@[simp] theorem State.mon_updAgg (s : State) (i j : Nat) (f : AggSt → AggSt) : (s.updAgg i f).mon j = s.mon j := rfl
@[simp] theorem State.dpllx_updAgg (s : State) (i j : Nat) (f : AggSt → AggSt) : (s.updAgg i f).dpllx j = s.dpllx j := rfl
@[simp] theorem State.pll_updAgg (s : State) (i j : Nat) (f : AggSt → AggSt) : (s.updAgg i f).pll j = s.pll j := rfl
@[simp] theorem State.chan_updAgg (s : State) (i j : Nat) (f : AggSt → AggSt) : (s.updAgg i f).chan j = s.chan j := rfl
@[simp] theorem State.timIn_updAgg (s : State) (i j : Nat) (f : AggSt → AggSt) : (s.updAgg i f).timIn j = s.timIn j := rfl
@[simp] theorem State.timCh_updAgg (s : State) (i j : Nat) (f : AggSt → AggSt) : (s.updAgg i f).timCh j = s.timCh j := rfl
@[simp] theorem State.lane_updAgg (s : State) (i j : Nat) (f : AggSt → AggSt) : (s.updAgg i f).lane j = s.lane j := rfl
@[simp] theorem State.slot_updAgg (s : State) (i j : Nat) (f : AggSt → AggSt) : (s.updAgg i f).slot j = s.slot j := rfl
@[simp] theorem State.core_updAgg (s : State) (i j : Nat) (f : AggSt → AggSt) : (s.updAgg i f).core j = s.core j := rfl
@[simp] theorem State.chEnd_updAgg (s : State) (i j : Nat) (f : AggSt → AggSt) : (s.updAgg i f).chEnd j = s.chEnd j := rfl
@[simp] theorem State.sem_updAgg (s : State) (i j : Nat) (f : AggSt → AggSt) : (s.updAgg i f).sem j = s.sem j := rfl
@[simp] theorem State.fwChan_updAgg (s : State) (i j : Nat) (f : AggSt → AggSt) : (s.updAgg i f).fwChan j = s.fwChan j := rfl
@[simp] theorem State.cltEntry_updAgg (s : State) (i j : Nat) (f : AggSt → AggSt) : (s.updAgg i f).cltEntry j = s.cltEntry j := rfl
@[simp] theorem State.rd_updAgg (s : State) (i a : Nat) (f : AggSt → AggSt) : (s.updAgg i f).rd a = s.rd a := rfl
@[simp] theorem State.ac_updAgg (s : State) (i a : Nat) (f : AggSt → AggSt) : (s.updAgg i f).ac a = s.ac a := rfl
@[simp] theorem State.sh_updAgg (s : State) (i a : Nat) (f : AggSt → AggSt) : (s.updAgg i f).sh a = s.sh a := rfl

/-! ### `State.updCltEntry` -/

@[simp] theorem State.updCltEntry_live (s : State) (i : Nat) (f : Option CltEntry → Option CltEntry) : (s.updCltEntry i f).live = s.live := rfl
@[simp] theorem State.updCltEntry_shadow (s : State) (i : Nat) (f : Option CltEntry → Option CltEntry) : (s.updCltEntry i f).shadow = s.shadow := rfl
@[simp] theorem State.updCltEntry_active (s : State) (i : Nat) (f : Option CltEntry → Option CltEntry) : (s.updCltEntry i f).active = s.active := rfl
@[simp] theorem State.updCltEntry_time (s : State) (i : Nat) (f : Option CltEntry → Option CltEntry) : (s.updCltEntry i f).time = s.time := rfl
@[simp] theorem State.updCltEntry_vbat (s : State) (i : Nat) (f : Option CltEntry → Option CltEntry) : (s.updCltEntry i f).vbat = s.vbat := rfl
@[simp] theorem State.updCltEntry_otp (s : State) (i : Nat) (f : Option CltEntry → Option CltEntry) : (s.updCltEntry i f).otp = s.otp := rfl
@[simp] theorem State.updCltEntry_boot (s : State) (i : Nat) (f : Option CltEntry → Option CltEntry) : (s.updCltEntry i f).boot = s.boot := rfl
@[simp] theorem State.updCltEntry_serve (s : State) (i : Nat) (f : Option CltEntry → Option CltEntry) : (s.updCltEntry i f).serve = s.serve := rfl
@[simp] theorem State.updCltEntry_cfg (s : State) (i : Nat) (f : Option CltEntry → Option CltEntry) : (s.updCltEntry i f).cfg = s.cfg := rfl
@[simp] theorem State.updCltEntry_evt (s : State) (i : Nat) (f : Option CltEntry → Option CltEntry) : (s.updCltEntry i f).evt = s.evt := rfl
@[simp] theorem State.updCltEntry_mbx (s : State) (i : Nat) (f : Option CltEntry → Option CltEntry) : (s.updCltEntry i f).mbx = s.mbx := rfl
@[simp] theorem State.updCltEntry_bus (s : State) (i : Nat) (f : Option CltEntry → Option CltEntry) : (s.updCltEntry i f).bus = s.bus := rfl
@[simp] theorem State.updCltEntry_ports (s : State) (i : Nat) (f : Option CltEntry → Option CltEntry) : (s.updCltEntry i f).ports = s.ports := rfl
@[simp] theorem State.updCltEntry_cals (s : State) (i : Nat) (f : Option CltEntry → Option CltEntry) : (s.updCltEntry i f).cals = s.cals := rfl
@[simp] theorem State.updCltEntry_rwl (s : State) (i : Nat) (f : Option CltEntry → Option CltEntry) : (s.updCltEntry i f).rwl = s.rwl := rfl
@[simp] theorem State.updCltEntry_cls (s : State) (i : Nat) (f : Option CltEntry → Option CltEntry) : (s.updCltEntry i f).cls = s.cls := rfl
@[simp] theorem State.updCltEntry_clus (s : State) (i : Nat) (f : Option CltEntry → Option CltEntry) : (s.updCltEntry i f).clus = s.clus := rfl
@[simp] theorem State.updCltEntry_srv (s : State) (i : Nat) (f : Option CltEntry → Option CltEntry) : (s.updCltEntry i f).srv = s.srv := rfl
@[simp] theorem State.updCltEntry_rt (s : State) (i : Nat) (f : Option CltEntry → Option CltEntry) : (s.updCltEntry i f).rt = s.rt := rfl
@[simp] theorem State.updCltEntry_ptp (s : State) (i : Nat) (f : Option CltEntry → Option CltEntry) : (s.updCltEntry i f).ptp = s.ptp := rfl
@[simp] theorem State.updCltEntry_pke (s : State) (i : Nat) (f : Option CltEntry → Option CltEntry) : (s.updCltEntry i f).pke = s.pke := rfl
@[simp] theorem State.updCltEntry_ref (s : State) (i : Nat) (f : Option CltEntry → Option CltEntry) : (s.updCltEntry i f).ref = s.ref := rfl
@[simp] theorem State.updCltEntry_clk (s : State) (i : Nat) (f : Option CltEntry → Option CltEntry) : (s.updCltEntry i f).clk = s.clk := rfl
@[simp] theorem State.updCltEntry_gns (s : State) (i : Nat) (f : Option CltEntry → Option CltEntry) : (s.updCltEntry i f).gns = s.gns := rfl
@[simp] theorem State.updCltEntry_tim (s : State) (i : Nat) (f : Option CltEntry → Option CltEntry) : (s.updCltEntry i f).tim = s.tim := rfl
@[simp] theorem State.updCltEntry_evl (s : State) (i : Nat) (f : Option CltEntry → Option CltEntry) : (s.updCltEntry i f).evl = s.evl := rfl
@[simp] theorem State.updCltEntry_draws (s : State) (i : Nat) (f : Option CltEntry → Option CltEntry) : (s.updCltEntry i f).draws = s.draws := rfl
@[simp] theorem State.updCltEntry_frees (s : State) (i : Nat) (f : Option CltEntry → Option CltEntry) : (s.updCltEntry i f).frees = s.frees := rfl
@[simp] theorem State.updCltEntry_outbox (s : State) (i : Nat) (f : Option CltEntry → Option CltEntry) : (s.updCltEntry i f).outbox = s.outbox := rfl
@[simp] theorem State.updCltEntry_pending (s : State) (i : Nat) (f : Option CltEntry → Option CltEntry) : (s.updCltEntry i f).pending = s.pending := rfl

@[simp] theorem State.cltEntry_updCltEntry_same (s : State) (i : Nat) (f : Option CltEntry → Option CltEntry) : (s.updCltEntry i f).cltEntry i = f (s.cltEntry i) :=
  tget_tupd_same ..

theorem State.cltEntry_updCltEntry_ne (s : State) {i j : Nat} (f : Option CltEntry → Option CltEntry) (h : j ≠ i) : (s.updCltEntry i f).cltEntry j = s.cltEntry j :=
  tget_tupd_ne _ _ _ h

@[simp] theorem State.port_updCltEntry (s : State) (i j : Nat) (f : Option CltEntry → Option CltEntry) : (s.updCltEntry i f).port j = s.port j := rfl
@[simp] theorem State.cal_updCltEntry (s : State) (i j : Nat) (f : Option CltEntry → Option CltEntry) : (s.updCltEntry i f).cal j = s.cal j := rfl
@[simp] theorem State.clu_updCltEntry (s : State) (i j : Nat) (f : Option CltEntry → Option CltEntry) : (s.updCltEntry i f).clu j = s.clu j := rfl
@[simp] theorem State.ptpPort_updCltEntry (s : State) (i j : Nat) (f : Option CltEntry → Option CltEntry) : (s.updCltEntry i f).ptpPort j = s.ptpPort j := rfl
@[simp] theorem State.grant_updCltEntry (s : State) (i j : Nat) (f : Option CltEntry → Option CltEntry) : (s.updCltEntry i f).grant j = s.grant j := rfl
@[simp] theorem State.client_updCltEntry (s : State) (i j : Nat) (f : Option CltEntry → Option CltEntry) : (s.updCltEntry i f).client j = s.client j := rfl
@[simp] theorem State.symKey_updCltEntry (s : State) (i j : Nat) (f : Option CltEntry → Option CltEntry) : (s.updCltEntry i f).symKey j = s.symKey j := rfl
@[simp] theorem State.annexKey_updCltEntry (s : State) (i j : Nat) (f : Option CltEntry → Option CltEntry) : (s.updCltEntry i f).annexKey j = s.annexKey j := rfl
@[simp] theorem State.openCarafe_updCltEntry (s : State) (i j : Nat) (f : Option CltEntry → Option CltEntry) : (s.updCltEntry i f).openCarafe j = s.openCarafe j := rfl
@[simp] theorem State.eng_updCltEntry (s : State) (i j : Nat) (f : Option CltEntry → Option CltEntry) : (s.updCltEntry i f).eng j = s.eng j := rfl
@[simp] theorem State.kslot_updCltEntry (s : State) (i j : Nat) (f : Option CltEntry → Option CltEntry) : (s.updCltEntry i f).kslot j = s.kslot j := rfl
@[simp] theorem State.mon_updCltEntry (s : State) (i j : Nat) (f : Option CltEntry → Option CltEntry) : (s.updCltEntry i f).mon j = s.mon j := rfl
@[simp] theorem State.dpllx_updCltEntry (s : State) (i j : Nat) (f : Option CltEntry → Option CltEntry) : (s.updCltEntry i f).dpllx j = s.dpllx j := rfl
@[simp] theorem State.pll_updCltEntry (s : State) (i j : Nat) (f : Option CltEntry → Option CltEntry) : (s.updCltEntry i f).pll j = s.pll j := rfl
@[simp] theorem State.chan_updCltEntry (s : State) (i j : Nat) (f : Option CltEntry → Option CltEntry) : (s.updCltEntry i f).chan j = s.chan j := rfl
@[simp] theorem State.timIn_updCltEntry (s : State) (i j : Nat) (f : Option CltEntry → Option CltEntry) : (s.updCltEntry i f).timIn j = s.timIn j := rfl
@[simp] theorem State.timCh_updCltEntry (s : State) (i j : Nat) (f : Option CltEntry → Option CltEntry) : (s.updCltEntry i f).timCh j = s.timCh j := rfl
@[simp] theorem State.lane_updCltEntry (s : State) (i j : Nat) (f : Option CltEntry → Option CltEntry) : (s.updCltEntry i f).lane j = s.lane j := rfl
@[simp] theorem State.slot_updCltEntry (s : State) (i j : Nat) (f : Option CltEntry → Option CltEntry) : (s.updCltEntry i f).slot j = s.slot j := rfl
@[simp] theorem State.core_updCltEntry (s : State) (i j : Nat) (f : Option CltEntry → Option CltEntry) : (s.updCltEntry i f).core j = s.core j := rfl
@[simp] theorem State.chEnd_updCltEntry (s : State) (i j : Nat) (f : Option CltEntry → Option CltEntry) : (s.updCltEntry i f).chEnd j = s.chEnd j := rfl
@[simp] theorem State.sem_updCltEntry (s : State) (i j : Nat) (f : Option CltEntry → Option CltEntry) : (s.updCltEntry i f).sem j = s.sem j := rfl
@[simp] theorem State.fwChan_updCltEntry (s : State) (i j : Nat) (f : Option CltEntry → Option CltEntry) : (s.updCltEntry i f).fwChan j = s.fwChan j := rfl
@[simp] theorem State.agg_updCltEntry (s : State) (i j : Nat) (f : Option CltEntry → Option CltEntry) : (s.updCltEntry i f).agg j = s.agg j := rfl
@[simp] theorem State.rd_updCltEntry (s : State) (i a : Nat) (f : Option CltEntry → Option CltEntry) : (s.updCltEntry i f).rd a = s.rd a := rfl
@[simp] theorem State.ac_updCltEntry (s : State) (i a : Nat) (f : Option CltEntry → Option CltEntry) : (s.updCltEntry i f).ac a = s.ac a := rfl
@[simp] theorem State.sh_updCltEntry (s : State) (i a : Nat) (f : Option CltEntry → Option CltEntry) : (s.updCltEntry i f).sh a = s.sh a := rfl

/-! ### `State.setCnt` -/

@[simp] theorem State.setCnt_live (s : State) (n : Nat) (c : Counter) : (s.setCnt n c).live = s.live := rfl
@[simp] theorem State.setCnt_shadow (s : State) (n : Nat) (c : Counter) : (s.setCnt n c).shadow = s.shadow := rfl
@[simp] theorem State.setCnt_active (s : State) (n : Nat) (c : Counter) : (s.setCnt n c).active = s.active := rfl
@[simp] theorem State.setCnt_time (s : State) (n : Nat) (c : Counter) : (s.setCnt n c).time = s.time := rfl
@[simp] theorem State.setCnt_vbat (s : State) (n : Nat) (c : Counter) : (s.setCnt n c).vbat = s.vbat := rfl
@[simp] theorem State.setCnt_otp (s : State) (n : Nat) (c : Counter) : (s.setCnt n c).otp = s.otp := rfl
@[simp] theorem State.setCnt_boot (s : State) (n : Nat) (c : Counter) : (s.setCnt n c).boot = s.boot := rfl
@[simp] theorem State.setCnt_serve (s : State) (n : Nat) (c : Counter) : (s.setCnt n c).serve = s.serve := rfl
@[simp] theorem State.setCnt_cfg (s : State) (n : Nat) (c : Counter) : (s.setCnt n c).cfg = s.cfg := rfl
@[simp] theorem State.setCnt_mbx (s : State) (n : Nat) (c : Counter) : (s.setCnt n c).mbx = s.mbx := rfl
@[simp] theorem State.setCnt_bus (s : State) (n : Nat) (c : Counter) : (s.setCnt n c).bus = s.bus := rfl
@[simp] theorem State.setCnt_ports (s : State) (n : Nat) (c : Counter) : (s.setCnt n c).ports = s.ports := rfl
@[simp] theorem State.setCnt_cals (s : State) (n : Nat) (c : Counter) : (s.setCnt n c).cals = s.cals := rfl
@[simp] theorem State.setCnt_rwl (s : State) (n : Nat) (c : Counter) : (s.setCnt n c).rwl = s.rwl := rfl
@[simp] theorem State.setCnt_cls (s : State) (n : Nat) (c : Counter) : (s.setCnt n c).cls = s.cls := rfl
@[simp] theorem State.setCnt_clus (s : State) (n : Nat) (c : Counter) : (s.setCnt n c).clus = s.clus := rfl
@[simp] theorem State.setCnt_clt (s : State) (n : Nat) (c : Counter) : (s.setCnt n c).clt = s.clt := rfl
@[simp] theorem State.setCnt_srv (s : State) (n : Nat) (c : Counter) : (s.setCnt n c).srv = s.srv := rfl
@[simp] theorem State.setCnt_rt (s : State) (n : Nat) (c : Counter) : (s.setCnt n c).rt = s.rt := rfl
@[simp] theorem State.setCnt_ptp (s : State) (n : Nat) (c : Counter) : (s.setCnt n c).ptp = s.ptp := rfl
@[simp] theorem State.setCnt_pke (s : State) (n : Nat) (c : Counter) : (s.setCnt n c).pke = s.pke := rfl
@[simp] theorem State.setCnt_ref (s : State) (n : Nat) (c : Counter) : (s.setCnt n c).ref = s.ref := rfl
@[simp] theorem State.setCnt_clk (s : State) (n : Nat) (c : Counter) : (s.setCnt n c).clk = s.clk := rfl
@[simp] theorem State.setCnt_gns (s : State) (n : Nat) (c : Counter) : (s.setCnt n c).gns = s.gns := rfl
@[simp] theorem State.setCnt_tim (s : State) (n : Nat) (c : Counter) : (s.setCnt n c).tim = s.tim := rfl
@[simp] theorem State.setCnt_evl (s : State) (n : Nat) (c : Counter) : (s.setCnt n c).evl = s.evl := rfl
@[simp] theorem State.setCnt_draws (s : State) (n : Nat) (c : Counter) : (s.setCnt n c).draws = s.draws := rfl
@[simp] theorem State.setCnt_frees (s : State) (n : Nat) (c : Counter) : (s.setCnt n c).frees = s.frees := rfl
@[simp] theorem State.setCnt_outbox (s : State) (n : Nat) (c : Counter) : (s.setCnt n c).outbox = s.outbox := rfl
@[simp] theorem State.setCnt_pending (s : State) (n : Nat) (c : Counter) : (s.setCnt n c).pending = s.pending := rfl

@[simp] theorem State.cnt_setCnt_same (s : State) (n : Nat) (c : Counter) : (s.setCnt n c).cnt n = c := tget_tset_same ..

theorem State.cnt_setCnt_ne (s : State) {n m : Nat} (c : Counter) (h : m ≠ n) : (s.setCnt n c).cnt m = s.cnt m :=
  tget_tset_ne _ _ _ h

/-! ### `State.updCntBank` -/

@[simp] theorem State.updCntBank_live (s : State) (m : Master) (f : CntBank → CntBank) : (s.updCntBank m f).live = s.live := rfl
@[simp] theorem State.updCntBank_shadow (s : State) (m : Master) (f : CntBank → CntBank) : (s.updCntBank m f).shadow = s.shadow := rfl
@[simp] theorem State.updCntBank_active (s : State) (m : Master) (f : CntBank → CntBank) : (s.updCntBank m f).active = s.active := rfl
@[simp] theorem State.updCntBank_time (s : State) (m : Master) (f : CntBank → CntBank) : (s.updCntBank m f).time = s.time := rfl
@[simp] theorem State.updCntBank_vbat (s : State) (m : Master) (f : CntBank → CntBank) : (s.updCntBank m f).vbat = s.vbat := rfl
@[simp] theorem State.updCntBank_otp (s : State) (m : Master) (f : CntBank → CntBank) : (s.updCntBank m f).otp = s.otp := rfl
@[simp] theorem State.updCntBank_boot (s : State) (m : Master) (f : CntBank → CntBank) : (s.updCntBank m f).boot = s.boot := rfl
@[simp] theorem State.updCntBank_serve (s : State) (m : Master) (f : CntBank → CntBank) : (s.updCntBank m f).serve = s.serve := rfl
@[simp] theorem State.updCntBank_cfg (s : State) (m : Master) (f : CntBank → CntBank) : (s.updCntBank m f).cfg = s.cfg := rfl
@[simp] theorem State.updCntBank_mbx (s : State) (m : Master) (f : CntBank → CntBank) : (s.updCntBank m f).mbx = s.mbx := rfl
@[simp] theorem State.updCntBank_bus (s : State) (m : Master) (f : CntBank → CntBank) : (s.updCntBank m f).bus = s.bus := rfl
@[simp] theorem State.updCntBank_ports (s : State) (m : Master) (f : CntBank → CntBank) : (s.updCntBank m f).ports = s.ports := rfl
@[simp] theorem State.updCntBank_cals (s : State) (m : Master) (f : CntBank → CntBank) : (s.updCntBank m f).cals = s.cals := rfl
@[simp] theorem State.updCntBank_rwl (s : State) (m : Master) (f : CntBank → CntBank) : (s.updCntBank m f).rwl = s.rwl := rfl
@[simp] theorem State.updCntBank_cls (s : State) (m : Master) (f : CntBank → CntBank) : (s.updCntBank m f).cls = s.cls := rfl
@[simp] theorem State.updCntBank_clus (s : State) (m : Master) (f : CntBank → CntBank) : (s.updCntBank m f).clus = s.clus := rfl
@[simp] theorem State.updCntBank_clt (s : State) (m : Master) (f : CntBank → CntBank) : (s.updCntBank m f).clt = s.clt := rfl
@[simp] theorem State.updCntBank_srv (s : State) (m : Master) (f : CntBank → CntBank) : (s.updCntBank m f).srv = s.srv := rfl
@[simp] theorem State.updCntBank_rt (s : State) (m : Master) (f : CntBank → CntBank) : (s.updCntBank m f).rt = s.rt := rfl
@[simp] theorem State.updCntBank_ptp (s : State) (m : Master) (f : CntBank → CntBank) : (s.updCntBank m f).ptp = s.ptp := rfl
@[simp] theorem State.updCntBank_pke (s : State) (m : Master) (f : CntBank → CntBank) : (s.updCntBank m f).pke = s.pke := rfl
@[simp] theorem State.updCntBank_ref (s : State) (m : Master) (f : CntBank → CntBank) : (s.updCntBank m f).ref = s.ref := rfl
@[simp] theorem State.updCntBank_clk (s : State) (m : Master) (f : CntBank → CntBank) : (s.updCntBank m f).clk = s.clk := rfl
@[simp] theorem State.updCntBank_gns (s : State) (m : Master) (f : CntBank → CntBank) : (s.updCntBank m f).gns = s.gns := rfl
@[simp] theorem State.updCntBank_tim (s : State) (m : Master) (f : CntBank → CntBank) : (s.updCntBank m f).tim = s.tim := rfl
@[simp] theorem State.updCntBank_evl (s : State) (m : Master) (f : CntBank → CntBank) : (s.updCntBank m f).evl = s.evl := rfl
@[simp] theorem State.updCntBank_draws (s : State) (m : Master) (f : CntBank → CntBank) : (s.updCntBank m f).draws = s.draws := rfl
@[simp] theorem State.updCntBank_frees (s : State) (m : Master) (f : CntBank → CntBank) : (s.updCntBank m f).frees = s.frees := rfl
@[simp] theorem State.updCntBank_outbox (s : State) (m : Master) (f : CntBank → CntBank) : (s.updCntBank m f).outbox = s.outbox := rfl
@[simp] theorem State.updCntBank_pending (s : State) (m : Master) (f : CntBank → CntBank) : (s.updCntBank m f).pending = s.pending := rfl

/-! ### `State.updGns` -/

@[simp] theorem State.updGns_live (s : State) (f : GnsSt → GnsSt) : (s.updGns f).live = s.live := rfl
@[simp] theorem State.updGns_shadow (s : State) (f : GnsSt → GnsSt) : (s.updGns f).shadow = s.shadow := rfl
@[simp] theorem State.updGns_active (s : State) (f : GnsSt → GnsSt) : (s.updGns f).active = s.active := rfl
@[simp] theorem State.updGns_time (s : State) (f : GnsSt → GnsSt) : (s.updGns f).time = s.time := rfl
@[simp] theorem State.updGns_vbat (s : State) (f : GnsSt → GnsSt) : (s.updGns f).vbat = s.vbat := rfl
@[simp] theorem State.updGns_otp (s : State) (f : GnsSt → GnsSt) : (s.updGns f).otp = s.otp := rfl
@[simp] theorem State.updGns_boot (s : State) (f : GnsSt → GnsSt) : (s.updGns f).boot = s.boot := rfl
@[simp] theorem State.updGns_serve (s : State) (f : GnsSt → GnsSt) : (s.updGns f).serve = s.serve := rfl
@[simp] theorem State.updGns_cfg (s : State) (f : GnsSt → GnsSt) : (s.updGns f).cfg = s.cfg := rfl
@[simp] theorem State.updGns_evt (s : State) (f : GnsSt → GnsSt) : (s.updGns f).evt = s.evt := rfl
@[simp] theorem State.updGns_mbx (s : State) (f : GnsSt → GnsSt) : (s.updGns f).mbx = s.mbx := rfl
@[simp] theorem State.updGns_bus (s : State) (f : GnsSt → GnsSt) : (s.updGns f).bus = s.bus := rfl
@[simp] theorem State.updGns_ports (s : State) (f : GnsSt → GnsSt) : (s.updGns f).ports = s.ports := rfl
@[simp] theorem State.updGns_cals (s : State) (f : GnsSt → GnsSt) : (s.updGns f).cals = s.cals := rfl
@[simp] theorem State.updGns_rwl (s : State) (f : GnsSt → GnsSt) : (s.updGns f).rwl = s.rwl := rfl
@[simp] theorem State.updGns_cls (s : State) (f : GnsSt → GnsSt) : (s.updGns f).cls = s.cls := rfl
@[simp] theorem State.updGns_clus (s : State) (f : GnsSt → GnsSt) : (s.updGns f).clus = s.clus := rfl
@[simp] theorem State.updGns_clt (s : State) (f : GnsSt → GnsSt) : (s.updGns f).clt = s.clt := rfl
@[simp] theorem State.updGns_srv (s : State) (f : GnsSt → GnsSt) : (s.updGns f).srv = s.srv := rfl
@[simp] theorem State.updGns_rt (s : State) (f : GnsSt → GnsSt) : (s.updGns f).rt = s.rt := rfl
@[simp] theorem State.updGns_ptp (s : State) (f : GnsSt → GnsSt) : (s.updGns f).ptp = s.ptp := rfl
@[simp] theorem State.updGns_pke (s : State) (f : GnsSt → GnsSt) : (s.updGns f).pke = s.pke := rfl
@[simp] theorem State.updGns_ref (s : State) (f : GnsSt → GnsSt) : (s.updGns f).ref = s.ref := rfl
@[simp] theorem State.updGns_clk (s : State) (f : GnsSt → GnsSt) : (s.updGns f).clk = s.clk := rfl
@[simp] theorem State.updGns_tim (s : State) (f : GnsSt → GnsSt) : (s.updGns f).tim = s.tim := rfl
@[simp] theorem State.updGns_evl (s : State) (f : GnsSt → GnsSt) : (s.updGns f).evl = s.evl := rfl
@[simp] theorem State.updGns_draws (s : State) (f : GnsSt → GnsSt) : (s.updGns f).draws = s.draws := rfl
@[simp] theorem State.updGns_frees (s : State) (f : GnsSt → GnsSt) : (s.updGns f).frees = s.frees := rfl
@[simp] theorem State.updGns_outbox (s : State) (f : GnsSt → GnsSt) : (s.updGns f).outbox = s.outbox := rfl
@[simp] theorem State.updGns_pending (s : State) (f : GnsSt → GnsSt) : (s.updGns f).pending = s.pending := rfl

@[simp] theorem State.updGns_gns (s : State) (f : GnsSt → GnsSt) : (s.updGns f).gns = f s.gns := rfl

end Sys2Proof.Machine
end

