-- ==== Sys2Proof/Laws/Ops.lean ====
section
/-!
SUPPORT. What the shared operations of `Machine/Ops.lean` do: the fields that each leaves, and what the raise of an event does
to EVT_STAT and to every other register.
-/

namespace Sys2Proof.Machine

/-! ### Shapes: the fields that an operation may change -/

theorem State.bump_shape (s : State) (a n : Nat) : s.bump a n = { s with live := (s.bump a n).live } := rfl

theorem State.keepMax_shape (s : State) (a n : Nat) : s.keepMax a n = { s with live := (s.keepMax a n).live } := by
  unfold State.keepMax; split <;> rfl

theorem State.cntPass_shape (s : State) (f : Nat → Counter → Nat × Nat) :
    s.cntPass f = { s with evt := { s.evt with cnts := (s.cntPass f).evt.cnts } } := by
  unfold State.cntPass; split <;> rfl

theorem State.flow_shape (s : State) (a n : Nat) :
    s.flow a n = { s with evt := { s.evt with cnts := (s.flow a n).evt.cnts } } := State.cntPass_shape ..

theorem State.countEvent_shape (s : State) (e : Nat) :
    s.countEvent e = { s with evt := { s.evt with cnts := (s.countEvent e).evt.cnts } } := State.cntPass_shape ..

theorem State.msixSend_shape (s : State) (v : Nat) :
    s.msixSend v = { s with evt := { s.evt with msix := (s.msixSend v).evt.msix }, outbox := (s.msixSend v).outbox } := by
  unfold State.msixSend; dsimp only; split <;> rfl

theorem State.setStat_shape (s : State) (e : Nat) : s.setStat e = { s with live := (s.setStat e).live } := by
  have fold (l : List Master) (t : State) (h : t = { s with live := t.live }) :
      let u := l.foldl (fun s m =>
        if bitAt (s.rd (bankKey m (Reg.EVT_CORE_EN (e / 32)))) (e % 32) then
          s.orBits (bankKey m (Reg.EVT_CORE_STAT (e / 32))) (bitMask (e % 32))
        else s) t
      u = { s with live := u.live } := by
    induction l generalizing t with
    | nil => exact h
    | cons m l ih =>
      refine ih _ ?_
      dsimp only
      split
      · rw [h]; rfl
      · exact h
  exact fold _ _ rfl

theorem State.deliver_shape (s₀ s : State) (vs : List Nat) :
    s₀.deliver s vs = { s with
      evt := { s.evt with msix := (s₀.deliver s vs).evt.msix }, outbox := (s₀.deliver s vs).outbox } := by
  unfold State.deliver
  suffices h : ∀ (t : State), t = { s with evt := { s.evt with msix := t.evt.msix }, outbox := t.outbox } →
      let u := vs.foldl (fun s v => if !s₀.vecPend v && s.vecPend v then s.msixSend v else s) t
      u = { s with evt := { s.evt with msix := u.evt.msix }, outbox := u.outbox } from h s rfl
  induction vs with
  | nil => exact fun _ h => h
  | cons v vs ih =>
    intro t h
    refine ih _ ?_
    dsimp only
    split
    · rw [State.msixSend_shape, h]
    · exact h

theorem State.raiseBit_shape (s : State) (e : Nat) :
    s.raiseBit e = { s with
      live := (s.setStat e).live, evt := { s.evt with msix := (s.raiseBit e).evt.msix }, outbox := (s.raiseBit e).outbox } := by
  unfold State.raiseBit; rw [State.deliver_shape, State.setStat_shape]

theorem State.alarmSync_shape (s : State) :
    s.alarmSync = { s with live := s.alarmSync.live, outbox := s.alarmSync.outbox, evt := { s.evt with
      cnts := s.alarmSync.evt.cnts, msix := s.alarmSync.evt.msix, alarm := s.alarmSync.evt.alarm } } := by
  unfold State.alarmSync
  split
  · rfl
  · split
    · rfl
    · rw [State.raiseBit_shape, State.countEvent_shape]

theorem State.raise_shape (s : State) (e : Nat) :
    s.raise e = { s with live := (s.raise e).live, outbox := (s.raise e).outbox, evt := { s.evt with
      cnts := (s.raise e).evt.cnts, msix := (s.raise e).evt.msix, alarm := (s.raise e).evt.alarm } } := by
  unfold State.raise; rw [State.alarmSync_shape, State.raiseBit_shape, State.countEvent_shape]

theorem State.raiseLim_shape (s : State) (e k n : Nat) :
    s.raiseLim e k n = { s with live := (s.raiseLim e k n).live, outbox := (s.raiseLim e k n).outbox, evt := { s.evt with
      cnts := (s.raiseLim e k n).evt.cnts, msix := (s.raiseLim e k n).evt.msix, alarm := (s.raiseLim e k n).evt.alarm
      lastSet := (s.raiseLim e k n).evt.lastSet } } := by
  unfold State.raiseLim; dsimp only; split
  · rw [State.countEvent_shape]
  · rw [State.raise_shape]

theorem State.countPiece_shape (s : State) (a b : Nat) :
    s.countPiece a b = { s with evt := { s.evt with cnts := (s.countPiece a b).evt.cnts } } := State.cntPass_shape ..

theorem State.countCycles_shape (s : State) (t : Nat) :
    s.countCycles t = { s with evt := { s.evt with cnts := (s.countCycles t).evt.cnts } } := by
  unfold State.countCycles
  suffices h : ∀ (l : List Nat) (p : Nat × State), p.2 = { s with evt := { s.evt with cnts := p.2.evt.cnts } } →
      let u := l.foldl (fun (acc : Nat × State) x => (x, acc.2.countPiece acc.1 x)) p
      u.2 = { s with evt := { s.evt with cnts := u.2.evt.cnts } } from h _ _ rfl
  intro l
  induction l with
  | nil => exact fun _ h => h
  | cons x l ih =>
    intro p h
    refine ih _ ?_
    dsimp only
    rw [State.countPiece_shape, h]

theorem State.advTo_shape (s : State) (t : Nat) :
    s.advTo t = { s with time := (s.advTo t).time, evt := { s.evt with cnts := (s.advTo t).evt.cnts } } := by
  unfold State.advTo; split
  · rfl
  · dsimp only; rw [State.countCycles_shape]

theorem State.advDt_shape (s : State) (t : Nat) :
    s.advDt t = { s with time := (s.advDt t).time, evt := { s.evt with cnts := (s.advDt t).evt.cnts } } := State.advTo_shape ..

/-- What the passage of time changes of the time unit: the tick, DT, and DT just before its last edge. -/
theorem State.advTo_time (s : State) (t : Nat) :
    (s.advTo t).time = { s.time with
      now := (s.advTo t).time.now, dt := (s.advTo t).time.dt, dtPrev := (s.advTo t).time.dtPrev } := by
  unfold State.advTo; split <;> rfl

/-- Time never runs back. -/
theorem State.advTo_now (s : State) (t : Nat) : (s.advTo t).time.now = max s.time.now t := by
  unfold State.advTo
  split
  · rename_i h; exact (Nat.max_eq_left h).symm
  · rename_i h; exact (Nat.max_eq_right (Nat.le_of_not_le h)).symm

theorem State.advDt_now (s : State) (t : Nat) : (s.advDt t).time.now = max s.time.now (s.tickOfDt t) := State.advTo_now ..

theorem State.le_advTo (s : State) (t : Nat) : s.time.now ≤ (s.advTo t).time.now := by
  rw [State.advTo_now]; exact Nat.le_max_left ..

theorem State.le_advDt (s : State) (t : Nat) : s.time.now ≤ (s.advDt t).time.now := State.le_advTo ..

/-- A register read depends on the register file alone. -/
theorem State.rd_congr {s t : State} (h : s.live = t.live) (a : Nat) : s.rd a = t.rd a := by unfold State.rd; rw [h]

/-- Whether an event stands depends on the register file alone. -/
theorem State.evSet_congr {s t : State} (h : s.live = t.live) (e : Nat) : s.evSet e = t.evSet e := by
  unfold State.evSet; rw [State.rd_congr h]

/-- DT SEC depends on the time unit alone. -/
theorem State.sec_congr {s t : State} (h : s.time = t.time) : s.sec = t.sec := by unfold State.sec; rw [h]

@[simp] theorem State.advTo_slots (s : State) (t : Nat) : (s.advTo t).time.slots = s.time.slots := by rw [State.advTo_time]
@[simp] theorem State.advTo_freq (s : State) (t : Nat) : (s.advTo t).time.freq = s.time.freq := by rw [State.advTo_time]
@[simp] theorem State.advTo_st (s : State) (t : Nat) : (s.advTo t).time.st = s.time.st := by rw [State.advTo_time]
@[simp] theorem State.advTo_capt (s : State) (t : Nat) : (s.advTo t).time.capt = s.time.capt := by rw [State.advTo_time]
@[simp] theorem State.advTo_floor (s : State) (t : Nat) : (s.advTo t).time.floor = s.time.floor := by rw [State.advTo_time]
@[simp] theorem State.advTo_localRead (s : State) (t : Nat) : (s.advTo t).time.localRead = s.time.localRead := by rw [State.advTo_time]
@[simp] theorem State.advTo_slot (s : State) (t i : Nat) : (s.advTo t).slot i = s.slot i := by simp [State.slot]


/-! ### `bump` -/

@[simp] theorem State.bump_shadow (s : State) (a n : Nat) : (s.bump a n).shadow = s.shadow := rfl
@[simp] theorem State.bump_active (s : State) (a n : Nat) : (s.bump a n).active = s.active := rfl
@[simp] theorem State.bump_time (s : State) (a n : Nat) : (s.bump a n).time = s.time := rfl
@[simp] theorem State.bump_vbat (s : State) (a n : Nat) : (s.bump a n).vbat = s.vbat := rfl
@[simp] theorem State.bump_otp (s : State) (a n : Nat) : (s.bump a n).otp = s.otp := rfl
@[simp] theorem State.bump_boot (s : State) (a n : Nat) : (s.bump a n).boot = s.boot := rfl
@[simp] theorem State.bump_serve (s : State) (a n : Nat) : (s.bump a n).serve = s.serve := rfl
@[simp] theorem State.bump_cfg (s : State) (a n : Nat) : (s.bump a n).cfg = s.cfg := rfl
@[simp] theorem State.bump_evt (s : State) (a n : Nat) : (s.bump a n).evt = s.evt := rfl
@[simp] theorem State.bump_mbx (s : State) (a n : Nat) : (s.bump a n).mbx = s.mbx := rfl
@[simp] theorem State.bump_bus (s : State) (a n : Nat) : (s.bump a n).bus = s.bus := rfl
@[simp] theorem State.bump_ports (s : State) (a n : Nat) : (s.bump a n).ports = s.ports := rfl
@[simp] theorem State.bump_cals (s : State) (a n : Nat) : (s.bump a n).cals = s.cals := rfl
@[simp] theorem State.bump_rwl (s : State) (a n : Nat) : (s.bump a n).rwl = s.rwl := rfl
@[simp] theorem State.bump_cls (s : State) (a n : Nat) : (s.bump a n).cls = s.cls := rfl
@[simp] theorem State.bump_clus (s : State) (a n : Nat) : (s.bump a n).clus = s.clus := rfl
@[simp] theorem State.bump_clt (s : State) (a n : Nat) : (s.bump a n).clt = s.clt := rfl
@[simp] theorem State.bump_srv (s : State) (a n : Nat) : (s.bump a n).srv = s.srv := rfl
@[simp] theorem State.bump_rt (s : State) (a n : Nat) : (s.bump a n).rt = s.rt := rfl
@[simp] theorem State.bump_ptp (s : State) (a n : Nat) : (s.bump a n).ptp = s.ptp := rfl
@[simp] theorem State.bump_pke (s : State) (a n : Nat) : (s.bump a n).pke = s.pke := rfl
@[simp] theorem State.bump_ref (s : State) (a n : Nat) : (s.bump a n).ref = s.ref := rfl
@[simp] theorem State.bump_clk (s : State) (a n : Nat) : (s.bump a n).clk = s.clk := rfl
@[simp] theorem State.bump_gns (s : State) (a n : Nat) : (s.bump a n).gns = s.gns := rfl
@[simp] theorem State.bump_tim (s : State) (a n : Nat) : (s.bump a n).tim = s.tim := rfl
@[simp] theorem State.bump_evl (s : State) (a n : Nat) : (s.bump a n).evl = s.evl := rfl
@[simp] theorem State.bump_draws (s : State) (a n : Nat) : (s.bump a n).draws = s.draws := rfl
@[simp] theorem State.bump_frees (s : State) (a n : Nat) : (s.bump a n).frees = s.frees := rfl
@[simp] theorem State.bump_outbox (s : State) (a n : Nat) : (s.bump a n).outbox = s.outbox := rfl
@[simp] theorem State.bump_pending (s : State) (a n : Nat) : (s.bump a n).pending = s.pending := rfl
@[simp] theorem State.port_bump (s : State) (a n : Nat) (i : Nat) : (s.bump a n).port i = s.port i := by simp [State.port]
@[simp] theorem State.cal_bump (s : State) (a n : Nat) (i : Nat) : (s.bump a n).cal i = s.cal i := by simp [State.cal]
@[simp] theorem State.clu_bump (s : State) (a n : Nat) (i : Nat) : (s.bump a n).clu i = s.clu i := by simp [State.clu]
@[simp] theorem State.ptpPort_bump (s : State) (a n : Nat) (i : Nat) : (s.bump a n).ptpPort i = s.ptpPort i := by simp [State.ptpPort]
@[simp] theorem State.grant_bump (s : State) (a n : Nat) (i : Nat) : (s.bump a n).grant i = s.grant i := by simp [State.grant]
@[simp] theorem State.client_bump (s : State) (a n : Nat) (i : Nat) : (s.bump a n).client i = s.client i := by simp [State.client]
@[simp] theorem State.symKey_bump (s : State) (a n : Nat) (i : Nat) : (s.bump a n).symKey i = s.symKey i := by simp [State.symKey]
@[simp] theorem State.annexKey_bump (s : State) (a n : Nat) (i : Nat) : (s.bump a n).annexKey i = s.annexKey i := by simp [State.annexKey]
@[simp] theorem State.openCarafe_bump (s : State) (a n : Nat) (i : Nat) : (s.bump a n).openCarafe i = s.openCarafe i := by simp [State.openCarafe]
@[simp] theorem State.eng_bump (s : State) (a n : Nat) (i : Nat) : (s.bump a n).eng i = s.eng i := by simp [State.eng]
@[simp] theorem State.kslot_bump (s : State) (a n : Nat) (i : Nat) : (s.bump a n).kslot i = s.kslot i := by simp [State.kslot]
@[simp] theorem State.mon_bump (s : State) (a n : Nat) (i : Nat) : (s.bump a n).mon i = s.mon i := by simp [State.mon]
@[simp] theorem State.dpllx_bump (s : State) (a n : Nat) (i : Nat) : (s.bump a n).dpllx i = s.dpllx i := by simp [State.dpllx]
@[simp] theorem State.pll_bump (s : State) (a n : Nat) (i : Nat) : (s.bump a n).pll i = s.pll i := by simp [State.pll]
@[simp] theorem State.chan_bump (s : State) (a n : Nat) (i : Nat) : (s.bump a n).chan i = s.chan i := by simp [State.chan]
@[simp] theorem State.timIn_bump (s : State) (a n : Nat) (i : Nat) : (s.bump a n).timIn i = s.timIn i := by simp [State.timIn]
@[simp] theorem State.timCh_bump (s : State) (a n : Nat) (i : Nat) : (s.bump a n).timCh i = s.timCh i := by simp [State.timCh]
@[simp] theorem State.lane_bump (s : State) (a n : Nat) (i : Nat) : (s.bump a n).lane i = s.lane i := by simp [State.lane]
@[simp] theorem State.slot_bump (s : State) (a n : Nat) (i : Nat) : (s.bump a n).slot i = s.slot i := by simp [State.slot]
@[simp] theorem State.core_bump (s : State) (a n : Nat) (i : Nat) : (s.bump a n).core i = s.core i := by simp [State.core]
@[simp] theorem State.chEnd_bump (s : State) (a n : Nat) (i : Nat) : (s.bump a n).chEnd i = s.chEnd i := by simp [State.chEnd]
@[simp] theorem State.sem_bump (s : State) (a n : Nat) (i : Nat) : (s.bump a n).sem i = s.sem i := by simp [State.sem]
@[simp] theorem State.fwChan_bump (s : State) (a n : Nat) (i : Nat) : (s.bump a n).fwChan i = s.fwChan i := by simp [State.fwChan]
@[simp] theorem State.agg_bump (s : State) (a n : Nat) (i : Nat) : (s.bump a n).agg i = s.agg i := by simp [State.agg]
@[simp] theorem State.cltEntry_bump (s : State) (a n : Nat) (i : Nat) : (s.bump a n).cltEntry i = s.cltEntry i := by simp [State.cltEntry]
@[simp] theorem State.ac_bump (s : State) (a n : Nat) (i : Nat) : (s.bump a n).ac i = s.ac i := by simp [State.ac]
@[simp] theorem State.sh_bump (s : State) (a n : Nat) (i : Nat) : (s.bump a n).sh i = s.sh i := by simp [State.sh]

/-! ### `keepMax` -/

@[simp] theorem State.keepMax_shadow (s : State) (a n : Nat) : (s.keepMax a n).shadow = s.shadow := by rw [State.keepMax_shape]
@[simp] theorem State.keepMax_active (s : State) (a n : Nat) : (s.keepMax a n).active = s.active := by rw [State.keepMax_shape]
@[simp] theorem State.keepMax_time (s : State) (a n : Nat) : (s.keepMax a n).time = s.time := by rw [State.keepMax_shape]
@[simp] theorem State.keepMax_vbat (s : State) (a n : Nat) : (s.keepMax a n).vbat = s.vbat := by rw [State.keepMax_shape]
@[simp] theorem State.keepMax_otp (s : State) (a n : Nat) : (s.keepMax a n).otp = s.otp := by rw [State.keepMax_shape]
@[simp] theorem State.keepMax_boot (s : State) (a n : Nat) : (s.keepMax a n).boot = s.boot := by rw [State.keepMax_shape]
@[simp] theorem State.keepMax_serve (s : State) (a n : Nat) : (s.keepMax a n).serve = s.serve := by rw [State.keepMax_shape]
@[simp] theorem State.keepMax_cfg (s : State) (a n : Nat) : (s.keepMax a n).cfg = s.cfg := by rw [State.keepMax_shape]
@[simp] theorem State.keepMax_evt (s : State) (a n : Nat) : (s.keepMax a n).evt = s.evt := by rw [State.keepMax_shape]
@[simp] theorem State.keepMax_mbx (s : State) (a n : Nat) : (s.keepMax a n).mbx = s.mbx := by rw [State.keepMax_shape]
@[simp] theorem State.keepMax_bus (s : State) (a n : Nat) : (s.keepMax a n).bus = s.bus := by rw [State.keepMax_shape]
@[simp] theorem State.keepMax_ports (s : State) (a n : Nat) : (s.keepMax a n).ports = s.ports := by rw [State.keepMax_shape]
@[simp] theorem State.keepMax_cals (s : State) (a n : Nat) : (s.keepMax a n).cals = s.cals := by rw [State.keepMax_shape]
@[simp] theorem State.keepMax_rwl (s : State) (a n : Nat) : (s.keepMax a n).rwl = s.rwl := by rw [State.keepMax_shape]
@[simp] theorem State.keepMax_cls (s : State) (a n : Nat) : (s.keepMax a n).cls = s.cls := by rw [State.keepMax_shape]
@[simp] theorem State.keepMax_clus (s : State) (a n : Nat) : (s.keepMax a n).clus = s.clus := by rw [State.keepMax_shape]
@[simp] theorem State.keepMax_clt (s : State) (a n : Nat) : (s.keepMax a n).clt = s.clt := by rw [State.keepMax_shape]
@[simp] theorem State.keepMax_srv (s : State) (a n : Nat) : (s.keepMax a n).srv = s.srv := by rw [State.keepMax_shape]
@[simp] theorem State.keepMax_rt (s : State) (a n : Nat) : (s.keepMax a n).rt = s.rt := by rw [State.keepMax_shape]
@[simp] theorem State.keepMax_ptp (s : State) (a n : Nat) : (s.keepMax a n).ptp = s.ptp := by rw [State.keepMax_shape]
@[simp] theorem State.keepMax_pke (s : State) (a n : Nat) : (s.keepMax a n).pke = s.pke := by rw [State.keepMax_shape]
@[simp] theorem State.keepMax_ref (s : State) (a n : Nat) : (s.keepMax a n).ref = s.ref := by rw [State.keepMax_shape]
@[simp] theorem State.keepMax_clk (s : State) (a n : Nat) : (s.keepMax a n).clk = s.clk := by rw [State.keepMax_shape]
@[simp] theorem State.keepMax_gns (s : State) (a n : Nat) : (s.keepMax a n).gns = s.gns := by rw [State.keepMax_shape]
@[simp] theorem State.keepMax_tim (s : State) (a n : Nat) : (s.keepMax a n).tim = s.tim := by rw [State.keepMax_shape]
@[simp] theorem State.keepMax_evl (s : State) (a n : Nat) : (s.keepMax a n).evl = s.evl := by rw [State.keepMax_shape]
@[simp] theorem State.keepMax_draws (s : State) (a n : Nat) : (s.keepMax a n).draws = s.draws := by rw [State.keepMax_shape]
@[simp] theorem State.keepMax_frees (s : State) (a n : Nat) : (s.keepMax a n).frees = s.frees := by rw [State.keepMax_shape]
@[simp] theorem State.keepMax_outbox (s : State) (a n : Nat) : (s.keepMax a n).outbox = s.outbox := by rw [State.keepMax_shape]
@[simp] theorem State.keepMax_pending (s : State) (a n : Nat) : (s.keepMax a n).pending = s.pending := by rw [State.keepMax_shape]
@[simp] theorem State.port_keepMax (s : State) (a n : Nat) (i : Nat) : (s.keepMax a n).port i = s.port i := by simp [State.port]
@[simp] theorem State.cal_keepMax (s : State) (a n : Nat) (i : Nat) : (s.keepMax a n).cal i = s.cal i := by simp [State.cal]
@[simp] theorem State.clu_keepMax (s : State) (a n : Nat) (i : Nat) : (s.keepMax a n).clu i = s.clu i := by simp [State.clu]
@[simp] theorem State.ptpPort_keepMax (s : State) (a n : Nat) (i : Nat) : (s.keepMax a n).ptpPort i = s.ptpPort i := by simp [State.ptpPort]
@[simp] theorem State.grant_keepMax (s : State) (a n : Nat) (i : Nat) : (s.keepMax a n).grant i = s.grant i := by simp [State.grant]
@[simp] theorem State.client_keepMax (s : State) (a n : Nat) (i : Nat) : (s.keepMax a n).client i = s.client i := by simp [State.client]
@[simp] theorem State.symKey_keepMax (s : State) (a n : Nat) (i : Nat) : (s.keepMax a n).symKey i = s.symKey i := by simp [State.symKey]
@[simp] theorem State.annexKey_keepMax (s : State) (a n : Nat) (i : Nat) : (s.keepMax a n).annexKey i = s.annexKey i := by simp [State.annexKey]
@[simp] theorem State.openCarafe_keepMax (s : State) (a n : Nat) (i : Nat) : (s.keepMax a n).openCarafe i = s.openCarafe i := by simp [State.openCarafe]
@[simp] theorem State.eng_keepMax (s : State) (a n : Nat) (i : Nat) : (s.keepMax a n).eng i = s.eng i := by simp [State.eng]
@[simp] theorem State.kslot_keepMax (s : State) (a n : Nat) (i : Nat) : (s.keepMax a n).kslot i = s.kslot i := by simp [State.kslot]
@[simp] theorem State.mon_keepMax (s : State) (a n : Nat) (i : Nat) : (s.keepMax a n).mon i = s.mon i := by simp [State.mon]
@[simp] theorem State.dpllx_keepMax (s : State) (a n : Nat) (i : Nat) : (s.keepMax a n).dpllx i = s.dpllx i := by simp [State.dpllx]
@[simp] theorem State.pll_keepMax (s : State) (a n : Nat) (i : Nat) : (s.keepMax a n).pll i = s.pll i := by simp [State.pll]
@[simp] theorem State.chan_keepMax (s : State) (a n : Nat) (i : Nat) : (s.keepMax a n).chan i = s.chan i := by simp [State.chan]
@[simp] theorem State.timIn_keepMax (s : State) (a n : Nat) (i : Nat) : (s.keepMax a n).timIn i = s.timIn i := by simp [State.timIn]
@[simp] theorem State.timCh_keepMax (s : State) (a n : Nat) (i : Nat) : (s.keepMax a n).timCh i = s.timCh i := by simp [State.timCh]
@[simp] theorem State.lane_keepMax (s : State) (a n : Nat) (i : Nat) : (s.keepMax a n).lane i = s.lane i := by simp [State.lane]
@[simp] theorem State.slot_keepMax (s : State) (a n : Nat) (i : Nat) : (s.keepMax a n).slot i = s.slot i := by simp [State.slot]
@[simp] theorem State.core_keepMax (s : State) (a n : Nat) (i : Nat) : (s.keepMax a n).core i = s.core i := by simp [State.core]
@[simp] theorem State.chEnd_keepMax (s : State) (a n : Nat) (i : Nat) : (s.keepMax a n).chEnd i = s.chEnd i := by simp [State.chEnd]
@[simp] theorem State.sem_keepMax (s : State) (a n : Nat) (i : Nat) : (s.keepMax a n).sem i = s.sem i := by simp [State.sem]
@[simp] theorem State.fwChan_keepMax (s : State) (a n : Nat) (i : Nat) : (s.keepMax a n).fwChan i = s.fwChan i := by simp [State.fwChan]
@[simp] theorem State.agg_keepMax (s : State) (a n : Nat) (i : Nat) : (s.keepMax a n).agg i = s.agg i := by simp [State.agg]
@[simp] theorem State.cltEntry_keepMax (s : State) (a n : Nat) (i : Nat) : (s.keepMax a n).cltEntry i = s.cltEntry i := by simp [State.cltEntry]
@[simp] theorem State.ac_keepMax (s : State) (a n : Nat) (i : Nat) : (s.keepMax a n).ac i = s.ac i := by simp [State.ac]
@[simp] theorem State.sh_keepMax (s : State) (a n : Nat) (i : Nat) : (s.keepMax a n).sh i = s.sh i := by simp [State.sh]

/-! ### `orBits` -/

@[simp] theorem State.orBits_shadow (s : State) (a : Nat) (v : Word) : (s.orBits a v).shadow = s.shadow := rfl
@[simp] theorem State.orBits_active (s : State) (a : Nat) (v : Word) : (s.orBits a v).active = s.active := rfl
@[simp] theorem State.orBits_time (s : State) (a : Nat) (v : Word) : (s.orBits a v).time = s.time := rfl
@[simp] theorem State.orBits_vbat (s : State) (a : Nat) (v : Word) : (s.orBits a v).vbat = s.vbat := rfl
@[simp] theorem State.orBits_otp (s : State) (a : Nat) (v : Word) : (s.orBits a v).otp = s.otp := rfl
@[simp] theorem State.orBits_boot (s : State) (a : Nat) (v : Word) : (s.orBits a v).boot = s.boot := rfl
@[simp] theorem State.orBits_serve (s : State) (a : Nat) (v : Word) : (s.orBits a v).serve = s.serve := rfl
@[simp] theorem State.orBits_cfg (s : State) (a : Nat) (v : Word) : (s.orBits a v).cfg = s.cfg := rfl
@[simp] theorem State.orBits_evt (s : State) (a : Nat) (v : Word) : (s.orBits a v).evt = s.evt := rfl
@[simp] theorem State.orBits_mbx (s : State) (a : Nat) (v : Word) : (s.orBits a v).mbx = s.mbx := rfl
@[simp] theorem State.orBits_bus (s : State) (a : Nat) (v : Word) : (s.orBits a v).bus = s.bus := rfl
@[simp] theorem State.orBits_ports (s : State) (a : Nat) (v : Word) : (s.orBits a v).ports = s.ports := rfl
@[simp] theorem State.orBits_cals (s : State) (a : Nat) (v : Word) : (s.orBits a v).cals = s.cals := rfl
@[simp] theorem State.orBits_rwl (s : State) (a : Nat) (v : Word) : (s.orBits a v).rwl = s.rwl := rfl
@[simp] theorem State.orBits_cls (s : State) (a : Nat) (v : Word) : (s.orBits a v).cls = s.cls := rfl
@[simp] theorem State.orBits_clus (s : State) (a : Nat) (v : Word) : (s.orBits a v).clus = s.clus := rfl
@[simp] theorem State.orBits_clt (s : State) (a : Nat) (v : Word) : (s.orBits a v).clt = s.clt := rfl
@[simp] theorem State.orBits_srv (s : State) (a : Nat) (v : Word) : (s.orBits a v).srv = s.srv := rfl
@[simp] theorem State.orBits_rt (s : State) (a : Nat) (v : Word) : (s.orBits a v).rt = s.rt := rfl
@[simp] theorem State.orBits_ptp (s : State) (a : Nat) (v : Word) : (s.orBits a v).ptp = s.ptp := rfl
@[simp] theorem State.orBits_pke (s : State) (a : Nat) (v : Word) : (s.orBits a v).pke = s.pke := rfl
@[simp] theorem State.orBits_ref (s : State) (a : Nat) (v : Word) : (s.orBits a v).ref = s.ref := rfl
@[simp] theorem State.orBits_clk (s : State) (a : Nat) (v : Word) : (s.orBits a v).clk = s.clk := rfl
@[simp] theorem State.orBits_gns (s : State) (a : Nat) (v : Word) : (s.orBits a v).gns = s.gns := rfl
@[simp] theorem State.orBits_tim (s : State) (a : Nat) (v : Word) : (s.orBits a v).tim = s.tim := rfl
@[simp] theorem State.orBits_evl (s : State) (a : Nat) (v : Word) : (s.orBits a v).evl = s.evl := rfl
@[simp] theorem State.orBits_draws (s : State) (a : Nat) (v : Word) : (s.orBits a v).draws = s.draws := rfl
@[simp] theorem State.orBits_frees (s : State) (a : Nat) (v : Word) : (s.orBits a v).frees = s.frees := rfl
@[simp] theorem State.orBits_outbox (s : State) (a : Nat) (v : Word) : (s.orBits a v).outbox = s.outbox := rfl
@[simp] theorem State.orBits_pending (s : State) (a : Nat) (v : Word) : (s.orBits a v).pending = s.pending := rfl
@[simp] theorem State.port_orBits (s : State) (a : Nat) (v : Word) (i : Nat) : (s.orBits a v).port i = s.port i := by simp [State.port]
@[simp] theorem State.cal_orBits (s : State) (a : Nat) (v : Word) (i : Nat) : (s.orBits a v).cal i = s.cal i := by simp [State.cal]
@[simp] theorem State.clu_orBits (s : State) (a : Nat) (v : Word) (i : Nat) : (s.orBits a v).clu i = s.clu i := by simp [State.clu]
@[simp] theorem State.ptpPort_orBits (s : State) (a : Nat) (v : Word) (i : Nat) : (s.orBits a v).ptpPort i = s.ptpPort i := by simp [State.ptpPort]
@[simp] theorem State.grant_orBits (s : State) (a : Nat) (v : Word) (i : Nat) : (s.orBits a v).grant i = s.grant i := by simp [State.grant]
@[simp] theorem State.client_orBits (s : State) (a : Nat) (v : Word) (i : Nat) : (s.orBits a v).client i = s.client i := by simp [State.client]
@[simp] theorem State.symKey_orBits (s : State) (a : Nat) (v : Word) (i : Nat) : (s.orBits a v).symKey i = s.symKey i := by simp [State.symKey]
@[simp] theorem State.annexKey_orBits (s : State) (a : Nat) (v : Word) (i : Nat) : (s.orBits a v).annexKey i = s.annexKey i := by simp [State.annexKey]
@[simp] theorem State.openCarafe_orBits (s : State) (a : Nat) (v : Word) (i : Nat) : (s.orBits a v).openCarafe i = s.openCarafe i := by simp [State.openCarafe]
@[simp] theorem State.eng_orBits (s : State) (a : Nat) (v : Word) (i : Nat) : (s.orBits a v).eng i = s.eng i := by simp [State.eng]
@[simp] theorem State.kslot_orBits (s : State) (a : Nat) (v : Word) (i : Nat) : (s.orBits a v).kslot i = s.kslot i := by simp [State.kslot]
@[simp] theorem State.mon_orBits (s : State) (a : Nat) (v : Word) (i : Nat) : (s.orBits a v).mon i = s.mon i := by simp [State.mon]
@[simp] theorem State.dpllx_orBits (s : State) (a : Nat) (v : Word) (i : Nat) : (s.orBits a v).dpllx i = s.dpllx i := by simp [State.dpllx]
@[simp] theorem State.pll_orBits (s : State) (a : Nat) (v : Word) (i : Nat) : (s.orBits a v).pll i = s.pll i := by simp [State.pll]
@[simp] theorem State.chan_orBits (s : State) (a : Nat) (v : Word) (i : Nat) : (s.orBits a v).chan i = s.chan i := by simp [State.chan]
@[simp] theorem State.timIn_orBits (s : State) (a : Nat) (v : Word) (i : Nat) : (s.orBits a v).timIn i = s.timIn i := by simp [State.timIn]
@[simp] theorem State.timCh_orBits (s : State) (a : Nat) (v : Word) (i : Nat) : (s.orBits a v).timCh i = s.timCh i := by simp [State.timCh]
@[simp] theorem State.lane_orBits (s : State) (a : Nat) (v : Word) (i : Nat) : (s.orBits a v).lane i = s.lane i := by simp [State.lane]
@[simp] theorem State.slot_orBits (s : State) (a : Nat) (v : Word) (i : Nat) : (s.orBits a v).slot i = s.slot i := by simp [State.slot]
@[simp] theorem State.core_orBits (s : State) (a : Nat) (v : Word) (i : Nat) : (s.orBits a v).core i = s.core i := by simp [State.core]
@[simp] theorem State.chEnd_orBits (s : State) (a : Nat) (v : Word) (i : Nat) : (s.orBits a v).chEnd i = s.chEnd i := by simp [State.chEnd]
@[simp] theorem State.sem_orBits (s : State) (a : Nat) (v : Word) (i : Nat) : (s.orBits a v).sem i = s.sem i := by simp [State.sem]
@[simp] theorem State.fwChan_orBits (s : State) (a : Nat) (v : Word) (i : Nat) : (s.orBits a v).fwChan i = s.fwChan i := by simp [State.fwChan]
@[simp] theorem State.agg_orBits (s : State) (a : Nat) (v : Word) (i : Nat) : (s.orBits a v).agg i = s.agg i := by simp [State.agg]
@[simp] theorem State.cltEntry_orBits (s : State) (a : Nat) (v : Word) (i : Nat) : (s.orBits a v).cltEntry i = s.cltEntry i := by simp [State.cltEntry]
@[simp] theorem State.ac_orBits (s : State) (a : Nat) (v : Word) (i : Nat) : (s.orBits a v).ac i = s.ac i := by simp [State.ac]
@[simp] theorem State.sh_orBits (s : State) (a : Nat) (v : Word) (i : Nat) : (s.orBits a v).sh i = s.sh i := by simp [State.sh]

/-! ### `clrBits` -/

@[simp] theorem State.clrBits_shadow (s : State) (a : Nat) (v : Word) : (s.clrBits a v).shadow = s.shadow := rfl
@[simp] theorem State.clrBits_active (s : State) (a : Nat) (v : Word) : (s.clrBits a v).active = s.active := rfl
@[simp] theorem State.clrBits_time (s : State) (a : Nat) (v : Word) : (s.clrBits a v).time = s.time := rfl
@[simp] theorem State.clrBits_vbat (s : State) (a : Nat) (v : Word) : (s.clrBits a v).vbat = s.vbat := rfl
@[simp] theorem State.clrBits_otp (s : State) (a : Nat) (v : Word) : (s.clrBits a v).otp = s.otp := rfl
@[simp] theorem State.clrBits_boot (s : State) (a : Nat) (v : Word) : (s.clrBits a v).boot = s.boot := rfl
@[simp] theorem State.clrBits_serve (s : State) (a : Nat) (v : Word) : (s.clrBits a v).serve = s.serve := rfl
@[simp] theorem State.clrBits_cfg (s : State) (a : Nat) (v : Word) : (s.clrBits a v).cfg = s.cfg := rfl
@[simp] theorem State.clrBits_evt (s : State) (a : Nat) (v : Word) : (s.clrBits a v).evt = s.evt := rfl
@[simp] theorem State.clrBits_mbx (s : State) (a : Nat) (v : Word) : (s.clrBits a v).mbx = s.mbx := rfl
@[simp] theorem State.clrBits_bus (s : State) (a : Nat) (v : Word) : (s.clrBits a v).bus = s.bus := rfl
@[simp] theorem State.clrBits_ports (s : State) (a : Nat) (v : Word) : (s.clrBits a v).ports = s.ports := rfl
@[simp] theorem State.clrBits_cals (s : State) (a : Nat) (v : Word) : (s.clrBits a v).cals = s.cals := rfl
@[simp] theorem State.clrBits_rwl (s : State) (a : Nat) (v : Word) : (s.clrBits a v).rwl = s.rwl := rfl
@[simp] theorem State.clrBits_cls (s : State) (a : Nat) (v : Word) : (s.clrBits a v).cls = s.cls := rfl
@[simp] theorem State.clrBits_clus (s : State) (a : Nat) (v : Word) : (s.clrBits a v).clus = s.clus := rfl
@[simp] theorem State.clrBits_clt (s : State) (a : Nat) (v : Word) : (s.clrBits a v).clt = s.clt := rfl
@[simp] theorem State.clrBits_srv (s : State) (a : Nat) (v : Word) : (s.clrBits a v).srv = s.srv := rfl
@[simp] theorem State.clrBits_rt (s : State) (a : Nat) (v : Word) : (s.clrBits a v).rt = s.rt := rfl
@[simp] theorem State.clrBits_ptp (s : State) (a : Nat) (v : Word) : (s.clrBits a v).ptp = s.ptp := rfl
@[simp] theorem State.clrBits_pke (s : State) (a : Nat) (v : Word) : (s.clrBits a v).pke = s.pke := rfl
@[simp] theorem State.clrBits_ref (s : State) (a : Nat) (v : Word) : (s.clrBits a v).ref = s.ref := rfl
@[simp] theorem State.clrBits_clk (s : State) (a : Nat) (v : Word) : (s.clrBits a v).clk = s.clk := rfl
@[simp] theorem State.clrBits_gns (s : State) (a : Nat) (v : Word) : (s.clrBits a v).gns = s.gns := rfl
@[simp] theorem State.clrBits_tim (s : State) (a : Nat) (v : Word) : (s.clrBits a v).tim = s.tim := rfl
@[simp] theorem State.clrBits_evl (s : State) (a : Nat) (v : Word) : (s.clrBits a v).evl = s.evl := rfl
@[simp] theorem State.clrBits_draws (s : State) (a : Nat) (v : Word) : (s.clrBits a v).draws = s.draws := rfl
@[simp] theorem State.clrBits_frees (s : State) (a : Nat) (v : Word) : (s.clrBits a v).frees = s.frees := rfl
@[simp] theorem State.clrBits_outbox (s : State) (a : Nat) (v : Word) : (s.clrBits a v).outbox = s.outbox := rfl
@[simp] theorem State.clrBits_pending (s : State) (a : Nat) (v : Word) : (s.clrBits a v).pending = s.pending := rfl
@[simp] theorem State.port_clrBits (s : State) (a : Nat) (v : Word) (i : Nat) : (s.clrBits a v).port i = s.port i := by simp [State.port]
@[simp] theorem State.cal_clrBits (s : State) (a : Nat) (v : Word) (i : Nat) : (s.clrBits a v).cal i = s.cal i := by simp [State.cal]
@[simp] theorem State.clu_clrBits (s : State) (a : Nat) (v : Word) (i : Nat) : (s.clrBits a v).clu i = s.clu i := by simp [State.clu]
@[simp] theorem State.ptpPort_clrBits (s : State) (a : Nat) (v : Word) (i : Nat) : (s.clrBits a v).ptpPort i = s.ptpPort i := by simp [State.ptpPort]
@[simp] theorem State.grant_clrBits (s : State) (a : Nat) (v : Word) (i : Nat) : (s.clrBits a v).grant i = s.grant i := by simp [State.grant]
@[simp] theorem State.client_clrBits (s : State) (a : Nat) (v : Word) (i : Nat) : (s.clrBits a v).client i = s.client i := by simp [State.client]
@[simp] theorem State.symKey_clrBits (s : State) (a : Nat) (v : Word) (i : Nat) : (s.clrBits a v).symKey i = s.symKey i := by simp [State.symKey]
@[simp] theorem State.annexKey_clrBits (s : State) (a : Nat) (v : Word) (i : Nat) : (s.clrBits a v).annexKey i = s.annexKey i := by simp [State.annexKey]
@[simp] theorem State.openCarafe_clrBits (s : State) (a : Nat) (v : Word) (i : Nat) : (s.clrBits a v).openCarafe i = s.openCarafe i := by simp [State.openCarafe]
@[simp] theorem State.eng_clrBits (s : State) (a : Nat) (v : Word) (i : Nat) : (s.clrBits a v).eng i = s.eng i := by simp [State.eng]
@[simp] theorem State.kslot_clrBits (s : State) (a : Nat) (v : Word) (i : Nat) : (s.clrBits a v).kslot i = s.kslot i := by simp [State.kslot]
@[simp] theorem State.mon_clrBits (s : State) (a : Nat) (v : Word) (i : Nat) : (s.clrBits a v).mon i = s.mon i := by simp [State.mon]
@[simp] theorem State.dpllx_clrBits (s : State) (a : Nat) (v : Word) (i : Nat) : (s.clrBits a v).dpllx i = s.dpllx i := by simp [State.dpllx]
@[simp] theorem State.pll_clrBits (s : State) (a : Nat) (v : Word) (i : Nat) : (s.clrBits a v).pll i = s.pll i := by simp [State.pll]
@[simp] theorem State.chan_clrBits (s : State) (a : Nat) (v : Word) (i : Nat) : (s.clrBits a v).chan i = s.chan i := by simp [State.chan]
@[simp] theorem State.timIn_clrBits (s : State) (a : Nat) (v : Word) (i : Nat) : (s.clrBits a v).timIn i = s.timIn i := by simp [State.timIn]
@[simp] theorem State.timCh_clrBits (s : State) (a : Nat) (v : Word) (i : Nat) : (s.clrBits a v).timCh i = s.timCh i := by simp [State.timCh]
@[simp] theorem State.lane_clrBits (s : State) (a : Nat) (v : Word) (i : Nat) : (s.clrBits a v).lane i = s.lane i := by simp [State.lane]
@[simp] theorem State.slot_clrBits (s : State) (a : Nat) (v : Word) (i : Nat) : (s.clrBits a v).slot i = s.slot i := by simp [State.slot]
@[simp] theorem State.core_clrBits (s : State) (a : Nat) (v : Word) (i : Nat) : (s.clrBits a v).core i = s.core i := by simp [State.core]
@[simp] theorem State.chEnd_clrBits (s : State) (a : Nat) (v : Word) (i : Nat) : (s.clrBits a v).chEnd i = s.chEnd i := by simp [State.chEnd]
@[simp] theorem State.sem_clrBits (s : State) (a : Nat) (v : Word) (i : Nat) : (s.clrBits a v).sem i = s.sem i := by simp [State.sem]
@[simp] theorem State.fwChan_clrBits (s : State) (a : Nat) (v : Word) (i : Nat) : (s.clrBits a v).fwChan i = s.fwChan i := by simp [State.fwChan]
@[simp] theorem State.agg_clrBits (s : State) (a : Nat) (v : Word) (i : Nat) : (s.clrBits a v).agg i = s.agg i := by simp [State.agg]
@[simp] theorem State.cltEntry_clrBits (s : State) (a : Nat) (v : Word) (i : Nat) : (s.clrBits a v).cltEntry i = s.cltEntry i := by simp [State.cltEntry]
@[simp] theorem State.ac_clrBits (s : State) (a : Nat) (v : Word) (i : Nat) : (s.clrBits a v).ac i = s.ac i := by simp [State.ac]
@[simp] theorem State.sh_clrBits (s : State) (a : Nat) (v : Word) (i : Nat) : (s.clrBits a v).sh i = s.sh i := by simp [State.sh]

/-! ### `wr64` -/

@[simp] theorem State.wr64_shadow (s : State) (a n : Nat) : (s.wr64 a n).shadow = s.shadow := rfl
@[simp] theorem State.wr64_active (s : State) (a n : Nat) : (s.wr64 a n).active = s.active := rfl
@[simp] theorem State.wr64_time (s : State) (a n : Nat) : (s.wr64 a n).time = s.time := rfl
@[simp] theorem State.wr64_vbat (s : State) (a n : Nat) : (s.wr64 a n).vbat = s.vbat := rfl
@[simp] theorem State.wr64_otp (s : State) (a n : Nat) : (s.wr64 a n).otp = s.otp := rfl
@[simp] theorem State.wr64_boot (s : State) (a n : Nat) : (s.wr64 a n).boot = s.boot := rfl
@[simp] theorem State.wr64_serve (s : State) (a n : Nat) : (s.wr64 a n).serve = s.serve := rfl
@[simp] theorem State.wr64_cfg (s : State) (a n : Nat) : (s.wr64 a n).cfg = s.cfg := rfl
@[simp] theorem State.wr64_evt (s : State) (a n : Nat) : (s.wr64 a n).evt = s.evt := rfl
@[simp] theorem State.wr64_mbx (s : State) (a n : Nat) : (s.wr64 a n).mbx = s.mbx := rfl
@[simp] theorem State.wr64_bus (s : State) (a n : Nat) : (s.wr64 a n).bus = s.bus := rfl
@[simp] theorem State.wr64_ports (s : State) (a n : Nat) : (s.wr64 a n).ports = s.ports := rfl
@[simp] theorem State.wr64_cals (s : State) (a n : Nat) : (s.wr64 a n).cals = s.cals := rfl
@[simp] theorem State.wr64_rwl (s : State) (a n : Nat) : (s.wr64 a n).rwl = s.rwl := rfl
@[simp] theorem State.wr64_cls (s : State) (a n : Nat) : (s.wr64 a n).cls = s.cls := rfl
@[simp] theorem State.wr64_clus (s : State) (a n : Nat) : (s.wr64 a n).clus = s.clus := rfl
@[simp] theorem State.wr64_clt (s : State) (a n : Nat) : (s.wr64 a n).clt = s.clt := rfl
@[simp] theorem State.wr64_srv (s : State) (a n : Nat) : (s.wr64 a n).srv = s.srv := rfl
@[simp] theorem State.wr64_rt (s : State) (a n : Nat) : (s.wr64 a n).rt = s.rt := rfl
@[simp] theorem State.wr64_ptp (s : State) (a n : Nat) : (s.wr64 a n).ptp = s.ptp := rfl
@[simp] theorem State.wr64_pke (s : State) (a n : Nat) : (s.wr64 a n).pke = s.pke := rfl
@[simp] theorem State.wr64_ref (s : State) (a n : Nat) : (s.wr64 a n).ref = s.ref := rfl
@[simp] theorem State.wr64_clk (s : State) (a n : Nat) : (s.wr64 a n).clk = s.clk := rfl
@[simp] theorem State.wr64_gns (s : State) (a n : Nat) : (s.wr64 a n).gns = s.gns := rfl
@[simp] theorem State.wr64_tim (s : State) (a n : Nat) : (s.wr64 a n).tim = s.tim := rfl
@[simp] theorem State.wr64_evl (s : State) (a n : Nat) : (s.wr64 a n).evl = s.evl := rfl
@[simp] theorem State.wr64_draws (s : State) (a n : Nat) : (s.wr64 a n).draws = s.draws := rfl
@[simp] theorem State.wr64_frees (s : State) (a n : Nat) : (s.wr64 a n).frees = s.frees := rfl
@[simp] theorem State.wr64_outbox (s : State) (a n : Nat) : (s.wr64 a n).outbox = s.outbox := rfl
@[simp] theorem State.wr64_pending (s : State) (a n : Nat) : (s.wr64 a n).pending = s.pending := rfl
@[simp] theorem State.port_wr64 (s : State) (a n : Nat) (i : Nat) : (s.wr64 a n).port i = s.port i := by simp [State.port]
@[simp] theorem State.cal_wr64 (s : State) (a n : Nat) (i : Nat) : (s.wr64 a n).cal i = s.cal i := by simp [State.cal]
@[simp] theorem State.clu_wr64 (s : State) (a n : Nat) (i : Nat) : (s.wr64 a n).clu i = s.clu i := by simp [State.clu]
@[simp] theorem State.ptpPort_wr64 (s : State) (a n : Nat) (i : Nat) : (s.wr64 a n).ptpPort i = s.ptpPort i := by simp [State.ptpPort]
@[simp] theorem State.grant_wr64 (s : State) (a n : Nat) (i : Nat) : (s.wr64 a n).grant i = s.grant i := by simp [State.grant]
@[simp] theorem State.client_wr64 (s : State) (a n : Nat) (i : Nat) : (s.wr64 a n).client i = s.client i := by simp [State.client]
@[simp] theorem State.symKey_wr64 (s : State) (a n : Nat) (i : Nat) : (s.wr64 a n).symKey i = s.symKey i := by simp [State.symKey]
@[simp] theorem State.annexKey_wr64 (s : State) (a n : Nat) (i : Nat) : (s.wr64 a n).annexKey i = s.annexKey i := by simp [State.annexKey]
@[simp] theorem State.openCarafe_wr64 (s : State) (a n : Nat) (i : Nat) : (s.wr64 a n).openCarafe i = s.openCarafe i := by simp [State.openCarafe]
@[simp] theorem State.eng_wr64 (s : State) (a n : Nat) (i : Nat) : (s.wr64 a n).eng i = s.eng i := by simp [State.eng]
@[simp] theorem State.kslot_wr64 (s : State) (a n : Nat) (i : Nat) : (s.wr64 a n).kslot i = s.kslot i := by simp [State.kslot]
@[simp] theorem State.mon_wr64 (s : State) (a n : Nat) (i : Nat) : (s.wr64 a n).mon i = s.mon i := by simp [State.mon]
@[simp] theorem State.dpllx_wr64 (s : State) (a n : Nat) (i : Nat) : (s.wr64 a n).dpllx i = s.dpllx i := by simp [State.dpllx]
@[simp] theorem State.pll_wr64 (s : State) (a n : Nat) (i : Nat) : (s.wr64 a n).pll i = s.pll i := by simp [State.pll]
@[simp] theorem State.chan_wr64 (s : State) (a n : Nat) (i : Nat) : (s.wr64 a n).chan i = s.chan i := by simp [State.chan]
@[simp] theorem State.timIn_wr64 (s : State) (a n : Nat) (i : Nat) : (s.wr64 a n).timIn i = s.timIn i := by simp [State.timIn]
@[simp] theorem State.timCh_wr64 (s : State) (a n : Nat) (i : Nat) : (s.wr64 a n).timCh i = s.timCh i := by simp [State.timCh]
@[simp] theorem State.lane_wr64 (s : State) (a n : Nat) (i : Nat) : (s.wr64 a n).lane i = s.lane i := by simp [State.lane]
@[simp] theorem State.slot_wr64 (s : State) (a n : Nat) (i : Nat) : (s.wr64 a n).slot i = s.slot i := by simp [State.slot]
@[simp] theorem State.core_wr64 (s : State) (a n : Nat) (i : Nat) : (s.wr64 a n).core i = s.core i := by simp [State.core]
@[simp] theorem State.chEnd_wr64 (s : State) (a n : Nat) (i : Nat) : (s.wr64 a n).chEnd i = s.chEnd i := by simp [State.chEnd]
@[simp] theorem State.sem_wr64 (s : State) (a n : Nat) (i : Nat) : (s.wr64 a n).sem i = s.sem i := by simp [State.sem]
@[simp] theorem State.fwChan_wr64 (s : State) (a n : Nat) (i : Nat) : (s.wr64 a n).fwChan i = s.fwChan i := by simp [State.fwChan]
@[simp] theorem State.agg_wr64 (s : State) (a n : Nat) (i : Nat) : (s.wr64 a n).agg i = s.agg i := by simp [State.agg]
@[simp] theorem State.cltEntry_wr64 (s : State) (a n : Nat) (i : Nat) : (s.wr64 a n).cltEntry i = s.cltEntry i := by simp [State.cltEntry]
@[simp] theorem State.ac_wr64 (s : State) (a n : Nat) (i : Nat) : (s.wr64 a n).ac i = s.ac i := by simp [State.ac]
@[simp] theorem State.sh_wr64 (s : State) (a n : Nat) (i : Nat) : (s.wr64 a n).sh i = s.sh i := by simp [State.sh]

/-! ### `flow` -/

@[simp] theorem State.flow_live (s : State) (a n : Nat) : (s.flow a n).live = s.live := by rw [State.flow_shape]
@[simp] theorem State.flow_shadow (s : State) (a n : Nat) : (s.flow a n).shadow = s.shadow := by rw [State.flow_shape]
@[simp] theorem State.flow_active (s : State) (a n : Nat) : (s.flow a n).active = s.active := by rw [State.flow_shape]
@[simp] theorem State.flow_time (s : State) (a n : Nat) : (s.flow a n).time = s.time := by rw [State.flow_shape]
@[simp] theorem State.flow_vbat (s : State) (a n : Nat) : (s.flow a n).vbat = s.vbat := by rw [State.flow_shape]
@[simp] theorem State.flow_otp (s : State) (a n : Nat) : (s.flow a n).otp = s.otp := by rw [State.flow_shape]
@[simp] theorem State.flow_boot (s : State) (a n : Nat) : (s.flow a n).boot = s.boot := by rw [State.flow_shape]
@[simp] theorem State.flow_serve (s : State) (a n : Nat) : (s.flow a n).serve = s.serve := by rw [State.flow_shape]
@[simp] theorem State.flow_cfg (s : State) (a n : Nat) : (s.flow a n).cfg = s.cfg := by rw [State.flow_shape]
@[simp] theorem State.flow_mbx (s : State) (a n : Nat) : (s.flow a n).mbx = s.mbx := by rw [State.flow_shape]
@[simp] theorem State.flow_bus (s : State) (a n : Nat) : (s.flow a n).bus = s.bus := by rw [State.flow_shape]
@[simp] theorem State.flow_ports (s : State) (a n : Nat) : (s.flow a n).ports = s.ports := by rw [State.flow_shape]
@[simp] theorem State.flow_cals (s : State) (a n : Nat) : (s.flow a n).cals = s.cals := by rw [State.flow_shape]
@[simp] theorem State.flow_rwl (s : State) (a n : Nat) : (s.flow a n).rwl = s.rwl := by rw [State.flow_shape]
@[simp] theorem State.flow_cls (s : State) (a n : Nat) : (s.flow a n).cls = s.cls := by rw [State.flow_shape]
@[simp] theorem State.flow_clus (s : State) (a n : Nat) : (s.flow a n).clus = s.clus := by rw [State.flow_shape]
@[simp] theorem State.flow_clt (s : State) (a n : Nat) : (s.flow a n).clt = s.clt := by rw [State.flow_shape]
@[simp] theorem State.flow_srv (s : State) (a n : Nat) : (s.flow a n).srv = s.srv := by rw [State.flow_shape]
@[simp] theorem State.flow_rt (s : State) (a n : Nat) : (s.flow a n).rt = s.rt := by rw [State.flow_shape]
@[simp] theorem State.flow_ptp (s : State) (a n : Nat) : (s.flow a n).ptp = s.ptp := by rw [State.flow_shape]
@[simp] theorem State.flow_pke (s : State) (a n : Nat) : (s.flow a n).pke = s.pke := by rw [State.flow_shape]
@[simp] theorem State.flow_ref (s : State) (a n : Nat) : (s.flow a n).ref = s.ref := by rw [State.flow_shape]
@[simp] theorem State.flow_clk (s : State) (a n : Nat) : (s.flow a n).clk = s.clk := by rw [State.flow_shape]
@[simp] theorem State.flow_gns (s : State) (a n : Nat) : (s.flow a n).gns = s.gns := by rw [State.flow_shape]
@[simp] theorem State.flow_tim (s : State) (a n : Nat) : (s.flow a n).tim = s.tim := by rw [State.flow_shape]
@[simp] theorem State.flow_evl (s : State) (a n : Nat) : (s.flow a n).evl = s.evl := by rw [State.flow_shape]
@[simp] theorem State.flow_draws (s : State) (a n : Nat) : (s.flow a n).draws = s.draws := by rw [State.flow_shape]
@[simp] theorem State.flow_frees (s : State) (a n : Nat) : (s.flow a n).frees = s.frees := by rw [State.flow_shape]
@[simp] theorem State.flow_outbox (s : State) (a n : Nat) : (s.flow a n).outbox = s.outbox := by rw [State.flow_shape]
@[simp] theorem State.flow_pending (s : State) (a n : Nat) : (s.flow a n).pending = s.pending := by rw [State.flow_shape]
@[simp] theorem State.port_flow (s : State) (a n : Nat) (i : Nat) : (s.flow a n).port i = s.port i := by simp [State.port]
@[simp] theorem State.cal_flow (s : State) (a n : Nat) (i : Nat) : (s.flow a n).cal i = s.cal i := by simp [State.cal]
@[simp] theorem State.clu_flow (s : State) (a n : Nat) (i : Nat) : (s.flow a n).clu i = s.clu i := by simp [State.clu]
@[simp] theorem State.ptpPort_flow (s : State) (a n : Nat) (i : Nat) : (s.flow a n).ptpPort i = s.ptpPort i := by simp [State.ptpPort]
@[simp] theorem State.grant_flow (s : State) (a n : Nat) (i : Nat) : (s.flow a n).grant i = s.grant i := by simp [State.grant]
@[simp] theorem State.client_flow (s : State) (a n : Nat) (i : Nat) : (s.flow a n).client i = s.client i := by simp [State.client]
@[simp] theorem State.symKey_flow (s : State) (a n : Nat) (i : Nat) : (s.flow a n).symKey i = s.symKey i := by simp [State.symKey]
@[simp] theorem State.annexKey_flow (s : State) (a n : Nat) (i : Nat) : (s.flow a n).annexKey i = s.annexKey i := by simp [State.annexKey]
@[simp] theorem State.openCarafe_flow (s : State) (a n : Nat) (i : Nat) : (s.flow a n).openCarafe i = s.openCarafe i := by simp [State.openCarafe]
@[simp] theorem State.eng_flow (s : State) (a n : Nat) (i : Nat) : (s.flow a n).eng i = s.eng i := by simp [State.eng]
@[simp] theorem State.kslot_flow (s : State) (a n : Nat) (i : Nat) : (s.flow a n).kslot i = s.kslot i := by simp [State.kslot]
@[simp] theorem State.mon_flow (s : State) (a n : Nat) (i : Nat) : (s.flow a n).mon i = s.mon i := by simp [State.mon]
@[simp] theorem State.dpllx_flow (s : State) (a n : Nat) (i : Nat) : (s.flow a n).dpllx i = s.dpllx i := by simp [State.dpllx]
@[simp] theorem State.pll_flow (s : State) (a n : Nat) (i : Nat) : (s.flow a n).pll i = s.pll i := by simp [State.pll]
@[simp] theorem State.chan_flow (s : State) (a n : Nat) (i : Nat) : (s.flow a n).chan i = s.chan i := by simp [State.chan]
@[simp] theorem State.timIn_flow (s : State) (a n : Nat) (i : Nat) : (s.flow a n).timIn i = s.timIn i := by simp [State.timIn]
@[simp] theorem State.timCh_flow (s : State) (a n : Nat) (i : Nat) : (s.flow a n).timCh i = s.timCh i := by simp [State.timCh]
@[simp] theorem State.lane_flow (s : State) (a n : Nat) (i : Nat) : (s.flow a n).lane i = s.lane i := by simp [State.lane]
@[simp] theorem State.slot_flow (s : State) (a n : Nat) (i : Nat) : (s.flow a n).slot i = s.slot i := by simp [State.slot]
@[simp] theorem State.core_flow (s : State) (a n : Nat) (i : Nat) : (s.flow a n).core i = s.core i := by simp [State.core]
@[simp] theorem State.chEnd_flow (s : State) (a n : Nat) (i : Nat) : (s.flow a n).chEnd i = s.chEnd i := by simp [State.chEnd]
@[simp] theorem State.sem_flow (s : State) (a n : Nat) (i : Nat) : (s.flow a n).sem i = s.sem i := by simp [State.sem]
@[simp] theorem State.fwChan_flow (s : State) (a n : Nat) (i : Nat) : (s.flow a n).fwChan i = s.fwChan i := by simp [State.fwChan]
@[simp] theorem State.agg_flow (s : State) (a n : Nat) (i : Nat) : (s.flow a n).agg i = s.agg i := by simp [State.agg]
@[simp] theorem State.cltEntry_flow (s : State) (a n : Nat) (i : Nat) : (s.flow a n).cltEntry i = s.cltEntry i := by simp [State.cltEntry]
@[simp] theorem State.rd_flow (s : State) (a n : Nat) (i : Nat) : (s.flow a n).rd i = s.rd i := by simp [State.rd]
@[simp] theorem State.ac_flow (s : State) (a n : Nat) (i : Nat) : (s.flow a n).ac i = s.ac i := by simp [State.ac]
@[simp] theorem State.sh_flow (s : State) (a n : Nat) (i : Nat) : (s.flow a n).sh i = s.sh i := by simp [State.sh]

/-! ### `countEvent` -/

@[simp] theorem State.countEvent_live (s : State) (e : Nat) : (s.countEvent e).live = s.live := by rw [State.countEvent_shape]
@[simp] theorem State.countEvent_shadow (s : State) (e : Nat) : (s.countEvent e).shadow = s.shadow := by rw [State.countEvent_shape]
@[simp] theorem State.countEvent_active (s : State) (e : Nat) : (s.countEvent e).active = s.active := by rw [State.countEvent_shape]
@[simp] theorem State.countEvent_time (s : State) (e : Nat) : (s.countEvent e).time = s.time := by rw [State.countEvent_shape]
@[simp] theorem State.countEvent_vbat (s : State) (e : Nat) : (s.countEvent e).vbat = s.vbat := by rw [State.countEvent_shape]
@[simp] theorem State.countEvent_otp (s : State) (e : Nat) : (s.countEvent e).otp = s.otp := by rw [State.countEvent_shape]
@[simp] theorem State.countEvent_boot (s : State) (e : Nat) : (s.countEvent e).boot = s.boot := by rw [State.countEvent_shape]
@[simp] theorem State.countEvent_serve (s : State) (e : Nat) : (s.countEvent e).serve = s.serve := by rw [State.countEvent_shape]
@[simp] theorem State.countEvent_cfg (s : State) (e : Nat) : (s.countEvent e).cfg = s.cfg := by rw [State.countEvent_shape]
@[simp] theorem State.countEvent_mbx (s : State) (e : Nat) : (s.countEvent e).mbx = s.mbx := by rw [State.countEvent_shape]
@[simp] theorem State.countEvent_bus (s : State) (e : Nat) : (s.countEvent e).bus = s.bus := by rw [State.countEvent_shape]
@[simp] theorem State.countEvent_ports (s : State) (e : Nat) : (s.countEvent e).ports = s.ports := by rw [State.countEvent_shape]
@[simp] theorem State.countEvent_cals (s : State) (e : Nat) : (s.countEvent e).cals = s.cals := by rw [State.countEvent_shape]
@[simp] theorem State.countEvent_rwl (s : State) (e : Nat) : (s.countEvent e).rwl = s.rwl := by rw [State.countEvent_shape]
@[simp] theorem State.countEvent_cls (s : State) (e : Nat) : (s.countEvent e).cls = s.cls := by rw [State.countEvent_shape]
@[simp] theorem State.countEvent_clus (s : State) (e : Nat) : (s.countEvent e).clus = s.clus := by rw [State.countEvent_shape]
@[simp] theorem State.countEvent_clt (s : State) (e : Nat) : (s.countEvent e).clt = s.clt := by rw [State.countEvent_shape]
@[simp] theorem State.countEvent_srv (s : State) (e : Nat) : (s.countEvent e).srv = s.srv := by rw [State.countEvent_shape]
@[simp] theorem State.countEvent_rt (s : State) (e : Nat) : (s.countEvent e).rt = s.rt := by rw [State.countEvent_shape]
@[simp] theorem State.countEvent_ptp (s : State) (e : Nat) : (s.countEvent e).ptp = s.ptp := by rw [State.countEvent_shape]
@[simp] theorem State.countEvent_pke (s : State) (e : Nat) : (s.countEvent e).pke = s.pke := by rw [State.countEvent_shape]
@[simp] theorem State.countEvent_ref (s : State) (e : Nat) : (s.countEvent e).ref = s.ref := by rw [State.countEvent_shape]
@[simp] theorem State.countEvent_clk (s : State) (e : Nat) : (s.countEvent e).clk = s.clk := by rw [State.countEvent_shape]
@[simp] theorem State.countEvent_gns (s : State) (e : Nat) : (s.countEvent e).gns = s.gns := by rw [State.countEvent_shape]
@[simp] theorem State.countEvent_tim (s : State) (e : Nat) : (s.countEvent e).tim = s.tim := by rw [State.countEvent_shape]
@[simp] theorem State.countEvent_evl (s : State) (e : Nat) : (s.countEvent e).evl = s.evl := by rw [State.countEvent_shape]
@[simp] theorem State.countEvent_draws (s : State) (e : Nat) : (s.countEvent e).draws = s.draws := by rw [State.countEvent_shape]
@[simp] theorem State.countEvent_frees (s : State) (e : Nat) : (s.countEvent e).frees = s.frees := by rw [State.countEvent_shape]
@[simp] theorem State.countEvent_outbox (s : State) (e : Nat) : (s.countEvent e).outbox = s.outbox := by rw [State.countEvent_shape]
@[simp] theorem State.countEvent_pending (s : State) (e : Nat) : (s.countEvent e).pending = s.pending := by rw [State.countEvent_shape]
@[simp] theorem State.port_countEvent (s : State) (e : Nat) (i : Nat) : (s.countEvent e).port i = s.port i := by simp [State.port]
@[simp] theorem State.cal_countEvent (s : State) (e : Nat) (i : Nat) : (s.countEvent e).cal i = s.cal i := by simp [State.cal]
@[simp] theorem State.clu_countEvent (s : State) (e : Nat) (i : Nat) : (s.countEvent e).clu i = s.clu i := by simp [State.clu]
@[simp] theorem State.ptpPort_countEvent (s : State) (e : Nat) (i : Nat) : (s.countEvent e).ptpPort i = s.ptpPort i := by simp [State.ptpPort]
@[simp] theorem State.grant_countEvent (s : State) (e : Nat) (i : Nat) : (s.countEvent e).grant i = s.grant i := by simp [State.grant]
@[simp] theorem State.client_countEvent (s : State) (e : Nat) (i : Nat) : (s.countEvent e).client i = s.client i := by simp [State.client]
@[simp] theorem State.symKey_countEvent (s : State) (e : Nat) (i : Nat) : (s.countEvent e).symKey i = s.symKey i := by simp [State.symKey]
@[simp] theorem State.annexKey_countEvent (s : State) (e : Nat) (i : Nat) : (s.countEvent e).annexKey i = s.annexKey i := by simp [State.annexKey]
@[simp] theorem State.openCarafe_countEvent (s : State) (e : Nat) (i : Nat) : (s.countEvent e).openCarafe i = s.openCarafe i := by simp [State.openCarafe]
@[simp] theorem State.eng_countEvent (s : State) (e : Nat) (i : Nat) : (s.countEvent e).eng i = s.eng i := by simp [State.eng]
@[simp] theorem State.kslot_countEvent (s : State) (e : Nat) (i : Nat) : (s.countEvent e).kslot i = s.kslot i := by simp [State.kslot]
@[simp] theorem State.mon_countEvent (s : State) (e : Nat) (i : Nat) : (s.countEvent e).mon i = s.mon i := by simp [State.mon]
@[simp] theorem State.dpllx_countEvent (s : State) (e : Nat) (i : Nat) : (s.countEvent e).dpllx i = s.dpllx i := by simp [State.dpllx]
@[simp] theorem State.pll_countEvent (s : State) (e : Nat) (i : Nat) : (s.countEvent e).pll i = s.pll i := by simp [State.pll]
@[simp] theorem State.chan_countEvent (s : State) (e : Nat) (i : Nat) : (s.countEvent e).chan i = s.chan i := by simp [State.chan]
@[simp] theorem State.timIn_countEvent (s : State) (e : Nat) (i : Nat) : (s.countEvent e).timIn i = s.timIn i := by simp [State.timIn]
@[simp] theorem State.timCh_countEvent (s : State) (e : Nat) (i : Nat) : (s.countEvent e).timCh i = s.timCh i := by simp [State.timCh]
@[simp] theorem State.lane_countEvent (s : State) (e : Nat) (i : Nat) : (s.countEvent e).lane i = s.lane i := by simp [State.lane]
@[simp] theorem State.slot_countEvent (s : State) (e : Nat) (i : Nat) : (s.countEvent e).slot i = s.slot i := by simp [State.slot]
@[simp] theorem State.core_countEvent (s : State) (e : Nat) (i : Nat) : (s.countEvent e).core i = s.core i := by simp [State.core]
@[simp] theorem State.chEnd_countEvent (s : State) (e : Nat) (i : Nat) : (s.countEvent e).chEnd i = s.chEnd i := by simp [State.chEnd]
@[simp] theorem State.sem_countEvent (s : State) (e : Nat) (i : Nat) : (s.countEvent e).sem i = s.sem i := by simp [State.sem]
@[simp] theorem State.fwChan_countEvent (s : State) (e : Nat) (i : Nat) : (s.countEvent e).fwChan i = s.fwChan i := by simp [State.fwChan]
@[simp] theorem State.agg_countEvent (s : State) (e : Nat) (i : Nat) : (s.countEvent e).agg i = s.agg i := by simp [State.agg]
@[simp] theorem State.cltEntry_countEvent (s : State) (e : Nat) (i : Nat) : (s.countEvent e).cltEntry i = s.cltEntry i := by simp [State.cltEntry]
@[simp] theorem State.rd_countEvent (s : State) (e : Nat) (i : Nat) : (s.countEvent e).rd i = s.rd i := by simp [State.rd]
@[simp] theorem State.ac_countEvent (s : State) (e : Nat) (i : Nat) : (s.countEvent e).ac i = s.ac i := by simp [State.ac]
@[simp] theorem State.sh_countEvent (s : State) (e : Nat) (i : Nat) : (s.countEvent e).sh i = s.sh i := by simp [State.sh]

/-! ### `raiseBit` -/

@[simp] theorem State.raiseBit_shadow (s : State) (e : Nat) : (s.raiseBit e).shadow = s.shadow := by rw [State.raiseBit_shape]
@[simp] theorem State.raiseBit_active (s : State) (e : Nat) : (s.raiseBit e).active = s.active := by rw [State.raiseBit_shape]
@[simp] theorem State.raiseBit_time (s : State) (e : Nat) : (s.raiseBit e).time = s.time := by rw [State.raiseBit_shape]
@[simp] theorem State.raiseBit_vbat (s : State) (e : Nat) : (s.raiseBit e).vbat = s.vbat := by rw [State.raiseBit_shape]
@[simp] theorem State.raiseBit_otp (s : State) (e : Nat) : (s.raiseBit e).otp = s.otp := by rw [State.raiseBit_shape]
@[simp] theorem State.raiseBit_boot (s : State) (e : Nat) : (s.raiseBit e).boot = s.boot := by rw [State.raiseBit_shape]
@[simp] theorem State.raiseBit_serve (s : State) (e : Nat) : (s.raiseBit e).serve = s.serve := by rw [State.raiseBit_shape]
@[simp] theorem State.raiseBit_cfg (s : State) (e : Nat) : (s.raiseBit e).cfg = s.cfg := by rw [State.raiseBit_shape]
@[simp] theorem State.raiseBit_mbx (s : State) (e : Nat) : (s.raiseBit e).mbx = s.mbx := by rw [State.raiseBit_shape]
@[simp] theorem State.raiseBit_bus (s : State) (e : Nat) : (s.raiseBit e).bus = s.bus := by rw [State.raiseBit_shape]
@[simp] theorem State.raiseBit_ports (s : State) (e : Nat) : (s.raiseBit e).ports = s.ports := by rw [State.raiseBit_shape]
@[simp] theorem State.raiseBit_cals (s : State) (e : Nat) : (s.raiseBit e).cals = s.cals := by rw [State.raiseBit_shape]
@[simp] theorem State.raiseBit_rwl (s : State) (e : Nat) : (s.raiseBit e).rwl = s.rwl := by rw [State.raiseBit_shape]
@[simp] theorem State.raiseBit_cls (s : State) (e : Nat) : (s.raiseBit e).cls = s.cls := by rw [State.raiseBit_shape]
@[simp] theorem State.raiseBit_clus (s : State) (e : Nat) : (s.raiseBit e).clus = s.clus := by rw [State.raiseBit_shape]
@[simp] theorem State.raiseBit_clt (s : State) (e : Nat) : (s.raiseBit e).clt = s.clt := by rw [State.raiseBit_shape]
@[simp] theorem State.raiseBit_srv (s : State) (e : Nat) : (s.raiseBit e).srv = s.srv := by rw [State.raiseBit_shape]
@[simp] theorem State.raiseBit_rt (s : State) (e : Nat) : (s.raiseBit e).rt = s.rt := by rw [State.raiseBit_shape]
@[simp] theorem State.raiseBit_ptp (s : State) (e : Nat) : (s.raiseBit e).ptp = s.ptp := by rw [State.raiseBit_shape]
@[simp] theorem State.raiseBit_pke (s : State) (e : Nat) : (s.raiseBit e).pke = s.pke := by rw [State.raiseBit_shape]
@[simp] theorem State.raiseBit_ref (s : State) (e : Nat) : (s.raiseBit e).ref = s.ref := by rw [State.raiseBit_shape]
@[simp] theorem State.raiseBit_clk (s : State) (e : Nat) : (s.raiseBit e).clk = s.clk := by rw [State.raiseBit_shape]
@[simp] theorem State.raiseBit_gns (s : State) (e : Nat) : (s.raiseBit e).gns = s.gns := by rw [State.raiseBit_shape]
@[simp] theorem State.raiseBit_tim (s : State) (e : Nat) : (s.raiseBit e).tim = s.tim := by rw [State.raiseBit_shape]
@[simp] theorem State.raiseBit_evl (s : State) (e : Nat) : (s.raiseBit e).evl = s.evl := by rw [State.raiseBit_shape]
@[simp] theorem State.raiseBit_draws (s : State) (e : Nat) : (s.raiseBit e).draws = s.draws := by rw [State.raiseBit_shape]
@[simp] theorem State.raiseBit_frees (s : State) (e : Nat) : (s.raiseBit e).frees = s.frees := by rw [State.raiseBit_shape]
@[simp] theorem State.raiseBit_pending (s : State) (e : Nat) : (s.raiseBit e).pending = s.pending := by rw [State.raiseBit_shape]
@[simp] theorem State.port_raiseBit (s : State) (e : Nat) (i : Nat) : (s.raiseBit e).port i = s.port i := by simp [State.port]
@[simp] theorem State.cal_raiseBit (s : State) (e : Nat) (i : Nat) : (s.raiseBit e).cal i = s.cal i := by simp [State.cal]
@[simp] theorem State.clu_raiseBit (s : State) (e : Nat) (i : Nat) : (s.raiseBit e).clu i = s.clu i := by simp [State.clu]
@[simp] theorem State.ptpPort_raiseBit (s : State) (e : Nat) (i : Nat) : (s.raiseBit e).ptpPort i = s.ptpPort i := by simp [State.ptpPort]
@[simp] theorem State.grant_raiseBit (s : State) (e : Nat) (i : Nat) : (s.raiseBit e).grant i = s.grant i := by simp [State.grant]
@[simp] theorem State.client_raiseBit (s : State) (e : Nat) (i : Nat) : (s.raiseBit e).client i = s.client i := by simp [State.client]
@[simp] theorem State.symKey_raiseBit (s : State) (e : Nat) (i : Nat) : (s.raiseBit e).symKey i = s.symKey i := by simp [State.symKey]
@[simp] theorem State.annexKey_raiseBit (s : State) (e : Nat) (i : Nat) : (s.raiseBit e).annexKey i = s.annexKey i := by simp [State.annexKey]
@[simp] theorem State.openCarafe_raiseBit (s : State) (e : Nat) (i : Nat) : (s.raiseBit e).openCarafe i = s.openCarafe i := by simp [State.openCarafe]
@[simp] theorem State.eng_raiseBit (s : State) (e : Nat) (i : Nat) : (s.raiseBit e).eng i = s.eng i := by simp [State.eng]
@[simp] theorem State.kslot_raiseBit (s : State) (e : Nat) (i : Nat) : (s.raiseBit e).kslot i = s.kslot i := by simp [State.kslot]
@[simp] theorem State.mon_raiseBit (s : State) (e : Nat) (i : Nat) : (s.raiseBit e).mon i = s.mon i := by simp [State.mon]
@[simp] theorem State.dpllx_raiseBit (s : State) (e : Nat) (i : Nat) : (s.raiseBit e).dpllx i = s.dpllx i := by simp [State.dpllx]
@[simp] theorem State.pll_raiseBit (s : State) (e : Nat) (i : Nat) : (s.raiseBit e).pll i = s.pll i := by simp [State.pll]
@[simp] theorem State.chan_raiseBit (s : State) (e : Nat) (i : Nat) : (s.raiseBit e).chan i = s.chan i := by simp [State.chan]
@[simp] theorem State.timIn_raiseBit (s : State) (e : Nat) (i : Nat) : (s.raiseBit e).timIn i = s.timIn i := by simp [State.timIn]
@[simp] theorem State.timCh_raiseBit (s : State) (e : Nat) (i : Nat) : (s.raiseBit e).timCh i = s.timCh i := by simp [State.timCh]
@[simp] theorem State.lane_raiseBit (s : State) (e : Nat) (i : Nat) : (s.raiseBit e).lane i = s.lane i := by simp [State.lane]
@[simp] theorem State.slot_raiseBit (s : State) (e : Nat) (i : Nat) : (s.raiseBit e).slot i = s.slot i := by simp [State.slot]
@[simp] theorem State.core_raiseBit (s : State) (e : Nat) (i : Nat) : (s.raiseBit e).core i = s.core i := by simp [State.core]
@[simp] theorem State.chEnd_raiseBit (s : State) (e : Nat) (i : Nat) : (s.raiseBit e).chEnd i = s.chEnd i := by simp [State.chEnd]
@[simp] theorem State.sem_raiseBit (s : State) (e : Nat) (i : Nat) : (s.raiseBit e).sem i = s.sem i := by simp [State.sem]
@[simp] theorem State.fwChan_raiseBit (s : State) (e : Nat) (i : Nat) : (s.raiseBit e).fwChan i = s.fwChan i := by simp [State.fwChan]
@[simp] theorem State.agg_raiseBit (s : State) (e : Nat) (i : Nat) : (s.raiseBit e).agg i = s.agg i := by simp [State.agg]
@[simp] theorem State.cltEntry_raiseBit (s : State) (e : Nat) (i : Nat) : (s.raiseBit e).cltEntry i = s.cltEntry i := by simp [State.cltEntry]
@[simp] theorem State.ac_raiseBit (s : State) (e : Nat) (i : Nat) : (s.raiseBit e).ac i = s.ac i := by simp [State.ac]
@[simp] theorem State.sh_raiseBit (s : State) (e : Nat) (i : Nat) : (s.raiseBit e).sh i = s.sh i := by simp [State.sh]

/-! ### `alarmSync` -/

@[simp] theorem State.alarmSync_shadow (s : State) : (s.alarmSync).shadow = s.shadow := by rw [State.alarmSync_shape]
@[simp] theorem State.alarmSync_active (s : State) : (s.alarmSync).active = s.active := by rw [State.alarmSync_shape]
@[simp] theorem State.alarmSync_time (s : State) : (s.alarmSync).time = s.time := by rw [State.alarmSync_shape]
@[simp] theorem State.alarmSync_vbat (s : State) : (s.alarmSync).vbat = s.vbat := by rw [State.alarmSync_shape]
@[simp] theorem State.alarmSync_otp (s : State) : (s.alarmSync).otp = s.otp := by rw [State.alarmSync_shape]
@[simp] theorem State.alarmSync_boot (s : State) : (s.alarmSync).boot = s.boot := by rw [State.alarmSync_shape]
@[simp] theorem State.alarmSync_serve (s : State) : (s.alarmSync).serve = s.serve := by rw [State.alarmSync_shape]
@[simp] theorem State.alarmSync_cfg (s : State) : (s.alarmSync).cfg = s.cfg := by rw [State.alarmSync_shape]
@[simp] theorem State.alarmSync_mbx (s : State) : (s.alarmSync).mbx = s.mbx := by rw [State.alarmSync_shape]
@[simp] theorem State.alarmSync_bus (s : State) : (s.alarmSync).bus = s.bus := by rw [State.alarmSync_shape]
@[simp] theorem State.alarmSync_ports (s : State) : (s.alarmSync).ports = s.ports := by rw [State.alarmSync_shape]
@[simp] theorem State.alarmSync_cals (s : State) : (s.alarmSync).cals = s.cals := by rw [State.alarmSync_shape]
@[simp] theorem State.alarmSync_rwl (s : State) : (s.alarmSync).rwl = s.rwl := by rw [State.alarmSync_shape]
@[simp] theorem State.alarmSync_cls (s : State) : (s.alarmSync).cls = s.cls := by rw [State.alarmSync_shape]
@[simp] theorem State.alarmSync_clus (s : State) : (s.alarmSync).clus = s.clus := by rw [State.alarmSync_shape]
@[simp] theorem State.alarmSync_clt (s : State) : (s.alarmSync).clt = s.clt := by rw [State.alarmSync_shape]
@[simp] theorem State.alarmSync_srv (s : State) : (s.alarmSync).srv = s.srv := by rw [State.alarmSync_shape]
@[simp] theorem State.alarmSync_rt (s : State) : (s.alarmSync).rt = s.rt := by rw [State.alarmSync_shape]
@[simp] theorem State.alarmSync_ptp (s : State) : (s.alarmSync).ptp = s.ptp := by rw [State.alarmSync_shape]
@[simp] theorem State.alarmSync_pke (s : State) : (s.alarmSync).pke = s.pke := by rw [State.alarmSync_shape]
@[simp] theorem State.alarmSync_ref (s : State) : (s.alarmSync).ref = s.ref := by rw [State.alarmSync_shape]
@[simp] theorem State.alarmSync_clk (s : State) : (s.alarmSync).clk = s.clk := by rw [State.alarmSync_shape]
@[simp] theorem State.alarmSync_gns (s : State) : (s.alarmSync).gns = s.gns := by rw [State.alarmSync_shape]
@[simp] theorem State.alarmSync_tim (s : State) : (s.alarmSync).tim = s.tim := by rw [State.alarmSync_shape]
@[simp] theorem State.alarmSync_evl (s : State) : (s.alarmSync).evl = s.evl := by rw [State.alarmSync_shape]
@[simp] theorem State.alarmSync_draws (s : State) : (s.alarmSync).draws = s.draws := by rw [State.alarmSync_shape]
@[simp] theorem State.alarmSync_frees (s : State) : (s.alarmSync).frees = s.frees := by rw [State.alarmSync_shape]
@[simp] theorem State.alarmSync_pending (s : State) : (s.alarmSync).pending = s.pending := by rw [State.alarmSync_shape]
@[simp] theorem State.port_alarmSync (s : State) (i : Nat) : (s.alarmSync).port i = s.port i := by simp [State.port]
@[simp] theorem State.cal_alarmSync (s : State) (i : Nat) : (s.alarmSync).cal i = s.cal i := by simp [State.cal]
@[simp] theorem State.clu_alarmSync (s : State) (i : Nat) : (s.alarmSync).clu i = s.clu i := by simp [State.clu]
@[simp] theorem State.ptpPort_alarmSync (s : State) (i : Nat) : (s.alarmSync).ptpPort i = s.ptpPort i := by simp [State.ptpPort]
@[simp] theorem State.grant_alarmSync (s : State) (i : Nat) : (s.alarmSync).grant i = s.grant i := by simp [State.grant]
@[simp] theorem State.client_alarmSync (s : State) (i : Nat) : (s.alarmSync).client i = s.client i := by simp [State.client]
@[simp] theorem State.symKey_alarmSync (s : State) (i : Nat) : (s.alarmSync).symKey i = s.symKey i := by simp [State.symKey]
@[simp] theorem State.annexKey_alarmSync (s : State) (i : Nat) : (s.alarmSync).annexKey i = s.annexKey i := by simp [State.annexKey]
@[simp] theorem State.openCarafe_alarmSync (s : State) (i : Nat) : (s.alarmSync).openCarafe i = s.openCarafe i := by simp [State.openCarafe]
@[simp] theorem State.eng_alarmSync (s : State) (i : Nat) : (s.alarmSync).eng i = s.eng i := by simp [State.eng]
@[simp] theorem State.kslot_alarmSync (s : State) (i : Nat) : (s.alarmSync).kslot i = s.kslot i := by simp [State.kslot]
@[simp] theorem State.mon_alarmSync (s : State) (i : Nat) : (s.alarmSync).mon i = s.mon i := by simp [State.mon]
@[simp] theorem State.dpllx_alarmSync (s : State) (i : Nat) : (s.alarmSync).dpllx i = s.dpllx i := by simp [State.dpllx]
@[simp] theorem State.pll_alarmSync (s : State) (i : Nat) : (s.alarmSync).pll i = s.pll i := by simp [State.pll]
@[simp] theorem State.chan_alarmSync (s : State) (i : Nat) : (s.alarmSync).chan i = s.chan i := by simp [State.chan]
@[simp] theorem State.timIn_alarmSync (s : State) (i : Nat) : (s.alarmSync).timIn i = s.timIn i := by simp [State.timIn]
@[simp] theorem State.timCh_alarmSync (s : State) (i : Nat) : (s.alarmSync).timCh i = s.timCh i := by simp [State.timCh]
@[simp] theorem State.lane_alarmSync (s : State) (i : Nat) : (s.alarmSync).lane i = s.lane i := by simp [State.lane]
@[simp] theorem State.slot_alarmSync (s : State) (i : Nat) : (s.alarmSync).slot i = s.slot i := by simp [State.slot]
@[simp] theorem State.core_alarmSync (s : State) (i : Nat) : (s.alarmSync).core i = s.core i := by simp [State.core]
@[simp] theorem State.chEnd_alarmSync (s : State) (i : Nat) : (s.alarmSync).chEnd i = s.chEnd i := by simp [State.chEnd]
@[simp] theorem State.sem_alarmSync (s : State) (i : Nat) : (s.alarmSync).sem i = s.sem i := by simp [State.sem]
@[simp] theorem State.fwChan_alarmSync (s : State) (i : Nat) : (s.alarmSync).fwChan i = s.fwChan i := by simp [State.fwChan]
@[simp] theorem State.agg_alarmSync (s : State) (i : Nat) : (s.alarmSync).agg i = s.agg i := by simp [State.agg]
@[simp] theorem State.cltEntry_alarmSync (s : State) (i : Nat) : (s.alarmSync).cltEntry i = s.cltEntry i := by simp [State.cltEntry]
@[simp] theorem State.ac_alarmSync (s : State) (i : Nat) : (s.alarmSync).ac i = s.ac i := by simp [State.ac]
@[simp] theorem State.sh_alarmSync (s : State) (i : Nat) : (s.alarmSync).sh i = s.sh i := by simp [State.sh]

/-! ### `raise` -/

@[simp] theorem State.raise_shadow (s : State) (e : Nat) : (s.raise e).shadow = s.shadow := by rw [State.raise_shape]
@[simp] theorem State.raise_active (s : State) (e : Nat) : (s.raise e).active = s.active := by rw [State.raise_shape]
@[simp] theorem State.raise_time (s : State) (e : Nat) : (s.raise e).time = s.time := by rw [State.raise_shape]
@[simp] theorem State.raise_vbat (s : State) (e : Nat) : (s.raise e).vbat = s.vbat := by rw [State.raise_shape]
@[simp] theorem State.raise_otp (s : State) (e : Nat) : (s.raise e).otp = s.otp := by rw [State.raise_shape]
@[simp] theorem State.raise_boot (s : State) (e : Nat) : (s.raise e).boot = s.boot := by rw [State.raise_shape]
@[simp] theorem State.raise_serve (s : State) (e : Nat) : (s.raise e).serve = s.serve := by rw [State.raise_shape]
@[simp] theorem State.raise_cfg (s : State) (e : Nat) : (s.raise e).cfg = s.cfg := by rw [State.raise_shape]
@[simp] theorem State.raise_mbx (s : State) (e : Nat) : (s.raise e).mbx = s.mbx := by rw [State.raise_shape]
@[simp] theorem State.raise_bus (s : State) (e : Nat) : (s.raise e).bus = s.bus := by rw [State.raise_shape]
@[simp] theorem State.raise_ports (s : State) (e : Nat) : (s.raise e).ports = s.ports := by rw [State.raise_shape]
@[simp] theorem State.raise_cals (s : State) (e : Nat) : (s.raise e).cals = s.cals := by rw [State.raise_shape]
@[simp] theorem State.raise_rwl (s : State) (e : Nat) : (s.raise e).rwl = s.rwl := by rw [State.raise_shape]
@[simp] theorem State.raise_cls (s : State) (e : Nat) : (s.raise e).cls = s.cls := by rw [State.raise_shape]
@[simp] theorem State.raise_clus (s : State) (e : Nat) : (s.raise e).clus = s.clus := by rw [State.raise_shape]
@[simp] theorem State.raise_clt (s : State) (e : Nat) : (s.raise e).clt = s.clt := by rw [State.raise_shape]
@[simp] theorem State.raise_srv (s : State) (e : Nat) : (s.raise e).srv = s.srv := by rw [State.raise_shape]
@[simp] theorem State.raise_rt (s : State) (e : Nat) : (s.raise e).rt = s.rt := by rw [State.raise_shape]
@[simp] theorem State.raise_ptp (s : State) (e : Nat) : (s.raise e).ptp = s.ptp := by rw [State.raise_shape]
@[simp] theorem State.raise_pke (s : State) (e : Nat) : (s.raise e).pke = s.pke := by rw [State.raise_shape]
@[simp] theorem State.raise_ref (s : State) (e : Nat) : (s.raise e).ref = s.ref := by rw [State.raise_shape]
@[simp] theorem State.raise_clk (s : State) (e : Nat) : (s.raise e).clk = s.clk := by rw [State.raise_shape]
@[simp] theorem State.raise_gns (s : State) (e : Nat) : (s.raise e).gns = s.gns := by rw [State.raise_shape]
@[simp] theorem State.raise_tim (s : State) (e : Nat) : (s.raise e).tim = s.tim := by rw [State.raise_shape]
@[simp] theorem State.raise_evl (s : State) (e : Nat) : (s.raise e).evl = s.evl := by rw [State.raise_shape]
@[simp] theorem State.raise_draws (s : State) (e : Nat) : (s.raise e).draws = s.draws := by rw [State.raise_shape]
@[simp] theorem State.raise_frees (s : State) (e : Nat) : (s.raise e).frees = s.frees := by rw [State.raise_shape]
@[simp] theorem State.raise_pending (s : State) (e : Nat) : (s.raise e).pending = s.pending := by rw [State.raise_shape]
@[simp] theorem State.port_raise (s : State) (e : Nat) (i : Nat) : (s.raise e).port i = s.port i := by simp [State.port]
@[simp] theorem State.cal_raise (s : State) (e : Nat) (i : Nat) : (s.raise e).cal i = s.cal i := by simp [State.cal]
@[simp] theorem State.clu_raise (s : State) (e : Nat) (i : Nat) : (s.raise e).clu i = s.clu i := by simp [State.clu]
@[simp] theorem State.ptpPort_raise (s : State) (e : Nat) (i : Nat) : (s.raise e).ptpPort i = s.ptpPort i := by simp [State.ptpPort]
@[simp] theorem State.grant_raise (s : State) (e : Nat) (i : Nat) : (s.raise e).grant i = s.grant i := by simp [State.grant]
@[simp] theorem State.client_raise (s : State) (e : Nat) (i : Nat) : (s.raise e).client i = s.client i := by simp [State.client]
@[simp] theorem State.symKey_raise (s : State) (e : Nat) (i : Nat) : (s.raise e).symKey i = s.symKey i := by simp [State.symKey]
@[simp] theorem State.annexKey_raise (s : State) (e : Nat) (i : Nat) : (s.raise e).annexKey i = s.annexKey i := by simp [State.annexKey]
@[simp] theorem State.openCarafe_raise (s : State) (e : Nat) (i : Nat) : (s.raise e).openCarafe i = s.openCarafe i := by simp [State.openCarafe]
@[simp] theorem State.eng_raise (s : State) (e : Nat) (i : Nat) : (s.raise e).eng i = s.eng i := by simp [State.eng]
@[simp] theorem State.kslot_raise (s : State) (e : Nat) (i : Nat) : (s.raise e).kslot i = s.kslot i := by simp [State.kslot]
@[simp] theorem State.mon_raise (s : State) (e : Nat) (i : Nat) : (s.raise e).mon i = s.mon i := by simp [State.mon]
@[simp] theorem State.dpllx_raise (s : State) (e : Nat) (i : Nat) : (s.raise e).dpllx i = s.dpllx i := by simp [State.dpllx]
@[simp] theorem State.pll_raise (s : State) (e : Nat) (i : Nat) : (s.raise e).pll i = s.pll i := by simp [State.pll]
@[simp] theorem State.chan_raise (s : State) (e : Nat) (i : Nat) : (s.raise e).chan i = s.chan i := by simp [State.chan]
@[simp] theorem State.timIn_raise (s : State) (e : Nat) (i : Nat) : (s.raise e).timIn i = s.timIn i := by simp [State.timIn]
@[simp] theorem State.timCh_raise (s : State) (e : Nat) (i : Nat) : (s.raise e).timCh i = s.timCh i := by simp [State.timCh]
@[simp] theorem State.lane_raise (s : State) (e : Nat) (i : Nat) : (s.raise e).lane i = s.lane i := by simp [State.lane]
@[simp] theorem State.slot_raise (s : State) (e : Nat) (i : Nat) : (s.raise e).slot i = s.slot i := by simp [State.slot]
@[simp] theorem State.core_raise (s : State) (e : Nat) (i : Nat) : (s.raise e).core i = s.core i := by simp [State.core]
@[simp] theorem State.chEnd_raise (s : State) (e : Nat) (i : Nat) : (s.raise e).chEnd i = s.chEnd i := by simp [State.chEnd]
@[simp] theorem State.sem_raise (s : State) (e : Nat) (i : Nat) : (s.raise e).sem i = s.sem i := by simp [State.sem]
@[simp] theorem State.fwChan_raise (s : State) (e : Nat) (i : Nat) : (s.raise e).fwChan i = s.fwChan i := by simp [State.fwChan]
@[simp] theorem State.agg_raise (s : State) (e : Nat) (i : Nat) : (s.raise e).agg i = s.agg i := by simp [State.agg]
@[simp] theorem State.cltEntry_raise (s : State) (e : Nat) (i : Nat) : (s.raise e).cltEntry i = s.cltEntry i := by simp [State.cltEntry]
@[simp] theorem State.ac_raise (s : State) (e : Nat) (i : Nat) : (s.raise e).ac i = s.ac i := by simp [State.ac]
@[simp] theorem State.sh_raise (s : State) (e : Nat) (i : Nat) : (s.raise e).sh i = s.sh i := by simp [State.sh]

/-! ### `raiseLim` -/

@[simp] theorem State.raiseLim_shadow (s : State) (e k n : Nat) : (s.raiseLim e k n).shadow = s.shadow := by rw [State.raiseLim_shape]
@[simp] theorem State.raiseLim_active (s : State) (e k n : Nat) : (s.raiseLim e k n).active = s.active := by rw [State.raiseLim_shape]
@[simp] theorem State.raiseLim_time (s : State) (e k n : Nat) : (s.raiseLim e k n).time = s.time := by rw [State.raiseLim_shape]
@[simp] theorem State.raiseLim_vbat (s : State) (e k n : Nat) : (s.raiseLim e k n).vbat = s.vbat := by rw [State.raiseLim_shape]
@[simp] theorem State.raiseLim_otp (s : State) (e k n : Nat) : (s.raiseLim e k n).otp = s.otp := by rw [State.raiseLim_shape]
@[simp] theorem State.raiseLim_boot (s : State) (e k n : Nat) : (s.raiseLim e k n).boot = s.boot := by rw [State.raiseLim_shape]
@[simp] theorem State.raiseLim_serve (s : State) (e k n : Nat) : (s.raiseLim e k n).serve = s.serve := by rw [State.raiseLim_shape]
@[simp] theorem State.raiseLim_cfg (s : State) (e k n : Nat) : (s.raiseLim e k n).cfg = s.cfg := by rw [State.raiseLim_shape]
@[simp] theorem State.raiseLim_mbx (s : State) (e k n : Nat) : (s.raiseLim e k n).mbx = s.mbx := by rw [State.raiseLim_shape]
@[simp] theorem State.raiseLim_bus (s : State) (e k n : Nat) : (s.raiseLim e k n).bus = s.bus := by rw [State.raiseLim_shape]
@[simp] theorem State.raiseLim_ports (s : State) (e k n : Nat) : (s.raiseLim e k n).ports = s.ports := by rw [State.raiseLim_shape]
@[simp] theorem State.raiseLim_cals (s : State) (e k n : Nat) : (s.raiseLim e k n).cals = s.cals := by rw [State.raiseLim_shape]
@[simp] theorem State.raiseLim_rwl (s : State) (e k n : Nat) : (s.raiseLim e k n).rwl = s.rwl := by rw [State.raiseLim_shape]
@[simp] theorem State.raiseLim_cls (s : State) (e k n : Nat) : (s.raiseLim e k n).cls = s.cls := by rw [State.raiseLim_shape]
@[simp] theorem State.raiseLim_clus (s : State) (e k n : Nat) : (s.raiseLim e k n).clus = s.clus := by rw [State.raiseLim_shape]
@[simp] theorem State.raiseLim_clt (s : State) (e k n : Nat) : (s.raiseLim e k n).clt = s.clt := by rw [State.raiseLim_shape]
@[simp] theorem State.raiseLim_srv (s : State) (e k n : Nat) : (s.raiseLim e k n).srv = s.srv := by rw [State.raiseLim_shape]
@[simp] theorem State.raiseLim_rt (s : State) (e k n : Nat) : (s.raiseLim e k n).rt = s.rt := by rw [State.raiseLim_shape]
@[simp] theorem State.raiseLim_ptp (s : State) (e k n : Nat) : (s.raiseLim e k n).ptp = s.ptp := by rw [State.raiseLim_shape]
@[simp] theorem State.raiseLim_pke (s : State) (e k n : Nat) : (s.raiseLim e k n).pke = s.pke := by rw [State.raiseLim_shape]
@[simp] theorem State.raiseLim_ref (s : State) (e k n : Nat) : (s.raiseLim e k n).ref = s.ref := by rw [State.raiseLim_shape]
@[simp] theorem State.raiseLim_clk (s : State) (e k n : Nat) : (s.raiseLim e k n).clk = s.clk := by rw [State.raiseLim_shape]
@[simp] theorem State.raiseLim_gns (s : State) (e k n : Nat) : (s.raiseLim e k n).gns = s.gns := by rw [State.raiseLim_shape]
@[simp] theorem State.raiseLim_tim (s : State) (e k n : Nat) : (s.raiseLim e k n).tim = s.tim := by rw [State.raiseLim_shape]
@[simp] theorem State.raiseLim_evl (s : State) (e k n : Nat) : (s.raiseLim e k n).evl = s.evl := by rw [State.raiseLim_shape]
@[simp] theorem State.raiseLim_draws (s : State) (e k n : Nat) : (s.raiseLim e k n).draws = s.draws := by rw [State.raiseLim_shape]
@[simp] theorem State.raiseLim_frees (s : State) (e k n : Nat) : (s.raiseLim e k n).frees = s.frees := by rw [State.raiseLim_shape]
@[simp] theorem State.raiseLim_pending (s : State) (e k n : Nat) : (s.raiseLim e k n).pending = s.pending := by rw [State.raiseLim_shape]
@[simp] theorem State.port_raiseLim (s : State) (e k n : Nat) (i : Nat) : (s.raiseLim e k n).port i = s.port i := by simp [State.port]
@[simp] theorem State.cal_raiseLim (s : State) (e k n : Nat) (i : Nat) : (s.raiseLim e k n).cal i = s.cal i := by simp [State.cal]
@[simp] theorem State.clu_raiseLim (s : State) (e k n : Nat) (i : Nat) : (s.raiseLim e k n).clu i = s.clu i := by simp [State.clu]
@[simp] theorem State.ptpPort_raiseLim (s : State) (e k n : Nat) (i : Nat) : (s.raiseLim e k n).ptpPort i = s.ptpPort i := by simp [State.ptpPort]
@[simp] theorem State.grant_raiseLim (s : State) (e k n : Nat) (i : Nat) : (s.raiseLim e k n).grant i = s.grant i := by simp [State.grant]
@[simp] theorem State.client_raiseLim (s : State) (e k n : Nat) (i : Nat) : (s.raiseLim e k n).client i = s.client i := by simp [State.client]
@[simp] theorem State.symKey_raiseLim (s : State) (e k n : Nat) (i : Nat) : (s.raiseLim e k n).symKey i = s.symKey i := by simp [State.symKey]
@[simp] theorem State.annexKey_raiseLim (s : State) (e k n : Nat) (i : Nat) : (s.raiseLim e k n).annexKey i = s.annexKey i := by simp [State.annexKey]
@[simp] theorem State.openCarafe_raiseLim (s : State) (e k n : Nat) (i : Nat) : (s.raiseLim e k n).openCarafe i = s.openCarafe i := by simp [State.openCarafe]
@[simp] theorem State.eng_raiseLim (s : State) (e k n : Nat) (i : Nat) : (s.raiseLim e k n).eng i = s.eng i := by simp [State.eng]
@[simp] theorem State.kslot_raiseLim (s : State) (e k n : Nat) (i : Nat) : (s.raiseLim e k n).kslot i = s.kslot i := by simp [State.kslot]
@[simp] theorem State.mon_raiseLim (s : State) (e k n : Nat) (i : Nat) : (s.raiseLim e k n).mon i = s.mon i := by simp [State.mon]
@[simp] theorem State.dpllx_raiseLim (s : State) (e k n : Nat) (i : Nat) : (s.raiseLim e k n).dpllx i = s.dpllx i := by simp [State.dpllx]
@[simp] theorem State.pll_raiseLim (s : State) (e k n : Nat) (i : Nat) : (s.raiseLim e k n).pll i = s.pll i := by simp [State.pll]
@[simp] theorem State.chan_raiseLim (s : State) (e k n : Nat) (i : Nat) : (s.raiseLim e k n).chan i = s.chan i := by simp [State.chan]
@[simp] theorem State.timIn_raiseLim (s : State) (e k n : Nat) (i : Nat) : (s.raiseLim e k n).timIn i = s.timIn i := by simp [State.timIn]
@[simp] theorem State.timCh_raiseLim (s : State) (e k n : Nat) (i : Nat) : (s.raiseLim e k n).timCh i = s.timCh i := by simp [State.timCh]
@[simp] theorem State.lane_raiseLim (s : State) (e k n : Nat) (i : Nat) : (s.raiseLim e k n).lane i = s.lane i := by simp [State.lane]
@[simp] theorem State.slot_raiseLim (s : State) (e k n : Nat) (i : Nat) : (s.raiseLim e k n).slot i = s.slot i := by simp [State.slot]
@[simp] theorem State.core_raiseLim (s : State) (e k n : Nat) (i : Nat) : (s.raiseLim e k n).core i = s.core i := by simp [State.core]
@[simp] theorem State.chEnd_raiseLim (s : State) (e k n : Nat) (i : Nat) : (s.raiseLim e k n).chEnd i = s.chEnd i := by simp [State.chEnd]
@[simp] theorem State.sem_raiseLim (s : State) (e k n : Nat) (i : Nat) : (s.raiseLim e k n).sem i = s.sem i := by simp [State.sem]
@[simp] theorem State.fwChan_raiseLim (s : State) (e k n : Nat) (i : Nat) : (s.raiseLim e k n).fwChan i = s.fwChan i := by simp [State.fwChan]
@[simp] theorem State.agg_raiseLim (s : State) (e k n : Nat) (i : Nat) : (s.raiseLim e k n).agg i = s.agg i := by simp [State.agg]
@[simp] theorem State.cltEntry_raiseLim (s : State) (e k n : Nat) (i : Nat) : (s.raiseLim e k n).cltEntry i = s.cltEntry i := by simp [State.cltEntry]
@[simp] theorem State.ac_raiseLim (s : State) (e k n : Nat) (i : Nat) : (s.raiseLim e k n).ac i = s.ac i := by simp [State.ac]
@[simp] theorem State.sh_raiseLim (s : State) (e k n : Nat) (i : Nat) : (s.raiseLim e k n).sh i = s.sh i := by simp [State.sh]

/-! ### `advTo` -/

@[simp] theorem State.advTo_live (s : State) (t : Nat) : (s.advTo t).live = s.live := by rw [State.advTo_shape]
@[simp] theorem State.advTo_shadow (s : State) (t : Nat) : (s.advTo t).shadow = s.shadow := by rw [State.advTo_shape]
@[simp] theorem State.advTo_active (s : State) (t : Nat) : (s.advTo t).active = s.active := by rw [State.advTo_shape]
@[simp] theorem State.advTo_vbat (s : State) (t : Nat) : (s.advTo t).vbat = s.vbat := by rw [State.advTo_shape]
@[simp] theorem State.advTo_otp (s : State) (t : Nat) : (s.advTo t).otp = s.otp := by rw [State.advTo_shape]
@[simp] theorem State.advTo_boot (s : State) (t : Nat) : (s.advTo t).boot = s.boot := by rw [State.advTo_shape]
@[simp] theorem State.advTo_serve (s : State) (t : Nat) : (s.advTo t).serve = s.serve := by rw [State.advTo_shape]
@[simp] theorem State.advTo_cfg (s : State) (t : Nat) : (s.advTo t).cfg = s.cfg := by rw [State.advTo_shape]
@[simp] theorem State.advTo_mbx (s : State) (t : Nat) : (s.advTo t).mbx = s.mbx := by rw [State.advTo_shape]
@[simp] theorem State.advTo_bus (s : State) (t : Nat) : (s.advTo t).bus = s.bus := by rw [State.advTo_shape]
@[simp] theorem State.advTo_ports (s : State) (t : Nat) : (s.advTo t).ports = s.ports := by rw [State.advTo_shape]
@[simp] theorem State.advTo_cals (s : State) (t : Nat) : (s.advTo t).cals = s.cals := by rw [State.advTo_shape]
@[simp] theorem State.advTo_rwl (s : State) (t : Nat) : (s.advTo t).rwl = s.rwl := by rw [State.advTo_shape]
@[simp] theorem State.advTo_cls (s : State) (t : Nat) : (s.advTo t).cls = s.cls := by rw [State.advTo_shape]
@[simp] theorem State.advTo_clus (s : State) (t : Nat) : (s.advTo t).clus = s.clus := by rw [State.advTo_shape]
@[simp] theorem State.advTo_clt (s : State) (t : Nat) : (s.advTo t).clt = s.clt := by rw [State.advTo_shape]
@[simp] theorem State.advTo_srv (s : State) (t : Nat) : (s.advTo t).srv = s.srv := by rw [State.advTo_shape]
@[simp] theorem State.advTo_rt (s : State) (t : Nat) : (s.advTo t).rt = s.rt := by rw [State.advTo_shape]
@[simp] theorem State.advTo_ptp (s : State) (t : Nat) : (s.advTo t).ptp = s.ptp := by rw [State.advTo_shape]
@[simp] theorem State.advTo_pke (s : State) (t : Nat) : (s.advTo t).pke = s.pke := by rw [State.advTo_shape]
@[simp] theorem State.advTo_ref (s : State) (t : Nat) : (s.advTo t).ref = s.ref := by rw [State.advTo_shape]
@[simp] theorem State.advTo_clk (s : State) (t : Nat) : (s.advTo t).clk = s.clk := by rw [State.advTo_shape]
@[simp] theorem State.advTo_gns (s : State) (t : Nat) : (s.advTo t).gns = s.gns := by rw [State.advTo_shape]
@[simp] theorem State.advTo_tim (s : State) (t : Nat) : (s.advTo t).tim = s.tim := by rw [State.advTo_shape]
@[simp] theorem State.advTo_evl (s : State) (t : Nat) : (s.advTo t).evl = s.evl := by rw [State.advTo_shape]
@[simp] theorem State.advTo_draws (s : State) (t : Nat) : (s.advTo t).draws = s.draws := by rw [State.advTo_shape]
@[simp] theorem State.advTo_frees (s : State) (t : Nat) : (s.advTo t).frees = s.frees := by rw [State.advTo_shape]
@[simp] theorem State.advTo_outbox (s : State) (t : Nat) : (s.advTo t).outbox = s.outbox := by rw [State.advTo_shape]
@[simp] theorem State.advTo_pending (s : State) (t : Nat) : (s.advTo t).pending = s.pending := by rw [State.advTo_shape]
@[simp] theorem State.port_advTo (s : State) (t : Nat) (i : Nat) : (s.advTo t).port i = s.port i := by simp [State.port]
@[simp] theorem State.cal_advTo (s : State) (t : Nat) (i : Nat) : (s.advTo t).cal i = s.cal i := by simp [State.cal]
@[simp] theorem State.clu_advTo (s : State) (t : Nat) (i : Nat) : (s.advTo t).clu i = s.clu i := by simp [State.clu]
@[simp] theorem State.ptpPort_advTo (s : State) (t : Nat) (i : Nat) : (s.advTo t).ptpPort i = s.ptpPort i := by simp [State.ptpPort]
@[simp] theorem State.grant_advTo (s : State) (t : Nat) (i : Nat) : (s.advTo t).grant i = s.grant i := by simp [State.grant]
@[simp] theorem State.client_advTo (s : State) (t : Nat) (i : Nat) : (s.advTo t).client i = s.client i := by simp [State.client]
@[simp] theorem State.symKey_advTo (s : State) (t : Nat) (i : Nat) : (s.advTo t).symKey i = s.symKey i := by simp [State.symKey]
@[simp] theorem State.annexKey_advTo (s : State) (t : Nat) (i : Nat) : (s.advTo t).annexKey i = s.annexKey i := by simp [State.annexKey]
@[simp] theorem State.openCarafe_advTo (s : State) (t : Nat) (i : Nat) : (s.advTo t).openCarafe i = s.openCarafe i := by simp [State.openCarafe]
@[simp] theorem State.eng_advTo (s : State) (t : Nat) (i : Nat) : (s.advTo t).eng i = s.eng i := by simp [State.eng]
@[simp] theorem State.kslot_advTo (s : State) (t : Nat) (i : Nat) : (s.advTo t).kslot i = s.kslot i := by simp [State.kslot]
@[simp] theorem State.mon_advTo (s : State) (t : Nat) (i : Nat) : (s.advTo t).mon i = s.mon i := by simp [State.mon]
@[simp] theorem State.dpllx_advTo (s : State) (t : Nat) (i : Nat) : (s.advTo t).dpllx i = s.dpllx i := by simp [State.dpllx]
@[simp] theorem State.pll_advTo (s : State) (t : Nat) (i : Nat) : (s.advTo t).pll i = s.pll i := by simp [State.pll]
@[simp] theorem State.chan_advTo (s : State) (t : Nat) (i : Nat) : (s.advTo t).chan i = s.chan i := by simp [State.chan]
@[simp] theorem State.timIn_advTo (s : State) (t : Nat) (i : Nat) : (s.advTo t).timIn i = s.timIn i := by simp [State.timIn]
@[simp] theorem State.timCh_advTo (s : State) (t : Nat) (i : Nat) : (s.advTo t).timCh i = s.timCh i := by simp [State.timCh]
@[simp] theorem State.lane_advTo (s : State) (t : Nat) (i : Nat) : (s.advTo t).lane i = s.lane i := by simp [State.lane]
@[simp] theorem State.core_advTo (s : State) (t : Nat) (i : Nat) : (s.advTo t).core i = s.core i := by simp [State.core]
@[simp] theorem State.chEnd_advTo (s : State) (t : Nat) (i : Nat) : (s.advTo t).chEnd i = s.chEnd i := by simp [State.chEnd]
@[simp] theorem State.sem_advTo (s : State) (t : Nat) (i : Nat) : (s.advTo t).sem i = s.sem i := by simp [State.sem]
@[simp] theorem State.fwChan_advTo (s : State) (t : Nat) (i : Nat) : (s.advTo t).fwChan i = s.fwChan i := by simp [State.fwChan]
@[simp] theorem State.agg_advTo (s : State) (t : Nat) (i : Nat) : (s.advTo t).agg i = s.agg i := by simp [State.agg]
@[simp] theorem State.cltEntry_advTo (s : State) (t : Nat) (i : Nat) : (s.advTo t).cltEntry i = s.cltEntry i := by simp [State.cltEntry]
@[simp] theorem State.rd_advTo (s : State) (t : Nat) (i : Nat) : (s.advTo t).rd i = s.rd i := by simp [State.rd]
@[simp] theorem State.ac_advTo (s : State) (t : Nat) (i : Nat) : (s.advTo t).ac i = s.ac i := by simp [State.ac]
@[simp] theorem State.sh_advTo (s : State) (t : Nat) (i : Nat) : (s.advTo t).sh i = s.sh i := by simp [State.sh]

/-! ### `advDt` -/

@[simp] theorem State.advDt_live (s : State) (t : Nat) : (s.advDt t).live = s.live := by rw [State.advDt_shape]
@[simp] theorem State.advDt_shadow (s : State) (t : Nat) : (s.advDt t).shadow = s.shadow := by rw [State.advDt_shape]
@[simp] theorem State.advDt_active (s : State) (t : Nat) : (s.advDt t).active = s.active := by rw [State.advDt_shape]
@[simp] theorem State.advDt_vbat (s : State) (t : Nat) : (s.advDt t).vbat = s.vbat := by rw [State.advDt_shape]
@[simp] theorem State.advDt_otp (s : State) (t : Nat) : (s.advDt t).otp = s.otp := by rw [State.advDt_shape]
@[simp] theorem State.advDt_boot (s : State) (t : Nat) : (s.advDt t).boot = s.boot := by rw [State.advDt_shape]
@[simp] theorem State.advDt_serve (s : State) (t : Nat) : (s.advDt t).serve = s.serve := by rw [State.advDt_shape]
@[simp] theorem State.advDt_cfg (s : State) (t : Nat) : (s.advDt t).cfg = s.cfg := by rw [State.advDt_shape]
@[simp] theorem State.advDt_mbx (s : State) (t : Nat) : (s.advDt t).mbx = s.mbx := by rw [State.advDt_shape]
@[simp] theorem State.advDt_bus (s : State) (t : Nat) : (s.advDt t).bus = s.bus := by rw [State.advDt_shape]
@[simp] theorem State.advDt_ports (s : State) (t : Nat) : (s.advDt t).ports = s.ports := by rw [State.advDt_shape]
@[simp] theorem State.advDt_cals (s : State) (t : Nat) : (s.advDt t).cals = s.cals := by rw [State.advDt_shape]
@[simp] theorem State.advDt_rwl (s : State) (t : Nat) : (s.advDt t).rwl = s.rwl := by rw [State.advDt_shape]
@[simp] theorem State.advDt_cls (s : State) (t : Nat) : (s.advDt t).cls = s.cls := by rw [State.advDt_shape]
@[simp] theorem State.advDt_clus (s : State) (t : Nat) : (s.advDt t).clus = s.clus := by rw [State.advDt_shape]
@[simp] theorem State.advDt_clt (s : State) (t : Nat) : (s.advDt t).clt = s.clt := by rw [State.advDt_shape]
@[simp] theorem State.advDt_srv (s : State) (t : Nat) : (s.advDt t).srv = s.srv := by rw [State.advDt_shape]
@[simp] theorem State.advDt_rt (s : State) (t : Nat) : (s.advDt t).rt = s.rt := by rw [State.advDt_shape]
@[simp] theorem State.advDt_ptp (s : State) (t : Nat) : (s.advDt t).ptp = s.ptp := by rw [State.advDt_shape]
@[simp] theorem State.advDt_pke (s : State) (t : Nat) : (s.advDt t).pke = s.pke := by rw [State.advDt_shape]
@[simp] theorem State.advDt_ref (s : State) (t : Nat) : (s.advDt t).ref = s.ref := by rw [State.advDt_shape]
@[simp] theorem State.advDt_clk (s : State) (t : Nat) : (s.advDt t).clk = s.clk := by rw [State.advDt_shape]
@[simp] theorem State.advDt_gns (s : State) (t : Nat) : (s.advDt t).gns = s.gns := by rw [State.advDt_shape]
@[simp] theorem State.advDt_tim (s : State) (t : Nat) : (s.advDt t).tim = s.tim := by rw [State.advDt_shape]
@[simp] theorem State.advDt_evl (s : State) (t : Nat) : (s.advDt t).evl = s.evl := by rw [State.advDt_shape]
@[simp] theorem State.advDt_draws (s : State) (t : Nat) : (s.advDt t).draws = s.draws := by rw [State.advDt_shape]
@[simp] theorem State.advDt_frees (s : State) (t : Nat) : (s.advDt t).frees = s.frees := by rw [State.advDt_shape]
@[simp] theorem State.advDt_outbox (s : State) (t : Nat) : (s.advDt t).outbox = s.outbox := by rw [State.advDt_shape]
@[simp] theorem State.advDt_pending (s : State) (t : Nat) : (s.advDt t).pending = s.pending := by rw [State.advDt_shape]
@[simp] theorem State.port_advDt (s : State) (t : Nat) (i : Nat) : (s.advDt t).port i = s.port i := by simp [State.port]
@[simp] theorem State.cal_advDt (s : State) (t : Nat) (i : Nat) : (s.advDt t).cal i = s.cal i := by simp [State.cal]
@[simp] theorem State.clu_advDt (s : State) (t : Nat) (i : Nat) : (s.advDt t).clu i = s.clu i := by simp [State.clu]
@[simp] theorem State.ptpPort_advDt (s : State) (t : Nat) (i : Nat) : (s.advDt t).ptpPort i = s.ptpPort i := by simp [State.ptpPort]
@[simp] theorem State.grant_advDt (s : State) (t : Nat) (i : Nat) : (s.advDt t).grant i = s.grant i := by simp [State.grant]
@[simp] theorem State.client_advDt (s : State) (t : Nat) (i : Nat) : (s.advDt t).client i = s.client i := by simp [State.client]
@[simp] theorem State.symKey_advDt (s : State) (t : Nat) (i : Nat) : (s.advDt t).symKey i = s.symKey i := by simp [State.symKey]
@[simp] theorem State.annexKey_advDt (s : State) (t : Nat) (i : Nat) : (s.advDt t).annexKey i = s.annexKey i := by simp [State.annexKey]
@[simp] theorem State.openCarafe_advDt (s : State) (t : Nat) (i : Nat) : (s.advDt t).openCarafe i = s.openCarafe i := by simp [State.openCarafe]
@[simp] theorem State.eng_advDt (s : State) (t : Nat) (i : Nat) : (s.advDt t).eng i = s.eng i := by simp [State.eng]
@[simp] theorem State.kslot_advDt (s : State) (t : Nat) (i : Nat) : (s.advDt t).kslot i = s.kslot i := by simp [State.kslot]
@[simp] theorem State.mon_advDt (s : State) (t : Nat) (i : Nat) : (s.advDt t).mon i = s.mon i := by simp [State.mon]
@[simp] theorem State.dpllx_advDt (s : State) (t : Nat) (i : Nat) : (s.advDt t).dpllx i = s.dpllx i := by simp [State.dpllx]
@[simp] theorem State.pll_advDt (s : State) (t : Nat) (i : Nat) : (s.advDt t).pll i = s.pll i := by simp [State.pll]
@[simp] theorem State.chan_advDt (s : State) (t : Nat) (i : Nat) : (s.advDt t).chan i = s.chan i := by simp [State.chan]
@[simp] theorem State.timIn_advDt (s : State) (t : Nat) (i : Nat) : (s.advDt t).timIn i = s.timIn i := by simp [State.timIn]
@[simp] theorem State.timCh_advDt (s : State) (t : Nat) (i : Nat) : (s.advDt t).timCh i = s.timCh i := by simp [State.timCh]
@[simp] theorem State.lane_advDt (s : State) (t : Nat) (i : Nat) : (s.advDt t).lane i = s.lane i := by simp [State.lane]
@[simp] theorem State.core_advDt (s : State) (t : Nat) (i : Nat) : (s.advDt t).core i = s.core i := by simp [State.core]
@[simp] theorem State.chEnd_advDt (s : State) (t : Nat) (i : Nat) : (s.advDt t).chEnd i = s.chEnd i := by simp [State.chEnd]
@[simp] theorem State.sem_advDt (s : State) (t : Nat) (i : Nat) : (s.advDt t).sem i = s.sem i := by simp [State.sem]
@[simp] theorem State.fwChan_advDt (s : State) (t : Nat) (i : Nat) : (s.advDt t).fwChan i = s.fwChan i := by simp [State.fwChan]
@[simp] theorem State.agg_advDt (s : State) (t : Nat) (i : Nat) : (s.advDt t).agg i = s.agg i := by simp [State.agg]
@[simp] theorem State.cltEntry_advDt (s : State) (t : Nat) (i : Nat) : (s.advDt t).cltEntry i = s.cltEntry i := by simp [State.cltEntry]
@[simp] theorem State.rd_advDt (s : State) (t : Nat) (i : Nat) : (s.advDt t).rd i = s.rd i := by simp [State.rd]
@[simp] theorem State.ac_advDt (s : State) (t : Nat) (i : Nat) : (s.advDt t).ac i = s.ac i := by simp [State.ac]
@[simp] theorem State.sh_advDt (s : State) (t : Nat) (i : Nat) : (s.advDt t).sh i = s.sh i := by simp [State.sh]

/-! ### What a raise does to the registers -/

@[simp] theorem State.bump_rd_same (s : State) (a n : Nat) : (s.bump a n).rd a = satAdd (s.rd a) n := by simp [State.bump]

theorem State.bump_rd_ne (s : State) {a b : Nat} (n : Nat) (h : b ≠ a) : (s.bump a n).rd b = s.rd b := State.rd_wr_ne _ _ h

theorem bitAt_bitMask (i : Nat) (h : i < 32) (v : Word) : bitAt (v ||| bitMask i) i = true := by
  have e : (BitVec.ofNat 32 (2 ^ i)).getLsbD i = true := by
    rw [BitVec.getLsbD_ofNat]; simp [h]
  simp only [bitAt, bitMask, BitVec.getLsbD_or, e, Bool.or_true]

theorem bitAt_or (v w : Word) (i : Nat) (h : bitAt v i = true) : bitAt (v ||| w) i = true := by
  simp_all [bitAt, BitVec.getLsbD_or]

/-- Setting bits of a register sets no other register's. -/
theorem State.orBits_evSet (s : State) (a : Nat) (v : Word) (e : Nat) (h : s.evSet e = true) :
    (s.orBits a v).evSet e = true := by
  unfold State.evSet State.orBits at *
  by_cases k : Reg.EVT_STAT (e / 32) = a
  · rw [← k, State.rd_wr_same]; exact bitAt_or _ _ _ h
  · rw [State.rd_wr_ne _ _ k]; exact h

theorem EvOnly.refl (s : State) : EvOnly s s := ⟨rfl, fun _ _ => rfl, fun _ h => h, [], rfl, by simp⟩

theorem EvOnly.trans {s t u : State} (h : EvOnly s t) (k : EvOnly t u) : EvOnly s u := by
  obtain ⟨h1, h2, h3, l, h4, h5⟩ := h
  obtain ⟨k1, k2, k3, m, k4, k5⟩ := k
  refine ⟨?_, fun a e => (k2 a e).trans (h2 a e), fun e x => k3 e (h3 e x), m ++ l, ?_, ?_⟩
  · rw [k1, h1]
  · rw [k4, h4, List.append_assoc]
  · intro o ho; rcases List.mem_append.mp ho with x | x
    · exact k5 o x
    · exact h5 o x

/-- An operation that changes event status bits only. -/
theorem EvOnly.of_cnts {s t : State} (h : t = { s with evt := { s.evt with cnts := t.evt.cnts } }) : EvOnly s t := by
  refine ⟨?_, ?_, ?_, [], ?_, by simp⟩
  · rw [h]
  · intro a _; rw [h]; rfl
  · intro e k; rw [h]; exact k
  · rw [h]; rfl

theorem State.flow_evOnly (s : State) (a n : Nat) : EvOnly s (s.flow a n) := .of_cnts (State.flow_shape ..)

theorem State.countEvent_evOnly (s : State) (e : Nat) : EvOnly s (s.countEvent e) := .of_cnts (State.countEvent_shape ..)

theorem State.orBits_evOnly (s : State) (a : Nat) (v : Word) (k : evKey a = true) : EvOnly s (s.orBits a v) := by
  refine ⟨rfl, ?_, fun e h => State.orBits_evSet s a v e h, [], rfl, by simp⟩
  intro b h
  exact State.rd_wr_ne _ _ (fun e => by rw [e, k] at h; cases h)

theorem evKey_stat (e : Nat) (h : e < 256) : evKey (Reg.EVT_STAT (e / 32)) = true := by
  simp only [evKey, Bool.or_eq_true, Bool.and_eq_true, decide_eq_true_eq]
  unfold Reg.EVT_STAT; omega

theorem evKey_core (m : Master) (hm : m.bank < 5) (e : Nat) (h : e < 256) :
    evKey (bankKey m (Reg.EVT_CORE_STAT (e / 32))) = true := by
  simp only [evKey, Bool.or_eq_true, Bool.and_eq_true, decide_eq_true_eq]
  unfold bankKey Reg.EVT_STAT Reg.EVT_CORE_STAT; omega

theorem State.setStat_evOnly (s : State) (e : Nat) (h : e < 256) : EvOnly s (s.setStat e) := by
  have fold (l : List Master) (hl : ∀ m ∈ l, m.bank < 5) (t : State) : EvOnly t (l.foldl (fun s m =>
      if bitAt (s.rd (bankKey m (Reg.EVT_CORE_EN (e / 32)))) (e % 32) then
        s.orBits (bankKey m (Reg.EVT_CORE_STAT (e / 32))) (bitMask (e % 32))
      else s) t) := by
    induction l generalizing t with
    | nil => exact .refl _
    | cons m l ih =>
      refine .trans ?_ (ih (fun x hx => hl x (List.mem_cons_of_mem _ hx)) _)
      dsimp only
      split
      · exact State.orBits_evOnly _ _ _ (evKey_core m (hl m (by simp)) e h)
      · exact .refl _
  exact (State.orBits_evOnly _ _ _ (evKey_stat e h)).trans (fold _ (by decide) _)

/-- R490: the bit of the event is set. -/
theorem State.setStat_evSet (s : State) (e : Nat) (h : e < 256) : (s.setStat e).evSet e = true := by
  have fold (l : List Master) (t : State) (k : t.evSet e = true) : (l.foldl (fun s m =>
      if bitAt (s.rd (bankKey m (Reg.EVT_CORE_EN (e / 32)))) (e % 32) then
        s.orBits (bankKey m (Reg.EVT_CORE_STAT (e / 32))) (bitMask (e % 32))
      else s) t).evSet e = true := by
    induction l generalizing t with
    | nil => exact k
    | cons m l ih =>
      refine ih _ ?_
      dsimp only
      split
      · exact State.orBits_evSet _ _ _ _ k
      · exact k
  refine fold _ _ ?_
  simp only [State.evSet, State.orBits, State.rd_wr_same]
  exact bitAt_bitMask _ (Nat.mod_lt _ (by decide)) _

theorem State.msixSend_evOnly (s : State) (v : Nat) : EvOnly s (s.msixSend v) := by
  unfold State.msixSend; dsimp only; split
  · exact ⟨rfl, fun _ _ => rfl, fun _ h => h, [_], rfl, fun o ho => by
      rw [List.mem_singleton.mp ho]; exact ⟨_, _, _, _, rfl⟩⟩
  · exact ⟨rfl, fun _ _ => rfl, fun _ h => h, [], rfl, by simp⟩

theorem State.deliver_evOnly (s₀ s : State) (vs : List Nat) : EvOnly s (s₀.deliver s vs) := by
  unfold State.deliver
  induction vs generalizing s with
  | nil => exact .refl _
  | cons v vs ih =>
    refine .trans ?_ (ih _)
    dsimp only
    split
    · exact State.msixSend_evOnly _ _
    · exact .refl _

theorem State.raiseBit_evOnly (s : State) (e : Nat) (h : e < 256) : EvOnly s (s.raiseBit e) :=
  (State.setStat_evOnly s e h).trans (State.deliver_evOnly _ _ _)

theorem State.raiseBit_evSet (s : State) (e : Nat) (h : e < 256) : (s.raiseBit e).evSet e = true :=
  (State.deliver_evOnly _ _ _).sets e (State.setStat_evSet s e h)

theorem State.alarmSync_evOnly (s : State) : EvOnly s s.alarmSync := by
  unfold State.alarmSync
  split
  · exact ⟨rfl, fun _ _ => rfl, fun _ h => h, [], rfl, by simp⟩
  · split
    · exact .refl _
    · refine .trans (t := { s with evt := { s.evt with alarm := true } })
        ⟨rfl, fun _ _ => rfl, fun _ h => h, [], rfl, by simp⟩ ?_
      exact (State.countEvent_evOnly _ 21).trans (State.raiseBit_evOnly _ 21 (by decide))

/-- R490–R494, R516: what the raise of an event changes. -/
theorem State.raise_evOnly (s : State) (e : Nat) (h : e < 256) : EvOnly s (s.raise e) :=
  ((State.countEvent_evOnly _ e).trans (State.raiseBit_evOnly _ e h)).trans (State.alarmSync_evOnly _)

/-- R490: the raise of an event sets its bit. -/
theorem State.raise_evSet (s : State) (e : Nat) (h : e < 256) : (s.raise e).evSet e = true :=
  (State.alarmSync_evOnly _).sets e (State.raiseBit_evSet _ e h)

theorem State.raiseLim_evOnly (s : State) (e k n : Nat) (h : e < 256) : EvOnly s (s.raiseLim e k n) := by
  unfold State.raiseLim; dsimp only; split
  · exact State.countEvent_evOnly _ _
  · refine .trans (t := { s with evt := { s.evt with lastSet := tput s.evt.lastSet (4096 * e + k) s.time.now } })
      ⟨rfl, fun _ _ => rfl, fun _ h => h, [], rfl, by simp⟩ (State.raise_evOnly _ e h)

/-- A raise changes no register but the event status registers. -/
theorem State.raise_rd (s : State) (e a : Nat) (h : e < 256) (k : evKey a = false) : (s.raise e).rd a = s.rd a :=
  (State.raise_evOnly s e h).regs a k

theorem Later.refl (s : State) : Later s s := ⟨s.time.now, by simp [State.advTo]⟩

theorem State.advTo_later (s : State) (n : Nat) : Later s (s.advTo n) := ⟨n, rfl⟩


end Sys2Proof.Machine
end

