-- ==== Sys2Proof/Machine/Pins.lean ====
section
/-!
DEFINITION. The ball grid (R524–R526): names of balls, the signal at each, and the rails of the others. No command changes it.
-/

namespace Sys2Proof.Machine

/-- R524: the letters of row and column names, in order. -/
def rowLetters : List String :=
  ["A", "B", "C", "D", "E", "F", "G", "H", "J", "K", "L", "M", "N", "P", "T", "U", "V", "W", "Y"]

/-- R524: the name of row `i`, 1 to 52, counted from the A1 corner. -/
def rowName (i : Nat) : String :=
  (if i ≤ 19 then "" else if i ≤ 38 then "A" else "B") ++ rowLetters.getD ((i - 1) % 19) ""

/-- R524: the name of the ball at row `i` and column `j`. -/
def ballName (i j : Nat) : String := rowName i ++ toString j

/-- A run of signal balls of R525: `count` instances of `name` from number `first` on, the first at (`row`, `col`) and each
next one `down` rows and `right` columns on. -/
structure BallRun where
  name : String
  count : Nat
  row : Nat
  col : Nat
  right : Nat := 1
  down : Nat := 0
  first : Nat := 0
  deriving DecidableEq, Repr

/-- The two balls of a differential signal, the second `gap` columns (0: one row) after the first. -/
def ballPair (b : BallRun) (gap : Nat := 1) : List BallRun :=
  [{ b with name := b.name ++ "_P" },
    { b with name := b.name ++ "_N", row := if gap = 0 then b.row + 1 else b.row, col := b.col + gap }]

/-- R525: the lanes, which stand in the columns at both sides. -/
def laneBalls : List BallRun :=
  ballPair { name := "L_RX", count := 16, row := 3, col := 2, right := 0, down := 3 } 0 ++
  ballPair { name := "L_TX", count := 16, row := 3, col := 4, right := 0, down := 3 } 0 ++
  ballPair { name := "L_RX", first := 16, count := 16, row := 3, col := 51, right := 0, down := 3 } 0 ++
  ballPair { name := "L_TX", first := 16, count := 16, row := 3, col := 49, right := 0, down := 3 } 0

/-- R525: PCIe, flash, management, test and reset. -/
def hostBalls : List BallRun :=
  ballPair { name := "PCIE_RX", count := 8, row := 2, col := 11, right := 4 } ++
  ballPair { name := "PCIE_TX", count := 8, row := 4, col := 11, right := 4 } ++
  ballPair { name := "PCIE_REFCLK", count := 1, row := 2, col := 43 } ++
  [{ name := "NV_CLK", count := 1, row := 6, col := 10 }, { name := "NV_CS_N", count := 1, row := 6, col := 11 },
    { name := "NV_DQS", count := 1, row := 6, col := 12 }, { name := "NV_DQ", count := 8, row := 6, col := 13 },
    { name := "NV_RESET_N", count := 1, row := 6, col := 21 }, { name := "NV_REL", count := 1, row := 6, col := 22 },
    { name := "MS_SCK", count := 1, row := 6, col := 24 }, { name := "MS_CS_N", count := 1, row := 6, col := 25 },
    { name := "MS_MOSI", count := 1, row := 6, col := 26 }, { name := "MS_MISO", count := 1, row := 6, col := 27 },
    { name := "I2C_SCL", count := 2, row := 6, col := 29, right := 2 },
    { name := "I2C_SDA", count := 2, row := 6, col := 30, right := 2 },
    { name := "INT_N", count := 4, row := 6, col := 34 }, { name := "ALARM_N", count := 1, row := 6, col := 38 },
    { name := "RESET_N", count := 1, row := 6, col := 40 }, { name := "PERST_N", count := 1, row := 6, col := 41 },
    { name := "TCK", count := 1, row := 8, col := 10 }, { name := "TMS", count := 1, row := 8, col := 11 },
    { name := "TDI", count := 1, row := 8, col := 12 }, { name := "TDO", count := 1, row := 8, col := 13 },
    { name := "TRST_N", count := 1, row := 8, col := 14 }, { name := "TEST_EN", count := 1, row := 8, col := 16 },
    { name := "OSC_FSEL", count := 3, row := 8, col := 18 }]

/-- R525: time, frequency and the GNSS sample port. -/
def timeBalls : List BallRun :=
  ballPair { name := "GS_CLK", count := 1, row := 44, col := 10 } ++
  ballPair { name := "GS_A", count := 4, row := 44, col := 13, right := 2 } ++
  ballPair { name := "GS_B", count := 4, row := 44, col := 22, right := 2 } ++
  [{ name := "GS_REFOUT", count := 1, row := 44, col := 31 }] ++
  ballPair { name := "TDIODE", count := 1, row := 44, col := 40 } ++
  [{ name := "PPSOUT", count := 4, row := 46, col := 10 }, { name := "CASC_IN", count := 1, row := 46, col := 16 },
    { name := "CASC_OUT", count := 1, row := 46, col := 17 }, { name := "TODIN", count := 1, row := 46, col := 19 },
    { name := "TODOUT", count := 1, row := 46, col := 20 }] ++
  ballPair { name := "OSCIN", count := 1, row := 46, col := 24 } ++
  [{ name := "XTAL32_IN", count := 1, row := 46, col := 28 }, { name := "XTAL32_OUT", count := 1, row := 46, col := 29 },
    { name := "VBAT", count := 1, row := 46, col := 31 }] ++
  ballPair { name := "REFIN", count := 8, row := 48, col := 10, right := 2 } ++
  ballPair { name := "OUTCLK", count := 8, row := 48, col := 28, right := 2 } ++
  [{ name := "EVOUT", count := 32, row := 50, col := 10 }] ++
  ballPair { name := "TIMIN", count := 16, row := 52, col := 10, right := 2 }

/-- R525: every run of signal balls. -/
def signalBalls : List BallRun := laneBalls ++ hostBalls ++ timeBalls

/-- The instance of a run that stands at row `i` and column `j`. -/
def BallRun.at (b : BallRun) (i j : Nat) : Option Nat :=
  (List.range b.count).find? (fun k => b.row + k * b.down == i && b.col + k * b.right == j)

/-- R525: the signal at row `i` and column `j`, by name and instance. -/
def signalAt (i j : Nat) : Option (String × Nat) :=
  signalBalls.findSome? (fun b => (b.at i j).map (fun k => (b.name, b.first + k)))

/-- The supplies of R527 that have balls of their own. -/
inductive Rail where
  | vddCore | vddSram | vddSds | vddhSds | vddPcie | vddPll | vddioL | vddioT | vss
  deriving DecidableEq, Repr

/-- R526: the rail of a region's balls with i + j odd. -/
def railOdd (i j : Nat) : Rail :=
  let col (a b : Nat) : Bool := decide (a ≤ j) && decide (j ≤ b)
  if col 5 6 || col 47 48 then .vddSds
  else if col 7 8 || col 45 46 then .vddhSds
  else if !col 9 44 then .vss
  else if i = 5 ∨ i = 7 then (if j ≤ 26 then .vddPcie else .vddioL)
  else if i = 9 ∨ i = 10 ∨ i = 41 ∨ i = 42 then .vddSram
  else if 11 ≤ i ∧ i ≤ 40 then .vddCore
  else if i = 43 ∨ i = 45 ∨ i = 47 then (if j ≤ 20 then .vddPll else if j ≤ 32 then .vddioL else .vddioT)
  else .vss

/-- R526: the rail of the ball at row `i` and column `j`, none where it carries a signal. -/
def railAt (i j : Nat) : Option Rail :=
  if (signalAt i j).isSome then none else some (if (i + j) % 2 = 0 then .vss else railOdd i j)

end Sys2Proof.Machine
end

