-- ==== Sys2Proof/WellFormed.lean ====
section
/-!
DEFINITION. The commands that the world can form: operands that fit the fields the manual gives them. The meanings do not rest on it:
they answer every command.
-/

namespace Sys2Proof

/-- R8: an access has 8, 16, 32 or 64 bits; which of them are performed is the bus's matter. -/
def widthOk (w : Nat) : Bool := w == 8 || w == 16 || w == 32 || w == 64

/-- R470: a slot header whose fields fit their bytes. -/
def SlotHeader.wf (h : SlotHeader) : Bool :=
  decide (h.totalLen < 2 ^ 32) && decide (h.seq < 2 ^ 32) && decide (h.secVer < 64) && decide (h.timeFloor < 2 ^ 48) &&
    decide (h.keyIdx < 4) && decide (h.dirCount ≤ 1024) && h.recipeId.length == 4

/-- R470: a directory entry whose fields fit their bytes. -/
def DirEntry.wf (d : DirEntry) : Bool := decide (d.type < 2 ^ 16) && decide (d.offset < 2 ^ 32) && decide (d.length < 2 ^ 32)

/-- R471: an Efesk bundle whose fields fit their bytes. -/
def EfeskBundle.wf (b : EfeskBundle) : Bool := decide (b.kind < 2 ^ 16) && decide (b.secVer < 64)

/-- R474: a LEAP section whose fields fit their bytes. -/
def LeapSection.wf (l : LeapSection) : Bool :=
  decide (-32768 ≤ l.offset) && decide (l.offset < 32768) && decide (l.leapAt < 2 ^ 48)

/-- R92: a frame whose fields fit those of the wire, and whose payload fits its length. -/
def Frame.wf (f : Frame) : Bool :=
  decide (f.lane < 8) && decide (f.tci < 2 ^ 16) && decide (f.srcMac < 2 ^ 48) && decide (f.dstMac < 2 ^ 48) &&
    decide (f.sport < 2 ^ 16) && decide (f.dport < 2 ^ 16) && decide (f.udpLen < 2 ^ 16) && decide (f.payload.length ≤ f.len)

/-- R81: a transmit descriptor whose fields fit their bytes. -/
def TxDesc.wf (d : TxDesc) : Bool := decide (d.len < 2 ^ 16) && decide (d.tag < 2 ^ 16)

/-- R380: a navigation unit that names a part of its set. -/
def NavUnit.wf : NavUnit → Bool
  | .ephemeris part total _ _ => decide (part < total)
  | .tow => true
  | .utc _ _ => true
  | .almanac => true

/-- A well-formed command. -/
def Instr.wf : Instr → Bool
  | .registerWrite _ _ width _ _ => widthOk width
  | .powerGood _ => true
  | .powerFail => true
  | .resetNAssert => true
  | .resetNRelease _ => true
  | .perstN => true
  | .pcieFunctionReset _ _ => true
  | .vbatLow => true
  | .apll0Lock _ => true
  | .headerStage _ a b _ => a.all SlotHeader.wf && b.all SlotHeader.wf
  | .slotVerify img _ => img.dir.all DirEntry.wf
  | .efeskVerify bundles _ => bundles.all EfeskBundle.wf
  | .loadStage _ _ _ _ => true
  | .configStage recs leap _ => recs.all (fun r => decide (r.1 < 2 ^ 32)) && leap.all LeapSection.wf
  | .keysStage _ _ => true
  | .initialCommit => true
  | .reload _ => true
  | .otpRaiseSecVer _ => true
  | .otpRevoke _ _ => true
  | .otpFuseDone => true
  | .bypassOpen => true
  | .bypassOpenForced => true
  | .commitNow => true
  | .commitSchedule => true
  | .commitCancel => true
  | .configRevert => true
  | .commit => true
  | .retiringRelease => true
  | .retiringLimit => true
  | .rwlEffect => true
  | .dtCapture _ _ _ => true
  | .timePortLoad _ => true
  | .dtSecondBoundary => true
  | .leapHostInsert => true
  | .leapHostDelete => true
  | .leapHostCancel => true
  | .leapFreeze => true
  | .leapApply => true
  | .csArm _ _ _ => true
  | .csDisarm _ _ _ => true
  | .compareSlotFire _ => true
  | .firmwareSlotFire _ => true
  | .signalDetect _ _ => true
  | .rxSweepDone _ => true
  | .pcsLinkUp _ => true
  | .linkUp _ c => decide (c.skews.length ≤ 8)
  | .linkDown _ _ => true
  | .calRetry _ => true
  | .calTrack _ _ _ skews => decide (skews.length ≤ 8)
  | .frameIngress _ f _ _ => f.wf
  | .fcsVerdict _ => true
  | .esmcPduReceived _ _ _ => true
  | .esmcTimeout _ => true
  | .esmcInfoSend => true
  | .esmcEventSend => true
  | .hostTxProduce _ _ => true
  | .hostTxDescriptor _ d => d.wf
  | .hostRxPost _ _ bufs => bufs.all (fun b => decide (b.1 < 2 ^ 64) && decide (b.2 < 2 ^ 16))
  | .tsqPop _ => true
  | .cellDispatch _ => true
  | .cellSquash _ _ => true
  | .cellCommit _ _ => true
  | .calendarArrival _ => true
  | .frameReturn _ => true
  | .recompose _ => true
  | .stealRequest _ _ => true
  | .stealArrive _ _ => true
  | .hotTrip _ => true
  | .sprayIntervalEnd => true
  | .reseedRequest => true
  | .epochSweepStart => true
  | .epochSweepDone => true
  | .cltWindowRead => true
  | .cltFlush => true
  | .gridMeasure _ _ _ _ _ => true
  | .framePour _ _ => true
  | .beRelease _ _ => true
  | .beReserve _ => true
  | .eholdUpdate => true
  | .ruleRead _ => true
  | .ruleWrite => true
  | .symKeyWrite _ _ => true
  | .symKeyDisable _ _ => true
  | .symKeyStat _ => true
  | .keyTableEffect => true
  | .ntsKeyInstall _ => true
  | .ntsRotate => true
  | .ntsRotateRetry => true
  | .ntsKeyWipe => true
  | .ntskeConnect _ _ => true
  | .ntskeRequest _ _ _ records _ => records.all (fun r => decide (r.1 < 2 ^ 15))
  | .ntskeTimeout => true
  | .broadcastSend _ => true
  | .carafeClose _ => true
  | .carafeSeal _ => true
  | .carafeSealLimit _ => true
  | .rootComplete _ => true
  | .signDispatch => true
  | .carafeSigned _ => true
  | .carafeSignStale => true
  | .rtReplyEmit _ => true
  | .deleFirst => true
  | .delePrepare => true
  | .deleSwitch => true
  | .deleRetry => true
  | .deleExpire => true
  | .syncMcFire _ => true
  | .syncUcTick _ => true
  | .syncUcItemIssue _ => true
  | .announceSend _ _ => true
  | .foreignAnnounce _ _ => true
  | .unicastRequest _ f => f.wf
  | .unicastCancel _ f => f.wf
  | .grantExpire _ _ => true
  | .grantEffect => true
  | .grantRead => true
  | .ptpKeyWrite _ _ => true
  | .ptpKeyDisable _ _ => true
  | .ptpKeyStat _ => true
  | .clientMessage _ f => f.wf
  | .clientDelayReq _ => true
  | .clientGrantRenew _ _ _ => true
  | .clientRetry _ => true
  | .clientAnnounceTimeout _ => true
  | .clientSyncTimeout _ => true
  | .pkeJobGo _ _ => true
  | .pkeJobStart _ _ _ _ => true
  | .pkeJobComplete _ _ => true
  | .pkeWipeDone _ => true
  | .pkeCplPop _ _ => true
  | .pkeAbort _ _ _ _ _ => true
  | .pkeDmaError _ _ => true
  | .pkeJobTimeout _ => true
  | .keySlotReadAttr _ => true
  | .keySlotDelete _ => true
  | .keySlotReadPub _ => true
  | .keySlotExpire _ => true
  | .refEdge _ _ _ => true
  | .pulseMissing _ => true
  | .activityWindow _ _ => true
  | .freqCheck _ _ => true
  | .todFrame _ _ => true
  | .wtrExpire _ => true
  | .clearWtr _ _ => true
  | .xcheck => true
  | .selectorEvaluate => true
  | .oscLoss => true
  | .apllUnlock _ _ => true
  | .dpll0Sample _ => true
  | .dpll0StepCmd _ => true
  | .histRead _ => true
  | .ppsPulse _ => true
  | .todoutFrame => true
  | .cascPulse => true
  | .cascFrame => true
  | .steerWrite => true
  | .steerSettle => true
  | .steerBusTimeout => true
  | .tempRead _ => true
  | .gsClkFail => true
  | .sampleOkRestore => true
  | .acqDetect _ _ _ _ _ => true
  | .trackerLock _ _ _ => true
  | .trackerBRetry _ => true
  | .trackerDrop _ _ => true
  | .sidePeakMove _ => true
  | .reacqTimeout _ _ => true
  | .navUnit _ _ _ u => u.wf
  | .gnssEpoch ms _ _ => decide (ms.length ≤ 64)
  | .exclusionExpire _ => true
  | .refreshEnd => true
  | .burstWindow got => decide (got.length ≤ 64)
  | .rawPps => true
  | .tmsgPublish => true
  | .tmsgCapture _ => true
  | .gnssResurvey _ => true
  | .gnssCold _ => true
  | .chRead => true
  | .timinEdge _ _ _ _ => true
  | .timCal => true
  | .timCalDone _ => true
  | .timRecal _ => true
  | .timArm _ => true
  | .timDisarm _ => true
  | .timArmAt _ => true
  | .timGateFire _ => true
  | .timWindowEnd _ => true
  | .timGateEnd _ => true
  | .timResPop _ => true
  | .evlArm _ => true
  | .evlDisarm _ => true
  | .evlArmAll _ => true
  | .evlDisarmAll _ => true
  | .evlPulse _ => true
  | .evlTrailingEdge _ => true
  | .evlLevel _ => true
  | .mbxTx _ _ _ => true
  | .mbxRx _ _ => true
  | .mbxDbRing _ _ _ => true
  | .mbxDbClear _ _ _ => true
  | .mbxAckWaitStart _ _ => true
  | .mbxAckWaitCancel _ _ => true
  | .mbxAckTimeout _ => true
  | .mbxEpReset _ => true
  | .mbxOpen _ => true
  | .semAcquire _ _ => true
  | .semRelease _ _ => true
  | .semForce _ _ => true
  | .wdtWarn _ => true
  | .wdtExpire _ => true
  | .coreStart _ => true
  | .fwPing _ => true
  | .fwPkeJob _ => true
  | .fwPkeAbort _ _ => true
  | .fwKeyImport _ _ => true
  | .fwKeyDelete _ => true
  | .fwBufWrite _ => true
  | .fwBufRead _ => true
  | .fwBacklogSend _ => true
  | .evtStatClear _ _ _ => true
  | .evtMaskWrite _ _ _ => true
  | .evtForce _ _ => true
  | .msixUnmask _ _ _ _ => true
  | .cntLoRead _ _ _ => true
  | .cntLoWrite _ _ _ => true
  | .cntHiWrite _ _ _ => true
  | .cntSnap => true
  | .cntClearAll => true
  | .cntSnapshot => true
  | .cntLimit _ => true
  | .cntOverflow _ => true
  | .patrolScrub _ => true
  | .cellHang _ _ => true
  | .clusterStall _ => true
  | .partitionRebindDone _ => true
  | .fatalFault => true
  | .badAccessRead _ _ width => widthOk width
  | .backupCounterTick => true
  | .vbatRestore => true
  | .keySlotNotBefore _ => true
  | .watchdogRestart _ => true
  | .dpllxLock _ => true

end Sys2Proof
end

