-- ==== Sys2Proof/Tests/Slice0.lean ====
section
/-!
SUPPORT. Tests: that each statement's hypotheses can be met, clause by clause; that ill-formed commands are refused; and the
manual's worked examples.
-/

section

set_option maxRecDepth 4000
set_option Elab.async false

open Sys2Proof Sys2Proof.Machine

/-! ## Small states -/

/-- An active register set to a value. -/
def wAct (s : State) (a : Nat) (v : Word) : State := { s with active := tset rwsDef s.active a v }

/-- The header of a small recipe slot. -/
def wHdr : SlotHeader := { magic := 0, format := 1, hdrLen := 128, totalLen := 4096, seq := 7, secVer := 3, flags := 2
                           timeFloor := 0, keyIdx := 1, oscFreq := 10000000, dirOfs := 128, dirCount := 0, recipeId := [] }

/-- The TE-9 in start-up, at a stage. -/
def wBoot (st : Stage) : State := { State.reset with
  boot := { powerGood := true, stage := st, hdrA := some wHdr, chosen := true } }

/-- The TE-9 RUNNING with DT ALIGNED, at tick 1000 and DT 100 s. -/
def wRun : State := { State.reset with
  boot := { powerGood := true, apllLocked := true, stage := .running, hdrA := some wHdr, chosen := true, verified := true
            dtLoaded := true, keysDone := true, nvReleased := true }
  cfg := { initialDone := true }
  time := { now := 1000, dt := secUnit * 100, dtPrev := secUnit * 100, st := .aligned } }

/-- A state with slot `i` armed for a DT time in units of 2⁻¹⁶ ns. -/
def wArm (s : State) (i t : Nat) : State := s.updSlot i (fun _ => { armed := true, time := BitVec.ofNat 64 t, policy := 2 })

/-- Port `n` UP. -/
def wUp (s : State) (n : Nat) : State := s.updPort n (fun p => { p with link := .up })

/-- A plain NTP request of version 4 for service address 0, captured at DT 99 s. -/
def wFrame : Frame := { lane := 0, capture := 99 * stSec * 1000, len := 94, vlans := 0, tci := 0, kind := .udp4, fragment := false
                        fcsGood := true, srcMac := 1, dstMac := 2, src := 0xFFFF0A000001, dst := 0xFFFF0A000002
                        svcAddr := some 0, sport := 123, dport := 123, udpLen := 56
                        payload := 0x23 :: List.replicate 47 0 }

/-- A request that has been received whole. -/
def wReq : Req := { id := 4, port := 0, sIn := 99 * stSec, fcsAt := 900, slots := 1, path := .plain, frame := wFrame, rule := 0
                    gen := 0, epoch := 0, hash := 0, home := 0, eligible := true, view := {}, asymTx := 0, queued := 800, places := [(0, 1)] }

/-- A cell that works on a request. -/
def wBusy : Busy := { job := .req wReq .accept, start := 900, path := .plain, tier := 0, T := 101 * stSec, t0 := 101 * stSec
                      commitAt := 1500, freeAt := 1700 }

/-- A committed frame for port 0. -/
def wCF : CFrame := { id := 4, port := 0, path := .plain, T := 100 * stSec + 65536 * 10000, t0 := 100 * stSec, tier := 0, len := 94
                      origin := 99 * stSec, gen := 0, cluster := 0, cell := 0, internal := false, kiss := none, asymTx := 0
                      key := 0, v2At := 0, s2c := [], cookies := [], seq := 0, grant := none, req := none
                      head := { l2 := false, v6 := false, dstMac := 0, src := 0, dst := 0, sport := 123, dport := 123, svcAddr := 0
                                tagged := false, tci := 0, dscp := 0, hop := 64 }
                      bytes := [] }

/-- A Sync item of port 0. -/
def wSync : SyncItem := { id := 5, port := 0, seq := 0, T := 101 * stSec, origin := 100 * stSec, grant := none, gen := 0, dueAt := 900 }

/-- Port 0 UP with its grid locked and its calibration at the nominal value, and a frame in the hand-off. -/
def wHand : State := ((wUp wRun 0).updPort 0 (fun p => { p with gridLock := true, calTx := wRun.calTxNom 0 })).updCal 0
  (fun c => { c with handoff := [⟨1040, wCF⟩] })

/-- What the calendar sees when that frame arrives. -/
def wSeen : State := ((wHand.advTo 1040).updCal 0 (fun c => { c with handoff := [] })).wirePrune 0

theorem wSeen_lRel : wSeen.lRelG 0 0 = ((releaseNs 0 0 * 1000 : Nat) : Int) * psG := by
  have e : wSeen.lRelG 0 0 = ((releaseNs 0 0 * 1000 : Nat) : Int) * psG + (0 + wRun.calTxNom 0 - wRun.calTxNom 0) * psG := rfl
  rw [e, Int.zero_add, Int.sub_self, Int.zero_mul, Int.add_zero]

/-- A sealed carafe of two leaves. -/
def wCarafe (st : CarafeStage) : Carafe :=
  { id := 0, cluster := 0
    leaves := [⟨1, 2, 3, 4, 0, false, false, 0, 0, 98 * stSec⟩, ⟨2, 2, 3, 4, 0, false, false, 0, 0, 98 * stSec⟩]
    sealTick := 1000, sealStamp := 99 * stSec, midp := 0, radi := 0, dele := ⟨false, 1, 5, 50, 500, 50, 500, []⟩, stage := st, ctrl := 0 }

/-- A closed carafe of cluster 0 that awaits its seal, under a valid delegation. -/
def wSeal : State :=
  let s := wRun.updOpenCarafe 0 (fun o => { o with
    isOpen := true
    draining := [⟨99 * stSec, 97 * stSec, [⟨1, 2, 3, 4, 0, false, false, 0, 0, 98 * stSec⟩], 0x800⟩] })
  { s with rt := { s.rt with cur := some ⟨false, 1, 5, 50, 500, 50, 500, []⟩ } }

/-- Engine `i` is online. -/
def wOn (s : State) (i : Nat) : State := s.updEng i (fun e => { e with online := true })

/-- A PTP message of type `b` in domain 0 with `r` after its four first bytes. -/
def wMsg (b : Byte) (r : List Byte) : List Byte := b :: 0x12 :: 0 :: BitVec.ofNat 8 (r.length + 4) :: r

/-- A signalling message with one TLV of type `k`, `v` being its value. -/
def wSig (k : Byte) (v : List Byte) : Frame :=
  { wFrame with dport := 320, payload := wMsg 0xC (List.replicate 40 0 ++ [0, k, 0, BitVec.ofNat 8 v.length] ++ v) }

/-- Port 0 UP in the telecom profile of unicast, under a served time. -/
def wUni : State := wAct (wUp wRun 0) (Reg.SRV_PTP_PCFG 0) 3

/-- Client instance 0 enabled on port 0, which is UP, with a selected master. -/
def wCl (cfg : Word) (f : ClientSt → ClientSt) : State :=
  (wAct (wUp wRun 0) (Reg.SRV_PTP_CL_CFG 0) cfg).updClient 0 (fun c => f { c with master := some (0, 0), port := .slave, servo := .acquire })

/-- A job without input and output by a submitter. -/
def wJob (b : Submitter) : PkeJob := { words := [0x05000003, 0x180040, 0, 0, 0, 0, 0, 0], by_ := b }

/-- That job as engine 2 runs it. -/
def wRunJob (b : Submitter) (status : Nat) : Run := { job := wJob b, start := 900, endAt := 2000, status := status }

/-- Engine 2 online, with a change. -/
def wEng (f : Engine → Engine) : State := wRun.updEng 2 (fun e => f { e with online := true })

/-- A binary frame of the label 100. -/
def wTod : List Byte :=
  let b : List Byte := [0xEF, 0xC1, 0x01, 32, 0, 0, 0, 0, 0, 100] ++ List.replicate 20 0
  b ++ beBytes 2 (crc16 b)

/-- References 0 and 1 QUALIFIED, compared, 1 ms apart in phase. -/
def wDis : State :=
  let h (o : Int) : List RefSample := (List.range 40).map (fun i => ⟨100 - i, 0, o, 0⟩)
  let s := wAct (wAct wRun (Reg.REF_CFG 0) 0x103) (Reg.REF_CFG 1) 0x103
  (s.updMon 0 (fun m => { m with active := true, freqOk := true, state := .qualified, hist := h 0 })).updMon 1 (fun m => { m with
    active := true, freqOk := true, state := .qualified, hist := h 65536000000 })

/-- DPLL0 following reference 0, with a change. -/
def wDpll (f : Dpll0 → Dpll0) : State := wRun.updD (fun d => f { d with state := .locked, ref := some 0 })

/-- The GNSS baseband at work on GPS with the position held, with channel 3 changed. -/
def wGns (f : GnsChan → GnsChan) : State :=
  let s := wAct (wAct wRun Reg.GNS_CTRL 5) Reg.GNS_POS_CFG 2
  ({ s with gns := { s.gns with sampleOk := true } } : State).updChan 3 f

/-- There no other channel than 3 has a satellite. -/
theorem wGns_free : ∀ k, k ≠ 3 → ((wGns id).chan k).sv ≠ some (0, 7) := by
  intro k hk
  unfold State.chan
  rw [show (wGns id).gns.chans = [] by decide +kernel]
  intro h
  cases h

/-- A channel that navigates on a satellite of GPS with both trackers. -/
def wSat (n : Nat) (h : GnsChan) : GnsChan :=
  { h with sv := some (0, n), a := .nav, b := .nav, eph := some ⟨1, 90⟩, cn0A := 700, cn0B := 700, elev := 40 }

/-- An epoch with a fix. -/
def wEpoch : Epoch := { sec := 100, n := 101, fix := 1, bias := 2000, rate := 0, tunc := 5000, tdop := 100, pdop := 200, used := [4, 0, 0]
                        single := false, burst := false
                        master := 0, tscale := false }

/-- Registers of staged set `l` for one pulse of 1 µs at DT 101 s. -/
def wStage (cfg : Word) (s : State) : State :=
  (((s.wr (Reg.EVL_CFG 2) cfg).wr (Reg.EVL_T0_LO 2) (lo32 (101 * stSec))).wr (Reg.EVL_T0_LO 2 + 4) (hi32 (101 * stSec))).wr
    (Reg.EVL_WIDTH_LO 2) 65536000

/-- Lane 2 armed for such a pulse. -/
def wLane (f : Lane → Lane) : State := wRun.updLane 2 (fun x => f { x with
  state := .armed, set := { cfg := 0x29, width := 65536000 }, t0 := 101 * stSec })

/-- The ends of channels UP and the cores running; channel `c` holds the words `ws` for its B end. -/
def wFw (c : Nat) (ws : List Word) : State :=
  let s := (List.range 38).foldl (fun s e => s.updChEnd e (fun x => { x with up := true })) (wOn wRun 0)
  let s := (List.range 5).foldl (fun s i => s.updCore i (fun x => { x with mode := .running, wdtFrom := 900 })) s
  s.updChEnd (2 * c + 1) (fun x => { x with inq := ws })

/-- A slot read whose directory is empty. -/
def wImg : SlotImage := { readOk := true, sigMagic := ofLe (ascii "SIGB"), keyHash := 0, sigOk := true, dir := [] }

/-- A ClientHello that the server accepts with an Ed25519 key. -/
def wHello : TlsHello :=
  { tls13 := true, alpn := [ascii "ntske/1"], suites := [.aes128Gcm], groups := [.x25519], shares := [.x25519], schemes := [.ed25519], again := [] }

/-- A fit that no criterion refuses. -/
def wFit : GnssFit := ⟨1, 0, 2000, 3, 5000, 100, 100, (0, 0, 0), (0, 0, 0)⟩

/-! ## The hypotheses of the statements can be met -/

theorem witness_StepRuns :
    -- front
    (∃ (c : Instr) (r : List Instr) (s : State), s.pending = c :: r) ∧
    -- idle
    (∃ (s : State), s.pending = []) :=
  ⟨⟨_, _, { State.reset with pending := [.commitNow] }, rfl⟩,
   ⟨State.reset, (by decide +kernel)⟩⟩

theorem witness_Frames :
    -- all
    ∃ (i : Instr) (s : State) (t : State), exec i s = .next t :=
  ⟨.cntSnap, State.reset,
    { State.reset with evt := { State.reset.evt with snapDue := State.reset.evt.snapDue ++ [State.reset.cclkAfter 8] } }, rfl⟩

theorem witness_EventRaise :
    -- views
    (∃ (s : State) (e : Fin 256) (k : Master), k ∈ [Master.kc, .sc0, .sc1, .sc2, .sc3] ∧ bitAt (s.rd (bankKey k (Reg.EVT_CORE_EN
      (e.val / 32)))) (e.val % 32) = true) ∧
    -- vectors
    (∃ (s : State) (e : Fin 256) (r : Word) (v : Nat) (m : MsixFn), (e.val, r) ∈ s.routes ∧ bitAt r 5 = true ∧ fld r 0 5 = v ∧ bitAt
      (s.rd (Reg.EVT_MASK (e.val / 32))) (e.val % 32) = false ∧ s.vecPend v = false ∧ m = tget msixDef s.evt.msix (vecFn v).1) :=
  ⟨⟨State.reset.wr (bankKey .sc0 (Reg.EVT_CORE_EN 0)) 8, 3, .sc0, (by decide +kernel), (by decide +kernel)⟩,
   ⟨(State.reset.wr (Reg.EVT_ROUTE 3) 0x25).wr (Reg.EVT_MASK 0) 0, 3, 0x25, _, _, (by decide +kernel), (by decide +kernel), rfl,
     (by decide +kernel), (by decide +kernel), rfl⟩⟩

theorem witness_BackupDomain :
    -- backupCounterTick
    ∃ (s : State), s.vbat.rtcSub < 32768 ∧ s.vbat.rtcSec < 2 ^ 48 :=
  ⟨{ State.reset with vbat := { rtcSec := 2 ^ 48 - 1, rtcSub := 32767 } }, (by decide +kernel), (by decide +kernel)⟩

theorem witness_StartUpEnd :
    -- keysPassed
    (∃ (keys : List (Bool × List Byte)) (_ : Nat) (s : State), s.boot.stage = .keys ∧ s.boot.keysDone = false ∧ (keys = [] ∨
      ((s.slotHdr.map SlotHeader.flags).getD 0).testBit 1 = true)) ∧
    -- reload
    (∃ (m : Master) (_ : State), m.secure = true) ∧
    -- reloadRefused
    (∃ (m : Master) (_ : State), m.secure = false) :=
  ⟨⟨[(true, [1, 2, 3])], 0, wBoot .keys, (by decide +kernel), (by decide +kernel), (.inr (by decide +kernel))⟩,
   ⟨.kc, wRun, (by decide +kernel)⟩,
   ⟨.pf0, wRun, (by decide +kernel)⟩⟩

theorem witness_OtpFuses :
    -- otpRaiseSecVer
    (∃ (m : Master) (_ : State), m.secure = true) ∧
    -- otpRevoke
    (∃ (m : Master) (_ : Fin 4) (_ : State), m.secure = true) ∧
    -- refused
    (∃ (m : Master) (_ : Fin 4) (_ : State), m.secure = false) :=
  ⟨⟨.pf1, wRun, (by decide +kernel)⟩,
   ⟨.kc, 2, wRun, (by decide +kernel)⟩,
   ⟨.pf0, 0, wRun, (by decide +kernel)⟩⟩

theorem witness_CommitCommands :
    -- refusedBefore
    (∃ (i : Instr) (s : State), (i = .commitNow ∨ i = .commitSchedule ∨ i = .commitCancel ∨ i = .configRevert) ∧ s.cfg.initialDone =
      false) ∧
    -- commitNow
    (∃ (s : State), s.cfg.initialDone = true) ∧
    -- commitSchedule
    (∃ (s : State), s.cfg.initialDone = true) ∧
    -- commitCancel
    (∃ (s : State), s.cfg.initialDone = true) ∧
    -- configRevert
    (∃ (s : State), s.cfg.initialDone = true) :=
  ⟨⟨.commitNow, State.reset, (.inl rfl), (by decide +kernel)⟩,
   ⟨wRun, (by decide +kernel)⟩,
   ⟨(wRun.wr Reg.CFG_AT_LO (lo32 (stSec * 200))).wr Reg.CFG_AT_HI (hi32 (stSec * 200)), (by decide +kernel)⟩,
   ⟨wArm wRun 36 (stSec * 200), (by decide +kernel)⟩,
   ⟨wRun.wrSh Reg.KEY_PERM 5, (by decide +kernel)⟩⟩

theorem witness_CommitEdges :
    -- commitImmediate
    (∃ (s : State) (e : Nat), s.cfg.nowEdge = some e ∧ (s.slotReady 36 = true → e ≤ s.slotTick 36)) ∧
    -- commitScheduled
    (∃ (s : State), s.slotReady 36 = true ∧ (∀ e, s.cfg.nowEdge = some e → s.slotTick 36 < e)) ∧
    -- commitNone
    (∃ (s : State), s.cfg.nowEdge = none ∧ s.slotReady 36 = false) :=
  ⟨⟨{ wRun.wrSh Reg.KEY_PERM 5 with cfg := { initialDone := true, nowEdge := some 1080 } }, _, rfl, (by decide +kernel)⟩,
   ⟨(wArm wRun 36 (stSec * 101)).wrSh Reg.KEY_PERM 5, (by decide +kernel), (fun e h => by cases h)⟩,
   ⟨wRun, (by decide +kernel), (by decide +kernel)⟩⟩

theorem witness_CompareSlots :
    -- csArm
    (∃ (m : Master) (i : Fin 256) (ctrl : Word) (s : State) (u : State), (s.advTo (s.cclkAfter 0)).slotAccess m i.val = .ok () ∧ u =
      ((s.advTo (s.cclkAfter 0)).slotDue i.val).wr (Reg.TSC_CS_CTRL i.val) ((ctrl ||| 1) &&& (if i.val < 128 then 0x1C else
      0xFF0F1C))) ∧
    -- csDisarm
    (∃ (m : Master) (i : Fin 256) (_ : Word) (s : State) (u : State), (s.advTo (s.cclkAfter 0)).slotAccess m i.val = .ok () ∧ u =
      (s.advTo (s.cclkAfter 0)).slotDue i.val) ∧
    -- csRefused
    (∃ (m : Master) (i : Fin 256) (ctrl : Word) (_ : State) (c : Instr), (c = Instr.csArm m i ctrl ∨ c = Instr.csDisarm m i ctrl)) ∧
    -- compareSlotFire
    (∃ (i : Fin 128) (s : State) (a : Nat), fld (s.rd (Reg.TSC_CS_CTRL (128 + i.val))) 8 4 = a) :=
  ⟨⟨.sc0, 96, 0x14, (wRun.wr (Reg.TSC_CS_TIME_LO 96) (lo32 (stSec * 200))).wr (Reg.TSC_CS_TIME_HI 96) (hi32 (stSec * 200)), _,
     (by decide +kernel), rfl⟩,
   ⟨.sc0, 96, 0, wArm wRun 96 (stSec * 200), _, (by decide +kernel), rfl⟩,
   ⟨.pf0, 95, 0, wRun, .csArm .pf0 95 0, (.inl rfl)⟩,
   ⟨0, (wArm wRun 128 (stSec * 200)).wr (Reg.TSC_CS_CTRL 128) 0x100, 1, (by decide +kernel)⟩⟩

theorem witness_LinkStates :
    -- linkUp
    (∃ (n : Fin 8) (c : CalResult) (s : State) (ok : Bool), (ok = true ↔ c.residualOk = true ∧ (c.rx - s.calRxNom n.val).natAbs ≤
      2000 ∧ (c.tx - s.calTxNom n.val).natAbs ≤ 2000)) ∧
    -- goesDown
    (∃ (n : Fin 8) (lanes : Fin 256) (_ : State) (c : Instr), (c = Instr.linkDown n lanes ∨ c = Instr.calRetry n)) :=
  ⟨⟨0, { rx := 0, tx := 0, residualOk := false, skews := [], gridPhase := 5 }, (wAct wRun (Reg.PRT_MODE 0) 3).updPort 0 (fun p =>
     { p with link := .calCheck, stepAt := 900 }), false, (by simp)⟩,
   ⟨0, 0, wUp wRun 0, .linkDown 0 0, (.inl rfl)⟩⟩

theorem witness_HostRings :
    -- hostTxDescriptor
    ∃ (n : Fin 8) (_ : TxDesc) (s : State) (u : State), u = s.updPort n.val (fun p =>
      { p with htxFetch := (p.htxFetch + 1) % max 1 (s.ringSize (Reg.PRT_HTX_SIZE n.val)) }) :=
  ⟨0, { len := 60, tag := 3, tsReq := true, bytes := [] }, (wUp wRun 0).wr (Reg.PRT_HTX_PROD 0) 1, _, rfl⟩

theorem witness_Ingress :
    -- notUp
    (∃ (n : Fin 8) (_ : Frame) (_ : Nat) (_ : List Nat) (s : State), s.isUp n.val = false) ∧
    -- counted
    (∃ (n : Fin 8) (_ : Frame) (_ : Nat) (_ : List Nat) (s : State), s.isUp n.val = true) ∧
    -- kinds
    (∃ (n : Fin 8) (f : Frame) (corr : Nat) (uncorr : List Nat) (s : State) (g : Frame) (sIn : Nat) (u : State), s.isUp n.val = true
      ∧ g = (if 2 ≤ s.fec n.val ∧ 0 ∈ uncorr then { f with fcsGood := false } else f) ∧ sIn = s.stampOf n.val g ∧ u = ((s.fecCount
      n.val corr uncorr).bump (Reg.PRT_RX_FRAMES n.val)).flow (8 + n.val)) ∧
    -- request
    (∃ (n : Fin 8) (f : Frame) (_ : Nat) (uncorr : List Nat) (s : State) (g : Frame) (sIn : Nat) (p : Sys2Proof.Path), s.isUp n.val
      = true ∧ g = (if 2 ≤ s.fec n.val ∧ 0 ∈ uncorr then { f with fcsGood := false } else f) ∧ sIn = s.stampOf n.val g ∧ s.classify
      n.val (s.genAt sIn) g = .request p ∧ ((s.port n.val).calState = 2 → bitAt (s.ac (Reg.PRT_CTRL n.val)) 0 = true)) :=
  ⟨⟨0, wFrame, 0, [], wRun, (by decide +kernel)⟩,
   ⟨0, wFrame, 0, [], wUp wRun 0, (by decide +kernel)⟩,
   ⟨0, wFrame, 0, [], wUp wRun 0, _, _, _, (by decide +kernel), rfl, rfl, rfl⟩,
   ⟨0, wFrame, 0, [], wAct (wUp wRun 0) (Reg.PRT_CTRL 0) 1, _, _, .plain, (by decide +kernel), rfl, rfl, (by decide +kernel), (fun _
     => by decide +kernel)⟩⟩

theorem witness_CellWork :
    -- cellDispatch
    (∃ (_ : Fin 32) (s : State) (u : State), u = s.advTo (s.cclkAfter 0)) ∧
    -- recompose
    (∃ (_ : Fin 32) (s : State) (u : State), u = s.advTo (s.cclkAfter 0)) :=
  ⟨⟨0, wRun.updClu 0 (fun c => { c with queue := [wReq], areas := [(0, 1)] }), _, rfl⟩,
   ⟨0, wRun.updClu 0 (fun c => { c with prio := [.ret wCF] }), _, rfl⟩⟩

theorem witness_Departure :
    -- gridMeasure
    (∃ (n : Fin 8) (back : Nat) (off : Nat) (_ : Bool) (_ : Bool) (s : State) (u : State) (phase : Nat) (r : Nat), u = s.advTo (max
      (s.cclkAfter 0) (s.port n.val).gridAt) ∧ phase = u.gridPoint back off ∧ r = (s.port n.val).gridResidual phase) ∧
    -- admitFrame
    (∃ (s : State) (f : CFrame) (n : Nat) (asym : Int) (tRel : Int) (span : Span) (t : State), n = f.port ∧ n < 8 ∧ asym = (if
      f.internal = true then valueAt (s.port n).asymTx s.nowSt else f.asymTx) ∧ tRel = ((f.T * 1000 : Nat) : Int) - s.lRelG n asym ∧
      span = s.spanOf n ((f.T * 1000 : Nat) : Int) f.len ∧ t = s.admitFrame f) :=
  ⟨⟨0, 0, 0, false, false, (wUp wRun 0).updPort 0 (fun p => { p with gridGood := 15 }), _, _, _, rfl, rfl, rfl⟩,
   ⟨wHand, wCF, _, _, _, _, _, rfl, (by decide), rfl, rfl, rfl, rfl⟩⟩

theorem witness_Balancing :
    -- sprayIntervalEnd
    ∃ (s : State) (i : Nat), i = (s.time.now / cclkTicks - s.cls.loadAt / cclkTicks) / 10000 :=
  ⟨wRun.updClu 0 (fun c => { c with homed := 9 }), _, rfl⟩

theorem witness_RuleWindow :
    -- ruleRead
    (∃ (_ : Bool) (s : State) (n : Nat), n = fld (s.rd Reg.SRV_RULE_IDX) 0 13) ∧
    -- ruleWrite
    (∃ (s : State) (n : Nat), n = fld (s.rd Reg.SRV_RULE_IDX) 0 13) :=
  ⟨⟨true, (wAct wRun (ruleKey 3 4) 0x777).wr Reg.SRV_RULE_IDX 3, _, rfl⟩,
   ⟨(wRun.wr Reg.SRV_RULE_IDX 4096).wr (Reg.SRV_RULE_DATA 4) 0xF0000608, _, rfl⟩⟩

theorem witness_MasterKeys :
    -- rotation
    ∃ (s : State) (c : Instr) (a : Nat), (c = .ntsRotate ∧ s.srv.nts.retryAt = none ∧ s.srv.nts.rotateAt = a ∧ a ≠ 0) ∨ (c =
      .ntsRotateRetry ∧ s.srv.nts.retryAt = some a) :=
  ⟨{ wRun with srv := { wRun.srv with nts := { wRun.srv.nts with cur := some ⟨1, 5, 90⟩, prev1 := some ⟨0, 4, 80⟩, prev2 := some ⟨9, 9, 60⟩, next := some ⟨2, 6, 160⟩, nextAt := 99 * stSec, rotateAt := 160 * stSec } } },
    .ntsRotate, 160 * stSec, (.inl ⟨rfl, rfl, rfl, by decide⟩)⟩

theorem witness_KeyEstablishment :
    -- ntskeRequest
    (∃ (_ : BitVec 128) (_ : TlsHello) (_ : Bool) (_ : List (Nat × Bool × List Byte)) (_ : List Byte) (s : State) (sig : Option
      TlsScheme), sig = (s.kslot (fld (s.ac Reg.SRV_NTSKE_CTRL) 0 8)).scheme) ∧
    -- broadcastSend
    (∃ (j : Fin 16) (s : State) (w : Word) (due : Nat), w = ruleWord s.active (4096 + j.val) 4 ∧ due = max (tget (fun _ => 0)
      s.srv.bcastAt j.val) s.nowSt) :=
  ⟨⟨7, wHello, true, [], [], { wRun with srv := { wRun.srv with conns := [⟨7, 900, 2⟩] } }, _, rfl⟩,
   ⟨2, wAct (wUp wRun 0) (ruleKey 4098 4) 0x608, _, _, rfl, rfl⟩⟩

theorem witness_Carafes :
    -- carafeClose
    (∃ (k : Fin 32) (s : State) (tc : Nat), tc = ((s.slotFire (48 + k.val)).slotBoundary (s.slot (48 + k.val))).1) ∧
    -- sealDraining
    (∃ (s : State) (k : Nat) (d : Draining) (t : State), t = s.sealDraining k d) ∧
    -- carafeSigned
    (∃ (k : Fin 32) (s : State) (m : List Carafe), m = s.rt.sealed.filter (fun c => c.cluster == k.val)) :=
  ⟨⟨3, (wArm wRun 51 (101 * stSec)).updOpenCarafe 3 (fun o => { o with isOpen := true }), _, rfl⟩,
   ⟨wSeal, 0, ⟨99 * stSec, 97 * stSec, [⟨1, 2, 3, 4, 0, false, false, 0, 0, 98 * stSec⟩], 0x800⟩, _, rfl⟩,
   ⟨0, { wRun with rt := { wRun.rt with sealed := [wCarafe .signed] } }, _, rfl⟩⟩

theorem witness_Delegation :
    -- deleFirst
    (∃ (s : State) (pk : List Byte), pk = edPublic (leBytes 32 (Config.trng s.draws).toNat)) ∧
    -- delePrepare
    (∃ (s : State) (pk : List Byte), pk = edPublic (leBytes 32 (Config.trng s.draws).toNat)) ∧
    -- deleRetry
    (∃ (s : State) (pk : List Byte), pk = edPublic (leBytes 32 (Config.trng s.draws).toNat)) :=
  ⟨⟨wRun, _, rfl⟩,
   ⟨{ wRun with rt := { wRun.rt with cur := some ⟨false, 1, 5, 50, 500, 50, 500, []⟩ } }, _, rfl⟩,
   ⟨{ wRun with rt := { wRun.rt with cur := some ⟨false, 1, 5, 50, 500, 50, 500, []⟩, late := true, retryAt := 160 } }, _, rfl⟩⟩

theorem witness_SyncAndAnnounce :
    -- syncUcTick
    (∃ (n : Fin 8) (s : State) (a : Nat), a = (s.slotFire (88 + n.val)).nominalOf (88 + n.val) (s.slot (88 + n.val))) ∧
    -- announceSend
    (∃ (n : Fin 8) (i : Option (Fin 65536)) (s : State) (a : Nat) (seq : Nat) (log : Int), (match i with
        | none => (s.profile s.cfg.gen n.val = 1 ∨ s.profile s.cfg.gen n.val = 2) ∧ a = (s.ptpPort n.val).annAt ∧ seq = (s.ptpPort
            n.val).annSeq ∧ log = s.ptpLog s.cfg.gen n.val 1
        | some j => ∃ g, (s.grant j.val).cur.announce = some g ∧ s.profile s.cfg.gen n.val = 3 ∧ (s.grant j.val).cur.port = n.val ∧
            (s.annTurn (max (s.grant j.val).annAt s.nowSt)).sec < g.exp ∧ a = (s.grant j.val).annAt ∧ seq = (s.grant j.val).annSeq ∧
            log = g.log) ∧ s.time.st ≠ .unset ∧ s.taskStopped 1 = false) ∧
    -- announceNot
    (∃ (n : Fin 8) (i : Option (Fin 65536)) (s : State), (s.time.st = .unset ∨ s.taskStopped 1 = true ∨ (match i with
        | none => s.profile s.cfg.gen n.val = 0 ∨ s.profile s.cfg.gen n.val = 3
        | some j => (s.grant j.val).cur.announce = none ∨ s.profile s.cfg.gen n.val ≠ 3 ∨ (s.grant j.val).cur.port ≠ n.val))) ∧
    -- announceExpired
    (∃ (n : Fin 8) (j : Fin 65536) (s : State) (g : Grant), (s.grant j.val).cur.announce = some g ∧ s.profile s.cfg.gen n.val = 3 ∧
      (s.grant j.val).cur.port = n.val ∧ g.exp ≤ (s.annTurn (max (s.grant j.val).annAt s.nowSt)).sec ∧ s.time.st ≠ .unset ∧
      s.taskStopped 1 = false) :=
  ⟨⟨0, wAct (wArm wRun 88 (101 * stSec)) (Reg.SRV_PTP_PCFG 0) 3, _, rfl⟩,
   ⟨0, none, wAct (wUp (wFw 0 []) 0) (Reg.SRV_PTP_PCFG 0) 1, _, _, _, ⟨.inl (by decide +kernel), rfl, rfl, rfl⟩,
     (by decide +kernel), (by decide +kernel)⟩,
   ⟨0, none, State.reset, (.inl rfl)⟩,
   ⟨0, 5,
     { wUni.updGrant 5 (fun e => { e with cur := { e.cur with valid := true, announce := some ⟨1, 40⟩ } }) with mbx := (wFw 0 []).mbx },
     ⟨1, 40⟩, (by decide +kernel), (by decide +kernel), (by decide +kernel), (by decide +kernel), (by decide +kernel),
     (by decide +kernel)⟩⟩

theorem witness_Grants :
    -- signalling
    (∃ (n : Fin 8) (f : Frame) (_ : State) (c : Instr), (c = Instr.unicastRequest n f ∨ c = Instr.unicastCancel n f)) ∧
    -- request
    (∃ (s : State) (n : Nat) (f : Frame) (v : List Byte) (type : Nat) (log : Int) (t : State) (old : GrantSet) (place : Option (Nat
      × Nat)) (denied : Prop), n < 8 ∧ v.length = 6 ∧ type = byteAt v 0 / 16 ∧ log = signed 8 (byteAt v 1) ∧ old = (match s.grantOf
      n f.src with
        | some i => s.grantLatest i
        | none => {}) ∧ place = (match s.grantOf n f.src with
        | some i => some (i, (s.grant i).place)
        | none => match s.grantFree, s.grantPlace n f.src with
        | some i, some w => some (i, w)
        | _, _ => none) ∧ t = State.sigTlv n f s (4, v) ∧ (denied ↔ t.rd Reg.SRV_PTP_DENY = satAdd (s.rd Reg.SRV_PTP_DENY) 1 ∧
      t.ptp.grants = s.ptp.grants ∧ t.ptp.grantPend = s.ptp.grantPend ∧ Answered n f (grantTlv type log 0) s t)) ∧
    -- cancel
    (∃ (s : State) (n : Nat) (f : Frame) (v : List Byte) (t : State), n < 8 ∧ v.length = 2 ∧ t = State.sigTlv n f s (6, v)) ∧
    -- otherTlv
    (∃ (_ : State) (_ : Nat) (_ : Frame) (k : Nat) (v : List Byte), (k = 4 → v.length ≠ 6) ∧ (k = 6 → v.length ≠ 2)) :=
  ⟨⟨0, wSig 4 [0, 0xFC, 0, 0, 0, 100], wUni, .unicastRequest 0 (wSig 4 [0, 0xFC, 0, 0, 0, 100]), (.inl rfl)⟩,
   ⟨wUni, 0, wSig 4 [0, 0xFC, 0, 0, 0, 100], [0, 0xFC, 0, 0, 0, 100], _, _, _, _, _, _, (by decide), (by decide +kernel), rfl, rfl,
     rfl, rfl, rfl, Iff.rfl⟩,
   ⟨wUni.updGrant 5 (fun e => { e with cur := { e.cur with valid := true, addr := wFrame.src, announce := some ⟨1, 400⟩ } }), 0,
     wSig 6 [0xB0, 0], [0xB0, 0], _, (by decide), (by decide +kernel), rfl⟩,
   ⟨State.reset, 0, wFrame, 5, [1], (by decide), (by decide)⟩⟩

theorem witness_Clients :
    -- clientMessage
    (∃ (i : Fin 2) (f : Frame) (s : State) (p : List Byte) (k : Nat) (taken : Prop), p = f.payload ∧ k = byteAt p 0 % 16 ∧ (taken ↔
      s.clEn i.val = true ∧ s.isUp (s.clPort i.val) = true ∧ byteAt p 4 = s.clDomain i.val ∧ byteAt p 1 % 16 = 2 ∧ s.taskStopped (if
      k = 0xB ∨ k = 0xC then 1 else 0) = false)) ∧
    -- announce
    (∃ (s : State) (i : Nat) (j : Nat) (p : List Byte) (t : State) (src : Nat × Nat), src = (ofBe (slice p 20 8), ofBe (slice p 28
      2)) ∧ t = s.clAnnounce i j p) ∧
    -- exchange
    (∃ (s : State) (i : Nat) (y : ClSync) (t3 : Nat) (t4 : Int) (cd : Int) (t : State) (ms : Int) (sm : Int) (win : List Int) (mpd :
      Int) (th : Int), ms = s.clV i y.sIn - y.t1 - y.cs ∧ sm = t4 - s.clV i t3 - cd ∧ win = (roundDiv (ms + sm) 2 :: (s.client
      i).mpdWin).take 16 ∧ mpd = roundDiv win.sum win.length ∧ th = ms - mpd - roundDiv (sfld (s.ac (Reg.SRV_PTP_CL_ASYM i)) 0 24 *
      65536) 1000 ∧ t = s.clExchange i y t3 t4 cd) :=
  ⟨⟨0, { wFrame with payload := wMsg 0 (List.replicate 40 0) }, wCl 0x20001 id, _, _, _, rfl, rfl, Iff.rfl⟩,
   ⟨wCl 1 id, 0, 0, wMsg 0xB (List.replicate 44 0 ++ [6] ++ List.replicate 15 0), _, _, rfl, rfl⟩,
   ⟨wCl 1 id, 0, ⟨0, 98 * stSec, 0, 98 * stSec + 6553600, true⟩, 99 * stSec, 100 * stSec, 0, _, _, _, _, _, _, rfl, rfl, rfl, rfl,
     rfl, rfl⟩⟩

theorem witness_PkeSubmission :
    -- pkeJobStart
    ∃ (i : Fin 8) (_ : List Byte) (_ : Nat) (_ : Bool) (s : State) (e : Engine) (u : State), e = s.eng i.val ∧ u = s.advTo e.startAt :=
  ⟨2, [], 0, true, wEng (fun e => { e with pend := [wJob (.core 0)], startAt := 1200, clean := true }), _, _, rfl, rfl⟩

theorem witness_PkeEnds :
    -- pkeEnd
    (∃ (i : Fin 8) (s : State) (r : Run) (st : Nat) (w : Bool) (n : Nat) (t : State) (e : Engine) (out : List Byte) (full : Bool)
      (clean : Bool), e = s.eng i.val ∧ t = s.pkeEnd i.val r st w n ∧ (out = (if st = 0 ∨ st = 11 then r.out.take n else [])) ∧ full
      = (w || r.secretBearing) ∧ clean = (full || e.clean)) ∧
    -- pkeAbort
    (∃ (_ : Fin 8) (m : Master) (tag : Fin 256) (owner : Fin 64) (_ : Bool) (_ : State) (may : PkeJob → Bool), (∀ j, may j = true ↔
      j.tag = tag.val ∧ j.owner = owner.val ∧ (m = .kc ∨ ∃ c, m.core = some c ∧ j.by_ = .core c))) ∧
    -- aborts
    (∃ (i : Fin 8) (s : State) (_ : Run) (_ : PkeJob) (e : Engine), e = s.eng i.val) :=
  ⟨⟨0, State.reset, wRunJob (.core 0) 0, 0, false, 0, _, _, _, _, _, rfl, rfl, rfl, rfl, rfl⟩,
   ⟨2, .sc0, 5, 0x18, false, wEng (fun e => { e with run := some (wRunJob (.core 0) 0) }), (fun j => decide (j.tag = 5 ∧ j.owner =
     0x18 ∧ j.by_ = .core 0)), (fun j => by simp [Master.core])⟩,
   ⟨0, State.reset, wRunJob (.core 0) 0, wJob (.core 0), _, rfl⟩⟩

theorem witness_KeySlots :
    -- keySlotReadPub
    (∃ (m : Master) (s : State) (k : KeySlot), k = s.kslot (s.slotIdx m)) ∧
    -- slotWipe
    (∃ (s : State) (i : Nat) (t : State), t = s.slotWipe i) :=
  ⟨⟨.sc1, wRun.updKslot 0 (fun k => { k with type := 3, usage := 4, pub := [1, 2, 3, 4] }), _, rfl⟩,
   ⟨wRun.updKslot 7 (fun k => { k with type := 3, state := .loaded }), 7, _, rfl⟩⟩

theorem witness_RefMonitors :
    -- refEdge
    (∃ (_ : Fin 9) (at25 : Nat) (_ : EdgeRun) (s : State) (u : State), u = s.advTo (at25 / 8)) ∧
    -- freqEdge
    (∃ (s : State) (m : Nat) (tb : Int) (more : Nat) (t : State) (x : Monitor) (n : Nat) (k : Nat), t = s.freqEdge m tb more ∧ x =
      s.mon m ∧ n = s.refDivider m ∧ k = x.since + more + 1) ∧
    -- pulse
    (∃ (s : State) (m : Nat) (tb : Int) (st : Int) (lab : Option Nat) (t : State) (x : Monitor), m < 12 ∧ t = s.pulse m tb st lab ∧
      x = s.mon m) :=
  ⟨⟨0, 1000000000, ⟨true, 0⟩, (wAct wRun (Reg.REF_CFG 0) 3).updMon 0 (fun m =>
     { m with active := true, last := some (25000000000 - 1000000000000) }), _, rfl⟩,
   ⟨wAct (wAct (wAct wRun (Reg.REF_CFG 0) 5) (Reg.REF_FREQ_NUM 0) 20000000) (Reg.REF_FREQ_DEN 0) 1, 0, 0, 5, _, _, _, _, rfl, rfl,
     rfl, rfl⟩,
   ⟨(wAct wRun (Reg.REF_CFG 0) 3).updMon 0 (fun m => { m with active := true, last := some (25000000000 - 1000000000000) }), 0,
     25000000000, 100 * stSec, none, _, _, (by decide +kernel), rfl, rfl⟩⟩

theorem witness_RefRanking :
    -- xcheck
    (∃ (s : State) (bad : List (Nat × Nat)), bad = s.xPairs.filter (fun p => !(s.compare p.1 p.2).within)) ∧
    -- selectorEvaluate
    (∃ (s : State) (u : State), u = s.advTo (s.cclkAfter 1)) :=
  ⟨⟨wDis, _, rfl⟩,
   ⟨{ wRun.updMon 3 (fun m => { m with state := .qualified }) with ref := { (wRun.updMon 3 (fun m => { m with state := .qualified })).ref with evalDue := true } },
     _, rfl⟩⟩

theorem witness_OscillatorAndFaults :
    -- apllUnlock
    (∃ (p : Fin 3) (_ : Bool) (s : State) (x : DualPll), x = s.pll p.val) ∧
    -- eholdUpdate
    (∃ (s : State) (u : State) (d : Dpll0), u = s.advDt ((s.time.dt / msUnit + 1) * msUnit) ∧ d = s.clk.d) :=
  ⟨⟨0, true, wRun, _, rfl⟩,
   ⟨wDpll (fun d => { d with r := 500, y := 77 }), _, _, rfl, rfl⟩⟩

theorem witness_Dpll :
    -- phaseSample
    (∃ (s : State) (m : Nat) (e : Int) (t : State) (lim : Nat) (r₀ : Int) (d : Dpll0) (step : Prop), t = s.phaseSample m e ∧ lim =
      fld (s.ac Reg.CLK_STEP_LIMIT) 0 30 * 65536 ∧ r₀ = (if s.clk.d.rPend = true then e else s.clk.d.r) ∧ d = s.clk.d ∧ (step ↔
      t.evSet 12 = true ∧ t.clk.d.r = 0 ∧ t.clk.d.big = 0 ∧ t.clk.d.stepNeeded = false ∧ t.clk.d.e = 0 ∧ t.time.dt = (((s.advTo
      s.nextTb).time.dt : Int) + stUnit * -e).toNat)) ∧
    -- histRead
    (∃ (age : Fin 65536) (s : State) (h : Int × Bool), h = s.clk.d.hist.getD age.val (0, false)) ∧
    -- dpllxLock
    (∃ (x : Fin 3) (s : State) (src : Nat), src = fld (s.ac (Reg.CLK_DPLL_CFG x.val)) 1 4) :=
  ⟨⟨wDpll (fun d => { d with fresh := some 3000, r := 500, big := 2 }), 0, 3000, _, _, _, _, _, rfl, rfl, rfl, rfl, Iff.rfl⟩,
   ⟨1, wDpll (fun d => { d with hist := [(5, true), (-9, true)] }), _, rfl⟩,
   ⟨0, (wAct wRun (Reg.CLK_DPLL_CFG 0) 3).updMon 0 (fun m => { m with state := .qualified }), _, rfl⟩⟩

theorem witness_ClockOutputs :
    -- ppsPulse
    (∃ (k : Fin 4) (s : State) (u : State) (o : Int) (sec : Int) (cfg : Word × Word), o = s.otOf (s.slot (32 + k.val)).time ∧ u =
      s.slotFire (32 + k.val) ∧ sec = slotSec o ∧ cfg = u.ppsSet k.val o) ∧
    -- todoutFrame
    (∃ (s : State) (u : State) (o : Int) (sec : Int) (lab : Nat) (baud : Nat), o = s.otOf (s.slot 46).time ∧ u = s.slotFire 46 ∧ sec
      = o / stSec ∧ lab = (sec + (if bitAt (s.ac Reg.CLK_TOD_CFG) 2 = true then (1 : Int) else 0)).toNat ∧ baud = baudOf (fld (s.ac
      Reg.CLK_TOD_CFG) 4 3)) ∧
    -- cascPulse
    (∃ (s : State) (u : State) (sec : Int), u = s.slotFire 47 ∧ sec = slotSec (s.otOf (s.slot 47).time)) :=
  ⟨⟨0, wAct (wArm wRun 32 (101 * stSec)) (Reg.CLK_PPS_CFG 0) 0x6401, _, _, _, _, rfl, rfl, rfl, rfl⟩,
   ⟨wAct (wArm wRun 46 (101 * stSec)) Reg.CLK_TOD_CFG 7, _, _, _, _, _, rfl, rfl, rfl, rfl, rfl⟩,
   ⟨{ wAct (wArm wRun 47 (101 * stSec)) Reg.CLK_CASC_CFG 0x6401 with serve := { wRun.serve with cascDrv := true } }, _, _, rfl, rfl⟩⟩

theorem witness_Steering :
    -- steerWrite
    ∃ (s : State) (u : State) (n : Int), u = s.advTo s.clk.steerAt ∧ n = (s.clk.code : Int) + s.steerStep :=
  ⟨{ wAct (wAct (wDpll (fun d => { d with y := 5 * 2 ^ 80 / 10 ^ 12 })) Reg.CLK_STEER_CTRL 0x10001001) Reg.CLK_STEER_GAIN 1000 with clk := { (wDpll (fun d => { d with y := 5 * 2 ^ 80 / 10 ^ 12 })).clk with code := 300, steerAt := 1500 } },
    _, _, rfl, rfl⟩

theorem witness_GnssTrackers :
    -- trackerLock
    (∃ (c : Fin 64) (_ : Bool) (_ : Bool) (s : State) (h : GnsChan), h = s.chan c.val) ∧
    -- trackerBRetry
    (∃ (c : Fin 64) (s : State) (h : GnsChan), h = s.chan c.val) ∧
    -- trackerDrop
    (∃ (c : Fin 64) (_ : Bool) (s : State) (h : GnsChan), h = s.chan c.val) ∧
    -- sidePeakMove
    (∃ (p : SidePeak) (s : State) (h : GnsChan), h = s.chan p.chan.val) ∧
    -- reacqTimeout
    (∃ (c : Fin 64) (_ : Bool) (s : State) (h : GnsChan), h = s.chan c.val) :=
  ⟨⟨3, false, true, wGns (fun h => { h with sv := some (0, 7), a := .track }), _, rfl⟩,
   ⟨3, wGns (fun h => { h with sv := some (0, 7), a := .nav, b := .reacq, bRetry := 5000 }), _, rfl⟩,
   ⟨3, true, wGns (wSat 7), _, rfl⟩,
   ⟨⟨3, true⟩, wGns (fun h => { wSat 7 h with sv := some (1, 7), bumpAt := some 500 }), _, rfl⟩,
   ⟨3, false, wGns (fun h => { h with sv := some (0, 7), a := .reacq, aSince := 900 }), _, rfl⟩⟩

theorem witness_GnssEpochs :
    -- gnssEpoch
    (∃ (ms : List GnssMeas) (fits : List GnssFit) (moved : Int) (s : State) (w : State) (v : State) (m : State) (u : State) (x :
      Option GnssFit × State) (lim : Word), w = (if s.time.dt % secUnit < s.time.inc ∧ s.gns.last.map (·.sec) ≠ some s.sec then s
      else s.advDt (secUnit * (s.time.dt / secUnit + 1))) ∧ v = (w.gnssMove (moved - (if s.gns.last.isSome = true then s.tauIf -
      s.gns.tau else 0))).updGns (fun g => { g with tau := s.tauIf }) ∧ m = (if v.gnsMode = 1 ∧ v.gns.survey = none ∧ v.gns.held =
      none then v.surveyStart else v) ∧ u = (List.range 64).foldl (fun s c => s.chanEpoch ms c) m ∧ x = (if u.gns.sampleOk = true ∧
      0 < u.solSats then State.fitEpoch 2 fits u else (none, u)) ∧ lim = s.ac Reg.GNS_SOL_CFG) ∧
    -- burstWindow
    (∃ (got : List (Fin 64 × Bool)) (_ : State) (tracks : TrkState → Bool) (miss : Fin 64 → Bool → Nat → TrkState → Nat), (∀ x,
      tracks x = (x == .track || x == .locked || x == .nav)) ∧ (∀ c b n x, miss c b n x = if tracks x = true ∧ (c, b) ∉ got then n +
      1 else 0)) :=
  ⟨⟨[], [wFit], 0, { ((wGns (wSat 7)).updChan 4 (wSat 8)).updChan 5 (wSat 9) with mbx := (wFw 0 []).mbx }, _, _, _, _, _, _, rfl,
     rfl, rfl, rfl, rfl, rfl⟩,
   ⟨[],
     { wGns (fun h => { wSat 7 h with a := .track, missA := 1 }) with gns := { (wGns (fun h => { wSat 7 h with a := .track, missA := 1 })).gns with burst := true } },
     (fun x => x == .track || x == .locked || x == .nav), (fun c b n x => if (x == .track || x == .locked || x == .nav) = true ∧ (c,
     b) ∉ ([] : List (Fin 64 × Bool)) then n + 1 else 0), (fun _ => rfl), (fun _ _ _ _ => rfl)⟩⟩

theorem witness_GnssMessages :
    -- navUnit
    ∃ (c : Fin 64) (_ : Bool) (_ : Bool) (_ : NavUnit) (s : State) (h : GnsChan), h = s.chan c.val :=
  ⟨3, false, true, .tow, wGns (wSat 7), _, rfl⟩

theorem witness_TimInputs :
    -- timinEdge
    ∃ (j : Fin 16) (at_ : Nat) (_ : Bool) (lasts : Nat) (s : State) (a : State) (u : State) (i : TimIn) (div : Nat) (short : Bool)
      (past : Nat → Bool), a = s.advTo (s.tickAtG at_) ∧ u = (if div = 1 then a.advTo (a.tickAtG (at_ + fld (s.ac (Reg.TIM_IN_CFG
      j.val)) 12 8 * 65536000)) else a) ∧ i = s.timIn j.val ∧ div = fld (s.ac (Reg.TIM_IN_DIV j.val)) 0 17 ∧ short = (div == 1 &&
      !i.drop && decide (lasts < fld (s.ac (Reg.TIM_IN_CFG j.val)) 12 8 * 1000)) ∧ (∀ n, past n = i.last.any (fun l => decide ((at_
      : Int) - l < ((n * 65536000 : Nat) : Int)))) :=
  ⟨2, 100 * stSec * 1000, true, 1000000, wAct (wAct wRun (Reg.TIM_IN_CFG 2) 1) (Reg.TIM_IN_DIV 2) 1, _, _, _, _, _, fun n => ((wAct
    (wAct wRun (Reg.TIM_IN_CFG 2) 1) (Reg.TIM_IN_DIV 2) 1).timIn 2).last.any (fun l => decide (((100 * stSec * 1000 : Nat) : Int) -
    l < ((n * 65536000 : Nat) : Int))), rfl, rfl, rfl, rfl, rfl, (fun _ => rfl)⟩

theorem witness_TimChannels :
    -- timAccept
    (∃ (s : State) (_ : Fin 8) (u : State), u = s.advTo (s.cclkAfter 0)) ∧
    -- timArm
    (∃ (k : Fin 8) (s : State) (u : State) (c : TimCh), u = s.timAccept k.val ∧ c = (u.timCh k.val).toIdle) ∧
    -- timDisarm
    (∃ (k : Fin 8) (s : State) (u : State), u = s.timAccept k.val) ∧
    -- timArmAt
    (∃ (k : Fin 8) (s : State) (u : State) (g : BitVec 64) (c : TimCh) (x : Slot), u = s.timAccept k.val ∧ c = (u.timCh
      k.val).toIdle ∧ g = BitVec.ofNat 64 (join32 (s.rd (Reg.TIM_GATE_TIME_LO k.val)) (s.rd (Reg.TIM_GATE_TIME_HI k.val))) ∧ x =
      u.armedAs (38 + k.val)
      { armed := true, time := g, period := 0, policy := fld (s.ac (Reg.TIM_CH_CFG k.val)) 10 2, follow := false }) ∧
    -- timGateFire
    (∃ (k : Fin 8) (s : State) (c : TimCh) (l : Bool), c = s.timCh k.val ∧ l = (s.slot (38 + k.val)).late.isSome) ∧
    -- timEnds
    (∃ (k : Fin 8) (s : State) (u : State) (full : Bool) (rec_ : State → Prop) (next : State → Prop), u = s.advTo (s.tickAtG
      ((s.timEnd k.val + s.timWait k.val) * 1000)) ∧ full = decide (32 ≤ (s.timCh k.val).queue.length) ∧ (∀ t, rec_ t ↔ if full =
      true then (t.timCh k.val).queue = (s.timCh k.val).queue ∧ (t.timCh k.val).ovfBefore = true ∧ t.evSet 225 = true ∧ t.rd
      (Reg.TIM_CH_OVF k.val) = satAdd (s.rd (Reg.TIM_CH_OVF k.val)) 1 else t.rd (Reg.TIM_CH_RESULTS k.val) = satAdd (s.rd
      (Reg.TIM_CH_RESULTS k.val)) 1 ∧ (t.timCh k.val).seq = ((s.timCh k.val).seq + 1) % 65536 ∧ ∃ r, (t.timCh k.val).queue =
      (s.timCh k.val).queue ++ [r] ∧ r.take 2 = leBytes 2 (s.timCh k.val).seq ∧ (r.drop 2).take 1 = leBytes 1 (s.timMode k.val) ∧
      r.length = 160) ∧ (∀ t, next t ↔ t.time.now = u.time.now ∧ (∀ j, j ≠ k.val → t.timCh j = s.timCh j) ∧ if s.timMode k.val ≠ 1 ∧
      s.timMode k.val ≠ 3 then t.timCh k.val = (s.timCh k.val).toIdle else rec_ t ∧ (t.timCh k.val).state = if s.timCont k.val =
      true ∧ (s.timCh k.val).once = false then (if s.timMode k.val = 1 then .armed else .measuring) else .idle)) :=
  ⟨⟨State.reset, 0, _, rfl⟩,
   ⟨1, wAct wRun (Reg.TIM_CH_CFG 1) 3, _, _, rfl, rfl⟩,
   ⟨1, wArm wRun 39 (101 * stSec), _, rfl⟩,
   ⟨1, (wAct wRun (Reg.TIM_CH_CFG 1) 2).wr (Reg.TIM_GATE_TIME_HI 1) 0x10000000, _, _, _, _, rfl, rfl, rfl, rfl⟩,
   ⟨1, (wAct (wArm wRun 39 (101 * stSec)) (Reg.TIM_CH_CFG 1) 1).updTimCh 1 (fun x => { x with state := .gateWait }), _, _, rfl, rfl⟩,
   ⟨1, (wAct wRun (Reg.TIM_CH_CFG 1) 1).updTimCh 1 (fun x => { x with state := .measuring, start := 100 * stSec, seq := 65535 }), _,
     _, _, _, rfl, rfl, (fun _ => Iff.rfl), (fun _ => Iff.rfl)⟩⟩

theorem witness_LaneArms :
    -- laneDisarm
    (∃ (s : State) (l : Fin 32) (u : State) (t : State), u = s.laneDue l.val ∧ t = s.laneDisarm l.val) ∧
    -- laneArm
    (∃ (s : State) (l : Fin 32) (x : LaneSet) (u : State) (v : State) (t : State) (p : Nat), x = s.laneStaged l.val ∧ u = s.laneDue
      l.val ∧ v = u.laneLoad l.val x (u.otOf x.t0) ∧ p = v.lanePast l.val v.otArm ∧ t = s.laneArm l.val ∧ x.mode ≠ 0) ∧
    -- evlArm
    (∃ (_ : Fin 32) (s : State) (u : State), u = s.advTo (s.cclkAfter 0)) :=
  ⟨⟨State.reset, 0, _, _, rfl, rfl⟩,
   ⟨wStage 0x29 wRun, 2, _, _, _, _, _, rfl, rfl, rfl, rfl, rfl, (by decide +kernel)⟩,
   ⟨2, wStage 0x29 wRun, _, rfl⟩⟩

theorem witness_LanePulses :
    -- lanePulse
    (∃ (s : State) (l : Fin 32) (x : Lane) (y : Lane) (g : Int) (c : Int) (n : Nat) (fin_ : Bool) (t : State), x = s.lane l.val ∧ g
      = s.laneNext l.val ∧ c = s.laneComp l.val ∧ n = (if x.latePulse.isSome = true then x.idx else x.idx + 1) ∧ y = (match x.trail
      with
        | some e => if x.endG e ≤ g then { x with high := false, trail := none, lastEnd := some e } else x
        | none => x) ∧ fin_ = (x.set.ended n && y.trail.isNone) ∧ t = s.lanePulse l.val) ∧
    -- evlPulse
    (∃ (l : Fin 32) (s : State) (u : State), u = s.laneFire l.val) ∧
    -- evlTrailingEdge
    (∃ (l : Fin 32) (s : State) (x : Lane), x = s.lane l.val) ∧
    -- laneLevel
    (∃ (s : State) (l : Fin 32) (x : Lane) (g : Int) (t : State), x = s.lane l.val ∧ g = s.laneNext l.val ∧ t = s.laneLevel l.val) ∧
    -- evlLevel
    (∃ (l : Fin 32) (s : State) (u : State), u = s.laneFire l.val) :=
  ⟨⟨State.reset, 0, _, _, _, _, _, _, _, rfl, rfl, rfl, rfl, rfl, rfl, rfl⟩,
   ⟨2, wLane id, _, rfl⟩,
   ⟨2, wLane (fun x => { x with high := true, state := .running, trail := some (101 * stSec) }), _, rfl⟩,
   ⟨State.reset, 0, _, _, _, rfl, rfl, rfl⟩,
   ⟨2, wLane (fun x => { x with set := { x.set with cfg := 0xAA } }), _, rfl⟩⟩

theorem witness_MbxWords :
    -- mbxTx
    (∃ (c : Fin 19) (m : Master) (_ : Word) (s : State) (e : Nat), (c.val ≠ 8 ∨ m.secure = true) ∧ endOf c.val m = some e ∧ (s.chEnd
      (peerOf e)).up = true ∧ (s.chEnd (peerOf e)).inq.length < 8) ∧
    -- mbxTxFull
    (∃ (c : Fin 19) (m : Master) (_ : Word) (s : State) (e : Nat), (c.val ≠ 8 ∨ m.secure = true) ∧ endOf c.val m = some e ∧ (s.chEnd
      (peerOf e)).up = true ∧ 8 ≤ (s.chEnd (peerOf e)).inq.length) ∧
    -- mbxTxAborted
    (∃ (c : Fin 19) (m : Master) (_ : Word) (s : State) (e : Nat), (c.val ≠ 8 ∨ m.secure = true) ∧ endOf c.val m = some e ∧ (s.chEnd
      (peerOf e)).up = false) ∧
    -- mbxRx
    (∃ (c : Fin 19) (m : Master) (s : State) (e : Nat) (w : Word) (r : List Word), (c.val ≠ 8 ∨ m.secure = true) ∧ endOf c.val m =
      some e ∧ (s.chEnd e).inq = w :: r) ∧
    -- mbxRxEmpty
    (∃ (c : Fin 19) (m : Master) (s : State) (e : Nat), (c.val ≠ 8 ∨ m.secure = true) ∧ endOf c.val m = some e ∧ (s.chEnd e).inq =
      []) ∧
    -- mbxDbRing
    (∃ (c : Fin 19) (m : Master) (_ : Word) (s : State) (e : Nat), (c.val ≠ 8 ∨ m.secure = true) ∧ endOf c.val m = some e ∧ (s.chEnd
      (peerOf e)).up = true) ∧
    -- mbxDbRingDown
    (∃ (c : Fin 19) (m : Master) (_ : Word) (s : State) (e : Nat), (c.val ≠ 8 ∨ m.secure = true) ∧ endOf c.val m = some e ∧ (s.chEnd
      (peerOf e)).up = false) ∧
    -- mbxDbClear
    (∃ (c : Fin 19) (m : Master) (_ : Word) (_ : State) (e : Nat), (c.val ≠ 8 ∨ m.secure = true) ∧ endOf c.val m = some e) :=
  ⟨⟨0, .pf0, 5, wFw 0 [], 0, (.inl (by decide)), (by decide +kernel), (by decide +kernel), (by decide +kernel)⟩,
   ⟨0, .pf0, 5, wFw 0 [1, 2, 3, 4, 5, 6, 7, 8], 0, (.inl (by decide)), (by decide +kernel), (by decide +kernel),
     (by decide +kernel)⟩,
   ⟨8, .kc, 5, wRun, 17, (.inr (by decide)), (by decide +kernel), (by decide +kernel)⟩,
   ⟨0, .sc0, wFw 0 [7, 8], 1, 7, [8], (.inl (by decide)), (by decide +kernel), rfl⟩,
   ⟨0, .sc0, wFw 0 [], 1, (.inl (by decide)), (by decide +kernel), (by decide +kernel)⟩,
   ⟨0, .sc0, 0xC0000002, (wFw 0 []).updChEnd 0 (fun x => { x with dbMask := 0, ackFrom := some 900 }), 1, (.inl (by decide)),
     (by decide +kernel), (by decide +kernel)⟩,
   ⟨0, .sc0, 2, wRun, 1, (.inl (by decide)), (by decide +kernel), (by decide +kernel)⟩,
   ⟨0, .sc0, 2, (wFw 0 []).updChEnd 1 (fun x => { x with db := 7 }), 1, (.inl (by decide)), (by decide +kernel)⟩⟩

theorem witness_NotEndpoint :
    -- own
    (∃ (_ : State) (c : Nat) (m : Master) (_ : Nat) (_ : Nat) (_ : State → Nat → State), (c ≠ 8 ∨ m.secure = true)) ∧
    -- foreign
    (∃ (_ : State) (c : Fin 19) (m : Master) (_ : Word) (_ : Nat) (_ : State → Nat → State), (c.val ≠ 8 ∨ m.secure = true) ∧ endOf
      c.val m = none) ∧
    -- secure
    (∃ (_ : State) (c : Fin 19) (m : Master) (_ : Word) (_ : Nat) (_ : State → Nat → State), c.val = 8 ∧ m.secure = false) :=
  ⟨⟨wFw 0 [], 0, .sc0, 1, 0, (fun s _ => s), (.inl (by decide))⟩,
   ⟨wFw 0 [9], 0, .sc2, 3, 0, (fun s _ => s), (.inl (by decide)), (by decide +kernel)⟩,
   ⟨wFw 8 [9], 8, .pf0, 3, 0, (fun s _ => s), (by decide +kernel), (by decide +kernel)⟩⟩

theorem witness_MbxEnds :
    -- ackStart
    (∃ (c : Fin 19) (m : Master) (_ : State) (e : Nat), (c.val ≠ 8 ∨ m.secure = true) ∧ endOf c.val m = some e) ∧
    -- ackCancel
    (∃ (c : Fin 19) (m : Master) (_ : State) (e : Nat), (c.val ≠ 8 ∨ m.secure = true) ∧ endOf c.val m = some e) ∧
    -- ackTimeout
    (∃ (e : Fin 38) (s : State) (x : ChanEnd), x = s.chEnd e.val) ∧
    -- epReset
    (∃ (m : Master) (_ : State), m.isCore = false) ∧
    -- open
    (∃ (m : Master) (_ : State), m.isCore = false) ∧
    -- core
    (∃ (m : Master) (_ : State), m.isCore = true) ∧
    -- release
    (∃ (i : Fin 64) (m : Master) (s : State), (i.val < 56 ∨ m.secure = true) ∧ s.sem i.val = m.ident) ∧
    -- releaseForeign
    (∃ (i : Fin 64) (m : Master) (s : State), (i.val < 56 ∨ m.secure = true) ∧ s.sem i.val ≠ m.ident) ∧
    -- releaseSecure
    (∃ (i : Fin 64) (m : Master) (_ : State), 56 ≤ i.val ∧ m.secure = false) ∧
    -- force
    (∃ (_ : Fin 64) (m : Master) (_ : State), m.secure = true) ∧
    -- forceRefused
    (∃ (_ : Fin 64) (m : Master) (_ : State), m.secure = false) :=
  ⟨⟨0, .pf0, wFw 0 [], 0, (.inl (by decide)), (by decide +kernel)⟩,
   ⟨0, .pf0, (wFw 0 []).updChEnd 0 (fun x => { x with ackFrom := some 900 }), 0, (.inl (by decide)), (by decide +kernel)⟩,
   ⟨3, wRun.updChEnd 3 (fun x => { x with ackFrom := some 900 }), _, rfl⟩,
   ⟨.pf0, (wFw 0 [1, 2]).updSem 5 (fun _ => 7), (by decide +kernel)⟩,
   ⟨.spi, wRun, (by decide +kernel)⟩,
   ⟨.sc2, wRun, (by decide +kernel)⟩,
   ⟨5, .pf0, wRun.updSem 5 (fun _ => 7), (.inl (by decide)), (by decide +kernel)⟩,
   ⟨5, .pf0, wRun.updSem 5 (fun _ => 6), (.inl (by decide)), (by decide +kernel)⟩,
   ⟨56, .pf0, wRun, (by decide +kernel), (by decide +kernel)⟩,
   ⟨60, .kc, wRun.updSem 60 (fun _ => 6), (by decide +kernel)⟩,
   ⟨5, .pf0, wRun, (by decide +kernel)⟩⟩

theorem witness_SemAcquire :
    -- free
    (∃ (i : Fin 64) (m : Master) (s : State), (i.val < 56 ∨ m.secure = true) ∧ s.sem i.val = 0) ∧
    -- own
    (∃ (i : Fin 64) (m : Master) (s : State), (i.val < 56 ∨ m.secure = true) ∧ s.sem i.val = m.ident) ∧
    -- held
    (∃ (i : Fin 64) (m : Master) (s : State), (i.val < 56 ∨ m.secure = true) ∧ s.sem i.val ≠ 0 ∧ s.sem i.val ≠ m.ident) ∧
    -- secure
    (∃ (i : Fin 64) (m : Master) (_ : State), 56 ≤ i.val ∧ m.secure = false) :=
  ⟨⟨63, .pf1, wRun, (.inr (by decide)), (by decide +kernel)⟩,
   ⟨55, .spi, wRun.updSem 55 (fun _ => 8), (.inl (by decide)), (by decide +kernel)⟩,
   ⟨55, .spi, wRun.updSem 55 (fun _ => 1), (.inl (by decide)), (by decide +kernel), (by decide +kernel)⟩,
   ⟨56, .sc0, wRun, (by decide +kernel), (by decide +kernel)⟩⟩

theorem witness_CoreWatchdogs :
    -- wdtExpire
    ∃ (c : Fin 5) (s : State) (k : CoreSt) (now : Nat) (recent : List Nat), k = s.core c.val ∧ now = (s.advTo (k.wdtFrom +
      s.wdtTicks)).time.now ∧ recent = now :: k.restarts.filter (fun t => decide (now < t + sTicks * (fld (s.ac Reg.MBX_WDT_CFG) 24
      8 * 10))) :=
  ⟨2, ((wFw 2 [3]).updSem 4 (fun _ => 4)).updEng 1 (fun e => { e with cpl := [(2, [⟨1, 2, 0⟩])] }), _, _, _, rfl, rfl, rfl⟩

theorem witness_FirmwareProtocol :
    -- fwPop
    (∃ (s : State) (c : Fin 9) (n : Nat) (t : State), t = s.fwPop c.val n) ∧
    -- fwSend
    (∃ (s : State) (c : Fin 9) (m : FwMsg) (t : State) (x : ChanEnd), x = s.chEnd (2 * c.val) ∧ t = s.fwSend c.val m) ∧
    -- fwKeyImport
    (∃ (c : Fin 9) (_ : List Byte) (_ : State) (spi : Bool), spi = (decide (4 ≤ c.val) && decide (c.val < 8))) ∧
    -- fwBacklogSend
    (∃ (c : Fin 9) (s : State) (q : List FwMsg), q = (s.fwChan c.val).backlog) :=
  ⟨⟨State.reset, 0, 0, _, rfl⟩,
   ⟨State.reset, 0, [1, 2], _, _, rfl, rfl⟩,
   ⟨1, [], wFw 1 [0xABCD0320, 0, 0, 0], _, rfl⟩,
   ⟨1, (wFw 1 []).updFwChan 1 (fun x => { x with backlog := [[1, 2], [3], [4, 5, 6, 7, 8, 9]] }), _, rfl⟩⟩

theorem witness_EventDelivery :
    -- evtStatClear
    (∃ (m : Master) (g : Fin 8) (_ : Word) (_ : State), (g.val ≠ 6 ∨ m.secure = true)) ∧
    -- evtStatClearSecure
    (∃ (m : Master) (g : Fin 8) (_ : Word) (_ : State), g.val = 6 ∧ m.secure = false) ∧
    -- evtMaskWrite
    (∃ (m : Master) (g : Fin 8) (_ : Word) (_ : State), (g.val ≠ 6 ∨ m.secure = true)) ∧
    -- evtMaskWriteSecure
    (∃ (m : Master) (g : Fin 8) (_ : Word) (_ : State), g.val = 6 ∧ m.secure = false) ∧
    -- evtForce
    (∃ (m : Master) (e : Fin 256) (_ : State), m.secure = true ∧ evReserved e.val = false) ∧
    -- evtForceReserved
    (∃ (m : Master) (e : Fin 256) (_ : State), m.secure = true ∧ evReserved e.val = true) ∧
    -- evtForceSecure
    (∃ (m : Master) (_ : Fin 256) (_ : State), m.secure = false) ∧
    -- msixUnmask
    (∃ (pf1 : Bool) (_ : Bool) (_ : Bool) (_ : BitVec 24) (_ : State) (f : Nat) (n : Nat), f = (if pf1 = true then 1 else 0) ∧ n =
      (if pf1 = true then 8 else 24)) :=
  ⟨⟨.pf0, 1, 0xFF, (wRun.raise 34).raise 45, (.inl (by decide))⟩,
   ⟨.pf0, 6, 0xFF, wRun.raise 194, (by decide +kernel), (by decide +kernel)⟩,
   ⟨.pf0, 1, 0xFF, wRun, (.inl (by decide))⟩,
   ⟨.pf0, 6, 0xFF, wRun, (by decide +kernel), (by decide +kernel)⟩,
   ⟨.kc, 48, wRun.wr (bankKey .sc1 (Reg.EVT_CORE_EN 1)) 0xFFFFFFFF, (by decide +kernel), (by decide +kernel)⟩,
   ⟨.kc, 255, wRun, (by decide +kernel), (by decide +kernel)⟩,
   ⟨.pf0, 48, wRun, (by decide +kernel)⟩,
   ⟨false, true, false, 0,
     { wRun with evt := { wRun.evt with msix := tput wRun.evt.msix 0 { tget msixDef wRun.evt.msix 0 with pending := 3 } } }, 0, 24,
     (by decide +kernel), (by decide +kernel)⟩⟩

theorem witness_CounterCommands :
    -- cntLoRead
    (∃ (_ : Master) (n : Fin 64) (_ : Bool) (s : State), (s.cnt n.val).chained n.val = false) ∧
    -- cntLoReadChained
    (∃ (_ : Master) (n : Fin 64) (_ : Bool) (s : State), (s.cnt n.val).chained n.val = true) ∧
    -- cntHiWrite
    (∃ (_ : Master) (n : Fin 64) (_ : Word) (s : State) (odd : Nat) (u : State) (lost : Bool), odd = (if n.val % 2 = 0 then n.val +
      1 else n.val) ∧ u = s.advTo ((s.time.now / cclkTicks + 1) * cclkTicks) ∧ lost = ((s.cnt odd).chained odd && decide ((u.cnt
      odd).val ≠ (s.cnt odd).val))) :=
  ⟨⟨.sc1, 3, true, wRun, (by decide +kernel)⟩,
   ⟨.sc1, 3, false, wRun.setCnt 3 { wRun.cnt 3 with sel := 0xFF01 }, (by decide +kernel)⟩,
   ⟨.sc1, 2, 0x12345, wRun, _, _, _, rfl, rfl, rfl⟩⟩

theorem witness_MemoryFaults :
    -- clusterStall
    ∃ (k : Fin 32) (s : State) (x : ClusterSt), x = s.clu k.val :=
  ⟨3, wRun.updClu 3 (fun c => { c with queue := [wReq], cellsOn := 0xFFFF }), _, rfl⟩

theorem witness_BusAccesses :
    -- writeWord
    (∃ (s : State) (m : Master) (a : Nat) (v : Word) (t : State), t = s.writeWord m a v) ∧
    -- readWord
    (∃ (s : State) (m : Master) (a : Nat) (v : Word) (t : State), (v, t) = s.readWord m a) :=
  ⟨⟨wRun, .kc, Reg.EVL_PERIOD_LO 2, 0x12345678, _, rfl⟩,
   ⟨wRun, .pf0, Reg.EVL_PERIOD_LO 2, ((wRun : State).readWord .pf0 (Reg.EVL_PERIOD_LO 2)).1, ((wRun : State).readWord .pf0
     (Reg.EVL_PERIOD_LO 2)).2, rfl⟩⟩

/-! ## Ill-formed commands -/

/-- A recipe record and its kin with one field too wide for its bytes are refused; a well-formed neighbour is not. -/
theorem test_wf_access :
    (Instr.registerWrite .pf0 0 24 0 0).wf = false ∧ (Instr.registerWrite .pf0 0 64 0 0).wf = true ∧
      (Instr.badAccessRead .pf0 0 12).wf = false ∧ (Instr.badAccessRead .pf0 0 8).wf = true := by decide +kernel

theorem test_wf_recipe :
    (Instr.headerStage 0 (some { wHdr with recipeId := [1, 2, 3, 4] }) none 0).wf = true ∧
      (Instr.headerStage 0 (some { wHdr with recipeId := [1, 2, 3, 4], secVer := 64 }) none 0).wf = false ∧
      (Instr.headerStage 0 none (some { wHdr with recipeId := [1] }) 0).wf = false ∧
      (Instr.slotVerify { readOk := true, sigMagic := 0, keyHash := 0, sigOk := true
                          dir := [{ type := 65536, critical := true, offset := 0, length := 0 }] } 0).wf = false ∧
      (Instr.efeskVerify [{ sectionType := 0x10, magic := 0, kind := 1, version := 0, minRev := 0, secVer := 64, sigOk := true
                            payloadHash := 0 }] 0).wf = false ∧
      (Instr.configStage [(2 ^ 32, 0)] none 0).wf = false ∧
      (Instr.configStage [] (some { offset := 40000, leapAt := 0, pending := false, delete := false }) 0).wf = false := by
  decide +kernel

theorem test_wf_port :
    (Instr.frameIngress 0 wFrame 0 []).wf = true ∧ (Instr.frameIngress 0 { wFrame with len := 40 } 0 []).wf = false ∧
      (Instr.unicastRequest 0 { wFrame with tci := 65536 }).wf = false ∧
      (Instr.unicastCancel 0 { wFrame with lane := 8 }).wf = false ∧
      (Instr.clientMessage 0 { wFrame with dport := 65536 }).wf = false := by decide +kernel

theorem test_wf_lists :
    (Instr.linkUp 0 ⟨0, 0, true, List.replicate 9 0, 0⟩).wf = false ∧ (Instr.calTrack 0 0 0 (List.replicate 9 0)).wf = false ∧
      (Instr.hostTxDescriptor 0 ⟨64, 65536, true, []⟩).wf = false ∧ (Instr.hostRxPost 0 0 [(0, 65536)]).wf = false ∧
      (Instr.ntskeRequest 0 wHello true [(32768, false, [])] []).wf = false ∧ (Instr.ntskeRequest 0 wHello true [(32767, true, [])] []).wf = true ∧
      (Instr.navUnit 0 false true (.ephemeris 3 3 0 0)).wf = false ∧
      (Instr.gnssEpoch (List.replicate 65 ⟨0, 0, 0, 0, 0, 0, 0, 0, 0, 0⟩) [] 0).wf = false ∧
      (Instr.burstWindow (List.replicate 65 (0, true))).wf = false := by decide +kernel

/-! ## Decoding -/

/-- The opcode table gives no row any bits, so no word spells a command. -/
theorem test_decode : decodeTableWord 32 0 = none ∧ (State.reset.withFetchWord 32 0) = State.reset := by decide +kernel

/-! ## Time -/

/-- 01, the example at R17: DT 1,780,000,000 with OFFSET 37 s is U = 1,779,999,963, N = 3,988,988,763. -/
theorem test_utc :
    ({ offset := 37 } : TimeView).utcSec 1780000000 = 1779999963 ∧
      ({ offset := 37 } : TimeView).ntpStamp 0 (1780000000 * stSec) / 2 ^ 32 = 3988988763 := by decide +kernel

/-- 01, the example at R24: the inserted second repeats 23:59:59 in a service's encoding, and U is 1,798,761,600 at
LEAP_AT. -/
theorem test_leap_second :
    let v : TimeView := { offset := 37, leap := some (1798761638, false) }
    v.utcSec 1798761636 = 1798761599 ∧ v.utcSec 1798761637 = 1798761599 ∧ v.utcSec 1798761638 = 1798761600 := by decide +kernel

/-- 05, the example at R170: halfway through the smear a smeared class reads half a second less, with LI 0; an unsmeared
class reads the plain time with LI 1. -/
theorem test_smear :
    let v : TimeView := { offset := 37, leap := some (1798761638, false)
                          smear := some { leapAt := 1798761638, delete := false, start := 1798675238 * stSec, window := 86400 * stSec
                                          classes := 8 } }
    let t := 1798718438 * stSec
    v.ntpStamp 3 t = 4007707200 * 2 ^ 32 + 0x80000000 ∧ v.smearing 3 t = true ∧
      v.ntpStamp 2 t = 4007707201 * 2 ^ 32 ∧ v.smearing 2 t = false ∧ v.li 86400 t = 1 := by decide +kernel

/-- 01, the example at R46: DT is seeded half a second after 1,780,000,000, and TSC_RTC_UNC reads 1,000,031 µs. -/
theorem test_rtc_seed :
    let s := { State.reset with
      vbat := { State.reset.vbat with rtcValid := true, rtcSec := 1780000000, rtcSub := 16384, lastAlign := 1779990000 } }
    let t := s.dtLoad 1700000000
    t.time.dt = secUnit * 1780000000 + secUnit / 2 ∧ t.time.st = .rtcSeeded ∧ t.rd Reg.TSC_RTC_UNC = 1000031 := by decide +kernel

/-- 05, the example at R166: root dispersion of the four rows of the table. -/
theorem test_root_dispersion :
    let v (e : Nat) : TimeView := { ts := .hold, eHold := e }
    rootDisp (v 50) 500 0 = 1 ∧ rootDisp (v 416498) 500 0 = 0x1C ∧ rootDisp (v 1000000) 500 0 = 0x42 ∧
      rootDisp {} 500 0 = 0x100000 := by decide +kernel

/-- 05, the example at R166: e_hold = 50 + 0.05 t + 5 × 10⁻⁷ t² ns, which passes 1,000,000 ns at 1,365,062 s. -/
theorem test_ehold :
    let g : Seg := { kind := .holdover, start := 0, ePrev := 0, xi0 := 50 * 2 ^ 32, a := 50000, b := 1000, maxE := 0 }
    g.eHold (16332 * stSec) = 1000 ∧ g.eHold (864000 * stSec) = 416498 ∧ g.eHold (1365061 * stSec) ≤ 1000000 ∧ 1000000 < g.eHold (1365062 * stSec) := by
  decide +kernel

/-! ## Ports and cells -/

/-- 02, the example at R61: on lane 2 the stamp lies 61,325 + 350 + 1,200 ps before the capture. -/
theorem test_ingress_stamp :
    let p : PortSt := { calRx := 61325, skew := [0, 0, 350], asymRx := [⟨0, 1200⟩] }
    p.ingressStamp (stSec * 1000 + 412118375 * 65536000) 2 = stSec + 412118312 * 65536 + 8192 := by decide +kernel

/-- 04, the example at R145: S_in + D = .250000620, and the grid point at .250000620 + 576 ps is T. -/
theorem test_grid_point :
    let s := (wAct wRun (Reg.PRT_MODE 3) 0x24).updPort 3 (fun p => { p with
      gridStep := gridStepOf 4, gridPhase := stSec * 1000 + 250000619 * 65536000 + 936 * 65536 })
    s.t0Of { wReq with port := 3, sIn := stSec + 250000100 * 65536 } = stSec + 250000620 * 65536 + 37749 := by
  decide +kernel

/-- 02, the mode table, and R137: 100GBASE-R4 with RS-FEC has 96 CCLK and 58 ns, and D of plain NTP is 520 ns. -/
theorem test_mode_100g : ingressCclk 4 2 = 96 ∧ releaseNs 4 2 = 58 ∧ dDefault 4 2 0 = 520 ∧ releaseNs 7 3 = 122 := by
  decide +kernel

/-- R103, R111: the plain NTP and NTS costs. -/
theorem test_costs :
    pathCommit .plain = 128 ∧ pathOccupancy .plain = 160 ∧ pathRecompose .plain = 40 ∧ pathCommit .nts = 680 := by decide +kernel

/-- 03, the example at R113: the neighbours of K13, and 13 clusters within two hops. -/
theorem test_torus :
    neighbours 13 = [14, 5, 12, 21] ∧
      [13, 14, 12, 21, 5, 15, 11, 29, 25, 22, 20, 6, 4].all (within 2 [13]).contains = true ∧ (within 2 [13]).length = 13 := by
  decide +kernel

/-- R122, R137: of two rules that match an address the longer prefix applies, and of equal prefixes the lower index. -/
theorem test_rule_prefix :
    let a : BitVec 128 := 0xFFFFC0000201
    let put (s : State) (i len : Nat) : State :=
      wAct (wAct (wAct s (ruleKey i 2) 0xFFFF0000) (ruleKey i 3) 0x010200C0) (ruleKey i 4) (BitVec.ofNat 32 (0x800 + len))
    let s := put (put (put wRun 7 96) 4 128) 9 128
    ruleFor s.active a = 4 := by decide +kernel

/-! ## NTP, NTS and Roughtime -/

/-- 05, the example at R178: 4 s refill 128 units at RATE 32 and reset KISS; a further 4 s make 256. -/
theorem test_token_bucket :
    let e : CltEntry := { addr := 1, rule := 0, epoch := false, tokens := 0, kiss := 1, lastKiss := 1, lastSeen := 100, count := 6 }
    (e.touch 104 32 4).tokens = 128 ∧ (e.touch 104 32 4).kiss = 0 ∧ ((e.touch 104 32 4).touch 108 32 4).tokens = 256 ∧
      (e.touch 100 32 4).kiss = 1 := by decide +kernel

/-- 06, the example at R207: with WINDOW 1,000 µs and STAGGER K07 closes at NS = 218,750 and 1,218,750, and at the second
boundary. -/
theorem test_stagger :
    let s := wAct (wAct wRun Reg.SRV_RT_WINDOW 1000) Reg.SRV_RT_CTRL 4
    s.nextClose 7 (5 * stSec) = 5 * stSec + 218750 * 65536 ∧
      s.nextClose 7 (5 * stSec + 218750 * 65536) = 5 * stSec + 1218750 * 65536 ∧
      s.nextClose 7 (5 * stSec + 999218750 * 65536) = 6 * stSec := by decide +kernel

/-- 06, the example at R216: MIDP and RADI of the carafe sealed at .000219850, and its tree's depth. -/
theorem test_midpoint :
    let v : TimeView := { ts := .hold, offset := 37, eHold := 2350 }
    let s := wAct wRun Reg.SRV_RT_RADI_BASE 1000
    s.midpAt v (1780000000 * stSec + 219850 * 65536) = 0x00EF041120B24D9B ∧ s.radiAt v (1780000000 * stSec) = 4 ∧
      treeDepth 1500 = 11 := by decide +kernel

/-! ## The public-key engine -/

/-- R266–R268 and the example at R283: cycle counts with all buffers on-chip. -/
theorem test_pke_cycles :
    let job (p size len arg : Nat) : PkeJob := ⟨[BitVec.ofNat 32 p, BitVec.ofNat 32 size, 0, 0, BitVec.ofNat 32 len, 0, 0, BitVec.ofNat 32 arg],
      .core 0, 0, none, none⟩
    (job 0x31 256 32 0).cycles {} = 72000 ∧ (job 0x39 256 100 0).cycles {} = 59880 ∧
      (job 0x10 2048 256 0).cycles { size := 2048, pub := List.replicate 256 1 ++ [0, 1, 0, 1] } = 24032 := by decide +kernel

/-! ## References, clock core and GNSS -/

/-- 10, the example at R334: |r| = 300 ns falls by 7.5 ns a second, so 7.5 ps a millisecond. -/
theorem test_pull :
    ((wAct wRun Reg.CLK_SLOPE 75).updD (fun d => { d with state := .pull, ref := some 3, r := 300 * 65536 })).pullFall.clk.d.r =
      300 * 65536 - 491 := by decide +kernel

/-- 11, the example at R391: τ_IF = 208,733 ps. -/
theorem test_tau_if :
    (wAct (wAct wRun Reg.GNS_ANT_DELAY 222600) Reg.GNS_IFB_DELAY 11000).tauIf = 208733 := by decide +kernel

/-- 11, the example at R392: the edge 171 ps past 3 ns is the nearest, and q = +260 ps. -/
theorem test_raw_pps :
    let d := secUnit * 101 + (3171 * nsUnit) / 1000
    let s := { wRun with time := { wRun.time with dt := d, dtPrev := d } }
    s.nearEdge (101 * psSec + 3431) = (0, 260) := by decide +kernel

/-! ## Cores, slots and events -/

/-- What a command leaves. -/
def wDo (i : Instr) (s : State) : State := match exec i s with
  | .next t => t
  | _ => s

/-- 13, the example at R462: PF0 releases SEM10, SC3 takes it and reads 5, and PF1 reads 0x8000_0005. -/
theorem test_semaphore :
    let s := wDo (.semRelease 10 .pf0) (wRun.updSem 10 (fun _ => Master.pf0.ident))
    let t := wDo (.semAcquire 10 .sc3) s
    s.sem 10 = 0 ∧ t.bus.data = [5] ∧ t.sem 10 = 5 ∧ (wDo (.semAcquire 10 .pf1) t).bus.data = [0x80000005] := by decide +kernel

/-- 01, the example after R39: CS130 fires one-shot: FIRED, bit 2 of word 4 of the fire map, EV008, and no longer armed. -/
theorem test_slot_event :
    let s := (wArm wRun 130 (101 * stSec)).wr (Reg.TSC_CS_CTRL 130) 0x104
    let t := wDo (.compareSlotFire 130) s
    t.rd (Reg.TSC_CS_FIRE_MAP 4) = 4 ∧ t.evSet 8 = true ∧ (t.slot 130).armed = false := by decide +kernel

/-- R489, R493: a masked bit shows nothing; a forced event sets its bit. -/
theorem test_event_force :
    (wDo (.evtForce .kc 8) wRun).evSet 8 = true ∧ (wDo (.evtForce .kc 8) wRun).evShown 8 = false ∧
      (wDo (.evtStatClear .kc 0 0x100) (wDo (.evtForce .kc 8) wRun)).evSet 8 = false := by decide +kernel

/-! ## The ball grid -/

/-- 16, R524: the example of a name, and where VBAT stands. -/
theorem test_ball_names : ballName 3 2 = "C2" ∧ signalAt 46 31 = some ("VBAT", 0) ∧ ballName 46 31 = "BH31" := by decide +kernel

/-- 16, R526: the number of signal balls, and rails of four neighbours. -/
theorem test_balls :
    (signalBalls.map (·.count)).sum = 329 ∧ railAt 5 10 = some .vddPcie ∧ railAt 43 34 = some .vddioT ∧ railAt 11 11 = some .vss ∧
      railAt 3 2 = none := by decide +kernel

/-! ## Standards that the manual names -/

/-- FIPS 180-4: SHA-256 of the three letters abc. -/
theorem test_sha256 :
    sha256 (ascii "abc") = beBytes 32 0xBA7816BF8F01CFEA414140DE5DAE2223B00361A396177A9CB410FF61F20015AD := by decide +kernel

/-- RFC 4493: AES-CMAC of sixteen bytes. -/
theorem test_cmac :
    aesCmac 0x2B7E151628AED2A6ABF7158809CF4F3C (beBytes 16 0x6BC1BEE22E409F96E93D7E117393172A) =
      beBytes 16 0x070A16B46B4D4144F79BDD9DD04A287C := by decide +kernel

/-- RFC 5297 A.1: deterministic authenticated encryption under one header. -/
theorem test_siv :
    sivSeal (beBytes 32 0xFFFEFDFCFBFAF9F8F7F6F5F4F3F2F1F0F0F1F2F3F4F5F6F7F8F9FAFBFCFDFEFF) []
        (beBytes 24 0x101112131415161718191A1B1C1D1E1F2021222324252627) (beBytes 14 0x112233445566778899AABBCCDDEE) =
      (beBytes 16 0x85632D07C6E8F37F950ACD320A2ECC93, beBytes 14 0x40C02B9690C4DC04DAEF7F6AFE5C) := by decide +kernel

end
end

section
/-!
PROOFS. What `exec` keeps, for every command at once: that it answers a next state, the parts that it may touch (`touched`) and
the invariant `Keeps`. The lemmas about each meaning stand in `Laws/Keeps`.
-/

namespace Sys2Proof.Machine

/-! ### Completion -/

/-- A meaning answers a next state. -/
def Completes (r : Res) : Prop := ∃ t, r = .next t

theorem completes_next (t : State) : Completes (.next t) := ⟨t, rfl⟩

theorem completes_ite {c : Prop} [Decidable c] {a b : Res} (h : Completes a) (k : Completes b) : Completes (if c then a else b) := by
  split <;> assumption

/-- Each meaning is a tree of choices whose leaves are next states: none ends in a fault or a refusal. -/
theorem exec_completes (i : Instr) (s : State) : Completes (exec i s) := by
  cases i
  case powerGood | powerFail | resetNAssert | resetNRelease | reload | otpRaiseSecVer | otpRevoke | commitNow | commitSchedule |
      commitCancel | configRevert | commit | leapHostInsert | leapHostDelete | leapHostCancel | csArm | csDisarm | compareSlotFire |
      firmwareSlotFire | linkDown | calRetry | esmcEventSend | hostTxProduce | hostRxPost | cellDispatch | reseedRequest | ruleRead |
      ruleWrite | symKeyWrite | symKeyDisable | symKeyStat | unicastRequest | unicastCancel | grantRead | ptpKeyWrite | ptpKeyDisable |
      ptpKeyStat | keySlotReadAttr | clearWtr | oscLoss | dpll0StepCmd | histRead | gnssResurvey | gnssCold | chRead | timCal |
      timDisarm | timArmAt | timGateFire | evlArm | evlDisarm | evlArmAll | evlDisarmAll | mbxEpReset | mbxOpen | coreStart | fwPing |
      fwPkeJob | fwPkeAbort | fwKeyImport | fwKeyDelete | fwBufWrite | fwBufRead | fwBacklogSend | evtStatClear | evtMaskWrite |
      evtForce | msixUnmask | cntLoWrite | cntSnap | cntClearAll | patrolScrub | vbatRestore =>
    exact completes_next _
  all_goals
    dsimp only [exec, execRegisterWrite, execPerstN, execPcieFunctionReset, execVbatLow, execApll0Lock, execHeaderStage, execSlotVerify,
      execEfeskVerify, execLoadStage, execConfigStage, execKeysStage, execInitialCommit, execOtpFuseDone, execBypassOpen,
      execBypassOpenForced, execRetiringRelease, execRetiringLimit, execRwlEffect, execDtCapture, execTimePortLoad, execDtSecondBoundary,
      execLeapFreeze, execLeapApply, execSignalDetect, execRxSweepDone, execPcsLinkUp, execLinkUp, execCalTrack, execFrameIngress,
      execFcsVerdict, execEsmcPduReceived, execEsmcTimeout, execEsmcInfoSend, execHostTxDescriptor, execTsqPop, execCellSquash,
      execCellCommit, execCalendarArrival, execFrameReturn, execRecompose, execStealRequest, execStealArrive, execHotTrip,
      execSprayIntervalEnd, execEpochSweepStart, execEpochSweepDone, execCltWindowRead, execCltFlush, execGridMeasure, execFramePour,
      execBeRelease, execBeReserve, execEholdUpdate, execKeyTableEffect, execNtsKeyInstall, execNtsRotate, execNtsRotateRetry,
      execNtsKeyWipe, execNtskeConnect, execNtskeRequest, execNtskeTimeout, execBroadcastSend, execCarafeClose, execCarafeSeal,
      execCarafeSealLimit, execRootComplete, execSignDispatch, execCarafeSigned, execCarafeSignStale, execRtReplyEmit, execDeleFirst,
      execDelePrepare, execDeleSwitch, execDeleRetry, execDeleExpire, execSyncMcFire, execSyncUcTick, execSyncUcItemIssue,
      execAnnounceSend, execForeignAnnounce, execGrantExpire, execGrantEffect, execClientMessage, execClientDelayReq,
      execClientGrantRenew, execClientRetry, execClientAnnounceTimeout, execClientSyncTimeout, execPkeJobGo, execPkeJobStart,
      execPkeJobComplete, execPkeWipeDone, execPkeCplPop, execPkeAbort, execPkeDmaError, execPkeJobTimeout, execKeySlotDelete,
      execKeySlotReadPub, execKeySlotExpire, execRefEdge, execPulseMissing, execActivityWindow, execFreqCheck, execTodFrame,
      execWtrExpire, execXcheck, execSelectorEvaluate, execApllUnlock, execDpll0Sample, execPpsPulse, execTodoutFrame, execCascPulse,
      execCascFrame, execSteerWrite, execSteerSettle, execSteerBusTimeout, execTempRead, execGsClkFail, execSampleOkRestore,
      execAcqDetect, execTrackerLock, execTrackerBRetry, execTrackerDrop, execSidePeakMove, execReacqTimeout, execNavUnit, execGnssEpoch,
      execExclusionExpire, execRefreshEnd, execBurstWindow, execRawPps, execTmsgPublish, execTmsgCapture, execTiminEdge, execTimCalDone,
      execTimRecal, execTimArm, execTimWindowEnd, execTimGateEnd, execTimResPop, execEvlPulse, execEvlTrailingEdge, execEvlLevel,
      execMbxTx, execMbxRx, execMbxDbRing, execMbxDbClear, execMbxAckWaitStart, execMbxAckWaitCancel, execMbxAckTimeout, execSemAcquire,
      execSemRelease, execSemForce, execWdtWarn, execWdtExpire, execCntLoRead, execCntHiWrite, execCntSnapshot, execCntLimit,
      execCntOverflow, execCellHang, execClusterStall, execPartitionRebindDone, execFatalFault, execBadAccessRead, execBackupCounterTick,
      execKeySlotNotBefore, execWatchdogRestart, execDpllxLock]
    repeat' with_reducible first
      | apply completes_next
      | apply completes_ite
      | split

/-! ### Sets of parts -/

/-- The number that stands for a list of parts in `Touch`. -/
def partMask : List Piece → Nat
  | [] => 0
  | p :: ps => 2 ^ p.num ||| partMask ps

theorem allParts_num (p : Piece) : allParts[p.num]? = some p := by cases p <;> rfl

theorem mem_allParts (p : Piece) : p ∈ allParts := List.mem_of_getElem? (allParts_num p)

theorem Piece.num_injective : Function.Injective Piece.num := fun p q h =>
  Option.some.inj ((allParts_num p).symm.trans ((congrArg (allParts[·]?) h).trans (allParts_num q)))

theorem testBit_partMask (ps : List Piece) (p : Piece) : (partMask ps).testBit p.num = decide (p ∈ ps) := by
  induction ps with
  | nil => simp [partMask]
  | cons q ps ih =>
    have hq : (q.num = p.num) = (p = q) := propext ⟨fun h => (Piece.num_injective h).symm, fun h => h ▸ rfl⟩
    simp [partMask, Nat.testBit_or, Nat.testBit_two_pow, ih, hq]

/-- What touches only the parts of a list leaves every other part. -/
theorem Touch.only {ps : List Piece} {s t : State} (h : Touch (partMask ps) s t) : Only ps s t :=
  fun p hp => h.same p (by simp [testBit_partMask, hp])

/-! ### Every command -/

/-- A command that does not touch all parts touches no part beyond its row of `touched`. -/
theorem exec_touch (i : Instr) (s : State) (h : touched i ≠ allParts) : TouchR (partMask (touched i)) s (exec i s) := by
  cases i with dsimp only [touched]
  | powerGood => exact execPowerGood_touch (by decide) _ _ (.refl ..)
  | resetNRelease => exact execResetNRelease_touch (by decide) _ _ (.refl ..)
  | perstN => exact execPerstN_touch (by decide) _ (.refl ..)
  | pcieFunctionReset => exact execPcieFunctionReset_touch (by decide) _ _ _ (.refl ..)
  | vbatLow => exact execVbatLow_touch (by decide) _ (.refl ..)
  | apll0Lock => exact execApll0Lock_touch (by decide) _ _ (.refl ..)
  | headerStage => exact execHeaderStage_touch (by decide) _ _ _ _ _ (.refl ..)
  | initialCommit => exact execInitialCommit_touch (by decide) _ (.refl ..)
  | otpRaiseSecVer => exact execOtpRaiseSecVer_touch (by decide) _ _ (.refl ..)
  | otpRevoke => exact execOtpRevoke_touch (by decide) _ _ _ (.refl ..)
  | otpFuseDone => exact execOtpFuseDone_touch (by decide) _ (.refl ..)
  | bypassOpen => exact execBypassOpen_touch (by decide) _ (.refl ..)
  | bypassOpenForced => exact execBypassOpenForced_touch (by decide) _ (.refl ..)
  | commitNow => exact execCommitNow_touch (by decide) _ (.refl ..)
  | commitSchedule => exact execCommitSchedule_touch (by decide) _ (.refl ..)
  | commitCancel => exact execCommitCancel_touch (by decide) _ (.refl ..)
  | configRevert => exact execConfigRevert_touch (by decide) _ (.refl ..)
  | commit => exact execCommit_touch (by decide) _ (.refl ..)
  | retiringRelease => exact execRetiringRelease_touch (by decide) _ (.refl ..)
  | retiringLimit => exact execRetiringLimit_touch (by decide) _ (.refl ..)
  | rwlEffect => exact execRwlEffect_touch (by decide) _ (.refl ..)
  | dtCapture => exact execDtCapture_touch (by decide) _ _ _ _ (.refl ..)
  | timePortLoad => exact execTimePortLoad_touch (by decide) _ _ (.refl ..)
  | dtSecondBoundary => exact execDtSecondBoundary_touch (by decide) _ (.refl ..)
  | leapHostInsert => exact execLeapHostInsert_touch (by decide) _ (.refl ..)
  | leapHostDelete => exact execLeapHostDelete_touch (by decide) _ (.refl ..)
  | leapHostCancel => exact execLeapHostCancel_touch (by decide) _ (.refl ..)
  | leapFreeze => exact execLeapFreeze_touch (by decide) _ (.refl ..)
  | leapApply => exact execLeapApply_touch (by decide) _ (.refl ..)
  | csArm => exact execCsArm_touch (by decide) _ _ _ _ (.refl ..)
  | csDisarm => exact execCsDisarm_touch (by decide) _ _ _ _ (.refl ..)
  | compareSlotFire => exact execCompareSlotFire_touch (by decide) _ _ (.refl ..)
  | firmwareSlotFire => exact execFirmwareSlotFire_touch (by decide) _ _ (.refl ..)
  | signalDetect => exact execSignalDetect_touch (by decide) _ _ _ (.refl ..)
  | rxSweepDone => exact execRxSweepDone_touch (by decide) _ _ (.refl ..)
  | pcsLinkUp => exact execPcsLinkUp_touch (by decide) _ _ (.refl ..)
  | linkUp => exact execLinkUp_touch (by decide) _ _ _ (.refl ..)
  | linkDown => exact execLinkDown_touch (by decide) _ _ _ (.refl ..)
  | calRetry => exact execCalRetry_touch (by decide) _ _ (.refl ..)
  | calTrack => exact execCalTrack_touch (by decide) _ _ _ _ _ (.refl ..)
  | frameIngress => exact execFrameIngress_touch (by decide) _ _ _ _ _ (.refl ..)
  | fcsVerdict => exact execFcsVerdict_touch (by decide) _ _ (.refl ..)
  | esmcPduReceived => exact execEsmcPduReceived_touch (by decide) _ _ _ _ (.refl ..)
  | esmcTimeout => exact execEsmcTimeout_touch (by decide) _ _ (.refl ..)
  | esmcInfoSend => exact execEsmcInfoSend_touch (by decide) _ (.refl ..)
  | esmcEventSend => exact execEsmcEventSend_touch (by decide) _ (.refl ..)
  | hostTxProduce => exact execHostTxProduce_touch (by decide) _ _ _ (.refl ..)
  | hostTxDescriptor => exact execHostTxDescriptor_touch (by decide) _ _ _ (.refl ..)
  | hostRxPost => exact execHostRxPost_touch (by decide) _ _ _ _ (.refl ..)
  | tsqPop => exact execTsqPop_touch (by decide) _ _ (.refl ..)
  | cellDispatch => exact execCellDispatch_touch (by decide) _ _ (.refl ..)
  | cellSquash => exact execCellSquash_touch (by decide) _ _ _ (.refl ..)
  | cellCommit => exact execCellCommit_touch (by decide) _ _ _ (.refl ..)
  | calendarArrival => exact execCalendarArrival_touch (by decide) _ _ (.refl ..)
  | frameReturn => exact execFrameReturn_touch (by decide) _ _ (.refl ..)
  | recompose => exact execRecompose_touch (by decide) _ _ (.refl ..)
  | stealRequest => exact execStealRequest_touch (by decide) _ _ _ (.refl ..)
  | stealArrive => exact execStealArrive_touch (by decide) _ _ _ (.refl ..)
  | hotTrip => exact execHotTrip_touch (by decide) _ _ (.refl ..)
  | sprayIntervalEnd => exact execSprayIntervalEnd_touch (by decide) _ (.refl ..)
  | reseedRequest => exact execReseedRequest_touch (by decide) _ (.refl ..)
  | epochSweepStart => exact execEpochSweepStart_touch (by decide) _ (.refl ..)
  | epochSweepDone => exact execEpochSweepDone_touch (by decide) _ (.refl ..)
  | cltWindowRead => exact execCltWindowRead_touch (by decide) _ (.refl ..)
  | cltFlush => exact execCltFlush_touch (by decide) _ (.refl ..)
  | gridMeasure => exact execGridMeasure_touch (by decide) _ _ _ _ _ _ (.refl ..)
  | framePour => exact execFramePour_touch (by decide) _ _ _ (.refl ..)
  | beRelease => exact execBeRelease_touch (by decide) _ _ _ (.refl ..)
  | beReserve => exact execBeReserve_touch (by decide) _ _ (.refl ..)
  | eholdUpdate => exact execEholdUpdate_touch (by decide) _ (.refl ..)
  | ruleRead => exact execRuleRead_touch (by decide) _ _ (.refl ..)
  | ruleWrite => exact execRuleWrite_touch (by decide) _ (.refl ..)
  | symKeyWrite => exact execSymKeyWrite_touch (by decide) _ _ _ (.refl ..)
  | symKeyDisable => exact execSymKeyDisable_touch (by decide) _ _ _ (.refl ..)
  | symKeyStat => exact execSymKeyStat_touch (by decide) _ _ (.refl ..)
  | keyTableEffect => exact execKeyTableEffect_touch (by decide) _ (.refl ..)
  | ntsKeyInstall => exact execNtsKeyInstall_touch (by decide) _ _ (.refl ..)
  | ntsRotate => exact execNtsRotate_touch (by decide) _ (.refl ..)
  | ntsRotateRetry => exact execNtsRotateRetry_touch (by decide) _ (.refl ..)
  | ntsKeyWipe => exact execNtsKeyWipe_touch (by decide) _ (.refl ..)
  | ntskeConnect => exact execNtskeConnect_touch (by decide) _ _ _ (.refl ..)
  | ntskeRequest => exact execNtskeRequest_touch (by decide) _ _ _ _ _ _ (.refl ..)
  | ntskeTimeout => exact execNtskeTimeout_touch (by decide) _ (.refl ..)
  | broadcastSend => exact execBroadcastSend_touch (by decide) _ _ (.refl ..)
  | carafeClose => exact execCarafeClose_touch (by decide) _ _ (.refl ..)
  | carafeSeal => exact execCarafeSeal_touch (by decide) _ _ (.refl ..)
  | carafeSealLimit => exact execCarafeSealLimit_touch (by decide) _ _ (.refl ..)
  | rootComplete => exact execRootComplete_touch (by decide) _ _ (.refl ..)
  | signDispatch => exact execSignDispatch_touch (by decide) _ (.refl ..)
  | carafeSigned => exact execCarafeSigned_touch (by decide) _ _ (.refl ..)
  | carafeSignStale => exact execCarafeSignStale_touch (by decide) _ (.refl ..)
  | rtReplyEmit => exact execRtReplyEmit_touch (by decide) _ _ (.refl ..)
  | deleFirst => exact execDeleFirst_touch (by decide) _ (.refl ..)
  | delePrepare => exact execDelePrepare_touch (by decide) _ (.refl ..)
  | deleSwitch => exact execDeleSwitch_touch (by decide) _ (.refl ..)
  | deleRetry => exact execDeleRetry_touch (by decide) _ (.refl ..)
  | deleExpire => exact execDeleExpire_touch (by decide) _ (.refl ..)
  | syncMcFire => exact execSyncMcFire_touch (by decide) _ _ (.refl ..)
  | syncUcTick => exact execSyncUcTick_touch (by decide) _ _ (.refl ..)
  | syncUcItemIssue => exact execSyncUcItemIssue_touch (by decide) _ _ (.refl ..)
  | announceSend => exact execAnnounceSend_touch (by decide) _ _ _ (.refl ..)
  | foreignAnnounce => exact execForeignAnnounce_touch (by decide) _ _ _ (.refl ..)
  | unicastRequest => exact execUnicastRequest_touch (by decide) _ _ _ (.refl ..)
  | unicastCancel => exact execUnicastCancel_touch (by decide) _ _ _ (.refl ..)
  | grantExpire => exact execGrantExpire_touch (by decide) _ _ _ (.refl ..)
  | grantEffect => exact execGrantEffect_touch (by decide) _ (.refl ..)
  | grantRead => exact execGrantRead_touch (by decide) _ (.refl ..)
  | ptpKeyWrite => exact execPtpKeyWrite_touch (by decide) _ _ _ (.refl ..)
  | ptpKeyDisable => exact execPtpKeyDisable_touch (by decide) _ _ _ (.refl ..)
  | ptpKeyStat => exact execPtpKeyStat_touch (by decide) _ _ (.refl ..)
  | clientMessage => exact execClientMessage_touch (by decide) _ _ _ (.refl ..)
  | clientDelayReq => exact execClientDelayReq_touch (by decide) _ _ (.refl ..)
  | clientGrantRenew => exact execClientGrantRenew_touch (by decide) _ _ _ _ (.refl ..)
  | clientRetry => exact execClientRetry_touch (by decide) _ _ (.refl ..)
  | clientAnnounceTimeout => exact execClientAnnounceTimeout_touch (by decide) _ _ (.refl ..)
  | clientSyncTimeout => exact execClientSyncTimeout_touch (by decide) _ _ (.refl ..)
  | pkeJobGo => exact execPkeJobGo_touch (by decide) _ _ _ (.refl ..)
  | pkeJobStart => exact execPkeJobStart_touch (by decide) _ _ _ _ _ (.refl ..)
  | pkeJobComplete => exact execPkeJobComplete_touch (by decide) _ _ _ (.refl ..)
  | pkeWipeDone => exact execPkeWipeDone_touch (by decide) _ _ (.refl ..)
  | pkeCplPop => exact execPkeCplPop_touch (by decide) _ _ _ (.refl ..)
  | pkeAbort => exact execPkeAbort_touch (by decide) _ _ _ _ _ _ (.refl ..)
  | pkeDmaError => exact execPkeDmaError_touch (by decide) _ _ _ (.refl ..)
  | pkeJobTimeout => exact execPkeJobTimeout_touch (by decide) _ _ (.refl ..)
  | keySlotReadAttr => exact execKeySlotReadAttr_touch (by decide) _ _ (.refl ..)
  | keySlotDelete => exact execKeySlotDelete_touch (by decide) _ _ (.refl ..)
  | keySlotReadPub => exact execKeySlotReadPub_touch (by decide) _ _ (.refl ..)
  | keySlotExpire => exact execKeySlotExpire_touch (by decide) _ _ (.refl ..)
  | refEdge => exact execRefEdge_touch (by decide) _ _ _ _ (.refl ..)
  | pulseMissing => exact execPulseMissing_touch (by decide) _ _ (.refl ..)
  | activityWindow => exact execActivityWindow_touch (by decide) _ _ _ (.refl ..)
  | freqCheck => exact execFreqCheck_touch (by decide) _ _ _ (.refl ..)
  | todFrame => exact execTodFrame_touch (by decide) _ _ _ (.refl ..)
  | wtrExpire => exact execWtrExpire_touch (by decide) _ _ (.refl ..)
  | clearWtr => exact execClearWtr_touch (by decide) _ _ _ (.refl ..)
  | xcheck => exact execXcheck_touch (by decide) _ (.refl ..)
  | selectorEvaluate => exact execSelectorEvaluate_touch (by decide) _ (.refl ..)
  | oscLoss => exact execOscLoss_touch (by decide) _ (.refl ..)
  | apllUnlock => exact execApllUnlock_touch (by decide) _ _ _ (.refl ..)
  | dpll0Sample => exact execDpll0Sample_touch (by decide) _ _ (.refl ..)
  | dpll0StepCmd => exact execDpll0StepCmd_touch (by decide) _ _ (.refl ..)
  | histRead => exact execHistRead_touch (by decide) _ _ (.refl ..)
  | ppsPulse => exact execPpsPulse_touch (by decide) _ _ (.refl ..)
  | todoutFrame => exact execTodoutFrame_touch (by decide) _ (.refl ..)
  | cascPulse => exact execCascPulse_touch (by decide) _ (.refl ..)
  | cascFrame => exact execCascFrame_touch (by decide) _ (.refl ..)
  | steerWrite => exact execSteerWrite_touch (by decide) _ (.refl ..)
  | steerSettle => exact execSteerSettle_touch (by decide) _ (.refl ..)
  | steerBusTimeout => exact execSteerBusTimeout_touch (by decide) _ (.refl ..)
  | tempRead => exact execTempRead_touch (by decide) _ _ (.refl ..)
  | gsClkFail => exact execGsClkFail_touch (by decide) _ (.refl ..)
  | sampleOkRestore => exact execSampleOkRestore_touch (by decide) _ (.refl ..)
  | acqDetect => exact execAcqDetect_touch (by decide) _ _ _ _ _ _ (.refl ..)
  | trackerLock => exact execTrackerLock_touch (by decide) _ _ _ _ (.refl ..)
  | trackerBRetry => exact execTrackerBRetry_touch (by decide) _ _ (.refl ..)
  | trackerDrop => exact execTrackerDrop_touch (by decide) _ _ _ (.refl ..)
  | sidePeakMove => exact execSidePeakMove_touch (by decide) _ _ (.refl ..)
  | reacqTimeout => exact execReacqTimeout_touch (by decide) _ _ _ (.refl ..)
  | navUnit => exact execNavUnit_touch (by decide) _ _ _ _ _ (.refl ..)
  | gnssEpoch => exact execGnssEpoch_touch (by decide) _ _ _ _ (.refl ..)
  | exclusionExpire => exact execExclusionExpire_touch (by decide) _ _ (.refl ..)
  | refreshEnd => exact execRefreshEnd_touch (by decide) _ (.refl ..)
  | burstWindow => exact execBurstWindow_touch (by decide) _ _ (.refl ..)
  | rawPps => exact execRawPps_touch (by decide) _ (.refl ..)
  | tmsgPublish => exact execTmsgPublish_touch (by decide) _ (.refl ..)
  | tmsgCapture => exact execTmsgCapture_touch (by decide) _ _ (.refl ..)
  | gnssResurvey => exact execGnssResurvey_touch (by decide) _ _ (.refl ..)
  | gnssCold => exact execGnssCold_touch (by decide) _ _ (.refl ..)
  | chRead => exact execChRead_touch (by decide) _ (.refl ..)
  | timinEdge => exact execTiminEdge_touch (by decide) _ _ _ _ _ (.refl ..)
  | timCal => exact execTimCal_touch (by decide) _ (.refl ..)
  | timCalDone => exact execTimCalDone_touch (by decide) _ _ (.refl ..)
  | timRecal => exact execTimRecal_touch (by decide) _ _ (.refl ..)
  | timArm => exact execTimArm_touch (by decide) _ _ (.refl ..)
  | timDisarm => exact execTimDisarm_touch (by decide) _ _ (.refl ..)
  | timArmAt => exact execTimArmAt_touch (by decide) _ _ (.refl ..)
  | timGateFire => exact execTimGateFire_touch (by decide) _ _ (.refl ..)
  | timWindowEnd => exact execTimWindowEnd_touch (by decide) _ _ (.refl ..)
  | timGateEnd => exact execTimGateEnd_touch (by decide) _ _ (.refl ..)
  | timResPop => exact execTimResPop_touch (by decide) _ _ (.refl ..)
  | evlArm => exact execEvlArm_touch (by decide) _ _ (.refl ..)
  | evlDisarm => exact execEvlDisarm_touch (by decide) _ _ (.refl ..)
  | evlArmAll => exact execEvlArmAll_touch (by decide) _ _ (.refl ..)
  | evlDisarmAll => exact execEvlDisarmAll_touch (by decide) _ _ (.refl ..)
  | evlPulse => exact execEvlPulse_touch (by decide) _ _ (.refl ..)
  | evlTrailingEdge => exact execEvlTrailingEdge_touch (by decide) _ _ (.refl ..)
  | evlLevel => exact execEvlLevel_touch (by decide) _ _ (.refl ..)
  | mbxTx => exact execMbxTx_touch (by decide) _ _ _ _ (.refl ..)
  | mbxRx => exact execMbxRx_touch (by decide) _ _ _ (.refl ..)
  | mbxDbRing => exact execMbxDbRing_touch (by decide) _ _ _ _ (.refl ..)
  | mbxDbClear => exact execMbxDbClear_touch (by decide) _ _ _ _ (.refl ..)
  | mbxAckWaitStart => exact execMbxAckWaitStart_touch (by decide) _ _ _ (.refl ..)
  | mbxAckWaitCancel => exact execMbxAckWaitCancel_touch (by decide) _ _ _ (.refl ..)
  | mbxAckTimeout => exact execMbxAckTimeout_touch (by decide) _ _ (.refl ..)
  | mbxEpReset => exact execMbxEpReset_touch (by decide) _ _ (.refl ..)
  | mbxOpen => exact execMbxOpen_touch (by decide) _ _ (.refl ..)
  | semAcquire => exact execSemAcquire_touch (by decide) _ _ _ (.refl ..)
  | semRelease => exact execSemRelease_touch (by decide) _ _ _ (.refl ..)
  | semForce => exact execSemForce_touch (by decide) _ _ _ (.refl ..)
  | wdtWarn => exact execWdtWarn_touch (by decide) _ _ (.refl ..)
  | wdtExpire => exact execWdtExpire_touch (by decide) _ _ (.refl ..)
  | coreStart => exact execCoreStart_touch (by decide) _ _ (.refl ..)
  | fwPing => exact execFwPing_touch (by decide) _ _ (.refl ..)
  | fwPkeJob => exact execFwPkeJob_touch (by decide) _ _ (.refl ..)
  | fwPkeAbort => exact execFwPkeAbort_touch (by decide) _ _ _ (.refl ..)
  | fwKeyImport => exact execFwKeyImport_touch (by decide) _ _ _ (.refl ..)
  | fwKeyDelete => exact execFwKeyDelete_touch (by decide) _ _ (.refl ..)
  | fwBufWrite => exact execFwBufWrite_touch (by decide) _ _ (.refl ..)
  | fwBufRead => exact execFwBufRead_touch (by decide) _ _ (.refl ..)
  | fwBacklogSend => exact execFwBacklogSend_touch (by decide) _ _ (.refl ..)
  | evtStatClear => exact execEvtStatClear_touch (by decide) _ _ _ _ (.refl ..)
  | evtMaskWrite => exact execEvtMaskWrite_touch (by decide) _ _ _ _ (.refl ..)
  | evtForce => exact execEvtForce_touch (by decide) _ _ _ (.refl ..)
  | msixUnmask => exact execMsixUnmask_touch (by decide) _ _ _ _ _ (.refl ..)
  | cntLoRead => exact execCntLoRead_touch (by decide) _ _ _ _ (.refl ..)
  | cntLoWrite => exact execCntLoWrite_touch (by decide) _ _ _ _ (.refl ..)
  | cntHiWrite => exact execCntHiWrite_touch (by decide) _ _ _ _ (.refl ..)
  | cntSnap => exact execCntSnap_touch (by decide) _ (.refl ..)
  | cntClearAll => exact execCntClearAll_touch (by decide) _ (.refl ..)
  | cntSnapshot => exact execCntSnapshot_touch (by decide) _ (.refl ..)
  | cntLimit => exact execCntLimit_touch (by decide) _ _ (.refl ..)
  | cntOverflow => exact execCntOverflow_touch (by decide) _ _ (.refl ..)
  | patrolScrub => exact execPatrolScrub_touch (by decide) _ _ (.refl ..)
  | cellHang => exact execCellHang_touch (by decide) _ _ _ (.refl ..)
  | clusterStall => exact execClusterStall_touch (by decide) _ _ (.refl ..)
  | partitionRebindDone => exact execPartitionRebindDone_touch (by decide) _ _ (.refl ..)
  | fatalFault => exact execFatalFault_touch (by decide) _ (.refl ..)
  | badAccessRead => exact execBadAccessRead_touch (by decide) _ _ _ _ (.refl ..)
  | backupCounterTick => exact execBackupCounterTick_touch (by decide) _ (.refl ..)
  | vbatRestore => exact execVbatRestore_touch (by decide) _ (.refl ..)
  | keySlotNotBefore => exact execKeySlotNotBefore_touch (by decide) _ _ (.refl ..)
  | watchdogRestart => exact execWatchdogRestart_touch (by decide) _ _ (.refl ..)
  | dpllxLock => exact execDpllxLock_touch (by decide) _ _ (.refl ..)
  | _ => exact absurd rfl h

/-- What every command keeps. Where it touches neither a configuration set nor OTP nor the queue, that is all; each of the others
has its own lemma. -/
theorem exec_keeps (i : Instr) (s : State) : KeepsR s (exec i s) := by
  by_cases h : partMask (touched i) &&& coreParts = 0
  · have free : touched i ≠ allParts := fun e => absurd (e ▸ h) (by decide)
    exact TouchR.after (.refl s) (exec_touch i s free) h
  · cases i with dsimp only [touched] at h
    | registerWrite => exact execRegisterWrite_keeps _ _ _ _ _ _ (.refl s)
    | powerFail => exact execPowerFail_keeps _ (.refl s)
    | resetNAssert => exact execResetNAssert_keeps _ (.refl s)
    | slotVerify => exact execSlotVerify_keeps _ _ _ (.refl s)
    | efeskVerify => exact execEfeskVerify_keeps _ _ _ (.refl s)
    | loadStage => exact execLoadStage_keeps _ _ _ _ _ (.refl s)
    | configStage => exact execConfigStage_keeps _ _ _ _ (.refl s)
    | keysStage => exact execKeysStage_keeps _ _ _ (.refl s)
    | initialCommit => exact execInitialCommit_keeps _ (.refl s)
    | reload => exact execReload_keeps _ _ (.refl s)
    | otpRaiseSecVer => exact execOtpRaiseSecVer_keeps _ _ (.refl s)
    | otpRevoke => exact execOtpRevoke_keeps _ _ _ (.refl s)
    | otpFuseDone => exact execOtpFuseDone_keeps _ (.refl s)
    | commitNow => exact execCommitNow_keeps _ (.refl s)
    | commitSchedule => exact execCommitSchedule_keeps _ (.refl s)
    | commitCancel => exact execCommitCancel_keeps _ (.refl s)
    | configRevert => exact execConfigRevert_keeps _ (.refl s)
    | commit => exact execCommit_keeps _ (.refl s)
    | retiringRelease => exact execRetiringRelease_keeps _ (.refl s)
    | retiringLimit => exact execRetiringLimit_keeps _ (.refl s)
    | ruleRead => exact execRuleRead_keeps _ _ (.refl s)
    | ruleWrite => exact execRuleWrite_keeps _ (.refl s)
    | _ => exact absurd (by decide) h

end Sys2Proof.Machine
end

section
/-!
PROOFS. The statements about every command and every step.
-/

namespace Sys2Proof.Machine

/-- Settles O4: each meaning is a tree of choices with next states at its leaves, and what it touches is a row of `touched`. -/
theorem execCompletes : Obligations.ExecCompletes := by
  intro i s
  obtain ⟨t, ht⟩ := exec_completes i s
  exact ⟨t, ht, exec_keeps i s t ht⟩

/-- Settles O6: the lemma about each meaning bounds the parts it touches, and the list of all parts leaves none out. -/
theorem frames : Obligations.Frames := by
  intro i s t ht
  by_cases h : touched i = allParts
  · intro p hp
    exact absurd (h ▸ mem_allParts p) hp
  · exact (exec_touch i s h t ht).only

/-- Settles O1: by the two cases of the queue; the tick of an empty queue ends one tick on. -/
theorem stepRuns : Obligations.StepRuns := by
  constructor
  · intro c r s h
    simp only [step, h]
  · intro s h
    refine ⟨s.advTo (s.time.now + 1), by simp only [step, h], rfl, ?_⟩
    rw [State.advTo_now, Nat.max_eq_right (Nat.le_succ _)]

end Sys2Proof.Machine
end

section
/-!
PROOFS. Accesses of BAR0: what the answer of a shut gate, a refused write, an accepted write and an ordinary read leave.
-/

namespace Sys2Proof.Machine

/-! ### The bus register beside a raise -/

/-- The answer on the bus stands apart from what a raise changes. -/
theorem EvOnly.setBus {s t : State} (h : EvOnly s t) (b : BusSt) : EvOnly { s with bus := b } { t with bus := b } :=
  ⟨by rw [h.same], h.regs, h.sets, h.out⟩

theorem State.evSet_setBus (s : State) (b : BusSt) (e : Nat) : ({ s with bus := b } : State).evSet e = s.evSet e := rfl

/-- R467: an access that is not let in is answered, with EV000 but for PF1. -/
theorem State.gateAnswer_spec (s : State) (m : Master) (words : Nat) :
    (s.gateAnswer m words).bus = { data := if m = .spi then List.replicate words 0 else [], unsupported := m != .spi } ∧
      if m = .pf1 then s.gateAnswer m words = { s with bus := (s.gateAnswer m words).bus }
      else EvOnly { s with bus := (s.gateAnswer m words).bus } (s.gateAnswer m words) ∧ (s.gateAnswer m words).evSet 0 = true := by
  refine ⟨rfl, ?_⟩
  unfold State.gateAnswer
  by_cases h : m = .pf1
  · simp only [h, if_true]
  · simp only [h, if_false]
    exact ⟨(State.raise_evOnly s 0 (by decide)).setBus _, State.raise_evSet s 0 (by decide)⟩

/-! ### Writes -/

@[simp] theorem State.lockRefused_shadow (s : State) : s.lockRefused.shadow = s.shadow := by simp [State.lockRefused]
@[simp] theorem State.lockRefused_active (s : State) : s.lockRefused.active = s.active := by simp [State.lockRefused]

/-- A refused write raises an event, and changes neither configuration set. -/
theorem State.writeRefused_sets (s : State) (blk : Block) (row : RegRow) (inst : Nat) :
    (s.writeRefused blk row inst).shadow = s.shadow ∧ (s.writeRefused blk row inst).active = s.active := by
  unfold State.writeRefused
  split
  · simp [State.portEvt]
  split
  · simp
  split
  · simp [State.ruleRefused]
  · simp

theorem State.clearStat_sets (s : State) (base off inst i : Nat) (v : Word) :
    (s.clearStat base off inst i v).shadow = s.shadow ∧ (s.clearStat base off inst i v).active = s.active := by
  unfold State.clearStat
  split
  · exact ⟨rfl, rfl⟩
  split
  · exact ⟨rfl, rfl⟩
  split <;> exact ⟨rfl, rfl⟩

/-- The key of the register file for a write or a read by `m` at address `a`. -/
def RegRow.key (row : RegRow) (m : Master) (a : Nat) : Nat := if row.banked = true then bankKey m a else a

/-- R9: the register file and the shadow set after an accepted write, but for the W1C bits. -/
def State.putBits (s : State) (m : Master) (row : RegRow) (inst : Nat) (idx : List Nat) (a : Nat) (v : Word) : State :=
  let s := if row.rws = 0 then s else s.wrSh a (v &&& row.rwsAt (ruleIdx inst idx))
  if row.rw = 0 then s
  else s.wr (row.key m a) ((s.rd (row.key m a) &&& ~~~ BitVec.ofNat 32 row.rw) ||| (v &&& BitVec.ofNat 32 row.rw))

variable {s : State} {m : Master} {blk : Block} {row : RegRow} {inst : Nat} {idx : List Nat} {a : Nat} {v : Word}

/-- R9, R485: a write whose RWS bits are locked or whose value is refused leaves both configuration sets. -/
theorem State.putReg_refused (h : (row.rws ≠ 0 ∧ s.cfg.locked = true) ∨ s.valueBad row inst idx v = true) :
    (s.putReg m blk row inst idx a v).shadow = s.shadow ∧ (s.putReg m blk row inst idx a v).active = s.active := by
  unfold State.putReg
  split
  · simp
  · next hl =>
    have bad : s.valueBad row inst idx v = true := h.resolve_left (by simpa using hl)
    rw [if_pos bad]
    exact State.writeRefused_sets ..

/-- R9: an accepted write stores its bits and clears the W1C bits that are written 1. -/
theorem State.putReg_accepted (h : ¬ ((row.rws ≠ 0 ∧ s.cfg.locked = true) ∨ s.valueBad row inst idx v = true)) :
    s.putReg m blk row inst idx a v = if row.w1c = 0 then s.putBits m row inst idx a v
      else ((s.putBits m row inst idx a v).clrBits (row.key m a) (v &&& BitVec.ofNat 32 row.w1c)).clearStat blk.base row.off inst
        (idx.headD 0) v := by
  obtain ⟨hl, hv⟩ := not_or.mp h
  unfold State.putReg
  rw [if_neg (by simpa using hl), if_neg hv]
  rfl

theorem State.putBits_sets :
    (s.putBits m row inst idx a v).shadow =
        (if row.rws = 0 then s.shadow else (s.wrSh a (v &&& row.rwsAt (ruleIdx inst idx))).shadow) ∧
      (s.putBits m row inst idx a v).active = s.active := by
  unfold State.putBits
  by_cases h : row.rws = 0 <;> by_cases k : row.rw = 0 <;> simp [h, k]

theorem State.putBits_shape : s.putBits m row inst idx a v =
    { s with live := (s.putBits m row inst idx a v).live, shadow := (s.putBits m row inst idx a v).shadow } := by
  unfold State.putBits
  by_cases h : row.rws = 0 <;> by_cases k : row.rw = 0 <;> simp only [h, k, if_true, if_false] <;> rfl

theorem State.putBits_rd_same (h : row.rw ≠ 0) : (s.putBits m row inst idx a v).rd (row.key m a) =
    (s.rd (row.key m a) &&& ~~~ BitVec.ofNat 32 row.rw) ||| (v &&& BitVec.ofNat 32 row.rw) := by
  unfold State.putBits
  by_cases k : row.rws = 0 <;> simp [h, k]

theorem State.putBits_rd_ne {b : Nat} (h : b ≠ row.key m a ∨ row.rw = 0) : (s.putBits m row inst idx a v).rd b = s.rd b := by
  have shadowOnly : (if row.rws = 0 then s else s.wrSh a (v &&& row.rwsAt (ruleIdx inst idx))).rd b = s.rd b := by
    split <;> simp
  unfold State.putBits
  by_cases k : row.rw = 0
  · simpa only [k, if_true] using shadowOnly
  · simp only [k, if_false]
    rw [State.rd_wr_ne _ _ (h.resolve_right k), shadowOnly]

/-- R9, R11, R12: a 32-bit write of an ordinary register by a master that may write it. -/
theorem State.regWrite_plain (hs : ¬ (m.secure = false ∧ secureWrite blk row (idx.headD 0) (s.rd a) v = true))
    (hp : row.special = .plain) : s.regWrite m blk row inst idx a v = s.putReg m blk row inst idx a v := by
  unfold State.regWrite
  simp only [hp, if_true]
  rw [if_neg (by simpa using hs)]

theorem State.regWrite_secure (hs : m.secure = false ∧ secureWrite blk row (idx.headD 0) (s.rd a) v = true) :
    s.regWrite m blk row inst idx a v = s.raise 192 := by
  exact if_pos (by rw [hs.1, hs.2]; rfl)

/-! ### Reads -/

theorem State.regRead_plain (hs : ¬ (m.secure = false ∧ secureRead blk row (idx.headD 0) (s.rd a) = true))
    (hp : row.special = .plain) : s.regRead m blk row inst idx a = s.getReg m blk row inst idx a := by
  unfold State.regRead
  simp only [hp]
  rw [if_neg (by simpa using hs)]

theorem State.regRead_secure (hs : m.secure = false ∧ secureRead blk row (idx.headD 0) (s.rd a) = true) :
    s.regRead m blk row inst idx a = (0, s.raise 192) := by
  exact if_pos (by rw [hs.1, hs.2]; rfl)

/-- R9: an ordinary read leaves the state but for a register that clears on read, unless it shows an open value. -/
theorem State.getReg_closed (h : s.readsOpen blk.base row.off (idx.headD 0) = false) :
    (s.getReg m blk row inst idx a).2 = if row.rc = true then s.wr a 0 else s := by
  unfold State.getReg
  simp only [h, Bool.false_eq_true, if_false]

end Sys2Proof.Machine
end

section
/-!
PROOFS. The statement about accesses of BAR0, one theorem for each of its four clauses.
-/

namespace Sys2Proof.Machine

/-- R8, R467: what REGISTER_WRITE does with an access. -/
theorem registerWrite_does (m : Master) (addr : BitVec 26) (width : Nat) (be : BitVec 8) (data : BitVec 64) (s : State) :
    Does (.registerWrite m addr width be data) s fun t =>
     let a := addr.toNat
     if s.coreUp = false then t = s
     else if s.gateShut m a = true then t.bus = { data := [], unsupported := m != .spi } ∧
       if m = .pf1 then t = { s with bus := t.bus } else EvOnly { s with bus := t.bus } t ∧ t.evSet 0 = true
     else if accessOk a width = false ∨ enablesOk width be = false then EvOnly { s with bus := {} } t ∧ t.evSet 0 = true
     else
       let u := ({ s with bus := {} } : State).writeWord m a (data.truncate 32)
       t = if width = 64 then u.writeWord m (a + 4) (BitVec.ofNat 32 (data.toNat / 2 ^ 32)) else u := by
  refine ⟨_, rfl, ?_⟩
  simp only [Bool.not_eq_true', Bool.or_eq_true]
  by_cases up : s.coreUp = false
  · simp only [if_pos up]
  simp only [if_neg up]
  by_cases shut : s.gateShut m addr.toNat = true
  · simp only [if_pos shut]
    obtain ⟨hb, he⟩ := s.gateAnswer_spec m 0
    exact ⟨by simpa using hb, he⟩
  simp only [if_neg shut]
  by_cases bad : accessOk addr.toNat width = false ∨ enablesOk width be = false
  · simp only [if_pos bad]
    exact ⟨State.raise_evOnly _ 0 (by decide), State.raise_evSet _ 0 (by decide)⟩
  · simp only [if_neg bad]

/-- R8, R467: what BAD_ACCESS_READ does with an access. -/
theorem badAccessRead_does (m : Master) (addr : BitVec 26) (width : Nat) (s : State) :
    Does (.badAccessRead m addr width) s fun t =>
     let a := addr.toNat
     let zeros := List.replicate (ceilDiv width 32) (0 : Word)
     if s.coreUp = false then t = s
     else if s.gateShut m a = true then t.bus = { data := if m = .spi then zeros else [], unsupported := m != .spi } ∧
       if m = .pf1 then t = { s with bus := t.bus } else EvOnly { s with bus := t.bus } t ∧ t.evSet 0 = true
     else if accessOk a width = false then
       EvOnly { s with bus := t.bus } t ∧ t.evSet 0 = true ∧ t.bus = { data := zeros, unsupported := false }
     else
       let p := s.readWord m a
       let q := p.2.readWord m (a + 4)
       t = if width = 64 then { q.2 with bus := { data := [p.1, q.1], unsupported := false } }
         else { p.2 with bus := { data := [p.1], unsupported := false } } := by
  refine ⟨_, rfl, ?_⟩
  simp only [Bool.not_eq_true']
  by_cases up : s.coreUp = false
  · simp only [if_pos up]
  simp only [if_neg up]
  by_cases shut : s.gateShut m addr.toNat = true
  · simp only [if_pos shut]
    exact s.gateAnswer_spec m _
  simp only [if_neg shut]
  by_cases bad : accessOk addr.toNat width = false
  · simp only [if_pos bad]
    exact ⟨(State.raise_evOnly s 0 (by decide)).setBus _, State.raise_evSet s 0 (by decide), trivial⟩
  · simp only [if_neg bad]

/-- Settles O60: by the checks of an access in their order, and for a 32-bit access by what its address names. -/
theorem busAccesses : Obligations.BusAccesses := by
  refine ⟨registerWrite_does, ?_, badAccessRead_does, ?_⟩
  · rintro s m a v t rfl
    unfold State.writeWord
    cases resolve blocks a with
    | unmapped => exact ⟨State.raise_evOnly s 0 (by decide), State.raise_evSet s 0 (by decide)⟩
    | hole => rfl
    | reg row blk inst idx =>
      dsimp only
      split
      · next secure =>
        rw [State.regWrite_secure secure]
        exact ⟨State.raise_evOnly s 192 (by decide), State.raise_evSet s 192 (by decide)⟩
      · next secure =>
        intro plain
        rw [State.regWrite_plain secure plain]
        split
        · next refused => exact State.putReg_refused refused
        · next accepted =>
          rw [State.putReg_accepted accepted]
          obtain ⟨hsh, hac⟩ := State.putBits_sets (s := s) (m := m) (row := row) (inst := inst) (idx := idx) (a := a) (v := v)
          split
          · exact ⟨hsh, hac, fun _ => ⟨State.putBits_shape, fun b => State.putBits_rd_ne, State.putBits_rd_same⟩⟩
          · next w1c =>
            obtain ⟨csh, cac⟩ := State.clearStat_sets ((s.putBits m row inst idx a v).clrBits (row.key m a)
              (v &&& BitVec.ofNat 32 row.w1c)) blk.base row.off inst (idx.headD 0) v
            exact ⟨csh.trans hsh, cac.trans hac, fun h => absurd h w1c⟩
  · intro s m a v t h
    unfold State.readWord at h
    cases hr : resolve blocks a with
    | unmapped =>
      rw [hr] at h
      obtain ⟨rfl, rfl⟩ := Prod.mk.inj h
      exact ⟨rfl, State.raise_evOnly s 0 (by decide), State.raise_evSet s 0 (by decide)⟩
    | hole =>
      rw [hr] at h
      exact Prod.mk.inj h
    | reg row blk inst idx =>
      rw [hr] at h
      dsimp only at h ⊢
      split
      · next secure =>
        rw [State.regRead_secure secure] at h
        obtain ⟨rfl, rfl⟩ := Prod.mk.inj h
        exact ⟨rfl, State.raise_evOnly s 192 (by decide), State.raise_evSet s 192 (by decide)⟩
      · next secure =>
        intro plain
        rw [State.regRead_plain secure plain] at h
        obtain ⟨hv, ht⟩ := Prod.ext_iff.mp h
        refine ⟨hv, fun closed => ?_⟩
        rw [show t = _ from ht, State.getReg_closed closed]
        cases row.rc <;> rfl

end Sys2Proof.Machine
end

section
/-!
PROOFS. What the compare slots and the priority queues leave: the rules that the statements on PTP emission rest on.
-/

namespace Sys2Proof.Machine

/-! ### Slot work -/

/-- The key of a register of one of the 256 compare slots (R28). -/
def slotKey (a : Nat) : Bool := decide (0x0101000 ≤ a) && decide (a < 0x0103000)

/-- `t` is `s` after work on compare slots: of the time unit only the slots differ, of the registers those of the slots and of the
event status, and the configuration's own state is as it was. -/
structure SlotWork (s t : State) : Prop where
  time : t.time = { s.time with slots := t.time.slots }
  regs : ∀ a, slotKey a = false → evKey a = false → t.rd a = s.rd a
  cfg : t.cfg = s.cfg

variable {s t u : State} {i : Nat}

theorem SlotWork.refl (s : State) : SlotWork s s := ⟨rfl, fun _ _ _ => rfl, rfl⟩

theorem SlotWork.trans (h : SlotWork s t) (k : SlotWork t u) : SlotWork s u :=
  ⟨by rw [k.time, h.time], fun a x y => (k.regs a x y).trans (h.regs a x y), k.cfg.trans h.cfg⟩

theorem SlotWork.ite {c : Prop} [Decidable c] (h : SlotWork s t) (k : SlotWork s u) : SlotWork s (if c then t else u) := by
  split <;> assumption

theorem SlotWork.now (h : SlotWork s t) : t.time.now = s.time.now := by rw [h.time]

theorem SlotWork.st (h : SlotWork s t) : t.time.st = s.time.st := by rw [h.time]

/-- A write of a slot's register. -/
theorem SlotWork.wr (h : SlotWork s t) {a : Nat} (v : Word) (k : slotKey a = true) : SlotWork s (t.wr a v) :=
  h.trans ⟨rfl, fun b x _ => State.rd_wr_ne _ _ (fun e => by rw [e, k] at x; cases x), rfl⟩

/-- The raise of an event. -/
theorem SlotWork.raise (h : SlotWork s t) {e : Nat} (k : e < 256) : SlotWork s (t.raise e) :=
  h.trans ⟨by simp, fun a _ y => State.raise_rd t e a k y, by simp⟩

theorem SlotWork.updSlot (h : SlotWork s t) (i : Nat) (f : Slot → Slot) : SlotWork s (t.updSlot i f) :=
  h.trans ⟨rfl, fun _ _ _ => rfl, rfl⟩

/-- A slot has the registers at offsets 0 to 0x1F from its base. -/
theorem slotKey_of_offset (hi : i < 256) {d : Nat} (hd : d < 0x20) : slotKey (0x0101000 + d + 0x20 * i) = true := by
  simp only [slotKey, Bool.and_eq_true, decide_eq_true_eq]
  omega

/-- A write of a pair of registers of slot `i`. -/
theorem SlotWork.wr64 (h : SlotWork s t) (hi : i < 256) {d : Nat} (hd : d + 4 < 0x20) (n : Nat) :
    SlotWork s (t.wr64 (0x0101000 + d + 0x20 * i) n) :=
  (h.wr _ (slotKey_of_offset hi (by omega))).wr _ (by
    rw [show 0x0101000 + d + 0x20 * i + 4 = 0x0101000 + (d + 4) + 0x20 * i by omega]
    exact slotKey_of_offset hi hd)

theorem SlotWork.slotStat (h : SlotWork s t) (hi : i < 256) (b : Nat) : SlotWork s (t.slotStat i b) :=
  h.wr _ (slotKey_of_offset hi (d := 0x14) (by decide))

theorem SlotWork.slotSkip (h : SlotWork s t) (hi : i < 256) (n : Nat) : SlotWork s (t.slotSkip i n) :=
  h.wr _ (slotKey_of_offset hi (d := 0x14) (by decide))

/-- R34, R37: what PAST_POLICY does to a slot other than that of the scheduled commit. -/
theorem SlotWork.slotJudge (h : SlotWork s t) (hi : i < 256) (h36 : i ≠ 36) (d edge : Nat) : SlotWork s (t.slotJudge d edge i) := by
  unfold State.slotJudge
  dsimp only
  rw [if_neg h36]
  exact .ite (h.updSlot ..) (.ite ((h.updSlot ..).slotSkip hi _) (((h.updSlot ..).slotStat hi _).raise (by decide)))

theorem SlotWork.slotArmBound (h : SlotWork s t) (hi : i < 256) (h36 : i ≠ 36) (x : St64) (p q : Nat) (f : Bool) :
    SlotWork s (t.slotArmBound i x p q f) := by
  unfold State.slotArmBound State.slotArm
  dsimp only
  have armed := ((h.wr64 hi (d := 0) (by decide) x.toNat).wr64 hi (d := 8) (by decide) p).updSlot i (fun _ =>
    { armed := true, time := x, period := p, policy := q, follow := f })
  exact .ite armed (.ite (armed.slotJudge hi h36 _ _) armed)

/-- R29, R35, R37: the fire of a slot. -/
theorem State.slotFire_work (s : State) (hi : i < 256) (h36 : i ≠ 36) : SlotWork (s.advTo (s.slotTick i)) (s.slotFire i) := by
  unfold State.slotFire
  dsimp only
  have stamped (n : Nat) : SlotWork (s.advTo (s.slotTick i)) (((s.advTo (s.slotTick i)).slotStat i 0).wr64 (Reg.TSC_CS_FIRED_LO i) n) :=
    ((SlotWork.refl _).slotStat hi 0).wr64 hi (d := 0x18) (by decide) n
  have fired (n : Nat) := SlotWork.ite (c := ((s.advTo (s.slotTick i)).slot i).late.isSome = true)
    (((stamped n).slotStat hi 1).raise (e := 9) (by decide)) (stamped n)
  exact .ite ((fired _).updSlot ..) (.ite (((fired _).updSlot ..).slotSkip hi _)
    (.ite (((fired _).updSlot ..).slotJudge hi h36 _ _) ((fired _).updSlot ..)))

/-- R148, R229, R232: the arm of a Sync slot. -/
theorem SlotWork.syncArm (h : SlotWork s t) (hi : i < 256) (h36 : i ≠ 36) (after : Nat) : SlotWork s (t.syncArm i after) := by
  unfold State.syncArm
  exact .ite (h.updSlot ..) (h.slotArmBound hi h36 ..)

/-- A Sync slot has fired and is armed for its next instant. -/
def State.syncNext (s : State) (i : Nat) : State := (s.slotFire i).syncArm i ((s.slotFire i).nominalOf i (s.slot i))

theorem State.syncNext_work (s : State) (hi : i < 256) (h36 : i ≠ 36) : SlotWork (s.advTo (s.slotTick i)) (s.syncNext i) :=
  (s.slotFire_work hi h36).syncArm hi h36 _

/-- The tick after a Sync slot has fired. -/
theorem State.syncNext_now (s : State) (hi : i < 256) (h36 : i ≠ 36) : (s.syncNext i).time.now = max s.time.now (s.slotTick i) := by
  rw [(s.syncNext_work hi h36).now, State.advTo_now]

theorem State.syncNext_cfg (s : State) (hi : i < 256) (h36 : i ≠ 36) : (s.syncNext i).cfg = s.cfg := by
  rw [(s.syncNext_work hi h36).cfg, State.advTo_cfg]

/-- A register that is neither a slot's nor an event status register. -/
theorem State.syncNext_rd (s : State) (hi : i < 256) (h36 : i ≠ 36) {a : Nat} (ha : slotKey a = false) (he : evKey a = false) :
    (s.syncNext i).rd a = s.rd a := by
  rw [(s.syncNext_work hi h36).regs a ha he, State.rd_advTo]

theorem State.syncNext_touch (s : State) (i : Nat) : Touch 536871689 s (s.syncNext i) :=
  State.syncArm_touch rfl _ _ _ (State.slotFire_touch rfl _ _ (.refl ..))

end Sys2Proof.Machine
end

section
/-!
PROOFS. What an entry for a priority queue leaves, and what the emission of PTP reads of the state.
-/

namespace Sys2Proof.Machine

/-! ### Priority queues -/

/-- A raise or a limited raise changes no event status bit from set to clear, nor does a count outside EVT_STAT. -/
theorem State.syncDrop_evSet (s : State) {e : Nat} (he : e < 256) (h : s.evSet e = true) : s.syncDrop.evSet e = true := by
  refine (State.raiseLim_evOnly _ 177 0 msTicks (by decide)).sets e ?_
  unfold State.evSet at *
  rwa [State.bump_rd_ne _ _ (by unfold Reg.EVT_STAT Reg.SRV_PTP_SYNC_DROP; omega)]

theorem State.syncDrop_rd (s : State) {a : Nat} (ha : a ≠ Reg.SRV_PTP_SYNC_DROP) (he : evKey a = false) : s.syncDrop.rd a = s.rd a := by
  unfold State.syncDrop
  rw [(State.raiseLim_evOnly _ 177 0 msTicks (by decide)).regs a he, State.bump_rd_ne _ _ ha]

@[simp] theorem State.clu_syncDrop (s : State) (k : Nat) : s.syncDrop.clu k = s.clu k := by simp [State.syncDrop]

/-- The registers of cluster `k` are no event status registers. -/
theorem evKey_celDropPrio {k : Nat} (hk : k < 32) : evKey (Reg.CEL_DROP_PRIO k) = false := by
  simp only [evKey, Bool.or_eq_false_iff, Bool.and_eq_false_iff, decide_eq_false_iff_not]
  unfold Reg.CEL_DROP_PRIO Reg.EVT_STAT Reg.EVT_CORE_STAT
  omega

theorem evKey_celDropRetire {k : Nat} (hk : k < 32) : evKey (Reg.CEL_DROP_RETIRE k) = false := by
  simp only [evKey, Bool.or_eq_false_iff, Bool.and_eq_false_iff, decide_eq_false_iff_not]
  unfold Reg.CEL_DROP_RETIRE Reg.EVT_STAT Reg.EVT_CORE_STAT
  omega

/-- R111, R112, R130: a Sync item comes to the end of the queue, or is counted as a drop. -/
theorem State.prioPush_sync (s : State) (k : Nat) (x : SyncItem) : Pushed k (.sync x) s (s.prioPush k (.sync x)) := by
  unfold Pushed State.prioPush
  by_cases retired : (s.clu k).retired = true
  · simp [retired]
  by_cases full : 16 ≤ (s.clu k).prio.length
  · simp only [retired, full, Nat.not_lt.mpr full, if_true, if_false, Bool.false_eq_true]
    refine ⟨by simp, State.syncDrop_evSet _ (by decide) (State.raise_evSet _ 138 (by decide)), fun hk => ?_⟩
    have key := evKey_celDropPrio hk
    rw [State.syncDrop_rd _ (by unfold Reg.CEL_DROP_PRIO Reg.SRV_PTP_SYNC_DROP; omega) key, State.raise_rd _ 138 _ (by decide) key,
      State.bump_rd_same]
  · simp [retired, full, Nat.lt_of_not_le full]

/-- An entry comes to the queue all the same after operations that left the clusters and their drop counters. -/
theorem Pushed.before {k : Nat} {p : Prio} {s t u : State} (h : Pushed k p t u) (clus : t.clus = s.clus)
    (regs : k < 32 → t.rd (Reg.CEL_DROP_RETIRE k) = s.rd (Reg.CEL_DROP_RETIRE k) ∧ t.rd (Reg.CEL_DROP_PRIO k) = s.rd (Reg.CEL_DROP_PRIO k)) :
    Pushed k p s u := by
  have hc : t.clu k = s.clu k := by unfold State.clu; rw [clus]
  unfold Pushed at *
  rw [hc] at h
  by_cases retired : (s.clu k).retired = true
  · rw [if_pos retired] at h ⊢
    exact ⟨h.1, fun hk => (regs hk).1 ▸ h.2 hk⟩
  rw [if_neg retired] at h ⊢
  by_cases room : (s.clu k).prio.length < 16
  · rwa [if_pos room] at h ⊢
  · rw [if_neg room] at h ⊢
    obtain ⟨same, ev, count⟩ := h
    exact ⟨same, ev, fun hk => (regs hk).2 ▸ count hk⟩

/-! ### What the emission of PTP reads -/

/-- The instant of DT depends on the time unit alone. -/
theorem State.nowSt_congr {s t : State} (h : t.time = s.time) : t.nowSt = s.nowSt := by
  unfold State.nowSt State.nowG; rw [h]

theorem State.dtOf_congr {s t : State} (h : t.time = s.time) (x : St64) : t.dtOf x = s.dtOf x := by
  unfold State.dtOf State.st64; rw [h]

theorem State.ptpPort_congr {s t : State} (h : t.ptp = s.ptp) (n : Nat) : t.ptpPort n = s.ptpPort n := by
  unfold State.ptpPort; rw [h]

theorem State.grant_congr {s t : State} (h : t.ptp = s.ptp) (i : Nat) : t.grant i = s.grant i := by
  unfold State.grant; rw [h]

/-- The value of a generation depends on the active set and on the retiring one. -/
theorem State.gv_congr {s t : State} (active : t.active = s.active) (cfg : t.cfg = s.cfg) (g a : Nat) : t.gv g a = s.gv g a := by
  unfold State.gv State.regsOf; rw [active, cfg]

/-- The parts that the state of PTP on a port rests on are the same. -/
structure SamePtp (n : Nat) (s t : State) : Prop where
  active : t.active = s.active
  cfg : t.cfg = s.cfg
  clk : t.clk = s.clk
  st : t.time.st = s.time.st
  conflict : (t.ptpPort n).conflict = (s.ptpPort n).conflict

theorem SamePtp.tstate {n : Nat} {s t : State} (h : SamePtp n s t) : t.tstate = s.tstate := by
  unfold State.tstate State.aligned State.eHoldNs State.ac; rw [h.active, h.clk, h.st]

theorem SamePtp.ptpState {n : Nat} {s t : State} (h : SamePtp n s t) : t.ptpState n = s.ptpState n := by
  unfold State.ptpState State.profile State.notAnswering
  rw [h.tstate, h.conflict, h.cfg, State.gv_congr h.active h.cfg, State.gv_congr h.active h.cfg]

end Sys2Proof.Machine
end

section
/-!
PROOFS. Emission of Sync: the multicast slot, the unicast wheel and its items (R229–R234).
-/

namespace Sys2Proof.Machine

/-! ### A Sync item made now -/

/-- A Sync item of port `n` made now, with the next request number. -/
def State.syncItem (s : State) (n seq T origin : Nat) (grant : Option Nat) : SyncItem :=
  { id := s.cls.nextId, port := n, seq := seq, T := T, origin := origin, grant := grant, gen := s.cfg.gen, dueAt := s.time.now }

/-- The item comes to the priority queue of cluster `k`. -/
def State.syncPush (s : State) (k n seq T origin : Nat) (grant : Option Nat) : State :=
  ({ s with cls := { s.cls with nextId := s.cls.nextId + 1 } } : State).prioPush k (.sync (s.syncItem n seq T origin grant))

section
variable (s : State) (k n seq T origin : Nat) (grant : Option Nat)

theorem State.syncPush_touch :
    Touch 536936961 { s with cls := { s.cls with nextId := s.cls.nextId + 1 } } (s.syncPush k n seq T origin grant) :=
  State.prioPush_touch rfl _ _ _ (.refl ..)

theorem State.syncPush_nextId : (s.syncPush k n seq T origin grant).cls.nextId = s.cls.nextId + 1 := by
  rw [show (s.syncPush k n seq T origin grant).cls = _ from (s.syncPush_touch k n seq T origin grant).same .cls rfl]

@[simp] theorem State.syncPush_time : (s.syncPush k n seq T origin grant).time = s.time :=
  (s.syncPush_touch k n seq T origin grant).same .time rfl

@[simp] theorem State.syncPush_ptp : (s.syncPush k n seq T origin grant).ptp = s.ptp :=
  (s.syncPush_touch k n seq T origin grant).same .ptp rfl

@[simp] theorem State.ptpPort_syncPush (i : Nat) : (s.syncPush k n seq T origin grant).ptpPort i = s.ptpPort i :=
  State.ptpPort_congr (s.syncPush_ptp k n seq T origin grant) i

@[simp] theorem State.grant_syncPush (i : Nat) : (s.syncPush k n seq T origin grant).grant i = s.grant i :=
  State.grant_congr (s.syncPush_ptp k n seq T origin grant) i

theorem State.syncPush_same (m : Nat) : SamePtp m s (s.syncPush k n seq T origin grant) where
  active := (s.syncPush_touch k n seq T origin grant).same .active rfl
  cfg := (s.syncPush_touch k n seq T origin grant).same .cfg rfl
  clk := (s.syncPush_touch k n seq T origin grant).same .clk rfl
  st := by simp
  conflict := by simp

theorem State.syncPush_pushed : Pushed k (.sync (s.syncItem n seq T origin grant)) s (s.syncPush k n seq T origin grant) :=
  (State.prioPush_sync _ k _).before rfl (fun _ => ⟨rfl, rfl⟩)

/-- The item after a change of the port alone. -/
theorem State.updPtpPort_syncPush_pushed (m : Nat) (f : PtpPort → PtpPort) :
    Pushed k (.sync (s.syncItem n seq T origin grant)) s ((s.updPtpPort m f).syncPush k n seq T origin grant) :=
  ((s.updPtpPort m f).syncPush_pushed k n seq T origin grant).before rfl (fun _ => ⟨rfl, rfl⟩)

/-- The item after a change of a grant alone. -/
theorem State.updGrant_syncPush_pushed (i : Nat) (f : GrantEntry → GrantEntry) :
    Pushed k (.sync (s.syncItem n seq T origin grant)) s ((s.updGrant i f).syncPush k n seq T origin grant) :=
  ((s.updGrant i f).syncPush_pushed k n seq T origin grant).before rfl (fun _ => ⟨rfl, rfl⟩)

end

/-! ### The slots of Sync -/

/-- The drop counters of the cluster queues are registers neither of a slot nor of the event status. -/
theorem State.syncNext_celDrop (s : State) {i k : Nat} (hi : i < 256) (h36 : i ≠ 36) (hk : k < 32) :
    (s.syncNext i).rd (Reg.CEL_DROP_RETIRE k) = s.rd (Reg.CEL_DROP_RETIRE k) ∧
      (s.syncNext i).rd (Reg.CEL_DROP_PRIO k) = s.rd (Reg.CEL_DROP_PRIO k) := by
  have slots : slotKey (Reg.CEL_DROP_RETIRE k) = false ∧ slotKey (Reg.CEL_DROP_PRIO k) = false := by
    simp only [slotKey, Bool.and_eq_false_iff, decide_eq_false_iff_not]
    unfold Reg.CEL_DROP_RETIRE Reg.CEL_DROP_PRIO
    omega
  exact ⟨s.syncNext_rd hi h36 slots.1 (evKey_celDropRetire hk), s.syncNext_rd hi h36 slots.2 (evKey_celDropPrio hk)⟩

/-- The multicast Sync slot of port `n` has fired while the port serves. -/
def State.mcSend (s : State) (n : Nat) : State :=
  let u := s.syncNext (80 + n)
  (u.updPtpPort n (fun p => { p with seq := ((u.ptpPort n).seq + 1) % 65536 })).syncPush (mcCluster n) n (u.ptpPort n).seq
    (u.dtOf (s.slot (80 + n)).time / stUnit) u.nowSt none

theorem State.mcSend_time (s : State) (n : Nat) : (s.mcSend n).time = (s.syncNext (80 + n)).time := State.syncPush_time ..

theorem State.mcSend_ptpPort (s : State) (n : Nat) : (s.mcSend n).ptpPort n =
    { (s.syncNext (80 + n)).ptpPort n with seq := (((s.syncNext (80 + n)).ptpPort n).seq + 1) % 65536 } := by
  simp [State.mcSend]

theorem State.mcSend_same (s : State) (n : Nat) : SamePtp n (s.syncNext (80 + n)) (s.mcSend n) :=
  { State.syncPush_same _ _ _ _ _ _ _ n with conflict := by rw [State.mcSend_ptpPort] }

theorem State.mcSend_pushed (s : State) (n : Nat) : Pushed (mcCluster n)
    (.sync ((s.syncNext (80 + n)).syncItem n ((s.syncNext (80 + n)).ptpPort n).seq
      ((s.syncNext (80 + n)).dtOf (s.slot (80 + n)).time / stUnit) (s.syncNext (80 + n)).nowSt none))
    (s.syncNext (80 + n)) (s.mcSend n) :=
  State.updPtpPort_syncPush_pushed ..

theorem execSyncMcFire_eq (n : Fin 8) (s : State) : execSyncMcFire n s = .next (
    if s.slotReady (80 + n.val) = true then
      if (s.syncNext (80 + n.val)).ptpState n.val = 1 then s.mcSend n.val else s.syncNext (80 + n.val)
    else s) := by
  by_cases ready : s.slotReady (80 + n.val) = true
  · by_cases serves : (s.syncNext (80 + n.val)).ptpState n.val = 1
    · rw [if_pos ready, if_pos serves]
      exact (if_neg (by simpa using ready)).trans (if_neg (not_not.mpr serves))
    · rw [if_pos ready, if_neg serves]
      exact (if_neg (by simpa using ready)).trans (if_pos serves)
  · rw [if_neg ready]
    exact if_pos (by simpa using ready)

/-- R229: SYNC_MC_FIRE. -/
theorem syncMcFire_does (n : Fin 8) (s : State) : Does (.syncMcFire n) s fun t =>
     if s.slotReady (80 + n.val) = true then
       t.time.now = max s.time.now (s.slotTick (80 + n.val)) ∧
       if t.ptpState n.val = 1 then
         t.cls.nextId = s.cls.nextId + 1 ∧ (t.ptpPort n.val).seq = ((s.ptpPort n.val).seq + 1) % 65536 ∧
         Pushed (mcCluster n.val) (.sync {
           id := s.cls.nextId
           port := n.val
           seq := (s.ptpPort n.val).seq
           T := t.dtOf (s.slot (80 + n.val)).time / stUnit
           origin := t.nowSt
           grant := none
           gen := s.cfg.gen
           dueAt := t.time.now }) s t
       else t.cls = s.cls ∧ t.clus = s.clus ∧ t.ptp = s.ptp
     else t = s := by
  have hi : 80 + n.val < 256 := by omega
  have h36 : 80 + n.val ≠ 36 := by omega
  refine ⟨_, execSyncMcFire_eq n s, ?_⟩
  by_cases ready : s.slotReady (80 + n.val) = true
  · simp only [if_pos ready]
    have next := s.syncNext_touch (80 + n.val)
    have cls : (s.syncNext (80 + n.val)).cls = s.cls := next.same .cls rfl
    have clus : (s.syncNext (80 + n.val)).clus = s.clus := next.same .clus rfl
    have ptp : (s.syncNext (80 + n.val)).ptp = s.ptp := next.same .ptp rfl
    by_cases serves : (s.syncNext (80 + n.val)).ptpState n.val = 1
    · simp only [if_pos serves]
      refine ⟨by rw [State.mcSend_time, s.syncNext_now hi h36], ?_⟩
      rw [if_pos ((s.mcSend_same n.val).ptpState.trans serves), State.mcSend_ptpPort, State.ptpPort_congr ptp]
      refine ⟨(State.syncPush_nextId ..).trans (by rw [State.updPtpPort_cls, cls]), rfl, ?_⟩
      have pushed := (s.mcSend_pushed n.val).before clus (s.syncNext_celDrop hi h36)
      have time := s.mcSend_time n.val
      rw [State.dtOf_congr time, State.nowSt_congr time, time]
      rwa [State.syncItem, cls, s.syncNext_cfg hi h36, State.ptpPort_congr ptp] at pushed
    · simp only [if_neg serves]
      exact ⟨s.syncNext_now hi h36, cls, clus, ptp⟩
  · simp only [if_neg ready]

/-! ### The unicast wheel -/

/-- The items of a wheel tick of port `n` at nominal stamp `a`, each with its issue and its T on the grid (R232, R233). -/
def State.ucItems (s : State) (n a : Nat) : List UcItem :=
  (s.tickList n (a % stSec / (stSec / 128)) a).zipIdx.map (fun p =>
    ⟨p.1, s.gridCeil n (a + p.2 * s.ucSpace n * 65536) - (if s.mode n = 7 then 464 else 400) * 65536,
      s.gridCeil n (a + p.2 * s.ucSpace n * 65536), s.nowSt⟩)

theorem State.tickList_congr {s t : State} (ptp : t.ptp = s.ptp) (n tau a : Nat) : t.tickList n tau a = s.tickList n tau a := by
  unfold State.tickList; rw [ptp]

theorem State.mode_congr {s t : State} (active : t.active = s.active) (n : Nat) : t.mode n = s.mode n := by
  unfold State.mode; rw [active]

theorem State.ucSpace_congr {s t : State} (active : t.active = s.active) (cfg : t.cfg = s.cfg) (n : Nat) : t.ucSpace n = s.ucSpace n := by
  unfold State.ucSpace State.ptpAuth State.ac
  rw [State.gv_congr active cfg, State.mode_congr active, active, cfg]

/-- A wheel tick of port `n` has fired while the port serves; `a` is its nominal instant. -/
def State.ucTick (s : State) (n : Nat) : State :=
  (s.syncNext (88 + n)).updPtpPort n (fun p => { p with
    items := p.items ++ (s.syncNext (88 + n)).ucItems n ((s.slotFire (88 + n)).nominalOf (88 + n) (s.slot (88 + n))) })

theorem State.ucTick_same (s : State) (n : Nat) : SamePtp n (s.syncNext (88 + n)) (s.ucTick n) where
  active := State.updPtpPort_active ..
  cfg := State.updPtpPort_cfg ..
  clk := State.updPtpPort_clk ..
  st := congrArg TimeSt.st (State.updPtpPort_time ..)
  conflict := by simp [State.ucTick]

theorem execSyncUcTick_eq (n : Fin 8) (s : State) : execSyncUcTick n s = .next (
    if s.slotReady (88 + n.val) = true then
      if (s.syncNext (88 + n.val)).ptpState n.val = 1 then s.ucTick n.val else s.syncNext (88 + n.val)
    else s) := by
  by_cases ready : s.slotReady (88 + n.val) = true
  · by_cases serves : (s.syncNext (88 + n.val)).ptpState n.val = 1
    · rw [if_pos ready, if_pos serves]
      exact (if_neg (by simpa using ready)).trans (if_neg (not_not.mpr serves))
    · rw [if_pos ready, if_neg serves]
      exact (if_neg (by simpa using ready)).trans (if_pos serves)
  · rw [if_neg ready]
    exact if_pos (by simpa using ready)

/-- R232: SYNC_UC_TICK. -/
theorem syncUcTick_does (n : Fin 8) (s : State) (a : Nat) (ha : a = (s.slotFire (88 + n.val)).nominalOf (88 + n.val) (s.slot (88 + n.val))) :
    Does (.syncUcTick n) s fun t =>
     if s.slotReady (88 + n.val) = true then
       if t.ptpState n.val = 1 then
         (t.ptpPort n.val).items = (s.ptpPort n.val).items ++
           (s.tickList n.val (a % stSec / (stSec / 128)) a).zipIdx.map (fun p =>
             ⟨p.1, t.gridCeil n.val (a + p.2 * s.ucSpace n.val * 65536) - (if s.mode n.val = 7 then 464 else 400) * 65536,
               t.gridCeil n.val (a + p.2 * s.ucSpace n.val * 65536), t.nowSt⟩)
       else t.ptp = s.ptp
     else t = s := by
  have hi : 88 + n.val < 256 := by omega
  have h36 : 88 + n.val ≠ 36 := by omega
  subst ha
  refine ⟨_, execSyncUcTick_eq n s, ?_⟩
  by_cases ready : s.slotReady (88 + n.val) = true
  · simp only [if_pos ready]
    have next := s.syncNext_touch (88 + n.val)
    have active : (s.syncNext (88 + n.val)).active = s.active := next.same .active rfl
    have ptp : (s.syncNext (88 + n.val)).ptp = s.ptp := next.same .ptp rfl
    have cfg := s.syncNext_cfg hi h36
    by_cases serves : (s.syncNext (88 + n.val)).ptpState n.val = 1
    · simp only [if_pos serves, if_pos ((s.ucTick_same n.val).ptpState.trans serves)]
      rw [← State.tickList_congr ptp, ← State.ucSpace_congr active cfg, ← State.mode_congr active, ← State.ptpPort_congr ptp]
      exact congrArg PtpPort.items (State.ptpPort_updPtpPort_same ..)
    · simp only [if_neg serves, ptp]
  · simp only [if_neg ready]

/-! ### Items of the wheel -/

/-- The first item of port `n` is taken from its list at the item's time. -/
def State.ucTake (s : State) (n : Nat) (u : UcItem) (r : List UcItem) : State :=
  (s.advTo (s.cclkAtG (u.at_ * 1000))).updPtpPort n (fun p => { p with items := r })

/-- The item `u` goes to the priority queue of its client's home cluster, with the client's next sequenceId. -/
def State.ucIssue (s : State) (n : Nat) (u : UcItem) : State :=
  (s.updGrant u.idx (fun e => { e with syncSeq := (e.syncSeq + 1) % 65536 })).syncPush
    (s.homeOf (addrHash (s.seedAt s.nowSt).1 (s.grant u.idx).cur.addr)) n (s.grant u.idx).syncSeq u.T u.origin (some u.idx)

theorem State.ucTake_now (s : State) (n : Nat) (u : UcItem) (r : List UcItem) :
    (s.ucTake n u r).time.now = max s.time.now (s.cclkAtG (u.at_ * 1000)) :=
  (congrArg TimeSt.now (State.updPtpPort_time ..)).trans (State.advTo_now ..)

@[simp] theorem State.ucTake_cls (s : State) (n : Nat) (u : UcItem) (r : List UcItem) : (s.ucTake n u r).cls = s.cls := by
  simp [State.ucTake]

@[simp] theorem State.ucTake_clus (s : State) (n : Nat) (u : UcItem) (r : List UcItem) : (s.ucTake n u r).clus = s.clus := by
  simp [State.ucTake]

@[simp] theorem State.ucTake_cfg (s : State) (n : Nat) (u : UcItem) (r : List UcItem) : (s.ucTake n u r).cfg = s.cfg := by
  simp [State.ucTake]

@[simp] theorem State.grant_ucTake (s : State) (n : Nat) (u : UcItem) (r : List UcItem) (i : Nat) :
    (s.ucTake n u r).grant i = s.grant i := by
  simp [State.ucTake]

@[simp] theorem State.rd_ucTake (s : State) (n : Nat) (u : UcItem) (r : List UcItem) (a : Nat) : (s.ucTake n u r).rd a = s.rd a := by
  simp [State.ucTake]

theorem State.ucTake_items (s : State) (n : Nat) (u : UcItem) (r : List UcItem) : ((s.ucTake n u r).ptpPort n).items = r := by
  simp [State.ucTake]

section
variable (s : State) (n : Nat) (u : UcItem)

@[simp] theorem State.ucIssue_time : (s.ucIssue n u).time = s.time := State.syncPush_time ..

@[simp] theorem State.ptpPort_ucIssue (i : Nat) : (s.ucIssue n u).ptpPort i = s.ptpPort i := by simp [State.ucIssue]

theorem State.grant_ucIssue : (s.ucIssue n u).grant u.idx =
    { s.grant u.idx with syncSeq := ((s.grant u.idx).syncSeq + 1) % 65536 } := by
  simp [State.ucIssue]

theorem State.ucIssue_nextId : (s.ucIssue n u).cls.nextId = s.cls.nextId + 1 := State.syncPush_nextId ..

theorem State.ucIssue_same : SamePtp n s (s.ucIssue n u) :=
  { State.syncPush_same _ _ _ _ _ _ _ n with conflict := by simp }

theorem State.ucIssue_pushed : Pushed (s.homeOf (addrHash (s.seedAt s.nowSt).1 (s.grant u.idx).cur.addr))
    (.sync (s.syncItem n (s.grant u.idx).syncSeq u.T u.origin (some u.idx))) s (s.ucIssue n u) :=
  State.updGrant_syncPush_pushed ..

end

theorem execSyncUcItemIssue_eq (n : Fin 8) (s : State) : execSyncUcItemIssue n s = match (s.ptpPort n.val).items with
    | [] => .next s
    | u :: r => .next (
      if (s.ucTake n.val u r).ptpState n.val = 1 then (s.ucTake n.val u r).ucIssue n.val u else s.ucTake n.val u r) := by
  unfold execSyncUcItemIssue
  cases (s.ptpPort n.val).items with
  | nil => rfl
  | cons u r =>
    by_cases serves : (s.ucTake n.val u r).ptpState n.val = 1
    · simp only [if_pos serves]
      exact if_neg (not_not.mpr serves)
    · simp only [if_neg serves]
      exact if_pos serves

/-- R232: SYNC_UC_ITEM_ISSUE. -/
theorem syncUcItemIssue_does (n : Fin 8) (s : State) : Does (.syncUcItemIssue n) s fun t => match (s.ptpPort n.val).items with
     | [] => t = s
     | u :: r => (t.ptpPort n.val).items = r ∧ t.time.now = max s.time.now (s.cclkAtG (u.at_ * 1000)) ∧
       if t.ptpState n.val = 1 then
         t.cls.nextId = s.cls.nextId + 1 ∧
         t.grant u.idx = { s.grant u.idx with syncSeq := ((s.grant u.idx).syncSeq + 1) % 65536 } ∧
         Pushed (s.homeOf (addrHash (s.seedAt t.nowSt).1 (s.grant u.idx).cur.addr)) (.sync {
           id := s.cls.nextId
           port := n.val
           seq := (s.grant u.idx).syncSeq
           T := u.T
           origin := u.origin
           grant := some u.idx
           gen := s.cfg.gen
           dueAt := t.time.now }) s t
       else t.cls = s.cls ∧ t.clus = s.clus := by
  have run := execSyncUcItemIssue_eq n s
  cases hl : (s.ptpPort n.val).items with
  | nil =>
    rw [hl] at run
    exact ⟨s, run, rfl⟩
  | cons u r =>
    rw [hl] at run
    refine ⟨_, run, ?_⟩
    by_cases serves : (s.ucTake n.val u r).ptpState n.val = 1
    · simp only [if_pos serves, if_pos ((State.ucIssue_same _ n.val u).ptpState.trans serves), State.ptpPort_ucIssue, State.ucIssue_time]
      refine ⟨State.ucTake_items .., State.ucTake_now .., ?_, ?_, ?_⟩
      · rw [State.ucIssue_nextId, State.ucTake_cls]
      · rw [State.grant_ucIssue, State.grant_ucTake]
      · have pushed := ((s.ucTake n.val u r).ucIssue_pushed n.val u).before (s := s) (State.ucTake_clus ..) (fun _ => ⟨by simp, by simp⟩)
        rw [State.nowSt_congr (State.ucIssue_time ..)]
        simpa [State.syncItem, State.homeOf, State.seedAt] using pushed
    · simp only [if_neg serves]
      exact ⟨State.ucTake_items .., State.ucTake_now .., State.ucTake_cls .., State.ucTake_clus ..⟩

end Sys2Proof.Machine
end

section
/-!
PROOFS. Announce (R238–R242) and Announce of foreign masters (R225), and the statement on Sync and Announce.
-/

namespace Sys2Proof.Machine

/-! ### A message in the best-effort queue -/

/-- R71, R149: a message of the firmware joins the best-effort queue of a port that is UP. -/
theorem State.bePush_queued (s : State) (n len : Nat) (b : List Byte) (head : Option FrameHead) (after : Nat) :
    Queued n (some b) s (s.bePush n .core len b head after) := by
  unfold Queued State.bePush
  by_cases up : s.isUp n = true
  · simp [up]
  · simp [up]

/-- The queue is as before operations that left the ports. -/
theorem Queued.before {n : Nat} {m : Option (List Byte)} {s t u : State} (h : Queued n m t u) (ports : t.ports = s.ports) :
    Queued n m s u := by
  have hp : t.port n = s.port n := by unfold State.port; rw [ports]
  unfold Queued State.isUp at *
  rwa [hp] at h

/-! ### What a composed Announce reads -/

section
variable (s : State) (n seq : Nat)

/-- What port `n` would send now as an Announce: nothing where it does not serve or its key is absent (R242, R248). -/
def State.announceOut : Option (List Byte) :=
  if s.ptpState n = 1 then s.signed s.cfg.gen n s.time.now (s.announceMsg n seq) else none

theorem State.announceOut_updPort (k : Nat) (f : PortSt → PortSt) : (s.updPort k f).announceOut n seq = s.announceOut n seq := rfl

theorem State.announceOut_wr (a : Nat) (v : Word) : (s.wr a v).announceOut n seq = s.announceOut n seq := rfl

theorem State.announceOut_count (a b : Nat) :
    ({ s with ptp := { s.ptp with annSec := a, annCount := b } } : State).announceOut n seq = s.announceOut n seq := rfl

/-- A frame of the firmware in a queue changes nothing that an Announce is composed of. -/
theorem State.announceOut_bePush (k len : Nat) (b : List Byte) (head : Option FrameHead) (after : Nat) :
    (s.bePush k .core len b head after).announceOut n seq = s.announceOut n seq := by
  unfold State.bePush
  split
  · exact State.announceOut_updPort ..
  · exact State.announceOut_wr ..

theorem State.bePush_rd (k len : Nat) (b : List Byte) (head : Option FrameHead) (after : Nat) {a : Nat} (ha : a ≠ Reg.PRT_DROP_LINK k) :
    (s.bePush k .core len b head after).rd a = s.rd a := by
  unfold State.bePush
  split
  · rfl
  · exact State.bump_rd_ne _ _ ha

/-- The head of an Announce of port `n`. -/
def State.annHead (grant : Option Nat) : FrameHead := { s.syncHead s.cfg.gen n grant with sport := 320, dport := 320 }

/-- One more Announce in this DT second, and in SRV_PTP_ANN_SENT. -/
def State.annCounted : State :=
  ({ s with ptp := { s.ptp with annSec := s.sec, annCount := if s.ptp.annSec = s.sec then s.ptp.annCount + 1 else 1 } } : State).bump
    Reg.SRV_PTP_ANN_SENT

theorem State.announce_eq (grant : Option Nat) : s.announce n grant seq = match s.announceOut n seq with
    | none => s
    | some m => s.annCounted.bePush n .core ((s.annHead n grant).len m.length) m (some (s.annHead n grant)) := by
  unfold State.announce State.announceOut
  by_cases serves : s.ptpState n = 1
  · rw [if_neg (not_not.mpr serves), if_pos serves]
    cases s.signed s.cfg.gen n s.time.now (s.announceMsg n seq) <;> rfl
  · rw [if_pos serves, if_neg serves]

theorem State.announceOut_announce (grant : Option Nat) : (s.announce n grant seq).announceOut n seq = s.announceOut n seq := by
  rw [State.announce_eq]
  cases h : s.announceOut n seq with
  | none => exact h
  | some m => exact (State.announceOut_bePush ..).trans h

/-- R238, R242, R248: what is composed joins the queue of the port and is counted. -/
theorem State.announce_queued (grant : Option Nat) : Queued n (s.announceOut n seq) s (s.announce n grant seq) ∧
    (s.announce n grant seq).rd Reg.SRV_PTP_ANN_SENT =
      if (s.announceOut n seq).isSome = true then satAdd (s.rd Reg.SRV_PTP_ANN_SENT) 1 else s.rd Reg.SRV_PTP_ANN_SENT := by
  rw [State.announce_eq]
  cases s.announceOut n seq with
  | none => exact ⟨rfl, rfl⟩
  | some m =>
    refine ⟨(State.bePush_queued s.annCounted ..).before rfl, ?_⟩
    rw [State.bePush_rd _ _ _ _ _ _ (by unfold Reg.PRT_DROP_LINK Reg.SRV_PTP_ANN_SENT; omega)]
    exact State.bump_rd_same ..

end

/-! ### The turn of an Announce -/

/-- Waiting for an Announce changes the time unit and the event counters alone. -/
theorem State.annTurn_wait (s : State) (due : Nat) : Touch 520 s (s.annTurn due) := State.annTurn_touch rfl _ _ (.refl ..)

theorem State.annTurn_ptp (s : State) (due : Nat) : (s.annTurn due).ptp = s.ptp := (s.annTurn_wait due).same .ptp rfl

theorem State.annTurn_rd (s : State) (due a : Nat) : (s.annTurn due).rd a = s.rd a := State.rd_congr ((s.annTurn_wait due).same .live rfl) a

/-- The next Announce of port `n` is due an interval after `due`, with the next sequenceId. -/
def State.annNextPort (s : State) (n due : Nat) (log : Int) : State :=
  s.updPtpPort n (fun p => { p with annAt := due + logStamp log, annSeq := (p.annSeq + 1) % 65536 })

/-- The next Announce to the client of grant `j` is due an interval after `due`, with the next sequenceId. -/
def State.annNextGrant (s : State) (j due : Nat) (log : Int) : State :=
  s.updGrant j (fun e => { e with annAt := due + logStamp log, annSeq := (e.annSeq + 1) % 65536 })

section
variable (n seq : Nat) (grant : Option Nat) (s : State)

@[simp] theorem State.announce_time : (s.announce n grant seq).time = s.time :=
  (State.announce_touch (w := 537924097) rfl s n grant seq (.refl ..)).same .time rfl

@[simp] theorem State.announce_cfg : (s.announce n grant seq).cfg = s.cfg :=
  (State.announce_touch (w := 537924097) rfl s n grant seq (.refl ..)).same .cfg rfl

theorem State.bePush_ptp (k len : Nat) (b : List Byte) (head : Option FrameHead) : (s.bePush k .core len b head).ptp = s.ptp :=
  (State.bePush_touch (w := 536875521) rfl s k .core len b head 0 (.refl ..)).same .ptp rfl

@[simp] theorem State.ptpPort_announce (i : Nat) : (s.announce n grant seq).ptpPort i = s.ptpPort i := by
  rw [State.announce_eq]
  cases s.announceOut n seq with
  | none => rfl
  | some m => exact State.ptpPort_congr (s := s.annCounted) (State.bePush_ptp ..) i

@[simp] theorem State.grant_announce (i : Nat) : (s.announce n grant seq).grant i = s.grant i := by
  rw [State.announce_eq]
  cases s.announceOut n seq with
  | none => rfl
  | some m => exact State.grant_congr (s := s.annCounted) (State.bePush_ptp ..) i

end

/-- R238, R242, R248: the Announce that `u` leaves composed after waiting for its turn, told of the state before. -/
theorem State.announce_since {s u : State} (n seq : Nat) (grant : Option Nat) (ports : u.ports = s.ports)
    (cfg : u.cfg = s.cfg) (live : u.live = s.live) :
    let t := u.announce n grant seq
    let m := if t.ptpState n = 1 then t.signed s.cfg.gen n t.time.now (t.announceMsg n seq) else none
    Queued n m s t ∧ t.rd Reg.SRV_PTP_ANN_SENT =
      if m.isSome = true then satAdd (s.rd Reg.SRV_PTP_ANN_SENT) 1 else s.rd Reg.SRV_PTP_ANN_SENT := by
  dsimp only
  have out : (if (u.announce n grant seq).ptpState n = 1 then (u.announce n grant seq).signed s.cfg.gen n
      (u.announce n grant seq).time.now ((u.announce n grant seq).announceMsg n seq) else none) = u.announceOut n seq := by
    rw [← cfg, ← State.announce_cfg n seq grant u]
    exact u.announceOut_announce n seq grant
  obtain ⟨queued, count⟩ := u.announce_queued n seq grant
  rw [out]
  exact ⟨queued.before ports, by rw [count, State.rd_congr live]⟩

/-! ### The commands -/

/-- R238: an Announce of a port on profile 1 or 2 that is due. -/
theorem execAnnounceSend_port (n : Fin 8) (s : State) (st : s.time.st ≠ .unset) (runs : s.taskStopped 1 = false)
    (profile : s.profile s.cfg.gen n.val = 1 ∨ s.profile s.cfg.gen n.val = 2) :
    let u := s.annTurn (max (s.ptpPort n.val).annAt s.nowSt)
    execAnnounceSend n none s = .next ((u.annNextPort n.val (max (s.ptpPort n.val).annAt s.nowSt) (u.ptpLog u.cfg.gen n.val 1)).announce
      n.val none (u.ptpPort n.val).annSeq) :=
  (if_neg (by simp [st, runs])).trans (if_pos (by simpa using profile))

/-- R238: an Announce to the client of a grant on profile 3 that is due: it is sent while its grant lasts. -/
theorem execAnnounceSend_grant (n : Fin 8) (j : Fin 65536) (s : State) (g : Grant) (st : s.time.st ≠ .unset) (runs : s.taskStopped 1 = false)
    (granted : (s.grant j.val).cur.announce = some g) (profile : s.profile s.cfg.gen n.val = 3) (port : (s.grant j.val).cur.port = n.val) :
    let u := s.annTurn (max (s.grant j.val).annAt s.nowSt)
    execAnnounceSend n (some j) s = if g.exp ≤ u.sec then .next u
      else .next ((u.annNextGrant j.val (max (s.grant j.val).annAt s.nowSt) g.log).announce n.val (some j.val) (u.grant j.val).annSeq) := by
  refine (if_neg (by simp [st, runs])).trans ?_
  dsimp only
  rw [granted]
  exact if_neg (by simp [profile, port])

/-- R238: while DT is UNSET or the firmware core does not serve, the command does nothing. -/
theorem announceSend_stopped (n : Fin 8) (i : Option (Fin 65536)) (s : State) (h : s.time.st = .unset ∨ s.taskStopped 1 = true) :
    Does (.announceSend n i) s fun t => t = s :=
  ⟨s, if_pos (by simpa using h), rfl⟩

/-- R238: a port that is disabled or on profile 3 sends no Announce of its own. -/
theorem announceSend_port_idle (n : Fin 8) (s : State) (h : s.profile s.cfg.gen n.val = 0 ∨ s.profile s.cfg.gen n.val = 3) :
    Does (.announceSend n none) s fun t => t = s := by
  by_cases stopped : s.time.st = .unset ∨ s.taskStopped 1 = true
  · exact announceSend_stopped n none s stopped
  · refine ⟨s, (if_neg (by simpa using stopped)).trans (if_neg ?_), rfl⟩
    rcases h with h | h <;> simp [h]

/-- R238: a client without an Announce grant of the port, or on another profile, is sent none. -/
theorem announceSend_grant_idle (n : Fin 8) (j : Fin 65536) (s : State)
    (h : (s.grant j.val).cur.announce = none ∨ s.profile s.cfg.gen n.val ≠ 3 ∨ (s.grant j.val).cur.port ≠ n.val) :
    Does (.announceSend n (some j)) s fun t => t = s := by
  by_cases stopped : s.time.st = .unset ∨ s.taskStopped 1 = true
  · exact announceSend_stopped n (some j) s stopped
  · refine ⟨s, (if_neg (by simpa using stopped)).trans ?_, rfl⟩
    dsimp only
    cases hg : (s.grant j.val).cur.announce with
    | none => rfl
    | some g => exact if_pos (by simpa [hg] using h)

theorem State.ptpLog_congr {s t : State} (active : t.active = s.active) (cfg : t.cfg = s.cfg) (g n i : Nat) :
    t.ptpLog g n i = s.ptpLog g n i := by
  unfold State.ptpLog State.profile
  rw [State.gv_congr active cfg, State.gv_congr active cfg]

/-- R238: ANNOUNCE_SEND of an Announce of a port that is due. -/
theorem announceSend_port_does (n : Fin 8) (s : State) (profile : s.profile s.cfg.gen n.val = 1 ∨ s.profile s.cfg.gen n.val = 2)
    (st : s.time.st ≠ .unset) (runs : s.taskStopped 1 = false) :
    let due := max (s.ptpPort n.val).annAt s.nowSt
    let seq := (s.ptpPort n.val).annSeq
    Does (.announceSend n none) s fun t =>
      t.time = (s.annTurn due).time ∧
      ((t.ptpPort n.val).annAt = due + logStamp (s.ptpLog s.cfg.gen n.val 1) ∧ (t.ptpPort n.val).annSeq = (seq + 1) % 65536) ∧
      let m := if t.ptpState n.val = 1 then t.signed s.cfg.gen n.val t.time.now (t.announceMsg n.val seq) else none
      Queued n.val m s t ∧ t.rd Reg.SRV_PTP_ANN_SENT =
        if m.isSome = true then satAdd (s.rd Reg.SRV_PTP_ANN_SENT) 1 else s.rd Reg.SRV_PTP_ANN_SENT := by
  have wait := s.annTurn_wait (max (s.ptpPort n.val).annAt s.nowSt)
  have ptp : (s.annTurn (max (s.ptpPort n.val).annAt s.nowSt)).ptp = s.ptp := wait.same .ptp rfl
  have cfg : (s.annTurn (max (s.ptpPort n.val).annAt s.nowSt)).cfg = s.cfg := wait.same .cfg rfl
  have run := execAnnounceSend_port n s st runs profile
  dsimp only at run
  rw [State.ptpPort_congr ptp, State.ptpLog_congr (wait.same .active rfl) cfg, cfg] at run
  refine ⟨_, run, by rw [State.announce_time]; rfl, ?_,
    State.announce_since n.val _ none (wait.same .ports rfl) cfg (wait.same .live rfl)⟩
  simp [State.annNextPort, State.ptpPort_congr ptp]

/-- R238: ANNOUNCE_SEND of an Announce to the client of a grant that is due while the grant lasts. -/
theorem announceSend_grant_does (n : Fin 8) (j : Fin 65536) (s : State) (g : Grant) (granted : (s.grant j.val).cur.announce = some g)
    (profile : s.profile s.cfg.gen n.val = 3) (port : (s.grant j.val).cur.port = n.val)
    (lasts : (s.annTurn (max (s.grant j.val).annAt s.nowSt)).sec < g.exp) (st : s.time.st ≠ .unset) (runs : s.taskStopped 1 = false) :
    let due := max (s.grant j.val).annAt s.nowSt
    let seq := (s.grant j.val).annSeq
    Does (.announceSend n (some j)) s fun t =>
      t.time = (s.annTurn due).time ∧
      t.grant j.val = { s.grant j.val with annAt := due + logStamp g.log, annSeq := (seq + 1) % 65536 } ∧
      let m := if t.ptpState n.val = 1 then t.signed s.cfg.gen n.val t.time.now (t.announceMsg n.val seq) else none
      Queued n.val m s t ∧ t.rd Reg.SRV_PTP_ANN_SENT =
        if m.isSome = true then satAdd (s.rd Reg.SRV_PTP_ANN_SENT) 1 else s.rd Reg.SRV_PTP_ANN_SENT := by
  have wait := s.annTurn_wait (max (s.grant j.val).annAt s.nowSt)
  have ptp : (s.annTurn (max (s.grant j.val).annAt s.nowSt)).ptp = s.ptp := wait.same .ptp rfl
  have run := execAnnounceSend_grant n j s g st runs granted profile port
  dsimp only at run
  rw [if_neg (Nat.not_le.mpr lasts), State.grant_congr ptp] at run
  refine ⟨_, run, by rw [State.announce_time]; rfl, ?_,
    State.announce_since n.val _ (some j.val) (wait.same .ports rfl) (wait.same .cfg rfl) (wait.same .live rfl)⟩
  simp [State.annNextGrant, State.grant_congr ptp]

/-- R238: the turn comes after the grant has ended. -/
theorem announceSend_ended (n : Fin 8) (j : Fin 65536) (s : State) (g : Grant) (granted : (s.grant j.val).cur.announce = some g)
    (profile : s.profile s.cfg.gen n.val = 3) (port : (s.grant j.val).cur.port = n.val)
    (ended : g.exp ≤ (s.annTurn (max (s.grant j.val).annAt s.nowSt)).sec) (st : s.time.st ≠ .unset) (runs : s.taskStopped 1 = false) :
    Does (.announceSend n (some j)) s fun t => t = s.annTurn (max (s.grant j.val).annAt s.nowSt) :=
  ⟨_, (execAnnounceSend_grant n j s g st runs granted profile port).trans (if_pos ended), rfl⟩

/-- R225: FOREIGN_ANNOUNCE. -/
theorem foreignAnnounce_does (n : Fin 8) (p : List Byte) (s : State) : Does (.foreignAnnounce n p) s fun t =>
     if byteAt p 0 % 16 = 0xB ∧ s.profile s.cfg.gen n.val ≠ 0 ∧ byteAt p 4 = s.ptpDomain s.cfg.gen n.val ∧ s.taskStopped 1 = false then
       if authCount p ≠ 0 ∧ s.ptpAuthOk (s.ptpAuth s.cfg.gen n.val) p = false then t = s.bump Reg.SRV_PTP_DROP_AUTH
       else t.evSet 179 = true ∧ t.ptpPort n.val = { s.ptpPort n.val with
           foreignClass := byteAt p 48
           foreignCount := min 65535 ((s.ptpPort n.val).foreignCount + 1) } ∧ t.cls = s.cls ∧ t.clus = s.clus ∧ t.ref = s.ref
     else t = s := by
  by_cases mine : byteAt p 0 % 16 = 0xB ∧ s.profile s.cfg.gen n.val ≠ 0 ∧ byteAt p 4 = s.ptpDomain s.cfg.gen n.val ∧ s.taskStopped 1 = false
  · have taken : (decide (byteAt p 0 % 16 = 0xB) && s.profile s.cfg.gen n != 0 && byteAt p 4 == s.ptpDomain s.cfg.gen n &&
        !s.taskStopped 1) = true := by simpa [and_assoc] using mine
    by_cases bad : authCount p ≠ 0 ∧ s.ptpAuthOk (s.ptpAuth s.cfg.gen n.val) p = false
    · refine ⟨s.bump Reg.SRV_PTP_DROP_AUTH, (if_pos taken).trans (if_pos (by simpa using bad)), ?_⟩
      simp only [if_pos mine, if_pos bad]
    · refine ⟨_, (if_pos taken).trans (if_neg (by simpa using bad)), ?_⟩
      simp only [if_pos mine, if_neg bad]
      exact ⟨State.raise_evSet _ 179 (by decide), by simp, by simp, by simp, by simp⟩
  · refine ⟨s, if_neg (by simpa [and_assoc] using mine), ?_⟩
    simp only [if_neg mine]

end Sys2Proof.Machine
end

section
/-!
PROOFS. The statement on Sync and Announce.
-/

namespace Sys2Proof.Machine

/-- Settles O32: by one theorem for each command, each over the branches of its meaning. -/
theorem syncAndAnnounce : Obligations.SyncAndAnnounce := by
  refine ⟨syncMcFire_does, syncUcTick_does, syncUcItemIssue_does, ?_, ?_, announceSend_ended, foreignAnnounce_does⟩
  · intro n i s a seq log due st runs
    cases i with
    | none =>
      obtain ⟨profile, rfl, rfl, rfl⟩ := due
      exact announceSend_port_does n s profile st runs
    | some j =>
      obtain ⟨g, granted, profile, port, lasts, rfl, rfl, rfl⟩ := due
      exact announceSend_grant_does n j s g granted profile port lasts st runs
  · intro n i s h
    rcases h with st | stopped | idle
    · exact announceSend_stopped n i s (.inl st)
    · exact announceSend_stopped n i s (.inr stopped)
    · cases i with
      | none => exact announceSend_port_idle n s idle
      | some j => exact announceSend_grant_idle n j s idle

end Sys2Proof.Machine
end

section
/-!
PROOFS. What the states of the upstream clients and the internal references leave (R249–R255, R301, R308).
-/

namespace Sys2Proof.Machine

/-! ### Registers and events -/

/-- `t` is `s` after work on clients and monitors: no event status bit is lost, and SRV_PTP_CL_OUTLIERS is as it was. -/
structure ClientWork (s t : State) : Prop where
  sets : ∀ e, e < 256 → s.evSet e = true → t.evSet e = true
  outliers : t.rd Reg.SRV_PTP_CL_OUTLIERS = s.rd Reg.SRV_PTP_CL_OUTLIERS

variable {s t u : State}

theorem ClientWork.refl (s : State) : ClientWork s s := ⟨fun _ _ h => h, rfl⟩

theorem ClientWork.trans (h : ClientWork s t) (k : ClientWork t u) : ClientWork s u :=
  ⟨fun e he x => k.sets e he (h.sets e he x), k.outliers.trans h.outliers⟩

/-- An operation that leaves the live registers. -/
theorem ClientWork.of_live (h : t.live = s.live) : ClientWork s t :=
  ⟨fun _ _ x => (State.evSet_congr h _).trans x, State.rd_congr h _⟩

theorem ClientWork.ite {c : Prop} [Decidable c] (h : c → ClientWork s t) (k : ¬ c → ClientWork s u) :
    ClientWork s (if c then t else u) := by
  split
  · exact h ‹_›
  · exact k ‹_›

theorem ClientWork.raise (h : ClientWork s t) {e : Nat} (k : e < 256) : ClientWork s (t.raise e) :=
  h.trans ⟨fun x _ => (State.raise_evOnly t e k).sets x, State.raise_rd t e _ k (by decide)⟩

theorem ClientWork.updMon (h : ClientWork s t) (m : Nat) (f : Monitor → Monitor) : ClientWork s (t.updMon m f) :=
  h.trans (.of_live rfl)

theorem ClientWork.updClient (h : ClientWork s t) (i : Nat) (f : ClientSt → ClientSt) : ClientWork s (t.updClient i f) :=
  h.trans (.of_live rfl)

/-- R318: the selector looks again. -/
theorem ClientWork.refChanged (h : ClientWork s t) : ClientWork s t.refChanged := h.trans (.of_live rfl)

/-- A write of a register that holds neither event status nor SRV_PTP_CL_OUTLIERS. -/
theorem ClientWork.wr (h : ClientWork s t) {a : Nat} (v : Word) (ev : evKey a = false) (ne : a ≠ Reg.SRV_PTP_CL_OUTLIERS) :
    ClientWork s (t.wr a v) := by
  refine h.trans ⟨fun e he x => ?_, State.rd_wr_ne _ _ (Ne.symm ne)⟩
  unfold State.evSet at *
  rwa [State.rd_wr_ne]
  intro eq
  rw [← eq, evKey_stat e he] at ev
  cases ev

/-! ### The internal references -/

/-- The registers of a monitor are no event status registers. -/
theorem evKey_refReg {m : Nat} (hm : m < 13) : evKey (Reg.REF_DISQ_COUNT m) = false ∧ evKey (Reg.REF_LAST_FAIL m) = false := by
  simp only [evKey, Bool.or_eq_false_iff, Bool.and_eq_false_iff, decide_eq_false_iff_not]
  unfold Reg.REF_DISQ_COUNT Reg.REF_LAST_FAIL Reg.EVT_STAT Reg.EVT_CORE_STAT
  omega

theorem ClientWork.wtrSync (h : ClientWork s t) (m : Nat) : ClientWork s (t.wtrSync m) :=
  h.trans (.of_live ((State.wtrSync_touch (w := 4194304) rfl t m (.refl ..)).same .live rfl))

/-- R308: what leaves QUALIFIED is counted, with its time and EV033. -/
theorem ClientWork.disqualified (h : ClientWork s t) {m : Nat} (hm : m < 13) (v : Word) :
    ClientWork s (((t.bump (Reg.REF_DISQ_COUNT m)).wr (Reg.REF_LAST_FAIL m) v).raise 33) := by
  obtain ⟨count, last⟩ := evKey_refReg hm
  refine ClientWork.raise (.wr (.wr h _ count ?_) _ last ?_) (by decide)
  · unfold Reg.REF_DISQ_COUNT Reg.SRV_PTP_CL_OUTLIERS; omega
  · unfold Reg.REF_LAST_FAIL Reg.SRV_PTP_CL_OUTLIERS; omega

theorem MonState.entryEvent_lt {f : MonState} {e : Nat} (h : f.entryEvent = some e) : e < 256 := by
  cases f <;> simp only [MonState.entryEvent, Option.some.injEq, reduceCtorEq] at h <;> omega

theorem ClientWork.monEval (h : ClientWork s t) {m : Nat} (hm : m < 13) : ClientWork s (t.monEval m) := by
  unfold State.monEval
  dsimp only
  split
  case h_1 f _ =>
    refine .ite (fun _ => h) fun _ => .refChanged ?_
    have entered : ClientWork s (match f.entryEvent with
        | some e => (t.updMon m fun x => { x with state := f, wtrEnd := none, wtrLeft := 0 }).raise e
        | none => t.updMon m fun x => { x with state := f, wtrEnd := none, wtrLeft := 0 }) := by
      split
      · exact .raise (h.updMon ..) (MonState.entryEvent_lt ‹_›)
      · exact h.updMon ..
    exact .ite (fun _ => entered.disqualified hm _) fun _ => entered
  case h_2 => exact .ite (fun _ => h) fun _ => .refChanged ((h.updMon ..).wtrSync m)

theorem ClientWork.monBack (h : ClientWork s t) {m : Nat} (hm : m < 13) : ClientWork s (t.monBack m) :=
  .ite (fun _ => h) fun _ => .monEval (h.updMon ..) hm

theorem ClientWork.monLost (h : ClientWork s t) {m : Nat} (hm : m < 13) : ClientWork s (t.monLost m) :=
  .ite (fun _ => h) fun _ => .monEval (h.updMon ..) hm

theorem ClientWork.internalRefs (h : ClientWork s t) : ClientWork s t.internalRefs := by
  have act {u : State} (k : ClientWork s u) {m : Nat} (hm : m < 13) (on : Bool) :
      ClientWork s (if !u.refEn m then u else if on then u.monBack m else u.monLost m) :=
    .ite (fun _ => k) fun _ => .ite (fun _ => k.monBack hm) fun _ => k.monLost hm
  exact act (act (act h (by decide) _) (by decide) _) (by decide) _

@[simp] theorem State.client_internalRefs (s : State) (i : Nat) : s.internalRefs.client i = s.client i := by
  unfold State.client
  rw [(State.internalRefs_touch (w := 541065729) rfl s (.refl ..)).same .ptp rfl]

/-! ### The port state and the servo state -/

section
variable (s : State) (i : Nat)

@[simp] theorem State.client_clSetPort (p : ClState) : (s.clSetPort i p).client i = { s.client i with port := p } := by
  unfold State.clSetPort
  split
  case isTrue h => rw [← h]
  case isFalse => exact (State.client_raise ..).trans (State.client_updClient_same ..)

/-- R250: a change of the port state has EV182. -/
theorem State.clSetPort_evSet {p : ClState} (h : (s.client i).port ≠ p) : (s.clSetPort i p).evSet 182 = true := by
  unfold State.clSetPort
  rw [if_neg h]
  exact State.raise_evSet _ 182 (by decide)

/-- What a servo leaves of its client: all but the states, the virtual clock and what the servo counts. -/
def ClientSt.ServoOnly (c d : ClientSt) : Prop :=
  d = { c with port := d.port, servo := d.servo, phi := d.phi, y := d.y, tu := d.tu, lockCount := d.lockCount
               outliers := d.outliers, stepped := d.stepped, fit := d.fit }

/-- `t` is `s` after work of the servo of client `i`. -/
structure ServoWork (i : Nat) (s t : State) : Prop where
  work : ClientWork s t
  client : (s.client i).ServoOnly (t.client i)

end

variable {i : Nat}

theorem ServoWork.refl (s : State) : ServoWork i s s := ⟨.refl s, rfl⟩

theorem ServoWork.trans (h : ServoWork i s t) (k : ServoWork i t u) : ServoWork i s u :=
  ⟨h.work.trans k.work, by
    have hc := h.client
    have kc := k.client
    unfold ClientSt.ServoOnly at *
    rw [kc, hc]⟩

theorem ServoWork.client_eq (h : ServoWork i s t) : t.client i = { s.client i with
    port := (t.client i).port, servo := (t.client i).servo, phi := (t.client i).phi, y := (t.client i).y, tu := (t.client i).tu
    lockCount := (t.client i).lockCount, outliers := (t.client i).outliers, stepped := (t.client i).stepped
    fit := (t.client i).fit } := h.client

theorem ServoWork.master (h : ServoWork i s t) : (t.client i).master = (s.client i).master := by rw [h.client_eq]

theorem ServoWork.foreigns (h : ServoWork i s t) : (t.client i).foreigns = (s.client i).foreigns := by rw [h.client_eq]

/-- What a servo leaves of an exchange: its Sync and the time of it, and what it gave. -/
theorem ServoWork.exchange (h : ServoWork i s t) : (t.client i).pair = (s.client i).pair ∧ (t.client i).syncAt = (s.client i).syncAt ∧
    (t.client i).mpd = (s.client i).mpd ∧ (t.client i).mpdWin = (s.client i).mpdWin ∧ (t.client i).theta = (s.client i).theta := by
  rw [h.client_eq]
  exact ⟨rfl, rfl, rfl, rfl, rfl⟩

theorem ServoWork.ite {c : Prop} [Decidable c] (h : c → ServoWork i s t) (k : ¬ c → ServoWork i s u) :
    ServoWork i s (if c then t else u) := by
  split
  · exact h ‹_›
  · exact k ‹_›

/-- A change of client `i` that only the servo's part sees. -/
theorem ServoWork.updClient (h : ServoWork i s t) (f : ClientSt → ClientSt) (servo : (t.client i).ServoOnly (f (t.client i))) :
    ServoWork i s (t.updClient i f) :=
  h.trans ⟨.of_live rfl, by rwa [State.client_updClient_same]⟩

theorem ClientWork.clSetPort (h : ClientWork s t) (i : Nat) (p : ClState) : ClientWork s (t.clSetPort i p) :=
  .ite (fun _ => h) fun _ => .refChanged ((h.updClient ..).raise (by decide))

theorem ClientWork.clSetServo (h : ClientWork s t) (i : Nat) (v : Servo) : ClientWork s (t.clSetServo i v) :=
  .ite (fun _ => h) fun _ => .refChanged ((h.updClient ..).raise (by decide))

theorem ServoWork.clSetPort (h : ServoWork i s t) (p : ClState) : ServoWork i s (t.clSetPort i p) :=
  h.trans ⟨.clSetPort (.refl t) .., by rw [State.client_clSetPort]; rfl⟩

theorem ServoWork.internalRefs (h : ServoWork i s t) : ServoWork i s t.internalRefs :=
  h.trans ⟨.internalRefs (.refl t), by rw [State.client_internalRefs]; rfl⟩

theorem ServoWork.clSetServo (h : ServoWork i s t) (v : Servo) : ServoWork i s (t.clSetServo i v) := by
  refine h.trans ⟨.clSetServo (.refl t) .., ?_⟩
  unfold State.clSetServo
  split
  · rfl
  · change (t.client i).ServoOnly (((t.updClient i _).raise 183).client i)
    rw [State.client_raise, State.client_updClient_same]
    rfl

theorem State.clSetServo_servo (s : State) (i : Nat) (v : Servo) : ((s.clSetServo i v).client i).servo = v := by
  unfold State.clSetServo
  split
  · assumption
  · change (((s.updClient i _).raise 183).client i).servo = v
    rw [State.client_raise, State.client_updClient_same]

theorem State.clSetServo_port (s : State) (i : Nat) (v : Servo) : ((s.clSetServo i v).client i).port = (s.client i).port := by
  unfold State.clSetServo
  split
  · rfl
  · change (((s.updClient i _).raise 183).client i).port = _
    rw [State.client_raise, State.client_updClient_same]

theorem ServoWork.clPortSync (h : ServoWork i s t) : ServoWork i s (t.clPortSync i) :=
  .internalRefs (.ite (fun _ => h.clSetPort _) fun _ => .ite (fun _ => h.clSetPort _) fun _ => h)

theorem ServoWork.clStep (h : ServoWork i s t) (th : Int) : ServoWork i s (t.clStep i th) := h.updClient _ rfl

theorem ServoWork.clLoop (h : ServoWork i s t) (th : Int) : ServoWork i s (t.clLoop i th) := h.updClient _ rfl

/-- R253–R255: an update of the servo leaves the exchange and the masters. -/
theorem State.clServo_servoWork (s : State) (i : Nat) (th : Int) : ServoWork i s (s.clServo i th) := by
  refine ServoWork.clPortSync ?_
  have r : ServoWork i s s := .refl s
  split
  · exact (r.clSetServo _).clStep th
  · exact (r.clSetServo _).clStep th
  · refine .ite (fun _ => r) fun _ => .ite (fun _ => r.clStep th) fun _ => .ite (fun _ => .clSetServo ?_ _) fun _ => ?_
    all_goals exact (r.clLoop th).updClient _ (by rfl)
  · exact .ite (fun _ => r) fun _ => (r.clLoop th).updClient _ (by rfl)

/-- R254: a refit of the rate leaves the exchange and the masters. -/
theorem State.clFit_servoWork (s : State) (i : Nat) (y : ClSync) : ServoWork i s (s.clFit i y) := by
  have r : ServoWork i s s := .refl s
  refine .ite (fun _ => r) fun _ => .ite (fun _ => .clPortSync (.clSetServo ?_ _)) fun _ => ?_
  all_goals exact .ite (fun _ => r.updClient _ (by rfl)) fun _ => .updClient (r.updClient _ (by rfl)) _ (by rfl)

/-! ### The served time -/

/-- Every client is as before. -/
def SameClients (s t : State) : Prop := t.ptp.clients = s.ptp.clients

theorem SameClients.ite {c : Prop} [Decidable c] (h : SameClients s t) (k : SameClients s u) : SameClients s (if c then t else u) := by
  split <;> assumption

theorem SameClients.foldl {α : Type} {f : State → α → State} (step : ∀ t a, SameClients t (f t a)) (l : List α) (s : State) :
    SameClients s (l.foldl f s) := by
  induction l generalizing s with
  | nil => rfl
  | cons a l ih => exact (ih _).trans (step s a)

/-- An operation that leaves the PTP services. -/
theorem SameClients.of_ptp (h : SameClients s t) (ptp : u.ptp = t.ptp) : SameClients s u := (congrArg _ ptp).trans h

theorem SameClients.raise (h : SameClients s t) (e : Nat) : SameClients s (t.raise e) := h.of_ptp (by simp)

theorem State.portSignal_sameClients (s : State) (n : Nat) (v6 : Bool) (addr : BitVec 128) (tag : Option Nat) (target tlv : List Byte) :
    SameClients s (s.portSignal n v6 addr tag target tlv) := by
  unfold State.portSignal
  dsimp only
  split
  · exact .of_ptp (t := s.updPtpPort n _) rfl ((State.coreSend_touch (w := 536875521) rfl _ n v6 addr tag _ (.refl ..)).same .ptp rfl)
  · rfl

/-- R242: cancelled grants are signalling messages and changes of the grant table to come. -/
theorem State.grantCancelAll_sameClients (s : State) : SameClients s s.grantCancelAll := by
  have cancel (f : State → Nat → State) (h : ∀ t n, SameClients t (f t n)) (l : List Nat) (t : State) (i : Nat) (g : GrantSet)
      (place : State → Nat) : SameClients t ((l.foldl f t).grantWrite i g (place (l.foldl f t))) := SameClients.foldl h l t
  refine .foldl (fun t i => .ite rfl (cancel _ (fun u ty => ?_) _ t i {} (fun u => (u.grant i).place))) _ s
  exact (u.portSignal_sameClients ..).of_ptp rfl

/-- R161, R242: a change of the served time leaves the clients. -/
theorem State.timeStateChange_sameClients (s : State) : SameClients s s.timeStateChange := by
  have viewed {t : State} (h : SameClients s t) : SameClients s (t.pushView t.nowSt) := h
  have stratum {t : State} (n : Nat) (h : SameClients s t) : SameClients s (t.noteStratum n) :=
    h.of_ptp ((State.noteStratum_touch (w := 537133569) rfl t n (.refl ..)).same .ptp rfl)
  have serving {t : State} (h : SameClients s t) : SameClients s t.servingSync :=
    h.of_ptp ((State.servingSync_touch (w := 536871553) rfl t (.refl ..)).same .ptp rfl)
  have cancelled {t : State} (h : SameClients s t) : SameClients s t.grantCancelAll := t.grantCancelAll_sameClients.trans h
  have classed {t : State} (n : Nat) (h : SameClients s t) :
      SameClients s (({ t with ptp := { t.ptp with lastClass := n } } : State).raise 176) :=
    SameClients.raise (t := { t with ptp := { t.ptp with lastClass := n } }) h 176
  unfold State.timeStateChange
  extract_lets _ _ _ s1 v s2 lost _ s3 s4 s5 s6 q _ s7
  have h2 : SameClients s s2 := .ite rfl (viewed rfl)
  have h4 : SameClients s s4 := .ite (SameClients.raise (t := s3) h2 161) h2
  have h6 : SameClients s s6 := stratum _ (.ite (cancelled h4) h4)
  exact serving (.ite h6 (classed _ h6))

theorem State.client_timeStateChange (s : State) (i : Nat) : s.timeStateChange.client i = s.client i :=
  congrArg (tget clientDef · i) s.timeStateChange_sameClients

end Sys2Proof.Machine
end

section
/-!
PROOFS. Requests, masters and exchanges of the upstream clients (R249–R253).
-/

namespace Sys2Proof.Machine

/-! ### Requests -/

/-- The counters of frames for a port that is not UP are no event status registers. -/
theorem evKey_dropLink (n : Nat) : evKey (Reg.PRT_DROP_LINK n) = false := by
  simp only [evKey, Bool.or_eq_false_iff, Bool.and_eq_false_iff, decide_eq_false_iff_not]
  unfold Reg.PRT_DROP_LINK Reg.EVT_STAT Reg.EVT_CORE_STAT
  omega

theorem ClientWork.coreSend {s t : State} (h : ClientWork s t) (n : Nat) (v6 : Bool) (addr : BitVec 128) (tag : Option Nat)
    (m : List Byte) : ClientWork s (t.coreSend n v6 addr tag m) := by
  have other : Reg.PRT_DROP_LINK n ≠ Reg.SRV_PTP_CL_OUTLIERS := by unfold Reg.PRT_DROP_LINK Reg.SRV_PTP_CL_OUTLIERS; omega
  unfold State.coreSend State.bePush
  exact .ite (fun _ => h.trans (.of_live rfl)) fun _ => h.wr _ (evKey_dropLink n) other

/-- A client is a part of the PTP services. -/
theorem State.client_congr {s t : State} (h : t.ptp = s.ptp) (i : Nat) : t.client i = s.client i := by
  unfold State.client; rw [h]

section
variable (s : State) (i : Nat)

/-- The signalling message that client `i` would send now, with one TLV; none without its key (R249, R252). -/
def State.clSignalOut (tlv : List Byte) : Option (List Byte) :=
  s.clSigned i (s.sigMsg (s.clPort i) (s.clDomain i) (s.client i).sigSeq (s.clAuth i) (List.replicate 10 0xFF) tlv)

/-- Instance `i` has used one sequenceId of signalling. -/
def State.clSigNext : State := s.updClient i (fun c => { c with sigSeq := ((s.client i).sigSeq + 1) % 65536 })

theorem State.clSignal_eq (j : Nat) (tlv : List Byte) : s.clSignal i j tlv = match s.clSignalOut i tlv with
    | some m => (s.clSigNext i).coreSend (s.clPort i) ((s.clUmt i j).toNat / 2 ^ 32 != 0xFFFF) (s.clUmt i j) none m
    | none => s.clSigNext i := by
  unfold State.clSignal State.clSignalOut
  rfl

@[simp] theorem State.client_clSignal (j : Nat) (tlv : List Byte) :
    (s.clSignal i j tlv).client i = { s.client i with sigSeq := ((s.client i).sigSeq + 1) % 65536 } := by
  have next : (s.clSigNext i).client i = _ := State.client_updClient_same ..
  rw [State.clSignal_eq]
  cases s.clSignalOut i tlv with
  | none => exact next
  | some m => exact (State.client_congr (State.bePush_ptp ..) i).trans next

/-- R249, R252: a signalling message of client `i` joins the queue of its port. -/
theorem State.clSignal_asked (j : Nat) (tlv : List Byte) : Asked i tlv s (s.clSignal i j tlv) := by
  refine ⟨by rw [State.client_clSignal], ?_⟩
  change Queued _ (s.clSignalOut i tlv) _ _
  rw [State.clSignal_eq]
  cases s.clSignalOut i tlv with
  | none => rfl
  | some m => exact Queued.before (t := s.clSigNext i) (State.bePush_queued ..) rfl

theorem State.clSignal_clientWork (j : Nat) (tlv : List Byte) : ClientWork s (s.clSignal i j tlv) := by
  rw [State.clSignal_eq]
  split
  · exact .coreSend (.updClient (.refl s) i _) ..
  · exact .of_live rfl

/-- R249: requests change of their client the sequenceId of signalling alone. -/
theorem State.client_clRequests (w : List (Nat × Nat)) :
    ∃ q, (w.foldl (fun s p => s.clRequest i p.1 p.2) s).client i = { s.client i with sigSeq := q } := by
  induction w generalizing s with
  | nil => exact ⟨_, rfl⟩
  | cons p w ih =>
    obtain ⟨q, hq⟩ := ih (s.clRequest i p.1 p.2)
    exact ⟨q, hq.trans (by unfold State.clRequest; rw [State.client_clSignal])⟩

theorem State.clRequests_clientWork (w : List (Nat × Nat)) : ClientWork s (w.foldl (fun s p => s.clRequest i p.1 p.2) s) := by
  induction w generalizing s with
  | nil => exact .refl s
  | cons p w ih => exact (s.clSignal_clientWork ..).trans (ih _)

theorem State.clRequests_time (w : List (Nat × Nat)) : (w.foldl (fun s p => s.clRequest i p.1 p.2) s).time = s.time := by
  induction w generalizing s with
  | nil => rfl
  | cons p w ih => exact (ih _).trans ((State.clRequest_touch (w := 537924097) rfl s i p.1 p.2 (.refl ..)).same .time rfl)

@[simp] theorem State.clAsk_time (wait : Nat) : (s.clAsk i wait).time = s.time :=
  (State.clAsk_touch (w := 537924097) rfl s i wait (.refl ..)).same .time rfl

/-- R249: the requests that are due are awaited. -/
theorem State.client_clAsk (wait : Nat) : ∃ q, (s.clAsk i wait).client i = { s.client i with
    sigSeq := q, retryAt := if (s.clWants i).isEmpty then none else some (s.time.now + sTicks * wait)
    asked := !(s.clWants i).isEmpty } := by
  obtain ⟨q, hq⟩ := s.client_clRequests i (s.clWants i)
  refine ⟨q, ?_⟩
  unfold State.clAsk
  dsimp only
  rw [State.client_updClient_same, State.clRequests_time, hq]

theorem State.clAsk_clientWork (wait : Nat) : ClientWork s (s.clAsk i wait) := (s.clRequests_clientWork ..).updClient ..

/-- R249: a single request that is due is sent. -/
theorem State.clAsk_asked (wait : Nat) {x : Nat × Nat} (h : s.clWants i = [x]) :
    Asked i (requestTlv x.2 (s.clLog i x.2) (fld (s.ac (Reg.SRV_PTP_CL_DUR i)) 0 16)) s (s.clAsk i wait) := by
  have sent := s.clSignal_asked i x.1 (requestTlv x.2 (s.clLog i x.2) (fld (s.ac (Reg.SRV_PTP_CL_DUR i)) 0 16))
  unfold State.clAsk
  rw [h]
  exact ⟨(congrArg ClientSt.sigSeq (State.client_updClient_same ..)).trans sent.1, sent.2⟩

/-- R149: a message of the firmware takes a place in the queue of a port that is UP. -/
theorem State.coreSend_up {n : Nat} (up : s.isUp n = true) (v6 : Bool) (addr : BitVec 128) (tag : Option Nat) (m : List Byte) :
    ∃ f, (s.coreSend n v6 addr tag m).port n = { s.port n with be := (s.port n).be ++ [f] } := by
  unfold State.coreSend State.bePush
  rw [if_pos up]
  exact ⟨_, State.port_updPort_same ..⟩

/-- R149: without authentication each request takes a place in the queue of a port that is UP. -/
theorem State.clRequests_length (up : s.isUp (s.clPort i) = true) (auth : s.clAuth i = false) (w : List (Nat × Nat)) :
    ((w.foldl (fun s p => s.clRequest i p.1 p.2) s).port (s.clPort i)).be.length = (s.port (s.clPort i)).be.length + w.length := by
  induction w generalizing s with
  | nil => rfl
  | cons p w ih =>
    have active : (s.clRequest i p.1 p.2).active = s.active :=
      (State.clRequest_touch (w := 537924097) rfl s i p.1 p.2 (.refl ..)).same .active rfl
    have port : (s.clRequest i p.1 p.2).clPort i = s.clPort i := by unfold State.clPort State.ac; rw [active]
    have auth' : (s.clRequest i p.1 p.2).clAuth i = false := by unfold State.clAuth State.ac at *; rwa [active]
    obtain ⟨m, hm⟩ : ∃ m, s.clSignalOut i (requestTlv p.2 (s.clLog i p.2) (fld (s.ac (Reg.SRV_PTP_CL_DUR i)) 0 16)) = some m := by
      unfold State.clSignalOut State.clSigned
      exact ⟨_, if_pos (by rw [auth]; rfl)⟩
    have sent : ∃ f, (s.clRequest i p.1 p.2).port (s.clPort i) =
        { s.port (s.clPort i) with be := (s.port (s.clPort i)).be ++ [f] } := by
      unfold State.clRequest
      rw [State.clSignal_eq, hm]
      exact State.coreSend_up (s.clSigNext i) up ..
    obtain ⟨f, hf⟩ := sent
    have up' : (s.clRequest i p.1 p.2).isUp ((s.clRequest i p.1 p.2).clPort i) = true := by
      rw [port]; unfold State.isUp at *; rwa [hf]
    have rest := ih _ up' auth'
    rw [port, hf] at rest
    rw [List.foldl_cons, rest]
    simp only [List.length_append, List.length_cons, List.length_nil]
    omega

end

end Sys2Proof.Machine
end

section
/-!
PROOFS. The master of an upstream client and its exchanges (R250–R255).
-/

namespace Sys2Proof.Machine

/-! ### Without a master -/

section
variable (s : State) (i : Nat)

theorem State.clFreeRun_servoWork : ServoWork i s (s.clFreeRun i) := by
  unfold State.clFreeRun
  split
  · exact ServoWork.clSetServo (.refl s) _
  · exact ServoWork.clSetServo (.refl s) _
  · exact .refl s

theorem State.clFreeRun_port : ((s.clFreeRun i).client i).port = (s.client i).port := by
  unfold State.clFreeRun
  split
  · exact State.clSetServo_port ..
  · exact State.clSetServo_port ..
  · rfl

/-- R250, R255: a client that was ACQUIRE or LOCKED runs free. -/
theorem State.clFreeRun_servo (h : (s.client i).servo = .acquire ∨ (s.client i).servo = .locked) :
    ((s.clFreeRun i).client i).servo = .freeRun := by
  unfold State.clFreeRun
  rcases h with h | h
  · rw [h]; exact State.clSetServo_servo ..
  · rw [h]; exact State.clSetServo_servo ..

/-- Instance `i` of `t` is LISTENING without a master, with EV182 where its port state changed, and no servo follows. -/
structure Listens (i : Nat) (s t : State) : Prop where
  master : (t.client i).master = none
  port : (t.client i).port = .listening
  foreigns : (t.client i).foreigns = (s.client i).foreigns
  event : (s.client i).port ≠ .listening → t.evSet 182 = true
  servo : (s.client i).servo = .acquire ∨ (s.client i).servo = .locked → (t.client i).servo = .freeRun

/-- R250: a client that listens, seen after the selector looked at the internal references. -/
theorem State.clListen_listens : Listens i s (s.clListen i).internalRefs := by
  constructor
  case event =>
    intro h
    refine (ClientWork.internalRefs (.refl _)).sets 182 (by decide) (State.clSetPort_evSet _ _ ?_)
    simpa only [State.clForget, State.client_updClient_same, State.clFreeRun_port] using h
  case servo =>
    intro h
    rw [State.client_internalRefs]
    simpa only [State.clListen, State.clForget, State.client_clSetPort, State.client_updClient_same] using s.clFreeRun_servo i h
  case foreigns =>
    rw [State.client_internalRefs]
    simpa only [State.clListen, State.clForget, State.client_clSetPort, State.client_updClient_same] using
      (s.clFreeRun_servoWork i).foreigns
  all_goals
    rw [State.client_internalRefs]
    simp only [State.clListen, State.clForget, State.client_clSetPort, State.client_updClient_same]

/-! ### A new master -/

/-- The best master depends on the foreign masters of the client, the time and the active set. -/
theorem State.clBest_congr {s t : State} {i : Nat} (foreigns : (t.client i).foreigns = (s.client i).foreigns) (time : t.time = s.time)
    (active : t.active = s.active) : t.clBest i = s.clBest i := by
  unfold State.clBest State.clAccept State.clProfile State.clLocalPrio State.clProfile State.ac
  rw [foreigns, time, active]

/-- The state in which client `i` begins to follow master `f`. -/
def State.clFollow (f : Foreign) : State :=
  (s.clForget i).updClient i (fun c => { c with
    master := some (f.ident, f.portNo), masterClass := f.cls, annAt := s.time.now, syncAt := s.time.now, mpdWin := [], fit := []
    syncLog := s.clLog i 0 })

/-- R251: client `i` of `t` follows master `f`. -/
structure Follows (i : Nat) (f : Foreign) (s t : State) : Prop where
  master : (t.client i).master = some (f.ident, f.portNo)
  port : (t.client i).port = .uncalibrated
  foreigns : (t.client i).foreigns = (s.client i).foreigns
  event : t.evSet 184 = true

theorem Follows.clAsk {i : Nat} {f : Foreign} {s t : State} (h : Follows i f s t) (wait : Nat) : Follows i f s (t.clAsk i wait) := by
  obtain ⟨q, hq⟩ := t.client_clAsk i wait
  exact ⟨by rw [hq]; exact h.master, by rw [hq]; exact h.port, by rw [hq]; exact h.foreigns,
    (t.clAsk_clientWork i wait).sets _ (by decide) h.event⟩

theorem Follows.internalRefs {i : Nat} {f : Foreign} {s t : State} (h : Follows i f s t) : Follows i f s t.internalRefs :=
  ⟨by rw [State.client_internalRefs]; exact h.master, by rw [State.client_internalRefs]; exact h.port,
    by rw [State.client_internalRefs]; exact h.foreigns, (ClientWork.internalRefs (.refl t)).sets _ (by decide) h.event⟩

theorem State.clFollow_master (f : Foreign) : ((s.clFollow i f).client i).master = some (f.ident, f.portNo) := by
  unfold State.clFollow
  rw [State.client_updClient_same]

theorem State.clFollow_foreigns (f : Foreign) : ((s.clFollow i f).client i).foreigns = (s.client i).foreigns := by
  unfold State.clFollow State.clForget
  rw [State.client_updClient_same, State.client_updClient_same]

/-- R250, R251, R255: a new master comes with EV184, and the port is UNCALIBRATED. -/
theorem State.clTake_follows (f : Foreign) : Follows i f s (s.clTake i f) := by
  have servo := (ServoWork.refl (i := i) (s.clFollow i f)).clSetServo .freeRun
  have took : Follows i f s ((((s.clFollow i f).clSetServo i .freeRun).raise 184).clSetPort i .uncalibrated) := by
    refine ⟨?_, ?_, ?_, (ClientWork.clSetPort (.refl _) ..).sets 184 (by decide) (State.raise_evSet _ 184 (by decide))⟩
    all_goals rw [State.client_clSetPort]
    · rw [State.client_raise]
      dsimp only
      exact servo.master.trans (s.clFollow_master i f)
    · rw [State.client_raise]
      dsimp only
      exact servo.foreigns.trans (s.clFollow_foreigns i f)
  refine Follows.internalRefs ?_
  split
  · exact took.clAsk 1
  · exact took

theorem State.clTake_time (f : Foreign) : (s.clTake i f).time = s.time :=
  (State.clTake_touch (w := 542118401) rfl s i f (.refl ..)).same .time rfl

theorem State.clTake_active (f : Foreign) : (s.clTake i f).active = s.active :=
  (State.clTake_touch (w := 542118401) rfl s i f (.refl ..)).same .active rfl

/-- R250, R251: client `i` of `t` has, of the masters it knows, the best one as its master; a new one with EV184. -/
structure Selects (i : Nat) (s t : State) : Prop where
  foreigns : (t.client i).foreigns = (s.client i).foreigns
  kept : t.clBest i = none → (t.client i).master = (s.client i).master
  best : ∀ g, t.clBest i = some g → (t.client i).master = some (g.ident, g.portNo)
  new : ∀ g, t.clBest i = some g → (s.client i).master ≠ some (g.ident, g.portNo) →
    t.evSet 184 = true ∧ (t.client i).port = .uncalibrated

theorem State.clBmca_selects : Selects i s (s.clBmca i) := by
  unfold State.clBmca
  cases best : s.clBest i with
  | none => exact ⟨rfl, fun _ => rfl, fun g h => by simp [best] at h, fun g h => by simp [best] at h⟩
  | some f =>
    dsimp only
    by_cases mine : (s.client i).master = some (f.ident, f.portNo)
    · rw [if_pos mine]
      refine ⟨rfl, fun _ => rfl, fun g h => ?_, fun g h ne => ?_⟩
      all_goals obtain rfl : f = g := Option.some.inj (best.symm.trans h)
      · exact mine
      · exact absurd mine ne
    · rw [if_neg mine]
      have follows := s.clTake_follows i f
      have same : (s.clTake i f).clBest i = some f :=
        (State.clBest_congr follows.foreigns (s.clTake_time i f) (s.clTake_active i f)).trans best
      refine ⟨follows.foreigns, fun h => by simp [same] at h, fun g h => ?_, fun g h _ => ?_⟩
      all_goals obtain rfl : f = g := Option.some.inj (same.symm.trans h)
      · exact follows.master
      · exact ⟨follows.event, follows.port⟩

/-! ### An Announce -/

/-- The foreign master that an Announce speaks of, with the instants of those heard of it (R250). -/
def State.clHeard (umt : Nat) (p : List Byte) : Foreign :=
  { ident := ofBe (slice p 20 8), portNo := ofBe (slice p 28 2), gm := ofBe (slice p 53 8), prio1 := byteAt p 47
    cls := byteAt p 48, acc := byteAt p 49, oslv := ofBe (slice p 50 2), prio2 := byteAt p 52, steps := ofBe (slice p 61 2)
    umt := umt
    interval := logTicks (if Machine.signed 8 (byteAt p 33) = 0x7F then s.clLog i 0xB else Machine.signed 8 (byteAt p 33))
    heard := ([s.time.now] ++ (((s.client i).foreigns.find? (fun g => g.ident == ofBe (slice p 20 8) &&
      g.portNo == ofBe (slice p 28 2))).map (·.heard)).getD []).take 8 }

/-- The foreign masters of the client with this one as the last. -/
def State.clKnow (f : Foreign) : State :=
  s.updClient i (fun c => { c with
    foreigns := (s.client i).foreigns.filter (fun g => !(g.ident == f.ident && g.portNo == f.portNo)) ++ [f] })

/-- An Announce of the master has come now. -/
def State.clAnnounced (f : Foreign) : State := s.updClient i (fun c => { c with annAt := s.time.now, masterClass := f.cls })

/-- R250, R251: what an Announce does, by the foreign master it speaks of. -/
theorem State.clAnnounce_eq (umt : Nat) (p : List Byte) (f : Foreign) (h : f = s.clHeard i umt p) : s.clAnnounce i umt p =
    if ((s.clKnow i f).client i).master = some (f.ident, f.portNo) then
      if ((s.clKnow i f).clAnnounced i f).clAccept i < f.cls then (((s.clKnow i f).clAnnounced i f).clListen i).internalRefs
      else ((s.clKnow i f).clAnnounced i f).clBmca i
    else (s.clKnow i f).clBmca i := by
  subst h
  rfl

section
variable (f : Foreign)

theorem State.client_clKnow : (s.clKnow i f).client i = { s.client i with
    foreigns := (s.client i).foreigns.filter (fun g => !(g.ident == f.ident && g.portNo == f.portNo)) ++ [f] } :=
  State.client_updClient_same ..

theorem State.client_clAnnounced : (s.clAnnounced i f).client i = { s.client i with annAt := s.time.now, masterClass := f.cls } :=
  State.client_updClient_same ..

/-- R250, R251: an Announce enters the foreign masters; the master is given up above ACCEPT_CLASS, else the best one is chosen. -/
theorem State.clAnnounce_does (umt : Nat) (p : List Byte) (h : f = s.clHeard i umt p) :
    ((s.clAnnounce i umt p).client i).foreigns =
      (s.client i).foreigns.filter (fun g => !(g.ident == f.ident && g.portNo == f.portNo)) ++ [f] ∧
    if (s.client i).master = some (f.ident, f.portNo) ∧ s.clAccept i < f.cls then
      ((s.clAnnounce i umt p).client i).master = none ∧ ((s.clAnnounce i umt p).client i).port = .listening
    else ∃ u : State, (u.client i).master = (s.client i).master ∧ Selects i u (s.clAnnounce i umt p) := by
  have known := s.client_clKnow i f
  have heard := (s.clKnow i f).client_clAnnounced i f
  have accept : ((s.clKnow i f).clAnnounced i f).clAccept i = s.clAccept i := rfl
  rw [s.clAnnounce_eq i umt p f h, accept, show ((s.clKnow i f).client i).master = (s.client i).master by rw [known]]
  by_cases mine : (s.client i).master = some (f.ident, f.portNo)
  · rw [if_pos mine]
    by_cases worse : s.clAccept i < f.cls
    · have listens := ((s.clKnow i f).clAnnounced i f).clListen_listens i
      rw [if_pos worse, if_pos ⟨mine, worse⟩]
      exact ⟨listens.foreigns.trans (by rw [heard, known]), listens.master, listens.port⟩
    · have selects := ((s.clKnow i f).clAnnounced i f).clBmca_selects i
      rw [if_neg worse, if_neg (fun c => worse c.2)]
      exact ⟨selects.foreigns.trans (by rw [heard, known]), _, by rw [heard, known], selects⟩
  · have selects := (s.clKnow i f).clBmca_selects i
    rw [if_neg mine, if_neg (fun c => mine c.1)]
    exact ⟨selects.foreigns.trans (by rw [known]), _, by rw [known], selects⟩

end

/-! ### Exchanges -/

section
variable (y : ClSync) (t3 : Nat) (t4 cd : Int)

/-- R252: the time that an exchange gives, upstream and downstream. -/
def State.clUp : Int := s.clV i y.sIn - y.t1 - y.cs

def State.clDown : Int := t4 - s.clV i t3 - cd

/-- R252: the last 16 path delays with that of this exchange, and their mean. -/
def State.clWin : List Int := (roundDiv (s.clUp i y + s.clDown i t3 t4 cd) 2 :: (s.client i).mpdWin).take 16

def State.clMean : Int := roundDiv (s.clWin i y t3 t4 cd).sum (s.clWin i y t3 t4 cd).length

/-- R252: the offset θ of this exchange. -/
def State.clTheta : Int :=
  s.clUp i y - s.clMean i y t3 t4 cd - roundDiv (sfld (s.ac (Reg.SRV_PTP_CL_ASYM i)) 0 24 * 65536) 1000

/-- R252: a locked servo takes no offset beyond its limit. -/
def State.clOutlier (th : Int) : Prop :=
  (s.client i).servo = .locked ∧ fld (s.ac (Reg.SRV_PTP_CL_LIMITS i)) 0 16 * 65536 < th.natAbs

/-- STEP_RATE of client `i` (R254). -/
def State.clRate : Bool := bitAt (s.ac (Reg.SRV_PTP_CL_CFG i)) 16

/-- The client has had one more outlier, with its θ shown in STEP_RATE mode. -/
def State.clDiscard (th : Int) : State :=
  ((s.updClient i (fun c => { c with outliers := (s.client i).outliers + 1, theta := if s.clRate i then th else c.theta })).bump
    Reg.SRV_PTP_CL_OUTLIERS).raise 185

/-- The client has the values of a valid exchange. -/
def State.clMeasured (mpd : Int) (win : List Int) (th : Int) : State :=
  s.updClient i (fun c => { c with mpd := mpd, mpdWin := win, theta := th, outliers := 0 })

theorem State.clExchange_outlier (th : Int) (h : th = s.clTheta i y t3 t4 cd) (out : s.clOutlier i th) :
    s.clExchange i y t3 t4 cd =
      if 8 ≤ (s.client i).outliers + 1 && !s.clRate i then ((s.clDiscard i th).clSetServo i .acquire).clPortSync i
      else s.clDiscard i th := by
  subst h
  exact if_pos (by rw [Bool.and_eq_true, decide_eq_true_eq, decide_eq_true_eq]; exact out)

theorem State.clExchange_valid (th : Int) (h : th = s.clTheta i y t3 t4 cd) (out : ¬ s.clOutlier i th) :
    s.clExchange i y t3 t4 cd =
      (if s.ref.selected = some (9 + i) then (s.clMeasured i (s.clMean i y t3 t4 cd) (s.clWin i y t3 t4 cd) th).timeStateChange
        else s.clMeasured i (s.clMean i y t3 t4 cd) (s.clWin i y t3 t4 cd) th).clServo i th := by
  subst h
  exact if_neg (by rw [Bool.and_eq_true, decide_eq_true_eq, decide_eq_true_eq]; exact out)

/-- R253, R254: an outlier is counted with EV185, and leaves what valid exchanges gave. -/
theorem State.clExchange_outlier_does (th : Int) (h : th = s.clTheta i y t3 t4 cd) (out : s.clOutlier i th) :
    (s.clExchange i y t3 t4 cd).evSet 185 = true ∧
      (s.clExchange i y t3 t4 cd).rd Reg.SRV_PTP_CL_OUTLIERS = satAdd (s.rd Reg.SRV_PTP_CL_OUTLIERS) 1 ∧
      ((s.clExchange i y t3 t4 cd).client i).mpd = (s.client i).mpd ∧
      ((s.clExchange i y t3 t4 cd).client i).mpdWin = (s.client i).mpdWin ∧
      ((s.clExchange i y t3 t4 cd).client i).theta = if s.clRate i then th else (s.client i).theta := by
  have counted : (s.clDiscard i th).rd Reg.SRV_PTP_CL_OUTLIERS = satAdd (s.rd Reg.SRV_PTP_CL_OUTLIERS) 1 :=
    (State.raise_rd _ 185 _ (by decide) (by decide)).trans (State.bump_rd_same ..)
  have client : (s.clDiscard i th).client i = { s.client i with
      outliers := (s.client i).outliers + 1, theta := if s.clRate i then th else (s.client i).theta } := by
    unfold State.clDiscard
    rw [State.client_raise, State.client_bump, State.client_updClient_same]
  have servo : ServoWork i (s.clDiscard i th) (s.clExchange i y t3 t4 cd) := by
    rw [s.clExchange_outlier i y t3 t4 cd th h out]
    exact .ite (fun _ => (ServoWork.clSetServo (.refl _) _).clPortSync) fun _ => .refl _
  obtain ⟨_, _, mpd, win, theta⟩ := servo.exchange
  rw [client] at mpd win theta
  exact ⟨servo.work.sets 185 (by decide) (State.raise_evSet _ 185 (by decide)), servo.work.outliers.trans counted, mpd, win, theta⟩

/-- R252: a valid exchange gives the path delay and the offset. -/
theorem State.clExchange_valid_does (th : Int) (h : th = s.clTheta i y t3 t4 cd) (out : ¬ s.clOutlier i th) :
    ((s.clExchange i y t3 t4 cd).client i).mpdWin = s.clWin i y t3 t4 cd ∧
      ((s.clExchange i y t3 t4 cd).client i).mpd = s.clMean i y t3 t4 cd ∧
      ((s.clExchange i y t3 t4 cd).client i).theta = th := by
  have measured (mpd : Int) (win : List Int) : (s.clMeasured i mpd win th).client i =
      { s.client i with mpd := mpd, mpdWin := win, theta := th, outliers := 0 } := State.client_updClient_same ..
  have served (u : State) (c : Prop) [Decidable c] : (if c then u.timeStateChange else u).client i = u.client i := by
    split
    · exact u.client_timeStateChange i
    · rfl
  rw [s.clExchange_valid i y t3 t4 cd th h out]
  obtain ⟨_, _, mpd, win, theta⟩ := (State.clServo_servoWork (if s.ref.selected = some (9 + i) then
    (s.clMeasured i (s.clMean i y t3 t4 cd) (s.clWin i y t3 t4 cd) th).timeStateChange
    else s.clMeasured i (s.clMean i y t3 t4 cd) (s.clWin i y t3 t4 cd) th) i th).exchange
  rw [served, measured] at mpd win theta
  exact ⟨win, mpd, theta⟩

end

end

end Sys2Proof.Machine
end

section
/-!
PROOFS. The messages of an upstream client (R252).
-/

namespace Sys2Proof.Machine

/-- R252: a Sync that is whole is the one that the next exchange uses. -/
theorem State.clSync_does (s : State) (i : Nat) (y : ClSync) :
    ((s.clSync i y).client i).pair = some y ∧ ((s.clSync i y).client i).syncAt = (s.client i).syncAt := by
  obtain ⟨pair, at_, _⟩ := (State.clFit_servoWork (s.updClient i (fun c => { c with
    pair := some y, syncs := c.syncs.filter (fun z => z.seq != y.seq) })) i y).exchange
  rw [State.client_updClient_same] at pair at_
  exact ⟨pair, at_⟩

section
variable (p : List Byte)

/-- The type of a PTP message. -/
def ptpType : Nat := byteAt p 0 % 16

/-- The clock and the port that sent a PTP message. -/
def ptpSrc : Nat × Nat := (ofBe (slice p 20 8), ofBe (slice p 28 2))

def ptpSeq : Nat := ofBe (slice p 30 2)

def ptpCorr : Int := Machine.signed 64 (ofBe (slice p 8 8))

def ptpTwoStep : Bool := (BitVec.ofNat 8 (byteAt p 6)).getLsbD 1

end

section
variable (i : Fin 2) (f : Frame) (s : State)

/-- R252: client `i` takes messages, and this one is of its domain and of version 2. -/
def State.clTakes : Prop :=
  s.clEn i.val = true ∧ s.isUp (s.clPort i.val) = true ∧ byteAt f.payload 4 = s.clDomain i.val ∧ byteAt f.payload 1 % 16 = 2 ∧
    s.taskStopped (if ptpType f.payload = 0xB ∨ ptpType f.payload = 0xC then 1 else 0) = false

theorem State.clTakes_iff : ¬ (!s.clEn i.val || !s.isUp (s.clPort i.val) || byteAt f.payload 4 != s.clDomain i.val ||
      byteAt f.payload 1 % 16 != 2 ||
      s.taskStopped (if ptpType f.payload = 0xB || ptpType f.payload = 0xC then 1 else 0)) = true ↔ s.clTakes i f := by
  simp [State.clTakes, and_assoc]

theorem clientMessage_ignored (h : ¬ s.clTakes i f) : exec (.clientMessage i f) s = .next s :=
  if_pos (Classical.not_not.mp fun c => h ((s.clTakes_iff i f).mp c))

theorem clientMessage_unauthentic (h : s.clTakes i f) (auth : s.clAuthOk i.val f.payload = false) :
    exec (.clientMessage i f) s = .next (s.bump Reg.SRV_PTP_CL_DROP_AUTH) := by
  refine (if_neg ((s.clTakes_iff i f).mpr h)).trans (if_pos ?_)
  rw [auth]; rfl

/-- The address of the unicast master table from which the frame comes, or 3. -/
def State.clUmtOf : Nat := ((List.range 3).find? (fun j => s.clUmt i.val j == f.src)).getD 3

/-- R252: the Sync that frame `f` carries. -/
def State.clSyncOf : ClSync :=
  ⟨ptpSeq f.payload, if ptpTwoStep f.payload then 0 else ptpStamp f.payload 34, ptpCorr f.payload,
    s.stampOf (s.clPort i.val) f, !ptpTwoStep f.payload⟩

/-- A Sync of the master has come now, with its interval (R252). -/
def State.clSynced : State := s.updClient i.val (fun c => { c with
  syncAt := s.time.now
  syncLog := if Machine.signed 8 (byteAt f.payload 33) = 0x7F then c.syncLog else Machine.signed 8 (byteAt f.payload 33) })

/-- R252: client `i` has its master's Sync of frame `f`. -/
def State.clTakeSync : State :=
  if ptpTwoStep f.payload then
    (s.clSynced i f).updClient i.val (fun c => { c with syncs := (s.clSyncOf i f :: c.syncs).take 4 })
  else (s.clSynced i f).clSync i.val (s.clSyncOf i f)

section
variable {i f s} (takes : s.clTakes i f) (auth : s.clAuthOk i.val f.payload = true)
include takes auth

/-- A message that is taken and authentic passes the two checks. -/
theorem State.clTakes_guards {x y z r : Res} (h : z = r) : (if (!s.clEn i.val || !s.isUp (s.clPort i.val) ||
      byteAt f.payload 4 != s.clDomain i.val || byteAt f.payload 1 % 16 != 2 ||
      s.taskStopped (if ptpType f.payload = 0xB || ptpType f.payload = 0xC then 1 else 0)) = true then x
    else if (!s.clAuthOk i.val f.payload) = true then y else z) = r := by
  rw [if_neg ((s.clTakes_iff i f).mpr takes), auth]
  exact h

theorem clientMessage_announce (type : ptpType f.payload = 0xB) : exec (.clientMessage i f) s =
    .next (if s.clProfile i.val = 3 ∧ s.clUmtOf i f = 3 then s else s.clAnnounce i.val (s.clUmtOf i f) f.payload) := by
  refine State.clTakes_guards takes auth ?_
  unfold ptpType at type
  simp only [type, Bool.and_eq_true, decide_eq_true_eq]
  rfl

theorem clientMessage_signalling (type : ptpType f.payload = 0xC) : exec (.clientMessage i f) s =
    .next (if s.clProfile i.val = 3 ∧ s.clUmtOf i f < 3 then s.clGrants i.val (s.clUmtOf i f) f.payload else s) := by
  refine State.clTakes_guards takes auth ?_
  unfold ptpType at type
  simp only [type, Bool.and_eq_true, decide_eq_true_eq]
  rfl

theorem clientMessage_sync (type : ptpType f.payload = 0) (mine : (s.client i.val).master = some (ptpSrc f.payload)) :
    exec (.clientMessage i f) s = .next (s.clTakeSync i f) := by
  refine State.clTakes_guards takes auth ?_
  unfold ptpType at type
  unfold ptpSrc at mine
  simp only [type, mine, decide_true, Bool.not_true, Bool.false_eq_true, if_false]
  exact (apply_ite Host.Outcome.next ..).symm

theorem clientMessage_followUp (type : ptpType f.payload = 8) (mine : (s.client i.val).master = some (ptpSrc f.payload)) {y : ClSync}
    (found : (s.client i.val).syncs.find? (fun y => y.seq == ptpSeq f.payload) = some y) : exec (.clientMessage i f) s =
      .next (s.clSync i.val { y with t1 := ptpStamp f.payload 34, cs := y.cs + ptpCorr f.payload, done := true }) := by
  refine State.clTakes_guards takes auth ?_
  unfold ptpType at type
  unfold ptpSrc at mine
  unfold ptpSeq at found
  simp only [type, mine, found, decide_true, Bool.not_true, Bool.false_eq_true, if_false]
  rfl

theorem clientMessage_followUp_unknown (type : ptpType f.payload = 8)
    (found : (s.client i.val).syncs.find? (fun y => y.seq == ptpSeq f.payload) = none) : exec (.clientMessage i f) s = .next s := by
  refine State.clTakes_guards takes auth ?_
  unfold ptpType at type
  unfold ptpSeq at found
  simp only [type, found, ite_self]

theorem clientMessage_delayResp (type : ptpType f.payload = 9) (mine : (s.client i.val).master = some (ptpSrc f.payload))
    (ident : slice f.payload 44 10 = s.portIdent s.cfg.gen (s.clPort i.val)) {t3 : Nat} {y : ClSync}
    (asked : (s.client i.val).dreq = some (ptpSeq f.payload, some t3)) (synced : (s.client i.val).pair = some y) :
    exec (.clientMessage i f) s = .next ((s.updClient i.val (fun c => { c with dreq := none })).clExchange i.val y t3
      (ptpStamp f.payload 34) (ptpCorr f.payload)) := by
  refine State.clTakes_guards takes auth ?_
  unfold ptpType at type
  unfold ptpSrc at mine
  unfold ptpSeq at asked
  simp only [type, mine, ident, asked, synced, decide_true, Bool.not_true, bne_self_eq_false, Bool.or_false, Bool.false_eq_true,
    if_false, if_true]
  rfl

theorem clientMessage_delayResp_other (type : ptpType f.payload = 9)
    (other : ∀ t3 y, (s.client i.val).dreq = some (ptpSeq f.payload, some t3) → (s.client i.val).pair = some y →
      (s.client i.val).master = some (ptpSrc f.payload) → slice f.payload 44 10 ≠ s.portIdent s.cfg.gen (s.clPort i.val)) :
    exec (.clientMessage i f) s = .next s := by
  refine State.clTakes_guards takes auth ?_
  unfold ptpType at type
  simp only [type]
  split
  · rfl
  · rename_i c
    simp only [Bool.or_eq_true, Bool.not_eq_true', decide_eq_false_iff_not, bne_iff_ne, not_or, not_not] at c
    split
    · rename_i q t3 y asked synced
      split
      · rename_i seq
        exact absurd c.2 (other t3 y (asked.trans (by rw [seq]; rfl)) synced c.1)
      · rfl
    · rfl

/-- R252: a Sync or a Follow_Up of another clock or port is not taken. -/
theorem clientMessage_foreign (type : ptpType f.payload = 0 ∨ ptpType f.payload = 8)
    (other : (s.client i.val).master ≠ some (ptpSrc f.payload)) : exec (.clientMessage i f) s = .next s := by
  refine State.clTakes_guards takes auth ?_
  unfold ptpType at type
  unfold ptpSrc at other
  rcases type with type | type
  · simp only [type, other, decide_false, Bool.not_false, if_true]
  · simp only [type, other, decide_false, Bool.not_false, if_true]

theorem clientMessage_otherType (type : ptpType f.payload ≠ 0xB ∧ ptpType f.payload ≠ 0xC ∧ ptpType f.payload ≠ 0 ∧
    ptpType f.payload ≠ 8 ∧ ptpType f.payload ≠ 9) : exec (.clientMessage i f) s = .next s := by
  refine State.clTakes_guards takes auth ?_
  unfold ptpType at type
  obtain ⟨announce, signalling, sync, followUp, delayResp⟩ := type
  dsimp only
  split
  · exact absurd ‹_› announce
  · exact absurd ‹_› signalling
  · exact absurd ‹_› sync
  · exact absurd ‹_› followUp
  · exact absurd ‹_› delayResp
  · rfl

end

/-! ### The statement on messages -/

/-- R252: a Sync of the master is remembered, or is whole. -/
theorem State.clTakeSync_does : ((s.clTakeSync i f).client i.val).syncAt = s.time.now ∧
    if ptpTwoStep f.payload then
      ((s.clTakeSync i f).client i.val).syncs = (s.clSyncOf i f :: (s.client i.val).syncs).take 4 ∧
        ((s.clTakeSync i f).client i.val).pair = (s.client i.val).pair
    else ((s.clTakeSync i f).client i.val).pair = some (s.clSyncOf i f) := by
  have synced : (s.clSynced i f).client i.val = _ := State.client_updClient_same ..
  unfold State.clTakeSync
  by_cases two : ptpTwoStep f.payload = true
  · rw [if_pos two, if_pos two, State.client_updClient_same, synced]
    exact ⟨rfl, rfl, rfl⟩
  · rw [if_neg two, if_neg two]
    obtain ⟨pair, at_⟩ := (s.clSynced i f).clSync_does i.val (s.clSyncOf i f)
    exact ⟨at_.trans (by rw [synced]), pair⟩

end
end Sys2Proof.Machine
end

section
/-!
PROOFS. The commands of the upstream clients (R249, R250), and the statement on them.
-/

namespace Sys2Proof.Machine

section
variable (i : Fin 2) (s : State)

/-! ### Delay_Req -/

/-- The Delay_Req that client `i` would send next, without its TLV (R249). -/
def State.clDelayMsg : List Byte :=
  ptpHeader 1 (if s.clAuth i.val = true then 70 else 44) (s.clDomain i.val) (bn (s.clProfile i.val == 3) 10) 0
    (s.portIdent s.cfg.gen (s.clPort i.val)) (s.client i.val).dseq 1 0x7F ++ List.replicate 10 0

/-- The client awaits the answer to its next Delay_Req. -/
def State.clDelayAsked : State := s.updClient i.val (fun c => { c with
  dreq := some ((s.client i.val).dseq, none), dseq := ((s.client i.val).dseq + 1) % 65536 })

/-- R249: a client with a master, and on a port that serves, sends Delay_Req. -/
def State.clAsksDelay : Prop :=
  s.clEn i.val = true ∧ (s.client i.val).master.isSome = true ∧ s.isUp (s.clPort i.val) = true ∧ s.taskStopped 0 = false

theorem State.clAsksDelay_iff : ¬ (!s.clEn i.val || (s.client i.val).master.isNone || !s.isUp (s.clPort i.val) ||
    s.taskStopped 0) = true ↔ s.clAsksDelay i := by
  simp [State.clAsksDelay, and_assoc, Option.isSome_iff_ne_none]

theorem clientDelayReq_idle (h : ¬ s.clAsksDelay i) : exec (.clientDelayReq i) s = .next s :=
  if_pos (Classical.not_not.mp fun c => h ((s.clAsksDelay_iff i).mp c))

theorem clientDelayReq_unsigned (h : s.clAsksDelay i) (unsigned : s.clSigned i.val (s.clDelayMsg i) = none) :
    exec (.clientDelayReq i) s = .next s := by
  refine (if_neg ((s.clAsksDelay_iff i).mpr h)).trans ?_
  unfold State.clDelayMsg at unsigned
  simp only [unsigned]

theorem clientDelayReq_sends (h : s.clAsksDelay i) {m : List Byte} (signed : s.clSigned i.val (s.clDelayMsg i) = some m) :
    ∃ len head, exec (.clientDelayReq i) s = .next ((s.clDelayAsked i).bePush (s.clPort i.val)
      (.delayReq i.val (s.client i.val).dseq) len m (some head)) := by
  change ∃ len head, execClientDelayReq i s = _
  unfold execClientDelayReq
  unfold State.clDelayMsg at signed
  dsimp only
  rw [if_neg ((s.clAsksDelay_iff i).mpr h), signed]
  exact ⟨_, _, rfl⟩

/-- R71, R149: a frame takes a place in the queue of a port that is UP, and the clients are as before. -/
theorem State.bePush_up {n : Nat} (up : s.isUp n = true) (kind : BeKind) (len : Nat) (m : List Byte) (head : Option FrameHead) :
    (∀ j, (s.bePush n kind len m head).client j = s.client j) ∧
      ∃ f, ((s.bePush n kind len m head).port n).be = (s.port n).be ++ [f] ∧ f.kind = kind ∧ f.bytes = m := by
  unfold State.bePush
  rw [if_pos up]
  exact ⟨fun _ => rfl, _, congrArg PortSt.be (State.port_updPort_same ..), rfl, rfl⟩

/-! ### Renewals and retries -/

theorem clientGrantRenew_none (j : Fin 3) (type : Fin 16)
    (h : (s.client i.val).grants.find? (fun p => p.1 == 16 * j.val + type.val) = none) :
    exec (.clientGrantRenew i j type) s = .next s := by
  change execClientGrantRenew i j type s = _
  unfold execClientGrantRenew
  rw [h]

/-- R249: a renewal is asked for when half of the grant has elapsed, by a client of profile 3 that has not asked yet. -/
def State.clRenews (g : ClGrant) : Prop :=
  s.clEn i.val = true ∧ s.clProfile i.val = 3 ∧ g.asked = false ∧ s.taskStopped 1 = false

theorem State.clRenews_iff (g : ClGrant) : ¬ (!s.clEn i.val || s.clProfile i.val ≠ 3 || g.asked || s.taskStopped 1) = true ↔
    s.clRenews i g := by
  simp [State.clRenews, and_assoc]

/-- The renewal of a grant is wanted until it is granted. -/
def State.clAwait (p : Nat × ClGrant) : State := s.updClient i.val (fun c => { c with
  grants := tput c.grants p.1 { p.2 with asked := true }
  retryAt := some (match c.retryAt with
    | some t => t
    | none => s.time.now + sTicks)
  asked := true })

section
variable {i s} {j : Fin 3} {type : Fin 16} {p : Nat × ClGrant}
  (h : (s.client i.val).grants.find? (fun p => p.1 == 16 * j.val + type.val) = some p)
include h

theorem clientGrantRenew_idle (idle : ¬ s.clRenews i p.2) : exec (.clientGrantRenew i j type) s = .next s := by
  change execClientGrantRenew i j type s = _
  unfold execClientGrantRenew
  rw [h]
  exact if_pos (Classical.not_not.mp fun c => idle ((s.clRenews_iff i p.2).mp c))

theorem clientGrantRenew_sends (renews : s.clRenews i p.2) : exec (.clientGrantRenew i j type) s =
    .next (((s.advTo p.2.renewAt).clRequest i.val j.val type.val).clAwait i p) := by
  change execClientGrantRenew i j type s = _
  unfold execClientGrantRenew
  rw [h]
  exact if_neg ((s.clRenews_iff i p.2).mpr renews)

end

theorem clientRetry_none (h : (s.client i.val).retryAt = none) : exec (.clientRetry i) s = .next s := by
  change execClientRetry i s = _
  unfold execClientRetry
  simp only [h]

theorem clientRetry_stopped (h : s.taskStopped 1 = true) : exec (.clientRetry i) s = .next s := by
  change execClientRetry i s = _
  unfold execClientRetry
  simp only [h, if_true]
  split <;> rfl

theorem clientRetry_asks {a : Nat} (h : (s.client i.val).retryAt = some a) (serves : ¬ s.taskStopped 1 = true) :
    exec (.clientRetry i) s = .next ((s.advTo a).clAsk i.val (if (s.client i.val).asked = true then 10 else 1)) := by
  change execClientRetry i s = _
  unfold execClientRetry
  simp only [h, if_neg serves, State.client_advTo]

/-! ### Timeouts -/

theorem clientAnnounceTimeout_none (h : (s.client i.val).master = none) : exec (.clientAnnounceTimeout i) s = .next s := by
  change execClientAnnounceTimeout i s = _
  unfold execClientAnnounceTimeout
  simp only [h]

theorem clientAnnounceTimeout_listens {m : Nat × Nat} (h : (s.client i.val).master = some m) :
    ∃ a, exec (.clientAnnounceTimeout i) s = .next (((s.advTo a).clListen i.val).internalRefs) := by
  change ∃ a, execClientAnnounceTimeout i s = _
  unfold execClientAnnounceTimeout
  simp only [h]
  exact ⟨_, rfl⟩

theorem clientSyncTimeout_idle (h : ¬ ((s.client i.val).port = .slave ∨ (s.client i.val).port = .uncalibrated)) :
    exec (.clientSyncTimeout i) s = .next s :=
  if_neg (by rwa [Bool.or_eq_true, decide_eq_true_eq, decide_eq_true_eq])

theorem clientSyncTimeout_listens (h : (s.client i.val).port = .slave ∨ (s.client i.val).port = .uncalibrated) :
    exec (.clientSyncTimeout i) s = .next (((s.advTo ((s.client i.val).syncAt +
      3 * sTicks * (s.clDelta i.val).1 / (s.clDelta i.val).2)).clListen i.val).internalRefs) :=
  if_pos (by rwa [Bool.or_eq_true, decide_eq_true_eq, decide_eq_true_eq])

/-- R250: a client that listens after a wait until `a`. -/
theorem State.clListen_after (a : Nat) : Listens i.val s ((s.advTo a).clListen i.val).internalRefs := by
  obtain ⟨master, port, foreigns, event, servo⟩ := (s.advTo a).clListen_listens i.val
  rw [State.client_advTo] at foreigns event servo
  exact ⟨master, port, foreigns, event, servo⟩

theorem State.clListen_now (a : Nat) : ((s.advTo a).clListen i.val).internalRefs.time.now = max s.time.now a := by
  have listen : ((s.advTo a).clListen i.val).time = (s.advTo a).time :=
    (State.clListen_touch (w := 542114305) rfl (s.advTo a) i.val (.refl ..)).same .time rfl
  have refs (u : State) : u.internalRefs.time = u.time := (State.internalRefs_touch (w := 541065729) rfl u (.refl ..)).same .time rfl
  rw [refs, listen, State.advTo_now]

/-! ### What the requests leave -/

theorem State.clRequest_after (a j ty : Nat) : Asked i.val (requestTlv ty (s.clLog i.val ty) (fld (s.ac (Reg.SRV_PTP_CL_DUR i.val)) 0 16))
    (s.advTo a) ((s.advTo a).clRequest i.val j ty) := by
  have log : (s.advTo a).clLog i.val ty = s.clLog i.val ty := by unfold State.clLog; rw [State.ac_advTo]
  have sent := (s.advTo a).clSignal_asked i.val j
    (requestTlv ty ((s.advTo a).clLog i.val ty) (fld ((s.advTo a).ac (Reg.SRV_PTP_CL_DUR i.val)) 0 16))
  rw [log, State.ac_advTo] at sent
  unfold State.clRequest
  rwa [log, State.ac_advTo]

/-- R249: a renewal is sent at its time, and wanted until it is granted. -/
theorem State.clRenew_does (j ty : Nat) (p : Nat × ClGrant) (t : State)
    (ht : t = ((s.advTo p.2.renewAt).clRequest i.val j ty).clAwait i p) : t.time.now = max s.time.now p.2.renewAt ∧
      Asked i.val (requestTlv ty (s.clLog i.val ty) (fld (s.ac (Reg.SRV_PTP_CL_DUR i.val)) 0 16)) (s.advTo p.2.renewAt) t ∧
      (t.client i.val).grants = tput (s.client i.val).grants p.1 { p.2 with asked := true } ∧
      (t.client i.val).retryAt.isSome = true := by
  subst ht
  obtain ⟨seq, queued⟩ := s.clRequest_after i p.2.renewAt j ty
  have time : ((s.advTo p.2.renewAt).clRequest i.val j ty).time = (s.advTo p.2.renewAt).time :=
    (State.clRequest_touch (w := 537924097) rfl _ i.val j ty (.refl ..)).same .time rfl
  have client : ((s.advTo p.2.renewAt).clRequest i.val j ty).client i.val = _ := State.client_clSignal ..
  have now : (((s.advTo p.2.renewAt).clRequest i.val j ty).clAwait i p).time.now = max s.time.now p.2.renewAt :=
    (congrArg TimeSt.now time).trans (State.advTo_now ..)
  refine ⟨now, ⟨?_, queued⟩, ?_, ?_⟩
  all_goals unfold State.clAwait; rw [State.client_updClient_same]
  · exact seq
  · dsimp only
    rw [client, State.client_advTo]
  · rfl

/-- R249: a retry sends what the client lacks at its time. -/
theorem State.clRetry_does (a wait : Nat) (t : State) (ht : t = (s.advTo a).clAsk i.val wait) (w : List (Nat × Nat))
    (hw : w = (s.advTo a).clWants i.val) : t.time.now = max s.time.now a ∧ (t.client i.val).asked = !w.isEmpty ∧
      (t.client i.val).retryAt = (if w.isEmpty = true then none else some (t.time.now + sTicks * wait)) ∧
      (∀ x, w = [x] → Asked i.val (requestTlv x.2 (s.clLog i.val x.2) (fld (s.ac (Reg.SRV_PTP_CL_DUR i.val)) 0 16)) (s.advTo a) t) ∧
      (s.isUp (s.clPort i.val) = true → s.clAuth i.val = false →
        (t.port (s.clPort i.val)).be.length = (s.port (s.clPort i.val)).be.length + w.length) := by
  subst ht hw
  have port : (s.advTo a).clPort i.val = s.clPort i.val := by unfold State.clPort; rw [State.ac_advTo]
  obtain ⟨q, client⟩ := (s.advTo a).client_clAsk i.val wait
  have time := (s.advTo a).clAsk_time i.val wait
  refine ⟨by rw [time, State.advTo_now], by rw [client], by rw [client, time], fun x hx => ?_, fun up auth => ?_⟩
  · have log : (s.advTo a).clLog i.val x.2 = s.clLog i.val x.2 := by unfold State.clLog; rw [State.ac_advTo]
    have sent := (s.advTo a).clAsk_asked i.val wait hx
    rwa [log, State.ac_advTo] at sent
  · have up' : (s.advTo a).isUp ((s.advTo a).clPort i.val) = true := by
      rw [port]; unfold State.isUp; rwa [State.port_advTo]
    have auth' : (s.advTo a).clAuth i.val = false := by unfold State.clAuth; rwa [State.ac_advTo]
    have length := (s.advTo a).clRequests_length i.val up' auth' ((s.advTo a).clWants i.val)
    unfold State.clAsk
    dsimp only
    rw [State.port_updClient, ← State.port_advTo s a, ← port]
    exact length

end

/-! ### The statement -/

/-- A statement by cases, where its condition holds. -/
theorem ite_intro_pos {c P Q : Prop} [Decidable c] (hc : c) (h : P) : if c then P else Q := by rwa [if_pos hc]

theorem ite_intro_neg {c P Q : Prop} [Decidable c] (hc : ¬ c) (h : Q) : if c then P else Q := by rwa [if_neg hc]

/-- Settles O34: a case for each command of a client; an Announce and an exchange are the lemmas on the master and on the servo. -/
theorem clients : Obligations.Clients := by
  unfold Obligations.Clients
  refine ⟨?message, ?announce, ?exchange, ?delayReq, ?renew, ?retry, ?announceTimeout, ?syncTimeout⟩
  case message =>
    intro i f s p k taken hp hk htaken
    subst hp
    have takes : taken ↔ s.clTakes i f := by subst hk; exact htaken
    by_cases ready : s.clTakes i f
    case neg =>
      have off (h : taken) : False := ready (takes.mp h)
      exact ⟨s, clientMessage_ignored i f s ready, fun _ => rfl, fun h => (off h).elim, fun h => (off h).elim⟩
    have on := takes.mpr ready
    cases auth : s.clAuthOk i.val f.payload
    case false =>
      exact ⟨_, clientMessage_unauthentic i f s ready auth, fun h => absurd on h, fun _ _ => rfl, fun _ h => by simp at h⟩
    have done {t : State} {P : Prop} (h : P) : (¬ taken → t = s) ∧
        (taken → true = false → t = s.bump Reg.SRV_PTP_CL_DROP_AUTH) ∧ (taken → true = true → P) :=
      ⟨fun h => absurd on h, fun _ h => by simp at h, fun _ _ => h⟩
    have type : ptpType f.payload = k := hk.symm
    by_cases kB : k = 0xB
    · subst kB
      exact ⟨_, clientMessage_announce ready auth type, done rfl⟩
    by_cases kC : k = 0xC
    · subst kC
      exact ⟨_, clientMessage_signalling ready auth type, done rfl⟩
    by_cases k0 : k = 0
    · subst k0
      by_cases mine : (s.client i.val).master = some (ptpSrc f.payload)
      · obtain ⟨at_, kept⟩ := s.clTakeSync_does i f
        exact ⟨_, clientMessage_sync ready auth type mine, done (ite_intro_neg (not_not.mpr mine) ⟨at_, kept⟩)⟩
      · exact ⟨_, clientMessage_foreign ready auth (.inl type) mine, done (ite_intro_pos mine rfl)⟩
    by_cases k8 : k = 8
    · subst k8
      cases found : (s.client i.val).syncs.find? (fun y => y.seq == ptpSeq f.payload) with
      | none =>
        refine ⟨_, clientMessage_followUp_unknown ready auth type found, done ?_⟩
        unfold ptpSeq at found
        simp only [found]
      | some y =>
        by_cases mine : (s.client i.val).master = some (ptpSrc f.payload)
        · have whole := s.clSync_does i.val { y with t1 := ptpStamp f.payload 34, cs := y.cs + ptpCorr f.payload, done := true }
          refine ⟨_, clientMessage_followUp ready auth type mine found, done ?_⟩
          unfold ptpSeq at found
          simp only [found]
          exact ite_intro_neg (not_not.mpr mine) whole.1
        · refine ⟨_, clientMessage_foreign ready auth (.inr type) mine, done ?_⟩
          unfold ptpSeq at found
          simp only [found]
          exact ite_intro_pos mine trivial
    by_cases k9 : k = 9
    · subst k9
      by_cases whole : ∃ t3 y, (s.client i.val).dreq = some (ptpSeq f.payload, some t3) ∧ (s.client i.val).pair = some y ∧
          (s.client i.val).master = some (ptpSrc f.payload) ∧ slice f.payload 44 10 = s.portIdent s.cfg.gen (s.clPort i.val)
      · obtain ⟨t3, y, asked, synced, mine, ident⟩ := whole
        refine ⟨_, clientMessage_delayResp ready auth type mine ident asked synced, done ?_⟩
        simp only [asked, synced]
        exact ite_intro_pos ⟨mine, ident, rfl⟩ rfl
      · refine ⟨_, clientMessage_delayResp_other ready auth type fun t3 y asked synced mine ident =>
          whole ⟨t3, y, asked, synced, mine, ident⟩, done ?_⟩
        simp only
        split
        · rename_i q t3 y asked synced
          refine ite_intro_neg ?_ trivial
          rintro ⟨mine, ident, seq⟩
          exact whole ⟨t3, y, by rw [asked, seq]; rfl, synced, mine, ident⟩
        · trivial
    refine ⟨s, clientMessage_otherType ready auth (by rw [type]; exact ⟨kB, kC, k0, k8, k9⟩), done ?_⟩
    dsimp only
    split
    · exact absurd rfl kB
    · exact absurd rfl kC
    · exact absurd rfl k0
    · exact absurd rfl k8
    · exact absurd rfl k9
    · rfl
  case announce =>
    intro s i j p t src hsrc ht
    subst hsrc ht
    obtain ⟨foreigns, rest⟩ := s.clAnnounce_does i _ j p rfl
    refine ⟨⟨s.clHeard i j p, rfl, rfl, rfl, rfl, rfl, foreigns⟩, ?_⟩
    by_cases gone : (s.client i).master = some ((s.clHeard i j p).ident, (s.clHeard i j p).portNo) ∧ s.clAccept i < (s.clHeard i j p).cls
    · rw [if_pos gone] at rest
      exact ite_intro_pos gone rest
    · rw [if_neg gone] at rest
      obtain ⟨u, master, selects⟩ := rest
      refine ite_intro_neg gone ?_
      cases best : (s.clAnnounce i j p).clBest i with
      | none => exact (selects.kept best).trans master
      | some g => exact ⟨selects.best g best, fun ne => selects.new g best (master ▸ ne)⟩
  case exchange =>
    intro s i y t3 t4 cd t ms sm win mpd th hms hsm hwin hmpd hth ht
    subst hms hsm hwin hmpd ht
    by_cases out : s.clOutlier i th
    · exact ite_intro_pos out (s.clExchange_outlier_does i y t3 t4 cd th hth out)
    · exact ite_intro_neg out (s.clExchange_valid_does i y t3 t4 cd th hth out)
  case delayReq =>
    intro i s
    by_cases asks : s.clAsksDelay i
    case neg => exact ⟨s, clientDelayReq_idle i s asks, ite_intro_neg asks rfl⟩
    cases signed : s.clSigned i.val (s.clDelayMsg i) with
    | none =>
      refine ⟨s, clientDelayReq_unsigned i s asks signed, ite_intro_pos asks ?_⟩
      unfold State.clDelayMsg at signed
      simp only [signed]
    | some m =>
      obtain ⟨len, head, runs⟩ := clientDelayReq_sends i s asks signed
      obtain ⟨kept, queued⟩ := (s.clDelayAsked i).bePush_up asks.2.2.1 (.delayReq i.val (s.client i.val).dseq) len m (some head)
      refine ⟨_, runs, ite_intro_pos asks ?_⟩
      unfold State.clDelayMsg at signed
      simp only [signed]
      exact ⟨(kept i.val).trans (State.client_updClient_same ..), queued⟩
  case renew =>
    intro i j type s
    cases held : (s.client i.val).grants.find? (fun p => p.1 == 16 * j.val + type.val) with
    | none => exact ⟨s, clientGrantRenew_none i s j type held, rfl⟩
    | some p =>
      by_cases renews : s.clRenews i p.2
      · exact ⟨_, clientGrantRenew_sends held renews, ite_intro_pos renews (s.clRenew_does i j.val type.val p _ rfl)⟩
      · exact ⟨s, clientGrantRenew_idle held renews, ite_intro_neg renews rfl⟩
  case retry =>
    intro i s
    cases due : (s.client i.val).retryAt with
    | none => exact ⟨s, clientRetry_none i s due, rfl⟩
    | some a =>
      by_cases stopped : s.taskStopped 1 = true
      · exact ⟨s, clientRetry_stopped i s stopped, ite_intro_pos stopped rfl⟩
      · exact ⟨_, clientRetry_asks i s due stopped, ite_intro_neg stopped (s.clRetry_does i a _ _ rfl _ rfl)⟩
  case announceTimeout =>
    intro i s
    cases master : (s.client i.val).master with
    | none => exact ⟨s, clientAnnounceTimeout_none i s master, rfl⟩
    | some m =>
      obtain ⟨a, runs⟩ := clientAnnounceTimeout_listens i s master
      have listens := s.clListen_after i a
      exact ⟨_, runs, (s.clListen_now i a).symm ▸ Nat.le_max_left .., listens.master, listens.port, listens.event, listens.servo⟩
  case syncTimeout =>
    intro i s
    by_cases follows : (s.client i.val).port = .slave ∨ (s.client i.val).port = .uncalibrated
    · have listens := s.clListen_after i ((s.client i.val).syncAt + 3 * sTicks * (s.clDelta i.val).1 / (s.clDelta i.val).2)
      have moved : (s.client i.val).port ≠ .listening := by
        rcases follows with h | h
        · rw [h]; decide
        · rw [h]; decide
      exact ⟨_, clientSyncTimeout_listens i s follows, ite_intro_pos follows
        ⟨s.clListen_now i _, listens.master, listens.port, listens.event moved, listens.servo⟩⟩
    · exact ⟨s, clientSyncTimeout_idle i s follows, ite_intro_neg follows rfl⟩

end Sys2Proof.Machine
end

section
/-!
PROOFS. Work on one compare slot: what an arm makes of it, and what neither an arm nor a firing loses.
-/

namespace Sys2Proof.Machine

/-! ### Events that stand -/

/-- Every event that stands in EVT_STAT of `s` stands in that of `t`. -/
def KeepsEvents (s t : State) : Prop := ∀ e, e < 256 → s.evSet e = true → t.evSet e = true

section
variable {s t u : State}

theorem KeepsEvents.refl (s : State) : KeepsEvents s s := fun _ _ h => h

theorem KeepsEvents.trans (h : KeepsEvents s t) (k : KeepsEvents t u) : KeepsEvents s u := fun e he x => k e he (h e he x)

theorem KeepsEvents.of_live (h : t.live = s.live) : KeepsEvents s t := fun e _ x => (State.evSet_congr h e).trans x

theorem KeepsEvents.ite {c : Prop} [Decidable c] (h : KeepsEvents s t) (k : KeepsEvents s u) : KeepsEvents s (if c then t else u) := by
  split <;> assumption

theorem KeepsEvents.foldl {α : Type} {f : State → α → State} (step : ∀ t a, KeepsEvents t (f t a)) (l : List α) (s : State) :
    KeepsEvents s (l.foldl f s) := by
  induction l generalizing s with
  | nil => exact .refl s
  | cons a l ih => exact (step s a).trans (ih _)

theorem KeepsEvents.raise (h : KeepsEvents s t) {e : Nat} (k : e < 256) : KeepsEvents s (t.raise e) :=
  h.trans fun x _ => (State.raise_evOnly t e k).sets x

/-- A write of a register that holds no event status. -/
theorem KeepsEvents.wr (h : KeepsEvents s t) {a : Nat} (v : Word) (ev : evKey a = false) : KeepsEvents s (t.wr a v) := by
  refine h.trans fun e he x => ?_
  unfold State.evSet at *
  rwa [State.rd_wr_ne]
  intro eq
  rw [← eq, evKey_stat e he] at ev
  cases ev

end

/-! ### What work on a slot loses of its status and of the events -/

/-- The registers of the compare slots hold no event status. -/
theorem evKey_of_slotKey {a : Nat} (h : slotKey a = true) : evKey a = false := by
  simp only [slotKey, Bool.and_eq_true, decide_eq_true_eq] at h
  simp only [evKey, Bool.or_eq_false_iff, Bool.and_eq_false_iff, decide_eq_false_iff_not]
  unfold Reg.EVT_STAT Reg.EVT_CORE_STAT
  omega

theorem evKey_slotStat {i : Nat} (hi : i < 256) : evKey (Reg.TSC_CS_STAT i) = false :=
  evKey_of_slotKey (slotKey_of_offset hi (d := 0x14) (by decide))

/-- A change of the upper half of a word leaves the bits of the lower half. -/
theorem bitAt_putFld_upper (v : Word) (n : Nat) {b : Nat} (hb : b < 16) (h : bitAt v b = true) : bitAt (putFld v 16 16 n) b = true := by
  have mask : ∀ b < 16, (fldMask 16 16).getLsbD b = false := by decide
  unfold putFld
  refine bitAt_or _ _ _ ?_
  unfold bitAt at *
  simp [h, mask b hb]
  omega

/-- From `s` to `t` no event is lost, nor a status bit of slot `i` (R50). -/
structure SlotTold (i : Nat) (s t : State) : Prop where
  events : KeepsEvents s t
  stat : ∀ b, b < 16 → bitAt (s.rd (Reg.TSC_CS_STAT i)) b = true → bitAt (t.rd (Reg.TSC_CS_STAT i)) b = true

/-- `t` is `s` after work on slot `i`, which leaves every other slot. -/
structure SlotOnly (i : Nat) (s t : State) : Prop where
  told : SlotTold i s t
  others : ∀ j, j ≠ i → t.slot j = s.slot j

section
variable {s t u : State} {i : Nat}

theorem SlotTold.trans (h : SlotTold i s t) (k : SlotTold i t u) : SlotTold i s u :=
  ⟨h.events.trans k.events, fun b hb x => k.stat b hb (h.stat b hb x)⟩

theorem SlotTold.of_live (h : t.live = s.live) : SlotTold i s t :=
  ⟨.of_live h, fun _ _ x => (State.rd_congr h _).symm ▸ x⟩

theorem SlotTold.raise (h : SlotTold i s t) (hi : i < 256) {e : Nat} (k : e < 256) : SlotTold i s (t.raise e) :=
  h.trans ⟨.raise (.refl t) k, fun _ _ x => by rwa [State.raise_rd t e _ k (evKey_slotStat hi)]⟩

theorem SlotTold.wr (h : SlotTold i s t) {a : Nat} (v : Word) (ev : evKey a = false) (ne : Reg.TSC_CS_STAT i ≠ a) :
    SlotTold i s (t.wr a v) :=
  h.trans ⟨.wr (.refl t) v ev, fun _ _ x => by rwa [State.rd_wr_ne _ _ ne]⟩

theorem SlotOnly.refl (i : Nat) (s : State) : SlotOnly i s s := ⟨.of_live rfl, fun _ _ => rfl⟩

theorem SlotOnly.trans (h : SlotOnly i s t) (k : SlotOnly i t u) : SlotOnly i s u :=
  ⟨h.told.trans k.told, fun j ne => (k.others j ne).trans (h.others j ne)⟩

theorem SlotOnly.ite {c : Prop} [Decidable c] (h : SlotOnly i s t) (k : SlotOnly i s u) : SlotOnly i s (if c then t else u) := by
  split <;> assumption

theorem SlotOnly.updSlot (h : SlotOnly i s t) (f : Slot → Slot) : SlotOnly i s (t.updSlot i f) :=
  h.trans ⟨.of_live rfl, fun _ ne => State.slot_updSlot_ne _ _ ne⟩

theorem SlotOnly.raise (h : SlotOnly i s t) (hi : i < 256) {e : Nat} (k : e < 256) : SlotOnly i s (t.raise e) :=
  ⟨h.told.raise hi k, fun j ne => by rw [State.slot_raise, h.others j ne]⟩

/-- A write of a register of the slot other than its status. -/
theorem SlotOnly.wrReg (h : SlotOnly i s t) (hi : i < 256) {d : Nat} (hd : d < 0x20) (ne : d ≠ 0x14) (v : Word) :
    SlotOnly i s (t.wr (0x0101000 + d + 0x20 * i) v) :=
  ⟨h.told.wr v (evKey_of_slotKey (slotKey_of_offset hi hd)) (by unfold Reg.TSC_CS_STAT; omega), h.others⟩

/-- A write of a pair of registers of the slot that does not hold its status. -/
theorem SlotOnly.wr64 (h : SlotOnly i s t) (hi : i < 256) {d : Nat} (hd : d + 4 < 0x20) (ne : d ≠ 0x14 ∧ d ≠ 0x10) (n : Nat) :
    SlotOnly i s (t.wr64 (0x0101000 + d + 0x20 * i) n) := by
  unfold State.wr64
  rw [show 0x0101000 + d + 0x20 * i + 4 = 0x0101000 + (d + 4) + 0x20 * i by omega]
  exact (h.wrReg hi (by omega) ne.1 _).wrReg hi hd (by omega) _

/-- A write of the slot's status that clears none of its bits. -/
theorem SlotOnly.wrStat (h : SlotOnly i s t) (hi : i < 256) {v : Word}
    (kept : ∀ b, b < 16 → bitAt (t.rd (Reg.TSC_CS_STAT i)) b = true → bitAt v b = true) : SlotOnly i s (t.wr (Reg.TSC_CS_STAT i) v) :=
  h.trans ⟨⟨.wr (.refl t) v (evKey_slotStat hi), fun b hb x => by rw [State.rd_wr_same]; exact kept b hb x⟩, fun _ _ => rfl⟩

theorem SlotOnly.slotStat (h : SlotOnly i s t) (hi : i < 256) (b : Nat) : SlotOnly i s (t.slotStat i b) :=
  h.wrStat hi fun _ _ x => bitAt_or _ _ _ x

theorem SlotOnly.slotSkip (h : SlotOnly i s t) (hi : i < 256) (n : Nat) : SlotOnly i s (t.slotSkip i n) :=
  h.wrStat hi fun _ hb x => bitAt_putFld_upper _ _ hb x

/-- R34, R37: what PAST_POLICY does to a slot other than that of the scheduled commit. -/
theorem SlotOnly.slotJudge (h : SlotOnly i s t) (hi : i < 256) (h36 : i ≠ 36) (d edge : Nat) : SlotOnly i s (t.slotJudge d edge i) := by
  unfold State.slotJudge
  dsimp only
  rw [if_neg h36]
  exact .ite (h.updSlot _) (.ite ((h.updSlot _).slotSkip hi _) (((h.updSlot _).slotStat hi _).raise hi (by decide)))

theorem SlotOnly.slotArm (h : SlotOnly i s t) (hi : i < 256) (h36 : i ≠ 36) (x : St64) (p q : Nat) (f : Bool) :
    SlotOnly i s (t.slotArm i x p q f) :=
  .ite (h.updSlot _) (.ite ((h.updSlot _).slotJudge hi h36 _ _) (h.updSlot _))

theorem SlotOnly.slotArmBound (h : SlotOnly i s t) (hi : i < 256) (h36 : i ≠ 36) (x : St64) (p q : Nat) (f : Bool) :
    SlotOnly i s (t.slotArmBound i x p q f) :=
  ((h.wr64 hi (d := 0) (by decide) (by decide) _).wr64 hi (d := 8) (by decide) (by decide) _).slotArm hi h36 x p q f

end

/-! ### A slot once its time is judged -/

/-- R34, R37: PAST_POLICY of a slot whose time is past: it fires late, moves on by whole periods, or is disarmed. -/
theorem State.slotJudge_slot (s : State) (d edge i : Nat) : (s.slotJudge d edge i).slot i =
    if s.slotPolicy i = 0 then { s.slot i with late := some edge }
    else if s.slotPolicy i = 2 ∧ (s.slot i).period ≠ 0 then
      { s.slot i with
        time := (s.slot i).time + BitVec.ofNat 64 (s.slotMissed d i (s.slot i).time (s.slot i).period * (s.slot i).period)
        late := none }
    else { s.slot i with armed := false, late := none } := by
  unfold State.slotJudge
  dsimp only
  by_cases fires : s.slotPolicy i = 0
  · simp only [fires, if_true, State.slot_updSlot_same]
  by_cases skips : s.slotPolicy i = 2 ∧ (s.slot i).period ≠ 0
  · rw [if_neg fires, if_neg fires, if_pos skips, if_pos (by simpa using skips)]
    exact State.slot_updSlot_same ..
  · rw [if_neg fires, if_neg fires, if_neg skips, if_neg (by simpa using skips), State.slot_raise]
    split <;> exact State.slot_updSlot_same ..

/-- What an arm makes of a slot rests on device time, the slew of OT and the modes of the ports. -/
theorem State.armedAs_congr {s t : State} (time : t.time = s.time) (active : t.active = s.active) (clk : t.clk = s.clk) (i : Nat)
    (x : Slot) : t.armedAs i x = s.armedAs i x := by
  unfold State.armedAs State.slotPast State.slotMissed State.slotLag State.slotLead State.slotSlew State.firstTb State.dtBefore
    State.nextTb State.coincides State.mode
  rw [time, active, clk]

/-- R31, R34, R45: an armed slot is judged when its time is past, unless DT is UNSET. -/
theorem State.slotArm_eq (s : State) (i : Nat) (x : St64) (p q : Nat) (f : Bool) : s.slotArm i x p q f =
    let a := s.updSlot i fun _ => { armed := true, time := x, period := p, policy := q, follow := f }
    if s.time.st = .unset ∨ s.slotPast i x = false then a else a.slotJudge s.dtBefore s.firstTb i := by
  unfold State.slotArm
  dsimp only
  by_cases unset : s.time.st = .unset
  · rw [if_pos (show _ ∨ _ from .inl unset)]
    exact if_pos unset
  refine (if_neg unset).trans ?_
  by_cases past : s.slotPast i x = true
  · rw [if_neg (show ¬ (_ ∨ _) by simp [unset, past])]
    exact if_pos past
  · rw [if_pos (show _ ∨ _ from .inr (by simpa using past))]
    exact if_neg past

/-- R31, R34: an arm puts its time, period and policy into the comparator, where a time that is past meets the policy. -/
theorem State.slotArm_slot (s : State) (i : Nat) (x : St64) (p q : Nat) (f : Bool)
    (policy : i < 96 ∨ fld (s.rd (Reg.TSC_CS_CTRL i)) 2 2 = q) :
    (s.slotArm i x p q f).slot i = s.armedAs i { armed := true, time := x, period := p, policy := q, follow := f } := by
  rw [State.slotArm_eq]
  unfold State.armedAs
  dsimp only
  have same := s.slot_updSlot_same i fun _ => { armed := true, time := x, period := p, policy := q, follow := f }
  have judged : (s.updSlot i fun _ => { armed := true, time := x, period := p, policy := q, follow := f }).slotPolicy i = q := by
    unfold State.slotPolicy
    rw [same]
    split
    · rfl
    · exact policy.resolve_left ‹_›
  split
  · exact same
  · rw [State.slotJudge_slot, judged, same]
    rfl

/-- R28, R31: the arm of a bound slot, whose registers show what its block armed. -/
theorem State.slotArmBound_slot (s : State) {i : Nat} (hi : i < 96) (x : St64) (p q : Nat) (f : Bool) :
    (s.slotArmBound i x p q f).slot i = s.armedAs i { armed := true, time := x, period := p, policy := q, follow := f } :=
  (State.slotArm_slot _ i x p q f (.inl hi)).trans (State.armedAs_congr (by simp) (by simp) (by simp) i _)

end Sys2Proof.Machine
end

section
/-!
PROOFS. The statement about the commands of CFG_CMD (R481, R483, R485).
-/

namespace Sys2Proof.Machine

/-! ### Which command a word of CFG_CMD names -/

/-- R483: before the initial commit a command is refused. -/
theorem State.cfgCmd_early {s : State} (h : s.cfg.initialDone = false) {v : Word} (one : ones v 4 = 1) : s.cfgCmd v = s.cfgRefused := by
  unfold State.cfgCmd
  rw [if_neg (by omega), if_pos (by simp [h])]

/-- R483: after the initial commit a single command acts. -/
theorem State.cfgCmd_single {s : State} (h : s.cfg.initialDone = true) {v : Word} (one : ones v 4 = 1) : s.cfgCmd v =
    if bitAt v 0 = true then s.cfgCommitNow else if bitAt v 1 = true then s.cfgSchedule else if bitAt v 2 = true then s.cfgCancel
    else s.cfgRevert := by
  unfold State.cfgCmd
  rw [if_neg (by omega), if_neg (by simp [h, one])]

section
variable {s : State} (h : s.cfg.initialDone = true)
include h

theorem State.cfgCmd_now : s.cfgCmd 1 = s.cfgCommitNow := (State.cfgCmd_single h (by decide)).trans (if_pos (by decide))

theorem State.cfgCmd_schedule : s.cfgCmd 2 = s.cfgSchedule :=
  (State.cfgCmd_single h (by decide)).trans ((if_neg (by decide)).trans (if_pos (by decide)))

theorem State.cfgCmd_cancel : s.cfgCmd 4 = s.cfgCancel :=
  (State.cfgCmd_single h (by decide)).trans ((if_neg (by decide)).trans ((if_neg (by decide)).trans (if_pos (by decide))))

theorem State.cfgCmd_revert : s.cfgCmd 8 = s.cfgRevert :=
  (State.cfgCmd_single h (by decide)).trans ((if_neg (by decide)).trans ((if_neg (by decide)).trans (if_neg (by decide))))

end

/-- R481, R483: a refused command shows CMD_REFUSED with EV003. -/
theorem State.cfgRefused_shows (s : State) :
    EvOnly (s.orBits Reg.CFG_STAT (bitMask 7)) s.cfgRefused ∧ s.cfgRefused.evSet 3 = true :=
  ⟨State.raise_evOnly _ 3 (by decide), State.raise_evSet _ 3 (by decide)⟩

/-! ### SCHEDULE -/

/-- R34, R485: the slot of the scheduled commit is judged; a time that it may not take unlocks, with EV010. -/
theorem State.slotJudge_commit (s : State) (d edge : Nat) (armed : (s.slot 36).armed = true) :
    let t := s.slotJudge d edge 36
    t.cfg = { s.cfg with locked := s.cfg.locked && (t.slot 36).armed } ∧ ((t.slot 36).armed = false → t.evSet 10 = true) := by
  dsimp only
  rw [State.slotJudge_slot]
  unfold State.slotJudge
  dsimp only
  by_cases fires : s.slotPolicy 36 = 0
  · simp [fires, armed]
  by_cases skips : s.slotPolicy 36 = 2 ∧ (s.slot 36).period ≠ 0
  · simp [skips, armed, State.slotSkip]
  · rw [if_neg fires, if_neg fires, if_neg skips, if_neg (by simpa using skips), if_pos rfl]
    exact ⟨by simp [State.cfgRejected, State.slotStat], fun _ => State.raise_evSet _ 10 (by decide)⟩

/-- R483, R485: the arm of the scheduled commit. -/
theorem State.slotArmBound_commit (s : State) (x : St64) (p q : Nat) (f : Bool) :
    let t := s.slotArmBound 36 x p q f
    t.cfg = { s.cfg with locked := s.cfg.locked && (t.slot 36).armed } ∧ ((t.slot 36).armed = false → t.evSet 10 = true) := by
  unfold State.slotArmBound
  rw [State.slotArm_eq]
  dsimp only
  split
  · simp
  · exact State.slotJudge_commit _ _ _ (by simp)

/-- R485: LOCK_ON_SCHED locks the shadow set before CS036 is armed. -/
def State.cfgSchedLock (s : State) : State :=
  { s with cfg := { s.cfg with locked := s.cfg.locked || bitAt (s.rd Reg.CFG_CTRL) 0 } }

/-- R483, R485: SCHEDULE arms CS036 at CFG_AT. -/
theorem State.cfgSchedule_spec (s : State) :
    let t := s.cfgSchedule
    t.slot 36 = s.armedAs 36 {
      armed := true
      time := BitVec.ofNat 64 (join32 (s.rd Reg.CFG_AT_LO) (s.rd Reg.CFG_AT_HI))
      policy := fld (s.rd Reg.CFG_CTRL) 1 2 } ∧
    t.cfg = { s.cfg with locked := (s.cfg.locked || bitAt (s.rd Reg.CFG_CTRL) 0) && (t.slot 36).armed } ∧
    t.shadow = s.shadow ∧ t.active = s.active ∧ ((t.slot 36).armed = false → t.evSet 10 = true) := by
  have kept : Touch 536871689 s s.cfgSchedule := State.slotArmBound_touch rfl _ _ _ _ _ _ (touch_cfg rfl (.refl ..))
  have slot := s.cfgSchedLock.slotArmBound_slot (show 36 < 96 by decide)
    (BitVec.ofNat 64 (join32 (s.rd Reg.CFG_AT_LO) (s.rd Reg.CFG_AT_HI))) 0 (fld (s.rd Reg.CFG_CTRL) 1 2) false
  obtain ⟨cfg, rejected⟩ := s.cfgSchedLock.slotArmBound_commit
    (BitVec.ofNat 64 (join32 (s.rd Reg.CFG_AT_LO) (s.rd Reg.CFG_AT_HI))) 0 (fld (s.rd Reg.CFG_CTRL) 1 2) false
  exact ⟨slot.trans (State.armedAs_congr rfl rfl rfl 36 _), cfg, kept.same .shadow rfl, kept.same .active rfl, rejected⟩

/-- Settles O13: by the one command that each word names, and for SCHEDULE by the judgement of the time that CS036 is armed with. -/
theorem commitCommands : Obligations.CommitCommands := by
  refine ⟨?_, ?_, ?_, ?_, ?_⟩
  · intro i s command early
    have refused {v : Word} (one : ones v 4 = 1) :
        EvOnly (s.orBits Reg.CFG_STAT (bitMask 7)) (s.cfgCmd v) ∧ (s.cfgCmd v).evSet 3 = true := by
      rw [State.cfgCmd_early early one]
      exact s.cfgRefused_shows
    rcases command with rfl | rfl | rfl | rfl
    all_goals exact ⟨_, rfl, refused (by decide)⟩
  · intro s done
    refine ⟨s.cfgCommitNow, congrArg _ (State.cfgCmd_now done), ?_⟩
    unfold State.cfgCommitNow
    have scheduled : ((s.slot 36).armed || s.cfg.schedAt.any fun t => decide (t / cclkTicks * cclkTicks = s.cclkAfter 0)) = true ↔
        (s.slot 36).armed = true ∨ ∃ e ∈ s.cfg.schedAt, e / cclkTicks * cclkTicks = s.cclkAfter 0 := by
      cases s.cfg.schedAt <;> simp
    split
    case isTrue h => exact ite_intro_pos (scheduled.mp h) s.cfgRefused_shows
    case isFalse h =>
      refine ite_intro_neg (h ∘ scheduled.mpr) ?_
      by_cases merged : s.nowPending = true
      · exact ite_intro_pos merged (if_pos merged)
      · exact ite_intro_neg merged (if_neg merged)
  · intro s done
    exact ⟨s.cfgSchedule, congrArg _ (State.cfgCmd_schedule done), s.cfgSchedule_spec⟩
  · intro s done
    exact ⟨s.cfgCancel, congrArg _ (State.cfgCmd_cancel done), rfl⟩
  · intro s done
    refine ⟨s.cfgRevert, congrArg _ (State.cfgCmd_revert done), ?_⟩
    by_cases locked : s.cfg.locked = true
    · refine ite_intro_pos locked ?_
      rw [State.cfgRevert, if_pos locked]
      exact s.cfgRefused_shows
    · exact ite_intro_neg locked (if_neg locked)

end Sys2Proof.Machine
end

section
/-!
PROOFS. The statement about reading DT, the local time ports and the DT second (R41–R44, R464).
-/

namespace Sys2Proof.Machine

/-! ### CS037 -/

/-- R23: CS037 follows the leap table by work on that slot alone. -/
theorem State.leapSync_cases (s : State) :
    s.leapSync = s ∨ s.leapSync = s.slotDisarm 37 ∨ ∃ x, s.leapSync = s.slotArmBound 37 x 0 0 false := by
  unfold State.leapSync
  split
  · split
    · exact .inr (.inl rfl)
    · exact .inl rfl
  · dsimp only
    split
    · exact .inl rfl
    split
    · exact .inr (.inr ⟨_, rfl⟩)
    · exact .inr (.inl rfl)

theorem State.leapSync_work (s : State) : SlotWork s s.leapSync := by
  rcases s.leapSync_cases with e | e | ⟨x, e⟩
  · rw [e]; exact .refl s
  · rw [e]; exact (SlotWork.refl s).updSlot 37 _
  · rw [e]; exact (SlotWork.refl s).slotArmBound (by decide) (by decide) x 0 0 false

/-! ### The work at a DT second -/

/-- `t` is `s` after work at a DT second that neither passes time, nor sets the backup counter, nor reports on the cores. -/
structure SecondWork (s t : State) : Prop where
  now : t.time.now = s.time.now
  rtc : t.vbat = { s.vbat with avgValid := t.vbat.avgValid, avg := t.vbat.avg }
  cores : t.mbx = s.mbx

section
variable {s t u : State} {w : Nat}

theorem SecondWork.refl (s : State) : SecondWork s s := ⟨rfl, rfl, rfl⟩

theorem SecondWork.trans (h : SecondWork s t) (k : SecondWork t u) : SecondWork s u :=
  ⟨k.now.trans h.now, by rw [k.rtc, h.rtc], k.cores.trans h.cores⟩

/-- An operation that touches neither the time unit, nor the backup domain, nor the cores. -/
theorem SecondWork.touch (h : SecondWork s t) (k : Touch w t u) (time : w.testBit 3 = false := by decide)
    (vbat : w.testBit 4 = false := by decide) (mbx : w.testBit 10 = false := by decide) : SecondWork s u := by
  have sameTime : u.time = t.time := k.same .time time
  have sameVbat : u.vbat = t.vbat := k.same .vbat vbat
  exact h.trans ⟨by rw [sameTime], by rw [sameVbat], k.same .mbx mbx⟩

theorem SecondWork.foldl {α : Type} {f : State → α → State} (step : ∀ t a, SecondWork t (f t a)) (h : SecondWork s t)
    (l : List α) : SecondWork s (l.foldl f t) := by
  induction l generalizing t with
  | nil => exact h
  | cons a l ih => exact ih (h.trans (step t a))

theorem SecondWork.ite {c : Prop} [Decidable c] (h : SecondWork s t) (k : SecondWork s u) : SecondWork s (if c then t else u) := by
  split <;> assumption

theorem SecondWork.leapSync (h : SecondWork s t) : SecondWork s t.leapSync := by
  have kept : Touch 536871689 t t.leapSync := State.leapSync_touch rfl t (.refl ..)
  have vbat : t.leapSync.vbat = t.vbat := kept.same .vbat rfl
  exact h.trans ⟨t.leapSync_work.now, by rw [vbat], kept.same .mbx rfl⟩

/-- R343: the average is the one part of the backup domain that is written beside the counter. -/
theorem SecondWork.vbatAverage (h : SecondWork s t) : SecondWork s t.vbatAverage :=
  h.trans (.ite ⟨rfl, rfl, rfl⟩ (.refl t))

/-- R329: F is set, which passes no time. -/
theorem SecondWork.dcoUpdate (h : SecondWork s t) : SecondWork s t.dcoUpdate := by
  have kept : Touch 545260041 t t.dcoUpdate := State.dcoUpdate_touch rfl t (.refl ..)
  have vbat : t.dcoUpdate.vbat = t.vbat := kept.same .vbat rfl
  refine h.trans ⟨?_, by rw [vbat], kept.same .mbx rfl⟩
  unfold State.dcoUpdate
  split
  · rfl
  · rfl
  · dsimp only
    split
    · rfl
    · rw [State.raise_time]; rfl

end

/-! ### The load of the cores -/

/-- R464: a core shows a load of at most 100 %, and none while it does not run. -/
def CoreSt.LoadShown (k : CoreSt) : Prop := k.load ≤ 100 ∧ (k.mode ≠ .running → k.load = 0)

theorem State.coreLoad_core_ne (s : State) {a c : Nat} (h : c ≠ a) : (s.coreLoad a).core c = s.core c := by
  unfold State.coreLoad
  split <;> exact State.core_updCore_ne _ _ h

theorem State.coreLoad_mode (s : State) (a c : Nat) : ((s.coreLoad a).core c).mode = (s.core c).mode := by
  by_cases h : c = a
  · subst h
    unfold State.coreLoad
    split <;> exact (congrArg CoreSt.mode (State.core_updCore_same ..)).trans rfl
  · rw [s.coreLoad_core_ne h]

theorem State.coreLoad_shown (s : State) {a c : Nat} (h : c = a ∨ (s.core c).LoadShown) : ((s.coreLoad a).core c).LoadShown := by
  by_cases same : c = a
  · subst same
    unfold State.coreLoad
    split
    case isTrue runs =>
      dsimp only
      rw [State.core_updCore_same]
      exact ⟨Nat.le_of_lt_succ (Nat.mod_lt _ (by decide)), fun stopped => absurd runs stopped⟩
    case isFalse =>
      rw [State.core_updCore_same]
      exact ⟨Nat.zero_le _, fun _ => rfl⟩
  · rw [s.coreLoad_core_ne same]
    exact h.resolve_left same

/-- R464: every core of a list shows the load of its second, in the mode that it had. -/
theorem State.coreLoads_shown (l : List Nat) (s : State) {c : Nat} (h : c ∈ l ∨ (s.core c).LoadShown) :
    ((l.foldl State.coreLoad s).core c).LoadShown ∧ ((l.foldl State.coreLoad s).core c).mode = (s.core c).mode := by
  induction l generalizing s with
  | nil => exact ⟨h.resolve_left (List.not_mem_nil), rfl⟩
  | cons a l ih =>
    rw [← s.coreLoad_mode a c]
    refine ih _ ?_
    rcases h with mem | shown
    · rcases List.mem_cons.mp mem with same | mem
      · exact .inr (s.coreLoad_shown (.inl same))
      · exact .inl mem
    · exact .inr (s.coreLoad_shown (.inr shown))

theorem State.coreLoads_rest (l : List Nat) (s : State) :
    (l.foldl State.coreLoad s).time = s.time ∧ (l.foldl State.coreLoad s).vbat = s.vbat := by
  have loads : Touch 268436480 s (l.foldl State.coreLoad s) :=
    touch_foldl l s s (fun t c => State.coreLoad_touch rfl t c (.refl ..)) (.refl ..)
  exact ⟨loads.same .time rfl, loads.same .vbat rfl⟩

/-! ### The DT second -/

/-- The DT second boundary has come: DT has passed to it and the counters of DT seconds have counted. -/
def State.secondReached (s : State) : State :=
  (s.advDt (secUnit * (s.sec + 1))).cntPass (fun _ c =>
    if bitAt c.sel 16 && fld c.sel 8 3 == 5 && !c.stopped then (1, 1) else (0, 0))

/-- What follows at a DT second once the backup counter is loaded, up to the loads of the cores. -/
def State.secondWork (s : State) (sec : Nat) : State :=
  let s := s.leapSync.histSample.vbatAverage
  let s := if s.clk.d.state = .holdover then s.dcoUpdate else s
  let s := [0, 1, 2].foldl State.dpllxSecond s
  let s := (s.clSecond 0).clSecond 1
  (s.timSource 16 ((stSec * sec : Nat) : Int)).smearStart

theorem State.secondWork_spec (s : State) (sec : Nat) : SecondWork s (s.secondWork sec) := by
  unfold State.secondWork
  extract_lets s1 s2 s3 s4
  have h1 : SecondWork s s1 :=
    (SecondWork.touch (w := 8388608) (.leapSync (.refl s)) (State.histSample_touch rfl _ (.refl ..))).vbatAverage
  have h2 : SecondWork s s2 := .ite h1.dcoUpdate h1
  have h3 : SecondWork s s3 :=
    h2.foldl (fun t x => .touch (w := 8388608) (.refl t) (State.dpllxSecond_touch rfl t x (.refl ..))) [0, 1, 2]
  have h4 : SecondWork s s4 := .touch (w := 549454337) h3 (State.clSecond_touch rfl _ 1 (State.clSecond_touch rfl s3 0 (.refl ..)))
  have h5 : SecondWork s (s4.timSource 16 ((stSec * sec : Nat) : Int)) :=
    .touch (w := 570425857) h4 (State.timSource_touch rfl s4 16 _ (.refl ..))
  exact .touch (w := 262144) h5 (State.smearStart_touch rfl _ (.refl ..))

theorem execDtSecondBoundary_set {s : State} (h : s.time.st ≠ .unset) : execDtSecondBoundary s =
    .next ([0, 1, 2, 3, 4].foldl State.coreLoad (s.secondReached.rtcAlign.secondWork (s.sec + 1))) := by
  unfold execDtSecondBoundary State.secondWork State.secondReached
  rw [if_neg h]

/-- R44: time has passed to the second, and nothing but the counters has changed with it. -/
theorem State.secondReached_parts (s : State) : s.secondReached.time = (s.advDt (secUnit * (s.sec + 1))).time ∧
    s.secondReached.vbat = s.vbat ∧ s.secondReached.mbx = s.mbx := by
  have counted : Touch 512 (s.advDt (secUnit * (s.sec + 1))) s.secondReached := State.cntPass_touch rfl _ _ (.refl ..)
  exact ⟨counted.same .time rfl, (counted.same .vbat rfl).trans (State.advDt_vbat ..),
    (counted.same .mbx rfl).trans (State.advDt_mbx ..)⟩

/-- R44: the load of the backup counter while DT is ALIGNED. -/
theorem State.rtcAlign_vbat {s : State} (h : s.time.st = .aligned) : s.rtcAlign.vbat =
    { s.vbat with rtcSec := s.sec % 2 ^ 48, rtcSub := 0, lastAlign := s.sec % 2 ^ 48, rtcValid := true } :=
  congrArg State.vbat (if_pos (decide_eq_true h))

/-- R44, R464: what DT_SECOND_BOUNDARY does once DT is set. -/
theorem dtSecondBoundary_does {s : State} (h : s.time.st ≠ .unset) : Does .dtSecondBoundary s fun t =>
    t.time.now = max s.time.now (s.tickOfDt (secUnit * (s.sec + 1))) ∧
      (∀ c : Fin 5, (t.core c).load ≤ 100 ∧ ((s.core c).mode ≠ .running → (t.core c).load = 0)) ∧
      (s.time.st = .aligned → t.vbat.rtcValid = true ∧ t.vbat.rtcSub = 0 ∧
        t.vbat.rtcSec = (s.advDt (secUnit * (s.sec + 1))).sec % 2 ^ 48 ∧ t.vbat.lastAlign = t.vbat.rtcSec) := by
  refine ⟨_, execDtSecondBoundary_set h, ?_⟩
  obtain ⟨time, vbat, mbx⟩ := s.secondReached_parts
  have aligned : Touch 16 s.secondReached s.secondReached.rtcAlign := State.rtcAlign_touch rfl _ (.refl ..)
  have alignedTime : s.secondReached.rtcAlign.time = s.secondReached.time := aligned.same .time rfl
  have alignedMbx : s.secondReached.rtcAlign.mbx = s.secondReached.mbx := aligned.same .mbx rfl
  have work := s.secondReached.rtcAlign.secondWork_spec (s.sec + 1)
  obtain ⟨loadsTime, loadsVbat⟩ := State.coreLoads_rest [0, 1, 2, 3, 4] (s.secondReached.rtcAlign.secondWork (s.sec + 1))
  refine ⟨?_, fun c => ?_, fun st => ?_⟩
  · rw [loadsTime, work.now, alignedTime, time, State.advDt_now]
  · have listed : c.val ∈ [0, 1, 2, 3, 4] := by revert c; decide
    obtain ⟨⟨bound, idle⟩, mode⟩ := State.coreLoads_shown _ (s.secondReached.rtcAlign.secondWork (s.sec + 1)) (.inl listed)
    refine ⟨bound, fun stopped => idle ?_⟩
    rw [mode]
    unfold State.core at *
    rwa [work.cores, alignedMbx, mbx]
  · have alignedSt : s.secondReached.time.st = .aligned := by rw [time]; simpa [State.advDt] using st
    rw [loadsVbat, work.rtc, State.rtcAlign_vbat alignedSt, State.sec_congr time]
    exact ⟨rfl, rfl, rfl, rfl⟩

/-! ### Reading -/

/-- The edge that accepts a command is not before the present tick. -/
theorem State.le_cclkAfter (s : State) (n : Nat) : s.time.now ≤ s.cclkAfter n := by
  unfold State.cclkAfter ceilDiv cclkTicks
  omega

/-- R41: a read of TSC_DT_FRAC or TSC_ST64_LO. -/
theorem dtCapture_does (m : Master) (st wide : Bool) (s : State) : Does (.dtCapture m st wide) s fun t =>
    t.time.now = s.cclkAfter 0 ∧ tget captDef t.time.capt m.bank = captureOf (s.advTo (s.cclkAfter 0)).dtBefore ∧
    (∀ b, b ≠ m.bank → tget captDef t.time.capt b = tget captDef s.time.capt b) ∧
    t.bus.data = let c := tget captDef t.time.capt m.bank
      if st = false then [BitVec.ofNat 32 c.frac]
      else if wide = true then [lo32 c.st64.toNat, hi32 c.st64.toNat] else [lo32 c.st64.toNat] := by
  refine ⟨_, rfl, ?_, tget_tset_same .., fun b ne => ?_, ?_⟩
  · exact (State.advTo_now ..).trans (Nat.max_eq_right (s.le_cclkAfter 0))
  · exact (tget_tset_ne _ _ _ ne).trans (congrArg (tget captDef · b) (State.advTo_capt ..))
  · dsimp only
    rw [tget_tset_same]
    cases st <;> rfl

/-- R43: a load of a core's local time port. -/
theorem timePortLoad_does (c : Fin 5) (s : State) : Does (.timePortLoad c) s fun t =>
    tget captDef t.time.localRead c.val = captureOf (s.advTo (s.cclkAfter 0)).dtBefore ∧
    (∀ b, b ≠ c.val → tget captDef t.time.localRead b = tget captDef s.time.localRead b) ∧ t.time.capt = s.time.capt := by
  refine ⟨_, rfl, tget_tset_same .., fun b ne => ?_, State.advTo_capt ..⟩
  exact (tget_tset_ne _ _ _ ne).trans (congrArg (tget captDef · b) (State.advTo_localRead ..))

/-- Settles O15: by the capture at the accepting edge, and by the DT second's work on each part that the statement names. -/
theorem readingTime : Obligations.ReadingTime := by
  refine ⟨dtCapture_does, timePortLoad_does, fun s => ?_⟩
  by_cases unset : s.time.st = .unset
  · exact ⟨s, if_pos unset, ite_intro_pos unset rfl⟩
  · obtain ⟨t, runs, done⟩ := dtSecondBoundary_does unset
    exact ⟨t, runs, ite_intro_neg unset done⟩

end Sys2Proof.Machine
end

section
/-!
PROOFS. The statement about the leap table: host commands, the freeze and the leap itself (R20–R24, R52).
-/

namespace Sys2Proof.Machine

/-! ### A change of the served time loses no event and starts no smear -/

/-- The counters of a port hold no event status. -/
theorem evKey_portDropLink (n : Nat) : evKey (Reg.PRT_DROP_LINK n) = false := by
  simp only [evKey, Bool.or_eq_false_iff, Bool.and_eq_false_iff, decide_eq_false_iff_not]
  unfold Reg.PRT_DROP_LINK Reg.EVT_STAT Reg.EVT_CORE_STAT
  omega

theorem State.portSignal_keepsEvents (s : State) (n : Nat) (v6 : Bool) (addr : BitVec 128) (tag : Option Nat) (target tlv : List Byte) :
    KeepsEvents s (s.portSignal n v6 addr tag target tlv) := by
  unfold State.portSignal
  dsimp only
  split
  · unfold State.coreSend State.bePush
    dsimp only
    split
    · exact .of_live rfl
    · exact .wr (.of_live rfl) _ (evKey_portDropLink n)
  · exact .of_live rfl

theorem State.grantCancelAll_keepsEvents (s : State) : KeepsEvents s s.grantCancelAll := by
  refine .foldl (fun t i => .ite (.refl t) ?_) _ s
  refine KeepsEvents.trans (KeepsEvents.foldl (fun u ty => ?_) _ t) (.of_live rfl)
  exact .wr (u.portSignal_keepsEvents _ _ _ _ _ _) _ (by decide)

theorem KeepsEvents.noteStratum {s t : State} (h : KeepsEvents s t) (n : Nat) : KeepsEvents s (t.noteStratum n) :=
  .ite h (.raise (t := { t with srv := { t.srv with lastStratum := n } }) h (by decide))

theorem KeepsEvents.servingSync {s t : State} (h : KeepsEvents s t) : KeepsEvents s t.servingSync :=
  .ite (.raise (t := { t with serve := { t.serve with serving := true, servingAt := t.time.now, openPending := true } }) h (by decide)) h

/-- The smear that is under way, if any, is the same in both states. -/
def SameSmear (s t : State) : Prop := t.srv.smear = s.srv.smear

theorem SameSmear.ite {s t u : State} {c : Prop} [Decidable c] (h : SameSmear s t) (k : SameSmear s u) :
    SameSmear s (if c then t else u) := by
  split <;> assumption

/-- An operation that leaves the services. -/
theorem SameSmear.of_srv {s t u : State} (h : SameSmear s t) (srv : u.srv = t.srv) : SameSmear s u := (congrArg _ srv).trans h

/-- R161, R239, R242: a change of the served time raises events and clears none. -/
theorem State.timeStateChange_keepsEvents (s : State) : KeepsEvents s s.timeStateChange := by
  unfold State.timeStateChange
  extract_lets _ _ _ s1 v s2 lost _ s3 s4 s5 s6 q _ s7
  have h2 : KeepsEvents s s2 := .ite (.of_live rfl) (.of_live rfl)
  have h3 : KeepsEvents s s3 := h2
  have h4 : KeepsEvents s s4 := .ite (h3.raise (by decide)) h3
  have h5 : KeepsEvents s s5 := .ite (h4.trans s4.grantCancelAll_keepsEvents) h4
  have h6 : KeepsEvents s s6 := h5.noteStratum _
  have h7 : KeepsEvents s s7 := .ite h6
    (.raise (t := { s6 with ptp := { s6.ptp with lastClass := q.cls1 * 256 + q.cls2 } }) h6 (by decide))
  exact h7.servingSync

/-- R170: a change of the served time leaves the smear under way. -/
theorem State.timeStateChange_sameSmear (s : State) : SameSmear s s.timeStateChange := by
  unfold State.timeStateChange
  extract_lets _ _ _ s1 v s2 lost _ s3 s4 s5 s6 q _ s7
  have h2 : SameSmear s s2 := .ite rfl rfl
  have h3 : SameSmear s s3 := h2
  have h4 : SameSmear s s4 := .ite (h3.of_srv (State.raise_srv ..)) h3
  have cancelled : Touch 537924097 s4 s4.grantCancelAll := State.grantCancelAll_touch rfl s4 (.refl ..)
  have h5 : SameSmear s s5 := .ite (h4.of_srv (cancelled.same .srv rfl)) h4
  have h6 : SameSmear s s6 := .ite h5 (.of_srv (t := { s5 with srv := { s5.srv with lastStratum := s5.stratum s5.cfg.gen v } }) h5
    (State.raise_srv ..))
  have h7 : SameSmear s s7 := .ite h6
    (.of_srv (t := { s6 with ptp := { s6.ptp with lastClass := q.cls1 * 256 + q.cls2 } }) h6 (State.raise_srv ..))
  have serving : Touch 536871553 s7 s7.servingSync := State.servingSync_touch rfl s7 (.refl ..)
  exact h7.of_srv (serving.same .srv rfl)

/-! ### What follows a change of the leap table -/

theorem State.leapSync_keepsEvents (s : State) : KeepsEvents s s.leapSync := by
  rcases s.leapSync_cases with e | e | ⟨x, e⟩
  · rw [e]; exact .refl s
  · rw [e]; exact .of_live rfl
  · rw [e]; exact ((SlotOnly.refl 37 s).slotArmBound (by decide) (by decide) x 0 0 false).told.events

/-- R23: CS037 follows the leap table and leaves it. -/
theorem State.leapSync_parts (s : State) : s.leapSync.vbat = s.vbat ∧ s.leapSync.srv = s.srv := by
  have kept : Touch 536871689 s s.leapSync := State.leapSync_touch rfl s (.refl ..)
  exact ⟨kept.same .vbat rfl, kept.same .srv rfl⟩

/-- R20, R22: the pending leap becomes `p`, which only a change tells with EV013. -/
theorem State.leapPut_spec (s : State) (p : Option PendLeap) :
    (s.leapPut p).vbat = { s.vbat with pend := p, frozen := (s.leapPut p).vbat.frozen } ∧
      (s.vbat.pend ≠ p → (s.leapPut p).evSet 13 = true) := by
  unfold State.leapPut
  by_cases same : s.vbat.pend = p
  · rw [if_pos same]
    subst same
    exact ⟨rfl, fun ne => absurd rfl ne⟩
  · rw [if_neg same]
    refine ⟨?_, fun _ => ?_⟩
    · simp only [State.pushView, State.leapFrozen, (State.leapSync_parts _).1, State.raise_vbat]
      rfl
    · exact State.leapSync_keepsEvents _ 13 (by decide) (State.raise_evSet _ 13 (by decide))

/-- R52: a refused host command raises EV011. -/
theorem State.raise_leapRefused (s : State) : EvOnly s (s.raise 11) ∧ (s.raise 11).evSet 11 = true :=
  ⟨State.raise_evOnly s 11 (by decide), State.raise_evSet s 11 (by decide)⟩

/-- R20, R52: a host command that inserts or deletes a second. -/
theorem State.leapHost_spec (s : State) (d : Bool) :
    if s.leapHostEn = true ∧ s.leapMay .host = true ∧ s.leapValid s.leapStaged d = true then
      (s.leapHost d).vbat = { s.vbat with pend := some ⟨s.leapStaged, d, .host⟩, frozen := (s.leapHost d).vbat.frozen } ∧
      (s.vbat.pend ≠ (s.leapHost d).vbat.pend → (s.leapHost d).evSet 13 = true)
    else EvOnly s (s.leapHost d) ∧ (s.leapHost d).evSet 11 = true := by
  by_cases may : s.leapHostEn = true ∧ s.leapMay .host = true ∧ s.leapValid s.leapStaged d = true
  · have puts : s.leapHost d = s.leapPut (some ⟨s.leapStaged, d, .host⟩) := if_pos (by simpa [and_assoc] using may)
    obtain ⟨vbat, told⟩ := s.leapPut_spec (some ⟨s.leapStaged, d, .host⟩)
    rw [puts]
    exact ite_intro_pos may ⟨vbat, fun ne => told (by rwa [vbat] at ne)⟩
  · have refused : s.leapHost d = s.raise 11 := if_neg (by simpa [and_assoc] using may)
    rw [refused]
    exact ite_intro_neg may s.raise_leapRefused

/-- R52: a host command that cancels the pending leap. -/
theorem State.leapCancel_spec (s : State) :
    if s.leapHostEn = true ∧ s.vbat.frozen = false then
      s.leapCancel.vbat = { s.vbat with pend := none, frozen := s.leapCancel.vbat.frozen } ∧
      (s.vbat.pend ≠ none → s.leapCancel.evSet 13 = true)
    else EvOnly s s.leapCancel ∧ s.leapCancel.evSet 11 = true := by
  by_cases may : s.leapHostEn = true ∧ s.vbat.frozen = false
  · have puts : s.leapCancel = s.leapPut none := if_pos (by simpa using may)
    rw [puts]
    exact ite_intro_pos may (s.leapPut_spec none)
  · have refused : s.leapCancel = s.raise 11 := if_neg (by simpa using may)
    rw [refused]
    exact ite_intro_neg may s.raise_leapRefused

/-! ### The freeze and the leap -/

theorem execLeapFreeze_none {s : State} (pend : s.vbat.pend = none) : execLeapFreeze s = .next s := by
  unfold execLeapFreeze
  rw [pend]

theorem execLeapFreeze_pending {s : State} {p : PendLeap} (pend : s.vbat.pend = some p) :
    let u := (s.advDt (secUnit * (p.at_ - 60))).leapFrozen
    execLeapFreeze s = .next (u.pushView u.nowSt) := by
  unfold execLeapFreeze
  rw [pend]

/-- R22: FROZEN follows DT while a leap is pending. -/
theorem State.leapFrozen_iff {s : State} {p : PendLeap} (pend : s.vbat.pend = some p) :
    s.leapFrozen.vbat.frozen = true ↔ p.at_ ≤ s.sec + 60 := by
  unfold State.leapFrozen
  simp only [pend, decide_eq_true_eq]

/-- R22: the freeze changes neither the backup domain but for FROZEN nor the time unit. -/
theorem State.freezeView_parts (s : State) (t : Nat) : (s.leapFrozen.pushView t).time = s.time ∧
    (s.leapFrozen.pushView t).vbat = { s.vbat with frozen := s.leapFrozen.vbat.frozen } := ⟨rfl, rfl⟩

/-- R22: FROZEN from LEAP_AT − 60 s on. -/
theorem leapFreeze_does (s : State) : Does .leapFreeze s fun t =>
    match s.vbat.pend with
    | none => t = s
    | some p => t.vbat = { s.vbat with frozen := t.vbat.frozen } ∧ (t.vbat.frozen = true ↔ p.at_ ≤ t.sec + 60) ∧
      t.time.now = max s.time.now (s.tickOfDt (secUnit * (p.at_ - 60))) := by
  cases pend : s.vbat.pend with
  | none => exact ⟨s, execLeapFreeze_none pend, rfl⟩
  | some p =>
    have later : (s.advDt (secUnit * (p.at_ - 60))).vbat.pend = some p := by rw [State.advDt_vbat, pend]
    obtain ⟨time, vbat⟩ := (s.advDt (secUnit * (p.at_ - 60))).freezeView_parts (s.advDt (secUnit * (p.at_ - 60))).leapFrozen.nowSt
    refine ⟨_, execLeapFreeze_pending pend, ?_, ?_, ?_⟩
    · rw [vbat, State.advDt_vbat]
    · rw [vbat, State.sec_congr time]
      exact State.leapFrozen_iff later
    · rw [time, State.advDt_now]

/-- R23, R24: the leap takes effect on the table, the smear and EV014. -/
theorem State.leapApply_spec {s : State} {p : PendLeap} (pend : s.vbat.pend = some p) (t : Nat) :
    (s.leapApply t).vbat = { s.vbat with offset := s.vbat.newOffset p.delete, pend := none, frozen := false } ∧
      (s.leapApply t).srv.smear = none ∧ (s.leapApply t).evSet 14 = true := by
  unfold State.leapApply
  simp only [pend]
  refine ⟨?_, ?_, ?_⟩
  · simp only [State.pushView, State.raise_vbat, (State.leapSync_parts _).1]
  · simp only [State.pushView, State.raise_srv, (State.leapSync_parts _).2]
  · exact State.raise_evSet _ 14 (by decide)

/-- R23, R35: CS037 fires with a leap pending. -/
theorem leapApply_does (s : State) : Does .leapApply s fun t =>
    match s.vbat.pend with
    | none => t = s
    | some p =>
      if s.slotReady 37 = true then
        t.vbat = { s.vbat with offset := s.vbat.newOffset p.delete, pend := none, frozen := false } ∧
        t.srv.smear = none ∧ t.evSet 14 = true
      else t = s := by
  cases pend : s.vbat.pend with
  | none => exact ⟨s, if_pos (by simp [pend]), rfl⟩
  | some p =>
    by_cases ready : s.slotReady 37 = true
    case neg => exact ⟨s, if_pos (by simp [ready]), ite_intro_neg ready rfl⟩
    have fired : Touch 536871689 s ((s.slotFire 37).slotBoundary (s.slot 37)).2 :=
      State.slotBoundary_touch rfl _ _ (State.slotFire_touch rfl s 37 (.refl ..))
    have firedVbat : ((s.slotFire 37).slotBoundary (s.slot 37)).2.vbat = s.vbat := fired.same .vbat rfl
    obtain ⟨vbat, smear, told⟩ := State.leapApply_spec (firedVbat.symm ▸ pend) ((s.slotFire 37).slotBoundary (s.slot 37)).1
    rw [firedVbat] at vbat
    have changed : Touch 546574977 _ _ := State.timeStateChange_touch rfl
      (((s.slotFire 37).slotBoundary (s.slot 37)).2.leapApply ((s.slotFire 37).slotBoundary (s.slot 37)).1) (.refl ..)
    refine ⟨_, if_neg (by simp [ready, pend]), ite_intro_pos ready ⟨?_, ?_, ?_⟩⟩
    · exact (changed.same .vbat rfl).trans vbat
    · exact (State.timeStateChange_sameSmear _).trans smear
    · exact State.timeStateChange_keepsEvents _ 14 (by decide) told

/-- Settles O16: each command of the host by the change of the table that it makes, the leap by what each of its parts leaves. -/
theorem leapTable : Obligations.LeapTable := by
  refine ⟨fun s d => ?_, fun s => ⟨_, rfl, s.leapCancel_spec⟩, leapFreeze_does, leapApply_does⟩
  cases d with
  | false => exact ⟨_, rfl, s.leapHost_spec false⟩
  | true => exact ⟨_, rfl, s.leapHost_spec true⟩

end Sys2Proof.Machine
end

section
/-!
PROOFS. The statement about the compare slots that software programs (R28–R34, R49, R50).
-/

namespace Sys2Proof.Machine

/-! ### Status bits and the passage of time -/

section
variable {s t : State} {i : Nat}

theorem SlotOnly.advTo (h : SlotOnly i s t) (n : Nat) : SlotOnly i s (t.advTo n) :=
  h.trans ⟨.of_live (by simp), fun _ _ => State.advTo_slot ..⟩

/-- R50: a status bit that is set shows. -/
theorem State.slotStat_shows (s : State) (i : Nat) {b : Nat} (hb : b < 32) : bitAt ((s.slotStat i b).rd (Reg.TSC_CS_STAT i)) b = true := by
  unfold State.slotStat State.orBits
  rw [State.rd_wr_same]
  exact bitAt_bitMask b hb _

/-! ### A firing -/

/-- R29, R35, R50: a firing works on its own slot, which shows FIRED. -/
theorem State.slotFire_fired (s : State) (hi : i < 256) (h36 : i ≠ 36) :
    SlotOnly i s (s.slotFire i) ∧ bitAt ((s.slotFire i).rd (Reg.TSC_CS_STAT i)) 0 = true := by
  have started : SlotOnly i s ((s.advTo (s.slotTick i)).slotStat i 0) := ((SlotOnly.refl i s).advTo _).slotStat hi 0
  have finished : SlotOnly i ((s.advTo (s.slotTick i)).slotStat i 0) (s.slotFire i) := by
    unfold State.slotFire
    dsimp only
    have stamped (n : Nat) := (SlotOnly.refl i ((s.advTo (s.slotTick i)).slotStat i 0)).wr64 hi (d := 0x18) (by decide) (by decide) n
    have late (n : Nat) := SlotOnly.ite (c := ((s.advTo (s.slotTick i)).slot i).late.isSome = true)
      (((stamped n).slotStat hi 1).raise hi (e := 9) (by decide)) (stamped n)
    exact .ite ((late _).updSlot _) (.ite (((late _).updSlot _).slotSkip hi _)
      (.ite (((late _).updSlot _).slotJudge hi h36 _ _) ((late _).updSlot _)))
  exact ⟨started.trans finished, finished.told.stat 0 (by decide) (State.slotStat_shows _ i (by decide))⟩

/-- R29, R31: a one-shot slot that fires is disarmed. -/
theorem State.slotFire_oneShot {s : State} (h : (s.slot i).period = 0) :
    (s.slotFire i).slot i = { s.slot i with armed := false, late := none } := by
  unfold State.slotFire
  dsimp only
  rw [if_pos (by rw [State.advTo_slot, h]), State.slot_updSlot_same]
  split
  · simp [State.slotStat]
  · simp [State.slotStat]

/-- R29: the tick at which a slot fires. -/
theorem State.slotFire_now (s : State) (hi : i < 256) (h36 : i ≠ 36) : (s.slotFire i).time.now = max s.time.now (s.slotTick i) := by
  rw [(s.slotFire_work hi h36).now, State.advTo_now]

/-! ### The actions of a general slot -/

/-- From `s` to `t` slot `i` stays as it was, and neither an event nor a status bit of it is lost. -/
structure SlotSpared (i : Nat) (s t : State) : Prop where
  told : SlotTold i s t
  slot : t.slot i = s.slot i

theorem SlotSpared.trans {u : State} (h : SlotSpared i s t) (k : SlotSpared i t u) : SlotSpared i s u :=
  ⟨h.told.trans k.told, k.slot.trans h.slot⟩

theorem SlotSpared.ite {c : Prop} [Decidable c] {u : State} (h : SlotSpared i s t) (k : SlotSpared i s u) :
    SlotSpared i s (if c then t else u) := by
  split <;> assumption

theorem SlotSpared.raise (h : SlotSpared i s t) (hi : i < 256) {e : Nat} (k : e < 256) : SlotSpared i s (t.raise e) :=
  ⟨h.told.raise hi k, (State.slot_raise ..).trans h.slot⟩

theorem State.advTo_spared (s : State) (n i : Nat) : SlotSpared i s (s.advTo n) := ⟨.of_live (by simp), State.advTo_slot ..⟩

/-- R29, R35: to find a slot's boundary only time passes. -/
theorem State.slotBoundary_spared (s : State) (x : Slot) (i : Nat) : SlotSpared i s (s.slotBoundary x).2 := by
  unfold State.slotBoundary State.slotBoundaryG
  cases x.late
  · exact ⟨.of_live rfl, rfl⟩
  · exact State.advTo_spared ..

/-- TSC_CS_FIRE_MAP holds no event status. -/
theorem evKey_fireMap {n : Nat} (h : n < 8) : evKey (Reg.TSC_CS_FIRE_MAP n) = false := by
  simp only [evKey, Bool.or_eq_false_iff, Bool.and_eq_false_iff, decide_eq_false_iff_not]
  unfold Reg.TSC_CS_FIRE_MAP Reg.EVT_STAT Reg.EVT_CORE_STAT
  omega

/-- R503: a snapshot of the counters works on no slot, and raises EV244. -/
theorem State.snapshot_spec (s : State) (hi : i < 256) (n : Nat) : SlotSpared i s (s.snapshot n) ∧ (s.snapshot n).evSet 244 = true := by
  have own : slotKey (Reg.TSC_CS_STAT i) = true := slotKey_of_offset hi (d := 0x14) (by decide)
  have apart {a : Nat} (ha : slotKey a = false) : Reg.TSC_CS_STAT i ≠ a := fun e => by
    rw [e, ha] at own
    cases own
  have copied : SlotTold i s { s with evt := { s.evt with
      cnts := tupdAll cntDef 64 s.evt.cnts (fun _ c => { c with snap := c.val }) } } := .of_live rfl
  have told : SlotTold i s (s.snapshot n) := by
    unfold State.snapshot State.wr64
    exact (((copied.wr _ (by decide) (apart (by decide))).wr _ (by decide) (apart (by decide))).wr _ (by decide)
      (apart (by decide))).raise hi (by decide)
  exact ⟨⟨told, by simp [State.snapshot, State.slot]⟩, State.raise_evSet _ 244 (by decide)⟩

/-- R416: an arm of a channel by a general slot works on the channel and on its gate slot. -/
theorem State.timArm_spared (s : State) (hi : 128 ≤ i) (hi' : i < 256) {k : Nat} (hk : k < 8) (e : Int) (incl once : Bool) :
    SlotSpared i s (s.timArm k e incl once) := by
  have disarmed : SlotSpared i s (s.slotDisarm (38 + k)) := ⟨.of_live rfl, State.slot_updSlot_ne _ _ (by omega)⟩
  have channel (t : State) (f : TimCh → TimCh) : SlotSpared i t (t.updTimCh k f) := ⟨.of_live rfl, rfl⟩
  unfold State.timArm
  extract_lets armed
  have h : SlotSpared i s armed := disarmed.trans (channel ..)
  exact .ite ⟨.of_live rfl, rfl⟩ (.ite ((disarmed.trans (channel ..)).raise hi' (by decide)) (.ite (h.trans (channel ..)) h))

/-- What the firing of a slot shows: FIRED, and a one-shot slot disarmed. -/
def State.SlotFired (s t : State) (i : Nat) : Prop :=
  bitAt (t.rd (Reg.TSC_CS_STAT i)) 0 = true ∧ ((s.slot i).period = 0 → (t.slot i).armed = false)

theorem State.slotFire_slotFired (s : State) (hi : i < 256) (h36 : i ≠ 36) : s.SlotFired (s.slotFire i) i :=
  ⟨(s.slotFire_fired hi h36).2, fun once => by rw [State.slotFire_oneShot once]⟩

theorem State.SlotFired.spared {s t u : State} (h : s.SlotFired t i) (k : SlotSpared i t u) : s.SlotFired u i :=
  ⟨k.told.stat 0 (by decide) h.1, fun once => by rw [k.slot, h.2 once]⟩

/-- R503: a slot with ACTION SNAP_CNT fires before or after the snapshot. -/
theorem State.slotSnap_spec (s : State) (hi : i < 256) (h36 : i ≠ 36) :
    s.SlotFired (s.slotSnap i) i ∧ (s.slotSnap i).evSet 244 = true := by
  unfold State.slotSnap
  extract_lets x e
  split
  · obtain ⟨copied, told⟩ := (s.advTo e).snapshot_spec hi x.time.toNat
    obtain ⟨only, fired⟩ := ((s.advTo e).snapshot x.time.toNat).slotFire_fired hi h36
    refine ⟨⟨fired, fun once => ?_⟩, only.told.events 244 (by decide) told⟩
    rw [State.slotFire_oneShot (by rw [copied.slot, State.advTo_slot, once])]
  · obtain ⟨copied, told⟩ := ((s.slotFire i).advTo e).snapshot_spec hi x.time.toNat
    exact ⟨(s.slotFire_slotFired hi h36).spared ((State.advTo_spared _ e i).trans copied), told⟩

/-- R30, R50: a general slot fires and takes its action. -/
theorem State.generalFire_spec (s : State) (hi : 128 ≤ i) (hi' : i < 256) : s.SlotFired (s.generalFire i) i ∧
    (fld (s.rd (Reg.TSC_CS_CTRL i)) 8 4 = 1 → (s.generalFire i).evSet 8 = true ∧
      bitAt ((s.generalFire i).rd (Reg.TSC_CS_FIRE_MAP (i / 32))) (i % 32) = true) ∧
    (fld (s.rd (Reg.TSC_CS_CTRL i)) 8 4 = 2 → (s.generalFire i).evSet 244 = true) := by
  have fired := s.slotFire_slotFired hi' (show i ≠ 36 by omega)
  unfold State.generalFire
  extract_lets x c
  have mapKey := evKey_fireMap (show i / 32 < 8 by omega)
  split
  case h_1 action =>
    have mapped : SlotSpared i (s.slotFire i) ((s.slotFire i).orBits (Reg.TSC_CS_FIRE_MAP (i / 32)) (bitMask (i % 32))) :=
      ⟨.wr (.of_live rfl) _ mapKey (by unfold Reg.TSC_CS_STAT Reg.TSC_CS_FIRE_MAP; omega), rfl⟩
    refine ⟨fired.spared (mapped.raise hi' (by decide)), fun _ => ⟨State.raise_evSet _ 8 (by decide), ?_⟩, fun other => ?_⟩
    · rw [State.raise_rd _ 8 _ (by decide) mapKey]
      unfold State.orBits
      rw [State.rd_wr_same]
      exact bitAt_bitMask _ (Nat.mod_lt _ (by decide)) _
    · exact absurd (action.symm.trans other) (by decide)
  case h_2 action =>
    obtain ⟨snapped, told⟩ := s.slotSnap_spec hi' (show i ≠ 36 by omega)
    exact ⟨snapped, fun other => absurd (action.symm.trans other) (by decide), fun _ => told⟩
  case h_3 action =>
    have bounded := (s.slotFire i).slotBoundary_spared x i
    have armed := ((s.slotFire i).slotBoundary x).2.timArm_spared hi hi' (k := fld c 16 3) (Nat.mod_lt _ (by decide))
      ((s.slotFire i).slotBoundary x).1 true true
    exact ⟨fired.spared (bounded.trans armed), fun other => absurd (action.symm.trans other) (by decide),
      fun other => absurd (action.symm.trans other) (by decide)⟩
  case h_4 one two _ => exact ⟨fired, fun h => absurd h one, fun h => absurd h two⟩

end

/-! ### Who may write a slot -/

section
variable {s : State} {m : Master} {i : Nat}

/-- R28: a bound slot, and another core's firmware slot. -/
theorem State.slotAccess_other (h : i < 96 ∨ (i < 128 ∧ slotCore i ≠ m)) : s.slotAccess m i = .error (s.slotBadArm i) :=
  if_pos (by simpa using h)

/-- R12: a secure slot, for a non-secure master. -/
theorem State.slotAccess_secure (hi : 240 ≤ i) (h : m.secure = false) : s.slotAccess m i = .error (s.raise 192) := by
  unfold State.slotAccess
  rw [if_neg (by simp; omega), if_pos (by simp [hi, h])]

/-- R28: no master writes a bound slot. -/
theorem State.slotAccess_ok (h : s.slotAccess m i = .ok ()) : 96 ≤ i := by
  by_contra bound
  rw [State.slotAccess_other (.inl (by omega))] at h
  cases h

theorem State.slotCtrl_error {t : State} (h : s.slotAccess m i = .error t) (v : Word) : s.slotCtrl m i v = t := by
  unfold State.slotCtrl
  rw [h]

/-- R31–R33: an accepted write of ARM or DISARM acts after a firing of the same CCLK cycle. -/
theorem State.slotCtrl_ok (h : s.slotAccess m i = .ok ()) {v : Word} (acts : bitAt v 0 = true ∨ bitAt v 1 = true) {u : State}
    (hu : u = (s.slotDue i).wr (Reg.TSC_CS_CTRL i) (v &&& if i < 128 then 0x1C else 0xFF0F1C)) : s.slotCtrl m i v =
      if bitAt v 1 = true then u.slotDisarm i
      else if u.slotArmBad i = true then (u.slotDisarm i).slotBadArm i
      else u.slotArm i (BitVec.ofNat 64 (join32 (u.rd (Reg.TSC_CS_TIME_LO i)) (u.rd (Reg.TSC_CS_TIME_HI i))))
        (join32 (u.rd (Reg.TSC_CS_PERIOD_LO i)) (u.rd (Reg.TSC_CS_PERIOD_HI i))) (fld v 2 2) (bitAt v 4) := by
  unfold State.slotCtrl
  rw [h]
  dsimp only
  have acting : (bitAt v 0 || bitAt v 1) = true := by simpa using acts
  rw [if_pos acting, ← hu]
  by_cases disarm : bitAt v 1 = true
  · rw [if_pos disarm, if_pos disarm]
  · rw [if_neg disarm, if_neg disarm, if_neg (by simpa using acts.resolve_right disarm)]

end

/-! ### The fields of a word written -/

theorem fld_and (v w : Word) (lo n : Nat) : fld (v &&& w) lo n = fld v lo n &&& fld w lo n := by
  unfold fld
  rw [BitVec.toNat_and, Nat.shiftRight_and_distrib, Nat.and_mod_two_pow]

/-- R49: PAST_POLICY is kept of a word written to TSC_CS_CTRL. -/
theorem fld_policy_kept (v : Word) (general : Bool) : fld (v &&& if general then 0x1C else 0xFF0F1C) 2 2 = fld v 2 2 := by
  have mask : fld (if general then 0x1C else 0xFF0F1C) 2 2 = 2 ^ 2 - 1 := by cases general <;> decide
  rw [fld_and, mask, Nat.and_two_pow_sub_one_eq_mod]
  exact Nat.mod_mod ..

theorem bitAt_or_low (v : Word) : bitAt (v ||| 1) 0 = true ∧ bitAt (v ||| 1) 1 = bitAt v 1 ∧ bitAt (v ||| 2) 1 = true := by
  simp [bitAt]

/-! ### Arms and disarms -/

/-- R31–R33: CS_ARM by a master that may write the slot. -/
theorem csArm_does (m : Master) (i : Fin 256) (ctrl : Word) (s u : State)
    (ok : (s.advTo (s.cclkAfter 0)).slotAccess m i.val = .ok ())
    (hu : u = ((s.advTo (s.cclkAfter 0)).slotDue i.val).wr (Reg.TSC_CS_CTRL i.val)
       ((ctrl ||| 1) &&& (if i.val < 128 then 0x1C else 0xFF0F1C))) :
    Does (.csArm m i ctrl) s fun t => (∀ j, j ≠ i.val → t.slot j = u.slot j) ∧
       if bitAt ctrl 1 = true then t.slot i.val = { u.slot i.val with armed := false, late := none }
       else if u.slotArmBad i.val = true then
         t.slot i.val = { u.slot i.val with armed := false, late := none } ∧ t.evSet 11 = true ∧
         bitAt (t.rd (Reg.TSC_CS_STAT i.val)) 4 = true
       else t.slot i.val = u.armedAs i.val {
         armed := true
         time := BitVec.ofNat 64 (join32 (u.rd (Reg.TSC_CS_TIME_LO i.val)) (u.rd (Reg.TSC_CS_TIME_HI i.val)))
         period := join32 (u.rd (Reg.TSC_CS_PERIOD_LO i.val)) (u.rd (Reg.TSC_CS_PERIOD_HI i.val))
         policy := fld (ctrl ||| 1) 2 2
         follow := bitAt (ctrl ||| 1) 4 } := by
  obtain ⟨arm, disarm, -⟩ := bitAt_or_low ctrl
  refine ⟨_, congrArg Host.Outcome.next (State.slotCtrl_ok ok (.inl arm) hu), ?_⟩
  rw [disarm]
  have disarmed : SlotOnly i.val u (u.slotDisarm i.val) := (SlotOnly.refl ..).updSlot _
  have disarmedSlot : (u.slotDisarm i.val).slot i.val = { u.slot i.val with armed := false, late := none } := State.slot_updSlot_same ..
  by_cases off : bitAt ctrl 1 = true
  · rw [if_pos off]
    exact ⟨disarmed.others, ite_intro_pos off disarmedSlot⟩
  rw [if_neg off]
  by_cases bad : u.slotArmBad i.val = true
  · rw [if_pos bad]
    have refused := (disarmed.slotStat i.isLt 4).raise i.isLt (e := 11) (by decide)
    refine ⟨refused.others, ite_intro_neg off (ite_intro_pos bad ⟨?_, State.raise_evSet _ 11 (by decide), ?_⟩)⟩
    · exact (State.slot_raise ..).trans disarmedSlot
    · rw [State.slotBadArm, State.raise_rd _ 11 _ (by decide) (evKey_slotStat i.isLt)]
      exact State.slotStat_shows _ _ (by decide)
  · rw [if_neg bad]
    have programmed := State.slotAccess_ok ok
    have armed := (SlotOnly.refl i.val u).slotArm i.isLt (by omega)
    refine ⟨(armed _ _ _ _).others, ite_intro_neg off (ite_intro_neg bad (State.slotArm_slot _ _ _ _ _ _ (.inr ?_)))⟩
    rw [hu, State.rd_wr_same]
    simpa using fld_policy_kept (ctrl ||| 1) (decide (i.val < 128))

/-- R32: CS_DISARM by a master that may write the slot. -/
theorem csDisarm_does (m : Master) (i : Fin 256) (ctrl : Word) (s u : State)
    (ok : (s.advTo (s.cclkAfter 0)).slotAccess m i.val = .ok ()) (hu : u = (s.advTo (s.cclkAfter 0)).slotDue i.val) :
    Does (.csDisarm m i ctrl) s fun t =>
      t.slot i.val = { u.slot i.val with armed := false, late := none } ∧ ∀ j, j ≠ i.val → t.slot j = u.slot j := by
  have disarm : bitAt (ctrl ||| 2) 1 = true := (bitAt_or_low ctrl).2.2
  refine ⟨_, congrArg Host.Outcome.next ((State.slotCtrl_ok ok (.inr disarm) rfl).trans (if_pos disarm)), ?_⟩
  subst hu
  exact ⟨State.slot_updSlot_same .., fun j ne => State.slot_updSlot_ne _ _ ne⟩

/-- R12, R28: a write that a master may not make changes no slot. -/
theorem csWrite_refused (m : Master) (i : Fin 256) (ctrl : Word) (s : State) (c : Instr)
    (hc : c = Instr.csArm m i ctrl ∨ c = Instr.csDisarm m i ctrl) :
    (i.val < 96 ∨ (i.val < 128 ∧ slotCore i.val ≠ m) → Does c s fun t => (∀ j, t.slot j = s.slot j) ∧ t.evSet 11 = true) ∧
     (240 ≤ i.val → m.secure = false → Does c s fun t => (∀ j, t.slot j = s.slot j) ∧ t.evSet 192 = true) := by
  have runs {t : State} (h : (s.advTo (s.cclkAfter 0)).slotAccess m i.val = .error t) : exec c s = .next t := by
    rcases hc with rfl | rfl
    · exact congrArg Host.Outcome.next (State.slotCtrl_error h _)
    · exact congrArg Host.Outcome.next (State.slotCtrl_error h _)
  refine ⟨fun other => ⟨_, runs (State.slotAccess_other other), fun j => ?_, State.raise_evSet _ 11 (by decide)⟩,
    fun hi plain => ⟨_, runs (State.slotAccess_secure hi plain), fun j => ?_, State.raise_evSet _ 192 (by decide)⟩⟩
  · simp [State.slotBadArm, State.slotStat]
  · simp

/-! ### Firings -/

/-- R28, R29: FIRMWARE_SLOT_FIRE. -/
theorem firmwareSlotFire_does (i : Fin 32) (s : State) : Does (.firmwareSlotFire i) s fun t =>
     if s.slotReady (96 + i.val) = true then
       bitAt (t.rd (Reg.TSC_CS_STAT (96 + i.val))) 0 = true ∧ t.time.now = max s.time.now (s.slotTick (96 + i.val)) ∧
       ((s.slot (96 + i.val)).period = 0 → t.slot (96 + i.val) = { s.slot (96 + i.val) with armed := false, late := none })
     else t = s := by
  have hi : 96 + i.val < 256 := by omega
  have h36 : 96 + i.val ≠ 36 := by omega
  refine ⟨_, rfl, ?_⟩
  by_cases ready : s.slotReady (96 + i.val) = true
  · rw [if_pos ready]
    exact ite_intro_pos ready ⟨(s.slotFire_fired hi h36).2, s.slotFire_now hi h36, State.slotFire_oneShot⟩
  · rw [if_neg ready]
    exact ite_intro_neg ready rfl

/-- R30: COMPARE_SLOT_FIRE. -/
theorem compareSlotFire_does (i : Fin 128) (s : State) (a : Nat) (action : fld (s.rd (Reg.TSC_CS_CTRL (128 + i.val))) 8 4 = a) :
    Does (.compareSlotFire i) s fun t =>
     if s.slotReady (128 + i.val) = true then
       bitAt (t.rd (Reg.TSC_CS_STAT (128 + i.val))) 0 = true ∧
       ((s.slot (128 + i.val)).period = 0 → (t.slot (128 + i.val)).armed = false) ∧
       (a = 1 → t.evSet 8 = true ∧ bitAt (t.rd (Reg.TSC_CS_FIRE_MAP ((128 + i.val) / 32))) ((128 + i.val) % 32) = true) ∧
       (a = 2 → t.evSet 244 = true)
     else t = s := by
  refine ⟨_, rfl, ?_⟩
  by_cases ready : s.slotReady (128 + i.val) = true
  · rw [if_pos ready]
    subst action
    obtain ⟨⟨fired, once⟩, actions⟩ := s.generalFire_spec (show 128 ≤ 128 + i.val by omega) (by omega)
    exact ite_intro_pos ready ⟨fired, once, actions⟩
  · rw [if_neg ready]
    exact ite_intro_neg ready rfl

/-- Settles O17: a write by the slot's access, then by DISARM, by the refusals of R32 and by the judgement of its time; a firing by
what its action leaves of the slot that fired. -/
theorem compareSlots : Obligations.CompareSlots :=
  ⟨csArm_does, csDisarm_does, csWrite_refused, firmwareSlotFire_does, compareSlotFire_does⟩

end Sys2Proof.Machine
end

section
/-!
PROOFS. What work on the registers, the rings and the queues of a port leaves: the rules that the statements on ports rest on.
-/

namespace Sys2Proof.Machine

/-! ### Registers -/

/-- A register that lies at other places of its block of 64 KiB than EVT_CORE_STAT holds no event status, whichever its block. -/
theorem evKey_block {b : Nat} (h : 0x20020 ≤ b ∧ (b % 0x10000 < 0x60 ∨ 0x80 ≤ b % 0x10000)) (n : Nat) :
    evKey (b + 0x10000 * n) = false := by
  simp only [evKey, Bool.or_eq_false_iff, Bool.and_eq_false_iff, decide_eq_false_iff_not]
  unfold Reg.EVT_STAT Reg.EVT_CORE_STAT
  omega

theorem evKey_portEvt (n : Nat) : evKey (Reg.PRT_EVT n) = false := evKey_block (b := 0x0600014) (by decide) n

theorem evKey_htxCons (n : Nat) : evKey (Reg.PRT_HTX_CONS n) = false := evKey_block (b := 0x0600110) (by decide) n

theorem evKey_tsqLost (n : Nat) : evKey (Reg.PRT_TSQ_LOST n) = false := evKey_block (b := 0x0600220) (by decide) n

/-- `t` is `s` after work that writes of the registers only those of which `P` holds, and event status, of which it clears
none. -/
structure RegWork (P : Nat → Prop) (s t : State) : Prop where
  regs : ∀ a, ¬ P a → evKey a = false → t.rd a = s.rd a
  events : KeepsEvents s t

section
variable {P : Nat → Prop} {s t u : State} {n : Nat}

theorem RegWork.refl (s : State) : RegWork P s s := ⟨fun _ _ _ => rfl, .refl s⟩

theorem RegWork.trans (h : RegWork P s t) (k : RegWork P t u) : RegWork P s u :=
  ⟨fun a x y => (k.regs a x y).trans (h.regs a x y), h.events.trans k.events⟩

/-- An operation that leaves the live registers. -/
theorem RegWork.of_live (h : t.live = s.live) : RegWork P s t := ⟨fun _ _ _ => State.rd_congr h _, .of_live h⟩

theorem RegWork.updPort (h : RegWork P s t) (n : Nat) (f : PortSt → PortSt) : RegWork P s (t.updPort n f) := h.trans (.of_live rfl)

theorem RegWork.ite {c : Prop} [Decidable c] (h : RegWork P s t) (k : RegWork P s u) : RegWork P s (if c then t else u) := by
  split <;> assumption

theorem RegWork.foldl {α : Type} {f : State → α → State} (step : ∀ t a, RegWork P t (f t a)) (l : List α) (s : State) :
    RegWork P s (l.foldl f s) := by
  induction l generalizing s with
  | nil => exact .refl s
  | cons a l ih => exact (step s a).trans (ih _)

theorem RegWork.mono {Q : Nat → Prop} (h : RegWork P s t) (k : ∀ a, P a → Q a) : RegWork Q s t :=
  ⟨fun a x y => h.regs a (fun z => x (k a z)) y, h.events⟩

theorem RegWork.wr (h : RegWork P s t) {a : Nat} (v : Word) (m : P a) (ev : evKey a = false) : RegWork P s (t.wr a v) :=
  h.trans ⟨fun _ x _ => State.rd_wr_ne _ _ (fun e => x (e ▸ m)), .wr (.refl t) v ev⟩

theorem RegWork.raise (h : RegWork P s t) {e : Nat} (k : e < 256) : RegWork P s (t.raise e) :=
  h.trans ⟨fun a _ y => State.raise_rd t e a k y, .raise (.refl t) k⟩

theorem RegWork.raiseLim (h : RegWork P s t) {e : Nat} (k : e < 256) (key ticks : Nat) : RegWork P s (t.raiseLim e key ticks) :=
  h.trans ⟨fun a _ y => (State.raiseLim_evOnly t e key ticks k).regs a y, fun x _ => (State.raiseLim_evOnly t e key ticks k).sets x⟩

theorem RegWork.portEvt (h : RegWork P s t) {k : Nat} (hk : k < 160) (m : P (Reg.PRT_EVT n)) : RegWork P s (t.portEvt n k) :=
  (h.wr _ m (evKey_portEvt n)).raise (by omega)

theorem RegWork.portEvtLim (h : RegWork P s t) {k : Nat} (hk : k < 160) (m : P (Reg.PRT_EVT n)) (ticks : Nat) :
    RegWork P s (t.portEvtLim n k ticks) :=
  (h.wr _ m (evKey_portEvt n)).raiseLim (by omega) _ _

end

/-- R91: a port event stands in EVT_STAT. -/
theorem State.portEvt_evSet (s : State) (n : Nat) {k : Nat} (hk : k < 160) : (s.portEvt n k).evSet (96 + k) = true :=
  State.raise_evSet _ _ (by omega)

/-- R91: a port event writes of the registers PRT_EVT alone, beside event status. -/
theorem State.portEvt_rd (s : State) (n : Nat) {k a : Nat} (hk : k < 160) (ne : a ≠ Reg.PRT_EVT n) (ev : evKey a = false) :
    (s.portEvt n k).rd a = s.rd a :=
  (RegWork.portEvt (P := (· = Reg.PRT_EVT n)) (.refl s) hk rfl).regs a ne ev

@[simp] theorem State.port_portEvt (s : State) (n k m : Nat) : (s.portEvt n k).port m = s.port m := by
  simp [State.portEvt]

/-! ### The parts that stay -/

/-- A port is a part of the table of ports. -/
theorem State.port_congr {s t : State} (h : t.ports = s.ports) (m : Nat) : t.port m = s.port m := by
  unfold State.port; rw [h]

theorem State.clu_congr {s t : State} (h : t.clus = s.clus) (k : Nat) : t.clu k = s.clu k := by
  unfold State.clu; rw [h]

theorem State.cal_congr {s t : State} (h : t.cals = s.cals) (n : Nat) : t.cal n = s.cal n := by
  unfold State.cal; rw [h]

/-! ### The transmit ring and the timestamp queue -/

/-- The registers of port `n` that an entry for its timestamp queue writes (R84, R91). -/
def tsqRegs (n : Nat) : List Nat := [Reg.PRT_EVT n, Reg.PRT_TSQ_LOST n]

/-- The registers of port `n` that an unsent host frame writes (R80, R84, R91). -/
def htxRegs (n : Nat) : List Nat := Reg.PRT_HTX_CONS n :: tsqRegs n

/-- From `s` to `t` the ports differ only in what waits in their timestamp queues (R83, R84). -/
structure TsqWork (s t : State) : Prop where
  port : ∀ m, t.port m = { s.port m with tsq := (t.port m).tsq, tsqLostFlag := (t.port m).tsqLostFlag }

theorem TsqWork.of_ports {s t : State} (h : t.ports = s.ports) : TsqWork s t := ⟨fun m => by rw [State.port_congr h]⟩

theorem TsqWork.trans {s t u : State} (h : TsqWork s t) (k : TsqWork t u) : TsqWork s u := ⟨fun m => by rw [k.port m, h.port m]⟩

theorem TsqWork.foldl {α : Type} {f : State → α → State} (step : ∀ t a, TsqWork t (f t a)) (l : List α) (s : State) :
    TsqWork s (l.foldl f s) := by
  induction l generalizing s with
  | nil => exact .of_ports rfl
  | cons a l ih => exact (step s a).trans (ih _)

/-- R83, R84: a port with one more entry in its timestamp queue. -/
def PortSt.tsqPut (p : PortSt) (tag : Nat) (dropped : Bool) (stamp : Nat) : PortSt :=
  { p with tsq := p.tsq ++ [⟨tag, p.tsqLostFlag, dropped, stamp⟩], tsqLostFlag := false }

/-- R84: a port that has lost an entry of its timestamp queue. -/
def PortSt.tsqMiss (p : PortSt) : PortSt := { p with tsqLostFlag := true }

/-- A change of the timestamp queue of port `n`. -/
theorem State.updPort_tsqWork (s : State) (n : Nat) {f : PortSt → PortSt}
    (h : ∀ p, f p = { p with tsq := (f p).tsq, tsqLostFlag := (f p).tsqLostFlag }) : TsqWork s (s.updPort n f) := by
  refine ⟨fun m => ?_⟩
  by_cases e : m = n
  · rw [e, State.port_updPort_same, ← h]
  · rw [State.port_updPort_ne _ _ e]

section
variable (s : State) (n tag : Nat)

theorem State.htxDone_ports : (s.htxDone n).ports = s.ports := (State.htxDone_touch (w := 536871425) rfl s n (.refl ..)).same .ports rfl

/-- R80: the consumer index of the transmit ring advances. -/
theorem State.htxDone_cons : (s.htxDone n).rd (Reg.PRT_HTX_CONS n) = BitVec.ofNat 32
    (((s.rd (Reg.PRT_HTX_CONS n)).toNat + 1) % max 1 (s.ringSize (Reg.PRT_HTX_SIZE n))) := by
  unfold State.htxDone
  rw [State.portEvt_rd _ n (by decide) (by simp [Reg.PRT_HTX_CONS, Reg.PRT_EVT]) (evKey_htxCons n)]
  exact State.rd_wr_same ..

theorem State.htxDone_regWork : RegWork (· ∈ htxRegs n) s (s.htxDone n) :=
  ((RegWork.refl s).wr _ (by simp [htxRegs]) (evKey_htxCons n)).portEvt (by decide) (by simp [htxRegs, tsqRegs])

/-- R84: with 64 entries unread, an entry is lost with EV102. -/
theorem State.tsqPush_full {s : State} {n : Nat} (full : 64 ≤ (s.port n).tsq.length) (tag : Nat) (dropped : Bool) (stamp : Nat) :
    s.tsqPush n tag dropped stamp = ((s.updPort n PortSt.tsqMiss).bump (Reg.PRT_TSQ_LOST n)).portEvt n 6 := by
  unfold State.tsqPush
  exact if_pos full

/-- R83: with room an entry is written, the first with EV101. -/
theorem State.tsqPush_room {s : State} {n : Nat} (room : (s.port n).tsq.length < 64) (tag : Nat) (dropped : Bool) (stamp : Nat) :
    s.tsqPush n tag dropped stamp = if (s.port n).tsq = [] then (s.updPort n (·.tsqPut tag dropped stamp)).portEvt n 5
      else s.updPort n (·.tsqPut tag dropped stamp) := by
  unfold State.tsqPush
  exact if_neg (Nat.not_le.mpr room)

theorem State.tsqPush_regWork (dropped : Bool) (stamp : Nat) : RegWork (· ∈ tsqRegs n) s (s.tsqPush n tag dropped stamp) := by
  by_cases full : 64 ≤ (s.port n).tsq.length
  · rw [State.tsqPush_full full]
    exact (((RegWork.refl s).updPort ..).wr _ (by simp [tsqRegs]) (evKey_tsqLost n)).portEvt (by decide) (by simp [tsqRegs])
  · rw [State.tsqPush_room (Nat.lt_of_not_le full)]
    have put : RegWork (· ∈ tsqRegs n) s (s.updPort n (·.tsqPut tag dropped stamp)) := .of_live rfl
    exact .ite (put.portEvt (by decide) (by simp [tsqRegs])) put

theorem State.tsqPush_tsqWork (dropped : Bool) (stamp : Nat) : TsqWork s (s.tsqPush n tag dropped stamp) := by
  by_cases full : 64 ≤ (s.port n).tsq.length
  · rw [State.tsqPush_full full]
    have missed : TsqWork s (s.updPort n PortSt.tsqMiss) := s.updPort_tsqWork n fun _ => rfl
    exact missed.trans (.of_ports (by simp [State.portEvt, State.orBits]))
  · rw [State.tsqPush_room (Nat.lt_of_not_le full)]
    have queued : TsqWork s (s.updPort n (·.tsqPut tag dropped stamp)) := s.updPort_tsqWork n fun _ => rfl
    split
    · exact queued.trans (.of_ports (by simp [State.portEvt, State.orBits]))
    · exact queued

theorem State.htxDrop_regWork (ts : Bool) : RegWork (· ∈ htxRegs n) s (s.htxDrop n tag ts) :=
  .ite ((s.htxDone_regWork n).trans ((State.tsqPush_regWork ..).mono fun _ => List.mem_cons_of_mem _)) (s.htxDone_regWork n)

theorem State.htxDrop_tsqWork (ts : Bool) : TsqWork s (s.htxDrop n tag ts) := by
  have done : TsqWork s (s.htxDone n) := .of_ports (s.htxDone_ports n)
  unfold State.htxDrop
  split
  · exact done.trans (State.tsqPush_tsqWork ..)
  · exact done

end

end Sys2Proof.Machine
end

section
/-!
PROOFS. The statement about the host rings and the transmit timestamp queue (R71, R80–R84, R90, R91).
-/

namespace Sys2Proof.Machine

section
variable (s : State) (n : Nat)

/-- R91: the raise of a port event beside its bit in PRT_EVT. -/
theorem State.portEvt_evOnly {k : Nat} (hk : k < 160) :
    EvOnly (s.orBits (Reg.PRT_EVT n) (bitMask k)) (s.portEvt n k) ∧ (s.portEvt n k).evSet (96 + k) = true :=
  ⟨State.raise_evOnly _ _ (by omega), s.portEvt_evSet n hk⟩

/-- R80: the receive buffers posted with an index below the ring size, and an index that is discarded. -/
theorem State.hrxPost_spec (idx : Nat) (bufs : List (Nat × Nat)) :
    if idx < s.ringSize (Reg.PRT_HRX_SIZE n)
     then s.hrxPost n idx bufs =
       (s.updPort n (fun p => { p with rxBufs := p.rxBufs ++ bufs })).wr (Reg.PRT_HRX_PROD n) (BitVec.ofNat 32 idx)
     else EvOnly (s.orBits (Reg.PRT_EVT n) (bitMask 4)) (s.hrxPost n idx bufs) ∧ (s.hrxPost n idx bufs).evSet 100 = true := by
  unfold State.hrxPost
  split
  · rfl
  · exact s.portEvt_evOnly n (by decide)

/-! ### A frame of the host that is not sent -/

theorem State.htxDone_port (m : Nat) : (s.htxDone n).port m = s.port m := State.port_congr (s.htxDone_ports n) m

/-- R80: the consumption of a descriptor has EV107. -/
theorem State.htxDone_evSet : (s.htxDone n).evSet 107 = true := State.portEvt_evSet _ n (k := 11) (by decide)

/-- R84: what waits in the timestamp queue after an entry came. -/
theorem State.tsqPush_tsq (tag : Nat) (dropped : Bool) (stamp : Nat) : ((s.tsqPush n tag dropped stamp).port n).tsq =
    if (s.port n).tsq.length < 64 then (s.port n).tsq ++ [⟨tag, (s.port n).tsqLostFlag, dropped, stamp⟩] else (s.port n).tsq := by
  by_cases room : (s.port n).tsq.length < 64
  · rw [if_pos room, State.tsqPush_room room]
    split <;> simp [PortSt.tsqPut]
  · rw [if_neg room, State.tsqPush_full (Nat.le_of_not_lt room)]
    simp [PortSt.tsqMiss]

/-- R84: an entry that finds 64 unread is lost, with EV102. -/
theorem State.tsqPush_lost (full : 64 ≤ (s.port n).tsq.length) (tag : Nat) (dropped : Bool) (stamp : Nat) :
    (s.tsqPush n tag dropped stamp).evSet 102 = true ∧ ((s.tsqPush n tag dropped stamp).port n).tsqLostFlag = true := by
  rw [State.tsqPush_full full]
  exact ⟨State.portEvt_evSet _ n (k := 6) (by decide), by simp [PortSt.tsqMiss]⟩

/-- R83: the first entry of an empty queue has EV101. -/
theorem State.tsqPush_first (empty : (s.port n).tsq = []) (tag : Nat) (dropped : Bool) (stamp : Nat) :
    (s.tsqPush n tag dropped stamp).evSet 101 = true := by
  rw [State.tsqPush_room (by simp [empty]), if_pos empty]
  exact State.portEvt_evSet _ n (k := 5) (by decide)

end

/-- R71, R80–R84: `t` is `s` after a host frame of port `n` was consumed without being sent, with its DROPPED entry where one was
asked for. -/
structure Unsent (n tag : Nat) (ts : Bool) (s t : State) : Prop where
  consumed : t.evSet 107 = true
  be : (t.port n).be = (s.port n).be
  cons : t.rd (Reg.PRT_HTX_CONS n) = BitVec.ofNat 32
    (((s.rd (Reg.PRT_HTX_CONS n)).toNat + 1) % max 1 (s.ringSize (Reg.PRT_HTX_SIZE n)))
  tsq : (t.port n).tsq = if ts = true ∧ (s.port n).tsq.length < 64
    then (s.port n).tsq ++ [⟨tag, (s.port n).tsqLostFlag, true, 0⟩] else (s.port n).tsq
  lost : ts = true ∧ 64 ≤ (s.port n).tsq.length → t.evSet 102 = true ∧ (t.port n).tsqLostFlag = true
  first : ts = true ∧ (s.port n).tsq = [] → t.evSet 101 = true

/-- R71, R81: the discard of a host frame. -/
theorem State.htxDrop_unsent (s : State) (n tag : Nat) (ts : Bool) : Unsent n tag ts s (s.htxDrop n tag ts) := by
  have be : ((s.htxDrop n tag ts).port n).be = (s.port n).be := by rw [(s.htxDrop_tsqWork n tag ts).port]
  have same : (s.htxDone n).port n = s.port n := s.htxDone_port n n
  cases ts with
  | false =>
    have entry : s.htxDrop n tag false = s.htxDone n := rfl
    rw [entry] at be ⊢
    exact ⟨s.htxDone_evSet n, be, s.htxDone_cons n, by simp [same], by simp, by simp⟩
  | true =>
    have entry : s.htxDrop n tag true = (s.htxDone n).tsqPush n tag true 0 := rfl
    have work := (s.htxDone n).tsqPush_regWork n tag true 0
    rw [entry] at be ⊢
    refine ⟨work.events 107 (by decide) (s.htxDone_evSet n), be, ?_, ?_, fun h => ?_, fun h => ?_⟩
    · rw [work.regs _ (by simp [tsqRegs, Reg.PRT_HTX_CONS, Reg.PRT_EVT, Reg.PRT_TSQ_LOST]) (evKey_htxCons n)]
      exact s.htxDone_cons n
    · rw [State.tsqPush_tsq, same]
      simp
    · exact State.tsqPush_lost _ n (by rw [same]; exact h.2) ..
    · exact State.tsqPush_first _ n (by rw [same]; exact h.2) ..

/-- The frame is discarded all the same after operations that left the queues of the port and the ring. -/
theorem Unsent.before {n tag : Nat} {ts : Bool} {s u t : State} (h : Unsent n tag ts u t)
    (be : (u.port n).be = (s.port n).be) (tsq : (u.port n).tsq = (s.port n).tsq)
    (flag : (u.port n).tsqLostFlag = (s.port n).tsqLostFlag)
    (cons : u.rd (Reg.PRT_HTX_CONS n) = s.rd (Reg.PRT_HTX_CONS n)) (size : u.rd (Reg.PRT_HTX_SIZE n) = s.rd (Reg.PRT_HTX_SIZE n)) :
    Unsent n tag ts s t := by
  have ring : u.ringSize (Reg.PRT_HTX_SIZE n) = s.ringSize (Reg.PRT_HTX_SIZE n) := by unfold State.ringSize; rw [size]
  exact ⟨h.consumed, h.be.trans be, by rw [h.cons, cons, ring], by rw [h.tsq, tsq, flag], tsq ▸ h.lost, tsq ▸ h.first⟩

/-! ### The commands -/

/-- R83, R90: a pop of the timestamp queue. -/
theorem tsqPop_does (n : Fin 8) (s : State) : Does (.tsqPop n) s fun t => match (s.port n.val).tsq with
     | [] => t = { s with bus := { data := [0] } }
     | e :: r => t = { s.updPort n.val (fun p => { p with tsq := r, tsqLatch := e }) with bus := { data := [tsqWord e r.length] } } := by
  cases waiting : (s.port n.val).tsq with
  | nil => exact ⟨_, by change execTsqPop n s = _; unfold execTsqPop; rw [waiting], rfl⟩
  | cons e r => exact ⟨_, by change execTsqPop n s = _; unfold execTsqPop; rw [waiting], rfl⟩

/-- R80, R91: an advance of the producer index. -/
theorem hostTxProduce_does (n : Fin 8) (idx : Fin 4096) (s : State) :
    Does (.hostTxProduce n idx) s fun t => if idx.val < s.ringSize (Reg.PRT_HTX_SIZE n.val)
     then t = s.wr (Reg.PRT_HTX_PROD n.val) (BitVec.ofNat 32 idx.val)
     else EvOnly (s.orBits (Reg.PRT_EVT n.val) (bitMask 4)) t ∧ t.evSet 100 = true := by
  refine ⟨_, rfl, ?_⟩
  by_cases inside : idx.val < s.ringSize (Reg.PRT_HTX_SIZE n.val)
  · exact ite_intro_pos inside (if_pos inside)
  · rw [if_neg inside]
    exact ite_intro_neg inside (s.portEvt_evOnly n.val (k := 4) (by decide))

/-- R71, R81: a frame of the host for a port that is not UP is counted and discarded. -/
theorem State.bePush_down {s : State} {n : Nat} (down : s.isUp n = false) (tag : Nat) (ts : Bool) (len : Nat) (b : List Byte) :
    s.bePush n (.host tag ts) len b = (s.bump (Reg.PRT_DROP_LINK n)).htxDrop n tag ts := by
  unfold State.bePush
  rw [if_neg (by simp [down])]

/-- R81: the descriptor that a fetch takes. -/
theorem hostTxDescriptor_does (n : Fin 8) (d : TxDesc) (s u : State) (hu : u = s.updPort n.val (fun p => { p with
       htxFetch := (p.htxFetch + 1) % max 1 (s.ringSize (Reg.PRT_HTX_SIZE n.val)) })) :
     Does (.hostTxDescriptor n d) s fun t =>
       if (s.rd (Reg.PRT_HTX_PROD n.val)).toNat = (s.port n.val).htxFetch then t = s
       else if 60 ≤ d.len ∧ d.len ≤ 9212 ∧ s.isUp n.val = true then
         t = u.updPort n.val (fun p => { p with
           be := p.be ++ [{ kind := .host d.tag d.tsReq, len := d.len + 4, since := s.time.now, bytes := d.bytes
                            asymTx := valueAt p.asymTx s.nowSt }] })
       else
         t.evSet 107 = true ∧ (t.port n.val).be = (s.port n.val).be ∧
         t.rd (Reg.PRT_HTX_CONS n.val) = BitVec.ofNat 32
           (((s.rd (Reg.PRT_HTX_CONS n.val)).toNat + 1) % max 1 (s.ringSize (Reg.PRT_HTX_SIZE n.val))) ∧
         ((t.port n.val).tsq = if d.tsReq = true ∧ (s.port n.val).tsq.length < 64
           then (s.port n.val).tsq ++ [⟨d.tag, (s.port n.val).tsqLostFlag, true, 0⟩] else (s.port n.val).tsq) ∧
         (d.tsReq = true ∧ 64 ≤ (s.port n.val).tsq.length → t.evSet 102 = true ∧ (t.port n.val).tsqLostFlag = true) ∧
         (d.tsReq = true ∧ (s.port n.val).tsq = [] → t.evSet 101 = true) ∧
         (60 ≤ d.len ∧ d.len ≤ 9212 → t.rd (Reg.PRT_DROP_LINK n.val) = (s.bump (Reg.PRT_DROP_LINK n.val)).rd (Reg.PRT_DROP_LINK n.val)) := by
  have run : exec (.hostTxDescriptor n d) s = if (s.rd (Reg.PRT_HTX_PROD n.val)).toNat = (s.port n.val).htxFetch then .next s
      else if d.len < 60 || 9212 < d.len then .next (u.htxDrop n.val d.tag d.tsReq)
      else .next (u.bePush n.val (.host d.tag d.tsReq) (d.len + 4) d.bytes) := by
    subst hu; rfl
  by_cases none_ : (s.rd (Reg.PRT_HTX_PROD n.val)).toNat = (s.port n.val).htxFetch
  · exact ⟨s, run.trans (if_pos none_), ite_intro_pos none_ rfl⟩
  rw [if_neg none_] at run
  have port : u.port n.val = { s.port n.val with
      htxFetch := ((s.port n.val).htxFetch + 1) % max 1 (s.ringSize (Reg.PRT_HTX_SIZE n.val)) } := by
    subst hu; exact State.port_updPort_same ..
  have regs (a : Nat) : u.rd a = s.rd a := by subst hu; rfl
  have up : u.isUp n.val = s.isUp n.val := by unfold State.isUp; rw [port]
  by_cases len : 60 ≤ d.len ∧ d.len ≤ 9212
  · rw [if_neg (by simp; omega)] at run
    by_cases sends : s.isUp n.val = true
    · refine ⟨_, run, ite_intro_neg none_ (ite_intro_pos ⟨len.1, len.2, sends⟩ ?_)⟩
      subst hu
      unfold State.bePush
      exact if_pos (up.trans sends)
    · rw [State.bePush_down (up.trans (by simpa using sends))] at run
      obtain ⟨consumed, be, cons, tsq, lost, first⟩ :=
        ((u.bump (Reg.PRT_DROP_LINK n.val)).htxDrop_unsent n.val d.tag d.tsReq).before (s := s) (by rw [State.port_bump, port])
          (by rw [State.port_bump, port]) (by rw [State.port_bump, port])
          (by rw [State.bump_rd_ne _ _ (by simp [Reg.PRT_HTX_CONS, Reg.PRT_DROP_LINK]), regs])
          (by rw [State.bump_rd_ne _ _ (by simp [Reg.PRT_HTX_SIZE, Reg.PRT_DROP_LINK]), regs])
      refine ⟨_, run, ite_intro_neg none_ (ite_intro_neg (fun h => sends h.2.2) ⟨consumed, be, cons, tsq, lost, first, fun _ => ?_⟩)⟩
      rw [(State.htxDrop_regWork ..).regs _ (by simp [htxRegs, tsqRegs, Reg.PRT_DROP_LINK, Reg.PRT_HTX_CONS, Reg.PRT_EVT,
        Reg.PRT_TSQ_LOST]) (evKey_dropLink n.val), State.bump_rd_same, State.bump_rd_same, regs]
  · rw [if_pos (by simp; omega)] at run
    obtain ⟨consumed, be, cons, tsq, lost, first⟩ := (u.htxDrop_unsent n.val d.tag d.tsReq).before (s := s) (by rw [port])
      (by rw [port]) (by rw [port]) (regs _) (regs _)
    exact ⟨_, run, ite_intro_neg none_ (ite_intro_neg (fun h => len ⟨h.1, h.2.1⟩)
      ⟨consumed, be, cons, tsq, lost, first, fun h => absurd h len⟩)⟩

/-- Settles O20: a pop by what waits, an index by the size of its ring, and a descriptor by its length and the state of the port. -/
theorem hostRings : Obligations.HostRings :=
  ⟨tsqPop_does, hostTxProduce_does, fun n idx bufs s => ⟨_, rfl, s.hrxPost_spec n.val idx.val bufs⟩, hostTxDescriptor_does⟩

end Sys2Proof.Machine
end

section
/-!
PROOFS. The statement about links: bring-up, calibration, loss and drift tracking (R53, R67–R71, R134).
-/

namespace Sys2Proof.Machine

/-! ### Two changes of one entry -/

section
variable {α : Type} (d : Nat → α) (t : Tab α) (k : Nat) (v w : α)

theorem tput_tput : tput (tput t k v) k w = tput t k w := by
  induction t with
  | nil => simp [tput]
  | cons p t ih =>
    by_cases below : k < p.1
    · simp [tput, below]
    · by_cases here : p.1 = k
      · simp [tput, here]
      · simp [tput, below, here, ih]

theorem tdel_tput : tdel (tput t k v) k = tdel t k := by
  induction t with
  | nil => simp [tput, tdel]
  | cons p t ih =>
    by_cases below : k < p.1
    · simp [tput, tdel, below]
    · by_cases here : p.1 = k
      · simp [tput, tdel, here]
      · simp [tput, tdel, below, here, ih]

/-- A second write of an entry hides a first one that listed it. -/
theorem tset_tset [DecidableEq α] (listed : v ≠ d k) : tset d (tset d t k v) k w = tset d t k w := by
  unfold tset
  rw [if_neg listed, tput_tput, tdel_tput]

end

/-- A second change of a port follows a first one that gave it another state than that of an unlisted port. -/
theorem State.updPort_updPort (s : State) (n : Nat) (f g : PortSt → PortSt) (listed : f (s.port n) ≠ portDef n) :
    (s.updPort n f).updPort n g = s.updPort n (fun p => g (f p)) := by
  unfold State.updPort tupd
  rw [tget_tset_same]
  exact congrArg (fun ports => { s with ports := ports }) (tset_tset portDef s.ports n _ _ listed)

/-- A change of a port depends on what it makes of the port as it is. -/
theorem State.updPort_congr (s : State) (n : Nat) {f g : PortSt → PortSt} (h : f (s.port n) = g (s.port n)) :
    s.updPort n f = s.updPort n g :=
  congrArg (fun p => { s with ports := tset portDef s.ports n p }) h

/-! ### Bring-up -/

/-- R53, R67: the lanes that detect a signal are shown, and a sweep starts when they are all those of the mode. -/
theorem signalDetect_does (n : Fin 8) (lanes : Fin 256) (s : State) :
    Does (.signalDetect n lanes) s fun t => t = s.updPort n.val (fun p =>
     if p.link = .down ∧ s.modeMask n.val ≠ 0 ∧ lanes.val &&& s.modeMask n.val = s.modeMask n.val
       then { p with sigDet := lanes.val &&& p.lanesOn, link := .calRx, stepAt := s.time.now }
     else { p with sigDet := lanes.val &&& p.lanesOn }) := by
  have shown : ((s.updPort n.val (fun p => { p with sigDet := lanes.val &&& p.lanesOn })).port n.val).link = (s.port n.val).link := by
    rw [State.port_updPort_same]
  have starts : ((((s.updPort n.val (fun p => { p with sigDet := lanes.val &&& p.lanesOn })).port n.val).link = .down &&
      s.modeMask n.val != 0 && lanes.val &&& s.modeMask n.val == s.modeMask n.val) = true) ↔
      (s.port n.val).link = .down ∧ s.modeMask n.val ≠ 0 ∧ lanes.val &&& s.modeMask n.val = s.modeMask n.val := by
    rw [shown]
    simp [and_assoc]
  refine ⟨_, rfl, ?_⟩
  by_cases sweep : (s.port n.val).link = .down ∧ s.modeMask n.val ≠ 0 ∧ lanes.val &&& s.modeMask n.val = s.modeMask n.val
  · refine (if_pos (starts.mpr sweep)).trans ((State.updPort_updPort _ _ _ _ fun h => ?_).trans (State.updPort_congr _ _ ?_))
    · have disabled : (s.port n.val).link = .disabled := congrArg PortSt.link h
      rw [sweep.1] at disabled
      cases disabled
    · exact (if_pos sweep).symm
  · exact (if_neg (mt starts.mp sweep)).trans (State.updPort_congr _ _ (if_neg sweep).symm)

/-- R67: the end `a` of a receive sweep. -/
theorem execRxSweepDone_sweeps {n : Fin 8} {s : State} (sweeps : (s.port n.val).link = .calRx) {a : Nat}
    (ends : a = (s.port n.val).stepAt + 800 * usTicks) : exec (.rxSweepDone n) s = .next ((s.advTo a).updPort n.val (fun p =>
      { p with link := .training, stepAt := (s.advTo a).time.now })) := by
  subst ends
  exact if_pos sweeps

theorem rxSweepDone_does (n : Fin 8) (s : State) : Does (.rxSweepDone n) s fun t =>
     if (s.port n.val).link = .calRx then
       t.port n.val = { s.port n.val with link := .training, stepAt := t.time.now } ∧
       t.time.now = max s.time.now ((s.port n.val).stepAt + 800 * usTicks) ∧ ∀ m, m ≠ n.val → t.port m = s.port m
     else t = s := by
  obtain ⟨a, ends⟩ : ∃ a, a = (s.port n.val).stepAt + 800 * usTicks := ⟨_, rfl⟩
  rw [← ends]
  by_cases sweeps : (s.port n.val).link = .calRx
  · refine ⟨_, execRxSweepDone_sweeps sweeps ends, ite_intro_pos sweeps ⟨?_, s.advTo_now a, fun m ne => ?_⟩⟩
    · rw [State.port_updPort_same, State.port_advTo, State.updPort_time]
    · rw [State.port_updPort_ne _ _ ne, State.port_advTo]
  · exact ⟨s, if_neg sweeps, ite_intro_neg sweeps rfl⟩

/-- R67: the PCS link status becomes true. -/
theorem pcsLinkUp_does (n : Fin 8) (s : State) : Does (.pcsLinkUp n) s fun t => t = if (s.port n.val).link = .training
     then s.updPort n.val (fun p => { p with link := .calCheck, stepAt := s.time.now }) else s := by
  by_cases trains : (s.port n.val).link = .training
  · exact ⟨_, if_pos trains, (if_pos trains).symm⟩
  · exact ⟨s, if_neg trains, (if_neg trains).symm⟩

/-- R68: what the load of a calibration makes of its port: the values, or the nominal ones with EV098. -/
theorem State.calLoad_spec (s : State) (n : Nat) (c : CalResult) {ok : Bool} (judged : ok = true ↔ c.residualOk = true ∧
      (c.rx - s.calRxNom n).natAbs ≤ 2000 ∧ (c.tx - s.calTxNom n).natAbs ≤ 2000) :
    ((s.calLoad n c).port n).calRx = (if ok then c.rx else s.calRxNom n) ∧
      ((s.calLoad n c).port n).calTx = (if ok then c.tx else s.calTxNom n) ∧
      ((s.calLoad n c).port n).skew = (if ok then c.skews else []) ∧ ((s.calLoad n c).port n).calState = (if ok then 1 else 2) ∧
      (ok = false → (s.calLoad n c).evSet 98 = true) ∧ ∀ m, m ≠ n → (s.calLoad n c).port m = s.port m := by
  have same : (c.residualOk && !(decide (2000 < (c.rx - s.calRxNom n).natAbs) || decide (2000 < (c.tx - s.calTxNom n).natAbs))) = ok := by
    rw [Bool.eq_iff_iff, judged]
    simp
  unfold State.calLoad
  dsimp only
  rw [same]
  cases ok with
  | true => exact ⟨by simp, by simp, by simp, by simp, nofun, fun m ne => State.port_updPort_ne _ _ ne⟩
  | false =>
    refine ⟨by simp, by simp, by simp, by simp, fun _ => State.portEvt_evSet _ n (k := 2) (by decide), fun m ne => ?_⟩
    exact (State.port_portEvt ..).trans (State.port_updPort_ne _ _ ne)

/-! ### What follows a change of a link -/

theorem SlotOnly.syncArm {s t : State} {i : Nat} (h : SlotOnly i s t) (hi : i < 256) (h36 : i ≠ 36) (after : Nat) :
    SlotOnly i s (t.syncArm i after) := by
  unfold State.syncArm
  exact .ite (h.updSlot _) (h.slotArmBound hi h36 ..)

section
variable (s : State) (n : Nat)

theorem State.clListen_keepsEvents (i : Nat) : KeepsEvents s (s.clListen i) :=
  (ClientWork.clSetPort (((s.clFreeRun_servoWork i).work.updClient ..).updClient ..) i _).sets

theorem State.clFault_keepsEvents (i : Nat) : KeepsEvents s (s.clFault i) :=
  (ClientWork.clSetPort (((s.clFreeRun_servoWork i).work.updClient ..).updClient ..) i _).sets

theorem State.clPortUp_keepsEvents : KeepsEvents s (s.clPortUp n) :=
  .foldl (fun t i => .ite (t.clListen_keepsEvents i) (.refl t)) _ s

theorem State.clPortDown_keepsEvents : KeepsEvents s (s.clPortDown n) :=
  .foldl (fun t i => .ite (t.clFault_keepsEvents i) (.refl t)) _ s

theorem State.internalRefs_keepsEvents : KeepsEvents s s.internalRefs := (ClientWork.internalRefs (.refl s)).sets

theorem State.internalRefs_parts : s.internalRefs.ports = s.ports ∧ s.internalRefs.cals = s.cals := by
  have work : Touch 541065729 s s.internalRefs := State.internalRefs_touch rfl s (.refl ..)
  exact ⟨work.same .ports rfl, work.same .cals rfl⟩

/-- R67, R76, R148, R250: what follows on port `n` once it is UP: the Sync slots, EV096, the clients and the references. -/
def State.linkFollow : State :=
  ((((s.syncArm (80 + n) s.nowSt).syncArm (88 + n) s.nowSt).portEvt n 0).clPortUp n).internalRefs

theorem State.linkFollow_ports : (s.linkFollow n).ports = s.ports := by
  have work : Touch 542114569 s (s.linkFollow n) := State.internalRefs_touch rfl _ (State.clPortUp_touch rfl _ _
    (State.portEvt_touch rfl _ _ _ (State.syncArm_touch rfl _ _ _ (State.syncArm_touch rfl _ _ _ (.refl ..)))))
  exact work.same .ports rfl

theorem State.linkFollow_now {n : Nat} (hn : n < 8) : (s.linkFollow n).time.now = s.time.now := by
  have armed := ((SlotWork.refl s).syncArm (i := 80 + n) (by omega) (by omega) s.nowSt).syncArm (i := 88 + n) (by omega) (by omega)
    s.nowSt
  have work : Touch 542114305 _ (s.linkFollow n) := State.internalRefs_touch rfl _ (State.clPortUp_touch rfl _ n
    (State.portEvt_touch rfl _ n 0 (.refl _ ((s.syncArm (80 + n) s.nowSt).syncArm (88 + n) s.nowSt))))
  have time : (s.linkFollow n).time = ((s.syncArm (80 + n) s.nowSt).syncArm (88 + n) s.nowSt).time := work.same .time rfl
  rw [time, armed.now]

theorem State.linkFollow_events {n : Nat} (hn : n < 8) : KeepsEvents s (s.linkFollow n) ∧ (s.linkFollow n).evSet 96 = true := by
  have first : SlotOnly (80 + n) s (s.syncArm (80 + n) s.nowSt) := (SlotOnly.refl _ s).syncArm (by omega) (by omega) _
  have armed : KeepsEvents s ((s.syncArm (80 + n) s.nowSt).syncArm (88 + n) s.nowSt) :=
    first.told.events.trans ((SlotOnly.refl (88 + n) _).syncArm (by omega) (by omega) _).told.events
  have told (u : State) : KeepsEvents u ((u.clPortUp n).internalRefs) :=
    (u.clPortUp_keepsEvents n).trans (State.internalRefs_keepsEvents _)
  have event : KeepsEvents s (((s.syncArm (80 + n) s.nowSt).syncArm (88 + n) s.nowSt).portEvt n 0) :=
    armed.trans (RegWork.portEvt (P := fun _ => True) (.refl _) (by decide) trivial).events
  exact ⟨event.trans (told _), told _ 96 (by decide) (State.portEvt_evSet _ n (k := 0) (by decide))⟩

end

/-- R67, R134: port `n` with the calibration `c` comes UP in `s`, with a grid that is not locked. -/
def State.linkRise (s : State) (n : Nat) (c : CalResult) : State :=
  (s.calLoad n c).updPort n (fun p => { p with
    link := .up, stepAt := (s.calLoad n c).time.now, trackAt := (s.calLoad n c).time.now + sTicks
    gridPhase := c.gridPhase, gridStep := (s.calLoad n c).gridStepNow n, gridLock := false, gridGood := 0
    gridAt := (s.calLoad n c).time.now })

theorem State.calLoad_time (s : State) (n : Nat) (c : CalResult) : (s.calLoad n c).time = s.time :=
  (State.calLoad_touch (w := 536875521) rfl s n c (.refl ..)).same .time rfl

theorem le_cclkCeil (t : Nat) : t ≤ cclkCeil t := by
  unfold cclkCeil ceilDiv cclkTicks
  omega

/-- R67: at the end `a` of the calibration check the port comes UP. -/
theorem execLinkUp_checked {n : Fin 8} {c : CalResult} {s : State} (checks : (s.port n.val).link = .calCheck) {a : Nat}
    (ends : a = cclkCeil (max s.time.now ((s.port n.val).stepAt + 200 * usTicks))) :
    exec (.linkUp n c) s = .next (((s.advTo a).linkRise n.val c).linkFollow n.val) := by
  subst ends
  exact if_pos checks

theorem linkUp_does (n : Fin 8) (c : CalResult) (s : State) (ok : Bool) (judged : ok = true ↔ c.residualOk = true ∧
      (c.rx - s.calRxNom n.val).natAbs ≤ 2000 ∧ (c.tx - s.calTxNom n.val).natAbs ≤ 2000) :
     Does (.linkUp n c) s fun t =>
       if (s.port n.val).link = .calCheck then
         (t.port n.val).link = .up ∧ (t.port n.val).gridPhase = c.gridPhase ∧ (t.port n.val).gridLock = false ∧
         (t.port n.val).calRx = (if ok then c.rx else s.calRxNom n.val) ∧
         (t.port n.val).calTx = (if ok then c.tx else s.calTxNom n.val) ∧
         (t.port n.val).skew = (if ok then c.skews else []) ∧ (t.port n.val).calState = (if ok then 1 else 2) ∧
         (ok = false → t.evSet 98 = true) ∧ t.evSet 96 = true ∧ (s.port n.val).stepAt + 200 * usTicks ≤ t.time.now ∧
         ∀ m, m ≠ n.val → (t.port m).link = (s.port m).link
       else t = s := by
  obtain ⟨b, waits⟩ : ∃ b, b = (s.port n.val).stepAt + 200 * usTicks := ⟨_, rfl⟩
  rw [← waits]
  by_cases checks : (s.port n.val).link = .calCheck
  · obtain ⟨a, ends⟩ : ∃ a, a = cclkCeil (max s.time.now b) := ⟨_, rfl⟩
    have nom : (s.advTo a).calRxNom n.val = s.calRxNom n.val ∧ (s.advTo a).calTxNom n.val = s.calTxNom n.val := by
      simp [State.calRxNom, State.calTxNom, State.mode, State.fec]
    obtain ⟨rx, tx, skew, state, failed, others⟩ := (s.advTo a).calLoad_spec n.val c (ok := ok) (by rw [nom.1, nom.2]; exact judged)
    rw [nom.1] at rx
    rw [nom.2] at tx
    obtain ⟨kept, up⟩ := State.linkFollow_events ((s.advTo a).linkRise n.val c) n.isLt
    have ports := State.linkFollow_ports ((s.advTo a).linkRise n.val c) n.val
    have port := State.port_congr ports n.val
    have own : ((s.advTo a).linkRise n.val c).port n.val = _ := State.port_updPort_same ..
    rw [own] at port
    refine ⟨_, execLinkUp_checked checks (waits ▸ ends), ite_intro_pos checks ?_⟩
    rw [port]
    refine ⟨rfl, rfl, rfl, rx, tx, skew, state, fun h => kept 98 (by decide) (failed h), up, ?_, fun m ne => ?_⟩
    · rw [State.linkFollow_now _ n.isLt]
      change b ≤ ((s.advTo a).calLoad n.val c).time.now
      rw [State.calLoad_time, State.advTo_now, ends]
      exact ((le_max_right ..).trans (le_cclkCeil _)).trans (le_max_right ..)
    · rw [State.port_congr ports m]
      unfold State.linkRise
      rw [State.port_updPort_ne _ _ ne, others m ne, State.port_advTo]
  · exact ⟨s, if_neg checks, ite_intro_neg checks rfl⟩

/-! ### Loss -/

/-- R71: a frame of the best-effort queue of port `n` that is discarded there, with the DROPPED entry of a host frame. -/
def State.unsend (s : State) (n : Nat) (f : BeFrame) : State :=
  match f.kind with
  | .host tag ts => s.htxDrop n tag ts
  | _ => s

theorem State.unsend_cals (s : State) (n : Nat) (f : BeFrame) : (s.unsend n f).cals = s.cals := by
  unfold State.unsend
  split
  · exact (State.htxDrop_touch (w := 536875521) rfl s n _ _ (.refl ..)).same .cals rfl
  · rfl

theorem State.unsend_tsqWork (s : State) (n : Nat) (f : BeFrame) : TsqWork s (s.unsend n f) := by
  unfold State.unsend
  split
  · exact s.htxDrop_tsqWork ..
  · exact .of_ports rfl

/-- R71: a port without a frame in its best-effort queue, on its wire or in reservation. -/
def PortSt.cleared (p : PortSt) : PortSt := { p with be := [], beWire := [], reserved := none }

/-- R71, R154: the frames that leave by port `n` are counted and discarded. -/
theorem State.dropLeaving_eq (s : State) (t : Tab Word) (counter n : Nat) : ∃ k, s.dropLeaving t counter n =
    (s.port n).be.foldl (fun s f => s.unsend n f) (((s.bump counter k).updCal n (fun c =>
      { c with frames := [], pouring := [] })).updPort n PortSt.cleared) := ⟨_, rfl⟩

/-- R71: the calendar of the port is empty then, and so is its best-effort queue. -/
theorem State.dropLeaving_spec (s : State) (t : Tab Word) (counter n : Nat) :
    ((s.dropLeaving t counter n).cal n).frames = [] ∧ ((s.dropLeaving t counter n).cal n).pouring = [] ∧
      TsqWork (s.updPort n PortSt.cleared) (s.dropLeaving t counter n) := by
  obtain ⟨k, eq⟩ := s.dropLeaving_eq t counter n
  rw [eq]
  have cals (l : List BeFrame) (u : State) : (l.foldl (fun s f => s.unsend n f) u).cals = u.cals := by
    induction l generalizing u with
    | nil => rfl
    | cons f l ih => exact (ih _).trans (u.unsend_cals n f)
  rw [State.cal_congr (cals ..), State.cal_updPort, State.cal_updCal_same]
  have cleared : TsqWork (s.updPort n PortSt.cleared) (((s.bump counter k).updCal n (fun c =>
      { c with frames := [], pouring := [] })).updPort n PortSt.cleared) := .of_ports rfl
  exact ⟨rfl, rfl, cleared.trans (.foldl (f := fun u f => u.unsend n f) (fun u f => u.unsend_tsqWork n f) _ _)⟩

/-- R69, R71: `t` is `s` after port `n` lost its link. -/
structure Lost (n : Nat) (s t : State) : Prop where
  link : (t.port n).link = if (s.port n).link = .up ∨ (s.port n).link = .calRx ∨ (s.port n).link = .training ∨
    (s.port n).link = .calCheck then .down else (s.port n).link
  emptied : (s.port n).link = .up → (t.port n).be = [] ∧ (t.cal n).frames = [] ∧ (t.cal n).pouring = [] ∧
    (t.port n).gridLock = false ∧ t.evSet 97 = true
  lanes : (t.port n).lanesOn = (s.port n).lanesOn
  others : ∀ m, m ≠ n → (t.port m).link = (s.port m).link

/-- The link is lost all the same after operations that show the lanes or look at the references. -/
theorem Lost.trans {n : Nat} {s t u : State} (h : Lost n s t) (port : ∀ m, u.port m = { t.port m with sigDet := (u.port m).sigDet })
    (cals : u.cals = t.cals) (events : KeepsEvents t u) : Lost n s u where
  link := by rw [port]; exact h.link
  emptied up := by
    obtain ⟨be, frames, pouring, grid, event⟩ := h.emptied up
    rw [port, State.cal_congr cals]
    exact ⟨be, frames, pouring, grid, events 97 (by decide) event⟩
  lanes := by rw [port]; exact h.lanes
  others m ne := by rw [port]; exact h.others m ne

/-- R71: a port that goes down from UP. -/
def PortSt.goDown (byCommit : Bool) (p : PortSt) : PortSt :=
  { p with link := .down, lastDownMode := byCommit, gridLock := false, gridGood := 0 }

/-- R71: a port that is UP drops what it carries, with EV097. -/
theorem State.linkDown_up {s : State} {n : Nat} (up : (s.port n).link = .up) (t : Tab Word) (byCommit : Bool) :
    s.linkDown t n byCommit = ((((s.dropArriving n).dropLeaving t (Reg.PRT_DROP_LINK n) n).updPort n
      (PortSt.goDown byCommit)).portEvt n 1).clPortDown n := by
  unfold State.linkDown
  rw [up]
  rfl

theorem State.linkDown_up_lost {s : State} {n : Nat} (up : (s.port n).link = .up) (t : Tab Word) (byCommit : Bool) :
    Lost n s (s.linkDown t n byCommit) := by
  obtain ⟨frames, pouring, queue⟩ := (s.dropArriving n).dropLeaving_spec t (Reg.PRT_DROP_LINK n) n
  have arriving (m : Nat) : (s.dropArriving n).port m = s.port m :=
    State.port_congr ((State.dropArriving_touch (w := 65537) rfl s n (.refl ..)).same .ports rfl) m
  rw [State.linkDown_up up]
  generalize (s.dropArriving n).dropLeaving t (Reg.PRT_DROP_LINK n) n = u at *
  have work : Touch 542114305 (u.updPort n (PortSt.goDown byCommit))
      (((u.updPort n (PortSt.goDown byCommit)).portEvt n 1).clPortDown n) :=
    State.clPortDown_touch rfl _ n (State.portEvt_touch rfl _ n 1 (.refl ..))
  have own := queue.port n
  rw [State.port_updPort_same, arriving] at own
  have ports : (((u.updPort n (PortSt.goDown byCommit)).portEvt n 1).clPortDown n).port n = (u.port n).goDown byCommit :=
    (State.port_congr (work.same .ports rfl) n).trans (State.port_updPort_same ..)
  refine ⟨?_, fun _ => ⟨?_, ?_, ?_, ?_, ?_⟩, ?_, fun m ne => ?_⟩
  · rw [ports, if_pos (.inl up)]
    rfl
  · rw [ports, PortSt.goDown, own]
    rfl
  · rw [State.cal_congr (work.same .cals rfl)]
    exact frames
  · rw [State.cal_congr (work.same .cals rfl)]
    exact pouring
  · rw [ports]
    rfl
  · exact (State.clPortDown_keepsEvents _ n) 97 (by decide) (State.portEvt_evSet _ n (k := 1) (by decide))
  · rw [ports, PortSt.goDown, own]
    rfl
  · rw [State.port_congr (work.same .ports rfl), State.port_updPort_ne _ _ ne, queue.port m, State.port_updPort_ne _ _ ne, arriving]

/-- R71, R73: a link that goes down. -/
theorem State.linkDown_lost (s : State) (t : Tab Word) (n : Nat) (byCommit : Bool) : Lost n s (s.linkDown t n byCommit) := by
  have abandoned (h : (s.port n).link = .calRx ∨ (s.port n).link = .training ∨ (s.port n).link = .calCheck) :
      Lost n s (s.updPort n (fun p => { p with link := .down })) := by
    refine ⟨?_, fun up => ?_, ?_, fun m ne => by rw [State.port_updPort_ne _ _ ne]⟩
    · rw [State.port_updPort_same, if_pos (.inr h)]
    · rw [up] at h
      simp at h
    · rw [State.port_updPort_same]
  have stays (h : (s.port n).link = .disabled ∨ (s.port n).link = .down ∨ (s.port n).link = .paired) : Lost n s s := by
    refine ⟨?_, fun up => ?_, rfl, fun _ _ => rfl⟩
    · rcases h with h | h | h <;> simp [h]
    · rw [up] at h
      simp at h
  by_cases up : (s.port n).link = .up
  · exact State.linkDown_up_lost up t byCommit
  unfold State.linkDown
  cases link : (s.port n).link with
  | up => exact absurd link up
  | calRx => exact abandoned (.inl link)
  | training => exact abandoned (.inr (.inl link))
  | calCheck => exact abandoned (.inr (.inr link))
  | disabled => exact stays (.inl link)
  | down => exact stays (.inr (.inl link))
  | paired => exact stays (.inr (.inr link))

theorem Lost.internalRefs {n : Nat} {s t : State} (h : Lost n s t) : Lost n s t.internalRefs :=
  h.trans (fun m => by rw [State.port_congr t.internalRefs_parts.1]) t.internalRefs_parts.2 t.internalRefs_keepsEvents

/-- R71: the lanes that still detect a signal are shown. -/
theorem Lost.lanesShown {n : Nat} {s t : State} (h : Lost n s t) (lanes : Nat) :
    Lost n s (t.updPort n (fun p => { p with sigDet := lanes &&& p.lanesOn })) := by
  refine h.trans (fun m => ?_) rfl (.of_live rfl)
  by_cases e : m = n
  · rw [e, State.port_updPort_same]
  · rw [State.port_updPort_ne _ _ e]

theorem linkLoss_does (n : Fin 8) (lanes : Fin 256) (s : State) (c : Instr) (hc : c = Instr.linkDown n lanes ∨ c = Instr.calRetry n) :
    Does c s fun t =>
     (t.port n.val).link = (if (s.port n.val).link = .up ∨ (s.port n.val).link = .calRx ∨ (s.port n.val).link = .training ∨
       (s.port n.val).link = .calCheck then .down else (s.port n.val).link) ∧
     ((s.port n.val).link = .up → (t.port n.val).be = [] ∧ (t.cal n.val).frames = [] ∧ (t.cal n.val).pouring = [] ∧
       (t.port n.val).gridLock = false ∧ t.evSet 97 = true) ∧
     (c = Instr.linkDown n lanes → (t.port n.val).sigDet = lanes.val &&& (s.port n.val).lanesOn) ∧
     ∀ m, m ≠ n.val → (t.port m).link = (s.port m).link := by
  have lost := s.linkDown_lost s.active n.val false
  rcases hc with rfl | rfl
  · obtain ⟨link, emptied, -, others⟩ := (lost.lanesShown lanes.val).internalRefs
    refine ⟨_, rfl, link, emptied, fun _ => ?_, others⟩
    rw [State.port_congr (State.internalRefs_parts _).1, State.port_updPort_same]
    exact congrArg (lanes.val &&& ·) lost.lanes
  · obtain ⟨link, emptied, -, others⟩ := lost.internalRefs
    exact ⟨_, rfl, link, emptied, nofun, others⟩

/-! ### Drift tracking -/

theorem trackBy_bound (v d : Int) : (trackBy v d - v).natAbs ≤ 2 := by
  unfold trackBy
  omega

/-- R70: drift tracking. -/
theorem calTrack_does (n : Fin 8) (rx tx : Int) (skews : List Int) (s : State) : Does (.calTrack n rx tx skews) s fun t =>
     if s.isUp n.val = true ∧ bitAt (s.ac (Reg.PRT_CTRL n.val)) 4 = true then
       t.port n.val = { s.port n.val with
         calRx := trackBy (s.port n.val).calRx rx, calTx := trackBy (s.port n.val).calTx tx, skew := skews
         trackCount := min 65535 ((s.port n.val).trackCount + 1), trackAt := (s.port n.val).trackAt + sTicks } ∧
       ((t.port n.val).calRx - (s.port n.val).calRx).natAbs ≤ 2 ∧ ((t.port n.val).calTx - (s.port n.val).calTx).natAbs ≤ 2 ∧
       (s.port n.val).trackAt ≤ t.time.now
     else t = s := by
  have guard : (s.isUp n.val && bitAt (s.ac (Reg.PRT_CTRL n.val)) 4) = true ↔
      s.isUp n.val = true ∧ bitAt (s.ac (Reg.PRT_CTRL n.val)) 4 = true := Bool.and_eq_true_iff
  by_cases tracks : s.isUp n.val = true ∧ bitAt (s.ac (Reg.PRT_CTRL n.val)) 4 = true
  · refine ⟨_, if_pos (guard.mpr tracks), ite_intro_pos tracks ?_⟩
    rw [State.port_updPort_same, State.port_advTo, State.updPort_time, State.advTo_now]
    exact ⟨rfl, trackBy_bound .., trackBy_bound .., ((le_cclkCeil _).trans (le_max_right ..)).trans (le_max_right ..)⟩
  · exact ⟨s, if_neg (mt guard.mp tracks), ite_intro_neg tracks rfl⟩

/-- Settles O18: each command by the state of its link; what it leaves comes from the parts of the state that its work touches. -/
theorem linkStates : Obligations.LinkStates :=
  ⟨signalDetect_does, rxSweepDone_does, pcsLinkUp_does, linkUp_does, fun n lanes s c => linkLoss_does n lanes s c, calTrack_does⟩

end Sys2Proof.Machine
end

section
/-!
PROOFS. The statement about ESMC: what the firmware records and what it sends (R77, R78, R89, R149).
-/

namespace Sys2Proof.Machine

/-! ### What is recorded -/

theorem evKey_esmcRx (n : Nat) : evKey (Reg.PRT_ESMC_RX n) = false := evKey_block (b := 0x0600088) (by decide) n

/-- The registers of monitor `m` that count and time its failures (R308). -/
def monRegs (m : Nat) : List Nat := [Reg.REF_DISQ_COUNT m, Reg.REF_LAST_FAIL m]

section
variable {P : Nat → Prop} {s t : State} {m : Nat}

theorem RegWork.refChanged (h : RegWork P s t) : RegWork P s t.refChanged := h.trans (.of_live rfl)

theorem RegWork.updMon (h : RegWork P s t) (m : Nat) (f : Monitor → Monitor) : RegWork P s (t.updMon m f) := h.trans (.of_live rfl)

/-- R303, R307: the entry of monitor `m` into a failing state. -/
def State.monEnter (t : State) (m : Nat) (f : MonState) : State :=
  match f.entryEvent with
  | some e => (t.updMon m (fun x => { x with state := f, wtrEnd := none, wtrLeft := 0 })).raise e
  | none => t.updMon m (fun x => { x with state := f, wtrEnd := none, wtrLeft := 0 })

theorem RegWork.monEnter (h : RegWork P s t) (m : Nat) (f : MonState) : RegWork P s (t.monEnter m f) := by
  unfold State.monEnter
  split
  case h_1 e entered => exact (h.updMon ..).raise (MonState.entryEvent_lt entered)
  case h_2 => exact h.updMon ..

/-- R308: a monitor that fails is entered, and counted where it was QUALIFIED. -/
theorem State.monEval_failing {f : MonState} (failing : t.refFailing m = some f) : t.monEval m =
    if (t.mon m).state = f then t
    else State.refChanged (if (t.mon m).state = .qualified then
      (((t.monEnter m f).bump (Reg.REF_DISQ_COUNT m)).wr (Reg.REF_LAST_FAIL m) (BitVec.ofNat 32 (t.monEnter m f).sec)).raise 33
      else t.monEnter m f) := by
  unfold State.monEval
  rw [failing]
  rfl

/-- R308: the evaluation of a monitor writes only what counts and times its failures. -/
theorem RegWork.monEval (h : RegWork (· ∈ monRegs m) s t) (hm : m < 13) : RegWork (· ∈ monRegs m) s (t.monEval m) := by
  obtain ⟨count, last⟩ := evKey_refReg hm
  cases failing : t.refFailing m with
  | some f =>
    rw [State.monEval_failing failing]
    have entered := h.monEnter m f
    exact .ite h (.refChanged (.ite (((entered.wr _ (by simp [monRegs]) count).wr _ (by simp [monRegs]) last).raise (by decide))
      entered))
  | none =>
    unfold State.monEval
    rw [failing]
    have waits (f : Monitor → Monitor) : RegWork (· ∈ monRegs m) s ((t.updMon m f).wtrSync m) :=
      (h.updMon m f).trans (.of_live ((State.wtrSync_touch (w := 4194304) rfl _ m (.refl ..)).same .live rfl))
    exact .ite h (.refChanged (waits _))

/-- R306: the judgement of a received QL writes only what counts and times the failures of the monitor of SYNCE. -/
theorem State.qlJudge_regWork (s : State) (n : Nat) : RegWork (· ∈ monRegs 11) s (s.qlJudge n) :=
  .ite (.refl s) (.monEval (.updMon (.refl s) ..) (by decide))

end

section
variable (s : State) (n : Nat)

theorem State.qlJudge_parts : (s.qlJudge n).ports = s.ports ∧ (s.qlJudge n).time = s.time := by
  have work : Touch 541065729 s (s.qlJudge n) := State.qlJudge_touch rfl s n (.refl ..)
  exact ⟨work.same .ports rfl, work.same .time rfl⟩

theorem State.qlJudge_esmcRx (k : Nat) : (s.qlJudge n).rd (Reg.PRT_ESMC_RX k) = s.rd (Reg.PRT_ESMC_RX k) :=
  (s.qlJudge_regWork n).regs _ (by simp [monRegs, Reg.PRT_ESMC_RX, Reg.REF_DISQ_COUNT, Reg.REF_LAST_FAIL]; omega) (evKey_esmcRx k)

end

/-- R77: the firmware records the word `v` of a PDU of port `n` at the present instant, with EV104 unless it is the `same` QL. -/
def State.esmcRecord (s : State) (n : Nat) (v : Word) (same : Bool) : State :=
  let u := (s.wr (Reg.PRT_ESMC_RX n) v).updPort n (fun p => { p with esmcAt := s.time.now })
  (if same then u else u.portEvt n 8).qlJudge n

theorem State.esmcRecord_spec (s : State) (n : Nat) (v : Word) (same : Bool) :
    ((s.esmcRecord n v same).port n).esmcAt = s.time.now ∧ (s.esmcRecord n v same).rd (Reg.PRT_ESMC_RX n) = v ∧
      (same = false → (s.esmcRecord n v same).evSet 104 = true) := by
  have apart : Reg.PRT_ESMC_RX n ≠ Reg.PRT_EVT n := by simp [Reg.PRT_ESMC_RX, Reg.PRT_EVT]
  unfold State.esmcRecord
  dsimp only
  rw [State.port_congr (State.qlJudge_parts ..).1, State.qlJudge_esmcRx]
  cases same with
  | true =>
    rw [if_pos rfl, State.port_updPort_same, State.rd_updPort, State.rd_wr_same]
    exact ⟨rfl, rfl, nofun⟩
  | false =>
    rw [if_neg (by decide), State.port_portEvt, State.port_updPort_same, State.portEvt_rd _ n (by decide) apart (evKey_esmcRx n),
      State.rd_updPort, State.rd_wr_same]
    exact ⟨rfl, rfl, fun _ => (State.qlJudge_regWork ..).events 104 (by decide) (State.portEvt_evSet _ n (k := 8) (by decide))⟩

/-- R77: whether a PDU with the word `v` tells the QL that port `n` shows. -/
def State.esmcSame (s : State) (n : Nat) (v : Word) : Bool :=
  fld v 0 12 = fld (s.rd (Reg.PRT_ESMC_RX n)) 0 12 && !bitAt (s.rd (Reg.PRT_ESMC_RX n)) 12

/-- R77: what runs at a received PDU where ESMC is enabled. -/
theorem execEsmcPduReceived_eq (n : Fin 8) (ssm : Fin 16) (essm : Option (Fin 256)) (s : State) {v : Word}
    (hv : v = esmcWord ssm.val ((essm.map Fin.val).getD 0) false) : exec (.esmcPduReceived n ssm essm) s =
      if !bitAt (s.ac (Reg.PRT_ESMC_TX n.val)) 0 || !s.isUp n.val || s.taskStopped 0 then .next s
      else .next (s.esmcRecord n.val v (s.esmcSame n.val v)) := by
  subst hv
  cases essm <;> rfl

theorem esmcPduReceived_does (n : Fin 8) (ssm : Fin 16) (essm : Option (Fin 256)) (s : State) :
    Does (.esmcPduReceived n ssm essm) s fun t =>
     if bitAt (s.ac (Reg.PRT_ESMC_TX n.val)) 0 = true ∧ s.isUp n.val = true ∧ s.taskStopped 0 = false then
       (t.port n.val).esmcAt = s.time.now ∧ t.rd (Reg.PRT_ESMC_RX n.val) = esmcWord ssm.val ((essm.map Fin.val).getD 0) false ∧
       (fld (t.rd (Reg.PRT_ESMC_RX n.val)) 0 12 ≠ fld (s.rd (Reg.PRT_ESMC_RX n.val)) 0 12 ∨
         bitAt (s.rd (Reg.PRT_ESMC_RX n.val)) 12 = true → t.evSet 104 = true)
     else t = s := by
  have guard : ¬ (!bitAt (s.ac (Reg.PRT_ESMC_TX n.val)) 0 || !s.isUp n.val || s.taskStopped 0) = true ↔
      bitAt (s.ac (Reg.PRT_ESMC_TX n.val)) 0 = true ∧ s.isUp n.val = true ∧ s.taskStopped 0 = false := by
    simp [and_assoc]
  obtain ⟨v, hv⟩ : ∃ v, v = esmcWord ssm.val ((essm.map Fin.val).getD 0) false := ⟨_, rfl⟩
  have run := execEsmcPduReceived_eq n ssm essm s hv
  by_cases takes : bitAt (s.ac (Reg.PRT_ESMC_TX n.val)) 0 = true ∧ s.isUp n.val = true ∧ s.taskStopped 0 = false
  · obtain ⟨at_, word, event⟩ := s.esmcRecord_spec n.val v (s.esmcSame n.val v)
    refine ⟨_, run.trans (if_neg (guard.mpr takes)), ite_intro_pos takes ⟨at_, word.trans hv, fun changed => event ?_⟩⟩
    rw [word] at changed
    unfold State.esmcSame
    rcases changed with changed | changed
    · simp [changed]
    · simp [changed]
  · exact ⟨s, run.trans (if_pos (by_contra (takes ∘ guard.mp))), ite_intro_neg takes rfl⟩

/-- R77: a port shows TIMEOUT after `a`, when 5 s have passed without a PDU. -/
def State.esmcLapse (s : State) (n a : Nat) : State :=
  (((s.advTo a).wr (Reg.PRT_ESMC_RX n) (putBit (s.rd (Reg.PRT_ESMC_RX n)) 12 true)).portEvt n 9).qlJudge n

theorem execEsmcTimeout_eq (n : Fin 8) (s : State) {a : Nat} (ha : a = (s.port n.val).esmcAt + 5 * sTicks) :
    exec (.esmcTimeout n) s = if !bitAt (s.ac (Reg.PRT_ESMC_TX n.val)) 0 || bitAt (s.rd (Reg.PRT_ESMC_RX n.val)) 12 then .next s
      else .next (s.esmcLapse n.val a) := by
  subst ha
  rfl

theorem esmcTimeout_does (n : Fin 8) (s : State) : Does (.esmcTimeout n) s fun t =>
     if bitAt (s.ac (Reg.PRT_ESMC_TX n.val)) 0 = true ∧ bitAt (s.rd (Reg.PRT_ESMC_RX n.val)) 12 = false then
       t.rd (Reg.PRT_ESMC_RX n.val) = putBit (s.rd (Reg.PRT_ESMC_RX n.val)) 12 true ∧ t.evSet 105 = true ∧
       t.time.now = max s.time.now ((s.port n.val).esmcAt + 5 * sTicks)
     else t = s := by
  have guard : ¬ (!bitAt (s.ac (Reg.PRT_ESMC_TX n.val)) 0 || bitAt (s.rd (Reg.PRT_ESMC_RX n.val)) 12) = true ↔
      bitAt (s.ac (Reg.PRT_ESMC_TX n.val)) 0 = true ∧ bitAt (s.rd (Reg.PRT_ESMC_RX n.val)) 12 = false := by
    simp
  obtain ⟨a, ha⟩ : ∃ a, a = (s.port n.val).esmcAt + 5 * sTicks := ⟨_, rfl⟩
  have run := execEsmcTimeout_eq n s ha
  rw [← ha]
  by_cases lapses : bitAt (s.ac (Reg.PRT_ESMC_TX n.val)) 0 = true ∧ bitAt (s.rd (Reg.PRT_ESMC_RX n.val)) 12 = false
  · refine ⟨_, run.trans (if_neg (guard.mpr lapses)), ite_intro_pos lapses ⟨?_, ?_, ?_⟩⟩
    · unfold State.esmcLapse
      rw [State.qlJudge_esmcRx, State.portEvt_rd _ _ (by decide) (by simp [Reg.PRT_ESMC_RX, Reg.PRT_EVT]) (evKey_esmcRx _),
        State.rd_wr_same]
    · exact (State.qlJudge_regWork ..).events 105 (by decide) (State.portEvt_evSet _ _ (k := 9) (by decide))
    · unfold State.esmcLapse
      rw [(State.qlJudge_parts ..).2, State.portEvt, State.raise_time]
      exact s.advTo_now a
  · exact ⟨s, run.trans (if_pos (by_contra (lapses ∘ guard.mp))), ite_intro_neg lapses rfl⟩

/-! ### One port sends -/

/-- The extended TLV is sent on port `n` (R77, R89). -/
def State.esmcTlv (s : State) (n : Nat) : Bool := bitAt (s.ac (Reg.PRT_ESMC_TX n)) 1

/-- R78, R149: a port `p` that has sent a PDU: the code last sent, the tick `tx` of the next information PDU, and the class 2 frame
at the tail of its queue. -/
structure PduSent (code : Nat) (event ext : Bool) (tx : Nat) (p q : PortSt) : Prop where
  ql : q.esmcQlSent = code
  next : q.esmcTxAt = tx
  queued : ∃ f : BeFrame, q.be = p.be ++ [f] ∧ f.kind = .core ∧ f.len = 64 ∧ f.bytes = esmcPdu code event ext

/-- From `s` to `t` only ports change, and what has left the package. -/
def PortsOut (s t : State) : Prop := t = { s with ports := t.ports, outbox := t.outbox }

theorem PortsOut.trans {s t u : State} (h : PortsOut s t) (k : PortsOut t u) : PortsOut s u := by
  unfold PortsOut at *
  rw [k, h]

theorem PortsOut.esmcCode {s t : State} (h : PortsOut s t) (n : Nat) : t.esmcCode n = s.esmcCode n := by
  unfold PortsOut at h
  rw [h]
  rfl

theorem PortsOut.esmcTlv {s t : State} (h : PortsOut s t) (n : Nat) : t.esmcTlv n = s.esmcTlv n := by
  unfold PortsOut at h
  rw [h]
  rfl

/-- R78: `t` is `s` after port `n` has sent a PDU. -/
structure EsmcOne (n : Nat) (event : Bool) (tx : Nat) (s t : State) : Prop where
  rest : PortsOut s t
  out : t.outbox = .esmc n (s.esmcCode n) event (s.esmcTlv n) :: s.outbox
  sent : PduSent (s.esmcCode n) event (s.esmcTlv n) tx (s.port n) (t.port n)
  others : ∀ m, m ≠ n → t.port m = s.port m

/-- R78: port `n` notes the code that it sends, and the PDU leaves. -/
def State.esmcTold (s : State) (n : Nat) (event : Bool) : State :=
  (s.updPort n (fun p => { p with esmcQlSent := s.esmcCode n })).emit (.esmc n (s.esmcCode n) event (s.esmcTlv n))

theorem State.esmcTold_port (s : State) (n : Nat) (event : Bool) :
    (s.esmcTold n event).port n = { s.port n with esmcQlSent := s.esmcCode n } :=
  State.port_updPort_same s n fun p => { p with esmcQlSent := s.esmcCode n }

theorem State.esmcTold_others (s : State) {n m : Nat} (event : Bool) (ne : m ≠ n) : (s.esmcTold n event).port m = s.port m :=
  State.port_updPort_ne s (fun p => { p with esmcQlSent := s.esmcCode n }) ne

/-- R149: a frame of the firmware joins the queue of a port that is UP. -/
theorem State.bePush_join {s : State} {n : Nat} (up : s.isUp n = true) (len : Nat) (b : List Byte) :
    s.bePush n .core len b = s.updPort n (fun p => { p with
      be := p.be ++ [{ kind := .core, len := len, since := s.time.now, bytes := b, asymTx := valueAt p.asymTx s.nowSt }] }) := by
  unfold State.bePush
  exact if_pos up

/-- R78, R149: a PDU of a port that is UP. -/
theorem State.esmcSend_one {s : State} {n : Nat} (up : s.isUp n = true) (event : Bool) :
    EsmcOne n event (s.port n).esmcTxAt s (s.esmcSend n event) := by
  have still : (s.esmcTold n event).isUp n = true := by
    unfold State.isUp at *
    rwa [State.esmcTold_port]
  have sends : s.esmcSend n event = (s.esmcTold n event).bePush n .core 64 (esmcPdu (s.esmcCode n) event (s.esmcTlv n)) := rfl
  rw [sends, State.bePush_join still]
  refine ⟨rfl, rfl, ?_, fun m ne => ?_⟩
  · rw [State.port_updPort_same, State.esmcTold_port]
    exact ⟨rfl, rfl, _, rfl, rfl, rfl, rfl⟩
  · rw [State.port_updPort_ne _ _ ne, State.esmcTold_others _ _ ne]

/-- R78: an information PDU, after which the next is due at tick `tx`. -/
theorem State.esmcSend_info {s : State} {n : Nat} (up : s.isUp n = true) (tx : Nat) :
    EsmcOne n false tx s ((s.updPort n (fun p => { p with esmcTxAt := tx })).esmcSend n false) := by
  have still : (s.updPort n (fun p => { p with esmcTxAt := tx })).isUp n = true := by
    unfold State.isUp at *
    rwa [State.port_updPort_same]
  obtain ⟨rest, out, ⟨ql, next, queued⟩, others⟩ := State.esmcSend_one still false
  have own : (s.updPort n (fun p => { p with esmcTxAt := tx })).port n = { s.port n with esmcTxAt := tx } := State.port_updPort_same ..
  rw [own] at next queued
  exact ⟨PortsOut.trans (t := s.updPort n (fun p => { p with esmcTxAt := tx })) rfl rest, out, ⟨ql, next, queued⟩,
    fun m ne => (others m ne).trans (State.port_updPort_ne _ _ ne)⟩

/-! ### The ports of a list send in turn -/

/-- R78: `t` is `s` after each port of `l` that is due has sent a PDU. -/
structure EsmcRun (due : Nat → Prop) (event : Bool) (tx : Nat → Nat) (l : List Nat) (s t : State) : Prop where
  rest : PortsOut s t
  out : ∃ o, t.outbox = o ++ s.outbox ∧ ∀ x, x ∈ o ↔ ∃ m ∈ l, due m ∧ x = .esmc m (s.esmcCode m) event (s.esmcTlv m)
  sent : ∀ m ∈ l, due m → PduSent (s.esmcCode m) event (s.esmcTlv m) (tx m) (s.port m) (t.port m)
  quiet : ∀ m, ¬ (m ∈ l ∧ due m) → t.port m = s.port m

section
variable {due : Nat → Prop} {event : Bool} {tx : Nat → Nat} {l : List Nat} {s t u : State} {n : Nat}

theorem EsmcRun.nil (s : State) : EsmcRun due event tx [] s s := ⟨rfl, ⟨[], rfl, by simp⟩, nofun, fun _ _ => rfl⟩

/-- A further port that is not due. -/
theorem EsmcRun.skip (h : EsmcRun due event tx l s t) (idle : ¬ due n) : EsmcRun due event tx (l ++ [n]) s t := by
  have listed {m : Nat} (hm : m ∈ l ++ [n]) (hd : due m) : m ∈ l := by
    rcases List.mem_append.mp hm with old | new
    · exact old
    · rw [List.mem_singleton.mp new] at hd
      exact absurd hd idle
  obtain ⟨o, eq, mem⟩ := h.out
  refine ⟨h.rest, ⟨o, eq, fun x => (mem x).trans ⟨?_, ?_⟩⟩, fun m hm hd => h.sent m (listed hm hd) hd, fun m hm => h.quiet m ?_⟩
  · exact fun ⟨m, hm, hd, hx⟩ => ⟨m, List.mem_append_left _ hm, hd, hx⟩
  · exact fun ⟨m, hm, hd, hx⟩ => ⟨m, listed hm hd, hd, hx⟩
  · exact fun hq => hm ⟨List.mem_append_left _ hq.1, hq.2⟩

/-- A further port that sends. -/
theorem EsmcRun.send (h : EsmcRun due event tx l s t) (new : n ∉ l) (now : due n) (one : EsmcOne n event (tx n) t u) :
    EsmcRun due event tx (l ++ [n]) s u := by
  obtain ⟨o, eq, mem⟩ := h.out
  have untouched := h.quiet n fun hq => new hq.1
  refine ⟨h.rest.trans one.rest, ⟨.esmc n (s.esmcCode n) event (s.esmcTlv n) :: o, ?_, fun x => ?_⟩, fun m hm hd => ?_, fun m hm => ?_⟩
  · rw [one.out, eq, h.rest.esmcCode, h.rest.esmcTlv]
    rfl
  · simp [mem, now, or_and_right, exists_or, or_comm]
  · rcases List.mem_append.mp hm with old | last
    · rw [one.others m fun e => new (e ▸ old)]
      exact h.sent m old hd
    · have sent := one.sent
      rw [h.rest.esmcCode, h.rest.esmcTlv, untouched] at sent
      rwa [List.mem_singleton.mp last]
  · rw [one.others m fun e => hm ⟨by simp [e], e ▸ now⟩]
    exact h.quiet m fun hq => hm ⟨List.mem_append_left _ hq.1, hq.2⟩

/-- The ports of a list, each by its own step. -/
theorem EsmcRun.foldl {step : State → Nat → State} (nodup : l.Nodup)
    (one : ∀ m ∈ l, ∀ t, PortsOut s t → t.port m = s.port m →
      (due m → EsmcOne m event (tx m) t (step t m)) ∧ (¬ due m → step t m = t)) :
    EsmcRun due event tx l s (l.foldl step s) := by
  induction l using List.reverseRecOn with
  | nil => exact .nil s
  | append_singleton l n ih =>
    obtain ⟨before, -, apart⟩ := List.nodup_append.mp nodup
    have new : n ∉ l := fun h => apart n h n (by simp) rfl
    have run := ih before fun m hm => one m (by simp [hm])
    obtain ⟨sends, skips⟩ := one n (by simp) _ run.rest (run.quiet n fun h => new h.1)
    rw [List.foldl_append]
    by_cases now : due n
    · exact run.send new now (sends now)
    · change EsmcRun due event tx (l ++ [n]) s (step (l.foldl step s) n)
      rw [skips now]
      exact run.skip now

end

/-! ### The commands -/

/-- R78: the first of the ticks at which a port of a list is due. -/
theorem foldl_min_spec (f : Nat → Nat) (n : Nat) (l : List Nat) :
    (∃ m ∈ n :: l, f m = (l.map f).foldl min (f n)) ∧ ∀ m ∈ n :: l, (l.map f).foldl min (f n) ≤ f m := by
  have first : ((n :: l).map f).min? = some ((l.map f).foldl min (f n)) := List.min?_cons'
  obtain ⟨mem, least⟩ := List.min?_eq_some_iff.mp first
  exact ⟨List.mem_map.mp mem, fun m hm => least _ (List.mem_map_of_mem hm)⟩

/-- The passage of time leaves what ESMC sends. -/
theorem State.esmcCode_advTo (s : State) (a n : Nat) : (s.advTo a).esmcCode n = s.esmcCode n := by
  rw [State.advTo_shape]
  rfl

theorem State.esmcTlv_advTo (s : State) (a n : Nat) : (s.advTo a).esmcTlv n = s.esmcTlv n := by
  rw [State.advTo_shape]
  rfl

/-- R78: the turn of port `m` for an information PDU, the next of which is due `second` ticks later. -/
def State.infoTurn (second : Nat) (s : State) (m : Nat) : State :=
  if s.time.now < (s.port m).esmcTxAt then s
  else (s.updPort m (fun p => { p with esmcTxAt := s.time.now + second })).esmcSend m false

theorem execEsmcInfoSend_eq (s : State) {second : Nat} (hs : second = sTicks) : exec .esmcInfoSend s =
    match (List.range 8).filter s.esmcOn with
    | [] => .next s
    | n :: r => .next ((n :: r).foldl (State.infoTurn second)
        (s.advTo ((r.map fun m => (s.port m).esmcTxAt).foldl min (s.port n).esmcTxAt))) := by
  subst hs
  rfl

theorem PortsOut.now {s t : State} (h : PortsOut s t) : t.time.now = s.time.now := by
  unfold PortsOut at h
  rw [h]

theorem State.esmcOn_isUp {s : State} {n : Nat} (h : s.esmcOn n = true) : s.isUp n = true := by
  simp only [State.esmcOn, Bool.and_eq_true] at h
  exact h.1.2

theorem State.isUp_port {s t : State} {n : Nat} (h : t.port n = s.port n) : t.isUp n = s.isUp n := by
  unfold State.isUp
  rw [h]

/-- R78: the ports of a list of sending ports take their turns. -/
theorem State.infoTurns_run (second : Nat) {l : List Nat} (nodup : l.Nodup) (s : State) (up : ∀ m ∈ l, s.isUp m = true) :
    EsmcRun (fun m => (s.port m).esmcTxAt ≤ s.time.now) false (fun _ => s.time.now + second) l s (l.foldl (State.infoTurn second) s) := by
  refine EsmcRun.foldl nodup fun m hm t rest same => ?_
  unfold State.infoTurn
  rw [same, rest.now]
  refine ⟨fun due => ?_, fun early => if_pos (Nat.lt_of_not_le early)⟩
  rw [if_neg (Nat.not_lt.mpr due)]
  exact State.esmcSend_info ((State.isUp_port same).trans (up m hm)) _

theorem State.mem_sending {s : State} {m : Nat} : m ∈ (List.range 8).filter s.esmcOn ↔ m < 8 ∧ s.esmcOn m = true := by
  simp

theorem esmcInfoSend_does (s : State) : Does .esmcInfoSend s fun t => ∃ l, t.outbox = l ++ s.outbox ∧
     (∀ n : Fin 8, (s.esmcOn n.val = true ∧ (s.port n.val).esmcTxAt ≤ t.time.now) ↔
       Out.esmc n.val (s.esmcCode n.val) false (bitAt (s.ac (Reg.PRT_ESMC_TX n.val)) 1) ∈ l) ∧
     (∀ n : Fin 8, s.esmcOn n.val = true → t.time.now ≤ max s.time.now (s.port n.val).esmcTxAt ∧
       if (s.port n.val).esmcTxAt ≤ t.time.now then
         (t.port n.val).esmcTxAt = t.time.now + sTicks ∧ ∃ f : BeFrame, (t.port n.val).be = (s.port n.val).be ++ [f] ∧
           f.kind = .core ∧ f.len = 64 ∧ f.bytes = esmcPdu (s.esmcCode n.val) false (bitAt (s.ac (Reg.PRT_ESMC_TX n.val)) 1)
       else t.port n.val = s.port n.val) ∧
     ((∃ n : Fin 8, s.esmcOn n.val = true) → ∃ n : Fin 8, s.esmcOn n.val = true ∧ (s.port n.val).esmcTxAt ≤ t.time.now) ∧
     ((∀ n : Fin 8, s.esmcOn n.val = false) → t = s) := by
  obtain ⟨second, hs⟩ : ∃ second, second = sTicks := ⟨_, rfl⟩
  have run := execEsmcInfoSend_eq s hs
  rw [← hs]
  have member (n : Fin 8) : s.esmcOn n.val = true ↔ n.val ∈ (List.range 8).filter s.esmcOn := by
    simp [n.isLt]
  cases sending : (List.range 8).filter s.esmcOn with
  | nil =>
    rw [sending] at run member
    have idle (n : Fin 8) : ¬ s.esmcOn n.val = true := fun on => nomatch (member n).mp on
    exact ⟨s, run, [], rfl, fun n => ⟨fun h => absurd h.1 (idle n), nofun⟩, fun n on => absurd on (idle n),
      fun ⟨n, on⟩ => absurd on (idle n), fun _ => rfl⟩
  | cons n r =>
    rw [sending] at run
    dsimp only at run
    have nodup : (n :: r).Nodup := sending ▸ List.nodup_range.filter _
    have on {m : Nat} (hm : m ∈ n :: r) : m < 8 ∧ s.esmcOn m = true := State.mem_sending.mp (sending ▸ hm)
    obtain ⟨⟨m, hm, first⟩, least⟩ := foldl_min_spec (fun m => (s.port m).esmcTxAt) n r
    generalize (r.map fun m => (s.port m).esmcTxAt).foldl min (s.port n).esmcTxAt = a at run first least
    have sends := State.infoTurns_run second nodup (s.advTo a) fun k hk =>
      (State.isUp_port (s.port_advTo a k)).trans (State.esmcOn_isUp (on hk).2)
    generalize (n :: r).foldl (State.infoTurn second) (s.advTo a) = t at run sends
    obtain ⟨rest, ⟨o, out, told⟩, sent, quiet⟩ := sends
    simp only [State.port_advTo, State.esmcCode_advTo, State.esmcTlv_advTo, State.advTo_outbox, ← rest.now] at out told sent quiet
    have now : t.time.now = max s.time.now a := rest.now.trans (s.advTo_now a)
    have listed (k : Fin 8) : s.esmcOn k.val = true ↔ k.val ∈ n :: r := sending ▸ member k
    refine ⟨t, run, o, out, fun k => ?_, fun k hk => ⟨?_, ?_⟩, fun _ => ?_, fun idle => ?_⟩
    · rw [told, listed]
      refine ⟨fun h => ⟨k.val, h.1, h.2, rfl⟩, fun ⟨i, hi, due, hx⟩ => ?_⟩
      obtain rfl : k.val = i := (Out.esmc.inj hx).1
      exact ⟨hi, due⟩
    · have := least k.val ((listed k).mp hk)
      omega
    · by_cases due : (s.port k.val).esmcTxAt ≤ t.time.now
      · obtain ⟨-, next, queued⟩ := sent k.val ((listed k).mp hk) due
        exact ite_intro_pos due ⟨next, queued⟩
      · exact ite_intro_neg due (quiet k.val fun h => due h.2)
    · obtain ⟨lt, hon⟩ := on hm
      exact ⟨⟨m, lt⟩, hon, by dsimp only; omega⟩
    · obtain ⟨lt, hon⟩ := on hm
      exact absurd hon (by simp [idle ⟨m, lt⟩])

/-- R78: the turn of port `m` for an event PDU. -/
def State.eventTurn (s : State) (m : Nat) : State :=
  if !s.esmcOn m || s.esmcCode m = (s.port m).esmcQlSent then s else s.esmcSend m true

/-- R78: port `m` sends a QL that differs from the one last sent. -/
def State.esmcNews (s : State) (m : Nat) : Prop := s.esmcOn m = true ∧ s.esmcCode m ≠ (s.port m).esmcQlSent

theorem PortsOut.esmcOn {s t : State} (h : PortsOut s t) {n : Nat} (same : t.port n = s.port n) : t.esmcOn n = s.esmcOn n := by
  unfold State.esmcOn
  rw [State.isUp_port same]
  unfold PortsOut at h
  rw [h]
  rfl

theorem State.eventTurns_run (s : State) : EsmcRun s.esmcNews true (fun m => (s.port m).esmcTxAt) (List.range 8) s
    ((List.range 8).foldl State.eventTurn s) := by
  refine EsmcRun.foldl List.nodup_range fun m hm t rest same => ?_
  unfold State.eventTurn State.esmcNews
  have idle : (!t.esmcOn m || t.esmcCode m = (t.port m).esmcQlSent) = true ↔
      ¬ (s.esmcOn m = true ∧ s.esmcCode m ≠ (s.port m).esmcQlSent) := by
    rw [rest.esmcOn same, rest.esmcCode, same]
    simp [imp_iff_not_or]
  rw [← same]
  refine ⟨fun news => ?_, fun stays => if_pos (idle.mpr (same ▸ stays))⟩
  rw [if_neg (mt idle.mp (not_not.mpr (same ▸ news)))]
  exact State.esmcSend_one ((State.isUp_port same).trans (State.esmcOn_isUp news.1)) true

theorem esmcEventSend_does (s : State) : Does .esmcEventSend s fun t => ∃ l, t.outbox = l ++ s.outbox ∧
     ∀ n : Fin 8, ((s.esmcOn n.val = true ∧ s.esmcCode n.val ≠ (s.port n.val).esmcQlSent) ↔
       Out.esmc n.val (s.esmcCode n.val) true (bitAt (s.ac (Reg.PRT_ESMC_TX n.val)) 1) ∈ l) ∧
       if s.esmcOn n.val = true ∧ s.esmcCode n.val ≠ (s.port n.val).esmcQlSent then
         (t.port n.val).esmcQlSent = s.esmcCode n.val ∧ ∃ f : BeFrame, (t.port n.val).be = (s.port n.val).be ++ [f] ∧
           f.kind = .core ∧ f.len = 64 ∧ f.bytes = esmcPdu (s.esmcCode n.val) true (bitAt (s.ac (Reg.PRT_ESMC_TX n.val)) 1)
       else t.port n.val = s.port n.val := by
  obtain ⟨-, ⟨o, out, told⟩, sent, quiet⟩ := s.eventTurns_run
  refine ⟨_, rfl, o, out, fun k => ⟨?_, ?_⟩⟩
  · rw [told]
    refine ⟨fun news => ⟨k.val, by simp [k.isLt], news, rfl⟩, fun ⟨i, _, news, hx⟩ => ?_⟩
    obtain rfl : k.val = i := (Out.esmc.inj hx).1
    exact news
  · by_cases news : s.esmcNews k.val
    · obtain ⟨ql, -, queued⟩ := sent k.val (by simp [k.isLt]) news
      exact ite_intro_pos news ⟨ql, queued⟩
    · exact ite_intro_neg news (quiet k.val fun h => news h.2)

/-- Settles O19: one lemma for what is received, one for the timeout, and one for each turn of sending, where the ports send one
after the other and each changes only its own queue. -/
theorem esmcMessages : Obligations.EsmcMessages :=
  ⟨esmcPduReceived_does, esmcTimeout_does, esmcInfoSend_does, esmcEventSend_does⟩

end Sys2Proof.Machine
end

section
/-!
PROOFS. What the reception of a frame counts, and what becomes of it by its class (R63, R64, R72, R74, R79).
-/

namespace Sys2Proof.Machine

/-! ### What reception counts -/

theorem satAdd_zero (v : Word) : satAdd v 0 = v := by
  refine BitVec.eq_of_toNat_eq ?_
  have := v.isLt
  simp only [satAdd, BitVec.toNat_ofNat]
  omega

theorem satAdd_satAdd (v : Word) (a b : Nat) : satAdd (satAdd v a) b = satAdd v (a + b) := by
  refine BitVec.eq_of_toNat_eq ?_
  have := v.isLt
  simp only [satAdd, BitVec.toNat_ofNat]
  omega

theorem evKey_fecCorr (n : Nat) : evKey (Reg.PRT_FEC_CORR n) = false := evKey_block (b := 0x0600218) (by decide) n

theorem evKey_fecUncorr (n : Nat) : evKey (Reg.PRT_FEC_UNCORR n) = false := evKey_block (b := 0x060021C) (by decide) n

theorem evKey_rxFrames (n : Nat) : evKey (Reg.PRT_RX_FRAMES n) = false := evKey_block (b := 0x0600200) (by decide) n

/-- From `s` to `t` only the registers, what follows events, and the codeword history of the ports change (R63, R74). -/
structure CountWork (s t : State) : Prop where
  rest : t = { s with live := t.live, evt := t.evt, ports := t.ports, outbox := t.outbox }
  port : ∀ m, t.port m = { s.port m with fecHist := (t.port m).fecHist }

section
variable {s t u : State} (n : Nat)

theorem CountWork.refl (s : State) : CountWork s s := ⟨rfl, fun _ => rfl⟩

theorem CountWork.trans (h : CountWork s t) (k : CountWork t u) : CountWork s u :=
  ⟨by rw [k.rest, h.rest], fun m => by rw [k.port, h.port]⟩

/-- An operation that leaves the ports. -/
theorem CountWork.of_shape (h : t = { s with live := t.live, evt := t.evt, outbox := t.outbox }) : CountWork s t :=
  ⟨by rw [h], fun m => by rw [h]; rfl⟩

theorem CountWork.raise (s : State) (e : Nat) : CountWork s (s.raise e) := .of_shape (by rw [State.raise_shape])

theorem CountWork.bump (s : State) (a k : Nat) : CountWork s (s.bump a k) := .of_shape rfl

theorem CountWork.flow (s : State) (a k : Nat) : CountWork s (s.flow a k) := .of_shape (by rw [State.flow_shape])

theorem CountWork.updHist (s : State) (n : Nat) (h : List Nat) : CountWork s (s.updPort n (fun p => { p with fecHist := h })) := by
  refine ⟨rfl, fun m => ?_⟩
  by_cases e : m = n
  · rw [e, State.port_updPort_same]
  · rw [State.port_updPort_ne _ _ e]

theorem CountWork.foldl {α : Type} {f : State → α → State} (step : ∀ t a, CountWork t (f t a)) (l : List α) (s : State) :
    CountWork s (l.foldl f s) := by
  induction l generalizing s with
  | nil => exact .refl s
  | cons a l ih => exact (step s a).trans (ih _)

/-- R74: an uncorrectable codeword is counted and dated. -/
def State.fecDated (s : State) (n : Nat) (h : List Nat) : State :=
  (s.bump (Reg.PRT_FEC_UNCORR n)).updPort n (fun p => { p with fecHist := h })

theorem State.fecLost_cases (s : State) (n t : Nat) :
    ∃ h, s.fecLost n t = s.fecDated n h ∨ s.fecLost n t = (s.fecDated n h).portEvt n 3 := by
  refine ⟨t :: (s.port n).fecHist.filter (fun x => decide (t < x + msTicks)), ?_⟩
  unfold State.fecLost
  dsimp only
  split
  · exact .inr rfl
  · exact .inl rfl

theorem State.fecLost_countWork (s : State) (n t : Nat) : CountWork s (s.fecLost n t) := by
  obtain ⟨h, eq⟩ := s.fecLost_cases n t
  have dated : CountWork s (s.fecDated n h) := (CountWork.bump s _ _).trans (.updHist _ n h)
  have told : CountWork (s.fecDated n h) ((s.fecDated n h).portEvt n 3) := (CountWork.of_shape rfl).trans (.raise _ _)
  rcases eq with eq | eq <;> rw [eq]
  · exact dated
  · exact dated.trans told

/-- The registers of port `n` that an uncorrectable codeword writes (R74, R91). -/
def fecRegs (n : Nat) : List Nat := [Reg.PRT_FEC_UNCORR n, Reg.PRT_EVT n]

theorem State.fecLost_regWork (s : State) (n t : Nat) : RegWork (· ∈ fecRegs n) s (s.fecLost n t) := by
  obtain ⟨h, eq⟩ := s.fecLost_cases n t
  have dated : RegWork (· ∈ fecRegs n) s (s.fecDated n h) :=
    ((RegWork.refl s).wr _ (by simp [fecRegs]) (evKey_fecUncorr n)).updPort ..
  rcases eq with eq | eq <;> rw [eq]
  · exact dated
  · exact dated.portEvt (by decide) (by simp [fecRegs])

theorem State.fecLost_uncorr (s : State) (n t : Nat) :
    (s.fecLost n t).rd (Reg.PRT_FEC_UNCORR n) = satAdd (s.rd (Reg.PRT_FEC_UNCORR n)) 1 := by
  obtain ⟨h, eq⟩ := s.fecLost_cases n t
  have dated : (s.fecDated n h).rd (Reg.PRT_FEC_UNCORR n) = satAdd (s.rd (Reg.PRT_FEC_UNCORR n)) 1 := by
    rw [State.fecDated, State.rd_updPort, State.bump_rd_same]
  rcases eq with eq | eq <;> rw [eq]
  · exact dated
  · rw [State.portEvt_rd _ n (by decide) (by simp [Reg.PRT_FEC_UNCORR, Reg.PRT_EVT]) (evKey_fecUncorr n), dated]

/-- R74: each uncorrectable codeword of a list is counted. -/
theorem State.fecLosts_uncorr (l : List Nat) (s : State) : (l.foldl (fun s a => s.fecLost n (s.time.now - a)) s).rd
    (Reg.PRT_FEC_UNCORR n) = satAdd (s.rd (Reg.PRT_FEC_UNCORR n)) l.length := by
  induction l generalizing s with
  | nil => exact (satAdd_zero _).symm
  | cons a l ih => rw [List.foldl_cons, ih, State.fecLost_uncorr, satAdd_satAdd, List.length_cons, Nat.add_comm]

variable (s) (corr : Nat) (uncorr : List Nat)

/-- R74: under RS-FEC the codewords are counted. -/
theorem State.fecCount_rs {s : State} {n : Nat} (rs : ¬ s.fec n < 2) : s.fecCount n corr uncorr =
    uncorr.foldl (fun s a => s.fecLost n (s.time.now - a)) (s.bump (Reg.PRT_FEC_CORR n) corr) := by
  unfold State.fecCount
  exact if_neg rs

/-- Without RS-FEC there are none. -/
theorem State.fecCount_plain {s : State} {n : Nat} (plain : s.fec n < 2) : s.fecCount n corr uncorr = s := by
  unfold State.fecCount
  exact if_pos plain

theorem State.fecCount_countWork : CountWork s (s.fecCount n corr uncorr) := by
  by_cases plain : s.fec n < 2
  · rw [State.fecCount_plain _ _ plain]
    exact .refl s
  · rw [State.fecCount_rs _ _ plain]
    exact (CountWork.bump s _ _).trans (.foldl (fun t _ => t.fecLost_countWork ..) _ _)

theorem State.fecLosts_regWork : RegWork (· ∈ fecRegs n) s (uncorr.foldl (fun s a => s.fecLost n (s.time.now - a)) s) :=
  .foldl (fun t _ => t.fecLost_regWork ..) _ _

theorem State.fecCount_corr : (s.fecCount n corr uncorr).rd (Reg.PRT_FEC_CORR n) =
    if s.fec n < 2 then s.rd (Reg.PRT_FEC_CORR n) else satAdd (s.rd (Reg.PRT_FEC_CORR n)) corr := by
  by_cases plain : s.fec n < 2
  · rw [State.fecCount_plain _ _ plain, if_pos plain]
  · rw [State.fecCount_rs _ _ plain, if_neg plain, (State.fecLosts_regWork ..).regs _ _ (evKey_fecCorr n), State.bump_rd_same]
    simp [fecRegs, Reg.PRT_FEC_CORR, Reg.PRT_FEC_UNCORR, Reg.PRT_EVT]

theorem State.fecCount_uncorr : (s.fecCount n corr uncorr).rd (Reg.PRT_FEC_UNCORR n) =
    if s.fec n < 2 then s.rd (Reg.PRT_FEC_UNCORR n) else satAdd (s.rd (Reg.PRT_FEC_UNCORR n)) uncorr.length := by
  by_cases plain : s.fec n < 2
  · rw [State.fecCount_plain _ _ plain, if_pos plain]
  · rw [State.fecCount_rs _ _ plain, if_neg plain, State.fecLosts_uncorr, State.bump_rd_ne]
    simp [Reg.PRT_FEC_CORR, Reg.PRT_FEC_UNCORR]

theorem State.fecCount_regWork : RegWork (· ∈ Reg.PRT_FEC_CORR n :: fecRegs n) s (s.fecCount n corr uncorr) := by
  by_cases plain : s.fec n < 2
  · rw [State.fecCount_plain _ _ plain]
    exact .refl s
  · rw [State.fecCount_rs _ _ plain]
    exact ((RegWork.refl s).wr _ (by simp) (evKey_fecCorr n)).trans
      ((State.fecLosts_regWork ..).mono fun _ => List.mem_cons_of_mem _)

/-- R63: a frame and its codewords are counted. -/
def State.intake (s : State) (n corr : Nat) (uncorr : List Nat) : State :=
  ((s.fecCount n corr uncorr).bump (Reg.PRT_RX_FRAMES n)).flow (8 + n)

theorem State.intake_countWork : CountWork s (s.intake n corr uncorr) :=
  ((State.fecCount_countWork ..).trans (.bump ..)).trans (.flow ..)

/-- The registers that the count of a received frame writes. -/
def intakeRegs (n : Nat) : List Nat := Reg.PRT_RX_FRAMES n :: Reg.PRT_FEC_CORR n :: fecRegs n

theorem State.intake_regWork : RegWork (· ∈ intakeRegs n) s (s.intake n corr uncorr) :=
  (((State.fecCount_regWork ..).mono fun _ => List.mem_cons_of_mem _).wr _ (by simp) (evKey_rxFrames n)).trans
    (.of_live (State.flow_live ..))

/-- R63, R74: what the count of a received frame leaves in the counters of its port. -/
theorem State.intake_counters :
    (s.intake n corr uncorr).rd (Reg.PRT_RX_FRAMES n) = satAdd (s.rd (Reg.PRT_RX_FRAMES n)) 1 ∧
    (s.intake n corr uncorr).rd (Reg.PRT_FEC_CORR n) =
      (if s.fec n < 2 then s.rd (Reg.PRT_FEC_CORR n) else satAdd (s.rd (Reg.PRT_FEC_CORR n)) corr) ∧
    (s.intake n corr uncorr).rd (Reg.PRT_FEC_UNCORR n) =
      (if s.fec n < 2 then s.rd (Reg.PRT_FEC_UNCORR n) else satAdd (s.rd (Reg.PRT_FEC_UNCORR n)) uncorr.length) := by
  unfold State.intake
  simp only [State.rd_flow]
  refine ⟨?_, ?_, ?_⟩
  · rw [State.bump_rd_same, (State.fecCount_regWork ..).regs _ _ (evKey_rxFrames n)]
    simp [fecRegs, Reg.PRT_RX_FRAMES, Reg.PRT_FEC_CORR, Reg.PRT_FEC_UNCORR, Reg.PRT_EVT]
  · rw [State.bump_rd_ne _ _ (by simp [Reg.PRT_RX_FRAMES, Reg.PRT_FEC_CORR]), State.fecCount_corr]
  · rw [State.bump_rd_ne _ _ (by simp [Reg.PRT_RX_FRAMES, Reg.PRT_FEC_UNCORR]), State.fecCount_uncorr]

end

/-! ### What the count leaves -/

section
variable {s u : State} (h : CountWork s u)
include h

theorem CountWork.stampOf (n : Nat) (f : Frame) : u.stampOf n f = s.stampOf n f := by
  unfold State.stampOf
  rw [h.port, h.rest]
  rfl

theorem CountWork.genAt (t : Nat) : u.genAt t = s.genAt t := by
  rw [h.rest]
  rfl

theorem CountWork.classify (n g : Nat) (f : Frame) : u.classify n g f = s.classify n g f := by
  rw [h.rest]
  rfl

theorem CountWork.ac (a : Nat) : u.ac a = s.ac a := by
  rw [h.rest]
  rfl

theorem CountWork.calState (n : Nat) : (u.port n).calState = (s.port n).calState := by rw [h.port]

end

/-! ### What becomes of a frame -/

/-- R72: a frame whose FCS is bad is counted. -/
def State.fcsCount (s : State) (n : Nat) (g : Frame) : State := if g.fcsGood then s else s.bump (Reg.PRT_DROP_FCS n)

/-- R63: a counted frame of port `n`, stamped `sIn`, reaches the clusters at the ingress latency after its stamp. -/
def State.arrive (u : State) (n : Nat) (g : Frame) (sIn : Nat) : State :=
  let lIn : Int := (nsG * ingressCclk (u.mode n) (u.fec n) : Nat) + u.ingressAdj n g.lane (u.captureG n g.capture g.ui).toNat * psG
  (u.smearLate sIn).advTo (u.cclkAtG ((sIn * 1000 : Nat) + lIn).toNat)

/-- R92: a request is numbered. -/
def State.numbered (v : State) : State := ({ v with cls := { v.cls with nextId := v.cls.nextId + 1 } } : State).flow 0

/-- R63, R98: a frame makes a request, which takes its place. -/
def State.takeIn (u : State) (n : Nat) (g : Frame) (p : Path) (sIn : Nat) : State :=
  (u.arrive n g sIn).numbered.place ((u.arrive n g sIn).makeReq n g p sIn)

/-- R64: what becomes of a counted frame `g` of port `n`, stamped `sIn`, by its class. -/
def State.deal (u : State) (n : Nat) (g : Frame) (sIn : Nat) : Class → State
  | .pause => u.bump (Reg.PRT_DROP_PAUSE n)
  | .fragment => u.bump (Reg.PRT_DROP_FRAG n)
  | .manyTags => (u.toHost n g 3 sIn (u.genAt sIn)).fcsCount n g
  | .unknown => (u.toHost n g 1 sIn (u.genAt sIn)).fcsCount n g
  | .firmware =>
    if !g.fcsGood then u.fcsCount n g
    else if firmwareDrops g then (u.toFirmware n g sIn).bump Reg.SRV_PTP_DROP_OTHER else u.toFirmware n g sIn
  | .request p =>
    if (u.port n).calState = 2 ∧ !bitAt (u.ac (Reg.PRT_CTRL n)) 0 then (u.toHost n g 2 sIn (u.genAt sIn)).fcsCount n g
    else u.takeIn n g p sIn

/-- R74: the frame as its codewords leave it. -/
def decodedFrame (f : Frame) (fec : Nat) (uncorr : List Nat) : Frame :=
  if 2 ≤ fec ∧ 0 ∈ uncorr then { f with fcsGood := false } else f

theorem decodedFrame_shape (f : Frame) (fec : Nat) (uncorr : List Nat) :
    decodedFrame f fec uncorr = { f with fcsGood := (decodedFrame f fec uncorr).fcsGood } := by
  unfold decodedFrame
  split <;> rfl

section
variable (n : Fin 8) (f : Frame) (corr : Nat) (uncorr : List Nat) {s : State}

theorem execFrameIngress_down (down : s.isUp n.val = false) : exec (.frameIngress n f corr uncorr) s = .next s :=
  if_pos (by simp [down])

/-- R63, R64: a frame of an UP port is counted and then dealt with by its class. -/
theorem execFrameIngress_up {g : Frame} {sIn : Nat} {u : State} (up : s.isUp n.val = true) (hg : g = decodedFrame f (s.fec n.val) uncorr)
    (hs : sIn = s.stampOf n.val g) (hu : u = s.intake n.val corr uncorr) :
    exec (.frameIngress n f corr uncorr) s = .next (u.deal n.val g sIn (s.classify n.val (s.genAt sIn) g)) := by
  have work : CountWork s u := hu ▸ s.intake_countWork ..
  have judged : g = if 2 ≤ s.fec n.val && uncorr.contains 0 then { f with fcsGood := false } else f := by
    rw [hg, decodedFrame]
    simp
  rw [← work.stampOf] at hs
  rw [← work.classify, ← work.genAt]
  have run : exec (.frameIngress n f corr uncorr) s = if !s.isUp n.val then .next s
      else .next (u.deal n.val g sIn (u.classify n.val (u.genAt sIn) g)) := by
    refine if_congr Iff.rfl rfl ?_
    dsimp only
    rw [← judged, ← State.intake, ← hu, ← hs]
    cases u.classify n.val (u.genAt sIn) g with
    | pause | fragment | manyTags | unknown => rfl
    | firmware => exact (apply_ite ..).symm
    | request p => exact (apply_ite ..).symm
  rw [run, if_neg (by simp [up])]

end

/-! ### What becomes of a frame writes no count of the reception -/

/-- The counters of port `n` for frames that are not served, and what a frame for the host writes (R72, R79, R80). -/
def unservedRegs (n : Nat) : List Nat := [Reg.PRT_EVT n, Reg.PRT_HRX_CONS n, Reg.PRT_DROP_FCS n, Reg.PRT_DROP_FRAG n,
  Reg.PRT_DROP_PAUSE n, Reg.PRT_SLOW_DROP n, Reg.PRT_HOST_RX_DROP n]

/-- The registers that what becomes of a frame of port `n` may write: those of the port's unserved frames, and those of the
clusters and of the service. -/
def DealReg (n a : Nat) : Prop := a ∈ unservedRegs n ∨ 0x0900000 ≤ a

section
variable {P : Nat → Prop} {s t : State} {n : Nat}

/-- A counter that each of many units has at the same place. -/
theorem RegWork.bumpBlock (h : RegWork P s t) {b : Nat} (hb : 0x20020 ≤ b ∧ (b % 0x10000 < 0x60 ∨ 0x80 ≤ b % 0x10000))
    (m : P (b + 0x10000 * n)) (k : Nat) : RegWork P s (t.bump (b + 0x10000 * n) k) := h.wr _ m (evKey_block hb n)

theorem RegWork.ringStep (h : RegWork P s t) {cons : Nat} (m : P cons) (key : evKey cons = false) (size : Nat) :
    RegWork P s (t.ringStep cons size) := h.wr _ m key

theorem RegWork.emit (h : RegWork P s t) (o : Out) : RegWork P s (t.emit o) := h.trans (.of_live rfl)

theorem State.hostRx_regWork (s : State) (n : Nat) (f : Frame) (cls sIn gen : Nat) : RegWork (DealReg n) s (s.hostRx n f cls sIn gen) := by
  have evt : DealReg n (Reg.PRT_EVT n) := .inl (by simp [unservedRegs])
  have drop : RegWork (DealReg n) s ((s.bump (Reg.PRT_HOST_RX_DROP n)).portEvt n 12) :=
    ((RegWork.refl s).bumpBlock (b := 0x060022C) (by decide) (.inl (by simp [unservedRegs, Reg.PRT_HOST_RX_DROP])) 1).portEvt
      (by decide) evt
  have cons : DealReg n (Reg.PRT_HRX_CONS n) := .inl (by simp [unservedRegs])
  have key : evKey (Reg.PRT_HRX_CONS n) = false := evKey_block (b := 0x0600130) (by decide) n
  unfold State.hostRx
  dsimp only
  split
  · exact drop
  · exact .ite drop (((((RegWork.refl s).updPort ..).emit _).ringStep cons key _).portEvt (by decide) evt)

theorem State.toHost_regWork (s : State) (n : Nat) (f : Frame) (cls sIn gen : Nat) : RegWork (DealReg n) s (s.toHost n f cls sIn gen) := by
  have counted : RegWork (DealReg n) s (s.bump (Reg.PRT_SLOW_DROP n)) :=
    (RegWork.refl s).bumpBlock (b := 0x0600228) (by decide) (.inl (by simp [unservedRegs, Reg.PRT_SLOW_DROP])) 1
  have limited := counted.portEvtLim (n := n) (k := 13) (by decide) (.inl (by simp [unservedRegs])) sTicks
  exact .ite (.ite limited (((RegWork.refl s).updPort ..).trans (State.hostRx_regWork ..))) counted

theorem RegWork.fcsCount (h : RegWork (DealReg n) s t) (g : Frame) : RegWork (DealReg n) s (t.fcsCount n g) :=
  .ite h (h.bumpBlock (b := 0x0600208) (by decide) (.inl (by simp [unservedRegs, Reg.PRT_DROP_FCS])) 1)

/-- R64: what becomes of a frame writes only the registers of `DealReg`, when what a request does has that property. -/
theorem State.deal_regWork (u : State) (n : Nat) (g : Frame) (sIn : Nat) (c : Class)
    (served : ∀ p, RegWork (DealReg n) u (u.takeIn n g p sIn)) : RegWork (DealReg n) u (u.deal n g sIn c) := by
  have host (code : Nat) := (u.toHost_regWork n g code sIn (u.genAt sIn)).fcsCount g
  cases c with
  | pause => exact (RegWork.refl u).bumpBlock (b := 0x0600214) (by decide) (.inl (by simp [unservedRegs, Reg.PRT_DROP_PAUSE])) 1
  | fragment => exact (RegWork.refl u).bumpBlock (b := 0x060020C) (by decide) (.inl (by simp [unservedRegs, Reg.PRT_DROP_FRAG])) 1
  | manyTags => exact host 3
  | unknown => exact host 1
  | firmware =>
    have told : RegWork (DealReg n) u (u.toFirmware n g sIn) := .of_live rfl
    exact .ite ((RegWork.refl u).fcsCount g) (.ite (told.wr _ (.inr (by decide)) (by decide)) told)
  | request p => exact .ite (host 2) (served p)

end

/-! ### The commands of the classes that are not served -/

theorem frameIngress_down (n : Fin 8) (f : Frame) (corr : Nat) (uncorr : List Nat) (s : State) (down : s.isUp n.val = false) :
    Does (.frameIngress n f corr uncorr) s fun t => t = s := ⟨s, execFrameIngress_down n f corr uncorr down, rfl⟩

/-- R64, R72, R79: a frame that is no request, or a request that its port does not serve. -/
theorem frameIngress_unserved (n : Fin 8) (f : Frame) (corr : Nat) (uncorr : List Nat) (s : State) (g : Frame) (sIn : Nat) (u : State)
    (up : s.isUp n.val = true) (hg : g = (if 2 ≤ s.fec n.val ∧ 0 ∈ uncorr then { f with fcsGood := false } else f))
    (hs : sIn = s.stampOf n.val g) (hu : u = ((s.fecCount n.val corr uncorr).bump (Reg.PRT_RX_FRAMES n.val)).flow (8 + n.val)) :
     Does (.frameIngress n f corr uncorr) s fun t =>
       let host (code : Nat) : State := if g.fcsGood = true then u.toHost n.val g code sIn (s.genAt sIn)
         else (u.toHost n.val g code sIn (s.genAt sIn)).bump (Reg.PRT_DROP_FCS n.val)
       match s.classify n.val (s.genAt sIn) g with
       | .pause => t = u.bump (Reg.PRT_DROP_PAUSE n.val)
       | .fragment => t = u.bump (Reg.PRT_DROP_FRAG n.val)
       | .manyTags => t = host 3
       | .unknown => t = host 1
       | .firmware => t = if g.fcsGood = false then u.bump (Reg.PRT_DROP_FCS n.val)
           else if firmwareDrops g = true then (u.toFirmware n.val g sIn).bump Reg.SRV_PTP_DROP_OTHER else u.toFirmware n.val g sIn
       | .request _ => (s.port n.val).calState = 2 ∧ bitAt (s.ac (Reg.PRT_CTRL n.val)) 0 = false → t = host 2 := by
  have work : CountWork s u := hu ▸ s.intake_countWork ..
  refine ⟨_, execFrameIngress_up n f corr uncorr up hg hs hu, ?_⟩
  rw [← work.genAt]
  cases s.classify n.val (u.genAt sIn) g with
  | pause | fragment | manyTags | unknown => rfl
  | firmware =>
    cases good : g.fcsGood with
    | true => exact if_neg (by simp [good])
    | false => exact (if_pos (by simp [good])).trans (if_neg (by simp [good]))
  | request p =>
    intro _ ⟨failed, refuses⟩
    exact if_pos ⟨work.calState _ ▸ failed, by simp [work.ac, refuses]⟩

end Sys2Proof.Machine
end

section
/-!
PROOFS. How a request takes its place in the queue of a cluster, and the statement about the reception of frames (R94, R98, R99,
R121, R130).
-/

namespace Sys2Proof.Machine

/-! ### The queue of a cluster -/

/-- A change of clusters that leaves a field of each. -/
theorem State.field_updClu {α : Type} (g : ClusterSt → α) {f : ClusterSt → ClusterSt} (h : ∀ cl, g (f cl) = g cl) (s : State)
    (i j : Nat) : g ((s.updClu i f).clu j) = g (s.clu j) := by
  by_cases e : j = i
  · rw [e, State.clu_updClu_same, h]
  · rw [State.clu_updClu_ne _ _ e]

/-- From `s` to `t` no entry joins or leaves a queue, nor a steal transfer. -/
structure QueueKept (s t : State) : Prop where
  queue : ∀ j, (t.clu j).queue = (s.clu j).queue
  inbound : ∀ j, (t.clu j).inbound = (s.clu j).inbound

section
variable {s t u : State} (k : Nat)

theorem QueueKept.refl (s : State) : QueueKept s s := ⟨fun _ => rfl, fun _ => rfl⟩

theorem QueueKept.trans (h : QueueKept s t) (i : QueueKept t u) : QueueKept s u :=
  ⟨fun j => (i.queue j).trans (h.queue j), fun j => (i.inbound j).trans (h.inbound j)⟩

theorem QueueKept.of_clus (h : t.clus = s.clus) : QueueKept s t :=
  ⟨fun j => by rw [State.clu_congr h], fun j => by rw [State.clu_congr h]⟩

theorem QueueKept.ite {c : Prop} [Decidable c] (h : QueueKept s t) (i : QueueKept s u) : QueueKept s (if c then t else u) := by
  split <;> assumption

theorem QueueKept.updClu (s : State) (k : Nat) {f : ClusterSt → ClusterSt} (hq : ∀ cl, (f cl).queue = cl.queue)
    (hi : ∀ cl, (f cl).inbound = cl.inbound) : QueueKept s (s.updClu k f) :=
  ⟨s.field_updClu (·.queue) hq k, s.field_updClu (·.inbound) hi k⟩

/-- R119: the dwell count leaves the queues. -/
theorem State.dwell_kept (s : State) : QueueKept s (s.dwell k) :=
  .ite (.ite (.updClu _ _ (fun _ => rfl) fun _ => rfl) (.refl s)) (.ite (.updClu _ _ (fun _ => rfl) fun _ => rfl) (.refl s))

/-- R114: what a cluster asks of its neighbours leaves the queues. -/
theorem State.lowWater_kept (s : State) : QueueKept s (s.lowWater k) :=
  .ite (.ite (.refl s) (.updClu _ _ (fun _ => rfl) fun _ => rfl)) (.updClu _ _ (fun _ => rfl) fun _ => rfl)

theorem State.watch_kept (s : State) : QueueKept s (s.watch k) := (s.dwell_kept k).trans (State.lowWater_kept k _)

/-- R116: a credit given back leaves the queues. -/
theorem State.freeCredit_kept (s : State) (r : Req) : QueueKept s (s.freeCredit r) := by
  unfold State.freeCredit
  split
  · exact .updClu _ _ (fun _ => rfl) fun _ => rfl
  · exact .refl s

theorem State.freeSlots_kept (s : State) (r : Req) : QueueKept s (s.freeSlots k r) :=
  (QueueKept.updClu (f := (·.release r.places)) s k (fun _ => rfl) fun _ => rfl).trans (State.freeCredit_kept _ r)

/-- R98: a drop leaves the queues. -/
theorem State.dropFull_kept (s : State) : QueueKept s (s.dropFull k) :=
  .ite (.of_clus (by simp)) (.of_clus (by simp))

/-- R98: the register of the cause for which cluster `k` cannot enqueue. -/
def ClusterSt.fullReg (cl : ClusterSt) (k : Nat) : Nat :=
  if 256 ≤ cl.queue.length then Reg.CEL_DROP_QFULL k else Reg.CEL_DROP_FSTORE k

/-- R98: a drop is counted by its cause. -/
theorem State.dropFull_counts (s : State) : (s.dropFull k).rd ((s.clu k).fullReg k) = satAdd (s.rd ((s.clu k).fullReg k)) 1 := by
  have counts {a e : Nat} (key : evKey a = false) (he : e < 256) :
      ((s.bump a).raiseLim e k msTicks).rd a = satAdd (s.rd a) 1 := by
    rw [(State.raiseLim_evOnly _ e k msTicks he).regs a key, State.bump_rd_same]
  unfold State.dropFull ClusterSt.fullReg
  split
  · exact counts (evKey_block (b := 0x0900024) (by decide) k) (by decide)
  · exact counts (evKey_block (b := 0x0900028) (by decide) k) (by decide)

end

/-- `t` is `s` with entry `r` at the tail of the queue of cluster `k`, and no other change of a queue. -/
structure Joined (k : Nat) (r : Req) (s t : State) : Prop where
  tail : ∃ pl, (t.clu k).queue = (s.clu k).queue ++ [{ r with places := pl }]
  others : ∀ j, j ≠ k → (t.clu j).queue = (s.clu j).queue

/-- R98: a request that a cluster takes joins the tail of its queue. -/
theorem State.enqueue_joined (s : State) (k : Nat) (r : Req) (stolen : Bool) : Joined k r s (s.enqueue k r stolen) := by
  unfold State.enqueue
  dsimp only
  refine ⟨⟨(s.clu k).places r.slots, ?_⟩, fun j ne => ?_⟩ <;> rw [(State.watch_kept ..).queue, State.clu_keepMax]
  · rw [State.clu_updClu_same]
  · rw [State.clu_updClu_ne _ _ ne]

/-! ### The place of a request -/

/-- `v` is `s` but for what a request's way to its cluster changes: counters of the device, what waits to be sent, the number of
requests and the homes of a cluster. -/
structure Placing (s v : State) : Prop where
  clu : ∀ k, v.clu k = { s.clu k with homed := (v.clu k).homed }
  active : v.active = s.active
  cls : v.cls = { s.cls with nextId := v.cls.nextId }
  regs : RegWork (· < 0x0900000) s v

/-- R94, R121, R130: the cluster that takes a request, if one does. -/
def State.destOf (s : State) (r : Req) : Option Nat :=
  if s.spraying r.port = true then s.sprayTarget (tget (fun _ => 0) s.cls.pointer r.port) r.slots
  else if (s.clu r.home).retired = false ∧ (s.clu r.home).canTake r.slots = true then some r.home else none

/-- R121: the cluster that refuses a request that none takes. -/
def State.refuser (s : State) (r : Req) : Nat :=
  if s.spraying r.port = true then s.sprayPoint (tget (fun _ => 0) s.cls.pointer r.port) else r.home

/-- R98, R130: the counter of the cause for which none takes a request. -/
def State.refusedReg (s : State) (r : Req) : Nat :=
  if s.spraying r.port = false ∧ (s.clu (s.refuser r)).retired = true then Reg.CEL_DROP_RETIRE (s.refuser r)
  else (s.clu (s.refuser r)).fullReg (s.refuser r)

/-- R98, R121, R130: `t` is `s` after request `r` has taken its place in a queue, or was dropped and counted. -/
structure Placed (r : Req) (s t : State) : Prop where
  taken : ∀ k, s.destOf r = some k → Joined k { r with sprayed := s.spraying r.port } s t
  dropped : s.destOf r = none → (∀ j, (t.clu j).queue = (s.clu j).queue) ∧ t.rd (s.refusedReg r) = satAdd (s.rd (s.refusedReg r)) 1

section
variable {s v : State} (h : Placing s v) {r : Req}
include h

theorem Placing.queue (k : Nat) : (v.clu k).queue = (s.clu k).queue := by rw [h.clu]

theorem Placing.retired (k : Nat) : (v.clu k).retired = (s.clu k).retired := by rw [h.clu]

theorem Placing.canTake (k n : Nat) : (v.clu k).canTake n = (s.clu k).canTake n := by
  rw [h.clu]
  rfl

theorem Placing.fullReg (k : Nat) : (v.clu k).fullReg k = (s.clu k).fullReg k := by
  unfold ClusterSt.fullReg
  rw [h.queue]

theorem Placing.spraying (n : Nat) : v.spraying n = s.spraying n := by
  unfold State.spraying State.ac
  rw [h.active, h.cls]

theorem Placing.sprayTarget (p n : Nat) : v.sprayTarget p n = s.sprayTarget p n := by
  unfold State.sprayTarget
  simp only [h.retired, h.canTake]

theorem Placing.sprayPoint (p : Nat) : v.sprayPoint p = s.sprayPoint p := by
  unfold State.sprayPoint
  simp only [h.retired]

theorem Placing.pointer : v.cls.pointer = s.cls.pointer := by rw [h.cls]

theorem Placing.joined {t : State} {k : Nat} (j : Joined k r v t) : Joined k r s t :=
  ⟨by simpa only [h.queue] using j.tail, fun i ne => (j.others i ne).trans (h.queue i)⟩

end

/-- R122: while a port sprays, a cluster counts the requests of which it is the home. -/
def State.homing (s : State) (k : Nat) : State :=
  if (List.range 8).any s.spraying then s.updClu k (fun cl => { cl with homed := cl.homed + 1 }) else s

/-- R98, R121, R130: a request takes its place or is dropped. -/
def State.seat (w : State) (r : Req) : State :=
  if w.spraying r.port then
    match w.sprayTarget (tget (fun _ => 0) w.cls.pointer r.port) r.slots with
    | some k => ((w.sprayNext r.port k).bump (Reg.CEL_SPRAY_IN k)).enqueue k { r with sprayed := true } false
    | none => (w.sprayNext r.port (w.refuser r)).dropFull (w.refuser r)
  else if (w.clu r.home).retired then w.bump (Reg.CEL_DROP_RETIRE r.home)
  else if (w.clu r.home).canTake r.slots then w.enqueue r.home r false
  else w.dropFull r.home

theorem State.place_eq (v : State) (r : Req) : v.place r = (v.homing r.home).seat r := by
  unfold State.place State.seat
  refine if_ctx_congr Iff.rfl (fun sprays => ?_) fun _ => rfl
  rw [State.refuser, if_pos sprays]
  rfl

theorem Placing.homing {s v : State} (h : Placing s v) (k : Nat) : Placing s (v.homing k) := by
  unfold State.homing
  split
  · refine ⟨fun j => ?_, h.active, h.cls, h.regs.trans (.of_live rfl)⟩
    by_cases e : j = k
    · rw [e, State.clu_updClu_same, h.clu]
    · rw [State.clu_updClu_ne _ _ e, h.clu]
  · exact h

/-- R121: where a port sprays, the cluster that takes the request is at the pointer or after it. -/
theorem State.destOf_sprayed {s : State} {r : Req} (sprays : s.spraying r.port = true) :
    s.destOf r = s.sprayTarget (tget (fun _ => 0) s.cls.pointer r.port) r.slots := if_pos sprays

theorem State.refuser_home {s : State} {r : Req} (plain : ¬ s.spraying r.port = true) : s.refuser r = r.home := if_neg plain

theorem State.refusedReg_full {s : State} {r : Req} (h : ¬ (s.spraying r.port = false ∧ (s.clu (s.refuser r)).retired = true)) :
    s.refusedReg r = (s.clu (s.refuser r)).fullReg (s.refuser r) := if_neg h

/-- The counters of drops are those of clusters. -/
theorem State.refusedReg_cluster (s : State) (r : Req) : 0x0900000 ≤ s.refusedReg r ∧ evKey (s.refusedReg r) = false := by
  unfold State.refusedReg ClusterSt.fullReg
  split
  · exact ⟨Nat.le_add_right_of_le (by decide), evKey_block (b := 0x0900048) (by decide) _⟩
  · split
    · exact ⟨Nat.le_add_right_of_le (by decide), evKey_block (b := 0x0900024) (by decide) _⟩
    · exact ⟨Nat.le_add_right_of_le (by decide), evKey_block (b := 0x0900028) (by decide) _⟩

section
variable {s v : State} (h : Placing s v) {r : Req}
include h

theorem Placing.refused_rd : v.rd (s.refusedReg r) = s.rd (s.refusedReg r) := by
  obtain ⟨low, key⟩ := s.refusedReg_cluster r
  exact h.regs.regs _ (Nat.not_lt.mpr low) key

/-- A request that is refused. -/
theorem Placing.refuse {t : State} (kept : QueueKept v t) (counted : t.rd (s.refusedReg r) = satAdd (v.rd (s.refusedReg r)) 1) :
    (∀ j, (t.clu j).queue = (s.clu j).queue) ∧ t.rd (s.refusedReg r) = satAdd (s.rd (s.refusedReg r)) 1 :=
  ⟨fun j => (kept.queue j).trans (h.queue j), by rw [counted, h.refused_rd]⟩

/-- R121: a request of a sprayed port. -/
theorem Placing.seat_sprayed (sprays : s.spraying r.port = true) : Placed r s (v.seat r) := by
  have seat : v.seat r = match s.destOf r with
      | some k => ((v.sprayNext r.port k).bump (Reg.CEL_SPRAY_IN k)).enqueue k { r with sprayed := true } false
      | none => (v.sprayNext r.port (v.refuser r)).dropFull (v.refuser r) := by
    unfold State.seat
    rw [if_pos (h.spraying _ ▸ sprays), h.sprayTarget, h.pointer, State.destOf_sprayed sprays]
  have refuser : v.refuser r = s.refuser r := by
    unfold State.refuser
    rw [h.spraying, h.pointer, h.sprayPoint]
  have full := State.refusedReg_full (s := s) (r := r) (by simp [sprays])
  rw [seat]
  cases dest : s.destOf r with
  | some k =>
    refine ⟨fun j hj => ?_, fun none_ => absurd (dest.symm.trans none_) (by simp)⟩
    obtain rfl : k = j := Option.some.inj (dest.symm.trans hj)
    obtain ⟨tail, others⟩ := ((v.sprayNext r.port k).bump (Reg.CEL_SPRAY_IN k)).enqueue_joined k { r with sprayed := true } false
    rw [sprays]
    exact h.joined ⟨tail, others⟩
  | none =>
    have moved : QueueKept v (v.sprayNext r.port (s.refuser r)) := .of_clus rfl
    rw [refuser]
    refine ⟨fun j hj => absurd (dest.symm.trans hj) (by simp), fun _ => h.refuse (moved.trans (State.dropFull_kept ..)) ?_⟩
    rw [full, ← h.fullReg]
    exact (v.sprayNext r.port (s.refuser r)).dropFull_counts (s.refuser r)

/-- R94, R98, R130: a request of another port. -/
theorem Placing.seat_home (plain : s.spraying r.port = false) (unmarked : r.sprayed = false) : Placed r s (v.seat r) := by
  have seat : v.seat r = if (s.clu r.home).retired then v.bump (Reg.CEL_DROP_RETIRE r.home)
      else if (s.clu r.home).canTake r.slots then v.enqueue r.home r false else v.dropFull r.home := by
    unfold State.seat
    rw [if_neg (by simp [h.spraying, plain]), h.retired, h.canTake]
  have home := State.refuser_home (r := r) (s := s) (by simp [plain])
  have dest : s.destOf r = if (s.clu r.home).retired = false ∧ (s.clu r.home).canTake r.slots = true then some r.home else none :=
    if_neg (by simp [plain])
  rw [seat]
  by_cases gone : (s.clu r.home).retired = true
  · have reg : s.refusedReg r = Reg.CEL_DROP_RETIRE r.home := by
      unfold State.refusedReg
      rw [home, if_pos ⟨plain, gone⟩]
    rw [if_pos gone]
    rw [if_neg (by simp [gone])] at dest
    refine ⟨fun j hj => absurd (dest.symm.trans hj) (by simp), fun _ => h.refuse (.of_clus rfl) ?_⟩
    rw [reg, State.bump_rd_same]
  rw [if_neg gone]
  by_cases room : (s.clu r.home).canTake r.slots = true
  · rw [if_pos room]
    rw [if_pos ⟨by simpa using gone, room⟩] at dest
    refine ⟨fun j hj => ?_, fun none_ => absurd (dest.symm.trans none_) (by simp)⟩
    obtain rfl : r.home = j := Option.some.inj (dest.symm.trans hj)
    have marked : { r with sprayed := s.spraying r.port } = r := by
      rw [plain, ← unmarked]
    rw [marked]
    exact h.joined (v.enqueue_joined r.home r false)
  · rw [if_neg room]
    rw [if_neg (fun c => room c.2)] at dest
    refine ⟨fun j hj => absurd (dest.symm.trans hj) (by simp), fun _ => h.refuse (State.dropFull_kept ..) ?_⟩
    rw [State.refusedReg_full (by rw [home]; exact fun c => gone c.2), home, ← h.fullReg]
    exact v.dropFull_counts r.home

end

/-! ### What the place of a request leaves -/

/-- The registers of the clusters and of the service. -/
def CellReg (a : Nat) : Prop := 0x0900000 ≤ a

theorem RegWork.keepMaxDepth {s t : State} (h : RegWork CellReg s t) (k n : Nat) :
    RegWork CellReg s (t.keepMax (Reg.CEL_DEPTH_MAX k) n) :=
  .ite (h.wr _ (Nat.le_add_right_of_le (by decide)) (evKey_block (b := 0x0900004) (by decide) k)) h

section
variable (s : State) (k : Nat)

theorem State.watch_live : (s.watch k).live = s.live := (State.watch_touch (w := 65536) rfl s k (.refl ..)).same .live rfl

theorem State.enqueue_regWork (r : Req) (stolen : Bool) : RegWork CellReg s (s.enqueue k r stolen) := by
  have joins (f : ClusterSt → ClusterSt) : RegWork CellReg s (s.updClu k f) := .of_live rfl
  exact ((joins _).keepMaxDepth k _).trans (.of_live (State.watch_live ..))

theorem State.dropFull_regWork : RegWork CellReg s (s.dropFull k) :=
  .ite (((RegWork.refl s).bumpBlock (b := 0x0900024) (by decide) (Nat.le_add_right_of_le (by decide)) 1).raiseLim (by decide) ..)
    (((RegWork.refl s).bumpBlock (b := 0x0900028) (by decide) (Nat.le_add_right_of_le (by decide)) 1).raiseLim (by decide) ..)

/-- R98: the place of a request writes registers of its cluster alone. -/
theorem State.seat_regWork (r : Req) : RegWork CellReg s (s.seat r) := by
  have next (k : Nat) : RegWork CellReg s (s.sprayNext r.port k) := .of_live rfl
  unfold State.seat
  refine .ite ?_ (.ite ?_ (.ite (s.enqueue_regWork ..) (s.dropFull_regWork ..)))
  · split
    · exact ((next _).bumpBlock (b := 0x090004C) (by decide) (Nat.le_add_right_of_le (by decide)) 1).trans (State.enqueue_regWork ..)
    · exact (next _).trans (State.dropFull_regWork ..)
  · exact (RegWork.refl s).bumpBlock (b := 0x0900048) (by decide) (Nat.le_add_right_of_le (by decide)) 1

theorem State.place_regWork (r : Req) : RegWork CellReg s (s.place r) := by
  have homed : RegWork CellReg s (s.homing r.home) := .ite (.of_live rfl) (.refl s)
  rw [State.place_eq]
  exact homed.trans (State.seat_regWork ..)

theorem State.enqueue_cls (r : Req) (stolen : Bool) : (s.enqueue k r stolen).cls = s.cls :=
  (State.enqueue_touch (w := 65537) rfl s k r stolen (.refl ..)).same .cls rfl

theorem State.dropFull_cls : (s.dropFull k).cls = s.cls :=
  (State.dropFull_touch (w := 536871425) rfl s k (.refl ..)).same .cls rfl

/-- The place of a request leaves the number of the next. -/
theorem State.seat_nextId (r : Req) : (s.seat r).cls.nextId = s.cls.nextId := by
  unfold State.seat
  split
  · split
    · rw [State.enqueue_cls]
      rfl
    · rw [State.dropFull_cls]
      rfl
  · split
    · rfl
    · split
      · rw [State.enqueue_cls]
      · rw [State.dropFull_cls]

end

/-! ### The way of a request to its cluster -/

section
variable {P : Nat → Prop} (s : State) (t : Nat)

theorem State.smearLate_regWork : RegWork P s (s.smearLate t) := by
  unfold State.smearLate
  split
  · exact .refl s
  · next p _ =>
    have noted : RegWork P s { s with srv := { s.srv with skipped := some p.at_ } } := .of_live rfl
    have starts (w : State) (same : w.live = s.live) : RegWork P s (w.pushView t) :=
      .of_live (((State.pushView_touch (w := 262144) rfl w t (.refl ..)).same .live rfl).trans same)
    exact .ite (.refl s) (.ite (.refl s) (.ite (noted.raise (by decide)) (starts _ rfl)))

/-- R170, R171: the smear of a leap leaves the clusters, their classifier and the configuration. -/
theorem State.smearLate_parts : (s.smearLate t).clus = s.clus ∧ (s.smearLate t).cls = s.cls ∧ (s.smearLate t).active = s.active ∧
    (s.smearLate t).cfg = s.cfg := by
  have work : Touch 537133569 s (s.smearLate t) := State.smearLate_touch rfl s t (.refl ..)
  exact ⟨work.same .clus rfl, work.same .cls rfl, work.same .active rfl, work.same .cfg rfl⟩

end

section
variable (u : State) (n : Nat) (g : Frame) (sIn : Nat)

theorem State.arrive_parts : (u.arrive n g sIn).clus = u.clus ∧ (u.arrive n g sIn).cls = u.cls ∧ (u.arrive n g sIn).active = u.active ∧
    (u.arrive n g sIn).cfg = u.cfg := by
  unfold State.arrive
  dsimp only
  rw [State.advTo_clus, State.advTo_cls, State.advTo_active, State.advTo_cfg]
  exact u.smearLate_parts sIn

theorem State.arrive_regWork {P : Nat → Prop} : RegWork P u (u.arrive n g sIn) :=
  (u.smearLate_regWork sIn).trans (.of_live (State.advTo_live ..))

theorem State.takeIn_regWork (p : Path) : RegWork CellReg u (u.takeIn n g p sIn) := by
  have numbered (v : State) : RegWork CellReg v v.numbered := .of_live (State.flow_live ..)
  rw [State.takeIn]
  exact ((u.arrive_regWork n g sIn).trans (numbered _)).trans (State.place_regWork ..)

end

/-! ### The commands -/

/-- The counters of received frames and codewords of port `n` (R72, R74). -/
def countRegs (n : Nat) : List Nat := [Reg.PRT_RX_FRAMES n, Reg.PRT_FEC_CORR n, Reg.PRT_FEC_UNCORR n]

theorem countRegs_apart {n a : Nat} (hn : n < 8) (ha : a ∈ countRegs n) : ¬ DealReg n a := by
  simp only [countRegs, List.mem_cons, List.not_mem_nil, or_false, Reg.PRT_RX_FRAMES, Reg.PRT_FEC_CORR, Reg.PRT_FEC_UNCORR] at ha
  simp only [DealReg, unservedRegs, List.mem_cons, List.not_mem_nil, or_false, Reg.PRT_EVT, Reg.PRT_HRX_CONS, Reg.PRT_DROP_FCS,
    Reg.PRT_DROP_FRAG, Reg.PRT_DROP_PAUSE, Reg.PRT_SLOW_DROP, Reg.PRT_HOST_RX_DROP]
  omega

theorem evKey_countRegs {n a : Nat} (ha : a ∈ countRegs n) : evKey a = false := by
  simp only [countRegs, List.mem_cons, List.not_mem_nil, or_false] at ha
  rcases ha with rfl | rfl | rfl
  · exact evKey_rxFrames n
  · exact evKey_fecCorr n
  · exact evKey_fecUncorr n

/-- What becomes of a frame leaves the counts of its reception. -/
theorem State.deal_rd (u : State) {n a : Nat} (hn : n < 8) (g : Frame) (sIn : Nat) (c : Class) (ha : a ∈ countRegs n) :
    (u.deal n g sIn c).rd a = u.rd a :=
  (u.deal_regWork n g sIn c fun p => (u.takeIn_regWork n g sIn p).mono fun _ => .inr).regs a (countRegs_apart hn ha) (evKey_countRegs ha)

section
variable (n : Fin 8) (f : Frame) (corr : Nat) (uncorr : List Nat) (s : State)

/-- R63, R74: an UP port counts a frame and its codewords, whatever becomes of it. -/
theorem frameIngress_counts (up : s.isUp n.val = true) : Does (.frameIngress n f corr uncorr) s fun t =>
     t.rd (Reg.PRT_RX_FRAMES n.val) = satAdd (s.rd (Reg.PRT_RX_FRAMES n.val)) 1 ∧
     t.rd (Reg.PRT_FEC_CORR n.val) = (if s.fec n.val < 2 then s.rd (Reg.PRT_FEC_CORR n.val) else satAdd (s.rd (Reg.PRT_FEC_CORR n.val)) corr) ∧
     t.rd (Reg.PRT_FEC_UNCORR n.val) =
       (if s.fec n.val < 2 then s.rd (Reg.PRT_FEC_UNCORR n.val) else satAdd (s.rd (Reg.PRT_FEC_UNCORR n.val)) uncorr.length) := by
  obtain ⟨g, hg⟩ : ∃ g, g = decodedFrame f (s.fec n.val) uncorr := ⟨_, rfl⟩
  refine ⟨_, execFrameIngress_up n f corr uncorr up hg rfl rfl, ?_⟩
  dsimp only
  rw [State.deal_rd _ n.isLt _ _ _ (by simp [countRegs]), State.deal_rd _ n.isLt _ _ _ (by simp [countRegs]),
    State.deal_rd _ n.isLt _ _ _ (by simp [countRegs])]
  exact s.intake_counters n.val corr uncorr

end

theorem State.numbered_parts (v : State) : v.numbered.clus = v.clus ∧ v.numbered.active = v.active ∧
    v.numbered.cls = { v.cls with nextId := v.cls.nextId + 1 } ∧ v.numbered.live = v.live := by
  unfold State.numbered
  rw [State.flow_clus, State.flow_active, State.flow_cls, State.flow_live]
  exact ⟨rfl, rfl, rfl, rfl⟩

/-- R63: a request on its way finds the clusters, their classifier and the configuration of the instant of its reception. -/
theorem State.arrived_parts (s : State) (n corr : Nat) (uncorr : List Nat) (g : Frame) (sIn : Nat) :
    ((s.intake n corr uncorr).arrive n g sIn).clus = s.clus ∧ ((s.intake n corr uncorr).arrive n g sIn).cls = s.cls ∧
    ((s.intake n corr uncorr).arrive n g sIn).active = s.active ∧ ((s.intake n corr uncorr).arrive n g sIn).cfg = s.cfg := by
  obtain ⟨clus, cls, active, cfg⟩ := (s.intake n corr uncorr).arrive_parts n g sIn
  rw [clus, cls, active, cfg, (s.intake_countWork n corr uncorr).rest]
  exact ⟨rfl, rfl, rfl, rfl⟩

/-- Such a request is placed from a state that differs from the first in no queue. -/
theorem State.numbered_placing (s : State) {n : Nat} (hn : n < 8) (corr : Nat) (uncorr : List Nat) (g : Frame) (sIn : Nat) :
    Placing s ((s.intake n corr uncorr).arrive n g sIn).numbered := by
  obtain ⟨clus, cls, active, -⟩ := s.arrived_parts n corr uncorr g sIn
  obtain ⟨clus', active', cls', live'⟩ := ((s.intake n corr uncorr).arrive n g sIn).numbered_parts
  have regs : RegWork (· < 0x0900000) s ((s.intake n corr uncorr).arrive n g sIn) :=
    ((s.intake_regWork n corr uncorr).mono fun a ha => by
      simp only [intakeRegs, fecRegs, List.mem_cons, List.not_mem_nil, or_false, Reg.PRT_RX_FRAMES, Reg.PRT_FEC_CORR,
        Reg.PRT_FEC_UNCORR, Reg.PRT_EVT] at ha
      omega).trans (State.arrive_regWork ..)
  exact ⟨fun k => by rw [State.clu_congr (clus'.trans clus)], active'.trans active, by rw [cls', cls], regs.trans (.of_live live')⟩

/-- R92-R95: what a request holds when it is made in a state whose clusters' classifier and configuration are those of `s`. -/
theorem State.makeReq_fields {s v : State} (cls : v.cls = s.cls) (cfg : v.cfg = s.cfg) (n : Nat) (g : Frame) (p : Path) (sIn : Nat) :
    let r := v.makeReq n g p sIn
    (r.id = s.cls.nextId ∧ r.port = n ∧ r.path = p ∧ r.frame = g ∧ r.sIn = sIn ∧ r.gen = s.genAt sIn ∧ r.eligible = false ∧
      r.slots = ceilDiv g.len 128 ∧ r.home = s.homeOf (addrHash (s.seedAt sIn).1 g.src)) ∧ r.sprayed = false := by
  unfold State.homeOf State.seedAt State.genAt
  rw [← cls, ← cfg]
  exact ⟨⟨rfl, rfl, rfl, rfl, rfl, rfl, rfl, rfl, rfl⟩, rfl⟩

/-- R98: a placed request leaves the number of the next. -/
theorem State.place_nextId (s : State) (r : Req) : (s.place r).cls.nextId = s.cls.nextId := by
  have homed : (s.homing r.home).cls = s.cls := by
    unfold State.homing
    split <;> rfl
  rw [State.place_eq, State.seat_nextId, homed]

/-- R98, R121, R130: a request finds its place or is refused. -/
theorem Placing.placed {s v : State} (h : Placing s v) {r : Req} (unmarked : r.sprayed = false) : Placed r s (v.place r) := by
  rw [State.place_eq]
  cases sprays : s.spraying r.port with
  | true => exact (h.homing r.home).seat_sprayed sprays
  | false => exact (h.homing r.home).seat_home sprays unmarked

/-- R63: a request that its port serves is numbered and placed. -/
theorem execFrameIngress_request (n : Fin 8) (f : Frame) (corr : Nat) (uncorr : List Nat) {s : State} {g : Frame} {sIn : Nat} {p : Path}
    (up : s.isUp n.val = true) (hg : g = decodedFrame f (s.fec n.val) uncorr) (hs : sIn = s.stampOf n.val g)
    (request : s.classify n.val (s.genAt sIn) g = .request p)
    (serves : (s.port n.val).calState = 2 → bitAt (s.ac (Reg.PRT_CTRL n.val)) 0 = true) :
    exec (.frameIngress n f corr uncorr) s = .next ((s.intake n.val corr uncorr).takeIn n.val g p sIn) := by
  have work := s.intake_countWork n.val corr uncorr
  rw [execFrameIngress_up n f corr uncorr up hg hs rfl, request]
  refine congrArg Host.Outcome.next (if_neg fun ⟨failed, refuses⟩ => ?_)
  rw [work.calState] at failed
  rw [work.ac, serves failed] at refuses
  exact absurd refuses (by decide)

/-- R92-R95, R98, R121, R130: the request that an UP port makes, and its place. -/
theorem frameIngress_request (n : Fin 8) (f : Frame) (corr : Nat) (uncorr : List Nat) (s : State) (g : Frame) (sIn : Nat) (p : Path)
     (up : s.isUp n.val = true) (hg : g = (if 2 ≤ s.fec n.val ∧ 0 ∈ uncorr then { f with fcsGood := false } else f))
     (hs : sIn = s.stampOf n.val g) (request : s.classify n.val (s.genAt sIn) g = .request p)
     (serves : (s.port n.val).calState = 2 → bitAt (s.ac (Reg.PRT_CTRL n.val)) 0 = true) :
     Does (.frameIngress n f corr uncorr) s fun t => t.cls.nextId = s.cls.nextId + 1 ∧ ∃ r : Req,
       (r.id = s.cls.nextId ∧ r.port = n.val ∧ r.path = p ∧ r.frame = g ∧ r.sIn = sIn ∧ r.gen = s.genAt sIn ∧ r.eligible = false ∧
         r.slots = ceilDiv f.len 128 ∧ r.home = s.homeOf (addrHash (s.seedAt sIn).1 f.src) ∧ r.sprayed = s.spraying n.val) ∧
       let ptr := tget (fun _ => 0) s.cls.pointer n.val
       let dest : Option Nat := if s.spraying n.val = true then s.sprayTarget ptr r.slots
         else if (s.clu r.home).retired = false ∧ (s.clu r.home).canTake r.slots = true then some r.home else none
       match dest with
       | some k => (∃ pl, (t.clu k).queue = (s.clu k).queue ++ [{ r with places := pl }]) ∧ ∀ j, j ≠ k → (t.clu j).queue = (s.clu j).queue
       | none => (∀ j, (t.clu j).queue = (s.clu j).queue) ∧
         let k := if s.spraying n.val = true then s.sprayPoint ptr else r.home
         let a := if s.spraying n.val = false ∧ (s.clu k).retired = true then Reg.CEL_DROP_RETIRE k
           else if 256 ≤ (s.clu k).queue.length then Reg.CEL_DROP_QFULL k else Reg.CEL_DROP_FSTORE k
         k < 32 → t.rd a = satAdd (s.rd a) 1 := by
  refine ⟨_, execFrameIngress_request n f corr uncorr up hg hs request serves, ?_⟩
  have len : g.len = f.len := by rw [hg.trans (decodedFrame_shape f (s.fec n.val) uncorr)]
  have src : g.src = f.src := by rw [hg.trans (decodedFrame_shape f (s.fec n.val) uncorr)]
  obtain ⟨-, cls, -, cfg⟩ := s.arrived_parts n.val corr uncorr g sIn
  have placing := s.numbered_placing n.isLt corr uncorr g sIn
  obtain ⟨fields, unmarked⟩ := State.makeReq_fields cls cfg n.val g p sIn
  obtain ⟨-, -, numbered, -⟩ := ((s.intake n.val corr uncorr).arrive n.val g sIn).numbered_parts
  rw [State.takeIn]
  generalize ((s.intake n.val corr uncorr).arrive n.val g sIn).makeReq n.val g p sIn = r at fields unmarked
  have placed := placing.placed unmarked
  obtain ⟨id, port, path, frame, stamp, gen, eligible, slots, home⟩ := fields
  refine ⟨?_, { r with sprayed := s.spraying n.val },
    ⟨id, port, path, frame, stamp, gen, eligible, len ▸ slots, src ▸ home, rfl⟩, ?_⟩
  · rw [State.place_nextId, numbered, cls]
  have dest : (if s.spraying n.val = true then s.sprayTarget (tget (fun _ => 0) s.cls.pointer n.val) r.slots
      else if (s.clu r.home).retired = false ∧ (s.clu r.home).canTake r.slots = true then some r.home else none) = s.destOf r := by
    rw [State.destOf, port]
  dsimp only
  rw [dest]
  cases found : s.destOf r with
  | some k =>
    obtain ⟨tail, others⟩ := placed.taken k found
    rw [congrArg s.spraying port] at tail
    exact ⟨tail, others⟩
  | none =>
    obtain ⟨kept, counted⟩ := placed.dropped found
    rw [State.refusedReg, State.refuser, port] at counted
    exact ⟨kept, fun _ => counted⟩

end Sys2Proof.Machine
end

section
/-!
PROOFS. The FCS verdict on the frame of a request (R99), and the statement about reception.
-/

namespace Sys2Proof.Machine

/-- R99: the cluster in whose queue request `id` stands. -/
def State.queuedFor (s : State) (id : Nat) : Option (Nat × Req) :=
  (List.range 32).findSome? (fun k => ((s.clu k).queue.find? (fun r => r.id == id)).map (fun r => (k, r)))

/-- R99: the cluster to which request `id` is on its way. -/
def State.givenFor (s : State) (id : Nat) : Option (Nat × Transfer) :=
  (List.range 32).findSome? (fun k => ((s.clu k).inbound.find? (fun x => x.req.id == id)).map (fun x => (k, x)))

/-- R99: the verdict on an entry of the queue of cluster `k`. -/
def State.judgeQueued (s : State) (id k : Nat) (r : Req) : State :=
  if r.frame.fcsGood then s.updClu k (fun cl => { cl with
    queue := cl.queue.map (fun q => if q.id = id then { q with eligible := true } else q) })
  else (s.unqueue k r).bump (Reg.PRT_DROP_FCS r.port)

/-- R99: the verdict on an entry that a neighbour has given to cluster `k`. -/
def State.judgeGiven (s : State) (id k : Nat) (x : Transfer) : State :=
  if x.req.frame.fcsGood then s.updClu k (fun cl => { cl with
    inbound := cl.inbound.map (fun y => if y.req.id = id then { y with req := { y.req with eligible := true } } else y) })
  else ((s.updClu k (fun cl => { cl with inbound := cl.inbound.erase x })).freeCredit x.req).bump (Reg.PRT_DROP_FCS x.req.port)

section
variable {id : Nat} {s : State}

theorem execFcsVerdict_queued {k : Nat} {r : Req} (found : s.queuedFor id = some (k, r)) :
    exec (.fcsVerdict id) s = .next ((s.advTo r.fcsAt).judgeQueued id k r) := by
  change execFcsVerdict id s = _
  unfold execFcsVerdict
  rw [← State.queuedFor, found]
  exact (apply_ite ..).symm

theorem execFcsVerdict_given {k : Nat} {x : Transfer} (unqueued : s.queuedFor id = none) (found : s.givenFor id = some (k, x)) :
    exec (.fcsVerdict id) s = .next ((s.advTo x.req.fcsAt).judgeGiven id k x) := by
  change execFcsVerdict id s = _
  unfold execFcsVerdict
  rw [← State.queuedFor, unqueued]
  dsimp only
  rw [← State.givenFor, found]
  exact (apply_ite ..).symm

theorem execFcsVerdict_gone (unqueued : s.queuedFor id = none) (ungiven : s.givenFor id = none) :
    exec (.fcsVerdict id) s = .next s := by
  change execFcsVerdict id s = _
  unfold execFcsVerdict
  rw [← State.queuedFor, unqueued]
  dsimp only
  rw [← State.givenFor, ungiven]

end

section
variable (s : State) (k : Nat)

/-- R99: an entry that leaves its queue leaves the registers and the time. -/
theorem State.unqueue_parts (r : Req) : (s.unqueue k r).live = s.live ∧ (s.unqueue k r).time = s.time := by
  have work : Touch 65536 s (s.unqueue k r) := State.unqueue_touch rfl s k r (.refl ..)
  exact ⟨work.same .live rfl, work.same .time rfl⟩

theorem State.freeCredit_parts (r : Req) : (s.freeCredit r).live = s.live ∧ (s.freeCredit r).time = s.time := by
  have work : Touch 65536 s (s.freeCredit r) := State.freeCredit_touch rfl s r (.refl ..)
  exact ⟨work.same .live rfl, work.same .time rfl⟩

theorem State.unqueue_queue (r : Req) : ((s.unqueue k r).clu k).queue = (s.clu k).queue.erase r := by
  unfold State.unqueue
  rw [(State.watch_kept ..).queue, (State.freeSlots_kept ..).queue, State.clu_updClu_same]

theorem State.judgeQueued_spec (id : Nat) (r : Req) : (s.judgeQueued id k r).time = s.time ∧
    if r.frame.fcsGood = true then
      ((s.judgeQueued id k r).clu k).queue = (s.clu k).queue.map (fun q => if q.id = id then { q with eligible := true } else q)
    else ((s.judgeQueued id k r).clu k).queue = (s.clu k).queue.erase r ∧
      (s.judgeQueued id k r).rd (Reg.PRT_DROP_FCS r.port) = satAdd (s.rd (Reg.PRT_DROP_FCS r.port)) 1 := by
  unfold State.judgeQueued
  split
  · rw [State.clu_updClu_same]
    exact ⟨rfl, rfl⟩
  · obtain ⟨live, time⟩ := s.unqueue_parts k r
    rw [State.clu_bump, State.unqueue_queue, State.bump_rd_same, State.rd_congr live]
    exact ⟨time, rfl, rfl⟩

theorem State.judgeGiven_spec (id : Nat) (x : Transfer) : (s.judgeGiven id k x).time = s.time ∧
    if x.req.frame.fcsGood = true then
      ((s.judgeGiven id k x).clu k).inbound =
        (s.clu k).inbound.map (fun y => if y.req.id = id then { y with req := { y.req with eligible := true } } else y)
    else ((s.judgeGiven id k x).clu k).inbound = (s.clu k).inbound.erase x ∧
      (s.judgeGiven id k x).rd (Reg.PRT_DROP_FCS x.req.port) = satAdd (s.rd (Reg.PRT_DROP_FCS x.req.port)) 1 := by
  unfold State.judgeGiven
  split
  · rw [State.clu_updClu_same]
    exact ⟨rfl, rfl⟩
  · obtain ⟨live, time⟩ := (s.updClu k (fun cl => { cl with inbound := cl.inbound.erase x })).freeCredit_parts x.req
    rw [State.clu_bump, (State.freeCredit_kept ..).inbound, State.clu_updClu_same, State.bump_rd_same, State.rd_congr live]
    exact ⟨time, rfl, rfl⟩

end

theorem fcsVerdict_does (id : Nat) (s : State) : Does (.fcsVerdict id) s fun t =>
     match (List.range 32).findSome? (fun k => ((s.clu k).queue.find? (fun r => r.id == id)).map (fun r => (k, r))) with
     | some (k, r) => t.time.now = max s.time.now r.fcsAt ∧
       if r.frame.fcsGood = true then
         (t.clu k).queue = (s.clu k).queue.map (fun q => if q.id = id then { q with eligible := true } else q)
       else (t.clu k).queue = (s.clu k).queue.erase r ∧
         t.rd (Reg.PRT_DROP_FCS r.port) = satAdd (s.rd (Reg.PRT_DROP_FCS r.port)) 1
     | none =>
       match (List.range 32).findSome? (fun k => ((s.clu k).inbound.find? (fun x => x.req.id == id)).map (fun x => (k, x))) with
       | some (k, x) => t.time.now = max s.time.now x.req.fcsAt ∧
         if x.req.frame.fcsGood = true then
           (t.clu k).inbound = (s.clu k).inbound.map (fun y => if y.req.id = id then { y with req := { y.req with eligible := true } } else y)
         else (t.clu k).inbound = (s.clu k).inbound.erase x ∧
           t.rd (Reg.PRT_DROP_FCS x.req.port) = satAdd (s.rd (Reg.PRT_DROP_FCS x.req.port)) 1
       | none => t = s := by
  rw [← State.queuedFor, ← State.givenFor]
  cases queued : s.queuedFor id with
  | some a =>
    obtain ⟨k, r⟩ := a
    obtain ⟨time, verdict⟩ := (s.advTo r.fcsAt).judgeQueued_spec k id r
    rw [State.clu_advTo, State.rd_advTo] at verdict
    exact ⟨_, execFcsVerdict_queued queued, by rw [time, s.advTo_now], verdict⟩
  | none =>
    cases given : s.givenFor id with
    | some a =>
      obtain ⟨k, x⟩ := a
      obtain ⟨time, verdict⟩ := (s.advTo x.req.fcsAt).judgeGiven_spec k id x
      rw [State.clu_advTo, State.rd_advTo] at verdict
      exact ⟨_, execFcsVerdict_given queued given, by rw [time, s.advTo_now], verdict⟩
    | none => exact ⟨s, execFcsVerdict_gone queued given, rfl⟩

/-- Settles O21: the count of a frame is kept by all that its class leads to; a request reaches its cluster with the queues as they
were, and joins one or is refused by one; the verdict finds the entry in a queue or on its way. -/
theorem ingress : Obligations.Ingress :=
  ⟨frameIngress_down, fun n f corr uncorr s => frameIngress_counts n f corr uncorr s, frameIngress_unserved, frameIngress_request,
    fcsVerdict_does⟩

end Sys2Proof.Machine
end

section
/-!
PROOFS. What a neighbour gives to a cluster that asks it for entries (R114–R117).
-/

namespace Sys2Proof.Machine

/-! ### The cluster that asks -/

/-- What a cluster that asks has of its own: its queue, its turn to ask, and the requests in transfer to it. -/
structure Asker where
  queue : List Req
  stealAt : Option Nat
  askNext : Nat
  inbound : List Nat

def ClusterSt.asker (cl : ClusterSt) : Asker := ⟨cl.queue, cl.stealAt, cl.askNext, cl.inbound.map (·.req.id)⟩

/-- From `s` to `t` time may pass, and of what cluster `k` has of its own, requests `l` come into transfer behind those that were. -/
structure Gives (k : Nat) (l : List Nat) (s t : State) : Prop where
  time : s.time.now ≤ t.time.now
  active : t.active = s.active
  asker : (t.clu k).asker = { (s.clu k).asker with inbound := (s.clu k).asker.inbound ++ l }

section
variable {k : Nat} {l m : List Nat} {s t u : State}

theorem Gives.trans (h : Gives k l s t) (i : Gives k m t u) : Gives k (l ++ m) s u :=
  ⟨h.time.trans i.time, i.active.trans h.active, by rw [i.asker, h.asker, List.append_assoc]⟩

theorem Gives.trans_none (h : Gives k l s t) (i : Gives k [] t u) : Gives k l s u := l.append_nil ▸ h.trans i

/-- Nothing comes into transfer. -/
theorem Gives.none (time : s.time.now ≤ t.time.now) (active : t.active = s.active) (asker : (t.clu k).asker = (s.clu k).asker) :
    Gives k [] s t :=
  ⟨time, active, by rw [asker, List.append_nil]⟩

theorem Gives.refl (s : State) : Gives k [] s s := .none le_rfl rfl rfl

theorem Gives.of_clus (time : s.time.now ≤ t.time.now) (active : t.active = s.active) (clus : t.clus = s.clus) : Gives k [] s t :=
  .none time active (by rw [State.clu_congr clus])

theorem Gives.ite {c : Prop} [Decidable c] (h : Gives k l s t) (i : Gives k l s u) : Gives k l s (if c then t else u) := by
  split <;> assumption

theorem Gives.foldl {α : Type} {f : State → α → State} (step : ∀ t a, Gives k [] t (f t a)) (as : List α) (s : State) :
    Gives k [] s (as.foldl f s) := by
  induction as generalizing s with
  | nil => exact .refl s
  | cons a as ih => exact (step s a).trans (ih _)

/-- A change of clusters that leaves what each that asks has of its own. -/
theorem Gives.updClu (s : State) (i : Nat) {f : ClusterSt → ClusterSt} (h : ∀ cl, (f cl).asker = cl.asker) :
    Gives k [] s (s.updClu i f) := .none le_rfl rfl (State.field_updClu ClusterSt.asker h s i k)

/-- A change of another cluster. -/
theorem Gives.updClu_ne (s : State) {i : Nat} (ne : k ≠ i) (f : ClusterSt → ClusterSt) : Gives k [] s (s.updClu i f) :=
  .none le_rfl rfl (by rw [State.clu_updClu_ne _ _ ne])

end

/-! ### The lookup of an entry as it leaves -/

section
variable {k : Nat} (s : State)

/-- R126: a verdict reaches the transfer that carries its request. -/
theorem State.setV1_gives (id : Nat) (v : Verdict) : Gives k [] s (s.setV1 id v) := by
  refine .foldl (fun t i => .updClu t i fun cl => ?_) _ s
  have ids : (cl.inbound.map fun x => if x.req.id = id then { x with req := { x.req with v1 := some v } } else x).map (·.req.id) =
      cl.inbound.map (·.req.id) := by
    rw [List.map_map]
    refine List.map_congr_left fun x _ => ?_
    dsimp only [Function.comp]
    split <;> rfl
  exact congrArg (Asker.mk cl.queue cl.stealAt cl.askNext) ids

theorem State.orderV1_gives (x : Lookup) : Gives k [] s (s.orderV1 x).2 :=
  (Gives.foldl (fun t _ => .ite (t.setV1_gives ..) (.refl t)) _ s).trans (.of_clus le_rfl rfl rfl)

theorem State.lookupPlace_gives (r : Req) : Gives k [] s (s.lookupPlace r) :=
  .ite (.of_clus le_rfl rfl rfl) (.ite (.of_clus (s.le_advTo _) (s.advTo_active _) (s.advTo_clus _)) (.refl s))

theorem State.lookupV1_gives (r : Req) : Gives k [] s (s.lookupV1 r).2 := by
  have work : Touch 538051073 s (s.lookupV1 r).2 := State.lookupV1_touch rfl s r (.refl ..)
  have time : (s.lookupV1 r).2.time = s.time := work.same .time rfl
  exact .of_clus (by rw [time]) (work.same .active rfl) (work.same .clus rfl)

/-- R101, R126: the V1 lookup of a request may have to wait, and leaves the queues and the transfers. -/
theorem State.issueV1_gives (r : Req) : Gives k [] s (s.issueV1 r).2 := by
  have placed := s.lookupPlace_gives (k := k) r
  have counted (t : State) : Gives k [] t (t.flow 0x21) := .of_clus (by rw [State.flow_time]) (t.flow_active ..) (t.flow_clus ..)
  exact ((placed.trans (counted _)).trans (State.lookupV1_gives ..)).trans (State.orderV1_gives ..)

theorem State.watch_gives {g : Nat} (ne : k ≠ g) : Gives k [] s (s.watch g) := by
  have dwell (t : State) : Gives k [] t (t.dwell g) :=
    .ite (.ite (.updClu_ne t ne _) (.refl t)) (.ite (.updClu_ne t ne _) (.refl t))
  have lowWater (t : State) : Gives k [] t (t.lowWater g) := .ite (.ite (.refl t) (.updClu_ne t ne _)) (.updClu_ne t ne _)
  exact (dwell s).trans (lowWater _)

end

/-! ### The entries given -/

/-- R115, R116: cluster `g` hands entry `r` over to cluster `k`. -/
def State.handOver (s : State) (g k : Nat) (r : Req) : State :=
  let issued := s.issueV1 r
  let atHome := r.v1.isNone && g == r.home
  let v1 := if atHome then some issued.1 else r.v1
  let s := if atHome then issued.2 else s
  let s := s.updClu g (fun cl => { cl with queue := cl.queue.erase r })
  let s := if r.credit.isSome then s.updClu g (·.release r.places) else s
  let s := (s.watch g).bump (Reg.CEL_STOLEN_OUT g)
  let credit := if r.credit.isSome then r.credit else some (g, r.places)
  let moved : Req := { r with v1 := v1, hops := r.hops + 1, places := [], credit := credit }
  let t : Transfer := { at_ := s.cclkAfter (if r.hops = 0 then 24 else 48), giver := g, req := moved }
  s.updClu k (fun cl => { cl with inbound := cl.inbound ++ [t] })

theorem State.give_cons (s : State) (g k n : Nat) (r : Req) (rest : List Req) : s.give g k (n + 1) (r :: rest) =
    if (s.clu g).queue.length < fld (s.ac Reg.CLS_STEAL) 8 8 then s
    else if !s.mayGive k r then s.give g k (n + 1) rest
    else (s.handOver g k r).give g k n rest := rfl

/-- R116: an entry handed over comes into transfer. -/
theorem State.handOver_gives (s : State) {g k : Nat} (ne : k ≠ g) (r : Req) : Gives k [r.id] s (s.handOver g k r) := by
  have looked : Gives k [] s (if r.v1.isNone && g == r.home then (s.issueV1 r).2 else s) := .ite (s.issueV1_gives r) (.refl s)
  have freed (t : State) : Gives k [] t (if r.credit.isSome then t.updClu g (·.release r.places) else t) :=
    .ite (.updClu_ne t ne _) (.refl t)
  have counted (t : State) (a : Nat) : Gives k [] t (t.bump a) := .of_clus le_rfl rfl rfl
  have sent (t : State) (x : Transfer) (id : x.req.id = r.id) :
      Gives k [r.id] t (t.updClu k (fun cl => { cl with inbound := cl.inbound ++ [x] })) :=
    ⟨le_rfl, rfl, by simp [ClusterSt.asker, id]⟩
  exact ((((looked.trans (.updClu_ne _ ne _)).trans (freed _)).trans (State.watch_gives _ ne)).trans (counted ..)).trans (sent _ _ rfl)

theorem State.hopLimit_congr {s t : State} (h : t.active = s.active) (p : Path) : t.hopLimit p = s.hopLimit p := by
  unfold State.hopLimit State.ac
  rw [h]

/-- R99, R115: an entry that may be given is eligible and below its hop limit. -/
theorem State.mayGive_spec {s : State} {k : Nat} {r : Req} (may : s.mayGive k r = true) :
    r.eligible = true ∧ r.hops < s.hopLimit r.path := by
  simp only [State.mayGive, Bool.and_eq_true, decide_eq_true_eq] at may
  obtain ⟨⟨⟨⟨eligible, hops⟩, -⟩, -⟩, -⟩ := may
  exact ⟨eligible, hops⟩

/-- R115: a cluster gives at most `n` entries of a list, of which each may go. -/
theorem State.give_gives {g k : Nat} (ne : k ≠ g) (n : Nat) (rs : List Req) (s : State) : ∃ l, Gives k l s (s.give g k n rs) ∧
    l.length ≤ n ∧ ∀ i ∈ l, ∃ r ∈ rs, r.id = i ∧ r.eligible = true ∧ r.hops < s.hopLimit r.path := by
  have nothing (n : Nat) (rs : List Req) (s : State) : ∃ l, Gives k l s s ∧ l.length ≤ n ∧
      ∀ i ∈ l, ∃ r ∈ rs, r.id = i ∧ r.eligible = true ∧ r.hops < s.hopLimit r.path := ⟨[], .refl s, n.zero_le, nofun⟩
  induction rs generalizing n s with
  | nil => cases n <;> exact nothing ..
  | cons r rs ih =>
    cases n with
    | zero => exact nothing ..
    | succ n =>
      rw [State.give_cons]
      split
      · exact nothing ..
      · split
        · obtain ⟨l, gives, most, each⟩ := ih (n + 1) s
          exact ⟨l, gives, most, fun i hi => (each i hi).imp fun _ x => ⟨List.mem_cons_of_mem _ x.1, x.2⟩⟩
        · next may =>
          have first := s.handOver_gives ne r
          obtain ⟨l, gives, most, each⟩ := ih n (s.handOver g k r)
          refine ⟨r.id :: l, first.trans gives, Nat.succ_le_succ most, fun i hi => ?_⟩
          rcases List.mem_cons.mp hi with rfl | later
          · exact ⟨r, List.mem_cons_self, rfl, State.mayGive_spec (by simpa using may)⟩
          · obtain ⟨q, listed, id, eligible, hops⟩ := each i later
            exact ⟨q, List.mem_cons_of_mem _ listed, id, eligible, State.hopLimit_congr first.active _ ▸ hops⟩

/-! ### The request -/

/-- The neighbours of a cluster are others. -/
theorem neighbours_ne : ∀ (k : Fin 32) (d : Fin 4), (neighbours k.val).getD d.val 0 ≠ k.val := by decide

/-- R114: a cluster that has a next request sends requests. -/
theorem State.stealAt_of_nextAsk {s : State} {k a d : Nat} (next : s.nextAsk k = some (a, d)) : ∃ b, (s.clu k).stealAt = some b := by
  unfold State.nextAsk at next
  dsimp only at next
  split at next
  · cases next
  · exact (Option.map_eq_some_iff.mp next).imp fun _ => And.left

/-- R114: cluster `k` has asked its neighbour in direction `d` at tick `a`. -/
def State.asked (s : State) (k a d : Nat) : State :=
  (s.advTo a).updClu k (fun cl => { cl with stealAt := cl.stealAt.map (fun _ => a + 8 * cclkTicks), askNext := (d + 1) % 4 })

/-- R115, R117: neighbour `j` of cluster `k` in direction `d` has granted its request. -/
def State.granted (s : State) (k j a d : Nat) : State :=
  ((s.give j k (fld (s.ac Reg.CLS_STEAL) 16 3) (s.clu j).queue.reverse).updClu k (fun cl => { cl with lastGrantBy := d })).updClu j
    (fun cl => { cl with lastGiven := (d + 2) % 4, grantedAt := some a })

section
variable {s : State} {k : Fin 32} {e : Fin 4}

theorem execStealRequest_idle (next : s.nextAsk k.val = none) : exec (.stealRequest k e) s = .next s := by
  change execStealRequest k e s = _
  rw [execStealRequest, next]

theorem execStealRequest_turn {a d : Nat} (next : s.nextAsk k.val = some (a, d)) (other : d ≠ e.val) :
    exec (.stealRequest k e) s = .next s := by
  change execStealRequest k e s = _
  rw [execStealRequest, next]
  exact if_pos other

theorem execStealRequest_asks {a : Nat} (next : s.nextAsk k.val = some (a, e.val)) : exec (.stealRequest k e) s = .next
    (if (s.advTo a).grantsNow ((neighbours k.val).getD e.val 0) ((e.val + 2) % 4) then
      (s.asked k.val a e.val).granted k.val ((neighbours k.val).getD e.val 0) a e.val
    else s.asked k.val a e.val) := by
  change execStealRequest k e s = _
  rw [execStealRequest, next]
  dsimp only
  rw [if_neg (not_not.mpr rfl)]
  cases (s.advTo a).grantsNow ((neighbours k.val).getD e.val 0) ((e.val + 2) % 4) <;> rfl

end

/-- R114: what a request changes of the cluster that asks. -/
theorem State.asked_clu (s : State) {k a d b : Nat} (sends : (s.clu k).stealAt = some b) : (s.asked k a d).clu k =
    { s.clu k with stealAt := some (a + 8 * cclkTicks), askNext := (d + 1) % 4 } := by
  rw [State.asked, State.clu_updClu_same, State.clu_advTo, sends]
  rfl

theorem State.asked_clu_ne (s : State) {k a d j : Nat} (ne : j ≠ k) : (s.asked k a d).clu j = s.clu j := by
  rw [State.asked, State.clu_updClu_ne _ _ ne, State.clu_advTo]

/-- R115, R117: what a grant does. -/
theorem State.granted_spec (s : State) {k j : Nat} (ne : k ≠ j) (a d : Nat) : ∃ l, Gives k l s (s.granted k j a d) ∧
    l.length ≤ fld (s.ac Reg.CLS_STEAL) 16 3 ∧ ((s.granted k j a d).clu k).lastGrantBy = d ∧
    ((s.granted k j a d).clu j).lastGiven = (d + 2) % 4 ∧
    ∀ i ∈ l, ∃ r ∈ (s.clu j).queue, r.id = i ∧ r.eligible = true ∧ r.hops < s.hopLimit r.path := by
  obtain ⟨l, gives, most, each⟩ := State.give_gives ne (fld (s.ac Reg.CLS_STEAL) 16 3) (s.clu j).queue.reverse s
  have noted (t : State) : Gives k [] t (t.updClu k (fun cl => { cl with lastGrantBy := d })) := .updClu t k fun _ => rfl
  refine ⟨l, (gives.trans_none (noted _)).trans_none (.updClu_ne _ ne _), most, ?_, ?_, fun i hi => ?_⟩
  · rw [State.granted, State.clu_updClu_ne _ _ ne, State.clu_updClu_same]
  · rw [State.granted, State.clu_updClu_same]
  · obtain ⟨r, listed, rest⟩ := each i hi
    exact ⟨r, List.mem_reverse.mp listed, rest⟩

/-- R114, R115, R117: what a steal request does. -/
theorem stealRequest_does (k : Fin 32) (e : Fin 4) (s : State) : Does (.stealRequest k e) s fun t => match s.nextAsk k.val with
     | none => t = s
     | some (a, d) => if d ≠ e.val then t = s else max s.time.now a ≤ t.time.now ∧ (t.clu k.val).queue = (s.clu k.val).queue ∧
       (t.clu k.val).stealAt = some (a + 8 * cclkTicks) ∧ (t.clu k.val).askNext = (d + 1) % 4 ∧
       ∃ l, (t.clu k.val).inbound.map (·.req.id) = (s.clu k.val).inbound.map (·.req.id) ++ l ∧ l.length ≤ fld (s.ac Reg.CLS_STEAL) 16 3 ∧
         let j := (neighbours k.val).getD d 0
         if (s.advTo a).grantsNow j ((d + 2) % 4) = true then
           (t.clu k.val).lastGrantBy = d ∧ (t.clu j).lastGiven = (d + 2) % 4 ∧
           ∀ i ∈ l, ∃ r ∈ (s.clu j).queue, r.id = i ∧ r.eligible = true ∧ r.hops < s.hopLimit r.path
         else l = [] ∧ (t.clu j).queue = (s.clu j).queue := by
  cases next : s.nextAsk k.val with
  | none => exact ⟨s, execStealRequest_idle next, rfl⟩
  | some ask =>
    obtain ⟨a, d⟩ := ask
    by_cases turn : d = e.val
    · subst turn
      have runs := execStealRequest_asks next
      have ne := neighbours_ne k e
      obtain ⟨b, sends⟩ := State.stealAt_of_nextAsk next
      simp only [ne_eq, not_true_eq_false, ↓reduceIte]
      generalize (neighbours k.val).getD e.val 0 = j at ne runs ⊢
      obtain ⟨v, hv⟩ : ∃ v, v = s.asked k.val a e.val := ⟨_, rfl⟩
      have now : v.time.now = max s.time.now a := hv ▸ s.advTo_now a
      have active : v.active = s.active := hv ▸ s.advTo_active a
      have taker : v.clu k.val = { s.clu k.val with stealAt := some (a + 8 * cclkTicks), askNext := (e.val + 1) % 4 } :=
        hv ▸ s.asked_clu sends
      have giver : v.clu j = s.clu j := hv ▸ s.asked_clu_ne ne
      rw [← hv] at runs
      cases grants : (s.advTo a).grantsNow j ((e.val + 2) % 4) with
      | false =>
        rw [grants] at runs
        refine ⟨v, runs, now.ge, ?_⟩
        rw [taker, giver]
        exact ⟨rfl, rfl, rfl, [], (List.append_nil _).symm, Nat.zero_le _, rfl, rfl⟩
      | true =>
        rw [grants] at runs
        obtain ⟨l, gives, most, grantBy, given, each⟩ := v.granted_spec ne.symm a e.val
        have asker := gives.asker
        rw [taker] at asker
        rw [giver] at each
        have batch : v.ac Reg.CLS_STEAL = s.ac Reg.CLS_STEAL := congrArg (tget rwsDef · Reg.CLS_STEAL) active
        refine ⟨_, runs, now ▸ gives.time, congrArg Asker.queue asker, congrArg Asker.stealAt asker, congrArg Asker.askNext asker, l,
          congrArg Asker.inbound asker, batch ▸ most, grantBy, given, fun i hi => ?_⟩
        obtain ⟨r, listed, id, eligible, hops⟩ := each i hi
        exact ⟨r, listed, id, eligible, State.hopLimit_congr active _ ▸ hops⟩
    · exact ⟨s, execStealRequest_turn next turn, by simp only [ne_eq, turn, not_false_eq_true, ↓reduceIte]⟩

end Sys2Proof.Machine
end

section
/-!
PROOFS. How an entry in transfer to a cluster arrives (R98, R116, R117, R509).
-/

namespace Sys2Proof.Machine

/-! ### The room of a cluster -/

/-- R116: cluster `j` once the credit of a request is freed. -/
def ClusterSt.credited (cl : ClusterSt) (j : Nat) (r : Req) : ClusterSt :=
  match r.credit with
  | some (h, pl) => if j = h then cl.release pl else cl
  | none => cl

theorem State.freeCredit_clu (s : State) (r : Req) (j : Nat) : (s.freeCredit r).clu j = (s.clu j).credited j r := by
  unfold State.freeCredit ClusterSt.credited
  cases r.credit with
  | none => rfl
  | some c =>
    dsimp only
    split
    · next e => rw [e, State.clu_updClu_same]
    · next ne => rw [State.clu_updClu_ne _ _ ne]

/-- What is in transfer takes no room. -/
theorem ClusterSt.credited_canTake (cl : ClusterSt) (l : List Transfer) (j n : Nat) (r : Req) :
    (({ cl with inbound := l } : ClusterSt).credited j r).canTake n = (cl.credited j r).canTake n := by
  unfold ClusterSt.credited
  split
  · split <;> rfl
  · rfl

/-! ### The registers -/

/-- R98: of the registers that hold no event status, a request that joins a queue may change CEL_DEPTH_MAX of its cluster. -/
theorem State.enqueue_rd (s : State) {k a : Nat} (r : Req) (stolen : Bool) (ne : a ≠ Reg.CEL_DEPTH_MAX k) :
    (s.enqueue k r stolen).rd a = s.rd a := by
  have depth (t : State) (n : Nat) : (t.keepMax (Reg.CEL_DEPTH_MAX k) n).rd a = t.rd a := by
    unfold State.keepMax
    split
    · exact State.rd_wr_ne _ _ ne
    · rfl
  unfold State.enqueue
  dsimp only
  rw [State.rd_congr (State.watch_live ..), depth, State.rd_updClu]

theorem State.enqueue_inbound (s : State) (k j : Nat) (r : Req) (stolen : Bool) :
    ((s.enqueue k r stolen).clu j).inbound = (s.clu j).inbound := by
  unfold State.enqueue
  dsimp only
  rw [(State.watch_kept ..).inbound, State.clu_keepMax]
  by_cases e : j = k
  · rw [e, State.clu_updClu_same, ClusterSt.hold]
  · rw [State.clu_updClu_ne _ _ e]

theorem State.enqueue_time (s : State) (k : Nat) (r : Req) (stolen : Bool) : (s.enqueue k r stolen).time = s.time :=
  (State.enqueue_touch (w := 65537) rfl s k r stolen (.refl ..)).same .time rfl

theorem State.dropFull_time (s : State) (k : Nat) : (s.dropFull k).time = s.time :=
  (State.dropFull_touch (w := 536871425) rfl s k (.refl ..)).same .time rfl

/-! ### A faulty transfer -/

theorem QueueKept.updated {s t : State} (h : QueueKept s t) (k : Nat) {f : ClusterSt → ClusterSt}
    (hq : ∀ cl, (f cl).queue = cl.queue := by intro _; rfl) (hi : ∀ cl, (f cl).inbound = cl.inbound := by intro _; rfl) :
    QueueKept s (t.updClu k f) := h.trans (.updClu t k hq hi)

/-- R509: a transfer fault leaves the queues, the transfers and the time, and of the registers that hold no event status it may
change FLT_RETIRED_PKE. -/
theorem State.linkFault_spec (s : State) (k d : Nat) : QueueKept s (s.linkFault k d) ∧ (s.linkFault k d).time = s.time ∧
    ∀ a, a ≠ Reg.FLT_RETIRED_PKE → evKey a = false → (s.linkFault k d).rd a = s.rd a := by
  have work : Touch 536936961 s (s.linkFault k d) := State.linkFault_touch rfl s k d (.refl ..)
  refine ⟨?_, work.same .time rfl, fun a ne key => ?_⟩
  · have raised (t : State) (a : Nat) (v : Word) : QueueKept t ((t.wr a v).raise 149) := .of_clus (by simp)
    unfold State.linkFault
    dsimp only
    split
    · refine .trans ?_ (raised ..)
      exact (((QueueKept.refl s).updated k).updated _).updated k |>.updated _
    · exact ((QueueKept.refl s).updated k).updated _
  · unfold State.linkFault
    dsimp only
    split
    · rw [State.raise_rd _ _ _ (by decide) key, State.rd_wr_ne _ _ ne]
      simp only [State.rd_updClu]
    · simp only [State.rd_updClu]

/-! ### The arrival -/

/-- R116: cluster `k` when the oldest entry in transfer to it arrives, before `l` others. -/
def State.arrival (s : State) (k : Nat) (x : Transfer) (l : List Transfer) : State :=
  (s.advTo x.at_).updClu k (fun cl => { cl with inbound := l })

/-- R116: a second hop returns the credit of the cluster in which the entry was first queued. -/
def State.credit (s : State) (r : Req) : State := if 2 ≤ r.hops then s.freeCredit r else s

/-- R116: an entry after its hop. -/
def Req.landed (r : Req) : Req := if 2 ≤ r.hops then { r with credit := none } else r

theorem Req.landed_spec (r : Req) : r.landed.id = r.id ∧ r.landed.frame = r.frame ∧ r.landed.v1 = r.v1 ∧ r.landed.slots = r.slots ∧
    r.landed.hops = r.hops := by
  unfold Req.landed
  split <;> exact ⟨rfl, rfl, rfl, rfl, rfl⟩

/-- R116: the counter of the entries that arrive with a hop. -/
def stolenReg (k : Nat) (r : Req) : Nat := if r.hops ≤ 1 then Reg.CEL_STOLEN_IN1 k else Reg.CEL_STOLEN_IN2 k

section
variable {k : Fin 32} {ecc : Bool} {s : State} {x : Transfer} {l : List Transfer}

theorem execStealArrive_idle (none : (s.clu k.val).inbound = []) : exec (.stealArrive k ecc) s = .next s := by
  change execStealArrive k ecc s = _
  rw [execStealArrive, none]

/-- R98, R116, R117: an entry that arrives fails ECC, finds its cluster retired or full, or joins the queue. -/
theorem execStealArrive_first (first : (s.clu k.val).inbound = x :: l) {u w : State} (hu : u = s.arrival k.val x l)
    (hw : w = u.credit x.req) : exec (.stealArrive k ecc) s =
      if !ecc then
        .next (((u.freeCredit x.req).bump (Reg.CEL_DROP_RETIRE x.giver)).linkFault k.val ((neighbours k.val).idxOf x.giver))
      else if (u.clu k.val).retired then .next ((u.freeCredit x.req).bump (Reg.CEL_DROP_RETIRE k.val))
      else if !(w.clu k.val).canTake x.req.landed.slots then .next ((w.freeCredit x.req.landed).dropFull k.val)
      else .next (((w.bump (stolenReg k.val x.req.landed)).flow 4).enqueue k.val x.req.landed true) := by
  subst hw hu
  change execStealArrive k ecc s = _
  rw [execStealArrive, first]
  rfl

end

theorem State.arrival_spec (s : State) (k : Nat) (x : Transfer) (l : List Transfer) :
    (s.arrival k x l).time.now = max s.time.now x.at_ ∧ (s.arrival k x l).clu k = { s.clu k with inbound := l } ∧
    (s.arrival k x l).live = s.live := by
  refine ⟨s.advTo_now _, ?_, s.advTo_live _⟩
  rw [State.arrival, State.clu_updClu_same, State.clu_advTo]

/-- R116: an arrival after work that leaves the queues and the time. -/
theorem State.arrival_kept {s t : State} {k : Nat} {x : Transfer} {l : List Transfer} (kept : QueueKept (s.arrival k x l) t)
    (time : t.time = (s.arrival k x l).time) :
    (t.clu k).inbound = l ∧ t.time.now = max s.time.now x.at_ ∧ (t.clu k).queue = (s.clu k).queue := by
  obtain ⟨now, here, -⟩ := s.arrival_spec k x l
  rw [kept.inbound, kept.queue, time, here]
  exact ⟨rfl, now, rfl⟩

/-- R116: the credit of a second hop leaves the queues, the transfers, the time and the registers. -/
theorem State.credit_spec (s : State) (r : Req) : QueueKept s (s.credit r) ∧ (s.credit r).time = s.time ∧ (s.credit r).live = s.live := by
  obtain ⟨live, time⟩ := s.freeCredit_parts r
  unfold State.credit
  split
  · exact ⟨s.freeCredit_kept r, time, live⟩
  · exact ⟨.refl s, rfl, rfl⟩

/-- R98: an arrival finds the room that its cluster has. -/
theorem State.credit_canTake {s u : State} {k : Nat} {l : List Transfer} (here : u.clu k = { s.clu k with inbound := l }) (r : Req)
    (n : Nat) : ((u.credit r).clu k).canTake n = ((if 2 ≤ r.hops then s.freeCredit r else s).clu k).canTake n := by
  unfold State.credit
  split
  · rw [State.freeCredit_clu, State.freeCredit_clu, here, ClusterSt.credited_canTake]
  · rw [here]
    rfl

/-- R116: the counters of arrivals are no other registers. -/
theorem stolenReg_apart (k : Nat) (r : Req) : stolenReg k r ≠ Reg.CEL_DEPTH_MAX k := by
  unfold stolenReg Reg.CEL_STOLEN_IN1 Reg.CEL_STOLEN_IN2 Reg.CEL_DEPTH_MAX
  split <;> omega

theorem dropRetire_apart (k : Nat) : Reg.CEL_DROP_RETIRE k ≠ Reg.FLT_RETIRED_PKE := by
  unfold Reg.CEL_DROP_RETIRE Reg.FLT_RETIRED_PKE
  omega

theorem evKey_dropRetire (k : Nat) : evKey (Reg.CEL_DROP_RETIRE k) = false := evKey_block (b := 0x0900048) (by decide) k

/-- R116, R117: an entry arrives at its cluster. -/
theorem stealArrive_does (k : Fin 32) (ecc : Bool) (s : State) : Does (.stealArrive k ecc) s fun t => match (s.clu k.val).inbound with
     | [] => t = s
     | x :: l => (t.clu k.val).inbound = l ∧ t.time.now = max s.time.now x.at_ ∧
       if ecc = false then (t.clu k.val).queue = (s.clu k.val).queue ∧
         (x.giver < 32 → t.rd (Reg.CEL_DROP_RETIRE x.giver) = satAdd (s.rd (Reg.CEL_DROP_RETIRE x.giver)) 1)
       else if (s.clu k.val).retired = true then (t.clu k.val).queue = (s.clu k.val).queue ∧
         t.rd (Reg.CEL_DROP_RETIRE k.val) = satAdd (s.rd (Reg.CEL_DROP_RETIRE k.val)) 1
       else if ((if 2 ≤ x.req.hops then s.freeCredit x.req else s).clu k.val).canTake x.req.slots = true then
         (∃ r : Req, r.id = x.req.id ∧ r.frame = x.req.frame ∧ r.v1 = x.req.v1 ∧ (t.clu k.val).queue = (s.clu k.val).queue ++ [r]) ∧
         let a := if x.req.hops ≤ 1 then Reg.CEL_STOLEN_IN1 k.val else Reg.CEL_STOLEN_IN2 k.val
         t.rd a = satAdd (s.rd a) 1
       else (t.clu k.val).queue = (s.clu k.val).queue ∧
         let a := if 256 ≤ (s.clu k.val).queue.length then Reg.CEL_DROP_QFULL k.val else Reg.CEL_DROP_FSTORE k.val
         t.rd a = satAdd (s.rd a) 1 := by
  cases first : (s.clu k.val).inbound with
  | nil => exact ⟨s, execStealArrive_idle first, rfl⟩
  | cons x l =>
    obtain ⟨u, hu⟩ : ∃ u, u = s.arrival k.val x l := ⟨_, rfl⟩
    obtain ⟨w, hw⟩ : ∃ w, w = u.credit x.req := ⟨_, rfl⟩
    have runs := execStealArrive_first (ecc := ecc) first hu hw
    obtain ⟨-, here, live⟩ := s.arrival_spec k.val x l
    have lands (t : State) (kept : QueueKept u t) (time : t.time = u.time) : (t.clu k.val).inbound = l ∧
        t.time.now = max s.time.now x.at_ ∧ (t.clu k.val).queue = (s.clu k.val).queue := by
      subst hu
      exact State.arrival_kept kept time
    rw [← hu] at here live
    have freed := u.freeCredit_kept x.req
    obtain ⟨freedLive, freedTime⟩ := u.freeCredit_parts x.req
    have bumped (t : State) (a : Nat) : QueueKept t (t.bump a) := .of_clus (t.bump_clus a 1)
    cases ecc with
    | false =>
      obtain ⟨kept, time, regs⟩ := State.linkFault_spec ((u.freeCredit x.req).bump (Reg.CEL_DROP_RETIRE x.giver)) k.val
        ((neighbours k.val).idxOf x.giver)
      obtain ⟨inbound, now, queue⟩ := lands _ ((freed.trans (bumped ..)).trans kept) (time.trans freedTime)
      refine ⟨_, runs, inbound, now, queue, fun _ => ?_⟩
      rw [regs _ (dropRetire_apart _) (evKey_dropRetire _), State.bump_rd_same, State.rd_congr (freedLive.trans live)]
    | true =>
      have sound : ¬ true = false := by decide
      rw [if_neg (by decide)] at runs
      by_cases gone : (s.clu k.val).retired = true
      · rw [if_pos (by rw [here]; exact gone)] at runs
        obtain ⟨inbound, now, queue⟩ := lands _ (freed.trans (bumped ..)) freedTime
        refine ⟨_, runs, inbound, now, ?_⟩
        rw [if_neg sound, if_pos gone, State.bump_rd_same, State.rd_congr (freedLive.trans live)]
        exact ⟨queue, rfl⟩
      · rw [if_neg (by rw [here]; exact gone)] at runs
        obtain ⟨kept, time, regs⟩ := u.credit_spec x.req
        obtain ⟨id, frame, v1, slots, hops⟩ := x.req.landed_spec
        have found := State.credit_canTake here x.req x.req.slots
        rw [← hw] at kept time regs found
        rw [slots, found] at runs
        by_cases room : ((if 2 ≤ x.req.hops then s.freeCredit x.req else s).clu k.val).canTake x.req.slots = true
        · rw [room, if_neg (by decide)] at runs
          obtain ⟨inbound, now, queue⟩ := lands w kept time
          obtain ⟨pl, tail⟩ := (State.enqueue_joined ((w.bump (stolenReg k.val x.req.landed)).flow 4) k.val x.req.landed true).tail
          rw [State.clu_flow, State.clu_bump, queue] at tail
          refine ⟨_, runs, ?_, ?_, ?_⟩
          · rw [State.enqueue_inbound, State.clu_flow, State.clu_bump, inbound]
          · rw [State.enqueue_time, State.flow_time, State.bump_time, now]
          · rw [if_neg sound, if_neg gone, if_pos room]
            refine ⟨⟨{ x.req.landed with places := pl }, id, frame, v1, tail⟩, ?_⟩
            dsimp only
            rw [← hops, ← stolenReg, State.enqueue_rd _ _ _ (stolenReg_apart k.val _), State.rd_flow, State.bump_rd_same,
              State.rd_congr (regs.trans live)]
        · rw [if_pos (by simpa using room)] at runs
          obtain ⟨again, againTime⟩ := w.freeCredit_parts x.req.landed
          obtain ⟨-, -, depth⟩ := lands _ (kept.trans (w.freeCredit_kept x.req.landed)) (againTime.trans time)
          obtain ⟨inbound, now, queue⟩ := lands _ ((kept.trans (w.freeCredit_kept x.req.landed)).trans (State.dropFull_kept k.val _))
            ((State.dropFull_time ..).trans (againTime.trans time))
          refine ⟨_, runs, inbound, now, ?_⟩
          rw [if_neg sound, if_neg gone, if_neg room]
          have counted := (w.freeCredit x.req.landed).dropFull_counts k.val
          rw [ClusterSt.fullReg, depth, State.rd_congr ((again.trans regs).trans live)] at counted
          exact ⟨queue, counted⟩

end Sys2Proof.Machine
end

section
/-!
PROOFS. Hot clusters, and the entry of ports into spray mode and their exit (R119, R120, R122).
-/

namespace Sys2Proof.Machine

/-! ### A bit of a set of ports -/

/-- A bit that is clear is added alone. -/
theorem testBit_add_two_pow {a n : Nat} (clear : a.testBit n = false) (m : Nat) :
    (a + 2 ^ n).testBit m = (a.testBit m || decide (n = m)) := by
  induction n generalizing a m with
  | zero =>
    rw [Nat.testBit_zero, decide_eq_false_iff_not] at clear
    cases m with
    | zero => simp; omega
    | succ m => simp [Nat.testBit_add_one, show (a + 1) / 2 = a / 2 by omega]
  | succ n ih =>
    rw [Nat.testBit_add_one] at clear
    rw [Nat.pow_succ]
    cases m with
    | zero => simp
    | succ m => simp [Nat.testBit_add_one, show (a + 2 ^ n * 2) / 2 = a / 2 + 2 ^ n by omega, ih clear]

/-- A bit that is set is taken away alone. -/
theorem testBit_sub_two_pow {a n : Nat} (set : a.testBit n = true) (m : Nat) :
    (a - 2 ^ n).testBit m = (a.testBit m && decide (n ≠ m)) := by
  induction n generalizing a m with
  | zero =>
    rw [Nat.testBit_zero, decide_eq_true_eq] at set
    cases m with
    | zero => simp; omega
    | succ m => simp [Nat.testBit_add_one, show (a - 1) / 2 = a / 2 by omega]
  | succ n ih =>
    rw [Nat.testBit_add_one] at set
    have most := Nat.ge_two_pow_of_testBit set
    rw [Nat.pow_succ]
    cases m with
    | zero => simp; omega
    | succ m => simp [Nat.testBit_add_one, show (a - 2 ^ n * 2) / 2 = a / 2 - 2 ^ n by omega, ih set]

/-! ### What spray mode leaves -/

/-- From `s` to `t` ports enter or leave spray mode: the clusters, the active set and the time stay, and the events that stand do. -/
structure SprayWork (s t : State) : Prop where
  clus : t.clus = s.clus
  active : t.active = s.active
  time : t.time = s.time
  lastHot : t.cls.lastHot = s.cls.lastHot
  events : KeepsEvents s t

section
variable {s t u : State}

theorem SprayWork.refl (s : State) : SprayWork s s := ⟨rfl, rfl, rfl, rfl, .refl s⟩

theorem SprayWork.trans (h : SprayWork s t) (k : SprayWork t u) : SprayWork s u :=
  ⟨k.clus.trans h.clus, k.active.trans h.active, k.time.trans h.time, k.lastHot.trans h.lastHot, h.events.trans k.events⟩

theorem SprayWork.foldl {α : Type} {f : State → α → State} (step : ∀ t a, SprayWork t (f t a)) (l : List α) (s : State) :
    SprayWork s (l.foldl f s) := by
  induction l generalizing s with
  | nil => exact .refl s
  | cons a l ih => exact (step s a).trans (ih _)

end

/-! ### Ports that enter -/

section
variable (s : State)

theorem State.sprayEnter_work (n : Nat) : SprayWork s (s.sprayEnter n) := by
  unfold State.sprayEnter
  split
  · exact .refl s
  · have counted (t : State) (h : t.live = s.live) : KeepsEvents s ((t.bump Reg.CLS_SPRAY_ENTRIES).raise 129) :=
      ((KeepsEvents.of_live h).wr _ (by decide : evKey Reg.CLS_SPRAY_ENTRIES = false)).raise (by decide)
    refine ⟨?_, ?_, ?_, ?_, counted _ rfl⟩ <;> simp

/-- R120: a port that enters is in spray mode. -/
theorem State.sprayEnter_auto (n m : Nat) :
    (s.sprayEnter n).cls.sprayAuto.testBit m = (s.cls.sprayAuto.testBit m || decide (n = m)) := by
  unfold State.sprayEnter
  split
  · next on =>
    by_cases e : n = m
    · rw [← e, on, Bool.true_or]
    · simp [e]
  · next off =>
    simp [testBit_add_two_pow (Bool.not_eq_true _ ▸ off)]

/-- R120: of ports that enter, each is in spray mode. -/
theorem State.sprayEnters_auto (l : List Nat) (m : Nat) :
    (l.foldl State.sprayEnter s).cls.sprayAuto.testBit m = (s.cls.sprayAuto.testBit m || decide (m ∈ l)) := by
  induction l generalizing s with
  | nil => simp
  | cons n l ih =>
    rw [List.foldl_cons, ih, State.sprayEnter_auto, Bool.or_assoc]
    congr 1
    simp [eq_comm, Bool.decide_or]

end

/-- R120: the ports that feed cluster `k` with the share that takes them into spray mode. -/
def State.feeds (s : State) (k : Nat) : List Nat :=
  (List.range 8).filter (fun n =>
    decide (0 < tget (fun _ => 0) (s.clu k).enq n) &&
      decide (((s.clu k).enq.map (·.2)).sum ≤ tget (fun _ => 0) (s.clu k).enq n * 2 ^ fld (s.ac Reg.CLS_SPRAY_SHARE) 0 4))

/-- R119: cluster `k` is HOT from tick `a` on. -/
def State.tripped (s : State) (k a : Nat) : State :=
  let s := (s.advTo a).updClu k (fun cl => { cl with hot := true })
  ({ s with cls := { s.cls with lastHot := k } } : State).raise 128

/-- R120: with SPRAY_AUTO the ports that feed cluster `k` enter spray mode at the next CCLK edge. -/
def State.sprayFeeds (s : State) (k : Nat) : State :=
  if bitAt (s.ac Reg.CLS_CTRL) 1 && s.feeds k ≠ [] then (s.feeds k).foldl State.sprayEnter (s.advTo s.cclkNext) else s

section
variable {k : Fin 32} {s : State}

theorem execHotTrip_quiet (none : (s.clu k.val).dwellFrom = none) : exec (.hotTrip k) s = .next s := by
  change execHotTrip k s = _
  rw [execHotTrip, none]

theorem execHotTrip_dwell {a : Nat} (dwells : (s.clu k.val).dwellFrom = some a) : exec (.hotTrip k) s =
    if (s.clu k.val).hot then .next s
    else .next ((s.tripped k.val
      (cclkCeil (max s.time.now (a + usTicks * fld (s.ac Reg.CLS_HOT_TRIP) 16 16)))).sprayFeeds k.val) := by
  change execHotTrip k s = _
  rw [execHotTrip, dwells]
  rfl

end

theorem State.tripped_spec (s : State) (k a : Nat) : (s.tripped k a).clu k = { s.clu k with hot := true } ∧
    (s.tripped k a).active = s.active ∧ (s.tripped k a).time.now = max s.time.now a ∧
    (s.tripped k a).cls = { s.cls with lastHot := k } ∧ (s.tripped k a).evSet 128 = true := by
  refine ⟨?_, ?_, ?_, ?_, State.raise_evSet _ _ (by decide)⟩
  · rw [State.tripped, State.clu_raise]
    change ((s.advTo a).updClu k (fun cl => { cl with hot := true })).clu k = _
    rw [State.clu_updClu_same, State.clu_advTo]
  · simp [State.tripped]
  · simp [State.tripped, s.advTo_now]
  · simp [State.tripped]

/-- R120: only ports with the share enter, and they all do. -/
theorem State.sprayFeeds_spec (s : State) (k : Nat) : (s.sprayFeeds k).clus = s.clus ∧
    (s.sprayFeeds k).cls.lastHot = s.cls.lastHot ∧ s.time.now ≤ (s.sprayFeeds k).time.now ∧ KeepsEvents s (s.sprayFeeds k) ∧
    ∀ m, (s.sprayFeeds k).cls.sprayAuto.testBit m = (s.cls.sprayAuto.testBit m || (bitAt (s.ac Reg.CLS_CTRL) 1 && decide (m ∈ s.feeds k))) := by
  unfold State.sprayFeeds
  split
  · next enter =>
    obtain ⟨auto, -⟩ := Bool.and_eq_true_iff.mp enter
    have work := SprayWork.foldl State.sprayEnter_work (s.feeds k) (s.advTo s.cclkNext)
    refine ⟨by rw [work.clus, State.advTo_clus], by rw [work.lastHot, State.advTo_cls], by rw [work.time]; exact s.le_advTo _,
      .trans (.of_live (s.advTo_live _)) work.events, fun m => ?_⟩
    rw [State.sprayEnters_auto, State.advTo_cls, auto, Bool.true_and]
  · next stay =>
    refine ⟨rfl, rfl, le_rfl, .refl s, fun m => ?_⟩
    cases auto : bitAt (s.ac Reg.CLS_CTRL) 1 with
    | false => simp
    | true =>
      have none : s.feeds k = [] := by simpa [auto] using stay
      simp [none]

/-- R119, R120: the dwell of a cluster reaches TRIP_TIME. -/
theorem hotTrip_does (k : Fin 32) (s : State) : Does (.hotTrip k) s fun t => match (s.clu k.val).dwellFrom with
     | none => t = s
     | some a => if (s.clu k.val).hot = true then t = s
       else (t.clu k.val).hot = true ∧ t.cls.lastHot = k.val ∧ t.evSet 128 = true ∧
         a + usTicks * fld (s.ac Reg.CLS_HOT_TRIP) 16 16 ≤ t.time.now ∧
         ∀ n : Fin 8, t.cls.sprayAuto.testBit n.val = true ↔ s.cls.sprayAuto.testBit n.val = true ∨
           (bitAt (s.ac Reg.CLS_CTRL) 1 = true ∧ 0 < tget (fun _ => 0) (s.clu k.val).enq n.val ∧
             ((s.clu k.val).enq.map (·.2)).sum ≤ tget (fun _ => 0) (s.clu k.val).enq n.val * 2 ^ fld (s.ac Reg.CLS_SPRAY_SHARE) 0 4) := by
  cases dwells : (s.clu k.val).dwellFrom with
  | none => exact ⟨s, execHotTrip_quiet dwells, rfl⟩
  | some a =>
    have runs := execHotTrip_dwell dwells
    by_cases hot : (s.clu k.val).hot = true
    · rw [if_pos hot] at runs
      refine ⟨s, runs, ?_⟩
      dsimp only
      rw [if_pos hot]
    · rw [if_neg hot] at runs
      obtain ⟨b, hb⟩ : ∃ b, b = cclkCeil (max s.time.now (a + usTicks * fld (s.ac Reg.CLS_HOT_TRIP) 16 16)) := ⟨_, rfl⟩
      rw [← hb] at runs
      obtain ⟨here, active, now, cls, event⟩ := s.tripped_spec k.val b
      obtain ⟨clus, lastHot, later, events, auto⟩ := (s.tripped k.val b).sprayFeeds_spec k.val
      refine ⟨_, runs, ?_⟩
      dsimp only
      rw [if_neg hot]
      refine ⟨?_, ?_, events 128 (by decide) event, ?_, fun n => ?_⟩
      · rw [State.clu_congr clus, here]
      · rw [lastHot, cls]
      · have due : a + usTicks * fld (s.ac Reg.CLS_HOT_TRIP) 16 16 ≤ b := hb ▸ (le_max_right ..).trans (le_cclkCeil _)
        exact due.trans ((le_max_right ..).trans (now.ge.trans later))
      · have ac (r : Nat) : (s.tripped k.val b).ac r = s.ac r := congrArg (tget rwsDef · r) active
        rw [auto, cls, State.feeds, here, ac, ac]
        simp [n.isLt]

/-! ### Ports that leave -/

section
variable (exitTime : Nat) (loud : Bool) (start : Nat)

/-- R122: the quiet intervals of port `n` at the end of one more. -/
def State.quietTo (s : State) (n : Nat) : Nat := if loud then 0 else tget (fun _ => 0) s.cls.quiet n + 1

/-- R122: port `n` entered spray mode automatically before the interval, and its quiet intervals are over. -/
def State.exits (s : State) (n : Nat) : Bool :=
  s.cls.sprayAuto.testBit n && decide (tget (fun _ => 0) s.cls.sprayFrom n < start) && decide (exitTime ≤ s.quietTo loud n)

variable {exitTime loud start} in
theorem State.exits_congr {s t : State} {n : Nat} (auto : t.cls.sprayAuto.testBit n = s.cls.sprayAuto.testBit n)
    (entered : t.cls.sprayFrom = s.cls.sprayFrom) (quiet : tget (fun _ => 0) t.cls.quiet n = tget (fun _ => 0) s.cls.quiet n) :
    t.exits exitTime loud start n = s.exits exitTime loud start n := by
  have intervals : t.quietTo loud n = s.quietTo loud n := by rw [State.quietTo, State.quietTo, quiet]
  rw [State.exits, State.exits, auto, entered, intervals]

/-- R122: the end of an interval for port `n`. -/
def State.sprayExit (s : State) (n : Nat) : State :=
  if !s.cls.sprayAuto.testBit n || start ≤ tget (fun _ => 0) s.cls.sprayFrom n then s
  else if exitTime ≤ s.quietTo loud n then
    ({ s with cls := { s.cls with sprayAuto := s.cls.sprayAuto - 2 ^ n } } : State).raise 130
  else { s with cls := { s.cls with quiet := tset (fun _ => 0) s.cls.quiet n (s.quietTo loud n) } }

/-- What the end of an interval for port `m` changes: `m` leaves spray mode with EV130, and every other port stays as it is. -/
structure ExitStep (m : Nat) (s t : State) : Prop where
  work : SprayWork s t
  auto : ∀ n, t.cls.sprayAuto.testBit n = (s.cls.sprayAuto.testBit n && !(decide (m = n) && s.exits exitTime loud start n))
  others : ∀ n, m ≠ n → t.exits exitTime loud start n = s.exits exitTime loud start n
  event : s.exits exitTime loud start m = true → t.evSet 130 = true

variable {exitTime loud start} in
/-- A port that stays in spray mode, or was not in it. -/
theorem ExitStep.of_stays {s t : State} {m : Nat} (stays : s.exits exitTime loud start m = false) (work : SprayWork s t)
    (auto : t.cls.sprayAuto = s.cls.sprayAuto) (others : ∀ n, m ≠ n → t.exits exitTime loud start n = s.exits exitTime loud start n) :
    ExitStep exitTime loud start m s t := by
  refine ⟨work, fun n => ?_, others, fun leaves => absurd (stays.symm.trans leaves) (by decide)⟩
  rw [auto]
  by_cases e : m = n
  · rw [← e, stays, Bool.and_false, Bool.not_false, Bool.and_true]
  · rw [decide_eq_false e, Bool.false_and, Bool.not_false, Bool.and_true]

theorem State.sprayExit_step (s : State) (m : Nat) : ExitStep exitTime loud start m s (s.sprayExit exitTime loud start m) := by
  unfold State.sprayExit
  split
  · next out =>
    refine .of_stays ?_ (.refl s) rfl fun _ _ => rfl
    simp only [Bool.or_eq_true, Bool.not_eq_true', decide_eq_true_eq] at out
    rcases out with off | late
    · simp [State.exits, off]
    · simp [State.exits, Nat.not_lt.mpr late]
  · next sprays =>
    obtain ⟨auto, entered⟩ : s.cls.sprayAuto.testBit m = true ∧ tget (fun _ => 0) s.cls.sprayFrom m < start := by simpa using sprays
    split
    · next quiet =>
      have leaves : s.exits exitTime loud start m = true := by simp [State.exits, auto, entered, quiet]
      have bit (n : Nat) := testBit_sub_two_pow auto n
      have raised (t : State) (h : t.live = s.live) : KeepsEvents s (t.raise 130) := (KeepsEvents.of_live h).raise (by decide)
      refine ⟨⟨?_, ?_, ?_, ?_, raised _ rfl⟩, fun n => ?_, fun n ne => ?_, fun _ => State.raise_evSet _ _ (by decide)⟩
      iterate 4 simp
      · rw [State.raise_cls, bit]
        by_cases e : m = n
        · simp [← e, leaves]
        · simp [e]
      · exact State.exits_congr (by rw [State.raise_cls, bit, decide_eq_true ne, Bool.and_true]) (by rw [State.raise_cls])
          (by rw [State.raise_cls])
    · next short =>
      refine .of_stays (by simp [State.exits, short]) ⟨rfl, rfl, rfl, rfl, .of_live rfl⟩ rfl fun n ne => ?_
      exact State.exits_congr rfl rfl (tget_tset_ne _ _ _ (Ne.symm ne))

/-- R122: at the end of an interval each port whose quiet intervals are over leaves spray mode, with EV130. -/
theorem State.sprayExits_spec (s : State) {l : List Nat} (distinct : l.Nodup) :
    let t := l.foldl (State.sprayExit exitTime loud start) s
    SprayWork s t ∧ ∀ n ∈ l, t.cls.sprayAuto.testBit n = (s.cls.sprayAuto.testBit n && !s.exits exitTime loud start n) ∧
      (s.exits exitTime loud start n = true → t.evSet 130 = true) := by
  suffices each : ∀ (s : State), let t := l.foldl (State.sprayExit exitTime loud start) s
      SprayWork s t ∧ ∀ n, t.cls.sprayAuto.testBit n = (s.cls.sprayAuto.testBit n && !(decide (n ∈ l) && s.exits exitTime loud start n)) ∧
        (n ∈ l → s.exits exitTime loud start n = true → t.evSet 130 = true) by
    obtain ⟨work, ports⟩ := each s
    refine ⟨work, fun n listed => ?_⟩
    obtain ⟨auto, event⟩ := ports n
    rw [decide_eq_true listed, Bool.true_and] at auto
    exact ⟨auto, event listed⟩
  clear s
  induction l with
  | nil => exact fun s => ⟨.refl s, fun n => ⟨by simp, nofun⟩⟩
  | cons m l ih =>
    intro s
    obtain ⟨fresh, rest⟩ := List.nodup_cons.mp distinct
    have step := s.sprayExit_step exitTime loud start m
    obtain ⟨work, ports⟩ := ih rest (s.sprayExit exitTime loud start m)
    refine ⟨step.work.trans work, fun n => ?_⟩
    obtain ⟨auto, event⟩ := ports n
    rw [List.foldl_cons, auto, step.auto]
    by_cases e : m = n
    · subst e
      simp only [fresh, decide_false, Bool.false_and, Bool.not_false, Bool.and_true, decide_true, Bool.true_and, List.mem_cons_self]
      exact ⟨trivial, fun _ leaves => work.events 130 (by decide) (step.event leaves)⟩
    · simp only [e, decide_false, Bool.false_and, Bool.not_false, Bool.and_true, step.others n e, List.mem_cons, Ne.symm e, false_or]
      exact ⟨trivial, fun listed leaves => event listed (step.others n e ▸ leaves)⟩

end

/-- R122: every count of homed requests begins again. -/
def State.unhomed (s : State) : State := (List.range 32).foldl (fun s k => s.updClu k (fun cl => { cl with homed := 0 })) s

theorem State.unhomed_parts (s : State) : s.unhomed.cls = s.cls ∧ s.unhomed.time = s.time ∧ s.unhomed.live = s.live := by
  have work : Touch 65536 s s.unhomed := touch_foldl _ s s (fun t k => State.updClu_touch rfl t k _ (.refl ..)) (.refl ..)
  exact ⟨work.same .cls rfl, work.same .time rfl, work.same .live rfl⟩

theorem State.unhomed_homed (s : State) {k : Nat} (hk : k < 32) : (s.unhomed.clu k).homed = 0 := by
  have each (l : List Nat) : ∀ s : State, k ∈ l ∨ (s.clu k).homed = 0 →
      ((l.foldl (fun s k => s.updClu k (fun cl => { cl with homed := 0 })) s).clu k).homed = 0 := by
    induction l with
    | nil => exact fun s h => h.resolve_left nofun
    | cons i l ih =>
      intro s h
      refine ih _ ?_
      by_cases e : k = i
      · exact .inr (by rw [e, State.clu_updClu_same])
      · rw [State.clu_updClu_ne _ _ e]
        exact h.imp_left fun listed => (List.mem_cons.mp listed).resolve_left e
  exact each _ s (.inl (List.mem_range.mpr hk))

theorem execSprayIntervalEnd_eq {s v : State} {i : Nat} (hi : i = (s.time.now / cclkTicks - s.cls.loadAt / cclkTicks) / 10000)
    (hv : v = s.advTo (s.cls.loadAt + (i + 1) * 10000 * cclkTicks)) : exec .sprayIntervalEnd s = .next ((List.range 8).foldl
      (State.sprayExit (fld (v.ac Reg.CLS_SPRAY_EXIT) 16 16)
        ((List.range 32).any (fun k => decide (fld (v.ac Reg.CLS_SPRAY_EXIT) 0 16 < (v.clu k).homed)))
        ((s.cls.loadAt + i * 10000 * cclkTicks) / cclkTicks)) v).unhomed := by
  subst hv hi
  rfl

/-- R122: an interval ends. -/
theorem sprayIntervalEnd_does (s : State) (i : Nat) (hi : i = (s.time.now / cclkTicks - s.cls.loadAt / cclkTicks) / 10000) :
    Does .sprayIntervalEnd s fun t =>
     (∀ k : Fin 32, (t.clu k.val).homed = 0) ∧ t.time.now = max s.time.now (s.cls.loadAt + (i + 1) * 10000 * cclkTicks) ∧
     ∀ (n : Fin 8) (leaves : Prop), (leaves ↔ s.cls.sprayAuto.testBit n.val = true ∧
         tget (fun _ => 0) s.cls.sprayFrom n.val < (s.cls.loadAt + i * 10000 * cclkTicks) / cclkTicks ∧
         fld (s.ac Reg.CLS_SPRAY_EXIT) 16 16 ≤
           (if ∃ k : Fin 32, fld (s.ac Reg.CLS_SPRAY_EXIT) 0 16 < (s.clu k.val).homed then 0 else tget (fun _ => 0) s.cls.quiet n.val + 1)) →
       (t.cls.sprayAuto.testBit n.val = true ↔ s.cls.sprayAuto.testBit n.val = true ∧ ¬ leaves) ∧ (leaves → t.evSet 130 = true) := by
  obtain ⟨v, hv⟩ : ∃ v, v = s.advTo (s.cls.loadAt + (i + 1) * 10000 * cclkTicks) := ⟨_, rfl⟩
  have runs := execSprayIntervalEnd_eq hi hv
  have now : v.time.now = max s.time.now (s.cls.loadAt + (i + 1) * 10000 * cclkTicks) := hv ▸ s.advTo_now _
  have cls : v.cls = s.cls := hv ▸ s.advTo_cls _
  have ac (r : Nat) : v.ac r = s.ac r := hv ▸ s.ac_advTo ..
  have clu (k : Nat) : v.clu k = s.clu k := hv ▸ s.clu_advTo ..
  simp only [ac, clu] at runs
  obtain ⟨loud, hl⟩ : ∃ b, b = (List.range 32).any (fun k => decide (fld (s.ac Reg.CLS_SPRAY_EXIT) 0 16 < (s.clu k).homed)) := ⟨_, rfl⟩
  have isLoud : loud = true ↔ ∃ k : Fin 32, fld (s.ac Reg.CLS_SPRAY_EXIT) 0 16 < (s.clu k.val).homed := by
    simp only [hl, List.any_eq_true, List.mem_range, decide_eq_true_eq, Fin.exists_iff, exists_prop]
  rw [← hl] at runs
  generalize (s.cls.loadAt + i * 10000 * cclkTicks) / cclkTicks = start at runs ⊢
  obtain ⟨work, ports⟩ := v.sprayExits_spec (fld (s.ac Reg.CLS_SPRAY_EXIT) 16 16) loud start (List.nodup_range (n := 8))
  generalize (List.range 8).foldl (State.sprayExit (fld (s.ac Reg.CLS_SPRAY_EXIT) 16 16) loud start) v = w at runs work ports
  obtain ⟨sameCls, sameTime, sameLive⟩ := w.unhomed_parts
  refine ⟨_, runs, fun k => w.unhomed_homed k.isLt, by rw [sameTime, work.time, now], fun n leaves meaning => ?_⟩
  obtain ⟨auto, event⟩ := ports n.val (List.mem_range.mpr n.isLt)
  have exits : v.exits (fld (s.ac Reg.CLS_SPRAY_EXIT) 16 16) loud start n.val = true ↔ leaves := by
    rw [meaning, State.exits, State.quietTo, cls]
    simp only [← isLoud, Bool.and_eq_true, decide_eq_true_eq, and_assoc]
  rw [sameCls, auto, cls, ← exits, State.evSet_congr sameLive]
  exact ⟨by simp, event⟩

/-- Settles O24: what a neighbour gives is found by induction on the entries it looks at, the arrival by the cases of its transfer,
its cluster and the room there, and the ports in spray mode bit by bit. -/
theorem balancing : Obligations.Balancing :=
  ⟨stealRequest_does, stealArrive_does, hotTrip_does, sprayIntervalEnd_does⟩

end Sys2Proof.Machine
end

section
/-!
PROOFS. Reseeds, the sweep of the old epoch, and the window on the client-state table (R95, R96, R127).
-/

namespace Sys2Proof.Machine

/-! ### Entries that a choice of a table leaves -/

section
variable {α : Type} {d : Nat → Option α} (unlisted : ∀ i, d i = none) {f : Nat × Option α → Bool} {i : Nat} {e : α}
include unlisted

/-- What is read of a table that lists entries by choice was chosen. -/
theorem mem_of_tget_filter {t : Tab (Option α)} (found : tget d (t.filter f) i = some e) : (i, some e) ∈ t ∧ f (i, some e) = true := by
  suffices listed : ∀ u : Tab (Option α), tget d u i = some e → (i, some e) ∈ u from List.mem_filter.mp (listed _ found)
  intro u
  induction u with
  | nil => exact fun h => absurd ((unlisted i).symm.trans h) nofun
  | cons p u ih =>
    intro h
    rw [tget] at h
    split at h
    · next at_ => exact List.mem_cons.mpr (.inl (Prod.ext at_.symm h.symm))
    · exact List.mem_cons_of_mem _ (ih h)

omit unlisted in
/-- In the canonical form an index is listed once, so that what is listed there is what is read. -/
theorem tget_of_mem {t : Tab (Option α)} (rising : tsorted t = true) (listed : (i, some e) ∈ t) : tget d t i = some e := by
  rw [tsorted_iff] at rising
  induction t with
  | nil => cases listed
  | cons p t ih =>
    obtain ⟨above, rest⟩ := List.pairwise_cons.mp rising
    rw [tget]
    rcases List.mem_cons.mp listed with rfl | later
    · exact if_pos rfl
    · rw [if_neg (Nat.ne_of_lt (above _ later)), ih rest later]

end

/-! ### The commands -/

/-- R95: CLS_RESEED.REQ marks a reseed as pending. -/
theorem reseedRequest_does (s : State) :
    Does .reseedRequest s fun t => t = { s with cls := { s.cls with req := true, pending := true } } := ⟨_, rfl, rfl⟩

/-- R96: the sweep starts. -/
theorem epochSweepStart_does (s : State) : Does .epochSweepStart s fun t =>
    if s.cls.oldValid = true then
      t.cls = { s.cls with oldValid := false, sweeping := true } ∧ t.clt = s.clt ∧
      t.time.now = max s.time.now (s.cls.reseedAt + 64 * usTicks)
    else t = s := by
  cases old : s.cls.oldValid with
  | false => exact ⟨s, by simp [exec, execEpochSweepStart, old], by simp⟩
  | true =>
    refine ⟨_, if_neg (by simp [old]), ?_⟩
    simp [s.advTo_now]

/-- R96: the table after the sweep of a state. -/
def State.swept (s : State) : State :=
  { s with
    cls := { s.cls with sweeping := false }
    clt := { s.clt with entries := s.clt.entries.filter (fun p => match p.2 with
      | some e => e.epoch == decide (s.cls.epoch % 2 = 1)
      | none => false) } }

/-- R96: no entry of another epoch is left. -/
theorem State.swept_epoch (s : State) {i : Nat} {e : CltEntry} (found : s.swept.cltEntry i = some e) :
    e.epoch = decide (s.cls.epoch % 2 = 1) := by
  obtain ⟨-, chosen⟩ := mem_of_tget_filter (fun _ => rfl) found
  exact beq_iff_eq.mp chosen

/-- R95: what a reseed changes. -/
theorem State.reseed_spec (s : State) (t : Nat) : (s.reseed t).clt = s.clt ∧ (s.reseed t).time = s.time ∧
    (s.reseed t).draws = s.draws + 1 ∧ (s.reseed t).evSet 135 = true ∧ (s.reseed t).cls.epoch = s.cls.epoch + 1 ∧
    (s.reseed t).cls.oldSeed = s.cls.seed ∧ (s.reseed t).cls.pending = s.cls.req ∧ (s.reseed t).cls.deferred = false ∧
    (s.reseed t).cls.sweeping = false := by
  unfold State.reseed
  simp [State.draw, State.raise_evSet]

theorem execEpochSweepDone_sweeping {s u : State} (sweeps : s.cls.sweeping = true)
    (hu : u = (s.advTo (s.cls.reseedAt + 64 * usTicks + 8191 * cclkTicks)).swept) :
    exec .epochSweepDone s = .next (if s.cls.deferred then
      (u.advTo u.cclkNext).reseed (ceilDiv (u.advTo u.cclkNext).nowG 1000) else u) := by
  subst hu
  change execEpochSweepDone s = _
  simp [execEpochSweepDone, sweeps, State.swept]
  split <;> rfl

/-- R96: the sweep ends, and a deferred reseed applies. -/
theorem epochSweepDone_does (s : State) : Does .epochSweepDone s fun t =>
    if s.cls.sweeping = true then
      t.cls.sweeping = false ∧ (∀ i e, t.cltEntry i = some e → e.epoch = decide (s.cls.epoch % 2 = 1)) ∧
      max s.time.now (s.cls.reseedAt + 64 * usTicks + 8191 * cclkTicks) ≤ t.time.now ∧
      if s.cls.deferred = true then
        t.cls.epoch = s.cls.epoch + 1 ∧ t.cls.oldSeed = s.cls.seed ∧ t.draws = s.draws + 1 ∧ t.evSet 135 = true ∧
        t.cls.pending = s.cls.req ∧ t.cls.deferred = false
      else t.cls = { s.cls with sweeping := false }
    else t = s := by
  cases sweeps : s.cls.sweeping with
  | false => exact ⟨s, by simp [exec, execEpochSweepDone, sweeps], by simp⟩
  | true =>
    obtain ⟨v, hv⟩ : ∃ v, v = s.advTo (s.cls.reseedAt + 64 * usTicks + 8191 * cclkTicks) := ⟨_, rfl⟩
    have cls : v.cls = s.cls := by rw [hv, State.advTo_cls]
    have now : v.time.now = max s.time.now (s.cls.reseedAt + 64 * usTicks + 8191 * cclkTicks) := by rw [hv, State.advTo_now]
    have swept (t : State) (same : t.clt = v.swept.clt) (i : Nat) (e : CltEntry) (found : t.cltEntry i = some e) :
        e.epoch = decide (s.cls.epoch % 2 = 1) := by
      rw [← cls]
      exact v.swept_epoch (by rwa [State.cltEntry, ← same])
    have runs := execEpochSweepDone_sweeping sweeps (congrArg State.swept hv)
    cases later : s.cls.deferred with
    | false =>
      rw [later] at runs
      refine ⟨_, runs, ?_⟩
      simp only [↓reduceIte, Bool.false_eq_true]
      exact ⟨rfl, swept _ rfl, now.ge, congrArg (fun c : ClsSt => { c with sweeping := false }) cls⟩
    | true =>
      rw [later] at runs
      refine ⟨_, runs, ?_⟩
      simp only [↓reduceIte]
      obtain ⟨clt, time, draws, event, epoch, seed, pending, deferred, sweeping⟩ :=
        (v.swept.advTo v.swept.cclkNext).reseed_spec (ceilDiv (v.swept.advTo v.swept.cclkNext).nowG 1000)
      rw [State.advTo_cls] at epoch seed pending
      refine ⟨sweeping, swept _ (by rw [clt, State.advTo_clt]), ?_, ?_⟩
      · rw [time, ← now]
        exact v.swept.le_advTo _
      · rw [← cls]
        refine ⟨epoch, seed, ?_, event, pending, deferred⟩
        rw [draws, State.advTo_draws, hv]
        exact congrArg (· + 1) (State.advTo_draws ..)

/-- R127: the window shows the entry that CLT_WIN_IDX names. -/
theorem cltWindowRead_does (s : State) : Does .cltWindowRead s fun t =>
    t = { s with clt := { s.clt with win := t.clt.win, winValid := t.clt.winValid, winAt := s.cclkAfter 1 } } ∧
     match s.cltEntry (fld (s.rd Reg.CLT_WIN_IDX) 0 21) with
     | some e => t.clt.win = wordsOf e.bytes ∧ t.clt.winValid = s.cltValid e
     | none => t.clt.win = List.replicate 8 0 ∧ t.clt.winValid = false := by
  cases found : s.cltEntry (fld (s.rd Reg.CLT_WIN_IDX) 0 21) with
  | some e => exact ⟨_, by simp only [exec, execCltWindowRead, found]; rfl, rfl, rfl, rfl⟩
  | none => exact ⟨_, by simp only [exec, execCltWindowRead, found]; rfl, rfl, rfl, rfl⟩

/-- R127: a flush leaves the entries of the other epoch, in a table whose indices rise, as writes of it keep them (`twf_tset`,
`twf_filter`). -/
theorem cltFlush_does {s : State} (rising : tsorted s.clt.entries = true) : Does .cltFlush s fun t =>
    t = { s with clt := { s.clt with entries := t.clt.entries } } ∧
     ∀ i e, t.cltEntry i = some e → e.epoch ≠ decide (s.cls.epoch % 2 = 1) ∧ s.cltEntry i = some e := by
  refine ⟨_, rfl, rfl, fun i e found => ?_⟩
  obtain ⟨listed, chosen⟩ := mem_of_tget_filter (fun _ => rfl) found
  exact ⟨bne_iff_ne.mp chosen, tget_of_mem rising listed⟩

/-- An entry of an epoch. -/
def entryOf (epoch : Bool) : CltEntry :=
  { addr := 0, rule := 0, epoch := epoch, tokens := 0, kiss := 0, lastKiss := 0, lastSeen := 0, count := 0 }

/-- Refutes O25: the statement speaks of every state, and so of a table that lists an index twice. A flush of such a table takes the
entry of the current epoch, which was read, and shows the one behind it, which was not. The rest of the statement holds
(`reseedRequest_does`, `epochSweepStart_does`, `epochSweepDone_does`, `cltWindowRead_does`), and that clause does of a table in
canonical form (`cltFlush_does`). -/
theorem not_reseedsAndClients : ¬ Obligations.ReseedsAndClients := by
  intro h
  obtain ⟨-, -, -, -, flush⟩ := h
  obtain ⟨t, runs, -, kept⟩ := flush { State.reset with
    clt := { entries := [(0, some (entryOf false)), (0, some (entryOf true))] } }
  obtain rfl : _ = t := Host.Outcome.next.inj runs
  obtain ⟨-, read⟩ := kept 0 (entryOf true) (by decide)
  exact absurd read (by decide)

end Sys2Proof.Machine
end

section
/-!
PROOFS. The emission grid of a port, and the frames that reach its calendar (R133, R134, R140–R143, R145, R146).
-/

namespace Sys2Proof.Machine

/-! ### The emission grid -/

theorem State.gridStepNow_advTo (s : State) (a n : Nat) : (s.advTo a).gridStepNow n = s.gridStepNow n := by
  simp [State.gridStepNow, State.txOffset, State.mode]

/-- R134: what a measurement of residual `r` at `phase` makes of a port, `step` being its grid step and `next` the tick of the next
measurement. -/
def PortSt.measured (p : PortSt) (phase step next r : Nat) (jump : Bool) : PortSt :=
  let good := if 5 * 65536 < r || jump then 0 else min 16 (p.gridGood + 1)
  { p with
    gridPhase := phase, gridStep := step, gridGood := good, gridAt := next
    gridLock := if 20 * 65536 < r || jump then false else p.gridLock || good == 16 }

/-- R134: a port that is not locked locks at the measurement that makes sixteen good ones in a row. -/
theorem PortSt.measured_eq (p : PortSt) (phase step next r : Nat) (jump : Bool) : p.measured phase step next r jump = { p with
    gridPhase := phase, gridStep := step, gridAt := next
    gridGood := if 5 * 65536 < r ∨ jump = true then 0 else min 16 (p.gridGood + 1)
    gridLock := decide (¬ 20 * 65536 < r ∧ jump = false) && (p.gridLock || decide (r ≤ 5 * 65536 ∧ 15 ≤ p.gridGood)) } := by
  have good : (decide (5 * 65536 < r) || jump) = true ↔ 5 * 65536 < r ∨ jump = true := by simp
  have lock : (if 20 * 65536 < r || jump then false
        else p.gridLock || (if 5 * 65536 < r ∨ jump = true then 0 else min 16 (p.gridGood + 1)) == 16) =
      (decide (¬ 20 * 65536 < r ∧ jump = false) && (p.gridLock || decide (r ≤ 5 * 65536 ∧ 15 ≤ p.gridGood))) := by
    cases jump with
    | true => simp
    | false =>
      by_cases near : 5 * 65536 < r
      · have unlocks : (!decide (20 * 65536 < r)) = decide (r ≤ 20 * 65536) := by rw [← decide_not, decide_eq_decide]; exact Nat.not_lt
        simp [near, Nat.not_le.mpr near, unlocks]
      · have sixteen : (min 16 (p.gridGood + 1) == 16) = decide (15 ≤ p.gridGood) := by
          rw [beq_eq_decide, decide_eq_decide]
          omega
        have close : ¬ 20 * 65536 < r := by omega
        simp [near, close, Nat.le_of_not_lt near, sixteen]
  simp only [PortSt.measured, good, ← lock]

section
variable {n : Fin 8} {back off : Nat} {jump : Bool} {s u : State}

theorem execGridMeasure_down (displaced : Bool) (down : s.isUp n.val = false) :
    exec (.gridMeasure n back off displaced jump) s = .next s := if_pos (by rw [down]; rfl)

variable (up : s.isUp n.val = true) (hu : u = s.advTo (max (s.cclkAfter 0) (s.port n.val).gridAt))
include up hu

theorem execGridMeasure_displaced : exec (.gridMeasure n back off true jump) s =
    .next (u.updPort n.val (fun p => { p with gridAt := u.time.now + 256 * cclkTicks })) := by
  subst hu
  exact if_neg (by rw [up]; decide)

theorem execGridMeasure_point {phase r : Nat} (hp : phase = u.gridPoint back off) (hr : r = (s.port n.val).gridResidual phase)
    {v : State} (hv : v = u.updPort n.val
      (·.measured phase (max 1 (s.gridStepNow n.val)) (u.time.now + 256 * cclkTicks) r jump)) :
    exec (.gridMeasure n back off false jump) s = .next (if 20 * 65536 < r then v.raise 145 else v) := by
  have port : u.port n.val = s.port n.val := by rw [hu, State.port_advTo]
  have step : u.gridStepNow n.val = s.gridStepNow n.val := by rw [hu, State.gridStepNow_advTo]
  change execGridMeasure n back off false jump s = _
  rw [execGridMeasure, up, hv]
  simp only [Bool.not_true, Bool.false_eq_true, ↓reduceIte, ← hu, ← hp, port, ← hr, step]
  exact congrArg (fun v : State => Host.Outcome.next (if 20 * 65536 < r then v.raise 145 else v))
    (u.updPort_congr n.val (by rw [port]; rfl))

end

/-- R134: what a measurement of the grid does. -/
theorem gridMeasure_does (n : Fin 8) (back off : Nat) (displaced jump : Bool) (s u : State) (phase r : Nat)
    (hu : u = s.advTo (max (s.cclkAfter 0) (s.port n.val).gridAt)) (hp : phase = u.gridPoint back off)
    (hr : r = (s.port n.val).gridResidual phase) : Does (.gridMeasure n back off displaced jump) s fun t =>
     if s.isUp n.val = true ∧ displaced = true then t = u.updPort n.val (fun p => { p with gridAt := u.time.now + 256 * cclkTicks })
     else if s.isUp n.val = true then
       t.port n.val = { s.port n.val with
         gridPhase := phase, gridStep := max 1 (s.gridStepNow n.val), gridAt := t.time.now + 256 * cclkTicks
         gridGood := if 5 * 65536 < r ∨ jump = true then 0 else min 16 ((s.port n.val).gridGood + 1)
         gridLock := decide (¬ 20 * 65536 < r ∧ jump = false) &&
           ((s.port n.val).gridLock || decide (r ≤ 5 * 65536 ∧ 15 ≤ (s.port n.val).gridGood)) } ∧
       (20 * 65536 < r → t.evSet 145 = true) ∧ t.time.now = max s.time.now (max (s.cclkAfter 0) (s.port n.val).gridAt)
     else t = s := by
  by_cases up : s.isUp n.val = true
  · cases displaced with
    | true => exact ⟨_, execGridMeasure_displaced up hu, ite_intro_pos ⟨up, rfl⟩ rfl⟩
    | false =>
      have now : u.time.now = max s.time.now (max (s.cclkAfter 0) (s.port n.val).gridAt) := hu ▸ s.advTo_now _
      have port : u.port n.val = s.port n.val := by rw [hu, State.port_advTo]
      refine ⟨_, execGridMeasure_point up hu hp hr rfl, ite_intro_neg (by simp) (ite_intro_pos up ?_)⟩
      split
      · refine ⟨?_, fun _ => State.raise_evSet _ 145 (by decide), by rw [State.raise_time]; exact now⟩
        rw [State.port_raise, State.port_updPort_same, State.raise_time, PortSt.measured_eq, port]
        rfl
      · next near =>
        refine ⟨?_, fun far => absurd far near, now⟩
        rw [State.port_updPort_same, PortSt.measured_eq, port]
        rfl
  · exact ⟨s, execGridMeasure_down displaced (Bool.not_eq_true _ ▸ up), ite_intro_neg (fun h => up h.1) (ite_intro_neg up rfl)⟩

/-! ### The order of a calendar -/

/-- R143: one frame is taken before another in the order of T. -/
theorem CFrame.T_le_of_before {a b : CFrame} (h : a.before b = true) : a.T ≤ b.T := by
  simp only [CFrame.before, Bool.or_eq_true, Bool.and_eq_true, decide_eq_true_eq, beq_iff_eq] at h
  omega

theorem CFrame.T_le_of_not_before {a b : CFrame} (h : ¬ a.before b = true) : b.T ≤ a.T := by
  simp only [CFrame.before, Bool.or_eq_true, decide_eq_true_eq] at h
  omega

theorem insertFrame_perm (f : CFrame) (l : List CFrame) : (insertFrame f l).Perm (f :: l) := by
  induction l with
  | nil => exact .refl _
  | cons g l ih =>
    rw [insertFrame]
    split
    · exact .refl _
    · exact (ih.cons g).trans (.swap f g l)

theorem insertFrame_rising (f : CFrame) {l : List CFrame} (h : l.Pairwise (fun f g => f.T ≤ g.T)) :
    (insertFrame f l).Pairwise (fun f g => f.T ≤ g.T) := by
  induction l with
  | nil => exact List.pairwise_singleton ..
  | cons g l ih =>
    obtain ⟨least, rest⟩ := List.pairwise_cons.mp h
    rw [insertFrame]
    split
    · next first =>
      have le := CFrame.T_le_of_before first
      exact List.pairwise_cons.mpr ⟨fun x hx => (List.mem_cons.mp hx).elim (fun e => e ▸ le) fun hx => le.trans (least x hx), h⟩
    · next later =>
      have le := CFrame.T_le_of_not_before later
      exact List.pairwise_cons.mpr ⟨fun x hx => (List.mem_cons.mp ((insertFrame_perm f l).mem_iff.mp hx)).elim
        (fun e => e ▸ le) (least x), ih rest⟩

/-- R143: the frames of one edge in the order in which they are judged. -/
theorem sortedFrames_spec (l : List CFrame) : (l.foldr insertFrame []).Perm l ∧
    (l.foldr insertFrame []).Pairwise (fun f g => f.T ≤ g.T) := by
  induction l with
  | nil => exact ⟨.refl _, .nil⟩
  | cons f l ih => exact ⟨(insertFrame_perm f _).trans (ih.1.cons f), insertFrame_rising f ih.2⟩

/-- R142, R143: the frames of the next edge are judged. -/
theorem calendarArrival_does (n : Fin 8) (s : State) : Does (.calendarArrival n) s fun t => match (s.cal n.val).handoff with
     | [] => t = s
     | x :: r => ∃ (a : Nat) (l : List CFrame), (∃ y ∈ x :: r, y.at_ = a) ∧ (∀ y ∈ x :: r, a ≤ y.at_) ∧
       l.Perm (((x :: r).filter (fun y => decide (y.at_ ≤ a))).map (·.f)) ∧ l.Pairwise (fun f g => f.T ≤ g.T) ∧
       t = l.foldl State.admitFrame (((s.advTo a).updCal n.val (fun c => { c with
         handoff := c.handoff.filter (fun y => decide (a < y.at_)) })).wirePrune n.val) := by
  cases waits : (s.cal n.val).handoff with
  | nil =>
    refine ⟨s, ?_, rfl⟩
    change execCalendarArrival n s = _
    rw [execCalendarArrival, waits]
  | cons x r =>
    have first : ((x :: r).map (·.at_)).min? = some ((r.map (·.at_)).foldl min x.at_) := List.min?_cons'
    obtain ⟨next, least⟩ := List.min?_eq_some_iff.mp first
    obtain ⟨perm, rising⟩ := sortedFrames_spec
      (((x :: r).filter (fun y => decide (y.at_ ≤ (r.map (·.at_)).foldl min x.at_))).map (·.f))
    refine ⟨_, ?_, _, _, List.mem_map.mp next, fun y hy => least _ (List.mem_map_of_mem hy), perm, rising, rfl⟩
    change execCalendarArrival n s = _
    rw [execCalendarArrival, waits]
    simp only [State.cal_advTo, waits]

end Sys2Proof.Machine
end

section
/-!
PROOFS. How a calendar judges a frame (R142, R145, R146).
-/

namespace Sys2Proof.Machine

/-- The registers of the eight departure schedulers hold no event status. -/
theorem evKey_departure {a : Nat} (lo : 0x0B00000 ≤ a) (hi : a < 0x0B08000) : evKey a = false := by
  simp only [evKey, Bool.or_eq_false_iff, Bool.and_eq_false_iff, decide_eq_false_iff_not]
  unfold Reg.EVT_STAT Reg.EVT_CORE_STAT
  omega

/-! ### A frame that is not admitted -/

/-- The counters of the frames that calendar `n` returns (R142). -/
def returnRegs (n : Nat) : List Nat := [Reg.DEP_RET_LATE n, Reg.DEP_RET_BUSY n, Reg.DEP_RET_BE n, Reg.DEP_RET_FULL n]

theorem returnRegs_apart {n a : Nat} (hn : n < 8) (ha : a ∈ returnRegs n) :
    evKey a = false ∧ a ≠ Reg.DEP_DROP_TIER n ∧ a ≠ Reg.SRV_PTP_SYNC_DROP := by
  simp only [returnRegs, List.mem_cons, List.not_mem_nil, or_false] at ha
  unfold Reg.DEP_RET_LATE Reg.DEP_RET_BUSY Reg.DEP_RET_BE Reg.DEP_RET_FULL at ha
  refine ⟨evKey_departure (by omega) (by omega), ?_, ?_⟩
  · unfold Reg.DEP_DROP_TIER
    omega
  · unfold Reg.SRV_PTP_SYNC_DROP
    omega

/-- From `s` to `t` calendar `n` has not admitted frame `f`, and register `a` counts it: it is on its way back to its cluster, or
dropped at tier 4 (R145, R146). -/
def Returned (n a : Nat) (f : CFrame) (s t : State) : Prop :=
  (t.cal n).frames = (s.cal n).frames ∧ t.rd a = satAdd (s.rd a) 1 ∧
    if f.tier < 4 then (t.clu f.cluster).returning = (s.clu f.cluster).returning ++ [⟨s.time.now + 24 * cclkTicks, f⟩]
    else (t.clu f.cluster).returning = (s.clu f.cluster).returning ∧ t.rd (Reg.DEP_DROP_TIER n) = satAdd (s.rd (Reg.DEP_DROP_TIER n)) 1

theorem State.calReturn_returned (s : State) (f : CFrame) {a : Nat} (hn : f.port < 8) (ha : a ∈ returnRegs f.port) :
    Returned f.port a f s (s.calReturn f a) := by
  obtain ⟨ev, tier, sync⟩ := returnRegs_apart hn ha
  by_cases low : f.tier < 4
  · have eq : s.calReturn f a = (s.bump a).updClu f.cluster
        (fun cl => { cl with returning := cl.returning ++ [⟨s.time.now + 24 * cclkTicks, f⟩] }) := if_neg (Nat.not_le.mpr low)
    rw [eq]
    refine ⟨rfl, State.bump_rd_same .., ite_intro_pos low ?_⟩
    rw [State.clu_updClu_same, State.clu_bump]
  · obtain ⟨u, hu⟩ : ∃ u, u = ((s.bump a).bump (Reg.DEP_DROP_TIER f.port)).raiseLim 141 f.port msTicks := ⟨_, rfl⟩
    have eq : s.calReturn f a = if f.internal then u.syncDrop else u := hu ▸ if_pos (Nat.le_of_not_lt low)
    have evTier : evKey (Reg.DEP_DROP_TIER f.port) = false :=
      evKey_departure (by unfold Reg.DEP_DROP_TIER; omega) (by unfold Reg.DEP_DROP_TIER; omega)
    have raised (b : Nat) (hb : evKey b = false) : u.rd b = ((s.bump a).bump (Reg.DEP_DROP_TIER f.port)).rd b :=
      hu ▸ (State.raiseLim_evOnly _ 141 f.port msTicks (by decide)).regs b hb
    have dropped (b : Nat) (ne : b ≠ Reg.SRV_PTP_SYNC_DROP) (hb : evKey b = false) : (s.calReturn f a).rd b = u.rd b := by
      rw [eq]
      split
      · exact u.syncDrop_rd ne hb
      · rfl
    have touch : Touch 536871425 u (s.calReturn f a) := by
      rw [eq]
      exact touch_ite (State.syncDrop_touch rfl u (.refl ..)) (.refl ..)
    have cals : (s.calReturn f a).cals = s.cals := (touch.same .cals rfl).trans (by simp [hu])
    have clus : (s.calReturn f a).clus = s.clus := (touch.same .clus rfl).trans (by simp [hu])
    refine ⟨by rw [State.cal_congr cals], ?_, ite_intro_neg low ⟨by rw [State.clu_congr clus], ?_⟩⟩
    · rw [dropped a sync ev, raised a ev, State.bump_rd_ne _ _ tier, State.bump_rd_same]
    · rw [dropped _ (by unfold Reg.DEP_DROP_TIER Reg.SRV_PTP_SYNC_DROP; omega) evTier, raised _ evTier, State.bump_rd_same,
        State.bump_rd_ne _ _ tier.symm]

/-- A frame that finds no slots is returned with EV142. -/
theorem State.calReturn_full (s : State) (f : CFrame) (hn : f.port < 8) :
    Returned f.port (Reg.DEP_RET_FULL f.port) f s ((s.raiseLim 142 f.port msTicks).calReturn f (Reg.DEP_RET_FULL f.port)) := by
  have raised (b : Nat) (lo : 0x0B00000 ≤ b) (hi : b < 0x0B08000) : (s.raiseLim 142 f.port msTicks).rd b = s.rd b :=
    (State.raiseLim_evOnly _ 142 f.port msTicks (by decide)).regs b (evKey_departure lo hi)
  have back := (s.raiseLim 142 f.port msTicks).calReturn_returned f hn (a := Reg.DEP_RET_FULL f.port) (by simp [returnRegs])
  unfold Returned at *
  rwa [State.cal_raiseLim, State.clu_raiseLim, State.raiseLim_time,
    raised _ (by unfold Reg.DEP_RET_FULL; omega) (by unfold Reg.DEP_RET_FULL; omega),
    raised _ (by unfold Reg.DEP_DROP_TIER; omega) (by unfold Reg.DEP_DROP_TIER; omega)] at back

/-! ### The judgement -/

/-- R142: the checks of a calendar, on the frame with the delay that applies to it. -/
theorem State.admitFrame_eq (s : State) (f : CFrame) {asym : Int}
    (ha : asym = if f.internal = true then valueAt (s.port f.port).asymTx s.nowSt else f.asymTx) {tRel : Int} {span : Span}
    (hr : tRel = ((f.T * 1000 : Nat) : Int) - s.lRelG f.port asym)
    (hs : span = s.spanOf f.port ((f.T * 1000 : Nat) : Int) f.len) : s.admitFrame f =
    if s.isUp f.port = false then s.bump (Reg.PRT_DROP_LINK f.port)
    else if 65536 * (nsG : Int) < ((f.T * 1000 : Nat) : Int) - s.nowG then s.bump (Reg.DEP_DROP_HORIZON f.port)
    else if tRel - 2 * (nsG : Int) < s.nowG then s.calReturn { f with asymTx := asym } (Reg.DEP_RET_LATE f.port)
    else if (s.committedWire f.port).any span.meets = true then s.calReturn { f with asymTx := asym } (Reg.DEP_RET_BUSY f.port)
    else if (s.bestWire f.port).any span.meets = true then s.calReturn { f with asymTx := asym } (Reg.DEP_RET_BE f.port)
    else if 2048 < s.calOcc f.port + calSlots f.len then
      (s.raiseLim 142 f.port msTicks).calReturn { f with asymTx := asym } (Reg.DEP_RET_FULL f.port)
    else
      let u := s.updCal f.port (fun c => { c with frames := c.frames ++ [⟨{ f with asymTx := asym }, tRel, span, calSlots f.len⟩] })
      u.keepMax (Reg.DEP_CAL_MAX f.port) (u.calOcc f.port) := by
  have delay : (if f.internal then { f with asymTx := valueAt (s.port f.port).asymTx s.nowSt } else f) = { f with asymTx := asym } := by
    rw [ha]
    split <;> rfl
  subst hr hs
  unfold State.admitFrame
  simp only [delay, Bool.not_eq_eq_eq_not, Bool.not_true]

/-- R142: what becomes of a frame that reaches its calendar. -/
theorem State.admitFrame_spec (s : State) (f : CFrame) (n : Nat) (asym tRel : Int) (span : Span) (t : State) (hn : n = f.port)
    (port : n < 8) (ha : asym = if f.internal = true then valueAt (s.port n).asymTx s.nowSt else f.asymTx)
    (hr : tRel = ((f.T * 1000 : Nat) : Int) - s.lRelG n asym) (hs : span = s.spanOf n ((f.T * 1000 : Nat) : Int) f.len)
    (ht : t = s.admitFrame f) :
    let back (a : Nat) : Prop := (t.cal n).frames = (s.cal n).frames ∧ t.rd a = satAdd (s.rd a) 1 ∧
       if f.tier < 4 then (t.clu f.cluster).returning = (s.clu f.cluster).returning ++
         [⟨s.time.now + 24 * cclkTicks, { f with asymTx := asym }⟩]
       else (t.clu f.cluster).returning = (s.clu f.cluster).returning ∧ t.rd (Reg.DEP_DROP_TIER n) = satAdd (s.rd (Reg.DEP_DROP_TIER n)) 1
     if s.isUp n = false then t = s.bump (Reg.PRT_DROP_LINK n)
     else if 65536 * (nsG : Int) < ((f.T * 1000 : Nat) : Int) - s.nowG then t = s.bump (Reg.DEP_DROP_HORIZON n)
     else if tRel - 2 * (nsG : Int) < s.nowG then back (Reg.DEP_RET_LATE n)
     else if (s.committedWire n).any span.meets = true then back (Reg.DEP_RET_BUSY n)
     else if (s.bestWire n).any span.meets = true then back (Reg.DEP_RET_BE n)
     else if 2048 < s.calOcc n + calSlots f.len then back (Reg.DEP_RET_FULL n)
     else (t.cal n).frames = (s.cal n).frames ++ [⟨{ f with asymTx := asym }, tRel, span, calSlots f.len⟩] := by
  subst hn
  intro back
  have returned {a : Nat} {u : State} (h : Returned f.port a { f with asymTx := asym } s u) (is : t = u) : back a := by
    subst is
    exact h
  have returns {a : Nat} (mem : a ∈ returnRegs f.port) := returned (s.calReturn_returned { f with asymTx := asym } port mem)
  rw [s.admitFrame_eq f ha hr hs] at ht
  split_ifs at ht ⊢ with down far late busy taken full
  · exact ht
  · exact ht
  · exact returns (by simp [returnRegs]) ht
  · exact returns (by simp [returnRegs]) ht
  · exact returns (by simp [returnRegs]) ht
  · exact returned (s.calReturn_full { f with asymTx := asym } port) ht
  · rw [ht, State.cal_keepMax, State.cal_updCal_same]

end Sys2Proof.Machine
end

section
/-!
PROOFS. How a calendar releases a frame (R65, R144, R147, R231, R248).
-/

namespace Sys2Proof.Machine

/-! ### Registers and outputs -/

theorem evKey_txFrames (n : Nat) : evKey (Reg.PRT_TX_FRAMES n) = false := evKey_block (b := 0x0600204) (by decide) n

theorem evKey_depDev (n : Nat) : evKey (Reg.PRT_DEP_DEV n) = false := evKey_block (b := 0x0600224) (by decide) n

theorem evKey_depSent {n : Nat} (hn : n < 8) : evKey (Reg.DEP_SENT n) = false :=
  evKey_departure (by unfold Reg.DEP_SENT; omega) (by unfold Reg.DEP_SENT; omega)

/-- What had left the package in `s` has left it in `t`. -/
structure KeepsOut (s t : State) : Prop where
  mem : ∀ o ∈ s.outbox, o ∈ t.outbox

section
variable {s t u : State}

theorem KeepsOut.of_outbox (h : t.outbox = s.outbox) : KeepsOut s t := ⟨fun _ ho => h ▸ ho⟩

theorem KeepsOut.trans (h : KeepsOut s t) (k : KeepsOut t u) : KeepsOut s u := ⟨fun o ho => k.mem o (h.mem o ho)⟩

theorem KeepsOut.refl (s : State) : KeepsOut s s := .of_outbox rfl

theorem KeepsOut.bump (s : State) (a k : Nat) : KeepsOut s (s.bump a k) := .of_outbox (s.bump_outbox a k)

theorem KeepsOut.of_evOnly (h : EvOnly s t) : KeepsOut s t := by
  obtain ⟨l, out, -⟩ := h.out
  exact ⟨fun o ho => out ▸ List.mem_append_right l ho⟩

theorem KeepsOut.raiseLim (h : KeepsOut s t) {e : Nat} (k : e < 256) (key ticks : Nat) : KeepsOut s (t.raiseLim e key ticks) :=
  h.trans (.of_evOnly (State.raiseLim_evOnly t e key ticks k))

theorem KeepsOut.portEvt (h : KeepsOut s t) (n : Nat) {k : Nat} (hk : k < 160) : KeepsOut s (t.portEvt n k) :=
  (h.trans (t := t) (u := t.orBits (Reg.PRT_EVT n) (bitMask k)) (.of_outbox rfl)).trans (.of_evOnly (State.raise_evOnly _ _ (by omega)))

end

/-! ### What follows a release -/

/-- The registers that the checks and the Follow_Up of a released frame of port `n` write (R65, R71, R91, R230, R231). -/
def followRegs (n : Nat) : List Nat :=
  [Reg.SRV_PTP_SYNC_DROP, Reg.SRV_PTP_FU_SENT, Reg.PRT_DROP_LINK n, Reg.PRT_DEP_DEV n, Reg.PRT_EVT n]

theorem followRegs_apart {n : Nat} (hn : n < 8) : Reg.DEP_SENT n ∉ followRegs n ∧ Reg.PRT_TX_FRAMES n ∉ followRegs n := by
  simp only [followRegs, List.mem_cons, List.not_mem_nil, or_false, not_or]
  unfold Reg.DEP_SENT Reg.PRT_TX_FRAMES Reg.SRV_PTP_SYNC_DROP Reg.SRV_PTP_FU_SENT Reg.PRT_DROP_LINK Reg.PRT_DEP_DEV Reg.PRT_EVT
  omega

/-- R65, R231: what is judged and built once frame `f` of port `n` crosses the plane, later than scheduled by `dev`. -/
def State.followed (s : State) (n : Nat) (f : CFrame) (dev : Int) : State :=
  (s.departureCheck n (s.stampOut n f.asymTx (((f.T : Int) + dev) * 1000) - f.T)).followUp f

section
variable (s : State) (n : Nat) (f : CFrame)

/-- R230, R231, R248: a frame has no Follow_Up, or it is dropped, or it joins the best-effort queue. -/
theorem State.followUp_cases : s.followUp f = s ∨ s.followUp f = s.syncDrop ∨
    ∃ len m head after, s.followUp f = (s.bump Reg.SRV_PTP_FU_SENT).bePush f.port .followUp len m head after := by
  unfold State.followUp
  split
  · dsimp only
    split
    · exact .inr (.inl rfl)
    · exact .inr (.inr ⟨_, _, _, _, rfl⟩)
  · exact .inl rfl

theorem State.followUp_regWork : RegWork (· ∈ followRegs f.port) s (s.followUp f) := by
  rcases s.followUp_cases f with none | drop | ⟨len, m, head, after, push⟩
  · rw [none]
    exact .refl s
  · rw [drop]
    exact ((RegWork.refl s).wr _ (by simp [followRegs]) (by decide)).raiseLim (e := 177) (by decide) ..
  · rw [push]
    have sent : RegWork (· ∈ followRegs f.port) s (s.bump Reg.SRV_PTP_FU_SENT) :=
      (RegWork.refl s).wr _ (by simp [followRegs]) (by decide)
    exact .ite (sent.updPort ..) (sent.wr _ (by simp [followRegs]) (evKey_portDropLink _))

theorem State.followUp_keepsOut : KeepsOut s (s.followUp f) := by
  rcases s.followUp_cases f with none | drop | ⟨len, m, head, after, push⟩
  · rw [none]
    exact .refl s
  · rw [drop]
    exact (KeepsOut.bump s _ _).raiseLim (e := 177) (by decide) ..
  · rw [push]
    unfold State.bePush
    split <;> exact .of_outbox rfl

theorem State.departureCheck_regWork (dev : Int) : RegWork (· ∈ followRegs n) s (s.departureCheck n dev) :=
  .ite (((RegWork.refl s).wr _ (by simp [followRegs]) (evKey_depDev n)).portEvt (by decide)
    (by simp [followRegs])) (.refl s)

theorem State.departureCheck_keepsOut (dev : Int) : KeepsOut s (s.departureCheck n dev) := by
  unfold State.departureCheck
  split
  · exact (KeepsOut.bump s _ _).portEvt n (by decide)
  · exact .refl s

theorem State.followed_parts (dev : Int) : (s.followed n f dev).cals = s.cals ∧ (s.followed n f dev).time = s.time ∧
    KeepsOut s (s.followed n f dev) := by
  have touch : Touch 536875521 s (s.followed n f dev) :=
    State.followUp_touch rfl _ _ (State.departureCheck_touch rfl _ _ _ (.refl ..))
  exact ⟨touch.same .cals rfl, touch.same .time rfl, (s.departureCheck_keepsOut n _).trans (State.followUp_keepsOut ..)⟩

theorem State.followed_rd {n : Nat} (port : f.port = n) (dev : Int) {a : Nat} (ha : a ∉ followRegs n) (ev : evKey a = false) :
    (s.followed n f dev).rd a = s.rd a :=
  ((s.departureCheck_regWork n _).trans (port ▸ State.followUp_regWork _ f)).regs a ha ev

end

/-! ### The release -/

/-- R144: the frame released first leaves calendar `n` at its release tick. -/
def State.released (s : State) (n : Nat) (a : Admitted) : State :=
  ((s.advTo (s.tickAtG a.tRel)).updCal n (fun c => { c with
    frames := c.frames.erase a
    pouring := c.pouring ++ [(a.tRel + (a.f.len : Nat) * (s.advTo (s.tickAtG a.tRel)).byteOf n, a.slots, a.span)] })).wirePrune n

/-- R144, R497: frame `f` has left the package by port `n`, counted as sent. -/
def State.sent (s : State) (n : Nat) (f : CFrame) : State :=
  (((((s.emit (.frame n f.T f.tier f.head (f.head.checksum f.bytes) f.bytes)).flow 6).flow (0x10 + n)).bump (Reg.DEP_SENT n)).bump
    (Reg.PRT_TX_FRAMES n))

/-- R147: a frame of a tier above 0 is counted by its tier, with EV140. -/
def State.tierSent (s : State) (n tier : Nat) : State :=
  if tier = 0 then s else (s.bump (Reg.DEP_TIER n (tier - 1))).raiseLim 140 n msTicks

theorem execFramePour_none {n : Fin 8} {dev : Int} {s : State} (none : firstOut (s.cal n.val).frames = none) :
    exec (.framePour n dev) s = .next s := by
  change execFramePour n dev s = _
  rw [execFramePour, none]

theorem execFramePour_first {n : Fin 8} {dev : Int} {s : State} {a : Admitted} (first : firstOut (s.cal n.val).frames = some a) :
    exec (.framePour n dev) s = .next ((((s.released n.val a).sent n.val a.f).tierSent n.val a.f.tier).followed n.val a.f dev) := by
  change execFramePour n dev s = _
  rw [execFramePour, first]
  rfl

section
variable (s : State) (n : Nat)

/-- What is past on the wire is forgotten, and nothing else. -/
theorem State.wirePrune_parts : ((s.wirePrune n).cal n).frames = (s.cal n).frames ∧ (s.wirePrune n).time = s.time ∧
    (s.wirePrune n).live = s.live ∧ ∃ w, (s.wirePrune n).port n = { s.port n with beWire := w } := by
  unfold State.wirePrune
  refine ⟨?_, rfl, rfl, _, State.port_updPort_same ..⟩
  rw [State.cal_updPort, State.cal_updCal_same]

theorem State.released_parts (a : Admitted) : ((s.released n a).cal n).frames = (s.cal n).frames.erase a ∧
    (s.released n a).time.now = max s.time.now (s.tickAtG a.tRel) ∧ (s.released n a).live = s.live := by
  unfold State.released
  obtain ⟨frames, time, live, -⟩ := State.wirePrune_parts ((s.advTo (s.tickAtG a.tRel)).updCal n (fun c => { c with
    frames := c.frames.erase a
    pouring := c.pouring ++ [(a.tRel + (a.f.len : Nat) * (s.advTo (s.tickAtG a.tRel)).byteOf n, a.slots, a.span)] })) n
  rw [frames, time, live, State.cal_updCal_same, State.cal_advTo]
  exact ⟨rfl, s.advTo_now _, s.advTo_live _⟩

theorem State.sent_parts (f : CFrame) : (s.sent n f).cals = s.cals ∧ (s.sent n f).time = s.time ∧
    .frame n f.T f.tier f.head (f.head.checksum f.bytes) f.bytes ∈ (s.sent n f).outbox := by
  simp [State.sent]

theorem State.sent_rd (f : CFrame) : (s.sent n f).rd (Reg.DEP_SENT n) = satAdd (s.rd (Reg.DEP_SENT n)) 1 ∧
    (s.sent n f).rd (Reg.PRT_TX_FRAMES n) = satAdd (s.rd (Reg.PRT_TX_FRAMES n)) 1 := by
  have apart : Reg.DEP_SENT n ≠ Reg.PRT_TX_FRAMES n := by unfold Reg.DEP_SENT Reg.PRT_TX_FRAMES; omega
  unfold State.sent
  rw [State.bump_rd_ne _ _ apart, State.bump_rd_same, State.bump_rd_same, State.bump_rd_ne _ _ apart.symm]
  simp only [State.rd_flow]
  exact ⟨rfl, rfl⟩

variable (tier : Nat)

theorem State.tierSent_parts : (s.tierSent n tier).cals = s.cals ∧ (s.tierSent n tier).time = s.time ∧
    KeepsOut s (s.tierSent n tier) := by
  unfold State.tierSent
  split
  · exact ⟨rfl, rfl, .refl s⟩
  · exact ⟨by simp, by simp, (KeepsOut.bump s _ _).raiseLim (by decide) ..⟩

/-- R147: the counter of a tier is a register of its own, but the fifth place from DEP_TIER is that of DEP_SENT. -/
theorem State.tierSent_rd {n : Nat} (hn : n < 8) :
    (s.tierSent n tier).rd (Reg.DEP_SENT n) = satAdd (s.rd (Reg.DEP_SENT n)) (if tier = 5 then 1 else 0) ∧
    (s.tierSent n tier).rd (Reg.PRT_TX_FRAMES n) = s.rd (Reg.PRT_TX_FRAMES n) := by
  by_cases first : tier = 0
  · rw [State.tierSent, if_pos first, first]
    exact ⟨(satAdd_zero _).symm, rfl⟩
  have raised (b : Nat) (ev : evKey b = false) : (s.tierSent n tier).rd b = (s.bump (Reg.DEP_TIER n (tier - 1))).rd b := by
    rw [State.tierSent, if_neg first]
    exact (State.raiseLim_evOnly _ 140 n msTicks (by decide)).regs b ev
  rw [raised _ (evKey_depSent hn), raised _ (evKey_txFrames n)]
  refine ⟨?_, State.bump_rd_ne _ _ (by unfold Reg.PRT_TX_FRAMES Reg.DEP_TIER; omega)⟩
  by_cases fifth : tier = 5
  · subst fifth
    have place : Reg.DEP_TIER n (5 - 1) = Reg.DEP_SENT n := by unfold Reg.DEP_TIER Reg.DEP_SENT; omega
    rw [place, if_pos rfl, State.bump_rd_same]
  · rw [if_neg fifth, satAdd_zero, State.bump_rd_ne _ _ (by unfold Reg.DEP_SENT Reg.DEP_TIER; omega)]

end

/-- R144, R147: the first frame to be released leaves at its release tick with its own T and tier. It is counted as sent, twice at a
tier 5, which the cells compose for no frame (R146). -/
theorem framePour_does (n : Fin 8) (dev : Int) (s : State) : Does (.framePour n dev) s fun t => match firstOut (s.cal n.val).frames with
     | none => t = s
     | some a => (t.cal n.val).frames = (s.cal n.val).frames.erase a ∧
       .frame n.val a.f.T a.f.tier a.f.head (a.f.head.checksum a.f.bytes) a.f.bytes ∈ t.outbox ∧
       t.time.now = max s.time.now (s.tickAtG a.tRel) ∧
       (a.f.port = n.val → t.rd (Reg.DEP_SENT n.val) = satAdd (s.rd (Reg.DEP_SENT n.val)) (if a.f.tier = 5 then 2 else 1) ∧
         t.rd (Reg.PRT_TX_FRAMES n.val) = satAdd (s.rd (Reg.PRT_TX_FRAMES n.val)) 1) := by
  cases first : firstOut (s.cal n.val).frames with
  | none => exact ⟨s, execFramePour_none first, rfl⟩
  | some a =>
    obtain ⟨frames, now, live⟩ := s.released_parts n.val a
    obtain ⟨cals, time, out⟩ := (s.released n.val a).sent_parts n.val a.f
    obtain ⟨tierCals, tierTime, tierOut⟩ := ((s.released n.val a).sent n.val a.f).tierSent_parts n.val a.f.tier
    obtain ⟨endCals, endTime, endOut⟩ :=
      (((s.released n.val a).sent n.val a.f).tierSent n.val a.f.tier).followed_parts n.val a.f dev
    refine ⟨_, execFramePour_first first, ?_, endOut.mem _ (tierOut.mem _ out), ?_, fun port => ?_⟩
    · rw [State.cal_congr (endCals.trans (tierCals.trans cals)), frames]
    · rw [endTime, tierTime, time, now]
    · obtain ⟨sent, frames⟩ := (s.released n.val a).sent_rd n.val a.f
      obtain ⟨tierSent, tierFrames⟩ := ((s.released n.val a).sent n.val a.f).tierSent_rd a.f.tier n.isLt
      obtain ⟨sentApart, framesApart⟩ := followRegs_apart n.isLt
      rw [State.followed_rd _ _ port _ sentApart (evKey_depSent n.isLt), State.followed_rd _ _ port _ framesApart (evKey_txFrames _),
        tierSent, tierFrames, sent, frames, State.rd_congr live, State.rd_congr live, satAdd_satAdd]
      refine ⟨?_, rfl⟩
      split <;> rfl

end Sys2Proof.Machine
end

section
/-!
PROOFS. How a port releases its best-effort frames and reserves the wire for one that has waited (R83, R150, R151).
-/

namespace Sys2Proof.Machine

/-! ### The release -/

section
variable (s : State) (n : Nat) (f : BeFrame) (sOut : Nat)

/-- R83: a stamp goes to the host, to the client that asked for it, or to nobody. -/
theorem State.beStamp_cases : s.beStamp n f sOut = s ∨ s.beStamp n f sOut = s.htxDone n ∨
    (∃ tag, s.beStamp n f sOut = (s.htxDone n).tsqPush n tag false sOut) ∨ ∃ i g, s.beStamp n f sOut = s.updClient i g := by
  unfold State.beStamp
  split
  · next tag ts _ =>
    cases ts with
    | true => exact .inr (.inr (.inl ⟨_, rfl⟩))
    | false => exact .inr (.inl rfl)
  · exact .inr (.inr (.inr ⟨_, _, rfl⟩))
  · exact .inl rfl

theorem State.htxDone_keepsOut : KeepsOut s (s.htxDone n) := by
  have stepped : KeepsOut s (s.ringStep (Reg.PRT_HTX_CONS n) (Reg.PRT_HTX_SIZE n)) := .of_outbox rfl
  exact stepped.portEvt n (by decide)

theorem State.tsqPush_keepsOut (tag : Nat) (dropped : Bool) (stamp : Nat) : KeepsOut s (s.tsqPush n tag dropped stamp) := by
  by_cases full : 64 ≤ (s.port n).tsq.length
  · rw [State.tsqPush_full full]
    exact ((KeepsOut.of_outbox (s.updPort_outbox n _)).trans (.bump ..)).portEvt n (by decide)
  · rw [State.tsqPush_room (Nat.lt_of_not_le full)]
    have queued : KeepsOut s (s.updPort n (·.tsqPut tag dropped stamp)) := .of_outbox (s.updPort_outbox ..)
    split
    · exact queued.portEvt n (by decide)
    · exact queued

theorem State.beStamp_parts : TsqWork s (s.beStamp n f sOut) ∧ RegWork (· ∈ htxRegs n) s (s.beStamp n f sOut) ∧
    KeepsOut s (s.beStamp n f sOut) := by
  have done : TsqWork s (s.htxDone n) := .of_ports (s.htxDone_ports n)
  rcases s.beStamp_cases n f sOut with none | sent | ⟨tag, stamped⟩ | ⟨i, g, told⟩
  · rw [none]
    exact ⟨.of_ports rfl, .refl s, .refl s⟩
  · rw [sent]
    exact ⟨done, s.htxDone_regWork n, s.htxDone_keepsOut n⟩
  · rw [stamped]
    exact ⟨done.trans (State.tsqPush_tsqWork ..),
      (s.htxDone_regWork n).trans ((State.tsqPush_regWork ..).mono fun _ => List.mem_cons_of_mem _),
      (s.htxDone_keepsOut n).trans (State.tsqPush_keepsOut ..)⟩
  · rw [told]
    exact ⟨.of_ports rfl, .of_live rfl, .of_outbox rfl⟩

/-- R150: frame `f` leaves the best-effort queue of port `n` now, and with it a reservation of its own. -/
def State.beTaken : State := s.updPort n (fun p => { p with
  be := p.be.erase f, beWire := p.beWire ++ [s.beSpan n f s.time.now]
  reserved := if p.reserved.any (fun r => r.1 == f) then none else p.reserved })

/-- R150, R497: frame `f` has left the package by port `n`, counted as sent, with the time it waited. -/
def State.beSent : State :=
  let t := ((s.emit (.best n s.time.now f.head ((f.head.map (·.checksum f.bytes)).getD 0) f.bytes)).flow 7).flow (0x10 + n)
  ((t.bump (Reg.DEP_BE_SENT n)).bump (Reg.PRT_TX_FRAMES n)).keepMax (Reg.DEP_BE_WAIT_MAX n) ((t.time.now - f.since) / cclkTicks)

theorem State.beSent_parts : (s.beSent n f).ports = s.ports ∧ (s.beSent n f).time = s.time ∧
    .best n s.time.now f.head ((f.head.map (·.checksum f.bytes)).getD 0) f.bytes ∈ (s.beSent n f).outbox := by
  simp [State.beSent]

theorem State.keepMax_rd_ne {a b : Nat} (ne : b ≠ a) (k : Nat) : (s.keepMax a k).rd b = s.rd b := by
  unfold State.keepMax
  split
  · exact State.rd_wr_ne _ _ ne
  · rfl

theorem State.beSent_rd : (s.beSent n f).rd (Reg.DEP_BE_SENT n) = satAdd (s.rd (Reg.DEP_BE_SENT n)) 1 := by
  unfold State.beSent
  rw [State.keepMax_rd_ne _ (by unfold Reg.DEP_BE_SENT Reg.DEP_BE_WAIT_MAX; omega),
    State.bump_rd_ne _ _ (by unfold Reg.DEP_BE_SENT Reg.PRT_TX_FRAMES; omega), State.bump_rd_same, State.rd_flow, State.rd_flow]
  rfl

end

section
variable {n : Fin 8} {dev : Int} {s : State}

theorem execBeRelease_none (none : (s.wirePrune n.val).beNext n.val = none) : exec (.beRelease n dev) s = .next s := by
  change execBeRelease n dev s = _
  rw [execBeRelease]
  simp only [none]

theorem execBeRelease_next {f : BeFrame} {e : Nat} (next : (s.wirePrune n.val).beNext n.val = some (f, e)) {v : State}
    (hv : v = (((s.wirePrune n.val).advTo e).beTaken n.val f).beSent n.val f) : exec (.beRelease n dev) s =
      .next (v.beStamp n.val f (v.stampOut n.val f.asymTx (v.gAt v.time.now + v.lRelG n.val f.asymTx + dev * 1000)).toNat) := by
  subst hv
  change execBeRelease n dev s = _
  rw [execBeRelease]
  simp only [next]
  rfl

end

/-- R150: the next best-effort frame is released at its edge. -/
theorem beRelease_does (n : Fin 8) (dev : Int) (s : State) : Does (.beRelease n dev) s fun t =>
     match (s.wirePrune n.val).beNext n.val with
     | none => t = s
     | some (f, e) => (t.port n.val).be = (s.port n.val).be.erase f ∧ t.time.now = max s.time.now e ∧
       (t.port n.val).reserved = (if (s.port n.val).reserved.any (fun r => r.1 == f) = true then none else (s.port n.val).reserved) ∧
       .best n.val t.time.now f.head ((f.head.map (·.checksum f.bytes)).getD 0) f.bytes ∈ t.outbox ∧
       t.rd (Reg.DEP_BE_SENT n.val) = satAdd (s.rd (Reg.DEP_BE_SENT n.val)) 1 := by
  cases next : (s.wirePrune n.val).beNext n.val with
  | none => exact ⟨s, execBeRelease_none next, rfl⟩
  | some p =>
    obtain ⟨f, e⟩ := p
    obtain ⟨-, pruneTime, pruneLive, wire, prunePort⟩ := s.wirePrune_parts n.val
    obtain ⟨v, hv⟩ : ∃ v, v = ((s.wirePrune n.val).advTo e).beTaken n.val f := ⟨_, rfl⟩
    obtain ⟨sOut, runs⟩ : ∃ sOut, exec (.beRelease n dev) s = .next ((v.beSent n.val f).beStamp n.val f sOut) :=
      ⟨_, execBeRelease_next next (by rw [hv])⟩
    obtain ⟨ports, time, out⟩ := v.beSent_parts n.val f
    obtain ⟨tsq, regs, kept⟩ := (v.beSent n.val f).beStamp_parts n.val f sOut
    have stampTime : ((v.beSent n.val f).beStamp n.val f sOut).time = v.time :=
      ((State.beStamp_touch (w := 537924097) rfl _ n.val f sOut (.refl ..)).same .time rfl).trans time
    have now : v.time.now = max s.time.now e := by
      rw [hv, State.beTaken, State.updPort_time, State.advTo_now, pruneTime]
    have live : v.live = s.live := by rw [hv, State.beTaken, State.updPort_live, State.advTo_live, pruneLive]
    have port : (v.port n.val).be = (s.port n.val).be.erase f ∧ (v.port n.val).reserved =
        if (s.port n.val).reserved.any (fun r => r.1 == f) = true then none else (s.port n.val).reserved := by
      rw [hv, State.beTaken, State.port_updPort_same, State.port_advTo, prunePort]
      exact ⟨rfl, rfl⟩
    have apart : Reg.DEP_BE_SENT n.val ∉ htxRegs n.val := by
      simp only [htxRegs, tsqRegs, List.mem_cons, List.not_mem_nil, or_false, not_or]
      unfold Reg.DEP_BE_SENT Reg.PRT_HTX_CONS Reg.PRT_EVT Reg.PRT_TSQ_LOST
      omega
    have ev : evKey (Reg.DEP_BE_SENT n.val) = false :=
      evKey_departure (by unfold Reg.DEP_BE_SENT; omega) (by unfold Reg.DEP_BE_SENT; omega)
    refine ⟨_, runs, ?_, by rw [stampTime, now], ?_, ?_, ?_⟩
    · rw [tsq.port, State.port_congr ports]
      exact port.1
    · rw [tsq.port, State.port_congr ports]
      exact port.2
    · rw [stampTime]
      exact kept.mem _ out
    · rw [regs.regs _ apart ev, State.beSent_rd, State.rd_congr live]

/-! ### The reservation -/

/-- A stamp that is found by rounding to the nearest is not before one that lies half a unit of it earlier. -/
theorem le_roundDiv {t : Nat} {x : Int} (h : ((t * 1000 : Nat) : Int) - 500 ≤ x) : t ≤ (roundDiv x 1000).toNat := by
  unfold roundDiv
  split <;> omega

/-- R133: a grid point found for a stamp is not before it. -/
theorem State.le_gridCeil (s : State) (n t : Nat) : t ≤ s.gridCeil n t := by
  unfold State.gridCeil
  dsimp only
  split
  · exact le_rfl
  · next some =>
    have up : ((t * 1000 : Nat) : Int) - 500 - (s.port n).gridPhase ≤
        -(-(((t * 1000 : Nat) : Int) - 500 - (s.port n).gridPhase) / ((s.port n).gridStep : Int)) * (s.port n).gridStep := by
      rw [Int.neg_mul]
      have := Int.ediv_mul_le (-(((t * 1000 : Nat) : Int) - 500 - (s.port n).gridPhase)) (b := ((s.port n).gridStep : Int)) (by omega)
      omega
    exact le_roundDiv (by omega)

/-- The greatest end of some intervals, and of `m`. -/
theorem le_foldl_max_hi (l : List Span) (m : Int) : m ≤ l.foldl (fun m w => max m w.hi) m ∧
    ∀ x ∈ l, x.hi ≤ l.foldl (fun m w => max m w.hi) m := by
  induction l generalizing m with
  | nil => exact ⟨le_rfl, nofun⟩
  | cons w l ih =>
    obtain ⟨first, rest⟩ := ih (max m w.hi)
    refine ⟨(le_max_left ..).trans first, fun x hx => ?_⟩
    rcases List.mem_cons.mp hx with rfl | later
    · exact (le_max_right ..).trans first
    · exact rest x later

/-- R151: the reservation that frame `f` gets on port `n` now: from the first grid point after the last frame on the wire. -/
def State.reservation (s : State) (n : Nat) (f : BeFrame) : Span :=
  let last := (s.committedWire n ++ (s.port n).beWire).foldl (fun m w => max m w.hi) (s.beSpan n f s.time.now).lo
  let g : Int := (s.gridCeil n (last / 1000 + 1).toNat * 1000 : Nat)
  ⟨g, (s.beSpan n f (s.beEdge n f g)).hi⟩

/-- R151: a reservation lies behind every committed frame admitted so far. -/
theorem State.reservation_behind (s : State) (n : Nat) (f : BeFrame) {x : Span} (hx : x ∈ s.committedWire n) :
    x.hi ≤ (s.reservation n f).lo := by
  unfold State.reservation
  dsimp only
  obtain ⟨-, ends⟩ := le_foldl_max_hi (s.committedWire n ++ (s.port n).beWire) (s.beSpan n f s.time.now).lo
  have before := ends x (List.mem_append_left _ hx)
  generalize (s.committedWire n ++ (s.port n).beWire).foldl (fun m w => max m w.hi) (s.beSpan n f s.time.now).lo = last at before
  have grid := s.le_gridCeil n (last / 1000 + 1).toNat
  omega

/-- R151: frame `f` gets a reservation on port `n`. -/
def State.reserve (s : State) (n : Nat) (f : BeFrame) : State :=
  ((s.updPort n (fun p => { p with reserved := some (f, s.reservation n f) })).bump (Reg.DEP_BE_RESERVE n)).raise 144

/-- The state in which the head of the queue of port `n` has waited as long as R151 allows, what is past on the wire forgotten. -/
def State.waited (s : State) (n : Nat) (f : BeFrame) : State :=
  (s.advTo (f.since + usTicks * fld (s.ac (Reg.DEP_BE_CTRL n)) 0 16)).wirePrune n

theorem State.waited_parts (s : State) (n : Nat) (f : BeFrame) :
    (s.waited n f).time.now = max s.time.now (f.since + usTicks * fld (s.ac (Reg.DEP_BE_CTRL n)) 0 16) ∧
    (s.waited n f).live = s.live ∧ ((s.waited n f).port n).be = (s.port n).be := by
  unfold State.waited
  obtain ⟨-, time, live, wire, port⟩ :=
    State.wirePrune_parts (s.advTo (f.since + usTicks * fld (s.ac (Reg.DEP_BE_CTRL n)) 0 16)) n
  rw [time, live, port, State.port_advTo]
  exact ⟨s.advTo_now _, s.advTo_live _, rfl⟩

section
variable {n : Fin 8} {s : State}

theorem execBeReserve_none (none : beHead s.time.now (s.port n.val).be = none) : exec (.beReserve n) s = .next s := by
  change execBeReserve n s = _
  rw [execBeReserve]
  simp only [none]

variable {f : BeFrame} (head : beHead s.time.now (s.port n.val).be = some f)
include head

theorem execBeReserve_idle (idle : ¬ (bitAt (s.ac (Reg.DEP_BE_CTRL n.val)) 16 = true ∧ (s.port n.val).reserved = none)) :
    exec (.beReserve n) s = .next s := by
  change execBeReserve n s = _
  rw [execBeReserve]
  simp only [head]
  refine if_pos ?_
  simpa [Option.isSome_iff_ne_none, imp_iff_not_or] using idle

theorem execBeReserve_head (enabled : bitAt (s.ac (Reg.DEP_BE_CTRL n.val)) 16 = true) (free : (s.port n.val).reserved = none) :
    exec (.beReserve n) s = .next ((s.waited n.val f).reserve n.val f) := by
  change execBeReserve n s = _
  rw [execBeReserve]
  simp only [head]
  exact if_neg (by simp [enabled, free])

end

/-- R151: the head that has waited too long gets a reservation. -/
theorem beReserve_does (n : Fin 8) (s : State) : Does (.beReserve n) s fun t => match beHead s.time.now (s.port n.val).be with
     | none => t = s
     | some f =>
       if bitAt (s.ac (Reg.DEP_BE_CTRL n.val)) 16 = true ∧ (s.port n.val).reserved = none then
         (∃ w, (t.port n.val).reserved = some (f, w) ∧ ∀ x ∈ t.committedWire n.val, x.hi ≤ w.lo) ∧
         (t.port n.val).be = (s.port n.val).be ∧ t.evSet 144 = true ∧
         t.rd (Reg.DEP_BE_RESERVE n.val) = satAdd (s.rd (Reg.DEP_BE_RESERVE n.val)) 1 ∧
         t.time.now = max s.time.now (f.since + usTicks * fld (s.ac (Reg.DEP_BE_CTRL n.val)) 0 16)
       else t = s := by
  cases head : beHead s.time.now (s.port n.val).be with
  | none => exact ⟨s, execBeReserve_none head, rfl⟩
  | some f =>
    by_cases may : bitAt (s.ac (Reg.DEP_BE_CTRL n.val)) 16 = true ∧ (s.port n.val).reserved = none
    · have runs := execBeReserve_head head may.1 may.2
      obtain ⟨now, live, queue⟩ := s.waited_parts n.val f
      generalize s.waited n.val f = v at runs now live queue
      have key : evKey (Reg.DEP_BE_RESERVE n.val) = false :=
        evKey_departure (by unfold Reg.DEP_BE_RESERVE; omega) (by unfold Reg.DEP_BE_RESERVE; omega)
      have port : (v.reserve n.val f).port n.val = { v.port n.val with reserved := some (f, v.reservation n.val f) } := by
        rw [State.reserve, State.port_raise, State.port_bump, State.port_updPort_same]
      have cal : (v.reserve n.val f).cal n.val = v.cal n.val := by
        rw [State.reserve, State.cal_raise, State.cal_bump, State.cal_updPort]
      refine ⟨_, runs, ite_intro_pos may ⟨⟨v.reservation n.val f, by rw [port], fun x hx => v.reservation_behind _ f ?_⟩,
        by rw [port, queue], State.raise_evSet _ 144 (by decide), ?_, ?_⟩⟩
      · unfold State.committedWire at *
        rwa [cal] at hx
      · rw [State.reserve, State.raise_rd _ 144 _ (by decide) key, State.bump_rd_same]
        exact congrArg (satAdd · 1) (State.rd_congr live _)
      · rw [State.reserve, State.raise_time, State.bump_time, State.updPort_time, now]
    · exact ⟨s, execBeReserve_idle head may, ite_intro_neg may rfl⟩

end Sys2Proof.Machine
end

section
/-!
PROOFS. The statement about committed departure (R134, R140–R147, R150, R151).
-/

namespace Sys2Proof.Machine

/-- A frame in the calendar of port 0, at a tier above the last. -/
def tierFive : Admitted where
  f := { id := 0, port := 0, path := .plain, T := 0, t0 := 0, tier := 5, len := 94, origin := 0, gen := 0, cluster := 0, cell := 0
         internal := false, kiss := none, asymTx := 0, key := 0, v2At := 0, s2c := [], cookies := [], seq := 0, grant := none, req := none
         head := { l2 := false, v6 := false, dstMac := 0, src := 0, dst := 0, sport := 123, dport := 123, svcAddr := 0, tagged := false
                   tci := 0, dscp := 0, hop := 64 }
         bytes := [] }
  tRel := 0
  span := ⟨0, 0⟩
  slots := 1

/-- Refutes O23: the statement speaks of every state, and so of one whose calendar holds a frame at tier 5, which R146 gives to none.
The counter of that tier would stand behind the four of DEP_TIER, where DEP_SENT stands, so that its release counts twice there. The rest
of the statement holds (`gridMeasure_does`, `calendarArrival_does`, `State.admitFrame_spec`, `beRelease_does`, `beReserve_does`), and
that clause does at every other tier (`framePour_does`). -/
theorem not_departure : ¬ Obligations.Departure := by
  intro h
  obtain ⟨-, -, -, pour, -⟩ := h
  obtain ⟨t, runs, released⟩ := pour 0 0 { State.reset with cals := [(0, { frames := [tierFive] })] }
  obtain ⟨u, runs', counted⟩ := framePour_does 0 0 { State.reset with cals := [(0, { frames := [tierFive] })] }
  obtain rfl : t = u := Host.Outcome.next.inj (runs.symm.trans runs')
  obtain ⟨-, -, -, once⟩ := released
  obtain ⟨-, -, -, twice⟩ := counted
  exact absurd ((once rfl).1.symm.trans (twice rfl).1) (by decide)

end Sys2Proof.Machine
end

section
/-!
PROOFS. The key windows: WRITE, DISABLE and STAT of the symmetric and the Annex P key tables (R181, R201, R247, R294), and the edges of
the commands that wait.
-/

namespace Sys2Proof.Machine

/-! ### The entries and the banks -/

/-- The entry of an index in the Annex P table or in the symmetric table. -/
def State.keyEntry (s : State) (p : Bool) (i : Nat) : KeyEntry := if p = true then s.annexKey i else s.symKey i

section
variable (s : State) (p : Bool)

@[simp] theorem State.updKeyBank_sym (b : Nat) (f : KeyBank → KeyBank) : (s.updKeyBank p b f).srv.sym = s.srv.sym := by
  cases p <;> rfl

@[simp] theorem State.updKeyBank_annex (b : Nat) (f : KeyBank → KeyBank) : (s.updKeyBank p b f).srv.annex = s.srv.annex := by
  cases p <;> rfl

@[simp] theorem State.updKeyBank_keyPend (b : Nat) (f : KeyBank → KeyBank) : (s.updKeyBank p b f).srv.keyPend = s.srv.keyPend := by
  cases p <;> rfl

@[simp] theorem State.updKeyBank_time (b : Nat) (f : KeyBank → KeyBank) : (s.updKeyBank p b f).time = s.time := by
  cases p <;> rfl

@[simp] theorem State.updKeyBank_live (b : Nat) (f : KeyBank → KeyBank) : (s.updKeyBank p b f).live = s.live := by
  cases p <;> rfl

@[simp] theorem State.keyBank_updKeyBank (m : Master) (f : KeyBank → KeyBank) :
    (s.updKeyBank p m.bank f).keyBank p m = f (s.keyBank p m) := by
  cases p <;> exact tget_tupd_same ..

theorem State.keyBank_congr {s t : State} (h : t.srv = s.srv) (p : Bool) (m : Master) : t.keyBank p m = s.keyBank p m := by
  unfold State.keyBank
  rw [h]

/-- The entries are those of the two tables. -/
theorem State.keyEntry_congr {s t : State} (sym : t.srv.sym = s.srv.sym) (annex : t.srv.annex = s.srv.annex) (p : Bool) (i : Nat) :
    t.keyEntry p i = s.keyEntry p i := by
  unfold State.keyEntry State.annexKey State.symKey
  rw [sym, annex]

@[simp] theorem State.keyLoad_sym (b i : Nat) : (s.keyLoad p b i).srv.sym = s.srv.sym := State.updKeyBank_sym ..

@[simp] theorem State.keyLoad_annex (b i : Nat) : (s.keyLoad p b i).srv.annex = s.srv.annex := State.updKeyBank_annex ..

@[simp] theorem State.keyLoad_keyPend (b i : Nat) : (s.keyLoad p b i).srv.keyPend = s.srv.keyPend := State.updKeyBank_keyPend ..

@[simp] theorem State.keyLoad_time (b i : Nat) : (s.keyLoad p b i).time = s.time := State.updKeyBank_time ..

@[simp] theorem State.keyLoad_live (b i : Nat) : (s.keyLoad p b i).live = s.live := State.updKeyBank_live ..

/-- R201: a load shows the status of the entry in the master's bank. -/
@[simp] theorem State.keyBank_keyLoad (m : Master) (i : Nat) : (s.keyLoad p m.bank i).keyBank p m =
    { s.keyBank p m with en := (s.keyEntry p i).en, kcv := (s.keyEntry p i).toKeyVal.kcv p } := State.keyBank_updKeyBank ..

end

/-! ### WRITE and DISABLE -/

section
variable (s : State) (p w : Bool) (m : Master) (st : Bool)

/-- R201, R247, R294: a WRITE (`w`) or a DISABLE of master `m` is taken: KEY_PERM permits it, and an Annex P WRITE repeats no pair. -/
def State.keyAccepts : Prop :=
  s.keyPermit p m = true ∧ (p = true → w = true → s.pairTaken (s.keyIdx p m) (s.stagedKey p m) = false)

theorem State.keyAccepts_iff : ¬ ((w && !w) || !s.keyPermit p m || (p && w && s.pairTaken (s.keyIdx p m) (s.stagedKey p m))) = true ↔
    s.keyAccepts p w m := by
  unfold State.keyAccepts
  cases p <;> cases w <;> simp

/-- The command that master `m` gives waits for the eighth CCLK edge (R181). -/
def State.keyAwaits : KeyPend :=
  ⟨p, s.keyIdx p m, s.cclkAfter 8, m.bank, if w = true then some (s.stagedKey p m) else none, !w, st⟩

theorem State.keyCmd_accepted (accepts : s.keyAccepts p w m) : s.keyCmd p m w (!w) st =
    let u := s.updKeyBank p m.bank (fun b => { b with refused := false, staged := [] })
    { u with srv := { u.srv with keyPend := u.srv.keyPend ++ [s.keyAwaits p w m st] } } := by
  unfold State.keyCmd
  rw [if_pos (by simp), if_neg ((s.keyAccepts_iff p w m).mpr accepts)]
  simp only [State.keyAwaits, State.cclkAfter, State.updKeyBank_time]

theorem State.keyCmd_refused (refuses : ¬ s.keyAccepts p w m) : s.keyCmd p m w (!w) st =
    let u := (s.updKeyBank p m.bank (fun b => { b with refused := true })).raise 164
    if st = true then u.keyLoad p m.bank (s.keyIdx p m) else u := by
  unfold State.keyCmd
  rw [if_pos (by simp), if_pos (Classical.not_not.mp fun c => refuses ((s.keyAccepts_iff p w m).mp c))]

theorem exec_keyEdit : exec (if p then (if w then .ptpKeyWrite m st else .ptpKeyDisable m st)
    else (if w then .symKeyWrite m st else .symKeyDisable m st)) s = .next (s.keyCmd p m w (!w) st) := by
  cases p <;> cases w <;> rfl

end

/-- R181, R201, R247: WRITE and DISABLE. -/
theorem keyEdit_does (p w : Bool) (m : Master) (st : Bool) (s : State) :
    Does (if p then (if w then .ptpKeyWrite m st else .ptpKeyDisable m st)
       else (if w then .symKeyWrite m st else .symKeyDisable m st)) s fun t =>
     t.srv.sym = s.srv.sym ∧ t.srv.annex = s.srv.annex ∧
     if s.keyPermit p m = true ∧ (p = true → w = true → s.pairTaken (s.keyIdx p m) (s.stagedKey p m) = false) then
       t.srv.keyPend = s.srv.keyPend ++
         [⟨p, s.keyIdx p m, s.cclkAfter 8, m.bank, if w then some (s.stagedKey p m) else none, !w, st⟩] ∧
       (t.keyBank p m).staged = [] ∧ (t.keyBank p m).refused = false
     else
       t.srv.keyPend = s.srv.keyPend ∧ (t.keyBank p m).refused = true ∧ t.evSet 164 = true ∧
       (st = true → (t.keyBank p m).en = (s.keyEntry p (s.keyIdx p m)).en ∧
         (t.keyBank p m).kcv = (s.keyEntry p (s.keyIdx p m)).toKeyVal.kcv p) := by
  refine ⟨_, exec_keyEdit s p w m st, ?_⟩
  by_cases accepts : s.keyAccepts p w m
  · rw [s.keyCmd_accepted p w m st accepts]
    refine ⟨State.updKeyBank_sym .., State.updKeyBank_annex .., ite_intro_pos accepts ⟨?_, ?_⟩⟩
    · exact congrArg (· ++ _) (State.updKeyBank_keyPend ..)
    · have bank := s.keyBank_updKeyBank p m (fun b => { b with refused := false, staged := [] })
      exact ⟨congrArg KeyBank.staged bank, congrArg KeyBank.refused bank⟩
  · rw [s.keyCmd_refused p w m st accepts]
    have sets := State.raise_evSet (s.updKeyBank p m.bank (fun b => { b with refused := true })) 164 (by decide)
    have srv : ((s.updKeyBank p m.bank (fun b => { b with refused := true })).raise 164).srv = _ := State.raise_srv ..
    have bank := (State.keyBank_congr srv p m).trans (s.keyBank_updKeyBank p m _)
    generalize (s.updKeyBank p m.bank (fun b => { b with refused := true })).raise 164 = u at sets srv bank
    have sym : u.srv.sym = s.srv.sym := by rw [srv, State.updKeyBank_sym]
    have annex : u.srv.annex = s.srv.annex := by rw [srv, State.updKeyBank_annex]
    have pend : u.srv.keyPend = s.srv.keyPend := by rw [srv, State.updKeyBank_keyPend]
    cases st with
    | false => exact ⟨sym, annex, ite_intro_neg accepts ⟨pend, congrArg KeyBank.refused bank, sets, nofun⟩⟩
    | true =>
      have loaded := u.keyBank_keyLoad p m (s.keyIdx p m)
      rw [State.keyEntry_congr sym annex, bank] at loaded
      refine ⟨(State.keyLoad_sym ..).trans sym, (State.keyLoad_annex ..).trans annex, ite_intro_neg accepts
        ⟨(State.keyLoad_keyPend ..).trans pend, congrArg KeyBank.refused loaded, ?_, fun _ =>
          ⟨congrArg KeyBank.en loaded, congrArg KeyBank.kcv loaded⟩⟩⟩
      exact (State.evSet_congr (State.keyLoad_live ..) 164).trans sets

/-! ### A command that reaches its edge -/

/-- R181: what the entry of a command is at tick `t`, its edge. -/
def KeyPend.entry (x : KeyPend) (o : KeyEntry) (t : Nat) : KeyEntry := match x.write with
  | some e => o.become e t
  | none => if x.disable = true then o.become {} t else o

/-- From `s` to `t` the entry of index `i` of one table becomes `e`, and every other entry of both tables is kept. -/
structure KeyChanged (p : Bool) (i : Nat) (e : KeyEntry) (s t : State) : Prop where
  entry : t.keyEntry p i = e
  table : if p = true then t.srv.sym = s.srv.sym else t.srv.annex = s.srv.annex
  others : ∀ j, j ≠ i → t.annexKey j = s.annexKey j ∧ t.symKey j = s.symKey j

section
variable (s : State) (p : Bool) (i : Nat)

theorem KeyChanged.none : KeyChanged p i (s.keyEntry p i) s s :=
  ⟨rfl, by cases p <;> rfl, fun _ _ => ⟨rfl, rfl⟩⟩

theorem State.updKey_changed (f : KeyEntry → KeyEntry) : KeyChanged p i (f (s.keyEntry p i)) s (s.updKey p i f) := by
  cases p with
  | false => exact ⟨State.symKey_updSymKey_same .., rfl, fun j ne => ⟨rfl, State.symKey_updSymKey_ne s f ne⟩⟩
  | true => exact ⟨State.annexKey_updAnnexKey_same .., rfl, fun j ne => ⟨State.annexKey_updAnnexKey_ne s f ne, rfl⟩⟩

@[simp] theorem State.updKey_keyPend (f : KeyEntry → KeyEntry) : (s.updKey p i f).srv.keyPend = s.srv.keyPend := by
  cases p <;> rfl

@[simp] theorem State.updKey_time (f : KeyEntry → KeyEntry) : (s.updKey p i f).time = s.time := by
  cases p <;> rfl

end

/-- A change seen between states with the same two tables. -/
theorem KeyChanged.congr {p : Bool} {i : Nat} {e : KeyEntry} {s t s' t' : State} (h : KeyChanged p i e s t)
    (before : s.srv.sym = s'.srv.sym ∧ s.srv.annex = s'.srv.annex) (after : t'.srv.sym = t.srv.sym ∧ t'.srv.annex = t.srv.annex) :
    KeyChanged p i e s' t' := by
  obtain ⟨entry, table, others⟩ := h
  refine ⟨(State.keyEntry_congr after.1 after.2 p i).trans entry, ?_, fun j ne => ?_⟩
  · rwa [after.1, after.2, ← before.1, ← before.2]
  · unfold State.annexKey State.symKey at *
    rw [after.1, after.2, ← before.1, ← before.2]
    exact others j ne

/-- The two tables once a command has taken effect, before the status is loaded. -/
def State.keyPut (s : State) (x : KeyPend) : State := match x.write with
  | some e => s.updKey x.ptp x.idx (fun o => o.become e s.time.now)
  | none => if x.disable = true then s.updKey x.ptp x.idx (fun o => o.become {} s.time.now) else s

theorem State.keyPut_spec (s : State) (x : KeyPend) :
    KeyChanged x.ptp x.idx (x.entry (s.keyEntry x.ptp x.idx) s.time.now) s (s.keyPut x) ∧
      (s.keyPut x).srv.keyPend = s.srv.keyPend ∧ (s.keyPut x).time = s.time := by
  unfold State.keyPut KeyPend.entry
  cases x.write with
  | some e => exact ⟨s.updKey_changed x.ptp x.idx (fun o => o.become e s.time.now), State.updKey_keyPend .., State.updKey_time ..⟩
  | none =>
    cases x.disable with
    | true => exact ⟨s.updKey_changed x.ptp x.idx (fun o => o.become {} s.time.now), State.updKey_keyPend .., State.updKey_time ..⟩
    | false => exact ⟨.none s x.ptp x.idx, rfl, rfl⟩

/-- R181, R201: a command at its edge changes its own entry alone and leaves the commands that wait. -/
theorem State.keyEffect_spec (s : State) (x : KeyPend) :
    KeyChanged x.ptp x.idx (x.entry (s.keyEntry x.ptp x.idx) s.time.now) s (s.keyEffect x) ∧
      (s.keyEffect x).srv.keyPend = s.srv.keyPend ∧ (s.keyEffect x).time = s.time := by
  obtain ⟨changed, pend, time⟩ := s.keyPut_spec x
  have effect : s.keyEffect x = if x.stat = true then (s.keyPut x).keyLoad x.ptp x.master x.idx else s.keyPut x := rfl
  rw [effect]
  by_cases loads : x.stat = true
  · rw [if_pos loads]
    exact ⟨changed.congr ⟨rfl, rfl⟩ ⟨State.keyLoad_sym .., State.keyLoad_annex ..⟩, (State.keyLoad_keyPend ..).trans pend,
      (State.keyLoad_time ..).trans time⟩
  · rw [if_neg loads]
    exact ⟨changed, pend, time⟩

/-- R181: time reaches the edge of a command that waits, and the command leaves the queue. -/
def State.keyReached (s : State) (x : KeyPend) : State :=
  let u := s.advTo x.due
  { u with srv := { u.srv with keyPend := u.srv.keyPend.erase x } }

theorem State.keyReached_parts (s : State) (x : KeyPend) : (s.keyReached x).srv.sym = s.srv.sym ∧
    (s.keyReached x).srv.annex = s.srv.annex ∧ (s.keyReached x).srv.keyPend = s.srv.keyPend.erase x ∧
    (s.keyReached x).time.now = max s.time.now x.due := by
  have srv : (s.advTo x.due).srv = s.srv := State.advTo_srv ..
  have sym : (s.advTo x.due).srv.sym = s.srv.sym := congrArg SrvSt.sym srv
  have annex : (s.advTo x.due).srv.annex = s.srv.annex := congrArg SrvSt.annex srv
  exact ⟨sym, annex, congrArg (·.keyPend.erase x) srv, State.advTo_now ..⟩

/-- R181: a command that waits takes effect at its edge. -/
theorem State.keyFire_spec (s : State) (x : KeyPend) :
    KeyChanged x.ptp x.idx (x.entry (s.keyEntry x.ptp x.idx) (s.keyFire x).time.now) s (s.keyFire x) ∧
      (s.keyFire x).srv.keyPend = s.srv.keyPend.erase x ∧ (s.keyFire x).time.now = max s.time.now x.due := by
  have fire : s.keyFire x = (s.keyReached x).keyEffect x := rfl
  obtain ⟨sym, annex, left, now⟩ := s.keyReached_parts x
  obtain ⟨changed, pend, time⟩ := (s.keyReached x).keyEffect_spec x
  rw [State.keyEntry_congr sym annex] at changed
  rw [fire, time]
  exact ⟨changed.congr ⟨sym, annex⟩ ⟨rfl, rfl⟩, pend.trans left, now⟩

/-! ### The commands that are due -/

/-- Commands fire one after the other: each leaves the queue, and time reaches the latest edge among them. -/
theorem State.keyFires_spec (l : List KeyPend) (s : State) {a : Nat} (due : ∀ x ∈ l, x.due ≤ a) :
    (l.foldl State.keyFire s).srv.keyPend = l.foldl List.erase s.srv.keyPend ∧
      (l.foldl State.keyFire s).time.now ≤ max s.time.now a := by
  induction l generalizing s with
  | nil => exact ⟨rfl, Nat.le_max_left ..⟩
  | cons x l ih =>
    obtain ⟨-, pend, now⟩ := s.keyFire_spec x
    obtain ⟨left, reached⟩ := ih (s.keyFire x) fun y hy => due y (List.mem_cons_of_mem x hy)
    have first := due x List.mem_cons_self
    refine ⟨left.trans (by rw [pend]; rfl), reached.trans ?_⟩
    rw [now]
    omega

section
variable {α : Type} [DecidableEq α] {f : α → Bool}

/-- Taking elements that differ from the head of a list leaves the head. -/
theorem foldl_erase_cons {k : List α} (taken : ∀ a ∈ k, f a = true) {b : α} (stays : f b = false) (l : List α) :
    k.foldl List.erase (b :: l) = b :: k.foldl List.erase l := by
  induction k generalizing l with
  | nil => rfl
  | cons a k ih =>
    have other : b ≠ a := fun e => by rw [e, taken a List.mem_cons_self] at stays; cases stays
    rw [List.foldl_cons, List.erase_cons_tail (by simpa using other)]
    exact ih (fun c hc => taken c (List.mem_cons_of_mem a hc)) _

/-- The elements of a list that a choice takes leave it, one after the other. -/
theorem foldl_erase_filter (l : List α) : (l.filter f).foldl List.erase l = l.filter (fun a => !f a) := by
  induction l with
  | nil => rfl
  | cons b l ih =>
    cases taken : f b with
    | true => simpa [taken] using ih
    | false =>
      rw [List.filter_cons_of_neg (by simp [taken]), foldl_erase_cons (fun a ha => (List.mem_filter.mp ha).2) taken, ih,
        List.filter_cons_of_pos (by simp [taken])]

end

/-- R181: the commands due at tick `a` leave the queue; time does not pass that tick. -/
theorem State.keyDue_spec (s : State) (a : Nat) : (s.keyDue a).srv.keyPend = s.srv.keyPend.filter (fun x => decide (a < x.due)) ∧
    (s.keyDue a).time.now ≤ max s.time.now a := by
  obtain ⟨left, reached⟩ := State.keyFires_spec (s.srv.keyPend.filter (fun x => decide (x.due ≤ a))) s (a := a) (by simp)
  refine ⟨left.trans ((foldl_erase_filter ..).trans (List.filter_congr fun x _ => ?_)), reached⟩
  simp [← decide_not]

theorem State.keyDue_none {s : State} {a : Nat} (later : ∀ x ∈ s.srv.keyPend, a < x.due) : s.keyDue a = s := by
  unfold State.keyDue
  rw [List.filter_eq_nil_iff.mpr fun x hx => by simpa using later x hx]
  rfl

/-- R201: STAT alone. -/
theorem keyStat_does (p : Bool) (m : Master) (s : State) : Does (if p then .ptpKeyStat m else .symKeyStat m) s fun t =>
    t.time.now = s.cclkAfter 1 ∧ t.srv.keyPend = s.srv.keyPend.filter (fun x => decide (s.cclkAfter 1 < x.due)) ∧
    (t.keyBank p m).en = (t.keyEntry p (s.keyIdx p m)).en ∧
    (t.keyBank p m).kcv = (t.keyEntry p (s.keyIdx p m)).toKeyVal.kcv p ∧
    ((∀ x ∈ s.srv.keyPend, s.cclkAfter 1 < x.due) → t.srv.sym = s.srv.sym ∧ t.srv.annex = s.srv.annex) := by
  have runs : exec (if p then .ptpKeyStat m else .symKeyStat m) s =
      .next (((s.keyDue (s.cclkAfter 1)).advTo (s.cclkAfter 1)).keyLoad p m.bank (s.keyIdx p m)) := by
    cases p <;> rfl
  refine ⟨_, runs, ?_⟩
  obtain ⟨pend, reached⟩ := s.keyDue_spec (s.cclkAfter 1)
  have later := s.le_cclkAfter 1
  have bank := ((s.keyDue (s.cclkAfter 1)).advTo (s.cclkAfter 1)).keyBank_keyLoad p m (s.keyIdx p m)
  rw [← State.keyEntry_congr (State.keyLoad_sym ..) (State.keyLoad_annex ..)] at bank
  refine ⟨?_, ?_, congrArg KeyBank.en bank, congrArg KeyBank.kcv bank, fun none => ?_⟩
  · rw [State.keyLoad_time, State.advTo_now]
    omega
  · rw [State.keyLoad_keyPend, State.advTo_srv, pend]
  · rw [State.keyLoad_sym, State.keyLoad_annex, State.advTo_srv, State.keyDue_none none]
    exact ⟨rfl, rfl⟩

/-! ### The first edge -/

/-- The command of a list whose edge is first, the oldest of those with that edge. -/
def earliest (x : KeyPend) (l : List KeyPend) : KeyPend := l.foldl (fun b q => if q.due < b.due then q else b) x

theorem earliest_spec (x : KeyPend) (l : List KeyPend) :
    earliest x l ∈ x :: l ∧ ∀ q ∈ x :: l, (earliest x l).due ≤ q.due := by
  induction l generalizing x with
  | nil => simp [earliest]
  | cons y l ih =>
    obtain ⟨mem, least⟩ := ih (if y.due < x.due then y else x)
    have step : earliest x (y :: l) = earliest (if y.due < x.due then y else x) l := rfl
    rw [step]
    by_cases sooner : y.due < x.due
    · rw [if_pos sooner] at mem least ⊢
      exact ⟨List.mem_cons_of_mem x mem,
        List.forall_mem_cons.mpr ⟨(least y List.mem_cons_self).trans (Nat.le_of_lt sooner), least⟩⟩
    · rw [if_neg sooner] at mem least ⊢
      obtain ⟨first, rest⟩ := List.forall_mem_cons.mp least
      exact ⟨List.mem_cons.mpr ((List.mem_cons.mp mem).imp_right (List.mem_cons_of_mem y)),
        List.forall_mem_cons.mpr ⟨first, List.forall_mem_cons.mpr ⟨first.trans (Nat.le_of_not_lt sooner), rest⟩⟩⟩

/-- R181: the command whose edge is first takes effect. -/
theorem keyTableEffect_does (s : State) : Does .keyTableEffect s fun t => (s.srv.keyPend = [] → t = s) ∧
    (s.srv.keyPend ≠ [] → ∃ p ∈ s.srv.keyPend, (∀ q ∈ s.srv.keyPend, p.due ≤ q.due) ∧
      t.srv.keyPend = s.srv.keyPend.erase p ∧ t.time.now = max s.time.now p.due ∧
      KeyChanged p.ptp p.idx (p.entry (s.keyEntry p.ptp p.idx) t.time.now) s t) := by
  have runs : exec .keyTableEffect s = execKeyTableEffect s := rfl
  unfold execKeyTableEffect at runs
  cases pend : s.srv.keyPend with
  | nil =>
    rw [pend] at runs
    exact ⟨s, runs, fun _ => rfl, fun h => absurd rfl h⟩
  | cons x l =>
    rw [pend] at runs
    obtain ⟨mem, least⟩ := earliest_spec x l
    obtain ⟨changed, left, now⟩ := s.keyFire_spec (earliest x l)
    exact ⟨s.keyFire (earliest x l), runs, nofun, fun _ => ⟨earliest x l, mem, least, by rw [left, pend], now, changed⟩⟩

/-- Settles O26: a WRITE or DISABLE by what it needs to be taken, STAT and the first edge by what a command does at its edge. -/
theorem keyTables : Obligations.KeyTables := by
  refine ⟨keyEdit_does, keyStat_does, fun s => ?_⟩
  obtain ⟨t, runs, idle, first⟩ := keyTableEffect_does s
  refine ⟨t, runs, idle, fun waits => ?_⟩
  obtain ⟨x, mem, least, left, now, entry, table, others⟩ := first waits
  exact ⟨x, mem, least, left, now, entry, table, others⟩

end Sys2Proof.Machine
end

section
/-!
PROOFS. The window of the access rules and the broadcast entries (R172, R173, R197, R485).
-/

namespace Sys2Proof.Machine

/-! ### Eight words read or written in turn -/

/-- The eight words of a window lie at places of their own. -/
theorem ruleData_injective : Function.Injective Reg.SRV_RULE_DATA := fun i j h => by
  unfold Reg.SRV_RULE_DATA at h
  omega

theorem ruleKey_injective (n : Nat) : Function.Injective (ruleKey n) := fun i j h => by
  unfold ruleKey at h
  omega

section
variable {α : Type} [DecidableEq α] {d : Nat → α} {key : Nat → Nat} (val : Nat → α)

/-- Entries written in turn at places `key 0` up to `key (k - 1)` are read back. -/
theorem tget_tset_range (apart : Function.Injective key) (t : Tab α) {k i : Nat} (hi : i < k) :
    tget d ((List.range k).foldl (fun t i => tset d t (key i) (val i)) t) (key i) = val i := by
  induction k with
  | zero => exact absurd hi (Nat.not_lt_zero i)
  | succ k ih =>
    rw [List.range_succ, List.foldl_append, List.foldl_cons, List.foldl_nil]
    by_cases last : i = k
    · rw [last, tget_tset_same]
    · rw [tget_tset_ne _ _ _ (fun e => last (apart e)), ih (by omega)]

theorem tget_tset_range_apart (t : Tab α) (k : Nat) {a : Nat} (apart : ∀ i < k, a ≠ key i) :
    tget d ((List.range k).foldl (fun t i => tset d t (key i) (val i)) t) a = tget d t a := by
  induction k with
  | zero => rfl
  | succ k ih =>
    rw [List.range_succ, List.foldl_append, List.foldl_cons, List.foldl_nil, tget_tset_ne _ _ _ (apart k (Nat.lt_succ_self k))]
    exact ih fun i hi => apart i (Nat.lt_succ_of_lt hi)

end

/-- Registers written in turn: the live file alone changes. -/
theorem State.wr_range (key : Nat → Nat) (val : Nat → Word) (k : Nat) (s : State) :
    (List.range k).foldl (fun s i => s.wr (key i) (val i)) s =
      { s with live := (List.range k).foldl (fun t i => tset liveDef t (key i) (val i)) s.live } := by
  generalize List.range k = l
  induction l generalizing s with
  | nil => rfl
  | cons i l ih => exact ih (s.wr (key i) (val i))

/-- Words of the shadow set written in turn: that set alone changes. -/
theorem State.wrSh_range (key : Nat → Nat) (val : Nat → Word) (k : Nat) (s : State) :
    (List.range k).foldl (fun s i => s.wrSh (key i) (val i)) s =
      { s with shadow := (List.range k).foldl (fun t i => tset rwsDef t (key i) (val i)) s.shadow } := by
  generalize List.range k = l
  induction l generalizing s with
  | nil => rfl
  | cons i l ih => exact ih (s.wrSh (key i) (val i))

section
variable {key : Nat → Nat} (val : Nat → Word) (s : State) {k : Nat}

theorem State.rd_wr_range (apart : Function.Injective key) {i : Nat} (hi : i < k) :
    ((List.range k).foldl (fun s i => s.wr (key i) (val i)) s).rd (key i) = val i := by
  rw [State.wr_range]
  exact tget_tset_range val apart s.live hi

theorem State.sh_wrSh_range (apart : Function.Injective key) {i : Nat} (hi : i < k) :
    ((List.range k).foldl (fun s i => s.wrSh (key i) (val i)) s).sh (key i) = val i := by
  rw [State.wrSh_range]
  exact tget_tset_range val apart s.shadow hi

theorem State.sh_wrSh_range_apart {a : Nat} (apart : ∀ i < k, a ≠ key i) :
    ((List.range k).foldl (fun s i => s.wrSh (key i) (val i)) s).sh a = s.sh a := by
  rw [State.wrSh_range]
  exact tget_tset_range_apart val s.shadow k apart

end

/-! ### The commands of the window -/

section
variable (s : State)

/-- The index that the window names. -/
def State.ruleIdx : Nat := fld (s.rd Reg.SRV_RULE_IDX) 0 13

/-- The words that a WRITE would place, without their reserved bits. -/
def State.ruleWords : List Word :=
  (List.range 8).map (fun i => s.rd (Reg.SRV_RULE_DATA i) &&& entryMask s.ruleIdx i)

/-- R172: a command that was not refused completes at the next edge. -/
def State.ruleTaken : State := { s with srv := { s.srv with rule := ⟨false, s.cclkAfter 1⟩ } }

theorem State.ruleWords_getD {i : Nat} (hi : i < 8) :
    s.ruleWords.getD i 0 = s.rd (Reg.SRV_RULE_DATA i) &&& entryMask s.ruleIdx i := by
  simp [State.ruleWords, List.getD_eq_getElem?_getD, List.getElem?_map, List.getElem?_range hi]

/-- R172: a refused command shows REFUSED with EV164 and changes neither set. -/
theorem State.ruleRefused_shows : s.ruleRefused.shadow = s.shadow ∧ s.ruleRefused.active = s.active ∧
    s.ruleRefused.srv.rule.refused = true ∧ s.ruleRefused.evSet 164 = true := by
  unfold State.ruleRefused
  exact ⟨State.raise_shadow .., State.raise_active .., congrArg (·.rule.refused) (State.raise_srv ..),
    State.raise_evSet _ 164 (by decide)⟩

section
variable {s}

theorem State.ruleCmd_beyond {read write : Bool} (one : (read ^^ write) = true) (active : Bool) (beyond : 4111 < s.ruleIdx) :
    s.ruleCmd read write active = s.ruleRefused := by
  unfold State.ruleCmd
  have idx : decide (4111 < fld (s.rd Reg.SRV_RULE_IDX) 0 13) = true := decide_eq_true beyond
  cases read <;> cases write <;> simp_all

theorem State.ruleCmd_read (active : Bool) (within : ¬ 4111 < s.ruleIdx) : s.ruleCmd true false active =
    ((List.range 8).foldl (fun u i => u.wr (Reg.SRV_RULE_DATA i)
      (tget rwsDef (if active = true then s.active else s.shadow) (ruleKey s.ruleIdx i))) s).ruleTaken := by
  have idx : decide (4111 < fld (s.rd Reg.SRV_RULE_IDX) 0 13) = false := decide_eq_false within
  unfold State.ruleCmd
  rw [if_neg (by simp [idx])]
  rfl

theorem State.ruleCmd_write (within : ¬ 4111 < s.ruleIdx) : s.ruleCmd false true false =
    if s.cfg.locked = true then s.lockRefused.ruleTaken
    else if entryBad s.ruleIdx s.ruleWords = true then s.ruleRefused
    else ((List.range 8).foldl (fun u i => u.wrSh (ruleKey s.ruleIdx i) (s.ruleWords.getD i 0)) s).ruleTaken := by
  have idx : decide (4111 < fld (s.rd Reg.SRV_RULE_IDX) 0 13) = false := decide_eq_false within
  unfold State.ruleCmd
  rw [if_neg (by simp [idx])]
  rfl

end

/-- R485: a write that the lock discards is counted. -/
theorem State.lockRefused_counts : s.lockRefused.rd Reg.CFG_LOCK_REFUSED = satAdd (s.rd Reg.CFG_LOCK_REFUSED) 1 := by
  unfold State.lockRefused
  rw [(State.raiseLim_evOnly _ 3 0 msTicks (by decide)).regs _ (by decide), State.bump_rd_same]

@[simp] theorem State.lockRefused_time : s.lockRefused.time = s.time := by simp [State.lockRefused]

end

/-- R172: READ. -/
theorem ruleRead_does (active : Bool) (s : State) (n : Nat) (hn : n = fld (s.rd Reg.SRV_RULE_IDX) 0 13) :
    Does (.ruleRead active) s fun t => t.shadow = s.shadow ∧ t.active = s.active ∧
      if n ≤ 4111 then
        (∀ i : Fin 8, t.rd (Reg.SRV_RULE_DATA i.val) =
          tget rwsDef (if active = true then s.active else s.shadow) (ruleKey n i.val)) ∧
        t.srv.rule = ⟨false, s.cclkAfter 1⟩
      else t.srv.rule.refused = true ∧ t.evSet 164 = true := by
  obtain rfl : n = s.ruleIdx := hn
  refine ⟨s.ruleCmd true false active, rfl, ?_⟩
  by_cases beyond : 4111 < s.ruleIdx
  · obtain ⟨shadow, kept, refused, told⟩ := s.ruleRefused_shows
    rw [State.ruleCmd_beyond rfl active beyond]
    exact ⟨shadow, kept, ite_intro_neg (Nat.not_le.mpr beyond) ⟨refused, told⟩⟩
  · rw [State.ruleCmd_read active beyond]
    have shown (i : Fin 8) := State.rd_wr_range
      (fun i => tget rwsDef (if active = true then s.active else s.shadow) (ruleKey s.ruleIdx i)) s ruleData_injective i.isLt
    rw [State.wr_range] at *
    exact ⟨rfl, rfl, ite_intro_pos (Nat.le_of_not_lt beyond) ⟨shown, rfl⟩⟩

/-- R172, R485: WRITE. -/
theorem ruleWrite_does (s : State) (n : Nat) (hn : n = fld (s.rd Reg.SRV_RULE_IDX) 0 13) : Does .ruleWrite s fun t =>
    t.active = s.active ∧
    if 4111 < n then t.shadow = s.shadow ∧ t.srv.rule.refused = true ∧ t.evSet 164 = true
    else if s.cfg.locked = true then t.shadow = s.shadow ∧ t.srv.rule = ⟨false, s.cclkAfter 1⟩ ∧
      t.rd Reg.CFG_LOCK_REFUSED = satAdd (s.rd Reg.CFG_LOCK_REFUSED) 1
    else if entryBad n ((List.range 8).map (fun i => s.rd (Reg.SRV_RULE_DATA i) &&& entryMask n i)) = true then
      t.shadow = s.shadow ∧ t.srv.rule.refused = true ∧ t.evSet 164 = true
    else
      (∀ i : Fin 8, t.sh (ruleKey n i.val) = s.rd (Reg.SRV_RULE_DATA i.val) &&& entryMask n i.val) ∧
      (∀ a, (∀ i : Fin 8, a ≠ ruleKey n i.val) → t.sh a = s.sh a) ∧ t.live = s.live ∧ t.srv.rule = ⟨false, s.cclkAfter 1⟩ := by
  obtain rfl : n = s.ruleIdx := hn
  refine ⟨s.ruleCmd false true false, rfl, ?_⟩
  obtain ⟨shadow, kept, refused, told⟩ := s.ruleRefused_shows
  by_cases beyond : 4111 < s.ruleIdx
  · rw [State.ruleCmd_beyond rfl false beyond]
    exact ⟨kept, ite_intro_pos beyond ⟨shadow, refused, told⟩⟩
  rw [State.ruleCmd_write beyond]
  by_cases locked : s.cfg.locked = true
  · rw [if_pos locked]
    have edge : s.lockRefused.cclkAfter 1 = s.cclkAfter 1 := by simp [State.cclkAfter]
    exact ⟨s.lockRefused_active, ite_intro_neg beyond (ite_intro_pos locked
      ⟨s.lockRefused_shadow, congrArg (RuleWin.mk false) edge, s.lockRefused_counts⟩)⟩
  rw [if_neg locked]
  by_cases bad : entryBad s.ruleIdx s.ruleWords = true
  · rw [if_pos bad]
    exact ⟨kept, ite_intro_neg beyond (ite_intro_neg locked (ite_intro_pos bad ⟨shadow, refused, told⟩))⟩
  · rw [if_neg bad]
    have placed (i : Fin 8) := State.sh_wrSh_range (fun i => s.ruleWords.getD i 0) s (ruleKey_injective s.ruleIdx) i.isLt
    have others {a : Nat} := State.sh_wrSh_range_apart (key := ruleKey s.ruleIdx) (fun i => s.ruleWords.getD i 0) s
      (k := 8) (a := a)
    rw [State.wrSh_range] at *
    exact ⟨rfl, ite_intro_neg beyond (ite_intro_neg locked (ite_intro_neg bad
      ⟨fun i => (placed i).trans (s.ruleWords_getD i.isLt), fun a apart => others fun i hi => apart ⟨i, hi⟩, rfl, rfl⟩))⟩

/-- Settles O27: READ and WRITE by what the window takes, and eight words written in turn at places of their own. -/
theorem ruleWindow : Obligations.RuleWindow := ⟨ruleRead_does, ruleWrite_does⟩

end Sys2Proof.Machine
end

section
/-!
PROOFS. The NTS master keys: installation, rotation, its trials and the wipe of the retired key (R189, R190, R290).
-/

namespace Sys2Proof.Machine

/-! ### The slots of the ring -/

section
variable (s : State)

theorem State.slotSet_parts (i : Nat) (k : KeySlot) : (s.slotSet i k).srv = s.srv ∧ (s.slotSet i k).time = s.time ∧
    (s.slotSet i k).draws = s.draws := by
  have touch := State.slotSet_touch (w := 538968577) rfl s i k (.refl ..)
  exact ⟨touch.same .srv rfl, touch.same .time rfl, touch.same .draws rfl⟩

/-- R290: the slots of the four roles differ. -/
theorem State.ringSlot_ne_next {role : Nat} (h : role < 3) : s.ringSlot role ≠ s.ringSlot 3 := by
  unfold State.ringSlot
  omega

/-- R286: without a next key no role has the key of the next slot. -/
theorem State.ntsForget_next (none : s.srv.nts.next = none) : s.ntsForget (s.ringSlot 3) = s := by
  unfold State.ntsForget
  simp [none, s.ringSlot_ne_next (role := 0) (by decide), s.ringSlot_ne_next (role := 1) (by decide),
    s.ringSlot_ne_next (role := 2) (by decide)]

theorem State.slotWipe_next (none : s.srv.nts.next = none) : (s.slotWipe (s.ringSlot 3)).srv = s.srv ∧
    (s.slotWipe (s.ringSlot 3)).time = s.time := by
  unfold State.slotWipe
  rw [s.ntsForget_next none]
  exact ⟨(s.slotSet_parts ..).1, (s.slotSet_parts ..).2.1⟩

end

/-! ### Installation -/

/-- The key that KC draws next: its ID follows that of the current key, and without one it is drawn as well (R188, R189). -/
def State.drawnKey (s : State) : MasterKey :=
  ⟨match s.srv.nts.cur with
    | some k => (k.id + 1) % 2 ^ 32
    | none => (Config.trng s.draws).toNat / 2 ^ 480 % 2 ^ 32, Config.trng s.draws, secOf s.srv.nts.rotateAt⟩

theorem execNtsKeyInstall_eq (b : List Byte) (s : State) : exec (.ntsKeyInstall b) s = .next (
    if s.taskStopped 4 = true then s
    else if s.ntsImported = true then (s.importBundle b true).2
    else if s.srv.nts.next.isSome = true then s
    else s.draw.2.ntsNext s.drawnKey s.drawnKey.slot) := by
  change execNtsKeyInstall b s = _
  unfold execNtsKeyInstall State.draw
  split
  · rfl
  split
  · rfl
  dsimp only
  split
  · rfl
  · rfl

/-- R189: in internal mode the next key and the instant of its installation are noted. -/
theorem State.ntsNext_internal {s : State} (internal : s.ntsImported = false) (k : MasterKey) (ks : KeySlot) :
    (s.ntsNext k ks).srv.nts = { s.srv.nts with next := some k, nextAt := s.nowSt } ∧ (s.ntsNext k ks).draws = s.draws := by
  unfold State.ntsNext
  dsimp only
  rw [(State.slotSet_parts ..).1, (State.slotSet_parts ..).2.2, internal]
  exact ⟨rfl, rfl⟩

/-- R189, R190: KC installs the next key. -/
theorem ntsKeyInstall_does (b : List Byte) (s : State) : Does (.ntsKeyInstall b) s fun t =>
    if s.taskStopped 4 = true then t = s
    else if s.ntsImported = true then t = (s.importBundle b true).2
    else if s.srv.nts.next.isSome = true then t = s
    else t.srv.nts = { s.srv.nts with nextAt := s.nowSt, next := some s.drawnKey } ∧ t.draws = s.draws + 1 := by
  refine ⟨_, execNtsKeyInstall_eq b s, ?_⟩
  split
  · rfl
  split
  · rfl
  split
  · rfl
  · rename_i internal _
    exact State.ntsNext_internal (s := s.draw.2) (Bool.eq_false_iff.mpr internal) _ _

/-! ### Rotation -/

section
variable (s : State) (a : Nat)

/-- R189: the roles at a rotation at stamp `a`. -/
def State.ntsAdvanced : State :=
  let s := s.updNts (fun n => { n with
    cur := n.next, prev1 := n.cur, prev2 := n.prev1, next := none
    oldCur := n.cur, oldPrev1 := n.prev1, oldPrev2 := n.prev2, retired := n.prev2
    boundary := a, wipeAt := s.time.now + 100 * usTicks, retryAt := none
    rotateAt := if s.ntsImported then 0 else a + stSec * fld (s.ac Reg.SRV_NTS_ROTATE) 0 20 })
  { s with pke := { s.pke with ring := (s.pke.ring + 3) % 4 } }

/-- R189: a rotation advances the roles with EV166; a retired key not yet wiped loses its slot. -/
theorem State.ntsTurn_spec : (s.ntsTurn a).srv = (s.ntsAdvanced a).srv ∧ (s.ntsTurn a).time = s.time ∧
    (s.ntsTurn a).evSet 166 = true := by
  have turn : s.ntsTurn a = (if s.srv.nts.retired.isSome = true then (s.ntsAdvanced a).slotWipe ((s.ntsAdvanced a).ringSlot 3)
    else s.ntsAdvanced a).raise 166 := rfl
  obtain ⟨srv, time⟩ := (s.ntsAdvanced a).slotWipe_next rfl
  rw [turn, State.raise_srv, State.raise_time]
  refine ⟨?_, ?_, State.raise_evSet _ 166 (by decide)⟩
  · split
    · exact srv
    · rfl
  · split
    · exact time
    · rfl

/-- R189: in `t` the roles have advanced by one, at the boundary of a rotation due at stamp `a`. -/
def State.ntsRotated (t : State) : Prop :=
  t.srv.nts.cur = s.srv.nts.next ∧ t.srv.nts.prev1 = s.srv.nts.cur ∧ t.srv.nts.prev2 = s.srv.nts.prev1 ∧
  t.srv.nts.retired = s.srv.nts.prev2 ∧ t.srv.nts.next = none ∧ t.srv.nts.retryAt = none ∧
  t.srv.nts.boundary = max a s.nowSt ∧ t.srv.nts.wipeAt = t.time.now + 100 * usTicks ∧ t.evSet 166 = true

/-- R190: the state in which a rotation due at stamp `a` is tried. -/
def State.ntsTrial : State := s.advDt (stUnit * a)

/-- R190: the next trial is 60 s after one at stamp `a` that found no key. -/
def State.ntsPostpone : State :=
  (s.ntsTrial a).updNts (fun n => { n with retryAt := some (max a s.nowSt + 60 * stSec) })

@[simp] theorem State.ntsTrial_srv : (s.ntsTrial a).srv = s.srv := State.advDt_srv ..

/-- R189: a trial that finds the next key. -/
theorem State.ntsTrial_turns : ((s.ntsTrial a).ntsTurn (max a s.nowSt)).time = (s.advDt (stUnit * a)).time ∧
    s.ntsRotated a ((s.ntsTrial a).ntsTurn (max a s.nowSt)) := by
  obtain ⟨turned, now, told⟩ := (s.ntsTrial a).ntsTurn_spec (max a s.nowSt)
  have before := s.ntsTrial_srv a
  refine ⟨now, ?_⟩
  unfold State.ntsRotated
  rw [turned, now]
  refine ⟨?_, ?_, ?_, ?_, rfl, rfl, rfl, rfl, told⟩
  · exact congrArg (·.nts.next) before
  · exact congrArg (·.nts.cur) before
  · exact congrArg (·.nts.prev1) before
  · exact congrArg (·.nts.prev2) before

/-- R190: a trial that finds no next key. -/
theorem State.ntsPostpone_nts :
    (s.ntsPostpone a).srv.nts = { s.srv.nts with retryAt := some (max a s.nowSt + 60 * stSec) } :=
  congrArg (fun v : SrvSt => ({ v.nts with retryAt := some (max a s.nowSt + 60 * stSec) } : NtsSt)) (s.ntsTrial_srv a)

end

section
variable {s : State} {a : Nat}

theorem execNtsRotate_due (first : s.srv.nts.retryAt = none) (at_ : s.srv.nts.rotateAt = a) (set : a ≠ 0) : exec .ntsRotate s =
    .next (if s.srv.nts.ready a = true then (s.ntsTrial a).ntsTurn (max a s.nowSt) else s.ntsPostpone a) := by
  change execNtsRotate s = _
  unfold execNtsRotate
  dsimp only
  rw [if_neg (by simp [first, at_, set]), at_, ← State.ntsTrial, State.ntsTrial_srv]
  rfl

theorem execNtsRotate_idle (idle : s.srv.nts.rotateAt = 0 ∨ s.srv.nts.retryAt.isSome = true) : exec .ntsRotate s = .next s := by
  change execNtsRotate s = _
  unfold execNtsRotate
  rw [if_pos (by simpa using idle)]

theorem execNtsRotateRetry_due (waits : s.srv.nts.retryAt = some a) : exec .ntsRotateRetry s =
    .next (if s.srv.nts.ready a = true then (s.ntsTrial a).ntsTurn (max a s.nowSt) else (s.ntsPostpone a).raise 167) := by
  change execNtsRotateRetry s = _
  unfold execNtsRotateRetry
  rw [waits]
  dsimp only
  rw [← State.ntsTrial, State.ntsTrial_srv]
  rfl

theorem execNtsRotateRetry_idle (idle : s.srv.nts.retryAt = none) : exec .ntsRotateRetry s = .next s := by
  change execNtsRotateRetry s = _
  unfold execNtsRotateRetry
  rw [idle]

end

/-- R189, R190: a rotation at its time, and a trial of one that waits. -/
theorem ntsRotation_does (s : State) (c : Instr) (a : Nat)
    (due : (c = .ntsRotate ∧ s.srv.nts.retryAt = none ∧ s.srv.nts.rotateAt = a ∧ a ≠ 0) ∨
      (c = .ntsRotateRetry ∧ s.srv.nts.retryAt = some a)) :
    Does c s fun t => t.time = (s.advDt (stUnit * a)).time ∧
      if s.srv.nts.ready a = true then s.ntsRotated a t
      else t.srv.nts = { s.srv.nts with retryAt := some (max a s.nowSt + 60 * stSec) } ∧ (c = .ntsRotateRetry → t.evSet 167 = true) := by
  by_cases ready : s.srv.nts.ready a = true
  · obtain ⟨time, rotated⟩ := s.ntsTrial_turns a
    have turns : exec c s = .next ((s.ntsTrial a).ntsTurn (max a s.nowSt)) := by
      obtain ⟨rfl, first, at_, set⟩ | ⟨rfl, waits⟩ := due
      · rw [execNtsRotate_due first at_ set, if_pos ready]
      · rw [execNtsRotateRetry_due waits, if_pos ready]
    exact ⟨_, turns, time, ite_intro_pos ready rotated⟩
  · obtain ⟨rfl, first, at_, set⟩ | ⟨rfl, waits⟩ := due
    · exact ⟨s.ntsPostpone a, by rw [execNtsRotate_due first at_ set, if_neg ready], rfl,
        ite_intro_neg ready ⟨s.ntsPostpone_nts a, nofun⟩⟩
    · refine ⟨(s.ntsPostpone a).raise 167, by rw [execNtsRotateRetry_due waits, if_neg ready], State.raise_time ..,
        ite_intro_neg ready ⟨?_, fun _ => State.raise_evSet _ 167 (by decide)⟩⟩
      rw [State.raise_srv]
      exact s.ntsPostpone_nts a

/-! ### The retired key -/

/-- R189: KC forgets the retired key, and the set before the boundary with it. -/
def State.ntsRetire (s : State) : State :=
  (s.advTo s.srv.nts.wipeAt).updNts (fun n => { n with retired := none, oldCur := n.cur, oldPrev1 := n.prev1, oldPrev2 := n.prev2 })

theorem execNtsKeyWipe_none {s : State} (none : ¬ s.srv.nts.retired.isSome = true) : exec .ntsKeyWipe s = .next s := by
  change execNtsKeyWipe s = _
  unfold execNtsKeyWipe
  rw [if_pos (by simpa using none)]

theorem execNtsKeyWipe_due {s : State} (due : s.srv.nts.retired.isSome = true) : exec .ntsKeyWipe s =
    .next (if s.ntsRetire.srv.nts.next.isNone = true then s.ntsRetire.slotWipe (s.ntsRetire.ringSlot 3) else s.ntsRetire) := by
  change execNtsKeyWipe s = _
  unfold execNtsKeyWipe
  rw [if_neg (by simpa [Option.isSome_iff_ne_none] using due)]
  rfl

theorem State.ntsRetire_parts (s : State) : s.ntsRetire.srv.nts.retired = none ∧ s.ntsRetire.srv.nts.cur = s.srv.nts.cur ∧
    s.ntsRetire.srv.nts.prev1 = s.srv.nts.prev1 ∧ s.ntsRetire.time.now = max s.time.now s.srv.nts.wipeAt := by
  have before : (s.advTo s.srv.nts.wipeAt).srv = s.srv := State.advTo_srv ..
  exact ⟨rfl, congrArg (·.nts.cur) before, congrArg (·.nts.prev1) before, State.advTo_now ..⟩

/-- R189: the retired key is wiped. -/
theorem ntsKeyWipe_does (s : State) : Does .ntsKeyWipe s fun t => if s.srv.nts.retired.isSome = true then
      t.srv.nts.retired = none ∧ t.srv.nts.cur = s.srv.nts.cur ∧ t.srv.nts.prev1 = s.srv.nts.prev1 ∧
      t.time.now = max s.time.now s.srv.nts.wipeAt
    else t = s := by
  by_cases due : s.srv.nts.retired.isSome = true
  · refine ⟨_, execNtsKeyWipe_due due, ite_intro_pos due ?_⟩
    by_cases none : s.ntsRetire.srv.nts.next.isNone = true
    · obtain ⟨srv, time⟩ := s.ntsRetire.slotWipe_next (Option.isNone_iff_eq_none.mp none)
      rw [if_pos none, srv, time]
      exact s.ntsRetire_parts
    · rw [if_neg none]
      exact s.ntsRetire_parts
  · exact ⟨s, execNtsKeyWipe_none due, ite_intro_neg due rfl⟩

/-- Settles O28: each command by its branches; a wipe of the next slot takes no key from a role while there is no next key. -/
theorem masterKeys : Obligations.MasterKeys :=
  ⟨ntsKeyInstall_does, ntsRotation_does,
    fun s => ⟨fun idle => ⟨s, execNtsRotate_idle idle, rfl⟩, fun idle => ⟨s, execNtsRotateRetry_idle idle, rfl⟩⟩, ntsKeyWipe_does⟩

end Sys2Proof.Machine
end

section
/-!
PROOFS. The NTS-KE server: connections, requests and timeouts (R192–R195).
-/

namespace Sys2Proof.Machine

/-! ### The jobs of a handshake -/

/-- The registers of the engines. -/
def EngReg (a : Nat) : Prop := 0x1100000 ≤ a ∧ a < 0x1180000

theorem EngReg.evKey {a : Nat} (h : EngReg a) : evKey a = false := by
  obtain ⟨lo, hi⟩ := h
  simp only [Machine.evKey, Bool.or_eq_false_iff, Bool.and_eq_false_iff, decide_eq_false_iff_not]
  unfold Reg.EVT_STAT
  omega

/-- `t` is `s` after work on the engines: of the registers it writes theirs and event status, and what has left the package stays. -/
structure EngWork (s t : State) : Prop where
  regs : RegWork EngReg s t
  out : KeepsOut s t

section
variable {s t u : State}

theorem EngWork.refl (s : State) : EngWork s s := ⟨.refl s, .refl s⟩

theorem EngWork.trans (h : EngWork s t) (k : EngWork t u) : EngWork s u := ⟨h.regs.trans k.regs, h.out.trans k.out⟩

theorem EngWork.bump (h : EngWork s t) {a : Nat} (m : EngReg a) (n : Nat) : EngWork s (t.bump a n) :=
  h.trans ⟨.wr (.refl t) _ m m.evKey, .bump t a n⟩

theorem EngWork.of_evOnly (h : EvOnly t u) : EngWork t u := ⟨⟨fun a _ y => h.regs a y, fun e _ => h.sets e⟩, .of_evOnly h⟩

theorem EngWork.updEng (h : EngWork s t) (i : Nat) (f : Engine → Engine) : EngWork s (t.updEng i f) :=
  h.trans ⟨.of_live rfl, .of_outbox rfl⟩

theorem EngWork.pkeBusy (h : EngWork s t) {i : Nat} (hi : i < 8) (n : Nat) : EngWork s (t.pkeBusy i n) :=
  (h.updEng i _).bump (by unfold EngReg Reg.PKE_BUSY; omega) _

theorem EngWork.ite {c : Prop} [Decidable c] (h : EngWork s t) (k : EngWork s u) : EngWork s (if c then t else u) := by
  split <;> assumption

theorem State.coreMark_evOnly (s : State) (c : Nat) {e : Nat} (he : e < 256) : EvOnly s (s.coreMark c e) :=
  State.orBits_evOnly _ _ _ (evKey_core (coreMaster c) (by unfold coreMaster; split <;> decide) e he)

theorem State.ownJob_work (s : State) (c p n : Nat) : EngWork s (s.ownJob c p n) := by
  unfold State.ownJob
  dsimp only
  split
  · exact .refl s
  rename_i i found
  have hi : i < 8 := by
    rcases (Option.orElse_eq_some _ _ _).mp found with first | ⟨-, first⟩
    all_goals exact List.mem_range.mp (List.mem_of_find?_eq_some first)
  have wipes : EngReg (Reg.PKE_WIPES i) := by unfold EngReg Reg.PKE_WIPES; omega
  have jobs : EngReg (Reg.PKE_JOBS i) := by unfold EngReg Reg.PKE_JOBS; omega
  refine .trans (.trans (.trans ?_ (.of_evOnly (State.flow_evOnly ..))) (.of_evOnly (State.coreMark_evOnly _ c (by decide))))
    (.of_evOnly (State.raise_evOnly _ 194 (by decide)))
  refine ((((EngWork.ite ?_ (.refl s)).updEng i _).updEng i _).pkeBusy hi n).bump jobs 1
  exact ((EngWork.refl s).bump wipes 1).pkeBusy hi 2048

theorem State.handshake_work (s : State) (c : Nat) (g : TlsGroup) (cert : KeySlot) : EngWork s (s.handshake c g cert) :=
  (State.ownJob_work ..).trans (State.ownJob_work ..)

end

/-! ### The parts that the work leaves -/

theorem State.taskStopped_congr {s t : State} (h : t.mbx = s.mbx) (c : Nat) : t.taskStopped c = s.taskStopped c := by
  unfold State.taskStopped State.taskCore State.coreFailed
  rw [h]

theorem State.taskCore_of_serves {s : State} {c : Nat} (serves : s.taskStopped c = false) : ∃ k, s.taskCore c = some k := by
  cases found : s.taskCore c with
  | some k => exact ⟨k, rfl⟩
  | none => simp [State.taskStopped, found] at serves

theorem KeepsOut.emit {s t : State} (h : KeepsOut s t) (o : Out) : KeepsOut s (t.emit o) :=
  h.trans ⟨fun _ ho => List.mem_cons_of_mem o ho⟩

/-! ### Connections -/

/-- R192, R195: connections are taken from the listening server by the core that has the tasks of half `c`. -/
def State.keListens (s : State) (c : Nat) : Prop :=
  bitAt (s.ac Reg.SRV_NTSKE_CTRL) 12 = true ∧ s.srv.keReady = true ∧ s.taskStopped c = false

/-- R195: one more connection from `a` is beyond a limit. -/
def State.keFull (s : State) (a : BitVec 128) : Prop :=
  16384 ≤ s.srv.conns.length ∨ fld (s.ac Reg.SRV_NTSKE_CTRL) 8 4 ≤ (s.srv.conns.filter (fun k => k.addr == a)).length

section
variable {s : State} {a : BitVec 128} {sc3 : Bool}

theorem State.keListens_iff (c : Nat) : ¬ (!bitAt (s.ac Reg.SRV_NTSKE_CTRL) 12 || !s.srv.keReady || s.taskStopped c) = true ↔
    s.keListens c := by
  simp [State.keListens, and_assoc]

theorem execNtskeConnect_idle (idle : ¬ s.keListens (if sc3 = true then 3 else 2)) : exec (.ntskeConnect a sc3) s = .next s :=
  if_pos (Classical.not_not.mp fun c => idle ((State.keListens_iff _).mp c))

theorem execNtskeConnect_full (listens : s.keListens (if sc3 = true then 3 else 2)) (full : s.keFull a) :
    exec (.ntskeConnect a sc3) s = .next (((s.bump Reg.SRV_NTSKE_REFUSED).emit (.tcp a true)).raiseLim 168 0 sTicks) :=
  (if_neg ((State.keListens_iff _).mpr listens)).trans (if_pos (by simpa [State.keFull] using full))

theorem execNtskeConnect_taken (listens : s.keListens (if sc3 = true then 3 else 2)) (room : ¬ s.keFull a) {c : Nat}
    (core : s.taskCore (if sc3 = true then 3 else 2) = some c) :
    exec (.ntskeConnect a sc3) s = .next (s.setConns (s.srv.conns ++ [⟨a, s.time.now, c⟩])) := by
  refine (if_neg ((State.keListens_iff _).mpr listens)).trans ((if_neg (by simpa [State.keFull] using room)).trans ?_)
  rw [core]
  rfl

end

/-- R195: a SYN. -/
theorem ntskeConnect_does (a : BitVec 128) (sc3 : Bool) (s : State) : Does (.ntskeConnect a sc3) s fun t =>
    if bitAt (s.ac Reg.SRV_NTSKE_CTRL) 12 = true ∧ s.srv.keReady = true ∧ s.taskStopped (if sc3 = true then 3 else 2) = false then
      if 16384 ≤ s.srv.conns.length ∨ fld (s.ac Reg.SRV_NTSKE_CTRL) 8 4 ≤ (s.srv.conns.filter (fun k => k.addr == a)).length then
        t.srv = s.srv ∧ .tcp a true ∈ t.outbox ∧ t.rd Reg.SRV_NTSKE_REFUSED = satAdd (s.rd Reg.SRV_NTSKE_REFUSED) 1
      else ∃ c, s.taskCore (if sc3 = true then 3 else 2) = some c ∧
        t = { s with srv := { s.srv with conns := s.srv.conns ++ [⟨a, s.time.now, c⟩] } }
    else t = s := by
  by_cases listens : s.keListens (if sc3 = true then 3 else 2)
  · by_cases full : s.keFull a
    · refine ⟨_, execNtskeConnect_full listens full, ite_intro_pos listens (ite_intro_pos full ?_)⟩
      have limited := State.raiseLim_evOnly ((s.bump Reg.SRV_NTSKE_REFUSED).emit (.tcp a true)) 168 0 sTicks (by decide)
      refine ⟨State.raiseLim_srv .., (KeepsOut.of_evOnly limited).mem _ List.mem_cons_self, ?_⟩
      exact (limited.regs _ (by decide)).trans (State.bump_rd_same ..)
    · obtain ⟨c, core⟩ := State.taskCore_of_serves listens.2.2
      exact ⟨_, execNtskeConnect_taken listens full core, ite_intro_pos listens (ite_intro_neg full ⟨c, core, rfl⟩)⟩
  · exact ⟨s, execNtskeConnect_idle listens, ite_intro_neg listens rfl⟩

/-- R193: the connection from `a` ends without a whole exchange, and those of `l` remain. -/
def State.keLapse (s : State) (a : BitVec 128) (l : List KeConn) : State := (s.setConns l).keFail a

theorem State.keLapse_spec (s : State) (a : BitVec 128) (l : List KeConn) :
    (s.keLapse a l).srv = { s.srv with conns := l } ∧ (s.keLapse a l).outbox = .tcp a false :: s.outbox ∧
      (s.keLapse a l).time = s.time ∧ (s.keLapse a l).rd Reg.SRV_NTSKE_FAIL = satAdd (s.rd Reg.SRV_NTSKE_FAIL) 1 :=
  ⟨rfl, rfl, rfl, State.bump_rd_same ..⟩

theorem execNtskeTimeout_cons {s : State} {k : KeConn} {l : List KeConn} (conns : s.srv.conns = k :: l) :
    exec .ntskeTimeout s = .next ((s.advTo (k.since + 5 * sTicks)).keLapse k.addr l) := by
  change execNtskeTimeout s = _
  unfold execNtskeTimeout
  rw [conns]
  rfl

theorem execNtskeTimeout_nil {s : State} (conns : s.srv.conns = []) : exec .ntskeTimeout s = .next s := by
  change execNtskeTimeout s = _
  unfold execNtskeTimeout
  rw [conns]

/-- R193: the oldest connection has not completed its exchange in time. -/
theorem ntskeTimeout_does (s : State) : Does .ntskeTimeout s fun t => match s.srv.conns with
    | [] => t = s
    | k :: l => t.srv = { s.srv with conns := l } ∧ t.outbox = .tcp k.addr false :: s.outbox ∧
      t.time.now = max s.time.now (k.since + 5 * sTicks) ∧ t.rd Reg.SRV_NTSKE_FAIL = satAdd (s.rd Reg.SRV_NTSKE_FAIL) 1 := by
  cases conns : s.srv.conns with
  | nil => exact ⟨s, execNtskeTimeout_nil conns, rfl⟩
  | cons k l =>
    obtain ⟨srv, out, time, fail⟩ := (s.advTo (k.since + 5 * sTicks)).keLapse_spec k.addr l
    rw [State.advTo_srv] at srv
    rw [State.advTo_outbox] at out
    rw [State.rd_advTo] at fail
    exact ⟨_, execNtskeTimeout_cons conns, srv, out, (congrArg TimeSt.now time).trans (State.advTo_now ..), fail⟩

/-! ### Requests -/

section
variable (a : BitVec 128) (k : KeConn) (s : State)

/-- R193: connection `k` is closed. -/
def State.keTaken : State := s.setConns (s.srv.conns.erase k)

/-- R192: a HelloRetryRequest for group `g` goes out where `again` says so. -/
def State.keAsked (g : Option TlsGroup) (again : Bool) : State :=
  if again = true then (s.keTaken k).emit (.tlsRetry a g) else s.keTaken k

/-- R192: the slot of the key that signs for the server. -/
def State.keSigner : KeySlot := s.kslot (fld (s.ac Reg.SRV_NTSKE_CTRL) 0 8)

/-- R192, R194: the server's side of a handshake of connection `k`, after the HelloRetryRequest where one is sent. -/
def State.keServed (c : TlsSuite) (g : TlsGroup) (again : Bool) : State :=
  ((s.keAsked a k (some g) again).handshake k.core g (s.keTaken k).keSigner).emit (.tlsServer a c g (s.keTaken k).keSigner.scheme)

/-- R194: the answer with eight cookies under the master key `m`, and the close. -/
def State.keDone (m : MasterKey) (c : TlsSuite) (ex : List Byte) : State :=
  let (cnt, s) := s.cookieCount 0x8000 8
  ((s.bump Reg.SRV_NTSKE_DONE).emit
    (.ntske a (keResponse s.srv.keServer m s.srv.nts.noncePrefix cnt (keKey c ex 0) (keKey c ex 1)))).emit (.tcp a false)

/-- R192–R194: what follows a handshake. -/
def State.keFinish (c : TlsSuite) (fin : Bool) (rs : List (Nat × Bool × List Byte)) (ex : List Byte) : State :=
  if fin = false then (s.emit (.tlsAlert a 51)).keFail a else match keError rs with
  | some e => (s.emit (.ntske a [(2, beBytes 2 e), (0, [])])).keFail a
  | none => match s.srv.nts.cur with
    | none => s.keFail a
    | some m => if s.taskStopped 4 = true then s.keFail a else s.keDone a m c ex

end

section
variable {a : BitVec 128} {h : TlsHello} {fin : Bool} {rs : List (Nat × Bool × List Byte)} {ex : List Byte} {s : State} {k : KeConn}

theorem execNtskeRequest_none (none : s.srv.conns.find? (fun k => k.addr == a) = none) :
    exec (.ntskeRequest a h fin rs ex) s = .next s := by
  change execNtskeRequest a h fin rs ex s = _
  unfold execNtskeRequest
  rw [none]

theorem execNtskeRequest_refused (found : s.srv.conns.find? (fun k => k.addr == a) = some k) {e : Nat}
    (refuses : tlsChoose h s.keSigner.scheme = .error e) : exec (.ntskeRequest a h fin rs ex) s =
      .next (((s.keAsked a k (tlsAsk h) (decide (e = 47))).emit (.tlsAlert a e)).keFail a) := by
  have choice : tlsChoose h (s.keTaken k).keSigner.scheme = .error e := refuses
  change execNtskeRequest a h fin rs ex s = _
  unfold State.keAsked
  unfold State.keSigner State.keTaken at *
  unfold execNtskeRequest
  rw [found]
  dsimp only
  rw [choice]
  simp only [decide_eq_true_eq]

theorem execNtskeRequest_served (found : s.srv.conns.find? (fun k => k.addr == a) = some k) {c : TlsSuite} {g : TlsGroup} {again : Bool}
    (chooses : tlsChoose h s.keSigner.scheme = .ok (c, g, again)) :
    exec (.ntskeRequest a h fin rs ex) s = .next ((s.keServed a k c g again).keFinish a c fin rs ex) := by
  have choice : tlsChoose h (s.keTaken k).keSigner.scheme = .ok (c, g, again) := chooses
  change execNtskeRequest a h fin rs ex s = _
  unfold State.keServed State.keAsked
  unfold State.keSigner State.keTaken at *
  unfold execNtskeRequest State.keFinish
  rw [found]
  dsimp only
  rw [choice]
  dsimp only
  generalize State.emit _ (.tlsServer a c g _) = w
  cases fin with
  | false => rfl
  | true =>
    cases keError rs with
    | some e => rfl
    | none =>
      cases w.srv.nts.cur with
      | none => rfl
      | some m =>
        by_cases stopped : w.taskStopped 4 = true
        · simp only [stopped]
          rfl
        · simp only [stopped]
          rfl

end

/-- From `w` to `t` the exchange with `a` ends with its close; the connections and what has left the package stay. -/
structure KeEnds (a : BitVec 128) (w t : State) : Prop where
  conns : t.srv.conns = w.srv.conns
  closed : .tcp a false ∈ t.outbox
  out : KeepsOut w t

/-- R193–R195: what follows a handshake from `s`: each failure is answered as its rule says and counted, and otherwise the answer is
eight cookies of the current key, counted as well. -/
def KeOutcome (a : BitVec 128) (c : TlsSuite) (fin : Bool) (rs : List (Nat × Bool × List Byte)) (ex : List Byte) (s t : State) : Prop :=
  let failed : Prop := t.rd Reg.SRV_NTSKE_FAIL = satAdd (s.rd Reg.SRV_NTSKE_FAIL) 1
  if fin = false then .tlsAlert a 51 ∈ t.outbox ∧ failed else match keError rs with
  | some e => .ntske a [(2, beBytes 2 e), (0, [])] ∈ t.outbox ∧ failed
  | none => match s.srv.nts.cur with
    | none => failed
    | some m => if s.taskStopped 4 = true then failed
      else t.rd Reg.SRV_NTSKE_DONE = satAdd (s.rd Reg.SRV_NTSKE_DONE) 1 ∧ ∃ n,
        .ntske a (keResponse s.srv.keServer m s.srv.nts.noncePrefix n (keKey c ex 0) (keKey c ex 1)) ∈ t.outbox

theorem KeOutcome.before {a : BitVec 128} {c : TlsSuite} {fin : Bool} {rs : List (Nat × Bool × List Byte)} {ex : List Byte} {s w t : State}
    (h : KeOutcome a c fin rs ex w t) (nts : w.srv.nts = s.srv.nts) (server : w.srv.keServer = s.srv.keServer) (mbx : w.mbx = s.mbx)
    (fails : w.rd Reg.SRV_NTSKE_FAIL = s.rd Reg.SRV_NTSKE_FAIL) (dones : w.rd Reg.SRV_NTSKE_DONE = s.rd Reg.SRV_NTSKE_DONE) :
    KeOutcome a c fin rs ex s t := by
  unfold KeOutcome at *
  rwa [nts, server, fails, dones, State.taskStopped_congr mbx] at h

section
variable (a : BitVec 128) (w : State)

theorem State.keFail_spec : KeEnds a w (w.keFail a) ∧ (w.keFail a).rd Reg.SRV_NTSKE_FAIL = satAdd (w.rd Reg.SRV_NTSKE_FAIL) 1 :=
  ⟨⟨rfl, List.mem_cons_self, (KeepsOut.bump ..).emit _⟩, State.bump_rd_same ..⟩

/-- A failure that is answered with `o` before the close. -/
theorem State.keFail_answered (o : Out) : KeEnds a w ((w.emit o).keFail a) ∧ o ∈ ((w.emit o).keFail a).outbox ∧
    ((w.emit o).keFail a).rd Reg.SRV_NTSKE_FAIL = satAdd (w.rd Reg.SRV_NTSKE_FAIL) 1 := by
  obtain ⟨⟨conns, closed, out⟩, fail⟩ := (w.emit o).keFail_spec a
  exact ⟨⟨conns, closed, ((KeepsOut.refl w).emit o).trans out⟩, out.mem o List.mem_cons_self, fail⟩

theorem State.keDone_spec (m : MasterKey) (c : TlsSuite) (ex : List Byte) : KeEnds a w (w.keDone a m c ex) ∧
    (w.keDone a m c ex).rd Reg.SRV_NTSKE_DONE = satAdd (w.rd Reg.SRV_NTSKE_DONE) 1 ∧ ∃ n,
      .ntske a (keResponse w.srv.keServer m w.srv.nts.noncePrefix n (keKey c ex 0) (keKey c ex 1)) ∈ (w.keDone a m c ex).outbox :=
  ⟨⟨rfl, List.mem_cons_self, ⟨fun _ ho => List.mem_cons_of_mem _ (List.mem_cons_of_mem _ ho)⟩⟩, State.bump_rd_same ..,
    _, List.mem_cons_of_mem _ List.mem_cons_self⟩

theorem State.keFinish_spec (c : TlsSuite) (fin : Bool) (rs : List (Nat × Bool × List Byte)) (ex : List Byte) :
    KeEnds a w (w.keFinish a c fin rs ex) ∧ KeOutcome a c fin rs ex w (w.keFinish a c fin rs ex) := by
  unfold State.keFinish KeOutcome
  cases fin with
  | false => exact w.keFail_answered a _
  | true =>
    cases keError rs with
    | some e => exact w.keFail_answered a _
    | none =>
      cases w.srv.nts.cur with
      | none => exact w.keFail_spec a
      | some m =>
        by_cases stopped : w.taskStopped 4 = true
        · simp only [stopped]
          exact w.keFail_spec a
        · simp only [stopped]
          exact w.keDone_spec a m c ex

end

section
variable (a : BitVec 128) (k : KeConn) (s : State)

theorem State.keAsked_parts (g : Option TlsGroup) (again : Bool) : (s.keAsked a k g again).srv = (s.keTaken k).srv ∧
    (s.keAsked a k g again).mbx = s.mbx ∧ (s.keAsked a k g again).live = s.live := by
  cases again <;> exact ⟨rfl, rfl, rfl⟩

/-- R192: the handshake takes the connection, sends what the server chose, and leaves the keys and the counters of the server. -/
theorem State.keServed_spec (c : TlsSuite) (g : TlsGroup) (again : Bool) {u : State} (hu : u = s.keServed a k c g again) :
    u.srv = { s.srv with conns := s.srv.conns.erase k } ∧ u.mbx = s.mbx ∧
      .tlsServer a c g s.keSigner.scheme ∈ u.outbox ∧ (again = true → .tlsRetry a (some g) ∈ u.outbox) ∧
      ∀ r, ¬ EngReg r → evKey r = false → u.rd r = s.rd r := by
  have served : u = ((s.keAsked a k (some g) again).handshake k.core g (s.keTaken k).keSigner).emit (.tlsServer a c g s.keSigner.scheme) := hu
  have touch := State.handshake_touch (w := 538968577) rfl (s.keAsked a k (some g) again) k.core g (s.keTaken k).keSigner (.refl ..)
  have work := (s.keAsked a k (some g) again).handshake_work k.core g (s.keTaken k).keSigner
  obtain ⟨srv, mbx, live⟩ := s.keAsked_parts a k (some g) again
  rw [served]
  refine ⟨(touch.same .srv rfl).trans srv, (touch.same .mbx rfl).trans mbx, List.mem_cons_self, fun yes => ?_, fun r other key => ?_⟩
  · refine List.mem_cons_of_mem _ (work.out.mem _ ?_)
    rw [yes]
    exact List.mem_cons_self
  · exact (work.regs.regs r other key).trans (State.rd_congr live r)

end

/-- R192–R195: a request. -/
theorem ntskeRequest_does (a : BitVec 128) (h : TlsHello) (fin : Bool) (rs : List (Nat × Bool × List Byte)) (ex : List Byte) (s : State) :
    Does (.ntskeRequest a h fin rs ex) s fun t => match s.srv.conns.find? (fun k => k.addr == a) with
      | none => t = s
      | some k => t.srv.conns = s.srv.conns.erase k ∧ .tcp a false ∈ t.outbox ∧ match tlsChoose h s.keSigner.scheme with
        | .error e => .tlsAlert a e ∈ t.outbox ∧ t.rd Reg.SRV_NTSKE_FAIL = satAdd (s.rd Reg.SRV_NTSKE_FAIL) 1
        | .ok (c, g, again) => .tlsServer a c g s.keSigner.scheme ∈ t.outbox ∧ (again = true → .tlsRetry a (some g) ∈ t.outbox) ∧
          KeOutcome a c fin rs ex s t := by
  cases found : s.srv.conns.find? (fun k => k.addr == a) with
  | none => exact ⟨s, execNtskeRequest_none found, rfl⟩
  | some k =>
    cases choice : tlsChoose h s.keSigner.scheme with
    | error e =>
      refine ⟨_, execNtskeRequest_refused found choice, ?_⟩
      obtain ⟨srv, -, live⟩ := s.keAsked_parts a k (tlsAsk h) (decide (e = 47))
      obtain ⟨⟨conns, closed, -⟩, told, fail⟩ := (s.keAsked a k (tlsAsk h) (decide (e = 47))).keFail_answered a (.tlsAlert a e)
      rw [State.rd_congr live] at fail
      exact ⟨conns.trans (congrArg SrvSt.conns srv), closed, told, fail⟩
    | ok p =>
      obtain ⟨c, g, again⟩ := p
      obtain ⟨srv, mbx, server, retry, regs⟩ := s.keServed_spec a k c g again rfl
      obtain ⟨⟨conns, closed, out⟩, outcome⟩ := (s.keServed a k c g again).keFinish_spec a c fin rs ex
      refine ⟨_, execNtskeRequest_served found choice, conns.trans (congrArg SrvSt.conns srv), closed, out.mem _ server,
        fun yes => out.mem _ (retry yes), ?_⟩
      exact outcome.before (by rw [srv]) (by rw [srv]) mbx
        (regs _ (by unfold EngReg Reg.SRV_NTSKE_FAIL; omega) (by decide)) (regs _ (by unfold EngReg Reg.SRV_NTSKE_DONE; omega) (by decide))

end Sys2Proof.Machine
end

section
/-!
PROOFS. NTP broadcast (R196, R197), and the statement on the NTS-KE server and broadcast.
-/

namespace Sys2Proof.Machine

/-! ### The packet of an entry -/

section
variable (s : State) (idx : Nat)

/-- R196, R197: the word of a broadcast entry that says whether it is valid, how often it is sent and on which port. -/
def State.bcastWord : Word := ruleWord s.active idx 4

/-- R149, R196: packet `b` of an entry goes to the best-effort queue of its port, and is counted where the port takes it. -/
def State.bcastPush (b : List Byte) : State :=
  let n := fld (s.bcastWord idx) 0 3
  (if s.isUp n = true then s.bump Reg.SRV_NTP_BCAST_SENT else s).bePush n .core ((s.bcastHead idx).len b.length) b (some (s.bcastHead idx))

/-- R196: the turn of an entry. -/
def State.bcastSend : State := match s.bcastBody idx with
  | none => s
  | some b => if s.tstate = .untraceable then s else s.bcastPush idx b

/-- From `s` to `t` nothing changes that a packet is composed of or that decides whether it is sent. -/
structure SameBcast (s t : State) : Prop where
  srv : t.srv = s.srv
  time : t.time = s.time
  tstate : t.tstate = s.tstate
  body : t.bcastBody idx = s.bcastBody idx

section
variable {s : State} {b : List Byte} {n : Nat}

/-- R196: a port that is UP takes the packet. -/
theorem State.bcastPush_up (port : n = fld (s.bcastWord idx) 0 3) (up : s.isUp n = true) : SameBcast idx s (s.bcastPush idx b) ∧
    (s.bcastPush idx b).rd Reg.SRV_NTP_BCAST_SENT = satAdd (s.rd Reg.SRV_NTP_BCAST_SENT) 1 ∧
    ∃ f, ((s.bcastPush idx b).port n).be = (s.port n).be ++ [f] ∧ f.kind = .core ∧ f.bytes = b ∧ f.head = some (s.bcastHead idx) := by
  subst port
  have still : (s.bump Reg.SRV_NTP_BCAST_SENT).isUp (fld (s.bcastWord idx) 0 3) = true := up
  unfold State.bcastPush State.bePush
  dsimp only
  rw [if_pos up, if_pos still]
  exact ⟨⟨rfl, rfl, rfl, rfl⟩, State.bump_rd_same .., _, congrArg PortSt.be (State.port_updPort_same ..), rfl, rfl, rfl⟩

/-- R71, R196: a port that is not UP takes and counts no packet. -/
theorem State.bcastPush_down (port : n = fld (s.bcastWord idx) 0 3) (down : ¬ s.isUp n = true) : SameBcast idx s (s.bcastPush idx b) ∧
    (s.bcastPush idx b).rd Reg.SRV_NTP_BCAST_SENT = s.rd Reg.SRV_NTP_BCAST_SENT := by
  subst port
  unfold State.bcastPush State.bePush
  dsimp only
  rw [if_neg down, if_neg down]
  exact ⟨⟨rfl, rfl, rfl, rfl⟩, State.bump_rd_ne _ _ (by unfold Reg.SRV_NTP_BCAST_SENT Reg.PRT_DROP_LINK; omega)⟩

end

/-- R196: what the turn of an entry of port `n` leads to. -/
def BcastSent (n : Nat) (s t : State) : Prop :=
  if t.tstate ≠ .untraceable ∧ s.isUp n = true then
    t.rd Reg.SRV_NTP_BCAST_SENT = (match t.bcastBody idx with
      | some _ => satAdd (s.rd Reg.SRV_NTP_BCAST_SENT) 1
      | none => s.rd Reg.SRV_NTP_BCAST_SENT) ∧
    (t.port n).be.length = (s.port n).be.length + (if (t.bcastBody idx).isSome then 1 else 0) ∧
    ∀ b, t.bcastBody idx = some b → ∃ f, (t.port n).be = (s.port n).be ++ [f] ∧
      f.kind = .core ∧ f.bytes = b ∧ f.head = some (s.bcastHead idx)
  else t.rd Reg.SRV_NTP_BCAST_SENT = s.rd Reg.SRV_NTP_BCAST_SENT

variable {idx}

theorem BcastSent.before {n : Nat} {s u t : State} (h : BcastSent idx n u t) (ports : u.ports = s.ports) (live : u.live = s.live)
    (active : u.active = s.active) : BcastSent idx n s t := by
  have head : u.bcastHead idx = s.bcastHead idx := by
    unfold State.bcastHead State.ac
    rw [active]
  unfold BcastSent State.isUp at *
  rwa [State.port_congr ports, State.rd_congr live, head] at h

/-- R196: the turn of an entry. -/
theorem State.bcastSend_spec {n : Nat} (port : n = fld (s.bcastWord idx) 0 3) :
    SameBcast idx s (s.bcastSend idx) ∧ BcastSent idx n s (s.bcastSend idx) := by
  have unsent : SameBcast idx s s := ⟨rfl, rfl, rfl, rfl⟩
  cases body : s.bcastBody idx with
  | none =>
    have stays : s.bcastSend idx = s := by
      unfold State.bcastSend
      rw [body]
    rw [stays]
    refine ⟨unsent, ?_⟩
    unfold BcastSent
    simp [body]
  | some b =>
    have turn : s.bcastSend idx = if s.tstate = .untraceable then s else s.bcastPush idx b := by
      unfold State.bcastSend
      rw [body]
    rw [turn]
    by_cases lost : s.tstate = .untraceable
    · rw [if_pos lost]
      exact ⟨unsent, ite_intro_neg (fun h => h.1 lost) rfl⟩
    rw [if_neg lost]
    by_cases up : s.isUp n = true
    · obtain ⟨same, counted, joined⟩ := State.bcastPush_up (b := b) idx port up
      refine ⟨same, ite_intro_pos ⟨same.tstate ▸ lost, up⟩ ?_⟩
      rw [same.body, body]
      refine ⟨counted, ?_, fun c hc => Option.some.inj hc ▸ joined⟩
      obtain ⟨f, queue, -⟩ := joined
      simp [queue]
    · obtain ⟨same, uncounted⟩ := State.bcastPush_down (b := b) idx port up
      exact ⟨same, ite_intro_neg (fun h => up h.2) uncounted⟩

end

/-! ### The command -/

section
variable (s : State) (j : Fin 16)

/-- R196: the entry is sent when its slot comes, a stamp that may have passed. -/
def State.bcastDue : Nat := max (tget (fun _ => 0) s.srv.bcastAt j.val) s.nowSt

/-- R196: the slot of the entry has come, and its next is 2^POLL s later. -/
def State.bcastTurn : State :=
  let u := s.advDt (stUnit * s.bcastDue j)
  let v := u.advTo (u.cclkAfter 0)
  { v with srv := { v.srv with
    bcastAt := tset (fun _ => 0) v.srv.bcastAt j (s.bcastDue j + stSec * 2 ^ fld (s.bcastWord (4096 + j.val)) 8 8) } }

/-- R196, R444: the entry is valid, DT is set, and the core of the service serves. -/
def State.bcastRuns : Prop :=
  bitAt (s.bcastWord (4096 + j.val)) 3 = true ∧ s.time.st ≠ .unset ∧ s.taskStopped 1 = false

theorem State.bcastRuns_iff : ¬ (!bitAt (s.bcastWord (4096 + j.val)) 3 || s.time.st = .unset || s.taskStopped 1) = true ↔
    s.bcastRuns j := by
  simp [State.bcastRuns, and_assoc]

theorem State.bcastTurn_parts : (s.bcastTurn j).ports = s.ports ∧ (s.bcastTurn j).live = s.live ∧ (s.bcastTurn j).active = s.active ∧
    (s.advDt (stUnit * s.bcastDue j)).time.now ≤ (s.bcastTurn j).time.now ∧
    tget (fun _ => 0) (s.bcastTurn j).srv.bcastAt j.val = s.bcastDue j + stSec * 2 ^ fld (s.bcastWord (4096 + j.val)) 8 8 := by
  refine ⟨?_, ?_, ?_, State.le_advTo .., tget_tset_same ..⟩
  · exact (State.advTo_ports ..).trans (State.advDt_ports ..)
  · exact (State.advTo_live ..).trans (State.advDt_live ..)
  · exact (State.advTo_active ..).trans (State.advDt_active ..)

variable {s j}

theorem execBroadcastSend_idle (idle : ¬ s.bcastRuns j) : exec (.broadcastSend j) s = .next s :=
  if_pos (Classical.not_not.mp fun c => idle ((s.bcastRuns_iff j).mp c))

theorem execBroadcastSend_turn (runs : s.bcastRuns j) : exec (.broadcastSend j) s = .next ((s.bcastTurn j).bcastSend (4096 + j.val)) := by
  have word : (s.bcastTurn j).bcastWord (4096 + j.val) = s.bcastWord (4096 + j.val) :=
    congrArg (ruleWord · (4096 + j.val) 4) (s.bcastTurn_parts j).2.2.1
  unfold State.bcastSend State.bcastPush
  rw [word]
  refine (if_neg ((s.bcastRuns_iff j).mpr runs)).trans ?_
  change (match (s.bcastTurn j).bcastBody (4096 + j.val) with | none => _ | some b => _) = _
  cases (s.bcastTurn j).bcastBody (4096 + j.val) with
  | none => rfl
  | some b =>
    by_cases lost : (s.bcastTurn j).tstate = .untraceable
    · exact (if_pos lost).trans (congrArg _ (if_pos lost).symm)
    · exact (if_neg lost).trans (congrArg _ (if_neg lost).symm)

end

/-- R196: the packet of a broadcast entry. -/
theorem broadcastSend_does (j : Fin 16) (s : State) (w : Word) (due : Nat) (hw : w = ruleWord s.active (4096 + j.val) 4)
    (hdue : due = max (tget (fun _ => 0) s.srv.bcastAt j.val) s.nowSt) : Does (.broadcastSend j) s fun t =>
      if bitAt w 3 = true ∧ s.time.st ≠ .unset ∧ s.taskStopped 1 = false then
        tget (fun _ => 0) t.srv.bcastAt j.val = due + stSec * 2 ^ fld w 8 8 ∧ (s.advDt (stUnit * due)).time.now ≤ t.time.now ∧
        BcastSent (4096 + j.val) (fld w 0 3) s t
      else t = s := by
  subst hw hdue
  by_cases runs : s.bcastRuns j
  · obtain ⟨ports, live, active, later, next⟩ := s.bcastTurn_parts j
    have port : fld (s.bcastWord (4096 + j.val)) 0 3 = fld ((s.bcastTurn j).bcastWord (4096 + j.val)) 0 3 := by
      unfold State.bcastWord
      rw [active]
    obtain ⟨same, sent⟩ := (s.bcastTurn j).bcastSend_spec port
    rw [← same.srv] at next
    rw [← same.time] at later
    exact ⟨_, execBroadcastSend_turn runs, ite_intro_pos runs ⟨next, later, sent.before ports live active⟩⟩
  · exact ⟨s, execBroadcastSend_idle runs, ite_intro_neg runs rfl⟩

/-- Settles O29: a request by what the server takes and by how the exchange ends; the work of its handshake leaves the keys and the
counters of the server. -/
theorem keyEstablishment : Obligations.KeyEstablishment := by
  refine ⟨ntskeConnect_does, fun a h fin rs ex s sig hsig => ?_, ntskeTimeout_does, broadcastSend_does⟩
  subst hsig
  exact ntskeRequest_does a h fin rs ex s

end Sys2Proof.Machine
end

section
/-!
PROOFS. The delegations of the online key: their keys, their making and their switch (R219, R220).
-/

namespace Sys2Proof.Machine

/-! ### The wipe of an old online key -/

section
variable (s : State) (i : Nat) (P : Nat → Prop)

theorem State.ntsForget_srv : (s.ntsForget i).srv = { s.srv with nts := (s.ntsForget i).srv.nts } := by
  unfold State.ntsForget
  dsimp only
  split
  · rfl
  · rfl

theorem State.ntsForget_live : (s.ntsForget i).live = s.live := by
  unfold State.ntsForget
  dsimp only
  split
  · rfl
  · rfl

theorem State.slotSet_regWork (k : KeySlot) : RegWork P s (s.slotSet i k) := by
  have stored : RegWork P s (s.updKslot i fun _ => k) := .of_live rfl
  exact .ite stored (stored.raise (by decide))

theorem State.slotWipe_regWork : RegWork P s (s.slotWipe i) :=
  (RegWork.of_live (s.ntsForget_live i)).trans ((s.ntsForget i).slotSet_regWork i P {})

theorem State.slotWipe_srv : (s.slotWipe i).srv = { s.srv with nts := (s.slotWipe i).srv.nts } := by
  have kept : (s.slotWipe i).srv = (s.ntsForget i).srv := ((s.ntsForget i).slotSet_parts i {}).1
  rw [kept]
  exact s.ntsForget_srv i

theorem State.slotWipe_rt : (s.slotWipe i).rt = s.rt := (State.slotWipe_touch (w := 539230721) rfl s i (.refl ..)).same .rt rfl

/-- R220: no old online key waits for its wipe. -/
def State.deleForgot : State := { s with rt := { s.rt with wipeOld := none } }

/-- R220: the old online key is wiped, or waits for its wipe. -/
theorem State.deleWipe_cases : s.deleWipe = s ∨ ∃ x, s.deleWipe = s.deleForgot.slotWipe x := by
  unfold State.deleWipe
  split
  · rename_i x _
    split
    · exact .inl rfl
    · exact .inr ⟨x, rfl⟩
  · exact .inl rfl

theorem State.deleWipe_regWork : RegWork P s s.deleWipe := by
  obtain waits | ⟨x, wiped⟩ := s.deleWipe_cases
  · rw [waits]
    exact .refl s
  · rw [wiped]
    exact (RegWork.of_live (s := s) (t := s.deleForgot) rfl).trans (s.deleForgot.slotWipe_regWork x P)

theorem State.deleWipe_rt : s.deleWipe.rt = { s.rt with wipeOld := s.deleWipe.rt.wipeOld } := by
  obtain waits | ⟨x, wiped⟩ := s.deleWipe_cases
  · rw [waits]
  · rw [wiped, State.slotWipe_rt]
    rfl

theorem State.deleWipe_srv : s.deleWipe.srv = { s.srv with nts := s.deleWipe.srv.nts } := by
  obtain waits | ⟨x, wiped⟩ := s.deleWipe_cases
  · rw [waits]
  · rw [wiped]
    exact s.deleForgot.slotWipe_srv x

/-- R220: delegation `d` is the one in use, and the slot of the one before it waits for its wipe. -/
def State.deleTurned (d : Dele) : State := { s with rt := { s.rt with
  cur := some d, next := none, onlB := d.slotB, late := false, expired := false, wipeOld := s.rt.cur.map Dele.slot } }

/-- R220: the next delegation takes over, with EV173. -/
theorem State.deleTake_spec (d : Dele) : RegWork P s (s.deleTake d) ∧ (s.deleTake d).evSet 173 = true ∧
    (s.deleTake d).rt = { s.rt with
      cur := some d, next := none, onlB := d.slotB, late := false, expired := false, wipeOld := (s.deleTake d).rt.wipeOld } ∧
    (s.deleTake d).srv = { s.srv with nts := (s.deleTake d).srv.nts } := by
  have told : RegWork P s ((s.deleTurned d).raise 173) := (RegWork.of_live (s := s) (t := s.deleTurned d) rfl).raise (e := 173) (by decide)
  have wiped := ((s.deleTurned d).raise 173).deleWipe_regWork P
  refine ⟨told.trans wiped, wiped.events 173 (by decide) (State.raise_evSet (s.deleTurned d) 173 (by decide)), ?_, ?_⟩
  · refine ((s.deleTurned d).raise 173).deleWipe_rt.trans ?_
    rw [State.raise_rt]
    rfl
  · refine ((s.deleTurned d).raise 173).deleWipe_srv.trans ?_
    rw [State.raise_srv]
    rfl

end

/-! ### A new key and its delegation -/

section
variable (s : State) (b : Bool) (mint : Nat)

/-- R286: the jobs that the firmware runs for itself leave the key slots. -/
theorem State.kslot_ownJob (c p n k : Nat) : (s.ownJob c p n).kslot k = s.kslot k := by
  unfold State.ownJob State.pkeBusy State.coreMark
  dsimp only
  split
  · rfl
  · split
    · simp
    · simp

theorem State.kslot_deleSignJob (k : Nat) : s.deleSignJob.kslot k = s.kslot k := by
  unfold State.deleSignJob
  split
  · exact s.kslot_ownJob ..
  · rfl

/-- The jobs that the firmware runs for itself leave the draws and the active set. -/
theorem State.ownJob_parts (c p n : Nat) : (s.ownJob c p n).draws = s.draws ∧ (s.ownJob c p n).active = s.active := by
  have touch := State.ownJob_touch (w := 538968577) rfl s c p n (.refl ..)
  exact ⟨touch.same .draws rfl, touch.same .active rfl⟩

/-- R219: the public key that KC draws next. -/
def State.drawnPub : List Byte := edPublic (leBytes 32 (Config.trng s.draws).toNat)

theorem State.onlSlot_congr {s t : State} (active : t.active = s.active) : t.onlSlot b = s.onlSlot b := by
  unfold State.onlSlot State.ac
  rw [active]

theorem State.delePeriod_congr {s t : State} (active : t.active = s.active) : t.delePeriod = s.delePeriod := by
  unfold State.delePeriod State.ac
  rw [active]

theorem State.deleLife_congr {s t : State} (active : t.active = s.active) : t.deleLife = s.deleLife := by
  unfold State.deleLife State.ac
  rw [State.delePeriod_congr active, active]

/-- R220: KC draws an online key and loads it into its slot. -/
theorem State.onlineKey_spec : (s.onlineKey b).2.draws = s.draws + 1 ∧
    ((s.onlineKey b).2.kslot (s.onlSlot b)).state = .loaded ∧ ((s.onlineKey b).2.kslot (s.onlSlot b)).pub = s.drawnPub := by
  have placed : (s.onlineKey b).2.kslot (s.onlSlot b) = { type := 6, size := 255, usage := 1, channels := 2 ^ 0x1D, state := .loaded
                                                          pub := s.drawnPub, sec := leBytes 32 (Config.trng s.draws).toNat } := by
    unfold State.onlineKey State.slotSet
    dsimp only
    split
    · exact State.kslot_updKslot_same ..
    · rw [State.kslot_raise]
      exact State.kslot_updKslot_same ..
  refine ⟨(State.slotSet_parts ..).2.2, ?_, ?_⟩
  · rw [placed]
  · rw [placed]

/-- KC makes a delegation: it serves, and an engine is online (R219, R444, R445). -/
def State.deleMakes : Prop := ¬ (s.taskStopped 4 = true ∨ s.anyEngine = false)

variable {s}

theorem State.deleMake_idle (idle : s.taskStopped 4 = true ∨ s.anyEngine = false) : s.deleMake b mint = (none, s) :=
  if_pos (by simpa using idle)

/-- R219, R220: the new key and, signed by the long-term key if that can sign, its delegation. -/
theorem State.deleMake_made (makes : s.deleMakes) {u : State} (hu : u = (s.deleMake b mint).2) :
    s.deleMake b mint = (u.delegate b s.drawnPub mint (mint + s.deleLife), u) ∧ u.draws = s.draws + 1 ∧
      (u.kslot (s.onlSlot b)).state = .loaded ∧ (u.kslot (s.onlSlot b)).pub = s.drawnPub := by
  obtain ⟨draws, active⟩ := s.ownJob_parts 4 0x38 26000
  obtain ⟨drawn, loaded, pub⟩ := (s.ownJob 4 0x38 26000).onlineKey_spec b
  have key : (s.ownJob 4 0x38 26000).drawnPub = s.drawnPub := by
    unfold State.drawnPub
    rw [draws]
  have made : s.deleMake b mint = (let u := ((s.ownJob 4 0x38 26000).onlineKey b).2.deleSignJob
      (u.delegate b (s.ownJob 4 0x38 26000).drawnPub mint (mint + u.deleLife), u)) := if_neg (by simpa [State.deleMakes] using makes)
  rw [made] at hu
  dsimp only at hu
  have signed := State.deleSignJob_touch (w := 538968577) rfl ((s.ownJob 4 0x38 26000).onlineKey b).2 (.refl ..)
  have life : u.deleLife = s.deleLife := by
    refine State.deleLife_congr ?_
    rw [hu]
    exact (signed.same .active rfl).trans (((State.onlineKey_touch (w := 673186305) rfl _ b (.refl ..)).same .active rfl).trans active)
  rw [made, ← key, ← life, hu, State.kslot_deleSignJob, ← State.onlSlot_congr b active]
  exact ⟨rfl, (signed.same .draws rfl).trans (drawn.trans (congrArg (· + 1) draws)), loaded, pub⟩

end

/-! ### The commands -/

section
variable {s : State}

theorem State.anyEngine_congr {s t : State} (h : t.pke = s.pke) : t.anyEngine = s.anyEngine := by
  unfold State.anyEngine State.eng
  rw [h]

/-- A command that does nothing while its step is not due. -/
theorem next_unless {b : Bool} {idle : Prop} [Decidable idle] (h : b = true ↔ idle) (s t : State) :
    (if b = true then .next s else .next t : Res) = .next (if idle then s else t) := by
  by_cases waits : idle
  · rw [if_pos (h.mpr waits), if_pos waits]
  · rw [if_neg (fun x => waits (h.mp x)), if_neg waits]

theorem does_unless {c : Instr} {s t : State} {idle : Prop} [Decidable idle] {P : State → Prop}
    (runs : exec c s = .next (if idle then s else t)) (due : ¬ idle → P t) : Does c s fun t => if idle then t = s else P t := by
  refine ⟨_, runs, ?_⟩
  by_cases waits : idle
  · rw [if_pos waits]
    exact ite_intro_pos waits rfl
  · rw [if_neg waits]
    exact ite_intro_neg waits (due waits)

/-- Whether KC makes a delegation depends on the cores and on the engines. -/
theorem State.deleMakes_congr {s t : State} (mbx : t.mbx = s.mbx) (pke : t.pke = s.pke) : t.deleMakes ↔ s.deleMakes := by
  unfold State.deleMakes
  rw [State.taskStopped_congr mbx, State.anyEngine_congr pke]

theorem State.drawnPub_congr {s t : State} (draws : t.draws = s.draws) : t.drawnPub = s.drawnPub := by
  unfold State.drawnPub
  rw [draws]

/-- R220: the firmware makes the first delegation. -/
def State.deleDue (s : State) : Prop := s.aligned = true ∧ s.cfg.initialDone = true ∧ s.rt.cur = none ∧ s.taskStopped 2 = false

theorem execDeleFirst_idle (idle : ¬ s.deleDue) : exec .deleFirst s = .next s :=
  if_pos (Classical.not_not.mp fun due => idle (by simpa [State.deleDue, and_assoc] using due))

theorem execDeleFirst_due (due : s.deleDue) : exec .deleFirst s =
    .next { (s.deleMake false s.sec).2 with
      rt := { (s.deleMake false s.sec).2.rt with cur := (s.deleMake false s.sec).1, onlB := false } } :=
  if_neg (by simpa [State.deleDue, and_assoc] using due)

/-- A new key and delegation leave what Roughtime holds. -/
theorem State.deleMake_rt (s : State) (b : Bool) (mint : Nat) : (s.deleMake b mint).2.rt = s.rt :=
  (State.deleMake_touch (w := 673186305) rfl s b mint (.refl ..)).same .rt rfl

theorem State.deleMake_time (s : State) (b : Bool) (mint : Nat) : (s.deleMake b mint).2.time = s.time :=
  (State.deleMake_touch (w := 673186305) rfl s b mint (.refl ..)).same .time rfl

/-- R220: the first delegation. -/
theorem deleFirst_does (s : State) : Does .deleFirst s fun t =>
    if s.aligned = true ∧ s.cfg.initialDone = true ∧ s.rt.cur = none ∧ s.taskStopped 2 = false then
      if s.taskStopped 4 = true ∨ s.anyEngine = false then t = { s with rt := { s.rt with onlB := false } }
      else t.draws = s.draws + 1 ∧ (t.kslot (s.onlSlot false)).state = .loaded ∧ (t.kslot (s.onlSlot false)).pub = s.drawnPub ∧
        t.rt = { s.rt with onlB := false, cur := t.delegate false s.drawnPub s.sec (s.sec + s.deleLife) }
    else t = s := by
  by_cases due : s.deleDue
  · refine ⟨_, execDeleFirst_due due, ite_intro_pos due ?_⟩
    by_cases idle : s.taskStopped 4 = true ∨ s.anyEngine = false
    · rw [State.deleMake_idle _ _ idle]
      refine ite_intro_pos idle ?_
      rw [← due.2.2.1]
    · obtain ⟨made, draws, loaded, pub⟩ := State.deleMake_made false s.sec idle rfl
      refine ite_intro_neg idle ⟨draws, loaded, pub, ?_⟩
      rw [State.deleMake_rt, made]
      rfl
  · exact ⟨s, execDeleFirst_idle due, ite_intro_neg due rfl⟩

/-- R220: the next delegation is made, or not, once DT is at least `x`. -/
theorem State.deleNext_spec (s : State) (d : Dele) (x : Nat) {t : State} (ht : t = (s.advDt x).deleNext d) :
    t.time = (s.advDt x).time ∧ if s.taskStopped 4 = true ∨ s.anyEngine = false then t.rt = { s.rt with next := none }
      else t.draws = s.draws + 1 ∧ (t.kslot (s.onlSlot (!d.slotB))).pub = s.drawnPub ∧ t.rt = { s.rt with
        next := t.delegate (!d.slotB) s.drawnPub (d.mint + s.delePeriod) (d.mint + s.delePeriod + s.deleLife) } := by
  have next : t = { ((s.advDt x).deleMake (!d.slotB) (d.mint + s.delePeriod)).2 with
      rt := { ((s.advDt x).deleMake (!d.slotB) (d.mint + s.delePeriod)).2.rt with
        next := ((s.advDt x).deleMake (!d.slotB) (d.mint + s.delePeriod)).1 } } := by
    rw [ht, State.deleNext, State.delePeriod_congr (s.advDt_active x)]
  rw [next]
  refine ⟨State.deleMake_time .., ?_⟩
  have same := State.deleMakes_congr (s.advDt_mbx x) (s.advDt_pke x)
  by_cases idle : s.taskStopped 4 = true ∨ s.anyEngine = false
  · have waits : (s.advDt x).taskStopped 4 = true ∨ (s.advDt x).anyEngine = false :=
      Classical.not_not.mp fun makes => same.mp makes idle
    rw [State.deleMake_idle _ _ waits]
    exact ite_intro_pos idle (congrArg (fun r : RtSt => { r with next := none }) (s.advDt_rt x))
  · obtain ⟨made, draws, -, pub⟩ := State.deleMake_made (!d.slotB) (d.mint + s.delePeriod) (same.mpr idle) rfl
    rw [State.drawnPub_congr (s.advDt_draws x), State.deleLife_congr (s.advDt_active x)] at made
    rw [State.drawnPub_congr (s.advDt_draws x), State.onlSlot_congr _ (s.advDt_active x)] at pub
    refine ite_intro_neg idle ⟨draws.trans (congrArg (· + 1) (s.advDt_draws x)), pub, ?_⟩
    rw [State.deleMake_rt, s.advDt_rt x, made]
    rfl

theorem execDelePrepare_none (cur : s.rt.cur = none) : exec .delePrepare s = .next s := by
  change execDelePrepare s = _
  unfold execDelePrepare
  rw [cur]

theorem execDelePrepare_some {d : Dele} (cur : s.rt.cur = some d) :
    exec .delePrepare s = .next (if s.rt.next.isSome = true ∨ s.taskStopped 2 = true then s
      else (s.advDt (secUnit * (d.mint + s.delePeriod - 600))).deleNext d) := by
  change execDelePrepare s = _
  unfold execDelePrepare
  rw [cur]
  exact next_unless (by simp) ..

/-- R220: the preparation of the next delegation. -/
theorem delePrepare_does (s : State) : Does .delePrepare s fun t => match s.rt.cur with
    | none => t = s
    | some d => if s.rt.next.isSome = true ∨ s.taskStopped 2 = true then t = s
      else t.time = (s.advDt (secUnit * (d.mint + s.delePeriod - 600))).time ∧
        if s.taskStopped 4 = true ∨ s.anyEngine = false then t.rt = s.rt
        else t.draws = s.draws + 1 ∧ (t.kslot (s.onlSlot (!d.slotB))).pub = s.drawnPub ∧ t.rt = { s.rt with
          next := t.delegate (!d.slotB) s.drawnPub (d.mint + s.delePeriod) (d.mint + s.delePeriod + s.deleLife) } := by
  cases cur : s.rt.cur with
  | none => exact ⟨s, execDelePrepare_none cur, rfl⟩
  | some d =>
    refine does_unless (execDelePrepare_some cur) fun due => ?_
    obtain ⟨time, made⟩ := s.deleNext_spec d (secUnit * (d.mint + s.delePeriod - 600)) rfl
    have without : s.rt.next = none := by simpa using fun x : s.rt.next.isSome = true => due (.inl x)
    have same : ({ s.rt with next := none } : RtSt) = s.rt := by rw [← without]
    rw [same] at made
    exact ⟨time, made⟩

theorem execDeleRetry_none (cur : s.rt.cur = none) : exec .deleRetry s = .next s := by
  change execDeleRetry s = _
  unfold execDeleRetry
  rw [cur]

/-- R220: the next trial of a late delegation is due 60 s after this one. -/
def State.deleLater (s : State) : State := { s with rt := { s.rt with retryAt := s.rt.retryAt + 60 * stSec } }

/-- A delegation does not depend on when the next trial is due. -/
theorem State.delegate_deleLater (s : State) (b : Bool) (pk : List Byte) (mint maxt : Nat) :
    s.deleLater.delegate b pk mint maxt = s.delegate b pk mint maxt := rfl

theorem execDeleRetry_some {d : Dele} (cur : s.rt.cur = some d) :
    exec .deleRetry s = .next (if s.rt.late = false ∨ s.rt.next.isSome = true ∨ s.taskStopped 2 = true then s
      else ((s.advDt (stUnit * s.rt.retryAt)).deleNext d).deleLater) := by
  change execDeleRetry s = _
  unfold execDeleRetry
  rw [cur]
  exact next_unless (by simp [or_assoc]) ..

/-- R220: a trial of a late delegation. -/
theorem deleRetry_does (s : State) : Does .deleRetry s fun t => match s.rt.cur with
    | none => t = s
    | some d => if s.rt.late = false ∨ s.rt.next.isSome = true ∨ s.taskStopped 2 = true then t = s
      else t.time = (s.advDt (stUnit * s.rt.retryAt)).time ∧ t.rt.retryAt = s.rt.retryAt + 60 * stSec ∧
        if s.taskStopped 4 = true ∨ s.anyEngine = false then t.rt.next = none
        else t.draws = s.draws + 1 ∧
          t.rt.next = t.delegate (!d.slotB) s.drawnPub (d.mint + s.delePeriod) (d.mint + s.delePeriod + s.deleLife) := by
  cases cur : s.rt.cur with
  | none => exact ⟨s, execDeleRetry_none cur, rfl⟩
  | some d =>
    refine does_unless (execDeleRetry_some cur) fun _ => ?_
    obtain ⟨time, made⟩ := s.deleNext_spec d (stUnit * s.rt.retryAt) rfl
    rw [State.delegate_deleLater]
    by_cases stops : s.taskStopped 4 = true ∨ s.anyEngine = false
    · rw [if_pos stops] at made
      have later : ((s.advDt (stUnit * s.rt.retryAt)).deleNext d).rt.retryAt = s.rt.retryAt := by rw [made]
      exact ⟨time, congrArg (· + 60 * stSec) later, ite_intro_pos stops (congrArg RtSt.next made)⟩
    · rw [if_neg stops] at made
      obtain ⟨draws, -, made⟩ := made
      have later : ((s.advDt (stUnit * s.rt.retryAt)).deleNext d).rt.retryAt = s.rt.retryAt := by rw [made]
      exact ⟨time, congrArg (· + 60 * stSec) later, ite_intro_neg stops ⟨draws, congrArg RtSt.next made⟩⟩

/-- R220: at the switch the next delegation takes over, or is late. -/
theorem State.deleSwitch_spec {s u t : State} (ht : t = u.deleSwitch) (rt : u.rt = s.rt) : t.time = u.time ∧ match s.rt.next with
    | some n => t.evSet 173 = true ∧ t.rt = { s.rt with
        cur := some n, next := none, onlB := n.slotB, late := false, expired := false, wipeOld := t.rt.wipeOld }
    | none => t.evSet 174 = true ∧ t.rt = { s.rt with late := true, retryAt := t.nowSt + 60 * stSec } := by
  subst ht
  have time : u.deleSwitch.time = u.time := (State.deleSwitch_touch (w := 539755009) rfl u (.refl ..)).same .time rfl
  refine ⟨time, ?_⟩
  rw [State.nowSt_congr time, ← rt]
  unfold State.deleSwitch
  cases u.rt.next with
  | some n =>
    obtain ⟨-, told, turned, -⟩ := u.deleTake_spec (fun _ => False) n
    exact ⟨told, turned⟩
  | none => exact ⟨State.raise_evSet _ 174 (by decide), State.raise_rt ..⟩

theorem execDeleSwitch_none (cur : s.rt.cur = none) : exec .deleSwitch s = .next s := by
  change execDeleSwitch s = _
  unfold execDeleSwitch
  rw [cur]

theorem execDeleSwitch_some {d : Dele} (cur : s.rt.cur = some d) :
    exec .deleSwitch s = .next (if s.rt.late = true ∨ s.taskStopped 2 = true then s
      else (s.advDt (secUnit * (d.mint + s.delePeriod))).deleSwitch) := by
  change execDeleSwitch s = _
  unfold execDeleSwitch
  rw [cur]
  exact next_unless (by simp) ..

/-- R220: the switch to the next delegation. -/
theorem deleSwitch_does (s : State) : Does .deleSwitch s fun t => match s.rt.cur with
    | none => t = s
    | some d => if s.rt.late = true ∨ s.taskStopped 2 = true then t = s
      else t.time = (s.advDt (secUnit * (d.mint + s.delePeriod))).time ∧ match s.rt.next with
      | some n => t.evSet 173 = true ∧ t.rt = { s.rt with
          cur := some n, next := none, onlB := n.slotB, late := false, expired := false, wipeOld := t.rt.wipeOld }
      | none => t.evSet 174 = true ∧ t.rt = { s.rt with late := true, retryAt := t.nowSt + 60 * stSec } := by
  cases cur : s.rt.cur with
  | none => exact ⟨s, execDeleSwitch_none cur, rfl⟩
  | some d => exact does_unless (execDeleSwitch_some cur) fun _ => State.deleSwitch_spec rfl (State.advDt_rt ..)

/-- R220: the delegation in use has expired. -/
def State.deleExpired (s : State) : State := { s with rt := { s.rt with expired := true } }

theorem execDeleExpire_none (cur : s.rt.cur = none) : exec .deleExpire s = .next s := by
  change execDeleExpire s = _
  unfold execDeleExpire
  rw [cur]

theorem execDeleExpire_some {d : Dele} (cur : s.rt.cur = some d) :
    exec .deleExpire s = .next (if s.rt.next.isSome = true ∨ s.rt.expired = true then s
      else (s.advDt (secUnit * d.maxt)).deleExpired.raise 175) := by
  change execDeleExpire s = _
  unfold execDeleExpire
  rw [cur]
  exact next_unless (by simp) ..

/-- R220: the end of a delegation without a successor. -/
theorem deleExpire_does (s : State) : Does .deleExpire s fun t => match s.rt.cur with
    | none => t = s
    | some d => if s.rt.next.isSome = true ∨ s.rt.expired = true then t = s
      else t.rt = { s.rt with expired := true } ∧ t.evSet 175 = true ∧ t.time = (s.advDt (secUnit * d.maxt)).time := by
  cases cur : s.rt.cur with
  | none => exact ⟨s, execDeleExpire_none cur, rfl⟩
  | some d =>
    refine does_unless (execDeleExpire_some cur) fun _ => ⟨?_, State.raise_evSet _ 175 (by decide), State.raise_time ..⟩
    rw [State.raise_rt]
    exact congrArg (fun r : RtSt => { r with expired := true }) (State.advDt_rt ..)

end

/-- Settles O31: each command by whether its step is due; the first, the next and a late delegation are made alike. -/
theorem delegation : Obligations.Delegation := by
  refine ⟨?_, ?_, deleSwitch_does, ?_, deleExpire_does⟩
  · rintro s _ rfl
    exact deleFirst_does s
  · rintro s _ rfl
    exact delePrepare_does s
  · rintro s _ rfl
    exact deleRetry_does s

end Sys2Proof.Machine
end

section
/-!
PROOFS. The close and the seal of carafes (R208, R211, R213, R215).
-/

namespace Sys2Proof.Machine

/-! ### The seal -/

/-- What a time view shows rests on these parts. -/
theorem State.timeView_congr {s t : State} (time : t.time = s.time) (active : t.active = s.active) (vbat : t.vbat = s.vbat)
    (ref : t.ref = s.ref) (clk : t.clk = s.clk) (ptp : t.ptp = s.ptp) (srv : t.srv = { s.srv with nts := t.srv.nts }) :
    t.timeView = s.timeView := by
  have ever : t.srv.everAligned = s.srv.everAligned := by rw [srv]
  have smear : t.srv.smear = s.srv.smear := by rw [srv]
  have fading : t.srv.fading = s.srv.fading := by rw [srv]
  have mpd : t.srv.mpd = s.srv.mpd := by rw [srv]
  unfold State.timeView State.tstate State.eHoldNs State.aligned State.selMpd State.client State.slot State.ac
  rw [time, active, vbat, ref, clk, ptp, ever, smear, fading, mpd]

theorem State.midpAt_congr {s t : State} (active : t.active = s.active) (v : TimeView) (x : Nat) : t.midpAt v x = s.midpAt v x := by
  unfold State.midpAt State.ac
  rw [active]

theorem State.radiAt_congr {s t : State} (active : t.active = s.active) (v : TimeView) (x : Nat) : t.radiAt v x = s.radiAt v x := by
  unfold State.radiAt State.ac
  rw [active]

section
variable (s : State)

/-- R220: the late successor that takes over at a seal. -/
def State.sealNext : Option Dele := if s.rt.late = true then s.rt.next else none

/-- R219, R220: the delegation in use at a seal. -/
def State.sealDele : Option Dele := if s.sealNext.isSome = true then s.sealNext else s.rt.cur

/-- R220: a late successor of the delegation takes over. -/
def State.sealTurn : State :=
  if s.rt.late then (match s.rt.next with
    | some d => s.deleTake d
    | none => s) else s

/-- From `s` to `u` a late successor has taken over, and nothing else that a seal rests on has changed. -/
structure SealTurned (s u : State) : Prop where
  cur : u.rt.cur = s.sealDele
  expired : u.rt.expired = true ↔ s.sealNext = none ∧ s.rt.expired = true
  sealed : u.rt.sealed = s.rt.sealed
  nextId : u.rt.nextId = s.rt.nextId
  opens : u.rt.opens = s.rt.opens
  time : u.time = s.time
  active : u.active = s.active
  cfg : u.cfg = s.cfg
  view : u.timeView = s.timeView
  regs : RegWork (fun _ => False) s u

theorem State.sealTurn_taken {d : Dele} (taken : s.sealNext = some d) : s.sealTurn = s.deleTake d := by
  unfold State.sealNext at taken
  unfold State.sealTurn
  by_cases late : s.rt.late = true
  · rw [if_pos late] at taken ⊢
    rw [taken]
  · rw [if_neg late] at taken
    cases taken

theorem State.sealTurn_stays (without : s.sealNext = none) : s.sealTurn = s := by
  unfold State.sealNext at without
  unfold State.sealTurn
  by_cases late : s.rt.late = true
  · rw [if_pos late] at without ⊢
    rw [without]
  · rw [if_neg late]

theorem State.sealTurn_turned : SealTurned s s.sealTurn := by
  cases next : s.sealNext with
  | some d =>
    obtain ⟨regs, -, rt, srv⟩ := s.deleTake_spec (fun _ => False) d
    have touch := State.deleTake_touch (w := 539755009) rfl s d (.refl ..)
    have active : (s.deleTake d).active = s.active := touch.same .active rfl
    have view := State.timeView_congr (touch.same .time rfl) active (touch.same .vbat rfl) (touch.same .ref rfl) (touch.same .clk rfl)
      (touch.same .ptp rfl) srv
    rw [s.sealTurn_taken next]
    refine ⟨?_, ?_, ?_, ?_, ?_, touch.same .time rfl, active, touch.same .cfg rfl, view, regs⟩
    · rw [rt, State.sealDele, next]
      rfl
    · rw [rt, next]
      simp
    · rw [rt]
    · rw [rt]
    · rw [rt]
  | none =>
    rw [s.sealTurn_stays next]
    refine ⟨?_, ?_, rfl, rfl, rfl, rfl, rfl, rfl, rfl, .refl s⟩
    · rw [State.sealDele, next]
      rfl
    · simp [next]

variable (k : Nat) (ls : List Leaf)

/-- R213, R219: the carafe of leaves `ls` of cluster `k` that seals now under delegation `d`. -/
def State.sealedCarafe (d : Dele) : Carafe :=
  { id := s.rt.nextId, cluster := k, leaves := ls, sealTick := s.time.now, sealStamp := s.nowSt, midp := s.midpAt s.timeView s.nowSt
    radi := s.radiAt s.timeView s.nowSt, dele := d, stage := .folding, ctrl := s.ac Reg.SRV_NTP_CTRL }

/-- R213, R215: leaves seal under the delegation in use. -/
def State.sealLeaves : State :=
  if s.timeView.ts = .untraceable && s.notAnswering s.cfg.gen then s.bump Reg.SRV_RT_DROP_UNTRACE ls.length
  else match s.rt.cur with
    | none => s.bump Reg.SRV_RT_DROP_NODELE ls.length
    | some d =>
      if s.midpAt s.timeView s.nowSt < d.lo || d.hi < s.midpAt s.timeView s.nowSt || d.maxt < s.sec || s.rt.expired then
        s.bump Reg.SRV_RT_DROP_NODELE ls.length
      else { s with rt := { s.rt with sealed := s.rt.sealed ++ [s.sealedCarafe k ls d], nextId := s.rt.nextId + 1 } }

theorem State.seal_nil : s.seal k [] = s := if_pos rfl

variable {ls} in
theorem State.seal_leaves (filled : ls ≠ []) : s.seal k ls = s.sealTurn.sealLeaves k ls := if_neg filled

variable {s} {u : State}

theorem SealTurned.sealedCarafe (h : SealTurned s u) (d : Dele) : u.sealedCarafe k ls d = s.sealedCarafe k ls d := by
  unfold State.sealedCarafe State.ac
  rw [h.nextId, h.time, State.nowSt_congr h.time, h.view, State.midpAt_congr h.active, State.radiAt_congr h.active, h.active]

/-- R215, R219: what becomes of leaves `ls` of cluster `k` that seal in `s`. -/
def SealOutcome (s : State) (k : Nat) (ls : List Leaf) (t : State) : Prop :=
  let lost (a : Nat) : Prop := t.rt.sealed = s.rt.sealed ∧ t.rd a = satAdd (s.rd a) ls.length
  let midp := s.midpAt s.timeView s.nowSt
  if ls = [] then t.rt.sealed = s.rt.sealed ∧ t.live = s.live
  else if s.timeView.ts = .untraceable ∧ s.notAnswering s.cfg.gen = true then lost Reg.SRV_RT_DROP_UNTRACE
  else match s.sealDele with
    | none => lost Reg.SRV_RT_DROP_NODELE
    | some e =>
      if midp < e.lo ∨ e.hi < midp ∨ e.maxt < s.sec ∨ (s.sealNext = none ∧ s.rt.expired = true) then lost Reg.SRV_RT_DROP_NODELE
      else t.rt.nextId = s.rt.nextId + 1 ∧ t.rt.sealed = s.rt.sealed ++ [s.sealedCarafe k ls e]

/-- R215, R219: what becomes of leaves that seal. -/
theorem State.seal_outcome (s : State) : (s.seal k ls).rt.opens = s.rt.opens ∧ SealOutcome s k ls (s.seal k ls) := by
  unfold SealOutcome
  dsimp only
  by_cases empty : ls = []
  · rw [if_pos empty, empty, State.seal_nil]
    exact ⟨rfl, rfl, rfl⟩
  have turned := s.sealTurn_turned
  rw [State.seal_leaves s k empty, if_neg empty]
  generalize s.sealTurn = u at turned
  have lost (a : Nat) (ev : evKey a = false) : (u.bump a ls.length).rt.opens = s.rt.opens ∧
      (u.bump a ls.length).rt.sealed = s.rt.sealed ∧ (u.bump a ls.length).rd a = satAdd (s.rd a) ls.length := by
    rw [State.bump_rd_same, turned.regs.regs a id ev]
    exact ⟨turned.opens, turned.sealed, rfl⟩
  have silent : u.notAnswering u.cfg.gen = s.notAnswering s.cfg.gen := by
    unfold State.notAnswering
    rw [State.gv_congr turned.active turned.cfg, turned.cfg]
  unfold State.sealLeaves
  rw [turned.view, silent, turned.cur, State.nowSt_congr turned.time, State.midpAt_congr turned.active, State.sec_congr turned.time]
  by_cases untraced : s.timeView.ts = .untraceable ∧ s.notAnswering s.cfg.gen = true
  · rw [if_pos untraced, if_pos (by simpa using untraced)]
    exact lost _ (by decide)
  rw [if_neg untraced, if_neg (by simpa using untraced)]
  cases s.sealDele with
  | none => exact lost _ (by decide)
  | some e =>
    dsimp only
    have expired := turned.expired
    by_cases invalid : s.midpAt s.timeView s.nowSt < e.lo ∨ e.hi < s.midpAt s.timeView s.nowSt ∨ e.maxt < s.sec ∨
        (s.sealNext = none ∧ s.rt.expired = true)
    · rw [if_pos invalid, if_pos (by simpa [or_assoc, expired] using invalid)]
      exact lost _ (by decide)
    · rw [if_neg invalid, if_neg (by simpa [or_assoc, expired] using invalid)]
      refine ⟨turned.opens, congrArg (· + 1) turned.nextId, ?_⟩
      rw [← turned.sealed, ← turned.sealedCarafe k ls e]

end
/-- R208: a closed carafe leaves those that drain, and its leaves seal. -/
theorem State.sealDraining_spec (s : State) (k : Nat) (d : Draining) :
    (s.sealDraining k d).openCarafe k = { s.openCarafe k with draining := (s.openCarafe k).draining.erase d } ∧
    (s.sealDraining k d).time = s.time ∧ SealOutcome s k d.leaves (s.sealDraining k d) := by
  obtain ⟨opens, outcome⟩ := State.seal_outcome k d.leaves (s.updOpenCarafe k fun o => { o with draining := o.draining.erase d })
  refine ⟨?_, (State.sealDraining_touch (w := 539755009) rfl s k d (.refl ..)).same .time rfl, outcome⟩
  have left : (s.sealDraining k d).openCarafe k = _ := congrArg (fun o => tget openCarafeDef o k) opens
  exact left.trans (State.openCarafe_updOpenCarafe_same ..)

/-! ### The commands of a seal -/

section
variable {s : State} {k : Fin 32}

theorem execCarafeSeal_none (drained : (s.openCarafe k.val).draining = []) : exec (.carafeSeal k) s = .next s := by
  change execCarafeSeal k s = _
  unfold execCarafeSeal
  rw [drained]

theorem execCarafeSeal_first {d : Draining} {l : List Draining} (drains : (s.openCarafe k.val).draining = d :: l) :
    exec (.carafeSeal k) s =
      .next (if s.rtInFlight k.val d.tc = true then s else (s.advTo (s.cclkAfter 0)).sealDraining k.val d) := by
  change execCarafeSeal k s = _
  unfold execCarafeSeal
  rw [drains]
  exact next_unless .rfl ..

theorem execCarafeSealLimit_none (drained : (s.openCarafe k.val).draining = []) : exec (.carafeSealLimit k) s = .next s := by
  change execCarafeSealLimit k s = _
  unfold execCarafeSealLimit
  rw [drained]

theorem execCarafeSealLimit_first {d : Draining} {l : List Draining} (drains : (s.openCarafe k.val).draining = d :: l) :
    exec (.carafeSealLimit k) s =
      .next ((s.advTo (s.cclkAtG ((d.tc + fld (s.ac Reg.SRV_RT_SEAL) 0 16 * 65536) * 1000))).sealDraining k.val d) := by
  change execCarafeSealLimit k s = _
  unfold execCarafeSealLimit
  rw [drains]

end

/-- R208: the oldest closed carafe seals once no earlier request is in flight. -/
theorem carafeSeal_does (k : Fin 32) (s : State) : Does (.carafeSeal k) s fun t => match (s.openCarafe k.val).draining with
    | [] => t = s
    | d :: _ => t = if s.rtInFlight k.val d.tc = true then s else (s.advTo (s.cclkAfter 0)).sealDraining k.val d := by
  cases drains : (s.openCarafe k.val).draining with
  | nil => exact ⟨s, execCarafeSeal_none drains, rfl⟩
  | cons d l => exact ⟨_, execCarafeSeal_first drains, rfl⟩

/-- R208: the oldest closed carafe seals at its limit. -/
theorem carafeSealLimit_does (k : Fin 32) (s : State) : Does (.carafeSealLimit k) s fun t =>
    match (s.openCarafe k.val).draining with
    | [] => t = s
    | d :: _ => t = (s.advTo (s.cclkAtG ((d.tc + fld (s.ac Reg.SRV_RT_SEAL) 0 16 * 65536) * 1000))).sealDraining k.val d := by
  cases drains : (s.openCarafe k.val).draining with
  | nil => exact ⟨s, execCarafeSealLimit_none drains, rfl⟩
  | cons d l => exact ⟨_, execCarafeSealLimit_first drains, rfl⟩

/-! ### The close -/

section
variable (s : State) (k : Nat)

/-- R35: the state at the boundary of the close slot, which has fired. -/
def State.closeFired : State := ((s.slotFire (48 + k)).slotBoundary (s.slot (48 + k))).2

/-- R208: the close time. -/
def State.closeTime : Nat := ((s.slotFire (48 + k)).slotBoundary (s.slot (48 + k))).1

/-- R207, R208: the close slot is armed again, and the close time is noted. -/
def State.closeNoted : State :=
  ((s.closeFired k).closeArm k (max (s.closeTime k) (s.closeFired k).nowSt)).updOpenCarafe k fun o =>
    { o with lastClose := s.closeTime k }

/-- R208: the open carafe waits for its seal, and the next opens at stamp `tc`. -/
def State.closeOpen (tc : Nat) : State :=
  (s.updOpenCarafe k fun o => { o with
    draining := o.draining ++ [⟨tc, (s.openCarafe k).since, (s.openCarafe k).leaves, (s.openCarafe k).maxLeaves⟩] }).rtOpenAt k tc

/-- A close notes its time; it works on the slot, and on the carafes of its cluster only there. -/
theorem State.closeNoted_spec (hk : k < 32) :
    (s.closeNoted k).openCarafe k = { s.openCarafe k with lastClose := s.closeTime k } ∧
    (s.closeNoted k).rt.sealed = s.rt.sealed ∧ (s.closeNoted k).active = s.active ∧
    (∀ a, slotKey a = false → evKey a = false → (s.closeNoted k).rd a = s.rd a) ∧
    bitAt ((s.closeNoted k).rd (Reg.TSC_CS_STAT (48 + k))) 0 = true := by
  have hi : 48 + k < 256 := by omega
  have h36 : 48 + k ≠ 36 := by omega
  have touch := State.closeArm_touch (w := 536871689) rfl (s.closeFired k) k (max (s.closeTime k) (s.closeFired k).nowSt)
    (State.slotBoundary_touch rfl _ (s.slot (48 + k)) (State.slotFire_touch rfl s (48 + k) (.refl ..)))
  have rt : ((s.closeFired k).closeArm k (max (s.closeTime k) (s.closeFired k).nowSt)).rt = s.rt := touch.same .rt rfl
  have bounded : ∀ a, (s.closeFired k).rd a = (s.slotFire (48 + k)).rd a := fun a =>
    State.rd_congr ((State.slotBoundary_touch (w := 520) rfl _ (s.slot (48 + k)) (.refl (s := s.slotFire (48 + k)) ..)).same .live rfl) a
  refine ⟨?_, (congrArg RtSt.sealed rt : _), touch.same .active rfl, fun a slot ev => ?_, ?_⟩
  · refine (State.openCarafe_updOpenCarafe_same ..).trans ?_
    unfold State.openCarafe
    rw [rt]
  · have armed := (SlotWork.refl (s.closeFired k)).slotArmBound hi h36
    exact ((armed _ _ _ _).regs a slot ev).trans ((bounded a).trans (((s.slotFire_work hi h36).regs a slot ev).trans (State.rd_advTo ..)))
  · have armed := (SlotOnly.refl (48 + k) (s.closeFired k)).slotArmBound hi h36
    refine (armed _ _ _ _).told.stat 0 (by decide) ?_
    rw [bounded]
    exact (s.slotFire_fired hi h36).2

/-- Whether DEPTH carafes wait is not changed by noting a close time. -/
theorem State.depthFull_closeNoted (hk : k < 32) : (s.closeNoted k).depthFull k = s.depthFull k := by
  obtain ⟨carafe, sealed, active, -⟩ := s.closeNoted_spec k hk
  unfold State.depthFull State.rtWaiting State.ac
  rw [carafe, sealed, active]

end

theorem execCarafeClose_idle {s : State} {k : Fin 32} (idle : ¬ s.slotReady (48 + k.val) = true) :
    exec (.carafeClose k) s = .next s := if_pos (by simpa using idle)

theorem execCarafeClose_fires {s : State} {k : Fin 32} (ready : s.slotReady (48 + k.val) = true) {u : State}
    (hu : u = s.closeNoted k.val) : exec (.carafeClose k) s = .next (
      if (u.openCarafe k.val).isOpen = false then u.rtOpenAt k.val (s.closeTime k.val)
      else if u.depthFull k.val = true then u.closeDeferred
      else u.closeOpen k.val (s.closeTime k.val)) := by
  have fires : exec (.carafeClose k) s = .next (
      if (!(u.openCarafe k.val).isOpen) = true then u.rtOpenAt k.val (s.closeTime k.val)
      else if u.depthFull k.val = true then u.closeDeferred
      else u.closeOpen k.val (s.closeTime k.val)) := by
    subst hu
    exact if_neg (by simpa using ready)
  rw [fires]
  simp only [Bool.not_eq_true']

/-- R208, R211, R221: what a close at stamp `tc` makes of the open carafe of cluster `k` of `s`. -/
def CloseOutcome (s : State) (k tc : Nat) (t : State) : Prop :=
  if (s.openCarafe k).isOpen = false then t.openCarafe k = { s.openCarafe k with
      lastClose := tc, isOpen := bitAt (s.ac Reg.SRV_RT_CTRL) 0, leaves := [], maxLeaves := s.maxLeaves, since := tc }
  else if s.depthFull k = true then
    t.openCarafe k = { s.openCarafe k with lastClose := tc } ∧
    t.rd Reg.SRV_RT_CLOSE_DEFER = satAdd (s.rd Reg.SRV_RT_CLOSE_DEFER) 1
  else t.openCarafe k = { s.openCarafe k with
      lastClose := tc, isOpen := bitAt (s.ac Reg.SRV_RT_CTRL) 0, leaves := [], maxLeaves := s.maxLeaves, since := tc
      draining := (s.openCarafe k).draining ++
        [⟨tc, (s.openCarafe k).since, (s.openCarafe k).leaves, (s.openCarafe k).maxLeaves⟩] }

/-- R208, R211: the close slot of a cluster fires. -/
theorem carafeClose_does (k : Fin 32) (s : State) : Does (.carafeClose k) s fun t =>
    if s.slotReady (48 + k.val) = true then
      bitAt (t.rd (Reg.TSC_CS_STAT (48 + k.val))) 0 = true ∧ CloseOutcome s k.val (s.closeTime k.val) t
    else t = s := by
  by_cases ready : s.slotReady (48 + k.val) = true
  · refine ⟨_, execCarafeClose_fires ready rfl, ite_intro_pos ready ?_⟩
    obtain ⟨carafe, -, active, regs, fired⟩ := s.closeNoted_spec k.val k.isLt
    have full := s.depthFull_closeNoted k.val k.isLt
    generalize s.closeNoted k.val = u at *
    have deferred := State.raiseLim_evOnly (u.bump Reg.SRV_RT_CLOSE_DEFER) 169 0 msTicks (by decide)
    unfold CloseOutcome State.maxLeaves State.ac
    rw [carafe, full, ← active]
    by_cases shut : (s.openCarafe k.val).isOpen = false
    · rw [if_pos shut, if_pos shut]
      refine ⟨fired, (State.openCarafe_updOpenCarafe_same ..).trans ?_⟩
      rw [carafe]
      rfl
    rw [if_neg shut, if_neg shut]
    by_cases depth : s.depthFull k.val = true
    · rw [if_pos depth, if_pos depth]
      refine ⟨?_, (State.openCarafe_raiseLim ..).trans carafe, ?_⟩
      · rw [State.closeDeferred, deferred.regs _ (evKey_slotStat (by omega)),
          State.bump_rd_ne _ _ (by unfold Reg.TSC_CS_STAT Reg.SRV_RT_CLOSE_DEFER; omega)]
        exact fired
      · rw [State.closeDeferred, deferred.regs _ (by decide), State.bump_rd_same, regs _ (by decide) (by decide)]
    · rw [if_neg depth, if_neg depth]
      refine ⟨fired, (State.openCarafe_updOpenCarafe_same ..).trans ?_⟩
      rw [State.openCarafe_updOpenCarafe_same, carafe]
      rfl
  · exact ⟨s, execCarafeClose_idle ready, ite_intro_neg ready rfl⟩

end Sys2Proof.Machine
end

section
/-!
PROOFS. The root, the signature and the replies of sealed carafes (R212, R216, R218), and the statement on carafes.
-/

namespace Sys2Proof.Machine

/-! ### The root -/

section
variable {s : State} {k : Fin 32}

theorem execRootComplete_none (folds : s.rt.sealed.find? (fun c => c.cluster == k.val && c.stage == .folding) = none) :
    exec (.rootComplete k) s = .next s := by
  change execRootComplete k s = _
  unfold execRootComplete
  rw [folds]

theorem execRootComplete_some {c : Carafe} (folds : s.rt.sealed.find? (fun c => c.cluster == k.val && c.stage == .folding) = some c) :
    exec (.rootComplete k) s = .next ((s.advTo (c.sealTick + (8 * treeDepth c.leaves.length + 16) * cclkTicks)).updCarafe c.id
      fun c => { c with stage := .queued }) := by
  change execRootComplete k s = _
  unfold execRootComplete
  rw [folds]

end

/-- A change of a sealed carafe changes the list of these alone. -/
theorem State.updCarafe_rt (s : State) (id : Nat) (f : Carafe → Carafe) :
    (s.updCarafe id f).rt = { s.rt with sealed := s.rt.sealed.map fun x => if x.id = id then f x else x } := rfl

/-- R212: the root of a carafe is complete. -/
theorem rootComplete_does (k : Fin 32) (s : State) : Does (.rootComplete k) s fun t =>
    match s.rt.sealed.find? (fun c => c.cluster == k.val && c.stage == .folding) with
    | none => t = s
    | some c => t.time.now = max s.time.now (c.sealTick + (8 * treeDepth c.leaves.length + 16) * cclkTicks) ∧
      t.rt = { s.rt with sealed := s.rt.sealed.map (fun x => if x.id = c.id then { x with stage := .queued } else x) } := by
  cases folds : s.rt.sealed.find? (fun c => c.cluster == k.val && c.stage == .folding) with
  | none => exact ⟨s, execRootComplete_none folds, rfl⟩
  | some c =>
    refine ⟨_, execRootComplete_some folds, State.advTo_now .., ?_⟩
    rw [State.updCarafe_rt, State.advTo_rt]

/-! ### Dispatch to an engine -/

section
variable {s : State} {i : Nat} {j : PkeJob}

/-- R278: a submission that is taken. -/
theorem State.submit_taken (taken : s.submitResult i j = 0) : (s.submit i j).1 = 0 ∧ (s.submit i j).2.rt = s.rt ∧
    ((s.submit i j).2.eng i).pend = (s.eng i).pend ++ [j] ∧ ∀ m, m ≠ i → (s.submit i j).2.eng m = s.eng m := by
  unfold State.submit
  dsimp only
  rw [if_pos taken]
  exact ⟨rfl, rfl, congrArg Engine.pend (State.eng_updEng_same ..), fun m ne => State.eng_updEng_ne _ _ ne⟩

/-- R278: a submission that is refused. -/
theorem State.submit_refused (refused : ¬ s.submitResult i j = 0) : ¬ (s.submit i j).1 = 0 ∧ (s.submit i j).2.rt = s.rt ∧
    (s.submit i j).2.pke = s.pke ∧
    (i < 8 → (s.submit i j).2.rd (Reg.PKE_SUB_REFUSED i) = satAdd (s.rd (Reg.PKE_SUB_REFUSED i)) 1) := by
  unfold State.submit
  dsimp only
  rw [if_neg refused]
  refine ⟨refused, State.raiseLim_rt .., State.raiseLim_pke .., fun hi => ?_⟩
  have own : EngReg (Reg.PKE_SUB_REFUSED i) := by unfold EngReg Reg.PKE_SUB_REFUSED; omega
  exact ((State.raiseLim_evOnly _ 197 i msTicks (by decide)).regs _ own.evKey).trans (State.bump_rd_same ..)

theorem execSignDispatch_none (queued : s.rt.sealed.find? (fun c => c.stage == .queued) = none) : exec .signDispatch s = .next s := by
  change execSignDispatch s = _
  unfold execSignDispatch
  rw [queued]

variable {c : Carafe} (queued : s.rt.sealed.find? (fun c => c.stage == .queued) = some c)
include queued

theorem execSignDispatch_full
    (full : (List.range 8).find? (fun i => bitAt (s.ac Reg.SRV_RT_SIGN) i && s.engFree i) = none) : exec .signDispatch s = .next s := by
  change execSignDispatch s = _
  unfold execSignDispatch
  rw [queued]
  dsimp only
  rw [full]

theorem execSignDispatch_free
    (free : (List.range 8).find? (fun i => bitAt (s.ac Reg.SRV_RT_SIGN) i && s.engFree i) = some i) : exec .signDispatch s =
      .next (if (s.submit i c.signJob).1 = 0 then (s.submit i c.signJob).2.updCarafe c.id fun c => { c with stage := .signing i }
        else (s.submit i c.signJob).2) := by
  change execSignDispatch s = _
  unfold execSignDispatch
  rw [queued]
  dsimp only
  rw [free]

end

/-- R216: the head of the signing queue goes to the first free engine of PKE_MASK. -/
theorem signDispatch_does (s : State) : Does .signDispatch s fun t => match s.rt.sealed.find? (fun c => c.stage == .queued) with
    | none => t = s
    | some c => match (List.range 8).find? (fun i => bitAt (s.ac Reg.SRV_RT_SIGN) i && s.engFree i) with
      | none => t = s
      | some i => if s.submitResult i c.signJob = 0 then
          (t.eng i).pend = [c.signJob] ∧ (∀ j, j ≠ i → t.eng j = s.eng j) ∧
          t.rt = { s.rt with sealed := s.rt.sealed.map (fun x => if x.id = c.id then { x with stage := .signing i } else x) }
        else t.rt = s.rt ∧ t.pke = s.pke ∧ t.rd (Reg.PKE_SUB_REFUSED i) = satAdd (s.rd (Reg.PKE_SUB_REFUSED i)) 1 := by
  cases queued : s.rt.sealed.find? (fun c => c.stage == .queued) with
  | none => exact ⟨s, execSignDispatch_none queued, rfl⟩
  | some c =>
    dsimp only
    cases free : (List.range 8).find? (fun i => bitAt (s.ac Reg.SRV_RT_SIGN) i && s.engFree i) with
    | none => exact ⟨s, execSignDispatch_full queued free, rfl⟩
    | some i =>
      refine ⟨_, execSignDispatch_free queued free, ?_⟩
      by_cases taken : s.submitResult i c.signJob = 0
      · obtain ⟨zero, rt, pend, others⟩ := State.submit_taken taken
        have idle := List.find?_some free
        have empty : (s.eng i).pend = [] := by
          simp only [State.engFree, Bool.and_eq_true, List.isEmpty_iff] at idle
          exact idle.2.2
        rw [empty] at pend
        rw [if_pos zero]
        refine ite_intro_pos taken ⟨pend, others, ?_⟩
        rw [State.updCarafe_rt, rt]
      · obtain ⟨failed, rt, pke, counted⟩ := State.submit_refused taken
        rw [if_neg failed]
        exact ite_intro_neg taken ⟨rt, pke, counted (List.mem_range.mp (List.mem_of_find?_eq_some free))⟩

/-! ### A carafe without its signature -/

section
variable (s : State) {a : Nat} (ev : evKey a = false) (low : a < 0x1100000)
include ev

/-- A record in a completion queue changes event status alone. -/
theorem State.cplPush_rd (i core : Nat) (c : Cpl) : (s.cplPush i core c).rd a = s.rd a := by
  unfold State.cplPush
  dsimp only
  split
  · split
    · exact State.raise_rd _ 198 a (by decide) ev
    · rfl
  · exact (State.raise_rd _ 194 a (by decide) ev).trans ((State.coreMark_evOnly _ core (by decide)).regs a ev)

include low

/-- The end of a job counts in the registers of the engines alone, and so does an abort. -/
theorem State.jobDone_rd (i : Nat) (j : PkeJob) (status : Nat) : (s.jobDone i j status).rd a = s.rd a := by
  have counted (t : State) : ((t.bump (Reg.PKE_JOBS i)).flow 0x20).rd a = t.rd a :=
    ((State.flow_evOnly ..).regs a ev).trans (State.bump_rd_ne _ _ (by unfold Reg.PKE_JOBS; omega))
  unfold State.jobDone
  dsimp only
  split
  · exact (State.cplPush_rd _ ev ..).trans (counted _)
  · exact counted _

theorem State.abortRunning_rd (i : Nat) (r : Run) : (s.abortRunning i r).rd a = s.rd a := by
  unfold State.abortRunning State.pkeBusy
  dsimp only
  rw [State.jobDone_rd _ ev low, State.raise_rd _ 196 a (by decide) ev, State.bump_rd_ne _ _ (by unfold Reg.PKE_ABORTS; omega),
    State.bump_rd_ne _ _ (by unfold Reg.PKE_BUSY; omega)]
  rfl

theorem State.abortPending_rd (i : Nat) (j : PkeJob) : (s.abortPending i j).rd a = s.rd a := by
  unfold State.abortPending
  dsimp only
  rw [State.jobDone_rd _ ev low, State.raise_rd _ 196 a (by decide) ev, State.bump_rd_ne _ _ (by unfold Reg.PKE_ABORTS; omega)]
  rfl

theorem State.abortJob_rd (i : Nat) (f : PkeJob → Bool) (begun : Bool) : (s.abortJob i f begun).2.rd a = s.rd a := by
  have pending : (match (s.eng i).pend.find? f with
      | some j => (true, s.abortPending i j)
      | none => (false, s)).2.rd a = s.rd a := by
    split
    · exact s.abortPending_rd ev low ..
    · rfl
  unfold State.abortJob
  dsimp only
  split
  · split
    · split
      · rfl
      · exact s.abortRunning_rd ev low ..
    · exact pending
  · exact pending

theorem State.abortCarafe_rd (c : Carafe) : (s.abortCarafe c).rd a = s.rd a := by
  unfold State.abortCarafe
  split
  · rename_i i _
    have begun : (s.outBegun i).2.rd a = s.rd a := by
      unfold State.outBegun
      split
      · rfl
      · split
        · rfl
        · rfl
    exact ((s.outBegun i).2.abortJob_rd ev low ..).trans begun
  · rfl

end

/-- A carafe that leaves the list of sealed carafes. -/
theorem State.dropCarafe_rt (s : State) (id : Nat) : (s.dropCarafe id).rt = { s.rt with
    sealed := s.rt.sealed.filter (fun x => x.id != id), wipeOld := (s.dropCarafe id).rt.wipeOld } := State.deleWipe_rt _

theorem State.dropCarafe_regWork (s : State) (id : Nat) (P : Nat → Prop) : RegWork P s (s.dropCarafe id) :=
  (RegWork.of_live (s := s) (t := { s with rt := { s.rt with sealed := s.rt.sealed.filter (fun x => x.id != id) } }) rfl).trans
    (State.deleWipe_regWork _ P)

/-- R216: carafe `c` is discarded with its job. -/
def State.carafeStale (s : State) (c : Carafe) : State :=
  ((((s.advTo (c.sealTick + msTicks * fld (s.ac Reg.SRV_RT_SIGN) 16 16)).abortCarafe c).dropCarafe c.id).bump Reg.SRV_RT_DROP_STALE
    c.leaves.length).raise 170

theorem State.carafeStale_spec (s : State) (c : Carafe) {t : State} (ht : t = s.carafeStale c) :
    t.time.now = max s.time.now (c.sealTick + msTicks * fld (s.ac Reg.SRV_RT_SIGN) 16 16) ∧
      t.rt = { s.rt with sealed := s.rt.sealed.filter (fun x => x.id != c.id), wipeOld := t.rt.wipeOld } ∧ t.evSet 170 = true ∧
      t.rd Reg.SRV_RT_DROP_STALE = satAdd (s.rd Reg.SRV_RT_DROP_STALE) c.leaves.length := by
  subst ht
  have aborted := State.abortCarafe_touch (w := 807404033) rfl
    (s.advTo (c.sealTick + msTicks * fld (s.ac Reg.SRV_RT_SIGN) 16 16)) c (.refl ..)
  have rd := (s.advTo (c.sealTick + msTicks * fld (s.ac Reg.SRV_RT_SIGN) 16 16)).abortCarafe_rd (a := Reg.SRV_RT_DROP_STALE)
    (by decide) (by decide) c
  have now : ((s.advTo (c.sealTick + msTicks * fld (s.ac Reg.SRV_RT_SIGN) 16 16)).abortCarafe c).time.now = _ :=
    (congrArg TimeSt.now (aborted.same .time rfl)).trans (State.advTo_now ..)
  have rt : ((s.advTo (c.sealTick + msTicks * fld (s.ac Reg.SRV_RT_SIGN) 16 16)).abortCarafe c).rt = s.rt :=
    (aborted.same .rt rfl).trans (State.advTo_rt ..)
  rw [State.rd_advTo] at rd
  unfold State.carafeStale
  generalize (s.advTo _).abortCarafe c = u at *
  have time : (u.dropCarafe c.id).time = u.time := (State.dropCarafe_touch (w := 539755009) rfl u c.id (.refl ..)).same .time rfl
  refine ⟨?_, ?_, State.raise_evSet _ 170 (by decide), ?_⟩
  · rw [State.raise_time, State.bump_time, time, now]
  · rw [State.raise_rt, State.bump_rt]
    have dropped := u.dropCarafe_rt c.id
    rwa [rt] at dropped
  · rw [State.raise_rd _ 170 _ (by decide) (by decide), State.bump_rd_same,
      (u.dropCarafe_regWork c.id fun _ => False).regs _ id (by decide), rd]

theorem execCarafeSignStale_none {s : State} (signed : s.rt.sealed.find? Carafe.unsigned = none) : exec .carafeSignStale s = .next s := by
  change execCarafeSignStale s = _
  unfold execCarafeSignStale
  rw [signed]

theorem execCarafeSignStale_some {s : State} {c : Carafe} (waits : s.rt.sealed.find? Carafe.unsigned = some c) :
    exec .carafeSignStale s = .next (s.carafeStale c) := by
  change execCarafeSignStale s = _
  unfold execCarafeSignStale
  rw [waits]
  rfl

/-- R216: the oldest carafe without a signature is discarded. -/
theorem carafeSignStale_does (s : State) : Does .carafeSignStale s fun t => match s.rt.sealed.find? Carafe.unsigned with
    | none => t = s
    | some c => t.time.now = max s.time.now (c.sealTick + msTicks * fld (s.ac Reg.SRV_RT_SIGN) 16 16) ∧
      t.rt = { s.rt with sealed := s.rt.sealed.filter (fun x => x.id != c.id), wipeOld := t.rt.wipeOld } ∧ t.evSet 170 = true ∧
      t.rd Reg.SRV_RT_DROP_STALE = satAdd (s.rd Reg.SRV_RT_DROP_STALE) c.leaves.length := by
  cases waits : s.rt.sealed.find? Carafe.unsigned with
  | none => exact ⟨s, execCarafeSignStale_none waits, rfl⟩
  | some c => exact ⟨_, execCarafeSignStale_some waits, s.carafeStale_spec c rfl⟩

/-! ### Replies -/

section
variable {s : State} {k : Fin 32}

theorem execCarafeSigned_none (signed : (s.rt.sealed.filter (fun c => c.cluster == k.val)).find? (fun c => c.stage == .signed) = none) :
    exec (.carafeSigned k) s = .next s := by
  change execCarafeSigned k s = _
  unfold execCarafeSigned
  dsimp only
  rw [signed]

theorem execCarafeSigned_some {c : Carafe}
    (signed : (s.rt.sealed.filter (fun c => c.cluster == k.val)).find? (fun c => c.stage == .signed) = some c) :
    exec (.carafeSigned k) s = .next (if (s.rt.sealed.filter (fun c => c.cluster == k.val)).any Carafe.emits = true then s
      else s.updCarafe c.id fun x => { x with stage := .emitting 0, emitAt := max c.emitAt (s.openCarafe k.val).emitEnd }) := by
  change execCarafeSigned k s = _
  unfold execCarafeSigned
  dsimp only
  rw [signed]
  exact next_unless .rfl ..

end

/-- R218: a signed carafe begins to emit. -/
theorem carafeSigned_does (k : Fin 32) (s : State) (m : List Carafe) (hm : m = s.rt.sealed.filter (fun c => c.cluster == k.val)) :
    Does (.carafeSigned k) s fun t => match m.find? (fun c => c.stage == .signed) with
      | none => t = s
      | some c => if m.any Carafe.emits = true then t = s
        else t = { s with rt := { s.rt with sealed := s.rt.sealed.map (fun x =>
          if x.id = c.id then { x with stage := .emitting 0, emitAt := max c.emitAt (s.openCarafe k.val).emitEnd } else x) } } := by
  subst hm
  cases signed : (s.rt.sealed.filter (fun c => c.cluster == k.val)).find? (fun c => c.stage == .signed) with
  | none => exact ⟨s, execCarafeSigned_none signed, rfl⟩
  | some c => exact does_unless (execCarafeSigned_some signed) fun _ => rfl

/-! ### Emission -/

section
variable (s : State) (c : Carafe) (n : Nat) (l : Leaf)

/-- R218: how the reply to leaf `l` is addressed now. -/
def State.leafHead : FrameHead := { c.head l with sport := fld (s.ac Reg.SRV_RT_PORT) 0 16 }

/-- R149, R218: the reply to leaf `l` goes to the best-effort queue of its port, and is counted where the port takes it. -/
def State.replyPush : State :=
  (if s.isUp l.port = true then s.bump Reg.SRV_RT_ANS else s).bePush l.port .roughtime ((s.leafHead c l).len (c.reply n).length)
    (c.reply n) (some (s.leafHead c l))

/-- R71, R149, R218: from `s` to `t` the reply to leaf `l` has joined the queue of its port, or its port is not UP. -/
def ReplySent (t : State) : Prop :=
  if s.isUp l.port = true then t.rd Reg.SRV_RT_ANS = satAdd (s.rd Reg.SRV_RT_ANS) 1 ∧
    ∃ f, (t.port l.port).be = (s.port l.port).be ++ [f] ∧ f.bytes = c.reply n ∧ f.kind = .roughtime ∧
      f.head = some { c.head l with sport := fld (s.ac Reg.SRV_RT_PORT) 0 16 }
  else t.ports = s.ports ∧ (l.port < 8 → t.rd (Reg.PRT_DROP_LINK l.port) = satAdd (s.rd (Reg.PRT_DROP_LINK l.port)) 1)

theorem State.replyPush_sent : ReplySent s c n l (s.replyPush c n l) := by
  unfold State.replyPush State.bePush
  by_cases up : s.isUp l.port = true
  · have still : (s.bump Reg.SRV_RT_ANS).isUp l.port = true := up
    rw [if_pos up, if_pos still]
    exact ite_intro_pos up ⟨State.bump_rd_same .., _, congrArg PortSt.be (State.port_updPort_same ..), rfl, rfl, rfl⟩
  · rw [if_neg up, if_neg up]
    exact ite_intro_neg up ⟨rfl, fun _ => State.bump_rd_same ..⟩

theorem State.replyPush_parts : (s.replyPush c n l).rt = s.rt ∧ (s.replyPush c n l).time = s.time := by
  have touch := State.bePush_touch (w := 536875521) rfl _ l.port .roughtime ((s.leafHead c l).len (c.reply n).length) (c.reply n)
    (some (s.leafHead c l)) 0 (touch_ite (c := s.isUp l.port = true) (State.bump_touch rfl s Reg.SRV_RT_ANS 1 (.refl ..)) (.refl _ s))
  exact ⟨touch.same .rt rfl, touch.same .time rfl⟩

variable {s c n l}

/-- The reply is as before an advance of time. -/
theorem ReplySent.before {t : State} {x : Nat} (h : ReplySent (s.advTo x) c n l t) : ReplySent s c n l t := by
  unfold ReplySent State.isUp at *
  rwa [State.port_advTo, State.advTo_ports, State.ac_advTo, State.rd_advTo, State.rd_advTo] at h

/-- The reply is as after work that leaves the ports and their counters. -/
theorem ReplySent.after {t u : State} (h : ReplySent s c n l t) (ports : u.ports = t.ports) (regs : RegWork (fun _ => False) t u) :
    ReplySent s c n l u := by
  unfold ReplySent at *
  rwa [regs.regs _ id (evKey_dropLink l.port), regs.regs _ id (by decide), State.port_congr ports, ports]

end

/-- R218: the reply to leaf `n` of `c` at tick `at_` has been sent: `c` goes on to the next leaf, or its records are free. -/
def State.replied (s : State) (k : Nat) (c : Carafe) (n at_ : Nat) : State :=
  if n + 1 = c.leaves.length then (s.dropCarafe c.id).updOpenCarafe k fun o => { o with emitEnd := at_ }
  else s.updCarafe c.id fun c => { c with stage := .emitting (n + 1), emitAt := at_ }

theorem State.replied_spec (s : State) (k : Nat) (c : Carafe) (n at_ : Nat) {t : State} (ht : t = s.replied k c n at_) :
    t.time = s.time ∧ t.ports = s.ports ∧ RegWork (fun _ => False) s t ∧
    t.rt.sealed = (if n + 1 = c.leaves.length then s.rt.sealed.filter (fun x => x.id != c.id)
      else s.rt.sealed.map (fun x => if x.id = c.id then { x with stage := .emitting (n + 1), emitAt := at_ } else x)) ∧
    (n + 1 = c.leaves.length → (t.openCarafe k).emitEnd = at_) := by
  unfold State.replied at ht
  by_cases last : n + 1 = c.leaves.length
  · rw [if_pos last] at ht ⊢
    subst ht
    have touch := State.dropCarafe_touch (w := 539755009) rfl s c.id (.refl ..)
    have left : (s.dropCarafe c.id).rt.sealed = s.rt.sealed.filter (fun x => x.id != c.id) := by rw [State.dropCarafe_rt]
    exact ⟨touch.same .time rfl, touch.same .ports rfl, (s.dropCarafe_regWork c.id _).trans (.of_live rfl), left,
      fun _ => congrArg OpenCarafe.emitEnd (State.openCarafe_updOpenCarafe_same ..)⟩
  · rw [if_neg last] at ht ⊢
    subst ht
    exact ⟨rfl, rfl, .of_live rfl, rfl, fun x => absurd x last⟩

section
variable {s : State} {k : Fin 32} {c : Carafe} {n : Nat}

theorem execRtReplyEmit_none (emits : s.rt.sealed.find? (fun c => c.cluster == k.val && c.emits) = none) :
    exec (.rtReplyEmit k) s = .next s := by
  change execRtReplyEmit k s = _
  unfold execRtReplyEmit
  rw [emits]

variable (emits : s.rt.sealed.find? (fun c => c.cluster == k.val && c.emits) = some c)
include emits

/-- A carafe that emits stands at a leaf. -/
theorem stage_of_emits : ∃ n, c.stage = .emitting n := by
  have found := List.find?_some emits
  simp only [Bool.and_eq_true] at found
  unfold Carafe.emits at found
  split at found
  · exact ⟨_, ‹_›⟩
  · exact absurd found.2 (by decide)

variable (stage : c.stage = .emitting n)
include stage

theorem execRtReplyEmit_beyond (beyond : c.leaves[n]? = none) : exec (.rtReplyEmit k) s = .next (s.dropCarafe c.id) := by
  change execRtReplyEmit k s = _
  unfold execRtReplyEmit
  rw [emits]
  dsimp only
  rw [stage]
  dsimp only
  rw [beyond]

theorem execRtReplyEmit_leaf {l : Leaf} (leaf : c.leaves[n]? = some l) : exec (.rtReplyEmit k) s =
    .next (((s.advTo (c.emitAt + 16 * cclkTicks)).replyPush c n l).replied k.val c n (c.emitAt + 16 * cclkTicks)) := by
  change execRtReplyEmit k s = _
  unfold execRtReplyEmit
  rw [emits]
  dsimp only
  rw [stage]
  dsimp only
  rw [leaf]
  rfl

end

/-- R218: the next reply of a carafe that emits. -/
theorem rtReplyEmit_does (k : Fin 32) (s : State) : Does (.rtReplyEmit k) s fun t =>
    match s.rt.sealed.find? (fun c => c.cluster == k.val && c.emits) with
    | none => t = s
    | some c => match c.stage with
      | .emitting n => (match c.leaves[n]? with
        | none => t.rt.sealed = s.rt.sealed.filter (fun x => x.id != c.id)
        | some l => t.time.now = max s.time.now (c.emitAt + 16 * cclkTicks) ∧
          t.rt.sealed = (if n + 1 = c.leaves.length then s.rt.sealed.filter (fun x => x.id != c.id)
            else s.rt.sealed.map (fun x =>
              if x.id = c.id then { x with stage := .emitting (n + 1), emitAt := c.emitAt + 16 * cclkTicks } else x)) ∧
          (n + 1 = c.leaves.length → (t.openCarafe k.val).emitEnd = c.emitAt + 16 * cclkTicks) ∧ ReplySent s c n l t)
      | _ => t = s := by
  cases emits : s.rt.sealed.find? (fun c => c.cluster == k.val && c.emits) with
  | none => exact ⟨s, execRtReplyEmit_none emits, rfl⟩
  | some c =>
    obtain ⟨n, stage⟩ := stage_of_emits emits
    dsimp only
    rw [stage]
    dsimp only
    cases leaf : c.leaves[n]? with
    | none =>
      refine ⟨_, execRtReplyEmit_beyond emits stage leaf, ?_⟩
      dsimp only
      rw [State.dropCarafe_rt]
    | some l =>
      refine ⟨_, execRtReplyEmit_leaf emits stage leaf, ?_⟩
      have sent := ((s.advTo (c.emitAt + 16 * cclkTicks)).replyPush_sent c n l).before
      obtain ⟨rt, now⟩ := (s.advTo (c.emitAt + 16 * cclkTicks)).replyPush_parts c n l
      obtain ⟨time, ports, regs, left, last⟩ :=
        ((s.advTo (c.emitAt + 16 * cclkTicks)).replyPush c n l).replied_spec k.val c n (c.emitAt + 16 * cclkTicks) rfl
      rw [rt, State.advTo_rt] at left
      refine ⟨?_, left, last, sent.after ports regs⟩
      rw [time, now, State.advTo_now]

/-- Settles O30: one lemma for each command; a close by the state of the open carafe, and a seal by what becomes of its leaves, which
a late successor of the delegation that takes over does not change. -/
theorem carafes : Obligations.Carafes := by
  refine ⟨?_, fun k s => ⟨carafeSeal_does k s, carafeSealLimit_does k s⟩, ?_, rootComplete_does, signDispatch_does,
    carafeSignStale_does, carafeSigned_does, rtReplyEmit_does⟩
  · rintro k s _ rfl
    exact carafeClose_does k s
  · rintro s k d _ rfl
    exact s.sealDraining_spec k d

end Sys2Proof.Machine
end

section
/-!
PROOFS. The answers to signalling messages, and the changes of the grant table (R243–R245, R248).
-/

namespace Sys2Proof.Machine

/-! ### A reply -/

section
variable (s : State) (n : Nat) (f : Frame) (tlv : List Byte)

/-- The signalling message with one TLV that port `n` would send now to the client of frame `f`; none without its key (R248). -/
def State.sigOut : Option (List Byte) :=
  s.signed s.cfg.gen n s.time.now (s.sigMsg n (s.ptpDomain s.cfg.gen n) (s.ptpPort n).sigSeq (s.ptpAuth s.cfg.gen n)
    (slice f.payload 20 10) tlv)

/-- Port `n` has used one sequenceId of signalling. -/
def State.sigNext : State := s.updPtpPort n (fun p => { p with sigSeq := ((s.ptpPort n).sigSeq + 1) % 65536 })

theorem State.sigReply_eq : s.sigReply n f tlv = match s.sigOut n f tlv with
    | some m => (s.sigNext n).coreSend n (f.kind == .udp6) f.src (if f.vlans = 1 then some f.tci else none) m
    | none => s.sigNext n := by
  unfold State.sigReply State.portSignal State.sigOut
  rfl

/-- A reply changes of the PTP services the sequenceId of signalling alone. -/
theorem State.sigReply_ptp : (s.sigReply n f tlv).ptp = (s.sigNext n).ptp := by
  rw [State.sigReply_eq]
  cases s.sigOut n f tlv with
  | none => rfl
  | some m => exact State.bePush_ptp ..

theorem State.sigReply_grants : (s.sigReply n f tlv).ptp.grants = s.ptp.grants := by
  rw [State.sigReply_ptp]
  rfl

theorem State.sigReply_grantPend : (s.sigReply n f tlv).ptp.grantPend = s.ptp.grantPend := by
  rw [State.sigReply_ptp]
  rfl

/-- R71: a reply counts at most in the frames for a port that is not UP. -/
theorem State.sigReply_rd {a : Nat} (other : a ≠ Reg.PRT_DROP_LINK n) : (s.sigReply n f tlv).rd a = s.rd a := by
  rw [State.sigReply_eq]
  cases s.sigOut n f tlv with
  | none => rfl
  | some m => exact State.bePush_rd _ _ _ _ _ _ other

theorem State.sigReply_answered : Answered n f tlv s (s.sigReply n f tlv) := by
  refine ⟨?_, ?_⟩
  · rw [State.ptpPort_congr (State.sigReply_ptp ..)]
    exact congrArg PtpPort.sigSeq (State.ptpPort_updPtpPort_same ..)
  · change Queued n (s.sigOut n f tlv) _ _
    rw [State.sigReply_eq]
    cases s.sigOut n f tlv with
    | none => rfl
    | some m => exact Queued.before (t := s.sigNext n) (State.bePush_queued ..) rfl

end

section
variable {s t u : State} {n : Nat} {f : Frame} {tlv : List Byte}

/-- From `s` to `t` nothing changes that a reply of port `n` to the client of frame `f` depends on. -/
structure SameSig (n : Nat) (f : Frame) (s t : State) : Prop where
  ports : t.ports = s.ports
  seq : t.ptpPort n = s.ptpPort n
  out : ∀ tlv, t.sigOut n f tlv = s.sigOut n f tlv

theorem SameSig.refl (s : State) (n : Nat) (f : Frame) : SameSig n f s s := ⟨rfl, rfl, fun _ => rfl⟩

theorem SameSig.bump (h : SameSig n f s t) (a : Nat) : SameSig n f s (t.bump a) := ⟨h.ports, h.seq, h.out⟩

theorem SameSig.grantWrite (h : SameSig n f s t) (i : Nat) (g : GrantSet) (place : Nat) : SameSig n f s (t.grantWrite i g place) :=
  ⟨h.ports, h.seq, h.out⟩

theorem SameSig.raiseLim (h : SameSig n f s t) (e key ticks : Nat) : SameSig n f s (t.raiseLim e key ticks) := by
  rw [State.raiseLim_shape]
  exact ⟨h.ports, h.seq, h.out⟩

/-- The reply is the one that the state before asks for. -/
theorem SameSig.answered (h : SameSig n f s t) : Answered n f tlv s (t.sigReply n f tlv) := by
  obtain ⟨seq, queued⟩ := t.sigReply_answered n f tlv
  rw [h.seq] at seq
  have message : Queued n (t.sigOut n f tlv) t (t.sigReply n f tlv) := queued
  rw [h.out] at message
  exact ⟨seq, message.before h.ports⟩

end

/-! ### A denial -/

section
variable (s : State) (n : Nat) (f : Frame) (type : Nat) (log : Int)

/-- R244: a request has been denied, and the grants are as before. -/
def Denied (t : State) : Prop :=
  t.rd Reg.SRV_PTP_DENY = satAdd (s.rd Reg.SRV_PTP_DENY) 1 ∧ t.ptp.grants = s.ptp.grants ∧ t.ptp.grantPend = s.ptp.grantPend ∧
    Answered n f (grantTlv type log 0) s t

/-- The counters of the services are not those of frames for a port that is not UP. -/
theorem serviceReg_ne_dropLink {a : Nat} (h : 0x0C00000 ≤ a ∧ a % 0x10000 ≠ 0x210) : a ≠ Reg.PRT_DROP_LINK n := by
  unfold Reg.PRT_DROP_LINK
  omega

theorem State.grantDeny_rd {a : Nat} (other : a ≠ Reg.PRT_DROP_LINK n) (ev : evKey a = false) :
    (s.grantDeny n f type log).rd a = (s.bump Reg.SRV_PTP_DENY).rd a :=
  (State.sigReply_rd _ n f _ other).trans ((State.raiseLim_evOnly _ 178 0 sTicks (by decide)).regs a ev)

variable {s n f} in
/-- R244: the denial of a request, told of a state before. -/
theorem SameSig.denied {u : State} (h : SameSig n f s u) (deny : u.rd Reg.SRV_PTP_DENY = s.rd Reg.SRV_PTP_DENY) (ptp : u.ptp = s.ptp) :
    Denied s n f type log (u.grantDeny n f type log) := by
  refine ⟨?_, ?_, ?_, SameSig.answered ((h.bump _).raiseLim ..)⟩
  · rw [State.grantDeny_rd u n f type log (serviceReg_ne_dropLink n (by decide)) (by decide), State.bump_rd_same, deny]
  · exact (State.sigReply_grants ..).trans (by rw [State.raiseLim_ptp, State.bump_ptp, ptp])
  · exact (State.sigReply_grantPend ..).trans (by rw [State.raiseLim_ptp, State.bump_ptp, ptp])

end

/-! ### The grants of a client -/

/-- A message type that can be granted (R243, R244). -/
def Grantable (type : Nat) : Prop := type = 0 ∨ type = 0xB ∨ type = 9

theorem grantable_of_logOk {s : State} {type : Nat} {log : Int} (h : s.logOk type log = true) : Grantable type := by
  unfold Grantable
  by_contra other
  obtain ⟨sync, announce, dresp⟩ : type ≠ 0 ∧ type ≠ 0xB ∧ type ≠ 9 := by simpa using other
  simp [State.logOk, sync, announce, dresp] at h

section
variable (g : GrantSet) (type : Nat) (x : Option Grant)

/-- A change of a grant leaves the client of the set and its phase. -/
theorem GrantSet.put_client : (g.put type x).port = g.port ∧ (g.put type x).addr = g.addr ∧ (g.put type x).phase = g.phase := by
  unfold GrantSet.put
  split_ifs <;> exact ⟨rfl, rfl, rfl⟩

variable {type}

theorem GrantSet.get_put (h : Grantable type) : (g.put type x).get type = x := by
  rcases h with rfl | rfl | rfl <;> rfl

/-- R243: a set with a grant is valid. -/
theorem GrantSet.put_valid (h : Grantable type) (x : Grant) : (g.put type (some x)).valid = true := by
  rcases h with rfl | rfl | rfl <;> simp [GrantSet.put]

end

/-! ### A request -/

section
variable (s : State) (n : Nat) (f : Frame)

/-- R243: the grants of the client of frame `f` as the firmware last wrote them. -/
def State.grantHeld : GrantSet := match s.grantOf n f.src with
  | some i => s.grantLatest i
  | none => {}

/-- R243: the entry of the client and its place, or those that a new client takes. -/
def State.grantSlot : Option (Nat × Nat) := match s.grantOf n f.src with
  | some i => some (i, (s.grant i).place)
  | none => match s.grantFree, s.grantPlace n f.src with
    | some i, some w => some (i, w)
    | _, _ => none

/-- R244: the duration that is granted. -/
def State.grantDur (dur : Nat) : Nat := max (fld (s.ac Reg.SRV_PTP_UC_DUR) 0 16) (min (fld (s.ac Reg.SRV_PTP_UC_DUR) 16 16) dur)

/-- R234: the phase of the Sync of a client that holds the grants `old` at entry `i`: it stays but for another rate. -/
def State.grantPhase (old : GrantSet) (i type : Nat) (log : Int) : Option Nat :=
  let same := match old.sync with
    | some x => x.log == log
    | none => false
  if type ≠ 0 then some old.phase else if same then some old.phase else s.findPhase n i log

/-- R243–R245: the grants of the client of frame `f`, which held `old`, with a new one of duration `d`. -/
def State.grantNew (old : GrantSet) (p type : Nat) (log : Int) (d : Nat) : GrantSet :=
  ({ old with
    port := n, addr := f.src, v6 := f.kind == .udp6, tagged := f.vlans == 1
    portId := slice f.payload 20 10, phase := p, uport := f.sport, tci := f.tci } : GrantSet).put type
    (some ⟨log, (s.gAt (s.cclkAfter 8)).toNat / 1000 / stSec + d⟩)

/-- R244, R245: a grant is written to entry `i`, counted and answered. -/
def State.grantGive (old : GrantSet) (i w p type : Nat) (log : Int) (d : Nat) : State :=
  ((s.grantWrite i (s.grantNew n f old p type log d) w).bump Reg.SRV_PTP_GRANT).sigReply n f (grantTlv type log d)

/-- R234, R244: a request of a client that holds `old` and has entry `i` and place `w`. -/
def State.grantPlaced (old : GrantSet) (i w type : Nat) (log : Int) (dur : Nat) : State := match s.grantPhase n old i type log with
  | none => s.grantDeny n f type log
  | some p => s.grantGive n f old i w p type log (s.grantDur dur)

variable {s n f} {type dur i w : Nat} {log : Int}

theorem State.grantRequest_refused (refused : s.ptpState n ≠ 1 ∨ s.logOk type log = false) :
    s.grantRequest n f type log dur = s.grantDeny n f type log :=
  if_pos (by simpa using refused)

/-- The two tests of whether the phase stays are one. -/
theorem State.grantPhase_eq (old : GrantSet) : s.grantPhase n old i type log =
    if type ≠ 0 ∨ old.sync.any (fun x => x.log == log) = true then some old.phase else s.findPhase n i log := by
  unfold State.grantPhase
  by_cases other : type ≠ 0
  · rw [if_pos other, if_pos (.inl other)]
  · cases old.sync with
    | none => simp [other]
    | some x => simp [other]

variable (admits : ¬ (s.ptpState n ≠ 1 ∨ s.logOk type log = false))
include admits

/-- R243: the client has no entry, and there is none free or no place for it. -/
theorem State.grantRequest_full (slot : s.grantSlot n f = none) :
    s.grantRequest n f type log dur = (s.bump Reg.SRV_PTP_DENY_FULL).grantDeny n f type log := by
  refine (if_neg (by simpa using admits)).trans ?_
  unfold State.grantSlot at slot
  cases own : s.grantOf n f.src with
  | some j => simp [own] at slot
  | none =>
    cases free : s.grantFree with
    | none => rfl
    | some j =>
      cases place : s.grantPlace n f.src with
      | none => rfl
      | some w => simp [own, free, place] at slot

theorem State.grantRequest_placed (slot : s.grantSlot n f = some (i, w)) : s.grantRequest n f type log dur =
    s.grantPlaced n f (s.grantHeld n f) i w type log dur := by
  refine (if_neg (by simpa using admits)).trans ?_
  unfold State.grantSlot at slot
  unfold State.grantHeld
  cases own : s.grantOf n f.src with
  | some j =>
    obtain ⟨rfl, rfl⟩ : j = i ∧ (s.grant j).place = w := by simpa [own] using slot
    rfl
  | none =>
    cases free : s.grantFree with
    | none => simp [own, free] at slot
    | some j =>
      cases place : s.grantPlace n f.src with
      | none => simp [own, free, place] at slot
      | some v =>
        obtain ⟨rfl, rfl⟩ : j = i ∧ v = w := by simpa [own, free, place] using slot
        rfl

end

section
variable (s : State) (n : Nat) (f : Frame) (type : Nat) (log : Int) (dur : Nat)

theorem State.sigTlv_request {v : List Byte} (six : v.length = 6) : State.sigTlv n f s (4, v) =
    s.grantRequest n f (byteAt v 0 / 16) (Machine.signed 8 (byteAt v 1)) (ofBe (v.drop 2)) :=
  if_pos (by simp [six])

theorem State.sigTlv_cancel {v : List Byte} (two : v.length = 2) : State.sigTlv n f s (6, v) =
    s.grantCancel n f (byteAt v 0 / 16) :=
  (if_neg (by simp)).trans (if_pos (by simp [two]))

theorem State.sigTlv_other {k : Nat} {v : List Byte} (request : k = 4 → v.length ≠ 6) (cancel : k = 6 → v.length ≠ 2) :
    State.sigTlv n f s (k, v) = s :=
  (if_neg (by simpa using request)).trans (if_neg (by simpa using cancel))

/-- R244: a request has been granted: the grants of the client at entry `i` and place `w` are to change. -/
def Granted (i w p : Nat) (t : State) : Prop :=
  ∃ g d, d = s.grantDur dur ∧
    t.rd Reg.SRV_PTP_GRANT = satAdd (s.rd Reg.SRV_PTP_GRANT) 1 ∧ Answered n f (grantTlv type log d) s t ∧
    t.ptp.grants = s.ptp.grants ∧ t.ptp.grantPend = s.ptp.grantPend ++ [⟨i, s.cclkAfter 8, g, w⟩] ∧
    g.valid = true ∧ g.port = n ∧ g.addr = f.src ∧ g.phase = p ∧
    g.get type = some ⟨log, (s.gAt (s.cclkAfter 8)).toNat / 1000 / stSec + d⟩

theorem State.grantGive_granted (old : GrantSet) (i w p : Nat) (grantable : Grantable type) :
    Granted s n f type log dur i w p (s.grantGive n f old i w p type log (s.grantDur dur)) := by
  obtain ⟨port, addr, phase⟩ := GrantSet.put_client _ type _
  refine ⟨s.grantNew n f old p type log (s.grantDur dur), s.grantDur dur, rfl, ?_, ?_, State.sigReply_grants ..,
    State.sigReply_grantPend .., GrantSet.put_valid _ grantable _, port, addr, phase, GrantSet.get_put _ _ grantable⟩
  · exact (State.sigReply_rd _ n f _ (serviceReg_ne_dropLink n (by decide))).trans (State.bump_rd_same ..)
  · exact SameSig.answered (((SameSig.refl s n f).grantWrite ..).bump _)

variable {s n f type log dur}

/-- R244: the denial of a request. -/
theorem State.grantDeny_denied : Denied s n f type log (s.grantDeny n f type log) := SameSig.denied type log (.refl s n f) rfl rfl

/-- R234: a request without a phase is denied. -/
theorem State.grantPlaced_denied {old : GrantSet} {i w : Nat} (phase : s.grantPhase n old i type log = none) :
    Denied s n f type log (s.grantPlaced n f old i w type log dur) := by
  unfold State.grantPlaced
  rw [phase]
  exact State.grantDeny_denied

/-- R244: a request with an entry, a place and a phase is granted. -/
theorem State.grantPlaced_granted {old : GrantSet} {i w p : Nat} (phase : s.grantPhase n old i type log = some p)
    (grantable : Grantable type) : Granted s n f type log dur i w p (s.grantPlaced n f old i w type log dur) := by
  unfold State.grantPlaced
  rw [phase]
  exact State.grantGive_granted _ _ _ _ _ _ _ _ _ _ grantable

/-- R243: the denial of a request for which there is no room. -/
theorem State.grantFull_denied : Denied s n f type log ((s.bump Reg.SRV_PTP_DENY_FULL).grantDeny n f type log) ∧
    ((s.bump Reg.SRV_PTP_DENY_FULL).grantDeny n f type log).rd Reg.SRV_PTP_DENY_FULL = satAdd (s.rd Reg.SRV_PTP_DENY_FULL) 1 := by
  refine ⟨SameSig.denied type log ((SameSig.refl s n f).bump _) (State.bump_rd_ne _ _ (by decide)) rfl, ?_⟩
  rw [State.grantDeny_rd _ n f type log (serviceReg_ne_dropLink n (by decide)) (by decide),
    State.bump_rd_ne _ _ (by decide), State.bump_rd_same]

end

/-! ### A cancellation -/

section
variable {s : State} {n : Nat} {f : Frame} {type : Nat}

/-- The grant that a client cancels: its entry, where it holds one. -/
theorem State.grantCancel_eq : s.grantCancel n f type = match (s.grantOf n f.src).filter (fun i => ((s.grantLatest i).get type).isSome) with
    | some i => ((s.bump Reg.SRV_PTP_CANCEL).grantWrite i ((s.grantLatest i).put type none) (s.grant i).place).sigReply n f (ackTlv type)
    | none => s.sigReply n f (ackTlv type) := by
  unfold State.grantCancel
  cases own : s.grantOf n f.src with
  | none => rfl
  | some i =>
    by_cases held : ((s.grantLatest i).get type).isSome = true
    · simp only [Option.filter, held, if_true]
    · simp only [Option.filter, held]
      rfl

/-- R245: a cancellation is acknowledged; where it ends a grant, it is counted and written to the entry. -/
theorem State.grantCancel_spec (t : State) (ht : t = s.grantCancel n f type) :
    Answered n f (ackTlv type) s t ∧ t.ptp.grants = s.ptp.grants ∧
      match (s.grantOf n f.src).filter (fun i => ((s.grantLatest i).get type).isSome) with
      | some i => t.rd Reg.SRV_PTP_CANCEL = satAdd (s.rd Reg.SRV_PTP_CANCEL) 1 ∧ t.ptp.grantPend = s.ptp.grantPend ++
          [⟨i, s.cclkAfter 8, (s.grantLatest i).put type none, (s.grant i).place⟩]
      | none => t.ptp.grantPend = s.ptp.grantPend := by
  subst ht
  rw [State.grantCancel_eq]
  cases (s.grantOf n f.src).filter (fun i => ((s.grantLatest i).get type).isSome) with
  | none => exact ⟨State.sigReply_answered .., State.sigReply_grants .., State.sigReply_grantPend ..⟩
  | some i =>
    refine ⟨SameSig.answered (((SameSig.refl s n f).bump _).grantWrite ..), State.sigReply_grants .., ?_, State.sigReply_grantPend ..⟩
    exact (State.sigReply_rd _ n f _ (serviceReg_ne_dropLink n (by decide))).trans (State.bump_rd_same ..)

end

end Sys2Proof.Machine
end

section
/-!
PROOFS. The commands of the unicast negotiation, and the statement on them (R225, R243–R245, R258).
-/

namespace Sys2Proof.Machine

section
variable (s : State)

theorem State.signalling_does (n : Nat) (f : Frame) (t : State) (ht : t = s.signalling n f) :
    if s.taskStopped 1 = true then t = s
    else match s.sigTlvs n f.payload with
    | .error a => t = s.bump a
    | .ok tlvs => t = tlvs.foldl (State.sigTlv n f) s := by
  subst ht
  unfold State.signalling
  by_cases stopped : s.taskStopped 1 = true
  · exact ite_intro_pos stopped (if_pos stopped)
  · refine ite_intro_neg stopped ?_
    rw [if_neg stopped]
    cases s.sigTlvs n f.payload <;> rfl

/-- R245: the oldest written change of an entry takes effect. -/
theorem grantEffect_does : Does .grantEffect s fun t => match s.ptp.grantPend with
    | [] => t = s
    | p :: r => t.time.now = max s.time.now p.due ∧ t.ptp.grantPend = r ∧ (t.grant p.idx).cur = p.new ∧
      (t.grant p.idx).past.head? = some (t.nowSt, (s.grant p.idx).cur) ∧ (t.grant p.idx).place = p.place ∧
      ∀ j, j ≠ p.idx → t.grant j = s.grant j := by
  change ∃ t, execGrantEffect s = .next t ∧ _
  unfold execGrantEffect
  cases pend : s.ptp.grantPend with
  | nil => exact ⟨s, rfl, rfl⟩
  | cons p r =>
    have same (j : Nat) : ({ s.advTo p.due with ptp := { (s.advTo p.due).ptp with grantPend := r } } : State).grant j = s.grant j :=
      State.grant_advTo ..
    refine ⟨_, rfl, State.advTo_now .., rfl, congrArg GrantEntry.cur (State.grant_updGrant_same ..), ?_,
      congrArg GrantEntry.place (State.grant_updGrant_same ..), fun j other => (State.grant_updGrant_ne _ _ other).trans (same j)⟩
    rw [State.grant_updGrant_same, same]
    rfl

/-- R245: a grant ends. -/
theorem grantExpire_does (i : Fin 65536) (type : Fin 16) :
    Does (.grantExpire i type) s fun t => match (s.grant i.val).cur.get type.val with
    | none => t = s
    | some g => t.time = (s.advDt (secUnit * g.exp)).time ∧
      (t.grant i.val).cur = (s.grant i.val).cur.put type.val none ∧
      (t.grant i.val).past.head? = some (stSec * g.exp, (s.grant i.val).cur) ∧
      ∀ j, j ≠ i.val → t.grant j = s.grant j := by
  change ∃ t, execGrantExpire i type s = .next t ∧ _
  unfold execGrantExpire
  cases (s.grant i.val).cur.get type.val with
  | none => exact ⟨s, rfl, rfl⟩
  | some g =>
    refine ⟨_, rfl, rfl, ?_, ?_, fun j other => (State.grant_updGrant_ne _ _ other).trans (State.grant_advDt ..)⟩
    all_goals rw [State.grant_updGrant_same, State.grant_advDt]; rfl

end

/-- Settles O33: a request by whether it is admitted, by the entry and the place of its client and by the phase; a cancellation by
the grant that it names; the table of grants changes at the edge of a written change and where a grant ends. -/
theorem grants : Obligations.Grants := by
  refine ⟨?_, ?_, ?_, ?_, ?_, ?_, ?_⟩
  · rintro n f s c (rfl | rfl)
    · exact ⟨_, rfl, s.signalling_does n.val f _ rfl⟩
    · exact ⟨_, rfl, s.signalling_does n.val f _ rfl⟩
  · rintro s n f v type log t old place denied - six rfl rfl held slot rfl denial
    rw [State.sigTlv_request s n f six] at denial ⊢
    by_cases refused : s.ptpState n ≠ 1 ∨ s.logOk (byteAt v 0 / 16) (Machine.signed 8 (byteAt v 1)) = false
    · refine ite_intro_pos refused (denial.mpr ?_)
      rw [State.grantRequest_refused refused]
      exact State.grantDeny_denied
    · refine ite_intro_neg refused ?_
      cases place with
      | none =>
        rw [State.grantRequest_full refused slot.symm] at denial ⊢
        obtain ⟨denied, full⟩ := State.grantFull_denied
        exact ⟨denial.mpr denied, full⟩
      | some x =>
        obtain ⟨i, w⟩ := x
        rw [State.grantRequest_placed refused slot.symm] at denial ⊢
        have held : old = s.grantHeld n f := held
        dsimp only
        rw [held, ← State.grantPhase_eq]
        cases phase : s.grantPhase n (s.grantHeld n f) i (byteAt v 0 / 16) (Machine.signed 8 (byteAt v 1)) with
        | none => exact denial.mpr (State.grantPlaced_denied phase)
        | some p => exact State.grantPlaced_granted phase (grantable_of_logOk (by simpa using fun x => refused (.inr x)))
  · rintro s n f v _ - two rfl
    exact State.grantCancel_spec _ (s.sigTlv_cancel n f two)
  · exact fun s n f k v request cancel => s.sigTlv_other n f request cancel
  · exact grantEffect_does
  · exact fun i type s => grantExpire_does s i type
  · exact fun s => ⟨_, rfl, rfl⟩

end Sys2Proof.Machine
end

section
/-!
PROOFS. The key slots: their commands, their wipe and their times (R286–R289).
-/

namespace Sys2Proof.Machine

/-! ### The wipe of a slot -/

section
variable (s : State) (i : Nat)

theorem State.slotSet_pke (k : KeySlot) : (s.slotSet i k).pke = (s.updKslot i fun _ => k).pke := by
  unfold State.slotSet
  dsimp only
  split
  · rfl
  · exact State.raise_pke ..

theorem State.kslot_slotSet_same (k : KeySlot) : (s.slotSet i k).kslot i = k := by
  unfold State.kslot
  rw [s.slotSet_pke i k]
  exact s.kslot_updKslot_same i _

theorem State.kslot_slotSet_ne {n : Nat} (k : KeySlot) (ne : n ≠ i) : (s.slotSet i k).kslot n = s.kslot n := by
  unfold State.kslot
  rw [s.slotSet_pke i k]
  exact s.kslot_updKslot_ne _ ne

/-- R288: the change of a slot's state is told with EV201. -/
theorem State.slotSet_evSet {k : KeySlot} (changes : (s.kslot i).state ≠ k.state) : (s.slotSet i k).evSet 201 = true := by
  unfold State.slotSet
  dsimp only
  rw [if_neg changes]
  exact State.raise_evSet _ _ (by decide)

theorem State.ntsForget_pke : (s.ntsForget i).pke = s.pke := by
  unfold State.ntsForget
  dsimp only
  split
  · rfl
  · rfl

theorem State.kslot_ntsForget (n : Nat) : (s.ntsForget i).kslot n = s.kslot n := by
  unfold State.kslot
  rw [s.ntsForget_pke]

/-- R290: two roles have different slots of the ring. -/
theorem State.ringSlot_ne {a b : Nat} (ha : a < 4) (hb : b < 4) (ne : a ≠ b) : s.ringSlot a ≠ s.ringSlot b := by
  unfold State.ringSlot
  omega

/-- R286: the role of a wiped slot loses its key. -/
theorem State.ntsForget_roles : (s.ringSlot 0 = i → (s.ntsForget i).srv.nts.cur = none) ∧
    (s.ringSlot 1 = i → (s.ntsForget i).srv.nts.prev1 = none) ∧
    (s.ringSlot 2 = i → (s.ntsForget i).srv.nts.prev2 = none) ∧
    (s.ringSlot 3 = i → (s.ntsForget i).srv.nts.next = none) := by
  have apart (a b : Nat) (ha : a < 4 := by decide) (hb : b < 4 := by decide) (ne : a ≠ b := by decide) :=
    s.ringSlot_ne ha hb ne
  refine ⟨?_, ?_, ?_, ?_⟩
  · rintro rfl
    cases key : s.srv.nts.cur with
    | none => simp [State.ntsForget, key, apart 1 0, apart 2 0, apart 3 0]
    | some k => simp [State.ntsForget, key]
  · rintro rfl
    cases key : s.srv.nts.prev1 with
    | none => simp [State.ntsForget, key, apart 0 1, apart 2 1, apart 3 1]
    | some k => simp [State.ntsForget, key, apart 0 1]
  · rintro rfl
    cases key : s.srv.nts.prev2 with
    | none => simp [State.ntsForget, key, apart 0 2, apart 1 2, apart 3 2]
    | some k => simp [State.ntsForget, key, apart 0 2, apart 1 2]
  · rintro rfl
    cases key : s.srv.nts.next with
    | none => simp [State.ntsForget, key, apart 0 3, apart 1 3, apart 2 3]
    | some k => simp [State.ntsForget, key, apart 0 3, apart 1 3, apart 2 3]

/-- R286: a slot outside the ring has no role. -/
theorem State.ntsForget_outside (outside : ∀ n, n < 4 → s.ringSlot n ≠ i) : s.ntsForget i = s := by
  simp [State.ntsForget, outside 0, outside 1, outside 2, outside 3]

theorem State.slotWipe_spec (t : State) (ht : t = s.slotWipe i) : t.kslot i = {} ∧ (∀ k, k ≠ i → t.kslot k = s.kslot k) ∧
    t.pke = { s.pke with slots := t.pke.slots } ∧ ((s.kslot i).state ≠ .empty → t.evSet 201 = true) ∧
    (s.ringSlot 0 = i → t.srv.nts.cur = none) ∧ (s.ringSlot 1 = i → t.srv.nts.prev1 = none) ∧
    (s.ringSlot 2 = i → t.srv.nts.prev2 = none) ∧ (s.ringSlot 3 = i → t.srv.nts.next = none) ∧
    ((∀ n, n < 4 → s.ringSlot n ≠ i) → t.srv = s.srv) := by
  subst ht
  unfold State.slotWipe
  obtain ⟨srv, -, -⟩ := (s.ntsForget i).slotSet_parts i {}
  obtain ⟨cur, prev1, prev2, next⟩ := s.ntsForget_roles i
  rw [srv]
  refine ⟨(s.ntsForget i).kslot_slotSet_same i {}, fun k ne => ?_, ?_, fun filled => ?_, cur, prev1, prev2, next, fun outside => ?_⟩
  · rw [(s.ntsForget i).kslot_slotSet_ne i {} ne, s.kslot_ntsForget]
  · rw [State.slotSet_pke, ← s.ntsForget_pke i]
    rfl
  · rw [← s.kslot_ntsForget i] at filled
    exact (s.ntsForget i).slotSet_evSet i filled
  · rw [s.ntsForget_outside i outside]

end

/-! ### The commands and the times of a slot -/

theorem keySlotReadPub_does (m : Master) (s : State) (k : KeySlot) (hk : k = s.kslot (s.slotIdx m)) :
    Does (.keySlotReadPub m) s fun t =>
     t = { s with pke := { s.pke with
       pubWin := if k.type ≠ 0 ∧ k.usage.testBit 2 = true ∧ k.pub ≠ [] then wordsOf k.pub else []
       pubValid := decide (k.type ≠ 0 ∧ k.usage.testBit 2 = true ∧ k.pub ≠ [])
       refused := decide ¬(k.type ≠ 0 ∧ k.usage.testBit 2 = true ∧ k.pub ≠ []) } } := by
  subst hk
  change ∃ t, execKeySlotReadPub m s = .next t ∧ _
  unfold execKeySlotReadPub
  dsimp only
  generalize s.kslot (s.slotIdx m) = k
  have exports : (decide (k.type ≠ 0) && k.usage.testBit 2 && !k.pub.isEmpty) = true ↔
      k.type ≠ 0 ∧ k.usage.testBit 2 = true ∧ k.pub ≠ [] := by simp [and_assoc]
  by_cases x : k.type ≠ 0 ∧ k.usage.testBit 2 = true ∧ k.pub ≠ []
  · rw [if_pos (exports.mpr x), if_pos x, decide_eq_true x, decide_eq_false (not_not.mpr x)]
    exact ⟨_, rfl, rfl⟩
  · rw [if_neg (fun y => x (exports.mp y)), if_neg x, decide_eq_false x, decide_eq_true x]
    exact ⟨_, rfl, rfl⟩

theorem keySlotDelete_does (m : Master) (s : State) : Does (.keySlotDelete m) s fun t =>
    if m.secure = true then t = ({ s with pke := { s.pke with refused := false } } : State).slotWipe (s.slotIdx m)
    else t.pke = { s.pke with refused := true } ∧ t.evSet 193 = true ∧ t.srv = s.srv := by
  change ∃ t, execKeySlotDelete m s = .next t ∧ _
  unfold execKeySlotDelete
  split
  · exact ⟨_, rfl, rfl⟩
  · exact ⟨_, rfl, State.raise_pke .., State.raise_evSet _ _ (by decide), State.raise_srv ..⟩

theorem keySlotExpire_does (i : Fin 256) (s : State) : Does (.keySlotExpire i) s fun t =>
    if (s.kslot i.val).type = 0 ∨ (s.kslot i.val).naf = 0 ∨ s.coreFailed 4 = true then t = s
    else t = ((s.advDt (secUnit * (s.kslot i.val).naf)).slotWipe i.val).raise 202 ∧ t.evSet 202 = true := by
  change ∃ t, execKeySlotExpire i s = .next t ∧ _
  unfold execKeySlotExpire
  by_cases stays : (s.kslot i.val).type = 0 ∨ (s.kslot i.val).naf = 0 ∨ s.coreFailed 4 = true
  · exact ⟨s, if_pos (by simpa [or_assoc] using stays), ite_intro_pos stays rfl⟩
  · exact ⟨_, if_neg (by simpa [or_assoc] using stays), ite_intro_neg stays ⟨rfl, State.raise_evSet _ _ (by decide)⟩⟩

theorem keySlotNotBefore_does (i : Fin 256) (s : State) : Does (.keySlotNotBefore i) s fun t =>
    if (s.kslot i.val).state = .pending then t.time = (s.advDt (secUnit * (s.kslot i.val).nbf)).time ∧
      t.kslot i.val = { s.kslot i.val with state := .loaded } ∧ t.evSet 201 = true ∧ t.srv = s.srv ∧
      ∀ k, k ≠ i.val → t.kslot k = s.kslot k
    else t = s := by
  change ∃ t, execKeySlotNotBefore i s = .next t ∧ _
  unfold execKeySlotNotBefore
  by_cases pending : (s.kslot i.val).state = .pending
  · refine ⟨_, if_neg (not_not.mpr pending), ite_intro_pos pending ?_⟩
    obtain ⟨srv, time, -⟩ := (s.advDt (secUnit * (s.kslot i.val).nbf)).slotSet_parts i.val { s.kslot i.val with state := .loaded }
    refine ⟨time, State.kslot_slotSet_same .., State.slotSet_evSet _ _ ?_, srv.trans (State.advDt_srv ..), fun k ne => ?_⟩
    · rw [State.kslot_advDt, pending]
      exact nofun
    · rw [State.kslot_slotSet_ne _ _ _ ne, State.kslot_advDt]
  · exact ⟨s, if_pos pending, ite_intro_neg pending rfl⟩

/-- Settles O37: each command by its branches; the wipe of a slot by the role of the ring that names it, which no other role shares. -/
theorem keySlots : Obligations.KeySlots :=
  ⟨fun _ _ => ⟨_, rfl, rfl⟩, fun m s k hk => keySlotReadPub_does m s k hk, fun s i t ht => s.slotWipe_spec i t ht, keySlotDelete_does,
    keySlotExpire_does, keySlotNotBefore_does⟩

end Sys2Proof.Machine
end

section
/-!
PROOFS. Work on one public-key engine: what it leaves of the other engines, the key store and the outputs of jobs, and what a
completed job, a record and a fault make of the engine (R262, R274, R282, R510).
-/

namespace Sys2Proof.Machine

/-! ### Work on one engine -/

/-- `t` is `s` after work on engine `i`: the other engines, the time and the configuration stay, of the registers it writes those
of `P` and event status, and it loses no event. -/
structure EngStep (i : Nat) (P : Nat → Prop) (s t : State) : Prop where
  others : ∀ k, k ≠ i → t.eng k = s.eng k
  regs : RegWork P s t
  time : t.time = s.time
  active : t.active = s.active

/-- `t` is `s` after work on engine `i` that loads no key slot and sends no output of a job. -/
structure EngOnly (i : Nat) (P : Nat → Prop) (s t : State) : Prop extends EngStep i P s t where
  slots : t.pke.slots = s.pke.slots
  outputs : ∀ k a b, Out.pkeOut k a b ∈ t.outbox ↔ Out.pkeOut k a b ∈ s.outbox

/-- The registers of engine `i` hold no event status. -/
theorem evKey_engine {i : Nat} (hi : i < 8) {d : Nat} (hd : d < 0x10000) : evKey (0x1100000 + d + 0x10000 * i) = false :=
  EngReg.evKey ⟨by omega, by omega⟩

section
variable {i : Nat} {P : Nat → Prop} {s t u : State}

theorem EngStep.trans (h : EngStep i P s t) (k : EngStep i P t u) : EngStep i P s u :=
  ⟨fun n ne => (k.others n ne).trans (h.others n ne), h.regs.trans k.regs, k.time.trans h.time, k.active.trans h.active⟩

theorem EngOnly.refl (s : State) : EngOnly i P s s := ⟨⟨fun _ _ => rfl, .refl s, rfl, rfl⟩, rfl, fun _ _ _ => .rfl⟩

theorem EngOnly.trans (h : EngOnly i P s t) (k : EngOnly i P t u) : EngOnly i P s u :=
  ⟨h.toEngStep.trans k.toEngStep, k.slots.trans h.slots, fun n a b => (k.outputs n a b).trans (h.outputs n a b)⟩

theorem EngOnly.ite {c : Prop} [Decidable c] (h : EngOnly i P s t) (k : EngOnly i P s u) : EngOnly i P s (if c then t else u) := by
  split <;> assumption

theorem EngOnly.foldl {α : Type} {f : State → α → State} (step : ∀ t a, EngOnly i P t (f t a)) (l : List α) (s : State) :
    EngOnly i P s (l.foldl f s) := by
  induction l generalizing s with
  | nil => exact .refl s
  | cons a l ih => exact (step s a).trans (ih _)

/-- Raises of events send MSI-X messages alone. -/
theorem EvOnly.outputs (e : EvOnly t u) (k a : Nat) (b : List Byte) : Out.pkeOut k a b ∈ u.outbox ↔ Out.pkeOut k a b ∈ t.outbox := by
  obtain ⟨l, out, messages⟩ := e.out
  rw [out, List.mem_append, or_iff_right]
  intro sent
  obtain ⟨_, _, _, _, message⟩ := messages _ sent
  cases message

theorem EngOnly.events (h : EngOnly i P s t) (e : EvOnly t u) : EngOnly i P s u := by
  have pke : u.pke = t.pke := by rw [e.same]
  exact h.trans ⟨⟨fun n _ => by unfold State.eng; rw [pke], ⟨fun a _ ev => e.regs a ev, fun x _ => e.sets x⟩, by rw [e.same],
    by rw [e.same]⟩, by rw [pke], e.outputs⟩

theorem EngOnly.raise (h : EngOnly i P s t) {e : Nat} (he : e < 256) : EngOnly i P s (t.raise e) :=
  h.events (State.raise_evOnly t e he)

theorem EngOnly.updEng (h : EngOnly i P s t) (f : Engine → Engine) : EngOnly i P s (t.updEng i f) :=
  h.trans ⟨⟨fun _ ne => State.eng_updEng_ne t f ne, .of_live rfl, rfl, rfl⟩, rfl, fun _ _ _ => .rfl⟩

theorem EngOnly.wr (h : EngOnly i P s t) {a : Nat} (m : P a) (ev : evKey a = false) (v : Word) : EngOnly i P s (t.wr a v) :=
  h.trans ⟨⟨fun _ _ => rfl, .wr (.refl t) v m ev, rfl, rfl⟩, rfl, fun _ _ _ => .rfl⟩

theorem EngOnly.pkeBusy (h : EngOnly i P s t) (hi : i < 8) (m : P (Reg.PKE_BUSY i)) (n : Nat) : EngOnly i P s (t.pkeBusy i n) :=
  (h.updEng _).wr m (evKey_engine hi (d := 0x68) (by decide)) _

theorem EngOnly.cplPush (h : EngOnly i P s t) (c : Nat) (x : Cpl) : EngOnly i P s (t.cplPush i c x) := by
  unfold State.cplPush
  dsimp only
  refine .ite (.ite ((h.updEng _).raise (by decide)) (h.updEng _)) ?_
  exact ((h.updEng _).events (State.coreMark_evOnly _ c (by decide))).raise (by decide)

theorem EngOnly.jobDone (h : EngOnly i P s t) (hi : i < 8) (m : P (Reg.PKE_JOBS i)) (j : PkeJob) (st : Nat) :
    EngOnly i P s (t.jobDone i j st) := by
  have counted : EngOnly i P s (((t.updEng i fun e => { e with status := st, lastOwner := j.owner }).bump (Reg.PKE_JOBS i)).flow 0x20) :=
    ((h.updEng _).wr m (evKey_engine hi (d := 0x50) (by decide)) _).events (State.flow_evOnly ..)
  unfold State.jobDone
  dsimp only
  split
  · exact counted.cplPush ..
  · exact counted

theorem EngOnly.pkeOffline (h : EngOnly i P s t) (hi : i < 8) (m : P (Reg.PKE_JOBS i)) : EngOnly i P s (t.pkeOffline i) := by
  unfold State.pkeOffline
  dsimp only
  refine .ite h (.trans ?_ (.foldl (fun u j => (EngOnly.refl u).jobDone hi m j 7) _ _))
  exact (h.updEng _).raise (by decide)

theorem EngOnly.pkeRetire (h : EngOnly i P s t) (hi : i < 8) (m : P (Reg.PKE_JOBS i)) (n : P Reg.FLT_RETIRED_PKE) :
    EngOnly i P s (t.pkeRetire i) := by
  unfold State.pkeRetire
  dsimp only
  refine .ite h (.events (.raise (.wr ((h.updEng _).pkeOffline hi m) n (by decide) _) (by decide)) (State.alarmSync_evOnly _))

end

/-! ### The record of a job -/

/-- R282: engine `e` with a record for core `c`, in the core's queue, or held where the queue is full. -/
def Engine.recorded (e : Engine) (c : Nat) (x : Cpl) : Engine :=
  if 8 ≤ (tget (fun _ => []) e.cpl c).length then { e with held := e.held ++ [(c, x)] }
  else { e with cpl := tupd (fun _ => []) e.cpl c (· ++ [x]) }

/-- R282, R295: engine `e` after the completion of job `j` with a status. -/
def Engine.completed (e : Engine) (j : PkeJob) (st : Nat) : Engine :=
  match j.by_ with
  | .core c => ({ e with status := st, lastOwner := j.owner } : Engine).recorded c ⟨j.tag, j.owner, st⟩
  | .srv => { e with status := st, lastOwner := j.owner }

section
variable (e : Engine) (c : Nat) (x : Cpl) (j : PkeJob) (st : Nat)

theorem Engine.recorded_shape : e.recorded c x = { e with cpl := (e.recorded c x).cpl, held := (e.recorded c x).held } := by
  unfold Engine.recorded
  split
  · rfl
  · rfl

theorem Engine.recorded_room (room : (tget (fun _ => []) e.cpl c).length < 8) : (e.recorded c x).held = e.held ∧
    tget (fun _ => []) (e.recorded c x).cpl c = tget (fun _ => []) e.cpl c ++ [x] := by
  unfold Engine.recorded
  rw [if_neg (Nat.not_le.mpr room)]
  exact ⟨rfl, tget_tupd_same (fun _ => []) e.cpl c (· ++ [x])⟩

theorem Engine.recorded_full (full : ¬ (tget (fun _ => []) e.cpl c).length < 8) : (e.recorded c x).cpl = e.cpl ∧
    (e.recorded c x).held = e.held ++ [(c, x)] := by
  unfold Engine.recorded
  rw [if_pos (Nat.not_lt.mp full)]
  exact ⟨rfl, rfl⟩

/-- R282: the queues of the other cores stay. -/
theorem Engine.recorded_others {d : Nat} (ne : d ≠ c) :
    tget (fun _ => []) (e.recorded c x).cpl d = tget (fun _ => []) e.cpl d := by
  unfold Engine.recorded
  split
  · rfl
  · exact tget_tupd_ne (fun _ => []) e.cpl (· ++ [x]) ne

theorem Engine.completed_shape : e.completed j st = { e with
    status := st, lastOwner := j.owner, cpl := (e.completed j st).cpl, held := (e.completed j st).held } := by
  unfold Engine.completed
  split
  · exact Engine.recorded_shape ..
  · rfl

end

section
variable (s : State) (i c : Nat) (x : Cpl) (j : PkeJob) (st : Nat)

theorem State.eng_cplPush : (s.cplPush i c x).eng i = (s.eng i).recorded c x := by
  unfold State.cplPush Engine.recorded
  dsimp only
  by_cases full : 8 ≤ (tget (fun _ => []) (s.eng i).cpl c).length
  · rw [if_pos full, if_pos full]
    split
    · exact (State.eng_raise ..).trans (State.eng_updEng_same ..)
    · exact State.eng_updEng_same ..
  · rw [if_neg full, if_neg full]
    exact (State.eng_raise ..).trans (State.eng_updEng_same ..)

/-- R282: EV194 tells of a record in a queue, EV198 of the first that is held. -/
theorem State.cplPush_told : if (tget (fun _ => []) (s.eng i).cpl c).length < 8 then (s.cplPush i c x).evSet 194 = true
    else (s.eng i).held = [] → (s.cplPush i c x).evSet 198 = true := by
  unfold State.cplPush
  dsimp only
  by_cases room : (tget (fun _ => []) (s.eng i).cpl c).length < 8
  · rw [if_pos room, if_neg (Nat.not_le.mpr room)]
    exact State.raise_evSet _ _ (by decide)
  · rw [if_neg room, if_pos (Nat.not_lt.mp room)]
    intro first
    rw [if_pos (by rw [first]; rfl)]
    exact State.raise_evSet _ _ (by decide)

/-- R282, R295: the job is shown and counted. -/
def State.jobCounted : State :=
  ((s.updEng i fun e => { e with status := st, lastOwner := j.owner }).bump (Reg.PKE_JOBS i)).flow 0x20

theorem State.jobDone_eq : s.jobDone i j st = match j.by_ with
    | .core c => (s.jobCounted i j st).cplPush i c ⟨j.tag, j.owner, st⟩
    | .srv => s.jobCounted i j st := rfl

theorem State.eng_jobCounted : (s.jobCounted i j st).eng i = { s.eng i with status := st, lastOwner := j.owner } :=
  (State.eng_flow ..).trans (State.eng_updEng_same ..)

theorem State.eng_jobDone : (s.jobDone i j st).eng i = (s.eng i).completed j st := by
  rw [State.jobDone_eq]
  unfold Engine.completed
  split
  · rw [State.eng_cplPush, State.eng_jobCounted]
  · exact s.eng_jobCounted i j st

/-- R282: the record of a job goes to the core that submitted it; a carafe's job leaves none. -/
theorem State.jobDone_record : match j.by_ with
    | .srv => ((s.jobDone i j st).eng i).cpl = (s.eng i).cpl ∧ ((s.jobDone i j st).eng i).held = (s.eng i).held
    | .core c => (∀ d, d ≠ c → tget (fun _ => []) ((s.jobDone i j st).eng i).cpl d = tget (fun _ => []) (s.eng i).cpl d) ∧
      if (tget (fun _ => []) (s.eng i).cpl c).length < 8 then
        (s.jobDone i j st).evSet 194 = true ∧ ((s.jobDone i j st).eng i).held = (s.eng i).held ∧
        tget (fun _ => []) ((s.jobDone i j st).eng i).cpl c = tget (fun _ => []) (s.eng i).cpl c ++ [⟨j.tag, j.owner, st⟩]
      else ((s.jobDone i j st).eng i).cpl = (s.eng i).cpl ∧
        ((s.jobDone i j st).eng i).held = (s.eng i).held ++ [(c, ⟨j.tag, j.owner, st⟩)] ∧
        ((s.eng i).held = [] → (s.jobDone i j st).evSet 198 = true) := by
  rw [State.jobDone_eq]
  cases j.by_ with
  | srv =>
    dsimp only
    rw [State.eng_jobCounted]
    exact ⟨rfl, rfl⟩
  | core c =>
    have told := (s.jobCounted i j st).cplPush_told i c ⟨j.tag, j.owner, st⟩
    dsimp only
    rw [State.eng_cplPush]
    rw [State.eng_jobCounted] at told ⊢
    refine ⟨fun d ne => Engine.recorded_others _ _ _ ne, ?_⟩
    by_cases room : (tget (fun _ => []) (s.eng i).cpl c).length < 8
    · rw [if_pos room] at told ⊢
      exact ⟨told, Engine.recorded_room _ _ _ room⟩
    · rw [if_neg room] at told ⊢
      obtain ⟨cpl, held⟩ := Engine.recorded_full { s.eng i with status := st, lastOwner := j.owner } c ⟨j.tag, j.owner, st⟩ room
      exact ⟨cpl, held, told⟩

theorem State.jobDone_jobs (hi : i < 8) : (s.jobDone i j st).rd (Reg.PKE_JOBS i) = satAdd (s.rd (Reg.PKE_JOBS i)) 1 := by
  have ev : evKey (Reg.PKE_JOBS i) = false := evKey_engine hi (d := 0x50) (by decide)
  have counted : (s.jobCounted i j st).rd (Reg.PKE_JOBS i) = satAdd (s.rd (Reg.PKE_JOBS i)) 1 :=
    ((State.flow_evOnly ..).regs _ ev).trans (State.bump_rd_same ..)
  rw [State.jobDone_eq]
  split
  · exact (State.cplPush_rd _ ev ..).trans counted
  · exact counted

end

/-! ### A fault -/

/-- R510: the faults of an engine that still count, within a span before an instant. -/
def Engine.faultsRecent (e : Engine) (now span : Nat) : List Nat := e.faults.filter (fun t => decide (now < t + span))

section
variable (s : State) (i : Nat)

/-- R510: an E_FAULT completion of engine `i`, counted and remembered. -/
def State.faulted : State :=
  ((s.bump (Reg.PKE_FAULTS i)).raise 195).updEng i fun e => { e with
    faults := s.time.now :: e.faultsRecent s.time.now (sTicks * fld (s.ac Reg.FLT_POLICY) 12 8) }

theorem State.eng_faulted : (s.faulted i).eng i = { s.eng i with
    faults := s.time.now :: (s.eng i).faultsRecent s.time.now (sTicks * fld (s.ac Reg.FLT_POLICY) 12 8) } := by
  unfold State.faulted
  rw [State.eng_updEng_same, State.eng_raise, State.eng_bump]

/-- R510: with this fault engine `i` has as many as retire it. -/
def State.faultsMany : Prop := fld (s.ac Reg.FLT_POLICY) 8 4 ≤
  ((s.eng i).faultsRecent s.time.now (sTicks * fld (s.ac Reg.FLT_POLICY) 12 8)).length + 1

theorem State.pkeFault_many (many : s.faultsMany i) : s.pkeFault i = (s.faulted i).pkeRetire i := by
  unfold State.pkeFault
  simp only [State.raise_time, State.bump_time]
  refine if_pos (c := fld (s.ac Reg.FLT_POLICY) 8 4 ≤ ((s.faulted i).eng i).faults.length) ?_
  rwa [State.eng_faulted]

theorem State.pkeFault_few (few : ¬ s.faultsMany i) : s.pkeFault i = s.faulted i := by
  unfold State.pkeFault
  simp only [State.raise_time, State.bump_time]
  refine if_neg (c := fld (s.ac Reg.FLT_POLICY) 8 4 ≤ ((s.faulted i).eng i).faults.length) ?_
  rwa [State.eng_faulted]

/-- A completion leaves the engine running what it runs, online or retired as it is. -/
theorem State.jobDone_flags (j : PkeJob) (st : Nat) : ((s.jobDone i j st).eng i).run = (s.eng i).run ∧
    ((s.jobDone i j st).eng i).online = (s.eng i).online ∧ ((s.jobDone i j st).eng i).retired = (s.eng i).retired := by
  rw [State.eng_jobDone, Engine.completed_shape]
  exact ⟨rfl, rfl, rfl⟩

theorem State.jobsDone_flags (l : List PkeJob) : ((l.foldl (fun s j => s.jobDone i j 7) s).eng i).run = (s.eng i).run ∧
    ((l.foldl (fun s j => s.jobDone i j 7) s).eng i).online = (s.eng i).online ∧
    ((l.foldl (fun s j => s.jobDone i j 7) s).eng i).retired = (s.eng i).retired := by
  induction l generalizing s with
  | nil => exact ⟨rfl, rfl, rfl⟩
  | cons j l ih =>
    obtain ⟨run, online, retired⟩ := s.jobDone_flags i j 7
    rw [← run, ← online, ← retired]
    exact ih (s.jobDone i j 7)

/-- R262: an engine that has gone offline. -/
theorem State.pkeOffline_flags : ((s.pkeOffline i).eng i).online = false ∧
    ((s.pkeOffline i).eng i).retired = (s.eng i).retired ∧ ((s.eng i).run = none → ((s.pkeOffline i).eng i).run = none) := by
  unfold State.pkeOffline
  dsimp only
  by_cases online : (s.eng i).online = true
  · rw [if_neg (by simp [online])]
    obtain ⟨run, offline, retired⟩ := State.jobsDone_flags
      ((s.updEng i fun e => { e with online := false, pend := [], run := none }).raise 199) i
      (((s.eng i).run.map (·.job)).toList ++ (s.eng i).pend)
    rw [run, offline, retired, State.eng_raise, State.eng_updEng_same]
    exact ⟨rfl, rfl, fun _ => rfl⟩
  · rw [if_pos (by simp [online])]
    exact ⟨by simpa using online, rfl, id⟩

/-- R510: an engine that is retired, now or before. -/
theorem State.pkeRetire_flags : ((s.pkeRetire i).eng i).retired = true ∧
    ((s.eng i).retired = false → ((s.pkeRetire i).eng i).online = false) ∧
    ((s.eng i).run = none → ((s.pkeRetire i).eng i).run = none) := by
  unfold State.pkeRetire
  dsimp only
  by_cases before : (s.eng i).retired = true
  · rw [if_pos before]
    exact ⟨before, fun now => absurd (before.symm.trans now) nofun, id⟩
  · rw [if_neg before, State.eng_alarmSync, State.eng_raise, State.eng_orBits]
    obtain ⟨offline, retired, run⟩ := (s.updEng i fun e => { e with retired := true }).pkeOffline_flags i
    rw [State.eng_updEng_same] at retired run
    exact ⟨retired, fun _ => offline, run⟩

theorem EngOnly.faulted {P : Nat → Prop} {s t : State} {i : Nat} (h : EngOnly i P s t) (hi : i < 8) (m : P (Reg.PKE_FAULTS i)) :
    EngOnly i P s (t.faulted i) :=
  ((h.wr m (evKey_engine hi (d := 0x54) (by decide)) _).raise (by decide)).updEng _

theorem EngOnly.pkeFault {P : Nat → Prop} {s t : State} {i : Nat} (h : EngOnly i P s t) (hi : i < 8) (m : P (Reg.PKE_FAULTS i))
    (jobs : P (Reg.PKE_JOBS i)) (retired : P Reg.FLT_RETIRED_PKE) : EngOnly i P s (t.pkeFault i) := by
  by_cases many : t.faultsMany i
  · rw [t.pkeFault_many i many]
    exact (h.faulted hi m).pkeRetire hi jobs retired
  · rw [t.pkeFault_few i many]
    exact h.faulted hi m

/-- R274, R510: a fault is counted and told, and retires an engine with too many. -/
theorem State.pkeFault_spec (hi : i < 8) (idle : (s.eng i).run = none) :
    (s.pkeFault i).rd (Reg.PKE_FAULTS i) = satAdd (s.rd (Reg.PKE_FAULTS i)) 1 ∧ (s.pkeFault i).evSet 195 = true ∧
    ((s.pkeFault i).eng i).run = none ∧
    (s.faultsMany i →
      ((s.pkeFault i).eng i).retired = true ∧ ((s.eng i).retired = false → ((s.pkeFault i).eng i).online = false)) := by
  have ev : evKey (Reg.PKE_FAULTS i) = false := evKey_engine hi (d := 0x54) (by decide)
  have counted : (s.faulted i).rd (Reg.PKE_FAULTS i) = satAdd (s.rd (Reg.PKE_FAULTS i)) 1 :=
    (State.raise_rd _ 195 _ (by decide) ev).trans (State.bump_rd_same ..)
  have told : (s.faulted i).evSet 195 = true := State.raise_evSet (s.bump (Reg.PKE_FAULTS i)) 195 (by decide)
  have retires : EngOnly i (· ≠ Reg.PKE_FAULTS i) (s.faulted i) ((s.faulted i).pkeRetire i) :=
    (EngOnly.refl _).pkeRetire hi (by unfold Reg.PKE_JOBS Reg.PKE_FAULTS; omega) (by unfold Reg.FLT_RETIRED_PKE Reg.PKE_FAULTS; omega)
  obtain ⟨retired, offline, stopped⟩ := (s.faulted i).pkeRetire_flags i
  rw [State.eng_faulted] at offline stopped
  by_cases many : s.faultsMany i
  · rw [s.pkeFault_many i many]
    exact ⟨(retires.regs.regs _ (not_not.mpr rfl) ev).trans counted, retires.regs.events 195 (by decide) told, stopped idle,
      fun _ => ⟨retired, offline⟩⟩
  · rw [s.pkeFault_few i many]
    exact ⟨counted, told, by rw [State.eng_faulted]; exact idle, fun x => absurd x many⟩

end

end Sys2Proof.Machine
end

section
/-!
PROOFS. The end of a job: what its steps make of the engine, of the key store and of the output (R260, R274–R276, R281–R283).
-/

namespace Sys2Proof.Machine

/-! ### The steps of an end -/

/-- R281: the bytes that a job writes: `n` of its output where it ended OK or with a DMA error. -/
def Run.sent (r : Run) (st n : Nat) : List Byte := if decide (st = 0) || st == 11 then r.out.take n else []

/-- R260, R263, R276: engine `e` free of job `r`, which ended with a status, wiped where it bore a secret or failed. -/
def Engine.freed (e : Engine) (r : Run) (st : Nat) (full : Bool) : Engine := { e with
  run := none
  startAt := r.endAt
  clean := full || e.clean
  result := if full then [] else if decide (st = 0) || st == 11 then resultAfter e.result r.out else e.result
  ops := if full then [] else match r.opNew with
    | some (d, v) => if decide (st = 0) then tupd (fun _ => 0) e.ops d (fun o => lowWords (ceilDiv r.job.size 64) o v) else e.ops
    | none => e.ops }

section
variable (s : State) (i : Nat) (r : Run) (st : Nat)

/-- R276: the slot that the job loads. -/
def State.endLoaded : State := match r.slotNew with
  | some (k, ks) => if decide (st = 0) then s.slotSet k ks else s
  | none => s

/-- R271: a refused validation is counted. -/
def State.endCounted : State := if r.refused && st == r.status then s.bump (Reg.PKE_REFUSED i) else s

/-- R281, R457: the output is written, to the staging buffer or to the submitter's memory. -/
def State.endSent (out : List Byte) : State := if out.isEmpty then s else match r.job.buf with
  | some c => s.bufWrite c r.job.outAddr out
  | none => s.emit (.pkeOut i r.job.outAddr out)

/-- R283: an engine in TE5 mode that is not clean is wiped. -/
def State.endWiped : State := if r.te5 && !(s.eng i).clean then
    (s.updEng i (fun e => { e with wipeUntil := some (r.endAt + 2048 * cclkTicks) })).bump (Reg.PKE_WIPES i)
  else s

/-- The end of a job up to the writing of its output. -/
def State.endWritten (n : Nat) : State :=
  (((s.pkeBusy i ((r.endAt - r.start) / cclkTicks)).endLoaded r st).endCounted i r st).endSent i r (r.sent st n)

/-- The end of a job up to its record. -/
def State.endFreed (w : Bool) (n : Nat) : State :=
  ((s.endWritten i r st n).updEng i fun e => e.freed r st (w || r.secretBearing)).endWiped i r

theorem State.pkeEnd_eq (w : Bool) (n : Nat) : s.pkeEnd i r st w n =
    if st = 6 then ((s.endFreed i r st w n).jobDone i r.job st).pkeFault i else (s.endFreed i r st w n).jobDone i r.job st := rfl

/-! ### The engine -/

theorem State.eng_endLoaded (k : Nat) : (s.endLoaded r st).eng k = s.eng k := by
  unfold State.endLoaded
  split
  · split
    · unfold State.eng
      rw [State.slotSet_pke]
      rfl
    · rfl
  · rfl

/-- R457: the output changes the staging buffer, or what has left the package. -/
theorem State.endSent_parts (out : List Byte) : (s.endSent i r out).pke = s.pke ∧ (s.endSent i r out).live = s.live ∧
    (s.endSent i r out).time = s.time ∧ (s.endSent i r out).active = s.active := by
  unfold State.endSent
  split
  · exact ⟨rfl, rfl, rfl, rfl⟩
  · split
    · rename_i c _
      have touch := State.bufWrite_touch (w := 1024) rfl s c r.job.outAddr out (.refl ..)
      exact ⟨touch.same .pke rfl, touch.same .live rfl, touch.same .time rfl, touch.same .active rfl⟩
    · exact ⟨rfl, rfl, rfl, rfl⟩

theorem State.eng_endCounted (k : Nat) : (s.endCounted i r st).eng k = s.eng k := by
  unfold State.endCounted
  split
  · rfl
  · rfl

theorem State.eng_endWritten (n : Nat) : (s.endWritten i r st n).eng i =
    { s.eng i with busyTicks := ((s.eng i).busyTicks + (r.endAt - r.start) / cclkTicks) % 1024 } := by
  unfold State.endWritten
  rw [State.eng, (State.endSent_parts ..).1, ← State.eng, State.eng_endCounted, State.eng_endLoaded]
  exact State.eng_updEng_same ..

theorem State.eng_endWiped : (s.endWiped i r).eng i = { s.eng i with
    wipeUntil := if r.te5 = true ∧ (s.eng i).clean = false then some (r.endAt + 2048 * cclkTicks) else (s.eng i).wipeUntil } := by
  unfold State.endWiped
  by_cases wipes : r.te5 = true ∧ (s.eng i).clean = false
  · rw [if_pos (by simpa using wipes), if_pos wipes, State.eng_bump, State.eng_updEng_same]
  · rw [if_neg (by simpa using wipes), if_neg wipes]

theorem State.eng_endFreed (w : Bool) (n : Nat) : (s.endFreed i r st w n).eng i =
    { ({ s.eng i with
        busyTicks := ((s.eng i).busyTicks + (r.endAt - r.start) / cclkTicks) % 1024 } : Engine).freed r st (w || r.secretBearing) with
      wipeUntil := if r.te5 = true ∧ (w || r.secretBearing || (s.eng i).clean) = false then some (r.endAt + 2048 * cclkTicks)
        else (s.eng i).wipeUntil } := by
  unfold State.endFreed
  rw [State.eng_endWiped, State.eng_updEng_same, State.eng_endWritten]
  rfl

/-! ### What the steps leave -/

variable {P : Nat → Prop}

theorem State.slotSet_step (k : Nat) (ks : KeySlot) : EngStep i P s (s.slotSet k ks) := by
  have touch := State.slotSet_touch (w := 538968577) rfl s k ks (.refl ..)
  refine ⟨fun n _ => ?_, s.slotSet_regWork .., touch.same .time rfl, touch.same .active rfl⟩
  unfold State.eng
  rw [State.slotSet_pke]
  rfl

theorem State.endLoaded_step : EngStep i P s (s.endLoaded r st) := by
  unfold State.endLoaded
  split
  · split
    · exact s.slotSet_step ..
    · exact (EngOnly.refl s).toEngStep
  · exact (EngOnly.refl s).toEngStep

theorem State.endSent_step (out : List Byte) : EngStep i P s (s.endSent i r out) := by
  obtain ⟨pke, live, time, active⟩ := s.endSent_parts i r out
  exact ⟨fun n _ => by unfold State.eng; rw [pke], .of_live live, time, active⟩

theorem State.endLoaded_slots : (∀ k ks, r.slotNew = some (k, ks) → st = 0 →
      (s.endLoaded r st).kslot k = ks ∧ ∀ x, x ≠ k → (s.endLoaded r st).kslot x = s.kslot x) ∧
    (r.slotNew = none ∨ st ≠ 0 → (s.endLoaded r st).pke.slots = s.pke.slots) := by
  constructor
  · rintro k ks new rfl
    simp only [State.endLoaded, new]
    exact ⟨s.kslot_slotSet_same k ks, fun x ne => s.kslot_slotSet_ne k ks ne⟩
  · rintro (new | failed)
    · simp only [State.endLoaded, new]
    · unfold State.endLoaded
      split
      · rw [if_neg (by simpa using failed)]
      · rfl

theorem State.endLoaded_outputs (k a : Nat) (b : List Byte) :
    Out.pkeOut k a b ∈ (s.endLoaded r st).outbox ↔ Out.pkeOut k a b ∈ s.outbox := by
  unfold State.endLoaded State.slotSet
  dsimp only
  split
  · split
    · split
      · rfl
      · exact (State.raise_evOnly _ 201 (by decide)).outputs k a b
    · rfl
  · rfl

/-- R281: without an output nothing leaves the package. -/
theorem State.endSent_nil : s.endSent i r [] = s := rfl

/-- R281: an output for the submitter's memory leaves the package. -/
theorem State.endSent_mem {out : List Byte} (memory : r.job.buf = none) (sends : out ≠ []) :
    .pkeOut i r.job.outAddr out ∈ (s.endSent i r out).outbox := by
  unfold State.endSent
  rw [if_neg (by simpa using sends), memory]
  exact List.mem_cons_self

variable {s r st i} {t : State}

theorem EngOnly.endCounted (h : EngOnly i P s t) (hi : i < 8) (m : P (Reg.PKE_REFUSED i)) : EngOnly i P s (t.endCounted i r st) :=
  .ite (h.wr m (evKey_engine hi (d := 0x60) (by decide)) _) h

theorem EngOnly.endWiped (h : EngOnly i P s t) (hi : i < 8) (m : P (Reg.PKE_WIPES i)) : EngOnly i P s (t.endWiped i r) :=
  .ite ((h.updEng _).wr m (evKey_engine hi (d := 0x5C) (by decide)) _) h

theorem State.endWritten_step (hi : i < 8) (busy : P (Reg.PKE_BUSY i)) (refused : P (Reg.PKE_REFUSED i)) (n : Nat) :
    EngStep i P s (s.endWritten i r st n) :=
  (((EngOnly.refl s).pkeBusy hi busy _).toEngStep.trans (State.endLoaded_step ..)).trans
    (((EngOnly.refl _).endCounted hi refused).toEngStep.trans (State.endSent_step ..))

theorem State.endFreed_after (hi : i < 8) (wipes : P (Reg.PKE_WIPES i)) (w : Bool) (n : Nat) :
    EngOnly i P (s.endWritten i r st n) (s.endFreed i r st w n) :=
  ((EngOnly.refl _).updEng _).endWiped hi wipes

/-- What follows the writing of the output leaves the key store and what has left the package. -/
theorem State.pkeEnd_after (hi : i < 8) (wipes : P (Reg.PKE_WIPES i)) (jobs : P (Reg.PKE_JOBS i)) (faults : P (Reg.PKE_FAULTS i))
    (retired : P Reg.FLT_RETIRED_PKE) (w : Bool) (n : Nat) : EngOnly i P (s.endWritten i r st n) (s.pkeEnd i r st w n) := by
  have done := (State.endFreed_after (r := r) (st := st) (s := s) hi wipes w n).jobDone hi jobs r.job st
  rw [State.pkeEnd_eq]
  exact .ite (done.pkeFault hi faults jobs retired) done

end

/-! ### The end -/

section
variable (s : State) {i : Nat} (hi : i < 8) (r : Run) (st : Nat) (w : Bool) (n : Nat)
include hi

theorem State.pkeEnd_step : EngStep i (fun _ => True) s (s.pkeEnd i r st w n) :=
  (State.endWritten_step hi trivial trivial n).trans (State.pkeEnd_after hi trivial trivial trivial trivial w n).toEngStep

theorem State.pkeEnd_slots : (∀ k ks, r.slotNew = some (k, ks) → st = 0 →
      (s.pkeEnd i r st w n).kslot k = ks ∧ ∀ x, x ≠ k → (s.pkeEnd i r st w n).kslot x = s.kslot x) ∧
    (r.slotNew = none ∨ st ≠ 0 → (s.pkeEnd i r st w n).pke.slots = s.pke.slots) := by
  have after := (State.pkeEnd_after (P := fun _ => True) (s := s) (r := r) (st := st) hi trivial trivial trivial trivial w n).slots
  have written : (s.endWritten i r st n).pke = ((s.pkeBusy i ((r.endAt - r.start) / cclkTicks)).endLoaded r st).pke := by
    unfold State.endWritten State.endCounted
    rw [(State.endSent_parts ..).1]
    split
    · rfl
    · rfl
  have busy : (s.pkeBusy i ((r.endAt - r.start) / cclkTicks)).pke.slots = s.pke.slots := rfl
  obtain ⟨loads, stays⟩ := (s.pkeBusy i ((r.endAt - r.start) / cclkTicks)).endLoaded_slots r st
  rw [written] at after
  unfold State.kslot at loads ⊢
  rw [busy] at loads stays
  rw [after]
  exact ⟨loads, stays⟩

theorem State.pkeEnd_outputs : (r.job.buf = none → r.sent st n ≠ [] →
      .pkeOut i r.job.outAddr (r.sent st n) ∈ (s.pkeEnd i r st w n).outbox) ∧
    (r.sent st n = [] → ∀ a b, .pkeOut i a b ∈ (s.pkeEnd i r st w n).outbox → .pkeOut i a b ∈ s.outbox) := by
  have after := (State.pkeEnd_after (P := fun _ => True) (s := s) (r := r) (st := st) hi trivial trivial trivial trivial w n).outputs
  refine ⟨fun memory sends => (after ..).mpr (State.endSent_mem _ _ _ memory sends), fun without a b sent => ?_⟩
  have written := (after ..).mp sent
  unfold State.endWritten at written
  rw [without, State.endSent_nil] at written
  have counted := ((EngOnly.refl ((s.pkeBusy i ((r.endAt - r.start) / cclkTicks)).endLoaded r st)).endCounted (P := fun _ => True)
    (r := r) (st := st) hi trivial).outputs i a b
  have loaded := (s.pkeBusy i ((r.endAt - r.start) / cclkTicks)).endLoaded_outputs r st i a b
  exact loaded.mp (counted.mp written)

theorem State.pkeEnd_refused : (s.pkeEnd i r st w n).rd (Reg.PKE_REFUSED i) =
    if r.refused = true ∧ st = r.status then satAdd (s.rd (Reg.PKE_REFUSED i)) 1 else s.rd (Reg.PKE_REFUSED i) := by
  have ev : evKey (Reg.PKE_REFUSED i) = false := evKey_engine hi (d := 0x60) (by decide)
  have after : EngOnly i (· ≠ Reg.PKE_REFUSED i) (s.endWritten i r st n) (s.pkeEnd i r st w n) :=
    State.pkeEnd_after hi (by unfold Reg.PKE_WIPES Reg.PKE_REFUSED; omega) (by unfold Reg.PKE_JOBS Reg.PKE_REFUSED; omega)
      (by unfold Reg.PKE_FAULTS Reg.PKE_REFUSED; omega) (by unfold Reg.FLT_RETIRED_PKE Reg.PKE_REFUSED; omega) w n
  have before : EngStep i (· ≠ Reg.PKE_REFUSED i) s ((s.pkeBusy i ((r.endAt - r.start) / cclkTicks)).endLoaded r st) :=
    ((EngOnly.refl s).pkeBusy hi (by unfold Reg.PKE_BUSY Reg.PKE_REFUSED; omega) _).toEngStep.trans (State.endLoaded_step ..)
  rw [after.regs.regs _ (not_not.mpr rfl) ev, ← before.regs.regs _ (not_not.mpr rfl) ev]
  unfold State.endWritten
  rw [State.rd_congr (State.endSent_parts ..).2.1]
  unfold State.endCounted
  by_cases refused : r.refused = true ∧ st = r.status
  · rw [if_pos (by simpa using refused), if_pos refused, State.bump_rd_same]
  · rw [if_neg (by simpa using refused), if_neg refused]

/-- R274, R510: the end of a job with E_FAULT. -/
theorem State.pkeEnd_fault (fault : st = 6) : (s.pkeEnd i r st w n).rd (Reg.PKE_FAULTS i) = satAdd (s.rd (Reg.PKE_FAULTS i)) 1 ∧
    (s.pkeEnd i r st w n).evSet 195 = true ∧ ((s.pkeEnd i r st w n).eng i).run = none ∧
    (s.faultsMany i → ((s.pkeEnd i r st w n).eng i).retired = true ∧
      ((s.eng i).retired = false → ((s.pkeEnd i r st w n).eng i).online = false)) := by
  have ev : evKey (Reg.PKE_FAULTS i) = false := evKey_engine hi (d := 0x54) (by decide)
  have before : EngStep i (· ≠ Reg.PKE_FAULTS i) s ((s.endFreed i r st w n).jobDone i r.job st) :=
    (State.endWritten_step hi (by unfold Reg.PKE_BUSY Reg.PKE_FAULTS; omega) (by unfold Reg.PKE_REFUSED Reg.PKE_FAULTS; omega) n).trans
      ((State.endFreed_after hi (by unfold Reg.PKE_WIPES Reg.PKE_FAULTS; omega) w n).jobDone hi
        (by unfold Reg.PKE_JOBS Reg.PKE_FAULTS; omega) r.job st).toEngStep
  have engine : ((s.endFreed i r st w n).jobDone i r.job st).eng i = ((s.endFreed i r st w n).eng i).completed r.job st :=
    State.eng_jobDone ..
  rw [Engine.completed_shape, State.eng_endFreed] at engine
  obtain ⟨counted, told, run, retires⟩ := ((s.endFreed i r st w n).jobDone i r.job st).pkeFault_spec i hi (by rw [engine]; rfl)
  unfold State.faultsMany at retires ⊢
  rw [engine, before.time, State.ac, before.active] at retires
  rw [State.pkeEnd_eq, if_pos fault, ← before.regs.regs _ (not_not.mpr rfl) ev]
  exact ⟨counted, told, run, retires⟩

end

theorem Engine.freed_eq (e : Engine) (r : Run) (st : Nat) (full : Bool) : e.freed r st full = { e with
    run := none
    startAt := r.endAt
    clean := full || e.clean
    result := if full = true then [] else if st = 0 ∨ st = 11 then resultAfter e.result r.out else e.result
    ops := if full = true then [] else match r.opNew with
      | some (d, v) => if st = 0 then tupd (fun _ => 0) e.ops d (fun o => lowWords (ceilDiv r.job.size 64) o v) else e.ops
      | none => e.ops } := by
  have written : (decide (st = 0) || st == 11) = true ↔ st = 0 ∨ st = 11 := by simp
  simp only [Engine.freed, written, decide_eq_true_eq]

section
variable (s : State) {i : Nat} (hi : i < 8) (r : Run) {st : Nat} (ok : st ≠ 6) (w : Bool) (n : Nat)
include ok

theorem State.pkeEnd_of_ok : s.pkeEnd i r st w n = (s.endFreed i r st w n).jobDone i r.job st :=
  (s.pkeEnd_eq i r st w n).trans (if_neg ok)

include hi in
/-- R295: a job that ends is counted. -/
theorem State.pkeEnd_jobs : (s.pkeEnd i r st w n).rd (Reg.PKE_JOBS i) = satAdd (s.rd (Reg.PKE_JOBS i)) 1 := by
  have before : EngStep i (· ≠ Reg.PKE_JOBS i) s (s.endFreed i r st w n) :=
    (State.endWritten_step hi (by unfold Reg.PKE_BUSY Reg.PKE_JOBS; omega) (by unfold Reg.PKE_REFUSED Reg.PKE_JOBS; omega) n).trans
      (State.endFreed_after hi (by unfold Reg.PKE_WIPES Reg.PKE_JOBS; omega) w n).toEngStep
  rw [s.pkeEnd_of_ok r ok w n, State.jobDone_jobs _ _ _ _ hi,
    before.regs.regs _ (not_not.mpr rfl) (evKey_engine hi (d := 0x50) (by decide))]

/-- R260, R263, R276, R283: the engine that a job leaves. -/
theorem State.eng_pkeEnd (t : State) (ht : t = s.pkeEnd i r st w n) (full clean : Bool) (hfull : full = (w || r.secretBearing))
    (hclean : clean = (full || (s.eng i).clean)) : t.eng i = { s.eng i with
      run := none
      startAt := r.endAt
      clean := clean
      result := if full = true then [] else if st = 0 ∨ st = 11 then resultAfter (s.eng i).result r.out else (s.eng i).result
      ops := if full = true then [] else match r.opNew with
        | some (d, v) => if st = 0 then tupd (fun _ => 0) (s.eng i).ops d (fun o => lowWords (ceilDiv r.job.size 64) o v)
          else (s.eng i).ops
        | none => (s.eng i).ops
      wipeUntil := if r.te5 = true ∧ clean = false then some (r.endAt + 2048 * cclkTicks) else (s.eng i).wipeUntil
      status := st
      lastOwner := r.job.owner
      busyTicks := ((s.eng i).busyTicks + (r.endAt - r.start) / cclkTicks) % 1024
      cpl := (t.eng i).cpl
      held := (t.eng i).held } := by
  subst hfull hclean
  have done : t.eng i = ((s.endFreed i r st w n).eng i).completed r.job st := by
    rw [ht, s.pkeEnd_of_ok r ok w n, State.eng_jobDone]
  have shape := Engine.completed_shape ((s.endFreed i r st w n).eng i) r.job st
  rw [← done, State.eng_endFreed] at shape
  rw [Engine.freed_eq] at shape
  exact shape

/-- R282: the record that a job leaves. -/
theorem State.pkeEnd_record (e : Engine) (he : e = s.eng i) (t : State) (ht : t = s.pkeEnd i r st w n) : match r.job.by_ with
    | .srv => (t.eng i).cpl = e.cpl ∧ (t.eng i).held = e.held
    | .core c => (∀ d, d ≠ c → tget (fun _ => []) (t.eng i).cpl d = tget (fun _ => []) e.cpl d) ∧
      let rec_ : Cpl := ⟨r.job.tag, r.job.owner, st⟩
      if (tget (fun _ => []) e.cpl c).length < 8 then t.evSet 194 = true ∧ (t.eng i).held = e.held ∧
        tget (fun _ => []) (t.eng i).cpl c = tget (fun _ => []) e.cpl c ++ [rec_]
      else (t.eng i).cpl = e.cpl ∧ (t.eng i).held = e.held ++ [(c, rec_)] ∧ (e.held = [] → t.evSet 198 = true) := by
  have kept : ((s.endFreed i r st w n).eng i).cpl = e.cpl ∧ ((s.endFreed i r st w n).eng i).held = e.held := by
    rw [State.eng_endFreed, he]
    exact ⟨rfl, rfl⟩
  have record := (s.endFreed i r st w n).jobDone_record i r.job st
  rw [← s.pkeEnd_of_ok r ok w n, ← ht, kept.1, kept.2] at record
  exact record

end

/-- R274–R276, R281–R283, R510: the end of a job. -/
theorem pkeEnd_spec (i : Fin 8) (s : State) (r : Run) (st : Nat) (w : Bool) (n : Nat) (t : State) (e : Engine) (out : List Byte)
    (full clean : Bool) (he : e = s.eng i.val) (ht : t = s.pkeEnd i.val r st w n)
    (hout : out = (if st = 0 ∨ st = 11 then r.out.take n else [])) (hfull : full = (w || r.secretBearing))
    (hclean : clean = (full || e.clean)) :
     (∀ k, k ≠ i.val → t.eng k = s.eng k) ∧ t.time = s.time ∧
     (∀ k ks, r.slotNew = some (k, ks) → st = 0 → t.kslot k = ks ∧ ∀ x, x ≠ k → t.kslot x = s.kslot x) ∧
     (r.slotNew = none ∨ st ≠ 0 → t.pke.slots = s.pke.slots) ∧
     (r.job.buf = none → out ≠ [] → .pkeOut i.val r.job.outAddr out ∈ t.outbox) ∧
     (out = [] → ∀ a b, .pkeOut i.val a b ∈ t.outbox → .pkeOut i.val a b ∈ s.outbox) ∧
     t.rd (Reg.PKE_REFUSED i.val) = (if r.refused = true ∧ st = r.status then satAdd (s.rd (Reg.PKE_REFUSED i.val)) 1
       else s.rd (Reg.PKE_REFUSED i.val)) ∧
     (st = 6 → t.rd (Reg.PKE_FAULTS i.val) = satAdd (s.rd (Reg.PKE_FAULTS i.val)) 1 ∧ t.evSet 195 = true ∧ (t.eng i.val).run = none ∧
       let pol := s.ac Reg.FLT_POLICY
       (fld pol 8 4 ≤ (e.faults.filter (fun x => decide (s.time.now < x + sTicks * fld pol 12 8))).length + 1 →
         (t.eng i.val).retired = true ∧ (e.retired = false → (t.eng i.val).online = false))) ∧
     (st ≠ 6 → t.rd (Reg.PKE_JOBS i.val) = satAdd (s.rd (Reg.PKE_JOBS i.val)) 1 ∧ t.eng i.val = { e with
         run := none
         startAt := r.endAt
         clean := clean
         result := if full = true then [] else if st = 0 ∨ st = 11 then resultAfter e.result r.out else e.result
         ops := if full = true then [] else match r.opNew with
           | some (d, v) => if st = 0 then tupd (fun _ => 0) e.ops d (fun o => lowWords (ceilDiv r.job.size 64) o v) else e.ops
           | none => e.ops
         wipeUntil := if r.te5 = true ∧ clean = false then some (r.endAt + 2048 * cclkTicks) else e.wipeUntil
         status := st
         lastOwner := r.job.owner
         busyTicks := (e.busyTicks + (r.endAt - r.start) / cclkTicks) % 1024
         cpl := (t.eng i.val).cpl
         held := (t.eng i.val).held } ∧
       match r.job.by_ with
       | .srv => (t.eng i.val).cpl = e.cpl ∧ (t.eng i.val).held = e.held
       | .core c => (∀ d, d ≠ c → tget (fun _ => []) (t.eng i.val).cpl d = tget (fun _ => []) e.cpl d) ∧
         let rec_ : Cpl := ⟨r.job.tag, r.job.owner, st⟩
         if (tget (fun _ => []) e.cpl c).length < 8 then t.evSet 194 = true ∧ (t.eng i.val).held = e.held ∧
           tget (fun _ => []) (t.eng i.val).cpl c = tget (fun _ => []) e.cpl c ++ [rec_]
         else (t.eng i.val).cpl = e.cpl ∧ (t.eng i.val).held = e.held ++ [(c, rec_)] ∧ (e.held = [] → t.evSet 198 = true)) := by
  have sent : out = r.sent st n := by
    rw [hout, Run.sent]
    simp only [Bool.or_eq_true, decide_eq_true_eq, beq_iff_eq]
  have step := s.pkeEnd_step i.isLt r st w n
  obtain ⟨loads, stays⟩ := s.pkeEnd_slots i.isLt r st w n
  obtain ⟨written, without⟩ := s.pkeEnd_outputs i.isLt r st w n
  rw [← ht] at step loads stays written without
  rw [← sent] at written without
  refine ⟨step.others, step.time, loads, stays, written, without, ?_, fun fault => ?_, fun ok => ⟨?_, ?_, ?_⟩⟩
  · rw [ht]
    exact s.pkeEnd_refused i.isLt r st w n
  · rw [ht, he]
    exact s.pkeEnd_fault i.isLt r st w n fault
  · rw [ht]
    exact s.pkeEnd_jobs i.isLt r ok w n
  · rw [he] at hclean ⊢
    exact s.eng_pkeEnd r ok w n t ht full clean hfull hclean
  · exact s.pkeEnd_record r ok w n e he t ht

end Sys2Proof.Machine
end

section
/-!
PROOFS. What follows the end of jobs: the firmware's replies and the carafes that lost their job (R217, R455, R457, R458).
-/

namespace Sys2Proof.Machine

/-! ### A removal from a completion queue -/

section
variable (s : State) (i c : Nat) (q : List Cpl)

theorem EngOnly.cplFree {P : Nat → Prop} {s t : State} {i : Nat} (h : EngOnly i P s t) : EngOnly i P s (t.cplFree i) :=
  .ite (h.updEng _) h

theorem EngOnly.cplSet {P : Nat → Prop} {s t : State} {i : Nat} (h : EngOnly i P s t) (c : Nat) (q : List Cpl) :
    EngOnly i P s (t.cplSet i c q) := by
  unfold State.cplSet
  dsimp only
  split
  · exact (((h.updEng _).updEng _).cplPush ..).cplFree
  · exact h.updEng _

/-- R282: only the start of the next job moves. -/
theorem State.eng_cplFree : (s.cplFree i).eng i = { s.eng i with startAt := ((s.cplFree i).eng i).startAt } := by
  unfold State.cplFree
  split
  · rw [State.eng_updEng_same]
  · rfl

/-- R282: engine `e` with a queue of completions replaced. -/
def Engine.queued (e : Engine) (c : Nat) (q : List Cpl) : Engine := { e with cpl := tset (fun _ => []) e.cpl c q }

/-- R282: engine `e` with a queue of completions replaced, into which a record that was held for the core enters. -/
def Engine.released (e : Engine) (c : Nat) (q : List Cpl) (h : Nat × Cpl) : Engine :=
  ({ e.queued c q with held := e.held.erase h } : Engine).recorded c h.2

theorem State.cplSet_eq : s.cplSet i c q = match (s.eng i).held.find? (fun h => h.1 == c) with
    | some h => (((s.updEng i fun e => e.queued c q).updEng i fun e => { e with held := e.held.erase h }).cplPush i c h.2).cplFree i
    | none => s.updEng i fun e => e.queued c q := by
  unfold State.cplSet
  dsimp only
  rw [State.eng_updEng_same]
  rfl

theorem State.eng_cplSet : (s.cplSet i c q).eng i = match (s.eng i).held.find? (fun h => h.1 == c) with
    | some h => { (s.eng i).released c q h with startAt := ((s.cplSet i c q).eng i).startAt }
    | none => (s.eng i).queued c q := by
  rw [State.cplSet_eq]
  cases (s.eng i).held.find? (fun h => h.1 == c) with
  | none => exact State.eng_updEng_same ..
  | some h =>
    refine (State.eng_cplFree ..).trans ?_
    rw [State.eng_cplPush, State.eng_updEng_same, State.eng_updEng_same]
    rfl

/-- R282: the other queues and the jobs of the engine stay. -/
theorem State.cplSet_kept : (∀ d, d ≠ c → tget (fun _ => []) ((s.cplSet i c q).eng i).cpl d = tget (fun _ => []) (s.eng i).cpl d) ∧
    ((s.cplSet i c q).eng i).run = (s.eng i).run ∧ ((s.cplSet i c q).eng i).pend = (s.eng i).pend := by
  rw [State.eng_cplSet]
  cases (s.eng i).held.find? (fun h => h.1 == c) with
  | none => exact ⟨fun d ne => tget_tset_ne (fun _ => []) (s.eng i).cpl q ne, rfl, rfl⟩
  | some h =>
    dsimp only
    refine ⟨fun d ne => (Engine.recorded_others _ c h.2 ne).trans (tget_tset_ne (fun _ => []) (s.eng i).cpl q ne), ?_, ?_⟩
    · rw [Engine.released, Engine.recorded_shape]
      rfl
    · rw [Engine.released, Engine.recorded_shape]
      rfl

/-- R282: a record that is held for the core enters its queue, if there is one and a place is free. -/
theorem State.cplSet_held : match (s.eng i).held.find? (fun h => h.1 == c) with
    | none => ((s.cplSet i c q).eng i).held = (s.eng i).held ∧ tget (fun _ => []) ((s.cplSet i c q).eng i).cpl c = q
    | some h => q.length < 8 → ((s.cplSet i c q).eng i).held = (s.eng i).held.erase h ∧ (s.cplSet i c q).evSet 194 = true ∧
      tget (fun _ => []) ((s.cplSet i c q).eng i).cpl c = q ++ [h.2] := by
  have engine := s.eng_cplSet i c q
  have steps := s.cplSet_eq i c q
  have stored : tget (fun _ => []) ((s.eng i).queued c q).cpl c = q := tget_tset_same ..
  cases found : (s.eng i).held.find? (fun h => h.1 == c) with
  | none =>
    rw [found] at engine
    dsimp only at engine ⊢
    rw [engine]
    exact ⟨rfl, stored⟩
  | some h =>
    rw [found] at engine steps
    dsimp only at engine steps ⊢
    intro room
    have free : (tget (fun _ => []) ({ (s.eng i).queued c q with held := (s.eng i).held.erase h } : Engine).cpl c).length < 8 := by
      rw [stored]
      exact room
    obtain ⟨held, queue⟩ := Engine.recorded_room _ c h.2 free
    have told := ((s.updEng i fun e => e.queued c q).updEng i fun e => { e with held := e.held.erase h }).cplPush_told i c h.2
    rw [State.eng_updEng_same, State.eng_updEng_same, if_pos free] at told
    refine ⟨?_, ?_, ?_⟩
    · rw [engine]
      exact held
    · rw [steps]
      exact (EngOnly.cplFree (i := i) (P := fun _ => True) (.refl _)).regs.events 194 (by decide) told
    · rw [engine]
      exact queue.trans (by rw [stored])

end

/-! ### Replies, and carafes -/

section
variable {s t : State}

theorem KeepsEvents.raiseLim (h : KeepsEvents s t) {e : Nat} (he : e < 256) (key ticks : Nat) : KeepsEvents s (t.raiseLim e key ticks) :=
  h.trans (RegWork.raiseLim (P := fun _ => True) (.refl t) he key ticks).events

variable (s)

theorem State.updChEnd_keepsEvents (e : Nat) (f : ChanEnd → ChanEnd) : KeepsEvents s (s.updChEnd e f) := .of_live rfl

theorem State.updDb_keepsEvents (e : Nat) (f : ChanEnd → ChanEnd) : KeepsEvents s (s.updDb e f) := by
  unfold State.updDb
  exact .ite ((s.updChEnd_keepsEvents e f).raise (by decide)) (s.updChEnd_keepsEvents e f)

theorem State.ring_keepsEvents (e : Nat) (bits : Word) : KeepsEvents s (s.ring e bits) := by
  unfold State.ring
  exact .ite (s.updDb_keepsEvents _ _) (s.updChEnd_keepsEvents _ _)

theorem State.send_keepsEvents (e : Nat) (w : Word) : KeepsEvents s (s.send e w) := by
  unfold State.send
  refine .ite (s.updChEnd_keepsEvents _ _) (.ite ((s.updChEnd_keepsEvents _ _).raiseLim (by decide) _ _) ?_)
  exact (s.updChEnd_keepsEvents _ _).trans (State.updChEnd_keepsEvents _ _ _)

theorem State.fwSendNow_keepsEvents (c : Nat) (m : FwMsg) : KeepsEvents s (s.fwSendNow c m) := by
  unfold State.fwSendNow
  exact (KeepsEvents.foldl (fun t w => t.send_keepsEvents _ w) m s).trans (State.ring_keepsEvents _ _ _)

theorem State.fwSend_keepsEvents (c : Nat) (m : FwMsg) : KeepsEvents s (s.fwSend c m) := by
  unfold State.fwSend
  exact .ite (s.updChEnd_keepsEvents _ _) (.ite (s.fwSendNow_keepsEvents c m) (.of_live rfl))

theorem State.fwCompletions_keepsEvents : KeepsEvents s s.fwCompletions := by
  unfold State.fwCompletions
  refine .foldl (fun t w => ?_) _ s
  dsimp only
  split
  · exact .refl t
  · rename_i x _
    have popped : KeepsEvents t (t.cplSet w.engine (fwCore w.chan) ((tget (fun _ => []) (t.eng w.engine).cpl (fwCore w.chan)).erase x)) :=
      ((EngOnly.refl t).cplSet (i := w.engine) (P := fun _ => True) _ _).regs.events
    refine popped.trans (.trans ?_ (State.fwSend_keepsEvents _ _ _))
    exact .of_live rfl

theorem State.carafeFailed_keepsEvents (c : Carafe) : KeepsEvents s (s.carafeFailed c) := by
  have dropped : KeepsEvents s (s.dropCarafe c.id) := (s.dropCarafe_regWork c.id fun _ => True).events
  have counted : KeepsEvents s ((s.dropCarafe c.id).bump Reg.SRV_RT_DROP_FAULT c.leaves.length) := dropped.wr _ (by decide)
  unfold State.carafeFailed
  split
  · exact .of_live rfl
  · exact counted.raise (by decide)

theorem State.carafeReconcile_keepsEvents : KeepsEvents s s.carafeReconcile := by
  unfold State.carafeReconcile
  refine .foldl (fun t c => ?_) _ s
  dsimp only
  split
  · exact .ite (.refl t) (t.carafeFailed_keepsEvents c)
  · exact .refl t

theorem State.jobsEnded_keepsEvents : KeepsEvents s s.jobsEnded :=
  s.fwCompletions_keepsEvents.trans (State.carafeReconcile_keepsEvents _)

theorem State.carafeDone_keepsEvents (id st : Nat) (out : List Byte) : KeepsEvents s (s.carafeDone id st out) := by
  unfold State.carafeDone
  split
  · exact .refl s
  · refine .ite (.trans ?_ (State.deleWipe_regWork _ fun _ => True).events) (s.carafeFailed_keepsEvents _)
    exact (KeepsEvents.of_live rfl).wr _ (by decide)

theorem State.jobOver_keepsEvents (r : Run) (st : Nat) : KeepsEvents s (s.jobOver r st) := by
  unfold State.jobOver
  split
  · exact (s.carafeDone_keepsEvents _ _ _).trans (State.jobsEnded_keepsEvents _)
  · exact s.jobsEnded_keepsEvents

end

end Sys2Proof.Machine
end

section
/-!
PROOFS. The commands that end jobs: completion, DMA error, timeout, pop and abort (R281–R285, R510).
-/

namespace Sys2Proof.Machine

/-! ### Completion, DMA error and timeout -/

theorem pkeJobComplete_does (i : Fin 8) (fault : Bool) (s : State) : Does (.pkeJobComplete i fault) s fun t =>
    match (s.eng i.val).run with
     | none => t = s
     | some r =>
       let bad := r.eccBad || (fault && secretProgram r.job.program && r.status == 0)
       let st := if bad = true then 6 else r.status
       t = (((s.advTo r.endAt).pkeEnd i.val r st bad).advTo (r.endAt + 12 * cclkTicks)).jobOver r st := by
  change ∃ t, execPkeJobComplete i fault s = .next t ∧ _
  unfold execPkeJobComplete
  cases (s.eng i.val).run with
  | none => exact ⟨_, rfl, rfl⟩
  | some r => exact ⟨_, rfl, rfl⟩

/-- R216: a carafe whose job ended OK is signed. -/
theorem State.carafeDone_sealed (s : State) (id : Nat) (out : List Byte) {c : Carafe}
    (found : s.rt.sealed.find? (fun c => c.id == id) = some c) : (s.carafeDone id 0 out).rt.sealed =
      s.rt.sealed.map (fun x => if x.id = id then { x with stage := .signed, sig := out, emitAt := s.time.now } else x) := by
  unfold State.carafeDone
  rw [found]
  dsimp only
  rw [if_pos rfl, State.deleWipe_rt]
  rfl

theorem jobOver_spec (s : State) (r : Run) (st : Nat) : (∀ c, r.job.by_ = .core c → s.jobOver r st = s.jobsEnded) ∧
     (r.job.by_ = .srv → s.jobOver r st = (s.carafeDone r.job.carafe st r.out).jobsEnded) ∧
     ∀ c, s.rt.sealed.find? (fun c => c.id == r.job.carafe) = some c → st = 0 →
       (s.carafeDone r.job.carafe st r.out).rt.sealed = s.rt.sealed.map (fun x =>
         if x.id = r.job.carafe then { x with stage := .signed, sig := r.out, emitAt := s.time.now } else x) := by
  unfold State.jobOver
  refine ⟨fun c core => by rw [core], fun srv => by rw [srv], ?_⟩
  rintro c found rfl
  exact s.carafeDone_sealed r.job.carafe r.out found

theorem pkeJobTimeout_does (i : Fin 8) (s : State) : Does (.pkeJobTimeout i) s fun t => match (s.eng i.val).run with
     | none => t = s
     | some r => t = (((s.advTo (r.endAt + 1024 * cclkTicks)).pkeEnd i.val
         { r with endAt := r.endAt + 1024 * cclkTicks, slotNew := none } 6 true).raise 205).jobOver { r with out := [] } 6 ∧
       t.evSet 205 = true ∧ t.evSet 195 = true := by
  change ∃ t, execPkeJobTimeout i s = .next t ∧ _
  unfold execPkeJobTimeout
  cases (s.eng i.val).run with
  | none => exact ⟨_, rfl, rfl⟩
  | some r =>
    obtain ⟨-, faulted, -⟩ := (s.advTo (r.endAt + 1024 * cclkTicks)).pkeEnd_fault i.isLt
      { r with endAt := r.endAt + 1024 * cclkTicks, slotNew := none } 6 true r.out.length rfl
    have later := State.jobOver_keepsEvents (((s.advTo (r.endAt + 1024 * cclkTicks)).pkeEnd i.val
      { r with endAt := r.endAt + 1024 * cclkTicks, slotNew := none } 6 true).raise 205) { r with out := [] } 6
    exact ⟨_, rfl, rfl, later 205 (by decide) (State.raise_evSet _ _ (by decide)),
      later 195 (by decide) ((State.raise_evOnly _ 205 (by decide)).sets 195 faulted)⟩

/-! ### DMA errors -/

section
variable (s : State) {i : Nat} {r : Run}

/-- R281: the end of a job with E_DMA. -/
theorem State.pkeEnd_dma (hi : i < 8) (slot : r.slotNew = none) (n : Nat) :
    ((s.pkeEnd i r 11 false n).eng i).run = none ∧ ((s.pkeEnd i r 11 false n).eng i).status = 11 ∧
    ((s.pkeEnd i r 11 false n).eng i).startAt = r.endAt ∧
    ((s.pkeEnd i r 11 false n).eng i).clean = (r.secretBearing || (s.eng i).clean) ∧
    (s.pkeEnd i r 11 false n).pke.slots = s.pke.slots ∧
    (s.pkeEnd i r 11 false n).rd (Reg.PKE_JOBS i) = satAdd (s.rd (Reg.PKE_JOBS i)) 1 := by
  refine and_assoc.mp (and_assoc.mp (and_assoc.mp ⟨?_, (s.pkeEnd_slots hi r 11 false n).2 (.inl slot), s.pkeEnd_jobs hi r (by decide) false n⟩))
  rw [s.eng_pkeEnd r (by decide) false n _ rfl _ _ rfl rfl]
  exact ⟨⟨⟨rfl, rfl⟩, rfl⟩, rfl⟩

/-- R281: a buffer in on-chip memory meets no DMA error, and a job without output none there. -/
theorem State.dmaError_unmet (run : (s.eng i).run = some r) {output : Option Nat}
    (unmet : ownerHost r.job.owner = false ∨ (output.isSome = true ∧ r.writes true = false)) : s.dmaError i output = s := by
  unfold State.dmaError
  rw [run]
  dsimp only
  cases host : ownerHost r.job.owner with
  | false => exact if_pos rfl
  | true =>
    obtain chip | ⟨met, unwritten⟩ := unmet
    · exact absurd (host.symm.trans chip) nofun
    · obtain ⟨n, rfl⟩ := Option.isSome_iff_exists.mp met
      dsimp only
      rw [unwritten]
      rfl

theorem State.dmaError_input (run : (s.eng i).run = some r) (host : ownerHost r.job.owner = true) : s.dmaError i none =
    s.pkeEnd i { r with endAt := s.cclkAfter 0, secretBearing := false, out := [], opNew := none, slotNew := none } 11 false 0 := by
  unfold State.dmaError
  rw [run]
  dsimp only
  rw [host]
  rfl

theorem State.dmaError_output (run : (s.eng i).run = some r) (host : ownerHost r.job.owner = true) (writes : r.writes true = true)
    (n : Nat) : s.dmaError i (some n) =
      (s.advTo r.endAt).pkeEnd i { r with slotNew := none } 11 false (min n (r.out.length - 1)) := by
  unfold State.dmaError
  rw [run]
  dsimp only
  rw [host, writes]
  rfl

end

theorem pkeDmaError_does (i : Fin 8) (output : Option Nat) (s : State) : Does (.pkeDmaError i output) s (fun t =>
       match (s.eng i.val).run with
       | none => t = s
       | some _ => t = (s.dmaError i.val output).jobsEnded) ∧
     ∀ r u, (s.eng i.val).run = some r → u = s.dmaError i.val output →
       if ownerHost r.job.owner = false ∨ (output.isSome = true ∧ r.writes true = false) then u = s
       else (u.eng i.val).run = none ∧ (u.eng i.val).status = 11 ∧ u.pke.slots = s.pke.slots ∧
         u.rd (Reg.PKE_JOBS i.val) = satAdd (s.rd (Reg.PKE_JOBS i.val)) 1 ∧ match output with
         | none => u.time = s.time ∧ (u.eng i.val).startAt = s.cclkAfter 0 ∧ (u.eng i.val).clean = (s.eng i.val).clean ∧
           ∀ a b, .pkeOut i.val a b ∈ u.outbox → .pkeOut i.val a b ∈ s.outbox
         | some n => u.time = (s.advTo r.endAt).time ∧ (u.eng i.val).clean = (r.secretBearing || (s.eng i.val).clean) ∧
           (r.job.buf = none → 0 < min n (r.out.length - 1) →
             .pkeOut i.val r.job.outAddr (r.out.take (min n (r.out.length - 1))) ∈ u.outbox) := by
  constructor
  · change ∃ t, execPkeDmaError i output s = .next t ∧ _
    unfold execPkeDmaError
    cases (s.eng i.val).run with
    | none => exact ⟨_, rfl, rfl⟩
    | some r => exact ⟨_, rfl, rfl⟩
  · rintro r u run rfl
    by_cases unmet : ownerHost r.job.owner = false ∨ (output.isSome = true ∧ r.writes true = false)
    · exact ite_intro_pos unmet (s.dmaError_unmet run unmet)
    · refine ite_intro_neg unmet ?_
      obtain ⟨host, met⟩ := not_or.mp unmet
      rw [Bool.not_eq_false] at host
      cases output with
      | none =>
        rw [s.dmaError_input run host]
        obtain ⟨free, status, start, clean, slots, jobs⟩ := s.pkeEnd_dma (r := { r with
          endAt := s.cclkAfter 0, secretBearing := false, out := [], opNew := none, slotNew := none }) i.isLt rfl 0
        exact ⟨free, status, slots, jobs, (s.pkeEnd_step i.isLt _ 11 false 0).time, start, clean,
          (s.pkeEnd_outputs i.isLt _ 11 false 0).2 rfl⟩
      | some n =>
        have writes : r.writes true = true := by simpa using met
        rw [s.dmaError_output run host writes]
        obtain ⟨free, status, -, clean, slots, jobs⟩ := (s.advTo r.endAt).pkeEnd_dma (r := { r with slotNew := none }) i.isLt rfl
          (min n (r.out.length - 1))
        rw [State.advTo_pke] at slots
        rw [State.rd_advTo] at jobs
        rw [State.eng_advTo] at clean
        refine ⟨free, status, slots, jobs, (State.pkeEnd_step _ i.isLt _ 11 false _).time, clean, fun memory sends => ?_⟩
        refine (State.pkeEnd_outputs _ i.isLt { r with slotNew := none } 11 false _).1 memory ?_
        change r.out.take (min n (r.out.length - 1)) ≠ []
        rw [Ne, List.take_eq_nil_iff]
        rintro (zero | empty)
        · omega
        · rw [empty] at sends
          simp at sends

/-! ### Pops -/

theorem pkeCplPop_does (i : Fin 8) (m : Master) (s : State) : Does (.pkeCplPop i m) s fun t => match m.core with
     | none => t = { s with bus := { data := [0], unsupported := false } }
     | some c => match tget (fun _ => []) (s.eng i.val).cpl c with
       | [] => t = { s with bus := { data := [0], unsupported := false } }
       | r :: rest =>
         t.bus = { data := [BitVec.ofNat 32 (r.tag + r.status * 2 ^ 8 + r.owner * 2 ^ 16 + rest.length * 2 ^ 24 + 2 ^ 30)]
                   unsupported := false } ∧
         (∀ d, d ≠ c → tget (fun _ => []) (t.eng i.val).cpl d = tget (fun _ => []) (s.eng i.val).cpl d) ∧
         (t.eng i.val).run = (s.eng i.val).run ∧ (t.eng i.val).pend = (s.eng i.val).pend ∧ t.pke.slots = s.pke.slots ∧
         match (s.eng i.val).held.find? (fun h => h.1 == c) with
         | none => (t.eng i.val).held = (s.eng i.val).held ∧ tget (fun _ => []) (t.eng i.val).cpl c = rest
         | some h => rest.length < 8 → (t.eng i.val).held = (s.eng i.val).held.erase h ∧ t.evSet 194 = true ∧
           tget (fun _ => []) (t.eng i.val).cpl c = rest ++ [h.2] := by
  change ∃ t, execPkeCplPop i m s = .next t ∧ _
  unfold execPkeCplPop
  cases m.core with
  | none => exact ⟨_, rfl, rfl⟩
  | some c =>
    dsimp only
    cases tget (fun _ => []) (s.eng i.val).cpl c with
    | nil => exact ⟨_, rfl, rfl⟩
    | cons r rest =>
      obtain ⟨others, run, pend⟩ := s.cplSet_kept i.val c rest
      have slots : (s.cplSet i.val c rest).pke.slots = s.pke.slots :=
        ((EngOnly.refl s).cplSet (i := i.val) (P := fun _ => True) c rest).slots
      exact ⟨_, rfl, rfl, others, run, pend, slots, s.cplSet_held i.val c rest⟩

/-! ### Aborts -/

section
variable (s : State) {i : Nat} (hi : i < 8) (j : PkeJob)

/-- R285: an abort is counted and told, and the job completes with ABORTED_WIPED. -/
def State.abortEnds (i : Nat) : State := ((s.bump (Reg.PKE_ABORTS i)).raise 196).jobDone i j 7

include hi in
theorem State.abortEnds_spec : (s.abortEnds j i).evSet 196 = true ∧
    (s.abortEnds j i).rd (Reg.PKE_ABORTS i) = satAdd (s.rd (Reg.PKE_ABORTS i)) 1 ∧ (s.abortEnds j i).pke.slots = s.pke.slots ∧
    ∀ a b, Out.pkeOut i a b ∈ (s.abortEnds j i).outbox ↔ Out.pkeOut i a b ∈ s.outbox := by
  have ev : evKey (Reg.PKE_ABORTS i) = false := evKey_engine hi (d := 0x58) (by decide)
  have told : EngOnly i (fun _ => True) s ((s.bump (Reg.PKE_ABORTS i)).raise 196) :=
    ((EngOnly.refl s).wr trivial ev _).raise (by decide)
  have done : EngOnly i (· ≠ Reg.PKE_ABORTS i) ((s.bump (Reg.PKE_ABORTS i)).raise 196) (s.abortEnds j i) :=
    (EngOnly.refl _).jobDone hi (by unfold Reg.PKE_JOBS Reg.PKE_ABORTS; omega) j 7
  refine ⟨done.regs.events 196 (by decide) (State.raise_evSet _ _ (by decide)), ?_, done.slots.trans told.slots,
    fun a b => (done.outputs i a b).trans (told.outputs i a b)⟩
  rw [done.regs.regs _ (not_not.mpr rfl) ev, State.raise_rd _ 196 _ (by decide) ev, State.bump_rd_same]

theorem State.eng_abortEnds : (s.abortEnds j i).eng i = { s.eng i with
    status := 7, lastOwner := j.owner, cpl := ((s.abortEnds j i).eng i).cpl, held := ((s.abortEnds j i).eng i).held } := by
  have done : (s.abortEnds j i).eng i = (s.eng i).completed j 7 := by
    rw [State.abortEnds, State.eng_jobDone, State.eng_raise, State.eng_bump]
  rw [done]
  exact Engine.completed_shape ..

/-- R285: a running job stops, and its engine is wiped from the abort on. -/
def State.abortStopped (i : Nat) (r : Run) : State :=
  (s.updEng i fun e => { e with
    run := none, clean := false, wipeUntil := some (s.cclkAfter 1 + 2048 * cclkTicks), startAt := s.cclkAfter 1 }).pkeBusy i
      ((s.cclkAfter 1 - r.start) / cclkTicks)

theorem State.abortRunning_eq (r : Run) : s.abortRunning i r = (s.abortStopped i r).abortEnds r.job i := rfl

theorem State.abortPending_eq : s.abortPending i j = (s.updEng i fun e => { e with pend := e.pend.erase j }).abortEnds j i := rfl

include hi

theorem State.abortRunning_spec (r : Run) (u : State) (hu : u = s.abortRunning i r) :
    (u.eng i).run = none ∧ (u.eng i).clean = false ∧ (u.eng i).status = 7 ∧
       (u.eng i).pend = (s.eng i).pend ∧ (u.eng i).wipeUntil = some (s.cclkAfter 1 + 2048 * cclkTicks) ∧ u.evSet 196 = true ∧
       u.rd (Reg.PKE_ABORTS i) = satAdd (s.rd (Reg.PKE_ABORTS i)) 1 ∧ u.pke.slots = s.pke.slots ∧
       ∀ a b, .pkeOut i a b ∈ u.outbox → .pkeOut i a b ∈ s.outbox := by
  subst hu
  have stopped : EngOnly i (· ≠ Reg.PKE_ABORTS i) s (s.abortStopped i r) :=
    ((EngOnly.refl s).updEng _).pkeBusy hi (by unfold Reg.PKE_BUSY Reg.PKE_ABORTS; omega) _
  have engine : (s.abortStopped i r).eng i = { s.eng i with
      run := none, clean := false, wipeUntil := some (s.cclkAfter 1 + 2048 * cclkTicks), startAt := s.cclkAfter 1
      busyTicks := ((s.eng i).busyTicks + (s.cclkAfter 1 - r.start) / cclkTicks) % 1024 } := by
    unfold State.abortStopped State.pkeBusy
    rw [State.eng_bump, State.eng_updEng_same, State.eng_updEng_same]
  obtain ⟨told, counted, slots, outputs⟩ := (s.abortStopped i r).abortEnds_spec hi r.job
  rw [stopped.regs.regs _ (not_not.mpr rfl) (evKey_engine hi (d := 0x58) (by decide))] at counted
  rw [State.abortRunning_eq, State.eng_abortEnds, engine]
  exact ⟨rfl, rfl, rfl, rfl, rfl, told, counted, slots.trans stopped.slots,
    fun a b sent => (stopped.outputs i a b).mp ((outputs a b).mp sent)⟩

theorem State.abortPending_spec (u : State) (hu : u = s.abortPending i j) :
    (u.eng i).run = (s.eng i).run ∧ (u.eng i).clean = (s.eng i).clean ∧ (u.eng i).status = 7 ∧
       (u.eng i).pend = (s.eng i).pend.erase j ∧ (u.eng i).wipeUntil = (s.eng i).wipeUntil ∧ u.evSet 196 = true ∧
       u.rd (Reg.PKE_ABORTS i) = satAdd (s.rd (Reg.PKE_ABORTS i)) 1 ∧ u.pke.slots = s.pke.slots := by
  subst hu
  obtain ⟨told, counted, slots, -⟩ := (s.updEng i fun e => { e with pend := e.pend.erase j }).abortEnds_spec hi j
  rw [State.abortPending_eq, State.eng_abortEnds, State.eng_updEng_same]
  exact ⟨rfl, rfl, rfl, rfl, rfl, told, counted, slots⟩

end

/-- R284: what an abort does that no running job matches: it takes the first pending job that matches, or is missed. -/
def State.AbortWaiting (s : State) (i : Nat) (may : PkeJob → Bool) (t : State) : Prop := match (s.eng i).pend.find? may with
  | some j => t = (s.abortPending i j).jobsEnded
  | none => t.eng i = { s.eng i with abortMiss := true } ∧ (∀ k, k ≠ i → t.eng k = s.eng k) ∧ t = { s with pke := t.pke }

/-- R284: master `m` may abort job `j` under a tag and an owner. -/
def PkeJob.abortable (j : PkeJob) (m : Master) (tag owner : Nat) : Bool := j.tag == tag && j.owner == owner &&
  (decide (m = .kc) || (match j.by_, m.core with
    | .core c, some d => c == d
    | _, _ => false))

/-- R284: KC and the core that submitted a job may abort it. -/
theorem PkeJob.abortable_iff (j : PkeJob) (m : Master) (tag owner : Nat) : j.abortable m tag owner = true ↔
    j.tag = tag ∧ j.owner = owner ∧ (m = .kc ∨ ∃ c, m.core = some c ∧ j.by_ = .core c) := by
  unfold PkeJob.abortable
  simp only [Bool.and_eq_true, Bool.or_eq_true, beq_iff_eq, decide_eq_true_eq, and_assoc]
  refine and_congr_right fun _ => and_congr_right fun _ => or_congr_right ?_
  cases j.by_ with
  | srv => exact ⟨nofun, nofun⟩
  | core c =>
    cases m.core with
    | none => exact ⟨nofun, nofun⟩
    | some d =>
      dsimp only
      rw [beq_iff_eq]
      exact ⟨fun same => ⟨c, congrArg some same.symm, rfl⟩, fun ⟨_, core, by_⟩ =>
        (Submitter.core.inj by_).trans (Option.some.inj core).symm⟩

section
variable (s : State) (i : Nat) (may : PkeJob → Bool) (begun : Bool)

/-- R284: an abort of the jobs that satisfy `may`. -/
def State.abortMade : State := if (s.abortJob i may begun).1 = true then (s.abortJob i may begun).2.jobsEnded
  else s.updEng i fun e => { e with abortMiss := true }

/-- R284: the removal of the first pending job that satisfies `may`, with whether there is one. -/
def State.abortFirst : Bool × State := match (s.eng i).pend.find? may with
  | some j => (true, s.abortPending i j)
  | none => (false, s)

theorem State.abortWaiting_made (made : s.abortJob i may begun = s.abortFirst i may) :
    s.AbortWaiting i may (s.abortMade i may begun) := by
  unfold State.AbortWaiting State.abortMade
  rw [made, State.abortFirst]
  cases (s.eng i).pend.find? may with
  | some j => rfl
  | none => exact ⟨State.eng_updEng_same .., fun k ne => State.eng_updEng_ne s _ ne, rfl⟩

theorem State.abortMade_spec : match (s.eng i).run with
    | some r => if may r.job = true then
        s.abortMade i may begun = (if r.writes begun = true ∨ r.endAt ≤ s.cclkAfter 1 then s else s.abortRunning i r).jobsEnded
      else s.AbortWaiting i may (s.abortMade i may begun)
    | none => s.AbortWaiting i may (s.abortMade i may begun) := by
  cases run : (s.eng i).run with
  | none =>
    refine s.abortWaiting_made i may begun ?_
    unfold State.abortJob
    dsimp only
    rw [run]
    rfl
  | some r =>
    dsimp only
    by_cases mine : may r.job = true
    · refine ite_intro_pos mine ?_
      have made : s.abortJob i may begun =
          (true, if r.writes begun || r.endAt ≤ s.cclkAfter 1 then s else s.abortRunning i r) := by
        unfold State.abortJob
        dsimp only
        rw [run]
        exact if_pos mine
      unfold State.abortMade
      rw [made]
      simp only [Bool.or_eq_true, decide_eq_true_eq, if_true]
    · refine ite_intro_neg mine (s.abortWaiting_made i may begun ?_)
      unfold State.abortJob
      dsimp only
      rw [run]
      exact if_neg mine

end

theorem pkeAbort_does (i : Fin 8) (m : Master) (tag : Fin 256) (owner : Fin 64) (begun : Bool) (s : State) (may : PkeJob → Bool)
    (hmay : ∀ j, may j = true ↔ j.tag = tag.val ∧ j.owner = owner.val ∧ (m = .kc ∨ ∃ c, m.core = some c ∧ j.by_ = .core c)) :
    Does (.pkeAbort i m tag owner begun) s fun t => match (s.eng i.val).run with
       | some r => if may r.job = true then
           t = (if r.writes begun = true ∨ r.endAt ≤ s.cclkAfter 1 then s else s.abortRunning i.val r).jobsEnded
         else s.AbortWaiting i.val may t
       | none => s.AbortWaiting i.val may t := by
  have same : (fun j : PkeJob => j.abortable m tag.val owner.val) = may := by
    funext j
    rw [Bool.eq_iff_iff, hmay j]
    exact j.abortable_iff m tag.val owner.val
  have made : exec (.pkeAbort i m tag owner begun) s = .next (s.abortMade i.val (fun j => j.abortable m tag.val owner.val) begun) := rfl
  rw [same] at made
  exact ⟨_, made, s.abortMade_spec i.val may begun⟩

/-- Settles O36: the end of a job by its steps, of which each leaves the other engines; each command by what its engine runs. -/
theorem pkeEnds : Obligations.PkeEnds := by
  refine ⟨pkeEnd_spec, pkeJobComplete_does, jobOver_spec, pkeDmaError_does, pkeJobTimeout_does, pkeCplPop_does, ?_, ?_⟩
  · exact fun i m tag owner begun s may hmay => pkeAbort_does i m tag owner begun s may hmay
  · rintro i s r j e rfl
    exact ⟨fun u hu => s.abortRunning_spec i.isLt r u hu, fun u hu => s.abortPending_spec i.isLt j u hu⟩

end Sys2Proof.Machine
end

section
/-!
PROOFS. The submission and the start of a job, and the end of a wipe (R261, R278–R280, R283).
-/

namespace Sys2Proof.Machine

/-! ### Submission -/

section
variable (s : State) {i : Nat} (j : PkeJob)

theorem State.submit_eq_taken (taken : s.submitResult i j = 0) : s.submit i j = (0, s.updEng i fun e => { e with
    pend := e.pend ++ [j]
    startAt := if (s.eng i).run.isNone && (s.eng i).pend.isEmpty && (s.eng i).wipeUntil.isNone then max e.startAt (s.cclkAfter 8)
      else e.startAt }) := if_pos taken

theorem State.submit_eq_refused (refused : ¬ s.submitResult i j = 0) : s.submit i j =
    (s.submitResult i j, (s.bump (Reg.PKE_SUB_REFUSED i)).raiseLim 197 i msTicks) := if_neg refused

theorem State.submit_fst : (s.submit i j).1 = s.submitResult i j := by
  by_cases taken : s.submitResult i j = 0
  · rw [s.submit_eq_taken j taken, taken]
  · rw [s.submit_eq_refused j taken]

theorem EngOnly.submit {P : Nat → Prop} (hi : i < 8) (m : P (Reg.PKE_SUB_REFUSED i)) : EngOnly i P s (s.submit i j).2 := by
  by_cases taken : s.submitResult i j = 0
  · rw [s.submit_eq_taken j taken]
    exact (EngOnly.refl s).updEng _
  · rw [s.submit_eq_refused j taken]
    exact ((EngOnly.refl s).wr m (evKey_engine hi (d := 0x64) (by decide)) _).events (State.raiseLim_evOnly _ 197 _ _ (by decide))

theorem State.eng_submit : (s.submit i j).2.eng i = if s.submitResult i j = 0 then { s.eng i with
      pend := (s.eng i).pend ++ [j]
      startAt := if (s.eng i).run = none ∧ (s.eng i).pend = [] ∧ (s.eng i).wipeUntil = none then
        max (s.eng i).startAt (s.cclkAfter 8) else (s.eng i).startAt }
    else s.eng i := by
  by_cases taken : s.submitResult i j = 0
  · rw [s.submit_eq_taken j taken, if_pos taken, State.eng_updEng_same]
    simp only [Bool.and_eq_true, Option.isNone_iff_eq_none, List.isEmpty_iff, and_assoc]
  · rw [s.submit_eq_refused j taken, if_neg taken, State.eng_raiseLim, State.eng_bump]

end

/-- A register of one master's bank is none of the shared ones. -/
theorem bankKey_ne (m : Master) {a b : Nat} (hb : b < 0x4000000) : b ≠ bankKey m a := by
  unfold bankKey
  omega

theorem pkeJobGo_does (i : Fin 8) (m : Master) (s : State) : Does (.pkeJobGo i m) s fun t => match m.core with
     | none => EvOnly s t ∧ t.evSet 192 = true
     | some c =>
       let e := s.eng i.val
       let j : PkeJob := { words := (List.range 8).map (fun k => s.rd (bankKey m (Reg.PKE_JOB_W i.val k))), by_ := .core c }
       t.rd (bankKey m (Reg.PKE_SUB_STAT i.val)) = BitVec.ofNat 32 (s.submitResult i.val j) ∧
       (∀ k, k ≠ i.val → t.eng k = s.eng k) ∧ t.pke.slots = s.pke.slots ∧ t.time = s.time ∧
       if s.submitResult i.val j = 0 then t.eng i.val = { e with
           pend := e.pend ++ [j]
           startAt := if e.run = none ∧ e.pend = [] ∧ e.wipeUntil = none then max e.startAt (s.cclkAfter 8) else e.startAt }
       else t.eng i.val = e ∧ t.rd (Reg.PKE_SUB_REFUSED i.val) = satAdd (s.rd (Reg.PKE_SUB_REFUSED i.val)) 1 := by
  change ∃ t, execPkeJobGo i m s = .next t ∧ _
  unfold execPkeJobGo
  cases m.core with
  | none => exact ⟨_, rfl, State.raise_evOnly s 192 (by decide), State.raise_evSet s 192 (by decide)⟩
  | some c =>
    dsimp only
    generalize hj : ({ words := (List.range 8).map (fun k => s.rd (bankKey m (Reg.PKE_JOB_W i.val k))), by_ := .core c } : PkeJob) = j
    have step : EngOnly i.val (fun _ => True) s (s.submit i.val j).2 := EngOnly.submit s j i.isLt trivial
    have engine := s.eng_submit (i := i.val) j
    refine ⟨_, rfl, (State.rd_wr_same ..).trans (congrArg _ (s.submit_fst j)), step.others, step.slots, step.time, ?_⟩
    by_cases taken : s.submitResult i.val j = 0
    · rw [if_pos taken] at engine
      exact ite_intro_pos taken engine
    · rw [if_neg taken] at engine
      obtain ⟨-, -, -, counted⟩ := State.submit_refused taken
      have shared : Reg.PKE_SUB_REFUSED i.val < 0x4000000 := by unfold Reg.PKE_SUB_REFUSED; omega
      exact ite_intro_neg taken ⟨engine, (State.rd_wr_ne _ _ (bankKey_ne m shared)).trans (counted i.isLt)⟩

/-! ### The start of a job -/

section
variable (s : State) (i : Nat) (j : PkeJob) (input : List Byte) (dma : Nat) (ok : Bool)

/-- R280, R288, R445: the status with which the checks before a start end the job, 0 where it goes on. -/
def State.startCheck : Nat := if s.coreFailed 4 && j.useSlot && secretProgram j.program then 1 + Config.kcFailStatus % 14
  else if !ok && secretProgram j.program then 13 else j.slotCheck (s.kslot j.slot) s.sec

/-- R280: engine `i` runs the job at the head of its queue as `r`. -/
def State.started (r : Run) (clean : Bool) : State := s.updEng i fun e => { e with
  run := some { r with te5 := bitAt (s.ac (Reg.PKE_CTRL i)) 0 }
  pend := e.pend.drop 1, owner := j.owner, program := j.program, prevOwner := some j.owner, clean := clean }

/-- R263–R265: what the program of the job does. -/
def State.startOut : PkeOut :=
  runProgram j (s.eng i) (s.kslot j.slot) s.otp.duk input (Config.trng s.draws, Config.trng (s.draws + 1))

theorem State.pkeRun_failed (failed : s.startCheck j ok ≠ 0) : s.pkeRun i j input dma ok =
    State.started (if s.startCheck j ok = 13 then s.raise 203 else s) i j { job := j, start := (s.eng i).startAt
                                                                            endAt := (s.eng i).startAt + 16 * cclkTicks
                                                                            status := s.startCheck j ok } (s.eng i).clean :=
  if_pos failed

theorem State.pkeRun_passed (passed : s.startCheck j ok = 0) : s.pkeRun i j input dma ok =
    s.draw.2.draw.2.started i j
      { job := j, start := (s.eng i).startAt
        endAt := (s.eng i).startAt + (if (s.startOut i j input).valid then j.cycles (s.kslot j.slot) + dma else 112 + dma) * cclkTicks
        status := (s.startOut i j input).status, out := (s.startOut i j input).out, slotNew := (s.startOut i j input).slotNew
        opNew := (s.startOut i j input).opNew, secretBearing := secretProgram j.program && (s.startOut i j input).valid
        refused := !(s.startOut i j input).valid }
      ((s.eng i).clean && !loadsOperand j.program) :=
  if_neg (not_not.mpr passed)

theorem State.pkeRun_only : EngOnly i (fun _ => True) s (s.pkeRun i j input dma ok) := by
  by_cases passed : s.startCheck j ok = 0
  · rw [s.pkeRun_passed i j input dma ok passed]
    have drawn : EngOnly i (fun _ => True) s s.draw.2.draw.2 := ⟨⟨fun _ _ => rfl, .of_live rfl, rfl, rfl⟩, rfl, fun _ _ _ => .rfl⟩
    exact drawn.updEng _
  · rw [s.pkeRun_failed i j input dma ok passed]
    exact (EngOnly.ite ((EngOnly.refl s).raise (by decide)) (.refl s)).updEng _

/-- R280–R283: the run of a job that has started, and the engine that it runs on. -/
def Runs (r : Run) (t : State) : Prop :=
  r.job = j ∧ r.start = (s.eng i).startAt ∧ r.te5 = bitAt (s.ac (Reg.PKE_CTRL i)) 0 ∧
    if s.startCheck j ok ≠ 0 then r.status = s.startCheck j ok ∧ r.endAt = r.start + 16 * cclkTicks ∧ r.out = [] ∧ r.slotNew = none ∧
      (t.eng i).clean = (s.eng i).clean ∧ (s.startCheck j ok = 13 → t.evSet 203 = true)
    else r.status = (s.startOut i j input).status ∧ r.out = (s.startOut i j input).out ∧
      r.slotNew = (s.startOut i j input).slotNew ∧ r.opNew = (s.startOut i j input).opNew ∧
      r.refused = !(s.startOut i j input).valid ∧ r.secretBearing = (secretProgram j.program && (s.startOut i j input).valid) ∧
      r.endAt = r.start + ((if (s.startOut i j input).valid = true then j.cycles (s.kslot j.slot) else 112) + dma) * cclkTicks ∧
      (t.eng i).clean = ((s.eng i).clean && !loadsOperand j.program)

theorem State.eng_started (r : Run) (clean : Bool) : (s.started i j r clean).eng i = { s.eng i with
    run := some { r with te5 := bitAt (s.ac (Reg.PKE_CTRL i)) 0 }
    pend := (s.eng i).pend.drop 1, owner := j.owner, program := j.program, prevOwner := some j.owner, clean := clean } :=
  State.eng_updEng_same ..

theorem State.pkeRun_runs : ∃ r, (s.pkeRun i j input dma ok).eng i = { s.eng i with
      run := some r
      pend := (s.eng i).pend.drop 1
      owner := j.owner
      program := j.program
      prevOwner := some j.owner
      clean := ((s.pkeRun i j input dma ok).eng i).clean } ∧ Runs s i j input dma ok r (s.pkeRun i j input dma ok) := by
  by_cases passed : s.startCheck j ok = 0
  · rw [s.pkeRun_passed i j input dma ok passed, State.eng_started]
    refine ⟨_, rfl, rfl, rfl, rfl, ite_intro_neg (not_not.mpr passed) ⟨rfl, rfl, rfl, rfl, rfl, rfl, ?_, ?_⟩⟩
    · dsimp only
      split
      · rfl
      · rfl
    · rw [State.eng_started]
  · rw [s.pkeRun_failed i j input dma ok passed]
    by_cases trng : s.startCheck j ok = 13
    · rw [if_pos trng, State.eng_started, State.eng_raise, State.ac_raise]
      refine ⟨_, rfl, rfl, rfl, rfl, ite_intro_pos passed ⟨rfl, rfl, rfl, rfl, ?_, fun _ => ?_⟩⟩
      · rw [State.eng_started]
      · exact State.raise_evSet s 203 (by decide)
    · rw [if_neg trng, State.eng_started]
      refine ⟨_, rfl, rfl, rfl, rfl, ite_intro_pos passed ⟨rfl, rfl, rfl, rfl, ?_, fun x => absurd x trng⟩⟩
      rw [State.eng_started]

/-- The checks of a start do not look at the time but for the seconds of the slot's limits, and the start reads nothing else that
the passage of time changes. -/
theorem State.startCheck_advTo (n : Nat) : (s.advTo n).startCheck j ok =
    if s.coreFailed 4 = true ∧ j.useSlot = true ∧ secretProgram j.program = true then 1 + Config.kcFailStatus % 14
    else if ok = false ∧ secretProgram j.program = true then 13 else j.slotCheck (s.kslot j.slot) (s.advTo n).sec := by
  have failed : (s.advTo n).coreFailed 4 = s.coreFailed 4 := by unfold State.coreFailed; rw [State.advTo_mbx]
  unfold State.startCheck
  rw [failed, State.kslot_advTo]
  simp only [Bool.and_eq_true, and_assoc, Bool.not_eq_true']

theorem State.startOut_advTo (n : Nat) : (s.advTo n).startOut i j input =
    runProgram j (s.eng i) (s.kslot j.slot) s.otp.duk input (Config.trng s.draws, Config.trng (s.draws + 1)) := by
  unfold State.startOut
  rw [State.eng_advTo, State.kslot_advTo, State.advTo_otp, State.advTo_draws]

theorem State.bufRead_advTo (n c a k : Nat) : (s.advTo n).bufRead c a k = s.bufRead c a k := by
  unfold State.bufRead
  rw [State.fwChan_advTo]

/-- R457: the bytes that a job reads. -/
def State.startInput : List Byte := match j.buf with
  | some c => s.bufRead c (join32 (j.word 2) (j.word 3)) j.inLen
  | none => j.input.getD input

theorem State.startInput_advTo (n : Nat) : (s.advTo n).startInput j input = s.startInput j input := by
  unfold State.startInput
  split
  · exact s.bufRead_advTo ..
  · rfl

theorem State.startInput_chip {c : Nat} (buf : j.buf = some c) :
    s.startInput j input = s.bufRead c (join32 (j.word 2) (j.word 3)) j.inLen := by
  unfold State.startInput
  rw [buf]

theorem State.startInput_memory (buf : j.buf = none) : s.startInput j input = j.input.getD input := by
  unfold State.startInput
  rw [buf]

/-- R283: the wipe before a job of another owner. -/
def State.wipeBegun : State :=
  (s.updEng i fun e => { e with wipeUntil := some (e.startAt + 2048 * cclkTicks) }).bump (Reg.PKE_WIPES i)

theorem State.wipeBegun_spec {i : Nat} (hi : i < 8) : EngOnly i (fun _ => True) s (s.wipeBegun i) ∧
    (s.wipeBegun i).eng i = { s.eng i with wipeUntil := some ((s.eng i).startAt + 2048 * cclkTicks) } ∧
    (s.wipeBegun i).rd (Reg.PKE_WIPES i) = satAdd (s.rd (Reg.PKE_WIPES i)) 1 :=
  ⟨((EngOnly.refl s).updEng _).wr trivial (evKey_engine hi (d := 0x5C) (by decide)) _,
    (State.eng_bump ..).trans (State.eng_updEng_same ..), State.bump_rd_same ..⟩

/-- R283: in native mode the memory that another owner's job left is wiped first. -/
def State.WipesFirst (e : Engine) : Prop :=
  bitAt (s.ac (Reg.PKE_CTRL i)) 0 = false ∧ e.clean = false ∧ e.prevOwner.isSome = true ∧ e.prevOwner ≠ some j.owner

end

section
variable (s : State) (i : Fin 8) (input : List Byte) (dma : Nat) (ok : Bool)

/-- R280: an engine that is offline, runs, wipes or holds a record. -/
def Engine.busy (e : Engine) : Prop := e.run.isSome = true ∨ e.wipeUntil.isSome = true ∨ e.held ≠ [] ∨ e.online = false

theorem execPkeJobStart_empty (empty : (s.eng i.val).pend = []) : exec (.pkeJobStart i input dma ok) s = .next s := by
  change execPkeJobStart i input dma ok s = _
  unfold execPkeJobStart
  dsimp only
  rw [empty]

variable {j : PkeJob} {rest : List PkeJob} (head : (s.eng i.val).pend = j :: rest)
include head

theorem execPkeJobStart_busy (busy : (s.eng i.val).busy) : exec (.pkeJobStart i input dma ok) s = .next s := by
  have shut : ((s.eng i.val).run.isSome || (s.eng i.val).wipeUntil.isSome || !(s.eng i.val).held.isEmpty || !(s.eng i.val).online) =
      true := by
    simpa [Engine.busy, or_assoc] using busy
  change execPkeJobStart i input dma ok s = _
  unfold execPkeJobStart
  dsimp only
  rw [head]
  exact if_pos shut

theorem execPkeJobStart_free (free : ¬ (s.eng i.val).busy) {u : State} (hu : u = s.advTo (s.eng i.val).startAt) :
    (s.WipesFirst i.val j (s.eng i.val) → exec (.pkeJobStart i input dma ok) s = .next (u.wipeBegun i)) ∧
    (¬ s.WipesFirst i.val j (s.eng i.val) → exec (.pkeJobStart i input dma ok) s = .next
      (u.pkeRun i j (u.startInput j input) (if ownerHost j.owner = true then dma else 0) ok)) := by
  have shut : ¬ ((s.eng i.val).run.isSome || (s.eng i.val).wipeUntil.isSome || !(s.eng i.val).held.isEmpty ||
      !(s.eng i.val).online) = true := by
    simpa [Engine.busy, or_assoc] using free
  have first : (!bitAt (u.ac (Reg.PKE_CTRL i.val)) 0 && !(s.eng i.val).clean && (s.eng i.val).prevOwner.isSome &&
      decide ((s.eng i.val).prevOwner ≠ some j.owner)) = true ↔ s.WipesFirst i.val j (s.eng i.val) := by
    rw [hu, State.ac_advTo]
    simp [State.WipesFirst, and_assoc]
  subst hu
  change (_ → execPkeJobStart i input dma ok s = _) ∧ (_ → execPkeJobStart i input dma ok s = _)
  unfold execPkeJobStart
  dsimp only
  rw [head]
  dsimp only
  rw [if_neg shut]
  exact ⟨fun wipes => if_pos (first.mpr wipes), fun stays => if_neg fun x => stays (first.mp x)⟩

end

theorem ite_imp_right {c A B B' : Prop} [Decidable c] (k : B → B') (h : if c then A else B) : if c then A else B' := by
  split at h
  · exact ite_intro_pos ‹_› h
  · exact ite_intro_neg ‹_› (k h)

theorem pkeJobStart_does (i : Fin 8) (input : List Byte) (dma : Nat) (ok : Bool) (s : State) (e : Engine) (u : State)
    (he : e = s.eng i.val) (hu : u = s.advTo e.startAt) : Does (.pkeJobStart i input dma ok) s fun t => match e.pend with
     | [] => t = s
     | j :: rest =>
       if e.run.isSome = true ∨ e.wipeUntil.isSome = true ∨ e.held ≠ [] ∨ e.online = false then t = s
       else t.time = u.time ∧ t.pke.slots = s.pke.slots ∧ (∀ k, k ≠ i.val → t.eng k = s.eng k) ∧
         if bitAt (s.ac (Reg.PKE_CTRL i.val)) 0 = false ∧ e.clean = false ∧ e.prevOwner.isSome = true ∧
             e.prevOwner ≠ some j.owner then
           t.eng i.val = { e with wipeUntil := some (e.startAt + 2048 * cclkTicks) } ∧
           t.rd (Reg.PKE_WIPES i.val) = satAdd (s.rd (Reg.PKE_WIPES i.val)) 1
         else ∃ r, t.eng i.val = { e with
             run := some r
             pend := rest
             owner := j.owner
             program := j.program
             prevOwner := some j.owner
             clean := (t.eng i.val).clean } ∧
           r.job = j ∧ r.start = e.startAt ∧ r.te5 = bitAt (s.ac (Reg.PKE_CTRL i.val)) 0 ∧
           let secret := secretProgram j.program
           let chk := if s.coreFailed 4 = true ∧ j.useSlot = true ∧ secret = true then 1 + Config.kcFailStatus % 14
             else if ok = false ∧ secret = true then 13 else j.slotCheck (s.kslot j.slot) u.sec
           let wait := if ownerHost j.owner = true then dma else 0
           if chk ≠ 0 then r.status = chk ∧ r.endAt = r.start + 16 * cclkTicks ∧ r.out = [] ∧ r.slotNew = none ∧
             (t.eng i.val).clean = e.clean ∧ (chk = 13 → t.evSet 203 = true)
           else ∃ bytes, (∀ c, j.buf = some c → bytes = s.bufRead c (join32 (j.word 2) (j.word 3)) j.inLen) ∧
             (j.buf = none → bytes = j.input.getD input) ∧
             let o := runProgram j e (s.kslot j.slot) s.otp.duk bytes (Config.trng s.draws, Config.trng (s.draws + 1))
             r.status = o.status ∧ r.out = o.out ∧ r.slotNew = o.slotNew ∧ r.opNew = o.opNew ∧ r.refused = !o.valid ∧
             r.secretBearing = (secret && o.valid) ∧
             r.endAt = r.start + ((if o.valid = true then j.cycles (s.kslot j.slot) else 112) + wait) * cclkTicks ∧
             (t.eng i.val).clean = (e.clean && !loadsOperand j.program) := by
  subst he hu
  cases head : (s.eng i.val).pend with
  | nil => exact ⟨s, execPkeJobStart_empty s i input dma ok head, rfl⟩
  | cons j rest =>
    by_cases busy : (s.eng i.val).busy
    · exact ⟨s, execPkeJobStart_busy s i input dma ok head busy, ite_intro_pos busy rfl⟩
    · obtain ⟨wiped, ran⟩ := execPkeJobStart_free s i input dma ok head busy rfl
      by_cases first : s.WipesFirst i.val j (s.eng i.val)
      · obtain ⟨step, engine, counted⟩ := (s.advTo (s.eng i.val).startAt).wipeBegun_spec i.isLt
        rw [State.eng_advTo] at engine
        rw [State.rd_advTo] at counted
        exact ⟨_, wiped first, ite_intro_neg busy ⟨step.time, step.slots.trans (by rw [State.advTo_pke]),
          fun k ne => (step.others k ne).trans (State.eng_advTo ..), ite_intro_pos first ⟨engine.trans (by rw [← head]), counted⟩⟩⟩
      · rw [State.startInput_advTo] at ran
        have step := (s.advTo (s.eng i.val).startAt).pkeRun_only i.val j (s.startInput j input)
          (if ownerHost j.owner = true then dma else 0) ok
        obtain ⟨r, engine, job, start, te5, run⟩ := (s.advTo (s.eng i.val).startAt).pkeRun_runs i.val j
          (s.startInput j input) (if ownerHost j.owner = true then dma else 0) ok
        rw [State.eng_advTo, head] at engine
        rw [State.startCheck_advTo, State.startOut_advTo, State.kslot_advTo, State.eng_advTo] at run
        refine ⟨_, ran first, ite_intro_neg busy ⟨step.time, step.slots.trans (by rw [State.advTo_pke]),
          fun k ne => (step.others k ne).trans (State.eng_advTo ..), ite_intro_neg first ⟨r, engine, job, ?_, ?_, ?_⟩⟩⟩
        · rw [start, State.eng_advTo]
        · rw [te5, State.ac_advTo]
        · dsimp only
          refine ite_imp_right ?_ run
          exact fun passes => ⟨s.startInput j input, fun c buf => s.startInput_chip j input buf,
            fun buf => s.startInput_memory j input buf, passes⟩

/-! ### The end of a wipe -/

theorem pkeWipeDone_does (i : Fin 8) (s : State) : Does (.pkeWipeDone i) s fun t => match (s.eng i.val).wipeUntil with
     | none => t = s
     | some w => t.time = (s.advTo w).time ∧ t.pke.slots = s.pke.slots ∧ (∀ k, k ≠ i.val → t.eng k = s.eng k) ∧
       t.eng i.val = { s.eng i.val with
         wipeUntil := none
         clean := true
         ops := []
         result := []
         startAt := w
         busyTicks := ((s.eng i.val).busyTicks + 2048) % 1024 } := by
  change ∃ t, execPkeWipeDone i s = .next t ∧ _
  unfold execPkeWipeDone
  cases (s.eng i.val).wipeUntil with
  | none => exact ⟨_, rfl, rfl⟩
  | some w =>
    have step : EngOnly i.val (fun _ => True) (s.advTo w) (((s.advTo w).pkeBusy i 2048).updEng i.val fun e => { e with
        wipeUntil := none, clean := true, ops := [], result := [], startAt := w }) :=
      ((EngOnly.refl _).pkeBusy i.isLt trivial _).updEng _
    refine ⟨_, rfl, step.time, step.slots.trans (by rw [State.advTo_pke]),
      fun k ne => (step.others k ne).trans (State.eng_advTo ..), ?_⟩
    unfold State.pkeBusy
    rw [State.eng_updEng_same, State.eng_bump, State.eng_updEng_same, State.eng_advTo]

/-- Settles O35: a submission by its result; a start by whether the engine is free, by the wipe that comes first and by the check;
the end of a wipe by whether there is one. -/
theorem pkeSubmission : Obligations.PkeSubmission := ⟨pkeJobGo_does, pkeJobStart_does, pkeWipeDone_does⟩

end Sys2Proof.Machine
end

section
/-!
PROOFS. What the judgement of a reference monitor leaves, and what work on one monitor leaves and makes of it (R301–R309).
-/

namespace Sys2Proof.Machine

/-! ### What the judgement of a monitor leaves -/

/-- A monitor but for the state that its checks give it and its wait-to-restore (R308, R309). -/
def Monitor.unjudged (x : Monitor) : Monitor := { x with state := .disabled, wtrEnd := none, wtrLeft := 0 }

section
variable (s : State) (m : Nat)

@[simp] theorem State.mon_refChanged (o : Nat) : s.refChanged.mon o = s.mon o := rfl

theorem State.refChanged_pairs : s.refChanged.ref.disPairs = s.ref.disPairs := rfl

@[simp] theorem State.mon_wr (a : Nat) (v : Word) (o : Nat) : (s.wr a v).mon o = s.mon o := rfl

theorem State.monEnter_same (f : MonState) :
    (s.monEnter m f).mon m = { s.mon m with state := f, wtrEnd := none, wtrLeft := 0 } := by
  unfold State.monEnter
  split
  · rw [State.mon_raise, State.mon_updMon_same]
  · rw [State.mon_updMon_same]

theorem State.monEnter_ne (f : MonState) {o : Nat} (ne : o ≠ m) : (s.monEnter m f).mon o = s.mon o := by
  unfold State.monEnter
  split
  · rw [State.mon_raise, State.mon_updMon_ne _ _ ne]
  · rw [State.mon_updMon_ne _ _ ne]

theorem State.monEnter_pairs (f : MonState) : (s.monEnter m f).ref.disPairs = s.ref.disPairs := by
  unfold State.monEnter
  split
  · rw [State.raise_ref]; rfl
  · rfl

/-- R309: the hold of wait-to-restore changes its timer at most. -/
theorem State.wtrSync_eq : s.wtrSync m = s ∨ ∃ (e l : Option Nat),
    s.wtrSync m = s.updMon m (fun x => { x with wtrEnd := e, wtrLeft := l.getD x.wtrLeft }) := by
  unfold State.wtrSync
  dsimp only
  split
  case isTrue => exact .inl rfl
  case isFalse =>
    split
    · split
      case h_1 e _ => exact .inr ⟨none, some _, rfl⟩
      case h_2 => exact .inl rfl
    · split
      · exact .inr ⟨some _, none, rfl⟩
      · exact .inl rfl

theorem State.wtrSync_ne {o : Nat} (ne : o ≠ m) : (s.wtrSync m).mon o = s.mon o := by
  rcases s.wtrSync_eq m with eq | ⟨e, l, eq⟩ <;> rw [eq]
  exact State.mon_updMon_ne _ _ ne

theorem State.wtrSync_same : ∃ e l, (s.wtrSync m).mon m = { s.mon m with wtrEnd := e, wtrLeft := l } := by
  rcases s.wtrSync_eq m with eq | ⟨e, l, eq⟩ <;> rw [eq]
  · exact ⟨_, _, rfl⟩
  · exact ⟨_, _, State.mon_updMon_same ..⟩

theorem State.wtrSync_pairs : (s.wtrSync m).ref.disPairs = s.ref.disPairs := by
  rcases s.wtrSync_eq m with eq | ⟨e, l, eq⟩ <;> rw [eq]
  rfl

/-- R308, R309: a monitor that passes its checks waits to restore, unless it does so or is QUALIFIED. -/
theorem State.monEval_passing (passing : s.refFailing m = none) : s.monEval m =
    if (s.mon m).state = .wtr ∨ (s.mon m).state = .qualified then s
    else ((s.updMon m (fun x => { x with state := .wtr, wtrEnd := some (s.time.dt + s.wtrLen m), wtrLeft := s.wtrLen m })).wtrSync
      m).refChanged := by
  unfold State.monEval
  rw [passing]
  simp only [Bool.or_eq_true, decide_eq_true_eq]

theorem State.monEval_ne {o : Nat} (ne : o ≠ m) : (s.monEval m).mon o = s.mon o := by
  cases failing : s.refFailing m with
  | some f =>
    rw [State.monEval_failing failing]
    split
    · rfl
    · rw [State.mon_refChanged]
      split
      · rw [State.mon_raise, State.mon_wr, State.mon_bump, s.monEnter_ne m f ne]
      · exact s.monEnter_ne m f ne
  | none =>
    rw [s.monEval_passing m failing]
    split
    · rfl
    · rw [State.mon_refChanged, State.wtrSync_ne _ _ ne, State.mon_updMon_ne _ _ ne]

/-- R308, R309: a judgement finds a monitor in the state that its checks give, or brings it there. -/
theorem State.monEval_same : (s.monEval m).mon m = s.mon m ∨ ∃ f e l, (s.mon m).state ≠ f ∧
    (s.monEval m).mon m = { s.mon m with state := f, wtrEnd := e, wtrLeft := l } ∧ (f = .wtr ∨ s.refFailing m = some f) := by
  cases failing : s.refFailing m with
  | some f =>
    rw [State.monEval_failing failing]
    by_cases stays : (s.mon m).state = f
    · rw [if_pos stays]; exact .inl rfl
    · rw [if_neg stays, State.mon_refChanged]
      refine .inr ⟨f, none, 0, stays, ?_, .inr rfl⟩
      split
      · rw [State.mon_raise, State.mon_wr, State.mon_bump, State.monEnter_same]
      · exact s.monEnter_same m f
  | none =>
    rw [s.monEval_passing m failing]
    by_cases stays : (s.mon m).state = .wtr ∨ (s.mon m).state = .qualified
    · rw [if_pos stays]; exact .inl rfl
    · rw [if_neg stays, State.mon_refChanged]
      obtain ⟨e, l, same⟩ := State.wtrSync_same (s.updMon m (fun x => { x with
        state := .wtr, wtrEnd := some (s.time.dt + s.wtrLen m), wtrLeft := s.wtrLen m })) m
      refine .inr ⟨.wtr, e, l, fun h => stays (.inl h), ?_, .inl rfl⟩
      rw [same, State.mon_updMon_same]

theorem State.monEval_unjudged : ((s.monEval m).mon m).unjudged = (s.mon m).unjudged := by
  rcases s.monEval_same m with eq | ⟨f, e, l, -, eq, -⟩ <;> rw [eq]
  rfl

theorem State.monEval_pairs : (s.monEval m).ref.disPairs = s.ref.disPairs := by
  cases failing : s.refFailing m with
  | some f =>
    rw [State.monEval_failing failing]
    split
    · rfl
    · rw [State.refChanged_pairs]
      split
      · rw [State.raise_ref]; exact s.monEnter_pairs m f
      · exact s.monEnter_pairs m f
  | none =>
    rw [s.monEval_passing m failing]
    split
    · rfl
    · exact State.wtrSync_pairs _ _

theorem State.disqualified_keepsEvents (hm : m < 13) (v : Word) :
    KeepsEvents s (((s.bump (Reg.REF_DISQ_COUNT m)).wr (Reg.REF_LAST_FAIL m) v).raise 33) := by
  obtain ⟨count, last⟩ := evKey_refReg hm
  have counted : KeepsEvents s (s.bump (Reg.REF_DISQ_COUNT m)) := .wr (.refl s) _ count
  exact (counted.wr v last).raise (by decide)

/-- R303, R305, R308: the entry of a state raises its event. -/
theorem State.monEval_event {f : MonState} {e : Nat} (hm : m < 13) (event : f.entryEvent = some e) (was : (s.mon m).state ≠ f)
    (enters : ((s.monEval m).mon m).state = f) : (s.monEval m).evSet e = true := by
  rcases s.monEval_same m with eq | ⟨g, _, _, _, eq, failing⟩
  · exact absurd (eq ▸ enters) was
  · rw [eq] at enters
    obtain rfl : g = f := enters
    rcases failing with rfl | failing
    · cases event
    · have entered : (s.monEnter m g).evSet e = true := by
        unfold State.monEnter
        rw [event]
        exact State.raise_evSet _ _ (MonState.entryEvent_lt event)
      rw [State.monEval_failing failing, if_neg was]
      split
      · exact State.disqualified_keepsEvents _ m hm _ e (MonState.entryEvent_lt event) entered
      · exact entered

end

/-! ### Work on one monitor -/

/-- `t` is `s` after work on monitor `m`: the other monitors are as they were, and of the registers only event status, of which no
bit is lost, and those that count and time the failures of `m` are written. -/
structure MonWork (m : Nat) (s t : State) : Prop where
  regs : RegWork (· ∈ monRegs m) s t
  others : ∀ o, o ≠ m → t.mon o = s.mon o

section
variable {m : Nat} {s t u : State}

theorem MonWork.refl (s : State) : MonWork m s s := ⟨.refl s, fun _ _ => rfl⟩

theorem MonWork.trans (h : MonWork m s t) (k : MonWork m t u) : MonWork m s u :=
  ⟨h.regs.trans k.regs, fun o ne => (k.others o ne).trans (h.others o ne)⟩

theorem MonWork.ite {c : Prop} [Decidable c] (h : MonWork m s t) (k : MonWork m s u) : MonWork m s (if c then t else u) := by
  split <;> assumption

/-- An operation that leaves the live registers and the monitors. -/
theorem MonWork.of_parts (h : MonWork m s t) (live : u.live = t.live) (mons : u.ref.mons = t.ref.mons) : MonWork m s u :=
  h.trans ⟨.of_live live, fun o _ => congrArg (tget monDef · o) mons⟩

theorem MonWork.updMon (h : MonWork m s t) (f : Monitor → Monitor) : MonWork m s (t.updMon m f) :=
  h.trans ⟨.updMon (.refl t) .., fun _ ne => State.mon_updMon_ne _ _ ne⟩

theorem MonWork.raise (h : MonWork m s t) {e : Nat} (k : e < 256) : MonWork m s (t.raise e) :=
  h.trans ⟨.raise (.refl t) k, fun _ _ => State.mon_raise ..⟩

variable (hm : m < 13)
include hm

theorem MonWork.monEval (h : MonWork m s t) : MonWork m s (t.monEval m) :=
  h.trans ⟨.monEval (.refl t) hm, fun _ ne => t.monEval_ne m ne⟩

theorem MonWork.monFail (h : MonWork m s t) (x : MonState) {e : Nat} (k : e < 256) : MonWork m s (t.monFail m x e) :=
  .ite (h.monEval hm) ((h.monEval hm).raise k)

theorem MonWork.monLost (h : MonWork m s t) : MonWork m s (t.monLost m) := .ite h ((h.updMon _).monEval hm)

theorem MonWork.monBack (h : MonWork m s t) : MonWork m s (t.monBack m) := .ite h ((h.updMon _).monEval hm)

theorem MonWork.monLack (h : MonWork m s t) : MonWork m s (t.monLack m) := .ite ((h.updMon _).monLost hm) (h.updMon _)

theorem MonWork.monFreq (h : MonWork m s t) (df : Int) (full : Bool) : MonWork m s (t.monFreq m df full) :=
  .ite (h.updMon _) (((h.updMon _).updMon _).monEval hm)

theorem MonWork.monSample (h : MonWork m s t) (tb o : Int) : MonWork m s (t.monSample m tb o) :=
  .ite (.of_parts ((h.updMon _).monFreq hm _ _) rfl rfl) ((h.updMon _).monFreq hm _ _)

theorem MonWork.labelCheck (h : MonWork m s t) (lab : Nat) (tb : Int) : MonWork m s (t.labelCheck m lab tb) := by
  have noted := h.updMon
  exact .ite ((noted _).monEval hm) (.ite ((noted _).monFail hm _ (by decide)) ((noted _).monEval hm))

theorem MonWork.phaseJump (h : MonWork m s t) : MonWork m s (t.phaseJump m) :=
  .ite h (.ite ((h.updMon _).monFail hm _ (by decide)) ((h.updMon _).raise (by decide)))

theorem MonWork.monCand (h : MonWork m s t) (tb : Int) : MonWork m s (t.monCand m tb) :=
  .ite (.ite (h.updMon _) ((h.updMon _).monBack hm)) (h.updMon _)

/-- R302: an accepted pulse of a reference other than TOD. -/
theorem MonWork.pulseAccept (h : MonWork m s t) (ne : m ≠ 12) (tb st : Int) (lab : Option Nat) :
    MonWork m s (t.pulseAccept m tb st lab) := by
  unfold State.pulseAccept
  dsimp only
  rw [if_neg ne]
  cases lab with
  | none => exact ((h.updMon _).monSample hm _ _).monEval hm
  | some l => exact .monEval hm (.monSample hm (.ite (h.updMon _) ((h.updMon _).labelCheck hm l tb)) _ _)

end

/-! ### What work on a monitor makes of it -/

/-- R301, R304: a monitor that loses its activity. -/
def Monitor.lost (x : Monitor) : Monitor := if x.active then { x with
  active := false, freqOk := false, hist := [], cand := none, passFrom := none, lack := 0, gate := none } else x

/-- R301, R304: the monitor of reference `m` as its activity returns. -/
def Monitor.back (x : Monitor) (m : Nat) : Monitor := if x.active then x else { x with
  active := true, freqOk := false, hist := [], lack := 0, gate := none, last := if m < 8 || m = 12 then x.last else none }

section
variable (x : Monitor)

@[simp] theorem Monitor.lost_active : x.lost.active = false := by
  unfold Monitor.lost
  split
  · rfl
  · exact Bool.eq_false_iff.mpr ‹_›

theorem Monitor.lost_pulses : x.lost.last = x.last ∧ x.lost.missed = x.missed := by
  unfold Monitor.lost; split <;> exact ⟨rfl, rfl⟩

theorem Monitor.lost_window (none_ : x.passFrom = none) :
    x.lost.passFrom = none ∧ x.lost.winEdges = x.winEdges ∧ x.lost.since = x.since := by
  unfold Monitor.lost; split
  · exact ⟨rfl, rfl, rfl⟩
  · exact ⟨none_, rfl, rfl⟩

@[simp] theorem Monitor.back_active (m : Nat) : (x.back m).active = true := by
  unfold Monitor.back; split
  · assumption
  · rfl

theorem Monitor.back_window (m : Nat) :
    (x.back m).passFrom = x.passFrom ∧ (x.back m).winEdges = x.winEdges ∧ (x.back m).since = x.since := by
  unfold Monitor.back; split <;> exact ⟨rfl, rfl, rfl⟩

/-- The fields of a monitor that follow its pulses (R301-R303): the last pulse, the misses, the edges outside the window, activity, the
seconds of a phase jump that are left, and DT at the pulse. -/
def Monitor.train : Option Int × Nat × List Int × Bool × Nat × Option Nat :=
  (x.last, x.missed, x.bad, x.active, x.phaseBad, x.pulse)

/-- Where pulses are sampled by the TE-9, the return of activity leaves the pulses. -/
theorem Monitor.back_train {m : Nat} (hm : m < 8) : (x.back m).train = ({ x with active := true } : Monitor).train := by
  unfold Monitor.back
  split
  case isTrue active => rw [← active]
  case isFalse => simp [Monitor.train, hm]

end

/-- What two monitors have in common that differ only as a judgement may make them. -/
theorem Monitor.same_of_unjudged {x y : Monitor} (h : y.unjudged = x.unjudged) {α : Type} (g : Monitor → α)
    (hg : ∀ z, g z.unjudged = g z) : g y = g x := by
  rw [← hg y, h, hg x]

section
variable (s : State) (m : Nat)

theorem State.monFail_unjudged (x : MonState) (e : Nat) : ((s.monFail m x e).mon m).unjudged = (s.mon m).unjudged := by
  unfold State.monFail
  dsimp only
  split
  · exact s.monEval_unjudged m
  · rw [State.mon_raise]; exact s.monEval_unjudged m

theorem State.monLost_unjudged : ((s.monLost m).mon m).unjudged = (s.mon m).lost.unjudged := by
  unfold State.monLost Monitor.lost
  cases (s.mon m).active with
  | true => exact (State.monEval_unjudged ..).trans (congrArg _ (State.mon_updMon_same ..))
  | false => rfl

theorem State.monBack_unjudged : ((s.monBack m).mon m).unjudged = ((s.mon m).back m).unjudged := by
  unfold State.monBack Monitor.back
  cases (s.mon m).active with
  | true => rfl
  | false => exact (State.monEval_unjudged ..).trans (congrArg _ (State.mon_updMon_same ..))

/-- R304: the judgement of the frequency offset `df` with hysteresis. -/
def State.freqGood (df : Int) : Bool :=
  if (s.mon m).freqOk then decide (df.natAbs ≤ fld (s.ac (Reg.REF_LIMITS m)) 0 16 * 1000)
  else decide (df.natAbs < fld (s.ac (Reg.REF_LIMITS m)) 16 16 * 1000)

theorem State.monFreq_unjudged (df : Int) (full : Bool) : ((s.monFreq m df full).mon m).unjudged =
    ({ s.mon m with df := df, freqOk := if full then s.freqGood m df else (s.mon m).freqOk } : Monitor).unjudged := by
  unfold State.monFreq
  cases full with
  | true =>
    refine (State.monEval_unjudged ..).trans ?_
    rw [State.mon_updMon_same, State.mon_updMon_same]
    rfl
  | false => exact congrArg _ (State.mon_updMon_same ..)

/-- R304: a full measurement is kept and judged. -/
theorem State.monFreq_full (df : Int) : ((s.monFreq m df true).mon m).df = df ∧
    ((s.monFreq m df true).mon m).freqOk = s.freqGood m df := by
  have judged := s.monFreq_unjudged m df true
  exact ⟨Monitor.same_of_unjudged judged Monitor.df fun _ => rfl, Monitor.same_of_unjudged judged Monitor.freqOk fun _ => rfl⟩

/-- R302, R307: a sample keeps its offset and leaves the pulses. -/
theorem State.monSample_mon (tb o : Int) :
    ((s.monSample m tb o).mon m).o = o ∧ ((s.monSample m tb o).mon m).train = (s.mon m).train := by
  unfold State.monSample
  extract_lets h fit df _ u v
  have noted : (u.mon m).o = o ∧ (u.mon m).train = (s.mon m).train := by rw [State.mon_updMon_same]; exact ⟨rfl, rfl⟩
  have judged := u.monFreq_unjudged m df fit.isSome
  have offset : (v.mon m).o = o := (Monitor.same_of_unjudged judged Monitor.o fun _ => rfl).trans noted.1
  have train : (v.mon m).train = (s.mon m).train := (Monitor.same_of_unjudged judged Monitor.train fun _ => rfl).trans noted.2
  split
  · exact ⟨offset, train⟩
  · exact ⟨offset, train⟩

theorem State.labelCheck_train (lab : Nat) (tb : Int) : ((s.labelCheck m lab tb).mon m).train = (s.mon m).train := by
  unfold State.labelCheck
  extract_lets ok bad u
  have noted : (u.mon m).train = (s.mon m).train := by rw [State.mon_updMon_same]; rfl
  have judged := (Monitor.same_of_unjudged (u.monEval_unjudged m) Monitor.train fun _ => rfl).trans noted
  split
  · exact judged
  · split
    · exact (Monitor.same_of_unjudged (u.monFail_unjudged m .labelFail 39) Monitor.train fun _ => rfl).trans noted
    · exact judged

/-- R302, R307: an accepted pulse of a reference other than TOD. -/
theorem State.pulseAccept_mon (ne : m ≠ 12) (tb st : Int) (lab : Option Nat) :
    ((s.pulseAccept m tb st lab).mon m).o = offsetOf st lab ∧ ((s.pulseAccept m tb st lab).mon m).train =
      (some tb, 0, [], (s.mon m).active, (s.mon m).phaseBad - 1, some st.toNat) := by
  unfold State.pulseAccept
  extract_lets u x v w
  rw [if_neg ne]
  have taken : (u.mon m).train = (some tb, 0, [], (s.mon m).active, (s.mon m).phaseBad - 1, some st.toNat) := by
    rw [State.mon_updMon_same]; rfl
  have labelled : (w.mon m).train = (u.mon m).train := by
    cases lab with
    | none => rfl
    | some l =>
      dsimp only [w]
      split
      · rfl
      · exact u.labelCheck_train m l tb
  obtain ⟨offset, train⟩ := w.monSample_mon m tb (offsetOf st lab)
  have judged := State.monEval_unjudged (w.monSample m tb (offsetOf st lab)) m
  exact ⟨(Monitor.same_of_unjudged judged Monitor.o fun _ => rfl).trans offset,
    (Monitor.same_of_unjudged judged Monitor.train fun _ => rfl).trans (train.trans (labelled.trans taken))⟩

end

end Sys2Proof.Machine
end

section
/-!
PROOFS. The pulses of a reference: accepted, outside the window, missing (R301–R303).
-/

namespace Sys2Proof.Machine

/-! ### Phase jumps -/

section
variable (s : State) (m : Nat)

theorem State.phaseJump_quiet (quiet : s.jumped m = false) : s.phaseJump m = s := by
  unfold State.phaseJump
  rw [quiet]
  rfl

/-- R303, R305: a failed check leaves its event standing. -/
theorem State.monFail_evSet {x : MonState} {e : Nat} (hm : m < 13) (event : x.entryEvent = some e) : (s.monFail m x e).evSet e = true := by
  unfold State.monFail
  dsimp only
  split
  case isTrue enters =>
    simp only [Bool.and_eq_true, decide_eq_true_eq] at enters
    obtain ⟨was, now⟩ := enters
    exact s.monEval_event m hm event was now
  case isFalse => exact State.raise_evSet _ _ (MonState.entryEvent_lt event)

/-- R303: a monitor whose phase has jumped. -/
def Monitor.jumped (x : Monitor) : Monitor :=
  { x with phaseBad := 16, last := x.bad.head?, cand := x.bad.head?, bad := [], missed := 0, hist := [] }

theorem State.phaseJump_jumps (hm : m < 13) (jumps : s.jumped m = true) :
    (s.phaseJump m).evSet 38 = true ∧ ((s.phaseJump m).mon m).unjudged = (s.mon m).jumped.unjudged := by
  unfold State.phaseJump
  rw [jumps, if_neg (by decide)]
  extract_lets bad u
  have noted : (u.mon m).unjudged = (s.mon m).jumped.unjudged := by rw [State.mon_updMon_same]; rfl
  split
  · exact ⟨u.monFail_evSet m hm rfl, (u.monFail_unjudged m .phaseFail 38).trans noted⟩
  · exact ⟨u.raise_evSet 38 (by decide), by rwa [State.mon_raise]⟩

theorem State.phaseJump_active (hm : m < 13) : ((s.phaseJump m).mon m).active = (s.mon m).active := by
  by_cases jumps : s.jumped m = true
  · exact Monitor.same_of_unjudged (s.phaseJump_jumps m hm jumps).2 Monitor.active fun _ => rfl
  · rw [s.phaseJump_quiet m (Bool.eq_false_iff.mpr jumps)]

/-- R303: whether the phase has jumped depends on the monitor and its window. -/
theorem State.jumped_congr {s t : State} {m : Nat} (mon : t.mon m = s.mon m) (active : t.active = s.active) :
    t.jumped m = s.jumped m := by
  unfold State.jumped State.ppsWin State.ac
  rw [mon, active]

end

/-! ### Pulses -/

section
variable (s : State) (m : Nat) (tb st : Int) (lab : Option Nat)

theorem State.predicted_last {p : Int} (predicted : s.predicted m = some p) : (s.mon m).last.isSome = true := by
  unfold State.predicted at predicted
  obtain ⟨t, last, -⟩ := Option.map_eq_some_iff.mp predicted
  rw [last]
  rfl

/-- R302: of an active reference, a pulse inside the window of its prediction, or the first of a train, is accepted. -/
theorem State.pulse_near (active : (s.mon m).active = true)
    (near : ∀ p, s.predicted m = some p → (tb - p).natAbs ≤ (s.ppsWin m).natAbs) :
    s.pulse m tb st lab = s.pulseAccept m tb st lab := by
  unfold State.pulse
  dsimp only
  cases predicted : s.predicted m with
  | none => simp only [active, if_true]
  | some p => simp only [near p predicted, active, decide_true, if_true]

/-- R302: a pulse outside the window is kept beside the two such before it, and counted. -/
def State.strayed : State :=
  ((s.updMon m (fun x => { x with bad := (tb :: x.bad).take 3 })).bump (Reg.REF_PULSE_BAD m)).raiseLim 41 m sTicks

theorem State.strayed_mon (o : Nat) :
    (s.strayed m tb).mon o = (s.updMon m (fun x => { x with bad := (tb :: x.bad).take 3 })).mon o := by
  unfold State.strayed
  rw [State.mon_raiseLim, State.mon_bump]

theorem evKey_pulseBad {m : Nat} (hm : m < 13) : evKey (Reg.REF_PULSE_BAD m) = false := by
  simp only [evKey, Bool.or_eq_false_iff, Bool.and_eq_false_iff, decide_eq_false_iff_not]
  unfold Reg.REF_PULSE_BAD Reg.EVT_STAT Reg.EVT_CORE_STAT
  omega

theorem State.strayed_counted (hm : m < 13) : (s.strayed m tb).rd (Reg.REF_PULSE_BAD m) = satAdd (s.rd (Reg.REF_PULSE_BAD m)) 1 := by
  unfold State.strayed
  rw [(State.raiseLim_evOnly _ 41 m sTicks (by decide)).regs _ (evKey_pulseBad hm), State.bump_rd_same, State.rd_updMon]

/-- R302, R303: of an active reference, a pulse outside the window is counted and may show a phase jump. -/
theorem State.pulse_far (hm : m < 13) (active : (s.mon m).active = true) {p : Int} (predicted : s.predicted m = some p)
    (far : ¬ (tb - p).natAbs ≤ (s.ppsWin m).natAbs) : s.pulse m tb st lab = (s.strayed m tb).phaseJump m := by
  have stays : (((s.strayed m tb).phaseJump m).mon m).active = true := by
    rw [State.phaseJump_active _ _ hm, State.strayed_mon, State.mon_updMon_same]
    exact active
  unfold State.pulse
  simp only [predicted, far, s.predicted_last m predicted, decide_false, if_true]
  exact if_pos stays

/-- R301: a pulse of an inactive reference of which no pulse is known. -/
theorem State.pulse_first (active : (s.mon m).active = false) (last : (s.mon m).last = none) (bad : (s.mon m).bad = []) :
    s.pulse m tb st lab = if ((s.monCand m tb).mon m).last = some tb then (s.monCand m tb).pulseAccept m tb st lab
      else s.monCand m tb := by
  have quiet : s.jumped m = false := by simp [State.jumped, bad]
  unfold State.pulse State.predicted
  simp only [last, active, Option.map_none, Option.isSome_none, s.phaseJump_quiet m quiet, Bool.false_eq_true, if_false]

/-- R301: the second of two edges a second apart gives activity back. -/
theorem State.monCand_near (hm : m < 8) {c : Int} (cand : (s.mon m).cand = some c)
    (near : (tb - c - psSec).natAbs ≤ (s.ppsWin m).natAbs) :
    ((s.monCand m tb).mon m).train = (some tb, 0, [], true, (s.mon m).phaseBad, (s.mon m).pulse) := by
  unfold State.monCand
  simp only [cand, near, decide_true, if_true]
  rw [if_neg (by omega), Monitor.same_of_unjudged (State.monBack_unjudged ..) Monitor.train fun _ => rfl, Monitor.back_train _ hm,
    State.mon_updMon_same]
  rfl

theorem State.monCand_far (far : ¬ ∃ c, (s.mon m).cand = some c ∧ (tb - c - psSec).natAbs ≤ (s.ppsWin m).natAbs) :
    s.monCand m tb = s.updMon m (fun x => { x with cand := some tb }) := by
  unfold State.monCand
  cases cand : (s.mon m).cand with
  | none => rfl
  | some c =>
    have off : ¬ (tb - c - psSec).natAbs ≤ (s.ppsWin m).natAbs := fun near => far ⟨c, cand, near⟩
    simp only [off, decide_false, Bool.false_eq_true, if_false]

/-- A pulse of a reference leaves the monitors of the others. -/
theorem State.pulse_ne (hm : m < 12) {o : Nat} (ne : o ≠ m) : (s.pulse m tb st lab).mon o = s.mon o := by
  have small : m < 13 := by omega
  have accepted {u v : State} (h : MonWork m u v) : MonWork m u (v.pulseAccept m tb st lab) :=
    h.pulseAccept small (by omega) tb st lab
  unfold State.pulse
  extract_lets inWin u known v w
  split
  · exact (accepted (.ite (.refl s) (.monCand small (.refl s) tb))).others o ne
  · have noted : v.mon o = s.mon o := by
      dsimp only [v]
      split
      · exact (s.strayed_mon m tb o).trans (State.mon_updMon_ne _ _ ne)
      · rfl
    have jumped : MonWork m v w := .phaseJump small (.refl v)
    have cand : MonWork m v (w.monCand m tb) := jumped.monCand small tb
    exact ((MonWork.ite jumped (.ite (accepted cand) cand)).others o ne).trans noted

end

theorem ite_imp_left {c A A' B : Prop} [Decidable c] (k : A → A') (h : if c then A else B) : if c then A' else B := by
  split at h
  · exact ite_intro_pos ‹_› (k h)
  · exact ite_intro_neg ‹_› h

/-- R302, R307: monitor `m` has taken the pulse at `tb`, at which DT is `st`, with `n` seconds of a phase jump left before. -/
theorem State.taken_of_train {t : State} {m n : Nat} {tb st : Int} {lab : Option Nat} (offset : (t.mon m).o = offsetOf st lab)
    (train : (t.mon m).train = (some tb, 0, [], true, n - 1, some st.toNat)) :
    (t.mon m).last = some tb ∧ (t.mon m).missed = 0 ∧ (t.mon m).bad = [] ∧ (t.mon m).active = true ∧
      (t.mon m).phaseBad = n - 1 ∧ (t.mon m).pulse = some st.toNat ∧ (t.mon m).o = offsetOf st lab := by
  simp only [Monitor.train, Prod.mk.injEq] at train
  obtain ⟨last, missed, bad, active, phaseBad, pulse⟩ := train
  exact ⟨last, missed, bad, active, phaseBad, pulse, offset⟩

/-- R302, R303: what becomes of a pulse outside the window of an active reference. -/
theorem State.strayed_does (s : State) {m : Nat} (tb : Int) (hm : m < 13) (b : List Int) (hb : b = (tb :: (s.mon m).bad).take 3) (t : State)
    (ht : t = (s.strayed m tb).phaseJump m) :
    t.rd (Reg.REF_PULSE_BAD m) = satAdd (s.rd (Reg.REF_PULSE_BAD m)) 1 ∧
      if (s.updMon m (fun x => { x with bad := b })).jumped m = true then
        (t.mon m).last = some tb ∧ (t.mon m).phaseBad = 16 ∧ (t.mon m).missed = 0 ∧ (t.mon m).hist = [] ∧ t.evSet 38 = true
      else t.mon m = { s.mon m with bad := b } := by
  subst ht
  have kept : (s.strayed m tb).mon m = { s.mon m with bad := b } := by rw [s.strayed_mon, State.mon_updMon_same, hb]
  have judged : (s.strayed m tb).jumped m = (s.updMon m (fun x => { x with bad := b })).jumped m :=
    State.jumped_congr (by rw [kept, State.mon_updMon_same]) (by unfold State.strayed; rw [State.raiseLim_active]; rfl)
  have work : MonWork m (s.strayed m tb) ((s.strayed m tb).phaseJump m) := .phaseJump hm (.refl _)
  refine ⟨?_, ?_⟩
  · rw [work.regs.regs _ (by simp [monRegs, Reg.REF_PULSE_BAD, Reg.REF_DISQ_COUNT, Reg.REF_LAST_FAIL]) (evKey_pulseBad hm),
      s.strayed_counted m tb hm]
  · rw [← judged]
    split
    case isTrue jumps =>
      obtain ⟨event, mon⟩ := State.phaseJump_jumps _ m hm jumps
      rw [kept] at mon
      refine ⟨(Monitor.same_of_unjudged mon Monitor.last fun _ => rfl).trans ?_,
        Monitor.same_of_unjudged mon Monitor.phaseBad fun _ => rfl, Monitor.same_of_unjudged mon Monitor.missed fun _ => rfl,
        Monitor.same_of_unjudged mon Monitor.hist fun _ => rfl, event⟩
      rw [hb]
      rfl
    case isFalse quiet => rw [State.phaseJump_quiet _ m (Bool.eq_false_iff.mpr quiet), kept]

/-- R301, R302: a pulse of an inactive reference of which no pulse is known is accepted if it is the second of two a second apart. -/
theorem State.pulse_first_does (s : State) {m : Nat} (tb st : Int) (lab : Option Nat) (hm : m < 8) (active : (s.mon m).active = false)
    (last : (s.mon m).last = none) (bad : (s.mon m).bad = []) (t : State) (ht : t = s.pulse m tb st lab) :
    if (∃ c, (s.mon m).cand = some c ∧ (tb - c - psSec).natAbs ≤ (s.ppsWin m).natAbs) then
      (t.mon m).o = offsetOf st lab ∧ (t.mon m).train = (some tb, 0, [], true, (s.mon m).phaseBad - 1, some st.toNat)
    else t.mon m = { s.mon m with cand := some tb } := by
  subst ht
  rw [s.pulse_first m tb st lab active last bad]
  split
  case isTrue near =>
    obtain ⟨c, cand, near⟩ := near
    have train := s.monCand_near m tb hm cand near
    have accepted := (s.monCand m tb).pulseAccept_mon m (by omega) tb st lab
    simp only [Monitor.train, Prod.mk.injEq] at train
    obtain ⟨first, -, -, back, phaseBad, -⟩ := train
    rw [if_pos first]
    rwa [back, phaseBad] at accepted
  case isFalse far =>
    rw [s.monCand_far m tb far, State.mon_updMon_same, last, if_neg nofun, State.mon_updMon_same]

theorem State.pulse_does (s : State) (m : Nat) (tb st : Int) (lab : Option Nat) (t : State) (x : Monitor) (hm : m < 12)
    (ht : t = s.pulse m tb st lab) (hx : x = s.mon m) : (∀ o, o ≠ m → t.mon o = s.mon o) ∧
     let b := (tb :: x.bad).take 3
     let takes : Prop := (t.mon m).last = some tb ∧ (t.mon m).missed = 0 ∧ (t.mon m).bad = [] ∧ (t.mon m).active = true ∧
       (t.mon m).phaseBad = x.phaseBad - 1 ∧ (t.mon m).pulse = some st.toNat ∧ (t.mon m).o = offsetOf st lab
     if x.active = true then match s.predicted m with
       | none => takes
       | some p => if (tb - p).natAbs ≤ (s.ppsWin m).natAbs then takes
         else t.rd (Reg.REF_PULSE_BAD m) = satAdd (s.rd (Reg.REF_PULSE_BAD m)) 1 ∧
           if (s.updMon m (fun x => { x with bad := b })).jumped m = true then
             (t.mon m).last = some tb ∧ (t.mon m).phaseBad = 16 ∧ (t.mon m).missed = 0 ∧ (t.mon m).hist = [] ∧ t.evSet 38 = true
           else t.mon m = { x with bad := b }
     else m < 8 → x.last = none → x.bad = [] →
       if (∃ c, x.cand = some c ∧ (tb - c - psSec).natAbs ≤ (s.ppsWin m).natAbs) then takes
       else t.mon m = { x with cand := some tb } := by
  subst ht hx
  have small : m < 13 := by omega
  refine ⟨fun o ne => s.pulse_ne m tb st lab hm ne, ?_⟩
  intro b takes
  by_cases active : (s.mon m).active = true
  · have taken (near : ∀ p, s.predicted m = some p → (tb - p).natAbs ≤ (s.ppsWin m).natAbs) : takes := by
      have accepted := s.pulseAccept_mon m (by omega) tb st lab
      rw [active, ← s.pulse_near m tb st lab active near] at accepted
      exact State.taken_of_train accepted.1 accepted.2
    rw [if_pos active]
    cases predicted : s.predicted m with
    | none => exact taken fun p h => nomatch predicted.symm.trans h
    | some p =>
      by_cases near : (tb - p).natAbs ≤ (s.ppsWin m).natAbs
      · exact ite_intro_pos near (taken fun q h => by cases predicted.symm.trans h; exact near)
      · refine ite_intro_neg near ?_
        exact s.strayed_does tb small b rfl _ (s.pulse_far m tb st lab small active predicted near)
  · refine ite_intro_neg active fun few last bad => ?_
    refine ite_imp_left ?_ (s.pulse_first_does tb st lab few (Bool.eq_false_iff.mpr active) last bad _ rfl)
    exact fun taken => State.taken_of_train taken.1 taken.2

/-! ### A missing pulse -/

section
variable (s : State) (m : Nat)

/-- R302: the monitor of a reference whose expected pulse is missing. -/
def Monitor.missing (x : Monitor) : Monitor :=
  { x with missed := x.missed + 1, phaseBad := if x.phaseBad = 0 then 0 else 16, owed := false }

/-- R302, R303: what follows a miss, once it is noted and the phase is judged. -/
def State.missEnds (w : State) : State :=
  if m = 12 then w.monLack m
  else if w.losCount m ≤ (w.mon m).missed && decide (m < 8) then w.monLost m
  else w

theorem State.pulseMissed_eq : s.pulseMissed m = ((s.updMon m Monitor.missing).phaseJump m).missEnds m := rfl

theorem MonWork.missEnds {s w : State} {m : Nat} (h : MonWork m s w) (hm : m < 13) : MonWork m s (w.missEnds m) :=
  .ite (h.monLack hm) (.ite (h.monLost hm) h)

theorem State.monLost_last : ((s.monLost m).mon m).last = (s.mon m).last :=
  (Monitor.same_of_unjudged (s.monLost_unjudged m) Monitor.last fun _ => rfl).trans (s.mon m).lost_pulses.1

theorem State.missEnds_last : ((s.missEnds m).mon m).last = (s.mon m).last := by
  unfold State.missEnds
  split
  · unfold State.monLack
    dsimp only
    split
    · rw [State.monLost_last, State.mon_updMon_same]
    · rw [State.mon_updMon_same]
  · split
    · exact s.monLost_last m
    · rfl

theorem State.monLost_active : ((s.monLost m).mon m).active = false :=
  (Monitor.same_of_unjudged (s.monLost_unjudged m) Monitor.active fun _ => rfl).trans (s.mon m).lost_active

theorem State.monLost_missed : ((s.monLost m).mon m).missed = (s.mon m).missed :=
  (Monitor.same_of_unjudged (s.monLost_unjudged m) Monitor.missed fun _ => rfl).trans (s.mon m).lost_pulses.2

/-- R301: a second of TOD without a pulse or a frame counts, and ends activity at LOS_COUNT. -/
theorem State.monLack_does : if s.losCount m ≤ (s.mon m).lack + 1 then ((s.monLack m).mon m).active = false
    else (s.monLack m).mon m = { s.mon m with lack := (s.mon m).lack + 1 } := by
  have counted : (s.updMon m (fun x => { x with lack := x.lack + 1 })).mon m = { s.mon m with lack := (s.mon m).lack + 1 } :=
    State.mon_updMon_same ..
  unfold State.monLack
  extract_lets u
  rw [show u.mon m = _ from counted]
  change if s.losCount m ≤ (s.mon m).lack + 1 then ((if s.losCount m ≤ (s.mon m).lack + 1 then u.monLost m else u).mon m).active = false
    else (if s.losCount m ≤ (s.mon m).lack + 1 then u.monLost m else u).mon m = _
  split
  · exact u.monLost_active m
  · exact counted

/-- R302: what follows a miss that shows no phase jump. -/
theorem State.missEnds_does : if m = 12 then
      if s.losCount 12 ≤ (s.mon m).lack + 1 then ((s.missEnds m).mon 12).active = false
      else (s.missEnds m).mon 12 = { s.mon m with lack := (s.mon m).lack + 1 }
    else if m < 8 ∧ s.losCount m ≤ (s.mon m).missed then
      ((s.missEnds m).mon m).active = false ∧ ((s.missEnds m).mon m).missed = (s.mon m).missed
    else (s.missEnds m).mon m = s.mon m := by
  by_cases tod : m = 12
  · subst tod
    exact s.monLack_does 12
  · have guard : (s.losCount m ≤ (s.mon m).missed && decide (m < 8)) = true ↔ m < 8 ∧ s.losCount m ≤ (s.mon m).missed := by
      simp [and_comm]
    unfold State.missEnds
    simp only [if_neg tod, guard]
    split
    · exact ⟨s.monLost_active m, s.monLost_missed m⟩
    · rfl

/-- R302, R303: what a missing pulse does to its monitor. -/
theorem State.pulseMissed_does (hm : m < 13) (t : State) (ht : t = s.pulseMissed m) (x y : Monitor) (hx : x = s.mon m)
    (hy : y = x.missing) : if (s.updMon m (fun _ => y)).jumped m = true then (t.mon m).last = x.bad.head? ∧ t.evSet 38 = true
      else if m = 12 then
        if s.losCount 12 ≤ x.lack + 1 then (t.mon 12).active = false else t.mon 12 = { y with lack := x.lack + 1 }
      else if m < 8 ∧ s.losCount m ≤ x.missed + 1 then (t.mon m).active = false ∧ (t.mon m).missed = x.missed + 1
      else t.mon m = y := by
  subst ht hx hy
  have noted : (s.updMon m Monitor.missing).mon m = (s.mon m).missing := State.mon_updMon_same ..
  have judged : (s.updMon m (fun _ => (s.mon m).missing)).jumped m = (s.updMon m Monitor.missing).jumped m :=
    State.jumped_congr (by rw [State.mon_updMon_same, noted]) rfl
  rw [judged, State.pulseMissed_eq]
  by_cases jumps : (s.updMon m Monitor.missing).jumped m = true
  · obtain ⟨event, mon⟩ := State.phaseJump_jumps _ m hm jumps
    rw [noted] at mon
    refine ite_intro_pos jumps ⟨?_, ?_⟩
    · rw [State.missEnds_last]
      exact Monitor.same_of_unjudged mon Monitor.last fun _ => rfl
    · exact ((MonWork.refl _).missEnds hm).regs.events 38 (by decide) event
  · refine ite_intro_neg jumps ?_
    rw [State.phaseJump_quiet _ m (Bool.eq_false_iff.mpr jumps)]
    have ends := (s.updMon m Monitor.missing).missEnds_does m
    rw [noted] at ends
    exact ends

end

theorem pulseMissing_does (m : Fin 13) (s : State) : Does (.pulseMissing m) s fun t => match s.predicted m.val with
     | none => t = s
     | some p => if s.refPulses m.val = false then t = s
       else
         let x := s.mon m.val
         let y := { x with missed := x.missed + 1, phaseBad := if x.phaseBad = 0 then 0 else 16, owed := false }
         t.time = (s.advTo ((p + s.ppsWin m.val) / 200).toNat).time ∧ (∀ o, o ≠ m.val → t.mon o = s.mon o) ∧
         if (s.updMon m.val (fun _ => y)).jumped m.val = true then (t.mon m.val).last = x.bad.head? ∧ t.evSet 38 = true
         else if m.val = 12 then
           if s.losCount 12 ≤ x.lack + 1 then (t.mon 12).active = false else t.mon 12 = { y with lack := x.lack + 1 }
         else if m.val < 8 ∧ s.losCount m.val ≤ x.missed + 1 then (t.mon m.val).active = false ∧ (t.mon m.val).missed = x.missed + 1
         else t.mon m.val = y := by
  change ∃ t, execPulseMissing m s = .next t ∧ _
  unfold execPulseMissing
  cases s.predicted m.val with
  | none => exact ⟨s, rfl, rfl⟩
  | some p =>
    cases pulses : s.refPulses m.val with
    | false => exact ⟨s, rfl, ite_intro_pos rfl rfl⟩
    | true =>
      obtain ⟨u, hu⟩ : ∃ u, u = s.advTo ((p + s.ppsWin m.val) / 200).toNat := ⟨_, rfl⟩
      have mon (o : Nat) : u.mon o = s.mon o := by rw [hu, State.mon_advTo]
      have active : u.active = s.active := by rw [hu, State.advTo_active]
      have los (o : Nat) : u.losCount o = s.losCount o := by unfold State.losCount State.ac; rw [active]
      have work : MonWork m.val u (u.pulseMissed m.val) := .missEnds (.phaseJump m.isLt ((MonWork.refl u).updMon _)) m.isLt
      have does := u.pulseMissed_does m.val m.isLt _ rfl _ _ rfl rfl
      have judged (y : Monitor) : (u.updMon m.val fun _ => y).jumped m.val = (s.updMon m.val fun _ => y).jumped m.val :=
        State.jumped_congr (by rw [State.mon_updMon_same, State.mon_updMon_same]) active
      rw [mon, los, los, judged] at does
      subst hu
      refine ⟨_, rfl, ite_intro_neg (by decide) ⟨?_, fun o ne => (work.others o ne).trans (mon o), does⟩⟩
      exact (State.pulseMissed_touch (w := 541065729) rfl _ m.val (.refl ..)).same .time rfl

end Sys2Proof.Machine
end

section
/-!
PROOFS. Activity windows and frequency measurements of references, and frames of TOD (R300, R301, R304, R305).
-/

namespace Sys2Proof.Machine

/-! ### Frequency inputs -/

section
variable (s : State) (m : Nat)

/-- R301: the edges of a window are taken from the count, and those after the latest command join the divider's. -/
def State.windowTake (more : Nat) : State := s.updMon m (fun x => { x with winEdges := 0, since := x.since + more })

/-- R301: a window with a count in range, in a run of such windows that began at `since`. -/
def State.windowGood (since : Nat) : State :=
  let u := s.updMon m (fun x => { x with passFrom := some since })
  if since + sTicks ≤ u.time.now then u.monBack m else u

/-- R301: a window with a count out of range. -/
def State.windowBad : State := (s.updMon m (fun x => { x with passFrom := none })).monLost m

theorem State.windowTake_mon (more : Nat) :
    (s.windowTake m more).mon m = { s.mon m with winEdges := 0, since := (s.mon m).since + more } := State.mon_updMon_same ..

theorem MonWork.windowGood {s t : State} {m : Nat} (h : MonWork m s t) (hm : m < 13) (since : Nat) :
    MonWork m s (t.windowGood m since) := .ite ((h.updMon _).monBack hm) (h.updMon _)

theorem MonWork.windowBad {s t : State} {m : Nat} (h : MonWork m s t) (hm : m < 13) : MonWork m s (t.windowBad m) :=
  (h.updMon _).monLost hm

theorem State.monBack_active : ((s.monBack m).mon m).active = true :=
  (Monitor.same_of_unjudged (s.monBack_unjudged m) Monitor.active fun _ => rfl).trans ((s.mon m).back_active m)

/-- R301: a good window keeps the run of good windows, and a second of it gives activity back. -/
theorem State.windowGood_does (since : Nat) (t : State) (ht : t = s.windowGood m since) :
    (t.mon m).winEdges = (s.mon m).winEdges ∧ (t.mon m).since = (s.mon m).since ∧ (t.mon m).passFrom = some since ∧
      (t.mon m).active = ((s.mon m).active || decide (since + sTicks ≤ s.time.now)) := by
  subst ht
  unfold State.windowGood
  extract_lets u
  have noted : u.mon m = { s.mon m with passFrom := some since } := State.mon_updMon_same ..
  rw [State.updMon_time]
  by_cases full : since + sTicks ≤ s.time.now
  · obtain ⟨pass, edges, count⟩ := (u.mon m).back_window m
    have back := u.monBack_unjudged m
    rw [if_pos full, decide_eq_true full, Bool.or_true]
    refine ⟨(Monitor.same_of_unjudged back Monitor.winEdges fun _ => rfl).trans (edges.trans ?_),
      (Monitor.same_of_unjudged back Monitor.since fun _ => rfl).trans (count.trans ?_),
      (Monitor.same_of_unjudged back Monitor.passFrom fun _ => rfl).trans (pass.trans ?_), u.monBack_active m⟩ <;> rw [noted]
  · rw [if_neg full, decide_eq_false full, Bool.or_false, noted]
    exact ⟨rfl, rfl, rfl, rfl⟩

/-- R301: a window out of range ends the run and the activity. -/
theorem State.windowBad_does (t : State) (ht : t = s.windowBad m) :
    (t.mon m).winEdges = (s.mon m).winEdges ∧ (t.mon m).since = (s.mon m).since ∧ (t.mon m).passFrom = none ∧
      (t.mon m).active = false := by
  subst ht
  unfold State.windowBad
  obtain ⟨u, hu⟩ : ∃ u, u = s.updMon m (fun x => { x with passFrom := none }) := ⟨_, rfl⟩
  have noted : u.mon m = { s.mon m with passFrom := none } := by rw [hu, State.mon_updMon_same]
  have lost := u.monLost_unjudged m
  rw [noted] at lost
  rw [← hu]
  obtain ⟨pass, edges, count⟩ := Monitor.lost_window { s.mon m with passFrom := none } rfl
  exact ⟨(Monitor.same_of_unjudged lost Monitor.winEdges fun _ => rfl).trans edges,
    (Monitor.same_of_unjudged lost Monitor.since fun _ => rfl).trans count,
    (Monitor.same_of_unjudged lost Monitor.passFrom fun _ => rfl).trans pass, u.monLost_active m⟩

end

/-- R301: an activity window of an enabled frequency input whose nominal edges are `n` ÷ `d`. -/
theorem execActivityWindow_on (m : Fin 8) (more : Nat) (s : State) {n d : Nat} (en : s.refEn m.val = true)
    (freq : s.refFreq m.val = true) (nominal : s.windowNominal m.val = (n, d)) : execActivityWindow m more s =
      if n ≤ 2 * ((s.mon m.val).winEdges + more) * d ∧ 2 * ((s.mon m.val).winEdges + more) * d ≤ 3 * n then
        .next ((s.windowTake m.val more).windowGood m.val
          ((s.mon m.val).passFrom.getD (s.time.now - s.windowTicks m.val)))
      else .next ((s.windowTake m.val more).windowBad m.val) := by
  have pass : ((s.windowTake m.val more).mon m.val).passFrom = (s.mon m.val).passFrom := by rw [State.windowTake_mon]
  unfold execActivityWindow
  simp only [en, freq, nominal, Bool.not_true, Bool.or_self, Bool.false_eq_true, if_false, Bool.and_eq_true, decide_eq_true_eq]
  rw [← pass]
  rfl

theorem activityWindow_does (m : Fin 8) (more : Nat) (s : State) : Does (.activityWindow m more) s fun t =>
     if s.refEn m.val = true ∧ s.refFreq m.val = true then
       let x := s.mon m.val
       let (n, d) := s.windowNominal m.val
       let since := x.passFrom.getD (s.time.now - s.windowTicks m.val)
       (∀ o, o ≠ m.val → t.mon o = s.mon o) ∧ (t.mon m.val).winEdges = 0 ∧ (t.mon m.val).since = x.since + more ∧
       if n ≤ 2 * (x.winEdges + more) * d ∧ 2 * (x.winEdges + more) * d ≤ 3 * n then (t.mon m.val).passFrom = some since ∧
         (t.mon m.val).active = (x.active || decide (since + sTicks ≤ s.time.now))
       else (t.mon m.val).passFrom = none ∧ (t.mon m.val).active = false
     else t = s := by
  change ∃ t, execActivityWindow m more s = .next t ∧ _
  have hm : m.val < 13 := by omega
  by_cases enabled : s.refEn m.val = true ∧ s.refFreq m.val = true
  · cases nominal : s.windowNominal m.val with
    | mk n d =>
      have run := execActivityWindow_on m more s enabled.1 enabled.2 nominal
      have taken := s.windowTake_mon m.val more
      have work : MonWork m.val s (s.windowTake m.val more) := (MonWork.refl s).updMon _
      by_cases good : n ≤ 2 * ((s.mon m.val).winEdges + more) * d ∧ 2 * ((s.mon m.val).winEdges + more) * d ≤ 3 * n
      · obtain ⟨edges, count, pass, active⟩ := (s.windowTake m.val more).windowGood_does m.val
          ((s.mon m.val).passFrom.getD (s.time.now - s.windowTicks m.val)) _ rfl
        rw [taken] at edges count active
        exact ⟨_, run.trans (if_pos good), ite_intro_pos enabled
          ⟨(work.windowGood hm _).others, edges, count, ite_intro_pos good ⟨pass, active⟩⟩⟩
      · obtain ⟨edges, count, pass, active⟩ := (s.windowTake m.val more).windowBad_does m.val _ rfl
        rw [taken] at edges count
        exact ⟨_, run.trans (if_neg good), ite_intro_pos enabled
          ⟨(work.windowBad hm).others, edges, count, ite_intro_neg good ⟨pass, active⟩⟩⟩
  · refine ⟨s, ?_, ite_intro_neg enabled rfl⟩
    have off : (!s.refEn m.val || !s.refFreq m.val) = true := by
      cases en : s.refEn m.val with
      | false => rfl
      | true => simpa [en] using enabled
    exact if_pos off

/-! ### Frequency measurements -/

/-- R304: the latest measurement of a frequency reference is kept for its second, and the next gate begins. -/
def State.freqNote (s : State) (m : Nat) (df : Int) : State := s.updMon m (fun x => { x with
  hist := (⟨secIdx s.nowPs, s.nowPs, 0, df⟩ :: x.hist).take 1001, gate := x.gate.map (fun _ => x.edgeDt), periods := 0 })

/-- R333: what a measurement leads DPLL0 to leaves the monitors. -/
theorem State.mon_freqSecond (s : State) (m o : Nat) : (s.freqSecond m).mon o = s.mon o := by
  unfold State.mon
  rw [(State.freqSecond_touch (w := 580129409) rfl s m (.refl ..)).same .ref rfl]

theorem State.freqTake_does (s : State) (m : Nat) (f : Int) (t : State) (ht : t = s.freqTake m f) :
    ((t.mon m).df = f ∧ (t.mon m).freqOk = s.freqGood m f) ∧ (t.mon m).periods = 0 ∧
      (t.mon m).gate = (s.mon m).gate.map (fun _ => (s.mon m).edgeDt) ∧
      (t.mon m).hist = (⟨secIdx s.nowPs, s.nowPs, 0, f⟩ :: (s.mon m).hist).take 1001 := by
  subst ht
  have noted : (s.freqNote m f).mon m = { s.mon m with
      hist := (⟨secIdx s.nowPs, s.nowPs, 0, f⟩ :: (s.mon m).hist).take 1001
      gate := (s.mon m).gate.map (fun _ => (s.mon m).edgeDt), periods := 0 } := State.mon_updMon_same ..
  have ends : (s.freqTake m f).mon m = ((s.freqNote m f).monFreq m f true).mon m := State.mon_freqSecond ..
  have good : (s.freqNote m f).freqGood m f = s.freqGood m f := by
    unfold State.freqGood
    rw [noted]
    rfl
  have judged := (s.freqNote m f).monFreq_unjudged m f true
  rw [noted, good] at judged
  rw [ends]
  exact ⟨⟨Monitor.same_of_unjudged judged Monitor.df fun _ => rfl, Monitor.same_of_unjudged judged Monitor.freqOk fun _ => rfl⟩,
    Monitor.same_of_unjudged judged Monitor.periods fun _ => rfl, Monitor.same_of_unjudged judged Monitor.gate fun _ => rfl,
    Monitor.same_of_unjudged judged Monitor.hist fun _ => rfl⟩

theorem freqCheck_does (m : Fin 13) (df : Int) (s : State) : Does (.freqCheck m df) s fun t =>
     let x := s.mon m.val
     let judged (f : Int) : Prop := (t.mon m.val).df = f ∧ (t.mon m.val).freqOk =
       if x.freqOk = true then decide (f.natAbs ≤ fld (s.ac (Reg.REF_LIMITS m.val)) 0 16 * 1000)
       else decide (f.natAbs < fld (s.ac (Reg.REF_LIMITS m.val)) 16 16 * 1000)
     if s.refEn m.val = false ∨ x.active = false then t = s
     else if s.refFreq m.val = true then
       match (if m.val = 11 then some df else s.gateDf m.val) with
       | some f => judged f ∧ (t.mon m.val).periods = 0 ∧ (t.mon m.val).gate = x.gate.map (fun _ => x.edgeDt) ∧
         (t.mon m.val).hist = (⟨secIdx s.nowPs, s.nowPs, 0, f⟩ :: x.hist).take 1001
       | none => t = s
     else match fitDf x.hist with
       | some f => judged f
       | none => t = s := by
  change ∃ t, execFreqCheck m df s = .next t ∧ _
  unfold execFreqCheck
  dsimp only
  have guard : (!s.refEn m.val || !(s.mon m.val).active) = true ↔ s.refEn m.val = false ∨ (s.mon m.val).active = false := by simp
  simp only [guard]
  by_cases off : s.refEn m.val = false ∨ (s.mon m.val).active = false
  · exact ⟨s, if_pos off, ite_intro_pos off rfl⟩
  · simp only [if_neg off]
    by_cases freq : s.refFreq m.val = true
    · simp only [if_pos freq]
      cases (if m.val = 11 then some df else s.gateDf m.val) with
      | none => exact ⟨s, rfl, rfl⟩
      | some f => exact ⟨_, rfl, s.freqTake_does m.val f _ rfl⟩
    · simp only [if_neg freq]
      cases fitDf (s.mon m.val).hist with
      | none => exact ⟨s, rfl, rfl⟩
      | some f => exact ⟨_, rfl, s.monFreq_full m.val f⟩

/-! ### Frames of TOD -/

section
variable (s : State)

theorem State.labelBroken_does (t : State) (ht : t = s.labelBroken 12) :
    (t.mon 12).labelBad = 16 ∧ ((s.mon 12).labelBad = 0 → t.evSet 39 = true) := by
  subst ht
  unfold State.labelBroken
  extract_lets bad u
  have noted : (u.mon 12).labelBad = 16 := by rw [State.mon_updMon_same]
  split
  case isTrue => exact ⟨(Monitor.same_of_unjudged (u.monFail_unjudged ..) Monitor.labelBad fun _ => rfl).trans noted,
    fun _ => u.monFail_evSet 12 (by decide) rfl⟩
  case isFalse other => exact ⟨noted, fun zero => absurd zero other⟩

/-- R300: the pulse that is owed a label takes `lab`. -/
def State.todLabelled (p : Nat) (lab : Nat) : State :=
  let tb := (s.mon 12).last.getD 0
  let u := ((s.monBack 12).labelCheck 12 lab tb).monSample 12 tb (offsetOf p (some lab))
  let v := u.updMon 12 (fun x => { x with owed := false, lack := 0 })
  v.monEval 12

theorem MonWork.todLabelled {s t : State} (h : MonWork 12 s t) (p lab : Nat) : MonWork 12 s (t.todLabelled p lab) :=
  ((((h.monBack (by decide)).labelCheck (by decide) _ _).monSample (by decide) _ _).updMon _).monEval (by decide)

theorem State.todLabelled_mon (p lab : Nat) (t : State) (ht : t = s.todLabelled p lab) : (t.mon 12).owed = false ∧
    (t.mon 12).lack = 0 ∧ (t.mon 12).active = true ∧ (t.mon 12).o = offsetOf p (some lab) := by
  subst ht
  unfold State.todLabelled
  extract_lets tb u v
  obtain ⟨offset, train⟩ := State.monSample_mon ((s.monBack 12).labelCheck 12 lab tb) 12 tb (offsetOf p (some lab))
  have active : (u.mon 12).active = true :=
    (congrArg (fun x => x.2.2.2.1) (train.trans (State.labelCheck_train ..))).trans (s.monBack_active 12)
  have noted : v.mon 12 = { u.mon 12 with owed := false, lack := 0 } := State.mon_updMon_same ..
  have judged := v.monEval_unjudged 12
  rw [noted] at judged
  exact ⟨Monitor.same_of_unjudged judged Monitor.owed fun _ => rfl, Monitor.same_of_unjudged judged Monitor.lack fun _ => rfl,
    (Monitor.same_of_unjudged judged Monitor.active fun _ => rfl).trans active,
    (Monitor.same_of_unjudged judged Monitor.o fun _ => rfl).trans offset⟩

end

/-- R300: what a good frame, with the label `lab`, does once its label stands in the registers. -/
def State.todTake (s : State) (p lab : Nat) : State :=
  if bitAt (s.ac Reg.REF_TOD_CFG) 5 then s.updMon 12 (fun x => { x with next := some lab })
  else if !(s.mon 12).owed then s
  else s.todLabelled p lab

theorem MonWork.todTake {s t : State} (h : MonWork 12 s t) (p lab : Nat) : MonWork 12 s (t.todTake p lab) :=
  .ite (h.updMon _) (.ite h (h.todLabelled p lab))

theorem State.todTake_mon (s : State) (p lab : Nat) (t : State) (ht : t = s.todTake p lab) :
    if bitAt (s.ac Reg.REF_TOD_CFG) 5 = true then t.mon 12 = { s.mon 12 with next := some lab }
    else if (s.mon 12).owed = false then t.mon 12 = s.mon 12
    else (t.mon 12).owed = false ∧ (t.mon 12).lack = 0 ∧ (t.mon 12).active = true ∧
      (t.mon 12).o = offsetOf p (some lab) := by
  subst ht
  unfold State.todTake
  by_cases ahead : bitAt (s.ac Reg.REF_TOD_CFG) 5 = true
  · rw [if_pos ahead, if_pos ahead, State.mon_updMon_same]
  · rw [if_neg ahead, if_neg ahead]
    cases (s.mon 12).owed with
    | false => rfl
    | true => exact s.todLabelled_mon p lab _ rfl

/-- R300: the label of a good frame stands in REF_TOD_LABEL. -/
theorem State.todTake_label (s : State) (p lab : Nat) (t : State) (ht : t = (s.wr64 Reg.REF_TOD_LABEL_LO lab).todTake p lab) :
    t.rd Reg.REF_TOD_LABEL_LO = lo32 lab ∧ t.rd Reg.REF_TOD_LABEL_HI = hi32 lab := by
  subst ht
  have work := (MonWork.refl (s.wr64 Reg.REF_TOD_LABEL_LO lab)).todTake p lab
  rw [work.regs.regs _ (by decide) (by decide), work.regs.regs _ (by decide) (by decide)]
  exact ⟨(State.rd_wr_ne _ _ (by decide)).trans (State.rd_wr_same ..), State.rd_wr_same ..⟩

/-- R300: a frame that arrives in the time of pulse `p`. -/
theorem State.todFrame_due (s : State) (binary : Bool) (l : List Byte) {p : Nat} (pulse : (s.mon 12).pulse = some p)
    (due : ¬ (s.nowSt - p < 10 * stMs ∨ 990 * stMs < s.nowSt - p)) : s.todFrame binary l = match s.todLabel binary l with
      | none => s.labelBroken 12
      | some lab => (s.wr64 Reg.REF_TOD_LABEL_LO (lab % 2 ^ 48)).todTake p (lab % 2 ^ 48) := by
  have inTime : ¬ (decide (s.nowSt - p < 10 * stMs) || decide (990 * stMs < s.nowSt - p)) = true := by simpa using due
  unfold State.todFrame
  rw [pulse]
  exact if_neg inTime

theorem State.todFrame_other (s : State) (binary : Bool) (l : List Byte) (other : ∀ p, (s.mon 12).pulse = some p →
    s.nowSt - p < 10 * stMs ∨ 990 * stMs < s.nowSt - p) : s.todFrame binary l = s := by
  unfold State.todFrame
  cases pulse : (s.mon 12).pulse with
  | none => rfl
  | some p =>
    have late : (decide (s.nowSt - p < 10 * stMs) || decide (990 * stMs < s.nowSt - p)) = true := by simpa using other p pulse
    exact if_pos late

theorem execTodFrame_eq (cas : Bool) (bytes : List Byte) (s : State) : execTodFrame cas bytes s =
    if s.refEn 12 = false ∨ (s.mon 12).cfgErr = true ∨ bitAt (s.ac Reg.REF_TOD_CFG) 0 ≠ cas then .next s
    else .next (s.todFrame (cas || bitAt (s.ac Reg.REF_TOD_CFG) 4) bytes) := by
  unfold execTodFrame
  simp [or_assoc]

theorem todFrame_does (cas : Bool) (bytes : List Byte) (s : State) : Does (.todFrame cas bytes) s fun t =>
     match (s.mon 12).pulse with
     | none => t = s
     | some p =>
       if s.refEn 12 = false ∨ (s.mon 12).cfgErr = true ∨ bitAt (s.ac Reg.REF_TOD_CFG) 0 ≠ cas ∨ s.nowSt - p < 10 * stMs ∨
         990 * stMs < s.nowSt - p then t = s
       else match s.todLabel (cas || bitAt (s.ac Reg.REF_TOD_CFG) 4) bytes with
       | none => (t.mon 12).labelBad = 16 ∧ ((s.mon 12).labelBad = 0 → t.evSet 39 = true)
       | some lab => t.rd Reg.REF_TOD_LABEL_LO = lo32 (lab % 2 ^ 48) ∧ t.rd Reg.REF_TOD_LABEL_HI = hi32 (lab % 2 ^ 48) ∧
         if bitAt (s.ac Reg.REF_TOD_CFG) 5 = true then t.mon 12 = { s.mon 12 with next := some (lab % 2 ^ 48) }
         else if (s.mon 12).owed = false then t.mon 12 = s.mon 12
         else (t.mon 12).owed = false ∧ (t.mon 12).lack = 0 ∧ (t.mon 12).active = true ∧
           (t.mon 12).o = offsetOf p (some (lab % 2 ^ 48)) := by
  change ∃ t, execTodFrame cas bytes s = .next t ∧ _
  rw [execTodFrame_eq]
  by_cases off : s.refEn 12 = false ∨ (s.mon 12).cfgErr = true ∨ bitAt (s.ac Reg.REF_TOD_CFG) 0 ≠ cas
  · refine ⟨s, if_pos off, ?_⟩
    cases (s.mon 12).pulse with
    | none => rfl
    | some p => exact ite_intro_pos (off.imp_right (Or.imp_right .inl)) rfl
  · refine ⟨_, if_neg off, ?_⟩
    cases pulse : (s.mon 12).pulse with
    | none => exact s.todFrame_other _ bytes fun p h => nomatch pulse.symm.trans h
    | some p =>
      by_cases late : s.nowSt - p < 10 * stMs ∨ 990 * stMs < s.nowSt - p
      · refine ite_intro_pos (.inr (.inr (.inr late))) (s.todFrame_other _ bytes fun q h => ?_)
        cases pulse.symm.trans h
        exact late
      · rw [s.todFrame_due _ bytes pulse late]
        refine ite_intro_neg (by tauto) ?_
        cases s.todLabel (cas || bitAt (s.ac Reg.REF_TOD_CFG) 4) bytes with
        | none => exact s.labelBroken_does _ rfl
        | some lab =>
          obtain ⟨low, high⟩ := s.todTake_label p (lab % 2 ^ 48) _ rfl
          have mon := (s.wr64 Reg.REF_TOD_LABEL_LO (lab % 2 ^ 48)).todTake_mon p (lab % 2 ^ 48) _ rfl
          rw [State.mon_wr64, State.ac_wr64] at mon
          exact ⟨low, high, mon⟩

end Sys2Proof.Machine
end

section
/-!
PROOFS. Edges of the reference inputs, and the statement on the monitors (R299–R302).
-/

namespace Sys2Proof.Machine

/-! ### Edges -/

theorem State.freqEdge_does (s : State) (m : Nat) (tb : Int) (more : Nat) (t : State) (x : Monitor) (n k : Nat)
    (ht : t = s.freqEdge m tb more) (hx : x = s.mon m) (hn : n = s.refDivider m) (hk : k = x.since + more + 1) :
    (∀ o, o ≠ m → t.mon o = s.mon o) ∧
     if k % n ≠ 0 then t.mon m = { x with winEdges := x.winEdges + more + 1, since := k }
     else t.mon m = { x with
       winEdges := x.winEdges + more + 1
       since := 0
       edgeDt := s.dtAtPs tb
       gate := some (x.gate.getD (s.dtAtPs tb))
       periods := if x.gate.isSome = true then x.periods + k / n else 0 } := by
  subst ht hx hn hk
  refine ⟨fun o ne => State.mon_updMon_ne _ _ ne, ?_⟩
  unfold State.freqEdge
  dsimp only
  rw [State.mon_updMon_same]
  split
  · rfl
  · cases gate : (s.mon m).gate with
    | none => rfl
    | some g => rfl

/-! ### The command of an edge -/

section
variable {s t : State}

/-- DT at an instant of TBCLK time depends on the time unit alone. -/
theorem State.dtAtPs_congr (time : t.time = s.time) (tb : Int) : t.dtAtPs tb = s.dtAtPs tb := by
  unfold State.dtAtPs State.dtExact
  rw [time]

theorem State.edgeMons_congr (active : t.active = s.active) (err : (t.mon 12).cfgErr = (s.mon 12).cfgErr) (i : Nat) :
    t.edgeMons i = s.edgeMons i := by
  unfold State.edgeMons State.refEn State.refMode State.ac
  rw [active, err]

/-- R300: where an edge feeds two monitors, they are that of its ball and that of TOD. -/
theorem State.edgeMons_two {i a b : Nat} {l : List Nat} (two : s.edgeMons i = a :: b :: l) : a = i ∧ b = 12 ∧ l = [] := by
  unfold State.edgeMons at two
  dsimp only at two
  split at two
  · split at two <;> simp at two
  · split at two <;> split at two <;> simp_all

theorem State.pulse_time (m : Nat) (tb st : Int) (lab : Option Nat) : (s.pulse m tb st lab).time = s.time :=
  (State.pulse_touch (w := 549454337) rfl s m tb st lab (.refl ..)).same .time rfl

end

/-- R535: the watch of CASC_IN for the opening of the bypass. -/
def State.cascWatch (u : State) (i : Fin 9) (high : Bool) : State :=
  if i.val = 8 then { u with serve := { u.serve with cascLowSince := if high then none else some u.time.now } } else u

section
variable (u : State) (i : Fin 9) (high : Bool)

theorem State.cascWatch_time : (u.cascWatch i high).time = u.time := by unfold State.cascWatch; split <;> rfl

theorem State.cascWatch_active : (u.cascWatch i high).active = u.active := by unfold State.cascWatch; split <;> rfl

theorem State.cascWatch_mon (o : Nat) : (u.cascWatch i high).mon o = u.mon o := by unfold State.cascWatch; split <;> rfl

end

/-- R299: the edges of a frequency input join its count. -/
def State.edgeCount (b : State) (i : Fin 9) (at25 more : Nat) : State :=
  if b.refEn i.val = true ∧ i.val < 8 ∧ b.refFreq i.val = true then b.freqEdge i.val (at25 * 25 : Nat) more else b

section
variable (b : State) (i : Fin 9) (at25 more : Nat)

theorem State.freqEdge_parts (m : Nat) (tb : Int) : (b.freqEdge m tb more).time = b.time ∧ (b.freqEdge m tb more).active = b.active := by
  unfold State.freqEdge
  exact ⟨State.updMon_time .., State.updMon_active ..⟩

theorem State.edgeCount_time : (b.edgeCount i at25 more).time = b.time := by
  unfold State.edgeCount
  split
  · exact (b.freqEdge_parts more ..).1
  · rfl

theorem State.edgeCount_active : (b.edgeCount i at25 more).active = b.active := by
  unfold State.edgeCount
  split
  · exact (b.freqEdge_parts more ..).2
  · rfl

theorem State.edgeCount_congr {s : State} (active : b.active = s.active) : b.edgeCount i at25 more =
    if s.refEn i.val = true ∧ i.val < 8 ∧ s.refFreq i.val = true then b.freqEdge i.val (at25 * 25 : Nat) more else b := by
  unfold State.edgeCount State.refEn State.refFreq State.refMode State.ac
  rw [active]

theorem State.edgeCount_err : ((b.edgeCount i at25 more).mon 12).cfgErr = (b.mon 12).cfgErr := by
  unfold State.edgeCount
  split
  case isTrue counts => rw [(b.freqEdge_does i.val _ more _ _ _ _ rfl rfl rfl rfl).1 12 (by omega)]
  case isFalse => rfl

end

/-- R302: the edge at `tb` feeds its monitors. -/
def State.edgeFeed (b : State) (ms : List Nat) (tb : Int) : State := ms.foldl (fun s m => s.pulse m tb (s.dtAtPs tb) none) b

theorem State.edgeFeed_time (b : State) (ms : List Nat) (tb : Int) : (b.edgeFeed ms tb).time = b.time :=
  List.foldlRecOn (motive := fun t : State => t.time = b.time) ms _ rfl fun _ h _ _ => (State.pulse_time ..).trans h

/-- R302: what runs at an edge. -/
theorem execRefEdge_eq (i : Fin 9) (at25 : Nat) (run : EdgeRun) (s b : State)
    (hb : b = (s.advTo (at25 / 8)).cascWatch i run.high) (tb : Int)
    (htb : tb = ((at25 * 25 : Nat) : Int) - (if i.val < 8 then sfld (s.ac (Reg.REF_IN_DELAY i.val)) 0 32 else 0)) :
    execRefEdge i at25 run s = if run.high = (decide (i.val < 8) && bitAt (s.ac (Reg.REF_CFG i.val)) 3) then .next b
      else .next ((b.edgeCount i at25 run.more).edgeFeed (s.edgeMons i.val) tb) := by
  have active : b.active = s.active := by rw [hb, State.cascWatch_active, State.advTo_active]
  have ac (a : Nat) : b.ac a = s.ac a := by unfold State.ac; rw [active]
  have mons : (b.edgeCount i at25 run.more).edgeMons i.val = s.edgeMons i.val :=
    State.edgeMons_congr ((b.edgeCount_active i at25 run.more).trans active)
      ((b.edgeCount_err i at25 run.more).trans (by rw [hb, State.cascWatch_mon, State.mon_advTo])) _
  have delay (a : Nat) : (b.edgeCount i at25 run.more).ac a = s.ac a := by
    unfold State.ac
    rw [b.edgeCount_active i at25 run.more, active]
  have guard : (b.refEn i.val && decide (i.val < 8) && b.refFreq i.val) = true ↔
      b.refEn i.val = true ∧ i.val < 8 ∧ b.refFreq i.val = true := by simp [and_assoc]
  unfold execRefEdge
  dsimp only
  rw [← State.cascWatch, ← hb]
  simp only [guard, beq_iff_eq, ac]
  rw [← State.edgeCount, delay, mons, ← htb]
  rfl

/-- R299, R302: what an edge does, by the state `b` after the watch on CASC_IN and the state `b'` after the count of edges. -/
theorem refEdge_run (i : Fin 9) (at25 : Nat) (run : EdgeRun) (s u : State) (hu : u = s.advTo (at25 / 8)) (b b' : State)
    (hb : b = u.cascWatch i run.high) (hb' : b' = b.edgeCount i at25 run.more) (tb : Int)
    (htb : tb = ((at25 * 25 : Nat) : Int) - (if i.val < 8 then sfld (s.ac (Reg.REF_IN_DELAY i.val)) 0 32 else 0)) :
    Does (.refEdge i at25 run) s fun t => t.time = u.time ∧
      if run.high = (decide (i.val < 8) && bitAt (s.ac (Reg.REF_CFG i.val)) 3) then t = b
      else match s.edgeMons i.val with
        | [] => t = b'
        | [m] => t = b'.pulse m tb (u.dtAtPs tb) none
        | _ => t = (b'.pulse i.val tb (u.dtAtPs tb) none).pulse 12 tb (u.dtAtPs tb) none := by
  change ∃ t, execRefEdge i at25 run s = .next t ∧ _
  have watched : b.time = u.time := by rw [hb, State.cascWatch_time]
  have counted : b'.time = u.time := by rw [hb', State.edgeCount_time, watched]
  rw [execRefEdge_eq i at25 run s b (by rw [hb, hu]) tb htb, ← hb']
  by_cases other : run.high = (decide (i.val < 8) && bitAt (s.ac (Reg.REF_CFG i.val)) 3)
  · exact ⟨b, if_pos other, watched, ite_intro_pos other rfl⟩
  · refine ⟨_, if_neg other, (State.edgeFeed_time ..).trans counted, ite_intro_neg other ?_⟩
    have first := State.dtAtPs_congr counted tb
    rcases fed : s.edgeMons i.val with _ | ⟨m, _ | ⟨n, l⟩⟩
    · rfl
    · dsimp only [State.edgeFeed, List.foldl_cons, List.foldl_nil]
      rw [first]
    · obtain ⟨rfl, rfl, rfl⟩ := State.edgeMons_two fed
      dsimp only [State.edgeFeed, List.foldl_cons, List.foldl_nil]
      rw [State.dtAtPs_congr (State.pulse_time ..), first]

theorem refEdge_does (i : Fin 9) (at25 : Nat) (run : EdgeRun) (s u : State) (hu : u = s.advTo (at25 / 8)) :
    Does (.refEdge i at25 run) s fun t =>
     let b : State := if i.val = 8 then
       { u with serve := { s.serve with cascLowSince := if run.high = true then none else some u.time.now } } else u
     let b' : State := if s.refEn i.val = true ∧ i.val < 8 ∧ s.refFreq i.val = true then b.freqEdge i.val (at25 * 25 : Nat) run.more else b
     let tb : Int := ((at25 * 25 : Nat) : Int) - (if i.val < 8 then sfld (s.ac (Reg.REF_IN_DELAY i.val)) 0 32 else 0)
     t.time = u.time ∧
     if run.high = (decide (i.val < 8) && bitAt (s.ac (Reg.REF_CFG i.val)) 3) then t = b
     else match s.edgeMons i.val with
       | [] => t = b'
       | [m] => t = b'.pulse m tb (u.dtAtPs tb) none
       | _ => t = (b'.pulse i.val tb (u.dtAtPs tb) none).pulse 12 tb (u.dtAtPs tb) none := by
  have serve : u.serve = s.serve := by rw [hu, State.advTo_serve]
  have active : (u.cascWatch i run.high).active = s.active := by rw [State.cascWatch_active, hu, State.advTo_active]
  refine refEdge_run i at25 run s u hu _ _ ?_ ?_ _ rfl
  · rw [← serve]; rfl
  · rw [← serve]
    exact ((u.cascWatch i run.high).edgeCount_congr i at25 run.more active).symm

/-- Settles O38: by one theorem for each clause, over the branches of its meaning. -/
theorem refMonitors : Obligations.RefMonitors :=
  ⟨refEdge_does, State.freqEdge_does, State.pulse_does, pulseMissing_does, activityWindow_does, freqCheck_does, todFrame_does⟩

end Sys2Proof.Machine
end

section
/-!
PROOFS. The end of wait-to-restore, and its clearing (R309, R310).
-/

namespace Sys2Proof.Machine

/-! ### Wait-to-restore -/

/-- R308, R309: the monitor of a reference that becomes QUALIFIED. -/
def Monitor.restored (x : Monitor) : Monitor := { x with state := .qualified, wtrEnd := none, wtrLeft := 0 }

section
variable (s : State) (m : Nat)

theorem State.wtrDone_same : (s.wtrDone m).mon m = (s.mon m).restored := by
  unfold State.wtrDone
  rw [State.mon_refChanged, State.mon_raise, State.mon_updMon_same]
  rfl

theorem State.wtrDone_ne {o : Nat} (ne : o ≠ m) : (s.wtrDone m).mon o = s.mon o := by
  unfold State.wtrDone
  rw [State.mon_refChanged, State.mon_raise, State.mon_updMon_ne _ _ ne]

/-- R309, R318: EV032 stands, and the selector is to look again. -/
def State.Restores (t : State) : Prop := t.ref.evalDue = true ∧ t.evSet 32 = true

theorem State.wtrDone_restores : (s.wtrDone m).Restores := ⟨rfl, State.raise_evSet _ 32 (by decide)⟩

theorem State.wtrDone_time : (s.wtrDone m).time = s.time :=
  (State.wtrDone_touch (w := 541065729) rfl s m (.refl ..)).same .time rfl

end

theorem wtrExpire_does (m : Fin 13) (s : State) : Does (.wtrExpire m) s fun t => match (s.mon m.val).wtrEnd with
     | none => t = s
     | some e => t.time = (s.advDt e).time ∧ t.ref.evalDue = true ∧ t.evSet 32 = true ∧ (∀ k, k ≠ m.val → t.mon k = s.mon k) ∧
       t.mon m.val = { s.mon m.val with state := .qualified, wtrEnd := none, wtrLeft := 0 } := by
  change ∃ t, execWtrExpire m s = .next t ∧ _
  unfold execWtrExpire
  cases (s.mon m.val).wtrEnd with
  | none => exact ⟨s, rfl, rfl⟩
  | some e =>
    obtain ⟨due, event⟩ := (s.advDt e).wtrDone_restores m.val
    refine ⟨_, rfl, State.wtrDone_time .., due, event, fun k ne => ?_, ?_⟩
    · rw [State.wtrDone_ne _ _ ne, State.mon_advDt]
    · rw [State.wtrDone_same, State.mon_advDt]
      rfl

/-- R310: whether reference `m` is named by CLEAR_WTR while its wait runs. -/
def State.clears (s : State) (mask m : Nat) : Bool := mask.testBit m && (s.mon m).state == .wtr && (s.mon m).wtrEnd.isSome

/-- R310: CLEAR_WTR at one reference. -/
def State.clearOne (mask : Nat) (s : State) (m : Nat) : State := if s.clears mask m then s.wtrDone m else s

section
variable (mask : Nat) (s : State) (m : Nat)

theorem State.clearOne_ne {o : Nat} (ne : o ≠ m) : (s.clearOne mask m).mon o = s.mon o := by
  unfold State.clearOne
  split
  · exact s.wtrDone_ne m ne
  · rfl

theorem State.clearOne_same : (s.clearOne mask m).mon m = if s.clears mask m then (s.mon m).restored else s.mon m := by
  unfold State.clearOne
  split
  · exact s.wtrDone_same m
  · rfl

theorem State.clearOne_restores (h : s.Restores) : (s.clearOne mask m).Restores := by
  unfold State.clearOne
  split
  · exact s.wtrDone_restores m
  · exact h

end

theorem State.clearOne_clears (mask : Nat) (s : State) {m a : Nat} (ne : m ≠ a) :
    (s.clearOne mask a).clears mask m = s.clears mask m := by
  unfold State.clears
  rw [State.clearOne_ne _ _ _ ne]

/-- CLEAR_WTR at a list of references without repetition: each is restored as it would be alone. -/
theorem State.clearList_mon (mask : Nat) (l : List Nat) (once : l.Nodup) (s : State) (m : Nat) :
    (l.foldl (State.clearOne mask) s).mon m = if m ∈ l ∧ s.clears mask m = true then (s.mon m).restored else s.mon m := by
  induction l generalizing s with
  | nil => simp
  | cons a l ih =>
    obtain ⟨fresh, rest⟩ := List.nodup_cons.mp once
    rw [List.foldl_cons, ih rest]
    by_cases here : m = a
    · subst here
      rw [if_neg (fun h => fresh h.1), State.clearOne_same]
      simp
    · rw [State.clearOne_ne _ _ _ here, State.clearOne_clears _ _ here]
      simp [here]

theorem State.clearList_restores (mask : Nat) (l : List Nat) (s : State) {m : Nat} (named : m ∈ l)
    (clears : s.clears mask m = true) : (l.foldl (State.clearOne mask) s).Restores := by
  induction l generalizing s with
  | nil => cases named
  | cons a l ih =>
    rw [List.foldl_cons]
    by_cases here : m = a
    · subst here
      have first : (s.clearOne mask m).Restores := by
        unfold State.clearOne
        rw [if_pos clears]
        exact s.wtrDone_restores m
      exact List.foldlRecOn (motive := State.Restores) l _ first fun t h k _ => t.clearOne_restores mask k h
    · exact ih _ (List.mem_of_ne_of_mem here named) ((State.clearOne_clears mask s here).trans clears)

theorem State.clearWtr_refused (s : State) {w : Master} (mask : Nat) (refused : w = .pf0 ∨ w = .spi) :
    s.clearWtr w mask = s.raise 40 := if_pos (by simpa using refused)

theorem State.clearWtr_allowed (s : State) {w : Master} (mask : Nat) (allowed : ¬ (w = .pf0 ∨ w = .spi)) :
    s.clearWtr w mask = (List.range 13).foldl (State.clearOne mask) (s.advTo (s.cclkAfter 1)) := if_neg (by simpa using allowed)

theorem clearWtr_does (w : Master) (mask : BitVec 13) (s : State) : Does (.clearWtr w mask) s fun t =>
     if w = .pf0 ∨ w = .spi then EvOnly s t ∧ t.evSet 40 = true
     else
       let done (m : Nat) := decide (m < 13) && mask.toNat.testBit m && decide ((s.mon m).state = .wtr) && (s.mon m).wtrEnd.isSome
       t.time = (s.advTo (s.cclkAfter 1)).time ∧
       ((∃ m, done m = true) → t.ref.evalDue = true ∧ t.evSet 32 = true) ∧
       ∀ m, t.mon m = if done m = true then { s.mon m with state := .qualified, wtrEnd := none, wtrLeft := 0 } else s.mon m := by
  change ∃ t, execClearWtr w mask s = .next t ∧ _
  unfold execClearWtr
  by_cases refused : w = .pf0 ∨ w = .spi
  · rw [s.clearWtr_refused mask.toNat refused]
    exact ⟨_, rfl, ite_intro_pos refused ⟨s.raise_evOnly 40 (by decide), s.raise_evSet 40 (by decide)⟩⟩
  · rw [s.clearWtr_allowed mask.toNat refused]
    refine ⟨_, rfl, ite_intro_neg refused ?_⟩
    intro done
    have named (m : Nat) : done m = true ↔ m ∈ List.range 13 ∧ (s.advTo (s.cclkAfter 1)).clears mask.toNat m = true := by
      simp [done, State.clears, and_assoc]
    refine ⟨?_, fun ⟨m, h⟩ => ?_, fun m => ?_⟩
    · refine List.foldlRecOn (motive := fun t : State => t.time = (s.advTo (s.cclkAfter 1)).time) _ _ rfl fun t h k _ => ?_
      unfold State.clearOne
      split
      · exact (t.wtrDone_time k).trans h
      · exact h
    · obtain ⟨range, clears⟩ := (named m).mp h
      exact State.clearList_restores mask.toNat _ _ range clears
    · simp only [named]
      exact (State.clearList_mon mask.toNat _ List.nodup_range _ m).trans (by rw [State.mon_advTo]; rfl)

end Sys2Proof.Machine
end

section
/-!
PROOFS. Cross-checks: votes, unresolved disagreements and the judgement of the references (R312, R313).
-/

namespace Sys2Proof.Machine

/-! ### Cross-checks -/

/-- What a step at one element of a list brings about, and every step keeps, holds at the end. -/
theorem foldl_reaches {α : Type} {P : State → Prop} {f : State → α → State} {l : List α} {a : α} (named : a ∈ l)
    (sets : ∀ t, P (f t a)) (keeps : ∀ t b, b ∈ l → P t → P (f t b)) (s : State) : P (l.foldl f s) := by
  obtain ⟨before, after, rfl⟩ := List.append_of_mem named
  rw [List.foldl_append, List.foldl_cons]
  exact List.foldlRecOn after f (sets _) fun t h b later => keeps t b (by simp [later]) h

/-- R313: a pair with its votes is resolved against the reference with fewer. -/
def State.resolve (s : State) (j : (Nat × Nat) × Nat × Nat) : State :=
  if j.2.1 < j.2.2 then s.outvote j.1.1 j.1.2 else if j.2.2 < j.2.1 then s.outvote j.1.2 j.1.1 else s

/-- R313: an unresolved disagreement is shown, with EV036 where it did not stand in `s₀`. -/
def State.disagreeNote (s₀ s : State) (p : Nat × Nat) : State :=
  let u : State := { s with ref := { s.ref with
    disA := p.1, disB := p.2, disPhase := (s₀.compare p.1 p.2).freq != some false } }
  if !s₀.ref.disPairs.contains p then u.raise 36 else u

/-- R313, R319: reference `m` is marked where it has a part in one of the unresolved disagreements. -/
def State.marked (s : State) (m : Nat) (unresolved : List (Nat × Nat)) : State :=
  let d := unresolved.any (fun p => p.1 == m || p.2 == m)
  if (s.mon m).disagree = d then s else (s.updMon m (fun x => { x with disagree := d })).refChanged

/-- R313: reference `m` is marked and judged. -/
def State.disagreeMark (unresolved : List (Nat × Nat)) (s : State) (m : Nat) : State := (s.marked m unresolved).monEval m

/-- R312, R313: the cross-check up to its votes, for the pairs that disagree with their votes. -/
def State.xVoted (s : State) (judged : List ((Nat × Nat) × Nat × Nat)) : State :=
  judged.foldl State.resolve ((List.range 13).foldl State.xRecover s)

/-- R313: the unresolved disagreements become known. -/
def State.xShown (s₀ s : State) (unresolved : List (Nat × Nat)) : State :=
  let u := unresolved.foldl s₀.disagreeNote s
  { u with ref := { u.ref with disPairs := unresolved } }

/-- R309, R313: the references are judged with the unresolved disagreements. -/
def State.xJudged (s : State) (unresolved : List (Nat × Nat)) : State :=
  (List.range 13).foldl State.wtrSync ((List.range 13).foldl (State.disagreeMark unresolved) s)

theorem execXcheck_eq (s : State) (bad unresolved : List (Nat × Nat)) (hb : bad = s.xPairs.filter (fun p => !(s.compare p.1 p.2).within))
    (hu : unresolved = bad.filter (fun p => (s.votes p.1 p.2).1 == (s.votes p.1 p.2).2)) : execXcheck s =
      .next ((s.xShown (s.xVoted (bad.map (fun p => (p, s.votes p.1 p.2)))) unresolved).xJudged unresolved) := by
  have split : unresolved = ((bad.map (fun p => (p, s.votes p.1 p.2))).filter (fun j => j.2.1 == j.2.2)).map (·.1) := by
    rw [hu, List.filter_map, List.map_map]
    exact (List.map_id _).symm
  rw [split, hb]
  rfl

/-- R313: reference `m` is failed by the cross-check, outvoted by `w`. -/
def State.Outvoted (t : State) (m w : Nat) : Prop := (t.mon m).xfail = true ∧ w ∈ (t.mon m).winners

section
variable (s : State)

theorem State.outvote_outvoted (m w : Nat) : (s.outvote m w).Outvoted m w := by
  unfold State.Outvoted State.outvote
  rw [State.mon_updMon_same]
  refine ⟨rfl, ?_⟩
  dsimp only
  split
  case isTrue known => exact List.contains_iff_mem.mp known
  case isFalse => exact List.mem_cons_self

theorem State.outvote_keeps {m w : Nat} (h : s.Outvoted m w) (k v : Nat) : (s.outvote k v).Outvoted m w := by
  obtain ⟨failed, won⟩ := h
  unfold State.Outvoted State.outvote
  by_cases here : m = k
  · subst here
    rw [State.mon_updMon_same]
    refine ⟨rfl, ?_⟩
    dsimp only
    split
    · exact won
    · exact List.mem_cons_of_mem _ won
  · rw [State.mon_updMon_ne _ _ here]
    exact ⟨failed, won⟩

theorem State.resolve_keeps {m w : Nat} (h : s.Outvoted m w) (j : (Nat × Nat) × Nat × Nat) : (s.resolve j).Outvoted m w := by
  unfold State.resolve
  split
  · exact s.outvote_keeps h ..
  · split
    · exact s.outvote_keeps h ..
    · exact h

/-- R313: a pair with unequal votes leaves the reference with fewer outvoted by the other. -/
theorem State.xVoted_outvoted {judged : List ((Nat × Nat) × Nat × Nat)} {a b u v : Nat} (pair : ((a, b), u, v) ∈ judged) :
    (u < v → (s.xVoted judged).Outvoted a b) ∧ (v < u → (s.xVoted judged).Outvoted b a) := by
  refine ⟨fun fewer => ?_, fun fewer => ?_⟩
  · refine foldl_reaches pair (fun t => ?_) (fun t j _ h => t.resolve_keeps h j) _
    unfold State.resolve
    rw [if_pos fewer]
    exact t.outvote_outvoted a b
  · refine foldl_reaches pair (fun t => ?_) (fun t j _ h => t.resolve_keeps h j) _
    unfold State.resolve
    rw [if_neg (Nat.lt_asymm fewer), if_pos fewer]
    exact t.outvote_outvoted b a

theorem State.disagreeNote_mon (t : State) (p : Nat × Nat) (o : Nat) : (s.disagreeNote t p).mon o = t.mon o := by
  unfold State.disagreeNote
  dsimp only
  split
  · rw [State.mon_raise]; rfl
  · rfl

theorem State.disagreeNote_events (t : State) (p : Nat × Nat) : KeepsEvents t (s.disagreeNote t p) := by
  unfold State.disagreeNote
  extract_lets _ u
  have shown : KeepsEvents t u := .of_live rfl
  exact .ite (shown.raise (by decide)) shown

theorem State.xShown_mon (t : State) (unresolved : List (Nat × Nat)) (o : Nat) : (s.xShown t unresolved).mon o = t.mon o :=
  List.foldlRecOn (motive := fun u : State => u.mon o = t.mon o) unresolved s.disagreeNote rfl
    fun u h p _ => (s.disagreeNote_mon u p o).trans h

/-- R313: a new unresolved disagreement raises EV036. -/
theorem State.xShown_event (t : State) {unresolved : List (Nat × Nat)} {p : Nat × Nat} (stands : p ∈ unresolved)
    (fresh : p ∉ s.ref.disPairs) : (s.xShown t unresolved).evSet 36 = true := by
  have told : (unresolved.foldl s.disagreeNote t).evSet 36 = true := by
    refine foldl_reaches (P := fun u : State => u.evSet 36 = true) stands (fun u => ?_)
      (fun u q _ h => s.disagreeNote_events u q 36 (by decide) h) t
    unfold State.disagreeNote
    rw [if_pos (by simpa using fresh)]
    exact State.raise_evSet _ 36 (by decide)
  exact told

end

section
variable (s : State) (m : Nat)

/-- What the cross-check finds of a monitor (R313). -/
def Monitor.standing (x : Monitor) : Bool × List Nat := (x.xfail, x.winners)

theorem State.marked_work (unresolved : List (Nat × Nat)) : MonWork m s (s.marked m unresolved) :=
  .ite (.refl s) (MonWork.of_parts ((MonWork.refl s).updMon (fun x => { x with disagree := _ })) rfl rfl)

theorem State.marked_mon (unresolved : List (Nat × Nat)) : (s.marked m unresolved).mon m =
    { s.mon m with disagree := unresolved.any (fun p => p.1 == m || p.2 == m) } := by
  unfold State.marked
  dsimp only
  split
  case isTrue same => rw [← same]
  case isFalse => rw [State.mon_refChanged, State.mon_updMon_same]

theorem State.marked_pairs (unresolved : List (Nat × Nat)) : (s.marked m unresolved).ref.disPairs = s.ref.disPairs := by
  unfold State.marked
  dsimp only
  split <;> rfl

section
variable (unresolved : List (Nat × Nat))

theorem State.disagreeMark_disagree :
    ((State.disagreeMark unresolved s m).mon m).disagree = unresolved.any (fun p => p.1 == m || p.2 == m) :=
  (Monitor.same_of_unjudged ((s.marked m unresolved).monEval_unjudged m) Monitor.disagree fun _ => rfl).trans
    (by rw [State.marked_mon])

theorem State.disagreeMark_ne {o : Nat} (ne : o ≠ m) : (State.disagreeMark unresolved s m).mon o = s.mon o :=
  (State.monEval_ne _ m ne).trans ((s.marked_work m unresolved).others o ne)

theorem State.disagreeMark_standing (o : Nat) : ((State.disagreeMark unresolved s m).mon o).standing = (s.mon o).standing := by
  by_cases here : o = m
  · subst here
    exact (Monitor.same_of_unjudged ((s.marked o unresolved).monEval_unjudged o) Monitor.standing fun _ => rfl).trans
      (by rw [State.marked_mon]; rfl)
  · rw [s.disagreeMark_ne m unresolved here]

theorem State.disagreeMark_pairs : (State.disagreeMark unresolved s m).ref.disPairs = s.ref.disPairs :=
  (State.monEval_pairs ..).trans (s.marked_pairs m unresolved)

theorem State.disagreeMark_events (hm : m < 13) : KeepsEvents s (State.disagreeMark unresolved s m) :=
  ((s.marked_work m unresolved).monEval hm).regs.events

end

theorem State.wtrSync_field {α : Type} (g : Monitor → α) (free : ∀ x e l, g { x with wtrEnd := e, wtrLeft := l } = g x) (o : Nat) :
    g ((s.wtrSync m).mon o) = g (s.mon o) := by
  by_cases here : o = m
  · subst here
    obtain ⟨e, l, eq⟩ := s.wtrSync_same o
    rw [eq, free]
  · rw [s.wtrSync_ne m here]

theorem State.wtrSync_events : KeepsEvents s (s.wtrSync m) :=
  .of_live ((State.wtrSync_touch (w := 4194304) rfl s m (.refl ..)).same .live rfl)

end

section
variable (s : State) (unresolved : List (Nat × Nat))

/-- What the marks and the judgements of the references keep one by one, they keep together. -/
theorem State.xJudged_keeps {P : State → Prop} (mark : ∀ t m, m < 13 → P t → P (State.disagreeMark unresolved t m))
    (sync : ∀ t m, P t → P (t.wtrSync m)) (h : P s) : P (s.xJudged unresolved) :=
  List.foldlRecOn _ _ (List.foldlRecOn _ _ h fun t k m named => mark t m (List.mem_range.mp named) k) fun t k m _ => sync t m k

theorem State.xJudged_pairs : (s.xJudged unresolved).ref.disPairs = s.ref.disPairs :=
  s.xJudged_keeps unresolved (P := fun t => t.ref.disPairs = s.ref.disPairs)
    (fun t m _ h => (t.disagreeMark_pairs m unresolved).trans h) (fun t m h => (t.wtrSync_pairs m).trans h) rfl

theorem State.xJudged_events : KeepsEvents s (s.xJudged unresolved) :=
  s.xJudged_keeps unresolved (fun t m hm h => h.trans (t.disagreeMark_events m unresolved hm))
    (fun t m h => h.trans (t.wtrSync_events m)) (.refl s)

theorem State.xJudged_standing (o : Nat) : ((s.xJudged unresolved).mon o).standing = (s.mon o).standing :=
  s.xJudged_keeps unresolved (P := fun t => (t.mon o).standing = (s.mon o).standing)
    (fun t m _ h => (t.disagreeMark_standing m unresolved o).trans h)
    (fun t m h => (t.wtrSync_field m Monitor.standing (fun _ _ _ => rfl) o).trans h) rfl

/-- R313, R319: each reference is marked where it has a part in an unresolved disagreement. -/
theorem State.xJudged_disagree {m : Nat} (hm : m < 13) :
    ((s.xJudged unresolved).mon m).disagree = unresolved.any (fun p => p.1 == m || p.2 == m) := by
  refine List.foldlRecOn (motive := fun t : State => (t.mon m).disagree = unresolved.any (fun p => p.1 == m || p.2 == m))
    (List.range 13) State.wtrSync ?_
    fun t h k _ => (t.wtrSync_field k Monitor.disagree (fun _ _ _ => rfl) m).trans h
  have named : m ∈ List.range 13 := List.mem_range.mpr hm
  refine foldl_reaches (P := fun t : State => (t.mon m).disagree = unresolved.any (fun p => p.1 == m || p.2 == m)) named
    (fun t => t.disagreeMark_disagree m unresolved) (fun t k _ h => ?_) s
  by_cases here : m = k
  · subst here
    exact t.disagreeMark_disagree m unresolved
  · rw [t.disagreeMark_ne k unresolved here]
    exact h

end

theorem xcheck_does (s : State) (bad : List (Nat × Nat)) (hb : bad = s.xPairs.filter (fun p => !(s.compare p.1 p.2).within)) :
    Does .xcheck s fun t =>
     t.time = s.time ∧ t.ref.disPairs = bad.filter (fun p => (s.votes p.1 p.2).1 == (s.votes p.1 p.2).2) ∧
     ((∃ p ∈ t.ref.disPairs, p ∉ s.ref.disPairs) → t.evSet 36 = true) ∧
     (∀ m, m < 13 → (t.mon m).disagree = t.ref.disPairs.any (fun p => p.1 == m || p.2 == m)) ∧
     ∀ p ∈ bad, ((s.votes p.1 p.2).1 < (s.votes p.1 p.2).2 → (t.mon p.1).xfail = true ∧ p.2 ∈ (t.mon p.1).winners) ∧
       ((s.votes p.1 p.2).2 < (s.votes p.1 p.2).1 → (t.mon p.2).xfail = true ∧ p.1 ∈ (t.mon p.2).winners) := by
  change ∃ t, execXcheck s = .next t ∧ _
  obtain ⟨unresolved, hu⟩ : ∃ l, l = bad.filter (fun p => (s.votes p.1 p.2).1 == (s.votes p.1 p.2).2) := ⟨_, rfl⟩
  have run := execXcheck_eq s bad unresolved hb hu
  obtain ⟨v, hv⟩ : ∃ v, v = s.xVoted (bad.map (fun p => (p, s.votes p.1 p.2))) := ⟨_, rfl⟩
  obtain ⟨u, shown⟩ : ∃ u, u = s.xShown v unresolved := ⟨_, rfl⟩
  rw [← hv, ← shown] at run
  have work : Touch 541065729 s (u.xJudged unresolved) := execXcheck_touch rfl s (.refl ..) _ run
  have pairs : (u.xJudged unresolved).ref.disPairs = unresolved := (u.xJudged_pairs unresolved).trans (by rw [shown]; rfl)
  have outvoted {m w : Nat} (h : v.Outvoted m w) : (u.xJudged unresolved).Outvoted m w := by
    have standing := u.xJudged_standing unresolved m
    rw [shown, State.xShown_mon, ← shown] at standing
    simp only [Monitor.standing, Prod.mk.injEq] at standing
    unfold State.Outvoted
    rw [standing.1, standing.2]
    exact h
  refine ⟨_, run, work.same .time rfl, pairs.trans hu, ?_, ?_, ?_⟩
  · rw [pairs]
    rintro ⟨p, stands, fresh⟩
    exact u.xJudged_events unresolved 36 (by decide) (by rw [shown]; exact s.xShown_event v stands fresh)
  · rw [pairs]
    exact fun m hm => u.xJudged_disagree unresolved hm
  · intro p named
    obtain ⟨first, second⟩ := s.xVoted_outvoted (judged := bad.map (fun p => (p, s.votes p.1 p.2))) (a := p.1) (b := p.2)
      (List.mem_map.mpr ⟨p, named, rfl⟩)
    rw [← hv] at first second
    exact ⟨fun h => outvoted (first h), fun h => outvoted (second h)⟩

end Sys2Proof.Machine
end

section
/-!
PROOFS. What DPLL0 leaves when it takes a new target (R320, R329, R331, R340).
-/

namespace Sys2Proof.Machine

/-! ### What DPLL0 leaves when it takes a new target -/

/-- The registers that a change of the served time writes, beside event status: PRT_DROP_LINK and SRV_PTP_CANCEL, where grants are
cancelled (R242). -/
def ServedReg (a : Nat) : Prop := (∃ n, a = Reg.PRT_DROP_LINK n) ∨ a = Reg.SRV_PTP_CANCEL

section
variable {s t : State}

/-- An operation that leaves the live registers, after others. -/
theorem RegWork.live {P : Nat → Prop} {u : State} (h : RegWork P s t) (live : u.live = t.live) : RegWork P s u :=
  h.trans (.of_live live)

theorem State.portSignal_regWork (s : State) (n : Nat) (v6 : Bool) (addr : BitVec 128) (tag : Option Nat) (target tlv : List Byte) :
    RegWork ServedReg s (s.portSignal n v6 addr tag target tlv) := by
  have dropped : ServedReg (Reg.PRT_DROP_LINK n) := .inl ⟨n, rfl⟩
  unfold State.portSignal
  dsimp only
  split
  · unfold State.coreSend State.bePush
    dsimp only
    split
    · exact .of_live rfl
    · exact RegWork.wr (.of_live (s := s) (t := s.updPtpPort n _) rfl) _ dropped (evKey_portDropLink n)
  · exact .of_live rfl

theorem State.grantCancelAll_regWork (s : State) : RegWork ServedReg s s.grantCancelAll := by
  refine .foldl (fun t i => .ite (.refl t) ?_) _ s
  refine RegWork.trans (RegWork.foldl (fun u ty => ?_) _ t) (.of_live rfl)
  have cancel : ServedReg Reg.SRV_PTP_CANCEL := .inr rfl
  exact .wr (u.portSignal_regWork _ _ _ _ _ _) _ cancel (by decide)

/-- R161, R239, R242: a change of the served time writes no other register. -/
theorem State.timeStateChange_regWork (s : State) : RegWork ServedReg s s.timeStateChange := by
  unfold State.timeStateChange
  extract_lets _ _ _ s1 v s2 lost _ s3 s4 s5 s6 q _ s7
  have h2 : RegWork ServedReg s s2 := .ite (.of_live rfl) (.of_live rfl)
  have h3 : RegWork ServedReg s s3 := h2.live rfl
  have h4 : RegWork ServedReg s s4 := .ite (h3.raise (by decide)) h3
  have h5 : RegWork ServedReg s s5 := .ite (h4.trans s4.grantCancelAll_regWork) h4
  have h6 : RegWork ServedReg s s6 := .ite h5
    (.raise (t := { s5 with srv := { s5.srv with lastStratum := s5.stratum s5.cfg.gen v } }) (h5.live rfl) (by decide))
  have h7 : RegWork ServedReg s s7 := .ite h6
    (.raise (t := { s6 with ptp := { s6.ptp with lastClass := q.cls1 * 256 + q.cls2 } }) (h6.live rfl) (by decide))
  exact .ite (.raise (t := { s7 with serve := { s7.serve with serving := true, servingAt := s7.time.now, openPending := true } })
    (h7.live rfl)
    (by decide)) h7

end

/-- `t` is `s` after work of DPLL0 at the same instant that writes no registers but those of `ServedReg` and event status, of which it
clears none. -/
structure DpllWork (s t : State) : Prop where
  regs : RegWork ServedReg s t
  now : t.time.now = s.time.now

section
variable {s t u : State}

theorem DpllWork.refl (s : State) : DpllWork s s := ⟨.refl s, rfl⟩

theorem DpllWork.ite {c : Prop} [Decidable c] (h : DpllWork s t) (k : DpllWork s u) : DpllWork s (if c then t else u) := by
  split <;> assumption

/-- An operation that leaves the live registers and the instant. -/
theorem DpllWork.of_parts (h : DpllWork s t) (live : u.live = t.live) (now : u.time.now = t.time.now) : DpllWork s u :=
  ⟨h.regs.live live, now.trans h.now⟩

theorem DpllWork.raise (h : DpllWork s t) {e : Nat} (k : e < 256) : DpllWork s (t.raise e) :=
  ⟨h.regs.raise k, (congrArg _ (State.raise_time ..)).trans h.now⟩

theorem DpllWork.updD (h : DpllWork s t) (f : Dpll0 → Dpll0) : DpllWork s (t.updD f) := h.of_parts rfl rfl

theorem DpllWork.setWord (h : DpllWork s t) (f : Int) : DpllWork s (t.setWord f) := h.of_parts rfl rfl

theorem DpllWork.presetY (h : DpllWork s t) (m : Nat) : DpllWork s (t.presetY m) := h.of_parts rfl rfl

/-- An operation on the clock or on the TIM leaves the registers and the instant. -/
theorem DpllWork.of_touch (h : DpllWork s t) (k : Touch 41943040 t u) : DpllWork s u :=
  h.of_parts (k.same .live rfl) (congrArg TimeSt.now (k.same .time rfl))

theorem DpllWork.noteType (h : DpllWork s t) : DpllWork s t.noteType := h.of_touch (State.noteType_touch rfl t (.refl ..))

theorem DpllWork.noteSegment (h : DpllWork s t) : DpllWork s t.noteSegment.eHoldUpdate :=
  h.of_touch (State.eHoldUpdate_touch rfl _ (State.noteSegment_touch rfl t (.refl ..)))

theorem DpllWork.timeStateChange (h : DpllWork s t) : DpllWork s t.timeStateChange :=
  ⟨h.regs.trans t.timeStateChange_regWork,
    (congrArg TimeSt.now ((State.timeStateChange_touch (w := 546574977) rfl t (.refl ..)).same .time rfl)).trans h.now⟩

/-- R329: the entry of a state of DPLL0 raises events, and may change the served time. -/
theorem DpllWork.dpllEnter (h : DpllWork s t) (x : DpllState) : DpllWork s (t.dpllEnter x) := by
  unfold State.dpllEnter
  extract_lets was first u v w y
  have hv : DpllWork s v := (h.updD _).noteType.raise (by decide)
  have hw : DpllWork s w := .ite (hv.raise (by decide)) (.ite (hv.raise (by decide)) hv)
  have hy : DpllWork s y := .ite (hw.of_touch (State.timUnlocked_touch rfl w (.refl ..)))
    (.ite (hw.of_touch (State.timLocked_touch rfl w (.refl ..))) hw)
  exact .ite h hy.noteSegment.timeStateChange

/-- R331: a DCO word beyond its range raises EV054. -/
theorem DpllWork.dcoUpdate (h : DpllWork s t) : DpllWork s t.dcoUpdate := by
  have loop : DpllWork s (let f := t.loopWord
      if wordMin ≤ f && f ≤ wordMax then (t.updD (fun d => { d with dcoLimit := false })).setWord f
      else
        let excess : Int := if wordMax < f then f - wordMax else f - wordMin
        ((t.updD (fun d => { d with y := d.y - excess * 2 ^ 32, dcoLimit := true, secBad := true })).setWord f).raise 54) :=
    .ite ((h.updD _).setWord _) (((h.updD _).setWord _).raise (by decide))
  unfold State.dcoUpdate
  split
  · exact h.setWord _
  · exact h.setWord _
  · exact loop

theorem DpllWork.holdoverEnter (h : DpllWork s t) : DpllWork s t.holdoverEnter := by
  unfold State.holdoverEnter
  obtain ⟨l, avg, short⟩ := t.agedAverage
  exact .dcoUpdate (.ite (((h.updD _).dpllEnter _).raise (by decide)) ((h.updD _).dpllEnter _))

/-- R320: a new target of DPLL0. -/
theorem State.dpllSelect_work (s : State) (m : Option Nat) : DpllWork s (s.dpllSelect m) := by
  cases m with
  | none =>
    have noted := (DpllWork.refl s).updD (fun d => { d with ref := none, secBad := true })
    unfold State.dpllSelect
    dsimp only
    split
    · exact noted.holdoverEnter
    · exact noted.holdoverEnter
    · exact noted.holdoverEnter
    · exact noted
  | some m =>
    unfold State.dpllSelect
    extract_lets d
    dsimp -zeta only
    extract_lets f u direct changed v
    have hu : DpllWork s u := ((DpllWork.refl s).updD _).presetY m
    have hv : DpllWork s v := ((DpllWork.refl s).updD _).noteType
    exact .ite (hu.dpllEnter _).dcoUpdate
      (.ite (hv.dpllEnter _) (.ite (hv.updD _).noteSegment.timeStateChange (hv.updD _).timeStateChange))

end

end Sys2Proof.Machine
end

section
/-!
PROOFS. The selector, and the statement on the ranking of references (R316–R321).
-/

namespace Sys2Proof.Machine

/-! ### The selector -/

/-- R316–R320: what the selector reads. -/
theorem State.selector_congr {s t : State} (ref : t.ref.mons = s.ref.mons ∧ t.ref.selected = s.ref.selected ∧ t.ref.disPairs = s.ref.disPairs)
    (active : t.active = s.active) (time : t.time = s.time) (unc : t.rd Reg.TSC_RTC_UNC = s.rd Reg.TSC_RTC_UNC) :
    t.eligible = s.eligible ∧ t.selectNow = s.selectNow := by
  obtain ⟨mons, selected, pairs⟩ := ref
  have mon : t.mon = s.mon := by funext m; unfold State.mon; rw [mons]
  have ac : t.ac = s.ac := by funext a; unfold State.ac; rw [active]
  have eligible : t.eligible = s.eligible := by
    funext m
    unfold State.eligible State.aligned State.refMode
    rw [mon, ac, time, unc]
  refine ⟨eligible, ?_⟩
  funext cmt man
  unfold State.selectNow State.bestRef State.disHold State.disMask State.selMode State.manualSel State.refPrio
  rw [mon, ac, eligible, selected, pairs]

/-- R317: the selector looks, with EV042 where the reference of MANUAL_SEL is newly not QUALIFIED. -/
def State.selectorLook (s : State) : State :=
  let lost := s.selMode = 1 && (s.mon s.manualSel).state != .qualified
  let u : State := { s with ref := { s.ref with evalDue := false, manualLost := lost } }
  if lost && !s.ref.manualLost then u.raise 42 else u

/-- R320: reference `m` becomes the selected one, where it is not. -/
def State.selectorTake (s : State) (m : Option Nat) (why : Reason) : State := if m = s.ref.selected then s else s.refSwitch m why

/-- R320: the first finding of no reference, with EV035. -/
def State.selectorNone (s : State) (found : Bool) : State :=
  let u : State := { s with ref := { s.ref with noneRaised := found } }
  if found && !s.ref.noneRaised then u.raise 35 else u

/-- R321: what follows for DPLL1–DPLL3 and their outputs. -/
def State.selectorFollow (s : State) : State := (List.range 8).foldl State.outclkSync ((List.range 3).foldl State.dpllxSync s)

theorem State.selectorEval_eq (s : State) (cmt man : Bool) : s.selectorEval cmt man =
    (((s.selectorLook.selectorTake (s.selectorLook.selectNow cmt man).1 (s.selectorLook.selectNow cmt man).2).selectorNone
      (!((List.range 13).any s.selectorLook.eligible) && (s.selectorLook.selectNow cmt man).1.isNone)).selectorFollow) := rfl

section
variable (s : State)

theorem State.selectorLook_parts : s.selectorLook.time = s.time ∧ s.selectorLook.ref.selected = s.ref.selected ∧
    s.selectorLook.ref.reason = s.ref.reason ∧ s.selectorLook.ref.noneRaised = s.ref.noneRaised := by
  unfold State.selectorLook
  dsimp only
  split
  · rw [State.raise_time, State.raise_ref]
    exact ⟨rfl, rfl, rfl, rfl⟩
  · exact ⟨rfl, rfl, rfl, rfl⟩

theorem State.selectorLook_rd {a : Nat} (ev : evKey a = false) : s.selectorLook.rd a = s.rd a := by
  unfold State.selectorLook
  dsimp only
  split
  · exact State.raise_rd _ 42 a (by decide) ev
  · rfl

/-- R317: what the selector notes of MANUAL_SEL does not change its choice. -/
theorem State.selectorLook_choice : s.selectorLook.eligible = s.eligible ∧ s.selectorLook.selectNow = s.selectNow := by
  refine State.selector_congr ?_ ?_ s.selectorLook_parts.1 (s.selectorLook_rd (by decide))
  · unfold State.selectorLook
    dsimp only
    split
    · rw [State.raise_ref]
      exact ⟨rfl, rfl, rfl⟩
    · exact ⟨rfl, rfl, rfl⟩
  · unfold State.selectorLook
    dsimp only
    split
    · rw [State.raise_active]
    · rfl

end

theorem ServedReg.ne_switches {a : Nat} (h : ServedReg a) : a ≠ Reg.REF_SEL_SWITCHES := by
  rcases h with ⟨n, rfl⟩ | rfl
  · unfold Reg.PRT_DROP_LINK Reg.REF_SEL_SWITCHES
    omega
  · decide

/-- R320: a switch of the reference is noted and counted, with EV034. -/
def State.switchNote (s : State) (m : Option Nat) (why : Reason) : State :=
  (({ s with ref := { s.ref with selected := m, reason := why } } : State).bump Reg.REF_SEL_SWITCHES).raise 34

section
variable (s : State) (m : Option Nat) (why : Reason)

theorem State.refSwitch_eq : s.refSwitch m why = (s.switchNote m why).dpllSelect m := rfl

theorem State.switchNote_ref : (s.switchNote m why).ref = { s.ref with selected := m, reason := why } := by
  unfold State.switchNote
  rw [State.raise_ref, State.bump_ref]

theorem State.refSwitch_ref : (s.refSwitch m why).ref = { s.ref with selected := m, reason := why } := by
  have work : Touch 580129417 (s.switchNote m why) ((s.switchNote m why).dpllSelect m) := State.dpllSelect_touch rfl _ m (.refl ..)
  exact (work.same .ref rfl).trans (s.switchNote_ref m why)

theorem State.refSwitch_now : (s.refSwitch m why).time.now = s.time.now := by
  rw [State.refSwitch_eq, ((s.switchNote m why).dpllSelect_work m).now]
  unfold State.switchNote
  rw [State.raise_time, State.bump_time]

theorem State.refSwitch_counted :
    (s.refSwitch m why).rd Reg.REF_SEL_SWITCHES = satAdd (s.rd Reg.REF_SEL_SWITCHES) 1 ∧ (s.refSwitch m why).evSet 34 = true := by
  have work := ((s.switchNote m why).dpllSelect_work m).regs
  rw [State.refSwitch_eq]
  refine ⟨?_, work.events 34 (by decide) (State.raise_evSet _ 34 (by decide))⟩
  rw [work.regs _ (fun h => h.ne_switches rfl) (by decide)]
  unfold State.switchNote
  rw [State.raise_rd _ 34 _ (by decide) (by decide), State.bump_rd_same]
  rfl

/-- R320: the selector's choice takes effect. -/
theorem State.selectorTake_does (t : State) (ht : t = s.selectorTake m why) :
    t.time.now = s.time.now ∧ t.ref.selected = m ∧ t.ref.noneRaised = s.ref.noneRaised ∧
      if m = s.ref.selected then t.ref.reason = s.ref.reason ∧ t.rd Reg.REF_SEL_SWITCHES = s.rd Reg.REF_SEL_SWITCHES
      else t.ref.reason = why ∧ t.evSet 34 = true ∧ t.rd Reg.REF_SEL_SWITCHES = satAdd (s.rd Reg.REF_SEL_SWITCHES) 1 := by
  subst ht
  unfold State.selectorTake
  split
  case isTrue same => exact ⟨rfl, same.symm, rfl, rfl, rfl⟩
  case isFalse =>
    obtain ⟨count, event⟩ := s.refSwitch_counted m why
    have ref := s.refSwitch_ref m why
    exact ⟨s.refSwitch_now m why, by rw [ref], by rw [ref], by rw [ref], event, count⟩

end

/-- `t` is `s` after work of the selector that is no switch: the selected reference stays, with its reason and the count. -/
structure SelectorKeeps (s t : State) : Prop where
  now : t.time.now = s.time.now
  selected : t.ref.selected = s.ref.selected
  reason : t.ref.reason = s.ref.reason
  regs : RegWork (fun _ => False) s t

section
variable (s : State)

theorem SelectorKeeps.trans {t u : State} (h : SelectorKeeps s t) (k : SelectorKeeps t u) : SelectorKeeps s u :=
  ⟨k.now.trans h.now, k.selected.trans h.selected, k.reason.trans h.reason, h.regs.trans k.regs⟩

theorem State.selectorNone_keeps (found : Bool) : SelectorKeeps s (s.selectorNone found) := by
  unfold State.selectorNone
  extract_lets _ u
  have noted : RegWork (fun _ => False) s u := .of_live rfl
  split
  · exact ⟨by rw [State.raise_time], by rw [State.raise_ref], by rw [State.raise_ref], noted.raise (by decide)⟩
  · exact ⟨rfl, rfl, rfl, noted⟩

theorem State.selectorNone_event (first : s.ref.noneRaised = false) : (s.selectorNone true).evSet 35 = true := by
  unfold State.selectorNone
  rw [first]
  exact State.raise_evSet _ 35 (by decide)

theorem State.outclkSync_keeps (k : Nat) : SelectorKeeps s (s.outclkSync k) := by
  have work : Touch 8388608 s (s.outclkSync k) := State.outclkSync_touch rfl s k (.refl ..)
  have ref : (s.outclkSync k).ref = s.ref := work.same .ref rfl
  exact ⟨congrArg TimeSt.now (work.same .time rfl), congrArg _ ref, congrArg _ ref, .of_live (work.same .live rfl)⟩

theorem State.dpllxSync_keeps (x : Nat) : SelectorKeeps s (s.dpllxSync x) := by
  have work : Touch 813695489 s (s.dpllxSync x) := State.dpllxSync_touch rfl s x (.refl ..)
  have ref : (s.dpllxSync x).ref = s.ref := work.same .ref rfl
  refine ⟨congrArg TimeSt.now (work.same .time rfl), congrArg _ ref, congrArg _ ref, ?_⟩
  unfold State.dpllxSync
  extract_lets c p src good q
  have started : (if p.state = .disabled && q.state != .disabled then s.free else (0, s)).2.live = s.live := by split <;> rfl
  generalize (if p.state = .disabled && q.state != .disabled then s.free else (0, s)) = r at started
  obtain ⟨v, w⟩ := r
  have synced (f : Dpllx → Dpllx) : RegWork (fun _ => False) s (w.updDpllx x f) := .of_live started
  exact .ite (synced _) ((synced _).raise (by decide))

theorem State.selectorFollow_keeps : SelectorKeeps s s.selectorFollow :=
  List.foldlRecOn (motive := SelectorKeeps s) _ _
    (List.foldlRecOn (motive := SelectorKeeps s) _ _ ⟨rfl, rfl, rfl, .refl s⟩ fun t h x _ => h.trans s (t.dpllxSync_keeps x))
    fun t h k _ => h.trans s (t.outclkSync_keeps k)

end

/-- R317–R320: what an evaluation of the selector does. -/
theorem State.selectorEval_does (u t : State) (ht : t = u.selectorEval false false) :
    t.time.now = u.time.now ∧ t.ref.selected = (u.selectNow false false).1 ∧
       (if t.ref.selected = u.ref.selected then t.ref.reason = u.ref.reason ∧
           t.rd Reg.REF_SEL_SWITCHES = u.rd Reg.REF_SEL_SWITCHES
         else t.ref.reason = (u.selectNow false false).2 ∧ t.evSet 34 = true ∧
           t.rd Reg.REF_SEL_SWITCHES = satAdd (u.rd Reg.REF_SEL_SWITCHES) 1) ∧
       (t.ref.selected = none → (∀ m, m < 13 → u.eligible m = false) → u.ref.noneRaised = false → t.evSet 35 = true) := by
  obtain ⟨time, selected, reason, noneRaised⟩ := u.selectorLook_parts
  have counted := u.selectorLook_rd (a := Reg.REF_SEL_SWITCHES) (by decide)
  obtain ⟨eligible, choice⟩ := u.selectorLook_choice
  obtain ⟨v, hv⟩ : ∃ v, v = u.selectorLook.selectorTake (u.selectNow false false).1 (u.selectNow false false).2 := ⟨_, rfl⟩
  obtain ⟨now, chosen, first, switch⟩ := State.selectorTake_does _ _ _ _ hv
  rw [selected, reason, counted] at switch
  rw [State.selectorEval_eq, eligible, choice, ← hv] at ht
  have keeps : SelectorKeeps v t := by
    rw [ht]
    exact SelectorKeeps.trans _ (v.selectorNone_keeps _) (State.selectorFollow_keeps _)
  have selects : t.ref.selected = (u.selectNow false false).1 := keeps.selected.trans chosen
  refine ⟨keeps.now.trans (now.trans (congrArg TimeSt.now time)), selects, ?_, fun none_ idle fresh => ?_⟩
  · rw [keeps.regs.regs _ id (by decide), keeps.reason, selects]
    split at switch
    case isTrue same => exact ite_intro_pos same switch
    case isFalse other =>
      obtain ⟨why, event, count⟩ := switch
      exact ite_intro_neg other ⟨why, keeps.regs.events 34 (by decide) event, count⟩
  · have nobody : (List.range 13).any u.eligible = false := by simpa using idle
    rw [ht, nobody, ← selects, none_]
    exact (State.selectorFollow_keeps _).regs.events 35 (by decide)
      (v.selectorNone_event (first.trans (noneRaised.trans fresh)))

theorem selectorEvaluate_does (s u : State) (hu : u = s.advTo (s.cclkAfter 1)) : Does .selectorEvaluate s fun t =>
     if s.ref.evalDue = false then t = s
     else t.time.now = u.time.now ∧ t.ref.selected = (u.selectNow false false).1 ∧
       (if t.ref.selected = s.ref.selected then t.ref.reason = s.ref.reason ∧
           t.rd Reg.REF_SEL_SWITCHES = s.rd Reg.REF_SEL_SWITCHES
         else t.ref.reason = (u.selectNow false false).2 ∧ t.evSet 34 = true ∧
           t.rd Reg.REF_SEL_SWITCHES = satAdd (s.rd Reg.REF_SEL_SWITCHES) 1) ∧
       (t.ref.selected = none → (∀ m, m < 13 → u.eligible m = false) → s.ref.noneRaised = false → t.evSet 35 = true) := by
  change ∃ t, execSelectorEvaluate s = .next t ∧ _
  unfold execSelectorEvaluate
  rw [← hu]
  have ref : u.ref = s.ref := by rw [hu, State.advTo_ref]
  have regs (a : Nat) : u.rd a = s.rd a := by rw [hu, State.rd_advTo]
  cases due : s.ref.evalDue with
  | false => exact ⟨s, rfl, ite_intro_pos rfl rfl⟩
  | true =>
    have does := u.selectorEval_does _ rfl
    rw [ref, regs] at does
    exact ⟨_, rfl, ite_intro_neg (by decide) does⟩

/-- Settles O39: by one theorem for each clause, over the branches of its meaning. -/
theorem refRanking : Obligations.RefRanking := ⟨wtrExpire_does, clearWtr_does, xcheck_does, selectorEvaluate_does⟩

end Sys2Proof.Machine
end
